-- ==== Sys2Proof/Word.lean ====
section
/-! DEFINITION. The words of the module: bytes, 32- and 64-bit registers, 32-bit floating-point
numbers as bit patterns (R13, R43), sparse tables by number, and raw parameter values. -/

namespace Sys2Proof

/-- A byte. -/
abbrev Byte := BitVec 8

/-- A 32-bit register. -/
abbrev U32 := BitVec 32

/-- A 64-bit register. -/
abbrev U64 := BitVec 64

/-- A 32-bit floating-point number, held as its bits (R13, R43, R286). -/
structure F32 where
  bits : BitVec 32
  deriving DecidableEq, Repr

/-- The number 0. -/
abbrev F32.zero : F32 := ⟨0#32⟩

/-- The number 1. -/
abbrev F32.one : F32 := ⟨0x3F800000#32⟩

/-- A sparse table: entries by number, in rising order of the number. -/
abbrev Tab (α : Type) := List (Nat × α)

/-- A raw parameter value: its fields in the order of its table, each as its unsigned bits. -/
abbrev PVal := List Nat

end Sys2Proof
end

