-- ==== Sys2Proof/Types.lean ====
section
/-! DEFINITION. The parts of the machine's state: one structure per record, table entry or
unit that the chapters of the specification name. Every field carries its width, its rule and what it holds. -/

namespace Sys2Proof

/-- Variants of the module (R1). -/
inductive Variant where
  | q8260 | q8230 | q8200
  deriving DecidableEq, Repr

/-- Roles (R467). -/
inductive Role where
  | none | operator | installer | maker
  deriving DecidableEq, Repr

/-- Source of a command: a submission queue, a management session, or the module itself (R409, R411). -/
inductive Src where
  | none | queue (n : Nat) | session (n : Nat)
  deriving DecidableEq, Repr

/-- State of a handle table entry (R421). -/
inductive HandleState where
  | free | opened | completed
  deriving DecidableEq, Repr

/-- Unit states of a pair (R481), in code order. -/
inductive UnitState where
  | single | starting | active | syncing | synced | demoted
  deriving DecidableEq, Repr

/-- Source of one instance input (R275 section 16#0103, R256). -/
inductive Wire where
  | inst (i out : Nat) (delay : Bool)
  | point (p : Nat)
  | const (v : U32)
  | none
  deriving DecidableEq, Repr

/-- A completion entry (R411). -/
structure Entry where
  /-- HOST_TAG (R411). -/
  tag : U32 := 0#32
  /-- HANDLE (R411). -/
  handle : U32 := 0#32
  /-- STATUS (R411). -/
  status : Nat := 0
  /-- KIND (R411). -/
  kind : Nat := 0
  /-- QUEUE (R411). -/
  queue : Nat := 0
  /-- PHASE bit (R411). -/
  phase : Bool := false
  /-- SQ_HEAD (R411). -/
  sqHead : Nat := 0
  /-- EPOCH (R411). -/
  epoch : Nat := 0
  /-- DETAIL (R411). -/
  detail : Nat := 0
  /-- RESULT_LEN (R411). -/
  resultLen : Nat := 0
  deriving DecidableEq, Repr

/-- Entry at reset. -/
def Entry.reset : Entry := {}

/-- A member of a snapshot or mirror (R437, R438). -/
structure BlkMember where
  /-- KIND (R438). -/
  kind : Nat := 0
  /-- FIRST (R437). -/
  first : Nat := 0
  /-- COUNT (R437). -/
  count : Nat := 0
  deriving DecidableEq, Repr

/-- BlkMember at reset. -/
def BlkMember.reset : BlkMember := {}

/-- Section 1 of a checkpoint (R492). -/
structure CkptParams where
  /-- committed values but those of PAIR_CFG, PORT_CFG, PORT_SEC and KEY_SYS (R492). -/
  vals : Tab PVal := []
  /-- lane banks A (R234). -/
  banksA : Tab PVal := []
  /-- lane banks B (R234). -/
  banksB : Tab PVal := []
  /-- model serial floor (R492). -/
  modelFloor : Nat := 0
  /-- program serial floor (R492). -/
  progFloor : Nat := 0
  /-- firmware serial floor (R492). -/
  fwFloor : Nat := 0
  deriving DecidableEq, Repr

/-- CkptParams at reset. -/
def CkptParams.reset : CkptParams := {}

/-- Section 2 of a checkpoint (R492). -/
structure CkptImages where
  /-- MODEL_KEY in force (R492). -/
  modelKey : U64 := 0#64
  /-- MODEL_SERIAL in force (R492). -/
  modelSerial : Nat := 0
  /-- its bank (R492). -/
  modelBank : Bool := false
  /-- PROGRAM_KEY in force (R492). -/
  progKey : U64 := 0#64
  /-- PROGRAM_SERIAL in force (R492). -/
  progSerial : Nat := 0
  /-- its bank (R492). -/
  progBank : Bool := false
  deriving DecidableEq, Repr

/-- CkptImages at reset. -/
def CkptImages.reset : CkptImages := {}

/-- Point record (R286). -/
structure Point where
  /-- VALUE (R286). -/
  value : F32 := F32.zero
  /-- STATUS (INITIAL is bit 5) (R288). -/
  status : BitVec 16 := 0#16
  /-- AGE, encoded (R287). -/
  age : Nat := 0
  /-- EPOCH (R286). -/
  epoch : Nat := 0
  deriving DecidableEq, Repr

/-- Point at reset. -/
def Point.reset : Point := {}

/-- One accepted segment (R302). -/
structure StnSeg where
  /-- FIRST (R300). -/
  first : Nat := 0
  /-- VALUE, PSTAT and AGE of each entry (R302). -/
  entries : List (F32 × (BitVec 16 × Nat)) := []
  /-- LAST_APPLIED (segment 0) (R302). -/
  lastApplied : Nat := 0
  /-- STN_FLAGS (segment 0) (R302). -/
  flags : BitVec 16 := 0#16
  /-- HIGHEST_CLAIM carried (R300). -/
  claim : Nat := 0
  /-- the segment has been received (R298). -/
  present : Bool := false
  deriving DecidableEq, Repr

/-- StnSeg at reset. -/
def StnSeg.reset : StnSeg := {}

/-- An INPUT frame being collected (R298). -/
structure StnIn where
  /-- sample epoch E (R298). -/
  epoch : Nat := 0
  /-- SEQ (R300). -/
  seq : Nat := 0
  /-- SEG_COUNT (R300). -/
  segCount : Nat := 0
  /-- segments received (R298). -/
  segs : Tab StnSeg := []
  deriving DecidableEq, Repr

/-- StnIn at reset. -/
def StnIn.reset : StnIn := {}

/-- Run-time state of one station (R305, R315 STN_STATUS). -/
structure Stn where
  /-- STATE (R315). -/
  state : Nat := 0
  /-- REASON (R315). -/
  reason : Nat := 0
  /-- STN_FLAGS (R315). -/
  flags : BitVec 16 := 0#16
  /-- LAST_INPUT (R315). -/
  lastInput : Nat := 0
  /-- LAST_APPLIED (R315). -/
  lastApplied : Nat := 0
  /-- HIGHEST_CLAIM (R315). -/
  highestClaim : Nat := 0
  /-- MISSING_FRAMES (R315). -/
  missing : U32 := 0#32
  /-- LOST_COUNT (R315). -/
  lostCount : U32 := 0#32
  /-- the current configuration has been acknowledged (R305). -/
  configured : Bool := false
  /-- JOINING, awaiting inputs (R305). -/
  awaiting : Bool := false
  /-- goes OFFLINE at its next served tick (R294). -/
  rejoinDue : Bool := false
  /-- LOST from its next served tick (R307). -/
  lostDue : Bool := false
  /-- absence detected from C up to IC: the inputs of C are discarded (R307). -/
  discardIn : Bool := false
  /-- the latest served tick (R295). -/
  servedEpoch : Nat := 0
  /-- the latest served tick is island time (R302, R401). -/
  servedIsland : Bool := false
  /-- served ticks since REFUSED (R305). -/
  servedCount : Nat := 0
  /-- the OUTPUT frame of the served tick has been queued (R307). -/
  outQueued : Bool := false
  /-- the condition of R308 has been met while RETURNING (R308). -/
  returnPub : Bool := false
  /-- CFG_CRC of the current configuration (R303). -/
  cfgCrc : U32 := 0#32
  /-- INPUT frame being collected (R298). -/
  inFrame : Option StnIn := none
  /-- SEQ of the next module frame (R300). -/
  txSeq : Nat := 0
  /-- SEQ and SEG taken lately (duplicates of dual homing) (R301). -/
  rxSeqs : List (Nat × Nat) := []
  /-- consecutive frames that failed R304 (R306). -/
  tagFails : Nat := 0
  /-- LAST_APPLIED of the previous claim report (R490). -/
  lastAdvance : Nat := 0
  /-- STN_DEF in force since the last served tick (R294). -/
  cfgDef : PVal := []
  /-- STN_POINTS in force since the last served tick (R294). -/
  cfgPts : PVal := []
  deriving DecidableEq, Repr

/-- Stn at reset. -/
def Stn.reset : Stn := {}

/-- Section 3 of a checkpoint (R492). -/
structure CkptPoints where
  /-- process image records (R492). -/
  pts : Tab Point := []
  /-- station states (R492, R312). -/
  stns : Tab Stn := []
  /-- safe value of each program output point (R492). -/
  safes : List (Nat × F32) := []
  deriving DecidableEq, Repr

/-- CkptPoints at reset. -/
def CkptPoints.reset : CkptPoints := {}

/-- A commitment slot (R129). -/
structure FlexSlot where
  /-- the slot is filled (R129). -/
  filled : Bool := false
  /-- GRID_CONN (R129). -/
  grid : Nat := 0
  /-- BAND_MIN (R129). -/
  bandMin : F32 := F32.zero
  /-- BAND_MAX (R129). -/
  bandMax : F32 := F32.zero
  /-- START (R129). -/
  start : Nat := 0
  /-- END (R129). -/
  stop : Nat := 0
  /-- EXTERNAL_ID (R129). -/
  extId : U32 := 0#32
  /-- acceptance epoch (R120). -/
  acc : Nat := 0
  deriving DecidableEq, Repr

/-- FlexSlot at reset. -/
def FlexSlot.reset : FlexSlot := {}

/-- Quality record (R111). -/
structure Quality where
  /-- STATUS (R111, R112). -/
  status : Nat := 0
  /-- ITERATIONS (R111). -/
  iterations : Nat := 0
  /-- PRIMAL_RES (R111). -/
  primal : F32 := F32.zero
  /-- DUAL_RES (R111). -/
  dual : F32 := F32.zero
  /-- GAP (R111). -/
  gap : F32 := F32.zero
  /-- OBJECTIVE (R111). -/
  objective : F32 := F32.zero
  /-- COST_TERMS (R111). -/
  costTerms : List F32 := []
  /-- EMISSIONS (R111). -/
  emissions : F32 := F32.zero
  /-- FLAGS (R111). -/
  flags : U32 := 0#32
  /-- FAMILY_RES (R111). -/
  familyRes : List F32 := []
  /-- FAMILY_WORST (R111). -/
  familyWorst : List Nat := []
  /-- HELD_SERIES (R111). -/
  heldSeries : Nat := 0xFFFFFFFF
  /-- RELAXED_ELEM (R111). -/
  relaxedElem : Nat := 0xFFFFFFFF
  /-- SOLVE_TIME_US (R111, R142). -/
  timeUs : Nat := 0
  deriving DecidableEq, Repr

/-- Quality at reset. -/
def Quality.reset : Quality := {}

/-- A plan in a plan buffer (R107, R108, R110). -/
structure Plan where
  /-- PLAN_ID (R107). -/
  planId : Nat := 0
  /-- HORIZON_START (R107). -/
  hstart : Nat := 0
  /-- SOLVE_START (R107). -/
  solveStart : Nat := 0
  /-- MODEL_KEY (R107). -/
  modelKey : U64 := 0#64
  /-- MODEL_SERIAL (R107). -/
  modelSerial : Nat := 0
  /-- SOLVE_HANDLE (R107). -/
  handle : U32 := 0#32
  /-- STEP0_TICKS (R107). -/
  step0 : Nat := 0
  /-- STEP_TICKS (R107). -/
  stepTicks : Nat := 0
  /-- STEPS (R107). -/
  steps : Nat := 0
  /-- SCENARIOS (R107). -/
  scenarios : Nat := 0
  /-- NONANT_STEPS (R107). -/
  nonant : Nat := 0
  /-- REF_SCENARIO (R107). -/
  refScen : Nat := 0
  /-- SOLVE_KIND (R107). -/
  kind : Nat := 0
  /-- VAR_COUNT (R107). -/
  varCount : Nat := 0
  /-- LEAP_STEP (R107). -/
  leapStep : Nat := 0xFFFF
  /-- LEAP_KIND (R107). -/
  leapKind : Nat := 0
  /-- trajectory section (R108). -/
  traj : List F32 := []
  /-- price section (R110). -/
  prices : List F32 := []
  /-- quality record (R111). -/
  quality : Quality := {}
  /-- value at which R46 holds each FIXED quantity at the horizon start, by variable position (R116, R46). -/
  fixedVals : Tab F32 := []
  /-- elements out of service in the plan (R116). -/
  oos : Tab Bool := []
  /-- scenario weights of its solve (R82, R196). -/
  weights : List F32 := []
  deriving DecidableEq, Repr

/-- Plan at reset. -/
def Plan.reset : Plan := {}

/-- An input series (R86). -/
structure Series where
  /-- KIND; 0 for a series never committed (R86). -/
  kind : Nat := 0
  /-- START (R86). -/
  start : Nat := 0
  /-- RES_MINUTES (R86). -/
  res : Nat := 0
  /-- COUNT (R86). -/
  count : Nat := 0
  /-- VARIANTS (R86). -/
  variants : Nat := 0
  /-- values per variant (R86). -/
  vals : List (List F32) := []
  deriving DecidableEq, Repr

/-- Series at reset. -/
def Series.reset : Series := {}

/-- Section 6 of a checkpoint (R492). -/
structure CkptPlan where
  /-- plan in force (R492). -/
  inForce : Option Plan := none
  /-- its predecessor (R492). -/
  prev : Option Plan := none
  /-- commitment slots (R492). -/
  slots : Tab FlexSlot := []
  /-- current input series (R492). -/
  series : Tab Series := []
  /-- service state in force (R492, R76). -/
  oos : Tab Bool := []
  deriving DecidableEq, Repr

/-- CkptPlan at reset. -/
def CkptPlan.reset : CkptPlan := {}

/-- Alarm record (R426). -/
structure AlarmRec where
  /-- ALARM_KEY (R426). -/
  key : U64 := 0#64
  /-- STATE 1 ACTIVE_UNACK, 2 ACTIVE_ACK, 3 CLEARED_UNACK (R426). -/
  state : Nat := 0
  /-- PRIORITY (R426). -/
  priority : Nat := 0
  /-- TASK (R426). -/
  task : Nat := 0
  /-- VALUE (R426). -/
  value : F32 := F32.zero
  /-- RAISE_EPOCH (R426). -/
  raiseEpoch : Nat := 0
  /-- CLEAR_EPOCH; 0 while active (R426). -/
  clearEpoch : Nat := 0
  deriving DecidableEq, Repr

/-- AlarmRec at reset. -/
def AlarmRec.reset : AlarmRec := {}

/-- Section 9 of a checkpoint (R492). -/
structure CkptMisc where
  /-- alarm table (R492). -/
  alarms : List AlarmRec := []
  /-- claim number (R492). -/
  claim : Nat := 0
  /-- PLAN_STALE (R492). -/
  stale : Bool := false
  /-- counters of the chapters (R492). -/
  counters : List Nat := []
  deriving DecidableEq, Repr

/-- CkptMisc at reset. -/
def CkptMisc.reset : CkptMisc := {}

/-- A HEARTBEAT message (R486). -/
structure HbMsg where
  /-- UNIT_STATE (R486). -/
  unit : Nat := 0
  /-- PREF (R486). -/
  pref : Nat := 0
  /-- CKPT_CV (R486). -/
  ckptCv : Nat := 0
  /-- GENERATION (R486). -/
  generation : Nat := 0
  /-- FW_VERSION (R486). -/
  fw : U32 := 0#32
  /-- PAIR_FLOOR (R486). -/
  floor : Nat := 0
  /-- FLOOR_PENDING (R486). -/
  floorPend : Nat := 0
  /-- FLOOR_SWITCH (R486). -/
  floorSwitch : Nat := 0
  /-- CKPT_LAST (R486). -/
  ckptLast : Nat := 0
  /-- MODEL_KEY (R486). -/
  modelKey : U64 := 0#64
  /-- MODEL_SERIAL (R486). -/
  modelSerial : Nat := 0
  /-- PROGRAM_SERIAL (R486). -/
  progSerial : Nat := 0
  /-- PROGRAM_KEY (R486). -/
  progKey : U64 := 0#64
  /-- KEY_DIGEST (R486). -/
  keyDigest : U32 := 0#32
  deriving DecidableEq, Repr

/-- HbMsg at reset. -/
def HbMsg.reset : HbMsg := {}

/-- An open firmware load (R526). -/
structure LoadOp where
  /-- its handle (R526). -/
  handle : U32 := 0#32
  /-- acceptance order (R22). -/
  seq : Nat := 0
  deriving DecidableEq, Repr

/-- LoadOp at reset. -/
def LoadOp.reset : LoadOp := {}

/-- A Qualoth message being reassembled (R208, R383). -/
structure SegBuf where
  /-- SRC (R383). -/
  src : Nat := 0
  /-- SEQ (R383). -/
  seq : Nat := 0
  /-- SEG_COUNT (R383). -/
  count : Nat := 0
  /-- LEVEL (R207). -/
  level : Nat := 0
  /-- segments received (R383). -/
  got : List Nat := []
  deriving DecidableEq, Repr

/-- SegBuf at reset. -/
def SegBuf.reset : SegBuf := {}

/-- A curve or profile table (R61). -/
structure ModelTab where
  /-- TABLE_NO (R61). -/
  no : Nat := 0
  /-- KIND (R61). -/
  kind : Nat := 0
  /-- (x, y) pairs (R61). -/
  pairs : List (F32 × F32) := []
  deriving DecidableEq, Repr

/-- ModelTab at reset. -/
def ModelTab.reset : ModelTab := {}

/-- A network model as a bank holds it (R41, R65). -/
structure NetModel where
  /-- MODEL_SERIAL (R65). -/
  serial : Nat := 0
  /-- MODEL_KEY (R65). -/
  key : U64 := 0#64
  /-- VAR_COUNT (R63, R65). -/
  varCount : Nat := 0
  /-- SIG_KEY_LABEL (R65). -/
  sigLabel : U64 := 0#64
  /-- element records, by type code and index (R45). -/
  elems : List (List Byte) := []
  /-- tables (R61). -/
  tabs : List ModelTab := []
  deriving DecidableEq, Repr

/-- NetModel at reset. -/
def NetModel.reset : NetModel := {}

/-- An open model load or activation (R68). -/
structure ModelOp where
  /-- 1 load, 2 activation (R68). -/
  kind : Nat := 0
  /-- its handle (R69). -/
  handle : U32 := 0#32
  /-- HOST_TAG (R75). -/
  tag : U32 := 0#32
  /-- acceptance order (R22). -/
  seq : Nat := 0
  /-- KEEP_CALIBRATION (R74). -/
  keepCal : Bool := false
  /-- handle of the activation cold solve (R127). -/
  solveHandle : U32 := 0#32
  /-- the cold solve has started (R73). -/
  solved : Bool := false
  deriving DecidableEq, Repr

/-- ModelOp at reset. -/
def ModelOp.reset : ModelOp := {}

/-- Staging copy of a series (R563). -/
structure SeriesStag where
  /-- KIND (R563). -/
  kind : Nat := 0
  /-- START (R563). -/
  start : Nat := 0
  /-- RES_MINUTES (R563). -/
  res : Nat := 0
  /-- COUNT (R563). -/
  count : Nat := 0
  /-- VARIANTS (R563). -/
  variants : Nat := 0
  /-- values per variant, none for an unwritten one (R563). -/
  vals : List (List (Option F32)) := []
  /-- source that created the copy (R563). -/
  owner : Src := Src.none
  deriving DecidableEq, Repr

/-- SeriesStag at reset. -/
def SeriesStag.reset : SeriesStag := {}

/-- Model banks, service state, input series (chapters 02 and 03). -/
structure ModelSt where
  /-- model bank A in flash (R68). -/
  bankA : Option NetModel := none
  /-- model bank B in flash (R68). -/
  bankB : Option NetModel := none
  /-- MODEL_ACTIVE_BANK (R73, R78). -/
  activeB : Bool := false
  /-- a model is active (R78, R79). -/
  hasActive : Bool := false
  /-- the inactive bank holds a staged model (R68, R78). -/
  staged : Bool := false
  /-- bytes of the staged image (R68, R75). -/
  image : List Byte := []
  /-- the staged model's activation has been opened before (R75). -/
  tried : Bool := false
  /-- MODEL_SERIAL_FLOOR (R78). -/
  floor : Nat := 0
  /-- open load or activation (R68). -/
  op : Option ModelOp := none
  /-- MRAM note of an open activation: handle and host tag (R75). -/
  openNote : Option (U32 × U32) := none
  /-- validation report: code, element ID, field offset (R69). -/
  report : List (Nat × (Nat × Nat)) := []
  /-- total failure count (R70). -/
  reportCount : Nat := 0
  /-- elements out of service in force, by element ID (R76, R77). -/
  outOfService : Tab Bool := []
  /-- staged service changes in order: element ID, out of service, first solve start that includes it (0 until one starts)
  (R76). -/
  serviceStaged : List (Nat × (Bool × Nat)) := []
  /-- current input series (R86). -/
  series : Tab Series := []
  /-- staging copies of series (R563). -/
  seriesStaged : Tab SeriesStag := []
  deriving DecidableEq, Repr

/-- ModelSt at reset. -/
def ModelSt.reset : ModelSt := {}

/-- A plan published and waiting (R133). -/
structure StagedPlan where
  /-- the plan (R133). -/
  plan : Plan := {}
  /-- TRIGGER (R120). -/
  trigger : Nat := 0
  /-- FLEX_MASK (R140). -/
  flexMask : BitVec 16 := 0#16
  /-- plan buffer, 0 to 5 (R136). -/
  buf : Nat := 0
  /-- staged by the open model activation (R133). -/
  act : Bool := false
  deriving DecidableEq, Repr

/-- StagedPlan at reset. -/
def StagedPlan.reset : StagedPlan := {}

/-- One calibrated quantity (R172, R180). -/
structure CalQ where
  /-- IN_FORCE (R177, R180). -/
  inForce : F32 := F32.zero
  /-- STAGED (R176, R180). -/
  staged : Option F32 := none
  /-- IMPLIED (R180). -/
  implied : F32 := F32.zero
  /-- a calibration reset is pending (R178). -/
  resetPend : Bool := false
  /-- held by its total limit (CAL_AT_LIMIT) (R176, R187). -/
  atLimit : Bool := false
  deriving DecidableEq, Repr

/-- CalQ at reset. -/
def CalQ.reset : CalQ := {}

/-- Agreement of one coupled quantity (R197). -/
structure AgreeQ where
  /-- agreed trajectory (R197). -/
  a : List F32 := []
  /-- multiplier trajectory (R197). -/
  y : List F32 := []
  /-- S of the last application (R197, R200). -/
  span : F32 := F32.one
  deriving DecidableEq, Repr

/-- AgreeQ at reset. -/
def AgreeQ.reset : AgreeQ := {}

/-- Agreement state of a coupling (R197, R198). -/
structure Agree where
  /-- AGREED_SEQ (R220). -/
  seq : Nat := 0
  /-- rho in force (RHO_INIT at model activation) (R220). -/
  rho : F32 := F32.zero
  /-- quantities (R197). -/
  qs : List AgreeQ := []
  /-- LAST_PLAN_ID (R196). -/
  lastPlanId : Nat := 0
  /-- start of its exchange window (R195). -/
  exchStart : Nat := 0
  /-- exchange step in minutes (R195). -/
  stepMin : Nat := 0
  /-- exchange step that contains a leap second (16#FFFF none) (R562). -/
  leapStep : Nat := 0xFFFF
  /-- 0 none, 1 an inserted and 2 a deleted second (R562). -/
  leapKind : Nat := 0
  deriving DecidableEq, Repr

/-- Agree at reset. -/
def Agree.reset : Agree := {}

/-- One quantity of a proposal (R196, R210). -/
structure PropQ where
  /-- values (R210). -/
  vals : List F32 := []
  /-- prices (R210). -/
  prices : List F32 := []
  deriving DecidableEq, Repr

/-- PropQ at reset. -/
def PropQ.reset : PropQ := {}

/-- A PROPOSE entry (R210). -/
structure Proposal where
  /-- SRC_COUPLING (R210). -/
  src : Nat := 0
  /-- DST_COUPLING (R210). -/
  dst : Nat := 0
  /-- KIND (R210). -/
  kind : Nat := 0
  /-- FLAGS (R210). -/
  flags : BitVec 8 := 0#8
  /-- AGREED_SEQ (R210). -/
  seq : Nat := 0
  /-- AGREE_CRC (R210). -/
  crc : U32 := 0#32
  /-- RHO (R210). -/
  rho : F32 := F32.zero
  /-- PLAN_ID (R210). -/
  planId : Nat := 0
  /-- LIMIT_MIN (R210). -/
  limMin : F32 := F32.zero
  /-- LIMIT_MAX (R210). -/
  limMax : F32 := F32.zero
  /-- T_LIMIT_MAX (R210). -/
  tMax : F32 := F32.zero
  /-- EXCH_STEPS (R210). -/
  steps : Nat := 0
  /-- EXCH_STEP_MIN (R210). -/
  stepMin : Nat := 0
  /-- EXCH_START (R210). -/
  start : Nat := 0
  /-- quantities (R210). -/
  qs : List PropQ := []
  deriving DecidableEq, Repr

/-- Proposal at reset. -/
def Proposal.reset : Proposal := {}

/-- What COUPLING_STATUS shows of a coupling, as published at a close (R199, R220). -/
structure CoupStat where
  /-- STATE (R220). -/
  state : Nat := 0
  /-- REASON (R220). -/
  reason : Nat := 0
  /-- FED_HOLD_EXPIRED (R220). -/
  holdExpired : Bool := false
  /-- peer on island time (R220). -/
  peerIsland : Bool := false
  /-- SILENT_ROUNDS (R220). -/
  silent : Nat := 0
  /-- AGREED_SEQ (R220). -/
  seq : Nat := 0
  /-- LAST_APPLIED (R220). -/
  lastApplied : Nat := 0
  /-- RHO (R220). -/
  rho : F32 := F32.zero
  /-- PRIMAL_RES (R220). -/
  primal : F32 := F32.zero
  /-- DUAL_RES (R220). -/
  dual : F32 := F32.zero
  /-- PRICE_RES (R220). -/
  price : F32 := F32.zero
  deriving DecidableEq, Repr

/-- CoupStat at reset. -/
def CoupStat.reset : CoupStat := {}

/-- One boundary coupling (R202, R220). -/
structure CoupSt where
  /-- STATE (R220). -/
  state : Nat := 0
  /-- REASON (R220). -/
  reason : Nat := 0
  /-- FLAGS FED_HOLD_EXPIRED (R220). -/
  holdExpired : Bool := false
  /-- FLAGS peer on island time (R220). -/
  peerIsland : Bool := false
  /-- SILENT_ROUNDS (R220). -/
  silent : Nat := 0
  /-- a PROPOSE was received in the present round (R194). -/
  heard : Bool := false
  /-- heard in a version not spoken in the present round (R203). -/
  foreignHeard : Bool := false
  /-- consecutive rounds heard only in versions not spoken (R203). -/
  foreignVer : Nat := 0
  /-- LAST_APPLIED (R220). -/
  lastApplied : Nat := 0
  /-- PRIMAL_RES (R220). -/
  primal : F32 := F32.zero
  /-- DUAL_RES (R220). -/
  dual : F32 := F32.zero
  /-- PRICE_RES (R220). -/
  price : F32 := F32.zero
  /-- agreement state (R197). -/
  cur : Agree := {}
  /-- state before the latest application (R197). -/
  prevAgree : Agree := {}
  /-- version published for solves (R199). -/
  pub : Agree := {}
  /-- STATE published for solves (R199). -/
  pubState : Nat := 0
  /-- own proposal of the present round (R196). -/
  own : Option Proposal := none
  /-- peer's OOS flag (R206). -/
  peerOos : Bool := false
  /-- status version published at the last close (R199, R220). -/
  stat : CoupStat := {}
  deriving DecidableEq, Repr

/-- CoupSt at reset. -/
def CoupSt.reset : CoupSt := {}

/-- Estimate record (R166). -/
structure EstRec where
  /-- ELEM_ID (R166). -/
  elem : Nat := 0xFFFFFFFF
  /-- QTY (R166). -/
  qty : Nat := 0
  /-- SOURCE (R166). -/
  source : Nat := 0
  /-- STATUS (R166). -/
  status : BitVec 16 := 0#16
  /-- VALUE (R166). -/
  value : F32 := F32.zero
  /-- BOUND (R166). -/
  bound : F32 := F32.zero
  /-- PRIOR_VALUE (R166). -/
  prior : F32 := F32.zero
  /-- PRIOR_BOUND (R166). -/
  priorBound : F32 := F32.zero
  /-- LAST_MEAS_EPOCH (R166). -/
  lastMeas : Nat := 0
  deriving DecidableEq, Repr

/-- EstRec at reset. -/
def EstRec.reset : EstRec := {}

/-- A parcel (R157). -/
structure Parcel where
  /-- mass, kg (R157). -/
  mass : Rat := 0
  /-- temperature (R157). -/
  temp : Rat := 0
  /-- standard deviation of the temperature (R157). -/
  sd : Rat := 0
  /-- its temperature derives from initialisation alone (R166, R169). -/
  initial : Bool := false
  /-- a parcel that initialisation placed (R169). -/
  placed : Bool := false
  /-- epoch of the newest measurement that entered its temperature, 0 for none (R166). -/
  lastMeas : Nat := 0
  /-- temperature as blended at the last measured node that it passed (R174). -/
  tin : Option Rat := none
  deriving DecidableEq, Repr

/-- Parcel at reset. -/
def Parcel.reset : Parcel := {}

/-- What a solve reads at its start (R89). -/
structure SolveIn where
  /-- the model (R89). -/
  model : Option NetModel := none
  /-- the dispatch parameters (R82, R89). -/
  pars : Tab PVal := []
  /-- the series (R89). -/
  series : Tab Series := []
  /-- elements out of service (R76). -/
  oos : Tab Bool := []
  /-- the filled commitment slots (R89). -/
  flex : Tab FlexSlot := []
  /-- the estimates (R89). -/
  ests : Tab EstRec := []
  /-- the process image (values of FIXED elements) (R46). -/
  pts : Tab Point := []
  /-- the plan in force shifted (reference point) (R95). -/
  refPlan : Option Plan := none
  /-- coupling states (R105, R200). -/
  agreed : Tab CoupSt := []
  /-- calibration values in force at the start (R135, R177). -/
  cal : Tab CalQ := []
  /-- local civil seconds minus TAI seconds at the start (R62). -/
  shift : Int := 0
  /-- UPDATE_EPOCH of the estimate set read (R164). -/
  estEpoch : Nat := 0
  /-- the parcels at that epoch (R96, R164). -/
  parcels : Tab (List Parcel) := []
  /-- mass flows of that update, by element ID * 8 + slot (R164). -/
  flows : Tab Rat := []
  /-- the plan in force, which fixes the commitments and outputs before step 0 and the projection (R100, R164). -/
  prevPlan : Option Plan := none
  /-- the model on which that plan was solved (R100). -/
  prevModel : Option NetModel := none
  deriving DecidableEq, Repr

/-- SolveIn at reset. -/
def SolveIn.reset : SolveIn := {}

/-- A solve running (R118). -/
structure Solve where
  /-- its handle (R127). -/
  handle : U32 := 0#32
  /-- TRIGGER (R120). -/
  trigger : Nat := 0
  /-- SOLVE_KIND actually run (R117). -/
  kind : Nat := 0
  /-- start tick S (R89). -/
  start : Nat := 0
  /-- budget in ms (R125). -/
  budget : Nat := 0
  /-- iteration limit (R117). -/
  iterMax : Nat := 0
  /-- horizon start (R120). -/
  hstart : Nat := 0
  /-- STEP0_TICKS fixed at the start (R81, R562). -/
  step0 : Nat := 0
  /-- LEAP_STEP (R562). -/
  leapStep : Nat := 0xFFFF
  /-- LEAP_KIND (R562). -/
  leapKind : Nat := 0
  /-- slots whose commitments the solve includes (R140). -/
  flexMask : BitVec 16 := 0#16
  /-- publication has begun (R128, R138). -/
  publishing : Bool := false
  /-- 0 none, 5 cancelled, 6 preempted: outcome to end with (R128, R138). -/
  stopReq : Nat := 0
  /-- cancelled while publishing: the staged plan is discarded (R138). -/
  cancelAfter : Bool := false
  /-- COLD_REFERENCE (R95). -/
  cold : Bool := false
  /-- everything the solve read at its start (R89). -/
  inputs : SolveIn := {}
  deriving DecidableEq, Repr

/-- Solve at reset. -/
def Solve.reset : Solve := {}

/-- An open flexibility handle (R132). -/
structure FlexWait where
  /-- handle of the command (R132). -/
  handle : U32 := 0#32
  /-- acceptance order (R132). -/
  acc : Nat := 0
  /-- acceptance epoch (R132). -/
  accEpoch : Nat := 0
  /-- start tick of the first solve that started after the command (0 none yet) (R132). -/
  solve : Nat := 0
  /-- EXTERNAL_ID of the command, 0 for a withdrawal (R129). -/
  extId : U32 := 0#32
  deriving DecidableEq, Repr

/-- FlexWait at reset. -/
def FlexWait.reset : FlexWait := {}

/-- A commanded solve waiting (R124). -/
structure CmdSolve where
  /-- its handle (R124). -/
  handle : U32 := 0#32
  /-- KIND (R124). -/
  kind : Nat := 0
  /-- BUDGET_MS resolved at the start when 0 (R124). -/
  budget : Nat := 0
  /-- HSTART (R124). -/
  hstart : Nat := 0
  /-- acceptance epoch (R120). -/
  acc : Nat := 0
  deriving DecidableEq, Repr

/-- CmdSolve at reset. -/
def CmdSolve.reset : CmdSolve := {}

/-- The pending fast re-plan (R128). -/
structure FastPend where
  /-- its handle (R127). -/
  handle : U32 := 0#32
  /-- B, earliest band start (R120). -/
  band : Nat := 0
  /-- epoch of the request (R120). -/
  acc : Nat := 0
  deriving DecidableEq, Repr

/-- FastPend at reset. -/
def FastPend.reset : FastPend := {}

/-- Solve cycle (chapter 04). -/
structure SolveSt where
  /-- the running solve (R118). -/
  running : Option Solve := none
  /-- the commanded solve that waits (R124). -/
  waiting : Option CmdSolve := none
  /-- the pending fast re-plan (R128). -/
  fastPend : Option FastPend := none
  /-- staged plans (R133). -/
  staged : List StagedPlan := []
  /-- plan in force (R133, R148). -/
  inForce : Option Plan := none
  /-- its plan buffer (R136). -/
  inForceBuf : Nat := 0
  /-- the predecessor (R136). -/
  prev : Option Plan := none
  /-- its plan buffer (R136). -/
  prevBuf : Nat := 0
  /-- PLAN_ID of the next plan (R107). -/
  nextPlanId : Nat := 1
  /-- commitment slots (R129). -/
  slots : Tab FlexSlot := []
  /-- open flexibility handles (R132). -/
  flexWaits : List FlexWait := []
  /-- SOLVES_SKIPPED (R147). -/
  skipped : U32 := 0#32
  /-- SOLVES_OVERRUN (R147). -/
  overrun : U32 := 0#32
  /-- SOLVES_NOT_TAKEN (R147). -/
  notTaken : U32 := 0#32
  /-- SOLVE_CONSEC_FAILS (R147). -/
  fails : Nat := 0
  /-- warm cadence solves since the last cold solve (R121). -/
  warmSinceCold : Nat := 0
  /-- epoch of the latest plan boundary, or of the start (R139). -/
  lastBoundary : Nat := 0
  /-- PLAN_STALE (R147). -/
  stale : Bool := false
  /-- the start-up cold solve has started (R148). -/
  startupDone : Bool := false
  /-- epoch at which the last solve ended (R120, R128). -/
  lastEnd : Nat := 0
  deriving DecidableEq, Repr

/-- SolveSt at reset. -/
def SolveSt.reset : SolveSt := {}

/-- An update in progress (R150). -/
structure PercUpd where
  /-- update epoch U (R150). -/
  epoch : Nat := 0
  /-- CAL_VERSION in force at its start (R177). -/
  calVersion : Nat := 0
  /-- model on which it runs (R170). -/
  model : Option NetModel := none
  /-- process image read at its start (R150). -/
  pts : Tab Point := []
  /-- PERC_TRACK and PERC_MEAS values read at its start (R154). -/
  binds : Tab PVal := []
  /-- calibration values read at its start (R177). -/
  cal : Tab CalQ := []
  /-- advances across a takeover gap (R171). -/
  bridge : Bool := false
  /-- initialises every segment (R169). -/
  init : Bool := false
  /-- PERC_EFFECTIVE_PERIOD at its start (R156). -/
  periodMs : Nat := 1000
  /-- last estimates of the old model at the nodes of the new one, for segments that match none (R170). -/
  nodeTemps : Tab Rat := []
  /-- the input series, read for the demand model (R97, R174). -/
  series : Tab Series := []
  /-- the dispatch parameters, read for the demand model (R97, R174). -/
  pars : Tab PVal := []
  /-- local civil seconds minus TAI seconds at its start (R62). -/
  shift : Int := 0
  deriving DecidableEq, Repr

/-- PercUpd at reset. -/
def PercUpd.reset : PercUpd := {}

/-- An estimate set (R165). -/
structure EstSet where
  /-- UPDATE_EPOCH (R165). -/
  epoch : Nat := 0
  /-- MODEL_KEY (R165). -/
  modelKey : U64 := 0#64
  /-- MODEL_SERIAL (R165). -/
  modelSerial : Nat := 0
  /-- CAL_VERSION (R165). -/
  calVersion : Nat := 0
  /-- UPDATE_NO (R165). -/
  updateNo : Nat := 0
  /-- PERC_STATE (R165). -/
  percState : Nat := 0
  /-- SET_FLAGS (R165). -/
  setFlags : BitVec 16 := 0#16
  /-- PARCELS (R165). -/
  parcels : Nat := 0
  /-- EFFECTIVE_PERIOD_MS (R165). -/
  periodMs : Nat := 0
  /-- records by variable position (R165). -/
  recs : Tab EstRec := []
  deriving DecidableEq, Repr

/-- EstSet at reset. -/
def EstSet.reset : EstSet := {}

/-- What the present window has gathered for one calibrated quantity (R174, R175). -/
structure CalWin where
  /-- updates of the window (R175). -/
  updates : Nat := 0
  /-- updates in which its measurements were excluded (R175). -/
  excluded : Nat := 0
  /-- the flow fell below CAL_MIN_FLOW_PCT (R175). -/
  lowFlow : Bool := false
  /-- a record involved carried INITIAL (R175). -/
  initial : Bool := false
  /-- points of the measurements that it used (R175). -/
  points : List Nat := []
  /-- observations, each a list of numbers (R174). -/
  obs : List (List Rat) := []
  /-- a store's last energy measurement and its update epoch, while it neither charges nor discharges (R174). -/
  mark : Option (Rat × Nat) := none
  deriving DecidableEq, Repr

/-- CalWin at reset. -/
def CalWin.reset : CalWin := {}

/-- A temperature change that travels along a calibration path (R174). -/
structure Front where
  /-- segments of the path (R173). -/
  segs : List Nat := []
  /-- node at the path's end (R173). -/
  stop : Nat := 0
  /-- update epoch of the change (R174). -/
  epoch : Nat := 0
  /-- the change in kelvin (R174). -/
  delta : Rat := 0
  /-- predicted temperature at the end then (R174). -/
  predFrom : Rat := 0
  /-- measured temperature at the end then (R174). -/
  obsFrom : Rat := 0
  /-- epoch of the predicted arrival (R174). -/
  predAt : Option Nat := none
  /-- epoch of the observed arrival (R174). -/
  obsAt : Option Nat := none
  deriving DecidableEq, Repr

/-- Front at reset. -/
def Front.reset : Front := {}

/-- Percolator, calibration and analog front end (chapter 05). -/
structure PercSt where
  /-- PERC_STATE (R187). -/
  state : Nat := 0
  /-- update running (R152). -/
  upd : Option PercUpd := none
  /-- a mapping update that is to start (R170). -/
  mappingDue : Option PercUpd := none
  /-- model from which it maps (R170). -/
  mapFrom : Option NetModel := none
  /-- newest published estimate set (R153). -/
  set : Option EstSet := none
  /-- UPDATE_NO of the last set (R165). -/
  updateNo : Nat := 0
  /-- parcels per pipe segment, inlet end first (R157). -/
  parcels : Tab (List Parcel) := []
  /-- update epoch to which the parcels refer (R158). -/
  parcelEpoch : Nat := 0
  /-- mass flows of the last update by element ID * 8 + slot (R160, R164). -/
  flows : Tab Rat := []
  /-- what the present window has gathered, by element ID * 8 + CAL_QTY (R174, R175). -/
  calWin : Tab CalWin := []
  /-- temperature changes that travel (R174). -/
  fronts : List Front := []
  /-- the parcel state is initialised (R169, R171). -/
  hasParcels : Bool := false
  /-- PERC_LAST_UPDATE (R187). -/
  lastUpdate : Nat := 0
  /-- PERC_EFFECTIVE_PERIOD (R187). -/
  effPeriodMs : Nat := 1000
  /-- PERIOD_RAISED (R151). -/
  periodRaised : Bool := false
  /-- PARCEL_MERGE_EFFECTIVE (R187). -/
  mergeEff : F32 := ⟨0x3E4CCCCD#32⟩
  /-- PERC_UPDATES_LATE (R187). -/
  late : U32 := 0#32
  /-- MEAS_EXCLUDED (R187). -/
  measExcluded : U32 := 0#32
  /-- MEAS_DROPPED (R187). -/
  measDropped : Nat := 0
  /-- calibrated quantities by element ID * 8 + CAL_QTY (absent: image value) (R179, R180). -/
  cal : Tab CalQ := []
  /-- CAL_VERSION (R187). -/
  calVersion : Nat := 0
  /-- CAL_WINDOWS_VOID (R187). -/
  windowsVoid : U32 := 0#32
  /-- CAL_STEP_LIMITED (R187). -/
  stepLimited : U32 := 0#32
  /-- start of the present window (R172). -/
  windowStart : Nat := 0
  /-- PERC_CAL values in force since the window's start (R186). -/
  calPars : Tab PVal := []
  /-- CAL_FREEZE was in force at some tick of the window (R175). -/
  freezeSeen : Bool := false
  /-- epoch of the latest model activation (R175). -/
  activationAt : Option Nat := none
  /-- points of lanes that reported IMPLAUSIBLE within the window (R175). -/
  implPts : List Nat := []
  /-- CAL_FREEZE in force (R186). -/
  freeze : Bool := false
  /-- CAL_FREEZE written and not yet in force (R186). -/
  freezeNext : Option Bool := none
  /-- the next update bridges a takeover gap (R171). -/
  bridgeDue : Bool := false
  /-- the Percolator is in block reset (R525). -/
  resetBusy : Bool := false
  deriving DecidableEq, Repr

/-- PercSt at reset. -/
def PercSt.reset : PercSt := {}

/-- Analog front end (R181 to R185). -/
structure AfeSt where
  /-- epoch of the frame in progress (R181). -/
  frameStart : Nat := 0
  /-- frame number f (R182). -/
  frameNo : Nat := 0
  /-- mode in force (R184). -/
  uniform : Bool := false
  /-- next data slot of the frame (R181). -/
  slot : Nat := 0
  /-- last 64 references of each kind by channel * 3 + kind, newest first (R182). -/
  refs : Tab (List F32) := []
  /-- offset correction in LSB (R182). -/
  offset : Tab F32 := []
  /-- gain correction (R182). -/
  gain : Tab F32 := []
  /-- correction from the next frame boundary (R182). -/
  offsetNext : Tab F32 := []
  /-- correction from the next frame boundary (R182). -/
  gainNext : Tab F32 := []
  /-- AFE_CAL_FAULT (R187). -/
  calFault : BitVec 16 := 0#16
  /-- AFE_CAL_AGED (R187). -/
  calAged : Bool := false
  /-- epoch of the last reference slot (R184). -/
  lastRef : Nat := 0
  deriving DecidableEq, Repr

/-- AfeSt at reset. -/
def AfeSt.reset : AfeSt := {}

/-- Floor record of a scope (R212). -/
structure FloorRec where
  /-- FLOOR in force (QUALOTH_CUR_VERSION) (R212, R219). -/
  floor : Nat := 1
  /-- PENDING (R212, R219). -/
  pending : Nat := 0
  /-- MASTER (R212). -/
  master : Nat := 0
  /-- SWITCH_EPOCH (R212, R219). -/
  switchEpoch : Nat := 0
  /-- epoch of the scope's last switch (R215). -/
  lastSwitch : Option Nat := none
  /-- candidate floor of the last round (R213). -/
  candidate : Nat := 0
  /-- consecutive rounds for which it has been unchanged (R215). -/
  settled : Nat := 0
  /-- VERSION_GAP bit (R213, R219). -/
  gap : Bool := false
  deriving DecidableEq, Repr

/-- FloorRec at reset. -/
def FloorRec.reset : FloorRec := {}

/-- Member list entry (R213). -/
structure FedMember where
  /-- address (R213). -/
  addr : Nat := 0
  /-- CUR_VERSION or aggregate minimum (R212). -/
  cur : Nat := 0
  /-- aggregate maximum (R212). -/
  curMax : Nat := 0
  /-- AGG_MEMBERS (R212). -/
  members : Nat := 0
  /-- epoch of its last ADVERTISE (R213). -/
  heardAt : Nat := 0
  /-- ROUND_EPOCH of its last ADVERTISE (R214). -/
  round : Nat := 0
  deriving DecidableEq, Repr

/-- FedMember at reset. -/
def FedMember.reset : FedMember := {}

/-- Claim and sequence record of a source address (R209). -/
structure PeerRec where
  /-- highest CLAIM seen (R209). -/
  claim : Nat := 0
  /-- last accepted SEQ (R209). -/
  seq : Nat := 0
  /-- a message has been accepted (R209). -/
  seen : Bool := false
  deriving DecidableEq, Repr

/-- PeerRec at reset. -/
def PeerRec.reset : PeerRec := {}

/-- Federation exchange (chapter 06). -/
structure FedSt where
  /-- couplings (R202). -/
  coups : Tab CoupSt := []
  /-- floor records of levels 4, 5 and 6 (R212). -/
  floors : Tab FloorRec := []
  /-- member lists by level (R213). -/
  members : Tab (List FedMember) := []
  /-- records by source address (R209). -/
  peers : Tab PeerRec := []
  /-- QUALOTH_CUR_VERSION of the firmware (R211, R219). -/
  ownVersion : Nat := 1
  /-- QUALOTH_REJECTED (R219). -/
  rejected : U32 := 0#32
  /-- FED_RESYNCS (R219). -/
  resyncs : U32 := 0#32
  /-- SEQ of the next message (R207). -/
  txSeq : Nat := 0
  /-- QUALOTH_ADDR in force since the last reset (R218). -/
  addr : Nat := 0
  /-- GATEWAY_ROLE in force since the last reset (R218). -/
  role : Nat := 0
  /-- FED_ENABLE in force (R218). -/
  enabled : Bool := true
  /-- epoch of the latest opening per level (R192). -/
  openings : Tab Nat := []
  /-- per level, as of the latest opening: start of the exchange window, step with a leap second, its kind,
  EXCH_STEP_MIN, FED_SILENT_ROUNDS, FLOOR_MEMORY_S (R195, R218, R562). -/
  windows : Tab (List Nat) := []
  /-- the round of the level is open (R192). -/
  closeDue : Tab Bool := []
  deriving DecidableEq, Repr

/-- FedSt at reset. -/
def FedSt.reset : FedSt := {}

/-- Supervision and controller state of one lane, changed as a whole by a completed sample (R226, R235, R236, R249). -/
structure LaneCore where
  /-- STATE (R249). -/
  state : Nat := 0
  /-- COND without PERIOD_DOUBLED (R249). -/
  cond : BitVec 8 := 0#8
  /-- FLAGS bits 0 to 3 and 5 (R249). -/
  flags : BitVec 8 := 0#8
  /-- SRC_IN_USE (R249). -/
  srcInUse : Nat := 255
  /-- BINDING_STATUS (R249). -/
  bindStatus : BitVec 8 := 0#8
  /-- LAST_SAMPLE (R249). -/
  lastSample : Nat := 0
  /-- SP_USED (R249). -/
  spUsed : F32 := F32.zero
  /-- FB_USED (R249). -/
  fbUsed : F32 := F32.zero
  /-- OUT (R249). -/
  out : F32 := F32.zero
  /-- VF_USED_MS, in units of 1/8 ms (R249). -/
  vfUsedMs : Nat := 0
  /-- i (R226). -/
  integ : F32 := F32.zero
  /-- d_prev (R226). -/
  dPrev : F32 := F32.zero
  /-- ed_prev (R226). -/
  edPrev : F32 := F32.zero
  /-- sp_prev (R226). -/
  spPrev : F32 := F32.zero
  /-- u_ctrl_prev (R226). -/
  uCtrlPrev : F32 := F32.zero
  /-- ramping (R226). -/
  ramping : Bool := false
  /-- last_done (none: no sample has completed since enable) (R226). -/
  lastDone : Option Nat := none
  /-- direction of the friction table, 0 after enable (R228). -/
  dir : Int := 0
  /-- y and u_ctrl of the last FROZEN_N samples in NORMAL, newest first (R235). -/
  hist : List (F32 × F32) := []
  /-- y at the detection of FROZEN (R235). -/
  frozenY : F32 := F32.zero
  /-- consecutive implausible samples (R235). -/
  implCount : Nat := 0
  /-- consecutive good samples (R235). -/
  goodCount : Nat := 0
  /-- start of the uninterrupted NORMAL (R236). -/
  normalSince : Option Nat := none
  /-- FLAGS SAFE_ACK_HELD (R249, R237). -/
  ackHeld : Bool := false
  /-- FLAGS SAFE_BY_OVERRUN (R249, R240). -/
  safeByOvr : Bool := false
  /-- previous sample spent in VIRTUAL (R236). -/
  vfStart : Nat := 0
  deriving DecidableEq, Repr

/-- LaneCore at reset. -/
def LaneCore.reset : LaneCore := {}

/-- A sample in progress (R225). -/
structure LaneSample where
  /-- start epoch (R225). -/
  start : Nat := 0
  /-- the state that the sample leaves when it completes (R226). -/
  next : LaneCore := {}
  /-- output point (R225). -/
  point : Option Nat := none
  /-- u_cmd (R225). -/
  value : F32 := F32.zero
  deriving DecidableEq, Repr

/-- LaneSample at reset. -/
def LaneSample.reset : LaneSample := {}

/-- One lane (R221). -/
structure Lane where
  /-- state of completed samples (R249). -/
  core : LaneCore := {}
  /-- sample in progress (R225). -/
  sample : Option LaneSample := none
  /-- the lane samples (R241, R242). -/
  enabled : Bool := false
  /-- PERIOD_IN_FORCE (R249). -/
  periodForce : Nat := 800
  /-- COND PERIOD_DOUBLED (R249). -/
  periodDoubled : Bool := false
  /-- BANK, false A (R249, R234). -/
  bankSel : Bool := false
  /-- pending swap, its SWAP_EPOCH and acceptance (R234). -/
  swapPend : Option Nat := none
  /-- acceptance epoch of the pending swap (R234). -/
  swapAcc : Nat := 0
  /-- the swap just made is a bumpless event (R233). -/
  swapBumpless : Bool := false
  /-- LANE_SP_HOST (none: invalid) (R231, R241). -/
  spHost : Option F32 := none
  /-- epoch of its last accepted write (R231). -/
  spHostEpoch : Nat := 0
  /-- LANE_MAN_OUT, default 0 (R246). -/
  manOut : F32 := F32.zero
  /-- LANE_MAN_OUT is valid (R237, R241). -/
  manValid : Bool := false
  /-- epoch of its last accepted write (R237). -/
  manEpoch : Nat := 0
  /-- LANE_MODE, AUTO after reset (R246, R241). -/
  mode : Nat := 1
  /-- OVERRUNS (R249). -/
  overruns : U32 := 0#32
  /-- the last OVR_WINDOW scheduled samples, newest first, true an overrun (R240). -/
  window : List Bool := []
  /-- tick of the last sample tick handled (R222, R239). -/
  lastDue : Option Nat := none
  deriving DecidableEq, Repr

/-- Lane at reset. -/
def Lane.reset : Lane := {}

/-- An open BANK_SWAP (R234). -/
structure SwapOp where
  /-- its handle (R234). -/
  handle : U32 := 0#32
  /-- lanes named and not yet swapped (R234). -/
  lanes : List Nat := []
  /-- lanes swapped so far (R558). -/
  swapped : Nat := 0
  deriving DecidableEq, Repr

/-- SwapOp at reset. -/
def SwapOp.reset : SwapOp := {}

/-- Control lanes (chapter 07). -/
structure LaneSt where
  /-- lanes (R221). -/
  lanes : Tab Lane := []
  /-- open bank swaps (R234). -/
  swaps : List SwapOp := []
  /-- LANE_OVERRUNS_TOTAL (R248). -/
  overrunsTotal : U32 := 0#32
  deriving DecidableEq, Repr

/-- LaneSt at reset. -/
def LaneSt.reset : LaneSt := {}

/-- Instance table entry (R272) with its wiring (R275 section 16#0103). -/
structure InstEnt where
  /-- INST_KEY (R272). -/
  key : U64 := 0#64
  /-- TYPE_ID (R272). -/
  typeId : Nat := 0
  /-- TYPE_REV (R272). -/
  typeRev : Nat := 0
  /-- TASK (R272). -/
  task : Nat := 0
  /-- FLAGS RETAIN (R272). -/
  retain : Bool := false
  /-- STREAM (R272). -/
  stream : Nat := 0
  /-- DATA_OFFSET (R272). -/
  dataOffset : Nat := 0
  /-- DATA_LEN (R272). -/
  dataLen : Nat := 0
  /-- LAYOUT_HASH (R272). -/
  layoutHash : U32 := 0#32
  /-- CODE_INDEX (R272). -/
  codeIndex : Nat := 0
  /-- source of each input (R275, R256). -/
  wires : List Wire := []
  /-- static configuration of access blocks (point, lane, binding, station) (R267, R268). -/
  cfg : List Nat := []
  deriving DecidableEq, Repr

/-- InstEnt at reset. -/
def InstEnt.reset : InstEnt := {}

/-- An expression type (R270). -/
structure ExprType where
  /-- inputs (R270). -/
  nIn : Nat := 0
  /-- outputs, true when declared REAL (R270, R271). -/
  outReal : List Bool := []
  /-- locals (R270). -/
  nLoc : Nat := 0
  /-- constants (R270). -/
  consts : List U32 := []
  /-- instructions (R270). -/
  code : List (BitVec 16) := []
  deriving DecidableEq, Repr

/-- ExprType at reset. -/
def ExprType.reset : ExprType := {}

/-- Output table entry (R275 section 16#0107). -/
structure OutEnt where
  /-- POINT (R275). -/
  point : Nat := 0
  /-- TASK (R275). -/
  task : Nat := 0
  /-- STOP_ACTION (R275). -/
  stopAction : Nat := 0
  /-- STOP_VAL (R275). -/
  stopVal : F32 := F32.zero
  /-- SAFE_VAL (R275). -/
  safeVal : F32 := F32.zero
  deriving DecidableEq, Repr

/-- OutEnt at reset. -/
def OutEnt.reset : OutEnt := {}

/-- Instance data of one instance (R273). -/
structure InstData where
  /-- inputs (R273). -/
  ins : List U32 := []
  /-- outputs (R273). -/
  outs : List U32 := []
  /-- locals of an expression instance (R270). -/
  locals : List U32 := []
  /-- internal state fields of R273, in order (R273). -/
  st : List Nat := []
  /-- first scan (R273, R269). -/
  firstScan : Bool := true
  deriving DecidableEq, Repr

/-- InstData at reset. -/
def InstData.reset : InstData := {}

/-- A block image as the module holds it (R274, R275). -/
structure Program where
  /-- PROGRAM_SERIAL (R274). -/
  serial : Nat := 0
  /-- PROGRAM_KEY (R274). -/
  key : U64 := 0#64
  /-- C_t and longest instance cost per task, in call units (R275). -/
  cost : List (Nat × Nat) := []
  /-- instances (R272). -/
  insts : List InstEnt := []
  /-- two ordered instance lists per task (R275). -/
  streams : List (List Nat) := []
  /-- expression code (R275). -/
  exprs : List ExprType := []
  /-- initial instance data (R275). -/
  init : List InstData := []
  /-- output table (R275). -/
  outs : List OutEnt := []
  /-- SIG_KEY_LABEL (R274). -/
  sigLabel : U64 := 0#64
  /-- the wiring section names some input twice (R275, R276). -/
  wiredTwice : Bool := false
  deriving DecidableEq, Repr

/-- Program at reset. -/
def Program.reset : Program := {}

/-- A task cycle in progress (R253). -/
structure Cycle where
  /-- start tick C (R253). -/
  c : Nat := 0
  /-- apply epoch A (R253). -/
  a : Nat := 0
  /-- deadline D (R253). -/
  d : Nat := 0
  /-- period read at its start (R283). -/
  period : Nat := 0
  /-- C + INPUT_WAIT_TICKS (R253). -/
  waitEnd : Nat := 0
  /-- input close has come (R253). -/
  closed : Bool := false
  /-- process image view (R254). -/
  view : Tab Point := []
  /-- published instance data visible to the cycle (R256). -/
  others : List InstData := []
  /-- lane status as of C (R254). -/
  lanes : Tab Lane := []
  /-- plan in force at C (R254). -/
  plan : Option Plan := none
  /-- active model at C (R254). -/
  model : Option NetModel := none
  /-- PLAN_STALE as of C (R254). -/
  stale : Bool := false
  /-- estimates as of C (R254). -/
  ests : Option EstSet := none
  /-- local civil seconds since 2000-01-01 at C (R254). -/
  civil : Nat := 0
  /-- STATE of the field groups as of C (R254). -/
  groups : List Nat := []
  /-- STATE of the stations: those of the task as of input close, the others as of C (R254). -/
  stns : Tab Nat := []
  /-- first point, point count and descriptors of the stations, as of the same moments (R254, R292). -/
  descs : Tab (Nat × (Nat × List Nat)) := []
  /-- modes of the 32 field channels as of C (R254, R318). -/
  modes : List Nat := []
  /-- RT(C) (R264). -/
  rt : Nat := 0
  deriving DecidableEq, Repr

/-- Cycle at reset. -/
def Cycle.reset : Cycle := {}

/-- A program set-point of a lane (R231 code 4). -/
structure LaneSpVal where
  /-- value (R231). -/
  value : F32 := F32.zero
  /-- C of the cycle that wrote it (R231). -/
  cycle : Nat := 0
  /-- apply epoch from which lanes read it (R253). -/
  apply : Nat := 0
  /-- value read before that epoch (R253). -/
  prev : Option F32 := none
  /-- cycle of prev (R253). -/
  prevCycle : Nat := 0
  deriving DecidableEq, Repr

/-- LaneSpVal at reset. -/
def LaneSpVal.reset : LaneSpVal := {}

/-- One task (R251, R285 TASK_STATUS). -/
structure TaskSt where
  /-- cycle in progress (R253). -/
  cycle : Option Cycle := none
  /-- CYCLES (R285). -/
  cycles : U32 := 0#32
  /-- LAST_CYCLE (R285). -/
  lastCycle : Nat := 0
  /-- LAST_APPLY (R285). -/
  lastApply : Nat := 0
  /-- a cycle has published (R255). -/
  everPub : Bool := false
  /-- RESPONSE_US (R285). -/
  responseUs : Nat := 0
  /-- RESPONSE_MAX_US (R285). -/
  responseMaxUs : Nat := 0
  /-- BOUND_US (R285). -/
  boundUs : Nat := 0
  /-- INPUT_TIMEOUTS (R285). -/
  inputTimeouts : U32 := 0#32
  /-- MARGIN_MIN (R285). -/
  marginMin : F32 := F32.one
  /-- published values waiting for their apply epoch (R253). -/
  applyPend : List (Nat × List (Nat × F32)) := []
  /-- program set-points by lane as of the last apply epoch (R231). -/
  laneSp : Tab LaneSpVal := []
  /-- stop values waiting for their epoch (R261). -/
  stopPend : List (Nat × List (Nat × F32)) := []
  /-- served tick whose input close is still to come (R253, R298). -/
  closeDue : Option Nat := none
  deriving DecidableEq, Repr

/-- TaskSt at reset. -/
def TaskSt.reset : TaskSt := {}

/-- Run-time state that the checkpoint carries (R282). -/
structure ProgRun where
  /-- PROG_MODE (R284). -/
  mode : Nat := 0
  /-- RT (PROG_RUN_TICKS) (R264, R284). -/
  rt : Nat := 0
  /-- published instance data (R255). -/
  data : List InstData := []
  /-- tasks (R251). -/
  tasks : Tab TaskSt := []
  /-- newest published value of each output point (R290). -/
  outVals : Tab F32 := []
  /-- tick of entry into HOLD (R260). -/
  holdFrom : Nat := 0
  /-- HOLD_MAX_S in force for this HOLD (R283). -/
  holdMax : Nat := 0
  /-- stamp of the copy that the instances were restored from (R280, R281). -/
  restored : Nat := 0
  /-- PROG_FAULT CAUSE (R284). -/
  faultCause : Nat := 0
  /-- PROG_FAULT TASK (R284). -/
  faultTask : Nat := 0
  /-- PROG_FAULT CYCLE_EPOCH (R284). -/
  faultCycle : Nat := 0
  /-- PROG_FAULT FAULT_EPOCH (R284). -/
  faultEpoch : Nat := 0
  deriving DecidableEq, Repr

/-- ProgRun at reset. -/
def ProgRun.reset : ProgRun := {}

/-- One retained copy in MRAM (R280). -/
structure Retain where
  /-- stamp (R280). -/
  epoch : Nat := 0
  /-- RT (R280). -/
  rt : Nat := 0
  /-- program whose instances it holds (R280). -/
  programKey : U64 := 0#64
  /-- data of the RETAIN instances by key (R280). -/
  data : List (U64 × InstData) := []
  /-- the copy's CRC agrees with its content: it was written whole (R280). -/
  valid : Bool := true
  deriving DecidableEq, Repr

/-- Retain at reset. -/
def Retain.reset : Retain := {}

/-- An open load or exchange (R276, R277). -/
structure ProgOp where
  /-- 1 load, 2 exchange (R276). -/
  kind : Nat := 0
  /-- its handle (R276). -/
  handle : U32 := 0#32
  /-- epoch of acceptance (R279). -/
  acc : Nat := 0
  /-- order of acceptance (R69). -/
  seq : Nat := 0
  deriving DecidableEq, Repr

/-- ProgOp at reset. -/
def ProgOp.reset : ProgOp := {}

/-- Program engine (chapter 08). -/
structure ProgSt where
  /-- run-time state (R282). -/
  run : ProgRun := {}
  /-- program bank A in flash (R276). -/
  bankA : Option Program := none
  /-- program bank B in flash (R276). -/
  bankB : Option Program := none
  /-- bank select in MRAM (R279). -/
  activeB : Bool := false
  /-- a program is active (R260). -/
  hasActive : Bool := false
  /-- the inactive bank holds a staged program (R276). -/
  staged : Bool := false
  /-- PROG_SERIAL_FLOOR (R284). -/
  floor : Nat := 0
  /-- open load or exchange (R276). -/
  op : Option ProgOp := none
  /-- MRAM note of an open exchange: handle and host tag (R279). -/
  openNote : Option (U32 × U32) := none
  /-- mode commands accepted and not yet in effect: command, acceptance epoch, order of acceptance (R22, R260). -/
  modeDue : List (Nat × Nat × Nat) := []
  /-- PROG_START_MODE 1 run still to come after reset (R281). -/
  startDue : Bool := false
  /-- the stop values after reset still to be applied at the first tick (R281, R524). -/
  stopDue : Bool := false
  /-- PROG_START_MODE as of the last reset (R283). -/
  startMode : Nat := 0
  /-- retained copy A (R280). -/
  retainA : Option Retain := none
  /-- retained copy B (R280). -/
  retainB : Option Retain := none
  /-- the next copy writes B (R280). -/
  retainNextB : Bool := false
  /-- epoch of the last retained copy (R280). -/
  lastRetain : Nat := 0
  /-- RETAIN_EPOCH (R284). -/
  retainEpoch : Nat := 0
  /-- task parameters in force by task (period, phase, enable) (R283). -/
  taskCfg : Tab PVal := []
  deriving DecidableEq, Repr

/-- ProgSt at reset. -/
def ProgSt.reset : ProgSt := {}

/-- Stations (chapter 09). -/
structure StnSt where
  /-- stations (R291). -/
  stns : Tab Stn := []
  /-- STN_FRAMES_REJECTED (R314). -/
  framesRejected : U32 := 0#32
  /-- STN_CLAIM_REJECTS (R314). -/
  claimRejects : U32 := 0#32
  deriving DecidableEq, Repr

/-- StnSt at reset. -/
def StnSt.reset : StnSt := {}

/-- One 24 V channel of the field die (R317, R347 FIO_STATUS). -/
structure FioCh where
  /-- MODE in force (R347). -/
  mode : Nat := 0
  /-- mode that starts at the next tick (R346). -/
  modeNext : Option Nat := none
  /-- filter counter K (R322). -/
  k : Nat := 0
  /-- filtered state (R322). -/
  state : Bool := false
  /-- microseconds for which the filter has run since it last restarted (R334). -/
  runUs : Nat := 0
  /-- pulse count (R323). -/
  count : Nat := 0
  /-- CD6 timestamps of rising edges, newest first (R324). -/
  edges : List Nat := []
  /-- newest value applied by the owner (R325, R333). -/
  owned : F32 := F32.zero
  /-- the owner has given a first value (R524). -/
  hasValue : Bool := false
  /-- the switch is on (R325). -/
  driven : Bool := false
  /-- duty cycle of the present PWM period (R326). -/
  duty : F32 := F32.zero
  /-- duty cycle from the next period boundary (R326). -/
  dutyNext : F32 := F32.zero
  /-- PWM_FREQ_HZ of the present period (R326, R345). -/
  pwmHz : Nat := 100
  /-- LATCH OVERLOAD, THERMAL, GROUP_LIMIT (R347). -/
  latch : BitVec 3 := 0#3
  /-- a latch was cleared: the output resumes at the next tick (R327). -/
  clearDue : Bool := false
  /-- FLAGS OPEN_LOAD (R347). -/
  openLoad : Bool := false
  /-- FLAGS SHORT_TO_SUPPLY (R347). -/
  short : Bool := false
  /-- consecutive bad short tests (R329). -/
  cntShort : Nat := 0
  /-- consecutive bad open-load tests (R329). -/
  cntOpen : Nat := 0
  /-- consecutive good open-load tests (R329). -/
  cntGood : Nat := 0
  /-- consecutive good short tests (R329). -/
  cntClear : Nat := 0
  /-- measured load current (R318). -/
  currentA : F32 := F32.zero
  /-- TRIPS (R347). -/
  trips : U32 := 0#32
  deriving DecidableEq, Repr

/-- FioCh at reset. -/
def FioCh.reset : FioCh := {}

/-- One field supply group (R332, R347 GRP_STATUS). -/
structure FioGrp where
  /-- STATE (R347). -/
  state : Nat := 0
  /-- supply below the warning level (R332). -/
  warn : Bool := false
  /-- cut-off crossed downward and not yet upward (R332). -/
  cutoffBelow : Bool := false
  /-- INPUTS_VALID (R347). -/
  inputsValid : Bool := false
  /-- measured supply (R318). -/
  vfld : F32 := F32.zero
  /-- VFLD_MIN (R347). -/
  vfldMin : F32 := F32.zero
  /-- the supply has been measured since the die started (R347). -/
  measured : Bool := false
  /-- sum of the group's output currents (R318). -/
  currentA : F32 := F32.zero
  /-- CUTOFFS (R347). -/
  cutoffs : U32 := 0#32
  /-- LAST_CUTOFF (R347). -/
  lastCutoff : Nat := 0
  /-- recovery mode selected at the cut-off (R333). -/
  recovery : Nat := 0
  /-- GRP_HOLDOFF_MS in force for this cut-off (R333, R345). -/
  holdoff : Nat := 0
  /-- epoch of the upward crossing that started the hold-off (R333). -/
  holdFrom : Nat := 0
  /-- recovered: outputs resume at the next tick edge (R333). -/
  recoverDue : Bool := false
  deriving DecidableEq, Repr

/-- FioGrp at reset. -/
def FioGrp.reset : FioGrp := {}

/-- One analog input (R335, R337, R181 to R187). -/
structure AinCh where
  /-- range in force (R345). -/
  range : Nat := 0
  /-- newest samples with the CD6 time of their midpoints, newest first (R337, R185). -/
  samples : List (Nat × F32) := []
  /-- the newest conversion clipped (R335, R337). -/
  clipped : Bool := false
  /-- current shunt disconnected (R335). -/
  shuntOpen : Bool := false
  deriving DecidableEq, Repr

/-- AinCh at reset. -/
def AinCh.reset : AinCh := {}

/-- One analog output (R339, R341). -/
structure AoutCh where
  /-- range in force (R345). -/
  range : Nat := 0
  /-- range that starts at the next tick (R346). -/
  rangeNext : Option Nat := none
  /-- newest value applied by the owner (R339). -/
  owned : F32 := F32.zero
  /-- the owner has given a first value (R524). -/
  hasValue : Bool := false
  /-- value driven (0 V or 0 mA when off) (R339). -/
  driven : F32 := F32.zero
  /-- command clamped (R339). -/
  oor : Bool := false
  /-- OVERLOAD latched (AOUT_LATCH) (R341, R347). -/
  overload : Bool := false
  /-- OPEN_LOAD reported (R341). -/
  openLoad : Bool := false
  deriving DecidableEq, Repr

/-- AoutCh at reset. -/
def AoutCh.reset : AoutCh := {}

/-- Field I/O die (chapter 10). -/
structure FieldSt where
  /-- channels FIO0 to FIO31 (R316). -/
  chans : Tab FioCh := []
  /-- groups 1 to 4 (R316). -/
  groups : Tab FioGrp := []
  /-- analog inputs (R335). -/
  ains : Tab AinCh := []
  /-- analog outputs (R339). -/
  aouts : Tab AoutCh := []
  /-- HIGHEST_CLAIM of the die (R342). -/
  highestClaim : Nat := 0
  /-- the unit's outputs are off, marked CLAIM_REJECTED (R342). -/
  claimRejected : Bool := false
  /-- the die link works (R343). -/
  linkUp : Bool := true
  /-- consecutive ticks without a valid frame at the die (R343). -/
  linkMiss : Nat := 0
  /-- consecutive good frames after a loss (R343). -/
  linkGood : Nat := 0
  /-- FIELD_LINK_LOSSES (R347). -/
  linkLosses : U32 := 0#32
  /-- end of the 40 ms mask (0: none) (R331). -/
  maskUntil : Nat := 0
  deriving DecidableEq, Repr

/-- FieldSt at reset. -/
def FieldSt.reset : FieldSt := {}

/-- A CAN frame as stored in a buffer (R357, R358). -/
structure CanFrame where
  /-- 0 CC, 1 FD, 2 XL (R356). -/
  fmt : Nat := 0
  /-- extended identifier (R356). -/
  ext : Bool := false
  /-- identifier (R356). -/
  id : Nat := 0
  /-- XL acceptance field (R356). -/
  af : Nat := 0
  /-- data bytes stored (R356). -/
  data : List Byte := []
  /-- data length of the received frame (R361). -/
  len : Nat := 0
  /-- timestamp in nanoseconds of the time base (R358). -/
  stamp : Nat := 0
  deriving DecidableEq, Repr

/-- CanFrame at reset. -/
def CanFrame.reset : CanFrame := {}

/-- State of one message buffer (R356 to R368, CAN_BUF_STATUS). -/
structure CanBuf where
  /-- stored frame (R358). -/
  frame : Option CanFrame := none
  /-- stored since the previous latch (R358, R361). -/
  undecoded : Bool := false
  /-- latest outcome (R376). -/
  outcome : Nat := 0
  /-- pending (R376). -/
  pending : Bool := false
  /-- LATE_CANCEL (R376). -/
  lateCancel : Bool := false
  /-- HP_FULL (R376, R368). -/
  hpFull : Bool := false
  /-- ticks counted towards CAN_TX_TIMEOUT_MS (R364). -/
  elapsed : Nat := 0
  /-- CAN_TX_TIMEOUT_MS in force at the queuing (R364, R375). -/
  timeout : Nat := 0
  /-- past its commit point, on the bus (R366). -/
  committed : Bool := false
  /-- cancelled after the commit point (R367). -/
  cancelReq : Bool := false
  /-- host transmit handle (0: none) (R363). -/
  handle : U32 := 0#32
  /-- data of the host transmit command (R363). -/
  hostData : List Byte := []
  /-- points, with the apply epoch and the value, that the attempt carries (R364). -/
  sentPts : List (Nat × Nat × F32) := []
  /-- tick of the latest cyclic trigger (R362). -/
  cycAt : Option Nat := none
  deriving DecidableEq, Repr

/-- CanBuf at reset. -/
def CanBuf.reset : CanBuf := {}

/-- One CAN channel (R353, CAN_STATUS). -/
structure CanCh where
  /-- STATE, 6 held (R376). -/
  state : Nat := 6
  /-- FLAGS warning (R376). -/
  warning : Bool := false
  /-- FLAGS TDC_RANGE (R376). -/
  tdcRange : Bool := false
  /-- FLAGS recovery waiting (R376). -/
  recWait : Bool := false
  /-- TEC (R376). -/
  txErr : Nat := 0
  /-- REC (R376). -/
  recErr : Nat := 0
  /-- BUS_OFFS (R376). -/
  busOffs : U32 := 0#32
  /-- RX_UNMATCHED (R376). -/
  rxUnmatched : U32 := 0#32
  /-- RX_OVERWRITTEN (R376). -/
  rxOverwritten : U32 := 0#32
  /-- HP_OVERRUN (R376). -/
  hpOverrun : U32 := 0#32
  /-- REMOTE_IGNORED (R376). -/
  remoteIgnored : U32 := 0#32
  /-- LOOP_DELAY (R376). -/
  loopDelay : Nat := 0
  /-- waiting for 11 consecutive recessive bits (R354). -/
  integrating : Bool := true
  /-- end of CAN_BUSOFF_HOLD_MS (R370). -/
  holdUntil : Nat := 0
  /-- observing the 128 x 11 recessive bits (R370). -/
  observing : Bool := false
  deriving DecidableEq, Repr

/-- CanCh at reset. -/
def CanCh.reset : CanCh := {}

/-- Diagnosis of a CAN output or input point (R374). -/
structure CanPt where
  /-- bit d set while the condition with DIAG d is present (R374). -/
  diag : BitVec 16 := 0#16
  /-- INVALID and OUT_OF_RANGE of the last decoding (R361). -/
  base : BitVec 16 := 0#16
  deriving DecidableEq, Repr

/-- CanPt at reset. -/
def CanPt.reset : CanPt := {}

/-- CAN channels (chapter 11). -/
structure CanSt where
  /-- channels (R348). -/
  chans : Tab CanCh := []
  /-- buffers, by channel * 65 + buffer (R356). -/
  bufs : Tab CanBuf := []
  /-- conditions of CAN points (R374). -/
  pts : Tab CanPt := []
  /-- CAN_CLAIM_SEEN (R376). -/
  claimSeen : U32 := 0#32
  deriving DecidableEq, Repr

/-- CanSt at reset. -/
def CanSt.reset : CanSt := {}

/-- One network port (R377, R406 PORT_STATUS). -/
structure PortSt1 where
  /-- LINK (R406). -/
  link : Bool := false
  /-- MODE in force (R406). -/
  mode : Nat := 0
  /-- RX_FRAMES (R406). -/
  rxFrames : U64 := 0#64
  /-- TX_FRAMES (R406). -/
  txFrames : U64 := 0#64
  /-- RX_DROPPED (R406). -/
  rxDropped : U32 := 0#32
  /-- OVERSIZE (R406). -/
  oversize : U32 := 0#32
  /-- MACSEC_FAILED (R406). -/
  macsecFailed : U32 := 0#32
  /-- HSR_DUPLICATES (R406). -/
  hsrDup : U32 := 0#32
  /-- HSR_MEMBERS (R406). -/
  hsrMembers : Nat := 0
  /-- MACSEC_AN (R406). -/
  an : Nat := 0
  /-- next transmit packet number (R384). -/
  txPn : Nat := 0
  /-- highest packet number received by association number (R384, R386). -/
  rxPn : Tab Nat := []
  deriving DecidableEq, Repr

/-- PortSt1 at reset. -/
def PortSt1.reset : PortSt1 := {}

/-- One entry of the HSR duplicate table (R381). -/
structure DupEnt where
  /-- source address (R381). -/
  src : BitVec 48 := 0#48
  /-- HSR sequence number (R381). -/
  seq : Nat := 0
  /-- epoch at which it was seen (R381). -/
  seen : Nat := 0
  /-- ring port whose table holds it, 0 ring A, 1 ring B (R35). -/
  port : Nat := 0
  /-- a duplicate of it has been seen (HSR_DUP) (R390). -/
  dup : Bool := false
  deriving DecidableEq, Repr

/-- DupEnt at reset. -/
def DupEnt.reset : DupEnt := {}

/-- Ports, HSR, MACsec (chapter 12). -/
structure NetSt where
  /-- ports 0 to 5 (R377). -/
  ports : Tab PortSt1 := []
  /-- the module's MAC address (R381). -/
  mac : BitVec 48 := 0#48
  /-- HSR duplicate tables of both ring ports (R381, R35). -/
  dups : List DupEnt := []
  /-- HSR node table: address and last supervision epoch (R381). -/
  nodes : List (Nat × Nat) := []
  /-- sequence number of the next HSR frame sent (R381). -/
  hsrSeq : Nat := 0
  /-- supervision sequence number (R381). -/
  supSeq : Nat := 0
  /-- ring-oversize condition reported (R35). -/
  oversizeRing : Bool := false
  /-- values of the parameters that act at the next reset (QUALOTH_VLAN, QUALOTH_ETHERTYPE, QUALOTH_GROUP_MAC, PTP_DOMAIN, TIME_START_WAIT_S, MGMT_ETHERTYPE, ...) as of the last reset (R405, R477). -/
  bootCfg : Tab PVal := []
  /-- Qualoth messages being reassembled (R383, R208). -/
  segs : List SegBuf := []
  deriving DecidableEq, Repr

/-- NetSt at reset. -/
def NetSt.reset : NetSt := {}

/-- A time base (R393). -/
structure TimeBase where
  /-- femtoseconds since 2000-01-01 00:00:00 TAI (seconds and nanoseconds are its view) (R393). -/
  fs : Nat := 0
  /-- the base is valid (R393). -/
  valid : Bool := false
  /-- fractional frequency correction, parts in 10^12 (R393). -/
  freq : Int := 0
  deriving DecidableEq, Repr

/-- TimeBase at reset. -/
def TimeBase.reset : TimeBase := {}

/-- Time bases and the epoch clock (R393 to R403). -/
structure TimeSt where
  /-- TB0 network, invalid until it first locks (R393). -/
  tb0 : TimeBase := {}
  /-- TB1 local free-running (R393). -/
  tb1 : TimeBase := {}
  /-- TB2 calendar (R393). -/
  tb2 : TimeBase := {}
  /-- TB3 test, 2000-01-01 00:00:00 until set (R393). -/
  tb3 : TimeBase := { valid := true }
  /-- the epoch clock T0 in femtoseconds (R394). -/
  t0 : Nat := 0
  /-- T0_BASE (none = 16#FF) (R406). -/
  bound : Option Nat := none
  /-- base to which T0 is merging (R399). -/
  merging : Option Nat := none
  /-- a merge to TB0 is to start at the next tick boundary (R398). -/
  mergeWaiting : Bool := false
  /-- target of the merge to start (R398, R402). -/
  mergeTarget : Nat := 0
  /-- the epoch clock has started (R398). -/
  running : Bool := false
  /-- TIME_SEL_OUT in force, taken at each second (R395, R405). -/
  outSel : Nat := 0
  /-- waiting for TB0 within TIME_START_WAIT_S (R398). -/
  startWait : Bool := false
  /-- TB0_STATE (R406). -/
  tb0State : Nat := 0
  /-- nanoseconds of TB0 since which the offset has stayed within TIME_LOCK_NS (R396). -/
  lockFrom : Option Nat := none
  /-- epoch at which TB0 entered HOLDOVER (R401). -/
  holdFrom : Nat := 0
  /-- epoch of the last Sync message or PPS_IN edge (R396). -/
  lastSync : Nat := 0
  /-- epoch of the last Announce of the selected master (R391). -/
  lastAnnounce : Nat := 0
  /-- consecutive offsets above the limit (R396). -/
  overLimit : Nat := 0
  /-- a time of day has been set with TIME_SET (R396, R393). -/
  timeSet : Bool := false
  /-- TIME_FLAGS island time (R401, R406). -/
  island : Bool := false
  /-- TIME_FLAGS MERGE_REFUSED (R400, R406). -/
  mergeRefused : Bool := false
  /-- TIME_FLAGS TIME_NO_BASE (reset value 2#1000) (R398, R406). -/
  noBase : Bool := true
  /-- TIME_FLAGS UTC offset from master (R397, R406). -/
  utcFromMaster : Bool := false
  /-- currentUtcOffset of the master (R397). -/
  utcOffset : Int := 0
  /-- announced leap second, +1 leap61, -1 leap59 (R397). -/
  leapPend : Int := 0
  /-- MERGE_REMAIN_NS (R406). -/
  mergeRemain : Int := 0
  /-- TB0_OFFSET_NS (R406). -/
  tb0Offset : Int := 0
  /-- PTP_GM_IDENTITY (R406). -/
  gmId : U64 := 0#64
  /-- PTP_STEPS_REMOVED (R406). -/
  stepsRemoved : Nat := 0
  /-- selected master (R396). -/
  master : Option Nat := none
  /-- port on which the selected master announces itself (R391). -/
  masterPort : Nat := 0
  /-- priority1, clockClass, clockAccuracy, offsetScaledLogVariance, priority2, grandmaster identity and stepsRemoved of the selected master (R391, R392). -/
  masterDs : List Nat := []
  /-- TIME_OUTLIERS (R406). -/
  outliers : U32 := 0#32
  /-- ISLAND_TICKS (R406). -/
  islandTicks : U64 := 0#64
  /-- last whole second at which PPS_OUT rose (R403). -/
  ppsSeconds : Nat := 0
  /-- level of PPS_OUT (R403). -/
  ppsHigh : Bool := false
  /-- sequence number of the next PTP message sent (R391). -/
  ptpSeq : Nat := 0
  deriving DecidableEq, Repr

/-- TimeSt at reset. -/
def TimeSt.reset : TimeSt := {}

/-- A role binding of a queue or session (R468). -/
structure Binding where
  /-- bound role (R467, R468). -/
  role : Role := Role.none
  /-- KEY_LABEL that authenticated it (R468). -/
  label : U64 := 0#64
  /-- session key SK (R468). -/
  sk : List Byte := []
  /-- BIND_EPOCH (R478). -/
  epoch : Nat := 0
  deriving DecidableEq, Repr

/-- Binding at reset. -/
def Binding.reset : Binding := {}

/-- One host queue pair (R407, R414, R445). -/
structure QPair where
  /-- SQ_BASE (R445). -/
  sqBase : U64 := 0#64
  /-- CQ_BASE (R445). -/
  cqBase : U64 := 0#64
  /-- CQ_RESULT_BASE (R445). -/
  cqResBase : U64 := 0#64
  /-- Q_CFG SQ_SIZE, log2 of submission ring entries (R445). -/
  sqSize : Nat := 0
  /-- Q_CFG CQ_SIZE, log2 of completion ring entries (R445). -/
  cqSize : Nat := 0
  /-- Q_CFG ENABLE (R445). -/
  enable : Bool := false
  /-- Q_STATUS ENABLED, pair in service (R445). -/
  enabled : Bool := false
  /-- SQ_TAIL doorbell INDEX (R445). -/
  sqTail : Nat := 0
  /-- submission queue head (SQ_HEAD of each entry) (R411). -/
  sqHead : Nat := 0
  /-- CQ_HEAD doorbell INDEX (R445). -/
  cqHead : Nat := 0
  /-- next completion entry the module writes (R414). -/
  cqTail : Nat := 0
  /-- entries written and not yet consumed (R414, R417). -/
  cqCount : Nat := 0
  /-- PHASE bit of the current pass (R414). -/
  phase : Bool := true
  /-- Q_STATUS LOST, wrapping (R445, R417). -/
  lost : BitVec 16 := 0#16
  /-- an entry was dropped since the last QUEUE_LOST (R417). -/
  lostPend : Bool := false
  /-- the queue's role binding (ROLE of Q_STATUS is its role; none = 0) (R409, R445, R468). -/
  bind : Option Binding := none
  deriving DecidableEq, Repr

/-- QPair at reset. -/
def QPair.reset : QPair := {}

/-- One management session (R407, R468). -/
structure Session where
  /-- the session is open (R407, R423). -/
  isOpen : Bool := false
  /-- role binding of the session (R409, R468). -/
  bind : Option Binding := none
  /-- epoch of the session's last command (idle time) (R471). -/
  lastEpoch : Nat := 0
  /-- MGMT_IDLE_S as of the session's last frame (R471, R477). -/
  idleS : Nat := 0
  deriving DecidableEq, Repr

/-- Session at reset. -/
def Session.reset : Session := {}

/-- One entry of the handle table (R420, R421). -/
structure HandleEnt where
  /-- generation of the index; 0 = never issued (R12). -/
  gen : Nat := 0
  /-- FREE, OPEN or COMPLETED (R421). -/
  st : HandleState := HandleState.free
  /-- queue or session that holds the handle (R422: none) (R421). -/
  src : Src := Src.none
  /-- where the completion record goes (R411, R422). -/
  cq : Src := Src.none
  /-- HOST_TAG of the command (R411, R422). -/
  tag : BitVec 32 := 0#32
  /-- closed while OPEN: posts no record (R421, R418). -/
  closed : Bool := false
  /-- opcode of the long operation holding the handle (0: a solve that no command requested) (R420). -/
  op : Nat := 0
  /-- progress in thousandths where reported (R421). -/
  progress : Option Nat := none
  /-- the lost completion record, kept while COMPLETED (R421, R417). -/
  record : Option Entry := none
  /-- data of that record (R421). -/
  recData : List Byte := []
  deriving DecidableEq, Repr

/-- HandleEnt at reset. -/
def HandleEnt.reset : HandleEnt := {}

/-- Staging copy of one group instance (R430). -/
structure StagEnt where
  /-- commit group code (R435). -/
  group : Nat := 0
  /-- index of the group's instance (0 for a whole group) (R430). -/
  index : Nat := 0
  /-- owner of the staging (R430). -/
  owner : Src := Src.none
  /-- staged values by parameter ID and index (R430). -/
  vals : Tab PVal := []
  deriving DecidableEq, Repr

/-- StagEnt at reset. -/
def StagEnt.reset : StagEnt := {}

/-- A commit accepted with COMMIT_EPOCH 0, applied at the first tick (R431). -/
structure DueCommit where
  /-- epoch of acceptance (R431). -/
  accEpoch : Nat := 0
  /-- the group instances (R431). -/
  insts : List (Nat × Nat) := []
  /-- the values that replace the committed ones (R431). -/
  vals : Tab PVal := []
  deriving DecidableEq, Repr

/-- DueCommit at reset. -/
def DueCommit.reset : DueCommit := {}

/-- A pending commit with a COMMIT_EPOCH (R431). -/
structure PendCommit where
  /-- its handle (R431). -/
  handle : U32 := 0#32
  /-- COMMIT_EPOCH (R431). -/
  due : Nat := 0
  /-- the group instances, in list order (R431). -/
  insts : List (Nat × Nat) := []
  /-- acceptance order (R22, R413). -/
  seq : Nat := 0
  deriving DecidableEq, Repr

/-- PendCommit at reset. -/
def PendCommit.reset : PendCommit := {}

/-- An open snapshot (R440). -/
structure Snap where
  /-- its handle (R440). -/
  handle : U32 := 0#32
  /-- members (R440). -/
  members : List BlkMember := []
  /-- host buffer address (R440). -/
  addr : U64 := 0#64
  /-- buffer length (R440). -/
  len : Nat := 0
  /-- view epoch held (R23, R439, R440). -/
  view : Nat := 0
  /-- PLAN_ID of the plan whose buffer members 6 and 7 are read from (R443). -/
  planId : Option Nat := none
  /-- the block's bytes at the view epoch (the versions held) (R437, R440). -/
  body : List Byte := []
  deriving DecidableEq, Repr

/-- Snap at reset. -/
def Snap.reset : Snap := {}

/-- One mirror (R441, R442, R436 MIRROR_STATUS). -/
structure Mirror where
  /-- OPEN (R441, R436). -/
  isOpen : Bool := false
  /-- source that opened it (R409). -/
  owner : Src := Src.none
  /-- members (R441). -/
  members : List BlkMember := []
  /-- PERIOD_TICKS (R441). -/
  period : Nat := 0
  /-- SLOTS (R441). -/
  slots : Nat := 0
  /-- host base address (R441). -/
  base : U64 := 0#64
  /-- BLOCK_LEN (R441, R437). -/
  blockLen : Nat := 0
  /-- BLOCK_SEQ of the last block (R437, R442). -/
  blockSeq : U32 := 0#32
  /-- BLOCKS (R436). -/
  blocks : U32 := 0#32
  /-- SKIPPED (R436, R442). -/
  skipped : U32 := 0#32
  /-- LAST_EPOCH, view epoch of the last block (R436, R442). -/
  lastEpoch : Nat := 0
  deriving DecidableEq, Repr

/-- Mirror at reset. -/
def Mirror.reset : Mirror := {}

/-- One frame channel (R444, R445). -/
structure FrameCh where
  /-- channel enabled (R444). -/
  isOpen : Bool := false
  /-- source that opened it (R423). -/
  owner : Src := Src.none
  /-- PORT_MASK (R444, R390). -/
  portMask : BitVec 16 := 0#16
  /-- TX_BASE (R445). -/
  txBase : U64 := 0#64
  /-- RX_BASE (R445). -/
  rxBase : U64 := 0#64
  /-- FC_CFG (R445). -/
  fcCfg : U32 := 0#32
  /-- TX_TAIL doorbell (R445). -/
  txTail : Nat := 0
  /-- next transmit descriptor (R444). -/
  txHead : Nat := 0
  /-- RX_TAIL doorbell (R445). -/
  rxTail : Nat := 0
  /-- next receive descriptor (R444). -/
  rxHead : Nat := 0
  /-- FC_DROPPED (R444). -/
  dropped : U32 := 0#32
  deriving DecidableEq, Repr

/-- FrameCh at reset. -/
def FrameCh.reset : FrameCh := {}

/-- Host port, queues, handles, alarms, staging and views (chapter 13). -/
structure HostSt where
  /-- queue pairs 0 to 7 (R407). -/
  queues : Tab QPair := []
  /-- management sessions 0 to 3 (R407). -/
  sessions : Tab Session := []
  /-- handle table (R420). -/
  handles : Tab HandleEnt := []
  /-- free indices, the one free the longest first (R420). -/
  freeList : List Nat := List.range 1024
  /-- alarm table (R427). -/
  alarms : List AlarmRec := []
  /-- EVENTS_LOST (R436). -/
  eventsLost : U32 := 0#32
  /-- ALARMS_DROPPED (R436). -/
  alarmsDropped : U32 := 0#32
  /-- staging copies (R430, R434). -/
  staging : List StagEnt := []
  /-- commits due at the first tick, oldest first (R431). -/
  due : List DueCommit := []
  /-- pending commits (R431). -/
  pendCommits : List PendCommit := []
  /-- acceptance order counter (R413, R22). -/
  accSeq : Nat := 0
  /-- open snapshots (R440, R423). -/
  snaps : List Snap := []
  /-- mirrors (R441, R423). -/
  mirrors : Tab Mirror := []
  /-- frame channels (R444, R423). -/
  frameChs : Tab FrameCh := []
  /-- MSI-X table words (R445). -/
  msix : Tab U32 := []
  /-- MSI-X pending bits (R445). -/
  msixPend : U32 := 0#32
  /-- low words of 64-bit registers written and not yet in effect, by offset (R445). -/
  lowLatch : Tab U32 := []
  /-- high words latched by the reads of the low words of 64-bit registers, by offset (R445). -/
  hiLatch : Tab U32 := []
  /-- DEV_STATUS as last signalled (a change sends vector 12, R416) (R445). -/
  devStatus : U32 := 0#32
  deriving DecidableEq, Repr

/-- HostSt at reset. -/
def HostSt.reset : HostSt := {}

/-- Setup exchange of one source (R468). -/
structure SetupSt where
  /-- NONCE_M of the exchange in progress (R468). -/
  nonceM : Option (List Byte) := none
  /-- role requested in step 1 (R468). -/
  role : Role := Role.none
  /-- KEY_LABEL of step 1 (R468). -/
  label : U64 := 0#64
  /-- epochs of failed proofs (R468). -/
  fails : List Nat := []
  /-- end of the lockout (0: none) (R468). -/
  lockUntil : Nat := 0
  /-- management session assigned to the exchange (R469). -/
  sess : Nat := 0
  deriving DecidableEq, Repr

/-- SetupSt at reset. -/
def SetupSt.reset : SetupSt := {}

/-- Frame state of one management session (R469). -/
structure MgmtLink where
  /-- sender MAC address (PEER_MAC) (R468, R478). -/
  peerMac : BitVec 48 := 0#48
  /-- last accepted SEQ from the host (R469). -/
  rxSeq : Nat := 0
  /-- last SEQ sent to the host (R469). -/
  txSeq : Nat := 0
  /-- frames discarded (R469). -/
  discarded : U32 := 0#32
  deriving DecidableEq, Repr

/-- MgmtLink at reset. -/
def MgmtLink.reset : MgmtLink := {}

/-- One copy of a slot or derived entry (R453). -/
structure KeyCopy where
  /-- TYPE (R450). -/
  keyType : Nat := 0
  /-- DEST (R451). -/
  dest : Nat := 0
  /-- ROLE (R454). -/
  role : Nat := 0
  /-- ATTR (R455). -/
  attr : BitVec 16 := 0#16
  /-- SEQ (R453). -/
  seq : Nat := 0
  /-- GEN (R454). -/
  gen : Nat := 0
  /-- check value (R456). -/
  kcv : U32 := 0#32
  /-- switch epoch (R453). -/
  switchEpoch : Nat := 0
  /-- the key (slots), encrypted under kek (R453). -/
  key : List Byte := []
  /-- the KEK under which the copy was encrypted (R453, R463). -/
  kek : BitVec 256 := 0#256
  /-- the copy's tag or CRC verifies (R453, R462). -/
  good : Bool := true
  deriving DecidableEq, Repr

/-- KeyCopy at reset. -/
def KeyCopy.reset : KeyCopy := {}

/-- A slot or derived entry (R453). -/
structure KeyItem where
  /-- HEAD SEQ (R453). -/
  headSeq : Nat := 0
  /-- HEAD current copy, false A, true B (R453). -/
  headSel : Bool := false
  /-- copy A (R453). -/
  copyA : Option KeyCopy := none
  /-- copy B (R453). -/
  copyB : Option KeyCopy := none
  /-- STATE INSTALLING (R454). -/
  installing : Bool := false
  /-- the switch epoch of the current copy has been reached (R454, R459). -/
  switchDone : Bool := true
  /-- KEY_OVERLAP_S as of the current copy's switch epoch (R459, R477). -/
  overlapS : Nat := 0
  /-- STATE BAD (R462). -/
  bad : Bool := false
  /-- STATE PARENT_BAD (R462). -/
  parentBad : Bool := false
  deriving DecidableEq, Repr

/-- KeyItem at reset. -/
def KeyItem.reset : KeyItem := {}

/-- An install in progress (R458). -/
structure KeyOp where
  /-- its handle (R458). -/
  handle : U32 := 0#32
  /-- label (R458). -/
  label : U64 := 0#64
  /-- CHECK (R457). -/
  check : U32 := 0#32
  /-- TEST_CHECK (R457). -/
  testCheck : U32 := 0#32
  /-- the head word has been flipped (R458). -/
  flipped : Bool := false
  deriving DecidableEq, Repr

/-- KeyOp at reset. -/
def KeyOp.reset : KeyOp := {}

/-- Key store, roles and sessions (chapter 14). -/
structure KeySt where
  /-- slots (R453). -/
  slots : Tab KeyItem := []
  /-- derived entries, by label (R453). -/
  entries : Tab KeyItem := []
  /-- installs in progress (R458). -/
  ops : List KeyOp := []
  /-- key-encryption key, in the Drip domain (R463). -/
  kek : BitVec 256 := 0#256
  /-- the KEK is held (R463). -/
  kekValid : Bool := false
  /-- KEY_STORE_STATE (R478). -/
  storeState : Nat := 0
  /-- engine key registers were zeroed and not reloaded (R464). -/
  enginesClear : Bool := false
  /-- fuse-held keys cleared from the engine registers until the next reset (R466). -/
  fuseClear : Bool := false
  /-- TAMPER_STATUS LATCHED (R478). -/
  tamLatched : Nat := 0
  /-- TAMPER_STATUS MASK (R478). -/
  tamMask : Nat := 0
  /-- TAMPER_STATUS CAUSE (R478). -/
  tamCause : Nat := 0
  /-- TAMPER_STATUS CAL_TIME (R478). -/
  tamTime : U64 := 0#64
  /-- tamper record and condition still to be raised at the next start (R464). -/
  tamPending : Bool := false
  /-- KEY_SLOTS_BAD (R478). -/
  slotsBad : U64 := 0#64
  /-- epoch of the last scrub (R462). -/
  lastScrub : Nat := 0
  /-- setup exchanges by source (R468). -/
  setups : Tab SetupSt := []
  /-- frame state of the sessions (R469). -/
  mgmt : Tab MgmtLink := []
  deriving DecidableEq, Repr

/-- KeySt at reset. -/
def KeySt.reset : KeySt := {}

/-- Audit record (R473). -/
structure AuditRec where
  /-- SEQ (R473). -/
  seq : Nat := 0
  /-- EPOCH (R473). -/
  epoch : Nat := 0
  /-- KIND (R473). -/
  kind : Nat := 0
  /-- ROLE (R473). -/
  role : Nat := 0
  /-- SOURCE (R473). -/
  source : Nat := 0
  /-- STATUS (R473). -/
  status : Nat := 0
  /-- OPCODE (R473). -/
  opcode : Nat := 0
  /-- FLAGS (R473). -/
  flags : Nat := 0
  /-- SUBJECT (R473). -/
  subject : Nat := 0
  /-- HANDLE (R473). -/
  handle : Nat := 0
  /-- HOST_TAG (R473). -/
  tag : Nat := 0
  /-- DETAIL (R473). -/
  detail : List Byte := []
  /-- HASH (R473). -/
  hash : List Byte := []
  deriving DecidableEq, Repr

/-- AuditRec at reset. -/
def AuditRec.reset : AuditRec := {}

/-- Audit log (R472 to R475). -/
structure AuditSt where
  /-- records by place SEQ mod 65,536 (R474). -/
  recs : Tab AuditRec := []
  /-- SEQ of the next record (R473). -/
  next : Nat := 0
  /-- HASH of the newest record; 48 zero bytes before SEQ 0 (R474). -/
  prevHash : List Byte := List.replicate 48 0
  /-- HASH of the record before the oldest retained (R475). -/
  oldHash : List Byte := List.replicate 48 0
  /-- epoch whose applied-events record has been written (R472). -/
  appliedEpoch : Option Nat := none
  deriving DecidableEq, Repr

/-- AuditSt at reset. -/
def AuditSt.reset : AuditSt := {}

/-- A checkpoint (R492). -/
structure Ckpt where
  /-- checkpoint epoch K (R491). -/
  k : Nat := 0
  /-- PAIR_ID stamp of a flushed copy (R495). -/
  pairId : Nat := 0
  /-- section 1 (R492). -/
  sec1 : Option CkptParams := none
  /-- section 2 (R492). -/
  sec2 : Option CkptImages := none
  /-- section 3 (R492). -/
  sec3 : Option CkptPoints := none
  /-- section 4 (R492, R245). -/
  sec4 : Option LaneSt := none
  /-- section 5 (R492, R282). -/
  sec5 : Option ProgRun := none
  /-- section 6 (R492, R149). -/
  sec6 : Option CkptPlan := none
  /-- section 7 (R492, R171). -/
  sec7 : Option PercSt := none
  /-- section 8 (R492). -/
  sec8 : Option FedSt := none
  /-- section 9 (R492). -/
  sec9 : Option CkptMisc := none
  deriving DecidableEq, Repr

/-- Ckpt at reset. -/
def Ckpt.reset : Ckpt := {}

/-- A PAIR_SWITCHOVER in progress (R505). -/
structure SwitchOp where
  /-- its handle (R505). -/
  handle : U32 := 0#32
  /-- earliest epoch of the final checkpoint (R505). -/
  k : Nat := 0
  deriving DecidableEq, Repr

/-- SwitchOp at reset. -/
def SwitchOp.reset : SwitchOp := {}

/-- Redundant pair (chapter 15). -/
structure PairSt where
  /-- STATE (R481, R511). -/
  unit : UnitState := UnitState.single
  /-- PARTNER_STATE (none = 16#FF unknown) (R511). -/
  partner : Option UnitState := none
  /-- FLAGS (R511). -/
  flags : BitVec 16 := 0#16
  /-- generation held in MRAM (R488). -/
  generation : Nat := 0
  /-- CLAIM in effect (R511, R488). -/
  claim : Nat := 0
  /-- PARTNER_CLAIM (R511). -/
  partnerClaim : Nat := 0
  /-- GEN_SEEN (R488, R511). -/
  genSeen : Nat := 0
  /-- PAIR_PREFERENCE in force since the last reset (R510). -/
  prefInForce : Nat := 0
  /-- epoch of the last qualified edge on HB_IN (R485). -/
  lastEdge : Nat := 0
  /-- epoch of the last valid HEARTBEAT message (R485). -/
  lastMsg : Nat := 0
  /-- the partner is found failed (R485). -/
  partnerFailed : Bool := false
  /-- the latest HEARTBEAT message (R486). -/
  partnerHb : Option HbMsg := none
  /-- level of HB_OUT (R484). -/
  hbOut : Bool := false
  /-- epoch of the last heartbeat period (R484). -/
  hbLast : Option Nat := none
  /-- epoch of the last frame that the field die did not confirm (R484). -/
  missAt : Option Nat := none
  /-- SEQ of the last message sent (R487). -/
  txSeq : U32 := 0#32
  /-- SEQ of the last checkpoint message received (R487, R497). -/
  rxSeq : U32 := 0#32
  /-- a message has been received since the sync request (R497). -/
  rxSeqSeen : Bool := false
  /-- a claim report above the own claim, to act on at the next tick boundary (R490). -/
  claimReport : Option Nat := none
  /-- demotion epoch (R501, R505). -/
  demotedAt : Nat := 0
  /-- demoted by a claim report (hold-off applies) (R501, R505). -/
  demotedHold : Bool := false
  /-- epoch of the latest live-claim evidence (R501). -/
  lastLive : Option Nat := none
  /-- latest complete checkpoint in the Carafe (R493). -/
  latest : Option Ckpt := none
  /-- building copy (R493). -/
  building : Option Ckpt := none
  /-- fragments received for the building copy (R487, R493). -/
  buildFrags : Nat := 0
  /-- payloads of the building copy in SEQ order (R487, R493). -/
  buildBytes : List Byte := []
  /-- complete checkpoints since the full one requested (SYNCED at the second) (R497). -/
  afterFull : Nat := 0
  /-- the next checkpoint is sent in full (R497). -/
  fullDue : Bool := true
  /-- K of the previous checkpoint sent (R491). -/
  lastSent : Option Nat := none
  /-- MRAM flushed copy A (R495). -/
  flushA : Option Ckpt := none
  /-- MRAM flushed copy B (R495). -/
  flushB : Option Ckpt := none
  /-- the next flush writes copy B (R495). -/
  flushNextB : Bool := false
  /-- epoch of the last flush (R495). -/
  lastFlush : Nat := 0
  /-- FLUSH_EPOCH (R511). -/
  flushEpoch : Nat := 0
  /-- CKPT_LAST (R511). -/
  ckptLast : Nat := 0
  /-- LAST_TAKEOVER (R511). -/
  lastTakeover : Nat := 0
  /-- PAIR_FLOOR, default CKPT_CV (R511, R506). -/
  floor : Nat := 1
  /-- CKPT_CV of the firmware (R486, R506). -/
  ownCv : Nat := 1
  /-- FLOOR_PENDING (R486, R506). -/
  floorPend : Nat := 0
  /-- FLOOR_SWITCH (R486, R506). -/
  floorSwitch : Nat := 0
  /-- CKPT_SKIPPED (R511). -/
  ckptSkipped : U32 := 0#32
  /-- TAKEOVERS (R511). -/
  takeovers : U32 := 0#32
  /-- DEMOTIONS (R511). -/
  demotions : U32 := 0#32
  /-- first epoch of the latest takeover gap (R25, R498). -/
  gapFirst : Nat := 0
  /-- last epoch of the latest takeover gap (R25, R498). -/
  gapLast : Nat := 0
  /-- PAIR_SWITCHOVER in progress (R505). -/
  switchover : Option SwitchOp := none
  /-- FINAL has arrived: takeover without detection time (R505). -/
  finalRx : Bool := false
  /-- taking over, restore under way, resume tick to come (R498). -/
  resuming : Bool := false
  /-- the takeover is a cold one (R500). -/
  cold : Bool := false
  /-- detection tick of the takeover under way (R498). -/
  resumeFrom : Nat := 0
  /-- end of PAIR_START_WAIT_MS (R507). -/
  startUntil : Nat := 0
  /-- MAC address of the partner's pair link port (R507). -/
  partnerMac : BitVec 48 := 0#48
  /-- epoch of the last SYNC_REQUEST sent or checkpoint completed (R497). -/
  syncAt : Nat := 0
  deriving DecidableEq, Repr

/-- PairSt at reset. -/
def PairSt.reset : PairSt := {}

/-- The eight time registers as BCD bytes (R532). -/
structure CalSet where
  /-- CAL_SEC (R532). -/
  sec : Nat := 0
  /-- CAL_MIN (R532). -/
  min : Nat := 0
  /-- CAL_HOUR (R532). -/
  hour : Nat := 0
  /-- CAL_DAY (R532). -/
  day : Nat := 1
  /-- CAL_WDAY (R532). -/
  wday : Nat := 6
  /-- CAL_MONTH (R532). -/
  month : Nat := 1
  /-- CAL_CENTURY (16#20) (R532). -/
  century : Nat := 32
  /-- CAL_YEAR (R532). -/
  year : Nat := 0
  deriving DecidableEq, Repr

/-- CalSet at reset. -/
def CalSet.reset : CalSet := {}

/-- Drip event record (R528). -/
structure DripEvt where
  /-- SOURCE (R528). -/
  source : Nat := 0
  /-- DIRECTION (R528). -/
  dir : Nat := 0
  /-- CAL_SECONDS (R528). -/
  secs : Nat := 0
  /-- SUB (R528). -/
  sub : Nat := 0
  /-- posted and audited (R528). -/
  posted : Bool := false
  deriving DecidableEq, Repr

/-- DripEvt at reset. -/
def DripEvt.reset : DripEvt := {}

/-- State of one calendar alarm (R538). -/
structure CalAlarm where
  /-- calendar times at which it fired and that a backward adjustment could revisit (R538). -/
  fired : List Nat := []
  /-- calendar time until which it is blocked (0: none) (R538). -/
  blockUntil : Nat := 0
  /-- fired while the core was unpowered, event to be posted at the next start (R538). -/
  eventDue : Bool := false
  deriving DecidableEq, Repr

/-- CalAlarm at reset. -/
def CalAlarm.reset : CalAlarm := {}

/-- Drip domain: calendar, event log, registers (chapter 16). -/
structure DripSt where
  /-- the live calendar (R532). -/
  live : CalSet := {}
  /-- sub-second count in CD0 cycles (R528, R534). -/
  sub : Nat := 0
  /-- CAL_STATUS VALID (R531, R532). -/
  valid : Bool := false
  /-- CAL_STATUS FROZEN (R533). -/
  frozen : Bool := false
  /-- shadows of the frozen set (R533). -/
  shadow : CalSet := {}
  /-- CAL_STATUS FREEZE_TIMEOUT (R532). -/
  freezeTimeout : Bool := false
  /-- CAL_STATUS WRITE_REJECTED (R532). -/
  writeRejected : Bool := false
  /-- CAL_STATUS REJECT_REASON (R532). -/
  rejectReason : Nat := 0
  /-- staging copies (STAGED is set while they exist) (R534, R532). -/
  staged : Option CalSet := none
  /-- CAL_STATUS UNLOCKED, write window open (R532, R535). -/
  unlocked : Bool := false
  /-- epoch at which the window opened (R535). -/
  openedAt : Nat := 0
  /-- epoch at which the set was frozen (R533). -/
  frozenAt : Nat := 0
  /-- role that opened the window (R535). -/
  openRole : Role := Role.none
  /-- source that opened the window (R535). -/
  openSrc : Src := Src.none
  /-- CAL_STATUS DST (R532). -/
  dst : Bool := false
  /-- CAL_STATUS RANGE_END (R532). -/
  rangeEnd : Bool := false
  /-- CAL_STATUS WRITE_LOCKED (R532). -/
  writeLocked : Bool := false
  /-- CAL_STATUS ALM_FIRED (R532). -/
  almFired : BitVec 4 := 0#4
  /-- pending summer-time change, 0 none, 1 forward, 2 backward (R536). -/
  dstPend : Nat := 0
  /-- alarms 0 to 3 (R538). -/
  alarms : Tab CalAlarm := []
  /-- the Drip's own copy of the POWER_CFG and CAL_CFG values (R541). -/
  cfg : Tab PVal := []
  /-- Drip event log, oldest first (R528). -/
  evts : List DripEvt := []
  /-- DRIP_EVT_LOST, saturating at 255 (R530). -/
  evtLost : Nat := 0
  /-- VBULK_OK (R530). -/
  vbulkOk : Bool := false
  /-- VAON_OK (R530). -/
  vaonOk : Bool := false
  /-- VFLD_OK (R530). -/
  vfldOk : BitVec 4 := 0#4
  /-- WAKE_STATE (R530). -/
  wakeState : BitVec 2 := 0#2
  /-- ON_VAON (R530). -/
  onVaon : Bool := false
  /-- FW_FALLBACK (R530). -/
  fwFallback : Bool := false
  /-- RESET_CAUSE[4:0] VAON_POR, VBULK_POR, PIN, COMMAND, WAKE (R530). -/
  causeBits : BitVec 5 := 1#5
  /-- WAKE_SRC (R530). -/
  wakeSrc : Nat := 0
  /-- BOOT_FAULT (R530, R523). -/
  bootFault : Nat := 0
  /-- BOOT_FAULT still to be posted (R523). -/
  bootFaultDue : Bool := false
  /-- loss of the KEK still to be recorded (R463). -/
  kekLostDue : Bool := false
  /-- DORMANT state (R529). -/
  dormant : Bool := false
  /-- CD0 present (R531). -/
  cd0 : Bool := true
  deriving DecidableEq, Repr

/-- DripSt at reset. -/
def DripSt.reset : DripSt := {}

/-- A block reset in progress (R525). -/
structure BlockOp where
  /-- its handle (R525). -/
  handle : U32 := 0#32
  /-- BLOCK (R525). -/
  block : Nat := 0
  /-- INDEX (R525). -/
  index : Nat := 0
  deriving DecidableEq, Repr

/-- BlockOp at reset. -/
def BlockOp.reset : BlockOp := {}

/-- A firmware image (R526). -/
structure FwImage where
  /-- FW_VERSION (R445, R526). -/
  version : U32 := 0#32
  /-- serial (R65, R526). -/
  serial : Nat := 0
  /-- CKPT_CV it speaks (R486). -/
  ckptCv : Nat := 1
  /-- Qualoth version it speaks (R210). -/
  qualothCv : Nat := 1
  deriving DecidableEq, Repr

/-- FwImage at reset. -/
def FwImage.reset : FwImage := {}

/-- Reset controller and firmware banks (R519 to R526). -/
structure RstSt where
  /-- BOOT_STAGE, number of the last completed step (R445, R521). -/
  stage : Nat := 0
  /-- reset asserted and not yet released (RESET_N low, or VBULK not good) (R519). -/
  asserted : Bool := false
  /-- RESET_N is low (R519). -/
  pinLow : Bool := false
  /-- VBULK has stayed above 9.6 V for 16 Drip cycles (R519). -/
  vbulkGood : Bool := false
  /-- step at which release halted, 0 none; 4 with BOOT_STAGE 4 for the halt of TEST_MODE (R523). -/
  halted : Nat := 0
  /-- fuse copy whose values the shadows hold, 1 A, 2 B, 0 none (R522). -/
  trimCopy : Nat := 0
  /-- trim shadow registers in effect (R522). -/
  trim : List Byte := []
  /-- CORE_MV (R542). -/
  coreMv : Nat := 0
  /-- ACTIVE_BANK (confirmed bank, or the bank running) (R542, R526). -/
  fwActive : Nat := 0
  /-- TRIAL (R542, R526). -/
  fwTrial : Nat := 0
  /-- image in the inactive bank (R526). -/
  fwLoaded : Option FwImage := none
  /-- FW_SERIAL (R542). -/
  fwSerial : Nat := 0
  /-- FW_SERIAL_FLOOR (R542). -/
  fwFloor : Nat := 0
  /-- the next reset boots the trial bank (R526). -/
  fwTrialNext : Bool := false
  /-- the trial bank is running (R526). -/
  fwRunningTrial : Bool := false
  /-- FW_LOAD in progress (R526). -/
  fwOp : Option LoadOp := none
  /-- block resets in progress (R525). -/
  blockOps : List BlockOp := []
  /-- field die released (step 9) (R521, R524). -/
  dieReleased : Bool := false
  /-- the first committed output configuration has been applied (R524). -/
  outCfgDone : Bool := false
  /-- VIO1 to VIO4 good (R512, R550). -/
  vio : BitVec 4 := 15#4
  /-- PCIE_PERST_N asserted (R549). -/
  perst : Bool := false
  /-- dies for which OVER_TEMP is raised (R554). -/
  overTemp : List Nat := []
  /-- DIE_TEMP (R554). -/
  dieTemp : Tab F32 := []
  deriving DecidableEq, Repr

/-- RstSt at reset. -/
def RstSt.reset : RstSt := {}

/-- Power governor (R514 to R518). -/
structure PowerSt where
  /-- set-point of the core rail in mV (R516, R521). -/
  setMv : Nat := 800
  /-- margins measured over the last second: epoch, class, margin (MARGIN_MIN and MARGIN_CLASS are those of the smallest, 1 and 0 where there is none) (R542). -/
  recent : List (Nat × (Nat × F32)) := []
  /-- SPEED_INDEX (R542). -/
  speedIndex : F32 := F32.one
  /-- last measured margin per class (R515). -/
  lastMargin : Tab F32 := []
  /-- epoch of that measurement (R515). -/
  marginAt : Tab Nat := []
  /-- SPEED_INDEX at that measurement (R515). -/
  marginSpeed : Tab F32 := []
  /-- a breach is in progress (R516). -/
  breach : Bool := false
  /-- GOV_BREACHES (R542). -/
  breaches : U32 := 0#32
  /-- epoch since which M has stayed at or above GOV_TARGET + 0.05 (R516). -/
  settleFrom : Nat := 0
  /-- sag guard active (R518). -/
  sagGuard : Bool := false
  /-- epoch from which VBULK has stayed at or above VBULK_WARN_V + 0.3 V (R518). -/
  sagFrom : Nat := 0
  /-- SAG_HOLD_S in force for this sag (R518, R541). -/
  sagHold : Nat := 0
  /-- VBULK_V (R542). -/
  vbulk : F32 := F32.zero
  /-- VAON_V (R542). -/
  vaon : F32 := F32.zero
  deriving DecidableEq, Repr

/-- PowerSt at reset. -/
def PowerSt.reset : PowerSt := {}

/-- Committed parameters (R428 to R436). -/
structure ParSt where
  /-- committed values by ID * 65,536 + index, absent: the default of the parameter's table (R434). -/
  vals : Tab PVal := []
  /-- lane bank A by ID * 65,536 + lane (R234). -/
  bankA : Tab PVal := []
  /-- lane bank B by ID * 65,536 + lane (R234). -/
  bankB : Tab PVal := []
  deriving DecidableEq, Repr

/-- ParSt at reset. -/
def ParSt.reset : ParSt := {}

/-- Identity of the unit (R1, R445). -/
structure Ident where
  /-- DEV_ID PART (R1, R445). -/
  variant : Variant := Variant.q8260
  /-- DEV_ID STEPPING (R445). -/
  stepping : Nat := 0
  /-- FW_VERSION (R445). -/
  fw : U32 := 0x01000000#32
  /-- commissioning credential in the fuses (R466). -/
  fuseComm : List Byte := []
  /-- maker's key in the fuses (R466). -/
  fuseMaker : List Byte := []
  deriving DecidableEq, Repr

/-- Ident at reset. -/
def Ident.reset : Ident := {}

/-- A version of everything that the chapters publish or report, as one moment left it (R18, R19, R23). -/
structure Past where
  /-- the epoch (R23). -/
  epoch : Nat := 0
  /-- committed parameters (R428). -/
  par : ParSt := {}
  /-- control lanes (R249). -/
  lane : LaneSt := {}
  /-- program engine (R284, R285). -/
  prog : ProgSt := {}
  /-- models, service state, series (R78). -/
  model : ModelSt := {}
  /-- solve cycle and plans (R107, R147). -/
  slv : SolveSt := {}
  /-- Percolator and estimate set (R165, R187). -/
  perc : PercSt := {}
  /-- analog front end (R187). -/
  afe : AfeSt := {}
  /-- federation exchange (R219, R220). -/
  fed : FedSt := {}
  /-- stations (R314, R315). -/
  stn : StnSt := {}
  /-- process image (R286). -/
  pts : Tab Point := []
  /-- field I/O die (R347). -/
  fio : FieldSt := {}
  /-- CAN channels (R376). -/
  can : CanSt := {}
  /-- ports (R406). -/
  net : NetSt := {}
  /-- time bases (R406). -/
  time : TimeSt := {}
  /-- key store (R478). -/
  key : KeySt := {}
  /-- audit log (R478). -/
  aud : AuditSt := {}
  /-- redundant pair (R511). -/
  pair : PairSt := {}
  /-- power governor (R542). -/
  pwr : PowerSt := {}
  /-- reset controller (R542). -/
  rst : RstSt := {}
  /-- Drip domain and calendar (R542). -/
  drip : DripSt := {}
  deriving DecidableEq, Repr

/-- Past at reset. -/
def Past.reset : Past := {}

/-- What the latest latch of local and CAN inputs found, from which the latch of the same boundary is made again with
the values of a commit of that boundary (R20, R319, R361). -/
structure Latch where
  /-- the boundary's epoch (R20). -/
  epoch : Nat := 0
  /-- process image before the latch (R319). -/
  pts : Tab Point := []
  /-- CAN buffers before the latch (R361). -/
  bufs : Tab CanBuf := []
  /-- conditions of CAN points before the latch (R374). -/
  cans : Tab CanPt := []
  deriving DecidableEq, Repr

/-- Latch at reset. -/
def Latch.reset : Latch := {}

end Sys2Proof
end

