-- ==== Sys2Proof/Syntax.lean ====
section
/-! DEFINITION. The commands of the block: one constructor of `Instr` for every row of the table of
operations and events. A command carries what comes from outside the block with it: the fields of a
command packet (R410), the content of a received frame, an observed pin or quantity, or the result
of an engine whose inner working the specification leaves open. -/

namespace Sys2Proof

/-- The header of a command packet (R410) and, on the management port, of its frame (R469). -/
structure Hdr where
  /-- the source: a submission queue or a management session (R409). -/
  src : Src := .none
  /-- HOST_TAG (R410). -/
  tag : U32 := 0#32
  /-- FLAGS (R410): bit 0 DATA_EXT, bit 1 RESP_BUF. -/
  flags : BitVec 8 := 0#8
  /-- every reserved field of the packet and of its parameters, ORed together (R9). -/
  rsv : U32 := 0#32
  /-- DATA_ADDR (R410). -/
  dataAddr : U64 := 0#64
  /-- DATA_LEN (R410). -/
  dataLen : Nat := 0
  /-- RESP_LEN (R410). -/
  respLen : Nat := 0
  /-- RESP_ADDR (R410). -/
  respAddr : U64 := 0#64
  /-- the parameters as bytes, as the audit record hashes them (R473). -/
  raw : List Byte := []
  /-- SEQ of the management frame (R469). -/
  mgmtSeq : Nat := 0
  /-- the 16-byte tag of the management frame (R469). -/
  mgmtTag : List Byte := []
  deriving DecidableEq, Repr

/-- One entry of a parameter read request (R428). -/
structure PReq where
  /-- ID (R428). -/
  id : Nat := 0
  /-- INDEX (R428). -/
  index : Nat := 0
  /-- COUNT (R428). -/
  count : Nat := 0
  /-- SIZE (R428). -/
  size : Nat := 0
  deriving DecidableEq, Repr

/-- One entry of a parameter write (R428): the values of consecutive indices. -/
structure PWr where
  /-- ID (R428). -/
  id : Nat := 0
  /-- INDEX (R428). -/
  index : Nat := 0
  /-- COUNT (R428). -/
  count : Nat := 0
  /-- SIZE (R428). -/
  size : Nat := 0
  /-- DATA, field by field (R428). -/
  vals : List PVal := []
  deriving DecidableEq, Repr

/-- Parameters of SERIES_WRITE (R563). -/
structure SeriesWr where
  /-- SERIES (R563). -/
  series : Nat := 0
  /-- KIND (R563). -/
  kind : Nat := 0
  /-- VARIANTS (R563). -/
  variants : Nat := 0
  /-- VARIANT (R563). -/
  variant : Nat := 0
  /-- RES_MINUTES (R563). -/
  res : Nat := 0
  /-- FLAGS (R563): bit 0 RESTART. -/
  flags : Nat := 0
  /-- START (R563). -/
  start : Nat := 0
  /-- COUNT (R563). -/
  count : Nat := 0
  /-- OFFSET (R563). -/
  offset : Nat := 0
  /-- N (R563). -/
  n : Nat := 0
  /-- VALUES (R563). -/
  vals : List F32 := []
  deriving DecidableEq, Repr

/-- Parameters of FLEX_ACTIVATE (R129). -/
structure FlexArg where
  /-- SLOT (R129). -/
  slot : Nat := 0
  /-- GRID_CONN (R129). -/
  grid : Nat := 0
  /-- BAND_MIN (R129). -/
  bandMin : F32 := F32.zero
  /-- BAND_MAX (R129). -/
  bandMax : F32 := F32.zero
  /-- START (R129). -/
  start : Nat := 0
  /-- END (R129). -/
  stop : Nat := 0
  /-- EXTERNAL_ID (R129). -/
  extId : U32 := 0#32
  deriving DecidableEq, Repr

/-- Parameters of KEY_INSTALL (R457). -/
structure KeyArg where
  /-- LABEL (R457). -/
  label : U64 := 0#64
  /-- TYPE (R457). -/
  keyType : Nat := 0
  /-- DEST (R457). -/
  dest : Nat := 0
  /-- ROLE (R457). -/
  role : Nat := 0
  /-- ATTR (R457). -/
  attr : BitVec 16 := 0#16
  /-- KEY_LEN (R457). -/
  keyLen : Nat := 0
  /-- GEN (R457). -/
  gen : Nat := 0
  /-- CHECK (R457). -/
  check : U32 := 0#32
  /-- TEST_CHECK (R457). -/
  testCheck : U32 := 0#32
  /-- SWITCH_EPOCH (R457). -/
  switchEpoch : Nat := 0
  /-- KEY (R457). -/
  key : List Byte := []
  deriving DecidableEq, Repr

/-- A setup packet (R468) and, on the management port, its frame (R469). -/
structure SetupArg where
  /-- the source: a submission queue; a management session for a setup frame (R468). -/
  src : Src := .none
  /-- sender MAC address of the setup frame (R468). -/
  mac : BitVec 48 := 0#48
  /-- ROLE (R468). -/
  role : Nat := 0
  /-- HOST_TAG (R468). -/
  tag : U32 := 0#32
  /-- KEY_LABEL (R468). -/
  label : U64 := 0#64
  /-- SEQ of the setup frame (R469). -/
  mgmtSeq : Nat := 0
  deriving DecidableEq, Repr

/-- A frame received on a station link port, after its Ethernet header (R300, R301). -/
structure StnFrame where
  /-- port by which it arrived: 0 access A, 1 access B. -/
  port : Nat := 0
  /-- sender MAC address. -/
  mac : BitVec 48 := 0#48
  /-- VERSION (R300). -/
  version : Nat := 0
  /-- FTYPE (R301). -/
  kind : Nat := 0
  /-- STATION (R300). -/
  station : Nat := 0
  /-- SEQ (R300). -/
  seq : Nat := 0
  /-- EPOCH (R300). -/
  epoch : Nat := 0
  /-- CLAIM (R300). -/
  claim : Nat := 0
  /-- SEG (R300). -/
  seg : Nat := 0
  /-- SEG_COUNT (R300). -/
  segCount : Nat := 0
  /-- FIRST (R300). -/
  first : Nat := 0
  /-- COUNT (R300). -/
  count : Nat := 0
  /-- the reserved fields of the frame, ORed together (R302). -/
  rsv : Nat := 0
  /-- payload (R302, R303). -/
  payload : List Byte := []
  /-- the tag of R304, empty when absent. -/
  tag : List Byte := []
  deriving DecidableEq, Repr

/-- The header of a Qualoth message (R207) and how it arrived (R383). -/
structure QMsg where
  /-- port by which the message arrived (R405 numbering). -/
  port : Nat := 0
  /-- VERSION (R207). -/
  version : Nat := 0
  /-- MSG_TYPE (R207). -/
  kind : Nat := 0
  /-- LEVEL (R207). -/
  level : Nat := 0
  /-- SRC (R207). -/
  src : Nat := 0
  /-- DST (R207). -/
  dst : Nat := 0
  /-- SEQ (R207). -/
  seq : Nat := 0
  /-- CLAIM (R207). -/
  claim : Nat := 0
  /-- PAYLOAD_LEN (R207). -/
  len : Nat := 0
  /-- ROUND_EPOCH (R207). -/
  round : Nat := 0
  /-- the message as bytes, for a gateway that forwards it. -/
  bytes : List Byte := []
  /-- the reserved fields of the message, ORed together. -/
  rsv : Nat := 0
  /-- SEG of the frame (R383). -/
  seg : Nat := 0
  /-- SEG_COUNT of the frame (R383). -/
  segCount : Nat := 1
  deriving DecidableEq, Repr

/-- The payload of an ADVERTISE message (R212). -/
structure Advert where
  /-- CUR_VERSION (R212). -/
  cur : Nat := 0
  /-- AGG_CUR_MIN (R212). -/
  aggMin : Nat := 0
  /-- AGG_CUR_MAX (R212). -/
  aggMax : Nat := 0
  /-- AGG_MEMBERS (R212). -/
  members : Nat := 0
  /-- FLOOR_REC of levels 4 to 6: FLOOR, PENDING, MASTER, SWITCH_EPOCH (R212). -/
  floors : List (Nat × (Nat × (Nat × Nat))) := []
  deriving DecidableEq, Repr

/-- What the Roaster's iteration leaves when a solve ends: the final iterate and what the rules derive the record from
(R106, R108, R110 to R113, R142, R146). -/
structure SolveResult where
  /-- STATUS of R112 with which iterating ended. -/
  status : Nat := 0
  /-- ITERATIONS (R111). -/
  iterations : Nat := 0
  /-- the final iterate, laid out as the trajectory section (R108, R113). -/
  traj : List F32 := []
  /-- dual values of the price entries, scenario by scenario (R110). -/
  duals : List Rat := []
  /-- change of the consensus copies between the last two iterations (R113). -/
  copyChange : Rat := 0
  /-- splitting penalty weight (R113). -/
  splitWeight : Rat := 0
  /-- norm of the multipliers (R113). -/
  multNorm : Rat := 0
  /-- the dual bound of the cost (R111). -/
  dualBound : Rat := 0
  /-- R106 rounded commitments. -/
  rounded : Bool := false
  /-- R106 failed. -/
  roundFailed : Bool := false
  /-- commitment levels before the rounding, plant by plant and shared step by shared step (R106). -/
  relaxed : List F32 := []
  /-- PRIMAL_RES 200 iterations before (R112). -/
  primalBefore : Rat := 0
  /-- DUAL_RES 200 iterations before (R112). -/
  dualBefore : Rat := 0
  /-- measured time of an iteration in microseconds (R125, R146). -/
  iterUs : Nat := 0
  /-- end of iterating in microseconds from the start (R125). -/
  endUs : Nat := 0
  /-- SOLVE_TIME_US (R142). -/
  timeUs : Nat := 0
  deriving DecidableEq, Repr

/-- What the least-squares solution of an update leaves (R160): value and standard deviation of every quantity that the
rules do not compute from others, by element ID * 8 + slot. -/
structure PercResult where
  /-- values and standard deviations. -/
  vals : List (Nat × (Rat × Rat)) := []
  /-- the same before a measurement of the quantity itself entered (R161). -/
  priors : List (Nat × (Rat × Rat)) := []
  deriving DecidableEq, Repr

/-- What the pins show at a tick (R319, R332, R337, R394). -/
structure TickIn where
  /-- measured supply of groups 1 to 4 in volts (R332). -/
  vfld : List F32 := []
  /-- measured load current of channels 0 to 31 in amperes (R328). -/
  amps : List F32 := []
  /-- the die link carried the frame and its confirmation (R343). -/
  linkOk : Bool := true
  deriving DecidableEq, Repr

/-- What a release step finds (R521, R522). -/
structure ReleaseObs where
  /-- the step's condition is met. -/
  cond : Bool := true
  /-- fuse copy A: content and whether its check passes (R522). -/
  trimA : List Byte := []
  /-- copy A verifies. -/
  trimAOk : Bool := true
  /-- fuse copy B. -/
  trimB : List Byte := []
  /-- copy B verifies. -/
  trimBOk : Bool := true
  /-- labels of slots and entries whose current copy fails its check (R462). -/
  keysBad : List U64 := []
  /-- labels of slots and entries whose previous copy fails its check (R462). -/
  prevBad : List U64 := []
  /-- TEST_MODE is high (R544). -/
  testMode : Bool := false
  deriving DecidableEq, Repr

/-- A received IEEE 1588 message (R391, R396). -/
structure PtpMsg where
  /-- port (R405 numbering). -/
  port : Nat := 0
  /-- message type: 0 Sync or Follow_Up pair, 11 Announce, 2 peer-delay. -/
  kind : Nat := 0
  /-- domainNumber (R391). -/
  domain : Nat := 0
  /-- sourcePortIdentity's clockIdentity. -/
  source : Nat := 0
  /-- offset of TB0 from the master in nanoseconds, from the corrected timestamps (R389, R392). -/
  offsetNs : Int := 0
  /-- the master's time of day at reception, nanoseconds since 1970-01-01 00:00:00 TAI (R393). -/
  masterNs : Nat := 0
  /-- frequency correction that the offset leads to, parts in 10^12 (R396). -/
  freq : Int := 0
  /-- priority1, clockClass, clockAccuracy, offsetScaledLogVariance, priority2, grandmasterIdentity and
  stepsRemoved of an Announce message. -/
  ds : List Nat := []
  /-- currentUtcOffset (R397). -/
  utcOffset : Int := 0
  /-- currentUtcOffsetValid (R397). -/
  utcValid : Bool := false
  /-- leap61 (R397). -/
  leap61 : Bool := false
  /-- leap59 (R397). -/
  leap59 : Bool := false
  /-- the message arrived protected by MACsec (R386). -/
  secured : Bool := true
  deriving DecidableEq, Repr

/-- A frame received on a network port (R379 to R386, R390). -/
structure NetFrame where
  /-- port (R405 numbering). -/
  port : Nat := 0
  /-- bytes from destination address to frame check sequence (R379). -/
  len : Nat := 0
  /-- source MAC address. -/
  src : BitVec 48 := 0#48
  /-- destination MAC address. -/
  dst : BitVec 48 := 0#48
  /-- EtherType of the content. -/
  ethertype : Nat := 0
  /-- HSR sequence number, when an HSR tag is present (R381). -/
  hsr : Option Nat := none
  /-- MACsec association number and packet number, when a SecTAG is present (R384). -/
  sec : Option (Nat × Nat) := none
  /-- the SCI is the neighbour's (R386). -/
  sciOk : Bool := true
  /-- the ICV of the frame (R386). -/
  icv : List Byte := []
  /-- an IEEE 1588 peer-delay message (R386). -/
  peerDelay : Bool := false
  /-- the packet engine could take the frame (R380). -/
  taken : Bool := true
  /-- a PAUSE frame (R380). -/
  pause : Bool := false
  /-- the frame's content. -/
  data : List Byte := []
  /-- timestamp in nanoseconds of the port's time base (R389). -/
  stamp : Nat := 0
  deriving DecidableEq, Repr

/-- A transmit descriptor that the host has written (R390). -/
structure TxDesc where
  /-- BUF_ADDR. -/
  addr : U64 := 0#64
  /-- LEN. -/
  len : Nat := 0
  /-- PORT. -/
  port : Nat := 0
  /-- FLAGS. -/
  flags : BitVec 8 := 0#8
  /-- HOST_TAG. -/
  tag : U32 := 0#32
  /-- EtherType of the frame in the buffer. -/
  ethertype : Nat := 0
  /-- the frame's bytes. -/
  data : List Byte := []
  /-- timestamp of the transmission in nanoseconds (R389). -/
  stamp : Nat := 0
  deriving DecidableEq, Repr

/-- A receive descriptor that the host has provided (R390). -/
structure RxDesc where
  /-- BUF_ADDR. -/
  addr : U64 := 0#64
  /-- LEN: the buffer's size. -/
  len : Nat := 0
  /-- HOST_TAG. -/
  tag : U32 := 0#32
  deriving DecidableEq, Repr

/-- The header of a pair link message (R487). -/
structure PairHdr where
  /-- VERSION. -/
  version : Nat := 0
  /-- CLAIM. -/
  claim : Nat := 0
  /-- EPOCH. -/
  epoch : Nat := 0
  /-- SEQ. -/
  seq : Nat := 0
  /-- LEN. -/
  len : Nat := 0
  /-- SECTION. -/
  sect : Nat := 0
  /-- PART. -/
  part : Nat := 0
  /-- the reserved fields. -/
  rsv : Nat := 0
  /-- MAC address of the sender's pair link port (R507). -/
  mac : BitVec 48 := 0#48
  /-- the active unit's island-time state, which the pair link's time transfer carries (R388). -/
  island : Bool := false
  /-- the base to which its epoch clock is bound (R388). -/
  bound : Option Nat := none
  /-- the base to which its epoch clock is merging (R388). -/
  merging : Option Nat := none
  deriving DecidableEq, Repr

/-- The content of one section of a checkpoint (R492). -/
inductive CkptSec where
  | s1 (v : CkptParams)
  | s2 (v : CkptImages)
  | s3 (v : CkptPoints)
  | s4 (v : LaneSt)
  | s5 (v : ProgRun)
  | s6 (v : CkptPlan)
  | s7 (v : PercSt)
  | s8 (v : FedSt)
  | s9 (v : CkptMisc)
  deriving DecidableEq, Repr

/-- The commands of the block, in the order of the table of operations and events. -/
inductive Instr where
  /-- ECHO: returns its inline parameters (R419). -/
  | echo (h : Hdr) (bytes : List Byte)
  /-- a packet with an opcode that R419 does not list. -/
  | commandUnknown (h : Hdr) (opcode : Nat)
  /-- PARAM_READ (R428). -/
  | paramRead (h : Hdr) (flags : Nat) (reqs : List PReq)
  /-- PARAM_WRITE (R429). -/
  | paramWrite (h : Hdr) (wrs : List PWr)
  /-- COMMIT (R431): group code and index of each item, COMMIT_EPOCH. -/
  | commit (h : Hdr) (insts : List (Nat × Nat)) (epoch : Nat)
  /-- DISCARD (R434). -/
  | discard (h : Hdr) (insts : List (Nat × Nat))
  /-- HANDLE_QUERY (R421). -/
  | handleQuery (h : Hdr) (handle : U32)
  /-- HANDLE_CLOSE (R421). -/
  | handleClose (h : Hdr) (handle : U32)
  /-- CANCEL (R138, R367, R558). -/
  | cancel (h : Hdr) (handle : U32)
  /-- SNAPSHOT (R440). -/
  | snapshot (h : Hdr) (members : List BlkMember) (addr : U64) (len : Nat)
  /-- MIRROR_OPEN (R441). -/
  | mirrorOpen (h : Hdr) (mirror : Nat) (members : List BlkMember) (period : Nat) (slots : Nat) (base : U64)
  /-- MIRROR_CLOSE (R441). -/
  | mirrorClose (h : Hdr) (mirror : Nat)
  /-- ALARM_READ (R427). -/
  | alarmRead (h : Hdr)
  /-- ALARM_ACK (R427). -/
  | alarmAck (h : Hdr) (all : Bool) (keys : List U64)
  /-- FRAME_CH_OPEN (R444). -/
  | frameChOpen (h : Hdr) (ch : Nat) (mask : BitVec 16)
  /-- FRAME_CH_CLOSE (R444). -/
  | frameChClose (h : Hdr) (ch : Nat)
  /-- TIME_SET (R393): nanoseconds since 2000-01-01 00:00:00 TAI. -/
  | timeSet (h : Hdr) (ns : Nat)
  /-- TIME_TEST (R393). -/
  | timeTest (h : Hdr) (ns : Nat)
  /-- FIELD_ACK (R336); live, liveA: the channels and analog outputs whose latch cause persists. -/
  | fieldAck (h : Hdr) (chans : U32) (groups : BitVec 8) (aouts : BitVec 8) (live : U32) (liveA : BitVec 8)
  /-- CAN_TRANSMIT (R363). -/
  | canTransmit (h : Hdr) (ch : Nat) (buf : Nat) (data : List Byte)
  /-- CAN_BUF_CANCEL (R367). -/
  | canBufCancel (h : Hdr) (ch : Nat) (buf : Nat)
  /-- CAN_HP_READ (R368). -/
  | canHpRead (h : Hdr) (ch : Nat)
  /-- CAN_RECOVER (R370). -/
  | canRecover (h : Hdr) (ch : Nat)
  /-- BANK_SWAP (R234). -/
  | bankSwap (h : Hdr) (lanes : List Nat) (epoch : Nat)
  /-- LANE_ACK (R237). -/
  | laneAck (h : Hdr) (lane : Nat)
  /-- PERIOD_RESTORE (R240). -/
  | periodRestore (h : Hdr) (lane : Nat)
  /-- PROG_LOAD (R276). -/
  | progLoad (h : Hdr)
  /-- PROG_EXCHANGE (R277). -/
  | progExchange (h : Hdr)
  /-- PROG_DISCARD (R276). -/
  | progDiscard (h : Hdr)
  /-- RUN (R260). -/
  | run (h : Hdr)
  /-- STOP (R260). -/
  | stop (h : Hdr)
  /-- HOLD (R260). -/
  | hold (h : Hdr)
  /-- FAULT_ACK (R260). -/
  | faultAck (h : Hdr)
  /-- MODEL_LOAD (R68, R69). -/
  | modelLoad (h : Hdr)
  /-- MODEL_ACTIVATE (R73, R74). -/
  | modelActivate (h : Hdr) (keepCal : Bool)
  /-- MODEL_DISCARD (R68). -/
  | modelDiscard (h : Hdr)
  /-- ELEMENT_SERVICE (R76). -/
  | elementService (h : Hdr) (elem : Nat) (inService : Bool)
  /-- SERIES_WRITE (R563). -/
  | seriesWrite (h : Hdr) (w : SeriesWr)
  /-- SERIES_COMMIT (R87). -/
  | seriesCommit (h : Hdr) (mask : BitVec 256)
  /-- SOLVE (R124). -/
  | solve (h : Hdr) (kind : Nat) (budget : Nat) (hstart : Nat)
  /-- FLEX_ACTIVATE (R129). -/
  | flexActivate (h : Hdr) (a : FlexArg)
  /-- FLEX_WITHDRAW (R131). -/
  | flexWithdraw (h : Hdr) (slot : Nat)
  /-- CAL_READ (R180). -/
  | calRead (h : Hdr)
  /-- CAL_RESET (R178). -/
  | calReset (h : Hdr) (all : Bool) (elem : Nat)
  /-- FORGET_MEMBER (R213). -/
  | forgetMember (h : Hdr) (level : Nat) (addr : Nat)
  /-- KEY_INSTALL (R457, R458). -/
  | keyInstall (h : Hdr) (a : KeyArg)
  /-- KEY_REMOVE (R461). -/
  | keyRemove (h : Hdr) (label : U64)
  /-- KEY_LIST (R454). -/
  | keyList (h : Hdr)
  /-- AUDIT_READ (R475). -/
  | auditRead (h : Hdr) (first : Nat) (count : Nat)
  /-- TAMPER_ACK (R466): the detectors that report. -/
  | tamperAck (h : Hdr) (detectors : BitVec 3)
  /-- maker commands 16#04F0 to 16#04FF (R470). -/
  | makerCommand (h : Hdr) (opcode : Nat)
  /-- PAIR_SWITCHOVER (R505). -/
  | pairSwitchover (h : Hdr)
  /-- PAIR_RESYNC (R497). -/
  | pairResync (h : Hdr)
  /-- CAL_WRITE_ENABLE (R535). -/
  | calWriteEnable (h : Hdr)
  /-- CAL_DST (R536). -/
  | calDst (h : Hdr) (dir : Nat)
  /-- RESET (R540). -/
  | reset (h : Hdr) (mode : Nat)
  /-- BLOCK_RESET (R525). -/
  | blockReset (h : Hdr) (block : Nat) (index : Nat)
  /-- FW_LOAD (R526). -/
  | fwLoad (h : Hdr)
  /-- FW_ACTIVATE (R526). -/
  | fwActivate (h : Hdr)
  /-- DRIP_EVENTS_READ (R528). -/
  | dripEventsRead (h : Hdr)
  /-- setup step 1 (R468); NONCE_M is the random number that the module draws. -/
  | setupRequest (a : SetupArg) (nonceM : List Byte)
  /-- setup step 2 (R468). -/
  | setupProof (a : SetupArg) (nonceH : List Byte) (proofH : List Byte)
  /-- setup step 3 (R468). -/
  | setupEnd (a : SetupArg)
  /-- the host writes SQ_TAIL of a queue pair (R414). -/
  | sqTail (q : Nat) (idx : U32)
  /-- the host writes CQ_HEAD of a queue pair (R414). -/
  | cqHead (q : Nat) (idx : U32)
  /-- the host sets ENABLE of a queue pair (R445). -/
  | queueEnable (q : Nat)
  /-- the host clears ENABLE of a queue pair (R418). -/
  | queueDisable (q : Nat)
  /-- the host writes TX_TAIL of a frame channel (R444): the descriptors up to the tail. -/
  | txTail (ch : Nat) (idx : U32) (descs : List TxDesc)
  /-- the host writes RX_TAIL of a frame channel (R444). -/
  | rxTail (ch : Nat) (idx : U32)
  /-- the host reads a calendar register (R533). -/
  | calRegRead (off : Nat)
  /-- the host writes a calendar time register (R532). -/
  | calRegWrite (off : Nat) (val : U32)
  /-- the host writes CAL_COMMIT (R532, R534). -/
  | calCommit
  /-- the host writes CAL_DISCARD (R532). -/
  | calDiscard
  /-- the host writes another register of BAR0 (R445). -/
  | registerWrite (off : Nat) (val : U32)
  /-- a freeze of the calendar registers times out (R533). -/
  | calFreezeTimeout
  /-- the calendar write window ends (R535). -/
  | calWindowExpire
  /-- QUEUE_LOST is posted to a queue with room again (R417). -/
  | queueLostPost (q : Nat)
  /-- a tick boundary of the epoch clock (R20). -/
  | tick (obs : TickIn)
  /-- committed values replace the values in force, order 3 (R431). -/
  | commitApply
  /-- a pending commit reaches COMMIT_EPOCH (R431). -/
  | pendingCommitDue (handle : U32)
  /-- an accepted mode command takes effect (R260). -/
  | modeChangeApply
  /-- stop values take effect at the apply epoch of the last cycle (R261). -/
  | stopValuesApply (task : Nat)
  /-- a pending bank swap of a lane is due, order 5 (R234). -/
  | laneBankSwapDue (lane : Nat)
  /-- a lane starts a sample, order 7 (R222). -/
  | laneSampleStart (lane : Nat)
  /-- a lane sample completes (R225). -/
  | laneSampleComplete (lane : Nat)
  /-- a lane sample has not completed at the end of its tick (R239). -/
  | laneOverrun (lane : Nat)
  /-- a task cycle starts, order 7 (R253). -/
  | taskCycleStart (task : Nat)
  /-- the input close of a task cycle (R253). -/
  | inputClose (task : Nat)
  /-- a task cycle publishes; its response time in microseconds (R255). -/
  | taskPublication (task : Nat) (us : Nat)
  /-- the apply epoch of a task cycle (R253). -/
  | taskApply (task : Nat)
  /-- a task cycle misses its deadline (R257). -/
  | cycleOverrun (task : Nat)
  /-- HOLD_MAX_S has passed in HOLD (R262). -/
  | holdTimeout
  /-- a retained copy is written (R280). -/
  | retainCopy
  /-- the automatic run after reset (R281). -/
  | progAutoRun
  /-- a block image has arrived whole (R275, R276). -/
  | progLoadDone (bytes : List Byte) (body : Program)
  /-- a program exchange takes effect, order 3 (R278). -/
  | progExchangeApply
  /-- a model image has arrived whole (R65 to R71). -/
  | modelLoadDone (bytes : List Byte)
  /-- a cadence point of the solve cycle (R119). -/
  | cadencePoint
  /-- a solve starts, order 7 (R118). -/
  | solveStart
  /-- a solve publishes its plan (R107). -/
  | solvePublish (r : SolveResult)
  /-- a solve reaches its budget unpublished, `us` its SOLVE_TIME_US (R126, R142). -/
  | solveOverrun (us : Nat) (r : SolveResult)
  /-- a solve stopped before publication ends, `us` its SOLVE_TIME_US (R128, R138, R142). -/
  | solveStopped (us : Nat) (r : SolveResult)
  /-- the horizon start of a staged plan, order 4 (R133). -/
  | planBoundary
  /-- PLAN_STALE_S has passed without a plan taking effect (R139). -/
  | planStaleTimeout
  /-- END of a commitment slot (R131). -/
  | commitmentEnd (slot : Nat)
  /-- a Percolator update starts, order 7 (R150). -/
  | percUpdateStart
  /-- a Percolator update publishes (R153). -/
  | percUpdatePublish (r : PercResult)
  /-- the mapping update that follows an activation (R170). -/
  | mappingUpdate
  /-- the calibration window that opened at the epoch `opened` ends, order 8 (R172). -/
  | calWindowEnd (opened : Nat)
  /-- an analog frame starts (R181). -/
  | afeFrameStart
  /-- a reference slot ends: the conversion of each input (R182). -/
  | afeRefSlotEnd (refs : List F32)
  /-- the analog calibration has aged (R184). -/
  | afeCalAged
  /-- a round of a level opens (R193). -/
  | roundOpening (level : Nat)
  /-- a round of a level closes (R194). -/
  | roundClose (level : Nat)
  /-- a PROPOSE message arrives (R198). -/
  | proposeRx (m : QMsg) (ps : List Proposal)
  /-- an ADVERTISE message arrives (R213). -/
  | advertiseRx (m : QMsg) (a : Advert)
  /-- a member list entry expires (R213). -/
  | memberExpire (level : Nat) (addr : Nat)
  /-- a gateway device receives a message to forward (R191). -/
  | qualothForward (m : QMsg)
  /-- the served tick of a station (R295). -/
  | servedTick (stn : Nat)
  /-- an OUTPUT frame is due without a cycle's publication (R262, R299). -/
  | stnOutputDue (stn : Nat)
  /-- an INPUT frame arrives (R298). -/
  | stnInputRx (f : StnFrame)
  /-- a HELLO frame arrives (R305). -/
  | stnHelloRx (f : StnFrame)
  /-- a CONFIG_ACK frame arrives (R305). -/
  | stnConfigAckRx (f : StnFrame)
  /-- a LEAVE frame arrives (R306). -/
  | stnLeaveRx (f : StnFrame)
  /-- eight consecutive frames of a station have failed R304 (R306). -/
  | stnTagFailures (stn : Nat)
  /-- the link of a network port changes (R306, R377). -/
  | portLinkChange (port : Nat) (up : Bool)
  /-- the die link is lost (R343). -/
  | fieldLinkLoss
  /-- the die link is restored (R343). -/
  | fieldLinkRestore
  /-- an output of the field die is in overload (R327). -/
  | outputOverload (ch : Nat)
  /-- an output of the field die is too hot (R327). -/
  | outputThermal (ch : Nat)
  /-- a group exceeds its current limit (R328): the currents of its channels. -/
  | groupLimitShed (grp : Nat) (amps : List F32)
  /-- an output diagnosis test (R329). -/
  | outputDiagTest (ch : Nat) (vOff : F32) (vOn : F32) (vfld : F32) (amps : F32)
  /-- the mask of shared outputs ends (R331). -/
  | sharedMaskEnd
  /-- a group supply crosses its warning level (R332). -/
  | supplyWarnCross (grp : Nat) (down : Bool) (volts : F32)
  /-- a group supply has stayed below cut-off (R333). -/
  | supplyCutoff (grp : Nat) (volts : F32)
  /-- a group supply crosses cut-off upward (R333). -/
  | supplyCutoffUp (grp : Nat) (volts : F32)
  /-- the hold-off of a recovering group ends (R333). -/
  | supplyHoldoffEnd (grp : Nat)
  /-- a group supply falls below input validity (R334). -/
  | inputValidityLoss (grp : Nat) (volts : F32)
  /-- a group supply returns above input validity (R334). -/
  | inputValidityRestore (grp : Nat) (volts : F32)
  /-- the current shunt of an analog input is disconnected or reconnected (R335). -/
  | shuntOpen (ain : Nat) (isOpen : Bool)
  /-- the open-load test of an analog output (R341). -/
  | aoutOpenLoad (a : Nat) (present : Bool)
  /-- an analog output is overloaded (R341). -/
  | aoutOverload (a : Nat)
  /-- a valid CAN frame arrives (R357). -/
  | canFrameRx (ch : Nat) (f : CanFrame) (remote : Bool)
  /-- a cyclic CAN buffer is due (R362). -/
  | canCyclicTrigger (ch : Nat) (buf : Nat)
  /-- a CAN transmission attempt ends (R365): acknowledged, or lost in arbitration, or ended by an error that adds inc to the transmit error counter; the measured loop delay. -/
  | canTxEnd (ch : Nat) (buf : Nat) (ok : Bool) (arbLost : Bool) (inc : Nat) (loopDelay : Nat)
  /-- a pending CAN buffer reaches CAN_TX_TIMEOUT_MS (R364). -/
  | canTxTimeout (ch : Nat) (buf : Nat)
  /-- CAN_BUSOFF_HOLD_MS ends (R370). -/
  | canBusoffHoldEnd (ch : Nat)
  /-- 128 sequences of 11 recessive bits have been seen (R370). -/
  | canRecovered (ch : Nat)
  /-- 11 consecutive recessive bits have been seen (R354). -/
  | canBusIntegration (ch : Nat)
  /-- a frame arrives on a ring, uplink or pair port (R381 to R386). -/
  | ringFrameRx (f : NetFrame)
  /-- an HSR supervision frame is due (R381). -/
  | hsrSupervisionTx
  /-- a frame for the host arrives (R390, R444): the receive descriptors of the channel. -/
  | hostFrameRx (f : NetFrame) (descs : List RxDesc)
  /-- an IEEE 1588 message arrives (R391, R396). -/
  | ptpMessageRx (m : PtpMsg)
  /-- an IEEE 1588 message is due (R391). -/
  | ptpMessageTx (port : Nat) (kind : Nat)
  /-- a qualified edge on PPS_IN and its offset from the expected second (R396, R403). -/
  | ppsInEdge (offsetNs : Int) (freq : Int)
  /-- a whole second of the base that TD3 reads (R403). -/
  | ppsOutPulse
  /-- the offset has stayed within TIME_LOCK_NS for TIME_LOCK_S (R396). -/
  | tb0Lock
  /-- TB0 loses sync (R396). -/
  | tb0SyncLoss
  /-- TIME_START_WAIT_S has passed (R398). -/
  | startWaitExpire
  /-- a merge starts (R398, R399). -/
  | mergeStart
  /-- a merge completes, order 1 (R399). -/
  | mergeComplete
  /-- a leap second at the end of the UTC day (R397). -/
  | leapSecond
  /-- a mirror tick (R442). -/
  | mirrorBlockWrite (mirror : Nat)
  /-- a snapshot's copy ends (R440). -/
  | snapshotDone (handle : U32)
  /-- steps 3 and 4 of a key install (R458): the copy reads back intact. -/
  | keyInstallDone (handle : U32) (ok : Bool)
  /-- the switch epoch of a key (R459). -/
  | keySwitchEpoch (label : U64)
  /-- the receive window of a previous copy ends (R459). -/
  | keyReceiveWindowEnd (label : U64)
  /-- the periodic check of the key store (R462): labels whose copies fail. -/
  | keyScrub (curBad : List U64) (prevBad : List U64)
  /-- a qualified tamper detection (R464). -/
  | tamperDetect (mask : BitVec 3)
  /-- MGMT_IDLE_S without a valid frame (R471). -/
  | mgmtIdleTimeout (n : Nat)
  /-- a setup lockout ends (R468). -/
  | bindLockoutEnd (src : Src) (mac : BitVec 48)
  /-- a heartbeat period (R484). -/
  | heartbeatTx
  /-- a HEARTBEAT message arrives (R486). -/
  | heartbeatRx (p : PairHdr) (m : HbMsg)
  /-- 6 ms without edges and messages (R485). -/
  | partnerFailed
  /-- the resume tick of a takeover, order 2 (R498). -/
  | takeoverResume
  /-- a claim report above the own claim, order 2 (R490). -/
  | demotion
  /-- a demoted unit may take over (R501). -/
  | demotedTakeover
  /-- a checkpoint epoch (R491). -/
  | checkpointEpoch
  /-- a CKPT_DELTA message arrives (R493). -/
  | ckptDeltaRx (p : PairHdr) (sect : CkptSec) (bytes : List Byte)
  /-- a CKPT_END message arrives (R493). -/
  | ckptEndRx (p : PairHdr) (frags : Nat) (crc : U32)
  /-- a SYNC_REQUEST message arrives (R497). -/
  | syncRequestRx (p : PairHdr)
  /-- a FINAL message arrives (R505). -/
  | finalRx (p : PairHdr) (frags : Nat) (crc : U32)
  /-- the standby flushes its checkpoint (R495). -/
  | ckptFlush
  /-- 10 s without a complete checkpoint (R497). -/
  | ckptStale
  /-- the start decision of a pair (R507). -/
  | pairStartWaitEnd
  /-- the switch epoch of the pair floor (R506). -/
  | pairFloorSwitch
  /-- a measurement of a deadline class (R514, R515): its margin; for the running solve the measured iteration time in
  microseconds, from which R146 gives the margin. -/
  | marginBreach (cls : Nat) (margin : F32)
  /-- a settling step of the governor: the smallest margin that it measures (R516). -/
  | govSettleStep (margin : F32)
  /-- VBULK crosses VBULK_WARN_V downward (R518). -/
  | vbulkLow (volts : F32)
  /-- SAG_HOLD_S ends (R518). -/
  | sagHoldEnd (volts : F32)
  /-- VBULK falls below its reset level (R519). -/
  | vbulkFail (volts : F32)
  /-- VBULK has stayed above 9.6 V (R519). -/
  | vbulkGood (volts : F32)
  /-- VAON comes up (R513, R519). -/
  | vaonPowerOn (volts : F32)
  /-- VAON crosses its comparator level (R527). -/
  | vaonLow (rising : Bool) (volts : F32)
  /-- a VFLD comparator records an event (R527). -/
  | vfldLowEvent (grp : Nat) (rising : Bool)
  /-- a qualified edge on WAKEn (R527). -/
  | wakeEvent (n : Nat) (rising : Bool)
  /-- RESET_N falls (R519). -/
  | resetNAssert
  /-- RESET_N rises (R519). -/
  | resetNRelease
  /-- a step of the reset release meets its condition (R521). -/
  | releaseStep (obs : ReleaseObs)
  /-- a release step times out (R523). -/
  | releaseHalt
  /-- a firmware trial times out (R526). -/
  | fwTrialTimeout
  /-- PCIE_PERST_N falls (R549). -/
  | pciePerstAssert
  /-- a VIO supply is lost (R550). -/
  | vioLoss (n : Nat)
  /-- a VIO supply returns (R550). -/
  | vioRestore (n : Nat)
  /-- a die exceeds 115 degrees (R554). -/
  | overTempRaise (die : Nat) (temp : F32)
  /-- die temperatures fall back (R554). -/
  | overTempClear (temps : List F32)
  /-- the calendar carries a second (R531). -/
  | calSecondCarry
  /-- the calendar synchronisation check (R537). -/
  | calSyncCheck
  /-- CD0 stops (R531). -/
  | cd0Loss
  /-- a qualified edge on HB_IN (R548). -/
  | hbInEdge
  /-- a microsecond of a channel's filter: the pin's voltage at its last CD6 cycle, and that cycle (R321 to R323). -/
  | filterCounterStep (ch : Nat) (volts : F32) (time : Nat)
  /-- a PWM period boundary (R326). -/
  | pwmPeriodBoundary (ch : Nat)
  /-- a data slot of the analog frame ends (R181): the conversion of each input before correction, and the inputs that clipped. -/
  | afeDataSlotEnd (samples : List F32) (clip : BitVec 16)
  /-- a CAN transmission passes its commit point (R366). -/
  | canCommitPoint (ch : Nat) (buf : Nat)
  /-- a CAN receive error (R352, R369). -/
  | canReceiveError (ch : Nat) (inc : Nat)
  /-- the Drip domain loses its state (R513). -/
  | dripStateLoss
  /-- an uncorrectable memory error (R266). -/
  | uncorrectableMemoryError (task : Nat)
  /-- a block reset ends (R525). -/
  | blockResetDone (handle : U32)
  /-- a firmware image has arrived whole (R526). -/
  | fwLoadDone (bytes : List Byte) (img : FwImage)
  /-- PCIE_PERST_N rises (R549). -/
  | pciePerstRelease
  /-- three Announce intervals without a message (R391). -/
  | announceReceiptTimeout
  deriving DecidableEq, Repr

end Sys2Proof
end

