-- ==== Sys2Proof/Decode.lean ====
section
/-! DEFINITION. Commands read from the bits of the table. The table of operations and events gives no
row any bits: the commands arrive as packets, frames and events, whose fields are the operands of the
constructors. So no word spells a command. -/

namespace Sys2Proof

/-- The command that a word spells by the table's bits: none, since no row of the table gives bits. -/
def decodeTableWord (_nbits _w : Nat) : Option Instr := none

end Sys2Proof
end

