-- ==== Sys2Proof/Config.lean ====
section
/-! DEFINITION. What the specification leaves open or takes from other standards: every constant here is
opaque, so a theorem holds for every value of it. -/

namespace Sys2Proof

/-- SHA-384 (R473, R456). -/
opaque Config.sha384 : List Byte → List Byte

/-- HMAC-SHA-384 of a message under a key (R448, R468). -/
opaque Config.hmac384 : List Byte → List Byte → List Byte

/-- AES-256 encryption of one block under a key (R456). -/
opaque Config.aes256 : List Byte → List Byte → List Byte

/-- AES key unwrap of SP 800-38F under a wrap key; none when its check fails (R457). -/
opaque Config.keyUnwrap : List Byte → List Byte → Option (List Byte)

/-- The tag of AES-256-GCM: key, nonce, additional data, content (R304, R371, R469). -/
opaque Config.gcmTag : List Byte → List Byte → List Byte → List Byte → List Byte

/-- The content encrypted by AES-256-GCM: key, nonce, content (R469). -/
opaque Config.gcmText : List Byte → List Byte → List Byte → List Byte

/-- AES-256-CMAC: key, message (R371). -/
opaque Config.aesCmac : List Byte → List Byte → List Byte

/-- The ICV of a MACsec frame: key, packet number, content (R384, R386). -/
opaque Config.macsecIcv : List Byte → Nat → List Byte → List Byte

/-- A point lies on the curve P-384 (R458). -/
opaque Config.onP384 : List Byte → Bool

/-- An ECDSA signature over a message verifies under a public key (R67). -/
opaque Config.ecdsaOk : List Byte → List Byte → List Byte → Bool

/-- Free 32-bit values: a fresh number gives a value that nothing constrains. -/
opaque Config.freeWord : Nat → BitVec 32

/-- A free choice among the numbers below a bound. -/
opaque Config.freeNat : Nat → Nat

/-- The key-encryption key that the module draws when it is provisioned (R463). -/
opaque Config.freeKek : Nat → BitVec 256

/-- What a maker command returns: the specification gives its content no layout (R470). -/
opaque Config.makerData : Nat → List Byte

/-- Bytes of one scalar parameter on the wire: R428 gives SIZE as the size of its type, and the
parameter tables state no type. -/
opaque Config.scalarSize : Nat → Nat

/-- Entries of a frame channel's transmit (true) or receive (false) ring: FC_CFG has no stated layout
(R444, R445). -/
opaque Config.fcEntries : BitVec 32 → Bool → Nat

/-- Transcendental functions by the code of their block (R267): the specification names the function
and not its rounding. -/
opaque Config.realFn : Nat → List F32 → BitVec 32

/-- The payload bytes of a checkpoint section, in full or as the delta against the previous checkpoint sent: the
specification gives the delta records no layout (R487, R491, R497). -/
opaque Config.ckptBytes : Bool → CkptSec → List Byte

/-- The ratio of a circle's circumference to its diameter, with the precision that the hardware uses: the rules name it
and state none (R157). -/
opaque Config.pi : Rat

/-- The exponential function of the heat-loss rule: the rule names it and not its rounding (R158). -/
opaque Config.expQ : Rat → Rat

/-- The natural logarithm of the calibration rule: the rule names it and not its rounding (R174). -/
opaque Config.lnQ : Rat → Rat

/-- The square root of the mixing and blending rules: the rules name it and not its rounding (R158, R161). -/
opaque Config.sqrtQ : Rat → Rat

/-- The Darcy friction factor of a pipe of a roughness in mm, a diameter in mm and a mass flow in kg/s: the rules name
the law and give no friction factor (R48, R95). -/
opaque Config.friction : Rat → Rat → Rat → Rat

/-- The greatest concave function that does not exceed a pump curve which is not concave itself: no single such function
need exist (R102). -/
opaque Config.concaveUnder : List (Rat × Rat) → Rat → Rat

/-- A free temperature where water has no source of which the rules state one (R158, R169). -/
opaque Config.freeTemp : Nat → Rat

end Sys2Proof
end

