-- ==== Sys2Proof/Machine/Real.lean ====
section
/-! DEFINITION. Arithmetic on 32-bit floating-point numbers: each operation gives the exact result
rounded to the nearest number, ties to even (log entry 7). -/

namespace Sys2Proof

/-- Sign bit. -/
def F32.sign (x : F32) : Bool := x.bits.getLsbD 31

/-- Biased exponent. -/
def F32.expo (x : F32) : Nat := x.bits.toNat / 2 ^ 23 % 256

/-- Fraction field. -/
def F32.frac (x : F32) : Nat := x.bits.toNat % 2 ^ 23

/-- Not a number. -/
def F32.isNaN (x : F32) : Bool := x.expo == 255 && x.frac != 0

/-- Infinite. -/
def F32.isInf (x : F32) : Bool := x.expo == 255 && x.frac == 0

/-- A finite number. -/
def F32.isFin (x : F32) : Bool := x.expo != 255

/-- The magnitude of a finite number in units of 2^-149. -/
def F32.units (x : F32) : Nat :=
  if x.expo = 0 then x.frac else (2 ^ 23 + x.frac) * 2 ^ (x.expo - 1)

/-- The exact value of a finite number. -/
def F32.rat (x : F32) : Rat :=
  let m : Rat := mkRat (Int.ofNat x.units) (2 ^ 149)
  if x.sign then -m else m

/-- The nearest integer to a quotient, ties to even. -/
def rneDiv (n d : Nat) : Nat :=
  let q := n / d
  let r := n % d
  if 2 * r < d then q else if d < 2 * r then q + 1 else if q % 2 = 0 then q else q + 1

/-- The bits of the number nearest to `n / d`, ties to even; infinity above the largest number. -/
def packMag (n d : Nat) : Nat :=
  -- u: the quotient in units of 2^-149, rounded down, gives the exponent
  let u := n * 2 ^ 149 / d
  let e := if u < 2 ^ 24 then 0 else Nat.log2 u - 23
  let m := rneDiv (n * 2 ^ 149) (d * 2 ^ e)
  -- a carry out of the significand moves into the exponent field by itself
  let b := if m < 2 ^ 23 then m else e * 2 ^ 23 + m
  if 0x7F800000 ≤ b then 0x7F800000 else b

/-- The number nearest to an exact value. -/
def F32.ofRat (q : Rat) : F32 :=
  let b := packMag q.num.natAbs q.den
  ⟨BitVec.ofNat 32 (if q.num < 0 then 0x80000000 + b else b)⟩

/-- The quiet not-a-number. -/
def F32.nan : F32 := ⟨0x7FC00000#32⟩

/-- Infinity of a sign. -/
def F32.inf (neg : Bool) : F32 := if neg then ⟨0xFF800000#32⟩ else ⟨0x7F800000#32⟩

/-- Zero of a sign. -/
def F32.zeroOf (neg : Bool) : F32 := if neg then ⟨0x80000000#32⟩ else ⟨0#32⟩

/-- An integer as a number. -/
def F32.ofInt (n : Int) : F32 := F32.ofRat (n : Rat)

/-- A natural number as a number. -/
def F32.ofNat (n : Nat) : F32 := F32.ofRat (mkRat (Int.ofNat n) 1)

/-- Negation flips the sign bit. -/
def F32.neg (x : F32) : F32 := ⟨x.bits ^^^ 0x80000000#32⟩

/-- Magnitude. -/
def F32.abs (x : F32) : F32 := ⟨x.bits &&& 0x7FFFFFFF#32⟩

/-- Sum. -/
def F32.add (x y : F32) : F32 :=
  if x.isNaN || y.isNaN then F32.nan
  else if x.isInf then (if y.isInf && x.sign != y.sign then F32.nan else x)
  else if y.isInf then y
  else
    let q := x.rat + y.rat
    if q = 0 then F32.zeroOf (x.sign && y.sign) else F32.ofRat q

/-- Difference. -/
def F32.sub (x y : F32) : F32 := F32.add x y.neg

/-- Product. -/
def F32.mul (x y : F32) : F32 :=
  let neg := x.sign != y.sign
  if x.isNaN || y.isNaN then F32.nan
  else if x.isInf || y.isInf then
    (if (x.isFin && x.units = 0) || (y.isFin && y.units = 0) then F32.nan else F32.inf neg)
  else
    let q := x.rat * y.rat
    if q = 0 then F32.zeroOf neg
    else
      let r := F32.ofRat q
      if r.bits &&& 0x7FFFFFFF#32 = 0#32 then F32.zeroOf neg else r

/-- Quotient. -/
def F32.div (x y : F32) : F32 :=
  let neg := x.sign != y.sign
  if x.isNaN || y.isNaN then F32.nan
  else if x.isInf then (if y.isInf then F32.nan else F32.inf neg)
  else if y.isInf then F32.zeroOf neg
  else if y.units = 0 then (if x.units = 0 then F32.nan else F32.inf neg)
  else
    let q := x.rat / y.rat
    if q = 0 then F32.zeroOf neg
    else
      let r := F32.ofRat q
      if r.bits &&& 0x7FFFFFFF#32 = 0#32 then F32.zeroOf neg else r

/-- The exact value with both infinities beyond every finite number, for comparison. -/
def F32.ord (x : F32) : Rat := if x.isInf then (if x.sign then -(2 ^ 200 : Nat) else (2 ^ 200 : Nat)) else x.rat

/-- Less; false where a side is not a number. -/
def F32.lt (x y : F32) : Bool := !x.isNaN && !y.isNaN && decide (x.ord < y.ord)

/-- At most; false where a side is not a number. -/
def F32.le (x y : F32) : Bool := !x.isNaN && !y.isNaN && decide (x.ord ≤ y.ord)

/-- Equal as numbers; false where a side is not a number. -/
def F32.beq (x y : F32) : Bool := !x.isNaN && !y.isNaN && decide (x.ord = y.ord)

/-- The smaller number. -/
def F32.min (x y : F32) : F32 := if F32.le x y then x else y

/-- The greater number. -/
def F32.max (x y : F32) : F32 := if F32.le x y then y else x

/-- A number held between two limits. -/
def F32.clamp (lo x hi : F32) : F32 := F32.min (F32.max x lo) hi

/-- The largest integer at most a finite number. -/
def F32.floor (x : F32) : Int := Rat.floor x.rat

/-- The nearest integer to a finite number, ties to even. -/
def F32.round (x : F32) : Int :=
  let m := rneDiv x.units (2 ^ 149)
  if x.sign then -(Int.ofNat m) else Int.ofNat m

/-- A finite number cut towards zero. -/
def F32.trunc (x : F32) : Int :=
  let m := x.units / 2 ^ 149
  if x.sign then -(Int.ofNat m) else Int.ofNat m

/-- A ratio of natural numbers as a number. -/
def F32.ofRatio (n d : Nat) : F32 := F32.ofRat (mkRat (Int.ofNat n) d)

/-- The largest natural number whose square is at most `n`, found bit by bit from bit `k` down. -/
def isqrtFrom (n : Nat) : Nat → Nat → Nat
  | 0, r => if (r + 1) * (r + 1) ≤ n then r + 1 else r
  | k + 1, r => isqrtFrom n k (if (r + 2 ^ (k + 1)) * (r + 2 ^ (k + 1)) ≤ n then r + 2 ^ (k + 1) else r)

/-- The exact square root rounded to the nearest number, ties to even. -/
def F32.sqrt (x : F32) : F32 :=
  if x.isNaN then F32.nan
  else if x.isFin && x.units = 0 then x
  else if x.sign then F32.nan
  else if x.isInf then x
  else
    -- the root of units * 2^-149 to 60 bits beyond a number's precision, with a sticky last digit
    let n := x.units * 2 ^ 151
    let r := isqrtFrom (n * 2 ^ 120) 280 0
    let st := if r * r = n * 2 ^ 120 then 2 * r else 2 * r + 1
    F32.ofRat (mkRat (Int.ofNat st) (2 ^ 211))

end Sys2Proof
end

