-- ==== Sys2Proof/Machine/Bytes.lean ====
section
/-! DEFINITION. Numbers as bytes and back (R8, and the byte orders of the frame chapters). -/

namespace Sys2Proof.Machine

/-- `w` bytes of a number, least significant byte first (R8). -/
def le : Nat → Nat → List Byte
  | 0, _ => []
  | w + 1, n => BitVec.ofNat 8 n :: le w (n / 256)

/-- `w` bytes of a number, most significant byte first. -/
def be (w n : Nat) : List Byte := (le w n).reverse

/-- A number from bytes, least significant byte first. -/
def ofLe : List Byte → Nat
  | [] => 0
  | b :: r => b.toNat + 256 * ofLe r

/-- A number from bytes, most significant byte first. -/
def ofBe (bs : List Byte) : Nat := ofLe bs.reverse

/-- `w` bytes from offset `o` as a number, least significant byte first. -/
def leAt (bs : List Byte) (o w : Nat) : Nat := ofLe ((bs.drop o).take w)

/-- `w` bytes from offset `o` as a number, most significant byte first. -/
def beAt (bs : List Byte) (o w : Nat) : Nat := ofBe ((bs.drop o).take w)

/-- A list of bytes cut or padded with zeros to `n` bytes. -/
def padTo (n : Nat) (bs : List Byte) : List Byte := (bs ++ List.replicate n 0#8).take n

/-- Bits of a byte list from pairs of width in bytes and number, least significant byte first. -/
def leRec (fs : List (Nat × Nat)) : List Byte := (fs.map (fun f => le f.1 f.2)).flatten

/-- The same, most significant byte first. -/
def beRec (fs : List (Nat × Nat)) : List Byte := (fs.map (fun f => be f.1 f.2)).flatten

/-- One truth value as a number. -/
def b2n (b : Bool) : Nat := if b then 1 else 0

/-- Bit `i` of a number. -/
def bitOf (n i : Nat) : Bool := n / 2 ^ i % 2 == 1

/-- One bit of the CRC-32 register, reflected, polynomial 16#04C11DB7 (log entry 13). -/
def crcBit (c : BitVec 32) : BitVec 32 :=
  if c.getLsbD 0 then (c >>> 1) ^^^ 0xEDB88320#32 else c >>> 1

/-- One byte into the CRC-32 register. -/
def crcByte (c : BitVec 32) (b : Byte) : BitVec 32 :=
  Nat.rec (c ^^^ b.setWidth 32) (fun _ r => crcBit r) 8

/-- CRC-32 with the IEEE 802.3 polynomial (R486, R493; log entry 13). -/
def crc32 (bs : List Byte) : BitVec 32 := ~~~(bs.foldl crcByte 0xFFFFFFFF#32)

end Sys2Proof.Machine
end

