-- ==== Sys2Proof/Machine/ParamId.lean ====
section
/-! DEFINITION. The parameter identifiers (R10), under the names of the parameter tables. -/

namespace Sys2Proof.Machine

/-- EVENT_CQ (R436). -/
abbrev P.EVENT_CQ : Nat := 0x0101
/-- EVENT_MASK (R436). -/
abbrev P.EVENT_MASK : Nat := 0x0102
/-- HANDLES_OPEN (R436). -/
abbrev P.HANDLES_OPEN : Nat := 0x0140
/-- EVENTS_LOST (R436). -/
abbrev P.EVENTS_LOST : Nat := 0x0141
/-- ALARMS_DROPPED (R436). -/
abbrev P.ALARMS_DROPPED : Nat := 0x0142
/-- MIRROR_STATUS (R436). -/
abbrev P.MIRROR_STATUS : Nat := 0x0143
/-- TIME_SOURCE (R405). -/
abbrev P.TIME_SOURCE : Nat := 0x0201
/-- TIME_SEL_EPOCH (R405). -/
abbrev P.TIME_SEL_EPOCH : Nat := 0x0202
/-- TIME_SEL_OUT (R405). -/
abbrev P.TIME_SEL_OUT : Nat := 0x0203
/-- TIME_SLEW_PPM (R405). -/
abbrev P.TIME_SLEW_PPM : Nat := 0x0204
/-- TIME_SLEW_MAX_S (R405). -/
abbrev P.TIME_SLEW_MAX_S : Nat := 0x0205
/-- TIME_START_WAIT_S (R405). -/
abbrev P.TIME_START_WAIT_S : Nat := 0x0206
/-- TIME_LOCK_NS (R405). -/
abbrev P.TIME_LOCK_NS : Nat := 0x0207
/-- TIME_LOCK_S (R405). -/
abbrev P.TIME_LOCK_S : Nat := 0x0208
/-- TIME_OFFSET_LIMIT_NS (R405). -/
abbrev P.TIME_OFFSET_LIMIT_NS : Nat := 0x0209
/-- TIME_SYNC_LOSS_S (R405). -/
abbrev P.TIME_SYNC_LOSS_S : Nat := 0x020A
/-- TIME_UTC_OFFSET_S (R405). -/
abbrev P.TIME_UTC_OFFSET_S : Nat := 0x020B
/-- TIME_ZONE_MIN (R405). -/
abbrev P.TIME_ZONE_MIN : Nat := 0x020C
/-- PTP_DOMAIN (R405). -/
abbrev P.PTP_DOMAIN : Nat := 0x020D
/-- PTP_PRIORITY1 (R405). -/
abbrev P.PTP_PRIORITY1 : Nat := 0x020E
/-- PTP_PRIORITY2 (R405). -/
abbrev P.PTP_PRIORITY2 : Nat := 0x020F
/-- PTP_SLAVE_ONLY (R405). -/
abbrev P.PTP_SLAVE_ONLY : Nat := 0x0210
/-- CAL_SYNC (R541). -/
abbrev P.CAL_SYNC : Nat := 0x0220
/-- CAL_ALM_EN (R541). -/
abbrev P.CAL_ALM_EN : Nat := 0x0221
/-- CAL_ALM_TIME (R541). -/
abbrev P.CAL_ALM_TIME : Nat := 0x0222
/-- CAL_ALM_DAYS (R541). -/
abbrev P.CAL_ALM_DAYS : Nat := 0x0223
/-- CAL_ALM_DATE (R541). -/
abbrev P.CAL_ALM_DATE : Nat := 0x0224
/-- CAL_ALM_SKIP (R541). -/
abbrev P.CAL_ALM_SKIP : Nat := 0x0225
/-- CAL_ALM_WAKE (R541). -/
abbrev P.CAL_ALM_WAKE : Nat := 0x0226
/-- TB0_STATE (R406). -/
abbrev P.TB0_STATE : Nat := 0x0230
/-- T0_BASE (R406). -/
abbrev P.T0_BASE : Nat := 0x0231
/-- TIME_FLAGS (R406). -/
abbrev P.TIME_FLAGS : Nat := 0x0232
/-- MERGE_REMAIN_NS (R406). -/
abbrev P.MERGE_REMAIN_NS : Nat := 0x0233
/-- TB0_OFFSET_NS (R406). -/
abbrev P.TB0_OFFSET_NS : Nat := 0x0234
/-- PTP_GM_IDENTITY (R406). -/
abbrev P.PTP_GM_IDENTITY : Nat := 0x0235
/-- PTP_STEPS_REMOVED (R406). -/
abbrev P.PTP_STEPS_REMOVED : Nat := 0x0236
/-- TIME_OUTLIERS (R406). -/
abbrev P.TIME_OUTLIERS : Nat := 0x0237
/-- ISLAND_TICKS (R406). -/
abbrev P.ISLAND_TICKS : Nat := 0x0238
/-- CAL_NOW (R542). -/
abbrev P.CAL_NOW : Nat := 0x0240
/-- GOV_MODE (R541). -/
abbrev P.GOV_MODE : Nat := 0x0301
/-- GOV_MIN_MV (R541). -/
abbrev P.GOV_MIN_MV : Nat := 0x0302
/-- GOV_PIN_MV (R541). -/
abbrev P.GOV_PIN_MV : Nat := 0x0303
/-- GOV_TARGET (R541). -/
abbrev P.GOV_TARGET : Nat := 0x0304
/-- GOV_SETTLE_MS (R541). -/
abbrev P.GOV_SETTLE_MS : Nat := 0x0305
/-- GOV_RAISE_MV (R541). -/
abbrev P.GOV_RAISE_MV : Nat := 0x0306
/-- VBULK_WARN_V (R541). -/
abbrev P.VBULK_WARN_V : Nat := 0x0307
/-- SAG_HOLD_S (R541). -/
abbrev P.SAG_HOLD_S : Nat := 0x0308
/-- WAKE_EN (R541). -/
abbrev P.WAKE_EN : Nat := 0x0309
/-- WAKE_EDGE (R541). -/
abbrev P.WAKE_EDGE : Nat := 0x030A
/-- WAKE_DEBOUNCE_MS (R541). -/
abbrev P.WAKE_DEBOUNCE_MS : Nat := 0x030B
/-- CORE_MV (R542). -/
abbrev P.CORE_MV : Nat := 0x0340
/-- MARGIN_MIN (R542). -/
abbrev P.MARGIN_MIN : Nat := 0x0341
/-- MARGIN_CLASS (R542). -/
abbrev P.MARGIN_CLASS : Nat := 0x0342
/-- SPEED_INDEX (R542). -/
abbrev P.SPEED_INDEX : Nat := 0x0343
/-- GOV_BREACHES (R542). -/
abbrev P.GOV_BREACHES : Nat := 0x0344
/-- VBULK_V (R542). -/
abbrev P.VBULK_V : Nat := 0x0345
/-- VAON_V (R542). -/
abbrev P.VAON_V : Nat := 0x0346
/-- RESET_CAUSE (R542). -/
abbrev P.RESET_CAUSE : Nat := 0x0347
/-- FW_STATE (R542). -/
abbrev P.FW_STATE : Nat := 0x0348
/-- DIE_TEMP (R554). -/
abbrev P.DIE_TEMP : Nat := 0x0349
/-- TAMPER_EN (R477). -/
abbrev P.TAMPER_EN : Nat := 0x0401
/-- KEY_OVERLAP_S (R477). -/
abbrev P.KEY_OVERLAP_S : Nat := 0x0402
/-- KEY_SCRUB_H (R477). -/
abbrev P.KEY_SCRUB_H : Nat := 0x0403
/-- MGMT_IDLE_S (R477). -/
abbrev P.MGMT_IDLE_S : Nat := 0x0404
/-- MGMT_ETHERTYPE (R477). -/
abbrev P.MGMT_ETHERTYPE : Nat := 0x0405
/-- BIND_LOCKOUT_S (R477). -/
abbrev P.BIND_LOCKOUT_S : Nat := 0x0406
/-- KEY_STORE_STATE (R478). -/
abbrev P.KEY_STORE_STATE : Nat := 0x0440
/-- TAMPER_STATUS (R478). -/
abbrev P.TAMPER_STATUS : Nat := 0x0441
/-- KEY_SLOTS_BAD (R478). -/
abbrev P.KEY_SLOTS_BAD : Nat := 0x0442
/-- KEY_ENTRIES_USED (R478). -/
abbrev P.KEY_ENTRIES_USED : Nat := 0x0443
/-- AUDIT_NEWEST_SEQ (R478). -/
abbrev P.AUDIT_NEWEST_SEQ : Nat := 0x0444
/-- MGMT_SESSION_STATUS (R478). -/
abbrev P.MGMT_SESSION_STATUS : Nat := 0x0445
/-- PAIR_ENABLE (R510). -/
abbrev P.PAIR_ENABLE : Nat := 0x0501
/-- PAIR_ID (R510). -/
abbrev P.PAIR_ID : Nat := 0x0502
/-- PAIR_PREFERENCE (R510). -/
abbrev P.PAIR_PREFERENCE : Nat := 0x0503
/-- PAIR_KEY_LABEL (R510). -/
abbrev P.PAIR_KEY_LABEL : Nat := 0x0504
/-- CKPT_TASK (R510). -/
abbrev P.CKPT_TASK : Nat := 0x0505
/-- CKPT_PERIOD_TICKS (R510). -/
abbrev P.CKPT_PERIOD_TICKS : Nat := 0x0506
/-- PAIR_START_WAIT_MS (R510). -/
abbrev P.PAIR_START_WAIT_MS : Nat := 0x0507
/-- PAIR_LIVE_WINDOW_MS (R510). -/
abbrev P.PAIR_LIVE_WINDOW_MS : Nat := 0x0508
/-- PAIR_COLD_TAKEOVER (R510). -/
abbrev P.PAIR_COLD_TAKEOVER : Nat := 0x0509
/-- PAIR_STATUS (R511). -/
abbrev P.PAIR_STATUS : Nat := 0x0540
/-- PORT_ENABLE (R405). -/
abbrev P.PORT_ENABLE : Nat := 0x0601
/-- PORT_TX_DELAY_NS (R405). -/
abbrev P.PORT_TX_DELAY_NS : Nat := 0x0602
/-- PORT_RX_DELAY_NS (R405). -/
abbrev P.PORT_RX_DELAY_NS : Nat := 0x0603
/-- MACSEC_MODE (R405). -/
abbrev P.MACSEC_MODE : Nat := 0x0604
/-- MACSEC_KEY_LABEL (R405). -/
abbrev P.MACSEC_KEY_LABEL : Nat := 0x0605
/-- MACSEC_REPLAY_WINDOW (R405). -/
abbrev P.MACSEC_REPLAY_WINDOW : Nat := 0x0606
/-- QUALOTH_VLAN (R405). -/
abbrev P.QUALOTH_VLAN : Nat := 0x0610
/-- QUALOTH_ETHERTYPE (R405). -/
abbrev P.QUALOTH_ETHERTYPE : Nat := 0x0611
/-- QUALOTH_GROUP_MAC (R405). -/
abbrev P.QUALOTH_GROUP_MAC : Nat := 0x0612
/-- PTP_MIRROR (R405). -/
abbrev P.PTP_MIRROR : Nat := 0x0613
/-- PORT_STATUS (R406). -/
abbrev P.PORT_STATUS : Nat := 0x0640
/-- STN_DEF (R313). -/
abbrev P.STN_DEF : Nat := 0x0701
/-- STN_POINTS (R313). -/
abbrev P.STN_POINTS : Nat := 0x0702
/-- STN_ETHERTYPE (R313). -/
abbrev P.STN_ETHERTYPE : Nat := 0x0710
/-- STN_DEST_MAC (R313). -/
abbrev P.STN_DEST_MAC : Nat := 0x0711
/-- STN_INPUT_WINDOW_US (R313). -/
abbrev P.STN_INPUT_WINDOW_US : Nat := 0x0712
/-- STN_STATUS (R314). -/
abbrev P.STN_STATUS : Nat := 0x0740
/-- STN_PRESENT (R314). -/
abbrev P.STN_PRESENT : Nat := 0x0741
/-- STN_LOST (R314). -/
abbrev P.STN_LOST : Nat := 0x0742
/-- STN_FRAMES_REJECTED (R314). -/
abbrev P.STN_FRAMES_REJECTED : Nat := 0x0743
/-- ACCESS_LOAD_PCT (R314). -/
abbrev P.ACCESS_LOAD_PCT : Nat := 0x0744
/-- STN_CLAIM_REJECTS (R314). -/
abbrev P.STN_CLAIM_REJECTS : Nat := 0x0745
/-- FIO_MODE (R345). -/
abbrev P.FIO_MODE : Nat := 0x0801
/-- FIO_FILTER_US (R345). -/
abbrev P.FIO_FILTER_US : Nat := 0x0802
/-- FREQ_WINDOW_MS (R345). -/
abbrev P.FREQ_WINDOW_MS : Nat := 0x0803
/-- NO_PULSE_MS (R345). -/
abbrev P.NO_PULSE_MS : Nat := 0x0804
/-- OUT_ILIM_MA (R345). -/
abbrev P.OUT_ILIM_MA : Nat := 0x0805
/-- OUT_LIMIT_MS (R345). -/
abbrev P.OUT_LIMIT_MS : Nat := 0x0806
/-- OUT_DIAG_EN (R345). -/
abbrev P.OUT_DIAG_EN : Nat := 0x0807
/-- ON_OPEN_MA (R345). -/
abbrev P.ON_OPEN_MA : Nat := 0x0808
/-- PWM_FREQ_HZ (R345). -/
abbrev P.PWM_FREQ_HZ : Nat := 0x0809
/-- FIO_SHARED (R345). -/
abbrev P.FIO_SHARED : Nat := 0x080A
/-- GRP_WARN_V (R345). -/
abbrev P.GRP_WARN_V : Nat := 0x0820
/-- GRP_CUTOFF_V (R345). -/
abbrev P.GRP_CUTOFF_V : Nat := 0x0821
/-- GRP_CUTOFF_MS (R345). -/
abbrev P.GRP_CUTOFF_MS : Nat := 0x0822
/-- GRP_VALID_V (R345). -/
abbrev P.GRP_VALID_V : Nat := 0x0823
/-- GRP_RECOVERY (R345). -/
abbrev P.GRP_RECOVERY : Nat := 0x0824
/-- GRP_HOLDOFF_MS (R345). -/
abbrev P.GRP_HOLDOFF_MS : Nat := 0x0825
/-- AIN_RANGE (R345). -/
abbrev P.AIN_RANGE : Nat := 0x0840
/-- AIN_LO (R345). -/
abbrev P.AIN_LO : Nat := 0x0841
/-- AIN_HI (R345). -/
abbrev P.AIN_HI : Nat := 0x0842
/-- AIN_AVG_N (R345). -/
abbrev P.AIN_AVG_N : Nat := 0x0843
/-- AIN_AGE_MAX_MS (R345). -/
abbrev P.AIN_AGE_MAX_MS : Nat := 0x0844
/-- AOUT_RANGE (R345). -/
abbrev P.AOUT_RANGE : Nat := 0x0850
/-- AOUT_DIAG_EN (R345). -/
abbrev P.AOUT_DIAG_EN : Nat := 0x0851
/-- AFE_REF_MODE (R186). -/
abbrev P.AFE_REF_MODE : Nat := 0x0870
/-- AFE_CAL_FAULT (R187). -/
abbrev P.AFE_CAL_FAULT : Nat := 0x0871
/-- AFE_CAL_AGED (R187). -/
abbrev P.AFE_CAL_AGED : Nat := 0x0872
/-- FIO_STATUS (R347). -/
abbrev P.FIO_STATUS : Nat := 0x0880
/-- GRP_STATUS (R347). -/
abbrev P.GRP_STATUS : Nat := 0x0881
/-- AOUT_LATCH (R347). -/
abbrev P.AOUT_LATCH : Nat := 0x0882
/-- FIELD_LINK_LOSSES (R347). -/
abbrev P.FIELD_LINK_LOSSES : Nat := 0x0883
/-- CAN_MODE (R375). -/
abbrev P.CAN_MODE : Nat := 0x0901
/-- CAN_FORMATS (R375). -/
abbrev P.CAN_FORMATS : Nat := 0x0902
/-- NOM_PRESC (R375). -/
abbrev P.NOM_PRESC : Nat := 0x0903
/-- NOM_TSEG1 (R375). -/
abbrev P.NOM_TSEG1 : Nat := 0x0904
/-- NOM_TSEG2 (R375). -/
abbrev P.NOM_TSEG2 : Nat := 0x0905
/-- NOM_SJW (R375). -/
abbrev P.NOM_SJW : Nat := 0x0906
/-- DATA_PRESC (R375). -/
abbrev P.DATA_PRESC : Nat := 0x0907
/-- DATA_TSEG1 (R375). -/
abbrev P.DATA_TSEG1 : Nat := 0x0908
/-- DATA_TSEG2 (R375). -/
abbrev P.DATA_TSEG2 : Nat := 0x0909
/-- DATA_SJW (R375). -/
abbrev P.DATA_SJW : Nat := 0x090A
/-- TDC_MODE (R375). -/
abbrev P.TDC_MODE : Nat := 0x090B
/-- TDC_OFFSET (R375). -/
abbrev P.TDC_OFFSET : Nat := 0x090C
/-- CAN_BUSOFF_RECOVERY (R375). -/
abbrev P.CAN_BUSOFF_RECOVERY : Nat := 0x090D
/-- CAN_BUSOFF_HOLD_MS (R375). -/
abbrev P.CAN_BUSOFF_HOLD_MS : Nat := 0x090E
/-- CAN_AUTH_LABEL (R375). -/
abbrev P.CAN_AUTH_LABEL : Nat := 0x090F
/-- CAN_TX_TIMEOUT_MS (R375). -/
abbrev P.CAN_TX_TIMEOUT_MS : Nat := 0x0910
/-- CAN_BUF (R375). -/
abbrev P.CAN_BUF : Nat := 0x0920
/-- CAN_SIG (R375). -/
abbrev P.CAN_SIG : Nat := 0x0921
/-- CAN_STATUS (R376). -/
abbrev P.CAN_STATUS : Nat := 0x0940
/-- CAN_BUF_STATUS (R376). -/
abbrev P.CAN_BUF_STATUS : Nat := 0x0941
/-- CAN_CLAIM_SEEN (R376). -/
abbrev P.CAN_CLAIM_SEEN : Nat := 0x0942
/-- LANE_ENABLE (R246). -/
abbrev P.LANE_ENABLE : Nat := 0x0A01
/-- PERIOD_TICKS (R246). -/
abbrev P.PERIOD_TICKS : Nat := 0x0A02
/-- PHASE_TICKS (R246). -/
abbrev P.PHASE_TICKS : Nat := 0x0A03
/-- FB_POINT (R246). -/
abbrev P.FB_POINT : Nat := 0x0A04
/-- FB_GAIN (R246). -/
abbrev P.FB_GAIN : Nat := 0x0A05
/-- FB_OFFSET (R246). -/
abbrev P.FB_OFFSET : Nat := 0x0A06
/-- FB_MIN (R246). -/
abbrev P.FB_MIN : Nat := 0x0A07
/-- FB_MAX (R246). -/
abbrev P.FB_MAX : Nat := 0x0A08
/-- FB_AGE_MAX_MS (R246). -/
abbrev P.FB_AGE_MAX_MS : Nat := 0x0A09
/-- OUT_POINT (R246). -/
abbrev P.OUT_POINT : Nat := 0x0A0A
/-- POS_POINT (R246). -/
abbrev P.POS_POINT : Nat := 0x0A0B
/-- SAFE_OUT (R246). -/
abbrev P.SAFE_OUT : Nat := 0x0A0C
/-- SAFE_LATCH (R246). -/
abbrev P.SAFE_LATCH : Nat := 0x0A0D
/-- SP_SRC (R246). -/
abbrev P.SP_SRC : Nat := 0x0A10
/-- SP_FALLBACK_SRC (R246). -/
abbrev P.SP_FALLBACK_SRC : Nat := 0x0A11
/-- SP_FALLBACK_ON (R246). -/
abbrev P.SP_FALLBACK_ON : Nat := 0x0A12
/-- SP_PLAN (R246). -/
abbrev P.SP_PLAN : Nat := 0x0A13
/-- SP_POINT (R246). -/
abbrev P.SP_POINT : Nat := 0x0A14
/-- SP_GAIN (R246). -/
abbrev P.SP_GAIN : Nat := 0x0A15
/-- SP_OFFSET (R246). -/
abbrev P.SP_OFFSET : Nat := 0x0A16
/-- SP_MIN (R246). -/
abbrev P.SP_MIN : Nat := 0x0A17
/-- SP_MAX (R246). -/
abbrev P.SP_MAX : Nat := 0x0A18
/-- SP_SWITCH_RAMP (R246). -/
abbrev P.SP_SWITCH_RAMP : Nat := 0x0A19
/-- HOST_SP_TIMEOUT_MS (R246). -/
abbrev P.HOST_SP_TIMEOUT_MS : Nat := 0x0A1A
/-- FF_SRC (R246). -/
abbrev P.FF_SRC : Nat := 0x0A1B
/-- FF_POINT (R246). -/
abbrev P.FF_POINT : Nat := 0x0A1C
/-- FF_PLAN (R246). -/
abbrev P.FF_PLAN : Nat := 0x0A1D
/-- FB_REACT (R246). -/
abbrev P.FB_REACT : Nat := 0x0A20
/-- FB_RECOVER_N (R246). -/
abbrev P.FB_RECOVER_N : Nat := 0x0A21
/-- FROZEN_N (R246). -/
abbrev P.FROZEN_N : Nat := 0x0A22
/-- FROZEN_BAND (R246). -/
abbrev P.FROZEN_BAND : Nat := 0x0A23
/-- FROZEN_OUT_MOVE (R246). -/
abbrev P.FROZEN_OUT_MOVE : Nat := 0x0A24
/-- IMPL_N (R246). -/
abbrev P.IMPL_N : Nat := 0x0A25
/-- IMPL_BAND (R246). -/
abbrev P.IMPL_BAND : Nat := 0x0A26
/-- VF_SRC (R246). -/
abbrev P.VF_SRC : Nat := 0x0A27
/-- VF_GAIN (R246). -/
abbrev P.VF_GAIN : Nat := 0x0A28
/-- VF_OFFSET (R246). -/
abbrev P.VF_OFFSET : Nat := 0x0A29
/-- VF_MAX_MS (R246). -/
abbrev P.VF_MAX_MS : Nat := 0x0A2A
/-- VF_BOUND_MAX (R246). -/
abbrev P.VF_BOUND_MAX : Nat := 0x0A2B
/-- OVR_LIMIT (R246). -/
abbrev P.OVR_LIMIT : Nat := 0x0A30
/-- OVR_WINDOW (R246). -/
abbrev P.OVR_WINDOW : Nat := 0x0A31
/-- OVR_ACTION (R246). -/
abbrev P.OVR_ACTION : Nat := 0x0A32
/-- KP (R246). -/
abbrev P.KP : Nat := 0x0A40
/-- KI (R246). -/
abbrev P.KI : Nat := 0x0A41
/-- KD (R246). -/
abbrev P.KD : Nat := 0x0A42
/-- SP_WEIGHT_B (R246). -/
abbrev P.SP_WEIGHT_B : Nat := 0x0A43
/-- SP_WEIGHT_C (R246). -/
abbrev P.SP_WEIGHT_C : Nat := 0x0A44
/-- TF (R246). -/
abbrev P.TF : Nat := 0x0A45
/-- KT (R246). -/
abbrev P.KT : Nat := 0x0A46
/-- FF_GAIN (R246). -/
abbrev P.FF_GAIN : Nat := 0x0A47
/-- FF_OFFSET (R246). -/
abbrev P.FF_OFFSET : Nat := 0x0A48
/-- OUT_MIN (R246). -/
abbrev P.OUT_MIN : Nat := 0x0A49
/-- OUT_MAX (R246). -/
abbrev P.OUT_MAX : Nat := 0x0A4A
/-- OUT_RATE (R246). -/
abbrev P.OUT_RATE : Nat := 0x0A4B
/-- FRIC_TABLE (R246). -/
abbrev P.FRIC_TABLE : Nat := 0x0A4C
/-- FRIC_DB (R246). -/
abbrev P.FRIC_DB : Nat := 0x0A4D
/-- DETENT_TABLE (R246). -/
abbrev P.DETENT_TABLE : Nat := 0x0A4E
/-- BUMPLESS_SWAP (R246). -/
abbrev P.BUMPLESS_SWAP : Nat := 0x0A4F
/-- LANE_SP_HOST (R246). -/
abbrev P.LANE_SP_HOST : Nat := 0x0A50
/-- LANE_MODE (R246). -/
abbrev P.LANE_MODE : Nat := 0x0A51
/-- LANE_MAN_OUT (R246). -/
abbrev P.LANE_MAN_OUT : Nat := 0x0A52
/-- LANE_STATUS (R248). -/
abbrev P.LANE_STATUS : Nat := 0x0A60
/-- LANE_COST_NS (R248). -/
abbrev P.LANE_COST_NS : Nat := 0x0A61
/-- SLOT_LOAD_NS (R248). -/
abbrev P.SLOT_LOAD_NS : Nat := 0x0A62
/-- PROC_UTIL (R248). -/
abbrev P.PROC_UTIL : Nat := 0x0A63
/-- LANE_OVERRUNS_TOTAL (R248). -/
abbrev P.LANE_OVERRUNS_TOTAL : Nat := 0x0A64
/-- PROG_START_MODE (R283). -/
abbrev P.PROG_START_MODE : Nat := 0x0B01
/-- HOLD_MAX_S (R283). -/
abbrev P.HOLD_MAX_S : Nat := 0x0B02
/-- RETAIN_PERIOD_S (R283). -/
abbrev P.RETAIN_PERIOD_S : Nat := 0x0B03
/-- TASK_ENABLE (R283). -/
abbrev P.TASK_ENABLE : Nat := 0x0B10
/-- TASK_PERIOD_TICKS (R283). -/
abbrev P.TASK_PERIOD_TICKS : Nat := 0x0B11
/-- TASK_PHASE_TICKS (R283). -/
abbrev P.TASK_PHASE_TICKS : Nat := 0x0B12
/-- INPUT_WAIT_TICKS (R283). -/
abbrev P.INPUT_WAIT_TICKS : Nat := 0x0B13
/-- APPLY_OFFSET_TICKS (R283). -/
abbrev P.APPLY_OFFSET_TICKS : Nat := 0x0B14
/-- OUT_LEAD_TICKS (R283). -/
abbrev P.OUT_LEAD_TICKS : Nat := 0x0B15
/-- PROG_MODE (R284). -/
abbrev P.PROG_MODE : Nat := 0x0B40
/-- PROG_ACTIVE_SERIAL (R284). -/
abbrev P.PROG_ACTIVE_SERIAL : Nat := 0x0B41
/-- PROG_ACTIVE_KEY (R284). -/
abbrev P.PROG_ACTIVE_KEY : Nat := 0x0B42
/-- PROG_STAGED_STATE (R284). -/
abbrev P.PROG_STAGED_STATE : Nat := 0x0B43
/-- PROG_STAGED_SERIAL (R284). -/
abbrev P.PROG_STAGED_SERIAL : Nat := 0x0B44
/-- PROG_SERIAL_FLOOR (R284). -/
abbrev P.PROG_SERIAL_FLOOR : Nat := 0x0B45
/-- PROG_RUN_TICKS (R284). -/
abbrev P.PROG_RUN_TICKS : Nat := 0x0B46
/-- PROG_UTIL (R284). -/
abbrev P.PROG_UTIL : Nat := 0x0B47
/-- TASK_STATUS (R284). -/
abbrev P.TASK_STATUS : Nat := 0x0B48
/-- PROG_FAULT (R284). -/
abbrev P.PROG_FAULT : Nat := 0x0B49
/-- RETAIN_EPOCH (R284). -/
abbrev P.RETAIN_EPOCH : Nat := 0x0B4A
/-- HORIZON_STEPS (R82). -/
abbrev P.HORIZON_STEPS : Nat := 0x0C01
/-- STEP_MINUTES (R82). -/
abbrev P.STEP_MINUTES : Nat := 0x0C02
/-- SCENARIOS (R82). -/
abbrev P.SCENARIOS : Nat := 0x0C03
/-- NONANT_STEPS (R82). -/
abbrev P.NONANT_STEPS : Nat := 0x0C04
/-- REF_SCENARIO (R82). -/
abbrev P.REF_SCENARIO : Nat := 0x0C05
/-- SCENARIO_WEIGHT_0 (R82). -/
abbrev P.SCENARIO_WEIGHT_0 : Nat := 0x0C08
/-- SCENARIO_WEIGHT_1 (R82). -/
abbrev P.SCENARIO_WEIGHT_1 : Nat := 0x0C09
/-- SCENARIO_WEIGHT_2 (R82). -/
abbrev P.SCENARIO_WEIGHT_2 : Nat := 0x0C0A
/-- SCENARIO_WEIGHT_3 (R82). -/
abbrev P.SCENARIO_WEIGHT_3 : Nat := 0x0C0B
/-- SCENARIO_WEIGHT_4 (R82). -/
abbrev P.SCENARIO_WEIGHT_4 : Nat := 0x0C0C
/-- SCENARIO_WEIGHT_5 (R82). -/
abbrev P.SCENARIO_WEIGHT_5 : Nat := 0x0C0D
/-- SCENARIO_WEIGHT_6 (R82). -/
abbrev P.SCENARIO_WEIGHT_6 : Nat := 0x0C0E
/-- SCENARIO_WEIGHT_7 (R82). -/
abbrev P.SCENARIO_WEIGHT_7 : Nat := 0x0C0F
/-- EMISSION_WEIGHT (R82). -/
abbrev P.EMISSION_WEIGHT : Nat := 0x0C10
/-- LIMIT_PENALTY (R82). -/
abbrev P.LIMIT_PENALTY : Nat := 0x0C11
/-- FEEDER_SLACK_PENALTY (R82). -/
abbrev P.FEEDER_SLACK_PENALTY : Nat := 0x0C12
/-- STORE_SLACK_PENALTY (R82). -/
abbrev P.STORE_SLACK_PENALTY : Nat := 0x0C13
/-- FLEX_PENALTY (R82). -/
abbrev P.FLEX_PENALTY : Nat := 0x0C14
/-- EPS_PRIMAL (R82). -/
abbrev P.EPS_PRIMAL : Nat := 0x0C18
/-- EPS_DUAL (R82). -/
abbrev P.EPS_DUAL : Nat := 0x0C19
/-- COMMIT_ROUNDING (R82). -/
abbrev P.COMMIT_ROUNDING : Nat := 0x0C1A
/-- ROUND_THRESHOLD (R82). -/
abbrev P.ROUND_THRESHOLD : Nat := 0x0C1B
/-- ITER_MAX (R82). -/
abbrev P.ITER_MAX : Nat := 0x0C1C
/-- PLANT_SOURCE_SERIES (R82). -/
abbrev P.PLANT_SOURCE_SERIES : Nat := 0x0C20
/-- DEMAND_T_BASE_HEAT (R82). -/
abbrev P.DEMAND_T_BASE_HEAT : Nat := 0x0C24
/-- DEMAND_T_REF_HEAT (R82). -/
abbrev P.DEMAND_T_REF_HEAT : Nat := 0x0C25
/-- DEMAND_T_BASE_COLD (R82). -/
abbrev P.DEMAND_T_BASE_COLD : Nat := 0x0C26
/-- DEMAND_T_REF_COLD (R82). -/
abbrev P.DEMAND_T_REF_COLD : Nat := 0x0C27
/-- OUTDOOR_T_SERIES (R82). -/
abbrev P.OUTDOOR_T_SERIES : Nat := 0x0C28
/-- DEMAND_SCALE_SERIES (R82). -/
abbrev P.DEMAND_SCALE_SERIES : Nat := 0x0C29
/-- SOLVE_CADENCE_S (R122). -/
abbrev P.SOLVE_CADENCE_S : Nat := 0x0C30
/-- SOLVE_PHASE_TICKS (R122). -/
abbrev P.SOLVE_PHASE_TICKS : Nat := 0x0C31
/-- WARM_BUDGET_MS (R122). -/
abbrev P.WARM_BUDGET_MS : Nat := 0x0C32
/-- COLD_BUDGET_MS (R122). -/
abbrev P.COLD_BUDGET_MS : Nat := 0x0C33
/-- FAST_BUDGET_MS (R122). -/
abbrev P.FAST_BUDGET_MS : Nat := 0x0C34
/-- FAST_ITER_MAX (R122). -/
abbrev P.FAST_ITER_MAX : Nat := 0x0C35
/-- PLAN_ACCEPT_PRIMAL (R122). -/
abbrev P.PLAN_ACCEPT_PRIMAL : Nat := 0x0C36
/-- COLD_AFTER_FAILS (R122). -/
abbrev P.COLD_AFTER_FAILS : Nat := 0x0C37
/-- COLD_EVERY (R122). -/
abbrev P.COLD_EVERY : Nat := 0x0C38
/-- PLAN_STALE_S (R122). -/
abbrev P.PLAN_STALE_S : Nat := 0x0C39
/-- SOLVE_CQ (R122). -/
abbrev P.SOLVE_CQ : Nat := 0x0C3A
/-- SOLVE_ENABLE (R122). -/
abbrev P.SOLVE_ENABLE : Nat := 0x0C3B
/-- MODEL_ACTIVE_BANK (R78). -/
abbrev P.MODEL_ACTIVE_BANK : Nat := 0x0C40
/-- MODEL_ACTIVE_SERIAL (R78). -/
abbrev P.MODEL_ACTIVE_SERIAL : Nat := 0x0C41
/-- MODEL_ACTIVE_KEY (R78). -/
abbrev P.MODEL_ACTIVE_KEY : Nat := 0x0C42
/-- MODEL_VAR_COUNT (R78). -/
abbrev P.MODEL_VAR_COUNT : Nat := 0x0C43
/-- MODEL_STAGED_STATE (R78). -/
abbrev P.MODEL_STAGED_STATE : Nat := 0x0C44
/-- MODEL_STAGED_SERIAL (R78). -/
abbrev P.MODEL_STAGED_SERIAL : Nat := 0x0C45
/-- MODEL_SERIAL_FLOOR (R78). -/
abbrev P.MODEL_SERIAL_FLOOR : Nat := 0x0C46
/-- MODEL_UNMEASURED (R78). -/
abbrev P.MODEL_UNMEASURED : Nat := 0x0C47
/-- PLAN_IN_FORCE_ID (R147). -/
abbrev P.PLAN_IN_FORCE_ID : Nat := 0x0C48
/-- PLAN_IN_FORCE_HSTART (R147). -/
abbrev P.PLAN_IN_FORCE_HSTART : Nat := 0x0C49
/-- PLAN_AGE_TICKS (R147). -/
abbrev P.PLAN_AGE_TICKS : Nat := 0x0C4A
/-- PLAN_STALE (R147). -/
abbrev P.PLAN_STALE : Nat := 0x0C4B
/-- SOLVE_RUNNING_HANDLE (R147). -/
abbrev P.SOLVE_RUNNING_HANDLE : Nat := 0x0C4C
/-- SOLVES_SKIPPED (R147). -/
abbrev P.SOLVES_SKIPPED : Nat := 0x0C4D
/-- SOLVES_OVERRUN (R147). -/
abbrev P.SOLVES_OVERRUN : Nat := 0x0C4E
/-- SOLVES_NOT_TAKEN (R147). -/
abbrev P.SOLVES_NOT_TAKEN : Nat := 0x0C4F
/-- SOLVE_CONSEC_FAILS (R147). -/
abbrev P.SOLVE_CONSEC_FAILS : Nat := 0x0C50
/-- ITER_CAPACITY_WARM (R147). -/
abbrev P.ITER_CAPACITY_WARM : Nat := 0x0C51
/-- ITER_CAPACITY_FAST (R147). -/
abbrev P.ITER_CAPACITY_FAST : Nat := 0x0C52
/-- FLEX_SLOTS (R147). -/
abbrev P.FLEX_SLOTS : Nat := 0x0C53
/-- FLEX_DEFERRED (R147). -/
abbrev P.FLEX_DEFERRED : Nat := 0x0C54
/-- PERC_PERIOD_MS (R186). -/
abbrev P.PERC_PERIOD_MS : Nat := 0x0D01
/-- PERC_PHASE_TICKS (R186). -/
abbrev P.PERC_PHASE_TICKS : Nat := 0x0D02
/-- PARCEL_MERGE_K (R186). -/
abbrev P.PARCEL_MERGE_K : Nat := 0x0D03
/-- PARCELS_PER_SEG_MAX (R186). -/
abbrev P.PARCELS_PER_SEG_MAX : Nat := 0x0D04
/-- PROCESS_NOISE_K (R186). -/
abbrev P.PROCESS_NOISE_K : Nat := 0x0D05
/-- FLOW_SWEEPS (R186). -/
abbrev P.FLOW_SWEEPS : Nat := 0x0D06
/-- NODE_T_SIGMA (R186). -/
abbrev P.NODE_T_SIGMA : Nat := 0x0D07
/-- NODE_P_SIGMA (R186). -/
abbrev P.NODE_P_SIGMA : Nat := 0x0D08
/-- VF_GROWTH_T (R186). -/
abbrev P.VF_GROWTH_T : Nat := 0x0D09
/-- VF_GROWTH_P (R186). -/
abbrev P.VF_GROWTH_P : Nat := 0x0D0A
/-- VF_GROWTH_M (R186). -/
abbrev P.VF_GROWTH_M : Nat := 0x0D0B
/-- MEAS_BINDING (R186). -/
abbrev P.MEAS_BINDING : Nat := 0x0D10
/-- CAL_ENABLE (R186). -/
abbrev P.CAL_ENABLE : Nat := 0x0D20
/-- CAL_WINDOW_MIN (R186). -/
abbrev P.CAL_WINDOW_MIN : Nat := 0x0D21
/-- CAL_MIN_FLOW_PCT (R186). -/
abbrev P.CAL_MIN_FLOW_PCT : Nat := 0x0D22
/-- CAL_MIN_VALID_PCT (R186). -/
abbrev P.CAL_MIN_VALID_PCT : Nat := 0x0D23
/-- CAL_FREEZE (R186). -/
abbrev P.CAL_FREEZE : Nat := 0x0D24
/-- PERC_STATE (R187). -/
abbrev P.PERC_STATE : Nat := 0x0D40
/-- PERC_LAST_UPDATE (R187). -/
abbrev P.PERC_LAST_UPDATE : Nat := 0x0D41
/-- PERC_EFFECTIVE_PERIOD (R187). -/
abbrev P.PERC_EFFECTIVE_PERIOD : Nat := 0x0D42
/-- PARCEL_COUNT (R187). -/
abbrev P.PARCEL_COUNT : Nat := 0x0D43
/-- PARCEL_MERGE_EFFECTIVE (R187). -/
abbrev P.PARCEL_MERGE_EFFECTIVE : Nat := 0x0D44
/-- PERC_UPDATES_LATE (R187). -/
abbrev P.PERC_UPDATES_LATE : Nat := 0x0D45
/-- MEAS_EXCLUDED (R187). -/
abbrev P.MEAS_EXCLUDED : Nat := 0x0D46
/-- MEAS_DROPPED (R187). -/
abbrev P.MEAS_DROPPED : Nat := 0x0D47
/-- CAL_VERSION (R187). -/
abbrev P.CAL_VERSION : Nat := 0x0D48
/-- CAL_WINDOWS_VOID (R187). -/
abbrev P.CAL_WINDOWS_VOID : Nat := 0x0D49
/-- CAL_STEP_LIMITED (R187). -/
abbrev P.CAL_STEP_LIMITED : Nat := 0x0D4A
/-- CAL_AT_LIMIT (R187). -/
abbrev P.CAL_AT_LIMIT : Nat := 0x0D4B
/-- FED_ENABLE (R218). -/
abbrev P.FED_ENABLE : Nat := 0x0E01
/-- QUALOTH_ADDR (R218). -/
abbrev P.QUALOTH_ADDR : Nat := 0x0E02
/-- GATEWAY_ROLE (R218). -/
abbrev P.GATEWAY_ROLE : Nat := 0x0E03
/-- EXCH_STEPS (R218). -/
abbrev P.EXCH_STEPS : Nat := 0x0E08
/-- EXCH_STEP_MIN (R218). -/
abbrev P.EXCH_STEP_MIN : Nat := 0x0E09
/-- FED_SILENT_ROUNDS (R218). -/
abbrev P.FED_SILENT_ROUNDS : Nat := 0x0E0A
/-- FED_PRICE_SCALE (R218). -/
abbrev P.FED_PRICE_SCALE : Nat := 0x0E0B
/-- FED_PIN_PENALTY (R218). -/
abbrev P.FED_PIN_PENALTY : Nat := 0x0E0C
/-- FLOOR_LEAD_S (R218). -/
abbrev P.FLOOR_LEAD_S : Nat := 0x0E18
/-- FLOOR_MEMORY_S (R218). -/
abbrev P.FLOOR_MEMORY_S : Nat := 0x0E19
/-- FLOOR_SETTLE_ROUNDS (R218). -/
abbrev P.FLOOR_SETTLE_ROUNDS : Nat := 0x0E1A
/-- FLOOR_HOLD_ROUNDS (R218). -/
abbrev P.FLOOR_HOLD_ROUNDS : Nat := 0x0E1B
/-- QUALOTH_CUR_VERSION (R219). -/
abbrev P.QUALOTH_CUR_VERSION : Nat := 0x0E30
/-- FLOOR_IN_FORCE (R219). -/
abbrev P.FLOOR_IN_FORCE : Nat := 0x0E31
/-- FLOOR_PENDING (R219). -/
abbrev P.FLOOR_PENDING : Nat := 0x0E32
/-- FLOOR_SWITCH_EPOCH (R219). -/
abbrev P.FLOOR_SWITCH_EPOCH : Nat := 0x0E33
/-- VERSION_GAP (R219). -/
abbrev P.VERSION_GAP : Nat := 0x0E34
/-- QUALOTH_REJECTED (R219). -/
abbrev P.QUALOTH_REJECTED : Nat := 0x0E35
/-- FED_RESYNCS (R219). -/
abbrev P.FED_RESYNCS : Nat := 0x0E36
/-- SCOPE_MEMBERS (R219). -/
abbrev P.SCOPE_MEMBERS : Nat := 0x0E37
/-- COUPLING_STATUS (R219). -/
abbrev P.COUPLING_STATUS : Nat := 0x0E40

end Sys2Proof.Machine
end

