-- ==== Sys2Proof/Machine/Tab.lean ====
section
/-! DEFINITION. Sparse tables: entries by number, in strictly rising order of the number. -/

namespace Sys2Proof.Machine

/-- The entry of number `k`. -/
def tget {α : Type} : Tab α → Nat → Option α
  | [], _ => none
  | (j, v) :: r, k => if j = k then some v else tget r k

/-- The entry of number `k`, or `d` where the table lists none. -/
def tgetD {α : Type} (t : Tab α) (k : Nat) (d : α) : α := (tget t k).getD d

/-- The table with the entry of number `k` set to `v`. -/
def tset {α : Type} : Tab α → Nat → α → Tab α
  | [], k, v => [(k, v)]
  | (j, w) :: r, k, v =>
    if k < j then (k, v) :: (j, w) :: r
    else if j = k then (k, v) :: r
    else (j, w) :: tset r k v

/-- The table without the entry of number `k`. -/
def tdel {α : Type} : Tab α → Nat → Tab α
  | [], _ => []
  | (j, w) :: r, k => if j = k then tdel r k else (j, w) :: tdel r k

/-- The table with `f` applied to the entry of number `k`, which is `d` where the table lists none. -/
def tmod {α : Type} (t : Tab α) (k : Nat) (d : α) (f : α → α) : Tab α := tset t k (f (tgetD t k d))

/-- Every entry changed by `f`, which sees its number. -/
def tmap {α β : Type} (t : Tab α) (f : Nat → α → β) : Tab β := t.map (fun x => (x.1, f x.1 x.2))

/-- The numbers that the table lists. -/
def tkeys {α : Type} (t : Tab α) : List Nat := t.map (·.1)

/-- The table with the entries of `u` written over those of `t`. -/
def tjoin {α : Type} (t u : Tab α) : Tab α := u.foldl (fun a x => tset a x.1 x.2) t

/-- The numbers rise strictly. -/
def tsorted {α : Type} : Tab α → Bool
  | [] => true
  | [_] => true
  | (j, _) :: (k, w) :: r => decide (j < k) && tsorted ((k, w) :: r)

end Sys2Proof.Machine
end

