-- ==== Sys2Proof/Machine/ParamTab.lean ====
section
/-! DEFINITION. The parameter tables: for every parameter its indices, its commit group, the fields of
its value with their fixed ranges, and its default. A field is held as the unsigned number of its
bits; a real number as the bits of an f32 (log entry 21). -/

namespace Sys2Proof.Machine

/-- One field of a parameter value: its width and its fixed range (R429). -/
inductive PKind where
  /-- an unsigned number in a range; a reserved field is one with the range 0 to 0. -/
  | nat (w lo hi : Nat)
  /-- an unsigned number in a range, or one other value. -/
  | natOr (w lo hi other : Nat)
  /-- a multiple of `m` in a range. -/
  | step (w lo hi m : Nat)
  /-- one of the listed values. -/
  | set (w : Nat) (vs : List Nat)
  /-- bits; those outside the mask are reserved. -/
  | bits (w mask : Nat)
  /-- a signed number in a range. -/
  | int (w : Nat) (lo hi : Int)
  /-- a real number in a range. -/
  | real (lo hi : Rat)
  /-- a real number with a fixed lower end. -/
  | realGE (lo : Rat)
  /-- a real number with a fixed upper end. -/
  | realLE (hi : Rat)
  /-- a nonzero real number in a range. -/
  | realNZ (lo hi : Rat)
  /-- a nonzero real number. -/
  | realNZAny
  /-- a real number above 0 with an upper end. -/
  | realPos (hi : Rat)
  /-- a real number above 0. -/
  | realPosFin
  /-- a finite real number. -/
  | finite
  /-- a key label (R446). -/
  | label
  /-- a unicast MAC address. -/
  | mac
  /-- a MAC address. -/
  | mac48
  /-- a group MAC address. -/
  | macGroup
  /-- a Qualoth address; bits 31 to 18 are 0 (R188). -/
  | addr

/-- A row of a parameter table. Group 0 marks an immediate parameter, group 1 a read-only one. -/
structure PSpec where
  /-- ID. -/
  id : Nat
  /-- first index. -/
  first : Nat
  /-- number of indices. -/
  count : Nat
  /-- commit group code (R435). -/
  group : Nat
  /-- the fields. -/
  fields : List PKind
  /-- fields that repeat to the end of the value. -/
  rep : List PKind
  /-- a record with a stated layout, as against a scalar. -/
  isRec : Bool
  /-- default. -/
  dflt : PVal

/-- Values of FORMAT of a CAN buffer: bits 4 to 0, with bits 1 and 0 not both set (R356). -/
def canFormats : List Nat := (List.range 32).filter (fun n => n % 4 != 3)

/-- Parameters of group 16#01 (R10). -/
def hostParams : List PSpec :=
  [⟨P.EVENT_CQ, 0, 1, 0x0101, [.natOr 8 0 7 255], [], false, [0]⟩,
   ⟨P.EVENT_MASK, 0, 4, 0x0000, [.bits 32 7], [], false, [7]⟩,
   ⟨P.HANDLES_OPEN, 0, 1, 0x0001, [], [], false, []⟩,
   ⟨P.EVENTS_LOST, 0, 1, 0x0001, [], [], false, []⟩,
   ⟨P.ALARMS_DROPPED, 0, 1, 0x0001, [], [], false, []⟩,
   ⟨P.MIRROR_STATUS, 0, 16, 0x0001, [], [], false, []⟩]

/-- Parameters of group 16#02 (R10). -/
def timeParams : List PSpec :=
  [⟨P.TIME_SOURCE, 0, 1, 0x0201, [.set 8 [0, 1, 2]], [], false, [0]⟩,
   ⟨P.TIME_SEL_EPOCH, 0, 1, 0x0201, [.nat 8 0 3], [], false, [0]⟩,
   ⟨P.TIME_SEL_OUT, 0, 1, 0x0201, [.nat 8 0 3], [], false, [0]⟩,
   ⟨P.TIME_SLEW_PPM, 0, 1, 0x0201, [.nat 16 10 1000], [], false, [500]⟩,
   ⟨P.TIME_SLEW_MAX_S, 0, 1, 0x0201, [.real (1/1000) 100], [], false, [1092616192]⟩,
   ⟨P.TIME_START_WAIT_S, 0, 1, 0x0201, [.nat 16 0 600], [], false, [0]⟩,
   ⟨P.TIME_LOCK_NS, 0, 1, 0x0201, [.nat 32 100 100000], [], false, [1000]⟩,
   ⟨P.TIME_LOCK_S, 0, 1, 0x0201, [.nat 16 1 600], [], false, [10]⟩,
   ⟨P.TIME_OFFSET_LIMIT_NS, 0, 1, 0x0201, [.nat 32 1000 1000000], [], false, [10000]⟩,
   ⟨P.TIME_SYNC_LOSS_S, 0, 1, 0x0201, [.nat 8 1 60], [], false, [3]⟩,
   ⟨P.TIME_UTC_OFFSET_S, 0, 1, 0x0201, [.nat 8 0 255], [], false, [37]⟩,
   ⟨P.TIME_ZONE_MIN, 0, 1, 0x0201, [.int 16 (-720) 840], [], false, [0]⟩,
   ⟨P.PTP_DOMAIN, 0, 1, 0x0201, [.nat 8 0 255], [], false, [0]⟩,
   ⟨P.PTP_PRIORITY1, 0, 1, 0x0201, [.nat 8 0 255], [], false, [128]⟩,
   ⟨P.PTP_PRIORITY2, 0, 1, 0x0201, [.nat 8 0 255], [], false, [128]⟩,
   ⟨P.PTP_SLAVE_ONLY, 0, 1, 0x0201, [.set 8 [0, 1]], [], false, [1]⟩,
   ⟨P.CAL_SYNC, 0, 1, 0x0202, [.set 8 [0, 1]], [], false, [1]⟩,
   ⟨P.CAL_ALM_EN, 0, 4, 0x0202, [.set 8 [0, 1]], [], false, [0]⟩,
   ⟨P.CAL_ALM_TIME, 0, 4, 0x0202, [.nat 32 0 86399], [], false, [0]⟩,
   ⟨P.CAL_ALM_DAYS, 0, 4, 0x0202, [.bits 8 127], [], false, [127]⟩,
   ⟨P.CAL_ALM_DATE, 0, 4, 0x0202, [.nat 16 0 65535], [], false, [0]⟩,
   ⟨P.CAL_ALM_SKIP, 0, 4, 0x0202, [.set 8 [0, 1]], [], false, [0]⟩,
   ⟨P.CAL_ALM_WAKE, 0, 4, 0x0202, [.set 8 [0, 1]], [], false, [0]⟩,
   ⟨P.TB0_STATE, 0, 1, 0x0001, [], [], false, []⟩,
   ⟨P.T0_BASE, 0, 1, 0x0001, [], [], false, []⟩,
   ⟨P.TIME_FLAGS, 0, 1, 0x0001, [], [], false, []⟩,
   ⟨P.MERGE_REMAIN_NS, 0, 1, 0x0001, [], [], false, []⟩,
   ⟨P.TB0_OFFSET_NS, 0, 1, 0x0001, [], [], false, []⟩,
   ⟨P.PTP_GM_IDENTITY, 0, 1, 0x0001, [], [], false, []⟩,
   ⟨P.PTP_STEPS_REMOVED, 0, 1, 0x0001, [], [], false, []⟩,
   ⟨P.TIME_OUTLIERS, 0, 1, 0x0001, [], [], false, []⟩,
   ⟨P.ISLAND_TICKS, 0, 1, 0x0001, [], [], false, []⟩,
   ⟨P.CAL_NOW, 0, 1, 0x0001, [], [], false, []⟩]

/-- Parameters of group 16#03 (R10). -/
def powerParams : List PSpec :=
  [⟨P.GOV_MODE, 0, 1, 0x0301, [.set 8 [0, 1]], [], false, [0]⟩,
   ⟨P.GOV_MIN_MV, 0, 1, 0x0301, [.nat 16 550 900], [], false, [550]⟩,
   ⟨P.GOV_PIN_MV, 0, 1, 0x0301, [.nat 16 710 900], [], false, [800]⟩,
   ⟨P.GOV_TARGET, 0, 1, 0x0301, [.real (5/100) (5/10)], [], false, [1041865114]⟩,
   ⟨P.GOV_SETTLE_MS, 0, 1, 0x0301, [.nat 16 10 10000], [], false, [100]⟩,
   ⟨P.GOV_RAISE_MV, 0, 1, 0x0301, [.nat 8 10 100], [], false, [40]⟩,
   ⟨P.VBULK_WARN_V, 0, 1, 0x0301, [.real (96/10) (120/10)], [], false, [1093140480]⟩,
   ⟨P.SAG_HOLD_S, 0, 1, 0x0301, [.nat 16 1 600], [], false, [1]⟩,
   ⟨P.WAKE_EN, 0, 1, 0x0301, [.bits 8 3], [], false, [0]⟩,
   ⟨P.WAKE_EDGE, 0, 1, 0x0301, [.bits 8 3], [], false, [3]⟩,
   ⟨P.WAKE_DEBOUNCE_MS, 0, 1, 0x0301, [.nat 16 1 1000], [], false, [10]⟩,
   ⟨P.CORE_MV, 0, 1, 0x0001, [], [], false, []⟩,
   ⟨P.MARGIN_MIN, 0, 1, 0x0001, [], [], false, []⟩,
   ⟨P.MARGIN_CLASS, 0, 1, 0x0001, [], [], false, []⟩,
   ⟨P.SPEED_INDEX, 0, 1, 0x0001, [], [], false, []⟩,
   ⟨P.GOV_BREACHES, 0, 1, 0x0001, [], [], false, []⟩,
   ⟨P.VBULK_V, 0, 1, 0x0001, [], [], false, []⟩,
   ⟨P.VAON_V, 0, 1, 0x0001, [], [], false, []⟩,
   ⟨P.RESET_CAUSE, 0, 1, 0x0001, [], [], false, []⟩,
   ⟨P.FW_STATE, 0, 1, 0x0001, [], [], false, []⟩,
   ⟨P.DIE_TEMP, 0, 6, 0x0001, [], [], false, []⟩]

/-- Parameters of group 16#04 (R10). -/
def keyParams : List PSpec :=
  [⟨P.TAMPER_EN, 0, 1, 0x0401, [.bits 8 7], [], false, [7]⟩,
   ⟨P.KEY_OVERLAP_S, 0, 1, 0x0401, [.nat 32 1 86400], [], false, [600]⟩,
   ⟨P.KEY_SCRUB_H, 0, 1, 0x0401, [.nat 8 1 168], [], false, [24]⟩,
   ⟨P.MGMT_IDLE_S, 0, 1, 0x0401, [.nat 32 10 86400], [], false, [900]⟩,
   ⟨P.MGMT_ETHERTYPE, 0, 1, 0x0401, [.nat 16 1536 65535], [], false, [35000]⟩,
   ⟨P.BIND_LOCKOUT_S, 0, 1, 0x0401, [.nat 16 10 3600], [], false, [60]⟩,
   ⟨P.KEY_STORE_STATE, 0, 1, 0x0001, [], [], false, []⟩,
   ⟨P.TAMPER_STATUS, 0, 1, 0x0001, [], [], false, []⟩,
   ⟨P.KEY_SLOTS_BAD, 0, 1, 0x0001, [], [], false, []⟩,
   ⟨P.KEY_ENTRIES_USED, 0, 1, 0x0001, [], [], false, []⟩,
   ⟨P.AUDIT_NEWEST_SEQ, 0, 1, 0x0001, [], [], false, []⟩,
   ⟨P.MGMT_SESSION_STATUS, 0, 4, 0x0001, [], [], false, []⟩]

/-- Parameters of group 16#05 (R10). -/
def pairParams : List PSpec :=
  [⟨P.PAIR_ENABLE, 0, 1, 0x0501, [.set 8 [0, 1]], [], false, [0]⟩,
   ⟨P.PAIR_ID, 0, 1, 0x0501, [.bits 64 0xFFFFFFFFFFFFFFFF], [], false, [0]⟩,
   ⟨P.PAIR_PREFERENCE, 0, 1, 0x0501, [.set 8 [0, 1]], [], false, [0]⟩,
   ⟨P.PAIR_KEY_LABEL, 0, 1, 0x0501, [.label], [], false, [18446744073709551615]⟩,
   ⟨P.CKPT_TASK, 0, 1, 0x0501, [.natOr 8 0 3 255], [], false, [0]⟩,
   ⟨P.CKPT_PERIOD_TICKS, 0, 1, 0x0501, [.step 32 80 80000 8], [], false, [800]⟩,
   ⟨P.PAIR_START_WAIT_MS, 0, 1, 0x0501, [.nat 16 100 60000], [], false, [2000]⟩,
   ⟨P.PAIR_LIVE_WINDOW_MS, 0, 1, 0x0501, [.nat 32 20 600000], [], false, [1000]⟩,
   ⟨P.PAIR_COLD_TAKEOVER, 0, 1, 0x0501, [.set 8 [0, 1]], [], false, [1]⟩,
   ⟨P.PAIR_STATUS, 0, 1, 0x0001, [], [], false, []⟩]

/-- Parameters of group 16#06 (R10). -/
def portParams : List PSpec :=
  [⟨P.PORT_ENABLE, 0, 6, 0x0601, [.set 8 [0, 1]], [], false, [1]⟩,
   ⟨P.PORT_TX_DELAY_NS, 0, 6, 0x0601, [.nat 16 0 10000], [], false, [0]⟩,
   ⟨P.PORT_RX_DELAY_NS, 0, 6, 0x0601, [.nat 16 0 10000], [], false, [0]⟩,
   ⟨P.MACSEC_MODE, 0, 4, 0x0602, [.set 8 [0, 1, 2]], [], false, [0]⟩,
   ⟨P.MACSEC_KEY_LABEL, 0, 4, 0x0602, [.label], [], false, [18446744073709551615]⟩,
   ⟨P.MACSEC_REPLAY_WINDOW, 0, 4, 0x0602, [.nat 32 0 1073741824], [], false, [64]⟩,
   ⟨P.QUALOTH_VLAN, 0, 1, 0x0601, [.nat 16 1 4094], [], false, [4000]⟩,
   ⟨P.QUALOTH_ETHERTYPE, 0, 1, 0x0601, [.nat 16 1536 65535], [], false, [34999]⟩,
   ⟨P.QUALOTH_GROUP_MAC, 0, 1, 0x0601, [.macGroup], [], false, [3639251697665]⟩,
   ⟨P.PTP_MIRROR, 0, 1, 0x0601, [.set 8 [0, 1]], [], false, [0]⟩,
   ⟨P.PORT_STATUS, 0, 6, 0x0001, [], [], false, []⟩]

/-- Parameters of group 16#07 (R10). -/
def stationParams : List PSpec :=
  [⟨P.STN_DEF, 0, 4096, 0x0701, [.nat 8 0 1, .nat 8 0 2, .nat 8 0 3, .nat 8 0 0, .nat 16 1 1000, .nat 16 0 65535, .nat 16 1 4094, .nat 8 0 7, .nat 8 0 0, .mac, .nat 16 0 0, .nat 32 256 262143, .nat 16 1 1024, .nat 16 0 0, .nat 32 0 600000, .label, .nat 64 0 0], [], true, [0, 0, 0, 0, 1, 0, 1, 6, 0, 0, 0, 256, 1, 0, 1000, 18446744073709551615, 0]⟩,
   ⟨P.STN_POINTS, 0, 4096, 0x0701, [], [.nat 8 0 1, .nat 8 0 2, .nat 16 0 0, .realGE (-1000000000), .realLE 1000000000, .finite], true, []⟩,
   ⟨P.STN_ETHERTYPE, 0, 1, 0x0702, [.nat 16 1536 65535], [], false, [34998]⟩,
   ⟨P.STN_DEST_MAC, 0, 1, 0x0702, [.mac48], [], false, [0]⟩,
   ⟨P.STN_INPUT_WINDOW_US, 0, 1, 0x0702, [.nat 16 200 50000], [], false, [2000]⟩,
   ⟨P.STN_STATUS, 0, 4096, 0x0001, [], [], false, []⟩,
   ⟨P.STN_PRESENT, 0, 1, 0x0001, [], [], false, []⟩,
   ⟨P.STN_LOST, 0, 1, 0x0001, [], [], false, []⟩,
   ⟨P.STN_FRAMES_REJECTED, 0, 1, 0x0001, [], [], false, []⟩,
   ⟨P.ACCESS_LOAD_PCT, 0, 2, 0x0001, [], [], false, []⟩,
   ⟨P.STN_CLAIM_REJECTS, 0, 1, 0x0001, [], [], false, []⟩]

/-- Parameters of group 16#08 (R10). -/
def fieldParams : List PSpec :=
  [⟨P.FIO_MODE, 0, 32, 0x0801, [.nat 8 0 5], [], false, [0]⟩,
   ⟨P.FIO_FILTER_US, 0, 32, 0x0801, [.nat 32 0 100000], [], false, [1000]⟩,
   ⟨P.FREQ_WINDOW_MS, 0, 32, 0x0801, [.nat 16 1 10000], [], false, [100]⟩,
   ⟨P.NO_PULSE_MS, 0, 32, 0x0801, [.nat 32 10 600000], [], false, [1000]⟩,
   ⟨P.OUT_ILIM_MA, 0, 32, 0x0801, [.nat 16 100 700], [], false, [700]⟩,
   ⟨P.OUT_LIMIT_MS, 0, 32, 0x0801, [.nat 8 1 100], [], false, [10]⟩,
   ⟨P.OUT_DIAG_EN, 0, 32, 0x0801, [.bits 8 7], [], false, [7]⟩,
   ⟨P.ON_OPEN_MA, 0, 32, 0x0801, [.nat 8 0 50], [], false, [5]⟩,
   ⟨P.PWM_FREQ_HZ, 0, 32, 0x0801, [.nat 16 1 1000], [], false, [100]⟩,
   ⟨P.FIO_SHARED, 0, 32, 0x0801, [.set 8 [0, 1]], [], false, [0]⟩,
   ⟨P.GRP_WARN_V, 0, 4, 0x0802, [.real 18 32], [], false, [1100585370]⟩,
   ⟨P.GRP_CUTOFF_V, 0, 4, 0x0802, [.real 14 30], [], false, [1098907648]⟩,
   ⟨P.GRP_CUTOFF_MS, 0, 4, 0x0802, [.real (5/10) 20], [], false, [1073741824]⟩,
   ⟨P.GRP_VALID_V, 0, 4, 0x0802, [.real 10 30], [], false, [1097859072]⟩,
   ⟨P.GRP_RECOVERY, 0, 4, 0x0802, [.set 8 [0, 1]], [], false, [0]⟩,
   ⟨P.GRP_HOLDOFF_MS, 0, 4, 0x0802, [.nat 16 100 60000], [], false, [1000]⟩,
   ⟨P.AIN_RANGE, 0, 16, 0x0803, [.set 8 [0, 1, 2]], [], false, [0]⟩,
   ⟨P.AIN_LO, 0, 16, 0x0803, [.realGE (-1024/100)], [], false, [3240351498]⟩,
   ⟨P.AIN_HI, 0, 16, 0x0803, [.realLE (256/10)], [], false, [1103940813]⟩,
   ⟨P.AIN_AVG_N, 0, 16, 0x0803, [.set 8 [1, 2, 4, 8, 16, 32, 64]], [], false, [1]⟩,
   ⟨P.AIN_AGE_MAX_MS, 0, 16, 0x0803, [.nat 16 1 1000], [], false, [2]⟩,
   ⟨P.AOUT_RANGE, 0, 8, 0x0804, [.nat 8 0 2], [], false, [0]⟩,
   ⟨P.AOUT_DIAG_EN, 0, 8, 0x0804, [.bits 8 3], [], false, [3]⟩,
   ⟨P.AFE_REF_MODE, 0, 1, 0x0805, [.set 8 [0, 1]], [], false, [0]⟩,
   ⟨P.AFE_CAL_FAULT, 0, 1, 0x0001, [], [], false, []⟩,
   ⟨P.AFE_CAL_AGED, 0, 1, 0x0001, [], [], false, []⟩,
   ⟨P.FIO_STATUS, 0, 32, 0x0001, [], [], false, []⟩,
   ⟨P.GRP_STATUS, 0, 4, 0x0001, [], [], false, []⟩,
   ⟨P.AOUT_LATCH, 0, 1, 0x0001, [], [], false, []⟩,
   ⟨P.FIELD_LINK_LOSSES, 0, 1, 0x0001, [], [], false, []⟩]

/-- Parameters of group 16#09 (R10). -/
def canParams : List PSpec :=
  [⟨P.CAN_MODE, 0, 16, 0x0901, [.nat 8 0 3], [], false, [0]⟩,
   ⟨P.CAN_FORMATS, 0, 16, 0x0901, [.bits 8 7], [], false, [0]⟩,
   ⟨P.NOM_PRESC, 0, 16, 0x0901, [.nat 16 1 256], [], false, [2]⟩,
   ⟨P.NOM_TSEG1, 0, 16, 0x0901, [.nat 16 2 256], [], false, [63]⟩,
   ⟨P.NOM_TSEG2, 0, 16, 0x0901, [.nat 8 1 128], [], false, [16]⟩,
   ⟨P.NOM_SJW, 0, 16, 0x0901, [.nat 8 1 128], [], false, [16]⟩,
   ⟨P.DATA_PRESC, 0, 16, 0x0901, [.nat 8 1 32], [], false, [1]⟩,
   ⟨P.DATA_TSEG1, 0, 16, 0x0901, [.nat 8 1 64], [], false, [6]⟩,
   ⟨P.DATA_TSEG2, 0, 16, 0x0901, [.nat 8 1 32], [], false, [3]⟩,
   ⟨P.DATA_SJW, 0, 16, 0x0901, [.nat 8 1 32], [], false, [3]⟩,
   ⟨P.TDC_MODE, 0, 16, 0x0901, [.set 8 [0, 1]], [], false, [1]⟩,
   ⟨P.TDC_OFFSET, 0, 16, 0x0901, [.nat 8 0 127], [], false, [7]⟩,
   ⟨P.CAN_BUSOFF_RECOVERY, 0, 16, 0x0901, [.set 8 [0, 1]], [], false, [0]⟩,
   ⟨P.CAN_BUSOFF_HOLD_MS, 0, 16, 0x0901, [.nat 32 10 600000], [], false, [1000]⟩,
   ⟨P.CAN_AUTH_LABEL, 0, 16, 0x0901, [.label], [], false, [18446744073709551615]⟩,
   ⟨P.CAN_TX_TIMEOUT_MS, 0, 16, 0x0901, [.nat 16 1 60000], [], false, [1000]⟩,
   ⟨P.CAN_BUF, 0, 1040, 0x0902, [.nat 8 0 2, .set 8 canFormats, .nat 8 0 2, .bits 8 3, .nat 32 0 536870911, .bits 32 0xFFFFFFFF, .bits 32 0xFFFFFFFF, .bits 32 0xFFFFFFFF, .nat 16 0 65535, .nat 8 0 255, .nat 8 0 255, .bits 32 0xFFFFFFFF, .bits 32 0xFFFFFFFF], [], true, [0, 0, 0, 0, 0, 4294967295, 0, 4294967295, 8, 0, 0, 0, 0]⟩,
   ⟨P.CAN_SIG, 0, 65536, 0x0902, [.natOr 8 0 64 255, .bits 8 7, .nat 8 1 32, .nat 8 0 0, .nat 16 0 16383, .nat 16 0 0, .nat 32 256 262143, .realNZAny, .real (-1000000000) 1000000000, .realGE (-1000000000), .realLE 1000000000, .finite], [], true, [255, 0, 8, 0, 0, 0, 256, 1065353216, 0, 3463342888, 1315859240, 0]⟩,
   ⟨P.CAN_STATUS, 0, 16, 0x0001, [], [], false, []⟩,
   ⟨P.CAN_BUF_STATUS, 0, 1040, 0x0001, [], [], false, []⟩,
   ⟨P.CAN_CLAIM_SEEN, 0, 1, 0x0001, [], [], false, []⟩]

/-- Parameters of group 16#0A (R10). -/
def laneParams : List PSpec :=
  [⟨P.LANE_ENABLE, 0, 1024, 0x0A01, [.set 8 [0, 1]], [], false, [0]⟩,
   ⟨P.PERIOD_TICKS, 0, 1024, 0x0A01, [.step 32 8 480000 8], [], false, [800]⟩,
   ⟨P.PHASE_TICKS, 0, 1024, 0x0A01, [.nat 32 0 4294967295], [], false, [0]⟩,
   ⟨P.FB_POINT, 0, 1024, 0x0A01, [.natOr 32 0 262143 0xFFFFFFFF], [], false, [4294967295]⟩,
   ⟨P.FB_GAIN, 0, 1024, 0x0A01, [.realNZ (-1000000) 1000000], [], false, [1065353216]⟩,
   ⟨P.FB_OFFSET, 0, 1024, 0x0A01, [.real (-1000000) 1000000], [], false, [0]⟩,
   ⟨P.FB_MIN, 0, 1024, 0x0A01, [.realGE (-1000000)], [], false, [3379831808]⟩,
   ⟨P.FB_MAX, 0, 1024, 0x0A01, [.realLE 1000000], [], false, [1232348160]⟩,
   ⟨P.FB_AGE_MAX_MS, 0, 1024, 0x0A01, [.nat 32 1 600000], [], false, [1000]⟩,
   ⟨P.OUT_POINT, 0, 1024, 0x0A01, [.natOr 32 0 262143 0xFFFFFFFF], [], false, [4294967295]⟩,
   ⟨P.POS_POINT, 0, 1024, 0x0A01, [.natOr 32 0 262143 0xFFFFFFFF], [], false, [4294967295]⟩,
   ⟨P.SAFE_OUT, 0, 1024, 0x0A01, [.real (-1000000) 1000000], [], false, [0]⟩,
   ⟨P.SAFE_LATCH, 0, 1024, 0x0A01, [.set 8 [0, 1]], [], false, [1]⟩,
   ⟨P.SP_SRC, 0, 1024, 0x0A01, [.nat 8 0 4], [], false, [0]⟩,
   ⟨P.SP_FALLBACK_SRC, 0, 1024, 0x0A01, [.natOr 8 0 4 255], [], false, [255]⟩,
   ⟨P.SP_FALLBACK_ON, 0, 1024, 0x0A01, [.bits 8 15], [], false, [0]⟩,
   ⟨P.SP_PLAN, 0, 1024, 0x0A01, [.bits 32 0xFFFFFFFF, .nat 8 0 255, .natOr 8 0 7 255, .nat 8 0 1, .nat 8 0 0, .nat 32 0 115200, .realNZ (-1000000) 1000000, .real (-1000000) 1000000], [], true, [4294967295, 0, 255, 0, 0, 0, 1065353216, 0]⟩,
   ⟨P.SP_POINT, 0, 1024, 0x0A01, [.natOr 32 0 262143 0xFFFFFFFF], [], false, [4294967295]⟩,
   ⟨P.SP_GAIN, 0, 1024, 0x0A01, [.real (-1000000) 1000000], [], false, [1065353216]⟩,
   ⟨P.SP_OFFSET, 0, 1024, 0x0A01, [.real (-1000000) 1000000], [], false, [0]⟩,
   ⟨P.SP_MIN, 0, 1024, 0x0A01, [.realGE (-1000000)], [], false, [3379831808]⟩,
   ⟨P.SP_MAX, 0, 1024, 0x0A01, [.realLE 1000000], [], false, [1232348160]⟩,
   ⟨P.SP_SWITCH_RAMP, 0, 1024, 0x0A01, [.real 0 1000000], [], false, [0]⟩,
   ⟨P.HOST_SP_TIMEOUT_MS, 0, 1024, 0x0A01, [.nat 32 10 3600000], [], false, [10000]⟩,
   ⟨P.FF_SRC, 0, 1024, 0x0A01, [.set 8 [0, 1, 2]], [], false, [0]⟩,
   ⟨P.FF_POINT, 0, 1024, 0x0A01, [.natOr 32 0 262143 0xFFFFFFFF], [], false, [4294967295]⟩,
   ⟨P.FF_PLAN, 0, 1024, 0x0A01, [.bits 32 0xFFFFFFFF, .nat 8 0 255, .natOr 8 0 7 255, .nat 8 0 1, .nat 8 0 0, .nat 32 0 115200, .realNZ (-1000000) 1000000, .real (-1000000) 1000000], [], true, [4294967295, 0, 255, 0, 0, 0, 1065353216, 0]⟩,
   ⟨P.FB_REACT, 0, 1024, 0x0A01, [.set 8 [0, 1, 2]], [], false, [1]⟩,
   ⟨P.FB_RECOVER_N, 0, 1024, 0x0A01, [.nat 16 1 1000], [], false, [5]⟩,
   ⟨P.FROZEN_N, 0, 1024, 0x0A01, [.nat 16 0 10000], [], false, [0]⟩,
   ⟨P.FROZEN_BAND, 0, 1024, 0x0A01, [.real 0 1000000], [], false, [0]⟩,
   ⟨P.FROZEN_OUT_MOVE, 0, 1024, 0x0A01, [.realPos 1000000], [], false, [1084227584]⟩,
   ⟨P.IMPL_N, 0, 1024, 0x0A01, [.nat 16 0 10000], [], false, [0]⟩,
   ⟨P.IMPL_BAND, 0, 1024, 0x0A01, [.real 0 1000000], [], false, [0]⟩,
   ⟨P.VF_SRC, 0, 1024, 0x0A01, [.bits 32 0xFFFFFFFF, .nat 8 0 255], [], true, [4294967295, 0]⟩,
   ⟨P.VF_GAIN, 0, 1024, 0x0A01, [.realNZ (-1000000) 1000000], [], false, [1065353216]⟩,
   ⟨P.VF_OFFSET, 0, 1024, 0x0A01, [.real (-1000000) 1000000], [], false, [0]⟩,
   ⟨P.VF_MAX_MS, 0, 1024, 0x0A01, [.nat 32 0 86400000], [], false, [0]⟩,
   ⟨P.VF_BOUND_MAX, 0, 1024, 0x0A01, [.realPos 1000000], [], false, [1065353216]⟩,
   ⟨P.OVR_LIMIT, 0, 1024, 0x0A01, [.nat 16 1 1000], [], false, [3]⟩,
   ⟨P.OVR_WINDOW, 0, 1024, 0x0A01, [.nat 16 0 10000], [], false, [100]⟩,
   ⟨P.OVR_ACTION, 0, 1024, 0x0A01, [.set 8 [0, 1]], [], false, [0]⟩,
   ⟨P.KP, 0, 1024, 0x0A02, [.real (-1000000) 1000000], [], false, [0]⟩,
   ⟨P.KI, 0, 1024, 0x0A02, [.real (-1000000) 1000000], [], false, [0]⟩,
   ⟨P.KD, 0, 1024, 0x0A02, [.real (-1000000) 1000000], [], false, [0]⟩,
   ⟨P.SP_WEIGHT_B, 0, 1024, 0x0A02, [.real 0 1], [], false, [1065353216]⟩,
   ⟨P.SP_WEIGHT_C, 0, 1024, 0x0A02, [.real 0 1], [], false, [0]⟩,
   ⟨P.TF, 0, 1024, 0x0A02, [.real (1/1000) 100], [], false, [1036831949]⟩,
   ⟨P.KT, 0, 1024, 0x0A02, [.real 0 1000], [], false, [1065353216]⟩,
   ⟨P.FF_GAIN, 0, 1024, 0x0A02, [.real (-1000000) 1000000], [], false, [0]⟩,
   ⟨P.FF_OFFSET, 0, 1024, 0x0A02, [.real (-1000000) 1000000], [], false, [0]⟩,
   ⟨P.OUT_MIN, 0, 1024, 0x0A02, [.realGE (-1000000)], [], false, [0]⟩,
   ⟨P.OUT_MAX, 0, 1024, 0x0A02, [.realLE 1000000], [], false, [1120403456]⟩,
   ⟨P.OUT_RATE, 0, 1024, 0x0A02, [.real 0 1000000], [], false, [0]⟩,
   ⟨P.FRIC_TABLE, 0, 1024, 0x0A02, [.natOr 16 2 32 0, .nat 16 0 0], [.finite, .realGE 0, .realGE 0], true, [0, 0]⟩,
   ⟨P.FRIC_DB, 0, 1024, 0x0A02, [.real 0 1000000], [], false, [0]⟩,
   ⟨P.DETENT_TABLE, 0, 1024, 0x0A02, [.natOr 16 2 64 0, .nat 16 0 0, .realPosFin, .finite], [.finite], true, [0, 0, 1065353216, 0]⟩,
   ⟨P.BUMPLESS_SWAP, 0, 1024, 0x0A02, [.set 8 [0, 1]], [], false, [1]⟩,
   ⟨P.LANE_SP_HOST, 0, 1024, 0x0000, [.finite], [], false, [0]⟩,
   ⟨P.LANE_MODE, 0, 1024, 0x0000, [.set 8 [1, 2]], [], false, [1]⟩,
   ⟨P.LANE_MAN_OUT, 0, 1024, 0x0000, [.finite], [], false, [0]⟩,
   ⟨P.LANE_STATUS, 0, 1024, 0x0001, [], [], false, []⟩,
   ⟨P.LANE_COST_NS, 0, 1024, 0x0001, [], [], false, []⟩,
   ⟨P.SLOT_LOAD_NS, 0, 128, 0x0001, [], [], false, []⟩,
   ⟨P.PROC_UTIL, 0, 16, 0x0001, [], [], false, []⟩,
   ⟨P.LANE_OVERRUNS_TOTAL, 0, 1, 0x0001, [], [], false, []⟩]

/-- Parameters of group 16#0B (R10). -/
def programParams : List PSpec :=
  [⟨P.PROG_START_MODE, 0, 1, 0x0B01, [.set 8 [0, 1]], [], false, [0]⟩,
   ⟨P.HOLD_MAX_S, 0, 1, 0x0B01, [.nat 32 10 86400], [], false, [600]⟩,
   ⟨P.RETAIN_PERIOD_S, 0, 1, 0x0B01, [.nat 16 1 3600], [], false, [10]⟩,
   ⟨P.TASK_ENABLE, 0, 4, 0x0B02, [.set 8 [0, 1]], [], false, [0]⟩,
   ⟨P.TASK_PERIOD_TICKS, 0, 4, 0x0B02, [.step 32 8 80000 8], [], false, [800]⟩,
   ⟨P.TASK_PHASE_TICKS, 0, 4, 0x0B02, [.nat 32 0 4294967295], [], false, [0]⟩,
   ⟨P.INPUT_WAIT_TICKS, 0, 4, 0x0B02, [.nat 32 0 4294967295], [], false, [0]⟩,
   ⟨P.APPLY_OFFSET_TICKS, 0, 4, 0x0B02, [.nat 32 16 4294967295], [], false, [200]⟩,
   ⟨P.OUT_LEAD_TICKS, 0, 4, 0x0B02, [.nat 32 8 800], [], false, [16]⟩,
   ⟨P.PROG_MODE, 0, 1, 0x0001, [], [], false, []⟩,
   ⟨P.PROG_ACTIVE_SERIAL, 0, 1, 0x0001, [], [], false, []⟩,
   ⟨P.PROG_ACTIVE_KEY, 0, 1, 0x0001, [], [], false, []⟩,
   ⟨P.PROG_STAGED_STATE, 0, 1, 0x0001, [], [], false, []⟩,
   ⟨P.PROG_STAGED_SERIAL, 0, 1, 0x0001, [], [], false, []⟩,
   ⟨P.PROG_SERIAL_FLOOR, 0, 1, 0x0001, [], [], false, []⟩,
   ⟨P.PROG_RUN_TICKS, 0, 1, 0x0001, [], [], false, []⟩,
   ⟨P.PROG_UTIL, 0, 1, 0x0001, [], [], false, []⟩,
   ⟨P.TASK_STATUS, 0, 4, 0x0001, [], [], false, []⟩,
   ⟨P.PROG_FAULT, 0, 1, 0x0001, [], [], false, []⟩,
   ⟨P.RETAIN_EPOCH, 0, 1, 0x0001, [], [], false, []⟩]

/-- Parameters of group 16#0C (R10). -/
def dispatchParams : List PSpec :=
  [⟨P.HORIZON_STEPS, 0, 1, 0x0C01, [.nat 8 1 192], [], false, [96]⟩,
   ⟨P.STEP_MINUTES, 0, 1, 0x0C01, [.set 8 [1, 2, 3, 4, 5, 6, 10, 12, 15, 20, 30, 60]], [], false, [15]⟩,
   ⟨P.SCENARIOS, 0, 1, 0x0C01, [.nat 8 1 8], [], false, [1]⟩,
   ⟨P.NONANT_STEPS, 0, 1, 0x0C01, [.nat 8 1 255], [], false, [4]⟩,
   ⟨P.REF_SCENARIO, 0, 1, 0x0C01, [.nat 8 0 255], [], false, [0]⟩,
   ⟨P.SCENARIO_WEIGHT_0, 0, 1, 0x0C01, [.real 0 1], [], false, [1065353216]⟩,
   ⟨P.SCENARIO_WEIGHT_1, 0, 1, 0x0C01, [.real 0 1], [], false, [0]⟩,
   ⟨P.SCENARIO_WEIGHT_2, 0, 1, 0x0C01, [.real 0 1], [], false, [0]⟩,
   ⟨P.SCENARIO_WEIGHT_3, 0, 1, 0x0C01, [.real 0 1], [], false, [0]⟩,
   ⟨P.SCENARIO_WEIGHT_4, 0, 1, 0x0C01, [.real 0 1], [], false, [0]⟩,
   ⟨P.SCENARIO_WEIGHT_5, 0, 1, 0x0C01, [.real 0 1], [], false, [0]⟩,
   ⟨P.SCENARIO_WEIGHT_6, 0, 1, 0x0C01, [.real 0 1], [], false, [0]⟩,
   ⟨P.SCENARIO_WEIGHT_7, 0, 1, 0x0C01, [.real 0 1], [], false, [0]⟩,
   ⟨P.EMISSION_WEIGHT, 0, 1, 0x0C02, [.real 0 10000], [], false, [0]⟩,
   ⟨P.LIMIT_PENALTY, 0, 1, 0x0C02, [.real 0 10000000], [], false, [1203982336]⟩,
   ⟨P.FEEDER_SLACK_PENALTY, 0, 1, 0x0C02, [.real 0 10000000], [], false, [1203982336]⟩,
   ⟨P.STORE_SLACK_PENALTY, 0, 1, 0x0C02, [.real 0 10000000], [], false, [1195593728]⟩,
   ⟨P.FLEX_PENALTY, 0, 1, 0x0C02, [.real 0 10000000], [], false, [1184645120]⟩,
   ⟨P.EPS_PRIMAL, 0, 1, 0x0C03, [.real (1/1000000) (1/10)], [], false, [981668463]⟩,
   ⟨P.EPS_DUAL, 0, 1, 0x0C03, [.real (1/1000000) (1/10)], [], false, [981668463]⟩,
   ⟨P.COMMIT_ROUNDING, 0, 1, 0x0C03, [.set 8 [0, 1]], [], false, [1]⟩,
   ⟨P.ROUND_THRESHOLD, 0, 1, 0x0C03, [.real (5/100) (95/100)], [], false, [1056964608]⟩,
   ⟨P.ITER_MAX, 0, 1, 0x0C03, [.nat 32 10 100000], [], false, [5000]⟩,
   ⟨P.PLANT_SOURCE_SERIES, 0, 65536, 0x0C04, [.natOr 32 0 255 0xFFFFFFFF], [], false, [4294967295]⟩,
   ⟨P.DEMAND_T_BASE_HEAT, 0, 1, 0x0C04, [.real 5 25], [], false, [1099956224]⟩,
   ⟨P.DEMAND_T_REF_HEAT, 0, 1, 0x0C04, [.realGE (-30)], [], false, [0]⟩,
   ⟨P.DEMAND_T_BASE_COLD, 0, 1, 0x0C04, [.real 10 30], [], false, [1102053376]⟩,
   ⟨P.DEMAND_T_REF_COLD, 0, 1, 0x0C04, [.realLE 50], [], false, [1106247680]⟩,
   ⟨P.OUTDOOR_T_SERIES, 0, 1, 0x0C04, [.natOr 32 0 255 0xFFFFFFFF], [], false, [4294967295]⟩,
   ⟨P.DEMAND_SCALE_SERIES, 0, 1, 0x0C04, [.natOr 32 0 255 0xFFFFFFFF], [], false, [4294967295]⟩,
   ⟨P.SOLVE_CADENCE_S, 0, 1, 0x0C05, [.nat 16 1 900], [], false, [60]⟩,
   ⟨P.SOLVE_PHASE_TICKS, 0, 1, 0x0C05, [.nat 32 0 4294967295], [], false, [0]⟩,
   ⟨P.WARM_BUDGET_MS, 0, 1, 0x0C05, [.nat 32 20 900000], [], false, [500]⟩,
   ⟨P.COLD_BUDGET_MS, 0, 1, 0x0C05, [.nat 32 100 900000], [], false, [2000]⟩,
   ⟨P.FAST_BUDGET_MS, 0, 1, 0x0C05, [.nat 16 10 1000], [], false, [60]⟩,
   ⟨P.FAST_ITER_MAX, 0, 1, 0x0C05, [.nat 16 5 1000], [], false, [40]⟩,
   ⟨P.PLAN_ACCEPT_PRIMAL, 0, 1, 0x0C05, [.real (1/1000000) (1/10)], [], false, [1008981770]⟩,
   ⟨P.COLD_AFTER_FAILS, 0, 1, 0x0C05, [.nat 8 1 100], [], false, [3]⟩,
   ⟨P.COLD_EVERY, 0, 1, 0x0C05, [.nat 16 0 10000], [], false, [0]⟩,
   ⟨P.PLAN_STALE_S, 0, 1, 0x0C05, [.nat 32 10 86400], [], false, [300]⟩,
   ⟨P.SOLVE_CQ, 0, 1, 0x0C05, [.natOr 8 0 7 255], [], false, [0]⟩,
   ⟨P.SOLVE_ENABLE, 0, 1, 0x0C05, [.set 8 [0, 1]], [], false, [1]⟩,
   ⟨P.MODEL_ACTIVE_BANK, 0, 1, 0x0001, [], [], false, []⟩,
   ⟨P.MODEL_ACTIVE_SERIAL, 0, 1, 0x0001, [], [], false, []⟩,
   ⟨P.MODEL_ACTIVE_KEY, 0, 1, 0x0001, [], [], false, []⟩,
   ⟨P.MODEL_VAR_COUNT, 0, 1, 0x0001, [], [], false, []⟩,
   ⟨P.MODEL_STAGED_STATE, 0, 1, 0x0001, [], [], false, []⟩,
   ⟨P.MODEL_STAGED_SERIAL, 0, 1, 0x0001, [], [], false, []⟩,
   ⟨P.MODEL_SERIAL_FLOOR, 0, 1, 0x0001, [], [], false, []⟩,
   ⟨P.MODEL_UNMEASURED, 0, 1, 0x0001, [], [], false, []⟩,
   ⟨P.PLAN_IN_FORCE_ID, 0, 1, 0x0001, [], [], false, []⟩,
   ⟨P.PLAN_IN_FORCE_HSTART, 0, 1, 0x0001, [], [], false, []⟩,
   ⟨P.PLAN_AGE_TICKS, 0, 1, 0x0001, [], [], false, []⟩,
   ⟨P.PLAN_STALE, 0, 1, 0x0001, [], [], false, []⟩,
   ⟨P.SOLVE_RUNNING_HANDLE, 0, 1, 0x0001, [], [], false, []⟩,
   ⟨P.SOLVES_SKIPPED, 0, 1, 0x0001, [], [], false, []⟩,
   ⟨P.SOLVES_OVERRUN, 0, 1, 0x0001, [], [], false, []⟩,
   ⟨P.SOLVES_NOT_TAKEN, 0, 1, 0x0001, [], [], false, []⟩,
   ⟨P.SOLVE_CONSEC_FAILS, 0, 1, 0x0001, [], [], false, []⟩,
   ⟨P.ITER_CAPACITY_WARM, 0, 1, 0x0001, [], [], false, []⟩,
   ⟨P.ITER_CAPACITY_FAST, 0, 1, 0x0001, [], [], false, []⟩,
   ⟨P.FLEX_SLOTS, 0, 1, 0x0001, [], [], false, []⟩,
   ⟨P.FLEX_DEFERRED, 0, 1, 0x0001, [], [], false, []⟩]

/-- Parameters of group 16#0D (R10). -/
def percParams : List PSpec :=
  [⟨P.PERC_PERIOD_MS, 0, 1, 0x0D01, [.step 16 100 10000 100], [], false, [1000]⟩,
   ⟨P.PERC_PHASE_TICKS, 0, 1, 0x0D01, [.nat 32 0 4294967295], [], false, [0]⟩,
   ⟨P.PARCEL_MERGE_K, 0, 1, 0x0D01, [.real (1/100) 5], [], false, [1045220557]⟩,
   ⟨P.PARCELS_PER_SEG_MAX, 0, 1, 0x0D01, [.nat 8 4 255], [], false, [64]⟩,
   ⟨P.PROCESS_NOISE_K, 0, 1, 0x0D01, [.real 0 10], [], false, [1056964608]⟩,
   ⟨P.FLOW_SWEEPS, 0, 1, 0x0D01, [.nat 8 1 16], [], false, [4]⟩,
   ⟨P.NODE_T_SIGMA, 0, 1, 0x0D02, [.real (1/100) 10], [], false, [1045220557]⟩,
   ⟨P.NODE_P_SIGMA, 0, 1, 0x0D02, [.real (1/10) 100], [], false, [1092616192]⟩,
   ⟨P.VF_GROWTH_T, 0, 1, 0x0D02, [.real 0 10], [], false, [1028443341]⟩,
   ⟨P.VF_GROWTH_P, 0, 1, 0x0D02, [.real 0 100], [], false, [1065353216]⟩,
   ⟨P.VF_GROWTH_M, 0, 1, 0x0D02, [.real 0 10], [], false, [1056964608]⟩,
   ⟨P.MEAS_BINDING, 0, 65536, 0x0D02, [.bits 32 0xFFFFFFFF, .nat 8 0 255, .nat 24 0 0, .nat 32 0 262143, .realPos 1000000], [], true, [4294967295, 0, 0, 0, 1065353216]⟩,
   ⟨P.CAL_ENABLE, 0, 1, 0x0D03, [.bits 8 15], [], false, [0]⟩,
   ⟨P.CAL_WINDOW_MIN, 0, 1, 0x0D03, [.set 16 [15, 30, 60, 120, 240, 1440]], [], false, [60]⟩,
   ⟨P.CAL_MIN_FLOW_PCT, 0, 1, 0x0D03, [.nat 8 1 50], [], false, [10]⟩,
   ⟨P.CAL_MIN_VALID_PCT, 0, 1, 0x0D03, [.nat 8 50 100], [], false, [80]⟩,
   ⟨P.CAL_FREEZE, 0, 1, 0x0000, [.set 8 [0, 1]], [], false, [0]⟩,
   ⟨P.PERC_STATE, 0, 1, 0x0001, [], [], false, []⟩,
   ⟨P.PERC_LAST_UPDATE, 0, 1, 0x0001, [], [], false, []⟩,
   ⟨P.PERC_EFFECTIVE_PERIOD, 0, 1, 0x0001, [], [], false, []⟩,
   ⟨P.PARCEL_COUNT, 0, 1, 0x0001, [], [], false, []⟩,
   ⟨P.PARCEL_MERGE_EFFECTIVE, 0, 1, 0x0001, [], [], false, []⟩,
   ⟨P.PERC_UPDATES_LATE, 0, 1, 0x0001, [], [], false, []⟩,
   ⟨P.MEAS_EXCLUDED, 0, 1, 0x0001, [], [], false, []⟩,
   ⟨P.MEAS_DROPPED, 0, 1, 0x0001, [], [], false, []⟩,
   ⟨P.CAL_VERSION, 0, 1, 0x0001, [], [], false, []⟩,
   ⟨P.CAL_WINDOWS_VOID, 0, 1, 0x0001, [], [], false, []⟩,
   ⟨P.CAL_STEP_LIMITED, 0, 1, 0x0001, [], [], false, []⟩,
   ⟨P.CAL_AT_LIMIT, 0, 1, 0x0001, [], [], false, []⟩]

/-- Parameters of group 16#0E (R10). -/
def fedParams : List PSpec :=
  [⟨P.FED_ENABLE, 0, 1, 0x0E01, [.set 8 [0, 1]], [], false, [1]⟩,
   ⟨P.QUALOTH_ADDR, 0, 1, 0x0E01, [.addr], [], false, [0]⟩,
   ⟨P.GATEWAY_ROLE, 0, 1, 0x0E01, [.set 8 [0, 1, 2]], [], false, [0]⟩,
   ⟨P.EXCH_STEPS, 4, 3, 0x0E02, [.nat 8 4 192], [], false, [96]⟩,
   ⟨P.EXCH_STEP_MIN, 4, 3, 0x0E02, [.set 8 [15, 30, 60]], [], false, [15]⟩,
   ⟨P.FED_SILENT_ROUNDS, 0, 1, 0x0E02, [.nat 8 1 30], [], false, [2]⟩,
   ⟨P.FED_PRICE_SCALE, 0, 1, 0x0E02, [.real 1 10000], [], false, [1120403456]⟩,
   ⟨P.FED_PIN_PENALTY, 0, 1, 0x0E02, [.real 0 10000000], [], false, [1203982336]⟩,
   ⟨P.FLOOR_LEAD_S, 4, 3, 0x0E03, [.nat 32 20 86400], [], false, [60]⟩,
   ⟨P.FLOOR_MEMORY_S, 0, 1, 0x0E03, [.nat 32 600 604800], [], false, [3600]⟩,
   ⟨P.FLOOR_SETTLE_ROUNDS, 0, 1, 0x0E03, [.nat 8 1 100], [], false, [3]⟩,
   ⟨P.FLOOR_HOLD_ROUNDS, 0, 1, 0x0E03, [.nat 16 1 1000], [], false, [30]⟩,
   ⟨P.QUALOTH_CUR_VERSION, 0, 1, 0x0001, [], [], false, []⟩,
   ⟨P.FLOOR_IN_FORCE, 4, 3, 0x0001, [], [], false, []⟩,
   ⟨P.FLOOR_PENDING, 4, 3, 0x0001, [], [], false, []⟩,
   ⟨P.FLOOR_SWITCH_EPOCH, 4, 3, 0x0001, [], [], false, []⟩,
   ⟨P.VERSION_GAP, 0, 1, 0x0001, [], [], false, []⟩,
   ⟨P.QUALOTH_REJECTED, 0, 1, 0x0001, [], [], false, []⟩,
   ⟨P.FED_RESYNCS, 0, 1, 0x0001, [], [], false, []⟩,
   ⟨P.SCOPE_MEMBERS, 4, 3, 0x0001, [], [], false, []⟩,
   ⟨P.COUPLING_STATUS, 0, 256, 0x0001, [], [], false, []⟩]

/-- The parameters of a group by its number (R10). -/
def groupParams : Nat → List PSpec
  | 0x01 => hostParams
  | 0x02 => timeParams
  | 0x03 => powerParams
  | 0x04 => keyParams
  | 0x05 => pairParams
  | 0x06 => portParams
  | 0x07 => stationParams
  | 0x08 => fieldParams
  | 0x09 => canParams
  | 0x0A => laneParams
  | 0x0B => programParams
  | 0x0C => dispatchParams
  | 0x0D => percParams
  | 0x0E => fedParams
  | _ => []

/-- The row of a parameter. -/
def pspec (id : Nat) : Option PSpec := (groupParams (id / 256)).find? (fun r => r.id == id)

/-- Width of a field in bits. -/
def PKind.width : PKind → Nat
  | .nat w _ _ => w
  | .natOr w _ _ _ => w
  | .step w _ _ _ => w
  | .set w _ => w
  | .bits w _ => w
  | .int w _ _ => w
  | .real _ _ => 32
  | .realGE _ => 32
  | .realLE _ => 32
  | .realNZ _ _ => 32
  | .realNZAny => 32
  | .realPos _ => 32
  | .realPosFin => 32
  | .finite => 32
  | .label => 64
  | .mac => 48
  | .mac48 => 48
  | .macGroup => 48
  | .addr => 32

/-- A number of `w` bits read as a signed number. -/
def toSigned (w n : Nat) : Int := if 2 * n < 2 ^ w then n else (n : Int) - 2 ^ w

/-- A field value as a real number. -/
def fof (n : Nat) : F32 := ⟨BitVec.ofNat 32 n⟩

/-- The exact value of a field that holds a real number. -/
def qof (n : Nat) : Rat := F32.rat (fof n)

/-- The end of a range of a real number, which is the number nearest to the value stated (log entry 59). -/
def endQ (q : Rat) : Rat := (F32.ofRat q).rat

/-- A field lies in its fixed range (R429). -/
def PKind.ok : PKind → Nat → Bool
  | .nat _ lo hi, n => decide (lo ≤ n) && decide (n ≤ hi)
  | .natOr _ lo hi o, n => n == o || (decide (lo ≤ n) && decide (n ≤ hi))
  | .step _ lo hi m, n => decide (lo ≤ n) && decide (n ≤ hi) && n % m == 0
  | .set _ vs, n => vs.contains n
  | .bits _ m, n => n &&& m == n
  | .int w lo hi, n => decide (lo ≤ toSigned w n) && decide (toSigned w n ≤ hi)
  | .real lo hi, n => (fof n).isFin && decide (endQ lo ≤ qof n) && decide (qof n ≤ endQ hi)
  | .realGE lo, n => (fof n).isFin && decide (endQ lo ≤ qof n)
  | .realLE hi, n => (fof n).isFin && decide (qof n ≤ endQ hi)
  | .realNZ lo hi, n => (fof n).isFin && decide (qof n ≠ 0) && decide (endQ lo ≤ qof n) && decide (qof n ≤ endQ hi)
  | .realNZAny, n => (fof n).isFin && decide (qof n ≠ 0)
  | .realPos hi, n => (fof n).isFin && decide (0 < qof n) && decide (qof n ≤ endQ hi)
  | .realPosFin, n => (fof n).isFin && decide (0 < qof n)
  | .finite, n => (fof n).isFin
  | .label, n => n == 2 ^ 64 - 1 || n % 64 == 0 || n == 2 ^ 64 - 2 || n == 2 ^ 64 - 3
  | .mac, n => n / 2 ^ 40 % 2 == 0
  | .mac48, _ => true
  | .macGroup, n => n / 2 ^ 40 % 2 == 1
  | .addr, n => decide (n < 2 ^ 18)

/-- A field fits its width. -/
def PKind.fits (k : PKind) (n : Nat) : Bool := decide (n < 2 ^ k.width)

/-- The kinds of the fields of a value with `n` fields: the fixed ones, then the repeated ones. -/
def PSpec.kinds (r : PSpec) (n : Nat) : List PKind :=
  (r.fields ++ (List.replicate n r.rep).flatten).take n

/-- The number of fields suits the row. -/
def PSpec.lenOk (r : PSpec) (n : Nat) : Bool :=
  if r.rep.isEmpty then n == r.fields.length
  else decide (r.fields.length ≤ n) && (n - r.fields.length) % r.rep.length == 0

/-- A table of an actuator holds as many entries as its N says (R229). -/
def tableLenOk (id : Nat) (v : PVal) : Bool :=
  (id != P.FRIC_TABLE || v.length == 2 + 3 * v.headD 0) && (id != P.DETENT_TABLE || v.length == 4 + v.headD 0)

/-- Every field of a value lies in its fixed range. -/
def PSpec.valOk (r : PSpec) (v : PVal) : Bool :=
  r.lenOk v.length && tableLenOk r.id v && ((r.kinds v.length).zip v).all (fun x => x.1.fits x.2 && x.1.ok x.2)

/-- Bytes of one value: the size of the record, or of the scalar's type (R428). -/
def PSpec.bytes (r : PSpec) (v : PVal) : Nat :=
  if r.isRec then ((r.kinds v.length).map PKind.width).sum / 8 else Config.scalarSize r.id

end Sys2Proof.Machine
end

