-- ==== Sys2Proof/Machine/State.lean ====
section
/-! DEFINITION. The state of the block: everything the specification gives it, the queue of waiting
commands, and what the block has sent so far. -/

namespace Sys2Proof.Machine

/-- What the block sends: entries to the host, writes into host memory, interrupts, frames, messages
and pin levels. The list `State.out` holds them, newest first. -/
inductive OutMsg where
  /-- a completion entry with its result slot (queue) or in a frame (session) (R411, R412). -/
  | entry (dst : Src) (e : Entry) (data : List Byte)
  /-- the reply to a setup packet (R468). -/
  | setup (dst : Src) (mac : BitVec 48) (tag : U32) (status : Nat) (role : Role) (data : List Byte)
  /-- bytes written into host memory (R410, R442). -/
  | hostMem (addr : U64) (bytes : List Byte)
  /-- an MSI-X vector (R416). -/
  | msix (vector : Nat)
  /-- a frame on a network port: port, EtherType, destination, content (R300, R381, R383, R391). -/
  | frame (port : Nat) (ethertype : Nat) (dst : BitVec 48) (bytes : List Byte)
  /-- a pair link message: MSG, VERSION, CLAIM, EPOCH, SEQ and its content (R486, R487). -/
  | pair (msg version claim epoch seq : Nat) (sect : Option CkptSec) (bytes : List Byte)
  /-- a CAN frame given to the bus (R362). -/
  | can (ch buf : Nat) (bytes : List Byte)
  /-- a descriptor written back: channel, transmit ring, index, bytes (R390). -/
  | desc (ch : Nat) (tx : Bool) (index : Nat) (bytes : List Byte)
  /-- a register's value returned to a host read: offset, value (R445, R533). -/
  | readData (off : Nat) (val : U32)
  /-- a pin set to a level (R403, R484, R518). -/
  | pin (name : String) (level : Bool)
  deriving DecidableEq, Repr

/-- The state of the block. -/
structure State where
  /-- the present epoch (ticks since 2000-01-01 00:00:00 TAI) (R394). -/
  epoch : Nat := 0
  /-- highest order of R20 reached at the present tick boundary (R20). -/
  order : Nat := 0
  /-- identity (R1, R445). -/
  ident : Ident := {}
  /-- host port, queues, handles, alarms, staging and views (R407). -/
  host : HostSt := {}
  /-- committed parameters (R428). -/
  par : ParSt := {}
  /-- control lanes (R221). -/
  lane : LaneSt := {}
  /-- program engine (R250). -/
  prog : ProgSt := {}
  /-- model banks, service state and series (R41). -/
  model : ModelSt := {}
  /-- solve cycle and plans (R118). -/
  slv : SolveSt := {}
  /-- Percolator (R150). -/
  perc : PercSt := {}
  /-- analog front end (R181). -/
  afe : AfeSt := {}
  /-- federation exchange (R188). -/
  fed : FedSt := {}
  /-- stations (R291). -/
  stn : StnSt := {}
  /-- process image (absent: value 0, INITIAL set) (R286). -/
  pts : Tab Point := []
  /-- field I/O die (R316). -/
  fio : FieldSt := {}
  /-- CAN channels (R348). -/
  can : CanSt := {}
  /-- ports (R377). -/
  net : NetSt := {}
  /-- time bases (R393). -/
  time : TimeSt := {}
  /-- key store (R446). -/
  key : KeySt := {}
  /-- audit log (R472). -/
  aud : AuditSt := {}
  /-- redundant pair (R479). -/
  pair : PairSt := {}
  /-- power governor (R514). -/
  pwr : PowerSt := {}
  /-- reset controller (R519). -/
  rst : RstSt := {}
  /-- Drip domain and calendar (R527). -/
  drip : DripSt := {}
  /-- versions of earlier epochs that a view may still show, newest first (R19, R23). -/
  past : List Past := []
  /-- the versions of the present tick boundary, once something has been published after it (R19). -/
  edge : Option Past := none
  /-- the latest latch of local and CAN inputs (R20). -/
  latch : Option Latch := none
  /-- the waiting commands, first in, first out (the model's own field). -/
  pending : List Instr := []
  /-- what the block has sent, newest first (the model's own field). -/
  out : List OutMsg := []
  /-- number of the next free value (the model's own field). -/
  free : Nat := 0
  deriving DecidableEq, Repr

/-- Reasons to stop with a fault: there is none, every command has an effect. -/
inductive Fault where
  deriving DecidableEq, Repr

/-- Reasons to refuse a command. -/
inductive Refusal where
  /-- raised by a command that has no meaning yet; safe, since nothing is claimed of it. -/
  | notModelled (mnemonic : String)
  deriving DecidableEq, Repr

/-- The block right after its first power-up: the values that the specification states, and those of
the assumption log where it states none. -/
def State.reset : State := {}

end Sys2Proof.Machine
end

