-- ==== Sys2Proof/Machine/Ops.lean ====
section
/-! DEFINITION. The operations that the commands share: parameter values, the audit log, completion
entries, events, handles, the device status and the order of a tick boundary. -/

namespace Sys2Proof.Machine

/-! ### Parameter values -/

/-- Key of a parameter value: ID and index. -/
def pkey (id idx : Nat) : Nat := id * 65536 + idx

/-- Defaults that differ by level (R218). -/
def levelDefault (id idx : Nat) : Option PVal :=
  if id = P.EXCH_STEPS then some [if idx = 4 then 96 else if idx = 5 then 48 else 24]
  else if id = P.EXCH_STEP_MIN then some [if idx = 4 then 15 else if idx = 5 then 30 else 60]
  else if id = P.FLOOR_LEAD_S then some [if idx = 4 then 60 else if idx = 5 then 300 else 1800]
  else none

/-- Default of a parameter. -/
def pdefault (id idx : Nat) : PVal :=
  match levelDefault id idx with
  | some v => v
  | none => match pspec id with
    | some r => r.dflt
    | none => []

/-- The parameter belongs to LANE_BANK (R234). -/
def isBankId (id : Nat) : Bool := decide (P.KP ≤ id) && decide (id ≤ P.BUMPLESS_SWAP)

/-- A lane of the state. -/
def State.lane? (s : State) (l : Nat) : Lane := tgetD s.lane.lanes l {}

/-- A value of one lane bank (R234). -/
def bankVal (b : Tab PVal) (id lane : Nat) : PVal := tgetD b (pkey id lane) (pdefault id lane)

/-- The value of a parameter in force: the committed value, or that of the lane's active bank. -/
def State.pv (s : State) (id idx : Nat) : PVal :=
  if isBankId id then bankVal (if (s.lane? idx).bankSel then s.par.bankB else s.par.bankA) id idx
  else match tget s.par.vals (pkey id idx) with
    | some v => v
    | none => if id = P.STN_DEST_MAC then [s.net.mac.toNat] else pdefault id idx

/-- First field of a parameter's value. -/
def State.pn (s : State) (id idx : Nat) : Nat := (s.pv id idx).headD 0

/-- Field `k` of a parameter's value. -/
def State.pfld (s : State) (id idx k : Nat) : Nat := (s.pv id idx).getD k 0

/-- A parameter's value as a real number. -/
def State.pf (s : State) (id idx : Nat) : F32 := fof (s.pn id idx)

/-- A parameter's value as an exact number. -/
def State.pq (s : State) (id idx : Nat) : Rat := qof (s.pn id idx)

/-- The state with a committed value. -/
def State.setPv (s : State) (id idx : Nat) (v : PVal) : State :=
  { s with par.vals := tset s.par.vals (pkey id idx) v }

/-! ### The unit -/

/-- The optimiser, the Percolator and the field die are fitted (R1). -/
def State.fitted (s : State) : Bool := s.ident.variant != .q8200

/-- The Barista runs and the queues may be enabled (R445 READY, R521 step 8). -/
def State.ready (s : State) : Bool := decide (8 ≤ s.rst.stage) && !s.rst.asserted

/-- The unit is a standby (R483). -/
def State.isStandby (s : State) : Bool :=
  s.pair.unit == .syncing || s.pair.unit == .synced || s.pair.unit == .demoted

/-- The unit executes and drives outputs (R481). -/
def State.isActive (s : State) : Bool := s.pair.unit == .single || s.pair.unit == .active

/-- Epoch-driven work runs: release is complete, the epoch clock runs and the unit executes
(R398, R483, R521; log entry 23). -/
def State.live (s : State) : Bool :=
  s.rst.stage == 10 && !s.rst.asserted && s.time.running && s.isActive && !s.pair.resuming

/-- DEV_STATUS (R445). -/
def State.devStatusReg (s : State) : U32 :=
  BitVec.ofNat 32 (b2n s.ready + 2 * b2n (s.ready && s.isActive) + 4 * b2n (s.ready && s.isStandby)
    + 8 * b2n s.time.island + 256 * s.rst.stage)

/-- The STAT_ACTIVE land is high while DEV_STATUS ACTIVE is set (R548; 17_electrical_package.md). -/
def State.statActive (s : State) : Bool := s.devStatusReg.getLsbD 1

/-- VIOn is good, `n` from 1 to 4 (R550). -/
def State.vioGood (s : State) (n : Nat) : Bool := s.rst.vio.getLsbD (n - 1)

/-- A block is in block reset (R525). -/
def State.inReset (s : State) (block index : Nat) : Bool :=
  s.rst.blockOps.any (fun o => o.block == block && o.index == index)

/-! ### What the block sends -/

/-- Send a message. -/
def State.emit (s : State) (m : OutMsg) : State := { s with out := m :: s.out }

/-- Word `k` of the MSI-X table entry of a vector (R445). -/
def State.msixWord (s : State) (v k : Nat) : U32 := tgetD s.host.msix (4 * v + k) 0#32

/-- Send an MSI-X vector, or mark it pending while it is masked (R416). -/
def State.sendMsix (s : State) (v : Nat) : State :=
  if (s.msixWord v 3).getLsbD 0 then { s with host.msixPend := s.host.msixPend ||| (1#32 <<< v) }
  else s.emit (.msix v)

/-- Signal a change of DEV_STATUS; before READY there is no link that a vector could take (R416, R521). -/
def State.syncDev (s : State) : State :=
  if s.devStatusReg = s.host.devStatus then s
  else
    let s1 : State := { s with host.devStatus := s.devStatusReg }
    if s.ready then s1.sendMsix 12 else s1

/-! ### Sources and roles -/

end Sys2Proof.Machine

namespace Sys2Proof

/-- QUEUE code of a source (R411). -/
def Src.code : Src → Nat
  | .none => 0xFF
  | .queue n => n
  | .session n => 0xF0 + n

end Sys2Proof

namespace Sys2Proof.Machine

/-- A queue pair. -/
def State.queue (s : State) (n : Nat) : QPair := tgetD s.host.queues n {}

/-- The state with a queue pair changed. -/
def State.setQueue (s : State) (n : Nat) (q : QPair) : State :=
  { s with host.queues := tset s.host.queues n q }

/-- A management session. -/
def State.sess (s : State) (n : Nat) : Session := tgetD s.host.sessions n {}

/-- The state with a management session changed. -/
def State.setSess (s : State) (n : Nat) (v : Session) : State :=
  { s with host.sessions := tset s.host.sessions n v }

/-- The role binding of a source (R409). -/
def State.bindOf (s : State) : Src → Option Binding
  | .none => none
  | .queue n => (s.queue n).bind
  | .session n => (s.sess n).bind

/-- The role bound to a source (R409). -/
def State.roleOf (s : State) (src : Src) : Role :=
  match s.bindOf src with
  | some b => b.role
  | none => .none

end Sys2Proof.Machine

namespace Sys2Proof

/-- Code of a role (R445, R473). -/
def Role.code : Role → Nat
  | .none => 0
  | .operator => 1
  | .installer => 2
  | .maker => 3

end Sys2Proof

namespace Sys2Proof.Machine

/-- The queues and the sessions. -/
def allSrcs : List Src := (List.range 8).map .queue ++ (List.range 4).map .session

/-- An installer binding is held by some source (R470). -/
def State.installerHeld (s : State) : Bool := allSrcs.any (fun x => s.roleOf x == .installer)

/-! ### The audit log -/

/-- Bytes 0 to 79 of an audit record (R473). -/
def auditBytes (r : AuditRec) : List Byte :=
  leRec [(8, r.seq), (8, r.epoch), (1, r.kind), (1, r.role), (1, r.source), (1, r.status),
    (2, r.opcode), (2, r.flags), (8, r.subject), (4, r.handle), (4, r.tag)] ++ padTo 40 r.detail

/-- Detail of a record: data of 40 bytes or fewer as they are, otherwise the leading 40 bytes of their
SHA-384; with the flag DETAIL hashed (R473). -/
def auditDetail (raw : List Byte) : List Byte × Bool :=
  if raw.length ≤ 40 then (padTo 40 raw, false) else ((Config.sha384 raw).take 40, true)

end Sys2Proof.Machine

namespace Sys2Proof

/-- The log with a record appended: its SEQ, its hash over the hash before it and its bytes 0 to 79, its place
SEQ mod 65,536 (R473, R474). -/
def AuditSt.push (a : AuditSt) (r : AuditRec) : AuditSt :=
  let r1 := { r with seq := a.next }
  let h := Config.sha384 (a.prevHash ++ Machine.auditBytes r1)
  { a with
    oldHash := match Machine.tget a.recs (a.next % 65536) with
      | some old => old.hash
      | none => a.oldHash
    recs := Machine.tset a.recs (a.next % 65536) { r1 with hash := h }
    next := a.next + 1
    prevHash := h }

end Sys2Proof

namespace Sys2Proof.Machine

/-- Append a record to the audit log with the present epoch and the island flag (R473, R474). -/
def State.auditPush (s : State) (r : AuditRec) : State :=
  { s with aud := s.aud.push { r with epoch := s.epoch, flags := r.flags + b2n s.time.island } }

/-- Record of a device event: a kind, a code, a status, a subject and data (R472). -/
def State.auditDev (s : State) (kind opcode status subject : Nat) (data : List Byte) : State :=
  let d := auditDetail data
  s.auditPush { kind := kind, source := 0xFF, status := status, opcode := opcode,
                flags := 2 * b2n d.2, subject := subject, detail := d.1 }

/-- The one record of a tick at which events of orders 2 to 5 applied (R472). -/
def State.auditApplied (s : State) (subject : Nat) : State :=
  if s.aud.appliedEpoch = some s.epoch then s
  else { (s.auditDev 5 0 0 subject []) with aud.appliedEpoch := some s.epoch }

/-! ### Completion entries -/

end Sys2Proof.Machine

namespace Sys2Proof

/-- Entries of a completion ring. -/
def QPair.cqLen (q : QPair) : Nat := 2 ^ q.cqSize

/-- Entries of a submission ring. -/
def QPair.sqLen (q : QPair) : Nat := 2 ^ q.sqSize

/-- Every entry of the completion ring waits for the host (R417; log entry 22). -/
def QPair.cqFull (q : QPair) : Bool := decide (q.cqLen ≤ q.cqCount)

/-- The pair after one entry has been written (R414). -/
def QPair.wrote (q : QPair) : QPair :=
  { q with
    cqTail := (q.cqTail + 1) % q.cqLen
    cqCount := q.cqCount + 1
    phase := if q.cqTail + 1 = q.cqLen then !q.phase else q.phase }

/-- The pair after one entry has been dropped (R417). -/
def QPair.dropped (q : QPair) : QPair := { q with lost := q.lost + 1, lostPend := true }

end Sys2Proof

namespace Sys2Proof.Machine

/-- Post an entry to a completion queue: the result slot, the entry, the vector; or drop it where the
queue is full. The flag says that it was dropped. A pair out of service takes nothing (R415 to R418). -/
def State.postQueue (s : State) (n : Nat) (e : Entry) (data : List Byte) : State × Bool :=
  let q := s.queue n
  if !q.enabled then (s, false)
  else if q.cqFull then
    let s1 := s.setQueue n q.dropped
    (if e.kind = 3 then { s1 with host.eventsLost := s1.host.eventsLost + 1 } else s1, true)
  else
    (((s.setQueue n q.wrote).emit
        (.entry (.queue n) { e with phase := q.phase, resultLen := e.resultLen } data)).sendMsix n, false)

/-- Post an entry to a queue or in a frame of a session. -/
def State.post (s : State) (dst : Src) (e : Entry) (data : List Byte) : State × Bool :=
  match dst with
  | .none => (s, false)
  | .queue n => s.postQueue n e data
  | .session n =>
    if (s.sess n).isOpen then
      let m := tgetD s.key.mgmt n {}
      (({ s with key.mgmt := tset s.key.mgmt n { m with txSeq := m.txSeq + 1 } } : State).emit
        (.entry (.session n) e data), false)
    else (s, false)

/-! ### Events -/

/-- Bit of EVENT_MASK that admits an event code (R436). -/
def eventBit (code : Nat) : Nat := if code = 4 then 1 else if code < 4 then 0 else 2

/-- Post an event to EVENT_CQ and to every open session whose EVENT_MASK admits it (R425). -/
def State.event (s : State) (code status : Nat) (data : List Byte) : State :=
  let e : Entry := { status := status, kind := 3, queue := 0xFF, epoch := s.epoch, detail := code,
                     resultLen := data.length }
  let cq := s.pn P.EVENT_CQ 0
  let s1 := if cq < 8 then (s.postQueue cq e data).1 else s
  (List.range 4).foldl
    (fun a n => if bitOf (s.pn P.EVENT_MASK n) (eventBit code) then (a.post (.session n) e data).1 else a) s1

/-- A device condition: the audit record and the event (R425, R472). -/
def State.condition (s : State) (status : Nat) (data : List Byte) : State :=
  (s.auditDev 4 0x0100 status 0 data).event 0x0100 status data

/-! ### Handles -/

/-- An entry of the handle table. -/
def State.hent (s : State) (i : Nat) : HandleEnt := tgetD s.host.handles i {}

/-- Index of a handle (R12). -/
def hIndex (h : U32) : Nat := h.toNat % 2 ^ 24

/-- Generation of a handle (R12). -/
def hGen (h : U32) : Nat := h.toNat / 2 ^ 24

/-- The generation that follows: 1 to 255 and round again (R12). -/
def nextGen (g : Nat) : Nat := if 255 ≤ g then 1 else g + 1

/-- The handle that the next long operation takes, none where no index is free (R420). -/
def State.nextHandle (s : State) : Option U32 :=
  match s.host.freeList with
  | [] => none
  | i :: _ => some (BitVec.ofNat 32 (nextGen (s.hent i).gen * 2 ^ 24 + i))

/-- Open the next handle for an operation (R420, R421). -/
def State.openHandle (s : State) (src cq : Src) (tag : U32) (op : Nat) : State :=
  match s.host.freeList with
  | [] => s
  | i :: r =>
    { s with
      host.freeList := r
      host.handles := tset s.host.handles i
        { gen := nextGen (s.hent i).gen, st := .opened, src := src, cq := cq, tag := tag, op := op } }

/-- The handle is in use with this generation (R421). -/
def State.hUsed (s : State) (h : U32) : Bool :=
  decide (hIndex h < 1024) && (s.hent (hIndex h)).st != .free && (s.hent (hIndex h)).gen == hGen h

/-- The handle's operation is still open. -/
def State.hOpen (s : State) (h : U32) : Bool := s.hUsed h && (s.hent (hIndex h)).st == .opened

/-- Free a handle's index: it goes to the end of the free list (R420). -/
def State.freeHandle (s : State) (i : Nat) : State :=
  { s with
    host.handles := tset s.host.handles i { gen := (s.hent i).gen }
    host.freeList := s.host.freeList ++ [i] }

/-- The operation of a handle ends: its audit record, its completion record, and its index freed when
the record is posted or when none is to be posted; a lost record leaves it COMPLETED (R421, R472). -/
def State.complete (s : State) (h : U32) (status detail : Nat) (data : List Byte) : State :=
  if s.hOpen h then
    let i := hIndex h
    let ent := s.hent i
    let rec1 : Entry :=
      { tag := ent.tag, handle := h, status := status, kind := 2, queue := Src.code ent.src,
        epoch := s.epoch, detail := detail, resultLen := data.length }
    let s1 := s.auditPush { kind := 2, role := Role.code (s.roleOf ent.src), source := Src.code ent.src,
                            status := status, opcode := ent.op, handle := h.toNat, tag := ent.tag.toNat,
                            detail := padTo 40 (le 4 detail) }
    if ent.closed then s1.freeHandle i
    else
      let p := s1.post ent.cq rec1 data
      if p.2 then
        { p.1 with
          host.handles := tset p.1.host.handles i
            { ent with st := .completed, record := some rec1, recData := data } }
      else p.1.freeHandle i
  else s

/-- Set the progress that an open operation reports, in thousandths (R421). -/
def State.progress (s : State) (h : U32) (p : Nat) : State :=
  if s.hOpen h then
    { s with
      host.handles := tset s.host.handles (hIndex h)
        { s.hent (hIndex h) with progress := some p } }
  else s

/-- The open handles of a source continue and post no record (R418). -/
def State.closeHandlesOf (s : State) (src : Src) : State :=
  { s with
    host.handles := tmap s.host.handles
      (fun _ e => if e.st == .opened && e.src == src then { e with closed := true } else e) }

/-! ### Order of a tick boundary -/

/-- The present tick boundary has not passed order `k` (R20; log entry 6). -/
def State.orderOk (s : State) (k : Nat) : Bool := decide (s.order ≤ k)

/-- The boundary has reached order `k`; up to order 6, what starts at the boundary sees the result (R20). -/
def State.atOrder (s : State) (k : Nat) : State :=
  { s with order := max s.order k, edge := if k ≤ 6 then none else s.edge }


/-! ### Points -/

/-- A point record; a point that nothing has written is 0 with INITIAL set (R286, R288). -/
def State.pt (s : State) (p : Nat) : Point := tgetD s.pts p { status := 0x20#16 }

/-- Write a point record. -/
def State.setPt (s : State) (p : Nat) (v : Point) : State := { s with pts := tset s.pts p v }

/-- A fresh free value (log entry 20). -/
def State.freshWord (s : State) : BitVec 32 := Config.freeWord s.free

/-- The state after a free value has been taken. -/
def State.took (s : State) : State := { s with free := s.free + 1 }

/-! ### Status codes (R424) -/

/-- OK. -/
abbrev St.OK : Nat := 0x00
/-- ACCEPTED. -/
abbrev St.ACCEPTED : Nat := 0x01
/-- RUNNING. -/
abbrev St.RUNNING : Nat := 0x02
/-- CANCELLED. -/
abbrev St.CANCELLED : Nat := 0x03
/-- OPCODE. -/
abbrev St.OPCODE : Nat := 0x20
/-- ROLE. -/
abbrev St.ROLE : Nat := 0x21
/-- RANGE. -/
abbrev St.RANGE : Nat := 0x22
/-- DISAGREE. -/
abbrev St.DISAGREE : Nat := 0x23
/-- BUSY. -/
abbrev St.BUSY : Nat := 0x24
/-- NOT_IDLE. -/
abbrev St.NOT_IDLE : Nat := 0x25
/-- STAGED. -/
abbrev St.STAGED : Nat := 0x26
/-- WRONG_MODE. -/
abbrev St.WRONG_MODE : Nat := 0x27
/-- SIGNATURE. -/
abbrev St.SIGNATURE : Nat := 0x28
/-- HANDLE. -/
abbrev St.HANDLE : Nat := 0x29
/-- PORT. -/
abbrev St.PORT : Nat := 0x2A
/-- NOT_FITTED. -/
abbrev St.NOT_FITTED : Nat := 0x60
/-- SOLVE_OVERRUN. -/
abbrev St.SOLVE_OVERRUN : Nat := 0x61
/-- SOLVE_FAILED. -/
abbrev St.SOLVE_FAILED : Nat := 0x62
/-- SNAPSHOT_TORN. -/
abbrev St.SNAPSHOT_TORN : Nat := 0x63
/-- PLAN_STALE. -/
abbrev St.PLAN_STALE : Nat := 0x64
/-- PROG_FAULT. -/
abbrev St.PROG_FAULT : Nat := 0x65
/-- TAKEOVER_GAP. -/
abbrev St.TAKEOVER_GAP : Nat := 0x66
/-- RING_OVERSIZE. -/
abbrev St.RING_OVERSIZE : Nat := 0x67
/-- QUEUE_LOST. -/
abbrev St.QUEUE_LOST : Nat := 0x68
/-- ALARM_FULL. -/
abbrev St.ALARM_FULL : Nat := 0x69
/-- KEY_SLOT_BAD. -/
abbrev St.KEY_SLOT_BAD : Nat := 0x6A
/-- TAMPER. -/
abbrev St.TAMPER : Nat := 0x6B
/-- PARTNER_FAILED. -/
abbrev St.PARTNER_FAILED : Nat := 0x6C
/-- DEMOTED. -/
abbrev St.DEMOTED : Nat := 0x6D
/-- SUPPLY_EVENT. -/
abbrev St.SUPPLY_EVENT : Nat := 0x6E
/-- CAL_ALARM. -/
abbrev St.CAL_ALARM : Nat := 0x6F
/-- OVER_TEMP. -/
abbrev St.OVER_TEMP : Nat := 0x70

/-! ### Versions (R18, R19, R23) -/

/-- The published versions as they stand. -/
def State.present (s : State) : Past :=
  { epoch := s.epoch, par := s.par, lane := s.lane, prog := s.prog, model := s.model, slv := s.slv, perc := s.perc,
    afe := s.afe, fed := s.fed, stn := s.stn, pts := s.pts, fio := s.fio, can := s.can, net := s.net, time := s.time,
    key := s.key, aud := s.aud, pair := s.pair, pwr := s.pwr, rst := s.rst, drip := s.drip }

/-- The state with its published versions replaced by earlier ones. -/
def State.withPast (s : State) (p : Past) : State :=
  { s with
    epoch := p.epoch, par := p.par, lane := p.lane, prog := p.prog, model := p.model, slv := p.slv, perc := p.perc
    afe := p.afe, fed := p.fed, stn := p.stn, pts := p.pts, fio := p.fio, can := p.can, net := p.net, time := p.time
    key := p.key, aud := p.aud, pair := p.pair, pwr := p.pwr, rst := p.rst, drip := p.drip }

/-- What a start of order 7 reads: the versions complete before the tick boundary, and the results of orders 1 to 6
(R19, R20; log entry 65). -/
def State.atEdge (s : State) : State := match s.edge with | some p => s.withPast p | none => s

/-- Something is published after the boundary: the versions of the boundary are kept for the starts still to come (R19;
log entry 65). -/
def State.closeEdge (s : State) : State :=
  match s.edge with | some _ => s | none => { s with edge := some s.present }

/-! ### Accepting a command packet -/

/-- What the tables of commands say of one command (R419, R476, R540, R408, R483). -/
structure CmdInfo where
  /-- opcode. -/
  op : Nat
  /-- roles that may issue it; empty: every bound role and the unbound queues. -/
  who : List Role := []
  /-- accepted on the host port only (R408). -/
  hostOnly : Bool := false
  /-- accepted by a standby (R483). -/
  standby : Bool := false
  /-- needs a block that the OTN-Q8200 lacks (R2). -/
  needsFit : Bool := false
  /-- only reads, so that no audit record is written (R472). -/
  isRead : Bool := false

/-- What a command's own checks decide: the reply, and the effect once the reply is posted. -/
structure Verdict where
  /-- STATUS of the reply. -/
  status : Nat := 0
  /-- DETAIL of the reply. -/
  detail : Nat := 0
  /-- HANDLE of the reply. -/
  handle : U32 := 0#32
  /-- reply data. -/
  data : List Byte := []
  /-- the effect. -/
  act : State → State := id

/-- A rejection: a status and nothing else. -/
def reject (status : Nat) : Verdict := { status := status }

/-- The header of a command frame of the management port (R469). -/
def mgmtHeader (n ftype seq : Nat) : List Byte :=
  leRec [(1, 1), (1, n), (1, ftype), (1, 0), (8, seq), (4, 0)]

/-- The nonce of a management frame (R469): session, direction, two zero bytes, SEQ. -/
def mgmtNonce (n dir seq : Nat) : List Byte := leRec [(1, n), (1, dir), (2, 0), (8, seq)]

/-- The frame of a session verifies and advances SEQ (R469). -/
def State.frameOk (s : State) (n : Nat) (h : Hdr) : Bool :=
  match (s.sess n).bind with
  | some b =>
    decide ((tgetD s.key.mgmt n {}).rxSeq < h.mgmtSeq) &&
      h.mgmtTag == Config.gcmTag b.sk (mgmtNonce n 0 h.mgmtSeq) (mgmtHeader n 2 h.mgmtSeq) h.raw
  | none => false

/-- The Barista can take a command of this source now: a packet waits in an enabled queue, or a frame
that verifies has arrived for an open session (R413, R414, R469; log entry 5). -/
def State.takeable (s : State) (h : Hdr) : Bool :=
  s.ready &&
  match h.src with
  | .none => false
  | .queue n => decide (n < 8) && (s.queue n).enabled && (s.queue n).sqHead != (s.queue n).sqTail
  | .session n => decide (n < 4) && (s.sess n).isOpen && s.frameOk n h

/-- The packet leaves its queue: the submission head advances, or the session's frame counts (R411, R469). -/
def State.unqueue (s : State) (h : Hdr) : State :=
  match h.src with
  | .none => s
  | .queue n =>
    let q := s.queue n
    s.setQueue n { q with sqHead := (q.sqHead + 1) % q.sqLen }
  | .session n =>
    let m := tgetD s.key.mgmt n {}
    ({ s with key.mgmt := tset s.key.mgmt n { m with rxSeq := h.mgmtSeq } } : State).setSess n
      { s.sess n with lastEpoch := s.epoch, idleS := s.pn P.MGMT_IDLE_S 0 }

/-- The packet is taken; what it changes is later than the tick boundary (R19, R411, R469). -/
def State.take (s : State) (h : Hdr) : State := s.closeEdge.unqueue h

/-- A frame that cannot be taken for its tag or SEQ is discarded and counted (R469). -/
def State.discardFrame (s : State) (h : Hdr) : State :=
  match h.src with
  | .session n =>
    if s.ready && decide (n < 4) && (s.sess n).isOpen && !(s.frameOk n h) then
      let m := tgetD s.key.mgmt n {}
      { s with key.mgmt := tset s.key.mgmt n { m with discarded := m.discarded + 1 } }
    else s
  | _ => s

end Sys2Proof.Machine

namespace Sys2Proof

/-- A reserved field is nonzero, or DATA_ADDR stands where none belongs (R9, R410). -/
def Hdr.bad (h : Hdr) : Bool :=
  h.rsv != 0#32 || h.flags &&& 0xFC#8 != 0#8 ||
  (h.dataAddr != 0#64 && (!h.flags.getLsbD 0 || match h.src with | .session _ => true | _ => false))



/-- The command came by the management port. -/
def Hdr.onMgmt (h : Hdr) : Bool := match h.src with | .session _ => true | _ => false

/-- Bytes of reply data that can be returned (R412; log entry 24). -/
def Hdr.room (h : Hdr) : Nat :=
  if h.onMgmt then min h.respLen 1408 else if h.flags.getLsbD 1 then h.respLen else 0

end Sys2Proof

namespace Sys2Proof.Machine

/-- The role admits the command (R409, R467, R470). -/
def State.roleOk (s : State) (c : CmdInfo) (src : Src) : Bool :=
  c.who.isEmpty || c.who.contains (s.roleOf src)

/-- The checks that every command passes first, in this order: port, role, fitted block, mode of the
unit, reserved fields (R2, R408, R409, R483, R9; log entry 12). -/
def State.gate (s : State) (c : CmdInfo) (h : Hdr) : Nat :=
  if h.onMgmt && (c.hostOnly || decide (1408 < h.dataLen)) then St.PORT
  else if !s.roleOk c h.src then St.ROLE
  else if c.needsFit && !s.fitted then St.NOT_FITTED
  else if s.isStandby && !c.standby then St.WRONG_MODE
  else if h.bad then St.RANGE
  else St.OK

/-- The audit record of a command (R472, R473). -/
def State.auditCmd (s : State) (c : CmdInfo) (h : Hdr) (subject : Nat) (detail : List Byte × Bool)
    (v : Verdict) : State :=
  if c.isRead then s
  else s.auditPush { kind := 1, role := Role.code (s.roleOf h.src), source := Src.code h.src,
                     status := v.status, opcode := c.op, flags := 2 * b2n detail.2,
                     subject := subject, handle := v.handle.toNat, tag := h.tag.toNat,
                     detail := detail.1 }

/-- SQ_HEAD of an entry for a source (R411). -/
def State.sqHeadOf (s : State) : Src → Nat
  | .queue n => (s.queue n).sqHead
  | _ => 0

/-- The reply of a command: its data to RESP_ADDR, then its entry (R411, R412). -/
def State.reply (s : State) (h : Hdr) (v : Verdict) : State :=
  let d := v.data.take h.room
  let e : Entry := { tag := h.tag, handle := v.handle, status := v.status, kind := 1,
                     queue := Src.code h.src, sqHead := s.sqHeadOf h.src, epoch := s.epoch,
                     detail := v.detail, resultLen := d.length }
  if h.onMgmt then (s.post h.src e d).1
  else
    let s1 := if d.isEmpty then s else s.emit (.hostMem h.respAddr d)
    (s1.post h.src e []).1

/-- Audit record, reply, effect (R472). -/
def State.finish (s : State) (c : CmdInfo) (h : Hdr) (subject : Nat) (detail : List Byte × Bool)
    (v : Verdict) : State :=
  v.act ((s.auditCmd c h subject detail v).reply h v)

/-- The verdict of a command: the shared checks, then its own. -/
def State.judge (s : State) (c : CmdInfo) (h : Hdr) (f : State → Verdict) : Verdict :=
  if s.gate c h = St.OK then f s else reject (s.gate c h)

/-- A command packet: taken, judged, recorded, answered, and then its effect. -/
def State.command (s : State) (c : CmdInfo) (h : Hdr) (subject : Nat) (f : State → Verdict) : State :=
  if s.takeable h then
    let s1 := s.take h
    s1.finish c h subject (auditDetail h.raw) (s1.judge c h f)
  else s.discardFrame h

/-- The verdict of a long command: BUSY where no handle is free (R33, R420), else ACCEPTED with the
handle, which is opened before the effect. -/
def State.long (s : State) (h : Hdr) (op : Nat) (act : U32 → State → State) : Verdict :=
  match s.nextHandle with
  | none => reject St.BUSY
  | some n =>
    { status := St.ACCEPTED, handle := n,
      act := fun t => act n (t.openHandle h.src h.src h.tag op) }

end Sys2Proof.Machine
end

