-- ==== Sys2Proof/Machine/Host.lean ====
section
/-! DEFINITION. The host port: queues, doorbells, handles, alarms and frame channels (chapter "Host
commands, handles and the coherent view"). -/

namespace Sys2Proof.Machine

/-! ### ECHO and unknown opcodes -/

/-- What the tables say of ECHO (R419). -/
def echoInfo : CmdInfo := { op := 0x0001, standby := true, isRead := true }

/-- ECHO returns its 32 bytes of inline parameters; a smaller reply buffer is RANGE (R412, R419). -/
def echoVerdict (h : Hdr) (bytes : List Byte) (_s : State) : Verdict :=
  if h.room < 32 then reject St.RANGE else { data := padTo 32 bytes }

/-- ECHO (R419). -/
def execEcho (h : Hdr) (bytes : List Byte) (s : State) : Host.Outcome State Fault Refusal :=
  .next (s.command echoInfo h 0 (echoVerdict h bytes))

/-- The opcodes of R419, R476, R511 and R540. -/
def knownOpcodes : List Nat :=
  [0x0001, 0x0002, 0x0003, 0x0004, 0x0005, 0x0006, 0x0007, 0x0008, 0x0009, 0x000A, 0x000B, 0x000C,
   0x000D, 0x000E, 0x000F, 0x0201, 0x0202, 0x0210, 0x0211, 0x0301, 0x0302, 0x0303, 0x0304, 0x0305,
   0x0401, 0x0402, 0x0403, 0x0404, 0x0405, 0x04F0, 0x04F1, 0x04F2, 0x04F3, 0x04F4, 0x04F5, 0x04F6,
   0x04F7, 0x04F8, 0x04F9, 0x04FA, 0x04FB, 0x04FC, 0x04FD, 0x04FE, 0x04FF, 0x0501, 0x0502, 0x0801,
   0x0901, 0x0902, 0x0903, 0x0904, 0x0A01, 0x0A02, 0x0A03, 0x0B01, 0x0B02, 0x0B03, 0x0B04, 0x0B05,
   0x0B06, 0x0B07, 0x0C01, 0x0C02, 0x0C03, 0x0C04, 0x0C05, 0x0C06, 0x0C07, 0x0C08, 0x0C09, 0x0D01,
   0x0D02, 0x0E01]

/-- A packet with an unknown opcode: taken, recorded and rejected with OPCODE (R419). -/
def execCommandUnknown (h : Hdr) (opcode : Nat) (s : State) : Host.Outcome State Fault Refusal :=
  .next (
    if knownOpcodes.contains opcode then s
    else if s.takeable h then
      (s.take h).finish { op := opcode } h 0 (auditDetail h.raw) (reject St.OPCODE)
    else s.discardFrame h)

/-! ### Handles -/

/-- Bytes of a completion entry (R411). -/
def entryBytes (e : Entry) : List Byte :=
  leRec [(4, e.tag.toNat), (4, e.handle.toNat), (1, e.status), (1, e.kind), (1, e.queue), (1, b2n e.phase),
    (2, e.sqHead), (2, 0), (8, e.epoch), (4, e.detail), (4, e.resultLen)]

/-- The source that holds a handle: its command's source, or for an operation that no command requested
the queue that takes its record (R421, R422). -/
def holder (e : HandleEnt) : Src := if e.src = .none then e.cq else e.src

/-- The source holds the handle (R421). -/
def State.holds (s : State) (src : Src) (h : U32) : Bool :=
  s.hUsed h && holder (s.hent (hIndex h)) == src

/-- No source holds the handle: that of a solve which the module started while SOLVE_CQ names no queue; any source whose
role may cancel a solve may cancel it (R127, R138; log entry 53). -/
def State.unheld (s : State) (h : U32) : Bool := s.hUsed h && holder (s.hent (hIndex h)) == .none

/-- Progress in thousandths that an open load reports: a free value that does not fall and reaches 1,000 at most (R421,
R560; log entry 48). -/
def State.progressNow (s : State) (h : U32) : Option Nat :=
  (s.hent (hIndex h)).progress.map (fun p => max p (s.freshWord.toNat % 1001))

/-- What the tables say of HANDLE_QUERY. -/
def handleQueryInfo : CmdInfo := { op := 0x0006, standby := true, isRead := true }

/-- HANDLE_QUERY: RUNNING with the progress while the operation is open; the lost record once, and the
handle freed, when it has completed (R421). -/
def handleQueryVerdict (h : Hdr) (handle : U32) (s : State) : Verdict :=
  if !s.holds h.src handle then reject St.HANDLE
  else
    let e := s.hent (hIndex handle)
    if e.st = .opened then
      match s.progressNow handle with
      | some p => { status := St.RUNNING, detail := p, act := fun t => (t.progress handle p).took }
      | none => { status := St.RUNNING, detail := 0xFFFFFFFF }
    else
      let d := (match e.record with | some r => entryBytes r | none => []) ++ e.recData
      if h.room < d.length then reject St.RANGE
      else { data := d, act := fun t => t.freeHandle (hIndex handle) }

/-- HANDLE_QUERY (R421). -/
def execHandleQuery (h : Hdr) (handle : U32) (s : State) : Host.Outcome State Fault Refusal :=
  .next (s.command handleQueryInfo h handle.toNat (handleQueryVerdict h handle))

/-- What the tables say of HANDLE_CLOSE: a read (R409, entry 61). -/
def handleCloseInfo : CmdInfo := { op := 0x0007, standby := true, isRead := true }

/-- Mark an open handle closed, or free a completed one (R421). -/
def State.closeHandle (s : State) (handle : U32) : State :=
  let i := hIndex handle
  let e := s.hent i
  if e.st = .opened then { s with host.handles := tset s.host.handles i { e with closed := true } }
  else s.freeHandle i

/-- HANDLE_CLOSE: its holder may close a handle, and an installer any handle (R421). -/
def handleCloseVerdict (h : Hdr) (handle : U32) (s : State) : Verdict :=
  if s.holds h.src handle || (s.hUsed handle && s.roleOf h.src == .installer) then
    { act := fun t => t.closeHandle handle }
  else reject St.HANDLE

/-- HANDLE_CLOSE (R421). -/
def execHandleClose (h : Hdr) (handle : U32) (s : State) : Host.Outcome State Fault Refusal :=
  .next (s.command handleCloseInfo h handle.toNat (handleCloseVerdict h handle))

/-! ### Alarms -/

/-- Bytes of an alarm record (R426). -/
def alarmBytes (a : AlarmRec) : List Byte :=
  leRec [(8, a.key.toNat), (1, a.state), (1, a.priority), (1, a.task), (1, 0), (4, a.value.bits.toNat),
    (8, a.raiseEpoch), (8, a.clearEpoch)]

/-- Insert a record behind those raised no later. -/
def alarmInsert (a : AlarmRec) : List AlarmRec → List AlarmRec
  | [] => [a]
  | b :: r => if a.raiseEpoch < b.raiseEpoch then a :: b :: r else b :: alarmInsert a r

/-- Alarm records in order of RAISE_EPOCH (R427). -/
def alarmSort (l : List AlarmRec) : List AlarmRec := l.foldl (fun acc a => alarmInsert a acc) []

/-- What the tables say of ALARM_READ. -/
def alarmReadInfo : CmdInfo := { op := 0x000C, standby := true, isRead := true }

/-- ALARM_READ: whole records within the reply buffer, in order of RAISE_EPOCH (R412, R427). -/
def alarmReadVerdict (h : Hdr) (s : State) : Verdict :=
  { data := (((alarmSort s.host.alarms).take (h.room / 32)).map alarmBytes).flatten }

/-- ALARM_READ (R427). -/
def execAlarmRead (h : Hdr) (s : State) : Host.Outcome State Fault Refusal :=
  .next (s.command alarmReadInfo h 0 (alarmReadVerdict h))

/-- The record is named by an acknowledgement and would change by it (R427). -/
def ackHits (all : Bool) (keys : List U64) (a : AlarmRec) : Bool :=
  (all || keys.contains a.key) && (a.state == 1 || a.state == 3)

/-- Acknowledge: ACTIVE_UNACK to ACTIVE_ACK, CLEARED_UNACK removed (R427). -/
def alarmAcked (all : Bool) (keys : List U64) (l : List AlarmRec) : List AlarmRec :=
  l.filterMap (fun a =>
    if ackHits all keys a then (if a.state = 1 then some { a with state := 2 } else none) else some a)

/-- What the tables say of ALARM_ACK. -/
def alarmAckInfo : CmdInfo := { op := 0x000D, who := [.operator, .installer] }

/-- ALARM_ACK: up to 256 keys or all records; unknown keys are ignored; DETAIL is the number
acknowledged, each of which posts ALARM_ACKED (R425, R427). -/
def alarmAckVerdict (all : Bool) (keys : List U64) (s : State) : Verdict :=
  if 256 < keys.length then reject St.RANGE
  else
    let hit := s.host.alarms.filter (ackHits all keys)
    { detail := hit.length,
      act := fun t =>
        let t1 := { t with host.alarms := alarmAcked all keys t.host.alarms }
        hit.foldl (fun a r =>
          a.event 3 St.OK (alarmBytes (if r.state = 1 then { r with state := 2 } else r))) t1 }

/-- ALARM_ACK (R427). -/
def execAlarmAck (h : Hdr) (all : Bool) (keys : List U64) (s : State) : Host.Outcome State Fault Refusal :=
  .next (s.command alarmAckInfo h ((keys.headD 0#64).toNat) (alarmAckVerdict all keys))

/-! ### Frame channels -/

/-- A frame channel. -/
def State.fch (s : State) (c : Nat) : FrameCh := tgetD s.host.frameChs c {}

/-- The state with a frame channel changed. -/
def State.setFch (s : State) (c : Nat) (v : FrameCh) : State :=
  { s with host.frameChs := tset s.host.frameChs c v }

/-- What the tables say of FRAME_CH_OPEN. -/
def frameChOpenInfo : CmdInfo := { op := 0x000E, who := [.installer], hostOnly := true }

/-- FRAME_CH_OPEN: a channel 0 to 3 and a mask over the PORT codes 0 to 5; a channel that is open is
BUSY (R424, R444). -/
def frameChOpenVerdict (h : Hdr) (ch : Nat) (mask : BitVec 16) (s : State) : Verdict :=
  if 3 < ch || 64 ≤ mask.toNat then reject St.RANGE
  else if (s.fch ch).isOpen then reject St.BUSY
  else { act := fun t => t.setFch ch { t.fch ch with isOpen := true, owner := h.src, portMask := mask } }

/-- FRAME_CH_OPEN (R444). -/
def execFrameChOpen (h : Hdr) (ch : Nat) (mask : BitVec 16) (s : State) :
    Host.Outcome State Fault Refusal :=
  .next (s.command frameChOpenInfo h ch (frameChOpenVerdict h ch mask))

/-- What the tables say of FRAME_CH_CLOSE. -/
def frameChCloseInfo : CmdInfo := { op := 0x000F, who := [.installer], hostOnly := true }

/-- FRAME_CH_CLOSE (R444). -/
def frameChCloseVerdict (ch : Nat) (_s : State) : Verdict :=
  if 3 < ch then reject St.RANGE
  else { act := fun t => t.setFch ch { t.fch ch with isOpen := false, owner := .none, portMask := 0#16 } }

/-- FRAME_CH_CLOSE (R444). -/
def execFrameChClose (h : Hdr) (ch : Nat) (s : State) : Host.Outcome State Fault Refusal :=
  .next (s.command frameChCloseInfo h ch (frameChCloseVerdict ch))

/-! ### Queues -/

/-- The register window answers (R521 step 8, R549). -/
def State.hostUp (s : State) : Bool := s.ready && !s.rst.perst

/-- A doorbell value lies in the ring (R445): the low 12 bits, below the ring's length. -/
def bellIdx (idx : U32) : Nat := idx.toNat % 4096

/-- The submission tail doorbell: ignored and counted in LOST outside the ring (R445). -/
def State.ringSq (s : State) (q : Nat) (idx : U32) : State :=
  let p := s.queue q
  if s.hostUp && decide (q < 8) && p.enabled then
    (if bellIdx idx < p.sqLen then s.setQueue q { p with sqTail := bellIdx idx }
     else s.setQueue q { p with lost := p.lost + 1 })
  else s

/-- SQ_TAIL (R414, R445). -/
def execSqTail (q : Nat) (idx : U32) (s : State) : Host.Outcome State Fault Refusal :=
  .next (s.ringSq q idx)

/-- Entries consumed when the head moves to `idx`. -/
def consumed (p : QPair) (idx : Nat) : Nat := (idx + p.cqLen - p.cqHead) % p.cqLen

/-- The completion head doorbell frees the entries up to it; ignored and counted in LOST outside the
ring (R414, R445). -/
def State.ringCq (s : State) (q : Nat) (idx : U32) : State :=
  let p := s.queue q
  if s.hostUp && decide (q < 8) && p.enabled then
    (if bellIdx idx < p.cqLen then
      s.setQueue q { p with cqHead := bellIdx idx, cqCount := p.cqCount - consumed p (bellIdx idx) }
     else s.setQueue q { p with lost := p.lost + 1 })
  else s

/-- CQ_HEAD (R414, R445). -/
def execCqHead (q : Nat) (idx : U32) (s : State) : Host.Outcome State Fault Refusal :=
  .next (s.ringCq q idx)

/-- A ring size is a log2 of 1 to 12 (R445). -/
def sizeOk (n : Nat) : Bool := decide (1 ≤ n) && decide (n ≤ 12)

/-- ENABLE is set: with both ring sizes valid the pair goes into service, its rings empty and its PHASE
bit 1 (R414, R445). -/
def State.enableQueue (s : State) (q : Nat) : State :=
  let p := s.queue q
  if s.hostUp && decide (q < 8) && !p.enable then
    let ok := sizeOk p.sqSize && sizeOk p.cqSize
    s.setQueue q { p with
      enable := true, enabled := ok, sqTail := 0, sqHead := 0, cqHead := 0, cqTail := 0, cqCount := 0,
      phase := true, lostPend := false }
  else s

/-- QUEUE_ENABLE (R445). -/
def execQueueEnable (q : Nat) (s : State) : Host.Outcome State Fault Refusal :=
  .next (s.enableQueue q)

/-- A maker binding ends when no installer binding remains (R470). -/
def State.dropMakers (s : State) : State :=
  if s.installerHeld then s
  else
    { s with
      host.queues := tmap s.host.queues (fun _ q => match q.bind with
        | some b => if b.role = .maker then { q with bind := none } else q
        | none => q)
      host.sessions := tmap s.host.sessions (fun _ q => match q.bind with
        | some b => if b.role = .maker then { q with isOpen := false, bind := none } else q
        | none => q) }

/-- A pending commit covers a staging copy. -/
def State.isPending (s : State) (e : StagEnt) : Bool :=
  s.host.pendCommits.any (fun p => p.insts.contains (e.group, e.index))

/-- The staging copies and series staging of a source are dropped, those of pending commits apart (R431, R434, R563). -/
def State.dropStaging (s : State) (src : Src) : State :=
  { s with
    host.staging := s.host.staging.filter (fun e => e.owner != src || s.isPending e)
    model.seriesStaged := s.model.seriesStaged.filter (fun e => e.2.owner != src) }

/-- The binding of a queue ends (R418, R471). -/
def State.unbindQueue (s : State) (q : Nat) : State :=
  (s.setQueue q { s.queue q with bind := none }).dropMakers

/-- The host clears ENABLE: waiting packets are discarded, the queue's staged writes dropped, its open
handles post no record, its binding ends (R418). -/
def State.disableQueue (s : State) (q : Nat) : State :=
  let p := s.queue q
  if s.hostUp && decide (q < 8) && p.enable then
    (((s.setQueue q { p with enable := false, enabled := false, sqTail := 0, sqHead := 0 }).dropStaging
      (.queue q)).closeHandlesOf (.queue q)).unbindQueue q
  else s

/-- QUEUE_DISABLE (R418). -/
def execQueueDisable (q : Nat) (s : State) : Host.Outcome State Fault Refusal :=
  .next (s.disableQueue q)

/-- Once the queue has room again, one QUEUE_LOST event is posted to it, with the queue number in
DETAIL (R417). -/
def execQueueLostPost (q : Nat) (s : State) : Host.Outcome State Fault Refusal :=
  .next (
    let p := s.queue q
    if s.ready && decide (q < 8) && p.enabled && p.lostPend && !p.cqFull then
      ((s.setQueue q { p with lostPend := false }).auditDev 4 0x0100 St.QUEUE_LOST q []).postQueue q
        { status := St.QUEUE_LOST, kind := 3, queue := 0xFF, epoch := s.epoch, detail := q } [] |>.1
    else s)

end Sys2Proof.Machine
end

