-- ==== Sys2Proof/Machine/KeyOps.lean ====
section
/-! DEFINITION. Key labels, derivation, resolution and the use of keys by the engines (chapter "Keys,
roles and the audit log", R446 to R459). -/

namespace Sys2Proof.Machine

/-- Ticks of a second. -/
abbrev ticksPerS : Nat := 8000

/-! ### Labels (R446) -/

/-- The label "none". -/
abbrev labelNone : U64 := 0xFFFFFFFFFFFFFFFF#64

/-- The commissioning credential's label (R466). -/
abbrev labelCommission : U64 := 0xFFFFFFFFFFFFFFFE#64

/-- The maker key's label (R466). -/
abbrev labelMaker : U64 := 0xFFFFFFFFFFFFFFFD#64

/-- SLOT of a label. -/
def lblSlot (l : U64) : Nat := l.toNat / 2 ^ 58

/-- DEPTH of a label. -/
def lblDepth (l : U64) : Nat := l.toNat / 2 ^ 54 % 16

/-- Component of level `d`, 1 to 8. -/
def lblComp (l : U64) (d : Nat) : Nat := l.toNat / 2 ^ (54 - 6 * d) % 64

/-- DEPTH is at most 8, components above it and the reserved bits are 0. -/
def lblOk (l : U64) : Bool :=
  decide (lblDepth l ≤ 8) && l.toNat % 64 == 0 &&
  (List.range 8).all (fun k => decide (k + 1 ≤ lblDepth l) || lblComp l (k + 1) == 0)

/-- The level-`d` prefix: DEPTH set to `d`, components above `d` set to 0 (R449). -/
def lblPrefix (l : U64) (d : Nat) : U64 :=
  let top := l.toNat / 2 ^ (54 - 6 * d) % 2 ^ (6 * d)
  BitVec.ofNat 64 (lblSlot l * 2 ^ 58 + d * 2 ^ 54 + top * 2 ^ (54 - 6 * d))

/-- Label of the test key of a ROOT: DEPTH 1 with C1 63 (R457). -/
def lblTest (slot : Nat) : U64 := BitVec.ofNat 64 (slot * 2 ^ 58 + 2 ^ 54 + 63 * 2 ^ 48)

/-! ### Derivation (R448, R449) -/

/-- The key derivation function: the leading `bits` of the counter-mode blocks. -/
def kdf (p : List Byte) (lbl : U64) (dest gen bits : Nat) : List Byte :=
  (Config.hmac384 p (be 4 1 ++ be 8 lbl.toNat ++ [0#8] ++ be 1 dest ++ be 4 gen ++ be 4 bits)).take (bits / 8)

/-- N_d for the label's level `d`. -/
def deriveNode (root : List Byte) (l : U64) : Nat → List Byte
  | 0 => root
  | d + 1 => kdf (deriveNode root l d) (lblPrefix l (d + 1)) 0 0 384

/-- The working key of a derived entry (R449). -/
def deriveKey (root : List Byte) (l : U64) (dest gen : Nat) : List Byte :=
  kdf (deriveNode root l (lblDepth l)) l dest gen 256

/-- Check value of a key by its type (R456). -/
def kcvOf (keyType : Nat) (key : List Byte) : U32 :=
  let full :=
    if keyType = 1 then Config.hmac384 key (List.replicate 16 0#8)
    else if keyType = 3 then Config.sha384 key
    else Config.aes256 key (List.replicate 16 0#8)
  BitVec.ofNat 32 (ofBe (full.take 4))

/-! ### Slots and entries (R453) -/

/-- The current copy. -/
def curCopy (k : KeyItem) : Option KeyCopy := if k.headSel then k.copyB else k.copyA

/-- The previous copy. -/
def prevCopy (k : KeyItem) : Option KeyCopy := if k.headSel then k.copyA else k.copyB

/-- The item with its previous copy replaced. -/
def setPrev (k : KeyItem) (c : Option KeyCopy) : KeyItem :=
  if k.headSel then { k with copyA := c } else { k with copyB := c }

/-- The slot or derived entry that a label names. -/
def State.keyItem (s : State) (l : U64) : Option KeyItem :=
  if lblDepth l = 0 then tget s.key.slots (lblSlot l) else tget s.key.entries l.toNat

/-- The state with a slot or derived entry set. -/
def State.setItem (s : State) (l : U64) (k : KeyItem) : State :=
  if lblDepth l = 0 then { s with key.slots := tset s.key.slots (lblSlot l) k }
  else { s with key.entries := tset s.key.entries l.toNat k }

/-- The state without a slot or derived entry. -/
def State.dropItem (s : State) (l : U64) : State :=
  if lblDepth l = 0 then { s with key.slots := tdel s.key.slots (lblSlot l) }
  else { s with key.entries := tdel s.key.entries l.toNat }

/-- The label of a slot. -/
def slotLabel (n : Nat) : U64 := BitVec.ofNat 64 (n * 2 ^ 58)

/-- Secret of a slot copy: readable while the key-encryption key that encrypted it is held (R453, R463). -/
def State.slotSecret (s : State) (c : KeyCopy) : Option (List Byte) :=
  if s.key.kekValid && c.kek == s.key.kek && c.good then some c.key else none

/-- The root of a label's slot, when it is a usable ROOT. -/
def State.rootOf (s : State) (l : U64) : Option (List Byte) :=
  match tget s.key.slots (lblSlot l) with
  | some it => match curCopy it with
    | some c => if c.keyType = 1 && !it.bad then s.slotSecret c else none
    | none => none
  | none => none

/-- The key of a copy of the slot or entry that a label names (R447, R449). -/
def State.copyKey (s : State) (l : U64) (c : KeyCopy) : Option (List Byte) :=
  if lblDepth l = 0 then
    (if c.keyType = 2 || c.keyType = 3 then s.slotSecret c else none)
  else
    match s.rootOf l with
    | some r => some (deriveKey r l c.dest c.gen)
    | none => none

/-- The item is usable: not BAD and not PARENT_BAD (R447). -/
def KeyItemUsable (k : KeyItem) : Bool := !k.bad && !k.parentBad

/-- The key of the current copy, when the label resolves to a key of the destination (R447, R452). -/
def State.keyFor (s : State) (l : U64) (dest : Nat) : Option (List Byte) :=
  match s.keyItem l with
  | some it => match curCopy it with
    | some c => if KeyItemUsable it && c.dest == dest then s.copyKey l c else none
    | none => none
  | none => none

/-- The label resolves to a key of the required destination (R452). -/
def State.resolves (s : State) (l : U64) (dest : Nat) : Bool := (s.keyFor l dest).isSome

/-- The key of the previous copy while its receive window lasts (R459). -/
def State.prevKeyFor (s : State) (l : U64) (dest : Nat) : Option (List Byte) :=
  match s.keyItem l with
  | some it => match prevCopy it with
    | some c => if KeyItemUsable it && c.dest == dest && !it.installing then s.copyKey l c else none
    | none => none
  | none => none

/-- The key under which an engine tags a frame of an epoch: the current copy from its switch epoch on,
the previous copy before it (R459). -/
def State.txKeyAt (s : State) (l : U64) (dest epoch : Nat) : Option (List Byte) :=
  match s.keyItem l with
  | some it => match curCopy it with
    | some c =>
      if c.switchEpoch ≤ epoch then s.keyFor l dest
      else match s.prevKeyFor l dest with
        | some k => some k
        | none => s.keyFor l dest
    | none => none
  | none => none

/-- A tag verifies under the current or the previous copy of the label's key (R459). -/
def State.tagOk (s : State) (l : U64) (dest : Nat) (tagOf : List Byte → List Byte) (tag : List Byte) : Bool :=
  (match s.keyFor l dest with | some k => tagOf k == tag | none => false) ||
  (match s.prevKeyFor l dest with | some k => tagOf k == tag | none => false)

/-- STATE of an item in the key list (R454). -/
def keyListState (k : KeyItem) : Nat :=
  if k.bad then 3 else if k.parentBad then 4 else if k.installing then 1
  else if !k.switchDone then 2 else 0

/-- The ATTR of the slot that governs a label's receive window (R455, R459). -/
def State.govAttr (s : State) (l : U64) : BitVec 16 :=
  match tget s.key.slots (lblSlot l) with
  | some it => match curCopy it with | some c => c.attr | none => 0#16
  | none => 0#16

/-- A key record of KEY_LIST (R454). -/
def keyRecord (l : U64) (k : KeyItem) : List Byte :=
  match curCopy k, prevCopy k with
  | some c, _ => leRec [(8, l.toNat), (1, c.keyType), (1, c.dest), (1, c.role), (1, keyListState k),
      (2, c.attr.toNat), (2, 0), (4, if lblDepth l = 0 then k.headSeq else c.gen), (4, c.kcv.toNat),
      (8, if k.switchDone then 0 else c.switchEpoch)]
  | none, some c => leRec [(8, l.toNat), (1, c.keyType), (1, c.dest), (1, c.role), (1, keyListState k),
      (2, c.attr.toNat), (2, 0), (4, 0), (4, 0), (8, 0)]
  | none, none => []

/-- Labels and items of the whole store: slots, then derived entries in ascending order (R454). -/
def State.keyItems (s : State) : List (U64 × KeyItem) :=
  s.key.slots.map (fun x => (slotLabel x.1, x.2)) ++
  s.key.entries.map (fun x => (BitVec.ofNat 64 x.1, x.2))

/-- Insert a labelled item in ascending label order. -/
def keyInsert (x : U64 × KeyItem) : List (U64 × KeyItem) → List (U64 × KeyItem)
  | [] => [x]
  | y :: r => if x.1.toNat < y.1.toNat then x :: y :: r else y :: keyInsert x r

/-- KEY_DIGEST: CRC-32 over LABEL, KCV and SEQ_GEN of every key in force, in ascending label order (R486). -/
def State.keyDigest (s : State) : U32 :=
  crc32 (((s.keyItems.foldl (fun a x => keyInsert x a) []).map (fun x =>
    match curCopy x.2 with
    | some c => beRec [(8, x.1.toNat), (4, c.kcv.toNat),
                       (4, if lblDepth x.1 = 0 then x.2.headSeq else c.gen)]
    | none => [])).flatten)

/-- Ports whose MACsec key has this label: 0 to 3 by MACSEC_KEY_LABEL, 4 by PAIR_KEY_LABEL (R385, R388). -/
def State.macsecPorts (s : State) (l : U64) : List Nat :=
  ((List.range 4).filter (fun p => s.pn P.MACSEC_KEY_LABEL p == l.toNat)) ++
  (if s.pn P.PAIR_KEY_LABEL 0 = l.toNat then [4] else [])

/-- A port of the state. -/
def State.port (s : State) (p : Nat) : PortSt1 := tgetD s.net.ports p {}

/-- The state with a port changed. -/
def State.setPort (s : State) (p : Nat) (v : PortSt1) : State :=
  { s with net.ports := tset s.net.ports p v }

/-- A new key comes into force: its ports transmit under the next association number (R385). -/
def State.bumpAn (s : State) (l : U64) : State :=
  (s.macsecPorts l).foldl (fun a p =>
    a.setPort p { a.port p with an := ((a.port p).an + 1) % 4, txPn := 0 }) s

/-- A new key is received under its own association number, with its packet numbers yet to come (R384,
R385). -/
def State.freshRx (s : State) (l : U64) (first : Bool) : State :=
  (s.macsecPorts l).foldl (fun a p =>
    let n := if first then (a.port p).an else ((a.port p).an + 1) % 4
    a.setPort p { a.port p with rxPn := tdel (a.port p).rxPn n }) s

/-- Audit record of a key state change (R472). -/
def State.auditKey (s : State) (l : U64) (status : Nat) (data : List Byte) : State :=
  s.auditDev 6 0 status l.toNat data

/-- A management session closes: its binding ends, its staged writes are dropped, its open handles post
no record (R434, R471). -/
def State.closeSession (s : State) (n : Nat) : State :=
  (((s.setSess n { s.sess n with isOpen := false, bind := none }).dropStaging (.session n)).closeHandlesOf
    (.session n)).dropMakers

/-- The binding of a source ends (R471). -/
def State.endBinding (s : State) (src : Src) : State :=
  match src with
  | .none => s
  | .queue q => s.unbindQueue q
  | .session n => s.closeSession n

/-- Every binding that satisfies a test ends. -/
def State.endBindings (s : State) (f : Binding → Bool) : State :=
  allSrcs.foldl (fun a src => match a.bindOf src with
    | some b => if f b then a.endBinding src else a
    | none => a) s

/-- The failures of an integrity check: BAD current copies with the entries below them, cleared previous
copies, a KEY_SLOT_BAD condition each (R462). -/
def State.scrubCur (s : State) (l : U64) : State :=
  match s.keyItem l with
  | none => s
  | some it =>
    let s1 := s.setItem l { it with bad := true }
    let s2 := if lblDepth l = 0 then
        { s1 with key.entries := tmap s1.key.entries (fun k e =>
          if k / 2 ^ 58 = lblSlot l then { e with parentBad := true } else e) }
      else s1
    ({ s2 with key.slotsBad := s2.key.slotsBad ||| (1#64 <<< lblSlot l) }.auditKey l St.KEY_SLOT_BAD []).condition
      St.KEY_SLOT_BAD (le 8 l.toNat)

/-- A failing previous copy is cleared (R462). -/
def State.scrubPrev (s : State) (l : U64) : State :=
  match s.keyItem l with
  | none => s
  | some it =>
    ({ s.setItem l (setPrev it none) with
        key.slotsBad := s.key.slotsBad ||| (1#64 <<< lblSlot l) }.auditKey l St.KEY_SLOT_BAD []).condition
      St.KEY_SLOT_BAD (le 8 l.toNat)

/-- The check of the whole store (R462). -/
def State.scrub (s : State) (curBad prevBad : List U64) : State :=
  let s1 := curBad.foldl (fun a l => a.scrubCur l) s
  let s2 := prevBad.foldl (fun a l => a.scrubPrev l) s1
  { s2 with key.lastScrub := s2.epoch }

end Sys2Proof.Machine
end

