-- ==== Sys2Proof/Machine/Keys.lean ====
section
/-! DEFINITION. The key store's commands and events, the setup exchange and the audit read (chapter
"Keys, roles and the audit log"). -/

namespace Sys2Proof.Machine

/-! ### KEY_INSTALL -/

/-- What the tables say of KEY_INSTALL (R476). -/
def keyInstallInfo : CmdInfo := { op := 0x0401, who := [.installer], standby := true }

/-- The fields of an install suit each other and their ranges (R457). -/
def keyFieldsOk (a : KeyArg) (epoch : Nat) : Bool :=
  lblOk a.label && a.label != labelNone &&
  (if lblDepth a.label = 0 then a.keyType == 1 || a.keyType == 2 || a.keyType == 3 else a.keyType == 4) &&
  (if a.keyType = 1 then a.dest == 0
   else if a.keyType = 3 then a.dest == 3
   else a.dest == 1 || a.dest == 2 || a.dest == 4 || a.dest == 5) &&
  (if a.dest = 2 then decide (1 ≤ a.role) && decide (a.role ≤ 3) else a.role == 0) &&
  (if lblDepth a.label = 0 then a.attr &&& 0x00FC#16 == 0#16 else a.attr == 0#16) &&
  (a.keyLen == (if a.keyType = 1 then 56 else if a.keyType = 2 then 40 else if a.keyType = 3 then 97 else 0)) &&
  a.key.length == a.keyLen &&
  (lblDepth a.label != 0 || a.gen == 0) &&
  (a.keyType == 1 || a.testCheck == 0#32) &&
  (a.switchEpoch == 0 || (decide (a.switchEpoch ≤ epoch + 30 * 86400 * ticksPerS) && a.dest != 2 && a.dest != 3))

/-- The wrap key of the installer's binding (R468). -/
def State.wrapKey (s : State) (src : Src) : List Byte :=
  match s.bindOf src with
  | some b => (Config.hmac384 b.sk [3#8]).take 32
  | none => []

/-- The key that an install carries: unwrapped, or in clear for VERIFY, or none to carry for DERIVED. -/
def State.installKey (s : State) (src : Src) (a : KeyArg) : Option (List Byte) :=
  if a.keyType = 4 then some []
  else if a.keyType = 3 then some a.key
  else Config.keyUnwrap (s.wrapKey src) a.key

/-- An install with this label is in progress. -/
def State.installOpen (s : State) (l : U64) : Bool := s.key.ops.any (fun o => o.label == l && !o.flipped)

/-- The slot or entry waits for its switch epoch. -/
def State.switchPending (s : State) (l : U64) : Bool :=
  match s.keyItem l with | some it => !it.switchDone | none => false

/-- Step 1 of an install against the store (R458): a derived entry names a ROOT without NO_DERIVE and a
generation above the current one; the wrapped key unwraps. -/
def State.installAgrees (s : State) (src : Src) (a : KeyArg) : Bool :=
  (s.installKey src a).isSome &&
  (a.keyType != 4 ||
    ((s.rootOf a.label).isSome && !(s.govAttr a.label).getLsbD 0 &&
     match s.keyItem a.label with
     | some it => match curCopy it with | some c => decide (c.gen < a.gen) | none => true
     | none => true))

/-- The store is provisioned with a key-encryption key at its first install (R463). -/
def State.provision (s : State) : State :=
  if s.key.kekValid then s
  else
    { s.took with
      key.kek := Config.freeKek s.free
      key.kekValid := true
      key.enginesClear := false
      key.storeState := 1 }

/-- Step 2 of an install: the previous copy takes the new key with SEQ + 1, STATE is INSTALLING (R458). -/
def State.installWrite (s : State) (src : Src) (a : KeyArg) (h : U32) : State :=
  let s1 := s.provision
  let it := (s1.keyItem a.label).getD { headSel := true }
  let key := (s.installKey src a).getD []
  let c : KeyCopy := { keyType := a.keyType, dest := a.dest, role := a.role, attr := a.attr,
                       seq := it.headSeq + 1, gen := a.gen, switchEpoch := a.switchEpoch,
                       key := key, kek := s1.key.kek }
  { (s1.setItem a.label { setPrev it (some c) with installing := true }) with
    key.ops := s1.key.ops ++ [{ handle := h, label := a.label, check := a.check, testCheck := a.testCheck }] }

/-- Audit detail of an install: LABEL, TYPE, DEST, ROLE, SEQ or GEN, KCV and SWITCH_EPOCH, never key
bytes (R473). -/
def State.installDetail (s : State) (a : KeyArg) : List Byte :=
  let seq := match s.keyItem a.label with | some it => it.headSeq + 1 | none => 1
  padTo 40 (leRec [(8, a.label.toNat), (1, a.keyType), (1, a.dest), (1, a.role),
    (4, if a.keyType = 4 then a.gen else seq), (4, a.check.toNat), (8, a.switchEpoch)])

/-- The store holds 8,192 derived entries, and the install names a further one (R453). -/
def State.entriesFull (s : State) (a : KeyArg) : Bool :=
  lblDepth a.label != 0 && (s.keyItem a.label).isNone && decide (8192 ≤ s.key.entries.length)

/-- KEY_INSTALL's own checks; a store that is full is a full table (R33, R425, R453, R457, R458, R461). -/
def keyInstallVerdict (h : Hdr) (a : KeyArg) (s : State) : Verdict :=
  if !keyFieldsOk a s.epoch then reject St.RANGE
  else if s.installOpen a.label then reject St.BUSY
  else if s.switchPending a.label then reject St.STAGED
  else if s.entriesFull a then reject St.BUSY
  else if !s.installAgrees h.src a then reject St.DISAGREE
  else s.long h 0x0401 (fun n t => t.installWrite h.src a n)

/-- KEY_INSTALL (R457, R458). -/
def execKeyInstall (h : Hdr) (a : KeyArg) (s : State) : Host.Outcome State Fault Refusal :=
  .next (
    if s.takeable h then
      let s1 := s.take h
      s1.finish keyInstallInfo h a.label.toNat (s1.installDetail a, false)
        (s1.judge keyInstallInfo h (keyInstallVerdict h a))
    else s.discardFrame h)

/-- The written copy's key, as step 3 computes it (R458). -/
def State.writtenKey (s : State) (l : U64) (c : KeyCopy) : Option (List Byte) :=
  if lblDepth l = 0 then s.slotSecret c
  else match s.rootOf l with
    | some r => some (deriveKey r l c.dest c.gen)
    | none => none

/-- Step 3: the check values agree; a ROOT's test key too; a VERIFY point lies on P-384 (R458). -/
def State.installChecks (s : State) (o : KeyOp) (c : KeyCopy) : Bool :=
  match s.writtenKey o.label c with
  | none => false
  | some k =>
    kcvOf c.keyType k == o.check &&
    (c.keyType != 1 || kcvOf 4 (deriveKey k (lblTest (lblSlot o.label)) 0 0) == o.testCheck) &&
    (c.keyType != 3 || Config.onP384 k)

/-- Step 4: the head word flips, and the written copy becomes current; it is in force at once unless its
switch epoch lies in the future (R458). -/
def State.installFlip (s : State) (o : KeyOp) (it : KeyItem) (c : KeyCopy) : State :=
  let future := decide (s.epoch < c.switchEpoch)
  let c1 := { c with kcv := o.check, switchEpoch := max c.switchEpoch s.epoch }
  let first := (curCopy it).isNone
  let it1 : KeyItem :=
    { setPrev it (some c1) with
      headSel := !it.headSel, headSeq := c.seq, installing := false, bad := false, parentBad := false,
      switchDone := !future, overlapS := s.pn P.KEY_OVERLAP_S 0 }
  let s1 := ((s.setItem o.label it1).auditKey o.label St.OK []).freshRx o.label first
  if future then
    { s1 with key.ops := s1.key.ops.map (fun p => if p.handle = o.handle then { p with flipped := true } else p) }
  else
    let s2 := { s1 with key.ops := s1.key.ops.filter (fun p => p.handle != o.handle) }
    ((if first then s2 else s2.bumpAn o.label).complete o.handle St.OK 0 [])

/-- A failed install: the written copy is cleared, the head word untouched (R458). -/
def State.installFail (s : State) (o : KeyOp) (it : KeyItem) : State :=
  let it1 := { setPrev it none with installing := false }
  let s1 := if (curCopy it).isNone then s.dropItem o.label else s.setItem o.label it1
  ({ s1 with key.ops := s1.key.ops.filter (fun p => p.handle != o.handle) }).complete o.handle St.DISAGREE 0 []

/-- KEY_INSTALL_DONE: steps 3 and 4 (R458). `ok` says that the copy reads back as written. -/
def execKeyInstallDone (handle : U32) (ok : Bool) (s : State) : Host.Outcome State Fault Refusal :=
  .next (
    match s.key.ops.find? (fun o => o.handle == handle && !o.flipped) with
    | none => s
    | some o => match s.keyItem o.label with
      | none => s
      | some it => match prevCopy it with
        | none => s
        | some c => if ok && s.installChecks o c then s.installFlip o it c else s.installFail o it)

/-- KEY_SWITCH_EPOCH: the current copy comes into force for transmission and the install's handle
completes (R458, R459). -/
def execKeySwitchEpoch (label : U64) (s : State) : Host.Outcome State Fault Refusal :=
  .next (
    match s.keyItem label with
    | none => s
    | some it => match curCopy it with
      | none => s
      | some c =>
        if !it.switchDone && decide (c.switchEpoch ≤ s.epoch) then
          let s1 := (s.setItem label { it with switchDone := true, overlapS := s.pn P.KEY_OVERLAP_S 0 }).auditKey label St.OK []
          let s2 := if (prevCopy it).isNone then s1 else s1.bumpAn label
          match s2.key.ops.find? (fun o => o.label == label && o.flipped) with
          | none => s2
          | some o =>
            ({ s2 with key.ops := s2.key.ops.filter (fun p => p.handle != o.handle) }).complete
              o.handle St.OK 0 []
        else s)

/-- KEY_RECEIVE_WINDOW_END: under KEEP_PREVIOUS 0 the previous copy is cleared at SWITCH_EPOCH +
KEY_OVERLAP_S, the value as of the switch epoch (R459, R477). -/
def execKeyReceiveWindowEnd (label : U64) (s : State) : Host.Outcome State Fault Refusal :=
  .next (
    match s.keyItem label with
    | none => s
    | some it => match curCopy it with
      | none => s
      | some c =>
        if it.switchDone && !it.installing && (prevCopy it).isSome && !(s.govAttr label).getLsbD 1 &&
            decide (c.switchEpoch + it.overlapS * ticksPerS ≤ s.epoch) then
          (s.setItem label (setPrev it none)).auditKey label St.OK []
        else s)

/-! ### KEY_REMOVE, KEY_LIST -/

/-- What the tables say of KEY_REMOVE. -/
def keyRemoveInfo : CmdInfo := { op := 0x0402, who := [.installer], standby := true }

/-- Position of the label among a parameter's fields, where the parameter names a label. -/
def labelField (id : Nat) : Option Nat :=
  if id = P.MACSEC_KEY_LABEL || id = P.PAIR_KEY_LABEL || id = P.CAN_AUTH_LABEL then some 0
  else if id = P.STN_DEF then some 15
  else none

/-- A table of values names the label (R461). -/
def tabNames (t : Tab PVal) (l : U64) : Bool :=
  t.any (fun x => match labelField (x.1 / 65536) with
    | some k => x.2.getD k 0 == l.toNat
    | none => false)

/-- Some committed or pending parameter, or an active image, names the label (R461). -/
def State.labelUsed (s : State) (l : U64) : Bool :=
  tabNames s.par.vals l ||
  s.host.due.any (fun d => tabNames d.vals l) ||
  s.host.staging.any (fun e => s.isPending e && tabNames e.vals l) ||
  (s.model.hasActive && (match (if s.model.activeB then s.model.bankB else s.model.bankA) with
    | some m => m.sigLabel == l | none => false)) ||
  (s.prog.hasActive && (match (if s.prog.activeB then s.prog.bankB else s.prog.bankA) with
    | some m => m.sigLabel == l | none => false))

/-- A ROOT with derived entries (R461). -/
def State.hasDerived (s : State) (l : U64) : Bool :=
  lblDepth l == 0 && s.key.entries.any (fun x => x.1 / 2 ^ 58 == lblSlot l)

/-- KEY_REMOVE's own checks: the key exists, no install is open, and nothing names the label (R461). -/
def keyRemoveVerdict (label : U64) (s : State) : Verdict :=
  if !lblOk label || (s.keyItem label).isNone then reject St.RANGE
  else if s.installOpen label then reject St.BUSY
  else if s.labelUsed label || s.hasDerived label then reject St.DISAGREE
  else { act := fun t => ((t.dropItem label).auditKey label St.OK []).endBindings (fun b => b.label == label) }

/-- KEY_REMOVE (R461, R471). -/
def execKeyRemove (h : Hdr) (label : U64) (s : State) : Host.Outcome State Fault Refusal :=
  .next (s.command keyRemoveInfo h label.toNat (keyRemoveVerdict label))

/-- What the tables say of KEY_LIST. -/
def keyListInfo : CmdInfo :=
  { op := 0x0403, who := [.operator, .installer, .maker], standby := true, isRead := true }

/-- KEY_LIST: one record per occupied slot and per derived entry (R454, R412). -/
def keyListVerdict (h : Hdr) (s : State) : Verdict :=
  { data := ((s.keyItems.take (h.room / 32)).map (fun x => keyRecord x.1 x.2)).flatten }

/-- KEY_LIST (R454). -/
def execKeyList (h : Hdr) (s : State) : Host.Outcome State Fault Refusal :=
  .next (s.command keyListInfo h 0 (keyListVerdict h))

/-! ### AUDIT_READ -/

/-- What the tables say of AUDIT_READ. -/
def auditReadInfo : CmdInfo := { op := 0x0404, standby := true, isRead := true }

/-- SEQ of the oldest retained record (R474). -/
def State.auditOldest (s : State) : Nat := s.aud.next - 65536

/-- A retained record. -/
def State.auditRec (s : State) (n : Nat) : AuditRec := tgetD s.aud.recs (n % 65536) {}

/-- HASH of the record before record `n` (R474, R475). -/
def State.hashBefore (s : State) (n : Nat) : List Byte :=
  if n = 0 then List.replicate 48 0#8
  else if n = s.auditOldest then s.aud.oldHash
  else (s.auditRec (n - 1)).hash

/-- Bytes of an audit record (R473). -/
def auditRecBytes (r : AuditRec) : List Byte := auditBytes r ++ padTo 48 r.hash

/-- AUDIT_READ: the head, then whole records from FIRST_SEQ on (R412, R475). -/
def auditReadVerdict (h : Hdr) (first count : Nat) (s : State) : Verdict :=
  if h.room < 64 then reject St.RANGE
  else
    let start := if first = 0 || first < s.auditOldest then s.auditOldest else min first s.aud.next
    let n := min (min count ((h.room - 64) / 128)) (s.aud.next - start)
    { data := leRec [(8, s.auditOldest), (8, s.aud.next - 1)] ++ padTo 48 (s.hashBefore start) ++
        ((List.range n).map (fun k => auditRecBytes (s.auditRec (start + k)))).flatten }

/-- AUDIT_READ (R475). -/
def execAuditRead (h : Hdr) (first count : Nat) (s : State) : Host.Outcome State Fault Refusal :=
  .next (s.command auditReadInfo h first (auditReadVerdict h first count))

/-! ### TAMPER_ACK, maker commands -/

/-- What the tables say of TAMPER_ACK. -/
def tamperAckInfo : CmdInfo := { op := 0x0405, who := [.installer], standby := true }

/-- TAMPER_ACK clears the latch, when no detector reports (R466). -/
def tamperAckVerdict (detectors : BitVec 3) (_s : State) : Verdict :=
  if detectors = 0#3 then { act := fun t => { t with key.tamLatched := 0 } } else reject St.WRONG_MODE

/-- TAMPER_ACK (R466). -/
def execTamperAck (h : Hdr) (detectors : BitVec 3) (s : State) : Host.Outcome State Fault Refusal :=
  .next (s.command tamperAckInfo h 0 (tamperAckVerdict detectors))

/-- What the tables say of a maker command. -/
def makerInfo (opcode : Nat) : CmdInfo := { op := opcode, who := [.maker] }

/-- The controller is in STOP or NO_PROGRAM (R470). -/
def State.progStopped (s : State) : Bool := decide (s.prog.run.mode ≤ 1)

/-- A maker command runs in STOP or NO_PROGRAM while an installer binding is held; what it returns has no
stated layout (R470). -/
def makerVerdict (opcode : Nat) (s : State) : Verdict :=
  if !s.installerHeld then reject St.ROLE
  else if !s.progStopped then reject St.WRONG_MODE
  else { data := Config.makerData opcode }

/-- A maker command, 16#04F0 to 16#04FF (R470). -/
def execMakerCommand (h : Hdr) (opcode : Nat) (s : State) : Host.Outcome State Fault Refusal :=
  .next (
    if opcode < 0x04F0 || 0x04FF < opcode then s
    else s.command (makerInfo opcode) h 0 (makerVerdict opcode))

/-! ### The setup exchange (R468) -/

/-- Key of a setup source: the queue, or the sender's MAC address on the management port (R468). -/
def setupKey (a : SetupArg) : Nat := match a.src with
  | .queue n => n
  | _ => 16 + a.mac.toNat

/-- Setup state of a source. -/
def State.setupOf (s : State) (a : SetupArg) : SetupSt := tgetD s.key.setups (setupKey a) {}

/-- The state with a source's setup state. -/
def State.setSetup (s : State) (a : SetupArg) (v : SetupSt) : State :=
  { s with key.setups := tset s.key.setups (setupKey a) v }

/-- A setup packet waits in the queue, or a setup frame has come (R468, R469). -/
def State.setupTakeable (s : State) (a : SetupArg) : Bool :=
  s.ready && match a.src with
    | .queue n => decide (n < 8) && (s.queue n).enabled && (s.queue n).sqHead != (s.queue n).sqTail
    | .session n => decide (n < 4)
    | .none => false

/-- The setup packet leaves its queue. -/
def State.takeSetup (s : State) (a : SetupArg) : State :=
  match a.src with
  | .queue n => s.setQueue n { s.queue n with sqHead := ((s.queue n).sqHead + 1) % (s.queue n).sqLen }
  | _ => s

/-- The role of a code. -/
def roleOfCode : Nat → Role
  | 1 => .operator
  | 2 => .installer
  | 3 => .maker
  | _ => .none

/-- The reply to a setup packet and its audit record (R468, R472). -/
def State.setupReply (s : State) (a : SetupArg) (status : Nat) (data : List Byte) : State :=
  let s1 := s.auditPush { kind := 3, role := a.role, source := Src.code a.src, status := status,
                          opcode := 0xFFFF, subject := a.label.toNat, tag := a.tag.toNat,
                          detail := padTo 40 [] }
  match a.src with
  | .queue n =>
    (s1.postQueue n { tag := a.tag, status := status, kind := 1, queue := n, sqHead := (s1.queue n).sqHead,
                      epoch := s1.epoch, resultLen := data.length } data).1
  | _ => s1.emit (.setup a.src a.mac a.tag status (roleOfCode a.role) data)

/-- The sessions that are not bound. -/
def State.freeSession (s : State) : Option Nat := (List.range 4).find? (fun n => !(s.sess n).isOpen)

/-- Step 1: NONCE_M; BUSY during a lockout or while four sessions are bound (R468, R469). -/
def execSetupRequest (a : SetupArg) (nonceM : List Byte) (s : State) : Host.Outcome State Fault Refusal :=
  .next (
    if !s.setupTakeable a then s
    else
      let s1 := s.takeSetup a
      let st := s1.setupOf a
      if a.role = 0 || 3 < a.role then s1.setupReply a St.RANGE []
      else if s1.epoch < st.lockUntil then s1.setupReply a St.BUSY []
      else match a.src, s1.freeSession with
        | .session _, none => s1.setupReply a St.BUSY []
        | .session _, some n =>
          (s1.setSetup a { st with nonceM := some (padTo 32 nonceM), role := roleOfCode a.role,
                                   label := a.label, sess := n }).setupReply
            { a with src := .session n } St.OK (padTo 32 nonceM)
        | _, _ =>
          (s1.setSetup a { st with nonceM := some (padTo 32 nonceM), role := roleOfCode a.role,
                                   label := a.label }).setupReply a St.OK (padTo 32 nonceM))

/-- A DEST 2 key with ROLE installer is in force (R466). -/
def State.installerKey (s : State) : Bool :=
  s.keyItems.any (fun x => match curCopy x.2 with
    | some c => c.dest == 2 && c.role == 2 && KeyItemUsable x.2 && (s.copyKey x.1 c).isSome
    | none => false)

/-- The key K that authenticates a role under a label (R466, R468, R470). -/
def State.setupKeyOf (s : State) (a : SetupArg) : Option (List Byte) :=
  if a.label = labelCommission then
    (if a.role = 2 && s.key.storeState != 1 && !s.installerKey && !s.key.fuseClear &&
        (match a.src with | .queue _ => true | _ => false)
     then some s.ident.fuseComm else none)
  else if a.label = labelMaker then
    (if a.role = 3 && !s.key.fuseClear then some s.ident.fuseMaker else none)
  else match s.keyItem a.label with
    | some it => match curCopy it with
      | some c => if c.role = a.role then s.keyFor a.label 2 else none
      | none => none
    | none => none

/-- A maker binding needs an installer binding on another source (R470). -/
def State.makerAllowed (s : State) (src : Src) : Bool :=
  allSrcs.any (fun x => x != src && s.roleOf x == .installer)

/-- SK of an exchange: the source code is that of the queue or of the assigned session (R468). -/
def sessionKey (k nonceM nonceH : List Byte) (role source : Nat) : List Byte :=
  (Config.hmac384 k (nonceM ++ padTo 32 nonceH ++ be 1 role ++ be 1 source)).take 32

/-- Source of a proof: the queue, or the session that step 1 assigned (R469). -/
def SetupArg_src (a : SetupArg) (st : SetupSt) : Src := match a.src with
  | .session _ => .session st.sess
  | x => x

/-- The proof verifies: an exchange is open for this role and label, the key is available, PROOF_H
agrees, and a maker has an installer beside it (R468, R470). -/
def State.proofOk (s : State) (a : SetupArg) (nonceH proofH : List Byte) : Option (List Byte) :=
  let st := s.setupOf a
  match st.nonceM, s.setupKeyOf a with
  | some nm, some k =>
    let src := SetupArg_src a st
    let sk := sessionKey k nm nonceH a.role (Src.code src)
    if st.role = roleOfCode a.role && st.label = a.label &&
        proofH = (Config.hmac384 sk [1#8]).take 16 &&
        (a.role != 3 || s.makerAllowed src) &&
        (match src with | .session n => !(s.sess n).isOpen | _ => true)
    then some sk else none
  | _, _ => none

/-- The binding of a source is made (R468). -/
def State.bindSrc (s : State) (a : SetupArg) (src : Src) (sk : List Byte) : State :=
  let b : Binding := { role := roleOfCode a.role, label := a.label, sk := sk, epoch := s.epoch }
  match src with
  | .queue n => s.setQueue n { s.queue n with bind := some b }
  | .session n =>
    { (s.setSess n { isOpen := true, bind := some b, lastEpoch := s.epoch, idleS := s.pn P.MGMT_IDLE_S 0 }) with
      key.mgmt := tset s.key.mgmt n { peerMac := a.mac, rxSeq := a.mgmtSeq } }
  | .none => s

/-- A failed proof counts; 5 within 60 s lock the source out for BIND_LOCKOUT_S (R468). -/
def State.proofFailed (s : State) (a : SetupArg) : State :=
  let st := s.setupOf a
  let recent := (st.fails.filter (fun e => decide (s.epoch < e + 60 * ticksPerS))) ++ [s.epoch]
  s.setSetup a { st with
    nonceM := none, fails := recent,
    lockUntil := if 5 ≤ recent.length then s.epoch + s.pn P.BIND_LOCKOUT_S 0 * ticksPerS else st.lockUntil }

/-- Step 2: the proof binds the source, or is rejected with ROLE (R468). -/
def execSetupProof (a : SetupArg) (nonceH proofH : List Byte) (s : State) :
    Host.Outcome State Fault Refusal :=
  .next (
    if !s.setupTakeable a then s
    else
      let s1 := s.takeSetup a
      let st := s1.setupOf a
      let b : SetupArg := { a with src := SetupArg_src a st }
      if s1.epoch < st.lockUntil then s1.setupReply b St.BUSY []
      else match s1.proofOk a nonceH proofH with
        | none => (s1.proofFailed a).setupReply b St.ROLE []
        | some sk =>
          (((s1.setSetup a { st with nonceM := none, fails := [] }).bindSrc a b.src sk).dropMakers).setupReply b
            St.OK ((Config.hmac384 sk [2#8]).take 16))

/-- A setup step 3 comes from the queue itself, or from the peer of the session. -/
def State.endFrom (s : State) (a : SetupArg) : Bool := match a.src with
  | .session n => (s.sess n).isOpen && (tgetD s.key.mgmt n {}).peerMac == a.mac
  | .queue _ => true
  | .none => false

/-- Step 3: the binding ends (R468, R471). -/
def execSetupEnd (a : SetupArg) (s : State) : Host.Outcome State Fault Refusal :=
  .next (
    if !s.setupTakeable a || !s.endFrom a then s
    else ((s.takeSetup a).setupReply a St.OK []).endBinding a.src)

/-- BIND_LOCKOUT_END: the lockout of a source ends (R468). -/
def execBindLockoutEnd (src : Src) (mac : BitVec 48) (s : State) : Host.Outcome State Fault Refusal :=
  .next (
    let a : SetupArg := { src := src, mac := mac }
    let st := s.setupOf a
    if st.lockUntil != 0 && decide (st.lockUntil ≤ s.epoch) then
      s.setSetup a { st with lockUntil := 0, fails := [] }
    else s)

/-- MGMT_IDLE_TIMEOUT: a session without a valid frame for MGMT_IDLE_S, the value as of its last frame, ends (R471, R477). -/
def execMgmtIdleTimeout (n : Nat) (s : State) : Host.Outcome State Fault Refusal :=
  .next (
    if decide (n < 4) && (s.sess n).isOpen &&
        decide ((s.sess n).lastEpoch + (s.sess n).idleS * ticksPerS ≤ s.epoch) then s.closeSession n
    else s)

/-! ### Integrity and tamper -/

/-- KEY_SCRUB: the check that falls due every KEY_SCRUB_H hours (R462). -/
def execKeyScrub (curBad prevBad : List U64) (s : State) : Host.Outcome State Fault Refusal :=
  .next (
    if s.ready && decide (s.key.lastScrub + s.pn P.KEY_SCRUB_H 0 * 3600 * ticksPerS ≤ s.epoch) then
      s.scrub curBad prevBad
    else s)

/-- The keys are destroyed: the KEK, the engines' key registers and with them every binding (R464, R465). -/
def State.zeroKeys (s : State) (cause mask time : Nat) : State :=
  ({ s with
    key.kek := 0#256
    key.kekValid := false
    key.enginesClear := true
    key.fuseClear := true
    key.storeState := 2
    key.ops := []
    key.tamLatched := 1
    key.tamMask := mask
    key.tamCause := cause
    key.tamTime := BitVec.ofNat 64 time }).endBindings (fun _ => true)

/-- The tamper record and condition (R464, R472). -/
def State.tamperReport (s : State) : State :=
  let d := leRec [(1, s.key.tamLatched), (1, s.key.tamMask), (1, s.key.tamCause), (1, 0), (8, s.key.tamTime.toNat)]
  ({ s with key.tamPending := false }.auditDev 7 0 St.TAMPER 0 d).condition St.TAMPER d

end Sys2Proof.Machine
end

