-- ==== Sys2Proof/Machine/TimeOps.lean ====
section
/-! DEFINITION. Time bases, the epoch clock and the calendar's arithmetic (chapters "Ring, access and
pair ports; network time" and "Power, reset, the Drip domain and the calendar"). Instants are counted in
femtoseconds since 2000-01-01 00:00:00. -/

namespace Sys2Proof.Machine

/-- Femtoseconds of a nanosecond. -/
abbrev fsPerNs : Nat := 1000000

/-- Femtoseconds of a second. -/
abbrev fsPerS : Nat := 1000000000000000

/-- Femtoseconds of a tick, 125 µs (R394). -/
abbrev fsPerTick : Nat := 125000000000

/-- Seconds between the origin of IEEE 1588 and that of the epochs (R393). -/
abbrev ptpOrigin : Nat := 946684800

/-! ### Calendar arithmetic (R531, R532) -/

/-- Two decimal digits as BCD. -/
def toBcd (n : Nat) : Nat := n / 10 * 16 + n % 10

/-- BCD as a number. -/
def ofBcd (b : Nat) : Nat := b / 16 * 10 + b % 16

/-- Leap years of R531. -/
def isLeap (y : Nat) : Bool := y % 4 == 0 && (y % 100 != 0 || y % 400 == 0)

/-- Days of a month. -/
def monthDays (y m : Nat) : Nat :=
  if m = 2 then (if isLeap y then 29 else 28)
  else if m = 4 || m = 6 || m = 9 || m = 11 then 30 else 31

/-- Days of a year. -/
def yearDays (y : Nat) : Nat := if isLeap y then 366 else 365

/-- Days before the first of month `m` in year `y`. -/
def daysBeforeMonth (y : Nat) : Nat → Nat
  | 0 => 0
  | 1 => 0
  | m + 2 => daysBeforeMonth y (m + 1) + monthDays y (m + 1)

/-- Leap years from year 1 to `y`. -/
def leapsTo (y : Nat) : Nat := y / 4 - y / 100 + y / 400

/-- Days from 2000-01-01 to a date. -/
def dayNumber (y m d : Nat) : Nat :=
  (y - 2000) * 365 + (leapsTo (y - 1) - leapsTo 1999) + daysBeforeMonth y m + (d - 1)

/-- Year and day of the year of a day number, from year `y` on. -/
def splitYear : Nat → Nat → Nat → Nat × Nat
  | 0, y, n => (y, n)
  | k + 1, y, n => if n < yearDays y then (y, n) else splitYear k (y + 1) (n - yearDays y)

/-- Month and day of the month of a day of year `y`, from month `m` on. -/
def splitMonth (y : Nat) : Nat → Nat → Nat → Nat × Nat
  | 0, m, n => (m, n + 1)
  | k + 1, m, n => if n < monthDays y m then (m, n + 1) else splitMonth y k (m + 1) (n - monthDays y m)

/-- Year, month and day of a day number since 2000-01-01. -/
def dateOf (n : Nat) : Nat × Nat × Nat :=
  let y := splitYear 400 2000 n
  let m := splitMonth y.1 11 1 y.2
  (y.1, m.1, m.2)

/-- Weekday of a day number, 1 Monday to 7 Sunday; 2000-01-01 is a Saturday (R531). -/
def weekdayOf (n : Nat) : Nat := (n + 5) % 7 + 1

/-- Year of a calendar set (R531). -/
def CalSet_year (c : CalSet) : Nat := 100 * ofBcd c.century + ofBcd c.year

/-- Seconds since 2000-01-01 00:00:00 local of a calendar set. -/
def calSeconds (c : CalSet) : Nat :=
  dayNumber (CalSet_year c) (ofBcd c.month) (ofBcd c.day) * 86400 +
    ofBcd c.hour * 3600 + ofBcd c.min * 60 + ofBcd c.sec

/-- The calendar set of a number of seconds since 2000-01-01 00:00:00 local. -/
def calOfSeconds (t : Nat) : CalSet :=
  let n := t / 86400
  let d := dateOf n
  { sec := toBcd (t % 60), min := toBcd (t / 60 % 60), hour := toBcd (t / 3600 % 24),
    day := toBcd d.2.2, wday := weekdayOf n, month := toBcd d.2.1,
    century := toBcd (d.1 / 100), year := toBcd (d.1 % 100) }

/-- Seconds of 2400-01-01 00:00:00: the first second outside the calendar's range (R531). -/
abbrev calEnd : Nat := 146097 * 86400

/-! ### Bases and the epoch clock -/

/-- The value of a parameter that acts at the next reset: the one held at the last reset (R405, R477). -/
def State.bootN (s : State) (id : Nat) : Nat :=
  (tgetD s.net.bootCfg (pkey id 0) (pdefault id 0)).headD 0

/-- The mode of a port: off when disabled; HSR, pair and management ports on; the access ports by the
gateway role (R377, R378, R406). -/
def State.portModeOf (s : State) (p : Nat) : Nat :=
  if s.pn P.PORT_ENABLE p = 0 then 0
  else if p < 2 then 1
  else if p = 2 then (if s.fed.role = 2 then 3 else 2)
  else if p = 3 then (if s.fed.role = 0 then 2 else 3)
  else 4

/-- The modes in force follow the committed values (R405). -/
def State.refreshPorts (s : State) : State :=
  (List.range 6).foldl (fun a p => a.setPort p { a.port p with mode := a.portModeOf p }) s

/-- A parameter value as the Drip domain's own copy holds it (R541). -/
def State.dripVal (s : State) (id idx : Nat) : Nat :=
  match tget s.drip.cfg (pkey id idx) with
  | some v => v.headD 0
  | none => (pdefault id idx).headD 0

/-- A time base by its number (R393). -/
def State.base (s : State) (b : Nat) : TimeBase :=
  if b = 0 then s.time.tb0 else if b = 1 then s.time.tb1 else if b = 2 then s.time.tb2 else s.time.tb3

/-- The state with a time base changed. -/
def State.setBase (s : State) (b : Nat) (v : TimeBase) : State :=
  if b = 0 then { s with time.tb0 := v }
  else if b = 1 then { s with time.tb1 := v }
  else if b = 2 then { s with time.tb2 := v }
  else { s with time.tb3 := v }

/-- The UTC offset in seconds (R397). -/
def State.utcOff (s : State) : Int :=
  if s.time.utcFromMaster then s.time.utcOffset else (s.pn P.TIME_UTC_OFFSET_S 0 : Int)

/-- TIME_ZONE_MIN as a signed number. -/
def State.zoneMin (s : State) : Int := toSigned 16 (s.pn P.TIME_ZONE_MIN 0)

/-- Local civil seconds minus TAI seconds: time zone and summer time, less the UTC offset (R393, R537). -/
def State.localShift (s : State) : Int :=
  s.zoneMin * 60 + (if s.drip.dst then 3600 else 0) - s.utcOff

/-- TB2: the calendar's local time turned into TAI (R393). -/
def State.tb2Value (s : State) : Nat :=
  let local' : Int := ((calSeconds s.drip.live * fsPerS + s.drip.sub * fsPerS / 32768 : Nat) : Int)
  (local' - s.localShift * (fsPerS : Int)).toNat

/-- TB2 takes its value from the calendar (R393). -/
def State.loadTb2 (s : State) : State :=
  { s with
    time.tb2.fs := s.tb2Value
    time.tb2.valid := s.drip.valid }

/-- T0 is bound to base `b` and not merging (R394). -/
def State.boundTo (s : State) (b : Nat) : Bool := s.time.merging.isNone && s.time.bound == some b

/-- The epoch is island time (R401). -/
def State.isIsland (s : State) : Bool :=
  !(s.boundTo 0 && (s.time.tb0State == 2 ||
    (s.time.tb0State == 3 && decide (s.epoch ≤ s.time.holdFrom + s.pn P.TIME_SYNC_LOSS_S 0 * ticksPerS))))

/-- The island-time flag is updated, in order 1 (R401). -/
def State.updIsland (s : State) : State := { s with time.island := s.isIsland }

/-- Points stamped with the present epoch carry its island mark (R288, R401). -/
def State.markIsland (s : State) : State :=
  { s with pts := tmap s.pts (fun _ p =>
      if p.epoch = s.epoch then
        { p with status := if s.time.island then p.status ||| 0x40#16 else p.status &&& 0xFFBF#16 }
      else p) }

/-- Periods that run in epochs begin at the start of the epoch clock (log entry 25). -/
def State.stampStart (s : State) (e : Nat) : State :=
  { s with
    time.lastSync := e
    time.lastAnnounce := e
    key.lastScrub := e
    slv.lastBoundary := e
    prog.lastRetain := e
    pair.lastFlush := e
    pair.lastEdge := e
    pair.lastMsg := e
    pair.syncAt := e
    pair.startUntil := s.pair.startUntil + (e - s.epoch)
    afe.lastRef := e
    host.sessions := tmap s.host.sessions (fun _ x => { x with lastEpoch := e }) }

/-- The epoch clock starts, bound to a base (R398). -/
def State.startT0 (s : State) (b : Nat) : State :=
  let fs := (s.base b).fs
  ({ s.stampStart (fs / fsPerTick) with
    epoch := fs / fsPerTick
    time.t0 := fs
    time.running := true
    time.outSel := s.pn P.TIME_SEL_OUT 0
    time.bound := some b
    time.merging := none
    time.startWait := false
    time.noBase := false }.updIsland).syncDev

/-- The base that TIME_SEL_EPOCH selects; automatic is none (R395). -/
def State.selBase (s : State) : Option Nat :=
  let v := s.pn P.TIME_SEL_EPOCH 0
  if v = 0 then none else some v

/-- The epoch clock starts, where it has not, on the base that is due: the selected one, or TB0 when it is
locked, else TB2 when the calendar is valid; on nothing otherwise (R398). -/
def State.tryStart (s : State) : State :=
  if s.time.running then s
  else match s.selBase with
    | some b => if (s.base b).valid || b != 2 then s.startT0 b else { s with time.noBase := true }
    | none =>
      if s.time.tb0State = 2 then s.startT0 0
      else if s.time.startWait then s
      else if s.time.tb2.valid then s.startT0 2
      else { s with time.noBase := true }

/-- Advance of a base while T0 advances by `d` at the rate of base `b` times `1 + sign * ppm / 10^6`. -/
def advanceBy (d : Nat) (fi fb ppm : Int) : Nat :=
  ((d : Int) * (1000000000000 + fi) * 1000000 / ((1000000000000 + fb) * (1000000 + ppm))).toNat

/-- The signed slew in parts per million of a running merge: ahead targets are approached faster (R399). -/
def State.slew (s : State) : Int :=
  match s.time.merging with
  | none => 0
  | some b =>
    let p : Int := (s.pn P.TIME_SLEW_PPM 0 : Int)
    if s.time.t0 ≤ (s.base b).fs then p else -p

/-- The base whose rate T0 follows: the merge's target, or the base it is bound to. -/
def State.rateBase (s : State) : TimeBase :=
  match s.time.merging with
  | some b => s.base b
  | none => match s.time.bound with
    | some b => s.base b
    | none => s.time.tb1

/-- The bases and T0 advance to the next tick edge, the next multiple of 125,000 ns of T0 (R394, R399). -/
def State.advanceTime (s : State) : State :=
  let next := (s.epoch + 1) * fsPerTick
  let d := next - s.time.t0
  let fb := s.rateBase.freq
  let k := s.slew
  let adv (t : TimeBase) : TimeBase := { t with fs := t.fs + advanceBy d t.freq fb k }
  let s1 := { s with
    epoch := s.epoch + 1
    order := 1
    time.t0 := next
    time.tb0 := adv s.time.tb0
    time.tb1 := adv s.time.tb1
    time.tb2 := adv s.time.tb2
    time.tb3 := adv s.time.tb3 }
  match s.time.merging with
  | none => { s1 with time.mergeRemain := 0 }
  | some b =>
    let diff : Int := ((s1.base b).fs : Int) - (s1.time.t0 : Int)
    { s1 with time.mergeRemain := diff / (fsPerNs : Int) }

/-- A merge to a base is to start at the next tick boundary (R398). -/
def State.wantMerge (s : State) (b : Nat) : State :=
  { s with time.mergeWaiting := true, time.mergeTarget := b }

/-- A running merge stops, T0 staying on its present base (R402). -/
def State.stopMerge (s : State) : State :=
  { s with time.merging := none, time.mergeRemain := 0, time.mergeRefused := false }

/-- Frequency of T0 while it merges at a rate, in parts in 10^12. -/
def mergedFreq (f k : Int) : Int := (1000000000000 + f) * (1000000 + k) / 1000000 - 1000000000000

/-- T0 leaves TB0 for TB1, which takes its value and rate: no step and no change of rate (R398, R402). -/
def State.toTb1 (s : State) : State :=
  let f := mergedFreq s.rateBase.freq s.slew
  { s.stopMerge with
    time.bound := some 1
    time.tb1 := { fs := s.time.t0, valid := true, freq := f } }

/-- TB0 without a source is FREE: where it was LOCKED, T0 leaves it, also out of a merge to it (R396, R398, R402). -/
def State.tb0Free (s : State) : State :=
  let s1 := if s.time.tb0State = 2 ∧ (s.boundTo 0 || s.time.merging == some 0) = true then s.toTb1 else s
  { s1 with
    time.tb0State := 0
    time.lockFrom := none
    time.mergeWaiting := s1.time.mergeWaiting && s1.time.mergeTarget != 0 }

/-- A commit of TIME_SEL_EPOCH or TIME_SOURCE takes effect (R396, R398, R402). -/
def State.timeCommitted (s old : State) : State :=
  let s1 :=
    if s.pn P.TIME_SOURCE 0 = old.pn P.TIME_SOURCE 0 then s
    else if s.pn P.TIME_SOURCE 0 = 2 then s.tb0Free
    else if s.time.tb0State = 0 then { s with time.tb0State := 1, time.lockFrom := none }
    else s
  if s.pn P.TIME_SEL_EPOCH 0 = old.pn P.TIME_SEL_EPOCH 0 then s1
  else
    let s2 := s1.stopMerge
    match s2.selBase with
    | some b => if s2.boundTo b then { s2 with time.mergeWaiting := false } else s2.wantMerge b
    | none =>
      if s2.time.tb0State = 2 && !s2.boundTo 0 then s2.wantMerge 0
      else { s2 with time.mergeWaiting := false }

/-- Code of T0_BASE (R406): 16#FF while merging or unbound. -/
def State.t0Base (s : State) : Nat :=
  match s.time.merging, s.time.bound with
  | none, some b => b
  | _, _ => 0xFF

/-- TIME_FLAGS (R406). -/
def State.timeFlags (s : State) : Nat :=
  b2n s.time.island + 2 * b2n s.time.merging.isSome + 4 * b2n s.time.mergeRefused + 8 * b2n s.time.noBase +
    16 * b2n s.time.utcFromMaster

/-! ### Sending frames -/

/-- The port protects its frames with MACsec (R384, R388). -/
def State.secured (s : State) (p : Nat) : Bool :=
  p == 4 || (decide (p < 4) && s.pn P.MACSEC_MODE p != 0 &&
    ((s.port p).mode == 1 || (s.port p).mode == 3))

/-- Label of the port's SAK (R385, R388). -/
def State.sakLabel (s : State) (p : Nat) : U64 :=
  BitVec.ofNat 64 (if p = 4 then s.pn P.PAIR_KEY_LABEL 0 else s.pn P.MACSEC_KEY_LABEL p)

/-- Destination code of the ring MACsec engine (R451). -/
abbrev destMacsec : Nat := 1

/-- The port can protect a frame of the present epoch: a SAK is at hand (R385, R465). -/
def State.sakReady (s : State) (p : Nat) : Bool := (s.txKeyAt (s.sakLabel p) destMacsec s.epoch).isSome

/-- A frame leaves a port that is on and has a link, without protection. -/
def State.sendPlain (s : State) (p ethertype : Nat) (dst : BitVec 48) (bytes : List Byte) : State :=
  let q := s.port p
  if q.mode != 0 && q.link then
    (s.emit (.frame p ethertype dst bytes)).setPort p { q with txFrames := q.txFrames + 1 }
  else s

/-- A frame leaves a port; a protected port takes a packet number for it, and sends nothing without a key
(R384, R465). The content is that before protection. -/
def State.sendOn (s : State) (p ethertype : Nat) (dst : BitVec 48) (bytes : List Byte) : State :=
  if s.secured p then
    (if s.sakReady p && (s.port p).mode != 0 && (s.port p).link then
      let s1 := s.sendPlain p ethertype dst bytes
      s1.setPort p { s1.port p with txPn := (s1.port p).txPn + 1 }
    else s)
  else s.sendPlain p ethertype dst bytes

/-- A frame that the module originates on the ring: on both ports under one HSR sequence number (R381). -/
def State.sendRing (s : State) (ethertype : Nat) (dst : BitVec 48) (bytes : List Byte) : State :=
  let s1 := (s.sendOn 0 ethertype dst bytes).sendOn 1 ethertype dst bytes
  { s1 with net.hsrSeq := (s1.net.hsrSeq + 1) % 65536 }

end Sys2Proof.Machine
end

