-- ==== Sys2Proof/Machine/Time.lean ====
section
/-! DEFINITION. The commands and events of network time, the pulse lands and the epoch clock (chapter
"Ring, access and pair ports; network time"). -/

namespace Sys2Proof.Machine

/-! ### Setting a base -/

/-- What the tables say of TIME_SET. -/
def timeSetInfo : CmdInfo := { op := 0x0201, who := [.installer] }

/-- The time of day for PPS_IN: TB0 takes it while it is not locked and PPS_IN is its source (R393, R396). -/
def State.timeSetTo (s : State) (ns : Nat) : State :=
  let s1 := { s with time.timeSet := true }
  if s.pn P.TIME_SOURCE 0 = 1 && decide (s.time.tb0State < 2) then { s1 with time.tb0.fs := ns * fsPerNs }
  else s1

/-- TIME_SET (R393). -/
def execTimeSet (h : Hdr) (ns : Nat) (s : State) : Host.Outcome State Fault Refusal :=
  .next (s.command timeSetInfo h ns (fun _ => { act := fun t => t.timeSetTo ns }))

/-- What the tables say of TIME_TEST. -/
def timeTestInfo : CmdInfo := { op := 0x0202, who := [.installer] }

/-- TIME_TEST: TB3 takes the value and runs on at the rate of TB1 (R393). -/
def execTimeTest (h : Hdr) (ns : Nat) (s : State) : Host.Outcome State Fault Refusal :=
  .next (s.command timeTestInfo h ns (fun _ =>
    { act := fun t => { t with time.tb3 := { fs := ns * fsPerNs, valid := true, freq := t.time.tb1.freq } } }))

/-! ### TB0 -/

/-- A frequency correction within 200 ppm (R396). -/
def clampFreq (f : Int) : Int := max (-200000000) (min f 200000000)

/-- An offset within TIME_LOCK_NS keeps the lock time running; any other restarts it (R396). -/
def State.lockSince (s : State) (offset : Int) : Option Nat :=
  if decide (offset.natAbs ≤ s.pn P.TIME_LOCK_NS 0) then
    (match s.time.lockFrom with
     | some n => some n
     | none => some (s.time.tb0.fs / fsPerNs))
  else none

/-- One offset of TB0 from its source: in FREE and ACQUIRING TB0 steps to the source; in LOCKED and
HOLDOVER an offset above the limit is an outlier, and any other corrects the frequency (R396). -/
def State.tb0Measured (s : State) (offset freq : Int) (fs : Nat) : State :=
  let s1 := { s with time.tb0Offset := offset, time.lastSync := s.epoch }
  if s.time.tb0State < 2 then
    let s2 := { s1 with
      time.tb0State := 1
      time.tb0.fs := fs
      time.tb0.freq := clampFreq freq
      time.overLimit := 0 }
    { s2 with time.lockFrom := s2.lockSince offset }
  else
    let s2 :=
      if s.pn P.TIME_OFFSET_LIMIT_NS 0 < offset.natAbs then
        { s1 with time.outliers := s1.time.outliers + 1, time.overLimit := s1.time.overLimit + 1 }
      else { s1 with time.tb0.freq := clampFreq freq, time.overLimit := 0 }
    if s.time.tb0State = 3 then
      { s2 with time.tb0State := 1, time.overLimit := 0, time.lockFrom := s2.lockSince offset }
    else s2

/-- Lists of numbers in lexicographic order. -/
def lexLt : List Nat → List Nat → Bool
  | [], [] => false
  | [], _ => true
  | _, [] => false
  | a :: r, b :: t => decide (a < b) || (a == b && lexLt r t)

/-- The message may reach TB0 or the master selection: IEEE 1588 is the source of TB0, the port is on the
ring or an uplink, and the domain is the module's (R391, R393). -/
def State.ptpHere (s : State) (m : PtpMsg) : Bool :=
  s.ready && s.pn P.TIME_SOURCE 0 == 0 &&
  ((s.port m.port).mode == 1 || (s.port m.port).mode == 3) && m.domain == s.bootN P.PTP_DOMAIN

/-- An unprotected Sync or Announce on a protected port (R386). -/
def State.ptpUnsecured (s : State) (m : PtpMsg) : Bool :=
  decide (m.port < 4) && s.pn P.MACSEC_MODE m.port != 0 && !m.secured && (m.kind == 0 || m.kind == 11)

/-- The selected master's announcement: its data set, the UTC offset and the leap second (R391, R397). -/
def State.announced (s : State) (m : PtpMsg) : State :=
  { s with
    time.master := some m.source
    time.masterPort := m.port
    time.masterDs := m.ds
    time.lastAnnounce := s.epoch
    time.gmId := BitVec.ofNat 64 (m.ds.getD 5 0)
    time.stepsRemoved := m.ds.getD 6 0 + 1
    time.utcFromMaster := m.utcValid
    time.utcOffset := m.utcOffset
    time.leapPend := if m.leap61 then 1 else if m.leap59 then -1 else 0
    time.tb0State := if s.time.tb0State = 0 then 1 else s.time.tb0State }

/-- An Announce message: the selected master refreshes its data, a better one is selected (R391). -/
def State.announceRx (s : State) (m : PtpMsg) : State :=
  if s.time.master.isNone || s.time.master == some m.source || lexLt m.ds s.time.masterDs then s.announced m
  else s

/-- PTP_MESSAGE_RX (R391, R396). -/
def execPtpMessageRx (m : PtpMsg) (s : State) : Host.Outcome State Fault Refusal :=
  .next (
    if s.ready && s.ptpUnsecured m then
      s.setPort m.port { s.port m.port with macsecFailed := (s.port m.port).macsecFailed + 1 }
    else if !s.ptpHere m then s
    else if m.kind = 11 then s.announceRx m
    else if m.kind = 0 && s.time.master == some m.source then
      s.tb0Measured m.offsetNs m.freq ((m.masterNs - ptpOrigin * 1000000000) * fsPerNs)
    else s)

/-- ANNOUNCE_RECEIPT_TIMEOUT: three Announce intervals of 1 s without a message of the selected master end
its selection (R391). -/
def execAnnounceReceiptTimeout (s : State) : Host.Outcome State Fault Refusal :=
  .next (
    if s.time.master.isSome && decide (s.time.lastAnnounce + 3 * ticksPerS ≤ s.epoch) then
      { s with
        time.master := none
        time.masterDs := []
        time.gmId := 0#64
        time.stepsRemoved := 0
        time.utcFromMaster := false
        time.leapPend := 0 }
    else s)

/-- clockIdentity of the module: its MAC address as an EUI-64. -/
def State.clockId (s : State) : Nat :=
  s.net.mac.toNat / 2 ^ 24 * 2 ^ 40 + 0xFFFE * 2 ^ 24 + s.net.mac.toNat % 2 ^ 24

/-- Seconds and nanoseconds of IEEE 1588 of a base. -/
def ptpStamp (fs : Nat) : List Byte := be 6 (fs / fsPerS + ptpOrigin) ++ be 4 (fs % fsPerS / fsPerNs)

/-- Ports that hear one network: the two ring ports are one, each access port its own (R391; log entry 26). -/
def netOf (port : Nat) : Nat := if port < 2 then 0 else port

/-- The module is slave to a selected master on IEEE 1588 (R391, R393). -/
def State.hasMaster (s : State) : Bool := s.pn P.TIME_SOURCE 0 == 0 && s.time.master.isSome

/-- The module acts as master on the port: on station ports always; on ring and uplink ports, unless it is slave-only, as
grandmaster with TIME_SOURCE 1, and as boundary clock towards every network but its master's (R387, R391). -/
def State.ptpMaster (s : State) (port : Nat) : Bool :=
  (s.port port).mode == 2 ||
  (((s.port port).mode == 1 || (s.port port).mode == 3) && s.pn P.PTP_SLAVE_ONLY 0 == 0 &&
    (s.pn P.TIME_SOURCE 0 == 1 ||
      (s.hasMaster && s.time.tb0.valid && netOf port != netOf s.time.masterPort)))

/-- What an Announce says of the grandmaster: priority1, clockClass, clockAccuracy, offsetScaledLogVariance, priority2,
identity and stepsRemoved: the selected master's data set, or the module's own (R391; log entry 26). -/
def State.announceDs (s : State) : List (Nat × Nat) :=
  if s.hasMaster then [1, 1, 1, 2, 1, 8].zip s.time.masterDs ++ [(2, s.time.stepsRemoved)]
  else [(1, s.pn P.PTP_PRIORITY1 0), (1, 0), (1, 0), (2, 0), (1, s.pn P.PTP_PRIORITY2 0), (8, s.clockId), (2, 0)]

/-- The time that a port distributes: T0 on station ports, TB0 on ring and uplink ports (R395). -/
def State.ptpTime (s : State) (port : Nat) : Nat :=
  if (s.port port).mode = 2 then s.time.t0 else s.time.tb0.fs

/-- The message of a kind: header, then the body of a Sync, an Announce or a Pdelay_Req (log entry 26). -/
def State.ptpBytes (s : State) (port kind : Nat) : List Byte :=
  let len := if kind = 11 then 64 else if kind = 0 then 44 else 54
  beRec [(1, kind), (1, 2), (2, len), (1, s.bootN P.PTP_DOMAIN), (1, 0), (2, 0x0200), (8, 0), (4, 0),
    (8, s.clockId), (2, port + 1), (2, s.time.ptpSeq % 65536), (1, 0), (1, 0)] ++
  (if kind = 2 then List.replicate 20 0#8 else ptpStamp (s.ptpTime port)) ++
  (if kind = 11 then beRec ([(2, s.utcOff.toNat), (1, 0)] ++ s.announceDs ++ [(1, 0xA0)]) else [])

/-- Multicast address of the profile: peer-delay messages, and all others (log entry 26). -/
def ptpDst (kind : Nat) : BitVec 48 := if kind = 2 then 0x0180C200000E#48 else 0x011B19000000#48

/-- PTP_MESSAGE_TX: Announce and Sync from a master port of a unit that is not a standby, Pdelay_Req from
every port that carries time, unprotected (R391, R386, R387, R483). -/
def execPtpMessageTx (port kind : Nat) (s : State) : Host.Outcome State Fault Refusal :=
  .next (
    let timePort := (s.port port).mode == 1 || (s.port port).mode == 2 || (s.port port).mode == 3
    let due := if kind = 2 then timePort && (!s.isStandby || (s.port port).mode != 2)
      else (kind == 0 || kind == 11) && s.ptpMaster port && s.time.running && !s.isStandby
    if s.ready && decide (port < 4) && (s.port port).link && due then
      { (if kind = 2 then s.sendPlain port 0x88F7 (ptpDst kind) (s.ptpBytes port kind)
         else s.sendOn port 0x88F7 (ptpDst kind) (s.ptpBytes port kind)) with
        time.ptpSeq := s.time.ptpSeq + 1 }
    else s)

/-! ### Pulses -/

/-- PPS_IN_EDGE: with TIME_SOURCE 1 and a time of day set, an edge is a measurement of TB0 (R396, R403). -/
def execPpsInEdge (offsetNs freq : Int) (s : State) : Host.Outcome State Fault Refusal :=
  .next (
    if s.ready && s.pn P.TIME_SOURCE 0 == 1 && s.time.timeSet && s.vioGood 2 then
      s.tb0Measured offsetNs freq ((s.time.tb0.fs : Int) - offsetNs * (fsPerNs : Int)).toNat
    else s)

/-- The base that TD3 reads, and whether it is valid (R395, R403). -/
def State.outBase (s : State) : Nat × Bool :=
  match s.time.outSel with
  | 0 => (s.time.t0, s.time.running)
  | 1 => (s.time.tb0.fs, s.time.tb0.valid)
  | 2 => (s.time.tb1.fs, true)
  | _ => (s.time.tb2.fs, s.time.tb2.valid)

/-- Code of the base that TD3 reads, for a timestamp (R390, R395): T0 counts as the base to which it is
bound. -/
def State.outBaseCode (s : State) : Nat :=
  match s.time.outSel with
  | 0 => s.t0Base
  | 1 => 0
  | 2 => 1
  | _ => 2

/-- PPS_OUT_PULSE: PPS_OUT rises at a whole second of a valid base (R403). -/
def execPpsOutPulse (s : State) : Host.Outcome State Fault Refusal :=
  .next (
    let b := s.outBase
    if s.ready && b.2 && b.1 / fsPerS != s.time.ppsSeconds && s.vioGood 2 then
      ({ s with time.ppsSeconds := b.1 / fsPerS, time.ppsHigh := true } : State).emit (.pin "PPS_OUT" true)
    else s)

/-- PPS_OUT falls 100 ms after the second, and while its base is invalid (R403). -/
def State.ppsFall (s : State) : State :=
  if s.time.ppsHigh && (!s.outBase.2 || decide (fsPerS / 10 ≤ s.outBase.1 % fsPerS)) then
    ({ s with time.ppsHigh := false } : State).emit (.pin "PPS_OUT" false)
  else s

/-! ### Lock and loss of TB0 -/

/-- TB0 is locked: the epoch clock starts on it, or is to merge to it (R396, R398). -/
def State.tb0Locked (s : State) : State :=
  let s1 := { s with time.tb0State := 2, time.tb0.valid := true, time.overLimit := 0 }
  if s1.pn P.TIME_SEL_EPOCH 0 != 0 then s1
  else if !s1.time.running then s1.tryStart
  else if s1.boundTo 0 || s1.time.merging == some 0 then s1
  else s1.wantMerge 0

/-- TB0_LOCK: the offset has stayed within TIME_LOCK_NS for TIME_LOCK_S (R396). -/
def execTb0Lock (s : State) : Host.Outcome State Fault Refusal :=
  .next (
    match s.time.lockFrom with
    | some n =>
      if s.ready && s.time.tb0State == 1 &&
          decide (n + s.pn P.TIME_LOCK_S 0 * 1000000000 ≤ s.time.tb0.fs / fsPerNs) then s.tb0Locked
      else s
    | none => s)

/-- TB0 has lost sync (R396). -/
def State.syncLost (s : State) : Bool :=
  decide (s.time.lastSync + s.pn P.TIME_SYNC_LOSS_S 0 * ticksPerS ≤ s.epoch) || decide (3 ≤ s.time.overLimit)

/-- TB0_SYNC_LOSS: HOLDOVER; T0 leaves TB0, also out of a merge to it (R396, R398, R402). -/
def execTb0SyncLoss (s : State) : Host.Outcome State Fault Refusal :=
  .next (
    if s.ready && s.time.tb0State == 2 && s.syncLost then
      let s1 := { s with
        time.tb0State := 3
        time.holdFrom := s.epoch
        time.lockFrom := none
        time.overLimit := 0 }
      if s1.boundTo 0 || s1.time.merging == some 0 then s1.toTb1
      else { s1 with
        time.tb1.freq := if s.time.bound = some 1 then s.time.tb1.freq else s.time.tb0.freq
        time.mergeWaiting := s.time.mergeWaiting && s.time.mergeTarget != 0 }
    else s)

/-! ### Start and merge -/

/-- START_WAIT_EXPIRE: the wait for TB0 ends, and T0 starts on TB2 or on nothing (R398). -/
def execStartWaitExpire (s : State) : Host.Outcome State Fault Refusal :=
  .next (
    if s.ready && s.time.startWait && !s.time.running then
      ({ s with time.startWait := false } : State).tryStart
    else s)

/-- Distance of a base from T0 in femtoseconds. -/
def State.baseGap (s : State) (b : Nat) : Nat := ((s.base b).fs - s.time.t0) + (s.time.t0 - (s.base b).fs)

/-- TIME_SLEW_MAX_S in femtoseconds. -/
def State.slewMax (s : State) : Nat := (s.pq P.TIME_SLEW_MAX_S 0 * (fsPerS : Rat)).floor.toNat

/-- The merge that waits starts, or is refused while its offset is too great (R398, R399, R400). -/
def State.mergeStart (s : State) : State :=
  let b := s.time.mergeTarget
  if s.boundTo b then { s with time.mergeWaiting := false, time.mergeRefused := false }
  else if s.slewMax < s.baseGap b then { s with time.mergeRefused := true }
  else
    let s1 := if s.time.bound = some 0 && b != 0 then
        { s with time.tb1 := { fs := s.time.t0, valid := true, freq := s.time.tb0.freq } } else s
    { s1 with
      time.merging := some b
      time.mergeWaiting := false
      time.mergeRefused := false
      time.mergeRemain := (((s1.base b).fs : Int) - (s1.time.t0 : Int)) / (fsPerNs : Int) }

/-- MERGE_START: at a tick boundary (R398, R399). -/
def execMergeStart (s : State) : Host.Outcome State Fault Refusal :=
  .next (
    if s.ready && s.time.running && s.time.mergeWaiting && s.orderOk 1 then
      (s.mergeStart).atOrder 1
    else s)

/-- MERGE_COMPLETE: at a tick boundary, in order 1, the target lies within 8 ns; T0 is bound to it from
this tick, and the island mark follows (R399, R401). -/
def execMergeComplete (s : State) : Host.Outcome State Fault Refusal :=
  .next (
    match s.time.merging with
    | some b =>
      if s.ready && s.time.running && s.orderOk 1 && decide (s.baseGap b ≤ 8 * fsPerNs) then
        ((({ s with time.merging := none, time.bound := some b, time.mergeRemain := 0 }.atOrder 1).updIsland).markIsland).syncDev
      else s
    | none => s)

/-- LEAP_SECOND: the master's offset changes at the end of the UTC day (R397). -/
def execLeapSecond (s : State) : Host.Outcome State Fault Refusal :=
  .next (
    let t : Int := (s.time.t0 / fsPerS : Nat)
    if s.ready && s.time.running && s.time.utcFromMaster && s.time.leapPend != 0 &&
        (t - s.time.utcOffset - s.time.leapPend) % 86400 == 0 then
      ({ s with time.utcOffset := s.time.utcOffset + s.time.leapPend, time.leapPend := 0 } : State).loadTb2
    else s)

end Sys2Proof.Machine
end

