-- ==== Sys2Proof/Machine/Calendar.lean ====
section
/-! DEFINITION. The Drip domain's calendar, its registers and alarms, and the Drip event log (chapter
"Power, reset, the Drip domain and the calendar"). -/

namespace Sys2Proof.Machine

/-! ### Drip events and wake -/

/-- Bytes of a Drip event record (R528). -/
def dripEvtBytes (e : DripEvt) : List Byte :=
  leRec [(1, e.source), (1, e.dir), (2, 0), (4, e.secs), (2, e.sub)]

/-- A comparator event: logged, the oldest of 32 overwritten and counted; posted and audited at once while
the core runs (R528). -/
def State.dripEvent (s : State) (source : Nat) (rising : Bool) : State :=
  let e : DripEvt := { source := source, dir := b2n rising, secs := calSeconds s.drip.live,
                       sub := s.drip.sub, posted := s.ready }
  let full := decide (32 ≤ s.drip.evts.length)
  let s1 := { s with
    drip.evts := (if full then s.drip.evts.drop 1 else s.drip.evts) ++ [e]
    drip.evtLost := if full then min 255 (s.drip.evtLost + 1) else s.drip.evtLost }
  if s.ready then s1.condition St.SUPPLY_EVENT (dripEvtBytes e) else s1

/-- A wake source ends DORMANT: release may start at step 2, and RESET_CAUSE records the wake (R529, R530). -/
def State.wake (s : State) (src : Nat) : State :=
  if s.drip.dormant then
    { s with
      drip.dormant := false
      drip.causeBits := s.drip.causeBits ||| 16#5
      drip.wakeSrc := src }
  else s

/-! ### Calendar registers (R532) -/

/-- Register `k` of a calendar set, in the set's order. -/
def calReg (c : CalSet) : Nat → Nat
  | 0 => c.sec
  | 1 => c.min
  | 2 => c.hour
  | 3 => c.day
  | 4 => c.wday
  | 5 => c.month
  | 6 => c.century
  | _ => c.year

/-- Bits of register `k`. -/
def calMask : Nat → Nat
  | 0 => 0x7F
  | 1 => 0x7F
  | 2 => 0x3F
  | 3 => 0x3F
  | 4 => 0x07
  | 5 => 0x1F
  | 6 => 0xFF
  | _ => 0xFF

/-- A calendar set with register `k` written; reserved bits stay 0. -/
def calSetReg (c : CalSet) (k val : Nat) : CalSet :=
  let v := val &&& calMask k
  match k with
  | 0 => { c with sec := v }
  | 1 => { c with min := v }
  | 2 => { c with hour := v }
  | 3 => { c with day := v }
  | 4 => { c with wday := v }
  | 5 => { c with month := v }
  | 6 => { c with century := v }
  | _ => { c with year := v }

/-- Both digits are decimal. -/
def bcdOk (b : Nat) : Bool := decide (b % 16 ≤ 9) && decide (b / 16 ≤ 9)

/-- REJECT_REASON of a staged set, 0 when it passes (R532, R534). -/
def calReason (c : CalSet) : Nat :=
  if !([c.sec, c.min, c.hour, c.day, c.month, c.century, c.year].all bcdOk) then 1
  else
    let y := CalSet_year c
    let m := ofBcd c.month
    if 59 < ofBcd c.sec || 59 < ofBcd c.min || 23 < ofBcd c.hour || ofBcd c.day = 0 || c.wday = 0 ||
        7 < c.wday || m = 0 || 12 < m || ofBcd c.century < 20 || 23 < ofBcd c.century then 2
    else if monthDays y m < ofBcd c.day then 3
    else if c.wday != weekdayOf (dayNumber y m (ofBcd c.day)) then 4
    else 0

/-- CAL_STATUS (R532). -/
def State.calStatus (s : State) : Nat :=
  b2n s.drip.valid + 2 * b2n s.drip.frozen + 4 * b2n s.drip.freezeTimeout + 8 * b2n s.drip.writeRejected +
  16 * s.drip.rejectReason + 256 * b2n s.drip.staged.isSome + 512 * b2n s.drip.unlocked +
  1024 * b2n s.drip.dst + 2048 * b2n s.drip.rangeEnd + 4096 * b2n s.drip.writeLocked +
  65536 * s.drip.almFired.toNat

/-- A read of a time register: the first freezes the set, CAL_YEAR releases it (R533). -/
def State.calRead (s : State) (k : Nat) : State :=
  let sh := if s.drip.frozen then s.drip.shadow else s.drip.live
  let s1 := if k = 7 then { s with drip.frozen := false, drip.shadow := sh }
    else { s with
      drip.frozen := true, drip.shadow := sh, drip.frozenAt := if s.drip.frozen then s.drip.frozenAt else s.epoch }
  s1.emit (.readData (0x8000 + 4 * k) (BitVec.ofNat 32 (calReg sh k)))

/-- A write of a time register goes to the staging copies while the window is open (R534, R535). -/
def State.calWrite (s : State) (k val : Nat) : State :=
  if s.drip.unlocked then
    { s with drip.staged := some (calSetReg (s.drip.staged.getD s.drip.live) k val) }
  else { s with drip.writeLocked := true }

/-- CAL_REG_WRITE (R532, R534). -/
def execCalRegWrite (off : Nat) (val : U32) (s : State) : Host.Outcome State Fault Refusal :=
  .next (
    if s.hostUp && off % 4 == 0 && decide (0x8000 ≤ off) && decide (off < 0x8020) then
      s.calWrite ((off - 0x8000) / 4) val.toNat
    else s)

/-! ### Alarms (R538) -/

/-- Alarm state. -/
def State.calAlm (s : State) (n : Nat) : CalAlarm := tgetD s.drip.alarms n {}

/-- The state with an alarm changed. -/
def State.setAlm (s : State) (n : Nat) (a : CalAlarm) : State :=
  { s with drip.alarms := tset s.drip.alarms n a }

/-- The alarm is enabled. -/
def State.almOn (s : State) (n : Nat) : Bool := s.dripVal P.CAL_ALM_EN n == 1

/-- A day number passes the alarm's weekday and date. -/
def State.almDay (s : State) (n day : Nat) : Bool :=
  let d := dateOf day
  bitOf (s.dripVal P.CAL_ALM_DAYS n) (weekdayOf day - 1) &&
  (s.dripVal P.CAL_ALM_DATE n == 0 || s.dripVal P.CAL_ALM_DATE n == d.2.1 * 256 + d.2.2)

/-- The alarm matches a calendar time (R538). -/
def State.almMatch (s : State) (n t : Nat) : Bool :=
  s.dripVal P.CAL_ALM_TIME n == t % 86400 && s.almDay n (t / 86400)

/-- The alarm matches some time in `[a, b)`. -/
def State.almIn (s : State) (n a b : Nat) : Bool :=
  (List.range (b / 86400 + 1 - a / 86400)).any (fun k =>
    let t := (a / 86400 + k) * 86400 + s.dripVal P.CAL_ALM_TIME n
    decide (a ≤ t) && decide (t < b) && s.almDay n (a / 86400 + k))

/-- The alarm is blocked at a calendar time. -/
def State.almBlocked (s : State) (n t : Nat) : Bool := decide (t < (s.calAlm n).blockUntil)

/-- The device condition and audit record of an alarm (R538, R472). -/
def State.almReport (s : State) (n : Nat) : State := s.condition St.CAL_ALARM (le 1 n)

/-- An alarm fires at a calendar time: its bit, its report now or at the next start, and the wake (R538). -/
def State.almFire (s : State) (n t : Nat) : State :=
  let a := s.calAlm n
  let s1 := ({ s with drip.almFired := s.drip.almFired ||| (1#4 <<< n) } : State).setAlm n
    { a with fired := a.fired ++ [t], eventDue := !s.ready }
  let s2 := if s.ready then s1.almReport n else s1
  if s.dripVal P.CAL_ALM_WAKE n = 1 then s2.wake 3 else s2

/-- The alarms at a carry to time `t` (R538). -/
def State.almCarry (s : State) (t : Nat) : State :=
  (List.range 4).foldl (fun a n =>
    let b := if (a.calAlm n).blockUntil != 0 && decide ((a.calAlm n).blockUntil ≤ t) then
        a.setAlm n { a.calAlm n with blockUntil := 0 } else a
    if b.almOn n && b.almMatch n t && !b.almBlocked n t then b.almFire n t else b) s

/-- One alarm at an adjustment from `told` to `tnew` (R538). -/
def State.almAdjust (s : State) (told tnew n : Nat) : State :=
  let a := s.calAlm n
  -- backward: alarms that fired in [tnew, told) are blocked; forward: a block that is reached ends
  let until' :=
    if tnew < told then
      (if a.blockUntil != 0 || a.fired.any (fun t => decide (tnew ≤ t) && decide (t < told)) then
        max a.blockUntil told else 0)
    else if a.blockUntil ≤ tnew then 0 else a.blockUntil
  let s1 := s.setAlm n { a with blockUntil := until' }
  let skip := decide (told < tnew) && s1.dripVal P.CAL_ALM_SKIP n == 0 &&
    s1.almIn n (max told a.blockUntil) tnew
  if s1.almOn n && !s1.almBlocked n tnew && (skip || s1.almMatch n tnew) then s1.almFire n tnew else s1

/-- The alarms at an adjustment (R538). -/
def State.almAdjustAll (s : State) (told tnew : Nat) : State :=
  (List.range 4).foldl (fun a n => a.almAdjust told tnew n) s

/-! ### Writes of the whole set -/

/-- A set becomes the calendar: sub-second count 0, VALID 1, TB2 reloaded; T0 starts where it waits for a
base (R534, R393, R398). -/
def State.calBecomes (s : State) (c : CalSet) : State :=
  let told := calSeconds s.drip.live + 1
  (({ s with drip.live := c, drip.sub := 0, drip.valid := true, drip.rangeEnd := false }.almAdjustAll told
    (calSeconds c)).loadTb2).tryStart

/-- Bytes of a calendar set, for the audit log. -/
def calBytes (c : CalSet) : List Byte := (List.range 8).map (fun k => BitVec.ofNat 8 (calReg c k))

/-- The audit record of a commit, under the role and source that opened the window (R535). -/
def State.auditCal (s : State) (status : Nat) (c : CalSet) : State :=
  s.auditPush { kind := 1, role := Role.code s.drip.openRole, source := Src.code s.drip.openSrc,
                status := status, opcode := 0, detail := padTo 40 (calBytes c) }

/-- A pending summer-time change is dropped and recorded (R539). -/
def State.dropDst (s : State) : State :=
  if s.drip.dstPend = 0 then s
  else ({ s with drip.dstPend := 0 } : State).auditDev 1 0x0211 St.CANCELLED 0 []

/-- CAL_COMMIT: the staged set is checked as a whole, and becomes the calendar or is rejected (R534, R535). -/
def State.calCommit (s : State) : State :=
  if !s.drip.unlocked then { s with drip.writeLocked := true }
  else match s.drip.staged with
    | none => s
    | some c =>
      let r := calReason c
      if r != 0 then
        ({ s with drip.writeRejected := true, drip.rejectReason := r }).auditCal St.RANGE c
      else
        (({ s.auditCal St.OK c with
          drip.writeRejected := false
          drip.rejectReason := 0
          drip.staged := none
          drip.unlocked := false }).dropDst).calBecomes c

/-- CAL_COMMIT (R532, R534). -/
def execCalCommit (s : State) : Host.Outcome State Fault Refusal :=
  .next (if s.hostUp then s.calCommit else s)

/-- The staged set is discarded, while the window is open (R532, R535). -/
def State.calDiscard (s : State) : State :=
  if s.drip.unlocked then { s with drip.staged := none } else { s with drip.writeLocked := true }

/-- CAL_DISCARD (R532). -/
def execCalDiscard (s : State) : Host.Outcome State Fault Refusal :=
  .next (if s.hostUp then s.calDiscard else s)

/-- CAL_FREEZE_TIMEOUT: a freeze ends by its limit of 500 ms (R533). -/
def execCalFreezeTimeout (s : State) : Host.Outcome State Fault Refusal :=
  .next (
    if s.drip.frozen && (!s.time.running || decide (s.drip.frozenAt + 4000 ≤ s.epoch)) then
      { s with drip.frozen := false, drip.freezeTimeout := true }
    else s)

/-- CAL_WINDOW_EXPIRE: the write window ends after 60 s (R535). -/
def execCalWindowExpire (s : State) : Host.Outcome State Fault Refusal :=
  .next (
    if s.drip.unlocked && (!s.time.running || decide (s.drip.openedAt + 60 * ticksPerS ≤ s.epoch)) then
      { s with drip.unlocked := false }
    else s)

/-- What the tables say of CAL_WRITE_ENABLE. -/
def calWriteEnableInfo : CmdInfo := { op := 0x0210, who := [.installer] }

/-- CAL_WRITE_ENABLE opens the write window (R535). -/
def execCalWriteEnable (h : Hdr) (s : State) : Host.Outcome State Fault Refusal :=
  .next (s.command calWriteEnableInfo h 0 (fun _ =>
    { act := fun t => { t with drip.unlocked := true, drip.openedAt := t.epoch, drip.openRole := t.roleOf h.src, drip.openSrc := h.src } }))

/-- What the tables say of CAL_DST. -/
def calDstInfo : CmdInfo := { op := 0x0211, who := [.operator, .installer] }

/-- CAL_DST's own checks (R536). -/
def calDstVerdict (dir : Nat) (s : State) : Verdict :=
  let carry := calSeconds s.drip.live + 1
  if !((dir == 1 && !s.drip.dst) || (dir == 2 && s.drip.dst)) then reject St.WRONG_MODE
  else if (dir = 1 && calEnd ≤ carry + 3600) || (dir = 2 && carry < 3600) then reject St.RANGE
  else { act := fun t => { t with drip.dstPend := dir } }

/-- CAL_DST (R536). -/
def execCalDst (h : Hdr) (dir : Nat) (s : State) : Host.Outcome State Fault Refusal :=
  .next (s.command calDstInfo h dir (calDstVerdict dir))

/-! ### The calendar's course -/

/-- A carry with a pending summer-time change: the hour moves, the staged set goes, TB2 stays continuous
(R536). -/
def State.dstCarry (s : State) (t : Nat) : State :=
  let t1 := if s.drip.dstPend = 1 then t + 3600 else t - 3600
  ({ s with
    drip.live := calOfSeconds t1
    drip.sub := 0
    drip.dst := s.drip.dstPend == 1
    drip.dstPend := 0
    drip.staged := none }.almAdjustAll t t1).loadTb2

/-- CAL_SECOND_CARRY: one second passes on CD0 (R531, R536, R538). -/
def execCalSecondCarry (s : State) : Host.Outcome State Fault Refusal :=
  .next (
    if s.drip.rangeEnd then s
    else
      let t := calSeconds s.drip.live + 1
      let s0 := { s with drip.cd0 := true }
      if s.drip.dstPend != 0 && decide (t < calEnd) then s0.dstCarry t
      else if calEnd ≤ t then { s0 with drip.valid := false, drip.rangeEnd := true }.loadTb2
      else ({ s0 with drip.live := calOfSeconds t, drip.sub := 0 }.almCarry t).loadTb2)

/-- Local time by TB0, in femtoseconds since 2000-01-01 00:00:00 local (R537). -/
def State.localByTb0 (s : State) : Int := (s.time.tb0.fs : Int) + s.localShift * (fsPerS : Int)

/-- The calendar's present time in femtoseconds. -/
def State.calFs (s : State) : Int :=
  ((calSeconds s.drip.live * fsPerS + s.drip.sub * fsPerS / 32768 : Nat) : Int)

/-- CAL_SYNC_CHECK: at a whole minute the calendar takes the local time of TB0 when the two differ by more
than 10 ms (R537). -/
def execCalSyncCheck (s : State) : Host.Outcome State Fault Refusal :=
  .next (
    let loc := s.localByTb0
    let sec := loc / (fsPerS : Int)
    if s.ready && s.time.running && s.pn P.CAL_SYNC 0 == 1 && s.boundTo 0 && s.time.tb0State == 2 &&
        decide (sec % 60 = 0) && decide (0 ≤ sec) && decide (sec < (calEnd : Int)) &&
        decide (10 * 1000000000000 < (loc - s.calFs).natAbs) then
      (s.auditDev 1 0 St.OK 0 (calBytes (calOfSeconds sec.toNat))).calBecomes (calOfSeconds sec.toNat)
    else s)

/-- CD0_LOSS: without CD0 for more than 1 ms the calendar is not valid (R531). -/
def execCd0Loss (s : State) : Host.Outcome State Fault Refusal :=
  .next (if s.drip.cd0 then { s with drip.cd0 := false, drip.valid := false }.loadTb2 else s)

/-! ### Tamper and loss of the Drip domain -/

/-- TAMPER_DETECT: an enabled detector starts the tamper response; it is reported at once while the core
runs, and at the next start otherwise (R464). -/
def execTamperDetect (mask : BitVec 3) (s : State) : Host.Outcome State Fault Refusal :=
  .next (
    let m := mask &&& BitVec.ofNat 3 (s.pn P.TAMPER_EN 0)
    if m = 0#3 then s
    else
      let s1 := s.zeroKeys 1 m.toNat (calSeconds s.drip.live)
      if s.ready then s1.tamperReport else { s1 with key.tamPending := true })

/-- DRIP_STATE_LOSS: VAON below 1.5 V while VBULK is absent: the key-encryption key, the calendar and the
event log are lost (R463, R513). -/
def execDripStateLoss (s : State) : Host.Outcome State Fault Refusal :=
  .next (
    if s.drip.onVaon && !s.rst.vbulkGood then
      { s with
        drip := { kekLostDue := s.key.kekValid || s.drip.kekLostDue }
        key.kek := 0#256
        key.kekValid := false
        key.tamLatched := 0
        key.tamMask := 0
        key.tamCause := 0
        key.tamTime := 0#64
        time.tb2.valid := false }
    else s)

/-! ### DRIP_EVENTS_READ -/

/-- What the tables say of DRIP_EVENTS_READ. -/
def dripEventsReadInfo : CmdInfo :=
  { op := 0x0305, who := [.operator, .installer, .maker], standby := true, isRead := true }

/-- DRIP_EVENTS_READ: whole records, oldest first (R528, R412). -/
def dripEventsVerdict (h : Hdr) (s : State) : Verdict :=
  { data := ((s.drip.evts.take (h.room / 10)).map dripEvtBytes).flatten }

/-- DRIP_EVENTS_READ (R528). -/
def execDripEventsRead (h : Hdr) (s : State) : Host.Outcome State Fault Refusal :=
  .next (s.command dripEventsReadInfo h 0 (dripEventsVerdict h))

end Sys2Proof.Machine
end

