-- ==== Sys2Proof/Machine/Net.lean ====
section
/-! DEFINITION. The packet engine: ring redundancy, MACsec and the host's frame channels (chapters "Ring,
access and pair ports; network time" and "Host commands, handles and the coherent view"). -/

namespace Sys2Proof.Machine

/-! ### Reception on ring, uplink and pair ports -/

/-- The port receives frames by RING_FRAME_RX: a ring port, an uplink, or the pair link (R378). -/
def State.netPort (s : State) (p : Nat) : Bool :=
  (decide (p < 2) && (s.port p).mode == 1) || ((p == 2 || p == 3) && (s.port p).mode == 3) ||
  (p == 4 && (s.port p).mode == 4)

/-- The key under an association number: the key in force under the port's number, a key that waits for
its switch epoch under the next, the previous key under the one before (R385, R459). -/
def State.sakOf (s : State) (p an : Nat) : Option (List Byte) :=
  let l := s.sakLabel p
  let cur := (s.port p).an
  match s.keyItem l with
  | none => none
  | some it =>
    if it.switchDone then
      (if an = cur then s.keyFor l destMacsec
       else if an = (cur + 3) % 4 then s.prevKeyFor l destMacsec else none)
    else
      (if an = cur then s.prevKeyFor l destMacsec
       else if an = (cur + 1) % 4 then s.keyFor l destMacsec else none)

/-- Replay window of a port in packets (R388, R405). -/
def State.replayWindow (s : State) (p : Nat) : Nat := if p = 4 then 64 else s.pn P.MACSEC_REPLAY_WINDOW p

/-- A protected frame passes the SCI, replay and ICV checks (R386). -/
def State.secOk (s : State) (f : NetFrame) : Bool :=
  match f.sec with
  | none => f.peerDelay
  | some (an, pn) =>
    f.sciOk &&
    (match tget (s.port f.port).rxPn an with
     | some hi => decide (hi + 1 ≤ pn + s.replayWindow f.port)
     | none => true) &&
    (match s.sakOf f.port an with
     | some k => Config.macsecIcv k pn f.data == f.icv
     | none => false)

/-- The highest packet number received moves on (R384). -/
def State.sawPn (s : State) (f : NetFrame) : State :=
  match f.sec with
  | none => s
  | some (an, pn) =>
    let q := s.port f.port
    s.setPort f.port { q with rxPn := tset q.rxPn an (max pn (tgetD q.rxPn an 0)) }

/-- Entry forget time of the duplicate table, 400 ms in ticks (R381). -/
abbrev hsrForget : Nat := 3200

/-- The live entry of the duplicate table for a source and sequence number. -/
def State.dupLive (s : State) (src : BitVec 48) (seq : Nat) : Bool :=
  s.net.dups.any (fun d => d.src == src && d.seq == seq && decide (s.epoch < d.seen + hsrForget))

/-- Room in a ring port's table, which is sized for 64 devices: for a device beyond the 64 that it holds, the one whose
oldest entry is the oldest leaves it (R35; log entry 29). -/
def dupRoom (l : List DupEnt) (port : Nat) (src : BitVec 48) : List DupEnt :=
  let own := l.filter (fun d => d.port == port && d.src != src)
  match own with
  | d :: _ =>
    if 64 ≤ (own.map (fun e => e.src)).eraseDups.length then l.filter (fun e => !(e.port == port && e.src == d.src)) else l
  | [] => l

/-- A frame is remembered in the table of the port that received it; entries past their forget time leave (R35, R381). -/
def State.dupAdd (s : State) (port : Nat) (src : BitVec 48) (seq : Nat) : State :=
  { s with net.dups :=
      dupRoom (s.net.dups.filter (fun d => decide (s.epoch < d.seen + hsrForget))) port src ++
        [{ src := src, seq := seq, seen := s.epoch, port := port }] }

/-- A duplicate: counted, discarded, and marked for HSR_DUP (R381, R390). -/
def State.dupSeen (s : State) (f : NetFrame) (seq : Nat) : State :=
  ({ s with net.dups := s.net.dups.map (fun d =>
      if d.src = f.src && d.seq = seq then { d with dup := true } else d) } : State).setPort f.port
    { s.port f.port with hsrDup := (s.port f.port).hsrDup + 1 }

/-- A supervision frame renews its sender in the node table of 64 entries; more than 64 members are
reported once (R35, R381; log entry 29). -/
def State.supervised (s : State) (src : BitVec 48) : State :=
  let keep := s.net.nodes.filter (fun n => n.1 != src.toNat && decide (s.epoch < n.2 + 60 * ticksPerS))
  let nodes := if keep.length < 64 then keep ++ [(src.toNat, s.epoch)] else keep
  let members := nodes.length + 1
  let s1 : State := { s with net.nodes := nodes }
  let s2 := (s1.setPort 0 { s1.port 0 with hsrMembers := members }).setPort 1 { s1.port 1 with hsrMembers := members }
  if members ≤ 64 then { s2 with net.oversizeRing := false }
  else if s2.net.oversizeRing then s2
  else ({ s2 with net.oversizeRing := true } : State).condition St.RING_OVERSIZE (le 2 members)

/-- A tagged frame on a ring port: an own frame is removed; any other is forwarded on the other ring port,
a duplicate discarded, a new one remembered (R381). -/
def State.hsrRx (s : State) (f : NetFrame) (seq : Nat) : State :=
  if f.src = s.net.mac then s
  else
    let s1 := s.sendOn (1 - f.port) f.ethertype f.dst f.data
    if s1.dupLive f.src seq then s1.dupSeen f seq
    else
      let s2 := s1.dupAdd f.port f.src seq
      if f.ethertype = 0x88FB then s2.supervised f.src else s2

/-- The content of an accepted frame. -/
def State.netAccepted (s : State) (f : NetFrame) : State :=
  match f.hsr with
  | some seq => if f.port < 2 then s.hsrRx f seq else s
  | none => s

/-- RING_FRAME_RX: size, capacity, MACsec, then HSR (R379, R380, R381, R386). A PAUSE frame is ignored. -/
def execRingFrameRx (f : NetFrame) (s : State) : Host.Outcome State Fault Refusal :=
  .next (
    let q := s.port f.port
    if !s.ready || !s.netPort f.port || !q.link then s
    else if 1600 < f.len then s.setPort f.port { q with oversize := q.oversize + 1 }
    else if f.len < 64 then s
    else if !f.taken then s.setPort f.port { q with rxDropped := q.rxDropped + 1 }
    else
      let s1 := s.setPort f.port { q with rxFrames := q.rxFrames + 1 }
      if f.pause then s1
      else if s.secured f.port then
        (if s.secOk f then (s1.sawPn f).netAccepted f
         else s1.setPort f.port { s1.port f.port with macsecFailed := q.macsecFailed + 1 })
      else s1.netAccepted f)

/-- HSR_SUPERVISION_TX: the supervision frame on both ring ports (R381; log entry 29). -/
def execHsrSupervisionTx (s : State) : Host.Outcome State Fault Refusal :=
  .next (
    if s.ready && ((s.port 0).mode == 1 || (s.port 1).mode == 1) then
      { s.sendRing 0x88FB 0x01154E000100#48
          (beRec [(2, 1), (2, s.net.supSeq), (1, 23), (1, 6), (6, s.net.mac.toNat), (2, 0)]) with
        net.supSeq := (s.net.supSeq + 1) % 65536 }
    else s)

/-! ### Frame channels -/

/-- EtherTypes that the packet engine consumes: station link, Qualoth, HSR supervision and IEEE 1588 (R390). -/
def State.consumes (s : State) (ethertype : Nat) : Bool :=
  ethertype == s.bootN P.STN_ETHERTYPE || ethertype == s.bootN P.QUALOTH_ETHERTYPE ||
  ethertype == 0x88FB || ethertype == 0x88F7

/-- The timestamp fields of a descriptor: seconds, nanoseconds, base (R390); ring timestamps are taken in
TB0, all others in the base that TD3 reads (R389, R395). -/
def State.stampFields (s : State) (ring : Bool) (ns : Nat) : Nat × Nat × Nat :=
  (ns / 1000000000, ns % 1000000000, if ring then 0 else s.outBaseCode)

/-- Bytes of a descriptor as written back (R390). -/
def descBytes (addr : U64) (len port flags tag : Nat) (ts : Nat × Nat × Nat) (status : Nat) : List Byte :=
  leRec [(8, addr.toNat), (2, len), (1, port), (1, flags), (4, tag), (8, ts.1), (4, ts.2.1), (1, status),
    (1, ts.2.2), (2, 0)]

/-- The ports of a PORT code (R390): 0 names both ring ports. -/
def portsOf (code : Nat) : List Nat := if code = 0 then [0, 1] else if code ≤ 5 then
  [if code = 5 then 5 else code - 1] else []

/-- STATUS of a transmit descriptor (R390, R444; log entry 30). -/
def State.txStatus (s : State) (c : FrameCh) (d : TxDesc) : Nat :=
  let ps := portsOf d.port
  if ps.isEmpty || !c.portMask.getLsbD d.port || d.len < 60 || 1518 < d.len || s.isStandby ||
      ps.all (fun p => (s.port p).mode == 0) ||
      (ps.any (fun p => (s.port p).mode == 2) && d.ethertype == s.bootN P.STN_ETHERTYPE) then 3
  else if ps.all (fun p => (s.port p).mode == 0 || !(s.port p).link) then 2
  else 0

/-- One transmit descriptor: the frame is sent, the descriptor written back with DONE, the vector sent
(R390, R444). -/
def State.txOne (s : State) (ch : Nat) (d : TxDesc) : State :=
  let c := s.fch ch
  let st := s.txStatus c d
  let dst := BitVec.ofNat 48 (beAt d.data 0 6)
  let s1 := if st = 0 then
      (if d.port = 0 then s.sendRing d.ethertype dst (d.data.take d.len)
       else (portsOf d.port).foldl (fun a p => a.sendOn p d.ethertype dst (d.data.take d.len)) s)
    else s
  let ts := if st = 0 && d.flags.getLsbD 0 then
      s.stampFields (decide (d.port ≤ 2)) (d.stamp + s.pn P.PORT_TX_DELAY_NS ((portsOf d.port).headD 0))
    else (0, 0, 0xFF)
  let bytes := descBytes d.addr d.len d.port (d.flags ||| 2#8).toNat d.tag.toNat ts st
  ((s1.emit (.desc ch true c.txHead bytes)).setFch ch
    { c with txHead := (c.txHead + 1) % Config.fcEntries c.fcCfg true }).sendMsix (8 + ch)

/-- TX_TAIL: the descriptors up to the tail are sent in ring order (R390, R444). -/
def execTxTail (ch : Nat) (idx : U32) (descs : List TxDesc) (s : State) :
    Host.Outcome State Fault Refusal :=
  .next (
    if s.hostUp && decide (ch < 4) && (s.fch ch).isOpen then
      descs.foldl (fun a d => a.txOne ch d) (s.setFch ch { s.fch ch with txTail := idx.toNat })
    else s)

/-- RX_TAIL: receive descriptors up to the tail are free (R444). -/
def execRxTail (ch : Nat) (idx : U32) (s : State) : Host.Outcome State Fault Refusal :=
  .next (
    if s.hostUp && decide (ch < 4) && (s.fch ch).isOpen then
      s.setFch ch { s.fch ch with rxTail := idx.toNat }
    else s)

/-- PORT codes under which a received frame may be delivered (R390). -/
def codesOf (p : Nat) : List Nat :=
  if p < 2 then [0, p + 1] else if p < 4 then [p + 1] else if p = 5 then [5] else []

/-- The lowest enabled channel whose mask holds the frame's port, with the code it holds (R444). -/
def State.rxChannel (s : State) (p : Nat) : Option (Nat × Nat) :=
  (List.range 4).findSome? (fun ch =>
    if (s.fch ch).isOpen then
      ((codesOf p).find? (fun c => (s.fch ch).portMask.getLsbD c)).map (fun c => (ch, c))
    else none)

/-- A frame goes into the next free receive descriptor, or is dropped and counted (R390, R444). -/
def State.rxDeliver (s : State) (f : NetFrame) (ch code : Nat) (descs : List RxDesc) : State :=
  let c := s.fch ch
  match descs with
  | d :: _ =>
    if c.rxHead = c.rxTail then s.setFch ch { c with dropped := c.dropped + 1 }
    else
      let dup := match f.hsr with
        | some seq => s.net.dups.any (fun e => e.src == f.src && e.seq == seq && e.dup)
        | none => false
      let ts := s.stampFields (decide (f.port < 2)) (f.stamp - s.pn P.PORT_RX_DELAY_NS f.port)
      let bytes := descBytes d.addr (min d.len f.data.length) code (2 + 4 * b2n dup) d.tag.toNat ts
        (if d.len < f.data.length then 1 else 0)
      (((s.emit (.hostMem d.addr (f.data.take d.len))).emit (.desc ch false c.rxHead bytes)).setFch ch
        { c with rxHead := (c.rxHead + 1) % Config.fcEntries c.fcCfg false }).sendMsix (8 + ch)
  | [] => s.setFch ch { c with dropped := c.dropped + 1 }

/-- HOST_FRAME_RX: a frame that the packet engine does not consume, or an IEEE 1588 message while
PTP_MIRROR is 1, goes to the host (R390, R444); on a station or management port its size is checked here, and one that
the packet engine cannot take is dropped and counted (R30, R379, R380). -/
def execHostFrameRx (f : NetFrame) (descs : List RxDesc) (s : State) : Host.Outcome State Fault Refusal :=
  .next (
    let q := s.port f.port
    if !s.ready || q.mode == 0 || !q.link then s
    else if !s.netPort f.port && decide (1600 < f.len) then
      s.setPort f.port { q with oversize := q.oversize + 1 }
    else if !s.netPort f.port && !f.taken then s.setPort f.port { q with rxDropped := q.rxDropped + 1 }
    else
      let s1 := if s.netPort f.port then s else s.setPort f.port { q with rxFrames := q.rxFrames + 1 }
      if s.consumes f.ethertype && !(f.ethertype == 0x88F7 && s.pn P.PTP_MIRROR 0 == 1) then s1
      else match s.rxChannel f.port with
        | some (ch, code) => s1.rxDeliver f ch code descs
        | none => s1)

end Sys2Proof.Machine
end

