-- ==== Sys2Proof/Machine/Registers.lean ====
section
/-! DEFINITION. Writes and reads of the register window (R445, R530, R532). -/

namespace Sys2Proof.Machine

/-- The low word of a 64-bit register waits for its high word. -/
def State.latchLow (s : State) (off : Nat) (v : U32) : State :=
  { s with host.lowLatch := tset s.host.lowLatch off v }

/-- A 64-bit register's value once its high word is written: the low word latched, or the register's own. -/
def State.joined (s : State) (lowOff : Nat) (hi : U32) (old : U64) : U64 :=
  hi.setWidth 64 <<< 32 ||| (tgetD s.host.lowLatch lowOff (old.setWidth 32)).setWidth 64

/-- Q_CFG: the sizes, unless the pair is enabled; then ENABLE (R418, R445). -/
def State.writeQCfg (s : State) (n : Nat) (v : U32) : State :=
  let q := s.queue n
  if q.enable then (if v.getLsbD 16 then s else s.disableQueue n)
  else
    let s1 := s.setQueue n { q with sqSize := v.toNat % 16, cqSize := v.toNat / 16 % 16 }
    if v.getLsbD 16 then s1.enableQueue n else s1

/-- Configuration registers of queue pair `n`, at offset `k` of its block (R445). -/
def State.writeQueueReg (s : State) (n k : Nat) (v : U32) : State :=
  let q := s.queue n
  let lo := 0x0100 + 32 * n + k - 4
  match k with
  | 0 => s.latchLow (0x0100 + 32 * n + k) v
  | 4 => s.setQueue n { q with sqBase := s.joined lo v q.sqBase }
  | 8 => s.latchLow (0x0100 + 32 * n + k) v
  | 12 => s.setQueue n { q with cqBase := s.joined lo v q.cqBase }
  | 16 => s.latchLow (0x0100 + 32 * n + k) v
  | 20 => s.setQueue n { q with cqResBase := s.joined lo v q.cqResBase }
  | 24 => s.writeQCfg n v
  | _ => s

/-- Registers of frame channel `c`, at offset `k` of its block (R445; log entry 30). -/
def State.writeFrameReg (s : State) (c k : Nat) (v : U32) : State :=
  let f := s.fch c
  let lo := 0x2000 + 64 * c + k - 4
  match k with
  | 0 => s.latchLow (0x2000 + 64 * c + k) v
  | 4 => s.setFch c { f with txBase := s.joined lo v f.txBase }
  | 8 => s.latchLow (0x2000 + 64 * c + k) v
  | 12 => s.setFch c { f with rxBase := s.joined lo v f.rxBase }
  | 16 => s.setFch c { f with fcCfg := v }
  | 20 => if f.isOpen then s.setFch c { f with txTail := v.toNat } else s
  | 24 => if f.isOpen then s.setFch c { f with rxTail := v.toNat } else s
  | _ => s

/-- A word of the MSI-X table; unmasking a vector sends it when it is pending (R416, R445; log entry 31). -/
def State.writeMsix (s : State) (i : Nat) (v : U32) : State :=
  let s1 := { s with host.msix := tset s.host.msix i v }
  let n := i / 4
  if i % 4 == 3 && !v.getLsbD 0 && s1.host.msixPend.getLsbD n then
    ({ s1 with host.msixPend := s1.host.msixPend &&& ~~~(1#32 <<< n) } : State).emit (.msix n)
  else s1

/-- Write-one-to-clear of CAL_STATUS (R532). -/
def State.clearCalStatus (s : State) (v : U32) : State :=
  { s with
    drip.freezeTimeout := s.drip.freezeTimeout && !v.getLsbD 2
    drip.writeRejected := s.drip.writeRejected && !v.getLsbD 3
    drip.writeLocked := s.drip.writeLocked && !v.getLsbD 12
    drip.almFired := s.drip.almFired &&& ~~~(BitVec.ofNat 4 (v.toNat / 65536)) }

/-- CAL_CTRL: bit 0 commits, bit 1 discards (R532). -/
def State.writeCalCtrl (s : State) (v : U32) : State :=
  let s1 := if v.getLsbD 0 then s.calCommit else s
  if v.getLsbD 1 then s1.calDiscard else s1

/-- An aligned write of the register window; offsets outside the map and read-only registers ignore it. -/
def State.writeReg (s : State) (off : Nat) (v : U32) : State :=
  if 0x0100 ≤ off && off < 0x0200 then s.writeQueueReg ((off - 0x0100) / 32) ((off - 0x0100) % 32) v
  else if 0x1000 ≤ off && off < 0x1040 then
    (if off % 8 = 0 then s.ringSq ((off - 0x1000) / 8) v else s.ringCq ((off - 0x1000) / 8) v)
  else if 0x2000 ≤ off && off < 0x2100 then s.writeFrameReg ((off - 0x2000) / 64) ((off - 0x2000) % 64) v
  else if 0x4000 ≤ off && off < 0x4200 then s.writeMsix ((off - 0x4000) / 4) v
  else if 0x8000 ≤ off && off < 0x8020 then s.calWrite ((off - 0x8000) / 4) v.toNat
  else if off = 0x8020 then s.writeCalCtrl v
  else if off = 0x8024 then s.clearCalStatus v
  else if off = 0x8100 then { s with drip.fwFallback := s.drip.fwFallback && !v.getLsbD 9 }
  else s

/-- REGISTER_WRITE (R445). -/
def execRegisterWrite (off : Nat) (val : U32) (s : State) : Host.Outcome State Fault Refusal :=
  .next (if s.hostUp && off % 4 == 0 then s.writeReg off val else s)

/-! ### Reads (R445, R530, R532, R533) -/

/-- PART of DEV_ID. -/
def partOf : Variant → Nat
  | .q8260 => 0x8260
  | .q8230 => 0x8230
  | .q8200 => 0x8200

/-- DEV_ID: part, stepping, major firmware version. -/
def State.devId (s : State) : Nat :=
  partOf s.ident.variant + 65536 * (s.ident.stepping % 256) + 16777216 * (s.ident.fw.toNat / 16777216)

/-- Q_CFG of a pair. -/
def qCfgWord (q : QPair) : Nat := q.sqSize + 16 * q.cqSize + 65536 * b2n q.enable

/-- ROLE of Q_STATUS. -/
def bindCode (b : Option Binding) : Nat := match b with | some x => Role.code x.role | none => 0

/-- Q_STATUS of a pair. -/
def qStatusWord (q : QPair) : Nat := q.lost.toNat + 65536 * b2n q.enabled + 131072 * bindCode q.bind

/-- DRIP_STATUS (R530). -/
def State.dripStatus (s : State) : Nat :=
  let d := s.drip
  b2n d.vbulkOk + 2 * b2n d.vaonOk + 4 * d.vfldOk.toNat + 64 * d.wakeState.toNat + 256 * b2n d.onVaon +
    512 * b2n d.fwFallback + 65536 * min d.evtLost 255

/-- RESET_CAUSE (R530). -/
def State.resetCause (s : State) : Nat :=
  s.drip.causeBits.toNat + 32 * (s.drip.wakeSrc % 8) + 256 * (s.drip.bootFault % 16)

/-- A 64-bit register, read low word first: the high word comes from the latch of the low word's read. -/
def State.halfWord (s : State) (off : Nat) (low : Bool) (v : U64) : U32 :=
  if low then v.setWidth 32 else tgetD s.host.hiLatch (off - 4) 0#32

/-- The word of queue pair `n` at offset `k` of its block. -/
def State.queueWord (s : State) (off n k : Nat) : U32 :=
  let q := s.queue n
  match k with
  | 0 => s.halfWord off true q.sqBase
  | 4 => s.halfWord off false q.sqBase
  | 8 => s.halfWord off true q.cqBase
  | 12 => s.halfWord off false q.cqBase
  | 16 => s.halfWord off true q.cqResBase
  | 20 => s.halfWord off false q.cqResBase
  | 24 => BitVec.ofNat 32 (qCfgWord q)
  | 28 => BitVec.ofNat 32 (qStatusWord q)
  | _ => 0#32

/-- The word of frame channel `c` at offset `k` of its block (log entry 30). -/
def State.frameWord (s : State) (off c k : Nat) : U32 :=
  let f := s.fch c
  match k with
  | 0 => s.halfWord off true f.txBase
  | 4 => s.halfWord off false f.txBase
  | 8 => s.halfWord off true f.rxBase
  | 12 => s.halfWord off false f.rxBase
  | 16 => f.fcCfg
  | 20 => BitVec.ofNat 32 f.txTail
  | 24 => BitVec.ofNat 32 f.rxTail
  | 28 => f.dropped
  | _ => 0#32

/-- What an aligned read returns; write-only registers and offsets outside the map read 0. -/
def State.regWord (s : State) (off : Nat) : U32 :=
  if off = 0 then BitVec.ofNat 32 s.devId
  else if off = 4 then s.ident.fw
  else if off = 8 then s.devStatusReg
  else if 0x0100 ≤ off && off < 0x0200 then s.queueWord off ((off - 0x0100) / 32) ((off - 0x0100) % 32)
  else if 0x2000 ≤ off && off < 0x2100 then s.frameWord off ((off - 0x2000) / 64) ((off - 0x2000) % 64)
  else if 0x4000 ≤ off && off < 0x4200 then tgetD s.host.msix ((off - 0x4000) / 4) 0#32
  else if off = 0x4800 then s.host.msixPend
  else if off = 0x8024 then BitVec.ofNat 32 s.calStatus
  else if off = 0x8100 then BitVec.ofNat 32 s.dripStatus
  else if off = 0x8104 then BitVec.ofNat 32 s.resetCause
  else 0#32

/-- The high word that the read of a low word latches. -/
def State.highWord (s : State) (off : Nat) : Option U32 :=
  let hi := fun (v : U64) => some ((v >>> 32).setWidth 32)
  if 0x0100 ≤ off && off < 0x0200 then
    (let q := s.queue ((off - 0x0100) / 32)
     match (off - 0x0100) % 32 with
     | 0 => hi q.sqBase
     | 8 => hi q.cqBase
     | 16 => hi q.cqResBase
     | _ => none)
  else if 0x2000 ≤ off && off < 0x2100 then
    (let f := s.fch ((off - 0x2000) / 64)
     match (off - 0x2000) % 64 with
     | 0 => hi f.txBase
     | 8 => hi f.rxBase
     | _ => none)
  else none

/-- A read of a register without behaviour of its own. -/
def State.readReg (s : State) (off : Nat) : State :=
  (match s.highWord off with
   | some v => ({ s with host.hiLatch := tset s.host.hiLatch off v } : State)
   | none => s).emit (.readData off (s.regWord off))

/-- CAL_REG_READ: a read of the register window, whose calendar time registers freeze and release the shadows (R445,
R530, R532, R533). -/
def execCalRegRead (off : Nat) (s : State) : Host.Outcome State Fault Refusal :=
  .next (
    if !s.hostUp || off % 4 != 0 then s
    else if 0x8000 ≤ off && off < 0x8020 then s.calRead ((off - 0x8000) / 4)
    else s.readReg off)

end Sys2Proof.Machine
end

