-- ==== Sys2Proof/Machine/Flags.lean ====
section
/-! DEFINITION. Status words: the STATUS of a point (R288), its DIAG code, and the encoding of ages
(R287). -/

namespace Sys2Proof.Machine

/-- INVALID (R288). -/
abbrev stInvalid : BitVec 16 := 0x1#16
/-- STALE. -/
abbrev stStale : BitVec 16 := 0x2#16
/-- OUT_OF_RANGE. -/
abbrev stRange : BitVec 16 := 0x4#16
/-- STATION_LOST. -/
abbrev stLost : BitVec 16 := 0x8#16
/-- RETURNING. -/
abbrev stReturning : BitVec 16 := 0x10#16
/-- INITIAL. -/
abbrev stInitial : BitVec 16 := 0x20#16
/-- ISLAND_TIME. -/
abbrev stIsland : BitVec 16 := 0x40#16
/-- OUTPUT_UNCONFIRMED. -/
abbrev stUnconfirmed : BitVec 16 := 0x80#16
/-- OUTPUT_NOT_APPLIED. -/
abbrev stNotApplied : BitVec 16 := 0x100#16
/-- WARN. -/
abbrev stWarn : BitVec 16 := 0x200#16
/-- The bits that a check looks at (R288). -/
abbrev stCheck : BitVec 16 := 0x2F#16

/-- A mask where a condition holds. -/
def stIf (c : Bool) (m : BitVec 16) : BitVec 16 := if c then m else 0#16

/-- DIAG in bits 15:12. -/
def stDiag (d : Nat) : BitVec 16 := BitVec.ofNat 16 (d % 16 * 4096)

/-- The status of conditions listed in the order of their table: the bits of every present one, and the DIAG
of the first (R320, R374). -/
def condStatus (cs : List (Nat × Bool × BitVec 16)) : BitVec 16 :=
  (cs.foldl (fun a c => a ||| stIf c.2.1 c.2.2) 0#16) |||
    (match cs.find? (fun c => c.2.1) with
     | some c => stDiag c.1
     | none => 0#16)

/-- The DIAG code of conditions. -/
def condDiag (cs : List (Nat × Bool × BitVec 16)) : Nat :=
  match cs.find? (fun c => c.2.1) with
  | some c => c.1
  | none => 0

/-- The island mark of the present epoch. -/
def State.islandBit (s : State) : BitVec 16 := stIf s.time.island stIsland

/-- Bit 16#002F-masked status is clear (R288). -/
def statusOk (st : BitVec 16) : Bool := st &&& stCheck == 0#16

/-- An age in milliseconds, encoded in two scales, rounded down (R287). -/
def encAge (ms : Nat) : Nat :=
  if ms ≤ 32767 then ms else min 0xFFFF (0x8000 + (ms - 32768) / 100)

/-- The decoded age in milliseconds (R287). -/
def decAge (a : Nat) : Nat := if a < 0x8000 then a else 32768 + 100 * (a - 0x8000)

/-- Age of a point at epoch `t` in units of 1/8 ms (R287). -/
def ageAt (p : Point) (t : Nat) : Nat := 8 * decAge p.age + (t - p.epoch)

/-- A point passes its checks at epoch `t` within an age limit in milliseconds (R288). -/
def passes (p : Point) (t limitMs : Nat) : Bool := statusOk p.status && decide (ageAt p t ≤ 8 * limitMs)

/-- A value lies outside its limits (R292, R320). -/
def outside (v lo hi : F32) : Bool := !(F32.le lo v && F32.le v hi)

end Sys2Proof.Machine
end

