-- ==== Sys2Proof/Machine/FieldOps.lean ====
section
/-! DEFINITION. Operations on the field I/O die: driving outputs, latching inputs, the status of local
points (chapter "Field inputs and outputs"). -/

namespace Sys2Proof.Machine

/-! ### Access -/

/-- A channel. -/
def State.fio1 (s : State) (c : Nat) : FioCh := tgetD s.fio.chans c {}

/-- The state with a channel changed. -/
def State.setFio (s : State) (c : Nat) (v : FioCh) : State := { s with fio.chans := tset s.fio.chans c v }

/-- A supply group, 0 to 3 for VFLD1 to VFLD4. -/
def State.grp1 (s : State) (g : Nat) : FioGrp := tgetD s.fio.groups g {}

/-- The state with a group changed. -/
def State.setGrp (s : State) (g : Nat) (v : FioGrp) : State := { s with fio.groups := tset s.fio.groups g v }

/-- An analog input. -/
def State.ain1 (s : State) (i : Nat) : AinCh := tgetD s.fio.ains i {}

/-- The state with an analog input changed. -/
def State.setAin (s : State) (i : Nat) (v : AinCh) : State := { s with fio.ains := tset s.fio.ains i v }

/-- An analog output. -/
def State.aout1 (s : State) (a : Nat) : AoutCh := tgetD s.fio.aouts a {}

/-- The state with an analog output changed. -/
def State.setAout (s : State) (a : Nat) (v : AoutCh) : State := { s with fio.aouts := tset s.fio.aouts a v }

/-- Group of a channel (R316). -/
def grpOfCh (c : Nat) : Nat := c / 8

/-- Group of an analog output (R316). -/
def grpOfAout (a : Nat) : Nat := a / 2

/-- An output mode of a channel (R317). -/
def isOutMode (m : Nat) : Bool := m == 3 || m == 5

/-- An input mode of a channel (R317). -/
def isInMode (m : Nat) : Bool := m == 1 || m == 2 || m == 4

/-- CD6 cycles of a tick (R26). -/
abbrev cd6PerTick : Nat := 2000

/-- CD6 cycles of a millisecond. -/
abbrev cd6PerMs : Nat := 16000

/-- The present tick edge in CD6 cycles. -/
def State.nowCd6 (s : State) : Nat := s.epoch * cd6PerTick

/-! ### Driving outputs -/

/-- The die link delivers the unit's commands (R343). -/
def State.dieLinked (s : State) : Bool := s.fio.linkUp && s.fio.linkMiss == 0

/-- The unit may drive field outputs: the die is released and configured, the link works, the claim is not
rejected, and the unit is active (R342, R343, R483, R524). -/
def State.mayDrive (s : State) : Bool :=
  s.rst.dieReleased && s.rst.outCfgDone && s.fio.linkUp && !s.fio.claimRejected && s.isActive

/-- The group is in cut-off or awaits recovery (R333). -/
def grpCut (g : FioGrp) : Bool := g.state != 0 || g.recoverDue

/-- The switch of a channel: its mode, its owner's newest value, its group, its latches; one whose latch was cleared
resumes at the next tick (R325, R327, R333). -/
def State.wantOn (s : State) (c : Nat) : Bool :=
  let x := s.fio1 c
  s.mayDrive && !grpCut (s.grp1 (grpOfCh c)) && x.latch == 0#3 && !x.clearDue && x.hasValue &&
  (if x.mode = 3 then F32.le ⟨0x3F000000#32⟩ x.owned
   else if x.mode = 5 then F32.lt F32.zero x.duty else false)

/-- A channel follows its commands; a switching output starts its test counters again (R329). -/
def State.driveCh (s : State) (c : Nat) : State :=
  let x := s.fio1 c
  let on := s.wantOn c
  if on = x.driven then s
  else s.setFio c { x with driven := on, cntShort := 0, cntOpen := 0, cntGood := 0, cntClear := 0 }

/-- Limits of an analog output's range (R339). -/
def aoutHi (range : Nat) : F32 := if range = 1 then ⟨0x41200000#32⟩ else ⟨0x41B00000#32⟩

/-- What an analog output delivers: its owner's newest value, clamped, or 0 (R339, R340). -/
def State.wantAout (s : State) (a : Nat) : F32 :=
  let x := s.aout1 a
  if s.mayDrive && !grpCut (s.grp1 (grpOfAout a)) && !x.overload && x.hasValue && x.range != 0 then
    F32.clamp F32.zero x.owned (aoutHi x.range)
  else F32.zero

/-- An analog output follows its command. -/
def State.driveAout (s : State) (a : Nat) : State :=
  s.setAout a { s.aout1 a with driven := s.wantAout a }

/-- Every output of the die follows its command. -/
def State.driveAll (s : State) : State :=
  (List.range 8).foldl (fun a k => if (a.aout1 k).range = 0 then a else a.driveAout k)
    ((List.range 32).foldl (fun a c => if isOutMode (a.fio1 c).mode then a.driveCh c else a) s)

/-- Every output of the die is switched off (R343, R520). -/
def State.fieldOff (s : State) : State :=
  { s with
    fio.chans := tmap s.fio.chans (fun _ x => { x with driven := false, duty := F32.zero, hasValue := false })
    fio.aouts := tmap s.fio.aouts (fun _ x => { x with driven := F32.zero, hasValue := false }) }

/-! ### Status of local points (R320) -/

/-- The partner's drive masks the tests of a shared-wired channel (R331). -/
def State.sharedMasked (s : State) (c : Nat) : Bool :=
  s.pn P.FIO_SHARED c == 1 && (s.fio1 c).mode == 3 &&
  (s.pair.partner == some .active || s.fio.maskUntil != 0)

/-- Conditions of an output channel, in the order of R320. -/
def State.chOutConds (s : State) (c : Nat) : List (Nat × Bool × BitVec 16) :=
  let x := s.fio1 c
  let g := s.grp1 (grpOfCh c)
  [(13, !s.dieLinked, stNotApplied), (12, s.fio.claimRejected, stNotApplied), (7, grpCut g, stNotApplied),
   (5, x.latch.getLsbD 2, stNotApplied), (4, x.latch.getLsbD 1, stNotApplied),
   (3, x.latch.getLsbD 0, stNotApplied), (2, x.short, stWarn), (1, x.openLoad, stWarn), (6, g.warn, stWarn),
   (11, s.sharedMasked c, 0#16), (0, !x.hasValue || !s.mayDrive, stNotApplied)]

/-- The inputs of the channel's group are not yet valid for it (R334). -/
def State.chInvalid (s : State) (c : Nat) : Bool :=
  !(s.grp1 (grpOfCh c)).inputsValid || decide ((s.fio1 c).runUs < s.pn P.FIO_FILTER_US c)

/-- Conditions of a digital or pulse input. -/
def State.chInConds (s : State) (c : Nat) (noPulse : Bool) : List (Nat × Bool × BitVec 16) :=
  [(13, !s.dieLinked, stStale), (8, s.chInvalid c, stInvalid), (14, noPulse, stStale),
   (6, (s.grp1 (grpOfCh c)).warn, stWarn)]

/-- Conditions of a quantity that a group measures. -/
def State.grpConds (s : State) (g : Nat) : List (Nat × Bool × BitVec 16) :=
  [(13, !s.dieLinked, stStale), (6, (s.grp1 g).warn, stWarn)]

/-- Conditions of an analog input (R337, R183). -/
def State.ainConds (s : State) (i : Nat) : List (Nat × Bool × BitVec 16) :=
  let x := s.ain1 i
  [(13, !s.dieLinked, stStale), (10, x.clipped || x.shuntOpen, stRange),
   (9, s.afe.calFault.getLsbD i, stWarn)]

/-- Conditions of an analog output. -/
def State.aoutConds (s : State) (a : Nat) : List (Nat × Bool × BitVec 16) :=
  let x := s.aout1 a
  let g := s.grp1 (grpOfAout a)
  [(13, !s.dieLinked, stNotApplied), (12, s.fio.claimRejected, stNotApplied), (7, grpCut g, stNotApplied),
   (3, x.overload, stNotApplied), (1, x.openLoad, stWarn), (6, g.warn, stWarn),
   (0, !x.hasValue || !s.mayDrive, stNotApplied)]

/-- STATUS of an output point under conditions: one without a first value has none withheld, and stays INITIAL (R288,
R320). -/
def outStatus (p : Point) (cs : List (Nat × Bool × BitVec 16)) : BitVec 16 :=
  condStatus (if p.status.getLsbD 5 then cs.filter (fun x => x.1 != 0) else cs) ||| (p.status &&& (stIsland ||| stInitial))

/-! ### Latching (R319) -/

/-- A record of a local input latched at this tick. -/
def State.latched (s : State) (v : F32) (st : BitVec 16) (ageMs : Nat) : Point :=
  { value := v, status := st ||| s.islandBit, age := encAge ageMs, epoch := s.epoch }

/-- A record that keeps the value and epoch of the last valid latch (R40, R334, R343). -/
def State.kept (s : State) (p : Nat) (st : BitVec 16) : State :=
  let old := s.pt p
  s.setPt p { old with status := st ||| (old.status &&& (stIsland ||| stInitial)) }

/-- A point that the configuration leaves unused (R318). -/
def State.unused (s : State) (p : Nat) : State := { s with pts := tdel s.pts p }

/-- Rising edges within the window before the latch, newest first (R324). -/
def freqEdges (edges : List Nat) (now window : Nat) : List Nat :=
  edges.filter (fun t => decide (now ≤ t + window) && decide (t ≤ now))

/-- Edges over a span of CD6 cycles, in Hz (R324). -/
def freqOf (n span : Nat) : F32 := F32.ofRatio (n * 16000000) span

/-- Frequency at a latch (R324): none where a single edge leaves it open. -/
def freqAt (edges : List Nat) (now window : Nat) : Option F32 :=
  let w := freqEdges edges now window
  match w with
  | a :: b :: r => some (freqOf (r.length + 1) (a - (b :: r).getLastD b))
  | _ => match edges with
    | a :: b :: _ => some (freqOf 1 (a - b))
    | _ => none

/-- No edge within NO_PULSE_MS (R324). -/
def State.noPulse (s : State) (c : Nat) : Bool :=
  match (s.fio1 c).edges with
  | [] => true
  | t :: _ => decide (t + s.pn P.NO_PULSE_MS c * cd6PerMs ≤ s.nowCd6)

/-- Latch of the primary point of a digital input (R319, R334). -/
def State.latchDigital (s : State) (c : Nat) : State :=
  let st := condStatus (s.chInConds c false)
  if s.chInvalid c || !s.dieLinked then s.kept c st
  else s.setPt c (s.latched (if (s.fio1 c).state then F32.one else F32.zero) st 0)

/-- Latch of a pulse input: frequency and count (R319, R323, R324); a frequency that the edges leave open
is a free value (log entry 34). A frequency above 20 kHz is not taken: the point is STALE and its age counts on (R39,
R40). -/
def State.latchPulse (s : State) (c : Nat) : State :=
  let x := s.fio1 c
  let np := s.noPulse c
  let st := condStatus (s.chInConds c np)
  let stc := condStatus (s.chInConds c false)
  if s.chInvalid c || !s.dieLinked then (s.kept c st).kept (32 + c) stc
  else
    let age := match x.edges with | t :: _ => (s.nowCd6 - t) / cd6PerMs | [] => 0
    let cnt := s.latched (F32.ofNat x.count) stc age
    if np then (s.setPt c (s.latched F32.zero st age)).setPt (32 + c) cnt
    else match freqAt x.edges s.nowCd6 (s.pn P.FREQ_WINDOW_MS c * cd6PerMs) with
      | some f =>
        if F32.lt ⟨0x469C4000#32⟩ f then (s.kept c (st ||| stStale)).setPt (32 + c) cnt
        else (s.setPt c (s.latched f st age)).setPt (32 + c) cnt
      | none => ((s.setPt c (s.latched ⟨s.freshWord⟩ st age)).setPt (32 + c) cnt).took

/-- The status of an output channel's point, and its load current (R318, R320). -/
def State.latchOutput (s : State) (c : Nat) : State :=
  let x := s.fio1 c
  let s1 := s.setPt c { s.pt c with status := outStatus (s.pt c) (s.chOutConds c) }
  let stc := condStatus (s.grpConds (grpOfCh c))
  if s.dieLinked then s1.setPt (32 + c) (s.latched x.currentA stc 0) else s1.kept (32 + c) stc

/-- Latch of channel `c`'s two points. -/
def State.latchCh (s : State) (c : Nat) : State :=
  let m := (s.fio1 c).mode
  if m = 1 || m = 2 then (s.latchDigital c).unused (32 + c)
  else if m = 4 then s.latchPulse c
  else if isOutMode m then s.latchOutput c
  else (s.unused c).unused (32 + c)

/-- Half a data slot and the 20 µs until its value is available, in CD6 cycles (R181, R184). -/
def State.slotLag (s : State) : Nat := (if s.afe.uniform then 2000 else 1875) + 320

/-- The samples that are available at the latch, newest first (R181, R185). -/
def State.ainReady (s : State) (i : Nat) : List (Nat × F32) :=
  (s.ain1 i).samples.filter (fun x => decide (x.1 + s.slotLag ≤ s.nowCd6))

/-- Exact mean of numbers. -/
def meanOf (l : List F32) : F32 :=
  F32.ofRat ((l.foldl (fun a x => a + x.rat) (0 : Rat)) / ((l.length : Nat) : Rat))

/-- Latch of an analog input: the mean of the newest AIN_AVG_N samples, the age of the newest (R185, R337). -/
def State.latchAin (s : State) (i : Nat) : State :=
  let p := 64 + i
  let st := condStatus (s.ainConds i)
  if (s.ain1 i).range = 0 then s.unused p
  else match s.ainReady i with
    | [] => s
    | x :: r =>
      if !s.dieLinked then s.kept p st
      else
        let v := meanOf (((x :: r).take (s.pn P.AIN_AVG_N i)).map (·.2))
        let age := (s.nowCd6 - x.1) / cd6PerMs
        let st1 := st ||| stIf (outside v (s.pf P.AIN_LO i) (s.pf P.AIN_HI i)) stRange |||
          stIf (decide (x.1 + s.pn P.AIN_AGE_MAX_MS i * cd6PerMs < s.nowCd6)) stStale
        s.setPt p (s.latched v st1 age)

/-- The status of an analog output's point (R320, R339). -/
def State.latchAout (s : State) (a : Nat) : State :=
  let p := 80 + a
  if (s.aout1 a).range = 0 then s.unused p
  else s.setPt p { s.pt p with
    status := outStatus (s.pt p) (s.aoutConds a) ||| stIf (s.aout1 a).oor stRange }

/-- Latch of a group's measured supply and current (R318). -/
def State.latchGrp (s : State) (g : Nat) : State :=
  let st := condStatus (s.grpConds g)
  if s.dieLinked then
    (s.setPt (88 + g) (s.latched (s.grp1 g).vfld st 0)).setPt (92 + g) (s.latched (s.grp1 g).currentA st 0)
  else (s.kept (88 + g) st).kept (92 + g) st

/-- Latching of the local block, order 6 of a tick boundary (R20, R319). -/
def State.latchLocal (s : State) : State :=
  if !s.fitted || !s.rst.dieReleased then s
  else
    let s1 := (List.range 32).foldl (fun a c => a.latchCh c) s
    let s2 := (List.range 16).foldl (fun a i => a.latchAin i) s1
    let s3 := (List.range 8).foldl (fun a i => a.latchAout i) s2
    (List.range 4).foldl (fun a g => a.latchGrp g) s3

/-! ### Applying a value to a local output (R253, R319) -/

/-- The die takes a value for channel `c` with its apply epoch (R319, R325, R326, R346). -/
def State.applyCh (s : State) (c : Nat) (v : F32) (a : Nat) : State :=
  let x := s.fio1 c
  if isOutMode x.mode then
    let rec' := if x.mode = 3 then (if F32.le ⟨0x3F000000#32⟩ v then F32.one else F32.zero)
      else F32.clamp F32.zero v ⟨0x42C80000#32⟩
    let s1 := (s.setFio c { x with owned := v, hasValue := true,
                                   dutyNext := F32.clamp F32.zero v ⟨0x42C80000#32⟩ }).driveCh c
    s1.setPt c { value := rec', status := condStatus (s1.chOutConds c) ||| s.islandBit, epoch := a }
  else if (match x.modeNext with | some m => isOutMode m | none => false) then
    s.setPt c { value := v, status := stNotApplied ||| s.islandBit, epoch := a }
  else s

/-- The die takes a value for analog output `k` (R339). -/
def State.applyAout (s : State) (k : Nat) (v : F32) (a : Nat) : State :=
  let x := s.aout1 k
  if x.range != 0 then
    let s1 := (s.setAout k { x with owned := v, hasValue := true,
                                    oor := outside v F32.zero (aoutHi x.range) }).driveAout k
    let st := condStatus (s1.aoutConds k) ||| stIf (s1.aout1 k).oor stRange ||| s.islandBit
    s1.setPt (80 + k) { value := v, status := st, epoch := a }
  else if x.rangeNext.isSome && x.rangeNext != some 0 then
    s.setPt (80 + k) { value := v, status := stNotApplied ||| s.islandBit, epoch := a }
  else s

/-- A value takes effect at a local output point (R319). -/
def State.applyLocal (s : State) (p : Nat) (v : F32) (a : Nat) : State :=
  if !s.fitted then s
  else if p < 32 then s.applyCh p v a
  else if 80 ≤ p && p < 88 then s.applyAout (p - 80) v a
  else s

/-! ### Modes (R346) -/

/-- A committed mode: the channel is off now, the mode starts at the next tick. -/
def State.queueMode (s : State) (c m : Nat) : State :=
  let x := s.fio1 c
  s.setFio c { x with mode := 0, modeNext := some m, driven := false, duty := F32.zero, hasValue := false }

/-- A committed analog output range. -/
def State.queueRange (s : State) (a m : Nat) : State :=
  s.setAout a { s.aout1 a with range := 0, rangeNext := some m, driven := F32.zero, hasValue := false }

/-- Modes that are due start: filters and latches at 0, points INITIAL. -/
def State.startModes (s : State) : State :=
  let s1 := (List.range 32).foldl (fun a c => match (a.fio1 c).modeNext with
    | some m => (a.setFio c { (a.fio1 c) with
        mode := m, modeNext := none, k := 0, state := false, latch := 0#3, count := 0, edges := [],
        dutyNext := F32.zero, duty := F32.zero, openLoad := false, short := false, cntShort := 0,
        cntOpen := 0, cntGood := 0, cntClear := 0, clearDue := false, pwmHz := a.pn P.PWM_FREQ_HZ c,
        runUs := if (a.grp1 (grpOfCh c)).inputsValid then 100000 else 0 }).unused c |>.unused (32 + c)
    | none => a) s
  (List.range 8).foldl (fun a k => match (a.aout1 k).rangeNext with
    | some m => (a.setAout k { (a.aout1 k) with
        range := m, rangeNext := none, overload := false, openLoad := false, oor := false }).unused (80 + k)
    | none => a) s1

/-- The first committed output configuration, at the first tick after the epoch clock starts (R524). -/
def State.firstOutCfg (s : State) : State :=
  if s.rst.outCfgDone then s
  else if !s.fitted then { s with rst.outCfgDone := true }
  else if !s.rst.dieReleased then s
  else
    let s1 := (List.range 32).foldl (fun a c =>
      if a.pn P.FIO_MODE c = 0 then a else a.queueMode c (a.pn P.FIO_MODE c)) s
    let s2 := (List.range 8).foldl (fun a k =>
      if a.pn P.AOUT_RANGE k = 0 then a else a.queueRange k (a.pn P.AOUT_RANGE k)) s1
    { s2 with rst.outCfgDone := true }

/-- The filters of a set of channels run from 0 (R334, R343). -/
def State.restartFilters (s : State) (f : Nat → Bool) : State :=
  { s with fio.chans := tmap s.fio.chans (fun c x =>
      if f c && isInMode x.mode then { x with k := 0, state := false, runUs := 0 } else x) }

/-! ### The die at a tick -/

/-- Groups that have recovered and outputs whose latch was cleared resume at the tick edge (R327, R333). -/
def State.resumeGroups (s : State) : State :=
  { s with
    fio.groups := tmap s.fio.groups (fun _ g => { g with recoverDue := false })
    fio.chans := tmap s.fio.chans (fun _ x => { x with clearDue := false }) }

/-- The frame of the tick and its confirmation (R343). -/
def State.dieFrame (s : State) (ok : Bool) : State :=
  if ok then { s with fio.linkMiss := 0, fio.linkGood := s.fio.linkGood + 1 }
  else { s with fio.linkMiss := s.fio.linkMiss + 1, fio.linkGood := 0 }

/-- The die's highest claim, and whether it rejects the unit (R342). -/
def State.dieClaim (s : State) : State :=
  let own := if s.isActive then s.pair.claim else 0
  let hi := max s.fio.highestClaim (max own s.pair.partnerClaim)
  { s with
    fio.highestClaim := hi
    fio.claimRejected := s.isActive && decide (s.pair.claim < hi) }

/-- Measured supplies and currents of the tick. -/
def State.dieMeasure (s : State) (obs : TickIn) : State :=
  let s1 := (List.range 32).foldl (fun a c =>
    if isOutMode (a.fio1 c).mode then a.setFio c { a.fio1 c with currentA := obs.amps.getD c F32.zero } else a) s
  (List.range 4).foldl (fun a g =>
    let v := obs.vfld.getD g F32.zero
    let sum := F32.ofRat (((List.range 8).map (fun k =>
      if isOutMode (a.fio1 (8 * g + k)).mode then (obs.amps.getD (8 * g + k) F32.zero).rat else 0)).sum)
    a.setGrp g { a.grp1 g with
      vfld := v, measured := true, currentA := sum
      vfldMin := if (a.grp1 g).measured then F32.min (a.grp1 g).vfldMin v else v }) s1

/-- The die at a tick boundary: recovered groups resume, the frame runs, claims are compared, outputs follow,
quantities are measured. -/
def State.fieldTick (s : State) (obs : TickIn) : State :=
  if !s.fitted || !s.rst.dieReleased then s
  else ((((s.resumeGroups).dieFrame obs.linkOk).dieClaim).dieMeasure obs).driveAll

end Sys2Proof.Machine
end

