-- ==== Sys2Proof/Machine/CanOps.lean ====
section
/-! DEFINITION. Operations on the CAN channels: buffers and signals, queuing, the status of CAN points, and
the application of a value to an output point of any kind (chapter "CAN channels"). -/

namespace Sys2Proof.Machine

/-! ### Access -/

/-- A channel. -/
def State.canCh (s : State) (c : Nat) : CanCh := tgetD s.can.chans c {}

/-- The state with a channel changed. -/
def State.setCanCh (s : State) (c : Nat) (v : CanCh) : State := { s with can.chans := tset s.can.chans c v }

/-- A buffer's state. -/
def State.canBuf (s : State) (c b : Nat) : CanBuf := tgetD s.can.bufs (c * 65 + b) {}

/-- The state with a buffer's state changed. -/
def State.setCanBuf (s : State) (c b : Nat) (v : CanBuf) : State :=
  { s with can.bufs := tset s.can.bufs (c * 65 + b) v }

/-- Field `k` of a CAN_BUF entry (R356): 0 DIR, 1 FORMAT, 2 TRIGGER, 3 FLAGS, 4 ID, 5 ID_MASK, 6 AF,
7 AF_MASK, 8 LENGTH, 9 SDT, 10 VCID, 11 TIMING, 12 PHASE. -/
def State.bufN (s : State) (c b k : Nat) : Nat := s.pfld P.CAN_BUF (c * 65 + b) k

/-- Frame format of a buffer: 0 CC, 1 FD, 2 XL. -/
def State.bufFmt (s : State) (c b : Nat) : Nat := s.bufN c b 1 % 4

/-- The buffer sends with an extended identifier. -/
def State.bufExt (s : State) (c b : Nat) : Bool := bitOf (s.bufN c b 1) 2

/-- The buffer is one-shot. -/
def State.bufOneShot (s : State) (c b : Nat) : Bool := bitOf (s.bufN c b 3) 0

/-- The buffer carries a claim trailer (R371). -/
def State.bufClaim (s : State) (c b : Nat) : Bool := bitOf (s.bufN c b 3) 1

/-- Bytes of the claim trailer (R371). -/
def State.trailerLen (s : State) (c b : Nat) : Nat :=
  if s.bufClaim c b then (if s.bufFmt c b = 0 then 2 else 12) else 0

/-- Configured entries of an indexed parameter: index and value. -/
def State.pEntries (s : State) (id : Nat) : List (Nat × PVal) :=
  s.par.vals.filterMap (fun x => if x.1 / 65536 = id then some (x.1 % 65536, x.2) else none)

/-- Signals of a buffer (R359). -/
def State.sigsOf (s : State) (c b : Nat) : List PVal :=
  (s.pEntries P.CAN_SIG).filterMap (fun x =>
    if x.1 / 4096 = c && x.2.getD 0 255 = b then some x.2 else none)

/-- Point of a signal. -/
def sigPoint (v : PVal) : Nat := v.getD 6 0

/-- Signals of a point, with channel and buffer. -/
def State.sigsAt (s : State) (p : Nat) : List (Nat × Nat × PVal) :=
  (s.pEntries P.CAN_SIG).filterMap (fun x =>
    if x.2.getD 0 255 ≤ 64 && sigPoint x.2 = p then some (x.1 / 4096, x.2.getD 0 255, x.2) else none)

/-- A CAN point's state. -/
def State.canPt (s : State) (p : Nat) : CanPt := tgetD s.can.pts p {}

/-- The state with a CAN point's state changed. -/
def State.setCanPt (s : State) (p : Nat) (v : CanPt) : State := { s with can.pts := tset s.can.pts p v }

/-- Set or clear a condition of a CAN point by its DIAG code. -/
def State.canDiag (s : State) (p d : Nat) (on : Bool) : State :=
  let x := s.canPt p
  s.setCanPt p { x with diag := if on then x.diag ||| (1#16 <<< d) else x.diag &&& ~~~(1#16 <<< d) }

/-! ### Bits of a frame (R359) -/

/-- Position of bit `i` of a field: upward from the start in little-endian order; in big-endian order on
from bit 7 of a byte to bit 0 of the byte before (log entry 38). -/
def sigBit (big : Bool) (start i : Nat) : Nat :=
  if big then 8 * (start / 8 - (start % 8 + i) / 8) + (start % 8 + i) % 8 else start + i

/-- The field lies within `len` bytes. -/
def sigFits (big : Bool) (start n len : Nat) : Bool :=
  if big then decide ((start % 8 + (n - 1)) / 8 ≤ start / 8) && decide (start / 8 < len)
  else decide (start + n ≤ 8 * len)

/-- Bit of a byte list. -/
def bitAt (bs : List Byte) (p : Nat) : Bool := (bs.getD (p / 8) 0#8).getLsbD (p % 8)

/-- A byte list with one bit set or cleared. -/
def putBit (bs : List Byte) (p : Nat) (v : Bool) : List Byte :=
  bs.set (p / 8) (if v then bs.getD (p / 8) 0#8 ||| (1#8 <<< (p % 8))
                  else bs.getD (p / 8) 0#8 &&& ~~~(1#8 <<< (p % 8)))

/-- The raw number of a field. -/
def sigRaw (bs : List Byte) (big : Bool) (start : Nat) : Nat → Nat
  | 0 => 0
  | n + 1 => sigRaw bs big start n + (if bitAt bs (sigBit big start n) then 2 ^ n else 0)

/-- A byte list with a raw number put into a field. -/
def putRaw (bs : List Byte) (big : Bool) (start raw : Nat) : Nat → List Byte
  | 0 => bs
  | n + 1 => putBit (putRaw bs big start raw n) (sigBit big start n) (bitOf raw n)

/-- value = raw × SCALE + OFFSET, and whether the field holds no number (R359, R361; log entry 38). -/
def sigValue (v : PVal) (raw : Nat) : F32 × Bool :=
  let n := v.getD 2 0
  if bitOf (v.getD 1 0) 2 then
    let f := fof raw
    if f.isFin then (F32.ofRat (f.rat * qof (v.getD 7 0) + qof (v.getD 8 0)), false) else (f, true)
  else
    let i : Int := if bitOf (v.getD 1 0) 1 then toSigned n raw else (raw : Int)
    (F32.ofRat ((i : Rat) * qof (v.getD 7 0) + qof (v.getD 8 0)), false)

/-- raw = round((value − OFFSET) / SCALE), saturated, and whether it saturated (R362). -/
def sigEncode (v : PVal) (x : F32) : Nat × Bool :=
  let n := v.getD 2 0
  let q : Rat := (x.rat - qof (v.getD 8 0)) / qof (v.getD 7 0)
  if bitOf (v.getD 1 0) 2 then ((F32.ofRat q).bits.toNat, false)
  else
    let m := rneDiv q.num.natAbs q.den
    let i : Int := if q < 0 then -(m : Int) else (m : Int)
    let lo : Int := if bitOf (v.getD 1 0) 1 then -(2 ^ (n - 1) : Nat) else 0
    let hi : Int := if bitOf (v.getD 1 0) 1 then ((2 ^ (n - 1) : Nat) : Int) - 1 else ((2 ^ n : Nat) : Int) - 1
    let c := max lo (min hi i)
    ((c % (2 ^ n : Nat)).toNat, c != i)

/-! ### Channel state -/

/-- The channel takes part in transmission: error active or error passive, integrated (R353, R354). -/
def canSends (x : CanCh) : Bool := (x.state == 1 || x.state == 2) && !x.integrating

/-- The channel receives (R353). -/
def canHears (x : CanCh) : Bool := (x.state == 1 || x.state == 2 || x.state == 4 || x.state == 5) && !x.integrating

/-- STATE of a channel that starts in its committed mode (R353, R376). -/
def modeState (mode : Nat) : Nat := if mode = 0 then 0 else if mode = 1 then 1 else if mode = 2 then 4 else 5

/-- A channel starts in its committed mode and waits for 11 recessive bits (R354, R355); without VIO1 it stays
off the bus, with bus-off behaviour (R550). -/
def State.canStart (s : State) (c : Nat) : State :=
  let m := modeState (s.pn P.CAN_MODE c)
  s.setCanCh c { s.canCh c with
    state := if m = 0 || s.vioGood 1 then m else 3, integrating := true, txErr := 0, recErr := 0, warning := false,
    recWait := false, observing := false, holdUntil := 0 }

/-- Warning, error passive and bus-off by the counters (R369). -/
def canErrState (x : CanCh) : CanCh :=
  { x with
    warning := decide (96 ≤ x.txErr) || decide (96 ≤ x.recErr)
    state := if x.state = 1 || x.state = 2 then
        (if 255 < x.txErr then 3 else if 128 ≤ x.txErr || 128 ≤ x.recErr then 2 else 1)
      else x.state }

/-! ### Queuing (R362) -/

/-- A transmit buffer is queued; a frame that has not started carries the newest queuing (R362, R364). -/
def State.queueBuf (s : State) (c b : Nat) : State :=
  let x := s.canBuf c b
  let s1 := s.setCanBuf c b { x with
    pending := true, elapsed := 0, timeout := 8 * s.pn P.CAN_TX_TIMEOUT_MS c }
  (s.sigsOf c b).foldl (fun a v =>
    let p := sigPoint v
    let a1 := (a.canDiag p 6 false).canDiag p 10 false
    if !(a.pt p).status.getLsbD 5 then
      a1.setPt p { a1.pt p with status := (a1.pt p).status ||| stUnconfirmed } else a1) s1

/-- A host frame's handle completes with an outcome (R363, R365; log entry 39). -/
def State.canHandleEnd (s : State) (c b outcome : Nat) : State :=
  let x := s.canBuf c b
  if x.handle = 0#32 then s
  else (s.setCanBuf c b { x with handle := 0#32 }).complete x.handle St.OK outcome []

/-- The buffer's frame ends with an outcome (R365). -/
def State.canEnd (s : State) (c b outcome : Nat) (late : Bool) : State :=
  let x := s.canBuf c b
  (s.setCanBuf c b { x with
    outcome := outcome, lateCancel := late, committed := false, cancelReq := false,
    pending := x.pending && x.handle == 0#32 }).canHandleEnd c b outcome

/-- Every pending host frame of a channel ends with an outcome; with `shots`, one-shot frames too (R354, R369). -/
def State.canEndHost (s : State) (c outcome : Nat) (shots : Bool) : State :=
  (List.range 64).foldl (fun a b =>
    let x := a.canBuf c b
    let x1 := { x with pending := x.pending || x.committed, committed := false }
    if (x1.pending && (x.handle != 0#32 || (shots && a.bufOneShot c b))) then
      (a.setCanBuf c b { x1 with pending := false }).canEnd c b outcome false
    else if x.committed then a.setCanBuf c b x1 else a) s

/-- Every channel is held recessive: the unit is a standby or in reset (R355); host frames end with ABORTED. -/
def State.canHold (s : State) : State :=
  (List.range 16).foldl (fun a c =>
    (a.canEndHost c 5 false).setCanCh c { (a.canEndHost c 5 false).canCh c with
      state := 6, integrating := true, recWait := false, observing := false, holdUntil := 0 }) s

/-- Every channel starts in its committed mode (R355). -/
def State.canStartAll (s : State) : State := (List.range 16).foldl (fun a c => a.canStart c) s

/-! ### Status of CAN points (R374) -/

/-- A claimed FD or XL buffer has no usable key (R374 code 9). -/
def State.bufNoKey (s : State) (c b : Nat) : Bool :=
  s.bufClaim c b && s.bufFmt c b != 0 &&
  (s.keyFor (BitVec.ofNat 64 (s.pn P.CAN_AUTH_LABEL c)) 5).isNone

/-- A condition held for a CAN point. -/
def State.hasDiag (s : State) (p d : Nat) : Bool := (s.canPt p).diag.getLsbD d

/-- The channel warns or is error passive. -/
def State.canWarn (s : State) (c : Nat) : Bool := (s.canCh c).warning || (s.canCh c).state == 2

/-- Conditions of a CAN output point. -/
def State.canOutConds (s : State) (c b p : Nat) : List (Nat × Bool × BitVec 16) :=
  let st := (s.canCh c).state
  [(4, st == 3, stNotApplied), (5, st == 0 || st == 4 || st == 5 || st == 6, stNotApplied),
   (9, s.bufNoKey c b, stNotApplied), (6, s.hasDiag p 6, stNotApplied), (10, s.hasDiag p 10, stNotApplied),
   (7, s.hasDiag p 7, stRange), (8, s.hasDiag p 8, stWarn), (3, s.canWarn c, stWarn)]

/-- Conditions of a CAN input point. -/
def State.canInConds (s : State) (c b p : Nat) : List (Nat × Bool × BitVec 16) :=
  [(4, (s.canCh c).state == 3, stWarn), (2, s.hasDiag p 2, stInvalid),
   (1, decide (0 < s.bufN c b 11) && decide (8 * s.bufN c b 11 < ageAt (s.pt p) s.epoch), stStale),
   (3, s.canWarn c, stWarn)]

/-- The status of one CAN point; one without a first value stays INITIAL (R288, R374). -/
def State.canPtStatus (s : State) (c b p : Nat) (rx : Bool) : State :=
  let old := (s.pt p).status
  let st := if rx then condStatus (s.canInConds c b p) ||| (s.canPt p).base ||| (old &&& (stIsland ||| stInitial))
    else condStatus (s.canOutConds c b p) ||| (old &&& (stIsland ||| stInitial ||| stUnconfirmed))
  s.setPt p { s.pt p with status := st }

/-- The status of every CAN point (R374). -/
def State.canStatuses (s : State) : State :=
  (s.pEntries P.CAN_SIG).foldl (fun a x =>
    let b := x.2.getD 0 255
    let c := x.1 / 4096
    if 64 < b then a else a.canPtStatus c b (sigPoint x.2) (a.bufN c b 0 == 1 || b == 64)) s

/-! ### Decoding at a tick (R361) -/

/-- Nanoseconds of the present tick edge. -/
def State.nowNs (s : State) : Nat := s.epoch * 125000

/-- One signal of a stored frame. -/
def State.decodeSig (s : State) (f : CanFrame) (v : PVal) : State :=
  let p := sigPoint v
  let big := bitOf (v.getD 1 0) 0
  let age := encAge ((s.nowNs - f.stamp) / 1000000)
  if sigFits big (v.getD 4 0) (v.getD 2 0) (min f.len f.data.length) then
    let r := sigValue v (sigRaw f.data big (v.getD 4 0) (v.getD 2 0))
    let base := stIf r.2 stInvalid ||| stIf (!r.2 && outside r.1 (fof (v.getD 9 0)) (fof (v.getD 10 0))) stRange
    ((s.canDiag p 2 false).setPt p { value := r.1, status := base ||| s.islandBit, age := age, epoch := s.epoch }).setCanPt
      p { (s.canDiag p 2 false).canPt p with base := base }
  else
    let old := s.pt p
    let s1 := (s.canDiag p 2 true).setPt p { old with status := stInvalid ||| (old.status &&& (stIsland ||| stInitial)) }
    s1.setCanPt p { s1.canPt p with base := 0#16 }

/-- Decoding of one buffer. -/
def State.decodeBuf (s : State) (c b : Nat) : State :=
  let x := s.canBuf c b
  match x.frame with
  | some f => if x.undecoded then
      (s.sigsOf c b).foldl (fun a v => a.decodeSig f v) (s.setCanBuf c b { x with undecoded := false })
    else s
  | none => s

/-- Decoding of every buffer with a frame stored since the previous latch (R361). -/
def State.canDecode (s : State) : State :=
  (tkeys s.can.bufs).foldl (fun a k => a.decodeBuf (k / 65) (k % 65)) s

/-- Time towards CAN_TX_TIMEOUT_MS, which stands still in bus-off (R364). -/
def State.canElapse (s : State) : State :=
  { s with can.bufs := tmap s.can.bufs (fun k x =>
      if (x.pending || x.committed) && (s.canCh (k / 65)).state != 3 then { x with elapsed := x.elapsed + 1 } else x) }

/-- The CAN channels at a tick: decoding, timing, status. -/
def State.canTick (s : State) : State := (s.canDecode.canElapse).canStatuses

/-! ### The latch of a boundary (R20; log entry 60) -/

/-- What the latch of the present boundary replaces is kept. -/
def State.keepLatch (s : State) : State :=
  { s with latch := some { epoch := s.epoch, pts := s.pts, bufs := s.can.bufs, cans := s.can.pts } }

/-- The points that the latch writes as inputs: of channels in an input mode, analog inputs, and the signals of receive
buffers (R319, R361). -/
def State.latchPts (s : State) : List Nat :=
  ((List.range 32).filter (fun c => isInMode (s.fio1 c).mode)).flatMap (fun c => [c, 32 + c]) ++
  (List.range 16).map (64 + ·) ++
  (s.pEntries P.CAN_SIG).filterMap (fun x =>
    let b := x.2.getD 0 255
    if decide (b < 64) && s.bufN (x.1 / 4096) b 0 == 1 || b == 64 then some (sigPoint x.2) else none)

/-- A table with one entry as another table has it. -/
def tback {α : Type} (t u : Tab α) (k : Nat) : Tab α := match tget u k with | some v => tset t k v | none => tdel t k

/-- After a commit of the present boundary its latch is made anew with the committed values: from the records before it,
and from the frames that it decoded. -/
def State.relatch (s old : State) : State :=
  match s.latch with
  | some l =>
    if l.epoch = s.epoch then
      let ps := old.latchPts
      let s1 : State := { s with
        pts := ps.foldl (fun a p => tback a l.pts p) s.pts
        can.pts := (ps.filter (256 ≤ ·)).foldl (fun a p => tback a l.cans p) s.can.pts
        can.bufs := l.bufs }
      let s2 := s1.latchLocal.canDecode
      ({ s2 with can.bufs := s.can.bufs } : State).canStatuses
    else s
  | none => s

/-! ### Applying a value to an output point -/

/-- A value is applied to a CAN output point: its record, and the buffers queued on update (R362, R364). -/
def State.applyCan (s : State) (p : Nat) (v : F32) (a : Nat) : State :=
  (s.sigsAt p).foldl (fun t x =>
    if t.bufN x.1 x.2.1 0 = 2 then
      let t1 := t.setPt p { value := v, status := t.islandBit ||| stUnconfirmed, epoch := a }
      let t2 := if t.bufN x.1 x.2.1 2 = 1 then t1.queueBuf x.1 x.2.1 else t1
      t2.canPtStatus x.1 x.2.1 p false
    else t) s

/-- A value takes effect at an output point: the field die, or CAN; station points take theirs from frames
(R253, R299). -/
def State.applyPoint (s : State) (p : Nat) (v : F32) (a : Nat) : State :=
  if p < 256 then s.applyLocal p v a else s.applyCan p v a

/-! ### Claim reports (R490) -/

/-- A claim seen from outside: GEN_SEEN follows, and one above the own claim is a report to act on at the
next tick boundary (R488, R490). -/
def State.claimSeen (s : State) (claim : Nat) : State :=
  let s1 := { s with pair.genSeen := max s.pair.genSeen (claim / 2) }
  if s.pair.claim < claim then
    { s1 with pair.claimReport := some (match s.pair.claimReport with | some c => max c claim | none => claim) }
  else s1

end Sys2Proof.Machine
end

