-- ==== Sys2Proof/Machine/Can.lean ====
section
/-! DEFINITION. The commands and the events of the CAN channels (chapter "CAN channels"). -/

namespace Sys2Proof.Machine

/-! ### Reception (R348, R357, R358, R368, R373) -/

/-- The format is enabled on the channel (R375; log entry 40). -/
def State.canFmtOn (s : State) (c fmt : Nat) : Bool :=
  fmt == 0 || (fmt == 1 && bitOf (s.pn P.CAN_FORMATS c) 0) || (fmt == 2 && bitOf (s.pn P.CAN_FORMATS c) 1)

/-- The fields agree under a mask (R357). -/
def maskEq (a b mask : Nat) : Bool := (BitVec.ofNat 32 a ^^^ BitVec.ofNat 32 b) &&& BitVec.ofNat 32 mask == 0#32

/-- A buffer has the format and identifier type of a frame. -/
def State.sameFmt (s : State) (c b : Nat) (f : CanFrame) : Bool :=
  s.bufFmt c b == f.fmt && (f.fmt == 2 || s.bufExt c b == f.ext)

/-- A receive buffer matches a frame (R357). -/
def State.bufMatches (s : State) (c b : Nat) (f : CanFrame) : Bool :=
  (if b = 64 then s.bufN c b 0 != 0 else s.bufN c b 0 == 1) && s.sameFmt c b f &&
  maskEq (s.bufN c b 4) f.id (s.bufN c b 5) &&
  (f.fmt != 2 || maskEq (s.bufN c b 6) f.af (s.bufN c b 7))

/-- The buffer that takes a frame: 64 first, then ascending (R357). -/
def State.rxBuf (s : State) (c : Nat) (f : CanFrame) : Option Nat :=
  if s.bufMatches c 64 f then some 64 else (List.range 64).find? (fun b => s.bufMatches c b f)

/-- A frame is stored (R358). -/
def State.storeFrame (s : State) (c b : Nat) (f : CanFrame) : State :=
  let x := s.canBuf c b
  let s1 := if x.undecoded then
      s.setCanCh c { s.canCh c with rxOverwritten := (s.canCh c).rxOverwritten + 1 } else s
  s1.setCanBuf c b { x with
    frame := some { f with data := f.data.take (s.bufN c b 8) }, undecoded := true }

/-- A frame in the high-priority match buffer is signalled (R368). -/
def State.hpSignal (s : State) (c : Nat) (f : CanFrame) : State :=
  let x := s.canBuf c 64
  let s1 := if x.hpFull then s.setCanCh c { s.canCh c with hpOverrun := (s.canCh c).hpOverrun + 1 } else s
  ((s1.setCanBuf c 64 { x with hpFull := true }).sendMsix (16 + c)).event 4 St.OK
    (leRec [(1, c), (8, f.stamp)])

/-- The receive error counter after a reception (ISO 11898-1): above 127 it takes a value from 119 to 127,
which one is free (log entry 20). -/
def State.canRecOk (s : State) (c : Nat) : State :=
  let x := s.canCh c
  if x.state = 1 || x.state = 2 then
    (if 127 < x.recErr then
      (s.setCanCh c (canErrState { x with recErr := 119 + Config.freeNat s.free % 9 })).took
    else s.setCanCh c (canErrState { x with recErr := x.recErr - 1 }))
  else s

/-- The bytes that a claim tag covers (R371). -/
def claimText (fmt id af : Nat) (body : List Byte) (claim fresh : Nat) : List Byte :=
  be 4 id ++ (if fmt = 2 then be 4 af else []) ++ body ++ be 4 claim ++ be 4 fresh

/-- TAG of a claim trailer (R371). -/
def claimTag (key : List Byte) (fmt id af : Nat) (body : List Byte) (claim fresh : Nat) : List Byte :=
  (Config.aesCmac key (claimText fmt id af body claim fresh)).take 4

/-- The claim of a received frame, where it is above the unit's own and, for FD and XL, the tag verifies
(R371, R373): CC carries 16 bits in serial-number arithmetic. -/
def State.frameClaim (s : State) (c : Nat) (f : CanFrame) : Option Nat :=
  let n := f.data.length
  if f.fmt = 0 then
    (if n < 2 then none
    else
      let d := (beAt f.data (n - 2) 2 + 65536 - s.pair.claim % 65536) % 65536
      if 0 < d && decide (d < 32768) then some (s.pair.claim + d) else none)
  else if n < 12 then none
  else
    let claim := beAt f.data (n - 12) 4
    let fresh := beAt f.data (n - 8) 4
    if s.pair.claim < claim && s.tagOk (BitVec.ofNat 64 (s.pn P.CAN_AUTH_LABEL c)) 5
        (fun k => claimTag k f.fmt f.id f.af (f.data.take (n - 12)) claim fresh) (f.data.drop (n - 4))
    then some claim else none

/-- Own claimed transmit buffers with the identifier of a frame (R373). -/
def State.ownClaimed (s : State) (c : Nat) (f : CanFrame) : List Nat :=
  (List.range 64).filter (fun b => s.bufN c b 0 == 2 && s.bufClaim c b && s.sameFmt c b f && s.bufN c b 4 == f.id)

/-- A frame that carries a higher claim on an own claimed identifier (R373). -/
def State.canClaimRx (s : State) (c : Nat) (f : CanFrame) : State :=
  match s.ownClaimed c f, s.frameClaim c f with
  | b :: r, some claim =>
    let s1 := { s with can.claimSeen := s.can.claimSeen + 1 }
    let s2 := (b :: r).foldl (fun a k => (a.sigsOf c k).foldl (fun t v =>
      (t.canDiag (sigPoint v) 8 true).canPtStatus c k (sigPoint v) false) a) s1
    s2.claimSeen claim
  | _, _ => s

/-- A valid data frame: stored in the first buffer that matches, or counted. -/
def State.canRx (s : State) (c : Nat) (f : CanFrame) : State :=
  let s1 := match s.rxBuf c f with
    | some b => if b = 64 then (s.storeFrame c 64 f).hpSignal c f else s.storeFrame c b f
    | none => s.setCanCh c { s.canCh c with rxUnmatched := (s.canCh c).rxUnmatched + 1 }
  s1.canClaimRx c f

/-- CAN_FRAME_RX (R348, R357, R358, R368, R373). -/
def execCanFrameRx (ch : Nat) (f : CanFrame) (remote : Bool) (s : State) :
    Host.Outcome State Fault Refusal :=
  .next (
    if decide (ch < 16) && canHears (s.canCh ch) && s.canFmtOn ch f.fmt then
      (if remote then
        s.setCanCh ch { s.canCh ch with remoteIgnored := (s.canCh ch).remoteIgnored + 1 }
      else s.canRx ch f).canRecOk ch
    else s)

/-- CAN_RECEIVE_ERROR: an error as a receiver adds to the receive error counter (R369). -/
def execCanReceiveError (ch : Nat) (inc : Nat) (s : State) : Host.Outcome State Fault Refusal :=
  .next (
    let x := s.canCh ch
    if decide (ch < 16) && (x.state == 1 || x.state == 2) && !x.integrating then
      s.setCanCh ch (canErrState { x with recErr := min 255 (x.recErr + inc) })
    else s)

/-- CAN_BUS_INTEGRATION: 11 consecutive recessive bits have been seen (R354). -/
def execCanBusIntegration (ch : Nat) (s : State) : Host.Outcome State Fault Refusal :=
  .next (
    let x := s.canCh ch
    if decide (ch < 16) && x.integrating && canHears { x with integrating := false } then
      s.setCanCh ch { x with integrating := false }
    else s)

/-! ### Transmission (R362 to R367) -/

/-- CAN_CYCLIC_TRIGGER: every tick t with t mod TIMING = PHASE, once (R362). -/
def execCanCyclicTrigger (ch : Nat) (buf : Nat) (s : State) : Host.Outcome State Fault Refusal :=
  .next (
    if s.live && decide (ch < 16) && decide (buf < 64) && s.bufN ch buf 0 == 2 && s.bufN ch buf 2 == 2 &&
        decide (0 < s.bufN ch buf 11) && s.epoch % s.bufN ch buf 11 == s.bufN ch buf 12 &&
        (s.canBuf ch buf).cycAt != some s.epoch then
      (s.setCanBuf ch buf { s.canBuf ch buf with cycAt := some s.epoch }).queueBuf ch buf
    else s)

/-- Arbitration rank of a buffer's frame: base identifier, identifier type, extension; the lowest goes first. -/
def State.busRank (s : State) (c b : Nat) : Nat :=
  let id := s.bufN c b 4
  if s.bufFmt c b != 2 && s.bufExt c b then id / 2 ^ 18 * 2 ^ 19 + 2 ^ 18 + id % 2 ^ 18
  else id % 2 ^ 11 * 2 ^ 19

/-- A buffer waits to be sent and can be. -/
def State.bufWaits (s : State) (c b : Nat) : Bool :=
  (s.canBuf c b).pending && s.bufN c b 0 == 2 && s.canFmtOn c (s.bufFmt c b) && !s.bufNoKey c b

/-- No frame of the channel is on the bus. -/
def State.busFree (s : State) (c : Nat) : Bool := (List.range 64).all (fun b => !(s.canBuf c b).committed)

/-- The frame that enters arbitration next: the highest bus priority, the lower buffer among equals (R364). -/
def State.nextTx (s : State) (c : Nat) : Option Nat :=
  ((List.range 64).filter (fun b => s.bufWaits c b)).foldl (fun best b => match best with
    | none => some b
    | some k => if s.busRank c b < s.busRank c k then some b else some k) none

/-- The value that a signal sends: the newest applied value, or CAN_SAFE before the first (R290, R362). -/
def State.sigValueTx (s : State) (v : PVal) : F32 :=
  let p := sigPoint v
  if (s.pt p).status.getLsbD 5 then fof (v.getD 11 0) else (s.pt p).value

/-- One signal encoded into a frame's content (R362). -/
def State.encodeOne (s : State) (bs : List Byte) (v : PVal) : List Byte :=
  putRaw bs (bitOf (v.getD 1 0) 0) (v.getD 4 0) (sigEncode v (s.sigValueTx v)).1 (v.getD 2 0)

/-- The data before the claim trailer: the host's data, then every signal (R362; log entry 40). -/
def State.canBody (s : State) (c b : Nat) : List Byte :=
  (s.sigsOf c b).foldl (fun bs v => s.encodeOne bs v)
    (padTo (s.bufN c b 8 - s.trailerLen c b) (s.canBuf c b).hostData)

/-- The claim trailer (R371). -/
def State.canTrailer (s : State) (c b : Nat) (body : List Byte) : List Byte :=
  if !s.bufClaim c b then []
  else if s.bufFmt c b = 0 then be 2 (s.pair.claim % 65536)
  else
    let fresh := s.epoch % 2 ^ 32
    match s.txKeyAt (BitVec.ofNat 64 (s.pn P.CAN_AUTH_LABEL c)) 5 s.epoch with
    | some k => be 4 s.pair.claim ++ be 4 fresh ++
        claimTag k (s.bufFmt c b) (s.bufN c b 4) (s.bufN c b 6) body s.pair.claim fresh
    | none => []

/-- Whether each signal saturates marks its point (R362). -/
def State.markSat (s : State) (c b : Nat) : State :=
  (s.sigsOf c b).foldl (fun a v =>
    (a.canDiag (sigPoint v) 7 (sigEncode v (s.sigValueTx v)).2).canPtStatus c b (sigPoint v) false) s

/-- A frame passes its commit point: its content is encoded and its start of frame is on the bus. -/
def State.canCommit (s : State) (c b : Nat) : State :=
  let body := s.canBody c b
  let bytes := body ++ s.canTrailer c b body
  ((s.markSat c b).setCanBuf c b { s.canBuf c b with
    pending := false, committed := true,
    sentPts := (s.sigsOf c b).map (fun v => (sigPoint v, (s.pt (sigPoint v)).epoch, (s.pt (sigPoint v)).value)) }).emit (.can c b bytes)

/-- CAN_COMMIT_POINT (R362, R364, R366, R371). -/
def execCanCommitPoint (ch : Nat) (buf : Nat) (s : State) : Host.Outcome State Fault Refusal :=
  .next (
    if decide (ch < 16) && canSends (s.canCh ch) && s.busFree ch && s.nextTx ch == some buf then
      s.canCommit ch buf
    else s)

/-- A condition of every point of a buffer. -/
def State.markBuf (s : State) (c b d : Nat) : State :=
  (s.sigsOf c b).foldl (fun a v => (a.canDiag (sigPoint v) d true).canPtStatus c b (sigPoint v) false) s

/-- Points whose sent value is still the newest are confirmed (R364). -/
def State.confirmSent (s : State) (l : List (Nat × Nat × F32)) : State :=
  l.foldl (fun a x => if (a.pt x.1).epoch = x.2.1 ∧ (a.pt x.1).value = x.2.2 then
      a.setPt x.1 { a.pt x.1 with status := (a.pt x.1).status &&& ~~~stUnconfirmed } else a) s

/-- The frame has been sent and acknowledged. -/
def State.canSent (s : State) (c b : Nat) : State :=
  let x := s.canBuf c b
  let s1 := s.setCanCh c (canErrState { s.canCh c with txErr := (s.canCh c).txErr - 1 })
  (s1.closeEdge.confirmSent x.sentPts).canEnd c b 0 x.cancelReq

/-- The frame waits again, or ends, after an attempt that did not complete (R364, R365, R367). -/
def State.canRetry (s : State) (c b failCode : Nat) : State :=
  let x := s.canBuf c b
  if x.cancelReq then (s.setCanBuf c b { x with pending := false }).canEnd c b 1 false
  else if s.bufOneShot c b then (s.markBuf c b 6).canEnd c b failCode false
  else if decide (x.timeout ≤ x.elapsed) && failCode == 3 then (s.markBuf c b 10).canEnd c b 6 false
  else s.setCanBuf c b { x with committed := false, pending := true }

/-- The channel enters bus-off (R369, R370). -/
def State.enterBusOff (s : State) (c : Nat) : State :=
  let x := s.canCh c
  (s.setCanCh c { x with
    busOffs := x.busOffs + 1, recWait := true, observing := false,
    holdUntil := if s.pn P.CAN_BUSOFF_RECOVERY c = 1 then s.epoch + 8 * s.pn P.CAN_BUSOFF_HOLD_MS c else 0
    }).canEndHost c 4 true

/-- The attempt ended by an error: the counter, and bus-off where it passes 255 (R369). -/
def State.canTxError (s : State) (c b inc : Nat) : State :=
  let x := s.canCh c
  let y := canErrState { x with txErr := min 256 (x.txErr + inc) }
  let s1 := s.setCanCh c y
  if y.state = 3 then (if s.bufOneShot c b || (s.canBuf c b).cancelReq then s1.canRetry c b 3 else s1).enterBusOff c
  else s1.canRetry c b 3

/-- The measured loop delay of an FD or XL frame (R352). -/
def State.canLoop (s : State) (c b loopDelay : Nat) : State :=
  if s.bufFmt c b = 0 || s.pn P.TDC_MODE c = 0 then s
  else s.setCanCh c { s.canCh c with
    loopDelay := min 127 loopDelay, tdcRange := decide (127 < loopDelay) }

/-- The loop delay ends the transmission with a bit error (R352). -/
def State.tdcFails (s : State) (c b loopDelay : Nat) : Bool :=
  s.bufFmt c b != 0 && s.pn P.TDC_MODE c != 0 && decide (127 < loopDelay)

/-- CAN_TX_END (R352, R364, R365, R367, R369). -/
def execCanTxEnd (ch : Nat) (buf : Nat) (ok : Bool) (arbLost : Bool) (inc : Nat) (loopDelay : Nat)
    (s : State) : Host.Outcome State Fault Refusal :=
  .next (
    if decide (ch < 16) && decide (buf < 64) && (s.canBuf ch buf).committed && canSends (s.canCh ch) then
      (if !ok && arbLost then s.canRetry ch buf 2
      else if s.tdcFails ch buf loopDelay then (s.canLoop ch buf loopDelay).canTxError ch buf 8
      else if ok then (s.canLoop ch buf loopDelay).canSent ch buf
      else (s.canLoop ch buf loopDelay).canTxError ch buf inc)
    else s)

/-- A frame that is attempted again has not completed within its time (R364). -/
def State.canTimedOut (s : State) (ch buf : Nat) : Bool :=
  let x := s.canBuf ch buf
  decide (ch < 16) && decide (buf < 64) && x.pending && !x.committed && !s.bufOneShot ch buf &&
    decide (x.timeout ≤ x.elapsed) && (s.canCh ch).state != 3

/-- CAN_TX_TIMEOUT (R364). -/
def execCanTxTimeout (ch : Nat) (buf : Nat) (s : State) : Host.Outcome State Fault Refusal :=
  .next (
    if s.canTimedOut ch buf then
      ((s.setCanBuf ch buf { s.canBuf ch buf with pending := false }).markBuf ch buf 10).canEnd ch buf 6 false
    else s)

/-! ### Bus-off (R370) -/

/-- CAN_BUSOFF_HOLD_END: the hold-off of an automatic recovery ends. -/
def execCanBusoffHoldEnd (ch : Nat) (s : State) : Host.Outcome State Fault Refusal :=
  .next (
    let x := s.canCh ch
    if decide (ch < 16) && x.state == 3 && x.holdUntil != 0 && decide (x.holdUntil ≤ s.epoch) then
      s.setCanCh ch { x with holdUntil := 0, observing := true }
    else s)

/-- CAN_RECOVERED: 128 occurrences of 11 recessive bits have been observed. -/
def execCanRecovered (ch : Nat) (s : State) : Host.Outcome State Fault Refusal :=
  .next (
    let x := s.canCh ch
    if decide (ch < 16) && x.state == 3 && x.observing && s.vioGood 1 then
      s.setCanCh ch { x with
        state := 1, txErr := 0, recErr := 0, warning := false, recWait := false, observing := false,
        integrating := false }
    else s)

/-- What the tables say of CAN_RECOVER. -/
def canRecoverInfo : CmdInfo := { op := 0x0904, who := [.operator, .installer] }

/-- CAN_RECOVER: a channel in bus-off that waits for the command starts to observe the bus; before bus-off
it is WRONG_MODE. -/
def canRecoverVerdict (ch : Nat) (s : State) : Verdict :=
  if 16 ≤ ch then reject St.RANGE
  else if (s.canCh ch).state != 3 then reject St.WRONG_MODE
  else if (s.canCh ch).holdUntil != 0 then {}
  else { act := fun t => t.setCanCh ch { t.canCh ch with observing := true } }

/-- CAN_RECOVER (R370). -/
def execCanRecover (h : Hdr) (ch : Nat) (s : State) : Host.Outcome State Fault Refusal :=
  .next (s.command canRecoverInfo h ch (canRecoverVerdict ch))

/-! ### Host commands -/

/-- What the tables say of CAN_TRANSMIT. -/
def canTransmitInfo : CmdInfo := { op := 0x0901, who := [.operator, .installer] }

/-- CAN_TRANSMIT: a transmit buffer with trigger host and data within its length; BUSY while its previous
frame is pending (R363). -/
def canTransmitVerdict (h : Hdr) (ch buf : Nat) (data : List Byte) (s : State) : Verdict :=
  if 16 ≤ ch || 64 ≤ buf then reject St.RANGE
  else if s.bufN ch buf 0 != 2 || s.bufN ch buf 2 != 0 ||
      decide (s.bufN ch buf 8 - s.trailerLen ch buf < data.length) then reject St.RANGE
  else if (s.canBuf ch buf).pending || (s.canBuf ch buf).committed then reject St.BUSY
  else s.long h 0x0901 (fun n t =>
    (t.setCanBuf ch buf { t.canBuf ch buf with handle := n, hostData := data }).queueBuf ch buf)

/-- CAN_TRANSMIT (R363). -/
def execCanTransmit (h : Hdr) (ch : Nat) (buf : Nat) (data : List Byte) (s : State) :
    Host.Outcome State Fault Refusal :=
  .next (s.command canTransmitInfo h (ch * 65 + buf) (canTransmitVerdict h ch buf data))

/-- CANCEL_RESULT of a cancel on a buffer (R367). -/
def cancelCode (x : CanBuf) : Nat := if x.committed then 1 else if x.pending then 0 else 2

/-- The effect of a cancel on a buffer (R367). -/
def State.cancelBuf (s : State) (c b : Nat) : State :=
  let x := s.canBuf c b
  if x.committed then s.setCanBuf c b { x with cancelReq := true, pending := false }
  else if x.pending then (s.setCanBuf c b { x with pending := false }).canEnd c b 1 false
  else s

/-- What the tables say of CAN_BUF_CANCEL. -/
def canBufCancelInfo : CmdInfo := { op := 0x0902, who := [.operator, .installer] }

/-- CAN_BUF_CANCEL: CANCEL_RESULT in DETAIL (R367). -/
def canBufCancelVerdict (ch buf : Nat) (s : State) : Verdict :=
  if 16 ≤ ch || 64 ≤ buf || s.bufN ch buf 0 != 2 then reject St.RANGE
  else { detail := cancelCode (s.canBuf ch buf), act := fun t => t.cancelBuf ch buf }

/-- CAN_BUF_CANCEL (R367). -/
def execCanBufCancel (h : Hdr) (ch : Nat) (buf : Nat) (s : State) : Host.Outcome State Fault Refusal :=
  .next (s.command canBufCancelInfo h (ch * 65 + buf) (canBufCancelVerdict ch buf))

/-- What the tables say of CAN_HP_READ. -/
def canHpReadInfo : CmdInfo := { op := 0x0903, standby := true, isRead := true }

/-- The reply of CAN_HP_READ: timestamp, HP_OVERRUN and the frame (R368; log entry 40). -/
def hpBytes (x : CanCh) (f : CanFrame) : List Byte :=
  leRec [(8, f.stamp), (4, x.hpOverrun.toNat), (4, f.id), (4, f.af), (1, f.fmt + 4 * b2n f.ext), (1, 0),
    (2, f.data.length)] ++ f.data

/-- Reply data of CAN_HP_READ: none where no unread frame is stored. -/
def State.hpReply (s : State) (ch : Nat) : List Byte :=
  match (s.canBuf ch 64).frame with
  | some f => if (s.canBuf ch 64).hpFull then hpBytes (s.canCh ch) f else []
  | none => []

/-- CAN_HP_READ: the frame of the high-priority match buffer, which is then clear (R368). -/
def canHpReadVerdict (h : Hdr) (ch : Nat) (s : State) : Verdict :=
  if 16 ≤ ch || h.room < (s.hpReply ch).length then reject St.RANGE
  else
    { data := s.hpReply ch,
      act := fun t => t.setCanBuf ch 64 { t.canBuf ch 64 with hpFull := false } }

/-- CAN_HP_READ (R368). -/
def execCanHpRead (h : Hdr) (ch : Nat) (s : State) : Host.Outcome State Fault Refusal :=
  .next (s.command canHpReadInfo h ch (canHpReadVerdict h ch))

end Sys2Proof.Machine
end

