-- ==== Sys2Proof/Machine/Blocks.lean ====
section
/-! DEFINITION. The function blocks: what one call of a built-in type (R267, R269, R561, R564) and of an
expression type (R270, R271) computes. -/

namespace Sys2Proof.Machine

/-- What a call reads beside its inputs (R254). -/
structure BlockCtx where
  /-- the cycle's start tick C. -/
  c : Nat
  /-- RT(C). -/
  rt : Nat
  /-- local civil seconds since 2000-01-01 at C. -/
  civil : Nat
  /-- a point of the cycle's view. -/
  point : Nat → Point
  /-- KIND of a point: 0 BOOL, 1 DINT, 2 REAL (R292). -/
  kind : Nat → Nat
  /-- STATE of a station. -/
  stn : Nat → Nat
  /-- STATE of a field group. -/
  grp : Nat → Nat
  /-- a lane. -/
  lane : Nat → Lane
  /-- the plan in force. -/
  plan : Option Plan
  /-- PLAN_STALE. -/
  stale : Bool
  /-- a plan binding, evaluated at C: value and binding status (R115). -/
  planRd : List Nat → F32 × Nat
  /-- an estimate record. -/
  est : Nat → Nat → EstRec

/-- What a call does beside its outputs. -/
inductive BlockEff where
  /-- a value for an output point. -/
  | out (p : Nat) (v : F32)
  /-- a program set-point for a lane. -/
  | laneSp (lane : Nat) (v : F32)
  /-- an alarm raised or cleared: key, priority, monitored value. -/
  | alarm (key : U64) (on : Bool) (prio : Nat) (v : F32)
  deriving DecidableEq, Repr

/-- The result of a call: outputs, state, effects, and how many free values it took. -/
structure BlockRes where
  outs : List U32 := []
  st : List Nat := []
  eff : List BlockEff := []
  took : Nat := 0
  deriving DecidableEq, Repr

/-- A truth value as an entry. -/
def u1 (b : Bool) : U32 := if b then 1#32 else 0#32

/-- An entry as a truth value. -/
def t1 (x : U32) : Bool := x != 0#32

/-- Input `k`. -/
def inp (ins : List U32) (k : Nat) : U32 := ins.getD k 0#32

/-- Input `k` as a truth value. -/
def inB (ins : List U32) (k : Nat) : Bool := t1 (inp ins k)

/-- Input `k` as a real number. -/
def inR (ins : List U32) (k : Nat) : F32 := ⟨inp ins k⟩

/-- Input `k` as a DINT. -/
def inD (ins : List U32) (k : Nat) : Int := (inp ins k).toInt

/-- A DINT as an entry. -/
def dint (i : Int) : U32 := BitVec.ofInt 32 i

/-- A DINT lies in range. -/
def dintOk (i : Int) : Bool := decide (-2147483648 ≤ i) && decide (i ≤ 2147483647)

/-- A DINT held to its range. -/
def dintSat (i : Int) : Int := max (-2147483648) (min 2147483647 i)

/-- Result of a call that only computes outputs. -/
def outs1 (l : List U32) : BlockRes := { outs := l }

/-- A real result with its ERR (R564). -/
def realRes (xs : List F32) (r : F32) : U32 × Bool :=
  if xs.all F32.isFin && r.isFin then (r.bits, false) else (0#32, true)

/-- A call that only fails: the outputs 0 and ERR, with what it stores (R564). -/
def errRes (n : Nat) (st : List Nat) : BlockRes := { outs := List.replicate n 0#32 ++ [1#32], st := st }

/-- A call whose only result is real. -/
def realOut (xs : List F32) (r : F32) : BlockRes :=
  let x := realRes xs r
  outs1 [x.1, u1 x.2]

/-- A DINT result, a free value where it leaves the range (log entry 45). -/
def dintOut (free : Nat) (i : Int) : BlockRes :=
  if dintOk i then outs1 [dint i, 0#32] else { outs := [Config.freeWord free, 0#32], took := 1 }

/-! ### Logic, selection, compare (log entry 45) -/

/-- Logic, 16#0101 to 16#0110. -/
def callLogic (k : Nat) (ins : List U32) : BlockRes :=
  let a := inp ins 0
  let b := inp ins 1
  let n := (inp ins 1).toNat % 32
  if k = 0 then outs1 [u1 (t1 a && t1 b)]
  else if k = 1 then outs1 [u1 (t1 a || t1 b)]
  else if k = 2 then outs1 [u1 (t1 a != t1 b)]
  else if k = 3 then outs1 [u1 (!t1 a)]
  else if k = 4 then outs1 [u1 (!(t1 a && t1 b))]
  else if k = 5 then outs1 [u1 (!(t1 a || t1 b))]
  else if k = 6 then outs1 [u1 ((List.range 8).all (inB ins))]
  else if k = 7 then outs1 [u1 ((List.range 8).any (inB ins))]
  else if k = 8 then outs1 [a &&& b]
  else if k = 9 then outs1 [a ||| b]
  else if k = 10 then outs1 [a ^^^ b]
  else if k = 11 then outs1 [~~~a]
  else if k = 12 then outs1 [a <<< n]
  else if k = 13 then outs1 [a >>> n]
  else if k = 14 then outs1 [a.rotateLeft n]
  else outs1 [a.rotateRight n]

/-- A multiplexer of `n` inputs; a selector outside them gives a free value. -/
def mux (free n : Nat) (ins : List U32) : BlockRes :=
  let k := inD ins 0
  if 0 ≤ k && decide (k < (n : Int)) then outs1 [inp ins (k.toNat + 1)]
  else { outs := [Config.freeWord free], took := 1 }

/-- Selection, 16#0201 to 16#0208. -/
def callSelect (free k : Nat) (ins : List U32) : BlockRes :=
  if k < 3 then outs1 [if inB ins 0 then inp ins 2 else inp ins 1]
  else if k < 5 then mux free 4 ins
  else if k < 7 then mux free 8 ins
  else outs1 [inp ins 0]

/-- Compare, 16#0301 to 16#030F. -/
def callCompare (k : Nat) (ins : List U32) : BlockRes :=
  let x := inR ins 0
  let y := inR ins 1
  let i := inD ins 0
  let j := inD ins 1
  if k = 0 then outs1 [u1 (i == j)]
  else if k = 1 then outs1 [u1 (F32.beq x y)]
  else if k = 2 then outs1 [u1 (i != j)]
  else if k = 3 then outs1 [u1 (!F32.beq x y)]
  else if k = 4 then outs1 [u1 (decide (i < j))]
  else if k = 5 then outs1 [u1 (F32.lt x y)]
  else if k = 6 then outs1 [u1 (decide (i ≤ j))]
  else if k = 7 then outs1 [u1 (F32.le x y)]
  else if k = 8 then outs1 [u1 (decide (j < i))]
  else if k = 9 then outs1 [u1 (F32.lt y x)]
  else if k = 10 then outs1 [u1 (decide (j ≤ i))]
  else if k = 11 then outs1 [u1 (F32.le y x)]
  else if k = 12 then outs1 [u1 (decide (j ≤ i) && decide (i ≤ inD ins 2))]
  else if k = 13 then outs1 [u1 (F32.le y x && F32.le x (inR ins 2))]
  else outs1 [u1 (F32.lt x y), u1 (F32.beq x y), u1 (F32.lt y x)]

/-! ### Arithmetic and conversion (R564) -/

/-- DINT members of the arithmetic family. -/
def callArithD (free k : Nat) (ins : List U32) : BlockRes :=
  let i := inD ins 0
  let j := inD ins 1
  if k = 0 then dintOut free (i + j)
  else if k = 2 then dintOut free (i - j)
  else if k = 4 then dintOut free (i * j)
  else if k = 6 then (if j = 0 then outs1 [0#32, 1#32] else dintOut free (Int.tdiv i j))
  else if k = 8 then (if j = 0 then outs1 [0#32, 1#32] else dintOut free (Int.tmod i j))
  else if k = 9 then dintOut free (if i < 0 then -i else i)
  else if k = 11 then dintOut free (-i)
  else if k = 13 then dintOut free (min i j)
  else dintOut free (max i j)

/-- A transcendental function by its TYPE_ID. Its rounding is open; that EXP overflows from 89 on, and that LN and LOG
are not finite at 0, below it and at infinity, is not (R271; log entry 7). -/
def realFnAt (code : Nat) (xs : List F32) : F32 :=
  let x := xs.headD F32.zero
  if code = 0x0414 || code = 0x0415 then
    (if x.isFin && F32.lt F32.zero x then ⟨Config.realFn code xs⟩
    else if x.isFin && x.units == 0 then F32.inf true
    else if x.isInf && !x.sign then x else F32.nan)
  else if code = 0x0413 && F32.le ⟨0x42B20000#32⟩ x then F32.inf false
  else ⟨Config.realFn code xs⟩

/-- REAL members of the arithmetic family; the transcendental functions by their TYPE_ID. -/
def callArithR (k : Nat) (ins : List U32) : BlockRes :=
  let x := inR ins 0
  let y := inR ins 1
  if k = 1 then realOut [x, y] (F32.add x y)
  else if k = 3 then realOut [x, y] (F32.sub x y)
  else if k = 5 then realOut [x, y] (F32.mul x y)
  else if k = 7 then realOut [x, y] (F32.div x y)
  else if k = 10 then realOut [x] x.abs
  else if k = 12 then realOut [x] x.neg
  else if k = 14 then realOut [x, y] (F32.min x y)
  else if k = 16 then realOut [x, y] (F32.max x y)
  else if k = 17 then realOut [x] x.sqrt
  else if k = 21 || k = 25 then realOut [x, y] (realFnAt (0x0401 + k) [x, y])
  else realOut [x] (realFnAt (0x0401 + k) [x])

/-- Arithmetic, 16#0401 to 16#041A. -/
def callArith (free k : Nat) (ins : List U32) : BlockRes :=
  if k = 0 || k = 2 || k = 4 || k = 6 || k = 8 || k = 9 || k = 11 || k = 13 || k = 15 then callArithD free k ins
  else callArithR k ins

/-- Real to DINT: half to even, or cut, held to the range; a NaN gives 0 and ERR (R270, R564). -/
def realToDint (x : F32) (cut : Bool) : U32 × Bool :=
  if x.isNaN then (0#32, true)
  else if x.isInf then (dint (if x.sign then -2147483648 else 2147483647), false)
  else (dint (dintSat (if cut then x.trunc else x.round)), false)

/-- Value of eight BCD digits, none where a digit is above 9. -/
def bcdVal : Nat → Nat → Option Nat
  | 0, _ => some 0
  | n + 1, x =>
    match bcdVal n (x / 16) with
    | some v => if x % 16 ≤ 9 then some (v * 10 + x % 16) else none
    | none => none

/-- Conversion, 16#0501 to 16#0508. A REAL input that is infinite sets ERR (R564). -/
def callConv (free k : Nat) (ins : List U32) : BlockRes :=
  let x := inR ins 0
  if k = 0 then outs1 [u1 (inB ins 0), 0#32]
  else if k = 1 then outs1 [u1 (inB ins 0), 0#32]
  else if k = 2 || k = 5 then outs1 [(F32.ofInt (inD ins 0)).bits, 0#32]
  else if k = 3 || k = 4 || k = 6 then
    (if x.isInf then outs1 [0#32, 1#32]
    else let r := realToDint x (k == 4); outs1 [r.1, u1 r.2])
  else match bcdVal 8 (inp ins 0).toNat with
    | some v => outs1 [BitVec.ofNat 32 v, 0#32]
    | none => { outs := [Config.freeWord free, 0#32], took := 1 }

/-! ### Timers, counters, edges, bistables (R265, R269, R273) -/

/-- Elapsed whole milliseconds of run time, at most PT (R265). -/
def elapsedMs (rt start pt : Nat) : Nat := min pt ((rt - start) / 8)

/-- PT of a timer: negative counts as 0. -/
def ptMs (ins : List U32) : Nat := (inD ins 1).toNat

/-- Timers, 16#0601 to 16#0603: state IN_PREV, PHASE, START_RT; outputs Q, ET. -/
def callTimer (k rt : Nat) (ins : List U32) (st : List Nat) : BlockRes :=
  let i := inB ins 0
  let prev := st.getD 0 0 == 1
  let ph := st.getD 1 0
  let pt := ptMs ins
  if k = 0 then
    (if !i then { outs := [0#32, 0#32], st := [0, 0, st.getD 2 0] }
    else
      let start := if prev then st.getD 2 0 else rt
      let et := elapsedMs rt start pt
      let q := decide (pt ≤ et) || (prev && ph == 2)
      { outs := [u1 q, BitVec.ofNat 32 et], st := [1, if q then 2 else 1, start] })
  else if k = 1 then
    (if i then { outs := [1#32, 0#32], st := [1, 0, st.getD 2 0] }
    else if prev || ph = 1 then
      let start := if prev then rt else st.getD 2 0
      let et := elapsedMs rt start pt
      let q := decide (et < pt)
      { outs := [u1 q, BitVec.ofNat 32 et], st := [0, if q then 1 else 2, start] }
    else { outs := [0#32, if ph = 2 then BitVec.ofNat 32 (elapsedMs rt (st.getD 2 0) pt) else 0#32],
           st := [0, ph, st.getD 2 0] })
  else
    let begin' := i && !prev && ph == 0
    let start := if begin' then rt else st.getD 2 0
    let on := begin' || ph == 1
    let et := elapsedMs rt start pt
    if on && decide (et < pt) then
      { outs := [1#32, BitVec.ofNat 32 et], st := [b2n i, 1, start] }
    else if on || ph = 2 then
      (if i then { outs := [0#32, BitVec.ofNat 32 (elapsedMs rt start pt)], st := [1, 2, start] }
      else { outs := [0#32, 0#32], st := [0, 0, start] })
    else { outs := [0#32, 0#32], st := [b2n i, 0, start] }

/-- A count one up, held at the largest DINT. -/
def upTo (v : Int) : Int := if v < 2147483647 then v + 1 else v

/-- A count one down, held at the smallest DINT. -/
def downTo (v : Int) : Int := if -2147483648 < v then v - 1 else v

/-- Counters, 16#0701 to 16#0703: state CU_PREV, CD_PREV; CV is an output (R273). -/
def callCounter (k : Nat) (ins : List U32) (old : List U32) (st : List Nat) : BlockRes :=
  let cu := inB ins 0
  let up := cu && st.getD 0 0 != 1
  if k = 0 then
    let cv := (old.getD 1 0#32).toInt
    let v := if inB ins 1 then 0 else if up then upTo cv else cv
    { outs := [u1 (decide (inD ins 2 ≤ v)), dint v], st := [b2n cu, 0] }
  else if k = 1 then
    let cv := (old.getD 1 0#32).toInt
    let v := if inB ins 1 then inD ins 2 else if up then downTo cv else cv
    { outs := [u1 (decide (v ≤ 0)), dint v], st := [b2n cu, 0] }
  else
    let cd := inB ins 1
    let dn := cd && st.getD 1 0 != 1
    let cv := (old.getD 2 0#32).toInt
    let v := if inB ins 2 then 0 else if inB ins 3 then inD ins 4
      else if up && !dn then upTo cv else if dn && !up then downTo cv else cv
    { outs := [u1 (decide (inD ins 4 ≤ v)), u1 (decide (v ≤ 0)), dint v], st := [b2n cu, b2n cd] }

/-- Edge detectors, 16#0801 and 16#0802; at first scan they store the input and output FALSE (R269). -/
def callEdge (k : Nat) (ins : List U32) (st : List Nat) (first : Bool) : BlockRes :=
  let i := inB ins 0
  let prev := st.getD 0 0 == 1
  let q := if first then false else if k = 0 then i && !prev else !i && prev
  { outs := [u1 q], st := [b2n i] }

/-- Bistables, 16#0901 SR and 16#0902 RS. -/
def callBistable (k : Nat) (ins : List U32) (old : List U32) : BlockRes :=
  let q := t1 (old.getD 0 0#32)
  if k = 0 then outs1 [u1 (inB ins 0 || (!inB ins 1 && q))]
  else outs1 [u1 (!inB ins 1 && (inB ins 0 || q))]

/-! ### Limiting and scaling (R269, R561, R564) -/

/-- Seconds between two run-time counts (R561). -/
def dtSec (rt last : Nat) : Rat := ((rt - last : Nat) : Rat) / 8000

/-- 1 − exp(−dt × 1,000 / T), the factor of a first-order lag (R561). -/
def lagFactor (dt : Rat) (t : Int) : Rat :=
  1 - (realFnAt 0x0413 [F32.ofRat (-(dt * 1000 / (t : Rat)))]).rat

/-- OUT moved towards IN by at most `up` and `down`. -/
def moveTo (out in' up down : Rat) : Rat :=
  if out < in' then min in' (out + up) else max in' (out - down)

/-- A result of the time-based types: outputs of R561 and ERR, with the state output, LAST_RT. -/
def limRes (xs : List F32) (q : Rat) (rest : List U32) (rt : Nat) : BlockRes :=
  let r := realRes xs (F32.ofRat q)
  { outs := [r.1] ++ rest ++ [u1 r.2], st := [r.1.toNat, rt] }

/-- The outputs of the last call, where a call with dt = 0 leaves them unchanged (R561). -/
def sameOuts (old : List U32) (st : List Nat) : BlockRes := { outs := old, st := st }

/-- LAG1, RAMP, RATE_LIM, INTEG and DERIV (R269, R561). -/
def callTimed (k rt : Nat) (ins : List U32) (old : List U32) (st : List Nat) (first : Bool) : BlockRes :=
  let x := inR ins 0
  let out := (F32.mk (old.getD 0 0#32)).rat
  let last := if k = 4 then st.getD 2 0 else st.getD 1 0
  let dt := dtSec rt last
  let t := max 0 (inD ins 1)
  if first then
    (if k = 3 then limRes [x, inR ins 2, inR ins 3] 0 [] rt
    else if k = 4 then { limRes [x] 0 [] rt with st := [0, x.bits.toNat, rt] }
    else if k = 1 then limRes [x, inR ins 1] x.rat [u1 (x.isFin && (inR ins 1).isFin)] rt
    else if k = 2 then limRes [x, inR ins 1, inR ins 2] x.rat [] rt
    else limRes [x] x.rat [] rt)
  else if rt = last then sameOuts old st
  else if k = 0 then
    limRes [x] (if t = 0 then x.rat else out + (x.rat - out) * lagFactor dt t) [] rt
  else if k = 1 then
    let r := max 0 (inR ins 1).rat
    let q := moveTo out x.rat (r * dt) (r * dt)
    limRes [x, inR ins 1] q [u1 (x.isFin && (inR ins 1).isFin && decide (q = x.rat))] rt
  else if k = 2 then
    limRes [x, inR ins 1, inR ins 2]
      (moveTo out x.rat (max 0 (inR ins 1).rat * dt) (max 0 (inR ins 2).rat * dt)) [] rt
  else if k = 3 then
    let lo := inR ins 2
    let hi := inR ins 3
    if !([x, lo, hi].all F32.isFin) then errRes 1 [0, rt]
    else if hi.rat < lo.rat then { outs := [old.getD 0 0#32, 1#32], st := [st.getD 0 0, rt] }
    else limRes [x, lo, hi] (max lo.rat (min hi.rat (if inB ins 1 then 0 else out + x.rat * dt))) [] rt
  else
    let raw := (x.rat - (fof (st.getD 1 0)).rat) / dt
    let r := limRes [x, fof (st.getD 1 0)] (if t = 0 then raw else out + (raw - out) * lagFactor dt t) [] rt
    { r with st := [(r.outs.getD 0 0#32).toNat, x.bits.toNat, rt] }

/-- Types of the family whose result the specification does not state: a free number, 0 with ERR where it is
not finite or an input is not (log entry 45). -/
def callOpenReal (free : Nat) (xs : List F32) (st : List Nat) : BlockRes :=
  let r := realRes xs ⟨Config.freeWord free⟩
  { outs := [r.1, u1 r.2], st := st, took := 1 }

/-- Limiting and scaling, 16#0A01 to 16#0A0C. -/
def callLimit (free k rt : Nat) (ins : List U32) (old : List U32) (st : List Nat) (first : Bool) : BlockRes :=
  let x := inR ins 0
  if k = 0 then
    realOut [x, inR ins 1, inR ins 2] (F32.min (F32.max (inR ins 1) x) (inR ins 2))
  else if k = 2 then { outs := [u1 ((Config.freeWord free).getLsbD 0), u1 (!(ins.all (fun y => (F32.mk y).isFin)))],
                       st := st, took := 1 }
  else if k = 4 then callTimed 1 rt ins old st first
  else if k = 5 then callTimed 0 rt ins old st first
  else if k = 6 then callTimed 3 rt ins old st first
  else if k = 7 then callTimed 4 rt ins old st first
  else if k = 8 then (if first then { realOut [x] x with st := st } else callOpenReal free [x] st)
  else if k = 9 then callTimed 2 rt ins old st first
  else if k = 10 then
    let xs := ins.map F32.mk
    let a := realRes xs ⟨Config.freeWord free⟩
    let b := realRes xs ⟨Config.freeWord (free + 1)⟩
    { outs := [a.1, b.1, u1 (a.2 || b.2)], st := st, took := 2 }
  else callOpenReal free (ins.map F32.mk) st

/-! ### Access blocks, alarms, time (log entry 45) -/

/-- A point's value as a type presented to programs. -/
def ptAs (kind : Nat) (p : Point) : U32 :=
  if kind = 0 then u1 (p.value.isFin && p.value.units != 0)
  else if kind = 1 then (realToDint p.value false).1
  else p.value.bits

/-- Age of a point at C in milliseconds, as a DINT (R287). -/
def ptAge (p : Point) (c : Nat) : U32 := dint (dintSat ((ageAt p c / 8 : Nat) : Int))

/-- Point access, 16#0B01 to 16#0B09. -/
def callPoint (x : BlockCtx) (k : Nat) (cfg : List Nat) (ins : List U32) : BlockRes :=
  let n := cfg.getD 0 0
  let p := x.point n
  let sa := [p.status.setWidth 32, ptAge p x.c]
  if k < 3 then outs1 (ptAs k p :: sa)
  else if k = 3 then { eff := [.out n (if inB ins 0 then F32.one else F32.zero)] }
  else if k = 4 then { eff := [.out n (F32.ofInt (inD ins 0))] }
  else if k = 5 then { eff := [.out n (inR ins 0)] }
  else if k = 6 then outs1 sa
  else if k = 7 then outs1 [BitVec.ofNat 32 (x.stn n)]
  else outs1 [BitVec.ofNat 32 (x.grp n)]

/-- COND of LANE_STATUS (R249). -/
def laneCond (x : Lane) : Nat := x.core.cond.toNat + 128 * b2n x.periodDoubled

/-- FLAGS of LANE_STATUS (R249). -/
def laneFlags (x : Lane) : Nat :=
  x.core.flags.toNat + 16 * b2n x.swapPend.isSome + 64 * b2n x.core.ackHeld + 128 * b2n x.core.safeByOvr

/-- Every field of LANE_STATUS, an epoch as its low and its high word (R249, R267). -/
def laneStatWords (x : Lane) : List U32 :=
  let c := x.core
  ([c.state, laneCond x, laneFlags x, c.srcInUse, b2n x.bankSel, c.bindStatus.toNat, x.periodForce, c.lastSample,
    c.lastSample / 2 ^ 32, c.spUsed.bits.toNat, c.fbUsed.bits.toNat, c.out.bits.toNat, c.vfUsedMs / 8,
    x.overruns.toNat]).map (BitVec.ofNat 32)

/-- Lane access, 16#0C01 to 16#0C03. -/
def callLane (x : BlockCtx) (k : Nat) (cfg : List Nat) (ins : List U32) : BlockRes :=
  let n := cfg.getD 0 0
  if k = 0 then { eff := [.laneSp n (inR ins 0)] }
  else if k = 1 then outs1 (laneStatWords (x.lane n))
  else outs1 [(x.lane n).core.out.bits]

/-- Plan access, 16#0D01 to 16#0D03. -/
def callPlan (x : BlockCtx) (k : Nat) (cfg : List Nat) : BlockRes :=
  if k = 0 then let r := x.planRd cfg; outs1 [r.1.bits, BitVec.ofNat 32 r.2]
  else if k = 1 then
    outs1 (match x.plan with
      | some p => [BitVec.ofNat 32 p.planId, BitVec.ofNat 32 p.quality.status, u1 x.stale]
      | none => [0#32, 0#32, u1 x.stale])
  else let r := x.est (cfg.getD 0 0) (cfg.getD 1 0)
    outs1 [r.value.bits, r.bound.bits, r.status.setWidth 32]

/-- The condition of an alarm block and its monitored value; state: the previous condition and, for ALM_RATE, the
previous input and run time. -/
def almCond (k rt : Nat) (ins : List U32) (st : List Nat) : Bool × F32 × U32 :=
  let x := inR ins 0
  if k = 0 then (inB ins 0, if inB ins 0 then F32.one else F32.zero, inp ins 1)
  else if k = 1 then (F32.lt (inR ins 1) x, x, inp ins 2)
  else if k = 2 then (F32.lt x (inR ins 1), x, inp ins 2)
  else if k = 3 then (F32.lt (inR ins 2) (F32.sub x (inR ins 1)).abs, x, inp ins 3)
  else
    let dt := dtSec rt (st.getD 2 0)
    (st.getD 3 0 == 1 && decide (0 < dt) &&
      decide ((inR ins 1).rat * dt < (F32.sub x (fof (st.getD 1 0))).abs.rat), x, inp ins 2)

/-- Alarms, 16#0E01 to 16#0E05: a record raised or cleared as the condition comes or goes (R427). -/
def callAlarm (k rt : Nat) (key : U64) (ins : List U32) (st : List Nat) : BlockRes :=
  let c := almCond k rt ins st
  let was := st.getD 0 0 == 1
  { outs := [u1 c.1], st := [b2n c.1, (inp ins 0).toNat, rt, 1],
    eff := if c.1 && !was then [.alarm key true c.2.2.toNat c.2.1]
      else if !c.1 && was then [.alarm key false c.2.2.toNat c.2.1] else [] }

/-- Time, 16#0F01 to 16#0F04. -/
def callTime (x : BlockCtx) (free k : Nat) (ins : List U32) : BlockRes :=
  if k = 0 then outs1 [BitVec.ofNat 32 (x.civil / 86400), BitVec.ofNat 32 (x.civil % 86400)]
  else if k = 1 then outs1 [BitVec.ofNat 32 x.c, BitVec.ofNat 32 (x.c / 2 ^ 32)]
  else if k = 2 then
    let ms := x.civil % 86400 * 1000
    outs1 [u1 (decide ((inp ins 0).toNat ≤ ms) && decide (ms < (inp ins 1).toNat))]
  else { outs := [u1 ((Config.freeWord free).getLsbD 0)], took := 1 }

/-- One call of a built-in type, with its inputs, old outputs, state and first-scan flag. -/
def callBuiltin (x : BlockCtx) (free : Nat) (e : InstEnt) (ins old : List U32) (st : List Nat) (first : Bool) :
    BlockRes :=
  let k := e.typeId % 256 - 1
  let f := e.typeId / 256
  if f = 1 then callLogic k ins
  else if f = 2 then callSelect free k ins
  else if f = 3 then callCompare k ins
  else if f = 4 then callArith free k ins
  else if f = 5 then callConv free k ins
  else if f = 6 then callTimer k x.rt ins st
  else if f = 7 then callCounter k ins old st
  else if f = 8 then callEdge k ins st first
  else if f = 9 then callBistable k ins old
  else if f = 10 then callLimit free k x.rt ins old st first
  else if f = 11 then callPoint x k e.cfg ins
  else if f = 12 then callLane x k e.cfg ins
  else if f = 13 then callPlan x k e.cfg
  else if f = 14 then callAlarm k x.rt e.key ins st
  else callTime x free k ins

/-! ### Expression code (R270, R271) -/

/-- The state of an expression call. -/
structure ExprSt where
  stack : List U32 := []
  outs : List U32 := []
  locals : List U32 := []
  err : Bool := false
  took : Nat := 0
  deriving DecidableEq, Repr

/-- Replace an entry of a list that may be shorter. -/
def putAt (l : List U32) (k : Nat) (v : U32) : List U32 :=
  (l ++ List.replicate (k + 1 - l.length) 0#32).set k v

/-- A real operation: 0 and ERR for a NaN operand or a result that is not finite (R271). -/
def exprReal (s : ExprSt) (rest : List U32) (xs : List F32) (r : F32) : ExprSt :=
  if xs.any F32.isNaN || !r.isFin then { s with stack := 0#32 :: rest, err := true }
  else { s with stack := r.bits :: rest }

/-- A real comparison: 0 and ERR for a NaN operand (R271). -/
def exprCmp (s : ExprSt) (rest : List U32) (x y : F32) (b : Bool) : ExprSt :=
  if x.isNaN || y.isNaN then { s with stack := 0#32 :: rest, err := true }
  else { s with stack := u1 b :: rest }

/-- One operand replaced. -/
def exprUn (s : ExprSt) (op : Nat) (a : U32) (r : List U32) : ExprSt :=
  let x : F32 := ⟨a⟩
  if op = 0x0E then exprReal s r [x] x.neg
  else if op = 0x0F then exprReal s r [x] x.abs
  else if op = 0x12 then exprReal s r [x] x.sqrt
  else if op = 0x13 then exprReal s r [x] (realFnAt 0x0413 [x])
  else if op = 0x14 then exprReal s r [x] (realFnAt 0x0414 [x])
  else if op = 0x1D then { s with stack := ~~~a :: r }
  else if op = 0x26 then { s with stack := (F32.ofInt a.toInt).bits :: r }
  else let q := realToDint x false; { s with stack := q.1 :: r, err := s.err || q.2 }

/-- Two operands replaced by one; a quotient beyond the DINT range is a free value. -/
def exprBin (s : ExprSt) (free op : Nat) (a b : U32) (r : List U32) : ExprSt :=
  let x : F32 := ⟨a⟩
  let y : F32 := ⟨b⟩
  if op = 0x0A then exprReal s r [x, y] (F32.add x y)
  else if op = 0x0B then exprReal s r [x, y] (F32.sub x y)
  else if op = 0x0C then exprReal s r [x, y] (F32.mul x y)
  else if op = 0x0D then exprReal s r [x, y] (F32.div x y)
  else if op = 0x10 then exprReal s r [x, y] (F32.min x y)
  else if op = 0x11 then exprReal s r [x, y] (F32.max x y)
  else if op = 0x15 then { s with stack := (a + b) :: r }
  else if op = 0x16 then { s with stack := (a - b) :: r }
  else if op = 0x17 then { s with stack := (a * b) :: r }
  else if op = 0x18 then
    (if b = 0#32 then { s with stack := 0#32 :: r, err := true }
    else if dintOk (Int.tdiv a.toInt b.toInt) then { s with stack := dint (Int.tdiv a.toInt b.toInt) :: r }
    else { s with stack := Config.freeWord (free + s.took) :: r, took := s.took + 1 })
  else if op = 0x19 then
    (if b = 0#32 then { s with stack := 0#32 :: r, err := true }
    else { s with stack := dint (Int.tmod a.toInt b.toInt) :: r })
  else if op = 0x1A then { s with stack := (a &&& b) :: r }
  else if op = 0x1B then { s with stack := (a ||| b) :: r }
  else if op = 0x1C then { s with stack := (a ^^^ b) :: r }
  else if op = 0x1E then { s with stack := (a <<< (b.toNat % 32)) :: r }
  else if op = 0x1F then { s with stack := (a >>> (b.toNat % 32)) :: r }
  else if op = 0x20 then exprCmp s r x y (F32.beq x y)
  else if op = 0x21 then exprCmp s r x y (F32.lt x y)
  else if op = 0x22 then exprCmp s r x y (F32.le x y)
  else if op = 0x23 then { s with stack := u1 (a == b) :: r }
  else if op = 0x24 then { s with stack := u1 (decide (a.toInt < b.toInt)) :: r }
  else { s with stack := u1 (decide (a.toInt ≤ b.toInt)) :: r }

/-- One-operand opcodes. -/
def isUn (op : Nat) : Bool := [0x0E, 0x0F, 0x12, 0x13, 0x14, 0x1D, 0x26, 0x27].contains op

/-- What an expression call reads: its type, inputs, the points behind them, DT and the free counter. -/
structure ExprIn where
  ty : ExprType
  ins : List U32
  pts : List (Option Point)
  c : Nat
  dt : F32
  free : Nat

/-- One instruction that is neither a jump nor RET. -/
def exprStep (q : ExprIn) (op arg : Nat) (s : ExprSt) : ExprSt :=
  if op = 0x00 then s
  else if op = 0x01 then { s with stack := inp q.ins arg :: s.stack }
  else if op = 0x02 then { s with stack := s.locals.getD arg 0#32 :: s.stack }
  else if op = 0x03 then { s with stack := q.ty.consts.getD arg 0#32 :: s.stack }
  else if op = 0x04 then { s with stack := BitVec.ofNat 32 arg :: s.stack }
  else if op = 0x2C then { s with stack := q.dt.bits :: s.stack }
  else if op = 0x2D then
    { s with stack := (match q.pts.getD arg none with | some p => p.status.setWidth 32 | none => 0#32) :: s.stack }
  else if op = 0x2E then
    { s with stack := (match q.pts.getD arg none with | some p => ptAge p q.c | none => 0#32) :: s.stack }
  else match s.stack with
    | [] => s
    | b :: r =>
      if op = 0x05 then
        (if q.ty.outReal.getD arg false && !(F32.mk b).isFin then
          { s with stack := r, outs := putAt s.outs arg 0#32, err := true }
        else { s with stack := r, outs := putAt s.outs arg b })
      else if op = 0x06 then { s with stack := r, locals := putAt s.locals arg b }
      else if op = 0x07 then { s with stack := b :: b :: r }
      else if op = 0x08 then { s with stack := r }
      else if isUn op then exprUn s op b r
      else match r with
        | [] => s
        | a :: r2 =>
          if op = 0x09 then { s with stack := a :: b :: r2 }
          else if op = 0x28 then
            (match r2 with | x :: r3 => { s with stack := (if b != 0#32 then a else x) :: r3 } | [] => s)
          else if op = 0x29 then
            (match r2 with
              | x :: r3 => exprReal s r3 [⟨x⟩, ⟨a⟩, ⟨b⟩] (F32.min (F32.max ⟨x⟩ ⟨a⟩) ⟨b⟩)
              | [] => s)
          else exprBin s q.free op a b r2

/-- The code from an instruction on; the code that remains is the fuel (R270: no backward jumps). -/
def exprRun (q : ExprIn) : Nat → List (BitVec 16) → ExprSt → ExprSt
  | 0, _, s => s
  | _, [], s => s
  | n + 1, i :: code, s =>
    let op := i.toNat / 1024
    let arg := i.toNat % 1024
    if op = 0x2F then s
    else if op = 0x2B then exprRun q n (code.drop arg) s
    else if op = 0x2A then
      (match s.stack with
        | c :: r => exprRun q n (if c = 0#32 then code.drop arg else code) { s with stack := r }
        | [] => s)
    else exprRun q n code (exprStep q op arg s)

/-- One call of an expression type: state is whether it has been called and the run time of that call; ERR is
an output beside those declared. -/
def callExpr (x : BlockCtx) (free : Nat) (ty : ExprType) (ins : List U32) (pts : List (Option Point)) (d : InstData) :
    InstData × Nat :=
  let dt := if d.st.getD 0 0 = 1 then F32.ofRat (dtSec x.rt (d.st.getD 1 0)) else F32.zero
  let q : ExprIn := { ty := ty, ins := ins, pts := pts, c := x.c, dt := dt, free := free }
  let n := ty.outReal.length
  let r := exprRun q ty.code.length ty.code { outs := d.outs.take n, locals := d.locals }
  ({ d with
      ins := ins, outs := putAt r.outs n (u1 r.err), locals := r.locals, st := [1, x.rt], firstScan := false },
    r.took)

end Sys2Proof.Machine
end

