-- ==== Sys2Proof/Machine/ModelOps.lean ====
section
/-! DEFINITION. Reading a network model (chapter "The network model"): element records and their fields,
variables and quantities; the evaluation of a plan binding (R114 to R116) and the Percolator's offer of virtual
feedback (R167, R168). -/

namespace Sys2Proof.Machine

/-! ### Element records (R42, R45) -/

/-- The reference "none". -/
abbrev refNone : Nat := 0xFFFFFFFF

/-- Field of 1 byte. -/
def rU8 (r : List Byte) (o : Nat) : Nat := leAt r o 1

/-- Field of 2 bytes. -/
def rU16 (r : List Byte) (o : Nat) : Nat := leAt r o 2

/-- Field of 4 bytes. -/
def rU32 (r : List Byte) (o : Nat) : Nat := leAt r o 4

/-- Field of 8 bytes. -/
def rU64 (r : List Byte) (o : Nat) : Nat := leAt r o 8

/-- A number field. -/
def rF (r : List Byte) (o : Nat) : F32 := fof (leAt r o 4)

/-- A number field as an exact number. -/
def rQ (r : List Byte) (o : Nat) : Rat := (rF r o).rat

/-- ELEM_ID of a record. -/
def recId (r : List Byte) : Nat := rU32 r 0

/-- Type code of an element ID (R42). -/
def idType (e : Nat) : Nat := e / 2 ^ 24

/-- Index of an element ID within its type. -/
def idIndex (e : Nat) : Nat := e % 2 ^ 24

/-- Type code of a record. -/
def recType (r : List Byte) : Nat := idType (recId r)

/-- FIXED (R45). -/
def recFixed (r : List Byte) : Bool := bitOf (rU8 r 7) 1

/-- IN_SERVICE of the image (R45). -/
def recInService (r : List Byte) : Bool := bitOf (rU8 r 7) 0

/-- NAME_KEY (R45). -/
def recKey (r : List Byte) : Nat := rU64 r 8

/-- The record of an element. -/
def findElem (m : NetModel) (e : Nat) : Option (List Byte) := m.elems.find? (fun r => recId r == e)

/-- The records of a type. -/
def elemsOf (m : NetModel) (ty : Nat) : List (List Byte) := m.elems.filter (fun r => recType r == ty)

/-- Quantity numbers of an element's variables (R41, R52, R109). -/
def recQtys (r : List Byte) : List Nat :=
  let k := rU8 r 16
  match recType r with
  | 3 => (if bitOf (rU8 r 18) 0 then [0, 1, 2, 3] else []) ++ (if bitOf (rU8 r 18) 1 then [4, 5, 6, 7] else [])
  | 4 => if k = 1 || k = 4 then [0, 1, 2, 3] else [0, 1, 2, 3, 4]
  | 5 => [0, 1, 2, 3]
  | 6 => [0, 1, 2]
  | 7 => if k = 2 then [0, 1, 2] else [0, 1]
  | 9 => if k = 1 then [0, 1, 2, 3] else [0, 1]
  | _ => [0, 1]

/-- The model variable count (R63). -/
def modelVars (m : NetModel) : Nat := (m.elems.map (fun r => (recQtys r).length)).sum

/-- Position of a quantity in model variable order from a list of records (R108). -/
def varPosFrom : List (List Byte) → Nat → Nat → Nat → Option Nat
  | [], _, _, _ => none
  | r :: l, e, q, n =>
    if recId r = e then
      (if (recQtys r).contains q then some (n + ((recQtys r).takeWhile (fun x => x != q)).length) else none)
    else varPosFrom l e q (n + (recQtys r).length)

/-- Position of a quantity in model variable order. -/
def varPos (m : NetModel) (e q : Nat) : Option Nat := varPosFrom m.elems e q 0

/-- Element and quantity of every variable, in model variable order. -/
def modelVarList (m : NetModel) : List (Nat × Nat) :=
  (m.elems.map (fun r => (recQtys r).map (fun q => (recId r, q)))).flatten

/-- A level quantity, valid at the end of its step (R109). -/
def isLevel (r : List Byte) (q : Nat) : Bool :=
  match recType r with
  | 1 => true
  | 2 => q == 1
  | 3 => q == 2 || q == 6
  | 5 => q == 0 || q == 3
  | 6 => q == 1
  | 9 => rU8 r 16 == 1 && (q == 2 || q == 3)
  | _ => false

/-- The model of a bank. -/
def State.modelBank (s : State) (b : Bool) : Option NetModel := if b then s.model.bankB else s.model.bankA

/-- The active model (R79). -/
def State.activeModel (s : State) : Option NetModel :=
  if s.model.hasActive then s.modelBank s.model.activeB else none

/-- The staged model. -/
def State.stagedModel (s : State) : Option NetModel :=
  if s.model.staged then s.modelBank (!s.model.activeB) else none

/-- The element is out of service in force (R76). -/
def State.elemOos (s : State) (e : Nat) : Bool := tgetD s.model.outOfService e false

/-! ### Plans (R107, R108, R562) -/

/-- Length of step `k` in ticks. -/
def stepLen (p : Plan) (k : Nat) : Nat :=
  if k = 0 then p.step0
  else if k = p.leapStep && p.leapKind = 1 then p.stepTicks + 8000
  else if k = p.leapStep && p.leapKind = 2 then p.stepTicks - 8000
  else p.stepTicks

/-- Start of step `k`. -/
def stepStart (p : Plan) : Nat → Nat
  | 0 => p.hstart
  | k + 1 => stepStart p k + stepLen p k

/-- End of the horizon. -/
def planEnd (p : Plan) : Nat := stepStart p p.steps

/-- The step that contains an epoch, from step `k` on that begins at `a`; the last step beyond the end. -/
def stepAtFrom (p : Plan) (t : Nat) : Nat → Nat → Nat → Nat
  | 0, k, _ => k - 1
  | n + 1, k, a => if t < a + stepLen p k then k else stepAtFrom p t n (k + 1) (a + stepLen p k)

/-- The step that contains an epoch. -/
def stepAt (p : Plan) (t : Nat) : Nat := stepAtFrom p t p.steps 0 p.hstart

/-- Trajectory value of a variable, scenario and step (R108). -/
def trajAt (p : Plan) (v sc k : Nat) : F32 := p.traj.getD ((v * p.scenarios + sc) * p.steps + k) F32.zero

/-- Twice the validity instant of step `k`: its end for a level, its midpoint for a rate (R115). -/
def instant2 (p : Plan) (level : Bool) (k : Nat) : Nat :=
  if level then 2 * (stepStart p k + stepLen p k) else 2 * stepStart p k + stepLen p k

/-- Linear interpolation between validity instants, from step `k` on; `prev` is the instant and value before. -/
def rampFrom (p : Plan) (level : Bool) (v sc t2 : Nat) : Nat → Nat → Option (Nat × Rat) → Rat
  | 0, _, prev => match prev with | some x => x.2 | none => 0
  | n + 1, k, prev =>
    let i := instant2 p level k
    let y := (trajAt p v sc k).rat
    if t2 < i then
      match prev with
      | some x => x.2 + (y - x.2) * ((t2 - x.1 : Nat) : Rat) / ((i - x.1 : Nat) : Rat)
      | none => y
    else rampFrom p level v sc t2 n (k + 1) (some (i, y))

/-- The quantity's value at an epoch (R115). -/
def planValue (p : Plan) (r : List Byte) (q v sc mode t : Nat) : Rat :=
  if recFixed r then (match tget p.fixedVals v with | some x => x.rat | none => (trajAt p v sc 0).rat)
  else if planEnd p ≤ t then (trajAt p v sc (p.steps - 1)).rat
  else if mode = 1 then rampFrom p (isLevel r q) v sc (2 * t) p.steps 0 none
  else (trajAt p v sc (stepAt p t)).rat

/-- A plan binding, evaluated at an epoch with a plan and a model: value and binding status (R114 to R116).
Fields: 0 ELEM_ID, 1 QTY, 2 SCEN, 3 MODE, 5 LEAD_TICKS, 6 GAIN, 7 OFFSET. -/
def evalBinding (plan : Option Plan) (model : Option NetModel) (b : List Nat) (e : Nat) : F32 × Nat :=
  match plan, model with
  | some p, some m =>
    match findElem m (b.getD 0 refNone), varPos m (b.getD 0 refNone) (b.getD 1 0) with
    | some r, some v =>
      let t := e + b.getD 5 0
      let sc := if b.getD 2 255 < p.scenarios then b.getD 2 255 else p.refScen
      let st := 2 * b2n (decide (planEnd p ≤ t)) + 4 * b2n (tgetD p.oos (b.getD 0 refNone) false) +
        8 * b2n (b.getD 2 255 != 255 && decide (p.scenarios ≤ b.getD 2 255)) + 16 * b2n (p.quality.status != 1)
      (F32.ofRat (qof (b.getD 6 0) * planValue p r (b.getD 1 0) v sc (b.getD 3 0) t + qof (b.getD 7 0)), st)
    | _, _ => (F32.zero, 1)
  | _, _ => (F32.zero, 1)

/-- A plan binding of a parameter, evaluated now (R115). -/
def State.binding (s : State) (b : List Nat) : F32 × Nat := evalBinding s.slv.inForce s.activeModel b s.epoch

/-! ### Virtual feedback (R166 to R168) -/

/-- Reference flow of a flow quantity, at least 1 kg/s (R167). -/
def refFlow (r : List Byte) (q : Nat) : Rat :=
  max 1 (match recType r with
    | 2 => rQ r 48
    | 6 => rQ r 32
    | 3 => if q < 4 then rQ r 36 / (4186 / 1000 * rQ r 52) else rQ r 40 / (4186 / 1000 * rQ r 56)
    | 9 => max |rQ r 36| |rQ r 32|
    | _ => 1)

/-- Growth class of a quantity: 1 temperature, 2 pressure or head, 3 mass flow, 0 every other (R167). -/
def growthClass (r : List Byte) (q : Nat) : Nat :=
  match recType r with
  | 1 => if q = 0 then 1 else 2
  | 2 => if q = 0 then 3 else 1
  | 3 => if q = 1 || q = 5 then 3 else if q = 2 || q = 6 then 1 else 0
  | 5 => if q = 3 then 1 else 0
  | 6 => if q = 0 then 3 else if q = 1 then 2 else 0
  | 9 => if rU8 r 16 = 1 then (if q < 2 then 3 else 1) else 0
  | _ => 0

/-- Growth of the bound per second (R167). -/
def State.vfGrowth (s : State) (r : List Byte) (q : Nat) : Rat :=
  match growthClass r q with
  | 1 => s.pq P.VF_GROWTH_T 0
  | 2 => s.pq P.VF_GROWTH_P 0
  | 3 => s.pq P.VF_GROWTH_M 0 / 100 * refFlow r q
  | _ => 0

/-- The estimate record of a quantity in the newest published set. -/
def estOf (set : Option EstSet) (model : Option NetModel) (e q : Nat) : Option EstRec :=
  match set, model with
  | some z, some m => match varPos m e q with
    | some v => tget z.recs v
    | none => none
  | _, _ => none

/-- The Percolator's offer at the present epoch, where conditions 1 to 3 of R168 hold: value and bound. -/
def State.vfOffer (s : State) (e q : Nat) : Option (Rat × Rat) :=
  match s.perc.set, s.activeModel with
  | some z, some m =>
    match findElem m e, estOf (some z) (some m) e q with
    | some r, some x =>
      if (x.source = 1 || x.source = 2) && decide (s.epoch ≤ z.epoch + 16 * s.perc.effPeriodMs) &&
          !x.status.getLsbD 0 && !x.status.getLsbD 4 && z.modelKey == m.key && z.modelSerial == m.serial then
        some (x.prior.rat, x.priorBound.rat + s.vfGrowth r q * (((s.epoch - z.epoch : Nat) : Rat) / 8000))
      else none
    | _, _ => none
  | _, _ => none

end Sys2Proof.Machine
end

