-- ==== Sys2Proof/Machine/StnOps.lean ====
section
/-! DEFINITION. Operations on stations: task timing, served ticks, frames and tags, the values of output
points, input frames and the state of a station (chapter "Stations, points and the remote process image"). -/

namespace Sys2Proof.Machine

/-! ### Tasks (R251, R283) -/

/-- A task. -/
def State.task1 (s : State) (t : Nat) : TaskSt := tgetD s.prog.run.tasks t {}

/-- The state with a task changed. -/
def State.setTask (s : State) (t : Nat) (v : TaskSt) : State :=
  { s with prog.run.tasks := tset s.prog.run.tasks t v }

/-- Committed period, phase and enable of a task. -/
def State.taskCommitted (s : State) (t : Nat) : PVal :=
  [s.pn P.TASK_PERIOD_TICKS t, s.pn P.TASK_PHASE_TICKS t, s.pn P.TASK_ENABLE t]

/-- Period, phase and enable of a task in force (R283). -/
def State.taskForce (s : State) (t : Nat) : PVal := (tget s.prog.taskCfg t).getD (s.taskCommitted t)

/-- TASK_PERIOD_TICKS in force. -/
def State.taskPeriod (s : State) (t : Nat) : Nat := (s.taskForce t).getD 0 800

/-- TASK_PHASE_TICKS in force. -/
def State.taskPhase (s : State) (t : Nat) : Nat := (s.taskForce t).getD 1 0

/-- TASK_ENABLE in force. -/
def State.taskEnabled (s : State) (t : Nat) : Bool := (s.taskForce t).getD 2 0 == 1

/-- A tick lies on a period and phase. -/
def onTick (t period phase : Nat) : Bool := (t + period - phase % period) % period == 0

/-- The present tick is a cycle tick of a task (R251). -/
def State.cycleTick (s : State) (t : Nat) : Bool := onTick s.epoch (s.taskPeriod t) (s.taskPhase t)

/-- Committed task timing comes into force at the next cycle tick of the new values (R283). -/
def State.adoptTasks (s : State) : State :=
  (List.range 4).foldl (fun a t =>
    let c := a.taskCommitted t
    if onTick a.epoch (c.getD 0 800) (c.getD 1 0) then { a with prog.taskCfg := tset a.prog.taskCfg t c } else a) s

/-! ### Stations -/

/-- A station. -/
def State.stn1 (s : State) (n : Nat) : Stn := tgetD s.stn.stns n {}

/-- The state with a station changed. -/
def State.setStn (s : State) (n : Nat) (v : Stn) : State := { s with stn.stns := tset s.stn.stns n v }

/-- Field `k` of the station's STN_DEF in force (R291): 0 ENABLE, 1 PORT, 2 TASK, 4 CYCLE_DIV, 5 CYCLE_PHASE,
6 VLAN, 7 PCP, 9 MAC, 11 POINT_BASE, 12 POINT_COUNT, 14 HOLD_MS, 15 AUTH_LABEL. -/
def State.stnF (s : State) (n k : Nat) : Nat := (s.stn1 n).cfgDef.getD k 0

/-- The station is enabled by its committed definition. -/
def State.stnOn (s : State) (n : Nat) : Bool := s.pfld P.STN_DEF n 0 == 1

/-- A tick is a served tick of a station by its committed definition (R295). -/
def State.servedAt (s : State) (n e : Nat) : Bool :=
  let t := s.pfld P.STN_DEF n 2
  let p := s.taskPeriod t
  onTick e p (s.taskPhase t) &&
    (e - s.taskPhase t) / p % (max 1 (s.pfld P.STN_DEF n 4)) == s.pfld P.STN_DEF n 5

/-- Station cycle in ticks (R291). -/
def State.stnCycle (s : State) (n : Nat) : Nat := s.stnF n 4 * s.taskPeriod (s.stnF n 2)

/-- DIR of the station's point `j` in force. -/
def State.stnDir (s : State) (n j : Nat) : Nat := (s.stn1 n).cfgPts.getD (6 * j) 0

/-- Field of a point descriptor in force as a number: 3 LO, 4 HI, 5 STN_SAFE (R292). -/
def State.stnPtF (s : State) (n j k : Nat) : F32 := fof ((s.stn1 n).cfgPts.getD (6 * j + k) 0)

/-- Point number of the station's point `j`. -/
def State.stnPt (s : State) (n j : Nat) : Nat := s.stnF n 11 + j

/-- Output points of a station, by index. -/
def State.stnOuts (s : State) (n : Nat) : List Nat :=
  (List.range (s.stnF n 12)).filter (fun j => s.stnDir n j == 1)

/-- Input points of a station, by index. -/
def State.stnIns (s : State) (n : Nat) : List Nat :=
  (List.range (s.stnF n 12)).filter (fun j => s.stnDir n j == 0)

/-- Network ports of a station: 2 access A, 3 access B (R291, R405). -/
def State.stnPorts (s : State) (n : Nat) : List Nat :=
  if s.stnF n 1 = 0 then [2] else if s.stnF n 1 = 1 then [3] else [2, 3]

/-- Every point record of a station changed. -/
def State.mapStnPts (s : State) (n : Nat) (f : Nat → Point → Point) : State :=
  (List.range (s.stnF n 12)).foldl (fun a j => a.setPt (s.stnPt n j) (f j (a.pt (s.stnPt n j)))) s

/-- Every output point record of a station changed. -/
def State.mapStnOuts (s : State) (n : Nat) (f : Point → Point) : State :=
  (s.stnOuts n).foldl (fun a j => a.setPt (s.stnPt n j) (f (a.pt (s.stnPt n j)))) s

/-- The point is marked as one whose station is lost (R288, R305). -/
def Point_lost (p : Point) : Point := { p with status := (p.status ||| stLost) &&& ~~~stReturning }

/-- The output point's frame was not sent or not applied. -/
def Point_notApplied (p : Point) : Point := { p with status := p.status ||| stNotApplied }

/-! ### Frames (R300 to R304) -/

/-- The header of a frame. -/
def stnHeader (ftype n claim epoch seq seg segs first count : Nat) : List Byte :=
  beRec [(1, 1), (1, ftype), (2, n), (4, claim), (8, epoch), (2, seq), (1, seg), (1, segs), (2, first), (2, count)]

/-- The nonce of a frame's tag (R304). -/
def stnNonce (ftype n claim epoch seq seg : Nat) : List Byte :=
  be 12 (epoch % 2 ^ 47 * 2 ^ 49 + claim % 2 * 2 ^ 48 + n * 2 ^ 32 + ftype * 2 ^ 24 + seg * 2 ^ 16 + seq)

/-- The tag of a frame. -/
def stnTag (key : List Byte) (ftype n claim epoch seq seg segs first count : Nat) (payload : List Byte) : List Byte :=
  Config.gcmTag key (stnNonce ftype n claim epoch seq seg)
    (stnHeader ftype n claim epoch seq seg segs first count ++ payload) []

/-- Key label of a station (R291). -/
def State.stnLabel (s : State) (n : Nat) : U64 := BitVec.ofNat 64 (s.stnF n 15)

/-- A list cut into pieces of `k`, with fuel; an empty list gives one empty piece. -/
def chunksOf {α : Type} (k : Nat) : Nat → List α → List (List α)
  | 0, l => [l]
  | n + 1, l => if l.length ≤ k then [l] else l.take k :: chunksOf k n (l.drop k)

/-- One segment of a frame on every port of the station. -/
def State.sendSeg (s : State) (n ftype epoch seg segs first count : Nat) (key payload : List Byte) : State :=
  let seq := (s.stn1 n).txSeq
  let hdr := stnHeader ftype n s.pair.claim epoch seq seg segs first count
  let bytes := be 2 (s.stnF n 7 * 8192 + s.stnF n 6) ++ be 2 (s.bootN P.STN_ETHERTYPE) ++ hdr ++ payload ++
    stnTag key ftype n s.pair.claim epoch seq seg segs first count payload
  (s.stnPorts n).foldl (fun a p => a.sendOn p 0x8100 (BitVec.ofNat 48 (s.stnF n 9)) bytes) s

/-- A frame, segment by segment, each with its first index, its count of entries and its payload. -/
def State.sendStn (s : State) (n ftype epoch : Nat) (key : List Byte) (segs : List (Nat × Nat × List Byte)) : State :=
  let k := segs.length
  let s1 := (segs.foldl (fun (a : State × Nat) x =>
    (a.1.sendSeg n ftype epoch a.2 k x.1 x.2.1 key x.2.2, a.2 + 1)) (s, 0)).1
  s1.setStn n { s1.stn1 n with txSeq := ((s1.stn1 n).txSeq + 1) % 65536 }

/-- Payload entry of an OUTPUT frame (R301). -/
def outEntry (j : Nat) (v : F32) : List Byte := be 4 v.bits.toNat ++ be 2 j ++ be 2 0

/-- Segments of an OUTPUT frame, at most 176 entries each (R300). -/
def outSegs (vals : List (Nat × F32)) : List (Nat × Nat × List Byte) :=
  (chunksOf 176 (vals.length + 1) vals).map (fun c =>
    ((c.headD (0, F32.zero)).1, c.length, (c.map (fun x => outEntry x.1 x.2)).flatten))

/-- An OUTPUT frame of values by index, with its apply epoch: the records hold the value, the epoch and
OUTPUT_UNCONFIRMED; without a key nothing is sent and the points are OUTPUT_NOT_APPLIED (R290, R299, R465). -/
def State.sendOutputs (s : State) (n a : Nat) (vals : List (Nat × F32)) : State :=
  match s.txKeyAt (s.stnLabel n) 4 a with
  | none => vals.foldl (fun t x => t.setPt (s.stnPt n x.1) (Point_notApplied (t.pt (s.stnPt n x.1)))) s
  | some k =>
    vals.foldl (fun t x => t.setPt (s.stnPt n x.1)
        { value := x.2, status := stUnconfirmed ||| s.islandBit, epoch := a })
      (s.sendStn n 4 a k (outSegs vals))

/-! ### Values of output points (R290) -/

/-- The lane that names a point as OUT_POINT. -/
def State.laneOwner (s : State) (p : Nat) : Option Nat :=
  ((s.pEntries P.OUT_POINT).find? (fun x => x.2.headD 0xFFFFFFFF == p)).map (·.1)

/-- The newest published value of a point's owner: a lane that has completed a sample, or the program. -/
def State.ownerVal (s : State) (p : Nat) : Option F32 :=
  match s.laneOwner p with
  | some l => if (s.lane? l).core.lastDone.isSome then some (s.lane? l).core.out else none
  | none => tget s.prog.run.outVals p

/-- The value that an OUTPUT frame carries for point `j` of a station (R290). -/
def State.stnOutVal (s : State) (n j : Nat) : F32 :=
  let p := s.stnPt n j
  match s.ownerVal p with
  | some v => v
  | none => if (s.pt p).status.getLsbD 5 then s.stnPtF n j 5 else (s.pt p).value

/-- Every output point of a station with its value. -/
def State.stnVals (s : State) (n : Nat) : List (Nat × F32) := (s.stnOuts n).map (fun j => (j, s.stnOutVal n j))

/-- The OUTPUT frame of a served tick. -/
def State.stnOutput (s : State) (n a : Nat) : State :=
  let s1 := s.sendOutputs n a (s.stnVals n)
  s1.setStn n { s1.stn1 n with outQueued := true }

/-- OUTPUT frames stamped with an epoch for every PRESENT station of a task (R261). -/
def State.stnExtra (s : State) (t a : Nat) : State :=
  (tkeys s.stn.stns).foldl (fun b n =>
    if (b.stn1 n).state = 4 && !(b.stn1 n).lostDue && b.stnF n 2 == t then b.sendOutputs n a (b.stnVals n) else b) s

/-! ### CONFIG (R297, R303) -/

/-- Rank of a station and number of stations on its port that share a served tick (R297). -/
def State.stnRank (s : State) (n e : Nat) : Nat × Nat :=
  let port := if s.stnF n 1 = 1 then 1 else 0
  let l := ((s.pEntries P.STN_DEF).filter (fun x => x.2.getD 0 0 == 1 && (x.2.getD 1 0 == port || x.2.getD 1 0 == 2)
    && s.servedAt x.1 e)).map (·.1)
  ((l.filter (fun m => decide (m < n))).length, l.length)

/-- TX_OFFSET_US (R297). -/
def State.stnTxOffset (s : State) (n e : Nat) : Nat :=
  let r := s.stnRank n e
  r.1 * s.pn P.STN_INPUT_WINDOW_US 0 / max 1 r.2

/-- CONFIG payload from offset 4 on. -/
def State.cfgBody (s : State) (n origin : Nat) : List Byte :=
  beRec [(4, s.stnCycle n), (8, origin), (4, s.stnTxOffset n origin), (4, s.stnF n 14), (2, s.stnF n 12),
    (2, (s.stnOuts n).length), (6, s.pn P.STN_DEST_MAC 0), (2, 0)] ++
  ((s.stnOuts n).map (fun j => be 4 (s.stnPtF n j 5).bits.toNat)).flatten

/-- A CONFIG frame at a served tick. -/
def State.sendConfig (s : State) (n : Nat) : State :=
  let origin := s.epoch + s.stnCycle n
  let body := s.cfgBody n origin
  let crc := crc32 body
  let s1 := s.setStn n { s.stn1 n with cfgCrc := crc }
  match s.txKeyAt (s.stnLabel n) 4 origin with
  | none => s1
  | some k => s1.sendStn n 1 origin k
      ((chunksOf 1408 8 (be 4 crc.toNat ++ body)).map (fun c => (0, 0, c)))

/-! ### Received frames (R301, R304, R312) -/

/-- The bits of a big-endian field of the payload under a mask are 0. -/
def fieldClear (f : StnFrame) (off len mask : Nat) : Bool := Nat.land (beAt f.payload off len) mask == 0

/-- The reserved fields of the payload are 0: those of the station section and of each PSTAT of an INPUT frame, and the
last three bytes of a CONFIG_ACK (R301, R302, R304). -/
def payloadClear (f : StnFrame) : Bool :=
  if f.kind = 2 then fieldClear f 5 3 0xFFFFFF
  else if f.kind = 3 then
    let o := if f.seg = 0 then 16 else 0
    (f.seg != 0 || (fieldClear f 8 2 0xFFF0 && fieldClear f 12 4 0xFFFFFFFF)) &&
    (List.range f.count).all (fun k => fieldClear f (o + 8 * k + 4) 2 0x0FFC)
  else true

/-- A frame passes R304. -/
def State.stnFrameOk (s : State) (f : StnFrame) : Bool :=
  f.version == 1 && f.rsv == 0 && payloadClear f && decide (f.station < 4096) && s.stnOn f.station &&
  f.mac == BitVec.ofNat 48 (s.pfld P.STN_DEF f.station 9) &&
  s.tagOk (BitVec.ofNat 64 (s.pfld P.STN_DEF f.station 15)) 4
    (fun k => stnTag k f.kind f.station f.claim f.epoch f.seq f.seg f.segCount f.first f.count f.payload) f.tag

/-- The frame can reach the module: an access port that serves stations, with its link. -/
def State.stnHears (s : State) (f : StnFrame) : Bool :=
  s.rst.stage == 10 && !s.rst.asserted && decide (f.port < 2) && (s.port (2 + f.port)).mode == 2 &&
  (s.port (2 + f.port)).link

/-- A frame that fails R304 is discarded and counted; for an enabled station it counts towards its tag
failures (R304, R306). -/
def State.stnReject (s : State) (f : StnFrame) : State :=
  let s1 := { s with stn.framesRejected := s.stn.framesRejected + 1 }
  if decide (f.station < 4096) && s.stnOn f.station then
    s1.setStn f.station { s1.stn1 f.station with tagFails := (s1.stn1 f.station).tagFails + 1 }
  else s1

/-- A station reports a claim above the unit's own: its frames to that station count as rejected (R312). -/
def State.stnClaim (s : State) (f : StnFrame) : State :=
  let n := f.station
  let s1 := s.setStn n { s.stn1 n with highestClaim := f.claim }
  if s.pair.claim < f.claim then
    let s2 := { s1 with
      stn.claimRejects := s1.stn.claimRejects + 1
      pair.genSeen := max s1.pair.genSeen (f.claim / 2) }
    if s2.isActive then s2.mapStnOuts n Point_notApplied else s2
  else { s1 with pair.genSeen := max s1.pair.genSeen (f.claim / 2) }

/-- A frame that verifies: the copy of a dual-homed station's segment is dropped, the claim is seen. The flag
says that the frame is new. -/
def State.stnTake (s : State) (f : StnFrame) : State × Bool :=
  let n := f.station
  let x := s.stn1 n
  if x.rxSeqs.contains (f.seq, f.seg) then (s.setStn n { x with tagFails := 0 }, false)
  else
    let s1 := s.setStn n { x with tagFails := 0, rxSeqs := ((f.seq, f.seg) :: x.rxSeqs).take 64 }
    (if f.seg = 0 then s1.stnClaim f else s1, true)

/-- LAST_APPLIED of segment 0 of an INPUT frame (R302). -/
def segApplied (f : StnFrame) : Nat := beAt f.payload 0 8

/-- An INPUT frame with a claim above the unit's own is a claim report, and live-claim evidence where the
station's LAST_APPLIED has advanced (R490). -/
def State.stnReport (s : State) (f : StnFrame) : State :=
  if f.seg = 0 && decide (s.pair.claim < f.claim) then
    let n := f.station
    let a := segApplied f
    let s1 := s.claimSeen f.claim
    let s2 := if (s.stn1 n).lastAdvance < a then { s1 with pair.lastLive := some s.epoch } else s1
    s2.setStn n { s2.stn1 n with lastAdvance := a }
  else s

/-- The entries of a segment (R302). -/
def segEntries (f : StnFrame) : List (F32 × (BitVec 16 × Nat)) :=
  let o := if f.seg = 0 then 16 else 0
  (List.range f.count).map (fun k =>
    (fof (beAt f.payload (o + 8 * k) 4), (BitVec.ofNat 16 (beAt f.payload (o + 8 * k + 4) 2),
      beAt f.payload (o + 8 * k + 6) 2)))

/-- A segment as it is kept. -/
def segOf (f : StnFrame) : StnSeg :=
  { first := f.first, entries := segEntries f, claim := f.claim, present := true,
    lastApplied := if f.seg = 0 then segApplied f else 0,
    flags := if f.seg = 0 then BitVec.ofNat 16 (beAt f.payload 8 2) else 0#16 }

/-- Every segment of a frame is there (R298). -/
def frameWhole (x : StnIn) : Bool :=
  decide (0 < x.segCount) && (List.range x.segCount).all (fun k => (tgetD x.segs k {}).present)

/-- The station's INPUT frame for a served tick counts (R298). -/
def State.stnCounted (s : State) (n c : Nat) : Bool :=
  match (s.stn1 n).inFrame with
  | some x => x.epoch == c && frameWhole x && !(s.stn1 n).discardIn
  | none => false

/-! ### Input close (R298, R302, R307, R308) -/

/-- The record of an input point (R302). -/
def State.stnRecord (s : State) (n j c : Nat) (ret unsync : Bool) (e : F32 × (BitVec 16 × Nat)) : Point :=
  let ps := e.2.1
  { value := e.1, age := e.2.2, epoch := c,
    status := stIf (ps.getLsbD 0 || unsync) stInvalid |||
      stIf (ps.getLsbD 1 || outside e.1 (s.stnPtF n j 3) (s.stnPtF n j 4)) stRange |||
      (ps &&& 0xF000#16) ||| stIf ret stReturning ||| stIf (s.stn1 n).servedIsland stIsland }

/-- The entries of a segment enter the process image. -/
def State.enterSeg (s : State) (n c : Nat) (ret unsync : Bool) (g : StnSeg) : State :=
  (((s.stnIns n).filter (fun j => decide (g.first ≤ j))).zip g.entries).foldl (fun a x =>
    a.setPt (s.stnPt n x.1) (s.stnRecord n x.1 c ret unsync x.2)) s

/-- Output points against the station's LAST_APPLIED: confirmed, or not applied (R288, R307). -/
def confirmPoint (c last : Nat) (p : Point) : Point :=
  if p.epoch ≤ last then { p with status := p.status &&& ~~~(stUnconfirmed ||| stNotApplied) }
  else if p.epoch ≤ c && p.status.getLsbD 7 then Point_notApplied p
  else p

/-- Output points while the station is RETURNING, and once it is PRESENT. -/
def backPoint (ret : Bool) (p : Point) : Point :=
  { p with status := (p.status &&& ~~~(stLost ||| stReturning)) ||| stIf ret stReturning }

/-- The state of a station after a counted frame (R305, R308). -/
def stnNext (x : Stn) (run : Bool) : Nat :=
  if x.state = 4 then 4
  else if x.state = 3 then (if !run || x.returnPub then 4 else 3)
  else if x.configured then 3
  else x.state

/-- A counted frame at an input close. -/
def State.stnEnter (s : State) (n c : Nat) (f : StnIn) : State :=
  let x := s.stn1 n
  let g0 := tgetD f.segs 0 {}
  let nx := stnNext x (s.prog.run.mode == 2)
  let s1 := s.setStn n { x with
    state := nx, reason := if nx = 3 || nx = 4 then 0 else x.reason, flags := g0.flags,
    lastInput := c, lastApplied := g0.lastApplied, awaiting := false, lostDue := false,
    returnPub := if nx = 3 then x.returnPub && x.state == 3 else false, inFrame := none }
  if nx = 3 || nx = 4 then
    let s2 := (List.range f.segCount).foldl (fun a k =>
      a.enterSeg n c (nx == 3) (g0.flags.getLsbD 3) (tgetD f.segs k {})) s1
    (s2.mapStnOuts n (backPoint (nx == 3))).mapStnOuts n (confirmPoint c g0.lastApplied)
  else s1

/-- A station becomes LOST (R305, R307). -/
def State.stnLose (s : State) (n : Nat) : State :=
  let x := s.stn1 n
  (s.setStn n { x with
    state := 5, lostCount := x.lostCount + 1, lostDue := false, discardIn := false, returnPub := false,
    inFrame := none }).mapStnPts n (fun _ p => Point_lost p)

/-- No counted frame at the input close: a station that was there is lost (R307). -/
def State.stnMissed (s : State) (n : Nat) (x : Stn) : State :=
  if x.state = 3 || x.state = 4 then
    let s1 := s.setStn n { x with
      missing := x.missing + 1, reason := if x.discardIn then x.reason else 1 }
    s1.stnLose n
  else s.setStn n { x with inFrame := none, discardIn := false }

/-- One station at the input close of its served tick. -/
def State.stnClose (s : State) (n c : Nat) : State :=
  let x := s.stn1 n
  match x.inFrame with
  | some f =>
    if s.stnCounted n c then s.stnEnter n c f
    else s.stnMissed n x
  | none => s.stnMissed n x

/-- Stations that a task serves at a tick. -/
def State.stnsAt (s : State) (t c : Nat) : List Nat :=
  (tkeys s.stn.stns).filter (fun n =>
    (s.stn1 n).state != 0 && (s.stn1 n).servedEpoch == c && s.stnF n 2 == t && s.stnF n 0 == 1)

/-- The frame of a station is awaited (R307). -/
def State.stnAwaited (s : State) (n : Nat) : Bool :=
  ((s.stn1 n).state == 3 || (s.stn1 n).state == 4) && !(s.stn1 n).discardIn

/-- Every awaited frame has been received (R253). -/
def State.allIn (s : State) (t c : Nat) : Bool :=
  (s.stnsAt t c).all (fun n => !s.stnAwaited n || s.stnCounted n c)

/-! ### Absence (R306, R307) -/

/-- First point, point count and descriptors of a station. -/
def State.stnDesc (s : State) (n : Nat) : Nat × (Nat × List Nat) := (s.stnF n 11, s.stnF n 12, (s.stn1 n).cfgPts)

/-- A station's absence, later than the tick boundary: between its served tick and the input close the inputs are discarded; afterwards it is
lost from its next served tick, and an OUTPUT frame not yet queued is not sent. -/
def State.stnAbsent (u : State) (n reason : Nat) : State :=
  let s := u.closeEdge
  let x := s.stn1 n
  if x.state = 3 || x.state = 4 then
    (if (s.task1 (s.stnF n 2)).closeDue = some x.servedEpoch then
      s.setStn n { x with discardIn := true, reason := reason }
    else if x.lostDue then s
    else
      let s1 := s.setStn n { x with lostDue := true, reason := reason }
      if x.state = 4 && !x.outQueued then s1.mapStnOuts n Point_notApplied else s1)
  else s

end Sys2Proof.Machine
end

