-- ==== Sys2Proof/Machine/PowerOps.lean ====
section
/-! DEFINITION. The power governor: measured margins and the set-point of the core rail (chapter "Power, reset, the
Drip domain and the calendar"). -/

namespace Sys2Proof.Machine

/-- A measured margin of a deadline class: 0 lanes, 1 tasks, 2 solves, 3 ports; those of the last second are
kept (R514, R515, R542). -/
def State.marginSeen (s : State) (cls : Nat) (m : F32) : State :=
  { s with
    pwr.lastMargin := tset s.pwr.lastMargin cls m
    pwr.marginAt := tset s.pwr.marginAt cls s.epoch
    pwr.marginSpeed := tset s.pwr.marginSpeed cls s.pwr.speedIndex
    pwr.recent := s.pwr.recent.filter (fun x => decide (s.epoch ≤ x.1 + 8000)) ++ [(s.epoch, cls, m)] }

/-- The smallest of a list of margins with its class; 1 and 0 where there is none (R542). -/
def marginLeast : List (Nat × (Nat × F32)) → F32 × Nat
  | [] => (F32.one, 0)
  | [x] => (x.2.2, x.2.1)
  | x :: r => let y := marginLeast r; if F32.le x.2.2 y.1 then (x.2.2, x.2.1) else y

/-- MARGIN_MIN and MARGIN_CLASS (R542). -/
def State.marginMin (s : State) : F32 × Nat :=
  marginLeast (s.pwr.recent.filter (fun x => decide (s.epoch ≤ x.1 + 8000)))

/-- The core rail's target: in guaranteed mode GOV_PIN_MV, otherwise the governed set-point; under the sag guard at
least GOV_PIN_MV and 710 mV (R516, R517, R518). -/
def State.railMv (s : State) : Nat :=
  let pin := s.pn P.GOV_PIN_MV 0
  if s.pwr.sagGuard then max (max pin s.pwr.setMv) 710
  else if s.pn P.GOV_MODE 0 = 1 then pin
  else s.pwr.setMv

/-- The rail follows its target once the governor has taken it, at the end of release step 7 (R521). -/
def State.followRail (s : State) : State :=
  if 7 ≤ s.rst.stage then { s with rst.coreMv := s.railMv } else s

/-- Commits of the governor's parameters: in guaranteed mode the set-point is GOV_PIN_MV (R517). -/
def State.govCommitted (s : State) : State :=
  ({ s with pwr.setMv := if s.pn P.GOV_MODE 0 = 1 then s.pn P.GOV_PIN_MV 0 else s.pwr.setMv } : State).followRail

/-! ### The smallest margin (R29, R514 to R516) -/

/-- The governor has the rail and acts (R516, R521). -/
def State.governs (s : State) : Bool := decide (7 ≤ s.rst.stage) && s.pn P.GOV_MODE 0 == 0

/-- A deadline class has work due (R514): an enabled lane, an enabled task in RUN, a running solve, a port that is on. -/
def State.classActive (s : State) (cls : Nat) : Bool :=
  if cls = 0 then s.lane.lanes.any (fun x => x.2.enabled)
  else if cls = 1 then s.prog.run.mode == 2 && (List.range 4).any (fun t => s.taskEnabled t)
  else if cls = 2 then s.slv.running.isSome
  else s.net.ports.any (fun x => decide (x.1 < 5) && x.2.mode != 0)

/-- The margin of a class: the last measured one; after 10 ms without a measurement the predicted one, whose completion
time is rescaled by the change in SPEED_INDEX (R515; log entry 58). -/
def State.marginOf (s : State) (cls : Nat) : Option F32 :=
  (tget s.pwr.lastMargin cls).map (fun m =>
    let old := (tgetD s.pwr.marginSpeed cls F32.one).rat
    if s.epoch ≤ tgetD s.pwr.marginAt cls 0 + 80 || old ≤ 0 then m
    else F32.ofRat (1 - (1 - m.rat) * s.pwr.speedIndex.rat / old))

/-- The smallest margin M among the active classes that have one; 1 where there is none (R516). -/
def State.smallest (s : State) : F32 :=
  (List.range 4).foldl (fun a c =>
    if s.classActive c then (match s.marginOf c with | some m => F32.min a m | none => a) else a) F32.one

/-- The governor acts on a measurement: while M is below GOV_TARGET the rail rises by GOV_RAISE_MV, up to 900 mV, and
the first such measurement counts as a breach; at or above it the breach ends; short of GOV_TARGET + 0.05 the settling
time starts anew (R29, R516; log entry 58). -/
def State.govern (s : State) : State :=
  let target := s.pf P.GOV_TARGET 0
  let m := s.smallest
  if !s.governs then s
  else if F32.lt m target then
    ({ s with
      pwr.breach := true
      pwr.breaches := if s.pwr.breach then s.pwr.breaches else s.pwr.breaches + 1
      pwr.settleFrom := s.epoch
      pwr.setMv := min 900 (s.pwr.setMv + s.pn P.GOV_RAISE_MV 0) } : State).followRail
  else
    { s with
      pwr.breach := false
      pwr.settleFrom := if F32.lt m (F32.add target (F32.ofRatio 5 100)) then s.epoch else s.pwr.settleFrom }

/-- A measured margin, on which the governor acts. -/
def State.marginIn (s : State) (cls : Nat) (m : F32) : State := (s.marginSeen cls m).govern

end Sys2Proof.Machine
end

