-- ==== Sys2Proof/Machine/Stations.lean ====
section
/-! DEFINITION. The events of the stations and of the links (chapter "Stations, points and the remote process
image"). -/

namespace Sys2Proof.Machine

/-- A station joins anew: OFFLINE, its points lost, its inputs INITIAL (R294, R305). -/
def State.stnOffline (s : State) (n : Nat) : State :=
  let x := s.stn1 n
  (s.setStn n { x with
    state := 1, reason := 0, configured := false, awaiting := false, rejoinDue := false, lostDue := false,
    discardIn := false, returnPub := false, inFrame := none }).mapStnPts n (fun j p =>
      if s.stnDir n j = 0 then { Point_lost p with status := (Point_lost p).status ||| stInitial } else Point_lost p)

/-- What a served tick does with the state of a station (R294, R305, R307). -/
def State.stnServe (s : State) (n : Nat) : State :=
  let x := s.stn1 n
  if x.rejoinDue || x.state = 0 then s.stnOffline n
  else if x.lostDue then s.stnLose n
  else s

/-- CONFIG at the served ticks of a joining station, and at every 100th of a refused one (R305). -/
def State.stnOffer (s : State) (n : Nat) : State :=
  let x := s.stn1 n
  if x.state = 2 && !x.awaiting then s.sendConfig n
  else if x.state = 6 then
    let s1 := s.setStn n { x with servedCount := x.servedCount + 1 }
    if (x.servedCount + 1) % 100 = 0 then s1.sendConfig n else s1
  else s

/-- SERVED_TICK, order 6: the configuration in force, the state of the station, CONFIG (R294, R295, R305). -/
def execServedTick (stn : Nat) (s : State) : Host.Outcome State Fault Refusal :=
  .next (
    if s.live && s.orderOk 6 && decide (stn < 4096) && s.stnOn stn && s.servedAt stn s.epoch &&
        (s.stn1 stn).servedEpoch != s.epoch then
      let x := s.stn1 stn
      let s1 := (s.atOrder 6).setStn stn { x with
        cfgDef := s.pv P.STN_DEF stn, cfgPts := s.pv P.STN_POINTS stn }
      let s2 := s1.stnServe stn
      let s3 := s2.setStn stn { s2.stn1 stn with
        servedEpoch := s.epoch, servedIsland := s.time.island, outQueued := false, discardIn := false, inFrame := none }
      let t := s3.stnF stn 2
      (s3.setTask t { s3.task1 t with closeDue := some s.epoch }).stnOffer stn
    else s)

/-- The frames of a served tick leave at A − OUT_LEAD_TICKS where no cycle publishes them: out of RUN, or with
the task not enabled (R299; log entry 43). -/
def State.outDueNow (s : State) (n : Nat) : Bool :=
  let t := s.stnF n 2
  (s.stn1 n).state == 4 && !(s.stn1 n).lostDue && !(s.stn1 n).outQueued &&
  (s.prog.run.mode != 2 || !s.taskEnabled t) &&
  s.epoch + s.pn P.OUT_LEAD_TICKS t == (s.stn1 n).servedEpoch + s.pn P.APPLY_OFFSET_TICKS t

/-- STN_OUTPUT_DUE (R262, R299). -/
def execStnOutputDue (stn : Nat) (s : State) : Host.Outcome State Fault Refusal :=
  .next (
    if s.live && s.outDueNow stn then
      s.stnOutput stn ((s.stn1 stn).servedEpoch + s.pn P.APPLY_OFFSET_TICKS (s.stnF stn 2))
    else s)

/-- The station's frame is collected, segment by segment; one that comes after input close is discarded
(R298). -/
def State.stnCollect (s : State) (f : StnFrame) : State :=
  let n := f.station
  let x := s.stn1 n
  if f.epoch = x.servedEpoch && (s.task1 (s.stnF n 2)).closeDue == some f.epoch then
    let cur := match x.inFrame with
      | some y => if y.epoch = f.epoch && y.seq = f.seq then y
          else { epoch := f.epoch, seq := f.seq, segCount := f.segCount, segs := [] }
      | none => { epoch := f.epoch, seq := f.seq, segCount := f.segCount, segs := [] }
    s.setStn n { x with inFrame := some { cur with segs := tset cur.segs f.seg (segOf f) } }
  else s

/-- The module's configuration of the station does not match its INPUT frame: never acknowledged, or another
point count (R305). -/
def State.stnMismatch (s : State) (f : StnFrame) : Bool :=
  !(s.stn1 f.station).configured || (f.seg == 0 && beAt f.payload 10 2 != s.stnF f.station 12)

/-- An INPUT frame that verifies at an active unit. -/
def State.stnInput (s : State) (f : StnFrame) : State :=
  let x := s.stn1 f.station
  if (x.state = 1 || x.state = 5) && s.stnMismatch f then
    s.setStn f.station { x with state := 2, configured := false, awaiting := false }
  else s.stnCollect f

/-- STN_INPUT_RX: on a standby only the claim report counts (R298, R304, R312, R483, R490). -/
def execStnInputRx (f : StnFrame) (s : State) : Host.Outcome State Fault Refusal :=
  .next (
    if s.stnHears f && f.kind == 3 then
      (if s.stnFrameOk f then
        let r := s.stnTake f
        if r.2 then
          let s1 := r.1.stnReport f
          if s1.live then s1.stnInput f else s1
        else r.1
      else s.stnReject f)
    else s)

/-- STN_HELLO_RX (R305). -/
def execStnHelloRx (f : StnFrame) (s : State) : Host.Outcome State Fault Refusal :=
  .next (
    if s.stnHears f && f.kind == 5 then
      (if s.stnFrameOk f then
        let r := s.stnTake f
        let x := r.1.stn1 f.station
        if r.2 && r.1.live && (x.state = 1 || x.state = 5) then
          r.1.setStn f.station { x with state := 2, configured := false, awaiting := false }
        else r.1
      else s.stnReject f)
    else s)

/-- The station has answered its CONFIG (R301, R305). -/
def State.stnAnswer (s : State) (f : StnFrame) : State :=
  let n := f.station
  let x := s.stn1 n
  let res := beAt f.payload 4 1
  if (x.state = 2 || x.state = 6) && beAt f.payload 0 4 == x.cfgCrc.toNat then
    (if res = 0 then s.setStn n { x with state := 2, configured := true, awaiting := true, reason := 0 }
    else if res ≤ 3 then
      let s1 := s.closeEdge.setStn n { x with
        state := 6, reason := res, configured := false, awaiting := false, servedCount := if x.state = 6 then x.servedCount else 0 }
      s1.mapStnPts n (fun _ p => Point_lost p)
    else s)
  else s

/-- STN_CONFIG_ACK_RX (R305). -/
def execStnConfigAckRx (f : StnFrame) (s : State) : Host.Outcome State Fault Refusal :=
  .next (
    if s.stnHears f && f.kind == 2 then
      (if s.stnFrameOk f then
        let r := s.stnTake f
        if r.2 && r.1.live then r.1.stnAnswer f else r.1
      else s.stnReject f)
    else s)

/-- STN_LEAVE_RX (R306). -/
def execStnLeaveRx (f : StnFrame) (s : State) : Host.Outcome State Fault Refusal :=
  .next (
    if s.stnHears f && f.kind == 6 then
      (if s.stnFrameOk f then
        let r := s.stnTake f
        if r.2 && r.1.live then r.1.stnAbsent f.station 2 else r.1
      else s.stnReject f)
    else s)

/-- STN_TAG_FAILURES: 8 consecutive frames have failed R304 (R306). -/
def execStnTagFailures (stn : Nat) (s : State) : Host.Outcome State Fault Refusal :=
  .next (
    if s.live && decide (stn < 4096) && decide (8 ≤ (s.stn1 stn).tagFails) then
      (s.setStn stn { s.stn1 stn with tagFails := 0 }).stnAbsent stn 4
    else s)

/-- PORT_LINK_CHANGE: stations whose ports have all lost link are absent (R306, R377). -/
def execPortLinkChange (port : Nat) (up : Bool) (s : State) : Host.Outcome State Fault Refusal :=
  .next (
    if decide (port < 6) && decide (8 ≤ s.rst.stage) && !s.rst.asserted then
      let s1 := s.setPort port { s.port port with link := up }
      if !up && s1.live then
        (tkeys s1.stn.stns).foldl (fun a n =>
          if (a.stnPorts n).contains port && (a.stnPorts n).all (fun p => !(a.port p).link) then a.stnAbsent n 3
          else a) s1
      else s1
    else s)

/-- The stations of a task at the input close of a served tick (R298). -/
def State.closeInputs (s : State) (t c : Nat) : State := (s.stnsAt t c).foldl (fun a n => a.stnClose n c) s

/-- The points of the stations of a task over a view. -/
def State.overlay (s : State) (t : Nat) (view : Tab Point) : Tab Point :=
  (tkeys s.stn.stns).foldl (fun v n =>
    if s.stnF n 2 = t then
      (List.range (s.stnF n 12)).foldl (fun w j => tset w (s.stnPt n j) (s.pt (s.stnPt n j))) v
    else v) view

/-- The view of the cycle is fixed (R253, R254). -/
def State.closeCycle (s : State) (t c : Nat) (timeout : Bool) : State :=
  let x := s.task1 t
  let x1 := { x with
    closeDue := none
    inputTimeouts := if timeout && x.cycle.isSome then x.inputTimeouts + 1 else x.inputTimeouts }
  match x.cycle with
  | some y => if y.c = c then
      let own := (tkeys s.stn.stns).filter (fun n => s.stnF n 2 == t)
      s.setTask t { x1 with cycle := some { y with
        closed := true, view := s.overlay t y.view
        stns := own.foldl (fun a n => tset a n (s.stn1 n).state) y.stns
        descs := own.foldl (fun a n => tset a n (s.stnDesc n)) y.descs } }
    else s.setTask t x1
  | none => s.setTask t x1

/-- Tick at which the wait of an input close ends (R253). -/
def State.waitEnd (s : State) (t c : Nat) : Nat :=
  match (s.task1 t).cycle with
  | some y => y.waitEnd
  | none => c + s.pn P.INPUT_WAIT_TICKS t

/-- INPUT_CLOSE: every awaited frame has come, or the wait has ended; the inputs are later than the tick boundary (R19,
R253, R298, R305 to R308). -/
def execInputClose (task : Nat) (s : State) : Host.Outcome State Fault Refusal :=
  .next (
    match (s.task1 task).closeDue with
    | some c =>
      if s.live && (s.allIn task c || decide (s.waitEnd task c ≤ s.epoch)) then
        (s.closeEdge.closeInputs task c).closeCycle task c (!s.allIn task c)
      else s
    | none => s)

end Sys2Proof.Machine
end

