-- ==== Sys2Proof/Machine/ProgOps.lean ====
section
/-! DEFINITION. The program engine: the cost and admission of a program, the execution of a cycle's
instances, publication, stop and safe values, retained copies and migration (chapter "Cyclic programs and
function blocks"). -/

namespace Sys2Proof.Machine

/-! ### Programs -/

/-- The program of a bank (R276). -/
def State.progBank (s : State) (b : Bool) : Option Program := if b then s.prog.bankB else s.prog.bankA

/-- The active program. -/
def State.activeProg (s : State) : Option Program :=
  if s.prog.hasActive then s.progBank s.prog.activeB else none

/-- The staged program. -/
def State.stagedProg (s : State) : Option Program :=
  if s.prog.staged then s.progBank (!s.prog.activeB) else none

/-- An instance of a program. -/
def progInst (p : Program) (i : Nat) : InstEnt := p.insts.getD i {}

/-- The expression type of an instance. -/
def progExpr (p : Program) (e : InstEnt) : ExprType := p.exprs.getD e.codeIndex {}

/-- The output table of a task. -/
def progOuts (p : Program) (t : Nat) : List OutEnt := p.outs.filter (fun o => o.task == t)

/-! ### Cost and admission (R257, R258, R267) -/

/-- Call units of one call (R267). -/
def callCost (p : Program) (e : InstEnt) : Nat :=
  let f := e.typeId / 256
  if e.typeId = 0xE000 then 1 + ((progExpr p e).code.length + 3) / 4
  else if 0x0412 ≤ e.typeId ∧ e.typeId ≤ 0x041A then 4
  else if e.typeId = 0x0A0C then 4
  else if e.typeId = 0x0F04 then 6
  else if f = 6 || f = 10 || f = 12 || f = 15 then 2
  else if f = 13 then 8
  else if f = 14 then 3
  else 1

/-- The instances whose values a call of instance `i` awaits: sources in its own task without a unit delay
(R256). -/
def awaits (p : Program) (i : Nat) : List Nat :=
  let e := progInst p i
  e.wires.filterMap (fun w => match w with
    | .inst j _ d => if !d && (progInst p j).task = e.task then some j else none
    | _ => none)

/-- One order of a task's two streams in which every awaited instance comes first (R256, R257). -/
def mergeStreams (p : Program) : Nat → List Nat → List Nat → List Nat → List Nat
  | 0, _, _, done => done.reverse
  | n + 1, a, b, done =>
    match a, b with
    | [], [] => done.reverse
    | i :: r, [] => mergeStreams p n r [] (i :: done)
    | [], j :: r => mergeStreams p n [] r (j :: done)
    | i :: r, j :: q =>
      if (awaits p i).all done.contains then mergeStreams p n r (j :: q) (i :: done)
      else mergeStreams p n (i :: r) q (j :: done)

/-- A stream of a task (R275). -/
def progStream (p : Program) (t k : Nat) : List Nat := p.streams.getD (2 * t + k) []

/-- The instances of a task in the order in which a cycle runs them. -/
def taskOrder (p : Program) (t : Nat) : List Nat :=
  let a := progStream p t 0
  let b := progStream p t 1
  mergeStreams p (a.length + b.length) a b []

/-- Clocks of the two processors and the end of each call, over an order of instances. -/
def costStep (p : Program) (acc : Nat × Nat × Tab Nat) (i : Nat) : Nat × Nat × Tab Nat :=
  let e := progInst p i
  let own := if e.stream = 0 then acc.1 else acc.2.1
  let start := (awaits p i).foldl (fun m j => max m (tgetD acc.2.2 j 0)) own
  let fin := start + callCost p e
  if e.stream = 0 then (fin, acc.2.1, tset acc.2.2 i fin) else (acc.1, fin, tset acc.2.2 i fin)

/-- The cycle cost C_t of a task: its longer stream with the waits (R257). -/
def cycleCost (p : Program) (t : Nat) : Nat :=
  let r := (taskOrder p t).foldl (costStep p) (0, 0, [])
  max r.1 r.2.1

/-- The longest single instance of a task (R257). -/
def longestCall (p : Program) (t : Nat) : Nat :=
  (p.insts.filter (fun e => e.task == t)).foldl (fun m e => max m (callCost p e)) 0

/-- Call units of the guaranteed corner in one tick: 125 µs at 33⅓ ns per unit (R257). -/
abbrev unitsPerTick : Nat := 3750

/-- The interference of enabled tasks of higher priority within a response of `r` units (R258). -/
def State.interference (s : State) (p : Program) (t r : Nat) : Nat :=
  ((List.range t).map (fun j =>
    if s.pn P.TASK_ENABLE j = 1 then
      let w := s.pn P.TASK_PERIOD_TICKS j * unitsPerTick
      (r + w - 1) / w * (p.cost.getD j (0, 0)).1
    else 0)).sum

/-- The part of R_t that does not depend on it: input wait, blocking and cost (R258). -/
def State.ownResponse (s : State) (p : Program) (t : Nat) : Nat :=
  s.pn P.INPUT_WAIT_TICKS t * unitsPerTick + (p.cost.getD t (0, 0)).1 +
    ((List.range 4).filter (fun j => decide (t < j))).foldl (fun m j => max m (p.cost.getD j (0, 0)).2) 0

/-- Iteration of R258 from below up to a limit; none above the limit. -/
def State.responseFrom (s : State) (p : Program) (t limit : Nat) : Nat → Nat → Option Nat
  | 0, _ => none
  | n + 1, r =>
    let r1 := s.ownResponse p t + s.interference p t r
    if limit < r1 then none else if r1 = r then some r else s.responseFrom p t limit n r1

/-- The largest response that a task may have (R258). -/
def State.responseLimit (s : State) (t : Nat) : Nat :=
  (s.pn P.APPLY_OFFSET_TICKS t - s.pn P.OUT_LEAD_TICKS t) * unitsPerTick

/-- R_t in call units; none where it exceeds its limit (R258). -/
def State.response (s : State) (p : Program) (t : Nat) : Option Nat :=
  s.responseFrom p t (s.responseLimit t) 40000 (s.ownResponse p t)

/-- Utilisation of the enabled tasks (R258). -/
def State.utilisation (s : State) (p : Program) : Rat :=
  ((List.range 4).map (fun t =>
    if s.pn P.TASK_ENABLE t = 1 then
      ((p.cost.getD t (0, 0)).1 : Rat) / ((s.pn P.TASK_PERIOD_TICKS t * unitsPerTick : Nat) : Rat)
    else 0)).sum

/-- The committed task parameters admit a program (R258). -/
def State.admits (s : State) (p : Program) : Bool :=
  decide (s.utilisation p ≤ 4 / 5) &&
  (List.range 4).all (fun t => s.pn P.TASK_ENABLE t != 1 || (s.response p t).isSome)

/-- BOUND_US of every task (R258, R285): 30 call units take one microsecond. -/
def State.refreshBounds (s : State) : State :=
  match s.activeProg with
  | some p => (List.range 4).foldl (fun a t => a.setTask t { a.task1 t with
      boundUs := if s.pn P.TASK_ENABLE t = 1 then ((s.response p t).getD 0 + 29) / 30 else 0 }) s
  | none => s

/-! ### Execution of a cycle (R254 to R257, R269) -/

/-- The station that holds a point by the definitions in force. -/
def State.stnOfPt (s : State) (p : Nat) : Option Nat :=
  (tkeys s.stn.stns).find? (fun n => decide (s.stnF n 11 ≤ p) && decide (p < s.stnF n 11 + s.stnF n 12))

/-- KIND of a point as the programs of a cycle see it: that of its descriptor; BOOL for a digital channel, else REAL
(R254, R292, R318; log entry 45). -/
def cycleKind (y : Cycle) (p : Nat) : Nat :=
  match y.descs.find? (fun x => decide (x.2.1 ≤ p) && decide (p < x.2.1 + x.2.2.1)) with
  | some x => x.2.2.2.getD (6 * (p - x.2.1) + 1) 2
  | none => if p < 32 && decide (1 ≤ y.modes.getD p 0) && decide (y.modes.getD p 0 ≤ 3) then 0 else 2

/-- What the calls of a cycle read (R254). -/
def blockCtx (y : Cycle) : BlockCtx :=
  { c := y.c, rt := y.rt, civil := y.civil
    point := fun p => tgetD y.view p { status := 0x20#16 }
    kind := cycleKind y
    stn := fun n => tgetD y.stns n 0
    grp := fun g => y.groups.getD (g - 1) 0
    lane := fun l => tgetD y.lanes l {}
    plan := y.plan, stale := y.stale
    planRd := fun b => evalBinding y.plan y.model b y.c
    est := fun e q => (estOf y.ests y.model e q).getD {} }

/-- A cycle in execution: the working copy of the instance data, what the calls have done, free values taken. -/
structure CycleRun where
  data : List InstData := []
  eff : List (Nat × BlockEff) := []
  free : Nat := 0
  deriving DecidableEq, Repr

/-- The value of one input (R256); an input without a source keeps what the instance data hold. -/
def wireValue (p : Program) (x : BlockCtx) (old others work : List InstData) (e : InstEnt) (d : InstData) (k : Nat) :
    Wire → U32
  | .inst i o delay =>
    if (progInst p i).task != e.task then ((others.getD i {}).outs).getD o 0#32
    else if delay then ((old.getD i {}).outs).getD o 0#32
    else ((work.getD i {}).outs).getD o 0#32
  | .point n => ptAs (x.kind n) (x.point n)
  | .const v => v
  | .none => inp d.ins k

/-- The inputs of an instance. -/
def instInputs (p : Program) (x : BlockCtx) (old others work : List InstData) (e : InstEnt) (d : InstData) : List U32 :=
  (List.range e.wires.length).map (fun k => wireValue p x old others work e d k (e.wires.getD k .none))

/-- The points wired to the inputs of an instance. -/
def instPoints (x : BlockCtx) (e : InstEnt) : List (Option Point) :=
  e.wires.map (fun w => match w with | .point n => some (x.point n) | _ => none)

/-- One call in a cycle. -/
def runInst (p : Program) (x : BlockCtx) (old others : List InstData) (r : CycleRun) (i : Nat) : CycleRun :=
  let e := progInst p i
  let d := r.data.getD i {}
  let ins := instInputs p x old others r.data e d
  if e.typeId = 0xE000 then
    let q := callExpr x r.free (progExpr p e) ins (instPoints x e) d
    { r with data := r.data.set i q.1, free := r.free + q.2 }
  else
    let q := callBuiltin x r.free e ins d.outs d.st d.firstScan
    { data := r.data.set i { ins := ins, outs := q.outs, locals := d.locals, st := q.st, firstScan := false }
      eff := r.eff ++ q.eff.map (fun f => (i, f)), free := r.free + q.took }

/-- The instances of a task run on a copy of the instance data. -/
def State.runCycle (s : State) (p : Program) (t : Nat) (y : Cycle) : CycleRun :=
  (taskOrder p t).foldl (runInst p (blockCtx y) s.prog.run.data y.others)
    { data := s.prog.run.data, free := s.free }

/-! ### Alarms (R425 to R427) -/

/-- The alarm table with a record changed. -/
def alarmSet (a : AlarmRec) (l : List AlarmRec) : List AlarmRec := l.map (fun b => if b.key = a.key then a else b)

/-- An alarm block raises its alarm (R427). -/
def State.alarmRaise (s : State) (task c : Nat) (key : U64) (prio : Nat) (v : F32) : State :=
  let a : AlarmRec := { key := key, state := 1, priority := prio, task := task, value := v, raiseEpoch := c }
  match s.host.alarms.find? (fun b => b.key == key) with
  | some b =>
    if b.state = 3 then
      ({ s with host.alarms := alarmSet a s.host.alarms } : State).event 1 St.OK (alarmBytes a)
    else s
  | none =>
    if 4096 ≤ s.host.alarms.length then
      ({ s with host.alarmsDropped := s.host.alarmsDropped + 1 } : State).condition St.ALARM_FULL (le 8 key.toNat)
    else ({ s with host.alarms := s.host.alarms ++ [a] } : State).event 1 St.OK (alarmBytes a)

/-- An alarm block clears its alarm (R427). -/
def State.alarmClear (s : State) (c : Nat) (key : U64) : State :=
  match s.host.alarms.find? (fun b => b.key == key) with
  | some b =>
    let a := { b with state := 3, clearEpoch := c }
    if b.state = 1 then
      ({ s with host.alarms := alarmSet a s.host.alarms } : State).event 2 St.OK (alarmBytes a)
    else if b.state = 2 then
      ({ s with host.alarms := s.host.alarms.filter (fun x => x.key != key) } : State).event 2 St.OK (alarmBytes a)
    else s
  | none => s

/-! ### Publication (R253, R255) -/

/-- A program set-point of a lane, effective at A (R231, R253). -/
def lanePut (tab : Tab LaneSpVal) (l : Nat) (v : F32) (c a : Nat) : Tab LaneSpVal :=
  match tget tab l with
  | some o => tset tab l { value := v, cycle := c, apply := a, prev := some o.value, prevCycle := o.cycle }
  | none => tset tab l { value := v, cycle := c, apply := a }

/-- What one call has done becomes visible. -/
def State.publishEff (s : State) (t : Nat) (y : Cycle) : BlockEff → State
  | .out p v => { s with prog.run.outVals := tset s.prog.run.outVals p v }
  | .laneSp l v => s.setTask t { s.task1 t with laneSp := lanePut (s.task1 t).laneSp l v y.c y.a }
  | .alarm key on prio v => if on then s.alarmRaise t y.c key prio v else s.alarmClear y.c key

/-- The output points of a task with their newest published values. -/
def State.taskOutVals (s : State) (p : Program) (t : Nat) : List (Nat × F32) :=
  (progOuts p t).filterMap (fun o => (tget s.prog.run.outVals o.point).map (fun v => (o.point, v)))

/-- The margin of a cycle (R259). -/
def cycleMargin (y : Cycle) (us : Nat) : F32 :=
  F32.ofRat (1 - (us : Rat) / (((y.d - y.c) * 125 : Nat) : Rat))

/-- The counters of a published cycle (R259, R285). -/
def taskPublished (x : TaskSt) (y : Cycle) (us : Nat) (vals : List (Nat × F32)) : TaskSt :=
  { x with
    cycle := none, cycles := x.cycles + 1, lastCycle := y.c, lastApply := y.a, everPub := true
    responseUs := us, responseMaxUs := max x.responseMaxUs us
    marginMin := F32.min x.marginMin (cycleMargin y us)
    applyPend := x.applyPend ++ [(y.a, vals)] }

/-- Station frames of a published cycle, and RETURNING stations whose inputs it used (R299, R308). -/
def State.publishStn (s : State) (y : Cycle) (n : Nat) : State :=
  let x := s.stn1 n
  if x.state = 4 && !x.lostDue then s.stnOutput n y.a
  else if x.state = 3 && x.lastInput = y.c then s.setStn n { x with returnPub := true }
  else s

/-- Instance data and outputs of a cycle are published together (R255). -/
def State.publishCycle (s : State) (p : Program) (t : Nat) (y : Cycle) (us : Nat) : State :=
  let r := s.runCycle p t y
  let s1 := ({ s with prog.run.data := r.data, free := r.free } : State).marginIn 1 (cycleMargin y us)
  let s2 := r.eff.foldl (fun a e => a.publishEff t y e.2) s1
  let s3 := s2.setTask t (taskPublished (s2.task1 t) y us (s2.taskOutVals p t))
  (s3.stnsAt t y.c).foldl (fun a n => a.publishStn y n) s3

/-! ### Stop and safe values (R261) -/

/-- Running cycles are abandoned (R255). -/
def State.abandonCycles (s : State) : State :=
  { s with prog.run.tasks := tmap s.prog.run.tasks (fun _ x => { x with cycle := none }) }

/-- The epoch of a task's stop or safe frames: max(S + OUT_LEAD_TICKS, A_last + 1) (R261). -/
def State.stopEpoch (s : State) (t : Nat) : Nat :=
  let x := s.task1 t
  let a := s.epoch + s.pn P.OUT_LEAD_TICKS t
  if x.everPub then max a (x.lastApply + 1) else a

/-- The stop values of a task: "value" replaces, "hold last" keeps (R261). -/
def stopVals (p : Program) (t : Nat) : List (Nat × F32) :=
  ((progOuts p t).filter (fun o => o.stopAction == 1)).map (fun o => (o.point, o.stopVal))

/-- The safe values of a task (R261). -/
def safeVals (p : Program) (t : Nat) : List (Nat × F32) := (progOuts p t).map (fun o => (o.point, o.safeVal))

/-- The newest values of output points. -/
def State.putVals (s : State) (l : List (Nat × F32)) : State :=
  { s with prog.run.outVals := l.foldl (fun t x => tset t x.1 x.2) s.prog.run.outVals }

/-- One task's outputs take their stop values (R261). -/
def State.stopTask (s : State) (p : Program) (t : Nat) : State :=
  let a := s.stopEpoch t
  let s1 := s.putVals (stopVals p t)
  let s2 := s1.setTask t { s1.task1 t with stopPend := (s1.task1 t).stopPend ++ [(a, stopVals p t)] }
  s2.stnExtra t a

/-- Every output takes its stop value (R260, R261). -/
def State.stopOutputs (s : State) : State :=
  match s.activeProg with
  | some p => (List.range 4).foldl (fun a t => a.stopTask p t) s
  | none => s

/-- One task's outputs take their safe values; what it has published and not applied is withdrawn (R261). -/
def State.safeTask (s : State) (p : Program) (t : Nat) : State :=
  let a := s.stopEpoch t
  let s1 := s.putVals (safeVals p t)
  let s2 := s1.setTask t { s1.task1 t with applyPend := [], stopPend := [] }
  let s3 := (safeVals p t).foldl (fun b x => b.applyPoint x.1 x.2 s.epoch) s2
  s3.stnExtra t a

/-- Every output takes its safe value. -/
def State.safeOutputs (s : State) : State :=
  match s.activeProg with
  | some p => (List.range 4).foldl (fun a t => a.safeTask p t) s
  | none => s

/-! ### Retained copies (R280) -/

/-- Epoch of the newest published cycle whose data the instances hold: of any task, or of the copy that they were
restored from (R280, R281). -/
def State.newestCycle (s : State) : Nat := s.prog.run.tasks.foldl (fun m x => max m x.2.lastCycle) s.prog.run.restored

/-- Data of the RETAIN instances by key. -/
def retained (p : Program) (data : List InstData) : List (U64 × InstData) :=
  ((p.insts.zip data).filter (fun x => x.1.retain)).map (fun x => (x.1.key, x.2))

/-- A copy of the RETAIN instances and RT over the older of the two copies (R280). -/
def State.doRetain (s : State) : State :=
  match s.activeProg with
  | some p =>
    let r : Retain := { epoch := s.newestCycle, rt := s.prog.run.rt, programKey := p.key,
                        data := retained p s.prog.run.data }
    { s with
      prog.retainA := if s.prog.retainNextB then s.prog.retainA else some r
      prog.retainB := if s.prog.retainNextB then some r else s.prog.retainB
      prog.retainNextB := !s.prog.retainNextB
      prog.lastRetain := s.epoch
      prog.retainEpoch := r.epoch }
  | none => s

/-- Power fails in the tick of a copy: it may have been cut short, and its CRC then fails; the other copy stays (R280;
log entry 46). -/
def State.tearRetain (s : State) : State :=
  if s.live && s.prog.hasActive && s.prog.lastRetain == s.epoch then
    let cut := fun (r : Option Retain) => r.map (fun x => { x with valid := x.valid && !s.freshWord.getLsbD 0 })
    { s.took with
      prog.retainA := if s.prog.retainNextB then cut s.prog.retainA else s.prog.retainA
      prog.retainB := if s.prog.retainNextB then s.prog.retainB else cut s.prog.retainB }
  else s

/-! ### Modes (R260, R266) -/

/-- The controller goes to STOP at the present tick: stop values; from RUN also a retained copy. -/
def State.toStop (s : State) : State :=
  let s1 := if s.prog.run.mode = 2 then s.doRetain else s
  ({ s1 with prog.run.mode := 1 } : State).abandonCycles.stopOutputs

/-- The controller goes to HOLD: cycles abandoned, outputs frozen (R260, R262). -/
def State.toHold (s : State) : State :=
  ({ s.doRetain with
    prog.run.mode := 3, prog.run.holdFrom := s.epoch, prog.run.holdMax := s.pn P.HOLD_MAX_S 0 } : State).abandonCycles

/-- An open exchange ends with a status and a code. -/
def State.endExchange (s : State) (status detail : Nat) (data : List Byte) : State :=
  match s.prog.op with
  | some o => if o.kind = 2 then
      ({ s with prog.op := none, prog.openNote := none } : State).complete o.handle status detail data
    else s
  | none => s

/-- The controller goes to RUN; an exchange that was accepted later, and waits, ends with WRONG_MODE, since a program is
exchanged only in STOP (R22, R260, R277; log entry 46). -/
def State.toRun (s : State) : State :=
  ({ s with prog.run.mode := 2, prog.startDue := false } : State).endExchange St.WRONG_MODE 0 []

/-- Bytes of PROG_FAULT (R284). -/
def State.faultBytes (s : State) : List Byte :=
  leRec [(1, s.prog.run.faultCause), (1, s.prog.run.faultTask), (2, 0), (8, s.prog.run.faultCycle),
    (8, s.prog.run.faultEpoch)]

/-- The task watchdog: FAULT, safe values, the record and the device condition (R261, R266). -/
def State.progFault (s : State) (cause task cycle : Nat) : State :=
  let s1 := ({ s.closeEdge.doRetain with
    prog.run.mode := 4, prog.run.faultCause := cause, prog.run.faultTask := task,
    prog.run.faultCycle := cycle, prog.run.faultEpoch := s.epoch } : State).abandonCycles.safeOutputs
  s1.condition St.PROG_FAULT s1.faultBytes

/-! ### Exchange (R277 to R279) -/

/-- A point is an output point of the committed station, field and CAN configuration. -/
def State.isOutPoint (s : State) (p : Nat) : Bool :=
  if p < 32 then isOutMode (s.pn P.FIO_MODE p)
  else if p < 256 then decide (80 ≤ p) && decide (p < 88) && s.pn P.AOUT_RANGE (p - 80) != 0
  else
    (s.pEntries P.STN_DEF).any (fun x =>
      x.2.getD 0 0 == 1 && decide (x.2.getD 11 0 ≤ p) && decide (p < x.2.getD 11 0 + x.2.getD 12 0) &&
        (s.pv P.STN_POINTS x.1).getD (6 * (p - x.2.getD 11 0)) 0 == 1) ||
    (s.sigsAt p).any (fun x => s.bufN x.1 x.2.1 0 == 2)

/-- Lanes that a program's LANE_SP instances write (R268). -/
def progLanes (p : Program) : List Nat :=
  (p.insts.filter (fun e => e.typeId == 0x0C01)).map (fun e => e.cfg.getD 0 0)

/-- Enabled lanes that read the program source. -/
def State.lanesOnProgram (s : State) : List Nat :=
  (((s.pEntries P.LANE_ENABLE).filter (fun x => x.2.headD 0 == 1)).map (fun x => x.1)).filter (fun l =>
    s.pn P.SP_SRC l == 4 || s.pn P.SP_FALLBACK_SRC l == 4)

/-- Elements that a program's plan and estimate reads name. -/
def progElems (p : Program) : List Nat :=
  (p.insts.filter (fun e => e.typeId == 0x0D01 || e.typeId == 0x0D03)).map (fun e => e.cfg.getD 0 refNone)

/-- The first check of R277 that a staged program fails, 0 for none. -/
def State.exchangeCode (s : State) (p : Program) : Nat :=
  if p.outs.any (fun o => !s.isOutPoint o.point || (s.laneOwner o.point).isSome) then 0x1301
  else if s.lanesOnProgram.any (fun l => !(progLanes p).contains l) then 0x1302
  else if (progElems p).any (fun e => match s.activeModel with
    | some m => (findElem m e).isNone
    | none => true) then 0x1303
  else if !s.admits p then 0x1305
  else 0

/-- The program needs a part that the OTN-Q8200 lacks: plan access, estimate reads, a local field point. -/
def progNeedsFit (p : Program) : Bool :=
  p.insts.any (fun e => e.typeId / 256 == 13 ||
    (e.typeId / 256 == 11 && e.typeId != 0x0B08 && decide (e.cfg.getD 0 0 < 256)) ||
    e.wires.any (fun w => match w with | .point n => decide (n < 256) | _ => false)) ||
  p.outs.any (fun o => decide (o.point < 256))

/-- The old instance with a key, and its published data. -/
def findInst (p : Program) (data : List InstData) (key : U64) : Option (InstEnt × InstData) :=
  (p.insts.zip data).find? (fun x => x.1.key == key)

/-- The layout of two instances agrees (R278). -/
def sameLayout (a b : InstEnt) : Bool :=
  a.typeId == b.typeId && a.typeRev == b.typeRev && a.layoutHash == b.layoutHash && a.dataLen == b.dataLen

/-- One instance of the new program: its data, and 0 KEPT, 1 NEW, 2 FRESH (R278). -/
def migrateOne (old : Option Program) (data : List InstData) (e : InstEnt) (d0 : InstData) : InstData × Nat :=
  match old with
  | none => ({ d0 with firstScan := true }, 1)
  | some p => match findInst p data e.key with
    | some x => if sameLayout x.1 e then (x.2, 0) else ({ d0 with firstScan := true }, 2)
    | none => ({ d0 with firstScan := true }, 1)

/-- Every instance of the new program. -/
def migrate (old : Option Program) (data : List InstData) (p : Program) : List (InstData × Nat) :=
  (p.insts.zip p.init).map (fun x => migrateOne old data x.1 x.2)

/-- Instances of the old program whose key the new one lacks. -/
def dropped (old : Option Program) (p : Program) : Nat :=
  match old with
  | none => 0
  | some o => (o.insts.filter (fun e => !(p.insts.any (fun x => x.key == e.key)))).length

/-- KEPT, NEW, FRESH and DROPPED (R279). -/
def exchangeCounts (old : Option Program) (data : List InstData) (p : Program) : List Byte :=
  let m := migrate old data p
  let n := fun k => (m.filter (fun x => x.2 == k)).length
  leRec [(4, n 0), (4, n 1), (4, n 2), (4, dropped old p)]

/-- The new program, its data and its output table take effect together (R279). -/
def State.exchangeApply (s : State) (p : Program) : State :=
  let old := s.activeProg
  let counts := exchangeCounts old s.prog.run.data p
  let data := (migrate old s.prog.run.data p).map (fun x => x.1)
  let s1 : State := { s with
    prog.run.data := data
    prog.run.outVals := s.prog.run.outVals.filter (fun x => p.outs.any (fun o => o.point == x.1))
    prog.run.tasks := tmap s.prog.run.tasks (fun _ x => { x with responseMaxUs := 0 })
    prog.run.mode := 1
    prog.activeB := !s.prog.activeB, prog.hasActive := true, prog.staged := false
    prog.floor := p.serial }
  ((s1.refreshBounds).stopOutputs).endExchange St.OK 0 counts

/-- The open exchange reaches its tick: the checks, then migration and the new program together (R277 to R279). -/
def State.exchangeNow (s : State) : State :=
  match s.stagedProg with
  | some p =>
    if s.exchangeCode p = 0 then (s.exchangeApply p).auditApplied p.serial
    else s.endExchange St.DISAGREE (s.exchangeCode p) []
  | none => s

/-! ### Mode commands (R22, R260) -/

/-- A mode command: 1 Stop, 2 Run, 3 Hold, 4 fault acknowledge; the modes in which the table lists it (R260). -/
def modeListed (cmd mode : Nat) : Bool :=
  if cmd = 1 then mode == 2 || mode == 3
  else if cmd = 2 then mode == 1 || mode == 3
  else if cmd = 3 then mode == 2
  else mode == 4

/-- One accepted mode command takes effect, where the mode still lists it (R260; log entry 46). -/
def State.modeEffect (s : State) (cmd : Nat) : State :=
  if modeListed cmd s.prog.run.mode then
    (if cmd = 2 then s.toRun else if cmd = 3 then s.toHold else s.toStop)
  else s

/-- The exchange that is open was accepted before an order of acceptance, at an earlier tick. -/
def State.exchangeBefore (s : State) (seq : Nat) : Bool :=
  match s.prog.op with
  | some o => o.kind == 2 && decide (o.acc < s.epoch) && decide (o.seq < seq)
  | none => false

/-- The mode commands that may take effect at this tick: accepted at an earlier one. -/
def State.modesDue (s : State) : List (Nat × Nat × Nat) := s.prog.modeDue.filter (fun x => decide (x.2.1 < s.epoch))

/-- One mode command in its turn: an exchange accepted before it takes effect first (R22; log entry 46). -/
def State.modeTurn (s : State) (x : Nat × Nat × Nat) : State :=
  (if s.exchangeBefore x.2.2 then s.exchangeNow else s).modeEffect x.1

/-- The due mode commands that meet a condition take effect, in order of acceptance. -/
def State.applyModes (s : State) (f : Nat × Nat × Nat → Bool) : State :=
  let due := s.modesDue.filter f
  due.foldl State.modeTurn
    { s with prog.modeDue := s.prog.modeDue.filter (fun x => !(decide (x.2.1 < s.epoch) && f x)) }

end Sys2Proof.Machine
end

