-- ==== Sys2Proof/Machine/LaneOps.lean ====
section
/-! DEFINITION. Control lanes: set-point sources, feed-forward, feedback supervision, the states of a lane, the
control law and the actuator tables, cost and agreement checks (chapter "Closed-loop control lanes"). -/

namespace Sys2Proof.Machine

/-! ### Lanes -/

/-- The state with a lane changed. -/
def State.setLane (s : State) (l : Nat) (v : Lane) : State := { s with lane.lanes := tset s.lane.lanes l v }

/-- A value held between two others. -/
def clampQ (lo hi x : Rat) : Rat := max lo (min hi x)

/-- Sign of a number. -/
def sgn (x : Rat) : Int := if 0 < x then 1 else if x < 0 then -1 else 0

/-- The reference of a point parameter, none where it names none. -/
def State.ptRef (s : State) (id l : Nat) : Option Nat := if s.pn id l = refNone then none else some (s.pn id l)

/-- A point that the lane reads: its value where it passes its checks (R231, R288). -/
def State.lanePoint (s : State) (l id : Nat) : Option Rat :=
  match s.ptRef id l with
  | some p =>
    if passes (s.pt p) s.epoch (s.pn P.FB_AGE_MAX_MS l) && (s.pt p).value.isFin then some (s.pt p).value.rat else none
  | none => none

/-! ### Set-point sources (R231, R232) -/

/-- The program set-point of a task for a lane in effect now, with the cycle that wrote it (R253). -/
def spNow (x : LaneSpVal) (e : Nat) : Option (F32 × Nat) :=
  if x.apply ≤ e then some (x.value, x.cycle) else x.prev.map (fun v => (v, x.prevCycle))

/-- The program source of a lane (R231, R263). -/
def State.programSp (s : State) (l : Nat) : Option Rat :=
  ((List.range 4).filterMap (fun t =>
    let x := s.task1 t
    match tget x.laneSp l with
    | some z => match spNow z s.epoch with
      | some v =>
        if (v.2 == x.lastCycle || decide (s.epoch < x.lastApply)) &&
            decide (s.epoch ≤ v.2 + 2 * s.taskPeriod t) && s.prog.run.mode != 4 && v.1.isFin then some v.1.rat
        else none
      | none => none
    | none => none)).head?

/-- The value of a source where it is valid (R231). -/
def State.spSource (s : State) (l src : Nat) : Option Rat :=
  let x := s.lane? l
  if src = 0 then
    (match x.spHost with
     | some v => if s.epoch - x.spHostEpoch ≤ 8 * s.pn P.HOST_SP_TIMEOUT_MS l then some v.rat else none
     | none => none)
  else if src = 1 then
    let b := s.binding (s.pv P.SP_PLAN l)
    (if b.2 % 2 = 1 then none else some b.1.rat)
  else if src = 2 || src = 3 then
    (s.lanePoint l P.SP_POINT).map (fun v => s.pq P.SP_GAIN l * v + s.pq P.SP_OFFSET l)
  else if src = 4 then s.programSp l
  else none

/-- A condition of SP_FALLBACK_ON makes the plan bad as primary source (R232). -/
def State.spFallbackOn (s : State) (l : Nat) : Bool :=
  let m := s.pn P.SP_FALLBACK_ON l
  let b := (s.binding (s.pv P.SP_PLAN l)).2
  (bitOf m 0 && bitOf b 1) || (bitOf m 1 && bitOf b 4) || (bitOf m 2 && s.slv.stale) || (bitOf m 3 && bitOf b 2)

/-- The source in use, its value and FALLBACK; none where the set-point is lost (R232). -/
def State.spSelect (s : State) (l : Nat) : Option (Nat × Rat × Bool) :=
  let src := s.pn P.SP_SRC l
  let fb := s.pn P.SP_FALLBACK_SRC l
  let prim := s.spSource l src
  let bad := prim.isNone || (src == 1 && s.spFallbackOn l)
  match (if bad && fb != 255 then s.spSource l fb else none) with
  | some v => some (fb, v, true)
  | none => prim.map (fun v => (src, v, false))

/-- The status of the lane's plan binding (R249; log entry 47). -/
def State.spStatus (s : State) (l : Nat) : BitVec 8 :=
  if s.pn P.SP_SRC l = 1 || s.pn P.SP_FALLBACK_SRC l = 1 then BitVec.ofNat 8 (s.binding (s.pv P.SP_PLAN l)).2
  else if s.pn P.FF_SRC l = 2 then BitVec.ofNat 8 (s.binding (s.pv P.FF_PLAN l)).2
  else 0#8

/-- Feed-forward and FF_INVALID (R227). -/
def State.feedForward (s : State) (l : Nat) : Rat × Bool :=
  let src := s.pn P.FF_SRC l
  if src = 0 then (0, false)
  else
    let v := if src = 1 then s.lanePoint l P.FF_POINT
      else let b := s.binding (s.pv P.FF_PLAN l); if b.2 % 2 = 1 then none else some b.1.rat
    match v with
    | some x => (s.pq P.FF_GAIN l * x + s.pq P.FF_OFFSET l, false)
    | none => (0, true)

/-! ### Feedback supervision (R235) -/

/-- The feedback of a lane, whatever its checks say (R235). -/
def State.laneFb (s : State) (l : Nat) : Rat :=
  match s.ptRef P.FB_POINT l with
  | some p => s.pq P.FB_GAIN l * (if (s.pt p).value.isFin then (s.pt p).value.rat else 0) + s.pq P.FB_OFFSET l
  | none => s.pq P.FB_OFFSET l

/-- LOST (R235). -/
def State.laneLost (s : State) (l : Nat) : Bool :=
  (s.lanePoint l P.FB_POINT).isNone || decide (s.laneFb l < s.pq P.FB_MIN l) || decide (s.pq P.FB_MAX l < s.laneFb l)

/-- The offer of virtual feedback, conditions 1 to 3 of R168: value and bound in the lane's unit. -/
def State.laneOffer (s : State) (l : Nat) : Option (Rat × Rat) :=
  (s.vfOffer (s.pfld P.VF_SRC l 0) (s.pfld P.VF_SRC l 1)).map (fun o =>
    (s.pq P.VF_GAIN l * o.1 + s.pq P.VF_OFFSET l, |s.pq P.VF_GAIN l| * o.2))

/-- The offer is valid: R168 with the lane's bound limit. -/
def State.offerValid (s : State) (l : Nat) : Bool :=
  match s.laneOffer l with
  | some o => decide (o.2 ≤ s.pq P.VF_BOUND_MAX l)
  | none => false

/-- Range of a list of numbers. -/
def rangeOf (l : List Rat) : Rat :=
  match l with
  | [] => 0
  | x :: r => r.foldl max x - r.foldl min x

/-- The condition of FROZEN over the last FROZEN_N samples in NORMAL (R235). -/
def State.frozenSeen (s : State) (l : Nat) (c : LaneCore) : Bool :=
  let n := s.pn P.FROZEN_N l
  let h := c.hist.take n
  decide (0 < n) && decide (n ≤ c.hist.length) &&
  decide (rangeOf (h.map (fun x => x.1.rat)) ≤ s.pq P.FROZEN_BAND l) &&
  decide (s.pq P.FROZEN_OUT_MOVE l ≤ rangeOf (h.map (fun x => x.2.rat)))

/-- What supervision finds at a sample. -/
structure LaneSup where
  lost : Bool := false
  frozen : Bool := false
  frozenY : F32 := F32.zero
  hist : List (F32 × F32) := []
  impl : Bool := false
  implCount : Nat := 0
  spLost : Bool := false
  goodCount : Nat := 0
  deriving DecidableEq, Repr

/-- FROZEN, with the value at its detection and the history: at a detection the history starts anew (R235; log
entry 47). -/
def State.supFrozen (s : State) (l : Nat) (c : LaneCore) (y : Rat) : Bool × F32 × List (F32 × F32) :=
  if c.cond.getLsbD 1 then
    (if s.pq P.FROZEN_BAND l < |y - c.frozenY.rat| then (false, c.frozenY, c.hist) else (true, c.frozenY, c.hist))
  else if s.frozenSeen l c then (true, F32.ofRat y, [])
  else (false, c.frozenY, c.hist)

/-- IMPLAUSIBLE and its count (R235). -/
def State.supImpl (s : State) (l : Nat) (c : LaneCore) (y : Rat) : Bool × Nat :=
  let n := s.pn P.IMPL_N l
  if n = 0 then (false, 0)
  else match s.laneOffer l with
    | none => (c.cond.getLsbD 2, 0)
    | some o =>
      if s.pq P.IMPL_BAND l + o.2 < |y - o.1| then
        (c.cond.getLsbD 2 || decide (n ≤ c.implCount + 1), c.implCount + 1)
      else (false, 0)

/-- Supervision at a sample (R235). -/
def State.supervise (s : State) (l : Nat) (c : LaneCore) (spLost : Bool) : LaneSup :=
  let y := s.laneFb l
  let lost := s.laneLost l
  let f := s.supFrozen l c y
  let i := s.supImpl l c y
  { lost := lost, frozen := f.1, frozenY := f.2.1, hist := f.2.2, impl := i.1, implCount := i.2, spLost := spLost
    goodCount := if lost || f.1 || i.1 || spLost then 0 else c.goodCount + 1 }

/-- The feedback is good (R235). -/
def supGood (u : LaneSup) : Bool := !u.lost && !u.frozen && !u.impl

/-! ### States (R236; 0 DISABLED, 1 NORMAL, 2 MANUAL, 3 HOLD, 4 VIRTUAL, 5 SAFE) -/

/-- VF_USED_MS at a sample, in ticks (R236). -/
def State.vfUsed (s : State) (l : Nat) (c : LaneCore) : Nat :=
  let d := match c.lastDone with | some e => s.epoch - e | none => 0
  if c.state = 4 then c.vfUsedMs + d
  else if c.state = 1 then
    (match c.normalSince with
     | some e => if 8 * s.pn P.VF_MAX_MS l ≤ s.epoch - e then 0 else c.vfUsedMs
     | none => c.vfUsedMs)
  else c.vfUsedMs

/-- The state from NORMAL (R236). -/
def State.laneFromNormal (s : State) (l : Nat) (u : LaneSup) (budget : Bool) : Nat :=
  if supGood u && !u.spLost then 1
  else if s.pn P.FB_REACT l = 0 then 3
  else if s.pn P.FB_REACT l = 1 then 5
  else if !supGood u && s.offerValid l && budget then 4
  else if supGood u && u.spLost && budget then 4
  else 5

/-- The lane is recovered (R235). -/
def State.laneRecovered (s : State) (l : Nat) (u : LaneSup) : Bool := decide (s.pn P.FB_RECOVER_N l ≤ u.goodCount)

/-- SAFE may be left (R236, R240). -/
def State.safeExit (s : State) (l : Nat) (c : LaneCore) : Bool :=
  c.ackHeld || (s.pn P.SAFE_LATCH l == 0 && !c.safeByOvr)

/-- The next state of a lane (R236). -/
def State.laneNext (s : State) (l : Nat) (c : LaneCore) (u : LaneSup) (used : Nat) : Nat :=
  let budget := decide (used < 8 * s.pn P.VF_MAX_MS l)
  if (s.lane? l).mode = 2 then 2
  else if c.state = 3 then (if s.laneRecovered l u then 1 else 3)
  else if c.state = 4 then
    (if s.laneRecovered l u then 1 else if !budget || (!supGood u && !s.offerValid l) then 5 else 4)
  else if c.state = 5 then (if s.laneRecovered l u && s.safeExit l c then 1 else 5)
  else s.laneFromNormal l u budget

/-! ### Actuator tables (R228 to R230) -/

/-- Linear interpolation in a table of positions and values, in rising order; end values beyond (R230). -/
def interpQ : List (Rat × Rat) → Rat → Rat
  | [], _ => 0
  | [a], _ => a.2
  | a :: b :: r, x =>
    if x ≤ a.1 then a.2
    else if x ≤ b.1 then a.2 + (b.2 - a.2) * (x - a.1) / (b.1 - a.1)
    else interpQ (b :: r) x

/-- Pairs of the friction table: position and push of direction `k` (1 opening, 2 closing) (R229). -/
def fricPairs (v : PVal) (k : Nat) : List (Rat × Rat) :=
  (List.range (v.headD 0)).map (fun j => (qof (v.getD (2 + 3 * j) 0), qof (v.getD (2 + 3 * j + k) 0)))

/-- The detent compensation at a position (R230). -/
def detentQ (v : PVal) (pos : Rat) : Rat :=
  let n := v.headD 0
  let x := Int.fract ((pos - qof (v.getD 3 0)) / qof (v.getD 2 0)) * (n : Rat)
  let j := (Int.floor x).toNat
  let a := qof (v.getD (4 + j % n) 0)
  let b := qof (v.getD (4 + (j + 1) % n) 0)
  a + (x - (j : Rat)) * (b - a)

/-- Output, direction and COMP_SAT of the actuator compensation (R228). -/
def State.compensate (s : State) (l : Nat) (dir : Int) (u prev : Rat) : Rat × Int × Bool :=
  let ok := s.lanePoint l P.POS_POINT
  let pos := ok.getD u
  let db := s.pq P.FRIC_DB l
  let d := if db < u - prev then 1 else if u - prev < -db then -1 else dir
  let ft := s.pv P.FRIC_TABLE l
  let dt := s.pv P.DETENT_TABLE l
  let fric := if 0 < ft.headD 0 && 0 < d then interpQ (fricPairs ft 1) pos
    else if 0 < ft.headD 0 && d < 0 then -interpQ (fricPairs ft 2) pos else 0
  let det := if 0 < dt.headD 0 && ok.isSome then detentQ dt pos else 0
  let w := clampQ (s.pq P.OUT_MIN l) (s.pq P.OUT_MAX l) (u + fric + det)
  (w, d, decide (w ≠ u + fric + det))

/-- POS_LOST (R228). -/
def State.posLost (s : State) (l : Nat) : Bool := (s.ptRef P.POS_POINT l).isSome && (s.lanePoint l P.POS_POINT).isNone

/-! ### The control law (R226) -/

/-- What one control sample reads. -/
structure LawIn where
  /-- seconds since the last completed sample. -/
  dt : Rat
  /-- set-point after its clamp. -/
  target : Rat
  /-- the source in use has changed. -/
  switched : Bool
  /-- a bumpless event. -/
  bumpless : Bool
  /-- feedback. -/
  y : Rat
  /-- feed-forward. -/
  ff : Rat
  /-- sp_prev. -/
  spPrev : Rat
  /-- u_ctrl_prev. -/
  uPrev : Rat

/-- What one control sample computes. -/
structure LawOut where
  sp : Rat
  ramping : Bool
  integ : Rat
  d : Rat
  ed : Rat
  uCtrl : Rat
  limited : Bool
  rate : Bool

/-- The set-point with its ramp. -/
def State.lawSp (s : State) (l : Nat) (c : LaneCore) (x : LawIn) : Rat × Bool :=
  let ramp := if x.switched then decide (0 < s.pq P.SP_SWITCH_RAMP l) else c.ramping
  if ramp then
    let step := s.pq P.SP_SWITCH_RAMP l * x.dt
    let sp := x.spPrev + clampQ (-step) step (x.target - x.spPrev)
    (sp, decide (sp ≠ x.target))
  else (x.target, false)

/-- An output with its limits and its rate limit: limited value, rate-limited value (R226). -/
def State.lawLimit (s : State) (l : Nat) (dt uPrev u : Rat) : Rat × Rat :=
  let a := clampQ (s.pq P.OUT_MIN l) (s.pq P.OUT_MAX l) u
  let r := s.pq P.OUT_RATE l
  (a, if 0 < r then clampQ (uPrev - r * dt) (uPrev + r * dt) a else a)

/-- The control law up to u_ctrl (R226). -/
def State.controlLaw (s : State) (l : Nat) (c : LaneCore) (x : LawIn) : LawOut :=
  let sr := s.lawSp l c x
  let sp := sr.1
  let e := sp - x.y
  let p := s.pq P.KP l * (s.pq P.SP_WEIGHT_B l * sp - x.y)
  let ed := s.pq P.SP_WEIGHT_C l * sp - x.y
  let ki := s.pq P.KI l
  let tf := s.pq P.TF l
  let d := if x.bumpless then 0 else (tf * c.dPrev.rat + s.pq P.KD l * (ed - c.edPrev.rat)) / (tf + x.dt)
  let i := if x.bumpless then x.uPrev - p - x.ff else c.integ.rat + ki * e * x.dt
  let raw := p + i + d + x.ff
  let lim := s.lawLimit l x.dt x.uPrev raw
  let u := lim.2
  let kt := s.pq P.KT l
  let i2 := if 0 < kt then i + kt * (u - raw) * x.dt
    else if u ≠ raw && sgn (ki * e) == sgn (raw - u) then i - ki * e * x.dt else i
  { sp := sp, ramping := sr.2, integ := i2, d := d, ed := ed, uCtrl := u
    limited := decide (lim.1 ≠ raw), rate := decide (u ≠ lim.1) }

/-! ### One sample -/

/-- A set-point clamped to its limits, and SP_CLAMPED (R231). -/
def State.spClamp (s : State) (l : Nat) (v : Rat) : Rat × Bool :=
  let w := clampQ (s.pq P.SP_MIN l) (s.pq P.SP_MAX l) v
  (w, decide (w ≠ v))

/-- u_ctrl_prev at the sample: at the first after enable the value of OUT_POINT, else SAFE_OUT (R241). -/
def State.laneUPrev (s : State) (l : Nat) (c : LaneCore) : Rat :=
  if c.lastDone.isSome then c.uCtrlPrev.rat
  else (s.lanePoint l P.OUT_POINT).getD (s.pq P.SAFE_OUT l)

/-- Bits of a byte. -/
def bits8 (l : List Bool) : BitVec 8 := BitVec.ofNat 8 (l.foldr (fun b a => b2n b + 2 * a) 0)

/-- MAN_STALE (R237). -/
def State.manStale (s : State) (l : Nat) : Bool :=
  !(s.lane? l).manValid || decide (8 * s.pn P.HOST_SP_TIMEOUT_MS l < s.epoch - (s.lane? l).manEpoch)

/-- The seconds since the last completed sample; one period in force at the first (R226). -/
def State.laneDt (s : State) (l : Nat) (c : LaneCore) : Rat :=
  match c.lastDone with
  | some e => ((s.epoch - e : Nat) : Rat) / 8000
  | none => ((s.lane? l).periodForce : Rat) / 8000

/-- The parts of the core that every sample leaves, whatever its state. -/
def State.laneBase (s : State) (l : Nat) (c : LaneCore) (u : LaneSup) (sel : Option (Nat × Rat × Bool)) (ffBad : Bool)
    (used nx : Nat) : LaneCore :=
  { c with
    state := nx
    cond := bits8 [u.lost, u.frozen, u.impl, u.spLost, (match sel with | some x => x.2.2 | none => false),
      s.posLost l, ffBad]
    srcInUse := match sel with | some x => x.1 | none => 255
    bindStatus := s.spStatus l
    lastSample := s.epoch, lastDone := some s.epoch
    hist := u.hist, frozenY := u.frozenY, implCount := u.implCount, goodCount := u.goodCount
    vfUsedMs := used
    normalSince := if nx = 1 then (if c.state = 1 then c.normalSince else some s.epoch) else none
    ackHeld := c.ackHeld && nx == 5, safeByOvr := c.safeByOvr && nx == 5
    vfStart := if nx = 4 then s.epoch else c.vfStart }

/-- A sample in NORMAL or VIRTUAL. -/
def State.laneControl (s : State) (l : Nat) (c b : LaneCore) (u : LaneSup) (sel : Option (Nat × Rat × Bool))
    (ff : Rat × Bool) : LaneCore :=
  let first := c.lastDone.isNone
  let y := if b.state = 4 && !supGood u then (match s.laneOffer l with | some o => o.1 | none => s.laneFb l)
    else s.laneFb l
  let tc := match sel with
    | some x => s.spClamp l x.2.1
    | none => (c.spPrev.rat, false)
  let switched := !first && sel.isSome && b.srcInUse != c.srcInUse
  let bump := first || b.srcInUse != c.srcInUse || (b.state == 1 && c.state != 1) || (b.state == 4 && c.state != 4) ||
    (s.lane? l).swapBumpless || ff.2 != c.cond.getLsbD 6
  let uPrev := s.laneUPrev l c
  let sp0 := if first then tc.1 else c.spPrev.rat
  let r := s.controlLaw l c (LawIn.mk (s.laneDt l c) tc.1 switched bump y ff.1 sp0 uPrev)
  let w := s.compensate l c.dir r.uCtrl uPrev
  { b with
    flags := bits8 [tc.2, r.limited, r.rate, w.2.2, false, false]
    spUsed := F32.ofRat r.sp, fbUsed := F32.ofRat y, out := F32.ofRat w.1
    integ := F32.ofRat r.integ, dPrev := F32.ofRat r.d, edPrev := F32.ofRat r.ed, spPrev := F32.ofRat r.sp
    uCtrlPrev := F32.ofRat r.uCtrl, ramping := r.ramping, dir := w.2.1
    hist := if b.state = 1 then ((F32.ofRat y, F32.ofRat r.uCtrl) :: b.hist).take (max 1 (s.pn P.FROZEN_N l)) else b.hist }

/-- A sample in MANUAL (R237). -/
def State.laneManual (s : State) (l : Nat) (c b : LaneCore) : LaneCore :=
  let uPrev := s.laneUPrev l c
  if s.manStale l then
    { b with
      flags := bits8 [false, false, false, false, false, true], fbUsed := F32.ofRat (s.laneFb l)
      uCtrlPrev := F32.ofRat uPrev, out := if c.lastDone.isSome then c.out else F32.ofRat uPrev }
  else
    let m := (s.lane? l).manOut.rat
    let lim := s.lawLimit l (s.laneDt l c) uPrev m
    let w := s.compensate l c.dir lim.2 uPrev
    { b with
      flags := bits8 [false, decide (lim.1 ≠ m), decide (lim.2 ≠ lim.1), w.2.2, false, false]
      fbUsed := F32.ofRat (s.laneFb l), uCtrlPrev := F32.ofRat lim.2, out := F32.ofRat w.1, dir := w.2.1 }

/-- A sample in HOLD or SAFE (R236). -/
def State.laneIdle (s : State) (l : Nat) (c b : LaneCore) : LaneCore :=
  let uPrev := s.laneUPrev l c
  if b.state = 5 then
    { b with flags := 0#8, fbUsed := F32.ofRat (s.laneFb l), out := s.pf P.SAFE_OUT l, uCtrlPrev := s.pf P.SAFE_OUT l }
  else
    { b with
      flags := 0#8, fbUsed := F32.ofRat (s.laneFb l), uCtrlPrev := F32.ofRat uPrev
      out := if c.lastDone.isSome then c.out else F32.ofRat uPrev }

/-- The core that a sample starting now leaves when it completes (R226, R235 to R237, R241). -/
def State.laneSampleCore (s : State) (l : Nat) : LaneCore :=
  let c := (s.lane? l).core
  let sel := s.spSelect l
  let ff := s.feedForward l
  let u := s.supervise l c sel.isNone
  let used := s.vfUsed l c
  let nx := s.laneNext l c u used
  let b := s.laneBase l c u sel ff.2 used nx
  if nx = 1 || nx = 4 then s.laneControl l c b u sel ff
  else if nx = 2 then s.laneManual l c b
  else s.laneIdle l c b

/-! ### Cost and agreement (R224, R238, R243, R247) -/

/-- A table has entries in either bank (R224). -/
def State.tableIn (s : State) (id l : Nat) : Bool :=
  decide (0 < (bankVal s.par.bankA id l).headD 0) || decide (0 < (bankVal s.par.bankB id l).headD 0)

/-- A lane's cost in nanoseconds (R224). -/
def State.laneCost (s : State) (l : Nat) : Nat :=
  1600 + (if s.pn P.SP_SRC l = 1 || s.pn P.SP_FALLBACK_SRC l = 1 then 300 else 0) +
  (if s.pn P.FF_SRC l = 2 then 300 else 0) + (if s.tableIn P.FRIC_TABLE l then 500 else 0) +
  (if s.tableIn P.DETENT_TABLE l then 500 else 0) + (if s.pfld P.VF_SRC l 0 = refNone then 0 else 800)

/-- W(p, r) in nanoseconds (R238). -/
def State.slotLoad (s : State) (p r : Nat) : Nat :=
  ((List.range 64).map (fun k =>
    let l := 64 * p + k
    if (s.ptRef P.OUT_POINT l).isSome && s.pn P.PHASE_TICKS l % 8 == r then s.laneCost l else 0)).sum

/-- The slot of a lane is admitted (R238). -/
def State.slotOk (s : State) (l : Nat) : Bool := decide (s.slotLoad (l / 64) (s.pn P.PHASE_TICKS l % 8) ≤ 100000)

/-- Every slot load is admitted (R238). -/
def State.slotsOk (s : State) : Bool :=
  (s.pEntries P.OUT_POINT).all (fun x => x.2.headD refNone == refNone || s.slotOk x.1)

/-- A set-point source in use has its binding or point, of its kind (R231, R247). -/
def State.spSrcOk (s : State) (l src : Nat) : Bool :=
  let p := s.pn P.SP_POINT l
  if src = 1 then s.pfld P.SP_PLAN l 0 != refNone
  else if src = 2 then decide (64 ≤ p) && decide (p < 80)
  else if src = 3 then decide (p < 64) && s.pn P.FIO_MODE (p % 32) == 4
  else true

/-- OUT_POINT of a lane: an output point of no other lane and of no program; present where the lane is enabled
(R243, R268; log entry 47). -/
def State.outPointOk (s : State) (l : Nat) : Bool :=
  match s.ptRef P.OUT_POINT l with
  | none => s.pn P.LANE_ENABLE l != 1
  | some p => s.isOutPoint p &&
    !((s.pEntries P.OUT_POINT).any (fun x => x.1 != l && x.2.headD refNone == p)) &&
    (match s.activeProg with | some g => !(g.outs.any (fun o => o.point == p)) | none => true)

/-- LANE_CFG of a lane passes its agreement check, its ranges among parameters with it (R246, R247). -/
def State.laneCfgOk (s : State) (l : Nat) : Bool :=
  decide (s.pn P.PHASE_TICKS l < s.pn P.PERIOD_TICKS l) &&
  decide (s.pq P.FB_MIN l ≤ s.pq P.FB_MAX l) && decide (s.pq P.SP_MIN l ≤ s.pq P.SP_MAX l) &&
  decide (s.pn P.OVR_LIMIT l ≤ s.pn P.OVR_WINDOW l) &&
  s.slotsOk && s.outPointOk l &&
  (s.pn P.LANE_ENABLE l != 1 || (s.ptRef P.FB_POINT l).isSome) &&
  s.pn P.SP_FALLBACK_SRC l != s.pn P.SP_SRC l &&
  s.spSrcOk l (s.pn P.SP_SRC l) && s.spSrcOk l (s.pn P.SP_FALLBACK_SRC l) &&
  (s.pn P.FF_SRC l != 1 || (s.ptRef P.FF_POINT l).isSome) &&
  (s.pn P.FF_SRC l != 2 || s.pfld P.FF_PLAN l 0 != refNone) &&
  (s.pn P.FB_REACT l != 2 || (s.pfld P.VF_SRC l 0 != refNone && decide (0 < s.pn P.VF_MAX_MS l))) &&
  (s.pn P.IMPL_N l == 0 || s.pfld P.VF_SRC l 0 != refNone)

/-- Numbers rise strictly. -/
def risingQ : List Rat → Bool
  | a :: b :: r => decide (a < b) && risingQ (b :: r)
  | _ => true

/-- The signs of the gains agree: all at or above 0, or all at or below 0. -/
def gainsOk (l : List Rat) : Bool := l.all (fun x => decide (0 ≤ x)) || l.all (fun x => decide (x ≤ 0))

/-- A bank of a lane passes its agreement check (R247). -/
def State.bankOk (s : State) (b : Tab PVal) (l : Nat) : Bool :=
  let q := fun id => qof ((bankVal b id l).headD 0)
  let ft := bankVal b P.FRIC_TABLE l
  let dt := bankVal b P.DETENT_TABLE l
  gainsOk [q P.KP, q P.KI, q P.KD] && decide (q P.OUT_MIN < q P.OUT_MAX) &&
  risingQ ((fricPairs ft 1).map (fun x => x.1)) &&
  (fricPairs ft 1).all (fun x => decide (0 ≤ x.2)) && (fricPairs ft 2).all (fun x => decide (0 ≤ x.2)) &&
  (dt.headD 0 == 0 || decide (0 < qof (dt.getD 2 0))) &&
  (dt.headD 0 == 0 || (s.ptRef P.POS_POINT l).isSome)

/-- The inactive bank of a lane. -/
def State.inactiveBank (s : State) (l : Nat) : Tab PVal := if (s.lane? l).bankSel then s.par.bankA else s.par.bankB

end Sys2Proof.Machine
end

