-- ==== Sys2Proof/Machine/Image.lean ====
section
/-! DEFINITION. Images: the container, signature and directory checks that model and block images share, and the
checks of a model's records, references, topology and counts (R65 to R71, R274). -/

namespace Sys2Proof.Machine

/-- One failure of a validation: code, element ID, field offset (R69). -/
abbrev VFail := Nat × Nat × Nat

/-- A failure that concerns no element. -/
def failCode (code : Nat) : VFail := (code, refNone, 0)

/-- A failure where a condition does not hold. -/
def failUnless (ok : Bool) (f : VFail) : List VFail := if ok then [] else [f]

/-! ### Container (checks 1 to 4 of R69) -/

/-- An image kind: model or block image, with the base of its codes. -/
structure ImageKind where
  magic : Nat
  itype : Nat
  base : Nat
  maxLen : Nat
  maskBits : Nat
  sections : List Nat
  needed : List Nat
  reserved60 : Bool

/-- Model images (R65, R66). -/
def modelImage : ImageKind :=
  { magic := 0x4D4E544F, itype := 3, base := 0x0100, maxLen := 134217728, maskBits := 3
    sections := [1, 2, 3, 4, 5, 6, 7, 8, 9, 0x10, 0x20], needed := [], reserved60 := true }

/-- Block images (R274, R275). -/
def blockImage : ImageKind :=
  { magic := 0x42494D47, itype := 4, base := 0x1100, maxLen := 67108864, maskBits := 7
    sections := [0x101, 0x102, 0x103, 0x104, 0x105, 0x106, 0x107, 0x120]
    needed := [0x101, 0x102, 0x103, 0x104, 0x105, 0x106, 0x107], reserved60 := false }

/-- Bit of VARIANT_MASK of this variant. -/
def State.variantBit (s : State) : Nat :=
  match s.ident.variant with | .q8260 => 0 | .q8230 => 1 | .q8200 => 2

/-- Serial of an image. -/
def imgSerial (b : List Byte) : Nat := leAt b 16 4

/-- Key of an image. -/
def imgKey (b : List Byte) : U64 := BitVec.ofNat 64 (leAt b 32 8)

/-- SIG_KEY_LABEL of an image. -/
def imgLabel (b : List Byte) : U64 := BitVec.ofNat 64 (leAt b 48 8)

/-- Check 1: the container (R69, R71); 0 where it passes. Of two fields that fail, the order of the codes decides which is
reported, so that MIN_FW comes before the ranges of serial, key and section count: DESIGN CHOICE (log entry 67). -/
def State.containerCode (s : State) (k : ImageKind) (b : List Byte) : Nat :=
  let mask := leAt b 7 1
  if leAt b 0 4 != k.magic || leAt b 4 2 != 1 || leAt b 6 1 != k.itype then k.base + 1
  else if leAt b 8 4 != b.length || decide (k.maxLen < b.length) then k.base + 2
  else if leAt b 56 4 != (crc32 (b.take 56)).toNat || leAt b 14 2 != 0 || (k.reserved60 && leAt b 60 4 != 0) ||
      mask &&& k.maskBits != mask then k.base + 3
  else if !bitOf mask s.variantBit then k.base + 4
  else if s.ident.fw.toNat < leAt b 20 4 then k.base + 5
  else if imgSerial b = 0 || imgKey b == 0#64 || leAt b 12 2 < 1 || 16 < leAt b 12 2 ||
      (!k.reserved60 && leAt b 40 4 == 0) then k.base + 6
  else 0

/-- Check 2: the signature (R67). -/
def State.signatureCode (s : State) (k : ImageKind) (b : List Byte) : Nat :=
  let body := b.take (b.length - 104)
  let sig := b.drop (b.length - 104)
  match s.keyFor (imgLabel b) 3 with
  | none => k.base + 0x11
  | some key =>
    if leAt sig 0 2 = 1 && leAt sig 2 6 = 0 && Config.ecdsaOk key body (sig.drop 8) then 0 else k.base + 0x12

/-- Directory entry `i`: SECT_TYPE, OFFSET, LENGTH, CRC, and its reserved field (R66). -/
def dirEntry (b : List Byte) (i : Nat) : Nat × Nat × Nat × Nat × Nat :=
  let o := 64 + 16 * i
  (leAt b o 2, leAt b (o + 4) 4, leAt b (o + 8) 4, leAt b (o + 12) 4, leAt b (o + 2) 2)

/-- The directory of an image. -/
def imgDir (b : List Byte) : List (Nat × Nat × Nat × Nat × Nat) := (List.range (leAt b 12 2)).map (dirEntry b)

/-- The bytes of a section; none where the image has no such section. -/
def imgSection (b : List Byte) (ty : Nat) : Option (List Byte) :=
  ((imgDir b).find? (fun e => e.1 == ty)).map (fun e => (b.drop e.2.1).take e.2.2.1)

/-- Two sections do not overlap. -/
def apart (x y : Nat × Nat × Nat × Nat × Nat) : Bool :=
  decide (x.2.1 + x.2.2.1 ≤ y.2.1) || decide (y.2.1 + y.2.2.1 ≤ x.2.1)

/-- Every pair of a list stands in a relation. -/
def pairsOk {α : Type} (f : α → α → Bool) : List α → Bool
  | [] => true
  | x :: r => r.all (f x) && pairsOk f r

/-- Check 4: the directory and the section CRCs (R66; log entry 48). A section that is present and empty is accepted, as
the rule gives it no code: DESIGN CHOICE (log entry 67). -/
def directoryCode (k : ImageKind) (b : List Byte) : Nat :=
  let d := imgDir b
  let lo := 64 + 16 * d.length
  let hi := b.length - 104
  let ok := fun (e : Nat × Nat × Nat × Nat × Nat) =>
    k.sections.contains e.1 && decide (lo ≤ e.2.1) && decide (e.2.1 + e.2.2.1 ≤ hi) && e.2.1 % 8 == 0 &&
      e.2.2.2.2 == 0
  if !(d.all ok) || !pairsOk apart d || !pairsOk (fun x y => x.1 != y.1) d ||
      !(k.needed.all (fun t => d.any (fun e => e.1 == t))) then k.base + 0x31
  else if d.all (fun e => (crc32 ((b.drop e.2.1).take e.2.2.1)).toNat == e.2.2.2.1) then 0
  else k.base + 0x32

/-- Checks 1 to 4 in order; the first that fails ends the load (R69). -/
def State.imageCode (s : State) (k : ImageKind) (floor : Nat) (b : List Byte) : Nat :=
  let c1 := s.containerCode k b
  let c2 := s.signatureCode k b
  if c1 != 0 then c1
  else if c2 != 0 then c2
  else if imgSerial b < floor then k.base + 0x21
  else directoryCode k b

/-- The completion status of a code (R70, R71, R276). -/
def codeStatus (code : Nat) : Nat :=
  if code = 0 then St.OK
  else if [0x0111, 0x0112, 0x1111, 0x1112].contains code then St.SIGNATURE
  else if [0x0101, 0x0102, 0x0103, 0x0104, 0x0105, 0x0106, 0x0132, 0x0201, 0x0205, 0x0206, 0x1101, 0x1102, 0x1103,
      0x1104, 0x1105, 0x1106, 0x1132, 0x1203, 0x1209].contains code then St.RANGE
  else St.DISAGREE

/-! ### Records (check 5) -/

/-- Record size of a type (R41). -/
def recSize : Nat → Nat
  | 1 => 48 | 2 => 56 | 3 => 72 | 4 => 76 | 5 => 64 | 6 => 52 | 7 => 48 | 8 => 40 | _ => 48

/-- Count limit of a type (R41). -/
def recLimit : Nat → Nat
  | 1 => 65536 | 2 => 131072 | 3 => 4096 | 4 => 256 | 5 => 64 | 6 => 2048 | 7 => 1024 | 8 => 16 | _ => 256

/-- A point reference. -/
def fPt : PKind := .natOr 32 0 262143 refNone

/-- A series reference. -/
def fSer : PKind := .natOr 32 0 255 refNone

/-- Fields of a type's record with their fixed ranges: offset, range (R47 to R59). Their width is the range's. -/
def recFields : Nat → List (Nat × PKind)
  | 1 => [(16, .nat 8 0 3), (20, .real (-40) 200), (24, .real (-40) 200), (28, .real 0 2500), (32, .real 0 2500),
      (36, .real (-500) 5000), (40, fPt), (44, fPt)]
  | 2 => [(24, .real 1 20000), (28, .real 20 1600), (32, .real (1/1000) 5), (36, .real 0 10), (40, fPt),
      (44, .real (-30) 40), (48, .real (1/10) 5000), (52, .nat 8 0 1)]
  | 3 => [(16, .nat 16 0 4095), (18, .nat 8 1 255), (19, .nat 8 0 2), (36, .real 0 20000), (40, .real 0 20000),
      (44, .real 40 130), (48, .real 2 20), (52, .real 5 60), (56, .real 2 15), (60, .real 0 10000), (64, .real 0 48)]
  | 4 => [(16, .nat 8 1 5), (32, .real 1 200000), (36, .realGE 0), (40, .real 1 200000), (44, .real 1 200000),
      (48, .finite), (52, .finite), (56, .finite), (60, fSer), (64, .real 0 1000), (68, .real 0 1000000),
      (72, .real (-10) 200)]
  | 5 => [(16, .nat 8 1 3), (28, .real 10 200000), (32, .finite), (36, .realGE 0), (40, .real 0 200000),
      (44, .real 0 200000), (48, .real 0 5), (52, .real (-5) 200), (56, .realGE (-1))]
  | 6 => [(28, .real 1 2500), (32, .real (1/10) 5000), (36, .real (1/10) 10000), (44, .real (1/5) (19/20)),
      (48, .natOr 16 0 1023 0xFFFF), (50, .nat 8 1 8)]
  | 7 => [(16, .nat 8 1 2), (24, .real (-100000) 100000), (28, .realGE (-100000)), (32, .real 0 100),
      (36, .real 0 10000), (44, fPt)]
  | 8 => [(16, .real 0 1000000), (20, .real 0 1000000), (24, fSer), (28, fSer), (32, fSer), (36, fPt)]
  | _ => [(16, .nat 8 1 3), (17, .nat 8 4 6), (24, .addr), (28, .nat 16 0 255), (32, .real (-1000000) 1000000),
      (36, .realGE (-1000000)), (40, .real (-10) 200), (44, .real (1/1000) 1000)]

/-- Reserved bytes and bits of a type's record: offset, width in bytes, mask of the reserved bits. -/
def recReserved : Nat → List (Nat × Nat × Nat)
  | 1 => [(17, 3, 0xFFFFFF)]
  | 2 => [(53, 1, 0xFC), (54, 2, 0xFFFF)]
  | 3 => [(18, 1, 0xFC)]
  | 4 => [(17, 3, 0xFFFFFF)]
  | 5 => [(17, 3, 0xFFFFFF)]
  | 6 => [(51, 1, 0xFF)]
  | 7 => [(17, 3, 0xFFFFFF)]
  | 8 => []
  | _ => [(18, 2, 0xFFFF), (30, 2, 0xFFFF)]

/-- Width of a field in bytes. -/
def fieldBytes (k : PKind) : Nat := match k with | .addr => 4 | k => k.width / 8

/-- Records of a section, cut at the record size, with fuel. -/
def cutRecs (n : Nat) : Nat → List Byte → List (List Byte)
  | 0, _ => []
  | _, [] => []
  | f + 1, b => b.take n :: cutRecs n f (b.drop n)

/-- The element records of an image, by type and index. -/
def imgElems (b : List Byte) : List (Nat × List (List Byte)) :=
  (List.range 9).map (fun t => (t + 1, match imgSection b (t + 1) with
    | some x => cutRecs (recSize (t + 1)) x.length x
    | none => []))

/-- Check 5 of one record, at its place in its section. -/
def recFails (ty idx : Nat) (r : List Byte) : List VFail :=
  let id := recId r
  failUnless (rU16 r 4 == recSize ty && r.length == recSize ty) (0x0201, id, 4) ++
  failUnless (rU8 r 6 == 1) (0x0201, id, 6) ++
  failUnless (id == ty * 2 ^ 24 + idx) (0x0202, id, 0) ++
  failUnless (recKey r != 0) (0x0203, id, 8) ++
  failUnless (rU8 r 7 &&& 3 == rU8 r 7) (0x0206, id, 7) ++
  ((recReserved ty).filter (fun x => leAt r x.1 x.2.1 &&& x.2.2 != 0)).map (fun x => (0x0206, id, x.1)) ++
  ((recFields ty).filter (fun x => !(x.2.ok (leAt r x.1 (fieldBytes x.2))))).map (fun x => (0x0205, id, x.1))

/-- Keys that stand in a list of keys before. -/
def repeats : List Nat → List (Nat × Nat) → List Nat
  | _, [] => []
  | seen, (k, id) :: r => if seen.contains k then id :: repeats seen r else repeats (k :: seen) r

/-! ### Tables (R61) -/

/-- The pairs of a table. -/
def tabPairs (b : List Byte) (n : Nat) : List (F32 × F32) :=
  (List.range n).map (fun k => (rF b (8 * k), rF b (8 * k + 4)))

/-- The tables of a section, with fuel. -/
def cutTabs : Nat → List Byte → List ModelTab
  | 0, _ => []
  | _, [] => []
  | f + 1, b =>
    let n := rU16 b 6
    { no := rU32 b 0, kind := rU16 b 4, pairs := tabPairs (b.drop 8) n } :: cutTabs f (b.drop (8 + 8 * n))

/-- The tables of an image. -/
def imgTabs (b : List Byte) : List ModelTab :=
  match imgSection b 0x10 with | some x => cutTabs x.length x | none => []

/-- N of each table of a section, and the pairs that the section holds of it, with fuel. -/
def tabLens : Nat → List Byte → List (Nat × Nat)
  | 0, _ => []
  | _, [] => []
  | f + 1, b => (rU16 b 6, min (rU16 b 6) ((b.length - 8) / 8)) :: tabLens f (b.drop (8 + 8 * rU16 b 6))

/-- The section holds every table whole: a head of 8 bytes and N pairs (R61). -/
def tabWhole (b : List Byte) (i : Nat) : Bool :=
  match imgSection b 0x10 with
  | some x => (match (tabLens x.length x)[i]? with | some l => l.1 == l.2 | none => false)
  | none => true

/-- Numbers do not rise. -/
def fallingQ : List Rat → Bool
  | a :: b :: r => decide (b ≤ a) && fallingQ (b :: r)
  | _ => true

/-- A table is well formed (R61). Everything that R61 says of a table fails as a malformed one, 16#0207, its number, its
kind, a number that is not finite and an hour outside the week among it: DESIGN CHOICE (log entry 67). -/
def tabOk (i : Nat) (t : ModelTab) : Bool :=
  let xs := t.pairs.map (fun p => p.1.rat)
  let ys := t.pairs.map (fun p => p.2.rat)
  t.no == i && decide (1 ≤ t.kind) && decide (t.kind ≤ 3) && decide (2 ≤ t.pairs.length) &&
  decide (t.pairs.length ≤ 256) && t.pairs.all (fun p => p.1.isFin && p.2.isFin) && risingQ xs &&
  (t.kind != 1 || (xs.headD 1 == 0 && fallingQ ys)) &&
  (t.kind != 2 || xs.all (fun x => decide (0 ≤ x) && decide (x < 168)))

/-! ### References (check 6) -/

/-- The model of an image, before its checks. -/
def imgModel (b : List Byte) : NetModel :=
  { serial := imgSerial b, key := imgKey b, varCount := leAt b 40 4, sigLabel := imgLabel b
    elems := ((imgElems b).map (fun x => x.2)).flatten, tabs := imgTabs b }

/-- The NETWORK of a node. -/
def nodeNet (m : NetModel) (n : Nat) : Option Nat := (findElem m n).map (fun r => rU8 r 16)

/-- A reference that is required: to an existing element of a type (R69, R71). -/
def refFails (m : NetModel) (r : List Byte) (o : Nat) (types : List Nat) (must : Bool) : List VFail :=
  let x := rU32 r o
  if x = refNone then (if must then [(0x0301, recId r, o)] else [])
  else if (findElem m x).isNone then [(0x0301, recId r, o)]
  else failUnless (types.contains (idType x)) (0x0302, recId r, o)

/-- A reference to a table of a kind. -/
def tabFails (m : NetModel) (r : List Byte) (o kind : Nat) (must : Bool) : List VFail :=
  let x := rU32 r o
  if x = refNone then (if must then [(0x0301, recId r, o)] else [])
  else match m.tabs[x]? with
    | none => [(0x0301, recId r, o)]
    | some t => failUnless (t.kind == kind) (0x0302, recId r, o)

/-- A node of one of the networks given. -/
def netFails (m : NetModel) (r : List Byte) (o : Nat) (nets : List Nat) : List VFail :=
  match nodeNet m (rU32 r o) with
  | some n => failUnless (idType (rU32 r o) != 1 || nets.contains n) (0x0302, recId r, o)
  | none => []

/-- Two nodes of the same network, the second on its return side (R51, R53, check 7). -/
def sidesFails (m : NetModel) (r : List Byte) (sup ret : Nat) : List VFail :=
  match nodeNet m (rU32 r sup), nodeNet m (rU32 r ret) with
  | some a, some b => failUnless (b == a + 1 || b % 2 != 1) (0x0312, recId r, ret)
  | _, _ => []

/-- Two nodes of one network and side. -/
def sameNetFails (m : NetModel) (r : List Byte) (x y : Nat) : List VFail :=
  match nodeNet m (rU32 r x), nodeNet m (rU32 r y) with
  | some a, some b => failUnless (a == b) (0x0312, recId r, y)
  | _, _ => []

/-- One connection of a service: present exactly with its bit (R50), on its side. -/
def serviceFails (m : NetModel) (r : List Byte) (bit o net : Nat) : List VFail :=
  if bitOf (rU8 r 18) bit then
    (if rU32 r o = refNone then [(0x0304, recId r, o)] else refFails m r o [1] true ++ netFails m r o [net])
  else failUnless (rU32 r o == refNone) (0x0304, recId r, o)

/-- Kind coefficients of a plant (R52, R99). -/
def plantCoefOk (r : List Byte) : Bool :=
  let a := rQ r 48
  let b := rQ r 52
  let c := rQ r 56
  let within := fun (x lo hi : Rat) => decide (endQ lo ≤ x) && decide (x ≤ endQ hi)
  match rU8 r 16 with
  | 1 => within a (1/2) (11/10) && b == 0 && c == 0
  | 2 => within a (1/5) (7/10) && within b (1/10) (3/5) && decide (a + b ≤ 11/10) && within c 0 2 && decide (c * a ≤ b)
  | 3 => within a (3/2) 10 && within b (-1/2) 0 && within c 5 100
  | 4 => within a (9/10) 1 && b == 0 && c == 0
  | _ => within a (3/2) 12 && within b (-1/2) 0 && within c 5 60

/-- Offset of the kind coefficient that fails, of one that fails by itself or with those before it (R70; log entry 48). -/
def plantCoefAt (r : List Byte) : Nat :=
  let a := rQ r 48
  let b := rQ r 52
  let within := fun (x lo hi : Rat) => decide (endQ lo ≤ x) && decide (x ≤ endQ hi)
  match rU8 r 16 with
  | 1 => if !within a (1/2) (11/10) then 48 else if b != 0 then 52 else 56
  | 2 => if !within a (1/5) (7/10) then 48 else if !within b (1/10) (3/5) || decide (11/10 < a + b) then 52 else 56
  | 3 => if !within a (3/2) 10 then 48 else if !within b (-1/2) 0 then 52 else 56
  | 4 => if !within a (9/10) 1 then 48 else if b != 0 then 52 else 56
  | _ => if !within a (3/2) 12 then 48 else if !within b (-1/2) 0 then 52 else 56

/-- Coefficients and references that a plant's kind requires (R52, R71). -/
def plantFails (r : List Byte) : List VFail :=
  let k := rU8 r 16
  failUnless (plantCoefOk r) (0x0305, recId r, plantCoefAt r) ++
  failUnless (k == 1 || rU32 r 28 != refNone) (0x0305, recId r, 28) ++
  failUnless (decide (2 < k) || rU32 r 60 != refNone) (0x0305, recId r, 60)

/-- PARENT of a feeder followed to a grid connection within 16 steps (R57). -/
def feederRoot (m : NetModel) : Nat → Nat → Bool
  | 0, _ => false
  | n + 1, e => match findElem m e with
    | some r => let p := rU32 r 20
      if idType p = 8 then (findElem m p).isSome else if idType p = 7 then feederRoot m n p else false
    | none => false

/-- Check 6 of one record. A CHARGE_PLANT where none belongs, or one that is no chiller, is a reference to the wrong
element, 16#0302; an E_END_MIN that is neither −1 nor between E_MIN and E_MAX fails with 16#0303, since its range is
another field's: DESIGN CHOICE (log entry 67). -/
def refChecks (m : NetModel) (r : List Byte) : List VFail :=
  let id := recId r
  let k := rU8 r 16
  match recType r with
  | 1 => failUnless (decide (rQ r 20 ≤ rQ r 24)) (0x0303, id, 20) ++ failUnless (decide (rQ r 28 ≤ rQ r 32)) (0x0303, id, 28)
  | 2 => refFails m r 16 [1] true ++ refFails m r 20 [1] true
  | 3 => serviceFails m r 0 20 0 ++ serviceFails m r 0 24 1 ++ serviceFails m r 1 28 2 ++ serviceFails m r 1 32 3 ++
      tabFails m r 68 2 true
  | 4 =>
      refFails m r 20 [1] true ++ refFails m r 24 [1] true ++ netFails m r 20 [if k = 5 then 2 else 0] ++
      netFails m r 24 [1, 3] ++ refFails m r 28 [7] false ++
      plantFails r ++
      failUnless (decide (rQ r 36 ≤ rQ r 32)) (0x0303, id, 36)
  | 5 =>
      refFails m r 20 [1] true ++ refFails m r 24 [1] true ++ netFails m r 20 [if k = 1 then 0 else 2] ++
      netFails m r 24 [1, 3] ++
      failUnless (decide (rQ r 36 < rQ r 32)) (0x0303, id, 36) ++
      failUnless (rQ r 56 == -1 || (decide (rQ r 36 ≤ rQ r 56) && decide (rQ r 56 ≤ rQ r 32))) (0x0303, id, 56) ++
      (if k = 3 then
        (if rU32 r 60 = refNone then [(0x0307, id, 60)]
        else match findElem m (rU32 r 60) with
          | none => [(0x0301, id, 60)]
          | some p => failUnless (recType p == 4 && rU8 p 16 == 5) (0x0302, id, 60))
      else failUnless (rU32 r 60 == refNone) (0x0302, id, 60))
  | 6 => refFails m r 16 [1] true ++ refFails m r 20 [1] true ++ refFails m r 24 [7] true ++ tabFails m r 40 1 true
  | 7 =>
      refFails m r 20 [7, 8] true ++ failUnless (decide (rQ r 28 ≤ rQ r 24)) (0x0303, id, 28) ++
      tabFails m r 40 2 (k == 2) ++ failUnless (feederRoot m 16 id) (0x0306, id, 20)
  | 8 =>
      failUnless (rU32 r 24 != refNone) (0x0301, id, 24) ++
      failUnless (decide (rQ r 20 ≤ 0) || rU32 r 28 != refNone) (0x0301, id, 28)
  | _ =>
      refFails m r 20 [if k = 1 then 1 else if k = 2 then 7 else 4] true ++
      failUnless (decide (rQ r 36 ≤ rQ r 32)) (0x0303, id, 36)

/-- Rules of check 6 among records: STATION_NO, ice-store chillers, coupling peers, lanes of pump sets. -/
def crossChecks (m : NetModel) : List VFail :=
  let rep := fun (ty : Nat) (f : List Byte → Option Nat) =>
    repeats [] ((elemsOf m ty).filterMap (fun r => (f r).map (fun k => (k, recId r))))
  (rep 3 (fun r => some (rU16 r 16))).map (fun i => (0x0304, i, 16)) ++
  (rep 5 (fun r => if rU8 r 16 = 3 && rU32 r 60 != refNone then some (rU32 r 60) else none)).map
    (fun i => (0x0307, i, 60)) ++
  (rep 9 (fun r => some (rU32 r 24 * 65536 + rU16 r 28))).map (fun i => (0x0308, i, 24)) ++
  (rep 6 (fun r => if rU16 r 48 = 0xFFFF then none else some (rU16 r 48))).map (fun i => (0x030A, i, 48))

/-! ### Topology and counts (checks 7 and 8) -/

/-- Nodes that some pipe segment ends at. -/
def pipeEnds (m : NetModel) : List Nat := ((elemsOf m 2).map (fun r => [rU32 r 16, rU32 r 20])).flatten

/-- Check 7 (R69). -/
def topoChecks (m : NetModel) : List VFail :=
  ((elemsOf m 1).filter (fun r => !((pipeEnds m).contains (recId r)))).map (fun r => (0x0311, recId r, 0)) ++
  (m.elems.map (fun r => match recType r with
    | 2 => sameNetFails m r 16 20
    | 4 => sidesFails m r 20 24
    | 5 => sidesFails m r 20 24
    | 6 => sameNetFails m r 16 20
    | _ => [])).flatten

/-- Variables that fit (R63). -/
def State.capacity (s : State) : Nat :=
  match s.ident.variant with | .q8260 => 20000000 | .q8230 => 10000000 | .q8200 => 0

/-- A model fits the committed step and scenario counts (R63, R64). -/
def State.fitsCapacity (s : State) (m : NetModel) : Bool :=
  decide (modelVars m * s.pn P.HORIZON_STEPS 0 * s.pn P.SCENARIOS 0 ≤ s.capacity)

/-- Checks 5 to 8 (R69). A malformed table is reported with its index in place of an element ID, and a count limit with
the first ID of the type, both at offset 0: DESIGN CHOICE (log entry 67). -/
def State.modelFails (s : State) (b : List Byte) : List VFail :=
  let m := imgModel b
  let byType := imgElems b
  (byType.map (fun x => (x.2.mapIdx (fun i r => recFails x.1 i r)).flatten ++
    failUnless (decide (x.2.length ≤ recLimit x.1)) (0x0204, x.1 * 2 ^ 24, 0))).flatten ++
  (repeats [] (m.elems.map (fun r => (recKey r, recId r)))).map (fun i => (0x0203, i, 8)) ++
  (m.tabs.mapIdx (fun i t => failUnless (tabOk i t && tabWhole b i) (0x0207, i, 0))).flatten ++
  (m.elems.map (refChecks m)).flatten ++ crossChecks m ++ topoChecks m ++
  failUnless (modelVars m == m.varCount && m.elems.length == leAt b 44 4) (failCode 0x0402) ++
  failUnless (s.fitsCapacity m) (failCode 0x0401)

/-- Every failure of a model load: the first of checks 1 to 4, or all of checks 5 to 8. -/
def State.modelLoadFails (s : State) (b : List Byte) : List VFail :=
  let c := s.imageCode modelImage s.model.floor b
  if c != 0 then [failCode c] else s.modelFails b

/-! ### Activation checks (R46, R72) -/

/-- Quantities that a measurement may be bound to (R163). -/
def bindableQtys (r : List Byte) : List Nat :=
  match recType r with
  | 1 => [0, 1]
  | 2 => [0]
  | 3 => (recQtys r).filter (fun q => q % 4 != 3)
  | 4 => (recQtys r).take ((recQtys r).length - 2)
  | 5 => [0, 1, 2, 3]
  | 6 => [0, 1, 2]
  | 7 => [0]
  | _ => []

/-- The point field of an element's own record for a quantity. -/
def ownPoint (r : List Byte) (q : Nat) : Nat :=
  match recType r with
  | 1 => if q = 0 then rU32 r 40 else rU32 r 44
  | 7 => if q = 0 then rU32 r 44 else refNone
  | 8 => rU32 r 36
  | _ => refNone

/-- A committed measurement binding names an element and quantity. -/
def State.measBound (s : State) (e q : Nat) : Bool :=
  (s.pEntries P.MEAS_BINDING).any (fun x => x.2.getD 0 refNone == e && x.2.getD 1 0 == q)

/-- Every FIXED element of a model has its points (R46). -/
def State.fixedOk (s : State) (m : NetModel) : Bool :=
  m.elems.all (fun r => !recFixed r ||
    (bindableQtys r).all (fun q => ownPoint r q != refNone || s.measBound (recId r) q))

/-- Elements that lanes and the active program name (R72, R244). -/
def State.boundElems (s : State) (progElems : List Nat) : List Nat :=
  (((s.pEntries P.SP_PLAN) ++ (s.pEntries P.FF_PLAN) ++ (s.pEntries P.VF_SRC)).map (fun x => x.2.getD 0 refNone) ++
    progElems).filter (fun e => e != refNone)

/-- The first activation check that a staged model fails, 0 for none (R71, R72). -/
def State.activationCode (s : State) (progElems : List Nat) (m : NetModel) : Nat :=
  if (s.boundElems progElems).any (fun e => (findElem m e).isNone) then 0x0502
  else if !s.fixedOk m then 0x0309
  else 0

end Sys2Proof.Machine
end

