-- ==== Sys2Proof/Machine/Models.lean ====
section
/-! DEFINITION. Loading models and programs, service state and input series (chapters "The network model", "Dispatch
problem and plans" and "Cyclic programs and function blocks"). -/

namespace Sys2Proof.Machine

/-! ### Model loads (R68 to R71) -/

/-- What the tables say of MODEL_LOAD. -/
def modelLoadInfo : CmdInfo :=
  { op := 0x0C01, who := [.installer], hostOnly := true, standby := true, needsFit := true }

/-- The inactive model bank is empty, and nothing is staged. -/
def State.dropStagedModel (s : State) : State :=
  { s with
    model.staged := false
    model.image := []
    model.tried := false
    model.bankA := if s.model.activeB then none else s.model.bankA
    model.bankB := if s.model.activeB then s.model.bankB else none }

/-- MODEL_LOAD: one load or activation at a time; a staged model is discarded at once (R68). -/
def modelLoadVerdict (h : Hdr) (s : State) : Verdict :=
  if s.model.op.isSome then reject St.BUSY
  else s.long h 0x0C01 (fun n t =>
    { t.dropStagedModel.progress n 0 with
      model.op := some { kind := 1, handle := n, tag := h.tag, seq := t.host.accSeq }
      host.accSeq := t.host.accSeq + 1 })

/-- MODEL_LOAD (R68, R69). -/
def execModelLoad (h : Hdr) (s : State) : Host.Outcome State Fault Refusal :=
  .next (s.command modelLoadInfo h 0 (modelLoadVerdict h))

/-- What a load's completion record carries: code, element ID, field offset, failures, variable count (R70). -/
def loadReport (fails : List VFail) (vars : Nat) : List Byte :=
  let f := fails.headD (0, refNone, 0)
  leRec [(4, f.1), (4, f.2.1), (4, f.2.2), (4, fails.length), (4, vars)]

/-- A model that has passed its checks is staged in the inactive bank. -/
def State.stageModel (s : State) (b : List Byte) (m : NetModel) : State :=
  { s with
    model.staged := true
    model.image := b
    model.tried := false
    model.bankA := if s.model.activeB then some m else s.model.bankA
    model.bankB := if s.model.activeB then s.model.bankB else some m }

/-- A model load ends (R69, R70). -/
def State.modelLoadEnd (s : State) (h : U32) (b : List Byte) : State :=
  let fails := s.modelLoadFails b
  let code := (fails.headD (0, refNone, 0)).1
  let s1 := { s with
    model.op := none
    model.report := fails.take 256
    model.reportCount := fails.length }
  let s2 := if fails.isEmpty then s1.stageModel b (imgModel b) else s1.dropStagedModel
  s2.complete h (codeStatus code) code (loadReport fails (modelVars (imgModel b)))

/-- MODEL_LOAD_DONE: the image has arrived whole (R65 to R71). -/
def execModelLoadDone (bytes : List Byte) (s : State) : Host.Outcome State Fault Refusal :=
  .next (
    match s.model.op with
    | some o => if s.ready && o.kind == 1 then s.modelLoadEnd o.handle bytes else s
    | none => s)

/-- What the tables say of MODEL_DISCARD. -/
def modelDiscardInfo : CmdInfo := { op := 0x0C03, who := [.installer], standby := true, needsFit := true }

/-- MODEL_DISCARD: with nothing staged it has no effect (R68). -/
def modelDiscardVerdict (s : State) : Verdict :=
  if s.model.op.isSome then reject St.BUSY
  else { act := fun t => if t.model.staged then t.dropStagedModel else t }

/-- MODEL_DISCARD (R68). -/
def execModelDiscard (h : Hdr) (s : State) : Host.Outcome State Fault Refusal :=
  .next (s.command modelDiscardInfo h 0 modelDiscardVerdict)

/-! ### Program loads (R271, R276) -/

/-- Stack effect of an opcode: entries needed, entries left (R270). -/
def opStack (op : Nat) : Nat × Nat :=
  if op = 0 || op = 0x2B || op = 0x2F then (0, 0)
  else if op = 1 || op = 2 || op = 3 || op = 4 || op = 0x2C || op = 0x2D || op = 0x2E then (0, 1)
  else if op = 5 || op = 6 || op = 8 || op = 0x2A then (1, 0)
  else if op = 7 then (1, 2)
  else if op = 9 then (2, 2)
  else if isUn op then (1, 1)
  else if op = 0x28 || op = 0x29 then (3, 1)
  else (2, 1)

/-- ARG of an instruction lies within its table (R271). -/
def argOk (ty : ExprType) (op arg : Nat) : Bool :=
  if op = 1 || op = 0x2D || op = 0x2E then decide (arg < ty.nIn)
  else if op = 2 || op = 6 then decide (arg < ty.nLoc)
  else if op = 3 then decide (arg < ty.consts.length)
  else if op = 5 then decide (arg < ty.outReal.length)
  else true

/-- Verification of the code from position `p` on: `depth` lists the stack depths with which each position can be
reached (R271). Code only jumps forward, so one pass meets every path. -/
def verifyFrom (ty : ExprType) : List (BitVec 16) → Nat → Tab (List Nat) → Bool
  | [], _, _ => true
  | i :: code, p, depth =>
    let op := i.toNat / 1024
    let arg := i.toNat % 1024
    let here := (tgetD depth p []).dedup
    let k := opStack op
    let after := here.map (fun d => d - k.1 + k.2)
    let put := fun (t : Tab (List Nat)) (q : Nat) => tset t q (tgetD t q [] ++ after)
    decide (op < 0x30) && argOk ty op arg && here.all (fun d => decide (k.1 ≤ d)) &&
    after.all (fun d => decide (d ≤ 16)) &&
    (if op = 0x2F then verifyFrom ty code (p + 1) depth
     else if op = 0x2B then decide (p + 1 + arg < ty.code.length) && verifyFrom ty code (p + 1) (put depth (p + 1 + arg))
     else if op = 0x2A then
       decide (p + 1 + arg < ty.code.length) && verifyFrom ty code (p + 1) (put (put depth (p + 1 + arg)) (p + 1))
     else verifyFrom ty code (p + 1) (put depth (p + 1)))

/-- An expression type passes R270 and R271. -/
def exprOk (ty : ExprType) : Bool :=
  decide (ty.nIn ≤ 64) && decide (ty.outReal.length ≤ 64) && decide (ty.nLoc ≤ 256) && decide (ty.consts.length ≤ 256) &&
  decide (ty.code.length ≤ 1024) && (match ty.code.getLast? with | some i => i.toNat / 1024 == 0x2F | none => false) &&
  verifyFrom ty ty.code 0 [(0, [0])]

/-- Types of a family in the catalogue (R267). -/
def familySize : Nat → Nat
  | 1 => 16 | 2 => 8 | 3 => 15 | 4 => 26 | 5 => 8 | 6 => 3 | 7 => 3 | 8 => 2 | 9 => 2 | 10 => 12 | 11 => 9 | 12 => 3
  | 13 => 3 | 14 => 5 | 15 => 4 | _ => 0

/-- The TYPE_ID is in the catalogue. -/
def typeKnown (t : Nat) : Bool := t == 0xE000 || (decide (1 ≤ t % 256) && decide (t % 256 ≤ familySize (t / 256)))

/-- 16#1201: the limits of R250 and R273. -/
def progLimits (b : List Byte) (p : Program) : Bool :=
  decide (p.insts.length ≤ 65536) && decide (leAt b 44 4 ≤ 16777216) && decide (leAt b 60 4 ≤ 8388608) &&
  decide (((p.insts.filter (fun e => e.retain)).map (fun e => e.dataLen)).sum ≤ 1048576) &&
  p.insts.length == leAt b 40 4

/-- 16#1202: instance keys. -/
def progKeysOk (p : Program) : Bool :=
  p.insts.all (fun e => e.key != 0#64) && (p.insts.map (fun e => e.key)).dedup.length == p.insts.length

/-- Data regions do not overlap, from a list in order of the table. -/
def regionsOk : List (Nat × Nat) → Bool
  | [] => true
  | x :: r => r.all (fun y => decide (x.1 + x.2 ≤ y.1) || decide (y.1 + y.2 ≤ x.1)) && regionsOk r

/-! ### The layout of instance data (R272, R273) -/

/-- Data types of a type's inputs and outputs, 0 BOOL, 1 DINT or TIME, 2 REAL, where its interface is stated (R267, R564,
R561) or is that of IEC 61131-3; none where the specification leaves it to the type (log entry 45). -/
def typeIo (t : Nat) : Option (List Nat × List Nat) :=
  let k := t % 256
  match t / 256 with
  | 1 => some (if k = 4 then ([0], [0]) else if k ≤ 6 then ([0, 0], [0]) else if k ≤ 8 then (List.replicate 8 0, [0])
      else if k = 12 then ([1], [1]) else ([1, 1], [1]))
  | 2 => if k = 8 then none
      else some (if k ≤ 3 then ([0, k - 1, k - 1], [k - 1])
        else if k ≤ 5 then (1 :: List.replicate 4 (k - 3), [k - 3]) else (1 :: List.replicate 8 (k - 5), [k - 5]))
  | 3 => if k = 15 then none
      else some (if k ≤ 12 then ([1 + (k + 1) % 2, 1 + (k + 1) % 2], [0]) else (List.replicate 3 (k - 12), [0]))
  | 4 => some (if k ≤ 8 then ([1 + (k + 1) % 2, 1 + (k + 1) % 2], [1 + (k + 1) % 2, 0]) else if k = 9 then ([1, 1], [1, 0])
      else if k ≤ 13 then ([1 + k % 2, 1 + k % 2].take 1, [1 + k % 2, 0])
      else if k ≤ 17 then ([1 + k % 2, 1 + k % 2], [1 + k % 2, 0])
      else if k = 22 || k = 26 then ([2, 2], [2, 0]) else ([2], [2, 0]))
  | 5 => some (if k = 1 then ([0], [1, 0]) else if k = 2 then ([1], [0, 0]) else if k = 3 || k = 6 then ([1], [2, 0])
      else if k = 8 then ([1], [1, 0]) else ([2], [1, 0]))
  | 6 => some ([0, 1], [0, 1])
  | 7 => some (if k = 3 then ([0, 0, 0, 0, 1], [0, 0, 1]) else ([0, 0, 1], [0, 1]))
  | 8 => some ([0], [0])
  | 9 => some ([0, 0], [0])
  | 10 => if k = 1 then some ([2, 2, 2], [2, 0])
      else if k = 5 then some ([2, 2], [2, 0, 0])
      else if k = 6 || k = 8 then some ([2, 1], [2, 0])
      else if k = 7 then some ([2, 0, 2, 2], [2, 0])
      else if k = 10 then some ([2, 2, 2], [2, 0]) else none
  | _ => none

/-- Bytes of the internal state of a type, where R273 gives them. -/
def stateBytes (t : Nat) : Option Nat :=
  match t / 256 with
  | 6 => some 16
  | 7 => some 4
  | 8 => some 4
  | 10 => if [5, 6, 7, 8, 10].contains (t % 256) then some 16 else if t % 256 = 1 then some 0 else none
  | n => if 1 ≤ n && decide (n ≤ 9) then some 0 else none

/-- Offset of the internal state behind inputs and outputs: 64-bit fields are aligned to 8 (R273; log entry 48). -/
def stateOffset (io : Nat) (bytes : Nat) : Nat := if bytes = 16 then (4 * io + 7) / 8 * 8 else 4 * io

/-- DATA_LEN of a type, where the specification fixes it (R272, R273). -/
def fixedLen (t : Nat) : Option Nat :=
  match typeIo t, stateBytes t with
  | some io, some n => some (stateOffset (io.1.length + io.2.length) n + n)
  | _, _ => none

/-- Words of a list of bytes. -/
def wordsAt (x : List Byte) (o n : Nat) : List U32 := (List.range n).map (fun k => BitVec.ofNat 32 (leAt x (o + 4 * k) 4))

/-- Internal state of a type at an offset, in the order of R273. -/
def stateAt (t o : Nat) (x : List Byte) : List Nat :=
  match t / 256 with
  | 6 => [leAt x o 1, leAt x (o + 1) 1, leAt x (o + 8) 8]
  | 7 => [leAt x o 1, leAt x (o + 1) 1]
  | 8 => [leAt x o 1]
  | 10 => if t % 256 = 8 then [leAt x o 4, leAt x (o + 4) 4, leAt x (o + 8) 8] else [leAt x o 4, leAt x (o + 8) 8]
  | _ => []

/-- Initial data of an instance from section 16#0106: inputs, outputs, internal state (R273, R275). -/
def initOf (x : List Byte) (exprs : List ExprType) (e : InstEnt) : InstData :=
  let o := e.dataOffset
  if e.typeId = 0xE000 then
    let ty := exprs.getD e.codeIndex {}
    let n := ty.outReal.length + 1
    { ins := wordsAt x o ty.nIn, outs := wordsAt x (o + 4 * ty.nIn) n
      locals := wordsAt x (o + 4 * (ty.nIn + n)) ty.nLoc }
  else match typeIo e.typeId, stateBytes e.typeId with
    | some io, some n =>
      { ins := wordsAt x o io.1.length, outs := wordsAt x (o + 4 * io.1.length) io.2.length
        st := stateAt e.typeId (o + stateOffset (io.1.length + io.2.length) n) x }
    | _, _ =>
      { ins := wordsAt x o e.wires.length, outs := wordsAt x (o + 4 * e.wires.length) (e.dataLen / 4 - e.wires.length) }

/-- An entry of the instance table; its wires and access configuration come from the wiring section (R272). -/
def instOfRec (r : List Byte) (w : InstEnt) : InstEnt :=
  { w with
    key := BitVec.ofNat 64 (leAt r 0 8), typeId := leAt r 8 2, typeRev := leAt r 10 1, task := leAt r 11 1
    retain := bitOf (leAt r 12 2) 0, stream := leAt r 14 1, dataOffset := leAt r 16 4, dataLen := leAt r 20 4
    layoutHash := BitVec.ofNat 32 (leAt r 24 4), codeIndex := leAt r 28 4 }

/-- An entry of the output table (R275). -/
def outOf (r : List Byte) : OutEnt :=
  { point := leAt r 0 4, task := leAt r 4 1, stopAction := leAt r 5 1, stopVal := fof (leAt r 8 4), safeVal := fof (leAt r 12 4) }

/-- The records of a section, by their size. -/
def sectRecs (b : List Byte) (ty n : Nat) : List (List Byte) :=
  match imgSection b ty with
  | some x => cutRecs n x.length x
  | none => []

/-- A block image as a program: task table, instance table, initial data and output table from its bytes, wiring,
streams and code as the module decodes them from the sections whose layout the specification does not give (R274, R275;
log entry 16). -/
def imgProgram (b : List Byte) (w : Program) : Program :=
  let insts := (sectRecs b 0x102 32).mapIdx (fun i r => instOfRec r (w.insts.getD i {}))
  { w with
    serial := imgSerial b, key := imgKey b, sigLabel := imgLabel b
    cost := (sectRecs b 0x101 16).map (fun r => (leAt r 0 4, leAt r 4 4))
    insts := insts
    init := insts.map (initOf ((imgSection b 0x106).getD []) w.exprs)
    outs := (sectRecs b 0x107 16).map outOf }

/-- 16#1204: data offsets and lengths, the length of the data section, and reserved fields of the instance table (R9,
R272, R273, R275; log entry 48). -/
def progDataOk (b : List Byte) (p : Program) : Bool :=
  p.insts.all (fun e => e.dataOffset % 8 == 0 && decide (e.dataOffset + e.dataLen ≤ leAt b 44 4) &&
    (match fixedLen e.typeId with
     | some n => e.dataLen == n
     | none => e.dataLen % 4 == 0 && decide (4 * e.wires.length ≤ e.dataLen)) &&
    (e.typeId == 0xE000 || p.insts.all (fun x => x.typeId != e.typeId || x.dataLen == e.dataLen))) &&
  regionsOk ((p.insts.map (fun e => (e.dataOffset, e.dataLen))).filter (fun x => x.2 != 0)) &&
  (match imgSection b 0x106 with | some x => x.length == leAt b 44 4 | none => false) &&
  (sectRecs b 0x102 32).all (fun r => r.length == 32 && leAt r 12 2 < 2 && leAt r 15 1 == 0)

/-- 16#1205: expression types. -/
def progExprsOk (p : Program) : Bool :=
  p.insts.all (fun e => e.typeId != 0xE000 || decide (e.codeIndex < p.exprs.length)) && p.exprs.all exprOk

/-- Data types of the outputs of an instance; none where they are not stated. -/
def instOuts (e : InstEnt) : Option (List Nat) :=
  if e.typeId = 0xE000 then none else (typeIo e.typeId).map (fun x => x.2)

/-- A wire to input `k` of an instance has its source: an instance with that output, of the input's data type where both
are stated, or a point. -/
def wireOk (p : Program) (e : InstEnt) (k : Nat) : Wire → Bool
  | .inst j o _ =>
    decide (j < p.insts.length) &&
    (match instOuts (progInst p j) with
     | some outs => decide (o < outs.length) &&
       (match typeIo e.typeId with | some io => io.1.getD k 0 == outs.getD o 0 | none => true)
     | none => (progInst p j).typeId != 0xE000 || decide (o ≤ (progExpr p (progInst p j)).outReal.length))
  | .point n => decide (n ≤ 262143)
  | _ => true

/-- 16#1206: every wire has its source, of its type, every type its inputs, and no input two wires. -/
def progWiresOk (p : Program) : Bool :=
  !p.wiredTwice &&
  p.insts.all (fun e =>
    (match typeIo e.typeId with | some io => e.wires.length == io.1.length | none => true) &&
    (e.typeId != 0xE000 || e.wires.length == (progExpr p e).nIn) &&
    (List.range e.wires.length).all (fun k => wireOk p e k (e.wires.getD k .none)))

/-- Position of an instance in a list. -/
def posIn (l : List Nat) (i : Nat) : Nat := (l.takeWhile (fun j => j != i)).length

/-- The instance table is ordered by task, and within a stream by position (R272). -/
def progOrdered (p : Program) : Bool :=
  pairsOk (fun (x y : InstEnt) => decide (x.task ≤ y.task)) p.insts &&
  p.streams.all (fun l => pairsOk (fun (i j : Nat) => decide (i < j)) l)

/-- 16#1207: every instance in the stream that its entry names, once, in the order of the table, and same-task wires in
stream order. -/
def progStreamsOk (p : Program) : Bool :=
  let all := (List.range 4).map (fun t => progStream p t 0 ++ progStream p t 1)
  progOrdered p && all.flatten.length == p.insts.length && all.flatten.dedup.length == p.insts.length &&
  ((List.range 4).all (fun t => (List.range 2).all (fun k =>
    (progStream p t k).all (fun i => decide (i < p.insts.length) && (progInst p i).task == t && (progInst p i).stream == k &&
      (awaits p i).all (fun j => (progInst p j).stream != k ||
        decide (posIn (progStream p t k) j < posIn (progStream p t k) i)))))) &&
  (List.range 4).all (fun t => (taskOrder p t).length == (progStream p t 0).length + (progStream p t 1).length)

/-- Points that PT_OUT instances write, with their task. -/
def ptOuts (p : Program) : List (Nat × Nat) :=
  (p.insts.filter (fun e => decide (0x0B04 ≤ e.typeId) && decide (e.typeId ≤ 0x0B06))).map
    (fun e => (e.cfg.getD 0 refNone, e.task))

/-- 16#1208: the output table against the PT_OUT and LANE_SP instances (R268). -/
def progOutsOk (b : List Byte) (p : Program) : Bool :=
  let pts := p.outs.map (fun o => o.point)
  (sectRecs b 0x107 16).all (fun r => r.length == 16 && leAt r 6 2 == 0) &&
  pts.dedup.length == pts.length && (ptOuts p).length == pts.length &&
  ((ptOuts p).map (fun x => x.1)).dedup.length == pts.length &&
  (ptOuts p).all (fun x => p.outs.any (fun o => o.point == x.1 && o.task == x.2)) &&
  p.outs.all (fun o => decide (o.stopAction ≤ 1)) &&
  (progLanes p).dedup.length == (progLanes p).length

/-- 16#1209: plan bindings and estimate sources in the ranges of R114. -/
def progBindsOk (p : Program) : Bool :=
  p.insts.all (fun e =>
    (e.typeId != 0x0D01 ||
      ((e.cfg.getD 2 255 == 255 || decide (e.cfg.getD 2 255 ≤ 7)) && decide (e.cfg.getD 3 0 ≤ 1) &&
       e.cfg.getD 4 0 == 0 && decide (e.cfg.getD 5 0 ≤ 115200) &&
       (PKind.realNZ (-1000000) 1000000).ok (e.cfg.getD 6 0) && (PKind.real (-1000000) 1000000).ok (e.cfg.getD 7 0))) &&
    ((e.typeId != 0x0D01 && e.typeId != 0x0D03) ||
      (decide (1 ≤ idType (e.cfg.getD 0 refNone)) && decide (idType (e.cfg.getD 0 refNone) ≤ 9) &&
       decide (e.cfg.getD 1 0 ≤ 255))))

/-- 16#1304: the task table against the module's own computation (R257, R275). -/
def progCostsOk (b : List Byte) (p : Program) : Bool :=
  p.cost.length == 4 &&
  ((sectRecs b 0x101 16).mapIdx (fun t r =>
    r.length == 16 && leAt r 8 4 == (p.insts.filter (fun e => e.task == t)).length && leAt r 12 4 == 0)).all (fun x => x) &&
  (List.range 4).all (fun t => (p.cost.getD t (0, 0)).1 == cycleCost p t && (p.cost.getD t (0, 0)).2 == longestCall p t)

/-- The first structure check of R276 that a block image fails, 0 for none. -/
def progStructure (b : List Byte) (p : Program) : Nat :=
  if !progLimits b p then 0x1201
  else if !progKeysOk p then 0x1202
  else if !(p.insts.all (fun e => typeKnown e.typeId && e.typeRev == 1)) then 0x1203
  else if !progDataOk b p then 0x1204
  else if !progExprsOk p then 0x1205
  else if !progWiresOk p then 0x1206
  else if !progStreamsOk p then 0x1207
  else if !progOutsOk b p then 0x1208
  else if !progBindsOk p then 0x1209
  else if !progCostsOk b p then 0x1304
  else 0

/-- The code with which a program load ends. -/
def State.progLoadCode (s : State) (b : List Byte) (p : Program) : Nat :=
  let c := s.imageCode blockImage s.prog.floor b
  if c != 0 then c else progStructure b p

/-- A program that has passed its checks is staged in the inactive bank. -/
def State.stageProg (s : State) (p : Program) : State :=
  { s with
    prog.staged := true
    prog.bankA := if s.prog.activeB then some p else s.prog.bankA
    prog.bankB := if s.prog.activeB then s.prog.bankB else some p }

/-- PROG_LOAD_DONE: the image has arrived whole; `body` is what the module decodes of its wiring, streams and code (R276;
log entry 16). -/
def execProgLoadDone (bytes : List Byte) (body : Program) (s : State) : Host.Outcome State Fault Refusal :=
  .next (
    match s.prog.op with
    | some o =>
      if s.ready && o.kind == 1 then
        let p := imgProgram bytes body
        let code := s.progLoadCode bytes p
        let s1 : State := { s with prog.op := none }
        let s2 := if code = 0 then s1.stageProg p else s1
        s2.complete o.handle (codeStatus code) code
          (loadReport (if code = 0 then [] else [failCode code]) 0)
      else s
    | none => s)

/-! ### Service state (R76) -/

/-- What the tables say of ELEMENT_SERVICE. -/
def elementServiceInfo : CmdInfo := { op := 0x0C04, who := [.operator, .installer], needsFit := true }

/-- Types whose service state may change (R76). -/
def serviceTypes : List Nat := [4, 5, 6, 7, 9]

/-- ELEMENT_SERVICE: the change is staged and enters the next solve that starts. It replaces one of the same element that
no solve has read; one that a solve has read still takes effect with that solve's plan (R76). -/
def elementServiceVerdict (elem : Nat) (inService : Bool) (s : State) : Verdict :=
  match s.activeModel with
  | none => reject St.RANGE
  | some m =>
    if serviceTypes.contains (idType elem) && (findElem m elem).isSome then
      { act := fun t => { t with model.serviceStaged :=
          t.model.serviceStaged.filter (fun x => x.1 != elem || x.2.2 != 0) ++ [(elem, !inService, 0)] } }
    else reject St.RANGE

/-- ELEMENT_SERVICE (R76). -/
def execElementService (h : Hdr) (elem : Nat) (inService : Bool) (s : State) : Host.Outcome State Fault Refusal :=
  .next (s.command elementServiceInfo h elem (elementServiceVerdict elem inService))

/-! ### Input series (R86, R87, R563) -/

/-- The STEP_MINUTES values of R82. -/
def stepMinutes : List Nat := [1, 2, 3, 4, 5, 6, 10, 12, 15, 20, 30, 60]

/-- What the tables say of SERIES_WRITE. -/
def seriesWriteInfo : CmdInfo := { op := 0x0C05, who := [.operator, .installer], needsFit := true }

/-- The fields of SERIES_WRITE lie in their ranges (R563). -/
def seriesFieldsOk (w : SeriesWr) : Bool :=
  decide (w.series < 256) && decide (1 ≤ w.kind) && decide (w.kind ≤ 5) && decide (1 ≤ w.variants) &&
  decide (w.variants ≤ 8) && decide (w.variant < w.variants) && stepMinutes.contains w.res && decide (w.flags ≤ 1) &&
  decide (1 ≤ w.count) && decide (w.count ≤ 11520) && decide (1 ≤ w.n) && decide (w.offset + w.n ≤ w.count) &&
  w.vals.length == w.n

/-- A staging copy without values (R563). -/
def seriesFresh (w : SeriesWr) (src : Src) : SeriesStag :=
  { kind := w.kind, start := w.start, res := w.res, count := w.count, variants := w.variants, owner := src
    vals := List.replicate w.variants (List.replicate w.count none) }

/-- The attributes of a write are those of the copy (R563). -/
def seriesSame (w : SeriesWr) (x : SeriesStag) : Bool :=
  x.kind == w.kind && x.start == w.start && x.res == w.res && x.count == w.count && x.variants == w.variants

/-- Values from an offset on replaced. -/
def putVals (l : List (Option F32)) (o : Nat) (vs : List F32) : List (Option F32) :=
  l.take o ++ vs.map some ++ l.drop (o + vs.length)

/-- The copy after a write. -/
def seriesPut (w : SeriesWr) (x : SeriesStag) : SeriesStag :=
  { x with vals := x.vals.set w.variant (putVals (x.vals.getD w.variant []) w.offset w.vals) }

/-- SERIES_WRITE (R563). -/
def seriesWriteVerdict (h : Hdr) (w : SeriesWr) (s : State) : Verdict :=
  if !seriesFieldsOk w then reject St.RANGE
  else
    let put := fun (x : SeriesStag) (t : State) =>
      ({ t with model.seriesStaged := tset t.model.seriesStaged w.series (seriesPut w x) } : State)
    match tget s.model.seriesStaged w.series with
    | none => { act := put (seriesFresh w h.src) }
    | some x =>
      if x.owner != h.src then reject St.STAGED
      else if w.flags % 2 = 1 then { act := put (seriesFresh w h.src) }
      else if seriesSame w x then { act := put x }
      else reject St.DISAGREE

/-- SERIES_WRITE (R563). -/
def execSeriesWrite (h : Hdr) (w : SeriesWr) (s : State) : Host.Outcome State Fault Refusal :=
  .next (s.command seriesWriteInfo h w.series (seriesWriteVerdict h w))

/-- Value range of a kind (R86). -/
def seriesRange : Nat → Rat × Rat
  | 1 => (-10000, 10000) | 2 => (0, 2000) | 3 => (-60, 60) | 4 => (0, 5) | _ => (-30, 100)

/-- A value lies in the range of its kind. -/
def seriesValOk (kind : Nat) (v : F32) : Bool :=
  v.isFin && decide ((seriesRange kind).1 ≤ v.rat) && decide (v.rat ≤ (seriesRange kind).2)

/-- References to series, each with the kind that it requires (R563). -/
def State.seriesRefs (s : State) : List (Nat × Nat) :=
  let m := match s.activeModel with
    | some m => (elemsOf m 4).map (fun r => (rU32 r 60, 1)) ++
        ((elemsOf m 8).map (fun r => [(rU32 r 24, 1), (rU32 r 28, 1), (rU32 r 32, 2)])).flatten
    | none => []
  let p : List (Nat × Nat) := (s.pEntries P.PLANT_SOURCE_SERIES).map (fun x => (x.2.headD refNone, 5))
  let all : List (Nat × Nat) :=
    m ++ [(s.pn P.OUTDOOR_T_SERIES 0, 3), (s.pn P.DEMAND_SCALE_SERIES 0, 4)] ++ p
  all.filter (fun x => x.1 != refNone)

/-- What a named series fails with at its commit; none where it passes or has no staging copy (R87). -/
def State.seriesFail (s : State) (src : Src) (n : Nat) : Option Nat :=
  match tget s.model.seriesStaged n with
  | none => none
  | some x =>
    if x.owner != src then some St.STAGED
    else if x.vals.any (fun l => l.any (fun v => match v with | some z => !seriesValOk x.kind z | none => false)) then
      some St.RANGE
    else if s.seriesRefs.any (fun r => r.1 == n && r.2 != x.kind) then some St.DISAGREE
    else if x.variants != 1 && decide (x.variants < s.pn P.SCENARIOS 0) then some St.DISAGREE
    else if x.vals.any (fun l => l.any (fun v => v.isNone)) then some St.DISAGREE
    else none

/-- A staging copy as a series. -/
def seriesOf (x : SeriesStag) : Series :=
  { kind := x.kind, start := x.start, res := x.res, count := x.count, variants := x.variants
    vals := x.vals.map (fun l => l.map (fun v => v.getD F32.zero)) }

/-- The staged series of a mask become current. -/
def State.seriesApply (s : State) (named : List Nat) : State :=
  named.foldl (fun a n => match tget a.model.seriesStaged n with
    | some x => { a with
        model.series := tset a.model.series n (seriesOf x)
        model.seriesStaged := tdel a.model.seriesStaged n }
    | none => a) s

/-- What the tables say of SERIES_COMMIT. -/
def seriesCommitInfo : CmdInfo := { op := 0x0C06, who := [.operator, .installer], needsFit := true }

/-- SERIES_COMMIT: DETAIL is the lowest series that failed, or 16#FFFFFFFF (R87, R563). -/
def seriesCommitVerdict (h : Hdr) (mask : BitVec 256) (s : State) : Verdict :=
  let named := (List.range 256).filter (fun n => mask.getLsbD n)
  match named.find? (fun n => (s.seriesFail h.src n).isSome) with
  | some n => { status := (s.seriesFail h.src n).getD St.DISAGREE, detail := n }
  | none => { detail := 0xFFFFFFFF, act := fun t => t.seriesApply named }

/-- SERIES_COMMIT (R87). -/
def execSeriesCommit (h : Hdr) (mask : BitVec 256) (s : State) : Host.Outcome State Fault Refusal :=
  .next (s.command seriesCommitInfo h 0 (seriesCommitVerdict h mask))

end Sys2Proof.Machine
end

