-- ==== Sys2Proof/Machine/PercOps.lean ====
section
/-! DEFINITION. The front tracker and its calibration (chapter "Front tracking, estimation and live calibration"):
what the rules fix about an update's records, the calibrated quantities, their windows, and the analog corrections. -/

namespace Sys2Proof.Machine

/-! ### Calibrated quantities (R172, R179, R180) -/

/-- CAL_QTY values of an element: a pipe segment whose CALIB allows it, a store, a station with DEMAND_MODEL 2
(R172; log entry 50). -/
def calQtys (r : List Byte) : List Nat :=
  match recType r with
  | 2 => (if bitOf (rU8 r 53) 0 then [0] else []) ++ (if bitOf (rU8 r 53) 1 then [1] else [])
  | 5 => [2]
  | 3 => if rU8 r 19 = 2 then
      (if bitOf (rU8 r 18) 0 then [3, 4] else []) ++ (if bitOf (rU8 r 18) 1 then [5, 6] else [])
    else []
  | _ => []

/-- Image value of a calibrated quantity (R172). -/
def calImage (r : List Byte) (q : Nat) : F32 :=
  match q with
  | 0 => rF r 36
  | 2 => rF r 48
  | 3 => F32.zero
  | 5 => F32.zero
  | _ => F32.one

/-- Bit of CAL_ENABLE (R172). -/
def calBit (q : Nat) : Nat := if q < 3 then q else 3

/-- Key of a calibrated quantity. -/
def calKey (e q : Nat) : Nat := e * 8 + q

/-- The entry of a calibrated quantity in a table; one at its image value where the table lists none. -/
def calOf (t : Tab CalQ) (r : List Byte) (q : Nat) : CalQ :=
  tgetD t (calKey (recId r) q) { inForce := calImage r q, implied := calImage r q }

/-- The calibrated quantities of a model, in model variable order of the element (R180). -/
def calList (m : NetModel) : List (List Byte × Nat) :=
  (m.elems.map (fun r => (calQtys r).map (fun q => (r, q)))).flatten

/-- One step from the value in force (R172). -/
def calStep (q : Nat) (v : Rat) : Rat :=
  match q with
  | 0 => max (v / 20) (5 / 1000)
  | 1 => 2 / 100
  | 2 => max (v / 20) (2 / 1000)
  | 3 => 2 / 100
  | 5 => 2 / 100
  | _ => v * (3 / 100)

/-- Total limit (R172). -/
def calLimits (q : Nat) (img : Rat) : Rat × Rat :=
  match q with
  | 0 => if img = 0 then (0, 1 / 10) else (img / 4, min 10 (4 * img))
  | 1 => (7 / 10, 14 / 10)
  | 2 => if img = 0 then (0, 2 / 10) else (img / 4, min 5 (4 * img))
  | 3 => (-5 / 10, 1)
  | 5 => (-5 / 10, 1)
  | _ => (5 / 10, 2)

/-- An entry after a window with evidence (R176): the implied value, clamped to one step from the value in force and
to the total limit. The flag says that the step clamp held it. -/
def calStage (c : CalQ) (q : Nat) (img : Rat) (implied : F32) : CalQ × Bool :=
  let v := c.inForce.rat
  let a := clampQ (v - calStep q v) (v + calStep q v) implied.rat
  let l := calLimits q img
  let b := clampQ l.1 l.2 a
  ({ c with implied := implied, staged := some (F32.ofRat b), atLimit := b != a }, a != implied.rat)

/-- CAL_STATE of a record (R180; log entry 50). -/
def calState (c : CalQ) (img : F32) : Nat :=
  if c.resetPend then 4
  else if (match c.staged with | some v => v != c.inForce | none => false) then 2
  else if c.atLimit then 3
  else if c.inForce != img then 1 else 0

/-- Bytes of a calibration record (R180). -/
def calRecBytes (t : Tab CalQ) (r : List Byte) (q : Nat) : List Byte :=
  let c := calOf t r q
  leRec [(4, recId r), (1, q), (1, calState c (calImage r q)), (2, 0), (4, (calImage r q).bits.toNat),
    (4, c.inForce.bits.toNat), (4, (c.staged.getD c.inForce).bits.toNat), (4, c.implied.bits.toNat)]

/-- Every staged value comes into force; CAL_VERSION advances when one changed (R177). -/
def State.applyCal (s : State) : State :=
  let changed := s.perc.cal.any (fun x => match x.2.staged with | some v => v != x.2.inForce | none => false)
  { s with
    perc.cal := tmap s.perc.cal (fun _ c => match c.staged with
      | some v => { c with inForce := v, staged := none, resetPend := false, atLimit := c.atLimit && !c.resetPend }
      | none => c)
    perc.calVersion := if changed then (s.perc.calVersion + 1) % 2 ^ 32 else s.perc.calVersion }

/-- The table pairs of a table number. -/
def modelTab (m : NetModel) (no : Nat) : List (F32 × F32) :=
  match m.tabs.find? (fun t => t.no == no) with
  | some t => t.pairs
  | none => []

/-- The image value of a quantity is equal in two images (R74, R179). -/
def calSame (mo mn : NetModel) (o n : List Byte) (q : Nat) : Bool :=
  match q with
  | 0 => rU32 o 36 == rU32 n 36
  | 1 => rU32 o 24 == rU32 n 24 && rU32 o 28 == rU32 n 28
  | 2 => rU32 o 48 == rU32 n 48
  | _ => modelTab mo (rU32 o 68) == modelTab mn (rU32 n 68)

/-- The record of a model with the NAME_KEY and type of another model's record (R74, R559). -/
def sameElem (m : NetModel) (r : List Byte) : Option (List Byte) :=
  m.elems.find? (fun o => recKey o == recKey r && recType o == recType r)

/-- Calibration values carried to a new model (R74, R179). -/
def calCarried (t : Tab CalQ) (mo mn : NetModel) : Tab CalQ :=
  (calList mn).foldl (fun a x =>
    match sameElem mo x.1 with
    | some o =>
      if (calQtys o).contains x.2 && calSame mo mn o x.1 x.2 &&
          (calOf t o x.2).inForce != calImage x.1 x.2 then
        tset a (calKey (recId x.1) x.2)
          { inForce := (calOf t o x.2).inForce, implied := calImage x.1 x.2 }
      else a
    | none => a) []

/-- Calibration at the flip of a model (R74, R177, R179). -/
def State.flipCal (s : State) (old : Option NetModel) (m : NetModel) (keep : Bool) : State :=
  let t := match old with
    | some o => if keep then calCarried s.perc.cal o m else []
    | none => []
  { s with
    perc.cal := t
    perc.calVersion := if t.isEmpty then 0 else 1
    perc.activationAt := some s.epoch }

/-! ### Measurements (R154 to R156) -/

/-- The point and SIGMA field of a measurement binding in a table of parameter values. -/
def bindEntry (vals : Tab PVal) (e q : Nat) : Option (Nat × Nat) :=
  match vals.find? (fun x => x.1 / 65536 == P.MEAS_BINDING && x.2.getD 0 refNone == e && x.2.getD 1 0 == q) with
  | some x => some (x.2.getD 3 0, x.2.getD 4 0)
  | none => none

/-- The point that measures a quantity: its binding, or the point of its own record (R154, R155). -/
def measPoint (vals : Tab PVal) (r : List Byte) (q : Nat) : Nat :=
  match bindEntry vals (recId r) q with
  | some x => x.1
  | none => if recType r = 8 then rU32 r 36 else ownPoint r q

/-- T_upd in nanoseconds (R151). -/
def percTime (m : NetModel) (share sweeps : Nat) : Nat :=
  let segs := (elemsOf m 2).length
  4000000 + 50 * min 1048576 (segs * share) + 100 * ((elemsOf m 1).length + (elemsOf m 3).length) +
    30 * sweeps * segs

/-- T_upd is at most 0.8 of a period in milliseconds (R151). -/
def percFits (m : NetModel) (share sweeps periodMs : Nat) : Bool :=
  decide (10 * percTime m share sweeps ≤ 8 * periodMs * 1000000)

/-- PERC_EFFECTIVE_PERIOD and PERIOD_RAISED follow the committed values and the active model (R151). -/
def State.refreshPeriod (s : State) : State :=
  let p := s.pn P.PERC_PERIOD_MS 0
  match s.activeModel with
  | none => { s with perc.effPeriodMs := p, perc.periodRaised := false }
  | some m =>
    if percFits m (s.pn P.PARCELS_PER_SEG_MAX 0) (s.pn P.FLOW_SWEEPS 0) p then
      { s with perc.effPeriodMs := p, perc.periodRaised := false }
    else
      let t := percTime m (s.pn P.PARCELS_PER_SEG_MAX 0) (s.pn P.FLOW_SWEEPS 0)
      { s with perc.effPeriodMs := (t + 79999999) / 80000000 * 100, perc.periodRaised := true }

/-! ### Estimate records (R163, R166) -/

/-- Kind of source of a quantity: 0 none, 1 estimated, 3 measured only where bound (R163). -/
def srcClass (vals : Tab PVal) (r : List Byte) (q : Nat) : Nat :=
  match recType r with
  | 3 => if q % 4 = 3 then 0 else 1
  | 4 =>
    let n := (recQtys r).length
    if n ≤ q + 2 then 0 else if q = 1 || (rU8 r 16 != 1 && rU8 r 16 != 4 && q = 2 && rU8 r 16 != 2) then 1 else 3
  | 6 => if q = 2 then 3 else 1
  | 7 => if q = 0 && measPoint vals r 0 != refNone then 1 else 0
  | 8 => 1
  | 9 => if q % 2 = 0 then 1 else 0
  | _ => 1

/-- Bound above which BOUND_WIDE is set (R166); none for a quantity without such a level. -/
def wideLevel (r : List Byte) (q : Nat) : Option Rat :=
  match growthClass r q with
  | 1 => some 5
  | 3 => some (refFlow r q / 10)
  | _ => if recType r = 5 && q = 0 then some (rQ r 32 / 10) else none

/-- The value that a measurement gives a quantity: a grid connection's point is split by its sign (R163). -/
def measValue (r : List Byte) (q : Nat) (v : F32) : F32 :=
  if recType r = 8 then (if q = 0 then F32.max v F32.zero else F32.max v.neg F32.zero) else v

/-! ### Analog corrections (R181 to R184) -/

/-- LSB of a range, in V or mA (R335). -/
def ainLsb (range : Nat) : Rat := if range = 1 then 7813 / 100000000 else 1953 / 10000000

/-- The references of a range: 0, +9 V and −9 V, or 0, 18 mA and 2 mA (R182). -/
def ainRef (range k : Nat) : Rat :=
  if range = 1 then (if k = 1 then 9 else if k = 2 then -9 else 0) else (if k = 1 then 18 else if k = 2 then 2 else 0)

/-- Exact mean of a list, 0 of none. -/
def meanQ (l : List F32) : Rat := if l.isEmpty then 0 else (l.map F32.rat).sum / ((l.length : Nat) : Rat)

/-- The stored references of an input and kind. -/
def State.afeRefs (s : State) (i k : Nat) : List F32 := tgetD s.afe.refs (3 * i + k) []

/-- The gain and offset that the averages call for (R182; log entry 51). -/
def State.afeTarget (s : State) (i : Nat) : Rat × Rat :=
  let g := (s.ain1 i).range
  let span := meanQ (s.afeRefs i 1) - meanQ (s.afeRefs i 2)
  let gain := if span = 0 then 0 else (ainRef g 1 - ainRef g 2) / span - 1
  (gain, -(meanQ (s.afeRefs i 0)) * (1 + gain) / ainLsb g)

/-- The corrections of an input after a reference 2: at most 1 LSB and 10 ppm of change, and held within 100 LSB and
0.1 % (R182, R183). -/
def State.afeUpdate (s : State) (i : Nat) : State :=
  if (s.ain1 i).range = 0 || (s.afeRefs i 0).isEmpty || (s.afeRefs i 1).isEmpty then s
  else
    let g0 := (tgetD s.afe.gain i F32.zero).rat
    let o0 := (tgetD s.afe.offset i F32.zero).rat
    let t := s.afeTarget i
    let g := clampQ (g0 - 1 / 100000) (g0 + 1 / 100000) t.1
    let o := clampQ (o0 - 1) (o0 + 1) t.2
    if |g| ≤ 1 / 1000 ∧ |o| ≤ 100 then
      { s with
        afe.gainNext := tset s.afe.gainNext i (F32.ofRat g)
        afe.offsetNext := tset s.afe.offsetNext i (F32.ofRat o) }
    else { s with afe.calFault := s.afe.calFault ||| (1#16 <<< i) }

/-- A conversion of an input, corrected (R182). -/
def State.afeCorrect (s : State) (i : Nat) (v : F32) : F32 :=
  F32.ofRat (v.rat * (1 + (tgetD s.afe.gain i F32.zero).rat) +
    (tgetD s.afe.offset i F32.zero).rat * ainLsb (s.ain1 i).range)

end Sys2Proof.Machine
end

