-- ==== Sys2Proof/Machine/Water.lean ====
section
/-! DEFINITION. Water in the pipes, shared by the Percolator and the Roaster: the flows at a node, pressure drops, and
the parcels that an interval of time moves, cools and mixes (chapters "Front tracking, estimation and live calibration"
and "Dispatch problem and plans"). Everything is exact arithmetic over the opaque functions of Config. -/

namespace Sys2Proof.Machine

/-! ### Properties of water and of a pipe (R94, R157, R158) -/

/-- Specific heat of water in kJ/(kg K) (R94). -/
def cpWater : Rat := 4186 / 1000

/-- Static head in kPa per metre of elevation (R94). -/
def headPerM : Rat := 9807 / 1000

/-- Cross-section of a pipe in m². -/
def pipeArea (r : List Byte) : Rat := Config.pi * (rQ r 28 / 2000) ^ 2

/-- Water mass of a pipe segment in kg (R157). -/
def pipeMass (r : List Byte) : Rat := 1000 * pipeArea r * rQ r 24

/-- Share of its difference to the ground temperature that the water of a segment loses per second, at the U_LOSS in
force (R158). -/
def lossPerS (cal : Tab CalQ) (r : List Byte) : Rat := (calOf cal r 0).inForce.rat / (1000 * pipeArea r * 4186)

/-- The delay factor in force (R172). -/
def delayFactor (cal : Tab CalQ) (r : List Byte) : Rat := (calOf cal r 1).inForce.rat

/-- A temperature after a time in the ground (R158). -/
def coolTo (tg k dt t : Rat) : Rat := tg + (t - tg) * Config.expQ (-(k * dt))

/-- Darcy–Weisbach pressure drop per squared mass flow of a segment, in kPa (R95, R160). -/
def dropCoef (r : List Byte) (m : Rat) : Rat :=
  Config.friction (rQ r 32) (rQ r 28) |m| * rQ r 24 / (rQ r 28 / 1000) / (2 * 1000 * pipeArea r ^ 2) / 1000

/-- The pressure drop linearised about a mass flow (R95, R160). -/
def dropLin (r : List Byte) (m0 m : Rat) : Rat :=
  dropCoef r m0 * (m0 * |m0|) + 2 * dropCoef r m0 * |m0| * (m - m0)

/-- Static head between the ends of a segment, in kPa (R93, R94). -/
def headGain (m : NetModel) (r : List Byte) : Rat :=
  let elev := fun (n : Nat) => match findElem m n with | some x => rQ x 36 | none => 0
  headPerM * (elev (rU32 r 20) - elev (rU32 r 16))

/-! ### Flows at a node (R93, R160) -/

/-- Key of a slot of an element: its quantity number, or 5 for the water flow of a plant or a store towards its supply
node and 6 for the temperature of the water that it brings. -/
def slotKey (e q : Nat) : Nat := e * 8 + q

/-- Mass flows into a node, counting stations, plants, stores, pump sets and pipe couplings as injections (R160). -/
def flowsInto (m : NetModel) (f : Nat → Rat) (n : Nat) : List Rat :=
  (m.elems.map (fun r =>
    let thru := fun (a b q : Nat) =>
      (if b = n then [f (slotKey (recId r) q)] else []) ++ (if a = n then [-(f (slotKey (recId r) q))] else [])
    match recType r with
    | 2 => thru (rU32 r 16) (rU32 r 20) 0
    | 3 => thru (rU32 r 20) (rU32 r 24) 1 ++ thru (rU32 r 28) (rU32 r 32) 5
    | 4 => thru (rU32 r 24) (rU32 r 20) 5
    | 5 => thru (rU32 r 24) (rU32 r 20) 5
    | 6 => thru (rU32 r 16) (rU32 r 20) 0
    | 9 => if rU8 r 16 = 1 && rU32 r 20 = n then [f (slotKey (recId r) 0)] else []
    | _ => [])).flatten

/-- Pipe segments at a node. -/
def pipesAt (m : NetModel) (n : Nat) : List (List Byte) :=
  (elemsOf m 2).filter (fun r => rU32 r 16 == n || rU32 r 20 == n)

/-- The node that the water of a segment or a pump set leaves, by the sign of its flow. -/
def flowSrc (r : List Byte) (m : Rat) : Nat := if 0 ≤ m then rU32 r 16 else rU32 r 20

/-- The node that it enters. -/
def flowDst (r : List Byte) (m : Rat) : Nat := if 0 ≤ m then rU32 r 20 else rU32 r 16

/-! ### Parcels (R157 to R159) -/

/-- Sum of a term over a list. -/
def sumOf {α : Type} (l : List α) (f : α → Rat) : Rat := (l.map f).sum

/-- Water mixed by mass: temperature and standard deviation of R158; initial where all of it is (log entry 50). -/
def mixAll (l : List Parcel) : Parcel :=
  let m := sumOf l (fun p => p.mass)
  { mass := m
    temp := sumOf l (fun p => p.mass * p.temp) / m
    sd := Config.sqrtQ (sumOf l (fun p => (p.mass / m) ^ 2 * p.sd ^ 2))
    initial := l.all (fun p => p.initial)
    placed := l.all (fun p => p.placed)
    lastMeas := l.foldl (fun a p => max a p.lastMeas) 0
    tin := if l.all (fun p => p.tin.isSome) then some (sumOf l (fun p => p.mass * p.tin.getD 0) / m) else none }

/-- Mass taken from the outlet end of parcels listed outlet end first: what leaves and what stays; a parcel is split
where needed (R158). -/
def takeMass : Rat → List Parcel → List Parcel × List Parcel
  | _, [] => ([], [])
  | x, p :: l =>
    if x ≤ 0 then ([], p :: l)
    else if p.mass ≤ x then (p :: (takeMass (x - p.mass) l).1, (takeMass (x - p.mass) l).2)
    else ([{ p with mass := x }], { p with mass := p.mass - x } :: l)

/-- A remainder below 1 kg merges with its neighbour (R158). -/
def mendHead : List Parcel → List Parcel
  | p :: q :: l => if p.mass < 1 then mixAll [p, q] :: l else p :: q :: l
  | l => l

/-- A parcel after a time: heat loss and growth of its standard deviation (R158). -/
def ageParcel (tg k dt grow : Rat) (p : Parcel) : Parcel := { p with temp := coolTo tg k dt p.temp, sd := p.sd + grow }

/-- New water enters at the inlet end of parcels listed inlet end first: a parcel of its own, or merged with the
inlet-end parcel where it differs by less than the threshold, where the segment is full, or below 1 kg (R158, R159). -/
def pourIn (share : Nat) (full : Bool) (thr : Rat) (w : Parcel) : List Parcel → List Parcel
  | [] => [w]
  | p :: l =>
    if w.mass ≤ 0 then p :: l
    else if full || decide (share ≤ l.length + 1) || decide (w.mass < 1) || decide (|w.temp - p.temp| < thr) then
      mixAll [w, p] :: l
    else w :: p :: l

/-- An estimate blended with a measurement, each weighted by the inverse of its variance (R161). -/
def blend (mix z : Parcel) : Parcel :=
  if mix.sd = 0 then mix
  else
    let a := 1 / mix.sd ^ 2
    let b := 1 / z.sd ^ 2
    let t := (a * mix.temp + b * z.temp) / (a + b)
    { mix with temp := t, sd := Config.sqrtQ (1 / (a + b)), lastMeas := max mix.lastMeas z.lastMeas, tin := some t }

/-! ### An interval of time (R158) -/

/-- The water of a model over an interval. -/
structure Water where
  /-- the model. -/
  model : NetModel := {}
  /-- flows, temperatures of brought water and other values with their standard deviations, by slot. -/
  vals : Tab (Rat × Rat) := []
  /-- length in seconds; 0 places no water but only mixes the flows. -/
  dt : Rat := 0
  /-- parcels of every segment at its start. -/
  parcels : Tab (List Parcel) := []
  /-- calibration values in force (R177). -/
  cal : Tab CalQ := []
  /-- ground temperature of every segment. -/
  ground : Tab Rat := []
  /-- measured node temperatures: value, SIGMA and epoch (R155, R161). -/
  meas : Tab Parcel := []
  /-- last known water of every node, for a node that no water enters. -/
  known : Tab Parcel := []
  /-- growth of a standard deviation over the interval (R158). -/
  grow : Rat := 0
  /-- largest number of parcels in a segment (R157). -/
  share : Nat := 255
  /-- the parcel pool has no room (R157). -/
  full : Bool := false
  /-- effective merge threshold (R159). -/
  thr : Rat := 0
  deriving DecidableEq, Repr

/-- Value of a slot. -/
def Water.val (c : Water) (e q : Nat) : Rat := (tgetD c.vals (slotKey e q) (0, 0)).1

/-- Its standard deviation. -/
def Water.sdOf (c : Water) (e q : Nat) : Rat := (tgetD c.vals (slotKey e q) (0, 0)).2

/-- Mass flow of a segment or a pump set. -/
def Water.flow (c : Water) (r : List Byte) : Rat := c.val (recId r) 0

/-- Parcels of a segment, outlet end first. -/
def Water.outletFirst (c : Water) (r : List Byte) : List Parcel :=
  let l := tgetD c.parcels (recId r) []
  if 0 ≤ c.flow r then l.reverse else l

/-- Mass that moves through a segment; the delay factor multiplies the travel time (R158, R172). -/
def Water.moved (c : Water) (r : List Byte) : Rat := |c.flow r| * c.dt / delayFactor c.cal r

/-- Water that a flow brings, weighted by its mass, or by its rate where no time passes. -/
def Water.share1 (c : Water) (m : Rat) : Rat := if c.dt = 0 then m else m * c.dt

/-- Water that leaves the outlet of a segment: its own, and what passes through when more moves than it holds. -/
def Water.outflow (c : Water) (r : List Byte) (inlet : Parcel) : List Parcel :=
  let l := c.outletFirst r
  if c.dt = 0 then (l.head?.toList).map (fun p => { p with mass := |c.flow r| })
  else
    let x := c.moved r
    let held := sumOf l (fun p => p.mass)
    let out := (takeMass x l).1 ++ (if held < x then [{ inlet with mass := x - held }] else [])
    out.map (fun p => { p with mass := p.mass * delayFactor c.cal r })

/-- Water that an element other than a segment or a pump set brings to a node (R160; log entry 50). -/
def Water.brought (c : Water) (n : Nat) : List Parcel :=
  (c.model.elems.map (fun r =>
    let e := recId r
    let w := fun (m : Rat) (q : Nat) => [{ mass := c.share1 m, temp := c.val e q, sd := c.sdOf e q : Parcel }]
    let into := fun (m : Rat) (a b q : Nat) => if b = n && 0 < m then w m q else if a = n && m < 0 then w (-m) q else []
    match recType r with
    | 3 => into (c.val e 1) (rU32 r 20) (rU32 r 24) 2 ++ into (c.val e 5) (rU32 r 28) (rU32 r 32) 6
    | 4 => into (c.val e 5) (rU32 r 24) (rU32 r 20) 6
    | 5 => into (c.val e 5) (rU32 r 24) (rU32 r 20) 6
    | 9 => if rU8 r 16 = 1 && rU32 r 20 = n && 0 < c.val e 0 then w (c.val e 0) 2 else []
    | _ => [])).flatten

/-- The water of a node that nothing enters: as last known, else of a free temperature (log entry 50). -/
def Water.still (c : Water) (n : Nat) : Parcel :=
  (tget c.known n).getD { temp := Config.freeTemp n, sd := 10 / 3, initial := true }

/-- The water of a node: mixed by mass, which is the prior, and blended with its measurement (R158, R161). The number
bounds how far upstream the mixing looks. -/
def Water.node (c : Water) : Nat → Nat → Parcel × Parcel
  | 0, n => (c.still n, c.still n)
  | k + 1, n =>
    let pipes := ((pipesAt c.model n).map (fun r =>
      if c.flow r = 0 || flowDst r (c.flow r) != n then []
      else c.outflow r (c.node k (flowSrc r (c.flow r))).2)).flatten
    let pumps := ((elemsOf c.model 6).map (fun r =>
      if c.flow r = 0 || flowDst r (c.flow r) != n then []
      else [{ (c.node k (flowSrc r (c.flow r))).2 with mass := c.share1 |c.flow r| }])).flatten
    let all := pipes ++ pumps ++ c.brought n
    let mix := if sumOf all (fun p => p.mass) = 0 then c.still n else mixAll all
    match tget c.meas n with
    | some z => (mix, blend mix z)
    | none => (mix, mix)

/-- The water of a node, in flow order over the whole model. -/
def Water.nodeMix (c : Water) (n : Nat) : Parcel × Parcel := c.node c.model.elems.length n

/-- Ground temperature of a segment. -/
def Water.groundT (c : Water) (r : List Byte) : Rat := tgetD c.ground (recId r) (rQ r 44)

/-- The parcels of a segment after the interval (R158). -/
def Water.segAfter (c : Water) (r : List Byte) : List Parcel :=
  if c.dt = 0 then tgetD c.parcels (recId r) []
  else
    let x := min (c.moved r) (pipeMass r)
    let rest := mendHead (takeMass x (c.outletFirst r)).2
    let aged := rest.map (ageParcel (c.groundT r) (lossPerS c.cal r) c.dt c.grow)
    let inlet := { (c.nodeMix (flowSrc r (c.flow r))).2 with mass := x, placed := false }
    let l := pourIn c.share c.full c.thr inlet aged.reverse
    if 0 ≤ c.flow r then l else l.reverse

/-- The parcels of every segment after the interval, inlet end first. -/
def Water.after (c : Water) : Tab (List Parcel) :=
  (elemsOf c.model 2).foldl (fun t r => tset t (recId r) (c.segAfter r)) []

/-! ### Initialisation (R169, R170) -/

/-- The nearest measured water upstream of a list of nodes, along the flow (R169; log entry 50). -/
def Water.upstream (c : Water) : Nat → List Nat → Option Parcel
  | 0, _ => none
  | k + 1, ns =>
    match ns.findSome? (fun n => tget c.meas n) with
    | some p => some p
    | none => c.upstream k (((ns.map (fun n =>
        ((pipesAt c.model n ++ elemsOf c.model 6).filter (fun r => c.flow r != 0 && flowDst r (c.flow r) == n)).map
          (fun r => flowSrc r (c.flow r)))).flatten).dedup)

/-- Mean of the measured nodes of a network; a free temperature where none is measured (R169). -/
def Water.netMean (c : Water) (net e : Nat) : Rat :=
  let l := (elemsOf c.model 1).filterMap (fun r => if rU8 r 16 = net then tget c.meas (recId r) else none)
  if l.isEmpty then Config.freeTemp e else sumOf l (fun p => p.temp) / (l.length : Rat)

/-- The one parcel of a segment that is initialised: from the old model's estimate at the node that its water comes
from, else from the nearest measured node upstream, else from the network's mean (R169, R170). -/
def Water.initSeg (c : Water) (old : Tab Rat) (r : List Byte) : List Parcel :=
  let n := flowSrc r (c.flow r)
  let t := match tget old n with
    | some t => t
    | none => match c.upstream c.model.elems.length [n] with
      | some p => p.temp
      | none => c.netMean (match findElem c.model n with | some x => rU8 x 16 | none => 0) (recId r)
  [{ mass := pipeMass r, temp := t, sd := 10 / 3, initial := true, placed := true }]

/-- Every segment without parcels is initialised. -/
def Water.initAll (c : Water) (old : Tab Rat) : Water :=
  { c with parcels := (elemsOf c.model 2).foldl (fun t r =>
      if (tgetD c.parcels (recId r) []).isEmpty then tset t (recId r) (c.initSeg old r) else t) c.parcels }

end Sys2Proof.Machine
end

