-- ==== Sys2Proof/Machine/Problem.lean ====
section
/-! DEFINITION. The dispatch problem (chapter "Dispatch problem and plans"): what the rules fix about a plan, given
what its solve read at its start and the trajectories that its iterations end with: cost terms, emissions, flags and the
residuals of the constraint families. Everything is exact arithmetic, rounded once into the record (log entry 7). -/

namespace Sys2Proof.Machine

/-! ### What a solve read (R89) -/

/-- The model of a solve. -/
def SolveIn_model (i : SolveIn) : NetModel := i.model.getD {}

/-- A parameter value that a solve read. -/
def ipv (i : SolveIn) (id idx : Nat) : PVal := tgetD i.pars (pkey id idx) (pdefault id idx)

/-- Its first field. -/
def ipn (i : SolveIn) (id idx : Nat) : Nat := (ipv i id idx).headD 0

/-- Its value as an exact number. -/
def ipq (i : SolveIn) (id idx : Nat) : Rat := qof (ipn i id idx)

/-- Weight of a scenario (R82). -/
def weightOf (i : SolveIn) (sc : Nat) : Rat := ipq i (P.SCENARIO_WEIGHT_0 + sc) 0

/-- The element is out of service in a solve. -/
def iOos (i : SolveIn) (e : Nat) : Bool := tgetD i.oos e false

/-- The element takes no part of its own in the problem: out of service or FIXED (R46, R77). -/
def passive (i : SolveIn) (r : List Byte) : Bool := iOos i (recId r) || recFixed r

/-! ### Values of a plan -/

/-- Exact value of a quantity in a plan. -/
def pval (i : SolveIn) (p : Plan) (e q sc k : Nat) : Rat :=
  match varPos (SolveIn_model i) e q with
  | some v => (trajAt p v sc k).rat
  | none => 0

/-- Length of a step in hours (R81). -/
def stepHours (p : Plan) (k : Nat) : Rat := (stepLen p k : Rat) / 28800000

/-- Energy of a power over a step in MWh (R91). -/
def stepMwh (p : Plan) (k : Nat) (x : Rat) : Rat := x * stepHours p k / 1000

/-! ### Input series (R86, R88, R90) -/

/-- Ticks of one value of a series. -/
def serTicks (x : Series) : Nat := x.res * 480000

/-- First epoch beyond a series. -/
def serEnd (x : Series) : Nat := x.start + x.count * serTicks x

/-- Ticks that two intervals share. -/
def shared (a b c d : Nat) : Nat := min b d - max a c

/-- Value of a series over an interval of epochs: the time-weighted mean; parts outside its coverage take the nearest
end value (R88). -/
def seriesMean (x : Series) (sc a b : Nat) : Rat :=
  let v := x.vals.getD (if 1 < x.variants then sc else 0) []
  let at' := fun (j : Nat) => (v.getD j F32.zero).rat
  let lo := (max a x.start - x.start) / serTicks x
  let hi := (min b (serEnd x) - x.start + serTicks x - 1) / serTicks x
  let mid := ((List.range (hi - lo)).map (fun n =>
    at' (lo + n) * (shared a b (x.start + (lo + n) * serTicks x) (x.start + (lo + n + 1) * serTicks x) : Rat))).sum
  let before := (min b x.start - a : Nat)
  let after := (b - max a (serEnd x) : Nat)
  (mid + (before : Rat) * at' 0 + (after : Rat) * at' (x.count - 1)) / ((b - a : Nat) : Rat)

/-- A series that has been committed. -/
def serOf (i : SolveIn) (n : Nat) : Option Series :=
  if n = refNone then none
  else match tget i.series n with
    | some x => if x.kind = 0 then none else some x
    | none => none

/-- Value of a series in a step. -/
def serStep (i : SolveIn) (p : Plan) (n sc k : Nat) : Option Rat :=
  (serOf i n).map (fun x => seriesMean x sc (stepStart p k) (stepStart p k + stepLen p k))

/-- Series that a model needs, with their kind (R90). -/
def neededSeries (m : NetModel) : List (Nat × Nat) :=
  ((elemsOf m 4).filter (fun r => rU8 r 16 == 1 || rU8 r 16 == 2)).map (fun r => (rU32 r 60, 1)) ++
  ((elemsOf m 8).map (fun r => [(rU32 r 24, 1)] ++ (if 0 < rQ r 20 then [(rU32 r 28, 1)] else []))).flatten

/-- Series that a solve reads where they are present, with their kind (R90, R97, R99). -/
def optionalSeries (i : SolveIn) : List (Nat × Nat) :=
  let m := SolveIn_model i
  (elemsOf m 8).map (fun r => (rU32 r 32, 2)) ++
  ((elemsOf m 4).filter (fun r => rU8 r 16 == 3 || rU8 r 16 == 5)).map
    (fun r => (ipn i P.PLANT_SOURCE_SERIES (idIndex (recId r)), 5)) ++
  [(ipn i P.OUTDOOR_T_SERIES 0, 3), (ipn i P.DEMAND_SCALE_SERIES 0, 4)]

/-- A needed series has never been committed, or a series is of the wrong kind (R90). -/
def inputMissing (i : SolveIn) : Bool :=
  (neededSeries (SolveIn_model i)).any (fun x => match serOf i x.1 with | some z => z.kind != x.2 | none => true) ||
  (optionalSeries i).any (fun x => match serOf i x.1 with | some z => z.kind != x.2 | none => false)

/-- Numbers of the series that do not cover the horizon (R88). An optional series that ends early counts also where no
element of the model uses its value: DESIGN CHOICE (log entry 68). -/
def heldSeries (i : SolveIn) (p : Plan) : List Nat :=
  ((neededSeries (SolveIn_model i) ++ optionalSeries i).filter (fun x => match serOf i x.1 with
    | some z => decide (p.hstart < z.start) || decide (serEnd z < planEnd p)
    | none => false)).map (fun x => x.1)

/-! ### Tables (R62, R102) -/

/-- Straight line through two points. -/
def lineAt (x0 y0 x1 y1 x : Rat) : Rat := if x1 = x0 then y0 else y0 + (y1 - y0) * (x - x0) / (x1 - x0)

/-- Linear interpolation between the pairs of a list, end values beyond them. -/
def pairsAt : List (Rat × Rat) → Rat → Rat
  | [], _ => 0
  | [a], _ => a.2
  | a :: b :: r, x => if x ≤ a.1 then a.2 else if x ≤ b.1 then lineAt a.1 a.2 b.1 b.2 x else pairsAt (b :: r) x

/-- Pairs of a table as exact numbers. -/
def pairsQ (m : NetModel) (no : Nat) : List (Rat × Rat) := (modelTab m no).map (fun x => (x.1.rat, x.2.rat))

/-- A profile at an hour of the week: it wraps across hour 168 (R62). -/
def profileAt (l : List (Rat × Rat)) (h : Rat) : Rat :=
  match l.head?, l.getLast? with
  | some a, some b =>
    if h < a.1 then lineAt (b.1 - 168) b.2 a.1 a.2 h
    else if b.1 < h then lineAt b.1 b.2 (a.1 + 168) a.2 h
    else pairsAt l h
  | _, _ => 0

/-- Hour of the week of twice an epoch in local civil time, from Monday 00:00 (R62; log entry 52). -/
def hourOfWeek (shift : Int) (t2 : Nat) : Rat :=
  let ticks := ((t2 : Int) + 2 * 8000 * (shift + 5 * 86400)) % (2 * 168 * 28800000)
  (ticks : Rat) / 57600000

/-- A profile table at the midpoint of a step (R97). -/
def profileStep (i : SolveIn) (p : Plan) (no k : Nat) : Rat :=
  profileAt (pairsQ (SolveIn_model i) no) (hourOfWeek i.shift (2 * stepStart p k + stepLen p k))

/-! ### The reference point and projected states (R95, R164) -/

/-- Value of a quantity at the reference point: that of the plan in force at the step's start, or the Percolator's
estimate (R95). -/
def refVal (i : SolveIn) (p : Plan) (r : List Byte) (q sc k : Nat) : Rat :=
  match varPos (SolveIn_model i) (recId r) q with
  | none => 0
  | some v =>
    match i.refPlan with
    | some rp => planValue rp r q v (if sc < rp.scenarios then sc else rp.refScen) 0 (stepStart p k)
    | none => (tgetD i.ests v {}).value.rat

/-- The plan in force, where it was solved on the model of this solve: it gives the projection its flows and powers
(R164). -/
def SolveIn_samePlan (i : SolveIn) : Option Plan :=
  match i.prevPlan with
  | some p => if p.modelKey = (SolveIn_model i).key && p.modelSerial = (SolveIn_model i).serial then some p else none
  | none => none

/-- A store's energy carried over the steps of the plan in force from the estimate's epoch to the horizon start. -/
def storeCarry (rp : Plan) (r : List Byte) (vc vd loss : Nat) (a b : Nat) : List Nat → Rat → Rat
  | [], e => e
  | k :: ks, e =>
    let lo := if k = 0 then 0 else stepStart rp k
    let hi := if k + 1 = rp.steps then b else stepStart rp (k + 1)
    let dt : Rat := (shared a b lo hi : Rat) / 28800000
    let c := (trajAt rp vc rp.refScen k).rat - (trajAt rp vd rp.refScen k).rat
    storeCarry rp r vc vd loss a b ks (e * (1 - qof loss / 100 * dt) + c * dt)

/-- LOSS_RATE of a store with its calibration (R172). -/
def lossRate (i : SolveIn) (r : List Byte) : F32 := (calOf i.cal r 2).inForce

/-- E_(−1): the estimate of a store's energy projected to the horizon start (R101, R164). -/
def storeStart (i : SolveIn) (p : Plan) (r : List Byte) : Rat :=
  let m := SolveIn_model i
  let est := fun (q : Nat) => match varPos m (recId r) q with
    | some v => (tgetD i.ests v {}).value.rat
    | none => 0
  match SolveIn_samePlan i, varPos m (recId r) 1, varPos m (recId r) 2 with
  | some rp, some vc, some vd =>
    storeCarry rp r vc vd (lossRate i r).bits.toNat i.estEpoch p.hstart (List.range rp.steps) (est 0)
  | _, _, _ =>
    let dt : Rat := ((p.hstart - i.estEpoch : Nat) : Rat) / 28800000
    est 0 * (1 - (lossRate i r).rat / 100 * dt) + (est 1 - est 2) * dt

/-! ### Demand (R97, R98) -/

/-- The weather factor of demand model 1 for a service; none without an outdoor temperature (R97). -/
def weatherFactor (i : SolveIn) (p : Plan) (cold : Bool) (sc k : Nat) : Option Rat :=
  (serStep i p (ipn i P.OUTDOOR_T_SERIES 0) sc k).map (fun t =>
    if cold then
      max 0 (t - ipq i P.DEMAND_T_BASE_COLD 0) / (ipq i P.DEMAND_T_REF_COLD 0 - ipq i P.DEMAND_T_BASE_COLD 0)
    else
      max 0 (ipq i P.DEMAND_T_BASE_HEAT 0 - t) / (ipq i P.DEMAND_T_BASE_HEAT 0 - ipq i P.DEMAND_T_REF_HEAT 0))

/-- A station's demand for a service in a step, kW (R97). -/
def demandOf (i : SolveIn) (p : Plan) (r : List Byte) (cold : Bool) (sc k : Nat) : Rat :=
  let f1 := (weatherFactor i p cold sc k).getD 1
  let f := match rU8 r 19 with
    | 0 => 1
    | 1 => f1
    | _ => (calOf i.cal r (if cold then 5 else 3)).inForce.rat + (calOf i.cal r (if cold then 6 else 4)).inForce.rat * f1
  profileStep i p (rU32 r 68) k * (serStep i p (ipn i P.DEMAND_SCALE_SERIES 0) sc k).getD 1 * f

/-- A profile is used unscaled (R90). A station with DEMAND_MODEL 2 counts as one with DEMAND_MODEL 1 does: DESIGN CHOICE
(log entry 68). -/
def unscaled (i : SolveIn) : Bool :=
  (serOf i (ipn i P.OUTDOOR_T_SERIES 0)).isNone &&
  (elemsOf (SolveIn_model i) 3).any (fun r => rU8 r 19 != 0)

/-- Services of a station: cold or not, and its first quantity (R109). -/
def servicesOf (r : List Byte) : List (Bool × Nat) :=
  (if bitOf (rU8 r 18) 0 then [(false, 0)] else []) ++ (if bitOf (rU8 r 18) 1 then [(true, 4)] else [])

/-! ### Prices and coefficients (R92, R99) -/

/-- Import price, and the export price after R92. -/
def gridPrices (i : SolveIn) (p : Plan) (r : List Byte) (sc k : Nat) : Rat × Rat :=
  let a := (serStep i p (rU32 r 24) sc k).getD 0
  let b := (serStep i p (rU32 r 28) sc k).getD 0
  (a, min a b)

/-- R92 applies somewhere in the horizon. A connection with EXPORT_MAX 0, which can export nothing, does not count:
DESIGN CHOICE (log entry 68). -/
def exportCapped (i : SolveIn) (p : Plan) : Bool :=
  (elemsOf (SolveIn_model i) 8).any (fun r => decide (0 < rQ r 20) &&
    (List.range p.scenarios).any (fun sc => (List.range p.steps).any (fun k =>
      decide ((serStep i p (rU32 r 24) sc k).getD 0 < (serStep i p (rU32 r 28) sc k).getD 0))))

/-- COP or EER of a heat pump or chiller (R99). -/
def copOf (i : SolveIn) (p : Plan) (r : List Byte) (sc k : Nat) : Rat :=
  let out := match findElem (SolveIn_model i) (rU32 r 20) with
    | some n => refVal i p n 0 sc k
    | none => 0
  let lift := match serStep i p (ipn i P.PLANT_SOURCE_SERIES (idIndex (recId r))) sc k with
    | some t => if rU8 r 16 = 5 then t - out else out - t
    | none => rQ r 56
  rQ r 48 + rQ r 52 * (lift - rQ r 56)

/-- Quantity numbers of commitment and start of a plant. -/
def commitQty (r : List Byte) : Nat := (recQtys r).length - 2

/-! ### Soft limits (R93, R98, R101, R103, R104) -/

/-- Amount by which a value lies outside two limits. -/
def outBy (lo x hi : Rat) : Rat := max 0 (max (lo - x) (x - hi))

/-- Slack of a node's limits: kelvin, and units of 100 kPa (R91). -/
def nodeSlack (i : SolveIn) (p : Plan) (r : List Byte) (sc k : Nat) : Rat :=
  outBy (rQ r 20) (pval i p (recId r) 0 sc k) (rQ r 24) +
    outBy (rQ r 28) (pval i p (recId r) 1 sc k) (rQ r 32) / 100

/-- Slack of a station's supply temperatures in kelvin (R98). -/
def supplySlack (i : SolveIn) (p : Plan) (r : List Byte) (sc k : Nat) : Rat :=
  (if bitOf (rU8 r 18) 0 then max 0 (rQ r 44 - pval i p (rU32 r 20) 0 sc k) else 0) +
  (if bitOf (rU8 r 18) 1 then max 0 (pval i p (rU32 r 28) 0 sc k - rQ r 48) else 0)

/-- Shortfall of a store below E_MIN, and at the last step below E_END_MIN, in kWh (R101). -/
def storeShort (i : SolveIn) (p : Plan) (r : List Byte) (sc k : Nat) : Rat :=
  let e := pval i p (recId r) 0 sc k
  let last := if rQ r 56 = -1 then storeStart i p r else rQ r 56
  max 0 (rQ r 36 - e) + (if k + 1 = p.steps then max 0 (last - e) else 0)

/-- A commitment covers part of a step (R130). -/
def flexCovers (p : Plan) (f : FlexSlot) (k : Nat) : Bool :=
  f.filled && decide (stepStart p k < f.stop) && decide (f.start < stepStart p k + stepLen p k)

/-- Slack of a commitment's band in kW (R104). -/
def flexSlack (i : SolveIn) (p : Plan) (f : FlexSlot) (sc k : Nat) : Rat :=
  if flexCovers p f k then
    outBy f.bandMin.rat (pval i p f.grid 0 sc k - pval i p f.grid 1 sc k) f.bandMax.rat
  else 0

/-! ### Couplings in a solve (R200, R201) -/

/-- The coupling's published state as a solve read it. -/
def coupIn (i : SolveIn) (r : List Byte) : CoupSt :=
  tgetD i.agreed (idIndex (recId r)) { cur := { rho := rF r 44 }, pub := { rho := rF r 44 } }

/-- Start of exchange step `k` of an agreement; a step with a leap second is a second longer or shorter (R195, R562). -/
def exchBound (g : Agree) (k : Nat) : Nat :=
  let b := g.exchStart + k * g.stepMin * 480000
  if g.leapStep < k then (if g.leapKind = 1 then b + 8000 else if g.leapKind = 2 then b - 8000 else b) else b

/-- Time-weighted mean of a list on an exchange grid over an interval: beyond its last step the last value, before its
first the first (R200, R201). -/
def exchMean (g : Agree) (l : List F32) (a b : Nat) : Rat :=
  let v := fun (k : Nat) => (l.getD k F32.zero).rat
  let mid := ((List.range l.length).map (fun k =>
    v k * (shared a b (exchBound g k) (exchBound g (k + 1)) : Rat))).sum
  let before := (min b (exchBound g 0) - a : Nat)
  let after := (b - max a (exchBound g l.length) : Nat)
  (mid + (before : Rat) * v 0 + (after : Rat) * v (l.length - 1)) / ((b - a : Nat) : Rat)

/-- Time-weighted mean of the exchange steps that overlap an interval (R200). -/
def exchOver (g : Agree) (l : List F32) (a b : Nat) : Rat :=
  let w := fun (k : Nat) => (shared a b (exchBound g k) (exchBound g (k + 1)) : Rat)
  sumOf (List.range l.length) (fun k => (l.getD k F32.zero).rat * w k) / sumOf (List.range l.length) w

/-- A solve step overlaps the exchange window. -/
def inWindow (p : Plan) (g : Agree) (n k : Nat) : Bool :=
  decide (stepStart p k < exchBound g n) && decide (g.exchStart < stepStart p k + stepLen p k)

/-- Q_k: the amount in which R110 prices a coupled quantity (R200). -/
def coupAmount (p : Plan) (r : List Byte) (c : CoupSt) (qi k : Nat) : Rat :=
  if rU8 r 16 != 1 then stepHours p k / 1000
  else if qi = 0 then 36 / 10 * stepHours p k
  else
    let l := (c.pub.qs.getD 0 {}).a
    let f := (if inWindow p c.pub l.length k then exchOver else exchMean) c.pub l (stepStart p k)
      (stepStart p k + stepLen p k)
    36 / 10 * stepHours p k * |f|

/-- Coupled quantities of a record. -/
def coupQtys (r : List Byte) : Nat := if rU8 r 16 = 1 then 2 else 1

/-- The consensus term of one coupled quantity in a step (R200). -/
def consensusTerm (i : SolveIn) (p : Plan) (r : List Byte) (sc k qi : Nat) : Rat :=
  let c := coupIn i r
  let q := c.pub.qs.getD qi {}
  if c.pubState = 1 && inWindow p c.pub q.a.length k then
    let e := stepStart p k + stepLen p k
    let z := pval i p (recId r) (2 * qi + 1) sc k
    let a := exchOver c.pub q.a (stepStart p k) e
    let y := exchOver c.pub q.y (stepStart p k) e
    coupAmount p r c qi k *
      (y * (z - a) + c.pub.rho.rat * ipq i P.FED_PRICE_SCALE 0 * (z - a) ^ 2 / (2 * q.span.rat))
  else 0

/-- The coupling is pinned: INITIAL, HELD or MISMATCH (R201). -/
def pinned (c : CoupSt) : Bool := c.pubState == 0 || c.pubState == 2 || c.pubState == 3

/-- Slack against the pinned value of one coupled quantity, in units of Q_k (R201). -/
def pinSlack (i : SolveIn) (p : Plan) (r : List Byte) (sc k qi : Nat) : Rat :=
  let c := coupIn i r
  let q := c.pub.qs.getD qi {}
  if pinned c && !(q.a.isEmpty && qi == 1) then
    let v := if q.a.isEmpty then 0 else exchMean c.pub q.a (stepStart p k) (stepStart p k + stepLen p k)
    coupAmount p r c qi k * |pval i p (recId r) (2 * qi + 1) sc k - v|
  else 0

/-- Some coupling of the model is held (COUPLING_HELD, R201, R202). -/
def couplingHeld (i : SolveIn) : Bool :=
  (elemsOf (SolveIn_model i) 9).any (fun r => !iOos i (recId r) && pinned (coupIn i r))

/-! ### Cost terms (R91) -/

/-- Expected value over scenarios and steps of a term. -/
def expect (i : SolveIn) (p : Plan) (f : Nat → Nat → Rat) : Rat :=
  sumOf (List.range p.scenarios) (fun sc => weightOf i sc * sumOf (List.range p.steps) (f sc))

/-- Plants that burn fuel. -/
def fuelPlants (m : NetModel) : List (List Byte) := (elemsOf m 4).filter (fun r => rU8 r 16 == 1 || rU8 r 16 == 2)

/-- Lighting feeders. -/
def lightFeeders (m : NetModel) : List (List Byte) := (elemsOf m 7).filter (fun r => rU8 r 16 == 2)

/-- Emissions of a step in t (R91). -/
def stepEmissions (i : SolveIn) (p : Plan) (sc k : Nat) : Rat :=
  let m := SolveIn_model i
  (sumOf (fuelPlants m) (fun r => rQ r 64 * stepMwh p k (pval i p (recId r) 0 sc k)) +
   sumOf (elemsOf m 8) (fun r => (serStep i p (rU32 r 32) sc k).getD 0 * stepMwh p k (pval i p (recId r) 0 sc k))) / 1000

/-- Penalties of every soft limit in a step (R91, R201). -/
def stepSlack (i : SolveIn) (p : Plan) (sc k : Nat) : Rat :=
  let m := SolveIn_model i
  sumOf (elemsOf m 1) (fun r => ipq i P.LIMIT_PENALTY 0 * nodeSlack i p r sc k * stepHours p k) +
  sumOf (elemsOf m 3) (fun r => ipq i P.LIMIT_PENALTY 0 * supplySlack i p r sc k * stepHours p k) +
  sumOf (elemsOf m 7) (fun r => ipq i P.FEEDER_SLACK_PENALTY 0 * stepMwh p k (pval i p (recId r) 1 sc k)) +
  sumOf (elemsOf m 5) (fun r => ipq i P.STORE_SLACK_PENALTY 0 * storeShort i p r sc k / 1000) +
  sumOf i.flex (fun f => ipq i P.FLEX_PENALTY 0 * stepMwh p k (flexSlack i p f.2 sc k)) +
  sumOf (elemsOf m 9) (fun r => sumOf (List.range (coupQtys r)) (fun qi => ipq i P.FED_PIN_PENALTY 0 * pinSlack i p r sc k qi))

/-- The consensus terms of a step (R200). -/
def stepConsensus (i : SolveIn) (p : Plan) (sc k : Nat) : Rat :=
  sumOf (elemsOf (SolveIn_model i) 9) (fun r => sumOf (List.range (coupQtys r)) (consensusTerm i p r sc k))

/-- COST_TERMS: fuel, import, export, emissions, comfort, dimming, limit slack, starts (R91, R111). -/
def costTerms (i : SolveIn) (p : Plan) : List Rat :=
  let m := SolveIn_model i
  [expect i p (fun sc k => sumOf (fuelPlants m) (fun r =>
      (serStep i p (rU32 r 60) sc k).getD 0 * stepMwh p k (pval i p (recId r) 0 sc k))),
   expect i p (fun sc k => sumOf (elemsOf m 8) (fun r =>
      (gridPrices i p r sc k).1 * stepMwh p k (pval i p (recId r) 0 sc k))),
   -(expect i p (fun sc k => sumOf (elemsOf m 8) (fun r =>
      (gridPrices i p r sc k).2 * stepMwh p k (pval i p (recId r) 1 sc k)))),
   expect i p (fun sc k => ipq i P.EMISSION_WEIGHT 0 * stepEmissions i p sc k),
   expect i p (fun sc k => sumOf (elemsOf m 3) (fun r => sumOf (servicesOf r) (fun x =>
      rQ r 60 * stepMwh p k (pval i p (recId r) (x.2 + 3) sc k)))),
   expect i p (fun sc k => sumOf (lightFeeders m) (fun r =>
      rQ r 36 * stepMwh p k ((1 - pval i p (recId r) 2 sc k / 100) * profileStep i p (rU32 r 40) k))),
   expect i p (stepSlack i p),
   expect i p (fun sc k => sumOf (elemsOf m 4) (fun r => rQ r 68 * pval i p (recId r) (commitQty r + 1) sc k))]

/-- OBJECTIVE: the expected cost (R91, R111). -/
def objective (i : SolveIn) (p : Plan) : Rat := (costTerms i p).sum + expect i p (stepConsensus i p)

/-! ### Residuals (R93, R113) -/

/-- Residual of an equation: the sum of its terms is 0 (R113). -/
def eqRes (ts : List Rat) : Rat := |ts.sum| / max 1 (ts.foldl (fun a t => max a |t|) 0)

/-- Residual of an inequality `a ≤ b` (R113). -/
def leRes (a b : Rat) : Rat := max 0 (a - b) / max 1 (max |a| |b|)

/-- Difference of the supply and the return temperature by which a plant or a store exchanges heat: of supply over
return, the other way round for a chiller, a cold-water and an ice store. -/
def overReturn (r : List Byte) (ts tr : Rat) : Rat :=
  if (recType r = 4 && rU8 r 16 = 5) || (recType r = 5 && rU8 r 16 != 1) then tr - ts else ts - tr

/-- Heat that a plant or a store gives to its supply side: output, or discharge less charge; an ice store charges through
its chiller's brine and not by network water. -/
def sideHeat (r : List Byte) (f : Nat → Rat) : Rat :=
  if recType r = 4 then f 1 else if rU8 r 16 = 3 then f 2 else f 2 - f 1

/-- Water flow of a plant or a store towards its supply node, from the heat that it gives: the product of flow and
temperature difference linearised about the reference point (R95; log entry 52). None where the reference difference
is 0. -/
def hiddenFlow (i : SolveIn) (p : Plan) (r : List Byte) (sc k : Nat) : Option Rat :=
  let m := SolveIn_model i
  let ref := fun (n : Nat) => match findElem m n with | some x => refVal i p x 0 sc k | none => 0
  let d0 := overReturn r (ref (rU32 r 20)) (ref (rU32 r 24))
  let d := overReturn r (pval i p (rU32 r 20) 0 sc k) (pval i p (rU32 r 24) 0 sc k)
  let m0 := sideHeat r (fun q => refVal i p r q sc k) / (cpWater * d0)
  if iOos i (recId r) then some 0
  else if d0 = 0 then none
  else some (m0 + (sideHeat r (fun q => pval i p (recId r) q sc k) / cpWater - m0 * d) / d0)

/-- Mass flow of a slot in a plan. -/
def planFlow (i : SolveIn) (p : Plan) (sc k key : Nat) : Rat :=
  if idType (key / 8) = 4 || idType (key / 8) = 5 then
    match findElem (SolveIn_model i) (key / 8) with
    | some r => (hiddenFlow i p r sc k).getD 0
    | none => 0
  else pval i p (key / 8) (key % 8) sc k

/-- A plant or store whose flow the reference point leaves open is connected at a node. -/
def openFlow (i : SolveIn) (p : Plan) (n sc k : Nat) : Bool :=
  (SolveIn_model i).elems.any (fun r => (recType r == 4 || recType r == 5) && (rU32 r 20 == n || rU32 r 24 == n) &&
    (hiddenFlow i p r sc k).isNone)

/-- Commitment and output of a plant at the horizon start in the plan in force, which another model may have solved
(R100; log entry 53). -/
def plantBefore (i : SolveIn) (p : Plan) (r : List Byte) : Option (Rat × Rat) :=
  match i.prevPlan, i.prevModel with
  | some rp, some pm =>
    match sameElem pm r with
    | some o =>
      match varPos pm (recId o) (commitQty o), varPos pm (recId o) 1 with
      | some vu, some vq =>
        some (planValue rp o (commitQty o) vu rp.refScen 0 p.hstart, planValue rp o 1 vq rp.refScen 0 p.hstart)
      | _, _ => none
    | none => none
  | _, _ => none

/-- Minutes from the midpoint of the step before to that of step `k`; for step 0 from the horizon start (R100). -/
def midGap (p : Plan) (k : Nat) : Rat :=
  match k with
  | 0 => (stepLen p 0 : Rat) / 960000
  | j + 1 => ((stepLen p j + stepLen p (j + 1) : Nat) : Rat) / 960000

/-- Residuals of a plant: family and residual (R99, R100). -/
def plantRes (i : SolveIn) (p : Plan) (r : List Byte) (sc k : Nat) : List (Nat × Rat) :=
  let f := fun (q : Nat) => pval i p (recId r) q sc k
  let kind := rU8 r 16
  let u := f (commitQty r)
  let st := f (commitQty r + 1)
  let conv := match kind with
    | 1 => [eqRes [f 0, -(f 1) / rQ r 48]]
    | 2 => [eqRes [f 1, -(rQ r 48) * f 0], leRes (rQ r 56 * f 1) (f 2), leRes (f 2) (rQ r 52 * f 0)]
    | 3 => [eqRes [f 0, -(f 1) / copOf i p r sc k], eqRes [f 2, -(f 1), f 0]]
    | 4 => [eqRes [f 0, -(f 1) / rQ r 48]]
    | _ => [eqRes [f 0, -(f 1) / copOf i p r sc k], eqRes [f 2, -(f 1), -(f 0)]]
  let prev := if k = 0 then plantBefore i p r
    else some (pval i p (recId r) (commitQty r) sc (k - 1), pval i p (recId r) 1 sc (k - 1))
  let start := [leRes 0 st, leRes (u - (match prev with | some x => x.1 | none => 0)) st]
  let ramp := match prev with
    | some x => [leRes (f 1 - x.2) (rQ r 40 * midGap p k), leRes (x.2 - f 1) (rQ r 44 * midGap p k)]
    | none => []
  let t := pval i p (rU32 r 20) 0 sc k
  let out := if kind = 5 then [leRes (rQ r 72 - 20) t] else [leRes t (rQ r 72)]
  conv.map (fun x => (6, x)) ++
    ([leRes 0 u, leRes u 1, leRes (rQ r 36 * u) (f 1), leRes (f 1) (rQ r 32 * u)] ++ start ++ ramp ++ out).map (fun x => (7, x))

/-- Residuals of a store; one out of service only keeps its balance (R77, R101). -/
def storeRes (i : SolveIn) (p : Plan) (r : List Byte) (sc k : Nat) : List (Nat × Rat) :=
  let f := fun (q : Nat) => pval i p (recId r) q sc k
  let dt := stepHours p k
  let e0 := if k = 0 then storeStart i p r else pval i p (recId r) 0 sc (k - 1)
  let bal := eqRes [f 0, -(e0 * (1 - (lossRate i r).rat / 100 * dt)), -(f 1) * dt, f 2 * dt]
  if iOos i (recId r) then [(8, bal)]
  else
    let chill := match findElem (SolveIn_model i) (rU32 r 60) with | some c => rQ c 32 | none => rQ r 40
    let top := if rU8 r 16 = 3 then pval i p (rU32 r 20) 0 sc k
      else pval i p (rU32 r 24) 0 sc k + f 0 / (11628 / 10000 * rQ r 28)
    [(8, bal), (8, leRes 0 (f 1)), (8, leRes (f 1) (if rU8 r 16 = 3 then min (rQ r 40) chill else rQ r 40)),
     (8, leRes 0 (f 2)), (8, leRes (f 2) (rQ r 44)), (8, leRes (f 0) (rQ r 32)), (8, leRes 0 (f 0)),
     (8, eqRes [f 3, -top]), (8, leRes (f 3) (rQ r 52))]

/-- A list of pairs is concave: its slopes do not rise. -/
def concaveOk : List (Rat × Rat) → Bool
  | a :: b :: c :: l =>
    decide ((c.2 - b.2) * (b.1 - a.1) ≤ (b.2 - a.2) * (c.1 - b.1)) && concaveOk (b :: c :: l)
  | _ => true

/-- The head that a pump curve allows at a flow: the curve itself where it is concave, else a free concave function that
does not exceed it (R102; log entry 52). -/
def curveHead (l : List (Rat × Rat)) (x : Rat) : Rat :=
  if concaveOk l then pairsAt l x else min (pairsAt l x) (Config.concaveUnder l x)

/-- Residuals of a pump set against its curve, limits and power, the product of flow and head linearised about the
reference point (R55, R95, R102; log entry 52). -/
def pumpRes (i : SolveIn) (p : Plan) (r : List Byte) (sc k : Nat) : List (Nat × Rat) :=
  let f := fun (q : Nat) => pval i p (recId r) q sc k
  let n : Rat := (max 1 (rU8 r 50) : Nat)
  let m0 := refVal i p r 0 sc k
  let h0 := refVal i p r 1 sc k
  [(9, eqRes [f 1, -(pval i p (rU32 r 20) 1 sc k), pval i p (rU32 r 16) 1 sc k]), (9, leRes 0 (f 1)),
   (9, leRes (f 1) (curveHead (pairsQ (SolveIn_model i) (rU32 r 40)) (f 0 / n))), (9, leRes (f 1) (rQ r 28)),
   (9, leRes |f 0| (rQ r 32)), (9, leRes (m0 * f 1 + (f 0 - m0) * h0) (1000 * rQ r 44 * f 2)), (9, leRes (f 2) (rQ r 36))]

/-- Electricity drawn from a feeder by the elements connected to it (R103). -/
def feederLoads (i : SolveIn) (p : Plan) (id sc k : Nat) : List Rat :=
  (SolveIn_model i).elems.map (fun r =>
    let f := fun (q : Nat) => pval i p (recId r) q sc k
    match recType r with
    | 4 => if rU32 r 28 = id then
        (match rU8 r 16 with | 2 => -(f 2) | 3 => f 0 | 4 => f 0 | 5 => f 0 | _ => 0) else 0
    | 6 => if rU32 r 24 = id then f 2 else 0
    | 7 => if rU32 r 20 = id then f 0 else 0
    | _ => 0)

/-- Residuals of a feeder (R103). -/
def feederRes (i : SolveIn) (p : Plan) (r : List Byte) (sc k : Nat) : List (Nat × Rat) :=
  let f := fun (q : Nat) => pval i p (recId r) q sc k
  let light := if rU8 r 16 = 2 then f 2 / 100 * profileStep i p (rU32 r 40) k else 0
  [(10, eqRes (-(f 0) :: light :: feederLoads i p (recId r) sc k)), (10, leRes 0 (f 1)),
   (10, leRes (f 0) (rQ r 24 + f 1)), (10, leRes (rQ r 28 - f 1) (f 0))] ++
  (if rU8 r 16 = 2 then [(10, leRes (rQ r 32) (f 2)), (10, leRes (f 2) 100)] else [])

/-- Residuals of a grid connection (R103). -/
def gridRes (i : SolveIn) (p : Plan) (r : List Byte) (sc k : Nat) : List (Nat × Rat) :=
  let f := fun (q : Nat) => pval i p (recId r) q sc k
  let roots := (elemsOf (SolveIn_model i) 7).filter (fun x => rU32 x 20 == recId r)
  [(11, eqRes (-(f 0) :: f 1 :: roots.map (fun x => pval i p (recId x) 0 sc k))), (11, leRes 0 (f 0)),
   (11, leRes (f 0) (rQ r 16)), (11, leRes 0 (f 1)), (11, leRes (f 1) (rQ r 20))]

/-- Residuals of a boundary coupling: its limits, and the agreement of local value and consensus copy (R105, R113). -/
def coupRes (i : SolveIn) (p : Plan) (r : List Byte) (sc k : Nat) : List (Nat × Rat) :=
  let f := fun (q : Nat) => pval i p (recId r) q sc k
  [(12, leRes (rQ r 36) (f 0)), (12, leRes (f 0) (rQ r 32))] ++
  (List.range (coupQtys r)).map (fun qi => (12, eqRes [f (2 * qi), -(f (2 * qi + 1))])) ++
  (if rU8 r 16 = 1 then [(12, leRes (f 2) (rQ r 40))] else [])

/-- The running deficit of a station's service up to a step, in kWh (R98). -/
def deficit (i : SolveIn) (p : Plan) (r : List Byte) (x : Bool × Nat) (sc k : Nat) : Rat :=
  sumOf (List.range (k + 1)) (fun j =>
    (demandOf i p r x.1 sc j - pval i p (recId r) x.2 sc j) * stepHours p j)

/-- Residuals of a station (R98). -/
def stationRes (i : SolveIn) (p : Plan) (r : List Byte) (sc k : Nat) : List (Nat × Rat) :=
  ((servicesOf r).map (fun x =>
    let d := demandOf i p r x.1 sc k
    let q := pval i p (recId r) x.2 sc k
    let c := pval i p (recId r) (x.2 + 3) sc k
    let h := rQ r 64
    [(5, leRes q (if x.1 then rQ r 40 else rQ r 36)), (5, leRes 0 c)] ++
    (if h = 0 then [(5, leRes (d - q) c)]
     else
       let dk := deficit i p r x sc k
       [(5, leRes (-(h * d)) dk), (5, leRes (dk - h * d) (c * stepHours p k))]))).flatten

/-! ### Transport (R95, R96, R164) -/

/-- Ground temperature of a segment: that of POINT_GROUND once it holds a value, else GROUND_T (R48; log entry 52). -/
def groundOf (pts : Tab Point) (r : List Byte) : Rat :=
  if rU32 r 40 = refNone then rQ r 44
  else match tget pts (rU32 r 40) with | some x => x.value.rat | none => rQ r 44

/-- An estimate's value as a solve read it. -/
def estQ (i : SolveIn) (e q : Nat) : Rat :=
  match varPos (SolveIn_model i) e q with | some v => (tgetD i.ests v {}).value.rat | none => 0

/-- Flows and temperatures of a step of the plan in force, by slot (R164). -/
def planVals (i : SolveIn) (rp : Plan) (k : Nat) : Tab (Rat × Rat) :=
  let m := SolveIn_model i
  let f := fun (e q : Nat) => pval i rp e q rp.refScen k
  m.elems.foldl (fun t r =>
    let e := recId r
    let t1 := (recQtys r).foldl (fun a q => tset a (slotKey e q) (f e q, 0)) t
    if recType r = 4 || recType r = 5 then
      let d := overReturn r (f (rU32 r 20) 0) (f (rU32 r 24) 0)
      tset (tset t1 (slotKey e 5) (sideHeat r (f e) / (cpWater * d), 0)) (slotKey e 6) (f (rU32 r 20) 0, 0)
    else t1) []

/-- Flows of the estimate set and the temperatures that it gives the water brought, by slot (R164). -/
def estVals (i : SolveIn) : Tab (Rat × Rat) :=
  (SolveIn_model i).elems.foldl (fun t r =>
    let e := recId r
    match recType r with
    | 3 => tset (tset t (slotKey e 2) (estQ i e 2, 0)) (slotKey e 6) (estQ i e 6, 0)
    | 4 => tset t (slotKey e 6) (estQ i (rU32 r 20) 0, 0)
    | 5 => tset t (slotKey e 6) (estQ i (rU32 r 20) 0, 0)
    | 9 => tset t (slotKey e 2) (estQ i e 2, 0)
    | _ => t) (tmap i.flows (fun _ x => (x, 0)))

/-- Pieces of the time from the estimates to the horizon start, each with the step of the plan in force that covers it
(R164). -/
def projPieces (i : SolveIn) (p : Plan) : List (Nat × (Nat × Option Nat)) :=
  let a := i.estEpoch
  let b := p.hstart
  (match SolveIn_samePlan i with
   | none => [(a, (b, none))]
   | some rp => [(a, (min b rp.hstart, none))] ++
      (List.range rp.steps).map (fun k => (max a (stepStart rp k), (min b (stepStart rp k + stepLen rp k), some k))) ++
      [(max a (planEnd rp), (b, none))]).filter (fun x => decide (x.1 < x.2.1))

/-- The parcels at the horizon start: advanced with the plan's flows while it covers the time, and with the estimated
flows otherwise (R164). -/
def projParcels (i : SolveIn) (p : Plan) : Tab (List Parcel) :=
  let m := SolveIn_model i
  (projPieces i p).foldl (fun t x =>
    let hours : Rat := ((x.2.1 - x.1 : Nat) : Rat) / 28800000
    ({ model := m
       vals := match x.2.2, SolveIn_samePlan i with | some k, some rp => planVals i rp k | _, _ => estVals i
       dt := 3600 * hours
       parcels := t
       cal := i.cal
       ground := (elemsOf m 2).foldl (fun g r => tset g (recId r) (groundOf i.pts r)) []
       known := (elemsOf m 1).foldl (fun g r => tset g (recId r) { temp := estQ i (recId r) 0 }) []
       grow := ipq i P.PROCESS_NOISE_K 0 / 3 * hours : Water }).after) i.parcels

/-- Temperature of the parcel in which a mass lies, counted from the outlet end. -/
def parcelAt : List Parcel → Rat → Rat
  | [], _ => 0
  | [p], _ => p.temp
  | p :: l, x => if x < p.mass then p.temp else parcelAt l (x - p.mass)

/-- The reference flow of a segment is smaller than 1 % of M_MAX (R96). -/
def stagnant (i : SolveIn) (p : Plan) (r : List Byte) (sc k : Nat) : Bool :=
  decide (|refVal i p r 0 sc k| < rQ r 48 / 100)

/-- Outlet temperature that R96 gives a segment at the end of a step, from the parcels at the horizon start. -/
def outletTemp (i : SolveIn) (p : Plan) (parcels : Tab (List Parcel)) (r : List Byte) (sc k : Nat) : Rat :=
  let m0 := refVal i p r 0 sc k
  let tg := groundOf i.pts r
  let kappa := lossPerS i.cal r
  let src := flowSrc r m0
  let own := tgetD parcels (recId r) []
  let parcel := if 0 ≤ m0 then own.reverse else own
  if stagnant i p r sc k then
    let dt := 3600 * stepHours p k
    let part := min 1 (|m0| * dt / pipeMass r)
    let before := if k = 0 then (mixAll own).temp else pval i p (recId r) 1 sc (k - 1)
    let inlet := if k = 0 then estQ i src 0 else pval i p src 0 sc (k - 1)
    coolTo tg kappa dt ((1 - part) * before + part * inlet)
  else
    let delay := delayFactor i.cal r * pipeMass r / |m0|
    let stop := stepStart p k + stepLen p k
    let past : Rat := ((stop - p.hstart : Nat) : Rat) / 8000
    if past < delay then coolTo tg kappa past (parcelAt parcel (past * |m0| / delayFactor i.cal r))
    else
      let back := (Rat.floor (delay * 16000)).toNat
      let inlet := match varPos (SolveIn_model i) src 0 with
        | some v => rampFrom p true v sc (2 * stop - back) p.steps 0 none
        | none => 0
      coolTo tg kappa delay inlet

/-- Residuals of a pipe segment: hydraulics with M_MAX and DIRECTION, and transport (R48, R93, R95, R96). -/
def pipeRes (i : SolveIn) (p : Plan) (parcels : Tab (List Parcel)) (r : List Byte) (sc k : Nat) : List (Nat × Rat) :=
  let f := fun (q : Nat) => pval i p (recId r) q sc k
  [(2, eqRes [pval i p (rU32 r 16) 1 sc k, -(pval i p (rU32 r 20) 1 sc k), -(headGain (SolveIn_model i) r),
     -(dropLin r (refVal i p r 0 sc k) (f 0))]), (2, leRes |f 0| (rQ r 48))] ++
  (if rU8 r 52 = 1 then [(2, leRes 0 (f 0))] else []) ++
  [(3, eqRes [f 1, -(outletTemp i p parcels r sc k)])]

/-- Streams that enter a node by the reference flows: flow, reference flow, temperature, reference temperature (R93,
R95). Water of a plant or a store enters at the node's own temperature (log entry 52). -/
def nodeStreams (i : SolveIn) (p : Plan) (n sc k : Nat) : List (Rat × (Rat × (Rat × Rat))) :=
  let m := SolveIn_model i
  let ref := fun (e q : Nat) => match findElem m e with | some x => refVal i p x q sc k | none => 0
  let f := fun (e q : Nat) => pval i p e q sc k
  (m.elems.map (fun r =>
    let e := recId r
    let m0 := ref e 0
    match recType r with
    | 2 => if m0 != 0 && flowDst r m0 == n then
        [(if 0 ≤ m0 then f e 0 else -(f e 0), (|m0|, (f e 1, ref e 1)))] else []
    | 3 => (if rU32 r 24 = n then [(f e 1, (ref e 1, (f e 2, ref e 2)))] else []) ++
        (if rU32 r 32 = n then [(f e 5, (ref e 5, (f e 6, ref e 6)))] else [])
    | 6 => if m0 != 0 && flowDst r m0 == n then
        [(if 0 ≤ m0 then f e 0 else -(f e 0), (|m0|, (f (flowSrc r m0) 0, ref (flowSrc r m0) 0)))] else []
    | 9 => if rU8 r 16 = 1 && rU32 r 20 = n && 0 < m0 then [(f e 0, (m0, (f e 2, ref e 2)))] else []
    | _ => [])).flatten

/-- Residual of a node's mixing, its products of flow and temperature linearised (R93, R95). -/
def mixRes (i : SolveIn) (p : Plan) (r : List Byte) (sc k : Nat) : List (Nat × Rat) :=
  let n := recId r
  let l := nodeStreams i p n sc k
  let t := pval i p n 0 sc k
  let t0 := refVal i p r 0 sc k
  if l.isEmpty then []
  else [(1, eqRes ((l.map (fun x => [x.2.1 * x.2.2.1, -(x.2.1 * t), (x.1 - x.2.1) * (x.2.2.2 - t0)])).flatten))]

/-- Residuals of a station's delivered power against its flow and temperatures, linearised (R93, R95; log entry 52). -/
def deliveryRes (i : SolveIn) (p : Plan) (r : List Byte) (sc k : Nat) : List (Nat × Rat) :=
  let m := SolveIn_model i
  let f := fun (e q : Nat) => pval i p e q sc k
  let ref := fun (e q : Nat) => match findElem m e with | some x => refVal i p x q sc k | none => 0
  (servicesOf r).map (fun x =>
    let n := rU32 r (if x.1 then 28 else 20)
    let excess := fun (ts tr : Rat) => if x.1 then tr - ts else ts - tr
    let m0 := ref (recId r) (x.2 + 1)
    (5, eqRes [f (recId r) x.2, -(cpWater * m0 * excess (f n 0) (f (recId r) (x.2 + 2))),
      -(cpWater * (f (recId r) (x.2 + 1) - m0) * excess (ref n 0) (ref (recId r) (x.2 + 2)))]))

/-! ### Residuals of the families (R93, R113) -/

/-- Residuals of an element in one scenario and step; an element out of service or FIXED has none of its own but the
balance of a store out of service. Families 4 and 14 have none: their slack is the excess itself (log entry 52). -/
def elemRes (i : SolveIn) (p : Plan) (parcels : Tab (List Parcel)) (r : List Byte) (sc k : Nat) : List (Nat × Rat) :=
  if recType r = 1 then
    (if openFlow i p (recId r) sc k then []
     else [(0, eqRes (flowsInto (SolveIn_model i) (planFlow i p sc k) (recId r)))]) ++
    (if passive i r then [] else mixRes i p r sc k)
  else if recType r = 5 && (iOos i (recId r) || !recFixed r) then storeRes i p r sc k
  else if passive i r then []
  else match recType r with
    | 2 => pipeRes i p parcels r sc k
    | 3 => stationRes i p r sc k ++ deliveryRes i p r sc k
    | 4 => plantRes i p r sc k
    | 6 => pumpRes i p r sc k
    | 7 => feederRes i p r sc k
    | 8 => gridRes i p r sc k
    | 9 => coupRes i p r sc k
    | _ => []

/-- Scenario-weighted value of a variable in a step (R82). -/
def weighted (p : Plan) (v k : Nat) : Rat :=
  sumOf (List.range p.scenarios) (fun sc => (p.weights.getD sc F32.zero).rat * (trajAt p v sc k).rat)

/-- Residuals of family 13 in one scenario and step: every variable of a shared step against its weighted mean (R84). -/
def sharedRes (i : SolveIn) (p : Plan) (sc k : Nat) : List (Rat × Nat) :=
  if k < p.nonant then
    (modelVarList (SolveIn_model i)).mapIdx (fun v x => (eqRes [(trajAt p v sc k).rat, -(weighted p v k)], x.1))
  else []

/-- The largest of a list of residuals, with its element. -/
def worstOf (l : List (Rat × Nat)) : Rat × Nat := l.foldl (fun a x => if a.1 < x.1 then x else a) (0, refNone)

/-- Every residual of a family over scenarios and steps, with its element. -/
def famAll (i : SolveIn) (p : Plan) (fam : Nat) : List (Rat × Nat) :=
  let parcels := projParcels i p
  ((List.range p.scenarios).map (fun sc => ((List.range p.steps).map (fun k =>
    if fam = 13 then sharedRes i p sc k
    else ((SolveIn_model i).elems.map (fun r =>
      ((elemRes i p parcels r sc k).filter (fun x => x.1 == fam)).map (fun x => (x.2, recId r)))).flatten)).flatten)).flatten

/-- FAMILY_RES and FAMILY_WORST of an iterate (R93, R111, R113). -/
def familyRes (i : SolveIn) (p : Plan) : List (Rat × Nat) :=
  (List.range 16).map (fun fam => if fam = 15 then (0, refNone) else worstOf (famAll i p fam))

/-! ### Flags (R111) -/

/-- The soft-limit slacks of a plan, with their elements: families 4, 5, 8, 10 and 12 (R93, R201). -/
def softSlacks (i : SolveIn) (p : Plan) : List (Rat × Nat) :=
  (((List.range p.scenarios).map (fun sc => ((List.range p.steps).map (fun k =>
    (SolveIn_model i).elems.map (fun r =>
      (match recType r with
       | 1 => nodeSlack i p r sc k
       | 3 => supplySlack i p r sc k + sumOf (servicesOf r) (fun x => pval i p (recId r) (x.2 + 3) sc k)
       | 5 => storeShort i p r sc k
       | 7 => pval i p (recId r) 1 sc k
       | 9 => sumOf (List.range (coupQtys r)) (pinSlack i p r sc k)
       | _ => 0, recId r)))).flatten)).flatten)

/-- The flexibility band was relaxed (R130). -/
def flexRelaxed (i : SolveIn) (p : Plan) : Bool :=
  (List.range p.scenarios).any (fun sc => (List.range p.steps).any (fun k =>
    i.flex.any (fun f => decide (0 < flexSlack i p f.2 sc k))))

/-- R96 treats a segment as a mixing volume somewhere. -/
def delayStagnant (i : SolveIn) (p : Plan) : Bool :=
  (elemsOf (SolveIn_model i) 2).any (fun r => !passive i r &&
    (List.range p.scenarios).any (fun sc => (List.range p.steps).any (stagnant i p r sc)))

/-- The flags that the inputs of a solve alone decide (R111). -/
def inputFlags (i : SolveIn) (p : Plan) (cold : Bool) : U32 :=
  BitVec.ofNat 32 (b2n (!(heldSeries i p).isEmpty) + 4 * b2n cold + 128 * b2n (unscaled i) + 512 * b2n (couplingHeld i))

/-- FLAGS of the quality record (R111). -/
def qualityFlags (i : SolveIn) (p : Plan) (cold rounded failed : Bool) : U32 :=
  inputFlags i p cold ||| BitVec.ofNat 32 (2 * b2n (exportCapped i p) +
    8 * b2n ((softSlacks i p).any (fun x => decide (0 < x.1))) + 16 * b2n rounded + 32 * b2n failed +
    64 * b2n (delayStagnant i p) + 256 * b2n (flexRelaxed i p))

/-- The element with the largest soft-limit slack (R111). -/
def relaxedElem (i : SolveIn) (p : Plan) : Nat :=
  ((softSlacks i p).foldl (fun a x => if a.1 < x.1 then x else a) (0, refNone)).2

/-! ### FIXED elements (R46) -/

/-- The value at which a FIXED element's quantity is held, taken at the horizon start: a segment's outlet temperature as
R164 projects it, every other estimate as it stands (log entry 52). -/
def fixedVal (i : SolveIn) (parcels : Tab (List Parcel)) (r : List Byte) (q : Nat) : F32 :=
  let meas := fun (qq : Nat) =>
    measValue r qq (tgetD i.pts (measPoint i.pars r qq) { status := 0x20#16 }).value
  let est := fun (qq : Nat) => match varPos (SolveIn_model i) (recId r) qq with
    | some v => (tgetD i.ests v {}).value
    | none => F32.zero
  let base := fun (qq : Nat) => if (bindableQtys r).contains qq then meas qq else est qq
  match recType r with
  | 2 => if q = 0 then base 0
      else F32.ofRat (match (if F32.lt (est 0) F32.zero then tgetD parcels (recId r) [] else
          (tgetD parcels (recId r) []).reverse).head? with | some x => x.temp | none => (est 1).rat)
  | 3 => if q % 4 = 3 then F32.zero else base q
  | 4 => if q = commitQty r then (if F32.lt F32.zero (base 1) then F32.one else F32.zero)
      else if commitQty r < q then F32.zero else base q
  | 7 => if q = 1 then F32.zero else if q = 2 then F32.ofNat 100 else base q
  | 9 => base (q / 2 * 2)
  | _ => base q

/-- Values of every FIXED quantity by variable position (R46, R116). -/
def fixedTab (i : SolveIn) (p : Plan) : Tab F32 :=
  let parcels := projParcels i p
  (((SolveIn_model i).elems.map (fun r => (recQtys r).map (fun q => (r, q)))).flatten).mapIdx
    (fun v x => (v, x)) |>.filterMap (fun x => if recFixed x.2.1 then some (x.1, fixedVal i parcels x.2.1 x.2.2) else none)

/-! ### What a published plan must be (R84, R77, R46, R106, R108, R110, R112) -/

/-- Price entries of a plan (R110). -/
def priceCount (m : NetModel) (steps : Nat) : Nat :=
  ((elemsOf m 1).length + 3 * (elemsOf m 8).length + ((elemsOf m 9).map coupQtys).sum) * steps

/-- Every value of a variable over scenarios and steps. -/
def allVals (p : Plan) (v : Nat) (f : F32 → Bool) : Bool :=
  (List.range p.scenarios).all (fun sc => (List.range p.steps).all (fun k => f (trajAt p v sc k)))

/-- Variables of elements out of service are 0 but for a store's energy, and FIXED ones keep their value. -/
def heldOk (i : SolveIn) (p : Plan) : Bool :=
  (((SolveIn_model i).elems.map (fun r => (recQtys r).map (fun q => (r, q)))).flatten).mapIdx (fun v x => (v, x)) |>.all
    (fun x =>
      if iOos i (recId x.2.1) then (recType x.2.1 == 5 && x.2.2 == 0) || allVals p x.1 (fun z => z.rat == 0)
      else if recFixed x.2.1 then allVals p x.1 (fun z => some z == tget p.fixedVals x.1)
      else true)

/-- The shared steps are identical in every scenario (R84). -/
def sharedOk (p : Plan) : Bool :=
  (List.range p.varCount).all (fun v => (List.range p.scenarios).all (fun sc =>
    (List.range (min p.nonant p.steps)).all (fun k => trajAt p v sc k == trajAt p v 0 k)))

/-- The shared steps of a published plan: the weighted mean over the scenarios, in every scenario (R84). -/
def sharedTraj (p : Plan) : List F32 :=
  ((List.range p.varCount).map (fun v => ((List.range p.scenarios).map (fun sc => (List.range p.steps).map (fun k =>
    if k < p.nonant then F32.ofRat (weighted p v k) else trajAt p v sc k))).flatten)).flatten

/-- Commitment levels of the shared steps follow the rounding of the relaxed ones at ROUND_THRESHOLD, plant by plant and
step by step (R106). -/
def roundedOk (i : SolveIn) (p : Plan) (relaxed : List F32) : Bool :=
  let n := min p.nonant p.steps
  (elemsOf (SolveIn_model i) 4).zipIdx.all (fun x => passive i x.1 ||
    (match varPos (SolveIn_model i) (recId x.1) (commitQty x.1) with
     | some v => (List.range p.scenarios).all (fun sc => (List.range n).all (fun k =>
        (trajAt p v sc k).rat ==
          (if ipq i P.ROUND_THRESHOLD 0 ≤ (relaxed.getD (x.2 * n + k) F32.zero).rat then 1 else 0)))
     | none => true))

/-- Units in which R110 prices the entries of the price section, in its order. -/
def priceUnits (i : SolveIn) (p : Plan) : List Rat :=
  let m := SolveIn_model i
  let mwh := fun (n k : Nat) => List.replicate n (stepHours p k / 1000)
  ((elemsOf m 1).map (fun _ => ((List.range p.steps).map (mwh 1)).flatten)).flatten ++
  ((elemsOf m 8).map (fun _ => ((List.range p.steps).map (mwh 3)).flatten)).flatten ++
  ((elemsOf m 9).map (fun r => ((List.range p.steps).map (fun k =>
    (List.range (coupQtys r)).map (fun qi => coupAmount p r (coupIn i r) qi k))).flatten)).flatten

/-- The price section: scenario-weighted duals per unit (R105, R110). -/
def pricesOf (i : SolveIn) (p : Plan) (duals : List Rat) : List F32 :=
  (priceUnits i p).mapIdx (fun j u =>
    F32.ofRat (sumOf (List.range p.scenarios) (fun sc => weightOf i sc * duals.getD (j * p.scenarios + sc) 0) / u))

/-- The shape of a final iterate: one value per variable, step and scenario, and one dual per price entry and scenario
(R108, R110). -/
def shapeOk (i : SolveIn) (p : Plan) (duals : List Rat) : Bool :=
  p.traj.length == p.varCount * p.steps * p.scenarios &&
  duals.length == priceCount (SolveIn_model i) p.steps * p.scenarios

/-- DUAL_RES (R113). -/
def dualRes (r : SolveResult) : Rat := r.copyChange * r.splitWeight / max 1 r.multNorm

/-- The STALLED test: neither residual fell by 10 % over 200 iterations (R112). -/
def stalledTest (primal dual : Rat) (r : SolveResult) : Bool :=
  decide (200 ≤ r.iterations) && decide (9 * r.primalBefore < 10 * primal) && decide (9 * r.dualBefore < 10 * dual)

/-- The next iteration no longer fits before the 3 ms that end the budget (R125). -/
def timeBoxed (budgetMs : Nat) (r : SolveResult) : Bool := decide (budgetMs * 1000 < r.endUs + r.iterUs + 3000)

/-- The STATUS of a plan is the one that R106, R112 and R125 give its iterate: CONVERGED exactly when both tolerances are
met and nothing failed to round; else what ended the iterating. -/
def solveStatusOk (i : SolveIn) (z : Quality) (iterMax budgetMs : Nat) (primal : Rat) (r : SolveResult) : Bool :=
  let tol := decide (primal ≤ ipq i P.EPS_PRIMAL 0) && decide (dualRes r ≤ ipq i P.EPS_DUAL 0)
  let on := ipn i P.COMMIT_ROUNDING 0 == 1
  decide (z.iterations ≤ iterMax) &&
  (if r.roundFailed then on && !r.rounded && tol else r.rounded == (on && tol)) &&
  (if tol && !r.roundFailed then z.status == 1
   else (z.status == 2 && timeBoxed budgetMs r) || (z.status == 3 && z.iterations == iterMax) ||
     (z.status == 4 && (r.roundFailed || stalledTest primal (dualRes r) r)))

end Sys2Proof.Machine
end

