-- ==== Sys2Proof/Machine/Track.lean ====
section
/-! DEFINITION. The Percolator's updates and calibration windows (chapter "Front tracking, estimation and live
calibration"): the parcels that an update moves, the estimate records that follow, the evidence that a window gathers. -/

namespace Sys2Proof.Machine

/-! ### The water of an update (R155 to R158, R169 to R171) -/

/-- SIGMA of a measured node temperature: of its binding, else NODE_T_SIGMA (R155). -/
def nodeSigma (vals : Tab PVal) (e : Nat) : Rat :=
  match bindEntry vals e 0 with
  | some x => qof x.2
  | none => qof ((tgetD vals (pkey P.NODE_T_SIGMA 0) (pdefault P.NODE_T_SIGMA 0)).headD 0)

/-- The measurement of a quantity, where the update uses it (R156). -/
def updUsed (u : PercUpd) (r : List Byte) (q : Nat) : Option Point :=
  let n := measPoint u.binds r q
  let p := tgetD u.pts n { status := 0x20#16 }
  if n != refNone && passes p u.epoch u.periodMs then some p else none

/-- Measured node temperatures of an update. -/
def updMeasured (u : PercUpd) (m : NetModel) : Tab Parcel :=
  (elemsOf m 1).foldl (fun t r => match updUsed u r 0 with
    | some p => tset t (recId r) { temp := p.value.rat, sd := nodeSigma u.binds (recId r), lastMeas := p.epoch }
    | none => t) []

/-- A parameter of PERC_TRACK as an update read it. -/
def updPar (u : PercUpd) (id : Nat) : Nat := (tgetD u.binds (pkey id 0) (pdefault id 0)).headD 0

/-- Node temperatures of the newest published set, for nodes that no water enters. -/
def lastNodes (set : Option EstSet) (m : NetModel) : Tab Parcel :=
  match set with
  | none => []
  | some z =>
    if z.modelKey = m.key && z.modelSerial = m.serial then
      (elemsOf m 1).foldl (fun t r => match varPos m (recId r) 0 with
        | some v =>
          let x := tgetD z.recs v {}
          tset t (recId r) { temp := x.value.rat, sd := x.bound.rat / 3, initial := x.status.getLsbD 0, lastMeas := x.lastMeas }
        | none => t) []
    else []

/-- The water of an update over the time since the parcels' epoch, its segments without parcels initialised; the first
update places water and moves none (R158, R169, R170; log entry 50). -/
def State.percWater (s : State) (u : PercUpd) (m : NetModel) (res : PercResult) : Water :=
  let hours : Rat := if u.init then 0 else ((u.epoch - s.perc.parcelEpoch : Nat) : Rat) / 28800000
  ({ model := m
     vals := res.vals.foldl (fun a x => tset a x.1 x.2) []
     dt := 3600 * hours
     parcels := if u.init then [] else s.perc.parcels
     cal := u.cal
     ground := (elemsOf m 2).foldl (fun g r => tset g (recId r) (groundOf u.pts r)) []
     meas := updMeasured u m
     known := lastNodes s.perc.set m
     grow := qof (updPar u P.PROCESS_NOISE_K) / 3 * hours
     share := updPar u P.PARCELS_PER_SEG_MAX
     full := decide (1048576 < (s.perc.parcels.map (fun x => x.2.length)).sum + (elemsOf m 2).length)
     thr := (F32.max (fof (updPar u P.PARCEL_MERGE_K)) s.perc.mergeEff).rat } : Water).initAll u.nodeTemps

/-- The flows of an update are ones that R160 admits: mass balance exact at every node, no negative flow where DIRECTION
is 1, and the pressures of every segment's ends apart by its drop, linearised about the flows of the update before, so
that the drops around a loop sum to zero. How near the sweeps come to the weighted least squares is a free value (log
entry 50). -/
def State.percResultOk (s : State) (u : PercUpd) (m : NetModel) (res : PercResult) : Bool :=
  let c := s.percWater u m res
  let f := fun (key : Nat) => (tgetD c.vals key (0, 0)).1
  (elemsOf m 1).all (fun r => (flowsInto m f (recId r)).sum == 0) &&
  (elemsOf m 2).all (fun r =>
    (rU8 r 52 != 1 || decide (0 ≤ c.flow r)) &&
    c.val (rU32 r 16) 1 - c.val (rU32 r 20) 1 ==
      headGain m r + dropLin r (tgetD s.perc.flows (slotKey (recId r) 0) 0) (c.flow r)) &&
  res.vals.all (fun x => decide (0 ≤ x.2.2))

/-! ### Estimate records (R161 to R166) -/

/-- What an update computes of a quantity: value, standard deviation, both before its own measurement, newest measurement
through upstream water, and whether it derives from initial water. -/
structure Calc where
  /-- value. -/
  val : Rat := 0
  /-- standard deviation. -/
  sd : Rat := 0
  /-- value before the blend. -/
  prior : Rat := 0
  /-- standard deviation before the blend. -/
  priorSd : Rat := 0
  /-- newest measurement. -/
  lastMeas : Nat := 0
  /-- derives from initial water alone. -/
  initial : Bool := false
  deriving DecidableEq, Repr

/-- A quantity that the least-squares solution gives. -/
def freeCalc (c : Water) (res : PercResult) (e q : Nat) : Calc :=
  let p := ((res.priors.find? (fun x => x.1 == slotKey e q)).map (fun x => x.2)).getD (c.val e q, c.sdOf e q)
  { val := c.val e q, sd := c.sdOf e q, prior := p.1, priorSd := p.2 }

/-- A value computed from others, with the standard deviation of its slot. -/
def derived (c : Water) (res : PercResult) (e q : Nat) (v : Rat) (from1 : List Parcel) : Calc :=
  { freeCalc c res e q with
    val := v, prior := v
    lastMeas := from1.foldl (fun a p => max a p.lastMeas) 0
    initial := !from1.isEmpty && from1.all (fun p => p.initial) }

/-- Energy of a store after an update by the balance of R101, from the set before (R163). -/
def storeBalance (set : Option EstSet) (m : NetModel) (cal : Tab CalQ) (r : List Byte) (u : PercUpd) (p : Rat) : Rat :=
  match set, varPos m (recId r) 0 with
  | some z, some v =>
    if z.modelKey = m.key && z.modelSerial = m.serial then
      let dt : Rat := ((u.epoch - z.epoch : Nat) : Rat) / 28800000
      (tgetD z.recs v {}).value.rat * (1 - (calOf cal r 2).inForce.rat / 100 * dt) - p * dt
    else Config.freeTemp (recId r)
  | _, _ => Config.freeTemp (recId r)

/-- What an update computes of each quantity (R158, R161, R163). -/
def State.calcOf (s : State) (u : PercUpd) (m : NetModel) (c : Water) (res : PercResult) (r : List Byte) (q : Nat) : Calc :=
  let e := recId r
  let node := fun (n : Nat) => (c.nodeMix n).2
  let free := freeCalc c res e q
  let ts := node (rU32 r 20)
  let tr := node (rU32 r 24)
  let give := cpWater * c.val e 5 * overReturn r ts.temp tr.temp
  match recType r with
  | 1 =>
    if q = 0 then
      let w := c.nodeMix e
      { val := w.2.temp, sd := w.2.sd, prior := w.1.temp, priorSd := w.1.sd, lastMeas := w.2.lastMeas
        initial := w.1.initial }
    else free
  | 2 =>
    if q = 0 then free
    else
      let l := c.segAfter r
      match (if 0 ≤ c.flow r then l.reverse else l).head? with
      | some p => { val := p.temp, sd := p.sd, prior := p.temp, priorSd := p.sd, lastMeas := p.lastMeas, initial := p.initial }
      | none => free
  | 3 =>
    if q = 0 then derived c res e 0 (cpWater * c.val e 1 * (ts.temp - c.val e 2)) [ts]
    else if q = 4 then
      derived c res e 4 (cpWater * c.val e 5 * (c.val e 6 - (node (rU32 r 28)).temp)) [node (rU32 r 28)]
    else free
  | 4 => if q = 1 then derived c res e 1 give [ts, tr] else free
  | 5 =>
    let p := if rU8 r 16 = 3 then c.val e 2 - c.val e 1 else give
    let energy := storeBalance s.perc.set m u.cal r u p
    let now := if (updUsed u r 0).isSome then c.val e 0 else energy
    if q = 0 then { free with val := now, prior := energy }
    else if rU8 r 16 = 3 && q != 3 then free
    else if q = 1 then derived c res e 1 (max 0 (-p)) [ts, tr]
    else if q = 2 then derived c res e 2 (max 0 p) [ts, tr]
    else if rU8 r 16 = 3 then derived c res e 3 ts.temp [ts]
    else derived c res e 3 (tr.temp + now / (11628 / 10000 * rQ r 28)) [tr]
  | 6 =>
    if q = 1 then { free with val := c.val (rU32 r 20) 1 - c.val (rU32 r 16) 1 } else free
  | 9 =>
    if rU8 r 16 = 1 && q = 2 then
      (if 0 < c.val e 0 then free else derived c res e 2 (node (rU32 r 20)).temp [node (rU32 r 20)])
    else free
  | _ => free

/-- The record of one quantity after an update (R156, R161 to R163, R166). -/
def State.estRecord (s : State) (u : PercUpd) (m : NetModel) (c : Water) (res : PercResult) (r : List Byte) (q : Nat) :
    EstRec :=
  let has := measPoint u.binds r q != refNone
  let own := updUsed u r q
  let cls := srcClass u.binds r q
  let src := if cls = 0 then 0 else if cls = 3 then (if own.isSome then 3 else 0) else if own.isSome then 1 else 2
  let x := s.calcOf u m c res r q
  let bound := F32.ofRat (3 * x.sd)
  let val := match own with
    | some p => if cls = 3 || recType r = 8 || recType r = 7 then measValue r q p.value else F32.ofRat x.val
    | none => F32.ofRat x.val
  let wide := match wideLevel r q with | some w => decide (w < bound.rat) | none => false
  let st := stIf x.initial 0x1#16 ||| stIf (has && own.isNone) 0x2#16 |||
    stIf (recType r = 2 && decide (|c.flow r| < rQ r 48 / 100)) 0x4#16 ||| stIf (wide && src != 0) 0x8#16 |||
    stIf (s.elemOos (recId r)) 0x10#16
  if src = 0 then { elem := recId r, qty := q, source := 0, status := st &&& 0x12#16 }
  else
    { elem := recId r, qty := q, source := src, status := st, value := val, bound := bound
      prior := if own.isSome then F32.ofRat x.prior else val
      priorBound := if own.isSome then F32.ofRat (3 * x.priorSd) else bound
      lastMeas := match own with | some p => max x.lastMeas p.epoch | none => x.lastMeas }

/-- The records of a model, by variable position. -/
def State.estRecords (s : State) (u : PercUpd) (m : NetModel) (c : Water) (res : PercResult) : Tab EstRec :=
  ((m.elems.map (fun r => (recQtys r).map (fun q => (r, q)))).flatten).mapIdx
    (fun v x => (v, s.estRecord u m c res x.1 x.2))

/-- Measurements excluded from an update; the two records of a grid connection share one (R156). -/
def excludedCount (t : Tab EstRec) : Nat :=
  (t.filter (fun x => x.2.status.getLsbD 1 && !(idType x.2.elem == 8 && x.2.qty == 1))).length

/-- Quantities with SOURCE 2 (R163): MODEL_UNMEASURED. -/
def unmeasuredCount (t : Tab EstRec) : Nat := (t.filter (fun x => x.2.source == 2)).length

/-- Parcels in use. -/
def parcelCount (t : Tab (List Parcel)) : Nat := (t.map (fun x => x.2.length)).sum

/-- An initial parcel remains in a segment that is not STAGNANT (R169). -/
def initialLeft (m : NetModel) (recs : Tab EstRec) (t : Tab (List Parcel)) : Bool :=
  t.any (fun x => x.2.any (fun c => c.placed) &&
    (match varPos m x.1 0 with
     | some v => match tget recs v with | some e => !e.status.getLsbD 2 | none => true
     | none => false))

/-- The effective merge threshold of the next update (R159). -/
def mergeNext (share : Nat) (k eff : F32) (t : Tab (List Parcel)) : F32 :=
  let n := parcelCount t
  let full := decide (95 * 1048576 < 100 * n) || t.any (fun x => decide (95 * share < 100 * x.2.length))
  let under := decide (100 * n < 90 * 1048576) && t.all (fun x => decide (100 * x.2.length < 90 * share))
  if full then F32.ofRat (2 * eff.rat) else if under then F32.max k (F32.ofRat (eff.rat / 2)) else F32.max k eff

/-! ### Calibration paths (R173) -/

/-- The tick lies on the grid of a number of minutes, aligned to UTC (R80, R172). -/
def State.onGrid (s : State) (minutes : Nat) : Bool :=
  (((s.epoch : Int) - s.utcOff * 8000) % ((minutes * 480000 : Nat) : Int)) == 0

/-- A calibration parameter in force in the present window (R186). -/
def State.calPar (s : State) (id : Nat) : Nat :=
  match tget s.perc.calPars (pkey id 0) with
  | some v => v.headD 0
  | none => s.pn id 0

/-- No unmeasured inflow enters a node but from one segment: every other flow into it has a measured mass flow (R173; log
entry 50). -/
def Water.clearJoin (c : Water) (vals : Tab PVal) (n seg : Nat) : Bool :=
  c.model.elems.all (fun r =>
    let e := recId r
    let bound := fun (q : Nat) => (bindEntry vals e q).isSome
    match recType r with
    | 2 => e == seg || c.flow r == 0 || flowDst r (c.flow r) != n || bound 0
    | 3 => (rU32 r 24 != n || c.val e 1 == 0 || bound 1) && (rU32 r 32 != n || c.val e 5 == 0 || bound 5)
    | 4 => rU32 r 20 != n || decide (c.val e 5 ≤ 0)
    | 5 => (rU32 r 20 != n || decide (c.val e 5 ≤ 0)) && (rU32 r 24 != n || decide (0 ≤ c.val e 5))
    | 6 => c.flow r == 0 || flowDst r (c.flow r) != n || bound 0
    | 9 => rU8 r 16 != 1 || rU32 r 20 != n || decide (c.val e 0 ≤ 0) || bound 0
    | _ => true)

/-- The point that measures a node's temperature, none where it has none. -/
def nodePoint (vals : Tab PVal) (m : NetModel) (n : Nat) : Nat :=
  match findElem m n with | some r => measPoint vals r 0 | none => refNone

/-- Downstream from a node that a segment enters to the next measured node: that node and the segments between (R173). -/
def Water.pathDown (c : Water) (vals : Tab PVal) : Nat → Nat → Nat → Option (Nat × List Nat)
  | 0, _, _ => none
  | k + 1, seg, n =>
    if nodePoint vals c.model n != refNone then some (n, [])
    else if !c.clearJoin vals n seg then none
    else ((pipesAt c.model n).filter (fun x => c.flow x != 0 && flowSrc x (c.flow x) == n)).findSome? (fun x =>
      (c.pathDown vals k (recId x) (flowDst x (c.flow x))).map (fun y => (y.1, recId x :: y.2)))

/-- Upstream from a node that a segment leaves to the next measured node. -/
def Water.pathUp (c : Water) (vals : Tab PVal) : Nat → Nat → Option (Nat × List Nat)
  | 0, _ => none
  | k + 1, n =>
    if nodePoint vals c.model n != refNone then some (n, [])
    else ((pipesAt c.model n).filter (fun x => c.flow x != 0 && flowDst x (c.flow x) == n)).findSome? (fun x =>
      if c.clearJoin vals n (recId x) then
        (c.pathUp vals k (flowSrc x (c.flow x))).map (fun y => (y.1, y.2 ++ [recId x]))
      else none)

/-- The calibration path of a segment: measured start, measured end, its segments in flow order (R173). -/
def Water.path (c : Water) (vals : Tab PVal) (r : List Byte) : Option (Nat × (Nat × List Nat)) :=
  let n := c.model.elems.length
  if c.flow r = 0 then none
  else match c.pathUp vals n (flowSrc r (c.flow r)), c.pathDown vals n (recId r) (flowDst r (c.flow r)) with
    | some a, some b => some (a.1, (b.1, a.2 ++ [recId r] ++ b.2))
    | _, _ => none

/-! ### Evidence (R174, R175) -/

/-- The measured temperature of a node in an update. -/
def Water.measT (c : Water) (n : Nat) : Option Rat := (tget c.meas n).map (fun p => p.temp)

/-- Implied U_LOSS of a segment from the parcels that reach the end of its path: its value in force times the ratio of
the measured to the predicted loss (R173, R174; log entry 50). -/
def Water.lossObs (c : Water) (r : List Byte) (stop : Nat) (segs : List Nat) : List (List Rat) :=
  match (segs.getLast?).bind (findElem c.model), c.measT stop with
  | some last, some t =>
    let tg := c.groundT r
    (c.outflow last {}).filterMap (fun p => match p.tin with
      | some x =>
        let meas := (x - tg) / (t - tg)
        let pred := (x - tg) / (p.temp - tg)
        if 20 ≤ |x - tg| && 0 < meas && 0 < pred && Config.lnQ pred != 0 then
          some [(calOf c.cal r 0).inForce.rat * Config.lnQ meas / Config.lnQ pred]
        else none
      | none => none)
  | _, _ => []

/-- A front has passed the end of its path: half of its change is seen there (R174; log entry 50). -/
def arrived (delta a b : Rat) : Bool := if 0 < delta then decide (a + delta / 2 ≤ b) else decide (b ≤ a + delta / 2)

/-- A front after an update: predicted and observed arrival (R174). -/
def Water.frontStep (c : Water) (u : Nat) (f : Front) : Front :=
  let pred := (c.nodeMix f.stop).1.temp
  { f with
    predAt := f.predAt.or (if arrived f.delta f.predFrom pred then some u else none)
    obsAt := match c.measT f.stop with
      | some t => f.obsAt.or (if arrived f.delta f.obsFrom t then some u else none)
      | none => f.obsAt }

/-- Implied delay factor of a segment from a front that has arrived in prediction and in observation (R174). -/
def delayObs (cal : Tab CalQ) (r : List Byte) (f : Front) : List (List Rat) :=
  match f.predAt, f.obsAt with
  | some a, some b =>
    if f.segs.contains (recId r) && f.epoch < a then
      [[delayFactor cal r * ((b - f.epoch : Nat) : Rat) / ((a - f.epoch : Nat) : Rat)]]
    else []
  | _, _ => []

/-- A temperature change of at least 0.5 K at the measured start of a path starts a front (R174). -/
def State.newFront (s : State) (c : Water) (u : Nat) (path : Nat × (Nat × List Nat)) : List Front :=
  let before := tget (lastNodes s.perc.set c.model) path.1
  let now := (c.nodeMix path.1).2.temp
  match before with
  | some b =>
    if 1 / 2 ≤ |now - b.temp| then
      [{ segs := path.2.2, stop := path.2.1, epoch := u, delta := now - b.temp
         predFrom := (c.nodeMix path.2.1).1.temp, obsFrom := (c.measT path.2.1).getD 0 }]
    else []
  | none => []

/-- Demand profile times demand scale at an epoch, and the weather factor of DEMAND_MODEL 1 (R97). -/
def updDemand (u : PercUpd) (m : NetModel) (r : List Byte) (cold : Bool) : Rat × Rat :=
  let i : SolveIn := { model := some m, pars := u.pars, series := u.series, shift := u.shift }
  let p : Plan := { hstart := u.epoch, step0 := 1, steps := 1, scenarios := 1 }
  let sc := ipn i P.REF_SCENARIO 0
  (profileAt (pairsQ m (rU32 r 68)) (hourOfWeek u.shift (2 * u.epoch)) *
    (serStep i p (ipn i P.DEMAND_SCALE_SERIES 0) sc 0).getD 1, (weatherFactor i p cold sc 0).getD 1)

/-- What an update adds to a window for a quantity: points used, excluded, low flow, initial, observations, mark. -/
def State.gather (s : State) (u : PercUpd) (c : Water) (recs : Tab EstRec) (r : List Byte) (q : Nat) (w : CalWin) : CalWin :=
  let m := c.model
  let marked := fun (n : Nat) => match varPos m n 0 with | some v => (tgetD recs v {}).status.getLsbD 0 | none => false
  if q < 2 then
    match c.path u.binds r with
    | none => w
    | some p =>
      let low := p.2.2.any (fun x => match findElem m x with
        | some y => decide (|c.flow y| < (s.calPar P.CAL_MIN_FLOW_PCT : Rat) / 100 * rQ y 48)
        | none => false)
      { w with
        updates := w.updates + 1
        excluded := w.excluded + b2n ((c.measT p.1).isNone || (c.measT p.2.1).isNone)
        lowFlow := w.lowFlow || low
        initial := w.initial || marked p.1 || marked p.2.1
        points := (nodePoint u.binds m p.1 :: nodePoint u.binds m p.2.1 :: w.points).dedup
        obs := w.obs ++ (if q = 0 then c.lossObs r p.2.1 p.2.2
          else ((s.perc.fronts.map (c.frontStep u.epoch)).map (delayObs u.cal r)).flatten) }
  else
    let qty := if q = 5 || q = 6 then 4 else 0
    let own := measPoint u.binds r qty
    if own = refNone then w
    else
      let w1 := { w with
        updates := w.updates + 1
        excluded := w.excluded + b2n (updUsed u r qty).isNone
        initial := w.initial || (match varPos m (recId r) qty with | some v => (tgetD recs v {}).status.getLsbD 0 | none => false)
        points := (own :: w.points).dedup }
      match updUsed u r qty with
      | none => { w1 with mark := none }
      | some pt =>
        let y := pt.value.rat
        if q = 2 then
          let at' := fun (k : Nat) => (match varPos m (recId r) k with | some v => (tgetD recs v {}).value.rat | none => 0 : Rat)
          if at' 1 != 0 || at' 2 != 0 then { w1 with mark := none }
          else
            let new := match w.mark with
              | some b =>
                let dt : Rat := ((u.epoch - b.2 : Nat) : Rat) / 28800000
                if 0 < b.1 && 0 < dt then [[100 * (1 - y / b.1) / dt, dt]] else []
              | none => []
            { w1 with obs := w1.obs ++ new, mark := some (y, u.epoch) }
        else
          let d := updDemand u m r (q == 5 || q == 6)
          { w1 with obs := w1.obs ++ [[d.1, d.2, y]] }

/-- The fit of A0 and A1; A1 alone where the weather ratio spans less than 0.1 (R174). -/
def fitDemand (a0 : Rat) (obs : List (List Rat)) : Option Rat × Option Rat :=
  let at' := fun (o : List Rat) (k : Nat) => o.getD k 0
  let f := obs.map (fun o => at' o 1)
  let span := f.foldl max (f.headD 0) - f.foldl min (f.headD 0)
  let sum := fun (g : List Rat → Rat) => sumOf obs g
  let pp := sum (fun o => at' o 0 ^ 2)
  let pf := sum (fun o => at' o 0 ^ 2 * at' o 1)
  let ff := sum (fun o => (at' o 0 * at' o 1) ^ 2)
  let yp := sum (fun o => at' o 2 * at' o 0)
  let yf := sum (fun o => at' o 2 * at' o 0 * at' o 1)
  let det := pp * ff - pf ^ 2
  if span < 1 / 10 then (none, if ff = 0 then none else some ((yf - a0 * pf) / ff))
  else if det = 0 then (none, none)
  else (some ((yp * ff - yf * pf) / det), some ((yf * pp - yp * pf) / det))

/-- Mean of a list of numbers; none of none. -/
def meanObs (l : List Rat) : Option Rat := if l.isEmpty then none else some (l.sum / (l.length : Rat))

/-- The implied value of a window for a quantity, none without evidence (R174). -/
def State.implied (s : State) (r : List Byte) (q : Nat) (w : CalWin) : Option Rat :=
  let heads := w.obs.map (fun o => o.getD 0 0)
  match q with
  | 0 => meanObs heads
  | 1 => if w.obs.length < 3 then none else meanObs heads
  | 2 =>
    let idle := sumOf w.obs (fun o => o.getD 1 0)
    if idle * 28800000 * 2 < ((s.epoch - s.perc.windowStart : Nat) : Rat) then none else meanObs heads
  | _ =>
    let fit := fitDemand (calOf s.perc.cal r (if q < 5 then 3 else 5)).inForce.rat w.obs
    if q = 3 || q = 5 then fit.1 else fit.2

/-- The window has no evidence for a quantity by what it gathered: low flow, excluded measurements, INITIAL, a point that
a lane reported implausible (R175). -/
def State.winVoid (s : State) (w : CalWin) : Bool :=
  w.lowFlow || w.initial || decide ((100 - s.calPar P.CAL_MIN_VALID_PCT) * w.updates < 100 * w.excluded) ||
  w.points.any s.perc.implPts.contains

/-- A window has no evidence for any quantity (R175). -/
def State.windowVoid (s : State) : Bool :=
  s.perc.freezeSeen || (match s.perc.activationAt with
    | some a => decide (s.perc.windowStart ≤ a) && decide (a < s.epoch)
    | none => false)

/-- What the end of a window does to one quantity: the state, and whether the window was void for it (R174 to R176). -/
def State.calWindowOne (s : State) (acc : State × Bool) (x : List Byte × Nat) : State × Bool :=
  let c := calOf acc.1.perc.cal x.1 x.2
  let w := tgetD s.perc.calWin (calKey (recId x.1) x.2) {}
  if !bitOf (s.calPar P.CAL_ENABLE) (calBit x.2) || c.resetPend || w.points.isEmpty then acc
  else if s.windowVoid || s.winVoid w then (acc.1, true)
  else match s.implied x.1 x.2 w with
    | none => acc
    | some v =>
      let r := calStage c x.2 (calImage x.1 x.2).rat (F32.ofRat v)
      ({ acc.1 with
         perc.cal := tset acc.1.perc.cal (calKey (recId x.1) x.2) r.1
         perc.stepLimited := if r.2 then acc.1.perc.stepLimited + 1 else acc.1.perc.stepLimited }, acc.2)

/-- The end of a window that ran its whole length. -/
def State.calWindowEnd (s : State) (m : NetModel) : State :=
  let r := (calList m).foldl s.calWindowOne (s, false)
  if r.2 then { r.1 with perc.windowsVoid := r.1.perc.windowsVoid + 1 } else r.1

/-- A window starts with the committed calibration parameters (R186). -/
def State.calWindowOpen (s : State) : State :=
  { s with
    perc.windowStart := s.epoch
    perc.freezeSeen := false
    perc.implPts := []
    perc.calWin := []
    perc.calPars := [P.CAL_ENABLE, P.CAL_WINDOW_MIN, P.CAL_MIN_FLOW_PCT, P.CAL_MIN_VALID_PCT].map
      (fun id => (pkey id 0, s.pv id 0)) }

/-! ### Updates (R150 to R152, R169 to R171) -/

/-- An update that starts now, on a model. -/
def State.percNew (s : State) (m : NetModel) : PercUpd :=
  { epoch := s.epoch, calVersion := s.perc.calVersion, model := some m, pts := s.pts
    binds := s.par.vals, cal := s.perc.cal, bridge := s.perc.bridgeDue, init := !s.perc.hasParcels
    periodMs := s.perc.effPeriodMs, series := s.model.series, pars := s.par.vals, shift := s.localShift }

/-- Parcels kept by a new model: of segments whose NAME_KEY, end-node NAME_KEYs, LENGTH and INNER_DIAMETER match
(R170). -/
def mapParcels (mo mn : NetModel) (t : Tab (List Parcel)) : Tab (List Parcel) :=
  let nk := fun (m : NetModel) (e : Nat) => match findElem m e with | some r => recKey r | none => 0
  (elemsOf mn 2).foldl (fun a r =>
    match sameElem mo r with
    | some o =>
      if nk mo (rU32 o 16) = nk mn (rU32 r 16) && nk mo (rU32 o 20) = nk mn (rU32 r 20) && calSame mo mn o r 1 then
        match tget t (recId o) with
        | some l => tset a (recId r) l
        | none => a
      else a
    | none => a) []

/-- The old model's last estimates at the nodes of a new one (R170). -/
def mapTemps (mo mn : NetModel) (set : Option EstSet) : Tab Rat :=
  (elemsOf mn 1).foldl (fun a r =>
    match sameElem mo r with
    | some o => match tget (lastNodes set mo) (recId o) with
      | some p => tset a (recId r) p.temp
      | none => a
    | none => a) []

/-- The Percolator at the flip of a model (R151, R154, R170). -/
def State.flipPerc (s : State) (old : Option NetModel) (m : NetModel) : State :=
  let gone := (s.pEntries P.MEAS_BINDING).filter (fun x =>
    x.2.getD 0 refNone != refNone && (findElem m (x.2.getD 0 refNone)).isNone)
  let s1 := gone.foldl (fun a x => a.setPv P.MEAS_BINDING x.1 (pdefault P.MEAS_BINDING x.1)) s
  let s2 : State := { s1 with perc.measDropped := gone.length, perc.state := 1 }
  let s3 := s2.refreshPeriod
  { s3 with
    perc.mappingDue := some (s3.percNew m)
    perc.mapFrom := old }

/-- What the present window gathers from an update (R174, R175). -/
def State.percEvidence (s : State) (u : PercUpd) (c : Water) (recs : Tab EstRec) : State :=
  let live := (s.perc.fronts.map (c.frontStep u.epoch)).filter (fun f => f.predAt.isNone || f.obsAt.isNone)
  let paths := ((elemsOf c.model 2).filterMap (fun r => c.path u.binds r)).dedup
  { s with
    perc.calWin := (calList c.model).foldl (fun t x =>
      if bitOf (s.calPar P.CAL_ENABLE) (calBit x.2) then
        tset t (calKey (recId x.1) x.2) (s.gather u c recs x.1 x.2 (tgetD t (calKey (recId x.1) x.2) {}))
      else t) s.perc.calWin
    perc.fronts := live ++ (paths.map (s.newFront c u.epoch)).flatten }

/-- An update publishes: the parcels, the estimate set, the counters, the merge threshold and the window's evidence (R153,
R156 to R166, R174). -/
def State.percPublish (s : State) (u : PercUpd) (m : NetModel) (res : PercResult) : State :=
  let c := s.percWater u m res
  let recs := s.estRecords u m c res
  let parcels := c.after
  let no := if 2 ^ 32 ≤ s.perc.updateNo + 1 then 1 else s.perc.updateNo + 1
  let k := fof (updPar u P.PARCEL_MERGE_K)
  let pst := if initialLeft m recs parcels then 1 else 2
  let eff := F32.max k s.perc.mergeEff
  let pressure := F32.lt k eff
  let flags := stIf pressure 1#16 ||| stIf s.perc.periodRaised 2#16 ||| stIf u.bridge 4#16
  let s1 := s.percEvidence u c recs
  { s1 with
    perc.upd := none
    perc.set := some { epoch := u.epoch, modelKey := m.key, modelSerial := m.serial, calVersion := u.calVersion,
                       updateNo := no, percState := pst, setFlags := flags, parcels := parcelCount parcels,
                       periodMs := u.periodMs, recs := recs }
    perc.updateNo := no
    perc.state := pst
    perc.parcels := parcels
    perc.parcelEpoch := u.epoch
    perc.flows := tmap c.vals (fun _ x => x.1)
    perc.hasParcels := true
    perc.lastUpdate := u.epoch
    perc.mergeEff := mergeNext (updPar u P.PARCELS_PER_SEG_MAX) k eff parcels
    perc.measExcluded := s.perc.measExcluded + BitVec.ofNat 32 (excludedCount recs)
    perc.bridgeDue := s.perc.bridgeDue && !u.bridge }

end Sys2Proof.Machine
end

