-- ==== Sys2Proof/Machine/SolveOps.lean ====
section
/-! DEFINITION. The solve cycle's operations: step boundaries, what a solve reads, starting and ending solves, the
judgement of plans, the flip of a model, commitments and cancellation (chapter "Solve cycle, timing and plan
hand-over"). -/

namespace Sys2Proof.Machine

/-! ### The step grid (R80, R81, R562) -/

/-- The first instant of a UTC grid of `step` ticks at or after an epoch, under a UTC offset in seconds. -/
def gridUp (off : Int) (step t : Nat) : Nat :=
  t + (((off * 8000 - (t : Int)) % (step : Int)) % (step : Int)).toNat

/-- Step 0, LEAP_STEP and LEAP_KIND of a horizon (R81, R562). A leap second of a UTC day that ends between the solve's
start and the horizon's start lies outside the horizon, and the whole grid follows it: DESIGN CHOICE (log entry 68). -/
def stepBounds (off leap : Int) (step steps now hstart : Nat) : Nat × Nat × Nat :=
  let dayEnd := gridUp off 691200000 (now + 1)
  let dayEndL := ((dayEnd : Int) + leap * 8000).toNat
  let t := hstart + 480000
  let first := gridUp off step t
  if leap = 0 then (first - hstart, 0xFFFF, 0)
  else if dayEndL ≤ hstart then (gridUp (off + leap) step t - hstart, 0xFFFF, 0)
  else if dayEnd ≤ first then
    ((if t ≤ dayEndL then dayEndL else gridUp (off + leap) step t) - hstart, 0xFFFF, 0)
  else
    let n := (dayEnd - first) / step
    if n < steps then (first - hstart, n, if 0 < leap then 1 else 2) else (first - hstart, 0xFFFF, 0)

/-- The announced leap second, where the master's offset is valid (R562). -/
def State.leapAhead (s : State) : Int := if s.time.utcFromMaster then s.time.leapPend else 0

/-! ### Service state (R76, R77, R559) -/

/-- The service state that a solve reads: staged changes over the state in force; for an activation only those staged
before it was accepted. -/
def State.serviceFor (s : State) (act : Bool) (e : Nat) : Bool :=
  match (s.model.serviceStaged.filter (fun x => x.1 == e && (!act || x.2.2 != 0))).getLast? with
  | some x => x.2.1
  | none => s.elemOos e

/-- Elements out of service on a model, as a solve of the active model reads them. -/
def State.oosActive (s : State) (m : NetModel) : Tab Bool :=
  (m.elems.filter (fun r => s.serviceFor false (recId r))).foldl (fun a r => tset a (recId r) true) []

/-- The service state mapped to a staged model (R559). -/
def State.oosMapped (s : State) (old : Option NetModel) (m : NetModel) : Tab Bool :=
  (m.elems.filter (fun r =>
    match old with
    | some mo => (match sameElem mo r with
      | some o => if recInService o == recInService r then s.serviceFor true (recId o) else !recInService r
      | none => !recInService r)
    | none => !recInService r)).foldl (fun a r => tset a (recId r) true) []

/-! ### What a solve reads (R89) -/

/-- The plan in force, where it was solved on a model (R95, R100; log entry 53). -/
def State.refPlanFor (s : State) (m : NetModel) : Option Plan :=
  match s.slv.inForce with
  | some p => if p.modelKey = m.key && p.modelSerial = m.serial then some p else none
  | none => none

/-- ZONE of an address. -/
def qZone (a : Nat) : Nat := a / 4096 % 64

/-- RING of an address. -/
def qRing (a : Nat) : Nat := a / 64 % 64

/-- The level at which a device meets another. -/
def qLevel (a b : Nat) : Nat := if qZone a != qZone b then 6 else if qRing a != qRing b then 5 else 4

/-- PEER_DEVICE of a coupling fits its LEVEL (R189). -/
def peerFits (addr : Nat) (r : List Byte) : Bool := rU32 r 24 != addr && qLevel addr (rU32 r 24) == rU8 r 17

/-- A coupling without an agreement: INITIAL with its RHO_INIT, or MISMATCH with reason LEVEL (R189, R202, R220). -/
def freshCoup (addr : Nat) (r : List Byte) : CoupSt :=
  let g : Agree := { rho := rF r 44 }
  let fits := peerFits addr r
  { state := if fits then 0 else 3, reason := if fits then 0 else 1, cur := g, prevAgree := g, pub := g
    pubState := if fits then 0 else 3
    stat := { state := if fits then 0 else 3, reason := if fits then 0 else 1, rho := rF r 44 } }

/-- Couplings of a new model keep the agreement of the coupling with their NAME_KEY, KIND and peer (R202; log entry 53);
one whose peer does not fit its level is MISMATCH at once (R189). -/
def carryCoups (addr : Nat) (t : Tab CoupSt) (old : Option NetModel) (m : NetModel) : Tab CoupSt :=
  (elemsOf m 9).foldl (fun a r =>
    let fresh := freshCoup addr r
    match old with
    | some mo => (match sameElem mo r with
      | some o => if rU8 o 16 = rU8 r 16 && rU32 o 24 = rU32 r 24 && rU16 o 28 = rU16 r 28 && peerFits addr r then
          tset a (idIndex (recId r)) (tgetD t (idIndex (recId o)) fresh)
        else tset a (idIndex (recId r)) fresh
      | none => tset a (idIndex (recId r)) fresh)
    | none => tset a (idIndex (recId r)) fresh) []

/-- The couplings that a solve on a model reads. -/
def State.solveCoups (s : State) (m : NetModel) (act : Bool) : Tab CoupSt :=
  if act then carryCoups s.fed.addr s.fed.coups s.activeModel m else s.fed.coups

/-- Couplings that the peer's OOS flag has put out of service: zero in the solve like the others (R77, R202, R206). -/
def State.peerOut (s : State) (m : NetModel) (act : Bool) (t : Tab Bool) : Tab Bool :=
  ((elemsOf m 9).filter (fun r => (tgetD (s.solveCoups m act) (idIndex (recId r)) {}).pubState == 4)).foldl
    (fun a r => tset a (recId r) true) t

/-- Everything that a solve on a model reads at its start; a cold one has no plan for its reference point (R95). The cold
solve of an activation reads the image's calibration values of the staged model, with KEEP_CALIBRATION as well: DESIGN
CHOICE (log entry 69). -/
def State.solveIn (s : State) (m : NetModel) (act cold : Bool) : SolveIn :=
  { model := some m
    pars := s.par.vals
    series := s.model.series
    oos := s.peerOut m act (if act then s.oosMapped s.activeModel m else s.oosActive m)
    flex := s.slv.slots.filter (fun x => x.2.filled)
    ests := match s.perc.set with
      | some z => if z.modelKey = m.key && z.modelSerial = m.serial then z.recs else []
      | none => []
    pts := s.pts
    refPlan := if cold then none else s.refPlanFor m
    agreed := s.solveCoups m act
    cal := if act then [] else s.perc.cal
    shift := s.localShift
    estEpoch := match s.perc.set with | some z => z.epoch | none => s.epoch
    parcels := match s.perc.set with
      | some z => if z.modelKey = m.key && z.modelSerial = m.serial then s.perc.parcels else []
      | none => []
    flows := match s.perc.set with
      | some z => if z.modelKey = m.key && z.modelSerial = m.serial then s.perc.flows else []
      | none => []
    prevPlan := s.slv.inForce
    prevModel := s.activeModel }

/-- FLEX_SLOTS: the filled slots (R147). -/
def State.flexMask (s : State) : BitVec 16 :=
  (List.range 16).foldl (fun a n => if (tgetD s.slv.slots n {}).filled then a ||| (1#16 <<< n) else a) 0#16

/-! ### Solve records (R140, R111) -/

/-- Bytes of a quality record (R111). -/
def qualityBytes (q : Quality) : List Byte :=
  padTo 256 (leRec [(4, q.status), (4, q.iterations), (4, q.primal.bits.toNat), (4, q.dual.bits.toNat),
    (4, q.gap.bits.toNat), (4, q.objective.bits.toNat)] ++
  ((List.range 8).map (fun k => le 4 (q.costTerms.getD k F32.zero).bits.toNat)).flatten ++
  leRec [(4, q.emissions.bits.toNat), (4, q.flags.toNat)] ++
  ((List.range 16).map (fun k => le 4 (q.familyRes.getD k F32.zero).bits.toNat)).flatten ++
  ((List.range 16).map (fun k => le 4 (q.familyWorst.getD k refNone))).flatten ++
  leRec [(4, q.heldSeries), (4, q.relaxedElem), (4, q.timeUs)])

/-- The 32-byte solve result and the quality record (R140). -/
def solveRecord (x : StagedPlan) (outcome : Nat) : List Byte :=
  leRec [(4, x.plan.planId), (1, outcome), (1, x.plan.quality.status), (1, x.plan.kind), (1, x.trigger),
    (8, x.plan.hstart), (8, x.plan.solveStart), (4, x.plan.quality.timeUs), (2, x.flexMask.toNat), (2, 0)] ++
  qualityBytes x.plan.quality

/-- Completion status of an OUTCOME (R141). -/
def outcomeStatus (outcome : Nat) : Nat :=
  if outcome = 3 then St.SOLVE_OVERRUN else if outcome = 1 ∨ outcome = 4 then St.SOLVE_FAILED else St.OK

/-- Counters of an outcome (R126, R137, R147). -/
def State.countOutcome (s : State) (outcome : Nat) : State :=
  { s with
    slv.fails := if outcome = 1 ∨ outcome = 3 ∨ outcome = 4 then min 65535 (s.slv.fails + 1) else s.slv.fails
    slv.notTaken := if outcome = 1 ∨ outcome = 4 then s.slv.notTaken + 1 else s.slv.notTaken
    slv.overrun := if outcome = 3 then s.slv.overrun + 1 else s.slv.overrun }

/-- The flexibility handles that wait for a solve complete with its outcome and their EXTERNAL_ID (R129, R132). -/
def State.endFlexWaits (s : State) (x : StagedPlan) (outcome : Nat) : State :=
  let hit := s.slv.flexWaits.filter (fun w => w.solve != 0 && w.solve == x.plan.solveStart)
  let rest := s.slv.flexWaits.filter (fun w => !(w.solve != 0 && w.solve == x.plan.solveStart))
  let s1 : State := { s with slv.flexWaits := rest }
  hit.foldl (fun a w => a.complete w.handle (outcomeStatus outcome) outcome
    (leRec [(4, x.plan.planId), (1, outcome), (3, 0), (4, w.extId.toNat)])) s1

/-- An open activation ends without its flip (R73, R75). -/
def State.endActivation (s : State) (status code : Nat) : State :=
  match s.model.op with
  | some o =>
    if o.kind = 2 then
      ({ s with model.op := none, model.openNote := none } : State).complete o.handle status code (le 4 code)
    else s
  | none => s

/-- A solve, or the plan that it published, ends with an outcome (R132, R137, R140, R141). -/
def State.endPlan (s : State) (x : StagedPlan) (outcome : Nat) : State :=
  let s1 := (s.countOutcome outcome).complete x.plan.handle (outcomeStatus outcome) outcome (solveRecord x outcome)
  let s2 := s1.endFlexWaits x outcome
  if x.act && outcome != 0 then s2.endActivation St.DISAGREE 0x0501 else s2

/-! ### Starting solves (R117 to R121, R127) -/

/-- The completion queue of solves that the host did not request (R127). -/
def State.solveCq (s : State) : Src := if s.pn P.SOLVE_CQ 0 < 8 then .queue (s.pn P.SOLVE_CQ 0) else .none

/-- A handle for a solve that the host did not request; 0 where the table is full (R127). -/
def State.solveHandle (s : State) : U32 × State :=
  match s.nextHandle with
  | some n => (n, s.openHandle .none s.solveCq 0#32 0)
  | none => (0#32, s)

/-- The record of an open handle goes to another queue. -/
def State.handleTo (s : State) (h : U32) (cq : Src) : State :=
  if s.hOpen h then { s with host.handles := tset s.host.handles (hIndex h) { s.hent (hIndex h) with cq := cq } } else s

/-- The handle of a solve that the host did not request follows SOLVE_CQ at the solve's start (R122, R127). -/
def State.aimHandle (s : State) (h : U32) (trigger : Nat) : State := if trigger = 2 then s else s.handleTo h s.solveCq

/-- A solve starts (R89, R95, R117, R120). `trigKind` gives the budget, the iteration limit and the horizon start; a
warm solve or fast re-plan without a plan in force runs cold. -/
def State.beginSolve (s : State) (m : NetModel) (handle : U32) (trigger trigKind budget hstart : Nat) : State :=
  let s := s.aimHandle handle trigger
  let act := trigger == 4
  let kind := if trigKind = 1 then 1 else if s.slv.inForce.isNone then 1 else trigKind
  let b := stepBounds s.utcOff s.leapAhead (s.pn P.STEP_MINUTES 0 * 480000) (s.pn P.HORIZON_STEPS 0) s.epoch hstart
  { s with
    slv.running := some
      { handle := handle, trigger := trigger, kind := kind, start := s.epoch, budget := budget
        iterMax := if trigKind = 3 then s.pn P.FAST_ITER_MAX 0 else s.pn P.ITER_MAX 0
        hstart := hstart, step0 := b.1, leapStep := b.2.1, leapKind := b.2.2, flexMask := s.flexMask
        cold := kind == 1, inputs := ({ s.atEdge with fed := s.fed } : State).solveIn m act (kind == 1) }
    slv.warmSinceCold := if kind = 1 then 0 else if trigger = 1 then s.slv.warmSinceCold + 1 else s.slv.warmSinceCold
    slv.startupDone := s.slv.startupDone || trigger == 5
    slv.flexWaits := s.slv.flexWaits.map (fun w =>
      if w.solve = 0 && decide (w.accEpoch < s.epoch) then { w with solve := s.epoch } else w)
    model.serviceStaged := if act then s.model.serviceStaged
      else s.model.serviceStaged.map (fun x => if x.2.2 = 0 then (x.1, x.2.1, s.epoch) else x)
    model.op := match s.model.op with
      | some o => if act then some { o with solved := true } else some o
      | none => none }

/-- Ticks of the cadence (R119). -/
def State.cadence (s : State) : Nat := s.pn P.SOLVE_CADENCE_S 0 * 8000

/-- The tick is a cadence point (R119). -/
def State.atCadence (s : State) : Bool :=
  ((s.epoch : Int) - (s.pn P.SOLVE_PHASE_TICKS 0 : Int)) % (s.cadence : Int) == 0

/-- The first cadence point at or after an epoch (R120). -/
def State.cadenceUp (s : State) (t : Nat) : Nat :=
  t + (((s.pn P.SOLVE_PHASE_TICKS 0 : Int) - (t : Int)) % (s.cadence : Int)).toNat

/-- A cadence solve is cold (R121). -/
def State.cadenceCold (s : State) : Bool :=
  s.slv.inForce.isNone || decide (s.pn P.COLD_AFTER_FAILS 0 ≤ s.slv.fails) ||
  (decide (0 < s.pn P.COLD_EVERY 0) && decide (s.pn P.COLD_EVERY 0 ≤ s.slv.warmSinceCold))

/-- A model activation is open (R73). -/
def State.actOpen (s : State) : Bool :=
  match s.model.op with
  | some o => o.kind == 2
  | none => false

/-- The start-up solve has not yet ended: it is to start, runs, or its plan is staged (R148). -/
def State.booting (s : State) : Bool :=
  !s.slv.startupDone ||
  (match s.slv.running with | some v => v.trigger == 5 | none => false) ||
  s.slv.staged.any (fun x => x.trigger == 5)

/-- The Roaster works: a unit that executes, with the block fitted. -/
def State.solveOn (s : State) : Bool := s.live && s.fitted && !s.inReset 1 0

/-- Ticks of a round (R192). -/
def roundTicks (level : Nat) : Nat := if level = 4 then 16000 else if level = 5 then 80000 else 480000

/-- A round closes at this tick and has not closed yet: the agreement that it leaves is valid from here, so no solve starts
before it (R199). -/
def State.closeOwed (s : State) : Bool :=
  [4, 5, 6].any (fun l => tgetD s.fed.closeDue l false && decide (tgetD s.fed.openings l 0 + roundTicks l ≤ s.epoch))

/-- What a start at this tick would be: 4 the activation's cold solve, 5 the start-up solve, 3 the fast re-plan, 2 the
commanded solve, 0 nothing (R73, R118, R120, R128, R148). -/
def State.nextStart (s : State) : Nat :=
  if s.slv.running.isSome || !decide (s.slv.lastEnd < s.epoch) then 0
  else if s.actOpen then (match s.model.op with | some o => if o.solved then 0 else 4 | none => 0)
  else if s.activeModel.isNone then 0
  else if !s.slv.startupDone then (if s.perc.set.isSome then 5 else 0)
  else if s.booting then 0
  else match s.slv.fastPend with
    | some f => if f.acc < s.epoch then 3 else 0
    | none => match s.slv.waiting with
      | some c => if c.acc < s.epoch then 2 else 0
      | none => 0

/-- The start that is due (R120). -/
def State.startDue (s : State) : State :=
  match s.nextStart with
  | 4 => match s.stagedModel, s.model.op with
    | some m, some o =>
      s.beginSolve m o.solveHandle 4 1 (s.pn P.COLD_BUDGET_MS 0) (s.epoch + 8 * s.pn P.COLD_BUDGET_MS 0)
    | _, _ => s
  | 5 => match s.activeModel with
    | some m =>
      let h := s.solveHandle
      h.2.beginSolve m h.1 5 1 (s.pn P.COLD_BUDGET_MS 0) (s.epoch + 8 * s.pn P.COLD_BUDGET_MS 0)
    | none => s
  | 3 => match s.activeModel, s.slv.fastPend with
    | some m, some f =>
      ({ s with slv.fastPend := none } : State).beginSolve m f.handle 3 3 (s.pn P.FAST_BUDGET_MS 0)
        (max f.band (s.epoch + 8 * s.pn P.FAST_BUDGET_MS 0))
    | _, _ => s
  | 2 => match s.activeModel, s.slv.waiting with
    | some m, some c =>
      let b := if c.budget = 0 then (if c.kind = 1 then s.pn P.COLD_BUDGET_MS 0 else s.pn P.WARM_BUDGET_MS 0) else c.budget
      ({ s with slv.waiting := none } : State).beginSolve m c.handle 2 c.kind b (max c.hstart (s.epoch + 8 * b))
    | _, _ => s
  | _ => s

/-- A cadence point: a solve starts, or is skipped and counted (R119 to R121, R127, R128). -/
def State.cadenceAct (s : State) : State :=
  let skip : State := { s with slv.skipped := s.slv.skipped + 1 }
  if s.slv.running.isSome || s.actOpen || s.booting || s.nextStart != 0 then skip
  else match s.nextHandle, s.activeModel with
    | some _, some m =>
      let h := s.solveHandle
      if s.cadenceCold then
        h.2.beginSolve m h.1 1 1 (s.pn P.COLD_BUDGET_MS 0) (s.cadenceUp (s.epoch + 8 * s.pn P.COLD_BUDGET_MS 0))
      else h.2.beginSolve m h.1 1 2 (s.pn P.WARM_BUDGET_MS 0) (s.epoch + s.cadence)
    | _, _ => skip

/-! ### Ending solves (R107, R125, R126, R136) -/

/-- The plan header of a solve (R107). -/
def planHead (v : Solve) : Plan :=
  let i := v.inputs
  { hstart := v.hstart, solveStart := v.start, modelKey := (SolveIn_model i).key, modelSerial := (SolveIn_model i).serial
    handle := v.handle, step0 := v.step0, stepTicks := ipn i P.STEP_MINUTES 0 * 480000, steps := ipn i P.HORIZON_STEPS 0
    scenarios := ipn i P.SCENARIOS 0, nonant := ipn i P.NONANT_STEPS 0, refScen := ipn i P.REF_SCENARIO 0, kind := v.kind
    varCount := modelVars (SolveIn_model i), leapStep := v.leapStep, leapKind := v.leapKind, oos := i.oos
    weights := (List.range (ipn i P.SCENARIOS 0)).map (fun k => fof (ipn i (P.SCENARIO_WEIGHT_0 + k) 0)) }

/-- The header with the values that R46 holds. -/
def planOf (v : Solve) : Plan := { planHead v with fixedVals := fixedTab v.inputs (planHead v) }

/-- The final iterate of a solve, before the shared steps are averaged (R113). -/
def iterateOf (v : Solve) (r : SolveResult) : Plan := { planOf v with traj := r.traj }

/-- The plan that a solve publishes: its iterate with the shared steps averaged, its prices, and the quality record whose
residuals are those of the iterate (R84, R107 to R113). GAP is relative to the objective, at least 1 (log entry 52). -/
def planWith (v : Solve) (r : SolveResult) : Plan :=
  let i := v.inputs
  let raw := iterateOf v r
  let p := { raw with traj := sharedTraj raw, prices := pricesOf i raw r.duals }
  let fam := familyRes i raw
  let cost := objective i p
  { p with quality :=
      { status := r.status, iterations := r.iterations, primal := F32.ofRat (worstOf fam).1
        dual := F32.ofRat (dualRes r), gap := F32.ofRat (|cost - r.dualBound| / max 1 |cost|)
        objective := F32.ofRat cost, costTerms := (costTerms i p).map F32.ofRat
        emissions := F32.ofRat (expect i p (stepEmissions i p))
        flags := qualityFlags i p v.cold r.rounded r.roundFailed
        familyRes := fam.map (fun x => F32.ofRat x.1), familyWorst := fam.map (fun x => x.2)
        heldSeries := (heldSeries i p).foldl min refNone, relaxedElem := relaxedElem i p, timeUs := r.timeUs } }

/-- The record of a solve that publishes nothing: that of its last iterate, or of its inputs alone before the first
iteration (R111, R112). -/
def unpublished (v : Solve) (status : Nat) (r : SolveResult) : StagedPlan :=
  let bare : Quality := { flags := inputFlags v.inputs (planHead v) v.cold
                          heldSeries := (heldSeries v.inputs (planHead v)).foldl min refNone }
  let q := if r.iterations = 0 then bare else (planWith v r).quality
  { plan := { planHead v with quality := { q with status := status, timeUs := r.timeUs } }
    trigger := v.trigger, flexMask := v.flexMask, act := v.trigger == 4 }

/-- The microseconds from a solve's start agree with the present tick (R142). -/
def State.solveTime (s : State) (v : Solve) (us : Nat) : Bool :=
  decide (125 * (s.epoch - v.start) ≤ us) && decide (us < 125 * (s.epoch - v.start + 1))

/-- The plan is one that the rules admit: shape, finite, held values, rounding and STATUS (R46, R77, R106, R108, R110,
R112, R113). -/
def planAdmitted (v : Solve) (r : SolveResult) : Bool :=
  let i := v.inputs
  let raw := iterateOf v r
  shapeOk i raw r.duals && raw.traj.all F32.isFin && heldOk i raw && (!r.rounded || roundedOk i raw r.relaxed) &&
  solveStatusOk i (planWith v r).quality v.iterMax v.budget (worstOf (familyRes i raw)).1 r

/-- The running solve is over. -/
def State.solveDone (s : State) : State := { s with slv.running := none, slv.lastEnd := s.epoch }

/-- A free plan buffer: not of the plan in force, its predecessor or a staged plan (R136). -/
def State.freeBuf (s : State) : Option Nat :=
  (List.range 6).find? (fun b => !(s.slv.inForce.isSome && s.slv.inForceBuf == b) &&
    !(s.slv.prev.isSome && s.slv.prevBuf == b) && !(s.slv.staged.any (fun x => x.buf == b)))

/-- A published plan is staged; a commanded plan replaces an older staged one (R136); the plan of an activation is
staged only when it is CONVERGED (R133); a plan cancelled while it published is discarded (R138). -/
def State.stagePlan (s : State) (v : Solve) (p : Plan) (buf : Nat) : State :=
  let x : StagedPlan :=
    { plan := { p with planId := s.slv.nextPlanId }, trigger := v.trigger, flexMask := v.flexMask, buf := buf
      act := v.trigger == 4 }
  let s1 : State := { s with slv.nextPlanId := if 2 ^ 32 ≤ s.slv.nextPlanId + 1 then 1 else s.slv.nextPlanId + 1 }
  if v.cancelAfter then s1.endPlan x 5
  else if v.trigger = 4 && p.quality.status != 1 then s1.endPlan x 1
  else
    let old := if v.trigger = 2 then s1.slv.staged.filter (fun y => y.trigger == 2) else []
    let s2 : State := { s1 with slv.staged :=
      (if v.trigger = 2 then s1.slv.staged.filter (fun y => y.trigger != 2) else s1.slv.staged) ++ [x] }
    old.foldl (fun a y => a.endPlan y 2) s2

/-- The end of iterating or of publication, as the Roaster reports it: nothing without the needed series, a failure, or a
plan completely published by S + B and before its horizon start (R90, R112, R125, R126, R134). NUMERIC is the status of
an iterate that is not finite; that the hard constraints admit no solution is the Roaster's finding (log entry 52). -/
def State.publish (s : State) (v : Solve) (r : SolveResult) : State :=
  if v.stopReq = 5 || !s.solveTime v r.timeUs then s
  else if inputMissing v.inputs then
    (if v.publishing then s else s.solveDone.endPlan (unpublished v 6 { timeUs := r.timeUs }) 4)
  else if r.status = 5 ∨ r.status = 7 then
    (if v.publishing || ((r.status == 7) == r.traj.all F32.isFin) then s
     else s.solveDone.endPlan (unpublished v r.status r) 4)
  else
    match s.freeBuf with
    | some b =>
      if planAdmitted v r && decide (r.timeUs ≤ v.budget * 1000) && decide (s.epoch < v.hstart) then
        s.closeEdge.solveDone.stagePlan v (planWith v r) b
      else s
    | none => s

/-! ### The plan boundary (R133 to R135, R73) -/

/-- The model key and serial that plans must carry after this tick's order 4 (R133). -/
def State.modelAfter (s : State) : U64 × Nat :=
  let act := s.slv.staged.find? (fun x => x.act && decide (x.plan.hstart ≤ s.epoch))
  match act, s.stagedModel, s.activeModel with
  | some _, some m, _ => (m.key, m.serial)
  | _, _, some m => (m.key, m.serial)
  | _, _, none => (0#64, 0)

/-- A staged plan that the model test discards (R133). -/
def State.modelGone (s : State) (x : StagedPlan) : Bool :=
  !x.act && ((x.plan.modelKey, x.plan.modelSerial) != s.modelAfter)

/-- A list of staged plans is taken out, each with an outcome. -/
def State.discardPlans (s : State) (f : StagedPlan → Bool) (outcome : Nat) : State :=
  let hit := s.slv.staged.filter f
  let s1 : State := { s with slv.staged := s.slv.staged.filter (fun x => !f x) }
  hit.foldl (fun a x => a.endPlan x outcome) s1

/-- Candidates of the tick. -/
def State.isCand (s : State) (x : StagedPlan) : Bool := decide (x.plan.hstart ≤ s.epoch)

/-- The candidate with the latest solve start. -/
def State.bestPlan (s : State) : Option StagedPlan :=
  (s.slv.staged.filter s.isCand).foldl (fun a x => match a with
    | none => some x
    | some y => if y.plan.solveStart < x.plan.solveStart then some x else some y) none

/-- A plan is good enough to take effect (R133). -/
def State.planGood (s : State) (p : Plan) : Bool :=
  p.quality.status == 1 ||
  (decide (2 ≤ p.quality.status) && decide (p.quality.status ≤ 4) && F32.le p.quality.primal (s.pf P.PLAN_ACCEPT_PRIMAL 0))

/-- Service changes that a plan was solved with come into force at its boundary (R76). -/
def State.applyService (s : State) (start : Nat) : State :=
  let due := s.model.serviceStaged.filter (fun x => x.2.2 != 0 && decide (x.2.2 ≤ start))
  { s with
    model.serviceStaged := s.model.serviceStaged.filter (fun x => !(x.2.2 != 0 && decide (x.2.2 ≤ start)))
    model.outOfService := due.foldl (fun t x => if x.2.1 then tset t x.1 true else tdel t x.1) s.model.outOfService }

/-- Service changes staged while the activation was open, mapped to the new model as the state in force is: by NAME_KEY
and type, where FLAGS[0] is equal in the two images (R559). -/
def mapStaged (l : List (Nat × (Bool × Nat))) (old : Option NetModel) (m : NetModel) : List (Nat × (Bool × Nat)) :=
  (l.filter (fun x => x.2.2 == 0)).filterMap (fun x =>
    match old with
    | some mo => (match findElem mo x.1 with
      | some o => (m.elems.find? (fun r =>
          recKey r == recKey o && recType r == recType o && recInService r == recInService o)).map
          (fun r => (recId r, x.2.1, 0))
      | none => none)
    | none => none)

/-- The flip of an activation: bank select, serial floor, service state, calibration, pipe graph and couplings change at
one tick (R73, R74, R170, R559). -/
def State.flipModel (s : State) : State :=
  match s.stagedModel with
  | none => s
  | some m =>
    let old := s.activeModel
    let keep := match s.model.op with | some o => o.keepCal | none => false
    let s1 : State := { s with
      model.activeB := !s.model.activeB
      model.hasActive := true
      model.staged := false
      model.floor := max s.model.floor m.serial
      model.outOfService := s.oosMapped old m
      model.serviceStaged := mapStaged s.model.serviceStaged old m
      fed.coups := carryCoups s.fed.addr s.fed.coups old m }
    ((s1.flipCal old m keep).flipPerc old m).endActivation St.OK 0

/-- The best plan takes effect for every consumer (R115, R133 to R137). -/
def State.takePlan (s : State) (x : StagedPlan) : State :=
  let s1 : State := { s with
    slv.staged := s.slv.staged.filter (fun y => y.plan.planId != x.plan.planId)
    slv.prev := s.slv.inForce
    slv.prevBuf := s.slv.inForceBuf
    slv.inForce := some x.plan
    slv.inForceBuf := x.buf
    slv.fails := 0
    slv.stale := false
    slv.startupDone := true
    slv.lastBoundary := s.epoch }
  let s2 := if x.act then s1.flipModel else (s1.applyCal).applyService x.plan.solveStart
  ((s2.auditApplied 0).endPlan x 0).discardPlans (fun y => decide (y.plan.solveStart < x.plan.solveStart)) 2

/-- The procedure of R133. -/
def State.judgePlans (s : State) : State :=
  let s1 := s.discardPlans s.modelGone 7
  let s2 := match s1.bestPlan with
    | none => s1
    | some x =>
      if (match s1.slv.inForce with | some p => decide (x.plan.solveStart ≤ p.solveStart) | none => false) then
        s1.discardPlans (fun y => y.plan.planId == x.plan.planId) 2
      else if s1.planGood x.plan then s1.takePlan x
      else s1.discardPlans (fun y => y.plan.planId == x.plan.planId) 1
  s2.discardPlans s2.isCand 2

/-! ### Commitments (R120, R128, R131) -/

/-- A fast re-plan is triggered, or the request joins the pending one; a routine or commanded solve that runs is told to
stop, unless a model activation is open (R120, R128). -/
def State.triggerFast (s : State) (band : Nat) : State :=
  let s1 : State := match s.slv.fastPend with
    | some f => { s with slv.fastPend := some { f with band := min f.band band } }
    | none =>
      let h := s.solveHandle
      { h.2 with slv.fastPend := some { handle := h.1, band := band, acc := s.epoch } }
  match s1.slv.running with
  | some v =>
    if v.trigger != 3 && v.trigger != 4 && v.stopReq = 0 && !s1.actOpen then
      { s1 with slv.running := some { v with stopReq := 6 } }
    else s1
  | none => s1

/-- FLEX_DEFERRED: a fast re-plan waits behind an open activation (R128, R147). -/
def State.flexDeferred (s : State) : Bool := s.slv.fastPend.isSome && s.actOpen

/-- A flexibility handle is open (R132). -/
def State.addFlexWait (s : State) (h extId : U32) : State :=
  { s with
    slv.flexWaits := s.slv.flexWaits ++ [{ handle := h, acc := s.host.accSeq, accEpoch := s.epoch, extId := extId }]
    host.accSeq := s.host.accSeq + 1 }

/-! ### Cancellation (R138) -/

/-- The record of a solve that never started. -/
def neverStarted (handle : U32) (kind trigger : Nat) : StagedPlan :=
  { plan := { handle := handle, kind := kind, quality := { status := 8 } }, trigger := trigger, act := trigger == 4 }

/-- Cancelling a staged plan: before its horizon start it is discarded, from then on nothing happens (R138). -/
def State.cancelStaged (s : State) (h : U32) : Option (Nat × (State → State)) :=
  match s.slv.staged.find? (fun x => x.plan.handle == h) with
  | some x =>
    if s.epoch < x.plan.hstart then some (2, fun t => t.discardPlans (fun y => y.plan.handle == h) 5) else some (3, id)
  | none => none

/-- Cancelling a solve by its handle: CANCEL_RESULT and the effect; none where the handle is no solve's that is open
here. Whether a solve that runs is already publishing is a free value (R138; log entry 53). -/
def State.cancelSolve (s : State) (h : U32) : Option (Nat × (State → State)) :=
  if (match s.slv.waiting with | some c => c.handle == h | none => false) then
    some (0, fun t => ({ t with slv.waiting := none } : State).endPlan
      (neverStarted h ((s.slv.waiting.map (fun c => c.kind)).getD 0) 2) 5)
  else if (match s.slv.fastPend with | some f => f.handle == h | none => false) then
    some (0, fun t => ({ t with slv.fastPend := none } : State).endPlan (neverStarted h 3 3) 5)
  else if (match s.model.op with | some o => o.kind == 2 && !o.solved && o.solveHandle == h | none => false) then
    some (0, fun t => t.endPlan (neverStarted h 1 4) 5)
  else match s.slv.running with
    | some v =>
      if v.handle = h then
        if v.publishing || (v.stopReq = 0 && s.freshWord.getLsbD 0) then
          some (2, fun t => ({ t with slv.running := some { v with publishing := true, cancelAfter := true } } : State).took)
        else some (1, fun t => ({ t with slv.running := some { v with stopReq := 5 } } : State).took)
      else s.cancelStaged h
    | none => s.cancelStaged h

/-! ### Capacity (R144, R147) -/

/-- Variables at which an iteration takes 1.30 ms at most (R144). -/
def State.iterScale (s : State) : Nat := if s.ident.variant = .q8260 then 16000000 else 10000000

/-- Iterations that a budget in ms allows at the guaranteed corner (R144). -/
def State.iterCapacity (s : State) (budget : Nat) : Nat :=
  match s.activeModel with
  | none => 0
  | some m =>
    let v := max 1000000 (modelVars m * s.pn P.HORIZON_STEPS 0 * s.pn P.SCENARIOS 0)
    (budget - 6) * 100 * s.iterScale / (130 * v)

end Sys2Proof.Machine
end

