-- ==== Sys2Proof/Machine/FedOps.lean ====
section
/-! DEFINITION. The federation exchange's operations: addresses and levels, floors and member lists, proposals, the
agreement, messages (chapter "Federation exchange and mixed-version operation"). -/

namespace Sys2Proof.Machine

/-! ### Addresses and levels (R188, R189, R192) -/

/-- The broadcast address. -/
abbrev qAll : Nat := 0xFFFFFFFF

/-- The device takes part in the member lists and advertisements of a level (R193, R213). -/
def State.computes (s : State) (level : Nat) : Bool :=
  level == 4 || (level == 5 && decide (1 ≤ s.fed.role)) || (level == 6 && s.fed.role == 2)

/-! ### Versions and floors (R211 to R216) -/

/-- The floor record of a scope; a floor that nothing has set is the device's own version (R219). -/
def State.floorRec (s : State) (level : Nat) : FloorRec := tgetD s.fed.floors level { floor := s.fed.ownVersion }

/-- The state with a floor record changed. -/
def State.setFloor (s : State) (level : Nat) (r : FloorRec) : State :=
  { s with fed.floors := tset s.fed.floors level r }

/-- The device speaks a version: its own and the one before. -/
def State.speaks (s : State) (v : Nat) : Bool := v == s.fed.ownVersion || v + 1 == s.fed.ownVersion

/-- The version of a level's messages (R211). -/
def State.sendVersion (s : State) (level : Nat) : Nat :=
  let f := (s.floorRec level).floor
  if s.speaks f then f else if s.fed.ownVersion < f then s.fed.ownVersion else s.fed.ownVersion - 1

/-- The members of a list. -/
def State.fedMembers (s : State) (level : Nat) : List FedMember := tgetD s.fed.members level []

/-- The state with a member list changed. -/
def State.setMembers (s : State) (level : Nat) (l : List FedMember) : State :=
  { s with fed.members := tset s.fed.members level l }

/-- An advertisement replaces the entry of its address (R213). -/
def putMember (l : List FedMember) (m : FedMember) : List FedMember := l.filter (fun x => x.addr != m.addr) ++ [m]

/-- Lowest version of a list. -/
def listMin (l : List FedMember) : Nat := match l with | [] => 0 | a :: r => r.foldl (fun x m => min x m.cur) a.cur

/-- Highest version of a list. -/
def listMax (l : List FedMember) : Nat := l.foldl (fun x m => max x m.curMax) 0

/-- Devices of a list. -/
def listCount (l : List FedMember) : Nat := l.foldl (fun x m => x + m.members) 0

/-- What an advertisement of a level says of the sender's list: the device itself at level 4, its ring's list at level 5,
its zone's list at level 6 (R212). -/
def State.aggregate (s : State) (level : Nat) : Nat × Nat × Nat :=
  let l := s.fedMembers (level - 1)
  if level = 4 || l.isEmpty then (s.fed.ownVersion, s.fed.ownVersion, 1) else (listMin l, listMax l, listCount l)

/-- The device stands in its own lists. -/
def State.selfMember (s : State) (level : Nat) : State :=
  let a := s.aggregate level
  s.setMembers level (putMember (s.fedMembers level)
    { addr := s.fed.addr, cur := a.1, curMax := a.2.1, members := a.2.2, heardAt := s.epoch, round := s.epoch })

/-- Floor changes that are due come into force (R216). -/
def State.switchFloor (s : State) (level : Nat) : State :=
  let r := s.floorRec level
  if r.pending != 0 && decide (r.switchEpoch ≤ s.epoch) then
    s.setFloor level { r with floor := r.pending, pending := 0, lastSwitch := some r.switchEpoch }
  else s

/-- The candidate floor is valid (R213). -/
def candValid (l : List FedMember) : Bool := decide (listMax l ≤ listMin l + 1)

/-- The candidate of a round and the VERSION_GAP bit (R211, R213, R215). -/
def State.settleFloor (s : State) (level : Nat) : State :=
  let r := s.floorRec level
  if s.computes level then
    let l := s.fedMembers level
    s.setFloor level { r with
      candidate := listMin l
      settled := if r.candidate = listMin l then r.settled + 1 else 1
      gap := !candValid l || !s.speaks r.floor }
  else s.setFloor level { r with gap := !s.speaks r.floor }

/-- The device is the floor master of a scope: no lower address has been heard in the last FED_SILENT_ROUNDS rounds
(R214). -/
def State.isMaster (s : State) (level : Nat) : Bool :=
  s.computes level &&
  (s.fedMembers level).all (fun m => decide (s.fed.addr ≤ m.addr) ||
    decide (m.round + s.pn P.FED_SILENT_ROUNDS 0 * roundTicks level < s.epoch))

/-- The master announces a floor change (R215). -/
def State.announce (s : State) (level : Nat) : State :=
  let r := s.floorRec level
  let t := roundTicks level
  if s.isMaster level && candValid (s.fedMembers level) && r.candidate != r.floor &&
      decide (s.pn P.FLOOR_SETTLE_ROUNDS 0 ≤ r.settled) && r.pending == 0 &&
      (match r.lastSwitch with
       | some e => decide (e + s.pn P.FLOOR_HOLD_ROUNDS 0 * t ≤ s.epoch)
       | none => true) then
    s.setFloor level { r with
      pending := r.candidate, master := s.fed.addr
      switchEpoch := (s.epoch + s.pn P.FLOOR_LEAD_S level * 8000 + t - 1) / t * t }
  else s

/-- A floor record heard from another member (R215, R216; log entry 54). `f` is FLOOR, PENDING, MASTER, SWITCH_EPOCH. -/
def adoptRec (r : FloorRec) (f : Nat × (Nat × (Nat × Nat))) : FloorRec :=
  let floor := f.1
  let pend := f.2.1
  let master := f.2.2.1
  let sw := f.2.2.2
  if pend != 0 then
    (if pend = r.floor then r
     else if r.pending = 0 then { r with pending := pend, master := master, switchEpoch := sw }
     else if r.pending = pend then { r with switchEpoch := min r.switchEpoch sw }
     else if master < r.master then { r with pending := pend, master := master, switchEpoch := sw }
     else r)
  else if floor = r.floor || floor = 0 || r.pending != 0 && floor != r.pending then r
  else if r.switchEpoch < sw || (r.switchEpoch = sw && floor < r.floor) || floor = r.pending then
    { r with pending := floor, master := master, switchEpoch := sw }
  else r

/-! ### Messages (R207, R383) -/

/-- The fixed part and the rest of a message's header (R207). -/
def qHeader (version kind level src dst seq claim len round : Nat) : List Byte :=
  beRec [(2, version), (1, kind), (1, level), (4, src), (4, dst), (4, seq), (4, claim), (4, len), (8, round)]

/-- Where a message of a level leaves: none for the ring ports, else an access port (R190, R193). -/
def State.qPort (s : State) (level : Nat) : Option Nat :=
  if level = 4 || s.fed.role = 0 then none
  else if level = 6 && s.fed.role = 2 then some 2
  else some 3

/-- A message leaves in frames of at most 1,488 bytes of it, tagged with QUALOTH_VLAN and PCP 5 (R208, R383). -/
def State.sendQBytes (s : State) (port : Option Nat) (src seq : Nat) (bytes : List Byte) : State :=
  let cs := chunksOf 1488 (bytes.length / 1488 + 1) bytes
  let dst := BitVec.ofNat 48 (s.bootN P.QUALOTH_GROUP_MAC)
  cs.zipIdx.foldl (fun a c =>
    let frame := be 2 (5 * 8192 + s.bootN P.QUALOTH_VLAN) ++ be 2 (s.bootN P.QUALOTH_ETHERTYPE) ++
      beRec [(4, src), (4, seq), (2, c.2), (2, cs.length)] ++ c.1
    match port with
    | none => a.sendRing 0x8100 dst frame
    | some p => a.sendOn p 0x8100 dst frame) s

/-- PAYLOAD_LEN at most (R207). -/
abbrev qMaxLen : Nat := 262144

/-- The device sends a message of its own (R207, R211); one whose payload would pass the limit is not sent (log entry 54). -/
def State.sendQ (s : State) (level kind dst : Nat) (payload : List Byte) : State :=
  if qMaxLen < payload.length then s else
  let seq := s.fed.txSeq
  let s1 : State := { s with fed.txSeq := (seq + 1) % 2 ^ 32 }
  s1.sendQBytes (s.qPort level) s.fed.addr seq
    (qHeader (s.sendVersion level) kind level s.fed.addr dst seq s.pair.claim payload.length
      (tgetD s.fed.openings level 0) ++ payload)

/-- Bytes of a floor record (R212). -/
def floorBytes (r : FloorRec) : List Byte := beRec [(2, r.floor), (2, r.pending), (4, r.master), (8, r.switchEpoch)]

/-- The ADVERTISE of a level (R193, R212). -/
def State.advertise (s : State) (level : Nat) : State :=
  if s.computes level then
    let a := s.aggregate level
    s.sendQ level 1 qAll (beRec [(2, s.fed.ownVersion), (2, a.1), (2, a.2.1), (2, 0), (4, a.2.2), (4, 0)] ++
      floorBytes (s.floorRec 4) ++ floorBytes (s.floorRec 5) ++ floorBytes (s.floorRec 6))
  else s

/-! ### Couplings -/

/-- A coupling's run-time state; one that nothing has touched since the start is fresh (R202, R220). -/
def State.coup (s : State) (i : Nat) : CoupSt :=
  match tget s.fed.coups i with
  | some c => c
  | none => match s.activeModel.bind (fun m => (elemsOf m 9).find? (fun r => idIndex (recId r) == i)) with
    | some r => freshCoup s.fed.addr r
    | none => {}

/-- The state with a coupling changed. -/
def State.setCoup (s : State) (i : Nat) (c : CoupSt) : State := { s with fed.coups := tset s.fed.coups i c }

/-- Index of a coupling record. -/
def coupIdx (r : List Byte) : Nat := idIndex (recId r)

/-- PEER_DEVICE of a coupling (R59). -/
def coupPeer (r : List Byte) : Nat := rU32 r 24

/-- PEER_COUPLING of a coupling (R59). -/
def coupRemote (r : List Byte) : Nat := rU16 r 28

/-- The couplings of a level in the active model. -/
def State.coupsAt (s : State) (level : Nat) : List (List Byte) :=
  match s.activeModel with
  | some m => (elemsOf m 9).filter (fun r => rU8 r 17 == level)
  | none => []

/-- PEER_DEVICE fits LEVEL (R189). -/
def State.levelFits (s : State) (r : List Byte) : Bool := peerFits s.fed.addr r

/-- The state of a coupling that leaves OUT_OF_SERVICE: held at its last agreement (log entry 54). -/
def backState (c : CoupSt) : Nat := if c.cur.qs.isEmpty then 0 else 2

/-- Service, level and FED_ENABLE put a coupling into the states that R202 gives them. -/
def State.coupBase (s : State) (r : List Byte) (c : CoupSt) : CoupSt :=
  if s.elemOos (recId r) || c.peerOos then { c with state := 4, reason := 0 }
  else if !s.levelFits r then { c with state := 3, reason := 1 }
  else
    let c1 := if c.state = 4 || (c.state = 3 && c.reason = 1) then { c with state := backState c, reason := 0 } else c
    if s.fed.enabled then c1 else { c1 with state := 2, reason := 0 }

/-- What COUPLING_STATUS shows of a coupling (R220). -/
def coupStat (c : CoupSt) : CoupStat :=
  { state := c.state, reason := c.reason, holdExpired := c.holdExpired, peerIsland := c.peerIsland, silent := c.silent
    seq := c.cur.seq, lastApplied := c.lastApplied, rho := c.cur.rho, primal := c.primal, dual := c.dual, price := c.price }

/-- A coupling is published, for solves and for the status (R199). -/
def coupPublish (c : CoupSt) : CoupSt := { c with pub := c.cur, pubState := c.state, stat := coupStat c }

/-- The agreement from which a coupling starts (R198). -/
def agreeInit (r : List Byte) : Agree := (freshCoup 0 r).cur

/-- FED_ENABLE takes effect at a level-4 opening: 0 holds every coupling, 1 starts every coupling afresh (R202, R218). -/
def State.fedRefresh (s : State) : State :=
  let on := s.pn P.FED_ENABLE 0 == 1
  if on = s.fed.enabled then s
  else
    let s1 : State := { s with fed.enabled := on }
    match s.activeModel with
    | none => s1
    | some m => (elemsOf m 9).foldl (fun a r =>
        let c := a.coup (coupIdx r)
        let c1 := if on then { c with state := 0, reason := 0, cur := agreeInit r, prevAgree := agreeInit r } else c
        a.setCoup (coupIdx r) (coupPublish (a.coupBase r c1))) s1

/-! ### Proposals (R195, R196, R210) -/

/-- Parameters that a round takes at its opening: EXCH_STEP_MIN, FED_SILENT_ROUNDS, FLOOR_MEMORY_S (R218). -/
def State.roundPars (s : State) (level : Nat) : List Nat :=
  [s.pn P.EXCH_STEP_MIN level, s.pn P.FED_SILENT_ROUNDS 0, s.pn P.FLOOR_MEMORY_S 0]

/-- The exchange window of a level at an opening: start, the step that holds a leap second, its kind (R195, R562). -/
def State.exchWindow (s : State) (level : Nat) : List Nat :=
  let step := s.pn P.EXCH_STEP_MIN level * 480000
  let off := s.utcOff
  let leap := s.leapAhead
  let first := gridUp off step s.epoch
  let dayEnd := gridUp off 691200000 (s.epoch + 1)
  let dayEndL := ((dayEnd : Int) + leap * 8000).toNat
  if leap = 0 then [first, 0xFFFF, 0]
  else if dayEnd ≤ first then [if s.epoch ≤ dayEndL then dayEndL else gridUp (off + leap) step s.epoch, 0xFFFF, 0]
  else
    let n := (dayEnd - first) / step - 1
    if n < s.pn P.EXCH_STEPS level then [first, n, if 0 < leap then 1 else 2] else [first, 0xFFFF, 0]

/-- The grid of a level's window, as an agreement carries it. -/
def State.exchGrid (s : State) (level : Nat) : Agree :=
  let w := tgetD s.fed.windows level []
  { exchStart := w.getD 0 0, stepMin := w.getD 3 0, leapStep := w.getD 1 0xFFFF, leapKind := w.getD 2 0 }

/-- The source plan: of the plans of the active model staged or in force, the one whose solve started last (R196; log
entry 52). -/
def State.sourcePlan (s : State) : Option Plan :=
  match s.activeModel with
  | none => none
  | some m =>
    let ps := (match s.slv.inForce with | some p => [p] | none => []) ++ s.slv.staged.map (fun x => x.plan)
    (ps.filter (fun p => p.modelKey == m.key && p.modelSerial == m.serial)).foldl (fun a p => match a with
      | none => some p
      | some q => if q.solveStart < p.solveStart then some p else some q) none

/-- Time-weighted mean of the step values of a plan over an interval; beyond the horizon its end values (R196). -/
def planMean (p : Plan) (f : Nat → Rat) (a b : Nat) : Rat :=
  let mid := ((List.range p.steps).map (fun k =>
    f k * (shared a b (stepStart p k) (stepStart p k + stepLen p k) : Rat))).sum
  let before := (min b p.hstart - a : Nat)
  let after := (b - max a (planEnd p) : Nat)
  (mid + (before : Rat) * f 0 + (after : Rat) * f (p.steps - 1)) / ((b - a : Nat) : Rat)

/-- Value at an epoch of step values that are valid at the ends of their steps, as mode RAMP gives it (R115, R196). -/
def rampLevel (p : Plan) (f : Nat → Rat) (t : Nat) : Nat → Nat → Option (Nat × Rat) → Rat
  | 0, _, prev => match prev with | some x => x.2 | none => 0
  | n + 1, k, prev =>
    let e := stepStart p k + stepLen p k
    if t < e then
      match prev with
      | some x => x.2 + (f k - x.2) * ((t - x.1 : Nat) : Rat) / ((e - x.1 : Nat) : Rat)
      | none => f k
    else rampLevel p f t n (k + 1) (some (e, f k))

/-- Step values of a plan on an exchange step (R196). -/
def resample (p : Plan) (level : Bool) (f : Nat → Rat) (a b : Nat) : F32 :=
  F32.ofRat (if level then rampLevel p f b p.steps 0 none else planMean p f a b)

/-- Coupled quantities of the records before a coupling. -/
def qtysBefore (e : Nat) : List (List Byte) → Nat
  | [] => 0
  | r :: l => if recId r = e then 0 else coupQtys r + qtysBefore e l

/-- The price of a coupled quantity in a step (R110). -/
def couplingPrice (m : NetModel) (p : Plan) (r : List Byte) (qi k : Nat) : Rat :=
  let base := ((elemsOf m 1).length + 3 * (elemsOf m 8).length + qtysBefore (recId r) (elemsOf m 9)) * p.steps
  (p.prices.getD (base + k * coupQtys r + qi) F32.zero).rat

/-- A list of numbers as message bytes. -/
def f32Bytes (l : List F32) : List Byte := (l.map (fun x => be 4 x.bits.toNat)).flatten

/-- AGREE_CRC of an agreement; with `mirror` as the peer holds it, its flows in the peer's sense (R197; log entry 54). -/
def agreeCrc (kind : Nat) (mirror : Bool) (g : Agree) : U32 :=
  if g.seq = 0 then 0#32
  else
    let a := fun (x : AgreeQ × Nat) =>
      if mirror && !(kind == 1 && x.2 == 1) then x.1.a.map (fun v => F32.ofRat (-v.rat)) else x.1.a
    crc32 (be 4 g.seq ++ be 4 g.rho.bits.toNat ++ (g.qs.zipIdx.map (fun x => f32Bytes (a x))).flatten ++
      (g.qs.map (fun q => f32Bytes q.y)).flatten)

/-- The proposal of a coupling (R196, R206, R210). -/
def State.proposal (s : State) (m : NetModel) (level : Nat) (r : List Byte) (c : CoupSt) : Proposal :=
  let g := s.exchGrid level
  let n := s.pn P.EXCH_STEPS level
  let oos := s.elemOos (recId r)
  let base : Proposal :=
    { src := coupIdx r, dst := coupRemote r, kind := rU8 r 16, seq := c.cur.seq, crc := agreeCrc (rU8 r 16) false c.cur
      rho := c.cur.rho, limMin := rF r 36, limMax := rF r 32, tMax := rF r 40, steps := n
      stepMin := g.stepMin, start := g.exchStart }
  match s.atEdge.sourcePlan with
  | none => { base with
      flags := BitVec.ofNat 8 (2 + 4 * b2n oos)
      qs := List.replicate (coupQtys r) { vals := List.replicate n F32.zero, prices := List.replicate n F32.zero } }
  | some p => { base with
      planId := p.planId
      flags := BitVec.ofNat 8 (b2n (p.planId != c.cur.lastPlanId && !oos) + 4 * b2n oos)
      qs := (List.range (coupQtys r)).map (fun qi =>
        let v := (varPos m (recId r) (2 * qi)).getD 0
        let lv := qi == 1
        { vals := (List.range n).map (fun k => resample p lv (weighted p v) (exchBound g k) (exchBound g (k + 1)))
          prices := (List.range n).map (fun k =>
            resample p lv (couplingPrice m p r qi) (exchBound g k) (exchBound g (k + 1))) }) }

/-- Bytes of a PROPOSE entry (R210). -/
def proposalBytes (x : Proposal) : List Byte :=
  beRec [(2, x.src), (2, x.dst), (1, x.kind), (1, x.flags.toNat), (1, x.qs.length), (1, 0), (4, x.seq), (4, x.crc.toNat),
    (4, x.rho.bits.toNat), (4, x.planId), (4, x.limMin.bits.toNat), (4, x.limMax.bits.toNat), (4, x.tMax.bits.toNat),
    (2, x.steps), (2, x.stepMin), (8, x.start)] ++
  (x.qs.map (fun q => ((q.vals.zip q.prices).map (fun z => f32Bytes [z.1, z.2])).flatten)).flatten

/-- The couplings of a level enter the round with their proposals (R193, R206). -/
def State.buildProposals (s : State) (m : NetModel) (level : Nat) : State :=
  (s.coupsAt level).foldl (fun a r =>
    let c := a.coupBase r (a.coup (coupIdx r))
    a.setCoup (coupIdx r) { c with heard := false, foreignHeard := false, own := some (a.proposal m level r c) }) s

/-- One PROPOSE per peer device (R193). -/
def State.sendProposals (s : State) (level : Nat) : State :=
  let rs := s.coupsAt level
  (rs.map coupPeer).eraseDups.foldl (fun a d =>
    a.sendQ level 2 d (((rs.filter (fun r => coupPeer r == d)).filterMap (fun r =>
      ((s.coup (coupIdx r)).own).map proposalBytes)).flatten)) s

/-! ### The agreement (R197, R198) -/

/-- The limits of a coupled quantity in the device's own sense: the intersection of both sides', none where it is open
below (R197). -/
def limitsOf (r : List Byte) (x : Proposal) (qi : Nat) : Option Rat × Rat :=
  if qi = 1 then (none, min (rQ r 40) x.tMax.rat)
  else (some (max (rQ r 36) (-x.limMax.rat)), min (rQ r 32) (-x.limMin.rat))

/-- S of a coupled quantity (R197). -/
def spanOf (r : List Byte) (x : Proposal) (qi : Nat) : Rat :=
  if qi = 1 then 20 else max 1 (max (rQ r 32 - rQ r 36) (x.limMax.rat - x.limMin.rat))

/-- The limits of the two sides do not meet. -/
def limitsEmpty (r : List Byte) (x : Proposal) : Bool :=
  match (limitsOf r x 0).1 with
  | some lo => decide ((limitsOf r x 0).2 < lo)
  | none => false

/-- The agreed value of one step (R197). -/
def agreedAt (r : List Byte) (x : Proposal) (qi : Nat) (own peer : F32) : F32 :=
  let l := limitsOf r x qi
  let mid := if qi = 1 then (own.rat + peer.rat) / 2 else (own.rat - peer.rat) / 2
  F32.ofRat (min l.2 (match l.1 with | some lo => max lo mid | none => mid))

/-- Largest magnitude of a list. -/
def maxAbs (l : List Rat) : Rat := l.foldl (fun a x => max a |x|) 0

/-- One quantity of an application: the new agreement, r and s (R197). -/
def applyQty (r : List Byte) (x : Proposal) (own : PropQ) (peer : PropQ) (old : AgreeQ) (fresh : Bool) (rho scale : Rat)
    (qi : Nat) : AgreeQ × Rat × Rat :=
  let sp := spanOf r x qi
  let a := (own.vals.zip peer.vals).map (fun z => agreedAt r x qi z.1 z.2)
  let gap := (own.vals.zip a).map (fun z => z.1.rat - z.2.rat)
  let y := gap.zipIdx.map (fun z => F32.ofRat ((old.y.getD z.2 F32.zero).rat + rho * scale * z.1 / sp))
  let move := a.zipIdx.map (fun z => z.1.rat - (old.a.getD z.2 F32.zero).rat)
  ({ a := a, y := y, span := F32.ofRat sp }, maxAbs gap / sp, if fresh then 0 else rho * maxAbs move / sp)

/-- The adaptation of the penalty weight (R198). -/
def adaptRho (rho r s : Rat) : Rat :=
  if 10 * s < r then min (2 * rho) 1000 else if 10 * r < s then max (rho / 2) (1 / 1000) else rho

/-- An application (R197, R198). -/
def State.applyAgree (s : State) (level round : Nat) (r : List Byte) (c : CoupSt) (own x : Proposal) : CoupSt :=
  let rho := min own.rho.rat x.rho.rat
  let g := s.exchGrid level
  let zs := (List.range (coupQtys r)).map (fun qi =>
    applyQty r x (own.qs.getD qi {}) (x.qs.getD qi {}) (c.cur.qs.getD qi {}) (c.cur.seq == 0) rho
      (s.pq P.FED_PRICE_SCALE 0) qi)
  let rr := zs.foldl (fun a z => max a z.2.1) 0
  let ss := zs.foldl (fun a z => max a z.2.2) 0
  { c with
    prevAgree := c.cur
    cur := { g with
      seq := (c.cur.seq + 1) % 2 ^ 32
      rho := F32.ofRat (if c.cur.seq = 0 then rho else adaptRho rho rr ss)
      qs := zs.map (fun z => z.1)
      lastPlanId := own.planId }
    state := 1, reason := 0, lastApplied := round, primal := F32.ofRat rr, dual := F32.ofRat ss }

/-- A resync (R198). -/
def resyncCoup (r : List Byte) (c : CoupSt) : CoupSt :=
  { c with
    state := 2, reason := 0
    cur := { c.cur with
      seq := 0, rho := rF r 44
      qs := c.cur.qs.map (fun q => { q with y := q.y.map (fun _ => F32.zero) }) } }

/-- The cases of R198. -/
def State.agreeCase (s : State) (level round : Nat) (r : List Byte) (c : CoupSt) (own x : Proposal) : State :=
  let i := coupIdx r
  let near := c.cur.seq = x.seq + 1 ∨ x.seq = c.cur.seq + 1
  let same := c.cur.seq = x.seq
  let crcSame := agreeCrc (rU8 r 16) true c.cur = x.crc
  if (¬same ∧ ¬near) ∨ (same ∧ c.cur.seq ≠ 0 ∧ ¬crcSame) then
    { s.setCoup i (resyncCoup r c) with fed.resyncs := s.fed.resyncs + 1 }
  else if near then (if x.seq < c.cur.seq then s.setCoup i { c with cur := c.prevAgree } else s.setCoup i c)
  else if own.flags.getLsbD 0 && x.flags.getLsbD 0 && !own.flags.getLsbD 1 && !x.flags.getLsbD 1 then
    s.setCoup i (s.applyAgree level round r c own x)
  else s.setCoup i c

/-- The price residual of two proposals (R197). -/
def priceRes (own x : Proposal) : F32 :=
  F32.ofRat (maxAbs (((own.qs.zip x.qs).map (fun z =>
    (z.1.prices.zip z.2.prices).map (fun w => w.1.rat - w.2.rat))).flatten))

/-- The reason for which an entry cannot be used (R203); 0: none. -/
def State.mismatch (s : State) (level : Nat) (r : List Byte) (own x : Proposal) : Nat :=
  if !s.levelFits r then 1
  else if x.kind != rU8 r 16 then 3
  else if x.steps != own.steps || x.stepMin != own.stepMin || x.start != own.start then 4
  else if limitsEmpty r x then 5
  else if (s.floorRec level).gap then 6
  else 0

/-- An entry reaches its coupling (R198, R202, R203, R206). Whether the peer runs on island time is a free value: no
field of the message says it (log entry 54). -/
def State.entryRx (s : State) (level round : Nat) (r : List Byte) (x : Proposal) : State :=
  let i := coupIdx r
  let c0 : CoupSt := { s.coup i with heard := true, peerOos := x.flags.getLsbD 2, peerIsland := s.freshWord.getLsbD 0 }
  let s0 := s.took
  if s0.elemOos (recId r) || c0.peerOos then
    s0.setCoup i { c0 with state := 4, reason := 0, pubState := 4 }
  else
    let c1 : CoupSt := if c0.state = 4 then { c0 with state := backState c0 } else c0
    match c1.own with
    | none => s0.setCoup i c1
    | some own =>
      let why := s0.mismatch level r own x
      let c2 : CoupSt := { c1 with price := priceRes own x }
      if why != 0 then s0.setCoup i { c2 with state := 3, reason := why }
      else s0.agreeCase level round r c2 own x

/-! ### Reception (R194, R207 to R210) -/

/-- A message or an entry is discarded and counted. -/
def State.qReject (s : State) : State := { s with fed.rejected := s.fed.rejected + 1 }

/-- A message's frame arrives: the message is complete when every segment has arrived (R208, R383). -/
def State.segArrive (s : State) (m : QMsg) : State × Bool :=
  if m.segCount ≤ 1 then (s, m.seg == 0)
  else
    let mine := fun (b : SegBuf) => b.src == m.src && b.seq == m.seq
    let old := (s.net.segs.find? mine).getD { src := m.src, seq := m.seq, count := m.segCount, level := m.level }
    let got := if old.got.contains m.seg || m.segCount ≤ m.seg then old.got else m.seg :: old.got
    let rest := s.net.segs.filter (fun b => !mine b)
    if got.length = old.count then ({ s with net.segs := rest }, true)
    else
      let segs := rest ++ [{ old with got := got }]
      ({ s with net.segs := segs }, false)

/-- Claim and sequence of a source are accepted (R209). -/
def State.claimOk (s : State) (m : QMsg) : Bool :=
  let p := tgetD s.fed.peers m.src {}
  !p.seen || decide (p.claim < m.claim) ||
    (m.claim == p.claim && (m.seq + 2 ^ 32 - p.seq) % 2 ^ 32 != 0 && decide ((m.seq + 2 ^ 32 - p.seq) % 2 ^ 32 < 2 ^ 31))

/-- The records of a source follow an accepted message (R209). -/
def State.sawQ (s : State) (m : QMsg) : State :=
  let s1 : State := { s with fed.peers := tset s.fed.peers m.src { claim := m.claim, seq := m.seq, seen := true } }
  if m.src = s.fed.addr then
    -- a claim report; a Qualoth message is live-claim evidence (R488, R490)
    let s2 := s1.claimSeen m.claim
    if s.pair.claim < m.claim then { s2 with pair.lastLive := some s.epoch } else s2
  else s1

/-- A port carries Qualoth messages: a ring port in service, or an access port in gateway use (R207, R377, R378). -/
def State.qPortOk (s : State) (p : Nat) : Bool :=
  decide (p < 4) && (s.port p).link && (if p < 2 then (s.port p).mode != 0 else (s.port p).mode == 3)

/-- The device listens to Qualoth messages: release is complete and the port of arrival carries them. -/
def State.qListens (s : State) (m : QMsg) : Bool :=
  s.rst.stage == 10 && !s.rst.asserted && s.qPortOk m.port &&
  (m.dst == qAll || m.dst == s.fed.addr)

/-- The header is one that the device can use: type, level, length, reserved fields. -/
def qHeadOk (m : QMsg) (kind : Nat) : Bool :=
  m.kind == kind && decide (4 ≤ m.level) && decide (m.level ≤ 6) && decide (m.len ≤ qMaxLen) && m.rsv == 0

/-- A message in a version that the device does not speak marks the couplings of its sender (R203). -/
def State.foreign (s : State) (m : QMsg) : State :=
  ((s.coupsAt m.level).filter (fun r => coupPeer r == m.src)).foldl (fun a r =>
    a.setCoup (coupIdx r) { a.coup (coupIdx r) with foreignHeard := true }) s

/-- An entry has the shape that its head gives it (R210). -/
def entryOk (x : Proposal) : Bool :=
  x.qs.length == (if x.kind = 1 then 2 else 1) && x.flags &&& 0xF8#8 == 0#8 && x.rho.isFin && x.limMin.isFin &&
  x.limMax.isFin && x.tMax.isFin &&
  x.qs.all (fun q => q.vals.length == x.steps && q.prices.length == x.steps && q.vals.all F32.isFin && q.prices.all F32.isFin)

/-- The PROPOSE belongs to the open round of its level, before that closes (R36, R194). -/
def State.inRound (s : State) (m : QMsg) : Bool :=
  tgetD s.fed.closeDue m.level false && m.round == tgetD s.fed.openings m.level 0 &&
  decide (s.epoch < tgetD s.fed.openings m.level 0 + roundTicks m.level)

/-- A PROPOSE that counts as received (R194, R198, R203). -/
def State.proposeIn (s : State) (m : QMsg) (ps : List Proposal) : State :=
  let rs := (s.coupsAt m.level).filter (fun r => coupPeer r == m.src)
  let s1 := rs.foldl (fun a r =>
    match ps.find? (fun x => x.src == coupRemote r && x.dst == coupIdx r) with
    | some x => a.entryRx m.level m.round r x
    | none =>
      let c := { a.coup (coupIdx r) with heard := true }
      a.setCoup (coupIdx r) (if c.state = 4 || !a.levelFits r then c else { c with state := 3, reason := 2 })) s
  let known := match s.activeModel with | some z => (elemsOf z 9).map coupIdx | none => []
  (ps.filter (fun x => !known.contains x.dst)).foldl (fun a _ => a.qReject) s1

/-- The floor records of an advertisement that belong to this device's own scopes (R212, R216). -/
def State.adoptFloors (s : State) (level : Nat) (fs : List (Nat × (Nat × (Nat × Nat)))) : State :=
  fs.zipIdx.foldl (fun a f =>
    if level ≤ f.2 + 4 then a.setFloor (f.2 + 4) (adoptRec (a.floorRec (f.2 + 4)) f.1) else a) s

/-- An ADVERTISE enters the member list of its level and brings its floors (R213, R216). -/
def State.advertiseIn (s : State) (m : QMsg) (d : Advert) : State :=
  if s.computes m.level then
    let e : FedMember :=
      if m.level = 4 then { addr := m.src, cur := d.cur, curMax := d.cur, members := 1, heardAt := s.epoch, round := m.round }
      else { addr := m.src, cur := d.aggMin, curMax := d.aggMax, members := d.members, heardAt := s.epoch, round := m.round }
    (s.setMembers m.level (putMember (s.fedMembers m.level) e)).adoptFloors m.level (d.floors.take 3)
  else s

/-! ### Opening and closing a round -/

/-- One coupling at the close of a round (R202, R203, R204). -/
def State.coupClose (s : State) (level : Nat) (r : List Byte) (c0 : CoupSt) : CoupSt :=
  let c := s.coupBase r c0
  let n := (tgetD s.fed.windows level []).getD 4 0
  let silent := if c.heard then 0 else min 255 (c.silent + 1)
  let foreign := if c.foreignHeard && !c.heard then min 255 (c.foreignVer + 1) else 0
  let c1 := { c with silent := silent, foreignVer := foreign, heard := false, foreignHeard := false }
  let c2 :=
    if c1.state = 4 || !s.fed.enabled || (c1.state = 3 && c1.reason = 1) then c1
    else if n ≤ foreign || (s.floorRec level).gap then { c1 with state := 3, reason := 6 }
    else if n ≤ silent then { c1 with state := 2, reason := 0 }
    else c1
  let ended := (c2.state = 2 ∨ c2.state = 3) ∧ !c2.cur.qs.isEmpty ∧
    exchBound c2.cur ((c2.cur.qs.getD 0 {}).a.length) ≤ s.epoch
  coupPublish { c2 with holdExpired := decide ended, own := none }

/-- A round closes: the agreement states are published (R199), unfinished messages are dropped and counted (R194, R208). -/
def State.closeRound (s : State) (level : Nat) : State :=
  if tgetD s.fed.closeDue level false && decide (tgetD s.fed.openings level 0 + roundTicks level ≤ s.epoch) then
    let s1 := (s.coupsAt level).foldl (fun a r =>
      a.setCoup (coupIdx r) (a.coupClose level r (a.coup (coupIdx r)))) s
    let segs := s1.net.segs.filter (fun b => b.level != level)
    { s1 with
      fed.closeDue := tset s1.fed.closeDue level false
      fed.rejected := s1.fed.rejected + BitVec.ofNat 32 (s1.net.segs.length - segs.length)
      net.segs := segs }
  else s

/-- What a device with FED_ENABLE set does at an opening (R193, R213 to R215). -/
def State.speakRound (s : State) (level : Nat) : State :=
  let s1 := if s.computes level then s.selfMember level else s
  let s2 := ((s1.settleFloor level).announce level).advertise level
  match s2.activeModel with
  | some m => (s2.buildProposals m level).sendProposals level
  | none => s2

/-- A round opens (R192, R193, R195, R216). -/
def State.openRound (s : State) (level : Nat) : State :=
  let s1 := (if level = 4 then s.fedRefresh else s).switchFloor level
  let s2 : State := { s1 with
    fed.openings := tset s1.fed.openings level s.epoch
    fed.closeDue := tset s1.fed.closeDue level true
    fed.windows := tset s1.fed.windows level (s1.exchWindow level ++ s1.roundPars level) }
  if s2.fed.enabled then s2.speakRound level else s2

end Sys2Proof.Machine
end

