-- ==== Sys2Proof/Machine/Federation.lean ====
section
/-! DEFINITION. Commands and events of the federation exchange (chapter "Federation exchange and mixed-version
operation"). -/

namespace Sys2Proof.Machine

/-- A level of the exchange. -/
def levelOk (level : Nat) : Bool := decide (4 ≤ level) && decide (level ≤ 6)

/-- ROUND_OPENING: at every epoch that is a multiple of the round time box, in order 7 (R192, R193). -/
def execRoundOpening (level : Nat) (s : State) : Host.Outcome State Fault Refusal :=
  .next (
    if s.live && levelOk level && s.orderOk 7 && s.epoch % roundTicks level == 0 &&
        tgetD s.fed.openings level 0 != s.epoch then
      ((s.atOrder 7).closeRound level).openRound level
    else s)

/-- ROUND_CLOSE: at the next opening (R192, R194, R199). -/
def execRoundClose (level : Nat) (s : State) : Host.Outcome State Fault Refusal :=
  .next (if s.live && levelOk level then s.closeRound level else s)

/-- PROPOSE_RX: reassembly, version, claim and sequence, round and shape; then the agreement (R194, R198, R207 to
R211). -/
def execProposeRx (m : QMsg) (ps : List Proposal) (s : State) : Host.Outcome State Fault Refusal :=
  .next (
    if !s.qListens m then s
    else
      let a := s.segArrive m
      if !a.2 then a.1
      else if !qHeadOk m 2 then a.1.qReject
      else if !s.speaks m.version then (a.1.foreign m).qReject
      else if !a.1.claimOk m then a.1.qReject
      else if m.src = s.fed.addr then a.1.sawQ m
      else if !s.live then a.1
      else if !a.1.inRound m || !ps.all entryOk then a.1.qReject
      else if s.fed.enabled then (a.1.sawQ m).proposeIn m ps
      else a.1.sawQ m)

/-- ADVERTISE_RX: the member list and the floors (R209, R211 to R216). -/
def execAdvertiseRx (m : QMsg) (a : Advert) (s : State) : Host.Outcome State Fault Refusal :=
  .next (
    if !s.qListens m then s
    else
      let z := s.segArrive m
      if !z.2 then z.1
      else if !qHeadOk m 1 then z.1.qReject
      else if !s.speaks m.version then (z.1.foreign m).qReject
      else if !z.1.claimOk m then z.1.qReject
      else if m.src = s.fed.addr then z.1.sawQ m
      else if s.live then (z.1.sawQ m).advertiseIn m a
      else z.1)

/-- MEMBER_EXPIRE: an entry whose sender has been silent for FLOOR_MEMORY_S as of the latest opening (R213, R218). -/
def execMemberExpire (level addr : Nat) (s : State) : Host.Outcome State Fault Refusal :=
  .next (
    if s.live && levelOk level && addr != s.fed.addr && !(tgetD s.fed.windows level []).isEmpty then
      let gone := fun (x : FedMember) => x.addr == addr && decide (x.heardAt + (tgetD s.fed.windows level []).getD 5 0 * 8000 ≤ s.epoch)
      s.setMembers level ((s.fedMembers level).filter (fun x => !gone x))
    else s)

/-- What the tables say of FORGET_MEMBER. -/
def forgetMemberInfo : CmdInfo := { op := 0x0E01, who := [.installer] }

/-- FORGET_MEMBER removes an entry of a member list (R213). -/
def forgetMemberVerdict (level addr : Nat) (_s : State) : Verdict :=
  if !levelOk level then reject St.RANGE
  else { act := fun t => t.setMembers level ((t.fedMembers level).filter (fun x => x.addr != addr)) }

/-- FORGET_MEMBER (R213). -/
def execForgetMember (h : Hdr) (level addr : Nat) (s : State) : Host.Outcome State Fault Refusal :=
  .next (s.command forgetMemberInfo h addr (forgetMemberVerdict level addr))

/-- The sides on which a gateway passes a message on: 0 its ring, 2 the level-6 ring, 3 the level-5 ring (R189 to R191). -/
def State.forwardTo (s : State) (m : QMsg) : List Nat :=
  if m.dst = qAll then [0] ++ (if s.fed.role = 2 && m.level == 6 then [2, 3] else [3])
  else
    match qLevel s.fed.addr m.dst with
    | 4 => if m.dst = s.fed.addr then [] else [0]
    | 5 => [3]
    | _ => if s.fed.role = 2 then [2] else [3]

/-- The side of a port. -/
def sideOf (p : Nat) : Nat := if p < 2 then 0 else p

/-- QUALOTH_FORWARD: a gateway passes a message of level 5 or 6 on to its other rings, whatever its version and without
touching it (R191). -/
def execQualothForward (m : QMsg) (s : State) : Host.Outcome State Fault Refusal :=
  .next (
    if s.ready && decide (1 ≤ s.fed.role) && s.qPortOk m.port &&
        (m.level == 5 || m.level == 6) && m.src != s.fed.addr then
      ((s.forwardTo m).filter (fun p => p != sideOf m.port)).foldl (fun a p =>
        a.sendQBytes (if p = 0 then none else some p) m.src m.seq m.bytes) s
    else s)

end Sys2Proof.Machine
end

