-- ==== Sys2Proof/Machine/Field.lean ====
section
/-! DEFINITION. The command and the events of the field I/O die (chapter "Field inputs and outputs"). -/

namespace Sys2Proof.Machine

/-- The die is fitted and released. -/
def State.dieOn (s : State) : Bool := s.fitted && s.rst.dieReleased && !s.rst.asserted

/-! ### FIELD_ACK -/

/-- What the tables say of FIELD_ACK. -/
def fieldAckInfo : CmdInfo := { op := 0x0801, who := [.operator, .installer], needsFit := true }

/-- Channels whose latch remains: named, latched, and the cause persists (R336). -/
def State.ackChans (s : State) (chans live : U32) : U32 :=
  BitVec.ofNat 32 (((List.range 32).map (fun c =>
    if chans.getLsbD c && (s.fio1 c).latch != 0#3 && live.getLsbD c then 2 ^ c else 0)).sum)

/-- A latched cut-off whose supply has not yet come back (R333). -/
def grpHeld (g : FioGrp) : Bool := g.state == 2 && g.recovery == 0

/-- Groups whose latch remains. -/
def State.ackGroups (s : State) (groups : BitVec 8) : BitVec 8 :=
  BitVec.ofNat 8 (((List.range 4).map (fun g =>
    if groups.getLsbD g && grpHeld (s.grp1 g) then 2 ^ g else 0)).sum)

/-- Analog outputs whose latch remains. -/
def State.ackAouts (s : State) (aouts live : BitVec 8) : BitVec 8 :=
  BitVec.ofNat 8 (((List.range 8).map (fun a =>
    if aouts.getLsbD a && (s.aout1 a).overload && live.getLsbD a then 2 ^ a else 0)).sum)

/-- Latches whose cause is gone are cleared; outputs resume at the next tick (R327, R333, R336, R341). -/
def State.fieldAcked (s : State) (chans : U32) (groups aouts : BitVec 8) (live : U32) (liveA : BitVec 8) :
    State :=
  { s with
    fio.chans := tmap s.fio.chans (fun c x =>
      if chans.getLsbD c && !live.getLsbD c then { x with latch := 0#3, clearDue := x.clearDue || x.latch != 0#3 }
      else x)
    fio.groups := tmap s.fio.groups (fun g x =>
      if groups.getLsbD g && x.state == 4 then { x with state := 0, recoverDue := true } else x)
    fio.aouts := tmap s.fio.aouts (fun a x =>
      if aouts.getLsbD a && !liveA.getLsbD a then { x with overload := false } else x) }

/-- FIELD_ACK: three masks in, the masks of what remains back (R336). -/
def fieldAckVerdict (h : Hdr) (chans : U32) (groups aouts : BitVec 8) (live : U32) (liveA : BitVec 8)
    (s : State) : Verdict :=
  if 16 ≤ groups.toNat || h.room < 6 then reject St.RANGE
  else
    { data := leRec [(4, (s.ackChans chans live).toNat), (1, (s.ackGroups groups).toNat),
        (1, (s.ackAouts aouts liveA).toNat)],
      act := fun t => t.fieldAcked chans groups aouts live liveA }

/-- FIELD_ACK (R336). -/
def execFieldAck (h : Hdr) (chans : U32) (groups : BitVec 8) (aouts : BitVec 8) (live : U32)
    (liveA : BitVec 8) (s : State) : Host.Outcome State Fault Refusal :=
  .next (s.command fieldAckInfo h 0 (fieldAckVerdict h chans groups aouts live liveA))

/-! ### The die link (R343) -/

/-- FIELD_LINK_LOSS: 8 ticks without a frame switch every output off. -/
def execFieldLinkLoss (s : State) : Host.Outcome State Fault Refusal :=
  .next (
    if s.dieOn && s.fio.linkUp && decide (8 ≤ s.fio.linkMiss) then
      ({ s.fieldOff with fio.linkUp := false, fio.linkGood := 0, fio.linkLosses := s.fio.linkLosses + 1 } : State).latchLocal
    else s)

/-- FIELD_LINK_RESTORE: 8 consecutive frames; inputs are latched afresh, filters run from 0. -/
def execFieldLinkRestore (s : State) : Host.Outcome State Fault Refusal :=
  .next (
    if s.dieOn && !s.fio.linkUp && decide (8 ≤ s.fio.linkGood) then
      ({ s.restartFilters (fun _ => true) with fio.linkUp := true } : State).latchLocal
    else s)

/-! ### Outputs -/

/-- A channel trips: off at once, a latch, one more trip (R327, R328). -/
def State.trip (s : State) (c bit : Nat) : State :=
  let x := s.fio1 c
  let s1 := s.closeEdge.setFio c
    { x with latch := x.latch ||| (1#3 <<< bit), trips := x.trips + 1, driven := false, duty := F32.zero }
  s1.setPt c { s1.pt c with status := outStatus (s1.pt c) (s1.chOutConds c) }

/-- OUTPUT_OVERLOAD: the current limit has held for OUT_LIMIT_MS (R327). -/
def execOutputOverload (ch : Nat) (s : State) : Host.Outcome State Fault Refusal :=
  .next (
    if s.dieOn && decide (ch < 32) && isOutMode (s.fio1 ch).mode && (s.fio1 ch).driven then s.trip ch 0 else s)

/-- OUTPUT_THERMAL: the switch has reached its shutdown temperature (R327). -/
def execOutputThermal (ch : Nat) (s : State) : Host.Outcome State Fault Refusal :=
  .next (
    if s.dieOn && decide (ch < 32) && isOutMode (s.fio1 ch).mode && !(s.fio1 ch).latch.getLsbD 1 then
      s.trip ch 1
    else s)

/-- The channel to shed: the greatest measured current, the lower number first among equals (R328). -/
def shedPick (cand : List (Nat × F32)) : Option (Nat × F32) :=
  cand.foldl (fun best x => match best with
    | none => some x
    | some b => if F32.lt b.2 x.2 then some x else some b) none

/-- Shedding, one output at a time, until the sum is at most 2.0 A (R328). -/
def State.shedLoop (s : State) : Nat → List (Nat × F32) → State
  | 0, _ => s
  | n + 1, cand =>
    if (cand.map (fun x => x.2.rat)).sum ≤ 2 then s
    else match shedPick cand with
      | none => s
      | some x => (s.trip x.1 2).shedLoop n (cand.filter (fun y => y.1 != x.1))

/-- GROUP_LIMIT_SHED: the group has stayed above 2.0 A for 5 ms; `amps` are the currents of its eight
channels (R328). -/
def execGroupLimitShed (grp : Nat) (amps : List F32) (s : State) : Host.Outcome State Fault Refusal :=
  .next (
    if s.dieOn && decide (grp < 4) then
      s.shedLoop 8 (((List.range 8).map (fun k => (8 * grp + k, amps.getD k F32.zero))).filter
        (fun x => isOutMode (s.fio1 x.1).mode && (s.fio1 x.1).driven))
    else s)

/-- Consecutive bad and good results of a test after one more, where the test is carried out. -/
def countTest (on bad : Bool) (n : Nat) (c : Nat × Nat) : Nat × Nat :=
  if !on then (0, 0) else if bad then (min n (c.1 + 1), 0) else (0, min n (c.2 + 1))

/-- A report after a test: set on `n` bad results in succession, clear on `n` good ones. -/
def reportAfter (n : Nat) (c : Nat × Nat) (was : Bool) : Bool := if c.1 = n then true else if c.2 = n then false else was

/-- Result of an off-state test (R329): short and open load, each on three consecutive tests; a test that is disabled or
masked counts neither way, and its report stays. -/
def offTest (x : FioCh) (en : Nat) (masked : Bool) (v0 v1 vfld : F32) : FioCh :=
  let s := countTest (bitOf en 1 && !masked) (decide (vfld.rat - 3 ≤ v0.rat)) 3 (x.cntShort, x.cntClear)
  let o := countTest (bitOf en 0) (decide (v0.rat < 3) && decide (6 ≤ v1.rat)) 3 (x.cntOpen, x.cntGood)
  { x with
    cntShort := s.1, cntClear := s.2, cntOpen := o.1, cntGood := o.2
    short := reportAfter 3 s x.short, openLoad := reportAfter 3 o x.openLoad }

/-- Result of an on-state test: open load after 100 ms below ON_OPEN_MA, reports cleared after 100 ms at or
above it (R329). -/
def onTest (x : FioCh) (en limMa : Nat) (masked : Bool) (amps : F32) : FioCh :=
  let low := decide (amps.rat * 1000 < (limMa : Rat))
  let x1 := { x with
    cntOpen := if bitOf en 2 && !masked && low then min 10 (x.cntOpen + 1) else 0
    cntGood := if low then 0 else min 10 (x.cntGood + 1) }
  { x1 with
    short := if x1.cntGood = 10 then false else x.short
    openLoad := if x1.cntOpen = 10 then true else if x1.cntGood = 10 then false else x.openLoad }

/-- The present PWM period has an off-time above 10 ms (R329). -/
def longOff (x : FioCh) : Bool := decide ((1 : Rat) < (100 - x.duty.rat) / (x.pwmHz : Rat))

/-- OUTPUT_DIAG_TEST: the test of an output every 10 ms, with the pin's voltages without and with the test
source, the field supply and the load current (R329, R331). -/
def execOutputDiagTest (ch : Nat) (vOff : F32) (vOn : F32) (vfld : F32) (amps : F32) (s : State) :
    Host.Outcome State Fault Refusal :=
  .next (
    let x := s.fio1 ch
    if s.dieOn && decide (ch < 32) && isOutMode x.mode then
      let en := s.pn P.OUT_DIAG_EN ch
      let m := s.sharedMasked ch
      if x.driven && !(x.mode == 5 && longOff x) then
        s.setFio ch (onTest x en (s.pn P.ON_OPEN_MA ch) m amps)
      else s.setFio ch (offTest x en m vOff vOn vfld)
    else s)

/-- SHARED_MASK_END: 40 ms after the partner stopped being active (R331). -/
def execSharedMaskEnd (s : State) : Host.Outcome State Fault Refusal :=
  .next (
    if s.fio.maskUntil != 0 && decide (s.fio.maskUntil ≤ s.epoch) then { s with fio.maskUntil := 0 } else s)

/-- PWM_PERIOD_BOUNDARY: the newest applied duty cycle, and PWM_FREQ_HZ, take effect; an on-time or
off-time below 20 µs is not produced (R326). -/
def execPwmPeriodBoundary (ch : Nat) (s : State) : Host.Outcome State Fault Refusal :=
  .next (
    let x := s.fio1 ch
    if s.dieOn && decide (ch < 32) && x.mode == 5 then
      let hz := s.pn P.PWM_FREQ_HZ ch
      let allowed := s.mayDrive && !grpCut (s.grp1 (grpOfCh ch)) && x.latch == 0#3 && !x.clearDue && x.hasValue
      -- one per cent of the period in µs is 10^4 / f
      let per := (10000 : Rat) / (hz : Rat)
      let d :=
        if !allowed then F32.zero
        else if x.dutyNext.rat * per < 20 then F32.zero
        else if (100 - x.dutyNext.rat) * per < 20 then ⟨0x42C80000#32⟩
        else x.dutyNext
      (s.setFio ch { x with duty := d, pwmHz := hz }).driveCh ch
    else s)

/-! ### Group supplies -/

/-- SUPPLY_WARN_CROSS: the warning level crossed down, or 0.5 V above it crossed up (R332). -/
def execSupplyWarnCross (grp : Nat) (down : Bool) (volts : F32) (s : State) :
    Host.Outcome State Fault Refusal :=
  .next (
    let lvl := s.pq P.GRP_WARN_V grp
    if s.dieOn && decide (grp < 4) &&
        (if down then decide (volts.rat < lvl) else decide (lvl + 1/2 ≤ volts.rat)) then
      s.setGrp grp { s.grp1 grp with warn := down }
    else s)

/-- The outputs of a group switch off (R333). -/
def State.cutGroup (s : State) (g : Nat) : State :=
  { s with
    fio.chans := tmap s.fio.chans (fun c x =>
      if grpOfCh c = g then { x with driven := false, duty := F32.zero } else x)
    fio.aouts := tmap s.fio.aouts (fun a x => if grpOfAout a = g then { x with driven := F32.zero } else x) }

/-- SUPPLY_CUTOFF: the supply has stayed below cut-off for GRP_CUTOFF_MS: the outputs switch off, and the
recovery mode is selected (R333). -/
def execSupplyCutoff (grp : Nat) (volts : F32) (s : State) : Host.Outcome State Fault Refusal :=
  .next (
    let g := s.grp1 grp
    if s.dieOn && decide (grp < 4) && !g.cutoffBelow && decide (volts.rat < s.pq P.GRP_CUTOFF_V grp) then
      (s.setGrp grp { g with
        state := 2, cutoffBelow := true, cutoffs := g.cutoffs + 1, lastCutoff := s.epoch, recoverDue := false,
        recovery := s.pn P.GRP_RECOVERY grp, holdoff := s.pn P.GRP_HOLDOFF_MS grp }).cutGroup grp
    else s)

/-- SUPPLY_CUTOFF_UP: the upward crossing starts the hold-off, or the wait for an acknowledgement (R333). -/
def execSupplyCutoffUp (grp : Nat) (volts : F32) (s : State) : Host.Outcome State Fault Refusal :=
  .next (
    let g := s.grp1 grp
    if s.dieOn && decide (grp < 4) && g.cutoffBelow && decide (s.pq P.GRP_CUTOFF_V grp + 1/2 ≤ volts.rat) then
      s.setGrp grp { g with cutoffBelow := false, holdFrom := s.epoch,
                            state := if g.recovery = 1 then 3 else 4 }
    else s)

/-- SUPPLY_HOLDOFF_END: the supply has stayed above cut-off for GRP_HOLDOFF_MS; outputs resume at the next
tick edge (R333). -/
def execSupplyHoldoffEnd (grp : Nat) (s : State) : Host.Outcome State Fault Refusal :=
  .next (
    let g := s.grp1 grp
    if s.dieOn && decide (grp < 4) && g.state == 3 && decide (g.holdFrom + 8 * g.holdoff ≤ s.epoch) then
      s.setGrp grp { g with state := 0, recoverDue := true }
    else s)

/-- INPUT_VALIDITY_LOSS: the group's inputs are invalid, their filters held at 0 (R334). -/
def execInputValidityLoss (grp : Nat) (volts : F32) (s : State) : Host.Outcome State Fault Refusal :=
  .next (
    let g := s.grp1 grp
    if s.dieOn && decide (grp < 4) && g.inputsValid && decide (volts.rat < s.pq P.GRP_VALID_V grp) then
      (s.setGrp grp { g with inputsValid := false }).restartFilters (fun c => grpOfCh c == grp)
    else s)

/-- INPUT_VALIDITY_RESTORE: the filters run from 0 (R334). -/
def execInputValidityRestore (grp : Nat) (volts : F32) (s : State) : Host.Outcome State Fault Refusal :=
  .next (
    let g := s.grp1 grp
    if s.dieOn && decide (grp < 4) && !g.inputsValid && decide (s.pq P.GRP_VALID_V grp + 1/2 ≤ volts.rat) then
      (s.setGrp grp { g with inputsValid := true }).restartFilters (fun c => grpOfCh c == grp)
    else s)

/-! ### Inputs -/

/-- One step of the filter counter (R322). -/
def filterStep (n k : Nat) (state raw : Bool) : Nat × Bool :=
  if n = 0 then (0, raw)
  else
    let k1 := if raw then min (k + 1) n else k - 1
    (k1, if k1 = n then true else if k1 = 0 then false else state)

/-- A rising edge of a pulse input: counted modulo 2^24 and timestamped (R323). -/
def pulseEdge (x : FioCh) (time : Nat) : FioCh :=
  { x with
    count := (x.count + 1) % 16777216
    edges := time :: ((x.edges.take 1) ++ (x.edges.drop 1).filter (fun t => decide (time ≤ t + 10000 * cd6PerMs))) }

/-- The voltage at and above which an input is seen on: type 1 in mode 1, type 3 in mode 2; the table gives mode 4 no
type of its own, so that it takes the higher (R317, R321; log entry 66). -/
def inputOn (mode : Nat) : Rat := if mode = 2 then 21 / 2 else 29 / 2

/-- The comparator's sample where the table fixes it: on at or above the type's threshold, off at or below 6.0 V, for a
pin between −3 V and 32 V; anywhere else the switching point is the device's own (R321; log entry 66). -/
def inputSeen (mode : Nat) (volts : F32) : Option Bool :=
  let v := volts.rat
  if !volts.isFin || decide (v < -3) || decide (32 < v) then none
  else if inputOn mode ≤ v then some true
  else if v ≤ 6 then some false
  else none

/-- One microsecond of a channel's filter with a comparator's sample (R322, R323). -/
def State.filterSample (s : State) (ch : Nat) (raw : Bool) (time : Nat) : State :=
  let x := s.fio1 ch
  let r := filterStep (s.pn P.FIO_FILTER_US ch) x.k x.state raw
  let x1 := { x with k := r.1, state := r.2, runUs := min 100000 (x.runUs + 1) }
  s.setFio ch (if x.mode = 4 && r.2 && !x.state then pulseEdge x1 time else x1)

/-- FILTER_COUNTER_STEP: one microsecond of a channel's filter; the pin's voltage at the last CD6 cycle of that
microsecond and the number of that cycle (R321 to R323). Between the thresholds the sample is a free value. The counter
is held at 0 while the group's inputs are invalid. -/
def execFilterCounterStep (ch : Nat) (volts : F32) (time : Nat) (s : State) :
    Host.Outcome State Fault Refusal :=
  .next (
    if s.dieOn && decide (ch < 32) && isInMode (s.fio1 ch).mode && (s.grp1 (grpOfCh ch)).inputsValid then
      match inputSeen (s.fio1 ch).mode volts with
      | some raw => s.filterSample ch raw time
      | none => (s.filterSample ch (s.freshWord.getLsbD 0) time).took
    else s)

/-- SHUNT_OPEN: the current shunt disconnects above 30 mA, and reconnects (R335). -/
def execShuntOpen (ain : Nat) (isOpen : Bool) (s : State) : Host.Outcome State Fault Refusal :=
  .next (
    if s.dieOn && decide (ain < 16) && (s.ain1 ain).range == 2 then
      s.setAin ain { s.ain1 ain with shuntOpen := isOpen }
    else s)

/-- AOUT_OPEN_LOAD: a current output has not reached its command for 10 ms, or reaches it again (R341). -/
def execAoutOpenLoad (a : Nat) (present : Bool) (s : State) : Host.Outcome State Fault Refusal :=
  .next (
    if s.dieOn && decide (a < 8) && (s.aout1 a).range == 2 &&
        (!present || bitOf (s.pn P.AOUT_DIAG_EN a) 0) then
      s.setAout a { s.aout1 a with openLoad := present }
    else s)

/-- AOUT_OVERLOAD: a voltage output above 25 mA for 10 ms goes to 0 V and latches (R341). -/
def execAoutOverload (a : Nat) (s : State) : Host.Outcome State Fault Refusal :=
  .next (
    if s.dieOn && decide (a < 8) && (s.aout1 a).range == 1 && bitOf (s.pn P.AOUT_DIAG_EN a) 1 then
      s.setAout a { s.aout1 a with overload := true, driven := F32.zero }
    else s)

end Sys2Proof.Machine
end

