-- ==== Sys2Proof/Machine/Lanes.lean ====
section
/-! DEFINITION. The commands and events of the control lanes (chapter "Closed-loop control lanes"). -/

namespace Sys2Proof.Machine

/-! ### Samples (R222, R225, R239 to R242) -/

/-- The present tick is a sample tick of the lane (R222). -/
def State.laneTick (s : State) (l : Nat) : Bool := onTick s.epoch (s.lane? l).periodForce (s.pn P.PHASE_TICKS l)

/-- Lanes may sample: release, clock and role, and the first committed output configuration (R241, R524). -/
def State.lanesRun (s : State) : Bool := s.live && (s.rst.outCfgDone || !s.fitted)

/-- A lane has a sample due at this tick that has not started (R222). -/
def State.sampleDue (s : State) (l : Nat) : Bool :=
  s.pn P.LANE_ENABLE l == 1 && s.laneTick l && (s.lane? l).lastDue != some s.epoch

/-- The processor of a lane runs no sample, and no lane of it with a lower number waits for its own (R221, R223). -/
def State.procTurn (s : State) (l : Nat) : Bool :=
  (List.range 64).all (fun j =>
    let k := 64 * (l / 64) + j
    k == l || ((s.lane? k).sample.isNone && (decide (l < k) || !s.sampleDue k)))

/-- What a sample that starts now reads: the versions of the tick boundary; of the lane itself its present state, so
that an acknowledgement counts (R19, R222, R237). -/
def State.laneEdge (s : State) (l : Nat) : State :=
  match s.edge with
  | some _ => let z := s.atEdge; z.setLane l { z.lane? l with core := (s.lane? l).core }
  | none => s

/-- A sample starts: its result waits for completion (R225). -/
def State.laneStart (s : State) (l : Nat) : State :=
  let c := (s.laneEdge l).laneSampleCore l
  s.setLane l { s.lane? l with
    enabled := true, lastDue := some s.epoch
    sample := some { start := s.epoch, next := c, point := s.ptRef P.OUT_POINT l, value := c.out } }

/-- LANE_SAMPLE_START, order 7: the samples of a processor run one at a time, in rising order; a lane that its
committed configuration disables stops here (R221 to R223, R241, R242). -/
def execLaneSampleStart (lane : Nat) (s : State) : Host.Outcome State Fault Refusal :=
  .next (
    if s.lanesRun && s.orderOk 7 && decide (lane < 1024) && s.laneTick lane &&
        (s.lane? lane).lastDue != some s.epoch && (s.lane? lane).sample.isNone then
      (if s.pn P.LANE_ENABLE lane = 1 then (if s.procTurn lane then (s.atOrder 7).laneStart lane else s)
       else if (s.lane? lane).enabled then
        (s.atOrder 7).setLane lane { s.lane? lane with
          enabled := false, core := {}, window := [], lastDue := some s.epoch }
       else s)
    else s)

/-- The FB_POINT of a lane that reports IMPLAUSIBLE counts against the window (R175). -/
def State.noteImpl (s : State) (l : Nat) (c : LaneCore) : State :=
  if c.cond.getLsbD 2 && !(s.perc.implPts.contains (s.pn P.FB_POINT l)) then
    { s with perc.implPts := s.pn P.FB_POINT l :: s.perc.implPts }
  else s

/-- A sample that completes in its tick: the lane's state and its output point (R225, R226). -/
def State.laneDone (s : State) (l : Nat) (x : LaneSample) : State :=
  let z := s.lane? l
  let s1 := s.setLane l { z with
    core := x.next, sample := none, swapBumpless := false
    window := (false :: z.window).take (s.pn P.OVR_WINDOW l) }
  let s2 := s1.noteImpl l x.next
  match x.point with
  | some p => s2.applyPoint p x.value s.epoch
  | none => s2

/-- LANE_SAMPLE_COMPLETE; what it writes is later than the tick boundary (R19, R225). -/
def execLaneSampleComplete (lane : Nat) (s : State) : Host.Outcome State Fault Refusal :=
  .next (
    match (s.lane? lane).sample with
    | some x => if s.lanesRun && x.start == s.epoch then s.closeEdge.laneDone lane x else s
    | none => s)

/-- A lane enters SAFE for its overruns (R240). -/
def State.laneSafeOvr (s : State) (l : Nat) : State :=
  let z := s.lane? l
  s.setLane l { z with core := { z.core with state := 5, safeByOvr := true, ackHeld := false, normalSince := none } }

/-- The reaction to OVR_LIMIT overruns (R240). -/
def State.laneReact (s : State) (l : Nat) : State :=
  let z := s.lane? l
  let s1 := s.setLane l { z with window := [] }
  if s.pn P.OVR_ACTION l = 1 || 480000 < 2 * z.periodForce then s1.laneSafeOvr l
  else s1.setLane l { s1.lane? l with periodForce := 2 * z.periodForce, periodDoubled := true }

/-- A sample is lost: counted, and the window looked at (R239, R240). -/
def State.laneMiss (s : State) (l : Nat) : State :=
  let z := s.lane? l
  let w := (true :: z.window).take (s.pn P.OVR_WINDOW l)
  let s1 := { s.setLane l { z with
      sample := none, lastDue := some s.epoch, overruns := z.overruns + 1, window := w } with
    lane.overrunsTotal := s.lane.overrunsTotal + 1 }
  if s.pn P.OVR_LIMIT l ≤ (w.filter (fun b => b)).length then s1.laneReact l else s1

/-- LANE_OVERRUN: at the end of a tick a sample has not completed, or was due and has not started (R239). -/
def execLaneOverrun (lane : Nat) (s : State) : Host.Outcome State Fault Refusal :=
  .next (
    if s.lanesRun && decide (lane < 1024) &&
        ((s.lane? lane).sample.isSome ||
         (s.pn P.LANE_ENABLE lane == 1 && s.laneTick lane && (s.lane? lane).lastDue != some s.epoch)) then
      s.laneMiss lane
    else s)

/-! ### Bank swaps (R234) -/

/-- What the tables say of BANK_SWAP. -/
def bankSwapInfo : CmdInfo := { op := 0x0A01, who := [.installer] }

/-- The parameters of BANK_SWAP lie in their ranges: 1 to 1,024 lanes, no lane twice, SWAP_EPOCH at most 24 h ahead. -/
def swapRange (lanes : List Nat) (epoch now : Nat) : Bool :=
  !lanes.isEmpty && decide (lanes.length ≤ 1024) && lanes.all (fun l => decide (l < 1024)) && decide lanes.Nodup &&
  decide (epoch ≤ now + 86400 * ticksPerS)

/-- The swaps of named lanes are pending. -/
def State.swapOpen (s : State) (h : U32) (lanes : List Nat) (epoch : Nat) : State :=
  let s1 := lanes.foldl (fun a l => a.setLane l { a.lane? l with swapPend := some epoch, swapAcc := a.epoch }) s
  { s1 with lane.swaps := s1.lane.swaps ++ [{ handle := h, lanes := lanes }] }

/-- BANK_SWAP (R234). -/
def bankSwapVerdict (h : Hdr) (lanes : List Nat) (epoch : Nat) (s : State) : Verdict :=
  if !swapRange lanes epoch s.epoch then reject St.RANGE
  else if lanes.any (fun l => (s.lane? l).swapPend.isSome) then reject St.BUSY
  else if lanes.any (fun l => !s.bankOk (s.inactiveBank l) l) || !s.slotsOk then reject St.DISAGREE
  else s.long h 0x0A01 (fun n t => t.swapOpen n lanes epoch)

/-- BANK_SWAP (R234). -/
def execBankSwap (h : Hdr) (lanes : List Nat) (epoch : Nat) (s : State) : Host.Outcome State Fault Refusal :=
  .next (s.command bankSwapInfo h epoch (bankSwapVerdict h lanes epoch))

/-- A lane has swapped: the operations that name it go on, or complete. -/
def State.swapNote (s : State) (l : Nat) : State :=
  let ops := s.lane.swaps.map (fun o => if o.lanes.contains l then
    { o with lanes := o.lanes.filter (fun x => x != l), swapped := o.swapped + 1 } else o)
  let done := ops.filter (fun o => o.lanes.isEmpty)
  done.foldl (fun a o => a.complete o.handle St.OK 0 [])
    { s with lane.swaps := ops.filter (fun o => !o.lanes.isEmpty) }

/-- The banks of a lane change places (R233, R234). -/
def State.doSwap (s : State) (l : Nat) : State :=
  let z := s.lane? l
  let s1 := s.setLane l { z with bankSel := !z.bankSel, swapPend := none }
  (s1.setLane l { s1.lane? l with swapBumpless := z.swapBumpless || s1.pn P.BUMPLESS_SWAP l == 1 }).swapNote l

/-- LANE_BANK_SWAP_DUE, order 5: the first sample tick at or after SWAP_EPOCH; any tick where the lane is
disabled (R234). -/
def execLaneBankSwapDue (lane : Nat) (s : State) : Host.Outcome State Fault Refusal :=
  .next (
    let z := s.lane? lane
    match z.swapPend with
    | some e =>
      if s.live && s.orderOk 5 && decide (z.swapAcc < s.epoch) && decide (e ≤ s.epoch) &&
          (s.pn P.LANE_ENABLE lane != 1 || s.laneTick lane) then
        ((s.atOrder 5).doSwap lane).auditApplied 0
      else s
    | none => s)

/-! ### Acknowledgement and period (R237, R240) -/

/-- What the tables say of LANE_ACK. -/
def laneAckInfo : CmdInfo := { op := 0x0A02, who := [.operator, .installer] }

/-- The acknowledgement is held while the lane is in SAFE (R237). -/
def State.laneAcked (s : State) (l : Nat) : State :=
  let z := s.lane? l
  if z.core.state = 5 then
    s.setLane l { z with
      core := { z.core with ackHeld := true }
      sample := z.sample.map (fun x =>
        if x.next.state = 5 then { x with next := { x.next with ackHeld := true } } else x) }
  else s

/-- LANE_ACK: OK in every state (R237). -/
def laneAckVerdict (lane : Nat) (_s : State) : Verdict :=
  if lane < 1024 then { act := fun t => t.laneAcked lane } else reject St.RANGE

/-- LANE_ACK (R237). -/
def execLaneAck (h : Hdr) (lane : Nat) (s : State) : Host.Outcome State Fault Refusal :=
  .next (s.command laneAckInfo h lane (laneAckVerdict lane))

/-- What the tables say of PERIOD_RESTORE. -/
def periodRestoreInfo : CmdInfo := { op := 0x0A03, who := [.installer] }

/-- The period in force is PERIOD_TICKS again (R240). -/
def State.periodBack (s : State) (l : Nat) : State :=
  s.setLane l { s.lane? l with periodForce := s.pn P.PERIOD_TICKS l, periodDoubled := false }

/-- PERIOD_RESTORE (R240). -/
def periodRestoreVerdict (lane : Nat) (_s : State) : Verdict :=
  if lane < 1024 then { act := fun t => t.periodBack lane } else reject St.RANGE

/-- PERIOD_RESTORE (R240). -/
def execPeriodRestore (h : Hdr) (lane : Nat) (s : State) : Host.Outcome State Fault Refusal :=
  .next (s.command periodRestoreInfo h lane (periodRestoreVerdict lane))

end Sys2Proof.Machine
end

