-- ==== Sys2Proof/Machine/Solves.lean ====
section
/-! DEFINITION. The solve cycle: solves, plan boundaries, commitments and the activation of a model (chapters "Solve
cycle, timing and plan hand-over" and "The network model"). -/

namespace Sys2Proof.Machine

/-! ### Model activation (R72, R73) -/

/-- What the tables say of MODEL_ACTIVATE. -/
def modelActivateInfo : CmdInfo := { op := 0x0C02, who := [.installer], needsFit := true }

/-- The first check that a staged model fails at its activation, 0 for none: one that was opened before runs every check
of a load again (R64, R72, R75). Of several that fail, the capacity rule is reported before the bindings, and they before
the FIXED points: DESIGN CHOICE (log entry 67). -/
def State.activateCode (s : State) (m : NetModel) : Nat :=
  let again := if s.model.tried then ((s.modelLoadFails s.model.image).headD (0, refNone, 0)).1 else 0
  if again != 0 then again
  else if !s.fitsCapacity m then 0x0401
  else s.activationCode (match s.activeProg with | some p => progElems p | none => []) m

/-- The activation is accepted: both handles are taken, and the checks decide whether it goes on (R73, R75, R127). -/
def State.beginActivation (s : State) (n : U32) (tag : U32) (keep : Bool) (m : NetModel) : State :=
  let h := s.solveHandle
  let code := s.activateCode m
  let s1 : State := { h.2 with
    model.op := some { kind := 2, handle := n, tag := tag, seq := s.host.accSeq, keepCal := keep, solveHandle := h.1 }
    model.openNote := some (n, tag)
    model.tried := true
    model.serviceStaged := s.model.serviceStaged.map (fun x => if x.2.2 = 0 then (x.1, x.2.1, s.epoch) else x)
    host.accSeq := s.host.accSeq + 1 }
  if code = 0 then s1
  else (s1.endActivation (codeStatus code) code).endPlan (neverStarted h.1 1 4) 5

/-- MODEL_ACTIVATE: one load or activation at a time, a staged model, two free handles (R68, R73, R127). -/
def modelActivateVerdict (h : Hdr) (keepCal : Bool) (s : State) : Verdict :=
  if s.model.op.isSome then reject St.BUSY
  else match s.stagedModel with
    | none => reject St.DISAGREE
    | some m =>
      if s.host.freeList.length < 2 then reject St.BUSY
      else s.long h 0x0C02 (fun n t => t.beginActivation n h.tag keepCal m)

/-- MODEL_ACTIVATE (R73, R74). -/
def execModelActivate (h : Hdr) (keepCal : Bool) (s : State) : Host.Outcome State Fault Refusal :=
  .next (s.command modelActivateInfo h 0 (modelActivateVerdict h keepCal))

/-! ### Solves -/

/-- What the tables say of SOLVE. -/
def solveInfo : CmdInfo := { op := 0x0C07, who := [.operator, .installer], needsFit := true }

/-- SOLVE (R124). -/
def solveVerdict (h : Hdr) (kind budget hstart : Nat) (s : State) : Verdict :=
  if !((kind == 1 || kind == 2) && (budget == 0 || (decide (20 ≤ budget) && decide (budget ≤ 900000))) &&
      decide (hstart ≤ s.epoch + 86400 * 8000)) then reject St.RANGE
  else if s.activeModel.isNone then reject St.WRONG_MODE
  else if s.slv.waiting.isSome then reject St.BUSY
  else s.long h 0x0C07 (fun n t => { t with
    slv.waiting := some { handle := n, kind := kind, budget := budget, hstart := hstart, acc := t.epoch } })

/-- SOLVE (R124). -/
def execSolve (h : Hdr) (kind budget hstart : Nat) (s : State) : Host.Outcome State Fault Refusal :=
  .next (s.command solveInfo h 0 (solveVerdict h kind budget hstart))

/-- CADENCE_POINT: order 7, with SOLVE_ENABLE 1 and an active model (R119, R128). -/
def execCadencePoint (s : State) : Host.Outcome State Fault Refusal :=
  .next (
    if s.solveOn && s.orderOk 7 && !s.closeOwed && s.pn P.SOLVE_ENABLE 0 == 1 && s.activeModel.isSome && s.atCadence then
      (s.atOrder 7).cadenceAct
    else s)

/-- SOLVE_START: order 7 (R118, R120). -/
def execSolveStart (s : State) : Host.Outcome State Fault Refusal :=
  .next (if s.solveOn && s.orderOk 7 && !s.closeOwed then (s.atOrder 7).startDue else s)

/-- SOLVE_PUBLISH (R107, R125, R133). -/
def execSolvePublish (r : SolveResult) (s : State) : Host.Outcome State Fault Refusal :=
  .next (
    match s.slv.running with
    | some v => if s.solveOn then s.publish v r else s
    | none => s)

/-- SOLVE_OVERRUN: the plan is not published at S + B and is discarded, with the status with which iterating ended
(R126, R142). -/
def execSolveOverrun (us : Nat) (r : SolveResult) (s : State) : Host.Outcome State Fault Refusal :=
  .next (
    match s.slv.running with
    | some v =>
      if s.solveOn && decide (v.start + 8 * v.budget ≤ s.epoch) && s.solveTime v us && decide (1 ≤ r.status) &&
          decide (r.status ≤ 4) then
        s.solveDone.endPlan (unpublished v r.status { r with timeUs := us }) 3
      else s
    | none => s)

/-- SOLVE_STOPPED: a preempted or cancelled solve stops at the end of an iteration (R128, R138, R142). -/
def execSolveStopped (us : Nat) (r : SolveResult) (s : State) : Host.Outcome State Fault Refusal :=
  .next (
    match s.slv.running with
    | some v =>
      if s.solveOn && v.stopReq != 0 && !v.publishing && s.solveTime v us then
        s.solveDone.endPlan (unpublished v 8 { r with timeUs := us }) v.stopReq
      else s
    | none => s)

/-! ### Plans -/

/-- PLAN_BOUNDARY: order 4 (R133). -/
def execPlanBoundary (s : State) : Host.Outcome State Fault Refusal :=
  .next (if s.solveOn && s.orderOk 4 && !s.slv.staged.isEmpty then (s.atOrder 4).judgePlans else s)

/-- PLAN_STALE_TIMEOUT (R139). -/
def execPlanStaleTimeout (s : State) : Host.Outcome State Fault Refusal :=
  .next (
    if s.solveOn && !s.slv.stale && decide (s.slv.lastBoundary + s.pn P.PLAN_STALE_S 0 * 8000 ≤ s.epoch) then
      ({ s with slv.stale := true } : State).condition St.PLAN_STALE []
    else s)

/-! ### Flexibility -/

/-- What the tables say of FLEX_ACTIVATE. -/
def flexActivateInfo : CmdInfo := { op := 0x0C08, who := [.operator, .installer], needsFit := true }

/-- The fields of FLEX_ACTIVATE lie in their ranges (R129). -/
def State.flexOk (s : State) (a : FlexArg) : Bool :=
  match s.activeModel with
  | none => false
  | some m => match findElem m a.grid with
    | none => false
    | some r =>
      decide (a.slot < 16) && recType r == 8 && a.bandMin.isFin && a.bandMax.isFin &&
      decide (-(rQ r 20) ≤ a.bandMin.rat) && decide (a.bandMin.rat ≤ a.bandMax.rat) && decide (a.bandMax.rat ≤ rQ r 16) &&
      decide (a.start ≤ s.epoch + 48 * 3600 * 8000) && decide (a.start < a.stop) && decide (s.epoch < a.stop) &&
      decide (a.stop ≤ s.epoch + 48 * 3600 * 8000)

/-- FLEX_ACTIVATE (R129). -/
def flexActivateVerdict (h : Hdr) (a : FlexArg) (s : State) : Verdict :=
  if !s.flexOk a then reject St.RANGE
  else s.long h 0x0C08 (fun n t =>
    let f : FlexSlot :=
      { filled := true, grid := a.grid, bandMin := a.bandMin, bandMax := a.bandMax
        start := if a.start = 0 then t.epoch else a.start, stop := a.stop, extId := a.extId, acc := t.epoch }
    let t1 : State := { t with slv.slots := tset t.slv.slots a.slot f }
    (t1.addFlexWait n a.extId).triggerFast f.start)

/-- FLEX_ACTIVATE (R129). -/
def execFlexActivate (h : Hdr) (a : FlexArg) (s : State) : Host.Outcome State Fault Refusal :=
  .next (s.command flexActivateInfo h a.extId.toNat (flexActivateVerdict h a))

/-- What the tables say of FLEX_WITHDRAW. -/
def flexWithdrawInfo : CmdInfo := { op := 0x0C09, who := [.operator, .installer], needsFit := true }

/-- FLEX_WITHDRAW: an empty slot is DISAGREE (R131). -/
def flexWithdrawVerdict (h : Hdr) (slot : Nat) (s : State) : Verdict :=
  if 16 ≤ slot then reject St.RANGE
  else if !(tgetD s.slv.slots slot {}).filled then reject St.DISAGREE
  else s.long h 0x0C09 (fun n t =>
    (({ t with slv.slots := tset t.slv.slots slot {} } : State).addFlexWait n 0#32).triggerFast t.epoch)

/-- FLEX_WITHDRAW (R131). -/
def execFlexWithdraw (h : Hdr) (slot : Nat) (s : State) : Host.Outcome State Fault Refusal :=
  .next (s.command flexWithdrawInfo h slot (flexWithdrawVerdict h slot))

/-- COMMITMENT_END: the slot is freed at its END, with order 3 (R131). -/
def execCommitmentEnd (slot : Nat) (s : State) : Host.Outcome State Fault Refusal :=
  .next (
    let f := tgetD s.slv.slots slot {}
    if s.solveOn && s.orderOk 3 && f.filled && decide (f.stop ≤ s.epoch) then
      ({ s.atOrder 3 with slv.slots := tset s.slv.slots slot {} } : State).auditApplied 0
    else s)

end Sys2Proof.Machine
end

