-- ==== Sys2Proof/Machine/Perc.lean ====
section
/-! DEFINITION. Percolator updates, calibration windows and the analog front end's frames (chapter "Front tracking,
estimation and live calibration"). -/

namespace Sys2Proof.Machine

/-- The Percolator works: a unit that executes, with the block fitted and out of block reset. -/
def State.percOn (s : State) : Bool := s.live && s.fitted && !s.perc.resetBusy

/-- PERC_UPDATE_START: at an update epoch, in order 7; an epoch that finds an update running, or one that maps the
Percolator to a new model waiting, is omitted and counted (R150, R152, R170). -/
def execPercUpdateStart (s : State) : Host.Outcome State Fault Refusal :=
  .next (
    match s.activeModel with
    | none => s
    | some m =>
      if s.percOn && s.orderOk 7 &&
          ((s.epoch : Int) - (s.pn P.PERC_PHASE_TICKS 0 : Int)) % ((s.perc.effPeriodMs * 8 : Nat) : Int) == 0 then
        if s.perc.upd.isSome || s.perc.mappingDue.isSome then
          { s.atOrder 7 with perc.late := s.perc.late + 1 }
        else
          { s.atOrder 7 with
            perc.upd := some (s.atEdge.percNew m)
            perc.state := max s.perc.state 1 }
      else s)

/-- PERC_UPDATE_PUBLISH (R153, R156 to R166). -/
def execPercUpdatePublish (r : PercResult) (s : State) : Host.Outcome State Fault Refusal :=
  .next (
    match s.perc.upd with
    | some u => match u.model with
      | some m => if s.percOn && s.percResultOk u m r then s.closeEdge.percPublish u m r else s
      | none => s
    | none => s)

/-- MAPPING_UPDATE: the update that follows an activation starts once no update runs; segments that match keep their
parcels (R170). -/
def execMappingUpdate (s : State) : Host.Outcome State Fault Refusal :=
  .next (
    match s.perc.mappingDue with
    | some u =>
      if s.percOn && s.perc.upd.isNone then
        let kept := match s.perc.mapFrom, u.model with
          | some o, some m => (mapParcels o m s.perc.parcels, mapTemps o m s.perc.set)
          | _, _ => ([], [])
        { s with
          perc.upd := some { u with init := !s.perc.hasParcels || s.perc.mapFrom.isNone, nodeTemps := kept.2 }
          perc.mappingDue := none
          perc.mapFrom := none
          perc.parcels := kept.1 }
      else s
    | none => s)

/-- CAL_WINDOW_END: order 8, at a tick of the window grid in force or of the committed one; a window that a new grid
cuts short stages nothing (R172 to R176, R186; log entry 50). -/
def execCalWindowEnd (opened : Nat) (s : State) : Host.Outcome State Fault Refusal :=
  .next (
    match s.activeModel with
    | none => s
    | some m =>
      let own := s.onGrid (s.calPar P.CAL_WINDOW_MIN)
      if s.percOn && s.orderOk 8 && s.perc.windowStart == opened && decide (opened < s.epoch) &&
          (own || s.onGrid (s.pn P.CAL_WINDOW_MIN 0)) then
        ((if own then s.calWindowEnd m else s).calWindowOpen).atOrder 8
      else s)

/-! ### Calibration commands -/

/-- What the tables say of CAL_READ. -/
def calReadInfo : CmdInfo := { op := 0x0D01, standby := true, needsFit := true, isRead := true }

/-- CAL_READ: one record per calibrated quantity of the active model, whole records within the reply (R180, R412). -/
def calReadVerdict (h : Hdr) (s : State) : Verdict :=
  match s.activeModel with
  | none => {}
  | some m => { data := (((calList m).take (h.room / 24)).map (fun x => calRecBytes s.perc.cal x.1 x.2)).flatten }

/-- CAL_READ (R180). -/
def execCalRead (h : Hdr) (s : State) : Host.Outcome State Fault Refusal :=
  .next (s.command calReadInfo h 0 (calReadVerdict h))

/-- What the tables say of CAL_RESET. -/
def calResetInfo : CmdInfo := { op := 0x0D02, who := [.installer], needsFit := true }

/-- Image values staged without the step clamp, of all quantities or of one element (R178). -/
def State.calResetStage (s : State) (m : NetModel) (all : Bool) (elem : Nat) : State :=
  ((calList m).filter (fun x => all || recId x.1 == elem)).foldl (fun a x =>
    let c := calOf a.perc.cal x.1 x.2
    let v : CalQ := { c with staged := some (calImage x.1 x.2), resetPend := true }
    ({ a with perc.cal := tset a.perc.cal (calKey (recId x.1) x.2) v } : State)) s

/-- CAL_RESET: the element is one of the active model (R178). -/
def calResetVerdict (all : Bool) (elem : Nat) (s : State) : Verdict :=
  match s.activeModel with
  | none => if all then {} else reject St.RANGE
  | some m =>
    if all || (findElem m elem).isSome then { act := fun t => t.calResetStage m all elem } else reject St.RANGE

/-- CAL_RESET (R178). -/
def execCalReset (h : Hdr) (all : Bool) (elem : Nat) (s : State) : Host.Outcome State Fault Refusal :=
  .next (s.command calResetInfo h elem (calResetVerdict all elem))

/-! ### Analog front end (R181 to R184) -/

/-- AFE_FRAME_START: every 32 ticks; the mode and the corrections of the frame (R181, R182, R184). -/
def execAfeFrameStart (s : State) : Host.Outcome State Fault Refusal :=
  .next (
    if s.dieOn && s.time.running && s.epoch % 32 == 0 then
      { s with
        afe.frameStart := s.epoch
        afe.frameNo := s.epoch / 32
        afe.uniform := s.pn P.AFE_REF_MODE 0 == 1
        afe.slot := 0
        afe.offset := tjoin s.afe.offset s.afe.offsetNext
        afe.gain := tjoin s.afe.gain s.afe.gainNext
        afe.offsetNext := []
        afe.gainNext := [] }
    else s)

/-- Midpoint of data slot `j` of the frame in CD6 cycles (R181, R184). -/
def State.slotMid (s : State) (j : Nat) : Nat :=
  s.afe.frameStart * cd6PerTick + (if s.afe.uniform then 4000 * j + 2000 else 3750 * j + 1875)

/-- AFE_DATA_SLOT_END: all inputs convert in the slot; a clipped conversion is marked (R181, R337). -/
def execAfeDataSlotEnd (samples : List F32) (clip : BitVec 16) (s : State) : Host.Outcome State Fault Refusal :=
  .next (
    if s.dieOn && decide (s.afe.slot < 16) then
      let s1 := (List.range 16).foldl (fun a i =>
        if (a.ain1 i).range = 0 then a
        else a.setAin i { a.ain1 i with
          samples := ((s.slotMid s.afe.slot, s.afeCorrect i (samples.getD i F32.zero)) :: (a.ain1 i).samples).take 1024
          clipped := clip.getLsbD i }) s
      { s1 with afe.slot := s.afe.slot + 1 }
    else s)

/-- The reference of the frame is stored, the newest 64 of its kind (R182). -/
def State.afeStore (s : State) (refs : List F32) : State :=
  let r := (List.range 16).foldl (fun t i =>
    tset t (3 * i + s.afe.frameNo % 3) ((refs.getD i F32.zero :: tgetD t (3 * i + s.afe.frameNo % 3) []).take 64))
    s.afe.refs
  { s with afe.refs := r }

/-- AFE_REF_SLOT_END: the reference slot of an interleaved frame; after each reference 2 the corrections are updated
(R182, R183). -/
def execAfeRefSlotEnd (refs : List F32) (s : State) : Host.Outcome State Fault Refusal :=
  .next (
    if s.dieOn && !s.afe.uniform && s.afe.slot == 16 then
      let s1 : State := { s.afeStore refs with afe.slot := 17, afe.lastRef := s.epoch, afe.calAged := false }
      if s.afe.frameNo % 3 = 2 then (List.range 16).foldl (fun a i => a.afeUpdate i) s1 else s1
    else s)

/-- AFE_CAL_AGED: 24 h without reference slots (R184). -/
def execAfeCalAged (s : State) : Host.Outcome State Fault Refusal :=
  .next (
    if s.dieOn && s.afe.uniform && decide (s.afe.lastRef + 86400 * 8000 ≤ s.epoch) then
      { s with afe.calAged := true }
    else s)

end Sys2Proof.Machine
end

