-- ==== Sys2Proof/Machine/Programs.lean ====
section
/-! DEFINITION. The commands and events of the program engine (chapter "Cyclic programs and function blocks"). -/

namespace Sys2Proof.Machine

/-! ### The cycle (R251 to R257) -/

/-- STATE of a field group as it is reported: below the warning level it is 1 (R347; log entry 35). -/
def grpState (g : FioGrp) : Nat := if g.state = 0 && g.warn then 1 else g.state

/-- What a cycle that starts now fixes (R253, R254, R283). -/
def State.newCycle (u : State) (t : Nat) : Cycle :=
  let s := u.atEdge
  { c := u.epoch
    a := u.epoch + s.pn P.APPLY_OFFSET_TICKS t
    d := u.epoch + s.pn P.APPLY_OFFSET_TICKS t - s.pn P.OUT_LEAD_TICKS t
    period := s.taskPeriod t
    waitEnd := u.epoch + s.pn P.INPUT_WAIT_TICKS t
    view := s.pts, others := s.prog.run.data, lanes := s.lane.lanes
    plan := s.slv.inForce, model := s.activeModel, stale := s.slv.stale, ests := s.perc.set
    civil := calSeconds s.drip.live
    groups := (List.range 4).map (fun g => grpState (s.grp1 g))
    stns := tmap s.stn.stns (fun _ z => z.state)
    descs := tmap s.stn.stns (fun n _ => s.stnDesc n)
    modes := (List.range 32).map (fun c => (s.fio1 c).mode)
    rt := s.prog.run.rt }

/-- A cycle of the task may start now (R251). -/
def State.cycleDue (s : State) (t : Nat) : Bool :=
  s.live && s.orderOk 7 && decide (t < 4) && s.prog.run.mode == 2 && s.taskEnabled t && s.cycleTick t &&
  (s.task1 t).cycle.isNone && (!(s.task1 t).everPub || (s.task1 t).lastCycle != s.epoch)

/-- TASK_CYCLE_START, order 7 (R251, R253). -/
def execTaskCycleStart (task : Nat) (s : State) : Host.Outcome State Fault Refusal :=
  .next (
    if s.cycleDue task then
      (s.atOrder 7).setTask task { s.task1 task with
        cycle := some (s.newCycle task), closeDue := some s.epoch }
    else s)

/-- A cycle in progress may publish now (R253, R255). -/
def State.publishable (s : State) (us : Nat) (y : Cycle) : Bool :=
  s.live && s.prog.run.mode == 2 && y.closed && decide (s.epoch ≤ y.d) && decide (us ≤ (y.d - y.c) * 125)

/-- TASK_PUBLICATION: the end of execution, no later than D; what it publishes is later than the tick boundary (R19,
R253, R255). -/
def execTaskPublication (task : Nat) (us : Nat) (s : State) : Host.Outcome State Fault Refusal :=
  .next (
    match (s.task1 task).cycle, s.activeProg with
    | some y, some p => if s.publishable us y then s.closeEdge.publishCycle p task y us else s
    | _, _ => s)

/-- Entries of a list of pending values that are due, and those that are not. -/
def dueVals (l : List (Nat × List (Nat × F32))) (e : Nat) : List (Nat × List (Nat × F32)) :=
  l.filter (fun x => decide (x.1 ≤ e))

/-- Entries that wait. -/
def laterVals (l : List (Nat × List (Nat × F32))) (e : Nat) : List (Nat × List (Nat × F32)) :=
  l.filter (fun x => decide (e < x.1))

/-- Values take effect at local field outputs and CAN (R253). -/
def State.applyVals (s : State) (l : List (Nat × List (Nat × F32))) : State :=
  l.foldl (fun a x => x.2.foldl (fun b v => b.applyPoint v.1 v.2 x.1) a) s

/-- TASK_APPLY: the apply epoch of a published cycle; the outputs change after the tick edge (R19, R253). -/
def execTaskApply (task : Nat) (s : State) : Host.Outcome State Fault Refusal :=
  .next (
    let x := s.task1 task
    if s.live then
      (s.closeEdge.setTask task { x with applyPend := laterVals x.applyPend s.epoch }).applyVals (dueVals x.applyPend s.epoch)
    else s)

/-- STOP_VALUES_APPLY (R261). -/
def execStopValuesApply (task : Nat) (s : State) : Host.Outcome State Fault Refusal :=
  .next (
    let x := s.task1 task
    if s.live then
      (s.closeEdge.setTask task { x with stopPend := laterVals x.stopPend s.epoch }).applyVals (dueVals x.stopPend s.epoch)
    else s)

/-- CYCLE_OVERRUN: a cycle has not published at its deadline (R266). -/
def execCycleOverrun (task : Nat) (s : State) : Host.Outcome State Fault Refusal :=
  .next (
    match (s.task1 task).cycle with
    | some y =>
      if s.live && s.prog.run.mode == 2 && decide (y.d ≤ s.epoch) then s.progFault 1 task y.c else s
    | none => s)

/-- UNCORRECTABLE_MEMORY_ERROR in instance data or block code (R266): the running cycle of the task, or its last. -/
def execUncorrectableMemoryError (task : Nat) (s : State) : Host.Outcome State Fault Refusal :=
  .next (
    if s.live && s.prog.run.mode == 2 && decide (task < 4) then
      s.progFault 2 task (match (s.task1 task).cycle with | some y => y.c | none => (s.task1 task).lastCycle)
    else s)

/-! ### Controller modes (R260) -/

/-- A mode command: accepted in the modes that list it, with effect at the first tick boundary (R260). -/
def modeVerdict (cmd : Nat) (s : State) : Verdict :=
  if modeListed cmd s.prog.run.mode then
    { act := fun t => { t with
        prog.modeDue := t.prog.modeDue ++ [(cmd, t.epoch, t.host.accSeq)]
        host.accSeq := t.host.accSeq + 1 } }
  else reject St.WRONG_MODE

/-- What the tables say of RUN. -/
def runInfo : CmdInfo := { op := 0x0B04, who := [.operator, .installer] }

/-- RUN (R260). -/
def execRun (h : Hdr) (s : State) : Host.Outcome State Fault Refusal :=
  .next (s.command runInfo h 0 (modeVerdict 2))

/-- What the tables say of STOP. -/
def stopInfo : CmdInfo := { op := 0x0B05, who := [.operator, .installer] }

/-- STOP (R260). -/
def execStop (h : Hdr) (s : State) : Host.Outcome State Fault Refusal :=
  .next (s.command stopInfo h 0 (modeVerdict 1))

/-- What the tables say of HOLD. -/
def holdInfo : CmdInfo := { op := 0x0B06, who := [.installer] }

/-- HOLD (R260). -/
def execHold (h : Hdr) (s : State) : Host.Outcome State Fault Refusal :=
  .next (s.command holdInfo h 0 (modeVerdict 3))

/-- What the tables say of FAULT_ACK. -/
def faultAckInfo : CmdInfo := { op := 0x0B07, who := [.operator, .installer] }

/-- FAULT_ACK (R260). -/
def execFaultAck (h : Hdr) (s : State) : Host.Outcome State Fault Refusal :=
  .next (s.command faultAckInfo h 0 (modeVerdict 4))

/-- MODE_CHANGE_APPLY, order 3 of the first tick boundary after acceptance; an exchange that was accepted before a
command takes effect before it (R22, R260). -/
def execModeChangeApply (s : State) : Host.Outcome State Fault Refusal :=
  .next (
    if s.live && s.orderOk 3 && !s.modesDue.isEmpty then
      ((s.atOrder 3).applyModes (fun _ => true)).auditApplied 0
    else s)

/-- HOLD_TIMEOUT (R260, R262). -/
def execHoldTimeout (s : State) : Host.Outcome State Fault Refusal :=
  .next (
    if s.live && s.orderOk 3 && s.prog.run.mode == 3 &&
        decide (s.prog.run.holdFrom + s.prog.run.holdMax * ticksPerS ≤ s.epoch) then
      ((s.atOrder 3).toStop).auditApplied 0
    else s)

/-- RETAIN_COPY, every RETAIN_PERIOD_S (R280). -/
def execRetainCopy (s : State) : Host.Outcome State Fault Refusal :=
  .next (
    if s.live && s.prog.hasActive && decide (s.prog.lastRetain + s.pn P.RETAIN_PERIOD_S 0 * ticksPerS ≤ s.epoch) then
      s.doRetain
    else s)

/-- PROG_AUTO_RUN: PROG_START_MODE 1, at the first tick with ports and field die released and the committed configuration
in force, which stands from the first tick on (R281, R434, R524). -/
def execProgAutoRun (s : State) : Host.Outcome State Fault Refusal :=
  .next (
    if s.live && s.orderOk 3 && s.prog.startDue && s.prog.startMode == 1 && s.prog.run.mode == 1 &&
        (s.rst.dieReleased || !s.fitted) && s.rst.outCfgDone then
      ((s.atOrder 3).toRun).auditApplied 0
    else s)

/-! ### Load, exchange, discard (R276 to R279) -/

/-- What the tables say of PROG_LOAD. -/
def progLoadInfo : CmdInfo := { op := 0x0B01, who := [.installer], hostOnly := true, standby := true }

/-- PROG_LOAD: one load or exchange at a time; a staged program is discarded (R276). -/
def progLoadVerdict (h : Hdr) (s : State) : Verdict :=
  if s.prog.op.isSome then reject St.BUSY
  else s.long h 0x0B01 (fun n t =>
    { t.progress n 0 with
      prog.op := some { kind := 1, handle := n, acc := t.epoch, seq := t.host.accSeq }
      prog.staged := false
      prog.bankA := if t.prog.activeB then none else t.prog.bankA
      prog.bankB := if t.prog.activeB then t.prog.bankB else none
      host.accSeq := t.host.accSeq + 1 })

/-- PROG_LOAD (R276). -/
def execProgLoad (h : Hdr) (s : State) : Host.Outcome State Fault Refusal :=
  .next (s.command progLoadInfo h 0 (progLoadVerdict h))

/-- What the tables say of PROG_DISCARD. -/
def progDiscardInfo : CmdInfo := { op := 0x0B03, who := [.installer], standby := true }

/-- PROG_DISCARD (R276). -/
def progDiscardVerdict (s : State) : Verdict :=
  if s.prog.op.isSome then reject St.BUSY
  else { act := fun t => { t with prog.staged := false } }

/-- PROG_DISCARD (R276). -/
def execProgDiscard (h : Hdr) (s : State) : Host.Outcome State Fault Refusal :=
  .next (s.command progDiscardInfo h 0 progDiscardVerdict)

/-- What the tables say of PROG_EXCHANGE. -/
def progExchangeInfo : CmdInfo := { op := 0x0B02, who := [.installer] }

/-- PROG_EXCHANGE: in STOP or NO_PROGRAM, with a staged program, no load or exchange open (R276, R277). -/
def progExchangeVerdict (h : Hdr) (s : State) : Verdict :=
  if s.prog.op.isSome then reject St.BUSY
  else if s.prog.run.mode != 0 && s.prog.run.mode != 1 then reject St.WRONG_MODE
  else match s.stagedProg with
    | none => reject St.DISAGREE
    | some p =>
      if !s.fitted && progNeedsFit p then reject St.NOT_FITTED
      else s.long h 0x0B02 (fun n t =>
        { t with
          prog.op := some { kind := 2, handle := n, acc := t.epoch, seq := t.host.accSeq }
          prog.openNote := some (n, h.tag)
          host.accSeq := t.host.accSeq + 1 })

/-- PROG_EXCHANGE (R277). -/
def execProgExchange (h : Hdr) (s : State) : Host.Outcome State Fault Refusal :=
  .next (s.command progExchangeInfo h 0 (progExchangeVerdict h))

/-- PROG_EXCHANGE_APPLY, order 3: mode commands accepted before the exchange take effect first; where it is then still
open, the checks, then migration and the new program together (R22, R277 to R279). -/
def execProgExchangeApply (s : State) : Host.Outcome State Fault Refusal :=
  .next (
    match s.prog.op with
    | some o =>
      if s.live && s.orderOk 3 && o.kind == 2 && decide (o.acc < s.epoch) then
        let s1 := (s.atOrder 3).applyModes (fun x => decide (x.2.2 < o.seq))
        if s1.prog.op.isSome then s1.exchangeNow else s1
      else s
    | none => s)

end Sys2Proof.Machine
end

