-- ==== Sys2Proof/Machine/StartOps.lean ====
section
/-! DEFINITION. How the blocks start: after a reset, at a cold takeover, and what a reset or a takeover ends. -/

namespace Sys2Proof.Machine

/-! ### Generations and flags of the pair (R481, R488, R489) -/

/-- Code of a unit state (R481). -/
def unitCode : UnitState → Nat
  | .single => 0
  | .starting => 1
  | .active => 2
  | .syncing => 3
  | .synced => 4
  | .demoted => 5

/-- Unit state of a code (R481). -/
def unitOf : Nat → Option UnitState
  | 0 => some .single
  | 1 => some .starting
  | 2 => some .active
  | 3 => some .syncing
  | 4 => some .synced
  | 5 => some .demoted
  | _ => none

/-- A bit of FLAGS of PAIR_STATUS (R511). -/
def State.pairFlag (s : State) (b : Nat) (on : Bool) : State :=
  let m : BitVec 16 := 1#16 <<< b
  { s with pair.flags := if on then s.pair.flags ||| m else s.pair.flags &&& ~~~m }

/-- Generation GEN_SEEN + 1, written before the claim that contains it takes effect (R488, R489). -/
def State.newGeneration (s : State) : State :=
  let g := min 2147483647 (max s.pair.genSeen s.pair.generation + 1)
  { s with pair.generation := g, pair.genSeen := g }

/-- The claim number of the unit's generation and preference (R488, R503). -/
def State.ownClaim (s : State) : Nat := s.pair.generation * 2 + s.pair.prefInForce

/-! ### What ends at a reset or a takeover (R423, R460, R471) -/

/-- An install that has not flipped its head word: the written copy is ignored and cleared (R460). -/
def State.loseInstall (s : State) (o : KeyOp) : State :=
  if o.flipped then s
  else match s.keyItem o.label with
    | none => s
    | some it =>
      if (curCopy it).isNone then s.dropItem o.label
      else s.setItem o.label { setPrev it none with installing := false }

/-- Every open install ends without an outcome (R460). -/
def State.loseInstalls (s : State) : State :=
  let s1 := s.key.ops.foldl (fun a o => a.loseInstall o) s
  { s1 with key.ops := [] }

/-- Every handle ends without a completion record, but the one to keep (R423). -/
def State.dropHandles (s : State) (keep : Option U32) : State :=
  (tkeys s.host.handles).foldl (fun a i =>
    if (a.hent i).st == .free || (match keep with | some h => a.hUsed h && hIndex h == i | none => false) then a
    else a.freeHandle i) s

/-- What no takeover outlasts: handles, bindings, sessions, staged writes, pending commits, snapshots, mirrors,
frame channels, and the loads that their handles stand for (R423, R471, R508). -/
def State.dropHost (s : State) (keep : Option U32) : State :=
  let s1 := (s.loseInstalls).dropHandles keep
  { s1 with
    host.queues := tmap s1.host.queues (fun _ q => { q with bind := none })
    host.sessions := tmap s1.host.sessions (fun _ v => { v with isOpen := false, bind := none })
    host.staging := []
    host.pendCommits := []
    host.snaps := []
    host.mirrors := []
    host.frameChs := tmap s1.host.frameChs (fun _ c => { c with isOpen := false, owner := .none, portMask := 0#16 })
    model.op := none
    model.seriesStaged := []
    prog.op := none
    prog.modeDue := []
    lane.swaps := []
    slv.flexWaits := []
    rst.fwOp := none
    rst.blockOps := [] }

/-! ### Starting the blocks -/

/-- The initial service state of the active model: elements whose image has FLAGS[0] clear are out of service (R45). -/
def State.imageService (s : State) : Tab Bool :=
  match s.activeModel with
  | some m => (m.elems.filter (fun r => !recInService r)).foldl (fun a r => tset a (recId r) true) []
  | none => []

/-- Lanes as after a reset: banks, bank selects and pending swaps stay, everything else starts (R234, R241). -/
def State.lanesFresh (s : State) : State :=
  let kept : Tab Lane := tmap s.lane.lanes (fun _ x =>
    { bankSel := x.bankSel, swapPend := x.swapPend, swapAcc := x.swapAcc })
  let t := (s.pEntries P.PERIOD_TICKS).foldl (fun (a : Tab Lane) x =>
    tset a x.1 { tgetD a x.1 {} with periodForce := x.2.headD 800 }) kept
  { s with lane := { lanes := t } }

/-- A copy whose CRC agrees (R280). -/
def retainValid (r : Option Retain) : Option Retain :=
  match r with
  | some x => if x.valid then some x else none
  | none => none

/-- The newer of the two valid retained copies; of two with one stamp, the one written last (R280, R281). -/
def State.retainNewer (s : State) : Option Retain :=
  match retainValid s.prog.retainA, retainValid s.prog.retainB with
  | some a, some b =>
    if a.epoch < b.epoch then some b else if b.epoch < a.epoch then some a
    else if s.prog.retainNextB then some a else some b
  | some a, none => some a
  | none, b => b

/-- A flushed copy with the unit's own PAIR_ID (R495, R507). -/
def State.ownFlush (s : State) (c : Option Ckpt) : Option Ckpt :=
  match c with
  | some x => if x.pairId = s.pn P.PAIR_ID 0 then some x else none
  | none => none

/-- The newest of them. -/
def State.flushed (s : State) : Option Ckpt :=
  match s.ownFlush s.pair.flushA, s.ownFlush s.pair.flushB with
  | some a, some b => if a.k < b.k then some b else some a
  | some a, none => some a
  | none, b => b

/-- The restorable epoch: the newer of RETAIN_EPOCH and the K of the flushed copy (R507). -/
def State.restorable (s : State) : Nat :=
  max s.prog.retainEpoch (match s.flushed with | some c => c.k | none => 0)

/-- A flushed copy in the place of a retained copy (R500, R507). -/
def flushRetain (p : Program) (c : Ckpt) : Option Retain :=
  match c.sec2, c.sec5 with
  | some i, some r =>
    if i.progKey = p.key then some { epoch := c.k, rt := r.rt, programKey := p.key, data := retained p r.data } else none
  | _, _ => none

/-- The copy from which a program starts: it holds that program's instances (R281, R500; log entry 55). -/
def State.retainFor (s : State) (p : Program) (useFlush : Bool) : Option Retain :=
  let r := match s.retainNewer with
    | some r => if r.programKey = p.key then some r else none
    | none => none
  match (if useFlush then s.flushed else none) with
  | some c => if s.prog.retainEpoch < c.k then (match flushRetain p c with | some x => some x | none => r) else r
  | none => r

/-- Data of one instance at a start: retained, or initial with first scan set (R281). -/
def startData (r : Option Retain) (e : InstEnt) (d : InstData) : InstData :=
  match r with
  | some r => if e.retain then (match r.data.find? (fun x => x.1 == e.key) with
      | some x => { x.2 with firstScan := false }
      | none => { d with firstScan := true }) else { d with firstScan := true }
  | none => { d with firstScan := true }

/-- The program engine starts: STOP with RT and the RETAIN instances of the newer copy, its stop values due at the
first tick, or NO_PROGRAM (R281, R524). -/
def State.progStart (s : State) (useFlush : Bool) : State :=
  match s.activeProg with
  | none => { s with prog.run := {}, prog.modeDue := [], prog.startDue := false, prog.stopDue := false }
  | some p =>
    let r := s.retainFor p useFlush
    let run : ProgRun :=
      { mode := 1, rt := (match r with | some x => x.rt | none => 0)
        restored := (match r with | some x => x.epoch | none => 0)
        data := (p.insts.zip p.init).map (fun x => startData r x.1 x.2) }
    ({ s with
      prog.run := run
      prog.modeDue := []
      prog.startMode := s.pn P.PROG_START_MODE 0
      prog.startDue := s.pn P.PROG_START_MODE 0 == 1
      prog.stopDue := true
      prog.lastRetain := s.epoch
      prog.retainEpoch := (match s.retainNewer with | some x => x.epoch | none => 0) } : State).refreshBounds

/-- The solve cycle as after a reset: no plan in force (R148). -/
def State.solvesFresh (s : State) : State :=
  { s with slv := { nextPlanId := s.slv.nextPlanId, lastBoundary := s.epoch, lastEnd := s.epoch } }

/-- The Percolator initialises afresh, at the period that its parameters and the model give; its calibration values stay
(R151, R169, R179). -/
def State.percFresh (s : State) : State :=
  ({ s with perc := { cal := s.perc.cal, calVersion := s.perc.calVersion, windowStart := s.epoch } } : State).refreshPeriod

/-- The exchange starts with no agreement (R202). -/
def State.fedFresh (s : State) : State :=
  { s with fed := { ownVersion := s.fed.ownVersion, addr := s.fed.addr, role := s.fed.role, txSeq := s.fed.txSeq,
                    peers := s.fed.peers, enabled := s.fed.enabled } }

/-- Stations start anew: each enabled one joins (R305). -/
def State.stnsFresh (s : State) : State :=
  { s with stn.stns := tmap s.stn.stns (fun _ x => { cfgDef := x.cfgDef, cfgPts := x.cfgPts, rejoinDue := true }) }

/-- The process image starts with every point INITIAL (R288). -/
def State.imageFresh (s : State) : State :=
  let bufs := tmap s.can.bufs (fun _ b =>
    { b with frame := none, undecoded := false, pending := false, committed := false })
  { s with pts := [], can.pts := [], can.bufs := bufs }

/-- A unit becomes active at a start: a new generation, whose claim takes effect before its first tick; the CAN
channels start in their committed modes, after a reset with the first output configuration (R355, R489, R507,
R524). -/
def State.becomeActive (s : State) (u : UnitState) : State :=
  let s1 := s.newGeneration
  let s2 : State := { s1 with pair.unit := u, pair.claim := s1.ownClaim, pair.resuming := false }
  if s2.rst.outCfgDone then s2.canStartAll else s2

end Sys2Proof.Machine
end

