-- ==== Sys2Proof/Machine/ViewOps.lean ====
section
/-! DEFINITION. The coherent view: the view epoch, the published versions of earlier epochs, status records and the
block layout (chapters "System architecture and timing" and "Host commands, handles and the coherent view"). -/

namespace Sys2Proof.Machine

/-! ### View epoch (R19, R23, R439) -/

/-- The newest epoch for which the lanes are complete: every sample started up to it has ended. -/
def State.lanesView (s : State) : Nat :=
  s.lane.lanes.foldl (fun m x => match x.2.sample with | some v => min m (v.start - 1) | none => m) s.epoch

/-- The newest epoch for which the process image is complete: every served tick up to it is closed. -/
def State.imageView (s : State) : Nat :=
  s.prog.run.tasks.foldl (fun m x => match x.2.closeDue with | some c => min m (c - 1) | none => m) s.epoch

/-- The newest epoch for which the tasks are complete: in RUN, the last published cycle of each enabled task. -/
def State.tasksView (s : State) : Nat :=
  if s.prog.run.mode = 2 then
    (List.range 4).foldl (fun m t => if s.taskEnabled t then min m (s.task1 t).lastCycle else m) s.epoch
  else s.epoch

/-- The newest epoch for which the estimates are complete: before the update that runs. -/
def State.estsView (s : State) : Nat :=
  match s.perc.upd with
  | some u => if s.model.hasActive then min s.epoch (u.epoch - 1) else s.epoch
  | none => s.epoch

/-- The view epoch over a list of members by their kinds of R438; the plan, station states and couplings never hold it
back. -/
def State.viewEpoch (s : State) (kinds : List Nat) : Nat :=
  kinds.foldl (fun m k =>
    if k = 1 then min m s.imageView else if k = 2 then min m s.lanesView else if k = 3 then min m s.tasksView
    else if k = 5 then min m s.estsView else m) s.epoch

/-- The view epoch over every member. -/
def State.viewAll (s : State) : Nat := s.viewEpoch [1, 2, 3, 5]

/-! ### Earlier versions -/

/-- Entries down to the newest that is no later than the view epoch. -/
def trimPast (k : Nat) : List Past → List Past
  | [] => []
  | x :: r => if x.epoch ≤ k then [x] else x :: trimPast k r

/-- The end of a tick: its versions join the earlier ones, and those that no view needs go. -/
def State.pushPast (s : State) : State :=
  { s with past := trimPast s.viewAll (s.present :: s.past) }

/-- The state with every published version as the view epoch has it (R23). -/
def State.asOf (s : State) (view : Nat) : State :=
  if s.epoch ≤ view then s
  else match s.past.find? (fun x => decide (x.epoch ≤ view)) with
    | some p => s.withPast p
    | none => s

/-- The newest version whose stamp is no later than `k`; the present one where there is none. -/
def State.versionAt {α : Type} (s : State) (k : Nat) (f : Past → α) (stamp : α → Nat) : α :=
  let l := s.present :: s.past
  match l.find? (fun x => decide (stamp (f x) ≤ k)) with
  | some x => f x
  | none => f s.present

/-- A point record at a view epoch. -/
def State.ptAt (s : State) (k p : Nat) : Point :=
  s.versionAt k (fun x => tgetD x.pts p { status := 0x20#16 }) (fun x => x.epoch)

/-- A lane at a view epoch. -/
def State.laneAt (s : State) (k l : Nat) : Lane :=
  s.versionAt k (fun x => tgetD x.lane.lanes l {}) (fun x => x.core.lastSample)

/-- A task at a view epoch. -/
def State.taskAt (s : State) (k t : Nat) : TaskSt :=
  s.versionAt k (fun x => tgetD x.prog.run.tasks t {}) (fun x => x.lastCycle)

/-- The estimate set at a view epoch. -/
def State.estsAt (s : State) (k : Nat) : Option EstSet :=
  s.versionAt k (fun x => x.perc.set) (fun x => match x with | some z => z.epoch | none => 0)

/-- The plan in force at a view epoch. -/
def State.planAt (s : State) (k : Nat) : Option Plan :=
  s.versionAt k (fun x => x.slv.inForce) (fun x => match x with | some z => z.hstart | none => 0)

/-! ### Records: widths in bytes and values -/

/-- Bits of a number field. -/
def fb (x : F32) : Nat := x.bits.toNat

/-- A point record (R286). -/
def pointRec (p : Point) : List (Nat × Nat) := [(4, fb p.value), (2, p.status.toNat), (2, p.age), (8, p.epoch)]

/-- LANE_STATUS (R249). -/
def laneRec (x : Lane) : List (Nat × Nat) :=
  [(1, x.core.state), (1, laneCond x), (1, laneFlags x),
   (1, x.core.srcInUse), (1, b2n x.bankSel), (1, x.core.bindStatus.toNat), (2, 0), (4, x.periodForce),
   (8, x.core.lastSample), (4, fb x.core.spUsed), (4, fb x.core.fbUsed), (4, fb x.core.out),
   (4, x.core.vfUsedMs / 8), (4, x.overruns.toNat)]

/-- TASK_STATUS (R285). -/
def taskRec (x : TaskSt) : List (Nat × Nat) :=
  [(4, x.cycles.toNat), (8, x.lastCycle), (8, x.lastApply), (4, x.responseUs), (4, x.responseMaxUs), (4, x.boundUs),
   (4, x.inputTimeouts.toNat), (4, fb x.marginMin)]

/-- STN_STATUS (R315). -/
def stnRec (x : Stn) : List (Nat × Nat) :=
  [(1, x.state), (1, x.reason), (2, x.flags.toNat), (8, x.lastInput), (8, x.lastApplied), (4, x.highestClaim),
   (4, x.missing.toNat), (4, x.lostCount.toNat)]

/-- COUPLING_STATUS (R220): the version published at the last close (R199). -/
def coupRec (c : CoupSt) : List (Nat × Nat) :=
  let x := c.stat
  [(1, x.state), (1, x.reason), (1, b2n x.holdExpired + 2 * b2n x.peerIsland), (1, min 255 x.silent), (4, x.seq),
   (8, x.lastApplied), (4, fb x.rho), (4, fb x.primal), (4, fb x.dual), (4, fb x.price)]

/-- Header of an estimate set (R165). -/
def estHeader (z : EstSet) : List Byte :=
  padTo 64 (leRec [(8, z.epoch), (8, z.modelKey.toNat), (4, z.modelSerial), (4, z.calVersion), (4, z.updateNo),
    (4, z.recs.length), (1, z.percState), (1, 0), (2, z.setFlags.toNat), (4, z.parcels), (4, z.periodMs)])

/-- An estimate record (R166). -/
def estBytes (r : EstRec) : List Byte :=
  leRec [(4, r.elem), (1, r.qty), (1, r.source), (2, r.status.toNat), (4, fb r.value), (4, fb r.bound),
    (4, fb r.prior), (4, fb r.priorBound), (8, r.lastMeas)]

/-- The header of a plan (R107). -/
def planHeader (p : Plan) : List Byte :=
  let po := 128 + 4 * p.traj.length
  let qo := po + 4 * p.prices.length
  padTo 128 (leRec [(4, p.planId), (4, 0), (8, p.hstart), (8, p.solveStart), (8, p.modelKey.toNat), (4, p.modelSerial),
    (4, p.handle.toNat), (4, p.step0), (4, p.stepTicks), (2, p.steps), (1, p.scenarios), (1, p.nonant),
    (1, p.refScen), (1, p.kind), (2, 0), (4, p.varCount), (4, p.prices.length), (4, 128), (4, po), (4, qo),
    (4, qo + 256), (2, p.leapStep), (1, p.leapKind), (1, 0)])

/-- The trajectories of a range of variable positions (R108). -/
def trajBytes (p : Plan) (first count : Nat) : List Byte :=
  let n := p.scenarios * p.steps
  ((List.range (count * n)).map (fun i => le 4 (fb (p.traj.getD (first * n + i) F32.zero)))).flatten

/-! ### Members (R438, R439) -/

/-- Numbers that a member kind can select: points, lanes, tasks, stations, positions, couplings. -/
def State.memberSpan (s : State) (k : Nat) : Nat :=
  if k = 1 then 262144 else if k = 2 then 1024 else if k = 3 then 4 else if k = 4 then 4096 else if k = 6 then 1
  else if k = 8 then 256
  else match s.activeModel with | some m => m.varCount | none => 16777216

/-- A member names a kind of R438 and a range within it; the plan header has COUNT 1. -/
def State.memberOk (s : State) (m : BlkMember) : Bool :=
  decide (1 ≤ m.kind) && decide (m.kind ≤ 8) && decide (m.first + m.count ≤ s.memberSpan m.kind) &&
  (m.kind != 6 || (m.first == 0 && m.count == 1))

/-- Kinds that the OTN-Q8200 lacks: estimates, plans and couplings (R2, R439, chapter "Federation exchange and
mixed-version operation"). -/
def kindFitted (fitted : Bool) (k : Nat) : Bool := fitted || !(k == 5 || k == 6 || k == 7 || k == 8)

/-- COUNT as written: 0 without a model or a plan (R439). -/
def State.memberCount (s : State) (view : Nat) (m : BlkMember) : Nat :=
  if m.kind = 5 then (if s.model.hasActive && (s.estsAt view).isSome then m.count else 0)
  else if m.kind = 6 || m.kind = 7 then (if (s.planAt view).isSome then m.count else 0)
  else m.count

/-- The section of a member at a view epoch. -/
def State.memberBytes (s : State) (view : Nat) (m : BlkMember) : List Byte :=
  let ns := (List.range (s.memberCount view m)).map (m.first + ·)
  if m.kind = 1 then (ns.map (fun n => leRec (pointRec (s.ptAt view n)))).flatten
  else if m.kind = 2 then (ns.map (fun n => leRec (laneRec (s.laneAt view n)))).flatten
  else if m.kind = 3 then (ns.map (fun n => leRec (taskRec (s.taskAt view n)))).flatten
  else if m.kind = 4 then (ns.map (fun n => leRec (stnRec ((s.asOf view).stn1 n)))).flatten
  else if m.kind = 8 then (ns.map (fun n => leRec (coupRec ((s.asOf view).coup n)))).flatten
  else if m.kind = 5 then (match s.estsAt view with
    | some z => if ns.isEmpty then [] else
        estHeader z ++ (ns.map (fun n => estBytes (tgetD z.recs n {}))).flatten
    | none => [])
  else match s.planAt view with
    | some p => if ns.isEmpty then [] else if m.kind = 6 then planHeader p ++ qualityBytes p.quality
        else trajBytes p m.first m.count
    | none => []

/-! ### Block layout (R437) -/

/-- Bytes filled up to a multiple of 8. -/
def pad8 (b : List Byte) : List Byte := b ++ List.replicate ((8 - b.length % 8) % 8) 0#8

/-- Directory entries of the members with the offsets of their sections. -/
def blockDir : Nat → List (BlkMember × Nat × List Byte) → List Byte
  | _, [] => []
  | o, (m, c, b) :: r =>
    leRec [(2, m.kind), (2, 0), (4, m.first), (4, c), (4, if b.isEmpty then 0 else o)] ++ blockDir (o + b.length) r

/-- A block: head, directory, sections and tail (R437). -/
def State.block (s : State) (id : Nat) (seq : U32) (view : Nat) (gap : Option (Nat × Nat)) (ms : List BlkMember) :
    List Byte :=
  let secs := ms.map (fun m => (m, s.memberCount view m, pad8 (s.memberBytes view m)))
  let dir := blockDir (64 + 16 * ms.length) secs
  let body := (secs.map (fun x => x.2.2)).flatten
  let len := 64 + dir.length + body.length + 16
  let g := match gap with | some g => g | none => (0, 0)
  padTo 64 (leRec [(8, view), (1, id), (1, b2n (s.asOf view).time.island + 2 * b2n gap.isSome),
    (2, ms.length), (4, seq.toNat), (4, len), (4, 0), (8, g.1), (8, g.2)]) ++ dir ++ body ++ leRec [(8, view), (4, seq.toNat), (4, 0)]

/-- The plan that members 6 and 7 read from its buffer (R443). -/
def State.planOfMembers (s : State) (view : Nat) (ms : List BlkMember) : Option Nat :=
  if ms.any (fun m => m.kind == 6 || m.kind == 7) then (s.planAt view).map (fun p => p.planId) else none

/-- The plan is still in force or the predecessor (R136, R443). -/
def State.planHeld (s : State) (id : Nat) : Bool :=
  (match s.slv.inForce with | some p => p.planId == id | none => false) ||
  (match s.slv.prev with | some p => p.planId == id | none => false)

/-- The member kinds of a list. -/
def kindsOf (ms : List BlkMember) : List Nat := ms.map (fun m => m.kind)

end Sys2Proof.Machine
end

