-- ==== Sys2Proof/Machine/PairOps.lean ====
section
/-! DEFINITION. The shared operations of the redundant pair: messages, checkpoints, takeover and demotion (chapter
"Active and standby pairs"). -/

namespace Sys2Proof.Machine

/-! ### Messages (R486, R487) -/

/-- The unit is one of a pair (R481). -/
def State.paired (s : State) : Bool := s.pair.unit != .single

/-- A pair link message can leave: the port is on, has its link and a SAK (R388, R487). -/
def State.pairTx (s : State) : Bool := (s.port 4).mode == 4 && (s.port 4).link && s.sakReady 4

/-- Header of a pair link message (R487). -/
def pairHeader (version msg claim epoch seq len sect part : Nat) : List Byte :=
  beRec [(2, version), (1, msg), (1, 0), (4, claim), (8, epoch), (4, seq), (4, len), (2, sect), (2, part), (4, 0)]

/-- Send a pair link message; SEQ advances by 1 (R487). -/
def State.sendPair (s : State) (msg version epoch part : Nat) (sect : Option (Nat × CkptSec)) (payload : List Byte) :
    State :=
  if s.pairTx then
    let seq := s.pair.txSeq
    let no := match sect with | some x => x.1 | none => 0
    let hdr := pairHeader version msg s.pair.claim epoch seq.toNat payload.length no part
    let s1 : State := { s with pair.txSeq := seq + 1 }
    (s1.setPort 4 { s1.port 4 with txFrames := (s1.port 4).txFrames + 1, txPn := (s1.port 4).txPn + 1 }).emit
      (.pair msg version s.pair.claim epoch seq.toNat (sect.map (fun x => x.2)) (hdr ++ payload))
  else s

/-- MODEL_KEY and MODEL_SERIAL of the active model, 0 without one (R486). -/
def State.modelIdent (s : State) : U64 × Nat :=
  match s.activeModel with
  | some m => (m.key, m.serial)
  | none => (0#64, 0)

/-- PROGRAM_KEY and PROGRAM_SERIAL of the active program, 0 without one (R486). -/
def State.progIdent (s : State) : U64 × Nat :=
  match s.activeProg with
  | some p => (p.key, p.serial)
  | none => (0#64, 0)

/-- The content of the unit's HEARTBEAT message (R486). -/
def State.hbMsg (s : State) : HbMsg :=
  { unit := unitCode s.pair.unit, pref := s.pair.prefInForce, ckptCv := s.pair.ownCv, generation := s.pair.generation,
    fw := s.ident.fw, floor := s.pair.floor, floorPend := s.pair.floorPend, floorSwitch := s.pair.floorSwitch,
    ckptLast := if s.pair.unit = .starting then s.restorable else s.pair.ckptLast,
    modelKey := s.modelIdent.1, modelSerial := s.modelIdent.2,
    progSerial := s.progIdent.2, progKey := s.progIdent.1, keyDigest := s.keyDigest }

/-- The 64 bytes of a HEARTBEAT message (R486). -/
def hbBytes (m : HbMsg) : List Byte :=
  beRec [(1, m.unit), (1, m.pref), (2, m.ckptCv), (4, m.generation), (4, m.fw.toNat), (2, m.floor), (2, m.floorPend),
    (8, m.floorSwitch), (8, m.ckptLast), (8, m.modelKey.toNat), (4, m.modelSerial), (4, m.progSerial),
    (8, m.progKey.toNat), (4, m.keyDigest.toNat), (4, 0)]

/-- The liveness check of the last millisecond: the field die, when fitted, confirmed every frame. Tick events reach
every block of the model and the Barista serves every command, so that the other two conditions hold (R484;
log entry 55). -/
def State.liveCheck (s : State) : Bool :=
  !s.fitted || !s.rst.dieReleased || (match s.pair.missAt with | some t => decide (t + 8 ≤ s.epoch) | none => true)

/-- Toggle HB_OUT; the land moves only while VIO1 is good (R484, R550). -/
def State.toggleHb (s : State) : State :=
  let s1 : State := { s with pair.hbOut := !s.pair.hbOut, pair.hbLast := some s.epoch }
  if s.rst.vio.getLsbD 0 then s1.emit (.pin "HB_OUT" s1.pair.hbOut) else s1

/-! ### The standby asks for a sync (R497) -/

/-- The standby enters SYNCING and sends SYNC_REQUEST. -/
def State.toSyncing (s : State) : State :=
  let s1 : State := { s with
    pair.unit := .syncing, pair.afterFull := 0, pair.rxSeqSeen := false, pair.syncAt := s.epoch
    pair.building := none, pair.buildFrags := 0, pair.buildBytes := [] }
  s1.sendPair 4 s1.pair.floor s1.epoch 0 none []

/-! ### The start decision (R507) -/

/-- The unit becomes active at a start: it starts as R281 states, with its flushed copy where that is newer. -/
def State.pairActive (s : State) : State := (s.becomeActive .active).progStart true

/-- The outcome against a STARTING partner: the newer restorable epoch, then preference 1, or under a clash the lower
MAC address of the pair link port. -/
def State.startWins (s : State) (m : HbMsg) : Bool :=
  if s.restorable ≠ m.ckptLast then decide (m.ckptLast < s.restorable)
  else if m.pref ≠ s.pair.prefInForce then s.pair.prefInForce == 1
  else decide (s.net.mac.toNat < s.pair.partnerMac.toNat)

/-- The unit decides its role. -/
def State.pairDecide (s : State) : State :=
  match s.pair.partner, s.pair.partnerHb with
  | some .active, _ => s.toSyncing
  | some .starting, some m => if s.startWins m then s.pairActive else s.toSyncing
  | _, _ => s.pairActive

/-! ### Checkpoint epochs (R491, R506) -/

/-- Period and phase of the checkpoint epochs. -/
def State.ckptGrid (s : State) : Nat × Nat :=
  let t := s.pn P.CKPT_TASK 0
  if decide (t < 4) && s.taskEnabled t && s.prog.run.mode == 2 then (s.taskPeriod t, s.taskPhase t)
  else (s.pn P.CKPT_PERIOD_TICKS 0, 0)

/-- The present epoch is a checkpoint epoch. -/
def State.isCkpt (s : State) : Bool := onTick s.epoch s.ckptGrid.1 s.ckptGrid.2

/-- The first checkpoint epoch at or after an epoch. -/
def State.ckptFrom (s : State) (e : Nat) : Nat :=
  let g := s.ckptGrid
  e + (g.1 - (e + g.1 - g.2 % g.1) % g.1) % g.1

/-! ### Received heartbeats (R482, R485, R486, R506) -/

/-- The two format versions differ by more than 1 (R506). -/
def State.formatGap (s : State) (cv : Nat) : Bool := decide (cv + 1 < s.pair.ownCv) || decide (s.pair.ownCv + 1 < cv)

/-- The images of the message differ from the unit's own (R482). -/
def State.imageDiffers (s : State) (m : HbMsg) : Bool :=
  (m.modelKey, m.modelSerial) != s.modelIdent || (m.progKey, m.progSerial) != s.progIdent

/-- What a message tells: the partner, its claim, the generation, the flags. -/
def State.hbTake (s : State) (p : PairHdr) (m : HbMsg) : State :=
  let s1 : State := { s with
    pair.lastMsg := s.epoch, pair.partnerFailed := false, pair.partner := unitOf m.unit, pair.partnerClaim := p.claim
    pair.genSeen := max s.pair.genSeen m.generation, pair.partnerHb := some m, pair.partnerMac := p.mac }
  (((s1.pairFlag 2 (m.pref == s.pair.prefInForce)).pairFlag 3 (s.imageDiffers m)).pairFlag 4
    (m.keyDigest != s.keyDigest)).pairFlag 5 (s.formatGap m.ckptCv)

/-- The floor: an active unit announces the candidate with a switch epoch at least 1 s ahead; a standby follows what the
active unit announces and has in force (R506). -/
def State.floorRx (s : State) (m : HbMsg) : State :=
  if s.formatGap m.ckptCv then s
  else if s.pair.unit = .active then
    let cand := min s.pair.ownCv m.ckptCv
    if cand = s.pair.floor then { s with pair.floorPend := 0, pair.floorSwitch := 0 }
    else if cand = s.pair.floorPend then s
    else { s with pair.floorPend := cand, pair.floorSwitch := s.ckptFrom (s.epoch + 8000) }
  else if s.isStandby && unitOf m.unit == some .active then
    let s1 : State := { s with pair.floorPend := m.floorPend, pair.floorSwitch := m.floorSwitch }
    if m.floor = s.pair.floor then s1 else ({ s1 with pair.floor := m.floor } : State).toSyncing
  else s

/-- A standby's epoch clock, its binding and the island-time state follow the active unit (R388, R402). -/
def State.followTime (s : State) (p : PairHdr) : State :=
  let s0 := if s.time.running then s else s.stampStart p.epoch
  { s0 with
    epoch := p.epoch, pair.lastMsg := p.epoch, time.t0 := p.epoch * fsPerTick, time.running := true, time.startWait := false
    time.noBase := false, time.island := p.island, time.bound := p.bound, time.merging := p.merging }

/-- The partner stops being active: its shared outputs stay masked for 40 ms (R331). -/
def State.maskFrom (s : State) (was : Option UnitState) : State :=
  if was = some .active && s.pair.partner ≠ some .active then { s with fio.maskUntil := s.epoch + 320 } else s

/-- A switchover completes on the new standby once the new active unit shows itself (R505). -/
def State.switchDone (s : State) : State :=
  match s.pair.switchover with
  | some o => ({ s with pair.switchover := none } : State).complete o.handle St.OK 0 []
  | none => s

/-- The role that a message leads to: a STARTING unit decides, a DEMOTED one syncs with an active partner, an active
unit reports a higher claim of an active partner (R490, R497, R503, R507). -/
def State.hbRole (s : State) (p : PairHdr) : State :=
  match s.pair.unit with
  | .starting => s.pairDecide
  | .demoted => if s.pair.partner = some .active then s.switchDone.toSyncing else s
  | .active => if s.pair.partner = some .active then s.claimSeen p.claim else s
  | _ => s

/-! ### Building a checkpoint (R491, R492) -/

/-- Commit groups that no checkpoint carries: PAIR_CFG, PORT_CFG, PORT_SEC, KEY_SYS (R492). -/
def unitGroups : List Nat := [0x0501, 0x0601, 0x0602, 0x0401]

/-- A committed value that a checkpoint carries. -/
def ckptCarries (key : Nat) : Bool :=
  match pspec (key / 65536) with
  | some r => decide (1 < r.group) && !unitGroups.contains r.group
  | none => false

/-- Section 1. -/
def State.ckptParams (s : State) : CkptParams :=
  { vals := s.par.vals.filter (fun x => ckptCarries x.1), banksA := s.par.bankA, banksB := s.par.bankB,
    modelFloor := s.model.floor, progFloor := s.prog.floor, fwFloor := s.rst.fwFloor }

/-- Section 2. -/
def State.ckptImages (s : State) : CkptImages :=
  { modelKey := s.modelIdent.1, modelSerial := s.modelIdent.2, modelBank := s.model.activeB,
    progKey := s.progIdent.1, progSerial := s.progIdent.2, progBank := s.prog.activeB }

/-- The safe value of each program output point (R492). -/
def State.progSafes (s : State) : List (Nat × F32) :=
  match s.activeProg with
  | some p => p.outs.map (fun o => (o.point, o.safeVal))
  | none => []

/-- The counters of section 9 (R492; log entry 55). -/
def State.ckptCounters (s : State) : List Nat :=
  [s.slv.skipped.toNat, s.slv.overrun.toNat, s.slv.notTaken.toNat, s.slv.fails, s.slv.warmSinceCold,
   s.stn.framesRejected.toNat, s.stn.claimRejects.toNat, s.can.claimSeen.toNat, s.fio.linkLosses.toNat,
   s.host.eventsLost.toNat, s.host.alarmsDropped.toNat]

/-- The checkpoint of an epoch, from the versions that are current for it. Sections 6 and 7 describe blocks that the
OTN-Q8200 lacks (R491 to R493). -/
def State.ckptOf (now : State) (k : Nat) : Ckpt :=
  let s := now.asOf k
  { k := k, pairId := s.pn P.PAIR_ID 0
    sec1 := some s.ckptParams
    sec2 := some s.ckptImages
    sec3 := some { pts := s.pts, stns := s.stn.stns, safes := s.progSafes }
    sec4 := some { s.lane with swaps := [] }
    sec5 := some s.prog.run
    sec6 := if s.fitted then
        some { inForce := s.slv.inForce, prev := s.slv.prev, slots := s.slv.slots, series := s.model.series,
               oos := s.model.outOfService }
      else none
    sec7 := if s.fitted then some s.perc else none
    sec8 := some s.fed
    sec9 := some { alarms := s.host.alarms, claim := s.pair.claim, stale := s.slv.stale, counters := s.ckptCounters } }

/-- The sections of a checkpoint by number. -/
def ckptSections (c : Ckpt) : List (Nat × CkptSec) :=
  (match c.sec1 with | some v => [(1, CkptSec.s1 v)] | none => []) ++
  (match c.sec2 with | some v => [(2, CkptSec.s2 v)] | none => []) ++
  (match c.sec3 with | some v => [(3, CkptSec.s3 v)] | none => []) ++
  (match c.sec4 with | some v => [(4, CkptSec.s4 v)] | none => []) ++
  (match c.sec5 with | some v => [(5, CkptSec.s5 v)] | none => []) ++
  (match c.sec6 with | some v => [(6, CkptSec.s6 v)] | none => []) ++
  (match c.sec7 with | some v => [(7, CkptSec.s7 v)] | none => []) ++
  (match c.sec8 with | some v => [(8, CkptSec.s8 v)] | none => []) ++
  (match c.sec9 with | some v => [(9, CkptSec.s9 v)] | none => [])

/-- Number of a section. -/
def sectNo : CkptSec → Nat
  | .s1 _ => 1 | .s2 _ => 2 | .s3 _ => 3 | .s4 _ => 4 | .s5 _ => 5 | .s6 _ => 6 | .s7 _ => 7 | .s8 _ => 8 | .s9 _ => 9

/-- The checkpoint with a section. -/
def ckptPut (c : Ckpt) : CkptSec → Ckpt
  | .s1 v => { c with sec1 := some v }
  | .s2 v => { c with sec2 := some v }
  | .s3 v => { c with sec3 := some v }
  | .s4 v => { c with sec4 := some v }
  | .s5 v => { c with sec5 := some v }
  | .s6 v => { c with sec6 := some v }
  | .s7 v => { c with sec7 := some v }
  | .s8 v => { c with sec8 := some v }
  | .s9 v => { c with sec9 := some v }

/-- The fragments of one section, in full or as a delta, at most 1,500 bytes each (R487, R497). -/
def sectFrags (full : Bool) (x : CkptSec) : List (List Byte) :=
  let b := Config.ckptBytes full x
  chunksOf 1500 (b.length + 1) b

/-- Send every fragment of one section. -/
def State.sendSect (s : State) (k : Nat) (x : Nat × CkptSec) : State :=
  ((sectFrags s.pair.fullDue x.2).foldl (fun (a : State × Nat) c => (a.1.sendPair 2 a.1.pair.floor k a.2 (some x) c, a.2 + 1)) (s, 0)).1

/-- Number of fragments and CRC over all payloads, the payload of CKPT_END and FINAL (R487). -/
def ckptEndBytes (full : Bool) (c : Ckpt) : List Byte :=
  let fs := ((ckptSections c).map (fun x => sectFrags full x.2)).flatten
  be 4 fs.length ++ be 4 (crc32 fs.flatten).toNat

/-- Send the checkpoint of epoch K, closed by CKPT_END or FINAL (R491, R505). -/
def State.sendCkpt (s : State) (k : Nat) (final : Bool) : State :=
  let c := s.ckptOf k
  let s1 := (ckptSections c).foldl (fun a x => a.sendSect k x) s
  let s2 := s1.sendPair (if final then 5 else 3) s1.pair.floor k 0 none (ckptEndBytes s.pair.fullDue c)
  { s2 with pair.ckptLast := k, pair.lastSent := some k, pair.fullDue := false }

/-! ### Demotion (R483, R490, R505) -/

/-- The unit stops: cycles, samples and solves are abandoned, field outputs go off, CAN is recessive; what a takeover
does not outlast ends. Its own state stays as its Carafe checkpoint. -/
def State.standDown (s : State) (keep : Option U32) : State :=
  let own := s.ckptOf s.epoch
  let s1 := (((s.abandonCycles).dropHost keep).fieldOff).canHold
  { s1 with
    lane.lanes := tmap s1.lane.lanes (fun _ x => { x with sample := none })
    slv.running := none, slv.waiting := none, slv.fastPend := none, slv.staged := []
    perc.upd := none
    fed.closeDue := []
    pair.unit := .demoted
    pair.latest := some own
    pair.demotedAt := s.epoch
    pair.claimReport := none
    pair.demotions := s1.pair.demotions + 1 }

/-- The unit demotes itself (R490): with a hold-off after a claim report, without one at a switchover (R505). -/
def State.demote (s : State) (keep : Option U32) (hold : Bool) : State :=
  ({ s.standDown keep with pair.demotedHold := hold } : State).condition St.DEMOTED (le 4 s.pair.claim)

/-! ### Restoring a checkpoint (R498, R500) -/

/-- Section 1 becomes the committed values, but for the groups kept by unit (R494). -/
def State.applyParams (s : State) (v : CkptParams) : State :=
  let own := s.par.vals.filter (fun x => !ckptCarries x.1)
  let s1 : State := { s with
    par.vals := tjoin own v.vals, par.bankA := v.banksA, par.bankB := v.banksB
    model.floor := max s.model.floor v.modelFloor, prog.floor := max s.prog.floor v.progFloor
    rst.fwFloor := max s.rst.fwFloor v.fwFloor }
  let cfg := s1.par.vals.filter (fun x => match pspec (x.1 / 65536) with
    | some r => r.group == 0x0301 || r.group == 0x0202
    | none => false)
  ({ s1 with drip.cfg := cfg } : State).timeCommitted s

/-- The bank that holds a model with this key and serial. -/
def State.modelIn (s : State) (key : U64) (serial : Nat) : Option Bool :=
  let hit := fun (m : Option NetModel) => match m with | some m => m.key == key && m.serial == serial | none => false
  if hit s.model.bankA then some false else if hit s.model.bankB then some true else none

/-- The bank that holds a program with this key and serial. -/
def State.progIn (s : State) (key : U64) (serial : Nat) : Option Bool :=
  let hit := fun (p : Option Program) => match p with | some p => p.key == key && p.serial == serial | none => false
  if hit s.prog.bankA then some false else if hit s.prog.bankB then some true else none

/-- The model of section 2 runs from whichever bank holds it; absent, the unit has none (R498). -/
def State.restoreModel (s : State) (i : CkptImages) : State :=
  if i.modelKey = 0#64 && i.modelSerial = 0 then ({ s with model.hasActive := false } : State).pairFlag 6 false
  else match s.modelIn i.modelKey i.modelSerial with
    | some b => ({ s with
        model.activeB := b, model.hasActive := true
        model.staged := s.model.staged && b == s.model.activeB } : State).pairFlag 6 false
    | none => ({ s with model.hasActive := false } : State).pairFlag 6 true

/-- The program of section 2. -/
def State.restoreProg (s : State) (i : CkptImages) : State :=
  match s.progIn i.progKey i.progSerial with
  | some b => { s with
      prog.activeB := b, prog.hasActive := true, prog.staged := s.prog.staged && b == s.prog.activeB }
  | none => { s with prog.hasActive := false }

/-- The run-time state of the program engine: cycles gone, RT counts the time since K in RUN; without the program
NO_PROGRAM (R282, R498). -/
def State.restoreRun (s : State) (k : Nat) (r : ProgRun) : State :=
  if s.prog.hasActive then
    let tasks := tmap r.tasks (fun _ x => { x with cycle := none, closeDue := none })
    let rt := if r.mode = 2 then r.rt + (s.epoch - k) else r.rt
    ({ s with prog.run := { r with tasks := tasks, rt := rt }, prog.stopDue := false, prog.startDue := false } :
      State).refreshBounds
  else { s with prog.run := {}, prog.stopDue := false, prog.startDue := false }

/-- Lanes resume at their next sample, as a bumpless event (R245). -/
def State.restoreLanes (s : State) (l : LaneSt) : State :=
  { s with lane := { l with
      swaps := [], lanes := tmap l.lanes (fun _ x => { x with sample := none, swapBumpless := true }) } }

/-- Plans, slots and series; solves do not survive. The last plan boundary is the horizon start of the plan in force
(R134, R139, R149). -/
def State.restorePlans (s : State) (v : CkptPlan) : State :=
  { s with
    slv.inForce := v.inForce, slv.prev := v.prev, slv.slots := v.slots, slv.inForceBuf := 0, slv.prevBuf := 1
    slv.running := none, slv.waiting := none, slv.fastPend := none, slv.staged := [], slv.flexWaits := []
    slv.startupDone := v.inForce.isSome
    slv.lastBoundary := match v.inForce with | some p => p.hstart | none => s.epoch
    model.series := v.series, model.outOfService := v.oos, model.serviceStaged := [] }

/-- Parcel state and calibration, advanced across the gap by the first update (R171). -/
def State.restorePerc (s : State) (v : PercSt) : State :=
  { s with perc := { v with
      upd := none, mappingDue := none, resetBusy := false, bridgeDue := v.hasParcels, calWin := [], fronts := [] } }

/-- Agreements, couplings, floors and members; the unit's own identity stays (R492 section 8). -/
def State.restoreFed (s : State) (v : FedSt) : State :=
  { s with fed := { v with
      addr := s.fed.addr, role := s.fed.role, ownVersion := s.fed.ownVersion, txSeq := s.fed.txSeq,
      peers := s.fed.peers, closeDue := [] } }

/-- Alarms, PLAN_STALE, the claim seen and the counters (R492 section 9). -/
def State.restoreMisc (s : State) (v : CkptMisc) : State :=
  let c := fun k => v.counters.getD k 0
  { s with
    host.alarms := v.alarms, slv.stale := v.stale, pair.genSeen := max s.pair.genSeen (v.claim / 2)
    slv.skipped := BitVec.ofNat 32 (c 0), slv.overrun := BitVec.ofNat 32 (c 1), slv.notTaken := BitVec.ofNat 32 (c 2)
    slv.fails := c 3, slv.warmSinceCold := c 4
    stn.framesRejected := BitVec.ofNat 32 (c 5), stn.claimRejects := BitVec.ofNat 32 (c 6)
    can.claimSeen := BitVec.ofNat 32 (c 7), fio.linkLosses := BitVec.ofNat 32 (c 8)
    host.eventsLost := BitVec.ofNat 32 (c 9), host.alarmsDropped := BitVec.ofNat 32 (c 10) }

/-- A section of a checkpoint, where it is present, put into effect. -/
def State.withSect {α : Type} (s : State) (v : Option α) (f : State → α → State) : State :=
  match v with
  | some x => f s x
  | none => s

/-- The checkpoint becomes the unit's state (R498 step 2). -/
def State.restoreCkpt (s : State) (c : Ckpt) : State :=
  let s1 := s.withSect c.sec1 State.applyParams
  let s2 := (s1.withSect c.sec2 State.restoreModel).withSect c.sec2 State.restoreProg
  let s3 := s2.withSect c.sec3 (fun t (v : CkptPoints) => { t with pts := v.pts, stn.stns := v.stns })
  let s4 := s3.withSect c.sec4 State.restoreLanes
  let s5 := s4.withSect c.sec5 (fun t v => t.restoreRun c.k v)
  let s6 := s5.withSect c.sec6 State.restorePlans
  let s7 := s6.withSect c.sec7 State.restorePerc
  let s8 := s7.withSect c.sec8 State.restoreFed
  s8.withSect c.sec9 State.restoreMisc

/-- Nothing to restore: lanes, program, image, stations, solves, Percolator and exchange start afresh (R500). -/
def State.coldBlocks (s : State) : State :=
  ((((((s.lanesFresh).imageFresh).stnsFresh).solvesFresh).percFresh).fedFresh).progStart true

/-! ### Reasserting the outputs (R498 step 4) -/

/-- Values published before K whose apply epoch has passed take effect. -/
def State.applyPassed (s : State) : State :=
  (tkeys s.prog.run.tasks).foldl (fun a t =>
    let x := a.task1 t
    (a.setTask t { x with applyPend := laterVals x.applyPend a.epoch, stopPend := laterVals x.stopPend a.epoch }).applyVals
      (dueVals x.applyPend a.epoch ++ dueVals x.stopPend a.epoch)) s

/-- Each field output takes the restored value of its owner: that of its point record. -/
def State.reassertField (s : State) : State :=
  let img := s.pts
  let s1 := (({ s with rst.outCfgDone := false } : State).firstOutCfg).startModes
  (List.range 32 ++ (List.range 8).map (80 + ·)).foldl (fun a p => match tget img p with
    | some v => if v.status.getLsbD 5 then a else a.applyLocal p v.value a.epoch
    | none => a) s1

/-- Every CAN transmit buffer is queued. -/
def State.reassertCan (s : State) : State :=
  (s.pEntries P.CAN_BUF).foldl (fun a x =>
    if x.2.getD 0 0 = 2 then a.queueBuf (x.1 / 65) (x.1 % 65) else a) s.canStartAll

/-- The values of a station's outputs with their apply epochs: those of its point records. -/
def State.stnPending (s : State) (n : Nat) : List (Nat × Nat × F32) :=
  (s.stnOuts n).map (fun j =>
    let p := s.pt (s.stnPt n j)
    (j, (if p.status.getLsbD 5 then 0 else p.epoch), s.stnOutVal n j))

/-- The takeover frames of one station: the values whose apply epoch lies at or before R + 24 ticks, stamped so, and
each later apply epoch's values under their own stamp. -/
def State.takeoverFrames (s : State) (n : Nat) : State :=
  let l := s.stnPending n
  let e := s.epoch + 24
  let now := l.filter (fun x => decide (x.2.1 ≤ e))
  let later := (l.filter (fun x => decide (e < x.2.1)))
  let stamps := (later.map (fun x => x.2.1)).eraseDups
  stamps.foldl (fun a k =>
    a.sendOutputs n k ((later.filter (fun x => x.2.1 == k)).map (fun x => (x.1, x.2.2))))
    (s.sendOutputs n e (now.map (fun x => (x.1, x.2.2))))

/-- Each PRESENT station is sent its takeover frames. -/
def State.reassertStns (s : State) : State :=
  (tkeys s.stn.stns).foldl (fun a n => if (a.stn1 n).state = 4 then a.takeoverFrames n else a) s

/-- A program that is in neither bank: every program output takes its safe value from section 3 (R498 step 2). -/
def State.safeFromCkpt (s : State) (c : Ckpt) : State :=
  if s.prog.hasActive then s
  else match c.sec3 with
    | some v => v.safes.foldl (fun a x =>
        (({ a with prog.run.outVals := tset a.prog.run.outVals x.1 x.2 } : State).applyPoint x.1 x.2 a.epoch)) s
    | none => s

/-- The fast re-plan that filled slots call for (R149): from the earliest start of a filled slot. -/
def State.fastIfFilled (s : State) : State :=
  match (s.slv.slots.filter (fun x => x.2.filled)).map (fun x => x.2.start) with
  | [] => s
  | b :: r => if s.fitted then s.triggerFast (r.foldl min b) else s

/-! ### Takeover (R498, R500 to R502) -/

/-- A standby starts to take over: the new generation is written, its fabric is released (R498 step 1). -/
def State.startTakeover (s : State) (cold : Bool) : State :=
  ({ s.newGeneration with pair.resuming := true, pair.cold := cold, pair.resumeFrom := s.epoch } : State)

/-- A clash keeps a standby from taking over (R479). -/
def State.clashes (s : State) : Bool := s.pair.flags.getLsbD 2

/-- The gap of R25: from the epoch after K to the tick before R. -/
def State.takeoverGap (s : State) (k : Nat) : State :=
  let a := if k = 0 then 0 else k + 1
  ({ s with pair.gapFirst := a, pair.gapLast := s.epoch - 1 } : State).condition St.TAKEOVER_GAP
    (le 8 a ++ le 8 (s.epoch - 1))

/-- The resume tick: the claim takes effect and the unit is active (R498 step 3, R502). -/
def State.nowActive (s : State) : State :=
  { s with
    pair.unit := .active, pair.resuming := false, pair.claim := s.ownClaim, pair.lastTakeover := s.epoch
    pair.takeovers := s.pair.takeovers + 1, pair.fullDue := true, pair.claimReport := none
    pair.demotedHold := false }

/-- The takeover of a unit with a checkpoint or without one. The versions of a view are from here on those that the
checkpoint restored, as of its epoch (R25). -/
def State.resume (s : State) : State :=
  let c := if s.pair.cold then none else s.pair.latest
  let s0 := (s.dropHost none).nowActive
  let s1 := match c with
    | some c => ((((((s0.restoreCkpt c).reassertField).applyPassed).reassertCan).safeFromCkpt c).reassertStns).fastIfFilled
    | none => (s0.coldBlocks.reassertField).canStartAll
  let k := match c with | some c => c.k | none => s.pair.ckptLast
  let s2 := if s.pair.finalRx then s1.condition St.PARTNER_FAILED [] else s1
  let s3 := (({ s2 with pair.finalRx := false } : State).takeoverGap k).syncDev
  { s3 with past := [{ s3.present with epoch := k }] }

end Sys2Proof.Machine
end

