-- ==== Sys2Proof/Machine/Pair.lean ====
section
/-! DEFINITION. The commands and events of the redundant pair (chapter "Active and standby pairs"). -/

namespace Sys2Proof.Machine

/-! ### Heartbeat (R484 to R486) -/

/-- A heartbeat period is due: every 1 ms of the epoch clock, or as CD1 counts it before that starts. -/
def State.hbDue (s : State) : Bool := !s.time.running || (s.epoch % 8 == 0 && s.pair.hbLast != some s.epoch)

/-- The period also carries a message: every 2 ms. -/
def State.hbMsgDue (s : State) : Bool := if s.time.running then s.epoch % 16 == 0 else s.pair.hbOut

/-- HEARTBEAT_TX (R484). -/
def execHeartbeatTx (s : State) : Host.Outcome State Fault Refusal :=
  .next (
    if s.ready && s.paired && s.liveCheck && s.hbDue then
      let s1 := s.toggleHb
      if s1.hbMsgDue then s1.sendPair 1 1 s1.epoch 0 none (hbBytes s1.hbMsg) else s1
    else s)

/-- SEQ of a received message; the flag says that messages were lost since the last one (R487, R497). -/
def State.seqRx (s : State) (p : PairHdr) : State × Bool :=
  ({ s with pair.rxSeq := BitVec.ofNat 32 p.seq, pair.rxSeqSeen := true },
   s.pair.rxSeqSeen && BitVec.ofNat 32 p.seq != s.pair.rxSeq + 1)

/-- A standby with a gap in SEQ syncs afresh (R497). -/
def State.seqSync (s : State) (gap : Bool) : State :=
  if gap && (s.pair.unit == .syncing || s.pair.unit == .synced) then s.toSyncing else s

/-- HEARTBEAT_RX: version 1 and 64 bytes in every firmware (R486). -/
def execHeartbeatRx (p : PairHdr) (m : HbMsg) (s : State) : Host.Outcome State Fault Refusal :=
  .next (
    if s.ready && p.version == 1 && p.rsv == 0 && p.len == 64 then
      let was := s.pair.partner
      let s1 := ((s.hbTake p m).maskFrom was)
      if s.paired then
        let s2 := s1.seqRx p
        let s3 := if s.isStandby && s1.pair.partner == some .active then s2.1.followTime p else s2.1
        (((s3.seqSync s2.2).hbRole p).floorRx m).syncDev
      else s1
    else s)

/-- HB_IN_EDGE: a qualified edge, seen while VIO1 is good (R485, R548, R550). -/
def execHbInEdge (s : State) : Host.Outcome State Fault Refusal :=
  .next (
    if s.ready && s.rst.vio.getLsbD 0 then { s with pair.lastEdge := s.epoch, pair.partnerFailed := false } else s)

/-! ### A failed partner (R485, R489, R498, R500, R508) -/

/-- Release is complete and the epoch clock runs. -/
def State.clocked (s : State) : Bool := s.rst.stage == 10 && !s.rst.asserted && s.time.running

/-- 6 ms have passed without an edge and without a message: the first tick boundary after them. -/
def State.hbSilent (s : State) : Bool :=
  decide (s.pair.lastEdge + 49 ≤ s.epoch) && decide (s.pair.lastMsg + 49 ≤ s.epoch)

/-- The partner is to be found failed. -/
def State.failDue (s : State) : Bool :=
  s.paired && s.pair.unit != .starting && s.pair.partner.isSome && !s.pair.partnerFailed && !s.pair.resuming && s.hbSilent

/-- An open switchover fails (R508). -/
def State.switchFails (s : State) : State :=
  match s.pair.switchover with
  | some o => ({ s with pair.switchover := none } : State).complete o.handle St.DISAGREE 0 []
  | none => s

/-- What the unit does about it. -/
def State.failAct (s : State) : State :=
  if s.pair.unit = .active then
    let s1 := s.newGeneration
    { s1 with pair.claim := s1.ownClaim }
  else if s.clashes then s
  else if s.pair.unit = .synced then s.startTakeover false
  else if s.pair.unit = .syncing && s.pn P.PAIR_COLD_TAKEOVER 0 == 1 then s.startTakeover true
  else s

/-- The partner is found failed (R485). -/
def State.partnerGone (s : State) : State :=
  let mask := if s.pair.partner = some .active then s.epoch + 320 else s.fio.maskUntil
  let s1 : State := { s with pair.partnerFailed := true, fio.maskUntil := mask }
  ((s1.condition St.PARTNER_FAILED []).switchFails).failAct

/-- PARTNER_FAILED, order 2 (R485). -/
def execPartnerFailed (s : State) : Host.Outcome State Fault Refusal :=
  .next (
    if s.clocked && s.orderOk 2 && s.failDue then
      let s1 := (s.atOrder 2).partnerGone
      if s1.pair.claim = s.pair.claim then s1 else s1.auditApplied 0
    else s)

/-- TAKEOVER_RESUME, order 2: the resume tick, after the detection tick (R498, R499). -/
def execTakeoverResume (s : State) : Host.Outcome State Fault Refusal :=
  .next (
    if s.clocked && s.orderOk 2 && s.pair.resuming && decide (s.pair.resumeFrom < s.epoch) then
      ((s.atOrder 2).resume).auditApplied 0
    else s)

/-! ### Demotion (R490, R501, R505) -/

/-- A reported claim above the own one demotes the unit; one that is not is done with. -/
def State.demoteBy (s : State) : State :=
  match s.pair.claimReport with
  | some c =>
    if s.pair.claim < c then ((s.demote none true).syncDev).auditApplied 0 else { s with pair.claimReport := none }
  | none => s

/-- DEMOTION, order 2: a generation change that is due in the same tick comes first (R490, R508). -/
def execDemotion (s : State) : Host.Outcome State Fault Refusal :=
  .next (
    if s.clocked && s.orderOk 2 && s.pair.unit == .active && s.pair.claimReport.isSome then
      let s1 := s.atOrder 2
      (if s1.failDue then s1.partnerGone else s1).demoteBy
    else s)

/-- The hold-off of a demoted unit has passed: 20 ms without a heartbeat and PAIR_LIVE_WINDOW_MS without live-claim
evidence; after a switchover there is none, and R485 alone decides (R501, R505). -/
def State.holdOffOver (s : State) : Bool :=
  if s.pair.demotedHold then
    decide (s.pair.lastEdge + 160 ≤ s.epoch) && decide (s.pair.lastMsg + 160 ≤ s.epoch) &&
    (match s.pair.lastLive with
      | some t => decide (t + 8 * s.pn P.PAIR_LIVE_WINDOW_MS 0 ≤ s.epoch)
      | none => true)
  else s.pair.partnerFailed

/-- DEMOTED_TAKEOVER: from the own demotion state, or cold when that is older than 10 s (R501). -/
def execDemotedTakeover (s : State) : Host.Outcome State Fault Refusal :=
  .next (
    if s.clocked && s.orderOk 2 && s.pair.unit == .demoted && !s.pair.resuming && !s.clashes && s.holdOffOver then
      let old := decide (s.pair.demotedAt + 80000 < s.epoch)
      if !old then (s.atOrder 2).startTakeover false
      else if s.pn P.PAIR_COLD_TAKEOVER 0 = 1 then (s.atOrder 2).startTakeover true
      else s
    else s)

/-! ### Checkpoints (R491 to R497) -/

/-- The latest checkpoint epoch at or before the present one (R491). -/
def State.ckptNow (s : State) : Nat :=
  let g := s.ckptGrid
  s.epoch - (s.epoch + g.1 - g.2 % g.1) % g.1

/-- Checkpoint epochs left out since the one sent last (R496). -/
def State.ckptGap (s : State) (k : Nat) : Nat :=
  match s.pair.lastSent with
  | some a => (k - a) / s.ckptGrid.1 - 1
  | none => 0

/-- A standby takes checkpoints in a format that both units speak (R491, R506). -/
def State.ckptTaker (s : State) : Bool :=
  (s.pair.partner == some .syncing || s.pair.partner == some .synced || s.pair.partner == some .demoted) &&
  !s.pair.partnerFailed && !s.pair.flags.getLsbD 5 && s.pairTx

/-- The switchover's final checkpoint: FINAL in place of CKPT_END, then the unit stops every output path (R505). -/
def State.finalCkpt (s : State) (o : SwitchOp) (k : Nat) : State :=
  (((s.sendCkpt k true).demote (some o.handle) false).syncDev).auditApplied 0

/-- The checkpoint of K while a switchover is open: the final one at its epoch, where the standby is still SYNCED; the
switchover fails where it is not (R505). -/
def State.switchCkpt (s : State) (o : SwitchOp) (k : Nat) : State :=
  if k < o.k then s.sendCkpt k false
  else if s.pair.partner = some .synced then s.finalCkpt o k
  else s.switchFails.sendCkpt k false

/-- CHECKPOINT_EPOCH: the checkpoint of K, once the view epoch has reached it (R491). -/
def execCheckpointEpoch (s : State) : Host.Outcome State Fault Refusal :=
  .next (
    let k := s.ckptNow
    let fresh := match s.pair.lastSent with | some a => decide (a < k) | none => true
    if s.live && s.pair.unit == .active && s.ckptTaker && fresh && decide (k ≤ s.viewAll) then
      let s1 : State := { s with pair.ckptSkipped := s.pair.ckptSkipped + BitVec.ofNat 32 (s.ckptGap k) }
      match s1.pair.switchover with
      | some o => s1.switchCkpt o k
      | none => s1.sendCkpt k false
    else s)

/-- A standby takes a checkpoint message in the floor in force (R487, R506). -/
def State.takesCkpt (s : State) (p : PairHdr) : Bool :=
  s.ready && (s.pair.unit == .syncing || s.pair.unit == .synced) && !s.pair.resuming &&
  p.version == s.pair.floor && p.rsv == 0

/-- A fragment lands in the building copy (R493). -/
def State.buildFrag (s : State) (p : PairHdr) (sect : CkptSec) (bytes : List Byte) : State :=
  let fresh := match s.pair.building with | some b => b.k != p.epoch | none => true
  let b : Ckpt := match s.pair.building with
    | some b => if b.k = p.epoch then b else { k := p.epoch, pairId := s.pn P.PAIR_ID 0 }
    | none => { k := p.epoch, pairId := s.pn P.PAIR_ID 0 }
  { s with
    pair.building := some (ckptPut b sect)
    pair.buildFrags := if fresh then 1 else s.pair.buildFrags + 1
    pair.buildBytes := if fresh then bytes else s.pair.buildBytes ++ bytes }

/-- CKPT_DELTA_RX (R487, R493, R497). -/
def execCkptDeltaRx (p : PairHdr) (sect : CkptSec) (bytes : List Byte) (s : State) : Host.Outcome State Fault Refusal :=
  .next (
    if s.takesCkpt p && p.sect == sectNo sect && p.len == bytes.length && decide (bytes.length ≤ 1500) then
      let s1 := s.seqRx p
      if s1.2 then s1.1.toSyncing else s1.1.buildFrag p sect bytes
    else s)

/-- The building copy becomes the latest complete checkpoint; section 1 is written at once; SYNCED at the first one
after the full one (R493, R494, R497). -/
def State.ckptComplete (s : State) (b : Ckpt) : State :=
  let s1 : State := { s with
    pair.latest := some b, pair.ckptLast := b.k, pair.syncAt := s.epoch, pair.afterFull := s.pair.afterFull + 1
    pair.unit := if s.pair.afterFull = 0 then s.pair.unit else .synced
    pair.building := none, pair.buildFrags := 0, pair.buildBytes := [] }
  (s1.withSect b.sec1 State.applyParams).refreshPorts

/-- The end of a checkpoint: complete when the count and the CRC agree, else discarded (R493). -/
def State.ckptEnd (s : State) (p : PairHdr) (frags : Nat) (crc : U32) : State :=
  let none' : State := { s with pair.building := none, pair.buildFrags := 0, pair.buildBytes := [] }
  match s.pair.building with
  | some b =>
    if b.k = p.epoch ∧ s.pair.buildFrags = frags ∧ crc32 s.pair.buildBytes = crc then s.ckptComplete b else none'
  | none => none'

/-- CKPT_END_RX (R493). -/
def execCkptEndRx (p : PairHdr) (frags : Nat) (crc : U32) (s : State) : Host.Outcome State Fault Refusal :=
  .next (
    if s.takesCkpt p && p.len == 8 then
      let s1 := s.seqRx p
      if s1.2 then s1.1.toSyncing else s1.1.ckptEnd p frags crc
    else s)

/-- FINAL_RX: the checkpoint ends, and a SYNCED standby takes over from the next tick (R505). -/
def execFinalRx (p : PairHdr) (frags : Nat) (crc : U32) (s : State) : Host.Outcome State Fault Refusal :=
  .next (
    if s.takesCkpt p && p.len == 8 then
      let s1 := s.seqRx p
      if s1.2 then s1.1.toSyncing
      else
        let s2 := s1.1.ckptEnd p frags crc
        if s2.pair.unit = .synced ∧ s2.pair.ckptLast = p.epoch ∧ s2.clashes = false then
          ({ s2 with pair.finalRx := true } : State).startTakeover false
        else s2
    else s)

/-- SYNC_REQUEST_RX: the next checkpoint goes in full (R497). -/
def execSyncRequestRx (p : PairHdr) (s : State) : Host.Outcome State Fault Refusal :=
  .next (
    if s.ready && s.pair.unit == .active && p.rsv == 0 && p.len == 0 &&
        (p.version == s.pair.ownCv || p.version + 1 == s.pair.ownCv) then
      { (s.seqRx p).1 with pair.fullDue := true }
    else s)

/-- The sections of a flushed copy: 2 to 5, 8, 9 and the calibration of 7 (R492, R495). -/
def flushCopy (c : Ckpt) (id : Nat) : Ckpt :=
  { c with
    pairId := id, sec1 := none, sec6 := none
    sec7 := match c.sec7 with
      | some v => some { cal := v.cal, calVersion := v.calVersion }
      | none => none }

/-- CKPT_FLUSH, every 10 s (R495). -/
def execCkptFlush (s : State) : Host.Outcome State Fault Refusal :=
  .next (
    match s.pair.latest with
    | some c =>
      if s.clocked && s.isStandby && !s.pair.resuming && decide (s.pair.lastFlush + 80000 ≤ s.epoch) then
        let f := flushCopy c (s.pn P.PAIR_ID 0)
        { s with
          pair.flushA := if s.pair.flushNextB then s.pair.flushA else some f
          pair.flushB := if s.pair.flushNextB then some f else s.pair.flushB
          pair.flushNextB := !s.pair.flushNextB, pair.lastFlush := s.epoch, pair.flushEpoch := c.k }
      else s
    | none => s)

/-- CKPT_STALE: 10 s without a complete checkpoint (R497). -/
def execCkptStale (s : State) : Host.Outcome State Fault Refusal :=
  .next (
    if s.ready && (s.pair.unit == .syncing || s.pair.unit == .synced) && !s.pair.resuming &&
        decide (s.pair.syncAt + 80000 < s.epoch) then s.toSyncing
    else s)

/-! ### Start, floor and commands (R505 to R507, R509) -/

/-- PAIR_START_WAIT_END (R507). -/
def execPairStartWaitEnd (s : State) : Host.Outcome State Fault Refusal :=
  .next (
    if s.ready && s.pair.unit == .starting && (!s.time.running || decide (s.pair.startUntil ≤ s.epoch)) then
      s.pairDecide.syncDev
    else s)

/-- PAIR_FLOOR_SWITCH: both units change format; the standby syncs afresh (R506). -/
def execPairFloorSwitch (s : State) : Host.Outcome State Fault Refusal :=
  .next (
    if s.ready && s.paired && s.pair.floorPend != 0 && decide (s.pair.floorSwitch ≤ s.epoch) then
      let s1 : State := { s with
        pair.floor := s.pair.floorPend, pair.floorPend := 0, pair.floorSwitch := 0, pair.fullDue := true }
      if s1.isStandby then s1.toSyncing else s1
    else s)

/-- What the tables say of PAIR_SWITCHOVER. -/
def pairSwitchoverInfo : CmdInfo := { op := 0x0501, who := [.installer] }

/-- PAIR_SWITCHOVER's own checks (R505; log entry 55). -/
def pairSwitchoverVerdict (h : Hdr) (s : State) : Verdict :=
  if s.pair.unit = .starting then reject St.WRONG_MODE
  else if s.pair.unit ≠ .active ∨ s.pair.partner ≠ some .synced ∨ s.pair.partnerFailed = true then reject St.DISAGREE
  else if s.pair.switchover.isSome then reject St.BUSY
  else s.long h 0x0501 (fun n t =>
    { t with pair.switchover := some { handle := n, k := t.ckptFrom (t.epoch + 80) } })

/-- PAIR_SWITCHOVER (R505). -/
def execPairSwitchover (h : Hdr) (s : State) : Host.Outcome State Fault Refusal :=
  .next (s.command pairSwitchoverInfo h 0 (pairSwitchoverVerdict h))

/-- What the tables say of PAIR_RESYNC. -/
def pairResyncInfo : CmdInfo := { op := 0x0502, who := [.installer], standby := true }

/-- PAIR_RESYNC's own checks (R497, R509; log entry 55). -/
def pairResyncVerdict (s : State) : Verdict :=
  if s.pair.unit = .syncing ∨ s.pair.unit = .synced then { act := fun t => t.toSyncing } else reject St.WRONG_MODE

/-- PAIR_RESYNC (R497). -/
def execPairResync (h : Hdr) (s : State) : Host.Outcome State Fault Refusal :=
  .next (s.command pairResyncInfo h 0 pairResyncVerdict)

end Sys2Proof.Machine
end

