-- ==== Sys2Proof/Machine/Checks.lean ====
section
/-! DEFINITION. The agreement checks of the commit groups (R431, R432): each one reads a state that holds the values
that will be in force, and the state before, where a rule speaks of a change. -/

namespace Sys2Proof.Machine

/-! ### What several checks share -/

/-- Output points that lanes and the program in force name (R268, R293, R345, R360). -/
def State.namedOuts (t : State) : List Nat :=
  ((t.pEntries P.OUT_POINT).map (fun x => x.2.headD refNone)).filter (fun p => p != refNone) ++
    (match t.activeProg with | some g => g.outs.map (fun o => o.point) | none => [])

/-- No named output point ceases to be one (R293, R345, R360). -/
def State.keepsOuts (old t : State) : Bool := t.namedOuts.all (fun p => !old.isOutPoint p || t.isOutPoint p)

/-- Every element of a list is there once. -/
def onceOnly : List Nat → Bool
  | [] => true
  | a :: r => !r.contains a && onceOnly r

/-- The enabled stations with their definitions. -/
def State.stnDefs (t : State) : List (Nat × PVal) :=
  (t.pEntries P.STN_DEF).filter (fun x => x.2.headD 0 == 1)

/-- First point of a definition. -/
def defBase (v : PVal) : Nat := v.getD 11 0

/-- First point behind those of a definition. -/
def defEnd (v : PVal) : Nat := v.getD 11 0 + v.getD 12 0

/-- A point lies in an enabled station. -/
def State.inStation (t : State) (p : Nat) : Bool :=
  t.stnDefs.any (fun x => decide (defBase x.2 ≤ p) && decide (p < defEnd x.2))

/-- The station cycle of a definition in ticks (R291). -/
def State.defCycle (t : State) (v : PVal) : Nat := v.getD 4 0 * t.pn P.TASK_PERIOD_TICKS (v.getD 2 0)

/-- Points that CAN signals bind. -/
def State.canPoints (t : State) : List Nat :=
  ((t.pEntries P.CAN_SIG).filter (fun x => decide (x.2.headD 255 ≤ 64))).map (fun x => sigPoint x.2)

/-- A label that stands for no key (R446). -/
def noLabel : Nat := 2 ^ 64 - 1

/-! ### Time, calendar and ports -/

/-- TIME_CFG (R405). -/
def State.timeCfgOk (t : State) : Bool :=
  decide (t.pn P.TIME_LOCK_NS 0 < t.pn P.TIME_OFFSET_LIMIT_NS 0) &&
  !(t.pn P.TIME_SOURCE 0 == 1 && t.pn P.PTP_SLAVE_ONLY 0 == 1)

/-- A CAL_ALM_DATE names a day of some year, or any day (R541). -/
def almDateOk (d : Nat) : Bool :=
  d == 0 || (decide (1 ≤ d / 256) && decide (d / 256 ≤ 12) && decide (1 ≤ d % 256) &&
    decide (d % 256 ≤ monthDays 2000 (d / 256)))

/-- CAL_CFG (R541). -/
def State.calCfgOk (t : State) : Bool :=
  (List.range 4).all (fun n => t.pn P.CAL_ALM_EN n != 1 ||
    (t.pn P.CAL_ALM_DAYS n != 0 && almDateOk (t.pn P.CAL_ALM_DATE n)))

/-- PORT_SEC (R405). -/
def State.portSecOk (t : State) : Bool :=
  (List.range 4).all (fun p => t.pn P.MACSEC_MODE p == 0 ||
    (t.portModeOf p != 2 && t.pn P.MACSEC_KEY_LABEL p != noLabel))

/-! ### The pair -/

/-- STN_DEST_MAC and PAIR_LIVE_WINDOW_MS of a paired unit suit its stations (R510). -/
def State.pairStnOk (t : State) : Bool :=
  t.pn P.PAIR_ENABLE 0 != 1 ||
    (bitOf (t.pn P.STN_DEST_MAC 0) 40 &&
      t.stnDefs.all (fun x => decide (3 * t.defCycle x.2 ≤ 8 * t.pn P.PAIR_LIVE_WINDOW_MS 0)))

/-- PAIR_CFG (R510). -/
def State.pairCfgOk (t : State) : Bool :=
  t.pn P.PAIR_ENABLE 0 != 1 ||
    (t.pn P.PAIR_ID 0 != 0 && t.resolves (BitVec.ofNat 64 (t.pn P.PAIR_KEY_LABEL 0)) destMacsec && t.pairStnOk)

/-- An active unit with its partner present keeps PAIR_ENABLE and PAIR_ID (R510). -/
def State.pairLocked (old t : State) : Bool :=
  old.pair.unit == .active && old.pair.partner.isSome && !old.pair.partnerFailed &&
    (t.pn P.PAIR_ENABLE 0 != old.pn P.PAIR_ENABLE 0 || t.pn P.PAIR_ID 0 != old.pn P.PAIR_ID 0)

/-! ### Stations (R291 to R293, R297) -/

/-- Every pair of enabled stations: ranges apart, MAC addresses different. -/
def defsApart : List (Nat × PVal) → Bool
  | [] => true
  | x :: r =>
    r.all (fun y => (decide (defEnd x.2 ≤ defBase y.2) || decide (defEnd y.2 ≤ defBase x.2)) &&
      x.2.getD 9 0 != y.2.getD 9 0) && defsApart r

/-- Bytes of the frames that carry `n` entries and a header of `h` bytes in segment 0 (R297, R299, R302). -/
def frameLoad (n h : Nat) : Nat := 82 * max 1 ((n + 175) / 176) + 8 * n + h

/-- Points of a station with a direction. -/
def State.dirCount (t : State) (n count dir : Nat) : Nat :=
  ((List.range count).filter (fun j => (t.pv P.STN_POINTS n).getD (6 * j) 0 == dir)).length

/-- The enabled stations of an access port, 0 for A and 1 for B. -/
def State.onPort (t : State) (q : Nat) : List (Nat × PVal) :=
  t.stnDefs.filter (fun x => x.2.getD 1 0 == q || x.2.getD 1 0 == 2)

/-- The load of an access port in one direction, in bit/s; direction 1 is towards the stations (R297). -/
def State.portLoad (t : State) (q dir : Nat) : Rat :=
  ((t.onPort q).map (fun x =>
    let n := t.dirCount x.1 (x.2.getD 12 0) dir
    ((frameLoad n (if dir = 1 then 0 else 16) * 8 * 8000 : Nat) : Rat) / ((max 1 (t.defCycle x.2) : Nat) : Rat))).sum

/-- Both directions of both ports stay within 2.0 Gbit/s (R297). -/
def State.loadsOk (t : State) : Bool :=
  [0, 1].all (fun q => [0, 1].all (fun d => decide (t.portLoad q d ≤ 2000000000)))

/-- The input wait of every serving task covers the input window (R293 condition 9). -/
def State.waitsOk (t : State) : Bool :=
  t.stnDefs.all (fun x =>
    decide (t.pn P.STN_INPUT_WINDOW_US 0 + 1000 ≤ 125 * t.pn P.INPUT_WAIT_TICKS (x.2.getD 2 0)))

/-- The port is one that the gateway role leaves free for stations (R190, R293 condition 5). -/
def State.portFree (t : State) (port : Nat) : Bool :=
  if t.fed.role = 0 then true else if t.fed.role = 1 then port == 0 else false

/-- A descriptor of STN_POINTS (R292, R293 conditions 10 and 11). -/
def descOk (d : List Nat) : Bool :=
  let lo := qof (d.getD 3 0)
  let hi := qof (d.getD 4 0)
  let safe := qof (d.getD 5 0)
  decide (lo ≤ hi) && (if d.getD 0 0 = 1 then decide (lo ≤ safe) && decide (safe ≤ hi) else decide (safe = 0))

/-- One enabled station (R291, R293). -/
def State.stnDefOk (t : State) (n : Nat) (v : PVal) : Bool :=
  let cyc := t.defCycle v
  let pts := t.pv P.STN_POINTS n
  decide (defEnd v ≤ 262144) && t.canPoints.all (fun p => decide (p < defBase v) || decide (defEnd v ≤ p)) &&
  decide (80 ≤ cyc) && decide (cyc ≤ 80000) && decide (80 ≤ t.pn P.TASK_PERIOD_TICKS (v.getD 2 0)) &&
  decide (2 * cyc ≤ 8 * v.getD 14 0) && pts.length == 6 * v.getD 12 0

/-- What holds of every definition and descriptor, enabled or not: the port is free, and every field lies in the range
that another field gives it (R293 conditions 5, 10 and 11). -/
def State.stnFieldsOk (t : State) : Bool :=
  (t.pEntries P.STN_DEF).all (fun x => t.portFree (x.2.getD 1 0) && decide (x.2.getD 5 0 < x.2.getD 4 0)) &&
  (t.pEntries P.STN_POINTS).all (fun x =>
    (List.range (x.2.length / 6)).all (fun j => descOk ((x.2.drop (6 * j)).take 6)))

/-- STN_CFG (R293, R510). A zone gateway has no access port for the station link: every commit disagrees (R190). -/
def State.stnCfgOk (old t : State) : Bool :=
  t.fed.role != 2 && t.stnFieldsOk && defsApart t.stnDefs && t.stnDefs.all (fun x => t.stnDefOk x.1 x.2) && old.keepsOuts t && t.loadsOk && t.waitsOk &&
    t.pairStnOk

/-- STN_LINK (R293 condition 9, R510). -/
def State.stnLinkOk (t : State) : Bool := t.waitsOk && t.pairStnOk

/-! ### Field I/O (R345) -/

/-- FIELD_CH (R345). -/
def State.fieldChOk (old t : State) : Bool :=
  old.keepsOuts t &&
  (List.range 32).all (fun c => (t.pn P.FIO_SHARED c == 0 || t.pn P.FIO_MODE c == 3) &&
    (t.pn P.FIO_MODE c != 4 || decide (t.pn P.FIO_FILTER_US c ≤ 20)))

/-- FIELD_GRP (R345). -/
def State.fieldGrpOk (t : State) : Bool :=
  (List.range 4).all (fun g => decide (t.pq P.GRP_VALID_V g ≤ t.pq P.GRP_CUTOFF_V g) &&
    decide (t.pq P.GRP_CUTOFF_V g < t.pq P.GRP_WARN_V g))

/-- A value lies in the valid span of an input range (R335). -/
def ainSpan (range : Nat) (x : Rat) : Bool :=
  match range with
  | 1 => decide (endQ (-(256 / 25)) ≤ x) && decide (x ≤ endQ (256 / 25))
  | 2 => decide (-(1 / 2) ≤ x) && decide (x ≤ endQ (128 / 5))
  | _ => true

/-- FIELD_AIN (R345). -/
def State.fieldAinOk (t : State) : Bool :=
  (List.range 16).all (fun i => decide (t.pq P.AIN_LO i ≤ t.pq P.AIN_HI i) &&
    ainSpan (t.pn P.AIN_RANGE i) (t.pq P.AIN_LO i) && ainSpan (t.pn P.AIN_RANGE i) (t.pq P.AIN_HI i))

/-! ### CAN (R351, R360, R375) -/

/-- CAN_CH of one channel (R351). -/
def State.canChOk (t : State) (c : Nat) : Bool :=
  let nom := t.pn P.NOM_PRESC c * (1 + t.pn P.NOM_TSEG1 c + t.pn P.NOM_TSEG2 c)
  let dat := t.pn P.DATA_PRESC c * (1 + t.pn P.DATA_TSEG1 c + t.pn P.DATA_TSEG2 c)
  let f := t.pn P.CAN_FORMATS c
  decide (80000000 ≤ 1000000 * nom) && decide (10000 * nom ≤ 80000000) &&
  (f % 4 == 0 || (decide (dat < nom) &&
    decide (80000000 ≤ (if bitOf f 1 then 20000000 else 10000000) * dat))) &&
  decide (t.pn P.DATA_PRESC c ≤ t.pn P.NOM_PRESC c) && decide (t.pn P.NOM_SJW c ≤ t.pn P.NOM_TSEG2 c) &&
  decide (t.pn P.DATA_SJW c ≤ t.pn P.DATA_TSEG2 c) &&
  (t.pn P.TDC_MODE c == 1 || decide (80000000 ≤ 2000000 * dat))

/-- A data length suits a frame format (R348). -/
def lengthOk (fmt n : Nat) : Bool :=
  match fmt with
  | 0 => decide (n ≤ 8)
  | 1 => decide (n ≤ 8) || [12, 16, 20, 24, 32, 48, 64].contains n
  | _ => decide (1 ≤ n) && decide (n ≤ 2048)

/-- Bytes that a buffer holds (R356). -/
def bufRoom (b : Nat) : Nat := if b < 56 then 64 else 2048

/-- A configured buffer (R356, R371, R375). -/
def State.canBufOk (t : State) (c b : Nat) : Bool :=
  let dir := t.bufN c b 0
  let fmt := t.bufFmt c b
  dir == 0 ||
    (decide (t.bufN c b 4 < (if t.bufExt c b && fmt != 2 then 2 ^ 29 else 2 ^ 11)) &&
    lengthOk fmt (t.bufN c b 8) && decide (t.bufN c b 8 ≤ bufRoom b) &&
    decide (t.trailerLen c b ≤ t.bufN c b 8) &&
    (!(t.bufClaim c b && fmt != 0) || t.pn P.CAN_AUTH_LABEL c != noLabel) &&
    (if dir = 1 then t.bufN c b 2 == 0 && decide (t.bufN c b 11 ≤ 600000)
     else b != 64 && (t.bufN c b 2 != 2 ||
       (decide (8 ≤ t.bufN c b 11) && decide (t.bufN c b 11 ≤ 480000) && t.bufN c b 11 % 8 == 0 &&
        decide (t.bufN c b 12 < t.bufN c b 11)))))

/-- A signal (R359, R360). -/
def State.canSigOk (t : State) (c : Nat) (v : PVal) : Bool :=
  let b := v.getD 0 255
  let tx := t.bufN c b 0 == 2
  let room := t.bufN c b 8 - (if tx then t.trailerLen c b else 0)
  let lo := qof (v.getD 9 0)
  let hi := qof (v.getD 10 0)
  let safe := qof (v.getD 11 0)
  decide (64 < b) ||
    (sigFits (bitOf (v.getD 1 0) 0) (v.getD 4 0) (v.getD 2 0) room &&
    (!bitOf (v.getD 1 0) 2 || v.getD 2 0 == 32) &&
    decide (lo ≤ hi) && (if tx then decide (lo ≤ safe) && decide (safe ≤ hi) else decide (safe = 0)) &&
    (t.bufN c b 0 != 1 || decide (0 < t.bufN c b 11)) && !t.inStation (sigPoint v))

/-- CAN_MAP (R360, R375). -/
def State.canMapOk (old t : State) : Bool :=
  (t.pEntries P.CAN_BUF).all (fun x => t.canBufOk (x.1 / 65) (x.1 % 65)) &&
  (t.pEntries P.CAN_SIG).all (fun x => t.canSigOk (x.1 / 4096) x.2) && onceOnly t.canPoints && old.keepsOuts t

/-! ### Lanes (R114, R247) -/

/-- A plan binding in use names an element of the active model and a quantity that it has (R114). -/
def State.planRefOk (t : State) (id l : Nat) : Bool :=
  let b := t.pv id l
  b.headD refNone == refNone ||
    (match t.activeModel with
     | some m => (match findElem m (b.headD refNone) with
       | some r => (recQtys r).contains (b.getD 1 0)
       | none => false)
     | none => false)

/-- LANE_CFG of a lane (R114, R247). -/
def State.laneGroupOk (t : State) (l : Nat) : Bool :=
  t.laneCfgOk l && t.planRefOk P.SP_PLAN l && t.planRefOk P.FF_PLAN l

/-! ### Programs (R252, R258, R283) -/

/-- An instance of a program reads or writes a station point. -/
def State.instOnStation (t : State) (e : InstEnt) : Bool :=
  e.wires.any (fun w => match w with | .point n => t.inStation n | _ => false) ||
    (e.typeId / 256 == 11 && e.typeId != 0x0B08 && t.inStation (e.cfg.getD 0 0))

/-- The task serves stations, or its instances use station points (R252). -/
def State.taskOnStation (t : State) (k : Nat) : Bool :=
  t.stnDefs.any (fun x => x.2.getD 2 0 == k) ||
  (match t.activeProg with
   | some g => g.insts.any (fun e => e.task == k && t.instOnStation e) ||
       g.outs.any (fun o => o.task == k && t.inStation o.point)
   | none => false)

/-- The ranges of one task among its parameters, and R252. -/
def State.taskRangesOk (t : State) (k : Nat) : Bool :=
  let per := t.pn P.TASK_PERIOD_TICKS k
  let app := t.pn P.APPLY_OFFSET_TICKS k
  let lead := t.pn P.OUT_LEAD_TICKS k
  decide (t.pn P.TASK_PHASE_TICKS k < per) && decide (app ≤ per) && decide (lead < app) &&
  decide (t.pn P.INPUT_WAIT_TICKS k + 1 + lead ≤ app) && (!t.taskOnStation k || decide (80 ≤ per))

/-- PROG_TASK (R283, R293 condition 9). -/
def State.progTaskOk (t : State) : Bool :=
  (List.range 4).all (fun k => t.taskRangesOk k) && t.waitsOk &&
    (match t.activeProg with | some g => t.admits g | none => true)

/-! ### Dispatch and solves (R64, R82, R83, R123) -/

/-- The commit changes the step or scenario count (R64, R75). -/
def State.shapeChanges (old t : State) : Bool :=
  t.pn P.HORIZON_STEPS 0 != old.pn P.HORIZON_STEPS 0 || t.pn P.SCENARIOS 0 != old.pn P.SCENARIOS 0

/-- Weight of a scenario. -/
def State.scenWeight (t : State) (k : Nat) : Rat := t.pq (P.SCENARIO_WEIGHT_0 + k) 0

/-- A bank's model fits, where it holds one. -/
def State.modelFits (t : State) : Option NetModel → Bool
  | some m => t.fitsCapacity m
  | none => true

/-- DISPATCH_SHAPE (R64, R83). -/
def State.shapeOk (old t : State) : Bool :=
  let n := t.pn P.SCENARIOS 0
  decide (t.pn P.NONANT_STEPS 0 ≤ t.pn P.HORIZON_STEPS 0) && decide (t.pn P.REF_SCENARIO 0 < n) &&
  (List.range 8).all (fun k => if k < n then decide (0 < t.scenWeight k) else decide (t.scenWeight k = 0)) &&
  decide (|((List.range 8).map t.scenWeight).sum - 1| ≤ 1 / 1000000) &&
  t.model.series.all (fun x => x.2.kind == 0 || x.2.variants == 1 || decide (n ≤ x.2.variants)) &&
  (!old.shapeChanges t || (t.modelFits t.activeModel && t.modelFits t.stagedModel))

/-- DISPATCH_DEMAND: the ranges among its parameters (R82). -/
def State.demandOk (t : State) : Bool :=
  decide (t.pq P.DEMAND_T_REF_HEAT 0 ≤ t.pq P.DEMAND_T_BASE_HEAT 0 - 1) &&
  decide (t.pq P.DEMAND_T_BASE_COLD 0 + 1 ≤ t.pq P.DEMAND_T_REF_COLD 0)

/-- SOLVE_CYCLE (R123). -/
def State.solveCycleOk (t : State) : Bool :=
  decide (t.pn P.FAST_BUDGET_MS 0 ≤ t.pn P.WARM_BUDGET_MS 0) &&
  decide (t.pn P.WARM_BUDGET_MS 0 ≤ t.pn P.COLD_BUDGET_MS 0) &&
  decide (t.pn P.WARM_BUDGET_MS 0 ≤ 1000 * t.pn P.SOLVE_CADENCE_S 0) &&
  decide (t.pn P.SOLVE_PHASE_TICKS 0 < 8000 * t.pn P.SOLVE_CADENCE_S 0)

/-! ### Percolator (R151, R154, R186) -/

/-- PERC_TRACK (R151, R186). -/
def State.percTrackOk (t : State) : Bool :=
  decide (t.pn P.PERC_PHASE_TICKS 0 < 8 * t.pn P.PERC_PERIOD_MS 0) &&
  (match t.activeModel with
   | some m => percFits m (t.pn P.PARCELS_PER_SEG_MAX 0) (t.pn P.FLOW_SWEEPS 0) (t.pn P.PERC_PERIOD_MS 0)
   | none => true)

/-- One used entry of the measurement table (R154). -/
def State.measOk (t : State) (v : PVal) : Bool :=
  v.headD refNone == refNone ||
    (match t.activeModel with
     | some m => (match findElem m (v.headD refNone) with
       | some r => (bindableQtys r).contains (v.getD 1 0)
       | none => false)
     | none => false)

/-- PERC_MEAS (R154). -/
def State.percMeasOk (t : State) : Bool :=
  let used := ((t.pEntries P.MEAS_BINDING).map (fun x => x.2)).filter (fun v => v.headD refNone != refNone)
  used.all t.measOk && onceOnly (used.map (fun v => v.headD 0 * 256 + v.getD 1 0)) &&
    (match t.activeModel with | some m => t.fixedOk m | none => true)

/-! ### Federation (R218) -/

/-- FED_EXCH (R218). -/
def State.fedExchOk (t : State) : Bool :=
  [4, 5, 6].all (fun l => decide (t.pn P.EXCH_STEPS l * t.pn P.EXCH_STEP_MIN l ≤ 2880))

/-- FED_VERSION (R218). -/
def State.fedVersionOk (t : State) : Bool :=
  [4, 5, 6].all (fun l => decide (10 * roundTicks l ≤ 8000 * t.pn P.FLOOR_LEAD_S l))

/-! ### Labels and the whole check -/

/-- Destination of the station-link engine (R451). -/
abbrev destStation : Nat := 4

/-- Destination of the CAN authentication engine (R451). -/
abbrev destCan : Nat := 5

/-- Destination of the key that a label parameter names, and the field that holds the label (R451, R452). -/
def labelDest (id : Nat) : Option (Nat × Nat) :=
  if id = P.MACSEC_KEY_LABEL then some (0, destMacsec)
  else if id = P.PAIR_KEY_LABEL then some (0, destMacsec)
  else if id = P.STN_DEF then some (15, destStation)
  else if id = P.CAN_AUTH_LABEL then some (0, destCan)
  else none

/-- Every label that staged values name resolves to a key of its destination (R452). -/
def State.labelsOk (t : State) (vals : Tab PVal) : Bool :=
  vals.all (fun x => match labelDest (x.1 / 65536) with
    | some (k, dest) => x.2.getD k noLabel == noLabel || t.resolves (BitVec.ofNat 64 (x.2.getD k noLabel)) dest
    | none => true)

/-- The agreement check of one group instance (R431). -/
def State.groupOk (old t : State) (g i : Nat) : Bool :=
  match g with
  | 0x0201 => t.timeCfgOk
  | 0x0202 => t.calCfgOk
  | 0x0501 => t.pairCfgOk
  | 0x0602 => t.portSecOk
  | 0x0701 => old.stnCfgOk t
  | 0x0702 => t.stnLinkOk
  | 0x0801 => old.fieldChOk t
  | 0x0802 => t.fieldGrpOk
  | 0x0803 => t.fieldAinOk
  | 0x0804 => old.keepsOuts t
  | 0x0901 => t.canChOk i
  | 0x0902 => old.canMapOk t
  | 0x0A01 => t.laneGroupOk i
  | 0x0B02 => t.progTaskOk
  | 0x0C01 => old.shapeOk t
  | 0x0C04 => t.demandOk
  | 0x0C05 => t.solveCycleOk
  | 0x0D01 => t.percTrackOk
  | 0x0D02 => t.percMeasOk
  | 0x0E02 => t.fedExchOk
  | 0x0E03 => t.fedVersionOk
  | _ => true

end Sys2Proof.Machine
end

