-- ==== Sys2Proof/Machine/Release.lean ====
section
/-! DEFINITION. Reset assertion, the release order, firmware banks and what a start does (chapter "Power, reset, the
Drip domain and the calendar"). -/

namespace Sys2Proof.Machine

/-! ### Assertion (R519, R520) -/

/-- What a reset leaves: committed values, images, bank selects, floors and notes in flash and MRAM, retained and
flushed copies, keys, the audit log, the Drip domain, the firmware banks and the levels of the lands. Every handle,
binding and staged write is gone, and everything else is as after reset (R423, R520). Release stands at step 1. -/
def State.warm (s0 : State) : State :=
  let s := s0.loseInstalls
  { ident := s.ident, par := s.par, pending := s.pending, out := s.out, free := s.free, drip := s.drip
    aud := { s.aud with appliedEpoch := none }
    key := {
      slots := s.key.slots, entries := s.key.entries, kek := s.key.kek, kekValid := s.key.kekValid
      storeState := s.key.storeState, enginesClear := s.key.enginesClear && !s.key.kekValid
      tamLatched := s.key.tamLatched, tamMask := s.key.tamMask, tamCause := s.key.tamCause, tamTime := s.key.tamTime
      tamPending := s.key.tamPending }
    model := {
      bankA := s.model.bankA, bankB := s.model.bankB, activeB := s.model.activeB, hasActive := s.model.hasActive
      staged := s.model.staged, image := s.model.image, tried := s.model.tried, floor := s.model.floor
      openNote := s.model.openNote, outOfService := s.imageService }
    prog := {
      bankA := s.prog.bankA, bankB := s.prog.bankB, activeB := s.prog.activeB, hasActive := s.prog.hasActive
      staged := s.prog.staged, floor := s.prog.floor, openNote := s.prog.openNote, retainA := s.prog.retainA
      retainB := s.prog.retainB, retainNextB := s.prog.retainNextB, retainEpoch := s.prog.retainEpoch }
    lane := s.lanesFresh.lane
    perc := (State.refreshPeriod { s with perc := { cal := s.perc.cal, calVersion := s.perc.calVersion } }).perc
    pair := {
      generation := s.pair.generation, genSeen := s.pair.generation, flushA := s.pair.flushA, flushB := s.pair.flushB
      flushNextB := s.pair.flushNextB, flushEpoch := s.pair.flushEpoch, ownCv := s.pair.ownCv, floor := s.pair.ownCv }
    net := { mac := s.net.mac }
    time := { tb1 := { freq := s.time.tb1.freq } }
    fed := { ownVersion := s.fed.ownVersion }
    pwr := { vbulk := s.pwr.vbulk, vaon := s.pwr.vaon }
    rst := {
      stage := 1, asserted := s.rst.asserted, pinLow := s.rst.pinLow, vbulkGood := s.rst.vbulkGood
      fwActive := s.rst.fwActive, fwTrial := s.rst.fwTrial, fwLoaded := s.rst.fwLoaded, fwSerial := s.rst.fwSerial
      fwFloor := s.rst.fwFloor, fwTrialNext := s.rst.fwTrialNext, fwRunningTrial := s.rst.fwRunningTrial
      vio := s.rst.vio, perst := s.rst.perst } }

/-! ### Firmware banks (R526) -/

/-- The firmware that runs, as an image. -/
def State.runningFw (s : State) : FwImage :=
  { version := s.ident.fw, serial := s.rst.fwSerial, ckptCv := s.pair.ownCv, qualothCv := s.fed.ownVersion }

/-- The other bank runs: the two images change places. -/
def State.swapFw (s : State) : State :=
  match s.rst.fwLoaded with
  | none => s
  | some x =>
    { s with
      ident.fw := x.version
      rst.fwSerial := x.serial
      rst.fwActive := 1 - s.rst.fwActive
      rst.fwLoaded := some s.runningFw
      pair.ownCv := x.ckptCv
      pair.floor := x.ckptCv
      fed.ownVersion := x.qualothCv }

/-- The start of step 5 boots the trial bank, where one is marked. -/
def State.bootTrial (s : State) : State :=
  if s.rst.fwTrialNext && s.rst.fwLoaded.isSome then
    { s.swapFw with rst.fwRunningTrial := true }
  else s

/-- The confirmed bank stands in its place again; a trial that a reset cut short stays marked (log entry 57). -/
def State.endTrialRun (s : State) : State :=
  if s.rst.fwRunningTrial then { s.swapFw with rst.fwRunningTrial := false } else s

/-- A trial that completed becomes the confirmed bank, and the serial floor rises to its serial. -/
def State.confirmTrial (s : State) : State :=
  if s.rst.fwRunningTrial then
    { s with
      rst.fwRunningTrial := false
      rst.fwTrialNext := false
      rst.fwTrial := 0
      rst.fwFloor := max s.rst.fwFloor s.rst.fwSerial }
  else s

/-! ### Assertion by a source -/

/-- Reset is held while RESET_N is low or VBULK is not good (R519). -/
def State.holdReset (s : State) : State :=
  { s with rst.asserted := s.rst.pinLow || !s.rst.vbulkGood }

/-- A source asserts reset: RESET_CAUSE is written, with the step at which the previous release halted, and
everything starts anew from step 1 (R519, R520, R530). -/
def State.assertReset (s : State) (cause : BitVec 5) : State :=
  let halted := if s.rst.stage < s.rst.halted then s.rst.halted else 0
  let s1 := s.warm.endTrialRun
  ({ s1 with drip.causeBits := cause, drip.wakeSrc := 0, drip.bootFault := halted } : State).holdReset

/-- A trial falls back: release restarts at step 2 from the confirmed bank (R526). -/
def State.fallBack (s : State) : State :=
  let s1 := s.warm.endTrialRun
  ({ s1 with rst.fwTrialNext := false, rst.fwTrial := 0, drip.fwFallback := true } : State).holdReset

/-- Release halts at a step, which the Drip domain records; a trial that halts at steps 5 to 9 falls back
(R523, R526). -/
def State.haltAt (s : State) (k : Nat) : State :=
  let s1 : State := { s with drip.bootFault := k, drip.bootFaultDue := true }
  if s.rst.fwRunningTrial && decide (5 ≤ k) then s1.fallBack else { s1 with rst.halted := k }

/-! ### What a start does -/

/-- Indices of the parameters whose committed values are taken at a reset (R405, R477). -/
def bootIds : List Nat :=
  [P.QUALOTH_GROUP_MAC, P.QUALOTH_VLAN, P.QUALOTH_ETHERTYPE, P.STN_ETHERTYPE, P.MGMT_ETHERTYPE, P.PTP_DOMAIN]

/-- Values that act from this reset on are taken (R218, R405, R477, R510). -/
def State.takeBoot (s : State) : State :=
  let cfg := bootIds.foldl (fun (t : Tab PVal) id => tset t (pkey id 0) (s.pv id 0)) []
  ({ s with
    net.bootCfg := cfg
    time.outSel := s.pn P.TIME_SEL_OUT 0
    fed.role := s.pn P.GATEWAY_ROLE 0
    fed.addr := s.pn P.QUALOTH_ADDR 0
    fed.enabled := s.pn P.FED_ENABLE 0 == 1
    pair.prefInForce := s.pn P.PAIR_PREFERENCE 0 } : State).refreshPorts

/-- The audit record of an operation that a reset abandoned (R75, R279). -/
def State.auditLost (s : State) (note : Option (U32 × U32)) (op code : Nat) : State :=
  match note with
  | none => s
  | some n =>
    s.auditPush { kind := 2, source := 0xFF, status := St.DISAGREE, opcode := op, handle := n.1.toNat,
                  tag := n.2.toNat, detail := padTo 40 (le 4 code) }

/-- Notes of an abandoned activation or exchange are recorded and cleared (R75, R279). -/
def State.lostNotes (s : State) : State :=
  let s1 := (s.auditLost s.model.openNote 0x0C02 0x0503).auditLost s.prog.openNote 0x0B02 0x1401
  { s1 with model.openNote := none, prog.openNote := none }

/-- KEYS_LOST after a loss of the key-encryption key, recorded with cause 2 (R463); a pending tamper is reported
(R464). -/
def State.startKeys (s : State) : State :=
  let s1 : State := if s.drip.kekLostDue then
      ({ s with
        key.storeState := if s.key.storeState = 0 then 0 else 2
        key.tamCause := 2
        key.tamTime := 0#64
        drip.kekLostDue := false } : State).auditDev 7 0 St.TAMPER 0 (leRec [(1, 0), (1, 0), (1, 2), (1, 0), (8, 0)])
    else s
  if s1.key.tamPending then s1.tamperReport else s1

/-- The epoch clock waits for TB0, or starts (R398). -/
def State.startClock (s : State) : State :=
  let wait := s.pn P.TIME_SEL_EPOCH 0 == 0 && s.pn P.TIME_START_WAIT_S 0 != 0
  (({ s with time.startWait := wait } : State).loadTb2).tryStart

/-- The unit starts: alone at once, in a pair by what it hears of its partner (R489, R507). -/
def State.startUnit (s : State) : State :=
  if s.pn P.PAIR_ENABLE 0 = 1 then
    { s with pair.unit := .starting, pair.startUntil := s.epoch + 8 * s.pn P.PAIR_START_WAIT_MS 0 }
  else (s.becomeActive .single).progStart false

/-- The copies of the POWER_CFG and CAL_CFG values in the Drip domain (R541). -/
def State.copyDrip (s : State) : State :=
  { s with drip.cfg := s.par.vals.filter (fun x =>
      decide (0x0301 ≤ x.1 / 65536) && decide (x.1 / 65536 ≤ 0x030B) ||
      decide (0x0220 ≤ x.1 / 65536) && decide (x.1 / 65536 ≤ 0x0226)) }

/-- Step 8: ports and host link; the module is READY, checks its keys, writes its start record, and starts
(R462, R472, R507, R521). -/
def State.step8 (s : State) (obs : ReleaseObs) : State :=
  let s1 := (({ s with rst.stage := 8 } : State).takeBoot).auditDev 8 s.resetCause St.OK 0 []
  let s2 := ((s1.startKeys).scrub obs.keysBad obs.prevBad).lostNotes
  (s2.startClock).startUnit

/-- Comparator events recorded while the core was unpowered are posted and audited (R528). -/
def State.postDrip (s : State) : State :=
  let s1 := s.drip.evts.foldl (fun a e => if e.posted then a else a.condition St.SUPPLY_EVENT (dripEvtBytes e)) s
  { s1 with drip.evts := s1.drip.evts.map (fun e => { e with posted := true }) }

/-- Alarms that fired while the core was unpowered are posted (R538). -/
def State.postAlarms (s : State) : State :=
  (List.range 4).foldl (fun a n =>
    if (a.calAlm n).eventDue then (a.setAlm n { a.calAlm n with eventDue := false }).almReport n else a) s

/-- The BOOT_FAULT of an earlier release is posted as a device condition, whose code the spec does not give: a free
value among the condition codes 16#60 to 16#7F (R523, R425; log entry 57). -/
def State.postBootFault (s : State) : State :=
  if s.drip.bootFaultDue then
    ({ s.took with drip.bootFaultDue := false } : State).condition (0x60 + s.freshWord.toNat % 32)
      (le 1 s.drip.bootFault)
  else s

/-- Release is complete: a trial is confirmed, and what happened while the core was unpowered is posted
(R521, R523, R526, R528). -/
def State.releaseDone (s : State) : State :=
  let s1 := ({ s with rst.stage := 10 } : State).confirmTrial
  ((s1.postBootFault).postDrip).postAlarms

/-! ### The release order (R521) -/

/-- The step that comes next: the OTN-Q8200 has no memory to train and no field die. -/
def State.nextRelease (s : State) : Nat :=
  if s.rst.stage = 5 && !s.fitted then 7 else s.rst.stage + 1

/-- Release may go on: not complete, not halted, and from step 2 on not held and not DORMANT (R519, R523, R529). -/
def State.mayRelease (s : State) : Bool :=
  decide (s.rst.stage < 10) && s.rst.halted == 0 &&
    (s.rst.stage == 0 || (!s.rst.pinLow && s.rst.vbulkGood && !s.drip.dormant))

/-- Step 2: fuse copy A, or B where A fails its check; nothing is applied when both fail (R522). -/
def State.loadTrim (s : State) (obs : ReleaseObs) : State :=
  if obs.trimAOk then { s with rst.stage := 2, rst.trim := obs.trimA, rst.trimCopy := 1 }
  else if obs.trimBOk then { s with rst.stage := 2, rst.trim := obs.trimB, rst.trimCopy := 2 }
  else s.haltAt 2

/-- A release step ends with its condition met. -/
def State.stepDone (s : State) (obs : ReleaseObs) : State :=
  match s.nextRelease with
  | 1 => { s with rst.stage := 1, drip.cd0 := true }
  | 2 => ({ s with rst.asserted := false } : State).loadTrim obs
  | 3 => { s with rst.stage := 3, rst.coreMv := 800, pwr.setMv := 800 }
  | 4 =>
    if obs.testMode then { s with rst.stage := 4, rst.halted := 4 }
    else ({ s with rst.stage := 4 } : State).bootTrial
  | 5 => ({ s with rst.stage := 5 } : State).copyDrip
  | 6 => { s with rst.stage := 6 }
  | 7 => ({ s with rst.stage := 7 } : State).govCommitted
  | 8 =>
    if s.rst.vio = 15#4 then (if s.fitted then s.step8 obs else (s.step8 obs).releaseDone) else s.haltAt 8
  | _ => ({ s with rst.dieReleased := true } : State).releaseDone

/-- RELEASE_STEP: the next step meets its condition; one that does not halts release (R521, R523). -/
def execReleaseStep (obs : ReleaseObs) (s : State) : Host.Outcome State Fault Refusal :=
  .next (
    if !s.mayRelease then s
    else if obs.cond then (s.stepDone obs).syncDev
    else s.haltAt s.nextRelease)

/-- RELEASE_HALT: the next step has not met its condition within its duration (R523). -/
def execReleaseHalt (s : State) : Host.Outcome State Fault Refusal :=
  .next (if s.mayRelease then s.haltAt s.nextRelease else s)

/-- FW_TRIAL_TIMEOUT: the trial has not reached BOOT_STAGE 10 within 2 s of the start of step 5 (R526). -/
def execFwTrialTimeout (s : State) : Host.Outcome State Fault Refusal :=
  .next (if s.rst.fwRunningTrial && decide (s.rst.stage < 10) then s.fallBack else s)

/-! ### RESET_N (R519, R529) -/

/-- RESET_N_ASSERT: reset is asserted and held; in DORMANT it is a wake source. -/
def execResetNAssert (s : State) : Host.Outcome State Fault Refusal :=
  .next (
    if s.rst.pinLow then s
    else (({ s with rst.pinLow := true } : State).assertReset 4#5).wake 4)

/-- RESET_N_RELEASE: release starts at step 2. -/
def execResetNRelease (s : State) : Host.Outcome State Fault Refusal :=
  .next (if s.rst.pinLow then ({ s with rst.pinLow := false } : State).holdReset else s)

/-! ### RESET (R540) -/

/-- What the tables say of RESET. -/
def resetInfo : CmdInfo := { op := 0x0301, who := [.installer, .maker], standby := true }

/-- RESET: MODE 1 ends in DORMANT. A maker's RESET needs an installer binding and STOP or NO_PROGRAM (R470). The
reply precedes the reset (R519, R529, R540). -/
def resetVerdict (h : Hdr) (mode : Nat) (s : State) : Verdict :=
  if s.roleOf h.src == .maker && !s.installerHeld then reject St.ROLE
  else if s.roleOf h.src == .maker && !(s.prog.run.mode == 0 || s.prog.run.mode == 1) then reject St.WRONG_MODE
  else if 1 < mode then reject St.RANGE
  else { act := fun t => let t1 := t.assertReset 8#5
                         if mode = 1 then { t1 with drip.dormant := true } else t1 }

/-- RESET (R540). -/
def execReset (h : Hdr) (mode : Nat) (s : State) : Host.Outcome State Fault Refusal :=
  .next (s.command resetInfo h mode (resetVerdict h mode))

/-! ### FW_LOAD and FW_ACTIVATE (R526) -/

/-- Firmware images: the header of R65 with IMAGE_TYPE 1 (R526; log entry 57). -/
def fwImage : ImageKind :=
  { magic := 0x4D4E544F, itype := 1, base := 0x0100, maxLen := 134217728, maskBits := 7
    sections := [], needed := [], reserved60 := true }

/-- Checks 1 to 3 of R69 for a firmware image: 0 where they pass. -/
def State.fwCode (s : State) (b : List Byte) : Nat :=
  let c := s.containerCode fwImage b
  if c ≠ 0 then c
  else
    let g := s.signatureCode fwImage b
    if g ≠ 0 then g else if imgSerial b < s.rst.fwFloor then fwImage.base + 0x21 else 0

/-- What the tables say of FW_LOAD. -/
def fwLoadInfo : CmdInfo := { op := 0x0303, who := [.installer], standby := true }

/-- FW_LOAD: one at a time, and not while a trial runs; the inactive bank is overwritten (R526; log entry 57). -/
def fwLoadVerdict (h : Hdr) (s : State) : Verdict :=
  if s.rst.fwOp.isSome || s.rst.fwRunningTrial then reject St.BUSY
  else s.long h 0x0303 (fun n t =>
    { t with
      rst.fwOp := some { handle := n, seq := t.host.accSeq }
      rst.fwLoaded := none
      rst.fwTrialNext := false
      rst.fwTrial := 0
      host.accSeq := t.host.accSeq + 1 })

/-- FW_LOAD (R526). -/
def execFwLoad (h : Hdr) (s : State) : Host.Outcome State Fault Refusal :=
  .next (s.command fwLoadInfo h 0 (fwLoadVerdict h))

/-- FW_LOAD_DONE: the image has arrived whole, and its checks decide (R526). -/
def execFwLoadDone (bytes : List Byte) (img : FwImage) (s : State) : Host.Outcome State Fault Refusal :=
  .next (
    match s.rst.fwOp with
    | none => s
    | some o =>
      if s.ready then
        let code := s.fwCode bytes
        let x : FwImage := { img with serial := imgSerial bytes }
        let s1 : State := { s with rst.fwOp := none, rst.fwLoaded := if code = 0 then some x else none }
        s1.complete o.handle (codeStatus code) code (leRec [(4, code)])
      else s)

/-- What the tables say of FW_ACTIVATE. -/
def fwActivateInfo : CmdInfo := { op := 0x0304, who := [.installer], standby := true }

/-- FW_ACTIVATE: the loaded bank is marked trial; with no loaded bank DISAGREE (R526; log entry 57). -/
def fwActivateVerdict (s : State) : Verdict :=
  if s.rst.fwOp.isSome || s.rst.fwRunningTrial then reject St.BUSY
  else if s.rst.fwLoaded.isNone then reject St.DISAGREE
  else { act := fun t => { t with rst.fwTrialNext := true, rst.fwTrial := 1 } }

/-- FW_ACTIVATE (R526). -/
def execFwActivate (h : Hdr) (s : State) : Host.Outcome State Fault Refusal :=
  .next (s.command fwActivateInfo h 0 fwActivateVerdict)

/-! ### BLOCK_RESET (R525) -/

/-- BLOCK and INDEX name a block. -/
def blockNamed (b i : Nat) : Bool :=
  match b with
  | 3 => decide (i < 16)
  | 5 => decide (i < 16)
  | 7 => decide (i < 6)
  | _ => decide (1 ≤ b) && decide (b ≤ 6) && i == 0

/-- The block is idle (R525). -/
def State.blockIdle (s : State) (b i : Nat) : Bool :=
  !s.inReset b i && match b with
  | 1 => s.pn P.SOLVE_ENABLE 0 == 0 && s.slv.running.isNone && s.slv.waiting.isNone && s.slv.staged.isEmpty &&
      s.slv.fastPend.isNone && !s.actOpen
  | 2 => !s.actOpen && s.perc.upd.isNone
  | 3 => (List.range 64).all (fun k =>
      s.pn P.LANE_ENABLE (64 * i + k) == 0 && (s.lane? (64 * i + k)).swapPend.isNone)
  | 4 => (s.prog.run.mode == 0 || s.prog.run.mode == 1 || s.prog.run.mode == 4) && s.prog.op.isNone
  | 5 => s.pn P.CAN_MODE i == 0 && (List.range 65).all (fun k => (s.canBuf i k).handle == 0#32)
  | 6 => (List.range 32).all (fun c => s.pn P.FIO_MODE c == 0) && (List.range 8).all (fun a => s.pn P.AOUT_RANGE a == 0)
  | _ => s.pn P.PORT_ENABLE i == 0

/-- What the reset clears in the block (R525; log entry 57). -/
def State.clearBlock (s : State) (b i : Nat) : State :=
  match b with
  | 2 => { s with perc.parcels := [], perc.hasParcels := false, perc.fronts := [], perc.resetBusy := true }
  | 3 =>
    let f := s.lanesFresh
    { s with lane.lanes := (List.range 64).foldl (fun (t : Tab Lane) k => match tget f.lane.lanes (64 * i + k) with
        | some x => tset t (64 * i + k) x
        | none => t) s.lane.lanes }
  | 5 =>
    let s1 := s.setCanCh i { state := 0 }
    { s1 with can.bufs := s1.can.bufs.filter (fun x => x.1 / 65 != i) }
  | 6 =>
    { s with
      fio := { linkLosses := s.fio.linkLosses }
      afe := { lastRef := s.epoch, frameStart := s.epoch }
      rst.dieReleased := false }
  | 7 => s.setPort i { s.port i with link := false, mode := 0 }
  | _ => s

/-- The block runs again. -/
def State.freeBlock (s : State) (b : Nat) : State :=
  match b with
  | 2 => { s with perc.resetBusy := false }
  | 6 => { s with rst.dieReleased := true }
  | _ => s

/-- What the tables say of BLOCK_RESET. -/
def blockResetInfo : CmdInfo := { op := 0x0302, who := [.installer] }

/-- BLOCK_RESET's own checks (R525). -/
def blockResetVerdict (h : Hdr) (b i : Nat) (s : State) : Verdict :=
  if !blockNamed b i then reject St.RANGE
  else if !s.fitted && (b == 1 || b == 2 || b == 6) then reject St.NOT_FITTED
  else if !s.blockIdle b i then reject St.NOT_IDLE
  else s.long h 0x0302 (fun n t =>
    let t1 := t.clearBlock b i
    { t1 with rst.blockOps := t1.rst.blockOps ++ [{ handle := n, block := b, index := i }] })

/-- BLOCK_RESET (R525). -/
def execBlockReset (h : Hdr) (block index : Nat) (s : State) : Host.Outcome State Fault Refusal :=
  .next (s.command blockResetInfo h (65536 * block + index) (blockResetVerdict h block index))

/-- BLOCK_RESET_DONE: the block has been released again (R525). -/
def execBlockResetDone (handle : U32) (s : State) : Host.Outcome State Fault Refusal :=
  .next (
    match s.rst.blockOps.find? (fun o => o.handle == handle) with
    | none => s
    | some o =>
      let s1 : State := { s with rst.blockOps := s.rst.blockOps.filter (fun x => x.handle != handle) }
      (s1.freeBlock o.block).complete handle St.OK 0 [])

end Sys2Proof.Machine
end

