-- ==== Sys2Proof/Machine/Power.lean ====
section
/-! DEFINITION. The governor's steps, supply events, wake, the loss of I/O supplies, the host port's reset land and
die temperatures (chapters "Power, reset, the Drip domain and the calendar" and "Lands, electrical characteristics and
package"). -/

namespace Sys2Proof.Machine

/-! ### The governor (R514 to R517) -/

/-- Iterations that R143 covers for a solve kind, scaled by R144 and capped by the solve's iteration limit (R146; log entry
58). -/
def State.marginIters (s : State) (v : Solve) : Nat :=
  let n := if v.kind = 1 then 620 else if v.kind = 2 then 250 else 40
  let vars := match v.inputs.model with
    | some m => max 1000000 (modelVars m * s.pn P.HORIZON_STEPS 0 * s.pn P.SCENARIOS 0)
    | none => 1000000
  min v.iterMax (n * s.iterScale / vars)

/-- The margin of the running solve: 1 − iteration time × N / (B − 6 ms) (R146). -/
def State.solveMargin (s : State) (v : Solve) (iterUs : F32) : F32 :=
  F32.ofRat (1 - iterUs.rat * (s.marginIters v : Rat) / (((v.budget : Rat) - 6) * 1000))

/-- The margin that a measurement of a class gives (R146, R514). -/
def State.measured (s : State) (cls : Nat) (x : F32) : F32 :=
  if cls = 2 then (match s.slv.running with | some v => s.solveMargin v x | none => x) else x

/-- MARGIN_BREACH: a measurement of a class that has work due (R514, R516). -/
def execMarginBreach (cls : Nat) (margin : F32) (s : State) : Host.Outcome State Fault Refusal :=
  .next (
    if decide (cls < 4) && decide (7 ≤ s.rst.stage) && s.classActive cls then s.marginIn cls (s.measured cls margin)
    else s)

/-- GOV_SETTLE_STEP: after GOV_SETTLE_MS with M at or above GOV_TARGET + 0.05 the set-point falls by 5 mV, not below
GOV_MIN_MV; never while any margin is below (R29, R516). -/
def execGovSettleStep (margin : F32) (s : State) : Host.Outcome State Fault Refusal :=
  .next (
    let floor := F32.add (s.pf P.GOV_TARGET 0) (F32.ofRatio 5 100)
    if s.governs && !s.pwr.breach && F32.le floor margin && F32.le floor s.smallest &&
        decide (s.pwr.settleFrom + 8 * s.pn P.GOV_SETTLE_MS 0 ≤ s.epoch) &&
        decide (s.pn P.GOV_MIN_MV 0 < s.pwr.setMv) then
      ({ s with
        pwr.settleFrom := s.epoch
        pwr.setMv := max (s.pn P.GOV_MIN_MV 0) (s.pwr.setMv - 5) } : State).followRail
    else s)

/-! ### VBULK (R513, R518, R519, R527) -/

/-- The upper threshold of VBULK_LOW: VBULK_WARN_V + 0.3 V, by the Drip domain's copy (R527, R541). -/
def State.warnUp (s : State) : F32 := F32.add (fof (s.dripVal P.VBULK_WARN_V 0)) (F32.ofRatio 3 10)

/-- VBULK rises above the upper threshold of VBULK_LOW (R527). -/
def State.vbulkRises (s : State) : State :=
  { s.dripEvent 0 true with drip.vbulkOk := true, pwr.sagFrom := s.epoch }

/-- VBULK_LOW: the Drip domain draws from VBULK at or above 9.6 V (R513); falling below VBULK_WARN_V the comparator records its event and the sag guard starts; rising above
the upper threshold it records the event (R518, R527). -/
def execVbulkLow (volts : F32) (s : State) : Host.Outcome State Fault Refusal :=
  .next (
    let s1 : State := { s with pwr.vbulk := volts, drip.onVaon := F32.lt volts (F32.ofRatio 96 10) }
    if F32.lt volts (fof (s.dripVal P.VBULK_WARN_V 0)) then
      (if s.drip.vbulkOk then
        ({ s1.dripEvent 0 false with
          drip.vbulkOk := false, pwr.sagGuard := true, pwr.sagHold := s.pn P.SAG_HOLD_S 0 } : State).followRail
      else s1)
    else if F32.le s.warnUp volts && !s.drip.vbulkOk then s1.vbulkRises
    else s1)

/-- SAG_HOLD_END: VBULK has stayed at or above VBULK_WARN_V + 0.3 V for SAG_HOLD_S, and the guard ends (R518). -/
def execSagHoldEnd (volts : F32) (s : State) : Host.Outcome State Fault Refusal :=
  .next (
    if s.pwr.sagGuard && s.drip.vbulkOk && F32.le s.warnUp volts &&
        (!s.time.running || decide (s.pwr.sagFrom + s.pwr.sagHold * 8000 ≤ s.epoch)) then
      ({ s with pwr.vbulk := volts, pwr.sagGuard := false } : State).followRail
    else s)

/-- VBULK_FAIL: below 9.0 V power-on reset is asserted; the Drip domain runs from VAON (R513, R518, R519). A dormant
module stays dormant (R529). -/
def execVbulkFail (volts : F32) (s : State) : Host.Outcome State Fault Refusal :=
  .next (
    if s.rst.vbulkGood && F32.lt volts (F32.ofRatio 9 1) then
      let s1 := s.tearRetain.dripEvent 1 false
      ({ s1 with
        rst.vbulkGood := false, drip.vbulkOk := false, drip.onVaon := true, pwr.vbulk := volts } : State).assertReset 2#5
    else s)

/-- VBULK_GOOD: VBULK has stayed above 9.6 V for 16 Drip cycles: the Drip domain runs from it, and release may start
at step 2 (R513, R519, R527). -/
def execVbulkGood (volts : F32) (s : State) : Host.Outcome State Fault Refusal :=
  .next (
    if !s.rst.vbulkGood && F32.lt (F32.ofRatio 96 10) volts then
      let s1 : State := { s.dripEvent 1 true with
        rst.vbulkGood := true
        drip.onVaon := false
        drip.causeBits := s.drip.causeBits ||| 2#5
        pwr.vbulk := volts }
      (if F32.le s.warnUp volts && !s.drip.vbulkOk then s1.vbulkRises else s1).holdReset
    else s)

/-! ### The Drip domain (R513, R527 to R529) -/

/-- VAON_POWER_ON: the Drip domain starts from no power: its state and the key-encryption key are gone, and release
starts at step 1 (R463, R513, R519). -/
def execVaonPowerOn (volts : F32) (s : State) : Host.Outcome State Fault Refusal :=
  .next (
    let s1 := s.warm.endTrialRun
    ({ s1 with
      rst.stage := 0
      rst.vbulkGood := false
      drip := { kekLostDue := s.key.kekValid || s.drip.kekLostDue, vaonOk := F32.lt (F32.ofRatio 2 1) volts, onVaon := true }
      key.kek := 0#256
      key.kekValid := false
      key.tamLatched := 0
      key.tamMask := 0
      key.tamCause := 0
      key.tamTime := 0#64
      pwr.vaon := volts
      pwr.vbulk := F32.zero } : State).holdReset)

/-- VAON_LOW: VAON falls below 2.0 V or rises to 2.1 V, and the comparator records its event (R527). -/
def execVaonLow (rising : Bool) (volts : F32) (s : State) : Host.Outcome State Fault Refusal :=
  .next (
    let s1 : State := { s with pwr.vaon := volts }
    let crosses := if rising then !s.drip.vaonOk && F32.le (F32.ofRatio 21 10) volts
      else s.drip.vaonOk && F32.lt volts (F32.ofRatio 2 1)
    if crosses then { s1.dripEvent 2 rising with drip.vaonOk := rising } else s1)

/-- VFLD_LOW_EVENT: the comparator of a field supply, 1 to 4, records its event; the die acts on its own
(R333, R527). -/
def execVfldLowEvent (grp : Nat) (rising : Bool) (s : State) : Host.Outcome State Fault Refusal :=
  .next (
    if decide (1 ≤ grp) && decide (grp ≤ 4) then
      let m : BitVec 4 := 1#4 <<< (grp - 1)
      { s.dripEvent (2 + grp) rising with
        drip.vfldOk := if rising then s.drip.vfldOk ||| m else s.drip.vfldOk &&& ~~~m }
    else s)

/-- WAKE_EVENT: the level of WAKE0 or WAKE1 changes; the edge that WAKE_EDGE selects is an event, and wakes a dormant
module where WAKE_EN admits it (R527, R529, R541). -/
def execWakeEvent (n : Nat) (rising : Bool) (s : State) : Host.Outcome State Fault Refusal :=
  .next (
    if n < 2 then
      let m : BitVec 2 := 1#2 <<< n
      let s1 : State := { s with drip.wakeState := if rising then s.drip.wakeState ||| m else s.drip.wakeState &&& ~~~m }
      if bitOf (s.dripVal P.WAKE_EDGE 0) n == rising then
        let s2 := s1.dripEvent (7 + n) rising
        if bitOf (s.dripVal P.WAKE_EN 0) n then s2.wake (n + 1) else s2
      else s1
    else s)

/-! ### PCIE_PERST_N (R549) -/

/-- PCIE_PERST_ASSERT: the link is held down, and every queue pair and frame channel is disabled. -/
def execPciePerstAssert (s : State) : Host.Outcome State Fault Refusal :=
  .next (
    let s1 := (List.range 8).foldl (fun a q => a.disableQueue q) s
    { s1 with
      rst.perst := true
      host.frameChs := tmap s1.host.frameChs (fun _ c => { c with isOpen := false, owner := .none, portMask := 0#16 }) })

/-- PCIE_PERST_RELEASE: the link may come up again. -/
def execPciePerstRelease (s : State) : Host.Outcome State Fault Refusal :=
  .next { s with rst.perst := false }

/-! ### VIO supplies (R550) -/

/-- Without VIO1 the CAN channels stop, and their points report bus-off behaviour (R369, R550). -/
def State.canStop (s : State) : State :=
  (List.range 16).foldl (fun a c =>
    let x := a.canCh c
    if x.state = 0 || x.state = 6 then a
    else (a.setCanCh c { x with state := 3, recWait := false, observing := false, holdUntil := 0 }).canEndHost c 4 true) s

/-- VIO_LOSS: a supply below 90 % while the module runs raises SUPPLY_EVENT with the number of the supply; its lands
go to high impedance (R550; log entry 58). -/
def execVioLoss (n : Nat) (s : State) : Host.Outcome State Fault Refusal :=
  .next (
    if decide (1 ≤ n) && decide (n ≤ 4) && s.vioGood n then
      let s1 : State := { s with rst.vio := s.rst.vio &&& ~~~(1#4 <<< (n - 1)) }
      if s.ready then
        let s2 := s1.condition St.SUPPLY_EVENT (le 1 n)
        if n = 1 then s2.canStop else s2
      else s1
    else s)

/-- VIO_RESTORE: the supply has been good for 1 ms, and every function on it resumes (R550). -/
def execVioRestore (n : Nat) (s : State) : Host.Outcome State Fault Refusal :=
  .next (
    if decide (1 ≤ n) && decide (n ≤ 4) && !s.vioGood n then
      let s1 : State := { s with rst.vio := s.rst.vio ||| (1#4 <<< (n - 1)) }
      if s.ready && n == 1 && s.isActive && s.rst.outCfgDone then s1.canStartAll else s1
    else s)

/-! ### Die temperatures (R554) -/

/-- The die is fitted: 0 main die, 1 to 4 optimiser chiplets, 5 field I/O die (R1, R554, R557). -/
def State.dieFitted (s : State) (d : Nat) : Bool :=
  match s.ident.variant with
  | .q8260 => decide (d < 6)
  | .q8230 => decide (d < 3) || d == 5
  | .q8200 => d == 0

/-- OVER_TEMP_RAISE: a die is measured; one that newly exceeds 115 degrees raises OVER_TEMP with its index and
temperature (R554; log entry 58). -/
def execOverTempRaise (die : Nat) (temp : F32) (s : State) : Host.Outcome State Fault Refusal :=
  .next (
    if s.dieFitted die then
      let s1 : State := { s with rst.dieTemp := tset s.rst.dieTemp die temp }
      if F32.lt (F32.ofRatio 115 1) temp && !s.rst.overTemp.contains die && s.ready then
        ({ s1 with rst.overTemp := s.rst.overTemp ++ [die] } : State).condition St.OVER_TEMP
          (leRec [(1, die), (4, temp.bits.toNat)])
      else s1
    else s)

/-- OVER_TEMP_CLEAR: the dies are measured; OVER_TEMP clears once every one is at 110 degrees or below (R554). -/
def execOverTempClear (temps : List F32) (s : State) : Host.Outcome State Fault Refusal :=
  .next (
    let t := (List.range 6).foldl (fun (a : Tab F32) d =>
      if s.dieFitted d && decide (d < temps.length) then tset a d (temps.getD d F32.zero) else a) s.rst.dieTemp
    { s with
      rst.dieTemp := t
      rst.overTemp := if t.all (fun x => F32.le x.2 (F32.ofRatio 110 1)) then [] else s.rst.overTemp })

end Sys2Proof.Machine
end

