-- ==== Sys2Proof/Machine/Views.lean ====
section
/-! DEFINITION. Snapshots and mirrors (R437 to R443). -/

namespace Sys2Proof.Machine

/-- Checks of a member list: 1 to 8 members of R438, each fitted. -/
def State.membersCode (s : State) (ms : List BlkMember) : Nat :=
  if ms.isEmpty || decide (8 < ms.length) || !(ms.all (fun m => s.memberOk m)) then St.RANGE
  else if ms.all (fun m => kindFitted s.fitted m.kind) then St.OK else St.NOT_FITTED

/-- What the tables say of SNAPSHOT. -/
def snapshotInfo : CmdInfo := { op := 0x0009, hostOnly := true, standby := true, isRead := true }

/-- A snapshot opens: the versions at the view epoch are held (R439, R440). -/
def State.openSnap (s : State) (h : U32) (ms : List BlkMember) (addr : U64) (len : Nat) : State :=
  let view := s.viewEpoch (kindsOf ms)
  { s with host.snaps := s.host.snaps ++
      [{ handle := h, members := ms, addr := addr, len := len, view := view, planId := s.planOfMembers view ms,
         body := s.block 0xFF 0#32 view none ms }] }

/-- SNAPSHOT's own checks (R440). -/
def snapshotVerdict (h : Hdr) (ms : List BlkMember) (addr : U64) (len : Nat) (s : State) : Verdict :=
  let c := s.membersCode ms
  if c ≠ St.OK then reject c
  else
    let n := (s.block 0xFF 0#32 (s.viewEpoch (kindsOf ms)) none ms).length
    if len < n || 268435456 < n then reject St.RANGE
    else if 4 ≤ s.host.snaps.length then reject St.BUSY
    else s.long h 0x0009 (fun k t => t.openSnap k ms addr len)

/-- SNAPSHOT (R440). -/
def execSnapshot (h : Hdr) (members : List BlkMember) (addr : U64) (len : Nat) (s : State) :
    Host.Outcome State Fault Refusal :=
  .next (s.command snapshotInfo h addr.toNat (snapshotVerdict h members addr len))

/-- SNAPSHOT_DONE: the copy ends; with the plan buffer gone it is abandoned (R440, R443). -/
def execSnapshotDone (handle : U32) (s : State) : Host.Outcome State Fault Refusal :=
  .next (
    match s.host.snaps.find? (fun x => x.handle == handle) with
    | none => s
    | some x =>
      let s1 : State := { s with host.snaps := s.host.snaps.filter (fun y => y.handle != handle) }
      match x.planId with
      | some id =>
        if s.planHeld id then (s1.emit (.hostMem x.addr x.body)).complete handle St.OK 0 (le 8 x.view)
        else s1.complete handle St.SNAPSHOT_TORN 0 []
      | none => (s1.emit (.hostMem x.addr x.body)).complete handle St.OK 0 (le 8 x.view))

/-- A mirror. -/
def State.mirror (s : State) (n : Nat) : Mirror := tgetD s.host.mirrors n {}

/-- The state with a mirror changed. -/
def State.setMirror (s : State) (n : Nat) (m : Mirror) : State := { s with host.mirrors := tset s.host.mirrors n m }

/-- Bytes per second of the open mirrors other than one (R441). -/
def State.mirrorLoad (s : State) (n : Nat) : Rat :=
  ((s.host.mirrors.filter (fun x => x.2.isOpen && x.1 != n)).map (fun x =>
    ((x.2.blockLen * 8000 : Nat) : Rat) / ((x.2.period : Nat) : Rat))).sum

/-- What the tables say of MIRROR_OPEN. -/
def mirrorOpenInfo : CmdInfo := { op := 0x000A, hostOnly := true, standby := true, isRead := true }

/-- MIRROR_OPEN's own checks (R441; log entry 56). -/
def mirrorOpenVerdict (h : Hdr) (n : Nat) (ms : List BlkMember) (period slots : Nat) (base : U64) (s : State) : Verdict :=
  let c := s.membersCode ms
  if 15 < n || period % 8 != 0 || period < 80 || 480000 < period || slots < 2 || 16 < slots then reject St.RANGE
  else if c ≠ St.OK then reject c
  else if (s.mirror n).isOpen then reject St.BUSY
  else
    let len := (s.block n 0#32 (s.viewEpoch (kindsOf ms)) none ms).length
    if 800000000 < s.mirrorLoad n + ((len * 8000 : Nat) : Rat) / ((period : Nat) : Rat) then reject St.DISAGREE
    else
      let m : Mirror :=
        { isOpen := true, owner := h.src, members := ms, period := period, slots := slots, base := base, blockLen := len }
      { act := fun t => t.setMirror n m }

/-- MIRROR_OPEN (R441). -/
def execMirrorOpen (h : Hdr) (mirror : Nat) (members : List BlkMember) (period slots : Nat) (base : U64) (s : State) :
    Host.Outcome State Fault Refusal :=
  .next (s.command mirrorOpenInfo h mirror (mirrorOpenVerdict h mirror members period slots base))

/-- What the tables say of MIRROR_CLOSE. -/
def mirrorCloseInfo : CmdInfo := { op := 0x000B, hostOnly := true, standby := true, isRead := true }

/-- MIRROR_CLOSE: by the source that opened it, or by an installer; else ROLE (R409). -/
def mirrorCloseVerdict (h : Hdr) (n : Nat) (s : State) : Verdict :=
  let m := s.mirror n
  if 15 < n then reject St.RANGE
  else if m.isOpen && m.owner != h.src && s.roleOf h.src != .installer then reject St.ROLE
  else { act := fun t => t.setMirror n { t.mirror n with isOpen := false } }

/-- MIRROR_CLOSE (R409, R441). -/
def execMirrorClose (h : Hdr) (mirror : Nat) (s : State) : Host.Outcome State Fault Refusal :=
  .next (s.command mirrorCloseInfo h mirror (mirrorCloseVerdict h mirror))

/-- The gap of the latest takeover, where it lies between the previous block and this view (R25, R437). -/
def State.mirrorGap (s : State) (m : Mirror) (view : Nat) : Option (Nat × Nat) :=
  if s.pair.gapLast ≠ 0 && m.lastEpoch < s.pair.gapLast && s.pair.gapLast < view then
    some (s.pair.gapFirst, s.pair.gapLast)
  else none

/-- One block: HEAD_EPOCH, the body, the tail, then LAST_SEQ, as ordered writes (R442). -/
def State.writeBlock (s : State) (n : Nat) (m : Mirror) (view : Nat) : State :=
  let seq := m.blockSeq + 1
  let b := s.block n seq view (s.mirrorGap m view) m.members
  let at' := m.base + BitVec.ofNat 64 (16 + seq.toNat % max 1 m.slots * m.blockLen)
  if m.blockLen < b.length then s.setMirror n { m with skipped := m.skipped + 1 }
  else
    let e := b.length - 16
    let s1 := (((s.emit (.hostMem at' (b.take 8))).emit (.hostMem (at' + 8) ((b.take e).drop 8))).emit
      (.hostMem (at' + BitVec.ofNat 64 e) (b.drop e))).emit (.hostMem m.base (le 4 seq.toNat))
    s1.setMirror n { m with blockSeq := seq, blocks := m.blocks + 1, lastEpoch := view }

/-- The tick's block: none, and one more in SKIPPED, while the previous block is still being written. Whether it is lies
with the host's memory: a free value (R442; log entry 56). -/
def State.blockTurn (s : State) (n : Nat) (m : Mirror) (view : Nat) : State :=
  if m.blocks = 0 then s.writeBlock n m view
  else if s.freshWord.getLsbD 0 then (s.setMirror n { m with skipped := m.skipped + 1 }).took
  else (s.writeBlock n m view).took

/-- MIRROR_BLOCK_WRITE, at a tick of the mirror's period: one block when its view epoch has advanced (R442). -/
def execMirrorBlockWrite (mirror : Nat) (s : State) : Host.Outcome State Fault Refusal :=
  .next (
    let m := s.mirror mirror
    let view := s.viewEpoch (kindsOf m.members)
    if s.ready && s.time.running && decide (mirror < 16) && m.isOpen && s.epoch % max 1 m.period == 0 &&
        (m.blocks == 0 || decide (m.lastEpoch < view)) then s.blockTurn mirror m view
    else s)

end Sys2Proof.Machine
end

