-- ==== Sys2Proof/Machine/ParamRead.lean ====
section
/-! DEFINITION. Reading parameters: the values of the read-only parameters, the bytes of a value, and PARAM_READ
(R428, and the tables of read-only parameters of the chapters). -/

namespace Sys2Proof.Machine

/-! ### Bytes of a value (R8, R428) -/

/-- Bytes of one field; an address of the network is written as its octets. -/
def fieldEnc (k : PKind) (n : Nat) : List Byte :=
  match k with
  | .mac => be 6 n
  | .mac48 => be 6 n
  | .macGroup => be 6 n
  | k => le (k.width / 8) n

/-- A number of a field as a signed one, for a scalar wider than its field. -/
def fieldInt (k : PKind) (n : Nat) : Int :=
  match k with
  | .int w _ _ => toSigned w n
  | _ => n

/-- A number in `w` bytes, negative ones in two's complement. -/
def leInt (w : Nat) (i : Int) : List Byte := le w ((i % (2 ^ (8 * w) : Nat)).toNat)

/-- Bytes of a value of a parameter that can be written. -/
def PSpec.enc (r : PSpec) (v : PVal) : List Byte :=
  if r.isRec then (((r.kinds v.length).zip v).map (fun x => fieldEnc x.1 x.2)).flatten
  else
    let k := (r.fields.headD (.bits 32 0))
    let n := v.headD 0
    match k with
    | .mac48 => padTo (Config.scalarSize r.id) (be 6 n)
    | .macGroup => padTo (Config.scalarSize r.id) (be 6 n)
    | k => leInt (Config.scalarSize r.id) (fieldInt k n)

/-! ### Read-only values -/

/-- The value of a read-only parameter: a number, or the fields of a record. -/
inductive RoVal where
  | num (n : Int)
  | fields (l : List (Nat × Nat))
  deriving DecidableEq, Repr

/-- A real number as the value of a scalar. -/
def roF (x : F32) : RoVal := .num x.bits.toNat

/-- A percentage as a real number (log entry 59). -/
def roPct (q : Rat) : RoVal := roF (F32.ofRat (100 * q))

/-- A natural number as the value of a scalar. -/
def roN (n : Nat) : RoVal := .num n

/-- Entries of the handle table that are OPEN (R436). -/
def State.handlesOpen (s : State) : Nat := (s.host.handles.filter (fun x => x.2.st == .opened)).length

/-- MIRROR_STATUS (R436). -/
def mirrorRec (m : Mirror) : List (Nat × Nat) :=
  [(1, b2n m.isOpen), (3, 0), (4, m.blocks.toNat), (4, m.skipped.toNat), (8, m.lastEpoch)]

/-- Values of group 16#01 (R436). -/
def State.roHost (s : State) (id idx : Nat) : RoVal :=
  if id = P.HANDLES_OPEN then roN s.handlesOpen
  else if id = P.EVENTS_LOST then roN s.host.eventsLost.toNat
  else if id = P.ALARMS_DROPPED then roN s.host.alarmsDropped.toNat
  else .fields (mirrorRec (s.mirror idx))

/-- CAL_NOW: the calendar's seconds since 2000, DST, VALID (R542). -/
def State.calNow (s : State) : List (Nat × Nat) :=
  [(4, calSeconds s.drip.live), (1, b2n s.drip.dst), (1, b2n s.drip.valid), (2, 0)]

/-- Values of group 16#02 (R406, R542). -/
def State.roTime (s : State) (id : Nat) : RoVal :=
  if id = P.TB0_STATE then roN s.time.tb0State
  else if id = P.T0_BASE then roN s.t0Base
  else if id = P.TIME_FLAGS then roN s.timeFlags
  else if id = P.MERGE_REMAIN_NS then .num s.time.mergeRemain
  else if id = P.TB0_OFFSET_NS then .num s.time.tb0Offset
  else if id = P.PTP_GM_IDENTITY then roN s.time.gmId.toNat
  else if id = P.PTP_STEPS_REMOVED then roN s.time.stepsRemoved
  else if id = P.TIME_OUTLIERS then roN s.time.outliers.toNat
  else if id = P.ISLAND_TICKS then roN s.time.islandTicks.toNat
  else .fields s.calNow

/-- FW_STATE (R542). -/
def State.fwState (s : State) : List (Nat × Nat) :=
  [(1, s.rst.fwActive), (1, s.rst.fwTrial), (2, 0), (4, s.rst.fwSerial), (4, s.rst.fwFloor)]

/-- Values of group 16#03 (R542, R554). -/
def State.roPower (s : State) (id idx : Nat) : RoVal :=
  if id = P.CORE_MV then roN s.rst.coreMv
  else if id = P.MARGIN_MIN then roF s.marginMin.1
  else if id = P.MARGIN_CLASS then roN s.marginMin.2
  else if id = P.SPEED_INDEX then roF s.pwr.speedIndex
  else if id = P.GOV_BREACHES then roN s.pwr.breaches.toNat
  else if id = P.VBULK_V then roF s.pwr.vbulk
  else if id = P.VAON_V then roF s.pwr.vaon
  else if id = P.RESET_CAUSE then roN s.resetCause
  else if id = P.FW_STATE then .fields s.fwState
  else roF (tgetD s.rst.dieTemp idx F32.zero)

/-- TAMPER_STATUS (R478). -/
def State.tamperRec (s : State) : List (Nat × Nat) :=
  [(1, s.key.tamLatched), (1, s.key.tamMask), (1, s.key.tamCause), (1, 0), (8, s.key.tamTime.toNat)]

/-- The six octets of an address as the number that stands for them least significant byte first. -/
def macLe (m : BitVec 48) : Nat := ofLe (be 6 m.toNat)

/-- MGMT_SESSION_STATUS (R478). -/
def State.sessRec (s : State) (n : Nat) : List (Nat × Nat) :=
  match (s.sess n).bind with
  | some b => [(1, Role.code b.role), (1, 0), (6, macLe (tgetD s.key.mgmt n {}).peerMac), (8, b.epoch)]
  | none => [(1, 0), (1, 0), (6, 0), (8, 0)]

/-- Values of group 16#04 (R478). -/
def State.roKey (s : State) (id idx : Nat) : RoVal :=
  if id = P.KEY_STORE_STATE then roN s.key.storeState
  else if id = P.TAMPER_STATUS then .fields s.tamperRec
  else if id = P.KEY_SLOTS_BAD then roN s.key.slotsBad.toNat
  else if id = P.KEY_ENTRIES_USED then roN s.key.entries.length
  else if id = P.AUDIT_NEWEST_SEQ then roN (s.aud.next - 1)
  else .fields (s.sessRec idx)

/-- PAIR_STATUS (R511). -/
def State.pairRec (s : State) : List (Nat × Nat) :=
  let p := s.pair
  [(1, unitCode p.unit), (1, match p.partner with | some u => unitCode u | none => 0xFF), (2, p.flags.toNat),
   (4, p.claim), (4, p.partnerClaim), (4, p.genSeen), (8, p.ckptLast), (8, p.flushEpoch), (8, p.lastTakeover),
   (2, p.floor), (2, 0), (4, p.ckptSkipped.toNat), (4, p.takeovers.toNat), (4, p.demotions.toNat)]

/-- PORT_STATUS (R406). -/
def portRec (p : PortSt1) : List (Nat × Nat) :=
  [(1, b2n p.link), (1, p.mode), (2, 0), (8, p.rxFrames.toNat), (8, p.txFrames.toNat), (4, p.rxDropped.toNat),
   (4, p.oversize.toNat), (4, p.macsecFailed.toNat), (4, p.hsrDup.toNat), (2, p.hsrMembers), (1, p.an), (1, 0)]

/-- Stations in a state (R314). -/
def State.stnCount (s : State) (st : Nat) : Nat := (s.stn.stns.filter (fun x => x.2.state == st)).length

/-- ACCESS_LOAD_PCT: the greater of the two directions, of the line rate of 2.5 Gbit/s (R297, R314). -/
def State.accessLoad (s : State) (q : Nat) : Rat := max (s.portLoad q 0) (s.portLoad q 1) / 2500000000

/-- Values of group 16#07 (R314). -/
def State.roStn (s : State) (id idx : Nat) : RoVal :=
  if id = P.STN_STATUS then .fields (stnRec (s.stn1 idx))
  else if id = P.STN_PRESENT then roN (s.stnCount 4)
  else if id = P.STN_LOST then roN (s.stnCount 5)
  else if id = P.STN_FRAMES_REJECTED then roN s.stn.framesRejected.toNat
  else if id = P.ACCESS_LOAD_PCT then roPct (s.accessLoad idx)
  else roN s.stn.claimRejects.toNat

/-- DIAG of a channel (R320, R347). -/
def State.chDiag (s : State) (c : Nat) : Nat :=
  let m := (s.fio1 c).mode
  if isOutMode m then condDiag (s.chOutConds c)
  else if isInMode m then condDiag (s.chInConds c (m == 4 && s.noPulse c))
  else 0

/-- FIO_STATUS (R347). -/
def State.fioRec (s : State) (c : Nat) : List (Nat × Nat) :=
  let x := s.fio1 c
  [(1, x.mode), (1, s.chDiag c), (1, x.latch.toNat),
   (1, b2n x.state + 2 * b2n x.openLoad + 4 * b2n x.short + 8 * b2n (s.sharedMasked c)), (4, x.trips.toNat)]

/-- GRP_STATUS (R347). -/
def grpRec (g : FioGrp) : List (Nat × Nat) :=
  [(1, grpState g), (1, b2n g.inputsValid), (2, 0), (4, fb g.vfldMin), (4, g.cutoffs.toNat), (8, g.lastCutoff)]

/-- AOUT_LATCH (R347). -/
def State.aoutLatch (s : State) : Nat := ((List.range 8).map (fun a => b2n (s.aout1 a).overload * 2 ^ a)).sum

/-- Values of group 16#08 (R187, R347). -/
def State.roField (s : State) (id idx : Nat) : RoVal :=
  if id = P.AFE_CAL_FAULT then roN s.afe.calFault.toNat
  else if id = P.AFE_CAL_AGED then roN (b2n s.afe.calAged)
  else if id = P.FIO_STATUS then .fields (s.fioRec idx)
  else if id = P.GRP_STATUS then .fields (grpRec (s.grp1 idx))
  else if id = P.AOUT_LATCH then roN s.aoutLatch
  else roN s.fio.linkLosses.toNat

/-- CAN_STATUS (R376). -/
def canRec (x : CanCh) : List (Nat × Nat) :=
  [(1, x.state), (1, b2n x.warning + 2 * b2n x.tdcRange + 4 * b2n x.recWait), (2, x.txErr), (2, x.recErr), (2, 0),
   (4, x.busOffs.toNat), (4, x.rxUnmatched.toNat), (4, x.rxOverwritten.toNat), (4, x.hpOverrun.toNat),
   (4, x.remoteIgnored.toNat), (2, x.loopDelay), (2, 0)]

/-- CAN_BUF_STATUS (R376). -/
def canBufBits (x : CanBuf) : Nat :=
  x.outcome % 8 + 8 * b2n x.pending + 16 * b2n x.lateCancel + 32 * b2n x.hpFull

/-- Values of group 16#09 (R376). -/
def State.roCan (s : State) (id idx : Nat) : RoVal :=
  if id = P.CAN_STATUS then .fields (canRec (s.canCh idx))
  else if id = P.CAN_BUF_STATUS then roN (canBufBits (s.canBuf (idx / 65) (idx % 65)))
  else roN s.can.claimSeen.toNat

/-- The cost of a lane whose OUT_POINT is set (R224, R238). -/
def State.costOf (s : State) (l : Nat) : Nat := if (s.ptRef P.OUT_POINT l).isSome then s.laneCost l else 0

/-- Processor utilisation: costs over periods (R238). -/
def State.procUtil (s : State) (p : Nat) : Rat :=
  ((List.range 64).map (fun k =>
    (s.costOf (64 * p + k) : Rat) / ((s.pn P.PERIOD_TICKS (64 * p + k) * 125000 : Nat) : Rat))).sum

/-- A lane's record; one that nothing has changed reports its committed period (R249). -/
def State.laneView (s : State) (view l : Nat) : Lane :=
  if (tget s.lane.lanes l).isSome then s.laneAt view l
  else { s.laneAt view l with periodForce := s.pn P.PERIOD_TICKS l }

/-- Values of group 16#0A but LANE_STATUS (R248). -/
def State.roLane (s : State) (id idx : Nat) : RoVal :=
  if id = P.LANE_COST_NS then roN (s.costOf idx)
  else if id = P.SLOT_LOAD_NS then roN (s.slotLoad (idx / 8) (idx % 8))
  else if id = P.PROC_UTIL then roPct (s.procUtil idx)
  else roN s.lane.overrunsTotal.toNat

/-- The program of the inactive bank. -/
def State.otherProg (s : State) : Option Program := if s.prog.activeB then s.prog.bankA else s.prog.bankB

/-- PROG_STAGED_STATE (R284). -/
def State.progStagedState (s : State) : Nat :=
  match s.prog.op with
  | some o => if o.kind = 1 then 1 else 3
  | none => if s.prog.staged then 2 else 0

/-- PROG_FAULT (R284). -/
def progFaultRec (r : ProgRun) : List (Nat × Nat) :=
  [(1, r.faultCause), (1, r.faultTask), (2, 0), (8, r.faultCycle), (8, r.faultEpoch)]

/-- Values of group 16#0B but TASK_STATUS (R284). -/
def State.roProg (s : State) (id : Nat) : RoVal :=
  let act := s.activeProg
  if id = P.PROG_MODE then roN s.prog.run.mode
  else if id = P.PROG_ACTIVE_SERIAL then roN (match act with | some p => p.serial | none => 0)
  else if id = P.PROG_ACTIVE_KEY then roN (match act with | some p => p.key.toNat | none => 0)
  else if id = P.PROG_STAGED_STATE then roN s.progStagedState
  else if id = P.PROG_STAGED_SERIAL then
    roN (if s.prog.staged then (match s.otherProg with | some p => p.serial | none => 0) else 0)
  else if id = P.PROG_SERIAL_FLOOR then roN s.prog.floor
  else if id = P.PROG_RUN_TICKS then roN s.prog.run.rt
  else if id = P.PROG_UTIL then roPct (match act with | some p => s.utilisation p | none => 0)
  else if id = P.PROG_FAULT then .fields (progFaultRec s.prog.run)
  else roN s.prog.retainEpoch

/-- MODEL_STAGED_STATE (R78). -/
def State.modelStagedState (s : State) : Nat :=
  match s.model.op with
  | some o => if o.kind = 1 then 1 else 3
  | none => if s.model.staged then 2 else 0

/-- PLAN_AGE_TICKS at a view epoch (R147). -/
def State.planAge (s : State) (view : Nat) : Nat :=
  match s.planAt view with | some p => min (2 ^ 32 - 1) (view - p.hstart) | none => 0

/-- Values of group 16#0C (R78, R147). -/
def State.roSolve (s : State) (view id : Nat) : RoVal :=
  let t := s.asOf view
  let act := t.activeModel
  let plan := s.planAt view
  if id = P.MODEL_ACTIVE_BANK then roN (b2n t.model.activeB)
  else if id = P.MODEL_ACTIVE_SERIAL then roN (match act with | some m => m.serial | none => 0)
  else if id = P.MODEL_ACTIVE_KEY then roN (match act with | some m => m.key.toNat | none => 0)
  else if id = P.MODEL_VAR_COUNT then roN (match act with | some m => m.varCount | none => 0)
  else if id = P.MODEL_STAGED_STATE then roN t.modelStagedState
  else if id = P.MODEL_STAGED_SERIAL then roN (match t.stagedModel with | some m => m.serial | none => 0)
  else if id = P.MODEL_SERIAL_FLOOR then roN t.model.floor
  else if id = P.MODEL_UNMEASURED then roN (match s.estsAt view with | some z => unmeasuredCount z.recs | none => 0)
  else if id = P.PLAN_IN_FORCE_ID then roN (match plan with | some p => p.planId | none => 0)
  else if id = P.PLAN_IN_FORCE_HSTART then roN (match plan with | some p => p.hstart | none => 0)
  else if id = P.PLAN_AGE_TICKS then roN (s.planAge view)
  else if id = P.PLAN_STALE then roN (b2n t.slv.stale)
  else if id = P.SOLVE_RUNNING_HANDLE then roN (match t.slv.running with | some v => v.handle.toNat | none => 0)
  else if id = P.SOLVES_SKIPPED then roN t.slv.skipped.toNat
  else if id = P.SOLVES_OVERRUN then roN t.slv.overrun.toNat
  else if id = P.SOLVES_NOT_TAKEN then roN t.slv.notTaken.toNat
  else if id = P.SOLVE_CONSEC_FAILS then roN t.slv.fails
  else if id = P.ITER_CAPACITY_WARM then roN (t.iterCapacity (t.pn P.WARM_BUDGET_MS 0))
  else if id = P.ITER_CAPACITY_FAST then roN (t.iterCapacity (t.pn P.FAST_BUDGET_MS 0))
  else if id = P.FLEX_SLOTS then roN t.flexMask.toNat
  else roN (b2n t.flexDeferred)

/-- Values of group 16#0D (R187). -/
def State.roPerc (s : State) (id : Nat) : RoVal :=
  if id = P.PERC_STATE then roN s.perc.state
  else if id = P.PERC_LAST_UPDATE then roN s.perc.lastUpdate
  else if id = P.PERC_EFFECTIVE_PERIOD then roN s.perc.effPeriodMs
  else if id = P.PARCEL_COUNT then roN (parcelCount s.perc.parcels)
  else if id = P.PARCEL_MERGE_EFFECTIVE then roF s.perc.mergeEff
  else if id = P.PERC_UPDATES_LATE then roN s.perc.late.toNat
  else if id = P.MEAS_EXCLUDED then roN s.perc.measExcluded.toNat
  else if id = P.MEAS_DROPPED then roN s.perc.measDropped
  else if id = P.CAL_VERSION then roN s.perc.calVersion
  else if id = P.CAL_WINDOWS_VOID then roN s.perc.windowsVoid.toNat
  else if id = P.CAL_STEP_LIMITED then roN s.perc.stepLimited.toNat
  else roN (s.perc.cal.filter (fun x => x.2.atLimit)).length

/-- VERSION_GAP (R219). -/
def State.versionGap (s : State) : Nat :=
  ([4, 5, 6].map (fun l => b2n (s.floorRec l).gap * 2 ^ (l - 4))).sum

/-- Values of group 16#0E (R219). -/
def State.roFed (s : State) (id idx : Nat) : RoVal :=
  if id = P.QUALOTH_CUR_VERSION then roN s.fed.ownVersion
  else if id = P.FLOOR_IN_FORCE then roN (s.floorRec idx).floor
  else if id = P.FLOOR_PENDING then roN (s.floorRec idx).pending
  else if id = P.FLOOR_SWITCH_EPOCH then roN (s.floorRec idx).switchEpoch
  else if id = P.VERSION_GAP then roN s.versionGap
  else if id = P.QUALOTH_REJECTED then roN s.fed.rejected.toNat
  else if id = P.FED_RESYNCS then roN s.fed.resyncs.toNat
  else if id = P.SCOPE_MEMBERS then roN (listCount (s.fedMembers idx))
  else .fields (coupRec (s.coup idx))

/-- The value of a read-only parameter at a view epoch. -/
def State.roVal (s : State) (view id idx : Nat) : RoVal :=
  let t := s.asOf view
  match id / 256 with
  | 0x01 => s.roHost id idx
  | 0x02 => t.roTime id
  | 0x03 => t.roPower id idx
  | 0x04 => t.roKey id idx
  | 0x05 => .fields t.pairRec
  | 0x06 => .fields (portRec (t.port idx))
  | 0x07 => t.roStn id idx
  | 0x08 => t.roField id idx
  | 0x09 => t.roCan id idx
  | 0x0A => if id = P.LANE_STATUS then .fields (laneRec (s.laneView view idx)) else t.roLane id idx
  | 0x0B => if id = P.TASK_STATUS then .fields (taskRec (s.taskAt view idx)) else t.roProg id
  | 0x0C => s.roSolve view id
  | 0x0D => t.roPerc id
  | _ => t.roFed id idx

/-- Bytes of a read-only value. -/
def roEnc (id : Nat) : RoVal → List Byte
  | .num n => leInt (Config.scalarSize id) n
  | .fields l => leRec l

/-! ### Immediate values and the staged view -/

/-- The value of an immediate parameter (R433). -/
def State.immVal (s : State) (id idx : Nat) : PVal :=
  let x := s.lane? idx
  if id = P.LANE_SP_HOST then [(match x.spHost with | some v => v.bits.toNat | none => 0)]
  else if id = P.LANE_MODE then [x.mode]
  else if id = P.LANE_MAN_OUT then [x.manOut.bits.toNat]
  else if id = P.CAL_FREEZE then [b2n (s.perc.freezeNext.getD s.perc.freeze)]
  else s.pv id idx

/-- The instance of a commit group that holds an index (R430, R435). -/
def instOf (r : PSpec) (idx : Nat) : Nat := if r.group = 0x0A01 || r.group = 0x0901 then idx else 0

/-- The staging copy of a group instance. -/
def State.stagOf (s : State) (group inst : Nat) : Option StagEnt :=
  s.host.staging.find? (fun e => e.group == group && e.index == inst)

/-- The value that a read returns (R428). -/
def State.readVal (s : State) (staged : Bool) (r : PSpec) (idx : Nat) : PVal :=
  if r.group = 0 then s.immVal r.id idx
  else if isBankId r.id then
    (if staged then bankVal (s.inactiveBank idx) r.id idx else s.pv r.id idx)
  else if staged then
    (match s.stagOf r.group (instOf r idx) with
     | some e => (tget e.vals (pkey r.id idx)).getD (s.pv r.id idx)
     | none => s.pv r.id idx)
  else s.pv r.id idx

/-! ### PARAM_READ -/

/-- The OTN-Q8200 has the block of a commit group (R2): it lacks the field I/O die, the Roaster and the Percolator and
rejects exchange commands, those of FED_EXCH. -/
def groupFitted (fitted : Bool) (g : Nat) : Bool :=
  fitted || !(g / 256 == 0x08 || g / 256 == 0x0C || g / 256 == 0x0D || g == 0x0E02)

/-- The OTN-Q8200 has the block of a parameter (R2); it holds no couplings, so that COUPLING_STATUS is barred. -/
def idFitted (fitted : Bool) (id : Nat) : Bool :=
  fitted || !(id / 256 == 0x08 || id / 256 == 0x0C || id / 256 == 0x0D || id == P.COUPLING_STATUS ||
    (match pspec id with | some r => r.group == 0x0E02 | none => false))

/-- Member kinds that hold a parameter back to their view epoch (R23). -/
def viewKinds (id : Nat) : List Nat :=
  if id = P.LANE_STATUS then [2] else if id = P.TASK_STATUS then [3] else if id = P.MODEL_UNMEASURED then [5] else []

/-- Bytes of one instance of a parameter. -/
def State.instBytes (s : State) (view : Nat) (staged : Bool) (r : PSpec) (idx : Nat) : List Byte :=
  if r.group = 1 then roEnc r.id (s.roVal view r.id idx) else r.enc ((s.asOf view).readVal staged r idx)

/-- The data of one entry: SIZE is that of the type or record. -/
def State.reqBytes (s : State) (view : Nat) (staged : Bool) (r : PSpec) (q : PReq) : List (List Byte) :=
  (List.range q.count).map (fun k => s.instBytes view staged r (q.index + k))

/-- The status of one entry of a read: unknown ID, index or count, and SIZE (R428, R429). -/
def State.reqCode (s : State) (view : Nat) (staged : Bool) (q : PReq) : Nat :=
  match pspec q.id with
  | none => St.RANGE
  | some r =>
    if !idFitted s.fitted q.id then St.NOT_FITTED
    else if q.count = 0 || decide (4096 < q.count) || decide (q.index < r.first) ||
        decide (r.first + r.count < q.index + q.count) then St.RANGE
    else if (s.reqBytes view staged r q).any (fun b => b.length != q.size) then St.RANGE
    else St.OK

/-- One entry of a read's reply, padded to a multiple of 4 (R428). -/
def State.reqReply (s : State) (view : Nat) (staged : Bool) (q : PReq) : List Byte :=
  match pspec q.id with
  | none => []
  | some r =>
    let d := (s.reqBytes view staged r q).flatten
    leRec [(2, q.id), (2, q.index), (2, q.count), (2, q.size)] ++ d ++ List.replicate ((4 - d.length % 4) % 4) 0#8

/-- Position and status of the first entry that fails. -/
def firstBad {α : Type} (f : α → Nat) : Nat → List α → Option (Nat × Nat)
  | _, [] => none
  | k, a :: r => if f a = St.OK then firstBad f (k + 1) r else some (k, f a)

/-- What a read of GRP_STATUS resets: VFLD_MIN counts from the read on (R347). -/
def State.grpRead (s : State) (qs : List PReq) : State :=
  (List.range 4).foldl (fun a g =>
    if qs.any (fun q => q.id == P.GRP_STATUS && decide (q.index ≤ g) && decide (g < q.index + q.count)) then
      a.setGrp g { a.grp1 g with vfldMin := (a.grp1 g).vfld }
    else a) s

/-- SUBJECT of a command that carries parameter entries (R473). -/
def paramSubject (n id idx count : Nat) : Nat := id + 65536 * (idx + 65536 * (count + 65536 * n))

/-- What the tables say of PARAM_READ. -/
def paramReadInfo : CmdInfo := { op := 0x0002, standby := true, isRead := true }

/-- PARAM_READ: every value belongs to one view epoch; data that the reply has no room for are RANGE (R412, R428). -/
def paramReadVerdict (h : Hdr) (flags : Nat) (reqs : List PReq) (s : State) : Verdict :=
  let staged := flags % 2 == 1
  let view := s.viewEpoch (reqs.map (fun q => viewKinds q.id)).flatten
  let data := le 8 view ++ (reqs.map (s.reqReply view staged)).flatten
  if 2 ≤ flags then reject St.RANGE
  else match firstBad (s.reqCode view staged) 0 reqs with
    | some (k, c) => { status := c, detail := k }
    | none => if h.room < data.length then reject St.RANGE else { data := data, act := fun t => t.grpRead reqs }

/-- PARAM_READ (R428). -/
def execParamRead (h : Hdr) (flags : Nat) (reqs : List PReq) (s : State) : Host.Outcome State Fault Refusal :=
  .next (s.command paramReadInfo h (match reqs with | q :: _ => paramSubject reqs.length q.id q.index q.count | [] => 0)
    (paramReadVerdict h flags reqs))

end Sys2Proof.Machine
end

