-- ==== Sys2Proof/Machine/Params.lean ====
section
/-! DEFINITION. Writing parameters: PARAM_WRITE, COMMIT, DISCARD, the application of commits, and CANCEL (R138, R367,
R429 to R435, R558). -/

namespace Sys2Proof.Machine

/-! ### Values to come (R432) -/

/-- Staged values of a group instance. -/
def State.stagVals (s : State) (g i : Nat) : Tab PVal :=
  match s.stagOf g i with | some e => e.vals | none => []

/-- Staged values of several instances. -/
def State.instVals (s : State) (l : List (Nat × Nat)) : Tab PVal :=
  l.foldl (fun t x => tjoin t (s.stagVals x.1 x.2)) []

/-- The committed values once every commit accepted before has taken effect (R432). -/
def State.futureVals (s : State) : Tab PVal :=
  s.host.pendCommits.foldl (fun t p => tjoin t (s.instVals p.insts))
    (s.host.due.foldl (fun t d => tjoin t d.vals) s.par.vals)

/-- The state with other committed values. -/
def State.withVals (s : State) (v : Tab PVal) : State := { s with par.vals := v }

/-- The state with the values that will be in force. -/
def State.future (s : State) : State := s.withVals s.futureVals

/-- An instance belongs to a pending commit (R431). -/
def State.instPending (s : State) (g i : Nat) : Bool := s.host.pendCommits.any (fun p => p.insts.contains (g, i))

/-- Another source owns the staging of an instance, or a commit of it is pending (R430, R431). -/
def State.instBlocked (s : State) (src : Src) (g i : Nat) : Bool :=
  s.instPending g i || (match s.stagOf g i with | some e => e.owner != src | none => false)

/-! ### PARAM_WRITE (R429, R430, R433) -/

/-- Groups that a standby commits and writes (R483). -/
def standbyGroups : List Nat := [0x0501, 0x0601, 0x0602, 0x0401]

/-- Parameters of a lane that the operator writes as well (R246). -/
def laneImm (id : Nat) : Bool := id == P.LANE_SP_HOST || id == P.LANE_MODE || id == P.LANE_MAN_OUT

/-- The source may write a parameter: the installer of every one; the operator of the immediate ones, of EVENT_MASK
only its own session's index (R178, R246, R435, R436). -/
def State.mayWrite (s : State) (src : Src) (r : PSpec) (index count : Nat) : Bool :=
  match s.roleOf src with
  | .installer => true
  | .operator => r.group == 0 && (r.id != P.EVENT_MASK || (src == .session index && count == 1))
  | _ => false

/-- Fields of a lane that name points (R246). -/
def lanePtIds : List Nat := [P.FB_POINT, P.OUT_POINT, P.POS_POINT, P.SP_POINT, P.FF_POINT]

/-- A value that the OTN-Q8200 cannot take: a plan source, VF_SRC, a local field point of a lane (R2, chapter
"Closed-loop control lanes"). -/
def q8200Bars (id : Nat) (v : PVal) : Bool :=
  let n := v.headD 0
  ((id == P.SP_SRC || id == P.SP_FALLBACK_SRC) && n == 1) || (id == P.FF_SRC && n == 2) ||
  (id == P.VF_SRC && n != refNone) || (lanePtIds.contains id && decide (n < 256))

/-- The value names a reserved local point (R318). -/
def reservedPt (id : Nat) (v : PVal) : Bool :=
  let p := if id = P.MEAS_BINDING then v.getD 3 0 else v.headD 0
  (lanePtIds.contains id || id == P.MEAS_BINDING) && decide (96 ≤ p) && decide (p < 256)

/-- The range of an immediate parameter that other parameters state, by the values that will be in force (R246,
R429, R432). -/
def State.immOk (s : State) (id idx : Nat) (v : PVal) : Bool :=
  let x := qof (v.headD 0)
  if id = P.LANE_SP_HOST then decide (s.future.pq P.SP_MIN idx ≤ x) && decide (x ≤ s.future.pq P.SP_MAX idx)
  else if id = P.LANE_MAN_OUT then decide (s.pq P.OUT_MIN idx ≤ x) && decide (x ≤ s.pq P.OUT_MAX idx)
  else true

/-- The status of one value of an entry. -/
def State.valCode (s : State) (src : Src) (r : PSpec) (size idx : Nat) (v : PVal) : Nat :=
  if !s.fitted && q8200Bars r.id v then St.NOT_FITTED
  else if !r.valOk v || size != r.bytes v || reservedPt r.id v then St.RANGE
  else if r.group = 0 then (if s.immOk r.id idx v then St.OK else St.RANGE)
  else if isBankId r.id then (if (s.lane? idx).swapPend.isSome then St.STAGED else St.OK)
  else if s.instBlocked src r.group (instOf r idx) then St.STAGED
  else St.OK

/-- The first status of a list that is not OK. -/
def firstCode : List Nat → Nat
  | [] => St.OK
  | c :: r => if c = St.OK then firstCode r else c

/-- The values of an entry with their indices. -/
def wrVals (w : PWr) : List (Nat × PVal) := (List.range w.count).map (fun k => (w.index + k, w.vals.getD k []))

/-- The status of one entry (R429, R483; log entry 59). -/
def State.wrCode (s : State) (src : Src) (w : PWr) : Nat :=
  match pspec w.id with
  | none => St.RANGE
  | some r =>
    if !idFitted s.fitted w.id then St.NOT_FITTED
    else if r.group = 1 || w.count = 0 || decide (4096 < w.count) || decide (w.index < r.first) ||
        decide (r.first + r.count < w.index + w.count) || w.vals.length != w.count then St.RANGE
    else if !s.mayWrite src r w.index w.count then St.ROLE
    else if s.isStandby && !(standbyGroups.contains r.group || w.id == P.EVENT_MASK) then St.WRONG_MODE
    else firstCode ((wrVals w).map (fun x => s.valCode src r w.size x.1 x.2))

/-- A value of an immediate parameter takes effect (R246, R433). -/
def State.putImm (s : State) (id idx : Nat) (v : PVal) : State :=
  let x := s.lane? idx
  let n := v.headD 0
  if id = P.LANE_SP_HOST then s.setLane idx { x with spHost := some (fof n), spHostEpoch := s.epoch }
  else if id = P.LANE_MODE then s.setLane idx { x with mode := n }
  else if id = P.LANE_MAN_OUT then s.setLane idx { x with manOut := fof n, manValid := true, manEpoch := s.epoch }
  else if id = P.CAL_FREEZE then { s with perc.freezeNext := some (n == 1) }
  else s.setPv id idx v

/-- A value of a lane's bank: it goes to the inactive one (R234). -/
def State.putBank (s : State) (id idx : Nat) (v : PVal) : State :=
  if (s.lane? idx).bankSel then { s with par.bankA := tset s.par.bankA (pkey id idx) v }
  else { s with par.bankB := tset s.par.bankB (pkey id idx) v }

/-- A value into a staging copy; a new copy belongs to the source (R430). -/
def stagPut (l : List StagEnt) (src : Src) (g i key : Nat) (v : PVal) : List StagEnt :=
  match l with
  | [] => [{ group := g, index := i, owner := src, vals := [(key, v)] }]
  | e :: r =>
    if e.group = g && e.index = i then { e with vals := tset e.vals key v } :: r else e :: stagPut r src g i key v

/-- One value of a write. -/
def State.putVal (s : State) (src : Src) (r : PSpec) (idx : Nat) (v : PVal) : State :=
  if r.group = 0 then s.putImm r.id idx v
  else if isBankId r.id then s.putBank r.id idx v
  else { s with host.staging := stagPut s.host.staging src r.group (instOf r idx) (pkey r.id idx) v }

/-- One entry of a write. -/
def State.putWr (s : State) (src : Src) (w : PWr) : State :=
  match pspec w.id with
  | none => s
  | some r => (wrVals w).foldl (fun a x => a.putVal src r x.1 x.2) s

/-- What the tables say of PARAM_WRITE; the role is that of each entry's group. -/
def paramWriteInfo : CmdInfo := { op := 0x0003, who := [.operator, .installer], standby := true }

/-- PARAM_WRITE: every entry is checked first, and any failure leaves every value unchanged (R429). -/
def paramWriteVerdict (h : Hdr) (wrs : List PWr) (s : State) : Verdict :=
  match firstBad (s.wrCode h.src) 0 wrs with
  | some (k, c) => { status := c, detail := k }
  | none => { act := fun t => wrs.foldl (fun a w => a.putWr h.src w) t }

/-- PARAM_WRITE (R429). -/
def execParamWrite (h : Hdr) (wrs : List PWr) (s : State) : Host.Outcome State Fault Refusal :=
  .next (s.command paramWriteInfo h
    (match wrs with | w :: _ => paramSubject wrs.length w.id w.index w.count | [] => 0) (paramWriteVerdict h wrs))

/-! ### COMMIT (R431) -/

/-- The commit groups that COMMIT and DISCARD name (R435); LANE_BANK is none of them (R431, R434). -/
def commitGroups : List Nat :=
  [0x0101, 0x0201, 0x0202, 0x0301, 0x0401, 0x0501, 0x0601, 0x0602, 0x0701, 0x0702, 0x0801, 0x0802, 0x0803, 0x0804,
   0x0805, 0x0901, 0x0902, 0x0A01, 0x0B01, 0x0B02, 0x0C01, 0x0C02, 0x0C03, 0x0C04, 0x0C05, 0x0D01, 0x0D02, 0x0D03,
   0x0E01, 0x0E02, 0x0E03]

/-- Instances of a group: channels, lanes, or one (R435). -/
def groupSpan (g : Nat) : Nat := if g = 0x0901 then 16 else if g = 0x0A01 then 1024 else 1

/-- The INDEX that stands for every staged instance that the source owns. -/
abbrev allInsts : Nat := 0xFFFF

/-- The instances that an item names. -/
def State.itemInsts (s : State) (src : Src) (x : Nat × Nat) : List (Nat × Nat) :=
  if x.2 = allInsts then
    (s.host.staging.filter (fun e => e.group == x.1 && e.owner == src)).map (fun e => (e.group, e.index))
  else [x]

/-- The status of an item before its agreement check. -/
def State.itemCode (s : State) (src : Src) (x : Nat × Nat) : Nat :=
  if !commitGroups.contains x.1 then St.RANGE
  else if !groupFitted s.fitted x.1 then St.NOT_FITTED
  else if s.isStandby && !standbyGroups.contains x.1 then St.WRONG_MODE
  else if x.2 != allInsts && decide (groupSpan x.1 ≤ x.2) then St.RANGE
  else if (s.itemInsts src x).any (fun y => s.instBlocked src y.1 y.2) then St.STAGED
  else St.OK

/-- COMMIT_EPOCH lies after acceptance and at most 24 h after it. -/
def commitEpochOk (now e : Nat) : Bool := decide (now < e) && decide (e ≤ now + 691200000)

/-- The agreement check of one item: its groups, and the labels that it names (R431, R452). -/
def State.itemAgrees (s old t : State) (src : Src) (x : Nat × Nat) : Bool :=
  (s.itemInsts src x).all (fun y => old.groupOk t y.1 y.2 && t.labelsOk (s.stagVals y.1 y.2))

/-- The status of a commit whose items may be committed: BUSY before any check, the pair's lock, then the agreement of
every item (R75, R431, R510). -/
def State.commitCode (s : State) (src : Src) (items : List (Nat × Nat)) : Nat × Nat :=
  let old := s.future
  let t := old.withVals (tjoin old.par.vals (s.instVals ((items.map (s.itemInsts src)).flatten)))
  if s.actOpen && old.shapeChanges t then (0, St.BUSY)
  else if old.pairLocked t then (items.findIdx (fun x => x.1 == 0x0501), St.WRONG_MODE)
  else match firstBad (fun x => if s.itemAgrees old t src x then St.OK else St.DISAGREE) 0 items with
    | some x => x
    | none => (0, St.OK)

/-- Staging copies without those of some instances. -/
def State.unstage (s : State) (l : List (Nat × Nat)) : State :=
  { s with host.staging := s.host.staging.filter (fun e => !l.contains (e.group, e.index)) }

/-- A commit with COMMIT_EPOCH 0 waits for the first tick. -/
def State.commitDue (s : State) (l : List (Nat × Nat)) : State :=
  let s1 : State := { s with host.due := s.host.due ++ [{ accEpoch := s.epoch, insts := l, vals := s.instVals l }] }
  s1.unstage l

/-- A commit with a COMMIT_EPOCH is pending under its handle. -/
def State.commitPend (s : State) (h : U32) (l : List (Nat × Nat)) (epoch : Nat) : State :=
  { s with
    host.pendCommits := s.host.pendCommits ++ [{ handle := h, due := epoch, insts := l, seq := s.host.accSeq }]
    host.accSeq := s.host.accSeq + 1 }

/-- What the tables say of COMMIT. -/
def commitInfo : CmdInfo := { op := 0x0004, who := [.installer], standby := true }

/-- COMMIT (R431). -/
def commitVerdict (h : Hdr) (items : List (Nat × Nat)) (epoch : Nat) (s : State) : Verdict :=
  let l := (items.map (s.itemInsts h.src)).flatten.eraseDups
  if items.isEmpty || decide (64 < items.length) then reject St.RANGE
  else match firstBad (s.itemCode h.src) 0 items with
    | some (k, c) => { status := c, detail := k }
    | none =>
      if epoch != 0 && !commitEpochOk s.epoch epoch then reject St.RANGE
      else
        let c := s.commitCode h.src items
        if c.2 != St.OK then { status := c.2, detail := c.1 }
        else if epoch = 0 then { act := fun t => t.commitDue l }
        else s.long h 0x0004 (fun n t => t.commitPend n l epoch)

/-- SUBJECT of COMMIT and DISCARD: group code and index of the first item (R473). -/
def itemSubject (items : List (Nat × Nat)) : Nat :=
  match items with | x :: _ => x.1 + 65536 * x.2 | [] => 0

/-- COMMIT (R431). -/
def execCommit (h : Hdr) (insts : List (Nat × Nat)) (epoch : Nat) (s : State) : Host.Outcome State Fault Refusal :=
  .next (s.command commitInfo h (itemSubject insts) (commitVerdict h insts epoch))

/-! ### DISCARD (R434) -/

/-- Instances that DISCARD drops: those named, or every staged one that the source owns. -/
def State.dropCode (s : State) (src : Src) (x : Nat × Nat) : Nat :=
  if !commitGroups.contains x.1 then St.RANGE
  else if !groupFitted s.fitted x.1 then St.NOT_FITTED
  else if s.isStandby && !standbyGroups.contains x.1 then St.WRONG_MODE
  else if x.2 != allInsts && decide (groupSpan x.1 ≤ x.2) then St.RANGE
  else if (s.itemInsts src x).any (fun y => s.instPending y.1 y.2) then St.STAGED
  else St.OK

/-- What the tables say of DISCARD: its sender is bound to the installer role, which may drop every staging copy. -/
def discardInfo : CmdInfo := { op := 0x0005, who := [.installer], standby := true }

/-- DISCARD (R434). -/
def discardVerdict (h : Hdr) (items : List (Nat × Nat)) (s : State) : Verdict :=
  if items.isEmpty || decide (64 < items.length) then reject St.RANGE
  else match firstBad (s.dropCode h.src) 0 items with
    | some (k, c) => { status := c, detail := k }
    | none => { act := fun t => t.unstage ((items.map (s.itemInsts h.src)).flatten) }

/-- DISCARD (R434). -/
def execDiscard (h : Hdr) (insts : List (Nat × Nat)) (s : State) : Host.Outcome State Fault Refusal :=
  .next (s.command discardInfo h (itemSubject insts) (discardVerdict h insts))

/-! ### What a commit does at its tick -/

/-- The unit takes or leaves the pair: a running unit is SINGLE or ACTIVE; a standby keeps its state until its next
reset (R481, R510; log entry 59). -/
def State.pairCommitted (s old : State) : State :=
  if s.pn P.PAIR_ENABLE 0 = old.pn P.PAIR_ENABLE 0 then s
  else if s.pn P.PAIR_ENABLE 0 = 1 then
    (if s.pair.unit = .single then { s with pair.unit := .active } else s)
  else if s.pair.unit = .active then { s with pair.unit := .single } else s

/-- Fields of STN_DEF whose change makes the station join again: ENABLE, PORT, VLAN, MAC, POINT_BASE, POINT_COUNT,
HOLD_MS, AUTH_LABEL (R294). -/
def rejoinFields : List Nat := [0, 1, 6, 9, 11, 12, 14, 15]

/-- DIR and STN_SAFE of the descriptors of a station (R294). -/
def State.dirSafe (s : State) (n : Nat) : List (Nat × Nat) :=
  let p := s.pv P.STN_POINTS n
  (List.range (s.pfld P.STN_DEF n 12)).map (fun j => (p.getD (6 * j) 0, p.getD (6 * j + 5) 0))

/-- The station joins again after a commit (R294). -/
def State.stnRejoins (s old : State) (n : Nat) : Bool :=
  let v := s.pv P.STN_DEF n
  let w := old.pv P.STN_DEF n
  rejoinFields.any (fun k => v.getD k 0 != w.getD k 0) || s.defCycle v != old.defCycle w || s.dirSafe n != old.dirSafe n

/-- One station after a commit of its configuration or of its task's period (R294, R305). -/
def State.stnCommitted (s old : State) (n : Nat) : State :=
  let x := s.stn1 n
  if s.stnOn n then
    (if s.stnRejoins old n then s.setStn n { x with rejoinDue := true, configured := false } else s)
  else if old.stnOn n then
    (s.setStn n { x with
      state := 0, reason := 0, configured := false, awaiting := false, rejoinDue := false, lostDue := false
      inFrame := none, returnPub := false }).mapStnPts n (fun _ p => Point_lost p)
  else s

/-- Every configured station after a commit. -/
def State.stnsCommitted (s old : State) : State :=
  (s.pEntries P.STN_DEF).foldl (fun a x => a.stnCommitted old x.1) s

/-- STN_DEST_MAC changes: every station joins again (R313). -/
def State.destCommitted (s old : State) : State :=
  if s.pn P.STN_DEST_MAC 0 = old.pn P.STN_DEST_MAC 0 then s
  else { s with stn.stns := tmap s.stn.stns (fun _ x => { x with rejoinDue := true, configured := false }) }

/-- Channels whose mode changes switch off and start anew (R346). -/
def State.modesCommitted (s old : State) : State :=
  if !s.fitted || !s.rst.outCfgDone then s
  else (List.range 32).foldl (fun a c =>
    if s.pn P.FIO_MODE c = old.pn P.FIO_MODE c then a else a.queueMode c (s.pn P.FIO_MODE c)) s

/-- Analog outputs whose range changes switch off and start anew (R346). -/
def State.rangesCommitted (s old : State) : State :=
  if !s.fitted || !s.rst.outCfgDone then s
  else (List.range 8).foldl (fun a k =>
    if s.pn P.AOUT_RANGE k = old.pn P.AOUT_RANGE k then a else a.queueRange k (s.pn P.AOUT_RANGE k)) s

/-- Parameters of a channel that take effect as R354 says: mode, formats, bit timing. -/
def canTiming : List Nat :=
  [P.CAN_MODE, P.CAN_FORMATS, P.NOM_PRESC, P.NOM_TSEG1, P.NOM_TSEG2, P.NOM_SJW, P.DATA_PRESC, P.DATA_TSEG1,
   P.DATA_TSEG2, P.DATA_SJW, P.TDC_MODE, P.TDC_OFFSET]

/-- A channel whose mode or timing changes goes off, its host frames end ABORTED, and it starts anew unless it is held
(R354, R355). -/
def State.canCommitted (s old : State) (c : Nat) : State :=
  if canTiming.all (fun id => s.pn id c == old.pn id c) then s
  else
    let s1 := s.canEndHost c 5 false
    if (s1.canCh c).state = 6 then s1 else s1.canStart c

/-- A buffer or its signals change. -/
def State.bufChanged (s old : State) (k : Nat) : Bool :=
  s.pv P.CAN_BUF k != old.pv P.CAN_BUF k || s.sigsOf (k / 65) (k % 65) != old.sigsOf (k / 65) (k % 65)

/-- Pending frames of changed buffers: host frames end ABORTED, and a buffer that no longer transmits has none (R375). -/
def State.mapCommitted (s old : State) : State :=
  s.can.bufs.foldl (fun a x =>
    if (x.2.pending || x.2.committed) && s.bufChanged old x.1 then
      (if x.2.handle = 0#32 then
        (if s.bufN (x.1 / 65) (x.1 % 65) 0 = 2 then a
         else a.setCanBuf (x.1 / 65) (x.1 % 65) { x.2 with pending := false, committed := false })
       else (a.setCanBuf (x.1 / 65) (x.1 % 65) { x.2 with pending := false }).canEnd (x.1 / 65) (x.1 % 65) 5 false)
    else a) s

/-- A lane after a commit of its LANE_CFG: the committed period is in force at once; a lane enabled anew has no host
set-point yet (R231, R240, R242). -/
def State.laneCommitted (s old : State) (l : Nat) : State :=
  let x := s.lane? l
  s.setLane l { x with
    periodForce := s.pn P.PERIOD_TICKS l, periodDoubled := false
    spHost := if s.pn P.LANE_ENABLE l = 1 && old.pn P.LANE_ENABLE l != 1 then none else x.spHost }

/-- Task timing after a commit: what was in force stays so until the next cycle tick of the new values (R283). -/
def State.tasksCommitted (s old : State) : State :=
  let t := (List.range 4).foldl (fun (a : Tab PVal) k =>
    if (tget a k).isSome then a else tset a k (old.taskCommitted k)) s.prog.taskCfg
  (({ s with prog.taskCfg := t } : State).adoptTasks).refreshBounds

/-- What the commit of one group instance does besides its values (the Takes effect columns). -/
def State.committed (s old : State) (g i : Nat) : State :=
  if g = 0x0201 then s.timeCommitted old
  else if g = 0x0202 then s.copyDrip
  else if g = 0x0301 then s.copyDrip.govCommitted
  else if g = 0x0501 then s.pairCommitted old
  else if g = 0x0601 then s.refreshPorts
  else if g = 0x0701 then s.stnsCommitted old
  else if g = 0x0702 then s.destCommitted old
  else if g = 0x0801 then s.modesCommitted old
  else if g = 0x0804 then s.rangesCommitted old
  else if g = 0x0901 then s.canCommitted old i
  else if g = 0x0902 then s.mapCommitted old
  else if g = 0x0A01 then s.laneCommitted old i
  else if g = 0x0B02 then (s.tasksCommitted old).stnsCommitted old
  else if g = 0x0D01 then s.refreshPeriod
  else s

/-- Values replace the committed ones, and every named instance acts. -/
def State.applyCommit (s : State) (l : List (Nat × Nat)) (v : Tab PVal) : State :=
  l.foldl (fun a x => a.committed s x.1 x.2) (s.withVals (tjoin s.par.vals v))

/-- Commits accepted before the present tick. -/
def State.dueNow (s : State) : List DueCommit := s.host.due.filter (fun d => decide (d.accEpoch < s.epoch))

/-- The commits that are due take effect in the order of acceptance (R22, R431). -/
def State.applyDue (s : State) : State :=
  s.dueNow.foldl (fun a d => a.applyCommit d.insts d.vals)
    { s with host.due := s.host.due.filter (fun d => !decide (d.accEpoch < s.epoch)) }

/-- Order 3 of a tick boundary of the epoch clock may take commits. -/
def State.commitTime (s : State) : Bool := s.ready && s.time.running && s.orderOk 3

/-- COMMIT_APPLY, order 3; the latch of the boundary follows it (R20, R431). -/
def execCommitApply (s : State) : Host.Outcome State Fault Refusal :=
  .next (
    if s.commitTime && !s.dueNow.isEmpty then (((s.atOrder 3).auditApplied 0).applyDue).relatch s else s)

/-! ### A pending commit at its tick -/

/-- The committed values, with those of pending commits accepted before one of them (R432). -/
def State.beforePend (s : State) (p : PendCommit) : State :=
  s.withVals ((s.host.pendCommits.filter (fun q => decide (q.seq < p.seq))).foldl
    (fun t q => tjoin t (s.instVals q.insts)) s.par.vals)

/-- The repeated check of a pending commit: OK, BUSY or DISAGREE (R75, R431; log entry 59). -/
def State.pendCode (s : State) (p : PendCommit) : Nat :=
  let old := s.beforePend p
  let v := s.instVals p.insts
  let t := old.withVals (tjoin old.par.vals v)
  if s.actOpen && old.shapeChanges t then St.BUSY
  else if old.pairLocked t || !(p.insts.all (fun y => old.groupOk t y.1 y.2)) || !t.labelsOk v then St.DISAGREE
  else St.OK

/-- The commit is no longer pending. -/
def State.unpend (s : State) (h : U32) : State :=
  { s with host.pendCommits := s.host.pendCommits.filter (fun q => q.handle != h) }

/-- A pending commit applies, or fails its check and returns to staging. -/
def State.pendDue (s : State) (p : PendCommit) : State :=
  let c := s.pendCode p
  if c = St.OK then
    (((s.unpend p.handle).applyCommit p.insts (s.instVals p.insts)).unstage p.insts).complete p.handle St.OK 0 []
  else (s.unpend p.handle).complete p.handle c 0 []

/-- PENDING_COMMIT_DUE, order 3: commits accepted for the first tick come before it, and the latch of the boundary
follows it (R20, R22, R431). -/
def execPendingCommitDue (handle : U32) (s : State) : Host.Outcome State Fault Refusal :=
  .next (
    match s.host.pendCommits.find? (fun p => p.handle == handle) with
    | some p =>
      if s.commitTime && decide (p.due ≤ s.epoch) then
        ((((s.atOrder 3).auditApplied 0).applyDue).pendDue p).relatch s
      else s
    | none => s)

/-! ### CANCEL (R138, R367, R558) -/

/-- CANCEL of a pending commit: its instances return to staging. -/
def State.cancelCommit (s : State) (h : U32) : State := (s.unpend h).complete h St.CANCELLED 0 []

/-- CANCEL of a bank swap: the swaps not yet made go. -/
def State.cancelSwap (s : State) (o : SwapOp) : State :=
  let s1 := o.lanes.foldl (fun a l => a.setLane l { a.lane? l with swapPend := none }) s
  ({ s1 with lane.swaps := s1.lane.swaps.filter (fun q => q.handle != o.handle) } : State).complete o.handle
    St.CANCELLED o.swapped []

/-- The transmit buffer of a handle. -/
def State.bufOfHandle (s : State) (h : U32) : Option Nat :=
  (s.can.bufs.find? (fun x => x.2.handle == h)).map (fun x => x.1)

/-- CANCEL_RESULT and the effect for the operation of a handle; an operation without a cancel rule runs on (log entry
59). -/
def State.cancelOf (s : State) (h : U32) : Nat × (State → State) :=
  match s.cancelSolve h with
  | some c => c
  | none =>
    if s.host.pendCommits.any (fun p => p.handle == h) then (0, fun t => t.cancelCommit h)
    else match s.lane.swaps.find? (fun o => o.handle == h) with
      | some o => ((if o.swapped = 0 then 0 else 1), fun t => t.cancelSwap o)
      | none => match s.bufOfHandle h with
        | some k => (cancelCode (s.canBuf (k / 65) (k % 65)), fun t => t.cancelBuf (k / 65) (k % 65))
        | none => (3, id)

/-- What the tables say of CANCEL. -/
def cancelInfo : CmdInfo := { op := 0x0008, who := [.operator, .installer] }

/-- CANCEL (R138, R367, R558): a handle that the source does not hold is rejected (R421). -/
def cancelVerdict (h : Hdr) (handle : U32) (s : State) : Verdict :=
  if !s.holds h.src handle && !s.unheld handle then reject St.HANDLE
  else if s.hOpen handle then { detail := (s.cancelOf handle).1, act := (s.cancelOf handle).2 }
  else { detail := 3 }

/-- CANCEL. -/
def execCancel (h : Hdr) (handle : U32) (s : State) : Host.Outcome State Fault Refusal :=
  .next (s.command cancelInfo h handle.toNat (cancelVerdict h handle))

end Sys2Proof.Machine
end

