-- ==== Sys2Proof/Machine/Tick.lean ====
section
/-! DEFINITION. A tick boundary of the epoch clock (R20, R264, R319, R343, R401, R485, R515, R524; log entries 6 and 60).
-/

namespace Sys2Proof.Machine

/-- A solve stands at the end of its budget (R126). -/
def State.solveOverdue (s : State) : Bool :=
  match s.slv.running with
  | some v => s.solveOn && decide (v.start + 8 * v.budget ≤ s.epoch)
  | none => false

/-- Something stands at the end of its time box and has not ended: a solve at its budget, a federation round at its
close, a frame at its transmit timeout (R36). Each has a row that ends it in this state. -/
def State.overdue (s : State) : Bool :=
  s.solveOverdue || (s.live && s.closeOwed) || s.can.bufs.any (fun x => s.canTimedOut (x.1 / 65) (x.1 % 65))

/-- A tick boundary may come: the epoch clock runs, and nothing that has reached its bound is still open, so that every
solve, round and retry ends within its bound (R36, R38, R398; log entry 64). -/
def State.ticking (s : State) : Bool := s.time.running && !s.rst.asserted && !s.overdue

/-- Order 1: the bases advance, the island-time flag follows, except on a standby, whose flag is the active unit's; an
island epoch is counted; at a second TIME_SEL_OUT is taken; the boundary's versions are those that stand (R19, R20,
R388, R401, R405). -/
def State.tickTime (s : State) : State :=
  let s1 := (s.pushPast).advanceTime
  let s2 := if s1.isStandby then s1 else s1.updIsland
  let s3 : State := { s2 with
    time.islandTicks := if s2.time.island then s2.time.islandTicks + 1 else s2.time.islandTicks }
  let s4 : State := { s3 with
    time.outSel := if s3.epoch % ticksPerS = 0 then s3.pn P.TIME_SEL_OUT 0 else s3.time.outSel }
  { (s4.markIsland).ppsFall with edge := none }

/-- A confirmed frame of every tick is part of the liveness check (R343, R484). -/
def State.tickLive (s : State) (obs : TickIn) : State :=
  if obs.linkOk || !s.fitted || !s.rst.dieReleased then s else { s with pair.missAt := some s.epoch }

/-- The die's frame, the latches and the modes that start (R319, R343, R346). -/
def State.tickField (s : State) (obs : TickIn) : State :=
  ((((s.tickLive obs).fieldTick obs).keepLatch).latchLocal).startModes

/-- The first committed output configuration, with which the channels of an active unit start (R355, R524). -/
def State.tickOutputs (s : State) : State :=
  if s.rst.outCfgDone then s
  else
    let s1 := s.firstOutCfg
    if s1.rst.outCfgDone && s1.isActive then s1.canStartAll else s1

/-- Committed task timing that comes into force; bounds follow (R259, R283). -/
def State.tickTasks (s : State) : State :=
  let a := s.adoptTasks
  if a.prog.taskCfg = s.prog.taskCfg then s else a.refreshBounds

/-- RT counts the ticks in RUN; stop values that are due after a start; CAL_FREEZE (R178, R264, R524). -/
def State.tickWork (s : State) : State :=
  let s1 : State := { s with
    prog.run.rt := if s.prog.run.mode = 2 then s.prog.run.rt + 1 else s.prog.run.rt
    perc.freezeSeen := s.perc.freezeSeen || s.perc.freeze }
  let s2 : State := { s1 with
    perc.freeze := s1.perc.freezeNext.getD s1.perc.freeze
    perc.freezeNext := none }
  let s3 := s2.tickTasks
  if s3.prog.stopDue then ({ s3 with prog.stopDue := false } : State).stopOutputs else s3

/-- SPEED_INDEX follows the replica paths: a free value of its range (R515; log entry 58). -/
def State.tickSpeed (s : State) : State :=
  if 7 ≤ s.rst.stage then
    let x := F32.ofRat (1 / 2 + 5 / 2 * ((s.freshWord.toNat : Rat) / 4294967295))
    { s.took with pwr.speedIndex := x }
  else s

/-- Within 6 ms the partner gave an edge, and a message (R485). -/
def State.tickPair (s : State) : State :=
  let edge := decide (s.epoch < s.pair.lastEdge + 49)
  let msg := decide (s.epoch < s.pair.lastMsg + 49)
  (s.pairFlag 0 (s.paired && edge && !msg)).pairFlag 1 (s.paired && msg && !edge)

/-- The parts of a tick once release is complete. -/
def State.tickReleased (s : State) (obs : TickIn) : State :=
  let s1 := (((s.tickField obs).tickOutputs).canTick).tickPair
  if s1.live then s1.tickWork else s1

/-- TICK (R20). -/
def execTick (obs : TickIn) (s : State) : Host.Outcome State Fault Refusal :=
  .next (
    if s.ticking then
      let s1 := (s.tickTime).tickSpeed
      (if s1.clocked then s1.tickReleased obs else s1).syncDev
    else s)

end Sys2Proof.Machine
end

