-- ==== Sys2Proof/Machine/Dispatch.lean ====
section
/-! DEFINITION. The effect of a command: one arm per command of the table. -/

namespace Sys2Proof.Machine

/-- The effect of a command on the block. -/
def exec (i : Instr) (s : State) : Host.Outcome State Fault Refusal :=
  match i with
  | .echo h bytes => Sys2Proof.Machine.execEcho h bytes s
  | .commandUnknown h opcode => Sys2Proof.Machine.execCommandUnknown h opcode s
  | .paramRead h flags reqs => Sys2Proof.Machine.execParamRead h flags reqs s
  | .paramWrite h wrs => Sys2Proof.Machine.execParamWrite h wrs s
  | .commit h insts epoch => Sys2Proof.Machine.execCommit h insts epoch s
  | .discard h insts => Sys2Proof.Machine.execDiscard h insts s
  | .handleQuery h handle => Sys2Proof.Machine.execHandleQuery h handle s
  | .handleClose h handle => Sys2Proof.Machine.execHandleClose h handle s
  | .cancel h handle => Sys2Proof.Machine.execCancel h handle s
  | .snapshot h members addr len => Sys2Proof.Machine.execSnapshot h members addr len s
  | .mirrorOpen h mirror members period slots base => Sys2Proof.Machine.execMirrorOpen h mirror members period slots base s
  | .mirrorClose h mirror => Sys2Proof.Machine.execMirrorClose h mirror s
  | .alarmRead h => Sys2Proof.Machine.execAlarmRead h s
  | .alarmAck h all keys => Sys2Proof.Machine.execAlarmAck h all keys s
  | .frameChOpen h ch mask => Sys2Proof.Machine.execFrameChOpen h ch mask s
  | .frameChClose h ch => Sys2Proof.Machine.execFrameChClose h ch s
  | .timeSet h ns => Sys2Proof.Machine.execTimeSet h ns s
  | .timeTest h ns => Sys2Proof.Machine.execTimeTest h ns s
  | .fieldAck h chans groups aouts live liveA => Sys2Proof.Machine.execFieldAck h chans groups aouts live liveA s
  | .canTransmit h ch buf data => Sys2Proof.Machine.execCanTransmit h ch buf data s
  | .canBufCancel h ch buf => Sys2Proof.Machine.execCanBufCancel h ch buf s
  | .canHpRead h ch => Sys2Proof.Machine.execCanHpRead h ch s
  | .canRecover h ch => Sys2Proof.Machine.execCanRecover h ch s
  | .bankSwap h lanes epoch => Sys2Proof.Machine.execBankSwap h lanes epoch s
  | .laneAck h lane => Sys2Proof.Machine.execLaneAck h lane s
  | .periodRestore h lane => Sys2Proof.Machine.execPeriodRestore h lane s
  | .progLoad h => Sys2Proof.Machine.execProgLoad h s
  | .progExchange h => Sys2Proof.Machine.execProgExchange h s
  | .progDiscard h => Sys2Proof.Machine.execProgDiscard h s
  | .run h => Sys2Proof.Machine.execRun h s
  | .stop h => Sys2Proof.Machine.execStop h s
  | .hold h => Sys2Proof.Machine.execHold h s
  | .faultAck h => Sys2Proof.Machine.execFaultAck h s
  | .modelLoad h => Sys2Proof.Machine.execModelLoad h s
  | .modelActivate h keepCal => Sys2Proof.Machine.execModelActivate h keepCal s
  | .modelDiscard h => Sys2Proof.Machine.execModelDiscard h s
  | .elementService h elem inService => Sys2Proof.Machine.execElementService h elem inService s
  | .seriesWrite h w => Sys2Proof.Machine.execSeriesWrite h w s
  | .seriesCommit h mask => Sys2Proof.Machine.execSeriesCommit h mask s
  | .solve h kind budget hstart => Sys2Proof.Machine.execSolve h kind budget hstart s
  | .flexActivate h a => Sys2Proof.Machine.execFlexActivate h a s
  | .flexWithdraw h slot => Sys2Proof.Machine.execFlexWithdraw h slot s
  | .calRead h => Sys2Proof.Machine.execCalRead h s
  | .calReset h all elem => Sys2Proof.Machine.execCalReset h all elem s
  | .forgetMember h level addr => Sys2Proof.Machine.execForgetMember h level addr s
  | .keyInstall h a => Sys2Proof.Machine.execKeyInstall h a s
  | .keyRemove h label => Sys2Proof.Machine.execKeyRemove h label s
  | .keyList h => Sys2Proof.Machine.execKeyList h s
  | .auditRead h first count => Sys2Proof.Machine.execAuditRead h first count s
  | .tamperAck h detectors => Sys2Proof.Machine.execTamperAck h detectors s
  | .makerCommand h opcode => Sys2Proof.Machine.execMakerCommand h opcode s
  | .pairSwitchover h => Sys2Proof.Machine.execPairSwitchover h s
  | .pairResync h => Sys2Proof.Machine.execPairResync h s
  | .calWriteEnable h => Sys2Proof.Machine.execCalWriteEnable h s
  | .calDst h dir => Sys2Proof.Machine.execCalDst h dir s
  | .reset h mode => Sys2Proof.Machine.execReset h mode s
  | .blockReset h block index => Sys2Proof.Machine.execBlockReset h block index s
  | .fwLoad h => Sys2Proof.Machine.execFwLoad h s
  | .fwActivate h => Sys2Proof.Machine.execFwActivate h s
  | .dripEventsRead h => Sys2Proof.Machine.execDripEventsRead h s
  | .setupRequest a nonceM => Sys2Proof.Machine.execSetupRequest a nonceM s
  | .setupProof a nonceH proofH => Sys2Proof.Machine.execSetupProof a nonceH proofH s
  | .setupEnd a => Sys2Proof.Machine.execSetupEnd a s
  | .sqTail q idx => Sys2Proof.Machine.execSqTail q idx s
  | .cqHead q idx => Sys2Proof.Machine.execCqHead q idx s
  | .queueEnable q => Sys2Proof.Machine.execQueueEnable q s
  | .queueDisable q => Sys2Proof.Machine.execQueueDisable q s
  | .txTail ch idx descs => Sys2Proof.Machine.execTxTail ch idx descs s
  | .rxTail ch idx => Sys2Proof.Machine.execRxTail ch idx s
  | .calRegRead off => Sys2Proof.Machine.execCalRegRead off s
  | .calRegWrite off val => Sys2Proof.Machine.execCalRegWrite off val s
  | .calCommit => Sys2Proof.Machine.execCalCommit s
  | .calDiscard => Sys2Proof.Machine.execCalDiscard s
  | .registerWrite off val => Sys2Proof.Machine.execRegisterWrite off val s
  | .calFreezeTimeout => Sys2Proof.Machine.execCalFreezeTimeout s
  | .calWindowExpire => Sys2Proof.Machine.execCalWindowExpire s
  | .queueLostPost q => Sys2Proof.Machine.execQueueLostPost q s
  | .tick obs => Sys2Proof.Machine.execTick obs s
  | .commitApply => Sys2Proof.Machine.execCommitApply s
  | .pendingCommitDue handle => Sys2Proof.Machine.execPendingCommitDue handle s
  | .modeChangeApply => Sys2Proof.Machine.execModeChangeApply s
  | .stopValuesApply task => Sys2Proof.Machine.execStopValuesApply task s
  | .laneBankSwapDue lane => Sys2Proof.Machine.execLaneBankSwapDue lane s
  | .laneSampleStart lane => Sys2Proof.Machine.execLaneSampleStart lane s
  | .laneSampleComplete lane => Sys2Proof.Machine.execLaneSampleComplete lane s
  | .laneOverrun lane => Sys2Proof.Machine.execLaneOverrun lane s
  | .taskCycleStart task => Sys2Proof.Machine.execTaskCycleStart task s
  | .inputClose task => Sys2Proof.Machine.execInputClose task s
  | .taskPublication task us => Sys2Proof.Machine.execTaskPublication task us s
  | .taskApply task => Sys2Proof.Machine.execTaskApply task s
  | .cycleOverrun task => Sys2Proof.Machine.execCycleOverrun task s
  | .holdTimeout => Sys2Proof.Machine.execHoldTimeout s
  | .retainCopy => Sys2Proof.Machine.execRetainCopy s
  | .progAutoRun => Sys2Proof.Machine.execProgAutoRun s
  | .progLoadDone bytes body => Sys2Proof.Machine.execProgLoadDone bytes body s
  | .progExchangeApply => Sys2Proof.Machine.execProgExchangeApply s
  | .modelLoadDone bytes => Sys2Proof.Machine.execModelLoadDone bytes s
  | .cadencePoint => Sys2Proof.Machine.execCadencePoint s
  | .solveStart => Sys2Proof.Machine.execSolveStart s
  | .solvePublish r => Sys2Proof.Machine.execSolvePublish r s
  | .solveOverrun us r => Sys2Proof.Machine.execSolveOverrun us r s
  | .solveStopped us r => Sys2Proof.Machine.execSolveStopped us r s
  | .planBoundary => Sys2Proof.Machine.execPlanBoundary s
  | .planStaleTimeout => Sys2Proof.Machine.execPlanStaleTimeout s
  | .commitmentEnd slot => Sys2Proof.Machine.execCommitmentEnd slot s
  | .percUpdateStart => Sys2Proof.Machine.execPercUpdateStart s
  | .percUpdatePublish r => Sys2Proof.Machine.execPercUpdatePublish r s
  | .mappingUpdate => Sys2Proof.Machine.execMappingUpdate s
  | .calWindowEnd opened => Sys2Proof.Machine.execCalWindowEnd opened s
  | .afeFrameStart => Sys2Proof.Machine.execAfeFrameStart s
  | .afeRefSlotEnd refs => Sys2Proof.Machine.execAfeRefSlotEnd refs s
  | .afeCalAged => Sys2Proof.Machine.execAfeCalAged s
  | .roundOpening level => Sys2Proof.Machine.execRoundOpening level s
  | .roundClose level => Sys2Proof.Machine.execRoundClose level s
  | .proposeRx m ps => Sys2Proof.Machine.execProposeRx m ps s
  | .advertiseRx m a => Sys2Proof.Machine.execAdvertiseRx m a s
  | .memberExpire level addr => Sys2Proof.Machine.execMemberExpire level addr s
  | .qualothForward m => Sys2Proof.Machine.execQualothForward m s
  | .servedTick stn => Sys2Proof.Machine.execServedTick stn s
  | .stnOutputDue stn => Sys2Proof.Machine.execStnOutputDue stn s
  | .stnInputRx f => Sys2Proof.Machine.execStnInputRx f s
  | .stnHelloRx f => Sys2Proof.Machine.execStnHelloRx f s
  | .stnConfigAckRx f => Sys2Proof.Machine.execStnConfigAckRx f s
  | .stnLeaveRx f => Sys2Proof.Machine.execStnLeaveRx f s
  | .stnTagFailures stn => Sys2Proof.Machine.execStnTagFailures stn s
  | .portLinkChange port up => Sys2Proof.Machine.execPortLinkChange port up s
  | .fieldLinkLoss => Sys2Proof.Machine.execFieldLinkLoss s
  | .fieldLinkRestore => Sys2Proof.Machine.execFieldLinkRestore s
  | .outputOverload ch => Sys2Proof.Machine.execOutputOverload ch s
  | .outputThermal ch => Sys2Proof.Machine.execOutputThermal ch s
  | .groupLimitShed grp amps => Sys2Proof.Machine.execGroupLimitShed grp amps s
  | .outputDiagTest ch vOff vOn vfld amps => Sys2Proof.Machine.execOutputDiagTest ch vOff vOn vfld amps s
  | .sharedMaskEnd => Sys2Proof.Machine.execSharedMaskEnd s
  | .supplyWarnCross grp down volts => Sys2Proof.Machine.execSupplyWarnCross grp down volts s
  | .supplyCutoff grp volts => Sys2Proof.Machine.execSupplyCutoff grp volts s
  | .supplyCutoffUp grp volts => Sys2Proof.Machine.execSupplyCutoffUp grp volts s
  | .supplyHoldoffEnd grp => Sys2Proof.Machine.execSupplyHoldoffEnd grp s
  | .inputValidityLoss grp volts => Sys2Proof.Machine.execInputValidityLoss grp volts s
  | .inputValidityRestore grp volts => Sys2Proof.Machine.execInputValidityRestore grp volts s
  | .shuntOpen ain isOpen => Sys2Proof.Machine.execShuntOpen ain isOpen s
  | .aoutOpenLoad a present => Sys2Proof.Machine.execAoutOpenLoad a present s
  | .aoutOverload a => Sys2Proof.Machine.execAoutOverload a s
  | .canFrameRx ch f remote => Sys2Proof.Machine.execCanFrameRx ch f remote s
  | .canCyclicTrigger ch buf => Sys2Proof.Machine.execCanCyclicTrigger ch buf s
  | .canTxEnd ch buf ok arbLost inc loopDelay => Sys2Proof.Machine.execCanTxEnd ch buf ok arbLost inc loopDelay s
  | .canTxTimeout ch buf => Sys2Proof.Machine.execCanTxTimeout ch buf s
  | .canBusoffHoldEnd ch => Sys2Proof.Machine.execCanBusoffHoldEnd ch s
  | .canRecovered ch => Sys2Proof.Machine.execCanRecovered ch s
  | .canBusIntegration ch => Sys2Proof.Machine.execCanBusIntegration ch s
  | .ringFrameRx f => Sys2Proof.Machine.execRingFrameRx f s
  | .hsrSupervisionTx => Sys2Proof.Machine.execHsrSupervisionTx s
  | .hostFrameRx f descs => Sys2Proof.Machine.execHostFrameRx f descs s
  | .ptpMessageRx m => Sys2Proof.Machine.execPtpMessageRx m s
  | .ptpMessageTx port kind => Sys2Proof.Machine.execPtpMessageTx port kind s
  | .ppsInEdge offsetNs freq => Sys2Proof.Machine.execPpsInEdge offsetNs freq s
  | .ppsOutPulse => Sys2Proof.Machine.execPpsOutPulse s
  | .tb0Lock => Sys2Proof.Machine.execTb0Lock s
  | .tb0SyncLoss => Sys2Proof.Machine.execTb0SyncLoss s
  | .startWaitExpire => Sys2Proof.Machine.execStartWaitExpire s
  | .mergeStart => Sys2Proof.Machine.execMergeStart s
  | .mergeComplete => Sys2Proof.Machine.execMergeComplete s
  | .leapSecond => Sys2Proof.Machine.execLeapSecond s
  | .mirrorBlockWrite mirror => Sys2Proof.Machine.execMirrorBlockWrite mirror s
  | .snapshotDone handle => Sys2Proof.Machine.execSnapshotDone handle s
  | .keyInstallDone handle ok => Sys2Proof.Machine.execKeyInstallDone handle ok s
  | .keySwitchEpoch label => Sys2Proof.Machine.execKeySwitchEpoch label s
  | .keyReceiveWindowEnd label => Sys2Proof.Machine.execKeyReceiveWindowEnd label s
  | .keyScrub curBad prevBad => Sys2Proof.Machine.execKeyScrub curBad prevBad s
  | .tamperDetect mask => Sys2Proof.Machine.execTamperDetect mask s
  | .mgmtIdleTimeout n => Sys2Proof.Machine.execMgmtIdleTimeout n s
  | .bindLockoutEnd src mac => Sys2Proof.Machine.execBindLockoutEnd src mac s
  | .heartbeatTx => Sys2Proof.Machine.execHeartbeatTx s
  | .heartbeatRx p m => Sys2Proof.Machine.execHeartbeatRx p m s
  | .partnerFailed => Sys2Proof.Machine.execPartnerFailed s
  | .takeoverResume => Sys2Proof.Machine.execTakeoverResume s
  | .demotion => Sys2Proof.Machine.execDemotion s
  | .demotedTakeover => Sys2Proof.Machine.execDemotedTakeover s
  | .checkpointEpoch => Sys2Proof.Machine.execCheckpointEpoch s
  | .ckptDeltaRx p sect bytes => Sys2Proof.Machine.execCkptDeltaRx p sect bytes s
  | .ckptEndRx p frags crc => Sys2Proof.Machine.execCkptEndRx p frags crc s
  | .syncRequestRx p => Sys2Proof.Machine.execSyncRequestRx p s
  | .finalRx p frags crc => Sys2Proof.Machine.execFinalRx p frags crc s
  | .ckptFlush => Sys2Proof.Machine.execCkptFlush s
  | .ckptStale => Sys2Proof.Machine.execCkptStale s
  | .pairStartWaitEnd => Sys2Proof.Machine.execPairStartWaitEnd s
  | .pairFloorSwitch => Sys2Proof.Machine.execPairFloorSwitch s
  | .marginBreach cls margin => Sys2Proof.Machine.execMarginBreach cls margin s
  | .govSettleStep margin => Sys2Proof.Machine.execGovSettleStep margin s
  | .vbulkLow volts => Sys2Proof.Machine.execVbulkLow volts s
  | .sagHoldEnd volts => Sys2Proof.Machine.execSagHoldEnd volts s
  | .vbulkFail volts => Sys2Proof.Machine.execVbulkFail volts s
  | .vbulkGood volts => Sys2Proof.Machine.execVbulkGood volts s
  | .vaonPowerOn volts => Sys2Proof.Machine.execVaonPowerOn volts s
  | .vaonLow rising volts => Sys2Proof.Machine.execVaonLow rising volts s
  | .vfldLowEvent grp rising => Sys2Proof.Machine.execVfldLowEvent grp rising s
  | .wakeEvent n rising => Sys2Proof.Machine.execWakeEvent n rising s
  | .resetNAssert => Sys2Proof.Machine.execResetNAssert s
  | .resetNRelease => Sys2Proof.Machine.execResetNRelease s
  | .releaseStep obs => Sys2Proof.Machine.execReleaseStep obs s
  | .releaseHalt => Sys2Proof.Machine.execReleaseHalt s
  | .fwTrialTimeout => Sys2Proof.Machine.execFwTrialTimeout s
  | .pciePerstAssert => Sys2Proof.Machine.execPciePerstAssert s
  | .vioLoss n => Sys2Proof.Machine.execVioLoss n s
  | .vioRestore n => Sys2Proof.Machine.execVioRestore n s
  | .overTempRaise die temp => Sys2Proof.Machine.execOverTempRaise die temp s
  | .overTempClear temps => Sys2Proof.Machine.execOverTempClear temps s
  | .calSecondCarry => Sys2Proof.Machine.execCalSecondCarry s
  | .calSyncCheck => Sys2Proof.Machine.execCalSyncCheck s
  | .cd0Loss => Sys2Proof.Machine.execCd0Loss s
  | .hbInEdge => Sys2Proof.Machine.execHbInEdge s
  | .filterCounterStep ch volts time => Sys2Proof.Machine.execFilterCounterStep ch volts time s
  | .pwmPeriodBoundary ch => Sys2Proof.Machine.execPwmPeriodBoundary ch s
  | .afeDataSlotEnd samples clip => Sys2Proof.Machine.execAfeDataSlotEnd samples clip s
  | .canCommitPoint ch buf => Sys2Proof.Machine.execCanCommitPoint ch buf s
  | .canReceiveError ch inc => Sys2Proof.Machine.execCanReceiveError ch inc s
  | .dripStateLoss => Sys2Proof.Machine.execDripStateLoss s
  | .uncorrectableMemoryError task => Sys2Proof.Machine.execUncorrectableMemoryError task s
  | .blockResetDone handle => Sys2Proof.Machine.execBlockResetDone handle s
  | .fwLoadDone bytes img => Sys2Proof.Machine.execFwLoadDone bytes img s
  | .pciePerstRelease => Sys2Proof.Machine.execPciePerstRelease s
  | .announceReceiptTimeout => Sys2Proof.Machine.execAnnounceReceiptTimeout s

end Sys2Proof.Machine
end

