-- ==== Sys2Proof/Safety.lean ====
section
/-! DEFINITION. The terms in which claims speak of the block: what a step may do to the audit log, the waiting
commands, what has been sent and the identity; what a sound audit log is; when a command
packet is taken and passes the shared checks; and what answering it writes. -/

namespace Sys2Proof.Machine

/-- The parts of the state that only grow or stand still: the audit log, the messages sent, the waiting commands and
the identity of the unit. -/
structure Trace where
  /-- the audit log. -/
  aud : AuditSt
  /-- the messages sent, newest first. -/
  out : List OutMsg
  /-- the waiting commands. -/
  pending : List Instr
  /-- the identity. -/
  ident : Ident

/-- The trace of a state. -/
def State.trace (s : State) : Trace := ⟨s.aud, s.out, s.pending, s.ident⟩

/-- What a command may do to a trace: append audit records, send messages, note the epoch of the record of applied
events, and change the firmware version; nothing else (R472 to R474, R526). -/
inductive Grow (r : Trace) : Trace → Prop where
  /-- nothing has happened. -/
  | same : Grow r r
  /-- a message has been sent. -/
  | sent {a : AuditSt} {o : List OutMsg} {p : List Instr} {i : Ident} (m : OutMsg) :
      Grow r ⟨a, o, p, i⟩ → Grow r ⟨a, m :: o, p, i⟩
  /-- a record has been appended. -/
  | recorded {a : AuditSt} {o : List OutMsg} {p : List Instr} {i : Ident} (x : AuditRec) :
      Grow r ⟨a, o, p, i⟩ → Grow r ⟨a.push x, o, p, i⟩
  /-- the epoch of the applied-events record has changed. -/
  | applied {a : AuditSt} {o : List OutMsg} {p : List Instr} {i : Ident} (e : Option Nat) :
      Grow r ⟨a, o, p, i⟩ → Grow r ⟨{ a with appliedEpoch := e }, o, p, i⟩
  /-- another firmware image runs. -/
  | booted {a : AuditSt} {o : List OutMsg} {p : List Instr} {i : Ident} (v : U32) :
      Grow r ⟨a, o, p, i⟩ → Grow r ⟨a, o, p, { i with fw := v }⟩

/-- A state whose trace grew from `r`. -/
def Ext (r : Trace) (s : State) : Prop := Grow r s.trace

/-- An outcome that is a next state whose trace grew from `r`. -/
def ExtOut (r : Trace) (x : Host.Outcome State Fault Refusal) : Prop := ∃ t, x = .next t ∧ Ext r t

/-- A verdict whose effect keeps a trace growing. -/
def Verdict.Extends (v : Verdict) : Prop := ∀ r t, Ext r t → Ext r (v.act t)

end Sys2Proof.Machine

namespace Sys2Proof
open Machine

/-- A sound audit log (R473 to R475): the newest 65,536 records are kept, each in its place; each record's hash covers
the hash of the record before it; the log holds the hash of the newest record and of the one before the oldest. -/
structure AuditSt.Sound (a : AuditSt) : Prop where
  /-- every record of the last 65,536 is kept. -/
  kept : ∀ n, n < a.next → a.next ≤ n + 65536 → ∃ r, tget a.recs (n % 65536) = some r ∧ r.seq = n
  /-- a record that is listed is one of those, and stands in its place. -/
  listed : ∀ k r, tget a.recs k = some r → r.seq < a.next ∧ a.next ≤ r.seq + 65536 ∧ k = r.seq % 65536
  /-- the newest record's hash. -/
  newest : ∀ k r, tget a.recs k = some r → r.seq + 1 = a.next → r.hash = a.prevHash
  /-- each hash covers the one before it. -/
  chained : ∀ k r j q, tget a.recs k = some r → tget a.recs j = some q → r.seq = q.seq + 1 →
    r.hash = Config.sha384 (q.hash ++ auditBytes r)
  /-- the oldest record kept covers the hash of the one before it. -/
  oldest : ∀ k r, tget a.recs k = some r → (r.seq = 0 ∨ a.next = r.seq + 65536) →
    r.hash = Config.sha384 (a.oldHash ++ auditBytes r)
  /-- before SEQ 0 stand 48 zero bytes. -/
  first : a.next = 0 → a.prevHash = List.replicate 48 0 ∧ a.oldHash = List.replicate 48 0

end Sys2Proof

namespace Sys2Proof.Machine

/-- A command packet that the Barista takes now and that passes the checks that every command shares
(R2, R9, R408, R409, R483). -/
def State.admitted (s : State) (c : CmdInfo) (h : Hdr) : Bool := s.takeable h && (s.take h).gate c h == St.OK

/-- The state in which a command has been taken, recorded and answered, and its effect is still to come (R411, R412,
R472). -/
def State.answered (s : State) (c : CmdInfo) (h : Hdr) (subject : Nat) (v : Verdict) : State :=
  ((s.take h).auditCmd c h subject (auditDetail h.raw) v).reply h v

/-- The command packets: what the command tables say of each, and its header (R419, R476, R511, R540). -/
def packetOf : Instr → Option (CmdInfo × Hdr)
  | .echo h _ => some (echoInfo, h)
  | .paramRead h _ _ => some (paramReadInfo, h)
  | .paramWrite h _ => some (paramWriteInfo, h)
  | .commit h _ _ => some (commitInfo, h)
  | .discard h _ => some (discardInfo, h)
  | .handleQuery h _ => some (handleQueryInfo, h)
  | .handleClose h _ => some (handleCloseInfo, h)
  | .cancel h _ => some (cancelInfo, h)
  | .snapshot h _ _ _ => some (snapshotInfo, h)
  | .mirrorOpen h _ _ _ _ _ => some (mirrorOpenInfo, h)
  | .mirrorClose h _ => some (mirrorCloseInfo, h)
  | .alarmRead h => some (alarmReadInfo, h)
  | .alarmAck h _ _ => some (alarmAckInfo, h)
  | .frameChOpen h _ _ => some (frameChOpenInfo, h)
  | .frameChClose h _ => some (frameChCloseInfo, h)
  | .timeSet h _ => some (timeSetInfo, h)
  | .timeTest h _ => some (timeTestInfo, h)
  | .fieldAck h _ _ _ _ _ => some (fieldAckInfo, h)
  | .canTransmit h _ _ _ => some (canTransmitInfo, h)
  | .canBufCancel h _ _ => some (canBufCancelInfo, h)
  | .canHpRead h _ => some (canHpReadInfo, h)
  | .canRecover h _ => some (canRecoverInfo, h)
  | .bankSwap h _ _ => some (bankSwapInfo, h)
  | .laneAck h _ => some (laneAckInfo, h)
  | .periodRestore h _ => some (periodRestoreInfo, h)
  | .progLoad h => some (progLoadInfo, h)
  | .progExchange h => some (progExchangeInfo, h)
  | .progDiscard h => some (progDiscardInfo, h)
  | .run h => some (runInfo, h)
  | .stop h => some (stopInfo, h)
  | .hold h => some (holdInfo, h)
  | .faultAck h => some (faultAckInfo, h)
  | .modelLoad h => some (modelLoadInfo, h)
  | .modelActivate h _ => some (modelActivateInfo, h)
  | .modelDiscard h => some (modelDiscardInfo, h)
  | .elementService h _ _ => some (elementServiceInfo, h)
  | .seriesWrite h _ => some (seriesWriteInfo, h)
  | .seriesCommit h _ => some (seriesCommitInfo, h)
  | .solve h _ _ _ => some (solveInfo, h)
  | .flexActivate h _ => some (flexActivateInfo, h)
  | .flexWithdraw h _ => some (flexWithdrawInfo, h)
  | .calRead h => some (calReadInfo, h)
  | .calReset h _ _ => some (calResetInfo, h)
  | .forgetMember h _ _ => some (forgetMemberInfo, h)
  | .keyInstall h _ => some (keyInstallInfo, h)
  | .keyRemove h _ => some (keyRemoveInfo, h)
  | .keyList h => some (keyListInfo, h)
  | .auditRead h _ _ => some (auditReadInfo, h)
  | .tamperAck h _ => some (tamperAckInfo, h)
  | .makerCommand h opcode => if 0x04F0 ≤ opcode ∧ opcode ≤ 0x04FF then some (makerInfo opcode, h) else none
  | .pairSwitchover h => some (pairSwitchoverInfo, h)
  | .pairResync h => some (pairResyncInfo, h)
  | .calWriteEnable h => some (calWriteEnableInfo, h)
  | .calDst h _ => some (calDstInfo, h)
  | .reset h _ => some (resetInfo, h)
  | .blockReset h _ _ => some (blockResetInfo, h)
  | .fwLoad h => some (fwLoadInfo, h)
  | .fwActivate h => some (fwActivateInfo, h)
  | .dripEventsRead h => some (dripEventsReadInfo, h)
  | _ => none

/-- A queue pair without its pointers and its loss count. -/
def queueSettings (q : QPair) : QPair :=
  { q with sqHead := 0, cqTail := 0, cqCount := 0, phase := true, lost := 0#16, lostPend := false }

/-- A session without the epoch of its last frame and the idle time taken with it. -/
def sessSettings (x : Session) : Session := { x with lastEpoch := 0, idleS := 0 }

/-- `t` is `s` but for what taking, recording and answering write: pointers of queue pairs, frame counters of sessions,
pending vectors, the count of lost events, the audit log, the messages sent, and the versions kept for the starts of the
tick (R19). -/
structure Silent (s t : State) : Prop where
  /-- every other part is the same. -/
  rest : t = { s with
    host.queues := t.host.queues, host.sessions := t.host.sessions, host.msixPend := t.host.msixPend
    host.eventsLost := t.host.eventsLost, key.mgmt := t.key.mgmt, aud := t.aud, out := t.out, edge := t.edge }
  /-- the settings and the binding of every queue pair are the same. -/
  queues : ∀ n, queueSettings (t.queue n) = queueSettings (s.queue n)
  /-- the peer and the binding of every session are the same. -/
  sessions : ∀ n, sessSettings (t.sess n) = sessSettings (s.sess n)

end Sys2Proof.Machine
end

