-- ==== Sys2Proof/Certificates/Slice0/Obligations.lean ====
section
/-! DEFINITION. The statements about the model, for the provers. -/

open Sys2Proof Sys2Proof.Machine

/-- A step takes the command at the front of the queue and runs it on the state with the rest of the queue; on an
empty queue the block idles (log entry 1). (From 13_host_commands) -/
def Obligations.StepRunsTheFrontCommand : Prop :=
  (∀ (c : Instr) (rest : List Instr) (s : State),
    step { s with pending := c :: rest } = exec c { s with pending := rest }) ∧
  (∀ s : State, s.pending = [] → step s = .next s)

/-- Every step uses up one command, takes back nothing it has sent, never lowers the audit log's SEQ, and leaves the
unit's variant, stepping and fuses alone. (From 14_keys_roles, 13_host_commands, 01_architecture) -/
def Obligations.EveryStepOnlyAppends : Prop :=
  ∀ s : State, ∃ t, step s = .next t ∧ t.pending = s.pending.tail ∧ s.out <:+ t.out ∧ s.aud.next ≤ t.aud.next ∧
    t.ident.variant = s.ident.variant ∧ t.ident.stepping = s.ident.stepping ∧
    t.ident.fuseComm = s.ident.fuseComm ∧ t.ident.fuseMaker = s.ident.fuseMaker

/-- Every step keeps the audit log a sound chain: each record in its place, each hash over the hash before it, the
newest 65,536 kept, none rewritten. (R474) -/
def Obligations.AuditLogStaysSound : Prop :=
  ∀ s t : State, s.aud.Sound → step s = .next t → t.aud.Sound ∧
    ∀ (k : Nat) (x : AuditRec), tget s.aud.recs k = some x → t.aud.next ≤ x.seq + 65536 → tget t.aud.recs k = some x

/-- At reset the audit log is sound and empty, and the hash before its first record is 48 zero bytes. (R474) -/
def Obligations.ResetAuditLogSound : Prop :=
  State.reset.aud.Sound ∧ State.reset.aud.recs = [] ∧ State.reset.aud.next = 0 ∧
    State.reset.aud.prevHash = List.replicate 48 0

/-- A command packet that cannot be taken, or that fails a check which every command shares, changes nothing but the
record and the reply with that status. (From R2, R408, R409, R411, R413, R472, R483, 13_host_commands) -/
def Obligations.RejectedPacketHasNoEffect : Prop :=
  ∀ (c : Instr) (info : CmdInfo) (h : Hdr) (s : State), packetOf c = some (info, h) →
    (s.takeable h = false → exec c s = .next (s.discardFrame h)) ∧
    (s.takeable h = true → (s.take h).gate info h ≠ St.OK →
      ∃ t, exec c s = .next t ∧ Silent s t ∧
        ∀ n, h.src = .queue n → (s.queue n).cqFull = false →
          OutMsg.entry (.queue n)
            { tag := h.tag, status := (s.take h).gate info h, kind := 1, queue := n, phase := (s.queue n).phase,
              sqHead := ((s.queue n).sqHead + 1) % (s.queue n).sqLen, epoch := s.epoch } [] ∈ t.out)

/-- ECHO, unknown opcodes, handle, alarm and frame channel commands have the effect their rules give, on the state
that has been recorded and answered. (From R412, R419, R421, R427, R444, 13_host_commands) -/
def Obligations.HostCommandsComplete : Prop :=
  (∀ (h : Hdr) (bytes : List Byte) (s : State), s.admitted echoInfo h = true → 32 ≤ h.room →
    exec (.echo h bytes) s = .next (s.answered echoInfo h 0 { data := padTo 32 bytes })) ∧
  (∀ (h : Hdr) (opcode : Nat) (s : State), knownOpcodes.contains opcode = false → s.takeable h = true →
    exec (.commandUnknown h opcode) s = .next (s.answered { op := opcode } h 0 { status := St.OPCODE })) ∧
  (∀ (h : Hdr) (k : U32) (s : State), s.admitted handleQueryInfo h = true → s.holds h.src k = true →
    (s.hent (hIndex k)).st = .opened →
    ((s.hent (hIndex k)).progress = none →
      exec (.handleQuery h k) s = .next (s.answered handleQueryInfo h k.toNat
        { status := St.RUNNING, detail := 0xFFFFFFFF })) ∧
    (∀ p, (s.hent (hIndex k)).progress = some p → ∃ q, p ≤ q ∧ (p ≤ 1000 → q ≤ 1000) ∧
      exec (.handleQuery h k) s = .next (((s.answered handleQueryInfo h k.toNat
        { status := St.RUNNING, detail := q }).progress k q).took))) ∧
  (∀ (h : Hdr) (k : U32) (e : Entry) (s : State), s.admitted handleQueryInfo h = true → s.holds h.src k = true →
    (s.hent (hIndex k)).st = .completed → (s.hent (hIndex k)).record = some e →
    32 + (s.hent (hIndex k)).recData.length ≤ h.room →
    ∃ t, exec (.handleQuery h k) s = .next t ∧
      t = (s.answered handleQueryInfo h k.toNat { data := entryBytes e ++ (s.hent (hIndex k)).recData }).freeHandle
        (hIndex k) ∧ (t.hent (hIndex k)).st = .free ∧ t.host.freeList = s.host.freeList ++ [hIndex k]) ∧
  (∀ (h : Hdr) (k : U32) (s : State), s.admitted handleCloseInfo h = true → s.holds h.src k = true →
    (s.hent (hIndex k)).st = .opened →
    ∃ t, exec (.handleClose h k) s = .next t ∧ Silent { s with host.handles := t.host.handles } t ∧
      t.host.handles = tset s.host.handles (hIndex k) { s.hent (hIndex k) with closed := true }) ∧
  (∀ (h : Hdr) (k : U32) (s : State), s.admitted handleCloseInfo h = true → s.hUsed k = true →
    s.roleOf h.src = .installer → (s.hent (hIndex k)).st = .completed →
    ∃ t, exec (.handleClose h k) s = .next t ∧
      Silent { s with host.handles := t.host.handles, host.freeList := t.host.freeList } t ∧
      (t.hent (hIndex k)).st = .free ∧ t.host.freeList = s.host.freeList ++ [hIndex k]) ∧
  (∀ (h : Hdr) (s : State), s.admitted alarmReadInfo h = true →
    exec (.alarmRead h) s = .next (s.answered alarmReadInfo h 0
      { data := (((alarmSort s.host.alarms).take (h.room / 32)).map alarmBytes).flatten })) ∧
  (∀ (h : Hdr) (all : Bool) (keys : List U64) (s : State), s.admitted alarmAckInfo h = true → keys.length ≤ 256 →
    ∃ t, exec (.alarmAck h all keys) s = .next t ∧ Silent { s with host.alarms := t.host.alarms } t ∧
      t.host.alarms = s.host.alarms.filterMap (fun a =>
        if all = true ∨ a.key ∈ keys then
          (if a.state = 1 then some { a with state := 2 } else if a.state = 3 then none else some a)
        else some a)) ∧
  (∀ (h : Hdr) (ch : Nat) (mask : BitVec 16) (s : State), s.admitted frameChOpenInfo h = true → ch ≤ 3 →
    mask.toNat < 64 → (s.fch ch).isOpen = false →
    exec (.frameChOpen h ch mask) s = .next ((s.answered frameChOpenInfo h ch {}).setFch ch
      { s.fch ch with isOpen := true, owner := h.src, portMask := mask })) ∧
  (∀ (h : Hdr) (ch : Nat) (s : State), s.admitted frameChCloseInfo h = true → ch ≤ 3 →
    exec (.frameChClose h ch) s = .next ((s.answered frameChCloseInfo h ch {}).setFch ch
      { s.fch ch with isOpen := false, owner := .none, portMask := 0#16 }))

/-- Doorbells, enabling and disabling a queue pair, the loss event and the frame channel tails change exactly what
their rules name. (From R414, R417, R418, R444, R445, 13_host_commands) -/
def Obligations.QueueRegistersComplete : Prop :=
  (∀ (q : Nat) (idx : U32) (s : State), s.hostUp = true → q < 8 → (s.queue q).enabled = true →
    (idx.toNat % 4096 < 2 ^ (s.queue q).sqSize →
      exec (.sqTail q idx) s = .next (s.setQueue q { s.queue q with sqTail := idx.toNat % 4096 })) ∧
    (2 ^ (s.queue q).sqSize ≤ idx.toNat % 4096 →
      exec (.sqTail q idx) s = .next (s.setQueue q { s.queue q with lost := (s.queue q).lost + 1 })) ∧
    (idx.toNat % 4096 < 2 ^ (s.queue q).cqSize →
      exec (.cqHead q idx) s = .next (s.setQueue q { s.queue q with
        cqHead := idx.toNat % 4096
        cqCount := (s.queue q).cqCount -
          (idx.toNat % 4096 + 2 ^ (s.queue q).cqSize - (s.queue q).cqHead) % 2 ^ (s.queue q).cqSize })) ∧
    (2 ^ (s.queue q).cqSize ≤ idx.toNat % 4096 →
      exec (.cqHead q idx) s = .next (s.setQueue q { s.queue q with lost := (s.queue q).lost + 1 }))) ∧
  (∀ (q : Nat) (s : State), s.hostUp = true → q < 8 → (s.queue q).enable = false →
    exec (.queueEnable q) s = .next (s.setQueue q { s.queue q with
      enable := true
      enabled := decide (1 ≤ (s.queue q).sqSize ∧ (s.queue q).sqSize ≤ 12 ∧ 1 ≤ (s.queue q).cqSize ∧
        (s.queue q).cqSize ≤ 12)
      sqTail := 0, sqHead := 0, cqHead := 0, cqTail := 0, cqCount := 0, phase := true, lostPend := false })) ∧
  (∀ (q : Nat) (s : State), s.hostUp = true → q < 8 → (s.queue q).enable = true →
    ∃ t, exec (.queueDisable q) s = .next t ∧
      (t.queue q).enable = false ∧ (t.queue q).enabled = false ∧ (t.queue q).bind = none ∧
      t.host.staging = s.host.staging.filter (fun e => e.owner != .queue q || s.isPending e) ∧
      t.host.handles = tmap s.host.handles (fun _ e =>
        if e.st == .opened && e.src == .queue q then { e with closed := true } else e) ∧
      t = { s with
        host.queues := t.host.queues, host.sessions := t.host.sessions, host.staging := t.host.staging
        host.handles := t.host.handles, model.seriesStaged := t.model.seriesStaged }) ∧
  (∀ (q : Nat) (s : State), s.ready = true → q < 8 → (s.queue q).enabled = true → (s.queue q).lostPend = true →
    (s.queue q).cqFull = false →
    ∃ t, exec (.queueLostPost q) s = .next t ∧ Silent s t ∧ (t.queue q).lostPend = false ∧
      t.aud.next = s.aud.next + 1 ∧
      OutMsg.entry (.queue q) { status := St.QUEUE_LOST, kind := 3, queue := 0xFF, phase := (s.queue q).phase,
                                epoch := s.epoch, detail := q } [] ∈ t.out) ∧
  (∀ (ch : Nat) (idx : U32) (s : State), s.hostUp = true → ch < 4 → (s.fch ch).isOpen = true →
    exec (.txTail ch idx []) s = .next (s.setFch ch { s.fch ch with txTail := idx.toNat }) ∧
    exec (.rxTail ch idx) s = .next (s.setFch ch { s.fch ch with rxTail := idx.toNat })) ∧
  (∀ (ch : Nat) (idx : U32) (d : TxDesc) (s : State), s.hostUp = true → ch < 4 → (s.fch ch).isOpen = true →
    ∃ t ts, exec (.txTail ch idx [d]) s = .next t ∧
      OutMsg.desc ch true (s.fch ch).txHead (descBytes d.addr d.len d.port (d.flags ||| 2#8).toNat d.tag.toNat ts
        (s.txStatus (s.fch ch) d)) ∈ t.out ∧
      (t.fch ch).txHead = ((s.fch ch).txHead + 1) % Config.fcEntries (s.fch ch).fcCfg true ∧
      (t.fch ch).txTail = idx.toNat)

/-- Reads and writes of the register window return and change what the register map says. (From R416, R418, R445,
R530, R532, R533, 13_host_commands, 16_power_reset_calendar) -/
def Obligations.RegisterWindowComplete : Prop :=
  (∀ (off : Nat) (s : State), s.hostUp = true → off % 4 = 0 → (off < 0x8000 ∨ 0x8020 ≤ off) →
    ∃ t, exec (.calRegRead off) s = .next t ∧
      t.out = OutMsg.readData off (s.regWord off) :: s.out ∧
      t = { s with host.hiLatch := t.host.hiLatch, out := t.out }) ∧
  (∀ (n : Nat) (s : State), n < 8 →
    s.regWord 0 = BitVec.ofNat 32 (partOf s.ident.variant + 65536 * (s.ident.stepping % 256) +
      16777216 * (s.ident.fw.toNat / 16777216)) ∧
    s.regWord 4 = s.ident.fw ∧
    s.regWord 8 = BitVec.ofNat 32 (b2n s.ready + 2 * b2n (s.ready && s.isActive) + 4 * b2n (s.ready && s.isStandby) +
      8 * b2n s.time.island + 256 * s.rst.stage) ∧
    s.regWord (0x0118 + 32 * n) = BitVec.ofNat 32 ((s.queue n).sqSize + 16 * (s.queue n).cqSize +
      65536 * b2n (s.queue n).enable) ∧
    s.regWord (0x011C + 32 * n) = BitVec.ofNat 32 ((s.queue n).lost.toNat + 65536 * b2n (s.queue n).enabled +
      131072 * bindCode (s.queue n).bind) ∧
    s.regWord 0x4800 = s.host.msixPend ∧ s.regWord 0x8024 = BitVec.ofNat 32 s.calStatus ∧
    s.regWord 0x8100 = BitVec.ofNat 32 s.dripStatus ∧ s.regWord 0x8104 = BitVec.ofNat 32 s.resetCause) ∧
  (∀ (k : Nat) (s : State), s.hostUp = true → k < 8 →
    ∃ t, exec (.calRegRead (0x8000 + 4 * k)) s = .next t ∧
      t.out = OutMsg.readData (0x8000 + 4 * k)
        (BitVec.ofNat 32 (calReg (if s.drip.frozen then s.drip.shadow else s.drip.live) k)) :: s.out ∧
      t.drip.frozen = decide (k ≠ 7) ∧
      t.drip.shadow = (if s.drip.frozen then s.drip.shadow else s.drip.live) ∧
      (k ≠ 7 → t.drip.frozenAt = if s.drip.frozen then s.drip.frozenAt else s.epoch) ∧
      t = { s with drip.frozen := t.drip.frozen, drip.shadow := t.drip.shadow, drip.frozenAt := t.drip.frozenAt
                   out := t.out }) ∧
  (∀ (i : Nat) (v : U32) (s : State), s.hostUp = true → i < 128 → (i % 4 ≠ 3 ∨ v.getLsbD 0 = true) →
    exec (.registerWrite (0x4000 + 4 * i) v) s = .next { s with host.msix := tset s.host.msix i v }) ∧
  (∀ (v : U32) (s : State), s.hostUp = true →
    exec (.registerWrite 0x8100 v) s =
      .next { s with drip.fwFallback := s.drip.fwFallback && !v.getLsbD 9 }) ∧
  (∀ (n : Nat) (v : U32) (s : State), s.hostUp = true → n < 8 →
    exec (.registerWrite (0x0100 + 32 * n) v) s =
      .next { s with host.lowLatch := tset s.host.lowLatch (0x0100 + 32 * n) v } ∧
    exec (.registerWrite (0x0104 + 32 * n) v) s = .next (s.setQueue n { s.queue n with
      sqBase := s.joined (0x0100 + 32 * n) v (s.queue n).sqBase }) ∧
    ((s.queue n).enable = false → v.getLsbD 16 = false →
      exec (.registerWrite (0x0118 + 32 * n) v) s = .next (s.setQueue n { s.queue n with
        sqSize := v.toNat % 16, cqSize := v.toNat / 16 % 16 }))) ∧
  (∀ (off : Nat) (v : U32) (s : State), s.hostUp = true → (off < 0x0100 ∨ 0x8200 ≤ off ∨ off = 0x8104) →
    exec (.registerWrite off v) s = .next s)

/-- The calendar's writes, commits, window, summer time and course change exactly what their rules name. (From R528,
R531, R532, R533, R534, R535, R536, R537, 16_power_reset_calendar) -/
def Obligations.CalendarComplete : Prop :=
  (∀ (h : Hdr) (s : State), s.admitted calWriteEnableInfo h = true →
    ∃ t, exec (.calWriteEnable h) s = .next t ∧ t.drip.unlocked = true ∧ t.drip.openSrc = h.src ∧
      t.drip.openRole = s.roleOf h.src ∧
      t.drip.openedAt = s.epoch ∧
      Silent { s with drip.unlocked := true, drip.openedAt := s.epoch, drip.openRole := s.roleOf h.src
                      drip.openSrc := h.src } t) ∧
  (∀ (k : Nat) (v : U32) (s : State), s.hostUp = true → k < 8 →
    (s.drip.unlocked = true → exec (.calRegWrite (0x8000 + 4 * k) v) s =
      .next { s with drip.staged := some (calSetReg (s.drip.staged.getD s.drip.live) k v.toNat) }) ∧
    (s.drip.unlocked = false → exec (.calRegWrite (0x8000 + 4 * k) v) s = .next { s with drip.writeLocked := true })) ∧
  (∀ (c : CalSet) (s : State), s.hostUp = true → s.drip.unlocked = true → s.drip.staged = some c →
    (calReason c = 0 → ∃ t, exec .calCommit s = .next t ∧ t.drip.live = c ∧ t.drip.sub = 0 ∧ t.drip.valid = true ∧
      t.drip.unlocked = false ∧ t.drip.staged = none ∧ t.drip.rangeEnd = false) ∧
    (calReason c ≠ 0 → ∃ t, exec .calCommit s = .next t ∧ t.aud.next = s.aud.next + 1 ∧
      t = { s with drip.writeRejected := true, drip.rejectReason := calReason c, aud := t.aud })) ∧
  (∀ s : State, s.hostUp = true → s.drip.unlocked = false →
    exec .calCommit s = .next { s with drip.writeLocked := true } ∧
    exec .calDiscard s = .next { s with drip.writeLocked := true }) ∧
  (∀ s : State, s.hostUp = true → s.drip.unlocked = true → exec .calDiscard s = .next { s with drip.staged := none }) ∧
  (∀ s : State, s.drip.frozen = true → (s.time.running = true → s.drip.frozenAt + 4000 ≤ s.epoch) →
    exec .calFreezeTimeout s = .next { s with drip.frozen := false, drip.freezeTimeout := true }) ∧
  (∀ s : State, s.drip.unlocked = true → (s.time.running = true → s.drip.openedAt + 480000 ≤ s.epoch) →
    exec .calWindowExpire s = .next { s with drip.unlocked := false }) ∧
  (∀ (h : Hdr) (s : State), s.admitted calDstInfo h = true → s.drip.dst = false →
    (calSeconds s.drip.live + 1 + 3600 < calEnd →
      exec (.calDst h 1) s = .next { s.answered calDstInfo h 1 {} with drip.dstPend := 1 }) ∧
    exec (.calDst h 2) s = .next (s.answered calDstInfo h 2 { status := St.WRONG_MODE })) ∧
  (∀ s : State, s.drip.rangeEnd = false →
    (s.drip.dstPend = 0 → calSeconds s.drip.live + 1 < calEnd → ∃ t, exec .calSecondCarry s = .next t ∧
      t.drip.live = calOfSeconds (calSeconds s.drip.live + 1) ∧ t.drip.sub = 0 ∧ t.drip.valid = s.drip.valid) ∧
    (s.drip.dstPend = 1 → calSeconds s.drip.live + 1 < calEnd → ∃ t, exec .calSecondCarry s = .next t ∧
      t.drip.live = calOfSeconds (calSeconds s.drip.live + 1 + 3600) ∧ t.drip.dst = true ∧ t.drip.staged = none) ∧
    (calEnd ≤ calSeconds s.drip.live + 1 → ∃ t, exec .calSecondCarry s = .next t ∧
      t.drip.rangeEnd = true ∧ t.drip.valid = false ∧ t.time.tb2.valid = false)) ∧
  (∀ s : State, s.drip.cd0 = true → ∃ t, exec .cd0Loss s = .next t ∧ t.drip.valid = false ∧ t.drip.cd0 = false ∧
    t.time.tb2.valid = false) ∧
  (∀ s : State, s.ready = true → s.time.running = true → s.pn P.CAL_SYNC 0 = 1 → s.boundTo 0 = true →
    s.time.tb0State = 2 → s.localByTb0 / (fsPerS : Int) % 60 = 0 → 0 ≤ s.localByTb0 / (fsPerS : Int) →
    s.localByTb0 / (fsPerS : Int) < (calEnd : Int) → 10 * 1000000000000 < (s.localByTb0 - s.calFs).natAbs →
    ∃ t, exec .calSyncCheck s = .next t ∧ t.drip.live = calOfSeconds (s.localByTb0 / (fsPerS : Int)).toNat ∧
      t.drip.sub = 0 ∧ t.drip.valid = true) ∧
  (∀ (h : Hdr) (s : State), s.admitted dripEventsReadInfo h = true →
    exec (.dripEventsRead h) s = .next (s.answered dripEventsReadInfo h 0
      { data := ((s.drip.evts.take (h.room / 10)).map dripEvtBytes).flatten }))

/-- Parameter reads, writes, commits, discards and cancels have the effect their rules give, and one failing entry
of a write leaves every value as it was. (From R412, R428, R429, R430, R431, R434, R138, 13_host_commands) -/
def Obligations.ParameterCommandsComplete : Prop :=
  (∀ (h : Hdr) (flags : Nat) (q : PReq) (reqs : List PReq) (s : State), s.admitted paramReadInfo h = true → flags < 2 →
    firstBad ((s.take h).reqCode ((s.take h).viewEpoch ((q :: reqs).map (fun q => viewKinds q.id)).flatten)
      (flags % 2 == 1)) 0 (q :: reqs) = none →
    let data := le 8 ((s.take h).viewEpoch ((q :: reqs).map (fun q => viewKinds q.id)).flatten) ++
      ((q :: reqs).map ((s.take h).reqReply ((s.take h).viewEpoch ((q :: reqs).map (fun q => viewKinds q.id)).flatten)
        (flags % 2 == 1))).flatten
    data.length ≤ h.room →
    exec (.paramRead h flags (q :: reqs)) s = .next ((s.answered paramReadInfo h
      (paramSubject (reqs.length + 1) q.id q.index q.count) { data := data }).grpRead (q :: reqs))) ∧
  (∀ (h : Hdr) (w : PWr) (wrs : List PWr) (s : State), s.admitted paramWriteInfo h = true →
    (firstBad ((s.take h).wrCode h.src) 0 (w :: wrs) = none →
      exec (.paramWrite h (w :: wrs)) s = .next ((w :: wrs).foldl (fun a x => a.putWr h.src x)
        (s.answered paramWriteInfo h (paramSubject (wrs.length + 1) w.id w.index w.count) {}))) ∧
    (∀ k c, firstBad ((s.take h).wrCode h.src) 0 (w :: wrs) = some (k, c) →
      exec (.paramWrite h (w :: wrs)) s = .next (s.answered paramWriteInfo h
        (paramSubject (wrs.length + 1) w.id w.index w.count) { status := c, detail := k }))) ∧
  (∀ (h : Hdr) (w : PWr) (r : PSpec) (v : PVal) (s : State), s.admitted paramWriteInfo h = true →
    firstBad ((s.take h).wrCode h.src) 0 [w] = none → pspec w.id = some r → r.id = w.id → w.count = 1 → w.vals = [v] →
    r.group ≠ 0 → isBankId w.id = false →
    ∃ t, exec (.paramWrite h [w]) s = .next t ∧ t.par = s.par ∧
      t.host.staging = stagPut s.host.staging h.src r.group (instOf r w.index) (pkey w.id w.index) v ∧
      Silent { s with host.staging := t.host.staging } t) ∧
  (∀ (h : Hdr) (items : List (Nat × Nat)) (s : State), s.admitted commitInfo h = true → items ≠ [] →
    items.length ≤ 64 → firstBad ((s.take h).itemCode h.src) 0 items = none →
    ((s.take h).commitCode h.src items).2 = St.OK →
    let l := (items.map ((s.take h).itemInsts h.src)).flatten.eraseDups
    (∃ t, exec (.commit h items 0) s = .next t ∧ t.par = s.par ∧
      t.host.due = s.host.due ++ [{ accEpoch := s.epoch, insts := l, vals := s.instVals l }] ∧
      t.host.staging = s.host.staging.filter (fun e => !l.contains (e.group, e.index)) ∧
      Silent { s with host.due := t.host.due, host.staging := t.host.staging } t) ∧
    (∀ (n : U32) (e : Nat), s.nextHandle = some n → s.epoch < e → e ≤ s.epoch + 691200000 →
      ∃ t, exec (.commit h items e) s = .next t ∧ t.par = s.par ∧ t.host.staging = s.host.staging ∧
        t.host.pendCommits = s.host.pendCommits ++ [{ handle := n, due := e, insts := l, seq := s.host.accSeq }])) ∧
  (∀ (h : Hdr) (items : List (Nat × Nat)) (s : State), s.admitted discardInfo h = true → items ≠ [] →
    items.length ≤ 64 → firstBad ((s.take h).dropCode h.src) 0 items = none →
    ∃ t, exec (.discard h items) s = .next t ∧ t.par = s.par ∧
      t.host.staging = s.host.staging.filter (fun e =>
        !((items.map ((s.take h).itemInsts h.src)).flatten).contains (e.group, e.index)) ∧
      Silent { s with host.staging := t.host.staging } t) ∧
  (∀ (h : Hdr) (k : U32) (p : PendCommit) (s : State), s.admitted cancelInfo h = true → s.holds h.src k = true →
    s.hOpen k = true → s.cancelSolve k = none → p ∈ s.host.pendCommits → p.handle = k →
    exec (.cancel h k) s = .next ((s.answered cancelInfo h k.toNat {}).cancelCommit k))

/-- Snapshots and mirrors open, copy and close as their rules say. (From R439, R440, R441, R442, 13_host_commands) -/
def Obligations.ViewsComplete : Prop :=
  (∀ (h : Hdr) (ms : List BlkMember) (addr : U64) (len : Nat) (n : U32) (s : State),
    s.admitted snapshotInfo h = true → (s.take h).membersCode ms = St.OK → s.nextHandle = some n →
    ((s.take h).block 0xFF 0#32 ((s.take h).viewEpoch (kindsOf ms)) none ms).length ≤ len →
    ((s.take h).block 0xFF 0#32 ((s.take h).viewEpoch (kindsOf ms)) none ms).length ≤ 268435456 →
    s.host.snaps.length < 4 →
    ∃ t x, exec (.snapshot h ms addr len) s = .next t ∧ t.host.snaps = s.host.snaps ++ [x] ∧
      x.handle = n ∧ x.members = ms ∧ x.addr = addr ∧ x.len = len ∧ x.view = s.viewEpoch (kindsOf ms) ∧
      Silent { s with host.snaps := t.host.snaps, host.handles := t.host.handles, host.freeList := t.host.freeList } t) ∧
  (∀ (h : Hdr) (n : Nat) (ms : List BlkMember) (period slots : Nat) (base : U64) (s : State),
    s.admitted mirrorOpenInfo h = true → n ≤ 15 → period % 8 = 0 → 80 ≤ period → period ≤ 480000 → 2 ≤ slots →
    slots ≤ 16 → (s.take h).membersCode ms = St.OK → (s.mirror n).isOpen = false →
    let len := ((s.take h).block n 0#32 ((s.take h).viewEpoch (kindsOf ms)) none ms).length
    s.mirrorLoad n + ((len * 8000 : Nat) : Rat) / ((period : Nat) : Rat) ≤ 800000000 →
    exec (.mirrorOpen h n ms period slots base) s = .next ((s.answered mirrorOpenInfo h n {}).setMirror n
      { isOpen := true, owner := h.src, members := ms, period := period, slots := slots, base := base
        blockLen := len })) ∧
  (∀ (h : Hdr) (n : Nat) (s : State), s.admitted mirrorCloseInfo h = true → n ≤ 15 → (s.mirror n).owner = h.src →
    exec (.mirrorClose h n) s = .next ((s.answered mirrorCloseInfo h n {}).setMirror n
      { s.mirror n with isOpen := false })) ∧
  (∀ (k : U32) (x : Snap) (s : State), s.host.snaps.find? (fun y => y.handle == k) = some x →
    ((x.planId = none ∨ ∃ id, x.planId = some id ∧ s.planHeld id = true) →
      exec (.snapshotDone k) s = .next (({ s with host.snaps := s.host.snaps.filter (fun y => y.handle != k)
                                                  out := .hostMem x.addr x.body :: s.out } : State).complete k St.OK 0
        (le 8 x.view))) ∧
    (∀ id, x.planId = some id → s.planHeld id = false →
      exec (.snapshotDone k) s = .next (({ s with host.snaps := s.host.snaps.filter (fun y => y.handle != k) } : State).complete
        k St.SNAPSHOT_TORN 0 []))) ∧
  (∀ (n : Nat) (s : State), n < 16 → s.ready = true → s.time.running = true → (s.mirror n).isOpen = true →
    0 < (s.mirror n).period → s.epoch % (s.mirror n).period = 0 →
    let m := s.mirror n
    let view := s.viewEpoch (kindsOf m.members)
    let b := s.block n (m.blockSeq + 1) view (s.mirrorGap m view) m.members
    let at' := m.base + BitVec.ofNat 64 (16 + (m.blockSeq + 1).toNat % max 1 m.slots * m.blockLen)
    (m.blocks = 0 ∨ m.lastEpoch < view) → b.length ≤ m.blockLen →
    (m.blocks ≠ 0 → s.freshWord.getLsbD 0 = true →
      exec (.mirrorBlockWrite n) s = .next { s with
        host.mirrors := tset s.host.mirrors n { m with skipped := m.skipped + 1 }, free := s.free + 1 }) ∧
    ((m.blocks = 0 ∨ s.freshWord.getLsbD 0 = false) →
     exec (.mirrorBlockWrite n) s = .next { s with
      host.mirrors := tset s.host.mirrors n { m with blockSeq := m.blockSeq + 1, blocks := m.blocks + 1, lastEpoch := view }
      free := if m.blocks = 0 then s.free else s.free + 1
      out := .hostMem m.base (le 4 (m.blockSeq + 1).toNat) ::
        .hostMem (at' + BitVec.ofNat 64 (b.length - 16)) (b.drop (b.length - 16)) ::
        .hostMem (at' + 8) ((b.take (b.length - 16)).drop 8) :: .hostMem at' (b.take 8) :: s.out })) ∧
  (∀ (n : Nat) (s : State), (s.mirror n).isOpen = false → exec (.mirrorBlockWrite n) s = .next s)

/-- Due commits replace the committed values in their order of acceptance at order 3, and a pending commit at its
epoch applies or returns to staging. (From R22, R431, R432, 13_host_commands) -/
def Obligations.CommitsTakeEffect : Prop :=
  (∀ (s : State), s.ready = true → s.time.running = true → s.order ≤ 3 → s.dueNow ≠ [] →
    ∃ t, exec .commitApply s = .next t ∧
      t.par = { s.par with vals := s.dueNow.foldl (fun v d => tjoin v d.vals) s.par.vals } ∧
      t.host.due = s.host.due.filter (fun d => !decide (d.accEpoch < s.epoch)) ∧
      t.host.pendCommits = s.host.pendCommits ∧ t.host.staging = s.host.staging) ∧
  (∀ (k : U32) (p : PendCommit) (s : State), s.host.pendCommits.find? (fun p => p.handle == k) = some p →
    s.ready = true → s.time.running = true → s.order ≤ 3 → p.due ≤ s.epoch →
    let u := ((s.atOrder 3).auditApplied 0).applyDue
    (u.pendCode p = St.OK →
      ∃ t, exec (.pendingCommitDue k) s = .next t ∧
        t.par = { s.par with
          vals := tjoin (s.dueNow.foldl (fun v d => tjoin v d.vals) s.par.vals) (s.instVals p.insts) } ∧
        t.host.pendCommits = s.host.pendCommits.filter (fun q => q.handle != p.handle) ∧
        t.host.staging = s.host.staging.filter (fun e => !p.insts.contains (e.group, e.index))) ∧
    (u.pendCode p ≠ St.OK →
      ∃ t, exec (.pendingCommitDue k) s = .next t ∧
        t.par = { s.par with vals := s.dueNow.foldl (fun v d => tjoin v d.vals) s.par.vals } ∧
        t.host.pendCommits = s.host.pendCommits.filter (fun q => q.handle != p.handle) ∧
        t.host.staging = s.host.staging)) ∧
  (∀ (k : U32) (s : State), 3 < s.order → exec .commitApply s = .next s ∧ exec (.pendingCommitDue k) s = .next s)

/-- The time commands, IEEE 1588 messages and pulses set the bases, the master selection and the pulse lands as
their rules say. (From R386, R391, R393, R395, R396, R397, R403, 12_ports_time) -/
def Obligations.TimeBasesComplete : Prop :=
  (∀ (h : Hdr) (ns : Nat) (s : State), s.admitted timeSetInfo h = true →
    ∃ t, exec (.timeSet h ns) s = .next t ∧ Silent { s with time := t.time } t ∧
      t.time = { s.time with
        timeSet := true
        tb0.fs := if s.pn P.TIME_SOURCE 0 = 1 ∧ s.time.tb0State < 2 then ns * 1000000 else s.time.tb0.fs }) ∧
  (∀ (h : Hdr) (ns : Nat) (s : State), s.admitted timeTestInfo h = true →
    ∃ t, exec (.timeTest h ns) s = .next t ∧
      Silent { s with time.tb3 := { fs := ns * 1000000, valid := true, freq := s.time.tb1.freq } } t) ∧
  (∀ (m : PtpMsg) (s : State), s.ready = true → m.port < 4 → s.pn P.MACSEC_MODE m.port ≠ 0 → m.secured = false →
    (m.kind = 0 ∨ m.kind = 11) →
    exec (.ptpMessageRx m) s =
      .next (s.setPort m.port { s.port m.port with macsecFailed := (s.port m.port).macsecFailed + 1 })) ∧
  (∀ (m : PtpMsg) (s : State), s.ptpUnsecured m = false → s.ptpHere m = true → m.kind = 0 →
    s.time.master = some m.source →
    let fs := ((m.masterNs - ptpOrigin * 1000000000) * 1000000)
    exec (.ptpMessageRx m) s = .next (s.tb0Measured m.offsetNs m.freq fs) ∧
    (s.time.tb0State < 2 →
      ∃ t, exec (.ptpMessageRx m) s = .next t ∧ t = { s with time := t.time } ∧ t.time.tb0State = 1 ∧
        t.time.tb0.fs = fs ∧ t.time.tb0.freq = clampFreq m.freq ∧ t.time.tb0Offset = m.offsetNs ∧
        t.time.lastSync = s.epoch) ∧
    (s.time.tb0State = 2 → s.pn P.TIME_OFFSET_LIMIT_NS 0 < m.offsetNs.natAbs →
      exec (.ptpMessageRx m) s = .next { s with
        time.tb0Offset := m.offsetNs, time.lastSync := s.epoch
        time.outliers := s.time.outliers + 1, time.overLimit := s.time.overLimit + 1 }) ∧
    (s.time.tb0State = 2 → m.offsetNs.natAbs ≤ s.pn P.TIME_OFFSET_LIMIT_NS 0 →
      exec (.ptpMessageRx m) s = .next { s with
        time.tb0Offset := m.offsetNs, time.lastSync := s.epoch
        time.tb0.freq := clampFreq m.freq, time.overLimit := 0 })) ∧
  (∀ (m : PtpMsg) (s : State), s.ptpUnsecured m = false → s.ptpHere m = true → m.kind = 11 →
    ((s.time.master = none ∨ s.time.master = some m.source ∨ lexLt m.ds s.time.masterDs = true) →
      ∃ t, exec (.ptpMessageRx m) s = .next t ∧ t = { s with time := t.time } ∧ t.time.master = some m.source ∧
        t.time.masterDs = m.ds ∧ t.time.lastAnnounce = s.epoch ∧ t.time.utcOffset = m.utcOffset ∧
        t.time.utcFromMaster = m.utcValid) ∧
    (∀ x, s.time.master = some x → x ≠ m.source → lexLt m.ds s.time.masterDs = false →
      exec (.ptpMessageRx m) s = .next s)) ∧
  (∀ (s : State), s.time.master.isSome = true → s.time.lastAnnounce + 24000 ≤ s.epoch →
    exec .announceReceiptTimeout s = .next { s with
      time.master := none, time.masterDs := [], time.gmId := 0#64, time.stepsRemoved := 0
      time.utcFromMaster := false, time.leapPend := 0 }) ∧
  (∀ (port : Nat) (s : State), s.ready = true → port < 4 → (s.port port).link = true → (s.port port).mode = 2 →
    s.time.running = true → s.isStandby = false →
    ∃ t, exec (.ptpMessageTx port 0) s = .next t ∧ t.time = { s.time with ptpSeq := s.time.ptpSeq + 1 } ∧
      t.out = .frame port 0x88F7 0x011B19000000#48 (s.ptpBytes port 0) :: s.out ∧
      t = { s with net := t.net, time := t.time, out := t.out }) ∧
  (∀ (off freq : Int) (s : State), s.ready = true → s.pn P.TIME_SOURCE 0 = 1 → s.time.timeSet = true →
    s.vioGood 2 = true → s.time.tb0State < 2 →
    ∃ t, exec (.ppsInEdge off freq) s = .next t ∧ t = { s with time := t.time } ∧ t.time.tb0State = 1 ∧
      t.time.tb0.fs = ((s.time.tb0.fs : Int) - off * 1000000).toNat ∧ t.time.tb0.freq = clampFreq freq) ∧
  (∀ (s : State), s.ready = true → s.outBase.2 = true → s.outBase.1 / fsPerS ≠ s.time.ppsSeconds →
    s.vioGood 2 = true →
    exec .ppsOutPulse s = .next { s with
      time.ppsSeconds := s.outBase.1 / fsPerS, time.ppsHigh := true, out := .pin "PPS_OUT" true :: s.out }) ∧
  (∀ (n : Nat) (s : State), s.time.lockFrom = some n → s.ready = true → s.time.tb0State = 1 →
    n + s.pn P.TIME_LOCK_S 0 * 1000000000 ≤ s.time.tb0.fs / 1000000 →
    (s.pn P.TIME_SEL_EPOCH 0 ≠ 0 →
      exec .tb0Lock s = .next { s with time.tb0State := 2, time.tb0.valid := true, time.overLimit := 0 }) ∧
    (s.pn P.TIME_SEL_EPOCH 0 = 0 → s.time.running = true → s.time.bound ≠ some 0 → s.time.merging = none →
      exec .tb0Lock s = .next { s with
        time.tb0State := 2, time.tb0.valid := true, time.overLimit := 0
        time.mergeWaiting := true, time.mergeTarget := 0 }) ∧
    (s.pn P.TIME_SEL_EPOCH 0 = 0 → s.time.running = false →
      ∃ t, exec .tb0Lock s = .next t ∧ t.time.running = true ∧ t.time.bound = some 0 ∧ t.time.t0 = s.time.tb0.fs ∧
        t.epoch = s.time.tb0.fs / 125000000000)) ∧
  (∀ (s : State), s.ready = true → s.time.running = true → s.time.utcFromMaster = true → s.time.leapPend ≠ 0 →
    (((s.time.t0 / fsPerS : Nat) : Int) - s.time.utcOffset - s.time.leapPend) % 86400 = 0 →
    ∃ t, exec .leapSecond s = .next t ∧ t = { s with time := t.time } ∧
      t.time.utcOffset = s.time.utcOffset + s.time.leapPend ∧ t.time.leapPend = 0 ∧ t.time.t0 = s.time.t0 ∧
      t.epoch = s.epoch)

/-- A tick moves the epoch on by one, T0 to that multiple of 125,000 ns, and RT while the program runs; without a
running clock it does nothing. (From R20, R264, R394, R524, 12_ports_time, 08_cyclic_programs) -/
def Obligations.TickAdvancesTheEpoch : Prop :=
  (∀ (obs : TickIn) (s : State), s.time.running = true → s.rst.asserted = false → s.overdue = false →
    ∃ t, exec (.tick obs) s = .next t ∧ t.epoch = s.epoch + 1 ∧ t.time.t0 = (s.epoch + 1) * 125000000000 ∧
      t.time.running = true ∧ t.prog.run.mode = s.prog.run.mode ∧
      (((s.tickTime.tickSpeed.tickField obs).tickOutputs.canTick.tickPair).live = true → s.tickTime.tickSpeed.clocked = true →
        t.prog.run.rt = (if s.prog.run.mode = 2 then s.prog.run.rt + 1 else s.prog.run.rt) ∧
        t.perc.freeze = s.perc.freezeNext.getD s.perc.freeze ∧ t.perc.freezeNext = none)) ∧
  (∀ (obs : TickIn) (s : State), (s.time.running = false ∨ s.rst.asserted = true ∨ s.overdue = true) →
    exec (.tick obs) s = .next s)

/-- The epoch clock starts, leaves TB0, merges and binds as its rules say, and never jumps in doing so. (From R394,
R398, R399, R400, R401, R402, 12_ports_time) -/
def Obligations.EpochClockComplete : Prop :=
  (∀ (s : State), s.ready = true → s.time.startWait = true → s.time.running = false → s.pn P.TIME_SEL_EPOCH 0 = 0 →
    s.time.tb0State ≠ 2 →
    (s.time.tb2.valid = true → ∃ t, exec .startWaitExpire s = .next t ∧ t.time.running = true ∧ t.time.bound = some 2 ∧
      t.time.t0 = s.time.tb2.fs ∧ t.epoch = s.time.tb2.fs / 125000000000 ∧ t.time.startWait = false) ∧
    (s.time.tb2.valid = false →
      exec .startWaitExpire s = .next { s with time.startWait := false, time.noBase := true })) ∧
  (∀ (s : State), s.ready = true → s.time.tb0State = 2 → s.syncLost = true → s.time.merging = none →
    (s.time.bound = some 0 → ∃ t, exec .tb0SyncLoss s = .next t ∧ t = { s with time := t.time } ∧ t.time.tb0State = 3 ∧
      t.time.holdFrom = s.epoch ∧ t.time.bound = some 1 ∧ t.time.t0 = s.time.t0 ∧ t.time.tb1.fs = s.time.t0 ∧
      t.time.merging = none) ∧
    (s.time.bound ≠ some 0 → ∃ t, exec .tb0SyncLoss s = .next t ∧ t = { s with time := t.time } ∧ t.time.tb0State = 3 ∧
      t.time.holdFrom = s.epoch ∧ t.time.bound = s.time.bound ∧ t.time.t0 = s.time.t0)) ∧
  (∀ (s : State), s.ready = true → s.time.running = true → s.time.mergeWaiting = true → s.order ≤ 1 →
    s.boundTo s.time.mergeTarget = false →
    (s.slewMax < s.baseGap s.time.mergeTarget →
      exec .mergeStart s = .next { s with time.mergeRefused := true, order := max s.order 1, edge := none }) ∧
    (s.baseGap s.time.mergeTarget ≤ s.slewMax →
      ∃ t, exec .mergeStart s = .next t ∧ t = { s with time := t.time, order := max s.order 1, edge := none } ∧
        t.time.merging = some s.time.mergeTarget ∧ t.time.mergeWaiting = false ∧ t.time.mergeRefused = false ∧
        t.time.t0 = s.time.t0 ∧ t.time.bound = s.time.bound)) ∧
  (∀ (b : Nat) (s : State), s.time.merging = some b → s.ready = true → s.time.running = true → s.order ≤ 1 →
    (s.baseGap b ≤ 8 * 1000000 →
      ∃ t, exec .mergeComplete s = .next t ∧ t.time.merging = none ∧ t.time.bound = some b ∧ t.time.t0 = s.time.t0 ∧
        t.epoch = s.epoch ∧ t.time.mergeRemain = 0 ∧
        t.time.island = ({ s with time.merging := none, time.bound := some b } : State).isIsland) ∧
    (8 * 1000000 < s.baseGap b → exec .mergeComplete s = .next s))

/-- Frames on the ring, uplink and host paths are counted, checked, forwarded, remembered and delivered as their
rules say. (From R377, R379, R380, R381, R386, R390, R444, 12_ports_time) -/
def Obligations.NetworkFramesComplete : Prop :=
  (∀ (f : NetFrame) (s : State), s.ready = true → s.netPort f.port = true → (s.port f.port).link = true →
    (1600 < f.len → exec (.ringFrameRx f) s =
      .next (s.setPort f.port { s.port f.port with oversize := (s.port f.port).oversize + 1 })) ∧
    (64 ≤ f.len → f.len ≤ 1600 → f.taken = false → exec (.ringFrameRx f) s =
      .next (s.setPort f.port { s.port f.port with rxDropped := (s.port f.port).rxDropped + 1 })) ∧
    (64 ≤ f.len → f.len ≤ 1600 → f.taken = true → f.pause = false → s.secured f.port = true → s.secOk f = false →
      ∃ t, exec (.ringFrameRx f) s = .next t ∧ t = { s with net := t.net } ∧
        t.port f.port = { s.port f.port with rxFrames := (s.port f.port).rxFrames + 1
                                             macsecFailed := (s.port f.port).macsecFailed + 1 })) ∧
  (∀ (f : NetFrame) (seq : Nat) (s : State), s.ready = true → f.port < 2 → (s.port f.port).mode = 1 →
    (s.port f.port).link = true → 64 ≤ f.len → f.len ≤ 1600 → f.taken = true → f.pause = false →
    s.secured f.port = false → s.secured (1 - f.port) = false → (s.port (1 - f.port)).mode = 1 →
    (s.port (1 - f.port)).link = true → f.hsr = some seq → f.src ≠ s.net.mac → f.ethertype ≠ 0x88FB →
    ∃ t, exec (.ringFrameRx f) s = .next t ∧
      t.out = .frame (1 - f.port) f.ethertype f.dst f.data :: s.out ∧
      (s.dupLive f.src seq = true →
        (t.port f.port).hsrDup = (s.port f.port).hsrDup + 1 ∧
        t.net.dups = s.net.dups.map (fun d => if d.src = f.src && d.seq = seq then { d with dup := true } else d)) ∧
      (s.dupLive f.src seq = false →
        t.net.dups = dupRoom (s.net.dups.filter (fun d => decide (s.epoch < d.seen + 3200))) f.port f.src ++
          [{ src := f.src, seq := seq, seen := s.epoch, port := f.port }])) ∧
  (∀ (s : State), s.ready = true → (s.port 0).mode = 1 →
    ∃ t, exec .hsrSupervisionTx s = .next t ∧ t.net.supSeq = (s.net.supSeq + 1) % 65536 ∧
      t.net.hsrSeq = (s.net.hsrSeq + 1) % 65536 ∧ t = { s with net := t.net, out := t.out }) ∧
  (∀ (f : NetFrame) (ch code : Nat) (d : RxDesc) (ds : List RxDesc) (s : State), s.ready = true →
    s.netPort f.port = true → (s.port f.port).mode ≠ 0 → (s.port f.port).link = true →
    (s.consumes f.ethertype = false ∨ (f.ethertype = 0x88F7 ∧ s.pn P.PTP_MIRROR 0 = 1)) →
    s.rxChannel f.port = some (ch, code) →
    ((s.fch ch).rxHead ≠ (s.fch ch).rxTail →
      ∃ t, exec (.hostFrameRx f (d :: ds)) s = .next t ∧ OutMsg.hostMem d.addr (f.data.take d.len) ∈ t.out ∧
        t.fch ch = { s.fch ch with rxHead := ((s.fch ch).rxHead + 1) % Config.fcEntries (s.fch ch).fcCfg false }) ∧
    exec (.hostFrameRx f []) s = .next (s.setFch ch { s.fch ch with dropped := (s.fch ch).dropped + 1 })) ∧
  (∀ (port : Nat) (s : State), port < 6 → 8 ≤ s.rst.stage → s.rst.asserted = false →
    exec (.portLinkChange port true) s = .next (s.setPort port { s.port port with link := true }) ∧
    ∃ t, exec (.portLinkChange port false) s = .next t ∧ t.port port = { s.port port with link := false } ∧
      ∀ q, q ≠ port → t.port q = s.port q)

/-- Keys are installed, switched, cleared, removed, listed, checked and destroyed, and the audit log read, as their
rules say. (From R454, R457, R458, R459, R461, R462, R464, R466, R475, 14_keys_roles) -/
def Obligations.KeyStoreComplete : Prop :=
  (∀ (h : Hdr) (a : KeyArg) (n : U32) (s : State), s.admitted keyInstallInfo h = true → keyFieldsOk a s.epoch = true →
    s.installOpen a.label = false → s.switchPending a.label = false → s.entriesFull a = false → s.installAgrees h.src a = true →
    s.nextHandle = some n →
    ∃ t it c, exec (.keyInstall h a) s = .next t ∧
      t.key.ops = s.key.ops ++ [{ handle := n, label := a.label, check := a.check, testCheck := a.testCheck }] ∧
      t.keyItem a.label = some it ∧ it.installing = true ∧ curCopy it = (s.keyItem a.label).bind curCopy ∧
      prevCopy it = some c ∧ c.key = (s.installKey h.src a).getD [] ∧ c.keyType = a.keyType ∧ c.dest = a.dest ∧
      c.role = a.role ∧ c.attr = a.attr ∧ c.gen = a.gen ∧ c.switchEpoch = a.switchEpoch ∧ t.key.kekValid = true) ∧
  (∀ (k : U32) (o : KeyOp) (it : KeyItem) (c : KeyCopy) (s : State),
    s.key.ops.find? (fun o => o.handle == k && !o.flipped) = some o → s.keyItem o.label = some it → prevCopy it = some c →
    (s.installChecks o c = true → ∃ t jt d, exec (.keyInstallDone k true) s = .next t ∧
      t.keyItem o.label = some jt ∧ curCopy jt = some d ∧ d.key = c.key ∧ d.kcv = o.check ∧ jt.headSeq = c.seq ∧
      jt.installing = false ∧ jt.bad = false ∧ jt.switchDone = decide (c.switchEpoch ≤ s.epoch) ∧
      prevCopy jt = curCopy it) ∧
    ((curCopy it).isSome = true → ∃ t, exec (.keyInstallDone k false) s = .next t ∧
      t.keyItem o.label = some { setPrev it none with installing := false } ∧
      t.key.ops = s.key.ops.filter (fun p => p.handle != o.handle))) ∧
  (∀ (l : U64) (it : KeyItem) (c : KeyCopy) (s : State), s.keyItem l = some it → curCopy it = some c →
    (it.switchDone = false → c.switchEpoch ≤ s.epoch → ∃ t, exec (.keySwitchEpoch l) s = .next t ∧
      t.keyItem l = some { it with switchDone := true, overlapS := s.pn P.KEY_OVERLAP_S 0 }) ∧
    (it.switchDone = true → it.installing = false → (prevCopy it).isSome = true → (s.govAttr l).getLsbD 1 = false →
      c.switchEpoch + it.overlapS * 8000 ≤ s.epoch →
      ∃ t, exec (.keyReceiveWindowEnd l) s = .next t ∧ t.keyItem l = some (setPrev it none))) ∧
  (∀ (h : Hdr) (l : U64) (s : State), s.admitted keyRemoveInfo h = true → lblOk l = true → (s.keyItem l).isSome = true →
    s.installOpen l = false → s.labelUsed l = false → s.hasDerived l = false →
    ∃ t, exec (.keyRemove h l) s = .next t ∧
      t.key.slots = (if lblDepth l = 0 then tdel s.key.slots (lblSlot l) else s.key.slots) ∧
      t.key.entries = (if lblDepth l = 0 then s.key.entries else tdel s.key.entries l.toNat)) ∧
  (∀ (h : Hdr) (s : State), s.admitted keyListInfo h = true →
    exec (.keyList h) s = .next (s.answered keyListInfo h 0
      { data := ((s.keyItems.take (h.room / 32)).map (fun x => keyRecord x.1 x.2)).flatten })) ∧
  (∀ (h : Hdr) (first count : Nat) (s : State), s.admitted auditReadInfo h = true → 64 ≤ h.room →
    let start := if first = 0 || first < s.auditOldest then s.auditOldest else min first s.aud.next
    exec (.auditRead h first count) s = .next (s.answered auditReadInfo h first
      { data := leRec [(8, s.auditOldest), (8, s.aud.next - 1)] ++ padTo 48 (s.hashBefore start) ++
          ((List.range (min (min count ((h.room - 64) / 128)) (s.aud.next - start))).map
            (fun k => auditRecBytes (s.auditRec (start + k)))).flatten })) ∧
  (∀ (h : Hdr) (s : State), s.admitted tamperAckInfo h = true →
    ∃ t, exec (.tamperAck h 0#3) s = .next t ∧ Silent { s with key.tamLatched := 0 } t) ∧
  (∀ (l : U64) (it : KeyItem) (s : State), s.ready = true →
    s.key.lastScrub + s.pn P.KEY_SCRUB_H 0 * 3600 * 8000 ≤ s.epoch → s.keyItem l = some it →
    ∃ t, exec (.keyScrub [l] []) s = .next t ∧ t.keyItem l = some { it with bad := true } ∧ t.key.lastScrub = s.epoch ∧
      t.key.slotsBad = s.key.slotsBad ||| (1#64 <<< lblSlot l)) ∧
  (∀ (mask : BitVec 3) (s : State), mask &&& BitVec.ofNat 3 (s.pn P.TAMPER_EN 0) ≠ 0#3 →
    ∃ t, exec (.tamperDetect mask) s = .next t ∧ t.key.kek = 0#256 ∧ t.key.kekValid = false ∧ t.key.enginesClear = true ∧
      t.key.fuseClear = true ∧ t.key.ops = [] ∧ t.key.tamLatched = 1 ∧
      t.key.tamMask = (mask &&& BitVec.ofNat 3 (s.pn P.TAMPER_EN 0)).toNat ∧ ∀ y ∈ allSrcs, t.bindOf y = none)

/-- A setup exchange binds a source, a failed proof counts, and bindings, lockouts and idle sessions end as their
rules say. (From R466, R468, R469, R470, R471, 14_keys_roles) -/
def Obligations.BindingsComplete : Prop :=
  (∀ (a : SetupArg) (nonce : List Byte) (s : State), s.setupTakeable a = true → 1 ≤ a.role → a.role ≤ 3 →
    (s.epoch < (s.setupOf a).lockUntil →
      exec (.setupRequest a nonce) s = .next ((s.takeSetup a).setupReply a St.BUSY [])) ∧
    ((s.setupOf a).lockUntil ≤ s.epoch → ∀ n, a.src = .queue n →
      ∃ t, exec (.setupRequest a nonce) s = .next t ∧ Silent { s with key.setups := t.key.setups } t ∧
        t.setupOf a = { s.setupOf a with
          nonceM := some (padTo 32 nonce), role := roleOfCode a.role, label := a.label }) ∧
    ((s.setupOf a).lockUntil ≤ s.epoch → ∀ m n, a.src = .session m → s.freeSession = some n →
      ∃ t, exec (.setupRequest a nonce) s = .next t ∧ Silent { s with key.setups := t.key.setups } t ∧
        t.setupOf a = { s.setupOf a with
          nonceM := some (padTo 32 nonce), role := roleOfCode a.role, label := a.label, sess := n })) ∧
  (∀ (a : SetupArg) (nonceH proofH sk : List Byte) (s : State), s.setupTakeable a = true →
    (s.setupOf a).lockUntil ≤ s.epoch → s.proofOk a nonceH proofH = some sk →
    ∃ t, exec (.setupProof a nonceH proofH) s = .next t ∧
      t.bindOf (SetupArg_src a (s.setupOf a)) =
        some { role := roleOfCode a.role, label := a.label, sk := sk, epoch := s.epoch }) ∧
  (∀ (a : SetupArg) (nonceH proofH : List Byte) (s : State), s.setupTakeable a = true →
    (s.setupOf a).lockUntil ≤ s.epoch → s.proofOk a nonceH proofH = none →
    ∃ t, exec (.setupProof a nonceH proofH) s = .next t ∧ Silent { s with key.setups := t.key.setups } t ∧
      (t.setupOf a).nonceM = none ∧
      (t.setupOf a).fails = (s.setupOf a).fails.filter (fun e => decide (s.epoch < e + 480000)) ++ [s.epoch] ∧
      (4 ≤ ((s.setupOf a).fails.filter (fun e => decide (s.epoch < e + 480000))).length →
        (t.setupOf a).lockUntil = s.epoch + s.pn P.BIND_LOCKOUT_S 0 * 8000) ∧
      ∀ y, t.bindOf y = s.bindOf y) ∧
  (∀ (a : SetupArg) (s : State), s.setupTakeable a = true → s.endFrom a = true →
    ∃ t, exec (.setupEnd a) s = .next t ∧ t.bindOf a.src = none) ∧
  (∀ (src : Src) (mac : BitVec 48) (s : State), (s.setupOf { src := src, mac := mac }).lockUntil ≠ 0 →
    (s.setupOf { src := src, mac := mac }).lockUntil ≤ s.epoch →
    exec (.bindLockoutEnd src mac) s = .next (s.setSetup { src := src, mac := mac }
      { s.setupOf { src := src, mac := mac } with lockUntil := 0, fails := [] })) ∧
  (∀ (n : Nat) (s : State), n < 4 → (s.sess n).isOpen = true →
    (s.sess n).lastEpoch + (s.sess n).idleS * 8000 ≤ s.epoch →
    ∃ t, exec (.mgmtIdleTimeout n) s = .next t ∧ t.bindOf (.session n) = none ∧ (t.sess n).isOpen = false) ∧
  (∀ (h : Hdr) (opcode : Nat) (s : State), 0x04F0 ≤ opcode → opcode ≤ 0x04FF → s.admitted (makerInfo opcode) h = true →
    s.installerHeld = true → s.prog.run.mode ≤ 1 →
    exec (.makerCommand h opcode) s =
      .next (s.answered (makerInfo opcode) h 0 { data := Config.makerData opcode }))

/-- Outputs trip, shed, are tested and acknowledged, follow their PWM period, and fall with the die link as their
rules say. (From R326, R327, R328, R329, R331, R336, R341, R343, 10_field_io) -/
def Obligations.FieldOutputsComplete : Prop :=
  (∀ (ch : Nat) (s : State), s.dieOn = true → ch < 32 → isOutMode (s.fio1 ch).mode = true →
    ((s.fio1 ch).driven = true → ∃ t, exec (.outputOverload ch) s = .next t ∧
      t = { s with fio := t.fio, pts := t.pts, edge := s.closeEdge.edge } ∧
      t.fio1 ch = { s.fio1 ch with latch := (s.fio1 ch).latch ||| 1#3, trips := (s.fio1 ch).trips + 1
                                   driven := false, duty := F32.zero }) ∧
    ((s.fio1 ch).latch.getLsbD 1 = false → ∃ t, exec (.outputThermal ch) s = .next t ∧
      t = { s with fio := t.fio, pts := t.pts, edge := s.closeEdge.edge } ∧
      t.fio1 ch = { s.fio1 ch with latch := (s.fio1 ch).latch ||| 2#3, trips := (s.fio1 ch).trips + 1
                                   driven := false, duty := F32.zero })) ∧
  (∀ (grp : Nat) (amps : List F32) (s : State), s.dieOn = true → grp < 4 →
    let cand := ((List.range 8).map (fun k => (8 * grp + k, amps.getD k F32.zero))).filter
      (fun x => isOutMode (s.fio1 x.1).mode && (s.fio1 x.1).driven)
    ((cand.map (fun x => x.2.rat)).sum ≤ 2 → exec (.groupLimitShed grp amps) s = .next s) ∧
    (∀ x, 2 < (cand.map (fun x => x.2.rat)).sum → shedPick cand = some x →
      exec (.groupLimitShed grp amps) s =
        .next ((s.trip x.1 2).shedLoop 7 (cand.filter (fun y => y.1 != x.1))))) ∧
  (∀ (h : Hdr) (chans : U32) (groups aouts : BitVec 8) (live : U32) (liveA : BitVec 8) (s : State),
    s.admitted fieldAckInfo h = true → groups.toNat < 16 → 6 ≤ h.room →
    ∃ t, exec (.fieldAck h chans groups aouts live liveA) s = .next t ∧ Silent { s with fio := t.fio } t ∧
      (∀ c, (tget t.fio.chans c).map (fun x => (x.latch, x.clearDue)) = (tget s.fio.chans c).map (fun x =>
        if chans.getLsbD c && !live.getLsbD c then (0#3, x.clearDue || x.latch != 0#3) else (x.latch, x.clearDue))) ∧
      (∀ g, (tget t.fio.groups g).map (fun x => (x.state, x.recoverDue)) = (tget s.fio.groups g).map (fun x =>
        if groups.getLsbD g && x.state == 4 then (0, true) else (x.state, x.recoverDue))) ∧
      (∀ a, (tget t.fio.aouts a).map (fun x => x.overload) = (tget s.fio.aouts a).map (fun x =>
        if aouts.getLsbD a && !liveA.getLsbD a then false else x.overload))) ∧
  (∀ (ch : Nat) (vOff vOn vfld amps : F32) (s : State), s.dieOn = true → ch < 32 → isOutMode (s.fio1 ch).mode = true →
    ((s.fio1 ch).driven = true → ((s.fio1 ch).mode ≠ 5 ∨ longOff (s.fio1 ch) = false) → exec (.outputDiagTest ch vOff vOn vfld amps) s =
      .next (s.setFio ch (onTest (s.fio1 ch) (s.pn P.OUT_DIAG_EN ch) (s.pn P.ON_OPEN_MA ch) (s.sharedMasked ch) amps))) ∧
    (((s.fio1 ch).driven = false ∨ ((s.fio1 ch).mode = 5 ∧ longOff (s.fio1 ch) = true)) → exec (.outputDiagTest ch vOff vOn vfld amps) s =
      .next (s.setFio ch (offTest (s.fio1 ch) (s.pn P.OUT_DIAG_EN ch) (s.sharedMasked ch) vOff vOn vfld)))) ∧
  (∀ (s : State), s.fio.maskUntil ≠ 0 → s.fio.maskUntil ≤ s.epoch →
    exec .sharedMaskEnd s = .next { s with fio.maskUntil := 0 }) ∧
  (∀ (ch : Nat) (s : State), s.dieOn = true → ch < 32 → (s.fio1 ch).mode = 5 →
    ∃ t, exec (.pwmPeriodBoundary ch) s = .next t ∧ t = { s with fio := t.fio } ∧
      (t.fio1 ch).pwmHz = s.pn P.PWM_FREQ_HZ ch ∧
      ((s.mayDrive = false ∨ grpCut (s.grp1 (grpOfCh ch)) = true ∨ (s.fio1 ch).latch ≠ 0#3 ∨ (s.fio1 ch).clearDue = true) →
        (t.fio1 ch).duty = F32.zero)) ∧
  (∀ (a : Nat) (p : Bool) (s : State), s.dieOn = true → a < 8 →
    ((s.aout1 a).range = 2 → (p = false ∨ bitOf (s.pn P.AOUT_DIAG_EN a) 0 = true) →
      exec (.aoutOpenLoad a p) s = .next (s.setAout a { s.aout1 a with openLoad := p })) ∧
    ((s.aout1 a).range = 1 → bitOf (s.pn P.AOUT_DIAG_EN a) 1 = true →
      exec (.aoutOverload a) s = .next (s.setAout a { s.aout1 a with overload := true, driven := F32.zero }))) ∧
  (∀ (s : State), s.dieOn = true →
    (s.fio.linkUp = true → 8 ≤ s.fio.linkMiss → ∃ t, exec .fieldLinkLoss s = .next t ∧ t.fio.linkUp = false ∧
      t.fio.linkLosses = s.fio.linkLosses + 1 ∧
      t.fio.chans = tmap s.fio.chans (fun _ x => { x with driven := false, duty := F32.zero, hasValue := false }) ∧
      t.fio.aouts = tmap s.fio.aouts (fun _ x => { x with driven := F32.zero, hasValue := false })) ∧
    (s.fio.linkUp = false → 8 ≤ s.fio.linkGood → ∃ t, exec .fieldLinkRestore s = .next t ∧ t.fio.linkUp = true ∧
      t.fio.chans = tmap s.fio.chans (fun _ x =>
        if isInMode x.mode then { x with k := 0, state := false, runUs := 0 } else x)))

/-- Group supplies warn, cut off and recover, and inputs are filtered, counted and lose validity as their rules say.
(From R321, R322, R323, R332, R333, R334, R335, 10_field_io) -/
def Obligations.FieldSuppliesComplete : Prop :=
  (∀ (grp : Nat) (v : F32) (s : State), s.dieOn = true → grp < 4 →
    (v.rat < s.pq P.GRP_WARN_V grp →
      exec (.supplyWarnCross grp true v) s = .next (s.setGrp grp { s.grp1 grp with warn := true })) ∧
    (s.pq P.GRP_WARN_V grp + 1/2 ≤ v.rat →
      exec (.supplyWarnCross grp false v) s = .next (s.setGrp grp { s.grp1 grp with warn := false })) ∧
    ((s.grp1 grp).cutoffBelow = false → v.rat < s.pq P.GRP_CUTOFF_V grp →
      ∃ t, exec (.supplyCutoff grp v) s = .next t ∧ t = { s with fio := t.fio } ∧
        t.grp1 grp = { s.grp1 grp with
          state := 2, cutoffBelow := true, cutoffs := (s.grp1 grp).cutoffs + 1, lastCutoff := s.epoch
          recoverDue := false, recovery := s.pn P.GRP_RECOVERY grp, holdoff := s.pn P.GRP_HOLDOFF_MS grp } ∧
        t.fio.chans = tmap s.fio.chans (fun c x =>
          if grpOfCh c = grp then { x with driven := false, duty := F32.zero } else x) ∧
        t.fio.aouts = tmap s.fio.aouts (fun a x => if grpOfAout a = grp then { x with driven := F32.zero } else x)) ∧
    ((s.grp1 grp).cutoffBelow = true → s.pq P.GRP_CUTOFF_V grp + 1/2 ≤ v.rat →
      exec (.supplyCutoffUp grp v) s = .next (s.setGrp grp { s.grp1 grp with
        cutoffBelow := false, holdFrom := s.epoch, state := if (s.grp1 grp).recovery = 1 then 3 else 4 })) ∧
    ((s.grp1 grp).state = 3 → (s.grp1 grp).holdFrom + 8 * (s.grp1 grp).holdoff ≤ s.epoch →
      exec (.supplyHoldoffEnd grp) s = .next (s.setGrp grp { s.grp1 grp with state := 0, recoverDue := true })) ∧
    ((s.grp1 grp).inputsValid = true → v.rat < s.pq P.GRP_VALID_V grp →
      exec (.inputValidityLoss grp v) s =
        .next ((s.setGrp grp { s.grp1 grp with inputsValid := false }).restartFilters (fun c => grpOfCh c == grp))) ∧
    ((s.grp1 grp).inputsValid = false → s.pq P.GRP_VALID_V grp + 1/2 ≤ v.rat →
      exec (.inputValidityRestore grp v) s =
        .next ((s.setGrp grp { s.grp1 grp with inputsValid := true }).restartFilters (fun c => grpOfCh c == grp)))) ∧
  (∀ (ch : Nat) (volts : F32) (time : Nat) (s : State), s.dieOn = true → ch < 32 → isInMode (s.fio1 ch).mode = true →
    (s.grp1 (grpOfCh ch)).inputsValid = true →
    let n := s.pn P.FIO_FILTER_US ch
    let raw := (inputSeen (s.fio1 ch).mode volts).getD (s.freshWord.getLsbD 0)
    ∃ t, exec (.filterCounterStep ch volts time) s = .next t ∧ t = { s with fio := t.fio, free := t.free } ∧
      (inputSeen (s.fio1 ch).mode volts ≠ none → t.free = s.free) ∧
      (n ≠ 0 → (t.fio1 ch).k = (if raw then min ((s.fio1 ch).k + 1) n else (s.fio1 ch).k - 1) ∧
        ((t.fio1 ch).k = n → (t.fio1 ch).state = true) ∧ ((t.fio1 ch).k = 0 → (t.fio1 ch).state = false)) ∧
      (n = 0 → (t.fio1 ch).state = raw) ∧
      (t.fio1 ch).count = (if (s.fio1 ch).mode = 4 ∧ (t.fio1 ch).state = true ∧ (s.fio1 ch).state = false
        then ((s.fio1 ch).count + 1) % 16777216 else (s.fio1 ch).count)) ∧
  (∀ (ain : Nat) (o : Bool) (s : State), s.dieOn = true → ain < 16 → (s.ain1 ain).range = 2 →
    exec (.shuntOpen ain o) s = .next (s.setAin ain { s.ain1 ain with shuntOpen := o }))

/-- A CAN frame is stored in the first buffer that matches, or counted, and the receive side of a channel follows
its rules. (From R354, R357, R358, R368, R369, R373, 11_can_channels) -/
def Obligations.CanReceptionComplete : Prop :=
  (∀ (ch : Nat) (f : CanFrame) (s : State), ch < 16 → canHears (s.canCh ch) = true → s.canFmtOn ch f.fmt = true →
    (∀ b, s.rxBuf ch f = some b → ∃ t, exec (.canFrameRx ch f false) s = .next t ∧
      (t.canBuf ch b).frame = some { f with data := f.data.take (s.bufN ch b 8) } ∧ (t.canBuf ch b).undecoded = true ∧
      (b = 64 → (t.canBuf ch b).hpFull = true) ∧
      (∀ d k, (d * 65 + k ≠ ch * 65 + b) → t.canBuf d k = s.canBuf d k)) ∧
    (s.rxBuf ch f = none → ∃ t, exec (.canFrameRx ch f false) s = .next t ∧
      (t.canCh ch).rxUnmatched = (s.canCh ch).rxUnmatched + 1 ∧ t.can.bufs = s.can.bufs) ∧
    (∃ t, exec (.canFrameRx ch f true) s = .next t ∧
      (t.canCh ch).remoteIgnored = (s.canCh ch).remoteIgnored + 1 ∧ t.can.bufs = s.can.bufs ∧ t.pts = s.pts)) ∧
  (∀ (ch inc : Nat) (s : State), ch < 16 → ((s.canCh ch).state = 1 ∨ (s.canCh ch).state = 2) →
    (s.canCh ch).integrating = false →
    exec (.canReceiveError ch inc) s =
      .next (s.setCanCh ch (canErrState { s.canCh ch with recErr := min 255 ((s.canCh ch).recErr + inc) }))) ∧
  (∀ (ch : Nat) (s : State), ch < 16 → (s.canCh ch).integrating = true →
    ((s.canCh ch).state = 1 ∨ (s.canCh ch).state = 2 ∨ (s.canCh ch).state = 4 ∨ (s.canCh ch).state = 5) →
    exec (.canBusIntegration ch) s = .next (s.setCanCh ch { s.canCh ch with integrating := false })) ∧
  (∀ (h : Hdr) (ch : Nat) (s : State), s.admitted canHpReadInfo h = true → ch < 16 → (s.hpReply ch).length ≤ h.room →
    exec (.canHpRead h ch) s = .next ((s.answered canHpReadInfo h ch { data := s.hpReply ch }).setCanBuf ch 64
      { s.canBuf ch 64 with hpFull := false }))

/-- Transmit buffers are queued, committed, end and are cancelled, and channels go bus-off and recover, as their
rules say. (From R362, R363, R364, R365, R366, R367, R369, R370, 11_can_channels) -/
def Obligations.CanTransmissionComplete : Prop :=
  (∀ (h : Hdr) (ch buf : Nat) (data : List Byte) (n : U32) (s : State), s.admitted canTransmitInfo h = true → ch < 16 →
    buf < 64 → s.bufN ch buf 0 = 2 → s.bufN ch buf 2 = 0 → data.length ≤ s.bufN ch buf 8 - s.trailerLen ch buf →
    (s.canBuf ch buf).pending = false → (s.canBuf ch buf).committed = false → s.nextHandle = some n →
    ∃ t, exec (.canTransmit h ch buf data) s = .next t ∧
      t.canBuf ch buf = { s.canBuf ch buf with
        handle := n, hostData := data, pending := true, elapsed := 0, timeout := 8 * s.pn P.CAN_TX_TIMEOUT_MS ch }) ∧
  (∀ (ch buf : Nat) (s : State), s.live = true → ch < 16 → buf < 64 → s.bufN ch buf 0 = 2 → s.bufN ch buf 2 = 2 →
    0 < s.bufN ch buf 11 → s.epoch % s.bufN ch buf 11 = s.bufN ch buf 12 →
    ((s.canBuf ch buf).cycAt = some s.epoch → exec (.canCyclicTrigger ch buf) s = .next s) ∧
    ((s.canBuf ch buf).cycAt ≠ some s.epoch → ∃ t, exec (.canCyclicTrigger ch buf) s = .next t ∧
      t.canBuf ch buf = { s.canBuf ch buf with
        cycAt := some s.epoch, pending := true, elapsed := 0, timeout := 8 * s.pn P.CAN_TX_TIMEOUT_MS ch })) ∧
  (∀ (ch buf : Nat) (s : State), ch < 16 → canSends (s.canCh ch) = true → s.busFree ch = true →
    s.nextTx ch = some buf →
    ∃ t, exec (.canCommitPoint ch buf) s = .next t ∧ (t.canBuf ch buf).committed = true ∧
      (t.canBuf ch buf).pending = false ∧
      t.out.head? = some (.can ch buf (s.canBody ch buf ++ s.canTrailer ch buf (s.canBody ch buf)))) ∧
  (∀ (ch buf inc ld : Nat) (s : State), ch < 16 → buf < 64 → (s.canBuf ch buf).committed = true →
    canSends (s.canCh ch) = true → s.tdcFails ch buf ld = false →
    (∃ t, exec (.canTxEnd ch buf true false inc ld) s = .next t ∧ (t.canBuf ch buf).outcome = 0 ∧
      (t.canBuf ch buf).committed = false ∧ (t.canCh ch).txErr = (s.canCh ch).txErr - 1) ∧
    ((s.canBuf ch buf).cancelReq = false → s.bufOneShot ch buf = false →
      exec (.canTxEnd ch buf false true inc ld) s =
        .next (s.setCanBuf ch buf { s.canBuf ch buf with committed := false, pending := true })) ∧
    (255 < min 256 ((s.canCh ch).txErr + inc) →
      ∃ t, exec (.canTxEnd ch buf false false inc ld) s = .next t ∧ (t.canCh ch).state = 3 ∧
        (t.canCh ch).busOffs = (s.canCh ch).busOffs + 1 ∧ (t.canCh ch).recWait = true)) ∧
  (∀ (ch buf : Nat) (s : State), ch < 16 → buf < 64 → (s.canBuf ch buf).pending = true →
    (s.canBuf ch buf).committed = false → s.bufOneShot ch buf = false →
    (s.canBuf ch buf).timeout ≤ (s.canBuf ch buf).elapsed → (s.canCh ch).state ≠ 3 →
    ∃ t, exec (.canTxTimeout ch buf) s = .next t ∧ (t.canBuf ch buf).outcome = 6 ∧ (t.canBuf ch buf).pending = false ∧
      (t.canBuf ch buf).handle = 0#32) ∧
  (∀ (h : Hdr) (ch buf : Nat) (s : State), s.admitted canBufCancelInfo h = true → ch < 16 → buf < 64 →
    s.bufN ch buf 0 = 2 →
    ((s.canBuf ch buf).committed = true → ∃ t, exec (.canBufCancel h ch buf) s = .next t ∧
      Silent { s with can := t.can } t ∧
      t.canBuf ch buf = { s.canBuf ch buf with cancelReq := true, pending := false }) ∧
    ((s.canBuf ch buf).committed = false → (s.canBuf ch buf).pending = true →
      ∃ t, exec (.canBufCancel h ch buf) s = .next t ∧ (t.canBuf ch buf).outcome = 1 ∧
        (t.canBuf ch buf).pending = false ∧ (t.canBuf ch buf).handle = 0#32)) ∧
  (∀ (ch : Nat) (s : State), ch < 16 → (s.canCh ch).state = 3 →
    ((s.canCh ch).holdUntil ≠ 0 → (s.canCh ch).holdUntil ≤ s.epoch →
      exec (.canBusoffHoldEnd ch) s = .next (s.setCanCh ch { s.canCh ch with holdUntil := 0, observing := true })) ∧
    ((s.canCh ch).observing = true → s.vioGood 1 = true →
      exec (.canRecovered ch) s = .next (s.setCanCh ch { s.canCh ch with
        state := 1, txErr := 0, recErr := 0, warning := false, recWait := false, observing := false
        integrating := false })) ∧
    (∀ h : Hdr, s.admitted canRecoverInfo h = true → (s.canCh ch).holdUntil = 0 →
      exec (.canRecover h ch) s =
        .next ((s.answered canRecoverInfo h ch {}).setCanCh ch { s.canCh ch with observing := true })))

/-- Stations are served, answered, collected, refused and lost as their rules say. (From R253, R294, R295, R298,
R299, R304, R305, R306, R307, 09_stations_points) -/
def Obligations.StationsComplete : Prop :=
  (∀ (f : StnFrame) (s : State), s.stnHears f = true → s.stnFrameOk f = false →
    (f.kind = 3 → exec (.stnInputRx f) s = .next (s.stnReject f)) ∧
    (f.kind = 5 → exec (.stnHelloRx f) s = .next (s.stnReject f)) ∧
    (f.kind = 2 → exec (.stnConfigAckRx f) s = .next (s.stnReject f)) ∧
    (f.kind = 6 → exec (.stnLeaveRx f) s = .next (s.stnReject f)) ∧
    (s.stnReject f).stn.framesRejected = s.stn.framesRejected + 1) ∧
  (∀ (f : StnFrame) (s : State), s.stnHears f = true → s.stnFrameOk f = true → s.live = true →
    (s.stn1 f.station).rxSeqs.contains (f.seq, f.seg) = false →
    (f.kind = 5 → ((s.stn1 f.station).state = 1 ∨ (s.stn1 f.station).state = 5) →
      ∃ t, exec (.stnHelloRx f) s = .next t ∧ (t.stn1 f.station).state = 2 ∧ (t.stn1 f.station).configured = false ∧
        (t.stn1 f.station).awaiting = false) ∧
    (f.kind = 2 → ((s.stn1 f.station).state = 2 ∨ (s.stn1 f.station).state = 6) →
      beAt f.payload 0 4 = (s.stn1 f.station).cfgCrc.toNat →
      ∃ t, exec (.stnConfigAckRx f) s = .next t ∧
        (beAt f.payload 4 1 = 0 → (t.stn1 f.station).state = 2 ∧ (t.stn1 f.station).configured = true ∧
          (t.stn1 f.station).awaiting = true) ∧
        (1 ≤ beAt f.payload 4 1 → beAt f.payload 4 1 ≤ 3 → (t.stn1 f.station).state = 6 ∧
          (t.stn1 f.station).reason = beAt f.payload 4 1 ∧ (t.stn1 f.station).configured = false)) ∧
    (f.kind = 6 → ((s.stn1 f.station).state = 3 ∨ (s.stn1 f.station).state = 4) → (s.stn1 f.station).lostDue = false →
      ∃ t, exec (.stnLeaveRx f) s = .next t ∧ (t.stn1 f.station).reason = 2 ∧
        ((t.stn1 f.station).discardIn = true ∨ (t.stn1 f.station).lostDue = true)) ∧
    (f.kind = 3 → ((s.stn1 f.station).state = 3 ∨ (s.stn1 f.station).state = 4) →
      f.epoch = (s.stn1 f.station).servedEpoch → (s.task1 (s.stnF f.station 2)).closeDue = some f.epoch →
      ∃ t y, exec (.stnInputRx f) s = .next t ∧ (t.stn1 f.station).inFrame = some y ∧ y.epoch = f.epoch ∧
        tget y.segs f.seg = some (segOf f))) ∧
  (∀ (n : Nat) (s : State), s.live = true → n < 4096 → 8 ≤ (s.stn1 n).tagFails →
    ∃ t, exec (.stnTagFailures n) s = .next t ∧ (t.stn1 n).tagFails = 0 ∧
      (((s.stn1 n).state = 3 ∨ (s.stn1 n).state = 4) → (s.stn1 n).lostDue = false → (t.stn1 n).reason = 4)) ∧
  (∀ (n : Nat) (s : State), s.live = true → s.order ≤ 6 → n < 4096 → s.stnOn n = true → s.servedAt n s.epoch = true →
    (s.stn1 n).servedEpoch ≠ s.epoch →
    ∃ t, exec (.servedTick n) s = .next t ∧ (t.stn1 n).servedEpoch = s.epoch ∧ (t.stn1 n).cfgDef = s.pv P.STN_DEF n ∧
      (t.stn1 n).cfgPts = s.pv P.STN_POINTS n ∧ (t.stn1 n).inFrame = none ∧
      (t.stn1 n).state = (if (s.stn1 n).rejoinDue || (s.stn1 n).state = 0 then 1
        else if (s.stn1 n).lostDue then 5 else (s.stn1 n).state) ∧
      (t.task1 (t.stnF n 2)).closeDue = some s.epoch) ∧
  (∀ (n : Nat) (s : State), s.live = true → s.outDueNow n = true →
    ∃ t, exec (.stnOutputDue n) s = .next t ∧ (t.stn1 n).outQueued = true) ∧
  (∀ (k c : Nat) (s : State), (s.task1 k).closeDue = some c → s.live = true → s.waitEnd k c ≤ s.epoch →
    ∃ t, exec (.inputClose k) s = .next t ∧ (t.task1 k).closeDue = none)

/-- The program commands open their operations, discard the staged program, and note a mode change where their mode
lists them. (From R260, R276, R277, 08_cyclic_programs) -/
def Obligations.ProgramCommandsComplete : Prop :=
  (∀ (h : Hdr) (n : U32) (s : State), s.admitted progLoadInfo h = true → s.prog.op = none → s.nextHandle = some n →
    ∃ t, exec (.progLoad h) s = .next t ∧
      Silent { s with prog := t.prog, host.handles := t.host.handles, host.freeList := t.host.freeList
                      host.accSeq := s.host.accSeq + 1 } t ∧
      t.prog = { s.prog with
        op := some { kind := 1, handle := n, acc := s.epoch, seq := s.host.accSeq }, staged := false
        bankA := if s.prog.activeB then none else s.prog.bankA
        bankB := if s.prog.activeB then s.prog.bankB else none } ∧
      t.activeProg = s.activeProg ∧ t.stagedProg = none) ∧
  (∀ (h : Hdr) (s : State), s.admitted progDiscardInfo h = true → s.prog.op = none →
    ∃ t, exec (.progDiscard h) s = .next t ∧ Silent { s with prog.staged := false } t ∧ t.stagedProg = none) ∧
  (∀ (h : Hdr) (n : U32) (p : Program) (s : State), s.admitted progExchangeInfo h = true → s.prog.op = none →
    (s.prog.run.mode = 0 ∨ s.prog.run.mode = 1) → s.stagedProg = some p → (s.fitted = true ∨ progNeedsFit p = false) →
    s.nextHandle = some n →
    ∃ t, exec (.progExchange h) s = .next t ∧
      Silent { s with prog := t.prog, host.handles := t.host.handles, host.freeList := t.host.freeList
                      host.accSeq := s.host.accSeq + 1 } t ∧
      t.prog = { s.prog with
        op := some { kind := 2, handle := n, acc := s.epoch, seq := s.host.accSeq }
        openNote := some (n, h.tag) }) ∧
  (∀ (h : Hdr) (s : State), s.admitted runInfo h = true →
    ((s.prog.run.mode = 1 ∨ s.prog.run.mode = 3) → ∃ t, exec (.run h) s = .next t ∧
      Silent { s with prog.modeDue := s.prog.modeDue ++ [(2, s.epoch, s.host.accSeq)], host.accSeq := s.host.accSeq + 1 } t) ∧
    (s.prog.run.mode ≠ 1 → s.prog.run.mode ≠ 3 →
      exec (.run h) s = .next (s.answered runInfo h 0 { status := St.WRONG_MODE }))) ∧
  (∀ (h : Hdr) (s : State), s.admitted stopInfo h = true →
    ((s.prog.run.mode = 2 ∨ s.prog.run.mode = 3) → ∃ t, exec (.stop h) s = .next t ∧
      Silent { s with prog.modeDue := s.prog.modeDue ++ [(1, s.epoch, s.host.accSeq)], host.accSeq := s.host.accSeq + 1 } t) ∧
    (s.prog.run.mode ≠ 2 → s.prog.run.mode ≠ 3 →
      exec (.stop h) s = .next (s.answered stopInfo h 0 { status := St.WRONG_MODE }))) ∧
  (∀ (h : Hdr) (s : State), s.admitted holdInfo h = true →
    (s.prog.run.mode = 2 → ∃ t, exec (.hold h) s = .next t ∧
      Silent { s with prog.modeDue := s.prog.modeDue ++ [(3, s.epoch, s.host.accSeq)], host.accSeq := s.host.accSeq + 1 } t) ∧
    (s.prog.run.mode ≠ 2 → exec (.hold h) s = .next (s.answered holdInfo h 0 { status := St.WRONG_MODE }))) ∧
  (∀ (h : Hdr) (s : State), s.admitted faultAckInfo h = true →
    (s.prog.run.mode = 4 → ∃ t, exec (.faultAck h) s = .next t ∧
      Silent { s with prog.modeDue := s.prog.modeDue ++ [(4, s.epoch, s.host.accSeq)], host.accSeq := s.host.accSeq + 1 } t) ∧
    (s.prog.run.mode ≠ 4 → exec (.faultAck h) s = .next (s.answered faultAckInfo h 0 { status := St.WRONG_MODE })))

/-- Modes change, watchdogs stop, copies are kept, and programs are staged and exchanged as their rules say. (From
R260, R261, R262, R264, R266, R277, R278, R279, R280, R281, 08_cyclic_programs) -/
def Obligations.ProgramModesComplete : Prop :=
  (∀ (c a n : Nat) (s : State), s.live = true → s.order ≤ 3 → s.prog.modeDue = [(c, a, n)] → a < s.epoch →
    (s.exchangeBefore n = false → modeListed c s.prog.run.mode = true →
      ∃ t, exec .modeChangeApply s = .next t ∧ t.prog.modeDue = [] ∧ t.order = 3 ∧
        t.prog.run.mode = (if c = 2 then 2 else if c = 3 then 3 else 1) ∧
        (c = 2 → t.prog.startDue = false) ∧
        (c ≠ 2 → ∀ k, (t.task1 k).cycle = none) ∧
        (c = 3 → t.prog.run.holdFrom = s.epoch ∧ t.prog.run.holdMax = s.pn P.HOLD_MAX_S 0)) ∧
    (s.exchangeBefore n = true → exec .modeChangeApply s =
      .next (((({ s.atOrder 3 with prog.modeDue := [] } : State).exchangeNow).modeEffect c).auditApplied 0))) ∧
  (∀ (s : State), s.live = true → s.order ≤ 3 → s.prog.run.mode = 3 →
    s.prog.run.holdFrom + s.prog.run.holdMax * 8000 ≤ s.epoch →
    ∃ t, exec .holdTimeout s = .next t ∧ t.prog.run.mode = 1 ∧ ∀ k, (t.task1 k).cycle = none) ∧
  (∀ (s : State), s.live = true → s.order ≤ 3 → s.prog.startDue = true → s.prog.startMode = 1 → s.prog.run.mode = 1 →
    (s.rst.dieReleased = true ∨ s.fitted = false) → s.rst.outCfgDone = true →
    ∃ t, exec .progAutoRun s = .next t ∧ t.prog.run.mode = 2 ∧ t.prog.startDue = false) ∧
  (∀ (k : Nat) (y : Cycle) (s : State), s.live = true → s.prog.run.mode = 2 →
    ((s.task1 k).cycle = some y → y.d ≤ s.epoch → ∃ t, exec (.cycleOverrun k) s = .next t ∧
      t.prog.run.mode = 4 ∧ t.prog.run.faultCause = 1 ∧ t.prog.run.faultTask = k ∧ t.prog.run.faultCycle = y.c ∧
      t.prog.run.faultEpoch = s.epoch ∧ ∀ j, (t.task1 j).cycle = none) ∧
    (k < 4 → ∃ t, exec (.uncorrectableMemoryError k) s = .next t ∧
      t.prog.run.mode = 4 ∧ t.prog.run.faultCause = 2 ∧ t.prog.run.faultTask = k ∧
      t.prog.run.faultCycle = (match (s.task1 k).cycle with | some y => y.c | none => (s.task1 k).lastCycle) ∧
      t.prog.run.faultEpoch = s.epoch ∧ ∀ j, (t.task1 j).cycle = none)) ∧
  (∀ (p : Program) (s : State), s.live = true → s.activeProg = some p →
    s.prog.lastRetain + s.pn P.RETAIN_PERIOD_S 0 * 8000 ≤ s.epoch →
    let r : Retain := { epoch := s.newestCycle, rt := s.prog.run.rt, programKey := p.key
                        data := retained p s.prog.run.data }
    exec .retainCopy s = .next { s with
      prog.retainA := if s.prog.retainNextB then s.prog.retainA else some r
      prog.retainB := if s.prog.retainNextB then some r else s.prog.retainB
      prog.retainNextB := !s.prog.retainNextB, prog.lastRetain := s.epoch, prog.retainEpoch := s.newestCycle }) ∧
  (∀ (bytes : List Byte) (body : Program) (o : ProgOp) (s : State), s.ready = true → s.prog.op = some o → o.kind = 1 →
    let p := imgProgram bytes body
    p.serial = imgSerial bytes ∧ p.key = imgKey bytes ∧ p.sigLabel = imgLabel bytes ∧
    ∃ t, exec (.progLoadDone bytes body) s = .next t ∧ t.prog.op = none ∧ t.activeProg = s.activeProg ∧
      t.prog.run = s.prog.run ∧
      (s.progLoadCode bytes p = 0 → t.stagedProg = some p) ∧
      (s.progLoadCode bytes p ≠ 0 → t.prog.staged = s.prog.staged ∧ t.prog.bankA = s.prog.bankA ∧
        t.prog.bankB = s.prog.bankB)) ∧
  (∀ (o : ProgOp) (p : Program) (s : State), s.live = true → s.order ≤ 3 → s.prog.op = some o → o.kind = 2 →
    o.acc < s.epoch → s.stagedProg = some p →
    exec .progExchangeApply s = .next (
      let s1 := (s.atOrder 3).applyModes (fun x => decide (x.2.2 < o.seq))
      if s1.prog.op.isSome then s1.exchangeNow else s1) ∧
    (s.modesDue.filter (fun x => decide (x.2.2 < o.seq)) = [] →
     ∃ t, exec .progExchangeApply s = .next t ∧ t.prog.op = none ∧ t.order = 3 ∧
      ((s.atOrder 3).exchangeCode p = 0 → t.activeProg = some p ∧ t.prog.staged = false ∧ t.prog.floor = p.serial ∧
        t.prog.run.mode = 1 ∧
        t.prog.run.data = (migrate s.activeProg s.prog.run.data p).map (fun x => x.1)) ∧
      ((s.atOrder 3).exchangeCode p ≠ 0 → t.activeProg = s.activeProg ∧ t.stagedProg = some p ∧
        t.prog.run = s.prog.run)))

/-- A cycle starts with its view, publishes data and outputs together with its counters, and its values take effect
at their epochs. (From R251, R253, R254, R255, R259, R261, R285, 08_cyclic_programs) -/
def Obligations.TaskCyclesComplete : Prop :=
  (∀ (k : Nat) (s : State), s.cycleDue k = true →
    ∃ t, exec (.taskCycleStart k) s = .next t ∧ t = { s with order := 7, prog.run.tasks := t.prog.run.tasks } ∧
      t.task1 k = { s.task1 k with cycle := some (s.newCycle k), closeDue := some s.epoch } ∧
      (s.newCycle k).c = s.epoch ∧ (s.newCycle k).a = s.epoch + s.atEdge.pn P.APPLY_OFFSET_TICKS k ∧
      (s.newCycle k).d = (s.newCycle k).a - s.atEdge.pn P.OUT_LEAD_TICKS k ∧
      (s.newCycle k).waitEnd = s.epoch + s.atEdge.pn P.INPUT_WAIT_TICKS k ∧ (s.newCycle k).view = s.atEdge.pts ∧
      ∀ j, j ≠ k → t.task1 j = s.task1 j) ∧
  (∀ (k us : Nat) (y : Cycle) (p : Program) (s : State), (s.task1 k).cycle = some y → s.activeProg = some p →
    s.live = true → s.prog.run.mode = 2 → y.closed = true → s.epoch ≤ y.d → us ≤ (y.d - y.c) * 125 →
    ∃ t, exec (.taskPublication k us) s = .next t ∧
      t.prog.run.data = (s.runCycle p k y).data ∧ t.prog.run.mode = 2 ∧
      (t.task1 k).cycle = none ∧ (t.task1 k).cycles = (s.task1 k).cycles + 1 ∧ (t.task1 k).lastCycle = y.c ∧
      (t.task1 k).lastApply = y.a ∧ (t.task1 k).everPub = true ∧ (t.task1 k).responseUs = us ∧
      (t.task1 k).responseMaxUs = max (s.task1 k).responseMaxUs us ∧
      (t.task1 k).applyPend = (s.task1 k).applyPend ++ [(y.a, (progOuts p k).filterMap (fun o =>
        (tget t.prog.run.outVals o.point).map (fun v => (o.point, v))))] ∧
      t.prog.run.outVals = (s.runCycle p k y).eff.foldl (fun o e => match e.2 with
        | .out q v => tset o q v
        | _ => o) s.prog.run.outVals ∧
      ∀ j, j ≠ k → t.task1 j = s.task1 j) ∧
  (∀ (k : Nat) (s : State), s.live = true →
    (∃ t, exec (.taskApply k) s = .next t ∧
      (t.task1 k).applyPend = (s.task1 k).applyPend.filter (fun x => decide (s.epoch < x.1)) ∧
      (t.task1 k).stopPend = (s.task1 k).stopPend ∧ t.prog.run.data = s.prog.run.data ∧
      t = (s.closeEdge.setTask k (t.task1 k)).applyVals ((s.task1 k).applyPend.filter (fun x => decide (x.1 ≤ s.epoch)))) ∧
    (∃ t, exec (.stopValuesApply k) s = .next t ∧
      (t.task1 k).stopPend = (s.task1 k).stopPend.filter (fun x => decide (s.epoch < x.1)) ∧
      (t.task1 k).applyPend = (s.task1 k).applyPend ∧ t.prog.run.data = s.prog.run.data ∧
      t = (s.closeEdge.setTask k (t.task1 k)).applyVals ((s.task1 k).stopPend.filter (fun x => decide (x.1 ≤ s.epoch))))) ∧
  (∀ (c a : Nat) (v : F32) (s : State), c < 32 → s.fitted = true → isOutMode (s.fio1 c).mode = true →
    ((s.applyPoint c v a).fio1 c).owned = v ∧ ((s.applyPoint c v a).fio1 c).hasValue = true ∧
      ((s.applyPoint c v a).pt c).epoch = a ∧
      (s.applyPoint c v a) = { s with fio := (s.applyPoint c v a).fio, pts := (s.applyPoint c v a).pts })

/-- Lanes sample, finish, overrun, swap banks, are acknowledged and get their period back as their rules say. (From
R222, R225, R226, R234, R237, R239, R240, R241, 07_control_lanes) -/
def Obligations.LanesComplete : Prop :=
  (∀ (l : Nat) (s : State), s.lanesRun = true → s.order ≤ 7 → l < 1024 → s.laneTick l = true →
    (s.lane? l).lastDue ≠ some s.epoch → (s.lane? l).sample = none →
    (s.pn P.LANE_ENABLE l = 1 → s.procTurn l = true → ∃ t, exec (.laneSampleStart l) s = .next t ∧
      t = { s with order := 7, lane.lanes := t.lane.lanes } ∧
      t.lane? l = { s.lane? l with
        enabled := true, lastDue := some s.epoch
        sample := some { start := s.epoch, next := ((s.atOrder 7).laneEdge l).laneSampleCore l, point := s.ptRef P.OUT_POINT l
                         value := (((s.atOrder 7).laneEdge l).laneSampleCore l).out } }) ∧
    (s.pn P.LANE_ENABLE l ≠ 1 → (s.lane? l).enabled = true → ∃ t, exec (.laneSampleStart l) s = .next t ∧
      t = { s with order := 7, lane.lanes := t.lane.lanes } ∧
      t.lane? l = { s.lane? l with enabled := false, core := {}, window := [], lastDue := some s.epoch })) ∧
  (∀ (l : Nat) (x : LaneSample) (s : State), (s.lane? l).sample = some x → s.lanesRun = true → x.start = s.epoch →
    ∃ t, exec (.laneSampleComplete l) s = .next t ∧
      t.lane? l = { s.lane? l with
        core := x.next, sample := none, swapBumpless := false
        window := (false :: (s.lane? l).window).take (s.pn P.OVR_WINDOW l) } ∧
      (∀ k, k ≠ l → t.lane? k = s.lane? k) ∧
      (x.point = none → t = { s with lane := t.lane, perc := t.perc, edge := t.edge }) ∧
      (∀ p, x.point = some p → p < 32 → s.fitted = true → isOutMode (s.fio1 p).mode = true →
        (t.fio1 p).owned = x.value ∧ (t.pt p).epoch = s.epoch)) ∧
  (∀ (l : Nat) (s : State), s.lanesRun = true → l < 1024 → (s.lane? l).sample.isSome = true →
    let w := (true :: (s.lane? l).window).take (s.pn P.OVR_WINDOW l)
    let missed := { s.lane? l with
      sample := none, lastDue := some s.epoch, overruns := (s.lane? l).overruns + 1, window := w }
    ∃ t, exec (.laneOverrun l) s = .next t ∧ t = { s with lane := t.lane } ∧
      t.lane.overrunsTotal = s.lane.overrunsTotal + 1 ∧
      ((w.filter (fun b => b)).length < s.pn P.OVR_LIMIT l → t.lane? l = missed) ∧
      (s.pn P.OVR_LIMIT l ≤ (w.filter (fun b => b)).length →
        (s.pn P.OVR_ACTION l = 1 ∨ 480000 < 2 * (s.lane? l).periodForce) →
        (t.lane? l).core.state = 5 ∧ (t.lane? l).core.safeByOvr = true ∧ (t.lane? l).core.ackHeld = false ∧
          (t.lane? l).window = [] ∧ (t.lane? l).periodForce = (s.lane? l).periodForce) ∧
      (s.pn P.OVR_LIMIT l ≤ (w.filter (fun b => b)).length → s.pn P.OVR_ACTION l ≠ 1 →
        2 * (s.lane? l).periodForce ≤ 480000 →
        t.lane? l = { missed with window := [], periodForce := 2 * (s.lane? l).periodForce, periodDoubled := true })) ∧
  (∀ (h : Hdr) (lanes : List Nat) (e : Nat) (n : U32) (s : State), s.admitted bankSwapInfo h = true →
    swapRange lanes e s.epoch = true → lanes.any (fun l => (s.lane? l).swapPend.isSome) = false →
    lanes.any (fun l => !s.bankOk (s.inactiveBank l) l) = false → s.slotsOk = true → s.nextHandle = some n →
    ∃ t, exec (.bankSwap h lanes e) s = .next t ∧
      Silent { s with lane := t.lane, host.handles := t.host.handles, host.freeList := t.host.freeList } t ∧
      t.lane.swaps = s.lane.swaps ++ [{ handle := n, lanes := lanes }] ∧
      ∀ l, t.lane? l = if l ∈ lanes then { s.lane? l with swapPend := some e, swapAcc := s.epoch } else s.lane? l) ∧
  (∀ (l e : Nat) (s : State), (s.lane? l).swapPend = some e → s.live = true → s.order ≤ 5 →
    (s.lane? l).swapAcc < s.epoch → e ≤ s.epoch → (s.pn P.LANE_ENABLE l ≠ 1 ∨ s.laneTick l = true) →
    ∃ t, exec (.laneBankSwapDue l) s = .next t ∧ (t.lane? l).bankSel = !(s.lane? l).bankSel ∧
      (t.lane? l).swapPend = none ∧ (t.lane? l).core = (s.lane? l).core ∧ ∀ k, k ≠ l → t.lane? k = s.lane? k) ∧
  (∀ (h : Hdr) (l : Nat) (s : State), s.admitted laneAckInfo h = true → l < 1024 →
    ∃ t, exec (.laneAck h l) s = .next t ∧ Silent { s with lane := t.lane } t ∧
      ((s.lane? l).core.state = 5 → (t.lane? l).core = { (s.lane? l).core with ackHeld := true }) ∧
      ((s.lane? l).core.state ≠ 5 → t.lane = s.lane)) ∧
  (∀ (h : Hdr) (l : Nat) (s : State), s.admitted periodRestoreInfo h = true → l < 1024 →
    ∃ t, exec (.periodRestore h l) s = .next t ∧ Silent { s with lane := t.lane } t ∧
      t.lane? l = { s.lane? l with periodForce := s.pn P.PERIOD_TICKS l, periodDoubled := false })

/-- Models load, stage, activate and are discarded, service changes are staged, and input series are written and
committed. (From R68, R69, R70, R71, R72, R73, R76, R87, R563, 02_network_model, 03_dispatch_problem) -/
def Obligations.ModelsAndSeriesComplete : Prop :=
  (∀ (h : Hdr) (n : U32) (s : State), s.admitted modelLoadInfo h = true → s.model.op = none → s.nextHandle = some n →
    ∃ t, exec (.modelLoad h) s = .next t ∧
      Silent { s with model := t.model, host.handles := t.host.handles, host.freeList := t.host.freeList
                      host.accSeq := s.host.accSeq + 1 } t ∧
      t.model.op = some { kind := 1, handle := n, tag := h.tag, seq := s.host.accSeq } ∧
      t.activeModel = s.activeModel ∧ t.stagedModel = none ∧ t.model.series = s.model.series) ∧
  (∀ (h : Hdr) (s : State), s.admitted modelDiscardInfo h = true → s.model.op = none →
    ∃ t, exec (.modelDiscard h) s = .next t ∧ Silent { s with model := t.model } t ∧
      t.activeModel = s.activeModel ∧ t.stagedModel = none ∧ t.model.series = s.model.series ∧
      (s.model.staged = false → t.model = s.model)) ∧
  (∀ (bytes : List Byte) (o : ModelOp) (s : State), s.ready = true → s.model.op = some o → o.kind = 1 →
    ∃ t, exec (.modelLoadDone bytes) s = .next t ∧ t.model.op = none ∧ t.activeModel = s.activeModel ∧
      t.model.reportCount = (s.modelLoadFails bytes).length ∧ t.model.report = (s.modelLoadFails bytes).take 256 ∧
      (s.modelLoadFails bytes = [] → t.stagedModel = some (imgModel bytes)) ∧
      (s.modelLoadFails bytes ≠ [] → t.stagedModel = none)) ∧
  (∀ (h : Hdr) (keep : Bool) (m : NetModel) (n : U32) (s : State), s.admitted modelActivateInfo h = true →
    s.model.op = none → s.stagedModel = some m → 2 ≤ s.host.freeList.length → s.nextHandle = some n →
    ∃ t, exec (.modelActivate h keep) s = .next t ∧ t.activeModel = s.activeModel ∧ t.stagedModel = some m ∧
      (s.activateCode m = 0 → ∃ k, t.model.op = some
        { kind := 2, handle := n, tag := h.tag, seq := s.host.accSeq, keepCal := keep, solveHandle := k }) ∧
      (s.activateCode m ≠ 0 → t.model.op = none)) ∧
  (∀ (h : Hdr) (e : Nat) (on : Bool) (m : NetModel) (s : State), s.admitted elementServiceInfo h = true →
    s.activeModel = some m → serviceTypes.contains (idType e) = true → (findElem m e).isSome = true →
    ∃ t, exec (.elementService h e on) s = .next t ∧
      Silent { s with model.serviceStaged :=
        s.model.serviceStaged.filter (fun x => x.1 != e || x.2.2 != 0) ++ [(e, !on, 0)] } t) ∧
  (∀ (h : Hdr) (w : SeriesWr) (s : State), s.admitted seriesWriteInfo h = true → seriesFieldsOk w = true →
    ((tget s.model.seriesStaged w.series = none ∨
        ∃ x, tget s.model.seriesStaged w.series = some x ∧ x.owner = h.src ∧ w.flags % 2 = 1) →
      ∃ t, exec (.seriesWrite h w) s = .next t ∧ Silent { s with
        model.seriesStaged := tset s.model.seriesStaged w.series (seriesPut w (seriesFresh w h.src)) } t) ∧
    (∀ x, tget s.model.seriesStaged w.series = some x → x.owner = h.src → w.flags % 2 ≠ 1 → seriesSame w x = true →
      ∃ t, exec (.seriesWrite h w) s = .next t ∧ Silent { s with
        model.seriesStaged := tset s.model.seriesStaged w.series (seriesPut w x) } t) ∧
    (∀ x, tget s.model.seriesStaged w.series = some x → x.owner ≠ h.src →
      exec (.seriesWrite h w) s = .next (s.answered seriesWriteInfo h w.series { status := St.STAGED }))) ∧
  (∀ (h : Hdr) (mask : BitVec 256) (s : State), s.admitted seriesCommitInfo h = true →
    (∀ n, n < 256 → mask.getLsbD n = true → s.seriesFail h.src n = none) →
    ∃ t, exec (.seriesCommit h mask) s = .next t ∧ Silent { s with model := t.model } t ∧
      ∀ n, tget t.model.seriesStaged n =
          (if n < 256 ∧ mask.getLsbD n = true then none else tget s.model.seriesStaged n) ∧
        tget t.model.series n =
          (if n < 256 ∧ mask.getLsbD n = true then
            (match tget s.model.seriesStaged n with | some x => some (seriesOf x) | none => tget s.model.series n)
          else tget s.model.series n))

/-- Solves are requested and start, flexibility calls and ends, cadence points skip, and plans grow stale as their
rules say. (From R117, R118, R119, R120, R121, R127, R128, R129, R131, R132, R139, 04_solve_cycle) -/
def Obligations.SolvesComplete : Prop :=
  (∀ (h : Hdr) (kind budget hstart : Nat) (n : U32) (s : State), s.admitted solveInfo h = true → (kind = 1 ∨ kind = 2) →
    (budget = 0 ∨ (20 ≤ budget ∧ budget ≤ 900000)) → hstart ≤ s.epoch + 691200000 → s.activeModel.isSome = true →
    s.slv.waiting = none → s.nextHandle = some n →
    ∃ t, exec (.solve h kind budget hstart) s = .next t ∧
      Silent { s with
        slv.waiting := some { handle := n, kind := kind, budget := budget, hstart := hstart, acc := s.epoch }
        host.handles := t.host.handles, host.freeList := t.host.freeList } t) ∧
  (∀ (h : Hdr) (a : FlexArg) (n : U32) (s : State), s.admitted flexActivateInfo h = true → s.flexOk a = true →
    s.nextHandle = some n →
    let from_ := if a.start = 0 then s.epoch else a.start
    ∃ t f, exec (.flexActivate h a) s = .next t ∧
      tget t.slv.slots a.slot = some
        { filled := true, grid := a.grid, bandMin := a.bandMin, bandMax := a.bandMax, start := from_, stop := a.stop
          extId := a.extId, acc := s.epoch } ∧
      (∀ k, k ≠ a.slot → tget t.slv.slots k = tget s.slv.slots k) ∧
      t.slv.flexWaits = s.slv.flexWaits ++ [{ handle := n, acc := s.host.accSeq, accEpoch := s.epoch,
                                               extId := a.extId }] ∧
      t.slv.fastPend = some f ∧
      f.band = (match s.slv.fastPend with | some g => min g.band from_ | none => from_)) ∧
  (∀ (h : Hdr) (k : Nat) (n : U32) (s : State), s.admitted flexWithdrawInfo h = true → k < 16 →
    (tgetD s.slv.slots k {}).filled = true → s.nextHandle = some n →
    ∃ t f, exec (.flexWithdraw h k) s = .next t ∧ tget t.slv.slots k = some {} ∧
      (∀ j, j ≠ k → tget t.slv.slots j = tget s.slv.slots j) ∧
      t.slv.flexWaits = s.slv.flexWaits ++ [{ handle := n, acc := s.host.accSeq, accEpoch := s.epoch }] ∧
      t.slv.fastPend = some f ∧
      f.band = (match s.slv.fastPend with | some g => min g.band s.epoch | none => s.epoch)) ∧
  (∀ (s : State), s.solveOn = true → s.order ≤ 7 → s.closeOwed = false → s.pn P.SOLVE_ENABLE 0 = 1 → s.activeModel.isSome = true →
    s.atCadence = true →
    ((s.slv.running.isSome = true ∨ s.actOpen = true ∨ s.booting = true ∨ s.nextStart ≠ 0 ∨ s.nextHandle = none) →
      exec .cadencePoint s = .next { s with order := 7, slv.skipped := s.slv.skipped + 1 }) ∧
    (∀ n, s.slv.running = none → s.actOpen = false → s.booting = false → s.nextStart = 0 → s.nextHandle = some n →
      ∃ t v, exec .cadencePoint s = .next t ∧ t.slv.running = some v ∧ v.handle = n ∧ v.trigger = 1 ∧
        v.start = s.epoch ∧ v.kind = (if s.cadenceCold then 1 else 2) ∧
        v.budget = (if s.cadenceCold then s.pn P.COLD_BUDGET_MS 0 else s.pn P.WARM_BUDGET_MS 0) ∧
        t.slv.skipped = s.slv.skipped)) ∧
  (∀ (s : State), s.solveOn = true → s.order ≤ 7 → s.closeOwed = false →
    (s.nextStart = 0 → exec .solveStart s = .next { s with order := 7 }) ∧
    (∀ c, s.nextStart = 2 → s.slv.waiting = some c → ∃ t v, exec .solveStart s = .next t ∧ t.slv.running = some v ∧
      v.handle = c.handle ∧ v.trigger = 2 ∧ v.start = s.epoch ∧ t.slv.waiting = none ∧
      (c.budget ≠ 0 → v.budget = c.budget ∧ v.hstart = max c.hstart (s.epoch + 8 * c.budget))) ∧
    (∀ f, s.nextStart = 3 → s.slv.fastPend = some f → ∃ t v, exec .solveStart s = .next t ∧ t.slv.running = some v ∧
      v.handle = f.handle ∧ v.trigger = 3 ∧ v.start = s.epoch ∧ t.slv.fastPend = none ∧
      v.budget = s.pn P.FAST_BUDGET_MS 0 ∧ v.hstart = max f.band (s.epoch + 8 * s.pn P.FAST_BUDGET_MS 0)) ∧
    (∀ m o, s.nextStart = 4 → s.stagedModel = some m → s.model.op = some o →
      ∃ t v, exec .solveStart s = .next t ∧ t.slv.running = some v ∧ v.handle = o.solveHandle ∧ v.trigger = 4 ∧
      v.start = s.epoch ∧ v.kind = 1 ∧ t.model.op = some { o with solved := true }) ∧
    (s.nextStart = 5 → ∃ t v, exec .solveStart s = .next t ∧ t.slv.running = some v ∧ v.trigger = 5 ∧
      v.start = s.epoch ∧ v.kind = 1 ∧ t.slv.startupDone = true)) ∧
  (∀ (s : State), s.solveOn = true → s.slv.stale = false →
    s.slv.lastBoundary + s.pn P.PLAN_STALE_S 0 * 8000 ≤ s.epoch →
    ∃ t, exec .planStaleTimeout s = .next t ∧ Silent { s with slv.stale := true } t) ∧
  (∀ (k : Nat) (s : State), s.solveOn = true → s.order ≤ 3 → (tgetD s.slv.slots k {}).filled = true →
    (tgetD s.slv.slots k {}).stop ≤ s.epoch →
    ∃ t, exec (.commitmentEnd k) s = .next t ∧ t.order = 3 ∧ t.slv = { s.slv with slots := tset s.slv.slots k {} })

/-- Plans are published, discarded, and judged at their boundary as their rules say. (From R76, R107, R125, R126,
R133, R134, R135, R136, R137, R138, 04_solve_cycle) -/
def Obligations.PlansComplete : Prop :=
  (∀ (v : Solve) (r : SolveResult) (s : State), s.slv.running = some v → s.solveOn = true →
    (∀ b, v.stopReq ≠ 5 → inputMissing v.inputs = false → r.status ≠ 5 → r.status ≠ 7 → s.freeBuf = some b →
      s.solveTime v r.timeUs = true → planAdmitted v r = true → r.timeUs ≤ v.budget * 1000 → s.epoch < v.hstart →
      v.cancelAfter = false → v.trigger ≠ 2 → v.trigger ≠ 4 →
      ∃ t, exec (.solvePublish r) s = .next t ∧ t = { s with slv := t.slv, edge := t.edge } ∧ t.slv.running = none ∧
        t.slv.lastEnd = s.epoch ∧ t.slv.inForce = s.slv.inForce ∧
        t.slv.staged = s.slv.staged ++ [{ plan := { planWith v r with planId := s.slv.nextPlanId }, trigger := v.trigger
                                          flexMask := v.flexMask, buf := b, act := false }] ∧
        t.slv.nextPlanId = (if 2 ^ 32 ≤ s.slv.nextPlanId + 1 then 1 else s.slv.nextPlanId + 1)) ∧
    (v.stopReq ≠ 5 → s.solveTime v r.timeUs = true → v.publishing = false →
      (inputMissing v.inputs = true ∨ (r.status = 5 ∧ r.traj.all F32.isFin = true) ∨
        (r.status = 7 ∧ r.traj.all F32.isFin = false)) →
      ∃ t, exec (.solvePublish r) s = .next t ∧ t.slv.running = none ∧ t.slv.lastEnd = s.epoch ∧
        t.slv.inForce = s.slv.inForce ∧ t.slv.staged = s.slv.staged ∧ t.slv.notTaken = s.slv.notTaken + 1 ∧
        t.slv.fails = min 65535 (s.slv.fails + 1)) ∧
    (∀ us, v.start + 8 * v.budget ≤ s.epoch → s.solveTime v us = true → 1 ≤ r.status → r.status ≤ 4 →
      ∃ t, exec (.solveOverrun us r) s = .next t ∧
      t.slv.running = none ∧ t.slv.lastEnd = s.epoch ∧ t.slv.inForce = s.slv.inForce ∧ t.slv.staged = s.slv.staged ∧
      t.slv.overrun = s.slv.overrun + 1 ∧ t.slv.fails = min 65535 (s.slv.fails + 1)) ∧
    (∀ us, (v.stopReq = 5 ∨ v.stopReq = 6) → v.publishing = false → s.solveTime v us = true →
      ∃ t, exec (.solveStopped us r) s = .next t ∧ t.slv.running = none ∧ t.slv.lastEnd = s.epoch ∧
      t.slv.inForce = s.slv.inForce ∧ t.slv.staged = s.slv.staged ∧ t.slv.fails = s.slv.fails)) ∧
  (∀ (s : State), s.solveOn = true → s.order ≤ 4 → s.slv.staged ≠ [] →
    ∃ t, exec .planBoundary s = .next t ∧ ∀ x ∈ t.slv.staged, s.epoch < x.plan.hstart) ∧
  (∀ (x : StagedPlan) (s : State), s.solveOn = true → s.order ≤ 4 → s.slv.staged = [x] → x.act = false →
    (x.plan.modelKey, x.plan.modelSerial) = s.modelAfter → x.plan.hstart ≤ s.epoch →
    (∀ p, s.slv.inForce = some p → p.solveStart < x.plan.solveStart) →
    (s.planGood x.plan = true → ∃ t, exec .planBoundary s = .next t ∧ t.slv.inForce = some x.plan ∧
      t.slv.prev = s.slv.inForce ∧ t.slv.fails = 0 ∧ t.slv.stale = false ∧ t.slv.lastBoundary = s.epoch ∧
      t.slv.staged = []) ∧
    (s.planGood x.plan = false → ∃ t, exec .planBoundary s = .next t ∧ t.slv.inForce = s.slv.inForce ∧
      t.slv.notTaken = s.slv.notTaken + 1 ∧ t.slv.fails = min 65535 (s.slv.fails + 1) ∧ t.slv.staged = []))

/-- Estimate updates start, publish and map, and calibration windows end, are read and reset as their rules say.
(From R150, R152, R153, R156, R170, R172, R175, R178, R180, R186, 05_percolator) -/
def Obligations.EstimationComplete : Prop :=
  (∀ (m : NetModel) (s : State), s.activeModel = some m → s.percOn = true → s.order ≤ 7 →
    ((s.epoch : Int) - (s.pn P.PERC_PHASE_TICKS 0 : Int)) % ((s.perc.effPeriodMs * 8 : Nat) : Int) = 0 →
    ((s.perc.upd.isSome = true ∨ s.perc.mappingDue.isSome = true) →
      exec .percUpdateStart s = .next { s with order := 7, perc.late := s.perc.late + 1 }) ∧
    (s.perc.upd = none → s.perc.mappingDue = none →
      ∃ t u, exec .percUpdateStart s = .next t ∧ t = { s with order := 7, perc := t.perc } ∧ t.perc.upd = some u ∧
        u = s.atEdge.percNew m ∧ u.model = some m ∧
        (s.edge = none → u.epoch = s.epoch ∧ u.pts = s.pts ∧ u.binds = s.par.vals ∧ u.cal = s.perc.cal ∧
          u.init = !s.perc.hasParcels) ∧
        (∀ p, s.edge = some p → u.epoch = p.epoch ∧ u.pts = p.pts ∧ u.binds = p.par.vals ∧ u.cal = p.perc.cal) ∧
        t.perc.late = s.perc.late ∧ t.perc.set = s.perc.set)) ∧
  (∀ (u : PercUpd) (m : NetModel) (r : PercResult) (s : State), s.perc.upd = some u → u.model = some m →
    s.percOn = true → s.percResultOk u m r = true →
    ∃ t z, exec (.percUpdatePublish r) s = .next t ∧ t = { s with perc := t.perc, edge := s.closeEdge.edge } ∧ t.perc.upd = none ∧
      t.perc.set = some z ∧ z.epoch = u.epoch ∧ z.modelKey = m.key ∧ z.modelSerial = m.serial ∧
      z.calVersion = u.calVersion ∧ z.recs = s.estRecords u m (s.percWater u m r) r ∧ z.updateNo = t.perc.updateNo ∧
      t.perc.updateNo = (if 2 ^ 32 ≤ s.perc.updateNo + 1 then 1 else s.perc.updateNo + 1) ∧
      t.perc.lastUpdate = u.epoch ∧ t.perc.hasParcels = true) ∧
  (∀ (u : PercUpd) (s : State), s.perc.mappingDue = some u → s.percOn = true → s.perc.upd = none →
    ∃ t k, exec .mappingUpdate s = .next t ∧ t = { s with perc := t.perc } ∧
      t.perc.upd = some { u with init := !s.perc.hasParcels || s.perc.mapFrom.isNone, nodeTemps := k } ∧
      t.perc.mappingDue = none ∧
      (∀ o m, s.perc.mapFrom = some o → u.model = some m →
        t.perc.parcels = mapParcels o m s.perc.parcels ∧ k = mapTemps o m s.perc.set)) ∧
  (∀ (m : NetModel) (s : State), s.activeModel = some m → s.percOn = true → s.order ≤ 8 →
    s.perc.windowStart < s.epoch → (s.onGrid (s.calPar P.CAL_WINDOW_MIN) = true ∨ s.onGrid (s.pn P.CAL_WINDOW_MIN 0) = true) →
    ∃ t, exec (.calWindowEnd s.perc.windowStart) s = .next t ∧ t = { s with order := 8, perc := t.perc } ∧
      t.perc.windowStart = s.epoch ∧ t.perc.freezeSeen = false ∧ t.perc.implPts = [] ∧
      t.perc.calPars = [P.CAL_ENABLE, P.CAL_WINDOW_MIN, P.CAL_MIN_FLOW_PCT, P.CAL_MIN_VALID_PCT].map
        (fun id => (pkey id 0, s.pv id 0)) ∧
      ((s.onGrid (s.calPar P.CAL_WINDOW_MIN) = false ∨ s.windowVoid = true) → t.perc.cal = s.perc.cal)) ∧
  (∀ (h : Hdr) (m : NetModel) (s : State), s.admitted calReadInfo h = true → s.activeModel = some m →
    exec (.calRead h) s = .next (s.answered calReadInfo h 0
      { data := (((calList m).take (h.room / 24)).map (fun x => calRecBytes s.perc.cal x.1 x.2)).flatten })) ∧
  (∀ (h : Hdr) (all : Bool) (e : Nat) (m : NetModel) (s : State), s.admitted calResetInfo h = true →
    s.activeModel = some m → (all = true ∨ (findElem m e).isSome = true) →
    ∃ t, exec (.calReset h all e) s = .next t ∧ Silent { s with perc := t.perc } t ∧
      ∀ x ∈ calList m, (all = true ∨ recId x.1 = e) → ∃ y ∈ calList m, ∃ c,
        calKey (recId y.1) y.2 = calKey (recId x.1) x.2 ∧
        tget t.perc.cal (calKey (recId x.1) x.2) = some c ∧ c.staged = some (calImage y.1 y.2) ∧ c.resetPend = true)

/-- Frames, data slots and reference slots of the analog front end run as their rules say. (From R181, R182, R183,
R184, R337, 05_percolator) -/
def Obligations.AnalogFramesComplete : Prop :=
  (∀ (s : State), s.dieOn = true → s.time.running = true → s.epoch % 32 = 0 →
    ∃ t, exec .afeFrameStart s = .next t ∧ t = { s with afe := t.afe } ∧ t.afe.frameStart = s.epoch ∧
      t.afe.frameNo = s.epoch / 32 ∧ t.afe.uniform = (s.pn P.AFE_REF_MODE 0 == 1) ∧ t.afe.slot = 0 ∧
      t.afe.gain = tjoin s.afe.gain s.afe.gainNext ∧ t.afe.offset = tjoin s.afe.offset s.afe.offsetNext ∧
      t.afe.gainNext = [] ∧ t.afe.offsetNext = []) ∧
  (∀ (samples : List F32) (clip : BitVec 16) (s : State), s.dieOn = true → s.afe.slot < 16 →
    ∃ t, exec (.afeDataSlotEnd samples clip) s = .next t ∧ t = { s with afe.slot := s.afe.slot + 1, fio := t.fio } ∧
      ∀ i, i < 16 →
        ((s.ain1 i).range = 0 → t.ain1 i = s.ain1 i) ∧
        ((s.ain1 i).range ≠ 0 → t.ain1 i = { s.ain1 i with
          samples := ((s.slotMid s.afe.slot, s.afeCorrect i (samples.getD i F32.zero)) :: (s.ain1 i).samples).take 1024
          clipped := clip.getLsbD i })) ∧
  (∀ (refs : List F32) (s : State), s.dieOn = true → s.afe.uniform = false → s.afe.slot = 16 →
    ∃ t, exec (.afeRefSlotEnd refs) s = .next t ∧ t = { s with afe := t.afe } ∧ t.afe.slot = 17 ∧
      t.afe.lastRef = s.epoch ∧ t.afe.calAged = false ∧ t.afe.gain = s.afe.gain ∧ t.afe.offset = s.afe.offset ∧
      (s.afe.frameNo % 3 ≠ 2 → t.afe.gainNext = s.afe.gainNext ∧ t.afe.offsetNext = s.afe.offsetNext) ∧
      ∀ i, i < 16 → tget t.afe.refs (3 * i + s.afe.frameNo % 3) = some
        ((refs.getD i F32.zero :: tgetD s.afe.refs (3 * i + s.afe.frameNo % 3) []).take 64)) ∧
  (∀ (s : State), s.dieOn = true → s.afe.uniform = true → s.afe.lastRef + 691200000 ≤ s.epoch →
    exec .afeCalAged s = .next { s with afe.calAged := true })

/-- Rounds open and close, messages are taken or discarded, members are kept and forgotten, and gateways pass
messages on. (From R190, R191, R193, R194, R199, R208, R209, R212, R213, R216, 06_federation) -/
def Obligations.FederationComplete : Prop :=
  (∀ (l : Nat) (s : State), s.live = true → levelOk l = true → s.order ≤ 7 → s.epoch % roundTicks l = 0 →
    tgetD s.fed.openings l 0 ≠ s.epoch →
    ∃ t, exec (.roundOpening l) s = .next t ∧ tget t.fed.openings l = some s.epoch ∧
      tget t.fed.closeDue l = some true ∧ t.order = 7) ∧
  (∀ (l : Nat) (s : State), s.live = true → levelOk l = true → tgetD s.fed.closeDue l false = true →
    (tgetD s.fed.openings l 0 + roundTicks l ≤ s.epoch → ∃ t, exec (.roundClose l) s = .next t ∧
      t = { s with fed.closeDue := tset s.fed.closeDue l false, fed.coups := t.fed.coups
                   fed.rejected := s.fed.rejected + BitVec.ofNat 32 (s.net.segs.length - t.net.segs.length)
                   net.segs := s.net.segs.filter (fun b => b.level != l) } ∧
      ∀ r ∈ s.coupsAt l, (t.coup (coupIdx r)).pub = (t.coup (coupIdx r)).cur ∧
        (t.coup (coupIdx r)).pubState = (t.coup (coupIdx r)).state ∧ (t.coup (coupIdx r)).own = none) ∧
    (s.epoch < tgetD s.fed.openings l 0 + roundTicks l → exec (.roundClose l) s = .next s)) ∧
  (∀ (m : QMsg) (ps : List Proposal) (a : Advert) (s : State), s.qListens m = true → m.segCount ≤ 1 → m.seg = 0 →
    (qHeadOk m 2 = true → s.speaks m.version = true → s.claimOk m = false →
      exec (.proposeRx m ps) s = .next { s with fed.rejected := s.fed.rejected + 1 }) ∧
    (qHeadOk m 1 = true → s.speaks m.version = true → s.claimOk m = false →
      exec (.advertiseRx m a) s = .next { s with fed.rejected := s.fed.rejected + 1 }) ∧
    (qHeadOk m 2 = true → s.speaks m.version = false → ∃ t, exec (.proposeRx m ps) s = .next t ∧
      t = { s with fed.coups := t.fed.coups, fed.rejected := s.fed.rejected + 1 }) ∧
    (qHeadOk m 1 = true → s.speaks m.version = false → ∃ t, exec (.advertiseRx m a) s = .next t ∧
      t = { s with fed.coups := t.fed.coups, fed.rejected := s.fed.rejected + 1 }) ∧
    (qHeadOk m 2 = true → s.speaks m.version = true → s.claimOk m = true → m.src ≠ s.fed.addr → s.live = true →
      s.inRound m = true → ps.all entryOk = true →
      ∃ t, exec (.proposeRx m ps) s = .next t ∧
        tget t.fed.peers m.src = some { claim := m.claim, seq := m.seq, seen := true }) ∧
    (qHeadOk m 1 = true → s.speaks m.version = true → s.claimOk m = true → m.src ≠ s.fed.addr → s.live = true →
      s.computes m.level = true →
      ∃ t, exec (.advertiseRx m a) s = .next t ∧
        tget t.fed.peers m.src = some { claim := m.claim, seq := m.seq, seen := true } ∧
        t.fedMembers m.level = (s.fedMembers m.level).filter (fun x => x.addr != m.src) ++
          [if m.level = 4 then
            { addr := m.src, cur := a.cur, curMax := a.cur, members := 1, heardAt := s.epoch, round := m.round }
           else { addr := m.src, cur := a.aggMin, curMax := a.aggMax, members := a.members, heardAt := s.epoch
                  round := m.round }])) ∧
  (∀ (l addr : Nat) (s : State), s.live = true → levelOk l = true → addr ≠ s.fed.addr →
    (∀ w, tget s.fed.windows l = some w → w ≠ [] →
      ∃ t, exec (.memberExpire l addr) s = .next t ∧ t = { s with fed.members := t.fed.members } ∧
        ∀ x, x ∈ t.fedMembers l ↔ x ∈ s.fedMembers l ∧
          (x.addr = addr → s.epoch < x.heardAt + w.getD 5 0 * 8000)) ∧
    (tget s.fed.windows l = none → exec (.memberExpire l addr) s = .next s)) ∧
  (∀ (l : Nat) (s : State), (s.roundPars l).getD 2 0 = s.pn P.FLOOR_MEMORY_S 0) ∧
  (∀ (h : Hdr) (l addr : Nat) (s : State), s.admitted forgetMemberInfo h = true → levelOk l = true →
    ∃ t, exec (.forgetMember h l addr) s = .next t ∧ Silent { s with fed.members := t.fed.members } t ∧
      ∀ x, x ∈ t.fedMembers l ↔ x ∈ s.fedMembers l ∧ x.addr ≠ addr) ∧
  (∀ (m : QMsg) (s : State), s.ready = true → 1 ≤ s.fed.role → s.qPortOk m.port = true → (m.level = 5 ∨ m.level = 6) → m.src ≠ s.fed.addr → m.dst = qAll → s.fed.role = 1 →
    (m.port < 2 → exec (.qualothForward m) s = .next (s.sendQBytes (some 3) m.src m.seq m.bytes)) ∧
    (m.port = 3 → exec (.qualothForward m) s = .next (s.sendQBytes none m.src m.seq m.bytes)))

/-- Heartbeats go out and come in, checkpoints are taken fragment by fragment and completed, asked for, flushed and
judged stale. (From R484, R485, R486, R487, R493, R494, R495, R497, 15_redundancy) -/
def Obligations.PairMessagesComplete : Prop :=
  (∀ s : State, s.ready = true → s.paired = true → s.liveCheck = true → s.hbDue = true →
    ∃ t, exec .heartbeatTx s = .next t ∧ t.pair.hbOut = (!s.pair.hbOut) ∧ t.pair.hbLast = some s.epoch ∧
      (s.time.running = true → s.epoch % 16 = 0 → s.pairTx = true →
        t.pair.txSeq = s.pair.txSeq + 1 ∧
        OutMsg.pair 1 1 s.pair.claim s.epoch s.pair.txSeq.toNat none
          (pairHeader 1 1 s.pair.claim s.epoch s.pair.txSeq.toNat 64 0 0 ++ hbBytes s.hbMsg) ∈ t.out)) ∧
  (∀ (p : PairHdr) (m : HbMsg) (s : State), s.ready = true → p.version = 1 → p.rsv = 0 → p.len = 64 →
    ∃ t, exec (.heartbeatRx p m) s = .next t ∧ t.pair.partner = unitOf m.unit ∧ t.pair.partnerClaim = p.claim ∧
      t.pair.partnerHb = some m ∧ t.pair.partnerMac = p.mac) ∧
  (∀ s : State, s.ready = true → s.rst.vio.getLsbD 0 = true →
    exec .hbInEdge s = .next { s with pair.lastEdge := s.epoch, pair.partnerFailed := false }) ∧
  (∀ (p : PairHdr) (sect : CkptSec) (bytes : List Byte) (s : State), s.takesCkpt p = true → p.sect = sectNo sect →
    p.len = bytes.length → bytes.length ≤ 1500 →
    ((s.pair.rxSeqSeen = false ∨ BitVec.ofNat 32 p.seq = s.pair.rxSeq + 1) →
      ∃ t, exec (.ckptDeltaRx p sect bytes) s = .next t ∧ t = { s with pair := t.pair } ∧
        t.pair.rxSeq = BitVec.ofNat 32 p.seq ∧
        (∀ b, s.pair.building = some b → b.k = p.epoch →
          t.pair.building = some (ckptPut b sect) ∧ t.pair.buildFrags = s.pair.buildFrags + 1 ∧
          t.pair.buildBytes = s.pair.buildBytes ++ bytes) ∧
        (s.pair.building = none → ∃ b, b.k = p.epoch ∧ t.pair.building = some (ckptPut b sect) ∧
          t.pair.buildFrags = 1 ∧ t.pair.buildBytes = bytes)) ∧
    (s.pair.rxSeqSeen = true → BitVec.ofNat 32 p.seq ≠ s.pair.rxSeq + 1 →
      ∃ t, exec (.ckptDeltaRx p sect bytes) s = .next t ∧ t.pair.unit = .syncing ∧ t.pair.building = none)) ∧
  (∀ (p : PairHdr) (frags : Nat) (crc : U32) (b : Ckpt) (s : State), s.takesCkpt p = true → p.len = 8 →
    (s.pair.rxSeqSeen = false ∨ BitVec.ofNat 32 p.seq = s.pair.rxSeq + 1) → s.pair.building = some b →
    (b.k = p.epoch → s.pair.buildFrags = frags → crc32 s.pair.buildBytes = crc →
      (∃ t, exec (.ckptEndRx p frags crc) s = .next t ∧ t.pair.latest = some b ∧ t.pair.ckptLast = p.epoch ∧
        t.pair.building = none ∧ t.pair.unit = if s.pair.afterFull = 0 then s.pair.unit else .synced) ∧
      (s.pair.afterFull ≠ 0 → s.clashes = false → ∃ t, exec (.finalRx p frags crc) s = .next t ∧
        t.pair.latest = some b ∧ t.pair.finalRx = true ∧ t.pair.resuming = true ∧ t.pair.cold = false ∧
        t.pair.resumeFrom = s.epoch)) ∧
    (crc32 s.pair.buildBytes ≠ crc → exec (.ckptEndRx p frags crc) s = .next { s with
      pair.rxSeq := BitVec.ofNat 32 p.seq, pair.rxSeqSeen := true, pair.building := none, pair.buildFrags := 0
      pair.buildBytes := [] })) ∧
  (∀ (p : PairHdr) (s : State), s.ready = true → s.pair.unit = .active → p.rsv = 0 → p.len = 0 →
    (p.version = s.pair.ownCv ∨ p.version + 1 = s.pair.ownCv) →
    exec (.syncRequestRx p) s = .next { s with
      pair.rxSeq := BitVec.ofNat 32 p.seq, pair.rxSeqSeen := true, pair.fullDue := true }) ∧
  (∀ (c : Ckpt) (s : State), s.pair.latest = some c → s.clocked = true → s.isStandby = true →
    s.pair.resuming = false → s.pair.lastFlush + 80000 ≤ s.epoch →
    ∃ t, exec .ckptFlush s = .next t ∧ t = { s with pair := t.pair } ∧ t.pair.lastFlush = s.epoch ∧
      t.pair.flushEpoch = c.k ∧ t.pair.flushNextB = (!s.pair.flushNextB) ∧
      (s.pair.flushNextB = false → t.pair.flushA = some (flushCopy c (s.pn P.PAIR_ID 0)) ∧
        t.pair.flushB = s.pair.flushB) ∧
      (s.pair.flushNextB = true → t.pair.flushB = some (flushCopy c (s.pn P.PAIR_ID 0)) ∧
        t.pair.flushA = s.pair.flushA)) ∧
  (∀ s : State, s.ready = true → (s.pair.unit = .syncing ∨ s.pair.unit = .synced) → s.pair.resuming = false →
    s.pair.syncAt + 80000 < s.epoch →
    ∃ t, exec .ckptStale s = .next t ∧ t.pair.unit = .syncing ∧ t.pair.syncAt = s.epoch ∧ t.pair.building = none)

/-- A partner is found failed, a standby takes over, a unit is demoted, and the switchover, resync, start and floor
of a pair take effect. (From R485, R489, R490, R491, R496, R497, R498, R500, R501, R505, R507, 15_redundancy) -/
def Obligations.PairRolesComplete : Prop :=
  (∀ s : State, s.clocked = true → s.order ≤ 2 → s.failDue = true →
    ∃ t, exec .partnerFailed s = .next t ∧ t.pair.partnerFailed = true ∧ t.pair.switchover = none ∧
      (s.pair.unit = .active → t.pair.unit = .active ∧
        t.pair.generation = min 2147483647 (max s.pair.genSeen s.pair.generation + 1) ∧
        t.pair.claim = t.pair.generation * 2 + s.pair.prefInForce) ∧
      (s.pair.unit = .synced → s.clashes = false → t.pair.resuming = true ∧ t.pair.cold = false ∧
        t.pair.resumeFrom = s.epoch ∧
        t.pair.generation = min 2147483647 (max s.pair.genSeen s.pair.generation + 1)) ∧
      (s.pair.unit = .syncing → s.clashes = false → s.pn P.PAIR_COLD_TAKEOVER 0 = 1 →
        t.pair.resuming = true ∧ t.pair.cold = true) ∧
      (s.pair.unit = .syncing → s.pn P.PAIR_COLD_TAKEOVER 0 ≠ 1 → t.pair.resuming = s.pair.resuming)) ∧
  (∀ s : State, s.clocked = true → s.order ≤ 2 → s.pair.resuming = true → s.pair.resumeFrom < s.epoch →
    ∃ t, exec .takeoverResume s = .next t ∧ t.pair.unit = .active ∧ t.pair.resuming = false ∧
      t.pair.claim = s.ownClaim ∧ t.pair.lastTakeover = s.epoch ∧ t.pair.takeovers = s.pair.takeovers + 1 ∧
      t.epoch = s.epoch) ∧
  (∀ (c : Nat) (s : State), s.clocked = true → s.order ≤ 2 → s.pair.unit = .active → s.failDue = false →
    s.pair.claimReport = some c →
    (s.pair.claim < c → ∃ t, exec .demotion s = .next t ∧ t.pair.unit = .demoted ∧ t.pair.demotedHold = true ∧
      t.pair.demotedAt = s.epoch ∧ t.pair.demotions = s.pair.demotions + 1 ∧ t.pair.claimReport = none ∧
      t.pair.generation = s.pair.generation) ∧
    (c ≤ s.pair.claim → exec .demotion s = .next { s with order := max s.order 2, edge := none, pair.claimReport := none })) ∧
  (∀ s : State, s.clocked = true → s.order ≤ 2 → s.pair.unit = .demoted → s.pair.resuming = false →
    s.clashes = false → s.holdOffOver = true →
    (s.epoch ≤ s.pair.demotedAt + 80000 ∨ s.pn P.PAIR_COLD_TAKEOVER 0 = 1 →
      ∃ t, exec .demotedTakeover s = .next t ∧ t = { s with order := max s.order 2, edge := none, pair := t.pair } ∧
        t.pair.resuming = true ∧ t.pair.resumeFrom = s.epoch ∧
        t.pair.cold = decide (s.pair.demotedAt + 80000 < s.epoch) ∧
        t.pair.generation = min 2147483647 (max s.pair.genSeen s.pair.generation + 1)) ∧
    (s.pair.demotedAt + 80000 < s.epoch → s.pn P.PAIR_COLD_TAKEOVER 0 ≠ 1 → exec .demotedTakeover s = .next s)) ∧
  (∀ s : State, s.live = true → s.pair.unit = .active → s.ckptTaker = true →
    (∀ a, s.pair.lastSent = some a → a < s.ckptNow) → s.ckptNow ≤ s.viewAll →
    (s.pair.switchover = none → ∃ t, exec .checkpointEpoch s = .next t ∧ t.pair.ckptLast = s.ckptNow ∧
      t.pair.lastSent = some s.ckptNow ∧ t.pair.fullDue = false ∧ t.pair.unit = .active) ∧
    (∀ o, s.pair.switchover = some o → o.k ≤ s.ckptNow → s.pair.partner = some .synced →
      ∃ t, exec .checkpointEpoch s = .next t ∧
        t.pair.unit = .demoted ∧ t.pair.demotedHold = false ∧ t.pair.demotions = s.pair.demotions + 1) ∧
    (∀ o, s.pair.switchover = some o → o.k ≤ s.ckptNow → s.pair.partner ≠ some .synced →
      ∃ t, exec .checkpointEpoch s = .next t ∧
        t.pair.unit = .active ∧ t.pair.switchover = none ∧ t.pair.lastSent = some s.ckptNow)) ∧
  (∀ s : State, s.ready = true → s.pair.unit = .starting →
    (s.time.running = false ∨ s.pair.startUntil ≤ s.epoch) →
    (s.pair.partner = some .active → ∃ t, exec .pairStartWaitEnd s = .next t ∧ t.pair.unit = .syncing ∧
      t.pair.syncAt = s.epoch) ∧
    (s.pair.partner = none → ∃ t, exec .pairStartWaitEnd s = .next t ∧ t.pair.unit = .active ∧
      t.pair.resuming = false ∧
      t.pair.claim = min 2147483647 (max s.pair.genSeen s.pair.generation + 1) * 2 + s.pair.prefInForce)) ∧
  (∀ s : State, s.ready = true → s.paired = true → s.pair.floorPend ≠ 0 → s.pair.floorSwitch ≤ s.epoch →
    ∃ t, exec .pairFloorSwitch s = .next t ∧ t.pair.floor = s.pair.floorPend ∧ t.pair.floorPend = 0 ∧
      t.pair.floorSwitch = 0 ∧ t.pair.fullDue = true ∧
      t.pair.unit = if s.isStandby then .syncing else s.pair.unit) ∧
  (∀ (h : Hdr) (n : U32) (s : State), s.admitted pairSwitchoverInfo h = true → s.pair.unit = .active →
    s.pair.partner = some .synced → s.pair.partnerFailed = false → s.pair.switchover = none →
    s.nextHandle = some n →
    ∃ t, exec (.pairSwitchover h) s = .next t ∧
      Silent { s with pair := t.pair, host.handles := t.host.handles, host.freeList := t.host.freeList } t ∧
      t.pair = { s.pair with switchover := some { handle := n, k := s.ckptFrom (s.epoch + 80) } }) ∧
  (∀ (h : Hdr) (s : State), s.admitted pairResyncInfo h = true → (s.pair.unit = .syncing ∨ s.pair.unit = .synced) →
    ∃ t, exec (.pairResync h) s = .next t ∧ t.pair.unit = .syncing ∧ t.pair.syncAt = s.epoch ∧
      t.pair.building = none)

/-- The governor follows the smallest measured margin, and the supply comparators, wake lands and Drip domain events
have the effect their rules give. (From R513, R514, R516, R517, R518, R527, R529, R463, 16_power_reset_calendar) -/
def Obligations.PowerEventsComplete : Prop :=
  (∀ (cls : Nat) (m : F32) (s : State), cls < 4 → 7 ≤ s.rst.stage → s.classActive cls = true →
    ((∀ k, k ≠ cls → tget s.pwr.lastMargin k = none) →
      (s.marginSeen cls (s.measured cls m)).smallest = F32.min F32.one (s.measured cls m)) ∧
    (s.pn P.GOV_MODE 0 = 0 → F32.lt (s.marginSeen cls (s.measured cls m)).smallest (s.pf P.GOV_TARGET 0) = true →
      ∃ t, exec (.marginBreach cls m) s = .next t ∧ t = { s with pwr := t.pwr, rst.coreMv := t.railMv } ∧
        t.pwr.setMv = min 900 (s.pwr.setMv + s.pn P.GOV_RAISE_MV 0) ∧ t.pwr.breach = true ∧
        t.pwr.breaches = (if s.pwr.breach then s.pwr.breaches else s.pwr.breaches + 1) ∧
        t.pwr.settleFrom = s.epoch ∧ tget t.pwr.lastMargin cls = some (s.measured cls m)) ∧
    (s.pn P.GOV_MODE 0 = 0 → F32.lt (s.marginSeen cls (s.measured cls m)).smallest (s.pf P.GOV_TARGET 0) = false →
      ∃ t, exec (.marginBreach cls m) s = .next t ∧ t = { s with pwr := t.pwr } ∧ t.pwr.setMv = s.pwr.setMv ∧
        t.pwr.breach = false ∧ t.pwr.breaches = s.pwr.breaches ∧ tget t.pwr.lastMargin cls = some (s.measured cls m)) ∧
    (s.pn P.GOV_MODE 0 ≠ 0 →
      ∃ t, exec (.marginBreach cls m) s = .next t ∧ t = { s with pwr := t.pwr } ∧ t.pwr.setMv = s.pwr.setMv ∧
        t.pwr.breach = s.pwr.breach ∧ tget t.pwr.lastMargin cls = some (s.measured cls m))) ∧
  (∀ (m : F32) (s : State), 7 ≤ s.rst.stage → s.pn P.GOV_MODE 0 = 0 →
    (s.pwr.breach = false → F32.le (F32.add (s.pf P.GOV_TARGET 0) (F32.ofRatio 5 100)) m = true →
      F32.le (F32.add (s.pf P.GOV_TARGET 0) (F32.ofRatio 5 100)) s.smallest = true →
      s.pwr.settleFrom + 8 * s.pn P.GOV_SETTLE_MS 0 ≤ s.epoch → s.pn P.GOV_MIN_MV 0 < s.pwr.setMv →
      ∃ t, exec (.govSettleStep m) s = .next t ∧
        t = { s with pwr.settleFrom := s.epoch, pwr.setMv := max (s.pn P.GOV_MIN_MV 0) (s.pwr.setMv - 5)
                     rst.coreMv := t.railMv }) ∧
    (s.pwr.setMv ≤ s.pn P.GOV_MIN_MV 0 → exec (.govSettleStep m) s = .next s) ∧
    (s.epoch < s.pwr.settleFrom + 8 * s.pn P.GOV_SETTLE_MS 0 → exec (.govSettleStep m) s = .next s)) ∧
  (∀ (volts : F32) (s : State),
    (F32.lt volts (fof (s.dripVal P.VBULK_WARN_V 0)) = true → s.drip.vbulkOk = true → 7 ≤ s.rst.stage →
      ∃ t, exec (.vbulkLow volts) s = .next t ∧
        Silent { s with drip := t.drip, pwr := t.pwr, rst.coreMv := t.railMv } t ∧
        t.pwr = { s.pwr with vbulk := volts, sagGuard := true, sagHold := s.pn P.SAG_HOLD_S 0 } ∧
        t.drip.vbulkOk = false ∧ t.drip.onVaon = F32.lt volts (F32.ofRatio 96 10) ∧
        t.drip.evts.getLast? = some { source := 0, dir := 0, secs := calSeconds s.drip.live, sub := s.drip.sub
                                      posted := s.ready }) ∧
    (F32.lt volts (fof (s.dripVal P.VBULK_WARN_V 0)) = false → F32.le s.warnUp volts = true →
      s.drip.vbulkOk = false →
      ∃ t, exec (.vbulkLow volts) s = .next t ∧ Silent { s with drip := t.drip, pwr := t.pwr } t ∧
        t.pwr = { s.pwr with vbulk := volts, sagFrom := s.epoch } ∧ t.drip.vbulkOk = true ∧
        t.drip.onVaon = F32.lt volts (F32.ofRatio 96 10) ∧
        t.drip.evts.getLast? = some { source := 0, dir := 1, secs := calSeconds s.drip.live, sub := s.drip.sub
                                      posted := s.ready }) ∧
    (F32.lt volts (fof (s.dripVal P.VBULK_WARN_V 0)) = !s.drip.vbulkOk →
      (s.drip.vbulkOk = true ∨ F32.lt volts (fof (s.dripVal P.VBULK_WARN_V 0)) = true) →
      exec (.vbulkLow volts) s = .next { s with pwr.vbulk := volts, drip.onVaon := F32.lt volts (F32.ofRatio 96 10) }) ∧
    (s.pwr.sagGuard = true → s.drip.vbulkOk = true → F32.le s.warnUp volts = true →
      (s.time.running = false ∨ s.pwr.sagFrom + s.pwr.sagHold * 8000 ≤ s.epoch) →
      ∃ t, exec (.sagHoldEnd volts) s = .next t ∧
        t = { s with pwr.vbulk := volts, pwr.sagGuard := false, rst.coreMv := t.rst.coreMv } ∧
        (7 ≤ s.rst.stage → t.rst.coreMv = t.railMv))) ∧
  (∀ (rising : Bool) (volts : F32) (s : State),
    (s.drip.vaonOk = (!rising) → (rising = true → F32.le (F32.ofRatio 21 10) volts = true) →
      (rising = false → F32.lt volts (F32.ofRatio 2 1) = true) →
      ∃ t, exec (.vaonLow rising volts) s = .next t ∧
        Silent { s with drip := t.drip, pwr.vaon := volts } t ∧ t.drip.vaonOk = rising ∧
        t.drip.evts.getLast? = some { source := 2, dir := b2n rising, secs := calSeconds s.drip.live, sub := s.drip.sub
                                      posted := s.ready }) ∧
    (s.drip.vaonOk = rising → exec (.vaonLow rising volts) s = .next { s with pwr.vaon := volts })) ∧
  (∀ (g : Nat) (rising : Bool) (s : State), 1 ≤ g → g ≤ 4 → ∃ t, exec (.vfldLowEvent g rising) s = .next t ∧
    Silent { s with drip := t.drip } t ∧ t.drip.vfldOk.getLsbD (g - 1) = rising ∧
    (∀ k, k < 4 → k ≠ g - 1 → t.drip.vfldOk.getLsbD k = s.drip.vfldOk.getLsbD k) ∧
    t.drip.evts.getLast? = some { source := 2 + g, dir := b2n rising, secs := calSeconds s.drip.live
                                  sub := s.drip.sub, posted := s.ready }) ∧
  (∀ (n : Nat) (rising : Bool) (s : State), n < 2 →
    (bitOf (s.dripVal P.WAKE_EDGE 0) n = rising → bitOf (s.dripVal P.WAKE_EN 0) n = true → s.drip.dormant = true →
      ∃ t, exec (.wakeEvent n rising) s = .next t ∧ Silent { s with drip := t.drip } t ∧ t.drip.dormant = false ∧
        t.drip.causeBits = s.drip.causeBits ||| 16#5 ∧ t.drip.wakeSrc = n + 1 ∧
        t.drip.evts.getLast? = some { source := 7 + n, dir := b2n rising, secs := calSeconds s.drip.live
                                      sub := s.drip.sub, posted := s.ready }) ∧
    (bitOf (s.dripVal P.WAKE_EDGE 0) n = !rising → exec (.wakeEvent n rising) s = .next { s with
      drip.wakeState := if rising then s.drip.wakeState ||| (1#2 <<< n) else s.drip.wakeState &&& ~~~(1#2 <<< n) })) ∧
  (∀ s : State, s.rst.vbulkGood = true → exec .dripStateLoss s = .next s) ∧
  (∀ s : State, s.drip.onVaon = true → s.rst.vbulkGood = false → ∃ t, exec .dripStateLoss s = .next t ∧
    t = { s with drip := t.drip, key.kek := 0#256, key.kekValid := false, key.tamLatched := 0, key.tamMask := 0
                 key.tamCause := 0, key.tamTime := 0#64, time.tb2.valid := false } ∧
    t.drip.valid = false ∧ t.drip.evts = [] ∧ (s.key.kekValid = true → t.drip.kekLostDue = true))

/-- Supplies that fail and return, the host port's reset land, the I/O supplies and die temperatures have the effect
their rules give. (From R513, R519, R520, R549, R550, R554, 16_power_reset_calendar, 17_electrical_package) -/
def Obligations.SuppliesAndLandsComplete : Prop :=
  (∀ (volts : F32) (s : State), s.rst.vbulkGood = true → F32.lt volts (F32.ofRatio 9 1) = true →
    ∃ t, exec (.vbulkFail volts) s = .next t ∧ t.rst.stage = 1 ∧ t.rst.asserted = true ∧ t.rst.vbulkGood = false ∧
      t.drip.onVaon = true ∧ t.drip.causeBits = 2#5 ∧ t.pwr.vbulk = volts ∧ t.time.running = false ∧
      t.host.handles = [] ∧ t.host.queues = [] ∧ t.host.sessions = [] ∧ t.par = s.par ∧ t.drip.dormant = s.drip.dormant) ∧
  (∀ (volts : F32) (s : State), s.rst.vbulkGood = false → F32.lt (F32.ofRatio 96 10) volts = true →
    ∃ t, exec (.vbulkGood volts) s = .next t ∧ t.rst.vbulkGood = true ∧ t.rst.asserted = s.rst.pinLow ∧
      t.rst.stage = s.rst.stage ∧ t.drip.onVaon = false ∧ t.drip.causeBits = s.drip.causeBits ||| 2#5 ∧
      t.pwr.vbulk = volts) ∧
  (∀ (volts : F32) (s : State), ∃ t, exec (.vaonPowerOn volts) s = .next t ∧ t.rst.stage = 0 ∧
    t.rst.asserted = true ∧ t.drip.valid = false ∧ t.drip.evts = [] ∧ t.drip.causeBits = 1#5 ∧ t.key.kekValid = false ∧
    t.key.kek = 0#256 ∧ t.time.running = false ∧ t.host.handles = [] ∧ t.par = s.par) ∧
  (∀ s : State, s.rst.pinLow = false → ∃ t, exec .resetNAssert s = .next t ∧ t.rst.pinLow = true ∧
    t.rst.asserted = true ∧ t.rst.stage = 1 ∧ t.time.running = false ∧ t.host.handles = [] ∧ t.host.queues = [] ∧
    t.host.sessions = [] ∧ t.par = s.par ∧ t.drip.dormant = false ∧
    t.drip.causeBits = (if s.drip.dormant then 20#5 else 4#5) ∧
    t.drip.wakeSrc = (if s.drip.dormant then 4 else 0)) ∧
  (∀ s : State, s.rst.pinLow = true →
    exec .resetNRelease s = .next { s with rst.pinLow := false, rst.asserted := !s.rst.vbulkGood }) ∧
  (∀ s : State, s.hostUp = true → ∃ t, exec .pciePerstAssert s = .next t ∧
    t = { s with host.queues := t.host.queues, host.sessions := t.host.sessions, host.staging := t.host.staging
                 host.handles := t.host.handles, host.frameChs := t.host.frameChs
                 model.seriesStaged := t.model.seriesStaged, rst.perst := true } ∧
    (∀ q, q < 8 → (t.queue q).enable = false) ∧ (∀ c, (t.fch c).isOpen = false)) ∧
  (∀ s : State, exec .pciePerstRelease s = .next { s with rst.perst := false }) ∧
  (∀ (n : Nat) (s : State), 1 ≤ n → n ≤ 4 →
    (s.vioGood n = true → s.ready = true → n ≠ 1 → ∃ t, exec (.vioLoss n) s = .next t ∧
      Silent { s with rst.vio := s.rst.vio &&& ~~~(1#4 <<< (n - 1)) } t) ∧
    (s.vioGood n = true → s.ready = true → n = 1 → ∃ t, exec (.vioLoss n) s = .next t ∧
      t.rst.vio = s.rst.vio &&& ~~~(1#4 <<< (n - 1)) ∧
      (∀ c, c < 16 → (s.canCh c).state ≠ 0 → (s.canCh c).state ≠ 6 → (t.canCh c).state = 3) ∧
      (∀ c, ((s.canCh c).state = 0 ∨ (s.canCh c).state = 6) → t.canCh c = s.canCh c)) ∧
    (s.vioGood n = true → s.ready = false → exec (.vioLoss n) s = .next
      { s with rst.vio := s.rst.vio &&& ~~~(1#4 <<< (n - 1)) }) ∧
    (s.vioGood n = false → ∃ t, exec (.vioRestore n) s = .next t ∧ t.rst.vio = s.rst.vio ||| (1#4 <<< (n - 1)) ∧
      (n ≠ 1 → t = { s with rst.vio := s.rst.vio ||| (1#4 <<< (n - 1)) }))) ∧
  (∀ (d : Nat) (temp : F32) (s : State), s.dieFitted d = true →
    (F32.lt (F32.ofRatio 115 1) temp = true → s.rst.overTemp.contains d = false → s.ready = true →
      ∃ t, exec (.overTempRaise d temp) s = .next t ∧
        Silent { s with rst.dieTemp := tset s.rst.dieTemp d temp, rst.overTemp := s.rst.overTemp ++ [d] } t ∧
        t.aud.next = s.aud.next + 1) ∧
    (F32.lt (F32.ofRatio 115 1) temp = false ∨ s.rst.overTemp.contains d = true →
      exec (.overTempRaise d temp) s = .next { s with rst.dieTemp := tset s.rst.dieTemp d temp })) ∧
  (∀ (temps : List F32) (s : State), ∃ t, exec (.overTempClear temps) s = .next t ∧
    t = { s with rst.dieTemp := t.rst.dieTemp, rst.overTemp := t.rst.overTemp } ∧
    (∀ d, d < 6 → s.dieFitted d = true → d < temps.length →
      tget t.rst.dieTemp d = some (temps.getD d F32.zero)) ∧
    t.rst.overTemp = if t.rst.dieTemp.all (fun x => F32.le x.2 (F32.ofRatio 110 1)) then [] else s.rst.overTemp)

/-- Release goes step by step or halts, RESET starts it anew, firmware and blocks are loaded, tried and reset. (From
R519, R521, R522, R523, R526, R540, R525, 16_power_reset_calendar) -/
def Obligations.ReleaseComplete : Prop :=
  (∀ (obs : ReleaseObs) (s : State), s.mayRelease = true → obs.cond = true →
    (s.rst.stage = 0 → ∃ t, exec (.releaseStep obs) s = .next t ∧ t.rst.stage = 1 ∧ t.drip.cd0 = true) ∧
    (s.rst.stage = 1 → obs.trimAOk = true → ∃ t, exec (.releaseStep obs) s = .next t ∧ t.rst.stage = 2 ∧
      t.rst.asserted = false ∧ t.rst.trim = obs.trimA ∧ t.rst.trimCopy = 1) ∧
    (s.rst.stage = 1 → obs.trimAOk = false → obs.trimBOk = true → ∃ t, exec (.releaseStep obs) s = .next t ∧
      t.rst.stage = 2 ∧ t.rst.asserted = false ∧ t.rst.trim = obs.trimB ∧ t.rst.trimCopy = 2) ∧
    (s.rst.stage = 1 → obs.trimAOk = false → obs.trimBOk = false → ∃ t, exec (.releaseStep obs) s = .next t ∧
      t.rst.stage = 1 ∧ t.rst.halted = 2 ∧ t.rst.trim = s.rst.trim ∧ t.drip.bootFault = 2 ∧
      t.drip.bootFaultDue = true) ∧
    (s.rst.stage = 2 → ∃ t, exec (.releaseStep obs) s = .next t ∧ t.rst.stage = 3 ∧ t.rst.coreMv = 800 ∧
      t.pwr.setMv = 800) ∧
    (s.rst.stage = 3 → obs.testMode = true → ∃ t, exec (.releaseStep obs) s = .next t ∧ t.rst.stage = 4 ∧
      t.rst.halted = 4) ∧
    (s.rst.stage = 3 → obs.testMode = false → ∃ t, exec (.releaseStep obs) s = .next t ∧ t.rst.stage = 4 ∧
      (∀ x, s.rst.fwTrialNext = true → s.rst.fwLoaded = some x → t.rst.fwRunningTrial = true ∧
        t.ident.fw = x.version ∧ t.rst.fwSerial = x.serial ∧ t.rst.fwActive = 1 - s.rst.fwActive) ∧
      (s.rst.fwTrialNext = false → t.ident = s.ident ∧ t.rst.fwActive = s.rst.fwActive)) ∧
    (s.rst.stage = 4 → ∃ t, exec (.releaseStep obs) s = .next t ∧ t.rst.stage = 5) ∧
    (s.rst.stage = 5 → ∃ t, exec (.releaseStep obs) s = .next t ∧ t.rst.stage = if s.fitted then 6 else 7) ∧
    (s.rst.stage = 6 → ∃ t, exec (.releaseStep obs) s = .next t ∧ t.rst.stage = 7 ∧ t.rst.coreMv = t.railMv) ∧
    (s.rst.stage = 7 → s.rst.vio = 15#4 → ∃ t, exec (.releaseStep obs) s = .next t ∧
      t.rst.stage = if s.fitted then 8 else 10) ∧
    (s.rst.stage = 7 → s.rst.vio ≠ 15#4 → s.rst.fwRunningTrial = false → ∃ t, exec (.releaseStep obs) s = .next t ∧
      t.rst.stage = 7 ∧ t.rst.halted = 8 ∧ t.drip.bootFault = 8) ∧
    (8 ≤ s.rst.stage → ∃ t, exec (.releaseStep obs) s = .next t ∧ t.rst.stage = 10)) ∧
  (∀ (obs : ReleaseObs) (s : State), s.mayRelease = false → exec (.releaseStep obs) s = .next s) ∧
  (∀ (obs : ReleaseObs) (s : State), s.mayRelease = true → obs.cond = false →
    (s.rst.fwRunningTrial = false ∨ s.nextRelease < 5 → exec (.releaseStep obs) s = .next { s with
      drip.bootFault := s.nextRelease, drip.bootFaultDue := true, rst.halted := s.nextRelease } ∧
      exec .releaseHalt s = exec (.releaseStep obs) s) ∧
    (s.rst.fwRunningTrial = true → 5 ≤ s.nextRelease → ∃ t, exec .releaseHalt s = .next t ∧ t.rst.stage = 1 ∧
      t.rst.fwRunningTrial = false ∧ t.rst.fwTrialNext = false ∧ t.drip.fwFallback = true ∧
      t.drip.bootFault = s.nextRelease ∧ t.par = s.par)) ∧
  (∀ s : State, s.rst.fwRunningTrial = true → s.rst.stage < 10 → ∃ t, exec .fwTrialTimeout s = .next t ∧
    t.rst.stage = 1 ∧ t.rst.fwRunningTrial = false ∧ t.rst.fwTrialNext = false ∧ t.rst.fwTrial = 0 ∧
    t.drip.fwFallback = true ∧ t.par = s.par) ∧
  (∀ (h : Hdr) (mode : Nat) (s : State), s.admitted resetInfo h = true → mode ≤ 1 →
    (s.roleOf h.src = .maker → s.installerHeld = true ∧ (s.prog.run.mode = 0 ∨ s.prog.run.mode = 1)) →
    ∃ t, exec (.reset h mode) s = .next t ∧ t.rst.stage = 1 ∧ t.drip.causeBits = 8#5 ∧
      t.drip.dormant = (decide (mode = 1) || s.drip.dormant) ∧ t.time.running = false ∧ t.host.handles = [] ∧
      t.host.queues = [] ∧ t.host.sessions = [] ∧ t.par = s.par ∧ t.out = (s.answered resetInfo h mode {}).out) ∧
  (∀ (h : Hdr) (n : U32) (s : State), s.admitted fwLoadInfo h = true → s.rst.fwOp = none →
    s.rst.fwRunningTrial = false → s.nextHandle = some n → ∃ t, exec (.fwLoad h) s = .next t ∧
      Silent { s with rst := t.rst, host.handles := t.host.handles, host.freeList := t.host.freeList
                      host.accSeq := s.host.accSeq + 1 } t ∧
      t.rst = { s.rst with fwOp := some { handle := n, seq := s.host.accSeq }, fwLoaded := none
                           fwTrialNext := false, fwTrial := 0 }) ∧
  (∀ (bytes : List Byte) (img : FwImage) (o : LoadOp) (s : State), s.rst.fwOp = some o → s.ready = true →
    exec (.fwLoadDone bytes img) s = .next (({ s with
      rst.fwOp := none
      rst.fwLoaded := if s.fwCode bytes = 0 then some { img with serial := imgSerial bytes } else none } :
        State).complete o.handle (codeStatus (s.fwCode bytes)) (s.fwCode bytes) (leRec [(4, s.fwCode bytes)]))) ∧
  (∀ (h : Hdr) (x : FwImage) (s : State), s.admitted fwActivateInfo h = true → s.rst.fwOp = none →
    s.rst.fwRunningTrial = false → s.rst.fwLoaded = some x → ∃ t, exec (.fwActivate h) s = .next t ∧
      Silent { s with rst.fwTrialNext := true, rst.fwTrial := 1 } t) ∧
  (∀ (h : Hdr) (b i : Nat) (n : U32) (s : State), s.admitted blockResetInfo h = true → blockNamed b i = true →
    (s.fitted = true ∨ (b ≠ 1 ∧ b ≠ 2 ∧ b ≠ 6)) → (s.take h).blockIdle b i = true → s.nextHandle = some n →
    ∃ t, exec (.blockReset h b i) s = .next t ∧
      t.rst.blockOps = s.rst.blockOps ++ [{ handle := n, block := b, index := i }] ∧ t.par = s.par ∧
      (b = 2 → t.perc.parcels = [] ∧ t.perc.hasParcels = false) ∧
      (b = 5 → (t.canCh i).state = 0 ∧ ∀ k, k / 65 = i → tget t.can.bufs k = none) ∧
      (b = 6 → t.rst.dieReleased = false ∧ t.fio.linkLosses = s.fio.linkLosses) ∧
      (b = 7 → (t.port i).link = false ∧ (t.port i).mode = 0)) ∧
  (∀ (k : U32) (o : BlockOp) (s : State), s.rst.blockOps.find? (fun o => o.handle == k) = some o →
    exec (.blockResetDone k) s = .next ((({ s with
      rst.blockOps := s.rst.blockOps.filter (fun x => x.handle != k) } : State).freeBlock o.block).complete k
        St.OK 0 []))

/-- Loads, snapshots, mirrors, frame channels and every command with more than 1,408 bytes of data are answered PORT
on the management port, and only there. (R408) -/
def Obligations.HostPortOnlyCommands : Prop :=
  ∀ (c : Instr) (info : CmdInfo) (h : Hdr) (s : State), packetOf c = some (info, h) →
    let hostOnly : Bool := (match c with
      | .modelLoad _ => true
      | .progLoad _ => true
      | .snapshot _ _ _ _ => true
      | .mirrorOpen _ _ _ _ _ _ => true
      | .mirrorClose _ _ => true
      | .frameChOpen _ _ _ => true
      | .frameChClose _ _ => true
      | _ => false)
    (∀ n, h.src = .session n → (hostOnly = true ∨ 1408 < h.dataLen) → s.takeable h = true →
      ∃ m d, exec c s = .next ((s.take h).finish info h m d (reject St.PORT)) ∧
        Silent s ((s.take h).finish info h m d (reject St.PORT))) ∧
    (∀ n, h.src = .session n → hostOnly = false → h.dataLen ≤ 1408 → (s.take h).gate info h ≠ St.PORT) ∧
    (∀ n, h.src = .queue n → (s.take h).gate info h ≠ St.PORT)

/-- PCIE_PERST_N low disables every queue pair and frame channel, holds the host link down and resets nothing.
(R549) -/
def Obligations.PciePerstDisablesTheHostPort : Prop :=
  (∀ s : State,
    let off : State → Nat → State := fun a q => match exec (.queueDisable q) a with
      | .next b => b
      | _ => a
    let u := (List.range 8).foldl off s
    ∃ chs, exec .pciePerstAssert s = .next { u with rst.perst := true, host.frameChs := chs } ∧
      (∀ c, (tgetD chs c {}).isOpen = false) ∧
      u = { s with host.queues := u.host.queues, host.sessions := u.host.sessions, host.staging := u.host.staging
                   host.handles := u.host.handles, model.seriesStaged := u.model.seriesStaged } ∧
      (s.hostUp = true → ∀ q, q < 8 → (u.queue q).enable = false ∧
        ((s.queue q).enable = true → (u.queue q).enabled = false))) ∧
  (∀ (s : State), s.rst.perst = true → ∀ c : Instr, (match c with
      | .sqTail _ _ => True
      | .cqHead _ _ => True
      | .queueEnable _ => True
      | .queueDisable _ => True
      | .txTail _ _ _ => True
      | .rxTail _ _ => True
      | .registerWrite _ _ => True
      | .calRegRead _ => True
      | .calRegWrite _ _ => True
      | .calCommit => True
      | .calDiscard => True
      | _ => False) → exec c s = .next s) ∧
  (∀ s : State, exec .pciePerstRelease s = .next { s with rst.perst := false })

/-- Every command has the opcode and the roles that the command tables give it. (From R419, R476, R509, R540,
13_host_commands, 14_keys_roles, 15_redundancy, 16_power_reset_calendar) -/
def Obligations.CommandTableAsGiven : Prop :=
  (∀ x ∈ [(echoInfo, 0x0001), (paramReadInfo, 0x0002), (handleQueryInfo, 0x0006), (handleCloseInfo, 0x0007),
    (snapshotInfo, 0x0009), (mirrorOpenInfo, 0x000A), (mirrorCloseInfo, 0x000B), (alarmReadInfo, 0x000C),
    (auditReadInfo, 0x0404), (canHpReadInfo, 0x0903), (calReadInfo, 0x0D01)],
    x.1.op = x.2 ∧ x.1.who = []) ∧
  (∀ x ∈ [(commitInfo, 0x0004), (discardInfo, 0x0005), (frameChOpenInfo, 0x000E), (frameChCloseInfo, 0x000F),
    (timeSetInfo, 0x0201), (timeTestInfo, 0x0202), (calWriteEnableInfo, 0x0210), (blockResetInfo, 0x0302),
    (fwLoadInfo, 0x0303), (fwActivateInfo, 0x0304), (keyInstallInfo, 0x0401), (keyRemoveInfo, 0x0402), (tamperAckInfo,
    0x0405), (pairSwitchoverInfo, 0x0501), (pairResyncInfo, 0x0502), (bankSwapInfo, 0x0A01), (periodRestoreInfo,
    0x0A03), (progLoadInfo, 0x0B01), (progExchangeInfo, 0x0B02), (progDiscardInfo, 0x0B03), (holdInfo, 0x0B06),
    (modelLoadInfo, 0x0C01), (modelActivateInfo, 0x0C02), (modelDiscardInfo, 0x0C03), (calResetInfo, 0x0D02),
    (forgetMemberInfo, 0x0E01)],
    x.1.op = x.2 ∧ x.1.who = [.installer]) ∧
  (∀ x ∈ [(paramWriteInfo, 0x0003), (cancelInfo, 0x0008), (alarmAckInfo, 0x000D), (calDstInfo, 0x0211), (fieldAckInfo,
    0x0801), (canTransmitInfo, 0x0901), (canBufCancelInfo, 0x0902), (canRecoverInfo, 0x0904), (laneAckInfo, 0x0A02),
    (runInfo, 0x0B04), (stopInfo, 0x0B05), (faultAckInfo, 0x0B07), (elementServiceInfo, 0x0C04), (seriesWriteInfo,
    0x0C05), (seriesCommitInfo, 0x0C06), (solveInfo, 0x0C07), (flexActivateInfo, 0x0C08), (flexWithdrawInfo, 0x0C09)],
    x.1.op = x.2 ∧ x.1.who = [.operator, .installer]) ∧
  (∀ x ∈ [(resetInfo, 0x0301)],
    x.1.op = x.2 ∧ x.1.who = [.installer, .maker]) ∧
  (∀ x ∈ [(dripEventsReadInfo, 0x0305), (keyListInfo, 0x0403)],
    x.1.op = x.2 ∧ x.1.who = [.operator, .installer, .maker]) ∧
  (∀ n, n < 16 → (makerInfo (0x04F0 + n)).op = 0x04F0 + n ∧ (makerInfo (0x04F0 + n)).who = [.maker])

/-- At reset the registers, the parameters, the handle table and the queues hold the values that the register,
parameter and handle rules give. (From R148, R420, R428, R434, R445, R530, R531, R532, 13_host_commands,
16_power_reset_calendar, 04_solve_cycle) -/
def Obligations.ResetValuesAsGiven : Prop :=
  (List.range 8).map (calReg State.reset.drip.live) = [0, 0, 0, 1, 6, 1, 0x20, 0] ∧
  State.reset.calStatus = 0 ∧ State.reset.regWord 0x8024 = 0#32 ∧ State.reset.regWord 0x8100 = 0#32 ∧
  State.reset.regWord 0x8104 = 1#32 ∧ State.reset.regWord 0x0008 = 0#32 ∧
  (∀ n k, n < 8 → k < 8 → State.reset.regWord (0x0100 + 32 * n + 4 * k) = 0#32) ∧
  (∀ n, (State.reset.queue n).enabled = false ∧ (State.reset.queue n).bind = none) ∧
  State.reset.host.freeList = List.range 1024 ∧ (∀ h, State.reset.hUsed h = false) ∧
  (∀ id idx r, pspec id = some r → levelDefault id idx = none → isBankId id = false → id ≠ P.STN_DEST_MAC →
    State.reset.pv id idx = r.dflt) ∧
  State.reset.host.staging = [] ∧ State.reset.host.due = [] ∧ State.reset.host.pendCommits = [] ∧
  State.reset.slv.inForce = none ∧ State.reset.pending = []

/-- Every packet that is taken is recorded first, then answered once, and only then has its effect; a read leaves
the audit log as it is. (From R411, R412, R472, 13_host_commands, 14_keys_roles) -/
def Obligations.EveryPacketIsRecordedAnsweredAndThenActs : Prop :=
  ∀ (c : Instr) (info : CmdInfo) (h : Hdr) (s : State), packetOf c = some (info, h) → s.takeable h = true →
    (∃ (m : Nat) (d : List Byte × Bool) (v : Verdict), exec c s = .next (v.act (((s.take h).auditCmd info h m d v).reply h v)) ∧
      (info.isRead = false → ((s.take h).auditCmd info h m d v).aud.next = s.aud.next + 1)) ∧
    (info.isRead = true → ∃ t, exec c s = .next t ∧ t.aud = s.aud)

/-- While no handle is free, every long command that would otherwise be accepted is answered BUSY at once and opens
nothing. (R33) -/
def Obligations.NoFreeHandleIsBusy : Prop :=
  ∀ (h : Hdr) (s : State), s.host.freeList = [] →
    let u := s.take h
    let busy : CmdInfo → Nat → Host.Outcome State Fault Refusal := fun i m => .next (s.answered i h m (reject St.BUSY))
    (∀ items e, s.admitted commitInfo h = true → items ≠ [] → items.length ≤ 64 →
      firstBad (u.itemCode h.src) 0 items = none → (u.commitCode h.src items).2 = St.OK → s.epoch < e →
      e ≤ s.epoch + 691200000 → exec (.commit h items e) s = busy commitInfo (itemSubject items)) ∧
    (∀ ms addr len, s.admitted snapshotInfo h = true → u.membersCode ms = St.OK →
      (u.block 0xFF 0#32 (u.viewEpoch (kindsOf ms)) none ms).length ≤ len →
      (u.block 0xFF 0#32 (u.viewEpoch (kindsOf ms)) none ms).length ≤ 268435456 → s.host.snaps.length < 4 →
      exec (.snapshot h ms addr len) s = busy snapshotInfo addr.toNat) ∧
    (∀ ch buf data, s.admitted canTransmitInfo h = true → ch < 16 → buf < 64 → u.bufN ch buf 0 = 2 →
      u.bufN ch buf 2 = 0 → data.length ≤ u.bufN ch buf 8 - u.trailerLen ch buf →
      (u.canBuf ch buf).pending = false → (u.canBuf ch buf).committed = false →
      exec (.canTransmit h ch buf data) s = busy canTransmitInfo (ch * 65 + buf)) ∧
    (∀ lanes e, s.admitted bankSwapInfo h = true → swapRange lanes e s.epoch = true →
      (∀ l ∈ lanes, (u.lane? l).swapPend = none) →
      (∀ l ∈ lanes, u.bankOk (u.inactiveBank l) l = true) → u.slotsOk = true →
      exec (.bankSwap h lanes e) s = busy bankSwapInfo e) ∧
    (s.admitted progLoadInfo h = true → s.prog.op = none → exec (.progLoad h) s = busy progLoadInfo 0) ∧
    (∀ p, s.admitted progExchangeInfo h = true → s.prog.op = none → s.prog.run.mode ≤ 1 → u.stagedProg = some p →
      (u.fitted = true ∨ progNeedsFit p = false) → exec (.progExchange h) s = busy progExchangeInfo 0) ∧
    (s.admitted modelLoadInfo h = true → s.model.op = none → exec (.modelLoad h) s = busy modelLoadInfo 0) ∧
    (∀ keep m, s.admitted modelActivateInfo h = true → s.model.op = none → u.stagedModel = some m →
      exec (.modelActivate h keep) s = busy modelActivateInfo 0) ∧
    (∀ kind budget hstart, s.admitted solveInfo h = true → (kind = 1 ∨ kind = 2) →
      (budget = 0 ∨ (20 ≤ budget ∧ budget ≤ 900000)) → hstart ≤ s.epoch + 691200000 → u.activeModel.isSome = true →
      s.slv.waiting = none → exec (.solve h kind budget hstart) s = busy solveInfo 0) ∧
    (∀ a, s.admitted flexActivateInfo h = true → u.flexOk a = true →
      exec (.flexActivate h a) s = busy flexActivateInfo a.extId.toNat) ∧
    (∀ k, s.admitted flexWithdrawInfo h = true → k < 16 → (tgetD s.slv.slots k {}).filled = true →
      exec (.flexWithdraw h k) s = busy flexWithdrawInfo k) ∧
    (∀ a, s.admitted keyInstallInfo h = true → keyFieldsOk a s.epoch = true → u.installOpen a.label = false →
      u.switchPending a.label = false → u.installAgrees h.src a = true →
      exec (.keyInstall h a) s =
        .next (u.finish keyInstallInfo h a.label.toNat (u.installDetail a, false) (reject St.BUSY))) ∧
    (s.admitted pairSwitchoverInfo h = true → s.pair.unit = .active → s.pair.partner = some .synced →
      s.pair.partnerFailed = false → s.pair.switchover = none →
      exec (.pairSwitchover h) s = busy pairSwitchoverInfo 0) ∧
    (∀ b i, s.admitted blockResetInfo h = true → blockNamed b i = true →
      (u.fitted = true ∨ (b ≠ 1 ∧ b ≠ 2 ∧ b ≠ 6)) → u.blockIdle b i = true →
      exec (.blockReset h b i) s = busy blockResetInfo (65536 * b + i)) ∧
    (s.admitted fwLoadInfo h = true → s.rst.fwOp = none → s.rst.fwRunningTrial = false →
      exec (.fwLoad h) s = busy fwLoadInfo 0)

/-- A new handle is the index that has been free the longest with the next generation, which is never 0, and a freed
index waits behind all others. (From R12, R420, R421, 00_scope, 13_host_commands) -/
def Obligations.HandleNumbersFollowTheirRule : Prop :=
  ∀ (s : State) (i : Nat) (r : List Nat), s.host.freeList = i :: r → i < 1024 → (s.hent i).gen ≤ 255 →
    ∃ n, s.nextHandle = some n ∧ hIndex n = i ∧ hGen n = (if (s.hent i).gen = 255 then 1 else (s.hent i).gen + 1) ∧
      n ≠ 0#32 ∧ hGen n ≠ (s.hent i).gen ∧
      (∀ (src cq : Src) (tag : U32) (op : Nat),
        (s.openHandle src cq tag op).host.freeList = r ∧ (s.openHandle src cq tag op).hOpen n = true ∧
        ((s.openHandle src cq tag op).hent i).src = src ∧ ((s.openHandle src cq tag op).hent i).op = op ∧
        (∀ k, k ≠ i → (s.openHandle src cq tag op).hent k = s.hent k) ∧
        (∀ m, hIndex m = i → m ≠ n → (s.openHandle src cq tag op).hUsed m = false)) ∧
      (s.freeHandle i).host.freeList = i :: r ++ [i] ∧ ((s.freeHandle i).hent i).gen = (s.hent i).gen ∧
      (∀ m, hIndex m = i → (s.freeHandle i).hUsed m = false)

/-- A completion record that meets a full completion queue is counted as lost and kept by its handle until the host
queries or closes it. (R34) -/
def Obligations.FullQueueKeepsTheRecordInItsHandle : Prop :=
  (∀ (s : State) (h : U32) (q status detail : Nat) (data : List Byte), s.hOpen h = true →
    (s.hent (hIndex h)).closed = false → (s.hent (hIndex h)).cq = .queue q → (s.queue q).enabled = true →
    (s.queue q).cqFull = true →
    let t := s.complete h status detail data
    t.out = s.out ∧ (t.queue q).lost = (s.queue q).lost + 1 ∧ (t.queue q).cqCount = (s.queue q).cqCount ∧
    (∀ k, k ≠ q → t.queue k = s.queue k) ∧ t.host.freeList = s.host.freeList ∧
    (t.hent (hIndex h)).st = .completed ∧ (t.hent (hIndex h)).gen = (s.hent (hIndex h)).gen ∧
    (t.hent (hIndex h)).src = (s.hent (hIndex h)).src ∧ (t.hent (hIndex h)).recData = data ∧
    (∃ e, (t.hent (hIndex h)).record = some e ∧ e.handle = h ∧ e.status = status ∧ e.detail = detail ∧
      e.tag = (s.hent (hIndex h)).tag ∧ e.kind = 2)) ∧
  (∀ (p : Hdr) (h : U32) (e : Entry) (s : State), (s.take p).holds p.src h = true →
    ((s.take p).hent (hIndex h)).st = .completed → ((s.take p).hent (hIndex h)).record = some e →
    (s.admitted handleQueryInfo p = true →
      (entryBytes e ++ ((s.take p).hent (hIndex h)).recData).length ≤ p.room →
      exec (.handleQuery p h) s = .next ((s.answered handleQueryInfo p h.toNat
        { data := entryBytes e ++ ((s.take p).hent (hIndex h)).recData }).freeHandle (hIndex h))) ∧
    (s.admitted handleCloseInfo p = true → exec (.handleClose p h) s = .next ((s.answered handleCloseInfo p h.toNat
        {}).freeHandle (hIndex h))))

/-- A frame of more than 1,600 bytes is discarded and counted, and one of 64 to 1,600 bytes that its port can take
is accepted. (R379) -/
def Obligations.LongFramesAreDiscardedAndCounted : Prop :=
  (∀ (f : NetFrame) (s : State), s.ready = true → (s.port f.port).link = true → s.netPort f.port = true →
    (1600 < f.len → exec (.ringFrameRx f) s =
      .next (s.setPort f.port { s.port f.port with oversize := (s.port f.port).oversize + 1 })) ∧
    (64 ≤ f.len → f.len ≤ 1600 → f.taken = true → ∃ t, exec (.ringFrameRx f) s = .next t ∧
      (t.port f.port).rxFrames = (s.port f.port).rxFrames + 1 ∧ (t.port f.port).oversize = (s.port f.port).oversize)) ∧
  (∀ (f : NetFrame) (ds : List RxDesc) (s : State), s.ready = true → (s.port f.port).link = true →
    (s.port f.port).mode ≠ 0 → s.netPort f.port = false →
    (1600 < f.len → exec (.hostFrameRx f ds) s =
      .next (s.setPort f.port { s.port f.port with oversize := (s.port f.port).oversize + 1 })) ∧
    (f.len ≤ 1600 → f.taken = false → exec (.hostFrameRx f ds) s =
      .next (s.setPort f.port { s.port f.port with rxDropped := (s.port f.port).rxDropped + 1 })) ∧
    (f.len ≤ 1600 → f.taken = true → ∃ t, exec (.hostFrameRx f ds) s = .next t ∧
      (t.port f.port).rxFrames = (s.port f.port).rxFrames + 1 ∧ (t.port f.port).oversize = (s.port f.port).oversize))

/-- A standby writes section 1 of each complete checkpoint into its committed values at once, and restarts with
them. (R494) -/
def Obligations.SectionOneIsWrittenAtOnce : Prop :=
  (∀ (p : PairHdr) (frags : Nat) (crc : U32) (b : Ckpt) (s : State), s.takesCkpt p = true → p.len = 8 →
    (s.pair.rxSeqSeen = false ∨ BitVec.ofNat 32 p.seq = s.pair.rxSeq + 1) → s.pair.building = some b → b.k = p.epoch →
    s.pair.buildFrags = frags → crc32 s.pair.buildBytes = crc →
    ∃ t, exec (.ckptEndRx p frags crc) s = .next t ∧ t.pair.latest = some b ∧
      (∀ v, b.sec1 = some v → t.par.vals = tjoin (s.par.vals.filter (fun x => !ckptCarries x.1)) v.vals ∧
        t.par.bankA = v.banksA ∧ t.par.bankB = v.banksB) ∧
      (b.sec1 = none → t.par = s.par)) ∧
  (∀ s : State, s.rst.pinLow = false → ∃ t, exec .resetNAssert s = .next t ∧ t.par = s.par)

/-- A solve that ends, however it ends, changes no plan in force, no calibration in force or staged and no reference
point. (From R95, R126, R135, R137, 04_solve_cycle, 03_dispatch_problem) -/
def Obligations.EndedSolvesLeaveThePlanInForce : Prop :=
  (∀ (r : SolveResult) (s : State), ∃ t, exec (.solvePublish r) s = .next t ∧ t.slv.inForce = s.slv.inForce ∧
    t.slv.prev = s.slv.prev ∧ t.perc = s.perc ∧ ∀ m, t.refPlanFor m = s.refPlanFor m) ∧
  (∀ (us : Nat) (r : SolveResult) (s : State), ∃ t, exec (.solveOverrun us r) s = .next t ∧ t.slv.inForce = s.slv.inForce ∧
    t.slv.prev = s.slv.prev ∧ t.perc = s.perc ∧ (∀ m, t.refPlanFor m = s.refPlanFor m) ∧
    (t = s ∨ t.slv.fails = min 65535 (s.slv.fails + 1))) ∧
  (∀ (us : Nat) (r : SolveResult) (s : State), ∃ t, exec (.solveStopped us r) s = .next t ∧ t.slv.inForce = s.slv.inForce ∧
    t.slv.prev = s.slv.prev ∧ t.perc = s.perc ∧ (∀ m, t.refPlanFor m = s.refPlanFor m) ∧
    (∀ v, s.slv.running = some v → (v.stopReq = 5 ∨ v.stopReq = 6) → t.slv.fails = s.slv.fails))

/-- What stands at the end of its time box can be ended row by row, in at most one row for each CAN buffer and four
more, and the epoch clock then goes on. (From R31, R36, R38, R126, R192, R364, 01_architecture) -/
def Obligations.WorkAtItsBoundEndsAndTheClockGoesOn : Prop :=
  ∀ s : State, s.time.running = true → s.rst.asserted = false →
    (s.overdue = true → ∀ obs, exec (.tick obs) s = .next s) ∧
    ∃ (cs : List Instr) (t : State), cs.length ≤ s.can.bufs.length + 4 ∧
      (∀ c ∈ cs, (∃ us r, c = .solveOverrun us r) ∨ (∃ l, c = .roundClose l) ∨ ∃ ch b, c = .canTxTimeout ch b) ∧
      cs.foldl (fun o c => match o with
        | Host.Outcome.next u => exec c u
        | x => x) (Host.Outcome.next s) = .next t ∧
      t.epoch = s.epoch ∧ t.overdue = false ∧
      ∀ obs, ∃ u, exec (.tick obs) t = .next u ∧ u.epoch = s.epoch + 1

/-- TASK_CYCLE_START, TASK_PUBLICATION, TASK_APPLY and STOP_VALUES_APPLY each complete with their own effect where
R251, R253 and R261 place them. (From R251, R253, R255, R261, 08_cyclic_programs) -/
def Obligations.TaskRowsComplete : Prop :=
  (∀ (k : Nat) (s : State), s.live = true → s.order ≤ 7 → k < 4 → s.prog.run.mode = 2 → s.taskEnabled k = true →
    s.cycleTick k = true → (s.task1 k).cycle = none →
    ((s.task1 k).everPub = false ∨ (s.task1 k).lastCycle ≠ s.epoch) →
    exec (.taskCycleStart k) s = .next { s with
      order := 7
      prog.run.tasks := tset s.prog.run.tasks k
        { s.task1 k with cycle := some (s.newCycle k), closeDue := some s.epoch } }) ∧
  (∀ (k us : Nat) (y : Cycle) (p : Program) (s : State), (s.task1 k).cycle = some y → s.activeProg = some p →
    s.live = true → s.prog.run.mode = 2 →
    (y.closed = true → s.epoch ≤ y.d → us ≤ (y.d - y.c) * 125 →
      exec (.taskPublication k us) s = .next (s.closeEdge.publishCycle p k y us)) ∧
    ((y.closed = false ∨ y.d < s.epoch) → exec (.taskPublication k us) s = .next s)) ∧
  (∀ (k c a : Nat) (v : F32) (s : State), s.live = true → s.fitted = true → c < 32 →
    isOutMode (s.fio1 c).mode = true → a ≤ s.epoch →
    ((s.task1 k).applyPend = [(a, [(c, v)])] → ∃ t, exec (.taskApply k) s = .next t ∧
      (t.fio1 c).owned = v ∧ (t.fio1 c).hasValue = true ∧ (t.pt c).epoch = a ∧ (∀ q, q ≠ c → t.pt q = s.pt q) ∧
      t.task1 k = { s.task1 k with applyPend := [] }) ∧
    ((s.task1 k).stopPend = [(a, [(c, v)])] → ∃ t, exec (.stopValuesApply k) s = .next t ∧
      (t.fio1 c).owned = v ∧ (t.fio1 c).hasValue = true ∧ (t.pt c).epoch = a ∧ (∀ q, q ≠ c → t.pt q = s.pt q) ∧
      t.task1 k = { s.task1 k with stopPend := [] }))

/-- RING_FRAME_RX, HSR_SUPERVISION_TX, HOST_FRAME_RX and PORT_LINK_CHANGE each complete with their own effect on a
running unit. (From R379, R381, R386, R390, R444, 12_ports_time) -/
def Obligations.PortRowsComplete : Prop :=
  (∀ (f : NetFrame) (s : State), s.ready = true → s.netPort f.port = true → (s.port f.port).link = true →
    64 ≤ f.len → f.len ≤ 1600 → f.taken = true →
    (f.pause = true ∨ (s.secured f.port = false ∧ f.hsr = none)) →
    exec (.ringFrameRx f) s = .next (s.setPort f.port { s.port f.port with rxFrames := (s.port f.port).rxFrames + 1 })) ∧
  (∀ s : State, s.ready = true → (s.port 0).mode = 1 → (s.port 1).mode = 1 → (s.port 0).link = true →
    (s.port 1).link = true → s.secured 0 = false → s.secured 1 = false →
    ∃ t bs, exec .hsrSupervisionTx s = .next t ∧
      bs = beRec [(2, 1), (2, s.net.supSeq), (1, 23), (1, 6), (6, s.net.mac.toNat), (2, 0)] ∧
      t.out = .frame 1 0x88FB 0x01154E000100#48 bs :: .frame 0 0x88FB 0x01154E000100#48 bs :: s.out ∧
      (t.port 0).txFrames = (s.port 0).txFrames + 1 ∧ (t.port 1).txFrames = (s.port 1).txFrames + 1 ∧
      t.net.supSeq = (s.net.supSeq + 1) % 65536 ∧ t.net.hsrSeq = (s.net.hsrSeq + 1) % 65536) ∧
  (∀ (f : NetFrame) (ds : List RxDesc) (s : State), s.ready = true → (s.port f.port).mode ≠ 0 →
    (s.port f.port).link = true → s.netPort f.port = false → f.len ≤ 1600 → f.taken = true →
    ((s.consumes f.ethertype = true ∧ (f.ethertype ≠ 0x88F7 ∨ s.pn P.PTP_MIRROR 0 ≠ 1)) ∨ s.rxChannel f.port = none) →
    exec (.hostFrameRx f ds) s = .next (s.setPort f.port { s.port f.port with rxFrames := (s.port f.port).rxFrames + 1 })) ∧
  (∀ (port : Nat) (up : Bool) (s : State), port < 6 → 8 ≤ s.rst.stage → s.rst.asserted = false → s.stn.stns = [] →
    exec (.portLinkChange port up) s = .next (s.setPort port { s.port port with link := up }))
end

