-- ==== Sys2Proof/Laws/State.lean ====
section
/-! SUPPORT. What each named update of the state leaves alone: every other part of the state. -/

namespace Sys2Proof.Laws
open Sys2Proof.Machine

@[simp] theorem setPv_epoch (s : State) (id idx : Nat) (v : PVal) : (s.setPv id idx v).epoch = s.epoch := rfl
@[simp] theorem setPv_order (s : State) (id idx : Nat) (v : PVal) : (s.setPv id idx v).order = s.order := rfl
@[simp] theorem setPv_ident (s : State) (id idx : Nat) (v : PVal) : (s.setPv id idx v).ident = s.ident := rfl
@[simp] theorem setPv_host (s : State) (id idx : Nat) (v : PVal) : (s.setPv id idx v).host = s.host := rfl
@[simp] theorem setPv_lane (s : State) (id idx : Nat) (v : PVal) : (s.setPv id idx v).lane = s.lane := rfl
@[simp] theorem setPv_prog (s : State) (id idx : Nat) (v : PVal) : (s.setPv id idx v).prog = s.prog := rfl
@[simp] theorem setPv_model (s : State) (id idx : Nat) (v : PVal) : (s.setPv id idx v).model = s.model := rfl
@[simp] theorem setPv_slv (s : State) (id idx : Nat) (v : PVal) : (s.setPv id idx v).slv = s.slv := rfl
@[simp] theorem setPv_perc (s : State) (id idx : Nat) (v : PVal) : (s.setPv id idx v).perc = s.perc := rfl
@[simp] theorem setPv_afe (s : State) (id idx : Nat) (v : PVal) : (s.setPv id idx v).afe = s.afe := rfl
@[simp] theorem setPv_fed (s : State) (id idx : Nat) (v : PVal) : (s.setPv id idx v).fed = s.fed := rfl
@[simp] theorem setPv_stn (s : State) (id idx : Nat) (v : PVal) : (s.setPv id idx v).stn = s.stn := rfl
@[simp] theorem setPv_pts (s : State) (id idx : Nat) (v : PVal) : (s.setPv id idx v).pts = s.pts := rfl
@[simp] theorem setPv_fio (s : State) (id idx : Nat) (v : PVal) : (s.setPv id idx v).fio = s.fio := rfl
@[simp] theorem setPv_can (s : State) (id idx : Nat) (v : PVal) : (s.setPv id idx v).can = s.can := rfl
@[simp] theorem setPv_net (s : State) (id idx : Nat) (v : PVal) : (s.setPv id idx v).net = s.net := rfl
@[simp] theorem setPv_time (s : State) (id idx : Nat) (v : PVal) : (s.setPv id idx v).time = s.time := rfl
@[simp] theorem setPv_key (s : State) (id idx : Nat) (v : PVal) : (s.setPv id idx v).key = s.key := rfl
@[simp] theorem setPv_aud (s : State) (id idx : Nat) (v : PVal) : (s.setPv id idx v).aud = s.aud := rfl
@[simp] theorem setPv_pair (s : State) (id idx : Nat) (v : PVal) : (s.setPv id idx v).pair = s.pair := rfl
@[simp] theorem setPv_pwr (s : State) (id idx : Nat) (v : PVal) : (s.setPv id idx v).pwr = s.pwr := rfl
@[simp] theorem setPv_rst (s : State) (id idx : Nat) (v : PVal) : (s.setPv id idx v).rst = s.rst := rfl
@[simp] theorem setPv_drip (s : State) (id idx : Nat) (v : PVal) : (s.setPv id idx v).drip = s.drip := rfl
@[simp] theorem setPv_past (s : State) (id idx : Nat) (v : PVal) : (s.setPv id idx v).past = s.past := rfl
@[simp] theorem setPv_edge (s : State) (id idx : Nat) (v : PVal) : (s.setPv id idx v).edge = s.edge := rfl
@[simp] theorem setPv_latch (s : State) (id idx : Nat) (v : PVal) : (s.setPv id idx v).latch = s.latch := rfl
@[simp] theorem setPv_pending (s : State) (id idx : Nat) (v : PVal) : (s.setPv id idx v).pending = s.pending := rfl
@[simp] theorem setPv_out (s : State) (id idx : Nat) (v : PVal) : (s.setPv id idx v).out = s.out := rfl
@[simp] theorem setPv_free (s : State) (id idx : Nat) (v : PVal) : (s.setPv id idx v).free = s.free := rfl
@[simp] theorem emit_epoch (s : State) (m : OutMsg) : (s.emit m).epoch = s.epoch := rfl
@[simp] theorem emit_order (s : State) (m : OutMsg) : (s.emit m).order = s.order := rfl
@[simp] theorem emit_ident (s : State) (m : OutMsg) : (s.emit m).ident = s.ident := rfl
@[simp] theorem emit_host (s : State) (m : OutMsg) : (s.emit m).host = s.host := rfl
@[simp] theorem emit_par (s : State) (m : OutMsg) : (s.emit m).par = s.par := rfl
@[simp] theorem emit_lane (s : State) (m : OutMsg) : (s.emit m).lane = s.lane := rfl
@[simp] theorem emit_prog (s : State) (m : OutMsg) : (s.emit m).prog = s.prog := rfl
@[simp] theorem emit_model (s : State) (m : OutMsg) : (s.emit m).model = s.model := rfl
@[simp] theorem emit_slv (s : State) (m : OutMsg) : (s.emit m).slv = s.slv := rfl
@[simp] theorem emit_perc (s : State) (m : OutMsg) : (s.emit m).perc = s.perc := rfl
@[simp] theorem emit_afe (s : State) (m : OutMsg) : (s.emit m).afe = s.afe := rfl
@[simp] theorem emit_fed (s : State) (m : OutMsg) : (s.emit m).fed = s.fed := rfl
@[simp] theorem emit_stn (s : State) (m : OutMsg) : (s.emit m).stn = s.stn := rfl
@[simp] theorem emit_pts (s : State) (m : OutMsg) : (s.emit m).pts = s.pts := rfl
@[simp] theorem emit_fio (s : State) (m : OutMsg) : (s.emit m).fio = s.fio := rfl
@[simp] theorem emit_can (s : State) (m : OutMsg) : (s.emit m).can = s.can := rfl
@[simp] theorem emit_net (s : State) (m : OutMsg) : (s.emit m).net = s.net := rfl
@[simp] theorem emit_time (s : State) (m : OutMsg) : (s.emit m).time = s.time := rfl
@[simp] theorem emit_key (s : State) (m : OutMsg) : (s.emit m).key = s.key := rfl
@[simp] theorem emit_aud (s : State) (m : OutMsg) : (s.emit m).aud = s.aud := rfl
@[simp] theorem emit_pair (s : State) (m : OutMsg) : (s.emit m).pair = s.pair := rfl
@[simp] theorem emit_pwr (s : State) (m : OutMsg) : (s.emit m).pwr = s.pwr := rfl
@[simp] theorem emit_rst (s : State) (m : OutMsg) : (s.emit m).rst = s.rst := rfl
@[simp] theorem emit_drip (s : State) (m : OutMsg) : (s.emit m).drip = s.drip := rfl
@[simp] theorem emit_past (s : State) (m : OutMsg) : (s.emit m).past = s.past := rfl
@[simp] theorem emit_edge (s : State) (m : OutMsg) : (s.emit m).edge = s.edge := rfl
@[simp] theorem emit_latch (s : State) (m : OutMsg) : (s.emit m).latch = s.latch := rfl
@[simp] theorem emit_pending (s : State) (m : OutMsg) : (s.emit m).pending = s.pending := rfl
@[simp] theorem emit_free (s : State) (m : OutMsg) : (s.emit m).free = s.free := rfl
@[simp] theorem setQueue_epoch (s : State) (n : Nat) (q : QPair) : (s.setQueue n q).epoch = s.epoch := rfl
@[simp] theorem setQueue_order (s : State) (n : Nat) (q : QPair) : (s.setQueue n q).order = s.order := rfl
@[simp] theorem setQueue_ident (s : State) (n : Nat) (q : QPair) : (s.setQueue n q).ident = s.ident := rfl
@[simp] theorem setQueue_par (s : State) (n : Nat) (q : QPair) : (s.setQueue n q).par = s.par := rfl
@[simp] theorem setQueue_lane (s : State) (n : Nat) (q : QPair) : (s.setQueue n q).lane = s.lane := rfl
@[simp] theorem setQueue_prog (s : State) (n : Nat) (q : QPair) : (s.setQueue n q).prog = s.prog := rfl
@[simp] theorem setQueue_model (s : State) (n : Nat) (q : QPair) : (s.setQueue n q).model = s.model := rfl
@[simp] theorem setQueue_slv (s : State) (n : Nat) (q : QPair) : (s.setQueue n q).slv = s.slv := rfl
@[simp] theorem setQueue_perc (s : State) (n : Nat) (q : QPair) : (s.setQueue n q).perc = s.perc := rfl
@[simp] theorem setQueue_afe (s : State) (n : Nat) (q : QPair) : (s.setQueue n q).afe = s.afe := rfl
@[simp] theorem setQueue_fed (s : State) (n : Nat) (q : QPair) : (s.setQueue n q).fed = s.fed := rfl
@[simp] theorem setQueue_stn (s : State) (n : Nat) (q : QPair) : (s.setQueue n q).stn = s.stn := rfl
@[simp] theorem setQueue_pts (s : State) (n : Nat) (q : QPair) : (s.setQueue n q).pts = s.pts := rfl
@[simp] theorem setQueue_fio (s : State) (n : Nat) (q : QPair) : (s.setQueue n q).fio = s.fio := rfl
@[simp] theorem setQueue_can (s : State) (n : Nat) (q : QPair) : (s.setQueue n q).can = s.can := rfl
@[simp] theorem setQueue_net (s : State) (n : Nat) (q : QPair) : (s.setQueue n q).net = s.net := rfl
@[simp] theorem setQueue_time (s : State) (n : Nat) (q : QPair) : (s.setQueue n q).time = s.time := rfl
@[simp] theorem setQueue_key (s : State) (n : Nat) (q : QPair) : (s.setQueue n q).key = s.key := rfl
@[simp] theorem setQueue_aud (s : State) (n : Nat) (q : QPair) : (s.setQueue n q).aud = s.aud := rfl
@[simp] theorem setQueue_pair (s : State) (n : Nat) (q : QPair) : (s.setQueue n q).pair = s.pair := rfl
@[simp] theorem setQueue_pwr (s : State) (n : Nat) (q : QPair) : (s.setQueue n q).pwr = s.pwr := rfl
@[simp] theorem setQueue_rst (s : State) (n : Nat) (q : QPair) : (s.setQueue n q).rst = s.rst := rfl
@[simp] theorem setQueue_drip (s : State) (n : Nat) (q : QPair) : (s.setQueue n q).drip = s.drip := rfl
@[simp] theorem setQueue_past (s : State) (n : Nat) (q : QPair) : (s.setQueue n q).past = s.past := rfl
@[simp] theorem setQueue_edge (s : State) (n : Nat) (q : QPair) : (s.setQueue n q).edge = s.edge := rfl
@[simp] theorem setQueue_latch (s : State) (n : Nat) (q : QPair) : (s.setQueue n q).latch = s.latch := rfl
@[simp] theorem setQueue_pending (s : State) (n : Nat) (q : QPair) : (s.setQueue n q).pending = s.pending := rfl
@[simp] theorem setQueue_out (s : State) (n : Nat) (q : QPair) : (s.setQueue n q).out = s.out := rfl
@[simp] theorem setQueue_free (s : State) (n : Nat) (q : QPair) : (s.setQueue n q).free = s.free := rfl
@[simp] theorem setSess_epoch (s : State) (n : Nat) (v : Session) : (s.setSess n v).epoch = s.epoch := rfl
@[simp] theorem setSess_order (s : State) (n : Nat) (v : Session) : (s.setSess n v).order = s.order := rfl
@[simp] theorem setSess_ident (s : State) (n : Nat) (v : Session) : (s.setSess n v).ident = s.ident := rfl
@[simp] theorem setSess_par (s : State) (n : Nat) (v : Session) : (s.setSess n v).par = s.par := rfl
@[simp] theorem setSess_lane (s : State) (n : Nat) (v : Session) : (s.setSess n v).lane = s.lane := rfl
@[simp] theorem setSess_prog (s : State) (n : Nat) (v : Session) : (s.setSess n v).prog = s.prog := rfl
@[simp] theorem setSess_model (s : State) (n : Nat) (v : Session) : (s.setSess n v).model = s.model := rfl
@[simp] theorem setSess_slv (s : State) (n : Nat) (v : Session) : (s.setSess n v).slv = s.slv := rfl
@[simp] theorem setSess_perc (s : State) (n : Nat) (v : Session) : (s.setSess n v).perc = s.perc := rfl
@[simp] theorem setSess_afe (s : State) (n : Nat) (v : Session) : (s.setSess n v).afe = s.afe := rfl
@[simp] theorem setSess_fed (s : State) (n : Nat) (v : Session) : (s.setSess n v).fed = s.fed := rfl
@[simp] theorem setSess_stn (s : State) (n : Nat) (v : Session) : (s.setSess n v).stn = s.stn := rfl
@[simp] theorem setSess_pts (s : State) (n : Nat) (v : Session) : (s.setSess n v).pts = s.pts := rfl
@[simp] theorem setSess_fio (s : State) (n : Nat) (v : Session) : (s.setSess n v).fio = s.fio := rfl
@[simp] theorem setSess_can (s : State) (n : Nat) (v : Session) : (s.setSess n v).can = s.can := rfl
@[simp] theorem setSess_net (s : State) (n : Nat) (v : Session) : (s.setSess n v).net = s.net := rfl
@[simp] theorem setSess_time (s : State) (n : Nat) (v : Session) : (s.setSess n v).time = s.time := rfl
@[simp] theorem setSess_key (s : State) (n : Nat) (v : Session) : (s.setSess n v).key = s.key := rfl
@[simp] theorem setSess_aud (s : State) (n : Nat) (v : Session) : (s.setSess n v).aud = s.aud := rfl
@[simp] theorem setSess_pair (s : State) (n : Nat) (v : Session) : (s.setSess n v).pair = s.pair := rfl
@[simp] theorem setSess_pwr (s : State) (n : Nat) (v : Session) : (s.setSess n v).pwr = s.pwr := rfl
@[simp] theorem setSess_rst (s : State) (n : Nat) (v : Session) : (s.setSess n v).rst = s.rst := rfl
@[simp] theorem setSess_drip (s : State) (n : Nat) (v : Session) : (s.setSess n v).drip = s.drip := rfl
@[simp] theorem setSess_past (s : State) (n : Nat) (v : Session) : (s.setSess n v).past = s.past := rfl
@[simp] theorem setSess_edge (s : State) (n : Nat) (v : Session) : (s.setSess n v).edge = s.edge := rfl
@[simp] theorem setSess_latch (s : State) (n : Nat) (v : Session) : (s.setSess n v).latch = s.latch := rfl
@[simp] theorem setSess_pending (s : State) (n : Nat) (v : Session) : (s.setSess n v).pending = s.pending := rfl
@[simp] theorem setSess_out (s : State) (n : Nat) (v : Session) : (s.setSess n v).out = s.out := rfl
@[simp] theorem setSess_free (s : State) (n : Nat) (v : Session) : (s.setSess n v).free = s.free := rfl
@[simp] theorem auditPush_epoch (s : State) (x : AuditRec) : (s.auditPush x).epoch = s.epoch := rfl
@[simp] theorem auditPush_order (s : State) (x : AuditRec) : (s.auditPush x).order = s.order := rfl
@[simp] theorem auditPush_ident (s : State) (x : AuditRec) : (s.auditPush x).ident = s.ident := rfl
@[simp] theorem auditPush_host (s : State) (x : AuditRec) : (s.auditPush x).host = s.host := rfl
@[simp] theorem auditPush_par (s : State) (x : AuditRec) : (s.auditPush x).par = s.par := rfl
@[simp] theorem auditPush_lane (s : State) (x : AuditRec) : (s.auditPush x).lane = s.lane := rfl
@[simp] theorem auditPush_prog (s : State) (x : AuditRec) : (s.auditPush x).prog = s.prog := rfl
@[simp] theorem auditPush_model (s : State) (x : AuditRec) : (s.auditPush x).model = s.model := rfl
@[simp] theorem auditPush_slv (s : State) (x : AuditRec) : (s.auditPush x).slv = s.slv := rfl
@[simp] theorem auditPush_perc (s : State) (x : AuditRec) : (s.auditPush x).perc = s.perc := rfl
@[simp] theorem auditPush_afe (s : State) (x : AuditRec) : (s.auditPush x).afe = s.afe := rfl
@[simp] theorem auditPush_fed (s : State) (x : AuditRec) : (s.auditPush x).fed = s.fed := rfl
@[simp] theorem auditPush_stn (s : State) (x : AuditRec) : (s.auditPush x).stn = s.stn := rfl
@[simp] theorem auditPush_pts (s : State) (x : AuditRec) : (s.auditPush x).pts = s.pts := rfl
@[simp] theorem auditPush_fio (s : State) (x : AuditRec) : (s.auditPush x).fio = s.fio := rfl
@[simp] theorem auditPush_can (s : State) (x : AuditRec) : (s.auditPush x).can = s.can := rfl
@[simp] theorem auditPush_net (s : State) (x : AuditRec) : (s.auditPush x).net = s.net := rfl
@[simp] theorem auditPush_time (s : State) (x : AuditRec) : (s.auditPush x).time = s.time := rfl
@[simp] theorem auditPush_key (s : State) (x : AuditRec) : (s.auditPush x).key = s.key := rfl
@[simp] theorem auditPush_pair (s : State) (x : AuditRec) : (s.auditPush x).pair = s.pair := rfl
@[simp] theorem auditPush_pwr (s : State) (x : AuditRec) : (s.auditPush x).pwr = s.pwr := rfl
@[simp] theorem auditPush_rst (s : State) (x : AuditRec) : (s.auditPush x).rst = s.rst := rfl
@[simp] theorem auditPush_drip (s : State) (x : AuditRec) : (s.auditPush x).drip = s.drip := rfl
@[simp] theorem auditPush_past (s : State) (x : AuditRec) : (s.auditPush x).past = s.past := rfl
@[simp] theorem auditPush_edge (s : State) (x : AuditRec) : (s.auditPush x).edge = s.edge := rfl
@[simp] theorem auditPush_latch (s : State) (x : AuditRec) : (s.auditPush x).latch = s.latch := rfl
@[simp] theorem auditPush_pending (s : State) (x : AuditRec) : (s.auditPush x).pending = s.pending := rfl
@[simp] theorem auditPush_out (s : State) (x : AuditRec) : (s.auditPush x).out = s.out := rfl
@[simp] theorem auditPush_free (s : State) (x : AuditRec) : (s.auditPush x).free = s.free := rfl
@[simp] theorem auditDev_epoch (s : State) (kind opcode status subject : Nat) (data : List Byte) : (s.auditDev kind opcode status subject data).epoch = s.epoch := rfl
@[simp] theorem auditDev_order (s : State) (kind opcode status subject : Nat) (data : List Byte) : (s.auditDev kind opcode status subject data).order = s.order := rfl
@[simp] theorem auditDev_ident (s : State) (kind opcode status subject : Nat) (data : List Byte) : (s.auditDev kind opcode status subject data).ident = s.ident := rfl
@[simp] theorem auditDev_host (s : State) (kind opcode status subject : Nat) (data : List Byte) : (s.auditDev kind opcode status subject data).host = s.host := rfl
@[simp] theorem auditDev_par (s : State) (kind opcode status subject : Nat) (data : List Byte) : (s.auditDev kind opcode status subject data).par = s.par := rfl
@[simp] theorem auditDev_lane (s : State) (kind opcode status subject : Nat) (data : List Byte) : (s.auditDev kind opcode status subject data).lane = s.lane := rfl
@[simp] theorem auditDev_prog (s : State) (kind opcode status subject : Nat) (data : List Byte) : (s.auditDev kind opcode status subject data).prog = s.prog := rfl
@[simp] theorem auditDev_model (s : State) (kind opcode status subject : Nat) (data : List Byte) : (s.auditDev kind opcode status subject data).model = s.model := rfl
@[simp] theorem auditDev_slv (s : State) (kind opcode status subject : Nat) (data : List Byte) : (s.auditDev kind opcode status subject data).slv = s.slv := rfl
@[simp] theorem auditDev_perc (s : State) (kind opcode status subject : Nat) (data : List Byte) : (s.auditDev kind opcode status subject data).perc = s.perc := rfl
@[simp] theorem auditDev_afe (s : State) (kind opcode status subject : Nat) (data : List Byte) : (s.auditDev kind opcode status subject data).afe = s.afe := rfl
@[simp] theorem auditDev_fed (s : State) (kind opcode status subject : Nat) (data : List Byte) : (s.auditDev kind opcode status subject data).fed = s.fed := rfl
@[simp] theorem auditDev_stn (s : State) (kind opcode status subject : Nat) (data : List Byte) : (s.auditDev kind opcode status subject data).stn = s.stn := rfl
@[simp] theorem auditDev_pts (s : State) (kind opcode status subject : Nat) (data : List Byte) : (s.auditDev kind opcode status subject data).pts = s.pts := rfl
@[simp] theorem auditDev_fio (s : State) (kind opcode status subject : Nat) (data : List Byte) : (s.auditDev kind opcode status subject data).fio = s.fio := rfl
@[simp] theorem auditDev_can (s : State) (kind opcode status subject : Nat) (data : List Byte) : (s.auditDev kind opcode status subject data).can = s.can := rfl
@[simp] theorem auditDev_net (s : State) (kind opcode status subject : Nat) (data : List Byte) : (s.auditDev kind opcode status subject data).net = s.net := rfl
@[simp] theorem auditDev_time (s : State) (kind opcode status subject : Nat) (data : List Byte) : (s.auditDev kind opcode status subject data).time = s.time := rfl
@[simp] theorem auditDev_key (s : State) (kind opcode status subject : Nat) (data : List Byte) : (s.auditDev kind opcode status subject data).key = s.key := rfl
@[simp] theorem auditDev_pair (s : State) (kind opcode status subject : Nat) (data : List Byte) : (s.auditDev kind opcode status subject data).pair = s.pair := rfl
@[simp] theorem auditDev_pwr (s : State) (kind opcode status subject : Nat) (data : List Byte) : (s.auditDev kind opcode status subject data).pwr = s.pwr := rfl
@[simp] theorem auditDev_rst (s : State) (kind opcode status subject : Nat) (data : List Byte) : (s.auditDev kind opcode status subject data).rst = s.rst := rfl
@[simp] theorem auditDev_drip (s : State) (kind opcode status subject : Nat) (data : List Byte) : (s.auditDev kind opcode status subject data).drip = s.drip := rfl
@[simp] theorem auditDev_past (s : State) (kind opcode status subject : Nat) (data : List Byte) : (s.auditDev kind opcode status subject data).past = s.past := rfl
@[simp] theorem auditDev_edge (s : State) (kind opcode status subject : Nat) (data : List Byte) : (s.auditDev kind opcode status subject data).edge = s.edge := rfl
@[simp] theorem auditDev_latch (s : State) (kind opcode status subject : Nat) (data : List Byte) : (s.auditDev kind opcode status subject data).latch = s.latch := rfl
@[simp] theorem auditDev_pending (s : State) (kind opcode status subject : Nat) (data : List Byte) : (s.auditDev kind opcode status subject data).pending = s.pending := rfl
@[simp] theorem auditDev_out (s : State) (kind opcode status subject : Nat) (data : List Byte) : (s.auditDev kind opcode status subject data).out = s.out := rfl
@[simp] theorem auditDev_free (s : State) (kind opcode status subject : Nat) (data : List Byte) : (s.auditDev kind opcode status subject data).free = s.free := rfl
@[simp] theorem auditCmd_epoch (s : State) (c : CmdInfo) (h : Hdr) (n : Nat) (d : List Byte × Bool) (v : Verdict) : (s.auditCmd c h n d v).epoch = s.epoch := by unfold State.auditCmd; split <;> rfl
@[simp] theorem auditCmd_order (s : State) (c : CmdInfo) (h : Hdr) (n : Nat) (d : List Byte × Bool) (v : Verdict) : (s.auditCmd c h n d v).order = s.order := by unfold State.auditCmd; split <;> rfl
@[simp] theorem auditCmd_ident (s : State) (c : CmdInfo) (h : Hdr) (n : Nat) (d : List Byte × Bool) (v : Verdict) : (s.auditCmd c h n d v).ident = s.ident := by unfold State.auditCmd; split <;> rfl
@[simp] theorem auditCmd_host (s : State) (c : CmdInfo) (h : Hdr) (n : Nat) (d : List Byte × Bool) (v : Verdict) : (s.auditCmd c h n d v).host = s.host := by unfold State.auditCmd; split <;> rfl
@[simp] theorem auditCmd_par (s : State) (c : CmdInfo) (h : Hdr) (n : Nat) (d : List Byte × Bool) (v : Verdict) : (s.auditCmd c h n d v).par = s.par := by unfold State.auditCmd; split <;> rfl
@[simp] theorem auditCmd_lane (s : State) (c : CmdInfo) (h : Hdr) (n : Nat) (d : List Byte × Bool) (v : Verdict) : (s.auditCmd c h n d v).lane = s.lane := by unfold State.auditCmd; split <;> rfl
@[simp] theorem auditCmd_prog (s : State) (c : CmdInfo) (h : Hdr) (n : Nat) (d : List Byte × Bool) (v : Verdict) : (s.auditCmd c h n d v).prog = s.prog := by unfold State.auditCmd; split <;> rfl
@[simp] theorem auditCmd_model (s : State) (c : CmdInfo) (h : Hdr) (n : Nat) (d : List Byte × Bool) (v : Verdict) : (s.auditCmd c h n d v).model = s.model := by unfold State.auditCmd; split <;> rfl
@[simp] theorem auditCmd_slv (s : State) (c : CmdInfo) (h : Hdr) (n : Nat) (d : List Byte × Bool) (v : Verdict) : (s.auditCmd c h n d v).slv = s.slv := by unfold State.auditCmd; split <;> rfl
@[simp] theorem auditCmd_perc (s : State) (c : CmdInfo) (h : Hdr) (n : Nat) (d : List Byte × Bool) (v : Verdict) : (s.auditCmd c h n d v).perc = s.perc := by unfold State.auditCmd; split <;> rfl
@[simp] theorem auditCmd_afe (s : State) (c : CmdInfo) (h : Hdr) (n : Nat) (d : List Byte × Bool) (v : Verdict) : (s.auditCmd c h n d v).afe = s.afe := by unfold State.auditCmd; split <;> rfl
@[simp] theorem auditCmd_fed (s : State) (c : CmdInfo) (h : Hdr) (n : Nat) (d : List Byte × Bool) (v : Verdict) : (s.auditCmd c h n d v).fed = s.fed := by unfold State.auditCmd; split <;> rfl
@[simp] theorem auditCmd_stn (s : State) (c : CmdInfo) (h : Hdr) (n : Nat) (d : List Byte × Bool) (v : Verdict) : (s.auditCmd c h n d v).stn = s.stn := by unfold State.auditCmd; split <;> rfl
@[simp] theorem auditCmd_pts (s : State) (c : CmdInfo) (h : Hdr) (n : Nat) (d : List Byte × Bool) (v : Verdict) : (s.auditCmd c h n d v).pts = s.pts := by unfold State.auditCmd; split <;> rfl
@[simp] theorem auditCmd_fio (s : State) (c : CmdInfo) (h : Hdr) (n : Nat) (d : List Byte × Bool) (v : Verdict) : (s.auditCmd c h n d v).fio = s.fio := by unfold State.auditCmd; split <;> rfl
@[simp] theorem auditCmd_can (s : State) (c : CmdInfo) (h : Hdr) (n : Nat) (d : List Byte × Bool) (v : Verdict) : (s.auditCmd c h n d v).can = s.can := by unfold State.auditCmd; split <;> rfl
@[simp] theorem auditCmd_net (s : State) (c : CmdInfo) (h : Hdr) (n : Nat) (d : List Byte × Bool) (v : Verdict) : (s.auditCmd c h n d v).net = s.net := by unfold State.auditCmd; split <;> rfl
@[simp] theorem auditCmd_time (s : State) (c : CmdInfo) (h : Hdr) (n : Nat) (d : List Byte × Bool) (v : Verdict) : (s.auditCmd c h n d v).time = s.time := by unfold State.auditCmd; split <;> rfl
@[simp] theorem auditCmd_key (s : State) (c : CmdInfo) (h : Hdr) (n : Nat) (d : List Byte × Bool) (v : Verdict) : (s.auditCmd c h n d v).key = s.key := by unfold State.auditCmd; split <;> rfl
@[simp] theorem auditCmd_pair (s : State) (c : CmdInfo) (h : Hdr) (n : Nat) (d : List Byte × Bool) (v : Verdict) : (s.auditCmd c h n d v).pair = s.pair := by unfold State.auditCmd; split <;> rfl
@[simp] theorem auditCmd_pwr (s : State) (c : CmdInfo) (h : Hdr) (n : Nat) (d : List Byte × Bool) (v : Verdict) : (s.auditCmd c h n d v).pwr = s.pwr := by unfold State.auditCmd; split <;> rfl
@[simp] theorem auditCmd_rst (s : State) (c : CmdInfo) (h : Hdr) (n : Nat) (d : List Byte × Bool) (v : Verdict) : (s.auditCmd c h n d v).rst = s.rst := by unfold State.auditCmd; split <;> rfl
@[simp] theorem auditCmd_drip (s : State) (c : CmdInfo) (h : Hdr) (n : Nat) (d : List Byte × Bool) (v : Verdict) : (s.auditCmd c h n d v).drip = s.drip := by unfold State.auditCmd; split <;> rfl
@[simp] theorem auditCmd_past (s : State) (c : CmdInfo) (h : Hdr) (n : Nat) (d : List Byte × Bool) (v : Verdict) : (s.auditCmd c h n d v).past = s.past := by unfold State.auditCmd; split <;> rfl
@[simp] theorem auditCmd_edge (s : State) (c : CmdInfo) (h : Hdr) (n : Nat) (d : List Byte × Bool) (v : Verdict) : (s.auditCmd c h n d v).edge = s.edge := by unfold State.auditCmd; split <;> rfl
@[simp] theorem auditCmd_latch (s : State) (c : CmdInfo) (h : Hdr) (n : Nat) (d : List Byte × Bool) (v : Verdict) : (s.auditCmd c h n d v).latch = s.latch := by unfold State.auditCmd; split <;> rfl
@[simp] theorem auditCmd_pending (s : State) (c : CmdInfo) (h : Hdr) (n : Nat) (d : List Byte × Bool) (v : Verdict) : (s.auditCmd c h n d v).pending = s.pending := by unfold State.auditCmd; split <;> rfl
@[simp] theorem auditCmd_out (s : State) (c : CmdInfo) (h : Hdr) (n : Nat) (d : List Byte × Bool) (v : Verdict) : (s.auditCmd c h n d v).out = s.out := by unfold State.auditCmd; split <;> rfl
@[simp] theorem auditCmd_free (s : State) (c : CmdInfo) (h : Hdr) (n : Nat) (d : List Byte × Bool) (v : Verdict) : (s.auditCmd c h n d v).free = s.free := by unfold State.auditCmd; split <;> rfl
@[simp] theorem auditApplied_epoch (s : State) (n : Nat) : (s.auditApplied n).epoch = s.epoch := by unfold State.auditApplied; split <;> rfl
@[simp] theorem auditApplied_order (s : State) (n : Nat) : (s.auditApplied n).order = s.order := by unfold State.auditApplied; split <;> rfl
@[simp] theorem auditApplied_ident (s : State) (n : Nat) : (s.auditApplied n).ident = s.ident := by unfold State.auditApplied; split <;> rfl
@[simp] theorem auditApplied_host (s : State) (n : Nat) : (s.auditApplied n).host = s.host := by unfold State.auditApplied; split <;> rfl
@[simp] theorem auditApplied_par (s : State) (n : Nat) : (s.auditApplied n).par = s.par := by unfold State.auditApplied; split <;> rfl
@[simp] theorem auditApplied_lane (s : State) (n : Nat) : (s.auditApplied n).lane = s.lane := by unfold State.auditApplied; split <;> rfl
@[simp] theorem auditApplied_prog (s : State) (n : Nat) : (s.auditApplied n).prog = s.prog := by unfold State.auditApplied; split <;> rfl
@[simp] theorem auditApplied_model (s : State) (n : Nat) : (s.auditApplied n).model = s.model := by unfold State.auditApplied; split <;> rfl
@[simp] theorem auditApplied_slv (s : State) (n : Nat) : (s.auditApplied n).slv = s.slv := by unfold State.auditApplied; split <;> rfl
@[simp] theorem auditApplied_perc (s : State) (n : Nat) : (s.auditApplied n).perc = s.perc := by unfold State.auditApplied; split <;> rfl
@[simp] theorem auditApplied_afe (s : State) (n : Nat) : (s.auditApplied n).afe = s.afe := by unfold State.auditApplied; split <;> rfl
@[simp] theorem auditApplied_fed (s : State) (n : Nat) : (s.auditApplied n).fed = s.fed := by unfold State.auditApplied; split <;> rfl
@[simp] theorem auditApplied_stn (s : State) (n : Nat) : (s.auditApplied n).stn = s.stn := by unfold State.auditApplied; split <;> rfl
@[simp] theorem auditApplied_pts (s : State) (n : Nat) : (s.auditApplied n).pts = s.pts := by unfold State.auditApplied; split <;> rfl
@[simp] theorem auditApplied_fio (s : State) (n : Nat) : (s.auditApplied n).fio = s.fio := by unfold State.auditApplied; split <;> rfl
@[simp] theorem auditApplied_can (s : State) (n : Nat) : (s.auditApplied n).can = s.can := by unfold State.auditApplied; split <;> rfl
@[simp] theorem auditApplied_net (s : State) (n : Nat) : (s.auditApplied n).net = s.net := by unfold State.auditApplied; split <;> rfl
@[simp] theorem auditApplied_time (s : State) (n : Nat) : (s.auditApplied n).time = s.time := by unfold State.auditApplied; split <;> rfl
@[simp] theorem auditApplied_key (s : State) (n : Nat) : (s.auditApplied n).key = s.key := by unfold State.auditApplied; split <;> rfl
@[simp] theorem auditApplied_pair (s : State) (n : Nat) : (s.auditApplied n).pair = s.pair := by unfold State.auditApplied; split <;> rfl
@[simp] theorem auditApplied_pwr (s : State) (n : Nat) : (s.auditApplied n).pwr = s.pwr := by unfold State.auditApplied; split <;> rfl
@[simp] theorem auditApplied_rst (s : State) (n : Nat) : (s.auditApplied n).rst = s.rst := by unfold State.auditApplied; split <;> rfl
@[simp] theorem auditApplied_drip (s : State) (n : Nat) : (s.auditApplied n).drip = s.drip := by unfold State.auditApplied; split <;> rfl
@[simp] theorem auditApplied_past (s : State) (n : Nat) : (s.auditApplied n).past = s.past := by unfold State.auditApplied; split <;> rfl
@[simp] theorem auditApplied_edge (s : State) (n : Nat) : (s.auditApplied n).edge = s.edge := by unfold State.auditApplied; split <;> rfl
@[simp] theorem auditApplied_latch (s : State) (n : Nat) : (s.auditApplied n).latch = s.latch := by unfold State.auditApplied; split <;> rfl
@[simp] theorem auditApplied_pending (s : State) (n : Nat) : (s.auditApplied n).pending = s.pending := by unfold State.auditApplied; split <;> rfl
@[simp] theorem auditApplied_out (s : State) (n : Nat) : (s.auditApplied n).out = s.out := by unfold State.auditApplied; split <;> rfl
@[simp] theorem auditApplied_free (s : State) (n : Nat) : (s.auditApplied n).free = s.free := by unfold State.auditApplied; split <;> rfl
@[simp] theorem atOrder_epoch (s : State) (k : Nat) : (s.atOrder k).epoch = s.epoch := rfl
@[simp] theorem atOrder_ident (s : State) (k : Nat) : (s.atOrder k).ident = s.ident := rfl
@[simp] theorem atOrder_host (s : State) (k : Nat) : (s.atOrder k).host = s.host := rfl
@[simp] theorem atOrder_par (s : State) (k : Nat) : (s.atOrder k).par = s.par := rfl
@[simp] theorem atOrder_lane (s : State) (k : Nat) : (s.atOrder k).lane = s.lane := rfl
@[simp] theorem atOrder_prog (s : State) (k : Nat) : (s.atOrder k).prog = s.prog := rfl
@[simp] theorem atOrder_model (s : State) (k : Nat) : (s.atOrder k).model = s.model := rfl
@[simp] theorem atOrder_slv (s : State) (k : Nat) : (s.atOrder k).slv = s.slv := rfl
@[simp] theorem atOrder_perc (s : State) (k : Nat) : (s.atOrder k).perc = s.perc := rfl
@[simp] theorem atOrder_afe (s : State) (k : Nat) : (s.atOrder k).afe = s.afe := rfl
@[simp] theorem atOrder_fed (s : State) (k : Nat) : (s.atOrder k).fed = s.fed := rfl
@[simp] theorem atOrder_stn (s : State) (k : Nat) : (s.atOrder k).stn = s.stn := rfl
@[simp] theorem atOrder_pts (s : State) (k : Nat) : (s.atOrder k).pts = s.pts := rfl
@[simp] theorem atOrder_fio (s : State) (k : Nat) : (s.atOrder k).fio = s.fio := rfl
@[simp] theorem atOrder_can (s : State) (k : Nat) : (s.atOrder k).can = s.can := rfl
@[simp] theorem atOrder_net (s : State) (k : Nat) : (s.atOrder k).net = s.net := rfl
@[simp] theorem atOrder_time (s : State) (k : Nat) : (s.atOrder k).time = s.time := rfl
@[simp] theorem atOrder_key (s : State) (k : Nat) : (s.atOrder k).key = s.key := rfl
@[simp] theorem atOrder_aud (s : State) (k : Nat) : (s.atOrder k).aud = s.aud := rfl
@[simp] theorem atOrder_pair (s : State) (k : Nat) : (s.atOrder k).pair = s.pair := rfl
@[simp] theorem atOrder_pwr (s : State) (k : Nat) : (s.atOrder k).pwr = s.pwr := rfl
@[simp] theorem atOrder_rst (s : State) (k : Nat) : (s.atOrder k).rst = s.rst := rfl
@[simp] theorem atOrder_drip (s : State) (k : Nat) : (s.atOrder k).drip = s.drip := rfl
@[simp] theorem atOrder_past (s : State) (k : Nat) : (s.atOrder k).past = s.past := rfl
@[simp] theorem atOrder_latch (s : State) (k : Nat) : (s.atOrder k).latch = s.latch := rfl
@[simp] theorem atOrder_pending (s : State) (k : Nat) : (s.atOrder k).pending = s.pending := rfl
@[simp] theorem atOrder_out (s : State) (k : Nat) : (s.atOrder k).out = s.out := rfl
@[simp] theorem atOrder_free (s : State) (k : Nat) : (s.atOrder k).free = s.free := rfl
@[simp] theorem closeEdge_epoch (s : State) : (s.closeEdge).epoch = s.epoch := by unfold State.closeEdge; split <;> rfl
@[simp] theorem closeEdge_order (s : State) : (s.closeEdge).order = s.order := by unfold State.closeEdge; split <;> rfl
@[simp] theorem closeEdge_ident (s : State) : (s.closeEdge).ident = s.ident := by unfold State.closeEdge; split <;> rfl
@[simp] theorem closeEdge_host (s : State) : (s.closeEdge).host = s.host := by unfold State.closeEdge; split <;> rfl
@[simp] theorem closeEdge_par (s : State) : (s.closeEdge).par = s.par := by unfold State.closeEdge; split <;> rfl
@[simp] theorem closeEdge_lane (s : State) : (s.closeEdge).lane = s.lane := by unfold State.closeEdge; split <;> rfl
@[simp] theorem closeEdge_prog (s : State) : (s.closeEdge).prog = s.prog := by unfold State.closeEdge; split <;> rfl
@[simp] theorem closeEdge_model (s : State) : (s.closeEdge).model = s.model := by unfold State.closeEdge; split <;> rfl
@[simp] theorem closeEdge_slv (s : State) : (s.closeEdge).slv = s.slv := by unfold State.closeEdge; split <;> rfl
@[simp] theorem closeEdge_perc (s : State) : (s.closeEdge).perc = s.perc := by unfold State.closeEdge; split <;> rfl
@[simp] theorem closeEdge_afe (s : State) : (s.closeEdge).afe = s.afe := by unfold State.closeEdge; split <;> rfl
@[simp] theorem closeEdge_fed (s : State) : (s.closeEdge).fed = s.fed := by unfold State.closeEdge; split <;> rfl
@[simp] theorem closeEdge_stn (s : State) : (s.closeEdge).stn = s.stn := by unfold State.closeEdge; split <;> rfl
@[simp] theorem closeEdge_pts (s : State) : (s.closeEdge).pts = s.pts := by unfold State.closeEdge; split <;> rfl
@[simp] theorem closeEdge_fio (s : State) : (s.closeEdge).fio = s.fio := by unfold State.closeEdge; split <;> rfl
@[simp] theorem closeEdge_can (s : State) : (s.closeEdge).can = s.can := by unfold State.closeEdge; split <;> rfl
@[simp] theorem closeEdge_net (s : State) : (s.closeEdge).net = s.net := by unfold State.closeEdge; split <;> rfl
@[simp] theorem closeEdge_time (s : State) : (s.closeEdge).time = s.time := by unfold State.closeEdge; split <;> rfl
@[simp] theorem closeEdge_key (s : State) : (s.closeEdge).key = s.key := by unfold State.closeEdge; split <;> rfl
@[simp] theorem closeEdge_aud (s : State) : (s.closeEdge).aud = s.aud := by unfold State.closeEdge; split <;> rfl
@[simp] theorem closeEdge_pair (s : State) : (s.closeEdge).pair = s.pair := by unfold State.closeEdge; split <;> rfl
@[simp] theorem closeEdge_pwr (s : State) : (s.closeEdge).pwr = s.pwr := by unfold State.closeEdge; split <;> rfl
@[simp] theorem closeEdge_rst (s : State) : (s.closeEdge).rst = s.rst := by unfold State.closeEdge; split <;> rfl
@[simp] theorem closeEdge_drip (s : State) : (s.closeEdge).drip = s.drip := by unfold State.closeEdge; split <;> rfl
@[simp] theorem closeEdge_past (s : State) : (s.closeEdge).past = s.past := by unfold State.closeEdge; split <;> rfl
@[simp] theorem closeEdge_latch (s : State) : (s.closeEdge).latch = s.latch := by unfold State.closeEdge; split <;> rfl
@[simp] theorem closeEdge_pending (s : State) : (s.closeEdge).pending = s.pending := by unfold State.closeEdge; split <;> rfl
@[simp] theorem closeEdge_out (s : State) : (s.closeEdge).out = s.out := by unfold State.closeEdge; split <;> rfl
@[simp] theorem closeEdge_free (s : State) : (s.closeEdge).free = s.free := by unfold State.closeEdge; split <;> rfl
@[simp] theorem setPt_epoch (s : State) (p : Nat) (v : Point) : (s.setPt p v).epoch = s.epoch := rfl
@[simp] theorem setPt_order (s : State) (p : Nat) (v : Point) : (s.setPt p v).order = s.order := rfl
@[simp] theorem setPt_ident (s : State) (p : Nat) (v : Point) : (s.setPt p v).ident = s.ident := rfl
@[simp] theorem setPt_host (s : State) (p : Nat) (v : Point) : (s.setPt p v).host = s.host := rfl
@[simp] theorem setPt_par (s : State) (p : Nat) (v : Point) : (s.setPt p v).par = s.par := rfl
@[simp] theorem setPt_lane (s : State) (p : Nat) (v : Point) : (s.setPt p v).lane = s.lane := rfl
@[simp] theorem setPt_prog (s : State) (p : Nat) (v : Point) : (s.setPt p v).prog = s.prog := rfl
@[simp] theorem setPt_model (s : State) (p : Nat) (v : Point) : (s.setPt p v).model = s.model := rfl
@[simp] theorem setPt_slv (s : State) (p : Nat) (v : Point) : (s.setPt p v).slv = s.slv := rfl
@[simp] theorem setPt_perc (s : State) (p : Nat) (v : Point) : (s.setPt p v).perc = s.perc := rfl
@[simp] theorem setPt_afe (s : State) (p : Nat) (v : Point) : (s.setPt p v).afe = s.afe := rfl
@[simp] theorem setPt_fed (s : State) (p : Nat) (v : Point) : (s.setPt p v).fed = s.fed := rfl
@[simp] theorem setPt_stn (s : State) (p : Nat) (v : Point) : (s.setPt p v).stn = s.stn := rfl
@[simp] theorem setPt_fio (s : State) (p : Nat) (v : Point) : (s.setPt p v).fio = s.fio := rfl
@[simp] theorem setPt_can (s : State) (p : Nat) (v : Point) : (s.setPt p v).can = s.can := rfl
@[simp] theorem setPt_net (s : State) (p : Nat) (v : Point) : (s.setPt p v).net = s.net := rfl
@[simp] theorem setPt_time (s : State) (p : Nat) (v : Point) : (s.setPt p v).time = s.time := rfl
@[simp] theorem setPt_key (s : State) (p : Nat) (v : Point) : (s.setPt p v).key = s.key := rfl
@[simp] theorem setPt_aud (s : State) (p : Nat) (v : Point) : (s.setPt p v).aud = s.aud := rfl
@[simp] theorem setPt_pair (s : State) (p : Nat) (v : Point) : (s.setPt p v).pair = s.pair := rfl
@[simp] theorem setPt_pwr (s : State) (p : Nat) (v : Point) : (s.setPt p v).pwr = s.pwr := rfl
@[simp] theorem setPt_rst (s : State) (p : Nat) (v : Point) : (s.setPt p v).rst = s.rst := rfl
@[simp] theorem setPt_drip (s : State) (p : Nat) (v : Point) : (s.setPt p v).drip = s.drip := rfl
@[simp] theorem setPt_past (s : State) (p : Nat) (v : Point) : (s.setPt p v).past = s.past := rfl
@[simp] theorem setPt_edge (s : State) (p : Nat) (v : Point) : (s.setPt p v).edge = s.edge := rfl
@[simp] theorem setPt_latch (s : State) (p : Nat) (v : Point) : (s.setPt p v).latch = s.latch := rfl
@[simp] theorem setPt_pending (s : State) (p : Nat) (v : Point) : (s.setPt p v).pending = s.pending := rfl
@[simp] theorem setPt_out (s : State) (p : Nat) (v : Point) : (s.setPt p v).out = s.out := rfl
@[simp] theorem setPt_free (s : State) (p : Nat) (v : Point) : (s.setPt p v).free = s.free := rfl
@[simp] theorem took_epoch (s : State) : (s.took).epoch = s.epoch := rfl
@[simp] theorem took_order (s : State) : (s.took).order = s.order := rfl
@[simp] theorem took_ident (s : State) : (s.took).ident = s.ident := rfl
@[simp] theorem took_host (s : State) : (s.took).host = s.host := rfl
@[simp] theorem took_par (s : State) : (s.took).par = s.par := rfl
@[simp] theorem took_lane (s : State) : (s.took).lane = s.lane := rfl
@[simp] theorem took_prog (s : State) : (s.took).prog = s.prog := rfl
@[simp] theorem took_model (s : State) : (s.took).model = s.model := rfl
@[simp] theorem took_slv (s : State) : (s.took).slv = s.slv := rfl
@[simp] theorem took_perc (s : State) : (s.took).perc = s.perc := rfl
@[simp] theorem took_afe (s : State) : (s.took).afe = s.afe := rfl
@[simp] theorem took_fed (s : State) : (s.took).fed = s.fed := rfl
@[simp] theorem took_stn (s : State) : (s.took).stn = s.stn := rfl
@[simp] theorem took_pts (s : State) : (s.took).pts = s.pts := rfl
@[simp] theorem took_fio (s : State) : (s.took).fio = s.fio := rfl
@[simp] theorem took_can (s : State) : (s.took).can = s.can := rfl
@[simp] theorem took_net (s : State) : (s.took).net = s.net := rfl
@[simp] theorem took_time (s : State) : (s.took).time = s.time := rfl
@[simp] theorem took_key (s : State) : (s.took).key = s.key := rfl
@[simp] theorem took_aud (s : State) : (s.took).aud = s.aud := rfl
@[simp] theorem took_pair (s : State) : (s.took).pair = s.pair := rfl
@[simp] theorem took_pwr (s : State) : (s.took).pwr = s.pwr := rfl
@[simp] theorem took_rst (s : State) : (s.took).rst = s.rst := rfl
@[simp] theorem took_drip (s : State) : (s.took).drip = s.drip := rfl
@[simp] theorem took_past (s : State) : (s.took).past = s.past := rfl
@[simp] theorem took_edge (s : State) : (s.took).edge = s.edge := rfl
@[simp] theorem took_latch (s : State) : (s.took).latch = s.latch := rfl
@[simp] theorem took_pending (s : State) : (s.took).pending = s.pending := rfl
@[simp] theorem took_out (s : State) : (s.took).out = s.out := rfl
@[simp] theorem openHandle_epoch (s : State) (src cq : Src) (tag : U32) (op : Nat) : (s.openHandle src cq tag op).epoch = s.epoch := by unfold State.openHandle; split <;> rfl
@[simp] theorem openHandle_order (s : State) (src cq : Src) (tag : U32) (op : Nat) : (s.openHandle src cq tag op).order = s.order := by unfold State.openHandle; split <;> rfl
@[simp] theorem openHandle_ident (s : State) (src cq : Src) (tag : U32) (op : Nat) : (s.openHandle src cq tag op).ident = s.ident := by unfold State.openHandle; split <;> rfl
@[simp] theorem openHandle_par (s : State) (src cq : Src) (tag : U32) (op : Nat) : (s.openHandle src cq tag op).par = s.par := by unfold State.openHandle; split <;> rfl
@[simp] theorem openHandle_lane (s : State) (src cq : Src) (tag : U32) (op : Nat) : (s.openHandle src cq tag op).lane = s.lane := by unfold State.openHandle; split <;> rfl
@[simp] theorem openHandle_prog (s : State) (src cq : Src) (tag : U32) (op : Nat) : (s.openHandle src cq tag op).prog = s.prog := by unfold State.openHandle; split <;> rfl
@[simp] theorem openHandle_model (s : State) (src cq : Src) (tag : U32) (op : Nat) : (s.openHandle src cq tag op).model = s.model := by unfold State.openHandle; split <;> rfl
@[simp] theorem openHandle_slv (s : State) (src cq : Src) (tag : U32) (op : Nat) : (s.openHandle src cq tag op).slv = s.slv := by unfold State.openHandle; split <;> rfl
@[simp] theorem openHandle_perc (s : State) (src cq : Src) (tag : U32) (op : Nat) : (s.openHandle src cq tag op).perc = s.perc := by unfold State.openHandle; split <;> rfl
@[simp] theorem openHandle_afe (s : State) (src cq : Src) (tag : U32) (op : Nat) : (s.openHandle src cq tag op).afe = s.afe := by unfold State.openHandle; split <;> rfl
@[simp] theorem openHandle_fed (s : State) (src cq : Src) (tag : U32) (op : Nat) : (s.openHandle src cq tag op).fed = s.fed := by unfold State.openHandle; split <;> rfl
@[simp] theorem openHandle_stn (s : State) (src cq : Src) (tag : U32) (op : Nat) : (s.openHandle src cq tag op).stn = s.stn := by unfold State.openHandle; split <;> rfl
@[simp] theorem openHandle_pts (s : State) (src cq : Src) (tag : U32) (op : Nat) : (s.openHandle src cq tag op).pts = s.pts := by unfold State.openHandle; split <;> rfl
@[simp] theorem openHandle_fio (s : State) (src cq : Src) (tag : U32) (op : Nat) : (s.openHandle src cq tag op).fio = s.fio := by unfold State.openHandle; split <;> rfl
@[simp] theorem openHandle_can (s : State) (src cq : Src) (tag : U32) (op : Nat) : (s.openHandle src cq tag op).can = s.can := by unfold State.openHandle; split <;> rfl
@[simp] theorem openHandle_net (s : State) (src cq : Src) (tag : U32) (op : Nat) : (s.openHandle src cq tag op).net = s.net := by unfold State.openHandle; split <;> rfl
@[simp] theorem openHandle_time (s : State) (src cq : Src) (tag : U32) (op : Nat) : (s.openHandle src cq tag op).time = s.time := by unfold State.openHandle; split <;> rfl
@[simp] theorem openHandle_key (s : State) (src cq : Src) (tag : U32) (op : Nat) : (s.openHandle src cq tag op).key = s.key := by unfold State.openHandle; split <;> rfl
@[simp] theorem openHandle_aud (s : State) (src cq : Src) (tag : U32) (op : Nat) : (s.openHandle src cq tag op).aud = s.aud := by unfold State.openHandle; split <;> rfl
@[simp] theorem openHandle_pair (s : State) (src cq : Src) (tag : U32) (op : Nat) : (s.openHandle src cq tag op).pair = s.pair := by unfold State.openHandle; split <;> rfl
@[simp] theorem openHandle_pwr (s : State) (src cq : Src) (tag : U32) (op : Nat) : (s.openHandle src cq tag op).pwr = s.pwr := by unfold State.openHandle; split <;> rfl
@[simp] theorem openHandle_rst (s : State) (src cq : Src) (tag : U32) (op : Nat) : (s.openHandle src cq tag op).rst = s.rst := by unfold State.openHandle; split <;> rfl
@[simp] theorem openHandle_drip (s : State) (src cq : Src) (tag : U32) (op : Nat) : (s.openHandle src cq tag op).drip = s.drip := by unfold State.openHandle; split <;> rfl
@[simp] theorem openHandle_past (s : State) (src cq : Src) (tag : U32) (op : Nat) : (s.openHandle src cq tag op).past = s.past := by unfold State.openHandle; split <;> rfl
@[simp] theorem openHandle_edge (s : State) (src cq : Src) (tag : U32) (op : Nat) : (s.openHandle src cq tag op).edge = s.edge := by unfold State.openHandle; split <;> rfl
@[simp] theorem openHandle_latch (s : State) (src cq : Src) (tag : U32) (op : Nat) : (s.openHandle src cq tag op).latch = s.latch := by unfold State.openHandle; split <;> rfl
@[simp] theorem openHandle_pending (s : State) (src cq : Src) (tag : U32) (op : Nat) : (s.openHandle src cq tag op).pending = s.pending := by unfold State.openHandle; split <;> rfl
@[simp] theorem openHandle_out (s : State) (src cq : Src) (tag : U32) (op : Nat) : (s.openHandle src cq tag op).out = s.out := by unfold State.openHandle; split <;> rfl
@[simp] theorem openHandle_free (s : State) (src cq : Src) (tag : U32) (op : Nat) : (s.openHandle src cq tag op).free = s.free := by unfold State.openHandle; split <;> rfl
@[simp] theorem freeHandle_epoch (s : State) (i : Nat) : (s.freeHandle i).epoch = s.epoch := rfl
@[simp] theorem freeHandle_order (s : State) (i : Nat) : (s.freeHandle i).order = s.order := rfl
@[simp] theorem freeHandle_ident (s : State) (i : Nat) : (s.freeHandle i).ident = s.ident := rfl
@[simp] theorem freeHandle_par (s : State) (i : Nat) : (s.freeHandle i).par = s.par := rfl
@[simp] theorem freeHandle_lane (s : State) (i : Nat) : (s.freeHandle i).lane = s.lane := rfl
@[simp] theorem freeHandle_prog (s : State) (i : Nat) : (s.freeHandle i).prog = s.prog := rfl
@[simp] theorem freeHandle_model (s : State) (i : Nat) : (s.freeHandle i).model = s.model := rfl
@[simp] theorem freeHandle_slv (s : State) (i : Nat) : (s.freeHandle i).slv = s.slv := rfl
@[simp] theorem freeHandle_perc (s : State) (i : Nat) : (s.freeHandle i).perc = s.perc := rfl
@[simp] theorem freeHandle_afe (s : State) (i : Nat) : (s.freeHandle i).afe = s.afe := rfl
@[simp] theorem freeHandle_fed (s : State) (i : Nat) : (s.freeHandle i).fed = s.fed := rfl
@[simp] theorem freeHandle_stn (s : State) (i : Nat) : (s.freeHandle i).stn = s.stn := rfl
@[simp] theorem freeHandle_pts (s : State) (i : Nat) : (s.freeHandle i).pts = s.pts := rfl
@[simp] theorem freeHandle_fio (s : State) (i : Nat) : (s.freeHandle i).fio = s.fio := rfl
@[simp] theorem freeHandle_can (s : State) (i : Nat) : (s.freeHandle i).can = s.can := rfl
@[simp] theorem freeHandle_net (s : State) (i : Nat) : (s.freeHandle i).net = s.net := rfl
@[simp] theorem freeHandle_time (s : State) (i : Nat) : (s.freeHandle i).time = s.time := rfl
@[simp] theorem freeHandle_key (s : State) (i : Nat) : (s.freeHandle i).key = s.key := rfl
@[simp] theorem freeHandle_aud (s : State) (i : Nat) : (s.freeHandle i).aud = s.aud := rfl
@[simp] theorem freeHandle_pair (s : State) (i : Nat) : (s.freeHandle i).pair = s.pair := rfl
@[simp] theorem freeHandle_pwr (s : State) (i : Nat) : (s.freeHandle i).pwr = s.pwr := rfl
@[simp] theorem freeHandle_rst (s : State) (i : Nat) : (s.freeHandle i).rst = s.rst := rfl
@[simp] theorem freeHandle_drip (s : State) (i : Nat) : (s.freeHandle i).drip = s.drip := rfl
@[simp] theorem freeHandle_past (s : State) (i : Nat) : (s.freeHandle i).past = s.past := rfl
@[simp] theorem freeHandle_edge (s : State) (i : Nat) : (s.freeHandle i).edge = s.edge := rfl
@[simp] theorem freeHandle_latch (s : State) (i : Nat) : (s.freeHandle i).latch = s.latch := rfl
@[simp] theorem freeHandle_pending (s : State) (i : Nat) : (s.freeHandle i).pending = s.pending := rfl
@[simp] theorem freeHandle_out (s : State) (i : Nat) : (s.freeHandle i).out = s.out := rfl
@[simp] theorem freeHandle_free (s : State) (i : Nat) : (s.freeHandle i).free = s.free := rfl
@[simp] theorem progress_epoch (s : State) (h : U32) (p : Nat) : (s.progress h p).epoch = s.epoch := by unfold State.progress; split <;> rfl
@[simp] theorem progress_order (s : State) (h : U32) (p : Nat) : (s.progress h p).order = s.order := by unfold State.progress; split <;> rfl
@[simp] theorem progress_ident (s : State) (h : U32) (p : Nat) : (s.progress h p).ident = s.ident := by unfold State.progress; split <;> rfl
@[simp] theorem progress_par (s : State) (h : U32) (p : Nat) : (s.progress h p).par = s.par := by unfold State.progress; split <;> rfl
@[simp] theorem progress_lane (s : State) (h : U32) (p : Nat) : (s.progress h p).lane = s.lane := by unfold State.progress; split <;> rfl
@[simp] theorem progress_prog (s : State) (h : U32) (p : Nat) : (s.progress h p).prog = s.prog := by unfold State.progress; split <;> rfl
@[simp] theorem progress_model (s : State) (h : U32) (p : Nat) : (s.progress h p).model = s.model := by unfold State.progress; split <;> rfl
@[simp] theorem progress_slv (s : State) (h : U32) (p : Nat) : (s.progress h p).slv = s.slv := by unfold State.progress; split <;> rfl
@[simp] theorem progress_perc (s : State) (h : U32) (p : Nat) : (s.progress h p).perc = s.perc := by unfold State.progress; split <;> rfl
@[simp] theorem progress_afe (s : State) (h : U32) (p : Nat) : (s.progress h p).afe = s.afe := by unfold State.progress; split <;> rfl
@[simp] theorem progress_fed (s : State) (h : U32) (p : Nat) : (s.progress h p).fed = s.fed := by unfold State.progress; split <;> rfl
@[simp] theorem progress_stn (s : State) (h : U32) (p : Nat) : (s.progress h p).stn = s.stn := by unfold State.progress; split <;> rfl
@[simp] theorem progress_pts (s : State) (h : U32) (p : Nat) : (s.progress h p).pts = s.pts := by unfold State.progress; split <;> rfl
@[simp] theorem progress_fio (s : State) (h : U32) (p : Nat) : (s.progress h p).fio = s.fio := by unfold State.progress; split <;> rfl
@[simp] theorem progress_can (s : State) (h : U32) (p : Nat) : (s.progress h p).can = s.can := by unfold State.progress; split <;> rfl
@[simp] theorem progress_net (s : State) (h : U32) (p : Nat) : (s.progress h p).net = s.net := by unfold State.progress; split <;> rfl
@[simp] theorem progress_time (s : State) (h : U32) (p : Nat) : (s.progress h p).time = s.time := by unfold State.progress; split <;> rfl
@[simp] theorem progress_key (s : State) (h : U32) (p : Nat) : (s.progress h p).key = s.key := by unfold State.progress; split <;> rfl
@[simp] theorem progress_aud (s : State) (h : U32) (p : Nat) : (s.progress h p).aud = s.aud := by unfold State.progress; split <;> rfl
@[simp] theorem progress_pair (s : State) (h : U32) (p : Nat) : (s.progress h p).pair = s.pair := by unfold State.progress; split <;> rfl
@[simp] theorem progress_pwr (s : State) (h : U32) (p : Nat) : (s.progress h p).pwr = s.pwr := by unfold State.progress; split <;> rfl
@[simp] theorem progress_rst (s : State) (h : U32) (p : Nat) : (s.progress h p).rst = s.rst := by unfold State.progress; split <;> rfl
@[simp] theorem progress_drip (s : State) (h : U32) (p : Nat) : (s.progress h p).drip = s.drip := by unfold State.progress; split <;> rfl
@[simp] theorem progress_past (s : State) (h : U32) (p : Nat) : (s.progress h p).past = s.past := by unfold State.progress; split <;> rfl
@[simp] theorem progress_edge (s : State) (h : U32) (p : Nat) : (s.progress h p).edge = s.edge := by unfold State.progress; split <;> rfl
@[simp] theorem progress_latch (s : State) (h : U32) (p : Nat) : (s.progress h p).latch = s.latch := by unfold State.progress; split <;> rfl
@[simp] theorem progress_pending (s : State) (h : U32) (p : Nat) : (s.progress h p).pending = s.pending := by unfold State.progress; split <;> rfl
@[simp] theorem progress_out (s : State) (h : U32) (p : Nat) : (s.progress h p).out = s.out := by unfold State.progress; split <;> rfl
@[simp] theorem progress_free (s : State) (h : U32) (p : Nat) : (s.progress h p).free = s.free := by unfold State.progress; split <;> rfl
@[simp] theorem closeHandlesOf_epoch (s : State) (src : Src) : (s.closeHandlesOf src).epoch = s.epoch := rfl
@[simp] theorem closeHandlesOf_order (s : State) (src : Src) : (s.closeHandlesOf src).order = s.order := rfl
@[simp] theorem closeHandlesOf_ident (s : State) (src : Src) : (s.closeHandlesOf src).ident = s.ident := rfl
@[simp] theorem closeHandlesOf_par (s : State) (src : Src) : (s.closeHandlesOf src).par = s.par := rfl
@[simp] theorem closeHandlesOf_lane (s : State) (src : Src) : (s.closeHandlesOf src).lane = s.lane := rfl
@[simp] theorem closeHandlesOf_prog (s : State) (src : Src) : (s.closeHandlesOf src).prog = s.prog := rfl
@[simp] theorem closeHandlesOf_model (s : State) (src : Src) : (s.closeHandlesOf src).model = s.model := rfl
@[simp] theorem closeHandlesOf_slv (s : State) (src : Src) : (s.closeHandlesOf src).slv = s.slv := rfl
@[simp] theorem closeHandlesOf_perc (s : State) (src : Src) : (s.closeHandlesOf src).perc = s.perc := rfl
@[simp] theorem closeHandlesOf_afe (s : State) (src : Src) : (s.closeHandlesOf src).afe = s.afe := rfl
@[simp] theorem closeHandlesOf_fed (s : State) (src : Src) : (s.closeHandlesOf src).fed = s.fed := rfl
@[simp] theorem closeHandlesOf_stn (s : State) (src : Src) : (s.closeHandlesOf src).stn = s.stn := rfl
@[simp] theorem closeHandlesOf_pts (s : State) (src : Src) : (s.closeHandlesOf src).pts = s.pts := rfl
@[simp] theorem closeHandlesOf_fio (s : State) (src : Src) : (s.closeHandlesOf src).fio = s.fio := rfl
@[simp] theorem closeHandlesOf_can (s : State) (src : Src) : (s.closeHandlesOf src).can = s.can := rfl
@[simp] theorem closeHandlesOf_net (s : State) (src : Src) : (s.closeHandlesOf src).net = s.net := rfl
@[simp] theorem closeHandlesOf_time (s : State) (src : Src) : (s.closeHandlesOf src).time = s.time := rfl
@[simp] theorem closeHandlesOf_key (s : State) (src : Src) : (s.closeHandlesOf src).key = s.key := rfl
@[simp] theorem closeHandlesOf_aud (s : State) (src : Src) : (s.closeHandlesOf src).aud = s.aud := rfl
@[simp] theorem closeHandlesOf_pair (s : State) (src : Src) : (s.closeHandlesOf src).pair = s.pair := rfl
@[simp] theorem closeHandlesOf_pwr (s : State) (src : Src) : (s.closeHandlesOf src).pwr = s.pwr := rfl
@[simp] theorem closeHandlesOf_rst (s : State) (src : Src) : (s.closeHandlesOf src).rst = s.rst := rfl
@[simp] theorem closeHandlesOf_drip (s : State) (src : Src) : (s.closeHandlesOf src).drip = s.drip := rfl
@[simp] theorem closeHandlesOf_past (s : State) (src : Src) : (s.closeHandlesOf src).past = s.past := rfl
@[simp] theorem closeHandlesOf_edge (s : State) (src : Src) : (s.closeHandlesOf src).edge = s.edge := rfl
@[simp] theorem closeHandlesOf_latch (s : State) (src : Src) : (s.closeHandlesOf src).latch = s.latch := rfl
@[simp] theorem closeHandlesOf_pending (s : State) (src : Src) : (s.closeHandlesOf src).pending = s.pending := rfl
@[simp] theorem closeHandlesOf_out (s : State) (src : Src) : (s.closeHandlesOf src).out = s.out := rfl
@[simp] theorem closeHandlesOf_free (s : State) (src : Src) : (s.closeHandlesOf src).free = s.free := rfl
@[simp] theorem setFch_epoch (s : State) (c : Nat) (v : FrameCh) : (s.setFch c v).epoch = s.epoch := rfl
@[simp] theorem setFch_order (s : State) (c : Nat) (v : FrameCh) : (s.setFch c v).order = s.order := rfl
@[simp] theorem setFch_ident (s : State) (c : Nat) (v : FrameCh) : (s.setFch c v).ident = s.ident := rfl
@[simp] theorem setFch_par (s : State) (c : Nat) (v : FrameCh) : (s.setFch c v).par = s.par := rfl
@[simp] theorem setFch_lane (s : State) (c : Nat) (v : FrameCh) : (s.setFch c v).lane = s.lane := rfl
@[simp] theorem setFch_prog (s : State) (c : Nat) (v : FrameCh) : (s.setFch c v).prog = s.prog := rfl
@[simp] theorem setFch_model (s : State) (c : Nat) (v : FrameCh) : (s.setFch c v).model = s.model := rfl
@[simp] theorem setFch_slv (s : State) (c : Nat) (v : FrameCh) : (s.setFch c v).slv = s.slv := rfl
@[simp] theorem setFch_perc (s : State) (c : Nat) (v : FrameCh) : (s.setFch c v).perc = s.perc := rfl
@[simp] theorem setFch_afe (s : State) (c : Nat) (v : FrameCh) : (s.setFch c v).afe = s.afe := rfl
@[simp] theorem setFch_fed (s : State) (c : Nat) (v : FrameCh) : (s.setFch c v).fed = s.fed := rfl
@[simp] theorem setFch_stn (s : State) (c : Nat) (v : FrameCh) : (s.setFch c v).stn = s.stn := rfl
@[simp] theorem setFch_pts (s : State) (c : Nat) (v : FrameCh) : (s.setFch c v).pts = s.pts := rfl
@[simp] theorem setFch_fio (s : State) (c : Nat) (v : FrameCh) : (s.setFch c v).fio = s.fio := rfl
@[simp] theorem setFch_can (s : State) (c : Nat) (v : FrameCh) : (s.setFch c v).can = s.can := rfl
@[simp] theorem setFch_net (s : State) (c : Nat) (v : FrameCh) : (s.setFch c v).net = s.net := rfl
@[simp] theorem setFch_time (s : State) (c : Nat) (v : FrameCh) : (s.setFch c v).time = s.time := rfl
@[simp] theorem setFch_key (s : State) (c : Nat) (v : FrameCh) : (s.setFch c v).key = s.key := rfl
@[simp] theorem setFch_aud (s : State) (c : Nat) (v : FrameCh) : (s.setFch c v).aud = s.aud := rfl
@[simp] theorem setFch_pair (s : State) (c : Nat) (v : FrameCh) : (s.setFch c v).pair = s.pair := rfl
@[simp] theorem setFch_pwr (s : State) (c : Nat) (v : FrameCh) : (s.setFch c v).pwr = s.pwr := rfl
@[simp] theorem setFch_rst (s : State) (c : Nat) (v : FrameCh) : (s.setFch c v).rst = s.rst := rfl
@[simp] theorem setFch_drip (s : State) (c : Nat) (v : FrameCh) : (s.setFch c v).drip = s.drip := rfl
@[simp] theorem setFch_past (s : State) (c : Nat) (v : FrameCh) : (s.setFch c v).past = s.past := rfl
@[simp] theorem setFch_edge (s : State) (c : Nat) (v : FrameCh) : (s.setFch c v).edge = s.edge := rfl
@[simp] theorem setFch_latch (s : State) (c : Nat) (v : FrameCh) : (s.setFch c v).latch = s.latch := rfl
@[simp] theorem setFch_pending (s : State) (c : Nat) (v : FrameCh) : (s.setFch c v).pending = s.pending := rfl
@[simp] theorem setFch_out (s : State) (c : Nat) (v : FrameCh) : (s.setFch c v).out = s.out := rfl
@[simp] theorem setFch_free (s : State) (c : Nat) (v : FrameCh) : (s.setFch c v).free = s.free := rfl
@[simp] theorem setItem_epoch (s : State) (l : U64) (k : KeyItem) : (s.setItem l k).epoch = s.epoch := by unfold State.setItem; split <;> rfl
@[simp] theorem setItem_order (s : State) (l : U64) (k : KeyItem) : (s.setItem l k).order = s.order := by unfold State.setItem; split <;> rfl
@[simp] theorem setItem_ident (s : State) (l : U64) (k : KeyItem) : (s.setItem l k).ident = s.ident := by unfold State.setItem; split <;> rfl
@[simp] theorem setItem_host (s : State) (l : U64) (k : KeyItem) : (s.setItem l k).host = s.host := by unfold State.setItem; split <;> rfl
@[simp] theorem setItem_par (s : State) (l : U64) (k : KeyItem) : (s.setItem l k).par = s.par := by unfold State.setItem; split <;> rfl
@[simp] theorem setItem_lane (s : State) (l : U64) (k : KeyItem) : (s.setItem l k).lane = s.lane := by unfold State.setItem; split <;> rfl
@[simp] theorem setItem_prog (s : State) (l : U64) (k : KeyItem) : (s.setItem l k).prog = s.prog := by unfold State.setItem; split <;> rfl
@[simp] theorem setItem_model (s : State) (l : U64) (k : KeyItem) : (s.setItem l k).model = s.model := by unfold State.setItem; split <;> rfl
@[simp] theorem setItem_slv (s : State) (l : U64) (k : KeyItem) : (s.setItem l k).slv = s.slv := by unfold State.setItem; split <;> rfl
@[simp] theorem setItem_perc (s : State) (l : U64) (k : KeyItem) : (s.setItem l k).perc = s.perc := by unfold State.setItem; split <;> rfl
@[simp] theorem setItem_afe (s : State) (l : U64) (k : KeyItem) : (s.setItem l k).afe = s.afe := by unfold State.setItem; split <;> rfl
@[simp] theorem setItem_fed (s : State) (l : U64) (k : KeyItem) : (s.setItem l k).fed = s.fed := by unfold State.setItem; split <;> rfl
@[simp] theorem setItem_stn (s : State) (l : U64) (k : KeyItem) : (s.setItem l k).stn = s.stn := by unfold State.setItem; split <;> rfl
@[simp] theorem setItem_pts (s : State) (l : U64) (k : KeyItem) : (s.setItem l k).pts = s.pts := by unfold State.setItem; split <;> rfl
@[simp] theorem setItem_fio (s : State) (l : U64) (k : KeyItem) : (s.setItem l k).fio = s.fio := by unfold State.setItem; split <;> rfl
@[simp] theorem setItem_can (s : State) (l : U64) (k : KeyItem) : (s.setItem l k).can = s.can := by unfold State.setItem; split <;> rfl
@[simp] theorem setItem_net (s : State) (l : U64) (k : KeyItem) : (s.setItem l k).net = s.net := by unfold State.setItem; split <;> rfl
@[simp] theorem setItem_time (s : State) (l : U64) (k : KeyItem) : (s.setItem l k).time = s.time := by unfold State.setItem; split <;> rfl
@[simp] theorem setItem_aud (s : State) (l : U64) (k : KeyItem) : (s.setItem l k).aud = s.aud := by unfold State.setItem; split <;> rfl
@[simp] theorem setItem_pair (s : State) (l : U64) (k : KeyItem) : (s.setItem l k).pair = s.pair := by unfold State.setItem; split <;> rfl
@[simp] theorem setItem_pwr (s : State) (l : U64) (k : KeyItem) : (s.setItem l k).pwr = s.pwr := by unfold State.setItem; split <;> rfl
@[simp] theorem setItem_rst (s : State) (l : U64) (k : KeyItem) : (s.setItem l k).rst = s.rst := by unfold State.setItem; split <;> rfl
@[simp] theorem setItem_drip (s : State) (l : U64) (k : KeyItem) : (s.setItem l k).drip = s.drip := by unfold State.setItem; split <;> rfl
@[simp] theorem setItem_past (s : State) (l : U64) (k : KeyItem) : (s.setItem l k).past = s.past := by unfold State.setItem; split <;> rfl
@[simp] theorem setItem_edge (s : State) (l : U64) (k : KeyItem) : (s.setItem l k).edge = s.edge := by unfold State.setItem; split <;> rfl
@[simp] theorem setItem_latch (s : State) (l : U64) (k : KeyItem) : (s.setItem l k).latch = s.latch := by unfold State.setItem; split <;> rfl
@[simp] theorem setItem_pending (s : State) (l : U64) (k : KeyItem) : (s.setItem l k).pending = s.pending := by unfold State.setItem; split <;> rfl
@[simp] theorem setItem_out (s : State) (l : U64) (k : KeyItem) : (s.setItem l k).out = s.out := by unfold State.setItem; split <;> rfl
@[simp] theorem setItem_free (s : State) (l : U64) (k : KeyItem) : (s.setItem l k).free = s.free := by unfold State.setItem; split <;> rfl
@[simp] theorem dropItem_epoch (s : State) (l : U64) : (s.dropItem l).epoch = s.epoch := by unfold State.dropItem; split <;> rfl
@[simp] theorem dropItem_order (s : State) (l : U64) : (s.dropItem l).order = s.order := by unfold State.dropItem; split <;> rfl
@[simp] theorem dropItem_ident (s : State) (l : U64) : (s.dropItem l).ident = s.ident := by unfold State.dropItem; split <;> rfl
@[simp] theorem dropItem_host (s : State) (l : U64) : (s.dropItem l).host = s.host := by unfold State.dropItem; split <;> rfl
@[simp] theorem dropItem_par (s : State) (l : U64) : (s.dropItem l).par = s.par := by unfold State.dropItem; split <;> rfl
@[simp] theorem dropItem_lane (s : State) (l : U64) : (s.dropItem l).lane = s.lane := by unfold State.dropItem; split <;> rfl
@[simp] theorem dropItem_prog (s : State) (l : U64) : (s.dropItem l).prog = s.prog := by unfold State.dropItem; split <;> rfl
@[simp] theorem dropItem_model (s : State) (l : U64) : (s.dropItem l).model = s.model := by unfold State.dropItem; split <;> rfl
@[simp] theorem dropItem_slv (s : State) (l : U64) : (s.dropItem l).slv = s.slv := by unfold State.dropItem; split <;> rfl
@[simp] theorem dropItem_perc (s : State) (l : U64) : (s.dropItem l).perc = s.perc := by unfold State.dropItem; split <;> rfl
@[simp] theorem dropItem_afe (s : State) (l : U64) : (s.dropItem l).afe = s.afe := by unfold State.dropItem; split <;> rfl
@[simp] theorem dropItem_fed (s : State) (l : U64) : (s.dropItem l).fed = s.fed := by unfold State.dropItem; split <;> rfl
@[simp] theorem dropItem_stn (s : State) (l : U64) : (s.dropItem l).stn = s.stn := by unfold State.dropItem; split <;> rfl
@[simp] theorem dropItem_pts (s : State) (l : U64) : (s.dropItem l).pts = s.pts := by unfold State.dropItem; split <;> rfl
@[simp] theorem dropItem_fio (s : State) (l : U64) : (s.dropItem l).fio = s.fio := by unfold State.dropItem; split <;> rfl
@[simp] theorem dropItem_can (s : State) (l : U64) : (s.dropItem l).can = s.can := by unfold State.dropItem; split <;> rfl
@[simp] theorem dropItem_net (s : State) (l : U64) : (s.dropItem l).net = s.net := by unfold State.dropItem; split <;> rfl
@[simp] theorem dropItem_time (s : State) (l : U64) : (s.dropItem l).time = s.time := by unfold State.dropItem; split <;> rfl
@[simp] theorem dropItem_aud (s : State) (l : U64) : (s.dropItem l).aud = s.aud := by unfold State.dropItem; split <;> rfl
@[simp] theorem dropItem_pair (s : State) (l : U64) : (s.dropItem l).pair = s.pair := by unfold State.dropItem; split <;> rfl
@[simp] theorem dropItem_pwr (s : State) (l : U64) : (s.dropItem l).pwr = s.pwr := by unfold State.dropItem; split <;> rfl
@[simp] theorem dropItem_rst (s : State) (l : U64) : (s.dropItem l).rst = s.rst := by unfold State.dropItem; split <;> rfl
@[simp] theorem dropItem_drip (s : State) (l : U64) : (s.dropItem l).drip = s.drip := by unfold State.dropItem; split <;> rfl
@[simp] theorem dropItem_past (s : State) (l : U64) : (s.dropItem l).past = s.past := by unfold State.dropItem; split <;> rfl
@[simp] theorem dropItem_edge (s : State) (l : U64) : (s.dropItem l).edge = s.edge := by unfold State.dropItem; split <;> rfl
@[simp] theorem dropItem_latch (s : State) (l : U64) : (s.dropItem l).latch = s.latch := by unfold State.dropItem; split <;> rfl
@[simp] theorem dropItem_pending (s : State) (l : U64) : (s.dropItem l).pending = s.pending := by unfold State.dropItem; split <;> rfl
@[simp] theorem dropItem_out (s : State) (l : U64) : (s.dropItem l).out = s.out := by unfold State.dropItem; split <;> rfl
@[simp] theorem dropItem_free (s : State) (l : U64) : (s.dropItem l).free = s.free := by unfold State.dropItem; split <;> rfl
@[simp] theorem setPort_epoch (s : State) (p : Nat) (v : PortSt1) : (s.setPort p v).epoch = s.epoch := rfl
@[simp] theorem setPort_order (s : State) (p : Nat) (v : PortSt1) : (s.setPort p v).order = s.order := rfl
@[simp] theorem setPort_ident (s : State) (p : Nat) (v : PortSt1) : (s.setPort p v).ident = s.ident := rfl
@[simp] theorem setPort_host (s : State) (p : Nat) (v : PortSt1) : (s.setPort p v).host = s.host := rfl
@[simp] theorem setPort_par (s : State) (p : Nat) (v : PortSt1) : (s.setPort p v).par = s.par := rfl
@[simp] theorem setPort_lane (s : State) (p : Nat) (v : PortSt1) : (s.setPort p v).lane = s.lane := rfl
@[simp] theorem setPort_prog (s : State) (p : Nat) (v : PortSt1) : (s.setPort p v).prog = s.prog := rfl
@[simp] theorem setPort_model (s : State) (p : Nat) (v : PortSt1) : (s.setPort p v).model = s.model := rfl
@[simp] theorem setPort_slv (s : State) (p : Nat) (v : PortSt1) : (s.setPort p v).slv = s.slv := rfl
@[simp] theorem setPort_perc (s : State) (p : Nat) (v : PortSt1) : (s.setPort p v).perc = s.perc := rfl
@[simp] theorem setPort_afe (s : State) (p : Nat) (v : PortSt1) : (s.setPort p v).afe = s.afe := rfl
@[simp] theorem setPort_fed (s : State) (p : Nat) (v : PortSt1) : (s.setPort p v).fed = s.fed := rfl
@[simp] theorem setPort_stn (s : State) (p : Nat) (v : PortSt1) : (s.setPort p v).stn = s.stn := rfl
@[simp] theorem setPort_pts (s : State) (p : Nat) (v : PortSt1) : (s.setPort p v).pts = s.pts := rfl
@[simp] theorem setPort_fio (s : State) (p : Nat) (v : PortSt1) : (s.setPort p v).fio = s.fio := rfl
@[simp] theorem setPort_can (s : State) (p : Nat) (v : PortSt1) : (s.setPort p v).can = s.can := rfl
@[simp] theorem setPort_time (s : State) (p : Nat) (v : PortSt1) : (s.setPort p v).time = s.time := rfl
@[simp] theorem setPort_key (s : State) (p : Nat) (v : PortSt1) : (s.setPort p v).key = s.key := rfl
@[simp] theorem setPort_aud (s : State) (p : Nat) (v : PortSt1) : (s.setPort p v).aud = s.aud := rfl
@[simp] theorem setPort_pair (s : State) (p : Nat) (v : PortSt1) : (s.setPort p v).pair = s.pair := rfl
@[simp] theorem setPort_pwr (s : State) (p : Nat) (v : PortSt1) : (s.setPort p v).pwr = s.pwr := rfl
@[simp] theorem setPort_rst (s : State) (p : Nat) (v : PortSt1) : (s.setPort p v).rst = s.rst := rfl
@[simp] theorem setPort_drip (s : State) (p : Nat) (v : PortSt1) : (s.setPort p v).drip = s.drip := rfl
@[simp] theorem setPort_past (s : State) (p : Nat) (v : PortSt1) : (s.setPort p v).past = s.past := rfl
@[simp] theorem setPort_edge (s : State) (p : Nat) (v : PortSt1) : (s.setPort p v).edge = s.edge := rfl
@[simp] theorem setPort_latch (s : State) (p : Nat) (v : PortSt1) : (s.setPort p v).latch = s.latch := rfl
@[simp] theorem setPort_pending (s : State) (p : Nat) (v : PortSt1) : (s.setPort p v).pending = s.pending := rfl
@[simp] theorem setPort_out (s : State) (p : Nat) (v : PortSt1) : (s.setPort p v).out = s.out := rfl
@[simp] theorem setPort_free (s : State) (p : Nat) (v : PortSt1) : (s.setPort p v).free = s.free := rfl
@[simp] theorem setFio_epoch (s : State) (c : Nat) (v : FioCh) : (s.setFio c v).epoch = s.epoch := rfl
@[simp] theorem setFio_order (s : State) (c : Nat) (v : FioCh) : (s.setFio c v).order = s.order := rfl
@[simp] theorem setFio_ident (s : State) (c : Nat) (v : FioCh) : (s.setFio c v).ident = s.ident := rfl
@[simp] theorem setFio_host (s : State) (c : Nat) (v : FioCh) : (s.setFio c v).host = s.host := rfl
@[simp] theorem setFio_par (s : State) (c : Nat) (v : FioCh) : (s.setFio c v).par = s.par := rfl
@[simp] theorem setFio_lane (s : State) (c : Nat) (v : FioCh) : (s.setFio c v).lane = s.lane := rfl
@[simp] theorem setFio_prog (s : State) (c : Nat) (v : FioCh) : (s.setFio c v).prog = s.prog := rfl
@[simp] theorem setFio_model (s : State) (c : Nat) (v : FioCh) : (s.setFio c v).model = s.model := rfl
@[simp] theorem setFio_slv (s : State) (c : Nat) (v : FioCh) : (s.setFio c v).slv = s.slv := rfl
@[simp] theorem setFio_perc (s : State) (c : Nat) (v : FioCh) : (s.setFio c v).perc = s.perc := rfl
@[simp] theorem setFio_afe (s : State) (c : Nat) (v : FioCh) : (s.setFio c v).afe = s.afe := rfl
@[simp] theorem setFio_fed (s : State) (c : Nat) (v : FioCh) : (s.setFio c v).fed = s.fed := rfl
@[simp] theorem setFio_stn (s : State) (c : Nat) (v : FioCh) : (s.setFio c v).stn = s.stn := rfl
@[simp] theorem setFio_pts (s : State) (c : Nat) (v : FioCh) : (s.setFio c v).pts = s.pts := rfl
@[simp] theorem setFio_can (s : State) (c : Nat) (v : FioCh) : (s.setFio c v).can = s.can := rfl
@[simp] theorem setFio_net (s : State) (c : Nat) (v : FioCh) : (s.setFio c v).net = s.net := rfl
@[simp] theorem setFio_time (s : State) (c : Nat) (v : FioCh) : (s.setFio c v).time = s.time := rfl
@[simp] theorem setFio_key (s : State) (c : Nat) (v : FioCh) : (s.setFio c v).key = s.key := rfl
@[simp] theorem setFio_aud (s : State) (c : Nat) (v : FioCh) : (s.setFio c v).aud = s.aud := rfl
@[simp] theorem setFio_pair (s : State) (c : Nat) (v : FioCh) : (s.setFio c v).pair = s.pair := rfl
@[simp] theorem setFio_pwr (s : State) (c : Nat) (v : FioCh) : (s.setFio c v).pwr = s.pwr := rfl
@[simp] theorem setFio_rst (s : State) (c : Nat) (v : FioCh) : (s.setFio c v).rst = s.rst := rfl
@[simp] theorem setFio_drip (s : State) (c : Nat) (v : FioCh) : (s.setFio c v).drip = s.drip := rfl
@[simp] theorem setFio_past (s : State) (c : Nat) (v : FioCh) : (s.setFio c v).past = s.past := rfl
@[simp] theorem setFio_edge (s : State) (c : Nat) (v : FioCh) : (s.setFio c v).edge = s.edge := rfl
@[simp] theorem setFio_latch (s : State) (c : Nat) (v : FioCh) : (s.setFio c v).latch = s.latch := rfl
@[simp] theorem setFio_pending (s : State) (c : Nat) (v : FioCh) : (s.setFio c v).pending = s.pending := rfl
@[simp] theorem setFio_out (s : State) (c : Nat) (v : FioCh) : (s.setFio c v).out = s.out := rfl
@[simp] theorem setFio_free (s : State) (c : Nat) (v : FioCh) : (s.setFio c v).free = s.free := rfl
@[simp] theorem setGrp_epoch (s : State) (g : Nat) (v : FioGrp) : (s.setGrp g v).epoch = s.epoch := rfl
@[simp] theorem setGrp_order (s : State) (g : Nat) (v : FioGrp) : (s.setGrp g v).order = s.order := rfl
@[simp] theorem setGrp_ident (s : State) (g : Nat) (v : FioGrp) : (s.setGrp g v).ident = s.ident := rfl
@[simp] theorem setGrp_host (s : State) (g : Nat) (v : FioGrp) : (s.setGrp g v).host = s.host := rfl
@[simp] theorem setGrp_par (s : State) (g : Nat) (v : FioGrp) : (s.setGrp g v).par = s.par := rfl
@[simp] theorem setGrp_lane (s : State) (g : Nat) (v : FioGrp) : (s.setGrp g v).lane = s.lane := rfl
@[simp] theorem setGrp_prog (s : State) (g : Nat) (v : FioGrp) : (s.setGrp g v).prog = s.prog := rfl
@[simp] theorem setGrp_model (s : State) (g : Nat) (v : FioGrp) : (s.setGrp g v).model = s.model := rfl
@[simp] theorem setGrp_slv (s : State) (g : Nat) (v : FioGrp) : (s.setGrp g v).slv = s.slv := rfl
@[simp] theorem setGrp_perc (s : State) (g : Nat) (v : FioGrp) : (s.setGrp g v).perc = s.perc := rfl
@[simp] theorem setGrp_afe (s : State) (g : Nat) (v : FioGrp) : (s.setGrp g v).afe = s.afe := rfl
@[simp] theorem setGrp_fed (s : State) (g : Nat) (v : FioGrp) : (s.setGrp g v).fed = s.fed := rfl
@[simp] theorem setGrp_stn (s : State) (g : Nat) (v : FioGrp) : (s.setGrp g v).stn = s.stn := rfl
@[simp] theorem setGrp_pts (s : State) (g : Nat) (v : FioGrp) : (s.setGrp g v).pts = s.pts := rfl
@[simp] theorem setGrp_can (s : State) (g : Nat) (v : FioGrp) : (s.setGrp g v).can = s.can := rfl
@[simp] theorem setGrp_net (s : State) (g : Nat) (v : FioGrp) : (s.setGrp g v).net = s.net := rfl
@[simp] theorem setGrp_time (s : State) (g : Nat) (v : FioGrp) : (s.setGrp g v).time = s.time := rfl
@[simp] theorem setGrp_key (s : State) (g : Nat) (v : FioGrp) : (s.setGrp g v).key = s.key := rfl
@[simp] theorem setGrp_aud (s : State) (g : Nat) (v : FioGrp) : (s.setGrp g v).aud = s.aud := rfl
@[simp] theorem setGrp_pair (s : State) (g : Nat) (v : FioGrp) : (s.setGrp g v).pair = s.pair := rfl
@[simp] theorem setGrp_pwr (s : State) (g : Nat) (v : FioGrp) : (s.setGrp g v).pwr = s.pwr := rfl
@[simp] theorem setGrp_rst (s : State) (g : Nat) (v : FioGrp) : (s.setGrp g v).rst = s.rst := rfl
@[simp] theorem setGrp_drip (s : State) (g : Nat) (v : FioGrp) : (s.setGrp g v).drip = s.drip := rfl
@[simp] theorem setGrp_past (s : State) (g : Nat) (v : FioGrp) : (s.setGrp g v).past = s.past := rfl
@[simp] theorem setGrp_edge (s : State) (g : Nat) (v : FioGrp) : (s.setGrp g v).edge = s.edge := rfl
@[simp] theorem setGrp_latch (s : State) (g : Nat) (v : FioGrp) : (s.setGrp g v).latch = s.latch := rfl
@[simp] theorem setGrp_pending (s : State) (g : Nat) (v : FioGrp) : (s.setGrp g v).pending = s.pending := rfl
@[simp] theorem setGrp_out (s : State) (g : Nat) (v : FioGrp) : (s.setGrp g v).out = s.out := rfl
@[simp] theorem setGrp_free (s : State) (g : Nat) (v : FioGrp) : (s.setGrp g v).free = s.free := rfl
@[simp] theorem setAin_epoch (s : State) (i : Nat) (v : AinCh) : (s.setAin i v).epoch = s.epoch := rfl
@[simp] theorem setAin_order (s : State) (i : Nat) (v : AinCh) : (s.setAin i v).order = s.order := rfl
@[simp] theorem setAin_ident (s : State) (i : Nat) (v : AinCh) : (s.setAin i v).ident = s.ident := rfl
@[simp] theorem setAin_host (s : State) (i : Nat) (v : AinCh) : (s.setAin i v).host = s.host := rfl
@[simp] theorem setAin_par (s : State) (i : Nat) (v : AinCh) : (s.setAin i v).par = s.par := rfl
@[simp] theorem setAin_lane (s : State) (i : Nat) (v : AinCh) : (s.setAin i v).lane = s.lane := rfl
@[simp] theorem setAin_prog (s : State) (i : Nat) (v : AinCh) : (s.setAin i v).prog = s.prog := rfl
@[simp] theorem setAin_model (s : State) (i : Nat) (v : AinCh) : (s.setAin i v).model = s.model := rfl
@[simp] theorem setAin_slv (s : State) (i : Nat) (v : AinCh) : (s.setAin i v).slv = s.slv := rfl
@[simp] theorem setAin_perc (s : State) (i : Nat) (v : AinCh) : (s.setAin i v).perc = s.perc := rfl
@[simp] theorem setAin_afe (s : State) (i : Nat) (v : AinCh) : (s.setAin i v).afe = s.afe := rfl
@[simp] theorem setAin_fed (s : State) (i : Nat) (v : AinCh) : (s.setAin i v).fed = s.fed := rfl
@[simp] theorem setAin_stn (s : State) (i : Nat) (v : AinCh) : (s.setAin i v).stn = s.stn := rfl
@[simp] theorem setAin_pts (s : State) (i : Nat) (v : AinCh) : (s.setAin i v).pts = s.pts := rfl
@[simp] theorem setAin_can (s : State) (i : Nat) (v : AinCh) : (s.setAin i v).can = s.can := rfl
@[simp] theorem setAin_net (s : State) (i : Nat) (v : AinCh) : (s.setAin i v).net = s.net := rfl
@[simp] theorem setAin_time (s : State) (i : Nat) (v : AinCh) : (s.setAin i v).time = s.time := rfl
@[simp] theorem setAin_key (s : State) (i : Nat) (v : AinCh) : (s.setAin i v).key = s.key := rfl
@[simp] theorem setAin_aud (s : State) (i : Nat) (v : AinCh) : (s.setAin i v).aud = s.aud := rfl
@[simp] theorem setAin_pair (s : State) (i : Nat) (v : AinCh) : (s.setAin i v).pair = s.pair := rfl
@[simp] theorem setAin_pwr (s : State) (i : Nat) (v : AinCh) : (s.setAin i v).pwr = s.pwr := rfl
@[simp] theorem setAin_rst (s : State) (i : Nat) (v : AinCh) : (s.setAin i v).rst = s.rst := rfl
@[simp] theorem setAin_drip (s : State) (i : Nat) (v : AinCh) : (s.setAin i v).drip = s.drip := rfl
@[simp] theorem setAin_past (s : State) (i : Nat) (v : AinCh) : (s.setAin i v).past = s.past := rfl
@[simp] theorem setAin_edge (s : State) (i : Nat) (v : AinCh) : (s.setAin i v).edge = s.edge := rfl
@[simp] theorem setAin_latch (s : State) (i : Nat) (v : AinCh) : (s.setAin i v).latch = s.latch := rfl
@[simp] theorem setAin_pending (s : State) (i : Nat) (v : AinCh) : (s.setAin i v).pending = s.pending := rfl
@[simp] theorem setAin_out (s : State) (i : Nat) (v : AinCh) : (s.setAin i v).out = s.out := rfl
@[simp] theorem setAin_free (s : State) (i : Nat) (v : AinCh) : (s.setAin i v).free = s.free := rfl
@[simp] theorem setAout_epoch (s : State) (a : Nat) (v : AoutCh) : (s.setAout a v).epoch = s.epoch := rfl
@[simp] theorem setAout_order (s : State) (a : Nat) (v : AoutCh) : (s.setAout a v).order = s.order := rfl
@[simp] theorem setAout_ident (s : State) (a : Nat) (v : AoutCh) : (s.setAout a v).ident = s.ident := rfl
@[simp] theorem setAout_host (s : State) (a : Nat) (v : AoutCh) : (s.setAout a v).host = s.host := rfl
@[simp] theorem setAout_par (s : State) (a : Nat) (v : AoutCh) : (s.setAout a v).par = s.par := rfl
@[simp] theorem setAout_lane (s : State) (a : Nat) (v : AoutCh) : (s.setAout a v).lane = s.lane := rfl
@[simp] theorem setAout_prog (s : State) (a : Nat) (v : AoutCh) : (s.setAout a v).prog = s.prog := rfl
@[simp] theorem setAout_model (s : State) (a : Nat) (v : AoutCh) : (s.setAout a v).model = s.model := rfl
@[simp] theorem setAout_slv (s : State) (a : Nat) (v : AoutCh) : (s.setAout a v).slv = s.slv := rfl
@[simp] theorem setAout_perc (s : State) (a : Nat) (v : AoutCh) : (s.setAout a v).perc = s.perc := rfl
@[simp] theorem setAout_afe (s : State) (a : Nat) (v : AoutCh) : (s.setAout a v).afe = s.afe := rfl
@[simp] theorem setAout_fed (s : State) (a : Nat) (v : AoutCh) : (s.setAout a v).fed = s.fed := rfl
@[simp] theorem setAout_stn (s : State) (a : Nat) (v : AoutCh) : (s.setAout a v).stn = s.stn := rfl
@[simp] theorem setAout_pts (s : State) (a : Nat) (v : AoutCh) : (s.setAout a v).pts = s.pts := rfl
@[simp] theorem setAout_can (s : State) (a : Nat) (v : AoutCh) : (s.setAout a v).can = s.can := rfl
@[simp] theorem setAout_net (s : State) (a : Nat) (v : AoutCh) : (s.setAout a v).net = s.net := rfl
@[simp] theorem setAout_time (s : State) (a : Nat) (v : AoutCh) : (s.setAout a v).time = s.time := rfl
@[simp] theorem setAout_key (s : State) (a : Nat) (v : AoutCh) : (s.setAout a v).key = s.key := rfl
@[simp] theorem setAout_aud (s : State) (a : Nat) (v : AoutCh) : (s.setAout a v).aud = s.aud := rfl
@[simp] theorem setAout_pair (s : State) (a : Nat) (v : AoutCh) : (s.setAout a v).pair = s.pair := rfl
@[simp] theorem setAout_pwr (s : State) (a : Nat) (v : AoutCh) : (s.setAout a v).pwr = s.pwr := rfl
@[simp] theorem setAout_rst (s : State) (a : Nat) (v : AoutCh) : (s.setAout a v).rst = s.rst := rfl
@[simp] theorem setAout_drip (s : State) (a : Nat) (v : AoutCh) : (s.setAout a v).drip = s.drip := rfl
@[simp] theorem setAout_past (s : State) (a : Nat) (v : AoutCh) : (s.setAout a v).past = s.past := rfl
@[simp] theorem setAout_edge (s : State) (a : Nat) (v : AoutCh) : (s.setAout a v).edge = s.edge := rfl
@[simp] theorem setAout_latch (s : State) (a : Nat) (v : AoutCh) : (s.setAout a v).latch = s.latch := rfl
@[simp] theorem setAout_pending (s : State) (a : Nat) (v : AoutCh) : (s.setAout a v).pending = s.pending := rfl
@[simp] theorem setAout_out (s : State) (a : Nat) (v : AoutCh) : (s.setAout a v).out = s.out := rfl
@[simp] theorem setAout_free (s : State) (a : Nat) (v : AoutCh) : (s.setAout a v).free = s.free := rfl
@[simp] theorem setCanCh_epoch (s : State) (c : Nat) (v : CanCh) : (s.setCanCh c v).epoch = s.epoch := rfl
@[simp] theorem setCanCh_order (s : State) (c : Nat) (v : CanCh) : (s.setCanCh c v).order = s.order := rfl
@[simp] theorem setCanCh_ident (s : State) (c : Nat) (v : CanCh) : (s.setCanCh c v).ident = s.ident := rfl
@[simp] theorem setCanCh_host (s : State) (c : Nat) (v : CanCh) : (s.setCanCh c v).host = s.host := rfl
@[simp] theorem setCanCh_par (s : State) (c : Nat) (v : CanCh) : (s.setCanCh c v).par = s.par := rfl
@[simp] theorem setCanCh_lane (s : State) (c : Nat) (v : CanCh) : (s.setCanCh c v).lane = s.lane := rfl
@[simp] theorem setCanCh_prog (s : State) (c : Nat) (v : CanCh) : (s.setCanCh c v).prog = s.prog := rfl
@[simp] theorem setCanCh_model (s : State) (c : Nat) (v : CanCh) : (s.setCanCh c v).model = s.model := rfl
@[simp] theorem setCanCh_slv (s : State) (c : Nat) (v : CanCh) : (s.setCanCh c v).slv = s.slv := rfl
@[simp] theorem setCanCh_perc (s : State) (c : Nat) (v : CanCh) : (s.setCanCh c v).perc = s.perc := rfl
@[simp] theorem setCanCh_afe (s : State) (c : Nat) (v : CanCh) : (s.setCanCh c v).afe = s.afe := rfl
@[simp] theorem setCanCh_fed (s : State) (c : Nat) (v : CanCh) : (s.setCanCh c v).fed = s.fed := rfl
@[simp] theorem setCanCh_stn (s : State) (c : Nat) (v : CanCh) : (s.setCanCh c v).stn = s.stn := rfl
@[simp] theorem setCanCh_pts (s : State) (c : Nat) (v : CanCh) : (s.setCanCh c v).pts = s.pts := rfl
@[simp] theorem setCanCh_fio (s : State) (c : Nat) (v : CanCh) : (s.setCanCh c v).fio = s.fio := rfl
@[simp] theorem setCanCh_net (s : State) (c : Nat) (v : CanCh) : (s.setCanCh c v).net = s.net := rfl
@[simp] theorem setCanCh_time (s : State) (c : Nat) (v : CanCh) : (s.setCanCh c v).time = s.time := rfl
@[simp] theorem setCanCh_key (s : State) (c : Nat) (v : CanCh) : (s.setCanCh c v).key = s.key := rfl
@[simp] theorem setCanCh_aud (s : State) (c : Nat) (v : CanCh) : (s.setCanCh c v).aud = s.aud := rfl
@[simp] theorem setCanCh_pair (s : State) (c : Nat) (v : CanCh) : (s.setCanCh c v).pair = s.pair := rfl
@[simp] theorem setCanCh_pwr (s : State) (c : Nat) (v : CanCh) : (s.setCanCh c v).pwr = s.pwr := rfl
@[simp] theorem setCanCh_rst (s : State) (c : Nat) (v : CanCh) : (s.setCanCh c v).rst = s.rst := rfl
@[simp] theorem setCanCh_drip (s : State) (c : Nat) (v : CanCh) : (s.setCanCh c v).drip = s.drip := rfl
@[simp] theorem setCanCh_past (s : State) (c : Nat) (v : CanCh) : (s.setCanCh c v).past = s.past := rfl
@[simp] theorem setCanCh_edge (s : State) (c : Nat) (v : CanCh) : (s.setCanCh c v).edge = s.edge := rfl
@[simp] theorem setCanCh_latch (s : State) (c : Nat) (v : CanCh) : (s.setCanCh c v).latch = s.latch := rfl
@[simp] theorem setCanCh_pending (s : State) (c : Nat) (v : CanCh) : (s.setCanCh c v).pending = s.pending := rfl
@[simp] theorem setCanCh_out (s : State) (c : Nat) (v : CanCh) : (s.setCanCh c v).out = s.out := rfl
@[simp] theorem setCanCh_free (s : State) (c : Nat) (v : CanCh) : (s.setCanCh c v).free = s.free := rfl
@[simp] theorem setCanBuf_epoch (s : State) (c : Nat) (b : Nat) (v : CanBuf) : (s.setCanBuf c b v).epoch = s.epoch := rfl
@[simp] theorem setCanBuf_order (s : State) (c : Nat) (b : Nat) (v : CanBuf) : (s.setCanBuf c b v).order = s.order := rfl
@[simp] theorem setCanBuf_ident (s : State) (c : Nat) (b : Nat) (v : CanBuf) : (s.setCanBuf c b v).ident = s.ident := rfl
@[simp] theorem setCanBuf_host (s : State) (c : Nat) (b : Nat) (v : CanBuf) : (s.setCanBuf c b v).host = s.host := rfl
@[simp] theorem setCanBuf_par (s : State) (c : Nat) (b : Nat) (v : CanBuf) : (s.setCanBuf c b v).par = s.par := rfl
@[simp] theorem setCanBuf_lane (s : State) (c : Nat) (b : Nat) (v : CanBuf) : (s.setCanBuf c b v).lane = s.lane := rfl
@[simp] theorem setCanBuf_prog (s : State) (c : Nat) (b : Nat) (v : CanBuf) : (s.setCanBuf c b v).prog = s.prog := rfl
@[simp] theorem setCanBuf_model (s : State) (c : Nat) (b : Nat) (v : CanBuf) : (s.setCanBuf c b v).model = s.model := rfl
@[simp] theorem setCanBuf_slv (s : State) (c : Nat) (b : Nat) (v : CanBuf) : (s.setCanBuf c b v).slv = s.slv := rfl
@[simp] theorem setCanBuf_perc (s : State) (c : Nat) (b : Nat) (v : CanBuf) : (s.setCanBuf c b v).perc = s.perc := rfl
@[simp] theorem setCanBuf_afe (s : State) (c : Nat) (b : Nat) (v : CanBuf) : (s.setCanBuf c b v).afe = s.afe := rfl
@[simp] theorem setCanBuf_fed (s : State) (c : Nat) (b : Nat) (v : CanBuf) : (s.setCanBuf c b v).fed = s.fed := rfl
@[simp] theorem setCanBuf_stn (s : State) (c : Nat) (b : Nat) (v : CanBuf) : (s.setCanBuf c b v).stn = s.stn := rfl
@[simp] theorem setCanBuf_pts (s : State) (c : Nat) (b : Nat) (v : CanBuf) : (s.setCanBuf c b v).pts = s.pts := rfl
@[simp] theorem setCanBuf_fio (s : State) (c : Nat) (b : Nat) (v : CanBuf) : (s.setCanBuf c b v).fio = s.fio := rfl
@[simp] theorem setCanBuf_net (s : State) (c : Nat) (b : Nat) (v : CanBuf) : (s.setCanBuf c b v).net = s.net := rfl
@[simp] theorem setCanBuf_time (s : State) (c : Nat) (b : Nat) (v : CanBuf) : (s.setCanBuf c b v).time = s.time := rfl
@[simp] theorem setCanBuf_key (s : State) (c : Nat) (b : Nat) (v : CanBuf) : (s.setCanBuf c b v).key = s.key := rfl
@[simp] theorem setCanBuf_aud (s : State) (c : Nat) (b : Nat) (v : CanBuf) : (s.setCanBuf c b v).aud = s.aud := rfl
@[simp] theorem setCanBuf_pair (s : State) (c : Nat) (b : Nat) (v : CanBuf) : (s.setCanBuf c b v).pair = s.pair := rfl
@[simp] theorem setCanBuf_pwr (s : State) (c : Nat) (b : Nat) (v : CanBuf) : (s.setCanBuf c b v).pwr = s.pwr := rfl
@[simp] theorem setCanBuf_rst (s : State) (c : Nat) (b : Nat) (v : CanBuf) : (s.setCanBuf c b v).rst = s.rst := rfl
@[simp] theorem setCanBuf_drip (s : State) (c : Nat) (b : Nat) (v : CanBuf) : (s.setCanBuf c b v).drip = s.drip := rfl
@[simp] theorem setCanBuf_past (s : State) (c : Nat) (b : Nat) (v : CanBuf) : (s.setCanBuf c b v).past = s.past := rfl
@[simp] theorem setCanBuf_edge (s : State) (c : Nat) (b : Nat) (v : CanBuf) : (s.setCanBuf c b v).edge = s.edge := rfl
@[simp] theorem setCanBuf_latch (s : State) (c : Nat) (b : Nat) (v : CanBuf) : (s.setCanBuf c b v).latch = s.latch := rfl
@[simp] theorem setCanBuf_pending (s : State) (c : Nat) (b : Nat) (v : CanBuf) : (s.setCanBuf c b v).pending = s.pending := rfl
@[simp] theorem setCanBuf_out (s : State) (c : Nat) (b : Nat) (v : CanBuf) : (s.setCanBuf c b v).out = s.out := rfl
@[simp] theorem setCanBuf_free (s : State) (c : Nat) (b : Nat) (v : CanBuf) : (s.setCanBuf c b v).free = s.free := rfl
@[simp] theorem setTask_epoch (s : State) (t : Nat) (v : TaskSt) : (s.setTask t v).epoch = s.epoch := rfl
@[simp] theorem setTask_order (s : State) (t : Nat) (v : TaskSt) : (s.setTask t v).order = s.order := rfl
@[simp] theorem setTask_ident (s : State) (t : Nat) (v : TaskSt) : (s.setTask t v).ident = s.ident := rfl
@[simp] theorem setTask_host (s : State) (t : Nat) (v : TaskSt) : (s.setTask t v).host = s.host := rfl
@[simp] theorem setTask_par (s : State) (t : Nat) (v : TaskSt) : (s.setTask t v).par = s.par := rfl
@[simp] theorem setTask_lane (s : State) (t : Nat) (v : TaskSt) : (s.setTask t v).lane = s.lane := rfl
@[simp] theorem setTask_model (s : State) (t : Nat) (v : TaskSt) : (s.setTask t v).model = s.model := rfl
@[simp] theorem setTask_slv (s : State) (t : Nat) (v : TaskSt) : (s.setTask t v).slv = s.slv := rfl
@[simp] theorem setTask_perc (s : State) (t : Nat) (v : TaskSt) : (s.setTask t v).perc = s.perc := rfl
@[simp] theorem setTask_afe (s : State) (t : Nat) (v : TaskSt) : (s.setTask t v).afe = s.afe := rfl
@[simp] theorem setTask_fed (s : State) (t : Nat) (v : TaskSt) : (s.setTask t v).fed = s.fed := rfl
@[simp] theorem setTask_stn (s : State) (t : Nat) (v : TaskSt) : (s.setTask t v).stn = s.stn := rfl
@[simp] theorem setTask_pts (s : State) (t : Nat) (v : TaskSt) : (s.setTask t v).pts = s.pts := rfl
@[simp] theorem setTask_fio (s : State) (t : Nat) (v : TaskSt) : (s.setTask t v).fio = s.fio := rfl
@[simp] theorem setTask_can (s : State) (t : Nat) (v : TaskSt) : (s.setTask t v).can = s.can := rfl
@[simp] theorem setTask_net (s : State) (t : Nat) (v : TaskSt) : (s.setTask t v).net = s.net := rfl
@[simp] theorem setTask_time (s : State) (t : Nat) (v : TaskSt) : (s.setTask t v).time = s.time := rfl
@[simp] theorem setTask_key (s : State) (t : Nat) (v : TaskSt) : (s.setTask t v).key = s.key := rfl
@[simp] theorem setTask_aud (s : State) (t : Nat) (v : TaskSt) : (s.setTask t v).aud = s.aud := rfl
@[simp] theorem setTask_pair (s : State) (t : Nat) (v : TaskSt) : (s.setTask t v).pair = s.pair := rfl
@[simp] theorem setTask_pwr (s : State) (t : Nat) (v : TaskSt) : (s.setTask t v).pwr = s.pwr := rfl
@[simp] theorem setTask_rst (s : State) (t : Nat) (v : TaskSt) : (s.setTask t v).rst = s.rst := rfl
@[simp] theorem setTask_drip (s : State) (t : Nat) (v : TaskSt) : (s.setTask t v).drip = s.drip := rfl
@[simp] theorem setTask_past (s : State) (t : Nat) (v : TaskSt) : (s.setTask t v).past = s.past := rfl
@[simp] theorem setTask_edge (s : State) (t : Nat) (v : TaskSt) : (s.setTask t v).edge = s.edge := rfl
@[simp] theorem setTask_latch (s : State) (t : Nat) (v : TaskSt) : (s.setTask t v).latch = s.latch := rfl
@[simp] theorem setTask_pending (s : State) (t : Nat) (v : TaskSt) : (s.setTask t v).pending = s.pending := rfl
@[simp] theorem setTask_out (s : State) (t : Nat) (v : TaskSt) : (s.setTask t v).out = s.out := rfl
@[simp] theorem setTask_free (s : State) (t : Nat) (v : TaskSt) : (s.setTask t v).free = s.free := rfl
@[simp] theorem setStn_epoch (s : State) (n : Nat) (v : Stn) : (s.setStn n v).epoch = s.epoch := rfl
@[simp] theorem setStn_order (s : State) (n : Nat) (v : Stn) : (s.setStn n v).order = s.order := rfl
@[simp] theorem setStn_ident (s : State) (n : Nat) (v : Stn) : (s.setStn n v).ident = s.ident := rfl
@[simp] theorem setStn_host (s : State) (n : Nat) (v : Stn) : (s.setStn n v).host = s.host := rfl
@[simp] theorem setStn_par (s : State) (n : Nat) (v : Stn) : (s.setStn n v).par = s.par := rfl
@[simp] theorem setStn_lane (s : State) (n : Nat) (v : Stn) : (s.setStn n v).lane = s.lane := rfl
@[simp] theorem setStn_prog (s : State) (n : Nat) (v : Stn) : (s.setStn n v).prog = s.prog := rfl
@[simp] theorem setStn_model (s : State) (n : Nat) (v : Stn) : (s.setStn n v).model = s.model := rfl
@[simp] theorem setStn_slv (s : State) (n : Nat) (v : Stn) : (s.setStn n v).slv = s.slv := rfl
@[simp] theorem setStn_perc (s : State) (n : Nat) (v : Stn) : (s.setStn n v).perc = s.perc := rfl
@[simp] theorem setStn_afe (s : State) (n : Nat) (v : Stn) : (s.setStn n v).afe = s.afe := rfl
@[simp] theorem setStn_fed (s : State) (n : Nat) (v : Stn) : (s.setStn n v).fed = s.fed := rfl
@[simp] theorem setStn_pts (s : State) (n : Nat) (v : Stn) : (s.setStn n v).pts = s.pts := rfl
@[simp] theorem setStn_fio (s : State) (n : Nat) (v : Stn) : (s.setStn n v).fio = s.fio := rfl
@[simp] theorem setStn_can (s : State) (n : Nat) (v : Stn) : (s.setStn n v).can = s.can := rfl
@[simp] theorem setStn_net (s : State) (n : Nat) (v : Stn) : (s.setStn n v).net = s.net := rfl
@[simp] theorem setStn_time (s : State) (n : Nat) (v : Stn) : (s.setStn n v).time = s.time := rfl
@[simp] theorem setStn_key (s : State) (n : Nat) (v : Stn) : (s.setStn n v).key = s.key := rfl
@[simp] theorem setStn_aud (s : State) (n : Nat) (v : Stn) : (s.setStn n v).aud = s.aud := rfl
@[simp] theorem setStn_pair (s : State) (n : Nat) (v : Stn) : (s.setStn n v).pair = s.pair := rfl
@[simp] theorem setStn_pwr (s : State) (n : Nat) (v : Stn) : (s.setStn n v).pwr = s.pwr := rfl
@[simp] theorem setStn_rst (s : State) (n : Nat) (v : Stn) : (s.setStn n v).rst = s.rst := rfl
@[simp] theorem setStn_drip (s : State) (n : Nat) (v : Stn) : (s.setStn n v).drip = s.drip := rfl
@[simp] theorem setStn_past (s : State) (n : Nat) (v : Stn) : (s.setStn n v).past = s.past := rfl
@[simp] theorem setStn_edge (s : State) (n : Nat) (v : Stn) : (s.setStn n v).edge = s.edge := rfl
@[simp] theorem setStn_latch (s : State) (n : Nat) (v : Stn) : (s.setStn n v).latch = s.latch := rfl
@[simp] theorem setStn_pending (s : State) (n : Nat) (v : Stn) : (s.setStn n v).pending = s.pending := rfl
@[simp] theorem setStn_out (s : State) (n : Nat) (v : Stn) : (s.setStn n v).out = s.out := rfl
@[simp] theorem setStn_free (s : State) (n : Nat) (v : Stn) : (s.setStn n v).free = s.free := rfl
@[simp] theorem setLane_epoch (s : State) (l : Nat) (v : Lane) : (s.setLane l v).epoch = s.epoch := rfl
@[simp] theorem setLane_order (s : State) (l : Nat) (v : Lane) : (s.setLane l v).order = s.order := rfl
@[simp] theorem setLane_ident (s : State) (l : Nat) (v : Lane) : (s.setLane l v).ident = s.ident := rfl
@[simp] theorem setLane_host (s : State) (l : Nat) (v : Lane) : (s.setLane l v).host = s.host := rfl
@[simp] theorem setLane_par (s : State) (l : Nat) (v : Lane) : (s.setLane l v).par = s.par := rfl
@[simp] theorem setLane_prog (s : State) (l : Nat) (v : Lane) : (s.setLane l v).prog = s.prog := rfl
@[simp] theorem setLane_model (s : State) (l : Nat) (v : Lane) : (s.setLane l v).model = s.model := rfl
@[simp] theorem setLane_slv (s : State) (l : Nat) (v : Lane) : (s.setLane l v).slv = s.slv := rfl
@[simp] theorem setLane_perc (s : State) (l : Nat) (v : Lane) : (s.setLane l v).perc = s.perc := rfl
@[simp] theorem setLane_afe (s : State) (l : Nat) (v : Lane) : (s.setLane l v).afe = s.afe := rfl
@[simp] theorem setLane_fed (s : State) (l : Nat) (v : Lane) : (s.setLane l v).fed = s.fed := rfl
@[simp] theorem setLane_stn (s : State) (l : Nat) (v : Lane) : (s.setLane l v).stn = s.stn := rfl
@[simp] theorem setLane_pts (s : State) (l : Nat) (v : Lane) : (s.setLane l v).pts = s.pts := rfl
@[simp] theorem setLane_fio (s : State) (l : Nat) (v : Lane) : (s.setLane l v).fio = s.fio := rfl
@[simp] theorem setLane_can (s : State) (l : Nat) (v : Lane) : (s.setLane l v).can = s.can := rfl
@[simp] theorem setLane_net (s : State) (l : Nat) (v : Lane) : (s.setLane l v).net = s.net := rfl
@[simp] theorem setLane_time (s : State) (l : Nat) (v : Lane) : (s.setLane l v).time = s.time := rfl
@[simp] theorem setLane_key (s : State) (l : Nat) (v : Lane) : (s.setLane l v).key = s.key := rfl
@[simp] theorem setLane_aud (s : State) (l : Nat) (v : Lane) : (s.setLane l v).aud = s.aud := rfl
@[simp] theorem setLane_pair (s : State) (l : Nat) (v : Lane) : (s.setLane l v).pair = s.pair := rfl
@[simp] theorem setLane_pwr (s : State) (l : Nat) (v : Lane) : (s.setLane l v).pwr = s.pwr := rfl
@[simp] theorem setLane_rst (s : State) (l : Nat) (v : Lane) : (s.setLane l v).rst = s.rst := rfl
@[simp] theorem setLane_drip (s : State) (l : Nat) (v : Lane) : (s.setLane l v).drip = s.drip := rfl
@[simp] theorem setLane_past (s : State) (l : Nat) (v : Lane) : (s.setLane l v).past = s.past := rfl
@[simp] theorem setLane_edge (s : State) (l : Nat) (v : Lane) : (s.setLane l v).edge = s.edge := rfl
@[simp] theorem setLane_latch (s : State) (l : Nat) (v : Lane) : (s.setLane l v).latch = s.latch := rfl
@[simp] theorem setLane_pending (s : State) (l : Nat) (v : Lane) : (s.setLane l v).pending = s.pending := rfl
@[simp] theorem setLane_out (s : State) (l : Nat) (v : Lane) : (s.setLane l v).out = s.out := rfl
@[simp] theorem setLane_free (s : State) (l : Nat) (v : Lane) : (s.setLane l v).free = s.free := rfl
@[simp] theorem setFloor_epoch (s : State) (level : Nat) (r : FloorRec) : (s.setFloor level r).epoch = s.epoch := rfl
@[simp] theorem setFloor_order (s : State) (level : Nat) (r : FloorRec) : (s.setFloor level r).order = s.order := rfl
@[simp] theorem setFloor_ident (s : State) (level : Nat) (r : FloorRec) : (s.setFloor level r).ident = s.ident := rfl
@[simp] theorem setFloor_host (s : State) (level : Nat) (r : FloorRec) : (s.setFloor level r).host = s.host := rfl
@[simp] theorem setFloor_par (s : State) (level : Nat) (r : FloorRec) : (s.setFloor level r).par = s.par := rfl
@[simp] theorem setFloor_lane (s : State) (level : Nat) (r : FloorRec) : (s.setFloor level r).lane = s.lane := rfl
@[simp] theorem setFloor_prog (s : State) (level : Nat) (r : FloorRec) : (s.setFloor level r).prog = s.prog := rfl
@[simp] theorem setFloor_model (s : State) (level : Nat) (r : FloorRec) : (s.setFloor level r).model = s.model := rfl
@[simp] theorem setFloor_slv (s : State) (level : Nat) (r : FloorRec) : (s.setFloor level r).slv = s.slv := rfl
@[simp] theorem setFloor_perc (s : State) (level : Nat) (r : FloorRec) : (s.setFloor level r).perc = s.perc := rfl
@[simp] theorem setFloor_afe (s : State) (level : Nat) (r : FloorRec) : (s.setFloor level r).afe = s.afe := rfl
@[simp] theorem setFloor_stn (s : State) (level : Nat) (r : FloorRec) : (s.setFloor level r).stn = s.stn := rfl
@[simp] theorem setFloor_pts (s : State) (level : Nat) (r : FloorRec) : (s.setFloor level r).pts = s.pts := rfl
@[simp] theorem setFloor_fio (s : State) (level : Nat) (r : FloorRec) : (s.setFloor level r).fio = s.fio := rfl
@[simp] theorem setFloor_can (s : State) (level : Nat) (r : FloorRec) : (s.setFloor level r).can = s.can := rfl
@[simp] theorem setFloor_net (s : State) (level : Nat) (r : FloorRec) : (s.setFloor level r).net = s.net := rfl
@[simp] theorem setFloor_time (s : State) (level : Nat) (r : FloorRec) : (s.setFloor level r).time = s.time := rfl
@[simp] theorem setFloor_key (s : State) (level : Nat) (r : FloorRec) : (s.setFloor level r).key = s.key := rfl
@[simp] theorem setFloor_aud (s : State) (level : Nat) (r : FloorRec) : (s.setFloor level r).aud = s.aud := rfl
@[simp] theorem setFloor_pair (s : State) (level : Nat) (r : FloorRec) : (s.setFloor level r).pair = s.pair := rfl
@[simp] theorem setFloor_pwr (s : State) (level : Nat) (r : FloorRec) : (s.setFloor level r).pwr = s.pwr := rfl
@[simp] theorem setFloor_rst (s : State) (level : Nat) (r : FloorRec) : (s.setFloor level r).rst = s.rst := rfl
@[simp] theorem setFloor_drip (s : State) (level : Nat) (r : FloorRec) : (s.setFloor level r).drip = s.drip := rfl
@[simp] theorem setFloor_past (s : State) (level : Nat) (r : FloorRec) : (s.setFloor level r).past = s.past := rfl
@[simp] theorem setFloor_edge (s : State) (level : Nat) (r : FloorRec) : (s.setFloor level r).edge = s.edge := rfl
@[simp] theorem setFloor_latch (s : State) (level : Nat) (r : FloorRec) : (s.setFloor level r).latch = s.latch := rfl
@[simp] theorem setFloor_pending (s : State) (level : Nat) (r : FloorRec) : (s.setFloor level r).pending = s.pending := rfl
@[simp] theorem setFloor_out (s : State) (level : Nat) (r : FloorRec) : (s.setFloor level r).out = s.out := rfl
@[simp] theorem setFloor_free (s : State) (level : Nat) (r : FloorRec) : (s.setFloor level r).free = s.free := rfl
@[simp] theorem setCoup_epoch (s : State) (i : Nat) (c : CoupSt) : (s.setCoup i c).epoch = s.epoch := rfl
@[simp] theorem setCoup_order (s : State) (i : Nat) (c : CoupSt) : (s.setCoup i c).order = s.order := rfl
@[simp] theorem setCoup_ident (s : State) (i : Nat) (c : CoupSt) : (s.setCoup i c).ident = s.ident := rfl
@[simp] theorem setCoup_host (s : State) (i : Nat) (c : CoupSt) : (s.setCoup i c).host = s.host := rfl
@[simp] theorem setCoup_par (s : State) (i : Nat) (c : CoupSt) : (s.setCoup i c).par = s.par := rfl
@[simp] theorem setCoup_lane (s : State) (i : Nat) (c : CoupSt) : (s.setCoup i c).lane = s.lane := rfl
@[simp] theorem setCoup_prog (s : State) (i : Nat) (c : CoupSt) : (s.setCoup i c).prog = s.prog := rfl
@[simp] theorem setCoup_model (s : State) (i : Nat) (c : CoupSt) : (s.setCoup i c).model = s.model := rfl
@[simp] theorem setCoup_slv (s : State) (i : Nat) (c : CoupSt) : (s.setCoup i c).slv = s.slv := rfl
@[simp] theorem setCoup_perc (s : State) (i : Nat) (c : CoupSt) : (s.setCoup i c).perc = s.perc := rfl
@[simp] theorem setCoup_afe (s : State) (i : Nat) (c : CoupSt) : (s.setCoup i c).afe = s.afe := rfl
@[simp] theorem setCoup_stn (s : State) (i : Nat) (c : CoupSt) : (s.setCoup i c).stn = s.stn := rfl
@[simp] theorem setCoup_pts (s : State) (i : Nat) (c : CoupSt) : (s.setCoup i c).pts = s.pts := rfl
@[simp] theorem setCoup_fio (s : State) (i : Nat) (c : CoupSt) : (s.setCoup i c).fio = s.fio := rfl
@[simp] theorem setCoup_can (s : State) (i : Nat) (c : CoupSt) : (s.setCoup i c).can = s.can := rfl
@[simp] theorem setCoup_net (s : State) (i : Nat) (c : CoupSt) : (s.setCoup i c).net = s.net := rfl
@[simp] theorem setCoup_time (s : State) (i : Nat) (c : CoupSt) : (s.setCoup i c).time = s.time := rfl
@[simp] theorem setCoup_key (s : State) (i : Nat) (c : CoupSt) : (s.setCoup i c).key = s.key := rfl
@[simp] theorem setCoup_aud (s : State) (i : Nat) (c : CoupSt) : (s.setCoup i c).aud = s.aud := rfl
@[simp] theorem setCoup_pair (s : State) (i : Nat) (c : CoupSt) : (s.setCoup i c).pair = s.pair := rfl
@[simp] theorem setCoup_pwr (s : State) (i : Nat) (c : CoupSt) : (s.setCoup i c).pwr = s.pwr := rfl
@[simp] theorem setCoup_rst (s : State) (i : Nat) (c : CoupSt) : (s.setCoup i c).rst = s.rst := rfl
@[simp] theorem setCoup_drip (s : State) (i : Nat) (c : CoupSt) : (s.setCoup i c).drip = s.drip := rfl
@[simp] theorem setCoup_past (s : State) (i : Nat) (c : CoupSt) : (s.setCoup i c).past = s.past := rfl
@[simp] theorem setCoup_edge (s : State) (i : Nat) (c : CoupSt) : (s.setCoup i c).edge = s.edge := rfl
@[simp] theorem setCoup_latch (s : State) (i : Nat) (c : CoupSt) : (s.setCoup i c).latch = s.latch := rfl
@[simp] theorem setCoup_pending (s : State) (i : Nat) (c : CoupSt) : (s.setCoup i c).pending = s.pending := rfl
@[simp] theorem setCoup_out (s : State) (i : Nat) (c : CoupSt) : (s.setCoup i c).out = s.out := rfl
@[simp] theorem setCoup_free (s : State) (i : Nat) (c : CoupSt) : (s.setCoup i c).free = s.free := rfl
@[simp] theorem setMirror_epoch (s : State) (n : Nat) (m : Mirror) : (s.setMirror n m).epoch = s.epoch := rfl
@[simp] theorem setMirror_order (s : State) (n : Nat) (m : Mirror) : (s.setMirror n m).order = s.order := rfl
@[simp] theorem setMirror_ident (s : State) (n : Nat) (m : Mirror) : (s.setMirror n m).ident = s.ident := rfl
@[simp] theorem setMirror_par (s : State) (n : Nat) (m : Mirror) : (s.setMirror n m).par = s.par := rfl
@[simp] theorem setMirror_lane (s : State) (n : Nat) (m : Mirror) : (s.setMirror n m).lane = s.lane := rfl
@[simp] theorem setMirror_prog (s : State) (n : Nat) (m : Mirror) : (s.setMirror n m).prog = s.prog := rfl
@[simp] theorem setMirror_model (s : State) (n : Nat) (m : Mirror) : (s.setMirror n m).model = s.model := rfl
@[simp] theorem setMirror_slv (s : State) (n : Nat) (m : Mirror) : (s.setMirror n m).slv = s.slv := rfl
@[simp] theorem setMirror_perc (s : State) (n : Nat) (m : Mirror) : (s.setMirror n m).perc = s.perc := rfl
@[simp] theorem setMirror_afe (s : State) (n : Nat) (m : Mirror) : (s.setMirror n m).afe = s.afe := rfl
@[simp] theorem setMirror_fed (s : State) (n : Nat) (m : Mirror) : (s.setMirror n m).fed = s.fed := rfl
@[simp] theorem setMirror_stn (s : State) (n : Nat) (m : Mirror) : (s.setMirror n m).stn = s.stn := rfl
@[simp] theorem setMirror_pts (s : State) (n : Nat) (m : Mirror) : (s.setMirror n m).pts = s.pts := rfl
@[simp] theorem setMirror_fio (s : State) (n : Nat) (m : Mirror) : (s.setMirror n m).fio = s.fio := rfl
@[simp] theorem setMirror_can (s : State) (n : Nat) (m : Mirror) : (s.setMirror n m).can = s.can := rfl
@[simp] theorem setMirror_net (s : State) (n : Nat) (m : Mirror) : (s.setMirror n m).net = s.net := rfl
@[simp] theorem setMirror_time (s : State) (n : Nat) (m : Mirror) : (s.setMirror n m).time = s.time := rfl
@[simp] theorem setMirror_key (s : State) (n : Nat) (m : Mirror) : (s.setMirror n m).key = s.key := rfl
@[simp] theorem setMirror_aud (s : State) (n : Nat) (m : Mirror) : (s.setMirror n m).aud = s.aud := rfl
@[simp] theorem setMirror_pair (s : State) (n : Nat) (m : Mirror) : (s.setMirror n m).pair = s.pair := rfl
@[simp] theorem setMirror_pwr (s : State) (n : Nat) (m : Mirror) : (s.setMirror n m).pwr = s.pwr := rfl
@[simp] theorem setMirror_rst (s : State) (n : Nat) (m : Mirror) : (s.setMirror n m).rst = s.rst := rfl
@[simp] theorem setMirror_drip (s : State) (n : Nat) (m : Mirror) : (s.setMirror n m).drip = s.drip := rfl
@[simp] theorem setMirror_past (s : State) (n : Nat) (m : Mirror) : (s.setMirror n m).past = s.past := rfl
@[simp] theorem setMirror_edge (s : State) (n : Nat) (m : Mirror) : (s.setMirror n m).edge = s.edge := rfl
@[simp] theorem setMirror_latch (s : State) (n : Nat) (m : Mirror) : (s.setMirror n m).latch = s.latch := rfl
@[simp] theorem setMirror_pending (s : State) (n : Nat) (m : Mirror) : (s.setMirror n m).pending = s.pending := rfl
@[simp] theorem setMirror_out (s : State) (n : Nat) (m : Mirror) : (s.setMirror n m).out = s.out := rfl
@[simp] theorem setMirror_free (s : State) (n : Nat) (m : Mirror) : (s.setMirror n m).free = s.free := rfl
@[simp] theorem setAlm_epoch (s : State) (n : Nat) (a : CalAlarm) : (s.setAlm n a).epoch = s.epoch := rfl
@[simp] theorem setAlm_order (s : State) (n : Nat) (a : CalAlarm) : (s.setAlm n a).order = s.order := rfl
@[simp] theorem setAlm_ident (s : State) (n : Nat) (a : CalAlarm) : (s.setAlm n a).ident = s.ident := rfl
@[simp] theorem setAlm_host (s : State) (n : Nat) (a : CalAlarm) : (s.setAlm n a).host = s.host := rfl
@[simp] theorem setAlm_par (s : State) (n : Nat) (a : CalAlarm) : (s.setAlm n a).par = s.par := rfl
@[simp] theorem setAlm_lane (s : State) (n : Nat) (a : CalAlarm) : (s.setAlm n a).lane = s.lane := rfl
@[simp] theorem setAlm_prog (s : State) (n : Nat) (a : CalAlarm) : (s.setAlm n a).prog = s.prog := rfl
@[simp] theorem setAlm_model (s : State) (n : Nat) (a : CalAlarm) : (s.setAlm n a).model = s.model := rfl
@[simp] theorem setAlm_slv (s : State) (n : Nat) (a : CalAlarm) : (s.setAlm n a).slv = s.slv := rfl
@[simp] theorem setAlm_perc (s : State) (n : Nat) (a : CalAlarm) : (s.setAlm n a).perc = s.perc := rfl
@[simp] theorem setAlm_afe (s : State) (n : Nat) (a : CalAlarm) : (s.setAlm n a).afe = s.afe := rfl
@[simp] theorem setAlm_fed (s : State) (n : Nat) (a : CalAlarm) : (s.setAlm n a).fed = s.fed := rfl
@[simp] theorem setAlm_stn (s : State) (n : Nat) (a : CalAlarm) : (s.setAlm n a).stn = s.stn := rfl
@[simp] theorem setAlm_pts (s : State) (n : Nat) (a : CalAlarm) : (s.setAlm n a).pts = s.pts := rfl
@[simp] theorem setAlm_fio (s : State) (n : Nat) (a : CalAlarm) : (s.setAlm n a).fio = s.fio := rfl
@[simp] theorem setAlm_can (s : State) (n : Nat) (a : CalAlarm) : (s.setAlm n a).can = s.can := rfl
@[simp] theorem setAlm_net (s : State) (n : Nat) (a : CalAlarm) : (s.setAlm n a).net = s.net := rfl
@[simp] theorem setAlm_time (s : State) (n : Nat) (a : CalAlarm) : (s.setAlm n a).time = s.time := rfl
@[simp] theorem setAlm_key (s : State) (n : Nat) (a : CalAlarm) : (s.setAlm n a).key = s.key := rfl
@[simp] theorem setAlm_aud (s : State) (n : Nat) (a : CalAlarm) : (s.setAlm n a).aud = s.aud := rfl
@[simp] theorem setAlm_pair (s : State) (n : Nat) (a : CalAlarm) : (s.setAlm n a).pair = s.pair := rfl
@[simp] theorem setAlm_pwr (s : State) (n : Nat) (a : CalAlarm) : (s.setAlm n a).pwr = s.pwr := rfl
@[simp] theorem setAlm_rst (s : State) (n : Nat) (a : CalAlarm) : (s.setAlm n a).rst = s.rst := rfl
@[simp] theorem setAlm_past (s : State) (n : Nat) (a : CalAlarm) : (s.setAlm n a).past = s.past := rfl
@[simp] theorem setAlm_edge (s : State) (n : Nat) (a : CalAlarm) : (s.setAlm n a).edge = s.edge := rfl
@[simp] theorem setAlm_latch (s : State) (n : Nat) (a : CalAlarm) : (s.setAlm n a).latch = s.latch := rfl
@[simp] theorem setAlm_pending (s : State) (n : Nat) (a : CalAlarm) : (s.setAlm n a).pending = s.pending := rfl
@[simp] theorem setAlm_out (s : State) (n : Nat) (a : CalAlarm) : (s.setAlm n a).out = s.out := rfl
@[simp] theorem setAlm_free (s : State) (n : Nat) (a : CalAlarm) : (s.setAlm n a).free = s.free := rfl
@[simp] theorem setSetup_epoch (s : State) (a : SetupArg) (v : SetupSt) : (s.setSetup a v).epoch = s.epoch := rfl
@[simp] theorem setSetup_order (s : State) (a : SetupArg) (v : SetupSt) : (s.setSetup a v).order = s.order := rfl
@[simp] theorem setSetup_ident (s : State) (a : SetupArg) (v : SetupSt) : (s.setSetup a v).ident = s.ident := rfl
@[simp] theorem setSetup_host (s : State) (a : SetupArg) (v : SetupSt) : (s.setSetup a v).host = s.host := rfl
@[simp] theorem setSetup_par (s : State) (a : SetupArg) (v : SetupSt) : (s.setSetup a v).par = s.par := rfl
@[simp] theorem setSetup_lane (s : State) (a : SetupArg) (v : SetupSt) : (s.setSetup a v).lane = s.lane := rfl
@[simp] theorem setSetup_prog (s : State) (a : SetupArg) (v : SetupSt) : (s.setSetup a v).prog = s.prog := rfl
@[simp] theorem setSetup_model (s : State) (a : SetupArg) (v : SetupSt) : (s.setSetup a v).model = s.model := rfl
@[simp] theorem setSetup_slv (s : State) (a : SetupArg) (v : SetupSt) : (s.setSetup a v).slv = s.slv := rfl
@[simp] theorem setSetup_perc (s : State) (a : SetupArg) (v : SetupSt) : (s.setSetup a v).perc = s.perc := rfl
@[simp] theorem setSetup_afe (s : State) (a : SetupArg) (v : SetupSt) : (s.setSetup a v).afe = s.afe := rfl
@[simp] theorem setSetup_fed (s : State) (a : SetupArg) (v : SetupSt) : (s.setSetup a v).fed = s.fed := rfl
@[simp] theorem setSetup_stn (s : State) (a : SetupArg) (v : SetupSt) : (s.setSetup a v).stn = s.stn := rfl
@[simp] theorem setSetup_pts (s : State) (a : SetupArg) (v : SetupSt) : (s.setSetup a v).pts = s.pts := rfl
@[simp] theorem setSetup_fio (s : State) (a : SetupArg) (v : SetupSt) : (s.setSetup a v).fio = s.fio := rfl
@[simp] theorem setSetup_can (s : State) (a : SetupArg) (v : SetupSt) : (s.setSetup a v).can = s.can := rfl
@[simp] theorem setSetup_net (s : State) (a : SetupArg) (v : SetupSt) : (s.setSetup a v).net = s.net := rfl
@[simp] theorem setSetup_time (s : State) (a : SetupArg) (v : SetupSt) : (s.setSetup a v).time = s.time := rfl
@[simp] theorem setSetup_aud (s : State) (a : SetupArg) (v : SetupSt) : (s.setSetup a v).aud = s.aud := rfl
@[simp] theorem setSetup_pair (s : State) (a : SetupArg) (v : SetupSt) : (s.setSetup a v).pair = s.pair := rfl
@[simp] theorem setSetup_pwr (s : State) (a : SetupArg) (v : SetupSt) : (s.setSetup a v).pwr = s.pwr := rfl
@[simp] theorem setSetup_rst (s : State) (a : SetupArg) (v : SetupSt) : (s.setSetup a v).rst = s.rst := rfl
@[simp] theorem setSetup_drip (s : State) (a : SetupArg) (v : SetupSt) : (s.setSetup a v).drip = s.drip := rfl
@[simp] theorem setSetup_past (s : State) (a : SetupArg) (v : SetupSt) : (s.setSetup a v).past = s.past := rfl
@[simp] theorem setSetup_edge (s : State) (a : SetupArg) (v : SetupSt) : (s.setSetup a v).edge = s.edge := rfl
@[simp] theorem setSetup_latch (s : State) (a : SetupArg) (v : SetupSt) : (s.setSetup a v).latch = s.latch := rfl
@[simp] theorem setSetup_pending (s : State) (a : SetupArg) (v : SetupSt) : (s.setSetup a v).pending = s.pending := rfl
@[simp] theorem setSetup_out (s : State) (a : SetupArg) (v : SetupSt) : (s.setSetup a v).out = s.out := rfl
@[simp] theorem setSetup_free (s : State) (a : SetupArg) (v : SetupSt) : (s.setSetup a v).free = s.free := rfl

end Sys2Proof.Laws
end

