-- ==== Sys2Proof/Laws/Tab.lean ====
section
/-! SUPPORT. The laws of the sparse tables: what a read after an update gives, and that the order of the numbers is
kept. -/

namespace Sys2Proof.Laws
open Sys2Proof.Machine

variable {α : Type}

@[simp] theorem tget_nil (k : Nat) : tget ([] : Tab α) k = none := rfl

@[simp] theorem tget_tset_same (t : Tab α) (k : Nat) (v : α) : tget (tset t k v) k = some v := by
  induction t with
  | nil => simp [tset, tget]
  | cons x t ih =>
    obtain ⟨j, w⟩ := x
    unfold tset
    split
    · simp [tget]
    split
    · simp [tget]
    · rename_i h
      simp [tget, h, ih]

theorem tget_tset_other (t : Tab α) (k j : Nat) (v : α) (h : j ≠ k) : tget (tset t k v) j = tget t j := by
  induction t with
  | nil => simp [tset, tget, h.symm]
  | cons x t ih =>
    obtain ⟨i, w⟩ := x
    unfold tset
    split
    · simp [tget, h.symm]
    split
    · rename_i e
      subst e
      simp [tget, h.symm]
    · simp [tget, ih]

theorem tget_tset (t : Tab α) (k j : Nat) (v : α) :
    tget (tset t k v) j = if j = k then some v else tget t j := by
  split
  · rename_i e; rw [e]; exact tget_tset_same t k v
  · rename_i h; exact tget_tset_other t k j v h

@[simp] theorem tgetD_tset_same (t : Tab α) (k : Nat) (v d : α) : tgetD (tset t k v) k d = v := by
  simp [tgetD]

theorem tgetD_tset_other (t : Tab α) (k j : Nat) (v d : α) (h : j ≠ k) : tgetD (tset t k v) j d = tgetD t j d := by
  simp [tgetD, tget_tset_other t k j v h]

theorem tget_tdel (t : Tab α) (k j : Nat) : tget (tdel t k) j = if j = k then none else tget t j := by
  induction t with
  | nil => simp [tdel, tget]
  | cons x t ih =>
    obtain ⟨i, w⟩ := x
    unfold tdel
    split
    · rename_i e
      subst e
      rw [ih]
      split
      · rfl
      · rename_i hj
        simp [tget, Ne.symm hj]
    · rename_i e
      by_cases hi : i = j
      · subst hi
        simp [tget, e]
      · simp only [tget, hi, if_false, ih]

theorem tget_tdel_other (t : Tab α) (k j : Nat) (h : j ≠ k) : tget (tdel t k) j = tget t j := by
  rw [tget_tdel, if_neg h]

/-- The first number of a table lies above `k`. -/
theorem tsorted_cons (k : Nat) (v : α) (t : Tab α) :
    tsorted ((k, v) :: t) = true ↔ (∀ j w u, t = (j, w) :: u → k < j) ∧ tsorted t = true := by
  cases t with
  | nil => simp [tsorted]
  | cons x u =>
    obtain ⟨j, w⟩ := x
    simp only [tsorted, Bool.and_eq_true, decide_eq_true_eq]
    constructor
    · rintro ⟨h1, h2⟩
      exact ⟨fun j' w' u' e => by cases e; exact h1, h2⟩
    · rintro ⟨h1, h2⟩
      exact ⟨h1 j w u rfl, h2⟩

theorem tset_head (t : Tab α) (k : Nat) (v : α) (i : Nat) (ht : ∀ j w u, t = (j, w) :: u → i < j) (hi : i < k) :
    ∀ j w u, tset t k v = (j, w) :: u → i < j := by
  intro j w u e
  cases t with
  | nil =>
    simp only [tset, List.cons.injEq, Prod.mk.injEq] at e
    omega
  | cons x t' =>
    obtain ⟨j0, w0⟩ := x
    have h0 := ht j0 w0 t' rfl
    simp only [tset] at e
    split at e
    · simp only [List.cons.injEq, Prod.mk.injEq] at e; omega
    split at e
    · simp only [List.cons.injEq, Prod.mk.injEq] at e; omega
    · simp only [List.cons.injEq, Prod.mk.injEq] at e; omega

theorem tset_sorted (t : Tab α) (k : Nat) (v : α) (h : tsorted t = true) : tsorted (tset t k v) = true := by
  induction t with
  | nil => rfl
  | cons x t ih =>
    obtain ⟨j, w⟩ := x
    have hc := (tsorted_cons j w t).1 h
    unfold tset
    split
    · rename_i hk
      exact (tsorted_cons k v _).2 ⟨fun j' w' u' e => by cases e; exact hk, h⟩
    split
    · rename_i e
      exact (tsorted_cons k v t).2 ⟨fun j' w' u' e' => e ▸ hc.1 j' w' u' e', hc.2⟩
    · exact (tsorted_cons j w _).2 ⟨tset_head t k v j hc.1 (by omega), ih hc.2⟩

end Sys2Proof.Laws
end

