-- ==== Sys2Proof/Laws/Ops.lean ====
section
/-! SUPPORT. What taking, recording and answering a command do: one law for each shared operation says that it leaves
all but its own bookkeeping as it was, and the laws of `command` give its outcome in every case. -/

namespace Sys2Proof.Laws
open Sys2Proof.Machine

/-! ### Silent changes -/

theorem silent_refl (s : State) : Silent s s := ⟨rfl, fun _ => rfl, fun _ => rfl⟩

theorem silent_trans {s t u : State} (h : Silent s t) (k : Silent t u) : Silent s u := by
  refine ⟨?_, fun n => (k.queues n).trans (h.queues n), fun n => (k.sessions n).trans (h.sessions n)⟩
  have h1 := h.rest
  have k1 := k.rest
  rw [k1, h1]

/-- A change of other parts carries a silent change along. -/
theorem silent_map {s u : State} (h : Silent s u) (f : State → State)
    (hf : ∀ (t : State) (q : Tab QPair) (x : Tab Session) (m : U32) (e : U32) (k : Tab MgmtLink) (a : AuditSt)
      (o : List OutMsg) (g : Option Past),
      f { t with host.queues := q, host.sessions := x, host.msixPend := m, host.eventsLost := e, key.mgmt := k,
                 aud := a, out := o, edge := g } =
        { f t with host.queues := q, host.sessions := x, host.msixPend := m, host.eventsLost := e, key.mgmt := k,
                   aud := a, out := o, edge := g }) :
    Silent (f s) (f u) := by
  have own : ∀ t : State, (f t).host.queues = t.host.queues ∧ (f t).host.sessions = t.host.sessions ∧
      (f t).host.msixPend = t.host.msixPend ∧ (f t).host.eventsLost = t.host.eventsLost ∧
      (f t).key.mgmt = t.key.mgmt ∧ (f t).aud = t.aud ∧ (f t).out = t.out ∧ (f t).edge = t.edge := by
    intro t
    have e := hf t t.host.queues t.host.sessions t.host.msixPend t.host.eventsLost t.key.mgmt t.aud t.out t.edge
    have e2 : f t = _ := e
    rw [e2]
    simp
  have hu := hf s u.host.queues u.host.sessions u.host.msixPend u.host.eventsLost u.key.mgmt u.aud u.out u.edge
  rw [← h.rest] at hu
  refine ⟨?_, fun n => ?_, fun n => ?_⟩
  · obtain ⟨a1, a2, a3, a4, a5, a6, a7, a8⟩ := own u
    rw [a1, a2, a3, a4, a5, a6, a7, a8]
    exact hu
  · simp only [State.queue, (own u).1, (own s).1]
    exact h.queues n
  · simp only [State.sess, (own u).2.1, (own s).2.1]
    exact h.sessions n

theorem queue_setQueue (s : State) (n m : Nat) (q : QPair) :
    (s.setQueue n q).queue m = if m = n then q else s.queue m := by
  unfold State.setQueue State.queue tgetD
  rw [tget_tset]
  split <;> rfl

theorem sess_setSess (s : State) (n m : Nat) (v : Session) :
    (s.setSess n v).sess m = if m = n then v else s.sess m := by
  unfold State.setSess State.sess tgetD
  rw [tget_tset]
  split <;> rfl

theorem silent_setQueue (s : State) (n : Nat) (q : QPair) (h : queueSettings q = queueSettings (s.queue n)) :
    Silent s (s.setQueue n q) := by
  refine ⟨rfl, fun m => ?_, fun _ => rfl⟩
  rw [queue_setQueue]
  split
  · rename_i e; rw [e, h]
  · rfl

theorem silent_setSess (s : State) (n : Nat) (v : Session) (h : sessSettings v = sessSettings (s.sess n)) :
    Silent s (s.setSess n v) := by
  refine ⟨rfl, fun _ => rfl, fun m => ?_⟩
  rw [sess_setSess]
  split
  · rename_i e; rw [e, h]
  · rfl

theorem silent_emit (s : State) (m : OutMsg) : Silent s (s.emit m) := ⟨rfl, fun _ => rfl, fun _ => rfl⟩

theorem silent_mgmt (s : State) (m : Tab MgmtLink) : Silent s { s with key.mgmt := m } :=
  ⟨rfl, fun _ => rfl, fun _ => rfl⟩

theorem silent_sendMsix (s : State) (v : Nat) : Silent s (s.sendMsix v) := by
  unfold State.sendMsix
  split
  · exact ⟨rfl, fun _ => rfl, fun _ => rfl⟩
  · exact silent_emit _ _

theorem silent_auditPush (s : State) (r : AuditRec) : Silent s (s.auditPush r) := ⟨rfl, fun _ => rfl, fun _ => rfl⟩

theorem silent_postQueue (s : State) (n : Nat) (e : Entry) (d : List Byte) : Silent s (s.postQueue n e d).1 := by
  unfold State.postQueue
  dsimp only
  split
  · exact silent_refl s
  split
  · have h : Silent s (s.setQueue n (s.queue n).dropped) := silent_setQueue _ _ _ rfl
    split
    · exact silent_trans h ⟨rfl, fun _ => rfl, fun _ => rfl⟩
    · exact h
  · have h : Silent s (s.setQueue n (s.queue n).wrote) := silent_setQueue _ _ _ rfl
    exact silent_trans (silent_trans h (silent_emit _ _)) (silent_sendMsix _ _)

theorem silent_post (s : State) (dst : Src) (e : Entry) (d : List Byte) : Silent s (s.post dst e d).1 := by
  unfold State.post
  split
  · exact silent_refl s
  · exact silent_postQueue s _ e d
  · split
    · exact silent_trans (silent_mgmt s _) (silent_emit _ _)
    · exact silent_refl s

theorem silent_foldl {α : Type} (l : List α) (f : State → α → State) (s : State) (h : ∀ a x, Silent a (f a x)) :
    Silent s (l.foldl f s) := by
  induction l generalizing s with
  | nil => exact silent_refl s
  | cons x l ih => exact silent_trans (h s x) (ih _)

@[simp] theorem sendMsix_aud (s : State) (v : Nat) : (s.sendMsix v).aud = s.aud := by
  unfold State.sendMsix
  split <;> rfl

@[simp] theorem postQueue_aud (s : State) (n : Nat) (e : Entry) (d : List Byte) : (s.postQueue n e d).1.aud = s.aud := by
  unfold State.postQueue
  dsimp only
  split
  · rfl
  split
  · split <;> rfl
  · rw [sendMsix_aud]; rfl

@[simp] theorem post_aud (s : State) (dst : Src) (e : Entry) (d : List Byte) : (s.post dst e d).1.aud = s.aud := by
  unfold State.post
  split
  · rfl
  · exact postQueue_aud s _ e d
  · split <;> rfl

theorem foldl_aud {α : Type} (l : List α) (f : State → α → State) (s : State) (h : ∀ a x, (f a x).aud = a.aud) :
    (l.foldl f s).aud = s.aud := by
  induction l generalizing s with
  | nil => rfl
  | cons x l ih => exact (ih _).trans (h s x)

/-- An event writes no audit record (R425). -/
@[simp] theorem event_aud (s : State) (code status : Nat) (d : List Byte) : (s.event code status d).aud = s.aud := by
  unfold State.event
  dsimp only
  rw [foldl_aud]
  · split
    · exact postQueue_aud _ _ _ _
    · rfl
  · intro a x
    split
    · exact post_aud _ _ _ _
    · rfl

/-- A device condition writes one audit record (R472). -/
@[simp] theorem condition_aud (s : State) (n : Nat) (d : List Byte) :
    (s.condition n d).aud = (s.auditDev 4 0x0100 n 0 d).aud := event_aud _ _ _ _

/-- What a vector adds to the messages sent. -/
theorem sendMsix_out (s : State) (v : Nat) : s.out <:+ (s.sendMsix v).out := by
  unfold State.sendMsix
  split
  · exact List.suffix_refl _
  · exact List.suffix_cons _ _

/-- An entry posted to a queue in service that has room is sent (R415). -/
theorem postQueue_out (s : State) (n : Nat) (e : Entry) (d : List Byte) (he : (s.queue n).enabled = true)
    (hf : (s.queue n).cqFull = false) :
    OutMsg.entry (.queue n) { e with phase := (s.queue n).phase } d ∈ (s.postQueue n e d).1.out := by
  unfold State.postQueue
  simp only [he, hf, Bool.not_true, Bool.false_eq_true, if_false]
  exact (sendMsix_out _ n).subset (by simp [State.emit])

/-- The pair of a queue in service that has room, after an entry has been posted to it (R414). -/
theorem postQueue_queue (s : State) (n : Nat) (e : Entry) (d : List Byte) (he : (s.queue n).enabled = true)
    (hf : (s.queue n).cqFull = false) : (s.postQueue n e d).1.queue n = (s.queue n).wrote := by
  have h1 : ∀ (t : State) (v : Nat), (t.sendMsix v).queue n = t.queue n := by
    intro t v
    unfold State.sendMsix
    split <;> rfl
  unfold State.postQueue
  simp only [he, hf, Bool.not_true, Bool.false_eq_true, if_false]
  rw [h1]
  show (s.setQueue n (s.queue n).wrote).queue n = _
  rw [queue_setQueue, if_pos rfl]

/-- An event writes nothing but its entries (R425). -/
theorem silent_event (s : State) (code status : Nat) (d : List Byte) : Silent s (s.event code status d) := by
  unfold State.event
  dsimp only
  refine silent_trans ?_ (silent_foldl _ _ _ fun a n => ?_)
  · split
    · exact silent_postQueue _ _ _ _
    · exact silent_refl s
  · split
    · exact silent_post _ _ _ _
    · exact silent_refl a

/-- A device condition writes nothing but its record and its event (R425, R472). -/
theorem silent_condition (s : State) (status : Nat) (d : List Byte) : Silent s (s.condition status d) :=
  silent_trans (silent_auditPush s _) (silent_event _ _ _ _)

theorem silent_take (s : State) (h : Hdr) : Silent s (s.take h) := by
  have hc : Silent s s.closeEdge := by
    unfold State.closeEdge
    split
    · exact silent_refl s
    · exact { rest := rfl, queues := fun _ => rfl, sessions := fun _ => rfl }
  refine silent_trans hc ?_
  unfold State.take State.unqueue
  split
  · exact silent_refl _
  · exact silent_setQueue _ _ _ rfl
  · exact silent_trans (silent_mgmt _ _) (silent_setSess _ _ _ rfl)

theorem silent_auditCmd (s : State) (c : CmdInfo) (h : Hdr) (n : Nat) (d : List Byte × Bool) (v : Verdict) :
    Silent s (s.auditCmd c h n d v) := by
  unfold State.auditCmd
  split
  · exact silent_refl s
  · exact silent_auditPush _ _

theorem silent_reply (s : State) (h : Hdr) (v : Verdict) : Silent s (s.reply h v) := by
  unfold State.reply
  dsimp only
  split
  · exact silent_post _ _ _ _
  · refine silent_trans ?_ (silent_post _ _ _ _)
    split
    · exact silent_refl s
    · exact silent_emit _ _

/-- Taking, recording and answering a command write nothing else (R411, R412, R472). -/
theorem silent_answered (s : State) (c : CmdInfo) (h : Hdr) (n : Nat) (v : Verdict) : Silent s (s.answered c h n v) :=
  silent_trans (silent_trans (silent_take s h) (silent_auditCmd _ _ _ _ _ _)) (silent_reply _ _ _)

/-! ### Commands -/

/-- A command that is taken and passes the shared checks: its verdict decides. -/
theorem command_admitted (s : State) (c : CmdInfo) (h : Hdr) (n : Nat) (f : State → Verdict)
    (ha : s.admitted c h = true) :
    s.command c h n f = (f (s.take h)).act (s.answered c h n (f (s.take h))) := by
  unfold State.admitted at ha
  simp only [Bool.and_eq_true, beq_iff_eq] at ha
  simp only [State.command, ha.1, if_true, State.judge, ha.2, State.finish, State.answered]

/-- A command that is taken and fails a shared check: it is answered with that status and has no effect. -/
theorem command_rejects (s : State) (c : CmdInfo) (h : Hdr) (n : Nat) (f : State → Verdict)
    (ht : s.takeable h = true) (hg : (s.take h).gate c h ≠ St.OK) :
    s.command c h n f = s.answered c h n (reject ((s.take h).gate c h)) := by
  simp only [State.command, ht, if_true, State.judge, hg, if_false, State.finish, State.answered]
  rfl

/-- A packet that cannot be taken leaves the state as it is, but for the count of discarded frames. -/
theorem command_idle (s : State) (c : CmdInfo) (h : Hdr) (n : Nat) (f : State → Verdict)
    (ht : s.takeable h = false) : s.command c h n f = s.discardFrame h := by
  simp [State.command, ht]

/-- A long command that is accepted. -/
theorem long_some (s : State) (h : Hdr) (op : Nat) (act : U32 → State → State) (n : U32) (hn : s.nextHandle = some n) :
    s.long h op act = { status := St.ACCEPTED, handle := n,
                        act := fun t => act n (t.openHandle h.src h.src h.tag op) } := by
  simp [State.long, hn]

/-- A long command for which no handle is free. -/
theorem long_none (s : State) (h : Hdr) (op : Nat) (act : U32 → State → State) (hn : s.nextHandle = none) :
    s.long h op act = reject St.BUSY := by
  simp [State.long, hn]

end Sys2Proof.Laws
end

