-- ==== Sys2Proof/Laws/Silent.lean ====
section
/-! SUPPORT. What a change that only records and answers leaves alone, part by part, and the same for taking a packet,
for the answered state, for an event and for a device condition. -/

namespace Sys2Proof.Laws
open Sys2Proof.Machine

theorem silent_epoch {s t : State} (h : Silent s t) : t.epoch = s.epoch := by rw [h.rest]
theorem silent_order {s t : State} (h : Silent s t) : t.order = s.order := by rw [h.rest]
theorem silent_ident {s t : State} (h : Silent s t) : t.ident = s.ident := by rw [h.rest]
theorem silent_par {s t : State} (h : Silent s t) : t.par = s.par := by rw [h.rest]
theorem silent_lane {s t : State} (h : Silent s t) : t.lane = s.lane := by rw [h.rest]
theorem silent_prog {s t : State} (h : Silent s t) : t.prog = s.prog := by rw [h.rest]
theorem silent_model {s t : State} (h : Silent s t) : t.model = s.model := by rw [h.rest]
theorem silent_slv {s t : State} (h : Silent s t) : t.slv = s.slv := by rw [h.rest]
theorem silent_perc {s t : State} (h : Silent s t) : t.perc = s.perc := by rw [h.rest]
theorem silent_afe {s t : State} (h : Silent s t) : t.afe = s.afe := by rw [h.rest]
theorem silent_fed {s t : State} (h : Silent s t) : t.fed = s.fed := by rw [h.rest]
theorem silent_stn {s t : State} (h : Silent s t) : t.stn = s.stn := by rw [h.rest]
theorem silent_pts {s t : State} (h : Silent s t) : t.pts = s.pts := by rw [h.rest]
theorem silent_fio {s t : State} (h : Silent s t) : t.fio = s.fio := by rw [h.rest]
theorem silent_can {s t : State} (h : Silent s t) : t.can = s.can := by rw [h.rest]
theorem silent_net {s t : State} (h : Silent s t) : t.net = s.net := by rw [h.rest]
theorem silent_time {s t : State} (h : Silent s t) : t.time = s.time := by rw [h.rest]
theorem silent_pair {s t : State} (h : Silent s t) : t.pair = s.pair := by rw [h.rest]
theorem silent_pwr {s t : State} (h : Silent s t) : t.pwr = s.pwr := by rw [h.rest]
theorem silent_rst {s t : State} (h : Silent s t) : t.rst = s.rst := by rw [h.rest]
theorem silent_drip {s t : State} (h : Silent s t) : t.drip = s.drip := by rw [h.rest]
theorem silent_past {s t : State} (h : Silent s t) : t.past = s.past := by rw [h.rest]
theorem silent_latch {s t : State} (h : Silent s t) : t.latch = s.latch := by rw [h.rest]
theorem silent_pending {s t : State} (h : Silent s t) : t.pending = s.pending := by rw [h.rest]
theorem silent_free {s t : State} (h : Silent s t) : t.free = s.free := by rw [h.rest]
theorem silent_host_handles {s t : State} (h : Silent s t) : t.host.handles = s.host.handles := by rw [h.rest]
theorem silent_host_freeList {s t : State} (h : Silent s t) : t.host.freeList = s.host.freeList := by rw [h.rest]
theorem silent_host_alarms {s t : State} (h : Silent s t) : t.host.alarms = s.host.alarms := by rw [h.rest]
theorem silent_host_alarmsDropped {s t : State} (h : Silent s t) : t.host.alarmsDropped = s.host.alarmsDropped := by rw [h.rest]
theorem silent_host_staging {s t : State} (h : Silent s t) : t.host.staging = s.host.staging := by rw [h.rest]
theorem silent_host_due {s t : State} (h : Silent s t) : t.host.due = s.host.due := by rw [h.rest]
theorem silent_host_pendCommits {s t : State} (h : Silent s t) : t.host.pendCommits = s.host.pendCommits := by rw [h.rest]
theorem silent_host_accSeq {s t : State} (h : Silent s t) : t.host.accSeq = s.host.accSeq := by rw [h.rest]
theorem silent_host_snaps {s t : State} (h : Silent s t) : t.host.snaps = s.host.snaps := by rw [h.rest]
theorem silent_host_mirrors {s t : State} (h : Silent s t) : t.host.mirrors = s.host.mirrors := by rw [h.rest]
theorem silent_host_frameChs {s t : State} (h : Silent s t) : t.host.frameChs = s.host.frameChs := by rw [h.rest]
theorem silent_host_msix {s t : State} (h : Silent s t) : t.host.msix = s.host.msix := by rw [h.rest]
theorem silent_host_lowLatch {s t : State} (h : Silent s t) : t.host.lowLatch = s.host.lowLatch := by rw [h.rest]
theorem silent_host_hiLatch {s t : State} (h : Silent s t) : t.host.hiLatch = s.host.hiLatch := by rw [h.rest]
theorem silent_host_devStatus {s t : State} (h : Silent s t) : t.host.devStatus = s.host.devStatus := by rw [h.rest]
theorem silent_key_slots {s t : State} (h : Silent s t) : t.key.slots = s.key.slots := by rw [h.rest]
theorem silent_key_entries {s t : State} (h : Silent s t) : t.key.entries = s.key.entries := by rw [h.rest]
theorem silent_key_ops {s t : State} (h : Silent s t) : t.key.ops = s.key.ops := by rw [h.rest]
theorem silent_key_kek {s t : State} (h : Silent s t) : t.key.kek = s.key.kek := by rw [h.rest]
theorem silent_key_kekValid {s t : State} (h : Silent s t) : t.key.kekValid = s.key.kekValid := by rw [h.rest]
theorem silent_key_storeState {s t : State} (h : Silent s t) : t.key.storeState = s.key.storeState := by rw [h.rest]
theorem silent_key_enginesClear {s t : State} (h : Silent s t) : t.key.enginesClear = s.key.enginesClear := by rw [h.rest]
theorem silent_key_fuseClear {s t : State} (h : Silent s t) : t.key.fuseClear = s.key.fuseClear := by rw [h.rest]
theorem silent_key_tamLatched {s t : State} (h : Silent s t) : t.key.tamLatched = s.key.tamLatched := by rw [h.rest]
theorem silent_key_tamMask {s t : State} (h : Silent s t) : t.key.tamMask = s.key.tamMask := by rw [h.rest]
theorem silent_key_tamCause {s t : State} (h : Silent s t) : t.key.tamCause = s.key.tamCause := by rw [h.rest]
theorem silent_key_tamTime {s t : State} (h : Silent s t) : t.key.tamTime = s.key.tamTime := by rw [h.rest]
theorem silent_key_tamPending {s t : State} (h : Silent s t) : t.key.tamPending = s.key.tamPending := by rw [h.rest]
theorem silent_key_slotsBad {s t : State} (h : Silent s t) : t.key.slotsBad = s.key.slotsBad := by rw [h.rest]
theorem silent_key_lastScrub {s t : State} (h : Silent s t) : t.key.lastScrub = s.key.lastScrub := by rw [h.rest]
theorem silent_key_setups {s t : State} (h : Silent s t) : t.key.setups = s.key.setups := by rw [h.rest]

theorem silent_bindOf {s t : State} (h : Silent s t) (x : Src) : t.bindOf x = s.bindOf x := by
  cases x with
  | none => rfl
  | queue n =>
    have e : (queueSettings (t.queue n)).bind = (queueSettings (s.queue n)).bind := by rw [h.queues n]
    exact e
  | session n =>
    have e : (sessSettings (t.sess n)).bind = (sessSettings (s.sess n)).bind := by rw [h.sessions n]
    exact e

theorem silent_roleOf {s t : State} (h : Silent s t) (x : Src) : t.roleOf x = s.roleOf x := by
  simp only [State.roleOf, silent_bindOf h]

theorem silent_pv {s t : State} (h : Silent s t) (i k : Nat) : t.pv i k = s.pv i k := by
  rw [h.rest]; rfl

theorem silent_installerHeld {s t : State} (h : Silent s t) : t.installerHeld = s.installerHeld := by
  simp only [State.installerHeld, silent_roleOf h]

theorem silent_nextHandle {s t : State} (h : Silent s t) : t.nextHandle = s.nextHandle := by
  rw [h.rest]; rfl

@[simp] theorem take_epoch (s : State) (h : Hdr) : (s.take h).epoch = s.epoch := silent_epoch (silent_take s h)
@[simp] theorem take_order (s : State) (h : Hdr) : (s.take h).order = s.order := silent_order (silent_take s h)
@[simp] theorem take_ident (s : State) (h : Hdr) : (s.take h).ident = s.ident := silent_ident (silent_take s h)
@[simp] theorem take_par (s : State) (h : Hdr) : (s.take h).par = s.par := silent_par (silent_take s h)
@[simp] theorem take_lane (s : State) (h : Hdr) : (s.take h).lane = s.lane := silent_lane (silent_take s h)
@[simp] theorem take_prog (s : State) (h : Hdr) : (s.take h).prog = s.prog := silent_prog (silent_take s h)
@[simp] theorem take_model (s : State) (h : Hdr) : (s.take h).model = s.model := silent_model (silent_take s h)
@[simp] theorem take_slv (s : State) (h : Hdr) : (s.take h).slv = s.slv := silent_slv (silent_take s h)
@[simp] theorem take_perc (s : State) (h : Hdr) : (s.take h).perc = s.perc := silent_perc (silent_take s h)
@[simp] theorem take_afe (s : State) (h : Hdr) : (s.take h).afe = s.afe := silent_afe (silent_take s h)
@[simp] theorem take_fed (s : State) (h : Hdr) : (s.take h).fed = s.fed := silent_fed (silent_take s h)
@[simp] theorem take_stn (s : State) (h : Hdr) : (s.take h).stn = s.stn := silent_stn (silent_take s h)
@[simp] theorem take_pts (s : State) (h : Hdr) : (s.take h).pts = s.pts := silent_pts (silent_take s h)
@[simp] theorem take_fio (s : State) (h : Hdr) : (s.take h).fio = s.fio := silent_fio (silent_take s h)
@[simp] theorem take_can (s : State) (h : Hdr) : (s.take h).can = s.can := silent_can (silent_take s h)
@[simp] theorem take_net (s : State) (h : Hdr) : (s.take h).net = s.net := silent_net (silent_take s h)
@[simp] theorem take_time (s : State) (h : Hdr) : (s.take h).time = s.time := silent_time (silent_take s h)
@[simp] theorem take_pair (s : State) (h : Hdr) : (s.take h).pair = s.pair := silent_pair (silent_take s h)
@[simp] theorem take_pwr (s : State) (h : Hdr) : (s.take h).pwr = s.pwr := silent_pwr (silent_take s h)
@[simp] theorem take_rst (s : State) (h : Hdr) : (s.take h).rst = s.rst := silent_rst (silent_take s h)
@[simp] theorem take_drip (s : State) (h : Hdr) : (s.take h).drip = s.drip := silent_drip (silent_take s h)
@[simp] theorem take_past (s : State) (h : Hdr) : (s.take h).past = s.past := silent_past (silent_take s h)
@[simp] theorem take_latch (s : State) (h : Hdr) : (s.take h).latch = s.latch := silent_latch (silent_take s h)
@[simp] theorem take_pending (s : State) (h : Hdr) : (s.take h).pending = s.pending := silent_pending (silent_take s h)
@[simp] theorem take_free (s : State) (h : Hdr) : (s.take h).free = s.free := silent_free (silent_take s h)
@[simp] theorem take_host_handles (s : State) (h : Hdr) : (s.take h).host.handles = s.host.handles := silent_host_handles (silent_take s h)
@[simp] theorem take_host_freeList (s : State) (h : Hdr) : (s.take h).host.freeList = s.host.freeList := silent_host_freeList (silent_take s h)
@[simp] theorem take_host_alarms (s : State) (h : Hdr) : (s.take h).host.alarms = s.host.alarms := silent_host_alarms (silent_take s h)
@[simp] theorem take_host_alarmsDropped (s : State) (h : Hdr) : (s.take h).host.alarmsDropped = s.host.alarmsDropped := silent_host_alarmsDropped (silent_take s h)
@[simp] theorem take_host_staging (s : State) (h : Hdr) : (s.take h).host.staging = s.host.staging := silent_host_staging (silent_take s h)
@[simp] theorem take_host_due (s : State) (h : Hdr) : (s.take h).host.due = s.host.due := silent_host_due (silent_take s h)
@[simp] theorem take_host_pendCommits (s : State) (h : Hdr) : (s.take h).host.pendCommits = s.host.pendCommits := silent_host_pendCommits (silent_take s h)
@[simp] theorem take_host_accSeq (s : State) (h : Hdr) : (s.take h).host.accSeq = s.host.accSeq := silent_host_accSeq (silent_take s h)
@[simp] theorem take_host_snaps (s : State) (h : Hdr) : (s.take h).host.snaps = s.host.snaps := silent_host_snaps (silent_take s h)
@[simp] theorem take_host_mirrors (s : State) (h : Hdr) : (s.take h).host.mirrors = s.host.mirrors := silent_host_mirrors (silent_take s h)
@[simp] theorem take_host_frameChs (s : State) (h : Hdr) : (s.take h).host.frameChs = s.host.frameChs := silent_host_frameChs (silent_take s h)
@[simp] theorem take_host_msix (s : State) (h : Hdr) : (s.take h).host.msix = s.host.msix := silent_host_msix (silent_take s h)
@[simp] theorem take_host_lowLatch (s : State) (h : Hdr) : (s.take h).host.lowLatch = s.host.lowLatch := silent_host_lowLatch (silent_take s h)
@[simp] theorem take_host_hiLatch (s : State) (h : Hdr) : (s.take h).host.hiLatch = s.host.hiLatch := silent_host_hiLatch (silent_take s h)
@[simp] theorem take_host_devStatus (s : State) (h : Hdr) : (s.take h).host.devStatus = s.host.devStatus := silent_host_devStatus (silent_take s h)
@[simp] theorem take_key_slots (s : State) (h : Hdr) : (s.take h).key.slots = s.key.slots := silent_key_slots (silent_take s h)
@[simp] theorem take_key_entries (s : State) (h : Hdr) : (s.take h).key.entries = s.key.entries := silent_key_entries (silent_take s h)
@[simp] theorem take_key_ops (s : State) (h : Hdr) : (s.take h).key.ops = s.key.ops := silent_key_ops (silent_take s h)
@[simp] theorem take_key_kek (s : State) (h : Hdr) : (s.take h).key.kek = s.key.kek := silent_key_kek (silent_take s h)
@[simp] theorem take_key_kekValid (s : State) (h : Hdr) : (s.take h).key.kekValid = s.key.kekValid := silent_key_kekValid (silent_take s h)
@[simp] theorem take_key_storeState (s : State) (h : Hdr) : (s.take h).key.storeState = s.key.storeState := silent_key_storeState (silent_take s h)
@[simp] theorem take_key_enginesClear (s : State) (h : Hdr) : (s.take h).key.enginesClear = s.key.enginesClear := silent_key_enginesClear (silent_take s h)
@[simp] theorem take_key_fuseClear (s : State) (h : Hdr) : (s.take h).key.fuseClear = s.key.fuseClear := silent_key_fuseClear (silent_take s h)
@[simp] theorem take_key_tamLatched (s : State) (h : Hdr) : (s.take h).key.tamLatched = s.key.tamLatched := silent_key_tamLatched (silent_take s h)
@[simp] theorem take_key_tamMask (s : State) (h : Hdr) : (s.take h).key.tamMask = s.key.tamMask := silent_key_tamMask (silent_take s h)
@[simp] theorem take_key_tamCause (s : State) (h : Hdr) : (s.take h).key.tamCause = s.key.tamCause := silent_key_tamCause (silent_take s h)
@[simp] theorem take_key_tamTime (s : State) (h : Hdr) : (s.take h).key.tamTime = s.key.tamTime := silent_key_tamTime (silent_take s h)
@[simp] theorem take_key_tamPending (s : State) (h : Hdr) : (s.take h).key.tamPending = s.key.tamPending := silent_key_tamPending (silent_take s h)
@[simp] theorem take_key_slotsBad (s : State) (h : Hdr) : (s.take h).key.slotsBad = s.key.slotsBad := silent_key_slotsBad (silent_take s h)
@[simp] theorem take_key_lastScrub (s : State) (h : Hdr) : (s.take h).key.lastScrub = s.key.lastScrub := silent_key_lastScrub (silent_take s h)
@[simp] theorem take_key_setups (s : State) (h : Hdr) : (s.take h).key.setups = s.key.setups := silent_key_setups (silent_take s h)
@[simp] theorem take_roleOf (s : State) (h : Hdr) (x : Src) : (s.take h).roleOf x = s.roleOf x := silent_roleOf (silent_take s h) x
@[simp] theorem take_bindOf (s : State) (h : Hdr) (x : Src) : (s.take h).bindOf x = s.bindOf x := silent_bindOf (silent_take s h) x
@[simp] theorem take_installerHeld (s : State) (h : Hdr) : (s.take h).installerHeld = s.installerHeld := silent_installerHeld (silent_take s h)
@[simp] theorem take_nextHandle (s : State) (h : Hdr) : (s.take h).nextHandle = s.nextHandle := silent_nextHandle (silent_take s h)
@[simp] theorem take_pv (s : State) (h : Hdr) (i k : Nat) : (s.take h).pv i k = s.pv i k := silent_pv (silent_take s h) i k
@[simp] theorem answered_epoch (s : State) (c : CmdInfo) (h : Hdr) (n : Nat) (v : Verdict) : (s.answered c h n v).epoch = s.epoch := silent_epoch (silent_answered s c h n v)
@[simp] theorem answered_order (s : State) (c : CmdInfo) (h : Hdr) (n : Nat) (v : Verdict) : (s.answered c h n v).order = s.order := silent_order (silent_answered s c h n v)
@[simp] theorem answered_ident (s : State) (c : CmdInfo) (h : Hdr) (n : Nat) (v : Verdict) : (s.answered c h n v).ident = s.ident := silent_ident (silent_answered s c h n v)
@[simp] theorem answered_par (s : State) (c : CmdInfo) (h : Hdr) (n : Nat) (v : Verdict) : (s.answered c h n v).par = s.par := silent_par (silent_answered s c h n v)
@[simp] theorem answered_lane (s : State) (c : CmdInfo) (h : Hdr) (n : Nat) (v : Verdict) : (s.answered c h n v).lane = s.lane := silent_lane (silent_answered s c h n v)
@[simp] theorem answered_prog (s : State) (c : CmdInfo) (h : Hdr) (n : Nat) (v : Verdict) : (s.answered c h n v).prog = s.prog := silent_prog (silent_answered s c h n v)
@[simp] theorem answered_model (s : State) (c : CmdInfo) (h : Hdr) (n : Nat) (v : Verdict) : (s.answered c h n v).model = s.model := silent_model (silent_answered s c h n v)
@[simp] theorem answered_slv (s : State) (c : CmdInfo) (h : Hdr) (n : Nat) (v : Verdict) : (s.answered c h n v).slv = s.slv := silent_slv (silent_answered s c h n v)
@[simp] theorem answered_perc (s : State) (c : CmdInfo) (h : Hdr) (n : Nat) (v : Verdict) : (s.answered c h n v).perc = s.perc := silent_perc (silent_answered s c h n v)
@[simp] theorem answered_afe (s : State) (c : CmdInfo) (h : Hdr) (n : Nat) (v : Verdict) : (s.answered c h n v).afe = s.afe := silent_afe (silent_answered s c h n v)
@[simp] theorem answered_fed (s : State) (c : CmdInfo) (h : Hdr) (n : Nat) (v : Verdict) : (s.answered c h n v).fed = s.fed := silent_fed (silent_answered s c h n v)
@[simp] theorem answered_stn (s : State) (c : CmdInfo) (h : Hdr) (n : Nat) (v : Verdict) : (s.answered c h n v).stn = s.stn := silent_stn (silent_answered s c h n v)
@[simp] theorem answered_pts (s : State) (c : CmdInfo) (h : Hdr) (n : Nat) (v : Verdict) : (s.answered c h n v).pts = s.pts := silent_pts (silent_answered s c h n v)
@[simp] theorem answered_fio (s : State) (c : CmdInfo) (h : Hdr) (n : Nat) (v : Verdict) : (s.answered c h n v).fio = s.fio := silent_fio (silent_answered s c h n v)
@[simp] theorem answered_can (s : State) (c : CmdInfo) (h : Hdr) (n : Nat) (v : Verdict) : (s.answered c h n v).can = s.can := silent_can (silent_answered s c h n v)
@[simp] theorem answered_net (s : State) (c : CmdInfo) (h : Hdr) (n : Nat) (v : Verdict) : (s.answered c h n v).net = s.net := silent_net (silent_answered s c h n v)
@[simp] theorem answered_time (s : State) (c : CmdInfo) (h : Hdr) (n : Nat) (v : Verdict) : (s.answered c h n v).time = s.time := silent_time (silent_answered s c h n v)
@[simp] theorem answered_pair (s : State) (c : CmdInfo) (h : Hdr) (n : Nat) (v : Verdict) : (s.answered c h n v).pair = s.pair := silent_pair (silent_answered s c h n v)
@[simp] theorem answered_pwr (s : State) (c : CmdInfo) (h : Hdr) (n : Nat) (v : Verdict) : (s.answered c h n v).pwr = s.pwr := silent_pwr (silent_answered s c h n v)
@[simp] theorem answered_rst (s : State) (c : CmdInfo) (h : Hdr) (n : Nat) (v : Verdict) : (s.answered c h n v).rst = s.rst := silent_rst (silent_answered s c h n v)
@[simp] theorem answered_drip (s : State) (c : CmdInfo) (h : Hdr) (n : Nat) (v : Verdict) : (s.answered c h n v).drip = s.drip := silent_drip (silent_answered s c h n v)
@[simp] theorem answered_past (s : State) (c : CmdInfo) (h : Hdr) (n : Nat) (v : Verdict) : (s.answered c h n v).past = s.past := silent_past (silent_answered s c h n v)
@[simp] theorem answered_latch (s : State) (c : CmdInfo) (h : Hdr) (n : Nat) (v : Verdict) : (s.answered c h n v).latch = s.latch := silent_latch (silent_answered s c h n v)
@[simp] theorem answered_pending (s : State) (c : CmdInfo) (h : Hdr) (n : Nat) (v : Verdict) : (s.answered c h n v).pending = s.pending := silent_pending (silent_answered s c h n v)
@[simp] theorem answered_free (s : State) (c : CmdInfo) (h : Hdr) (n : Nat) (v : Verdict) : (s.answered c h n v).free = s.free := silent_free (silent_answered s c h n v)
@[simp] theorem answered_host_handles (s : State) (c : CmdInfo) (h : Hdr) (n : Nat) (v : Verdict) : (s.answered c h n v).host.handles = s.host.handles := silent_host_handles (silent_answered s c h n v)
@[simp] theorem answered_host_freeList (s : State) (c : CmdInfo) (h : Hdr) (n : Nat) (v : Verdict) : (s.answered c h n v).host.freeList = s.host.freeList := silent_host_freeList (silent_answered s c h n v)
@[simp] theorem answered_host_alarms (s : State) (c : CmdInfo) (h : Hdr) (n : Nat) (v : Verdict) : (s.answered c h n v).host.alarms = s.host.alarms := silent_host_alarms (silent_answered s c h n v)
@[simp] theorem answered_host_alarmsDropped (s : State) (c : CmdInfo) (h : Hdr) (n : Nat) (v : Verdict) : (s.answered c h n v).host.alarmsDropped = s.host.alarmsDropped := silent_host_alarmsDropped (silent_answered s c h n v)
@[simp] theorem answered_host_staging (s : State) (c : CmdInfo) (h : Hdr) (n : Nat) (v : Verdict) : (s.answered c h n v).host.staging = s.host.staging := silent_host_staging (silent_answered s c h n v)
@[simp] theorem answered_host_due (s : State) (c : CmdInfo) (h : Hdr) (n : Nat) (v : Verdict) : (s.answered c h n v).host.due = s.host.due := silent_host_due (silent_answered s c h n v)
@[simp] theorem answered_host_pendCommits (s : State) (c : CmdInfo) (h : Hdr) (n : Nat) (v : Verdict) : (s.answered c h n v).host.pendCommits = s.host.pendCommits := silent_host_pendCommits (silent_answered s c h n v)
@[simp] theorem answered_host_accSeq (s : State) (c : CmdInfo) (h : Hdr) (n : Nat) (v : Verdict) : (s.answered c h n v).host.accSeq = s.host.accSeq := silent_host_accSeq (silent_answered s c h n v)
@[simp] theorem answered_host_snaps (s : State) (c : CmdInfo) (h : Hdr) (n : Nat) (v : Verdict) : (s.answered c h n v).host.snaps = s.host.snaps := silent_host_snaps (silent_answered s c h n v)
@[simp] theorem answered_host_mirrors (s : State) (c : CmdInfo) (h : Hdr) (n : Nat) (v : Verdict) : (s.answered c h n v).host.mirrors = s.host.mirrors := silent_host_mirrors (silent_answered s c h n v)
@[simp] theorem answered_host_frameChs (s : State) (c : CmdInfo) (h : Hdr) (n : Nat) (v : Verdict) : (s.answered c h n v).host.frameChs = s.host.frameChs := silent_host_frameChs (silent_answered s c h n v)
@[simp] theorem answered_host_msix (s : State) (c : CmdInfo) (h : Hdr) (n : Nat) (v : Verdict) : (s.answered c h n v).host.msix = s.host.msix := silent_host_msix (silent_answered s c h n v)
@[simp] theorem answered_host_lowLatch (s : State) (c : CmdInfo) (h : Hdr) (n : Nat) (v : Verdict) : (s.answered c h n v).host.lowLatch = s.host.lowLatch := silent_host_lowLatch (silent_answered s c h n v)
@[simp] theorem answered_host_hiLatch (s : State) (c : CmdInfo) (h : Hdr) (n : Nat) (v : Verdict) : (s.answered c h n v).host.hiLatch = s.host.hiLatch := silent_host_hiLatch (silent_answered s c h n v)
@[simp] theorem answered_host_devStatus (s : State) (c : CmdInfo) (h : Hdr) (n : Nat) (v : Verdict) : (s.answered c h n v).host.devStatus = s.host.devStatus := silent_host_devStatus (silent_answered s c h n v)
@[simp] theorem answered_key_slots (s : State) (c : CmdInfo) (h : Hdr) (n : Nat) (v : Verdict) : (s.answered c h n v).key.slots = s.key.slots := silent_key_slots (silent_answered s c h n v)
@[simp] theorem answered_key_entries (s : State) (c : CmdInfo) (h : Hdr) (n : Nat) (v : Verdict) : (s.answered c h n v).key.entries = s.key.entries := silent_key_entries (silent_answered s c h n v)
@[simp] theorem answered_key_ops (s : State) (c : CmdInfo) (h : Hdr) (n : Nat) (v : Verdict) : (s.answered c h n v).key.ops = s.key.ops := silent_key_ops (silent_answered s c h n v)
@[simp] theorem answered_key_kek (s : State) (c : CmdInfo) (h : Hdr) (n : Nat) (v : Verdict) : (s.answered c h n v).key.kek = s.key.kek := silent_key_kek (silent_answered s c h n v)
@[simp] theorem answered_key_kekValid (s : State) (c : CmdInfo) (h : Hdr) (n : Nat) (v : Verdict) : (s.answered c h n v).key.kekValid = s.key.kekValid := silent_key_kekValid (silent_answered s c h n v)
@[simp] theorem answered_key_storeState (s : State) (c : CmdInfo) (h : Hdr) (n : Nat) (v : Verdict) : (s.answered c h n v).key.storeState = s.key.storeState := silent_key_storeState (silent_answered s c h n v)
@[simp] theorem answered_key_enginesClear (s : State) (c : CmdInfo) (h : Hdr) (n : Nat) (v : Verdict) : (s.answered c h n v).key.enginesClear = s.key.enginesClear := silent_key_enginesClear (silent_answered s c h n v)
@[simp] theorem answered_key_fuseClear (s : State) (c : CmdInfo) (h : Hdr) (n : Nat) (v : Verdict) : (s.answered c h n v).key.fuseClear = s.key.fuseClear := silent_key_fuseClear (silent_answered s c h n v)
@[simp] theorem answered_key_tamLatched (s : State) (c : CmdInfo) (h : Hdr) (n : Nat) (v : Verdict) : (s.answered c h n v).key.tamLatched = s.key.tamLatched := silent_key_tamLatched (silent_answered s c h n v)
@[simp] theorem answered_key_tamMask (s : State) (c : CmdInfo) (h : Hdr) (n : Nat) (v : Verdict) : (s.answered c h n v).key.tamMask = s.key.tamMask := silent_key_tamMask (silent_answered s c h n v)
@[simp] theorem answered_key_tamCause (s : State) (c : CmdInfo) (h : Hdr) (n : Nat) (v : Verdict) : (s.answered c h n v).key.tamCause = s.key.tamCause := silent_key_tamCause (silent_answered s c h n v)
@[simp] theorem answered_key_tamTime (s : State) (c : CmdInfo) (h : Hdr) (n : Nat) (v : Verdict) : (s.answered c h n v).key.tamTime = s.key.tamTime := silent_key_tamTime (silent_answered s c h n v)
@[simp] theorem answered_key_tamPending (s : State) (c : CmdInfo) (h : Hdr) (n : Nat) (v : Verdict) : (s.answered c h n v).key.tamPending = s.key.tamPending := silent_key_tamPending (silent_answered s c h n v)
@[simp] theorem answered_key_slotsBad (s : State) (c : CmdInfo) (h : Hdr) (n : Nat) (v : Verdict) : (s.answered c h n v).key.slotsBad = s.key.slotsBad := silent_key_slotsBad (silent_answered s c h n v)
@[simp] theorem answered_key_lastScrub (s : State) (c : CmdInfo) (h : Hdr) (n : Nat) (v : Verdict) : (s.answered c h n v).key.lastScrub = s.key.lastScrub := silent_key_lastScrub (silent_answered s c h n v)
@[simp] theorem answered_key_setups (s : State) (c : CmdInfo) (h : Hdr) (n : Nat) (v : Verdict) : (s.answered c h n v).key.setups = s.key.setups := silent_key_setups (silent_answered s c h n v)
@[simp] theorem answered_roleOf (s : State) (c : CmdInfo) (h : Hdr) (n : Nat) (v : Verdict) (x : Src) : (s.answered c h n v).roleOf x = s.roleOf x := silent_roleOf (silent_answered s c h n v) x
@[simp] theorem answered_bindOf (s : State) (c : CmdInfo) (h : Hdr) (n : Nat) (v : Verdict) (x : Src) : (s.answered c h n v).bindOf x = s.bindOf x := silent_bindOf (silent_answered s c h n v) x
@[simp] theorem answered_installerHeld (s : State) (c : CmdInfo) (h : Hdr) (n : Nat) (v : Verdict) : (s.answered c h n v).installerHeld = s.installerHeld := silent_installerHeld (silent_answered s c h n v)
@[simp] theorem answered_nextHandle (s : State) (c : CmdInfo) (h : Hdr) (n : Nat) (v : Verdict) : (s.answered c h n v).nextHandle = s.nextHandle := silent_nextHandle (silent_answered s c h n v)
@[simp] theorem answered_pv (s : State) (c : CmdInfo) (h : Hdr) (n : Nat) (v : Verdict) (i k : Nat) : (s.answered c h n v).pv i k = s.pv i k := silent_pv (silent_answered s c h n v) i k
@[simp] theorem event_epoch (s : State) (c n : Nat) (d : List Byte) : (s.event c n d).epoch = s.epoch := silent_epoch (silent_event s c n d)
@[simp] theorem event_order (s : State) (c n : Nat) (d : List Byte) : (s.event c n d).order = s.order := silent_order (silent_event s c n d)
@[simp] theorem event_ident (s : State) (c n : Nat) (d : List Byte) : (s.event c n d).ident = s.ident := silent_ident (silent_event s c n d)
@[simp] theorem event_par (s : State) (c n : Nat) (d : List Byte) : (s.event c n d).par = s.par := silent_par (silent_event s c n d)
@[simp] theorem event_lane (s : State) (c n : Nat) (d : List Byte) : (s.event c n d).lane = s.lane := silent_lane (silent_event s c n d)
@[simp] theorem event_prog (s : State) (c n : Nat) (d : List Byte) : (s.event c n d).prog = s.prog := silent_prog (silent_event s c n d)
@[simp] theorem event_model (s : State) (c n : Nat) (d : List Byte) : (s.event c n d).model = s.model := silent_model (silent_event s c n d)
@[simp] theorem event_slv (s : State) (c n : Nat) (d : List Byte) : (s.event c n d).slv = s.slv := silent_slv (silent_event s c n d)
@[simp] theorem event_perc (s : State) (c n : Nat) (d : List Byte) : (s.event c n d).perc = s.perc := silent_perc (silent_event s c n d)
@[simp] theorem event_afe (s : State) (c n : Nat) (d : List Byte) : (s.event c n d).afe = s.afe := silent_afe (silent_event s c n d)
@[simp] theorem event_fed (s : State) (c n : Nat) (d : List Byte) : (s.event c n d).fed = s.fed := silent_fed (silent_event s c n d)
@[simp] theorem event_stn (s : State) (c n : Nat) (d : List Byte) : (s.event c n d).stn = s.stn := silent_stn (silent_event s c n d)
@[simp] theorem event_pts (s : State) (c n : Nat) (d : List Byte) : (s.event c n d).pts = s.pts := silent_pts (silent_event s c n d)
@[simp] theorem event_fio (s : State) (c n : Nat) (d : List Byte) : (s.event c n d).fio = s.fio := silent_fio (silent_event s c n d)
@[simp] theorem event_can (s : State) (c n : Nat) (d : List Byte) : (s.event c n d).can = s.can := silent_can (silent_event s c n d)
@[simp] theorem event_net (s : State) (c n : Nat) (d : List Byte) : (s.event c n d).net = s.net := silent_net (silent_event s c n d)
@[simp] theorem event_time (s : State) (c n : Nat) (d : List Byte) : (s.event c n d).time = s.time := silent_time (silent_event s c n d)
@[simp] theorem event_pair (s : State) (c n : Nat) (d : List Byte) : (s.event c n d).pair = s.pair := silent_pair (silent_event s c n d)
@[simp] theorem event_pwr (s : State) (c n : Nat) (d : List Byte) : (s.event c n d).pwr = s.pwr := silent_pwr (silent_event s c n d)
@[simp] theorem event_rst (s : State) (c n : Nat) (d : List Byte) : (s.event c n d).rst = s.rst := silent_rst (silent_event s c n d)
@[simp] theorem event_drip (s : State) (c n : Nat) (d : List Byte) : (s.event c n d).drip = s.drip := silent_drip (silent_event s c n d)
@[simp] theorem event_past (s : State) (c n : Nat) (d : List Byte) : (s.event c n d).past = s.past := silent_past (silent_event s c n d)
@[simp] theorem event_latch (s : State) (c n : Nat) (d : List Byte) : (s.event c n d).latch = s.latch := silent_latch (silent_event s c n d)
@[simp] theorem event_pending (s : State) (c n : Nat) (d : List Byte) : (s.event c n d).pending = s.pending := silent_pending (silent_event s c n d)
@[simp] theorem event_free (s : State) (c n : Nat) (d : List Byte) : (s.event c n d).free = s.free := silent_free (silent_event s c n d)
@[simp] theorem event_host_handles (s : State) (c n : Nat) (d : List Byte) : (s.event c n d).host.handles = s.host.handles := silent_host_handles (silent_event s c n d)
@[simp] theorem event_host_freeList (s : State) (c n : Nat) (d : List Byte) : (s.event c n d).host.freeList = s.host.freeList := silent_host_freeList (silent_event s c n d)
@[simp] theorem event_host_alarms (s : State) (c n : Nat) (d : List Byte) : (s.event c n d).host.alarms = s.host.alarms := silent_host_alarms (silent_event s c n d)
@[simp] theorem event_host_alarmsDropped (s : State) (c n : Nat) (d : List Byte) : (s.event c n d).host.alarmsDropped = s.host.alarmsDropped := silent_host_alarmsDropped (silent_event s c n d)
@[simp] theorem event_host_staging (s : State) (c n : Nat) (d : List Byte) : (s.event c n d).host.staging = s.host.staging := silent_host_staging (silent_event s c n d)
@[simp] theorem event_host_due (s : State) (c n : Nat) (d : List Byte) : (s.event c n d).host.due = s.host.due := silent_host_due (silent_event s c n d)
@[simp] theorem event_host_pendCommits (s : State) (c n : Nat) (d : List Byte) : (s.event c n d).host.pendCommits = s.host.pendCommits := silent_host_pendCommits (silent_event s c n d)
@[simp] theorem event_host_accSeq (s : State) (c n : Nat) (d : List Byte) : (s.event c n d).host.accSeq = s.host.accSeq := silent_host_accSeq (silent_event s c n d)
@[simp] theorem event_host_snaps (s : State) (c n : Nat) (d : List Byte) : (s.event c n d).host.snaps = s.host.snaps := silent_host_snaps (silent_event s c n d)
@[simp] theorem event_host_mirrors (s : State) (c n : Nat) (d : List Byte) : (s.event c n d).host.mirrors = s.host.mirrors := silent_host_mirrors (silent_event s c n d)
@[simp] theorem event_host_frameChs (s : State) (c n : Nat) (d : List Byte) : (s.event c n d).host.frameChs = s.host.frameChs := silent_host_frameChs (silent_event s c n d)
@[simp] theorem event_host_msix (s : State) (c n : Nat) (d : List Byte) : (s.event c n d).host.msix = s.host.msix := silent_host_msix (silent_event s c n d)
@[simp] theorem event_host_lowLatch (s : State) (c n : Nat) (d : List Byte) : (s.event c n d).host.lowLatch = s.host.lowLatch := silent_host_lowLatch (silent_event s c n d)
@[simp] theorem event_host_hiLatch (s : State) (c n : Nat) (d : List Byte) : (s.event c n d).host.hiLatch = s.host.hiLatch := silent_host_hiLatch (silent_event s c n d)
@[simp] theorem event_host_devStatus (s : State) (c n : Nat) (d : List Byte) : (s.event c n d).host.devStatus = s.host.devStatus := silent_host_devStatus (silent_event s c n d)
@[simp] theorem event_key_slots (s : State) (c n : Nat) (d : List Byte) : (s.event c n d).key.slots = s.key.slots := silent_key_slots (silent_event s c n d)
@[simp] theorem event_key_entries (s : State) (c n : Nat) (d : List Byte) : (s.event c n d).key.entries = s.key.entries := silent_key_entries (silent_event s c n d)
@[simp] theorem event_key_ops (s : State) (c n : Nat) (d : List Byte) : (s.event c n d).key.ops = s.key.ops := silent_key_ops (silent_event s c n d)
@[simp] theorem event_key_kek (s : State) (c n : Nat) (d : List Byte) : (s.event c n d).key.kek = s.key.kek := silent_key_kek (silent_event s c n d)
@[simp] theorem event_key_kekValid (s : State) (c n : Nat) (d : List Byte) : (s.event c n d).key.kekValid = s.key.kekValid := silent_key_kekValid (silent_event s c n d)
@[simp] theorem event_key_storeState (s : State) (c n : Nat) (d : List Byte) : (s.event c n d).key.storeState = s.key.storeState := silent_key_storeState (silent_event s c n d)
@[simp] theorem event_key_enginesClear (s : State) (c n : Nat) (d : List Byte) : (s.event c n d).key.enginesClear = s.key.enginesClear := silent_key_enginesClear (silent_event s c n d)
@[simp] theorem event_key_fuseClear (s : State) (c n : Nat) (d : List Byte) : (s.event c n d).key.fuseClear = s.key.fuseClear := silent_key_fuseClear (silent_event s c n d)
@[simp] theorem event_key_tamLatched (s : State) (c n : Nat) (d : List Byte) : (s.event c n d).key.tamLatched = s.key.tamLatched := silent_key_tamLatched (silent_event s c n d)
@[simp] theorem event_key_tamMask (s : State) (c n : Nat) (d : List Byte) : (s.event c n d).key.tamMask = s.key.tamMask := silent_key_tamMask (silent_event s c n d)
@[simp] theorem event_key_tamCause (s : State) (c n : Nat) (d : List Byte) : (s.event c n d).key.tamCause = s.key.tamCause := silent_key_tamCause (silent_event s c n d)
@[simp] theorem event_key_tamTime (s : State) (c n : Nat) (d : List Byte) : (s.event c n d).key.tamTime = s.key.tamTime := silent_key_tamTime (silent_event s c n d)
@[simp] theorem event_key_tamPending (s : State) (c n : Nat) (d : List Byte) : (s.event c n d).key.tamPending = s.key.tamPending := silent_key_tamPending (silent_event s c n d)
@[simp] theorem event_key_slotsBad (s : State) (c n : Nat) (d : List Byte) : (s.event c n d).key.slotsBad = s.key.slotsBad := silent_key_slotsBad (silent_event s c n d)
@[simp] theorem event_key_lastScrub (s : State) (c n : Nat) (d : List Byte) : (s.event c n d).key.lastScrub = s.key.lastScrub := silent_key_lastScrub (silent_event s c n d)
@[simp] theorem event_key_setups (s : State) (c n : Nat) (d : List Byte) : (s.event c n d).key.setups = s.key.setups := silent_key_setups (silent_event s c n d)
@[simp] theorem event_roleOf (s : State) (c n : Nat) (d : List Byte) (x : Src) : (s.event c n d).roleOf x = s.roleOf x := silent_roleOf (silent_event s c n d) x
@[simp] theorem event_bindOf (s : State) (c n : Nat) (d : List Byte) (x : Src) : (s.event c n d).bindOf x = s.bindOf x := silent_bindOf (silent_event s c n d) x
@[simp] theorem event_installerHeld (s : State) (c n : Nat) (d : List Byte) : (s.event c n d).installerHeld = s.installerHeld := silent_installerHeld (silent_event s c n d)
@[simp] theorem event_nextHandle (s : State) (c n : Nat) (d : List Byte) : (s.event c n d).nextHandle = s.nextHandle := silent_nextHandle (silent_event s c n d)
@[simp] theorem event_pv (s : State) (c n : Nat) (d : List Byte) (i k : Nat) : (s.event c n d).pv i k = s.pv i k := silent_pv (silent_event s c n d) i k
@[simp] theorem condition_epoch (s : State) (n : Nat) (d : List Byte) : (s.condition n d).epoch = s.epoch := silent_epoch (silent_condition s n d)
@[simp] theorem condition_order (s : State) (n : Nat) (d : List Byte) : (s.condition n d).order = s.order := silent_order (silent_condition s n d)
@[simp] theorem condition_ident (s : State) (n : Nat) (d : List Byte) : (s.condition n d).ident = s.ident := silent_ident (silent_condition s n d)
@[simp] theorem condition_par (s : State) (n : Nat) (d : List Byte) : (s.condition n d).par = s.par := silent_par (silent_condition s n d)
@[simp] theorem condition_lane (s : State) (n : Nat) (d : List Byte) : (s.condition n d).lane = s.lane := silent_lane (silent_condition s n d)
@[simp] theorem condition_prog (s : State) (n : Nat) (d : List Byte) : (s.condition n d).prog = s.prog := silent_prog (silent_condition s n d)
@[simp] theorem condition_model (s : State) (n : Nat) (d : List Byte) : (s.condition n d).model = s.model := silent_model (silent_condition s n d)
@[simp] theorem condition_slv (s : State) (n : Nat) (d : List Byte) : (s.condition n d).slv = s.slv := silent_slv (silent_condition s n d)
@[simp] theorem condition_perc (s : State) (n : Nat) (d : List Byte) : (s.condition n d).perc = s.perc := silent_perc (silent_condition s n d)
@[simp] theorem condition_afe (s : State) (n : Nat) (d : List Byte) : (s.condition n d).afe = s.afe := silent_afe (silent_condition s n d)
@[simp] theorem condition_fed (s : State) (n : Nat) (d : List Byte) : (s.condition n d).fed = s.fed := silent_fed (silent_condition s n d)
@[simp] theorem condition_stn (s : State) (n : Nat) (d : List Byte) : (s.condition n d).stn = s.stn := silent_stn (silent_condition s n d)
@[simp] theorem condition_pts (s : State) (n : Nat) (d : List Byte) : (s.condition n d).pts = s.pts := silent_pts (silent_condition s n d)
@[simp] theorem condition_fio (s : State) (n : Nat) (d : List Byte) : (s.condition n d).fio = s.fio := silent_fio (silent_condition s n d)
@[simp] theorem condition_can (s : State) (n : Nat) (d : List Byte) : (s.condition n d).can = s.can := silent_can (silent_condition s n d)
@[simp] theorem condition_net (s : State) (n : Nat) (d : List Byte) : (s.condition n d).net = s.net := silent_net (silent_condition s n d)
@[simp] theorem condition_time (s : State) (n : Nat) (d : List Byte) : (s.condition n d).time = s.time := silent_time (silent_condition s n d)
@[simp] theorem condition_pair (s : State) (n : Nat) (d : List Byte) : (s.condition n d).pair = s.pair := silent_pair (silent_condition s n d)
@[simp] theorem condition_pwr (s : State) (n : Nat) (d : List Byte) : (s.condition n d).pwr = s.pwr := silent_pwr (silent_condition s n d)
@[simp] theorem condition_rst (s : State) (n : Nat) (d : List Byte) : (s.condition n d).rst = s.rst := silent_rst (silent_condition s n d)
@[simp] theorem condition_drip (s : State) (n : Nat) (d : List Byte) : (s.condition n d).drip = s.drip := silent_drip (silent_condition s n d)
@[simp] theorem condition_past (s : State) (n : Nat) (d : List Byte) : (s.condition n d).past = s.past := silent_past (silent_condition s n d)
@[simp] theorem condition_latch (s : State) (n : Nat) (d : List Byte) : (s.condition n d).latch = s.latch := silent_latch (silent_condition s n d)
@[simp] theorem condition_pending (s : State) (n : Nat) (d : List Byte) : (s.condition n d).pending = s.pending := silent_pending (silent_condition s n d)
@[simp] theorem condition_free (s : State) (n : Nat) (d : List Byte) : (s.condition n d).free = s.free := silent_free (silent_condition s n d)
@[simp] theorem condition_host_handles (s : State) (n : Nat) (d : List Byte) : (s.condition n d).host.handles = s.host.handles := silent_host_handles (silent_condition s n d)
@[simp] theorem condition_host_freeList (s : State) (n : Nat) (d : List Byte) : (s.condition n d).host.freeList = s.host.freeList := silent_host_freeList (silent_condition s n d)
@[simp] theorem condition_host_alarms (s : State) (n : Nat) (d : List Byte) : (s.condition n d).host.alarms = s.host.alarms := silent_host_alarms (silent_condition s n d)
@[simp] theorem condition_host_alarmsDropped (s : State) (n : Nat) (d : List Byte) : (s.condition n d).host.alarmsDropped = s.host.alarmsDropped := silent_host_alarmsDropped (silent_condition s n d)
@[simp] theorem condition_host_staging (s : State) (n : Nat) (d : List Byte) : (s.condition n d).host.staging = s.host.staging := silent_host_staging (silent_condition s n d)
@[simp] theorem condition_host_due (s : State) (n : Nat) (d : List Byte) : (s.condition n d).host.due = s.host.due := silent_host_due (silent_condition s n d)
@[simp] theorem condition_host_pendCommits (s : State) (n : Nat) (d : List Byte) : (s.condition n d).host.pendCommits = s.host.pendCommits := silent_host_pendCommits (silent_condition s n d)
@[simp] theorem condition_host_accSeq (s : State) (n : Nat) (d : List Byte) : (s.condition n d).host.accSeq = s.host.accSeq := silent_host_accSeq (silent_condition s n d)
@[simp] theorem condition_host_snaps (s : State) (n : Nat) (d : List Byte) : (s.condition n d).host.snaps = s.host.snaps := silent_host_snaps (silent_condition s n d)
@[simp] theorem condition_host_mirrors (s : State) (n : Nat) (d : List Byte) : (s.condition n d).host.mirrors = s.host.mirrors := silent_host_mirrors (silent_condition s n d)
@[simp] theorem condition_host_frameChs (s : State) (n : Nat) (d : List Byte) : (s.condition n d).host.frameChs = s.host.frameChs := silent_host_frameChs (silent_condition s n d)
@[simp] theorem condition_host_msix (s : State) (n : Nat) (d : List Byte) : (s.condition n d).host.msix = s.host.msix := silent_host_msix (silent_condition s n d)
@[simp] theorem condition_host_lowLatch (s : State) (n : Nat) (d : List Byte) : (s.condition n d).host.lowLatch = s.host.lowLatch := silent_host_lowLatch (silent_condition s n d)
@[simp] theorem condition_host_hiLatch (s : State) (n : Nat) (d : List Byte) : (s.condition n d).host.hiLatch = s.host.hiLatch := silent_host_hiLatch (silent_condition s n d)
@[simp] theorem condition_host_devStatus (s : State) (n : Nat) (d : List Byte) : (s.condition n d).host.devStatus = s.host.devStatus := silent_host_devStatus (silent_condition s n d)
@[simp] theorem condition_key_slots (s : State) (n : Nat) (d : List Byte) : (s.condition n d).key.slots = s.key.slots := silent_key_slots (silent_condition s n d)
@[simp] theorem condition_key_entries (s : State) (n : Nat) (d : List Byte) : (s.condition n d).key.entries = s.key.entries := silent_key_entries (silent_condition s n d)
@[simp] theorem condition_key_ops (s : State) (n : Nat) (d : List Byte) : (s.condition n d).key.ops = s.key.ops := silent_key_ops (silent_condition s n d)
@[simp] theorem condition_key_kek (s : State) (n : Nat) (d : List Byte) : (s.condition n d).key.kek = s.key.kek := silent_key_kek (silent_condition s n d)
@[simp] theorem condition_key_kekValid (s : State) (n : Nat) (d : List Byte) : (s.condition n d).key.kekValid = s.key.kekValid := silent_key_kekValid (silent_condition s n d)
@[simp] theorem condition_key_storeState (s : State) (n : Nat) (d : List Byte) : (s.condition n d).key.storeState = s.key.storeState := silent_key_storeState (silent_condition s n d)
@[simp] theorem condition_key_enginesClear (s : State) (n : Nat) (d : List Byte) : (s.condition n d).key.enginesClear = s.key.enginesClear := silent_key_enginesClear (silent_condition s n d)
@[simp] theorem condition_key_fuseClear (s : State) (n : Nat) (d : List Byte) : (s.condition n d).key.fuseClear = s.key.fuseClear := silent_key_fuseClear (silent_condition s n d)
@[simp] theorem condition_key_tamLatched (s : State) (n : Nat) (d : List Byte) : (s.condition n d).key.tamLatched = s.key.tamLatched := silent_key_tamLatched (silent_condition s n d)
@[simp] theorem condition_key_tamMask (s : State) (n : Nat) (d : List Byte) : (s.condition n d).key.tamMask = s.key.tamMask := silent_key_tamMask (silent_condition s n d)
@[simp] theorem condition_key_tamCause (s : State) (n : Nat) (d : List Byte) : (s.condition n d).key.tamCause = s.key.tamCause := silent_key_tamCause (silent_condition s n d)
@[simp] theorem condition_key_tamTime (s : State) (n : Nat) (d : List Byte) : (s.condition n d).key.tamTime = s.key.tamTime := silent_key_tamTime (silent_condition s n d)
@[simp] theorem condition_key_tamPending (s : State) (n : Nat) (d : List Byte) : (s.condition n d).key.tamPending = s.key.tamPending := silent_key_tamPending (silent_condition s n d)
@[simp] theorem condition_key_slotsBad (s : State) (n : Nat) (d : List Byte) : (s.condition n d).key.slotsBad = s.key.slotsBad := silent_key_slotsBad (silent_condition s n d)
@[simp] theorem condition_key_lastScrub (s : State) (n : Nat) (d : List Byte) : (s.condition n d).key.lastScrub = s.key.lastScrub := silent_key_lastScrub (silent_condition s n d)
@[simp] theorem condition_key_setups (s : State) (n : Nat) (d : List Byte) : (s.condition n d).key.setups = s.key.setups := silent_key_setups (silent_condition s n d)
@[simp] theorem condition_roleOf (s : State) (n : Nat) (d : List Byte) (x : Src) : (s.condition n d).roleOf x = s.roleOf x := silent_roleOf (silent_condition s n d) x
@[simp] theorem condition_bindOf (s : State) (n : Nat) (d : List Byte) (x : Src) : (s.condition n d).bindOf x = s.bindOf x := silent_bindOf (silent_condition s n d) x
@[simp] theorem condition_installerHeld (s : State) (n : Nat) (d : List Byte) : (s.condition n d).installerHeld = s.installerHeld := silent_installerHeld (silent_condition s n d)
@[simp] theorem condition_nextHandle (s : State) (n : Nat) (d : List Byte) : (s.condition n d).nextHandle = s.nextHandle := silent_nextHandle (silent_condition s n d)
@[simp] theorem condition_pv (s : State) (n : Nat) (d : List Byte) (i k : Nat) : (s.condition n d).pv i k = s.pv i k := silent_pv (silent_condition s n d) i k

end Sys2Proof.Laws
end

