-- ==== Sys2Proof/Laws/Keep.lean ====
section
/-! SUPPORT. What the shared operations leave alone, for the parts that a statement speaks of: a group of parts, and one
law for each operation that keeps the group. -/

set_option linter.unusedVariables false
set_option linter.unusedSimpArgs false
set_option linter.unusedTactic false
set_option linter.unreachableTactic false
set_option linter.unnecessarySeqFocus false

namespace Sys2Proof.Laws
open Sys2Proof.Machine

/-- The parts `drip.live`, `drip.valid`, `drip.sub`, `drip.unlocked`, `drip.staged`, `drip.rangeEnd`, `drip.dst`. -/
def calPart (s : State) := (s.drip.live, s.drip.valid, s.drip.sub, s.drip.unlocked, s.drip.staged, s.drip.rangeEnd, s.drip.dst)

@[simp] theorem calPart_fold (s : State) : (s.drip.live, s.drip.valid, s.drip.sub, s.drip.unlocked, s.drip.staged, s.drip.rangeEnd, s.drip.dst) = calPart s := rfl

@[simp↓] theorem calPart_mk (epoch order ident host par lane prog model slv perc afe fed stn pts fio can net time key aud pair pwr rst drip past edge latch pending out free) : calPart (State.mk epoch order ident host par lane prog model slv perc afe fed stn pts fio can net time key aud pair pwr rst drip past edge latch pending out free) = (drip.live, drip.valid, drip.sub, drip.unlocked, drip.staged, drip.rangeEnd, drip.dst) := rfl

theorem calPart_silent {s t : State} (h : Silent s t) : calPart t = calPart s := by rw [h.rest]; rfl

theorem calPart_ite {c : Prop} [Decidable c] {a b s : State} (ha : calPart a = calPart s) (hb : calPart b = calPart s) :
    calPart (if c then a else b) = calPart s := by
  split <;> assumption

theorem calPart_foldl {α : Type} (l : List α) (f : State → α → State) (s : State) (h : ∀ a x, calPart (f a x) = calPart a) :
    calPart (l.foldl f s) = calPart s := by
  induction l generalizing s with
  | nil => rfl
  | cons x l ih => exact (ih _).trans (h s x)

@[simp↓] theorem calPart_emit (s : State) (m : OutMsg) : calPart (State.emit s m) = calPart s := by
  exact calPart_silent (silent_emit _ _)

@[simp↓] theorem calPart_sendMsix (s : State) (v : Nat) : calPart (State.sendMsix s v) = calPart s := by
  exact calPart_silent (silent_sendMsix _ _)

@[simp↓] theorem calPart_syncDev (s : State) : calPart (State.syncDev s) = calPart s := by
  unfold State.syncDev
  first
  | ((try dsimp only); (repeat' (first | with_reducible rfl | (with_reducible refine (calPart_foldl _ _ _ (fun _ _ => ?_)).trans ?_) | (simp; done) | split | (rw [calPart_mk, calPart_fold]))); done)
  | ((repeat' split) <;> first | (simp; done) | with_reducible rfl)
  | (refine calPart_foldl _ _ _ (fun a x => ?_); (repeat' split) <;> first | (simp; done) | with_reducible rfl)
  | ((try dsimp only); rw [calPart_foldl] <;> first | (intro a x; (repeat' split) <;> first | (simp; done) | with_reducible rfl) | ((repeat' split) <;> first | (simp; done) | with_reducible rfl))
  | ((try dsimp only); (repeat' split) <;> first | (simp; done) | with_reducible rfl)
  | ((repeat' (with_reducible refine calPart_ite ?_ ?_)) <;> first | (simp; done) | with_reducible rfl)
  | ((repeat' split) <;> first
      | (simp; done)
      | with_reducible rfl
      | (refine calPart_foldl _ _ _ (fun a x => ?_); (repeat' split) <;> first | (simp; done) | with_reducible rfl)
      | ((try dsimp only); rw [calPart_foldl] <;> first | (intro a x; (repeat' split) <;> first | (simp; done) | with_reducible rfl) | ((repeat' split) <;> first | (simp; done) | with_reducible rfl)))

@[simp↓] theorem calPart_auditPush (s : State) (r : AuditRec) : calPart (State.auditPush s r) = calPart s := by
  exact calPart_silent (silent_auditPush _ _)

@[simp↓] theorem calPart_auditDev (s : State) (kind : Nat) (opcode : Nat) (status : Nat) (subject : Nat) (data : List Byte) : calPart (State.auditDev s kind opcode status subject data) = calPart s := by
  exact calPart_silent (silent_auditPush _ _)

@[simp↓] theorem calPart_condition (s : State) (status : Nat) (data : List Byte) : calPart (State.condition s status data) = calPart s := by
  exact calPart_silent (silent_condition _ _ _)

@[simp↓] theorem calPart_closeEdge (s : State) : calPart (State.closeEdge s) = calPart s := by
  unfold State.closeEdge
  first
  | ((try dsimp only); (repeat' (first | with_reducible rfl | (with_reducible refine (calPart_foldl _ _ _ (fun _ _ => ?_)).trans ?_) | (simp; done) | split | (rw [calPart_mk, calPart_fold]))); done)
  | ((repeat' split) <;> first | (simp; done) | with_reducible rfl)
  | (refine calPart_foldl _ _ _ (fun a x => ?_); (repeat' split) <;> first | (simp; done) | with_reducible rfl)
  | ((try dsimp only); rw [calPart_foldl] <;> first | (intro a x; (repeat' split) <;> first | (simp; done) | with_reducible rfl) | ((repeat' split) <;> first | (simp; done) | with_reducible rfl))
  | ((try dsimp only); (repeat' split) <;> first | (simp; done) | with_reducible rfl)
  | ((repeat' (with_reducible refine calPart_ite ?_ ?_)) <;> first | (simp; done) | with_reducible rfl)
  | ((repeat' split) <;> first
      | (simp; done)
      | with_reducible rfl
      | (refine calPart_foldl _ _ _ (fun a x => ?_); (repeat' split) <;> first | (simp; done) | with_reducible rfl)
      | ((try dsimp only); rw [calPart_foldl] <;> first | (intro a x; (repeat' split) <;> first | (simp; done) | with_reducible rfl) | ((repeat' split) <;> first | (simp; done) | with_reducible rfl)))

@[simp↓] theorem calPart_loadTb2 (s : State) : calPart (State.loadTb2 s) = calPart s := by
  unfold State.loadTb2
  first
  | ((try dsimp only); (repeat' (first | with_reducible rfl | (with_reducible refine (calPart_foldl _ _ _ (fun _ _ => ?_)).trans ?_) | (simp; done) | split | (rw [calPart_mk, calPart_fold]))); done)
  | ((repeat' split) <;> first | (simp; done) | with_reducible rfl)
  | (refine calPart_foldl _ _ _ (fun a x => ?_); (repeat' split) <;> first | (simp; done) | with_reducible rfl)
  | ((try dsimp only); rw [calPart_foldl] <;> first | (intro a x; (repeat' split) <;> first | (simp; done) | with_reducible rfl) | ((repeat' split) <;> first | (simp; done) | with_reducible rfl))
  | ((try dsimp only); (repeat' split) <;> first | (simp; done) | with_reducible rfl)
  | ((repeat' (with_reducible refine calPart_ite ?_ ?_)) <;> first | (simp; done) | with_reducible rfl)
  | ((repeat' split) <;> first
      | (simp; done)
      | with_reducible rfl
      | (refine calPart_foldl _ _ _ (fun a x => ?_); (repeat' split) <;> first | (simp; done) | with_reducible rfl)
      | ((try dsimp only); rw [calPart_foldl] <;> first | (intro a x; (repeat' split) <;> first | (simp; done) | with_reducible rfl) | ((repeat' split) <;> first | (simp; done) | with_reducible rfl)))

@[simp↓] theorem calPart_updIsland (s : State) : calPart (State.updIsland s) = calPart s := by
  unfold State.updIsland
  first
  | ((try dsimp only); (repeat' (first | with_reducible rfl | (with_reducible refine (calPart_foldl _ _ _ (fun _ _ => ?_)).trans ?_) | (simp; done) | split | (rw [calPart_mk, calPart_fold]))); done)
  | ((repeat' split) <;> first | (simp; done) | with_reducible rfl)
  | (refine calPart_foldl _ _ _ (fun a x => ?_); (repeat' split) <;> first | (simp; done) | with_reducible rfl)
  | ((try dsimp only); rw [calPart_foldl] <;> first | (intro a x; (repeat' split) <;> first | (simp; done) | with_reducible rfl) | ((repeat' split) <;> first | (simp; done) | with_reducible rfl))
  | ((try dsimp only); (repeat' split) <;> first | (simp; done) | with_reducible rfl)
  | ((repeat' (with_reducible refine calPart_ite ?_ ?_)) <;> first | (simp; done) | with_reducible rfl)
  | ((repeat' split) <;> first
      | (simp; done)
      | with_reducible rfl
      | (refine calPart_foldl _ _ _ (fun a x => ?_); (repeat' split) <;> first | (simp; done) | with_reducible rfl)
      | ((try dsimp only); rw [calPart_foldl] <;> first | (intro a x; (repeat' split) <;> first | (simp; done) | with_reducible rfl) | ((repeat' split) <;> first | (simp; done) | with_reducible rfl)))

@[simp↓] theorem calPart_stampStart (s : State) (e : Nat) : calPart (State.stampStart s e) = calPart s := by
  unfold State.stampStart
  first
  | ((try dsimp only); (repeat' (first | with_reducible rfl | (with_reducible refine (calPart_foldl _ _ _ (fun _ _ => ?_)).trans ?_) | (simp; done) | split | (rw [calPart_mk, calPart_fold]))); done)
  | ((repeat' split) <;> first | (simp; done) | with_reducible rfl)
  | (refine calPart_foldl _ _ _ (fun a x => ?_); (repeat' split) <;> first | (simp; done) | with_reducible rfl)
  | ((try dsimp only); rw [calPart_foldl] <;> first | (intro a x; (repeat' split) <;> first | (simp; done) | with_reducible rfl) | ((repeat' split) <;> first | (simp; done) | with_reducible rfl))
  | ((try dsimp only); (repeat' split) <;> first | (simp; done) | with_reducible rfl)
  | ((repeat' (with_reducible refine calPart_ite ?_ ?_)) <;> first | (simp; done) | with_reducible rfl)
  | ((repeat' split) <;> first
      | (simp; done)
      | with_reducible rfl
      | (refine calPart_foldl _ _ _ (fun a x => ?_); (repeat' split) <;> first | (simp; done) | with_reducible rfl)
      | ((try dsimp only); rw [calPart_foldl] <;> first | (intro a x; (repeat' split) <;> first | (simp; done) | with_reducible rfl) | ((repeat' split) <;> first | (simp; done) | with_reducible rfl)))

@[simp↓] theorem calPart_startT0 (s : State) (b : Nat) : calPart (State.startT0 s b) = calPart s := by
  unfold State.startT0
  first
  | ((try dsimp only); (repeat' (first | with_reducible rfl | (with_reducible refine (calPart_foldl _ _ _ (fun _ _ => ?_)).trans ?_) | (simp; done) | split | (rw [calPart_mk, calPart_fold]))); done)
  | ((repeat' split) <;> first | (simp; done) | with_reducible rfl)
  | (refine calPart_foldl _ _ _ (fun a x => ?_); (repeat' split) <;> first | (simp; done) | with_reducible rfl)
  | ((try dsimp only); rw [calPart_foldl] <;> first | (intro a x; (repeat' split) <;> first | (simp; done) | with_reducible rfl) | ((repeat' split) <;> first | (simp; done) | with_reducible rfl))
  | ((try dsimp only); (repeat' split) <;> first | (simp; done) | with_reducible rfl)
  | ((repeat' (with_reducible refine calPart_ite ?_ ?_)) <;> first | (simp; done) | with_reducible rfl)
  | ((repeat' split) <;> first
      | (simp; done)
      | with_reducible rfl
      | (refine calPart_foldl _ _ _ (fun a x => ?_); (repeat' split) <;> first | (simp; done) | with_reducible rfl)
      | ((try dsimp only); rw [calPart_foldl] <;> first | (intro a x; (repeat' split) <;> first | (simp; done) | with_reducible rfl) | ((repeat' split) <;> first | (simp; done) | with_reducible rfl)))

@[simp↓] theorem calPart_tryStart (s : State) : calPart (State.tryStart s) = calPart s := by
  unfold State.tryStart
  first
  | ((try dsimp only); (repeat' (first | with_reducible rfl | (with_reducible refine (calPart_foldl _ _ _ (fun _ _ => ?_)).trans ?_) | (simp; done) | split | (rw [calPart_mk, calPart_fold]))); done)
  | ((repeat' split) <;> first | (simp; done) | with_reducible rfl)
  | (refine calPart_foldl _ _ _ (fun a x => ?_); (repeat' split) <;> first | (simp; done) | with_reducible rfl)
  | ((try dsimp only); rw [calPart_foldl] <;> first | (intro a x; (repeat' split) <;> first | (simp; done) | with_reducible rfl) | ((repeat' split) <;> first | (simp; done) | with_reducible rfl))
  | ((try dsimp only); (repeat' split) <;> first | (simp; done) | with_reducible rfl)
  | ((repeat' (with_reducible refine calPart_ite ?_ ?_)) <;> first | (simp; done) | with_reducible rfl)
  | ((repeat' split) <;> first
      | (simp; done)
      | with_reducible rfl
      | (refine calPart_foldl _ _ _ (fun a x => ?_); (repeat' split) <;> first | (simp; done) | with_reducible rfl)
      | ((try dsimp only); rw [calPart_foldl] <;> first | (intro a x; (repeat' split) <;> first | (simp; done) | with_reducible rfl) | ((repeat' split) <;> first | (simp; done) | with_reducible rfl)))

@[simp↓] theorem calPart_wake (s : State) (src : Nat) : calPart (State.wake s src) = calPart s := by
  unfold State.wake
  first
  | ((try dsimp only); (repeat' (first | with_reducible rfl | (with_reducible refine (calPart_foldl _ _ _ (fun _ _ => ?_)).trans ?_) | (simp; done) | split | (rw [calPart_mk, calPart_fold]))); done)
  | ((repeat' split) <;> first | (simp; done) | with_reducible rfl)
  | (refine calPart_foldl _ _ _ (fun a x => ?_); (repeat' split) <;> first | (simp; done) | with_reducible rfl)
  | ((try dsimp only); rw [calPart_foldl] <;> first | (intro a x; (repeat' split) <;> first | (simp; done) | with_reducible rfl) | ((repeat' split) <;> first | (simp; done) | with_reducible rfl))
  | ((try dsimp only); (repeat' split) <;> first | (simp; done) | with_reducible rfl)
  | ((repeat' (with_reducible refine calPart_ite ?_ ?_)) <;> first | (simp; done) | with_reducible rfl)
  | ((repeat' split) <;> first
      | (simp; done)
      | with_reducible rfl
      | (refine calPart_foldl _ _ _ (fun a x => ?_); (repeat' split) <;> first | (simp; done) | with_reducible rfl)
      | ((try dsimp only); rw [calPart_foldl] <;> first | (intro a x; (repeat' split) <;> first | (simp; done) | with_reducible rfl) | ((repeat' split) <;> first | (simp; done) | with_reducible rfl)))

@[simp↓] theorem calPart_setAlm (s : State) (n : Nat) (a : CalAlarm) : calPart (State.setAlm s n a) = calPart s := by
  unfold State.setAlm
  first
  | ((try dsimp only); (repeat' (first | with_reducible rfl | (with_reducible refine (calPart_foldl _ _ _ (fun _ _ => ?_)).trans ?_) | (simp; done) | split | (rw [calPart_mk, calPart_fold]))); done)
  | ((repeat' split) <;> first | (simp; done) | with_reducible rfl)
  | (refine calPart_foldl _ _ _ (fun a x => ?_); (repeat' split) <;> first | (simp; done) | with_reducible rfl)
  | ((try dsimp only); rw [calPart_foldl] <;> first | (intro a x; (repeat' split) <;> first | (simp; done) | with_reducible rfl) | ((repeat' split) <;> first | (simp; done) | with_reducible rfl))
  | ((try dsimp only); (repeat' split) <;> first | (simp; done) | with_reducible rfl)
  | ((repeat' (with_reducible refine calPart_ite ?_ ?_)) <;> first | (simp; done) | with_reducible rfl)
  | ((repeat' split) <;> first
      | (simp; done)
      | with_reducible rfl
      | (refine calPart_foldl _ _ _ (fun a x => ?_); (repeat' split) <;> first | (simp; done) | with_reducible rfl)
      | ((try dsimp only); rw [calPart_foldl] <;> first | (intro a x; (repeat' split) <;> first | (simp; done) | with_reducible rfl) | ((repeat' split) <;> first | (simp; done) | with_reducible rfl)))

@[simp↓] theorem calPart_almReport (s : State) (n : Nat) : calPart (State.almReport s n) = calPart s := by
  unfold State.almReport
  first
  | ((try dsimp only); (repeat' (first | with_reducible rfl | (with_reducible refine (calPart_foldl _ _ _ (fun _ _ => ?_)).trans ?_) | (simp; done) | split | (rw [calPart_mk, calPart_fold]))); done)
  | ((repeat' split) <;> first | (simp; done) | with_reducible rfl)
  | (refine calPart_foldl _ _ _ (fun a x => ?_); (repeat' split) <;> first | (simp; done) | with_reducible rfl)
  | ((try dsimp only); rw [calPart_foldl] <;> first | (intro a x; (repeat' split) <;> first | (simp; done) | with_reducible rfl) | ((repeat' split) <;> first | (simp; done) | with_reducible rfl))
  | ((try dsimp only); (repeat' split) <;> first | (simp; done) | with_reducible rfl)
  | ((repeat' (with_reducible refine calPart_ite ?_ ?_)) <;> first | (simp; done) | with_reducible rfl)
  | ((repeat' split) <;> first
      | (simp; done)
      | with_reducible rfl
      | (refine calPart_foldl _ _ _ (fun a x => ?_); (repeat' split) <;> first | (simp; done) | with_reducible rfl)
      | ((try dsimp only); rw [calPart_foldl] <;> first | (intro a x; (repeat' split) <;> first | (simp; done) | with_reducible rfl) | ((repeat' split) <;> first | (simp; done) | with_reducible rfl)))

@[simp↓] theorem calPart_almFire (s : State) (n : Nat) (t : Nat) : calPart (State.almFire s n t) = calPart s := by
  unfold State.almFire
  first
  | ((try dsimp only); (repeat' (first | with_reducible rfl | (with_reducible refine (calPart_foldl _ _ _ (fun _ _ => ?_)).trans ?_) | (simp; done) | split | (rw [calPart_mk, calPart_fold]))); done)
  | ((repeat' split) <;> first | (simp; done) | with_reducible rfl)
  | (refine calPart_foldl _ _ _ (fun a x => ?_); (repeat' split) <;> first | (simp; done) | with_reducible rfl)
  | ((try dsimp only); rw [calPart_foldl] <;> first | (intro a x; (repeat' split) <;> first | (simp; done) | with_reducible rfl) | ((repeat' split) <;> first | (simp; done) | with_reducible rfl))
  | ((try dsimp only); (repeat' split) <;> first | (simp; done) | with_reducible rfl)
  | ((repeat' (with_reducible refine calPart_ite ?_ ?_)) <;> first | (simp; done) | with_reducible rfl)
  | ((repeat' split) <;> first
      | (simp; done)
      | with_reducible rfl
      | (refine calPart_foldl _ _ _ (fun a x => ?_); (repeat' split) <;> first | (simp; done) | with_reducible rfl)
      | ((try dsimp only); rw [calPart_foldl] <;> first | (intro a x; (repeat' split) <;> first | (simp; done) | with_reducible rfl) | ((repeat' split) <;> first | (simp; done) | with_reducible rfl)))

@[simp↓] theorem calPart_almCarry (s : State) (t : Nat) : calPart (State.almCarry s t) = calPart s := by
  unfold State.almCarry
  first
  | ((try dsimp only); (repeat' (first | with_reducible rfl | (with_reducible refine (calPart_foldl _ _ _ (fun _ _ => ?_)).trans ?_) | (simp; done) | split | (rw [calPart_mk, calPart_fold]))); done)
  | ((repeat' split) <;> first | (simp; done) | with_reducible rfl)
  | (refine calPart_foldl _ _ _ (fun a x => ?_); (repeat' split) <;> first | (simp; done) | with_reducible rfl)
  | ((try dsimp only); rw [calPart_foldl] <;> first | (intro a x; (repeat' split) <;> first | (simp; done) | with_reducible rfl) | ((repeat' split) <;> first | (simp; done) | with_reducible rfl))
  | ((try dsimp only); (repeat' split) <;> first | (simp; done) | with_reducible rfl)
  | ((repeat' (with_reducible refine calPart_ite ?_ ?_)) <;> first | (simp; done) | with_reducible rfl)
  | ((repeat' split) <;> first
      | (simp; done)
      | with_reducible rfl
      | (refine calPart_foldl _ _ _ (fun a x => ?_); (repeat' split) <;> first | (simp; done) | with_reducible rfl)
      | ((try dsimp only); rw [calPart_foldl] <;> first | (intro a x; (repeat' split) <;> first | (simp; done) | with_reducible rfl) | ((repeat' split) <;> first | (simp; done) | with_reducible rfl)))

@[simp↓] theorem calPart_almAdjust (s : State) (told : Nat) (tnew : Nat) (n : Nat) : calPart (State.almAdjust s told tnew n) = calPart s := by
  unfold State.almAdjust
  first
  | ((try dsimp only); (repeat' (first | with_reducible rfl | (with_reducible refine (calPart_foldl _ _ _ (fun _ _ => ?_)).trans ?_) | (simp; done) | split | (rw [calPart_mk, calPart_fold]))); done)
  | ((repeat' split) <;> first | (simp; done) | with_reducible rfl)
  | (refine calPart_foldl _ _ _ (fun a x => ?_); (repeat' split) <;> first | (simp; done) | with_reducible rfl)
  | ((try dsimp only); rw [calPart_foldl] <;> first | (intro a x; (repeat' split) <;> first | (simp; done) | with_reducible rfl) | ((repeat' split) <;> first | (simp; done) | with_reducible rfl))
  | ((try dsimp only); (repeat' split) <;> first | (simp; done) | with_reducible rfl)
  | ((repeat' (with_reducible refine calPart_ite ?_ ?_)) <;> first | (simp; done) | with_reducible rfl)
  | ((repeat' split) <;> first
      | (simp; done)
      | with_reducible rfl
      | (refine calPart_foldl _ _ _ (fun a x => ?_); (repeat' split) <;> first | (simp; done) | with_reducible rfl)
      | ((try dsimp only); rw [calPart_foldl] <;> first | (intro a x; (repeat' split) <;> first | (simp; done) | with_reducible rfl) | ((repeat' split) <;> first | (simp; done) | with_reducible rfl)))

@[simp↓] theorem calPart_almAdjustAll (s : State) (told : Nat) (tnew : Nat) : calPart (State.almAdjustAll s told tnew) = calPart s := by
  unfold State.almAdjustAll
  first
  | ((try dsimp only); (repeat' (first | with_reducible rfl | (with_reducible refine (calPart_foldl _ _ _ (fun _ _ => ?_)).trans ?_) | (simp; done) | split | (rw [calPart_mk, calPart_fold]))); done)
  | ((repeat' split) <;> first | (simp; done) | with_reducible rfl)
  | (refine calPart_foldl _ _ _ (fun a x => ?_); (repeat' split) <;> first | (simp; done) | with_reducible rfl)
  | ((try dsimp only); rw [calPart_foldl] <;> first | (intro a x; (repeat' split) <;> first | (simp; done) | with_reducible rfl) | ((repeat' split) <;> first | (simp; done) | with_reducible rfl))
  | ((try dsimp only); (repeat' split) <;> first | (simp; done) | with_reducible rfl)
  | ((repeat' (with_reducible refine calPart_ite ?_ ?_)) <;> first | (simp; done) | with_reducible rfl)
  | ((repeat' split) <;> first
      | (simp; done)
      | with_reducible rfl
      | (refine calPart_foldl _ _ _ (fun a x => ?_); (repeat' split) <;> first | (simp; done) | with_reducible rfl)
      | ((try dsimp only); rw [calPart_foldl] <;> first | (intro a x; (repeat' split) <;> first | (simp; done) | with_reducible rfl) | ((repeat' split) <;> first | (simp; done) | with_reducible rfl)))

@[simp↓] theorem calPart_auditCal (s : State) (status : Nat) (c : CalSet) : calPart (State.auditCal s status c) = calPart s := by
  unfold State.auditCal
  first
  | ((try dsimp only); (repeat' (first | with_reducible rfl | (with_reducible refine (calPart_foldl _ _ _ (fun _ _ => ?_)).trans ?_) | (simp; done) | split | (rw [calPart_mk, calPart_fold]))); done)
  | ((repeat' split) <;> first | (simp; done) | with_reducible rfl)
  | (refine calPart_foldl _ _ _ (fun a x => ?_); (repeat' split) <;> first | (simp; done) | with_reducible rfl)
  | ((try dsimp only); rw [calPart_foldl] <;> first | (intro a x; (repeat' split) <;> first | (simp; done) | with_reducible rfl) | ((repeat' split) <;> first | (simp; done) | with_reducible rfl))
  | ((try dsimp only); (repeat' split) <;> first | (simp; done) | with_reducible rfl)
  | ((repeat' (with_reducible refine calPart_ite ?_ ?_)) <;> first | (simp; done) | with_reducible rfl)
  | ((repeat' split) <;> first
      | (simp; done)
      | with_reducible rfl
      | (refine calPart_foldl _ _ _ (fun a x => ?_); (repeat' split) <;> first | (simp; done) | with_reducible rfl)
      | ((try dsimp only); rw [calPart_foldl] <;> first | (intro a x; (repeat' split) <;> first | (simp; done) | with_reducible rfl) | ((repeat' split) <;> first | (simp; done) | with_reducible rfl)))

@[simp↓] theorem calPart_dropDst (s : State) : calPart (State.dropDst s) = calPart s := by
  unfold State.dropDst
  first
  | ((try dsimp only); (repeat' (first | with_reducible rfl | (with_reducible refine (calPart_foldl _ _ _ (fun _ _ => ?_)).trans ?_) | (simp; done) | split | (rw [calPart_mk, calPart_fold]))); done)
  | ((repeat' split) <;> first | (simp; done) | with_reducible rfl)
  | (refine calPart_foldl _ _ _ (fun a x => ?_); (repeat' split) <;> first | (simp; done) | with_reducible rfl)
  | ((try dsimp only); rw [calPart_foldl] <;> first | (intro a x; (repeat' split) <;> first | (simp; done) | with_reducible rfl) | ((repeat' split) <;> first | (simp; done) | with_reducible rfl))
  | ((try dsimp only); (repeat' split) <;> first | (simp; done) | with_reducible rfl)
  | ((repeat' (with_reducible refine calPart_ite ?_ ?_)) <;> first | (simp; done) | with_reducible rfl)
  | ((repeat' split) <;> first
      | (simp; done)
      | with_reducible rfl
      | (refine calPart_foldl _ _ _ (fun a x => ?_); (repeat' split) <;> first | (simp; done) | with_reducible rfl)
      | ((try dsimp only); rw [calPart_foldl] <;> first | (intro a x; (repeat' split) <;> first | (simp; done) | with_reducible rfl) | ((repeat' split) <;> first | (simp; done) | with_reducible rfl)))

/-- The parts `par`, `host.due`, `host.pendCommits`, `host.staging`. -/
def comPart (s : State) := (s.par, s.host.due, s.host.pendCommits, s.host.staging)

@[simp] theorem comPart_fold (s : State) : (s.par, s.host.due, s.host.pendCommits, s.host.staging) = comPart s := rfl

@[simp↓] theorem comPart_mk (epoch order ident host par lane prog model slv perc afe fed stn pts fio can net time key aud pair pwr rst drip past edge latch pending out free) : comPart (State.mk epoch order ident host par lane prog model slv perc afe fed stn pts fio can net time key aud pair pwr rst drip past edge latch pending out free) = (par, host.due, host.pendCommits, host.staging) := rfl

theorem comPart_silent {s t : State} (h : Silent s t) : comPart t = comPart s := by rw [h.rest]; rfl

theorem comPart_ite {c : Prop} [Decidable c] {a b s : State} (ha : comPart a = comPart s) (hb : comPart b = comPart s) :
    comPart (if c then a else b) = comPart s := by
  split <;> assumption

theorem comPart_foldl {α : Type} (l : List α) (f : State → α → State) (s : State) (h : ∀ a x, comPart (f a x) = comPart a) :
    comPart (l.foldl f s) = comPart s := by
  induction l generalizing s with
  | nil => rfl
  | cons x l ih => exact (ih _).trans (h s x)

@[simp↓] theorem comPart_emit (s : State) (m : OutMsg) : comPart (State.emit s m) = comPart s := by
  exact comPart_silent (silent_emit _ _)

@[simp↓] theorem comPart_sendMsix (s : State) (v : Nat) : comPart (State.sendMsix s v) = comPart s := by
  exact comPart_silent (silent_sendMsix _ _)

@[simp↓] theorem comPart_setQueue (s : State) (n : Nat) (q : QPair) : comPart (State.setQueue s n q) = comPart s := by
  unfold State.setQueue
  first
  | ((try dsimp only); (repeat' (first | with_reducible rfl | (with_reducible refine (comPart_foldl _ _ _ (fun _ _ => ?_)).trans ?_) | (simp; done) | split | (rw [comPart_mk, comPart_fold]))); done)
  | ((repeat' split) <;> first | (simp; done) | with_reducible rfl)
  | (refine comPart_foldl _ _ _ (fun a x => ?_); (repeat' split) <;> first | (simp; done) | with_reducible rfl)
  | ((try dsimp only); rw [comPart_foldl] <;> first | (intro a x; (repeat' split) <;> first | (simp; done) | with_reducible rfl) | ((repeat' split) <;> first | (simp; done) | with_reducible rfl))
  | ((try dsimp only); (repeat' split) <;> first | (simp; done) | with_reducible rfl)
  | ((repeat' (with_reducible refine comPart_ite ?_ ?_)) <;> first | (simp; done) | with_reducible rfl)
  | ((repeat' split) <;> first
      | (simp; done)
      | with_reducible rfl
      | (refine comPart_foldl _ _ _ (fun a x => ?_); (repeat' split) <;> first | (simp; done) | with_reducible rfl)
      | ((try dsimp only); rw [comPart_foldl] <;> first | (intro a x; (repeat' split) <;> first | (simp; done) | with_reducible rfl) | ((repeat' split) <;> first | (simp; done) | with_reducible rfl)))

@[simp↓] theorem comPart_auditPush (s : State) (r : AuditRec) : comPart (State.auditPush s r) = comPart s := by
  exact comPart_silent (silent_auditPush _ _)

@[simp↓] theorem comPart_auditDev (s : State) (kind : Nat) (opcode : Nat) (status : Nat) (subject : Nat) (data : List Byte) : comPart (State.auditDev s kind opcode status subject data) = comPart s := by
  exact comPart_silent (silent_auditPush _ _)

@[simp↓] theorem comPart_auditApplied (s : State) (subject : Nat) : comPart (State.auditApplied s subject) = comPart s := by
  unfold State.auditApplied
  first
  | ((try dsimp only); (repeat' (first | with_reducible rfl | (with_reducible refine (comPart_foldl _ _ _ (fun _ _ => ?_)).trans ?_) | (simp; done) | split | (rw [comPart_mk, comPart_fold]))); done)
  | ((repeat' split) <;> first | (simp; done) | with_reducible rfl)
  | (refine comPart_foldl _ _ _ (fun a x => ?_); (repeat' split) <;> first | (simp; done) | with_reducible rfl)
  | ((try dsimp only); rw [comPart_foldl] <;> first | (intro a x; (repeat' split) <;> first | (simp; done) | with_reducible rfl) | ((repeat' split) <;> first | (simp; done) | with_reducible rfl))
  | ((try dsimp only); (repeat' split) <;> first | (simp; done) | with_reducible rfl)
  | ((repeat' (with_reducible refine comPart_ite ?_ ?_)) <;> first | (simp; done) | with_reducible rfl)
  | ((repeat' split) <;> first
      | (simp; done)
      | with_reducible rfl
      | (refine comPart_foldl _ _ _ (fun a x => ?_); (repeat' split) <;> first | (simp; done) | with_reducible rfl)
      | ((try dsimp only); rw [comPart_foldl] <;> first | (intro a x; (repeat' split) <;> first | (simp; done) | with_reducible rfl) | ((repeat' split) <;> first | (simp; done) | with_reducible rfl)))

@[simp↓] theorem comPart_postQueue (s : State) (n : Nat) (e : Entry) (data : List Byte) : comPart (State.postQueue s n e data).1 = comPart s := by
  exact comPart_silent (silent_postQueue _ _ _ _)

@[simp↓] theorem comPart_post (s : State) (dst : Src) (e : Entry) (data : List Byte) : comPart (State.post s dst e data).1 = comPart s := by
  exact comPart_silent (silent_post _ _ _ _)

@[simp↓] theorem comPart_freeHandle (s : State) (i : Nat) : comPart (State.freeHandle s i) = comPart s := by
  unfold State.freeHandle
  first
  | ((try dsimp only); (repeat' (first | with_reducible rfl | (with_reducible refine (comPart_foldl _ _ _ (fun _ _ => ?_)).trans ?_) | (simp; done) | split | (rw [comPart_mk, comPart_fold]))); done)
  | ((repeat' split) <;> first | (simp; done) | with_reducible rfl)
  | (refine comPart_foldl _ _ _ (fun a x => ?_); (repeat' split) <;> first | (simp; done) | with_reducible rfl)
  | ((try dsimp only); rw [comPart_foldl] <;> first | (intro a x; (repeat' split) <;> first | (simp; done) | with_reducible rfl) | ((repeat' split) <;> first | (simp; done) | with_reducible rfl))
  | ((try dsimp only); (repeat' split) <;> first | (simp; done) | with_reducible rfl)
  | ((repeat' (with_reducible refine comPart_ite ?_ ?_)) <;> first | (simp; done) | with_reducible rfl)
  | ((repeat' split) <;> first
      | (simp; done)
      | with_reducible rfl
      | (refine comPart_foldl _ _ _ (fun a x => ?_); (repeat' split) <;> first | (simp; done) | with_reducible rfl)
      | ((try dsimp only); rw [comPart_foldl] <;> first | (intro a x; (repeat' split) <;> first | (simp; done) | with_reducible rfl) | ((repeat' split) <;> first | (simp; done) | with_reducible rfl)))

@[simp↓] theorem comPart_complete (s : State) (h : U32) (status : Nat) (detail : Nat) (data : List Byte) : comPart (State.complete s h status detail data) = comPart s := by
  unfold State.complete
  first
  | ((try dsimp only); (repeat' (first | with_reducible rfl | (with_reducible refine (comPart_foldl _ _ _ (fun _ _ => ?_)).trans ?_) | (simp; done) | split | (rw [comPart_mk, comPart_fold]))); done)
  | ((repeat' split) <;> first | (simp; done) | with_reducible rfl)
  | (refine comPart_foldl _ _ _ (fun a x => ?_); (repeat' split) <;> first | (simp; done) | with_reducible rfl)
  | ((try dsimp only); rw [comPart_foldl] <;> first | (intro a x; (repeat' split) <;> first | (simp; done) | with_reducible rfl) | ((repeat' split) <;> first | (simp; done) | with_reducible rfl))
  | ((try dsimp only); (repeat' split) <;> first | (simp; done) | with_reducible rfl)
  | ((repeat' (with_reducible refine comPart_ite ?_ ?_)) <;> first | (simp; done) | with_reducible rfl)
  | ((repeat' split) <;> first
      | (simp; done)
      | with_reducible rfl
      | (refine comPart_foldl _ _ _ (fun a x => ?_); (repeat' split) <;> first | (simp; done) | with_reducible rfl)
      | ((try dsimp only); rw [comPart_foldl] <;> first | (intro a x; (repeat' split) <;> first | (simp; done) | with_reducible rfl) | ((repeat' split) <;> first | (simp; done) | with_reducible rfl)))

@[simp↓] theorem comPart_atOrder (s : State) (k : Nat) : comPart (State.atOrder s k) = comPart s := by
  unfold State.atOrder
  first
  | ((try dsimp only); (repeat' (first | with_reducible rfl | (with_reducible refine (comPart_foldl _ _ _ (fun _ _ => ?_)).trans ?_) | (simp; done) | split | (rw [comPart_mk, comPart_fold]))); done)
  | ((repeat' split) <;> first | (simp; done) | with_reducible rfl)
  | (refine comPart_foldl _ _ _ (fun a x => ?_); (repeat' split) <;> first | (simp; done) | with_reducible rfl)
  | ((try dsimp only); rw [comPart_foldl] <;> first | (intro a x; (repeat' split) <;> first | (simp; done) | with_reducible rfl) | ((repeat' split) <;> first | (simp; done) | with_reducible rfl))
  | ((try dsimp only); (repeat' split) <;> first | (simp; done) | with_reducible rfl)
  | ((repeat' (with_reducible refine comPart_ite ?_ ?_)) <;> first | (simp; done) | with_reducible rfl)
  | ((repeat' split) <;> first
      | (simp; done)
      | with_reducible rfl
      | (refine comPart_foldl _ _ _ (fun a x => ?_); (repeat' split) <;> first | (simp; done) | with_reducible rfl)
      | ((try dsimp only); rw [comPart_foldl] <;> first | (intro a x; (repeat' split) <;> first | (simp; done) | with_reducible rfl) | ((repeat' split) <;> first | (simp; done) | with_reducible rfl)))

@[simp↓] theorem comPart_setPt (s : State) (p : Nat) (v : Point) : comPart (State.setPt s p v) = comPart s := by
  unfold State.setPt
  first
  | ((try dsimp only); (repeat' (first | with_reducible rfl | (with_reducible refine (comPart_foldl _ _ _ (fun _ _ => ?_)).trans ?_) | (simp; done) | split | (rw [comPart_mk, comPart_fold]))); done)
  | ((repeat' split) <;> first | (simp; done) | with_reducible rfl)
  | (refine comPart_foldl _ _ _ (fun a x => ?_); (repeat' split) <;> first | (simp; done) | with_reducible rfl)
  | ((try dsimp only); rw [comPart_foldl] <;> first | (intro a x; (repeat' split) <;> first | (simp; done) | with_reducible rfl) | ((repeat' split) <;> first | (simp; done) | with_reducible rfl))
  | ((try dsimp only); (repeat' split) <;> first | (simp; done) | with_reducible rfl)
  | ((repeat' (with_reducible refine comPart_ite ?_ ?_)) <;> first | (simp; done) | with_reducible rfl)
  | ((repeat' split) <;> first
      | (simp; done)
      | with_reducible rfl
      | (refine comPart_foldl _ _ _ (fun a x => ?_); (repeat' split) <;> first | (simp; done) | with_reducible rfl)
      | ((try dsimp only); rw [comPart_foldl] <;> first | (intro a x; (repeat' split) <;> first | (simp; done) | with_reducible rfl) | ((repeat' split) <;> first | (simp; done) | with_reducible rfl)))

@[simp↓] theorem comPart_took (s : State) : comPart (State.took s) = comPart s := by
  unfold State.took
  first
  | ((try dsimp only); (repeat' (first | with_reducible rfl | (with_reducible refine (comPart_foldl _ _ _ (fun _ _ => ?_)).trans ?_) | (simp; done) | split | (rw [comPart_mk, comPart_fold]))); done)
  | ((repeat' split) <;> first | (simp; done) | with_reducible rfl)
  | (refine comPart_foldl _ _ _ (fun a x => ?_); (repeat' split) <;> first | (simp; done) | with_reducible rfl)
  | ((try dsimp only); rw [comPart_foldl] <;> first | (intro a x; (repeat' split) <;> first | (simp; done) | with_reducible rfl) | ((repeat' split) <;> first | (simp; done) | with_reducible rfl))
  | ((try dsimp only); (repeat' split) <;> first | (simp; done) | with_reducible rfl)
  | ((repeat' (with_reducible refine comPart_ite ?_ ?_)) <;> first | (simp; done) | with_reducible rfl)
  | ((repeat' split) <;> first
      | (simp; done)
      | with_reducible rfl
      | (refine comPart_foldl _ _ _ (fun a x => ?_); (repeat' split) <;> first | (simp; done) | with_reducible rfl)
      | ((try dsimp only); rw [comPart_foldl] <;> first | (intro a x; (repeat' split) <;> first | (simp; done) | with_reducible rfl) | ((repeat' split) <;> first | (simp; done) | with_reducible rfl)))

@[simp↓] theorem comPart_closeEdge (s : State) : comPart (State.closeEdge s) = comPart s := by
  unfold State.closeEdge
  first
  | ((try dsimp only); (repeat' (first | with_reducible rfl | (with_reducible refine (comPart_foldl _ _ _ (fun _ _ => ?_)).trans ?_) | (simp; done) | split | (rw [comPart_mk, comPart_fold]))); done)
  | ((repeat' split) <;> first | (simp; done) | with_reducible rfl)
  | (refine comPart_foldl _ _ _ (fun a x => ?_); (repeat' split) <;> first | (simp; done) | with_reducible rfl)
  | ((try dsimp only); rw [comPart_foldl] <;> first | (intro a x; (repeat' split) <;> first | (simp; done) | with_reducible rfl) | ((repeat' split) <;> first | (simp; done) | with_reducible rfl))
  | ((try dsimp only); (repeat' split) <;> first | (simp; done) | with_reducible rfl)
  | ((repeat' (with_reducible refine comPart_ite ?_ ?_)) <;> first | (simp; done) | with_reducible rfl)
  | ((repeat' split) <;> first
      | (simp; done)
      | with_reducible rfl
      | (refine comPart_foldl _ _ _ (fun a x => ?_); (repeat' split) <;> first | (simp; done) | with_reducible rfl)
      | ((try dsimp only); rw [comPart_foldl] <;> first | (intro a x; (repeat' split) <;> first | (simp; done) | with_reducible rfl) | ((repeat' split) <;> first | (simp; done) | with_reducible rfl)))

@[simp↓] theorem comPart_setPort (s : State) (p : Nat) (v : PortSt1) : comPart (State.setPort s p v) = comPart s := by
  unfold State.setPort
  first
  | ((try dsimp only); (repeat' (first | with_reducible rfl | (with_reducible refine (comPart_foldl _ _ _ (fun _ _ => ?_)).trans ?_) | (simp; done) | split | (rw [comPart_mk, comPart_fold]))); done)
  | ((repeat' split) <;> first | (simp; done) | with_reducible rfl)
  | (refine comPart_foldl _ _ _ (fun a x => ?_); (repeat' split) <;> first | (simp; done) | with_reducible rfl)
  | ((try dsimp only); rw [comPart_foldl] <;> first | (intro a x; (repeat' split) <;> first | (simp; done) | with_reducible rfl) | ((repeat' split) <;> first | (simp; done) | with_reducible rfl))
  | ((try dsimp only); (repeat' split) <;> first | (simp; done) | with_reducible rfl)
  | ((repeat' (with_reducible refine comPart_ite ?_ ?_)) <;> first | (simp; done) | with_reducible rfl)
  | ((repeat' split) <;> first
      | (simp; done)
      | with_reducible rfl
      | (refine comPart_foldl _ _ _ (fun a x => ?_); (repeat' split) <;> first | (simp; done) | with_reducible rfl)
      | ((try dsimp only); rw [comPart_foldl] <;> first | (intro a x; (repeat' split) <;> first | (simp; done) | with_reducible rfl) | ((repeat' split) <;> first | (simp; done) | with_reducible rfl)))

@[simp↓] theorem comPart_refreshPorts (s : State) : comPart (State.refreshPorts s) = comPart s := by
  unfold State.refreshPorts
  first
  | ((try dsimp only); (repeat' (first | with_reducible rfl | (with_reducible refine (comPart_foldl _ _ _ (fun _ _ => ?_)).trans ?_) | (simp; done) | split | (rw [comPart_mk, comPart_fold]))); done)
  | ((repeat' split) <;> first | (simp; done) | with_reducible rfl)
  | (refine comPart_foldl _ _ _ (fun a x => ?_); (repeat' split) <;> first | (simp; done) | with_reducible rfl)
  | ((try dsimp only); rw [comPart_foldl] <;> first | (intro a x; (repeat' split) <;> first | (simp; done) | with_reducible rfl) | ((repeat' split) <;> first | (simp; done) | with_reducible rfl))
  | ((try dsimp only); (repeat' split) <;> first | (simp; done) | with_reducible rfl)
  | ((repeat' (with_reducible refine comPart_ite ?_ ?_)) <;> first | (simp; done) | with_reducible rfl)
  | ((repeat' split) <;> first
      | (simp; done)
      | with_reducible rfl
      | (refine comPart_foldl _ _ _ (fun a x => ?_); (repeat' split) <;> first | (simp; done) | with_reducible rfl)
      | ((try dsimp only); rw [comPart_foldl] <;> first | (intro a x; (repeat' split) <;> first | (simp; done) | with_reducible rfl) | ((repeat' split) <;> first | (simp; done) | with_reducible rfl)))

@[simp↓] theorem comPart_wantMerge (s : State) (b : Nat) : comPart (State.wantMerge s b) = comPart s := by
  unfold State.wantMerge
  first
  | ((try dsimp only); (repeat' (first | with_reducible rfl | (with_reducible refine (comPart_foldl _ _ _ (fun _ _ => ?_)).trans ?_) | (simp; done) | split | (rw [comPart_mk, comPart_fold]))); done)
  | ((repeat' split) <;> first | (simp; done) | with_reducible rfl)
  | (refine comPart_foldl _ _ _ (fun a x => ?_); (repeat' split) <;> first | (simp; done) | with_reducible rfl)
  | ((try dsimp only); rw [comPart_foldl] <;> first | (intro a x; (repeat' split) <;> first | (simp; done) | with_reducible rfl) | ((repeat' split) <;> first | (simp; done) | with_reducible rfl))
  | ((try dsimp only); (repeat' split) <;> first | (simp; done) | with_reducible rfl)
  | ((repeat' (with_reducible refine comPart_ite ?_ ?_)) <;> first | (simp; done) | with_reducible rfl)
  | ((repeat' split) <;> first
      | (simp; done)
      | with_reducible rfl
      | (refine comPart_foldl _ _ _ (fun a x => ?_); (repeat' split) <;> first | (simp; done) | with_reducible rfl)
      | ((try dsimp only); rw [comPart_foldl] <;> first | (intro a x; (repeat' split) <;> first | (simp; done) | with_reducible rfl) | ((repeat' split) <;> first | (simp; done) | with_reducible rfl)))

@[simp↓] theorem comPart_stopMerge (s : State) : comPart (State.stopMerge s) = comPart s := by
  unfold State.stopMerge
  first
  | ((try dsimp only); (repeat' (first | with_reducible rfl | (with_reducible refine (comPart_foldl _ _ _ (fun _ _ => ?_)).trans ?_) | (simp; done) | split | (rw [comPart_mk, comPart_fold]))); done)
  | ((repeat' split) <;> first | (simp; done) | with_reducible rfl)
  | (refine comPart_foldl _ _ _ (fun a x => ?_); (repeat' split) <;> first | (simp; done) | with_reducible rfl)
  | ((try dsimp only); rw [comPart_foldl] <;> first | (intro a x; (repeat' split) <;> first | (simp; done) | with_reducible rfl) | ((repeat' split) <;> first | (simp; done) | with_reducible rfl))
  | ((try dsimp only); (repeat' split) <;> first | (simp; done) | with_reducible rfl)
  | ((repeat' (with_reducible refine comPart_ite ?_ ?_)) <;> first | (simp; done) | with_reducible rfl)
  | ((repeat' split) <;> first
      | (simp; done)
      | with_reducible rfl
      | (refine comPart_foldl _ _ _ (fun a x => ?_); (repeat' split) <;> first | (simp; done) | with_reducible rfl)
      | ((try dsimp only); rw [comPart_foldl] <;> first | (intro a x; (repeat' split) <;> first | (simp; done) | with_reducible rfl) | ((repeat' split) <;> first | (simp; done) | with_reducible rfl)))

@[simp↓] theorem comPart_toTb1 (s : State) : comPart (State.toTb1 s) = comPart s := by
  unfold State.toTb1
  first
  | ((try dsimp only); (repeat' (first | with_reducible rfl | (with_reducible refine (comPart_foldl _ _ _ (fun _ _ => ?_)).trans ?_) | (simp; done) | split | (rw [comPart_mk, comPart_fold]))); done)
  | ((repeat' split) <;> first | (simp; done) | with_reducible rfl)
  | (refine comPart_foldl _ _ _ (fun a x => ?_); (repeat' split) <;> first | (simp; done) | with_reducible rfl)
  | ((try dsimp only); rw [comPart_foldl] <;> first | (intro a x; (repeat' split) <;> first | (simp; done) | with_reducible rfl) | ((repeat' split) <;> first | (simp; done) | with_reducible rfl))
  | ((try dsimp only); (repeat' split) <;> first | (simp; done) | with_reducible rfl)
  | ((repeat' (with_reducible refine comPart_ite ?_ ?_)) <;> first | (simp; done) | with_reducible rfl)
  | ((repeat' split) <;> first
      | (simp; done)
      | with_reducible rfl
      | (refine comPart_foldl _ _ _ (fun a x => ?_); (repeat' split) <;> first | (simp; done) | with_reducible rfl)
      | ((try dsimp only); rw [comPart_foldl] <;> first | (intro a x; (repeat' split) <;> first | (simp; done) | with_reducible rfl) | ((repeat' split) <;> first | (simp; done) | with_reducible rfl)))

@[simp↓] theorem comPart_tb0Free (s : State) : comPart (State.tb0Free s) = comPart s := by
  have key : ∀ (w : State) a b c, comPart { w with time.tb0State := a, time.lockFrom := b, time.mergeWaiting := c } = comPart w := fun _ _ _ _ => rfl
  unfold State.tb0Free
  dsimp only
  refine (key _ _ _ _).trans ?_
  exact comPart_ite (comPart_toTb1 _) rfl

@[simp↓] theorem comPart_timeCommitted (s : State) (old : State) : comPart (State.timeCommitted s old) = comPart s := by
  have key : ∀ (w : State) a b, comPart { w with time.tb0State := a, time.lockFrom := b } = comPart w := fun _ _ _ => rfl
  have key2 : ∀ (w : State) a, comPart { w with time.mergeWaiting := a } = comPart w := fun _ _ => rfl
  unfold State.timeCommitted
  dsimp only
  have h1 : ∀ c1 c2 c3 : Prop, ∀ [Decidable c1] [Decidable c2] [Decidable c3],
      comPart (if c1 then s else if c2 then s.tb0Free else if c3 then { s with time.tb0State := 1, time.lockFrom := none } else s) = comPart s := by
    intro c1 c2 c3 _ _ _
    exact comPart_ite rfl (comPart_ite (comPart_tb0Free s) (comPart_ite (key _ _ _) rfl))
  generalize hw : (if s.pn P.TIME_SOURCE 0 = old.pn P.TIME_SOURCE 0 then s else _) = w
  have hx : comPart w = comPart s := by rw [← hw]; exact h1 _ _ _
  clear hw
  refine (comPart_ite (s := w) rfl ?_).trans hx
  refine Eq.trans ?_ (comPart_stopMerge w)
  generalize w.stopMerge = v
  split
  · exact comPart_ite (key2 _ _) rfl
  · exact comPart_ite rfl (key2 _ _)

@[simp↓] theorem comPart_setFio (s : State) (c : Nat) (v : FioCh) : comPart (State.setFio s c v) = comPart s := by
  unfold State.setFio
  first
  | ((try dsimp only); (repeat' (first | with_reducible rfl | (with_reducible refine (comPart_foldl _ _ _ (fun _ _ => ?_)).trans ?_) | (simp; done) | split | (rw [comPart_mk, comPart_fold]))); done)
  | ((repeat' split) <;> first | (simp; done) | with_reducible rfl)
  | (refine comPart_foldl _ _ _ (fun a x => ?_); (repeat' split) <;> first | (simp; done) | with_reducible rfl)
  | ((try dsimp only); rw [comPart_foldl] <;> first | (intro a x; (repeat' split) <;> first | (simp; done) | with_reducible rfl) | ((repeat' split) <;> first | (simp; done) | with_reducible rfl))
  | ((try dsimp only); (repeat' split) <;> first | (simp; done) | with_reducible rfl)
  | ((repeat' (with_reducible refine comPart_ite ?_ ?_)) <;> first | (simp; done) | with_reducible rfl)
  | ((repeat' split) <;> first
      | (simp; done)
      | with_reducible rfl
      | (refine comPart_foldl _ _ _ (fun a x => ?_); (repeat' split) <;> first | (simp; done) | with_reducible rfl)
      | ((try dsimp only); rw [comPart_foldl] <;> first | (intro a x; (repeat' split) <;> first | (simp; done) | with_reducible rfl) | ((repeat' split) <;> first | (simp; done) | with_reducible rfl)))

@[simp↓] theorem comPart_setAout (s : State) (a : Nat) (v : AoutCh) : comPart (State.setAout s a v) = comPart s := by
  unfold State.setAout
  first
  | ((try dsimp only); (repeat' (first | with_reducible rfl | (with_reducible refine (comPart_foldl _ _ _ (fun _ _ => ?_)).trans ?_) | (simp; done) | split | (rw [comPart_mk, comPart_fold]))); done)
  | ((repeat' split) <;> first | (simp; done) | with_reducible rfl)
  | (refine comPart_foldl _ _ _ (fun a x => ?_); (repeat' split) <;> first | (simp; done) | with_reducible rfl)
  | ((try dsimp only); rw [comPart_foldl] <;> first | (intro a x; (repeat' split) <;> first | (simp; done) | with_reducible rfl) | ((repeat' split) <;> first | (simp; done) | with_reducible rfl))
  | ((try dsimp only); (repeat' split) <;> first | (simp; done) | with_reducible rfl)
  | ((repeat' (with_reducible refine comPart_ite ?_ ?_)) <;> first | (simp; done) | with_reducible rfl)
  | ((repeat' split) <;> first
      | (simp; done)
      | with_reducible rfl
      | (refine comPart_foldl _ _ _ (fun a x => ?_); (repeat' split) <;> first | (simp; done) | with_reducible rfl)
      | ((try dsimp only); rw [comPart_foldl] <;> first | (intro a x; (repeat' split) <;> first | (simp; done) | with_reducible rfl) | ((repeat' split) <;> first | (simp; done) | with_reducible rfl)))

@[simp↓] theorem comPart_kept (s : State) (p : Nat) (st : BitVec 16) : comPart (State.kept s p st) = comPart s := by
  unfold State.kept
  first
  | ((try dsimp only); (repeat' (first | with_reducible rfl | (with_reducible refine (comPart_foldl _ _ _ (fun _ _ => ?_)).trans ?_) | (simp; done) | split | (rw [comPart_mk, comPart_fold]))); done)
  | ((repeat' split) <;> first | (simp; done) | with_reducible rfl)
  | (refine comPart_foldl _ _ _ (fun a x => ?_); (repeat' split) <;> first | (simp; done) | with_reducible rfl)
  | ((try dsimp only); rw [comPart_foldl] <;> first | (intro a x; (repeat' split) <;> first | (simp; done) | with_reducible rfl) | ((repeat' split) <;> first | (simp; done) | with_reducible rfl))
  | ((try dsimp only); (repeat' split) <;> first | (simp; done) | with_reducible rfl)
  | ((repeat' (with_reducible refine comPart_ite ?_ ?_)) <;> first | (simp; done) | with_reducible rfl)
  | ((repeat' split) <;> first
      | (simp; done)
      | with_reducible rfl
      | (refine comPart_foldl _ _ _ (fun a x => ?_); (repeat' split) <;> first | (simp; done) | with_reducible rfl)
      | ((try dsimp only); rw [comPart_foldl] <;> first | (intro a x; (repeat' split) <;> first | (simp; done) | with_reducible rfl) | ((repeat' split) <;> first | (simp; done) | with_reducible rfl)))

@[simp↓] theorem comPart_unused (s : State) (p : Nat) : comPart (State.unused s p) = comPart s := by
  unfold State.unused
  first
  | ((try dsimp only); (repeat' (first | with_reducible rfl | (with_reducible refine (comPart_foldl _ _ _ (fun _ _ => ?_)).trans ?_) | (simp; done) | split | (rw [comPart_mk, comPart_fold]))); done)
  | ((repeat' split) <;> first | (simp; done) | with_reducible rfl)
  | (refine comPart_foldl _ _ _ (fun a x => ?_); (repeat' split) <;> first | (simp; done) | with_reducible rfl)
  | ((try dsimp only); rw [comPart_foldl] <;> first | (intro a x; (repeat' split) <;> first | (simp; done) | with_reducible rfl) | ((repeat' split) <;> first | (simp; done) | with_reducible rfl))
  | ((try dsimp only); (repeat' split) <;> first | (simp; done) | with_reducible rfl)
  | ((repeat' (with_reducible refine comPart_ite ?_ ?_)) <;> first | (simp; done) | with_reducible rfl)
  | ((repeat' split) <;> first
      | (simp; done)
      | with_reducible rfl
      | (refine comPart_foldl _ _ _ (fun a x => ?_); (repeat' split) <;> first | (simp; done) | with_reducible rfl)
      | ((try dsimp only); rw [comPart_foldl] <;> first | (intro a x; (repeat' split) <;> first | (simp; done) | with_reducible rfl) | ((repeat' split) <;> first | (simp; done) | with_reducible rfl)))

@[simp↓] theorem comPart_latchDigital (s : State) (c : Nat) : comPart (State.latchDigital s c) = comPart s := by
  unfold State.latchDigital
  first
  | ((try dsimp only); (repeat' (first | with_reducible rfl | (with_reducible refine (comPart_foldl _ _ _ (fun _ _ => ?_)).trans ?_) | (simp; done) | split | (rw [comPart_mk, comPart_fold]))); done)
  | ((repeat' split) <;> first | (simp; done) | with_reducible rfl)
  | (refine comPart_foldl _ _ _ (fun a x => ?_); (repeat' split) <;> first | (simp; done) | with_reducible rfl)
  | ((try dsimp only); rw [comPart_foldl] <;> first | (intro a x; (repeat' split) <;> first | (simp; done) | with_reducible rfl) | ((repeat' split) <;> first | (simp; done) | with_reducible rfl))
  | ((try dsimp only); (repeat' split) <;> first | (simp; done) | with_reducible rfl)
  | ((repeat' (with_reducible refine comPart_ite ?_ ?_)) <;> first | (simp; done) | with_reducible rfl)
  | ((repeat' split) <;> first
      | (simp; done)
      | with_reducible rfl
      | (refine comPart_foldl _ _ _ (fun a x => ?_); (repeat' split) <;> first | (simp; done) | with_reducible rfl)
      | ((try dsimp only); rw [comPart_foldl] <;> first | (intro a x; (repeat' split) <;> first | (simp; done) | with_reducible rfl) | ((repeat' split) <;> first | (simp; done) | with_reducible rfl)))

@[simp↓] theorem comPart_latchPulse (s : State) (c : Nat) : comPart (State.latchPulse s c) = comPart s := by
  unfold State.latchPulse
  dsimp only
  generalize condStatus _ = a1
  generalize condStatus _ = a2
  generalize (match (s.fio1 c).edges with | t :: _ => (s.nowCd6 - t) / cd6PerMs | [] => 0) = age
  generalize s.latched (F32.ofNat (s.fio1 c).count) a2 age = cnt
  generalize freqAt _ _ _ = fr
  generalize s.noPulse c = np
  refine comPart_ite (by simp) (comPart_ite (by simp) ?_)
  cases fr with
  | none => simp
  | some f => exact comPart_ite (by simp) (by simp)

@[simp↓] theorem comPart_latchOutput (s : State) (c : Nat) : comPart (State.latchOutput s c) = comPart s := by
  unfold State.latchOutput
  first
  | ((try dsimp only); (repeat' (first | with_reducible rfl | (with_reducible refine (comPart_foldl _ _ _ (fun _ _ => ?_)).trans ?_) | (simp; done) | split | (rw [comPart_mk, comPart_fold]))); done)
  | ((repeat' split) <;> first | (simp; done) | with_reducible rfl)
  | (refine comPart_foldl _ _ _ (fun a x => ?_); (repeat' split) <;> first | (simp; done) | with_reducible rfl)
  | ((try dsimp only); rw [comPart_foldl] <;> first | (intro a x; (repeat' split) <;> first | (simp; done) | with_reducible rfl) | ((repeat' split) <;> first | (simp; done) | with_reducible rfl))
  | ((try dsimp only); (repeat' split) <;> first | (simp; done) | with_reducible rfl)
  | ((repeat' (with_reducible refine comPart_ite ?_ ?_)) <;> first | (simp; done) | with_reducible rfl)
  | ((repeat' split) <;> first
      | (simp; done)
      | with_reducible rfl
      | (refine comPart_foldl _ _ _ (fun a x => ?_); (repeat' split) <;> first | (simp; done) | with_reducible rfl)
      | ((try dsimp only); rw [comPart_foldl] <;> first | (intro a x; (repeat' split) <;> first | (simp; done) | with_reducible rfl) | ((repeat' split) <;> first | (simp; done) | with_reducible rfl)))

@[simp↓] theorem comPart_latchCh (s : State) (c : Nat) : comPart (State.latchCh s c) = comPart s := by
  unfold State.latchCh
  first
  | ((try dsimp only); (repeat' (first | with_reducible rfl | (with_reducible refine (comPart_foldl _ _ _ (fun _ _ => ?_)).trans ?_) | (simp; done) | split | (rw [comPart_mk, comPart_fold]))); done)
  | ((repeat' split) <;> first | (simp; done) | with_reducible rfl)
  | (refine comPart_foldl _ _ _ (fun a x => ?_); (repeat' split) <;> first | (simp; done) | with_reducible rfl)
  | ((try dsimp only); rw [comPart_foldl] <;> first | (intro a x; (repeat' split) <;> first | (simp; done) | with_reducible rfl) | ((repeat' split) <;> first | (simp; done) | with_reducible rfl))
  | ((try dsimp only); (repeat' split) <;> first | (simp; done) | with_reducible rfl)
  | ((repeat' (with_reducible refine comPart_ite ?_ ?_)) <;> first | (simp; done) | with_reducible rfl)
  | ((repeat' split) <;> first
      | (simp; done)
      | with_reducible rfl
      | (refine comPart_foldl _ _ _ (fun a x => ?_); (repeat' split) <;> first | (simp; done) | with_reducible rfl)
      | ((try dsimp only); rw [comPart_foldl] <;> first | (intro a x; (repeat' split) <;> first | (simp; done) | with_reducible rfl) | ((repeat' split) <;> first | (simp; done) | with_reducible rfl)))

@[simp↓] theorem comPart_latchAin (s : State) (i : Nat) : comPart (State.latchAin s i) = comPart s := by
  unfold State.latchAin
  first
  | ((try dsimp only); (repeat' (first | with_reducible rfl | (with_reducible refine (comPart_foldl _ _ _ (fun _ _ => ?_)).trans ?_) | (simp; done) | split | (rw [comPart_mk, comPart_fold]))); done)
  | ((repeat' split) <;> first | (simp; done) | with_reducible rfl)
  | (refine comPart_foldl _ _ _ (fun a x => ?_); (repeat' split) <;> first | (simp; done) | with_reducible rfl)
  | ((try dsimp only); rw [comPart_foldl] <;> first | (intro a x; (repeat' split) <;> first | (simp; done) | with_reducible rfl) | ((repeat' split) <;> first | (simp; done) | with_reducible rfl))
  | ((try dsimp only); (repeat' split) <;> first | (simp; done) | with_reducible rfl)
  | ((repeat' (with_reducible refine comPart_ite ?_ ?_)) <;> first | (simp; done) | with_reducible rfl)
  | ((repeat' split) <;> first
      | (simp; done)
      | with_reducible rfl
      | (refine comPart_foldl _ _ _ (fun a x => ?_); (repeat' split) <;> first | (simp; done) | with_reducible rfl)
      | ((try dsimp only); rw [comPart_foldl] <;> first | (intro a x; (repeat' split) <;> first | (simp; done) | with_reducible rfl) | ((repeat' split) <;> first | (simp; done) | with_reducible rfl)))

@[simp↓] theorem comPart_latchAout (s : State) (a : Nat) : comPart (State.latchAout s a) = comPart s := by
  unfold State.latchAout
  first
  | ((try dsimp only); (repeat' (first | with_reducible rfl | (with_reducible refine (comPart_foldl _ _ _ (fun _ _ => ?_)).trans ?_) | (simp; done) | split | (rw [comPart_mk, comPart_fold]))); done)
  | ((repeat' split) <;> first | (simp; done) | with_reducible rfl)
  | (refine comPart_foldl _ _ _ (fun a x => ?_); (repeat' split) <;> first | (simp; done) | with_reducible rfl)
  | ((try dsimp only); rw [comPart_foldl] <;> first | (intro a x; (repeat' split) <;> first | (simp; done) | with_reducible rfl) | ((repeat' split) <;> first | (simp; done) | with_reducible rfl))
  | ((try dsimp only); (repeat' split) <;> first | (simp; done) | with_reducible rfl)
  | ((repeat' (with_reducible refine comPart_ite ?_ ?_)) <;> first | (simp; done) | with_reducible rfl)
  | ((repeat' split) <;> first
      | (simp; done)
      | with_reducible rfl
      | (refine comPart_foldl _ _ _ (fun a x => ?_); (repeat' split) <;> first | (simp; done) | with_reducible rfl)
      | ((try dsimp only); rw [comPart_foldl] <;> first | (intro a x; (repeat' split) <;> first | (simp; done) | with_reducible rfl) | ((repeat' split) <;> first | (simp; done) | with_reducible rfl)))

@[simp↓] theorem comPart_latchGrp (s : State) (g : Nat) : comPart (State.latchGrp s g) = comPart s := by
  unfold State.latchGrp
  first
  | ((try dsimp only); (repeat' (first | with_reducible rfl | (with_reducible refine (comPart_foldl _ _ _ (fun _ _ => ?_)).trans ?_) | (simp; done) | split | (rw [comPart_mk, comPart_fold]))); done)
  | ((repeat' split) <;> first | (simp; done) | with_reducible rfl)
  | (refine comPart_foldl _ _ _ (fun a x => ?_); (repeat' split) <;> first | (simp; done) | with_reducible rfl)
  | ((try dsimp only); rw [comPart_foldl] <;> first | (intro a x; (repeat' split) <;> first | (simp; done) | with_reducible rfl) | ((repeat' split) <;> first | (simp; done) | with_reducible rfl))
  | ((try dsimp only); (repeat' split) <;> first | (simp; done) | with_reducible rfl)
  | ((repeat' (with_reducible refine comPart_ite ?_ ?_)) <;> first | (simp; done) | with_reducible rfl)
  | ((repeat' split) <;> first
      | (simp; done)
      | with_reducible rfl
      | (refine comPart_foldl _ _ _ (fun a x => ?_); (repeat' split) <;> first | (simp; done) | with_reducible rfl)
      | ((try dsimp only); rw [comPart_foldl] <;> first | (intro a x; (repeat' split) <;> first | (simp; done) | with_reducible rfl) | ((repeat' split) <;> first | (simp; done) | with_reducible rfl)))

@[simp↓] theorem comPart_latchLocal (s : State) : comPart (State.latchLocal s) = comPart s := by
  unfold State.latchLocal
  first
  | ((try dsimp only); (repeat' (first | with_reducible rfl | (with_reducible refine (comPart_foldl _ _ _ (fun _ _ => ?_)).trans ?_) | (simp; done) | split | (rw [comPart_mk, comPart_fold]))); done)
  | ((repeat' split) <;> first | (simp; done) | with_reducible rfl)
  | (refine comPart_foldl _ _ _ (fun a x => ?_); (repeat' split) <;> first | (simp; done) | with_reducible rfl)
  | ((try dsimp only); rw [comPart_foldl] <;> first | (intro a x; (repeat' split) <;> first | (simp; done) | with_reducible rfl) | ((repeat' split) <;> first | (simp; done) | with_reducible rfl))
  | ((try dsimp only); (repeat' split) <;> first | (simp; done) | with_reducible rfl)
  | ((repeat' (with_reducible refine comPart_ite ?_ ?_)) <;> first | (simp; done) | with_reducible rfl)
  | ((repeat' split) <;> first
      | (simp; done)
      | with_reducible rfl
      | (refine comPart_foldl _ _ _ (fun a x => ?_); (repeat' split) <;> first | (simp; done) | with_reducible rfl)
      | ((try dsimp only); rw [comPart_foldl] <;> first | (intro a x; (repeat' split) <;> first | (simp; done) | with_reducible rfl) | ((repeat' split) <;> first | (simp; done) | with_reducible rfl)))

@[simp↓] theorem comPart_queueMode (s : State) (c : Nat) (m : Nat) : comPart (State.queueMode s c m) = comPart s := by
  unfold State.queueMode
  first
  | ((try dsimp only); (repeat' (first | with_reducible rfl | (with_reducible refine (comPart_foldl _ _ _ (fun _ _ => ?_)).trans ?_) | (simp; done) | split | (rw [comPart_mk, comPart_fold]))); done)
  | ((repeat' split) <;> first | (simp; done) | with_reducible rfl)
  | (refine comPart_foldl _ _ _ (fun a x => ?_); (repeat' split) <;> first | (simp; done) | with_reducible rfl)
  | ((try dsimp only); rw [comPart_foldl] <;> first | (intro a x; (repeat' split) <;> first | (simp; done) | with_reducible rfl) | ((repeat' split) <;> first | (simp; done) | with_reducible rfl))
  | ((try dsimp only); (repeat' split) <;> first | (simp; done) | with_reducible rfl)
  | ((repeat' (with_reducible refine comPart_ite ?_ ?_)) <;> first | (simp; done) | with_reducible rfl)
  | ((repeat' split) <;> first
      | (simp; done)
      | with_reducible rfl
      | (refine comPart_foldl _ _ _ (fun a x => ?_); (repeat' split) <;> first | (simp; done) | with_reducible rfl)
      | ((try dsimp only); rw [comPart_foldl] <;> first | (intro a x; (repeat' split) <;> first | (simp; done) | with_reducible rfl) | ((repeat' split) <;> first | (simp; done) | with_reducible rfl)))

@[simp↓] theorem comPart_queueRange (s : State) (a : Nat) (m : Nat) : comPart (State.queueRange s a m) = comPart s := by
  unfold State.queueRange
  first
  | ((try dsimp only); (repeat' (first | with_reducible rfl | (with_reducible refine (comPart_foldl _ _ _ (fun _ _ => ?_)).trans ?_) | (simp; done) | split | (rw [comPart_mk, comPart_fold]))); done)
  | ((repeat' split) <;> first | (simp; done) | with_reducible rfl)
  | (refine comPart_foldl _ _ _ (fun a x => ?_); (repeat' split) <;> first | (simp; done) | with_reducible rfl)
  | ((try dsimp only); rw [comPart_foldl] <;> first | (intro a x; (repeat' split) <;> first | (simp; done) | with_reducible rfl) | ((repeat' split) <;> first | (simp; done) | with_reducible rfl))
  | ((try dsimp only); (repeat' split) <;> first | (simp; done) | with_reducible rfl)
  | ((repeat' (with_reducible refine comPart_ite ?_ ?_)) <;> first | (simp; done) | with_reducible rfl)
  | ((repeat' split) <;> first
      | (simp; done)
      | with_reducible rfl
      | (refine comPart_foldl _ _ _ (fun a x => ?_); (repeat' split) <;> first | (simp; done) | with_reducible rfl)
      | ((try dsimp only); rw [comPart_foldl] <;> first | (intro a x; (repeat' split) <;> first | (simp; done) | with_reducible rfl) | ((repeat' split) <;> first | (simp; done) | with_reducible rfl)))

@[simp↓] theorem comPart_setCanCh (s : State) (c : Nat) (v : CanCh) : comPart (State.setCanCh s c v) = comPart s := by
  unfold State.setCanCh
  first
  | ((try dsimp only); (repeat' (first | with_reducible rfl | (with_reducible refine (comPart_foldl _ _ _ (fun _ _ => ?_)).trans ?_) | (simp; done) | split | (rw [comPart_mk, comPart_fold]))); done)
  | ((repeat' split) <;> first | (simp; done) | with_reducible rfl)
  | (refine comPart_foldl _ _ _ (fun a x => ?_); (repeat' split) <;> first | (simp; done) | with_reducible rfl)
  | ((try dsimp only); rw [comPart_foldl] <;> first | (intro a x; (repeat' split) <;> first | (simp; done) | with_reducible rfl) | ((repeat' split) <;> first | (simp; done) | with_reducible rfl))
  | ((try dsimp only); (repeat' split) <;> first | (simp; done) | with_reducible rfl)
  | ((repeat' (with_reducible refine comPart_ite ?_ ?_)) <;> first | (simp; done) | with_reducible rfl)
  | ((repeat' split) <;> first
      | (simp; done)
      | with_reducible rfl
      | (refine comPart_foldl _ _ _ (fun a x => ?_); (repeat' split) <;> first | (simp; done) | with_reducible rfl)
      | ((try dsimp only); rw [comPart_foldl] <;> first | (intro a x; (repeat' split) <;> first | (simp; done) | with_reducible rfl) | ((repeat' split) <;> first | (simp; done) | with_reducible rfl)))

@[simp↓] theorem comPart_setCanBuf (s : State) (c : Nat) (b : Nat) (v : CanBuf) : comPart (State.setCanBuf s c b v) = comPart s := by
  unfold State.setCanBuf
  first
  | ((try dsimp only); (repeat' (first | with_reducible rfl | (with_reducible refine (comPart_foldl _ _ _ (fun _ _ => ?_)).trans ?_) | (simp; done) | split | (rw [comPart_mk, comPart_fold]))); done)
  | ((repeat' split) <;> first | (simp; done) | with_reducible rfl)
  | (refine comPart_foldl _ _ _ (fun a x => ?_); (repeat' split) <;> first | (simp; done) | with_reducible rfl)
  | ((try dsimp only); rw [comPart_foldl] <;> first | (intro a x; (repeat' split) <;> first | (simp; done) | with_reducible rfl) | ((repeat' split) <;> first | (simp; done) | with_reducible rfl))
  | ((try dsimp only); (repeat' split) <;> first | (simp; done) | with_reducible rfl)
  | ((repeat' (with_reducible refine comPart_ite ?_ ?_)) <;> first | (simp; done) | with_reducible rfl)
  | ((repeat' split) <;> first
      | (simp; done)
      | with_reducible rfl
      | (refine comPart_foldl _ _ _ (fun a x => ?_); (repeat' split) <;> first | (simp; done) | with_reducible rfl)
      | ((try dsimp only); rw [comPart_foldl] <;> first | (intro a x; (repeat' split) <;> first | (simp; done) | with_reducible rfl) | ((repeat' split) <;> first | (simp; done) | with_reducible rfl)))

@[simp↓] theorem comPart_setCanPt (s : State) (p : Nat) (v : CanPt) : comPart (State.setCanPt s p v) = comPart s := by
  unfold State.setCanPt
  first
  | ((try dsimp only); (repeat' (first | with_reducible rfl | (with_reducible refine (comPart_foldl _ _ _ (fun _ _ => ?_)).trans ?_) | (simp; done) | split | (rw [comPart_mk, comPart_fold]))); done)
  | ((repeat' split) <;> first | (simp; done) | with_reducible rfl)
  | (refine comPart_foldl _ _ _ (fun a x => ?_); (repeat' split) <;> first | (simp; done) | with_reducible rfl)
  | ((try dsimp only); rw [comPart_foldl] <;> first | (intro a x; (repeat' split) <;> first | (simp; done) | with_reducible rfl) | ((repeat' split) <;> first | (simp; done) | with_reducible rfl))
  | ((try dsimp only); (repeat' split) <;> first | (simp; done) | with_reducible rfl)
  | ((repeat' (with_reducible refine comPart_ite ?_ ?_)) <;> first | (simp; done) | with_reducible rfl)
  | ((repeat' split) <;> first
      | (simp; done)
      | with_reducible rfl
      | (refine comPart_foldl _ _ _ (fun a x => ?_); (repeat' split) <;> first | (simp; done) | with_reducible rfl)
      | ((try dsimp only); rw [comPart_foldl] <;> first | (intro a x; (repeat' split) <;> first | (simp; done) | with_reducible rfl) | ((repeat' split) <;> first | (simp; done) | with_reducible rfl)))

@[simp↓] theorem comPart_canDiag (s : State) (p : Nat) (d : Nat) (on : Bool) : comPart (State.canDiag s p d on) = comPart s := by
  unfold State.canDiag
  first
  | ((try dsimp only); (repeat' (first | with_reducible rfl | (with_reducible refine (comPart_foldl _ _ _ (fun _ _ => ?_)).trans ?_) | (simp; done) | split | (rw [comPart_mk, comPart_fold]))); done)
  | ((repeat' split) <;> first | (simp; done) | with_reducible rfl)
  | (refine comPart_foldl _ _ _ (fun a x => ?_); (repeat' split) <;> first | (simp; done) | with_reducible rfl)
  | ((try dsimp only); rw [comPart_foldl] <;> first | (intro a x; (repeat' split) <;> first | (simp; done) | with_reducible rfl) | ((repeat' split) <;> first | (simp; done) | with_reducible rfl))
  | ((try dsimp only); (repeat' split) <;> first | (simp; done) | with_reducible rfl)
  | ((repeat' (with_reducible refine comPart_ite ?_ ?_)) <;> first | (simp; done) | with_reducible rfl)
  | ((repeat' split) <;> first
      | (simp; done)
      | with_reducible rfl
      | (refine comPart_foldl _ _ _ (fun a x => ?_); (repeat' split) <;> first | (simp; done) | with_reducible rfl)
      | ((try dsimp only); rw [comPart_foldl] <;> first | (intro a x; (repeat' split) <;> first | (simp; done) | with_reducible rfl) | ((repeat' split) <;> first | (simp; done) | with_reducible rfl)))

@[simp↓] theorem comPart_canStart (s : State) (c : Nat) : comPart (State.canStart s c) = comPart s := by
  unfold State.canStart
  first
  | ((try dsimp only); (repeat' (first | with_reducible rfl | (with_reducible refine (comPart_foldl _ _ _ (fun _ _ => ?_)).trans ?_) | (simp; done) | split | (rw [comPart_mk, comPart_fold]))); done)
  | ((repeat' split) <;> first | (simp; done) | with_reducible rfl)
  | (refine comPart_foldl _ _ _ (fun a x => ?_); (repeat' split) <;> first | (simp; done) | with_reducible rfl)
  | ((try dsimp only); rw [comPart_foldl] <;> first | (intro a x; (repeat' split) <;> first | (simp; done) | with_reducible rfl) | ((repeat' split) <;> first | (simp; done) | with_reducible rfl))
  | ((try dsimp only); (repeat' split) <;> first | (simp; done) | with_reducible rfl)
  | ((repeat' (with_reducible refine comPart_ite ?_ ?_)) <;> first | (simp; done) | with_reducible rfl)
  | ((repeat' split) <;> first
      | (simp; done)
      | with_reducible rfl
      | (refine comPart_foldl _ _ _ (fun a x => ?_); (repeat' split) <;> first | (simp; done) | with_reducible rfl)
      | ((try dsimp only); rw [comPart_foldl] <;> first | (intro a x; (repeat' split) <;> first | (simp; done) | with_reducible rfl) | ((repeat' split) <;> first | (simp; done) | with_reducible rfl)))

@[simp↓] theorem comPart_canHandleEnd (s : State) (c : Nat) (b : Nat) (outcome : Nat) : comPart (State.canHandleEnd s c b outcome) = comPart s := by
  unfold State.canHandleEnd
  first
  | ((try dsimp only); (repeat' (first | with_reducible rfl | (with_reducible refine (comPart_foldl _ _ _ (fun _ _ => ?_)).trans ?_) | (simp; done) | split | (rw [comPart_mk, comPart_fold]))); done)
  | ((repeat' split) <;> first | (simp; done) | with_reducible rfl)
  | (refine comPart_foldl _ _ _ (fun a x => ?_); (repeat' split) <;> first | (simp; done) | with_reducible rfl)
  | ((try dsimp only); rw [comPart_foldl] <;> first | (intro a x; (repeat' split) <;> first | (simp; done) | with_reducible rfl) | ((repeat' split) <;> first | (simp; done) | with_reducible rfl))
  | ((try dsimp only); (repeat' split) <;> first | (simp; done) | with_reducible rfl)
  | ((repeat' (with_reducible refine comPart_ite ?_ ?_)) <;> first | (simp; done) | with_reducible rfl)
  | ((repeat' split) <;> first
      | (simp; done)
      | with_reducible rfl
      | (refine comPart_foldl _ _ _ (fun a x => ?_); (repeat' split) <;> first | (simp; done) | with_reducible rfl)
      | ((try dsimp only); rw [comPart_foldl] <;> first | (intro a x; (repeat' split) <;> first | (simp; done) | with_reducible rfl) | ((repeat' split) <;> first | (simp; done) | with_reducible rfl)))

@[simp↓] theorem comPart_canEnd (s : State) (c : Nat) (b : Nat) (outcome : Nat) (late : Bool) : comPart (State.canEnd s c b outcome late) = comPart s := by
  unfold State.canEnd
  first
  | ((try dsimp only); (repeat' (first | with_reducible rfl | (with_reducible refine (comPart_foldl _ _ _ (fun _ _ => ?_)).trans ?_) | (simp; done) | split | (rw [comPart_mk, comPart_fold]))); done)
  | ((repeat' split) <;> first | (simp; done) | with_reducible rfl)
  | (refine comPart_foldl _ _ _ (fun a x => ?_); (repeat' split) <;> first | (simp; done) | with_reducible rfl)
  | ((try dsimp only); rw [comPart_foldl] <;> first | (intro a x; (repeat' split) <;> first | (simp; done) | with_reducible rfl) | ((repeat' split) <;> first | (simp; done) | with_reducible rfl))
  | ((try dsimp only); (repeat' split) <;> first | (simp; done) | with_reducible rfl)
  | ((repeat' (with_reducible refine comPart_ite ?_ ?_)) <;> first | (simp; done) | with_reducible rfl)
  | ((repeat' split) <;> first
      | (simp; done)
      | with_reducible rfl
      | (refine comPart_foldl _ _ _ (fun a x => ?_); (repeat' split) <;> first | (simp; done) | with_reducible rfl)
      | ((try dsimp only); rw [comPart_foldl] <;> first | (intro a x; (repeat' split) <;> first | (simp; done) | with_reducible rfl) | ((repeat' split) <;> first | (simp; done) | with_reducible rfl)))

@[simp↓] theorem comPart_canEndHost (s : State) (c : Nat) (outcome : Nat) (shots : Bool) : comPart (State.canEndHost s c outcome shots) = comPart s := by
  unfold State.canEndHost
  first
  | ((try dsimp only); (repeat' (first | with_reducible rfl | (with_reducible refine (comPart_foldl _ _ _ (fun _ _ => ?_)).trans ?_) | (simp; done) | split | (rw [comPart_mk, comPart_fold]))); done)
  | ((repeat' split) <;> first | (simp; done) | with_reducible rfl)
  | (refine comPart_foldl _ _ _ (fun a x => ?_); (repeat' split) <;> first | (simp; done) | with_reducible rfl)
  | ((try dsimp only); rw [comPart_foldl] <;> first | (intro a x; (repeat' split) <;> first | (simp; done) | with_reducible rfl) | ((repeat' split) <;> first | (simp; done) | with_reducible rfl))
  | ((try dsimp only); (repeat' split) <;> first | (simp; done) | with_reducible rfl)
  | ((repeat' (with_reducible refine comPart_ite ?_ ?_)) <;> first | (simp; done) | with_reducible rfl)
  | ((repeat' split) <;> first
      | (simp; done)
      | with_reducible rfl
      | (refine comPart_foldl _ _ _ (fun a x => ?_); (repeat' split) <;> first | (simp; done) | with_reducible rfl)
      | ((try dsimp only); rw [comPart_foldl] <;> first | (intro a x; (repeat' split) <;> first | (simp; done) | with_reducible rfl) | ((repeat' split) <;> first | (simp; done) | with_reducible rfl)))

@[simp↓] theorem comPart_canPtStatus (s : State) (c : Nat) (b : Nat) (p : Nat) (rx : Bool) : comPart (State.canPtStatus s c b p rx) = comPart s := by
  unfold State.canPtStatus
  first
  | ((try dsimp only); (repeat' (first | with_reducible rfl | (with_reducible refine (comPart_foldl _ _ _ (fun _ _ => ?_)).trans ?_) | (simp; done) | split | (rw [comPart_mk, comPart_fold]))); done)
  | ((repeat' split) <;> first | (simp; done) | with_reducible rfl)
  | (refine comPart_foldl _ _ _ (fun a x => ?_); (repeat' split) <;> first | (simp; done) | with_reducible rfl)
  | ((try dsimp only); rw [comPart_foldl] <;> first | (intro a x; (repeat' split) <;> first | (simp; done) | with_reducible rfl) | ((repeat' split) <;> first | (simp; done) | with_reducible rfl))
  | ((try dsimp only); (repeat' split) <;> first | (simp; done) | with_reducible rfl)
  | ((repeat' (with_reducible refine comPart_ite ?_ ?_)) <;> first | (simp; done) | with_reducible rfl)
  | ((repeat' split) <;> first
      | (simp; done)
      | with_reducible rfl
      | (refine comPart_foldl _ _ _ (fun a x => ?_); (repeat' split) <;> first | (simp; done) | with_reducible rfl)
      | ((try dsimp only); rw [comPart_foldl] <;> first | (intro a x; (repeat' split) <;> first | (simp; done) | with_reducible rfl) | ((repeat' split) <;> first | (simp; done) | with_reducible rfl)))

@[simp↓] theorem comPart_canStatuses (s : State) : comPart (State.canStatuses s) = comPart s := by
  unfold State.canStatuses
  first
  | ((try dsimp only); (repeat' (first | with_reducible rfl | (with_reducible refine (comPart_foldl _ _ _ (fun _ _ => ?_)).trans ?_) | (simp; done) | split | (rw [comPart_mk, comPart_fold]))); done)
  | ((repeat' split) <;> first | (simp; done) | with_reducible rfl)
  | (refine comPart_foldl _ _ _ (fun a x => ?_); (repeat' split) <;> first | (simp; done) | with_reducible rfl)
  | ((try dsimp only); rw [comPart_foldl] <;> first | (intro a x; (repeat' split) <;> first | (simp; done) | with_reducible rfl) | ((repeat' split) <;> first | (simp; done) | with_reducible rfl))
  | ((try dsimp only); (repeat' split) <;> first | (simp; done) | with_reducible rfl)
  | ((repeat' (with_reducible refine comPart_ite ?_ ?_)) <;> first | (simp; done) | with_reducible rfl)
  | ((repeat' split) <;> first
      | (simp; done)
      | with_reducible rfl
      | (refine comPart_foldl _ _ _ (fun a x => ?_); (repeat' split) <;> first | (simp; done) | with_reducible rfl)
      | ((try dsimp only); rw [comPart_foldl] <;> first | (intro a x; (repeat' split) <;> first | (simp; done) | with_reducible rfl) | ((repeat' split) <;> first | (simp; done) | with_reducible rfl)))

@[simp↓] theorem comPart_decodeSig (s : State) (f : CanFrame) (v : PVal) : comPart (State.decodeSig s f v) = comPart s := by
  unfold State.decodeSig
  first
  | ((try dsimp only); (repeat' (first | with_reducible rfl | (with_reducible refine (comPart_foldl _ _ _ (fun _ _ => ?_)).trans ?_) | (simp; done) | split | (rw [comPart_mk, comPart_fold]))); done)
  | ((repeat' split) <;> first | (simp; done) | with_reducible rfl)
  | (refine comPart_foldl _ _ _ (fun a x => ?_); (repeat' split) <;> first | (simp; done) | with_reducible rfl)
  | ((try dsimp only); rw [comPart_foldl] <;> first | (intro a x; (repeat' split) <;> first | (simp; done) | with_reducible rfl) | ((repeat' split) <;> first | (simp; done) | with_reducible rfl))
  | ((try dsimp only); (repeat' split) <;> first | (simp; done) | with_reducible rfl)
  | ((repeat' (with_reducible refine comPart_ite ?_ ?_)) <;> first | (simp; done) | with_reducible rfl)
  | ((repeat' split) <;> first
      | (simp; done)
      | with_reducible rfl
      | (refine comPart_foldl _ _ _ (fun a x => ?_); (repeat' split) <;> first | (simp; done) | with_reducible rfl)
      | ((try dsimp only); rw [comPart_foldl] <;> first | (intro a x; (repeat' split) <;> first | (simp; done) | with_reducible rfl) | ((repeat' split) <;> first | (simp; done) | with_reducible rfl)))

@[simp↓] theorem comPart_decodeBuf (s : State) (c : Nat) (b : Nat) : comPart (State.decodeBuf s c b) = comPart s := by
  unfold State.decodeBuf
  first
  | ((try dsimp only); (repeat' (first | with_reducible rfl | (with_reducible refine (comPart_foldl _ _ _ (fun _ _ => ?_)).trans ?_) | (simp; done) | split | (rw [comPart_mk, comPart_fold]))); done)
  | ((repeat' split) <;> first | (simp; done) | with_reducible rfl)
  | (refine comPart_foldl _ _ _ (fun a x => ?_); (repeat' split) <;> first | (simp; done) | with_reducible rfl)
  | ((try dsimp only); rw [comPart_foldl] <;> first | (intro a x; (repeat' split) <;> first | (simp; done) | with_reducible rfl) | ((repeat' split) <;> first | (simp; done) | with_reducible rfl))
  | ((try dsimp only); (repeat' split) <;> first | (simp; done) | with_reducible rfl)
  | ((repeat' (with_reducible refine comPart_ite ?_ ?_)) <;> first | (simp; done) | with_reducible rfl)
  | ((repeat' split) <;> first
      | (simp; done)
      | with_reducible rfl
      | (refine comPart_foldl _ _ _ (fun a x => ?_); (repeat' split) <;> first | (simp; done) | with_reducible rfl)
      | ((try dsimp only); rw [comPart_foldl] <;> first | (intro a x; (repeat' split) <;> first | (simp; done) | with_reducible rfl) | ((repeat' split) <;> first | (simp; done) | with_reducible rfl)))

@[simp↓] theorem comPart_canDecode (s : State) : comPart (State.canDecode s) = comPart s := by
  unfold State.canDecode
  first
  | ((try dsimp only); (repeat' (first | with_reducible rfl | (with_reducible refine (comPart_foldl _ _ _ (fun _ _ => ?_)).trans ?_) | (simp; done) | split | (rw [comPart_mk, comPart_fold]))); done)
  | ((repeat' split) <;> first | (simp; done) | with_reducible rfl)
  | (refine comPart_foldl _ _ _ (fun a x => ?_); (repeat' split) <;> first | (simp; done) | with_reducible rfl)
  | ((try dsimp only); rw [comPart_foldl] <;> first | (intro a x; (repeat' split) <;> first | (simp; done) | with_reducible rfl) | ((repeat' split) <;> first | (simp; done) | with_reducible rfl))
  | ((try dsimp only); (repeat' split) <;> first | (simp; done) | with_reducible rfl)
  | ((repeat' (with_reducible refine comPart_ite ?_ ?_)) <;> first | (simp; done) | with_reducible rfl)
  | ((repeat' split) <;> first
      | (simp; done)
      | with_reducible rfl
      | (refine comPart_foldl _ _ _ (fun a x => ?_); (repeat' split) <;> first | (simp; done) | with_reducible rfl)
      | ((try dsimp only); rw [comPart_foldl] <;> first | (intro a x; (repeat' split) <;> first | (simp; done) | with_reducible rfl) | ((repeat' split) <;> first | (simp; done) | with_reducible rfl)))

@[simp↓] theorem comPart_relatch (s : State) (old : State) : comPart (State.relatch s old) = comPart s := by
  unfold State.relatch
  first
  | ((try dsimp only); (repeat' (first | with_reducible rfl | (with_reducible refine (comPart_foldl _ _ _ (fun _ _ => ?_)).trans ?_) | (simp; done) | split | (rw [comPart_mk, comPart_fold]))); done)
  | ((repeat' split) <;> first | (simp; done) | with_reducible rfl)
  | (refine comPart_foldl _ _ _ (fun a x => ?_); (repeat' split) <;> first | (simp; done) | with_reducible rfl)
  | ((try dsimp only); rw [comPart_foldl] <;> first | (intro a x; (repeat' split) <;> first | (simp; done) | with_reducible rfl) | ((repeat' split) <;> first | (simp; done) | with_reducible rfl))
  | ((try dsimp only); (repeat' split) <;> first | (simp; done) | with_reducible rfl)
  | ((repeat' (with_reducible refine comPart_ite ?_ ?_)) <;> first | (simp; done) | with_reducible rfl)
  | ((repeat' split) <;> first
      | (simp; done)
      | with_reducible rfl
      | (refine comPart_foldl _ _ _ (fun a x => ?_); (repeat' split) <;> first | (simp; done) | with_reducible rfl)
      | ((try dsimp only); rw [comPart_foldl] <;> first | (intro a x; (repeat' split) <;> first | (simp; done) | with_reducible rfl) | ((repeat' split) <;> first | (simp; done) | with_reducible rfl)))

@[simp↓] theorem comPart_setTask (s : State) (t : Nat) (v : TaskSt) : comPart (State.setTask s t v) = comPart s := by
  unfold State.setTask
  first
  | ((try dsimp only); (repeat' (first | with_reducible rfl | (with_reducible refine (comPart_foldl _ _ _ (fun _ _ => ?_)).trans ?_) | (simp; done) | split | (rw [comPart_mk, comPart_fold]))); done)
  | ((repeat' split) <;> first | (simp; done) | with_reducible rfl)
  | (refine comPart_foldl _ _ _ (fun a x => ?_); (repeat' split) <;> first | (simp; done) | with_reducible rfl)
  | ((try dsimp only); rw [comPart_foldl] <;> first | (intro a x; (repeat' split) <;> first | (simp; done) | with_reducible rfl) | ((repeat' split) <;> first | (simp; done) | with_reducible rfl))
  | ((try dsimp only); (repeat' split) <;> first | (simp; done) | with_reducible rfl)
  | ((repeat' (with_reducible refine comPart_ite ?_ ?_)) <;> first | (simp; done) | with_reducible rfl)
  | ((repeat' split) <;> first
      | (simp; done)
      | with_reducible rfl
      | (refine comPart_foldl _ _ _ (fun a x => ?_); (repeat' split) <;> first | (simp; done) | with_reducible rfl)
      | ((try dsimp only); rw [comPart_foldl] <;> first | (intro a x; (repeat' split) <;> first | (simp; done) | with_reducible rfl) | ((repeat' split) <;> first | (simp; done) | with_reducible rfl)))

@[simp↓] theorem comPart_adoptTasks (s : State) : comPart (State.adoptTasks s) = comPart s := by
  unfold State.adoptTasks
  first
  | ((try dsimp only); (repeat' (first | with_reducible rfl | (with_reducible refine (comPart_foldl _ _ _ (fun _ _ => ?_)).trans ?_) | (simp; done) | split | (rw [comPart_mk, comPart_fold]))); done)
  | ((repeat' split) <;> first | (simp; done) | with_reducible rfl)
  | (refine comPart_foldl _ _ _ (fun a x => ?_); (repeat' split) <;> first | (simp; done) | with_reducible rfl)
  | ((try dsimp only); rw [comPart_foldl] <;> first | (intro a x; (repeat' split) <;> first | (simp; done) | with_reducible rfl) | ((repeat' split) <;> first | (simp; done) | with_reducible rfl))
  | ((try dsimp only); (repeat' split) <;> first | (simp; done) | with_reducible rfl)
  | ((repeat' (with_reducible refine comPart_ite ?_ ?_)) <;> first | (simp; done) | with_reducible rfl)
  | ((repeat' split) <;> first
      | (simp; done)
      | with_reducible rfl
      | (refine comPart_foldl _ _ _ (fun a x => ?_); (repeat' split) <;> first | (simp; done) | with_reducible rfl)
      | ((try dsimp only); rw [comPart_foldl] <;> first | (intro a x; (repeat' split) <;> first | (simp; done) | with_reducible rfl) | ((repeat' split) <;> first | (simp; done) | with_reducible rfl)))

@[simp↓] theorem comPart_setStn (s : State) (n : Nat) (v : Stn) : comPart (State.setStn s n v) = comPart s := by
  unfold State.setStn
  first
  | ((try dsimp only); (repeat' (first | with_reducible rfl | (with_reducible refine (comPart_foldl _ _ _ (fun _ _ => ?_)).trans ?_) | (simp; done) | split | (rw [comPart_mk, comPart_fold]))); done)
  | ((repeat' split) <;> first | (simp; done) | with_reducible rfl)
  | (refine comPart_foldl _ _ _ (fun a x => ?_); (repeat' split) <;> first | (simp; done) | with_reducible rfl)
  | ((try dsimp only); rw [comPart_foldl] <;> first | (intro a x; (repeat' split) <;> first | (simp; done) | with_reducible rfl) | ((repeat' split) <;> first | (simp; done) | with_reducible rfl))
  | ((try dsimp only); (repeat' split) <;> first | (simp; done) | with_reducible rfl)
  | ((repeat' (with_reducible refine comPart_ite ?_ ?_)) <;> first | (simp; done) | with_reducible rfl)
  | ((repeat' split) <;> first
      | (simp; done)
      | with_reducible rfl
      | (refine comPart_foldl _ _ _ (fun a x => ?_); (repeat' split) <;> first | (simp; done) | with_reducible rfl)
      | ((try dsimp only); rw [comPart_foldl] <;> first | (intro a x; (repeat' split) <;> first | (simp; done) | with_reducible rfl) | ((repeat' split) <;> first | (simp; done) | with_reducible rfl)))

@[simp↓] theorem comPart_mapStnPts (s : State) (n : Nat) (f : Nat → Point → Point) : comPart (State.mapStnPts s n f) = comPart s := by
  unfold State.mapStnPts
  first
  | ((try dsimp only); (repeat' (first | with_reducible rfl | (with_reducible refine (comPart_foldl _ _ _ (fun _ _ => ?_)).trans ?_) | (simp; done) | split | (rw [comPart_mk, comPart_fold]))); done)
  | ((repeat' split) <;> first | (simp; done) | with_reducible rfl)
  | (refine comPart_foldl _ _ _ (fun a x => ?_); (repeat' split) <;> first | (simp; done) | with_reducible rfl)
  | ((try dsimp only); rw [comPart_foldl] <;> first | (intro a x; (repeat' split) <;> first | (simp; done) | with_reducible rfl) | ((repeat' split) <;> first | (simp; done) | with_reducible rfl))
  | ((try dsimp only); (repeat' split) <;> first | (simp; done) | with_reducible rfl)
  | ((repeat' (with_reducible refine comPart_ite ?_ ?_)) <;> first | (simp; done) | with_reducible rfl)
  | ((repeat' split) <;> first
      | (simp; done)
      | with_reducible rfl
      | (refine comPart_foldl _ _ _ (fun a x => ?_); (repeat' split) <;> first | (simp; done) | with_reducible rfl)
      | ((try dsimp only); rw [comPart_foldl] <;> first | (intro a x; (repeat' split) <;> first | (simp; done) | with_reducible rfl) | ((repeat' split) <;> first | (simp; done) | with_reducible rfl)))

@[simp↓] theorem comPart_followRail (s : State) : comPart (State.followRail s) = comPart s := by
  unfold State.followRail
  first
  | ((try dsimp only); (repeat' (first | with_reducible rfl | (with_reducible refine (comPart_foldl _ _ _ (fun _ _ => ?_)).trans ?_) | (simp; done) | split | (rw [comPart_mk, comPart_fold]))); done)
  | ((repeat' split) <;> first | (simp; done) | with_reducible rfl)
  | (refine comPart_foldl _ _ _ (fun a x => ?_); (repeat' split) <;> first | (simp; done) | with_reducible rfl)
  | ((try dsimp only); rw [comPart_foldl] <;> first | (intro a x; (repeat' split) <;> first | (simp; done) | with_reducible rfl) | ((repeat' split) <;> first | (simp; done) | with_reducible rfl))
  | ((try dsimp only); (repeat' split) <;> first | (simp; done) | with_reducible rfl)
  | ((repeat' (with_reducible refine comPart_ite ?_ ?_)) <;> first | (simp; done) | with_reducible rfl)
  | ((repeat' split) <;> first
      | (simp; done)
      | with_reducible rfl
      | (refine comPart_foldl _ _ _ (fun a x => ?_); (repeat' split) <;> first | (simp; done) | with_reducible rfl)
      | ((try dsimp only); rw [comPart_foldl] <;> first | (intro a x; (repeat' split) <;> first | (simp; done) | with_reducible rfl) | ((repeat' split) <;> first | (simp; done) | with_reducible rfl)))

@[simp↓] theorem comPart_govCommitted (s : State) : comPart (State.govCommitted s) = comPart s := by
  unfold State.govCommitted
  first
  | ((try dsimp only); (repeat' (first | with_reducible rfl | (with_reducible refine (comPart_foldl _ _ _ (fun _ _ => ?_)).trans ?_) | (simp; done) | split | (rw [comPart_mk, comPart_fold]))); done)
  | ((repeat' split) <;> first | (simp; done) | with_reducible rfl)
  | (refine comPart_foldl _ _ _ (fun a x => ?_); (repeat' split) <;> first | (simp; done) | with_reducible rfl)
  | ((try dsimp only); rw [comPart_foldl] <;> first | (intro a x; (repeat' split) <;> first | (simp; done) | with_reducible rfl) | ((repeat' split) <;> first | (simp; done) | with_reducible rfl))
  | ((try dsimp only); (repeat' split) <;> first | (simp; done) | with_reducible rfl)
  | ((repeat' (with_reducible refine comPart_ite ?_ ?_)) <;> first | (simp; done) | with_reducible rfl)
  | ((repeat' split) <;> first
      | (simp; done)
      | with_reducible rfl
      | (refine comPart_foldl _ _ _ (fun a x => ?_); (repeat' split) <;> first | (simp; done) | with_reducible rfl)
      | ((try dsimp only); rw [comPart_foldl] <;> first | (intro a x; (repeat' split) <;> first | (simp; done) | with_reducible rfl) | ((repeat' split) <;> first | (simp; done) | with_reducible rfl)))

@[simp↓] theorem comPart_refreshBounds (s : State) : comPart (State.refreshBounds s) = comPart s := by
  unfold State.refreshBounds
  first
  | ((try dsimp only); (repeat' (first | with_reducible rfl | (with_reducible refine (comPart_foldl _ _ _ (fun _ _ => ?_)).trans ?_) | (simp; done) | split | (rw [comPart_mk, comPart_fold]))); done)
  | ((repeat' split) <;> first | (simp; done) | with_reducible rfl)
  | (refine comPart_foldl _ _ _ (fun a x => ?_); (repeat' split) <;> first | (simp; done) | with_reducible rfl)
  | ((try dsimp only); rw [comPart_foldl] <;> first | (intro a x; (repeat' split) <;> first | (simp; done) | with_reducible rfl) | ((repeat' split) <;> first | (simp; done) | with_reducible rfl))
  | ((try dsimp only); (repeat' split) <;> first | (simp; done) | with_reducible rfl)
  | ((repeat' (with_reducible refine comPart_ite ?_ ?_)) <;> first | (simp; done) | with_reducible rfl)
  | ((repeat' split) <;> first
      | (simp; done)
      | with_reducible rfl
      | (refine comPart_foldl _ _ _ (fun a x => ?_); (repeat' split) <;> first | (simp; done) | with_reducible rfl)
      | ((try dsimp only); rw [comPart_foldl] <;> first | (intro a x; (repeat' split) <;> first | (simp; done) | with_reducible rfl) | ((repeat' split) <;> first | (simp; done) | with_reducible rfl)))

@[simp↓] theorem comPart_setLane (s : State) (l : Nat) (v : Lane) : comPart (State.setLane s l v) = comPart s := by
  unfold State.setLane
  first
  | ((try dsimp only); (repeat' (first | with_reducible rfl | (with_reducible refine (comPart_foldl _ _ _ (fun _ _ => ?_)).trans ?_) | (simp; done) | split | (rw [comPart_mk, comPart_fold]))); done)
  | ((repeat' split) <;> first | (simp; done) | with_reducible rfl)
  | (refine comPart_foldl _ _ _ (fun a x => ?_); (repeat' split) <;> first | (simp; done) | with_reducible rfl)
  | ((try dsimp only); rw [comPart_foldl] <;> first | (intro a x; (repeat' split) <;> first | (simp; done) | with_reducible rfl) | ((repeat' split) <;> first | (simp; done) | with_reducible rfl))
  | ((try dsimp only); (repeat' split) <;> first | (simp; done) | with_reducible rfl)
  | ((repeat' (with_reducible refine comPart_ite ?_ ?_)) <;> first | (simp; done) | with_reducible rfl)
  | ((repeat' split) <;> first
      | (simp; done)
      | with_reducible rfl
      | (refine comPart_foldl _ _ _ (fun a x => ?_); (repeat' split) <;> first | (simp; done) | with_reducible rfl)
      | ((try dsimp only); rw [comPart_foldl] <;> first | (intro a x; (repeat' split) <;> first | (simp; done) | with_reducible rfl) | ((repeat' split) <;> first | (simp; done) | with_reducible rfl)))

@[simp↓] theorem comPart_refreshPeriod (s : State) : comPart (State.refreshPeriod s) = comPart s := by
  have key : ∀ (f : State → PercSt), comPart { s with perc := f s } = comPart s := fun _ => rfl
  unfold State.refreshPeriod
  split
  · exact key (fun s => { s.perc with effPeriodMs := _, periodRaised := false })
  · dsimp only
    split
    · exact key (fun s => { s.perc with effPeriodMs := _, periodRaised := false })
    · generalize percTime _ _ _ = n
      generalize (n + 79999999) / 80000000 * 100 = m
      exact key (fun s => { s.perc with effPeriodMs := m, periodRaised := true })

@[simp↓] theorem comPart_copyDrip (s : State) : comPart (State.copyDrip s) = comPart s := by
  unfold State.copyDrip
  first
  | ((try dsimp only); (repeat' (first | with_reducible rfl | (with_reducible refine (comPart_foldl _ _ _ (fun _ _ => ?_)).trans ?_) | (simp; done) | split | (rw [comPart_mk, comPart_fold]))); done)
  | ((repeat' split) <;> first | (simp; done) | with_reducible rfl)
  | (refine comPart_foldl _ _ _ (fun a x => ?_); (repeat' split) <;> first | (simp; done) | with_reducible rfl)
  | ((try dsimp only); rw [comPart_foldl] <;> first | (intro a x; (repeat' split) <;> first | (simp; done) | with_reducible rfl) | ((repeat' split) <;> first | (simp; done) | with_reducible rfl))
  | ((try dsimp only); (repeat' split) <;> first | (simp; done) | with_reducible rfl)
  | ((repeat' (with_reducible refine comPart_ite ?_ ?_)) <;> first | (simp; done) | with_reducible rfl)
  | ((repeat' split) <;> first
      | (simp; done)
      | with_reducible rfl
      | (refine comPart_foldl _ _ _ (fun a x => ?_); (repeat' split) <;> first | (simp; done) | with_reducible rfl)
      | ((try dsimp only); rw [comPart_foldl] <;> first | (intro a x; (repeat' split) <;> first | (simp; done) | with_reducible rfl) | ((repeat' split) <;> first | (simp; done) | with_reducible rfl)))

@[simp↓] theorem comPart_pairCommitted (s : State) (old : State) : comPart (State.pairCommitted s old) = comPart s := by
  unfold State.pairCommitted
  first
  | ((try dsimp only); (repeat' (first | with_reducible rfl | (with_reducible refine (comPart_foldl _ _ _ (fun _ _ => ?_)).trans ?_) | (simp; done) | split | (rw [comPart_mk, comPart_fold]))); done)
  | ((repeat' split) <;> first | (simp; done) | with_reducible rfl)
  | (refine comPart_foldl _ _ _ (fun a x => ?_); (repeat' split) <;> first | (simp; done) | with_reducible rfl)
  | ((try dsimp only); rw [comPart_foldl] <;> first | (intro a x; (repeat' split) <;> first | (simp; done) | with_reducible rfl) | ((repeat' split) <;> first | (simp; done) | with_reducible rfl))
  | ((try dsimp only); (repeat' split) <;> first | (simp; done) | with_reducible rfl)
  | ((repeat' (with_reducible refine comPart_ite ?_ ?_)) <;> first | (simp; done) | with_reducible rfl)
  | ((repeat' split) <;> first
      | (simp; done)
      | with_reducible rfl
      | (refine comPart_foldl _ _ _ (fun a x => ?_); (repeat' split) <;> first | (simp; done) | with_reducible rfl)
      | ((try dsimp only); rw [comPart_foldl] <;> first | (intro a x; (repeat' split) <;> first | (simp; done) | with_reducible rfl) | ((repeat' split) <;> first | (simp; done) | with_reducible rfl)))

@[simp↓] theorem comPart_stnCommitted (s : State) (old : State) (n : Nat) : comPart (State.stnCommitted s old n) = comPart s := by
  unfold State.stnCommitted
  first
  | ((try dsimp only); (repeat' (first | with_reducible rfl | (with_reducible refine (comPart_foldl _ _ _ (fun _ _ => ?_)).trans ?_) | (simp; done) | split | (rw [comPart_mk, comPart_fold]))); done)
  | ((repeat' split) <;> first | (simp; done) | with_reducible rfl)
  | (refine comPart_foldl _ _ _ (fun a x => ?_); (repeat' split) <;> first | (simp; done) | with_reducible rfl)
  | ((try dsimp only); rw [comPart_foldl] <;> first | (intro a x; (repeat' split) <;> first | (simp; done) | with_reducible rfl) | ((repeat' split) <;> first | (simp; done) | with_reducible rfl))
  | ((try dsimp only); (repeat' split) <;> first | (simp; done) | with_reducible rfl)
  | ((repeat' (with_reducible refine comPart_ite ?_ ?_)) <;> first | (simp; done) | with_reducible rfl)
  | ((repeat' split) <;> first
      | (simp; done)
      | with_reducible rfl
      | (refine comPart_foldl _ _ _ (fun a x => ?_); (repeat' split) <;> first | (simp; done) | with_reducible rfl)
      | ((try dsimp only); rw [comPart_foldl] <;> first | (intro a x; (repeat' split) <;> first | (simp; done) | with_reducible rfl) | ((repeat' split) <;> first | (simp; done) | with_reducible rfl)))

@[simp↓] theorem comPart_stnsCommitted (s : State) (old : State) : comPart (State.stnsCommitted s old) = comPart s := by
  unfold State.stnsCommitted
  first
  | ((try dsimp only); (repeat' (first | with_reducible rfl | (with_reducible refine (comPart_foldl _ _ _ (fun _ _ => ?_)).trans ?_) | (simp; done) | split | (rw [comPart_mk, comPart_fold]))); done)
  | ((repeat' split) <;> first | (simp; done) | with_reducible rfl)
  | (refine comPart_foldl _ _ _ (fun a x => ?_); (repeat' split) <;> first | (simp; done) | with_reducible rfl)
  | ((try dsimp only); rw [comPart_foldl] <;> first | (intro a x; (repeat' split) <;> first | (simp; done) | with_reducible rfl) | ((repeat' split) <;> first | (simp; done) | with_reducible rfl))
  | ((try dsimp only); (repeat' split) <;> first | (simp; done) | with_reducible rfl)
  | ((repeat' (with_reducible refine comPart_ite ?_ ?_)) <;> first | (simp; done) | with_reducible rfl)
  | ((repeat' split) <;> first
      | (simp; done)
      | with_reducible rfl
      | (refine comPart_foldl _ _ _ (fun a x => ?_); (repeat' split) <;> first | (simp; done) | with_reducible rfl)
      | ((try dsimp only); rw [comPart_foldl] <;> first | (intro a x; (repeat' split) <;> first | (simp; done) | with_reducible rfl) | ((repeat' split) <;> first | (simp; done) | with_reducible rfl)))

@[simp↓] theorem comPart_destCommitted (s : State) (old : State) : comPart (State.destCommitted s old) = comPart s := by
  unfold State.destCommitted
  first
  | ((try dsimp only); (repeat' (first | with_reducible rfl | (with_reducible refine (comPart_foldl _ _ _ (fun _ _ => ?_)).trans ?_) | (simp; done) | split | (rw [comPart_mk, comPart_fold]))); done)
  | ((repeat' split) <;> first | (simp; done) | with_reducible rfl)
  | (refine comPart_foldl _ _ _ (fun a x => ?_); (repeat' split) <;> first | (simp; done) | with_reducible rfl)
  | ((try dsimp only); rw [comPart_foldl] <;> first | (intro a x; (repeat' split) <;> first | (simp; done) | with_reducible rfl) | ((repeat' split) <;> first | (simp; done) | with_reducible rfl))
  | ((try dsimp only); (repeat' split) <;> first | (simp; done) | with_reducible rfl)
  | ((repeat' (with_reducible refine comPart_ite ?_ ?_)) <;> first | (simp; done) | with_reducible rfl)
  | ((repeat' split) <;> first
      | (simp; done)
      | with_reducible rfl
      | (refine comPart_foldl _ _ _ (fun a x => ?_); (repeat' split) <;> first | (simp; done) | with_reducible rfl)
      | ((try dsimp only); rw [comPart_foldl] <;> first | (intro a x; (repeat' split) <;> first | (simp; done) | with_reducible rfl) | ((repeat' split) <;> first | (simp; done) | with_reducible rfl)))

@[simp↓] theorem comPart_modesCommitted (s : State) (old : State) : comPart (State.modesCommitted s old) = comPart s := by
  unfold State.modesCommitted
  first
  | ((try dsimp only); (repeat' (first | with_reducible rfl | (with_reducible refine (comPart_foldl _ _ _ (fun _ _ => ?_)).trans ?_) | (simp; done) | split | (rw [comPart_mk, comPart_fold]))); done)
  | ((repeat' split) <;> first | (simp; done) | with_reducible rfl)
  | (refine comPart_foldl _ _ _ (fun a x => ?_); (repeat' split) <;> first | (simp; done) | with_reducible rfl)
  | ((try dsimp only); rw [comPart_foldl] <;> first | (intro a x; (repeat' split) <;> first | (simp; done) | with_reducible rfl) | ((repeat' split) <;> first | (simp; done) | with_reducible rfl))
  | ((try dsimp only); (repeat' split) <;> first | (simp; done) | with_reducible rfl)
  | ((repeat' (with_reducible refine comPart_ite ?_ ?_)) <;> first | (simp; done) | with_reducible rfl)
  | ((repeat' split) <;> first
      | (simp; done)
      | with_reducible rfl
      | (refine comPart_foldl _ _ _ (fun a x => ?_); (repeat' split) <;> first | (simp; done) | with_reducible rfl)
      | ((try dsimp only); rw [comPart_foldl] <;> first | (intro a x; (repeat' split) <;> first | (simp; done) | with_reducible rfl) | ((repeat' split) <;> first | (simp; done) | with_reducible rfl)))

@[simp↓] theorem comPart_rangesCommitted (s : State) (old : State) : comPart (State.rangesCommitted s old) = comPart s := by
  unfold State.rangesCommitted
  first
  | ((try dsimp only); (repeat' (first | with_reducible rfl | (with_reducible refine (comPart_foldl _ _ _ (fun _ _ => ?_)).trans ?_) | (simp; done) | split | (rw [comPart_mk, comPart_fold]))); done)
  | ((repeat' split) <;> first | (simp; done) | with_reducible rfl)
  | (refine comPart_foldl _ _ _ (fun a x => ?_); (repeat' split) <;> first | (simp; done) | with_reducible rfl)
  | ((try dsimp only); rw [comPart_foldl] <;> first | (intro a x; (repeat' split) <;> first | (simp; done) | with_reducible rfl) | ((repeat' split) <;> first | (simp; done) | with_reducible rfl))
  | ((try dsimp only); (repeat' split) <;> first | (simp; done) | with_reducible rfl)
  | ((repeat' (with_reducible refine comPart_ite ?_ ?_)) <;> first | (simp; done) | with_reducible rfl)
  | ((repeat' split) <;> first
      | (simp; done)
      | with_reducible rfl
      | (refine comPart_foldl _ _ _ (fun a x => ?_); (repeat' split) <;> first | (simp; done) | with_reducible rfl)
      | ((try dsimp only); rw [comPart_foldl] <;> first | (intro a x; (repeat' split) <;> first | (simp; done) | with_reducible rfl) | ((repeat' split) <;> first | (simp; done) | with_reducible rfl)))

@[simp↓] theorem comPart_canCommitted (s : State) (old : State) (c : Nat) : comPart (State.canCommitted s old c) = comPart s := by
  unfold State.canCommitted
  first
  | ((try dsimp only); (repeat' (first | with_reducible rfl | (with_reducible refine (comPart_foldl _ _ _ (fun _ _ => ?_)).trans ?_) | (simp; done) | split | (rw [comPart_mk, comPart_fold]))); done)
  | ((repeat' split) <;> first | (simp; done) | with_reducible rfl)
  | (refine comPart_foldl _ _ _ (fun a x => ?_); (repeat' split) <;> first | (simp; done) | with_reducible rfl)
  | ((try dsimp only); rw [comPart_foldl] <;> first | (intro a x; (repeat' split) <;> first | (simp; done) | with_reducible rfl) | ((repeat' split) <;> first | (simp; done) | with_reducible rfl))
  | ((try dsimp only); (repeat' split) <;> first | (simp; done) | with_reducible rfl)
  | ((repeat' (with_reducible refine comPart_ite ?_ ?_)) <;> first | (simp; done) | with_reducible rfl)
  | ((repeat' split) <;> first
      | (simp; done)
      | with_reducible rfl
      | (refine comPart_foldl _ _ _ (fun a x => ?_); (repeat' split) <;> first | (simp; done) | with_reducible rfl)
      | ((try dsimp only); rw [comPart_foldl] <;> first | (intro a x; (repeat' split) <;> first | (simp; done) | with_reducible rfl) | ((repeat' split) <;> first | (simp; done) | with_reducible rfl)))

@[simp↓] theorem comPart_mapCommitted (s : State) (old : State) : comPart (State.mapCommitted s old) = comPart s := by
  unfold State.mapCommitted
  first
  | ((try dsimp only); (repeat' (first | with_reducible rfl | (with_reducible refine (comPart_foldl _ _ _ (fun _ _ => ?_)).trans ?_) | (simp; done) | split | (rw [comPart_mk, comPart_fold]))); done)
  | ((repeat' split) <;> first | (simp; done) | with_reducible rfl)
  | (refine comPart_foldl _ _ _ (fun a x => ?_); (repeat' split) <;> first | (simp; done) | with_reducible rfl)
  | ((try dsimp only); rw [comPart_foldl] <;> first | (intro a x; (repeat' split) <;> first | (simp; done) | with_reducible rfl) | ((repeat' split) <;> first | (simp; done) | with_reducible rfl))
  | ((try dsimp only); (repeat' split) <;> first | (simp; done) | with_reducible rfl)
  | ((repeat' (with_reducible refine comPart_ite ?_ ?_)) <;> first | (simp; done) | with_reducible rfl)
  | ((repeat' split) <;> first
      | (simp; done)
      | with_reducible rfl
      | (refine comPart_foldl _ _ _ (fun a x => ?_); (repeat' split) <;> first | (simp; done) | with_reducible rfl)
      | ((try dsimp only); rw [comPart_foldl] <;> first | (intro a x; (repeat' split) <;> first | (simp; done) | with_reducible rfl) | ((repeat' split) <;> first | (simp; done) | with_reducible rfl)))

@[simp↓] theorem comPart_laneCommitted (s : State) (old : State) (l : Nat) : comPart (State.laneCommitted s old l) = comPart s := by
  unfold State.laneCommitted
  first
  | ((try dsimp only); (repeat' (first | with_reducible rfl | (with_reducible refine (comPart_foldl _ _ _ (fun _ _ => ?_)).trans ?_) | (simp; done) | split | (rw [comPart_mk, comPart_fold]))); done)
  | ((repeat' split) <;> first | (simp; done) | with_reducible rfl)
  | (refine comPart_foldl _ _ _ (fun a x => ?_); (repeat' split) <;> first | (simp; done) | with_reducible rfl)
  | ((try dsimp only); rw [comPart_foldl] <;> first | (intro a x; (repeat' split) <;> first | (simp; done) | with_reducible rfl) | ((repeat' split) <;> first | (simp; done) | with_reducible rfl))
  | ((try dsimp only); (repeat' split) <;> first | (simp; done) | with_reducible rfl)
  | ((repeat' (with_reducible refine comPart_ite ?_ ?_)) <;> first | (simp; done) | with_reducible rfl)
  | ((repeat' split) <;> first
      | (simp; done)
      | with_reducible rfl
      | (refine comPart_foldl _ _ _ (fun a x => ?_); (repeat' split) <;> first | (simp; done) | with_reducible rfl)
      | ((try dsimp only); rw [comPart_foldl] <;> first | (intro a x; (repeat' split) <;> first | (simp; done) | with_reducible rfl) | ((repeat' split) <;> first | (simp; done) | with_reducible rfl)))

@[simp↓] theorem comPart_tasksCommitted (s : State) (old : State) : comPart (State.tasksCommitted s old) = comPart s := by
  unfold State.tasksCommitted
  first
  | ((try dsimp only); (repeat' (first | with_reducible rfl | (with_reducible refine (comPart_foldl _ _ _ (fun _ _ => ?_)).trans ?_) | (simp; done) | split | (rw [comPart_mk, comPart_fold]))); done)
  | ((repeat' split) <;> first | (simp; done) | with_reducible rfl)
  | (refine comPart_foldl _ _ _ (fun a x => ?_); (repeat' split) <;> first | (simp; done) | with_reducible rfl)
  | ((try dsimp only); rw [comPart_foldl] <;> first | (intro a x; (repeat' split) <;> first | (simp; done) | with_reducible rfl) | ((repeat' split) <;> first | (simp; done) | with_reducible rfl))
  | ((try dsimp only); (repeat' split) <;> first | (simp; done) | with_reducible rfl)
  | ((repeat' (with_reducible refine comPart_ite ?_ ?_)) <;> first | (simp; done) | with_reducible rfl)
  | ((repeat' split) <;> first
      | (simp; done)
      | with_reducible rfl
      | (refine comPart_foldl _ _ _ (fun a x => ?_); (repeat' split) <;> first | (simp; done) | with_reducible rfl)
      | ((try dsimp only); rw [comPart_foldl] <;> first | (intro a x; (repeat' split) <;> first | (simp; done) | with_reducible rfl) | ((repeat' split) <;> first | (simp; done) | with_reducible rfl)))

@[simp↓] theorem comPart_committed (s : State) (old : State) (g : Nat) (i : Nat) : comPart (State.committed s old g i) = comPart s := by
  unfold State.committed
  (repeat' (with_reducible refine comPart_ite ?_ ?_)) <;> first | (simp; done) | with_reducible rfl

/-- The parts `epoch`, `time.t0`, `time.running`, `prog.run.mode`, `prog.run.rt`, `perc.freeze`, `perc.freezeNext`. -/
def clkPart (s : State) := (s.epoch, s.time.t0, s.time.running, s.prog.run.mode, s.prog.run.rt, s.perc.freeze, s.perc.freezeNext)

@[simp] theorem clkPart_fold (s : State) : (s.epoch, s.time.t0, s.time.running, s.prog.run.mode, s.prog.run.rt, s.perc.freeze, s.perc.freezeNext) = clkPart s := rfl

@[simp↓] theorem clkPart_mk (epoch order ident host par lane prog model slv perc afe fed stn pts fio can net time key aud pair pwr rst drip past edge latch pending out free) : clkPart (State.mk epoch order ident host par lane prog model slv perc afe fed stn pts fio can net time key aud pair pwr rst drip past edge latch pending out free) = (epoch, time.t0, time.running, prog.run.mode, prog.run.rt, perc.freeze, perc.freezeNext) := rfl

theorem clkPart_silent {s t : State} (h : Silent s t) : clkPart t = clkPart s := by rw [h.rest]; rfl

theorem clkPart_ite {c : Prop} [Decidable c] {a b s : State} (ha : clkPart a = clkPart s) (hb : clkPart b = clkPart s) :
    clkPart (if c then a else b) = clkPart s := by
  split <;> assumption

theorem clkPart_foldl {α : Type} (l : List α) (f : State → α → State) (s : State) (h : ∀ a x, clkPart (f a x) = clkPart a) :
    clkPart (l.foldl f s) = clkPart s := by
  induction l generalizing s with
  | nil => rfl
  | cons x l ih => exact (ih _).trans (h s x)

@[simp↓] theorem clkPart_emit (s : State) (m : OutMsg) : clkPart (State.emit s m) = clkPart s := by
  exact clkPart_silent (silent_emit _ _)

@[simp↓] theorem clkPart_sendMsix (s : State) (v : Nat) : clkPart (State.sendMsix s v) = clkPart s := by
  exact clkPart_silent (silent_sendMsix _ _)

@[simp↓] theorem clkPart_syncDev (s : State) : clkPart (State.syncDev s) = clkPart s := by
  unfold State.syncDev
  first
  | ((try dsimp only); (repeat' (first | with_reducible rfl | (with_reducible refine (clkPart_foldl _ _ _ (fun _ _ => ?_)).trans ?_) | (simp; done) | split | (rw [clkPart_mk, clkPart_fold]))); done)
  | ((repeat' split) <;> first | (simp; done) | with_reducible rfl)
  | (refine clkPart_foldl _ _ _ (fun a x => ?_); (repeat' split) <;> first | (simp; done) | with_reducible rfl)
  | ((try dsimp only); rw [clkPart_foldl] <;> first | (intro a x; (repeat' split) <;> first | (simp; done) | with_reducible rfl) | ((repeat' split) <;> first | (simp; done) | with_reducible rfl))
  | ((try dsimp only); (repeat' split) <;> first | (simp; done) | with_reducible rfl)
  | ((repeat' (with_reducible refine clkPart_ite ?_ ?_)) <;> first | (simp; done) | with_reducible rfl)
  | ((repeat' split) <;> first
      | (simp; done)
      | with_reducible rfl
      | (refine clkPart_foldl _ _ _ (fun a x => ?_); (repeat' split) <;> first | (simp; done) | with_reducible rfl)
      | ((try dsimp only); rw [clkPart_foldl] <;> first | (intro a x; (repeat' split) <;> first | (simp; done) | with_reducible rfl) | ((repeat' split) <;> first | (simp; done) | with_reducible rfl)))

@[simp↓] theorem clkPart_setQueue (s : State) (n : Nat) (q : QPair) : clkPart (State.setQueue s n q) = clkPart s := by
  unfold State.setQueue
  first
  | ((try dsimp only); (repeat' (first | with_reducible rfl | (with_reducible refine (clkPart_foldl _ _ _ (fun _ _ => ?_)).trans ?_) | (simp; done) | split | (rw [clkPart_mk, clkPart_fold]))); done)
  | ((repeat' split) <;> first | (simp; done) | with_reducible rfl)
  | (refine clkPart_foldl _ _ _ (fun a x => ?_); (repeat' split) <;> first | (simp; done) | with_reducible rfl)
  | ((try dsimp only); rw [clkPart_foldl] <;> first | (intro a x; (repeat' split) <;> first | (simp; done) | with_reducible rfl) | ((repeat' split) <;> first | (simp; done) | with_reducible rfl))
  | ((try dsimp only); (repeat' split) <;> first | (simp; done) | with_reducible rfl)
  | ((repeat' (with_reducible refine clkPart_ite ?_ ?_)) <;> first | (simp; done) | with_reducible rfl)
  | ((repeat' split) <;> first
      | (simp; done)
      | with_reducible rfl
      | (refine clkPart_foldl _ _ _ (fun a x => ?_); (repeat' split) <;> first | (simp; done) | with_reducible rfl)
      | ((try dsimp only); rw [clkPart_foldl] <;> first | (intro a x; (repeat' split) <;> first | (simp; done) | with_reducible rfl) | ((repeat' split) <;> first | (simp; done) | with_reducible rfl)))

@[simp↓] theorem clkPart_setSess (s : State) (n : Nat) (v : Session) : clkPart (State.setSess s n v) = clkPart s := by
  unfold State.setSess
  first
  | ((try dsimp only); (repeat' (first | with_reducible rfl | (with_reducible refine (clkPart_foldl _ _ _ (fun _ _ => ?_)).trans ?_) | (simp; done) | split | (rw [clkPart_mk, clkPart_fold]))); done)
  | ((repeat' split) <;> first | (simp; done) | with_reducible rfl)
  | (refine clkPart_foldl _ _ _ (fun a x => ?_); (repeat' split) <;> first | (simp; done) | with_reducible rfl)
  | ((try dsimp only); rw [clkPart_foldl] <;> first | (intro a x; (repeat' split) <;> first | (simp; done) | with_reducible rfl) | ((repeat' split) <;> first | (simp; done) | with_reducible rfl))
  | ((try dsimp only); (repeat' split) <;> first | (simp; done) | with_reducible rfl)
  | ((repeat' (with_reducible refine clkPart_ite ?_ ?_)) <;> first | (simp; done) | with_reducible rfl)
  | ((repeat' split) <;> first
      | (simp; done)
      | with_reducible rfl
      | (refine clkPart_foldl _ _ _ (fun a x => ?_); (repeat' split) <;> first | (simp; done) | with_reducible rfl)
      | ((try dsimp only); rw [clkPart_foldl] <;> first | (intro a x; (repeat' split) <;> first | (simp; done) | with_reducible rfl) | ((repeat' split) <;> first | (simp; done) | with_reducible rfl)))

@[simp↓] theorem clkPart_auditPush (s : State) (r : AuditRec) : clkPart (State.auditPush s r) = clkPart s := by
  exact clkPart_silent (silent_auditPush _ _)

@[simp↓] theorem clkPart_postQueue (s : State) (n : Nat) (e : Entry) (data : List Byte) : clkPart (State.postQueue s n e data).1 = clkPart s := by
  exact clkPart_silent (silent_postQueue _ _ _ _)

@[simp↓] theorem clkPart_post (s : State) (dst : Src) (e : Entry) (data : List Byte) : clkPart (State.post s dst e data).1 = clkPart s := by
  exact clkPart_silent (silent_post _ _ _ _)

@[simp↓] theorem clkPart_freeHandle (s : State) (i : Nat) : clkPart (State.freeHandle s i) = clkPart s := by
  unfold State.freeHandle
  first
  | ((try dsimp only); (repeat' (first | with_reducible rfl | (with_reducible refine (clkPart_foldl _ _ _ (fun _ _ => ?_)).trans ?_) | (simp; done) | split | (rw [clkPart_mk, clkPart_fold]))); done)
  | ((repeat' split) <;> first | (simp; done) | with_reducible rfl)
  | (refine clkPart_foldl _ _ _ (fun a x => ?_); (repeat' split) <;> first | (simp; done) | with_reducible rfl)
  | ((try dsimp only); rw [clkPart_foldl] <;> first | (intro a x; (repeat' split) <;> first | (simp; done) | with_reducible rfl) | ((repeat' split) <;> first | (simp; done) | with_reducible rfl))
  | ((try dsimp only); (repeat' split) <;> first | (simp; done) | with_reducible rfl)
  | ((repeat' (with_reducible refine clkPart_ite ?_ ?_)) <;> first | (simp; done) | with_reducible rfl)
  | ((repeat' split) <;> first
      | (simp; done)
      | with_reducible rfl
      | (refine clkPart_foldl _ _ _ (fun a x => ?_); (repeat' split) <;> first | (simp; done) | with_reducible rfl)
      | ((try dsimp only); rw [clkPart_foldl] <;> first | (intro a x; (repeat' split) <;> first | (simp; done) | with_reducible rfl) | ((repeat' split) <;> first | (simp; done) | with_reducible rfl)))

@[simp↓] theorem clkPart_complete (s : State) (h : U32) (status : Nat) (detail : Nat) (data : List Byte) : clkPart (State.complete s h status detail data) = clkPart s := by
  unfold State.complete
  first
  | ((try dsimp only); (repeat' (first | with_reducible rfl | (with_reducible refine (clkPart_foldl _ _ _ (fun _ _ => ?_)).trans ?_) | (simp; done) | split | (rw [clkPart_mk, clkPart_fold]))); done)
  | ((repeat' split) <;> first | (simp; done) | with_reducible rfl)
  | (refine clkPart_foldl _ _ _ (fun a x => ?_); (repeat' split) <;> first | (simp; done) | with_reducible rfl)
  | ((try dsimp only); rw [clkPart_foldl] <;> first | (intro a x; (repeat' split) <;> first | (simp; done) | with_reducible rfl) | ((repeat' split) <;> first | (simp; done) | with_reducible rfl))
  | ((try dsimp only); (repeat' split) <;> first | (simp; done) | with_reducible rfl)
  | ((repeat' (with_reducible refine clkPart_ite ?_ ?_)) <;> first | (simp; done) | with_reducible rfl)
  | ((repeat' split) <;> first
      | (simp; done)
      | with_reducible rfl
      | (refine clkPart_foldl _ _ _ (fun a x => ?_); (repeat' split) <;> first | (simp; done) | with_reducible rfl)
      | ((try dsimp only); rw [clkPart_foldl] <;> first | (intro a x; (repeat' split) <;> first | (simp; done) | with_reducible rfl) | ((repeat' split) <;> first | (simp; done) | with_reducible rfl)))

@[simp↓] theorem clkPart_setPt (s : State) (p : Nat) (v : Point) : clkPart (State.setPt s p v) = clkPart s := by
  unfold State.setPt
  first
  | ((try dsimp only); (repeat' (first | with_reducible rfl | (with_reducible refine (clkPart_foldl _ _ _ (fun _ _ => ?_)).trans ?_) | (simp; done) | split | (rw [clkPart_mk, clkPart_fold]))); done)
  | ((repeat' split) <;> first | (simp; done) | with_reducible rfl)
  | (refine clkPart_foldl _ _ _ (fun a x => ?_); (repeat' split) <;> first | (simp; done) | with_reducible rfl)
  | ((try dsimp only); rw [clkPart_foldl] <;> first | (intro a x; (repeat' split) <;> first | (simp; done) | with_reducible rfl) | ((repeat' split) <;> first | (simp; done) | with_reducible rfl))
  | ((try dsimp only); (repeat' split) <;> first | (simp; done) | with_reducible rfl)
  | ((repeat' (with_reducible refine clkPart_ite ?_ ?_)) <;> first | (simp; done) | with_reducible rfl)
  | ((repeat' split) <;> first
      | (simp; done)
      | with_reducible rfl
      | (refine clkPart_foldl _ _ _ (fun a x => ?_); (repeat' split) <;> first | (simp; done) | with_reducible rfl)
      | ((try dsimp only); rw [clkPart_foldl] <;> first | (intro a x; (repeat' split) <;> first | (simp; done) | with_reducible rfl) | ((repeat' split) <;> first | (simp; done) | with_reducible rfl)))

@[simp↓] theorem clkPart_took (s : State) : clkPart (State.took s) = clkPart s := by
  unfold State.took
  first
  | ((try dsimp only); (repeat' (first | with_reducible rfl | (with_reducible refine (clkPart_foldl _ _ _ (fun _ _ => ?_)).trans ?_) | (simp; done) | split | (rw [clkPart_mk, clkPart_fold]))); done)
  | ((repeat' split) <;> first | (simp; done) | with_reducible rfl)
  | (refine clkPart_foldl _ _ _ (fun a x => ?_); (repeat' split) <;> first | (simp; done) | with_reducible rfl)
  | ((try dsimp only); rw [clkPart_foldl] <;> first | (intro a x; (repeat' split) <;> first | (simp; done) | with_reducible rfl) | ((repeat' split) <;> first | (simp; done) | with_reducible rfl))
  | ((try dsimp only); (repeat' split) <;> first | (simp; done) | with_reducible rfl)
  | ((repeat' (with_reducible refine clkPart_ite ?_ ?_)) <;> first | (simp; done) | with_reducible rfl)
  | ((repeat' split) <;> first
      | (simp; done)
      | with_reducible rfl
      | (refine clkPart_foldl _ _ _ (fun a x => ?_); (repeat' split) <;> first | (simp; done) | with_reducible rfl)
      | ((try dsimp only); rw [clkPart_foldl] <;> first | (intro a x; (repeat' split) <;> first | (simp; done) | with_reducible rfl) | ((repeat' split) <;> first | (simp; done) | with_reducible rfl)))

@[simp↓] theorem clkPart_closeEdge (s : State) : clkPart (State.closeEdge s) = clkPart s := by
  unfold State.closeEdge
  first
  | ((try dsimp only); (repeat' (first | with_reducible rfl | (with_reducible refine (clkPart_foldl _ _ _ (fun _ _ => ?_)).trans ?_) | (simp; done) | split | (rw [clkPart_mk, clkPart_fold]))); done)
  | ((repeat' split) <;> first | (simp; done) | with_reducible rfl)
  | (refine clkPart_foldl _ _ _ (fun a x => ?_); (repeat' split) <;> first | (simp; done) | with_reducible rfl)
  | ((try dsimp only); rw [clkPart_foldl] <;> first | (intro a x; (repeat' split) <;> first | (simp; done) | with_reducible rfl) | ((repeat' split) <;> first | (simp; done) | with_reducible rfl))
  | ((try dsimp only); (repeat' split) <;> first | (simp; done) | with_reducible rfl)
  | ((repeat' (with_reducible refine clkPart_ite ?_ ?_)) <;> first | (simp; done) | with_reducible rfl)
  | ((repeat' split) <;> first
      | (simp; done)
      | with_reducible rfl
      | (refine clkPart_foldl _ _ _ (fun a x => ?_); (repeat' split) <;> first | (simp; done) | with_reducible rfl)
      | ((try dsimp only); rw [clkPart_foldl] <;> first | (intro a x; (repeat' split) <;> first | (simp; done) | with_reducible rfl) | ((repeat' split) <;> first | (simp; done) | with_reducible rfl)))

@[simp↓] theorem clkPart_setPort (s : State) (p : Nat) (v : PortSt1) : clkPart (State.setPort s p v) = clkPart s := by
  unfold State.setPort
  first
  | ((try dsimp only); (repeat' (first | with_reducible rfl | (with_reducible refine (clkPart_foldl _ _ _ (fun _ _ => ?_)).trans ?_) | (simp; done) | split | (rw [clkPart_mk, clkPart_fold]))); done)
  | ((repeat' split) <;> first | (simp; done) | with_reducible rfl)
  | (refine clkPart_foldl _ _ _ (fun a x => ?_); (repeat' split) <;> first | (simp; done) | with_reducible rfl)
  | ((try dsimp only); rw [clkPart_foldl] <;> first | (intro a x; (repeat' split) <;> first | (simp; done) | with_reducible rfl) | ((repeat' split) <;> first | (simp; done) | with_reducible rfl))
  | ((try dsimp only); (repeat' split) <;> first | (simp; done) | with_reducible rfl)
  | ((repeat' (with_reducible refine clkPart_ite ?_ ?_)) <;> first | (simp; done) | with_reducible rfl)
  | ((repeat' split) <;> first
      | (simp; done)
      | with_reducible rfl
      | (refine clkPart_foldl _ _ _ (fun a x => ?_); (repeat' split) <;> first | (simp; done) | with_reducible rfl)
      | ((try dsimp only); rw [clkPart_foldl] <;> first | (intro a x; (repeat' split) <;> first | (simp; done) | with_reducible rfl) | ((repeat' split) <;> first | (simp; done) | with_reducible rfl)))

@[simp↓] theorem clkPart_updIsland (s : State) : clkPart (State.updIsland s) = clkPart s := by
  unfold State.updIsland
  first
  | ((try dsimp only); (repeat' (first | with_reducible rfl | (with_reducible refine (clkPart_foldl _ _ _ (fun _ _ => ?_)).trans ?_) | (simp; done) | split | (rw [clkPart_mk, clkPart_fold]))); done)
  | ((repeat' split) <;> first | (simp; done) | with_reducible rfl)
  | (refine clkPart_foldl _ _ _ (fun a x => ?_); (repeat' split) <;> first | (simp; done) | with_reducible rfl)
  | ((try dsimp only); rw [clkPart_foldl] <;> first | (intro a x; (repeat' split) <;> first | (simp; done) | with_reducible rfl) | ((repeat' split) <;> first | (simp; done) | with_reducible rfl))
  | ((try dsimp only); (repeat' split) <;> first | (simp; done) | with_reducible rfl)
  | ((repeat' (with_reducible refine clkPart_ite ?_ ?_)) <;> first | (simp; done) | with_reducible rfl)
  | ((repeat' split) <;> first
      | (simp; done)
      | with_reducible rfl
      | (refine clkPart_foldl _ _ _ (fun a x => ?_); (repeat' split) <;> first | (simp; done) | with_reducible rfl)
      | ((try dsimp only); rw [clkPart_foldl] <;> first | (intro a x; (repeat' split) <;> first | (simp; done) | with_reducible rfl) | ((repeat' split) <;> first | (simp; done) | with_reducible rfl)))

@[simp↓] theorem clkPart_markIsland (s : State) : clkPart (State.markIsland s) = clkPart s := by
  unfold State.markIsland
  first
  | ((try dsimp only); (repeat' (first | with_reducible rfl | (with_reducible refine (clkPart_foldl _ _ _ (fun _ _ => ?_)).trans ?_) | (simp; done) | split | (rw [clkPart_mk, clkPart_fold]))); done)
  | ((repeat' split) <;> first | (simp; done) | with_reducible rfl)
  | (refine clkPart_foldl _ _ _ (fun a x => ?_); (repeat' split) <;> first | (simp; done) | with_reducible rfl)
  | ((try dsimp only); rw [clkPart_foldl] <;> first | (intro a x; (repeat' split) <;> first | (simp; done) | with_reducible rfl) | ((repeat' split) <;> first | (simp; done) | with_reducible rfl))
  | ((try dsimp only); (repeat' split) <;> first | (simp; done) | with_reducible rfl)
  | ((repeat' (with_reducible refine clkPart_ite ?_ ?_)) <;> first | (simp; done) | with_reducible rfl)
  | ((repeat' split) <;> first
      | (simp; done)
      | with_reducible rfl
      | (refine clkPart_foldl _ _ _ (fun a x => ?_); (repeat' split) <;> first | (simp; done) | with_reducible rfl)
      | ((try dsimp only); rw [clkPart_foldl] <;> first | (intro a x; (repeat' split) <;> first | (simp; done) | with_reducible rfl) | ((repeat' split) <;> first | (simp; done) | with_reducible rfl)))

@[simp↓] theorem clkPart_sendPlain (s : State) (p : Nat) (ethertype : Nat) (dst : BitVec 48) (bytes : List Byte) : clkPart (State.sendPlain s p ethertype dst bytes) = clkPart s := by
  unfold State.sendPlain
  first
  | ((try dsimp only); (repeat' (first | with_reducible rfl | (with_reducible refine (clkPart_foldl _ _ _ (fun _ _ => ?_)).trans ?_) | (simp; done) | split | (rw [clkPart_mk, clkPart_fold]))); done)
  | ((repeat' split) <;> first | (simp; done) | with_reducible rfl)
  | (refine clkPart_foldl _ _ _ (fun a x => ?_); (repeat' split) <;> first | (simp; done) | with_reducible rfl)
  | ((try dsimp only); rw [clkPart_foldl] <;> first | (intro a x; (repeat' split) <;> first | (simp; done) | with_reducible rfl) | ((repeat' split) <;> first | (simp; done) | with_reducible rfl))
  | ((try dsimp only); (repeat' split) <;> first | (simp; done) | with_reducible rfl)
  | ((repeat' (with_reducible refine clkPart_ite ?_ ?_)) <;> first | (simp; done) | with_reducible rfl)
  | ((repeat' split) <;> first
      | (simp; done)
      | with_reducible rfl
      | (refine clkPart_foldl _ _ _ (fun a x => ?_); (repeat' split) <;> first | (simp; done) | with_reducible rfl)
      | ((try dsimp only); rw [clkPart_foldl] <;> first | (intro a x; (repeat' split) <;> first | (simp; done) | with_reducible rfl) | ((repeat' split) <;> first | (simp; done) | with_reducible rfl)))

@[simp↓] theorem clkPart_sendOn (s : State) (p : Nat) (ethertype : Nat) (dst : BitVec 48) (bytes : List Byte) : clkPart (State.sendOn s p ethertype dst bytes) = clkPart s := by
  unfold State.sendOn
  first
  | ((try dsimp only); (repeat' (first | with_reducible rfl | (with_reducible refine (clkPart_foldl _ _ _ (fun _ _ => ?_)).trans ?_) | (simp; done) | split | (rw [clkPart_mk, clkPart_fold]))); done)
  | ((repeat' split) <;> first | (simp; done) | with_reducible rfl)
  | (refine clkPart_foldl _ _ _ (fun a x => ?_); (repeat' split) <;> first | (simp; done) | with_reducible rfl)
  | ((try dsimp only); rw [clkPart_foldl] <;> first | (intro a x; (repeat' split) <;> first | (simp; done) | with_reducible rfl) | ((repeat' split) <;> first | (simp; done) | with_reducible rfl))
  | ((try dsimp only); (repeat' split) <;> first | (simp; done) | with_reducible rfl)
  | ((repeat' (with_reducible refine clkPart_ite ?_ ?_)) <;> first | (simp; done) | with_reducible rfl)
  | ((repeat' split) <;> first
      | (simp; done)
      | with_reducible rfl
      | (refine clkPart_foldl _ _ _ (fun a x => ?_); (repeat' split) <;> first | (simp; done) | with_reducible rfl)
      | ((try dsimp only); rw [clkPart_foldl] <;> first | (intro a x; (repeat' split) <;> first | (simp; done) | with_reducible rfl) | ((repeat' split) <;> first | (simp; done) | with_reducible rfl)))

@[simp↓] theorem clkPart_ppsFall (s : State) : clkPart (State.ppsFall s) = clkPart s := by
  unfold State.ppsFall
  first
  | ((try dsimp only); (repeat' (first | with_reducible rfl | (with_reducible refine (clkPart_foldl _ _ _ (fun _ _ => ?_)).trans ?_) | (simp; done) | split | (rw [clkPart_mk, clkPart_fold]))); done)
  | ((repeat' split) <;> first | (simp; done) | with_reducible rfl)
  | (refine clkPart_foldl _ _ _ (fun a x => ?_); (repeat' split) <;> first | (simp; done) | with_reducible rfl)
  | ((try dsimp only); rw [clkPart_foldl] <;> first | (intro a x; (repeat' split) <;> first | (simp; done) | with_reducible rfl) | ((repeat' split) <;> first | (simp; done) | with_reducible rfl))
  | ((try dsimp only); (repeat' split) <;> first | (simp; done) | with_reducible rfl)
  | ((repeat' (with_reducible refine clkPart_ite ?_ ?_)) <;> first | (simp; done) | with_reducible rfl)
  | ((repeat' split) <;> first
      | (simp; done)
      | with_reducible rfl
      | (refine clkPart_foldl _ _ _ (fun a x => ?_); (repeat' split) <;> first | (simp; done) | with_reducible rfl)
      | ((try dsimp only); rw [clkPart_foldl] <;> first | (intro a x; (repeat' split) <;> first | (simp; done) | with_reducible rfl) | ((repeat' split) <;> first | (simp; done) | with_reducible rfl)))

@[simp↓] theorem clkPart_setFio (s : State) (c : Nat) (v : FioCh) : clkPart (State.setFio s c v) = clkPart s := by
  unfold State.setFio
  first
  | ((try dsimp only); (repeat' (first | with_reducible rfl | (with_reducible refine (clkPart_foldl _ _ _ (fun _ _ => ?_)).trans ?_) | (simp; done) | split | (rw [clkPart_mk, clkPart_fold]))); done)
  | ((repeat' split) <;> first | (simp; done) | with_reducible rfl)
  | (refine clkPart_foldl _ _ _ (fun a x => ?_); (repeat' split) <;> first | (simp; done) | with_reducible rfl)
  | ((try dsimp only); rw [clkPart_foldl] <;> first | (intro a x; (repeat' split) <;> first | (simp; done) | with_reducible rfl) | ((repeat' split) <;> first | (simp; done) | with_reducible rfl))
  | ((try dsimp only); (repeat' split) <;> first | (simp; done) | with_reducible rfl)
  | ((repeat' (with_reducible refine clkPart_ite ?_ ?_)) <;> first | (simp; done) | with_reducible rfl)
  | ((repeat' split) <;> first
      | (simp; done)
      | with_reducible rfl
      | (refine clkPart_foldl _ _ _ (fun a x => ?_); (repeat' split) <;> first | (simp; done) | with_reducible rfl)
      | ((try dsimp only); rw [clkPart_foldl] <;> first | (intro a x; (repeat' split) <;> first | (simp; done) | with_reducible rfl) | ((repeat' split) <;> first | (simp; done) | with_reducible rfl)))

@[simp↓] theorem clkPart_setGrp (s : State) (g : Nat) (v : FioGrp) : clkPart (State.setGrp s g v) = clkPart s := by
  unfold State.setGrp
  first
  | ((try dsimp only); (repeat' (first | with_reducible rfl | (with_reducible refine (clkPart_foldl _ _ _ (fun _ _ => ?_)).trans ?_) | (simp; done) | split | (rw [clkPart_mk, clkPart_fold]))); done)
  | ((repeat' split) <;> first | (simp; done) | with_reducible rfl)
  | (refine clkPart_foldl _ _ _ (fun a x => ?_); (repeat' split) <;> first | (simp; done) | with_reducible rfl)
  | ((try dsimp only); rw [clkPart_foldl] <;> first | (intro a x; (repeat' split) <;> first | (simp; done) | with_reducible rfl) | ((repeat' split) <;> first | (simp; done) | with_reducible rfl))
  | ((try dsimp only); (repeat' split) <;> first | (simp; done) | with_reducible rfl)
  | ((repeat' (with_reducible refine clkPart_ite ?_ ?_)) <;> first | (simp; done) | with_reducible rfl)
  | ((repeat' split) <;> first
      | (simp; done)
      | with_reducible rfl
      | (refine clkPart_foldl _ _ _ (fun a x => ?_); (repeat' split) <;> first | (simp; done) | with_reducible rfl)
      | ((try dsimp only); rw [clkPart_foldl] <;> first | (intro a x; (repeat' split) <;> first | (simp; done) | with_reducible rfl) | ((repeat' split) <;> first | (simp; done) | with_reducible rfl)))

@[simp↓] theorem clkPart_setAout (s : State) (a : Nat) (v : AoutCh) : clkPart (State.setAout s a v) = clkPart s := by
  unfold State.setAout
  first
  | ((try dsimp only); (repeat' (first | with_reducible rfl | (with_reducible refine (clkPart_foldl _ _ _ (fun _ _ => ?_)).trans ?_) | (simp; done) | split | (rw [clkPart_mk, clkPart_fold]))); done)
  | ((repeat' split) <;> first | (simp; done) | with_reducible rfl)
  | (refine clkPart_foldl _ _ _ (fun a x => ?_); (repeat' split) <;> first | (simp; done) | with_reducible rfl)
  | ((try dsimp only); rw [clkPart_foldl] <;> first | (intro a x; (repeat' split) <;> first | (simp; done) | with_reducible rfl) | ((repeat' split) <;> first | (simp; done) | with_reducible rfl))
  | ((try dsimp only); (repeat' split) <;> first | (simp; done) | with_reducible rfl)
  | ((repeat' (with_reducible refine clkPart_ite ?_ ?_)) <;> first | (simp; done) | with_reducible rfl)
  | ((repeat' split) <;> first
      | (simp; done)
      | with_reducible rfl
      | (refine clkPart_foldl _ _ _ (fun a x => ?_); (repeat' split) <;> first | (simp; done) | with_reducible rfl)
      | ((try dsimp only); rw [clkPart_foldl] <;> first | (intro a x; (repeat' split) <;> first | (simp; done) | with_reducible rfl) | ((repeat' split) <;> first | (simp; done) | with_reducible rfl)))

@[simp↓] theorem clkPart_driveCh (s : State) (c : Nat) : clkPart (State.driveCh s c) = clkPart s := by
  unfold State.driveCh
  first
  | ((try dsimp only); (repeat' (first | with_reducible rfl | (with_reducible refine (clkPart_foldl _ _ _ (fun _ _ => ?_)).trans ?_) | (simp; done) | split | (rw [clkPart_mk, clkPart_fold]))); done)
  | ((repeat' split) <;> first | (simp; done) | with_reducible rfl)
  | (refine clkPart_foldl _ _ _ (fun a x => ?_); (repeat' split) <;> first | (simp; done) | with_reducible rfl)
  | ((try dsimp only); rw [clkPart_foldl] <;> first | (intro a x; (repeat' split) <;> first | (simp; done) | with_reducible rfl) | ((repeat' split) <;> first | (simp; done) | with_reducible rfl))
  | ((try dsimp only); (repeat' split) <;> first | (simp; done) | with_reducible rfl)
  | ((repeat' (with_reducible refine clkPart_ite ?_ ?_)) <;> first | (simp; done) | with_reducible rfl)
  | ((repeat' split) <;> first
      | (simp; done)
      | with_reducible rfl
      | (refine clkPart_foldl _ _ _ (fun a x => ?_); (repeat' split) <;> first | (simp; done) | with_reducible rfl)
      | ((try dsimp only); rw [clkPart_foldl] <;> first | (intro a x; (repeat' split) <;> first | (simp; done) | with_reducible rfl) | ((repeat' split) <;> first | (simp; done) | with_reducible rfl)))

@[simp↓] theorem clkPart_driveAout (s : State) (a : Nat) : clkPart (State.driveAout s a) = clkPart s := by
  unfold State.driveAout
  first
  | ((try dsimp only); (repeat' (first | with_reducible rfl | (with_reducible refine (clkPart_foldl _ _ _ (fun _ _ => ?_)).trans ?_) | (simp; done) | split | (rw [clkPart_mk, clkPart_fold]))); done)
  | ((repeat' split) <;> first | (simp; done) | with_reducible rfl)
  | (refine clkPart_foldl _ _ _ (fun a x => ?_); (repeat' split) <;> first | (simp; done) | with_reducible rfl)
  | ((try dsimp only); rw [clkPart_foldl] <;> first | (intro a x; (repeat' split) <;> first | (simp; done) | with_reducible rfl) | ((repeat' split) <;> first | (simp; done) | with_reducible rfl))
  | ((try dsimp only); (repeat' split) <;> first | (simp; done) | with_reducible rfl)
  | ((repeat' (with_reducible refine clkPart_ite ?_ ?_)) <;> first | (simp; done) | with_reducible rfl)
  | ((repeat' split) <;> first
      | (simp; done)
      | with_reducible rfl
      | (refine clkPart_foldl _ _ _ (fun a x => ?_); (repeat' split) <;> first | (simp; done) | with_reducible rfl)
      | ((try dsimp only); rw [clkPart_foldl] <;> first | (intro a x; (repeat' split) <;> first | (simp; done) | with_reducible rfl) | ((repeat' split) <;> first | (simp; done) | with_reducible rfl)))

@[simp↓] theorem clkPart_driveAll (s : State) : clkPart (State.driveAll s) = clkPart s := by
  unfold State.driveAll
  first
  | ((try dsimp only); (repeat' (first | with_reducible rfl | (with_reducible refine (clkPart_foldl _ _ _ (fun _ _ => ?_)).trans ?_) | (simp; done) | split | (rw [clkPart_mk, clkPart_fold]))); done)
  | ((repeat' split) <;> first | (simp; done) | with_reducible rfl)
  | (refine clkPart_foldl _ _ _ (fun a x => ?_); (repeat' split) <;> first | (simp; done) | with_reducible rfl)
  | ((try dsimp only); rw [clkPart_foldl] <;> first | (intro a x; (repeat' split) <;> first | (simp; done) | with_reducible rfl) | ((repeat' split) <;> first | (simp; done) | with_reducible rfl))
  | ((try dsimp only); (repeat' split) <;> first | (simp; done) | with_reducible rfl)
  | ((repeat' (with_reducible refine clkPart_ite ?_ ?_)) <;> first | (simp; done) | with_reducible rfl)
  | ((repeat' split) <;> first
      | (simp; done)
      | with_reducible rfl
      | (refine clkPart_foldl _ _ _ (fun a x => ?_); (repeat' split) <;> first | (simp; done) | with_reducible rfl)
      | ((try dsimp only); rw [clkPart_foldl] <;> first | (intro a x; (repeat' split) <;> first | (simp; done) | with_reducible rfl) | ((repeat' split) <;> first | (simp; done) | with_reducible rfl)))

@[simp↓] theorem clkPart_kept (s : State) (p : Nat) (st : BitVec 16) : clkPart (State.kept s p st) = clkPart s := by
  unfold State.kept
  first
  | ((try dsimp only); (repeat' (first | with_reducible rfl | (with_reducible refine (clkPart_foldl _ _ _ (fun _ _ => ?_)).trans ?_) | (simp; done) | split | (rw [clkPart_mk, clkPart_fold]))); done)
  | ((repeat' split) <;> first | (simp; done) | with_reducible rfl)
  | (refine clkPart_foldl _ _ _ (fun a x => ?_); (repeat' split) <;> first | (simp; done) | with_reducible rfl)
  | ((try dsimp only); rw [clkPart_foldl] <;> first | (intro a x; (repeat' split) <;> first | (simp; done) | with_reducible rfl) | ((repeat' split) <;> first | (simp; done) | with_reducible rfl))
  | ((try dsimp only); (repeat' split) <;> first | (simp; done) | with_reducible rfl)
  | ((repeat' (with_reducible refine clkPart_ite ?_ ?_)) <;> first | (simp; done) | with_reducible rfl)
  | ((repeat' split) <;> first
      | (simp; done)
      | with_reducible rfl
      | (refine clkPart_foldl _ _ _ (fun a x => ?_); (repeat' split) <;> first | (simp; done) | with_reducible rfl)
      | ((try dsimp only); rw [clkPart_foldl] <;> first | (intro a x; (repeat' split) <;> first | (simp; done) | with_reducible rfl) | ((repeat' split) <;> first | (simp; done) | with_reducible rfl)))

@[simp↓] theorem clkPart_unused (s : State) (p : Nat) : clkPart (State.unused s p) = clkPart s := by
  unfold State.unused
  first
  | ((try dsimp only); (repeat' (first | with_reducible rfl | (with_reducible refine (clkPart_foldl _ _ _ (fun _ _ => ?_)).trans ?_) | (simp; done) | split | (rw [clkPart_mk, clkPart_fold]))); done)
  | ((repeat' split) <;> first | (simp; done) | with_reducible rfl)
  | (refine clkPart_foldl _ _ _ (fun a x => ?_); (repeat' split) <;> first | (simp; done) | with_reducible rfl)
  | ((try dsimp only); rw [clkPart_foldl] <;> first | (intro a x; (repeat' split) <;> first | (simp; done) | with_reducible rfl) | ((repeat' split) <;> first | (simp; done) | with_reducible rfl))
  | ((try dsimp only); (repeat' split) <;> first | (simp; done) | with_reducible rfl)
  | ((repeat' (with_reducible refine clkPart_ite ?_ ?_)) <;> first | (simp; done) | with_reducible rfl)
  | ((repeat' split) <;> first
      | (simp; done)
      | with_reducible rfl
      | (refine clkPart_foldl _ _ _ (fun a x => ?_); (repeat' split) <;> first | (simp; done) | with_reducible rfl)
      | ((try dsimp only); rw [clkPart_foldl] <;> first | (intro a x; (repeat' split) <;> first | (simp; done) | with_reducible rfl) | ((repeat' split) <;> first | (simp; done) | with_reducible rfl)))

@[simp↓] theorem clkPart_latchDigital (s : State) (c : Nat) : clkPart (State.latchDigital s c) = clkPart s := by
  unfold State.latchDigital
  first
  | ((try dsimp only); (repeat' (first | with_reducible rfl | (with_reducible refine (clkPart_foldl _ _ _ (fun _ _ => ?_)).trans ?_) | (simp; done) | split | (rw [clkPart_mk, clkPart_fold]))); done)
  | ((repeat' split) <;> first | (simp; done) | with_reducible rfl)
  | (refine clkPart_foldl _ _ _ (fun a x => ?_); (repeat' split) <;> first | (simp; done) | with_reducible rfl)
  | ((try dsimp only); rw [clkPart_foldl] <;> first | (intro a x; (repeat' split) <;> first | (simp; done) | with_reducible rfl) | ((repeat' split) <;> first | (simp; done) | with_reducible rfl))
  | ((try dsimp only); (repeat' split) <;> first | (simp; done) | with_reducible rfl)
  | ((repeat' (with_reducible refine clkPart_ite ?_ ?_)) <;> first | (simp; done) | with_reducible rfl)
  | ((repeat' split) <;> first
      | (simp; done)
      | with_reducible rfl
      | (refine clkPart_foldl _ _ _ (fun a x => ?_); (repeat' split) <;> first | (simp; done) | with_reducible rfl)
      | ((try dsimp only); rw [clkPart_foldl] <;> first | (intro a x; (repeat' split) <;> first | (simp; done) | with_reducible rfl) | ((repeat' split) <;> first | (simp; done) | with_reducible rfl)))

@[simp↓] theorem clkPart_latchPulse (s : State) (c : Nat) : clkPart (State.latchPulse s c) = clkPart s := by
  unfold State.latchPulse
  first
  | ((try dsimp only); (repeat' (first | with_reducible rfl | (with_reducible refine (clkPart_foldl _ _ _ (fun _ _ => ?_)).trans ?_) | (simp; done) | split | (rw [clkPart_mk, clkPart_fold]))); done)
  | ((repeat' split) <;> first | (simp; done) | with_reducible rfl)
  | (refine clkPart_foldl _ _ _ (fun a x => ?_); (repeat' split) <;> first | (simp; done) | with_reducible rfl)
  | ((try dsimp only); rw [clkPart_foldl] <;> first | (intro a x; (repeat' split) <;> first | (simp; done) | with_reducible rfl) | ((repeat' split) <;> first | (simp; done) | with_reducible rfl))
  | ((try dsimp only); (repeat' split) <;> first | (simp; done) | with_reducible rfl)
  | ((repeat' (with_reducible refine clkPart_ite ?_ ?_)) <;> first | (simp; done) | with_reducible rfl)
  | ((repeat' split) <;> first
      | (simp; done)
      | with_reducible rfl
      | (refine clkPart_foldl _ _ _ (fun a x => ?_); (repeat' split) <;> first | (simp; done) | with_reducible rfl)
      | ((try dsimp only); rw [clkPart_foldl] <;> first | (intro a x; (repeat' split) <;> first | (simp; done) | with_reducible rfl) | ((repeat' split) <;> first | (simp; done) | with_reducible rfl)))

@[simp↓] theorem clkPart_latchOutput (s : State) (c : Nat) : clkPart (State.latchOutput s c) = clkPart s := by
  unfold State.latchOutput
  first
  | ((try dsimp only); (repeat' (first | with_reducible rfl | (with_reducible refine (clkPart_foldl _ _ _ (fun _ _ => ?_)).trans ?_) | (simp; done) | split | (rw [clkPart_mk, clkPart_fold]))); done)
  | ((repeat' split) <;> first | (simp; done) | with_reducible rfl)
  | (refine clkPart_foldl _ _ _ (fun a x => ?_); (repeat' split) <;> first | (simp; done) | with_reducible rfl)
  | ((try dsimp only); rw [clkPart_foldl] <;> first | (intro a x; (repeat' split) <;> first | (simp; done) | with_reducible rfl) | ((repeat' split) <;> first | (simp; done) | with_reducible rfl))
  | ((try dsimp only); (repeat' split) <;> first | (simp; done) | with_reducible rfl)
  | ((repeat' (with_reducible refine clkPart_ite ?_ ?_)) <;> first | (simp; done) | with_reducible rfl)
  | ((repeat' split) <;> first
      | (simp; done)
      | with_reducible rfl
      | (refine clkPart_foldl _ _ _ (fun a x => ?_); (repeat' split) <;> first | (simp; done) | with_reducible rfl)
      | ((try dsimp only); rw [clkPart_foldl] <;> first | (intro a x; (repeat' split) <;> first | (simp; done) | with_reducible rfl) | ((repeat' split) <;> first | (simp; done) | with_reducible rfl)))

@[simp↓] theorem clkPart_latchCh (s : State) (c : Nat) : clkPart (State.latchCh s c) = clkPart s := by
  unfold State.latchCh
  first
  | ((try dsimp only); (repeat' (first | with_reducible rfl | (with_reducible refine (clkPart_foldl _ _ _ (fun _ _ => ?_)).trans ?_) | (simp; done) | split | (rw [clkPart_mk, clkPart_fold]))); done)
  | ((repeat' split) <;> first | (simp; done) | with_reducible rfl)
  | (refine clkPart_foldl _ _ _ (fun a x => ?_); (repeat' split) <;> first | (simp; done) | with_reducible rfl)
  | ((try dsimp only); rw [clkPart_foldl] <;> first | (intro a x; (repeat' split) <;> first | (simp; done) | with_reducible rfl) | ((repeat' split) <;> first | (simp; done) | with_reducible rfl))
  | ((try dsimp only); (repeat' split) <;> first | (simp; done) | with_reducible rfl)
  | ((repeat' (with_reducible refine clkPart_ite ?_ ?_)) <;> first | (simp; done) | with_reducible rfl)
  | ((repeat' split) <;> first
      | (simp; done)
      | with_reducible rfl
      | (refine clkPart_foldl _ _ _ (fun a x => ?_); (repeat' split) <;> first | (simp; done) | with_reducible rfl)
      | ((try dsimp only); rw [clkPart_foldl] <;> first | (intro a x; (repeat' split) <;> first | (simp; done) | with_reducible rfl) | ((repeat' split) <;> first | (simp; done) | with_reducible rfl)))

@[simp↓] theorem clkPart_latchAin (s : State) (i : Nat) : clkPart (State.latchAin s i) = clkPart s := by
  unfold State.latchAin
  first
  | ((try dsimp only); (repeat' (first | with_reducible rfl | (with_reducible refine (clkPart_foldl _ _ _ (fun _ _ => ?_)).trans ?_) | (simp; done) | split | (rw [clkPart_mk, clkPart_fold]))); done)
  | ((repeat' split) <;> first | (simp; done) | with_reducible rfl)
  | (refine clkPart_foldl _ _ _ (fun a x => ?_); (repeat' split) <;> first | (simp; done) | with_reducible rfl)
  | ((try dsimp only); rw [clkPart_foldl] <;> first | (intro a x; (repeat' split) <;> first | (simp; done) | with_reducible rfl) | ((repeat' split) <;> first | (simp; done) | with_reducible rfl))
  | ((try dsimp only); (repeat' split) <;> first | (simp; done) | with_reducible rfl)
  | ((repeat' (with_reducible refine clkPart_ite ?_ ?_)) <;> first | (simp; done) | with_reducible rfl)
  | ((repeat' split) <;> first
      | (simp; done)
      | with_reducible rfl
      | (refine clkPart_foldl _ _ _ (fun a x => ?_); (repeat' split) <;> first | (simp; done) | with_reducible rfl)
      | ((try dsimp only); rw [clkPart_foldl] <;> first | (intro a x; (repeat' split) <;> first | (simp; done) | with_reducible rfl) | ((repeat' split) <;> first | (simp; done) | with_reducible rfl)))

@[simp↓] theorem clkPart_latchAout (s : State) (a : Nat) : clkPart (State.latchAout s a) = clkPart s := by
  unfold State.latchAout
  first
  | ((try dsimp only); (repeat' (first | with_reducible rfl | (with_reducible refine (clkPart_foldl _ _ _ (fun _ _ => ?_)).trans ?_) | (simp; done) | split | (rw [clkPart_mk, clkPart_fold]))); done)
  | ((repeat' split) <;> first | (simp; done) | with_reducible rfl)
  | (refine clkPart_foldl _ _ _ (fun a x => ?_); (repeat' split) <;> first | (simp; done) | with_reducible rfl)
  | ((try dsimp only); rw [clkPart_foldl] <;> first | (intro a x; (repeat' split) <;> first | (simp; done) | with_reducible rfl) | ((repeat' split) <;> first | (simp; done) | with_reducible rfl))
  | ((try dsimp only); (repeat' split) <;> first | (simp; done) | with_reducible rfl)
  | ((repeat' (with_reducible refine clkPart_ite ?_ ?_)) <;> first | (simp; done) | with_reducible rfl)
  | ((repeat' split) <;> first
      | (simp; done)
      | with_reducible rfl
      | (refine clkPart_foldl _ _ _ (fun a x => ?_); (repeat' split) <;> first | (simp; done) | with_reducible rfl)
      | ((try dsimp only); rw [clkPart_foldl] <;> first | (intro a x; (repeat' split) <;> first | (simp; done) | with_reducible rfl) | ((repeat' split) <;> first | (simp; done) | with_reducible rfl)))

@[simp↓] theorem clkPart_latchGrp (s : State) (g : Nat) : clkPart (State.latchGrp s g) = clkPart s := by
  unfold State.latchGrp
  first
  | ((try dsimp only); (repeat' (first | with_reducible rfl | (with_reducible refine (clkPart_foldl _ _ _ (fun _ _ => ?_)).trans ?_) | (simp; done) | split | (rw [clkPart_mk, clkPart_fold]))); done)
  | ((repeat' split) <;> first | (simp; done) | with_reducible rfl)
  | (refine clkPart_foldl _ _ _ (fun a x => ?_); (repeat' split) <;> first | (simp; done) | with_reducible rfl)
  | ((try dsimp only); rw [clkPart_foldl] <;> first | (intro a x; (repeat' split) <;> first | (simp; done) | with_reducible rfl) | ((repeat' split) <;> first | (simp; done) | with_reducible rfl))
  | ((try dsimp only); (repeat' split) <;> first | (simp; done) | with_reducible rfl)
  | ((repeat' (with_reducible refine clkPart_ite ?_ ?_)) <;> first | (simp; done) | with_reducible rfl)
  | ((repeat' split) <;> first
      | (simp; done)
      | with_reducible rfl
      | (refine clkPart_foldl _ _ _ (fun a x => ?_); (repeat' split) <;> first | (simp; done) | with_reducible rfl)
      | ((try dsimp only); rw [clkPart_foldl] <;> first | (intro a x; (repeat' split) <;> first | (simp; done) | with_reducible rfl) | ((repeat' split) <;> first | (simp; done) | with_reducible rfl)))

@[simp↓] theorem clkPart_latchLocal (s : State) : clkPart (State.latchLocal s) = clkPart s := by
  unfold State.latchLocal
  first
  | ((try dsimp only); (repeat' (first | with_reducible rfl | (with_reducible refine (clkPart_foldl _ _ _ (fun _ _ => ?_)).trans ?_) | (simp; done) | split | (rw [clkPart_mk, clkPart_fold]))); done)
  | ((repeat' split) <;> first | (simp; done) | with_reducible rfl)
  | (refine clkPart_foldl _ _ _ (fun a x => ?_); (repeat' split) <;> first | (simp; done) | with_reducible rfl)
  | ((try dsimp only); rw [clkPart_foldl] <;> first | (intro a x; (repeat' split) <;> first | (simp; done) | with_reducible rfl) | ((repeat' split) <;> first | (simp; done) | with_reducible rfl))
  | ((try dsimp only); (repeat' split) <;> first | (simp; done) | with_reducible rfl)
  | ((repeat' (with_reducible refine clkPart_ite ?_ ?_)) <;> first | (simp; done) | with_reducible rfl)
  | ((repeat' split) <;> first
      | (simp; done)
      | with_reducible rfl
      | (refine clkPart_foldl _ _ _ (fun a x => ?_); (repeat' split) <;> first | (simp; done) | with_reducible rfl)
      | ((try dsimp only); rw [clkPart_foldl] <;> first | (intro a x; (repeat' split) <;> first | (simp; done) | with_reducible rfl) | ((repeat' split) <;> first | (simp; done) | with_reducible rfl)))

@[simp↓] theorem clkPart_queueMode (s : State) (c : Nat) (m : Nat) : clkPart (State.queueMode s c m) = clkPart s := by
  unfold State.queueMode
  first
  | ((try dsimp only); (repeat' (first | with_reducible rfl | (with_reducible refine (clkPart_foldl _ _ _ (fun _ _ => ?_)).trans ?_) | (simp; done) | split | (rw [clkPart_mk, clkPart_fold]))); done)
  | ((repeat' split) <;> first | (simp; done) | with_reducible rfl)
  | (refine clkPart_foldl _ _ _ (fun a x => ?_); (repeat' split) <;> first | (simp; done) | with_reducible rfl)
  | ((try dsimp only); rw [clkPart_foldl] <;> first | (intro a x; (repeat' split) <;> first | (simp; done) | with_reducible rfl) | ((repeat' split) <;> first | (simp; done) | with_reducible rfl))
  | ((try dsimp only); (repeat' split) <;> first | (simp; done) | with_reducible rfl)
  | ((repeat' (with_reducible refine clkPart_ite ?_ ?_)) <;> first | (simp; done) | with_reducible rfl)
  | ((repeat' split) <;> first
      | (simp; done)
      | with_reducible rfl
      | (refine clkPart_foldl _ _ _ (fun a x => ?_); (repeat' split) <;> first | (simp; done) | with_reducible rfl)
      | ((try dsimp only); rw [clkPart_foldl] <;> first | (intro a x; (repeat' split) <;> first | (simp; done) | with_reducible rfl) | ((repeat' split) <;> first | (simp; done) | with_reducible rfl)))

@[simp↓] theorem clkPart_queueRange (s : State) (a : Nat) (m : Nat) : clkPart (State.queueRange s a m) = clkPart s := by
  unfold State.queueRange
  first
  | ((try dsimp only); (repeat' (first | with_reducible rfl | (with_reducible refine (clkPart_foldl _ _ _ (fun _ _ => ?_)).trans ?_) | (simp; done) | split | (rw [clkPart_mk, clkPart_fold]))); done)
  | ((repeat' split) <;> first | (simp; done) | with_reducible rfl)
  | (refine clkPart_foldl _ _ _ (fun a x => ?_); (repeat' split) <;> first | (simp; done) | with_reducible rfl)
  | ((try dsimp only); rw [clkPart_foldl] <;> first | (intro a x; (repeat' split) <;> first | (simp; done) | with_reducible rfl) | ((repeat' split) <;> first | (simp; done) | with_reducible rfl))
  | ((try dsimp only); (repeat' split) <;> first | (simp; done) | with_reducible rfl)
  | ((repeat' (with_reducible refine clkPart_ite ?_ ?_)) <;> first | (simp; done) | with_reducible rfl)
  | ((repeat' split) <;> first
      | (simp; done)
      | with_reducible rfl
      | (refine clkPart_foldl _ _ _ (fun a x => ?_); (repeat' split) <;> first | (simp; done) | with_reducible rfl)
      | ((try dsimp only); rw [clkPart_foldl] <;> first | (intro a x; (repeat' split) <;> first | (simp; done) | with_reducible rfl) | ((repeat' split) <;> first | (simp; done) | with_reducible rfl)))

@[simp↓] theorem clkPart_startModes (s : State) : clkPart (State.startModes s) = clkPart s := by
  unfold State.startModes
  first
  | ((try dsimp only); (repeat' (first | with_reducible rfl | (with_reducible refine (clkPart_foldl _ _ _ (fun _ _ => ?_)).trans ?_) | (simp; done) | split | (rw [clkPart_mk, clkPart_fold]))); done)
  | ((repeat' split) <;> first | (simp; done) | with_reducible rfl)
  | (refine clkPart_foldl _ _ _ (fun a x => ?_); (repeat' split) <;> first | (simp; done) | with_reducible rfl)
  | ((try dsimp only); rw [clkPart_foldl] <;> first | (intro a x; (repeat' split) <;> first | (simp; done) | with_reducible rfl) | ((repeat' split) <;> first | (simp; done) | with_reducible rfl))
  | ((try dsimp only); (repeat' split) <;> first | (simp; done) | with_reducible rfl)
  | ((repeat' (with_reducible refine clkPart_ite ?_ ?_)) <;> first | (simp; done) | with_reducible rfl)
  | ((repeat' split) <;> first
      | (simp; done)
      | with_reducible rfl
      | (refine clkPart_foldl _ _ _ (fun a x => ?_); (repeat' split) <;> first | (simp; done) | with_reducible rfl)
      | ((try dsimp only); rw [clkPart_foldl] <;> first | (intro a x; (repeat' split) <;> first | (simp; done) | with_reducible rfl) | ((repeat' split) <;> first | (simp; done) | with_reducible rfl)))

@[simp↓] theorem clkPart_firstOutCfg (s : State) : clkPart (State.firstOutCfg s) = clkPart s := by
  unfold State.firstOutCfg
  first
  | ((try dsimp only); (repeat' (first | with_reducible rfl | (with_reducible refine (clkPart_foldl _ _ _ (fun _ _ => ?_)).trans ?_) | (simp; done) | split | (rw [clkPart_mk, clkPart_fold]))); done)
  | ((repeat' split) <;> first | (simp; done) | with_reducible rfl)
  | (refine clkPart_foldl _ _ _ (fun a x => ?_); (repeat' split) <;> first | (simp; done) | with_reducible rfl)
  | ((try dsimp only); rw [clkPart_foldl] <;> first | (intro a x; (repeat' split) <;> first | (simp; done) | with_reducible rfl) | ((repeat' split) <;> first | (simp; done) | with_reducible rfl))
  | ((try dsimp only); (repeat' split) <;> first | (simp; done) | with_reducible rfl)
  | ((repeat' (with_reducible refine clkPart_ite ?_ ?_)) <;> first | (simp; done) | with_reducible rfl)
  | ((repeat' split) <;> first
      | (simp; done)
      | with_reducible rfl
      | (refine clkPart_foldl _ _ _ (fun a x => ?_); (repeat' split) <;> first | (simp; done) | with_reducible rfl)
      | ((try dsimp only); rw [clkPart_foldl] <;> first | (intro a x; (repeat' split) <;> first | (simp; done) | with_reducible rfl) | ((repeat' split) <;> first | (simp; done) | with_reducible rfl)))

@[simp↓] theorem clkPart_resumeGroups (s : State) : clkPart (State.resumeGroups s) = clkPart s := by
  unfold State.resumeGroups
  first
  | ((try dsimp only); (repeat' (first | with_reducible rfl | (with_reducible refine (clkPart_foldl _ _ _ (fun _ _ => ?_)).trans ?_) | (simp; done) | split | (rw [clkPart_mk, clkPart_fold]))); done)
  | ((repeat' split) <;> first | (simp; done) | with_reducible rfl)
  | (refine clkPart_foldl _ _ _ (fun a x => ?_); (repeat' split) <;> first | (simp; done) | with_reducible rfl)
  | ((try dsimp only); rw [clkPart_foldl] <;> first | (intro a x; (repeat' split) <;> first | (simp; done) | with_reducible rfl) | ((repeat' split) <;> first | (simp; done) | with_reducible rfl))
  | ((try dsimp only); (repeat' split) <;> first | (simp; done) | with_reducible rfl)
  | ((repeat' (with_reducible refine clkPart_ite ?_ ?_)) <;> first | (simp; done) | with_reducible rfl)
  | ((repeat' split) <;> first
      | (simp; done)
      | with_reducible rfl
      | (refine clkPart_foldl _ _ _ (fun a x => ?_); (repeat' split) <;> first | (simp; done) | with_reducible rfl)
      | ((try dsimp only); rw [clkPart_foldl] <;> first | (intro a x; (repeat' split) <;> first | (simp; done) | with_reducible rfl) | ((repeat' split) <;> first | (simp; done) | with_reducible rfl)))

@[simp↓] theorem clkPart_dieFrame (s : State) (ok : Bool) : clkPart (State.dieFrame s ok) = clkPart s := by
  unfold State.dieFrame
  first
  | ((try dsimp only); (repeat' (first | with_reducible rfl | (with_reducible refine (clkPart_foldl _ _ _ (fun _ _ => ?_)).trans ?_) | (simp; done) | split | (rw [clkPart_mk, clkPart_fold]))); done)
  | ((repeat' split) <;> first | (simp; done) | with_reducible rfl)
  | (refine clkPart_foldl _ _ _ (fun a x => ?_); (repeat' split) <;> first | (simp; done) | with_reducible rfl)
  | ((try dsimp only); rw [clkPart_foldl] <;> first | (intro a x; (repeat' split) <;> first | (simp; done) | with_reducible rfl) | ((repeat' split) <;> first | (simp; done) | with_reducible rfl))
  | ((try dsimp only); (repeat' split) <;> first | (simp; done) | with_reducible rfl)
  | ((repeat' (with_reducible refine clkPart_ite ?_ ?_)) <;> first | (simp; done) | with_reducible rfl)
  | ((repeat' split) <;> first
      | (simp; done)
      | with_reducible rfl
      | (refine clkPart_foldl _ _ _ (fun a x => ?_); (repeat' split) <;> first | (simp; done) | with_reducible rfl)
      | ((try dsimp only); rw [clkPart_foldl] <;> first | (intro a x; (repeat' split) <;> first | (simp; done) | with_reducible rfl) | ((repeat' split) <;> first | (simp; done) | with_reducible rfl)))

@[simp↓] theorem clkPart_dieClaim (s : State) : clkPart (State.dieClaim s) = clkPart s := by
  unfold State.dieClaim
  first
  | ((try dsimp only); (repeat' (first | with_reducible rfl | (with_reducible refine (clkPart_foldl _ _ _ (fun _ _ => ?_)).trans ?_) | (simp; done) | split | (rw [clkPart_mk, clkPart_fold]))); done)
  | ((repeat' split) <;> first | (simp; done) | with_reducible rfl)
  | (refine clkPart_foldl _ _ _ (fun a x => ?_); (repeat' split) <;> first | (simp; done) | with_reducible rfl)
  | ((try dsimp only); rw [clkPart_foldl] <;> first | (intro a x; (repeat' split) <;> first | (simp; done) | with_reducible rfl) | ((repeat' split) <;> first | (simp; done) | with_reducible rfl))
  | ((try dsimp only); (repeat' split) <;> first | (simp; done) | with_reducible rfl)
  | ((repeat' (with_reducible refine clkPart_ite ?_ ?_)) <;> first | (simp; done) | with_reducible rfl)
  | ((repeat' split) <;> first
      | (simp; done)
      | with_reducible rfl
      | (refine clkPart_foldl _ _ _ (fun a x => ?_); (repeat' split) <;> first | (simp; done) | with_reducible rfl)
      | ((try dsimp only); rw [clkPart_foldl] <;> first | (intro a x; (repeat' split) <;> first | (simp; done) | with_reducible rfl) | ((repeat' split) <;> first | (simp; done) | with_reducible rfl)))

@[simp↓] theorem clkPart_dieMeasure (s : State) (obs : TickIn) : clkPart (State.dieMeasure s obs) = clkPart s := by
  unfold State.dieMeasure
  first
  | ((try dsimp only); (repeat' (first | with_reducible rfl | (with_reducible refine (clkPart_foldl _ _ _ (fun _ _ => ?_)).trans ?_) | (simp; done) | split | (rw [clkPart_mk, clkPart_fold]))); done)
  | ((repeat' split) <;> first | (simp; done) | with_reducible rfl)
  | (refine clkPart_foldl _ _ _ (fun a x => ?_); (repeat' split) <;> first | (simp; done) | with_reducible rfl)
  | ((try dsimp only); rw [clkPart_foldl] <;> first | (intro a x; (repeat' split) <;> first | (simp; done) | with_reducible rfl) | ((repeat' split) <;> first | (simp; done) | with_reducible rfl))
  | ((try dsimp only); (repeat' split) <;> first | (simp; done) | with_reducible rfl)
  | ((repeat' (with_reducible refine clkPart_ite ?_ ?_)) <;> first | (simp; done) | with_reducible rfl)
  | ((repeat' split) <;> first
      | (simp; done)
      | with_reducible rfl
      | (refine clkPart_foldl _ _ _ (fun a x => ?_); (repeat' split) <;> first | (simp; done) | with_reducible rfl)
      | ((try dsimp only); rw [clkPart_foldl] <;> first | (intro a x; (repeat' split) <;> first | (simp; done) | with_reducible rfl) | ((repeat' split) <;> first | (simp; done) | with_reducible rfl)))

@[simp↓] theorem clkPart_fieldTick (s : State) (obs : TickIn) : clkPart (State.fieldTick s obs) = clkPart s := by
  unfold State.fieldTick
  first
  | ((try dsimp only); (repeat' (first | with_reducible rfl | (with_reducible refine (clkPart_foldl _ _ _ (fun _ _ => ?_)).trans ?_) | (simp; done) | split | (rw [clkPart_mk, clkPart_fold]))); done)
  | ((repeat' split) <;> first | (simp; done) | with_reducible rfl)
  | (refine clkPart_foldl _ _ _ (fun a x => ?_); (repeat' split) <;> first | (simp; done) | with_reducible rfl)
  | ((try dsimp only); rw [clkPart_foldl] <;> first | (intro a x; (repeat' split) <;> first | (simp; done) | with_reducible rfl) | ((repeat' split) <;> first | (simp; done) | with_reducible rfl))
  | ((try dsimp only); (repeat' split) <;> first | (simp; done) | with_reducible rfl)
  | ((repeat' (with_reducible refine clkPart_ite ?_ ?_)) <;> first | (simp; done) | with_reducible rfl)
  | ((repeat' split) <;> first
      | (simp; done)
      | with_reducible rfl
      | (refine clkPart_foldl _ _ _ (fun a x => ?_); (repeat' split) <;> first | (simp; done) | with_reducible rfl)
      | ((try dsimp only); rw [clkPart_foldl] <;> first | (intro a x; (repeat' split) <;> first | (simp; done) | with_reducible rfl) | ((repeat' split) <;> first | (simp; done) | with_reducible rfl)))

@[simp↓] theorem clkPart_setCanCh (s : State) (c : Nat) (v : CanCh) : clkPart (State.setCanCh s c v) = clkPart s := by
  unfold State.setCanCh
  first
  | ((try dsimp only); (repeat' (first | with_reducible rfl | (with_reducible refine (clkPart_foldl _ _ _ (fun _ _ => ?_)).trans ?_) | (simp; done) | split | (rw [clkPart_mk, clkPart_fold]))); done)
  | ((repeat' split) <;> first | (simp; done) | with_reducible rfl)
  | (refine clkPart_foldl _ _ _ (fun a x => ?_); (repeat' split) <;> first | (simp; done) | with_reducible rfl)
  | ((try dsimp only); rw [clkPart_foldl] <;> first | (intro a x; (repeat' split) <;> first | (simp; done) | with_reducible rfl) | ((repeat' split) <;> first | (simp; done) | with_reducible rfl))
  | ((try dsimp only); (repeat' split) <;> first | (simp; done) | with_reducible rfl)
  | ((repeat' (with_reducible refine clkPart_ite ?_ ?_)) <;> first | (simp; done) | with_reducible rfl)
  | ((repeat' split) <;> first
      | (simp; done)
      | with_reducible rfl
      | (refine clkPart_foldl _ _ _ (fun a x => ?_); (repeat' split) <;> first | (simp; done) | with_reducible rfl)
      | ((try dsimp only); rw [clkPart_foldl] <;> first | (intro a x; (repeat' split) <;> first | (simp; done) | with_reducible rfl) | ((repeat' split) <;> first | (simp; done) | with_reducible rfl)))

@[simp↓] theorem clkPart_setCanBuf (s : State) (c : Nat) (b : Nat) (v : CanBuf) : clkPart (State.setCanBuf s c b v) = clkPart s := by
  unfold State.setCanBuf
  first
  | ((try dsimp only); (repeat' (first | with_reducible rfl | (with_reducible refine (clkPart_foldl _ _ _ (fun _ _ => ?_)).trans ?_) | (simp; done) | split | (rw [clkPart_mk, clkPart_fold]))); done)
  | ((repeat' split) <;> first | (simp; done) | with_reducible rfl)
  | (refine clkPart_foldl _ _ _ (fun a x => ?_); (repeat' split) <;> first | (simp; done) | with_reducible rfl)
  | ((try dsimp only); rw [clkPart_foldl] <;> first | (intro a x; (repeat' split) <;> first | (simp; done) | with_reducible rfl) | ((repeat' split) <;> first | (simp; done) | with_reducible rfl))
  | ((try dsimp only); (repeat' split) <;> first | (simp; done) | with_reducible rfl)
  | ((repeat' (with_reducible refine clkPart_ite ?_ ?_)) <;> first | (simp; done) | with_reducible rfl)
  | ((repeat' split) <;> first
      | (simp; done)
      | with_reducible rfl
      | (refine clkPart_foldl _ _ _ (fun a x => ?_); (repeat' split) <;> first | (simp; done) | with_reducible rfl)
      | ((try dsimp only); rw [clkPart_foldl] <;> first | (intro a x; (repeat' split) <;> first | (simp; done) | with_reducible rfl) | ((repeat' split) <;> first | (simp; done) | with_reducible rfl)))

@[simp↓] theorem clkPart_setCanPt (s : State) (p : Nat) (v : CanPt) : clkPart (State.setCanPt s p v) = clkPart s := by
  unfold State.setCanPt
  first
  | ((try dsimp only); (repeat' (first | with_reducible rfl | (with_reducible refine (clkPart_foldl _ _ _ (fun _ _ => ?_)).trans ?_) | (simp; done) | split | (rw [clkPart_mk, clkPart_fold]))); done)
  | ((repeat' split) <;> first | (simp; done) | with_reducible rfl)
  | (refine clkPart_foldl _ _ _ (fun a x => ?_); (repeat' split) <;> first | (simp; done) | with_reducible rfl)
  | ((try dsimp only); rw [clkPart_foldl] <;> first | (intro a x; (repeat' split) <;> first | (simp; done) | with_reducible rfl) | ((repeat' split) <;> first | (simp; done) | with_reducible rfl))
  | ((try dsimp only); (repeat' split) <;> first | (simp; done) | with_reducible rfl)
  | ((repeat' (with_reducible refine clkPart_ite ?_ ?_)) <;> first | (simp; done) | with_reducible rfl)
  | ((repeat' split) <;> first
      | (simp; done)
      | with_reducible rfl
      | (refine clkPart_foldl _ _ _ (fun a x => ?_); (repeat' split) <;> first | (simp; done) | with_reducible rfl)
      | ((try dsimp only); rw [clkPart_foldl] <;> first | (intro a x; (repeat' split) <;> first | (simp; done) | with_reducible rfl) | ((repeat' split) <;> first | (simp; done) | with_reducible rfl)))

@[simp↓] theorem clkPart_canDiag (s : State) (p : Nat) (d : Nat) (on : Bool) : clkPart (State.canDiag s p d on) = clkPart s := by
  unfold State.canDiag
  first
  | ((try dsimp only); (repeat' (first | with_reducible rfl | (with_reducible refine (clkPart_foldl _ _ _ (fun _ _ => ?_)).trans ?_) | (simp; done) | split | (rw [clkPart_mk, clkPart_fold]))); done)
  | ((repeat' split) <;> first | (simp; done) | with_reducible rfl)
  | (refine clkPart_foldl _ _ _ (fun a x => ?_); (repeat' split) <;> first | (simp; done) | with_reducible rfl)
  | ((try dsimp only); rw [clkPart_foldl] <;> first | (intro a x; (repeat' split) <;> first | (simp; done) | with_reducible rfl) | ((repeat' split) <;> first | (simp; done) | with_reducible rfl))
  | ((try dsimp only); (repeat' split) <;> first | (simp; done) | with_reducible rfl)
  | ((repeat' (with_reducible refine clkPart_ite ?_ ?_)) <;> first | (simp; done) | with_reducible rfl)
  | ((repeat' split) <;> first
      | (simp; done)
      | with_reducible rfl
      | (refine clkPart_foldl _ _ _ (fun a x => ?_); (repeat' split) <;> first | (simp; done) | with_reducible rfl)
      | ((try dsimp only); rw [clkPart_foldl] <;> first | (intro a x; (repeat' split) <;> first | (simp; done) | with_reducible rfl) | ((repeat' split) <;> first | (simp; done) | with_reducible rfl)))

@[simp↓] theorem clkPart_canStart (s : State) (c : Nat) : clkPart (State.canStart s c) = clkPart s := by
  unfold State.canStart
  first
  | ((try dsimp only); (repeat' (first | with_reducible rfl | (with_reducible refine (clkPart_foldl _ _ _ (fun _ _ => ?_)).trans ?_) | (simp; done) | split | (rw [clkPart_mk, clkPart_fold]))); done)
  | ((repeat' split) <;> first | (simp; done) | with_reducible rfl)
  | (refine clkPart_foldl _ _ _ (fun a x => ?_); (repeat' split) <;> first | (simp; done) | with_reducible rfl)
  | ((try dsimp only); rw [clkPart_foldl] <;> first | (intro a x; (repeat' split) <;> first | (simp; done) | with_reducible rfl) | ((repeat' split) <;> first | (simp; done) | with_reducible rfl))
  | ((try dsimp only); (repeat' split) <;> first | (simp; done) | with_reducible rfl)
  | ((repeat' (with_reducible refine clkPart_ite ?_ ?_)) <;> first | (simp; done) | with_reducible rfl)
  | ((repeat' split) <;> first
      | (simp; done)
      | with_reducible rfl
      | (refine clkPart_foldl _ _ _ (fun a x => ?_); (repeat' split) <;> first | (simp; done) | with_reducible rfl)
      | ((try dsimp only); rw [clkPart_foldl] <;> first | (intro a x; (repeat' split) <;> first | (simp; done) | with_reducible rfl) | ((repeat' split) <;> first | (simp; done) | with_reducible rfl)))

@[simp↓] theorem clkPart_canHandleEnd (s : State) (c : Nat) (b : Nat) (outcome : Nat) : clkPart (State.canHandleEnd s c b outcome) = clkPart s := by
  unfold State.canHandleEnd
  first
  | ((try dsimp only); (repeat' (first | with_reducible rfl | (with_reducible refine (clkPart_foldl _ _ _ (fun _ _ => ?_)).trans ?_) | (simp; done) | split | (rw [clkPart_mk, clkPart_fold]))); done)
  | ((repeat' split) <;> first | (simp; done) | with_reducible rfl)
  | (refine clkPart_foldl _ _ _ (fun a x => ?_); (repeat' split) <;> first | (simp; done) | with_reducible rfl)
  | ((try dsimp only); rw [clkPart_foldl] <;> first | (intro a x; (repeat' split) <;> first | (simp; done) | with_reducible rfl) | ((repeat' split) <;> first | (simp; done) | with_reducible rfl))
  | ((try dsimp only); (repeat' split) <;> first | (simp; done) | with_reducible rfl)
  | ((repeat' (with_reducible refine clkPart_ite ?_ ?_)) <;> first | (simp; done) | with_reducible rfl)
  | ((repeat' split) <;> first
      | (simp; done)
      | with_reducible rfl
      | (refine clkPart_foldl _ _ _ (fun a x => ?_); (repeat' split) <;> first | (simp; done) | with_reducible rfl)
      | ((try dsimp only); rw [clkPart_foldl] <;> first | (intro a x; (repeat' split) <;> first | (simp; done) | with_reducible rfl) | ((repeat' split) <;> first | (simp; done) | with_reducible rfl)))

@[simp↓] theorem clkPart_canEnd (s : State) (c : Nat) (b : Nat) (outcome : Nat) (late : Bool) : clkPart (State.canEnd s c b outcome late) = clkPart s := by
  unfold State.canEnd
  first
  | ((try dsimp only); (repeat' (first | with_reducible rfl | (with_reducible refine (clkPart_foldl _ _ _ (fun _ _ => ?_)).trans ?_) | (simp; done) | split | (rw [clkPart_mk, clkPart_fold]))); done)
  | ((repeat' split) <;> first | (simp; done) | with_reducible rfl)
  | (refine clkPart_foldl _ _ _ (fun a x => ?_); (repeat' split) <;> first | (simp; done) | with_reducible rfl)
  | ((try dsimp only); rw [clkPart_foldl] <;> first | (intro a x; (repeat' split) <;> first | (simp; done) | with_reducible rfl) | ((repeat' split) <;> first | (simp; done) | with_reducible rfl))
  | ((try dsimp only); (repeat' split) <;> first | (simp; done) | with_reducible rfl)
  | ((repeat' (with_reducible refine clkPart_ite ?_ ?_)) <;> first | (simp; done) | with_reducible rfl)
  | ((repeat' split) <;> first
      | (simp; done)
      | with_reducible rfl
      | (refine clkPart_foldl _ _ _ (fun a x => ?_); (repeat' split) <;> first | (simp; done) | with_reducible rfl)
      | ((try dsimp only); rw [clkPart_foldl] <;> first | (intro a x; (repeat' split) <;> first | (simp; done) | with_reducible rfl) | ((repeat' split) <;> first | (simp; done) | with_reducible rfl)))

@[simp↓] theorem clkPart_canEndHost (s : State) (c : Nat) (outcome : Nat) (shots : Bool) : clkPart (State.canEndHost s c outcome shots) = clkPart s := by
  unfold State.canEndHost
  first
  | ((try dsimp only); (repeat' (first | with_reducible rfl | (with_reducible refine (clkPart_foldl _ _ _ (fun _ _ => ?_)).trans ?_) | (simp; done) | split | (rw [clkPart_mk, clkPart_fold]))); done)
  | ((repeat' split) <;> first | (simp; done) | with_reducible rfl)
  | (refine clkPart_foldl _ _ _ (fun a x => ?_); (repeat' split) <;> first | (simp; done) | with_reducible rfl)
  | ((try dsimp only); rw [clkPart_foldl] <;> first | (intro a x; (repeat' split) <;> first | (simp; done) | with_reducible rfl) | ((repeat' split) <;> first | (simp; done) | with_reducible rfl))
  | ((try dsimp only); (repeat' split) <;> first | (simp; done) | with_reducible rfl)
  | ((repeat' (with_reducible refine clkPart_ite ?_ ?_)) <;> first | (simp; done) | with_reducible rfl)
  | ((repeat' split) <;> first
      | (simp; done)
      | with_reducible rfl
      | (refine clkPart_foldl _ _ _ (fun a x => ?_); (repeat' split) <;> first | (simp; done) | with_reducible rfl)
      | ((try dsimp only); rw [clkPart_foldl] <;> first | (intro a x; (repeat' split) <;> first | (simp; done) | with_reducible rfl) | ((repeat' split) <;> first | (simp; done) | with_reducible rfl)))

@[simp↓] theorem clkPart_canStartAll (s : State) : clkPart (State.canStartAll s) = clkPart s := by
  unfold State.canStartAll
  first
  | ((try dsimp only); (repeat' (first | with_reducible rfl | (with_reducible refine (clkPart_foldl _ _ _ (fun _ _ => ?_)).trans ?_) | (simp; done) | split | (rw [clkPart_mk, clkPart_fold]))); done)
  | ((repeat' split) <;> first | (simp; done) | with_reducible rfl)
  | (refine clkPart_foldl _ _ _ (fun a x => ?_); (repeat' split) <;> first | (simp; done) | with_reducible rfl)
  | ((try dsimp only); rw [clkPart_foldl] <;> first | (intro a x; (repeat' split) <;> first | (simp; done) | with_reducible rfl) | ((repeat' split) <;> first | (simp; done) | with_reducible rfl))
  | ((try dsimp only); (repeat' split) <;> first | (simp; done) | with_reducible rfl)
  | ((repeat' (with_reducible refine clkPart_ite ?_ ?_)) <;> first | (simp; done) | with_reducible rfl)
  | ((repeat' split) <;> first
      | (simp; done)
      | with_reducible rfl
      | (refine clkPart_foldl _ _ _ (fun a x => ?_); (repeat' split) <;> first | (simp; done) | with_reducible rfl)
      | ((try dsimp only); rw [clkPart_foldl] <;> first | (intro a x; (repeat' split) <;> first | (simp; done) | with_reducible rfl) | ((repeat' split) <;> first | (simp; done) | with_reducible rfl)))

@[simp↓] theorem clkPart_canPtStatus (s : State) (c : Nat) (b : Nat) (p : Nat) (rx : Bool) : clkPart (State.canPtStatus s c b p rx) = clkPart s := by
  unfold State.canPtStatus
  first
  | ((try dsimp only); (repeat' (first | with_reducible rfl | (with_reducible refine (clkPart_foldl _ _ _ (fun _ _ => ?_)).trans ?_) | (simp; done) | split | (rw [clkPart_mk, clkPart_fold]))); done)
  | ((repeat' split) <;> first | (simp; done) | with_reducible rfl)
  | (refine clkPart_foldl _ _ _ (fun a x => ?_); (repeat' split) <;> first | (simp; done) | with_reducible rfl)
  | ((try dsimp only); rw [clkPart_foldl] <;> first | (intro a x; (repeat' split) <;> first | (simp; done) | with_reducible rfl) | ((repeat' split) <;> first | (simp; done) | with_reducible rfl))
  | ((try dsimp only); (repeat' split) <;> first | (simp; done) | with_reducible rfl)
  | ((repeat' (with_reducible refine clkPart_ite ?_ ?_)) <;> first | (simp; done) | with_reducible rfl)
  | ((repeat' split) <;> first
      | (simp; done)
      | with_reducible rfl
      | (refine clkPart_foldl _ _ _ (fun a x => ?_); (repeat' split) <;> first | (simp; done) | with_reducible rfl)
      | ((try dsimp only); rw [clkPart_foldl] <;> first | (intro a x; (repeat' split) <;> first | (simp; done) | with_reducible rfl) | ((repeat' split) <;> first | (simp; done) | with_reducible rfl)))

@[simp↓] theorem clkPart_canStatuses (s : State) : clkPart (State.canStatuses s) = clkPart s := by
  unfold State.canStatuses
  first
  | ((try dsimp only); (repeat' (first | with_reducible rfl | (with_reducible refine (clkPart_foldl _ _ _ (fun _ _ => ?_)).trans ?_) | (simp; done) | split | (rw [clkPart_mk, clkPart_fold]))); done)
  | ((repeat' split) <;> first | (simp; done) | with_reducible rfl)
  | (refine clkPart_foldl _ _ _ (fun a x => ?_); (repeat' split) <;> first | (simp; done) | with_reducible rfl)
  | ((try dsimp only); rw [clkPart_foldl] <;> first | (intro a x; (repeat' split) <;> first | (simp; done) | with_reducible rfl) | ((repeat' split) <;> first | (simp; done) | with_reducible rfl))
  | ((try dsimp only); (repeat' split) <;> first | (simp; done) | with_reducible rfl)
  | ((repeat' (with_reducible refine clkPart_ite ?_ ?_)) <;> first | (simp; done) | with_reducible rfl)
  | ((repeat' split) <;> first
      | (simp; done)
      | with_reducible rfl
      | (refine clkPart_foldl _ _ _ (fun a x => ?_); (repeat' split) <;> first | (simp; done) | with_reducible rfl)
      | ((try dsimp only); rw [clkPart_foldl] <;> first | (intro a x; (repeat' split) <;> first | (simp; done) | with_reducible rfl) | ((repeat' split) <;> first | (simp; done) | with_reducible rfl)))

@[simp↓] theorem clkPart_decodeSig (s : State) (f : CanFrame) (v : PVal) : clkPart (State.decodeSig s f v) = clkPart s := by
  unfold State.decodeSig
  first
  | ((try dsimp only); (repeat' (first | with_reducible rfl | (with_reducible refine (clkPart_foldl _ _ _ (fun _ _ => ?_)).trans ?_) | (simp; done) | split | (rw [clkPart_mk, clkPart_fold]))); done)
  | ((repeat' split) <;> first | (simp; done) | with_reducible rfl)
  | (refine clkPart_foldl _ _ _ (fun a x => ?_); (repeat' split) <;> first | (simp; done) | with_reducible rfl)
  | ((try dsimp only); rw [clkPart_foldl] <;> first | (intro a x; (repeat' split) <;> first | (simp; done) | with_reducible rfl) | ((repeat' split) <;> first | (simp; done) | with_reducible rfl))
  | ((try dsimp only); (repeat' split) <;> first | (simp; done) | with_reducible rfl)
  | ((repeat' (with_reducible refine clkPart_ite ?_ ?_)) <;> first | (simp; done) | with_reducible rfl)
  | ((repeat' split) <;> first
      | (simp; done)
      | with_reducible rfl
      | (refine clkPart_foldl _ _ _ (fun a x => ?_); (repeat' split) <;> first | (simp; done) | with_reducible rfl)
      | ((try dsimp only); rw [clkPart_foldl] <;> first | (intro a x; (repeat' split) <;> first | (simp; done) | with_reducible rfl) | ((repeat' split) <;> first | (simp; done) | with_reducible rfl)))

@[simp↓] theorem clkPart_decodeBuf (s : State) (c : Nat) (b : Nat) : clkPart (State.decodeBuf s c b) = clkPart s := by
  unfold State.decodeBuf
  first
  | ((try dsimp only); (repeat' (first | with_reducible rfl | (with_reducible refine (clkPart_foldl _ _ _ (fun _ _ => ?_)).trans ?_) | (simp; done) | split | (rw [clkPart_mk, clkPart_fold]))); done)
  | ((repeat' split) <;> first | (simp; done) | with_reducible rfl)
  | (refine clkPart_foldl _ _ _ (fun a x => ?_); (repeat' split) <;> first | (simp; done) | with_reducible rfl)
  | ((try dsimp only); rw [clkPart_foldl] <;> first | (intro a x; (repeat' split) <;> first | (simp; done) | with_reducible rfl) | ((repeat' split) <;> first | (simp; done) | with_reducible rfl))
  | ((try dsimp only); (repeat' split) <;> first | (simp; done) | with_reducible rfl)
  | ((repeat' (with_reducible refine clkPart_ite ?_ ?_)) <;> first | (simp; done) | with_reducible rfl)
  | ((repeat' split) <;> first
      | (simp; done)
      | with_reducible rfl
      | (refine clkPart_foldl _ _ _ (fun a x => ?_); (repeat' split) <;> first | (simp; done) | with_reducible rfl)
      | ((try dsimp only); rw [clkPart_foldl] <;> first | (intro a x; (repeat' split) <;> first | (simp; done) | with_reducible rfl) | ((repeat' split) <;> first | (simp; done) | with_reducible rfl)))

@[simp↓] theorem clkPart_canDecode (s : State) : clkPart (State.canDecode s) = clkPart s := by
  unfold State.canDecode
  first
  | ((try dsimp only); (repeat' (first | with_reducible rfl | (with_reducible refine (clkPart_foldl _ _ _ (fun _ _ => ?_)).trans ?_) | (simp; done) | split | (rw [clkPart_mk, clkPart_fold]))); done)
  | ((repeat' split) <;> first | (simp; done) | with_reducible rfl)
  | (refine clkPart_foldl _ _ _ (fun a x => ?_); (repeat' split) <;> first | (simp; done) | with_reducible rfl)
  | ((try dsimp only); rw [clkPart_foldl] <;> first | (intro a x; (repeat' split) <;> first | (simp; done) | with_reducible rfl) | ((repeat' split) <;> first | (simp; done) | with_reducible rfl))
  | ((try dsimp only); (repeat' split) <;> first | (simp; done) | with_reducible rfl)
  | ((repeat' (with_reducible refine clkPart_ite ?_ ?_)) <;> first | (simp; done) | with_reducible rfl)
  | ((repeat' split) <;> first
      | (simp; done)
      | with_reducible rfl
      | (refine clkPart_foldl _ _ _ (fun a x => ?_); (repeat' split) <;> first | (simp; done) | with_reducible rfl)
      | ((try dsimp only); rw [clkPart_foldl] <;> first | (intro a x; (repeat' split) <;> first | (simp; done) | with_reducible rfl) | ((repeat' split) <;> first | (simp; done) | with_reducible rfl)))

@[simp↓] theorem clkPart_canElapse (s : State) : clkPart (State.canElapse s) = clkPart s := by
  unfold State.canElapse
  first
  | ((try dsimp only); (repeat' (first | with_reducible rfl | (with_reducible refine (clkPart_foldl _ _ _ (fun _ _ => ?_)).trans ?_) | (simp; done) | split | (rw [clkPart_mk, clkPart_fold]))); done)
  | ((repeat' split) <;> first | (simp; done) | with_reducible rfl)
  | (refine clkPart_foldl _ _ _ (fun a x => ?_); (repeat' split) <;> first | (simp; done) | with_reducible rfl)
  | ((try dsimp only); rw [clkPart_foldl] <;> first | (intro a x; (repeat' split) <;> first | (simp; done) | with_reducible rfl) | ((repeat' split) <;> first | (simp; done) | with_reducible rfl))
  | ((try dsimp only); (repeat' split) <;> first | (simp; done) | with_reducible rfl)
  | ((repeat' (with_reducible refine clkPart_ite ?_ ?_)) <;> first | (simp; done) | with_reducible rfl)
  | ((repeat' split) <;> first
      | (simp; done)
      | with_reducible rfl
      | (refine clkPart_foldl _ _ _ (fun a x => ?_); (repeat' split) <;> first | (simp; done) | with_reducible rfl)
      | ((try dsimp only); rw [clkPart_foldl] <;> first | (intro a x; (repeat' split) <;> first | (simp; done) | with_reducible rfl) | ((repeat' split) <;> first | (simp; done) | with_reducible rfl)))

@[simp↓] theorem clkPart_canTick (s : State) : clkPart (State.canTick s) = clkPart s := by
  unfold State.canTick
  first
  | ((try dsimp only); (repeat' (first | with_reducible rfl | (with_reducible refine (clkPart_foldl _ _ _ (fun _ _ => ?_)).trans ?_) | (simp; done) | split | (rw [clkPart_mk, clkPart_fold]))); done)
  | ((repeat' split) <;> first | (simp; done) | with_reducible rfl)
  | (refine clkPart_foldl _ _ _ (fun a x => ?_); (repeat' split) <;> first | (simp; done) | with_reducible rfl)
  | ((try dsimp only); rw [clkPart_foldl] <;> first | (intro a x; (repeat' split) <;> first | (simp; done) | with_reducible rfl) | ((repeat' split) <;> first | (simp; done) | with_reducible rfl))
  | ((try dsimp only); (repeat' split) <;> first | (simp; done) | with_reducible rfl)
  | ((repeat' (with_reducible refine clkPart_ite ?_ ?_)) <;> first | (simp; done) | with_reducible rfl)
  | ((repeat' split) <;> first
      | (simp; done)
      | with_reducible rfl
      | (refine clkPart_foldl _ _ _ (fun a x => ?_); (repeat' split) <;> first | (simp; done) | with_reducible rfl)
      | ((try dsimp only); rw [clkPart_foldl] <;> first | (intro a x; (repeat' split) <;> first | (simp; done) | with_reducible rfl) | ((repeat' split) <;> first | (simp; done) | with_reducible rfl)))

@[simp↓] theorem clkPart_keepLatch (s : State) : clkPart (State.keepLatch s) = clkPart s := by
  unfold State.keepLatch
  first
  | ((try dsimp only); (repeat' (first | with_reducible rfl | (with_reducible refine (clkPart_foldl _ _ _ (fun _ _ => ?_)).trans ?_) | (simp; done) | split | (rw [clkPart_mk, clkPart_fold]))); done)
  | ((repeat' split) <;> first | (simp; done) | with_reducible rfl)
  | (refine clkPart_foldl _ _ _ (fun a x => ?_); (repeat' split) <;> first | (simp; done) | with_reducible rfl)
  | ((try dsimp only); rw [clkPart_foldl] <;> first | (intro a x; (repeat' split) <;> first | (simp; done) | with_reducible rfl) | ((repeat' split) <;> first | (simp; done) | with_reducible rfl))
  | ((try dsimp only); (repeat' split) <;> first | (simp; done) | with_reducible rfl)
  | ((repeat' (with_reducible refine clkPart_ite ?_ ?_)) <;> first | (simp; done) | with_reducible rfl)
  | ((repeat' split) <;> first
      | (simp; done)
      | with_reducible rfl
      | (refine clkPart_foldl _ _ _ (fun a x => ?_); (repeat' split) <;> first | (simp; done) | with_reducible rfl)
      | ((try dsimp only); rw [clkPart_foldl] <;> first | (intro a x; (repeat' split) <;> first | (simp; done) | with_reducible rfl) | ((repeat' split) <;> first | (simp; done) | with_reducible rfl)))

@[simp↓] theorem clkPart_setTask (s : State) (t : Nat) (v : TaskSt) : clkPart (State.setTask s t v) = clkPart s := by
  unfold State.setTask
  first
  | ((try dsimp only); (repeat' (first | with_reducible rfl | (with_reducible refine (clkPart_foldl _ _ _ (fun _ _ => ?_)).trans ?_) | (simp; done) | split | (rw [clkPart_mk, clkPart_fold]))); done)
  | ((repeat' split) <;> first | (simp; done) | with_reducible rfl)
  | (refine clkPart_foldl _ _ _ (fun a x => ?_); (repeat' split) <;> first | (simp; done) | with_reducible rfl)
  | ((try dsimp only); rw [clkPart_foldl] <;> first | (intro a x; (repeat' split) <;> first | (simp; done) | with_reducible rfl) | ((repeat' split) <;> first | (simp; done) | with_reducible rfl))
  | ((try dsimp only); (repeat' split) <;> first | (simp; done) | with_reducible rfl)
  | ((repeat' (with_reducible refine clkPart_ite ?_ ?_)) <;> first | (simp; done) | with_reducible rfl)
  | ((repeat' split) <;> first
      | (simp; done)
      | with_reducible rfl
      | (refine clkPart_foldl _ _ _ (fun a x => ?_); (repeat' split) <;> first | (simp; done) | with_reducible rfl)
      | ((try dsimp only); rw [clkPart_foldl] <;> first | (intro a x; (repeat' split) <;> first | (simp; done) | with_reducible rfl) | ((repeat' split) <;> first | (simp; done) | with_reducible rfl)))

@[simp↓] theorem clkPart_adoptTasks (s : State) : clkPart (State.adoptTasks s) = clkPart s := by
  unfold State.adoptTasks
  first
  | ((try dsimp only); (repeat' (first | with_reducible rfl | (with_reducible refine (clkPart_foldl _ _ _ (fun _ _ => ?_)).trans ?_) | (simp; done) | split | (rw [clkPart_mk, clkPart_fold]))); done)
  | ((repeat' split) <;> first | (simp; done) | with_reducible rfl)
  | (refine clkPart_foldl _ _ _ (fun a x => ?_); (repeat' split) <;> first | (simp; done) | with_reducible rfl)
  | ((try dsimp only); rw [clkPart_foldl] <;> first | (intro a x; (repeat' split) <;> first | (simp; done) | with_reducible rfl) | ((repeat' split) <;> first | (simp; done) | with_reducible rfl))
  | ((try dsimp only); (repeat' split) <;> first | (simp; done) | with_reducible rfl)
  | ((repeat' (with_reducible refine clkPart_ite ?_ ?_)) <;> first | (simp; done) | with_reducible rfl)
  | ((repeat' split) <;> first
      | (simp; done)
      | with_reducible rfl
      | (refine clkPart_foldl _ _ _ (fun a x => ?_); (repeat' split) <;> first | (simp; done) | with_reducible rfl)
      | ((try dsimp only); rw [clkPart_foldl] <;> first | (intro a x; (repeat' split) <;> first | (simp; done) | with_reducible rfl) | ((repeat' split) <;> first | (simp; done) | with_reducible rfl)))

@[simp↓] theorem clkPart_setStn (s : State) (n : Nat) (v : Stn) : clkPart (State.setStn s n v) = clkPart s := by
  unfold State.setStn
  first
  | ((try dsimp only); (repeat' (first | with_reducible rfl | (with_reducible refine (clkPart_foldl _ _ _ (fun _ _ => ?_)).trans ?_) | (simp; done) | split | (rw [clkPart_mk, clkPart_fold]))); done)
  | ((repeat' split) <;> first | (simp; done) | with_reducible rfl)
  | (refine clkPart_foldl _ _ _ (fun a x => ?_); (repeat' split) <;> first | (simp; done) | with_reducible rfl)
  | ((try dsimp only); rw [clkPart_foldl] <;> first | (intro a x; (repeat' split) <;> first | (simp; done) | with_reducible rfl) | ((repeat' split) <;> first | (simp; done) | with_reducible rfl))
  | ((try dsimp only); (repeat' split) <;> first | (simp; done) | with_reducible rfl)
  | ((repeat' (with_reducible refine clkPart_ite ?_ ?_)) <;> first | (simp; done) | with_reducible rfl)
  | ((repeat' split) <;> first
      | (simp; done)
      | with_reducible rfl
      | (refine clkPart_foldl _ _ _ (fun a x => ?_); (repeat' split) <;> first | (simp; done) | with_reducible rfl)
      | ((try dsimp only); rw [clkPart_foldl] <;> first | (intro a x; (repeat' split) <;> first | (simp; done) | with_reducible rfl) | ((repeat' split) <;> first | (simp; done) | with_reducible rfl)))

@[simp↓] theorem clkPart_mapStnPts (s : State) (n : Nat) (f : Nat → Point → Point) : clkPart (State.mapStnPts s n f) = clkPart s := by
  unfold State.mapStnPts
  first
  | ((try dsimp only); (repeat' (first | with_reducible rfl | (with_reducible refine (clkPart_foldl _ _ _ (fun _ _ => ?_)).trans ?_) | (simp; done) | split | (rw [clkPart_mk, clkPart_fold]))); done)
  | ((repeat' split) <;> first | (simp; done) | with_reducible rfl)
  | (refine clkPart_foldl _ _ _ (fun a x => ?_); (repeat' split) <;> first | (simp; done) | with_reducible rfl)
  | ((try dsimp only); rw [clkPart_foldl] <;> first | (intro a x; (repeat' split) <;> first | (simp; done) | with_reducible rfl) | ((repeat' split) <;> first | (simp; done) | with_reducible rfl))
  | ((try dsimp only); (repeat' split) <;> first | (simp; done) | with_reducible rfl)
  | ((repeat' (with_reducible refine clkPart_ite ?_ ?_)) <;> first | (simp; done) | with_reducible rfl)
  | ((repeat' split) <;> first
      | (simp; done)
      | with_reducible rfl
      | (refine clkPart_foldl _ _ _ (fun a x => ?_); (repeat' split) <;> first | (simp; done) | with_reducible rfl)
      | ((try dsimp only); rw [clkPart_foldl] <;> first | (intro a x; (repeat' split) <;> first | (simp; done) | with_reducible rfl) | ((repeat' split) <;> first | (simp; done) | with_reducible rfl)))

@[simp↓] theorem clkPart_sendSeg (s : State) (n : Nat) (ftype : Nat) (epoch : Nat) (seg : Nat) (segs : Nat) (first : Nat) (count : Nat) (key : List Byte) (payload : List Byte) : clkPart (State.sendSeg s n ftype epoch seg segs first count key payload) = clkPart s := by
  unfold State.sendSeg
  first
  | ((try dsimp only); (repeat' (first | with_reducible rfl | (with_reducible refine (clkPart_foldl _ _ _ (fun _ _ => ?_)).trans ?_) | (simp; done) | split | (rw [clkPart_mk, clkPart_fold]))); done)
  | ((repeat' split) <;> first | (simp; done) | with_reducible rfl)
  | (refine clkPart_foldl _ _ _ (fun a x => ?_); (repeat' split) <;> first | (simp; done) | with_reducible rfl)
  | ((try dsimp only); rw [clkPart_foldl] <;> first | (intro a x; (repeat' split) <;> first | (simp; done) | with_reducible rfl) | ((repeat' split) <;> first | (simp; done) | with_reducible rfl))
  | ((try dsimp only); (repeat' split) <;> first | (simp; done) | with_reducible rfl)
  | ((repeat' (with_reducible refine clkPart_ite ?_ ?_)) <;> first | (simp; done) | with_reducible rfl)
  | ((repeat' split) <;> first
      | (simp; done)
      | with_reducible rfl
      | (refine clkPart_foldl _ _ _ (fun a x => ?_); (repeat' split) <;> first | (simp; done) | with_reducible rfl)
      | ((try dsimp only); rw [clkPart_foldl] <;> first | (intro a x; (repeat' split) <;> first | (simp; done) | with_reducible rfl) | ((repeat' split) <;> first | (simp; done) | with_reducible rfl)))

@[simp↓] theorem clkPart_sendStn (s : State) (n : Nat) (ftype : Nat) (epoch : Nat) (key : List Byte) (segs : List (Nat × Nat × List Byte)) : clkPart (State.sendStn s n ftype epoch key segs) = clkPart s := by
  unfold State.sendStn
  dsimp only
  rw [clkPart_setStn]
  generalize segs.length = m
  generalize hx : (s, 0) = x
  have hs : s = x.1 := by rw [← hx]
  rw [hs]
  clear hx hs
  induction segs generalizing x with
  | nil => rfl
  | cons y l ih => exact (ih _).trans (clkPart_sendSeg _ _ _ _ _ _ _ _ _ _)

@[simp↓] theorem clkPart_sendOutputs (s : State) (n : Nat) (a : Nat) (vals : List (Nat × F32)) : clkPart (State.sendOutputs s n a vals) = clkPart s := by
  unfold State.sendOutputs
  first
  | ((try dsimp only); (repeat' (first | with_reducible rfl | (with_reducible refine (clkPart_foldl _ _ _ (fun _ _ => ?_)).trans ?_) | (simp; done) | split | (rw [clkPart_mk, clkPart_fold]))); done)
  | ((repeat' split) <;> first | (simp; done) | with_reducible rfl)
  | (refine clkPart_foldl _ _ _ (fun a x => ?_); (repeat' split) <;> first | (simp; done) | with_reducible rfl)
  | ((try dsimp only); rw [clkPart_foldl] <;> first | (intro a x; (repeat' split) <;> first | (simp; done) | with_reducible rfl) | ((repeat' split) <;> first | (simp; done) | with_reducible rfl))
  | ((try dsimp only); (repeat' split) <;> first | (simp; done) | with_reducible rfl)
  | ((repeat' (with_reducible refine clkPart_ite ?_ ?_)) <;> first | (simp; done) | with_reducible rfl)
  | ((repeat' split) <;> first
      | (simp; done)
      | with_reducible rfl
      | (refine clkPart_foldl _ _ _ (fun a x => ?_); (repeat' split) <;> first | (simp; done) | with_reducible rfl)
      | ((try dsimp only); rw [clkPart_foldl] <;> first | (intro a x; (repeat' split) <;> first | (simp; done) | with_reducible rfl) | ((repeat' split) <;> first | (simp; done) | with_reducible rfl)))

@[simp↓] theorem clkPart_stnExtra (s : State) (t : Nat) (a : Nat) : clkPart (State.stnExtra s t a) = clkPart s := by
  unfold State.stnExtra
  first
  | ((try dsimp only); (repeat' (first | with_reducible rfl | (with_reducible refine (clkPart_foldl _ _ _ (fun _ _ => ?_)).trans ?_) | (simp; done) | split | (rw [clkPart_mk, clkPart_fold]))); done)
  | ((repeat' split) <;> first | (simp; done) | with_reducible rfl)
  | (refine clkPart_foldl _ _ _ (fun a x => ?_); (repeat' split) <;> first | (simp; done) | with_reducible rfl)
  | ((try dsimp only); rw [clkPart_foldl] <;> first | (intro a x; (repeat' split) <;> first | (simp; done) | with_reducible rfl) | ((repeat' split) <;> first | (simp; done) | with_reducible rfl))
  | ((try dsimp only); (repeat' split) <;> first | (simp; done) | with_reducible rfl)
  | ((repeat' (with_reducible refine clkPart_ite ?_ ?_)) <;> first | (simp; done) | with_reducible rfl)
  | ((repeat' split) <;> first
      | (simp; done)
      | with_reducible rfl
      | (refine clkPart_foldl _ _ _ (fun a x => ?_); (repeat' split) <;> first | (simp; done) | with_reducible rfl)
      | ((try dsimp only); rw [clkPart_foldl] <;> first | (intro a x; (repeat' split) <;> first | (simp; done) | with_reducible rfl) | ((repeat' split) <;> first | (simp; done) | with_reducible rfl)))

@[simp↓] theorem clkPart_followRail (s : State) : clkPart (State.followRail s) = clkPart s := by
  unfold State.followRail
  first
  | ((try dsimp only); (repeat' (first | with_reducible rfl | (with_reducible refine (clkPart_foldl _ _ _ (fun _ _ => ?_)).trans ?_) | (simp; done) | split | (rw [clkPart_mk, clkPart_fold]))); done)
  | ((repeat' split) <;> first | (simp; done) | with_reducible rfl)
  | (refine clkPart_foldl _ _ _ (fun a x => ?_); (repeat' split) <;> first | (simp; done) | with_reducible rfl)
  | ((try dsimp only); rw [clkPart_foldl] <;> first | (intro a x; (repeat' split) <;> first | (simp; done) | with_reducible rfl) | ((repeat' split) <;> first | (simp; done) | with_reducible rfl))
  | ((try dsimp only); (repeat' split) <;> first | (simp; done) | with_reducible rfl)
  | ((repeat' (with_reducible refine clkPart_ite ?_ ?_)) <;> first | (simp; done) | with_reducible rfl)
  | ((repeat' split) <;> first
      | (simp; done)
      | with_reducible rfl
      | (refine clkPart_foldl _ _ _ (fun a x => ?_); (repeat' split) <;> first | (simp; done) | with_reducible rfl)
      | ((try dsimp only); rw [clkPart_foldl] <;> first | (intro a x; (repeat' split) <;> first | (simp; done) | with_reducible rfl) | ((repeat' split) <;> first | (simp; done) | with_reducible rfl)))

@[simp↓] theorem clkPart_refreshBounds (s : State) : clkPart (State.refreshBounds s) = clkPart s := by
  unfold State.refreshBounds
  first
  | ((try dsimp only); (repeat' (first | with_reducible rfl | (with_reducible refine (clkPart_foldl _ _ _ (fun _ _ => ?_)).trans ?_) | (simp; done) | split | (rw [clkPart_mk, clkPart_fold]))); done)
  | ((repeat' split) <;> first | (simp; done) | with_reducible rfl)
  | (refine clkPart_foldl _ _ _ (fun a x => ?_); (repeat' split) <;> first | (simp; done) | with_reducible rfl)
  | ((try dsimp only); rw [clkPart_foldl] <;> first | (intro a x; (repeat' split) <;> first | (simp; done) | with_reducible rfl) | ((repeat' split) <;> first | (simp; done) | with_reducible rfl))
  | ((try dsimp only); (repeat' split) <;> first | (simp; done) | with_reducible rfl)
  | ((repeat' (with_reducible refine clkPart_ite ?_ ?_)) <;> first | (simp; done) | with_reducible rfl)
  | ((repeat' split) <;> first
      | (simp; done)
      | with_reducible rfl
      | (refine clkPart_foldl _ _ _ (fun a x => ?_); (repeat' split) <;> first | (simp; done) | with_reducible rfl)
      | ((try dsimp only); rw [clkPart_foldl] <;> first | (intro a x; (repeat' split) <;> first | (simp; done) | with_reducible rfl) | ((repeat' split) <;> first | (simp; done) | with_reducible rfl)))

@[simp↓] theorem clkPart_putVals (s : State) (l : List (Nat × F32)) : clkPart (State.putVals s l) = clkPart s := by
  unfold State.putVals
  first
  | ((try dsimp only); (repeat' (first | with_reducible rfl | (with_reducible refine (clkPart_foldl _ _ _ (fun _ _ => ?_)).trans ?_) | (simp; done) | split | (rw [clkPart_mk, clkPart_fold]))); done)
  | ((repeat' split) <;> first | (simp; done) | with_reducible rfl)
  | (refine clkPart_foldl _ _ _ (fun a x => ?_); (repeat' split) <;> first | (simp; done) | with_reducible rfl)
  | ((try dsimp only); rw [clkPart_foldl] <;> first | (intro a x; (repeat' split) <;> first | (simp; done) | with_reducible rfl) | ((repeat' split) <;> first | (simp; done) | with_reducible rfl))
  | ((try dsimp only); (repeat' split) <;> first | (simp; done) | with_reducible rfl)
  | ((repeat' (with_reducible refine clkPart_ite ?_ ?_)) <;> first | (simp; done) | with_reducible rfl)
  | ((repeat' split) <;> first
      | (simp; done)
      | with_reducible rfl
      | (refine clkPart_foldl _ _ _ (fun a x => ?_); (repeat' split) <;> first | (simp; done) | with_reducible rfl)
      | ((try dsimp only); rw [clkPart_foldl] <;> first | (intro a x; (repeat' split) <;> first | (simp; done) | with_reducible rfl) | ((repeat' split) <;> first | (simp; done) | with_reducible rfl)))

@[simp↓] theorem clkPart_stopTask (s : State) (p : Program) (t : Nat) : clkPart (State.stopTask s p t) = clkPart s := by
  unfold State.stopTask
  first
  | ((try dsimp only); (repeat' (first | with_reducible rfl | (with_reducible refine (clkPart_foldl _ _ _ (fun _ _ => ?_)).trans ?_) | (simp; done) | split | (rw [clkPart_mk, clkPart_fold]))); done)
  | ((repeat' split) <;> first | (simp; done) | with_reducible rfl)
  | (refine clkPart_foldl _ _ _ (fun a x => ?_); (repeat' split) <;> first | (simp; done) | with_reducible rfl)
  | ((try dsimp only); rw [clkPart_foldl] <;> first | (intro a x; (repeat' split) <;> first | (simp; done) | with_reducible rfl) | ((repeat' split) <;> first | (simp; done) | with_reducible rfl))
  | ((try dsimp only); (repeat' split) <;> first | (simp; done) | with_reducible rfl)
  | ((repeat' (with_reducible refine clkPart_ite ?_ ?_)) <;> first | (simp; done) | with_reducible rfl)
  | ((repeat' split) <;> first
      | (simp; done)
      | with_reducible rfl
      | (refine clkPart_foldl _ _ _ (fun a x => ?_); (repeat' split) <;> first | (simp; done) | with_reducible rfl)
      | ((try dsimp only); rw [clkPart_foldl] <;> first | (intro a x; (repeat' split) <;> first | (simp; done) | with_reducible rfl) | ((repeat' split) <;> first | (simp; done) | with_reducible rfl)))

@[simp↓] theorem clkPart_stopOutputs (s : State) : clkPart (State.stopOutputs s) = clkPart s := by
  unfold State.stopOutputs
  first
  | ((try dsimp only); (repeat' (first | with_reducible rfl | (with_reducible refine (clkPart_foldl _ _ _ (fun _ _ => ?_)).trans ?_) | (simp; done) | split | (rw [clkPart_mk, clkPart_fold]))); done)
  | ((repeat' split) <;> first | (simp; done) | with_reducible rfl)
  | (refine clkPart_foldl _ _ _ (fun a x => ?_); (repeat' split) <;> first | (simp; done) | with_reducible rfl)
  | ((try dsimp only); rw [clkPart_foldl] <;> first | (intro a x; (repeat' split) <;> first | (simp; done) | with_reducible rfl) | ((repeat' split) <;> first | (simp; done) | with_reducible rfl))
  | ((try dsimp only); (repeat' split) <;> first | (simp; done) | with_reducible rfl)
  | ((repeat' (with_reducible refine clkPart_ite ?_ ?_)) <;> first | (simp; done) | with_reducible rfl)
  | ((repeat' split) <;> first
      | (simp; done)
      | with_reducible rfl
      | (refine clkPart_foldl _ _ _ (fun a x => ?_); (repeat' split) <;> first | (simp; done) | with_reducible rfl)
      | ((try dsimp only); rw [clkPart_foldl] <;> first | (intro a x; (repeat' split) <;> first | (simp; done) | with_reducible rfl) | ((repeat' split) <;> first | (simp; done) | with_reducible rfl)))

@[simp↓] theorem clkPart_setLane (s : State) (l : Nat) (v : Lane) : clkPart (State.setLane s l v) = clkPart s := by
  unfold State.setLane
  first
  | ((try dsimp only); (repeat' (first | with_reducible rfl | (with_reducible refine (clkPart_foldl _ _ _ (fun _ _ => ?_)).trans ?_) | (simp; done) | split | (rw [clkPart_mk, clkPart_fold]))); done)
  | ((repeat' split) <;> first | (simp; done) | with_reducible rfl)
  | (refine clkPart_foldl _ _ _ (fun a x => ?_); (repeat' split) <;> first | (simp; done) | with_reducible rfl)
  | ((try dsimp only); rw [clkPart_foldl] <;> first | (intro a x; (repeat' split) <;> first | (simp; done) | with_reducible rfl) | ((repeat' split) <;> first | (simp; done) | with_reducible rfl))
  | ((try dsimp only); (repeat' split) <;> first | (simp; done) | with_reducible rfl)
  | ((repeat' (with_reducible refine clkPart_ite ?_ ?_)) <;> first | (simp; done) | with_reducible rfl)
  | ((repeat' split) <;> first
      | (simp; done)
      | with_reducible rfl
      | (refine clkPart_foldl _ _ _ (fun a x => ?_); (repeat' split) <;> first | (simp; done) | with_reducible rfl)
      | ((try dsimp only); rw [clkPart_foldl] <;> first | (intro a x; (repeat' split) <;> first | (simp; done) | with_reducible rfl) | ((repeat' split) <;> first | (simp; done) | with_reducible rfl)))

@[simp↓] theorem clkPart_pairFlag (s : State) (b : Nat) (on : Bool) : clkPart (State.pairFlag s b on) = clkPart s := by
  unfold State.pairFlag
  first
  | ((try dsimp only); (repeat' (first | with_reducible rfl | (with_reducible refine (clkPart_foldl _ _ _ (fun _ _ => ?_)).trans ?_) | (simp; done) | split | (rw [clkPart_mk, clkPart_fold]))); done)
  | ((repeat' split) <;> first | (simp; done) | with_reducible rfl)
  | (refine clkPart_foldl _ _ _ (fun a x => ?_); (repeat' split) <;> first | (simp; done) | with_reducible rfl)
  | ((try dsimp only); rw [clkPart_foldl] <;> first | (intro a x; (repeat' split) <;> first | (simp; done) | with_reducible rfl) | ((repeat' split) <;> first | (simp; done) | with_reducible rfl))
  | ((try dsimp only); (repeat' split) <;> first | (simp; done) | with_reducible rfl)
  | ((repeat' (with_reducible refine clkPart_ite ?_ ?_)) <;> first | (simp; done) | with_reducible rfl)
  | ((repeat' split) <;> first
      | (simp; done)
      | with_reducible rfl
      | (refine clkPart_foldl _ _ _ (fun a x => ?_); (repeat' split) <;> first | (simp; done) | with_reducible rfl)
      | ((try dsimp only); rw [clkPart_foldl] <;> first | (intro a x; (repeat' split) <;> first | (simp; done) | with_reducible rfl) | ((repeat' split) <;> first | (simp; done) | with_reducible rfl)))

@[simp↓] theorem clkPart_pushPast (s : State) : clkPart (State.pushPast s) = clkPart s := by
  unfold State.pushPast
  first
  | ((try dsimp only); (repeat' (first | with_reducible rfl | (with_reducible refine (clkPart_foldl _ _ _ (fun _ _ => ?_)).trans ?_) | (simp; done) | split | (rw [clkPart_mk, clkPart_fold]))); done)
  | ((repeat' split) <;> first | (simp; done) | with_reducible rfl)
  | (refine clkPart_foldl _ _ _ (fun a x => ?_); (repeat' split) <;> first | (simp; done) | with_reducible rfl)
  | ((try dsimp only); rw [clkPart_foldl] <;> first | (intro a x; (repeat' split) <;> first | (simp; done) | with_reducible rfl) | ((repeat' split) <;> first | (simp; done) | with_reducible rfl))
  | ((try dsimp only); (repeat' split) <;> first | (simp; done) | with_reducible rfl)
  | ((repeat' (with_reducible refine clkPart_ite ?_ ?_)) <;> first | (simp; done) | with_reducible rfl)
  | ((repeat' split) <;> first
      | (simp; done)
      | with_reducible rfl
      | (refine clkPart_foldl _ _ _ (fun a x => ?_); (repeat' split) <;> first | (simp; done) | with_reducible rfl)
      | ((try dsimp only); rw [clkPart_foldl] <;> first | (intro a x; (repeat' split) <;> first | (simp; done) | with_reducible rfl) | ((repeat' split) <;> first | (simp; done) | with_reducible rfl)))

@[simp↓] theorem clkPart_tickLive (s : State) (obs : TickIn) : clkPart (State.tickLive s obs) = clkPart s := by
  unfold State.tickLive
  first
  | ((try dsimp only); (repeat' (first | with_reducible rfl | (with_reducible refine (clkPart_foldl _ _ _ (fun _ _ => ?_)).trans ?_) | (simp; done) | split | (rw [clkPart_mk, clkPart_fold]))); done)
  | ((repeat' split) <;> first | (simp; done) | with_reducible rfl)
  | (refine clkPart_foldl _ _ _ (fun a x => ?_); (repeat' split) <;> first | (simp; done) | with_reducible rfl)
  | ((try dsimp only); rw [clkPart_foldl] <;> first | (intro a x; (repeat' split) <;> first | (simp; done) | with_reducible rfl) | ((repeat' split) <;> first | (simp; done) | with_reducible rfl))
  | ((try dsimp only); (repeat' split) <;> first | (simp; done) | with_reducible rfl)
  | ((repeat' (with_reducible refine clkPart_ite ?_ ?_)) <;> first | (simp; done) | with_reducible rfl)
  | ((repeat' split) <;> first
      | (simp; done)
      | with_reducible rfl
      | (refine clkPart_foldl _ _ _ (fun a x => ?_); (repeat' split) <;> first | (simp; done) | with_reducible rfl)
      | ((try dsimp only); rw [clkPart_foldl] <;> first | (intro a x; (repeat' split) <;> first | (simp; done) | with_reducible rfl) | ((repeat' split) <;> first | (simp; done) | with_reducible rfl)))

@[simp↓] theorem clkPart_tickField (s : State) (obs : TickIn) : clkPart (State.tickField s obs) = clkPart s := by
  unfold State.tickField
  rw [clkPart_startModes, clkPart_latchLocal, clkPart_keepLatch, clkPart_fieldTick, clkPart_tickLive]

@[simp↓] theorem clkPart_tickOutputs (s : State) : clkPart (State.tickOutputs s) = clkPart s := by
  unfold State.tickOutputs
  first
  | ((try dsimp only); (repeat' (first | with_reducible rfl | (with_reducible refine (clkPart_foldl _ _ _ (fun _ _ => ?_)).trans ?_) | (simp; done) | split | (rw [clkPart_mk, clkPart_fold]))); done)
  | ((repeat' split) <;> first | (simp; done) | with_reducible rfl)
  | (refine clkPart_foldl _ _ _ (fun a x => ?_); (repeat' split) <;> first | (simp; done) | with_reducible rfl)
  | ((try dsimp only); rw [clkPart_foldl] <;> first | (intro a x; (repeat' split) <;> first | (simp; done) | with_reducible rfl) | ((repeat' split) <;> first | (simp; done) | with_reducible rfl))
  | ((try dsimp only); (repeat' split) <;> first | (simp; done) | with_reducible rfl)
  | ((repeat' (with_reducible refine clkPart_ite ?_ ?_)) <;> first | (simp; done) | with_reducible rfl)
  | ((repeat' split) <;> first
      | (simp; done)
      | with_reducible rfl
      | (refine clkPart_foldl _ _ _ (fun a x => ?_); (repeat' split) <;> first | (simp; done) | with_reducible rfl)
      | ((try dsimp only); rw [clkPart_foldl] <;> first | (intro a x; (repeat' split) <;> first | (simp; done) | with_reducible rfl) | ((repeat' split) <;> first | (simp; done) | with_reducible rfl)))

@[simp↓] theorem clkPart_tickTasks (s : State) : clkPart (State.tickTasks s) = clkPart s := by
  unfold State.tickTasks
  first
  | ((try dsimp only); (repeat' (first | with_reducible rfl | (with_reducible refine (clkPart_foldl _ _ _ (fun _ _ => ?_)).trans ?_) | (simp; done) | split | (rw [clkPart_mk, clkPart_fold]))); done)
  | ((repeat' split) <;> first | (simp; done) | with_reducible rfl)
  | (refine clkPart_foldl _ _ _ (fun a x => ?_); (repeat' split) <;> first | (simp; done) | with_reducible rfl)
  | ((try dsimp only); rw [clkPart_foldl] <;> first | (intro a x; (repeat' split) <;> first | (simp; done) | with_reducible rfl) | ((repeat' split) <;> first | (simp; done) | with_reducible rfl))
  | ((try dsimp only); (repeat' split) <;> first | (simp; done) | with_reducible rfl)
  | ((repeat' (with_reducible refine clkPart_ite ?_ ?_)) <;> first | (simp; done) | with_reducible rfl)
  | ((repeat' split) <;> first
      | (simp; done)
      | with_reducible rfl
      | (refine clkPart_foldl _ _ _ (fun a x => ?_); (repeat' split) <;> first | (simp; done) | with_reducible rfl)
      | ((try dsimp only); rw [clkPart_foldl] <;> first | (intro a x; (repeat' split) <;> first | (simp; done) | with_reducible rfl) | ((repeat' split) <;> first | (simp; done) | with_reducible rfl)))

@[simp↓] theorem clkPart_tickSpeed (s : State) : clkPart (State.tickSpeed s) = clkPart s := by
  unfold State.tickSpeed
  first
  | ((try dsimp only); (repeat' (first | with_reducible rfl | (with_reducible refine (clkPart_foldl _ _ _ (fun _ _ => ?_)).trans ?_) | (simp; done) | split | (rw [clkPart_mk, clkPart_fold]))); done)
  | ((repeat' split) <;> first | (simp; done) | with_reducible rfl)
  | (refine clkPart_foldl _ _ _ (fun a x => ?_); (repeat' split) <;> first | (simp; done) | with_reducible rfl)
  | ((try dsimp only); rw [clkPart_foldl] <;> first | (intro a x; (repeat' split) <;> first | (simp; done) | with_reducible rfl) | ((repeat' split) <;> first | (simp; done) | with_reducible rfl))
  | ((try dsimp only); (repeat' split) <;> first | (simp; done) | with_reducible rfl)
  | ((repeat' (with_reducible refine clkPart_ite ?_ ?_)) <;> first | (simp; done) | with_reducible rfl)
  | ((repeat' split) <;> first
      | (simp; done)
      | with_reducible rfl
      | (refine clkPart_foldl _ _ _ (fun a x => ?_); (repeat' split) <;> first | (simp; done) | with_reducible rfl)
      | ((try dsimp only); rw [clkPart_foldl] <;> first | (intro a x; (repeat' split) <;> first | (simp; done) | with_reducible rfl) | ((repeat' split) <;> first | (simp; done) | with_reducible rfl)))

@[simp↓] theorem clkPart_tickPair (s : State) : clkPart (State.tickPair s) = clkPart s := by
  unfold State.tickPair
  first
  | ((try dsimp only); (repeat' (first | with_reducible rfl | (with_reducible refine (clkPart_foldl _ _ _ (fun _ _ => ?_)).trans ?_) | (simp; done) | split | (rw [clkPart_mk, clkPart_fold]))); done)
  | ((repeat' split) <;> first | (simp; done) | with_reducible rfl)
  | (refine clkPart_foldl _ _ _ (fun a x => ?_); (repeat' split) <;> first | (simp; done) | with_reducible rfl)
  | ((try dsimp only); rw [clkPart_foldl] <;> first | (intro a x; (repeat' split) <;> first | (simp; done) | with_reducible rfl) | ((repeat' split) <;> first | (simp; done) | with_reducible rfl))
  | ((try dsimp only); (repeat' split) <;> first | (simp; done) | with_reducible rfl)
  | ((repeat' (with_reducible refine clkPart_ite ?_ ?_)) <;> first | (simp; done) | with_reducible rfl)
  | ((repeat' split) <;> first
      | (simp; done)
      | with_reducible rfl
      | (refine clkPart_foldl _ _ _ (fun a x => ?_); (repeat' split) <;> first | (simp; done) | with_reducible rfl)
      | ((try dsimp only); rw [clkPart_foldl] <;> first | (intro a x; (repeat' split) <;> first | (simp; done) | with_reducible rfl) | ((repeat' split) <;> first | (simp; done) | with_reducible rfl)))

/-- The parts `key.slots`, `key.entries`, `key.ops`, `key.kek`, `key.kekValid`, `key.storeState`, `key.tamLatched`, `key.tamMask`, `key.enginesClear`, `key.fuseClear`. -/
def keyPart (s : State) := (s.key.slots, s.key.entries, s.key.ops, s.key.kek, s.key.kekValid, s.key.storeState, s.key.tamLatched, s.key.tamMask, s.key.enginesClear, s.key.fuseClear)

@[simp] theorem keyPart_fold (s : State) : (s.key.slots, s.key.entries, s.key.ops, s.key.kek, s.key.kekValid, s.key.storeState, s.key.tamLatched, s.key.tamMask, s.key.enginesClear, s.key.fuseClear) = keyPart s := rfl

@[simp↓] theorem keyPart_mk (epoch order ident host par lane prog model slv perc afe fed stn pts fio can net time key aud pair pwr rst drip past edge latch pending out free) : keyPart (State.mk epoch order ident host par lane prog model slv perc afe fed stn pts fio can net time key aud pair pwr rst drip past edge latch pending out free) = (key.slots, key.entries, key.ops, key.kek, key.kekValid, key.storeState, key.tamLatched, key.tamMask, key.enginesClear, key.fuseClear) := rfl

theorem keyPart_silent {s t : State} (h : Silent s t) : keyPart t = keyPart s := by rw [h.rest]; rfl

theorem keyPart_ite {c : Prop} [Decidable c] {a b s : State} (ha : keyPart a = keyPart s) (hb : keyPart b = keyPart s) :
    keyPart (if c then a else b) = keyPart s := by
  split <;> assumption

theorem keyPart_foldl {α : Type} (l : List α) (f : State → α → State) (s : State) (h : ∀ a x, keyPart (f a x) = keyPart a) :
    keyPart (l.foldl f s) = keyPart s := by
  induction l generalizing s with
  | nil => rfl
  | cons x l ih => exact (ih _).trans (h s x)

@[simp↓] theorem keyPart_emit (s : State) (m : OutMsg) : keyPart (State.emit s m) = keyPart s := by
  exact keyPart_silent (silent_emit _ _)

@[simp↓] theorem keyPart_setQueue (s : State) (n : Nat) (q : QPair) : keyPart (State.setQueue s n q) = keyPart s := by
  unfold State.setQueue
  first
  | ((try dsimp only); (repeat' (first | with_reducible rfl | (with_reducible refine (keyPart_foldl _ _ _ (fun _ _ => ?_)).trans ?_) | (simp; done) | split | (rw [keyPart_mk, keyPart_fold]))); done)
  | ((repeat' split) <;> first | (simp; done) | with_reducible rfl)
  | (refine keyPart_foldl _ _ _ (fun a x => ?_); (repeat' split) <;> first | (simp; done) | with_reducible rfl)
  | ((try dsimp only); rw [keyPart_foldl] <;> first | (intro a x; (repeat' split) <;> first | (simp; done) | with_reducible rfl) | ((repeat' split) <;> first | (simp; done) | with_reducible rfl))
  | ((try dsimp only); (repeat' split) <;> first | (simp; done) | with_reducible rfl)
  | ((repeat' (with_reducible refine keyPart_ite ?_ ?_)) <;> first | (simp; done) | with_reducible rfl)
  | ((repeat' split) <;> first
      | (simp; done)
      | with_reducible rfl
      | (refine keyPart_foldl _ _ _ (fun a x => ?_); (repeat' split) <;> first | (simp; done) | with_reducible rfl)
      | ((try dsimp only); rw [keyPart_foldl] <;> first | (intro a x; (repeat' split) <;> first | (simp; done) | with_reducible rfl) | ((repeat' split) <;> first | (simp; done) | with_reducible rfl)))

@[simp↓] theorem keyPart_setSess (s : State) (n : Nat) (v : Session) : keyPart (State.setSess s n v) = keyPart s := by
  unfold State.setSess
  first
  | ((try dsimp only); (repeat' (first | with_reducible rfl | (with_reducible refine (keyPart_foldl _ _ _ (fun _ _ => ?_)).trans ?_) | (simp; done) | split | (rw [keyPart_mk, keyPart_fold]))); done)
  | ((repeat' split) <;> first | (simp; done) | with_reducible rfl)
  | (refine keyPart_foldl _ _ _ (fun a x => ?_); (repeat' split) <;> first | (simp; done) | with_reducible rfl)
  | ((try dsimp only); rw [keyPart_foldl] <;> first | (intro a x; (repeat' split) <;> first | (simp; done) | with_reducible rfl) | ((repeat' split) <;> first | (simp; done) | with_reducible rfl))
  | ((try dsimp only); (repeat' split) <;> first | (simp; done) | with_reducible rfl)
  | ((repeat' (with_reducible refine keyPart_ite ?_ ?_)) <;> first | (simp; done) | with_reducible rfl)
  | ((repeat' split) <;> first
      | (simp; done)
      | with_reducible rfl
      | (refine keyPart_foldl _ _ _ (fun a x => ?_); (repeat' split) <;> first | (simp; done) | with_reducible rfl)
      | ((try dsimp only); rw [keyPart_foldl] <;> first | (intro a x; (repeat' split) <;> first | (simp; done) | with_reducible rfl) | ((repeat' split) <;> first | (simp; done) | with_reducible rfl)))

@[simp↓] theorem keyPart_auditPush (s : State) (r : AuditRec) : keyPart (State.auditPush s r) = keyPart s := by
  exact keyPart_silent (silent_auditPush _ _)

@[simp↓] theorem keyPart_auditDev (s : State) (kind : Nat) (opcode : Nat) (status : Nat) (subject : Nat) (data : List Byte) : keyPart (State.auditDev s kind opcode status subject data) = keyPart s := by
  exact keyPart_silent (silent_auditPush _ _)

@[simp↓] theorem keyPart_postQueue (s : State) (n : Nat) (e : Entry) (data : List Byte) : keyPart (State.postQueue s n e data).1 = keyPart s := by
  exact keyPart_silent (silent_postQueue _ _ _ _)

@[simp↓] theorem keyPart_post (s : State) (dst : Src) (e : Entry) (data : List Byte) : keyPart (State.post s dst e data).1 = keyPart s := by
  exact keyPart_silent (silent_post _ _ _ _)

@[simp↓] theorem keyPart_event (s : State) (code : Nat) (status : Nat) (data : List Byte) : keyPart (State.event s code status data) = keyPart s := by
  exact keyPart_silent (silent_event _ _ _ _)

@[simp↓] theorem keyPart_condition (s : State) (status : Nat) (data : List Byte) : keyPart (State.condition s status data) = keyPart s := by
  exact keyPart_silent (silent_condition _ _ _)

@[simp↓] theorem keyPart_freeHandle (s : State) (i : Nat) : keyPart (State.freeHandle s i) = keyPart s := by
  unfold State.freeHandle
  first
  | ((try dsimp only); (repeat' (first | with_reducible rfl | (with_reducible refine (keyPart_foldl _ _ _ (fun _ _ => ?_)).trans ?_) | (simp; done) | split | (rw [keyPart_mk, keyPart_fold]))); done)
  | ((repeat' split) <;> first | (simp; done) | with_reducible rfl)
  | (refine keyPart_foldl _ _ _ (fun a x => ?_); (repeat' split) <;> first | (simp; done) | with_reducible rfl)
  | ((try dsimp only); rw [keyPart_foldl] <;> first | (intro a x; (repeat' split) <;> first | (simp; done) | with_reducible rfl) | ((repeat' split) <;> first | (simp; done) | with_reducible rfl))
  | ((try dsimp only); (repeat' split) <;> first | (simp; done) | with_reducible rfl)
  | ((repeat' (with_reducible refine keyPart_ite ?_ ?_)) <;> first | (simp; done) | with_reducible rfl)
  | ((repeat' split) <;> first
      | (simp; done)
      | with_reducible rfl
      | (refine keyPart_foldl _ _ _ (fun a x => ?_); (repeat' split) <;> first | (simp; done) | with_reducible rfl)
      | ((try dsimp only); rw [keyPart_foldl] <;> first | (intro a x; (repeat' split) <;> first | (simp; done) | with_reducible rfl) | ((repeat' split) <;> first | (simp; done) | with_reducible rfl)))

@[simp↓] theorem keyPart_complete (s : State) (h : U32) (status : Nat) (detail : Nat) (data : List Byte) : keyPart (State.complete s h status detail data) = keyPart s := by
  unfold State.complete
  first
  | ((try dsimp only); (repeat' (first | with_reducible rfl | (with_reducible refine (keyPart_foldl _ _ _ (fun _ _ => ?_)).trans ?_) | (simp; done) | split | (rw [keyPart_mk, keyPart_fold]))); done)
  | ((repeat' split) <;> first | (simp; done) | with_reducible rfl)
  | (refine keyPart_foldl _ _ _ (fun a x => ?_); (repeat' split) <;> first | (simp; done) | with_reducible rfl)
  | ((try dsimp only); rw [keyPart_foldl] <;> first | (intro a x; (repeat' split) <;> first | (simp; done) | with_reducible rfl) | ((repeat' split) <;> first | (simp; done) | with_reducible rfl))
  | ((try dsimp only); (repeat' split) <;> first | (simp; done) | with_reducible rfl)
  | ((repeat' (with_reducible refine keyPart_ite ?_ ?_)) <;> first | (simp; done) | with_reducible rfl)
  | ((repeat' split) <;> first
      | (simp; done)
      | with_reducible rfl
      | (refine keyPart_foldl _ _ _ (fun a x => ?_); (repeat' split) <;> first | (simp; done) | with_reducible rfl)
      | ((try dsimp only); rw [keyPart_foldl] <;> first | (intro a x; (repeat' split) <;> first | (simp; done) | with_reducible rfl) | ((repeat' split) <;> first | (simp; done) | with_reducible rfl)))

@[simp↓] theorem keyPart_closeHandlesOf (s : State) (src : Src) : keyPart (State.closeHandlesOf s src) = keyPart s := by
  unfold State.closeHandlesOf
  first
  | ((try dsimp only); (repeat' (first | with_reducible rfl | (with_reducible refine (keyPart_foldl _ _ _ (fun _ _ => ?_)).trans ?_) | (simp; done) | split | (rw [keyPart_mk, keyPart_fold]))); done)
  | ((repeat' split) <;> first | (simp; done) | with_reducible rfl)
  | (refine keyPart_foldl _ _ _ (fun a x => ?_); (repeat' split) <;> first | (simp; done) | with_reducible rfl)
  | ((try dsimp only); rw [keyPart_foldl] <;> first | (intro a x; (repeat' split) <;> first | (simp; done) | with_reducible rfl) | ((repeat' split) <;> first | (simp; done) | with_reducible rfl))
  | ((try dsimp only); (repeat' split) <;> first | (simp; done) | with_reducible rfl)
  | ((repeat' (with_reducible refine keyPart_ite ?_ ?_)) <;> first | (simp; done) | with_reducible rfl)
  | ((repeat' split) <;> first
      | (simp; done)
      | with_reducible rfl
      | (refine keyPart_foldl _ _ _ (fun a x => ?_); (repeat' split) <;> first | (simp; done) | with_reducible rfl)
      | ((try dsimp only); rw [keyPart_foldl] <;> first | (intro a x; (repeat' split) <;> first | (simp; done) | with_reducible rfl) | ((repeat' split) <;> first | (simp; done) | with_reducible rfl)))

@[simp↓] theorem keyPart_closeEdge (s : State) : keyPart (State.closeEdge s) = keyPart s := by
  unfold State.closeEdge
  first
  | ((try dsimp only); (repeat' (first | with_reducible rfl | (with_reducible refine (keyPart_foldl _ _ _ (fun _ _ => ?_)).trans ?_) | (simp; done) | split | (rw [keyPart_mk, keyPart_fold]))); done)
  | ((repeat' split) <;> first | (simp; done) | with_reducible rfl)
  | (refine keyPart_foldl _ _ _ (fun a x => ?_); (repeat' split) <;> first | (simp; done) | with_reducible rfl)
  | ((try dsimp only); rw [keyPart_foldl] <;> first | (intro a x; (repeat' split) <;> first | (simp; done) | with_reducible rfl) | ((repeat' split) <;> first | (simp; done) | with_reducible rfl))
  | ((try dsimp only); (repeat' split) <;> first | (simp; done) | with_reducible rfl)
  | ((repeat' (with_reducible refine keyPart_ite ?_ ?_)) <;> first | (simp; done) | with_reducible rfl)
  | ((repeat' split) <;> first
      | (simp; done)
      | with_reducible rfl
      | (refine keyPart_foldl _ _ _ (fun a x => ?_); (repeat' split) <;> first | (simp; done) | with_reducible rfl)
      | ((try dsimp only); rw [keyPart_foldl] <;> first | (intro a x; (repeat' split) <;> first | (simp; done) | with_reducible rfl) | ((repeat' split) <;> first | (simp; done) | with_reducible rfl)))

@[simp↓] theorem keyPart_dropMakers (s : State) : keyPart (State.dropMakers s) = keyPart s := by
  unfold State.dropMakers
  first
  | ((try dsimp only); (repeat' (first | with_reducible rfl | (with_reducible refine (keyPart_foldl _ _ _ (fun _ _ => ?_)).trans ?_) | (simp; done) | split | (rw [keyPart_mk, keyPart_fold]))); done)
  | ((repeat' split) <;> first | (simp; done) | with_reducible rfl)
  | (refine keyPart_foldl _ _ _ (fun a x => ?_); (repeat' split) <;> first | (simp; done) | with_reducible rfl)
  | ((try dsimp only); rw [keyPart_foldl] <;> first | (intro a x; (repeat' split) <;> first | (simp; done) | with_reducible rfl) | ((repeat' split) <;> first | (simp; done) | with_reducible rfl))
  | ((try dsimp only); (repeat' split) <;> first | (simp; done) | with_reducible rfl)
  | ((repeat' (with_reducible refine keyPart_ite ?_ ?_)) <;> first | (simp; done) | with_reducible rfl)
  | ((repeat' split) <;> first
      | (simp; done)
      | with_reducible rfl
      | (refine keyPart_foldl _ _ _ (fun a x => ?_); (repeat' split) <;> first | (simp; done) | with_reducible rfl)
      | ((try dsimp only); rw [keyPart_foldl] <;> first | (intro a x; (repeat' split) <;> first | (simp; done) | with_reducible rfl) | ((repeat' split) <;> first | (simp; done) | with_reducible rfl)))

@[simp↓] theorem keyPart_dropStaging (s : State) (src : Src) : keyPart (State.dropStaging s src) = keyPart s := by
  unfold State.dropStaging
  first
  | ((try dsimp only); (repeat' (first | with_reducible rfl | (with_reducible refine (keyPart_foldl _ _ _ (fun _ _ => ?_)).trans ?_) | (simp; done) | split | (rw [keyPart_mk, keyPart_fold]))); done)
  | ((repeat' split) <;> first | (simp; done) | with_reducible rfl)
  | (refine keyPart_foldl _ _ _ (fun a x => ?_); (repeat' split) <;> first | (simp; done) | with_reducible rfl)
  | ((try dsimp only); rw [keyPart_foldl] <;> first | (intro a x; (repeat' split) <;> first | (simp; done) | with_reducible rfl) | ((repeat' split) <;> first | (simp; done) | with_reducible rfl))
  | ((try dsimp only); (repeat' split) <;> first | (simp; done) | with_reducible rfl)
  | ((repeat' (with_reducible refine keyPart_ite ?_ ?_)) <;> first | (simp; done) | with_reducible rfl)
  | ((repeat' split) <;> first
      | (simp; done)
      | with_reducible rfl
      | (refine keyPart_foldl _ _ _ (fun a x => ?_); (repeat' split) <;> first | (simp; done) | with_reducible rfl)
      | ((try dsimp only); rw [keyPart_foldl] <;> first | (intro a x; (repeat' split) <;> first | (simp; done) | with_reducible rfl) | ((repeat' split) <;> first | (simp; done) | with_reducible rfl)))

@[simp↓] theorem keyPart_unbindQueue (s : State) (q : Nat) : keyPart (State.unbindQueue s q) = keyPart s := by
  unfold State.unbindQueue
  first
  | ((try dsimp only); (repeat' (first | with_reducible rfl | (with_reducible refine (keyPart_foldl _ _ _ (fun _ _ => ?_)).trans ?_) | (simp; done) | split | (rw [keyPart_mk, keyPart_fold]))); done)
  | ((repeat' split) <;> first | (simp; done) | with_reducible rfl)
  | (refine keyPart_foldl _ _ _ (fun a x => ?_); (repeat' split) <;> first | (simp; done) | with_reducible rfl)
  | ((try dsimp only); rw [keyPart_foldl] <;> first | (intro a x; (repeat' split) <;> first | (simp; done) | with_reducible rfl) | ((repeat' split) <;> first | (simp; done) | with_reducible rfl))
  | ((try dsimp only); (repeat' split) <;> first | (simp; done) | with_reducible rfl)
  | ((repeat' (with_reducible refine keyPart_ite ?_ ?_)) <;> first | (simp; done) | with_reducible rfl)
  | ((repeat' split) <;> first
      | (simp; done)
      | with_reducible rfl
      | (refine keyPart_foldl _ _ _ (fun a x => ?_); (repeat' split) <;> first | (simp; done) | with_reducible rfl)
      | ((try dsimp only); rw [keyPart_foldl] <;> first | (intro a x; (repeat' split) <;> first | (simp; done) | with_reducible rfl) | ((repeat' split) <;> first | (simp; done) | with_reducible rfl)))

@[simp↓] theorem keyPart_setPort (s : State) (p : Nat) (v : PortSt1) : keyPart (State.setPort s p v) = keyPart s := by
  unfold State.setPort
  first
  | ((try dsimp only); (repeat' (first | with_reducible rfl | (with_reducible refine (keyPart_foldl _ _ _ (fun _ _ => ?_)).trans ?_) | (simp; done) | split | (rw [keyPart_mk, keyPart_fold]))); done)
  | ((repeat' split) <;> first | (simp; done) | with_reducible rfl)
  | (refine keyPart_foldl _ _ _ (fun a x => ?_); (repeat' split) <;> first | (simp; done) | with_reducible rfl)
  | ((try dsimp only); rw [keyPart_foldl] <;> first | (intro a x; (repeat' split) <;> first | (simp; done) | with_reducible rfl) | ((repeat' split) <;> first | (simp; done) | with_reducible rfl))
  | ((try dsimp only); (repeat' split) <;> first | (simp; done) | with_reducible rfl)
  | ((repeat' (with_reducible refine keyPart_ite ?_ ?_)) <;> first | (simp; done) | with_reducible rfl)
  | ((repeat' split) <;> first
      | (simp; done)
      | with_reducible rfl
      | (refine keyPart_foldl _ _ _ (fun a x => ?_); (repeat' split) <;> first | (simp; done) | with_reducible rfl)
      | ((try dsimp only); rw [keyPart_foldl] <;> first | (intro a x; (repeat' split) <;> first | (simp; done) | with_reducible rfl) | ((repeat' split) <;> first | (simp; done) | with_reducible rfl)))

@[simp↓] theorem keyPart_bumpAn (s : State) (l : U64) : keyPart (State.bumpAn s l) = keyPart s := by
  unfold State.bumpAn
  first
  | ((try dsimp only); (repeat' (first | with_reducible rfl | (with_reducible refine (keyPart_foldl _ _ _ (fun _ _ => ?_)).trans ?_) | (simp; done) | split | (rw [keyPart_mk, keyPart_fold]))); done)
  | ((repeat' split) <;> first | (simp; done) | with_reducible rfl)
  | (refine keyPart_foldl _ _ _ (fun a x => ?_); (repeat' split) <;> first | (simp; done) | with_reducible rfl)
  | ((try dsimp only); rw [keyPart_foldl] <;> first | (intro a x; (repeat' split) <;> first | (simp; done) | with_reducible rfl) | ((repeat' split) <;> first | (simp; done) | with_reducible rfl))
  | ((try dsimp only); (repeat' split) <;> first | (simp; done) | with_reducible rfl)
  | ((repeat' (with_reducible refine keyPart_ite ?_ ?_)) <;> first | (simp; done) | with_reducible rfl)
  | ((repeat' split) <;> first
      | (simp; done)
      | with_reducible rfl
      | (refine keyPart_foldl _ _ _ (fun a x => ?_); (repeat' split) <;> first | (simp; done) | with_reducible rfl)
      | ((try dsimp only); rw [keyPart_foldl] <;> first | (intro a x; (repeat' split) <;> first | (simp; done) | with_reducible rfl) | ((repeat' split) <;> first | (simp; done) | with_reducible rfl)))

@[simp↓] theorem keyPart_freshRx (s : State) (l : U64) (first : Bool) : keyPart (State.freshRx s l first) = keyPart s := by
  unfold State.freshRx
  first
  | ((try dsimp only); (repeat' (first | with_reducible rfl | (with_reducible refine (keyPart_foldl _ _ _ (fun _ _ => ?_)).trans ?_) | (simp; done) | split | (rw [keyPart_mk, keyPart_fold]))); done)
  | ((repeat' split) <;> first | (simp; done) | with_reducible rfl)
  | (refine keyPart_foldl _ _ _ (fun a x => ?_); (repeat' split) <;> first | (simp; done) | with_reducible rfl)
  | ((try dsimp only); rw [keyPart_foldl] <;> first | (intro a x; (repeat' split) <;> first | (simp; done) | with_reducible rfl) | ((repeat' split) <;> first | (simp; done) | with_reducible rfl))
  | ((try dsimp only); (repeat' split) <;> first | (simp; done) | with_reducible rfl)
  | ((repeat' (with_reducible refine keyPart_ite ?_ ?_)) <;> first | (simp; done) | with_reducible rfl)
  | ((repeat' split) <;> first
      | (simp; done)
      | with_reducible rfl
      | (refine keyPart_foldl _ _ _ (fun a x => ?_); (repeat' split) <;> first | (simp; done) | with_reducible rfl)
      | ((try dsimp only); rw [keyPart_foldl] <;> first | (intro a x; (repeat' split) <;> first | (simp; done) | with_reducible rfl) | ((repeat' split) <;> first | (simp; done) | with_reducible rfl)))

@[simp↓] theorem keyPart_auditKey (s : State) (l : U64) (status : Nat) (data : List Byte) : keyPart (State.auditKey s l status data) = keyPart s := by
  unfold State.auditKey
  first
  | ((try dsimp only); (repeat' (first | with_reducible rfl | (with_reducible refine (keyPart_foldl _ _ _ (fun _ _ => ?_)).trans ?_) | (simp; done) | split | (rw [keyPart_mk, keyPart_fold]))); done)
  | ((repeat' split) <;> first | (simp; done) | with_reducible rfl)
  | (refine keyPart_foldl _ _ _ (fun a x => ?_); (repeat' split) <;> first | (simp; done) | with_reducible rfl)
  | ((try dsimp only); rw [keyPart_foldl] <;> first | (intro a x; (repeat' split) <;> first | (simp; done) | with_reducible rfl) | ((repeat' split) <;> first | (simp; done) | with_reducible rfl))
  | ((try dsimp only); (repeat' split) <;> first | (simp; done) | with_reducible rfl)
  | ((repeat' (with_reducible refine keyPart_ite ?_ ?_)) <;> first | (simp; done) | with_reducible rfl)
  | ((repeat' split) <;> first
      | (simp; done)
      | with_reducible rfl
      | (refine keyPart_foldl _ _ _ (fun a x => ?_); (repeat' split) <;> first | (simp; done) | with_reducible rfl)
      | ((try dsimp only); rw [keyPart_foldl] <;> first | (intro a x; (repeat' split) <;> first | (simp; done) | with_reducible rfl) | ((repeat' split) <;> first | (simp; done) | with_reducible rfl)))

@[simp↓] theorem keyPart_closeSession (s : State) (n : Nat) : keyPart (State.closeSession s n) = keyPart s := by
  unfold State.closeSession
  first
  | ((try dsimp only); (repeat' (first | with_reducible rfl | (with_reducible refine (keyPart_foldl _ _ _ (fun _ _ => ?_)).trans ?_) | (simp; done) | split | (rw [keyPart_mk, keyPart_fold]))); done)
  | ((repeat' split) <;> first | (simp; done) | with_reducible rfl)
  | (refine keyPart_foldl _ _ _ (fun a x => ?_); (repeat' split) <;> first | (simp; done) | with_reducible rfl)
  | ((try dsimp only); rw [keyPart_foldl] <;> first | (intro a x; (repeat' split) <;> first | (simp; done) | with_reducible rfl) | ((repeat' split) <;> first | (simp; done) | with_reducible rfl))
  | ((try dsimp only); (repeat' split) <;> first | (simp; done) | with_reducible rfl)
  | ((repeat' (with_reducible refine keyPart_ite ?_ ?_)) <;> first | (simp; done) | with_reducible rfl)
  | ((repeat' split) <;> first
      | (simp; done)
      | with_reducible rfl
      | (refine keyPart_foldl _ _ _ (fun a x => ?_); (repeat' split) <;> first | (simp; done) | with_reducible rfl)
      | ((try dsimp only); rw [keyPart_foldl] <;> first | (intro a x; (repeat' split) <;> first | (simp; done) | with_reducible rfl) | ((repeat' split) <;> first | (simp; done) | with_reducible rfl)))

@[simp↓] theorem keyPart_endBinding (s : State) (src : Src) : keyPart (State.endBinding s src) = keyPart s := by
  unfold State.endBinding
  first
  | ((try dsimp only); (repeat' (first | with_reducible rfl | (with_reducible refine (keyPart_foldl _ _ _ (fun _ _ => ?_)).trans ?_) | (simp; done) | split | (rw [keyPart_mk, keyPart_fold]))); done)
  | ((repeat' split) <;> first | (simp; done) | with_reducible rfl)
  | (refine keyPart_foldl _ _ _ (fun a x => ?_); (repeat' split) <;> first | (simp; done) | with_reducible rfl)
  | ((try dsimp only); rw [keyPart_foldl] <;> first | (intro a x; (repeat' split) <;> first | (simp; done) | with_reducible rfl) | ((repeat' split) <;> first | (simp; done) | with_reducible rfl))
  | ((try dsimp only); (repeat' split) <;> first | (simp; done) | with_reducible rfl)
  | ((repeat' (with_reducible refine keyPart_ite ?_ ?_)) <;> first | (simp; done) | with_reducible rfl)
  | ((repeat' split) <;> first
      | (simp; done)
      | with_reducible rfl
      | (refine keyPart_foldl _ _ _ (fun a x => ?_); (repeat' split) <;> first | (simp; done) | with_reducible rfl)
      | ((try dsimp only); rw [keyPart_foldl] <;> first | (intro a x; (repeat' split) <;> first | (simp; done) | with_reducible rfl) | ((repeat' split) <;> first | (simp; done) | with_reducible rfl)))

@[simp↓] theorem keyPart_endBindings (s : State) (f : Binding → Bool) : keyPart (State.endBindings s f) = keyPart s := by
  unfold State.endBindings
  first
  | ((try dsimp only); (repeat' (first | with_reducible rfl | (with_reducible refine (keyPart_foldl _ _ _ (fun _ _ => ?_)).trans ?_) | (simp; done) | split | (rw [keyPart_mk, keyPart_fold]))); done)
  | ((repeat' split) <;> first | (simp; done) | with_reducible rfl)
  | (refine keyPart_foldl _ _ _ (fun a x => ?_); (repeat' split) <;> first | (simp; done) | with_reducible rfl)
  | ((try dsimp only); rw [keyPart_foldl] <;> first | (intro a x; (repeat' split) <;> first | (simp; done) | with_reducible rfl) | ((repeat' split) <;> first | (simp; done) | with_reducible rfl))
  | ((try dsimp only); (repeat' split) <;> first | (simp; done) | with_reducible rfl)
  | ((repeat' (with_reducible refine keyPart_ite ?_ ?_)) <;> first | (simp; done) | with_reducible rfl)
  | ((repeat' split) <;> first
      | (simp; done)
      | with_reducible rfl
      | (refine keyPart_foldl _ _ _ (fun a x => ?_); (repeat' split) <;> first | (simp; done) | with_reducible rfl)
      | ((try dsimp only); rw [keyPart_foldl] <;> first | (intro a x; (repeat' split) <;> first | (simp; done) | with_reducible rfl) | ((repeat' split) <;> first | (simp; done) | with_reducible rfl)))

/-- The parts `epoch`, `order`, `ident`, `par`, `lane`, `prog`, `model`, `slv`, `perc`, `afe`, `fed`, `stn`, `pts`, `fio`, `can`, `net`, `time`, `pair`, `pwr`, `rst`, `drip`, `past`, `latch`, `pending`, `free`, `key.slots`, `key.entries`, `key.ops`, `key.kek`, `key.kekValid`, `key.storeState`, `key.enginesClear`, `key.fuseClear`, `key.tamLatched`, `key.tamMask`, `key.tamCause`, `key.tamTime`, `key.tamPending`, `key.slotsBad`, `key.lastScrub`, `key.setups`. -/
def restPart (s : State) := (s.epoch, s.order, s.ident, s.par, s.lane, s.prog, s.model, s.slv, s.perc, s.afe, s.fed, s.stn, s.pts, s.fio, s.can, s.net, s.time, s.pair, s.pwr, s.rst, s.drip, s.past, s.latch, s.pending, s.free, s.key.slots, s.key.entries, s.key.ops, s.key.kek, s.key.kekValid, s.key.storeState, s.key.enginesClear, s.key.fuseClear, s.key.tamLatched, s.key.tamMask, s.key.tamCause, s.key.tamTime, s.key.tamPending, s.key.slotsBad, s.key.lastScrub, s.key.setups)

@[simp] theorem restPart_fold (s : State) : (s.epoch, s.order, s.ident, s.par, s.lane, s.prog, s.model, s.slv, s.perc, s.afe, s.fed, s.stn, s.pts, s.fio, s.can, s.net, s.time, s.pair, s.pwr, s.rst, s.drip, s.past, s.latch, s.pending, s.free, s.key.slots, s.key.entries, s.key.ops, s.key.kek, s.key.kekValid, s.key.storeState, s.key.enginesClear, s.key.fuseClear, s.key.tamLatched, s.key.tamMask, s.key.tamCause, s.key.tamTime, s.key.tamPending, s.key.slotsBad, s.key.lastScrub, s.key.setups) = restPart s := rfl

@[simp↓] theorem restPart_mk (epoch order ident host par lane prog model slv perc afe fed stn pts fio can net time key aud pair pwr rst drip past edge latch pending out free) : restPart (State.mk epoch order ident host par lane prog model slv perc afe fed stn pts fio can net time key aud pair pwr rst drip past edge latch pending out free) = (epoch, order, ident, par, lane, prog, model, slv, perc, afe, fed, stn, pts, fio, can, net, time, pair, pwr, rst, drip, past, latch, pending, free, key.slots, key.entries, key.ops, key.kek, key.kekValid, key.storeState, key.enginesClear, key.fuseClear, key.tamLatched, key.tamMask, key.tamCause, key.tamTime, key.tamPending, key.slotsBad, key.lastScrub, key.setups) := rfl

theorem restPart_silent {s t : State} (h : Silent s t) : restPart t = restPart s := by rw [h.rest]; rfl

theorem restPart_ite {c : Prop} [Decidable c] {a b s : State} (ha : restPart a = restPart s) (hb : restPart b = restPart s) :
    restPart (if c then a else b) = restPart s := by
  split <;> assumption

theorem restPart_foldl {α : Type} (l : List α) (f : State → α → State) (s : State) (h : ∀ a x, restPart (f a x) = restPart a) :
    restPart (l.foldl f s) = restPart s := by
  induction l generalizing s with
  | nil => rfl
  | cons x l ih => exact (ih _).trans (h s x)

@[simp↓] theorem restPart_emit (s : State) (m : OutMsg) : restPart (State.emit s m) = restPart s := by
  exact restPart_silent (silent_emit _ _)

@[simp↓] theorem restPart_sendMsix (s : State) (v : Nat) : restPart (State.sendMsix s v) = restPart s := by
  exact restPart_silent (silent_sendMsix _ _)

@[simp↓] theorem restPart_setQueue (s : State) (n : Nat) (q : QPair) : restPart (State.setQueue s n q) = restPart s := by
  unfold State.setQueue
  first
  | ((try dsimp only); (repeat' (first | with_reducible rfl | (with_reducible refine (restPart_foldl _ _ _ (fun _ _ => ?_)).trans ?_) | (simp; done) | split | (rw [restPart_mk, restPart_fold]))); done)
  | ((repeat' split) <;> first | (simp; done) | with_reducible rfl)
  | (refine restPart_foldl _ _ _ (fun a x => ?_); (repeat' split) <;> first | (simp; done) | with_reducible rfl)
  | ((try dsimp only); rw [restPart_foldl] <;> first | (intro a x; (repeat' split) <;> first | (simp; done) | with_reducible rfl) | ((repeat' split) <;> first | (simp; done) | with_reducible rfl))
  | ((try dsimp only); (repeat' split) <;> first | (simp; done) | with_reducible rfl)
  | ((repeat' (with_reducible refine restPart_ite ?_ ?_)) <;> first | (simp; done) | with_reducible rfl)
  | ((repeat' split) <;> first
      | (simp; done)
      | with_reducible rfl
      | (refine restPart_foldl _ _ _ (fun a x => ?_); (repeat' split) <;> first | (simp; done) | with_reducible rfl)
      | ((try dsimp only); rw [restPart_foldl] <;> first | (intro a x; (repeat' split) <;> first | (simp; done) | with_reducible rfl) | ((repeat' split) <;> first | (simp; done) | with_reducible rfl)))

@[simp↓] theorem restPart_setSess (s : State) (n : Nat) (v : Session) : restPart (State.setSess s n v) = restPart s := by
  unfold State.setSess
  first
  | ((try dsimp only); (repeat' (first | with_reducible rfl | (with_reducible refine (restPart_foldl _ _ _ (fun _ _ => ?_)).trans ?_) | (simp; done) | split | (rw [restPart_mk, restPart_fold]))); done)
  | ((repeat' split) <;> first | (simp; done) | with_reducible rfl)
  | (refine restPart_foldl _ _ _ (fun a x => ?_); (repeat' split) <;> first | (simp; done) | with_reducible rfl)
  | ((try dsimp only); rw [restPart_foldl] <;> first | (intro a x; (repeat' split) <;> first | (simp; done) | with_reducible rfl) | ((repeat' split) <;> first | (simp; done) | with_reducible rfl))
  | ((try dsimp only); (repeat' split) <;> first | (simp; done) | with_reducible rfl)
  | ((repeat' (with_reducible refine restPart_ite ?_ ?_)) <;> first | (simp; done) | with_reducible rfl)
  | ((repeat' split) <;> first
      | (simp; done)
      | with_reducible rfl
      | (refine restPart_foldl _ _ _ (fun a x => ?_); (repeat' split) <;> first | (simp; done) | with_reducible rfl)
      | ((try dsimp only); rw [restPart_foldl] <;> first | (intro a x; (repeat' split) <;> first | (simp; done) | with_reducible rfl) | ((repeat' split) <;> first | (simp; done) | with_reducible rfl)))

@[simp↓] theorem restPart_auditPush (s : State) (r : AuditRec) : restPart (State.auditPush s r) = restPart s := by
  exact restPart_silent (silent_auditPush _ _)

@[simp↓] theorem restPart_auditDev (s : State) (kind : Nat) (opcode : Nat) (status : Nat) (subject : Nat) (data : List Byte) : restPart (State.auditDev s kind opcode status subject data) = restPart s := by
  exact restPart_silent (silent_auditPush _ _)

@[simp↓] theorem restPart_postQueue (s : State) (n : Nat) (e : Entry) (data : List Byte) : restPart (State.postQueue s n e data).1 = restPart s := by
  exact restPart_silent (silent_postQueue _ _ _ _)

@[simp↓] theorem restPart_post (s : State) (dst : Src) (e : Entry) (data : List Byte) : restPart (State.post s dst e data).1 = restPart s := by
  exact restPart_silent (silent_post _ _ _ _)

@[simp↓] theorem restPart_event (s : State) (code : Nat) (status : Nat) (data : List Byte) : restPart (State.event s code status data) = restPart s := by
  exact restPart_silent (silent_event _ _ _ _)

@[simp↓] theorem restPart_condition (s : State) (status : Nat) (data : List Byte) : restPart (State.condition s status data) = restPart s := by
  exact restPart_silent (silent_condition _ _ _)

@[simp↓] theorem restPart_openHandle (s : State) (src : Src) (cq : Src) (tag : U32) (op : Nat) : restPart (State.openHandle s src cq tag op) = restPart s := by
  unfold State.openHandle
  first
  | ((try dsimp only); (repeat' (first | with_reducible rfl | (with_reducible refine (restPart_foldl _ _ _ (fun _ _ => ?_)).trans ?_) | (simp; done) | split | (rw [restPart_mk, restPart_fold]))); done)
  | ((repeat' split) <;> first | (simp; done) | with_reducible rfl)
  | (refine restPart_foldl _ _ _ (fun a x => ?_); (repeat' split) <;> first | (simp; done) | with_reducible rfl)
  | ((try dsimp only); rw [restPart_foldl] <;> first | (intro a x; (repeat' split) <;> first | (simp; done) | with_reducible rfl) | ((repeat' split) <;> first | (simp; done) | with_reducible rfl))
  | ((try dsimp only); (repeat' split) <;> first | (simp; done) | with_reducible rfl)
  | ((repeat' (with_reducible refine restPart_ite ?_ ?_)) <;> first | (simp; done) | with_reducible rfl)
  | ((repeat' split) <;> first
      | (simp; done)
      | with_reducible rfl
      | (refine restPart_foldl _ _ _ (fun a x => ?_); (repeat' split) <;> first | (simp; done) | with_reducible rfl)
      | ((try dsimp only); rw [restPart_foldl] <;> first | (intro a x; (repeat' split) <;> first | (simp; done) | with_reducible rfl) | ((repeat' split) <;> first | (simp; done) | with_reducible rfl)))

@[simp↓] theorem restPart_freeHandle (s : State) (i : Nat) : restPart (State.freeHandle s i) = restPart s := by
  unfold State.freeHandle
  first
  | ((try dsimp only); (repeat' (first | with_reducible rfl | (with_reducible refine (restPart_foldl _ _ _ (fun _ _ => ?_)).trans ?_) | (simp; done) | split | (rw [restPart_mk, restPart_fold]))); done)
  | ((repeat' split) <;> first | (simp; done) | with_reducible rfl)
  | (refine restPart_foldl _ _ _ (fun a x => ?_); (repeat' split) <;> first | (simp; done) | with_reducible rfl)
  | ((try dsimp only); rw [restPart_foldl] <;> first | (intro a x; (repeat' split) <;> first | (simp; done) | with_reducible rfl) | ((repeat' split) <;> first | (simp; done) | with_reducible rfl))
  | ((try dsimp only); (repeat' split) <;> first | (simp; done) | with_reducible rfl)
  | ((repeat' (with_reducible refine restPart_ite ?_ ?_)) <;> first | (simp; done) | with_reducible rfl)
  | ((repeat' split) <;> first
      | (simp; done)
      | with_reducible rfl
      | (refine restPart_foldl _ _ _ (fun a x => ?_); (repeat' split) <;> first | (simp; done) | with_reducible rfl)
      | ((try dsimp only); rw [restPart_foldl] <;> first | (intro a x; (repeat' split) <;> first | (simp; done) | with_reducible rfl) | ((repeat' split) <;> first | (simp; done) | with_reducible rfl)))

@[simp↓] theorem restPart_complete (s : State) (h : U32) (status : Nat) (detail : Nat) (data : List Byte) : restPart (State.complete s h status detail data) = restPart s := by
  unfold State.complete
  first
  | ((try dsimp only); (repeat' (first | with_reducible rfl | (with_reducible refine (restPart_foldl _ _ _ (fun _ _ => ?_)).trans ?_) | (simp; done) | split | (rw [restPart_mk, restPart_fold]))); done)
  | ((repeat' split) <;> first | (simp; done) | with_reducible rfl)
  | (refine restPart_foldl _ _ _ (fun a x => ?_); (repeat' split) <;> first | (simp; done) | with_reducible rfl)
  | ((try dsimp only); rw [restPart_foldl] <;> first | (intro a x; (repeat' split) <;> first | (simp; done) | with_reducible rfl) | ((repeat' split) <;> first | (simp; done) | with_reducible rfl))
  | ((try dsimp only); (repeat' split) <;> first | (simp; done) | with_reducible rfl)
  | ((repeat' (with_reducible refine restPart_ite ?_ ?_)) <;> first | (simp; done) | with_reducible rfl)
  | ((repeat' split) <;> first
      | (simp; done)
      | with_reducible rfl
      | (refine restPart_foldl _ _ _ (fun a x => ?_); (repeat' split) <;> first | (simp; done) | with_reducible rfl)
      | ((try dsimp only); rw [restPart_foldl] <;> first | (intro a x; (repeat' split) <;> first | (simp; done) | with_reducible rfl) | ((repeat' split) <;> first | (simp; done) | with_reducible rfl)))

@[simp↓] theorem restPart_progress (s : State) (h : U32) (p : Nat) : restPart (State.progress s h p) = restPart s := by
  unfold State.progress
  first
  | ((try dsimp only); (repeat' (first | with_reducible rfl | (with_reducible refine (restPart_foldl _ _ _ (fun _ _ => ?_)).trans ?_) | (simp; done) | split | (rw [restPart_mk, restPart_fold]))); done)
  | ((repeat' split) <;> first | (simp; done) | with_reducible rfl)
  | (refine restPart_foldl _ _ _ (fun a x => ?_); (repeat' split) <;> first | (simp; done) | with_reducible rfl)
  | ((try dsimp only); rw [restPart_foldl] <;> first | (intro a x; (repeat' split) <;> first | (simp; done) | with_reducible rfl) | ((repeat' split) <;> first | (simp; done) | with_reducible rfl))
  | ((try dsimp only); (repeat' split) <;> first | (simp; done) | with_reducible rfl)
  | ((repeat' (with_reducible refine restPart_ite ?_ ?_)) <;> first | (simp; done) | with_reducible rfl)
  | ((repeat' split) <;> first
      | (simp; done)
      | with_reducible rfl
      | (refine restPart_foldl _ _ _ (fun a x => ?_); (repeat' split) <;> first | (simp; done) | with_reducible rfl)
      | ((try dsimp only); rw [restPart_foldl] <;> first | (intro a x; (repeat' split) <;> first | (simp; done) | with_reducible rfl) | ((repeat' split) <;> first | (simp; done) | with_reducible rfl)))

@[simp↓] theorem restPart_closeHandlesOf (s : State) (src : Src) : restPart (State.closeHandlesOf s src) = restPart s := by
  unfold State.closeHandlesOf
  first
  | ((try dsimp only); (repeat' (first | with_reducible rfl | (with_reducible refine (restPart_foldl _ _ _ (fun _ _ => ?_)).trans ?_) | (simp; done) | split | (rw [restPart_mk, restPart_fold]))); done)
  | ((repeat' split) <;> first | (simp; done) | with_reducible rfl)
  | (refine restPart_foldl _ _ _ (fun a x => ?_); (repeat' split) <;> first | (simp; done) | with_reducible rfl)
  | ((try dsimp only); rw [restPart_foldl] <;> first | (intro a x; (repeat' split) <;> first | (simp; done) | with_reducible rfl) | ((repeat' split) <;> first | (simp; done) | with_reducible rfl))
  | ((try dsimp only); (repeat' split) <;> first | (simp; done) | with_reducible rfl)
  | ((repeat' (with_reducible refine restPart_ite ?_ ?_)) <;> first | (simp; done) | with_reducible rfl)
  | ((repeat' split) <;> first
      | (simp; done)
      | with_reducible rfl
      | (refine restPart_foldl _ _ _ (fun a x => ?_); (repeat' split) <;> first | (simp; done) | with_reducible rfl)
      | ((try dsimp only); rw [restPart_foldl] <;> first | (intro a x; (repeat' split) <;> first | (simp; done) | with_reducible rfl) | ((repeat' split) <;> first | (simp; done) | with_reducible rfl)))

@[simp↓] theorem restPart_closeEdge (s : State) : restPart (State.closeEdge s) = restPart s := by
  unfold State.closeEdge
  first
  | ((try dsimp only); (repeat' (first | with_reducible rfl | (with_reducible refine (restPart_foldl _ _ _ (fun _ _ => ?_)).trans ?_) | (simp; done) | split | (rw [restPart_mk, restPart_fold]))); done)
  | ((repeat' split) <;> first | (simp; done) | with_reducible rfl)
  | (refine restPart_foldl _ _ _ (fun a x => ?_); (repeat' split) <;> first | (simp; done) | with_reducible rfl)
  | ((try dsimp only); rw [restPart_foldl] <;> first | (intro a x; (repeat' split) <;> first | (simp; done) | with_reducible rfl) | ((repeat' split) <;> first | (simp; done) | with_reducible rfl))
  | ((try dsimp only); (repeat' split) <;> first | (simp; done) | with_reducible rfl)
  | ((repeat' (with_reducible refine restPart_ite ?_ ?_)) <;> first | (simp; done) | with_reducible rfl)
  | ((repeat' split) <;> first
      | (simp; done)
      | with_reducible rfl
      | (refine restPart_foldl _ _ _ (fun a x => ?_); (repeat' split) <;> first | (simp; done) | with_reducible rfl)
      | ((try dsimp only); rw [restPart_foldl] <;> first | (intro a x; (repeat' split) <;> first | (simp; done) | with_reducible rfl) | ((repeat' split) <;> first | (simp; done) | with_reducible rfl)))

@[simp↓] theorem restPart_dropMakers (s : State) : restPart (State.dropMakers s) = restPart s := by
  unfold State.dropMakers
  first
  | ((try dsimp only); (repeat' (first | with_reducible rfl | (with_reducible refine (restPart_foldl _ _ _ (fun _ _ => ?_)).trans ?_) | (simp; done) | split | (rw [restPart_mk, restPart_fold]))); done)
  | ((repeat' split) <;> first | (simp; done) | with_reducible rfl)
  | (refine restPart_foldl _ _ _ (fun a x => ?_); (repeat' split) <;> first | (simp; done) | with_reducible rfl)
  | ((try dsimp only); rw [restPart_foldl] <;> first | (intro a x; (repeat' split) <;> first | (simp; done) | with_reducible rfl) | ((repeat' split) <;> first | (simp; done) | with_reducible rfl))
  | ((try dsimp only); (repeat' split) <;> first | (simp; done) | with_reducible rfl)
  | ((repeat' (with_reducible refine restPart_ite ?_ ?_)) <;> first | (simp; done) | with_reducible rfl)
  | ((repeat' split) <;> first
      | (simp; done)
      | with_reducible rfl
      | (refine restPart_foldl _ _ _ (fun a x => ?_); (repeat' split) <;> first | (simp; done) | with_reducible rfl)
      | ((try dsimp only); rw [restPart_foldl] <;> first | (intro a x; (repeat' split) <;> first | (simp; done) | with_reducible rfl) | ((repeat' split) <;> first | (simp; done) | with_reducible rfl)))

@[simp↓] theorem restPart_unbindQueue (s : State) (q : Nat) : restPart (State.unbindQueue s q) = restPart s := by
  unfold State.unbindQueue
  first
  | ((try dsimp only); (repeat' (first | with_reducible rfl | (with_reducible refine (restPart_foldl _ _ _ (fun _ _ => ?_)).trans ?_) | (simp; done) | split | (rw [restPart_mk, restPart_fold]))); done)
  | ((repeat' split) <;> first | (simp; done) | with_reducible rfl)
  | (refine restPart_foldl _ _ _ (fun a x => ?_); (repeat' split) <;> first | (simp; done) | with_reducible rfl)
  | ((try dsimp only); rw [restPart_foldl] <;> first | (intro a x; (repeat' split) <;> first | (simp; done) | with_reducible rfl) | ((repeat' split) <;> first | (simp; done) | with_reducible rfl))
  | ((try dsimp only); (repeat' split) <;> first | (simp; done) | with_reducible rfl)
  | ((repeat' (with_reducible refine restPart_ite ?_ ?_)) <;> first | (simp; done) | with_reducible rfl)
  | ((repeat' split) <;> first
      | (simp; done)
      | with_reducible rfl
      | (refine restPart_foldl _ _ _ (fun a x => ?_); (repeat' split) <;> first | (simp; done) | with_reducible rfl)
      | ((try dsimp only); rw [restPart_foldl] <;> first | (intro a x; (repeat' split) <;> first | (simp; done) | with_reducible rfl) | ((repeat' split) <;> first | (simp; done) | with_reducible rfl)))

@[simp↓] theorem restPart_auditKey (s : State) (l : U64) (status : Nat) (data : List Byte) : restPart (State.auditKey s l status data) = restPart s := by
  unfold State.auditKey
  first
  | ((try dsimp only); (repeat' (first | with_reducible rfl | (with_reducible refine (restPart_foldl _ _ _ (fun _ _ => ?_)).trans ?_) | (simp; done) | split | (rw [restPart_mk, restPart_fold]))); done)
  | ((repeat' split) <;> first | (simp; done) | with_reducible rfl)
  | (refine restPart_foldl _ _ _ (fun a x => ?_); (repeat' split) <;> first | (simp; done) | with_reducible rfl)
  | ((try dsimp only); rw [restPart_foldl] <;> first | (intro a x; (repeat' split) <;> first | (simp; done) | with_reducible rfl) | ((repeat' split) <;> first | (simp; done) | with_reducible rfl))
  | ((try dsimp only); (repeat' split) <;> first | (simp; done) | with_reducible rfl)
  | ((repeat' (with_reducible refine restPart_ite ?_ ?_)) <;> first | (simp; done) | with_reducible rfl)
  | ((repeat' split) <;> first
      | (simp; done)
      | with_reducible rfl
      | (refine restPart_foldl _ _ _ (fun a x => ?_); (repeat' split) <;> first | (simp; done) | with_reducible rfl)
      | ((try dsimp only); rw [restPart_foldl] <;> first | (intro a x; (repeat' split) <;> first | (simp; done) | with_reducible rfl) | ((repeat' split) <;> first | (simp; done) | with_reducible rfl)))

/-- The parts `net`, `epoch`, `par`, `time`, `key.slots`, `key.entries`. -/
def portPart (s : State) := (s.net, s.epoch, s.par, s.time, s.key.slots, s.key.entries)

@[simp] theorem portPart_fold (s : State) : (s.net, s.epoch, s.par, s.time, s.key.slots, s.key.entries) = portPart s := rfl

@[simp↓] theorem portPart_mk (epoch order ident host par lane prog model slv perc afe fed stn pts fio can net time key aud pair pwr rst drip past edge latch pending out free) : portPart (State.mk epoch order ident host par lane prog model slv perc afe fed stn pts fio can net time key aud pair pwr rst drip past edge latch pending out free) = (net, epoch, par, time, key.slots, key.entries) := rfl

theorem portPart_silent {s t : State} (h : Silent s t) : portPart t = portPart s := by rw [h.rest]; rfl

theorem portPart_ite {c : Prop} [Decidable c] {a b s : State} (ha : portPart a = portPart s) (hb : portPart b = portPart s) :
    portPart (if c then a else b) = portPart s := by
  split <;> assumption

theorem portPart_foldl {α : Type} (l : List α) (f : State → α → State) (s : State) (h : ∀ a x, portPart (f a x) = portPart a) :
    portPart (l.foldl f s) = portPart s := by
  induction l generalizing s with
  | nil => rfl
  | cons x l ih => exact (ih _).trans (h s x)

@[simp↓] theorem portPart_setPt (s : State) (p : Nat) (v : Point) : portPart (State.setPt s p v) = portPart s := by
  unfold State.setPt
  first
  | ((try dsimp only); (repeat' (first | with_reducible rfl | (with_reducible refine (portPart_foldl _ _ _ (fun _ _ => ?_)).trans ?_) | (simp; done) | split | (rw [portPart_mk, portPart_fold]))); done)
  | ((repeat' split) <;> first | (simp; done) | with_reducible rfl)
  | (refine portPart_foldl _ _ _ (fun a x => ?_); (repeat' split) <;> first | (simp; done) | with_reducible rfl)
  | ((try dsimp only); rw [portPart_foldl] <;> first | (intro a x; (repeat' split) <;> first | (simp; done) | with_reducible rfl) | ((repeat' split) <;> first | (simp; done) | with_reducible rfl))
  | ((try dsimp only); (repeat' split) <;> first | (simp; done) | with_reducible rfl)
  | ((repeat' (with_reducible refine portPart_ite ?_ ?_)) <;> first | (simp; done) | with_reducible rfl)
  | ((repeat' split) <;> first
      | (simp; done)
      | with_reducible rfl
      | (refine portPart_foldl _ _ _ (fun a x => ?_); (repeat' split) <;> first | (simp; done) | with_reducible rfl)
      | ((try dsimp only); rw [portPart_foldl] <;> first | (intro a x; (repeat' split) <;> first | (simp; done) | with_reducible rfl) | ((repeat' split) <;> first | (simp; done) | with_reducible rfl)))

@[simp↓] theorem portPart_closeEdge (s : State) : portPart (State.closeEdge s) = portPart s := by
  unfold State.closeEdge
  first
  | ((try dsimp only); (repeat' (first | with_reducible rfl | (with_reducible refine (portPart_foldl _ _ _ (fun _ _ => ?_)).trans ?_) | (simp; done) | split | (rw [portPart_mk, portPart_fold]))); done)
  | ((repeat' split) <;> first | (simp; done) | with_reducible rfl)
  | (refine portPart_foldl _ _ _ (fun a x => ?_); (repeat' split) <;> first | (simp; done) | with_reducible rfl)
  | ((try dsimp only); rw [portPart_foldl] <;> first | (intro a x; (repeat' split) <;> first | (simp; done) | with_reducible rfl) | ((repeat' split) <;> first | (simp; done) | with_reducible rfl))
  | ((try dsimp only); (repeat' split) <;> first | (simp; done) | with_reducible rfl)
  | ((repeat' (with_reducible refine portPart_ite ?_ ?_)) <;> first | (simp; done) | with_reducible rfl)
  | ((repeat' split) <;> first
      | (simp; done)
      | with_reducible rfl
      | (refine portPart_foldl _ _ _ (fun a x => ?_); (repeat' split) <;> first | (simp; done) | with_reducible rfl)
      | ((try dsimp only); rw [portPart_foldl] <;> first | (intro a x; (repeat' split) <;> first | (simp; done) | with_reducible rfl) | ((repeat' split) <;> first | (simp; done) | with_reducible rfl)))

@[simp↓] theorem portPart_setStn (s : State) (n : Nat) (v : Stn) : portPart (State.setStn s n v) = portPart s := by
  unfold State.setStn
  first
  | ((try dsimp only); (repeat' (first | with_reducible rfl | (with_reducible refine (portPart_foldl _ _ _ (fun _ _ => ?_)).trans ?_) | (simp; done) | split | (rw [portPart_mk, portPart_fold]))); done)
  | ((repeat' split) <;> first | (simp; done) | with_reducible rfl)
  | (refine portPart_foldl _ _ _ (fun a x => ?_); (repeat' split) <;> first | (simp; done) | with_reducible rfl)
  | ((try dsimp only); rw [portPart_foldl] <;> first | (intro a x; (repeat' split) <;> first | (simp; done) | with_reducible rfl) | ((repeat' split) <;> first | (simp; done) | with_reducible rfl))
  | ((try dsimp only); (repeat' split) <;> first | (simp; done) | with_reducible rfl)
  | ((repeat' (with_reducible refine portPart_ite ?_ ?_)) <;> first | (simp; done) | with_reducible rfl)
  | ((repeat' split) <;> first
      | (simp; done)
      | with_reducible rfl
      | (refine portPart_foldl _ _ _ (fun a x => ?_); (repeat' split) <;> first | (simp; done) | with_reducible rfl)
      | ((try dsimp only); rw [portPart_foldl] <;> first | (intro a x; (repeat' split) <;> first | (simp; done) | with_reducible rfl) | ((repeat' split) <;> first | (simp; done) | with_reducible rfl)))

@[simp↓] theorem portPart_mapStnOuts (s : State) (n : Nat) (f : Point → Point) : portPart (State.mapStnOuts s n f) = portPart s := by
  unfold State.mapStnOuts
  first
  | ((try dsimp only); (repeat' (first | with_reducible rfl | (with_reducible refine (portPart_foldl _ _ _ (fun _ _ => ?_)).trans ?_) | (simp; done) | split | (rw [portPart_mk, portPart_fold]))); done)
  | ((repeat' split) <;> first | (simp; done) | with_reducible rfl)
  | (refine portPart_foldl _ _ _ (fun a x => ?_); (repeat' split) <;> first | (simp; done) | with_reducible rfl)
  | ((try dsimp only); rw [portPart_foldl] <;> first | (intro a x; (repeat' split) <;> first | (simp; done) | with_reducible rfl) | ((repeat' split) <;> first | (simp; done) | with_reducible rfl))
  | ((try dsimp only); (repeat' split) <;> first | (simp; done) | with_reducible rfl)
  | ((repeat' (with_reducible refine portPart_ite ?_ ?_)) <;> first | (simp; done) | with_reducible rfl)
  | ((repeat' split) <;> first
      | (simp; done)
      | with_reducible rfl
      | (refine portPart_foldl _ _ _ (fun a x => ?_); (repeat' split) <;> first | (simp; done) | with_reducible rfl)
      | ((try dsimp only); rw [portPart_foldl] <;> first | (intro a x; (repeat' split) <;> first | (simp; done) | with_reducible rfl) | ((repeat' split) <;> first | (simp; done) | with_reducible rfl)))

@[simp↓] theorem portPart_stnAbsent (u : State) (n : Nat) (reason : Nat) : portPart (State.stnAbsent u n reason) = portPart u := by
  unfold State.stnAbsent
  refine Eq.trans ?_ (portPart_closeEdge u)
  generalize u.closeEdge = s
  dsimp only
  refine portPart_ite (portPart_ite (portPart_setStn _ _ _) (portPart_ite rfl (portPart_ite ?_ (portPart_setStn _ _ _)))) rfl
  exact (portPart_mapStnOuts _ _ _).trans (portPart_setStn _ _ _)

/-- The parts `fio`, `par`, `rst`, `ident`, `pair.unit`. -/
def fioPart (s : State) := (s.fio, s.par, s.rst, s.ident, s.pair.unit)

@[simp] theorem fioPart_fold (s : State) : (s.fio, s.par, s.rst, s.ident, s.pair.unit) = fioPart s := rfl

@[simp↓] theorem fioPart_mk (epoch order ident host par lane prog model slv perc afe fed stn pts fio can net time key aud pair pwr rst drip past edge latch pending out free) : fioPart (State.mk epoch order ident host par lane prog model slv perc afe fed stn pts fio can net time key aud pair pwr rst drip past edge latch pending out free) = (fio, par, rst, ident, pair.unit) := rfl

theorem fioPart_silent {s t : State} (h : Silent s t) : fioPart t = fioPart s := by rw [h.rest]; rfl

theorem fioPart_ite {c : Prop} [Decidable c] {a b s : State} (ha : fioPart a = fioPart s) (hb : fioPart b = fioPart s) :
    fioPart (if c then a else b) = fioPart s := by
  split <;> assumption

theorem fioPart_foldl {α : Type} (l : List α) (f : State → α → State) (s : State) (h : ∀ a x, fioPart (f a x) = fioPart a) :
    fioPart (l.foldl f s) = fioPart s := by
  induction l generalizing s with
  | nil => rfl
  | cons x l ih => exact (ih _).trans (h s x)

@[simp↓] theorem fioPart_setPt (s : State) (p : Nat) (v : Point) : fioPart (State.setPt s p v) = fioPart s := by
  unfold State.setPt
  first
  | ((try dsimp only); (repeat' (first | with_reducible rfl | (with_reducible refine (fioPart_foldl _ _ _ (fun _ _ => ?_)).trans ?_) | (simp; done) | split | (rw [fioPart_mk, fioPart_fold]))); done)
  | ((repeat' split) <;> first | (simp; done) | with_reducible rfl)
  | (refine fioPart_foldl _ _ _ (fun a x => ?_); (repeat' split) <;> first | (simp; done) | with_reducible rfl)
  | ((try dsimp only); rw [fioPart_foldl] <;> first | (intro a x; (repeat' split) <;> first | (simp; done) | with_reducible rfl) | ((repeat' split) <;> first | (simp; done) | with_reducible rfl))
  | ((try dsimp only); (repeat' split) <;> first | (simp; done) | with_reducible rfl)
  | ((repeat' (with_reducible refine fioPart_ite ?_ ?_)) <;> first | (simp; done) | with_reducible rfl)
  | ((repeat' split) <;> first
      | (simp; done)
      | with_reducible rfl
      | (refine fioPart_foldl _ _ _ (fun a x => ?_); (repeat' split) <;> first | (simp; done) | with_reducible rfl)
      | ((try dsimp only); rw [fioPart_foldl] <;> first | (intro a x; (repeat' split) <;> first | (simp; done) | with_reducible rfl) | ((repeat' split) <;> first | (simp; done) | with_reducible rfl)))

@[simp↓] theorem fioPart_took (s : State) : fioPart (State.took s) = fioPart s := by
  unfold State.took
  first
  | ((try dsimp only); (repeat' (first | with_reducible rfl | (with_reducible refine (fioPart_foldl _ _ _ (fun _ _ => ?_)).trans ?_) | (simp; done) | split | (rw [fioPart_mk, fioPart_fold]))); done)
  | ((repeat' split) <;> first | (simp; done) | with_reducible rfl)
  | (refine fioPart_foldl _ _ _ (fun a x => ?_); (repeat' split) <;> first | (simp; done) | with_reducible rfl)
  | ((try dsimp only); rw [fioPart_foldl] <;> first | (intro a x; (repeat' split) <;> first | (simp; done) | with_reducible rfl) | ((repeat' split) <;> first | (simp; done) | with_reducible rfl))
  | ((try dsimp only); (repeat' split) <;> first | (simp; done) | with_reducible rfl)
  | ((repeat' (with_reducible refine fioPart_ite ?_ ?_)) <;> first | (simp; done) | with_reducible rfl)
  | ((repeat' split) <;> first
      | (simp; done)
      | with_reducible rfl
      | (refine fioPart_foldl _ _ _ (fun a x => ?_); (repeat' split) <;> first | (simp; done) | with_reducible rfl)
      | ((try dsimp only); rw [fioPart_foldl] <;> first | (intro a x; (repeat' split) <;> first | (simp; done) | with_reducible rfl) | ((repeat' split) <;> first | (simp; done) | with_reducible rfl)))

@[simp↓] theorem fioPart_closeEdge (s : State) : fioPart (State.closeEdge s) = fioPart s := by
  unfold State.closeEdge
  first
  | ((try dsimp only); (repeat' (first | with_reducible rfl | (with_reducible refine (fioPart_foldl _ _ _ (fun _ _ => ?_)).trans ?_) | (simp; done) | split | (rw [fioPart_mk, fioPart_fold]))); done)
  | ((repeat' split) <;> first | (simp; done) | with_reducible rfl)
  | (refine fioPart_foldl _ _ _ (fun a x => ?_); (repeat' split) <;> first | (simp; done) | with_reducible rfl)
  | ((try dsimp only); rw [fioPart_foldl] <;> first | (intro a x; (repeat' split) <;> first | (simp; done) | with_reducible rfl) | ((repeat' split) <;> first | (simp; done) | with_reducible rfl))
  | ((try dsimp only); (repeat' split) <;> first | (simp; done) | with_reducible rfl)
  | ((repeat' (with_reducible refine fioPart_ite ?_ ?_)) <;> first | (simp; done) | with_reducible rfl)
  | ((repeat' split) <;> first
      | (simp; done)
      | with_reducible rfl
      | (refine fioPart_foldl _ _ _ (fun a x => ?_); (repeat' split) <;> first | (simp; done) | with_reducible rfl)
      | ((try dsimp only); rw [fioPart_foldl] <;> first | (intro a x; (repeat' split) <;> first | (simp; done) | with_reducible rfl) | ((repeat' split) <;> first | (simp; done) | with_reducible rfl)))

@[simp↓] theorem fioPart_kept (s : State) (p : Nat) (st : BitVec 16) : fioPart (State.kept s p st) = fioPart s := by
  unfold State.kept
  first
  | ((try dsimp only); (repeat' (first | with_reducible rfl | (with_reducible refine (fioPart_foldl _ _ _ (fun _ _ => ?_)).trans ?_) | (simp; done) | split | (rw [fioPart_mk, fioPart_fold]))); done)
  | ((repeat' split) <;> first | (simp; done) | with_reducible rfl)
  | (refine fioPart_foldl _ _ _ (fun a x => ?_); (repeat' split) <;> first | (simp; done) | with_reducible rfl)
  | ((try dsimp only); rw [fioPart_foldl] <;> first | (intro a x; (repeat' split) <;> first | (simp; done) | with_reducible rfl) | ((repeat' split) <;> first | (simp; done) | with_reducible rfl))
  | ((try dsimp only); (repeat' split) <;> first | (simp; done) | with_reducible rfl)
  | ((repeat' (with_reducible refine fioPart_ite ?_ ?_)) <;> first | (simp; done) | with_reducible rfl)
  | ((repeat' split) <;> first
      | (simp; done)
      | with_reducible rfl
      | (refine fioPart_foldl _ _ _ (fun a x => ?_); (repeat' split) <;> first | (simp; done) | with_reducible rfl)
      | ((try dsimp only); rw [fioPart_foldl] <;> first | (intro a x; (repeat' split) <;> first | (simp; done) | with_reducible rfl) | ((repeat' split) <;> first | (simp; done) | with_reducible rfl)))

@[simp↓] theorem fioPart_unused (s : State) (p : Nat) : fioPart (State.unused s p) = fioPart s := by
  unfold State.unused
  first
  | ((try dsimp only); (repeat' (first | with_reducible rfl | (with_reducible refine (fioPart_foldl _ _ _ (fun _ _ => ?_)).trans ?_) | (simp; done) | split | (rw [fioPart_mk, fioPart_fold]))); done)
  | ((repeat' split) <;> first | (simp; done) | with_reducible rfl)
  | (refine fioPart_foldl _ _ _ (fun a x => ?_); (repeat' split) <;> first | (simp; done) | with_reducible rfl)
  | ((try dsimp only); rw [fioPart_foldl] <;> first | (intro a x; (repeat' split) <;> first | (simp; done) | with_reducible rfl) | ((repeat' split) <;> first | (simp; done) | with_reducible rfl))
  | ((try dsimp only); (repeat' split) <;> first | (simp; done) | with_reducible rfl)
  | ((repeat' (with_reducible refine fioPart_ite ?_ ?_)) <;> first | (simp; done) | with_reducible rfl)
  | ((repeat' split) <;> first
      | (simp; done)
      | with_reducible rfl
      | (refine fioPart_foldl _ _ _ (fun a x => ?_); (repeat' split) <;> first | (simp; done) | with_reducible rfl)
      | ((try dsimp only); rw [fioPart_foldl] <;> first | (intro a x; (repeat' split) <;> first | (simp; done) | with_reducible rfl) | ((repeat' split) <;> first | (simp; done) | with_reducible rfl)))

@[simp↓] theorem fioPart_latchDigital (s : State) (c : Nat) : fioPart (State.latchDigital s c) = fioPart s := by
  unfold State.latchDigital
  first
  | ((try dsimp only); (repeat' (first | with_reducible rfl | (with_reducible refine (fioPart_foldl _ _ _ (fun _ _ => ?_)).trans ?_) | (simp; done) | split | (rw [fioPart_mk, fioPart_fold]))); done)
  | ((repeat' split) <;> first | (simp; done) | with_reducible rfl)
  | (refine fioPart_foldl _ _ _ (fun a x => ?_); (repeat' split) <;> first | (simp; done) | with_reducible rfl)
  | ((try dsimp only); rw [fioPart_foldl] <;> first | (intro a x; (repeat' split) <;> first | (simp; done) | with_reducible rfl) | ((repeat' split) <;> first | (simp; done) | with_reducible rfl))
  | ((try dsimp only); (repeat' split) <;> first | (simp; done) | with_reducible rfl)
  | ((repeat' (with_reducible refine fioPart_ite ?_ ?_)) <;> first | (simp; done) | with_reducible rfl)
  | ((repeat' split) <;> first
      | (simp; done)
      | with_reducible rfl
      | (refine fioPart_foldl _ _ _ (fun a x => ?_); (repeat' split) <;> first | (simp; done) | with_reducible rfl)
      | ((try dsimp only); rw [fioPart_foldl] <;> first | (intro a x; (repeat' split) <;> first | (simp; done) | with_reducible rfl) | ((repeat' split) <;> first | (simp; done) | with_reducible rfl)))

@[simp↓] theorem fioPart_latchPulse (s : State) (c : Nat) : fioPart (State.latchPulse s c) = fioPart s := by
  unfold State.latchPulse
  first
  | ((try dsimp only); (repeat' (first | with_reducible rfl | (with_reducible refine (fioPart_foldl _ _ _ (fun _ _ => ?_)).trans ?_) | (simp; done) | split | (rw [fioPart_mk, fioPart_fold]))); done)
  | ((repeat' split) <;> first | (simp; done) | with_reducible rfl)
  | (refine fioPart_foldl _ _ _ (fun a x => ?_); (repeat' split) <;> first | (simp; done) | with_reducible rfl)
  | ((try dsimp only); rw [fioPart_foldl] <;> first | (intro a x; (repeat' split) <;> first | (simp; done) | with_reducible rfl) | ((repeat' split) <;> first | (simp; done) | with_reducible rfl))
  | ((try dsimp only); (repeat' split) <;> first | (simp; done) | with_reducible rfl)
  | ((repeat' (with_reducible refine fioPart_ite ?_ ?_)) <;> first | (simp; done) | with_reducible rfl)
  | ((repeat' split) <;> first
      | (simp; done)
      | with_reducible rfl
      | (refine fioPart_foldl _ _ _ (fun a x => ?_); (repeat' split) <;> first | (simp; done) | with_reducible rfl)
      | ((try dsimp only); rw [fioPart_foldl] <;> first | (intro a x; (repeat' split) <;> first | (simp; done) | with_reducible rfl) | ((repeat' split) <;> first | (simp; done) | with_reducible rfl)))

@[simp↓] theorem fioPart_latchOutput (s : State) (c : Nat) : fioPart (State.latchOutput s c) = fioPart s := by
  unfold State.latchOutput
  first
  | ((try dsimp only); (repeat' (first | with_reducible rfl | (with_reducible refine (fioPart_foldl _ _ _ (fun _ _ => ?_)).trans ?_) | (simp; done) | split | (rw [fioPart_mk, fioPart_fold]))); done)
  | ((repeat' split) <;> first | (simp; done) | with_reducible rfl)
  | (refine fioPart_foldl _ _ _ (fun a x => ?_); (repeat' split) <;> first | (simp; done) | with_reducible rfl)
  | ((try dsimp only); rw [fioPart_foldl] <;> first | (intro a x; (repeat' split) <;> first | (simp; done) | with_reducible rfl) | ((repeat' split) <;> first | (simp; done) | with_reducible rfl))
  | ((try dsimp only); (repeat' split) <;> first | (simp; done) | with_reducible rfl)
  | ((repeat' (with_reducible refine fioPart_ite ?_ ?_)) <;> first | (simp; done) | with_reducible rfl)
  | ((repeat' split) <;> first
      | (simp; done)
      | with_reducible rfl
      | (refine fioPart_foldl _ _ _ (fun a x => ?_); (repeat' split) <;> first | (simp; done) | with_reducible rfl)
      | ((try dsimp only); rw [fioPart_foldl] <;> first | (intro a x; (repeat' split) <;> first | (simp; done) | with_reducible rfl) | ((repeat' split) <;> first | (simp; done) | with_reducible rfl)))

@[simp↓] theorem fioPart_latchCh (s : State) (c : Nat) : fioPart (State.latchCh s c) = fioPart s := by
  unfold State.latchCh
  first
  | ((try dsimp only); (repeat' (first | with_reducible rfl | (with_reducible refine (fioPart_foldl _ _ _ (fun _ _ => ?_)).trans ?_) | (simp; done) | split | (rw [fioPart_mk, fioPart_fold]))); done)
  | ((repeat' split) <;> first | (simp; done) | with_reducible rfl)
  | (refine fioPart_foldl _ _ _ (fun a x => ?_); (repeat' split) <;> first | (simp; done) | with_reducible rfl)
  | ((try dsimp only); rw [fioPart_foldl] <;> first | (intro a x; (repeat' split) <;> first | (simp; done) | with_reducible rfl) | ((repeat' split) <;> first | (simp; done) | with_reducible rfl))
  | ((try dsimp only); (repeat' split) <;> first | (simp; done) | with_reducible rfl)
  | ((repeat' (with_reducible refine fioPart_ite ?_ ?_)) <;> first | (simp; done) | with_reducible rfl)
  | ((repeat' split) <;> first
      | (simp; done)
      | with_reducible rfl
      | (refine fioPart_foldl _ _ _ (fun a x => ?_); (repeat' split) <;> first | (simp; done) | with_reducible rfl)
      | ((try dsimp only); rw [fioPart_foldl] <;> first | (intro a x; (repeat' split) <;> first | (simp; done) | with_reducible rfl) | ((repeat' split) <;> first | (simp; done) | with_reducible rfl)))

@[simp↓] theorem fioPart_latchAin (s : State) (i : Nat) : fioPart (State.latchAin s i) = fioPart s := by
  unfold State.latchAin
  first
  | ((try dsimp only); (repeat' (first | with_reducible rfl | (with_reducible refine (fioPart_foldl _ _ _ (fun _ _ => ?_)).trans ?_) | (simp; done) | split | (rw [fioPart_mk, fioPart_fold]))); done)
  | ((repeat' split) <;> first | (simp; done) | with_reducible rfl)
  | (refine fioPart_foldl _ _ _ (fun a x => ?_); (repeat' split) <;> first | (simp; done) | with_reducible rfl)
  | ((try dsimp only); rw [fioPart_foldl] <;> first | (intro a x; (repeat' split) <;> first | (simp; done) | with_reducible rfl) | ((repeat' split) <;> first | (simp; done) | with_reducible rfl))
  | ((try dsimp only); (repeat' split) <;> first | (simp; done) | with_reducible rfl)
  | ((repeat' (with_reducible refine fioPart_ite ?_ ?_)) <;> first | (simp; done) | with_reducible rfl)
  | ((repeat' split) <;> first
      | (simp; done)
      | with_reducible rfl
      | (refine fioPart_foldl _ _ _ (fun a x => ?_); (repeat' split) <;> first | (simp; done) | with_reducible rfl)
      | ((try dsimp only); rw [fioPart_foldl] <;> first | (intro a x; (repeat' split) <;> first | (simp; done) | with_reducible rfl) | ((repeat' split) <;> first | (simp; done) | with_reducible rfl)))

@[simp↓] theorem fioPart_latchAout (s : State) (a : Nat) : fioPart (State.latchAout s a) = fioPart s := by
  unfold State.latchAout
  first
  | ((try dsimp only); (repeat' (first | with_reducible rfl | (with_reducible refine (fioPart_foldl _ _ _ (fun _ _ => ?_)).trans ?_) | (simp; done) | split | (rw [fioPart_mk, fioPart_fold]))); done)
  | ((repeat' split) <;> first | (simp; done) | with_reducible rfl)
  | (refine fioPart_foldl _ _ _ (fun a x => ?_); (repeat' split) <;> first | (simp; done) | with_reducible rfl)
  | ((try dsimp only); rw [fioPart_foldl] <;> first | (intro a x; (repeat' split) <;> first | (simp; done) | with_reducible rfl) | ((repeat' split) <;> first | (simp; done) | with_reducible rfl))
  | ((try dsimp only); (repeat' split) <;> first | (simp; done) | with_reducible rfl)
  | ((repeat' (with_reducible refine fioPart_ite ?_ ?_)) <;> first | (simp; done) | with_reducible rfl)
  | ((repeat' split) <;> first
      | (simp; done)
      | with_reducible rfl
      | (refine fioPart_foldl _ _ _ (fun a x => ?_); (repeat' split) <;> first | (simp; done) | with_reducible rfl)
      | ((try dsimp only); rw [fioPart_foldl] <;> first | (intro a x; (repeat' split) <;> first | (simp; done) | with_reducible rfl) | ((repeat' split) <;> first | (simp; done) | with_reducible rfl)))

@[simp↓] theorem fioPart_latchGrp (s : State) (g : Nat) : fioPart (State.latchGrp s g) = fioPart s := by
  unfold State.latchGrp
  first
  | ((try dsimp only); (repeat' (first | with_reducible rfl | (with_reducible refine (fioPart_foldl _ _ _ (fun _ _ => ?_)).trans ?_) | (simp; done) | split | (rw [fioPart_mk, fioPart_fold]))); done)
  | ((repeat' split) <;> first | (simp; done) | with_reducible rfl)
  | (refine fioPart_foldl _ _ _ (fun a x => ?_); (repeat' split) <;> first | (simp; done) | with_reducible rfl)
  | ((try dsimp only); rw [fioPart_foldl] <;> first | (intro a x; (repeat' split) <;> first | (simp; done) | with_reducible rfl) | ((repeat' split) <;> first | (simp; done) | with_reducible rfl))
  | ((try dsimp only); (repeat' split) <;> first | (simp; done) | with_reducible rfl)
  | ((repeat' (with_reducible refine fioPart_ite ?_ ?_)) <;> first | (simp; done) | with_reducible rfl)
  | ((repeat' split) <;> first
      | (simp; done)
      | with_reducible rfl
      | (refine fioPart_foldl _ _ _ (fun a x => ?_); (repeat' split) <;> first | (simp; done) | with_reducible rfl)
      | ((try dsimp only); rw [fioPart_foldl] <;> first | (intro a x; (repeat' split) <;> first | (simp; done) | with_reducible rfl) | ((repeat' split) <;> first | (simp; done) | with_reducible rfl)))

@[simp↓] theorem fioPart_latchLocal (s : State) : fioPart (State.latchLocal s) = fioPart s := by
  unfold State.latchLocal
  first
  | ((try dsimp only); (repeat' (first | with_reducible rfl | (with_reducible refine (fioPart_foldl _ _ _ (fun _ _ => ?_)).trans ?_) | (simp; done) | split | (rw [fioPart_mk, fioPart_fold]))); done)
  | ((repeat' split) <;> first | (simp; done) | with_reducible rfl)
  | (refine fioPart_foldl _ _ _ (fun a x => ?_); (repeat' split) <;> first | (simp; done) | with_reducible rfl)
  | ((try dsimp only); rw [fioPart_foldl] <;> first | (intro a x; (repeat' split) <;> first | (simp; done) | with_reducible rfl) | ((repeat' split) <;> first | (simp; done) | with_reducible rfl))
  | ((try dsimp only); (repeat' split) <;> first | (simp; done) | with_reducible rfl)
  | ((repeat' (with_reducible refine fioPart_ite ?_ ?_)) <;> first | (simp; done) | with_reducible rfl)
  | ((repeat' split) <;> first
      | (simp; done)
      | with_reducible rfl
      | (refine fioPart_foldl _ _ _ (fun a x => ?_); (repeat' split) <;> first | (simp; done) | with_reducible rfl)
      | ((try dsimp only); rw [fioPart_foldl] <;> first | (intro a x; (repeat' split) <;> first | (simp; done) | with_reducible rfl) | ((repeat' split) <;> first | (simp; done) | with_reducible rfl)))

/-- The parts `can.bufs`, `par`. -/
def canBufPart (s : State) := (s.can.bufs, s.par)

@[simp] theorem canBufPart_fold (s : State) : (s.can.bufs, s.par) = canBufPart s := rfl

@[simp↓] theorem canBufPart_mk (epoch order ident host par lane prog model slv perc afe fed stn pts fio can net time key aud pair pwr rst drip past edge latch pending out free) : canBufPart (State.mk epoch order ident host par lane prog model slv perc afe fed stn pts fio can net time key aud pair pwr rst drip past edge latch pending out free) = (can.bufs, par) := rfl

theorem canBufPart_silent {s t : State} (h : Silent s t) : canBufPart t = canBufPart s := by rw [h.rest]; rfl

theorem canBufPart_ite {c : Prop} [Decidable c] {a b s : State} (ha : canBufPart a = canBufPart s) (hb : canBufPart b = canBufPart s) :
    canBufPart (if c then a else b) = canBufPart s := by
  split <;> assumption

theorem canBufPart_foldl {α : Type} (l : List α) (f : State → α → State) (s : State) (h : ∀ a x, canBufPart (f a x) = canBufPart a) :
    canBufPart (l.foldl f s) = canBufPart s := by
  induction l generalizing s with
  | nil => rfl
  | cons x l ih => exact (ih _).trans (h s x)

@[simp↓] theorem canBufPart_emit (s : State) (m : OutMsg) : canBufPart (State.emit s m) = canBufPart s := by
  exact canBufPart_silent (silent_emit _ _)

@[simp↓] theorem canBufPart_sendMsix (s : State) (v : Nat) : canBufPart (State.sendMsix s v) = canBufPart s := by
  exact canBufPart_silent (silent_sendMsix _ _)

@[simp↓] theorem canBufPart_setQueue (s : State) (n : Nat) (q : QPair) : canBufPart (State.setQueue s n q) = canBufPart s := by
  unfold State.setQueue
  first
  | ((try dsimp only); (repeat' (first | with_reducible rfl | (with_reducible refine (canBufPart_foldl _ _ _ (fun _ _ => ?_)).trans ?_) | (simp; done) | split | (rw [canBufPart_mk, canBufPart_fold]))); done)
  | ((repeat' split) <;> first | (simp; done) | with_reducible rfl)
  | (refine canBufPart_foldl _ _ _ (fun a x => ?_); (repeat' split) <;> first | (simp; done) | with_reducible rfl)
  | ((try dsimp only); rw [canBufPart_foldl] <;> first | (intro a x; (repeat' split) <;> first | (simp; done) | with_reducible rfl) | ((repeat' split) <;> first | (simp; done) | with_reducible rfl))
  | ((try dsimp only); (repeat' split) <;> first | (simp; done) | with_reducible rfl)
  | ((repeat' (with_reducible refine canBufPart_ite ?_ ?_)) <;> first | (simp; done) | with_reducible rfl)
  | ((repeat' split) <;> first
      | (simp; done)
      | with_reducible rfl
      | (refine canBufPart_foldl _ _ _ (fun a x => ?_); (repeat' split) <;> first | (simp; done) | with_reducible rfl)
      | ((try dsimp only); rw [canBufPart_foldl] <;> first | (intro a x; (repeat' split) <;> first | (simp; done) | with_reducible rfl) | ((repeat' split) <;> first | (simp; done) | with_reducible rfl)))

@[simp↓] theorem canBufPart_setSess (s : State) (n : Nat) (v : Session) : canBufPart (State.setSess s n v) = canBufPart s := by
  unfold State.setSess
  first
  | ((try dsimp only); (repeat' (first | with_reducible rfl | (with_reducible refine (canBufPart_foldl _ _ _ (fun _ _ => ?_)).trans ?_) | (simp; done) | split | (rw [canBufPart_mk, canBufPart_fold]))); done)
  | ((repeat' split) <;> first | (simp; done) | with_reducible rfl)
  | (refine canBufPart_foldl _ _ _ (fun a x => ?_); (repeat' split) <;> first | (simp; done) | with_reducible rfl)
  | ((try dsimp only); rw [canBufPart_foldl] <;> first | (intro a x; (repeat' split) <;> first | (simp; done) | with_reducible rfl) | ((repeat' split) <;> first | (simp; done) | with_reducible rfl))
  | ((try dsimp only); (repeat' split) <;> first | (simp; done) | with_reducible rfl)
  | ((repeat' (with_reducible refine canBufPart_ite ?_ ?_)) <;> first | (simp; done) | with_reducible rfl)
  | ((repeat' split) <;> first
      | (simp; done)
      | with_reducible rfl
      | (refine canBufPart_foldl _ _ _ (fun a x => ?_); (repeat' split) <;> first | (simp; done) | with_reducible rfl)
      | ((try dsimp only); rw [canBufPart_foldl] <;> first | (intro a x; (repeat' split) <;> first | (simp; done) | with_reducible rfl) | ((repeat' split) <;> first | (simp; done) | with_reducible rfl)))

@[simp↓] theorem canBufPart_auditPush (s : State) (r : AuditRec) : canBufPart (State.auditPush s r) = canBufPart s := by
  exact canBufPart_silent (silent_auditPush _ _)

@[simp↓] theorem canBufPart_postQueue (s : State) (n : Nat) (e : Entry) (data : List Byte) : canBufPart (State.postQueue s n e data).1 = canBufPart s := by
  exact canBufPart_silent (silent_postQueue _ _ _ _)

@[simp↓] theorem canBufPart_post (s : State) (dst : Src) (e : Entry) (data : List Byte) : canBufPart (State.post s dst e data).1 = canBufPart s := by
  exact canBufPart_silent (silent_post _ _ _ _)

@[simp↓] theorem canBufPart_event (s : State) (code : Nat) (status : Nat) (data : List Byte) : canBufPart (State.event s code status data) = canBufPart s := by
  exact canBufPart_silent (silent_event _ _ _ _)

@[simp↓] theorem canBufPart_condition (s : State) (status : Nat) (data : List Byte) : canBufPart (State.condition s status data) = canBufPart s := by
  exact canBufPart_silent (silent_condition _ _ _)

@[simp↓] theorem canBufPart_freeHandle (s : State) (i : Nat) : canBufPart (State.freeHandle s i) = canBufPart s := by
  unfold State.freeHandle
  first
  | ((try dsimp only); (repeat' (first | with_reducible rfl | (with_reducible refine (canBufPart_foldl _ _ _ (fun _ _ => ?_)).trans ?_) | (simp; done) | split | (rw [canBufPart_mk, canBufPart_fold]))); done)
  | ((repeat' split) <;> first | (simp; done) | with_reducible rfl)
  | (refine canBufPart_foldl _ _ _ (fun a x => ?_); (repeat' split) <;> first | (simp; done) | with_reducible rfl)
  | ((try dsimp only); rw [canBufPart_foldl] <;> first | (intro a x; (repeat' split) <;> first | (simp; done) | with_reducible rfl) | ((repeat' split) <;> first | (simp; done) | with_reducible rfl))
  | ((try dsimp only); (repeat' split) <;> first | (simp; done) | with_reducible rfl)
  | ((repeat' (with_reducible refine canBufPart_ite ?_ ?_)) <;> first | (simp; done) | with_reducible rfl)
  | ((repeat' split) <;> first
      | (simp; done)
      | with_reducible rfl
      | (refine canBufPart_foldl _ _ _ (fun a x => ?_); (repeat' split) <;> first | (simp; done) | with_reducible rfl)
      | ((try dsimp only); rw [canBufPart_foldl] <;> first | (intro a x; (repeat' split) <;> first | (simp; done) | with_reducible rfl) | ((repeat' split) <;> first | (simp; done) | with_reducible rfl)))

@[simp↓] theorem canBufPart_complete (s : State) (h : U32) (status : Nat) (detail : Nat) (data : List Byte) : canBufPart (State.complete s h status detail data) = canBufPart s := by
  unfold State.complete
  first
  | ((try dsimp only); (repeat' (first | with_reducible rfl | (with_reducible refine (canBufPart_foldl _ _ _ (fun _ _ => ?_)).trans ?_) | (simp; done) | split | (rw [canBufPart_mk, canBufPart_fold]))); done)
  | ((repeat' split) <;> first | (simp; done) | with_reducible rfl)
  | (refine canBufPart_foldl _ _ _ (fun a x => ?_); (repeat' split) <;> first | (simp; done) | with_reducible rfl)
  | ((try dsimp only); rw [canBufPart_foldl] <;> first | (intro a x; (repeat' split) <;> first | (simp; done) | with_reducible rfl) | ((repeat' split) <;> first | (simp; done) | with_reducible rfl))
  | ((try dsimp only); (repeat' split) <;> first | (simp; done) | with_reducible rfl)
  | ((repeat' (with_reducible refine canBufPart_ite ?_ ?_)) <;> first | (simp; done) | with_reducible rfl)
  | ((repeat' split) <;> first
      | (simp; done)
      | with_reducible rfl
      | (refine canBufPart_foldl _ _ _ (fun a x => ?_); (repeat' split) <;> first | (simp; done) | with_reducible rfl)
      | ((try dsimp only); rw [canBufPart_foldl] <;> first | (intro a x; (repeat' split) <;> first | (simp; done) | with_reducible rfl) | ((repeat' split) <;> first | (simp; done) | with_reducible rfl)))

@[simp↓] theorem canBufPart_setPt (s : State) (p : Nat) (v : Point) : canBufPart (State.setPt s p v) = canBufPart s := by
  unfold State.setPt
  first
  | ((try dsimp only); (repeat' (first | with_reducible rfl | (with_reducible refine (canBufPart_foldl _ _ _ (fun _ _ => ?_)).trans ?_) | (simp; done) | split | (rw [canBufPart_mk, canBufPart_fold]))); done)
  | ((repeat' split) <;> first | (simp; done) | with_reducible rfl)
  | (refine canBufPart_foldl _ _ _ (fun a x => ?_); (repeat' split) <;> first | (simp; done) | with_reducible rfl)
  | ((try dsimp only); rw [canBufPart_foldl] <;> first | (intro a x; (repeat' split) <;> first | (simp; done) | with_reducible rfl) | ((repeat' split) <;> first | (simp; done) | with_reducible rfl))
  | ((try dsimp only); (repeat' split) <;> first | (simp; done) | with_reducible rfl)
  | ((repeat' (with_reducible refine canBufPart_ite ?_ ?_)) <;> first | (simp; done) | with_reducible rfl)
  | ((repeat' split) <;> first
      | (simp; done)
      | with_reducible rfl
      | (refine canBufPart_foldl _ _ _ (fun a x => ?_); (repeat' split) <;> first | (simp; done) | with_reducible rfl)
      | ((try dsimp only); rw [canBufPart_foldl] <;> first | (intro a x; (repeat' split) <;> first | (simp; done) | with_reducible rfl) | ((repeat' split) <;> first | (simp; done) | with_reducible rfl)))

@[simp↓] theorem canBufPart_took (s : State) : canBufPart (State.took s) = canBufPart s := by
  unfold State.took
  first
  | ((try dsimp only); (repeat' (first | with_reducible rfl | (with_reducible refine (canBufPart_foldl _ _ _ (fun _ _ => ?_)).trans ?_) | (simp; done) | split | (rw [canBufPart_mk, canBufPart_fold]))); done)
  | ((repeat' split) <;> first | (simp; done) | with_reducible rfl)
  | (refine canBufPart_foldl _ _ _ (fun a x => ?_); (repeat' split) <;> first | (simp; done) | with_reducible rfl)
  | ((try dsimp only); rw [canBufPart_foldl] <;> first | (intro a x; (repeat' split) <;> first | (simp; done) | with_reducible rfl) | ((repeat' split) <;> first | (simp; done) | with_reducible rfl))
  | ((try dsimp only); (repeat' split) <;> first | (simp; done) | with_reducible rfl)
  | ((repeat' (with_reducible refine canBufPart_ite ?_ ?_)) <;> first | (simp; done) | with_reducible rfl)
  | ((repeat' split) <;> first
      | (simp; done)
      | with_reducible rfl
      | (refine canBufPart_foldl _ _ _ (fun a x => ?_); (repeat' split) <;> first | (simp; done) | with_reducible rfl)
      | ((try dsimp only); rw [canBufPart_foldl] <;> first | (intro a x; (repeat' split) <;> first | (simp; done) | with_reducible rfl) | ((repeat' split) <;> first | (simp; done) | with_reducible rfl)))

@[simp↓] theorem canBufPart_closeEdge (s : State) : canBufPart (State.closeEdge s) = canBufPart s := by
  unfold State.closeEdge
  first
  | ((try dsimp only); (repeat' (first | with_reducible rfl | (with_reducible refine (canBufPart_foldl _ _ _ (fun _ _ => ?_)).trans ?_) | (simp; done) | split | (rw [canBufPart_mk, canBufPart_fold]))); done)
  | ((repeat' split) <;> first | (simp; done) | with_reducible rfl)
  | (refine canBufPart_foldl _ _ _ (fun a x => ?_); (repeat' split) <;> first | (simp; done) | with_reducible rfl)
  | ((try dsimp only); rw [canBufPart_foldl] <;> first | (intro a x; (repeat' split) <;> first | (simp; done) | with_reducible rfl) | ((repeat' split) <;> first | (simp; done) | with_reducible rfl))
  | ((try dsimp only); (repeat' split) <;> first | (simp; done) | with_reducible rfl)
  | ((repeat' (with_reducible refine canBufPart_ite ?_ ?_)) <;> first | (simp; done) | with_reducible rfl)
  | ((repeat' split) <;> first
      | (simp; done)
      | with_reducible rfl
      | (refine canBufPart_foldl _ _ _ (fun a x => ?_); (repeat' split) <;> first | (simp; done) | with_reducible rfl)
      | ((try dsimp only); rw [canBufPart_foldl] <;> first | (intro a x; (repeat' split) <;> first | (simp; done) | with_reducible rfl) | ((repeat' split) <;> first | (simp; done) | with_reducible rfl)))

@[simp↓] theorem canBufPart_setCanCh (s : State) (c : Nat) (v : CanCh) : canBufPart (State.setCanCh s c v) = canBufPart s := by
  unfold State.setCanCh
  first
  | ((try dsimp only); (repeat' (first | with_reducible rfl | (with_reducible refine (canBufPart_foldl _ _ _ (fun _ _ => ?_)).trans ?_) | (simp; done) | split | (rw [canBufPart_mk, canBufPart_fold]))); done)
  | ((repeat' split) <;> first | (simp; done) | with_reducible rfl)
  | (refine canBufPart_foldl _ _ _ (fun a x => ?_); (repeat' split) <;> first | (simp; done) | with_reducible rfl)
  | ((try dsimp only); rw [canBufPart_foldl] <;> first | (intro a x; (repeat' split) <;> first | (simp; done) | with_reducible rfl) | ((repeat' split) <;> first | (simp; done) | with_reducible rfl))
  | ((try dsimp only); (repeat' split) <;> first | (simp; done) | with_reducible rfl)
  | ((repeat' (with_reducible refine canBufPart_ite ?_ ?_)) <;> first | (simp; done) | with_reducible rfl)
  | ((repeat' split) <;> first
      | (simp; done)
      | with_reducible rfl
      | (refine canBufPart_foldl _ _ _ (fun a x => ?_); (repeat' split) <;> first | (simp; done) | with_reducible rfl)
      | ((try dsimp only); rw [canBufPart_foldl] <;> first | (intro a x; (repeat' split) <;> first | (simp; done) | with_reducible rfl) | ((repeat' split) <;> first | (simp; done) | with_reducible rfl)))

@[simp↓] theorem canBufPart_setCanPt (s : State) (p : Nat) (v : CanPt) : canBufPart (State.setCanPt s p v) = canBufPart s := by
  unfold State.setCanPt
  first
  | ((try dsimp only); (repeat' (first | with_reducible rfl | (with_reducible refine (canBufPart_foldl _ _ _ (fun _ _ => ?_)).trans ?_) | (simp; done) | split | (rw [canBufPart_mk, canBufPart_fold]))); done)
  | ((repeat' split) <;> first | (simp; done) | with_reducible rfl)
  | (refine canBufPart_foldl _ _ _ (fun a x => ?_); (repeat' split) <;> first | (simp; done) | with_reducible rfl)
  | ((try dsimp only); rw [canBufPart_foldl] <;> first | (intro a x; (repeat' split) <;> first | (simp; done) | with_reducible rfl) | ((repeat' split) <;> first | (simp; done) | with_reducible rfl))
  | ((try dsimp only); (repeat' split) <;> first | (simp; done) | with_reducible rfl)
  | ((repeat' (with_reducible refine canBufPart_ite ?_ ?_)) <;> first | (simp; done) | with_reducible rfl)
  | ((repeat' split) <;> first
      | (simp; done)
      | with_reducible rfl
      | (refine canBufPart_foldl _ _ _ (fun a x => ?_); (repeat' split) <;> first | (simp; done) | with_reducible rfl)
      | ((try dsimp only); rw [canBufPart_foldl] <;> first | (intro a x; (repeat' split) <;> first | (simp; done) | with_reducible rfl) | ((repeat' split) <;> first | (simp; done) | with_reducible rfl)))

@[simp↓] theorem canBufPart_canDiag (s : State) (p : Nat) (d : Nat) (on : Bool) : canBufPart (State.canDiag s p d on) = canBufPart s := by
  unfold State.canDiag
  first
  | ((try dsimp only); (repeat' (first | with_reducible rfl | (with_reducible refine (canBufPart_foldl _ _ _ (fun _ _ => ?_)).trans ?_) | (simp; done) | split | (rw [canBufPart_mk, canBufPart_fold]))); done)
  | ((repeat' split) <;> first | (simp; done) | with_reducible rfl)
  | (refine canBufPart_foldl _ _ _ (fun a x => ?_); (repeat' split) <;> first | (simp; done) | with_reducible rfl)
  | ((try dsimp only); rw [canBufPart_foldl] <;> first | (intro a x; (repeat' split) <;> first | (simp; done) | with_reducible rfl) | ((repeat' split) <;> first | (simp; done) | with_reducible rfl))
  | ((try dsimp only); (repeat' split) <;> first | (simp; done) | with_reducible rfl)
  | ((repeat' (with_reducible refine canBufPart_ite ?_ ?_)) <;> first | (simp; done) | with_reducible rfl)
  | ((repeat' split) <;> first
      | (simp; done)
      | with_reducible rfl
      | (refine canBufPart_foldl _ _ _ (fun a x => ?_); (repeat' split) <;> first | (simp; done) | with_reducible rfl)
      | ((try dsimp only); rw [canBufPart_foldl] <;> first | (intro a x; (repeat' split) <;> first | (simp; done) | with_reducible rfl) | ((repeat' split) <;> first | (simp; done) | with_reducible rfl)))

@[simp↓] theorem canBufPart_canPtStatus (s : State) (c : Nat) (b : Nat) (p : Nat) (rx : Bool) : canBufPart (State.canPtStatus s c b p rx) = canBufPart s := by
  unfold State.canPtStatus
  first
  | ((try dsimp only); (repeat' (first | with_reducible rfl | (with_reducible refine (canBufPart_foldl _ _ _ (fun _ _ => ?_)).trans ?_) | (simp; done) | split | (rw [canBufPart_mk, canBufPart_fold]))); done)
  | ((repeat' split) <;> first | (simp; done) | with_reducible rfl)
  | (refine canBufPart_foldl _ _ _ (fun a x => ?_); (repeat' split) <;> first | (simp; done) | with_reducible rfl)
  | ((try dsimp only); rw [canBufPart_foldl] <;> first | (intro a x; (repeat' split) <;> first | (simp; done) | with_reducible rfl) | ((repeat' split) <;> first | (simp; done) | with_reducible rfl))
  | ((try dsimp only); (repeat' split) <;> first | (simp; done) | with_reducible rfl)
  | ((repeat' (with_reducible refine canBufPart_ite ?_ ?_)) <;> first | (simp; done) | with_reducible rfl)
  | ((repeat' split) <;> first
      | (simp; done)
      | with_reducible rfl
      | (refine canBufPart_foldl _ _ _ (fun a x => ?_); (repeat' split) <;> first | (simp; done) | with_reducible rfl)
      | ((try dsimp only); rw [canBufPart_foldl] <;> first | (intro a x; (repeat' split) <;> first | (simp; done) | with_reducible rfl) | ((repeat' split) <;> first | (simp; done) | with_reducible rfl)))

@[simp↓] theorem canBufPart_claimSeen (s : State) (claim : Nat) : canBufPart (State.claimSeen s claim) = canBufPart s := by
  unfold State.claimSeen
  first
  | ((try dsimp only); (repeat' (first | with_reducible rfl | (with_reducible refine (canBufPart_foldl _ _ _ (fun _ _ => ?_)).trans ?_) | (simp; done) | split | (rw [canBufPart_mk, canBufPart_fold]))); done)
  | ((repeat' split) <;> first | (simp; done) | with_reducible rfl)
  | (refine canBufPart_foldl _ _ _ (fun a x => ?_); (repeat' split) <;> first | (simp; done) | with_reducible rfl)
  | ((try dsimp only); rw [canBufPart_foldl] <;> first | (intro a x; (repeat' split) <;> first | (simp; done) | with_reducible rfl) | ((repeat' split) <;> first | (simp; done) | with_reducible rfl))
  | ((try dsimp only); (repeat' split) <;> first | (simp; done) | with_reducible rfl)
  | ((repeat' (with_reducible refine canBufPart_ite ?_ ?_)) <;> first | (simp; done) | with_reducible rfl)
  | ((repeat' split) <;> first
      | (simp; done)
      | with_reducible rfl
      | (refine canBufPart_foldl _ _ _ (fun a x => ?_); (repeat' split) <;> first | (simp; done) | with_reducible rfl)
      | ((try dsimp only); rw [canBufPart_foldl] <;> first | (intro a x; (repeat' split) <;> first | (simp; done) | with_reducible rfl) | ((repeat' split) <;> first | (simp; done) | with_reducible rfl)))

@[simp↓] theorem canBufPart_canRecOk (s : State) (c : Nat) : canBufPart (State.canRecOk s c) = canBufPart s := by
  unfold State.canRecOk
  first
  | ((try dsimp only); (repeat' (first | with_reducible rfl | (with_reducible refine (canBufPart_foldl _ _ _ (fun _ _ => ?_)).trans ?_) | (simp; done) | split | (rw [canBufPart_mk, canBufPart_fold]))); done)
  | ((repeat' split) <;> first | (simp; done) | with_reducible rfl)
  | (refine canBufPart_foldl _ _ _ (fun a x => ?_); (repeat' split) <;> first | (simp; done) | with_reducible rfl)
  | ((try dsimp only); rw [canBufPart_foldl] <;> first | (intro a x; (repeat' split) <;> first | (simp; done) | with_reducible rfl) | ((repeat' split) <;> first | (simp; done) | with_reducible rfl))
  | ((try dsimp only); (repeat' split) <;> first | (simp; done) | with_reducible rfl)
  | ((repeat' (with_reducible refine canBufPart_ite ?_ ?_)) <;> first | (simp; done) | with_reducible rfl)
  | ((repeat' split) <;> first
      | (simp; done)
      | with_reducible rfl
      | (refine canBufPart_foldl _ _ _ (fun a x => ?_); (repeat' split) <;> first | (simp; done) | with_reducible rfl)
      | ((try dsimp only); rw [canBufPart_foldl] <;> first | (intro a x; (repeat' split) <;> first | (simp; done) | with_reducible rfl) | ((repeat' split) <;> first | (simp; done) | with_reducible rfl)))

@[simp↓] theorem canBufPart_canClaimRx (s : State) (c : Nat) (f : CanFrame) : canBufPart (State.canClaimRx s c f) = canBufPart s := by
  unfold State.canClaimRx
  split
  · dsimp only
    rw [canBufPart_claimSeen]
    refine (canBufPart_foldl _ _ _ (fun a k => canBufPart_foldl _ _ _ (fun t v => ?_))).trans rfl
    rw [canBufPart_canPtStatus, canBufPart_canDiag]
  · rfl

@[simp↓] theorem canBufPart_markSat (s : State) (c : Nat) (b : Nat) : canBufPart (State.markSat s c b) = canBufPart s := by
  unfold State.markSat
  first
  | ((try dsimp only); (repeat' (first | with_reducible rfl | (with_reducible refine (canBufPart_foldl _ _ _ (fun _ _ => ?_)).trans ?_) | (simp; done) | split | (rw [canBufPart_mk, canBufPart_fold]))); done)
  | ((repeat' split) <;> first | (simp; done) | with_reducible rfl)
  | (refine canBufPart_foldl _ _ _ (fun a x => ?_); (repeat' split) <;> first | (simp; done) | with_reducible rfl)
  | ((try dsimp only); rw [canBufPart_foldl] <;> first | (intro a x; (repeat' split) <;> first | (simp; done) | with_reducible rfl) | ((repeat' split) <;> first | (simp; done) | with_reducible rfl))
  | ((try dsimp only); (repeat' split) <;> first | (simp; done) | with_reducible rfl)
  | ((repeat' (with_reducible refine canBufPart_ite ?_ ?_)) <;> first | (simp; done) | with_reducible rfl)
  | ((repeat' split) <;> first
      | (simp; done)
      | with_reducible rfl
      | (refine canBufPart_foldl _ _ _ (fun a x => ?_); (repeat' split) <;> first | (simp; done) | with_reducible rfl)
      | ((try dsimp only); rw [canBufPart_foldl] <;> first | (intro a x; (repeat' split) <;> first | (simp; done) | with_reducible rfl) | ((repeat' split) <;> first | (simp; done) | with_reducible rfl)))

@[simp↓] theorem canBufPart_markBuf (s : State) (c : Nat) (b : Nat) (d : Nat) : canBufPart (State.markBuf s c b d) = canBufPart s := by
  unfold State.markBuf
  first
  | ((try dsimp only); (repeat' (first | with_reducible rfl | (with_reducible refine (canBufPart_foldl _ _ _ (fun _ _ => ?_)).trans ?_) | (simp; done) | split | (rw [canBufPart_mk, canBufPart_fold]))); done)
  | ((repeat' split) <;> first | (simp; done) | with_reducible rfl)
  | (refine canBufPart_foldl _ _ _ (fun a x => ?_); (repeat' split) <;> first | (simp; done) | with_reducible rfl)
  | ((try dsimp only); rw [canBufPart_foldl] <;> first | (intro a x; (repeat' split) <;> first | (simp; done) | with_reducible rfl) | ((repeat' split) <;> first | (simp; done) | with_reducible rfl))
  | ((try dsimp only); (repeat' split) <;> first | (simp; done) | with_reducible rfl)
  | ((repeat' (with_reducible refine canBufPart_ite ?_ ?_)) <;> first | (simp; done) | with_reducible rfl)
  | ((repeat' split) <;> first
      | (simp; done)
      | with_reducible rfl
      | (refine canBufPart_foldl _ _ _ (fun a x => ?_); (repeat' split) <;> first | (simp; done) | with_reducible rfl)
      | ((try dsimp only); rw [canBufPart_foldl] <;> first | (intro a x; (repeat' split) <;> first | (simp; done) | with_reducible rfl) | ((repeat' split) <;> first | (simp; done) | with_reducible rfl)))

@[simp↓] theorem canBufPart_confirmSent (s : State) (l : List (Nat × Nat × F32)) : canBufPart (State.confirmSent s l) = canBufPart s := by
  unfold State.confirmSent
  first
  | ((try dsimp only); (repeat' (first | with_reducible rfl | (with_reducible refine (canBufPart_foldl _ _ _ (fun _ _ => ?_)).trans ?_) | (simp; done) | split | (rw [canBufPart_mk, canBufPart_fold]))); done)
  | ((repeat' split) <;> first | (simp; done) | with_reducible rfl)
  | (refine canBufPart_foldl _ _ _ (fun a x => ?_); (repeat' split) <;> first | (simp; done) | with_reducible rfl)
  | ((try dsimp only); rw [canBufPart_foldl] <;> first | (intro a x; (repeat' split) <;> first | (simp; done) | with_reducible rfl) | ((repeat' split) <;> first | (simp; done) | with_reducible rfl))
  | ((try dsimp only); (repeat' split) <;> first | (simp; done) | with_reducible rfl)
  | ((repeat' (with_reducible refine canBufPart_ite ?_ ?_)) <;> first | (simp; done) | with_reducible rfl)
  | ((repeat' split) <;> first
      | (simp; done)
      | with_reducible rfl
      | (refine canBufPart_foldl _ _ _ (fun a x => ?_); (repeat' split) <;> first | (simp; done) | with_reducible rfl)
      | ((try dsimp only); rw [canBufPart_foldl] <;> first | (intro a x; (repeat' split) <;> first | (simp; done) | with_reducible rfl) | ((repeat' split) <;> first | (simp; done) | with_reducible rfl)))

/-- The parts `can.chans`. -/
def canChPart (s : State) := (s.can.chans)

@[simp] theorem canChPart_fold (s : State) : (s.can.chans) = canChPart s := rfl

@[simp↓] theorem canChPart_mk (epoch order ident host par lane prog model slv perc afe fed stn pts fio can net time key aud pair pwr rst drip past edge latch pending out free) : canChPart (State.mk epoch order ident host par lane prog model slv perc afe fed stn pts fio can net time key aud pair pwr rst drip past edge latch pending out free) = (can.chans) := rfl

theorem canChPart_silent {s t : State} (h : Silent s t) : canChPart t = canChPart s := by rw [h.rest]; rfl

theorem canChPart_ite {c : Prop} [Decidable c] {a b s : State} (ha : canChPart a = canChPart s) (hb : canChPart b = canChPart s) :
    canChPart (if c then a else b) = canChPart s := by
  split <;> assumption

theorem canChPart_foldl {α : Type} (l : List α) (f : State → α → State) (s : State) (h : ∀ a x, canChPart (f a x) = canChPart a) :
    canChPart (l.foldl f s) = canChPart s := by
  induction l generalizing s with
  | nil => rfl
  | cons x l ih => exact (ih _).trans (h s x)

@[simp↓] theorem canChPart_emit (s : State) (m : OutMsg) : canChPart (State.emit s m) = canChPart s := by
  exact canChPart_silent (silent_emit _ _)

@[simp↓] theorem canChPart_sendMsix (s : State) (v : Nat) : canChPart (State.sendMsix s v) = canChPart s := by
  exact canChPart_silent (silent_sendMsix _ _)

@[simp↓] theorem canChPart_setQueue (s : State) (n : Nat) (q : QPair) : canChPart (State.setQueue s n q) = canChPart s := by
  unfold State.setQueue
  first
  | ((try dsimp only); (repeat' (first | with_reducible rfl | (with_reducible refine (canChPart_foldl _ _ _ (fun _ _ => ?_)).trans ?_) | (simp; done) | split | (rw [canChPart_mk, canChPart_fold]))); done)
  | ((repeat' split) <;> first | (simp; done) | with_reducible rfl)
  | (refine canChPart_foldl _ _ _ (fun a x => ?_); (repeat' split) <;> first | (simp; done) | with_reducible rfl)
  | ((try dsimp only); rw [canChPart_foldl] <;> first | (intro a x; (repeat' split) <;> first | (simp; done) | with_reducible rfl) | ((repeat' split) <;> first | (simp; done) | with_reducible rfl))
  | ((try dsimp only); (repeat' split) <;> first | (simp; done) | with_reducible rfl)
  | ((repeat' (with_reducible refine canChPart_ite ?_ ?_)) <;> first | (simp; done) | with_reducible rfl)
  | ((repeat' split) <;> first
      | (simp; done)
      | with_reducible rfl
      | (refine canChPart_foldl _ _ _ (fun a x => ?_); (repeat' split) <;> first | (simp; done) | with_reducible rfl)
      | ((try dsimp only); rw [canChPart_foldl] <;> first | (intro a x; (repeat' split) <;> first | (simp; done) | with_reducible rfl) | ((repeat' split) <;> first | (simp; done) | with_reducible rfl)))

@[simp↓] theorem canChPart_setSess (s : State) (n : Nat) (v : Session) : canChPart (State.setSess s n v) = canChPart s := by
  unfold State.setSess
  first
  | ((try dsimp only); (repeat' (first | with_reducible rfl | (with_reducible refine (canChPart_foldl _ _ _ (fun _ _ => ?_)).trans ?_) | (simp; done) | split | (rw [canChPart_mk, canChPart_fold]))); done)
  | ((repeat' split) <;> first | (simp; done) | with_reducible rfl)
  | (refine canChPart_foldl _ _ _ (fun a x => ?_); (repeat' split) <;> first | (simp; done) | with_reducible rfl)
  | ((try dsimp only); rw [canChPart_foldl] <;> first | (intro a x; (repeat' split) <;> first | (simp; done) | with_reducible rfl) | ((repeat' split) <;> first | (simp; done) | with_reducible rfl))
  | ((try dsimp only); (repeat' split) <;> first | (simp; done) | with_reducible rfl)
  | ((repeat' (with_reducible refine canChPart_ite ?_ ?_)) <;> first | (simp; done) | with_reducible rfl)
  | ((repeat' split) <;> first
      | (simp; done)
      | with_reducible rfl
      | (refine canChPart_foldl _ _ _ (fun a x => ?_); (repeat' split) <;> first | (simp; done) | with_reducible rfl)
      | ((try dsimp only); rw [canChPart_foldl] <;> first | (intro a x; (repeat' split) <;> first | (simp; done) | with_reducible rfl) | ((repeat' split) <;> first | (simp; done) | with_reducible rfl)))

@[simp↓] theorem canChPart_auditPush (s : State) (r : AuditRec) : canChPart (State.auditPush s r) = canChPart s := by
  exact canChPart_silent (silent_auditPush _ _)

@[simp↓] theorem canChPart_postQueue (s : State) (n : Nat) (e : Entry) (data : List Byte) : canChPart (State.postQueue s n e data).1 = canChPart s := by
  exact canChPart_silent (silent_postQueue _ _ _ _)

@[simp↓] theorem canChPart_post (s : State) (dst : Src) (e : Entry) (data : List Byte) : canChPart (State.post s dst e data).1 = canChPart s := by
  exact canChPart_silent (silent_post _ _ _ _)

@[simp↓] theorem canChPart_event (s : State) (code : Nat) (status : Nat) (data : List Byte) : canChPart (State.event s code status data) = canChPart s := by
  exact canChPart_silent (silent_event _ _ _ _)

@[simp↓] theorem canChPart_condition (s : State) (status : Nat) (data : List Byte) : canChPart (State.condition s status data) = canChPart s := by
  exact canChPart_silent (silent_condition _ _ _)

@[simp↓] theorem canChPart_freeHandle (s : State) (i : Nat) : canChPart (State.freeHandle s i) = canChPart s := by
  unfold State.freeHandle
  first
  | ((try dsimp only); (repeat' (first | with_reducible rfl | (with_reducible refine (canChPart_foldl _ _ _ (fun _ _ => ?_)).trans ?_) | (simp; done) | split | (rw [canChPart_mk, canChPart_fold]))); done)
  | ((repeat' split) <;> first | (simp; done) | with_reducible rfl)
  | (refine canChPart_foldl _ _ _ (fun a x => ?_); (repeat' split) <;> first | (simp; done) | with_reducible rfl)
  | ((try dsimp only); rw [canChPart_foldl] <;> first | (intro a x; (repeat' split) <;> first | (simp; done) | with_reducible rfl) | ((repeat' split) <;> first | (simp; done) | with_reducible rfl))
  | ((try dsimp only); (repeat' split) <;> first | (simp; done) | with_reducible rfl)
  | ((repeat' (with_reducible refine canChPart_ite ?_ ?_)) <;> first | (simp; done) | with_reducible rfl)
  | ((repeat' split) <;> first
      | (simp; done)
      | with_reducible rfl
      | (refine canChPart_foldl _ _ _ (fun a x => ?_); (repeat' split) <;> first | (simp; done) | with_reducible rfl)
      | ((try dsimp only); rw [canChPart_foldl] <;> first | (intro a x; (repeat' split) <;> first | (simp; done) | with_reducible rfl) | ((repeat' split) <;> first | (simp; done) | with_reducible rfl)))

@[simp↓] theorem canChPart_complete (s : State) (h : U32) (status : Nat) (detail : Nat) (data : List Byte) : canChPart (State.complete s h status detail data) = canChPart s := by
  unfold State.complete
  first
  | ((try dsimp only); (repeat' (first | with_reducible rfl | (with_reducible refine (canChPart_foldl _ _ _ (fun _ _ => ?_)).trans ?_) | (simp; done) | split | (rw [canChPart_mk, canChPart_fold]))); done)
  | ((repeat' split) <;> first | (simp; done) | with_reducible rfl)
  | (refine canChPart_foldl _ _ _ (fun a x => ?_); (repeat' split) <;> first | (simp; done) | with_reducible rfl)
  | ((try dsimp only); rw [canChPart_foldl] <;> first | (intro a x; (repeat' split) <;> first | (simp; done) | with_reducible rfl) | ((repeat' split) <;> first | (simp; done) | with_reducible rfl))
  | ((try dsimp only); (repeat' split) <;> first | (simp; done) | with_reducible rfl)
  | ((repeat' (with_reducible refine canChPart_ite ?_ ?_)) <;> first | (simp; done) | with_reducible rfl)
  | ((repeat' split) <;> first
      | (simp; done)
      | with_reducible rfl
      | (refine canChPart_foldl _ _ _ (fun a x => ?_); (repeat' split) <;> first | (simp; done) | with_reducible rfl)
      | ((try dsimp only); rw [canChPart_foldl] <;> first | (intro a x; (repeat' split) <;> first | (simp; done) | with_reducible rfl) | ((repeat' split) <;> first | (simp; done) | with_reducible rfl)))

@[simp↓] theorem canChPart_setPt (s : State) (p : Nat) (v : Point) : canChPart (State.setPt s p v) = canChPart s := by
  unfold State.setPt
  first
  | ((try dsimp only); (repeat' (first | with_reducible rfl | (with_reducible refine (canChPart_foldl _ _ _ (fun _ _ => ?_)).trans ?_) | (simp; done) | split | (rw [canChPart_mk, canChPart_fold]))); done)
  | ((repeat' split) <;> first | (simp; done) | with_reducible rfl)
  | (refine canChPart_foldl _ _ _ (fun a x => ?_); (repeat' split) <;> first | (simp; done) | with_reducible rfl)
  | ((try dsimp only); rw [canChPart_foldl] <;> first | (intro a x; (repeat' split) <;> first | (simp; done) | with_reducible rfl) | ((repeat' split) <;> first | (simp; done) | with_reducible rfl))
  | ((try dsimp only); (repeat' split) <;> first | (simp; done) | with_reducible rfl)
  | ((repeat' (with_reducible refine canChPart_ite ?_ ?_)) <;> first | (simp; done) | with_reducible rfl)
  | ((repeat' split) <;> first
      | (simp; done)
      | with_reducible rfl
      | (refine canChPart_foldl _ _ _ (fun a x => ?_); (repeat' split) <;> first | (simp; done) | with_reducible rfl)
      | ((try dsimp only); rw [canChPart_foldl] <;> first | (intro a x; (repeat' split) <;> first | (simp; done) | with_reducible rfl) | ((repeat' split) <;> first | (simp; done) | with_reducible rfl)))

@[simp↓] theorem canChPart_closeEdge (s : State) : canChPart (State.closeEdge s) = canChPart s := by
  unfold State.closeEdge
  first
  | ((try dsimp only); (repeat' (first | with_reducible rfl | (with_reducible refine (canChPart_foldl _ _ _ (fun _ _ => ?_)).trans ?_) | (simp; done) | split | (rw [canChPart_mk, canChPart_fold]))); done)
  | ((repeat' split) <;> first | (simp; done) | with_reducible rfl)
  | (refine canChPart_foldl _ _ _ (fun a x => ?_); (repeat' split) <;> first | (simp; done) | with_reducible rfl)
  | ((try dsimp only); rw [canChPart_foldl] <;> first | (intro a x; (repeat' split) <;> first | (simp; done) | with_reducible rfl) | ((repeat' split) <;> first | (simp; done) | with_reducible rfl))
  | ((try dsimp only); (repeat' split) <;> first | (simp; done) | with_reducible rfl)
  | ((repeat' (with_reducible refine canChPart_ite ?_ ?_)) <;> first | (simp; done) | with_reducible rfl)
  | ((repeat' split) <;> first
      | (simp; done)
      | with_reducible rfl
      | (refine canChPart_foldl _ _ _ (fun a x => ?_); (repeat' split) <;> first | (simp; done) | with_reducible rfl)
      | ((try dsimp only); rw [canChPart_foldl] <;> first | (intro a x; (repeat' split) <;> first | (simp; done) | with_reducible rfl) | ((repeat' split) <;> first | (simp; done) | with_reducible rfl)))

@[simp↓] theorem canChPart_setCanBuf (s : State) (c : Nat) (b : Nat) (v : CanBuf) : canChPart (State.setCanBuf s c b v) = canChPart s := by
  unfold State.setCanBuf
  first
  | ((try dsimp only); (repeat' (first | with_reducible rfl | (with_reducible refine (canChPart_foldl _ _ _ (fun _ _ => ?_)).trans ?_) | (simp; done) | split | (rw [canChPart_mk, canChPart_fold]))); done)
  | ((repeat' split) <;> first | (simp; done) | with_reducible rfl)
  | (refine canChPart_foldl _ _ _ (fun a x => ?_); (repeat' split) <;> first | (simp; done) | with_reducible rfl)
  | ((try dsimp only); rw [canChPart_foldl] <;> first | (intro a x; (repeat' split) <;> first | (simp; done) | with_reducible rfl) | ((repeat' split) <;> first | (simp; done) | with_reducible rfl))
  | ((try dsimp only); (repeat' split) <;> first | (simp; done) | with_reducible rfl)
  | ((repeat' (with_reducible refine canChPart_ite ?_ ?_)) <;> first | (simp; done) | with_reducible rfl)
  | ((repeat' split) <;> first
      | (simp; done)
      | with_reducible rfl
      | (refine canChPart_foldl _ _ _ (fun a x => ?_); (repeat' split) <;> first | (simp; done) | with_reducible rfl)
      | ((try dsimp only); rw [canChPart_foldl] <;> first | (intro a x; (repeat' split) <;> first | (simp; done) | with_reducible rfl) | ((repeat' split) <;> first | (simp; done) | with_reducible rfl)))

@[simp↓] theorem canChPart_setCanPt (s : State) (p : Nat) (v : CanPt) : canChPart (State.setCanPt s p v) = canChPart s := by
  unfold State.setCanPt
  first
  | ((try dsimp only); (repeat' (first | with_reducible rfl | (with_reducible refine (canChPart_foldl _ _ _ (fun _ _ => ?_)).trans ?_) | (simp; done) | split | (rw [canChPart_mk, canChPart_fold]))); done)
  | ((repeat' split) <;> first | (simp; done) | with_reducible rfl)
  | (refine canChPart_foldl _ _ _ (fun a x => ?_); (repeat' split) <;> first | (simp; done) | with_reducible rfl)
  | ((try dsimp only); rw [canChPart_foldl] <;> first | (intro a x; (repeat' split) <;> first | (simp; done) | with_reducible rfl) | ((repeat' split) <;> first | (simp; done) | with_reducible rfl))
  | ((try dsimp only); (repeat' split) <;> first | (simp; done) | with_reducible rfl)
  | ((repeat' (with_reducible refine canChPart_ite ?_ ?_)) <;> first | (simp; done) | with_reducible rfl)
  | ((repeat' split) <;> first
      | (simp; done)
      | with_reducible rfl
      | (refine canChPart_foldl _ _ _ (fun a x => ?_); (repeat' split) <;> first | (simp; done) | with_reducible rfl)
      | ((try dsimp only); rw [canChPart_foldl] <;> first | (intro a x; (repeat' split) <;> first | (simp; done) | with_reducible rfl) | ((repeat' split) <;> first | (simp; done) | with_reducible rfl)))

@[simp↓] theorem canChPart_canDiag (s : State) (p : Nat) (d : Nat) (on : Bool) : canChPart (State.canDiag s p d on) = canChPart s := by
  unfold State.canDiag
  first
  | ((try dsimp only); (repeat' (first | with_reducible rfl | (with_reducible refine (canChPart_foldl _ _ _ (fun _ _ => ?_)).trans ?_) | (simp; done) | split | (rw [canChPart_mk, canChPart_fold]))); done)
  | ((repeat' split) <;> first | (simp; done) | with_reducible rfl)
  | (refine canChPart_foldl _ _ _ (fun a x => ?_); (repeat' split) <;> first | (simp; done) | with_reducible rfl)
  | ((try dsimp only); rw [canChPart_foldl] <;> first | (intro a x; (repeat' split) <;> first | (simp; done) | with_reducible rfl) | ((repeat' split) <;> first | (simp; done) | with_reducible rfl))
  | ((try dsimp only); (repeat' split) <;> first | (simp; done) | with_reducible rfl)
  | ((repeat' (with_reducible refine canChPart_ite ?_ ?_)) <;> first | (simp; done) | with_reducible rfl)
  | ((repeat' split) <;> first
      | (simp; done)
      | with_reducible rfl
      | (refine canChPart_foldl _ _ _ (fun a x => ?_); (repeat' split) <;> first | (simp; done) | with_reducible rfl)
      | ((try dsimp only); rw [canChPart_foldl] <;> first | (intro a x; (repeat' split) <;> first | (simp; done) | with_reducible rfl) | ((repeat' split) <;> first | (simp; done) | with_reducible rfl)))

@[simp↓] theorem canChPart_canHandleEnd (s : State) (c : Nat) (b : Nat) (outcome : Nat) : canChPart (State.canHandleEnd s c b outcome) = canChPart s := by
  unfold State.canHandleEnd
  first
  | ((try dsimp only); (repeat' (first | with_reducible rfl | (with_reducible refine (canChPart_foldl _ _ _ (fun _ _ => ?_)).trans ?_) | (simp; done) | split | (rw [canChPart_mk, canChPart_fold]))); done)
  | ((repeat' split) <;> first | (simp; done) | with_reducible rfl)
  | (refine canChPart_foldl _ _ _ (fun a x => ?_); (repeat' split) <;> first | (simp; done) | with_reducible rfl)
  | ((try dsimp only); rw [canChPart_foldl] <;> first | (intro a x; (repeat' split) <;> first | (simp; done) | with_reducible rfl) | ((repeat' split) <;> first | (simp; done) | with_reducible rfl))
  | ((try dsimp only); (repeat' split) <;> first | (simp; done) | with_reducible rfl)
  | ((repeat' (with_reducible refine canChPart_ite ?_ ?_)) <;> first | (simp; done) | with_reducible rfl)
  | ((repeat' split) <;> first
      | (simp; done)
      | with_reducible rfl
      | (refine canChPart_foldl _ _ _ (fun a x => ?_); (repeat' split) <;> first | (simp; done) | with_reducible rfl)
      | ((try dsimp only); rw [canChPart_foldl] <;> first | (intro a x; (repeat' split) <;> first | (simp; done) | with_reducible rfl) | ((repeat' split) <;> first | (simp; done) | with_reducible rfl)))

@[simp↓] theorem canChPart_canEnd (s : State) (c : Nat) (b : Nat) (outcome : Nat) (late : Bool) : canChPart (State.canEnd s c b outcome late) = canChPart s := by
  unfold State.canEnd
  first
  | ((try dsimp only); (repeat' (first | with_reducible rfl | (with_reducible refine (canChPart_foldl _ _ _ (fun _ _ => ?_)).trans ?_) | (simp; done) | split | (rw [canChPart_mk, canChPart_fold]))); done)
  | ((repeat' split) <;> first | (simp; done) | with_reducible rfl)
  | (refine canChPart_foldl _ _ _ (fun a x => ?_); (repeat' split) <;> first | (simp; done) | with_reducible rfl)
  | ((try dsimp only); rw [canChPart_foldl] <;> first | (intro a x; (repeat' split) <;> first | (simp; done) | with_reducible rfl) | ((repeat' split) <;> first | (simp; done) | with_reducible rfl))
  | ((try dsimp only); (repeat' split) <;> first | (simp; done) | with_reducible rfl)
  | ((repeat' (with_reducible refine canChPart_ite ?_ ?_)) <;> first | (simp; done) | with_reducible rfl)
  | ((repeat' split) <;> first
      | (simp; done)
      | with_reducible rfl
      | (refine canChPart_foldl _ _ _ (fun a x => ?_); (repeat' split) <;> first | (simp; done) | with_reducible rfl)
      | ((try dsimp only); rw [canChPart_foldl] <;> first | (intro a x; (repeat' split) <;> first | (simp; done) | with_reducible rfl) | ((repeat' split) <;> first | (simp; done) | with_reducible rfl)))

@[simp↓] theorem canChPart_canEndHost (s : State) (c : Nat) (outcome : Nat) (shots : Bool) : canChPart (State.canEndHost s c outcome shots) = canChPart s := by
  unfold State.canEndHost
  first
  | ((try dsimp only); (repeat' (first | with_reducible rfl | (with_reducible refine (canChPart_foldl _ _ _ (fun _ _ => ?_)).trans ?_) | (simp; done) | split | (rw [canChPart_mk, canChPart_fold]))); done)
  | ((repeat' split) <;> first | (simp; done) | with_reducible rfl)
  | (refine canChPart_foldl _ _ _ (fun a x => ?_); (repeat' split) <;> first | (simp; done) | with_reducible rfl)
  | ((try dsimp only); rw [canChPart_foldl] <;> first | (intro a x; (repeat' split) <;> first | (simp; done) | with_reducible rfl) | ((repeat' split) <;> first | (simp; done) | with_reducible rfl))
  | ((try dsimp only); (repeat' split) <;> first | (simp; done) | with_reducible rfl)
  | ((repeat' (with_reducible refine canChPart_ite ?_ ?_)) <;> first | (simp; done) | with_reducible rfl)
  | ((repeat' split) <;> first
      | (simp; done)
      | with_reducible rfl
      | (refine canChPart_foldl _ _ _ (fun a x => ?_); (repeat' split) <;> first | (simp; done) | with_reducible rfl)
      | ((try dsimp only); rw [canChPart_foldl] <;> first | (intro a x; (repeat' split) <;> first | (simp; done) | with_reducible rfl) | ((repeat' split) <;> first | (simp; done) | with_reducible rfl)))

@[simp↓] theorem canChPart_canPtStatus (s : State) (c : Nat) (b : Nat) (p : Nat) (rx : Bool) : canChPart (State.canPtStatus s c b p rx) = canChPart s := by
  unfold State.canPtStatus
  first
  | ((try dsimp only); (repeat' (first | with_reducible rfl | (with_reducible refine (canChPart_foldl _ _ _ (fun _ _ => ?_)).trans ?_) | (simp; done) | split | (rw [canChPart_mk, canChPart_fold]))); done)
  | ((repeat' split) <;> first | (simp; done) | with_reducible rfl)
  | (refine canChPart_foldl _ _ _ (fun a x => ?_); (repeat' split) <;> first | (simp; done) | with_reducible rfl)
  | ((try dsimp only); rw [canChPart_foldl] <;> first | (intro a x; (repeat' split) <;> first | (simp; done) | with_reducible rfl) | ((repeat' split) <;> first | (simp; done) | with_reducible rfl))
  | ((try dsimp only); (repeat' split) <;> first | (simp; done) | with_reducible rfl)
  | ((repeat' (with_reducible refine canChPart_ite ?_ ?_)) <;> first | (simp; done) | with_reducible rfl)
  | ((repeat' split) <;> first
      | (simp; done)
      | with_reducible rfl
      | (refine canChPart_foldl _ _ _ (fun a x => ?_); (repeat' split) <;> first | (simp; done) | with_reducible rfl)
      | ((try dsimp only); rw [canChPart_foldl] <;> first | (intro a x; (repeat' split) <;> first | (simp; done) | with_reducible rfl) | ((repeat' split) <;> first | (simp; done) | with_reducible rfl)))

@[simp↓] theorem canChPart_claimSeen (s : State) (claim : Nat) : canChPart (State.claimSeen s claim) = canChPart s := by
  unfold State.claimSeen
  first
  | ((try dsimp only); (repeat' (first | with_reducible rfl | (with_reducible refine (canChPart_foldl _ _ _ (fun _ _ => ?_)).trans ?_) | (simp; done) | split | (rw [canChPart_mk, canChPart_fold]))); done)
  | ((repeat' split) <;> first | (simp; done) | with_reducible rfl)
  | (refine canChPart_foldl _ _ _ (fun a x => ?_); (repeat' split) <;> first | (simp; done) | with_reducible rfl)
  | ((try dsimp only); rw [canChPart_foldl] <;> first | (intro a x; (repeat' split) <;> first | (simp; done) | with_reducible rfl) | ((repeat' split) <;> first | (simp; done) | with_reducible rfl))
  | ((try dsimp only); (repeat' split) <;> first | (simp; done) | with_reducible rfl)
  | ((repeat' (with_reducible refine canChPart_ite ?_ ?_)) <;> first | (simp; done) | with_reducible rfl)
  | ((repeat' split) <;> first
      | (simp; done)
      | with_reducible rfl
      | (refine canChPart_foldl _ _ _ (fun a x => ?_); (repeat' split) <;> first | (simp; done) | with_reducible rfl)
      | ((try dsimp only); rw [canChPart_foldl] <;> first | (intro a x; (repeat' split) <;> first | (simp; done) | with_reducible rfl) | ((repeat' split) <;> first | (simp; done) | with_reducible rfl)))

@[simp↓] theorem canChPart_canClaimRx (s : State) (c : Nat) (f : CanFrame) : canChPart (State.canClaimRx s c f) = canChPart s := by
  unfold State.canClaimRx
  split
  · dsimp only
    rw [canChPart_claimSeen]
    refine (canChPart_foldl _ _ _ (fun a k => canChPart_foldl _ _ _ (fun t v => ?_))).trans rfl
    rw [canChPart_canPtStatus, canChPart_canDiag]
  · rfl

@[simp↓] theorem canChPart_markBuf (s : State) (c : Nat) (b : Nat) (d : Nat) : canChPart (State.markBuf s c b d) = canChPart s := by
  unfold State.markBuf
  first
  | ((try dsimp only); (repeat' (first | with_reducible rfl | (with_reducible refine (canChPart_foldl _ _ _ (fun _ _ => ?_)).trans ?_) | (simp; done) | split | (rw [canChPart_mk, canChPart_fold]))); done)
  | ((repeat' split) <;> first | (simp; done) | with_reducible rfl)
  | (refine canChPart_foldl _ _ _ (fun a x => ?_); (repeat' split) <;> first | (simp; done) | with_reducible rfl)
  | ((try dsimp only); rw [canChPart_foldl] <;> first | (intro a x; (repeat' split) <;> first | (simp; done) | with_reducible rfl) | ((repeat' split) <;> first | (simp; done) | with_reducible rfl))
  | ((try dsimp only); (repeat' split) <;> first | (simp; done) | with_reducible rfl)
  | ((repeat' (with_reducible refine canChPart_ite ?_ ?_)) <;> first | (simp; done) | with_reducible rfl)
  | ((repeat' split) <;> first
      | (simp; done)
      | with_reducible rfl
      | (refine canChPart_foldl _ _ _ (fun a x => ?_); (repeat' split) <;> first | (simp; done) | with_reducible rfl)
      | ((try dsimp only); rw [canChPart_foldl] <;> first | (intro a x; (repeat' split) <;> first | (simp; done) | with_reducible rfl) | ((repeat' split) <;> first | (simp; done) | with_reducible rfl)))

@[simp↓] theorem canChPart_confirmSent (s : State) (l : List (Nat × Nat × F32)) : canChPart (State.confirmSent s l) = canChPart s := by
  unfold State.confirmSent
  first
  | ((try dsimp only); (repeat' (first | with_reducible rfl | (with_reducible refine (canChPart_foldl _ _ _ (fun _ _ => ?_)).trans ?_) | (simp; done) | split | (rw [canChPart_mk, canChPart_fold]))); done)
  | ((repeat' split) <;> first | (simp; done) | with_reducible rfl)
  | (refine canChPart_foldl _ _ _ (fun a x => ?_); (repeat' split) <;> first | (simp; done) | with_reducible rfl)
  | ((try dsimp only); rw [canChPart_foldl] <;> first | (intro a x; (repeat' split) <;> first | (simp; done) | with_reducible rfl) | ((repeat' split) <;> first | (simp; done) | with_reducible rfl))
  | ((try dsimp only); (repeat' split) <;> first | (simp; done) | with_reducible rfl)
  | ((repeat' (with_reducible refine canChPart_ite ?_ ?_)) <;> first | (simp; done) | with_reducible rfl)
  | ((repeat' split) <;> first
      | (simp; done)
      | with_reducible rfl
      | (refine canChPart_foldl _ _ _ (fun a x => ?_); (repeat' split) <;> first | (simp; done) | with_reducible rfl)
      | ((try dsimp only); rw [canChPart_foldl] <;> first | (intro a x; (repeat' split) <;> first | (simp; done) | with_reducible rfl) | ((repeat' split) <;> first | (simp; done) | with_reducible rfl)))

@[simp↓] theorem canChPart_canRetry (s : State) (c : Nat) (b : Nat) (failCode : Nat) : canChPart (State.canRetry s c b failCode) = canChPart s := by
  unfold State.canRetry
  first
  | ((try dsimp only); (repeat' (first | with_reducible rfl | (with_reducible refine (canChPart_foldl _ _ _ (fun _ _ => ?_)).trans ?_) | (simp; done) | split | (rw [canChPart_mk, canChPart_fold]))); done)
  | ((repeat' split) <;> first | (simp; done) | with_reducible rfl)
  | (refine canChPart_foldl _ _ _ (fun a x => ?_); (repeat' split) <;> first | (simp; done) | with_reducible rfl)
  | ((try dsimp only); rw [canChPart_foldl] <;> first | (intro a x; (repeat' split) <;> first | (simp; done) | with_reducible rfl) | ((repeat' split) <;> first | (simp; done) | with_reducible rfl))
  | ((try dsimp only); (repeat' split) <;> first | (simp; done) | with_reducible rfl)
  | ((repeat' (with_reducible refine canChPart_ite ?_ ?_)) <;> first | (simp; done) | with_reducible rfl)
  | ((repeat' split) <;> first
      | (simp; done)
      | with_reducible rfl
      | (refine canChPart_foldl _ _ _ (fun a x => ?_); (repeat' split) <;> first | (simp; done) | with_reducible rfl)
      | ((try dsimp only); rw [canChPart_foldl] <;> first | (intro a x; (repeat' split) <;> first | (simp; done) | with_reducible rfl) | ((repeat' split) <;> first | (simp; done) | with_reducible rfl)))

/-- The parts `stn`, `prog`, `rst`, `time.running`, `pair.unit`, `pair.resuming`. -/
def stnPart (s : State) := (s.stn, s.prog, s.rst, s.time.running, s.pair.unit, s.pair.resuming)

@[simp] theorem stnPart_fold (s : State) : (s.stn, s.prog, s.rst, s.time.running, s.pair.unit, s.pair.resuming) = stnPart s := rfl

@[simp↓] theorem stnPart_mk (epoch order ident host par lane prog model slv perc afe fed stn pts fio can net time key aud pair pwr rst drip past edge latch pending out free) : stnPart (State.mk epoch order ident host par lane prog model slv perc afe fed stn pts fio can net time key aud pair pwr rst drip past edge latch pending out free) = (stn, prog, rst, time.running, pair.unit, pair.resuming) := rfl

theorem stnPart_silent {s t : State} (h : Silent s t) : stnPart t = stnPart s := by rw [h.rest]; rfl

theorem stnPart_ite {c : Prop} [Decidable c] {a b s : State} (ha : stnPart a = stnPart s) (hb : stnPart b = stnPart s) :
    stnPart (if c then a else b) = stnPart s := by
  split <;> assumption

theorem stnPart_foldl {α : Type} (l : List α) (f : State → α → State) (s : State) (h : ∀ a x, stnPart (f a x) = stnPart a) :
    stnPart (l.foldl f s) = stnPart s := by
  induction l generalizing s with
  | nil => rfl
  | cons x l ih => exact (ih _).trans (h s x)

@[simp↓] theorem stnPart_emit (s : State) (m : OutMsg) : stnPart (State.emit s m) = stnPart s := by
  exact stnPart_silent (silent_emit _ _)

@[simp↓] theorem stnPart_setPt (s : State) (p : Nat) (v : Point) : stnPart (State.setPt s p v) = stnPart s := by
  unfold State.setPt
  first
  | ((try dsimp only); (repeat' (first | with_reducible rfl | (with_reducible refine (stnPart_foldl _ _ _ (fun _ _ => ?_)).trans ?_) | (simp; done) | split | (rw [stnPart_mk, stnPart_fold]))); done)
  | ((repeat' split) <;> first | (simp; done) | with_reducible rfl)
  | (refine stnPart_foldl _ _ _ (fun a x => ?_); (repeat' split) <;> first | (simp; done) | with_reducible rfl)
  | ((try dsimp only); rw [stnPart_foldl] <;> first | (intro a x; (repeat' split) <;> first | (simp; done) | with_reducible rfl) | ((repeat' split) <;> first | (simp; done) | with_reducible rfl))
  | ((try dsimp only); (repeat' split) <;> first | (simp; done) | with_reducible rfl)
  | ((repeat' (with_reducible refine stnPart_ite ?_ ?_)) <;> first | (simp; done) | with_reducible rfl)
  | ((repeat' split) <;> first
      | (simp; done)
      | with_reducible rfl
      | (refine stnPart_foldl _ _ _ (fun a x => ?_); (repeat' split) <;> first | (simp; done) | with_reducible rfl)
      | ((try dsimp only); rw [stnPart_foldl] <;> first | (intro a x; (repeat' split) <;> first | (simp; done) | with_reducible rfl) | ((repeat' split) <;> first | (simp; done) | with_reducible rfl)))

@[simp↓] theorem stnPart_closeEdge (s : State) : stnPart (State.closeEdge s) = stnPart s := by
  unfold State.closeEdge
  first
  | ((try dsimp only); (repeat' (first | with_reducible rfl | (with_reducible refine (stnPart_foldl _ _ _ (fun _ _ => ?_)).trans ?_) | (simp; done) | split | (rw [stnPart_mk, stnPart_fold]))); done)
  | ((repeat' split) <;> first | (simp; done) | with_reducible rfl)
  | (refine stnPart_foldl _ _ _ (fun a x => ?_); (repeat' split) <;> first | (simp; done) | with_reducible rfl)
  | ((try dsimp only); rw [stnPart_foldl] <;> first | (intro a x; (repeat' split) <;> first | (simp; done) | with_reducible rfl) | ((repeat' split) <;> first | (simp; done) | with_reducible rfl))
  | ((try dsimp only); (repeat' split) <;> first | (simp; done) | with_reducible rfl)
  | ((repeat' (with_reducible refine stnPart_ite ?_ ?_)) <;> first | (simp; done) | with_reducible rfl)
  | ((repeat' split) <;> first
      | (simp; done)
      | with_reducible rfl
      | (refine stnPart_foldl _ _ _ (fun a x => ?_); (repeat' split) <;> first | (simp; done) | with_reducible rfl)
      | ((try dsimp only); rw [stnPart_foldl] <;> first | (intro a x; (repeat' split) <;> first | (simp; done) | with_reducible rfl) | ((repeat' split) <;> first | (simp; done) | with_reducible rfl)))

@[simp↓] theorem stnPart_setPort (s : State) (p : Nat) (v : PortSt1) : stnPart (State.setPort s p v) = stnPart s := by
  unfold State.setPort
  first
  | ((try dsimp only); (repeat' (first | with_reducible rfl | (with_reducible refine (stnPart_foldl _ _ _ (fun _ _ => ?_)).trans ?_) | (simp; done) | split | (rw [stnPart_mk, stnPart_fold]))); done)
  | ((repeat' split) <;> first | (simp; done) | with_reducible rfl)
  | (refine stnPart_foldl _ _ _ (fun a x => ?_); (repeat' split) <;> first | (simp; done) | with_reducible rfl)
  | ((try dsimp only); rw [stnPart_foldl] <;> first | (intro a x; (repeat' split) <;> first | (simp; done) | with_reducible rfl) | ((repeat' split) <;> first | (simp; done) | with_reducible rfl))
  | ((try dsimp only); (repeat' split) <;> first | (simp; done) | with_reducible rfl)
  | ((repeat' (with_reducible refine stnPart_ite ?_ ?_)) <;> first | (simp; done) | with_reducible rfl)
  | ((repeat' split) <;> first
      | (simp; done)
      | with_reducible rfl
      | (refine stnPart_foldl _ _ _ (fun a x => ?_); (repeat' split) <;> first | (simp; done) | with_reducible rfl)
      | ((try dsimp only); rw [stnPart_foldl] <;> first | (intro a x; (repeat' split) <;> first | (simp; done) | with_reducible rfl) | ((repeat' split) <;> first | (simp; done) | with_reducible rfl)))

@[simp↓] theorem stnPart_sendPlain (s : State) (p : Nat) (ethertype : Nat) (dst : BitVec 48) (bytes : List Byte) : stnPart (State.sendPlain s p ethertype dst bytes) = stnPart s := by
  unfold State.sendPlain
  first
  | ((try dsimp only); (repeat' (first | with_reducible rfl | (with_reducible refine (stnPart_foldl _ _ _ (fun _ _ => ?_)).trans ?_) | (simp; done) | split | (rw [stnPart_mk, stnPart_fold]))); done)
  | ((repeat' split) <;> first | (simp; done) | with_reducible rfl)
  | (refine stnPart_foldl _ _ _ (fun a x => ?_); (repeat' split) <;> first | (simp; done) | with_reducible rfl)
  | ((try dsimp only); rw [stnPart_foldl] <;> first | (intro a x; (repeat' split) <;> first | (simp; done) | with_reducible rfl) | ((repeat' split) <;> first | (simp; done) | with_reducible rfl))
  | ((try dsimp only); (repeat' split) <;> first | (simp; done) | with_reducible rfl)
  | ((repeat' (with_reducible refine stnPart_ite ?_ ?_)) <;> first | (simp; done) | with_reducible rfl)
  | ((repeat' split) <;> first
      | (simp; done)
      | with_reducible rfl
      | (refine stnPart_foldl _ _ _ (fun a x => ?_); (repeat' split) <;> first | (simp; done) | with_reducible rfl)
      | ((try dsimp only); rw [stnPart_foldl] <;> first | (intro a x; (repeat' split) <;> first | (simp; done) | with_reducible rfl) | ((repeat' split) <;> first | (simp; done) | with_reducible rfl)))

@[simp↓] theorem stnPart_sendOn (s : State) (p : Nat) (ethertype : Nat) (dst : BitVec 48) (bytes : List Byte) : stnPart (State.sendOn s p ethertype dst bytes) = stnPart s := by
  unfold State.sendOn
  first
  | ((try dsimp only); (repeat' (first | with_reducible rfl | (with_reducible refine (stnPart_foldl _ _ _ (fun _ _ => ?_)).trans ?_) | (simp; done) | split | (rw [stnPart_mk, stnPart_fold]))); done)
  | ((repeat' split) <;> first | (simp; done) | with_reducible rfl)
  | (refine stnPart_foldl _ _ _ (fun a x => ?_); (repeat' split) <;> first | (simp; done) | with_reducible rfl)
  | ((try dsimp only); rw [stnPart_foldl] <;> first | (intro a x; (repeat' split) <;> first | (simp; done) | with_reducible rfl) | ((repeat' split) <;> first | (simp; done) | with_reducible rfl))
  | ((try dsimp only); (repeat' split) <;> first | (simp; done) | with_reducible rfl)
  | ((repeat' (with_reducible refine stnPart_ite ?_ ?_)) <;> first | (simp; done) | with_reducible rfl)
  | ((repeat' split) <;> first
      | (simp; done)
      | with_reducible rfl
      | (refine stnPart_foldl _ _ _ (fun a x => ?_); (repeat' split) <;> first | (simp; done) | with_reducible rfl)
      | ((try dsimp only); rw [stnPart_foldl] <;> first | (intro a x; (repeat' split) <;> first | (simp; done) | with_reducible rfl) | ((repeat' split) <;> first | (simp; done) | with_reducible rfl)))

@[simp↓] theorem stnPart_claimSeen (s : State) (claim : Nat) : stnPart (State.claimSeen s claim) = stnPart s := by
  unfold State.claimSeen
  first
  | ((try dsimp only); (repeat' (first | with_reducible rfl | (with_reducible refine (stnPart_foldl _ _ _ (fun _ _ => ?_)).trans ?_) | (simp; done) | split | (rw [stnPart_mk, stnPart_fold]))); done)
  | ((repeat' split) <;> first | (simp; done) | with_reducible rfl)
  | (refine stnPart_foldl _ _ _ (fun a x => ?_); (repeat' split) <;> first | (simp; done) | with_reducible rfl)
  | ((try dsimp only); rw [stnPart_foldl] <;> first | (intro a x; (repeat' split) <;> first | (simp; done) | with_reducible rfl) | ((repeat' split) <;> first | (simp; done) | with_reducible rfl))
  | ((try dsimp only); (repeat' split) <;> first | (simp; done) | with_reducible rfl)
  | ((repeat' (with_reducible refine stnPart_ite ?_ ?_)) <;> first | (simp; done) | with_reducible rfl)
  | ((repeat' split) <;> first
      | (simp; done)
      | with_reducible rfl
      | (refine stnPart_foldl _ _ _ (fun a x => ?_); (repeat' split) <;> first | (simp; done) | with_reducible rfl)
      | ((try dsimp only); rw [stnPart_foldl] <;> first | (intro a x; (repeat' split) <;> first | (simp; done) | with_reducible rfl) | ((repeat' split) <;> first | (simp; done) | with_reducible rfl)))

@[simp↓] theorem stnPart_mapStnPts (s : State) (n : Nat) (f : Nat → Point → Point) : stnPart (State.mapStnPts s n f) = stnPart s := by
  unfold State.mapStnPts
  first
  | ((try dsimp only); (repeat' (first | with_reducible rfl | (with_reducible refine (stnPart_foldl _ _ _ (fun _ _ => ?_)).trans ?_) | (simp; done) | split | (rw [stnPart_mk, stnPart_fold]))); done)
  | ((repeat' split) <;> first | (simp; done) | with_reducible rfl)
  | (refine stnPart_foldl _ _ _ (fun a x => ?_); (repeat' split) <;> first | (simp; done) | with_reducible rfl)
  | ((try dsimp only); rw [stnPart_foldl] <;> first | (intro a x; (repeat' split) <;> first | (simp; done) | with_reducible rfl) | ((repeat' split) <;> first | (simp; done) | with_reducible rfl))
  | ((try dsimp only); (repeat' split) <;> first | (simp; done) | with_reducible rfl)
  | ((repeat' (with_reducible refine stnPart_ite ?_ ?_)) <;> first | (simp; done) | with_reducible rfl)
  | ((repeat' split) <;> first
      | (simp; done)
      | with_reducible rfl
      | (refine stnPart_foldl _ _ _ (fun a x => ?_); (repeat' split) <;> first | (simp; done) | with_reducible rfl)
      | ((try dsimp only); rw [stnPart_foldl] <;> first | (intro a x; (repeat' split) <;> first | (simp; done) | with_reducible rfl) | ((repeat' split) <;> first | (simp; done) | with_reducible rfl)))

@[simp↓] theorem stnPart_mapStnOuts (s : State) (n : Nat) (f : Point → Point) : stnPart (State.mapStnOuts s n f) = stnPart s := by
  unfold State.mapStnOuts
  first
  | ((try dsimp only); (repeat' (first | with_reducible rfl | (with_reducible refine (stnPart_foldl _ _ _ (fun _ _ => ?_)).trans ?_) | (simp; done) | split | (rw [stnPart_mk, stnPart_fold]))); done)
  | ((repeat' split) <;> first | (simp; done) | with_reducible rfl)
  | (refine stnPart_foldl _ _ _ (fun a x => ?_); (repeat' split) <;> first | (simp; done) | with_reducible rfl)
  | ((try dsimp only); rw [stnPart_foldl] <;> first | (intro a x; (repeat' split) <;> first | (simp; done) | with_reducible rfl) | ((repeat' split) <;> first | (simp; done) | with_reducible rfl))
  | ((try dsimp only); (repeat' split) <;> first | (simp; done) | with_reducible rfl)
  | ((repeat' (with_reducible refine stnPart_ite ?_ ?_)) <;> first | (simp; done) | with_reducible rfl)
  | ((repeat' split) <;> first
      | (simp; done)
      | with_reducible rfl
      | (refine stnPart_foldl _ _ _ (fun a x => ?_); (repeat' split) <;> first | (simp; done) | with_reducible rfl)
      | ((try dsimp only); rw [stnPart_foldl] <;> first | (intro a x; (repeat' split) <;> first | (simp; done) | with_reducible rfl) | ((repeat' split) <;> first | (simp; done) | with_reducible rfl)))

@[simp↓] theorem stnPart_sendSeg (s : State) (n : Nat) (ftype : Nat) (epoch : Nat) (seg : Nat) (segs : Nat) (first : Nat) (count : Nat) (key : List Byte) (payload : List Byte) : stnPart (State.sendSeg s n ftype epoch seg segs first count key payload) = stnPart s := by
  unfold State.sendSeg
  first
  | ((try dsimp only); (repeat' (first | with_reducible rfl | (with_reducible refine (stnPart_foldl _ _ _ (fun _ _ => ?_)).trans ?_) | (simp; done) | split | (rw [stnPart_mk, stnPart_fold]))); done)
  | ((repeat' split) <;> first | (simp; done) | with_reducible rfl)
  | (refine stnPart_foldl _ _ _ (fun a x => ?_); (repeat' split) <;> first | (simp; done) | with_reducible rfl)
  | ((try dsimp only); rw [stnPart_foldl] <;> first | (intro a x; (repeat' split) <;> first | (simp; done) | with_reducible rfl) | ((repeat' split) <;> first | (simp; done) | with_reducible rfl))
  | ((try dsimp only); (repeat' split) <;> first | (simp; done) | with_reducible rfl)
  | ((repeat' (with_reducible refine stnPart_ite ?_ ?_)) <;> first | (simp; done) | with_reducible rfl)
  | ((repeat' split) <;> first
      | (simp; done)
      | with_reducible rfl
      | (refine stnPart_foldl _ _ _ (fun a x => ?_); (repeat' split) <;> first | (simp; done) | with_reducible rfl)
      | ((try dsimp only); rw [stnPart_foldl] <;> first | (intro a x; (repeat' split) <;> first | (simp; done) | with_reducible rfl) | ((repeat' split) <;> first | (simp; done) | with_reducible rfl)))

/-- The parts `prog`, `epoch`, `rst`, `time.running`, `pair.unit`, `pair.resuming`, `pair.claim`. -/
def livePart (s : State) := (s.prog, s.epoch, s.rst, s.time.running, s.pair.unit, s.pair.resuming, s.pair.claim)

@[simp] theorem livePart_fold (s : State) : (s.prog, s.epoch, s.rst, s.time.running, s.pair.unit, s.pair.resuming, s.pair.claim) = livePart s := rfl

@[simp↓] theorem livePart_mk (epoch order ident host par lane prog model slv perc afe fed stn pts fio can net time key aud pair pwr rst drip past edge latch pending out free) : livePart (State.mk epoch order ident host par lane prog model slv perc afe fed stn pts fio can net time key aud pair pwr rst drip past edge latch pending out free) = (prog, epoch, rst, time.running, pair.unit, pair.resuming, pair.claim) := rfl

theorem livePart_silent {s t : State} (h : Silent s t) : livePart t = livePart s := by rw [h.rest]; rfl

theorem livePart_ite {c : Prop} [Decidable c] {a b s : State} (ha : livePart a = livePart s) (hb : livePart b = livePart s) :
    livePart (if c then a else b) = livePart s := by
  split <;> assumption

theorem livePart_foldl {α : Type} (l : List α) (f : State → α → State) (s : State) (h : ∀ a x, livePart (f a x) = livePart a) :
    livePart (l.foldl f s) = livePart s := by
  induction l generalizing s with
  | nil => rfl
  | cons x l ih => exact (ih _).trans (h s x)

@[simp↓] theorem livePart_emit (s : State) (m : OutMsg) : livePart (State.emit s m) = livePart s := by
  exact livePart_silent (silent_emit _ _)

@[simp↓] theorem livePart_setPt (s : State) (p : Nat) (v : Point) : livePart (State.setPt s p v) = livePart s := by
  unfold State.setPt
  first
  | ((try dsimp only); (repeat' (first | with_reducible rfl | (with_reducible refine (livePart_foldl _ _ _ (fun _ _ => ?_)).trans ?_) | (simp; done) | split | (rw [livePart_mk, livePart_fold]))); done)
  | ((repeat' split) <;> first | (simp; done) | with_reducible rfl)
  | (refine livePart_foldl _ _ _ (fun a x => ?_); (repeat' split) <;> first | (simp; done) | with_reducible rfl)
  | ((try dsimp only); rw [livePart_foldl] <;> first | (intro a x; (repeat' split) <;> first | (simp; done) | with_reducible rfl) | ((repeat' split) <;> first | (simp; done) | with_reducible rfl))
  | ((try dsimp only); (repeat' split) <;> first | (simp; done) | with_reducible rfl)
  | ((repeat' (with_reducible refine livePart_ite ?_ ?_)) <;> first | (simp; done) | with_reducible rfl)
  | ((repeat' split) <;> first
      | (simp; done)
      | with_reducible rfl
      | (refine livePart_foldl _ _ _ (fun a x => ?_); (repeat' split) <;> first | (simp; done) | with_reducible rfl)
      | ((try dsimp only); rw [livePart_foldl] <;> first | (intro a x; (repeat' split) <;> first | (simp; done) | with_reducible rfl) | ((repeat' split) <;> first | (simp; done) | with_reducible rfl)))

@[simp↓] theorem livePart_closeEdge (s : State) : livePart (State.closeEdge s) = livePart s := by
  unfold State.closeEdge
  first
  | ((try dsimp only); (repeat' (first | with_reducible rfl | (with_reducible refine (livePart_foldl _ _ _ (fun _ _ => ?_)).trans ?_) | (simp; done) | split | (rw [livePart_mk, livePart_fold]))); done)
  | ((repeat' split) <;> first | (simp; done) | with_reducible rfl)
  | (refine livePart_foldl _ _ _ (fun a x => ?_); (repeat' split) <;> first | (simp; done) | with_reducible rfl)
  | ((try dsimp only); rw [livePart_foldl] <;> first | (intro a x; (repeat' split) <;> first | (simp; done) | with_reducible rfl) | ((repeat' split) <;> first | (simp; done) | with_reducible rfl))
  | ((try dsimp only); (repeat' split) <;> first | (simp; done) | with_reducible rfl)
  | ((repeat' (with_reducible refine livePart_ite ?_ ?_)) <;> first | (simp; done) | with_reducible rfl)
  | ((repeat' split) <;> first
      | (simp; done)
      | with_reducible rfl
      | (refine livePart_foldl _ _ _ (fun a x => ?_); (repeat' split) <;> first | (simp; done) | with_reducible rfl)
      | ((try dsimp only); rw [livePart_foldl] <;> first | (intro a x; (repeat' split) <;> first | (simp; done) | with_reducible rfl) | ((repeat' split) <;> first | (simp; done) | with_reducible rfl)))

@[simp↓] theorem livePart_setPort (s : State) (p : Nat) (v : PortSt1) : livePart (State.setPort s p v) = livePart s := by
  unfold State.setPort
  first
  | ((try dsimp only); (repeat' (first | with_reducible rfl | (with_reducible refine (livePart_foldl _ _ _ (fun _ _ => ?_)).trans ?_) | (simp; done) | split | (rw [livePart_mk, livePart_fold]))); done)
  | ((repeat' split) <;> first | (simp; done) | with_reducible rfl)
  | (refine livePart_foldl _ _ _ (fun a x => ?_); (repeat' split) <;> first | (simp; done) | with_reducible rfl)
  | ((try dsimp only); rw [livePart_foldl] <;> first | (intro a x; (repeat' split) <;> first | (simp; done) | with_reducible rfl) | ((repeat' split) <;> first | (simp; done) | with_reducible rfl))
  | ((try dsimp only); (repeat' split) <;> first | (simp; done) | with_reducible rfl)
  | ((repeat' (with_reducible refine livePart_ite ?_ ?_)) <;> first | (simp; done) | with_reducible rfl)
  | ((repeat' split) <;> first
      | (simp; done)
      | with_reducible rfl
      | (refine livePart_foldl _ _ _ (fun a x => ?_); (repeat' split) <;> first | (simp; done) | with_reducible rfl)
      | ((try dsimp only); rw [livePart_foldl] <;> first | (intro a x; (repeat' split) <;> first | (simp; done) | with_reducible rfl) | ((repeat' split) <;> first | (simp; done) | with_reducible rfl)))

@[simp↓] theorem livePart_sendPlain (s : State) (p : Nat) (ethertype : Nat) (dst : BitVec 48) (bytes : List Byte) : livePart (State.sendPlain s p ethertype dst bytes) = livePart s := by
  unfold State.sendPlain
  first
  | ((try dsimp only); (repeat' (first | with_reducible rfl | (with_reducible refine (livePart_foldl _ _ _ (fun _ _ => ?_)).trans ?_) | (simp; done) | split | (rw [livePart_mk, livePart_fold]))); done)
  | ((repeat' split) <;> first | (simp; done) | with_reducible rfl)
  | (refine livePart_foldl _ _ _ (fun a x => ?_); (repeat' split) <;> first | (simp; done) | with_reducible rfl)
  | ((try dsimp only); rw [livePart_foldl] <;> first | (intro a x; (repeat' split) <;> first | (simp; done) | with_reducible rfl) | ((repeat' split) <;> first | (simp; done) | with_reducible rfl))
  | ((try dsimp only); (repeat' split) <;> first | (simp; done) | with_reducible rfl)
  | ((repeat' (with_reducible refine livePart_ite ?_ ?_)) <;> first | (simp; done) | with_reducible rfl)
  | ((repeat' split) <;> first
      | (simp; done)
      | with_reducible rfl
      | (refine livePart_foldl _ _ _ (fun a x => ?_); (repeat' split) <;> first | (simp; done) | with_reducible rfl)
      | ((try dsimp only); rw [livePart_foldl] <;> first | (intro a x; (repeat' split) <;> first | (simp; done) | with_reducible rfl) | ((repeat' split) <;> first | (simp; done) | with_reducible rfl)))

@[simp↓] theorem livePart_sendOn (s : State) (p : Nat) (ethertype : Nat) (dst : BitVec 48) (bytes : List Byte) : livePart (State.sendOn s p ethertype dst bytes) = livePart s := by
  unfold State.sendOn
  first
  | ((try dsimp only); (repeat' (first | with_reducible rfl | (with_reducible refine (livePart_foldl _ _ _ (fun _ _ => ?_)).trans ?_) | (simp; done) | split | (rw [livePart_mk, livePart_fold]))); done)
  | ((repeat' split) <;> first | (simp; done) | with_reducible rfl)
  | (refine livePart_foldl _ _ _ (fun a x => ?_); (repeat' split) <;> first | (simp; done) | with_reducible rfl)
  | ((try dsimp only); rw [livePart_foldl] <;> first | (intro a x; (repeat' split) <;> first | (simp; done) | with_reducible rfl) | ((repeat' split) <;> first | (simp; done) | with_reducible rfl))
  | ((try dsimp only); (repeat' split) <;> first | (simp; done) | with_reducible rfl)
  | ((repeat' (with_reducible refine livePart_ite ?_ ?_)) <;> first | (simp; done) | with_reducible rfl)
  | ((repeat' split) <;> first
      | (simp; done)
      | with_reducible rfl
      | (refine livePart_foldl _ _ _ (fun a x => ?_); (repeat' split) <;> first | (simp; done) | with_reducible rfl)
      | ((try dsimp only); rw [livePart_foldl] <;> first | (intro a x; (repeat' split) <;> first | (simp; done) | with_reducible rfl) | ((repeat' split) <;> first | (simp; done) | with_reducible rfl)))

@[simp↓] theorem livePart_claimSeen (s : State) (claim : Nat) : livePart (State.claimSeen s claim) = livePart s := by
  unfold State.claimSeen
  first
  | ((try dsimp only); (repeat' (first | with_reducible rfl | (with_reducible refine (livePart_foldl _ _ _ (fun _ _ => ?_)).trans ?_) | (simp; done) | split | (rw [livePart_mk, livePart_fold]))); done)
  | ((repeat' split) <;> first | (simp; done) | with_reducible rfl)
  | (refine livePart_foldl _ _ _ (fun a x => ?_); (repeat' split) <;> first | (simp; done) | with_reducible rfl)
  | ((try dsimp only); rw [livePart_foldl] <;> first | (intro a x; (repeat' split) <;> first | (simp; done) | with_reducible rfl) | ((repeat' split) <;> first | (simp; done) | with_reducible rfl))
  | ((try dsimp only); (repeat' split) <;> first | (simp; done) | with_reducible rfl)
  | ((repeat' (with_reducible refine livePart_ite ?_ ?_)) <;> first | (simp; done) | with_reducible rfl)
  | ((repeat' split) <;> first
      | (simp; done)
      | with_reducible rfl
      | (refine livePart_foldl _ _ _ (fun a x => ?_); (repeat' split) <;> first | (simp; done) | with_reducible rfl)
      | ((try dsimp only); rw [livePart_foldl] <;> first | (intro a x; (repeat' split) <;> first | (simp; done) | with_reducible rfl) | ((repeat' split) <;> first | (simp; done) | with_reducible rfl)))

@[simp↓] theorem livePart_setStn (s : State) (n : Nat) (v : Stn) : livePart (State.setStn s n v) = livePart s := by
  unfold State.setStn
  first
  | ((try dsimp only); (repeat' (first | with_reducible rfl | (with_reducible refine (livePart_foldl _ _ _ (fun _ _ => ?_)).trans ?_) | (simp; done) | split | (rw [livePart_mk, livePart_fold]))); done)
  | ((repeat' split) <;> first | (simp; done) | with_reducible rfl)
  | (refine livePart_foldl _ _ _ (fun a x => ?_); (repeat' split) <;> first | (simp; done) | with_reducible rfl)
  | ((try dsimp only); rw [livePart_foldl] <;> first | (intro a x; (repeat' split) <;> first | (simp; done) | with_reducible rfl) | ((repeat' split) <;> first | (simp; done) | with_reducible rfl))
  | ((try dsimp only); (repeat' split) <;> first | (simp; done) | with_reducible rfl)
  | ((repeat' (with_reducible refine livePart_ite ?_ ?_)) <;> first | (simp; done) | with_reducible rfl)
  | ((repeat' split) <;> first
      | (simp; done)
      | with_reducible rfl
      | (refine livePart_foldl _ _ _ (fun a x => ?_); (repeat' split) <;> first | (simp; done) | with_reducible rfl)
      | ((try dsimp only); rw [livePart_foldl] <;> first | (intro a x; (repeat' split) <;> first | (simp; done) | with_reducible rfl) | ((repeat' split) <;> first | (simp; done) | with_reducible rfl)))

@[simp↓] theorem livePart_mapStnPts (s : State) (n : Nat) (f : Nat → Point → Point) : livePart (State.mapStnPts s n f) = livePart s := by
  unfold State.mapStnPts
  first
  | ((try dsimp only); (repeat' (first | with_reducible rfl | (with_reducible refine (livePart_foldl _ _ _ (fun _ _ => ?_)).trans ?_) | (simp; done) | split | (rw [livePart_mk, livePart_fold]))); done)
  | ((repeat' split) <;> first | (simp; done) | with_reducible rfl)
  | (refine livePart_foldl _ _ _ (fun a x => ?_); (repeat' split) <;> first | (simp; done) | with_reducible rfl)
  | ((try dsimp only); rw [livePart_foldl] <;> first | (intro a x; (repeat' split) <;> first | (simp; done) | with_reducible rfl) | ((repeat' split) <;> first | (simp; done) | with_reducible rfl))
  | ((try dsimp only); (repeat' split) <;> first | (simp; done) | with_reducible rfl)
  | ((repeat' (with_reducible refine livePart_ite ?_ ?_)) <;> first | (simp; done) | with_reducible rfl)
  | ((repeat' split) <;> first
      | (simp; done)
      | with_reducible rfl
      | (refine livePart_foldl _ _ _ (fun a x => ?_); (repeat' split) <;> first | (simp; done) | with_reducible rfl)
      | ((try dsimp only); rw [livePart_foldl] <;> first | (intro a x; (repeat' split) <;> first | (simp; done) | with_reducible rfl) | ((repeat' split) <;> first | (simp; done) | with_reducible rfl)))

@[simp↓] theorem livePart_mapStnOuts (s : State) (n : Nat) (f : Point → Point) : livePart (State.mapStnOuts s n f) = livePart s := by
  unfold State.mapStnOuts
  first
  | ((try dsimp only); (repeat' (first | with_reducible rfl | (with_reducible refine (livePart_foldl _ _ _ (fun _ _ => ?_)).trans ?_) | (simp; done) | split | (rw [livePart_mk, livePart_fold]))); done)
  | ((repeat' split) <;> first | (simp; done) | with_reducible rfl)
  | (refine livePart_foldl _ _ _ (fun a x => ?_); (repeat' split) <;> first | (simp; done) | with_reducible rfl)
  | ((try dsimp only); rw [livePart_foldl] <;> first | (intro a x; (repeat' split) <;> first | (simp; done) | with_reducible rfl) | ((repeat' split) <;> first | (simp; done) | with_reducible rfl))
  | ((try dsimp only); (repeat' split) <;> first | (simp; done) | with_reducible rfl)
  | ((repeat' (with_reducible refine livePart_ite ?_ ?_)) <;> first | (simp; done) | with_reducible rfl)
  | ((repeat' split) <;> first
      | (simp; done)
      | with_reducible rfl
      | (refine livePart_foldl _ _ _ (fun a x => ?_); (repeat' split) <;> first | (simp; done) | with_reducible rfl)
      | ((try dsimp only); rw [livePart_foldl] <;> first | (intro a x; (repeat' split) <;> first | (simp; done) | with_reducible rfl) | ((repeat' split) <;> first | (simp; done) | with_reducible rfl)))

@[simp↓] theorem livePart_sendSeg (s : State) (n : Nat) (ftype : Nat) (epoch : Nat) (seg : Nat) (segs : Nat) (first : Nat) (count : Nat) (key : List Byte) (payload : List Byte) : livePart (State.sendSeg s n ftype epoch seg segs first count key payload) = livePart s := by
  unfold State.sendSeg
  first
  | ((try dsimp only); (repeat' (first | with_reducible rfl | (with_reducible refine (livePart_foldl _ _ _ (fun _ _ => ?_)).trans ?_) | (simp; done) | split | (rw [livePart_mk, livePart_fold]))); done)
  | ((repeat' split) <;> first | (simp; done) | with_reducible rfl)
  | (refine livePart_foldl _ _ _ (fun a x => ?_); (repeat' split) <;> first | (simp; done) | with_reducible rfl)
  | ((try dsimp only); rw [livePart_foldl] <;> first | (intro a x; (repeat' split) <;> first | (simp; done) | with_reducible rfl) | ((repeat' split) <;> first | (simp; done) | with_reducible rfl))
  | ((try dsimp only); (repeat' split) <;> first | (simp; done) | with_reducible rfl)
  | ((repeat' (with_reducible refine livePart_ite ?_ ?_)) <;> first | (simp; done) | with_reducible rfl)
  | ((repeat' split) <;> first
      | (simp; done)
      | with_reducible rfl
      | (refine livePart_foldl _ _ _ (fun a x => ?_); (repeat' split) <;> first | (simp; done) | with_reducible rfl)
      | ((try dsimp only); rw [livePart_foldl] <;> first | (intro a x; (repeat' split) <;> first | (simp; done) | with_reducible rfl) | ((repeat' split) <;> first | (simp; done) | with_reducible rfl)))

@[simp↓] theorem livePart_sendStn (s : State) (n : Nat) (ftype : Nat) (epoch : Nat) (key : List Byte) (segs : List (Nat × Nat × List Byte)) : livePart (State.sendStn s n ftype epoch key segs) = livePart s := by
  unfold State.sendStn
  dsimp only
  rw [livePart_setStn]
  generalize segs.length = m
  generalize hx : (s, 0) = x
  have hs : s = x.1 := by rw [← hx]
  rw [hs]
  clear hx hs
  induction segs generalizing x with
  | nil => rfl
  | cons y l ih => exact (ih _).trans (livePart_sendSeg _ _ _ _ _ _ _ _ _ _)

@[simp↓] theorem livePart_sendOutputs (s : State) (n : Nat) (a : Nat) (vals : List (Nat × F32)) : livePart (State.sendOutputs s n a vals) = livePart s := by
  unfold State.sendOutputs
  first
  | ((try dsimp only); (repeat' (first | with_reducible rfl | (with_reducible refine (livePart_foldl _ _ _ (fun _ _ => ?_)).trans ?_) | (simp; done) | split | (rw [livePart_mk, livePart_fold]))); done)
  | ((repeat' split) <;> first | (simp; done) | with_reducible rfl)
  | (refine livePart_foldl _ _ _ (fun a x => ?_); (repeat' split) <;> first | (simp; done) | with_reducible rfl)
  | ((try dsimp only); rw [livePart_foldl] <;> first | (intro a x; (repeat' split) <;> first | (simp; done) | with_reducible rfl) | ((repeat' split) <;> first | (simp; done) | with_reducible rfl))
  | ((try dsimp only); (repeat' split) <;> first | (simp; done) | with_reducible rfl)
  | ((repeat' (with_reducible refine livePart_ite ?_ ?_)) <;> first | (simp; done) | with_reducible rfl)
  | ((repeat' split) <;> first
      | (simp; done)
      | with_reducible rfl
      | (refine livePart_foldl _ _ _ (fun a x => ?_); (repeat' split) <;> first | (simp; done) | with_reducible rfl)
      | ((try dsimp only); rw [livePart_foldl] <;> first | (intro a x; (repeat' split) <;> first | (simp; done) | with_reducible rfl) | ((repeat' split) <;> first | (simp; done) | with_reducible rfl)))

@[simp↓] theorem livePart_stnOutput (s : State) (n : Nat) (a : Nat) : livePart (State.stnOutput s n a) = livePart s := by
  unfold State.stnOutput
  first
  | ((try dsimp only); (repeat' (first | with_reducible rfl | (with_reducible refine (livePart_foldl _ _ _ (fun _ _ => ?_)).trans ?_) | (simp; done) | split | (rw [livePart_mk, livePart_fold]))); done)
  | ((repeat' split) <;> first | (simp; done) | with_reducible rfl)
  | (refine livePart_foldl _ _ _ (fun a x => ?_); (repeat' split) <;> first | (simp; done) | with_reducible rfl)
  | ((try dsimp only); rw [livePart_foldl] <;> first | (intro a x; (repeat' split) <;> first | (simp; done) | with_reducible rfl) | ((repeat' split) <;> first | (simp; done) | with_reducible rfl))
  | ((try dsimp only); (repeat' split) <;> first | (simp; done) | with_reducible rfl)
  | ((repeat' (with_reducible refine livePart_ite ?_ ?_)) <;> first | (simp; done) | with_reducible rfl)
  | ((repeat' split) <;> first
      | (simp; done)
      | with_reducible rfl
      | (refine livePart_foldl _ _ _ (fun a x => ?_); (repeat' split) <;> first | (simp; done) | with_reducible rfl)
      | ((try dsimp only); rw [livePart_foldl] <;> first | (intro a x; (repeat' split) <;> first | (simp; done) | with_reducible rfl) | ((repeat' split) <;> first | (simp; done) | with_reducible rfl)))

@[simp↓] theorem livePart_sendConfig (s : State) (n : Nat) : livePart (State.sendConfig s n) = livePart s := by
  unfold State.sendConfig
  first
  | ((try dsimp only); (repeat' (first | with_reducible rfl | (with_reducible refine (livePart_foldl _ _ _ (fun _ _ => ?_)).trans ?_) | (simp; done) | split | (rw [livePart_mk, livePart_fold]))); done)
  | ((repeat' split) <;> first | (simp; done) | with_reducible rfl)
  | (refine livePart_foldl _ _ _ (fun a x => ?_); (repeat' split) <;> first | (simp; done) | with_reducible rfl)
  | ((try dsimp only); rw [livePart_foldl] <;> first | (intro a x; (repeat' split) <;> first | (simp; done) | with_reducible rfl) | ((repeat' split) <;> first | (simp; done) | with_reducible rfl))
  | ((try dsimp only); (repeat' split) <;> first | (simp; done) | with_reducible rfl)
  | ((repeat' (with_reducible refine livePart_ite ?_ ?_)) <;> first | (simp; done) | with_reducible rfl)
  | ((repeat' split) <;> first
      | (simp; done)
      | with_reducible rfl
      | (refine livePart_foldl _ _ _ (fun a x => ?_); (repeat' split) <;> first | (simp; done) | with_reducible rfl)
      | ((try dsimp only); rw [livePart_foldl] <;> first | (intro a x; (repeat' split) <;> first | (simp; done) | with_reducible rfl) | ((repeat' split) <;> first | (simp; done) | with_reducible rfl)))

@[simp↓] theorem livePart_stnClaim (s : State) (f : StnFrame) : livePart (State.stnClaim s f) = livePart s := by
  unfold State.stnClaim
  first
  | ((try dsimp only); (repeat' (first | with_reducible rfl | (with_reducible refine (livePart_foldl _ _ _ (fun _ _ => ?_)).trans ?_) | (simp; done) | split | (rw [livePart_mk, livePart_fold]))); done)
  | ((repeat' split) <;> first | (simp; done) | with_reducible rfl)
  | (refine livePart_foldl _ _ _ (fun a x => ?_); (repeat' split) <;> first | (simp; done) | with_reducible rfl)
  | ((try dsimp only); rw [livePart_foldl] <;> first | (intro a x; (repeat' split) <;> first | (simp; done) | with_reducible rfl) | ((repeat' split) <;> first | (simp; done) | with_reducible rfl))
  | ((try dsimp only); (repeat' split) <;> first | (simp; done) | with_reducible rfl)
  | ((repeat' (with_reducible refine livePart_ite ?_ ?_)) <;> first | (simp; done) | with_reducible rfl)
  | ((repeat' split) <;> first
      | (simp; done)
      | with_reducible rfl
      | (refine livePart_foldl _ _ _ (fun a x => ?_); (repeat' split) <;> first | (simp; done) | with_reducible rfl)
      | ((try dsimp only); rw [livePart_foldl] <;> first | (intro a x; (repeat' split) <;> first | (simp; done) | with_reducible rfl) | ((repeat' split) <;> first | (simp; done) | with_reducible rfl)))

@[simp↓] theorem livePart_stnReport (s : State) (f : StnFrame) : livePart (State.stnReport s f) = livePart s := by
  unfold State.stnReport
  first
  | ((try dsimp only); (repeat' (first | with_reducible rfl | (with_reducible refine (livePart_foldl _ _ _ (fun _ _ => ?_)).trans ?_) | (simp; done) | split | (rw [livePart_mk, livePart_fold]))); done)
  | ((repeat' split) <;> first | (simp; done) | with_reducible rfl)
  | (refine livePart_foldl _ _ _ (fun a x => ?_); (repeat' split) <;> first | (simp; done) | with_reducible rfl)
  | ((try dsimp only); rw [livePart_foldl] <;> first | (intro a x; (repeat' split) <;> first | (simp; done) | with_reducible rfl) | ((repeat' split) <;> first | (simp; done) | with_reducible rfl))
  | ((try dsimp only); (repeat' split) <;> first | (simp; done) | with_reducible rfl)
  | ((repeat' (with_reducible refine livePart_ite ?_ ?_)) <;> first | (simp; done) | with_reducible rfl)
  | ((repeat' split) <;> first
      | (simp; done)
      | with_reducible rfl
      | (refine livePart_foldl _ _ _ (fun a x => ?_); (repeat' split) <;> first | (simp; done) | with_reducible rfl)
      | ((try dsimp only); rw [livePart_foldl] <;> first | (intro a x; (repeat' split) <;> first | (simp; done) | with_reducible rfl) | ((repeat' split) <;> first | (simp; done) | with_reducible rfl)))

@[simp↓] theorem livePart_enterSeg (s : State) (n : Nat) (c : Nat) (ret : Bool) (unsync : Bool) (g : StnSeg) : livePart (State.enterSeg s n c ret unsync g) = livePart s := by
  unfold State.enterSeg
  first
  | ((try dsimp only); (repeat' (first | with_reducible rfl | (with_reducible refine (livePart_foldl _ _ _ (fun _ _ => ?_)).trans ?_) | (simp; done) | split | (rw [livePart_mk, livePart_fold]))); done)
  | ((repeat' split) <;> first | (simp; done) | with_reducible rfl)
  | (refine livePart_foldl _ _ _ (fun a x => ?_); (repeat' split) <;> first | (simp; done) | with_reducible rfl)
  | ((try dsimp only); rw [livePart_foldl] <;> first | (intro a x; (repeat' split) <;> first | (simp; done) | with_reducible rfl) | ((repeat' split) <;> first | (simp; done) | with_reducible rfl))
  | ((try dsimp only); (repeat' split) <;> first | (simp; done) | with_reducible rfl)
  | ((repeat' (with_reducible refine livePart_ite ?_ ?_)) <;> first | (simp; done) | with_reducible rfl)
  | ((repeat' split) <;> first
      | (simp; done)
      | with_reducible rfl
      | (refine livePart_foldl _ _ _ (fun a x => ?_); (repeat' split) <;> first | (simp; done) | with_reducible rfl)
      | ((try dsimp only); rw [livePart_foldl] <;> first | (intro a x; (repeat' split) <;> first | (simp; done) | with_reducible rfl) | ((repeat' split) <;> first | (simp; done) | with_reducible rfl)))

@[simp↓] theorem livePart_stnEnter (s : State) (n : Nat) (c : Nat) (f : StnIn) : livePart (State.stnEnter s n c f) = livePart s := by
  unfold State.stnEnter
  dsimp only
  refine livePart_ite ?_ ?_
  · rw [livePart_mapStnOuts, livePart_mapStnOuts]
    exact (livePart_foldl _ _ _ (fun a k => livePart_enterSeg _ _ _ _ _ _)).trans (livePart_setStn _ _ _)
  · exact livePart_setStn _ _ _

@[simp↓] theorem livePart_stnLose (s : State) (n : Nat) : livePart (State.stnLose s n) = livePart s := by
  unfold State.stnLose
  first
  | ((try dsimp only); (repeat' (first | with_reducible rfl | (with_reducible refine (livePart_foldl _ _ _ (fun _ _ => ?_)).trans ?_) | (simp; done) | split | (rw [livePart_mk, livePart_fold]))); done)
  | ((repeat' split) <;> first | (simp; done) | with_reducible rfl)
  | (refine livePart_foldl _ _ _ (fun a x => ?_); (repeat' split) <;> first | (simp; done) | with_reducible rfl)
  | ((try dsimp only); rw [livePart_foldl] <;> first | (intro a x; (repeat' split) <;> first | (simp; done) | with_reducible rfl) | ((repeat' split) <;> first | (simp; done) | with_reducible rfl))
  | ((try dsimp only); (repeat' split) <;> first | (simp; done) | with_reducible rfl)
  | ((repeat' (with_reducible refine livePart_ite ?_ ?_)) <;> first | (simp; done) | with_reducible rfl)
  | ((repeat' split) <;> first
      | (simp; done)
      | with_reducible rfl
      | (refine livePart_foldl _ _ _ (fun a x => ?_); (repeat' split) <;> first | (simp; done) | with_reducible rfl)
      | ((try dsimp only); rw [livePart_foldl] <;> first | (intro a x; (repeat' split) <;> first | (simp; done) | with_reducible rfl) | ((repeat' split) <;> first | (simp; done) | with_reducible rfl)))

@[simp↓] theorem livePart_stnMissed (s : State) (n : Nat) (x : Stn) : livePart (State.stnMissed s n x) = livePart s := by
  unfold State.stnMissed
  first
  | ((try dsimp only); (repeat' (first | with_reducible rfl | (with_reducible refine (livePart_foldl _ _ _ (fun _ _ => ?_)).trans ?_) | (simp; done) | split | (rw [livePart_mk, livePart_fold]))); done)
  | ((repeat' split) <;> first | (simp; done) | with_reducible rfl)
  | (refine livePart_foldl _ _ _ (fun a x => ?_); (repeat' split) <;> first | (simp; done) | with_reducible rfl)
  | ((try dsimp only); rw [livePart_foldl] <;> first | (intro a x; (repeat' split) <;> first | (simp; done) | with_reducible rfl) | ((repeat' split) <;> first | (simp; done) | with_reducible rfl))
  | ((try dsimp only); (repeat' split) <;> first | (simp; done) | with_reducible rfl)
  | ((repeat' (with_reducible refine livePart_ite ?_ ?_)) <;> first | (simp; done) | with_reducible rfl)
  | ((repeat' split) <;> first
      | (simp; done)
      | with_reducible rfl
      | (refine livePart_foldl _ _ _ (fun a x => ?_); (repeat' split) <;> first | (simp; done) | with_reducible rfl)
      | ((try dsimp only); rw [livePart_foldl] <;> first | (intro a x; (repeat' split) <;> first | (simp; done) | with_reducible rfl) | ((repeat' split) <;> first | (simp; done) | with_reducible rfl)))

@[simp↓] theorem livePart_stnClose (s : State) (n : Nat) (c : Nat) : livePart (State.stnClose s n c) = livePart s := by
  unfold State.stnClose
  first
  | ((try dsimp only); (repeat' (first | with_reducible rfl | (with_reducible refine (livePart_foldl _ _ _ (fun _ _ => ?_)).trans ?_) | (simp; done) | split | (rw [livePart_mk, livePart_fold]))); done)
  | ((repeat' split) <;> first | (simp; done) | with_reducible rfl)
  | (refine livePart_foldl _ _ _ (fun a x => ?_); (repeat' split) <;> first | (simp; done) | with_reducible rfl)
  | ((try dsimp only); rw [livePart_foldl] <;> first | (intro a x; (repeat' split) <;> first | (simp; done) | with_reducible rfl) | ((repeat' split) <;> first | (simp; done) | with_reducible rfl))
  | ((try dsimp only); (repeat' split) <;> first | (simp; done) | with_reducible rfl)
  | ((repeat' (with_reducible refine livePart_ite ?_ ?_)) <;> first | (simp; done) | with_reducible rfl)
  | ((repeat' split) <;> first
      | (simp; done)
      | with_reducible rfl
      | (refine livePart_foldl _ _ _ (fun a x => ?_); (repeat' split) <;> first | (simp; done) | with_reducible rfl)
      | ((try dsimp only); rw [livePart_foldl] <;> first | (intro a x; (repeat' split) <;> first | (simp; done) | with_reducible rfl) | ((repeat' split) <;> first | (simp; done) | with_reducible rfl)))

@[simp↓] theorem livePart_stnOffline (s : State) (n : Nat) : livePart (State.stnOffline s n) = livePart s := by
  unfold State.stnOffline
  first
  | ((try dsimp only); (repeat' (first | with_reducible rfl | (with_reducible refine (livePart_foldl _ _ _ (fun _ _ => ?_)).trans ?_) | (simp; done) | split | (rw [livePart_mk, livePart_fold]))); done)
  | ((repeat' split) <;> first | (simp; done) | with_reducible rfl)
  | (refine livePart_foldl _ _ _ (fun a x => ?_); (repeat' split) <;> first | (simp; done) | with_reducible rfl)
  | ((try dsimp only); rw [livePart_foldl] <;> first | (intro a x; (repeat' split) <;> first | (simp; done) | with_reducible rfl) | ((repeat' split) <;> first | (simp; done) | with_reducible rfl))
  | ((try dsimp only); (repeat' split) <;> first | (simp; done) | with_reducible rfl)
  | ((repeat' (with_reducible refine livePart_ite ?_ ?_)) <;> first | (simp; done) | with_reducible rfl)
  | ((repeat' split) <;> first
      | (simp; done)
      | with_reducible rfl
      | (refine livePart_foldl _ _ _ (fun a x => ?_); (repeat' split) <;> first | (simp; done) | with_reducible rfl)
      | ((try dsimp only); rw [livePart_foldl] <;> first | (intro a x; (repeat' split) <;> first | (simp; done) | with_reducible rfl) | ((repeat' split) <;> first | (simp; done) | with_reducible rfl)))

@[simp↓] theorem livePart_stnServe (s : State) (n : Nat) : livePart (State.stnServe s n) = livePart s := by
  unfold State.stnServe
  first
  | ((try dsimp only); (repeat' (first | with_reducible rfl | (with_reducible refine (livePart_foldl _ _ _ (fun _ _ => ?_)).trans ?_) | (simp; done) | split | (rw [livePart_mk, livePart_fold]))); done)
  | ((repeat' split) <;> first | (simp; done) | with_reducible rfl)
  | (refine livePart_foldl _ _ _ (fun a x => ?_); (repeat' split) <;> first | (simp; done) | with_reducible rfl)
  | ((try dsimp only); rw [livePart_foldl] <;> first | (intro a x; (repeat' split) <;> first | (simp; done) | with_reducible rfl) | ((repeat' split) <;> first | (simp; done) | with_reducible rfl))
  | ((try dsimp only); (repeat' split) <;> first | (simp; done) | with_reducible rfl)
  | ((repeat' (with_reducible refine livePart_ite ?_ ?_)) <;> first | (simp; done) | with_reducible rfl)
  | ((repeat' split) <;> first
      | (simp; done)
      | with_reducible rfl
      | (refine livePart_foldl _ _ _ (fun a x => ?_); (repeat' split) <;> first | (simp; done) | with_reducible rfl)
      | ((try dsimp only); rw [livePart_foldl] <;> first | (intro a x; (repeat' split) <;> first | (simp; done) | with_reducible rfl) | ((repeat' split) <;> first | (simp; done) | with_reducible rfl)))

@[simp↓] theorem livePart_stnOffer (s : State) (n : Nat) : livePart (State.stnOffer s n) = livePart s := by
  unfold State.stnOffer
  first
  | ((try dsimp only); (repeat' (first | with_reducible rfl | (with_reducible refine (livePart_foldl _ _ _ (fun _ _ => ?_)).trans ?_) | (simp; done) | split | (rw [livePart_mk, livePart_fold]))); done)
  | ((repeat' split) <;> first | (simp; done) | with_reducible rfl)
  | (refine livePart_foldl _ _ _ (fun a x => ?_); (repeat' split) <;> first | (simp; done) | with_reducible rfl)
  | ((try dsimp only); rw [livePart_foldl] <;> first | (intro a x; (repeat' split) <;> first | (simp; done) | with_reducible rfl) | ((repeat' split) <;> first | (simp; done) | with_reducible rfl))
  | ((try dsimp only); (repeat' split) <;> first | (simp; done) | with_reducible rfl)
  | ((repeat' (with_reducible refine livePart_ite ?_ ?_)) <;> first | (simp; done) | with_reducible rfl)
  | ((repeat' split) <;> first
      | (simp; done)
      | with_reducible rfl
      | (refine livePart_foldl _ _ _ (fun a x => ?_); (repeat' split) <;> first | (simp; done) | with_reducible rfl)
      | ((try dsimp only); rw [livePart_foldl] <;> first | (intro a x; (repeat' split) <;> first | (simp; done) | with_reducible rfl) | ((repeat' split) <;> first | (simp; done) | with_reducible rfl)))

@[simp↓] theorem livePart_closeInputs (s : State) (t : Nat) (c : Nat) : livePart (State.closeInputs s t c) = livePart s := by
  unfold State.closeInputs
  first
  | ((try dsimp only); (repeat' (first | with_reducible rfl | (with_reducible refine (livePart_foldl _ _ _ (fun _ _ => ?_)).trans ?_) | (simp; done) | split | (rw [livePart_mk, livePart_fold]))); done)
  | ((repeat' split) <;> first | (simp; done) | with_reducible rfl)
  | (refine livePart_foldl _ _ _ (fun a x => ?_); (repeat' split) <;> first | (simp; done) | with_reducible rfl)
  | ((try dsimp only); rw [livePart_foldl] <;> first | (intro a x; (repeat' split) <;> first | (simp; done) | with_reducible rfl) | ((repeat' split) <;> first | (simp; done) | with_reducible rfl))
  | ((try dsimp only); (repeat' split) <;> first | (simp; done) | with_reducible rfl)
  | ((repeat' (with_reducible refine livePart_ite ?_ ?_)) <;> first | (simp; done) | with_reducible rfl)
  | ((repeat' split) <;> first
      | (simp; done)
      | with_reducible rfl
      | (refine livePart_foldl _ _ _ (fun a x => ?_); (repeat' split) <;> first | (simp; done) | with_reducible rfl)
      | ((try dsimp only); rw [livePart_foldl] <;> first | (intro a x; (repeat' split) <;> first | (simp; done) | with_reducible rfl) | ((repeat' split) <;> first | (simp; done) | with_reducible rfl)))

/-- The parts `prog`, `epoch`, `rst`, `time.running`, `pair.unit`. -/
def applyPart (s : State) := (s.prog, s.epoch, s.rst, s.time.running, s.pair.unit)

@[simp] theorem applyPart_fold (s : State) : (s.prog, s.epoch, s.rst, s.time.running, s.pair.unit) = applyPart s := rfl

@[simp↓] theorem applyPart_mk (epoch order ident host par lane prog model slv perc afe fed stn pts fio can net time key aud pair pwr rst drip past edge latch pending out free) : applyPart (State.mk epoch order ident host par lane prog model slv perc afe fed stn pts fio can net time key aud pair pwr rst drip past edge latch pending out free) = (prog, epoch, rst, time.running, pair.unit) := rfl

theorem applyPart_silent {s t : State} (h : Silent s t) : applyPart t = applyPart s := by rw [h.rest]; rfl

theorem applyPart_ite {c : Prop} [Decidable c] {a b s : State} (ha : applyPart a = applyPart s) (hb : applyPart b = applyPart s) :
    applyPart (if c then a else b) = applyPart s := by
  split <;> assumption

theorem applyPart_foldl {α : Type} (l : List α) (f : State → α → State) (s : State) (h : ∀ a x, applyPart (f a x) = applyPart a) :
    applyPart (l.foldl f s) = applyPart s := by
  induction l generalizing s with
  | nil => rfl
  | cons x l ih => exact (ih _).trans (h s x)

@[simp↓] theorem applyPart_emit (s : State) (m : OutMsg) : applyPart (State.emit s m) = applyPart s := by
  exact applyPart_silent (silent_emit _ _)

@[simp↓] theorem applyPart_sendMsix (s : State) (v : Nat) : applyPart (State.sendMsix s v) = applyPart s := by
  exact applyPart_silent (silent_sendMsix _ _)

@[simp↓] theorem applyPart_setQueue (s : State) (n : Nat) (q : QPair) : applyPart (State.setQueue s n q) = applyPart s := by
  unfold State.setQueue
  first
  | ((try dsimp only); (repeat' (first | with_reducible rfl | (with_reducible refine (applyPart_foldl _ _ _ (fun _ _ => ?_)).trans ?_) | (simp; done) | split | (rw [applyPart_mk, applyPart_fold]))); done)
  | ((repeat' split) <;> first | (simp; done) | with_reducible rfl)
  | (refine applyPart_foldl _ _ _ (fun a x => ?_); (repeat' split) <;> first | (simp; done) | with_reducible rfl)
  | ((try dsimp only); rw [applyPart_foldl] <;> first | (intro a x; (repeat' split) <;> first | (simp; done) | with_reducible rfl) | ((repeat' split) <;> first | (simp; done) | with_reducible rfl))
  | ((try dsimp only); (repeat' split) <;> first | (simp; done) | with_reducible rfl)
  | ((repeat' (with_reducible refine applyPart_ite ?_ ?_)) <;> first | (simp; done) | with_reducible rfl)
  | ((repeat' split) <;> first
      | (simp; done)
      | with_reducible rfl
      | (refine applyPart_foldl _ _ _ (fun a x => ?_); (repeat' split) <;> first | (simp; done) | with_reducible rfl)
      | ((try dsimp only); rw [applyPart_foldl] <;> first | (intro a x; (repeat' split) <;> first | (simp; done) | with_reducible rfl) | ((repeat' split) <;> first | (simp; done) | with_reducible rfl)))

@[simp↓] theorem applyPart_auditPush (s : State) (r : AuditRec) : applyPart (State.auditPush s r) = applyPart s := by
  exact applyPart_silent (silent_auditPush _ _)

@[simp↓] theorem applyPart_auditDev (s : State) (kind : Nat) (opcode : Nat) (status : Nat) (subject : Nat) (data : List Byte) : applyPart (State.auditDev s kind opcode status subject data) = applyPart s := by
  exact applyPart_silent (silent_auditPush _ _)

@[simp↓] theorem applyPart_postQueue (s : State) (n : Nat) (e : Entry) (data : List Byte) : applyPart (State.postQueue s n e data).1 = applyPart s := by
  exact applyPart_silent (silent_postQueue _ _ _ _)

@[simp↓] theorem applyPart_post (s : State) (dst : Src) (e : Entry) (data : List Byte) : applyPart (State.post s dst e data).1 = applyPart s := by
  exact applyPart_silent (silent_post _ _ _ _)

@[simp↓] theorem applyPart_event (s : State) (code : Nat) (status : Nat) (data : List Byte) : applyPart (State.event s code status data) = applyPart s := by
  exact applyPart_silent (silent_event _ _ _ _)

@[simp↓] theorem applyPart_condition (s : State) (status : Nat) (data : List Byte) : applyPart (State.condition s status data) = applyPart s := by
  exact applyPart_silent (silent_condition _ _ _)

@[simp↓] theorem applyPart_setPt (s : State) (p : Nat) (v : Point) : applyPart (State.setPt s p v) = applyPart s := by
  unfold State.setPt
  first
  | ((try dsimp only); (repeat' (first | with_reducible rfl | (with_reducible refine (applyPart_foldl _ _ _ (fun _ _ => ?_)).trans ?_) | (simp; done) | split | (rw [applyPart_mk, applyPart_fold]))); done)
  | ((repeat' split) <;> first | (simp; done) | with_reducible rfl)
  | (refine applyPart_foldl _ _ _ (fun a x => ?_); (repeat' split) <;> first | (simp; done) | with_reducible rfl)
  | ((try dsimp only); rw [applyPart_foldl] <;> first | (intro a x; (repeat' split) <;> first | (simp; done) | with_reducible rfl) | ((repeat' split) <;> first | (simp; done) | with_reducible rfl))
  | ((try dsimp only); (repeat' split) <;> first | (simp; done) | with_reducible rfl)
  | ((repeat' (with_reducible refine applyPart_ite ?_ ?_)) <;> first | (simp; done) | with_reducible rfl)
  | ((repeat' split) <;> first
      | (simp; done)
      | with_reducible rfl
      | (refine applyPart_foldl _ _ _ (fun a x => ?_); (repeat' split) <;> first | (simp; done) | with_reducible rfl)
      | ((try dsimp only); rw [applyPart_foldl] <;> first | (intro a x; (repeat' split) <;> first | (simp; done) | with_reducible rfl) | ((repeat' split) <;> first | (simp; done) | with_reducible rfl)))

@[simp↓] theorem applyPart_closeEdge (s : State) : applyPart (State.closeEdge s) = applyPart s := by
  unfold State.closeEdge
  first
  | ((try dsimp only); (repeat' (first | with_reducible rfl | (with_reducible refine (applyPart_foldl _ _ _ (fun _ _ => ?_)).trans ?_) | (simp; done) | split | (rw [applyPart_mk, applyPart_fold]))); done)
  | ((repeat' split) <;> first | (simp; done) | with_reducible rfl)
  | (refine applyPart_foldl _ _ _ (fun a x => ?_); (repeat' split) <;> first | (simp; done) | with_reducible rfl)
  | ((try dsimp only); rw [applyPart_foldl] <;> first | (intro a x; (repeat' split) <;> first | (simp; done) | with_reducible rfl) | ((repeat' split) <;> first | (simp; done) | with_reducible rfl))
  | ((try dsimp only); (repeat' split) <;> first | (simp; done) | with_reducible rfl)
  | ((repeat' (with_reducible refine applyPart_ite ?_ ?_)) <;> first | (simp; done) | with_reducible rfl)
  | ((repeat' split) <;> first
      | (simp; done)
      | with_reducible rfl
      | (refine applyPart_foldl _ _ _ (fun a x => ?_); (repeat' split) <;> first | (simp; done) | with_reducible rfl)
      | ((try dsimp only); rw [applyPart_foldl] <;> first | (intro a x; (repeat' split) <;> first | (simp; done) | with_reducible rfl) | ((repeat' split) <;> first | (simp; done) | with_reducible rfl)))

@[simp↓] theorem applyPart_setPort (s : State) (p : Nat) (v : PortSt1) : applyPart (State.setPort s p v) = applyPart s := by
  unfold State.setPort
  first
  | ((try dsimp only); (repeat' (first | with_reducible rfl | (with_reducible refine (applyPart_foldl _ _ _ (fun _ _ => ?_)).trans ?_) | (simp; done) | split | (rw [applyPart_mk, applyPart_fold]))); done)
  | ((repeat' split) <;> first | (simp; done) | with_reducible rfl)
  | (refine applyPart_foldl _ _ _ (fun a x => ?_); (repeat' split) <;> first | (simp; done) | with_reducible rfl)
  | ((try dsimp only); rw [applyPart_foldl] <;> first | (intro a x; (repeat' split) <;> first | (simp; done) | with_reducible rfl) | ((repeat' split) <;> first | (simp; done) | with_reducible rfl))
  | ((try dsimp only); (repeat' split) <;> first | (simp; done) | with_reducible rfl)
  | ((repeat' (with_reducible refine applyPart_ite ?_ ?_)) <;> first | (simp; done) | with_reducible rfl)
  | ((repeat' split) <;> first
      | (simp; done)
      | with_reducible rfl
      | (refine applyPart_foldl _ _ _ (fun a x => ?_); (repeat' split) <;> first | (simp; done) | with_reducible rfl)
      | ((try dsimp only); rw [applyPart_foldl] <;> first | (intro a x; (repeat' split) <;> first | (simp; done) | with_reducible rfl) | ((repeat' split) <;> first | (simp; done) | with_reducible rfl)))

@[simp↓] theorem applyPart_sendPlain (s : State) (p : Nat) (ethertype : Nat) (dst : BitVec 48) (bytes : List Byte) : applyPart (State.sendPlain s p ethertype dst bytes) = applyPart s := by
  unfold State.sendPlain
  first
  | ((try dsimp only); (repeat' (first | with_reducible rfl | (with_reducible refine (applyPart_foldl _ _ _ (fun _ _ => ?_)).trans ?_) | (simp; done) | split | (rw [applyPart_mk, applyPart_fold]))); done)
  | ((repeat' split) <;> first | (simp; done) | with_reducible rfl)
  | (refine applyPart_foldl _ _ _ (fun a x => ?_); (repeat' split) <;> first | (simp; done) | with_reducible rfl)
  | ((try dsimp only); rw [applyPart_foldl] <;> first | (intro a x; (repeat' split) <;> first | (simp; done) | with_reducible rfl) | ((repeat' split) <;> first | (simp; done) | with_reducible rfl))
  | ((try dsimp only); (repeat' split) <;> first | (simp; done) | with_reducible rfl)
  | ((repeat' (with_reducible refine applyPart_ite ?_ ?_)) <;> first | (simp; done) | with_reducible rfl)
  | ((repeat' split) <;> first
      | (simp; done)
      | with_reducible rfl
      | (refine applyPart_foldl _ _ _ (fun a x => ?_); (repeat' split) <;> first | (simp; done) | with_reducible rfl)
      | ((try dsimp only); rw [applyPart_foldl] <;> first | (intro a x; (repeat' split) <;> first | (simp; done) | with_reducible rfl) | ((repeat' split) <;> first | (simp; done) | with_reducible rfl)))

@[simp↓] theorem applyPart_sendOn (s : State) (p : Nat) (ethertype : Nat) (dst : BitVec 48) (bytes : List Byte) : applyPart (State.sendOn s p ethertype dst bytes) = applyPart s := by
  unfold State.sendOn
  first
  | ((try dsimp only); (repeat' (first | with_reducible rfl | (with_reducible refine (applyPart_foldl _ _ _ (fun _ _ => ?_)).trans ?_) | (simp; done) | split | (rw [applyPart_mk, applyPart_fold]))); done)
  | ((repeat' split) <;> first | (simp; done) | with_reducible rfl)
  | (refine applyPart_foldl _ _ _ (fun a x => ?_); (repeat' split) <;> first | (simp; done) | with_reducible rfl)
  | ((try dsimp only); rw [applyPart_foldl] <;> first | (intro a x; (repeat' split) <;> first | (simp; done) | with_reducible rfl) | ((repeat' split) <;> first | (simp; done) | with_reducible rfl))
  | ((try dsimp only); (repeat' split) <;> first | (simp; done) | with_reducible rfl)
  | ((repeat' (with_reducible refine applyPart_ite ?_ ?_)) <;> first | (simp; done) | with_reducible rfl)
  | ((repeat' split) <;> first
      | (simp; done)
      | with_reducible rfl
      | (refine applyPart_foldl _ _ _ (fun a x => ?_); (repeat' split) <;> first | (simp; done) | with_reducible rfl)
      | ((try dsimp only); rw [applyPart_foldl] <;> first | (intro a x; (repeat' split) <;> first | (simp; done) | with_reducible rfl) | ((repeat' split) <;> first | (simp; done) | with_reducible rfl)))

@[simp↓] theorem applyPart_setFio (s : State) (c : Nat) (v : FioCh) : applyPart (State.setFio s c v) = applyPart s := by
  unfold State.setFio
  first
  | ((try dsimp only); (repeat' (first | with_reducible rfl | (with_reducible refine (applyPart_foldl _ _ _ (fun _ _ => ?_)).trans ?_) | (simp; done) | split | (rw [applyPart_mk, applyPart_fold]))); done)
  | ((repeat' split) <;> first | (simp; done) | with_reducible rfl)
  | (refine applyPart_foldl _ _ _ (fun a x => ?_); (repeat' split) <;> first | (simp; done) | with_reducible rfl)
  | ((try dsimp only); rw [applyPart_foldl] <;> first | (intro a x; (repeat' split) <;> first | (simp; done) | with_reducible rfl) | ((repeat' split) <;> first | (simp; done) | with_reducible rfl))
  | ((try dsimp only); (repeat' split) <;> first | (simp; done) | with_reducible rfl)
  | ((repeat' (with_reducible refine applyPart_ite ?_ ?_)) <;> first | (simp; done) | with_reducible rfl)
  | ((repeat' split) <;> first
      | (simp; done)
      | with_reducible rfl
      | (refine applyPart_foldl _ _ _ (fun a x => ?_); (repeat' split) <;> first | (simp; done) | with_reducible rfl)
      | ((try dsimp only); rw [applyPart_foldl] <;> first | (intro a x; (repeat' split) <;> first | (simp; done) | with_reducible rfl) | ((repeat' split) <;> first | (simp; done) | with_reducible rfl)))

@[simp↓] theorem applyPart_setAout (s : State) (a : Nat) (v : AoutCh) : applyPart (State.setAout s a v) = applyPart s := by
  unfold State.setAout
  first
  | ((try dsimp only); (repeat' (first | with_reducible rfl | (with_reducible refine (applyPart_foldl _ _ _ (fun _ _ => ?_)).trans ?_) | (simp; done) | split | (rw [applyPart_mk, applyPart_fold]))); done)
  | ((repeat' split) <;> first | (simp; done) | with_reducible rfl)
  | (refine applyPart_foldl _ _ _ (fun a x => ?_); (repeat' split) <;> first | (simp; done) | with_reducible rfl)
  | ((try dsimp only); rw [applyPart_foldl] <;> first | (intro a x; (repeat' split) <;> first | (simp; done) | with_reducible rfl) | ((repeat' split) <;> first | (simp; done) | with_reducible rfl))
  | ((try dsimp only); (repeat' split) <;> first | (simp; done) | with_reducible rfl)
  | ((repeat' (with_reducible refine applyPart_ite ?_ ?_)) <;> first | (simp; done) | with_reducible rfl)
  | ((repeat' split) <;> first
      | (simp; done)
      | with_reducible rfl
      | (refine applyPart_foldl _ _ _ (fun a x => ?_); (repeat' split) <;> first | (simp; done) | with_reducible rfl)
      | ((try dsimp only); rw [applyPart_foldl] <;> first | (intro a x; (repeat' split) <;> first | (simp; done) | with_reducible rfl) | ((repeat' split) <;> first | (simp; done) | with_reducible rfl)))

@[simp↓] theorem applyPart_driveCh (s : State) (c : Nat) : applyPart (State.driveCh s c) = applyPart s := by
  unfold State.driveCh
  first
  | ((try dsimp only); (repeat' (first | with_reducible rfl | (with_reducible refine (applyPart_foldl _ _ _ (fun _ _ => ?_)).trans ?_) | (simp; done) | split | (rw [applyPart_mk, applyPart_fold]))); done)
  | ((repeat' split) <;> first | (simp; done) | with_reducible rfl)
  | (refine applyPart_foldl _ _ _ (fun a x => ?_); (repeat' split) <;> first | (simp; done) | with_reducible rfl)
  | ((try dsimp only); rw [applyPart_foldl] <;> first | (intro a x; (repeat' split) <;> first | (simp; done) | with_reducible rfl) | ((repeat' split) <;> first | (simp; done) | with_reducible rfl))
  | ((try dsimp only); (repeat' split) <;> first | (simp; done) | with_reducible rfl)
  | ((repeat' (with_reducible refine applyPart_ite ?_ ?_)) <;> first | (simp; done) | with_reducible rfl)
  | ((repeat' split) <;> first
      | (simp; done)
      | with_reducible rfl
      | (refine applyPart_foldl _ _ _ (fun a x => ?_); (repeat' split) <;> first | (simp; done) | with_reducible rfl)
      | ((try dsimp only); rw [applyPart_foldl] <;> first | (intro a x; (repeat' split) <;> first | (simp; done) | with_reducible rfl) | ((repeat' split) <;> first | (simp; done) | with_reducible rfl)))

@[simp↓] theorem applyPart_driveAout (s : State) (a : Nat) : applyPart (State.driveAout s a) = applyPart s := by
  unfold State.driveAout
  first
  | ((try dsimp only); (repeat' (first | with_reducible rfl | (with_reducible refine (applyPart_foldl _ _ _ (fun _ _ => ?_)).trans ?_) | (simp; done) | split | (rw [applyPart_mk, applyPart_fold]))); done)
  | ((repeat' split) <;> first | (simp; done) | with_reducible rfl)
  | (refine applyPart_foldl _ _ _ (fun a x => ?_); (repeat' split) <;> first | (simp; done) | with_reducible rfl)
  | ((try dsimp only); rw [applyPart_foldl] <;> first | (intro a x; (repeat' split) <;> first | (simp; done) | with_reducible rfl) | ((repeat' split) <;> first | (simp; done) | with_reducible rfl))
  | ((try dsimp only); (repeat' split) <;> first | (simp; done) | with_reducible rfl)
  | ((repeat' (with_reducible refine applyPart_ite ?_ ?_)) <;> first | (simp; done) | with_reducible rfl)
  | ((repeat' split) <;> first
      | (simp; done)
      | with_reducible rfl
      | (refine applyPart_foldl _ _ _ (fun a x => ?_); (repeat' split) <;> first | (simp; done) | with_reducible rfl)
      | ((try dsimp only); rw [applyPart_foldl] <;> first | (intro a x; (repeat' split) <;> first | (simp; done) | with_reducible rfl) | ((repeat' split) <;> first | (simp; done) | with_reducible rfl)))

@[simp↓] theorem applyPart_applyCh (s : State) (c : Nat) (v : F32) (a : Nat) : applyPart (State.applyCh s c v a) = applyPart s := by
  unfold State.applyCh
  first
  | ((try dsimp only); (repeat' (first | with_reducible rfl | (with_reducible refine (applyPart_foldl _ _ _ (fun _ _ => ?_)).trans ?_) | (simp; done) | split | (rw [applyPart_mk, applyPart_fold]))); done)
  | ((repeat' split) <;> first | (simp; done) | with_reducible rfl)
  | (refine applyPart_foldl _ _ _ (fun a x => ?_); (repeat' split) <;> first | (simp; done) | with_reducible rfl)
  | ((try dsimp only); rw [applyPart_foldl] <;> first | (intro a x; (repeat' split) <;> first | (simp; done) | with_reducible rfl) | ((repeat' split) <;> first | (simp; done) | with_reducible rfl))
  | ((try dsimp only); (repeat' split) <;> first | (simp; done) | with_reducible rfl)
  | ((repeat' (with_reducible refine applyPart_ite ?_ ?_)) <;> first | (simp; done) | with_reducible rfl)
  | ((repeat' split) <;> first
      | (simp; done)
      | with_reducible rfl
      | (refine applyPart_foldl _ _ _ (fun a x => ?_); (repeat' split) <;> first | (simp; done) | with_reducible rfl)
      | ((try dsimp only); rw [applyPart_foldl] <;> first | (intro a x; (repeat' split) <;> first | (simp; done) | with_reducible rfl) | ((repeat' split) <;> first | (simp; done) | with_reducible rfl)))

@[simp↓] theorem applyPart_applyAout (s : State) (k : Nat) (v : F32) (a : Nat) : applyPart (State.applyAout s k v a) = applyPart s := by
  unfold State.applyAout
  first
  | ((try dsimp only); (repeat' (first | with_reducible rfl | (with_reducible refine (applyPart_foldl _ _ _ (fun _ _ => ?_)).trans ?_) | (simp; done) | split | (rw [applyPart_mk, applyPart_fold]))); done)
  | ((repeat' split) <;> first | (simp; done) | with_reducible rfl)
  | (refine applyPart_foldl _ _ _ (fun a x => ?_); (repeat' split) <;> first | (simp; done) | with_reducible rfl)
  | ((try dsimp only); rw [applyPart_foldl] <;> first | (intro a x; (repeat' split) <;> first | (simp; done) | with_reducible rfl) | ((repeat' split) <;> first | (simp; done) | with_reducible rfl))
  | ((try dsimp only); (repeat' split) <;> first | (simp; done) | with_reducible rfl)
  | ((repeat' (with_reducible refine applyPart_ite ?_ ?_)) <;> first | (simp; done) | with_reducible rfl)
  | ((repeat' split) <;> first
      | (simp; done)
      | with_reducible rfl
      | (refine applyPart_foldl _ _ _ (fun a x => ?_); (repeat' split) <;> first | (simp; done) | with_reducible rfl)
      | ((try dsimp only); rw [applyPart_foldl] <;> first | (intro a x; (repeat' split) <;> first | (simp; done) | with_reducible rfl) | ((repeat' split) <;> first | (simp; done) | with_reducible rfl)))

@[simp↓] theorem applyPart_applyLocal (s : State) (p : Nat) (v : F32) (a : Nat) : applyPart (State.applyLocal s p v a) = applyPart s := by
  unfold State.applyLocal
  first
  | ((try dsimp only); (repeat' (first | with_reducible rfl | (with_reducible refine (applyPart_foldl _ _ _ (fun _ _ => ?_)).trans ?_) | (simp; done) | split | (rw [applyPart_mk, applyPart_fold]))); done)
  | ((repeat' split) <;> first | (simp; done) | with_reducible rfl)
  | (refine applyPart_foldl _ _ _ (fun a x => ?_); (repeat' split) <;> first | (simp; done) | with_reducible rfl)
  | ((try dsimp only); rw [applyPart_foldl] <;> first | (intro a x; (repeat' split) <;> first | (simp; done) | with_reducible rfl) | ((repeat' split) <;> first | (simp; done) | with_reducible rfl))
  | ((try dsimp only); (repeat' split) <;> first | (simp; done) | with_reducible rfl)
  | ((repeat' (with_reducible refine applyPart_ite ?_ ?_)) <;> first | (simp; done) | with_reducible rfl)
  | ((repeat' split) <;> first
      | (simp; done)
      | with_reducible rfl
      | (refine applyPart_foldl _ _ _ (fun a x => ?_); (repeat' split) <;> first | (simp; done) | with_reducible rfl)
      | ((try dsimp only); rw [applyPart_foldl] <;> first | (intro a x; (repeat' split) <;> first | (simp; done) | with_reducible rfl) | ((repeat' split) <;> first | (simp; done) | with_reducible rfl)))

@[simp↓] theorem applyPart_setCanBuf (s : State) (c : Nat) (b : Nat) (v : CanBuf) : applyPart (State.setCanBuf s c b v) = applyPart s := by
  unfold State.setCanBuf
  first
  | ((try dsimp only); (repeat' (first | with_reducible rfl | (with_reducible refine (applyPart_foldl _ _ _ (fun _ _ => ?_)).trans ?_) | (simp; done) | split | (rw [applyPart_mk, applyPart_fold]))); done)
  | ((repeat' split) <;> first | (simp; done) | with_reducible rfl)
  | (refine applyPart_foldl _ _ _ (fun a x => ?_); (repeat' split) <;> first | (simp; done) | with_reducible rfl)
  | ((try dsimp only); rw [applyPart_foldl] <;> first | (intro a x; (repeat' split) <;> first | (simp; done) | with_reducible rfl) | ((repeat' split) <;> first | (simp; done) | with_reducible rfl))
  | ((try dsimp only); (repeat' split) <;> first | (simp; done) | with_reducible rfl)
  | ((repeat' (with_reducible refine applyPart_ite ?_ ?_)) <;> first | (simp; done) | with_reducible rfl)
  | ((repeat' split) <;> first
      | (simp; done)
      | with_reducible rfl
      | (refine applyPart_foldl _ _ _ (fun a x => ?_); (repeat' split) <;> first | (simp; done) | with_reducible rfl)
      | ((try dsimp only); rw [applyPart_foldl] <;> first | (intro a x; (repeat' split) <;> first | (simp; done) | with_reducible rfl) | ((repeat' split) <;> first | (simp; done) | with_reducible rfl)))

@[simp↓] theorem applyPart_setCanPt (s : State) (p : Nat) (v : CanPt) : applyPart (State.setCanPt s p v) = applyPart s := by
  unfold State.setCanPt
  first
  | ((try dsimp only); (repeat' (first | with_reducible rfl | (with_reducible refine (applyPart_foldl _ _ _ (fun _ _ => ?_)).trans ?_) | (simp; done) | split | (rw [applyPart_mk, applyPart_fold]))); done)
  | ((repeat' split) <;> first | (simp; done) | with_reducible rfl)
  | (refine applyPart_foldl _ _ _ (fun a x => ?_); (repeat' split) <;> first | (simp; done) | with_reducible rfl)
  | ((try dsimp only); rw [applyPart_foldl] <;> first | (intro a x; (repeat' split) <;> first | (simp; done) | with_reducible rfl) | ((repeat' split) <;> first | (simp; done) | with_reducible rfl))
  | ((try dsimp only); (repeat' split) <;> first | (simp; done) | with_reducible rfl)
  | ((repeat' (with_reducible refine applyPart_ite ?_ ?_)) <;> first | (simp; done) | with_reducible rfl)
  | ((repeat' split) <;> first
      | (simp; done)
      | with_reducible rfl
      | (refine applyPart_foldl _ _ _ (fun a x => ?_); (repeat' split) <;> first | (simp; done) | with_reducible rfl)
      | ((try dsimp only); rw [applyPart_foldl] <;> first | (intro a x; (repeat' split) <;> first | (simp; done) | with_reducible rfl) | ((repeat' split) <;> first | (simp; done) | with_reducible rfl)))

@[simp↓] theorem applyPart_canDiag (s : State) (p : Nat) (d : Nat) (on : Bool) : applyPart (State.canDiag s p d on) = applyPart s := by
  unfold State.canDiag
  first
  | ((try dsimp only); (repeat' (first | with_reducible rfl | (with_reducible refine (applyPart_foldl _ _ _ (fun _ _ => ?_)).trans ?_) | (simp; done) | split | (rw [applyPart_mk, applyPart_fold]))); done)
  | ((repeat' split) <;> first | (simp; done) | with_reducible rfl)
  | (refine applyPart_foldl _ _ _ (fun a x => ?_); (repeat' split) <;> first | (simp; done) | with_reducible rfl)
  | ((try dsimp only); rw [applyPart_foldl] <;> first | (intro a x; (repeat' split) <;> first | (simp; done) | with_reducible rfl) | ((repeat' split) <;> first | (simp; done) | with_reducible rfl))
  | ((try dsimp only); (repeat' split) <;> first | (simp; done) | with_reducible rfl)
  | ((repeat' (with_reducible refine applyPart_ite ?_ ?_)) <;> first | (simp; done) | with_reducible rfl)
  | ((repeat' split) <;> first
      | (simp; done)
      | with_reducible rfl
      | (refine applyPart_foldl _ _ _ (fun a x => ?_); (repeat' split) <;> first | (simp; done) | with_reducible rfl)
      | ((try dsimp only); rw [applyPart_foldl] <;> first | (intro a x; (repeat' split) <;> first | (simp; done) | with_reducible rfl) | ((repeat' split) <;> first | (simp; done) | with_reducible rfl)))

@[simp↓] theorem applyPart_queueBuf (s : State) (c : Nat) (b : Nat) : applyPart (State.queueBuf s c b) = applyPart s := by
  unfold State.queueBuf
  first
  | ((try dsimp only); (repeat' (first | with_reducible rfl | (with_reducible refine (applyPart_foldl _ _ _ (fun _ _ => ?_)).trans ?_) | (simp; done) | split | (rw [applyPart_mk, applyPart_fold]))); done)
  | ((repeat' split) <;> first | (simp; done) | with_reducible rfl)
  | (refine applyPart_foldl _ _ _ (fun a x => ?_); (repeat' split) <;> first | (simp; done) | with_reducible rfl)
  | ((try dsimp only); rw [applyPart_foldl] <;> first | (intro a x; (repeat' split) <;> first | (simp; done) | with_reducible rfl) | ((repeat' split) <;> first | (simp; done) | with_reducible rfl))
  | ((try dsimp only); (repeat' split) <;> first | (simp; done) | with_reducible rfl)
  | ((repeat' (with_reducible refine applyPart_ite ?_ ?_)) <;> first | (simp; done) | with_reducible rfl)
  | ((repeat' split) <;> first
      | (simp; done)
      | with_reducible rfl
      | (refine applyPart_foldl _ _ _ (fun a x => ?_); (repeat' split) <;> first | (simp; done) | with_reducible rfl)
      | ((try dsimp only); rw [applyPart_foldl] <;> first | (intro a x; (repeat' split) <;> first | (simp; done) | with_reducible rfl) | ((repeat' split) <;> first | (simp; done) | with_reducible rfl)))

@[simp↓] theorem applyPart_canPtStatus (s : State) (c : Nat) (b : Nat) (p : Nat) (rx : Bool) : applyPart (State.canPtStatus s c b p rx) = applyPart s := by
  unfold State.canPtStatus
  first
  | ((try dsimp only); (repeat' (first | with_reducible rfl | (with_reducible refine (applyPart_foldl _ _ _ (fun _ _ => ?_)).trans ?_) | (simp; done) | split | (rw [applyPart_mk, applyPart_fold]))); done)
  | ((repeat' split) <;> first | (simp; done) | with_reducible rfl)
  | (refine applyPart_foldl _ _ _ (fun a x => ?_); (repeat' split) <;> first | (simp; done) | with_reducible rfl)
  | ((try dsimp only); rw [applyPart_foldl] <;> first | (intro a x; (repeat' split) <;> first | (simp; done) | with_reducible rfl) | ((repeat' split) <;> first | (simp; done) | with_reducible rfl))
  | ((try dsimp only); (repeat' split) <;> first | (simp; done) | with_reducible rfl)
  | ((repeat' (with_reducible refine applyPart_ite ?_ ?_)) <;> first | (simp; done) | with_reducible rfl)
  | ((repeat' split) <;> first
      | (simp; done)
      | with_reducible rfl
      | (refine applyPart_foldl _ _ _ (fun a x => ?_); (repeat' split) <;> first | (simp; done) | with_reducible rfl)
      | ((try dsimp only); rw [applyPart_foldl] <;> first | (intro a x; (repeat' split) <;> first | (simp; done) | with_reducible rfl) | ((repeat' split) <;> first | (simp; done) | with_reducible rfl)))

@[simp↓] theorem applyPart_applyCan (s : State) (p : Nat) (v : F32) (a : Nat) : applyPart (State.applyCan s p v a) = applyPart s := by
  unfold State.applyCan
  first
  | ((try dsimp only); (repeat' (first | with_reducible rfl | (with_reducible refine (applyPart_foldl _ _ _ (fun _ _ => ?_)).trans ?_) | (simp; done) | split | (rw [applyPart_mk, applyPart_fold]))); done)
  | ((repeat' split) <;> first | (simp; done) | with_reducible rfl)
  | (refine applyPart_foldl _ _ _ (fun a x => ?_); (repeat' split) <;> first | (simp; done) | with_reducible rfl)
  | ((try dsimp only); rw [applyPart_foldl] <;> first | (intro a x; (repeat' split) <;> first | (simp; done) | with_reducible rfl) | ((repeat' split) <;> first | (simp; done) | with_reducible rfl))
  | ((try dsimp only); (repeat' split) <;> first | (simp; done) | with_reducible rfl)
  | ((repeat' (with_reducible refine applyPart_ite ?_ ?_)) <;> first | (simp; done) | with_reducible rfl)
  | ((repeat' split) <;> first
      | (simp; done)
      | with_reducible rfl
      | (refine applyPart_foldl _ _ _ (fun a x => ?_); (repeat' split) <;> first | (simp; done) | with_reducible rfl)
      | ((try dsimp only); rw [applyPart_foldl] <;> first | (intro a x; (repeat' split) <;> first | (simp; done) | with_reducible rfl) | ((repeat' split) <;> first | (simp; done) | with_reducible rfl)))

@[simp↓] theorem applyPart_applyPoint (s : State) (p : Nat) (v : F32) (a : Nat) : applyPart (State.applyPoint s p v a) = applyPart s := by
  unfold State.applyPoint
  first
  | ((try dsimp only); (repeat' (first | with_reducible rfl | (with_reducible refine (applyPart_foldl _ _ _ (fun _ _ => ?_)).trans ?_) | (simp; done) | split | (rw [applyPart_mk, applyPart_fold]))); done)
  | ((repeat' split) <;> first | (simp; done) | with_reducible rfl)
  | (refine applyPart_foldl _ _ _ (fun a x => ?_); (repeat' split) <;> first | (simp; done) | with_reducible rfl)
  | ((try dsimp only); rw [applyPart_foldl] <;> first | (intro a x; (repeat' split) <;> first | (simp; done) | with_reducible rfl) | ((repeat' split) <;> first | (simp; done) | with_reducible rfl))
  | ((try dsimp only); (repeat' split) <;> first | (simp; done) | with_reducible rfl)
  | ((repeat' (with_reducible refine applyPart_ite ?_ ?_)) <;> first | (simp; done) | with_reducible rfl)
  | ((repeat' split) <;> first
      | (simp; done)
      | with_reducible rfl
      | (refine applyPart_foldl _ _ _ (fun a x => ?_); (repeat' split) <;> first | (simp; done) | with_reducible rfl)
      | ((try dsimp only); rw [applyPart_foldl] <;> first | (intro a x; (repeat' split) <;> first | (simp; done) | with_reducible rfl) | ((repeat' split) <;> first | (simp; done) | with_reducible rfl)))

@[simp↓] theorem applyPart_setStn (s : State) (n : Nat) (v : Stn) : applyPart (State.setStn s n v) = applyPart s := by
  unfold State.setStn
  first
  | ((try dsimp only); (repeat' (first | with_reducible rfl | (with_reducible refine (applyPart_foldl _ _ _ (fun _ _ => ?_)).trans ?_) | (simp; done) | split | (rw [applyPart_mk, applyPart_fold]))); done)
  | ((repeat' split) <;> first | (simp; done) | with_reducible rfl)
  | (refine applyPart_foldl _ _ _ (fun a x => ?_); (repeat' split) <;> first | (simp; done) | with_reducible rfl)
  | ((try dsimp only); rw [applyPart_foldl] <;> first | (intro a x; (repeat' split) <;> first | (simp; done) | with_reducible rfl) | ((repeat' split) <;> first | (simp; done) | with_reducible rfl))
  | ((try dsimp only); (repeat' split) <;> first | (simp; done) | with_reducible rfl)
  | ((repeat' (with_reducible refine applyPart_ite ?_ ?_)) <;> first | (simp; done) | with_reducible rfl)
  | ((repeat' split) <;> first
      | (simp; done)
      | with_reducible rfl
      | (refine applyPart_foldl _ _ _ (fun a x => ?_); (repeat' split) <;> first | (simp; done) | with_reducible rfl)
      | ((try dsimp only); rw [applyPart_foldl] <;> first | (intro a x; (repeat' split) <;> first | (simp; done) | with_reducible rfl) | ((repeat' split) <;> first | (simp; done) | with_reducible rfl)))

@[simp↓] theorem applyPart_sendSeg (s : State) (n : Nat) (ftype : Nat) (epoch : Nat) (seg : Nat) (segs : Nat) (first : Nat) (count : Nat) (key : List Byte) (payload : List Byte) : applyPart (State.sendSeg s n ftype epoch seg segs first count key payload) = applyPart s := by
  unfold State.sendSeg
  first
  | ((try dsimp only); (repeat' (first | with_reducible rfl | (with_reducible refine (applyPart_foldl _ _ _ (fun _ _ => ?_)).trans ?_) | (simp; done) | split | (rw [applyPart_mk, applyPart_fold]))); done)
  | ((repeat' split) <;> first | (simp; done) | with_reducible rfl)
  | (refine applyPart_foldl _ _ _ (fun a x => ?_); (repeat' split) <;> first | (simp; done) | with_reducible rfl)
  | ((try dsimp only); rw [applyPart_foldl] <;> first | (intro a x; (repeat' split) <;> first | (simp; done) | with_reducible rfl) | ((repeat' split) <;> first | (simp; done) | with_reducible rfl))
  | ((try dsimp only); (repeat' split) <;> first | (simp; done) | with_reducible rfl)
  | ((repeat' (with_reducible refine applyPart_ite ?_ ?_)) <;> first | (simp; done) | with_reducible rfl)
  | ((repeat' split) <;> first
      | (simp; done)
      | with_reducible rfl
      | (refine applyPart_foldl _ _ _ (fun a x => ?_); (repeat' split) <;> first | (simp; done) | with_reducible rfl)
      | ((try dsimp only); rw [applyPart_foldl] <;> first | (intro a x; (repeat' split) <;> first | (simp; done) | with_reducible rfl) | ((repeat' split) <;> first | (simp; done) | with_reducible rfl)))

@[simp↓] theorem applyPart_sendStn (s : State) (n : Nat) (ftype : Nat) (epoch : Nat) (key : List Byte) (segs : List (Nat × Nat × List Byte)) : applyPart (State.sendStn s n ftype epoch key segs) = applyPart s := by
  unfold State.sendStn
  dsimp only
  rw [applyPart_setStn]
  generalize segs.length = m
  generalize hx : (s, 0) = x
  have hs : s = x.1 := by rw [← hx]
  rw [hs]
  clear hx hs
  induction segs generalizing x with
  | nil => rfl
  | cons y l ih => exact (ih _).trans (applyPart_sendSeg _ _ _ _ _ _ _ _ _ _)

@[simp↓] theorem applyPart_sendOutputs (s : State) (n : Nat) (a : Nat) (vals : List (Nat × F32)) : applyPart (State.sendOutputs s n a vals) = applyPart s := by
  unfold State.sendOutputs
  first
  | ((try dsimp only); (repeat' (first | with_reducible rfl | (with_reducible refine (applyPart_foldl _ _ _ (fun _ _ => ?_)).trans ?_) | (simp; done) | split | (rw [applyPart_mk, applyPart_fold]))); done)
  | ((repeat' split) <;> first | (simp; done) | with_reducible rfl)
  | (refine applyPart_foldl _ _ _ (fun a x => ?_); (repeat' split) <;> first | (simp; done) | with_reducible rfl)
  | ((try dsimp only); rw [applyPart_foldl] <;> first | (intro a x; (repeat' split) <;> first | (simp; done) | with_reducible rfl) | ((repeat' split) <;> first | (simp; done) | with_reducible rfl))
  | ((try dsimp only); (repeat' split) <;> first | (simp; done) | with_reducible rfl)
  | ((repeat' (with_reducible refine applyPart_ite ?_ ?_)) <;> first | (simp; done) | with_reducible rfl)
  | ((repeat' split) <;> first
      | (simp; done)
      | with_reducible rfl
      | (refine applyPart_foldl _ _ _ (fun a x => ?_); (repeat' split) <;> first | (simp; done) | with_reducible rfl)
      | ((try dsimp only); rw [applyPart_foldl] <;> first | (intro a x; (repeat' split) <;> first | (simp; done) | with_reducible rfl) | ((repeat' split) <;> first | (simp; done) | with_reducible rfl)))

@[simp↓] theorem applyPart_stnOutput (s : State) (n : Nat) (a : Nat) : applyPart (State.stnOutput s n a) = applyPart s := by
  unfold State.stnOutput
  first
  | ((try dsimp only); (repeat' (first | with_reducible rfl | (with_reducible refine (applyPart_foldl _ _ _ (fun _ _ => ?_)).trans ?_) | (simp; done) | split | (rw [applyPart_mk, applyPart_fold]))); done)
  | ((repeat' split) <;> first | (simp; done) | with_reducible rfl)
  | (refine applyPart_foldl _ _ _ (fun a x => ?_); (repeat' split) <;> first | (simp; done) | with_reducible rfl)
  | ((try dsimp only); rw [applyPart_foldl] <;> first | (intro a x; (repeat' split) <;> first | (simp; done) | with_reducible rfl) | ((repeat' split) <;> first | (simp; done) | with_reducible rfl))
  | ((try dsimp only); (repeat' split) <;> first | (simp; done) | with_reducible rfl)
  | ((repeat' (with_reducible refine applyPart_ite ?_ ?_)) <;> first | (simp; done) | with_reducible rfl)
  | ((repeat' split) <;> first
      | (simp; done)
      | with_reducible rfl
      | (refine applyPart_foldl _ _ _ (fun a x => ?_); (repeat' split) <;> first | (simp; done) | with_reducible rfl)
      | ((try dsimp only); rw [applyPart_foldl] <;> first | (intro a x; (repeat' split) <;> first | (simp; done) | with_reducible rfl) | ((repeat' split) <;> first | (simp; done) | with_reducible rfl)))

@[simp↓] theorem applyPart_stnExtra (s : State) (t : Nat) (a : Nat) : applyPart (State.stnExtra s t a) = applyPart s := by
  unfold State.stnExtra
  first
  | ((try dsimp only); (repeat' (first | with_reducible rfl | (with_reducible refine (applyPart_foldl _ _ _ (fun _ _ => ?_)).trans ?_) | (simp; done) | split | (rw [applyPart_mk, applyPart_fold]))); done)
  | ((repeat' split) <;> first | (simp; done) | with_reducible rfl)
  | (refine applyPart_foldl _ _ _ (fun a x => ?_); (repeat' split) <;> first | (simp; done) | with_reducible rfl)
  | ((try dsimp only); rw [applyPart_foldl] <;> first | (intro a x; (repeat' split) <;> first | (simp; done) | with_reducible rfl) | ((repeat' split) <;> first | (simp; done) | with_reducible rfl))
  | ((try dsimp only); (repeat' split) <;> first | (simp; done) | with_reducible rfl)
  | ((repeat' (with_reducible refine applyPart_ite ?_ ?_)) <;> first | (simp; done) | with_reducible rfl)
  | ((repeat' split) <;> first
      | (simp; done)
      | with_reducible rfl
      | (refine applyPart_foldl _ _ _ (fun a x => ?_); (repeat' split) <;> first | (simp; done) | with_reducible rfl)
      | ((try dsimp only); rw [applyPart_foldl] <;> first | (intro a x; (repeat' split) <;> first | (simp; done) | with_reducible rfl) | ((repeat' split) <;> first | (simp; done) | with_reducible rfl)))

@[simp↓] theorem applyPart_marginSeen (s : State) (cls : Nat) (m : F32) : applyPart (State.marginSeen s cls m) = applyPart s := by
  unfold State.marginSeen
  first
  | ((try dsimp only); (repeat' (first | with_reducible rfl | (with_reducible refine (applyPart_foldl _ _ _ (fun _ _ => ?_)).trans ?_) | (simp; done) | split | (rw [applyPart_mk, applyPart_fold]))); done)
  | ((repeat' split) <;> first | (simp; done) | with_reducible rfl)
  | (refine applyPart_foldl _ _ _ (fun a x => ?_); (repeat' split) <;> first | (simp; done) | with_reducible rfl)
  | ((try dsimp only); rw [applyPart_foldl] <;> first | (intro a x; (repeat' split) <;> first | (simp; done) | with_reducible rfl) | ((repeat' split) <;> first | (simp; done) | with_reducible rfl))
  | ((try dsimp only); (repeat' split) <;> first | (simp; done) | with_reducible rfl)
  | ((repeat' (with_reducible refine applyPart_ite ?_ ?_)) <;> first | (simp; done) | with_reducible rfl)
  | ((repeat' split) <;> first
      | (simp; done)
      | with_reducible rfl
      | (refine applyPart_foldl _ _ _ (fun a x => ?_); (repeat' split) <;> first | (simp; done) | with_reducible rfl)
      | ((try dsimp only); rw [applyPart_foldl] <;> first | (intro a x; (repeat' split) <;> first | (simp; done) | with_reducible rfl) | ((repeat' split) <;> first | (simp; done) | with_reducible rfl)))

@[simp↓] theorem applyPart_alarmRaise (s : State) (task : Nat) (c : Nat) (key : U64) (prio : Nat) (v : F32) : applyPart (State.alarmRaise s task c key prio v) = applyPart s := by
  unfold State.alarmRaise
  first
  | ((try dsimp only); (repeat' (first | with_reducible rfl | (with_reducible refine (applyPart_foldl _ _ _ (fun _ _ => ?_)).trans ?_) | (simp; done) | split | (rw [applyPart_mk, applyPart_fold]))); done)
  | ((repeat' split) <;> first | (simp; done) | with_reducible rfl)
  | (refine applyPart_foldl _ _ _ (fun a x => ?_); (repeat' split) <;> first | (simp; done) | with_reducible rfl)
  | ((try dsimp only); rw [applyPart_foldl] <;> first | (intro a x; (repeat' split) <;> first | (simp; done) | with_reducible rfl) | ((repeat' split) <;> first | (simp; done) | with_reducible rfl))
  | ((try dsimp only); (repeat' split) <;> first | (simp; done) | with_reducible rfl)
  | ((repeat' (with_reducible refine applyPart_ite ?_ ?_)) <;> first | (simp; done) | with_reducible rfl)
  | ((repeat' split) <;> first
      | (simp; done)
      | with_reducible rfl
      | (refine applyPart_foldl _ _ _ (fun a x => ?_); (repeat' split) <;> first | (simp; done) | with_reducible rfl)
      | ((try dsimp only); rw [applyPart_foldl] <;> first | (intro a x; (repeat' split) <;> first | (simp; done) | with_reducible rfl) | ((repeat' split) <;> first | (simp; done) | with_reducible rfl)))

@[simp↓] theorem applyPart_alarmClear (s : State) (c : Nat) (key : U64) : applyPart (State.alarmClear s c key) = applyPart s := by
  unfold State.alarmClear
  first
  | ((try dsimp only); (repeat' (first | with_reducible rfl | (with_reducible refine (applyPart_foldl _ _ _ (fun _ _ => ?_)).trans ?_) | (simp; done) | split | (rw [applyPart_mk, applyPart_fold]))); done)
  | ((repeat' split) <;> first | (simp; done) | with_reducible rfl)
  | (refine applyPart_foldl _ _ _ (fun a x => ?_); (repeat' split) <;> first | (simp; done) | with_reducible rfl)
  | ((try dsimp only); rw [applyPart_foldl] <;> first | (intro a x; (repeat' split) <;> first | (simp; done) | with_reducible rfl) | ((repeat' split) <;> first | (simp; done) | with_reducible rfl))
  | ((try dsimp only); (repeat' split) <;> first | (simp; done) | with_reducible rfl)
  | ((repeat' (with_reducible refine applyPart_ite ?_ ?_)) <;> first | (simp; done) | with_reducible rfl)
  | ((repeat' split) <;> first
      | (simp; done)
      | with_reducible rfl
      | (refine applyPart_foldl _ _ _ (fun a x => ?_); (repeat' split) <;> first | (simp; done) | with_reducible rfl)
      | ((try dsimp only); rw [applyPart_foldl] <;> first | (intro a x; (repeat' split) <;> first | (simp; done) | with_reducible rfl) | ((repeat' split) <;> first | (simp; done) | with_reducible rfl)))

/-- The parts `prog.bankA`, `prog.bankB`, `prog.activeB`, `prog.hasActive`, `prog.staged`, `prog.op`, `prog.openNote`, `prog.floor`, `prog.modeDue`, `prog.startDue`, `prog.startMode`, `prog.run.mode`, `prog.run.data`, `prog.run.rt`, `prog.run.faultCause`, `prog.run.faultTask`, `prog.run.faultCycle`, `prog.run.faultEpoch`, `prog.run.holdFrom`, `prog.run.holdMax`, `epoch`, `rst`, `time.running`, `pair.unit`. -/
def progPart (s : State) := (s.prog.bankA, s.prog.bankB, s.prog.activeB, s.prog.hasActive, s.prog.staged, s.prog.op, s.prog.openNote, s.prog.floor, s.prog.modeDue, s.prog.startDue, s.prog.startMode, s.prog.run.mode, s.prog.run.data, s.prog.run.rt, s.prog.run.faultCause, s.prog.run.faultTask, s.prog.run.faultCycle, s.prog.run.faultEpoch, s.prog.run.holdFrom, s.prog.run.holdMax, s.epoch, s.rst, s.time.running, s.pair.unit)

@[simp] theorem progPart_fold (s : State) : (s.prog.bankA, s.prog.bankB, s.prog.activeB, s.prog.hasActive, s.prog.staged, s.prog.op, s.prog.openNote, s.prog.floor, s.prog.modeDue, s.prog.startDue, s.prog.startMode, s.prog.run.mode, s.prog.run.data, s.prog.run.rt, s.prog.run.faultCause, s.prog.run.faultTask, s.prog.run.faultCycle, s.prog.run.faultEpoch, s.prog.run.holdFrom, s.prog.run.holdMax, s.epoch, s.rst, s.time.running, s.pair.unit) = progPart s := rfl

@[simp↓] theorem progPart_mk (epoch order ident host par lane prog model slv perc afe fed stn pts fio can net time key aud pair pwr rst drip past edge latch pending out free) : progPart (State.mk epoch order ident host par lane prog model slv perc afe fed stn pts fio can net time key aud pair pwr rst drip past edge latch pending out free) = (prog.bankA, prog.bankB, prog.activeB, prog.hasActive, prog.staged, prog.op, prog.openNote, prog.floor, prog.modeDue, prog.startDue, prog.startMode, prog.run.mode, prog.run.data, prog.run.rt, prog.run.faultCause, prog.run.faultTask, prog.run.faultCycle, prog.run.faultEpoch, prog.run.holdFrom, prog.run.holdMax, epoch, rst, time.running, pair.unit) := rfl

theorem progPart_silent {s t : State} (h : Silent s t) : progPart t = progPart s := by rw [h.rest]; rfl

theorem progPart_ite {c : Prop} [Decidable c] {a b s : State} (ha : progPart a = progPart s) (hb : progPart b = progPart s) :
    progPart (if c then a else b) = progPart s := by
  split <;> assumption

theorem progPart_foldl {α : Type} (l : List α) (f : State → α → State) (s : State) (h : ∀ a x, progPart (f a x) = progPart a) :
    progPart (l.foldl f s) = progPart s := by
  induction l generalizing s with
  | nil => rfl
  | cons x l ih => exact (ih _).trans (h s x)

@[simp↓] theorem progPart_emit (s : State) (m : OutMsg) : progPart (State.emit s m) = progPart s := by
  exact progPart_silent (silent_emit _ _)

@[simp↓] theorem progPart_sendMsix (s : State) (v : Nat) : progPart (State.sendMsix s v) = progPart s := by
  exact progPart_silent (silent_sendMsix _ _)

@[simp↓] theorem progPart_setQueue (s : State) (n : Nat) (q : QPair) : progPart (State.setQueue s n q) = progPart s := by
  unfold State.setQueue
  first
  | ((try dsimp only); (repeat' (first | with_reducible rfl | (with_reducible refine (progPart_foldl _ _ _ (fun _ _ => ?_)).trans ?_) | (simp; done) | split | (rw [progPart_mk, progPart_fold]))); done)
  | ((repeat' split) <;> first | (simp; done) | with_reducible rfl)
  | (refine progPart_foldl _ _ _ (fun a x => ?_); (repeat' split) <;> first | (simp; done) | with_reducible rfl)
  | ((try dsimp only); rw [progPart_foldl] <;> first | (intro a x; (repeat' split) <;> first | (simp; done) | with_reducible rfl) | ((repeat' split) <;> first | (simp; done) | with_reducible rfl))
  | ((try dsimp only); (repeat' split) <;> first | (simp; done) | with_reducible rfl)
  | ((repeat' (with_reducible refine progPart_ite ?_ ?_)) <;> first | (simp; done) | with_reducible rfl)
  | ((repeat' split) <;> first
      | (simp; done)
      | with_reducible rfl
      | (refine progPart_foldl _ _ _ (fun a x => ?_); (repeat' split) <;> first | (simp; done) | with_reducible rfl)
      | ((try dsimp only); rw [progPart_foldl] <;> first | (intro a x; (repeat' split) <;> first | (simp; done) | with_reducible rfl) | ((repeat' split) <;> first | (simp; done) | with_reducible rfl)))

@[simp↓] theorem progPart_auditPush (s : State) (r : AuditRec) : progPart (State.auditPush s r) = progPart s := by
  exact progPart_silent (silent_auditPush _ _)

@[simp↓] theorem progPart_auditDev (s : State) (kind : Nat) (opcode : Nat) (status : Nat) (subject : Nat) (data : List Byte) : progPart (State.auditDev s kind opcode status subject data) = progPart s := by
  exact progPart_silent (silent_auditPush _ _)

@[simp↓] theorem progPart_auditApplied (s : State) (subject : Nat) : progPart (State.auditApplied s subject) = progPart s := by
  unfold State.auditApplied
  first
  | ((try dsimp only); (repeat' (first | with_reducible rfl | (with_reducible refine (progPart_foldl _ _ _ (fun _ _ => ?_)).trans ?_) | (simp; done) | split | (rw [progPart_mk, progPart_fold]))); done)
  | ((repeat' split) <;> first | (simp; done) | with_reducible rfl)
  | (refine progPart_foldl _ _ _ (fun a x => ?_); (repeat' split) <;> first | (simp; done) | with_reducible rfl)
  | ((try dsimp only); rw [progPart_foldl] <;> first | (intro a x; (repeat' split) <;> first | (simp; done) | with_reducible rfl) | ((repeat' split) <;> first | (simp; done) | with_reducible rfl))
  | ((try dsimp only); (repeat' split) <;> first | (simp; done) | with_reducible rfl)
  | ((repeat' (with_reducible refine progPart_ite ?_ ?_)) <;> first | (simp; done) | with_reducible rfl)
  | ((repeat' split) <;> first
      | (simp; done)
      | with_reducible rfl
      | (refine progPart_foldl _ _ _ (fun a x => ?_); (repeat' split) <;> first | (simp; done) | with_reducible rfl)
      | ((try dsimp only); rw [progPart_foldl] <;> first | (intro a x; (repeat' split) <;> first | (simp; done) | with_reducible rfl) | ((repeat' split) <;> first | (simp; done) | with_reducible rfl)))

@[simp↓] theorem progPart_postQueue (s : State) (n : Nat) (e : Entry) (data : List Byte) : progPart (State.postQueue s n e data).1 = progPart s := by
  exact progPart_silent (silent_postQueue _ _ _ _)

@[simp↓] theorem progPart_post (s : State) (dst : Src) (e : Entry) (data : List Byte) : progPart (State.post s dst e data).1 = progPart s := by
  exact progPart_silent (silent_post _ _ _ _)

@[simp↓] theorem progPart_event (s : State) (code : Nat) (status : Nat) (data : List Byte) : progPart (State.event s code status data) = progPart s := by
  exact progPart_silent (silent_event _ _ _ _)

@[simp↓] theorem progPart_condition (s : State) (status : Nat) (data : List Byte) : progPart (State.condition s status data) = progPart s := by
  exact progPart_silent (silent_condition _ _ _)

@[simp↓] theorem progPart_freeHandle (s : State) (i : Nat) : progPart (State.freeHandle s i) = progPart s := by
  unfold State.freeHandle
  first
  | ((try dsimp only); (repeat' (first | with_reducible rfl | (with_reducible refine (progPart_foldl _ _ _ (fun _ _ => ?_)).trans ?_) | (simp; done) | split | (rw [progPart_mk, progPart_fold]))); done)
  | ((repeat' split) <;> first | (simp; done) | with_reducible rfl)
  | (refine progPart_foldl _ _ _ (fun a x => ?_); (repeat' split) <;> first | (simp; done) | with_reducible rfl)
  | ((try dsimp only); rw [progPart_foldl] <;> first | (intro a x; (repeat' split) <;> first | (simp; done) | with_reducible rfl) | ((repeat' split) <;> first | (simp; done) | with_reducible rfl))
  | ((try dsimp only); (repeat' split) <;> first | (simp; done) | with_reducible rfl)
  | ((repeat' (with_reducible refine progPart_ite ?_ ?_)) <;> first | (simp; done) | with_reducible rfl)
  | ((repeat' split) <;> first
      | (simp; done)
      | with_reducible rfl
      | (refine progPart_foldl _ _ _ (fun a x => ?_); (repeat' split) <;> first | (simp; done) | with_reducible rfl)
      | ((try dsimp only); rw [progPart_foldl] <;> first | (intro a x; (repeat' split) <;> first | (simp; done) | with_reducible rfl) | ((repeat' split) <;> first | (simp; done) | with_reducible rfl)))

@[simp↓] theorem progPart_complete (s : State) (h : U32) (status : Nat) (detail : Nat) (data : List Byte) : progPart (State.complete s h status detail data) = progPart s := by
  unfold State.complete
  first
  | ((try dsimp only); (repeat' (first | with_reducible rfl | (with_reducible refine (progPart_foldl _ _ _ (fun _ _ => ?_)).trans ?_) | (simp; done) | split | (rw [progPart_mk, progPart_fold]))); done)
  | ((repeat' split) <;> first | (simp; done) | with_reducible rfl)
  | (refine progPart_foldl _ _ _ (fun a x => ?_); (repeat' split) <;> first | (simp; done) | with_reducible rfl)
  | ((try dsimp only); rw [progPart_foldl] <;> first | (intro a x; (repeat' split) <;> first | (simp; done) | with_reducible rfl) | ((repeat' split) <;> first | (simp; done) | with_reducible rfl))
  | ((try dsimp only); (repeat' split) <;> first | (simp; done) | with_reducible rfl)
  | ((repeat' (with_reducible refine progPart_ite ?_ ?_)) <;> first | (simp; done) | with_reducible rfl)
  | ((repeat' split) <;> first
      | (simp; done)
      | with_reducible rfl
      | (refine progPart_foldl _ _ _ (fun a x => ?_); (repeat' split) <;> first | (simp; done) | with_reducible rfl)
      | ((try dsimp only); rw [progPart_foldl] <;> first | (intro a x; (repeat' split) <;> first | (simp; done) | with_reducible rfl) | ((repeat' split) <;> first | (simp; done) | with_reducible rfl)))

@[simp↓] theorem progPart_setPt (s : State) (p : Nat) (v : Point) : progPart (State.setPt s p v) = progPart s := by
  unfold State.setPt
  first
  | ((try dsimp only); (repeat' (first | with_reducible rfl | (with_reducible refine (progPart_foldl _ _ _ (fun _ _ => ?_)).trans ?_) | (simp; done) | split | (rw [progPart_mk, progPart_fold]))); done)
  | ((repeat' split) <;> first | (simp; done) | with_reducible rfl)
  | (refine progPart_foldl _ _ _ (fun a x => ?_); (repeat' split) <;> first | (simp; done) | with_reducible rfl)
  | ((try dsimp only); rw [progPart_foldl] <;> first | (intro a x; (repeat' split) <;> first | (simp; done) | with_reducible rfl) | ((repeat' split) <;> first | (simp; done) | with_reducible rfl))
  | ((try dsimp only); (repeat' split) <;> first | (simp; done) | with_reducible rfl)
  | ((repeat' (with_reducible refine progPart_ite ?_ ?_)) <;> first | (simp; done) | with_reducible rfl)
  | ((repeat' split) <;> first
      | (simp; done)
      | with_reducible rfl
      | (refine progPart_foldl _ _ _ (fun a x => ?_); (repeat' split) <;> first | (simp; done) | with_reducible rfl)
      | ((try dsimp only); rw [progPart_foldl] <;> first | (intro a x; (repeat' split) <;> first | (simp; done) | with_reducible rfl) | ((repeat' split) <;> first | (simp; done) | with_reducible rfl)))

@[simp↓] theorem progPart_closeEdge (s : State) : progPart (State.closeEdge s) = progPart s := by
  unfold State.closeEdge
  first
  | ((try dsimp only); (repeat' (first | with_reducible rfl | (with_reducible refine (progPart_foldl _ _ _ (fun _ _ => ?_)).trans ?_) | (simp; done) | split | (rw [progPart_mk, progPart_fold]))); done)
  | ((repeat' split) <;> first | (simp; done) | with_reducible rfl)
  | (refine progPart_foldl _ _ _ (fun a x => ?_); (repeat' split) <;> first | (simp; done) | with_reducible rfl)
  | ((try dsimp only); rw [progPart_foldl] <;> first | (intro a x; (repeat' split) <;> first | (simp; done) | with_reducible rfl) | ((repeat' split) <;> first | (simp; done) | with_reducible rfl))
  | ((try dsimp only); (repeat' split) <;> first | (simp; done) | with_reducible rfl)
  | ((repeat' (with_reducible refine progPart_ite ?_ ?_)) <;> first | (simp; done) | with_reducible rfl)
  | ((repeat' split) <;> first
      | (simp; done)
      | with_reducible rfl
      | (refine progPart_foldl _ _ _ (fun a x => ?_); (repeat' split) <;> first | (simp; done) | with_reducible rfl)
      | ((try dsimp only); rw [progPart_foldl] <;> first | (intro a x; (repeat' split) <;> first | (simp; done) | with_reducible rfl) | ((repeat' split) <;> first | (simp; done) | with_reducible rfl)))

@[simp↓] theorem progPart_setPort (s : State) (p : Nat) (v : PortSt1) : progPart (State.setPort s p v) = progPart s := by
  unfold State.setPort
  first
  | ((try dsimp only); (repeat' (first | with_reducible rfl | (with_reducible refine (progPart_foldl _ _ _ (fun _ _ => ?_)).trans ?_) | (simp; done) | split | (rw [progPart_mk, progPart_fold]))); done)
  | ((repeat' split) <;> first | (simp; done) | with_reducible rfl)
  | (refine progPart_foldl _ _ _ (fun a x => ?_); (repeat' split) <;> first | (simp; done) | with_reducible rfl)
  | ((try dsimp only); rw [progPart_foldl] <;> first | (intro a x; (repeat' split) <;> first | (simp; done) | with_reducible rfl) | ((repeat' split) <;> first | (simp; done) | with_reducible rfl))
  | ((try dsimp only); (repeat' split) <;> first | (simp; done) | with_reducible rfl)
  | ((repeat' (with_reducible refine progPart_ite ?_ ?_)) <;> first | (simp; done) | with_reducible rfl)
  | ((repeat' split) <;> first
      | (simp; done)
      | with_reducible rfl
      | (refine progPart_foldl _ _ _ (fun a x => ?_); (repeat' split) <;> first | (simp; done) | with_reducible rfl)
      | ((try dsimp only); rw [progPart_foldl] <;> first | (intro a x; (repeat' split) <;> first | (simp; done) | with_reducible rfl) | ((repeat' split) <;> first | (simp; done) | with_reducible rfl)))

@[simp↓] theorem progPart_sendPlain (s : State) (p : Nat) (ethertype : Nat) (dst : BitVec 48) (bytes : List Byte) : progPart (State.sendPlain s p ethertype dst bytes) = progPart s := by
  unfold State.sendPlain
  first
  | ((try dsimp only); (repeat' (first | with_reducible rfl | (with_reducible refine (progPart_foldl _ _ _ (fun _ _ => ?_)).trans ?_) | (simp; done) | split | (rw [progPart_mk, progPart_fold]))); done)
  | ((repeat' split) <;> first | (simp; done) | with_reducible rfl)
  | (refine progPart_foldl _ _ _ (fun a x => ?_); (repeat' split) <;> first | (simp; done) | with_reducible rfl)
  | ((try dsimp only); rw [progPart_foldl] <;> first | (intro a x; (repeat' split) <;> first | (simp; done) | with_reducible rfl) | ((repeat' split) <;> first | (simp; done) | with_reducible rfl))
  | ((try dsimp only); (repeat' split) <;> first | (simp; done) | with_reducible rfl)
  | ((repeat' (with_reducible refine progPart_ite ?_ ?_)) <;> first | (simp; done) | with_reducible rfl)
  | ((repeat' split) <;> first
      | (simp; done)
      | with_reducible rfl
      | (refine progPart_foldl _ _ _ (fun a x => ?_); (repeat' split) <;> first | (simp; done) | with_reducible rfl)
      | ((try dsimp only); rw [progPart_foldl] <;> first | (intro a x; (repeat' split) <;> first | (simp; done) | with_reducible rfl) | ((repeat' split) <;> first | (simp; done) | with_reducible rfl)))

@[simp↓] theorem progPart_sendOn (s : State) (p : Nat) (ethertype : Nat) (dst : BitVec 48) (bytes : List Byte) : progPart (State.sendOn s p ethertype dst bytes) = progPart s := by
  unfold State.sendOn
  first
  | ((try dsimp only); (repeat' (first | with_reducible rfl | (with_reducible refine (progPart_foldl _ _ _ (fun _ _ => ?_)).trans ?_) | (simp; done) | split | (rw [progPart_mk, progPart_fold]))); done)
  | ((repeat' split) <;> first | (simp; done) | with_reducible rfl)
  | (refine progPart_foldl _ _ _ (fun a x => ?_); (repeat' split) <;> first | (simp; done) | with_reducible rfl)
  | ((try dsimp only); rw [progPart_foldl] <;> first | (intro a x; (repeat' split) <;> first | (simp; done) | with_reducible rfl) | ((repeat' split) <;> first | (simp; done) | with_reducible rfl))
  | ((try dsimp only); (repeat' split) <;> first | (simp; done) | with_reducible rfl)
  | ((repeat' (with_reducible refine progPart_ite ?_ ?_)) <;> first | (simp; done) | with_reducible rfl)
  | ((repeat' split) <;> first
      | (simp; done)
      | with_reducible rfl
      | (refine progPart_foldl _ _ _ (fun a x => ?_); (repeat' split) <;> first | (simp; done) | with_reducible rfl)
      | ((try dsimp only); rw [progPart_foldl] <;> first | (intro a x; (repeat' split) <;> first | (simp; done) | with_reducible rfl) | ((repeat' split) <;> first | (simp; done) | with_reducible rfl)))

@[simp↓] theorem progPart_setFio (s : State) (c : Nat) (v : FioCh) : progPart (State.setFio s c v) = progPart s := by
  unfold State.setFio
  first
  | ((try dsimp only); (repeat' (first | with_reducible rfl | (with_reducible refine (progPart_foldl _ _ _ (fun _ _ => ?_)).trans ?_) | (simp; done) | split | (rw [progPart_mk, progPart_fold]))); done)
  | ((repeat' split) <;> first | (simp; done) | with_reducible rfl)
  | (refine progPart_foldl _ _ _ (fun a x => ?_); (repeat' split) <;> first | (simp; done) | with_reducible rfl)
  | ((try dsimp only); rw [progPart_foldl] <;> first | (intro a x; (repeat' split) <;> first | (simp; done) | with_reducible rfl) | ((repeat' split) <;> first | (simp; done) | with_reducible rfl))
  | ((try dsimp only); (repeat' split) <;> first | (simp; done) | with_reducible rfl)
  | ((repeat' (with_reducible refine progPart_ite ?_ ?_)) <;> first | (simp; done) | with_reducible rfl)
  | ((repeat' split) <;> first
      | (simp; done)
      | with_reducible rfl
      | (refine progPart_foldl _ _ _ (fun a x => ?_); (repeat' split) <;> first | (simp; done) | with_reducible rfl)
      | ((try dsimp only); rw [progPart_foldl] <;> first | (intro a x; (repeat' split) <;> first | (simp; done) | with_reducible rfl) | ((repeat' split) <;> first | (simp; done) | with_reducible rfl)))

@[simp↓] theorem progPart_setAout (s : State) (a : Nat) (v : AoutCh) : progPart (State.setAout s a v) = progPart s := by
  unfold State.setAout
  first
  | ((try dsimp only); (repeat' (first | with_reducible rfl | (with_reducible refine (progPart_foldl _ _ _ (fun _ _ => ?_)).trans ?_) | (simp; done) | split | (rw [progPart_mk, progPart_fold]))); done)
  | ((repeat' split) <;> first | (simp; done) | with_reducible rfl)
  | (refine progPart_foldl _ _ _ (fun a x => ?_); (repeat' split) <;> first | (simp; done) | with_reducible rfl)
  | ((try dsimp only); rw [progPart_foldl] <;> first | (intro a x; (repeat' split) <;> first | (simp; done) | with_reducible rfl) | ((repeat' split) <;> first | (simp; done) | with_reducible rfl))
  | ((try dsimp only); (repeat' split) <;> first | (simp; done) | with_reducible rfl)
  | ((repeat' (with_reducible refine progPart_ite ?_ ?_)) <;> first | (simp; done) | with_reducible rfl)
  | ((repeat' split) <;> first
      | (simp; done)
      | with_reducible rfl
      | (refine progPart_foldl _ _ _ (fun a x => ?_); (repeat' split) <;> first | (simp; done) | with_reducible rfl)
      | ((try dsimp only); rw [progPart_foldl] <;> first | (intro a x; (repeat' split) <;> first | (simp; done) | with_reducible rfl) | ((repeat' split) <;> first | (simp; done) | with_reducible rfl)))

@[simp↓] theorem progPart_driveCh (s : State) (c : Nat) : progPart (State.driveCh s c) = progPart s := by
  unfold State.driveCh
  first
  | ((try dsimp only); (repeat' (first | with_reducible rfl | (with_reducible refine (progPart_foldl _ _ _ (fun _ _ => ?_)).trans ?_) | (simp; done) | split | (rw [progPart_mk, progPart_fold]))); done)
  | ((repeat' split) <;> first | (simp; done) | with_reducible rfl)
  | (refine progPart_foldl _ _ _ (fun a x => ?_); (repeat' split) <;> first | (simp; done) | with_reducible rfl)
  | ((try dsimp only); rw [progPart_foldl] <;> first | (intro a x; (repeat' split) <;> first | (simp; done) | with_reducible rfl) | ((repeat' split) <;> first | (simp; done) | with_reducible rfl))
  | ((try dsimp only); (repeat' split) <;> first | (simp; done) | with_reducible rfl)
  | ((repeat' (with_reducible refine progPart_ite ?_ ?_)) <;> first | (simp; done) | with_reducible rfl)
  | ((repeat' split) <;> first
      | (simp; done)
      | with_reducible rfl
      | (refine progPart_foldl _ _ _ (fun a x => ?_); (repeat' split) <;> first | (simp; done) | with_reducible rfl)
      | ((try dsimp only); rw [progPart_foldl] <;> first | (intro a x; (repeat' split) <;> first | (simp; done) | with_reducible rfl) | ((repeat' split) <;> first | (simp; done) | with_reducible rfl)))

@[simp↓] theorem progPart_driveAout (s : State) (a : Nat) : progPart (State.driveAout s a) = progPart s := by
  unfold State.driveAout
  first
  | ((try dsimp only); (repeat' (first | with_reducible rfl | (with_reducible refine (progPart_foldl _ _ _ (fun _ _ => ?_)).trans ?_) | (simp; done) | split | (rw [progPart_mk, progPart_fold]))); done)
  | ((repeat' split) <;> first | (simp; done) | with_reducible rfl)
  | (refine progPart_foldl _ _ _ (fun a x => ?_); (repeat' split) <;> first | (simp; done) | with_reducible rfl)
  | ((try dsimp only); rw [progPart_foldl] <;> first | (intro a x; (repeat' split) <;> first | (simp; done) | with_reducible rfl) | ((repeat' split) <;> first | (simp; done) | with_reducible rfl))
  | ((try dsimp only); (repeat' split) <;> first | (simp; done) | with_reducible rfl)
  | ((repeat' (with_reducible refine progPart_ite ?_ ?_)) <;> first | (simp; done) | with_reducible rfl)
  | ((repeat' split) <;> first
      | (simp; done)
      | with_reducible rfl
      | (refine progPart_foldl _ _ _ (fun a x => ?_); (repeat' split) <;> first | (simp; done) | with_reducible rfl)
      | ((try dsimp only); rw [progPart_foldl] <;> first | (intro a x; (repeat' split) <;> first | (simp; done) | with_reducible rfl) | ((repeat' split) <;> first | (simp; done) | with_reducible rfl)))

@[simp↓] theorem progPart_applyCh (s : State) (c : Nat) (v : F32) (a : Nat) : progPart (State.applyCh s c v a) = progPart s := by
  unfold State.applyCh
  first
  | ((try dsimp only); (repeat' (first | with_reducible rfl | (with_reducible refine (progPart_foldl _ _ _ (fun _ _ => ?_)).trans ?_) | (simp; done) | split | (rw [progPart_mk, progPart_fold]))); done)
  | ((repeat' split) <;> first | (simp; done) | with_reducible rfl)
  | (refine progPart_foldl _ _ _ (fun a x => ?_); (repeat' split) <;> first | (simp; done) | with_reducible rfl)
  | ((try dsimp only); rw [progPart_foldl] <;> first | (intro a x; (repeat' split) <;> first | (simp; done) | with_reducible rfl) | ((repeat' split) <;> first | (simp; done) | with_reducible rfl))
  | ((try dsimp only); (repeat' split) <;> first | (simp; done) | with_reducible rfl)
  | ((repeat' (with_reducible refine progPart_ite ?_ ?_)) <;> first | (simp; done) | with_reducible rfl)
  | ((repeat' split) <;> first
      | (simp; done)
      | with_reducible rfl
      | (refine progPart_foldl _ _ _ (fun a x => ?_); (repeat' split) <;> first | (simp; done) | with_reducible rfl)
      | ((try dsimp only); rw [progPart_foldl] <;> first | (intro a x; (repeat' split) <;> first | (simp; done) | with_reducible rfl) | ((repeat' split) <;> first | (simp; done) | with_reducible rfl)))

@[simp↓] theorem progPart_applyAout (s : State) (k : Nat) (v : F32) (a : Nat) : progPart (State.applyAout s k v a) = progPart s := by
  unfold State.applyAout
  first
  | ((try dsimp only); (repeat' (first | with_reducible rfl | (with_reducible refine (progPart_foldl _ _ _ (fun _ _ => ?_)).trans ?_) | (simp; done) | split | (rw [progPart_mk, progPart_fold]))); done)
  | ((repeat' split) <;> first | (simp; done) | with_reducible rfl)
  | (refine progPart_foldl _ _ _ (fun a x => ?_); (repeat' split) <;> first | (simp; done) | with_reducible rfl)
  | ((try dsimp only); rw [progPart_foldl] <;> first | (intro a x; (repeat' split) <;> first | (simp; done) | with_reducible rfl) | ((repeat' split) <;> first | (simp; done) | with_reducible rfl))
  | ((try dsimp only); (repeat' split) <;> first | (simp; done) | with_reducible rfl)
  | ((repeat' (with_reducible refine progPart_ite ?_ ?_)) <;> first | (simp; done) | with_reducible rfl)
  | ((repeat' split) <;> first
      | (simp; done)
      | with_reducible rfl
      | (refine progPart_foldl _ _ _ (fun a x => ?_); (repeat' split) <;> first | (simp; done) | with_reducible rfl)
      | ((try dsimp only); rw [progPart_foldl] <;> first | (intro a x; (repeat' split) <;> first | (simp; done) | with_reducible rfl) | ((repeat' split) <;> first | (simp; done) | with_reducible rfl)))

@[simp↓] theorem progPart_applyLocal (s : State) (p : Nat) (v : F32) (a : Nat) : progPart (State.applyLocal s p v a) = progPart s := by
  unfold State.applyLocal
  first
  | ((try dsimp only); (repeat' (first | with_reducible rfl | (with_reducible refine (progPart_foldl _ _ _ (fun _ _ => ?_)).trans ?_) | (simp; done) | split | (rw [progPart_mk, progPart_fold]))); done)
  | ((repeat' split) <;> first | (simp; done) | with_reducible rfl)
  | (refine progPart_foldl _ _ _ (fun a x => ?_); (repeat' split) <;> first | (simp; done) | with_reducible rfl)
  | ((try dsimp only); rw [progPart_foldl] <;> first | (intro a x; (repeat' split) <;> first | (simp; done) | with_reducible rfl) | ((repeat' split) <;> first | (simp; done) | with_reducible rfl))
  | ((try dsimp only); (repeat' split) <;> first | (simp; done) | with_reducible rfl)
  | ((repeat' (with_reducible refine progPart_ite ?_ ?_)) <;> first | (simp; done) | with_reducible rfl)
  | ((repeat' split) <;> first
      | (simp; done)
      | with_reducible rfl
      | (refine progPart_foldl _ _ _ (fun a x => ?_); (repeat' split) <;> first | (simp; done) | with_reducible rfl)
      | ((try dsimp only); rw [progPart_foldl] <;> first | (intro a x; (repeat' split) <;> first | (simp; done) | with_reducible rfl) | ((repeat' split) <;> first | (simp; done) | with_reducible rfl)))

@[simp↓] theorem progPart_setCanBuf (s : State) (c : Nat) (b : Nat) (v : CanBuf) : progPart (State.setCanBuf s c b v) = progPart s := by
  unfold State.setCanBuf
  first
  | ((try dsimp only); (repeat' (first | with_reducible rfl | (with_reducible refine (progPart_foldl _ _ _ (fun _ _ => ?_)).trans ?_) | (simp; done) | split | (rw [progPart_mk, progPart_fold]))); done)
  | ((repeat' split) <;> first | (simp; done) | with_reducible rfl)
  | (refine progPart_foldl _ _ _ (fun a x => ?_); (repeat' split) <;> first | (simp; done) | with_reducible rfl)
  | ((try dsimp only); rw [progPart_foldl] <;> first | (intro a x; (repeat' split) <;> first | (simp; done) | with_reducible rfl) | ((repeat' split) <;> first | (simp; done) | with_reducible rfl))
  | ((try dsimp only); (repeat' split) <;> first | (simp; done) | with_reducible rfl)
  | ((repeat' (with_reducible refine progPart_ite ?_ ?_)) <;> first | (simp; done) | with_reducible rfl)
  | ((repeat' split) <;> first
      | (simp; done)
      | with_reducible rfl
      | (refine progPart_foldl _ _ _ (fun a x => ?_); (repeat' split) <;> first | (simp; done) | with_reducible rfl)
      | ((try dsimp only); rw [progPart_foldl] <;> first | (intro a x; (repeat' split) <;> first | (simp; done) | with_reducible rfl) | ((repeat' split) <;> first | (simp; done) | with_reducible rfl)))

@[simp↓] theorem progPart_setCanPt (s : State) (p : Nat) (v : CanPt) : progPart (State.setCanPt s p v) = progPart s := by
  unfold State.setCanPt
  first
  | ((try dsimp only); (repeat' (first | with_reducible rfl | (with_reducible refine (progPart_foldl _ _ _ (fun _ _ => ?_)).trans ?_) | (simp; done) | split | (rw [progPart_mk, progPart_fold]))); done)
  | ((repeat' split) <;> first | (simp; done) | with_reducible rfl)
  | (refine progPart_foldl _ _ _ (fun a x => ?_); (repeat' split) <;> first | (simp; done) | with_reducible rfl)
  | ((try dsimp only); rw [progPart_foldl] <;> first | (intro a x; (repeat' split) <;> first | (simp; done) | with_reducible rfl) | ((repeat' split) <;> first | (simp; done) | with_reducible rfl))
  | ((try dsimp only); (repeat' split) <;> first | (simp; done) | with_reducible rfl)
  | ((repeat' (with_reducible refine progPart_ite ?_ ?_)) <;> first | (simp; done) | with_reducible rfl)
  | ((repeat' split) <;> first
      | (simp; done)
      | with_reducible rfl
      | (refine progPart_foldl _ _ _ (fun a x => ?_); (repeat' split) <;> first | (simp; done) | with_reducible rfl)
      | ((try dsimp only); rw [progPart_foldl] <;> first | (intro a x; (repeat' split) <;> first | (simp; done) | with_reducible rfl) | ((repeat' split) <;> first | (simp; done) | with_reducible rfl)))

@[simp↓] theorem progPart_canDiag (s : State) (p : Nat) (d : Nat) (on : Bool) : progPart (State.canDiag s p d on) = progPart s := by
  unfold State.canDiag
  first
  | ((try dsimp only); (repeat' (first | with_reducible rfl | (with_reducible refine (progPart_foldl _ _ _ (fun _ _ => ?_)).trans ?_) | (simp; done) | split | (rw [progPart_mk, progPart_fold]))); done)
  | ((repeat' split) <;> first | (simp; done) | with_reducible rfl)
  | (refine progPart_foldl _ _ _ (fun a x => ?_); (repeat' split) <;> first | (simp; done) | with_reducible rfl)
  | ((try dsimp only); rw [progPart_foldl] <;> first | (intro a x; (repeat' split) <;> first | (simp; done) | with_reducible rfl) | ((repeat' split) <;> first | (simp; done) | with_reducible rfl))
  | ((try dsimp only); (repeat' split) <;> first | (simp; done) | with_reducible rfl)
  | ((repeat' (with_reducible refine progPart_ite ?_ ?_)) <;> first | (simp; done) | with_reducible rfl)
  | ((repeat' split) <;> first
      | (simp; done)
      | with_reducible rfl
      | (refine progPart_foldl _ _ _ (fun a x => ?_); (repeat' split) <;> first | (simp; done) | with_reducible rfl)
      | ((try dsimp only); rw [progPart_foldl] <;> first | (intro a x; (repeat' split) <;> first | (simp; done) | with_reducible rfl) | ((repeat' split) <;> first | (simp; done) | with_reducible rfl)))

@[simp↓] theorem progPart_queueBuf (s : State) (c : Nat) (b : Nat) : progPart (State.queueBuf s c b) = progPart s := by
  unfold State.queueBuf
  first
  | ((try dsimp only); (repeat' (first | with_reducible rfl | (with_reducible refine (progPart_foldl _ _ _ (fun _ _ => ?_)).trans ?_) | (simp; done) | split | (rw [progPart_mk, progPart_fold]))); done)
  | ((repeat' split) <;> first | (simp; done) | with_reducible rfl)
  | (refine progPart_foldl _ _ _ (fun a x => ?_); (repeat' split) <;> first | (simp; done) | with_reducible rfl)
  | ((try dsimp only); rw [progPart_foldl] <;> first | (intro a x; (repeat' split) <;> first | (simp; done) | with_reducible rfl) | ((repeat' split) <;> first | (simp; done) | with_reducible rfl))
  | ((try dsimp only); (repeat' split) <;> first | (simp; done) | with_reducible rfl)
  | ((repeat' (with_reducible refine progPart_ite ?_ ?_)) <;> first | (simp; done) | with_reducible rfl)
  | ((repeat' split) <;> first
      | (simp; done)
      | with_reducible rfl
      | (refine progPart_foldl _ _ _ (fun a x => ?_); (repeat' split) <;> first | (simp; done) | with_reducible rfl)
      | ((try dsimp only); rw [progPart_foldl] <;> first | (intro a x; (repeat' split) <;> first | (simp; done) | with_reducible rfl) | ((repeat' split) <;> first | (simp; done) | with_reducible rfl)))

@[simp↓] theorem progPart_canPtStatus (s : State) (c : Nat) (b : Nat) (p : Nat) (rx : Bool) : progPart (State.canPtStatus s c b p rx) = progPart s := by
  unfold State.canPtStatus
  first
  | ((try dsimp only); (repeat' (first | with_reducible rfl | (with_reducible refine (progPart_foldl _ _ _ (fun _ _ => ?_)).trans ?_) | (simp; done) | split | (rw [progPart_mk, progPart_fold]))); done)
  | ((repeat' split) <;> first | (simp; done) | with_reducible rfl)
  | (refine progPart_foldl _ _ _ (fun a x => ?_); (repeat' split) <;> first | (simp; done) | with_reducible rfl)
  | ((try dsimp only); rw [progPart_foldl] <;> first | (intro a x; (repeat' split) <;> first | (simp; done) | with_reducible rfl) | ((repeat' split) <;> first | (simp; done) | with_reducible rfl))
  | ((try dsimp only); (repeat' split) <;> first | (simp; done) | with_reducible rfl)
  | ((repeat' (with_reducible refine progPart_ite ?_ ?_)) <;> first | (simp; done) | with_reducible rfl)
  | ((repeat' split) <;> first
      | (simp; done)
      | with_reducible rfl
      | (refine progPart_foldl _ _ _ (fun a x => ?_); (repeat' split) <;> first | (simp; done) | with_reducible rfl)
      | ((try dsimp only); rw [progPart_foldl] <;> first | (intro a x; (repeat' split) <;> first | (simp; done) | with_reducible rfl) | ((repeat' split) <;> first | (simp; done) | with_reducible rfl)))

@[simp↓] theorem progPart_applyCan (s : State) (p : Nat) (v : F32) (a : Nat) : progPart (State.applyCan s p v a) = progPart s := by
  unfold State.applyCan
  first
  | ((try dsimp only); (repeat' (first | with_reducible rfl | (with_reducible refine (progPart_foldl _ _ _ (fun _ _ => ?_)).trans ?_) | (simp; done) | split | (rw [progPart_mk, progPart_fold]))); done)
  | ((repeat' split) <;> first | (simp; done) | with_reducible rfl)
  | (refine progPart_foldl _ _ _ (fun a x => ?_); (repeat' split) <;> first | (simp; done) | with_reducible rfl)
  | ((try dsimp only); rw [progPart_foldl] <;> first | (intro a x; (repeat' split) <;> first | (simp; done) | with_reducible rfl) | ((repeat' split) <;> first | (simp; done) | with_reducible rfl))
  | ((try dsimp only); (repeat' split) <;> first | (simp; done) | with_reducible rfl)
  | ((repeat' (with_reducible refine progPart_ite ?_ ?_)) <;> first | (simp; done) | with_reducible rfl)
  | ((repeat' split) <;> first
      | (simp; done)
      | with_reducible rfl
      | (refine progPart_foldl _ _ _ (fun a x => ?_); (repeat' split) <;> first | (simp; done) | with_reducible rfl)
      | ((try dsimp only); rw [progPart_foldl] <;> first | (intro a x; (repeat' split) <;> first | (simp; done) | with_reducible rfl) | ((repeat' split) <;> first | (simp; done) | with_reducible rfl)))

@[simp↓] theorem progPart_applyPoint (s : State) (p : Nat) (v : F32) (a : Nat) : progPart (State.applyPoint s p v a) = progPart s := by
  unfold State.applyPoint
  first
  | ((try dsimp only); (repeat' (first | with_reducible rfl | (with_reducible refine (progPart_foldl _ _ _ (fun _ _ => ?_)).trans ?_) | (simp; done) | split | (rw [progPart_mk, progPart_fold]))); done)
  | ((repeat' split) <;> first | (simp; done) | with_reducible rfl)
  | (refine progPart_foldl _ _ _ (fun a x => ?_); (repeat' split) <;> first | (simp; done) | with_reducible rfl)
  | ((try dsimp only); rw [progPart_foldl] <;> first | (intro a x; (repeat' split) <;> first | (simp; done) | with_reducible rfl) | ((repeat' split) <;> first | (simp; done) | with_reducible rfl))
  | ((try dsimp only); (repeat' split) <;> first | (simp; done) | with_reducible rfl)
  | ((repeat' (with_reducible refine progPart_ite ?_ ?_)) <;> first | (simp; done) | with_reducible rfl)
  | ((repeat' split) <;> first
      | (simp; done)
      | with_reducible rfl
      | (refine progPart_foldl _ _ _ (fun a x => ?_); (repeat' split) <;> first | (simp; done) | with_reducible rfl)
      | ((try dsimp only); rw [progPart_foldl] <;> first | (intro a x; (repeat' split) <;> first | (simp; done) | with_reducible rfl) | ((repeat' split) <;> first | (simp; done) | with_reducible rfl)))

@[simp↓] theorem progPart_setTask (s : State) (t : Nat) (v : TaskSt) : progPart (State.setTask s t v) = progPart s := by
  unfold State.setTask
  first
  | ((try dsimp only); (repeat' (first | with_reducible rfl | (with_reducible refine (progPart_foldl _ _ _ (fun _ _ => ?_)).trans ?_) | (simp; done) | split | (rw [progPart_mk, progPart_fold]))); done)
  | ((repeat' split) <;> first | (simp; done) | with_reducible rfl)
  | (refine progPart_foldl _ _ _ (fun a x => ?_); (repeat' split) <;> first | (simp; done) | with_reducible rfl)
  | ((try dsimp only); rw [progPart_foldl] <;> first | (intro a x; (repeat' split) <;> first | (simp; done) | with_reducible rfl) | ((repeat' split) <;> first | (simp; done) | with_reducible rfl))
  | ((try dsimp only); (repeat' split) <;> first | (simp; done) | with_reducible rfl)
  | ((repeat' (with_reducible refine progPart_ite ?_ ?_)) <;> first | (simp; done) | with_reducible rfl)
  | ((repeat' split) <;> first
      | (simp; done)
      | with_reducible rfl
      | (refine progPart_foldl _ _ _ (fun a x => ?_); (repeat' split) <;> first | (simp; done) | with_reducible rfl)
      | ((try dsimp only); rw [progPart_foldl] <;> first | (intro a x; (repeat' split) <;> first | (simp; done) | with_reducible rfl) | ((repeat' split) <;> first | (simp; done) | with_reducible rfl)))

@[simp↓] theorem progPart_setStn (s : State) (n : Nat) (v : Stn) : progPart (State.setStn s n v) = progPart s := by
  unfold State.setStn
  first
  | ((try dsimp only); (repeat' (first | with_reducible rfl | (with_reducible refine (progPart_foldl _ _ _ (fun _ _ => ?_)).trans ?_) | (simp; done) | split | (rw [progPart_mk, progPart_fold]))); done)
  | ((repeat' split) <;> first | (simp; done) | with_reducible rfl)
  | (refine progPart_foldl _ _ _ (fun a x => ?_); (repeat' split) <;> first | (simp; done) | with_reducible rfl)
  | ((try dsimp only); rw [progPart_foldl] <;> first | (intro a x; (repeat' split) <;> first | (simp; done) | with_reducible rfl) | ((repeat' split) <;> first | (simp; done) | with_reducible rfl))
  | ((try dsimp only); (repeat' split) <;> first | (simp; done) | with_reducible rfl)
  | ((repeat' (with_reducible refine progPart_ite ?_ ?_)) <;> first | (simp; done) | with_reducible rfl)
  | ((repeat' split) <;> first
      | (simp; done)
      | with_reducible rfl
      | (refine progPart_foldl _ _ _ (fun a x => ?_); (repeat' split) <;> first | (simp; done) | with_reducible rfl)
      | ((try dsimp only); rw [progPart_foldl] <;> first | (intro a x; (repeat' split) <;> first | (simp; done) | with_reducible rfl) | ((repeat' split) <;> first | (simp; done) | with_reducible rfl)))

@[simp↓] theorem progPart_sendSeg (s : State) (n : Nat) (ftype : Nat) (epoch : Nat) (seg : Nat) (segs : Nat) (first : Nat) (count : Nat) (key : List Byte) (payload : List Byte) : progPart (State.sendSeg s n ftype epoch seg segs first count key payload) = progPart s := by
  unfold State.sendSeg
  first
  | ((try dsimp only); (repeat' (first | with_reducible rfl | (with_reducible refine (progPart_foldl _ _ _ (fun _ _ => ?_)).trans ?_) | (simp; done) | split | (rw [progPart_mk, progPart_fold]))); done)
  | ((repeat' split) <;> first | (simp; done) | with_reducible rfl)
  | (refine progPart_foldl _ _ _ (fun a x => ?_); (repeat' split) <;> first | (simp; done) | with_reducible rfl)
  | ((try dsimp only); rw [progPart_foldl] <;> first | (intro a x; (repeat' split) <;> first | (simp; done) | with_reducible rfl) | ((repeat' split) <;> first | (simp; done) | with_reducible rfl))
  | ((try dsimp only); (repeat' split) <;> first | (simp; done) | with_reducible rfl)
  | ((repeat' (with_reducible refine progPart_ite ?_ ?_)) <;> first | (simp; done) | with_reducible rfl)
  | ((repeat' split) <;> first
      | (simp; done)
      | with_reducible rfl
      | (refine progPart_foldl _ _ _ (fun a x => ?_); (repeat' split) <;> first | (simp; done) | with_reducible rfl)
      | ((try dsimp only); rw [progPart_foldl] <;> first | (intro a x; (repeat' split) <;> first | (simp; done) | with_reducible rfl) | ((repeat' split) <;> first | (simp; done) | with_reducible rfl)))

@[simp↓] theorem progPart_sendStn (s : State) (n : Nat) (ftype : Nat) (epoch : Nat) (key : List Byte) (segs : List (Nat × Nat × List Byte)) : progPart (State.sendStn s n ftype epoch key segs) = progPart s := by
  unfold State.sendStn
  dsimp only
  rw [progPart_setStn]
  generalize segs.length = m
  generalize hx : (s, 0) = x
  have hs : s = x.1 := by rw [← hx]
  rw [hs]
  clear hx hs
  induction segs generalizing x with
  | nil => rfl
  | cons y l ih => exact (ih _).trans (progPart_sendSeg _ _ _ _ _ _ _ _ _ _)

@[simp↓] theorem progPart_sendOutputs (s : State) (n : Nat) (a : Nat) (vals : List (Nat × F32)) : progPart (State.sendOutputs s n a vals) = progPart s := by
  unfold State.sendOutputs
  first
  | ((try dsimp only); (repeat' (first | with_reducible rfl | (with_reducible refine (progPart_foldl _ _ _ (fun _ _ => ?_)).trans ?_) | (simp; done) | split | (rw [progPart_mk, progPart_fold]))); done)
  | ((repeat' split) <;> first | (simp; done) | with_reducible rfl)
  | (refine progPart_foldl _ _ _ (fun a x => ?_); (repeat' split) <;> first | (simp; done) | with_reducible rfl)
  | ((try dsimp only); rw [progPart_foldl] <;> first | (intro a x; (repeat' split) <;> first | (simp; done) | with_reducible rfl) | ((repeat' split) <;> first | (simp; done) | with_reducible rfl))
  | ((try dsimp only); (repeat' split) <;> first | (simp; done) | with_reducible rfl)
  | ((repeat' (with_reducible refine progPart_ite ?_ ?_)) <;> first | (simp; done) | with_reducible rfl)
  | ((repeat' split) <;> first
      | (simp; done)
      | with_reducible rfl
      | (refine progPart_foldl _ _ _ (fun a x => ?_); (repeat' split) <;> first | (simp; done) | with_reducible rfl)
      | ((try dsimp only); rw [progPart_foldl] <;> first | (intro a x; (repeat' split) <;> first | (simp; done) | with_reducible rfl) | ((repeat' split) <;> first | (simp; done) | with_reducible rfl)))

@[simp↓] theorem progPart_stnExtra (s : State) (t : Nat) (a : Nat) : progPart (State.stnExtra s t a) = progPart s := by
  unfold State.stnExtra
  first
  | ((try dsimp only); (repeat' (first | with_reducible rfl | (with_reducible refine (progPart_foldl _ _ _ (fun _ _ => ?_)).trans ?_) | (simp; done) | split | (rw [progPart_mk, progPart_fold]))); done)
  | ((repeat' split) <;> first | (simp; done) | with_reducible rfl)
  | (refine progPart_foldl _ _ _ (fun a x => ?_); (repeat' split) <;> first | (simp; done) | with_reducible rfl)
  | ((try dsimp only); rw [progPart_foldl] <;> first | (intro a x; (repeat' split) <;> first | (simp; done) | with_reducible rfl) | ((repeat' split) <;> first | (simp; done) | with_reducible rfl))
  | ((try dsimp only); (repeat' split) <;> first | (simp; done) | with_reducible rfl)
  | ((repeat' (with_reducible refine progPart_ite ?_ ?_)) <;> first | (simp; done) | with_reducible rfl)
  | ((repeat' split) <;> first
      | (simp; done)
      | with_reducible rfl
      | (refine progPart_foldl _ _ _ (fun a x => ?_); (repeat' split) <;> first | (simp; done) | with_reducible rfl)
      | ((try dsimp only); rw [progPart_foldl] <;> first | (intro a x; (repeat' split) <;> first | (simp; done) | with_reducible rfl) | ((repeat' split) <;> first | (simp; done) | with_reducible rfl)))

@[simp↓] theorem progPart_marginSeen (s : State) (cls : Nat) (m : F32) : progPart (State.marginSeen s cls m) = progPart s := by
  unfold State.marginSeen
  first
  | ((try dsimp only); (repeat' (first | with_reducible rfl | (with_reducible refine (progPart_foldl _ _ _ (fun _ _ => ?_)).trans ?_) | (simp; done) | split | (rw [progPart_mk, progPart_fold]))); done)
  | ((repeat' split) <;> first | (simp; done) | with_reducible rfl)
  | (refine progPart_foldl _ _ _ (fun a x => ?_); (repeat' split) <;> first | (simp; done) | with_reducible rfl)
  | ((try dsimp only); rw [progPart_foldl] <;> first | (intro a x; (repeat' split) <;> first | (simp; done) | with_reducible rfl) | ((repeat' split) <;> first | (simp; done) | with_reducible rfl))
  | ((try dsimp only); (repeat' split) <;> first | (simp; done) | with_reducible rfl)
  | ((repeat' (with_reducible refine progPart_ite ?_ ?_)) <;> first | (simp; done) | with_reducible rfl)
  | ((repeat' split) <;> first
      | (simp; done)
      | with_reducible rfl
      | (refine progPart_foldl _ _ _ (fun a x => ?_); (repeat' split) <;> first | (simp; done) | with_reducible rfl)
      | ((try dsimp only); rw [progPart_foldl] <;> first | (intro a x; (repeat' split) <;> first | (simp; done) | with_reducible rfl) | ((repeat' split) <;> first | (simp; done) | with_reducible rfl)))

@[simp↓] theorem progPart_refreshBounds (s : State) : progPart (State.refreshBounds s) = progPart s := by
  unfold State.refreshBounds
  first
  | ((try dsimp only); (repeat' (first | with_reducible rfl | (with_reducible refine (progPart_foldl _ _ _ (fun _ _ => ?_)).trans ?_) | (simp; done) | split | (rw [progPart_mk, progPart_fold]))); done)
  | ((repeat' split) <;> first | (simp; done) | with_reducible rfl)
  | (refine progPart_foldl _ _ _ (fun a x => ?_); (repeat' split) <;> first | (simp; done) | with_reducible rfl)
  | ((try dsimp only); rw [progPart_foldl] <;> first | (intro a x; (repeat' split) <;> first | (simp; done) | with_reducible rfl) | ((repeat' split) <;> first | (simp; done) | with_reducible rfl))
  | ((try dsimp only); (repeat' split) <;> first | (simp; done) | with_reducible rfl)
  | ((repeat' (with_reducible refine progPart_ite ?_ ?_)) <;> first | (simp; done) | with_reducible rfl)
  | ((repeat' split) <;> first
      | (simp; done)
      | with_reducible rfl
      | (refine progPart_foldl _ _ _ (fun a x => ?_); (repeat' split) <;> first | (simp; done) | with_reducible rfl)
      | ((try dsimp only); rw [progPart_foldl] <;> first | (intro a x; (repeat' split) <;> first | (simp; done) | with_reducible rfl) | ((repeat' split) <;> first | (simp; done) | with_reducible rfl)))

@[simp↓] theorem progPart_alarmRaise (s : State) (task : Nat) (c : Nat) (key : U64) (prio : Nat) (v : F32) : progPart (State.alarmRaise s task c key prio v) = progPart s := by
  unfold State.alarmRaise
  first
  | ((try dsimp only); (repeat' (first | with_reducible rfl | (with_reducible refine (progPart_foldl _ _ _ (fun _ _ => ?_)).trans ?_) | (simp; done) | split | (rw [progPart_mk, progPart_fold]))); done)
  | ((repeat' split) <;> first | (simp; done) | with_reducible rfl)
  | (refine progPart_foldl _ _ _ (fun a x => ?_); (repeat' split) <;> first | (simp; done) | with_reducible rfl)
  | ((try dsimp only); rw [progPart_foldl] <;> first | (intro a x; (repeat' split) <;> first | (simp; done) | with_reducible rfl) | ((repeat' split) <;> first | (simp; done) | with_reducible rfl))
  | ((try dsimp only); (repeat' split) <;> first | (simp; done) | with_reducible rfl)
  | ((repeat' (with_reducible refine progPart_ite ?_ ?_)) <;> first | (simp; done) | with_reducible rfl)
  | ((repeat' split) <;> first
      | (simp; done)
      | with_reducible rfl
      | (refine progPart_foldl _ _ _ (fun a x => ?_); (repeat' split) <;> first | (simp; done) | with_reducible rfl)
      | ((try dsimp only); rw [progPart_foldl] <;> first | (intro a x; (repeat' split) <;> first | (simp; done) | with_reducible rfl) | ((repeat' split) <;> first | (simp; done) | with_reducible rfl)))

@[simp↓] theorem progPart_alarmClear (s : State) (c : Nat) (key : U64) : progPart (State.alarmClear s c key) = progPart s := by
  unfold State.alarmClear
  first
  | ((try dsimp only); (repeat' (first | with_reducible rfl | (with_reducible refine (progPart_foldl _ _ _ (fun _ _ => ?_)).trans ?_) | (simp; done) | split | (rw [progPart_mk, progPart_fold]))); done)
  | ((repeat' split) <;> first | (simp; done) | with_reducible rfl)
  | (refine progPart_foldl _ _ _ (fun a x => ?_); (repeat' split) <;> first | (simp; done) | with_reducible rfl)
  | ((try dsimp only); rw [progPart_foldl] <;> first | (intro a x; (repeat' split) <;> first | (simp; done) | with_reducible rfl) | ((repeat' split) <;> first | (simp; done) | with_reducible rfl))
  | ((try dsimp only); (repeat' split) <;> first | (simp; done) | with_reducible rfl)
  | ((repeat' (with_reducible refine progPart_ite ?_ ?_)) <;> first | (simp; done) | with_reducible rfl)
  | ((repeat' split) <;> first
      | (simp; done)
      | with_reducible rfl
      | (refine progPart_foldl _ _ _ (fun a x => ?_); (repeat' split) <;> first | (simp; done) | with_reducible rfl)
      | ((try dsimp only); rw [progPart_foldl] <;> first | (intro a x; (repeat' split) <;> first | (simp; done) | with_reducible rfl) | ((repeat' split) <;> first | (simp; done) | with_reducible rfl)))

@[simp↓] theorem progPart_publishEff (s : State) (t : Nat) (y : Cycle) (a : BlockEff) : progPart (State.publishEff s t y a) = progPart s := by
  unfold State.publishEff
  first
  | ((try dsimp only); (repeat' (first | with_reducible rfl | (with_reducible refine (progPart_foldl _ _ _ (fun _ _ => ?_)).trans ?_) | (simp; done) | split | (rw [progPart_mk, progPart_fold]))); done)
  | ((repeat' split) <;> first | (simp; done) | with_reducible rfl)
  | (refine progPart_foldl _ _ _ (fun a x => ?_); (repeat' split) <;> first | (simp; done) | with_reducible rfl)
  | ((try dsimp only); rw [progPart_foldl] <;> first | (intro a x; (repeat' split) <;> first | (simp; done) | with_reducible rfl) | ((repeat' split) <;> first | (simp; done) | with_reducible rfl))
  | ((try dsimp only); (repeat' split) <;> first | (simp; done) | with_reducible rfl)
  | ((repeat' (with_reducible refine progPart_ite ?_ ?_)) <;> first | (simp; done) | with_reducible rfl)
  | ((repeat' split) <;> first
      | (simp; done)
      | with_reducible rfl
      | (refine progPart_foldl _ _ _ (fun a x => ?_); (repeat' split) <;> first | (simp; done) | with_reducible rfl)
      | ((try dsimp only); rw [progPart_foldl] <;> first | (intro a x; (repeat' split) <;> first | (simp; done) | with_reducible rfl) | ((repeat' split) <;> first | (simp; done) | with_reducible rfl)))

@[simp↓] theorem progPart_abandonCycles (s : State) : progPart (State.abandonCycles s) = progPart s := by
  unfold State.abandonCycles
  first
  | ((try dsimp only); (repeat' (first | with_reducible rfl | (with_reducible refine (progPart_foldl _ _ _ (fun _ _ => ?_)).trans ?_) | (simp; done) | split | (rw [progPart_mk, progPart_fold]))); done)
  | ((repeat' split) <;> first | (simp; done) | with_reducible rfl)
  | (refine progPart_foldl _ _ _ (fun a x => ?_); (repeat' split) <;> first | (simp; done) | with_reducible rfl)
  | ((try dsimp only); rw [progPart_foldl] <;> first | (intro a x; (repeat' split) <;> first | (simp; done) | with_reducible rfl) | ((repeat' split) <;> first | (simp; done) | with_reducible rfl))
  | ((try dsimp only); (repeat' split) <;> first | (simp; done) | with_reducible rfl)
  | ((repeat' (with_reducible refine progPart_ite ?_ ?_)) <;> first | (simp; done) | with_reducible rfl)
  | ((repeat' split) <;> first
      | (simp; done)
      | with_reducible rfl
      | (refine progPart_foldl _ _ _ (fun a x => ?_); (repeat' split) <;> first | (simp; done) | with_reducible rfl)
      | ((try dsimp only); rw [progPart_foldl] <;> first | (intro a x; (repeat' split) <;> first | (simp; done) | with_reducible rfl) | ((repeat' split) <;> first | (simp; done) | with_reducible rfl)))

@[simp↓] theorem progPart_putVals (s : State) (l : List (Nat × F32)) : progPart (State.putVals s l) = progPart s := by
  unfold State.putVals
  first
  | ((try dsimp only); (repeat' (first | with_reducible rfl | (with_reducible refine (progPart_foldl _ _ _ (fun _ _ => ?_)).trans ?_) | (simp; done) | split | (rw [progPart_mk, progPart_fold]))); done)
  | ((repeat' split) <;> first | (simp; done) | with_reducible rfl)
  | (refine progPart_foldl _ _ _ (fun a x => ?_); (repeat' split) <;> first | (simp; done) | with_reducible rfl)
  | ((try dsimp only); rw [progPart_foldl] <;> first | (intro a x; (repeat' split) <;> first | (simp; done) | with_reducible rfl) | ((repeat' split) <;> first | (simp; done) | with_reducible rfl))
  | ((try dsimp only); (repeat' split) <;> first | (simp; done) | with_reducible rfl)
  | ((repeat' (with_reducible refine progPart_ite ?_ ?_)) <;> first | (simp; done) | with_reducible rfl)
  | ((repeat' split) <;> first
      | (simp; done)
      | with_reducible rfl
      | (refine progPart_foldl _ _ _ (fun a x => ?_); (repeat' split) <;> first | (simp; done) | with_reducible rfl)
      | ((try dsimp only); rw [progPart_foldl] <;> first | (intro a x; (repeat' split) <;> first | (simp; done) | with_reducible rfl) | ((repeat' split) <;> first | (simp; done) | with_reducible rfl)))

@[simp↓] theorem progPart_stopTask (s : State) (p : Program) (t : Nat) : progPart (State.stopTask s p t) = progPart s := by
  unfold State.stopTask
  first
  | ((try dsimp only); (repeat' (first | with_reducible rfl | (with_reducible refine (progPart_foldl _ _ _ (fun _ _ => ?_)).trans ?_) | (simp; done) | split | (rw [progPart_mk, progPart_fold]))); done)
  | ((repeat' split) <;> first | (simp; done) | with_reducible rfl)
  | (refine progPart_foldl _ _ _ (fun a x => ?_); (repeat' split) <;> first | (simp; done) | with_reducible rfl)
  | ((try dsimp only); rw [progPart_foldl] <;> first | (intro a x; (repeat' split) <;> first | (simp; done) | with_reducible rfl) | ((repeat' split) <;> first | (simp; done) | with_reducible rfl))
  | ((try dsimp only); (repeat' split) <;> first | (simp; done) | with_reducible rfl)
  | ((repeat' (with_reducible refine progPart_ite ?_ ?_)) <;> first | (simp; done) | with_reducible rfl)
  | ((repeat' split) <;> first
      | (simp; done)
      | with_reducible rfl
      | (refine progPart_foldl _ _ _ (fun a x => ?_); (repeat' split) <;> first | (simp; done) | with_reducible rfl)
      | ((try dsimp only); rw [progPart_foldl] <;> first | (intro a x; (repeat' split) <;> first | (simp; done) | with_reducible rfl) | ((repeat' split) <;> first | (simp; done) | with_reducible rfl)))

@[simp↓] theorem progPart_stopOutputs (s : State) : progPart (State.stopOutputs s) = progPart s := by
  unfold State.stopOutputs
  first
  | ((try dsimp only); (repeat' (first | with_reducible rfl | (with_reducible refine (progPart_foldl _ _ _ (fun _ _ => ?_)).trans ?_) | (simp; done) | split | (rw [progPart_mk, progPart_fold]))); done)
  | ((repeat' split) <;> first | (simp; done) | with_reducible rfl)
  | (refine progPart_foldl _ _ _ (fun a x => ?_); (repeat' split) <;> first | (simp; done) | with_reducible rfl)
  | ((try dsimp only); rw [progPart_foldl] <;> first | (intro a x; (repeat' split) <;> first | (simp; done) | with_reducible rfl) | ((repeat' split) <;> first | (simp; done) | with_reducible rfl))
  | ((try dsimp only); (repeat' split) <;> first | (simp; done) | with_reducible rfl)
  | ((repeat' (with_reducible refine progPart_ite ?_ ?_)) <;> first | (simp; done) | with_reducible rfl)
  | ((repeat' split) <;> first
      | (simp; done)
      | with_reducible rfl
      | (refine progPart_foldl _ _ _ (fun a x => ?_); (repeat' split) <;> first | (simp; done) | with_reducible rfl)
      | ((try dsimp only); rw [progPart_foldl] <;> first | (intro a x; (repeat' split) <;> first | (simp; done) | with_reducible rfl) | ((repeat' split) <;> first | (simp; done) | with_reducible rfl)))

@[simp↓] theorem progPart_safeTask (s : State) (p : Program) (t : Nat) : progPart (State.safeTask s p t) = progPart s := by
  unfold State.safeTask
  dsimp only
  rw [progPart_stnExtra]
  refine (progPart_foldl _ _ _ (fun b x => progPart_applyPoint _ _ _ _)).trans ?_
  exact (progPart_setTask _ _ _).trans (progPart_putVals _ _)

@[simp↓] theorem progPart_safeOutputs (s : State) : progPart (State.safeOutputs s) = progPart s := by
  unfold State.safeOutputs
  first
  | ((try dsimp only); (repeat' (first | with_reducible rfl | (with_reducible refine (progPart_foldl _ _ _ (fun _ _ => ?_)).trans ?_) | (simp; done) | split | (rw [progPart_mk, progPart_fold]))); done)
  | ((repeat' split) <;> first | (simp; done) | with_reducible rfl)
  | (refine progPart_foldl _ _ _ (fun a x => ?_); (repeat' split) <;> first | (simp; done) | with_reducible rfl)
  | ((try dsimp only); rw [progPart_foldl] <;> first | (intro a x; (repeat' split) <;> first | (simp; done) | with_reducible rfl) | ((repeat' split) <;> first | (simp; done) | with_reducible rfl))
  | ((try dsimp only); (repeat' split) <;> first | (simp; done) | with_reducible rfl)
  | ((repeat' (with_reducible refine progPart_ite ?_ ?_)) <;> first | (simp; done) | with_reducible rfl)
  | ((repeat' split) <;> first
      | (simp; done)
      | with_reducible rfl
      | (refine progPart_foldl _ _ _ (fun a x => ?_); (repeat' split) <;> first | (simp; done) | with_reducible rfl)
      | ((try dsimp only); rw [progPart_foldl] <;> first | (intro a x; (repeat' split) <;> first | (simp; done) | with_reducible rfl) | ((repeat' split) <;> first | (simp; done) | with_reducible rfl)))

/-- The parts `order`, `epoch`. -/
def orderPart (s : State) := (s.order, s.epoch)

@[simp] theorem orderPart_fold (s : State) : (s.order, s.epoch) = orderPart s := rfl

@[simp↓] theorem orderPart_mk (epoch order ident host par lane prog model slv perc afe fed stn pts fio can net time key aud pair pwr rst drip past edge latch pending out free) : orderPart (State.mk epoch order ident host par lane prog model slv perc afe fed stn pts fio can net time key aud pair pwr rst drip past edge latch pending out free) = (order, epoch) := rfl

theorem orderPart_silent {s t : State} (h : Silent s t) : orderPart t = orderPart s := by rw [h.rest]; rfl

theorem orderPart_ite {c : Prop} [Decidable c] {a b s : State} (ha : orderPart a = orderPart s) (hb : orderPart b = orderPart s) :
    orderPart (if c then a else b) = orderPart s := by
  split <;> assumption

theorem orderPart_foldl {α : Type} (l : List α) (f : State → α → State) (s : State) (h : ∀ a x, orderPart (f a x) = orderPart a) :
    orderPart (l.foldl f s) = orderPart s := by
  induction l generalizing s with
  | nil => rfl
  | cons x l ih => exact (ih _).trans (h s x)

@[simp↓] theorem orderPart_setPv (s : State) (id : Nat) (idx : Nat) (v : PVal) : orderPart (State.setPv s id idx v) = orderPart s := by
  unfold State.setPv
  first
  | ((try dsimp only); (repeat' (first | with_reducible rfl | (with_reducible refine (orderPart_foldl _ _ _ (fun _ _ => ?_)).trans ?_) | (simp; done) | split | (rw [orderPart_mk, orderPart_fold]))); done)
  | ((repeat' split) <;> first | (simp; done) | with_reducible rfl)
  | (refine orderPart_foldl _ _ _ (fun a x => ?_); (repeat' split) <;> first | (simp; done) | with_reducible rfl)
  | ((try dsimp only); rw [orderPart_foldl] <;> first | (intro a x; (repeat' split) <;> first | (simp; done) | with_reducible rfl) | ((repeat' split) <;> first | (simp; done) | with_reducible rfl))
  | ((try dsimp only); (repeat' split) <;> first | (simp; done) | with_reducible rfl)
  | ((repeat' (with_reducible refine orderPart_ite ?_ ?_)) <;> first | (simp; done) | with_reducible rfl)
  | ((repeat' split) <;> first
      | (simp; done)
      | with_reducible rfl
      | (refine orderPart_foldl _ _ _ (fun a x => ?_); (repeat' split) <;> first | (simp; done) | with_reducible rfl)
      | ((try dsimp only); rw [orderPart_foldl] <;> first | (intro a x; (repeat' split) <;> first | (simp; done) | with_reducible rfl) | ((repeat' split) <;> first | (simp; done) | with_reducible rfl)))

@[simp↓] theorem orderPart_emit (s : State) (m : OutMsg) : orderPart (State.emit s m) = orderPart s := by
  exact orderPart_silent (silent_emit _ _)

@[simp↓] theorem orderPart_sendMsix (s : State) (v : Nat) : orderPart (State.sendMsix s v) = orderPart s := by
  exact orderPart_silent (silent_sendMsix _ _)

@[simp↓] theorem orderPart_setQueue (s : State) (n : Nat) (q : QPair) : orderPart (State.setQueue s n q) = orderPart s := by
  unfold State.setQueue
  first
  | ((try dsimp only); (repeat' (first | with_reducible rfl | (with_reducible refine (orderPart_foldl _ _ _ (fun _ _ => ?_)).trans ?_) | (simp; done) | split | (rw [orderPart_mk, orderPart_fold]))); done)
  | ((repeat' split) <;> first | (simp; done) | with_reducible rfl)
  | (refine orderPart_foldl _ _ _ (fun a x => ?_); (repeat' split) <;> first | (simp; done) | with_reducible rfl)
  | ((try dsimp only); rw [orderPart_foldl] <;> first | (intro a x; (repeat' split) <;> first | (simp; done) | with_reducible rfl) | ((repeat' split) <;> first | (simp; done) | with_reducible rfl))
  | ((try dsimp only); (repeat' split) <;> first | (simp; done) | with_reducible rfl)
  | ((repeat' (with_reducible refine orderPart_ite ?_ ?_)) <;> first | (simp; done) | with_reducible rfl)
  | ((repeat' split) <;> first
      | (simp; done)
      | with_reducible rfl
      | (refine orderPart_foldl _ _ _ (fun a x => ?_); (repeat' split) <;> first | (simp; done) | with_reducible rfl)
      | ((try dsimp only); rw [orderPart_foldl] <;> first | (intro a x; (repeat' split) <;> first | (simp; done) | with_reducible rfl) | ((repeat' split) <;> first | (simp; done) | with_reducible rfl)))

@[simp↓] theorem orderPart_auditPush (s : State) (r : AuditRec) : orderPart (State.auditPush s r) = orderPart s := by
  exact orderPart_silent (silent_auditPush _ _)

@[simp↓] theorem orderPart_auditDev (s : State) (kind : Nat) (opcode : Nat) (status : Nat) (subject : Nat) (data : List Byte) : orderPart (State.auditDev s kind opcode status subject data) = orderPart s := by
  exact orderPart_silent (silent_auditPush _ _)

@[simp↓] theorem orderPart_auditApplied (s : State) (subject : Nat) : orderPart (State.auditApplied s subject) = orderPart s := by
  unfold State.auditApplied
  first
  | ((try dsimp only); (repeat' (first | with_reducible rfl | (with_reducible refine (orderPart_foldl _ _ _ (fun _ _ => ?_)).trans ?_) | (simp; done) | split | (rw [orderPart_mk, orderPart_fold]))); done)
  | ((repeat' split) <;> first | (simp; done) | with_reducible rfl)
  | (refine orderPart_foldl _ _ _ (fun a x => ?_); (repeat' split) <;> first | (simp; done) | with_reducible rfl)
  | ((try dsimp only); rw [orderPart_foldl] <;> first | (intro a x; (repeat' split) <;> first | (simp; done) | with_reducible rfl) | ((repeat' split) <;> first | (simp; done) | with_reducible rfl))
  | ((try dsimp only); (repeat' split) <;> first | (simp; done) | with_reducible rfl)
  | ((repeat' (with_reducible refine orderPart_ite ?_ ?_)) <;> first | (simp; done) | with_reducible rfl)
  | ((repeat' split) <;> first
      | (simp; done)
      | with_reducible rfl
      | (refine orderPart_foldl _ _ _ (fun a x => ?_); (repeat' split) <;> first | (simp; done) | with_reducible rfl)
      | ((try dsimp only); rw [orderPart_foldl] <;> first | (intro a x; (repeat' split) <;> first | (simp; done) | with_reducible rfl) | ((repeat' split) <;> first | (simp; done) | with_reducible rfl)))

@[simp↓] theorem orderPart_postQueue (s : State) (n : Nat) (e : Entry) (data : List Byte) : orderPart (State.postQueue s n e data).1 = orderPart s := by
  exact orderPart_silent (silent_postQueue _ _ _ _)

@[simp↓] theorem orderPart_post (s : State) (dst : Src) (e : Entry) (data : List Byte) : orderPart (State.post s dst e data).1 = orderPart s := by
  exact orderPart_silent (silent_post _ _ _ _)

@[simp↓] theorem orderPart_event (s : State) (code : Nat) (status : Nat) (data : List Byte) : orderPart (State.event s code status data) = orderPart s := by
  exact orderPart_silent (silent_event _ _ _ _)

@[simp↓] theorem orderPart_condition (s : State) (status : Nat) (data : List Byte) : orderPart (State.condition s status data) = orderPart s := by
  exact orderPart_silent (silent_condition _ _ _)

@[simp↓] theorem orderPart_freeHandle (s : State) (i : Nat) : orderPart (State.freeHandle s i) = orderPart s := by
  unfold State.freeHandle
  first
  | ((try dsimp only); (repeat' (first | with_reducible rfl | (with_reducible refine (orderPart_foldl _ _ _ (fun _ _ => ?_)).trans ?_) | (simp; done) | split | (rw [orderPart_mk, orderPart_fold]))); done)
  | ((repeat' split) <;> first | (simp; done) | with_reducible rfl)
  | (refine orderPart_foldl _ _ _ (fun a x => ?_); (repeat' split) <;> first | (simp; done) | with_reducible rfl)
  | ((try dsimp only); rw [orderPart_foldl] <;> first | (intro a x; (repeat' split) <;> first | (simp; done) | with_reducible rfl) | ((repeat' split) <;> first | (simp; done) | with_reducible rfl))
  | ((try dsimp only); (repeat' split) <;> first | (simp; done) | with_reducible rfl)
  | ((repeat' (with_reducible refine orderPart_ite ?_ ?_)) <;> first | (simp; done) | with_reducible rfl)
  | ((repeat' split) <;> first
      | (simp; done)
      | with_reducible rfl
      | (refine orderPart_foldl _ _ _ (fun a x => ?_); (repeat' split) <;> first | (simp; done) | with_reducible rfl)
      | ((try dsimp only); rw [orderPart_foldl] <;> first | (intro a x; (repeat' split) <;> first | (simp; done) | with_reducible rfl) | ((repeat' split) <;> first | (simp; done) | with_reducible rfl)))

@[simp↓] theorem orderPart_complete (s : State) (h : U32) (status : Nat) (detail : Nat) (data : List Byte) : orderPart (State.complete s h status detail data) = orderPart s := by
  unfold State.complete
  first
  | ((try dsimp only); (repeat' (first | with_reducible rfl | (with_reducible refine (orderPart_foldl _ _ _ (fun _ _ => ?_)).trans ?_) | (simp; done) | split | (rw [orderPart_mk, orderPart_fold]))); done)
  | ((repeat' split) <;> first | (simp; done) | with_reducible rfl)
  | (refine orderPart_foldl _ _ _ (fun a x => ?_); (repeat' split) <;> first | (simp; done) | with_reducible rfl)
  | ((try dsimp only); rw [orderPart_foldl] <;> first | (intro a x; (repeat' split) <;> first | (simp; done) | with_reducible rfl) | ((repeat' split) <;> first | (simp; done) | with_reducible rfl))
  | ((try dsimp only); (repeat' split) <;> first | (simp; done) | with_reducible rfl)
  | ((repeat' (with_reducible refine orderPart_ite ?_ ?_)) <;> first | (simp; done) | with_reducible rfl)
  | ((repeat' split) <;> first
      | (simp; done)
      | with_reducible rfl
      | (refine orderPart_foldl _ _ _ (fun a x => ?_); (repeat' split) <;> first | (simp; done) | with_reducible rfl)
      | ((try dsimp only); rw [orderPart_foldl] <;> first | (intro a x; (repeat' split) <;> first | (simp; done) | with_reducible rfl) | ((repeat' split) <;> first | (simp; done) | with_reducible rfl)))

@[simp↓] theorem orderPart_setPt (s : State) (p : Nat) (v : Point) : orderPart (State.setPt s p v) = orderPart s := by
  unfold State.setPt
  first
  | ((try dsimp only); (repeat' (first | with_reducible rfl | (with_reducible refine (orderPart_foldl _ _ _ (fun _ _ => ?_)).trans ?_) | (simp; done) | split | (rw [orderPart_mk, orderPart_fold]))); done)
  | ((repeat' split) <;> first | (simp; done) | with_reducible rfl)
  | (refine orderPart_foldl _ _ _ (fun a x => ?_); (repeat' split) <;> first | (simp; done) | with_reducible rfl)
  | ((try dsimp only); rw [orderPart_foldl] <;> first | (intro a x; (repeat' split) <;> first | (simp; done) | with_reducible rfl) | ((repeat' split) <;> first | (simp; done) | with_reducible rfl))
  | ((try dsimp only); (repeat' split) <;> first | (simp; done) | with_reducible rfl)
  | ((repeat' (with_reducible refine orderPart_ite ?_ ?_)) <;> first | (simp; done) | with_reducible rfl)
  | ((repeat' split) <;> first
      | (simp; done)
      | with_reducible rfl
      | (refine orderPart_foldl _ _ _ (fun a x => ?_); (repeat' split) <;> first | (simp; done) | with_reducible rfl)
      | ((try dsimp only); rw [orderPart_foldl] <;> first | (intro a x; (repeat' split) <;> first | (simp; done) | with_reducible rfl) | ((repeat' split) <;> first | (simp; done) | with_reducible rfl)))

@[simp↓] theorem orderPart_closeEdge (s : State) : orderPart (State.closeEdge s) = orderPart s := by
  unfold State.closeEdge
  first
  | ((try dsimp only); (repeat' (first | with_reducible rfl | (with_reducible refine (orderPart_foldl _ _ _ (fun _ _ => ?_)).trans ?_) | (simp; done) | split | (rw [orderPart_mk, orderPart_fold]))); done)
  | ((repeat' split) <;> first | (simp; done) | with_reducible rfl)
  | (refine orderPart_foldl _ _ _ (fun a x => ?_); (repeat' split) <;> first | (simp; done) | with_reducible rfl)
  | ((try dsimp only); rw [orderPart_foldl] <;> first | (intro a x; (repeat' split) <;> first | (simp; done) | with_reducible rfl) | ((repeat' split) <;> first | (simp; done) | with_reducible rfl))
  | ((try dsimp only); (repeat' split) <;> first | (simp; done) | with_reducible rfl)
  | ((repeat' (with_reducible refine orderPart_ite ?_ ?_)) <;> first | (simp; done) | with_reducible rfl)
  | ((repeat' split) <;> first
      | (simp; done)
      | with_reducible rfl
      | (refine orderPart_foldl _ _ _ (fun a x => ?_); (repeat' split) <;> first | (simp; done) | with_reducible rfl)
      | ((try dsimp only); rw [orderPart_foldl] <;> first | (intro a x; (repeat' split) <;> first | (simp; done) | with_reducible rfl) | ((repeat' split) <;> first | (simp; done) | with_reducible rfl)))

@[simp↓] theorem orderPart_setPort (s : State) (p : Nat) (v : PortSt1) : orderPart (State.setPort s p v) = orderPart s := by
  unfold State.setPort
  first
  | ((try dsimp only); (repeat' (first | with_reducible rfl | (with_reducible refine (orderPart_foldl _ _ _ (fun _ _ => ?_)).trans ?_) | (simp; done) | split | (rw [orderPart_mk, orderPart_fold]))); done)
  | ((repeat' split) <;> first | (simp; done) | with_reducible rfl)
  | (refine orderPart_foldl _ _ _ (fun a x => ?_); (repeat' split) <;> first | (simp; done) | with_reducible rfl)
  | ((try dsimp only); rw [orderPart_foldl] <;> first | (intro a x; (repeat' split) <;> first | (simp; done) | with_reducible rfl) | ((repeat' split) <;> first | (simp; done) | with_reducible rfl))
  | ((try dsimp only); (repeat' split) <;> first | (simp; done) | with_reducible rfl)
  | ((repeat' (with_reducible refine orderPart_ite ?_ ?_)) <;> first | (simp; done) | with_reducible rfl)
  | ((repeat' split) <;> first
      | (simp; done)
      | with_reducible rfl
      | (refine orderPart_foldl _ _ _ (fun a x => ?_); (repeat' split) <;> first | (simp; done) | with_reducible rfl)
      | ((try dsimp only); rw [orderPart_foldl] <;> first | (intro a x; (repeat' split) <;> first | (simp; done) | with_reducible rfl) | ((repeat' split) <;> first | (simp; done) | with_reducible rfl)))

@[simp↓] theorem orderPart_sendPlain (s : State) (p : Nat) (ethertype : Nat) (dst : BitVec 48) (bytes : List Byte) : orderPart (State.sendPlain s p ethertype dst bytes) = orderPart s := by
  unfold State.sendPlain
  first
  | ((try dsimp only); (repeat' (first | with_reducible rfl | (with_reducible refine (orderPart_foldl _ _ _ (fun _ _ => ?_)).trans ?_) | (simp; done) | split | (rw [orderPart_mk, orderPart_fold]))); done)
  | ((repeat' split) <;> first | (simp; done) | with_reducible rfl)
  | (refine orderPart_foldl _ _ _ (fun a x => ?_); (repeat' split) <;> first | (simp; done) | with_reducible rfl)
  | ((try dsimp only); rw [orderPart_foldl] <;> first | (intro a x; (repeat' split) <;> first | (simp; done) | with_reducible rfl) | ((repeat' split) <;> first | (simp; done) | with_reducible rfl))
  | ((try dsimp only); (repeat' split) <;> first | (simp; done) | with_reducible rfl)
  | ((repeat' (with_reducible refine orderPart_ite ?_ ?_)) <;> first | (simp; done) | with_reducible rfl)
  | ((repeat' split) <;> first
      | (simp; done)
      | with_reducible rfl
      | (refine orderPart_foldl _ _ _ (fun a x => ?_); (repeat' split) <;> first | (simp; done) | with_reducible rfl)
      | ((try dsimp only); rw [orderPart_foldl] <;> first | (intro a x; (repeat' split) <;> first | (simp; done) | with_reducible rfl) | ((repeat' split) <;> first | (simp; done) | with_reducible rfl)))

@[simp↓] theorem orderPart_sendOn (s : State) (p : Nat) (ethertype : Nat) (dst : BitVec 48) (bytes : List Byte) : orderPart (State.sendOn s p ethertype dst bytes) = orderPart s := by
  unfold State.sendOn
  first
  | ((try dsimp only); (repeat' (first | with_reducible rfl | (with_reducible refine (orderPart_foldl _ _ _ (fun _ _ => ?_)).trans ?_) | (simp; done) | split | (rw [orderPart_mk, orderPart_fold]))); done)
  | ((repeat' split) <;> first | (simp; done) | with_reducible rfl)
  | (refine orderPart_foldl _ _ _ (fun a x => ?_); (repeat' split) <;> first | (simp; done) | with_reducible rfl)
  | ((try dsimp only); rw [orderPart_foldl] <;> first | (intro a x; (repeat' split) <;> first | (simp; done) | with_reducible rfl) | ((repeat' split) <;> first | (simp; done) | with_reducible rfl))
  | ((try dsimp only); (repeat' split) <;> first | (simp; done) | with_reducible rfl)
  | ((repeat' (with_reducible refine orderPart_ite ?_ ?_)) <;> first | (simp; done) | with_reducible rfl)
  | ((repeat' split) <;> first
      | (simp; done)
      | with_reducible rfl
      | (refine orderPart_foldl _ _ _ (fun a x => ?_); (repeat' split) <;> first | (simp; done) | with_reducible rfl)
      | ((try dsimp only); rw [orderPart_foldl] <;> first | (intro a x; (repeat' split) <;> first | (simp; done) | with_reducible rfl) | ((repeat' split) <;> first | (simp; done) | with_reducible rfl)))

@[simp↓] theorem orderPart_setFio (s : State) (c : Nat) (v : FioCh) : orderPart (State.setFio s c v) = orderPart s := by
  unfold State.setFio
  first
  | ((try dsimp only); (repeat' (first | with_reducible rfl | (with_reducible refine (orderPart_foldl _ _ _ (fun _ _ => ?_)).trans ?_) | (simp; done) | split | (rw [orderPart_mk, orderPart_fold]))); done)
  | ((repeat' split) <;> first | (simp; done) | with_reducible rfl)
  | (refine orderPart_foldl _ _ _ (fun a x => ?_); (repeat' split) <;> first | (simp; done) | with_reducible rfl)
  | ((try dsimp only); rw [orderPart_foldl] <;> first | (intro a x; (repeat' split) <;> first | (simp; done) | with_reducible rfl) | ((repeat' split) <;> first | (simp; done) | with_reducible rfl))
  | ((try dsimp only); (repeat' split) <;> first | (simp; done) | with_reducible rfl)
  | ((repeat' (with_reducible refine orderPart_ite ?_ ?_)) <;> first | (simp; done) | with_reducible rfl)
  | ((repeat' split) <;> first
      | (simp; done)
      | with_reducible rfl
      | (refine orderPart_foldl _ _ _ (fun a x => ?_); (repeat' split) <;> first | (simp; done) | with_reducible rfl)
      | ((try dsimp only); rw [orderPart_foldl] <;> first | (intro a x; (repeat' split) <;> first | (simp; done) | with_reducible rfl) | ((repeat' split) <;> first | (simp; done) | with_reducible rfl)))

@[simp↓] theorem orderPart_setAout (s : State) (a : Nat) (v : AoutCh) : orderPart (State.setAout s a v) = orderPart s := by
  unfold State.setAout
  first
  | ((try dsimp only); (repeat' (first | with_reducible rfl | (with_reducible refine (orderPart_foldl _ _ _ (fun _ _ => ?_)).trans ?_) | (simp; done) | split | (rw [orderPart_mk, orderPart_fold]))); done)
  | ((repeat' split) <;> first | (simp; done) | with_reducible rfl)
  | (refine orderPart_foldl _ _ _ (fun a x => ?_); (repeat' split) <;> first | (simp; done) | with_reducible rfl)
  | ((try dsimp only); rw [orderPart_foldl] <;> first | (intro a x; (repeat' split) <;> first | (simp; done) | with_reducible rfl) | ((repeat' split) <;> first | (simp; done) | with_reducible rfl))
  | ((try dsimp only); (repeat' split) <;> first | (simp; done) | with_reducible rfl)
  | ((repeat' (with_reducible refine orderPart_ite ?_ ?_)) <;> first | (simp; done) | with_reducible rfl)
  | ((repeat' split) <;> first
      | (simp; done)
      | with_reducible rfl
      | (refine orderPart_foldl _ _ _ (fun a x => ?_); (repeat' split) <;> first | (simp; done) | with_reducible rfl)
      | ((try dsimp only); rw [orderPart_foldl] <;> first | (intro a x; (repeat' split) <;> first | (simp; done) | with_reducible rfl) | ((repeat' split) <;> first | (simp; done) | with_reducible rfl)))

@[simp↓] theorem orderPart_driveCh (s : State) (c : Nat) : orderPart (State.driveCh s c) = orderPart s := by
  unfold State.driveCh
  first
  | ((try dsimp only); (repeat' (first | with_reducible rfl | (with_reducible refine (orderPart_foldl _ _ _ (fun _ _ => ?_)).trans ?_) | (simp; done) | split | (rw [orderPart_mk, orderPart_fold]))); done)
  | ((repeat' split) <;> first | (simp; done) | with_reducible rfl)
  | (refine orderPart_foldl _ _ _ (fun a x => ?_); (repeat' split) <;> first | (simp; done) | with_reducible rfl)
  | ((try dsimp only); rw [orderPart_foldl] <;> first | (intro a x; (repeat' split) <;> first | (simp; done) | with_reducible rfl) | ((repeat' split) <;> first | (simp; done) | with_reducible rfl))
  | ((try dsimp only); (repeat' split) <;> first | (simp; done) | with_reducible rfl)
  | ((repeat' (with_reducible refine orderPart_ite ?_ ?_)) <;> first | (simp; done) | with_reducible rfl)
  | ((repeat' split) <;> first
      | (simp; done)
      | with_reducible rfl
      | (refine orderPart_foldl _ _ _ (fun a x => ?_); (repeat' split) <;> first | (simp; done) | with_reducible rfl)
      | ((try dsimp only); rw [orderPart_foldl] <;> first | (intro a x; (repeat' split) <;> first | (simp; done) | with_reducible rfl) | ((repeat' split) <;> first | (simp; done) | with_reducible rfl)))

@[simp↓] theorem orderPart_driveAout (s : State) (a : Nat) : orderPart (State.driveAout s a) = orderPart s := by
  unfold State.driveAout
  first
  | ((try dsimp only); (repeat' (first | with_reducible rfl | (with_reducible refine (orderPart_foldl _ _ _ (fun _ _ => ?_)).trans ?_) | (simp; done) | split | (rw [orderPart_mk, orderPart_fold]))); done)
  | ((repeat' split) <;> first | (simp; done) | with_reducible rfl)
  | (refine orderPart_foldl _ _ _ (fun a x => ?_); (repeat' split) <;> first | (simp; done) | with_reducible rfl)
  | ((try dsimp only); rw [orderPart_foldl] <;> first | (intro a x; (repeat' split) <;> first | (simp; done) | with_reducible rfl) | ((repeat' split) <;> first | (simp; done) | with_reducible rfl))
  | ((try dsimp only); (repeat' split) <;> first | (simp; done) | with_reducible rfl)
  | ((repeat' (with_reducible refine orderPart_ite ?_ ?_)) <;> first | (simp; done) | with_reducible rfl)
  | ((repeat' split) <;> first
      | (simp; done)
      | with_reducible rfl
      | (refine orderPart_foldl _ _ _ (fun a x => ?_); (repeat' split) <;> first | (simp; done) | with_reducible rfl)
      | ((try dsimp only); rw [orderPart_foldl] <;> first | (intro a x; (repeat' split) <;> first | (simp; done) | with_reducible rfl) | ((repeat' split) <;> first | (simp; done) | with_reducible rfl)))

@[simp↓] theorem orderPart_applyCh (s : State) (c : Nat) (v : F32) (a : Nat) : orderPart (State.applyCh s c v a) = orderPart s := by
  unfold State.applyCh
  first
  | ((try dsimp only); (repeat' (first | with_reducible rfl | (with_reducible refine (orderPart_foldl _ _ _ (fun _ _ => ?_)).trans ?_) | (simp; done) | split | (rw [orderPart_mk, orderPart_fold]))); done)
  | ((repeat' split) <;> first | (simp; done) | with_reducible rfl)
  | (refine orderPart_foldl _ _ _ (fun a x => ?_); (repeat' split) <;> first | (simp; done) | with_reducible rfl)
  | ((try dsimp only); rw [orderPart_foldl] <;> first | (intro a x; (repeat' split) <;> first | (simp; done) | with_reducible rfl) | ((repeat' split) <;> first | (simp; done) | with_reducible rfl))
  | ((try dsimp only); (repeat' split) <;> first | (simp; done) | with_reducible rfl)
  | ((repeat' (with_reducible refine orderPart_ite ?_ ?_)) <;> first | (simp; done) | with_reducible rfl)
  | ((repeat' split) <;> first
      | (simp; done)
      | with_reducible rfl
      | (refine orderPart_foldl _ _ _ (fun a x => ?_); (repeat' split) <;> first | (simp; done) | with_reducible rfl)
      | ((try dsimp only); rw [orderPart_foldl] <;> first | (intro a x; (repeat' split) <;> first | (simp; done) | with_reducible rfl) | ((repeat' split) <;> first | (simp; done) | with_reducible rfl)))

@[simp↓] theorem orderPart_applyAout (s : State) (k : Nat) (v : F32) (a : Nat) : orderPart (State.applyAout s k v a) = orderPart s := by
  unfold State.applyAout
  first
  | ((try dsimp only); (repeat' (first | with_reducible rfl | (with_reducible refine (orderPart_foldl _ _ _ (fun _ _ => ?_)).trans ?_) | (simp; done) | split | (rw [orderPart_mk, orderPart_fold]))); done)
  | ((repeat' split) <;> first | (simp; done) | with_reducible rfl)
  | (refine orderPart_foldl _ _ _ (fun a x => ?_); (repeat' split) <;> first | (simp; done) | with_reducible rfl)
  | ((try dsimp only); rw [orderPart_foldl] <;> first | (intro a x; (repeat' split) <;> first | (simp; done) | with_reducible rfl) | ((repeat' split) <;> first | (simp; done) | with_reducible rfl))
  | ((try dsimp only); (repeat' split) <;> first | (simp; done) | with_reducible rfl)
  | ((repeat' (with_reducible refine orderPart_ite ?_ ?_)) <;> first | (simp; done) | with_reducible rfl)
  | ((repeat' split) <;> first
      | (simp; done)
      | with_reducible rfl
      | (refine orderPart_foldl _ _ _ (fun a x => ?_); (repeat' split) <;> first | (simp; done) | with_reducible rfl)
      | ((try dsimp only); rw [orderPart_foldl] <;> first | (intro a x; (repeat' split) <;> first | (simp; done) | with_reducible rfl) | ((repeat' split) <;> first | (simp; done) | with_reducible rfl)))

@[simp↓] theorem orderPart_applyLocal (s : State) (p : Nat) (v : F32) (a : Nat) : orderPart (State.applyLocal s p v a) = orderPart s := by
  unfold State.applyLocal
  first
  | ((try dsimp only); (repeat' (first | with_reducible rfl | (with_reducible refine (orderPart_foldl _ _ _ (fun _ _ => ?_)).trans ?_) | (simp; done) | split | (rw [orderPart_mk, orderPart_fold]))); done)
  | ((repeat' split) <;> first | (simp; done) | with_reducible rfl)
  | (refine orderPart_foldl _ _ _ (fun a x => ?_); (repeat' split) <;> first | (simp; done) | with_reducible rfl)
  | ((try dsimp only); rw [orderPart_foldl] <;> first | (intro a x; (repeat' split) <;> first | (simp; done) | with_reducible rfl) | ((repeat' split) <;> first | (simp; done) | with_reducible rfl))
  | ((try dsimp only); (repeat' split) <;> first | (simp; done) | with_reducible rfl)
  | ((repeat' (with_reducible refine orderPart_ite ?_ ?_)) <;> first | (simp; done) | with_reducible rfl)
  | ((repeat' split) <;> first
      | (simp; done)
      | with_reducible rfl
      | (refine orderPart_foldl _ _ _ (fun a x => ?_); (repeat' split) <;> first | (simp; done) | with_reducible rfl)
      | ((try dsimp only); rw [orderPart_foldl] <;> first | (intro a x; (repeat' split) <;> first | (simp; done) | with_reducible rfl) | ((repeat' split) <;> first | (simp; done) | with_reducible rfl)))

@[simp↓] theorem orderPart_setCanBuf (s : State) (c : Nat) (b : Nat) (v : CanBuf) : orderPart (State.setCanBuf s c b v) = orderPart s := by
  unfold State.setCanBuf
  first
  | ((try dsimp only); (repeat' (first | with_reducible rfl | (with_reducible refine (orderPart_foldl _ _ _ (fun _ _ => ?_)).trans ?_) | (simp; done) | split | (rw [orderPart_mk, orderPart_fold]))); done)
  | ((repeat' split) <;> first | (simp; done) | with_reducible rfl)
  | (refine orderPart_foldl _ _ _ (fun a x => ?_); (repeat' split) <;> first | (simp; done) | with_reducible rfl)
  | ((try dsimp only); rw [orderPart_foldl] <;> first | (intro a x; (repeat' split) <;> first | (simp; done) | with_reducible rfl) | ((repeat' split) <;> first | (simp; done) | with_reducible rfl))
  | ((try dsimp only); (repeat' split) <;> first | (simp; done) | with_reducible rfl)
  | ((repeat' (with_reducible refine orderPart_ite ?_ ?_)) <;> first | (simp; done) | with_reducible rfl)
  | ((repeat' split) <;> first
      | (simp; done)
      | with_reducible rfl
      | (refine orderPart_foldl _ _ _ (fun a x => ?_); (repeat' split) <;> first | (simp; done) | with_reducible rfl)
      | ((try dsimp only); rw [orderPart_foldl] <;> first | (intro a x; (repeat' split) <;> first | (simp; done) | with_reducible rfl) | ((repeat' split) <;> first | (simp; done) | with_reducible rfl)))

@[simp↓] theorem orderPart_setCanPt (s : State) (p : Nat) (v : CanPt) : orderPart (State.setCanPt s p v) = orderPart s := by
  unfold State.setCanPt
  first
  | ((try dsimp only); (repeat' (first | with_reducible rfl | (with_reducible refine (orderPart_foldl _ _ _ (fun _ _ => ?_)).trans ?_) | (simp; done) | split | (rw [orderPart_mk, orderPart_fold]))); done)
  | ((repeat' split) <;> first | (simp; done) | with_reducible rfl)
  | (refine orderPart_foldl _ _ _ (fun a x => ?_); (repeat' split) <;> first | (simp; done) | with_reducible rfl)
  | ((try dsimp only); rw [orderPart_foldl] <;> first | (intro a x; (repeat' split) <;> first | (simp; done) | with_reducible rfl) | ((repeat' split) <;> first | (simp; done) | with_reducible rfl))
  | ((try dsimp only); (repeat' split) <;> first | (simp; done) | with_reducible rfl)
  | ((repeat' (with_reducible refine orderPart_ite ?_ ?_)) <;> first | (simp; done) | with_reducible rfl)
  | ((repeat' split) <;> first
      | (simp; done)
      | with_reducible rfl
      | (refine orderPart_foldl _ _ _ (fun a x => ?_); (repeat' split) <;> first | (simp; done) | with_reducible rfl)
      | ((try dsimp only); rw [orderPart_foldl] <;> first | (intro a x; (repeat' split) <;> first | (simp; done) | with_reducible rfl) | ((repeat' split) <;> first | (simp; done) | with_reducible rfl)))

@[simp↓] theorem orderPart_canDiag (s : State) (p : Nat) (d : Nat) (on : Bool) : orderPart (State.canDiag s p d on) = orderPart s := by
  unfold State.canDiag
  first
  | ((try dsimp only); (repeat' (first | with_reducible rfl | (with_reducible refine (orderPart_foldl _ _ _ (fun _ _ => ?_)).trans ?_) | (simp; done) | split | (rw [orderPart_mk, orderPart_fold]))); done)
  | ((repeat' split) <;> first | (simp; done) | with_reducible rfl)
  | (refine orderPart_foldl _ _ _ (fun a x => ?_); (repeat' split) <;> first | (simp; done) | with_reducible rfl)
  | ((try dsimp only); rw [orderPart_foldl] <;> first | (intro a x; (repeat' split) <;> first | (simp; done) | with_reducible rfl) | ((repeat' split) <;> first | (simp; done) | with_reducible rfl))
  | ((try dsimp only); (repeat' split) <;> first | (simp; done) | with_reducible rfl)
  | ((repeat' (with_reducible refine orderPart_ite ?_ ?_)) <;> first | (simp; done) | with_reducible rfl)
  | ((repeat' split) <;> first
      | (simp; done)
      | with_reducible rfl
      | (refine orderPart_foldl _ _ _ (fun a x => ?_); (repeat' split) <;> first | (simp; done) | with_reducible rfl)
      | ((try dsimp only); rw [orderPart_foldl] <;> first | (intro a x; (repeat' split) <;> first | (simp; done) | with_reducible rfl) | ((repeat' split) <;> first | (simp; done) | with_reducible rfl)))

@[simp↓] theorem orderPart_queueBuf (s : State) (c : Nat) (b : Nat) : orderPart (State.queueBuf s c b) = orderPart s := by
  unfold State.queueBuf
  first
  | ((try dsimp only); (repeat' (first | with_reducible rfl | (with_reducible refine (orderPart_foldl _ _ _ (fun _ _ => ?_)).trans ?_) | (simp; done) | split | (rw [orderPart_mk, orderPart_fold]))); done)
  | ((repeat' split) <;> first | (simp; done) | with_reducible rfl)
  | (refine orderPart_foldl _ _ _ (fun a x => ?_); (repeat' split) <;> first | (simp; done) | with_reducible rfl)
  | ((try dsimp only); rw [orderPart_foldl] <;> first | (intro a x; (repeat' split) <;> first | (simp; done) | with_reducible rfl) | ((repeat' split) <;> first | (simp; done) | with_reducible rfl))
  | ((try dsimp only); (repeat' split) <;> first | (simp; done) | with_reducible rfl)
  | ((repeat' (with_reducible refine orderPart_ite ?_ ?_)) <;> first | (simp; done) | with_reducible rfl)
  | ((repeat' split) <;> first
      | (simp; done)
      | with_reducible rfl
      | (refine orderPart_foldl _ _ _ (fun a x => ?_); (repeat' split) <;> first | (simp; done) | with_reducible rfl)
      | ((try dsimp only); rw [orderPart_foldl] <;> first | (intro a x; (repeat' split) <;> first | (simp; done) | with_reducible rfl) | ((repeat' split) <;> first | (simp; done) | with_reducible rfl)))

@[simp↓] theorem orderPart_canPtStatus (s : State) (c : Nat) (b : Nat) (p : Nat) (rx : Bool) : orderPart (State.canPtStatus s c b p rx) = orderPart s := by
  unfold State.canPtStatus
  first
  | ((try dsimp only); (repeat' (first | with_reducible rfl | (with_reducible refine (orderPart_foldl _ _ _ (fun _ _ => ?_)).trans ?_) | (simp; done) | split | (rw [orderPart_mk, orderPart_fold]))); done)
  | ((repeat' split) <;> first | (simp; done) | with_reducible rfl)
  | (refine orderPart_foldl _ _ _ (fun a x => ?_); (repeat' split) <;> first | (simp; done) | with_reducible rfl)
  | ((try dsimp only); rw [orderPart_foldl] <;> first | (intro a x; (repeat' split) <;> first | (simp; done) | with_reducible rfl) | ((repeat' split) <;> first | (simp; done) | with_reducible rfl))
  | ((try dsimp only); (repeat' split) <;> first | (simp; done) | with_reducible rfl)
  | ((repeat' (with_reducible refine orderPart_ite ?_ ?_)) <;> first | (simp; done) | with_reducible rfl)
  | ((repeat' split) <;> first
      | (simp; done)
      | with_reducible rfl
      | (refine orderPart_foldl _ _ _ (fun a x => ?_); (repeat' split) <;> first | (simp; done) | with_reducible rfl)
      | ((try dsimp only); rw [orderPart_foldl] <;> first | (intro a x; (repeat' split) <;> first | (simp; done) | with_reducible rfl) | ((repeat' split) <;> first | (simp; done) | with_reducible rfl)))

@[simp↓] theorem orderPart_applyCan (s : State) (p : Nat) (v : F32) (a : Nat) : orderPart (State.applyCan s p v a) = orderPart s := by
  unfold State.applyCan
  first
  | ((try dsimp only); (repeat' (first | with_reducible rfl | (with_reducible refine (orderPart_foldl _ _ _ (fun _ _ => ?_)).trans ?_) | (simp; done) | split | (rw [orderPart_mk, orderPart_fold]))); done)
  | ((repeat' split) <;> first | (simp; done) | with_reducible rfl)
  | (refine orderPart_foldl _ _ _ (fun a x => ?_); (repeat' split) <;> first | (simp; done) | with_reducible rfl)
  | ((try dsimp only); rw [orderPart_foldl] <;> first | (intro a x; (repeat' split) <;> first | (simp; done) | with_reducible rfl) | ((repeat' split) <;> first | (simp; done) | with_reducible rfl))
  | ((try dsimp only); (repeat' split) <;> first | (simp; done) | with_reducible rfl)
  | ((repeat' (with_reducible refine orderPart_ite ?_ ?_)) <;> first | (simp; done) | with_reducible rfl)
  | ((repeat' split) <;> first
      | (simp; done)
      | with_reducible rfl
      | (refine orderPart_foldl _ _ _ (fun a x => ?_); (repeat' split) <;> first | (simp; done) | with_reducible rfl)
      | ((try dsimp only); rw [orderPart_foldl] <;> first | (intro a x; (repeat' split) <;> first | (simp; done) | with_reducible rfl) | ((repeat' split) <;> first | (simp; done) | with_reducible rfl)))

@[simp↓] theorem orderPart_applyPoint (s : State) (p : Nat) (v : F32) (a : Nat) : orderPart (State.applyPoint s p v a) = orderPart s := by
  unfold State.applyPoint
  first
  | ((try dsimp only); (repeat' (first | with_reducible rfl | (with_reducible refine (orderPart_foldl _ _ _ (fun _ _ => ?_)).trans ?_) | (simp; done) | split | (rw [orderPart_mk, orderPart_fold]))); done)
  | ((repeat' split) <;> first | (simp; done) | with_reducible rfl)
  | (refine orderPart_foldl _ _ _ (fun a x => ?_); (repeat' split) <;> first | (simp; done) | with_reducible rfl)
  | ((try dsimp only); rw [orderPart_foldl] <;> first | (intro a x; (repeat' split) <;> first | (simp; done) | with_reducible rfl) | ((repeat' split) <;> first | (simp; done) | with_reducible rfl))
  | ((try dsimp only); (repeat' split) <;> first | (simp; done) | with_reducible rfl)
  | ((repeat' (with_reducible refine orderPart_ite ?_ ?_)) <;> first | (simp; done) | with_reducible rfl)
  | ((repeat' split) <;> first
      | (simp; done)
      | with_reducible rfl
      | (refine orderPart_foldl _ _ _ (fun a x => ?_); (repeat' split) <;> first | (simp; done) | with_reducible rfl)
      | ((try dsimp only); rw [orderPart_foldl] <;> first | (intro a x; (repeat' split) <;> first | (simp; done) | with_reducible rfl) | ((repeat' split) <;> first | (simp; done) | with_reducible rfl)))

@[simp↓] theorem orderPart_setTask (s : State) (t : Nat) (v : TaskSt) : orderPart (State.setTask s t v) = orderPart s := by
  unfold State.setTask
  first
  | ((try dsimp only); (repeat' (first | with_reducible rfl | (with_reducible refine (orderPart_foldl _ _ _ (fun _ _ => ?_)).trans ?_) | (simp; done) | split | (rw [orderPart_mk, orderPart_fold]))); done)
  | ((repeat' split) <;> first | (simp; done) | with_reducible rfl)
  | (refine orderPart_foldl _ _ _ (fun a x => ?_); (repeat' split) <;> first | (simp; done) | with_reducible rfl)
  | ((try dsimp only); rw [orderPart_foldl] <;> first | (intro a x; (repeat' split) <;> first | (simp; done) | with_reducible rfl) | ((repeat' split) <;> first | (simp; done) | with_reducible rfl))
  | ((try dsimp only); (repeat' split) <;> first | (simp; done) | with_reducible rfl)
  | ((repeat' (with_reducible refine orderPart_ite ?_ ?_)) <;> first | (simp; done) | with_reducible rfl)
  | ((repeat' split) <;> first
      | (simp; done)
      | with_reducible rfl
      | (refine orderPart_foldl _ _ _ (fun a x => ?_); (repeat' split) <;> first | (simp; done) | with_reducible rfl)
      | ((try dsimp only); rw [orderPart_foldl] <;> first | (intro a x; (repeat' split) <;> first | (simp; done) | with_reducible rfl) | ((repeat' split) <;> first | (simp; done) | with_reducible rfl)))

@[simp↓] theorem orderPart_setStn (s : State) (n : Nat) (v : Stn) : orderPart (State.setStn s n v) = orderPart s := by
  unfold State.setStn
  first
  | ((try dsimp only); (repeat' (first | with_reducible rfl | (with_reducible refine (orderPart_foldl _ _ _ (fun _ _ => ?_)).trans ?_) | (simp; done) | split | (rw [orderPart_mk, orderPart_fold]))); done)
  | ((repeat' split) <;> first | (simp; done) | with_reducible rfl)
  | (refine orderPart_foldl _ _ _ (fun a x => ?_); (repeat' split) <;> first | (simp; done) | with_reducible rfl)
  | ((try dsimp only); rw [orderPart_foldl] <;> first | (intro a x; (repeat' split) <;> first | (simp; done) | with_reducible rfl) | ((repeat' split) <;> first | (simp; done) | with_reducible rfl))
  | ((try dsimp only); (repeat' split) <;> first | (simp; done) | with_reducible rfl)
  | ((repeat' (with_reducible refine orderPart_ite ?_ ?_)) <;> first | (simp; done) | with_reducible rfl)
  | ((repeat' split) <;> first
      | (simp; done)
      | with_reducible rfl
      | (refine orderPart_foldl _ _ _ (fun a x => ?_); (repeat' split) <;> first | (simp; done) | with_reducible rfl)
      | ((try dsimp only); rw [orderPart_foldl] <;> first | (intro a x; (repeat' split) <;> first | (simp; done) | with_reducible rfl) | ((repeat' split) <;> first | (simp; done) | with_reducible rfl)))

@[simp↓] theorem orderPart_sendSeg (s : State) (n : Nat) (ftype : Nat) (epoch : Nat) (seg : Nat) (segs : Nat) (first : Nat) (count : Nat) (key : List Byte) (payload : List Byte) : orderPart (State.sendSeg s n ftype epoch seg segs first count key payload) = orderPart s := by
  unfold State.sendSeg
  first
  | ((try dsimp only); (repeat' (first | with_reducible rfl | (with_reducible refine (orderPart_foldl _ _ _ (fun _ _ => ?_)).trans ?_) | (simp; done) | split | (rw [orderPart_mk, orderPart_fold]))); done)
  | ((repeat' split) <;> first | (simp; done) | with_reducible rfl)
  | (refine orderPart_foldl _ _ _ (fun a x => ?_); (repeat' split) <;> first | (simp; done) | with_reducible rfl)
  | ((try dsimp only); rw [orderPart_foldl] <;> first | (intro a x; (repeat' split) <;> first | (simp; done) | with_reducible rfl) | ((repeat' split) <;> first | (simp; done) | with_reducible rfl))
  | ((try dsimp only); (repeat' split) <;> first | (simp; done) | with_reducible rfl)
  | ((repeat' (with_reducible refine orderPart_ite ?_ ?_)) <;> first | (simp; done) | with_reducible rfl)
  | ((repeat' split) <;> first
      | (simp; done)
      | with_reducible rfl
      | (refine orderPart_foldl _ _ _ (fun a x => ?_); (repeat' split) <;> first | (simp; done) | with_reducible rfl)
      | ((try dsimp only); rw [orderPart_foldl] <;> first | (intro a x; (repeat' split) <;> first | (simp; done) | with_reducible rfl) | ((repeat' split) <;> first | (simp; done) | with_reducible rfl)))

@[simp↓] theorem orderPart_sendStn (s : State) (n : Nat) (ftype : Nat) (epoch : Nat) (key : List Byte) (segs : List (Nat × Nat × List Byte)) : orderPart (State.sendStn s n ftype epoch key segs) = orderPart s := by
  unfold State.sendStn
  dsimp only
  rw [orderPart_setStn]
  generalize segs.length = m
  generalize hx : (s, 0) = x
  have hs : s = x.1 := by rw [← hx]
  rw [hs]
  clear hx hs
  induction segs generalizing x with
  | nil => rfl
  | cons y l ih => exact (ih _).trans (orderPart_sendSeg _ _ _ _ _ _ _ _ _ _)

@[simp↓] theorem orderPart_sendOutputs (s : State) (n : Nat) (a : Nat) (vals : List (Nat × F32)) : orderPart (State.sendOutputs s n a vals) = orderPart s := by
  unfold State.sendOutputs
  first
  | ((try dsimp only); (repeat' (first | with_reducible rfl | (with_reducible refine (orderPart_foldl _ _ _ (fun _ _ => ?_)).trans ?_) | (simp; done) | split | (rw [orderPart_mk, orderPart_fold]))); done)
  | ((repeat' split) <;> first | (simp; done) | with_reducible rfl)
  | (refine orderPart_foldl _ _ _ (fun a x => ?_); (repeat' split) <;> first | (simp; done) | with_reducible rfl)
  | ((try dsimp only); rw [orderPart_foldl] <;> first | (intro a x; (repeat' split) <;> first | (simp; done) | with_reducible rfl) | ((repeat' split) <;> first | (simp; done) | with_reducible rfl))
  | ((try dsimp only); (repeat' split) <;> first | (simp; done) | with_reducible rfl)
  | ((repeat' (with_reducible refine orderPart_ite ?_ ?_)) <;> first | (simp; done) | with_reducible rfl)
  | ((repeat' split) <;> first
      | (simp; done)
      | with_reducible rfl
      | (refine orderPart_foldl _ _ _ (fun a x => ?_); (repeat' split) <;> first | (simp; done) | with_reducible rfl)
      | ((try dsimp only); rw [orderPart_foldl] <;> first | (intro a x; (repeat' split) <;> first | (simp; done) | with_reducible rfl) | ((repeat' split) <;> first | (simp; done) | with_reducible rfl)))

@[simp↓] theorem orderPart_stnExtra (s : State) (t : Nat) (a : Nat) : orderPart (State.stnExtra s t a) = orderPart s := by
  unfold State.stnExtra
  first
  | ((try dsimp only); (repeat' (first | with_reducible rfl | (with_reducible refine (orderPart_foldl _ _ _ (fun _ _ => ?_)).trans ?_) | (simp; done) | split | (rw [orderPart_mk, orderPart_fold]))); done)
  | ((repeat' split) <;> first | (simp; done) | with_reducible rfl)
  | (refine orderPart_foldl _ _ _ (fun a x => ?_); (repeat' split) <;> first | (simp; done) | with_reducible rfl)
  | ((try dsimp only); rw [orderPart_foldl] <;> first | (intro a x; (repeat' split) <;> first | (simp; done) | with_reducible rfl) | ((repeat' split) <;> first | (simp; done) | with_reducible rfl))
  | ((try dsimp only); (repeat' split) <;> first | (simp; done) | with_reducible rfl)
  | ((repeat' (with_reducible refine orderPart_ite ?_ ?_)) <;> first | (simp; done) | with_reducible rfl)
  | ((repeat' split) <;> first
      | (simp; done)
      | with_reducible rfl
      | (refine orderPart_foldl _ _ _ (fun a x => ?_); (repeat' split) <;> first | (simp; done) | with_reducible rfl)
      | ((try dsimp only); rw [orderPart_foldl] <;> first | (intro a x; (repeat' split) <;> first | (simp; done) | with_reducible rfl) | ((repeat' split) <;> first | (simp; done) | with_reducible rfl)))

@[simp↓] theorem orderPart_marginSeen (s : State) (cls : Nat) (m : F32) : orderPart (State.marginSeen s cls m) = orderPart s := by
  unfold State.marginSeen
  first
  | ((try dsimp only); (repeat' (first | with_reducible rfl | (with_reducible refine (orderPart_foldl _ _ _ (fun _ _ => ?_)).trans ?_) | (simp; done) | split | (rw [orderPart_mk, orderPart_fold]))); done)
  | ((repeat' split) <;> first | (simp; done) | with_reducible rfl)
  | (refine orderPart_foldl _ _ _ (fun a x => ?_); (repeat' split) <;> first | (simp; done) | with_reducible rfl)
  | ((try dsimp only); rw [orderPart_foldl] <;> first | (intro a x; (repeat' split) <;> first | (simp; done) | with_reducible rfl) | ((repeat' split) <;> first | (simp; done) | with_reducible rfl))
  | ((try dsimp only); (repeat' split) <;> first | (simp; done) | with_reducible rfl)
  | ((repeat' (with_reducible refine orderPart_ite ?_ ?_)) <;> first | (simp; done) | with_reducible rfl)
  | ((repeat' split) <;> first
      | (simp; done)
      | with_reducible rfl
      | (refine orderPart_foldl _ _ _ (fun a x => ?_); (repeat' split) <;> first | (simp; done) | with_reducible rfl)
      | ((try dsimp only); rw [orderPart_foldl] <;> first | (intro a x; (repeat' split) <;> first | (simp; done) | with_reducible rfl) | ((repeat' split) <;> first | (simp; done) | with_reducible rfl)))

@[simp↓] theorem orderPart_refreshBounds (s : State) : orderPart (State.refreshBounds s) = orderPart s := by
  unfold State.refreshBounds
  first
  | ((try dsimp only); (repeat' (first | with_reducible rfl | (with_reducible refine (orderPart_foldl _ _ _ (fun _ _ => ?_)).trans ?_) | (simp; done) | split | (rw [orderPart_mk, orderPart_fold]))); done)
  | ((repeat' split) <;> first | (simp; done) | with_reducible rfl)
  | (refine orderPart_foldl _ _ _ (fun a x => ?_); (repeat' split) <;> first | (simp; done) | with_reducible rfl)
  | ((try dsimp only); rw [orderPart_foldl] <;> first | (intro a x; (repeat' split) <;> first | (simp; done) | with_reducible rfl) | ((repeat' split) <;> first | (simp; done) | with_reducible rfl))
  | ((try dsimp only); (repeat' split) <;> first | (simp; done) | with_reducible rfl)
  | ((repeat' (with_reducible refine orderPart_ite ?_ ?_)) <;> first | (simp; done) | with_reducible rfl)
  | ((repeat' split) <;> first
      | (simp; done)
      | with_reducible rfl
      | (refine orderPart_foldl _ _ _ (fun a x => ?_); (repeat' split) <;> first | (simp; done) | with_reducible rfl)
      | ((try dsimp only); rw [orderPart_foldl] <;> first | (intro a x; (repeat' split) <;> first | (simp; done) | with_reducible rfl) | ((repeat' split) <;> first | (simp; done) | with_reducible rfl)))

@[simp↓] theorem orderPart_alarmRaise (s : State) (task : Nat) (c : Nat) (key : U64) (prio : Nat) (v : F32) : orderPart (State.alarmRaise s task c key prio v) = orderPart s := by
  unfold State.alarmRaise
  first
  | ((try dsimp only); (repeat' (first | with_reducible rfl | (with_reducible refine (orderPart_foldl _ _ _ (fun _ _ => ?_)).trans ?_) | (simp; done) | split | (rw [orderPart_mk, orderPart_fold]))); done)
  | ((repeat' split) <;> first | (simp; done) | with_reducible rfl)
  | (refine orderPart_foldl _ _ _ (fun a x => ?_); (repeat' split) <;> first | (simp; done) | with_reducible rfl)
  | ((try dsimp only); rw [orderPart_foldl] <;> first | (intro a x; (repeat' split) <;> first | (simp; done) | with_reducible rfl) | ((repeat' split) <;> first | (simp; done) | with_reducible rfl))
  | ((try dsimp only); (repeat' split) <;> first | (simp; done) | with_reducible rfl)
  | ((repeat' (with_reducible refine orderPart_ite ?_ ?_)) <;> first | (simp; done) | with_reducible rfl)
  | ((repeat' split) <;> first
      | (simp; done)
      | with_reducible rfl
      | (refine orderPart_foldl _ _ _ (fun a x => ?_); (repeat' split) <;> first | (simp; done) | with_reducible rfl)
      | ((try dsimp only); rw [orderPart_foldl] <;> first | (intro a x; (repeat' split) <;> first | (simp; done) | with_reducible rfl) | ((repeat' split) <;> first | (simp; done) | with_reducible rfl)))

@[simp↓] theorem orderPart_alarmClear (s : State) (c : Nat) (key : U64) : orderPart (State.alarmClear s c key) = orderPart s := by
  unfold State.alarmClear
  first
  | ((try dsimp only); (repeat' (first | with_reducible rfl | (with_reducible refine (orderPart_foldl _ _ _ (fun _ _ => ?_)).trans ?_) | (simp; done) | split | (rw [orderPart_mk, orderPart_fold]))); done)
  | ((repeat' split) <;> first | (simp; done) | with_reducible rfl)
  | (refine orderPart_foldl _ _ _ (fun a x => ?_); (repeat' split) <;> first | (simp; done) | with_reducible rfl)
  | ((try dsimp only); rw [orderPart_foldl] <;> first | (intro a x; (repeat' split) <;> first | (simp; done) | with_reducible rfl) | ((repeat' split) <;> first | (simp; done) | with_reducible rfl))
  | ((try dsimp only); (repeat' split) <;> first | (simp; done) | with_reducible rfl)
  | ((repeat' (with_reducible refine orderPart_ite ?_ ?_)) <;> first | (simp; done) | with_reducible rfl)
  | ((repeat' split) <;> first
      | (simp; done)
      | with_reducible rfl
      | (refine orderPart_foldl _ _ _ (fun a x => ?_); (repeat' split) <;> first | (simp; done) | with_reducible rfl)
      | ((try dsimp only); rw [orderPart_foldl] <;> first | (intro a x; (repeat' split) <;> first | (simp; done) | with_reducible rfl) | ((repeat' split) <;> first | (simp; done) | with_reducible rfl)))

@[simp↓] theorem orderPart_publishEff (s : State) (t : Nat) (y : Cycle) (a : BlockEff) : orderPart (State.publishEff s t y a) = orderPart s := by
  unfold State.publishEff
  first
  | ((try dsimp only); (repeat' (first | with_reducible rfl | (with_reducible refine (orderPart_foldl _ _ _ (fun _ _ => ?_)).trans ?_) | (simp; done) | split | (rw [orderPart_mk, orderPart_fold]))); done)
  | ((repeat' split) <;> first | (simp; done) | with_reducible rfl)
  | (refine orderPart_foldl _ _ _ (fun a x => ?_); (repeat' split) <;> first | (simp; done) | with_reducible rfl)
  | ((try dsimp only); rw [orderPart_foldl] <;> first | (intro a x; (repeat' split) <;> first | (simp; done) | with_reducible rfl) | ((repeat' split) <;> first | (simp; done) | with_reducible rfl))
  | ((try dsimp only); (repeat' split) <;> first | (simp; done) | with_reducible rfl)
  | ((repeat' (with_reducible refine orderPart_ite ?_ ?_)) <;> first | (simp; done) | with_reducible rfl)
  | ((repeat' split) <;> first
      | (simp; done)
      | with_reducible rfl
      | (refine orderPart_foldl _ _ _ (fun a x => ?_); (repeat' split) <;> first | (simp; done) | with_reducible rfl)
      | ((try dsimp only); rw [orderPart_foldl] <;> first | (intro a x; (repeat' split) <;> first | (simp; done) | with_reducible rfl) | ((repeat' split) <;> first | (simp; done) | with_reducible rfl)))

@[simp↓] theorem orderPart_abandonCycles (s : State) : orderPart (State.abandonCycles s) = orderPart s := by
  unfold State.abandonCycles
  first
  | ((try dsimp only); (repeat' (first | with_reducible rfl | (with_reducible refine (orderPart_foldl _ _ _ (fun _ _ => ?_)).trans ?_) | (simp; done) | split | (rw [orderPart_mk, orderPart_fold]))); done)
  | ((repeat' split) <;> first | (simp; done) | with_reducible rfl)
  | (refine orderPart_foldl _ _ _ (fun a x => ?_); (repeat' split) <;> first | (simp; done) | with_reducible rfl)
  | ((try dsimp only); rw [orderPart_foldl] <;> first | (intro a x; (repeat' split) <;> first | (simp; done) | with_reducible rfl) | ((repeat' split) <;> first | (simp; done) | with_reducible rfl))
  | ((try dsimp only); (repeat' split) <;> first | (simp; done) | with_reducible rfl)
  | ((repeat' (with_reducible refine orderPart_ite ?_ ?_)) <;> first | (simp; done) | with_reducible rfl)
  | ((repeat' split) <;> first
      | (simp; done)
      | with_reducible rfl
      | (refine orderPart_foldl _ _ _ (fun a x => ?_); (repeat' split) <;> first | (simp; done) | with_reducible rfl)
      | ((try dsimp only); rw [orderPart_foldl] <;> first | (intro a x; (repeat' split) <;> first | (simp; done) | with_reducible rfl) | ((repeat' split) <;> first | (simp; done) | with_reducible rfl)))

@[simp↓] theorem orderPart_putVals (s : State) (l : List (Nat × F32)) : orderPart (State.putVals s l) = orderPart s := by
  unfold State.putVals
  first
  | ((try dsimp only); (repeat' (first | with_reducible rfl | (with_reducible refine (orderPart_foldl _ _ _ (fun _ _ => ?_)).trans ?_) | (simp; done) | split | (rw [orderPart_mk, orderPart_fold]))); done)
  | ((repeat' split) <;> first | (simp; done) | with_reducible rfl)
  | (refine orderPart_foldl _ _ _ (fun a x => ?_); (repeat' split) <;> first | (simp; done) | with_reducible rfl)
  | ((try dsimp only); rw [orderPart_foldl] <;> first | (intro a x; (repeat' split) <;> first | (simp; done) | with_reducible rfl) | ((repeat' split) <;> first | (simp; done) | with_reducible rfl))
  | ((try dsimp only); (repeat' split) <;> first | (simp; done) | with_reducible rfl)
  | ((repeat' (with_reducible refine orderPart_ite ?_ ?_)) <;> first | (simp; done) | with_reducible rfl)
  | ((repeat' split) <;> first
      | (simp; done)
      | with_reducible rfl
      | (refine orderPart_foldl _ _ _ (fun a x => ?_); (repeat' split) <;> first | (simp; done) | with_reducible rfl)
      | ((try dsimp only); rw [orderPart_foldl] <;> first | (intro a x; (repeat' split) <;> first | (simp; done) | with_reducible rfl) | ((repeat' split) <;> first | (simp; done) | with_reducible rfl)))

@[simp↓] theorem orderPart_stopTask (s : State) (p : Program) (t : Nat) : orderPart (State.stopTask s p t) = orderPart s := by
  unfold State.stopTask
  first
  | ((try dsimp only); (repeat' (first | with_reducible rfl | (with_reducible refine (orderPart_foldl _ _ _ (fun _ _ => ?_)).trans ?_) | (simp; done) | split | (rw [orderPart_mk, orderPart_fold]))); done)
  | ((repeat' split) <;> first | (simp; done) | with_reducible rfl)
  | (refine orderPart_foldl _ _ _ (fun a x => ?_); (repeat' split) <;> first | (simp; done) | with_reducible rfl)
  | ((try dsimp only); rw [orderPart_foldl] <;> first | (intro a x; (repeat' split) <;> first | (simp; done) | with_reducible rfl) | ((repeat' split) <;> first | (simp; done) | with_reducible rfl))
  | ((try dsimp only); (repeat' split) <;> first | (simp; done) | with_reducible rfl)
  | ((repeat' (with_reducible refine orderPart_ite ?_ ?_)) <;> first | (simp; done) | with_reducible rfl)
  | ((repeat' split) <;> first
      | (simp; done)
      | with_reducible rfl
      | (refine orderPart_foldl _ _ _ (fun a x => ?_); (repeat' split) <;> first | (simp; done) | with_reducible rfl)
      | ((try dsimp only); rw [orderPart_foldl] <;> first | (intro a x; (repeat' split) <;> first | (simp; done) | with_reducible rfl) | ((repeat' split) <;> first | (simp; done) | with_reducible rfl)))

@[simp↓] theorem orderPart_stopOutputs (s : State) : orderPart (State.stopOutputs s) = orderPart s := by
  unfold State.stopOutputs
  first
  | ((try dsimp only); (repeat' (first | with_reducible rfl | (with_reducible refine (orderPart_foldl _ _ _ (fun _ _ => ?_)).trans ?_) | (simp; done) | split | (rw [orderPart_mk, orderPart_fold]))); done)
  | ((repeat' split) <;> first | (simp; done) | with_reducible rfl)
  | (refine orderPart_foldl _ _ _ (fun a x => ?_); (repeat' split) <;> first | (simp; done) | with_reducible rfl)
  | ((try dsimp only); rw [orderPart_foldl] <;> first | (intro a x; (repeat' split) <;> first | (simp; done) | with_reducible rfl) | ((repeat' split) <;> first | (simp; done) | with_reducible rfl))
  | ((try dsimp only); (repeat' split) <;> first | (simp; done) | with_reducible rfl)
  | ((repeat' (with_reducible refine orderPart_ite ?_ ?_)) <;> first | (simp; done) | with_reducible rfl)
  | ((repeat' split) <;> first
      | (simp; done)
      | with_reducible rfl
      | (refine orderPart_foldl _ _ _ (fun a x => ?_); (repeat' split) <;> first | (simp; done) | with_reducible rfl)
      | ((try dsimp only); rw [orderPart_foldl] <;> first | (intro a x; (repeat' split) <;> first | (simp; done) | with_reducible rfl) | ((repeat' split) <;> first | (simp; done) | with_reducible rfl)))

@[simp↓] theorem orderPart_safeTask (s : State) (p : Program) (t : Nat) : orderPart (State.safeTask s p t) = orderPart s := by
  unfold State.safeTask
  dsimp only
  rw [orderPart_stnExtra]
  refine (orderPart_foldl _ _ _ (fun b x => orderPart_applyPoint _ _ _ _)).trans ?_
  exact (orderPart_setTask _ _ _).trans (orderPart_putVals _ _)

@[simp↓] theorem orderPart_safeOutputs (s : State) : orderPart (State.safeOutputs s) = orderPart s := by
  unfold State.safeOutputs
  first
  | ((try dsimp only); (repeat' (first | with_reducible rfl | (with_reducible refine (orderPart_foldl _ _ _ (fun _ _ => ?_)).trans ?_) | (simp; done) | split | (rw [orderPart_mk, orderPart_fold]))); done)
  | ((repeat' split) <;> first | (simp; done) | with_reducible rfl)
  | (refine orderPart_foldl _ _ _ (fun a x => ?_); (repeat' split) <;> first | (simp; done) | with_reducible rfl)
  | ((try dsimp only); rw [orderPart_foldl] <;> first | (intro a x; (repeat' split) <;> first | (simp; done) | with_reducible rfl) | ((repeat' split) <;> first | (simp; done) | with_reducible rfl))
  | ((try dsimp only); (repeat' split) <;> first | (simp; done) | with_reducible rfl)
  | ((repeat' (with_reducible refine orderPart_ite ?_ ?_)) <;> first | (simp; done) | with_reducible rfl)
  | ((repeat' split) <;> first
      | (simp; done)
      | with_reducible rfl
      | (refine orderPart_foldl _ _ _ (fun a x => ?_); (repeat' split) <;> first | (simp; done) | with_reducible rfl)
      | ((try dsimp only); rw [orderPart_foldl] <;> first | (intro a x; (repeat' split) <;> first | (simp; done) | with_reducible rfl) | ((repeat' split) <;> first | (simp; done) | with_reducible rfl)))

@[simp↓] theorem orderPart_applyCal (s : State) : orderPart (State.applyCal s) = orderPart s := by
  unfold State.applyCal
  first
  | ((try dsimp only); (repeat' (first | with_reducible rfl | (with_reducible refine (orderPart_foldl _ _ _ (fun _ _ => ?_)).trans ?_) | (simp; done) | split | (rw [orderPart_mk, orderPart_fold]))); done)
  | ((repeat' split) <;> first | (simp; done) | with_reducible rfl)
  | (refine orderPart_foldl _ _ _ (fun a x => ?_); (repeat' split) <;> first | (simp; done) | with_reducible rfl)
  | ((try dsimp only); rw [orderPart_foldl] <;> first | (intro a x; (repeat' split) <;> first | (simp; done) | with_reducible rfl) | ((repeat' split) <;> first | (simp; done) | with_reducible rfl))
  | ((try dsimp only); (repeat' split) <;> first | (simp; done) | with_reducible rfl)
  | ((repeat' (with_reducible refine orderPart_ite ?_ ?_)) <;> first | (simp; done) | with_reducible rfl)
  | ((repeat' split) <;> first
      | (simp; done)
      | with_reducible rfl
      | (refine orderPart_foldl _ _ _ (fun a x => ?_); (repeat' split) <;> first | (simp; done) | with_reducible rfl)
      | ((try dsimp only); rw [orderPart_foldl] <;> first | (intro a x; (repeat' split) <;> first | (simp; done) | with_reducible rfl) | ((repeat' split) <;> first | (simp; done) | with_reducible rfl)))

@[simp↓] theorem orderPart_flipCal (s : State) (old : Option NetModel) (m : NetModel) (keep : Bool) : orderPart (State.flipCal s old m keep) = orderPart s := by
  unfold State.flipCal
  first
  | ((try dsimp only); (repeat' (first | with_reducible rfl | (with_reducible refine (orderPart_foldl _ _ _ (fun _ _ => ?_)).trans ?_) | (simp; done) | split | (rw [orderPart_mk, orderPart_fold]))); done)
  | ((repeat' split) <;> first | (simp; done) | with_reducible rfl)
  | (refine orderPart_foldl _ _ _ (fun a x => ?_); (repeat' split) <;> first | (simp; done) | with_reducible rfl)
  | ((try dsimp only); rw [orderPart_foldl] <;> first | (intro a x; (repeat' split) <;> first | (simp; done) | with_reducible rfl) | ((repeat' split) <;> first | (simp; done) | with_reducible rfl))
  | ((try dsimp only); (repeat' split) <;> first | (simp; done) | with_reducible rfl)
  | ((repeat' (with_reducible refine orderPart_ite ?_ ?_)) <;> first | (simp; done) | with_reducible rfl)
  | ((repeat' split) <;> first
      | (simp; done)
      | with_reducible rfl
      | (refine orderPart_foldl _ _ _ (fun a x => ?_); (repeat' split) <;> first | (simp; done) | with_reducible rfl)
      | ((try dsimp only); rw [orderPart_foldl] <;> first | (intro a x; (repeat' split) <;> first | (simp; done) | with_reducible rfl) | ((repeat' split) <;> first | (simp; done) | with_reducible rfl)))

@[simp↓] theorem orderPart_refreshPeriod (s : State) : orderPart (State.refreshPeriod s) = orderPart s := by
  have key : ∀ (f : State → PercSt), orderPart { s with perc := f s } = orderPart s := fun _ => rfl
  unfold State.refreshPeriod
  split
  · exact key (fun s => { s.perc with effPeriodMs := _, periodRaised := false })
  · dsimp only
    split
    · exact key (fun s => { s.perc with effPeriodMs := _, periodRaised := false })
    · generalize percTime _ _ _ = n
      generalize (n + 79999999) / 80000000 * 100 = m
      exact key (fun s => { s.perc with effPeriodMs := m, periodRaised := true })

@[simp↓] theorem orderPart_flipPerc (s : State) (old : Option NetModel) (m : NetModel) : orderPart (State.flipPerc s old m) = orderPart s := by
  have key : ∀ (w : State) f g, orderPart { w with perc.mappingDue := f, perc.mapFrom := g } = orderPart w := fun _ _ _ => rfl
  have key2 : ∀ (w : State) f g, orderPart { w with perc.measDropped := f, perc.state := g } = orderPart w := fun _ _ _ => rfl
  unfold State.flipPerc
  refine (key _ _ _).trans ?_
  refine (orderPart_refreshPeriod _).trans ?_
  refine (key2 _ _ _).trans ?_
  exact orderPart_foldl _ _ _ (fun _ _ => orderPart_setPv _ _ _ _)

@[simp↓] theorem orderPart_countOutcome (s : State) (outcome : Nat) : orderPart (State.countOutcome s outcome) = orderPart s := by
  unfold State.countOutcome
  first
  | ((try dsimp only); (repeat' (first | with_reducible rfl | (with_reducible refine (orderPart_foldl _ _ _ (fun _ _ => ?_)).trans ?_) | (simp; done) | split | (rw [orderPart_mk, orderPart_fold]))); done)
  | ((repeat' split) <;> first | (simp; done) | with_reducible rfl)
  | (refine orderPart_foldl _ _ _ (fun a x => ?_); (repeat' split) <;> first | (simp; done) | with_reducible rfl)
  | ((try dsimp only); rw [orderPart_foldl] <;> first | (intro a x; (repeat' split) <;> first | (simp; done) | with_reducible rfl) | ((repeat' split) <;> first | (simp; done) | with_reducible rfl))
  | ((try dsimp only); (repeat' split) <;> first | (simp; done) | with_reducible rfl)
  | ((repeat' (with_reducible refine orderPart_ite ?_ ?_)) <;> first | (simp; done) | with_reducible rfl)
  | ((repeat' split) <;> first
      | (simp; done)
      | with_reducible rfl
      | (refine orderPart_foldl _ _ _ (fun a x => ?_); (repeat' split) <;> first | (simp; done) | with_reducible rfl)
      | ((try dsimp only); rw [orderPart_foldl] <;> first | (intro a x; (repeat' split) <;> first | (simp; done) | with_reducible rfl) | ((repeat' split) <;> first | (simp; done) | with_reducible rfl)))

@[simp↓] theorem orderPart_endFlexWaits (s : State) (x : StagedPlan) (outcome : Nat) : orderPart (State.endFlexWaits s x outcome) = orderPart s := by
  unfold State.endFlexWaits
  first
  | ((try dsimp only); (repeat' (first | with_reducible rfl | (with_reducible refine (orderPart_foldl _ _ _ (fun _ _ => ?_)).trans ?_) | (simp; done) | split | (rw [orderPart_mk, orderPart_fold]))); done)
  | ((repeat' split) <;> first | (simp; done) | with_reducible rfl)
  | (refine orderPart_foldl _ _ _ (fun a x => ?_); (repeat' split) <;> first | (simp; done) | with_reducible rfl)
  | ((try dsimp only); rw [orderPart_foldl] <;> first | (intro a x; (repeat' split) <;> first | (simp; done) | with_reducible rfl) | ((repeat' split) <;> first | (simp; done) | with_reducible rfl))
  | ((try dsimp only); (repeat' split) <;> first | (simp; done) | with_reducible rfl)
  | ((repeat' (with_reducible refine orderPart_ite ?_ ?_)) <;> first | (simp; done) | with_reducible rfl)
  | ((repeat' split) <;> first
      | (simp; done)
      | with_reducible rfl
      | (refine orderPart_foldl _ _ _ (fun a x => ?_); (repeat' split) <;> first | (simp; done) | with_reducible rfl)
      | ((try dsimp only); rw [orderPart_foldl] <;> first | (intro a x; (repeat' split) <;> first | (simp; done) | with_reducible rfl) | ((repeat' split) <;> first | (simp; done) | with_reducible rfl)))

@[simp↓] theorem orderPart_endActivation (s : State) (status : Nat) (code : Nat) : orderPart (State.endActivation s status code) = orderPart s := by
  unfold State.endActivation
  first
  | ((try dsimp only); (repeat' (first | with_reducible rfl | (with_reducible refine (orderPart_foldl _ _ _ (fun _ _ => ?_)).trans ?_) | (simp; done) | split | (rw [orderPart_mk, orderPart_fold]))); done)
  | ((repeat' split) <;> first | (simp; done) | with_reducible rfl)
  | (refine orderPart_foldl _ _ _ (fun a x => ?_); (repeat' split) <;> first | (simp; done) | with_reducible rfl)
  | ((try dsimp only); rw [orderPart_foldl] <;> first | (intro a x; (repeat' split) <;> first | (simp; done) | with_reducible rfl) | ((repeat' split) <;> first | (simp; done) | with_reducible rfl))
  | ((try dsimp only); (repeat' split) <;> first | (simp; done) | with_reducible rfl)
  | ((repeat' (with_reducible refine orderPart_ite ?_ ?_)) <;> first | (simp; done) | with_reducible rfl)
  | ((repeat' split) <;> first
      | (simp; done)
      | with_reducible rfl
      | (refine orderPart_foldl _ _ _ (fun a x => ?_); (repeat' split) <;> first | (simp; done) | with_reducible rfl)
      | ((try dsimp only); rw [orderPart_foldl] <;> first | (intro a x; (repeat' split) <;> first | (simp; done) | with_reducible rfl) | ((repeat' split) <;> first | (simp; done) | with_reducible rfl)))

@[simp↓] theorem orderPart_endPlan (s : State) (x : StagedPlan) (outcome : Nat) : orderPart (State.endPlan s x outcome) = orderPart s := by
  unfold State.endPlan
  first
  | ((try dsimp only); (repeat' (first | with_reducible rfl | (with_reducible refine (orderPart_foldl _ _ _ (fun _ _ => ?_)).trans ?_) | (simp; done) | split | (rw [orderPart_mk, orderPart_fold]))); done)
  | ((repeat' split) <;> first | (simp; done) | with_reducible rfl)
  | (refine orderPart_foldl _ _ _ (fun a x => ?_); (repeat' split) <;> first | (simp; done) | with_reducible rfl)
  | ((try dsimp only); rw [orderPart_foldl] <;> first | (intro a x; (repeat' split) <;> first | (simp; done) | with_reducible rfl) | ((repeat' split) <;> first | (simp; done) | with_reducible rfl))
  | ((try dsimp only); (repeat' split) <;> first | (simp; done) | with_reducible rfl)
  | ((repeat' (with_reducible refine orderPart_ite ?_ ?_)) <;> first | (simp; done) | with_reducible rfl)
  | ((repeat' split) <;> first
      | (simp; done)
      | with_reducible rfl
      | (refine orderPart_foldl _ _ _ (fun a x => ?_); (repeat' split) <;> first | (simp; done) | with_reducible rfl)
      | ((try dsimp only); rw [orderPart_foldl] <;> first | (intro a x; (repeat' split) <;> first | (simp; done) | with_reducible rfl) | ((repeat' split) <;> first | (simp; done) | with_reducible rfl)))

@[simp↓] theorem orderPart_discardPlans (s : State) (f : StagedPlan → Bool) (outcome : Nat) : orderPart (State.discardPlans s f outcome) = orderPart s := by
  unfold State.discardPlans
  first
  | ((try dsimp only); (repeat' (first | with_reducible rfl | (with_reducible refine (orderPart_foldl _ _ _ (fun _ _ => ?_)).trans ?_) | (simp; done) | split | (rw [orderPart_mk, orderPart_fold]))); done)
  | ((repeat' split) <;> first | (simp; done) | with_reducible rfl)
  | (refine orderPart_foldl _ _ _ (fun a x => ?_); (repeat' split) <;> first | (simp; done) | with_reducible rfl)
  | ((try dsimp only); rw [orderPart_foldl] <;> first | (intro a x; (repeat' split) <;> first | (simp; done) | with_reducible rfl) | ((repeat' split) <;> first | (simp; done) | with_reducible rfl))
  | ((try dsimp only); (repeat' split) <;> first | (simp; done) | with_reducible rfl)
  | ((repeat' (with_reducible refine orderPart_ite ?_ ?_)) <;> first | (simp; done) | with_reducible rfl)
  | ((repeat' split) <;> first
      | (simp; done)
      | with_reducible rfl
      | (refine orderPart_foldl _ _ _ (fun a x => ?_); (repeat' split) <;> first | (simp; done) | with_reducible rfl)
      | ((try dsimp only); rw [orderPart_foldl] <;> first | (intro a x; (repeat' split) <;> first | (simp; done) | with_reducible rfl) | ((repeat' split) <;> first | (simp; done) | with_reducible rfl)))

@[simp↓] theorem orderPart_applyService (s : State) (start : Nat) : orderPart (State.applyService s start) = orderPart s := by
  unfold State.applyService
  first
  | ((try dsimp only); (repeat' (first | with_reducible rfl | (with_reducible refine (orderPart_foldl _ _ _ (fun _ _ => ?_)).trans ?_) | (simp; done) | split | (rw [orderPart_mk, orderPart_fold]))); done)
  | ((repeat' split) <;> first | (simp; done) | with_reducible rfl)
  | (refine orderPart_foldl _ _ _ (fun a x => ?_); (repeat' split) <;> first | (simp; done) | with_reducible rfl)
  | ((try dsimp only); rw [orderPart_foldl] <;> first | (intro a x; (repeat' split) <;> first | (simp; done) | with_reducible rfl) | ((repeat' split) <;> first | (simp; done) | with_reducible rfl))
  | ((try dsimp only); (repeat' split) <;> first | (simp; done) | with_reducible rfl)
  | ((repeat' (with_reducible refine orderPart_ite ?_ ?_)) <;> first | (simp; done) | with_reducible rfl)
  | ((repeat' split) <;> first
      | (simp; done)
      | with_reducible rfl
      | (refine orderPart_foldl _ _ _ (fun a x => ?_); (repeat' split) <;> first | (simp; done) | with_reducible rfl)
      | ((try dsimp only); rw [orderPart_foldl] <;> first | (intro a x; (repeat' split) <;> first | (simp; done) | with_reducible rfl) | ((repeat' split) <;> first | (simp; done) | with_reducible rfl)))

@[simp↓] theorem orderPart_flipModel (s : State) : orderPart (State.flipModel s) = orderPart s := by
  unfold State.flipModel
  first
  | ((try dsimp only); (repeat' (first | with_reducible rfl | (with_reducible refine (orderPart_foldl _ _ _ (fun _ _ => ?_)).trans ?_) | (simp; done) | split | (rw [orderPart_mk, orderPart_fold]))); done)
  | ((repeat' split) <;> first | (simp; done) | with_reducible rfl)
  | (refine orderPart_foldl _ _ _ (fun a x => ?_); (repeat' split) <;> first | (simp; done) | with_reducible rfl)
  | ((try dsimp only); rw [orderPart_foldl] <;> first | (intro a x; (repeat' split) <;> first | (simp; done) | with_reducible rfl) | ((repeat' split) <;> first | (simp; done) | with_reducible rfl))
  | ((try dsimp only); (repeat' split) <;> first | (simp; done) | with_reducible rfl)
  | ((repeat' (with_reducible refine orderPart_ite ?_ ?_)) <;> first | (simp; done) | with_reducible rfl)
  | ((repeat' split) <;> first
      | (simp; done)
      | with_reducible rfl
      | (refine orderPart_foldl _ _ _ (fun a x => ?_); (repeat' split) <;> first | (simp; done) | with_reducible rfl)
      | ((try dsimp only); rw [orderPart_foldl] <;> first | (intro a x; (repeat' split) <;> first | (simp; done) | with_reducible rfl) | ((repeat' split) <;> first | (simp; done) | with_reducible rfl)))

@[simp↓] theorem orderPart_takePlan (s : State) (x : StagedPlan) : orderPart (State.takePlan s x) = orderPart s := by
  unfold State.takePlan
  first
  | ((try dsimp only); (repeat' (first | with_reducible rfl | (with_reducible refine (orderPart_foldl _ _ _ (fun _ _ => ?_)).trans ?_) | (simp; done) | split | (rw [orderPart_mk, orderPart_fold]))); done)
  | ((repeat' split) <;> first | (simp; done) | with_reducible rfl)
  | (refine orderPart_foldl _ _ _ (fun a x => ?_); (repeat' split) <;> first | (simp; done) | with_reducible rfl)
  | ((try dsimp only); rw [orderPart_foldl] <;> first | (intro a x; (repeat' split) <;> first | (simp; done) | with_reducible rfl) | ((repeat' split) <;> first | (simp; done) | with_reducible rfl))
  | ((try dsimp only); (repeat' split) <;> first | (simp; done) | with_reducible rfl)
  | ((repeat' (with_reducible refine orderPart_ite ?_ ?_)) <;> first | (simp; done) | with_reducible rfl)
  | ((repeat' split) <;> first
      | (simp; done)
      | with_reducible rfl
      | (refine orderPart_foldl _ _ _ (fun a x => ?_); (repeat' split) <;> first | (simp; done) | with_reducible rfl)
      | ((try dsimp only); rw [orderPart_foldl] <;> first | (intro a x; (repeat' split) <;> first | (simp; done) | with_reducible rfl) | ((repeat' split) <;> first | (simp; done) | with_reducible rfl)))

@[simp↓] theorem orderPart_judgePlans (s : State) : orderPart (State.judgePlans s) = orderPart s := by
  unfold State.judgePlans
  first
  | ((try dsimp only); (repeat' (first | with_reducible rfl | (with_reducible refine (orderPart_foldl _ _ _ (fun _ _ => ?_)).trans ?_) | (simp; done) | split | (rw [orderPart_mk, orderPart_fold]))); done)
  | ((repeat' split) <;> first | (simp; done) | with_reducible rfl)
  | (refine orderPart_foldl _ _ _ (fun a x => ?_); (repeat' split) <;> first | (simp; done) | with_reducible rfl)
  | ((try dsimp only); rw [orderPart_foldl] <;> first | (intro a x; (repeat' split) <;> first | (simp; done) | with_reducible rfl) | ((repeat' split) <;> first | (simp; done) | with_reducible rfl))
  | ((try dsimp only); (repeat' split) <;> first | (simp; done) | with_reducible rfl)
  | ((repeat' (with_reducible refine orderPart_ite ?_ ?_)) <;> first | (simp; done) | with_reducible rfl)
  | ((repeat' split) <;> first
      | (simp; done)
      | with_reducible rfl
      | (refine orderPart_foldl _ _ _ (fun a x => ?_); (repeat' split) <;> first | (simp; done) | with_reducible rfl)
      | ((try dsimp only); rw [orderPart_foldl] <;> first | (intro a x; (repeat' split) <;> first | (simp; done) | with_reducible rfl) | ((repeat' split) <;> first | (simp; done) | with_reducible rfl)))

/-- The parts `lane`, `perc`, `epoch`. -/
def lanePart (s : State) := (s.lane, s.perc, s.epoch)

@[simp] theorem lanePart_fold (s : State) : (s.lane, s.perc, s.epoch) = lanePart s := rfl

@[simp↓] theorem lanePart_mk (epoch order ident host par lane prog model slv perc afe fed stn pts fio can net time key aud pair pwr rst drip past edge latch pending out free) : lanePart (State.mk epoch order ident host par lane prog model slv perc afe fed stn pts fio can net time key aud pair pwr rst drip past edge latch pending out free) = (lane, perc, epoch) := rfl

theorem lanePart_silent {s t : State} (h : Silent s t) : lanePart t = lanePart s := by rw [h.rest]; rfl

theorem lanePart_ite {c : Prop} [Decidable c] {a b s : State} (ha : lanePart a = lanePart s) (hb : lanePart b = lanePart s) :
    lanePart (if c then a else b) = lanePart s := by
  split <;> assumption

theorem lanePart_foldl {α : Type} (l : List α) (f : State → α → State) (s : State) (h : ∀ a x, lanePart (f a x) = lanePart a) :
    lanePart (l.foldl f s) = lanePart s := by
  induction l generalizing s with
  | nil => rfl
  | cons x l ih => exact (ih _).trans (h s x)

@[simp↓] theorem lanePart_emit (s : State) (m : OutMsg) : lanePart (State.emit s m) = lanePart s := by
  exact lanePart_silent (silent_emit _ _)

@[simp↓] theorem lanePart_sendMsix (s : State) (v : Nat) : lanePart (State.sendMsix s v) = lanePart s := by
  exact lanePart_silent (silent_sendMsix _ _)

@[simp↓] theorem lanePart_setQueue (s : State) (n : Nat) (q : QPair) : lanePart (State.setQueue s n q) = lanePart s := by
  unfold State.setQueue
  first
  | ((try dsimp only); (repeat' (first | with_reducible rfl | (with_reducible refine (lanePart_foldl _ _ _ (fun _ _ => ?_)).trans ?_) | (simp; done) | split | (rw [lanePart_mk, lanePart_fold]))); done)
  | ((repeat' split) <;> first | (simp; done) | with_reducible rfl)
  | (refine lanePart_foldl _ _ _ (fun a x => ?_); (repeat' split) <;> first | (simp; done) | with_reducible rfl)
  | ((try dsimp only); rw [lanePart_foldl] <;> first | (intro a x; (repeat' split) <;> first | (simp; done) | with_reducible rfl) | ((repeat' split) <;> first | (simp; done) | with_reducible rfl))
  | ((try dsimp only); (repeat' split) <;> first | (simp; done) | with_reducible rfl)
  | ((repeat' (with_reducible refine lanePart_ite ?_ ?_)) <;> first | (simp; done) | with_reducible rfl)
  | ((repeat' split) <;> first
      | (simp; done)
      | with_reducible rfl
      | (refine lanePart_foldl _ _ _ (fun a x => ?_); (repeat' split) <;> first | (simp; done) | with_reducible rfl)
      | ((try dsimp only); rw [lanePart_foldl] <;> first | (intro a x; (repeat' split) <;> first | (simp; done) | with_reducible rfl) | ((repeat' split) <;> first | (simp; done) | with_reducible rfl)))

@[simp↓] theorem lanePart_auditPush (s : State) (r : AuditRec) : lanePart (State.auditPush s r) = lanePart s := by
  exact lanePart_silent (silent_auditPush _ _)

@[simp↓] theorem lanePart_auditDev (s : State) (kind : Nat) (opcode : Nat) (status : Nat) (subject : Nat) (data : List Byte) : lanePart (State.auditDev s kind opcode status subject data) = lanePart s := by
  exact lanePart_silent (silent_auditPush _ _)

@[simp↓] theorem lanePart_auditApplied (s : State) (subject : Nat) : lanePart (State.auditApplied s subject) = lanePart s := by
  unfold State.auditApplied
  first
  | ((try dsimp only); (repeat' (first | with_reducible rfl | (with_reducible refine (lanePart_foldl _ _ _ (fun _ _ => ?_)).trans ?_) | (simp; done) | split | (rw [lanePart_mk, lanePart_fold]))); done)
  | ((repeat' split) <;> first | (simp; done) | with_reducible rfl)
  | (refine lanePart_foldl _ _ _ (fun a x => ?_); (repeat' split) <;> first | (simp; done) | with_reducible rfl)
  | ((try dsimp only); rw [lanePart_foldl] <;> first | (intro a x; (repeat' split) <;> first | (simp; done) | with_reducible rfl) | ((repeat' split) <;> first | (simp; done) | with_reducible rfl))
  | ((try dsimp only); (repeat' split) <;> first | (simp; done) | with_reducible rfl)
  | ((repeat' (with_reducible refine lanePart_ite ?_ ?_)) <;> first | (simp; done) | with_reducible rfl)
  | ((repeat' split) <;> first
      | (simp; done)
      | with_reducible rfl
      | (refine lanePart_foldl _ _ _ (fun a x => ?_); (repeat' split) <;> first | (simp; done) | with_reducible rfl)
      | ((try dsimp only); rw [lanePart_foldl] <;> first | (intro a x; (repeat' split) <;> first | (simp; done) | with_reducible rfl) | ((repeat' split) <;> first | (simp; done) | with_reducible rfl)))

@[simp↓] theorem lanePart_postQueue (s : State) (n : Nat) (e : Entry) (data : List Byte) : lanePart (State.postQueue s n e data).1 = lanePart s := by
  exact lanePart_silent (silent_postQueue _ _ _ _)

@[simp↓] theorem lanePart_post (s : State) (dst : Src) (e : Entry) (data : List Byte) : lanePart (State.post s dst e data).1 = lanePart s := by
  exact lanePart_silent (silent_post _ _ _ _)

@[simp↓] theorem lanePart_event (s : State) (code : Nat) (status : Nat) (data : List Byte) : lanePart (State.event s code status data) = lanePart s := by
  exact lanePart_silent (silent_event _ _ _ _)

@[simp↓] theorem lanePart_condition (s : State) (status : Nat) (data : List Byte) : lanePart (State.condition s status data) = lanePart s := by
  exact lanePart_silent (silent_condition _ _ _)

@[simp↓] theorem lanePart_freeHandle (s : State) (i : Nat) : lanePart (State.freeHandle s i) = lanePart s := by
  unfold State.freeHandle
  first
  | ((try dsimp only); (repeat' (first | with_reducible rfl | (with_reducible refine (lanePart_foldl _ _ _ (fun _ _ => ?_)).trans ?_) | (simp; done) | split | (rw [lanePart_mk, lanePart_fold]))); done)
  | ((repeat' split) <;> first | (simp; done) | with_reducible rfl)
  | (refine lanePart_foldl _ _ _ (fun a x => ?_); (repeat' split) <;> first | (simp; done) | with_reducible rfl)
  | ((try dsimp only); rw [lanePart_foldl] <;> first | (intro a x; (repeat' split) <;> first | (simp; done) | with_reducible rfl) | ((repeat' split) <;> first | (simp; done) | with_reducible rfl))
  | ((try dsimp only); (repeat' split) <;> first | (simp; done) | with_reducible rfl)
  | ((repeat' (with_reducible refine lanePart_ite ?_ ?_)) <;> first | (simp; done) | with_reducible rfl)
  | ((repeat' split) <;> first
      | (simp; done)
      | with_reducible rfl
      | (refine lanePart_foldl _ _ _ (fun a x => ?_); (repeat' split) <;> first | (simp; done) | with_reducible rfl)
      | ((try dsimp only); rw [lanePart_foldl] <;> first | (intro a x; (repeat' split) <;> first | (simp; done) | with_reducible rfl) | ((repeat' split) <;> first | (simp; done) | with_reducible rfl)))

@[simp↓] theorem lanePart_complete (s : State) (h : U32) (status : Nat) (detail : Nat) (data : List Byte) : lanePart (State.complete s h status detail data) = lanePart s := by
  unfold State.complete
  first
  | ((try dsimp only); (repeat' (first | with_reducible rfl | (with_reducible refine (lanePart_foldl _ _ _ (fun _ _ => ?_)).trans ?_) | (simp; done) | split | (rw [lanePart_mk, lanePart_fold]))); done)
  | ((repeat' split) <;> first | (simp; done) | with_reducible rfl)
  | (refine lanePart_foldl _ _ _ (fun a x => ?_); (repeat' split) <;> first | (simp; done) | with_reducible rfl)
  | ((try dsimp only); rw [lanePart_foldl] <;> first | (intro a x; (repeat' split) <;> first | (simp; done) | with_reducible rfl) | ((repeat' split) <;> first | (simp; done) | with_reducible rfl))
  | ((try dsimp only); (repeat' split) <;> first | (simp; done) | with_reducible rfl)
  | ((repeat' (with_reducible refine lanePart_ite ?_ ?_)) <;> first | (simp; done) | with_reducible rfl)
  | ((repeat' split) <;> first
      | (simp; done)
      | with_reducible rfl
      | (refine lanePart_foldl _ _ _ (fun a x => ?_); (repeat' split) <;> first | (simp; done) | with_reducible rfl)
      | ((try dsimp only); rw [lanePart_foldl] <;> first | (intro a x; (repeat' split) <;> first | (simp; done) | with_reducible rfl) | ((repeat' split) <;> first | (simp; done) | with_reducible rfl)))

@[simp↓] theorem lanePart_setPt (s : State) (p : Nat) (v : Point) : lanePart (State.setPt s p v) = lanePart s := by
  unfold State.setPt
  first
  | ((try dsimp only); (repeat' (first | with_reducible rfl | (with_reducible refine (lanePart_foldl _ _ _ (fun _ _ => ?_)).trans ?_) | (simp; done) | split | (rw [lanePart_mk, lanePart_fold]))); done)
  | ((repeat' split) <;> first | (simp; done) | with_reducible rfl)
  | (refine lanePart_foldl _ _ _ (fun a x => ?_); (repeat' split) <;> first | (simp; done) | with_reducible rfl)
  | ((try dsimp only); rw [lanePart_foldl] <;> first | (intro a x; (repeat' split) <;> first | (simp; done) | with_reducible rfl) | ((repeat' split) <;> first | (simp; done) | with_reducible rfl))
  | ((try dsimp only); (repeat' split) <;> first | (simp; done) | with_reducible rfl)
  | ((repeat' (with_reducible refine lanePart_ite ?_ ?_)) <;> first | (simp; done) | with_reducible rfl)
  | ((repeat' split) <;> first
      | (simp; done)
      | with_reducible rfl
      | (refine lanePart_foldl _ _ _ (fun a x => ?_); (repeat' split) <;> first | (simp; done) | with_reducible rfl)
      | ((try dsimp only); rw [lanePart_foldl] <;> first | (intro a x; (repeat' split) <;> first | (simp; done) | with_reducible rfl) | ((repeat' split) <;> first | (simp; done) | with_reducible rfl)))

@[simp↓] theorem lanePart_closeEdge (s : State) : lanePart (State.closeEdge s) = lanePart s := by
  unfold State.closeEdge
  first
  | ((try dsimp only); (repeat' (first | with_reducible rfl | (with_reducible refine (lanePart_foldl _ _ _ (fun _ _ => ?_)).trans ?_) | (simp; done) | split | (rw [lanePart_mk, lanePart_fold]))); done)
  | ((repeat' split) <;> first | (simp; done) | with_reducible rfl)
  | (refine lanePart_foldl _ _ _ (fun a x => ?_); (repeat' split) <;> first | (simp; done) | with_reducible rfl)
  | ((try dsimp only); rw [lanePart_foldl] <;> first | (intro a x; (repeat' split) <;> first | (simp; done) | with_reducible rfl) | ((repeat' split) <;> first | (simp; done) | with_reducible rfl))
  | ((try dsimp only); (repeat' split) <;> first | (simp; done) | with_reducible rfl)
  | ((repeat' (with_reducible refine lanePart_ite ?_ ?_)) <;> first | (simp; done) | with_reducible rfl)
  | ((repeat' split) <;> first
      | (simp; done)
      | with_reducible rfl
      | (refine lanePart_foldl _ _ _ (fun a x => ?_); (repeat' split) <;> first | (simp; done) | with_reducible rfl)
      | ((try dsimp only); rw [lanePart_foldl] <;> first | (intro a x; (repeat' split) <;> first | (simp; done) | with_reducible rfl) | ((repeat' split) <;> first | (simp; done) | with_reducible rfl)))

@[simp↓] theorem lanePart_setFio (s : State) (c : Nat) (v : FioCh) : lanePart (State.setFio s c v) = lanePart s := by
  unfold State.setFio
  first
  | ((try dsimp only); (repeat' (first | with_reducible rfl | (with_reducible refine (lanePart_foldl _ _ _ (fun _ _ => ?_)).trans ?_) | (simp; done) | split | (rw [lanePart_mk, lanePart_fold]))); done)
  | ((repeat' split) <;> first | (simp; done) | with_reducible rfl)
  | (refine lanePart_foldl _ _ _ (fun a x => ?_); (repeat' split) <;> first | (simp; done) | with_reducible rfl)
  | ((try dsimp only); rw [lanePart_foldl] <;> first | (intro a x; (repeat' split) <;> first | (simp; done) | with_reducible rfl) | ((repeat' split) <;> first | (simp; done) | with_reducible rfl))
  | ((try dsimp only); (repeat' split) <;> first | (simp; done) | with_reducible rfl)
  | ((repeat' (with_reducible refine lanePart_ite ?_ ?_)) <;> first | (simp; done) | with_reducible rfl)
  | ((repeat' split) <;> first
      | (simp; done)
      | with_reducible rfl
      | (refine lanePart_foldl _ _ _ (fun a x => ?_); (repeat' split) <;> first | (simp; done) | with_reducible rfl)
      | ((try dsimp only); rw [lanePart_foldl] <;> first | (intro a x; (repeat' split) <;> first | (simp; done) | with_reducible rfl) | ((repeat' split) <;> first | (simp; done) | with_reducible rfl)))

@[simp↓] theorem lanePart_setAout (s : State) (a : Nat) (v : AoutCh) : lanePart (State.setAout s a v) = lanePart s := by
  unfold State.setAout
  first
  | ((try dsimp only); (repeat' (first | with_reducible rfl | (with_reducible refine (lanePart_foldl _ _ _ (fun _ _ => ?_)).trans ?_) | (simp; done) | split | (rw [lanePart_mk, lanePart_fold]))); done)
  | ((repeat' split) <;> first | (simp; done) | with_reducible rfl)
  | (refine lanePart_foldl _ _ _ (fun a x => ?_); (repeat' split) <;> first | (simp; done) | with_reducible rfl)
  | ((try dsimp only); rw [lanePart_foldl] <;> first | (intro a x; (repeat' split) <;> first | (simp; done) | with_reducible rfl) | ((repeat' split) <;> first | (simp; done) | with_reducible rfl))
  | ((try dsimp only); (repeat' split) <;> first | (simp; done) | with_reducible rfl)
  | ((repeat' (with_reducible refine lanePart_ite ?_ ?_)) <;> first | (simp; done) | with_reducible rfl)
  | ((repeat' split) <;> first
      | (simp; done)
      | with_reducible rfl
      | (refine lanePart_foldl _ _ _ (fun a x => ?_); (repeat' split) <;> first | (simp; done) | with_reducible rfl)
      | ((try dsimp only); rw [lanePart_foldl] <;> first | (intro a x; (repeat' split) <;> first | (simp; done) | with_reducible rfl) | ((repeat' split) <;> first | (simp; done) | with_reducible rfl)))

@[simp↓] theorem lanePart_driveCh (s : State) (c : Nat) : lanePart (State.driveCh s c) = lanePart s := by
  unfold State.driveCh
  first
  | ((try dsimp only); (repeat' (first | with_reducible rfl | (with_reducible refine (lanePart_foldl _ _ _ (fun _ _ => ?_)).trans ?_) | (simp; done) | split | (rw [lanePart_mk, lanePart_fold]))); done)
  | ((repeat' split) <;> first | (simp; done) | with_reducible rfl)
  | (refine lanePart_foldl _ _ _ (fun a x => ?_); (repeat' split) <;> first | (simp; done) | with_reducible rfl)
  | ((try dsimp only); rw [lanePart_foldl] <;> first | (intro a x; (repeat' split) <;> first | (simp; done) | with_reducible rfl) | ((repeat' split) <;> first | (simp; done) | with_reducible rfl))
  | ((try dsimp only); (repeat' split) <;> first | (simp; done) | with_reducible rfl)
  | ((repeat' (with_reducible refine lanePart_ite ?_ ?_)) <;> first | (simp; done) | with_reducible rfl)
  | ((repeat' split) <;> first
      | (simp; done)
      | with_reducible rfl
      | (refine lanePart_foldl _ _ _ (fun a x => ?_); (repeat' split) <;> first | (simp; done) | with_reducible rfl)
      | ((try dsimp only); rw [lanePart_foldl] <;> first | (intro a x; (repeat' split) <;> first | (simp; done) | with_reducible rfl) | ((repeat' split) <;> first | (simp; done) | with_reducible rfl)))

@[simp↓] theorem lanePart_driveAout (s : State) (a : Nat) : lanePart (State.driveAout s a) = lanePart s := by
  unfold State.driveAout
  first
  | ((try dsimp only); (repeat' (first | with_reducible rfl | (with_reducible refine (lanePart_foldl _ _ _ (fun _ _ => ?_)).trans ?_) | (simp; done) | split | (rw [lanePart_mk, lanePart_fold]))); done)
  | ((repeat' split) <;> first | (simp; done) | with_reducible rfl)
  | (refine lanePart_foldl _ _ _ (fun a x => ?_); (repeat' split) <;> first | (simp; done) | with_reducible rfl)
  | ((try dsimp only); rw [lanePart_foldl] <;> first | (intro a x; (repeat' split) <;> first | (simp; done) | with_reducible rfl) | ((repeat' split) <;> first | (simp; done) | with_reducible rfl))
  | ((try dsimp only); (repeat' split) <;> first | (simp; done) | with_reducible rfl)
  | ((repeat' (with_reducible refine lanePart_ite ?_ ?_)) <;> first | (simp; done) | with_reducible rfl)
  | ((repeat' split) <;> first
      | (simp; done)
      | with_reducible rfl
      | (refine lanePart_foldl _ _ _ (fun a x => ?_); (repeat' split) <;> first | (simp; done) | with_reducible rfl)
      | ((try dsimp only); rw [lanePart_foldl] <;> first | (intro a x; (repeat' split) <;> first | (simp; done) | with_reducible rfl) | ((repeat' split) <;> first | (simp; done) | with_reducible rfl)))

@[simp↓] theorem lanePart_applyCh (s : State) (c : Nat) (v : F32) (a : Nat) : lanePart (State.applyCh s c v a) = lanePart s := by
  unfold State.applyCh
  first
  | ((try dsimp only); (repeat' (first | with_reducible rfl | (with_reducible refine (lanePart_foldl _ _ _ (fun _ _ => ?_)).trans ?_) | (simp; done) | split | (rw [lanePart_mk, lanePart_fold]))); done)
  | ((repeat' split) <;> first | (simp; done) | with_reducible rfl)
  | (refine lanePart_foldl _ _ _ (fun a x => ?_); (repeat' split) <;> first | (simp; done) | with_reducible rfl)
  | ((try dsimp only); rw [lanePart_foldl] <;> first | (intro a x; (repeat' split) <;> first | (simp; done) | with_reducible rfl) | ((repeat' split) <;> first | (simp; done) | with_reducible rfl))
  | ((try dsimp only); (repeat' split) <;> first | (simp; done) | with_reducible rfl)
  | ((repeat' (with_reducible refine lanePart_ite ?_ ?_)) <;> first | (simp; done) | with_reducible rfl)
  | ((repeat' split) <;> first
      | (simp; done)
      | with_reducible rfl
      | (refine lanePart_foldl _ _ _ (fun a x => ?_); (repeat' split) <;> first | (simp; done) | with_reducible rfl)
      | ((try dsimp only); rw [lanePart_foldl] <;> first | (intro a x; (repeat' split) <;> first | (simp; done) | with_reducible rfl) | ((repeat' split) <;> first | (simp; done) | with_reducible rfl)))

@[simp↓] theorem lanePart_applyAout (s : State) (k : Nat) (v : F32) (a : Nat) : lanePart (State.applyAout s k v a) = lanePart s := by
  unfold State.applyAout
  first
  | ((try dsimp only); (repeat' (first | with_reducible rfl | (with_reducible refine (lanePart_foldl _ _ _ (fun _ _ => ?_)).trans ?_) | (simp; done) | split | (rw [lanePart_mk, lanePart_fold]))); done)
  | ((repeat' split) <;> first | (simp; done) | with_reducible rfl)
  | (refine lanePart_foldl _ _ _ (fun a x => ?_); (repeat' split) <;> first | (simp; done) | with_reducible rfl)
  | ((try dsimp only); rw [lanePart_foldl] <;> first | (intro a x; (repeat' split) <;> first | (simp; done) | with_reducible rfl) | ((repeat' split) <;> first | (simp; done) | with_reducible rfl))
  | ((try dsimp only); (repeat' split) <;> first | (simp; done) | with_reducible rfl)
  | ((repeat' (with_reducible refine lanePart_ite ?_ ?_)) <;> first | (simp; done) | with_reducible rfl)
  | ((repeat' split) <;> first
      | (simp; done)
      | with_reducible rfl
      | (refine lanePart_foldl _ _ _ (fun a x => ?_); (repeat' split) <;> first | (simp; done) | with_reducible rfl)
      | ((try dsimp only); rw [lanePart_foldl] <;> first | (intro a x; (repeat' split) <;> first | (simp; done) | with_reducible rfl) | ((repeat' split) <;> first | (simp; done) | with_reducible rfl)))

@[simp↓] theorem lanePart_applyLocal (s : State) (p : Nat) (v : F32) (a : Nat) : lanePart (State.applyLocal s p v a) = lanePart s := by
  unfold State.applyLocal
  first
  | ((try dsimp only); (repeat' (first | with_reducible rfl | (with_reducible refine (lanePart_foldl _ _ _ (fun _ _ => ?_)).trans ?_) | (simp; done) | split | (rw [lanePart_mk, lanePart_fold]))); done)
  | ((repeat' split) <;> first | (simp; done) | with_reducible rfl)
  | (refine lanePart_foldl _ _ _ (fun a x => ?_); (repeat' split) <;> first | (simp; done) | with_reducible rfl)
  | ((try dsimp only); rw [lanePart_foldl] <;> first | (intro a x; (repeat' split) <;> first | (simp; done) | with_reducible rfl) | ((repeat' split) <;> first | (simp; done) | with_reducible rfl))
  | ((try dsimp only); (repeat' split) <;> first | (simp; done) | with_reducible rfl)
  | ((repeat' (with_reducible refine lanePart_ite ?_ ?_)) <;> first | (simp; done) | with_reducible rfl)
  | ((repeat' split) <;> first
      | (simp; done)
      | with_reducible rfl
      | (refine lanePart_foldl _ _ _ (fun a x => ?_); (repeat' split) <;> first | (simp; done) | with_reducible rfl)
      | ((try dsimp only); rw [lanePart_foldl] <;> first | (intro a x; (repeat' split) <;> first | (simp; done) | with_reducible rfl) | ((repeat' split) <;> first | (simp; done) | with_reducible rfl)))

@[simp↓] theorem lanePart_setCanBuf (s : State) (c : Nat) (b : Nat) (v : CanBuf) : lanePart (State.setCanBuf s c b v) = lanePart s := by
  unfold State.setCanBuf
  first
  | ((try dsimp only); (repeat' (first | with_reducible rfl | (with_reducible refine (lanePart_foldl _ _ _ (fun _ _ => ?_)).trans ?_) | (simp; done) | split | (rw [lanePart_mk, lanePart_fold]))); done)
  | ((repeat' split) <;> first | (simp; done) | with_reducible rfl)
  | (refine lanePart_foldl _ _ _ (fun a x => ?_); (repeat' split) <;> first | (simp; done) | with_reducible rfl)
  | ((try dsimp only); rw [lanePart_foldl] <;> first | (intro a x; (repeat' split) <;> first | (simp; done) | with_reducible rfl) | ((repeat' split) <;> first | (simp; done) | with_reducible rfl))
  | ((try dsimp only); (repeat' split) <;> first | (simp; done) | with_reducible rfl)
  | ((repeat' (with_reducible refine lanePart_ite ?_ ?_)) <;> first | (simp; done) | with_reducible rfl)
  | ((repeat' split) <;> first
      | (simp; done)
      | with_reducible rfl
      | (refine lanePart_foldl _ _ _ (fun a x => ?_); (repeat' split) <;> first | (simp; done) | with_reducible rfl)
      | ((try dsimp only); rw [lanePart_foldl] <;> first | (intro a x; (repeat' split) <;> first | (simp; done) | with_reducible rfl) | ((repeat' split) <;> first | (simp; done) | with_reducible rfl)))

@[simp↓] theorem lanePart_setCanPt (s : State) (p : Nat) (v : CanPt) : lanePart (State.setCanPt s p v) = lanePart s := by
  unfold State.setCanPt
  first
  | ((try dsimp only); (repeat' (first | with_reducible rfl | (with_reducible refine (lanePart_foldl _ _ _ (fun _ _ => ?_)).trans ?_) | (simp; done) | split | (rw [lanePart_mk, lanePart_fold]))); done)
  | ((repeat' split) <;> first | (simp; done) | with_reducible rfl)
  | (refine lanePart_foldl _ _ _ (fun a x => ?_); (repeat' split) <;> first | (simp; done) | with_reducible rfl)
  | ((try dsimp only); rw [lanePart_foldl] <;> first | (intro a x; (repeat' split) <;> first | (simp; done) | with_reducible rfl) | ((repeat' split) <;> first | (simp; done) | with_reducible rfl))
  | ((try dsimp only); (repeat' split) <;> first | (simp; done) | with_reducible rfl)
  | ((repeat' (with_reducible refine lanePart_ite ?_ ?_)) <;> first | (simp; done) | with_reducible rfl)
  | ((repeat' split) <;> first
      | (simp; done)
      | with_reducible rfl
      | (refine lanePart_foldl _ _ _ (fun a x => ?_); (repeat' split) <;> first | (simp; done) | with_reducible rfl)
      | ((try dsimp only); rw [lanePart_foldl] <;> first | (intro a x; (repeat' split) <;> first | (simp; done) | with_reducible rfl) | ((repeat' split) <;> first | (simp; done) | with_reducible rfl)))

@[simp↓] theorem lanePart_canDiag (s : State) (p : Nat) (d : Nat) (on : Bool) : lanePart (State.canDiag s p d on) = lanePart s := by
  unfold State.canDiag
  first
  | ((try dsimp only); (repeat' (first | with_reducible rfl | (with_reducible refine (lanePart_foldl _ _ _ (fun _ _ => ?_)).trans ?_) | (simp; done) | split | (rw [lanePart_mk, lanePart_fold]))); done)
  | ((repeat' split) <;> first | (simp; done) | with_reducible rfl)
  | (refine lanePart_foldl _ _ _ (fun a x => ?_); (repeat' split) <;> first | (simp; done) | with_reducible rfl)
  | ((try dsimp only); rw [lanePart_foldl] <;> first | (intro a x; (repeat' split) <;> first | (simp; done) | with_reducible rfl) | ((repeat' split) <;> first | (simp; done) | with_reducible rfl))
  | ((try dsimp only); (repeat' split) <;> first | (simp; done) | with_reducible rfl)
  | ((repeat' (with_reducible refine lanePart_ite ?_ ?_)) <;> first | (simp; done) | with_reducible rfl)
  | ((repeat' split) <;> first
      | (simp; done)
      | with_reducible rfl
      | (refine lanePart_foldl _ _ _ (fun a x => ?_); (repeat' split) <;> first | (simp; done) | with_reducible rfl)
      | ((try dsimp only); rw [lanePart_foldl] <;> first | (intro a x; (repeat' split) <;> first | (simp; done) | with_reducible rfl) | ((repeat' split) <;> first | (simp; done) | with_reducible rfl)))

@[simp↓] theorem lanePart_queueBuf (s : State) (c : Nat) (b : Nat) : lanePart (State.queueBuf s c b) = lanePart s := by
  unfold State.queueBuf
  first
  | ((try dsimp only); (repeat' (first | with_reducible rfl | (with_reducible refine (lanePart_foldl _ _ _ (fun _ _ => ?_)).trans ?_) | (simp; done) | split | (rw [lanePart_mk, lanePart_fold]))); done)
  | ((repeat' split) <;> first | (simp; done) | with_reducible rfl)
  | (refine lanePart_foldl _ _ _ (fun a x => ?_); (repeat' split) <;> first | (simp; done) | with_reducible rfl)
  | ((try dsimp only); rw [lanePart_foldl] <;> first | (intro a x; (repeat' split) <;> first | (simp; done) | with_reducible rfl) | ((repeat' split) <;> first | (simp; done) | with_reducible rfl))
  | ((try dsimp only); (repeat' split) <;> first | (simp; done) | with_reducible rfl)
  | ((repeat' (with_reducible refine lanePart_ite ?_ ?_)) <;> first | (simp; done) | with_reducible rfl)
  | ((repeat' split) <;> first
      | (simp; done)
      | with_reducible rfl
      | (refine lanePart_foldl _ _ _ (fun a x => ?_); (repeat' split) <;> first | (simp; done) | with_reducible rfl)
      | ((try dsimp only); rw [lanePart_foldl] <;> first | (intro a x; (repeat' split) <;> first | (simp; done) | with_reducible rfl) | ((repeat' split) <;> first | (simp; done) | with_reducible rfl)))

@[simp↓] theorem lanePart_canPtStatus (s : State) (c : Nat) (b : Nat) (p : Nat) (rx : Bool) : lanePart (State.canPtStatus s c b p rx) = lanePart s := by
  unfold State.canPtStatus
  first
  | ((try dsimp only); (repeat' (first | with_reducible rfl | (with_reducible refine (lanePart_foldl _ _ _ (fun _ _ => ?_)).trans ?_) | (simp; done) | split | (rw [lanePart_mk, lanePart_fold]))); done)
  | ((repeat' split) <;> first | (simp; done) | with_reducible rfl)
  | (refine lanePart_foldl _ _ _ (fun a x => ?_); (repeat' split) <;> first | (simp; done) | with_reducible rfl)
  | ((try dsimp only); rw [lanePart_foldl] <;> first | (intro a x; (repeat' split) <;> first | (simp; done) | with_reducible rfl) | ((repeat' split) <;> first | (simp; done) | with_reducible rfl))
  | ((try dsimp only); (repeat' split) <;> first | (simp; done) | with_reducible rfl)
  | ((repeat' (with_reducible refine lanePart_ite ?_ ?_)) <;> first | (simp; done) | with_reducible rfl)
  | ((repeat' split) <;> first
      | (simp; done)
      | with_reducible rfl
      | (refine lanePart_foldl _ _ _ (fun a x => ?_); (repeat' split) <;> first | (simp; done) | with_reducible rfl)
      | ((try dsimp only); rw [lanePart_foldl] <;> first | (intro a x; (repeat' split) <;> first | (simp; done) | with_reducible rfl) | ((repeat' split) <;> first | (simp; done) | with_reducible rfl)))

@[simp↓] theorem lanePart_applyCan (s : State) (p : Nat) (v : F32) (a : Nat) : lanePart (State.applyCan s p v a) = lanePart s := by
  unfold State.applyCan
  first
  | ((try dsimp only); (repeat' (first | with_reducible rfl | (with_reducible refine (lanePart_foldl _ _ _ (fun _ _ => ?_)).trans ?_) | (simp; done) | split | (rw [lanePart_mk, lanePart_fold]))); done)
  | ((repeat' split) <;> first | (simp; done) | with_reducible rfl)
  | (refine lanePart_foldl _ _ _ (fun a x => ?_); (repeat' split) <;> first | (simp; done) | with_reducible rfl)
  | ((try dsimp only); rw [lanePart_foldl] <;> first | (intro a x; (repeat' split) <;> first | (simp; done) | with_reducible rfl) | ((repeat' split) <;> first | (simp; done) | with_reducible rfl))
  | ((try dsimp only); (repeat' split) <;> first | (simp; done) | with_reducible rfl)
  | ((repeat' (with_reducible refine lanePart_ite ?_ ?_)) <;> first | (simp; done) | with_reducible rfl)
  | ((repeat' split) <;> first
      | (simp; done)
      | with_reducible rfl
      | (refine lanePart_foldl _ _ _ (fun a x => ?_); (repeat' split) <;> first | (simp; done) | with_reducible rfl)
      | ((try dsimp only); rw [lanePart_foldl] <;> first | (intro a x; (repeat' split) <;> first | (simp; done) | with_reducible rfl) | ((repeat' split) <;> first | (simp; done) | with_reducible rfl)))

@[simp↓] theorem lanePart_applyPoint (s : State) (p : Nat) (v : F32) (a : Nat) : lanePart (State.applyPoint s p v a) = lanePart s := by
  unfold State.applyPoint
  first
  | ((try dsimp only); (repeat' (first | with_reducible rfl | (with_reducible refine (lanePart_foldl _ _ _ (fun _ _ => ?_)).trans ?_) | (simp; done) | split | (rw [lanePart_mk, lanePart_fold]))); done)
  | ((repeat' split) <;> first | (simp; done) | with_reducible rfl)
  | (refine lanePart_foldl _ _ _ (fun a x => ?_); (repeat' split) <;> first | (simp; done) | with_reducible rfl)
  | ((try dsimp only); rw [lanePart_foldl] <;> first | (intro a x; (repeat' split) <;> first | (simp; done) | with_reducible rfl) | ((repeat' split) <;> first | (simp; done) | with_reducible rfl))
  | ((try dsimp only); (repeat' split) <;> first | (simp; done) | with_reducible rfl)
  | ((repeat' (with_reducible refine lanePart_ite ?_ ?_)) <;> first | (simp; done) | with_reducible rfl)
  | ((repeat' split) <;> first
      | (simp; done)
      | with_reducible rfl
      | (refine lanePart_foldl _ _ _ (fun a x => ?_); (repeat' split) <;> first | (simp; done) | with_reducible rfl)
      | ((try dsimp only); rw [lanePart_foldl] <;> first | (intro a x; (repeat' split) <;> first | (simp; done) | with_reducible rfl) | ((repeat' split) <;> first | (simp; done) | with_reducible rfl)))

/-- The parts `slv`, `epoch`. -/
def slvPart (s : State) := (s.slv, s.epoch)

@[simp] theorem slvPart_fold (s : State) : (s.slv, s.epoch) = slvPart s := rfl

@[simp↓] theorem slvPart_mk (epoch order ident host par lane prog model slv perc afe fed stn pts fio can net time key aud pair pwr rst drip past edge latch pending out free) : slvPart (State.mk epoch order ident host par lane prog model slv perc afe fed stn pts fio can net time key aud pair pwr rst drip past edge latch pending out free) = (slv, epoch) := rfl

theorem slvPart_silent {s t : State} (h : Silent s t) : slvPart t = slvPart s := by rw [h.rest]; rfl

theorem slvPart_ite {c : Prop} [Decidable c] {a b s : State} (ha : slvPart a = slvPart s) (hb : slvPart b = slvPart s) :
    slvPart (if c then a else b) = slvPart s := by
  split <;> assumption

theorem slvPart_foldl {α : Type} (l : List α) (f : State → α → State) (s : State) (h : ∀ a x, slvPart (f a x) = slvPart a) :
    slvPart (l.foldl f s) = slvPart s := by
  induction l generalizing s with
  | nil => rfl
  | cons x l ih => exact (ih _).trans (h s x)

@[simp↓] theorem slvPart_emit (s : State) (m : OutMsg) : slvPart (State.emit s m) = slvPart s := by
  exact slvPart_silent (silent_emit _ _)

@[simp↓] theorem slvPart_sendMsix (s : State) (v : Nat) : slvPart (State.sendMsix s v) = slvPart s := by
  exact slvPart_silent (silent_sendMsix _ _)

@[simp↓] theorem slvPart_setQueue (s : State) (n : Nat) (q : QPair) : slvPart (State.setQueue s n q) = slvPart s := by
  unfold State.setQueue
  first
  | ((try dsimp only); (repeat' (first | with_reducible rfl | (with_reducible refine (slvPart_foldl _ _ _ (fun _ _ => ?_)).trans ?_) | (simp; done) | split | (rw [slvPart_mk, slvPart_fold]))); done)
  | ((repeat' split) <;> first | (simp; done) | with_reducible rfl)
  | (refine slvPart_foldl _ _ _ (fun a x => ?_); (repeat' split) <;> first | (simp; done) | with_reducible rfl)
  | ((try dsimp only); rw [slvPart_foldl] <;> first | (intro a x; (repeat' split) <;> first | (simp; done) | with_reducible rfl) | ((repeat' split) <;> first | (simp; done) | with_reducible rfl))
  | ((try dsimp only); (repeat' split) <;> first | (simp; done) | with_reducible rfl)
  | ((repeat' (with_reducible refine slvPart_ite ?_ ?_)) <;> first | (simp; done) | with_reducible rfl)
  | ((repeat' split) <;> first
      | (simp; done)
      | with_reducible rfl
      | (refine slvPart_foldl _ _ _ (fun a x => ?_); (repeat' split) <;> first | (simp; done) | with_reducible rfl)
      | ((try dsimp only); rw [slvPart_foldl] <;> first | (intro a x; (repeat' split) <;> first | (simp; done) | with_reducible rfl) | ((repeat' split) <;> first | (simp; done) | with_reducible rfl)))

@[simp↓] theorem slvPart_auditPush (s : State) (r : AuditRec) : slvPart (State.auditPush s r) = slvPart s := by
  exact slvPart_silent (silent_auditPush _ _)

@[simp↓] theorem slvPart_auditDev (s : State) (kind : Nat) (opcode : Nat) (status : Nat) (subject : Nat) (data : List Byte) : slvPart (State.auditDev s kind opcode status subject data) = slvPart s := by
  exact slvPart_silent (silent_auditPush _ _)

@[simp↓] theorem slvPart_auditApplied (s : State) (subject : Nat) : slvPart (State.auditApplied s subject) = slvPart s := by
  unfold State.auditApplied
  first
  | ((try dsimp only); (repeat' (first | with_reducible rfl | (with_reducible refine (slvPart_foldl _ _ _ (fun _ _ => ?_)).trans ?_) | (simp; done) | split | (rw [slvPart_mk, slvPart_fold]))); done)
  | ((repeat' split) <;> first | (simp; done) | with_reducible rfl)
  | (refine slvPart_foldl _ _ _ (fun a x => ?_); (repeat' split) <;> first | (simp; done) | with_reducible rfl)
  | ((try dsimp only); rw [slvPart_foldl] <;> first | (intro a x; (repeat' split) <;> first | (simp; done) | with_reducible rfl) | ((repeat' split) <;> first | (simp; done) | with_reducible rfl))
  | ((try dsimp only); (repeat' split) <;> first | (simp; done) | with_reducible rfl)
  | ((repeat' (with_reducible refine slvPart_ite ?_ ?_)) <;> first | (simp; done) | with_reducible rfl)
  | ((repeat' split) <;> first
      | (simp; done)
      | with_reducible rfl
      | (refine slvPart_foldl _ _ _ (fun a x => ?_); (repeat' split) <;> first | (simp; done) | with_reducible rfl)
      | ((try dsimp only); rw [slvPart_foldl] <;> first | (intro a x; (repeat' split) <;> first | (simp; done) | with_reducible rfl) | ((repeat' split) <;> first | (simp; done) | with_reducible rfl)))

@[simp↓] theorem slvPart_postQueue (s : State) (n : Nat) (e : Entry) (data : List Byte) : slvPart (State.postQueue s n e data).1 = slvPart s := by
  exact slvPart_silent (silent_postQueue _ _ _ _)

@[simp↓] theorem slvPart_post (s : State) (dst : Src) (e : Entry) (data : List Byte) : slvPart (State.post s dst e data).1 = slvPart s := by
  exact slvPart_silent (silent_post _ _ _ _)

@[simp↓] theorem slvPart_event (s : State) (code : Nat) (status : Nat) (data : List Byte) : slvPart (State.event s code status data) = slvPart s := by
  exact slvPart_silent (silent_event _ _ _ _)

@[simp↓] theorem slvPart_condition (s : State) (status : Nat) (data : List Byte) : slvPart (State.condition s status data) = slvPart s := by
  exact slvPart_silent (silent_condition _ _ _)

@[simp↓] theorem slvPart_openHandle (s : State) (src : Src) (cq : Src) (tag : U32) (op : Nat) : slvPart (State.openHandle s src cq tag op) = slvPart s := by
  unfold State.openHandle
  first
  | ((try dsimp only); (repeat' (first | with_reducible rfl | (with_reducible refine (slvPart_foldl _ _ _ (fun _ _ => ?_)).trans ?_) | (simp; done) | split | (rw [slvPart_mk, slvPart_fold]))); done)
  | ((repeat' split) <;> first | (simp; done) | with_reducible rfl)
  | (refine slvPart_foldl _ _ _ (fun a x => ?_); (repeat' split) <;> first | (simp; done) | with_reducible rfl)
  | ((try dsimp only); rw [slvPart_foldl] <;> first | (intro a x; (repeat' split) <;> first | (simp; done) | with_reducible rfl) | ((repeat' split) <;> first | (simp; done) | with_reducible rfl))
  | ((try dsimp only); (repeat' split) <;> first | (simp; done) | with_reducible rfl)
  | ((repeat' (with_reducible refine slvPart_ite ?_ ?_)) <;> first | (simp; done) | with_reducible rfl)
  | ((repeat' split) <;> first
      | (simp; done)
      | with_reducible rfl
      | (refine slvPart_foldl _ _ _ (fun a x => ?_); (repeat' split) <;> first | (simp; done) | with_reducible rfl)
      | ((try dsimp only); rw [slvPart_foldl] <;> first | (intro a x; (repeat' split) <;> first | (simp; done) | with_reducible rfl) | ((repeat' split) <;> first | (simp; done) | with_reducible rfl)))

@[simp↓] theorem slvPart_freeHandle (s : State) (i : Nat) : slvPart (State.freeHandle s i) = slvPart s := by
  unfold State.freeHandle
  first
  | ((try dsimp only); (repeat' (first | with_reducible rfl | (with_reducible refine (slvPart_foldl _ _ _ (fun _ _ => ?_)).trans ?_) | (simp; done) | split | (rw [slvPart_mk, slvPart_fold]))); done)
  | ((repeat' split) <;> first | (simp; done) | with_reducible rfl)
  | (refine slvPart_foldl _ _ _ (fun a x => ?_); (repeat' split) <;> first | (simp; done) | with_reducible rfl)
  | ((try dsimp only); rw [slvPart_foldl] <;> first | (intro a x; (repeat' split) <;> first | (simp; done) | with_reducible rfl) | ((repeat' split) <;> first | (simp; done) | with_reducible rfl))
  | ((try dsimp only); (repeat' split) <;> first | (simp; done) | with_reducible rfl)
  | ((repeat' (with_reducible refine slvPart_ite ?_ ?_)) <;> first | (simp; done) | with_reducible rfl)
  | ((repeat' split) <;> first
      | (simp; done)
      | with_reducible rfl
      | (refine slvPart_foldl _ _ _ (fun a x => ?_); (repeat' split) <;> first | (simp; done) | with_reducible rfl)
      | ((try dsimp only); rw [slvPart_foldl] <;> first | (intro a x; (repeat' split) <;> first | (simp; done) | with_reducible rfl) | ((repeat' split) <;> first | (simp; done) | with_reducible rfl)))

@[simp↓] theorem slvPart_complete (s : State) (h : U32) (status : Nat) (detail : Nat) (data : List Byte) : slvPart (State.complete s h status detail data) = slvPart s := by
  unfold State.complete
  first
  | ((try dsimp only); (repeat' (first | with_reducible rfl | (with_reducible refine (slvPart_foldl _ _ _ (fun _ _ => ?_)).trans ?_) | (simp; done) | split | (rw [slvPart_mk, slvPart_fold]))); done)
  | ((repeat' split) <;> first | (simp; done) | with_reducible rfl)
  | (refine slvPart_foldl _ _ _ (fun a x => ?_); (repeat' split) <;> first | (simp; done) | with_reducible rfl)
  | ((try dsimp only); rw [slvPart_foldl] <;> first | (intro a x; (repeat' split) <;> first | (simp; done) | with_reducible rfl) | ((repeat' split) <;> first | (simp; done) | with_reducible rfl))
  | ((try dsimp only); (repeat' split) <;> first | (simp; done) | with_reducible rfl)
  | ((repeat' (with_reducible refine slvPart_ite ?_ ?_)) <;> first | (simp; done) | with_reducible rfl)
  | ((repeat' split) <;> first
      | (simp; done)
      | with_reducible rfl
      | (refine slvPart_foldl _ _ _ (fun a x => ?_); (repeat' split) <;> first | (simp; done) | with_reducible rfl)
      | ((try dsimp only); rw [slvPart_foldl] <;> first | (intro a x; (repeat' split) <;> first | (simp; done) | with_reducible rfl) | ((repeat' split) <;> first | (simp; done) | with_reducible rfl)))

@[simp↓] theorem slvPart_took (s : State) : slvPart (State.took s) = slvPart s := by
  unfold State.took
  first
  | ((try dsimp only); (repeat' (first | with_reducible rfl | (with_reducible refine (slvPart_foldl _ _ _ (fun _ _ => ?_)).trans ?_) | (simp; done) | split | (rw [slvPart_mk, slvPart_fold]))); done)
  | ((repeat' split) <;> first | (simp; done) | with_reducible rfl)
  | (refine slvPart_foldl _ _ _ (fun a x => ?_); (repeat' split) <;> first | (simp; done) | with_reducible rfl)
  | ((try dsimp only); rw [slvPart_foldl] <;> first | (intro a x; (repeat' split) <;> first | (simp; done) | with_reducible rfl) | ((repeat' split) <;> first | (simp; done) | with_reducible rfl))
  | ((try dsimp only); (repeat' split) <;> first | (simp; done) | with_reducible rfl)
  | ((repeat' (with_reducible refine slvPart_ite ?_ ?_)) <;> first | (simp; done) | with_reducible rfl)
  | ((repeat' split) <;> first
      | (simp; done)
      | with_reducible rfl
      | (refine slvPart_foldl _ _ _ (fun a x => ?_); (repeat' split) <;> first | (simp; done) | with_reducible rfl)
      | ((try dsimp only); rw [slvPart_foldl] <;> first | (intro a x; (repeat' split) <;> first | (simp; done) | with_reducible rfl) | ((repeat' split) <;> first | (simp; done) | with_reducible rfl)))

@[simp↓] theorem slvPart_closeEdge (s : State) : slvPart (State.closeEdge s) = slvPart s := by
  unfold State.closeEdge
  first
  | ((try dsimp only); (repeat' (first | with_reducible rfl | (with_reducible refine (slvPart_foldl _ _ _ (fun _ _ => ?_)).trans ?_) | (simp; done) | split | (rw [slvPart_mk, slvPart_fold]))); done)
  | ((repeat' split) <;> first | (simp; done) | with_reducible rfl)
  | (refine slvPart_foldl _ _ _ (fun a x => ?_); (repeat' split) <;> first | (simp; done) | with_reducible rfl)
  | ((try dsimp only); rw [slvPart_foldl] <;> first | (intro a x; (repeat' split) <;> first | (simp; done) | with_reducible rfl) | ((repeat' split) <;> first | (simp; done) | with_reducible rfl))
  | ((try dsimp only); (repeat' split) <;> first | (simp; done) | with_reducible rfl)
  | ((repeat' (with_reducible refine slvPart_ite ?_ ?_)) <;> first | (simp; done) | with_reducible rfl)
  | ((repeat' split) <;> first
      | (simp; done)
      | with_reducible rfl
      | (refine slvPart_foldl _ _ _ (fun a x => ?_); (repeat' split) <;> first | (simp; done) | with_reducible rfl)
      | ((try dsimp only); rw [slvPart_foldl] <;> first | (intro a x; (repeat' split) <;> first | (simp; done) | with_reducible rfl) | ((repeat' split) <;> first | (simp; done) | with_reducible rfl)))

@[simp↓] theorem slvPart_applyCal (s : State) : slvPart (State.applyCal s) = slvPart s := by
  unfold State.applyCal
  first
  | ((try dsimp only); (repeat' (first | with_reducible rfl | (with_reducible refine (slvPart_foldl _ _ _ (fun _ _ => ?_)).trans ?_) | (simp; done) | split | (rw [slvPart_mk, slvPart_fold]))); done)
  | ((repeat' split) <;> first | (simp; done) | with_reducible rfl)
  | (refine slvPart_foldl _ _ _ (fun a x => ?_); (repeat' split) <;> first | (simp; done) | with_reducible rfl)
  | ((try dsimp only); rw [slvPart_foldl] <;> first | (intro a x; (repeat' split) <;> first | (simp; done) | with_reducible rfl) | ((repeat' split) <;> first | (simp; done) | with_reducible rfl))
  | ((try dsimp only); (repeat' split) <;> first | (simp; done) | with_reducible rfl)
  | ((repeat' (with_reducible refine slvPart_ite ?_ ?_)) <;> first | (simp; done) | with_reducible rfl)
  | ((repeat' split) <;> first
      | (simp; done)
      | with_reducible rfl
      | (refine slvPart_foldl _ _ _ (fun a x => ?_); (repeat' split) <;> first | (simp; done) | with_reducible rfl)
      | ((try dsimp only); rw [slvPart_foldl] <;> first | (intro a x; (repeat' split) <;> first | (simp; done) | with_reducible rfl) | ((repeat' split) <;> first | (simp; done) | with_reducible rfl)))

@[simp↓] theorem slvPart_endActivation (s : State) (status : Nat) (code : Nat) : slvPart (State.endActivation s status code) = slvPart s := by
  unfold State.endActivation
  first
  | ((try dsimp only); (repeat' (first | with_reducible rfl | (with_reducible refine (slvPart_foldl _ _ _ (fun _ _ => ?_)).trans ?_) | (simp; done) | split | (rw [slvPart_mk, slvPart_fold]))); done)
  | ((repeat' split) <;> first | (simp; done) | with_reducible rfl)
  | (refine slvPart_foldl _ _ _ (fun a x => ?_); (repeat' split) <;> first | (simp; done) | with_reducible rfl)
  | ((try dsimp only); rw [slvPart_foldl] <;> first | (intro a x; (repeat' split) <;> first | (simp; done) | with_reducible rfl) | ((repeat' split) <;> first | (simp; done) | with_reducible rfl))
  | ((try dsimp only); (repeat' split) <;> first | (simp; done) | with_reducible rfl)
  | ((repeat' (with_reducible refine slvPart_ite ?_ ?_)) <;> first | (simp; done) | with_reducible rfl)
  | ((repeat' split) <;> first
      | (simp; done)
      | with_reducible rfl
      | (refine slvPart_foldl _ _ _ (fun a x => ?_); (repeat' split) <;> first | (simp; done) | with_reducible rfl)
      | ((try dsimp only); rw [slvPart_foldl] <;> first | (intro a x; (repeat' split) <;> first | (simp; done) | with_reducible rfl) | ((repeat' split) <;> first | (simp; done) | with_reducible rfl)))

@[simp↓] theorem slvPart_applyService (s : State) (start : Nat) : slvPart (State.applyService s start) = slvPart s := by
  unfold State.applyService
  first
  | ((try dsimp only); (repeat' (first | with_reducible rfl | (with_reducible refine (slvPart_foldl _ _ _ (fun _ _ => ?_)).trans ?_) | (simp; done) | split | (rw [slvPart_mk, slvPart_fold]))); done)
  | ((repeat' split) <;> first | (simp; done) | with_reducible rfl)
  | (refine slvPart_foldl _ _ _ (fun a x => ?_); (repeat' split) <;> first | (simp; done) | with_reducible rfl)
  | ((try dsimp only); rw [slvPart_foldl] <;> first | (intro a x; (repeat' split) <;> first | (simp; done) | with_reducible rfl) | ((repeat' split) <;> first | (simp; done) | with_reducible rfl))
  | ((try dsimp only); (repeat' split) <;> first | (simp; done) | with_reducible rfl)
  | ((repeat' (with_reducible refine slvPart_ite ?_ ?_)) <;> first | (simp; done) | with_reducible rfl)
  | ((repeat' split) <;> first
      | (simp; done)
      | with_reducible rfl
      | (refine slvPart_foldl _ _ _ (fun a x => ?_); (repeat' split) <;> first | (simp; done) | with_reducible rfl)
      | ((try dsimp only); rw [slvPart_foldl] <;> first | (intro a x; (repeat' split) <;> first | (simp; done) | with_reducible rfl) | ((repeat' split) <;> first | (simp; done) | with_reducible rfl)))

/-- The parts `fed.openings`, `fed.closeDue`, `fed.addr`, `epoch`, `order`. -/
def roundPart (s : State) := (s.fed.openings, s.fed.closeDue, s.fed.addr, s.epoch, s.order)

@[simp] theorem roundPart_fold (s : State) : (s.fed.openings, s.fed.closeDue, s.fed.addr, s.epoch, s.order) = roundPart s := rfl

@[simp↓] theorem roundPart_mk (epoch order ident host par lane prog model slv perc afe fed stn pts fio can net time key aud pair pwr rst drip past edge latch pending out free) : roundPart (State.mk epoch order ident host par lane prog model slv perc afe fed stn pts fio can net time key aud pair pwr rst drip past edge latch pending out free) = (fed.openings, fed.closeDue, fed.addr, epoch, order) := rfl

theorem roundPart_silent {s t : State} (h : Silent s t) : roundPart t = roundPart s := by rw [h.rest]; rfl

theorem roundPart_ite {c : Prop} [Decidable c] {a b s : State} (ha : roundPart a = roundPart s) (hb : roundPart b = roundPart s) :
    roundPart (if c then a else b) = roundPart s := by
  split <;> assumption

theorem roundPart_foldl {α : Type} (l : List α) (f : State → α → State) (s : State) (h : ∀ a x, roundPart (f a x) = roundPart a) :
    roundPart (l.foldl f s) = roundPart s := by
  induction l generalizing s with
  | nil => rfl
  | cons x l ih => exact (ih _).trans (h s x)

@[simp↓] theorem roundPart_emit (s : State) (m : OutMsg) : roundPart (State.emit s m) = roundPart s := by
  exact roundPart_silent (silent_emit _ _)

@[simp↓] theorem roundPart_closeEdge (s : State) : roundPart (State.closeEdge s) = roundPart s := by
  unfold State.closeEdge
  first
  | ((try dsimp only); (repeat' (first | with_reducible rfl | (with_reducible refine (roundPart_foldl _ _ _ (fun _ _ => ?_)).trans ?_) | (simp; done) | split | (rw [roundPart_mk, roundPart_fold]))); done)
  | ((repeat' split) <;> first | (simp; done) | with_reducible rfl)
  | (refine roundPart_foldl _ _ _ (fun a x => ?_); (repeat' split) <;> first | (simp; done) | with_reducible rfl)
  | ((try dsimp only); rw [roundPart_foldl] <;> first | (intro a x; (repeat' split) <;> first | (simp; done) | with_reducible rfl) | ((repeat' split) <;> first | (simp; done) | with_reducible rfl))
  | ((try dsimp only); (repeat' split) <;> first | (simp; done) | with_reducible rfl)
  | ((repeat' (with_reducible refine roundPart_ite ?_ ?_)) <;> first | (simp; done) | with_reducible rfl)
  | ((repeat' split) <;> first
      | (simp; done)
      | with_reducible rfl
      | (refine roundPart_foldl _ _ _ (fun a x => ?_); (repeat' split) <;> first | (simp; done) | with_reducible rfl)
      | ((try dsimp only); rw [roundPart_foldl] <;> first | (intro a x; (repeat' split) <;> first | (simp; done) | with_reducible rfl) | ((repeat' split) <;> first | (simp; done) | with_reducible rfl)))

@[simp↓] theorem roundPart_setPort (s : State) (p : Nat) (v : PortSt1) : roundPart (State.setPort s p v) = roundPart s := by
  unfold State.setPort
  first
  | ((try dsimp only); (repeat' (first | with_reducible rfl | (with_reducible refine (roundPart_foldl _ _ _ (fun _ _ => ?_)).trans ?_) | (simp; done) | split | (rw [roundPart_mk, roundPart_fold]))); done)
  | ((repeat' split) <;> first | (simp; done) | with_reducible rfl)
  | (refine roundPart_foldl _ _ _ (fun a x => ?_); (repeat' split) <;> first | (simp; done) | with_reducible rfl)
  | ((try dsimp only); rw [roundPart_foldl] <;> first | (intro a x; (repeat' split) <;> first | (simp; done) | with_reducible rfl) | ((repeat' split) <;> first | (simp; done) | with_reducible rfl))
  | ((try dsimp only); (repeat' split) <;> first | (simp; done) | with_reducible rfl)
  | ((repeat' (with_reducible refine roundPart_ite ?_ ?_)) <;> first | (simp; done) | with_reducible rfl)
  | ((repeat' split) <;> first
      | (simp; done)
      | with_reducible rfl
      | (refine roundPart_foldl _ _ _ (fun a x => ?_); (repeat' split) <;> first | (simp; done) | with_reducible rfl)
      | ((try dsimp only); rw [roundPart_foldl] <;> first | (intro a x; (repeat' split) <;> first | (simp; done) | with_reducible rfl) | ((repeat' split) <;> first | (simp; done) | with_reducible rfl)))

@[simp↓] theorem roundPart_sendPlain (s : State) (p : Nat) (ethertype : Nat) (dst : BitVec 48) (bytes : List Byte) : roundPart (State.sendPlain s p ethertype dst bytes) = roundPart s := by
  unfold State.sendPlain
  first
  | ((try dsimp only); (repeat' (first | with_reducible rfl | (with_reducible refine (roundPart_foldl _ _ _ (fun _ _ => ?_)).trans ?_) | (simp; done) | split | (rw [roundPart_mk, roundPart_fold]))); done)
  | ((repeat' split) <;> first | (simp; done) | with_reducible rfl)
  | (refine roundPart_foldl _ _ _ (fun a x => ?_); (repeat' split) <;> first | (simp; done) | with_reducible rfl)
  | ((try dsimp only); rw [roundPart_foldl] <;> first | (intro a x; (repeat' split) <;> first | (simp; done) | with_reducible rfl) | ((repeat' split) <;> first | (simp; done) | with_reducible rfl))
  | ((try dsimp only); (repeat' split) <;> first | (simp; done) | with_reducible rfl)
  | ((repeat' (with_reducible refine roundPart_ite ?_ ?_)) <;> first | (simp; done) | with_reducible rfl)
  | ((repeat' split) <;> first
      | (simp; done)
      | with_reducible rfl
      | (refine roundPart_foldl _ _ _ (fun a x => ?_); (repeat' split) <;> first | (simp; done) | with_reducible rfl)
      | ((try dsimp only); rw [roundPart_foldl] <;> first | (intro a x; (repeat' split) <;> first | (simp; done) | with_reducible rfl) | ((repeat' split) <;> first | (simp; done) | with_reducible rfl)))

@[simp↓] theorem roundPart_sendOn (s : State) (p : Nat) (ethertype : Nat) (dst : BitVec 48) (bytes : List Byte) : roundPart (State.sendOn s p ethertype dst bytes) = roundPart s := by
  unfold State.sendOn
  first
  | ((try dsimp only); (repeat' (first | with_reducible rfl | (with_reducible refine (roundPart_foldl _ _ _ (fun _ _ => ?_)).trans ?_) | (simp; done) | split | (rw [roundPart_mk, roundPart_fold]))); done)
  | ((repeat' split) <;> first | (simp; done) | with_reducible rfl)
  | (refine roundPart_foldl _ _ _ (fun a x => ?_); (repeat' split) <;> first | (simp; done) | with_reducible rfl)
  | ((try dsimp only); rw [roundPart_foldl] <;> first | (intro a x; (repeat' split) <;> first | (simp; done) | with_reducible rfl) | ((repeat' split) <;> first | (simp; done) | with_reducible rfl))
  | ((try dsimp only); (repeat' split) <;> first | (simp; done) | with_reducible rfl)
  | ((repeat' (with_reducible refine roundPart_ite ?_ ?_)) <;> first | (simp; done) | with_reducible rfl)
  | ((repeat' split) <;> first
      | (simp; done)
      | with_reducible rfl
      | (refine roundPart_foldl _ _ _ (fun a x => ?_); (repeat' split) <;> first | (simp; done) | with_reducible rfl)
      | ((try dsimp only); rw [roundPart_foldl] <;> first | (intro a x; (repeat' split) <;> first | (simp; done) | with_reducible rfl) | ((repeat' split) <;> first | (simp; done) | with_reducible rfl)))

@[simp↓] theorem roundPart_sendRing (s : State) (ethertype : Nat) (dst : BitVec 48) (bytes : List Byte) : roundPart (State.sendRing s ethertype dst bytes) = roundPart s := by
  unfold State.sendRing
  first
  | ((try dsimp only); (repeat' (first | with_reducible rfl | (with_reducible refine (roundPart_foldl _ _ _ (fun _ _ => ?_)).trans ?_) | (simp; done) | split | (rw [roundPart_mk, roundPart_fold]))); done)
  | ((repeat' split) <;> first | (simp; done) | with_reducible rfl)
  | (refine roundPart_foldl _ _ _ (fun a x => ?_); (repeat' split) <;> first | (simp; done) | with_reducible rfl)
  | ((try dsimp only); rw [roundPart_foldl] <;> first | (intro a x; (repeat' split) <;> first | (simp; done) | with_reducible rfl) | ((repeat' split) <;> first | (simp; done) | with_reducible rfl))
  | ((try dsimp only); (repeat' split) <;> first | (simp; done) | with_reducible rfl)
  | ((repeat' (with_reducible refine roundPart_ite ?_ ?_)) <;> first | (simp; done) | with_reducible rfl)
  | ((repeat' split) <;> first
      | (simp; done)
      | with_reducible rfl
      | (refine roundPart_foldl _ _ _ (fun a x => ?_); (repeat' split) <;> first | (simp; done) | with_reducible rfl)
      | ((try dsimp only); rw [roundPart_foldl] <;> first | (intro a x; (repeat' split) <;> first | (simp; done) | with_reducible rfl) | ((repeat' split) <;> first | (simp; done) | with_reducible rfl)))

@[simp↓] theorem roundPart_setFloor (s : State) (level : Nat) (r : FloorRec) : roundPart (State.setFloor s level r) = roundPart s := by
  unfold State.setFloor
  first
  | ((try dsimp only); (repeat' (first | with_reducible rfl | (with_reducible refine (roundPart_foldl _ _ _ (fun _ _ => ?_)).trans ?_) | (simp; done) | split | (rw [roundPart_mk, roundPart_fold]))); done)
  | ((repeat' split) <;> first | (simp; done) | with_reducible rfl)
  | (refine roundPart_foldl _ _ _ (fun a x => ?_); (repeat' split) <;> first | (simp; done) | with_reducible rfl)
  | ((try dsimp only); rw [roundPart_foldl] <;> first | (intro a x; (repeat' split) <;> first | (simp; done) | with_reducible rfl) | ((repeat' split) <;> first | (simp; done) | with_reducible rfl))
  | ((try dsimp only); (repeat' split) <;> first | (simp; done) | with_reducible rfl)
  | ((repeat' (with_reducible refine roundPart_ite ?_ ?_)) <;> first | (simp; done) | with_reducible rfl)
  | ((repeat' split) <;> first
      | (simp; done)
      | with_reducible rfl
      | (refine roundPart_foldl _ _ _ (fun a x => ?_); (repeat' split) <;> first | (simp; done) | with_reducible rfl)
      | ((try dsimp only); rw [roundPart_foldl] <;> first | (intro a x; (repeat' split) <;> first | (simp; done) | with_reducible rfl) | ((repeat' split) <;> first | (simp; done) | with_reducible rfl)))

@[simp↓] theorem roundPart_setMembers (s : State) (level : Nat) (l : List FedMember) : roundPart (State.setMembers s level l) = roundPart s := by
  unfold State.setMembers
  first
  | ((try dsimp only); (repeat' (first | with_reducible rfl | (with_reducible refine (roundPart_foldl _ _ _ (fun _ _ => ?_)).trans ?_) | (simp; done) | split | (rw [roundPart_mk, roundPart_fold]))); done)
  | ((repeat' split) <;> first | (simp; done) | with_reducible rfl)
  | (refine roundPart_foldl _ _ _ (fun a x => ?_); (repeat' split) <;> first | (simp; done) | with_reducible rfl)
  | ((try dsimp only); rw [roundPart_foldl] <;> first | (intro a x; (repeat' split) <;> first | (simp; done) | with_reducible rfl) | ((repeat' split) <;> first | (simp; done) | with_reducible rfl))
  | ((try dsimp only); (repeat' split) <;> first | (simp; done) | with_reducible rfl)
  | ((repeat' (with_reducible refine roundPart_ite ?_ ?_)) <;> first | (simp; done) | with_reducible rfl)
  | ((repeat' split) <;> first
      | (simp; done)
      | with_reducible rfl
      | (refine roundPart_foldl _ _ _ (fun a x => ?_); (repeat' split) <;> first | (simp; done) | with_reducible rfl)
      | ((try dsimp only); rw [roundPart_foldl] <;> first | (intro a x; (repeat' split) <;> first | (simp; done) | with_reducible rfl) | ((repeat' split) <;> first | (simp; done) | with_reducible rfl)))

@[simp↓] theorem roundPart_selfMember (s : State) (level : Nat) : roundPart (State.selfMember s level) = roundPart s := by
  unfold State.selfMember
  first
  | ((try dsimp only); (repeat' (first | with_reducible rfl | (with_reducible refine (roundPart_foldl _ _ _ (fun _ _ => ?_)).trans ?_) | (simp; done) | split | (rw [roundPart_mk, roundPart_fold]))); done)
  | ((repeat' split) <;> first | (simp; done) | with_reducible rfl)
  | (refine roundPart_foldl _ _ _ (fun a x => ?_); (repeat' split) <;> first | (simp; done) | with_reducible rfl)
  | ((try dsimp only); rw [roundPart_foldl] <;> first | (intro a x; (repeat' split) <;> first | (simp; done) | with_reducible rfl) | ((repeat' split) <;> first | (simp; done) | with_reducible rfl))
  | ((try dsimp only); (repeat' split) <;> first | (simp; done) | with_reducible rfl)
  | ((repeat' (with_reducible refine roundPart_ite ?_ ?_)) <;> first | (simp; done) | with_reducible rfl)
  | ((repeat' split) <;> first
      | (simp; done)
      | with_reducible rfl
      | (refine roundPart_foldl _ _ _ (fun a x => ?_); (repeat' split) <;> first | (simp; done) | with_reducible rfl)
      | ((try dsimp only); rw [roundPart_foldl] <;> first | (intro a x; (repeat' split) <;> first | (simp; done) | with_reducible rfl) | ((repeat' split) <;> first | (simp; done) | with_reducible rfl)))

@[simp↓] theorem roundPart_switchFloor (s : State) (level : Nat) : roundPart (State.switchFloor s level) = roundPart s := by
  unfold State.switchFloor
  first
  | ((try dsimp only); (repeat' (first | with_reducible rfl | (with_reducible refine (roundPart_foldl _ _ _ (fun _ _ => ?_)).trans ?_) | (simp; done) | split | (rw [roundPart_mk, roundPart_fold]))); done)
  | ((repeat' split) <;> first | (simp; done) | with_reducible rfl)
  | (refine roundPart_foldl _ _ _ (fun a x => ?_); (repeat' split) <;> first | (simp; done) | with_reducible rfl)
  | ((try dsimp only); rw [roundPart_foldl] <;> first | (intro a x; (repeat' split) <;> first | (simp; done) | with_reducible rfl) | ((repeat' split) <;> first | (simp; done) | with_reducible rfl))
  | ((try dsimp only); (repeat' split) <;> first | (simp; done) | with_reducible rfl)
  | ((repeat' (with_reducible refine roundPart_ite ?_ ?_)) <;> first | (simp; done) | with_reducible rfl)
  | ((repeat' split) <;> first
      | (simp; done)
      | with_reducible rfl
      | (refine roundPart_foldl _ _ _ (fun a x => ?_); (repeat' split) <;> first | (simp; done) | with_reducible rfl)
      | ((try dsimp only); rw [roundPart_foldl] <;> first | (intro a x; (repeat' split) <;> first | (simp; done) | with_reducible rfl) | ((repeat' split) <;> first | (simp; done) | with_reducible rfl)))

@[simp↓] theorem roundPart_settleFloor (s : State) (level : Nat) : roundPart (State.settleFloor s level) = roundPart s := by
  unfold State.settleFloor
  first
  | ((try dsimp only); (repeat' (first | with_reducible rfl | (with_reducible refine (roundPart_foldl _ _ _ (fun _ _ => ?_)).trans ?_) | (simp; done) | split | (rw [roundPart_mk, roundPart_fold]))); done)
  | ((repeat' split) <;> first | (simp; done) | with_reducible rfl)
  | (refine roundPart_foldl _ _ _ (fun a x => ?_); (repeat' split) <;> first | (simp; done) | with_reducible rfl)
  | ((try dsimp only); rw [roundPart_foldl] <;> first | (intro a x; (repeat' split) <;> first | (simp; done) | with_reducible rfl) | ((repeat' split) <;> first | (simp; done) | with_reducible rfl))
  | ((try dsimp only); (repeat' split) <;> first | (simp; done) | with_reducible rfl)
  | ((repeat' (with_reducible refine roundPart_ite ?_ ?_)) <;> first | (simp; done) | with_reducible rfl)
  | ((repeat' split) <;> first
      | (simp; done)
      | with_reducible rfl
      | (refine roundPart_foldl _ _ _ (fun a x => ?_); (repeat' split) <;> first | (simp; done) | with_reducible rfl)
      | ((try dsimp only); rw [roundPart_foldl] <;> first | (intro a x; (repeat' split) <;> first | (simp; done) | with_reducible rfl) | ((repeat' split) <;> first | (simp; done) | with_reducible rfl)))

@[simp↓] theorem roundPart_announce (s : State) (level : Nat) : roundPart (State.announce s level) = roundPart s := by
  unfold State.announce
  first
  | ((try dsimp only); (repeat' (first | with_reducible rfl | (with_reducible refine (roundPart_foldl _ _ _ (fun _ _ => ?_)).trans ?_) | (simp; done) | split | (rw [roundPart_mk, roundPart_fold]))); done)
  | ((repeat' split) <;> first | (simp; done) | with_reducible rfl)
  | (refine roundPart_foldl _ _ _ (fun a x => ?_); (repeat' split) <;> first | (simp; done) | with_reducible rfl)
  | ((try dsimp only); rw [roundPart_foldl] <;> first | (intro a x; (repeat' split) <;> first | (simp; done) | with_reducible rfl) | ((repeat' split) <;> first | (simp; done) | with_reducible rfl))
  | ((try dsimp only); (repeat' split) <;> first | (simp; done) | with_reducible rfl)
  | ((repeat' (with_reducible refine roundPart_ite ?_ ?_)) <;> first | (simp; done) | with_reducible rfl)
  | ((repeat' split) <;> first
      | (simp; done)
      | with_reducible rfl
      | (refine roundPart_foldl _ _ _ (fun a x => ?_); (repeat' split) <;> first | (simp; done) | with_reducible rfl)
      | ((try dsimp only); rw [roundPart_foldl] <;> first | (intro a x; (repeat' split) <;> first | (simp; done) | with_reducible rfl) | ((repeat' split) <;> first | (simp; done) | with_reducible rfl)))

@[simp↓] theorem roundPart_sendQBytes (s : State) (port : Option Nat) (src : Nat) (seq : Nat) (bytes : List Byte) : roundPart (State.sendQBytes s port src seq bytes) = roundPart s := by
  unfold State.sendQBytes
  first
  | ((try dsimp only); (repeat' (first | with_reducible rfl | (with_reducible refine (roundPart_foldl _ _ _ (fun _ _ => ?_)).trans ?_) | (simp; done) | split | (rw [roundPart_mk, roundPart_fold]))); done)
  | ((repeat' split) <;> first | (simp; done) | with_reducible rfl)
  | (refine roundPart_foldl _ _ _ (fun a x => ?_); (repeat' split) <;> first | (simp; done) | with_reducible rfl)
  | ((try dsimp only); rw [roundPart_foldl] <;> first | (intro a x; (repeat' split) <;> first | (simp; done) | with_reducible rfl) | ((repeat' split) <;> first | (simp; done) | with_reducible rfl))
  | ((try dsimp only); (repeat' split) <;> first | (simp; done) | with_reducible rfl)
  | ((repeat' (with_reducible refine roundPart_ite ?_ ?_)) <;> first | (simp; done) | with_reducible rfl)
  | ((repeat' split) <;> first
      | (simp; done)
      | with_reducible rfl
      | (refine roundPart_foldl _ _ _ (fun a x => ?_); (repeat' split) <;> first | (simp; done) | with_reducible rfl)
      | ((try dsimp only); rw [roundPart_foldl] <;> first | (intro a x; (repeat' split) <;> first | (simp; done) | with_reducible rfl) | ((repeat' split) <;> first | (simp; done) | with_reducible rfl)))

@[simp↓] theorem roundPart_sendQ (s : State) (level : Nat) (kind : Nat) (dst : Nat) (payload : List Byte) : roundPart (State.sendQ s level kind dst payload) = roundPart s := by
  unfold State.sendQ
  first
  | ((try dsimp only); (repeat' (first | with_reducible rfl | (with_reducible refine (roundPart_foldl _ _ _ (fun _ _ => ?_)).trans ?_) | (simp; done) | split | (rw [roundPart_mk, roundPart_fold]))); done)
  | ((repeat' split) <;> first | (simp; done) | with_reducible rfl)
  | (refine roundPart_foldl _ _ _ (fun a x => ?_); (repeat' split) <;> first | (simp; done) | with_reducible rfl)
  | ((try dsimp only); rw [roundPart_foldl] <;> first | (intro a x; (repeat' split) <;> first | (simp; done) | with_reducible rfl) | ((repeat' split) <;> first | (simp; done) | with_reducible rfl))
  | ((try dsimp only); (repeat' split) <;> first | (simp; done) | with_reducible rfl)
  | ((repeat' (with_reducible refine roundPart_ite ?_ ?_)) <;> first | (simp; done) | with_reducible rfl)
  | ((repeat' split) <;> first
      | (simp; done)
      | with_reducible rfl
      | (refine roundPart_foldl _ _ _ (fun a x => ?_); (repeat' split) <;> first | (simp; done) | with_reducible rfl)
      | ((try dsimp only); rw [roundPart_foldl] <;> first | (intro a x; (repeat' split) <;> first | (simp; done) | with_reducible rfl) | ((repeat' split) <;> first | (simp; done) | with_reducible rfl)))

@[simp↓] theorem roundPart_advertise (s : State) (level : Nat) : roundPart (State.advertise s level) = roundPart s := by
  unfold State.advertise
  first
  | ((try dsimp only); (repeat' (first | with_reducible rfl | (with_reducible refine (roundPart_foldl _ _ _ (fun _ _ => ?_)).trans ?_) | (simp; done) | split | (rw [roundPart_mk, roundPart_fold]))); done)
  | ((repeat' split) <;> first | (simp; done) | with_reducible rfl)
  | (refine roundPart_foldl _ _ _ (fun a x => ?_); (repeat' split) <;> first | (simp; done) | with_reducible rfl)
  | ((try dsimp only); rw [roundPart_foldl] <;> first | (intro a x; (repeat' split) <;> first | (simp; done) | with_reducible rfl) | ((repeat' split) <;> first | (simp; done) | with_reducible rfl))
  | ((try dsimp only); (repeat' split) <;> first | (simp; done) | with_reducible rfl)
  | ((repeat' (with_reducible refine roundPart_ite ?_ ?_)) <;> first | (simp; done) | with_reducible rfl)
  | ((repeat' split) <;> first
      | (simp; done)
      | with_reducible rfl
      | (refine roundPart_foldl _ _ _ (fun a x => ?_); (repeat' split) <;> first | (simp; done) | with_reducible rfl)
      | ((try dsimp only); rw [roundPart_foldl] <;> first | (intro a x; (repeat' split) <;> first | (simp; done) | with_reducible rfl) | ((repeat' split) <;> first | (simp; done) | with_reducible rfl)))

@[simp↓] theorem roundPart_setCoup (s : State) (i : Nat) (c : CoupSt) : roundPart (State.setCoup s i c) = roundPart s := by
  unfold State.setCoup
  first
  | ((try dsimp only); (repeat' (first | with_reducible rfl | (with_reducible refine (roundPart_foldl _ _ _ (fun _ _ => ?_)).trans ?_) | (simp; done) | split | (rw [roundPart_mk, roundPart_fold]))); done)
  | ((repeat' split) <;> first | (simp; done) | with_reducible rfl)
  | (refine roundPart_foldl _ _ _ (fun a x => ?_); (repeat' split) <;> first | (simp; done) | with_reducible rfl)
  | ((try dsimp only); rw [roundPart_foldl] <;> first | (intro a x; (repeat' split) <;> first | (simp; done) | with_reducible rfl) | ((repeat' split) <;> first | (simp; done) | with_reducible rfl))
  | ((try dsimp only); (repeat' split) <;> first | (simp; done) | with_reducible rfl)
  | ((repeat' (with_reducible refine roundPart_ite ?_ ?_)) <;> first | (simp; done) | with_reducible rfl)
  | ((repeat' split) <;> first
      | (simp; done)
      | with_reducible rfl
      | (refine roundPart_foldl _ _ _ (fun a x => ?_); (repeat' split) <;> first | (simp; done) | with_reducible rfl)
      | ((try dsimp only); rw [roundPart_foldl] <;> first | (intro a x; (repeat' split) <;> first | (simp; done) | with_reducible rfl) | ((repeat' split) <;> first | (simp; done) | with_reducible rfl)))

@[simp↓] theorem roundPart_fedRefresh (s : State) : roundPart (State.fedRefresh s) = roundPart s := by
  unfold State.fedRefresh
  first
  | ((try dsimp only); (repeat' (first | with_reducible rfl | (with_reducible refine (roundPart_foldl _ _ _ (fun _ _ => ?_)).trans ?_) | (simp; done) | split | (rw [roundPart_mk, roundPart_fold]))); done)
  | ((repeat' split) <;> first | (simp; done) | with_reducible rfl)
  | (refine roundPart_foldl _ _ _ (fun a x => ?_); (repeat' split) <;> first | (simp; done) | with_reducible rfl)
  | ((try dsimp only); rw [roundPart_foldl] <;> first | (intro a x; (repeat' split) <;> first | (simp; done) | with_reducible rfl) | ((repeat' split) <;> first | (simp; done) | with_reducible rfl))
  | ((try dsimp only); (repeat' split) <;> first | (simp; done) | with_reducible rfl)
  | ((repeat' (with_reducible refine roundPart_ite ?_ ?_)) <;> first | (simp; done) | with_reducible rfl)
  | ((repeat' split) <;> first
      | (simp; done)
      | with_reducible rfl
      | (refine roundPart_foldl _ _ _ (fun a x => ?_); (repeat' split) <;> first | (simp; done) | with_reducible rfl)
      | ((try dsimp only); rw [roundPart_foldl] <;> first | (intro a x; (repeat' split) <;> first | (simp; done) | with_reducible rfl) | ((repeat' split) <;> first | (simp; done) | with_reducible rfl)))

@[simp↓] theorem roundPart_buildProposals (s : State) (m : NetModel) (level : Nat) : roundPart (State.buildProposals s m level) = roundPart s := by
  unfold State.buildProposals
  first
  | ((try dsimp only); (repeat' (first | with_reducible rfl | (with_reducible refine (roundPart_foldl _ _ _ (fun _ _ => ?_)).trans ?_) | (simp; done) | split | (rw [roundPart_mk, roundPart_fold]))); done)
  | ((repeat' split) <;> first | (simp; done) | with_reducible rfl)
  | (refine roundPart_foldl _ _ _ (fun a x => ?_); (repeat' split) <;> first | (simp; done) | with_reducible rfl)
  | ((try dsimp only); rw [roundPart_foldl] <;> first | (intro a x; (repeat' split) <;> first | (simp; done) | with_reducible rfl) | ((repeat' split) <;> first | (simp; done) | with_reducible rfl))
  | ((try dsimp only); (repeat' split) <;> first | (simp; done) | with_reducible rfl)
  | ((repeat' (with_reducible refine roundPart_ite ?_ ?_)) <;> first | (simp; done) | with_reducible rfl)
  | ((repeat' split) <;> first
      | (simp; done)
      | with_reducible rfl
      | (refine roundPart_foldl _ _ _ (fun a x => ?_); (repeat' split) <;> first | (simp; done) | with_reducible rfl)
      | ((try dsimp only); rw [roundPart_foldl] <;> first | (intro a x; (repeat' split) <;> first | (simp; done) | with_reducible rfl) | ((repeat' split) <;> first | (simp; done) | with_reducible rfl)))

@[simp↓] theorem roundPart_sendProposals (s : State) (level : Nat) : roundPart (State.sendProposals s level) = roundPart s := by
  unfold State.sendProposals
  first
  | ((try dsimp only); (repeat' (first | with_reducible rfl | (with_reducible refine (roundPart_foldl _ _ _ (fun _ _ => ?_)).trans ?_) | (simp; done) | split | (rw [roundPart_mk, roundPart_fold]))); done)
  | ((repeat' split) <;> first | (simp; done) | with_reducible rfl)
  | (refine roundPart_foldl _ _ _ (fun a x => ?_); (repeat' split) <;> first | (simp; done) | with_reducible rfl)
  | ((try dsimp only); rw [roundPart_foldl] <;> first | (intro a x; (repeat' split) <;> first | (simp; done) | with_reducible rfl) | ((repeat' split) <;> first | (simp; done) | with_reducible rfl))
  | ((try dsimp only); (repeat' split) <;> first | (simp; done) | with_reducible rfl)
  | ((repeat' (with_reducible refine roundPart_ite ?_ ?_)) <;> first | (simp; done) | with_reducible rfl)
  | ((repeat' split) <;> first
      | (simp; done)
      | with_reducible rfl
      | (refine roundPart_foldl _ _ _ (fun a x => ?_); (repeat' split) <;> first | (simp; done) | with_reducible rfl)
      | ((try dsimp only); rw [roundPart_foldl] <;> first | (intro a x; (repeat' split) <;> first | (simp; done) | with_reducible rfl) | ((repeat' split) <;> first | (simp; done) | with_reducible rfl)))

@[simp↓] theorem roundPart_speakRound (s : State) (level : Nat) : roundPart (State.speakRound s level) = roundPart s := by
  unfold State.speakRound
  first
  | ((try dsimp only); (repeat' (first | with_reducible rfl | (with_reducible refine (roundPart_foldl _ _ _ (fun _ _ => ?_)).trans ?_) | (simp; done) | split | (rw [roundPart_mk, roundPart_fold]))); done)
  | ((repeat' split) <;> first | (simp; done) | with_reducible rfl)
  | (refine roundPart_foldl _ _ _ (fun a x => ?_); (repeat' split) <;> first | (simp; done) | with_reducible rfl)
  | ((try dsimp only); rw [roundPart_foldl] <;> first | (intro a x; (repeat' split) <;> first | (simp; done) | with_reducible rfl) | ((repeat' split) <;> first | (simp; done) | with_reducible rfl))
  | ((try dsimp only); (repeat' split) <;> first | (simp; done) | with_reducible rfl)
  | ((repeat' (with_reducible refine roundPart_ite ?_ ?_)) <;> first | (simp; done) | with_reducible rfl)
  | ((repeat' split) <;> first
      | (simp; done)
      | with_reducible rfl
      | (refine roundPart_foldl _ _ _ (fun a x => ?_); (repeat' split) <;> first | (simp; done) | with_reducible rfl)
      | ((try dsimp only); rw [roundPart_foldl] <;> first | (intro a x; (repeat' split) <;> first | (simp; done) | with_reducible rfl) | ((repeat' split) <;> first | (simp; done) | with_reducible rfl)))

/-- The parts `fed.peers`, `fed.members`, `fed.addr`, `epoch`, `order`. -/
def peersPart (s : State) := (s.fed.peers, s.fed.members, s.fed.addr, s.epoch, s.order)

@[simp] theorem peersPart_fold (s : State) : (s.fed.peers, s.fed.members, s.fed.addr, s.epoch, s.order) = peersPart s := rfl

@[simp↓] theorem peersPart_mk (epoch order ident host par lane prog model slv perc afe fed stn pts fio can net time key aud pair pwr rst drip past edge latch pending out free) : peersPart (State.mk epoch order ident host par lane prog model slv perc afe fed stn pts fio can net time key aud pair pwr rst drip past edge latch pending out free) = (fed.peers, fed.members, fed.addr, epoch, order) := rfl

theorem peersPart_silent {s t : State} (h : Silent s t) : peersPart t = peersPart s := by rw [h.rest]; rfl

theorem peersPart_ite {c : Prop} [Decidable c] {a b s : State} (ha : peersPart a = peersPart s) (hb : peersPart b = peersPart s) :
    peersPart (if c then a else b) = peersPart s := by
  split <;> assumption

theorem peersPart_foldl {α : Type} (l : List α) (f : State → α → State) (s : State) (h : ∀ a x, peersPart (f a x) = peersPart a) :
    peersPart (l.foldl f s) = peersPart s := by
  induction l generalizing s with
  | nil => rfl
  | cons x l ih => exact (ih _).trans (h s x)

@[simp↓] theorem peersPart_took (s : State) : peersPart (State.took s) = peersPart s := by
  unfold State.took
  first
  | ((try dsimp only); (repeat' (first | with_reducible rfl | (with_reducible refine (peersPart_foldl _ _ _ (fun _ _ => ?_)).trans ?_) | (simp; done) | split | (rw [peersPart_mk, peersPart_fold]))); done)
  | ((repeat' split) <;> first | (simp; done) | with_reducible rfl)
  | (refine peersPart_foldl _ _ _ (fun a x => ?_); (repeat' split) <;> first | (simp; done) | with_reducible rfl)
  | ((try dsimp only); rw [peersPart_foldl] <;> first | (intro a x; (repeat' split) <;> first | (simp; done) | with_reducible rfl) | ((repeat' split) <;> first | (simp; done) | with_reducible rfl))
  | ((try dsimp only); (repeat' split) <;> first | (simp; done) | with_reducible rfl)
  | ((repeat' (with_reducible refine peersPart_ite ?_ ?_)) <;> first | (simp; done) | with_reducible rfl)
  | ((repeat' split) <;> first
      | (simp; done)
      | with_reducible rfl
      | (refine peersPart_foldl _ _ _ (fun a x => ?_); (repeat' split) <;> first | (simp; done) | with_reducible rfl)
      | ((try dsimp only); rw [peersPart_foldl] <;> first | (intro a x; (repeat' split) <;> first | (simp; done) | with_reducible rfl) | ((repeat' split) <;> first | (simp; done) | with_reducible rfl)))

@[simp↓] theorem peersPart_closeEdge (s : State) : peersPart (State.closeEdge s) = peersPart s := by
  unfold State.closeEdge
  first
  | ((try dsimp only); (repeat' (first | with_reducible rfl | (with_reducible refine (peersPart_foldl _ _ _ (fun _ _ => ?_)).trans ?_) | (simp; done) | split | (rw [peersPart_mk, peersPart_fold]))); done)
  | ((repeat' split) <;> first | (simp; done) | with_reducible rfl)
  | (refine peersPart_foldl _ _ _ (fun a x => ?_); (repeat' split) <;> first | (simp; done) | with_reducible rfl)
  | ((try dsimp only); rw [peersPart_foldl] <;> first | (intro a x; (repeat' split) <;> first | (simp; done) | with_reducible rfl) | ((repeat' split) <;> first | (simp; done) | with_reducible rfl))
  | ((try dsimp only); (repeat' split) <;> first | (simp; done) | with_reducible rfl)
  | ((repeat' (with_reducible refine peersPart_ite ?_ ?_)) <;> first | (simp; done) | with_reducible rfl)
  | ((repeat' split) <;> first
      | (simp; done)
      | with_reducible rfl
      | (refine peersPart_foldl _ _ _ (fun a x => ?_); (repeat' split) <;> first | (simp; done) | with_reducible rfl)
      | ((try dsimp only); rw [peersPart_foldl] <;> first | (intro a x; (repeat' split) <;> first | (simp; done) | with_reducible rfl) | ((repeat' split) <;> first | (simp; done) | with_reducible rfl)))

@[simp↓] theorem peersPart_claimSeen (s : State) (claim : Nat) : peersPart (State.claimSeen s claim) = peersPart s := by
  unfold State.claimSeen
  first
  | ((try dsimp only); (repeat' (first | with_reducible rfl | (with_reducible refine (peersPart_foldl _ _ _ (fun _ _ => ?_)).trans ?_) | (simp; done) | split | (rw [peersPart_mk, peersPart_fold]))); done)
  | ((repeat' split) <;> first | (simp; done) | with_reducible rfl)
  | (refine peersPart_foldl _ _ _ (fun a x => ?_); (repeat' split) <;> first | (simp; done) | with_reducible rfl)
  | ((try dsimp only); rw [peersPart_foldl] <;> first | (intro a x; (repeat' split) <;> first | (simp; done) | with_reducible rfl) | ((repeat' split) <;> first | (simp; done) | with_reducible rfl))
  | ((try dsimp only); (repeat' split) <;> first | (simp; done) | with_reducible rfl)
  | ((repeat' (with_reducible refine peersPart_ite ?_ ?_)) <;> first | (simp; done) | with_reducible rfl)
  | ((repeat' split) <;> first
      | (simp; done)
      | with_reducible rfl
      | (refine peersPart_foldl _ _ _ (fun a x => ?_); (repeat' split) <;> first | (simp; done) | with_reducible rfl)
      | ((try dsimp only); rw [peersPart_foldl] <;> first | (intro a x; (repeat' split) <;> first | (simp; done) | with_reducible rfl) | ((repeat' split) <;> first | (simp; done) | with_reducible rfl)))

@[simp↓] theorem peersPart_setFloor (s : State) (level : Nat) (r : FloorRec) : peersPart (State.setFloor s level r) = peersPart s := by
  unfold State.setFloor
  first
  | ((try dsimp only); (repeat' (first | with_reducible rfl | (with_reducible refine (peersPart_foldl _ _ _ (fun _ _ => ?_)).trans ?_) | (simp; done) | split | (rw [peersPart_mk, peersPart_fold]))); done)
  | ((repeat' split) <;> first | (simp; done) | with_reducible rfl)
  | (refine peersPart_foldl _ _ _ (fun a x => ?_); (repeat' split) <;> first | (simp; done) | with_reducible rfl)
  | ((try dsimp only); rw [peersPart_foldl] <;> first | (intro a x; (repeat' split) <;> first | (simp; done) | with_reducible rfl) | ((repeat' split) <;> first | (simp; done) | with_reducible rfl))
  | ((try dsimp only); (repeat' split) <;> first | (simp; done) | with_reducible rfl)
  | ((repeat' (with_reducible refine peersPart_ite ?_ ?_)) <;> first | (simp; done) | with_reducible rfl)
  | ((repeat' split) <;> first
      | (simp; done)
      | with_reducible rfl
      | (refine peersPart_foldl _ _ _ (fun a x => ?_); (repeat' split) <;> first | (simp; done) | with_reducible rfl)
      | ((try dsimp only); rw [peersPart_foldl] <;> first | (intro a x; (repeat' split) <;> first | (simp; done) | with_reducible rfl) | ((repeat' split) <;> first | (simp; done) | with_reducible rfl)))

@[simp↓] theorem peersPart_setCoup (s : State) (i : Nat) (c : CoupSt) : peersPart (State.setCoup s i c) = peersPart s := by
  unfold State.setCoup
  first
  | ((try dsimp only); (repeat' (first | with_reducible rfl | (with_reducible refine (peersPart_foldl _ _ _ (fun _ _ => ?_)).trans ?_) | (simp; done) | split | (rw [peersPart_mk, peersPart_fold]))); done)
  | ((repeat' split) <;> first | (simp; done) | with_reducible rfl)
  | (refine peersPart_foldl _ _ _ (fun a x => ?_); (repeat' split) <;> first | (simp; done) | with_reducible rfl)
  | ((try dsimp only); rw [peersPart_foldl] <;> first | (intro a x; (repeat' split) <;> first | (simp; done) | with_reducible rfl) | ((repeat' split) <;> first | (simp; done) | with_reducible rfl))
  | ((try dsimp only); (repeat' split) <;> first | (simp; done) | with_reducible rfl)
  | ((repeat' (with_reducible refine peersPart_ite ?_ ?_)) <;> first | (simp; done) | with_reducible rfl)
  | ((repeat' split) <;> first
      | (simp; done)
      | with_reducible rfl
      | (refine peersPart_foldl _ _ _ (fun a x => ?_); (repeat' split) <;> first | (simp; done) | with_reducible rfl)
      | ((try dsimp only); rw [peersPart_foldl] <;> first | (intro a x; (repeat' split) <;> first | (simp; done) | with_reducible rfl) | ((repeat' split) <;> first | (simp; done) | with_reducible rfl)))

@[simp↓] theorem peersPart_agreeCase (s : State) (level : Nat) (round : Nat) (r : List Byte) (c : CoupSt) (own : Proposal) (x : Proposal) : peersPart (State.agreeCase s level round r c own x) = peersPart s := by
  unfold State.agreeCase
  first
  | ((try dsimp only); (repeat' (first | with_reducible rfl | (with_reducible refine (peersPart_foldl _ _ _ (fun _ _ => ?_)).trans ?_) | (simp; done) | split | (rw [peersPart_mk, peersPart_fold]))); done)
  | ((repeat' split) <;> first | (simp; done) | with_reducible rfl)
  | (refine peersPart_foldl _ _ _ (fun a x => ?_); (repeat' split) <;> first | (simp; done) | with_reducible rfl)
  | ((try dsimp only); rw [peersPart_foldl] <;> first | (intro a x; (repeat' split) <;> first | (simp; done) | with_reducible rfl) | ((repeat' split) <;> first | (simp; done) | with_reducible rfl))
  | ((try dsimp only); (repeat' split) <;> first | (simp; done) | with_reducible rfl)
  | ((repeat' (with_reducible refine peersPart_ite ?_ ?_)) <;> first | (simp; done) | with_reducible rfl)
  | ((repeat' split) <;> first
      | (simp; done)
      | with_reducible rfl
      | (refine peersPart_foldl _ _ _ (fun a x => ?_); (repeat' split) <;> first | (simp; done) | with_reducible rfl)
      | ((try dsimp only); rw [peersPart_foldl] <;> first | (intro a x; (repeat' split) <;> first | (simp; done) | with_reducible rfl) | ((repeat' split) <;> first | (simp; done) | with_reducible rfl)))

@[simp↓] theorem peersPart_entryRx (s : State) (level : Nat) (round : Nat) (r : List Byte) (x : Proposal) : peersPart (State.entryRx s level round r x) = peersPart s := by
  unfold State.entryRx
  first
  | ((try dsimp only); (repeat' (first | with_reducible rfl | (with_reducible refine (peersPart_foldl _ _ _ (fun _ _ => ?_)).trans ?_) | (simp; done) | split | (rw [peersPart_mk, peersPart_fold]))); done)
  | ((repeat' split) <;> first | (simp; done) | with_reducible rfl)
  | (refine peersPart_foldl _ _ _ (fun a x => ?_); (repeat' split) <;> first | (simp; done) | with_reducible rfl)
  | ((try dsimp only); rw [peersPart_foldl] <;> first | (intro a x; (repeat' split) <;> first | (simp; done) | with_reducible rfl) | ((repeat' split) <;> first | (simp; done) | with_reducible rfl))
  | ((try dsimp only); (repeat' split) <;> first | (simp; done) | with_reducible rfl)
  | ((repeat' (with_reducible refine peersPart_ite ?_ ?_)) <;> first | (simp; done) | with_reducible rfl)
  | ((repeat' split) <;> first
      | (simp; done)
      | with_reducible rfl
      | (refine peersPart_foldl _ _ _ (fun a x => ?_); (repeat' split) <;> first | (simp; done) | with_reducible rfl)
      | ((try dsimp only); rw [peersPart_foldl] <;> first | (intro a x; (repeat' split) <;> first | (simp; done) | with_reducible rfl) | ((repeat' split) <;> first | (simp; done) | with_reducible rfl)))

@[simp↓] theorem peersPart_qReject (s : State) : peersPart (State.qReject s) = peersPart s := by
  unfold State.qReject
  first
  | ((try dsimp only); (repeat' (first | with_reducible rfl | (with_reducible refine (peersPart_foldl _ _ _ (fun _ _ => ?_)).trans ?_) | (simp; done) | split | (rw [peersPart_mk, peersPart_fold]))); done)
  | ((repeat' split) <;> first | (simp; done) | with_reducible rfl)
  | (refine peersPart_foldl _ _ _ (fun a x => ?_); (repeat' split) <;> first | (simp; done) | with_reducible rfl)
  | ((try dsimp only); rw [peersPart_foldl] <;> first | (intro a x; (repeat' split) <;> first | (simp; done) | with_reducible rfl) | ((repeat' split) <;> first | (simp; done) | with_reducible rfl))
  | ((try dsimp only); (repeat' split) <;> first | (simp; done) | with_reducible rfl)
  | ((repeat' (with_reducible refine peersPart_ite ?_ ?_)) <;> first | (simp; done) | with_reducible rfl)
  | ((repeat' split) <;> first
      | (simp; done)
      | with_reducible rfl
      | (refine peersPart_foldl _ _ _ (fun a x => ?_); (repeat' split) <;> first | (simp; done) | with_reducible rfl)
      | ((try dsimp only); rw [peersPart_foldl] <;> first | (intro a x; (repeat' split) <;> first | (simp; done) | with_reducible rfl) | ((repeat' split) <;> first | (simp; done) | with_reducible rfl)))

@[simp↓] theorem peersPart_proposeIn (s : State) (m : QMsg) (ps : List Proposal) : peersPart (State.proposeIn s m ps) = peersPart s := by
  unfold State.proposeIn
  first
  | ((try dsimp only); (repeat' (first | with_reducible rfl | (with_reducible refine (peersPart_foldl _ _ _ (fun _ _ => ?_)).trans ?_) | (simp; done) | split | (rw [peersPart_mk, peersPart_fold]))); done)
  | ((repeat' split) <;> first | (simp; done) | with_reducible rfl)
  | (refine peersPart_foldl _ _ _ (fun a x => ?_); (repeat' split) <;> first | (simp; done) | with_reducible rfl)
  | ((try dsimp only); rw [peersPart_foldl] <;> first | (intro a x; (repeat' split) <;> first | (simp; done) | with_reducible rfl) | ((repeat' split) <;> first | (simp; done) | with_reducible rfl))
  | ((try dsimp only); (repeat' split) <;> first | (simp; done) | with_reducible rfl)
  | ((repeat' (with_reducible refine peersPart_ite ?_ ?_)) <;> first | (simp; done) | with_reducible rfl)
  | ((repeat' split) <;> first
      | (simp; done)
      | with_reducible rfl
      | (refine peersPart_foldl _ _ _ (fun a x => ?_); (repeat' split) <;> first | (simp; done) | with_reducible rfl)
      | ((try dsimp only); rw [peersPart_foldl] <;> first | (intro a x; (repeat' split) <;> first | (simp; done) | with_reducible rfl) | ((repeat' split) <;> first | (simp; done) | with_reducible rfl)))

@[simp↓] theorem peersPart_adoptFloors (s : State) (level : Nat) (fs : List (Nat × Nat × Nat × Nat)) : peersPart (State.adoptFloors s level fs) = peersPart s := by
  unfold State.adoptFloors
  first
  | ((try dsimp only); (repeat' (first | with_reducible rfl | (with_reducible refine (peersPart_foldl _ _ _ (fun _ _ => ?_)).trans ?_) | (simp; done) | split | (rw [peersPart_mk, peersPart_fold]))); done)
  | ((repeat' split) <;> first | (simp; done) | with_reducible rfl)
  | (refine peersPart_foldl _ _ _ (fun a x => ?_); (repeat' split) <;> first | (simp; done) | with_reducible rfl)
  | ((try dsimp only); rw [peersPart_foldl] <;> first | (intro a x; (repeat' split) <;> first | (simp; done) | with_reducible rfl) | ((repeat' split) <;> first | (simp; done) | with_reducible rfl))
  | ((try dsimp only); (repeat' split) <;> first | (simp; done) | with_reducible rfl)
  | ((repeat' (with_reducible refine peersPart_ite ?_ ?_)) <;> first | (simp; done) | with_reducible rfl)
  | ((repeat' split) <;> first
      | (simp; done)
      | with_reducible rfl
      | (refine peersPart_foldl _ _ _ (fun a x => ?_); (repeat' split) <;> first | (simp; done) | with_reducible rfl)
      | ((try dsimp only); rw [peersPart_foldl] <;> first | (intro a x; (repeat' split) <;> first | (simp; done) | with_reducible rfl) | ((repeat' split) <;> first | (simp; done) | with_reducible rfl)))

/-- The parts `pair.unit`, `pair.resuming`, `pair.claim`, `pair.lastTakeover`, `pair.takeovers`, `epoch`. -/
def tkPart (s : State) := (s.pair.unit, s.pair.resuming, s.pair.claim, s.pair.lastTakeover, s.pair.takeovers, s.epoch)

@[simp] theorem tkPart_fold (s : State) : (s.pair.unit, s.pair.resuming, s.pair.claim, s.pair.lastTakeover, s.pair.takeovers, s.epoch) = tkPart s := rfl

@[simp↓] theorem tkPart_mk (epoch order ident host par lane prog model slv perc afe fed stn pts fio can net time key aud pair pwr rst drip past edge latch pending out free) : tkPart (State.mk epoch order ident host par lane prog model slv perc afe fed stn pts fio can net time key aud pair pwr rst drip past edge latch pending out free) = (pair.unit, pair.resuming, pair.claim, pair.lastTakeover, pair.takeovers, epoch) := rfl

theorem tkPart_silent {s t : State} (h : Silent s t) : tkPart t = tkPart s := by rw [h.rest]; rfl

theorem tkPart_ite {c : Prop} [Decidable c] {a b s : State} (ha : tkPart a = tkPart s) (hb : tkPart b = tkPart s) :
    tkPart (if c then a else b) = tkPart s := by
  split <;> assumption

theorem tkPart_foldl {α : Type} (l : List α) (f : State → α → State) (s : State) (h : ∀ a x, tkPart (f a x) = tkPart a) :
    tkPart (l.foldl f s) = tkPart s := by
  induction l generalizing s with
  | nil => rfl
  | cons x l ih => exact (ih _).trans (h s x)

@[simp↓] theorem tkPart_emit (s : State) (m : OutMsg) : tkPart (State.emit s m) = tkPart s := by
  exact tkPart_silent (silent_emit _ _)

@[simp↓] theorem tkPart_sendMsix (s : State) (v : Nat) : tkPart (State.sendMsix s v) = tkPart s := by
  exact tkPart_silent (silent_sendMsix _ _)

@[simp↓] theorem tkPart_syncDev (s : State) : tkPart (State.syncDev s) = tkPart s := by
  unfold State.syncDev
  first
  | ((try dsimp only); (repeat' (first | with_reducible rfl | (with_reducible refine (tkPart_foldl _ _ _ (fun _ _ => ?_)).trans ?_) | (simp; done) | split | (rw [tkPart_mk, tkPart_fold]))); done)
  | ((repeat' split) <;> first | (simp; done) | with_reducible rfl)
  | (refine tkPart_foldl _ _ _ (fun a x => ?_); (repeat' split) <;> first | (simp; done) | with_reducible rfl)
  | ((try dsimp only); rw [tkPart_foldl] <;> first | (intro a x; (repeat' split) <;> first | (simp; done) | with_reducible rfl) | ((repeat' split) <;> first | (simp; done) | with_reducible rfl))
  | ((try dsimp only); (repeat' split) <;> first | (simp; done) | with_reducible rfl)
  | ((repeat' (with_reducible refine tkPart_ite ?_ ?_)) <;> first | (simp; done) | with_reducible rfl)
  | ((repeat' split) <;> first
      | (simp; done)
      | with_reducible rfl
      | (refine tkPart_foldl _ _ _ (fun a x => ?_); (repeat' split) <;> first | (simp; done) | with_reducible rfl)
      | ((try dsimp only); rw [tkPart_foldl] <;> first | (intro a x; (repeat' split) <;> first | (simp; done) | with_reducible rfl) | ((repeat' split) <;> first | (simp; done) | with_reducible rfl)))

@[simp↓] theorem tkPart_setQueue (s : State) (n : Nat) (q : QPair) : tkPart (State.setQueue s n q) = tkPart s := by
  unfold State.setQueue
  first
  | ((try dsimp only); (repeat' (first | with_reducible rfl | (with_reducible refine (tkPart_foldl _ _ _ (fun _ _ => ?_)).trans ?_) | (simp; done) | split | (rw [tkPart_mk, tkPart_fold]))); done)
  | ((repeat' split) <;> first | (simp; done) | with_reducible rfl)
  | (refine tkPart_foldl _ _ _ (fun a x => ?_); (repeat' split) <;> first | (simp; done) | with_reducible rfl)
  | ((try dsimp only); rw [tkPart_foldl] <;> first | (intro a x; (repeat' split) <;> first | (simp; done) | with_reducible rfl) | ((repeat' split) <;> first | (simp; done) | with_reducible rfl))
  | ((try dsimp only); (repeat' split) <;> first | (simp; done) | with_reducible rfl)
  | ((repeat' (with_reducible refine tkPart_ite ?_ ?_)) <;> first | (simp; done) | with_reducible rfl)
  | ((repeat' split) <;> first
      | (simp; done)
      | with_reducible rfl
      | (refine tkPart_foldl _ _ _ (fun a x => ?_); (repeat' split) <;> first | (simp; done) | with_reducible rfl)
      | ((try dsimp only); rw [tkPart_foldl] <;> first | (intro a x; (repeat' split) <;> first | (simp; done) | with_reducible rfl) | ((repeat' split) <;> first | (simp; done) | with_reducible rfl)))

@[simp↓] theorem tkPart_auditPush (s : State) (r : AuditRec) : tkPart (State.auditPush s r) = tkPart s := by
  exact tkPart_silent (silent_auditPush _ _)

@[simp↓] theorem tkPart_auditDev (s : State) (kind : Nat) (opcode : Nat) (status : Nat) (subject : Nat) (data : List Byte) : tkPart (State.auditDev s kind opcode status subject data) = tkPart s := by
  exact tkPart_silent (silent_auditPush _ _)

@[simp↓] theorem tkPart_auditApplied (s : State) (subject : Nat) : tkPart (State.auditApplied s subject) = tkPart s := by
  unfold State.auditApplied
  first
  | ((try dsimp only); (repeat' (first | with_reducible rfl | (with_reducible refine (tkPart_foldl _ _ _ (fun _ _ => ?_)).trans ?_) | (simp; done) | split | (rw [tkPart_mk, tkPart_fold]))); done)
  | ((repeat' split) <;> first | (simp; done) | with_reducible rfl)
  | (refine tkPart_foldl _ _ _ (fun a x => ?_); (repeat' split) <;> first | (simp; done) | with_reducible rfl)
  | ((try dsimp only); rw [tkPart_foldl] <;> first | (intro a x; (repeat' split) <;> first | (simp; done) | with_reducible rfl) | ((repeat' split) <;> first | (simp; done) | with_reducible rfl))
  | ((try dsimp only); (repeat' split) <;> first | (simp; done) | with_reducible rfl)
  | ((repeat' (with_reducible refine tkPart_ite ?_ ?_)) <;> first | (simp; done) | with_reducible rfl)
  | ((repeat' split) <;> first
      | (simp; done)
      | with_reducible rfl
      | (refine tkPart_foldl _ _ _ (fun a x => ?_); (repeat' split) <;> first | (simp; done) | with_reducible rfl)
      | ((try dsimp only); rw [tkPart_foldl] <;> first | (intro a x; (repeat' split) <;> first | (simp; done) | with_reducible rfl) | ((repeat' split) <;> first | (simp; done) | with_reducible rfl)))

@[simp↓] theorem tkPart_postQueue (s : State) (n : Nat) (e : Entry) (data : List Byte) : tkPart (State.postQueue s n e data).1 = tkPart s := by
  exact tkPart_silent (silent_postQueue _ _ _ _)

@[simp↓] theorem tkPart_post (s : State) (dst : Src) (e : Entry) (data : List Byte) : tkPart (State.post s dst e data).1 = tkPart s := by
  exact tkPart_silent (silent_post _ _ _ _)

@[simp↓] theorem tkPart_event (s : State) (code : Nat) (status : Nat) (data : List Byte) : tkPart (State.event s code status data) = tkPart s := by
  exact tkPart_silent (silent_event _ _ _ _)

@[simp↓] theorem tkPart_condition (s : State) (status : Nat) (data : List Byte) : tkPart (State.condition s status data) = tkPart s := by
  exact tkPart_silent (silent_condition _ _ _)

@[simp↓] theorem tkPart_openHandle (s : State) (src : Src) (cq : Src) (tag : U32) (op : Nat) : tkPart (State.openHandle s src cq tag op) = tkPart s := by
  unfold State.openHandle
  first
  | ((try dsimp only); (repeat' (first | with_reducible rfl | (with_reducible refine (tkPart_foldl _ _ _ (fun _ _ => ?_)).trans ?_) | (simp; done) | split | (rw [tkPart_mk, tkPart_fold]))); done)
  | ((repeat' split) <;> first | (simp; done) | with_reducible rfl)
  | (refine tkPart_foldl _ _ _ (fun a x => ?_); (repeat' split) <;> first | (simp; done) | with_reducible rfl)
  | ((try dsimp only); rw [tkPart_foldl] <;> first | (intro a x; (repeat' split) <;> first | (simp; done) | with_reducible rfl) | ((repeat' split) <;> first | (simp; done) | with_reducible rfl))
  | ((try dsimp only); (repeat' split) <;> first | (simp; done) | with_reducible rfl)
  | ((repeat' (with_reducible refine tkPart_ite ?_ ?_)) <;> first | (simp; done) | with_reducible rfl)
  | ((repeat' split) <;> first
      | (simp; done)
      | with_reducible rfl
      | (refine tkPart_foldl _ _ _ (fun a x => ?_); (repeat' split) <;> first | (simp; done) | with_reducible rfl)
      | ((try dsimp only); rw [tkPart_foldl] <;> first | (intro a x; (repeat' split) <;> first | (simp; done) | with_reducible rfl) | ((repeat' split) <;> first | (simp; done) | with_reducible rfl)))

@[simp↓] theorem tkPart_freeHandle (s : State) (i : Nat) : tkPart (State.freeHandle s i) = tkPart s := by
  unfold State.freeHandle
  first
  | ((try dsimp only); (repeat' (first | with_reducible rfl | (with_reducible refine (tkPart_foldl _ _ _ (fun _ _ => ?_)).trans ?_) | (simp; done) | split | (rw [tkPart_mk, tkPart_fold]))); done)
  | ((repeat' split) <;> first | (simp; done) | with_reducible rfl)
  | (refine tkPart_foldl _ _ _ (fun a x => ?_); (repeat' split) <;> first | (simp; done) | with_reducible rfl)
  | ((try dsimp only); rw [tkPart_foldl] <;> first | (intro a x; (repeat' split) <;> first | (simp; done) | with_reducible rfl) | ((repeat' split) <;> first | (simp; done) | with_reducible rfl))
  | ((try dsimp only); (repeat' split) <;> first | (simp; done) | with_reducible rfl)
  | ((repeat' (with_reducible refine tkPart_ite ?_ ?_)) <;> first | (simp; done) | with_reducible rfl)
  | ((repeat' split) <;> first
      | (simp; done)
      | with_reducible rfl
      | (refine tkPart_foldl _ _ _ (fun a x => ?_); (repeat' split) <;> first | (simp; done) | with_reducible rfl)
      | ((try dsimp only); rw [tkPart_foldl] <;> first | (intro a x; (repeat' split) <;> first | (simp; done) | with_reducible rfl) | ((repeat' split) <;> first | (simp; done) | with_reducible rfl)))

@[simp↓] theorem tkPart_complete (s : State) (h : U32) (status : Nat) (detail : Nat) (data : List Byte) : tkPart (State.complete s h status detail data) = tkPart s := by
  unfold State.complete
  first
  | ((try dsimp only); (repeat' (first | with_reducible rfl | (with_reducible refine (tkPart_foldl _ _ _ (fun _ _ => ?_)).trans ?_) | (simp; done) | split | (rw [tkPart_mk, tkPart_fold]))); done)
  | ((repeat' split) <;> first | (simp; done) | with_reducible rfl)
  | (refine tkPart_foldl _ _ _ (fun a x => ?_); (repeat' split) <;> first | (simp; done) | with_reducible rfl)
  | ((try dsimp only); rw [tkPart_foldl] <;> first | (intro a x; (repeat' split) <;> first | (simp; done) | with_reducible rfl) | ((repeat' split) <;> first | (simp; done) | with_reducible rfl))
  | ((try dsimp only); (repeat' split) <;> first | (simp; done) | with_reducible rfl)
  | ((repeat' (with_reducible refine tkPart_ite ?_ ?_)) <;> first | (simp; done) | with_reducible rfl)
  | ((repeat' split) <;> first
      | (simp; done)
      | with_reducible rfl
      | (refine tkPart_foldl _ _ _ (fun a x => ?_); (repeat' split) <;> first | (simp; done) | with_reducible rfl)
      | ((try dsimp only); rw [tkPart_foldl] <;> first | (intro a x; (repeat' split) <;> first | (simp; done) | with_reducible rfl) | ((repeat' split) <;> first | (simp; done) | with_reducible rfl)))

@[simp↓] theorem tkPart_setPt (s : State) (p : Nat) (v : Point) : tkPart (State.setPt s p v) = tkPart s := by
  unfold State.setPt
  first
  | ((try dsimp only); (repeat' (first | with_reducible rfl | (with_reducible refine (tkPart_foldl _ _ _ (fun _ _ => ?_)).trans ?_) | (simp; done) | split | (rw [tkPart_mk, tkPart_fold]))); done)
  | ((repeat' split) <;> first | (simp; done) | with_reducible rfl)
  | (refine tkPart_foldl _ _ _ (fun a x => ?_); (repeat' split) <;> first | (simp; done) | with_reducible rfl)
  | ((try dsimp only); rw [tkPart_foldl] <;> first | (intro a x; (repeat' split) <;> first | (simp; done) | with_reducible rfl) | ((repeat' split) <;> first | (simp; done) | with_reducible rfl))
  | ((try dsimp only); (repeat' split) <;> first | (simp; done) | with_reducible rfl)
  | ((repeat' (with_reducible refine tkPart_ite ?_ ?_)) <;> first | (simp; done) | with_reducible rfl)
  | ((repeat' split) <;> first
      | (simp; done)
      | with_reducible rfl
      | (refine tkPart_foldl _ _ _ (fun a x => ?_); (repeat' split) <;> first | (simp; done) | with_reducible rfl)
      | ((try dsimp only); rw [tkPart_foldl] <;> first | (intro a x; (repeat' split) <;> first | (simp; done) | with_reducible rfl) | ((repeat' split) <;> first | (simp; done) | with_reducible rfl)))

@[simp↓] theorem tkPart_took (s : State) : tkPart (State.took s) = tkPart s := by
  unfold State.took
  first
  | ((try dsimp only); (repeat' (first | with_reducible rfl | (with_reducible refine (tkPart_foldl _ _ _ (fun _ _ => ?_)).trans ?_) | (simp; done) | split | (rw [tkPart_mk, tkPart_fold]))); done)
  | ((repeat' split) <;> first | (simp; done) | with_reducible rfl)
  | (refine tkPart_foldl _ _ _ (fun a x => ?_); (repeat' split) <;> first | (simp; done) | with_reducible rfl)
  | ((try dsimp only); rw [tkPart_foldl] <;> first | (intro a x; (repeat' split) <;> first | (simp; done) | with_reducible rfl) | ((repeat' split) <;> first | (simp; done) | with_reducible rfl))
  | ((try dsimp only); (repeat' split) <;> first | (simp; done) | with_reducible rfl)
  | ((repeat' (with_reducible refine tkPart_ite ?_ ?_)) <;> first | (simp; done) | with_reducible rfl)
  | ((repeat' split) <;> first
      | (simp; done)
      | with_reducible rfl
      | (refine tkPart_foldl _ _ _ (fun a x => ?_); (repeat' split) <;> first | (simp; done) | with_reducible rfl)
      | ((try dsimp only); rw [tkPart_foldl] <;> first | (intro a x; (repeat' split) <;> first | (simp; done) | with_reducible rfl) | ((repeat' split) <;> first | (simp; done) | with_reducible rfl)))

@[simp↓] theorem tkPart_closeEdge (s : State) : tkPart (State.closeEdge s) = tkPart s := by
  unfold State.closeEdge
  first
  | ((try dsimp only); (repeat' (first | with_reducible rfl | (with_reducible refine (tkPart_foldl _ _ _ (fun _ _ => ?_)).trans ?_) | (simp; done) | split | (rw [tkPart_mk, tkPart_fold]))); done)
  | ((repeat' split) <;> first | (simp; done) | with_reducible rfl)
  | (refine tkPart_foldl _ _ _ (fun a x => ?_); (repeat' split) <;> first | (simp; done) | with_reducible rfl)
  | ((try dsimp only); rw [tkPart_foldl] <;> first | (intro a x; (repeat' split) <;> first | (simp; done) | with_reducible rfl) | ((repeat' split) <;> first | (simp; done) | with_reducible rfl))
  | ((try dsimp only); (repeat' split) <;> first | (simp; done) | with_reducible rfl)
  | ((repeat' (with_reducible refine tkPart_ite ?_ ?_)) <;> first | (simp; done) | with_reducible rfl)
  | ((repeat' split) <;> first
      | (simp; done)
      | with_reducible rfl
      | (refine tkPart_foldl _ _ _ (fun a x => ?_); (repeat' split) <;> first | (simp; done) | with_reducible rfl)
      | ((try dsimp only); rw [tkPart_foldl] <;> first | (intro a x; (repeat' split) <;> first | (simp; done) | with_reducible rfl) | ((repeat' split) <;> first | (simp; done) | with_reducible rfl)))

@[simp↓] theorem tkPart_setItem (s : State) (l : U64) (k : KeyItem) : tkPart (State.setItem s l k) = tkPart s := by
  unfold State.setItem
  first
  | ((try dsimp only); (repeat' (first | with_reducible rfl | (with_reducible refine (tkPart_foldl _ _ _ (fun _ _ => ?_)).trans ?_) | (simp; done) | split | (rw [tkPart_mk, tkPart_fold]))); done)
  | ((repeat' split) <;> first | (simp; done) | with_reducible rfl)
  | (refine tkPart_foldl _ _ _ (fun a x => ?_); (repeat' split) <;> first | (simp; done) | with_reducible rfl)
  | ((try dsimp only); rw [tkPart_foldl] <;> first | (intro a x; (repeat' split) <;> first | (simp; done) | with_reducible rfl) | ((repeat' split) <;> first | (simp; done) | with_reducible rfl))
  | ((try dsimp only); (repeat' split) <;> first | (simp; done) | with_reducible rfl)
  | ((repeat' (with_reducible refine tkPart_ite ?_ ?_)) <;> first | (simp; done) | with_reducible rfl)
  | ((repeat' split) <;> first
      | (simp; done)
      | with_reducible rfl
      | (refine tkPart_foldl _ _ _ (fun a x => ?_); (repeat' split) <;> first | (simp; done) | with_reducible rfl)
      | ((try dsimp only); rw [tkPart_foldl] <;> first | (intro a x; (repeat' split) <;> first | (simp; done) | with_reducible rfl) | ((repeat' split) <;> first | (simp; done) | with_reducible rfl)))

@[simp↓] theorem tkPart_dropItem (s : State) (l : U64) : tkPart (State.dropItem s l) = tkPart s := by
  unfold State.dropItem
  first
  | ((try dsimp only); (repeat' (first | with_reducible rfl | (with_reducible refine (tkPart_foldl _ _ _ (fun _ _ => ?_)).trans ?_) | (simp; done) | split | (rw [tkPart_mk, tkPart_fold]))); done)
  | ((repeat' split) <;> first | (simp; done) | with_reducible rfl)
  | (refine tkPart_foldl _ _ _ (fun a x => ?_); (repeat' split) <;> first | (simp; done) | with_reducible rfl)
  | ((try dsimp only); rw [tkPart_foldl] <;> first | (intro a x; (repeat' split) <;> first | (simp; done) | with_reducible rfl) | ((repeat' split) <;> first | (simp; done) | with_reducible rfl))
  | ((try dsimp only); (repeat' split) <;> first | (simp; done) | with_reducible rfl)
  | ((repeat' (with_reducible refine tkPart_ite ?_ ?_)) <;> first | (simp; done) | with_reducible rfl)
  | ((repeat' split) <;> first
      | (simp; done)
      | with_reducible rfl
      | (refine tkPart_foldl _ _ _ (fun a x => ?_); (repeat' split) <;> first | (simp; done) | with_reducible rfl)
      | ((try dsimp only); rw [tkPart_foldl] <;> first | (intro a x; (repeat' split) <;> first | (simp; done) | with_reducible rfl) | ((repeat' split) <;> first | (simp; done) | with_reducible rfl)))

@[simp↓] theorem tkPart_setPort (s : State) (p : Nat) (v : PortSt1) : tkPart (State.setPort s p v) = tkPart s := by
  unfold State.setPort
  first
  | ((try dsimp only); (repeat' (first | with_reducible rfl | (with_reducible refine (tkPart_foldl _ _ _ (fun _ _ => ?_)).trans ?_) | (simp; done) | split | (rw [tkPart_mk, tkPart_fold]))); done)
  | ((repeat' split) <;> first | (simp; done) | with_reducible rfl)
  | (refine tkPart_foldl _ _ _ (fun a x => ?_); (repeat' split) <;> first | (simp; done) | with_reducible rfl)
  | ((try dsimp only); rw [tkPart_foldl] <;> first | (intro a x; (repeat' split) <;> first | (simp; done) | with_reducible rfl) | ((repeat' split) <;> first | (simp; done) | with_reducible rfl))
  | ((try dsimp only); (repeat' split) <;> first | (simp; done) | with_reducible rfl)
  | ((repeat' (with_reducible refine tkPart_ite ?_ ?_)) <;> first | (simp; done) | with_reducible rfl)
  | ((repeat' split) <;> first
      | (simp; done)
      | with_reducible rfl
      | (refine tkPart_foldl _ _ _ (fun a x => ?_); (repeat' split) <;> first | (simp; done) | with_reducible rfl)
      | ((try dsimp only); rw [tkPart_foldl] <;> first | (intro a x; (repeat' split) <;> first | (simp; done) | with_reducible rfl) | ((repeat' split) <;> first | (simp; done) | with_reducible rfl)))

@[simp↓] theorem tkPart_refreshPorts (s : State) : tkPart (State.refreshPorts s) = tkPart s := by
  unfold State.refreshPorts
  first
  | ((try dsimp only); (repeat' (first | with_reducible rfl | (with_reducible refine (tkPart_foldl _ _ _ (fun _ _ => ?_)).trans ?_) | (simp; done) | split | (rw [tkPart_mk, tkPart_fold]))); done)
  | ((repeat' split) <;> first | (simp; done) | with_reducible rfl)
  | (refine tkPart_foldl _ _ _ (fun a x => ?_); (repeat' split) <;> first | (simp; done) | with_reducible rfl)
  | ((try dsimp only); rw [tkPart_foldl] <;> first | (intro a x; (repeat' split) <;> first | (simp; done) | with_reducible rfl) | ((repeat' split) <;> first | (simp; done) | with_reducible rfl))
  | ((try dsimp only); (repeat' split) <;> first | (simp; done) | with_reducible rfl)
  | ((repeat' (with_reducible refine tkPart_ite ?_ ?_)) <;> first | (simp; done) | with_reducible rfl)
  | ((repeat' split) <;> first
      | (simp; done)
      | with_reducible rfl
      | (refine tkPart_foldl _ _ _ (fun a x => ?_); (repeat' split) <;> first | (simp; done) | with_reducible rfl)
      | ((try dsimp only); rw [tkPart_foldl] <;> first | (intro a x; (repeat' split) <;> first | (simp; done) | with_reducible rfl) | ((repeat' split) <;> first | (simp; done) | with_reducible rfl)))

@[simp↓] theorem tkPart_wantMerge (s : State) (b : Nat) : tkPart (State.wantMerge s b) = tkPart s := by
  unfold State.wantMerge
  first
  | ((try dsimp only); (repeat' (first | with_reducible rfl | (with_reducible refine (tkPart_foldl _ _ _ (fun _ _ => ?_)).trans ?_) | (simp; done) | split | (rw [tkPart_mk, tkPart_fold]))); done)
  | ((repeat' split) <;> first | (simp; done) | with_reducible rfl)
  | (refine tkPart_foldl _ _ _ (fun a x => ?_); (repeat' split) <;> first | (simp; done) | with_reducible rfl)
  | ((try dsimp only); rw [tkPart_foldl] <;> first | (intro a x; (repeat' split) <;> first | (simp; done) | with_reducible rfl) | ((repeat' split) <;> first | (simp; done) | with_reducible rfl))
  | ((try dsimp only); (repeat' split) <;> first | (simp; done) | with_reducible rfl)
  | ((repeat' (with_reducible refine tkPart_ite ?_ ?_)) <;> first | (simp; done) | with_reducible rfl)
  | ((repeat' split) <;> first
      | (simp; done)
      | with_reducible rfl
      | (refine tkPart_foldl _ _ _ (fun a x => ?_); (repeat' split) <;> first | (simp; done) | with_reducible rfl)
      | ((try dsimp only); rw [tkPart_foldl] <;> first | (intro a x; (repeat' split) <;> first | (simp; done) | with_reducible rfl) | ((repeat' split) <;> first | (simp; done) | with_reducible rfl)))

@[simp↓] theorem tkPart_stopMerge (s : State) : tkPart (State.stopMerge s) = tkPart s := by
  unfold State.stopMerge
  first
  | ((try dsimp only); (repeat' (first | with_reducible rfl | (with_reducible refine (tkPart_foldl _ _ _ (fun _ _ => ?_)).trans ?_) | (simp; done) | split | (rw [tkPart_mk, tkPart_fold]))); done)
  | ((repeat' split) <;> first | (simp; done) | with_reducible rfl)
  | (refine tkPart_foldl _ _ _ (fun a x => ?_); (repeat' split) <;> first | (simp; done) | with_reducible rfl)
  | ((try dsimp only); rw [tkPart_foldl] <;> first | (intro a x; (repeat' split) <;> first | (simp; done) | with_reducible rfl) | ((repeat' split) <;> first | (simp; done) | with_reducible rfl))
  | ((try dsimp only); (repeat' split) <;> first | (simp; done) | with_reducible rfl)
  | ((repeat' (with_reducible refine tkPart_ite ?_ ?_)) <;> first | (simp; done) | with_reducible rfl)
  | ((repeat' split) <;> first
      | (simp; done)
      | with_reducible rfl
      | (refine tkPart_foldl _ _ _ (fun a x => ?_); (repeat' split) <;> first | (simp; done) | with_reducible rfl)
      | ((try dsimp only); rw [tkPart_foldl] <;> first | (intro a x; (repeat' split) <;> first | (simp; done) | with_reducible rfl) | ((repeat' split) <;> first | (simp; done) | with_reducible rfl)))

@[simp↓] theorem tkPart_toTb1 (s : State) : tkPart (State.toTb1 s) = tkPart s := by
  unfold State.toTb1
  first
  | ((try dsimp only); (repeat' (first | with_reducible rfl | (with_reducible refine (tkPart_foldl _ _ _ (fun _ _ => ?_)).trans ?_) | (simp; done) | split | (rw [tkPart_mk, tkPart_fold]))); done)
  | ((repeat' split) <;> first | (simp; done) | with_reducible rfl)
  | (refine tkPart_foldl _ _ _ (fun a x => ?_); (repeat' split) <;> first | (simp; done) | with_reducible rfl)
  | ((try dsimp only); rw [tkPart_foldl] <;> first | (intro a x; (repeat' split) <;> first | (simp; done) | with_reducible rfl) | ((repeat' split) <;> first | (simp; done) | with_reducible rfl))
  | ((try dsimp only); (repeat' split) <;> first | (simp; done) | with_reducible rfl)
  | ((repeat' (with_reducible refine tkPart_ite ?_ ?_)) <;> first | (simp; done) | with_reducible rfl)
  | ((repeat' split) <;> first
      | (simp; done)
      | with_reducible rfl
      | (refine tkPart_foldl _ _ _ (fun a x => ?_); (repeat' split) <;> first | (simp; done) | with_reducible rfl)
      | ((try dsimp only); rw [tkPart_foldl] <;> first | (intro a x; (repeat' split) <;> first | (simp; done) | with_reducible rfl) | ((repeat' split) <;> first | (simp; done) | with_reducible rfl)))

@[simp↓] theorem tkPart_tb0Free (s : State) : tkPart (State.tb0Free s) = tkPart s := by
  have key : ∀ (w : State) a b c, tkPart { w with time.tb0State := a, time.lockFrom := b, time.mergeWaiting := c } = tkPart w := fun _ _ _ _ => rfl
  unfold State.tb0Free
  dsimp only
  refine (key _ _ _ _).trans ?_
  exact tkPart_ite (tkPart_toTb1 _) rfl

@[simp↓] theorem tkPart_timeCommitted (s : State) (old : State) : tkPart (State.timeCommitted s old) = tkPart s := by
  have key : ∀ (w : State) a b, tkPart { w with time.tb0State := a, time.lockFrom := b } = tkPart w := fun _ _ _ => rfl
  have key2 : ∀ (w : State) a, tkPart { w with time.mergeWaiting := a } = tkPart w := fun _ _ => rfl
  unfold State.timeCommitted
  dsimp only
  have h1 : ∀ c1 c2 c3 : Prop, ∀ [Decidable c1] [Decidable c2] [Decidable c3],
      tkPart (if c1 then s else if c2 then s.tb0Free else if c3 then { s with time.tb0State := 1, time.lockFrom := none } else s) = tkPart s := by
    intro c1 c2 c3 _ _ _
    exact tkPart_ite rfl (tkPart_ite (tkPart_tb0Free s) (tkPart_ite (key _ _ _) rfl))
  generalize hw : (if s.pn P.TIME_SOURCE 0 = old.pn P.TIME_SOURCE 0 then s else _) = w
  have hx : tkPart w = tkPart s := by rw [← hw]; exact h1 _ _ _
  clear hw
  refine (tkPart_ite (s := w) rfl ?_).trans hx
  refine Eq.trans ?_ (tkPart_stopMerge w)
  generalize w.stopMerge = v
  split
  · exact tkPart_ite (key2 _ _) rfl
  · exact tkPart_ite rfl (key2 _ _)

@[simp↓] theorem tkPart_sendPlain (s : State) (p : Nat) (ethertype : Nat) (dst : BitVec 48) (bytes : List Byte) : tkPart (State.sendPlain s p ethertype dst bytes) = tkPart s := by
  unfold State.sendPlain
  first
  | ((try dsimp only); (repeat' (first | with_reducible rfl | (with_reducible refine (tkPart_foldl _ _ _ (fun _ _ => ?_)).trans ?_) | (simp; done) | split | (rw [tkPart_mk, tkPart_fold]))); done)
  | ((repeat' split) <;> first | (simp; done) | with_reducible rfl)
  | (refine tkPart_foldl _ _ _ (fun a x => ?_); (repeat' split) <;> first | (simp; done) | with_reducible rfl)
  | ((try dsimp only); rw [tkPart_foldl] <;> first | (intro a x; (repeat' split) <;> first | (simp; done) | with_reducible rfl) | ((repeat' split) <;> first | (simp; done) | with_reducible rfl))
  | ((try dsimp only); (repeat' split) <;> first | (simp; done) | with_reducible rfl)
  | ((repeat' (with_reducible refine tkPart_ite ?_ ?_)) <;> first | (simp; done) | with_reducible rfl)
  | ((repeat' split) <;> first
      | (simp; done)
      | with_reducible rfl
      | (refine tkPart_foldl _ _ _ (fun a x => ?_); (repeat' split) <;> first | (simp; done) | with_reducible rfl)
      | ((try dsimp only); rw [tkPart_foldl] <;> first | (intro a x; (repeat' split) <;> first | (simp; done) | with_reducible rfl) | ((repeat' split) <;> first | (simp; done) | with_reducible rfl)))

@[simp↓] theorem tkPart_sendOn (s : State) (p : Nat) (ethertype : Nat) (dst : BitVec 48) (bytes : List Byte) : tkPart (State.sendOn s p ethertype dst bytes) = tkPart s := by
  unfold State.sendOn
  first
  | ((try dsimp only); (repeat' (first | with_reducible rfl | (with_reducible refine (tkPart_foldl _ _ _ (fun _ _ => ?_)).trans ?_) | (simp; done) | split | (rw [tkPart_mk, tkPart_fold]))); done)
  | ((repeat' split) <;> first | (simp; done) | with_reducible rfl)
  | (refine tkPart_foldl _ _ _ (fun a x => ?_); (repeat' split) <;> first | (simp; done) | with_reducible rfl)
  | ((try dsimp only); rw [tkPart_foldl] <;> first | (intro a x; (repeat' split) <;> first | (simp; done) | with_reducible rfl) | ((repeat' split) <;> first | (simp; done) | with_reducible rfl))
  | ((try dsimp only); (repeat' split) <;> first | (simp; done) | with_reducible rfl)
  | ((repeat' (with_reducible refine tkPart_ite ?_ ?_)) <;> first | (simp; done) | with_reducible rfl)
  | ((repeat' split) <;> first
      | (simp; done)
      | with_reducible rfl
      | (refine tkPart_foldl _ _ _ (fun a x => ?_); (repeat' split) <;> first | (simp; done) | with_reducible rfl)
      | ((try dsimp only); rw [tkPart_foldl] <;> first | (intro a x; (repeat' split) <;> first | (simp; done) | with_reducible rfl) | ((repeat' split) <;> first | (simp; done) | with_reducible rfl)))

@[simp↓] theorem tkPart_setFio (s : State) (c : Nat) (v : FioCh) : tkPart (State.setFio s c v) = tkPart s := by
  unfold State.setFio
  first
  | ((try dsimp only); (repeat' (first | with_reducible rfl | (with_reducible refine (tkPart_foldl _ _ _ (fun _ _ => ?_)).trans ?_) | (simp; done) | split | (rw [tkPart_mk, tkPart_fold]))); done)
  | ((repeat' split) <;> first | (simp; done) | with_reducible rfl)
  | (refine tkPart_foldl _ _ _ (fun a x => ?_); (repeat' split) <;> first | (simp; done) | with_reducible rfl)
  | ((try dsimp only); rw [tkPart_foldl] <;> first | (intro a x; (repeat' split) <;> first | (simp; done) | with_reducible rfl) | ((repeat' split) <;> first | (simp; done) | with_reducible rfl))
  | ((try dsimp only); (repeat' split) <;> first | (simp; done) | with_reducible rfl)
  | ((repeat' (with_reducible refine tkPart_ite ?_ ?_)) <;> first | (simp; done) | with_reducible rfl)
  | ((repeat' split) <;> first
      | (simp; done)
      | with_reducible rfl
      | (refine tkPart_foldl _ _ _ (fun a x => ?_); (repeat' split) <;> first | (simp; done) | with_reducible rfl)
      | ((try dsimp only); rw [tkPart_foldl] <;> first | (intro a x; (repeat' split) <;> first | (simp; done) | with_reducible rfl) | ((repeat' split) <;> first | (simp; done) | with_reducible rfl)))

@[simp↓] theorem tkPart_setAout (s : State) (a : Nat) (v : AoutCh) : tkPart (State.setAout s a v) = tkPart s := by
  unfold State.setAout
  first
  | ((try dsimp only); (repeat' (first | with_reducible rfl | (with_reducible refine (tkPart_foldl _ _ _ (fun _ _ => ?_)).trans ?_) | (simp; done) | split | (rw [tkPart_mk, tkPart_fold]))); done)
  | ((repeat' split) <;> first | (simp; done) | with_reducible rfl)
  | (refine tkPart_foldl _ _ _ (fun a x => ?_); (repeat' split) <;> first | (simp; done) | with_reducible rfl)
  | ((try dsimp only); rw [tkPart_foldl] <;> first | (intro a x; (repeat' split) <;> first | (simp; done) | with_reducible rfl) | ((repeat' split) <;> first | (simp; done) | with_reducible rfl))
  | ((try dsimp only); (repeat' split) <;> first | (simp; done) | with_reducible rfl)
  | ((repeat' (with_reducible refine tkPart_ite ?_ ?_)) <;> first | (simp; done) | with_reducible rfl)
  | ((repeat' split) <;> first
      | (simp; done)
      | with_reducible rfl
      | (refine tkPart_foldl _ _ _ (fun a x => ?_); (repeat' split) <;> first | (simp; done) | with_reducible rfl)
      | ((try dsimp only); rw [tkPart_foldl] <;> first | (intro a x; (repeat' split) <;> first | (simp; done) | with_reducible rfl) | ((repeat' split) <;> first | (simp; done) | with_reducible rfl)))

@[simp↓] theorem tkPart_driveCh (s : State) (c : Nat) : tkPart (State.driveCh s c) = tkPart s := by
  unfold State.driveCh
  first
  | ((try dsimp only); (repeat' (first | with_reducible rfl | (with_reducible refine (tkPart_foldl _ _ _ (fun _ _ => ?_)).trans ?_) | (simp; done) | split | (rw [tkPart_mk, tkPart_fold]))); done)
  | ((repeat' split) <;> first | (simp; done) | with_reducible rfl)
  | (refine tkPart_foldl _ _ _ (fun a x => ?_); (repeat' split) <;> first | (simp; done) | with_reducible rfl)
  | ((try dsimp only); rw [tkPart_foldl] <;> first | (intro a x; (repeat' split) <;> first | (simp; done) | with_reducible rfl) | ((repeat' split) <;> first | (simp; done) | with_reducible rfl))
  | ((try dsimp only); (repeat' split) <;> first | (simp; done) | with_reducible rfl)
  | ((repeat' (with_reducible refine tkPart_ite ?_ ?_)) <;> first | (simp; done) | with_reducible rfl)
  | ((repeat' split) <;> first
      | (simp; done)
      | with_reducible rfl
      | (refine tkPart_foldl _ _ _ (fun a x => ?_); (repeat' split) <;> first | (simp; done) | with_reducible rfl)
      | ((try dsimp only); rw [tkPart_foldl] <;> first | (intro a x; (repeat' split) <;> first | (simp; done) | with_reducible rfl) | ((repeat' split) <;> first | (simp; done) | with_reducible rfl)))

@[simp↓] theorem tkPart_driveAout (s : State) (a : Nat) : tkPart (State.driveAout s a) = tkPart s := by
  unfold State.driveAout
  first
  | ((try dsimp only); (repeat' (first | with_reducible rfl | (with_reducible refine (tkPart_foldl _ _ _ (fun _ _ => ?_)).trans ?_) | (simp; done) | split | (rw [tkPart_mk, tkPart_fold]))); done)
  | ((repeat' split) <;> first | (simp; done) | with_reducible rfl)
  | (refine tkPart_foldl _ _ _ (fun a x => ?_); (repeat' split) <;> first | (simp; done) | with_reducible rfl)
  | ((try dsimp only); rw [tkPart_foldl] <;> first | (intro a x; (repeat' split) <;> first | (simp; done) | with_reducible rfl) | ((repeat' split) <;> first | (simp; done) | with_reducible rfl))
  | ((try dsimp only); (repeat' split) <;> first | (simp; done) | with_reducible rfl)
  | ((repeat' (with_reducible refine tkPart_ite ?_ ?_)) <;> first | (simp; done) | with_reducible rfl)
  | ((repeat' split) <;> first
      | (simp; done)
      | with_reducible rfl
      | (refine tkPart_foldl _ _ _ (fun a x => ?_); (repeat' split) <;> first | (simp; done) | with_reducible rfl)
      | ((try dsimp only); rw [tkPart_foldl] <;> first | (intro a x; (repeat' split) <;> first | (simp; done) | with_reducible rfl) | ((repeat' split) <;> first | (simp; done) | with_reducible rfl)))

@[simp↓] theorem tkPart_kept (s : State) (p : Nat) (st : BitVec 16) : tkPart (State.kept s p st) = tkPart s := by
  unfold State.kept
  first
  | ((try dsimp only); (repeat' (first | with_reducible rfl | (with_reducible refine (tkPart_foldl _ _ _ (fun _ _ => ?_)).trans ?_) | (simp; done) | split | (rw [tkPart_mk, tkPart_fold]))); done)
  | ((repeat' split) <;> first | (simp; done) | with_reducible rfl)
  | (refine tkPart_foldl _ _ _ (fun a x => ?_); (repeat' split) <;> first | (simp; done) | with_reducible rfl)
  | ((try dsimp only); rw [tkPart_foldl] <;> first | (intro a x; (repeat' split) <;> first | (simp; done) | with_reducible rfl) | ((repeat' split) <;> first | (simp; done) | with_reducible rfl))
  | ((try dsimp only); (repeat' split) <;> first | (simp; done) | with_reducible rfl)
  | ((repeat' (with_reducible refine tkPart_ite ?_ ?_)) <;> first | (simp; done) | with_reducible rfl)
  | ((repeat' split) <;> first
      | (simp; done)
      | with_reducible rfl
      | (refine tkPart_foldl _ _ _ (fun a x => ?_); (repeat' split) <;> first | (simp; done) | with_reducible rfl)
      | ((try dsimp only); rw [tkPart_foldl] <;> first | (intro a x; (repeat' split) <;> first | (simp; done) | with_reducible rfl) | ((repeat' split) <;> first | (simp; done) | with_reducible rfl)))

@[simp↓] theorem tkPart_unused (s : State) (p : Nat) : tkPart (State.unused s p) = tkPart s := by
  unfold State.unused
  first
  | ((try dsimp only); (repeat' (first | with_reducible rfl | (with_reducible refine (tkPart_foldl _ _ _ (fun _ _ => ?_)).trans ?_) | (simp; done) | split | (rw [tkPart_mk, tkPart_fold]))); done)
  | ((repeat' split) <;> first | (simp; done) | with_reducible rfl)
  | (refine tkPart_foldl _ _ _ (fun a x => ?_); (repeat' split) <;> first | (simp; done) | with_reducible rfl)
  | ((try dsimp only); rw [tkPart_foldl] <;> first | (intro a x; (repeat' split) <;> first | (simp; done) | with_reducible rfl) | ((repeat' split) <;> first | (simp; done) | with_reducible rfl))
  | ((try dsimp only); (repeat' split) <;> first | (simp; done) | with_reducible rfl)
  | ((repeat' (with_reducible refine tkPart_ite ?_ ?_)) <;> first | (simp; done) | with_reducible rfl)
  | ((repeat' split) <;> first
      | (simp; done)
      | with_reducible rfl
      | (refine tkPart_foldl _ _ _ (fun a x => ?_); (repeat' split) <;> first | (simp; done) | with_reducible rfl)
      | ((try dsimp only); rw [tkPart_foldl] <;> first | (intro a x; (repeat' split) <;> first | (simp; done) | with_reducible rfl) | ((repeat' split) <;> first | (simp; done) | with_reducible rfl)))

@[simp↓] theorem tkPart_applyCh (s : State) (c : Nat) (v : F32) (a : Nat) : tkPart (State.applyCh s c v a) = tkPart s := by
  unfold State.applyCh
  first
  | ((try dsimp only); (repeat' (first | with_reducible rfl | (with_reducible refine (tkPart_foldl _ _ _ (fun _ _ => ?_)).trans ?_) | (simp; done) | split | (rw [tkPart_mk, tkPart_fold]))); done)
  | ((repeat' split) <;> first | (simp; done) | with_reducible rfl)
  | (refine tkPart_foldl _ _ _ (fun a x => ?_); (repeat' split) <;> first | (simp; done) | with_reducible rfl)
  | ((try dsimp only); rw [tkPart_foldl] <;> first | (intro a x; (repeat' split) <;> first | (simp; done) | with_reducible rfl) | ((repeat' split) <;> first | (simp; done) | with_reducible rfl))
  | ((try dsimp only); (repeat' split) <;> first | (simp; done) | with_reducible rfl)
  | ((repeat' (with_reducible refine tkPart_ite ?_ ?_)) <;> first | (simp; done) | with_reducible rfl)
  | ((repeat' split) <;> first
      | (simp; done)
      | with_reducible rfl
      | (refine tkPart_foldl _ _ _ (fun a x => ?_); (repeat' split) <;> first | (simp; done) | with_reducible rfl)
      | ((try dsimp only); rw [tkPart_foldl] <;> first | (intro a x; (repeat' split) <;> first | (simp; done) | with_reducible rfl) | ((repeat' split) <;> first | (simp; done) | with_reducible rfl)))

@[simp↓] theorem tkPart_applyAout (s : State) (k : Nat) (v : F32) (a : Nat) : tkPart (State.applyAout s k v a) = tkPart s := by
  unfold State.applyAout
  first
  | ((try dsimp only); (repeat' (first | with_reducible rfl | (with_reducible refine (tkPart_foldl _ _ _ (fun _ _ => ?_)).trans ?_) | (simp; done) | split | (rw [tkPart_mk, tkPart_fold]))); done)
  | ((repeat' split) <;> first | (simp; done) | with_reducible rfl)
  | (refine tkPart_foldl _ _ _ (fun a x => ?_); (repeat' split) <;> first | (simp; done) | with_reducible rfl)
  | ((try dsimp only); rw [tkPart_foldl] <;> first | (intro a x; (repeat' split) <;> first | (simp; done) | with_reducible rfl) | ((repeat' split) <;> first | (simp; done) | with_reducible rfl))
  | ((try dsimp only); (repeat' split) <;> first | (simp; done) | with_reducible rfl)
  | ((repeat' (with_reducible refine tkPart_ite ?_ ?_)) <;> first | (simp; done) | with_reducible rfl)
  | ((repeat' split) <;> first
      | (simp; done)
      | with_reducible rfl
      | (refine tkPart_foldl _ _ _ (fun a x => ?_); (repeat' split) <;> first | (simp; done) | with_reducible rfl)
      | ((try dsimp only); rw [tkPart_foldl] <;> first | (intro a x; (repeat' split) <;> first | (simp; done) | with_reducible rfl) | ((repeat' split) <;> first | (simp; done) | with_reducible rfl)))

@[simp↓] theorem tkPart_applyLocal (s : State) (p : Nat) (v : F32) (a : Nat) : tkPart (State.applyLocal s p v a) = tkPart s := by
  unfold State.applyLocal
  first
  | ((try dsimp only); (repeat' (first | with_reducible rfl | (with_reducible refine (tkPart_foldl _ _ _ (fun _ _ => ?_)).trans ?_) | (simp; done) | split | (rw [tkPart_mk, tkPart_fold]))); done)
  | ((repeat' split) <;> first | (simp; done) | with_reducible rfl)
  | (refine tkPart_foldl _ _ _ (fun a x => ?_); (repeat' split) <;> first | (simp; done) | with_reducible rfl)
  | ((try dsimp only); rw [tkPart_foldl] <;> first | (intro a x; (repeat' split) <;> first | (simp; done) | with_reducible rfl) | ((repeat' split) <;> first | (simp; done) | with_reducible rfl))
  | ((try dsimp only); (repeat' split) <;> first | (simp; done) | with_reducible rfl)
  | ((repeat' (with_reducible refine tkPart_ite ?_ ?_)) <;> first | (simp; done) | with_reducible rfl)
  | ((repeat' split) <;> first
      | (simp; done)
      | with_reducible rfl
      | (refine tkPart_foldl _ _ _ (fun a x => ?_); (repeat' split) <;> first | (simp; done) | with_reducible rfl)
      | ((try dsimp only); rw [tkPart_foldl] <;> first | (intro a x; (repeat' split) <;> first | (simp; done) | with_reducible rfl) | ((repeat' split) <;> first | (simp; done) | with_reducible rfl)))

@[simp↓] theorem tkPart_queueMode (s : State) (c : Nat) (m : Nat) : tkPart (State.queueMode s c m) = tkPart s := by
  unfold State.queueMode
  first
  | ((try dsimp only); (repeat' (first | with_reducible rfl | (with_reducible refine (tkPart_foldl _ _ _ (fun _ _ => ?_)).trans ?_) | (simp; done) | split | (rw [tkPart_mk, tkPart_fold]))); done)
  | ((repeat' split) <;> first | (simp; done) | with_reducible rfl)
  | (refine tkPart_foldl _ _ _ (fun a x => ?_); (repeat' split) <;> first | (simp; done) | with_reducible rfl)
  | ((try dsimp only); rw [tkPart_foldl] <;> first | (intro a x; (repeat' split) <;> first | (simp; done) | with_reducible rfl) | ((repeat' split) <;> first | (simp; done) | with_reducible rfl))
  | ((try dsimp only); (repeat' split) <;> first | (simp; done) | with_reducible rfl)
  | ((repeat' (with_reducible refine tkPart_ite ?_ ?_)) <;> first | (simp; done) | with_reducible rfl)
  | ((repeat' split) <;> first
      | (simp; done)
      | with_reducible rfl
      | (refine tkPart_foldl _ _ _ (fun a x => ?_); (repeat' split) <;> first | (simp; done) | with_reducible rfl)
      | ((try dsimp only); rw [tkPart_foldl] <;> first | (intro a x; (repeat' split) <;> first | (simp; done) | with_reducible rfl) | ((repeat' split) <;> first | (simp; done) | with_reducible rfl)))

@[simp↓] theorem tkPart_queueRange (s : State) (a : Nat) (m : Nat) : tkPart (State.queueRange s a m) = tkPart s := by
  unfold State.queueRange
  first
  | ((try dsimp only); (repeat' (first | with_reducible rfl | (with_reducible refine (tkPart_foldl _ _ _ (fun _ _ => ?_)).trans ?_) | (simp; done) | split | (rw [tkPart_mk, tkPart_fold]))); done)
  | ((repeat' split) <;> first | (simp; done) | with_reducible rfl)
  | (refine tkPart_foldl _ _ _ (fun a x => ?_); (repeat' split) <;> first | (simp; done) | with_reducible rfl)
  | ((try dsimp only); rw [tkPart_foldl] <;> first | (intro a x; (repeat' split) <;> first | (simp; done) | with_reducible rfl) | ((repeat' split) <;> first | (simp; done) | with_reducible rfl))
  | ((try dsimp only); (repeat' split) <;> first | (simp; done) | with_reducible rfl)
  | ((repeat' (with_reducible refine tkPart_ite ?_ ?_)) <;> first | (simp; done) | with_reducible rfl)
  | ((repeat' split) <;> first
      | (simp; done)
      | with_reducible rfl
      | (refine tkPart_foldl _ _ _ (fun a x => ?_); (repeat' split) <;> first | (simp; done) | with_reducible rfl)
      | ((try dsimp only); rw [tkPart_foldl] <;> first | (intro a x; (repeat' split) <;> first | (simp; done) | with_reducible rfl) | ((repeat' split) <;> first | (simp; done) | with_reducible rfl)))

@[simp↓] theorem tkPart_startModes (s : State) : tkPart (State.startModes s) = tkPart s := by
  unfold State.startModes
  first
  | ((try dsimp only); (repeat' (first | with_reducible rfl | (with_reducible refine (tkPart_foldl _ _ _ (fun _ _ => ?_)).trans ?_) | (simp; done) | split | (rw [tkPart_mk, tkPart_fold]))); done)
  | ((repeat' split) <;> first | (simp; done) | with_reducible rfl)
  | (refine tkPart_foldl _ _ _ (fun a x => ?_); (repeat' split) <;> first | (simp; done) | with_reducible rfl)
  | ((try dsimp only); rw [tkPart_foldl] <;> first | (intro a x; (repeat' split) <;> first | (simp; done) | with_reducible rfl) | ((repeat' split) <;> first | (simp; done) | with_reducible rfl))
  | ((try dsimp only); (repeat' split) <;> first | (simp; done) | with_reducible rfl)
  | ((repeat' (with_reducible refine tkPart_ite ?_ ?_)) <;> first | (simp; done) | with_reducible rfl)
  | ((repeat' split) <;> first
      | (simp; done)
      | with_reducible rfl
      | (refine tkPart_foldl _ _ _ (fun a x => ?_); (repeat' split) <;> first | (simp; done) | with_reducible rfl)
      | ((try dsimp only); rw [tkPart_foldl] <;> first | (intro a x; (repeat' split) <;> first | (simp; done) | with_reducible rfl) | ((repeat' split) <;> first | (simp; done) | with_reducible rfl)))

@[simp↓] theorem tkPart_firstOutCfg (s : State) : tkPart (State.firstOutCfg s) = tkPart s := by
  have key : ∀ (w : State) b, tkPart { w with rst.outCfgDone := b } = tkPart w := fun _ _ => rfl
  unfold State.firstOutCfg
  split
  · rfl
  split
  · rfl
  split
  · rfl
  dsimp only
  refine (key _ _).trans ?_
  refine (tkPart_foldl _ _ _ (fun a k => ?_)).trans (tkPart_foldl _ _ _ (fun a k => ?_))
  · split
    · rfl
    · exact tkPart_queueRange _ _ _
  · split
    · rfl
    · exact tkPart_queueMode _ _ _

@[simp↓] theorem tkPart_setCanCh (s : State) (c : Nat) (v : CanCh) : tkPart (State.setCanCh s c v) = tkPart s := by
  unfold State.setCanCh
  first
  | ((try dsimp only); (repeat' (first | with_reducible rfl | (with_reducible refine (tkPart_foldl _ _ _ (fun _ _ => ?_)).trans ?_) | (simp; done) | split | (rw [tkPart_mk, tkPart_fold]))); done)
  | ((repeat' split) <;> first | (simp; done) | with_reducible rfl)
  | (refine tkPart_foldl _ _ _ (fun a x => ?_); (repeat' split) <;> first | (simp; done) | with_reducible rfl)
  | ((try dsimp only); rw [tkPart_foldl] <;> first | (intro a x; (repeat' split) <;> first | (simp; done) | with_reducible rfl) | ((repeat' split) <;> first | (simp; done) | with_reducible rfl))
  | ((try dsimp only); (repeat' split) <;> first | (simp; done) | with_reducible rfl)
  | ((repeat' (with_reducible refine tkPart_ite ?_ ?_)) <;> first | (simp; done) | with_reducible rfl)
  | ((repeat' split) <;> first
      | (simp; done)
      | with_reducible rfl
      | (refine tkPart_foldl _ _ _ (fun a x => ?_); (repeat' split) <;> first | (simp; done) | with_reducible rfl)
      | ((try dsimp only); rw [tkPart_foldl] <;> first | (intro a x; (repeat' split) <;> first | (simp; done) | with_reducible rfl) | ((repeat' split) <;> first | (simp; done) | with_reducible rfl)))

@[simp↓] theorem tkPart_setCanBuf (s : State) (c : Nat) (b : Nat) (v : CanBuf) : tkPart (State.setCanBuf s c b v) = tkPart s := by
  unfold State.setCanBuf
  first
  | ((try dsimp only); (repeat' (first | with_reducible rfl | (with_reducible refine (tkPart_foldl _ _ _ (fun _ _ => ?_)).trans ?_) | (simp; done) | split | (rw [tkPart_mk, tkPart_fold]))); done)
  | ((repeat' split) <;> first | (simp; done) | with_reducible rfl)
  | (refine tkPart_foldl _ _ _ (fun a x => ?_); (repeat' split) <;> first | (simp; done) | with_reducible rfl)
  | ((try dsimp only); rw [tkPart_foldl] <;> first | (intro a x; (repeat' split) <;> first | (simp; done) | with_reducible rfl) | ((repeat' split) <;> first | (simp; done) | with_reducible rfl))
  | ((try dsimp only); (repeat' split) <;> first | (simp; done) | with_reducible rfl)
  | ((repeat' (with_reducible refine tkPart_ite ?_ ?_)) <;> first | (simp; done) | with_reducible rfl)
  | ((repeat' split) <;> first
      | (simp; done)
      | with_reducible rfl
      | (refine tkPart_foldl _ _ _ (fun a x => ?_); (repeat' split) <;> first | (simp; done) | with_reducible rfl)
      | ((try dsimp only); rw [tkPart_foldl] <;> first | (intro a x; (repeat' split) <;> first | (simp; done) | with_reducible rfl) | ((repeat' split) <;> first | (simp; done) | with_reducible rfl)))

@[simp↓] theorem tkPart_setCanPt (s : State) (p : Nat) (v : CanPt) : tkPart (State.setCanPt s p v) = tkPart s := by
  unfold State.setCanPt
  first
  | ((try dsimp only); (repeat' (first | with_reducible rfl | (with_reducible refine (tkPart_foldl _ _ _ (fun _ _ => ?_)).trans ?_) | (simp; done) | split | (rw [tkPart_mk, tkPart_fold]))); done)
  | ((repeat' split) <;> first | (simp; done) | with_reducible rfl)
  | (refine tkPart_foldl _ _ _ (fun a x => ?_); (repeat' split) <;> first | (simp; done) | with_reducible rfl)
  | ((try dsimp only); rw [tkPart_foldl] <;> first | (intro a x; (repeat' split) <;> first | (simp; done) | with_reducible rfl) | ((repeat' split) <;> first | (simp; done) | with_reducible rfl))
  | ((try dsimp only); (repeat' split) <;> first | (simp; done) | with_reducible rfl)
  | ((repeat' (with_reducible refine tkPart_ite ?_ ?_)) <;> first | (simp; done) | with_reducible rfl)
  | ((repeat' split) <;> first
      | (simp; done)
      | with_reducible rfl
      | (refine tkPart_foldl _ _ _ (fun a x => ?_); (repeat' split) <;> first | (simp; done) | with_reducible rfl)
      | ((try dsimp only); rw [tkPart_foldl] <;> first | (intro a x; (repeat' split) <;> first | (simp; done) | with_reducible rfl) | ((repeat' split) <;> first | (simp; done) | with_reducible rfl)))

@[simp↓] theorem tkPart_canDiag (s : State) (p : Nat) (d : Nat) (on : Bool) : tkPart (State.canDiag s p d on) = tkPart s := by
  unfold State.canDiag
  first
  | ((try dsimp only); (repeat' (first | with_reducible rfl | (with_reducible refine (tkPart_foldl _ _ _ (fun _ _ => ?_)).trans ?_) | (simp; done) | split | (rw [tkPart_mk, tkPart_fold]))); done)
  | ((repeat' split) <;> first | (simp; done) | with_reducible rfl)
  | (refine tkPart_foldl _ _ _ (fun a x => ?_); (repeat' split) <;> first | (simp; done) | with_reducible rfl)
  | ((try dsimp only); rw [tkPart_foldl] <;> first | (intro a x; (repeat' split) <;> first | (simp; done) | with_reducible rfl) | ((repeat' split) <;> first | (simp; done) | with_reducible rfl))
  | ((try dsimp only); (repeat' split) <;> first | (simp; done) | with_reducible rfl)
  | ((repeat' (with_reducible refine tkPart_ite ?_ ?_)) <;> first | (simp; done) | with_reducible rfl)
  | ((repeat' split) <;> first
      | (simp; done)
      | with_reducible rfl
      | (refine tkPart_foldl _ _ _ (fun a x => ?_); (repeat' split) <;> first | (simp; done) | with_reducible rfl)
      | ((try dsimp only); rw [tkPart_foldl] <;> first | (intro a x; (repeat' split) <;> first | (simp; done) | with_reducible rfl) | ((repeat' split) <;> first | (simp; done) | with_reducible rfl)))

@[simp↓] theorem tkPart_canStart (s : State) (c : Nat) : tkPart (State.canStart s c) = tkPart s := by
  unfold State.canStart
  first
  | ((try dsimp only); (repeat' (first | with_reducible rfl | (with_reducible refine (tkPart_foldl _ _ _ (fun _ _ => ?_)).trans ?_) | (simp; done) | split | (rw [tkPart_mk, tkPart_fold]))); done)
  | ((repeat' split) <;> first | (simp; done) | with_reducible rfl)
  | (refine tkPart_foldl _ _ _ (fun a x => ?_); (repeat' split) <;> first | (simp; done) | with_reducible rfl)
  | ((try dsimp only); rw [tkPart_foldl] <;> first | (intro a x; (repeat' split) <;> first | (simp; done) | with_reducible rfl) | ((repeat' split) <;> first | (simp; done) | with_reducible rfl))
  | ((try dsimp only); (repeat' split) <;> first | (simp; done) | with_reducible rfl)
  | ((repeat' (with_reducible refine tkPart_ite ?_ ?_)) <;> first | (simp; done) | with_reducible rfl)
  | ((repeat' split) <;> first
      | (simp; done)
      | with_reducible rfl
      | (refine tkPart_foldl _ _ _ (fun a x => ?_); (repeat' split) <;> first | (simp; done) | with_reducible rfl)
      | ((try dsimp only); rw [tkPart_foldl] <;> first | (intro a x; (repeat' split) <;> first | (simp; done) | with_reducible rfl) | ((repeat' split) <;> first | (simp; done) | with_reducible rfl)))

@[simp↓] theorem tkPart_queueBuf (s : State) (c : Nat) (b : Nat) : tkPart (State.queueBuf s c b) = tkPart s := by
  unfold State.queueBuf
  first
  | ((try dsimp only); (repeat' (first | with_reducible rfl | (with_reducible refine (tkPart_foldl _ _ _ (fun _ _ => ?_)).trans ?_) | (simp; done) | split | (rw [tkPart_mk, tkPart_fold]))); done)
  | ((repeat' split) <;> first | (simp; done) | with_reducible rfl)
  | (refine tkPart_foldl _ _ _ (fun a x => ?_); (repeat' split) <;> first | (simp; done) | with_reducible rfl)
  | ((try dsimp only); rw [tkPart_foldl] <;> first | (intro a x; (repeat' split) <;> first | (simp; done) | with_reducible rfl) | ((repeat' split) <;> first | (simp; done) | with_reducible rfl))
  | ((try dsimp only); (repeat' split) <;> first | (simp; done) | with_reducible rfl)
  | ((repeat' (with_reducible refine tkPart_ite ?_ ?_)) <;> first | (simp; done) | with_reducible rfl)
  | ((repeat' split) <;> first
      | (simp; done)
      | with_reducible rfl
      | (refine tkPart_foldl _ _ _ (fun a x => ?_); (repeat' split) <;> first | (simp; done) | with_reducible rfl)
      | ((try dsimp only); rw [tkPart_foldl] <;> first | (intro a x; (repeat' split) <;> first | (simp; done) | with_reducible rfl) | ((repeat' split) <;> first | (simp; done) | with_reducible rfl)))

@[simp↓] theorem tkPart_canHandleEnd (s : State) (c : Nat) (b : Nat) (outcome : Nat) : tkPart (State.canHandleEnd s c b outcome) = tkPart s := by
  unfold State.canHandleEnd
  first
  | ((try dsimp only); (repeat' (first | with_reducible rfl | (with_reducible refine (tkPart_foldl _ _ _ (fun _ _ => ?_)).trans ?_) | (simp; done) | split | (rw [tkPart_mk, tkPart_fold]))); done)
  | ((repeat' split) <;> first | (simp; done) | with_reducible rfl)
  | (refine tkPart_foldl _ _ _ (fun a x => ?_); (repeat' split) <;> first | (simp; done) | with_reducible rfl)
  | ((try dsimp only); rw [tkPart_foldl] <;> first | (intro a x; (repeat' split) <;> first | (simp; done) | with_reducible rfl) | ((repeat' split) <;> first | (simp; done) | with_reducible rfl))
  | ((try dsimp only); (repeat' split) <;> first | (simp; done) | with_reducible rfl)
  | ((repeat' (with_reducible refine tkPart_ite ?_ ?_)) <;> first | (simp; done) | with_reducible rfl)
  | ((repeat' split) <;> first
      | (simp; done)
      | with_reducible rfl
      | (refine tkPart_foldl _ _ _ (fun a x => ?_); (repeat' split) <;> first | (simp; done) | with_reducible rfl)
      | ((try dsimp only); rw [tkPart_foldl] <;> first | (intro a x; (repeat' split) <;> first | (simp; done) | with_reducible rfl) | ((repeat' split) <;> first | (simp; done) | with_reducible rfl)))

@[simp↓] theorem tkPart_canEnd (s : State) (c : Nat) (b : Nat) (outcome : Nat) (late : Bool) : tkPart (State.canEnd s c b outcome late) = tkPart s := by
  unfold State.canEnd
  first
  | ((try dsimp only); (repeat' (first | with_reducible rfl | (with_reducible refine (tkPart_foldl _ _ _ (fun _ _ => ?_)).trans ?_) | (simp; done) | split | (rw [tkPart_mk, tkPart_fold]))); done)
  | ((repeat' split) <;> first | (simp; done) | with_reducible rfl)
  | (refine tkPart_foldl _ _ _ (fun a x => ?_); (repeat' split) <;> first | (simp; done) | with_reducible rfl)
  | ((try dsimp only); rw [tkPart_foldl] <;> first | (intro a x; (repeat' split) <;> first | (simp; done) | with_reducible rfl) | ((repeat' split) <;> first | (simp; done) | with_reducible rfl))
  | ((try dsimp only); (repeat' split) <;> first | (simp; done) | with_reducible rfl)
  | ((repeat' (with_reducible refine tkPart_ite ?_ ?_)) <;> first | (simp; done) | with_reducible rfl)
  | ((repeat' split) <;> first
      | (simp; done)
      | with_reducible rfl
      | (refine tkPart_foldl _ _ _ (fun a x => ?_); (repeat' split) <;> first | (simp; done) | with_reducible rfl)
      | ((try dsimp only); rw [tkPart_foldl] <;> first | (intro a x; (repeat' split) <;> first | (simp; done) | with_reducible rfl) | ((repeat' split) <;> first | (simp; done) | with_reducible rfl)))

@[simp↓] theorem tkPart_canEndHost (s : State) (c : Nat) (outcome : Nat) (shots : Bool) : tkPart (State.canEndHost s c outcome shots) = tkPart s := by
  unfold State.canEndHost
  first
  | ((try dsimp only); (repeat' (first | with_reducible rfl | (with_reducible refine (tkPart_foldl _ _ _ (fun _ _ => ?_)).trans ?_) | (simp; done) | split | (rw [tkPart_mk, tkPart_fold]))); done)
  | ((repeat' split) <;> first | (simp; done) | with_reducible rfl)
  | (refine tkPart_foldl _ _ _ (fun a x => ?_); (repeat' split) <;> first | (simp; done) | with_reducible rfl)
  | ((try dsimp only); rw [tkPart_foldl] <;> first | (intro a x; (repeat' split) <;> first | (simp; done) | with_reducible rfl) | ((repeat' split) <;> first | (simp; done) | with_reducible rfl))
  | ((try dsimp only); (repeat' split) <;> first | (simp; done) | with_reducible rfl)
  | ((repeat' (with_reducible refine tkPart_ite ?_ ?_)) <;> first | (simp; done) | with_reducible rfl)
  | ((repeat' split) <;> first
      | (simp; done)
      | with_reducible rfl
      | (refine tkPart_foldl _ _ _ (fun a x => ?_); (repeat' split) <;> first | (simp; done) | with_reducible rfl)
      | ((try dsimp only); rw [tkPart_foldl] <;> first | (intro a x; (repeat' split) <;> first | (simp; done) | with_reducible rfl) | ((repeat' split) <;> first | (simp; done) | with_reducible rfl)))

@[simp↓] theorem tkPart_canStartAll (s : State) : tkPart (State.canStartAll s) = tkPart s := by
  unfold State.canStartAll
  first
  | ((try dsimp only); (repeat' (first | with_reducible rfl | (with_reducible refine (tkPart_foldl _ _ _ (fun _ _ => ?_)).trans ?_) | (simp; done) | split | (rw [tkPart_mk, tkPart_fold]))); done)
  | ((repeat' split) <;> first | (simp; done) | with_reducible rfl)
  | (refine tkPart_foldl _ _ _ (fun a x => ?_); (repeat' split) <;> first | (simp; done) | with_reducible rfl)
  | ((try dsimp only); rw [tkPart_foldl] <;> first | (intro a x; (repeat' split) <;> first | (simp; done) | with_reducible rfl) | ((repeat' split) <;> first | (simp; done) | with_reducible rfl))
  | ((try dsimp only); (repeat' split) <;> first | (simp; done) | with_reducible rfl)
  | ((repeat' (with_reducible refine tkPart_ite ?_ ?_)) <;> first | (simp; done) | with_reducible rfl)
  | ((repeat' split) <;> first
      | (simp; done)
      | with_reducible rfl
      | (refine tkPart_foldl _ _ _ (fun a x => ?_); (repeat' split) <;> first | (simp; done) | with_reducible rfl)
      | ((try dsimp only); rw [tkPart_foldl] <;> first | (intro a x; (repeat' split) <;> first | (simp; done) | with_reducible rfl) | ((repeat' split) <;> first | (simp; done) | with_reducible rfl)))

@[simp↓] theorem tkPart_canPtStatus (s : State) (c : Nat) (b : Nat) (p : Nat) (rx : Bool) : tkPart (State.canPtStatus s c b p rx) = tkPart s := by
  unfold State.canPtStatus
  first
  | ((try dsimp only); (repeat' (first | with_reducible rfl | (with_reducible refine (tkPart_foldl _ _ _ (fun _ _ => ?_)).trans ?_) | (simp; done) | split | (rw [tkPart_mk, tkPart_fold]))); done)
  | ((repeat' split) <;> first | (simp; done) | with_reducible rfl)
  | (refine tkPart_foldl _ _ _ (fun a x => ?_); (repeat' split) <;> first | (simp; done) | with_reducible rfl)
  | ((try dsimp only); rw [tkPart_foldl] <;> first | (intro a x; (repeat' split) <;> first | (simp; done) | with_reducible rfl) | ((repeat' split) <;> first | (simp; done) | with_reducible rfl))
  | ((try dsimp only); (repeat' split) <;> first | (simp; done) | with_reducible rfl)
  | ((repeat' (with_reducible refine tkPart_ite ?_ ?_)) <;> first | (simp; done) | with_reducible rfl)
  | ((repeat' split) <;> first
      | (simp; done)
      | with_reducible rfl
      | (refine tkPart_foldl _ _ _ (fun a x => ?_); (repeat' split) <;> first | (simp; done) | with_reducible rfl)
      | ((try dsimp only); rw [tkPart_foldl] <;> first | (intro a x; (repeat' split) <;> first | (simp; done) | with_reducible rfl) | ((repeat' split) <;> first | (simp; done) | with_reducible rfl)))

@[simp↓] theorem tkPart_applyCan (s : State) (p : Nat) (v : F32) (a : Nat) : tkPart (State.applyCan s p v a) = tkPart s := by
  unfold State.applyCan
  first
  | ((try dsimp only); (repeat' (first | with_reducible rfl | (with_reducible refine (tkPart_foldl _ _ _ (fun _ _ => ?_)).trans ?_) | (simp; done) | split | (rw [tkPart_mk, tkPart_fold]))); done)
  | ((repeat' split) <;> first | (simp; done) | with_reducible rfl)
  | (refine tkPart_foldl _ _ _ (fun a x => ?_); (repeat' split) <;> first | (simp; done) | with_reducible rfl)
  | ((try dsimp only); rw [tkPart_foldl] <;> first | (intro a x; (repeat' split) <;> first | (simp; done) | with_reducible rfl) | ((repeat' split) <;> first | (simp; done) | with_reducible rfl))
  | ((try dsimp only); (repeat' split) <;> first | (simp; done) | with_reducible rfl)
  | ((repeat' (with_reducible refine tkPart_ite ?_ ?_)) <;> first | (simp; done) | with_reducible rfl)
  | ((repeat' split) <;> first
      | (simp; done)
      | with_reducible rfl
      | (refine tkPart_foldl _ _ _ (fun a x => ?_); (repeat' split) <;> first | (simp; done) | with_reducible rfl)
      | ((try dsimp only); rw [tkPart_foldl] <;> first | (intro a x; (repeat' split) <;> first | (simp; done) | with_reducible rfl) | ((repeat' split) <;> first | (simp; done) | with_reducible rfl)))

@[simp↓] theorem tkPart_applyPoint (s : State) (p : Nat) (v : F32) (a : Nat) : tkPart (State.applyPoint s p v a) = tkPart s := by
  unfold State.applyPoint
  first
  | ((try dsimp only); (repeat' (first | with_reducible rfl | (with_reducible refine (tkPart_foldl _ _ _ (fun _ _ => ?_)).trans ?_) | (simp; done) | split | (rw [tkPart_mk, tkPart_fold]))); done)
  | ((repeat' split) <;> first | (simp; done) | with_reducible rfl)
  | (refine tkPart_foldl _ _ _ (fun a x => ?_); (repeat' split) <;> first | (simp; done) | with_reducible rfl)
  | ((try dsimp only); rw [tkPart_foldl] <;> first | (intro a x; (repeat' split) <;> first | (simp; done) | with_reducible rfl) | ((repeat' split) <;> first | (simp; done) | with_reducible rfl))
  | ((try dsimp only); (repeat' split) <;> first | (simp; done) | with_reducible rfl)
  | ((repeat' (with_reducible refine tkPart_ite ?_ ?_)) <;> first | (simp; done) | with_reducible rfl)
  | ((repeat' split) <;> first
      | (simp; done)
      | with_reducible rfl
      | (refine tkPart_foldl _ _ _ (fun a x => ?_); (repeat' split) <;> first | (simp; done) | with_reducible rfl)
      | ((try dsimp only); rw [tkPart_foldl] <;> first | (intro a x; (repeat' split) <;> first | (simp; done) | with_reducible rfl) | ((repeat' split) <;> first | (simp; done) | with_reducible rfl)))

@[simp↓] theorem tkPart_setTask (s : State) (t : Nat) (v : TaskSt) : tkPart (State.setTask s t v) = tkPart s := by
  unfold State.setTask
  first
  | ((try dsimp only); (repeat' (first | with_reducible rfl | (with_reducible refine (tkPart_foldl _ _ _ (fun _ _ => ?_)).trans ?_) | (simp; done) | split | (rw [tkPart_mk, tkPart_fold]))); done)
  | ((repeat' split) <;> first | (simp; done) | with_reducible rfl)
  | (refine tkPart_foldl _ _ _ (fun a x => ?_); (repeat' split) <;> first | (simp; done) | with_reducible rfl)
  | ((try dsimp only); rw [tkPart_foldl] <;> first | (intro a x; (repeat' split) <;> first | (simp; done) | with_reducible rfl) | ((repeat' split) <;> first | (simp; done) | with_reducible rfl))
  | ((try dsimp only); (repeat' split) <;> first | (simp; done) | with_reducible rfl)
  | ((repeat' (with_reducible refine tkPart_ite ?_ ?_)) <;> first | (simp; done) | with_reducible rfl)
  | ((repeat' split) <;> first
      | (simp; done)
      | with_reducible rfl
      | (refine tkPart_foldl _ _ _ (fun a x => ?_); (repeat' split) <;> first | (simp; done) | with_reducible rfl)
      | ((try dsimp only); rw [tkPart_foldl] <;> first | (intro a x; (repeat' split) <;> first | (simp; done) | with_reducible rfl) | ((repeat' split) <;> first | (simp; done) | with_reducible rfl)))

@[simp↓] theorem tkPart_setStn (s : State) (n : Nat) (v : Stn) : tkPart (State.setStn s n v) = tkPart s := by
  unfold State.setStn
  first
  | ((try dsimp only); (repeat' (first | with_reducible rfl | (with_reducible refine (tkPart_foldl _ _ _ (fun _ _ => ?_)).trans ?_) | (simp; done) | split | (rw [tkPart_mk, tkPart_fold]))); done)
  | ((repeat' split) <;> first | (simp; done) | with_reducible rfl)
  | (refine tkPart_foldl _ _ _ (fun a x => ?_); (repeat' split) <;> first | (simp; done) | with_reducible rfl)
  | ((try dsimp only); rw [tkPart_foldl] <;> first | (intro a x; (repeat' split) <;> first | (simp; done) | with_reducible rfl) | ((repeat' split) <;> first | (simp; done) | with_reducible rfl))
  | ((try dsimp only); (repeat' split) <;> first | (simp; done) | with_reducible rfl)
  | ((repeat' (with_reducible refine tkPart_ite ?_ ?_)) <;> first | (simp; done) | with_reducible rfl)
  | ((repeat' split) <;> first
      | (simp; done)
      | with_reducible rfl
      | (refine tkPart_foldl _ _ _ (fun a x => ?_); (repeat' split) <;> first | (simp; done) | with_reducible rfl)
      | ((try dsimp only); rw [tkPart_foldl] <;> first | (intro a x; (repeat' split) <;> first | (simp; done) | with_reducible rfl) | ((repeat' split) <;> first | (simp; done) | with_reducible rfl)))

@[simp↓] theorem tkPart_sendSeg (s : State) (n : Nat) (ftype : Nat) (epoch : Nat) (seg : Nat) (segs : Nat) (first : Nat) (count : Nat) (key : List Byte) (payload : List Byte) : tkPart (State.sendSeg s n ftype epoch seg segs first count key payload) = tkPart s := by
  unfold State.sendSeg
  first
  | ((try dsimp only); (repeat' (first | with_reducible rfl | (with_reducible refine (tkPart_foldl _ _ _ (fun _ _ => ?_)).trans ?_) | (simp; done) | split | (rw [tkPart_mk, tkPart_fold]))); done)
  | ((repeat' split) <;> first | (simp; done) | with_reducible rfl)
  | (refine tkPart_foldl _ _ _ (fun a x => ?_); (repeat' split) <;> first | (simp; done) | with_reducible rfl)
  | ((try dsimp only); rw [tkPart_foldl] <;> first | (intro a x; (repeat' split) <;> first | (simp; done) | with_reducible rfl) | ((repeat' split) <;> first | (simp; done) | with_reducible rfl))
  | ((try dsimp only); (repeat' split) <;> first | (simp; done) | with_reducible rfl)
  | ((repeat' (with_reducible refine tkPart_ite ?_ ?_)) <;> first | (simp; done) | with_reducible rfl)
  | ((repeat' split) <;> first
      | (simp; done)
      | with_reducible rfl
      | (refine tkPart_foldl _ _ _ (fun a x => ?_); (repeat' split) <;> first | (simp; done) | with_reducible rfl)
      | ((try dsimp only); rw [tkPart_foldl] <;> first | (intro a x; (repeat' split) <;> first | (simp; done) | with_reducible rfl) | ((repeat' split) <;> first | (simp; done) | with_reducible rfl)))

@[simp↓] theorem tkPart_sendStn (s : State) (n : Nat) (ftype : Nat) (epoch : Nat) (key : List Byte) (segs : List (Nat × Nat × List Byte)) : tkPart (State.sendStn s n ftype epoch key segs) = tkPart s := by
  unfold State.sendStn
  dsimp only
  rw [tkPart_setStn]
  generalize segs.length = m
  generalize hx : (s, 0) = x
  have hs : s = x.1 := by rw [← hx]
  rw [hs]
  clear hx hs
  induction segs generalizing x with
  | nil => rfl
  | cons y l ih => exact (ih _).trans (tkPart_sendSeg _ _ _ _ _ _ _ _ _ _)

@[simp↓] theorem tkPart_sendOutputs (s : State) (n : Nat) (a : Nat) (vals : List (Nat × F32)) : tkPart (State.sendOutputs s n a vals) = tkPart s := by
  unfold State.sendOutputs
  first
  | ((try dsimp only); (repeat' (first | with_reducible rfl | (with_reducible refine (tkPart_foldl _ _ _ (fun _ _ => ?_)).trans ?_) | (simp; done) | split | (rw [tkPart_mk, tkPart_fold]))); done)
  | ((repeat' split) <;> first | (simp; done) | with_reducible rfl)
  | (refine tkPart_foldl _ _ _ (fun a x => ?_); (repeat' split) <;> first | (simp; done) | with_reducible rfl)
  | ((try dsimp only); rw [tkPart_foldl] <;> first | (intro a x; (repeat' split) <;> first | (simp; done) | with_reducible rfl) | ((repeat' split) <;> first | (simp; done) | with_reducible rfl))
  | ((try dsimp only); (repeat' split) <;> first | (simp; done) | with_reducible rfl)
  | ((repeat' (with_reducible refine tkPart_ite ?_ ?_)) <;> first | (simp; done) | with_reducible rfl)
  | ((repeat' split) <;> first
      | (simp; done)
      | with_reducible rfl
      | (refine tkPart_foldl _ _ _ (fun a x => ?_); (repeat' split) <;> first | (simp; done) | with_reducible rfl)
      | ((try dsimp only); rw [tkPart_foldl] <;> first | (intro a x; (repeat' split) <;> first | (simp; done) | with_reducible rfl) | ((repeat' split) <;> first | (simp; done) | with_reducible rfl)))

@[simp↓] theorem tkPart_refreshBounds (s : State) : tkPart (State.refreshBounds s) = tkPart s := by
  unfold State.refreshBounds
  first
  | ((try dsimp only); (repeat' (first | with_reducible rfl | (with_reducible refine (tkPart_foldl _ _ _ (fun _ _ => ?_)).trans ?_) | (simp; done) | split | (rw [tkPart_mk, tkPart_fold]))); done)
  | ((repeat' split) <;> first | (simp; done) | with_reducible rfl)
  | (refine tkPart_foldl _ _ _ (fun a x => ?_); (repeat' split) <;> first | (simp; done) | with_reducible rfl)
  | ((try dsimp only); rw [tkPart_foldl] <;> first | (intro a x; (repeat' split) <;> first | (simp; done) | with_reducible rfl) | ((repeat' split) <;> first | (simp; done) | with_reducible rfl))
  | ((try dsimp only); (repeat' split) <;> first | (simp; done) | with_reducible rfl)
  | ((repeat' (with_reducible refine tkPart_ite ?_ ?_)) <;> first | (simp; done) | with_reducible rfl)
  | ((repeat' split) <;> first
      | (simp; done)
      | with_reducible rfl
      | (refine tkPart_foldl _ _ _ (fun a x => ?_); (repeat' split) <;> first | (simp; done) | with_reducible rfl)
      | ((try dsimp only); rw [tkPart_foldl] <;> first | (intro a x; (repeat' split) <;> first | (simp; done) | with_reducible rfl) | ((repeat' split) <;> first | (simp; done) | with_reducible rfl)))

@[simp↓] theorem tkPart_refreshPeriod (s : State) : tkPart (State.refreshPeriod s) = tkPart s := by
  have key : ∀ (f : State → PercSt), tkPart { s with perc := f s } = tkPart s := fun _ => rfl
  unfold State.refreshPeriod
  split
  · exact key (fun s => { s.perc with effPeriodMs := _, periodRaised := false })
  · dsimp only
    split
    · exact key (fun s => { s.perc with effPeriodMs := _, periodRaised := false })
    · generalize percTime _ _ _ = n
      generalize (n + 79999999) / 80000000 * 100 = m
      exact key (fun s => { s.perc with effPeriodMs := m, periodRaised := true })

@[simp↓] theorem tkPart_triggerFast (s : State) (band : Nat) : tkPart (State.triggerFast s band) = tkPart s := by
  have key : ∀ (w : State) f, tkPart { w with slv.fastPend := f } = tkPart w := fun _ _ => rfl
  have key2 : ∀ (w : State) f, tkPart { w with slv.running := f } = tkPart w := fun _ _ => rfl
  have key3 : tkPart s.solveHandle.2 = tkPart s := by
    unfold State.solveHandle
    split
    · unfold State.openHandle
      split <;> rfl
    · rfl
  have fin : ∀ w : State, tkPart w = tkPart s → tkPart (match w.slv.running with
      | some v =>
        if v.trigger != 3 && v.trigger != 4 && v.stopReq = 0 && !w.actOpen then
          { w with slv.running := some { v with stopReq := 6 } }
        else w
      | none => w) = tkPart s := by
    intro w h1
    cases w.slv.running with
    | none => exact h1
    | some v => exact tkPart_ite ((key2 _ _).trans h1) h1
  unfold State.triggerFast
  cases s.slv.fastPend with
  | some f => exact fin _ (key _ _)
  | none => exact fin _ ((key _ _).trans key3)

@[simp↓] theorem tkPart_applyVals (s : State) (l : List (Nat × List (Nat × F32))) : tkPart (State.applyVals s l) = tkPart s := by
  unfold State.applyVals
  first
  | ((try dsimp only); (repeat' (first | with_reducible rfl | (with_reducible refine (tkPart_foldl _ _ _ (fun _ _ => ?_)).trans ?_) | (simp; done) | split | (rw [tkPart_mk, tkPart_fold]))); done)
  | ((repeat' split) <;> first | (simp; done) | with_reducible rfl)
  | (refine tkPart_foldl _ _ _ (fun a x => ?_); (repeat' split) <;> first | (simp; done) | with_reducible rfl)
  | ((try dsimp only); rw [tkPart_foldl] <;> first | (intro a x; (repeat' split) <;> first | (simp; done) | with_reducible rfl) | ((repeat' split) <;> first | (simp; done) | with_reducible rfl))
  | ((try dsimp only); (repeat' split) <;> first | (simp; done) | with_reducible rfl)
  | ((repeat' (with_reducible refine tkPart_ite ?_ ?_)) <;> first | (simp; done) | with_reducible rfl)
  | ((repeat' split) <;> first
      | (simp; done)
      | with_reducible rfl
      | (refine tkPart_foldl _ _ _ (fun a x => ?_); (repeat' split) <;> first | (simp; done) | with_reducible rfl)
      | ((try dsimp only); rw [tkPart_foldl] <;> first | (intro a x; (repeat' split) <;> first | (simp; done) | with_reducible rfl) | ((repeat' split) <;> first | (simp; done) | with_reducible rfl)))

@[simp↓] theorem tkPart_pairFlag (s : State) (b : Nat) (on : Bool) : tkPart (State.pairFlag s b on) = tkPart s := by
  unfold State.pairFlag
  first
  | ((try dsimp only); (repeat' (first | with_reducible rfl | (with_reducible refine (tkPart_foldl _ _ _ (fun _ _ => ?_)).trans ?_) | (simp; done) | split | (rw [tkPart_mk, tkPart_fold]))); done)
  | ((repeat' split) <;> first | (simp; done) | with_reducible rfl)
  | (refine tkPart_foldl _ _ _ (fun a x => ?_); (repeat' split) <;> first | (simp; done) | with_reducible rfl)
  | ((try dsimp only); rw [tkPart_foldl] <;> first | (intro a x; (repeat' split) <;> first | (simp; done) | with_reducible rfl) | ((repeat' split) <;> first | (simp; done) | with_reducible rfl))
  | ((try dsimp only); (repeat' split) <;> first | (simp; done) | with_reducible rfl)
  | ((repeat' (with_reducible refine tkPart_ite ?_ ?_)) <;> first | (simp; done) | with_reducible rfl)
  | ((repeat' split) <;> first
      | (simp; done)
      | with_reducible rfl
      | (refine tkPart_foldl _ _ _ (fun a x => ?_); (repeat' split) <;> first | (simp; done) | with_reducible rfl)
      | ((try dsimp only); rw [tkPart_foldl] <;> first | (intro a x; (repeat' split) <;> first | (simp; done) | with_reducible rfl) | ((repeat' split) <;> first | (simp; done) | with_reducible rfl)))

@[simp↓] theorem tkPart_loseInstall (s : State) (o : KeyOp) : tkPart (State.loseInstall s o) = tkPart s := by
  unfold State.loseInstall
  first
  | ((try dsimp only); (repeat' (first | with_reducible rfl | (with_reducible refine (tkPart_foldl _ _ _ (fun _ _ => ?_)).trans ?_) | (simp; done) | split | (rw [tkPart_mk, tkPart_fold]))); done)
  | ((repeat' split) <;> first | (simp; done) | with_reducible rfl)
  | (refine tkPart_foldl _ _ _ (fun a x => ?_); (repeat' split) <;> first | (simp; done) | with_reducible rfl)
  | ((try dsimp only); rw [tkPart_foldl] <;> first | (intro a x; (repeat' split) <;> first | (simp; done) | with_reducible rfl) | ((repeat' split) <;> first | (simp; done) | with_reducible rfl))
  | ((try dsimp only); (repeat' split) <;> first | (simp; done) | with_reducible rfl)
  | ((repeat' (with_reducible refine tkPart_ite ?_ ?_)) <;> first | (simp; done) | with_reducible rfl)
  | ((repeat' split) <;> first
      | (simp; done)
      | with_reducible rfl
      | (refine tkPart_foldl _ _ _ (fun a x => ?_); (repeat' split) <;> first | (simp; done) | with_reducible rfl)
      | ((try dsimp only); rw [tkPart_foldl] <;> first | (intro a x; (repeat' split) <;> first | (simp; done) | with_reducible rfl) | ((repeat' split) <;> first | (simp; done) | with_reducible rfl)))

@[simp↓] theorem tkPart_loseInstalls (s : State) : tkPart (State.loseInstalls s) = tkPart s := by
  unfold State.loseInstalls
  first
  | ((try dsimp only); (repeat' (first | with_reducible rfl | (with_reducible refine (tkPart_foldl _ _ _ (fun _ _ => ?_)).trans ?_) | (simp; done) | split | (rw [tkPart_mk, tkPart_fold]))); done)
  | ((repeat' split) <;> first | (simp; done) | with_reducible rfl)
  | (refine tkPart_foldl _ _ _ (fun a x => ?_); (repeat' split) <;> first | (simp; done) | with_reducible rfl)
  | ((try dsimp only); rw [tkPart_foldl] <;> first | (intro a x; (repeat' split) <;> first | (simp; done) | with_reducible rfl) | ((repeat' split) <;> first | (simp; done) | with_reducible rfl))
  | ((try dsimp only); (repeat' split) <;> first | (simp; done) | with_reducible rfl)
  | ((repeat' (with_reducible refine tkPart_ite ?_ ?_)) <;> first | (simp; done) | with_reducible rfl)
  | ((repeat' split) <;> first
      | (simp; done)
      | with_reducible rfl
      | (refine tkPart_foldl _ _ _ (fun a x => ?_); (repeat' split) <;> first | (simp; done) | with_reducible rfl)
      | ((try dsimp only); rw [tkPart_foldl] <;> first | (intro a x; (repeat' split) <;> first | (simp; done) | with_reducible rfl) | ((repeat' split) <;> first | (simp; done) | with_reducible rfl)))

@[simp↓] theorem tkPart_dropHandles (s : State) (keep : Option U32) : tkPart (State.dropHandles s keep) = tkPart s := by
  unfold State.dropHandles
  first
  | ((try dsimp only); (repeat' (first | with_reducible rfl | (with_reducible refine (tkPart_foldl _ _ _ (fun _ _ => ?_)).trans ?_) | (simp; done) | split | (rw [tkPart_mk, tkPart_fold]))); done)
  | ((repeat' split) <;> first | (simp; done) | with_reducible rfl)
  | (refine tkPart_foldl _ _ _ (fun a x => ?_); (repeat' split) <;> first | (simp; done) | with_reducible rfl)
  | ((try dsimp only); rw [tkPart_foldl] <;> first | (intro a x; (repeat' split) <;> first | (simp; done) | with_reducible rfl) | ((repeat' split) <;> first | (simp; done) | with_reducible rfl))
  | ((try dsimp only); (repeat' split) <;> first | (simp; done) | with_reducible rfl)
  | ((repeat' (with_reducible refine tkPart_ite ?_ ?_)) <;> first | (simp; done) | with_reducible rfl)
  | ((repeat' split) <;> first
      | (simp; done)
      | with_reducible rfl
      | (refine tkPart_foldl _ _ _ (fun a x => ?_); (repeat' split) <;> first | (simp; done) | with_reducible rfl)
      | ((try dsimp only); rw [tkPart_foldl] <;> first | (intro a x; (repeat' split) <;> first | (simp; done) | with_reducible rfl) | ((repeat' split) <;> first | (simp; done) | with_reducible rfl)))

@[simp↓] theorem tkPart_dropHost (s : State) (keep : Option U32) : tkPart (State.dropHost s keep) = tkPart s := by
  unfold State.dropHost
  first
  | ((try dsimp only); (repeat' (first | with_reducible rfl | (with_reducible refine (tkPart_foldl _ _ _ (fun _ _ => ?_)).trans ?_) | (simp; done) | split | (rw [tkPart_mk, tkPart_fold]))); done)
  | ((repeat' split) <;> first | (simp; done) | with_reducible rfl)
  | (refine tkPart_foldl _ _ _ (fun a x => ?_); (repeat' split) <;> first | (simp; done) | with_reducible rfl)
  | ((try dsimp only); rw [tkPart_foldl] <;> first | (intro a x; (repeat' split) <;> first | (simp; done) | with_reducible rfl) | ((repeat' split) <;> first | (simp; done) | with_reducible rfl))
  | ((try dsimp only); (repeat' split) <;> first | (simp; done) | with_reducible rfl)
  | ((repeat' (with_reducible refine tkPart_ite ?_ ?_)) <;> first | (simp; done) | with_reducible rfl)
  | ((repeat' split) <;> first
      | (simp; done)
      | with_reducible rfl
      | (refine tkPart_foldl _ _ _ (fun a x => ?_); (repeat' split) <;> first | (simp; done) | with_reducible rfl)
      | ((try dsimp only); rw [tkPart_foldl] <;> first | (intro a x; (repeat' split) <;> first | (simp; done) | with_reducible rfl) | ((repeat' split) <;> first | (simp; done) | with_reducible rfl)))

@[simp↓] theorem tkPart_lanesFresh (s : State) : tkPart (State.lanesFresh s) = tkPart s := by
  unfold State.lanesFresh
  first
  | ((try dsimp only); (repeat' (first | with_reducible rfl | (with_reducible refine (tkPart_foldl _ _ _ (fun _ _ => ?_)).trans ?_) | (simp; done) | split | (rw [tkPart_mk, tkPart_fold]))); done)
  | ((repeat' split) <;> first | (simp; done) | with_reducible rfl)
  | (refine tkPart_foldl _ _ _ (fun a x => ?_); (repeat' split) <;> first | (simp; done) | with_reducible rfl)
  | ((try dsimp only); rw [tkPart_foldl] <;> first | (intro a x; (repeat' split) <;> first | (simp; done) | with_reducible rfl) | ((repeat' split) <;> first | (simp; done) | with_reducible rfl))
  | ((try dsimp only); (repeat' split) <;> first | (simp; done) | with_reducible rfl)
  | ((repeat' (with_reducible refine tkPart_ite ?_ ?_)) <;> first | (simp; done) | with_reducible rfl)
  | ((repeat' split) <;> first
      | (simp; done)
      | with_reducible rfl
      | (refine tkPart_foldl _ _ _ (fun a x => ?_); (repeat' split) <;> first | (simp; done) | with_reducible rfl)
      | ((try dsimp only); rw [tkPart_foldl] <;> first | (intro a x; (repeat' split) <;> first | (simp; done) | with_reducible rfl) | ((repeat' split) <;> first | (simp; done) | with_reducible rfl)))

@[simp↓] theorem tkPart_progStart (s : State) (useFlush : Bool) : tkPart (State.progStart s useFlush) = tkPart s := by
  unfold State.progStart
  first
  | ((try dsimp only); (repeat' (first | with_reducible rfl | (with_reducible refine (tkPart_foldl _ _ _ (fun _ _ => ?_)).trans ?_) | (simp; done) | split | (rw [tkPart_mk, tkPart_fold]))); done)
  | ((repeat' split) <;> first | (simp; done) | with_reducible rfl)
  | (refine tkPart_foldl _ _ _ (fun a x => ?_); (repeat' split) <;> first | (simp; done) | with_reducible rfl)
  | ((try dsimp only); rw [tkPart_foldl] <;> first | (intro a x; (repeat' split) <;> first | (simp; done) | with_reducible rfl) | ((repeat' split) <;> first | (simp; done) | with_reducible rfl))
  | ((try dsimp only); (repeat' split) <;> first | (simp; done) | with_reducible rfl)
  | ((repeat' (with_reducible refine tkPart_ite ?_ ?_)) <;> first | (simp; done) | with_reducible rfl)
  | ((repeat' split) <;> first
      | (simp; done)
      | with_reducible rfl
      | (refine tkPart_foldl _ _ _ (fun a x => ?_); (repeat' split) <;> first | (simp; done) | with_reducible rfl)
      | ((try dsimp only); rw [tkPart_foldl] <;> first | (intro a x; (repeat' split) <;> first | (simp; done) | with_reducible rfl) | ((repeat' split) <;> first | (simp; done) | with_reducible rfl)))

@[simp↓] theorem tkPart_solvesFresh (s : State) : tkPart (State.solvesFresh s) = tkPart s := by
  unfold State.solvesFresh
  first
  | ((try dsimp only); (repeat' (first | with_reducible rfl | (with_reducible refine (tkPart_foldl _ _ _ (fun _ _ => ?_)).trans ?_) | (simp; done) | split | (rw [tkPart_mk, tkPart_fold]))); done)
  | ((repeat' split) <;> first | (simp; done) | with_reducible rfl)
  | (refine tkPart_foldl _ _ _ (fun a x => ?_); (repeat' split) <;> first | (simp; done) | with_reducible rfl)
  | ((try dsimp only); rw [tkPart_foldl] <;> first | (intro a x; (repeat' split) <;> first | (simp; done) | with_reducible rfl) | ((repeat' split) <;> first | (simp; done) | with_reducible rfl))
  | ((try dsimp only); (repeat' split) <;> first | (simp; done) | with_reducible rfl)
  | ((repeat' (with_reducible refine tkPart_ite ?_ ?_)) <;> first | (simp; done) | with_reducible rfl)
  | ((repeat' split) <;> first
      | (simp; done)
      | with_reducible rfl
      | (refine tkPart_foldl _ _ _ (fun a x => ?_); (repeat' split) <;> first | (simp; done) | with_reducible rfl)
      | ((try dsimp only); rw [tkPart_foldl] <;> first | (intro a x; (repeat' split) <;> first | (simp; done) | with_reducible rfl) | ((repeat' split) <;> first | (simp; done) | with_reducible rfl)))

@[simp↓] theorem tkPart_percFresh (s : State) : tkPart (State.percFresh s) = tkPart s := by
  unfold State.percFresh
  exact (tkPart_refreshPeriod _).trans rfl

@[simp↓] theorem tkPart_fedFresh (s : State) : tkPart (State.fedFresh s) = tkPart s := by
  unfold State.fedFresh
  first
  | ((try dsimp only); (repeat' (first | with_reducible rfl | (with_reducible refine (tkPart_foldl _ _ _ (fun _ _ => ?_)).trans ?_) | (simp; done) | split | (rw [tkPart_mk, tkPart_fold]))); done)
  | ((repeat' split) <;> first | (simp; done) | with_reducible rfl)
  | (refine tkPart_foldl _ _ _ (fun a x => ?_); (repeat' split) <;> first | (simp; done) | with_reducible rfl)
  | ((try dsimp only); rw [tkPart_foldl] <;> first | (intro a x; (repeat' split) <;> first | (simp; done) | with_reducible rfl) | ((repeat' split) <;> first | (simp; done) | with_reducible rfl))
  | ((try dsimp only); (repeat' split) <;> first | (simp; done) | with_reducible rfl)
  | ((repeat' (with_reducible refine tkPart_ite ?_ ?_)) <;> first | (simp; done) | with_reducible rfl)
  | ((repeat' split) <;> first
      | (simp; done)
      | with_reducible rfl
      | (refine tkPart_foldl _ _ _ (fun a x => ?_); (repeat' split) <;> first | (simp; done) | with_reducible rfl)
      | ((try dsimp only); rw [tkPart_foldl] <;> first | (intro a x; (repeat' split) <;> first | (simp; done) | with_reducible rfl) | ((repeat' split) <;> first | (simp; done) | with_reducible rfl)))

@[simp↓] theorem tkPart_stnsFresh (s : State) : tkPart (State.stnsFresh s) = tkPart s := by
  unfold State.stnsFresh
  first
  | ((try dsimp only); (repeat' (first | with_reducible rfl | (with_reducible refine (tkPart_foldl _ _ _ (fun _ _ => ?_)).trans ?_) | (simp; done) | split | (rw [tkPart_mk, tkPart_fold]))); done)
  | ((repeat' split) <;> first | (simp; done) | with_reducible rfl)
  | (refine tkPart_foldl _ _ _ (fun a x => ?_); (repeat' split) <;> first | (simp; done) | with_reducible rfl)
  | ((try dsimp only); rw [tkPart_foldl] <;> first | (intro a x; (repeat' split) <;> first | (simp; done) | with_reducible rfl) | ((repeat' split) <;> first | (simp; done) | with_reducible rfl))
  | ((try dsimp only); (repeat' split) <;> first | (simp; done) | with_reducible rfl)
  | ((repeat' (with_reducible refine tkPart_ite ?_ ?_)) <;> first | (simp; done) | with_reducible rfl)
  | ((repeat' split) <;> first
      | (simp; done)
      | with_reducible rfl
      | (refine tkPart_foldl _ _ _ (fun a x => ?_); (repeat' split) <;> first | (simp; done) | with_reducible rfl)
      | ((try dsimp only); rw [tkPart_foldl] <;> first | (intro a x; (repeat' split) <;> first | (simp; done) | with_reducible rfl) | ((repeat' split) <;> first | (simp; done) | with_reducible rfl)))

@[simp↓] theorem tkPart_imageFresh (s : State) : tkPart (State.imageFresh s) = tkPart s := by
  unfold State.imageFresh
  first
  | ((try dsimp only); (repeat' (first | with_reducible rfl | (with_reducible refine (tkPart_foldl _ _ _ (fun _ _ => ?_)).trans ?_) | (simp; done) | split | (rw [tkPart_mk, tkPart_fold]))); done)
  | ((repeat' split) <;> first | (simp; done) | with_reducible rfl)
  | (refine tkPart_foldl _ _ _ (fun a x => ?_); (repeat' split) <;> first | (simp; done) | with_reducible rfl)
  | ((try dsimp only); rw [tkPart_foldl] <;> first | (intro a x; (repeat' split) <;> first | (simp; done) | with_reducible rfl) | ((repeat' split) <;> first | (simp; done) | with_reducible rfl))
  | ((try dsimp only); (repeat' split) <;> first | (simp; done) | with_reducible rfl)
  | ((repeat' (with_reducible refine tkPart_ite ?_ ?_)) <;> first | (simp; done) | with_reducible rfl)
  | ((repeat' split) <;> first
      | (simp; done)
      | with_reducible rfl
      | (refine tkPart_foldl _ _ _ (fun a x => ?_); (repeat' split) <;> first | (simp; done) | with_reducible rfl)
      | ((try dsimp only); rw [tkPart_foldl] <;> first | (intro a x; (repeat' split) <;> first | (simp; done) | with_reducible rfl) | ((repeat' split) <;> first | (simp; done) | with_reducible rfl)))

@[simp↓] theorem tkPart_applyParams (s : State) (v : CkptParams) : tkPart (State.applyParams s v) = tkPart s := by
  unfold State.applyParams
  first
  | ((try dsimp only); (repeat' (first | with_reducible rfl | (with_reducible refine (tkPart_foldl _ _ _ (fun _ _ => ?_)).trans ?_) | (simp; done) | split | (rw [tkPart_mk, tkPart_fold]))); done)
  | ((repeat' split) <;> first | (simp; done) | with_reducible rfl)
  | (refine tkPart_foldl _ _ _ (fun a x => ?_); (repeat' split) <;> first | (simp; done) | with_reducible rfl)
  | ((try dsimp only); rw [tkPart_foldl] <;> first | (intro a x; (repeat' split) <;> first | (simp; done) | with_reducible rfl) | ((repeat' split) <;> first | (simp; done) | with_reducible rfl))
  | ((try dsimp only); (repeat' split) <;> first | (simp; done) | with_reducible rfl)
  | ((repeat' (with_reducible refine tkPart_ite ?_ ?_)) <;> first | (simp; done) | with_reducible rfl)
  | ((repeat' split) <;> first
      | (simp; done)
      | with_reducible rfl
      | (refine tkPart_foldl _ _ _ (fun a x => ?_); (repeat' split) <;> first | (simp; done) | with_reducible rfl)
      | ((try dsimp only); rw [tkPart_foldl] <;> first | (intro a x; (repeat' split) <;> first | (simp; done) | with_reducible rfl) | ((repeat' split) <;> first | (simp; done) | with_reducible rfl)))

@[simp↓] theorem tkPart_restoreModel (s : State) (i : CkptImages) : tkPart (State.restoreModel s i) = tkPart s := by
  unfold State.restoreModel
  first
  | ((try dsimp only); (repeat' (first | with_reducible rfl | (with_reducible refine (tkPart_foldl _ _ _ (fun _ _ => ?_)).trans ?_) | (simp; done) | split | (rw [tkPart_mk, tkPart_fold]))); done)
  | ((repeat' split) <;> first | (simp; done) | with_reducible rfl)
  | (refine tkPart_foldl _ _ _ (fun a x => ?_); (repeat' split) <;> first | (simp; done) | with_reducible rfl)
  | ((try dsimp only); rw [tkPart_foldl] <;> first | (intro a x; (repeat' split) <;> first | (simp; done) | with_reducible rfl) | ((repeat' split) <;> first | (simp; done) | with_reducible rfl))
  | ((try dsimp only); (repeat' split) <;> first | (simp; done) | with_reducible rfl)
  | ((repeat' (with_reducible refine tkPart_ite ?_ ?_)) <;> first | (simp; done) | with_reducible rfl)
  | ((repeat' split) <;> first
      | (simp; done)
      | with_reducible rfl
      | (refine tkPart_foldl _ _ _ (fun a x => ?_); (repeat' split) <;> first | (simp; done) | with_reducible rfl)
      | ((try dsimp only); rw [tkPart_foldl] <;> first | (intro a x; (repeat' split) <;> first | (simp; done) | with_reducible rfl) | ((repeat' split) <;> first | (simp; done) | with_reducible rfl)))

@[simp↓] theorem tkPart_restoreProg (s : State) (i : CkptImages) : tkPart (State.restoreProg s i) = tkPart s := by
  unfold State.restoreProg
  first
  | ((try dsimp only); (repeat' (first | with_reducible rfl | (with_reducible refine (tkPart_foldl _ _ _ (fun _ _ => ?_)).trans ?_) | (simp; done) | split | (rw [tkPart_mk, tkPart_fold]))); done)
  | ((repeat' split) <;> first | (simp; done) | with_reducible rfl)
  | (refine tkPart_foldl _ _ _ (fun a x => ?_); (repeat' split) <;> first | (simp; done) | with_reducible rfl)
  | ((try dsimp only); rw [tkPart_foldl] <;> first | (intro a x; (repeat' split) <;> first | (simp; done) | with_reducible rfl) | ((repeat' split) <;> first | (simp; done) | with_reducible rfl))
  | ((try dsimp only); (repeat' split) <;> first | (simp; done) | with_reducible rfl)
  | ((repeat' (with_reducible refine tkPart_ite ?_ ?_)) <;> first | (simp; done) | with_reducible rfl)
  | ((repeat' split) <;> first
      | (simp; done)
      | with_reducible rfl
      | (refine tkPart_foldl _ _ _ (fun a x => ?_); (repeat' split) <;> first | (simp; done) | with_reducible rfl)
      | ((try dsimp only); rw [tkPart_foldl] <;> first | (intro a x; (repeat' split) <;> first | (simp; done) | with_reducible rfl) | ((repeat' split) <;> first | (simp; done) | with_reducible rfl)))

@[simp↓] theorem tkPart_restoreRun (s : State) (k : Nat) (r : ProgRun) : tkPart (State.restoreRun s k r) = tkPart s := by
  unfold State.restoreRun
  first
  | ((try dsimp only); (repeat' (first | with_reducible rfl | (with_reducible refine (tkPart_foldl _ _ _ (fun _ _ => ?_)).trans ?_) | (simp; done) | split | (rw [tkPart_mk, tkPart_fold]))); done)
  | ((repeat' split) <;> first | (simp; done) | with_reducible rfl)
  | (refine tkPart_foldl _ _ _ (fun a x => ?_); (repeat' split) <;> first | (simp; done) | with_reducible rfl)
  | ((try dsimp only); rw [tkPart_foldl] <;> first | (intro a x; (repeat' split) <;> first | (simp; done) | with_reducible rfl) | ((repeat' split) <;> first | (simp; done) | with_reducible rfl))
  | ((try dsimp only); (repeat' split) <;> first | (simp; done) | with_reducible rfl)
  | ((repeat' (with_reducible refine tkPart_ite ?_ ?_)) <;> first | (simp; done) | with_reducible rfl)
  | ((repeat' split) <;> first
      | (simp; done)
      | with_reducible rfl
      | (refine tkPart_foldl _ _ _ (fun a x => ?_); (repeat' split) <;> first | (simp; done) | with_reducible rfl)
      | ((try dsimp only); rw [tkPart_foldl] <;> first | (intro a x; (repeat' split) <;> first | (simp; done) | with_reducible rfl) | ((repeat' split) <;> first | (simp; done) | with_reducible rfl)))

@[simp↓] theorem tkPart_restoreLanes (s : State) (l : LaneSt) : tkPart (State.restoreLanes s l) = tkPart s := by
  unfold State.restoreLanes
  first
  | ((try dsimp only); (repeat' (first | with_reducible rfl | (with_reducible refine (tkPart_foldl _ _ _ (fun _ _ => ?_)).trans ?_) | (simp; done) | split | (rw [tkPart_mk, tkPart_fold]))); done)
  | ((repeat' split) <;> first | (simp; done) | with_reducible rfl)
  | (refine tkPart_foldl _ _ _ (fun a x => ?_); (repeat' split) <;> first | (simp; done) | with_reducible rfl)
  | ((try dsimp only); rw [tkPart_foldl] <;> first | (intro a x; (repeat' split) <;> first | (simp; done) | with_reducible rfl) | ((repeat' split) <;> first | (simp; done) | with_reducible rfl))
  | ((try dsimp only); (repeat' split) <;> first | (simp; done) | with_reducible rfl)
  | ((repeat' (with_reducible refine tkPart_ite ?_ ?_)) <;> first | (simp; done) | with_reducible rfl)
  | ((repeat' split) <;> first
      | (simp; done)
      | with_reducible rfl
      | (refine tkPart_foldl _ _ _ (fun a x => ?_); (repeat' split) <;> first | (simp; done) | with_reducible rfl)
      | ((try dsimp only); rw [tkPart_foldl] <;> first | (intro a x; (repeat' split) <;> first | (simp; done) | with_reducible rfl) | ((repeat' split) <;> first | (simp; done) | with_reducible rfl)))

@[simp↓] theorem tkPart_restorePlans (s : State) (v : CkptPlan) : tkPart (State.restorePlans s v) = tkPart s := by
  unfold State.restorePlans
  first
  | ((try dsimp only); (repeat' (first | with_reducible rfl | (with_reducible refine (tkPart_foldl _ _ _ (fun _ _ => ?_)).trans ?_) | (simp; done) | split | (rw [tkPart_mk, tkPart_fold]))); done)
  | ((repeat' split) <;> first | (simp; done) | with_reducible rfl)
  | (refine tkPart_foldl _ _ _ (fun a x => ?_); (repeat' split) <;> first | (simp; done) | with_reducible rfl)
  | ((try dsimp only); rw [tkPart_foldl] <;> first | (intro a x; (repeat' split) <;> first | (simp; done) | with_reducible rfl) | ((repeat' split) <;> first | (simp; done) | with_reducible rfl))
  | ((try dsimp only); (repeat' split) <;> first | (simp; done) | with_reducible rfl)
  | ((repeat' (with_reducible refine tkPart_ite ?_ ?_)) <;> first | (simp; done) | with_reducible rfl)
  | ((repeat' split) <;> first
      | (simp; done)
      | with_reducible rfl
      | (refine tkPart_foldl _ _ _ (fun a x => ?_); (repeat' split) <;> first | (simp; done) | with_reducible rfl)
      | ((try dsimp only); rw [tkPart_foldl] <;> first | (intro a x; (repeat' split) <;> first | (simp; done) | with_reducible rfl) | ((repeat' split) <;> first | (simp; done) | with_reducible rfl)))

@[simp↓] theorem tkPart_restorePerc (s : State) (v : PercSt) : tkPart (State.restorePerc s v) = tkPart s := by
  unfold State.restorePerc
  first
  | ((try dsimp only); (repeat' (first | with_reducible rfl | (with_reducible refine (tkPart_foldl _ _ _ (fun _ _ => ?_)).trans ?_) | (simp; done) | split | (rw [tkPart_mk, tkPart_fold]))); done)
  | ((repeat' split) <;> first | (simp; done) | with_reducible rfl)
  | (refine tkPart_foldl _ _ _ (fun a x => ?_); (repeat' split) <;> first | (simp; done) | with_reducible rfl)
  | ((try dsimp only); rw [tkPart_foldl] <;> first | (intro a x; (repeat' split) <;> first | (simp; done) | with_reducible rfl) | ((repeat' split) <;> first | (simp; done) | with_reducible rfl))
  | ((try dsimp only); (repeat' split) <;> first | (simp; done) | with_reducible rfl)
  | ((repeat' (with_reducible refine tkPart_ite ?_ ?_)) <;> first | (simp; done) | with_reducible rfl)
  | ((repeat' split) <;> first
      | (simp; done)
      | with_reducible rfl
      | (refine tkPart_foldl _ _ _ (fun a x => ?_); (repeat' split) <;> first | (simp; done) | with_reducible rfl)
      | ((try dsimp only); rw [tkPart_foldl] <;> first | (intro a x; (repeat' split) <;> first | (simp; done) | with_reducible rfl) | ((repeat' split) <;> first | (simp; done) | with_reducible rfl)))

@[simp↓] theorem tkPart_restoreFed (s : State) (v : FedSt) : tkPart (State.restoreFed s v) = tkPart s := by
  unfold State.restoreFed
  first
  | ((try dsimp only); (repeat' (first | with_reducible rfl | (with_reducible refine (tkPart_foldl _ _ _ (fun _ _ => ?_)).trans ?_) | (simp; done) | split | (rw [tkPart_mk, tkPart_fold]))); done)
  | ((repeat' split) <;> first | (simp; done) | with_reducible rfl)
  | (refine tkPart_foldl _ _ _ (fun a x => ?_); (repeat' split) <;> first | (simp; done) | with_reducible rfl)
  | ((try dsimp only); rw [tkPart_foldl] <;> first | (intro a x; (repeat' split) <;> first | (simp; done) | with_reducible rfl) | ((repeat' split) <;> first | (simp; done) | with_reducible rfl))
  | ((try dsimp only); (repeat' split) <;> first | (simp; done) | with_reducible rfl)
  | ((repeat' (with_reducible refine tkPart_ite ?_ ?_)) <;> first | (simp; done) | with_reducible rfl)
  | ((repeat' split) <;> first
      | (simp; done)
      | with_reducible rfl
      | (refine tkPart_foldl _ _ _ (fun a x => ?_); (repeat' split) <;> first | (simp; done) | with_reducible rfl)
      | ((try dsimp only); rw [tkPart_foldl] <;> first | (intro a x; (repeat' split) <;> first | (simp; done) | with_reducible rfl) | ((repeat' split) <;> first | (simp; done) | with_reducible rfl)))

@[simp↓] theorem tkPart_restoreMisc (s : State) (v : CkptMisc) : tkPart (State.restoreMisc s v) = tkPart s := by
  unfold State.restoreMisc
  first
  | ((try dsimp only); (repeat' (first | with_reducible rfl | (with_reducible refine (tkPart_foldl _ _ _ (fun _ _ => ?_)).trans ?_) | (simp; done) | split | (rw [tkPart_mk, tkPart_fold]))); done)
  | ((repeat' split) <;> first | (simp; done) | with_reducible rfl)
  | (refine tkPart_foldl _ _ _ (fun a x => ?_); (repeat' split) <;> first | (simp; done) | with_reducible rfl)
  | ((try dsimp only); rw [tkPart_foldl] <;> first | (intro a x; (repeat' split) <;> first | (simp; done) | with_reducible rfl) | ((repeat' split) <;> first | (simp; done) | with_reducible rfl))
  | ((try dsimp only); (repeat' split) <;> first | (simp; done) | with_reducible rfl)
  | ((repeat' (with_reducible refine tkPart_ite ?_ ?_)) <;> first | (simp; done) | with_reducible rfl)
  | ((repeat' split) <;> first
      | (simp; done)
      | with_reducible rfl
      | (refine tkPart_foldl _ _ _ (fun a x => ?_); (repeat' split) <;> first | (simp; done) | with_reducible rfl)
      | ((try dsimp only); rw [tkPart_foldl] <;> first | (intro a x; (repeat' split) <;> first | (simp; done) | with_reducible rfl) | ((repeat' split) <;> first | (simp; done) | with_reducible rfl)))

@[simp↓] theorem tkPart_coldBlocks (s : State) : tkPart (State.coldBlocks s) = tkPart s := by
  unfold State.coldBlocks
  first
  | ((try dsimp only); (repeat' (first | with_reducible rfl | (with_reducible refine (tkPart_foldl _ _ _ (fun _ _ => ?_)).trans ?_) | (simp; done) | split | (rw [tkPart_mk, tkPart_fold]))); done)
  | ((repeat' split) <;> first | (simp; done) | with_reducible rfl)
  | (refine tkPart_foldl _ _ _ (fun a x => ?_); (repeat' split) <;> first | (simp; done) | with_reducible rfl)
  | ((try dsimp only); rw [tkPart_foldl] <;> first | (intro a x; (repeat' split) <;> first | (simp; done) | with_reducible rfl) | ((repeat' split) <;> first | (simp; done) | with_reducible rfl))
  | ((try dsimp only); (repeat' split) <;> first | (simp; done) | with_reducible rfl)
  | ((repeat' (with_reducible refine tkPart_ite ?_ ?_)) <;> first | (simp; done) | with_reducible rfl)
  | ((repeat' split) <;> first
      | (simp; done)
      | with_reducible rfl
      | (refine tkPart_foldl _ _ _ (fun a x => ?_); (repeat' split) <;> first | (simp; done) | with_reducible rfl)
      | ((try dsimp only); rw [tkPart_foldl] <;> first | (intro a x; (repeat' split) <;> first | (simp; done) | with_reducible rfl) | ((repeat' split) <;> first | (simp; done) | with_reducible rfl)))

@[simp↓] theorem tkPart_applyPassed (s : State) : tkPart (State.applyPassed s) = tkPart s := by
  unfold State.applyPassed
  first
  | ((try dsimp only); (repeat' (first | with_reducible rfl | (with_reducible refine (tkPart_foldl _ _ _ (fun _ _ => ?_)).trans ?_) | (simp; done) | split | (rw [tkPart_mk, tkPart_fold]))); done)
  | ((repeat' split) <;> first | (simp; done) | with_reducible rfl)
  | (refine tkPart_foldl _ _ _ (fun a x => ?_); (repeat' split) <;> first | (simp; done) | with_reducible rfl)
  | ((try dsimp only); rw [tkPart_foldl] <;> first | (intro a x; (repeat' split) <;> first | (simp; done) | with_reducible rfl) | ((repeat' split) <;> first | (simp; done) | with_reducible rfl))
  | ((try dsimp only); (repeat' split) <;> first | (simp; done) | with_reducible rfl)
  | ((repeat' (with_reducible refine tkPart_ite ?_ ?_)) <;> first | (simp; done) | with_reducible rfl)
  | ((repeat' split) <;> first
      | (simp; done)
      | with_reducible rfl
      | (refine tkPart_foldl _ _ _ (fun a x => ?_); (repeat' split) <;> first | (simp; done) | with_reducible rfl)
      | ((try dsimp only); rw [tkPart_foldl] <;> first | (intro a x; (repeat' split) <;> first | (simp; done) | with_reducible rfl) | ((repeat' split) <;> first | (simp; done) | with_reducible rfl)))

@[simp↓] theorem tkPart_reassertField (s : State) : tkPart (State.reassertField s) = tkPart s := by
  unfold State.reassertField
  first
  | ((try dsimp only); (repeat' (first | with_reducible rfl | (with_reducible refine (tkPart_foldl _ _ _ (fun _ _ => ?_)).trans ?_) | (simp; done) | split | (rw [tkPart_mk, tkPart_fold]))); done)
  | ((repeat' split) <;> first | (simp; done) | with_reducible rfl)
  | (refine tkPart_foldl _ _ _ (fun a x => ?_); (repeat' split) <;> first | (simp; done) | with_reducible rfl)
  | ((try dsimp only); rw [tkPart_foldl] <;> first | (intro a x; (repeat' split) <;> first | (simp; done) | with_reducible rfl) | ((repeat' split) <;> first | (simp; done) | with_reducible rfl))
  | ((try dsimp only); (repeat' split) <;> first | (simp; done) | with_reducible rfl)
  | ((repeat' (with_reducible refine tkPart_ite ?_ ?_)) <;> first | (simp; done) | with_reducible rfl)
  | ((repeat' split) <;> first
      | (simp; done)
      | with_reducible rfl
      | (refine tkPart_foldl _ _ _ (fun a x => ?_); (repeat' split) <;> first | (simp; done) | with_reducible rfl)
      | ((try dsimp only); rw [tkPart_foldl] <;> first | (intro a x; (repeat' split) <;> first | (simp; done) | with_reducible rfl) | ((repeat' split) <;> first | (simp; done) | with_reducible rfl)))

@[simp↓] theorem tkPart_reassertCan (s : State) : tkPart (State.reassertCan s) = tkPart s := by
  unfold State.reassertCan
  first
  | ((try dsimp only); (repeat' (first | with_reducible rfl | (with_reducible refine (tkPart_foldl _ _ _ (fun _ _ => ?_)).trans ?_) | (simp; done) | split | (rw [tkPart_mk, tkPart_fold]))); done)
  | ((repeat' split) <;> first | (simp; done) | with_reducible rfl)
  | (refine tkPart_foldl _ _ _ (fun a x => ?_); (repeat' split) <;> first | (simp; done) | with_reducible rfl)
  | ((try dsimp only); rw [tkPart_foldl] <;> first | (intro a x; (repeat' split) <;> first | (simp; done) | with_reducible rfl) | ((repeat' split) <;> first | (simp; done) | with_reducible rfl))
  | ((try dsimp only); (repeat' split) <;> first | (simp; done) | with_reducible rfl)
  | ((repeat' (with_reducible refine tkPart_ite ?_ ?_)) <;> first | (simp; done) | with_reducible rfl)
  | ((repeat' split) <;> first
      | (simp; done)
      | with_reducible rfl
      | (refine tkPart_foldl _ _ _ (fun a x => ?_); (repeat' split) <;> first | (simp; done) | with_reducible rfl)
      | ((try dsimp only); rw [tkPart_foldl] <;> first | (intro a x; (repeat' split) <;> first | (simp; done) | with_reducible rfl) | ((repeat' split) <;> first | (simp; done) | with_reducible rfl)))

@[simp↓] theorem tkPart_takeoverFrames (s : State) (n : Nat) : tkPart (State.takeoverFrames s n) = tkPart s := by
  unfold State.takeoverFrames
  first
  | ((try dsimp only); (repeat' (first | with_reducible rfl | (with_reducible refine (tkPart_foldl _ _ _ (fun _ _ => ?_)).trans ?_) | (simp; done) | split | (rw [tkPart_mk, tkPart_fold]))); done)
  | ((repeat' split) <;> first | (simp; done) | with_reducible rfl)
  | (refine tkPart_foldl _ _ _ (fun a x => ?_); (repeat' split) <;> first | (simp; done) | with_reducible rfl)
  | ((try dsimp only); rw [tkPart_foldl] <;> first | (intro a x; (repeat' split) <;> first | (simp; done) | with_reducible rfl) | ((repeat' split) <;> first | (simp; done) | with_reducible rfl))
  | ((try dsimp only); (repeat' split) <;> first | (simp; done) | with_reducible rfl)
  | ((repeat' (with_reducible refine tkPart_ite ?_ ?_)) <;> first | (simp; done) | with_reducible rfl)
  | ((repeat' split) <;> first
      | (simp; done)
      | with_reducible rfl
      | (refine tkPart_foldl _ _ _ (fun a x => ?_); (repeat' split) <;> first | (simp; done) | with_reducible rfl)
      | ((try dsimp only); rw [tkPart_foldl] <;> first | (intro a x; (repeat' split) <;> first | (simp; done) | with_reducible rfl) | ((repeat' split) <;> first | (simp; done) | with_reducible rfl)))

@[simp↓] theorem tkPart_reassertStns (s : State) : tkPart (State.reassertStns s) = tkPart s := by
  unfold State.reassertStns
  first
  | ((try dsimp only); (repeat' (first | with_reducible rfl | (with_reducible refine (tkPart_foldl _ _ _ (fun _ _ => ?_)).trans ?_) | (simp; done) | split | (rw [tkPart_mk, tkPart_fold]))); done)
  | ((repeat' split) <;> first | (simp; done) | with_reducible rfl)
  | (refine tkPart_foldl _ _ _ (fun a x => ?_); (repeat' split) <;> first | (simp; done) | with_reducible rfl)
  | ((try dsimp only); rw [tkPart_foldl] <;> first | (intro a x; (repeat' split) <;> first | (simp; done) | with_reducible rfl) | ((repeat' split) <;> first | (simp; done) | with_reducible rfl))
  | ((try dsimp only); (repeat' split) <;> first | (simp; done) | with_reducible rfl)
  | ((repeat' (with_reducible refine tkPart_ite ?_ ?_)) <;> first | (simp; done) | with_reducible rfl)
  | ((repeat' split) <;> first
      | (simp; done)
      | with_reducible rfl
      | (refine tkPart_foldl _ _ _ (fun a x => ?_); (repeat' split) <;> first | (simp; done) | with_reducible rfl)
      | ((try dsimp only); rw [tkPart_foldl] <;> first | (intro a x; (repeat' split) <;> first | (simp; done) | with_reducible rfl) | ((repeat' split) <;> first | (simp; done) | with_reducible rfl)))

@[simp↓] theorem tkPart_safeFromCkpt (s : State) (c : Ckpt) : tkPart (State.safeFromCkpt s c) = tkPart s := by
  unfold State.safeFromCkpt
  first
  | ((try dsimp only); (repeat' (first | with_reducible rfl | (with_reducible refine (tkPart_foldl _ _ _ (fun _ _ => ?_)).trans ?_) | (simp; done) | split | (rw [tkPart_mk, tkPart_fold]))); done)
  | ((repeat' split) <;> first | (simp; done) | with_reducible rfl)
  | (refine tkPart_foldl _ _ _ (fun a x => ?_); (repeat' split) <;> first | (simp; done) | with_reducible rfl)
  | ((try dsimp only); rw [tkPart_foldl] <;> first | (intro a x; (repeat' split) <;> first | (simp; done) | with_reducible rfl) | ((repeat' split) <;> first | (simp; done) | with_reducible rfl))
  | ((try dsimp only); (repeat' split) <;> first | (simp; done) | with_reducible rfl)
  | ((repeat' (with_reducible refine tkPart_ite ?_ ?_)) <;> first | (simp; done) | with_reducible rfl)
  | ((repeat' split) <;> first
      | (simp; done)
      | with_reducible rfl
      | (refine tkPart_foldl _ _ _ (fun a x => ?_); (repeat' split) <;> first | (simp; done) | with_reducible rfl)
      | ((try dsimp only); rw [tkPart_foldl] <;> first | (intro a x; (repeat' split) <;> first | (simp; done) | with_reducible rfl) | ((repeat' split) <;> first | (simp; done) | with_reducible rfl)))

@[simp↓] theorem tkPart_fastIfFilled (s : State) : tkPart (State.fastIfFilled s) = tkPart s := by
  unfold State.fastIfFilled
  first
  | ((try dsimp only); (repeat' (first | with_reducible rfl | (with_reducible refine (tkPart_foldl _ _ _ (fun _ _ => ?_)).trans ?_) | (simp; done) | split | (rw [tkPart_mk, tkPart_fold]))); done)
  | ((repeat' split) <;> first | (simp; done) | with_reducible rfl)
  | (refine tkPart_foldl _ _ _ (fun a x => ?_); (repeat' split) <;> first | (simp; done) | with_reducible rfl)
  | ((try dsimp only); rw [tkPart_foldl] <;> first | (intro a x; (repeat' split) <;> first | (simp; done) | with_reducible rfl) | ((repeat' split) <;> first | (simp; done) | with_reducible rfl))
  | ((try dsimp only); (repeat' split) <;> first | (simp; done) | with_reducible rfl)
  | ((repeat' (with_reducible refine tkPart_ite ?_ ?_)) <;> first | (simp; done) | with_reducible rfl)
  | ((repeat' split) <;> first
      | (simp; done)
      | with_reducible rfl
      | (refine tkPart_foldl _ _ _ (fun a x => ?_); (repeat' split) <;> first | (simp; done) | with_reducible rfl)
      | ((try dsimp only); rw [tkPart_foldl] <;> first | (intro a x; (repeat' split) <;> first | (simp; done) | with_reducible rfl) | ((repeat' split) <;> first | (simp; done) | with_reducible rfl)))

@[simp↓] theorem tkPart_takeoverGap (s : State) (k : Nat) : tkPart (State.takeoverGap s k) = tkPart s := by
  unfold State.takeoverGap
  first
  | ((try dsimp only); (repeat' (first | with_reducible rfl | (with_reducible refine (tkPart_foldl _ _ _ (fun _ _ => ?_)).trans ?_) | (simp; done) | split | (rw [tkPart_mk, tkPart_fold]))); done)
  | ((repeat' split) <;> first | (simp; done) | with_reducible rfl)
  | (refine tkPart_foldl _ _ _ (fun a x => ?_); (repeat' split) <;> first | (simp; done) | with_reducible rfl)
  | ((try dsimp only); rw [tkPart_foldl] <;> first | (intro a x; (repeat' split) <;> first | (simp; done) | with_reducible rfl) | ((repeat' split) <;> first | (simp; done) | with_reducible rfl))
  | ((try dsimp only); (repeat' split) <;> first | (simp; done) | with_reducible rfl)
  | ((repeat' (with_reducible refine tkPart_ite ?_ ?_)) <;> first | (simp; done) | with_reducible rfl)
  | ((repeat' split) <;> first
      | (simp; done)
      | with_reducible rfl
      | (refine tkPart_foldl _ _ _ (fun a x => ?_); (repeat' split) <;> first | (simp; done) | with_reducible rfl)
      | ((try dsimp only); rw [tkPart_foldl] <;> first | (intro a x; (repeat' split) <;> first | (simp; done) | with_reducible rfl) | ((repeat' split) <;> first | (simp; done) | with_reducible rfl)))

/-- The parts `pair.partner`, `pair.partnerClaim`, `pair.partnerHb`, `pair.partnerMac`. -/
def hbPart (s : State) := (s.pair.partner, s.pair.partnerClaim, s.pair.partnerHb, s.pair.partnerMac)

@[simp] theorem hbPart_fold (s : State) : (s.pair.partner, s.pair.partnerClaim, s.pair.partnerHb, s.pair.partnerMac) = hbPart s := rfl

@[simp↓] theorem hbPart_mk (epoch order ident host par lane prog model slv perc afe fed stn pts fio can net time key aud pair pwr rst drip past edge latch pending out free) : hbPart (State.mk epoch order ident host par lane prog model slv perc afe fed stn pts fio can net time key aud pair pwr rst drip past edge latch pending out free) = (pair.partner, pair.partnerClaim, pair.partnerHb, pair.partnerMac) := rfl

theorem hbPart_silent {s t : State} (h : Silent s t) : hbPart t = hbPart s := by rw [h.rest]; rfl

theorem hbPart_ite {c : Prop} [Decidable c] {a b s : State} (ha : hbPart a = hbPart s) (hb : hbPart b = hbPart s) :
    hbPart (if c then a else b) = hbPart s := by
  split <;> assumption

theorem hbPart_foldl {α : Type} (l : List α) (f : State → α → State) (s : State) (h : ∀ a x, hbPart (f a x) = hbPart a) :
    hbPart (l.foldl f s) = hbPart s := by
  induction l generalizing s with
  | nil => rfl
  | cons x l ih => exact (ih _).trans (h s x)

@[simp↓] theorem hbPart_emit (s : State) (m : OutMsg) : hbPart (State.emit s m) = hbPart s := by
  exact hbPart_silent (silent_emit _ _)

@[simp↓] theorem hbPart_sendMsix (s : State) (v : Nat) : hbPart (State.sendMsix s v) = hbPart s := by
  exact hbPart_silent (silent_sendMsix _ _)

@[simp↓] theorem hbPart_syncDev (s : State) : hbPart (State.syncDev s) = hbPart s := by
  unfold State.syncDev
  first
  | ((try dsimp only); (repeat' (first | with_reducible rfl | (with_reducible refine (hbPart_foldl _ _ _ (fun _ _ => ?_)).trans ?_) | (simp; done) | split | (rw [hbPart_mk, hbPart_fold]))); done)
  | ((repeat' split) <;> first | (simp; done) | with_reducible rfl)
  | (refine hbPart_foldl _ _ _ (fun a x => ?_); (repeat' split) <;> first | (simp; done) | with_reducible rfl)
  | ((try dsimp only); rw [hbPart_foldl] <;> first | (intro a x; (repeat' split) <;> first | (simp; done) | with_reducible rfl) | ((repeat' split) <;> first | (simp; done) | with_reducible rfl))
  | ((try dsimp only); (repeat' split) <;> first | (simp; done) | with_reducible rfl)
  | ((repeat' (with_reducible refine hbPart_ite ?_ ?_)) <;> first | (simp; done) | with_reducible rfl)
  | ((repeat' split) <;> first
      | (simp; done)
      | with_reducible rfl
      | (refine hbPart_foldl _ _ _ (fun a x => ?_); (repeat' split) <;> first | (simp; done) | with_reducible rfl)
      | ((try dsimp only); rw [hbPart_foldl] <;> first | (intro a x; (repeat' split) <;> first | (simp; done) | with_reducible rfl) | ((repeat' split) <;> first | (simp; done) | with_reducible rfl)))

@[simp↓] theorem hbPart_setQueue (s : State) (n : Nat) (q : QPair) : hbPart (State.setQueue s n q) = hbPart s := by
  unfold State.setQueue
  first
  | ((try dsimp only); (repeat' (first | with_reducible rfl | (with_reducible refine (hbPart_foldl _ _ _ (fun _ _ => ?_)).trans ?_) | (simp; done) | split | (rw [hbPart_mk, hbPart_fold]))); done)
  | ((repeat' split) <;> first | (simp; done) | with_reducible rfl)
  | (refine hbPart_foldl _ _ _ (fun a x => ?_); (repeat' split) <;> first | (simp; done) | with_reducible rfl)
  | ((try dsimp only); rw [hbPart_foldl] <;> first | (intro a x; (repeat' split) <;> first | (simp; done) | with_reducible rfl) | ((repeat' split) <;> first | (simp; done) | with_reducible rfl))
  | ((try dsimp only); (repeat' split) <;> first | (simp; done) | with_reducible rfl)
  | ((repeat' (with_reducible refine hbPart_ite ?_ ?_)) <;> first | (simp; done) | with_reducible rfl)
  | ((repeat' split) <;> first
      | (simp; done)
      | with_reducible rfl
      | (refine hbPart_foldl _ _ _ (fun a x => ?_); (repeat' split) <;> first | (simp; done) | with_reducible rfl)
      | ((try dsimp only); rw [hbPart_foldl] <;> first | (intro a x; (repeat' split) <;> first | (simp; done) | with_reducible rfl) | ((repeat' split) <;> first | (simp; done) | with_reducible rfl)))

@[simp↓] theorem hbPart_auditPush (s : State) (r : AuditRec) : hbPart (State.auditPush s r) = hbPart s := by
  exact hbPart_silent (silent_auditPush _ _)

@[simp↓] theorem hbPart_auditDev (s : State) (kind : Nat) (opcode : Nat) (status : Nat) (subject : Nat) (data : List Byte) : hbPart (State.auditDev s kind opcode status subject data) = hbPart s := by
  exact hbPart_silent (silent_auditPush _ _)

@[simp↓] theorem hbPart_postQueue (s : State) (n : Nat) (e : Entry) (data : List Byte) : hbPart (State.postQueue s n e data).1 = hbPart s := by
  exact hbPart_silent (silent_postQueue _ _ _ _)

@[simp↓] theorem hbPart_post (s : State) (dst : Src) (e : Entry) (data : List Byte) : hbPart (State.post s dst e data).1 = hbPart s := by
  exact hbPart_silent (silent_post _ _ _ _)

@[simp↓] theorem hbPart_event (s : State) (code : Nat) (status : Nat) (data : List Byte) : hbPart (State.event s code status data) = hbPart s := by
  exact hbPart_silent (silent_event _ _ _ _)

@[simp↓] theorem hbPart_condition (s : State) (status : Nat) (data : List Byte) : hbPart (State.condition s status data) = hbPart s := by
  exact hbPart_silent (silent_condition _ _ _)

@[simp↓] theorem hbPart_freeHandle (s : State) (i : Nat) : hbPart (State.freeHandle s i) = hbPart s := by
  unfold State.freeHandle
  first
  | ((try dsimp only); (repeat' (first | with_reducible rfl | (with_reducible refine (hbPart_foldl _ _ _ (fun _ _ => ?_)).trans ?_) | (simp; done) | split | (rw [hbPart_mk, hbPart_fold]))); done)
  | ((repeat' split) <;> first | (simp; done) | with_reducible rfl)
  | (refine hbPart_foldl _ _ _ (fun a x => ?_); (repeat' split) <;> first | (simp; done) | with_reducible rfl)
  | ((try dsimp only); rw [hbPart_foldl] <;> first | (intro a x; (repeat' split) <;> first | (simp; done) | with_reducible rfl) | ((repeat' split) <;> first | (simp; done) | with_reducible rfl))
  | ((try dsimp only); (repeat' split) <;> first | (simp; done) | with_reducible rfl)
  | ((repeat' (with_reducible refine hbPart_ite ?_ ?_)) <;> first | (simp; done) | with_reducible rfl)
  | ((repeat' split) <;> first
      | (simp; done)
      | with_reducible rfl
      | (refine hbPart_foldl _ _ _ (fun a x => ?_); (repeat' split) <;> first | (simp; done) | with_reducible rfl)
      | ((try dsimp only); rw [hbPart_foldl] <;> first | (intro a x; (repeat' split) <;> first | (simp; done) | with_reducible rfl) | ((repeat' split) <;> first | (simp; done) | with_reducible rfl)))

@[simp↓] theorem hbPart_complete (s : State) (h : U32) (status : Nat) (detail : Nat) (data : List Byte) : hbPart (State.complete s h status detail data) = hbPart s := by
  unfold State.complete
  first
  | ((try dsimp only); (repeat' (first | with_reducible rfl | (with_reducible refine (hbPart_foldl _ _ _ (fun _ _ => ?_)).trans ?_) | (simp; done) | split | (rw [hbPart_mk, hbPart_fold]))); done)
  | ((repeat' split) <;> first | (simp; done) | with_reducible rfl)
  | (refine hbPart_foldl _ _ _ (fun a x => ?_); (repeat' split) <;> first | (simp; done) | with_reducible rfl)
  | ((try dsimp only); rw [hbPart_foldl] <;> first | (intro a x; (repeat' split) <;> first | (simp; done) | with_reducible rfl) | ((repeat' split) <;> first | (simp; done) | with_reducible rfl))
  | ((try dsimp only); (repeat' split) <;> first | (simp; done) | with_reducible rfl)
  | ((repeat' (with_reducible refine hbPart_ite ?_ ?_)) <;> first | (simp; done) | with_reducible rfl)
  | ((repeat' split) <;> first
      | (simp; done)
      | with_reducible rfl
      | (refine hbPart_foldl _ _ _ (fun a x => ?_); (repeat' split) <;> first | (simp; done) | with_reducible rfl)
      | ((try dsimp only); rw [hbPart_foldl] <;> first | (intro a x; (repeat' split) <;> first | (simp; done) | with_reducible rfl) | ((repeat' split) <;> first | (simp; done) | with_reducible rfl)))

@[simp↓] theorem hbPart_closeEdge (s : State) : hbPart (State.closeEdge s) = hbPart s := by
  unfold State.closeEdge
  first
  | ((try dsimp only); (repeat' (first | with_reducible rfl | (with_reducible refine (hbPart_foldl _ _ _ (fun _ _ => ?_)).trans ?_) | (simp; done) | split | (rw [hbPart_mk, hbPart_fold]))); done)
  | ((repeat' split) <;> first | (simp; done) | with_reducible rfl)
  | (refine hbPart_foldl _ _ _ (fun a x => ?_); (repeat' split) <;> first | (simp; done) | with_reducible rfl)
  | ((try dsimp only); rw [hbPart_foldl] <;> first | (intro a x; (repeat' split) <;> first | (simp; done) | with_reducible rfl) | ((repeat' split) <;> first | (simp; done) | with_reducible rfl))
  | ((try dsimp only); (repeat' split) <;> first | (simp; done) | with_reducible rfl)
  | ((repeat' (with_reducible refine hbPart_ite ?_ ?_)) <;> first | (simp; done) | with_reducible rfl)
  | ((repeat' split) <;> first
      | (simp; done)
      | with_reducible rfl
      | (refine hbPart_foldl _ _ _ (fun a x => ?_); (repeat' split) <;> first | (simp; done) | with_reducible rfl)
      | ((try dsimp only); rw [hbPart_foldl] <;> first | (intro a x; (repeat' split) <;> first | (simp; done) | with_reducible rfl) | ((repeat' split) <;> first | (simp; done) | with_reducible rfl)))

@[simp↓] theorem hbPart_setPort (s : State) (p : Nat) (v : PortSt1) : hbPart (State.setPort s p v) = hbPart s := by
  unfold State.setPort
  first
  | ((try dsimp only); (repeat' (first | with_reducible rfl | (with_reducible refine (hbPart_foldl _ _ _ (fun _ _ => ?_)).trans ?_) | (simp; done) | split | (rw [hbPart_mk, hbPart_fold]))); done)
  | ((repeat' split) <;> first | (simp; done) | with_reducible rfl)
  | (refine hbPart_foldl _ _ _ (fun a x => ?_); (repeat' split) <;> first | (simp; done) | with_reducible rfl)
  | ((try dsimp only); rw [hbPart_foldl] <;> first | (intro a x; (repeat' split) <;> first | (simp; done) | with_reducible rfl) | ((repeat' split) <;> first | (simp; done) | with_reducible rfl))
  | ((try dsimp only); (repeat' split) <;> first | (simp; done) | with_reducible rfl)
  | ((repeat' (with_reducible refine hbPart_ite ?_ ?_)) <;> first | (simp; done) | with_reducible rfl)
  | ((repeat' split) <;> first
      | (simp; done)
      | with_reducible rfl
      | (refine hbPart_foldl _ _ _ (fun a x => ?_); (repeat' split) <;> first | (simp; done) | with_reducible rfl)
      | ((try dsimp only); rw [hbPart_foldl] <;> first | (intro a x; (repeat' split) <;> first | (simp; done) | with_reducible rfl) | ((repeat' split) <;> first | (simp; done) | with_reducible rfl)))

@[simp↓] theorem hbPart_stampStart (s : State) (e : Nat) : hbPart (State.stampStart s e) = hbPart s := by
  unfold State.stampStart
  first
  | ((try dsimp only); (repeat' (first | with_reducible rfl | (with_reducible refine (hbPart_foldl _ _ _ (fun _ _ => ?_)).trans ?_) | (simp; done) | split | (rw [hbPart_mk, hbPart_fold]))); done)
  | ((repeat' split) <;> first | (simp; done) | with_reducible rfl)
  | (refine hbPart_foldl _ _ _ (fun a x => ?_); (repeat' split) <;> first | (simp; done) | with_reducible rfl)
  | ((try dsimp only); rw [hbPart_foldl] <;> first | (intro a x; (repeat' split) <;> first | (simp; done) | with_reducible rfl) | ((repeat' split) <;> first | (simp; done) | with_reducible rfl))
  | ((try dsimp only); (repeat' split) <;> first | (simp; done) | with_reducible rfl)
  | ((repeat' (with_reducible refine hbPart_ite ?_ ?_)) <;> first | (simp; done) | with_reducible rfl)
  | ((repeat' split) <;> first
      | (simp; done)
      | with_reducible rfl
      | (refine hbPart_foldl _ _ _ (fun a x => ?_); (repeat' split) <;> first | (simp; done) | with_reducible rfl)
      | ((try dsimp only); rw [hbPart_foldl] <;> first | (intro a x; (repeat' split) <;> first | (simp; done) | with_reducible rfl) | ((repeat' split) <;> first | (simp; done) | with_reducible rfl)))

@[simp↓] theorem hbPart_setCanCh (s : State) (c : Nat) (v : CanCh) : hbPart (State.setCanCh s c v) = hbPart s := by
  unfold State.setCanCh
  first
  | ((try dsimp only); (repeat' (first | with_reducible rfl | (with_reducible refine (hbPart_foldl _ _ _ (fun _ _ => ?_)).trans ?_) | (simp; done) | split | (rw [hbPart_mk, hbPart_fold]))); done)
  | ((repeat' split) <;> first | (simp; done) | with_reducible rfl)
  | (refine hbPart_foldl _ _ _ (fun a x => ?_); (repeat' split) <;> first | (simp; done) | with_reducible rfl)
  | ((try dsimp only); rw [hbPart_foldl] <;> first | (intro a x; (repeat' split) <;> first | (simp; done) | with_reducible rfl) | ((repeat' split) <;> first | (simp; done) | with_reducible rfl))
  | ((try dsimp only); (repeat' split) <;> first | (simp; done) | with_reducible rfl)
  | ((repeat' (with_reducible refine hbPart_ite ?_ ?_)) <;> first | (simp; done) | with_reducible rfl)
  | ((repeat' split) <;> first
      | (simp; done)
      | with_reducible rfl
      | (refine hbPart_foldl _ _ _ (fun a x => ?_); (repeat' split) <;> first | (simp; done) | with_reducible rfl)
      | ((try dsimp only); rw [hbPart_foldl] <;> first | (intro a x; (repeat' split) <;> first | (simp; done) | with_reducible rfl) | ((repeat' split) <;> first | (simp; done) | with_reducible rfl)))

@[simp↓] theorem hbPart_setCanBuf (s : State) (c : Nat) (b : Nat) (v : CanBuf) : hbPart (State.setCanBuf s c b v) = hbPart s := by
  unfold State.setCanBuf
  first
  | ((try dsimp only); (repeat' (first | with_reducible rfl | (with_reducible refine (hbPart_foldl _ _ _ (fun _ _ => ?_)).trans ?_) | (simp; done) | split | (rw [hbPart_mk, hbPart_fold]))); done)
  | ((repeat' split) <;> first | (simp; done) | with_reducible rfl)
  | (refine hbPart_foldl _ _ _ (fun a x => ?_); (repeat' split) <;> first | (simp; done) | with_reducible rfl)
  | ((try dsimp only); rw [hbPart_foldl] <;> first | (intro a x; (repeat' split) <;> first | (simp; done) | with_reducible rfl) | ((repeat' split) <;> first | (simp; done) | with_reducible rfl))
  | ((try dsimp only); (repeat' split) <;> first | (simp; done) | with_reducible rfl)
  | ((repeat' (with_reducible refine hbPart_ite ?_ ?_)) <;> first | (simp; done) | with_reducible rfl)
  | ((repeat' split) <;> first
      | (simp; done)
      | with_reducible rfl
      | (refine hbPart_foldl _ _ _ (fun a x => ?_); (repeat' split) <;> first | (simp; done) | with_reducible rfl)
      | ((try dsimp only); rw [hbPart_foldl] <;> first | (intro a x; (repeat' split) <;> first | (simp; done) | with_reducible rfl) | ((repeat' split) <;> first | (simp; done) | with_reducible rfl)))

@[simp↓] theorem hbPart_canStart (s : State) (c : Nat) : hbPart (State.canStart s c) = hbPart s := by
  unfold State.canStart
  first
  | ((try dsimp only); (repeat' (first | with_reducible rfl | (with_reducible refine (hbPart_foldl _ _ _ (fun _ _ => ?_)).trans ?_) | (simp; done) | split | (rw [hbPart_mk, hbPart_fold]))); done)
  | ((repeat' split) <;> first | (simp; done) | with_reducible rfl)
  | (refine hbPart_foldl _ _ _ (fun a x => ?_); (repeat' split) <;> first | (simp; done) | with_reducible rfl)
  | ((try dsimp only); rw [hbPart_foldl] <;> first | (intro a x; (repeat' split) <;> first | (simp; done) | with_reducible rfl) | ((repeat' split) <;> first | (simp; done) | with_reducible rfl))
  | ((try dsimp only); (repeat' split) <;> first | (simp; done) | with_reducible rfl)
  | ((repeat' (with_reducible refine hbPart_ite ?_ ?_)) <;> first | (simp; done) | with_reducible rfl)
  | ((repeat' split) <;> first
      | (simp; done)
      | with_reducible rfl
      | (refine hbPart_foldl _ _ _ (fun a x => ?_); (repeat' split) <;> first | (simp; done) | with_reducible rfl)
      | ((try dsimp only); rw [hbPart_foldl] <;> first | (intro a x; (repeat' split) <;> first | (simp; done) | with_reducible rfl) | ((repeat' split) <;> first | (simp; done) | with_reducible rfl)))

@[simp↓] theorem hbPart_canHandleEnd (s : State) (c : Nat) (b : Nat) (outcome : Nat) : hbPart (State.canHandleEnd s c b outcome) = hbPart s := by
  unfold State.canHandleEnd
  first
  | ((try dsimp only); (repeat' (first | with_reducible rfl | (with_reducible refine (hbPart_foldl _ _ _ (fun _ _ => ?_)).trans ?_) | (simp; done) | split | (rw [hbPart_mk, hbPart_fold]))); done)
  | ((repeat' split) <;> first | (simp; done) | with_reducible rfl)
  | (refine hbPart_foldl _ _ _ (fun a x => ?_); (repeat' split) <;> first | (simp; done) | with_reducible rfl)
  | ((try dsimp only); rw [hbPart_foldl] <;> first | (intro a x; (repeat' split) <;> first | (simp; done) | with_reducible rfl) | ((repeat' split) <;> first | (simp; done) | with_reducible rfl))
  | ((try dsimp only); (repeat' split) <;> first | (simp; done) | with_reducible rfl)
  | ((repeat' (with_reducible refine hbPart_ite ?_ ?_)) <;> first | (simp; done) | with_reducible rfl)
  | ((repeat' split) <;> first
      | (simp; done)
      | with_reducible rfl
      | (refine hbPart_foldl _ _ _ (fun a x => ?_); (repeat' split) <;> first | (simp; done) | with_reducible rfl)
      | ((try dsimp only); rw [hbPart_foldl] <;> first | (intro a x; (repeat' split) <;> first | (simp; done) | with_reducible rfl) | ((repeat' split) <;> first | (simp; done) | with_reducible rfl)))

@[simp↓] theorem hbPart_canEnd (s : State) (c : Nat) (b : Nat) (outcome : Nat) (late : Bool) : hbPart (State.canEnd s c b outcome late) = hbPart s := by
  unfold State.canEnd
  first
  | ((try dsimp only); (repeat' (first | with_reducible rfl | (with_reducible refine (hbPart_foldl _ _ _ (fun _ _ => ?_)).trans ?_) | (simp; done) | split | (rw [hbPart_mk, hbPart_fold]))); done)
  | ((repeat' split) <;> first | (simp; done) | with_reducible rfl)
  | (refine hbPart_foldl _ _ _ (fun a x => ?_); (repeat' split) <;> first | (simp; done) | with_reducible rfl)
  | ((try dsimp only); rw [hbPart_foldl] <;> first | (intro a x; (repeat' split) <;> first | (simp; done) | with_reducible rfl) | ((repeat' split) <;> first | (simp; done) | with_reducible rfl))
  | ((try dsimp only); (repeat' split) <;> first | (simp; done) | with_reducible rfl)
  | ((repeat' (with_reducible refine hbPart_ite ?_ ?_)) <;> first | (simp; done) | with_reducible rfl)
  | ((repeat' split) <;> first
      | (simp; done)
      | with_reducible rfl
      | (refine hbPart_foldl _ _ _ (fun a x => ?_); (repeat' split) <;> first | (simp; done) | with_reducible rfl)
      | ((try dsimp only); rw [hbPart_foldl] <;> first | (intro a x; (repeat' split) <;> first | (simp; done) | with_reducible rfl) | ((repeat' split) <;> first | (simp; done) | with_reducible rfl)))

@[simp↓] theorem hbPart_canEndHost (s : State) (c : Nat) (outcome : Nat) (shots : Bool) : hbPart (State.canEndHost s c outcome shots) = hbPart s := by
  unfold State.canEndHost
  first
  | ((try dsimp only); (repeat' (first | with_reducible rfl | (with_reducible refine (hbPart_foldl _ _ _ (fun _ _ => ?_)).trans ?_) | (simp; done) | split | (rw [hbPart_mk, hbPart_fold]))); done)
  | ((repeat' split) <;> first | (simp; done) | with_reducible rfl)
  | (refine hbPart_foldl _ _ _ (fun a x => ?_); (repeat' split) <;> first | (simp; done) | with_reducible rfl)
  | ((try dsimp only); rw [hbPart_foldl] <;> first | (intro a x; (repeat' split) <;> first | (simp; done) | with_reducible rfl) | ((repeat' split) <;> first | (simp; done) | with_reducible rfl))
  | ((try dsimp only); (repeat' split) <;> first | (simp; done) | with_reducible rfl)
  | ((repeat' (with_reducible refine hbPart_ite ?_ ?_)) <;> first | (simp; done) | with_reducible rfl)
  | ((repeat' split) <;> first
      | (simp; done)
      | with_reducible rfl
      | (refine hbPart_foldl _ _ _ (fun a x => ?_); (repeat' split) <;> first | (simp; done) | with_reducible rfl)
      | ((try dsimp only); rw [hbPart_foldl] <;> first | (intro a x; (repeat' split) <;> first | (simp; done) | with_reducible rfl) | ((repeat' split) <;> first | (simp; done) | with_reducible rfl)))

@[simp↓] theorem hbPart_canStartAll (s : State) : hbPart (State.canStartAll s) = hbPart s := by
  unfold State.canStartAll
  first
  | ((try dsimp only); (repeat' (first | with_reducible rfl | (with_reducible refine (hbPart_foldl _ _ _ (fun _ _ => ?_)).trans ?_) | (simp; done) | split | (rw [hbPart_mk, hbPart_fold]))); done)
  | ((repeat' split) <;> first | (simp; done) | with_reducible rfl)
  | (refine hbPart_foldl _ _ _ (fun a x => ?_); (repeat' split) <;> first | (simp; done) | with_reducible rfl)
  | ((try dsimp only); rw [hbPart_foldl] <;> first | (intro a x; (repeat' split) <;> first | (simp; done) | with_reducible rfl) | ((repeat' split) <;> first | (simp; done) | with_reducible rfl))
  | ((try dsimp only); (repeat' split) <;> first | (simp; done) | with_reducible rfl)
  | ((repeat' (with_reducible refine hbPart_ite ?_ ?_)) <;> first | (simp; done) | with_reducible rfl)
  | ((repeat' split) <;> first
      | (simp; done)
      | with_reducible rfl
      | (refine hbPart_foldl _ _ _ (fun a x => ?_); (repeat' split) <;> first | (simp; done) | with_reducible rfl)
      | ((try dsimp only); rw [hbPart_foldl] <;> first | (intro a x; (repeat' split) <;> first | (simp; done) | with_reducible rfl) | ((repeat' split) <;> first | (simp; done) | with_reducible rfl)))

@[simp↓] theorem hbPart_claimSeen (s : State) (claim : Nat) : hbPart (State.claimSeen s claim) = hbPart s := by
  unfold State.claimSeen
  first
  | ((try dsimp only); (repeat' (first | with_reducible rfl | (with_reducible refine (hbPart_foldl _ _ _ (fun _ _ => ?_)).trans ?_) | (simp; done) | split | (rw [hbPart_mk, hbPart_fold]))); done)
  | ((repeat' split) <;> first | (simp; done) | with_reducible rfl)
  | (refine hbPart_foldl _ _ _ (fun a x => ?_); (repeat' split) <;> first | (simp; done) | with_reducible rfl)
  | ((try dsimp only); rw [hbPart_foldl] <;> first | (intro a x; (repeat' split) <;> first | (simp; done) | with_reducible rfl) | ((repeat' split) <;> first | (simp; done) | with_reducible rfl))
  | ((try dsimp only); (repeat' split) <;> first | (simp; done) | with_reducible rfl)
  | ((repeat' (with_reducible refine hbPart_ite ?_ ?_)) <;> first | (simp; done) | with_reducible rfl)
  | ((repeat' split) <;> first
      | (simp; done)
      | with_reducible rfl
      | (refine hbPart_foldl _ _ _ (fun a x => ?_); (repeat' split) <;> first | (simp; done) | with_reducible rfl)
      | ((try dsimp only); rw [hbPart_foldl] <;> first | (intro a x; (repeat' split) <;> first | (simp; done) | with_reducible rfl) | ((repeat' split) <;> first | (simp; done) | with_reducible rfl)))

@[simp↓] theorem hbPart_setTask (s : State) (t : Nat) (v : TaskSt) : hbPart (State.setTask s t v) = hbPart s := by
  unfold State.setTask
  first
  | ((try dsimp only); (repeat' (first | with_reducible rfl | (with_reducible refine (hbPart_foldl _ _ _ (fun _ _ => ?_)).trans ?_) | (simp; done) | split | (rw [hbPart_mk, hbPart_fold]))); done)
  | ((repeat' split) <;> first | (simp; done) | with_reducible rfl)
  | (refine hbPart_foldl _ _ _ (fun a x => ?_); (repeat' split) <;> first | (simp; done) | with_reducible rfl)
  | ((try dsimp only); rw [hbPart_foldl] <;> first | (intro a x; (repeat' split) <;> first | (simp; done) | with_reducible rfl) | ((repeat' split) <;> first | (simp; done) | with_reducible rfl))
  | ((try dsimp only); (repeat' split) <;> first | (simp; done) | with_reducible rfl)
  | ((repeat' (with_reducible refine hbPart_ite ?_ ?_)) <;> first | (simp; done) | with_reducible rfl)
  | ((repeat' split) <;> first
      | (simp; done)
      | with_reducible rfl
      | (refine hbPart_foldl _ _ _ (fun a x => ?_); (repeat' split) <;> first | (simp; done) | with_reducible rfl)
      | ((try dsimp only); rw [hbPart_foldl] <;> first | (intro a x; (repeat' split) <;> first | (simp; done) | with_reducible rfl) | ((repeat' split) <;> first | (simp; done) | with_reducible rfl)))

@[simp↓] theorem hbPart_refreshBounds (s : State) : hbPart (State.refreshBounds s) = hbPart s := by
  unfold State.refreshBounds
  first
  | ((try dsimp only); (repeat' (first | with_reducible rfl | (with_reducible refine (hbPart_foldl _ _ _ (fun _ _ => ?_)).trans ?_) | (simp; done) | split | (rw [hbPart_mk, hbPart_fold]))); done)
  | ((repeat' split) <;> first | (simp; done) | with_reducible rfl)
  | (refine hbPart_foldl _ _ _ (fun a x => ?_); (repeat' split) <;> first | (simp; done) | with_reducible rfl)
  | ((try dsimp only); rw [hbPart_foldl] <;> first | (intro a x; (repeat' split) <;> first | (simp; done) | with_reducible rfl) | ((repeat' split) <;> first | (simp; done) | with_reducible rfl))
  | ((try dsimp only); (repeat' split) <;> first | (simp; done) | with_reducible rfl)
  | ((repeat' (with_reducible refine hbPart_ite ?_ ?_)) <;> first | (simp; done) | with_reducible rfl)
  | ((repeat' split) <;> first
      | (simp; done)
      | with_reducible rfl
      | (refine hbPart_foldl _ _ _ (fun a x => ?_); (repeat' split) <;> first | (simp; done) | with_reducible rfl)
      | ((try dsimp only); rw [hbPart_foldl] <;> first | (intro a x; (repeat' split) <;> first | (simp; done) | with_reducible rfl) | ((repeat' split) <;> first | (simp; done) | with_reducible rfl)))

@[simp↓] theorem hbPart_newGeneration (s : State) : hbPart (State.newGeneration s) = hbPart s := by
  unfold State.newGeneration
  first
  | ((try dsimp only); (repeat' (first | with_reducible rfl | (with_reducible refine (hbPart_foldl _ _ _ (fun _ _ => ?_)).trans ?_) | (simp; done) | split | (rw [hbPart_mk, hbPart_fold]))); done)
  | ((repeat' split) <;> first | (simp; done) | with_reducible rfl)
  | (refine hbPart_foldl _ _ _ (fun a x => ?_); (repeat' split) <;> first | (simp; done) | with_reducible rfl)
  | ((try dsimp only); rw [hbPart_foldl] <;> first | (intro a x; (repeat' split) <;> first | (simp; done) | with_reducible rfl) | ((repeat' split) <;> first | (simp; done) | with_reducible rfl))
  | ((try dsimp only); (repeat' split) <;> first | (simp; done) | with_reducible rfl)
  | ((repeat' (with_reducible refine hbPart_ite ?_ ?_)) <;> first | (simp; done) | with_reducible rfl)
  | ((repeat' split) <;> first
      | (simp; done)
      | with_reducible rfl
      | (refine hbPart_foldl _ _ _ (fun a x => ?_); (repeat' split) <;> first | (simp; done) | with_reducible rfl)
      | ((try dsimp only); rw [hbPart_foldl] <;> first | (intro a x; (repeat' split) <;> first | (simp; done) | with_reducible rfl) | ((repeat' split) <;> first | (simp; done) | with_reducible rfl)))

@[simp↓] theorem hbPart_progStart (s : State) (useFlush : Bool) : hbPart (State.progStart s useFlush) = hbPart s := by
  unfold State.progStart
  first
  | ((try dsimp only); (repeat' (first | with_reducible rfl | (with_reducible refine (hbPart_foldl _ _ _ (fun _ _ => ?_)).trans ?_) | (simp; done) | split | (rw [hbPart_mk, hbPart_fold]))); done)
  | ((repeat' split) <;> first | (simp; done) | with_reducible rfl)
  | (refine hbPart_foldl _ _ _ (fun a x => ?_); (repeat' split) <;> first | (simp; done) | with_reducible rfl)
  | ((try dsimp only); rw [hbPart_foldl] <;> first | (intro a x; (repeat' split) <;> first | (simp; done) | with_reducible rfl) | ((repeat' split) <;> first | (simp; done) | with_reducible rfl))
  | ((try dsimp only); (repeat' split) <;> first | (simp; done) | with_reducible rfl)
  | ((repeat' (with_reducible refine hbPart_ite ?_ ?_)) <;> first | (simp; done) | with_reducible rfl)
  | ((repeat' split) <;> first
      | (simp; done)
      | with_reducible rfl
      | (refine hbPart_foldl _ _ _ (fun a x => ?_); (repeat' split) <;> first | (simp; done) | with_reducible rfl)
      | ((try dsimp only); rw [hbPart_foldl] <;> first | (intro a x; (repeat' split) <;> first | (simp; done) | with_reducible rfl) | ((repeat' split) <;> first | (simp; done) | with_reducible rfl)))

@[simp↓] theorem hbPart_becomeActive (s : State) (u : UnitState) : hbPart (State.becomeActive s u) = hbPart s := by
  unfold State.becomeActive
  first
  | ((try dsimp only); (repeat' (first | with_reducible rfl | (with_reducible refine (hbPart_foldl _ _ _ (fun _ _ => ?_)).trans ?_) | (simp; done) | split | (rw [hbPart_mk, hbPart_fold]))); done)
  | ((repeat' split) <;> first | (simp; done) | with_reducible rfl)
  | (refine hbPart_foldl _ _ _ (fun a x => ?_); (repeat' split) <;> first | (simp; done) | with_reducible rfl)
  | ((try dsimp only); rw [hbPart_foldl] <;> first | (intro a x; (repeat' split) <;> first | (simp; done) | with_reducible rfl) | ((repeat' split) <;> first | (simp; done) | with_reducible rfl))
  | ((try dsimp only); (repeat' split) <;> first | (simp; done) | with_reducible rfl)
  | ((repeat' (with_reducible refine hbPart_ite ?_ ?_)) <;> first | (simp; done) | with_reducible rfl)
  | ((repeat' split) <;> first
      | (simp; done)
      | with_reducible rfl
      | (refine hbPart_foldl _ _ _ (fun a x => ?_); (repeat' split) <;> first | (simp; done) | with_reducible rfl)
      | ((try dsimp only); rw [hbPart_foldl] <;> first | (intro a x; (repeat' split) <;> first | (simp; done) | with_reducible rfl) | ((repeat' split) <;> first | (simp; done) | with_reducible rfl)))

@[simp↓] theorem hbPart_sendPair (s : State) (msg : Nat) (version : Nat) (epoch : Nat) (part : Nat) (sect : Option (Nat × CkptSec)) (payload : List Byte) : hbPart (State.sendPair s msg version epoch part sect payload) = hbPart s := by
  unfold State.sendPair
  first
  | ((try dsimp only); (repeat' (first | with_reducible rfl | (with_reducible refine (hbPart_foldl _ _ _ (fun _ _ => ?_)).trans ?_) | (simp; done) | split | (rw [hbPart_mk, hbPart_fold]))); done)
  | ((repeat' split) <;> first | (simp; done) | with_reducible rfl)
  | (refine hbPart_foldl _ _ _ (fun a x => ?_); (repeat' split) <;> first | (simp; done) | with_reducible rfl)
  | ((try dsimp only); rw [hbPart_foldl] <;> first | (intro a x; (repeat' split) <;> first | (simp; done) | with_reducible rfl) | ((repeat' split) <;> first | (simp; done) | with_reducible rfl))
  | ((try dsimp only); (repeat' split) <;> first | (simp; done) | with_reducible rfl)
  | ((repeat' (with_reducible refine hbPart_ite ?_ ?_)) <;> first | (simp; done) | with_reducible rfl)
  | ((repeat' split) <;> first
      | (simp; done)
      | with_reducible rfl
      | (refine hbPart_foldl _ _ _ (fun a x => ?_); (repeat' split) <;> first | (simp; done) | with_reducible rfl)
      | ((try dsimp only); rw [hbPart_foldl] <;> first | (intro a x; (repeat' split) <;> first | (simp; done) | with_reducible rfl) | ((repeat' split) <;> first | (simp; done) | with_reducible rfl)))

@[simp↓] theorem hbPart_toSyncing (s : State) : hbPart (State.toSyncing s) = hbPart s := by
  unfold State.toSyncing
  first
  | ((try dsimp only); (repeat' (first | with_reducible rfl | (with_reducible refine (hbPart_foldl _ _ _ (fun _ _ => ?_)).trans ?_) | (simp; done) | split | (rw [hbPart_mk, hbPart_fold]))); done)
  | ((repeat' split) <;> first | (simp; done) | with_reducible rfl)
  | (refine hbPart_foldl _ _ _ (fun a x => ?_); (repeat' split) <;> first | (simp; done) | with_reducible rfl)
  | ((try dsimp only); rw [hbPart_foldl] <;> first | (intro a x; (repeat' split) <;> first | (simp; done) | with_reducible rfl) | ((repeat' split) <;> first | (simp; done) | with_reducible rfl))
  | ((try dsimp only); (repeat' split) <;> first | (simp; done) | with_reducible rfl)
  | ((repeat' (with_reducible refine hbPart_ite ?_ ?_)) <;> first | (simp; done) | with_reducible rfl)
  | ((repeat' split) <;> first
      | (simp; done)
      | with_reducible rfl
      | (refine hbPart_foldl _ _ _ (fun a x => ?_); (repeat' split) <;> first | (simp; done) | with_reducible rfl)
      | ((try dsimp only); rw [hbPart_foldl] <;> first | (intro a x; (repeat' split) <;> first | (simp; done) | with_reducible rfl) | ((repeat' split) <;> first | (simp; done) | with_reducible rfl)))

@[simp↓] theorem hbPart_pairActive (s : State) : hbPart (State.pairActive s) = hbPart s := by
  unfold State.pairActive
  first
  | ((try dsimp only); (repeat' (first | with_reducible rfl | (with_reducible refine (hbPart_foldl _ _ _ (fun _ _ => ?_)).trans ?_) | (simp; done) | split | (rw [hbPart_mk, hbPart_fold]))); done)
  | ((repeat' split) <;> first | (simp; done) | with_reducible rfl)
  | (refine hbPart_foldl _ _ _ (fun a x => ?_); (repeat' split) <;> first | (simp; done) | with_reducible rfl)
  | ((try dsimp only); rw [hbPart_foldl] <;> first | (intro a x; (repeat' split) <;> first | (simp; done) | with_reducible rfl) | ((repeat' split) <;> first | (simp; done) | with_reducible rfl))
  | ((try dsimp only); (repeat' split) <;> first | (simp; done) | with_reducible rfl)
  | ((repeat' (with_reducible refine hbPart_ite ?_ ?_)) <;> first | (simp; done) | with_reducible rfl)
  | ((repeat' split) <;> first
      | (simp; done)
      | with_reducible rfl
      | (refine hbPart_foldl _ _ _ (fun a x => ?_); (repeat' split) <;> first | (simp; done) | with_reducible rfl)
      | ((try dsimp only); rw [hbPart_foldl] <;> first | (intro a x; (repeat' split) <;> first | (simp; done) | with_reducible rfl) | ((repeat' split) <;> first | (simp; done) | with_reducible rfl)))

@[simp↓] theorem hbPart_pairDecide (s : State) : hbPart (State.pairDecide s) = hbPart s := by
  unfold State.pairDecide
  first
  | ((try dsimp only); (repeat' (first | with_reducible rfl | (with_reducible refine (hbPart_foldl _ _ _ (fun _ _ => ?_)).trans ?_) | (simp; done) | split | (rw [hbPart_mk, hbPart_fold]))); done)
  | ((repeat' split) <;> first | (simp; done) | with_reducible rfl)
  | (refine hbPart_foldl _ _ _ (fun a x => ?_); (repeat' split) <;> first | (simp; done) | with_reducible rfl)
  | ((try dsimp only); rw [hbPart_foldl] <;> first | (intro a x; (repeat' split) <;> first | (simp; done) | with_reducible rfl) | ((repeat' split) <;> first | (simp; done) | with_reducible rfl))
  | ((try dsimp only); (repeat' split) <;> first | (simp; done) | with_reducible rfl)
  | ((repeat' (with_reducible refine hbPart_ite ?_ ?_)) <;> first | (simp; done) | with_reducible rfl)
  | ((repeat' split) <;> first
      | (simp; done)
      | with_reducible rfl
      | (refine hbPart_foldl _ _ _ (fun a x => ?_); (repeat' split) <;> first | (simp; done) | with_reducible rfl)
      | ((try dsimp only); rw [hbPart_foldl] <;> first | (intro a x; (repeat' split) <;> first | (simp; done) | with_reducible rfl) | ((repeat' split) <;> first | (simp; done) | with_reducible rfl)))

@[simp↓] theorem hbPart_floorRx (s : State) (m : HbMsg) : hbPart (State.floorRx s m) = hbPart s := by
  unfold State.floorRx
  first
  | ((try dsimp only); (repeat' (first | with_reducible rfl | (with_reducible refine (hbPart_foldl _ _ _ (fun _ _ => ?_)).trans ?_) | (simp; done) | split | (rw [hbPart_mk, hbPart_fold]))); done)
  | ((repeat' split) <;> first | (simp; done) | with_reducible rfl)
  | (refine hbPart_foldl _ _ _ (fun a x => ?_); (repeat' split) <;> first | (simp; done) | with_reducible rfl)
  | ((try dsimp only); rw [hbPart_foldl] <;> first | (intro a x; (repeat' split) <;> first | (simp; done) | with_reducible rfl) | ((repeat' split) <;> first | (simp; done) | with_reducible rfl))
  | ((try dsimp only); (repeat' split) <;> first | (simp; done) | with_reducible rfl)
  | ((repeat' (with_reducible refine hbPart_ite ?_ ?_)) <;> first | (simp; done) | with_reducible rfl)
  | ((repeat' split) <;> first
      | (simp; done)
      | with_reducible rfl
      | (refine hbPart_foldl _ _ _ (fun a x => ?_); (repeat' split) <;> first | (simp; done) | with_reducible rfl)
      | ((try dsimp only); rw [hbPart_foldl] <;> first | (intro a x; (repeat' split) <;> first | (simp; done) | with_reducible rfl) | ((repeat' split) <;> first | (simp; done) | with_reducible rfl)))

@[simp↓] theorem hbPart_followTime (s : State) (p : PairHdr) : hbPart (State.followTime s p) = hbPart s := by
  unfold State.followTime
  first
  | ((try dsimp only); (repeat' (first | with_reducible rfl | (with_reducible refine (hbPart_foldl _ _ _ (fun _ _ => ?_)).trans ?_) | (simp; done) | split | (rw [hbPart_mk, hbPart_fold]))); done)
  | ((repeat' split) <;> first | (simp; done) | with_reducible rfl)
  | (refine hbPart_foldl _ _ _ (fun a x => ?_); (repeat' split) <;> first | (simp; done) | with_reducible rfl)
  | ((try dsimp only); rw [hbPart_foldl] <;> first | (intro a x; (repeat' split) <;> first | (simp; done) | with_reducible rfl) | ((repeat' split) <;> first | (simp; done) | with_reducible rfl))
  | ((try dsimp only); (repeat' split) <;> first | (simp; done) | with_reducible rfl)
  | ((repeat' (with_reducible refine hbPart_ite ?_ ?_)) <;> first | (simp; done) | with_reducible rfl)
  | ((repeat' split) <;> first
      | (simp; done)
      | with_reducible rfl
      | (refine hbPart_foldl _ _ _ (fun a x => ?_); (repeat' split) <;> first | (simp; done) | with_reducible rfl)
      | ((try dsimp only); rw [hbPart_foldl] <;> first | (intro a x; (repeat' split) <;> first | (simp; done) | with_reducible rfl) | ((repeat' split) <;> first | (simp; done) | with_reducible rfl)))

@[simp↓] theorem hbPart_switchDone (s : State) : hbPart (State.switchDone s) = hbPart s := by
  unfold State.switchDone
  first
  | ((try dsimp only); (repeat' (first | with_reducible rfl | (with_reducible refine (hbPart_foldl _ _ _ (fun _ _ => ?_)).trans ?_) | (simp; done) | split | (rw [hbPart_mk, hbPart_fold]))); done)
  | ((repeat' split) <;> first | (simp; done) | with_reducible rfl)
  | (refine hbPart_foldl _ _ _ (fun a x => ?_); (repeat' split) <;> first | (simp; done) | with_reducible rfl)
  | ((try dsimp only); rw [hbPart_foldl] <;> first | (intro a x; (repeat' split) <;> first | (simp; done) | with_reducible rfl) | ((repeat' split) <;> first | (simp; done) | with_reducible rfl))
  | ((try dsimp only); (repeat' split) <;> first | (simp; done) | with_reducible rfl)
  | ((repeat' (with_reducible refine hbPart_ite ?_ ?_)) <;> first | (simp; done) | with_reducible rfl)
  | ((repeat' split) <;> first
      | (simp; done)
      | with_reducible rfl
      | (refine hbPart_foldl _ _ _ (fun a x => ?_); (repeat' split) <;> first | (simp; done) | with_reducible rfl)
      | ((try dsimp only); rw [hbPart_foldl] <;> first | (intro a x; (repeat' split) <;> first | (simp; done) | with_reducible rfl) | ((repeat' split) <;> first | (simp; done) | with_reducible rfl)))

@[simp↓] theorem hbPart_hbRole (s : State) (p : PairHdr) : hbPart (State.hbRole s p) = hbPart s := by
  unfold State.hbRole
  first
  | ((try dsimp only); (repeat' (first | with_reducible rfl | (with_reducible refine (hbPart_foldl _ _ _ (fun _ _ => ?_)).trans ?_) | (simp; done) | split | (rw [hbPart_mk, hbPart_fold]))); done)
  | ((repeat' split) <;> first | (simp; done) | with_reducible rfl)
  | (refine hbPart_foldl _ _ _ (fun a x => ?_); (repeat' split) <;> first | (simp; done) | with_reducible rfl)
  | ((try dsimp only); rw [hbPart_foldl] <;> first | (intro a x; (repeat' split) <;> first | (simp; done) | with_reducible rfl) | ((repeat' split) <;> first | (simp; done) | with_reducible rfl))
  | ((try dsimp only); (repeat' split) <;> first | (simp; done) | with_reducible rfl)
  | ((repeat' (with_reducible refine hbPart_ite ?_ ?_)) <;> first | (simp; done) | with_reducible rfl)
  | ((repeat' split) <;> first
      | (simp; done)
      | with_reducible rfl
      | (refine hbPart_foldl _ _ _ (fun a x => ?_); (repeat' split) <;> first | (simp; done) | with_reducible rfl)
      | ((try dsimp only); rw [hbPart_foldl] <;> first | (intro a x; (repeat' split) <;> first | (simp; done) | with_reducible rfl) | ((repeat' split) <;> first | (simp; done) | with_reducible rfl)))

@[simp↓] theorem hbPart_seqSync (s : State) (gap : Bool) : hbPart (State.seqSync s gap) = hbPart s := by
  unfold State.seqSync
  first
  | ((try dsimp only); (repeat' (first | with_reducible rfl | (with_reducible refine (hbPart_foldl _ _ _ (fun _ _ => ?_)).trans ?_) | (simp; done) | split | (rw [hbPart_mk, hbPart_fold]))); done)
  | ((repeat' split) <;> first | (simp; done) | with_reducible rfl)
  | (refine hbPart_foldl _ _ _ (fun a x => ?_); (repeat' split) <;> first | (simp; done) | with_reducible rfl)
  | ((try dsimp only); rw [hbPart_foldl] <;> first | (intro a x; (repeat' split) <;> first | (simp; done) | with_reducible rfl) | ((repeat' split) <;> first | (simp; done) | with_reducible rfl))
  | ((try dsimp only); (repeat' split) <;> first | (simp; done) | with_reducible rfl)
  | ((repeat' (with_reducible refine hbPart_ite ?_ ?_)) <;> first | (simp; done) | with_reducible rfl)
  | ((repeat' split) <;> first
      | (simp; done)
      | with_reducible rfl
      | (refine hbPart_foldl _ _ _ (fun a x => ?_); (repeat' split) <;> first | (simp; done) | with_reducible rfl)
      | ((try dsimp only); rw [hbPart_foldl] <;> first | (intro a x; (repeat' split) <;> first | (simp; done) | with_reducible rfl) | ((repeat' split) <;> first | (simp; done) | with_reducible rfl)))

/-- The parts `pair.unit`, `pair.demotions`, `pair.demotedAt`, `pair.demotedHold`. -/
def dmPart (s : State) := (s.pair.unit, s.pair.demotions, s.pair.demotedAt, s.pair.demotedHold)

@[simp] theorem dmPart_fold (s : State) : (s.pair.unit, s.pair.demotions, s.pair.demotedAt, s.pair.demotedHold) = dmPart s := rfl

@[simp↓] theorem dmPart_mk (epoch order ident host par lane prog model slv perc afe fed stn pts fio can net time key aud pair pwr rst drip past edge latch pending out free) : dmPart (State.mk epoch order ident host par lane prog model slv perc afe fed stn pts fio can net time key aud pair pwr rst drip past edge latch pending out free) = (pair.unit, pair.demotions, pair.demotedAt, pair.demotedHold) := rfl

theorem dmPart_silent {s t : State} (h : Silent s t) : dmPart t = dmPart s := by rw [h.rest]; rfl

theorem dmPart_ite {c : Prop} [Decidable c] {a b s : State} (ha : dmPart a = dmPart s) (hb : dmPart b = dmPart s) :
    dmPart (if c then a else b) = dmPart s := by
  split <;> assumption

theorem dmPart_foldl {α : Type} (l : List α) (f : State → α → State) (s : State) (h : ∀ a x, dmPart (f a x) = dmPart a) :
    dmPart (l.foldl f s) = dmPart s := by
  induction l generalizing s with
  | nil => rfl
  | cons x l ih => exact (ih _).trans (h s x)

@[simp↓] theorem dmPart_emit (s : State) (m : OutMsg) : dmPart (State.emit s m) = dmPart s := by
  exact dmPart_silent (silent_emit _ _)

@[simp↓] theorem dmPart_sendMsix (s : State) (v : Nat) : dmPart (State.sendMsix s v) = dmPart s := by
  exact dmPart_silent (silent_sendMsix _ _)

@[simp↓] theorem dmPart_syncDev (s : State) : dmPart (State.syncDev s) = dmPart s := by
  unfold State.syncDev
  first
  | ((try dsimp only); (repeat' (first | with_reducible rfl | (with_reducible refine (dmPart_foldl _ _ _ (fun _ _ => ?_)).trans ?_) | (simp; done) | split | (rw [dmPart_mk, dmPart_fold]))); done)
  | ((repeat' split) <;> first | (simp; done) | with_reducible rfl)
  | (refine dmPart_foldl _ _ _ (fun a x => ?_); (repeat' split) <;> first | (simp; done) | with_reducible rfl)
  | ((try dsimp only); rw [dmPart_foldl] <;> first | (intro a x; (repeat' split) <;> first | (simp; done) | with_reducible rfl) | ((repeat' split) <;> first | (simp; done) | with_reducible rfl))
  | ((try dsimp only); (repeat' split) <;> first | (simp; done) | with_reducible rfl)
  | ((repeat' (with_reducible refine dmPart_ite ?_ ?_)) <;> first | (simp; done) | with_reducible rfl)
  | ((repeat' split) <;> first
      | (simp; done)
      | with_reducible rfl
      | (refine dmPart_foldl _ _ _ (fun a x => ?_); (repeat' split) <;> first | (simp; done) | with_reducible rfl)
      | ((try dsimp only); rw [dmPart_foldl] <;> first | (intro a x; (repeat' split) <;> first | (simp; done) | with_reducible rfl) | ((repeat' split) <;> first | (simp; done) | with_reducible rfl)))

@[simp↓] theorem dmPart_setQueue (s : State) (n : Nat) (q : QPair) : dmPart (State.setQueue s n q) = dmPart s := by
  unfold State.setQueue
  first
  | ((try dsimp only); (repeat' (first | with_reducible rfl | (with_reducible refine (dmPart_foldl _ _ _ (fun _ _ => ?_)).trans ?_) | (simp; done) | split | (rw [dmPart_mk, dmPart_fold]))); done)
  | ((repeat' split) <;> first | (simp; done) | with_reducible rfl)
  | (refine dmPart_foldl _ _ _ (fun a x => ?_); (repeat' split) <;> first | (simp; done) | with_reducible rfl)
  | ((try dsimp only); rw [dmPart_foldl] <;> first | (intro a x; (repeat' split) <;> first | (simp; done) | with_reducible rfl) | ((repeat' split) <;> first | (simp; done) | with_reducible rfl))
  | ((try dsimp only); (repeat' split) <;> first | (simp; done) | with_reducible rfl)
  | ((repeat' (with_reducible refine dmPart_ite ?_ ?_)) <;> first | (simp; done) | with_reducible rfl)
  | ((repeat' split) <;> first
      | (simp; done)
      | with_reducible rfl
      | (refine dmPart_foldl _ _ _ (fun a x => ?_); (repeat' split) <;> first | (simp; done) | with_reducible rfl)
      | ((try dsimp only); rw [dmPart_foldl] <;> first | (intro a x; (repeat' split) <;> first | (simp; done) | with_reducible rfl) | ((repeat' split) <;> first | (simp; done) | with_reducible rfl)))

@[simp↓] theorem dmPart_auditPush (s : State) (r : AuditRec) : dmPart (State.auditPush s r) = dmPart s := by
  exact dmPart_silent (silent_auditPush _ _)

@[simp↓] theorem dmPart_auditDev (s : State) (kind : Nat) (opcode : Nat) (status : Nat) (subject : Nat) (data : List Byte) : dmPart (State.auditDev s kind opcode status subject data) = dmPart s := by
  exact dmPart_silent (silent_auditPush _ _)

@[simp↓] theorem dmPart_auditApplied (s : State) (subject : Nat) : dmPart (State.auditApplied s subject) = dmPart s := by
  unfold State.auditApplied
  first
  | ((try dsimp only); (repeat' (first | with_reducible rfl | (with_reducible refine (dmPart_foldl _ _ _ (fun _ _ => ?_)).trans ?_) | (simp; done) | split | (rw [dmPart_mk, dmPart_fold]))); done)
  | ((repeat' split) <;> first | (simp; done) | with_reducible rfl)
  | (refine dmPart_foldl _ _ _ (fun a x => ?_); (repeat' split) <;> first | (simp; done) | with_reducible rfl)
  | ((try dsimp only); rw [dmPart_foldl] <;> first | (intro a x; (repeat' split) <;> first | (simp; done) | with_reducible rfl) | ((repeat' split) <;> first | (simp; done) | with_reducible rfl))
  | ((try dsimp only); (repeat' split) <;> first | (simp; done) | with_reducible rfl)
  | ((repeat' (with_reducible refine dmPart_ite ?_ ?_)) <;> first | (simp; done) | with_reducible rfl)
  | ((repeat' split) <;> first
      | (simp; done)
      | with_reducible rfl
      | (refine dmPart_foldl _ _ _ (fun a x => ?_); (repeat' split) <;> first | (simp; done) | with_reducible rfl)
      | ((try dsimp only); rw [dmPart_foldl] <;> first | (intro a x; (repeat' split) <;> first | (simp; done) | with_reducible rfl) | ((repeat' split) <;> first | (simp; done) | with_reducible rfl)))

@[simp↓] theorem dmPart_postQueue (s : State) (n : Nat) (e : Entry) (data : List Byte) : dmPart (State.postQueue s n e data).1 = dmPart s := by
  exact dmPart_silent (silent_postQueue _ _ _ _)

@[simp↓] theorem dmPart_post (s : State) (dst : Src) (e : Entry) (data : List Byte) : dmPart (State.post s dst e data).1 = dmPart s := by
  exact dmPart_silent (silent_post _ _ _ _)

@[simp↓] theorem dmPart_event (s : State) (code : Nat) (status : Nat) (data : List Byte) : dmPart (State.event s code status data) = dmPart s := by
  exact dmPart_silent (silent_event _ _ _ _)

@[simp↓] theorem dmPart_condition (s : State) (status : Nat) (data : List Byte) : dmPart (State.condition s status data) = dmPart s := by
  exact dmPart_silent (silent_condition _ _ _)

@[simp↓] theorem dmPart_freeHandle (s : State) (i : Nat) : dmPart (State.freeHandle s i) = dmPart s := by
  unfold State.freeHandle
  first
  | ((try dsimp only); (repeat' (first | with_reducible rfl | (with_reducible refine (dmPart_foldl _ _ _ (fun _ _ => ?_)).trans ?_) | (simp; done) | split | (rw [dmPart_mk, dmPart_fold]))); done)
  | ((repeat' split) <;> first | (simp; done) | with_reducible rfl)
  | (refine dmPart_foldl _ _ _ (fun a x => ?_); (repeat' split) <;> first | (simp; done) | with_reducible rfl)
  | ((try dsimp only); rw [dmPart_foldl] <;> first | (intro a x; (repeat' split) <;> first | (simp; done) | with_reducible rfl) | ((repeat' split) <;> first | (simp; done) | with_reducible rfl))
  | ((try dsimp only); (repeat' split) <;> first | (simp; done) | with_reducible rfl)
  | ((repeat' (with_reducible refine dmPart_ite ?_ ?_)) <;> first | (simp; done) | with_reducible rfl)
  | ((repeat' split) <;> first
      | (simp; done)
      | with_reducible rfl
      | (refine dmPart_foldl _ _ _ (fun a x => ?_); (repeat' split) <;> first | (simp; done) | with_reducible rfl)
      | ((try dsimp only); rw [dmPart_foldl] <;> first | (intro a x; (repeat' split) <;> first | (simp; done) | with_reducible rfl) | ((repeat' split) <;> first | (simp; done) | with_reducible rfl)))

@[simp↓] theorem dmPart_complete (s : State) (h : U32) (status : Nat) (detail : Nat) (data : List Byte) : dmPart (State.complete s h status detail data) = dmPart s := by
  unfold State.complete
  first
  | ((try dsimp only); (repeat' (first | with_reducible rfl | (with_reducible refine (dmPart_foldl _ _ _ (fun _ _ => ?_)).trans ?_) | (simp; done) | split | (rw [dmPart_mk, dmPart_fold]))); done)
  | ((repeat' split) <;> first | (simp; done) | with_reducible rfl)
  | (refine dmPart_foldl _ _ _ (fun a x => ?_); (repeat' split) <;> first | (simp; done) | with_reducible rfl)
  | ((try dsimp only); rw [dmPart_foldl] <;> first | (intro a x; (repeat' split) <;> first | (simp; done) | with_reducible rfl) | ((repeat' split) <;> first | (simp; done) | with_reducible rfl))
  | ((try dsimp only); (repeat' split) <;> first | (simp; done) | with_reducible rfl)
  | ((repeat' (with_reducible refine dmPart_ite ?_ ?_)) <;> first | (simp; done) | with_reducible rfl)
  | ((repeat' split) <;> first
      | (simp; done)
      | with_reducible rfl
      | (refine dmPart_foldl _ _ _ (fun a x => ?_); (repeat' split) <;> first | (simp; done) | with_reducible rfl)
      | ((try dsimp only); rw [dmPart_foldl] <;> first | (intro a x; (repeat' split) <;> first | (simp; done) | with_reducible rfl) | ((repeat' split) <;> first | (simp; done) | with_reducible rfl)))

@[simp↓] theorem dmPart_setPt (s : State) (p : Nat) (v : Point) : dmPart (State.setPt s p v) = dmPart s := by
  unfold State.setPt
  first
  | ((try dsimp only); (repeat' (first | with_reducible rfl | (with_reducible refine (dmPart_foldl _ _ _ (fun _ _ => ?_)).trans ?_) | (simp; done) | split | (rw [dmPart_mk, dmPart_fold]))); done)
  | ((repeat' split) <;> first | (simp; done) | with_reducible rfl)
  | (refine dmPart_foldl _ _ _ (fun a x => ?_); (repeat' split) <;> first | (simp; done) | with_reducible rfl)
  | ((try dsimp only); rw [dmPart_foldl] <;> first | (intro a x; (repeat' split) <;> first | (simp; done) | with_reducible rfl) | ((repeat' split) <;> first | (simp; done) | with_reducible rfl))
  | ((try dsimp only); (repeat' split) <;> first | (simp; done) | with_reducible rfl)
  | ((repeat' (with_reducible refine dmPart_ite ?_ ?_)) <;> first | (simp; done) | with_reducible rfl)
  | ((repeat' split) <;> first
      | (simp; done)
      | with_reducible rfl
      | (refine dmPart_foldl _ _ _ (fun a x => ?_); (repeat' split) <;> first | (simp; done) | with_reducible rfl)
      | ((try dsimp only); rw [dmPart_foldl] <;> first | (intro a x; (repeat' split) <;> first | (simp; done) | with_reducible rfl) | ((repeat' split) <;> first | (simp; done) | with_reducible rfl)))

@[simp↓] theorem dmPart_closeEdge (s : State) : dmPart (State.closeEdge s) = dmPart s := by
  unfold State.closeEdge
  first
  | ((try dsimp only); (repeat' (first | with_reducible rfl | (with_reducible refine (dmPart_foldl _ _ _ (fun _ _ => ?_)).trans ?_) | (simp; done) | split | (rw [dmPart_mk, dmPart_fold]))); done)
  | ((repeat' split) <;> first | (simp; done) | with_reducible rfl)
  | (refine dmPart_foldl _ _ _ (fun a x => ?_); (repeat' split) <;> first | (simp; done) | with_reducible rfl)
  | ((try dsimp only); rw [dmPart_foldl] <;> first | (intro a x; (repeat' split) <;> first | (simp; done) | with_reducible rfl) | ((repeat' split) <;> first | (simp; done) | with_reducible rfl))
  | ((try dsimp only); (repeat' split) <;> first | (simp; done) | with_reducible rfl)
  | ((repeat' (with_reducible refine dmPart_ite ?_ ?_)) <;> first | (simp; done) | with_reducible rfl)
  | ((repeat' split) <;> first
      | (simp; done)
      | with_reducible rfl
      | (refine dmPart_foldl _ _ _ (fun a x => ?_); (repeat' split) <;> first | (simp; done) | with_reducible rfl)
      | ((try dsimp only); rw [dmPart_foldl] <;> first | (intro a x; (repeat' split) <;> first | (simp; done) | with_reducible rfl) | ((repeat' split) <;> first | (simp; done) | with_reducible rfl)))

@[simp↓] theorem dmPart_setItem (s : State) (l : U64) (k : KeyItem) : dmPart (State.setItem s l k) = dmPart s := by
  unfold State.setItem
  first
  | ((try dsimp only); (repeat' (first | with_reducible rfl | (with_reducible refine (dmPart_foldl _ _ _ (fun _ _ => ?_)).trans ?_) | (simp; done) | split | (rw [dmPart_mk, dmPart_fold]))); done)
  | ((repeat' split) <;> first | (simp; done) | with_reducible rfl)
  | (refine dmPart_foldl _ _ _ (fun a x => ?_); (repeat' split) <;> first | (simp; done) | with_reducible rfl)
  | ((try dsimp only); rw [dmPart_foldl] <;> first | (intro a x; (repeat' split) <;> first | (simp; done) | with_reducible rfl) | ((repeat' split) <;> first | (simp; done) | with_reducible rfl))
  | ((try dsimp only); (repeat' split) <;> first | (simp; done) | with_reducible rfl)
  | ((repeat' (with_reducible refine dmPart_ite ?_ ?_)) <;> first | (simp; done) | with_reducible rfl)
  | ((repeat' split) <;> first
      | (simp; done)
      | with_reducible rfl
      | (refine dmPart_foldl _ _ _ (fun a x => ?_); (repeat' split) <;> first | (simp; done) | with_reducible rfl)
      | ((try dsimp only); rw [dmPart_foldl] <;> first | (intro a x; (repeat' split) <;> first | (simp; done) | with_reducible rfl) | ((repeat' split) <;> first | (simp; done) | with_reducible rfl)))

@[simp↓] theorem dmPart_dropItem (s : State) (l : U64) : dmPart (State.dropItem s l) = dmPart s := by
  unfold State.dropItem
  first
  | ((try dsimp only); (repeat' (first | with_reducible rfl | (with_reducible refine (dmPart_foldl _ _ _ (fun _ _ => ?_)).trans ?_) | (simp; done) | split | (rw [dmPart_mk, dmPart_fold]))); done)
  | ((repeat' split) <;> first | (simp; done) | with_reducible rfl)
  | (refine dmPart_foldl _ _ _ (fun a x => ?_); (repeat' split) <;> first | (simp; done) | with_reducible rfl)
  | ((try dsimp only); rw [dmPart_foldl] <;> first | (intro a x; (repeat' split) <;> first | (simp; done) | with_reducible rfl) | ((repeat' split) <;> first | (simp; done) | with_reducible rfl))
  | ((try dsimp only); (repeat' split) <;> first | (simp; done) | with_reducible rfl)
  | ((repeat' (with_reducible refine dmPart_ite ?_ ?_)) <;> first | (simp; done) | with_reducible rfl)
  | ((repeat' split) <;> first
      | (simp; done)
      | with_reducible rfl
      | (refine dmPart_foldl _ _ _ (fun a x => ?_); (repeat' split) <;> first | (simp; done) | with_reducible rfl)
      | ((try dsimp only); rw [dmPart_foldl] <;> first | (intro a x; (repeat' split) <;> first | (simp; done) | with_reducible rfl) | ((repeat' split) <;> first | (simp; done) | with_reducible rfl)))

@[simp↓] theorem dmPart_setPort (s : State) (p : Nat) (v : PortSt1) : dmPart (State.setPort s p v) = dmPart s := by
  unfold State.setPort
  first
  | ((try dsimp only); (repeat' (first | with_reducible rfl | (with_reducible refine (dmPart_foldl _ _ _ (fun _ _ => ?_)).trans ?_) | (simp; done) | split | (rw [dmPart_mk, dmPart_fold]))); done)
  | ((repeat' split) <;> first | (simp; done) | with_reducible rfl)
  | (refine dmPart_foldl _ _ _ (fun a x => ?_); (repeat' split) <;> first | (simp; done) | with_reducible rfl)
  | ((try dsimp only); rw [dmPart_foldl] <;> first | (intro a x; (repeat' split) <;> first | (simp; done) | with_reducible rfl) | ((repeat' split) <;> first | (simp; done) | with_reducible rfl))
  | ((try dsimp only); (repeat' split) <;> first | (simp; done) | with_reducible rfl)
  | ((repeat' (with_reducible refine dmPart_ite ?_ ?_)) <;> first | (simp; done) | with_reducible rfl)
  | ((repeat' split) <;> first
      | (simp; done)
      | with_reducible rfl
      | (refine dmPart_foldl _ _ _ (fun a x => ?_); (repeat' split) <;> first | (simp; done) | with_reducible rfl)
      | ((try dsimp only); rw [dmPart_foldl] <;> first | (intro a x; (repeat' split) <;> first | (simp; done) | with_reducible rfl) | ((repeat' split) <;> first | (simp; done) | with_reducible rfl)))

@[simp↓] theorem dmPart_setFio (s : State) (c : Nat) (v : FioCh) : dmPart (State.setFio s c v) = dmPart s := by
  unfold State.setFio
  first
  | ((try dsimp only); (repeat' (first | with_reducible rfl | (with_reducible refine (dmPart_foldl _ _ _ (fun _ _ => ?_)).trans ?_) | (simp; done) | split | (rw [dmPart_mk, dmPart_fold]))); done)
  | ((repeat' split) <;> first | (simp; done) | with_reducible rfl)
  | (refine dmPart_foldl _ _ _ (fun a x => ?_); (repeat' split) <;> first | (simp; done) | with_reducible rfl)
  | ((try dsimp only); rw [dmPart_foldl] <;> first | (intro a x; (repeat' split) <;> first | (simp; done) | with_reducible rfl) | ((repeat' split) <;> first | (simp; done) | with_reducible rfl))
  | ((try dsimp only); (repeat' split) <;> first | (simp; done) | with_reducible rfl)
  | ((repeat' (with_reducible refine dmPart_ite ?_ ?_)) <;> first | (simp; done) | with_reducible rfl)
  | ((repeat' split) <;> first
      | (simp; done)
      | with_reducible rfl
      | (refine dmPart_foldl _ _ _ (fun a x => ?_); (repeat' split) <;> first | (simp; done) | with_reducible rfl)
      | ((try dsimp only); rw [dmPart_foldl] <;> first | (intro a x; (repeat' split) <;> first | (simp; done) | with_reducible rfl) | ((repeat' split) <;> first | (simp; done) | with_reducible rfl)))

@[simp↓] theorem dmPart_setAout (s : State) (a : Nat) (v : AoutCh) : dmPart (State.setAout s a v) = dmPart s := by
  unfold State.setAout
  first
  | ((try dsimp only); (repeat' (first | with_reducible rfl | (with_reducible refine (dmPart_foldl _ _ _ (fun _ _ => ?_)).trans ?_) | (simp; done) | split | (rw [dmPart_mk, dmPart_fold]))); done)
  | ((repeat' split) <;> first | (simp; done) | with_reducible rfl)
  | (refine dmPart_foldl _ _ _ (fun a x => ?_); (repeat' split) <;> first | (simp; done) | with_reducible rfl)
  | ((try dsimp only); rw [dmPart_foldl] <;> first | (intro a x; (repeat' split) <;> first | (simp; done) | with_reducible rfl) | ((repeat' split) <;> first | (simp; done) | with_reducible rfl))
  | ((try dsimp only); (repeat' split) <;> first | (simp; done) | with_reducible rfl)
  | ((repeat' (with_reducible refine dmPart_ite ?_ ?_)) <;> first | (simp; done) | with_reducible rfl)
  | ((repeat' split) <;> first
      | (simp; done)
      | with_reducible rfl
      | (refine dmPart_foldl _ _ _ (fun a x => ?_); (repeat' split) <;> first | (simp; done) | with_reducible rfl)
      | ((try dsimp only); rw [dmPart_foldl] <;> first | (intro a x; (repeat' split) <;> first | (simp; done) | with_reducible rfl) | ((repeat' split) <;> first | (simp; done) | with_reducible rfl)))

@[simp↓] theorem dmPart_fieldOff (s : State) : dmPart (State.fieldOff s) = dmPart s := by
  unfold State.fieldOff
  first
  | ((try dsimp only); (repeat' (first | with_reducible rfl | (with_reducible refine (dmPart_foldl _ _ _ (fun _ _ => ?_)).trans ?_) | (simp; done) | split | (rw [dmPart_mk, dmPart_fold]))); done)
  | ((repeat' split) <;> first | (simp; done) | with_reducible rfl)
  | (refine dmPart_foldl _ _ _ (fun a x => ?_); (repeat' split) <;> first | (simp; done) | with_reducible rfl)
  | ((try dsimp only); rw [dmPart_foldl] <;> first | (intro a x; (repeat' split) <;> first | (simp; done) | with_reducible rfl) | ((repeat' split) <;> first | (simp; done) | with_reducible rfl))
  | ((try dsimp only); (repeat' split) <;> first | (simp; done) | with_reducible rfl)
  | ((repeat' (with_reducible refine dmPart_ite ?_ ?_)) <;> first | (simp; done) | with_reducible rfl)
  | ((repeat' split) <;> first
      | (simp; done)
      | with_reducible rfl
      | (refine dmPart_foldl _ _ _ (fun a x => ?_); (repeat' split) <;> first | (simp; done) | with_reducible rfl)
      | ((try dsimp only); rw [dmPart_foldl] <;> first | (intro a x; (repeat' split) <;> first | (simp; done) | with_reducible rfl) | ((repeat' split) <;> first | (simp; done) | with_reducible rfl)))

@[simp↓] theorem dmPart_setCanCh (s : State) (c : Nat) (v : CanCh) : dmPart (State.setCanCh s c v) = dmPart s := by
  unfold State.setCanCh
  first
  | ((try dsimp only); (repeat' (first | with_reducible rfl | (with_reducible refine (dmPart_foldl _ _ _ (fun _ _ => ?_)).trans ?_) | (simp; done) | split | (rw [dmPart_mk, dmPart_fold]))); done)
  | ((repeat' split) <;> first | (simp; done) | with_reducible rfl)
  | (refine dmPart_foldl _ _ _ (fun a x => ?_); (repeat' split) <;> first | (simp; done) | with_reducible rfl)
  | ((try dsimp only); rw [dmPart_foldl] <;> first | (intro a x; (repeat' split) <;> first | (simp; done) | with_reducible rfl) | ((repeat' split) <;> first | (simp; done) | with_reducible rfl))
  | ((try dsimp only); (repeat' split) <;> first | (simp; done) | with_reducible rfl)
  | ((repeat' (with_reducible refine dmPart_ite ?_ ?_)) <;> first | (simp; done) | with_reducible rfl)
  | ((repeat' split) <;> first
      | (simp; done)
      | with_reducible rfl
      | (refine dmPart_foldl _ _ _ (fun a x => ?_); (repeat' split) <;> first | (simp; done) | with_reducible rfl)
      | ((try dsimp only); rw [dmPart_foldl] <;> first | (intro a x; (repeat' split) <;> first | (simp; done) | with_reducible rfl) | ((repeat' split) <;> first | (simp; done) | with_reducible rfl)))

@[simp↓] theorem dmPart_setCanBuf (s : State) (c : Nat) (b : Nat) (v : CanBuf) : dmPart (State.setCanBuf s c b v) = dmPart s := by
  unfold State.setCanBuf
  first
  | ((try dsimp only); (repeat' (first | with_reducible rfl | (with_reducible refine (dmPart_foldl _ _ _ (fun _ _ => ?_)).trans ?_) | (simp; done) | split | (rw [dmPart_mk, dmPart_fold]))); done)
  | ((repeat' split) <;> first | (simp; done) | with_reducible rfl)
  | (refine dmPart_foldl _ _ _ (fun a x => ?_); (repeat' split) <;> first | (simp; done) | with_reducible rfl)
  | ((try dsimp only); rw [dmPart_foldl] <;> first | (intro a x; (repeat' split) <;> first | (simp; done) | with_reducible rfl) | ((repeat' split) <;> first | (simp; done) | with_reducible rfl))
  | ((try dsimp only); (repeat' split) <;> first | (simp; done) | with_reducible rfl)
  | ((repeat' (with_reducible refine dmPart_ite ?_ ?_)) <;> first | (simp; done) | with_reducible rfl)
  | ((repeat' split) <;> first
      | (simp; done)
      | with_reducible rfl
      | (refine dmPart_foldl _ _ _ (fun a x => ?_); (repeat' split) <;> first | (simp; done) | with_reducible rfl)
      | ((try dsimp only); rw [dmPart_foldl] <;> first | (intro a x; (repeat' split) <;> first | (simp; done) | with_reducible rfl) | ((repeat' split) <;> first | (simp; done) | with_reducible rfl)))

@[simp↓] theorem dmPart_canHandleEnd (s : State) (c : Nat) (b : Nat) (outcome : Nat) : dmPart (State.canHandleEnd s c b outcome) = dmPart s := by
  unfold State.canHandleEnd
  first
  | ((try dsimp only); (repeat' (first | with_reducible rfl | (with_reducible refine (dmPart_foldl _ _ _ (fun _ _ => ?_)).trans ?_) | (simp; done) | split | (rw [dmPart_mk, dmPart_fold]))); done)
  | ((repeat' split) <;> first | (simp; done) | with_reducible rfl)
  | (refine dmPart_foldl _ _ _ (fun a x => ?_); (repeat' split) <;> first | (simp; done) | with_reducible rfl)
  | ((try dsimp only); rw [dmPart_foldl] <;> first | (intro a x; (repeat' split) <;> first | (simp; done) | with_reducible rfl) | ((repeat' split) <;> first | (simp; done) | with_reducible rfl))
  | ((try dsimp only); (repeat' split) <;> first | (simp; done) | with_reducible rfl)
  | ((repeat' (with_reducible refine dmPart_ite ?_ ?_)) <;> first | (simp; done) | with_reducible rfl)
  | ((repeat' split) <;> first
      | (simp; done)
      | with_reducible rfl
      | (refine dmPart_foldl _ _ _ (fun a x => ?_); (repeat' split) <;> first | (simp; done) | with_reducible rfl)
      | ((try dsimp only); rw [dmPart_foldl] <;> first | (intro a x; (repeat' split) <;> first | (simp; done) | with_reducible rfl) | ((repeat' split) <;> first | (simp; done) | with_reducible rfl)))

@[simp↓] theorem dmPart_canEnd (s : State) (c : Nat) (b : Nat) (outcome : Nat) (late : Bool) : dmPart (State.canEnd s c b outcome late) = dmPart s := by
  unfold State.canEnd
  first
  | ((try dsimp only); (repeat' (first | with_reducible rfl | (with_reducible refine (dmPart_foldl _ _ _ (fun _ _ => ?_)).trans ?_) | (simp; done) | split | (rw [dmPart_mk, dmPart_fold]))); done)
  | ((repeat' split) <;> first | (simp; done) | with_reducible rfl)
  | (refine dmPart_foldl _ _ _ (fun a x => ?_); (repeat' split) <;> first | (simp; done) | with_reducible rfl)
  | ((try dsimp only); rw [dmPart_foldl] <;> first | (intro a x; (repeat' split) <;> first | (simp; done) | with_reducible rfl) | ((repeat' split) <;> first | (simp; done) | with_reducible rfl))
  | ((try dsimp only); (repeat' split) <;> first | (simp; done) | with_reducible rfl)
  | ((repeat' (with_reducible refine dmPart_ite ?_ ?_)) <;> first | (simp; done) | with_reducible rfl)
  | ((repeat' split) <;> first
      | (simp; done)
      | with_reducible rfl
      | (refine dmPart_foldl _ _ _ (fun a x => ?_); (repeat' split) <;> first | (simp; done) | with_reducible rfl)
      | ((try dsimp only); rw [dmPart_foldl] <;> first | (intro a x; (repeat' split) <;> first | (simp; done) | with_reducible rfl) | ((repeat' split) <;> first | (simp; done) | with_reducible rfl)))

@[simp↓] theorem dmPart_canEndHost (s : State) (c : Nat) (outcome : Nat) (shots : Bool) : dmPart (State.canEndHost s c outcome shots) = dmPart s := by
  unfold State.canEndHost
  first
  | ((try dsimp only); (repeat' (first | with_reducible rfl | (with_reducible refine (dmPart_foldl _ _ _ (fun _ _ => ?_)).trans ?_) | (simp; done) | split | (rw [dmPart_mk, dmPart_fold]))); done)
  | ((repeat' split) <;> first | (simp; done) | with_reducible rfl)
  | (refine dmPart_foldl _ _ _ (fun a x => ?_); (repeat' split) <;> first | (simp; done) | with_reducible rfl)
  | ((try dsimp only); rw [dmPart_foldl] <;> first | (intro a x; (repeat' split) <;> first | (simp; done) | with_reducible rfl) | ((repeat' split) <;> first | (simp; done) | with_reducible rfl))
  | ((try dsimp only); (repeat' split) <;> first | (simp; done) | with_reducible rfl)
  | ((repeat' (with_reducible refine dmPart_ite ?_ ?_)) <;> first | (simp; done) | with_reducible rfl)
  | ((repeat' split) <;> first
      | (simp; done)
      | with_reducible rfl
      | (refine dmPart_foldl _ _ _ (fun a x => ?_); (repeat' split) <;> first | (simp; done) | with_reducible rfl)
      | ((try dsimp only); rw [dmPart_foldl] <;> first | (intro a x; (repeat' split) <;> first | (simp; done) | with_reducible rfl) | ((repeat' split) <;> first | (simp; done) | with_reducible rfl)))

@[simp↓] theorem dmPart_canHold (s : State) : dmPart (State.canHold s) = dmPart s := by
  unfold State.canHold
  first
  | ((try dsimp only); (repeat' (first | with_reducible rfl | (with_reducible refine (dmPart_foldl _ _ _ (fun _ _ => ?_)).trans ?_) | (simp; done) | split | (rw [dmPart_mk, dmPart_fold]))); done)
  | ((repeat' split) <;> first | (simp; done) | with_reducible rfl)
  | (refine dmPart_foldl _ _ _ (fun a x => ?_); (repeat' split) <;> first | (simp; done) | with_reducible rfl)
  | ((try dsimp only); rw [dmPart_foldl] <;> first | (intro a x; (repeat' split) <;> first | (simp; done) | with_reducible rfl) | ((repeat' split) <;> first | (simp; done) | with_reducible rfl))
  | ((try dsimp only); (repeat' split) <;> first | (simp; done) | with_reducible rfl)
  | ((repeat' (with_reducible refine dmPart_ite ?_ ?_)) <;> first | (simp; done) | with_reducible rfl)
  | ((repeat' split) <;> first
      | (simp; done)
      | with_reducible rfl
      | (refine dmPart_foldl _ _ _ (fun a x => ?_); (repeat' split) <;> first | (simp; done) | with_reducible rfl)
      | ((try dsimp only); rw [dmPart_foldl] <;> first | (intro a x; (repeat' split) <;> first | (simp; done) | with_reducible rfl) | ((repeat' split) <;> first | (simp; done) | with_reducible rfl)))

@[simp↓] theorem dmPart_setTask (s : State) (t : Nat) (v : TaskSt) : dmPart (State.setTask s t v) = dmPart s := by
  unfold State.setTask
  first
  | ((try dsimp only); (repeat' (first | with_reducible rfl | (with_reducible refine (dmPart_foldl _ _ _ (fun _ _ => ?_)).trans ?_) | (simp; done) | split | (rw [dmPart_mk, dmPart_fold]))); done)
  | ((repeat' split) <;> first | (simp; done) | with_reducible rfl)
  | (refine dmPart_foldl _ _ _ (fun a x => ?_); (repeat' split) <;> first | (simp; done) | with_reducible rfl)
  | ((try dsimp only); rw [dmPart_foldl] <;> first | (intro a x; (repeat' split) <;> first | (simp; done) | with_reducible rfl) | ((repeat' split) <;> first | (simp; done) | with_reducible rfl))
  | ((try dsimp only); (repeat' split) <;> first | (simp; done) | with_reducible rfl)
  | ((repeat' (with_reducible refine dmPart_ite ?_ ?_)) <;> first | (simp; done) | with_reducible rfl)
  | ((repeat' split) <;> first
      | (simp; done)
      | with_reducible rfl
      | (refine dmPart_foldl _ _ _ (fun a x => ?_); (repeat' split) <;> first | (simp; done) | with_reducible rfl)
      | ((try dsimp only); rw [dmPart_foldl] <;> first | (intro a x; (repeat' split) <;> first | (simp; done) | with_reducible rfl) | ((repeat' split) <;> first | (simp; done) | with_reducible rfl)))

@[simp↓] theorem dmPart_abandonCycles (s : State) : dmPart (State.abandonCycles s) = dmPart s := by
  unfold State.abandonCycles
  first
  | ((try dsimp only); (repeat' (first | with_reducible rfl | (with_reducible refine (dmPart_foldl _ _ _ (fun _ _ => ?_)).trans ?_) | (simp; done) | split | (rw [dmPart_mk, dmPart_fold]))); done)
  | ((repeat' split) <;> first | (simp; done) | with_reducible rfl)
  | (refine dmPart_foldl _ _ _ (fun a x => ?_); (repeat' split) <;> first | (simp; done) | with_reducible rfl)
  | ((try dsimp only); rw [dmPart_foldl] <;> first | (intro a x; (repeat' split) <;> first | (simp; done) | with_reducible rfl) | ((repeat' split) <;> first | (simp; done) | with_reducible rfl))
  | ((try dsimp only); (repeat' split) <;> first | (simp; done) | with_reducible rfl)
  | ((repeat' (with_reducible refine dmPart_ite ?_ ?_)) <;> first | (simp; done) | with_reducible rfl)
  | ((repeat' split) <;> first
      | (simp; done)
      | with_reducible rfl
      | (refine dmPart_foldl _ _ _ (fun a x => ?_); (repeat' split) <;> first | (simp; done) | with_reducible rfl)
      | ((try dsimp only); rw [dmPart_foldl] <;> first | (intro a x; (repeat' split) <;> first | (simp; done) | with_reducible rfl) | ((repeat' split) <;> first | (simp; done) | with_reducible rfl)))

@[simp↓] theorem dmPart_newGeneration (s : State) : dmPart (State.newGeneration s) = dmPart s := by
  unfold State.newGeneration
  first
  | ((try dsimp only); (repeat' (first | with_reducible rfl | (with_reducible refine (dmPart_foldl _ _ _ (fun _ _ => ?_)).trans ?_) | (simp; done) | split | (rw [dmPart_mk, dmPart_fold]))); done)
  | ((repeat' split) <;> first | (simp; done) | with_reducible rfl)
  | (refine dmPart_foldl _ _ _ (fun a x => ?_); (repeat' split) <;> first | (simp; done) | with_reducible rfl)
  | ((try dsimp only); rw [dmPart_foldl] <;> first | (intro a x; (repeat' split) <;> first | (simp; done) | with_reducible rfl) | ((repeat' split) <;> first | (simp; done) | with_reducible rfl))
  | ((try dsimp only); (repeat' split) <;> first | (simp; done) | with_reducible rfl)
  | ((repeat' (with_reducible refine dmPart_ite ?_ ?_)) <;> first | (simp; done) | with_reducible rfl)
  | ((repeat' split) <;> first
      | (simp; done)
      | with_reducible rfl
      | (refine dmPart_foldl _ _ _ (fun a x => ?_); (repeat' split) <;> first | (simp; done) | with_reducible rfl)
      | ((try dsimp only); rw [dmPart_foldl] <;> first | (intro a x; (repeat' split) <;> first | (simp; done) | with_reducible rfl) | ((repeat' split) <;> first | (simp; done) | with_reducible rfl)))

@[simp↓] theorem dmPart_loseInstall (s : State) (o : KeyOp) : dmPart (State.loseInstall s o) = dmPart s := by
  unfold State.loseInstall
  first
  | ((try dsimp only); (repeat' (first | with_reducible rfl | (with_reducible refine (dmPart_foldl _ _ _ (fun _ _ => ?_)).trans ?_) | (simp; done) | split | (rw [dmPart_mk, dmPart_fold]))); done)
  | ((repeat' split) <;> first | (simp; done) | with_reducible rfl)
  | (refine dmPart_foldl _ _ _ (fun a x => ?_); (repeat' split) <;> first | (simp; done) | with_reducible rfl)
  | ((try dsimp only); rw [dmPart_foldl] <;> first | (intro a x; (repeat' split) <;> first | (simp; done) | with_reducible rfl) | ((repeat' split) <;> first | (simp; done) | with_reducible rfl))
  | ((try dsimp only); (repeat' split) <;> first | (simp; done) | with_reducible rfl)
  | ((repeat' (with_reducible refine dmPart_ite ?_ ?_)) <;> first | (simp; done) | with_reducible rfl)
  | ((repeat' split) <;> first
      | (simp; done)
      | with_reducible rfl
      | (refine dmPart_foldl _ _ _ (fun a x => ?_); (repeat' split) <;> first | (simp; done) | with_reducible rfl)
      | ((try dsimp only); rw [dmPart_foldl] <;> first | (intro a x; (repeat' split) <;> first | (simp; done) | with_reducible rfl) | ((repeat' split) <;> first | (simp; done) | with_reducible rfl)))

@[simp↓] theorem dmPart_loseInstalls (s : State) : dmPart (State.loseInstalls s) = dmPart s := by
  unfold State.loseInstalls
  first
  | ((try dsimp only); (repeat' (first | with_reducible rfl | (with_reducible refine (dmPart_foldl _ _ _ (fun _ _ => ?_)).trans ?_) | (simp; done) | split | (rw [dmPart_mk, dmPart_fold]))); done)
  | ((repeat' split) <;> first | (simp; done) | with_reducible rfl)
  | (refine dmPart_foldl _ _ _ (fun a x => ?_); (repeat' split) <;> first | (simp; done) | with_reducible rfl)
  | ((try dsimp only); rw [dmPart_foldl] <;> first | (intro a x; (repeat' split) <;> first | (simp; done) | with_reducible rfl) | ((repeat' split) <;> first | (simp; done) | with_reducible rfl))
  | ((try dsimp only); (repeat' split) <;> first | (simp; done) | with_reducible rfl)
  | ((repeat' (with_reducible refine dmPart_ite ?_ ?_)) <;> first | (simp; done) | with_reducible rfl)
  | ((repeat' split) <;> first
      | (simp; done)
      | with_reducible rfl
      | (refine dmPart_foldl _ _ _ (fun a x => ?_); (repeat' split) <;> first | (simp; done) | with_reducible rfl)
      | ((try dsimp only); rw [dmPart_foldl] <;> first | (intro a x; (repeat' split) <;> first | (simp; done) | with_reducible rfl) | ((repeat' split) <;> first | (simp; done) | with_reducible rfl)))

@[simp↓] theorem dmPart_dropHandles (s : State) (keep : Option U32) : dmPart (State.dropHandles s keep) = dmPart s := by
  unfold State.dropHandles
  first
  | ((try dsimp only); (repeat' (first | with_reducible rfl | (with_reducible refine (dmPart_foldl _ _ _ (fun _ _ => ?_)).trans ?_) | (simp; done) | split | (rw [dmPart_mk, dmPart_fold]))); done)
  | ((repeat' split) <;> first | (simp; done) | with_reducible rfl)
  | (refine dmPart_foldl _ _ _ (fun a x => ?_); (repeat' split) <;> first | (simp; done) | with_reducible rfl)
  | ((try dsimp only); rw [dmPart_foldl] <;> first | (intro a x; (repeat' split) <;> first | (simp; done) | with_reducible rfl) | ((repeat' split) <;> first | (simp; done) | with_reducible rfl))
  | ((try dsimp only); (repeat' split) <;> first | (simp; done) | with_reducible rfl)
  | ((repeat' (with_reducible refine dmPart_ite ?_ ?_)) <;> first | (simp; done) | with_reducible rfl)
  | ((repeat' split) <;> first
      | (simp; done)
      | with_reducible rfl
      | (refine dmPart_foldl _ _ _ (fun a x => ?_); (repeat' split) <;> first | (simp; done) | with_reducible rfl)
      | ((try dsimp only); rw [dmPart_foldl] <;> first | (intro a x; (repeat' split) <;> first | (simp; done) | with_reducible rfl) | ((repeat' split) <;> first | (simp; done) | with_reducible rfl)))

@[simp↓] theorem dmPart_dropHost (s : State) (keep : Option U32) : dmPart (State.dropHost s keep) = dmPart s := by
  unfold State.dropHost
  first
  | ((try dsimp only); (repeat' (first | with_reducible rfl | (with_reducible refine (dmPart_foldl _ _ _ (fun _ _ => ?_)).trans ?_) | (simp; done) | split | (rw [dmPart_mk, dmPart_fold]))); done)
  | ((repeat' split) <;> first | (simp; done) | with_reducible rfl)
  | (refine dmPart_foldl _ _ _ (fun a x => ?_); (repeat' split) <;> first | (simp; done) | with_reducible rfl)
  | ((try dsimp only); rw [dmPart_foldl] <;> first | (intro a x; (repeat' split) <;> first | (simp; done) | with_reducible rfl) | ((repeat' split) <;> first | (simp; done) | with_reducible rfl))
  | ((try dsimp only); (repeat' split) <;> first | (simp; done) | with_reducible rfl)
  | ((repeat' (with_reducible refine dmPart_ite ?_ ?_)) <;> first | (simp; done) | with_reducible rfl)
  | ((repeat' split) <;> first
      | (simp; done)
      | with_reducible rfl
      | (refine dmPart_foldl _ _ _ (fun a x => ?_); (repeat' split) <;> first | (simp; done) | with_reducible rfl)
      | ((try dsimp only); rw [dmPart_foldl] <;> first | (intro a x; (repeat' split) <;> first | (simp; done) | with_reducible rfl) | ((repeat' split) <;> first | (simp; done) | with_reducible rfl)))

@[simp↓] theorem dmPart_sendPair (s : State) (msg : Nat) (version : Nat) (epoch : Nat) (part : Nat) (sect : Option (Nat × CkptSec)) (payload : List Byte) : dmPart (State.sendPair s msg version epoch part sect payload) = dmPart s := by
  unfold State.sendPair
  first
  | ((try dsimp only); (repeat' (first | with_reducible rfl | (with_reducible refine (dmPart_foldl _ _ _ (fun _ _ => ?_)).trans ?_) | (simp; done) | split | (rw [dmPart_mk, dmPart_fold]))); done)
  | ((repeat' split) <;> first | (simp; done) | with_reducible rfl)
  | (refine dmPart_foldl _ _ _ (fun a x => ?_); (repeat' split) <;> first | (simp; done) | with_reducible rfl)
  | ((try dsimp only); rw [dmPart_foldl] <;> first | (intro a x; (repeat' split) <;> first | (simp; done) | with_reducible rfl) | ((repeat' split) <;> first | (simp; done) | with_reducible rfl))
  | ((try dsimp only); (repeat' split) <;> first | (simp; done) | with_reducible rfl)
  | ((repeat' (with_reducible refine dmPart_ite ?_ ?_)) <;> first | (simp; done) | with_reducible rfl)
  | ((repeat' split) <;> first
      | (simp; done)
      | with_reducible rfl
      | (refine dmPart_foldl _ _ _ (fun a x => ?_); (repeat' split) <;> first | (simp; done) | with_reducible rfl)
      | ((try dsimp only); rw [dmPart_foldl] <;> first | (intro a x; (repeat' split) <;> first | (simp; done) | with_reducible rfl) | ((repeat' split) <;> first | (simp; done) | with_reducible rfl)))

@[simp↓] theorem dmPart_sendSect (s : State) (k : Nat) (x : Nat × CkptSec) : dmPart (State.sendSect s k x) = dmPart s := by
  unfold State.sendSect
  generalize sectFrags _ _ = l
  generalize hx : (s, 0) = y
  have hs : s = y.1 := by rw [← hx]
  rw [hs]
  clear hx hs
  induction l generalizing y with
  | nil => rfl
  | cons c l ih => exact (ih _).trans (dmPart_sendPair _ _ _ _ _ _ _)

@[simp↓] theorem dmPart_sendCkpt (s : State) (k : Nat) (final : Bool) : dmPart (State.sendCkpt s k final) = dmPart s := by
  have key : ∀ (w : State) a b c, dmPart { w with pair.ckptLast := a, pair.lastSent := b, pair.fullDue := c } = dmPart w := fun _ _ _ _ => rfl
  unfold State.sendCkpt
  dsimp only
  exact (key _ _ _ _).trans ((dmPart_sendPair _ _ _ _ _ _ _).trans (dmPart_foldl _ _ _ (fun a x => dmPart_sendSect _ _ _)))

@[simp↓] theorem dmPart_startTakeover (s : State) (cold : Bool) : dmPart (State.startTakeover s cold) = dmPart s := by
  unfold State.startTakeover
  first
  | ((try dsimp only); (repeat' (first | with_reducible rfl | (with_reducible refine (dmPart_foldl _ _ _ (fun _ _ => ?_)).trans ?_) | (simp; done) | split | (rw [dmPart_mk, dmPart_fold]))); done)
  | ((repeat' split) <;> first | (simp; done) | with_reducible rfl)
  | (refine dmPart_foldl _ _ _ (fun a x => ?_); (repeat' split) <;> first | (simp; done) | with_reducible rfl)
  | ((try dsimp only); rw [dmPart_foldl] <;> first | (intro a x; (repeat' split) <;> first | (simp; done) | with_reducible rfl) | ((repeat' split) <;> first | (simp; done) | with_reducible rfl))
  | ((try dsimp only); (repeat' split) <;> first | (simp; done) | with_reducible rfl)
  | ((repeat' (with_reducible refine dmPart_ite ?_ ?_)) <;> first | (simp; done) | with_reducible rfl)
  | ((repeat' split) <;> first
      | (simp; done)
      | with_reducible rfl
      | (refine dmPart_foldl _ _ _ (fun a x => ?_); (repeat' split) <;> first | (simp; done) | with_reducible rfl)
      | ((try dsimp only); rw [dmPart_foldl] <;> first | (intro a x; (repeat' split) <;> first | (simp; done) | with_reducible rfl) | ((repeat' split) <;> first | (simp; done) | with_reducible rfl)))

@[simp↓] theorem dmPart_switchFails (s : State) : dmPart (State.switchFails s) = dmPart s := by
  unfold State.switchFails
  first
  | ((try dsimp only); (repeat' (first | with_reducible rfl | (with_reducible refine (dmPart_foldl _ _ _ (fun _ _ => ?_)).trans ?_) | (simp; done) | split | (rw [dmPart_mk, dmPart_fold]))); done)
  | ((repeat' split) <;> first | (simp; done) | with_reducible rfl)
  | (refine dmPart_foldl _ _ _ (fun a x => ?_); (repeat' split) <;> first | (simp; done) | with_reducible rfl)
  | ((try dsimp only); rw [dmPart_foldl] <;> first | (intro a x; (repeat' split) <;> first | (simp; done) | with_reducible rfl) | ((repeat' split) <;> first | (simp; done) | with_reducible rfl))
  | ((try dsimp only); (repeat' split) <;> first | (simp; done) | with_reducible rfl)
  | ((repeat' (with_reducible refine dmPart_ite ?_ ?_)) <;> first | (simp; done) | with_reducible rfl)
  | ((repeat' split) <;> first
      | (simp; done)
      | with_reducible rfl
      | (refine dmPart_foldl _ _ _ (fun a x => ?_); (repeat' split) <;> first | (simp; done) | with_reducible rfl)
      | ((try dsimp only); rw [dmPart_foldl] <;> first | (intro a x; (repeat' split) <;> first | (simp; done) | with_reducible rfl) | ((repeat' split) <;> first | (simp; done) | with_reducible rfl)))

/-- The parts `pair.latest`, `pair.ckptLast`, `pair.building`, `pair.unit`, `pair.flags`, `epoch`. -/
def cpPart (s : State) := (s.pair.latest, s.pair.ckptLast, s.pair.building, s.pair.unit, s.pair.flags, s.epoch)

@[simp] theorem cpPart_fold (s : State) : (s.pair.latest, s.pair.ckptLast, s.pair.building, s.pair.unit, s.pair.flags, s.epoch) = cpPart s := rfl

@[simp↓] theorem cpPart_mk (epoch order ident host par lane prog model slv perc afe fed stn pts fio can net time key aud pair pwr rst drip past edge latch pending out free) : cpPart (State.mk epoch order ident host par lane prog model slv perc afe fed stn pts fio can net time key aud pair pwr rst drip past edge latch pending out free) = (pair.latest, pair.ckptLast, pair.building, pair.unit, pair.flags, epoch) := rfl

theorem cpPart_silent {s t : State} (h : Silent s t) : cpPart t = cpPart s := by rw [h.rest]; rfl

theorem cpPart_ite {c : Prop} [Decidable c] {a b s : State} (ha : cpPart a = cpPart s) (hb : cpPart b = cpPart s) :
    cpPart (if c then a else b) = cpPart s := by
  split <;> assumption

theorem cpPart_foldl {α : Type} (l : List α) (f : State → α → State) (s : State) (h : ∀ a x, cpPart (f a x) = cpPart a) :
    cpPart (l.foldl f s) = cpPart s := by
  induction l generalizing s with
  | nil => rfl
  | cons x l ih => exact (ih _).trans (h s x)

@[simp↓] theorem cpPart_emit (s : State) (m : OutMsg) : cpPart (State.emit s m) = cpPart s := by
  exact cpPart_silent (silent_emit _ _)

@[simp↓] theorem cpPart_sendMsix (s : State) (v : Nat) : cpPart (State.sendMsix s v) = cpPart s := by
  exact cpPart_silent (silent_sendMsix _ _)

@[simp↓] theorem cpPart_syncDev (s : State) : cpPart (State.syncDev s) = cpPart s := by
  unfold State.syncDev
  first
  | ((try dsimp only); (repeat' (first | with_reducible rfl | (with_reducible refine (cpPart_foldl _ _ _ (fun _ _ => ?_)).trans ?_) | (simp; done) | split | (rw [cpPart_mk, cpPart_fold]))); done)
  | ((repeat' split) <;> first | (simp; done) | with_reducible rfl)
  | (refine cpPart_foldl _ _ _ (fun a x => ?_); (repeat' split) <;> first | (simp; done) | with_reducible rfl)
  | ((try dsimp only); rw [cpPart_foldl] <;> first | (intro a x; (repeat' split) <;> first | (simp; done) | with_reducible rfl) | ((repeat' split) <;> first | (simp; done) | with_reducible rfl))
  | ((try dsimp only); (repeat' split) <;> first | (simp; done) | with_reducible rfl)
  | ((repeat' (with_reducible refine cpPart_ite ?_ ?_)) <;> first | (simp; done) | with_reducible rfl)
  | ((repeat' split) <;> first
      | (simp; done)
      | with_reducible rfl
      | (refine cpPart_foldl _ _ _ (fun a x => ?_); (repeat' split) <;> first | (simp; done) | with_reducible rfl)
      | ((try dsimp only); rw [cpPart_foldl] <;> first | (intro a x; (repeat' split) <;> first | (simp; done) | with_reducible rfl) | ((repeat' split) <;> first | (simp; done) | with_reducible rfl)))

@[simp↓] theorem cpPart_closeEdge (s : State) : cpPart (State.closeEdge s) = cpPart s := by
  unfold State.closeEdge
  first
  | ((try dsimp only); (repeat' (first | with_reducible rfl | (with_reducible refine (cpPart_foldl _ _ _ (fun _ _ => ?_)).trans ?_) | (simp; done) | split | (rw [cpPart_mk, cpPart_fold]))); done)
  | ((repeat' split) <;> first | (simp; done) | with_reducible rfl)
  | (refine cpPart_foldl _ _ _ (fun a x => ?_); (repeat' split) <;> first | (simp; done) | with_reducible rfl)
  | ((try dsimp only); rw [cpPart_foldl] <;> first | (intro a x; (repeat' split) <;> first | (simp; done) | with_reducible rfl) | ((repeat' split) <;> first | (simp; done) | with_reducible rfl))
  | ((try dsimp only); (repeat' split) <;> first | (simp; done) | with_reducible rfl)
  | ((repeat' (with_reducible refine cpPart_ite ?_ ?_)) <;> first | (simp; done) | with_reducible rfl)
  | ((repeat' split) <;> first
      | (simp; done)
      | with_reducible rfl
      | (refine cpPart_foldl _ _ _ (fun a x => ?_); (repeat' split) <;> first | (simp; done) | with_reducible rfl)
      | ((try dsimp only); rw [cpPart_foldl] <;> first | (intro a x; (repeat' split) <;> first | (simp; done) | with_reducible rfl) | ((repeat' split) <;> first | (simp; done) | with_reducible rfl)))

@[simp↓] theorem cpPart_setPort (s : State) (p : Nat) (v : PortSt1) : cpPart (State.setPort s p v) = cpPart s := by
  unfold State.setPort
  first
  | ((try dsimp only); (repeat' (first | with_reducible rfl | (with_reducible refine (cpPart_foldl _ _ _ (fun _ _ => ?_)).trans ?_) | (simp; done) | split | (rw [cpPart_mk, cpPart_fold]))); done)
  | ((repeat' split) <;> first | (simp; done) | with_reducible rfl)
  | (refine cpPart_foldl _ _ _ (fun a x => ?_); (repeat' split) <;> first | (simp; done) | with_reducible rfl)
  | ((try dsimp only); rw [cpPart_foldl] <;> first | (intro a x; (repeat' split) <;> first | (simp; done) | with_reducible rfl) | ((repeat' split) <;> first | (simp; done) | with_reducible rfl))
  | ((try dsimp only); (repeat' split) <;> first | (simp; done) | with_reducible rfl)
  | ((repeat' (with_reducible refine cpPart_ite ?_ ?_)) <;> first | (simp; done) | with_reducible rfl)
  | ((repeat' split) <;> first
      | (simp; done)
      | with_reducible rfl
      | (refine cpPart_foldl _ _ _ (fun a x => ?_); (repeat' split) <;> first | (simp; done) | with_reducible rfl)
      | ((try dsimp only); rw [cpPart_foldl] <;> first | (intro a x; (repeat' split) <;> first | (simp; done) | with_reducible rfl) | ((repeat' split) <;> first | (simp; done) | with_reducible rfl)))

@[simp↓] theorem cpPart_refreshPorts (s : State) : cpPart (State.refreshPorts s) = cpPart s := by
  unfold State.refreshPorts
  first
  | ((try dsimp only); (repeat' (first | with_reducible rfl | (with_reducible refine (cpPart_foldl _ _ _ (fun _ _ => ?_)).trans ?_) | (simp; done) | split | (rw [cpPart_mk, cpPart_fold]))); done)
  | ((repeat' split) <;> first | (simp; done) | with_reducible rfl)
  | (refine cpPart_foldl _ _ _ (fun a x => ?_); (repeat' split) <;> first | (simp; done) | with_reducible rfl)
  | ((try dsimp only); rw [cpPart_foldl] <;> first | (intro a x; (repeat' split) <;> first | (simp; done) | with_reducible rfl) | ((repeat' split) <;> first | (simp; done) | with_reducible rfl))
  | ((try dsimp only); (repeat' split) <;> first | (simp; done) | with_reducible rfl)
  | ((repeat' (with_reducible refine cpPart_ite ?_ ?_)) <;> first | (simp; done) | with_reducible rfl)
  | ((repeat' split) <;> first
      | (simp; done)
      | with_reducible rfl
      | (refine cpPart_foldl _ _ _ (fun a x => ?_); (repeat' split) <;> first | (simp; done) | with_reducible rfl)
      | ((try dsimp only); rw [cpPart_foldl] <;> first | (intro a x; (repeat' split) <;> first | (simp; done) | with_reducible rfl) | ((repeat' split) <;> first | (simp; done) | with_reducible rfl)))

@[simp↓] theorem cpPart_wantMerge (s : State) (b : Nat) : cpPart (State.wantMerge s b) = cpPart s := by
  unfold State.wantMerge
  first
  | ((try dsimp only); (repeat' (first | with_reducible rfl | (with_reducible refine (cpPart_foldl _ _ _ (fun _ _ => ?_)).trans ?_) | (simp; done) | split | (rw [cpPart_mk, cpPart_fold]))); done)
  | ((repeat' split) <;> first | (simp; done) | with_reducible rfl)
  | (refine cpPart_foldl _ _ _ (fun a x => ?_); (repeat' split) <;> first | (simp; done) | with_reducible rfl)
  | ((try dsimp only); rw [cpPart_foldl] <;> first | (intro a x; (repeat' split) <;> first | (simp; done) | with_reducible rfl) | ((repeat' split) <;> first | (simp; done) | with_reducible rfl))
  | ((try dsimp only); (repeat' split) <;> first | (simp; done) | with_reducible rfl)
  | ((repeat' (with_reducible refine cpPart_ite ?_ ?_)) <;> first | (simp; done) | with_reducible rfl)
  | ((repeat' split) <;> first
      | (simp; done)
      | with_reducible rfl
      | (refine cpPart_foldl _ _ _ (fun a x => ?_); (repeat' split) <;> first | (simp; done) | with_reducible rfl)
      | ((try dsimp only); rw [cpPart_foldl] <;> first | (intro a x; (repeat' split) <;> first | (simp; done) | with_reducible rfl) | ((repeat' split) <;> first | (simp; done) | with_reducible rfl)))

@[simp↓] theorem cpPart_stopMerge (s : State) : cpPart (State.stopMerge s) = cpPart s := by
  unfold State.stopMerge
  first
  | ((try dsimp only); (repeat' (first | with_reducible rfl | (with_reducible refine (cpPart_foldl _ _ _ (fun _ _ => ?_)).trans ?_) | (simp; done) | split | (rw [cpPart_mk, cpPart_fold]))); done)
  | ((repeat' split) <;> first | (simp; done) | with_reducible rfl)
  | (refine cpPart_foldl _ _ _ (fun a x => ?_); (repeat' split) <;> first | (simp; done) | with_reducible rfl)
  | ((try dsimp only); rw [cpPart_foldl] <;> first | (intro a x; (repeat' split) <;> first | (simp; done) | with_reducible rfl) | ((repeat' split) <;> first | (simp; done) | with_reducible rfl))
  | ((try dsimp only); (repeat' split) <;> first | (simp; done) | with_reducible rfl)
  | ((repeat' (with_reducible refine cpPart_ite ?_ ?_)) <;> first | (simp; done) | with_reducible rfl)
  | ((repeat' split) <;> first
      | (simp; done)
      | with_reducible rfl
      | (refine cpPart_foldl _ _ _ (fun a x => ?_); (repeat' split) <;> first | (simp; done) | with_reducible rfl)
      | ((try dsimp only); rw [cpPart_foldl] <;> first | (intro a x; (repeat' split) <;> first | (simp; done) | with_reducible rfl) | ((repeat' split) <;> first | (simp; done) | with_reducible rfl)))

@[simp↓] theorem cpPart_toTb1 (s : State) : cpPart (State.toTb1 s) = cpPart s := by
  unfold State.toTb1
  first
  | ((try dsimp only); (repeat' (first | with_reducible rfl | (with_reducible refine (cpPart_foldl _ _ _ (fun _ _ => ?_)).trans ?_) | (simp; done) | split | (rw [cpPart_mk, cpPart_fold]))); done)
  | ((repeat' split) <;> first | (simp; done) | with_reducible rfl)
  | (refine cpPart_foldl _ _ _ (fun a x => ?_); (repeat' split) <;> first | (simp; done) | with_reducible rfl)
  | ((try dsimp only); rw [cpPart_foldl] <;> first | (intro a x; (repeat' split) <;> first | (simp; done) | with_reducible rfl) | ((repeat' split) <;> first | (simp; done) | with_reducible rfl))
  | ((try dsimp only); (repeat' split) <;> first | (simp; done) | with_reducible rfl)
  | ((repeat' (with_reducible refine cpPart_ite ?_ ?_)) <;> first | (simp; done) | with_reducible rfl)
  | ((repeat' split) <;> first
      | (simp; done)
      | with_reducible rfl
      | (refine cpPart_foldl _ _ _ (fun a x => ?_); (repeat' split) <;> first | (simp; done) | with_reducible rfl)
      | ((try dsimp only); rw [cpPart_foldl] <;> first | (intro a x; (repeat' split) <;> first | (simp; done) | with_reducible rfl) | ((repeat' split) <;> first | (simp; done) | with_reducible rfl)))

@[simp↓] theorem cpPart_tb0Free (s : State) : cpPart (State.tb0Free s) = cpPart s := by
  have key : ∀ (w : State) a b c, cpPart { w with time.tb0State := a, time.lockFrom := b, time.mergeWaiting := c } = cpPart w := fun _ _ _ _ => rfl
  unfold State.tb0Free
  dsimp only
  refine (key _ _ _ _).trans ?_
  exact cpPart_ite (cpPart_toTb1 _) rfl

@[simp↓] theorem cpPart_timeCommitted (s : State) (old : State) : cpPart (State.timeCommitted s old) = cpPart s := by
  have key : ∀ (w : State) a b, cpPart { w with time.tb0State := a, time.lockFrom := b } = cpPart w := fun _ _ _ => rfl
  have key2 : ∀ (w : State) a, cpPart { w with time.mergeWaiting := a } = cpPart w := fun _ _ => rfl
  unfold State.timeCommitted
  dsimp only
  have h1 : ∀ c1 c2 c3 : Prop, ∀ [Decidable c1] [Decidable c2] [Decidable c3],
      cpPart (if c1 then s else if c2 then s.tb0Free else if c3 then { s with time.tb0State := 1, time.lockFrom := none } else s) = cpPart s := by
    intro c1 c2 c3 _ _ _
    exact cpPart_ite rfl (cpPart_ite (cpPart_tb0Free s) (cpPart_ite (key _ _ _) rfl))
  generalize hw : (if s.pn P.TIME_SOURCE 0 = old.pn P.TIME_SOURCE 0 then s else _) = w
  have hx : cpPart w = cpPart s := by rw [← hw]; exact h1 _ _ _
  clear hw
  refine (cpPart_ite (s := w) rfl ?_).trans hx
  refine Eq.trans ?_ (cpPart_stopMerge w)
  generalize w.stopMerge = v
  split
  · exact cpPart_ite (key2 _ _) rfl
  · exact cpPart_ite rfl (key2 _ _)

@[simp↓] theorem cpPart_applyParams (s : State) (v : CkptParams) : cpPart (State.applyParams s v) = cpPart s := by
  unfold State.applyParams
  first
  | ((try dsimp only); (repeat' (first | with_reducible rfl | (with_reducible refine (cpPart_foldl _ _ _ (fun _ _ => ?_)).trans ?_) | (simp; done) | split | (rw [cpPart_mk, cpPart_fold]))); done)
  | ((repeat' split) <;> first | (simp; done) | with_reducible rfl)
  | (refine cpPart_foldl _ _ _ (fun a x => ?_); (repeat' split) <;> first | (simp; done) | with_reducible rfl)
  | ((try dsimp only); rw [cpPart_foldl] <;> first | (intro a x; (repeat' split) <;> first | (simp; done) | with_reducible rfl) | ((repeat' split) <;> first | (simp; done) | with_reducible rfl))
  | ((try dsimp only); (repeat' split) <;> first | (simp; done) | with_reducible rfl)
  | ((repeat' (with_reducible refine cpPart_ite ?_ ?_)) <;> first | (simp; done) | with_reducible rfl)
  | ((repeat' split) <;> first
      | (simp; done)
      | with_reducible rfl
      | (refine cpPart_foldl _ _ _ (fun a x => ?_); (repeat' split) <;> first | (simp; done) | with_reducible rfl)
      | ((try dsimp only); rw [cpPart_foldl] <;> first | (intro a x; (repeat' split) <;> first | (simp; done) | with_reducible rfl) | ((repeat' split) <;> first | (simp; done) | with_reducible rfl)))

/-- The parts `pair`, `epoch`. -/
def pairPart (s : State) := (s.pair, s.epoch)

@[simp] theorem pairPart_fold (s : State) : (s.pair, s.epoch) = pairPart s := rfl

@[simp↓] theorem pairPart_mk (epoch order ident host par lane prog model slv perc afe fed stn pts fio can net time key aud pair pwr rst drip past edge latch pending out free) : pairPart (State.mk epoch order ident host par lane prog model slv perc afe fed stn pts fio can net time key aud pair pwr rst drip past edge latch pending out free) = (pair, epoch) := rfl

theorem pairPart_silent {s t : State} (h : Silent s t) : pairPart t = pairPart s := by rw [h.rest]; rfl

theorem pairPart_ite {c : Prop} [Decidable c] {a b s : State} (ha : pairPart a = pairPart s) (hb : pairPart b = pairPart s) :
    pairPart (if c then a else b) = pairPart s := by
  split <;> assumption

theorem pairPart_foldl {α : Type} (l : List α) (f : State → α → State) (s : State) (h : ∀ a x, pairPart (f a x) = pairPart a) :
    pairPart (l.foldl f s) = pairPart s := by
  induction l generalizing s with
  | nil => rfl
  | cons x l ih => exact (ih _).trans (h s x)

@[simp↓] theorem pairPart_emit (s : State) (m : OutMsg) : pairPart (State.emit s m) = pairPart s := by
  exact pairPart_silent (silent_emit _ _)

@[simp↓] theorem pairPart_sendMsix (s : State) (v : Nat) : pairPart (State.sendMsix s v) = pairPart s := by
  exact pairPart_silent (silent_sendMsix _ _)

@[simp↓] theorem pairPart_syncDev (s : State) : pairPart (State.syncDev s) = pairPart s := by
  unfold State.syncDev
  first
  | ((try dsimp only); (repeat' (first | with_reducible rfl | (with_reducible refine (pairPart_foldl _ _ _ (fun _ _ => ?_)).trans ?_) | (simp; done) | split | (rw [pairPart_mk, pairPart_fold]))); done)
  | ((repeat' split) <;> first | (simp; done) | with_reducible rfl)
  | (refine pairPart_foldl _ _ _ (fun a x => ?_); (repeat' split) <;> first | (simp; done) | with_reducible rfl)
  | ((try dsimp only); rw [pairPart_foldl] <;> first | (intro a x; (repeat' split) <;> first | (simp; done) | with_reducible rfl) | ((repeat' split) <;> first | (simp; done) | with_reducible rfl))
  | ((try dsimp only); (repeat' split) <;> first | (simp; done) | with_reducible rfl)
  | ((repeat' (with_reducible refine pairPart_ite ?_ ?_)) <;> first | (simp; done) | with_reducible rfl)
  | ((repeat' split) <;> first
      | (simp; done)
      | with_reducible rfl
      | (refine pairPart_foldl _ _ _ (fun a x => ?_); (repeat' split) <;> first | (simp; done) | with_reducible rfl)
      | ((try dsimp only); rw [pairPart_foldl] <;> first | (intro a x; (repeat' split) <;> first | (simp; done) | with_reducible rfl) | ((repeat' split) <;> first | (simp; done) | with_reducible rfl)))

@[simp↓] theorem pairPart_setQueue (s : State) (n : Nat) (q : QPair) : pairPart (State.setQueue s n q) = pairPart s := by
  unfold State.setQueue
  first
  | ((try dsimp only); (repeat' (first | with_reducible rfl | (with_reducible refine (pairPart_foldl _ _ _ (fun _ _ => ?_)).trans ?_) | (simp; done) | split | (rw [pairPart_mk, pairPart_fold]))); done)
  | ((repeat' split) <;> first | (simp; done) | with_reducible rfl)
  | (refine pairPart_foldl _ _ _ (fun a x => ?_); (repeat' split) <;> first | (simp; done) | with_reducible rfl)
  | ((try dsimp only); rw [pairPart_foldl] <;> first | (intro a x; (repeat' split) <;> first | (simp; done) | with_reducible rfl) | ((repeat' split) <;> first | (simp; done) | with_reducible rfl))
  | ((try dsimp only); (repeat' split) <;> first | (simp; done) | with_reducible rfl)
  | ((repeat' (with_reducible refine pairPart_ite ?_ ?_)) <;> first | (simp; done) | with_reducible rfl)
  | ((repeat' split) <;> first
      | (simp; done)
      | with_reducible rfl
      | (refine pairPart_foldl _ _ _ (fun a x => ?_); (repeat' split) <;> first | (simp; done) | with_reducible rfl)
      | ((try dsimp only); rw [pairPart_foldl] <;> first | (intro a x; (repeat' split) <;> first | (simp; done) | with_reducible rfl) | ((repeat' split) <;> first | (simp; done) | with_reducible rfl)))

@[simp↓] theorem pairPart_auditPush (s : State) (r : AuditRec) : pairPart (State.auditPush s r) = pairPart s := by
  exact pairPart_silent (silent_auditPush _ _)

@[simp↓] theorem pairPart_auditDev (s : State) (kind : Nat) (opcode : Nat) (status : Nat) (subject : Nat) (data : List Byte) : pairPart (State.auditDev s kind opcode status subject data) = pairPart s := by
  exact pairPart_silent (silent_auditPush _ _)

@[simp↓] theorem pairPart_auditApplied (s : State) (subject : Nat) : pairPart (State.auditApplied s subject) = pairPart s := by
  unfold State.auditApplied
  first
  | ((try dsimp only); (repeat' (first | with_reducible rfl | (with_reducible refine (pairPart_foldl _ _ _ (fun _ _ => ?_)).trans ?_) | (simp; done) | split | (rw [pairPart_mk, pairPart_fold]))); done)
  | ((repeat' split) <;> first | (simp; done) | with_reducible rfl)
  | (refine pairPart_foldl _ _ _ (fun a x => ?_); (repeat' split) <;> first | (simp; done) | with_reducible rfl)
  | ((try dsimp only); rw [pairPart_foldl] <;> first | (intro a x; (repeat' split) <;> first | (simp; done) | with_reducible rfl) | ((repeat' split) <;> first | (simp; done) | with_reducible rfl))
  | ((try dsimp only); (repeat' split) <;> first | (simp; done) | with_reducible rfl)
  | ((repeat' (with_reducible refine pairPart_ite ?_ ?_)) <;> first | (simp; done) | with_reducible rfl)
  | ((repeat' split) <;> first
      | (simp; done)
      | with_reducible rfl
      | (refine pairPart_foldl _ _ _ (fun a x => ?_); (repeat' split) <;> first | (simp; done) | with_reducible rfl)
      | ((try dsimp only); rw [pairPart_foldl] <;> first | (intro a x; (repeat' split) <;> first | (simp; done) | with_reducible rfl) | ((repeat' split) <;> first | (simp; done) | with_reducible rfl)))

@[simp↓] theorem pairPart_postQueue (s : State) (n : Nat) (e : Entry) (data : List Byte) : pairPart (State.postQueue s n e data).1 = pairPart s := by
  exact pairPart_silent (silent_postQueue _ _ _ _)

@[simp↓] theorem pairPart_post (s : State) (dst : Src) (e : Entry) (data : List Byte) : pairPart (State.post s dst e data).1 = pairPart s := by
  exact pairPart_silent (silent_post _ _ _ _)

@[simp↓] theorem pairPart_event (s : State) (code : Nat) (status : Nat) (data : List Byte) : pairPart (State.event s code status data) = pairPart s := by
  exact pairPart_silent (silent_event _ _ _ _)

@[simp↓] theorem pairPart_condition (s : State) (status : Nat) (data : List Byte) : pairPart (State.condition s status data) = pairPart s := by
  exact pairPart_silent (silent_condition _ _ _)

@[simp↓] theorem pairPart_freeHandle (s : State) (i : Nat) : pairPart (State.freeHandle s i) = pairPart s := by
  unfold State.freeHandle
  first
  | ((try dsimp only); (repeat' (first | with_reducible rfl | (with_reducible refine (pairPart_foldl _ _ _ (fun _ _ => ?_)).trans ?_) | (simp; done) | split | (rw [pairPart_mk, pairPart_fold]))); done)
  | ((repeat' split) <;> first | (simp; done) | with_reducible rfl)
  | (refine pairPart_foldl _ _ _ (fun a x => ?_); (repeat' split) <;> first | (simp; done) | with_reducible rfl)
  | ((try dsimp only); rw [pairPart_foldl] <;> first | (intro a x; (repeat' split) <;> first | (simp; done) | with_reducible rfl) | ((repeat' split) <;> first | (simp; done) | with_reducible rfl))
  | ((try dsimp only); (repeat' split) <;> first | (simp; done) | with_reducible rfl)
  | ((repeat' (with_reducible refine pairPart_ite ?_ ?_)) <;> first | (simp; done) | with_reducible rfl)
  | ((repeat' split) <;> first
      | (simp; done)
      | with_reducible rfl
      | (refine pairPart_foldl _ _ _ (fun a x => ?_); (repeat' split) <;> first | (simp; done) | with_reducible rfl)
      | ((try dsimp only); rw [pairPart_foldl] <;> first | (intro a x; (repeat' split) <;> first | (simp; done) | with_reducible rfl) | ((repeat' split) <;> first | (simp; done) | with_reducible rfl)))

@[simp↓] theorem pairPart_complete (s : State) (h : U32) (status : Nat) (detail : Nat) (data : List Byte) : pairPart (State.complete s h status detail data) = pairPart s := by
  unfold State.complete
  first
  | ((try dsimp only); (repeat' (first | with_reducible rfl | (with_reducible refine (pairPart_foldl _ _ _ (fun _ _ => ?_)).trans ?_) | (simp; done) | split | (rw [pairPart_mk, pairPart_fold]))); done)
  | ((repeat' split) <;> first | (simp; done) | with_reducible rfl)
  | (refine pairPart_foldl _ _ _ (fun a x => ?_); (repeat' split) <;> first | (simp; done) | with_reducible rfl)
  | ((try dsimp only); rw [pairPart_foldl] <;> first | (intro a x; (repeat' split) <;> first | (simp; done) | with_reducible rfl) | ((repeat' split) <;> first | (simp; done) | with_reducible rfl))
  | ((try dsimp only); (repeat' split) <;> first | (simp; done) | with_reducible rfl)
  | ((repeat' (with_reducible refine pairPart_ite ?_ ?_)) <;> first | (simp; done) | with_reducible rfl)
  | ((repeat' split) <;> first
      | (simp; done)
      | with_reducible rfl
      | (refine pairPart_foldl _ _ _ (fun a x => ?_); (repeat' split) <;> first | (simp; done) | with_reducible rfl)
      | ((try dsimp only); rw [pairPart_foldl] <;> first | (intro a x; (repeat' split) <;> first | (simp; done) | with_reducible rfl) | ((repeat' split) <;> first | (simp; done) | with_reducible rfl)))

@[simp↓] theorem pairPart_setPt (s : State) (p : Nat) (v : Point) : pairPart (State.setPt s p v) = pairPart s := by
  unfold State.setPt
  first
  | ((try dsimp only); (repeat' (first | with_reducible rfl | (with_reducible refine (pairPart_foldl _ _ _ (fun _ _ => ?_)).trans ?_) | (simp; done) | split | (rw [pairPart_mk, pairPart_fold]))); done)
  | ((repeat' split) <;> first | (simp; done) | with_reducible rfl)
  | (refine pairPart_foldl _ _ _ (fun a x => ?_); (repeat' split) <;> first | (simp; done) | with_reducible rfl)
  | ((try dsimp only); rw [pairPart_foldl] <;> first | (intro a x; (repeat' split) <;> first | (simp; done) | with_reducible rfl) | ((repeat' split) <;> first | (simp; done) | with_reducible rfl))
  | ((try dsimp only); (repeat' split) <;> first | (simp; done) | with_reducible rfl)
  | ((repeat' (with_reducible refine pairPart_ite ?_ ?_)) <;> first | (simp; done) | with_reducible rfl)
  | ((repeat' split) <;> first
      | (simp; done)
      | with_reducible rfl
      | (refine pairPart_foldl _ _ _ (fun a x => ?_); (repeat' split) <;> first | (simp; done) | with_reducible rfl)
      | ((try dsimp only); rw [pairPart_foldl] <;> first | (intro a x; (repeat' split) <;> first | (simp; done) | with_reducible rfl) | ((repeat' split) <;> first | (simp; done) | with_reducible rfl)))

@[simp↓] theorem pairPart_closeEdge (s : State) : pairPart (State.closeEdge s) = pairPart s := by
  unfold State.closeEdge
  first
  | ((try dsimp only); (repeat' (first | with_reducible rfl | (with_reducible refine (pairPart_foldl _ _ _ (fun _ _ => ?_)).trans ?_) | (simp; done) | split | (rw [pairPart_mk, pairPart_fold]))); done)
  | ((repeat' split) <;> first | (simp; done) | with_reducible rfl)
  | (refine pairPart_foldl _ _ _ (fun a x => ?_); (repeat' split) <;> first | (simp; done) | with_reducible rfl)
  | ((try dsimp only); rw [pairPart_foldl] <;> first | (intro a x; (repeat' split) <;> first | (simp; done) | with_reducible rfl) | ((repeat' split) <;> first | (simp; done) | with_reducible rfl))
  | ((try dsimp only); (repeat' split) <;> first | (simp; done) | with_reducible rfl)
  | ((repeat' (with_reducible refine pairPart_ite ?_ ?_)) <;> first | (simp; done) | with_reducible rfl)
  | ((repeat' split) <;> first
      | (simp; done)
      | with_reducible rfl
      | (refine pairPart_foldl _ _ _ (fun a x => ?_); (repeat' split) <;> first | (simp; done) | with_reducible rfl)
      | ((try dsimp only); rw [pairPart_foldl] <;> first | (intro a x; (repeat' split) <;> first | (simp; done) | with_reducible rfl) | ((repeat' split) <;> first | (simp; done) | with_reducible rfl)))

@[simp↓] theorem pairPart_setItem (s : State) (l : U64) (k : KeyItem) : pairPart (State.setItem s l k) = pairPart s := by
  unfold State.setItem
  first
  | ((try dsimp only); (repeat' (first | with_reducible rfl | (with_reducible refine (pairPart_foldl _ _ _ (fun _ _ => ?_)).trans ?_) | (simp; done) | split | (rw [pairPart_mk, pairPart_fold]))); done)
  | ((repeat' split) <;> first | (simp; done) | with_reducible rfl)
  | (refine pairPart_foldl _ _ _ (fun a x => ?_); (repeat' split) <;> first | (simp; done) | with_reducible rfl)
  | ((try dsimp only); rw [pairPart_foldl] <;> first | (intro a x; (repeat' split) <;> first | (simp; done) | with_reducible rfl) | ((repeat' split) <;> first | (simp; done) | with_reducible rfl))
  | ((try dsimp only); (repeat' split) <;> first | (simp; done) | with_reducible rfl)
  | ((repeat' (with_reducible refine pairPart_ite ?_ ?_)) <;> first | (simp; done) | with_reducible rfl)
  | ((repeat' split) <;> first
      | (simp; done)
      | with_reducible rfl
      | (refine pairPart_foldl _ _ _ (fun a x => ?_); (repeat' split) <;> first | (simp; done) | with_reducible rfl)
      | ((try dsimp only); rw [pairPart_foldl] <;> first | (intro a x; (repeat' split) <;> first | (simp; done) | with_reducible rfl) | ((repeat' split) <;> first | (simp; done) | with_reducible rfl)))

@[simp↓] theorem pairPart_dropItem (s : State) (l : U64) : pairPart (State.dropItem s l) = pairPart s := by
  unfold State.dropItem
  first
  | ((try dsimp only); (repeat' (first | with_reducible rfl | (with_reducible refine (pairPart_foldl _ _ _ (fun _ _ => ?_)).trans ?_) | (simp; done) | split | (rw [pairPart_mk, pairPart_fold]))); done)
  | ((repeat' split) <;> first | (simp; done) | with_reducible rfl)
  | (refine pairPart_foldl _ _ _ (fun a x => ?_); (repeat' split) <;> first | (simp; done) | with_reducible rfl)
  | ((try dsimp only); rw [pairPart_foldl] <;> first | (intro a x; (repeat' split) <;> first | (simp; done) | with_reducible rfl) | ((repeat' split) <;> first | (simp; done) | with_reducible rfl))
  | ((try dsimp only); (repeat' split) <;> first | (simp; done) | with_reducible rfl)
  | ((repeat' (with_reducible refine pairPart_ite ?_ ?_)) <;> first | (simp; done) | with_reducible rfl)
  | ((repeat' split) <;> first
      | (simp; done)
      | with_reducible rfl
      | (refine pairPart_foldl _ _ _ (fun a x => ?_); (repeat' split) <;> first | (simp; done) | with_reducible rfl)
      | ((try dsimp only); rw [pairPart_foldl] <;> first | (intro a x; (repeat' split) <;> first | (simp; done) | with_reducible rfl) | ((repeat' split) <;> first | (simp; done) | with_reducible rfl)))

@[simp↓] theorem pairPart_setFio (s : State) (c : Nat) (v : FioCh) : pairPart (State.setFio s c v) = pairPart s := by
  unfold State.setFio
  first
  | ((try dsimp only); (repeat' (first | with_reducible rfl | (with_reducible refine (pairPart_foldl _ _ _ (fun _ _ => ?_)).trans ?_) | (simp; done) | split | (rw [pairPart_mk, pairPart_fold]))); done)
  | ((repeat' split) <;> first | (simp; done) | with_reducible rfl)
  | (refine pairPart_foldl _ _ _ (fun a x => ?_); (repeat' split) <;> first | (simp; done) | with_reducible rfl)
  | ((try dsimp only); rw [pairPart_foldl] <;> first | (intro a x; (repeat' split) <;> first | (simp; done) | with_reducible rfl) | ((repeat' split) <;> first | (simp; done) | with_reducible rfl))
  | ((try dsimp only); (repeat' split) <;> first | (simp; done) | with_reducible rfl)
  | ((repeat' (with_reducible refine pairPart_ite ?_ ?_)) <;> first | (simp; done) | with_reducible rfl)
  | ((repeat' split) <;> first
      | (simp; done)
      | with_reducible rfl
      | (refine pairPart_foldl _ _ _ (fun a x => ?_); (repeat' split) <;> first | (simp; done) | with_reducible rfl)
      | ((try dsimp only); rw [pairPart_foldl] <;> first | (intro a x; (repeat' split) <;> first | (simp; done) | with_reducible rfl) | ((repeat' split) <;> first | (simp; done) | with_reducible rfl)))

@[simp↓] theorem pairPart_setAout (s : State) (a : Nat) (v : AoutCh) : pairPart (State.setAout s a v) = pairPart s := by
  unfold State.setAout
  first
  | ((try dsimp only); (repeat' (first | with_reducible rfl | (with_reducible refine (pairPart_foldl _ _ _ (fun _ _ => ?_)).trans ?_) | (simp; done) | split | (rw [pairPart_mk, pairPart_fold]))); done)
  | ((repeat' split) <;> first | (simp; done) | with_reducible rfl)
  | (refine pairPart_foldl _ _ _ (fun a x => ?_); (repeat' split) <;> first | (simp; done) | with_reducible rfl)
  | ((try dsimp only); rw [pairPart_foldl] <;> first | (intro a x; (repeat' split) <;> first | (simp; done) | with_reducible rfl) | ((repeat' split) <;> first | (simp; done) | with_reducible rfl))
  | ((try dsimp only); (repeat' split) <;> first | (simp; done) | with_reducible rfl)
  | ((repeat' (with_reducible refine pairPart_ite ?_ ?_)) <;> first | (simp; done) | with_reducible rfl)
  | ((repeat' split) <;> first
      | (simp; done)
      | with_reducible rfl
      | (refine pairPart_foldl _ _ _ (fun a x => ?_); (repeat' split) <;> first | (simp; done) | with_reducible rfl)
      | ((try dsimp only); rw [pairPart_foldl] <;> first | (intro a x; (repeat' split) <;> first | (simp; done) | with_reducible rfl) | ((repeat' split) <;> first | (simp; done) | with_reducible rfl)))

@[simp↓] theorem pairPart_fieldOff (s : State) : pairPart (State.fieldOff s) = pairPart s := by
  unfold State.fieldOff
  first
  | ((try dsimp only); (repeat' (first | with_reducible rfl | (with_reducible refine (pairPart_foldl _ _ _ (fun _ _ => ?_)).trans ?_) | (simp; done) | split | (rw [pairPart_mk, pairPart_fold]))); done)
  | ((repeat' split) <;> first | (simp; done) | with_reducible rfl)
  | (refine pairPart_foldl _ _ _ (fun a x => ?_); (repeat' split) <;> first | (simp; done) | with_reducible rfl)
  | ((try dsimp only); rw [pairPart_foldl] <;> first | (intro a x; (repeat' split) <;> first | (simp; done) | with_reducible rfl) | ((repeat' split) <;> first | (simp; done) | with_reducible rfl))
  | ((try dsimp only); (repeat' split) <;> first | (simp; done) | with_reducible rfl)
  | ((repeat' (with_reducible refine pairPart_ite ?_ ?_)) <;> first | (simp; done) | with_reducible rfl)
  | ((repeat' split) <;> first
      | (simp; done)
      | with_reducible rfl
      | (refine pairPart_foldl _ _ _ (fun a x => ?_); (repeat' split) <;> first | (simp; done) | with_reducible rfl)
      | ((try dsimp only); rw [pairPart_foldl] <;> first | (intro a x; (repeat' split) <;> first | (simp; done) | with_reducible rfl) | ((repeat' split) <;> first | (simp; done) | with_reducible rfl)))

@[simp↓] theorem pairPart_setCanCh (s : State) (c : Nat) (v : CanCh) : pairPart (State.setCanCh s c v) = pairPart s := by
  unfold State.setCanCh
  first
  | ((try dsimp only); (repeat' (first | with_reducible rfl | (with_reducible refine (pairPart_foldl _ _ _ (fun _ _ => ?_)).trans ?_) | (simp; done) | split | (rw [pairPart_mk, pairPart_fold]))); done)
  | ((repeat' split) <;> first | (simp; done) | with_reducible rfl)
  | (refine pairPart_foldl _ _ _ (fun a x => ?_); (repeat' split) <;> first | (simp; done) | with_reducible rfl)
  | ((try dsimp only); rw [pairPart_foldl] <;> first | (intro a x; (repeat' split) <;> first | (simp; done) | with_reducible rfl) | ((repeat' split) <;> first | (simp; done) | with_reducible rfl))
  | ((try dsimp only); (repeat' split) <;> first | (simp; done) | with_reducible rfl)
  | ((repeat' (with_reducible refine pairPart_ite ?_ ?_)) <;> first | (simp; done) | with_reducible rfl)
  | ((repeat' split) <;> first
      | (simp; done)
      | with_reducible rfl
      | (refine pairPart_foldl _ _ _ (fun a x => ?_); (repeat' split) <;> first | (simp; done) | with_reducible rfl)
      | ((try dsimp only); rw [pairPart_foldl] <;> first | (intro a x; (repeat' split) <;> first | (simp; done) | with_reducible rfl) | ((repeat' split) <;> first | (simp; done) | with_reducible rfl)))

@[simp↓] theorem pairPart_setCanBuf (s : State) (c : Nat) (b : Nat) (v : CanBuf) : pairPart (State.setCanBuf s c b v) = pairPart s := by
  unfold State.setCanBuf
  first
  | ((try dsimp only); (repeat' (first | with_reducible rfl | (with_reducible refine (pairPart_foldl _ _ _ (fun _ _ => ?_)).trans ?_) | (simp; done) | split | (rw [pairPart_mk, pairPart_fold]))); done)
  | ((repeat' split) <;> first | (simp; done) | with_reducible rfl)
  | (refine pairPart_foldl _ _ _ (fun a x => ?_); (repeat' split) <;> first | (simp; done) | with_reducible rfl)
  | ((try dsimp only); rw [pairPart_foldl] <;> first | (intro a x; (repeat' split) <;> first | (simp; done) | with_reducible rfl) | ((repeat' split) <;> first | (simp; done) | with_reducible rfl))
  | ((try dsimp only); (repeat' split) <;> first | (simp; done) | with_reducible rfl)
  | ((repeat' (with_reducible refine pairPart_ite ?_ ?_)) <;> first | (simp; done) | with_reducible rfl)
  | ((repeat' split) <;> first
      | (simp; done)
      | with_reducible rfl
      | (refine pairPart_foldl _ _ _ (fun a x => ?_); (repeat' split) <;> first | (simp; done) | with_reducible rfl)
      | ((try dsimp only); rw [pairPart_foldl] <;> first | (intro a x; (repeat' split) <;> first | (simp; done) | with_reducible rfl) | ((repeat' split) <;> first | (simp; done) | with_reducible rfl)))

@[simp↓] theorem pairPart_canHandleEnd (s : State) (c : Nat) (b : Nat) (outcome : Nat) : pairPart (State.canHandleEnd s c b outcome) = pairPart s := by
  unfold State.canHandleEnd
  first
  | ((try dsimp only); (repeat' (first | with_reducible rfl | (with_reducible refine (pairPart_foldl _ _ _ (fun _ _ => ?_)).trans ?_) | (simp; done) | split | (rw [pairPart_mk, pairPart_fold]))); done)
  | ((repeat' split) <;> first | (simp; done) | with_reducible rfl)
  | (refine pairPart_foldl _ _ _ (fun a x => ?_); (repeat' split) <;> first | (simp; done) | with_reducible rfl)
  | ((try dsimp only); rw [pairPart_foldl] <;> first | (intro a x; (repeat' split) <;> first | (simp; done) | with_reducible rfl) | ((repeat' split) <;> first | (simp; done) | with_reducible rfl))
  | ((try dsimp only); (repeat' split) <;> first | (simp; done) | with_reducible rfl)
  | ((repeat' (with_reducible refine pairPart_ite ?_ ?_)) <;> first | (simp; done) | with_reducible rfl)
  | ((repeat' split) <;> first
      | (simp; done)
      | with_reducible rfl
      | (refine pairPart_foldl _ _ _ (fun a x => ?_); (repeat' split) <;> first | (simp; done) | with_reducible rfl)
      | ((try dsimp only); rw [pairPart_foldl] <;> first | (intro a x; (repeat' split) <;> first | (simp; done) | with_reducible rfl) | ((repeat' split) <;> first | (simp; done) | with_reducible rfl)))

@[simp↓] theorem pairPart_canEnd (s : State) (c : Nat) (b : Nat) (outcome : Nat) (late : Bool) : pairPart (State.canEnd s c b outcome late) = pairPart s := by
  unfold State.canEnd
  first
  | ((try dsimp only); (repeat' (first | with_reducible rfl | (with_reducible refine (pairPart_foldl _ _ _ (fun _ _ => ?_)).trans ?_) | (simp; done) | split | (rw [pairPart_mk, pairPart_fold]))); done)
  | ((repeat' split) <;> first | (simp; done) | with_reducible rfl)
  | (refine pairPart_foldl _ _ _ (fun a x => ?_); (repeat' split) <;> first | (simp; done) | with_reducible rfl)
  | ((try dsimp only); rw [pairPart_foldl] <;> first | (intro a x; (repeat' split) <;> first | (simp; done) | with_reducible rfl) | ((repeat' split) <;> first | (simp; done) | with_reducible rfl))
  | ((try dsimp only); (repeat' split) <;> first | (simp; done) | with_reducible rfl)
  | ((repeat' (with_reducible refine pairPart_ite ?_ ?_)) <;> first | (simp; done) | with_reducible rfl)
  | ((repeat' split) <;> first
      | (simp; done)
      | with_reducible rfl
      | (refine pairPart_foldl _ _ _ (fun a x => ?_); (repeat' split) <;> first | (simp; done) | with_reducible rfl)
      | ((try dsimp only); rw [pairPart_foldl] <;> first | (intro a x; (repeat' split) <;> first | (simp; done) | with_reducible rfl) | ((repeat' split) <;> first | (simp; done) | with_reducible rfl)))

@[simp↓] theorem pairPart_canEndHost (s : State) (c : Nat) (outcome : Nat) (shots : Bool) : pairPart (State.canEndHost s c outcome shots) = pairPart s := by
  unfold State.canEndHost
  first
  | ((try dsimp only); (repeat' (first | with_reducible rfl | (with_reducible refine (pairPart_foldl _ _ _ (fun _ _ => ?_)).trans ?_) | (simp; done) | split | (rw [pairPart_mk, pairPart_fold]))); done)
  | ((repeat' split) <;> first | (simp; done) | with_reducible rfl)
  | (refine pairPart_foldl _ _ _ (fun a x => ?_); (repeat' split) <;> first | (simp; done) | with_reducible rfl)
  | ((try dsimp only); rw [pairPart_foldl] <;> first | (intro a x; (repeat' split) <;> first | (simp; done) | with_reducible rfl) | ((repeat' split) <;> first | (simp; done) | with_reducible rfl))
  | ((try dsimp only); (repeat' split) <;> first | (simp; done) | with_reducible rfl)
  | ((repeat' (with_reducible refine pairPart_ite ?_ ?_)) <;> first | (simp; done) | with_reducible rfl)
  | ((repeat' split) <;> first
      | (simp; done)
      | with_reducible rfl
      | (refine pairPart_foldl _ _ _ (fun a x => ?_); (repeat' split) <;> first | (simp; done) | with_reducible rfl)
      | ((try dsimp only); rw [pairPart_foldl] <;> first | (intro a x; (repeat' split) <;> first | (simp; done) | with_reducible rfl) | ((repeat' split) <;> first | (simp; done) | with_reducible rfl)))

@[simp↓] theorem pairPart_canHold (s : State) : pairPart (State.canHold s) = pairPart s := by
  unfold State.canHold
  first
  | ((try dsimp only); (repeat' (first | with_reducible rfl | (with_reducible refine (pairPart_foldl _ _ _ (fun _ _ => ?_)).trans ?_) | (simp; done) | split | (rw [pairPart_mk, pairPart_fold]))); done)
  | ((repeat' split) <;> first | (simp; done) | with_reducible rfl)
  | (refine pairPart_foldl _ _ _ (fun a x => ?_); (repeat' split) <;> first | (simp; done) | with_reducible rfl)
  | ((try dsimp only); rw [pairPart_foldl] <;> first | (intro a x; (repeat' split) <;> first | (simp; done) | with_reducible rfl) | ((repeat' split) <;> first | (simp; done) | with_reducible rfl))
  | ((try dsimp only); (repeat' split) <;> first | (simp; done) | with_reducible rfl)
  | ((repeat' (with_reducible refine pairPart_ite ?_ ?_)) <;> first | (simp; done) | with_reducible rfl)
  | ((repeat' split) <;> first
      | (simp; done)
      | with_reducible rfl
      | (refine pairPart_foldl _ _ _ (fun a x => ?_); (repeat' split) <;> first | (simp; done) | with_reducible rfl)
      | ((try dsimp only); rw [pairPart_foldl] <;> first | (intro a x; (repeat' split) <;> first | (simp; done) | with_reducible rfl) | ((repeat' split) <;> first | (simp; done) | with_reducible rfl)))

@[simp↓] theorem pairPart_setTask (s : State) (t : Nat) (v : TaskSt) : pairPart (State.setTask s t v) = pairPart s := by
  unfold State.setTask
  first
  | ((try dsimp only); (repeat' (first | with_reducible rfl | (with_reducible refine (pairPart_foldl _ _ _ (fun _ _ => ?_)).trans ?_) | (simp; done) | split | (rw [pairPart_mk, pairPart_fold]))); done)
  | ((repeat' split) <;> first | (simp; done) | with_reducible rfl)
  | (refine pairPart_foldl _ _ _ (fun a x => ?_); (repeat' split) <;> first | (simp; done) | with_reducible rfl)
  | ((try dsimp only); rw [pairPart_foldl] <;> first | (intro a x; (repeat' split) <;> first | (simp; done) | with_reducible rfl) | ((repeat' split) <;> first | (simp; done) | with_reducible rfl))
  | ((try dsimp only); (repeat' split) <;> first | (simp; done) | with_reducible rfl)
  | ((repeat' (with_reducible refine pairPart_ite ?_ ?_)) <;> first | (simp; done) | with_reducible rfl)
  | ((repeat' split) <;> first
      | (simp; done)
      | with_reducible rfl
      | (refine pairPart_foldl _ _ _ (fun a x => ?_); (repeat' split) <;> first | (simp; done) | with_reducible rfl)
      | ((try dsimp only); rw [pairPart_foldl] <;> first | (intro a x; (repeat' split) <;> first | (simp; done) | with_reducible rfl) | ((repeat' split) <;> first | (simp; done) | with_reducible rfl)))

@[simp↓] theorem pairPart_abandonCycles (s : State) : pairPart (State.abandonCycles s) = pairPart s := by
  unfold State.abandonCycles
  first
  | ((try dsimp only); (repeat' (first | with_reducible rfl | (with_reducible refine (pairPart_foldl _ _ _ (fun _ _ => ?_)).trans ?_) | (simp; done) | split | (rw [pairPart_mk, pairPart_fold]))); done)
  | ((repeat' split) <;> first | (simp; done) | with_reducible rfl)
  | (refine pairPart_foldl _ _ _ (fun a x => ?_); (repeat' split) <;> first | (simp; done) | with_reducible rfl)
  | ((try dsimp only); rw [pairPart_foldl] <;> first | (intro a x; (repeat' split) <;> first | (simp; done) | with_reducible rfl) | ((repeat' split) <;> first | (simp; done) | with_reducible rfl))
  | ((try dsimp only); (repeat' split) <;> first | (simp; done) | with_reducible rfl)
  | ((repeat' (with_reducible refine pairPart_ite ?_ ?_)) <;> first | (simp; done) | with_reducible rfl)
  | ((repeat' split) <;> first
      | (simp; done)
      | with_reducible rfl
      | (refine pairPart_foldl _ _ _ (fun a x => ?_); (repeat' split) <;> first | (simp; done) | with_reducible rfl)
      | ((try dsimp only); rw [pairPart_foldl] <;> first | (intro a x; (repeat' split) <;> first | (simp; done) | with_reducible rfl) | ((repeat' split) <;> first | (simp; done) | with_reducible rfl)))

@[simp↓] theorem pairPart_loseInstall (s : State) (o : KeyOp) : pairPart (State.loseInstall s o) = pairPart s := by
  unfold State.loseInstall
  first
  | ((try dsimp only); (repeat' (first | with_reducible rfl | (with_reducible refine (pairPart_foldl _ _ _ (fun _ _ => ?_)).trans ?_) | (simp; done) | split | (rw [pairPart_mk, pairPart_fold]))); done)
  | ((repeat' split) <;> first | (simp; done) | with_reducible rfl)
  | (refine pairPart_foldl _ _ _ (fun a x => ?_); (repeat' split) <;> first | (simp; done) | with_reducible rfl)
  | ((try dsimp only); rw [pairPart_foldl] <;> first | (intro a x; (repeat' split) <;> first | (simp; done) | with_reducible rfl) | ((repeat' split) <;> first | (simp; done) | with_reducible rfl))
  | ((try dsimp only); (repeat' split) <;> first | (simp; done) | with_reducible rfl)
  | ((repeat' (with_reducible refine pairPart_ite ?_ ?_)) <;> first | (simp; done) | with_reducible rfl)
  | ((repeat' split) <;> first
      | (simp; done)
      | with_reducible rfl
      | (refine pairPart_foldl _ _ _ (fun a x => ?_); (repeat' split) <;> first | (simp; done) | with_reducible rfl)
      | ((try dsimp only); rw [pairPart_foldl] <;> first | (intro a x; (repeat' split) <;> first | (simp; done) | with_reducible rfl) | ((repeat' split) <;> first | (simp; done) | with_reducible rfl)))

@[simp↓] theorem pairPart_loseInstalls (s : State) : pairPart (State.loseInstalls s) = pairPart s := by
  unfold State.loseInstalls
  first
  | ((try dsimp only); (repeat' (first | with_reducible rfl | (with_reducible refine (pairPart_foldl _ _ _ (fun _ _ => ?_)).trans ?_) | (simp; done) | split | (rw [pairPart_mk, pairPart_fold]))); done)
  | ((repeat' split) <;> first | (simp; done) | with_reducible rfl)
  | (refine pairPart_foldl _ _ _ (fun a x => ?_); (repeat' split) <;> first | (simp; done) | with_reducible rfl)
  | ((try dsimp only); rw [pairPart_foldl] <;> first | (intro a x; (repeat' split) <;> first | (simp; done) | with_reducible rfl) | ((repeat' split) <;> first | (simp; done) | with_reducible rfl))
  | ((try dsimp only); (repeat' split) <;> first | (simp; done) | with_reducible rfl)
  | ((repeat' (with_reducible refine pairPart_ite ?_ ?_)) <;> first | (simp; done) | with_reducible rfl)
  | ((repeat' split) <;> first
      | (simp; done)
      | with_reducible rfl
      | (refine pairPart_foldl _ _ _ (fun a x => ?_); (repeat' split) <;> first | (simp; done) | with_reducible rfl)
      | ((try dsimp only); rw [pairPart_foldl] <;> first | (intro a x; (repeat' split) <;> first | (simp; done) | with_reducible rfl) | ((repeat' split) <;> first | (simp; done) | with_reducible rfl)))

@[simp↓] theorem pairPart_dropHandles (s : State) (keep : Option U32) : pairPart (State.dropHandles s keep) = pairPart s := by
  unfold State.dropHandles
  first
  | ((try dsimp only); (repeat' (first | with_reducible rfl | (with_reducible refine (pairPart_foldl _ _ _ (fun _ _ => ?_)).trans ?_) | (simp; done) | split | (rw [pairPart_mk, pairPart_fold]))); done)
  | ((repeat' split) <;> first | (simp; done) | with_reducible rfl)
  | (refine pairPart_foldl _ _ _ (fun a x => ?_); (repeat' split) <;> first | (simp; done) | with_reducible rfl)
  | ((try dsimp only); rw [pairPart_foldl] <;> first | (intro a x; (repeat' split) <;> first | (simp; done) | with_reducible rfl) | ((repeat' split) <;> first | (simp; done) | with_reducible rfl))
  | ((try dsimp only); (repeat' split) <;> first | (simp; done) | with_reducible rfl)
  | ((repeat' (with_reducible refine pairPart_ite ?_ ?_)) <;> first | (simp; done) | with_reducible rfl)
  | ((repeat' split) <;> first
      | (simp; done)
      | with_reducible rfl
      | (refine pairPart_foldl _ _ _ (fun a x => ?_); (repeat' split) <;> first | (simp; done) | with_reducible rfl)
      | ((try dsimp only); rw [pairPart_foldl] <;> first | (intro a x; (repeat' split) <;> first | (simp; done) | with_reducible rfl) | ((repeat' split) <;> first | (simp; done) | with_reducible rfl)))

@[simp↓] theorem pairPart_dropHost (s : State) (keep : Option U32) : pairPart (State.dropHost s keep) = pairPart s := by
  unfold State.dropHost
  first
  | ((try dsimp only); (repeat' (first | with_reducible rfl | (with_reducible refine (pairPart_foldl _ _ _ (fun _ _ => ?_)).trans ?_) | (simp; done) | split | (rw [pairPart_mk, pairPart_fold]))); done)
  | ((repeat' split) <;> first | (simp; done) | with_reducible rfl)
  | (refine pairPart_foldl _ _ _ (fun a x => ?_); (repeat' split) <;> first | (simp; done) | with_reducible rfl)
  | ((try dsimp only); rw [pairPart_foldl] <;> first | (intro a x; (repeat' split) <;> first | (simp; done) | with_reducible rfl) | ((repeat' split) <;> first | (simp; done) | with_reducible rfl))
  | ((try dsimp only); (repeat' split) <;> first | (simp; done) | with_reducible rfl)
  | ((repeat' (with_reducible refine pairPart_ite ?_ ?_)) <;> first | (simp; done) | with_reducible rfl)
  | ((repeat' split) <;> first
      | (simp; done)
      | with_reducible rfl
      | (refine pairPart_foldl _ _ _ (fun a x => ?_); (repeat' split) <;> first | (simp; done) | with_reducible rfl)
      | ((try dsimp only); rw [pairPart_foldl] <;> first | (intro a x; (repeat' split) <;> first | (simp; done) | with_reducible rfl) | ((repeat' split) <;> first | (simp; done) | with_reducible rfl)))

/-- The parts `rst.stage`, `rst.halted`, `rst.vio`. -/
def stgPart (s : State) := (s.rst.stage, s.rst.halted, s.rst.vio)

@[simp] theorem stgPart_fold (s : State) : (s.rst.stage, s.rst.halted, s.rst.vio) = stgPart s := rfl

@[simp↓] theorem stgPart_mk (epoch order ident host par lane prog model slv perc afe fed stn pts fio can net time key aud pair pwr rst drip past edge latch pending out free) : stgPart (State.mk epoch order ident host par lane prog model slv perc afe fed stn pts fio can net time key aud pair pwr rst drip past edge latch pending out free) = (rst.stage, rst.halted, rst.vio) := rfl

theorem stgPart_silent {s t : State} (h : Silent s t) : stgPart t = stgPart s := by rw [h.rest]; rfl

theorem stgPart_ite {c : Prop} [Decidable c] {a b s : State} (ha : stgPart a = stgPart s) (hb : stgPart b = stgPart s) :
    stgPart (if c then a else b) = stgPart s := by
  split <;> assumption

theorem stgPart_foldl {α : Type} (l : List α) (f : State → α → State) (s : State) (h : ∀ a x, stgPart (f a x) = stgPart a) :
    stgPart (l.foldl f s) = stgPart s := by
  induction l generalizing s with
  | nil => rfl
  | cons x l ih => exact (ih _).trans (h s x)

@[simp↓] theorem stgPart_emit (s : State) (m : OutMsg) : stgPart (State.emit s m) = stgPart s := by
  exact stgPart_silent (silent_emit _ _)

@[simp↓] theorem stgPart_sendMsix (s : State) (v : Nat) : stgPart (State.sendMsix s v) = stgPart s := by
  exact stgPart_silent (silent_sendMsix _ _)

@[simp↓] theorem stgPart_syncDev (s : State) : stgPart (State.syncDev s) = stgPart s := by
  unfold State.syncDev
  first
  | ((try dsimp only); (repeat' (first | with_reducible rfl | (with_reducible refine (stgPart_foldl _ _ _ (fun _ _ => ?_)).trans ?_) | (simp; done) | split | (rw [stgPart_mk, stgPart_fold]))); done)
  | ((repeat' split) <;> first | (simp; done) | with_reducible rfl)
  | (refine stgPart_foldl _ _ _ (fun a x => ?_); (repeat' split) <;> first | (simp; done) | with_reducible rfl)
  | ((try dsimp only); rw [stgPart_foldl] <;> first | (intro a x; (repeat' split) <;> first | (simp; done) | with_reducible rfl) | ((repeat' split) <;> first | (simp; done) | with_reducible rfl))
  | ((try dsimp only); (repeat' split) <;> first | (simp; done) | with_reducible rfl)
  | ((repeat' (with_reducible refine stgPart_ite ?_ ?_)) <;> first | (simp; done) | with_reducible rfl)
  | ((repeat' split) <;> first
      | (simp; done)
      | with_reducible rfl
      | (refine stgPart_foldl _ _ _ (fun a x => ?_); (repeat' split) <;> first | (simp; done) | with_reducible rfl)
      | ((try dsimp only); rw [stgPart_foldl] <;> first | (intro a x; (repeat' split) <;> first | (simp; done) | with_reducible rfl) | ((repeat' split) <;> first | (simp; done) | with_reducible rfl)))

@[simp↓] theorem stgPart_setQueue (s : State) (n : Nat) (q : QPair) : stgPart (State.setQueue s n q) = stgPart s := by
  unfold State.setQueue
  first
  | ((try dsimp only); (repeat' (first | with_reducible rfl | (with_reducible refine (stgPart_foldl _ _ _ (fun _ _ => ?_)).trans ?_) | (simp; done) | split | (rw [stgPart_mk, stgPart_fold]))); done)
  | ((repeat' split) <;> first | (simp; done) | with_reducible rfl)
  | (refine stgPart_foldl _ _ _ (fun a x => ?_); (repeat' split) <;> first | (simp; done) | with_reducible rfl)
  | ((try dsimp only); rw [stgPart_foldl] <;> first | (intro a x; (repeat' split) <;> first | (simp; done) | with_reducible rfl) | ((repeat' split) <;> first | (simp; done) | with_reducible rfl))
  | ((try dsimp only); (repeat' split) <;> first | (simp; done) | with_reducible rfl)
  | ((repeat' (with_reducible refine stgPart_ite ?_ ?_)) <;> first | (simp; done) | with_reducible rfl)
  | ((repeat' split) <;> first
      | (simp; done)
      | with_reducible rfl
      | (refine stgPart_foldl _ _ _ (fun a x => ?_); (repeat' split) <;> first | (simp; done) | with_reducible rfl)
      | ((try dsimp only); rw [stgPart_foldl] <;> first | (intro a x; (repeat' split) <;> first | (simp; done) | with_reducible rfl) | ((repeat' split) <;> first | (simp; done) | with_reducible rfl)))

@[simp↓] theorem stgPart_setSess (s : State) (n : Nat) (v : Session) : stgPart (State.setSess s n v) = stgPart s := by
  unfold State.setSess
  first
  | ((try dsimp only); (repeat' (first | with_reducible rfl | (with_reducible refine (stgPart_foldl _ _ _ (fun _ _ => ?_)).trans ?_) | (simp; done) | split | (rw [stgPart_mk, stgPart_fold]))); done)
  | ((repeat' split) <;> first | (simp; done) | with_reducible rfl)
  | (refine stgPart_foldl _ _ _ (fun a x => ?_); (repeat' split) <;> first | (simp; done) | with_reducible rfl)
  | ((try dsimp only); rw [stgPart_foldl] <;> first | (intro a x; (repeat' split) <;> first | (simp; done) | with_reducible rfl) | ((repeat' split) <;> first | (simp; done) | with_reducible rfl))
  | ((try dsimp only); (repeat' split) <;> first | (simp; done) | with_reducible rfl)
  | ((repeat' (with_reducible refine stgPart_ite ?_ ?_)) <;> first | (simp; done) | with_reducible rfl)
  | ((repeat' split) <;> first
      | (simp; done)
      | with_reducible rfl
      | (refine stgPart_foldl _ _ _ (fun a x => ?_); (repeat' split) <;> first | (simp; done) | with_reducible rfl)
      | ((try dsimp only); rw [stgPart_foldl] <;> first | (intro a x; (repeat' split) <;> first | (simp; done) | with_reducible rfl) | ((repeat' split) <;> first | (simp; done) | with_reducible rfl)))

@[simp↓] theorem stgPart_auditPush (s : State) (r : AuditRec) : stgPart (State.auditPush s r) = stgPart s := by
  exact stgPart_silent (silent_auditPush _ _)

@[simp↓] theorem stgPart_auditDev (s : State) (kind : Nat) (opcode : Nat) (status : Nat) (subject : Nat) (data : List Byte) : stgPart (State.auditDev s kind opcode status subject data) = stgPart s := by
  exact stgPart_silent (silent_auditPush _ _)

@[simp↓] theorem stgPart_postQueue (s : State) (n : Nat) (e : Entry) (data : List Byte) : stgPart (State.postQueue s n e data).1 = stgPart s := by
  exact stgPart_silent (silent_postQueue _ _ _ _)

@[simp↓] theorem stgPart_post (s : State) (dst : Src) (e : Entry) (data : List Byte) : stgPart (State.post s dst e data).1 = stgPart s := by
  exact stgPart_silent (silent_post _ _ _ _)

@[simp↓] theorem stgPart_event (s : State) (code : Nat) (status : Nat) (data : List Byte) : stgPart (State.event s code status data) = stgPart s := by
  exact stgPart_silent (silent_event _ _ _ _)

@[simp↓] theorem stgPart_condition (s : State) (status : Nat) (data : List Byte) : stgPart (State.condition s status data) = stgPart s := by
  exact stgPart_silent (silent_condition _ _ _)

@[simp↓] theorem stgPart_freeHandle (s : State) (i : Nat) : stgPart (State.freeHandle s i) = stgPart s := by
  unfold State.freeHandle
  first
  | ((try dsimp only); (repeat' (first | with_reducible rfl | (with_reducible refine (stgPart_foldl _ _ _ (fun _ _ => ?_)).trans ?_) | (simp; done) | split | (rw [stgPart_mk, stgPart_fold]))); done)
  | ((repeat' split) <;> first | (simp; done) | with_reducible rfl)
  | (refine stgPart_foldl _ _ _ (fun a x => ?_); (repeat' split) <;> first | (simp; done) | with_reducible rfl)
  | ((try dsimp only); rw [stgPart_foldl] <;> first | (intro a x; (repeat' split) <;> first | (simp; done) | with_reducible rfl) | ((repeat' split) <;> first | (simp; done) | with_reducible rfl))
  | ((try dsimp only); (repeat' split) <;> first | (simp; done) | with_reducible rfl)
  | ((repeat' (with_reducible refine stgPart_ite ?_ ?_)) <;> first | (simp; done) | with_reducible rfl)
  | ((repeat' split) <;> first
      | (simp; done)
      | with_reducible rfl
      | (refine stgPart_foldl _ _ _ (fun a x => ?_); (repeat' split) <;> first | (simp; done) | with_reducible rfl)
      | ((try dsimp only); rw [stgPart_foldl] <;> first | (intro a x; (repeat' split) <;> first | (simp; done) | with_reducible rfl) | ((repeat' split) <;> first | (simp; done) | with_reducible rfl)))

@[simp↓] theorem stgPart_complete (s : State) (h : U32) (status : Nat) (detail : Nat) (data : List Byte) : stgPart (State.complete s h status detail data) = stgPart s := by
  unfold State.complete
  first
  | ((try dsimp only); (repeat' (first | with_reducible rfl | (with_reducible refine (stgPart_foldl _ _ _ (fun _ _ => ?_)).trans ?_) | (simp; done) | split | (rw [stgPart_mk, stgPart_fold]))); done)
  | ((repeat' split) <;> first | (simp; done) | with_reducible rfl)
  | (refine stgPart_foldl _ _ _ (fun a x => ?_); (repeat' split) <;> first | (simp; done) | with_reducible rfl)
  | ((try dsimp only); rw [stgPart_foldl] <;> first | (intro a x; (repeat' split) <;> first | (simp; done) | with_reducible rfl) | ((repeat' split) <;> first | (simp; done) | with_reducible rfl))
  | ((try dsimp only); (repeat' split) <;> first | (simp; done) | with_reducible rfl)
  | ((repeat' (with_reducible refine stgPart_ite ?_ ?_)) <;> first | (simp; done) | with_reducible rfl)
  | ((repeat' split) <;> first
      | (simp; done)
      | with_reducible rfl
      | (refine stgPart_foldl _ _ _ (fun a x => ?_); (repeat' split) <;> first | (simp; done) | with_reducible rfl)
      | ((try dsimp only); rw [stgPart_foldl] <;> first | (intro a x; (repeat' split) <;> first | (simp; done) | with_reducible rfl) | ((repeat' split) <;> first | (simp; done) | with_reducible rfl)))

@[simp↓] theorem stgPart_closeHandlesOf (s : State) (src : Src) : stgPart (State.closeHandlesOf s src) = stgPart s := by
  unfold State.closeHandlesOf
  first
  | ((try dsimp only); (repeat' (first | with_reducible rfl | (with_reducible refine (stgPart_foldl _ _ _ (fun _ _ => ?_)).trans ?_) | (simp; done) | split | (rw [stgPart_mk, stgPart_fold]))); done)
  | ((repeat' split) <;> first | (simp; done) | with_reducible rfl)
  | (refine stgPart_foldl _ _ _ (fun a x => ?_); (repeat' split) <;> first | (simp; done) | with_reducible rfl)
  | ((try dsimp only); rw [stgPart_foldl] <;> first | (intro a x; (repeat' split) <;> first | (simp; done) | with_reducible rfl) | ((repeat' split) <;> first | (simp; done) | with_reducible rfl))
  | ((try dsimp only); (repeat' split) <;> first | (simp; done) | with_reducible rfl)
  | ((repeat' (with_reducible refine stgPart_ite ?_ ?_)) <;> first | (simp; done) | with_reducible rfl)
  | ((repeat' split) <;> first
      | (simp; done)
      | with_reducible rfl
      | (refine stgPart_foldl _ _ _ (fun a x => ?_); (repeat' split) <;> first | (simp; done) | with_reducible rfl)
      | ((try dsimp only); rw [stgPart_foldl] <;> first | (intro a x; (repeat' split) <;> first | (simp; done) | with_reducible rfl) | ((repeat' split) <;> first | (simp; done) | with_reducible rfl)))

@[simp↓] theorem stgPart_took (s : State) : stgPart (State.took s) = stgPart s := by
  unfold State.took
  first
  | ((try dsimp only); (repeat' (first | with_reducible rfl | (with_reducible refine (stgPart_foldl _ _ _ (fun _ _ => ?_)).trans ?_) | (simp; done) | split | (rw [stgPart_mk, stgPart_fold]))); done)
  | ((repeat' split) <;> first | (simp; done) | with_reducible rfl)
  | (refine stgPart_foldl _ _ _ (fun a x => ?_); (repeat' split) <;> first | (simp; done) | with_reducible rfl)
  | ((try dsimp only); rw [stgPart_foldl] <;> first | (intro a x; (repeat' split) <;> first | (simp; done) | with_reducible rfl) | ((repeat' split) <;> first | (simp; done) | with_reducible rfl))
  | ((try dsimp only); (repeat' split) <;> first | (simp; done) | with_reducible rfl)
  | ((repeat' (with_reducible refine stgPart_ite ?_ ?_)) <;> first | (simp; done) | with_reducible rfl)
  | ((repeat' split) <;> first
      | (simp; done)
      | with_reducible rfl
      | (refine stgPart_foldl _ _ _ (fun a x => ?_); (repeat' split) <;> first | (simp; done) | with_reducible rfl)
      | ((try dsimp only); rw [stgPart_foldl] <;> first | (intro a x; (repeat' split) <;> first | (simp; done) | with_reducible rfl) | ((repeat' split) <;> first | (simp; done) | with_reducible rfl)))

@[simp↓] theorem stgPart_closeEdge (s : State) : stgPart (State.closeEdge s) = stgPart s := by
  unfold State.closeEdge
  first
  | ((try dsimp only); (repeat' (first | with_reducible rfl | (with_reducible refine (stgPart_foldl _ _ _ (fun _ _ => ?_)).trans ?_) | (simp; done) | split | (rw [stgPart_mk, stgPart_fold]))); done)
  | ((repeat' split) <;> first | (simp; done) | with_reducible rfl)
  | (refine stgPart_foldl _ _ _ (fun a x => ?_); (repeat' split) <;> first | (simp; done) | with_reducible rfl)
  | ((try dsimp only); rw [stgPart_foldl] <;> first | (intro a x; (repeat' split) <;> first | (simp; done) | with_reducible rfl) | ((repeat' split) <;> first | (simp; done) | with_reducible rfl))
  | ((try dsimp only); (repeat' split) <;> first | (simp; done) | with_reducible rfl)
  | ((repeat' (with_reducible refine stgPart_ite ?_ ?_)) <;> first | (simp; done) | with_reducible rfl)
  | ((repeat' split) <;> first
      | (simp; done)
      | with_reducible rfl
      | (refine stgPart_foldl _ _ _ (fun a x => ?_); (repeat' split) <;> first | (simp; done) | with_reducible rfl)
      | ((try dsimp only); rw [stgPart_foldl] <;> first | (intro a x; (repeat' split) <;> first | (simp; done) | with_reducible rfl) | ((repeat' split) <;> first | (simp; done) | with_reducible rfl)))

@[simp↓] theorem stgPart_dropMakers (s : State) : stgPart (State.dropMakers s) = stgPart s := by
  unfold State.dropMakers
  first
  | ((try dsimp only); (repeat' (first | with_reducible rfl | (with_reducible refine (stgPart_foldl _ _ _ (fun _ _ => ?_)).trans ?_) | (simp; done) | split | (rw [stgPart_mk, stgPart_fold]))); done)
  | ((repeat' split) <;> first | (simp; done) | with_reducible rfl)
  | (refine stgPart_foldl _ _ _ (fun a x => ?_); (repeat' split) <;> first | (simp; done) | with_reducible rfl)
  | ((try dsimp only); rw [stgPart_foldl] <;> first | (intro a x; (repeat' split) <;> first | (simp; done) | with_reducible rfl) | ((repeat' split) <;> first | (simp; done) | with_reducible rfl))
  | ((try dsimp only); (repeat' split) <;> first | (simp; done) | with_reducible rfl)
  | ((repeat' (with_reducible refine stgPart_ite ?_ ?_)) <;> first | (simp; done) | with_reducible rfl)
  | ((repeat' split) <;> first
      | (simp; done)
      | with_reducible rfl
      | (refine stgPart_foldl _ _ _ (fun a x => ?_); (repeat' split) <;> first | (simp; done) | with_reducible rfl)
      | ((try dsimp only); rw [stgPart_foldl] <;> first | (intro a x; (repeat' split) <;> first | (simp; done) | with_reducible rfl) | ((repeat' split) <;> first | (simp; done) | with_reducible rfl)))

@[simp↓] theorem stgPart_dropStaging (s : State) (src : Src) : stgPart (State.dropStaging s src) = stgPart s := by
  unfold State.dropStaging
  first
  | ((try dsimp only); (repeat' (first | with_reducible rfl | (with_reducible refine (stgPart_foldl _ _ _ (fun _ _ => ?_)).trans ?_) | (simp; done) | split | (rw [stgPart_mk, stgPart_fold]))); done)
  | ((repeat' split) <;> first | (simp; done) | with_reducible rfl)
  | (refine stgPart_foldl _ _ _ (fun a x => ?_); (repeat' split) <;> first | (simp; done) | with_reducible rfl)
  | ((try dsimp only); rw [stgPart_foldl] <;> first | (intro a x; (repeat' split) <;> first | (simp; done) | with_reducible rfl) | ((repeat' split) <;> first | (simp; done) | with_reducible rfl))
  | ((try dsimp only); (repeat' split) <;> first | (simp; done) | with_reducible rfl)
  | ((repeat' (with_reducible refine stgPart_ite ?_ ?_)) <;> first | (simp; done) | with_reducible rfl)
  | ((repeat' split) <;> first
      | (simp; done)
      | with_reducible rfl
      | (refine stgPart_foldl _ _ _ (fun a x => ?_); (repeat' split) <;> first | (simp; done) | with_reducible rfl)
      | ((try dsimp only); rw [stgPart_foldl] <;> first | (intro a x; (repeat' split) <;> first | (simp; done) | with_reducible rfl) | ((repeat' split) <;> first | (simp; done) | with_reducible rfl)))

@[simp↓] theorem stgPart_unbindQueue (s : State) (q : Nat) : stgPart (State.unbindQueue s q) = stgPart s := by
  unfold State.unbindQueue
  first
  | ((try dsimp only); (repeat' (first | with_reducible rfl | (with_reducible refine (stgPart_foldl _ _ _ (fun _ _ => ?_)).trans ?_) | (simp; done) | split | (rw [stgPart_mk, stgPart_fold]))); done)
  | ((repeat' split) <;> first | (simp; done) | with_reducible rfl)
  | (refine stgPart_foldl _ _ _ (fun a x => ?_); (repeat' split) <;> first | (simp; done) | with_reducible rfl)
  | ((try dsimp only); rw [stgPart_foldl] <;> first | (intro a x; (repeat' split) <;> first | (simp; done) | with_reducible rfl) | ((repeat' split) <;> first | (simp; done) | with_reducible rfl))
  | ((try dsimp only); (repeat' split) <;> first | (simp; done) | with_reducible rfl)
  | ((repeat' (with_reducible refine stgPart_ite ?_ ?_)) <;> first | (simp; done) | with_reducible rfl)
  | ((repeat' split) <;> first
      | (simp; done)
      | with_reducible rfl
      | (refine stgPart_foldl _ _ _ (fun a x => ?_); (repeat' split) <;> first | (simp; done) | with_reducible rfl)
      | ((try dsimp only); rw [stgPart_foldl] <;> first | (intro a x; (repeat' split) <;> first | (simp; done) | with_reducible rfl) | ((repeat' split) <;> first | (simp; done) | with_reducible rfl)))

@[simp↓] theorem stgPart_setItem (s : State) (l : U64) (k : KeyItem) : stgPart (State.setItem s l k) = stgPart s := by
  unfold State.setItem
  first
  | ((try dsimp only); (repeat' (first | with_reducible rfl | (with_reducible refine (stgPart_foldl _ _ _ (fun _ _ => ?_)).trans ?_) | (simp; done) | split | (rw [stgPart_mk, stgPart_fold]))); done)
  | ((repeat' split) <;> first | (simp; done) | with_reducible rfl)
  | (refine stgPart_foldl _ _ _ (fun a x => ?_); (repeat' split) <;> first | (simp; done) | with_reducible rfl)
  | ((try dsimp only); rw [stgPart_foldl] <;> first | (intro a x; (repeat' split) <;> first | (simp; done) | with_reducible rfl) | ((repeat' split) <;> first | (simp; done) | with_reducible rfl))
  | ((try dsimp only); (repeat' split) <;> first | (simp; done) | with_reducible rfl)
  | ((repeat' (with_reducible refine stgPart_ite ?_ ?_)) <;> first | (simp; done) | with_reducible rfl)
  | ((repeat' split) <;> first
      | (simp; done)
      | with_reducible rfl
      | (refine stgPart_foldl _ _ _ (fun a x => ?_); (repeat' split) <;> first | (simp; done) | with_reducible rfl)
      | ((try dsimp only); rw [stgPart_foldl] <;> first | (intro a x; (repeat' split) <;> first | (simp; done) | with_reducible rfl) | ((repeat' split) <;> first | (simp; done) | with_reducible rfl)))

@[simp↓] theorem stgPart_setPort (s : State) (p : Nat) (v : PortSt1) : stgPart (State.setPort s p v) = stgPart s := by
  unfold State.setPort
  first
  | ((try dsimp only); (repeat' (first | with_reducible rfl | (with_reducible refine (stgPart_foldl _ _ _ (fun _ _ => ?_)).trans ?_) | (simp; done) | split | (rw [stgPart_mk, stgPart_fold]))); done)
  | ((repeat' split) <;> first | (simp; done) | with_reducible rfl)
  | (refine stgPart_foldl _ _ _ (fun a x => ?_); (repeat' split) <;> first | (simp; done) | with_reducible rfl)
  | ((try dsimp only); rw [stgPart_foldl] <;> first | (intro a x; (repeat' split) <;> first | (simp; done) | with_reducible rfl) | ((repeat' split) <;> first | (simp; done) | with_reducible rfl))
  | ((try dsimp only); (repeat' split) <;> first | (simp; done) | with_reducible rfl)
  | ((repeat' (with_reducible refine stgPart_ite ?_ ?_)) <;> first | (simp; done) | with_reducible rfl)
  | ((repeat' split) <;> first
      | (simp; done)
      | with_reducible rfl
      | (refine stgPart_foldl _ _ _ (fun a x => ?_); (repeat' split) <;> first | (simp; done) | with_reducible rfl)
      | ((try dsimp only); rw [stgPart_foldl] <;> first | (intro a x; (repeat' split) <;> first | (simp; done) | with_reducible rfl) | ((repeat' split) <;> first | (simp; done) | with_reducible rfl)))

@[simp↓] theorem stgPart_auditKey (s : State) (l : U64) (status : Nat) (data : List Byte) : stgPart (State.auditKey s l status data) = stgPart s := by
  unfold State.auditKey
  first
  | ((try dsimp only); (repeat' (first | with_reducible rfl | (with_reducible refine (stgPart_foldl _ _ _ (fun _ _ => ?_)).trans ?_) | (simp; done) | split | (rw [stgPart_mk, stgPart_fold]))); done)
  | ((repeat' split) <;> first | (simp; done) | with_reducible rfl)
  | (refine stgPart_foldl _ _ _ (fun a x => ?_); (repeat' split) <;> first | (simp; done) | with_reducible rfl)
  | ((try dsimp only); rw [stgPart_foldl] <;> first | (intro a x; (repeat' split) <;> first | (simp; done) | with_reducible rfl) | ((repeat' split) <;> first | (simp; done) | with_reducible rfl))
  | ((try dsimp only); (repeat' split) <;> first | (simp; done) | with_reducible rfl)
  | ((repeat' (with_reducible refine stgPart_ite ?_ ?_)) <;> first | (simp; done) | with_reducible rfl)
  | ((repeat' split) <;> first
      | (simp; done)
      | with_reducible rfl
      | (refine stgPart_foldl _ _ _ (fun a x => ?_); (repeat' split) <;> first | (simp; done) | with_reducible rfl)
      | ((try dsimp only); rw [stgPart_foldl] <;> first | (intro a x; (repeat' split) <;> first | (simp; done) | with_reducible rfl) | ((repeat' split) <;> first | (simp; done) | with_reducible rfl)))

@[simp↓] theorem stgPart_closeSession (s : State) (n : Nat) : stgPart (State.closeSession s n) = stgPart s := by
  unfold State.closeSession
  first
  | ((try dsimp only); (repeat' (first | with_reducible rfl | (with_reducible refine (stgPart_foldl _ _ _ (fun _ _ => ?_)).trans ?_) | (simp; done) | split | (rw [stgPart_mk, stgPart_fold]))); done)
  | ((repeat' split) <;> first | (simp; done) | with_reducible rfl)
  | (refine stgPart_foldl _ _ _ (fun a x => ?_); (repeat' split) <;> first | (simp; done) | with_reducible rfl)
  | ((try dsimp only); rw [stgPart_foldl] <;> first | (intro a x; (repeat' split) <;> first | (simp; done) | with_reducible rfl) | ((repeat' split) <;> first | (simp; done) | with_reducible rfl))
  | ((try dsimp only); (repeat' split) <;> first | (simp; done) | with_reducible rfl)
  | ((repeat' (with_reducible refine stgPart_ite ?_ ?_)) <;> first | (simp; done) | with_reducible rfl)
  | ((repeat' split) <;> first
      | (simp; done)
      | with_reducible rfl
      | (refine stgPart_foldl _ _ _ (fun a x => ?_); (repeat' split) <;> first | (simp; done) | with_reducible rfl)
      | ((try dsimp only); rw [stgPart_foldl] <;> first | (intro a x; (repeat' split) <;> first | (simp; done) | with_reducible rfl) | ((repeat' split) <;> first | (simp; done) | with_reducible rfl)))

@[simp↓] theorem stgPart_endBinding (s : State) (src : Src) : stgPart (State.endBinding s src) = stgPart s := by
  unfold State.endBinding
  first
  | ((try dsimp only); (repeat' (first | with_reducible rfl | (with_reducible refine (stgPart_foldl _ _ _ (fun _ _ => ?_)).trans ?_) | (simp; done) | split | (rw [stgPart_mk, stgPart_fold]))); done)
  | ((repeat' split) <;> first | (simp; done) | with_reducible rfl)
  | (refine stgPart_foldl _ _ _ (fun a x => ?_); (repeat' split) <;> first | (simp; done) | with_reducible rfl)
  | ((try dsimp only); rw [stgPart_foldl] <;> first | (intro a x; (repeat' split) <;> first | (simp; done) | with_reducible rfl) | ((repeat' split) <;> first | (simp; done) | with_reducible rfl))
  | ((try dsimp only); (repeat' split) <;> first | (simp; done) | with_reducible rfl)
  | ((repeat' (with_reducible refine stgPart_ite ?_ ?_)) <;> first | (simp; done) | with_reducible rfl)
  | ((repeat' split) <;> first
      | (simp; done)
      | with_reducible rfl
      | (refine stgPart_foldl _ _ _ (fun a x => ?_); (repeat' split) <;> first | (simp; done) | with_reducible rfl)
      | ((try dsimp only); rw [stgPart_foldl] <;> first | (intro a x; (repeat' split) <;> first | (simp; done) | with_reducible rfl) | ((repeat' split) <;> first | (simp; done) | with_reducible rfl)))

@[simp↓] theorem stgPart_endBindings (s : State) (f : Binding → Bool) : stgPart (State.endBindings s f) = stgPart s := by
  unfold State.endBindings
  first
  | ((try dsimp only); (repeat' (first | with_reducible rfl | (with_reducible refine (stgPart_foldl _ _ _ (fun _ _ => ?_)).trans ?_) | (simp; done) | split | (rw [stgPart_mk, stgPart_fold]))); done)
  | ((repeat' split) <;> first | (simp; done) | with_reducible rfl)
  | (refine stgPart_foldl _ _ _ (fun a x => ?_); (repeat' split) <;> first | (simp; done) | with_reducible rfl)
  | ((try dsimp only); rw [stgPart_foldl] <;> first | (intro a x; (repeat' split) <;> first | (simp; done) | with_reducible rfl) | ((repeat' split) <;> first | (simp; done) | with_reducible rfl))
  | ((try dsimp only); (repeat' split) <;> first | (simp; done) | with_reducible rfl)
  | ((repeat' (with_reducible refine stgPart_ite ?_ ?_)) <;> first | (simp; done) | with_reducible rfl)
  | ((repeat' split) <;> first
      | (simp; done)
      | with_reducible rfl
      | (refine stgPart_foldl _ _ _ (fun a x => ?_); (repeat' split) <;> first | (simp; done) | with_reducible rfl)
      | ((try dsimp only); rw [stgPart_foldl] <;> first | (intro a x; (repeat' split) <;> first | (simp; done) | with_reducible rfl) | ((repeat' split) <;> first | (simp; done) | with_reducible rfl)))

@[simp↓] theorem stgPart_scrubCur (s : State) (l : U64) : stgPart (State.scrubCur s l) = stgPart s := by
  unfold State.scrubCur
  first
  | ((try dsimp only); (repeat' (first | with_reducible rfl | (with_reducible refine (stgPart_foldl _ _ _ (fun _ _ => ?_)).trans ?_) | (simp; done) | split | (rw [stgPart_mk, stgPart_fold]))); done)
  | ((repeat' split) <;> first | (simp; done) | with_reducible rfl)
  | (refine stgPart_foldl _ _ _ (fun a x => ?_); (repeat' split) <;> first | (simp; done) | with_reducible rfl)
  | ((try dsimp only); rw [stgPart_foldl] <;> first | (intro a x; (repeat' split) <;> first | (simp; done) | with_reducible rfl) | ((repeat' split) <;> first | (simp; done) | with_reducible rfl))
  | ((try dsimp only); (repeat' split) <;> first | (simp; done) | with_reducible rfl)
  | ((repeat' (with_reducible refine stgPart_ite ?_ ?_)) <;> first | (simp; done) | with_reducible rfl)
  | ((repeat' split) <;> first
      | (simp; done)
      | with_reducible rfl
      | (refine stgPart_foldl _ _ _ (fun a x => ?_); (repeat' split) <;> first | (simp; done) | with_reducible rfl)
      | ((try dsimp only); rw [stgPart_foldl] <;> first | (intro a x; (repeat' split) <;> first | (simp; done) | with_reducible rfl) | ((repeat' split) <;> first | (simp; done) | with_reducible rfl)))

@[simp↓] theorem stgPart_scrubPrev (s : State) (l : U64) : stgPart (State.scrubPrev s l) = stgPart s := by
  unfold State.scrubPrev
  first
  | ((try dsimp only); (repeat' (first | with_reducible rfl | (with_reducible refine (stgPart_foldl _ _ _ (fun _ _ => ?_)).trans ?_) | (simp; done) | split | (rw [stgPart_mk, stgPart_fold]))); done)
  | ((repeat' split) <;> first | (simp; done) | with_reducible rfl)
  | (refine stgPart_foldl _ _ _ (fun a x => ?_); (repeat' split) <;> first | (simp; done) | with_reducible rfl)
  | ((try dsimp only); rw [stgPart_foldl] <;> first | (intro a x; (repeat' split) <;> first | (simp; done) | with_reducible rfl) | ((repeat' split) <;> first | (simp; done) | with_reducible rfl))
  | ((try dsimp only); (repeat' split) <;> first | (simp; done) | with_reducible rfl)
  | ((repeat' (with_reducible refine stgPart_ite ?_ ?_)) <;> first | (simp; done) | with_reducible rfl)
  | ((repeat' split) <;> first
      | (simp; done)
      | with_reducible rfl
      | (refine stgPart_foldl _ _ _ (fun a x => ?_); (repeat' split) <;> first | (simp; done) | with_reducible rfl)
      | ((try dsimp only); rw [stgPart_foldl] <;> first | (intro a x; (repeat' split) <;> first | (simp; done) | with_reducible rfl) | ((repeat' split) <;> first | (simp; done) | with_reducible rfl)))

@[simp↓] theorem stgPart_scrub (s : State) (curBad : List U64) (prevBad : List U64) : stgPart (State.scrub s curBad prevBad) = stgPart s := by
  unfold State.scrub
  first
  | ((try dsimp only); (repeat' (first | with_reducible rfl | (with_reducible refine (stgPart_foldl _ _ _ (fun _ _ => ?_)).trans ?_) | (simp; done) | split | (rw [stgPart_mk, stgPart_fold]))); done)
  | ((repeat' split) <;> first | (simp; done) | with_reducible rfl)
  | (refine stgPart_foldl _ _ _ (fun a x => ?_); (repeat' split) <;> first | (simp; done) | with_reducible rfl)
  | ((try dsimp only); rw [stgPart_foldl] <;> first | (intro a x; (repeat' split) <;> first | (simp; done) | with_reducible rfl) | ((repeat' split) <;> first | (simp; done) | with_reducible rfl))
  | ((try dsimp only); (repeat' split) <;> first | (simp; done) | with_reducible rfl)
  | ((repeat' (with_reducible refine stgPart_ite ?_ ?_)) <;> first | (simp; done) | with_reducible rfl)
  | ((repeat' split) <;> first
      | (simp; done)
      | with_reducible rfl
      | (refine stgPart_foldl _ _ _ (fun a x => ?_); (repeat' split) <;> first | (simp; done) | with_reducible rfl)
      | ((try dsimp only); rw [stgPart_foldl] <;> first | (intro a x; (repeat' split) <;> first | (simp; done) | with_reducible rfl) | ((repeat' split) <;> first | (simp; done) | with_reducible rfl)))

@[simp↓] theorem stgPart_refreshPorts (s : State) : stgPart (State.refreshPorts s) = stgPart s := by
  unfold State.refreshPorts
  first
  | ((try dsimp only); (repeat' (first | with_reducible rfl | (with_reducible refine (stgPart_foldl _ _ _ (fun _ _ => ?_)).trans ?_) | (simp; done) | split | (rw [stgPart_mk, stgPart_fold]))); done)
  | ((repeat' split) <;> first | (simp; done) | with_reducible rfl)
  | (refine stgPart_foldl _ _ _ (fun a x => ?_); (repeat' split) <;> first | (simp; done) | with_reducible rfl)
  | ((try dsimp only); rw [stgPart_foldl] <;> first | (intro a x; (repeat' split) <;> first | (simp; done) | with_reducible rfl) | ((repeat' split) <;> first | (simp; done) | with_reducible rfl))
  | ((try dsimp only); (repeat' split) <;> first | (simp; done) | with_reducible rfl)
  | ((repeat' (with_reducible refine stgPart_ite ?_ ?_)) <;> first | (simp; done) | with_reducible rfl)
  | ((repeat' split) <;> first
      | (simp; done)
      | with_reducible rfl
      | (refine stgPart_foldl _ _ _ (fun a x => ?_); (repeat' split) <;> first | (simp; done) | with_reducible rfl)
      | ((try dsimp only); rw [stgPart_foldl] <;> first | (intro a x; (repeat' split) <;> first | (simp; done) | with_reducible rfl) | ((repeat' split) <;> first | (simp; done) | with_reducible rfl)))

@[simp↓] theorem stgPart_loadTb2 (s : State) : stgPart (State.loadTb2 s) = stgPart s := by
  unfold State.loadTb2
  first
  | ((try dsimp only); (repeat' (first | with_reducible rfl | (with_reducible refine (stgPart_foldl _ _ _ (fun _ _ => ?_)).trans ?_) | (simp; done) | split | (rw [stgPart_mk, stgPart_fold]))); done)
  | ((repeat' split) <;> first | (simp; done) | with_reducible rfl)
  | (refine stgPart_foldl _ _ _ (fun a x => ?_); (repeat' split) <;> first | (simp; done) | with_reducible rfl)
  | ((try dsimp only); rw [stgPart_foldl] <;> first | (intro a x; (repeat' split) <;> first | (simp; done) | with_reducible rfl) | ((repeat' split) <;> first | (simp; done) | with_reducible rfl))
  | ((try dsimp only); (repeat' split) <;> first | (simp; done) | with_reducible rfl)
  | ((repeat' (with_reducible refine stgPart_ite ?_ ?_)) <;> first | (simp; done) | with_reducible rfl)
  | ((repeat' split) <;> first
      | (simp; done)
      | with_reducible rfl
      | (refine stgPart_foldl _ _ _ (fun a x => ?_); (repeat' split) <;> first | (simp; done) | with_reducible rfl)
      | ((try dsimp only); rw [stgPart_foldl] <;> first | (intro a x; (repeat' split) <;> first | (simp; done) | with_reducible rfl) | ((repeat' split) <;> first | (simp; done) | with_reducible rfl)))

@[simp↓] theorem stgPart_updIsland (s : State) : stgPart (State.updIsland s) = stgPart s := by
  unfold State.updIsland
  first
  | ((try dsimp only); (repeat' (first | with_reducible rfl | (with_reducible refine (stgPart_foldl _ _ _ (fun _ _ => ?_)).trans ?_) | (simp; done) | split | (rw [stgPart_mk, stgPart_fold]))); done)
  | ((repeat' split) <;> first | (simp; done) | with_reducible rfl)
  | (refine stgPart_foldl _ _ _ (fun a x => ?_); (repeat' split) <;> first | (simp; done) | with_reducible rfl)
  | ((try dsimp only); rw [stgPart_foldl] <;> first | (intro a x; (repeat' split) <;> first | (simp; done) | with_reducible rfl) | ((repeat' split) <;> first | (simp; done) | with_reducible rfl))
  | ((try dsimp only); (repeat' split) <;> first | (simp; done) | with_reducible rfl)
  | ((repeat' (with_reducible refine stgPart_ite ?_ ?_)) <;> first | (simp; done) | with_reducible rfl)
  | ((repeat' split) <;> first
      | (simp; done)
      | with_reducible rfl
      | (refine stgPart_foldl _ _ _ (fun a x => ?_); (repeat' split) <;> first | (simp; done) | with_reducible rfl)
      | ((try dsimp only); rw [stgPart_foldl] <;> first | (intro a x; (repeat' split) <;> first | (simp; done) | with_reducible rfl) | ((repeat' split) <;> first | (simp; done) | with_reducible rfl)))

@[simp↓] theorem stgPart_stampStart (s : State) (e : Nat) : stgPart (State.stampStart s e) = stgPart s := by
  unfold State.stampStart
  first
  | ((try dsimp only); (repeat' (first | with_reducible rfl | (with_reducible refine (stgPart_foldl _ _ _ (fun _ _ => ?_)).trans ?_) | (simp; done) | split | (rw [stgPart_mk, stgPart_fold]))); done)
  | ((repeat' split) <;> first | (simp; done) | with_reducible rfl)
  | (refine stgPart_foldl _ _ _ (fun a x => ?_); (repeat' split) <;> first | (simp; done) | with_reducible rfl)
  | ((try dsimp only); rw [stgPart_foldl] <;> first | (intro a x; (repeat' split) <;> first | (simp; done) | with_reducible rfl) | ((repeat' split) <;> first | (simp; done) | with_reducible rfl))
  | ((try dsimp only); (repeat' split) <;> first | (simp; done) | with_reducible rfl)
  | ((repeat' (with_reducible refine stgPart_ite ?_ ?_)) <;> first | (simp; done) | with_reducible rfl)
  | ((repeat' split) <;> first
      | (simp; done)
      | with_reducible rfl
      | (refine stgPart_foldl _ _ _ (fun a x => ?_); (repeat' split) <;> first | (simp; done) | with_reducible rfl)
      | ((try dsimp only); rw [stgPart_foldl] <;> first | (intro a x; (repeat' split) <;> first | (simp; done) | with_reducible rfl) | ((repeat' split) <;> first | (simp; done) | with_reducible rfl)))

@[simp↓] theorem stgPart_startT0 (s : State) (b : Nat) : stgPart (State.startT0 s b) = stgPart s := by
  unfold State.startT0
  first
  | ((try dsimp only); (repeat' (first | with_reducible rfl | (with_reducible refine (stgPart_foldl _ _ _ (fun _ _ => ?_)).trans ?_) | (simp; done) | split | (rw [stgPart_mk, stgPart_fold]))); done)
  | ((repeat' split) <;> first | (simp; done) | with_reducible rfl)
  | (refine stgPart_foldl _ _ _ (fun a x => ?_); (repeat' split) <;> first | (simp; done) | with_reducible rfl)
  | ((try dsimp only); rw [stgPart_foldl] <;> first | (intro a x; (repeat' split) <;> first | (simp; done) | with_reducible rfl) | ((repeat' split) <;> first | (simp; done) | with_reducible rfl))
  | ((try dsimp only); (repeat' split) <;> first | (simp; done) | with_reducible rfl)
  | ((repeat' (with_reducible refine stgPart_ite ?_ ?_)) <;> first | (simp; done) | with_reducible rfl)
  | ((repeat' split) <;> first
      | (simp; done)
      | with_reducible rfl
      | (refine stgPart_foldl _ _ _ (fun a x => ?_); (repeat' split) <;> first | (simp; done) | with_reducible rfl)
      | ((try dsimp only); rw [stgPart_foldl] <;> first | (intro a x; (repeat' split) <;> first | (simp; done) | with_reducible rfl) | ((repeat' split) <;> first | (simp; done) | with_reducible rfl)))

@[simp↓] theorem stgPart_tryStart (s : State) : stgPart (State.tryStart s) = stgPart s := by
  unfold State.tryStart
  first
  | ((try dsimp only); (repeat' (first | with_reducible rfl | (with_reducible refine (stgPart_foldl _ _ _ (fun _ _ => ?_)).trans ?_) | (simp; done) | split | (rw [stgPart_mk, stgPart_fold]))); done)
  | ((repeat' split) <;> first | (simp; done) | with_reducible rfl)
  | (refine stgPart_foldl _ _ _ (fun a x => ?_); (repeat' split) <;> first | (simp; done) | with_reducible rfl)
  | ((try dsimp only); rw [stgPart_foldl] <;> first | (intro a x; (repeat' split) <;> first | (simp; done) | with_reducible rfl) | ((repeat' split) <;> first | (simp; done) | with_reducible rfl))
  | ((try dsimp only); (repeat' split) <;> first | (simp; done) | with_reducible rfl)
  | ((repeat' (with_reducible refine stgPart_ite ?_ ?_)) <;> first | (simp; done) | with_reducible rfl)
  | ((repeat' split) <;> first
      | (simp; done)
      | with_reducible rfl
      | (refine stgPart_foldl _ _ _ (fun a x => ?_); (repeat' split) <;> first | (simp; done) | with_reducible rfl)
      | ((try dsimp only); rw [stgPart_foldl] <;> first | (intro a x; (repeat' split) <;> first | (simp; done) | with_reducible rfl) | ((repeat' split) <;> first | (simp; done) | with_reducible rfl)))

@[simp↓] theorem stgPart_tamperReport (s : State) : stgPart (State.tamperReport s) = stgPart s := by
  unfold State.tamperReport
  first
  | ((try dsimp only); (repeat' (first | with_reducible rfl | (with_reducible refine (stgPart_foldl _ _ _ (fun _ _ => ?_)).trans ?_) | (simp; done) | split | (rw [stgPart_mk, stgPart_fold]))); done)
  | ((repeat' split) <;> first | (simp; done) | with_reducible rfl)
  | (refine stgPart_foldl _ _ _ (fun a x => ?_); (repeat' split) <;> first | (simp; done) | with_reducible rfl)
  | ((try dsimp only); rw [stgPart_foldl] <;> first | (intro a x; (repeat' split) <;> first | (simp; done) | with_reducible rfl) | ((repeat' split) <;> first | (simp; done) | with_reducible rfl))
  | ((try dsimp only); (repeat' split) <;> first | (simp; done) | with_reducible rfl)
  | ((repeat' (with_reducible refine stgPart_ite ?_ ?_)) <;> first | (simp; done) | with_reducible rfl)
  | ((repeat' split) <;> first
      | (simp; done)
      | with_reducible rfl
      | (refine stgPart_foldl _ _ _ (fun a x => ?_); (repeat' split) <;> first | (simp; done) | with_reducible rfl)
      | ((try dsimp only); rw [stgPart_foldl] <;> first | (intro a x; (repeat' split) <;> first | (simp; done) | with_reducible rfl) | ((repeat' split) <;> first | (simp; done) | with_reducible rfl)))

@[simp↓] theorem stgPart_setAlm (s : State) (n : Nat) (a : CalAlarm) : stgPart (State.setAlm s n a) = stgPart s := by
  unfold State.setAlm
  first
  | ((try dsimp only); (repeat' (first | with_reducible rfl | (with_reducible refine (stgPart_foldl _ _ _ (fun _ _ => ?_)).trans ?_) | (simp; done) | split | (rw [stgPart_mk, stgPart_fold]))); done)
  | ((repeat' split) <;> first | (simp; done) | with_reducible rfl)
  | (refine stgPart_foldl _ _ _ (fun a x => ?_); (repeat' split) <;> first | (simp; done) | with_reducible rfl)
  | ((try dsimp only); rw [stgPart_foldl] <;> first | (intro a x; (repeat' split) <;> first | (simp; done) | with_reducible rfl) | ((repeat' split) <;> first | (simp; done) | with_reducible rfl))
  | ((try dsimp only); (repeat' split) <;> first | (simp; done) | with_reducible rfl)
  | ((repeat' (with_reducible refine stgPart_ite ?_ ?_)) <;> first | (simp; done) | with_reducible rfl)
  | ((repeat' split) <;> first
      | (simp; done)
      | with_reducible rfl
      | (refine stgPart_foldl _ _ _ (fun a x => ?_); (repeat' split) <;> first | (simp; done) | with_reducible rfl)
      | ((try dsimp only); rw [stgPart_foldl] <;> first | (intro a x; (repeat' split) <;> first | (simp; done) | with_reducible rfl) | ((repeat' split) <;> first | (simp; done) | with_reducible rfl)))

@[simp↓] theorem stgPart_almReport (s : State) (n : Nat) : stgPart (State.almReport s n) = stgPart s := by
  unfold State.almReport
  first
  | ((try dsimp only); (repeat' (first | with_reducible rfl | (with_reducible refine (stgPart_foldl _ _ _ (fun _ _ => ?_)).trans ?_) | (simp; done) | split | (rw [stgPart_mk, stgPart_fold]))); done)
  | ((repeat' split) <;> first | (simp; done) | with_reducible rfl)
  | (refine stgPart_foldl _ _ _ (fun a x => ?_); (repeat' split) <;> first | (simp; done) | with_reducible rfl)
  | ((try dsimp only); rw [stgPart_foldl] <;> first | (intro a x; (repeat' split) <;> first | (simp; done) | with_reducible rfl) | ((repeat' split) <;> first | (simp; done) | with_reducible rfl))
  | ((try dsimp only); (repeat' split) <;> first | (simp; done) | with_reducible rfl)
  | ((repeat' (with_reducible refine stgPart_ite ?_ ?_)) <;> first | (simp; done) | with_reducible rfl)
  | ((repeat' split) <;> first
      | (simp; done)
      | with_reducible rfl
      | (refine stgPart_foldl _ _ _ (fun a x => ?_); (repeat' split) <;> first | (simp; done) | with_reducible rfl)
      | ((try dsimp only); rw [stgPart_foldl] <;> first | (intro a x; (repeat' split) <;> first | (simp; done) | with_reducible rfl) | ((repeat' split) <;> first | (simp; done) | with_reducible rfl)))

@[simp↓] theorem stgPart_setCanCh (s : State) (c : Nat) (v : CanCh) : stgPart (State.setCanCh s c v) = stgPart s := by
  unfold State.setCanCh
  first
  | ((try dsimp only); (repeat' (first | with_reducible rfl | (with_reducible refine (stgPart_foldl _ _ _ (fun _ _ => ?_)).trans ?_) | (simp; done) | split | (rw [stgPart_mk, stgPart_fold]))); done)
  | ((repeat' split) <;> first | (simp; done) | with_reducible rfl)
  | (refine stgPart_foldl _ _ _ (fun a x => ?_); (repeat' split) <;> first | (simp; done) | with_reducible rfl)
  | ((try dsimp only); rw [stgPart_foldl] <;> first | (intro a x; (repeat' split) <;> first | (simp; done) | with_reducible rfl) | ((repeat' split) <;> first | (simp; done) | with_reducible rfl))
  | ((try dsimp only); (repeat' split) <;> first | (simp; done) | with_reducible rfl)
  | ((repeat' (with_reducible refine stgPart_ite ?_ ?_)) <;> first | (simp; done) | with_reducible rfl)
  | ((repeat' split) <;> first
      | (simp; done)
      | with_reducible rfl
      | (refine stgPart_foldl _ _ _ (fun a x => ?_); (repeat' split) <;> first | (simp; done) | with_reducible rfl)
      | ((try dsimp only); rw [stgPart_foldl] <;> first | (intro a x; (repeat' split) <;> first | (simp; done) | with_reducible rfl) | ((repeat' split) <;> first | (simp; done) | with_reducible rfl)))

@[simp↓] theorem stgPart_setCanBuf (s : State) (c : Nat) (b : Nat) (v : CanBuf) : stgPart (State.setCanBuf s c b v) = stgPart s := by
  unfold State.setCanBuf
  first
  | ((try dsimp only); (repeat' (first | with_reducible rfl | (with_reducible refine (stgPart_foldl _ _ _ (fun _ _ => ?_)).trans ?_) | (simp; done) | split | (rw [stgPart_mk, stgPart_fold]))); done)
  | ((repeat' split) <;> first | (simp; done) | with_reducible rfl)
  | (refine stgPart_foldl _ _ _ (fun a x => ?_); (repeat' split) <;> first | (simp; done) | with_reducible rfl)
  | ((try dsimp only); rw [stgPart_foldl] <;> first | (intro a x; (repeat' split) <;> first | (simp; done) | with_reducible rfl) | ((repeat' split) <;> first | (simp; done) | with_reducible rfl))
  | ((try dsimp only); (repeat' split) <;> first | (simp; done) | with_reducible rfl)
  | ((repeat' (with_reducible refine stgPart_ite ?_ ?_)) <;> first | (simp; done) | with_reducible rfl)
  | ((repeat' split) <;> first
      | (simp; done)
      | with_reducible rfl
      | (refine stgPart_foldl _ _ _ (fun a x => ?_); (repeat' split) <;> first | (simp; done) | with_reducible rfl)
      | ((try dsimp only); rw [stgPart_foldl] <;> first | (intro a x; (repeat' split) <;> first | (simp; done) | with_reducible rfl) | ((repeat' split) <;> first | (simp; done) | with_reducible rfl)))

@[simp↓] theorem stgPart_canStart (s : State) (c : Nat) : stgPart (State.canStart s c) = stgPart s := by
  unfold State.canStart
  first
  | ((try dsimp only); (repeat' (first | with_reducible rfl | (with_reducible refine (stgPart_foldl _ _ _ (fun _ _ => ?_)).trans ?_) | (simp; done) | split | (rw [stgPart_mk, stgPart_fold]))); done)
  | ((repeat' split) <;> first | (simp; done) | with_reducible rfl)
  | (refine stgPart_foldl _ _ _ (fun a x => ?_); (repeat' split) <;> first | (simp; done) | with_reducible rfl)
  | ((try dsimp only); rw [stgPart_foldl] <;> first | (intro a x; (repeat' split) <;> first | (simp; done) | with_reducible rfl) | ((repeat' split) <;> first | (simp; done) | with_reducible rfl))
  | ((try dsimp only); (repeat' split) <;> first | (simp; done) | with_reducible rfl)
  | ((repeat' (with_reducible refine stgPart_ite ?_ ?_)) <;> first | (simp; done) | with_reducible rfl)
  | ((repeat' split) <;> first
      | (simp; done)
      | with_reducible rfl
      | (refine stgPart_foldl _ _ _ (fun a x => ?_); (repeat' split) <;> first | (simp; done) | with_reducible rfl)
      | ((try dsimp only); rw [stgPart_foldl] <;> first | (intro a x; (repeat' split) <;> first | (simp; done) | with_reducible rfl) | ((repeat' split) <;> first | (simp; done) | with_reducible rfl)))

@[simp↓] theorem stgPart_canHandleEnd (s : State) (c : Nat) (b : Nat) (outcome : Nat) : stgPart (State.canHandleEnd s c b outcome) = stgPart s := by
  unfold State.canHandleEnd
  first
  | ((try dsimp only); (repeat' (first | with_reducible rfl | (with_reducible refine (stgPart_foldl _ _ _ (fun _ _ => ?_)).trans ?_) | (simp; done) | split | (rw [stgPart_mk, stgPart_fold]))); done)
  | ((repeat' split) <;> first | (simp; done) | with_reducible rfl)
  | (refine stgPart_foldl _ _ _ (fun a x => ?_); (repeat' split) <;> first | (simp; done) | with_reducible rfl)
  | ((try dsimp only); rw [stgPart_foldl] <;> first | (intro a x; (repeat' split) <;> first | (simp; done) | with_reducible rfl) | ((repeat' split) <;> first | (simp; done) | with_reducible rfl))
  | ((try dsimp only); (repeat' split) <;> first | (simp; done) | with_reducible rfl)
  | ((repeat' (with_reducible refine stgPart_ite ?_ ?_)) <;> first | (simp; done) | with_reducible rfl)
  | ((repeat' split) <;> first
      | (simp; done)
      | with_reducible rfl
      | (refine stgPart_foldl _ _ _ (fun a x => ?_); (repeat' split) <;> first | (simp; done) | with_reducible rfl)
      | ((try dsimp only); rw [stgPart_foldl] <;> first | (intro a x; (repeat' split) <;> first | (simp; done) | with_reducible rfl) | ((repeat' split) <;> first | (simp; done) | with_reducible rfl)))

@[simp↓] theorem stgPart_canEnd (s : State) (c : Nat) (b : Nat) (outcome : Nat) (late : Bool) : stgPart (State.canEnd s c b outcome late) = stgPart s := by
  unfold State.canEnd
  first
  | ((try dsimp only); (repeat' (first | with_reducible rfl | (with_reducible refine (stgPart_foldl _ _ _ (fun _ _ => ?_)).trans ?_) | (simp; done) | split | (rw [stgPart_mk, stgPart_fold]))); done)
  | ((repeat' split) <;> first | (simp; done) | with_reducible rfl)
  | (refine stgPart_foldl _ _ _ (fun a x => ?_); (repeat' split) <;> first | (simp; done) | with_reducible rfl)
  | ((try dsimp only); rw [stgPart_foldl] <;> first | (intro a x; (repeat' split) <;> first | (simp; done) | with_reducible rfl) | ((repeat' split) <;> first | (simp; done) | with_reducible rfl))
  | ((try dsimp only); (repeat' split) <;> first | (simp; done) | with_reducible rfl)
  | ((repeat' (with_reducible refine stgPart_ite ?_ ?_)) <;> first | (simp; done) | with_reducible rfl)
  | ((repeat' split) <;> first
      | (simp; done)
      | with_reducible rfl
      | (refine stgPart_foldl _ _ _ (fun a x => ?_); (repeat' split) <;> first | (simp; done) | with_reducible rfl)
      | ((try dsimp only); rw [stgPart_foldl] <;> first | (intro a x; (repeat' split) <;> first | (simp; done) | with_reducible rfl) | ((repeat' split) <;> first | (simp; done) | with_reducible rfl)))

@[simp↓] theorem stgPart_canEndHost (s : State) (c : Nat) (outcome : Nat) (shots : Bool) : stgPart (State.canEndHost s c outcome shots) = stgPart s := by
  unfold State.canEndHost
  first
  | ((try dsimp only); (repeat' (first | with_reducible rfl | (with_reducible refine (stgPart_foldl _ _ _ (fun _ _ => ?_)).trans ?_) | (simp; done) | split | (rw [stgPart_mk, stgPart_fold]))); done)
  | ((repeat' split) <;> first | (simp; done) | with_reducible rfl)
  | (refine stgPart_foldl _ _ _ (fun a x => ?_); (repeat' split) <;> first | (simp; done) | with_reducible rfl)
  | ((try dsimp only); rw [stgPart_foldl] <;> first | (intro a x; (repeat' split) <;> first | (simp; done) | with_reducible rfl) | ((repeat' split) <;> first | (simp; done) | with_reducible rfl))
  | ((try dsimp only); (repeat' split) <;> first | (simp; done) | with_reducible rfl)
  | ((repeat' (with_reducible refine stgPart_ite ?_ ?_)) <;> first | (simp; done) | with_reducible rfl)
  | ((repeat' split) <;> first
      | (simp; done)
      | with_reducible rfl
      | (refine stgPart_foldl _ _ _ (fun a x => ?_); (repeat' split) <;> first | (simp; done) | with_reducible rfl)
      | ((try dsimp only); rw [stgPart_foldl] <;> first | (intro a x; (repeat' split) <;> first | (simp; done) | with_reducible rfl) | ((repeat' split) <;> first | (simp; done) | with_reducible rfl)))

@[simp↓] theorem stgPart_canStartAll (s : State) : stgPart (State.canStartAll s) = stgPart s := by
  unfold State.canStartAll
  first
  | ((try dsimp only); (repeat' (first | with_reducible rfl | (with_reducible refine (stgPart_foldl _ _ _ (fun _ _ => ?_)).trans ?_) | (simp; done) | split | (rw [stgPart_mk, stgPart_fold]))); done)
  | ((repeat' split) <;> first | (simp; done) | with_reducible rfl)
  | (refine stgPart_foldl _ _ _ (fun a x => ?_); (repeat' split) <;> first | (simp; done) | with_reducible rfl)
  | ((try dsimp only); rw [stgPart_foldl] <;> first | (intro a x; (repeat' split) <;> first | (simp; done) | with_reducible rfl) | ((repeat' split) <;> first | (simp; done) | with_reducible rfl))
  | ((try dsimp only); (repeat' split) <;> first | (simp; done) | with_reducible rfl)
  | ((repeat' (with_reducible refine stgPart_ite ?_ ?_)) <;> first | (simp; done) | with_reducible rfl)
  | ((repeat' split) <;> first
      | (simp; done)
      | with_reducible rfl
      | (refine stgPart_foldl _ _ _ (fun a x => ?_); (repeat' split) <;> first | (simp; done) | with_reducible rfl)
      | ((try dsimp only); rw [stgPart_foldl] <;> first | (intro a x; (repeat' split) <;> first | (simp; done) | with_reducible rfl) | ((repeat' split) <;> first | (simp; done) | with_reducible rfl)))

@[simp↓] theorem stgPart_setTask (s : State) (t : Nat) (v : TaskSt) : stgPart (State.setTask s t v) = stgPart s := by
  unfold State.setTask
  first
  | ((try dsimp only); (repeat' (first | with_reducible rfl | (with_reducible refine (stgPart_foldl _ _ _ (fun _ _ => ?_)).trans ?_) | (simp; done) | split | (rw [stgPart_mk, stgPart_fold]))); done)
  | ((repeat' split) <;> first | (simp; done) | with_reducible rfl)
  | (refine stgPart_foldl _ _ _ (fun a x => ?_); (repeat' split) <;> first | (simp; done) | with_reducible rfl)
  | ((try dsimp only); rw [stgPart_foldl] <;> first | (intro a x; (repeat' split) <;> first | (simp; done) | with_reducible rfl) | ((repeat' split) <;> first | (simp; done) | with_reducible rfl))
  | ((try dsimp only); (repeat' split) <;> first | (simp; done) | with_reducible rfl)
  | ((repeat' (with_reducible refine stgPart_ite ?_ ?_)) <;> first | (simp; done) | with_reducible rfl)
  | ((repeat' split) <;> first
      | (simp; done)
      | with_reducible rfl
      | (refine stgPart_foldl _ _ _ (fun a x => ?_); (repeat' split) <;> first | (simp; done) | with_reducible rfl)
      | ((try dsimp only); rw [stgPart_foldl] <;> first | (intro a x; (repeat' split) <;> first | (simp; done) | with_reducible rfl) | ((repeat' split) <;> first | (simp; done) | with_reducible rfl)))

@[simp↓] theorem stgPart_followRail (s : State) : stgPart (State.followRail s) = stgPart s := by
  unfold State.followRail
  first
  | ((try dsimp only); (repeat' (first | with_reducible rfl | (with_reducible refine (stgPart_foldl _ _ _ (fun _ _ => ?_)).trans ?_) | (simp; done) | split | (rw [stgPart_mk, stgPart_fold]))); done)
  | ((repeat' split) <;> first | (simp; done) | with_reducible rfl)
  | (refine stgPart_foldl _ _ _ (fun a x => ?_); (repeat' split) <;> first | (simp; done) | with_reducible rfl)
  | ((try dsimp only); rw [stgPart_foldl] <;> first | (intro a x; (repeat' split) <;> first | (simp; done) | with_reducible rfl) | ((repeat' split) <;> first | (simp; done) | with_reducible rfl))
  | ((try dsimp only); (repeat' split) <;> first | (simp; done) | with_reducible rfl)
  | ((repeat' (with_reducible refine stgPart_ite ?_ ?_)) <;> first | (simp; done) | with_reducible rfl)
  | ((repeat' split) <;> first
      | (simp; done)
      | with_reducible rfl
      | (refine stgPart_foldl _ _ _ (fun a x => ?_); (repeat' split) <;> first | (simp; done) | with_reducible rfl)
      | ((try dsimp only); rw [stgPart_foldl] <;> first | (intro a x; (repeat' split) <;> first | (simp; done) | with_reducible rfl) | ((repeat' split) <;> first | (simp; done) | with_reducible rfl)))

@[simp↓] theorem stgPart_govCommitted (s : State) : stgPart (State.govCommitted s) = stgPart s := by
  unfold State.govCommitted
  first
  | ((try dsimp only); (repeat' (first | with_reducible rfl | (with_reducible refine (stgPart_foldl _ _ _ (fun _ _ => ?_)).trans ?_) | (simp; done) | split | (rw [stgPart_mk, stgPart_fold]))); done)
  | ((repeat' split) <;> first | (simp; done) | with_reducible rfl)
  | (refine stgPart_foldl _ _ _ (fun a x => ?_); (repeat' split) <;> first | (simp; done) | with_reducible rfl)
  | ((try dsimp only); rw [stgPart_foldl] <;> first | (intro a x; (repeat' split) <;> first | (simp; done) | with_reducible rfl) | ((repeat' split) <;> first | (simp; done) | with_reducible rfl))
  | ((try dsimp only); (repeat' split) <;> first | (simp; done) | with_reducible rfl)
  | ((repeat' (with_reducible refine stgPart_ite ?_ ?_)) <;> first | (simp; done) | with_reducible rfl)
  | ((repeat' split) <;> first
      | (simp; done)
      | with_reducible rfl
      | (refine stgPart_foldl _ _ _ (fun a x => ?_); (repeat' split) <;> first | (simp; done) | with_reducible rfl)
      | ((try dsimp only); rw [stgPart_foldl] <;> first | (intro a x; (repeat' split) <;> first | (simp; done) | with_reducible rfl) | ((repeat' split) <;> first | (simp; done) | with_reducible rfl)))

@[simp↓] theorem stgPart_refreshBounds (s : State) : stgPart (State.refreshBounds s) = stgPart s := by
  unfold State.refreshBounds
  first
  | ((try dsimp only); (repeat' (first | with_reducible rfl | (with_reducible refine (stgPart_foldl _ _ _ (fun _ _ => ?_)).trans ?_) | (simp; done) | split | (rw [stgPart_mk, stgPart_fold]))); done)
  | ((repeat' split) <;> first | (simp; done) | with_reducible rfl)
  | (refine stgPart_foldl _ _ _ (fun a x => ?_); (repeat' split) <;> first | (simp; done) | with_reducible rfl)
  | ((try dsimp only); rw [stgPart_foldl] <;> first | (intro a x; (repeat' split) <;> first | (simp; done) | with_reducible rfl) | ((repeat' split) <;> first | (simp; done) | with_reducible rfl))
  | ((try dsimp only); (repeat' split) <;> first | (simp; done) | with_reducible rfl)
  | ((repeat' (with_reducible refine stgPart_ite ?_ ?_)) <;> first | (simp; done) | with_reducible rfl)
  | ((repeat' split) <;> first
      | (simp; done)
      | with_reducible rfl
      | (refine stgPart_foldl _ _ _ (fun a x => ?_); (repeat' split) <;> first | (simp; done) | with_reducible rfl)
      | ((try dsimp only); rw [stgPart_foldl] <;> first | (intro a x; (repeat' split) <;> first | (simp; done) | with_reducible rfl) | ((repeat' split) <;> first | (simp; done) | with_reducible rfl)))

@[simp↓] theorem stgPart_newGeneration (s : State) : stgPart (State.newGeneration s) = stgPart s := by
  unfold State.newGeneration
  first
  | ((try dsimp only); (repeat' (first | with_reducible rfl | (with_reducible refine (stgPart_foldl _ _ _ (fun _ _ => ?_)).trans ?_) | (simp; done) | split | (rw [stgPart_mk, stgPart_fold]))); done)
  | ((repeat' split) <;> first | (simp; done) | with_reducible rfl)
  | (refine stgPart_foldl _ _ _ (fun a x => ?_); (repeat' split) <;> first | (simp; done) | with_reducible rfl)
  | ((try dsimp only); rw [stgPart_foldl] <;> first | (intro a x; (repeat' split) <;> first | (simp; done) | with_reducible rfl) | ((repeat' split) <;> first | (simp; done) | with_reducible rfl))
  | ((try dsimp only); (repeat' split) <;> first | (simp; done) | with_reducible rfl)
  | ((repeat' (with_reducible refine stgPart_ite ?_ ?_)) <;> first | (simp; done) | with_reducible rfl)
  | ((repeat' split) <;> first
      | (simp; done)
      | with_reducible rfl
      | (refine stgPart_foldl _ _ _ (fun a x => ?_); (repeat' split) <;> first | (simp; done) | with_reducible rfl)
      | ((try dsimp only); rw [stgPart_foldl] <;> first | (intro a x; (repeat' split) <;> first | (simp; done) | with_reducible rfl) | ((repeat' split) <;> first | (simp; done) | with_reducible rfl)))

@[simp↓] theorem stgPart_progStart (s : State) (useFlush : Bool) : stgPart (State.progStart s useFlush) = stgPart s := by
  unfold State.progStart
  first
  | ((try dsimp only); (repeat' (first | with_reducible rfl | (with_reducible refine (stgPart_foldl _ _ _ (fun _ _ => ?_)).trans ?_) | (simp; done) | split | (rw [stgPart_mk, stgPart_fold]))); done)
  | ((repeat' split) <;> first | (simp; done) | with_reducible rfl)
  | (refine stgPart_foldl _ _ _ (fun a x => ?_); (repeat' split) <;> first | (simp; done) | with_reducible rfl)
  | ((try dsimp only); rw [stgPart_foldl] <;> first | (intro a x; (repeat' split) <;> first | (simp; done) | with_reducible rfl) | ((repeat' split) <;> first | (simp; done) | with_reducible rfl))
  | ((try dsimp only); (repeat' split) <;> first | (simp; done) | with_reducible rfl)
  | ((repeat' (with_reducible refine stgPart_ite ?_ ?_)) <;> first | (simp; done) | with_reducible rfl)
  | ((repeat' split) <;> first
      | (simp; done)
      | with_reducible rfl
      | (refine stgPart_foldl _ _ _ (fun a x => ?_); (repeat' split) <;> first | (simp; done) | with_reducible rfl)
      | ((try dsimp only); rw [stgPart_foldl] <;> first | (intro a x; (repeat' split) <;> first | (simp; done) | with_reducible rfl) | ((repeat' split) <;> first | (simp; done) | with_reducible rfl)))

@[simp↓] theorem stgPart_becomeActive (s : State) (u : UnitState) : stgPart (State.becomeActive s u) = stgPart s := by
  unfold State.becomeActive
  first
  | ((try dsimp only); (repeat' (first | with_reducible rfl | (with_reducible refine (stgPart_foldl _ _ _ (fun _ _ => ?_)).trans ?_) | (simp; done) | split | (rw [stgPart_mk, stgPart_fold]))); done)
  | ((repeat' split) <;> first | (simp; done) | with_reducible rfl)
  | (refine stgPart_foldl _ _ _ (fun a x => ?_); (repeat' split) <;> first | (simp; done) | with_reducible rfl)
  | ((try dsimp only); rw [stgPart_foldl] <;> first | (intro a x; (repeat' split) <;> first | (simp; done) | with_reducible rfl) | ((repeat' split) <;> first | (simp; done) | with_reducible rfl))
  | ((try dsimp only); (repeat' split) <;> first | (simp; done) | with_reducible rfl)
  | ((repeat' (with_reducible refine stgPart_ite ?_ ?_)) <;> first | (simp; done) | with_reducible rfl)
  | ((repeat' split) <;> first
      | (simp; done)
      | with_reducible rfl
      | (refine stgPart_foldl _ _ _ (fun a x => ?_); (repeat' split) <;> first | (simp; done) | with_reducible rfl)
      | ((try dsimp only); rw [stgPart_foldl] <;> first | (intro a x; (repeat' split) <;> first | (simp; done) | with_reducible rfl) | ((repeat' split) <;> first | (simp; done) | with_reducible rfl)))

@[simp↓] theorem stgPart_swapFw (s : State) : stgPart (State.swapFw s) = stgPart s := by
  unfold State.swapFw
  first
  | ((try dsimp only); (repeat' (first | with_reducible rfl | (with_reducible refine (stgPart_foldl _ _ _ (fun _ _ => ?_)).trans ?_) | (simp; done) | split | (rw [stgPart_mk, stgPart_fold]))); done)
  | ((repeat' split) <;> first | (simp; done) | with_reducible rfl)
  | (refine stgPart_foldl _ _ _ (fun a x => ?_); (repeat' split) <;> first | (simp; done) | with_reducible rfl)
  | ((try dsimp only); rw [stgPart_foldl] <;> first | (intro a x; (repeat' split) <;> first | (simp; done) | with_reducible rfl) | ((repeat' split) <;> first | (simp; done) | with_reducible rfl))
  | ((try dsimp only); (repeat' split) <;> first | (simp; done) | with_reducible rfl)
  | ((repeat' (with_reducible refine stgPart_ite ?_ ?_)) <;> first | (simp; done) | with_reducible rfl)
  | ((repeat' split) <;> first
      | (simp; done)
      | with_reducible rfl
      | (refine stgPart_foldl _ _ _ (fun a x => ?_); (repeat' split) <;> first | (simp; done) | with_reducible rfl)
      | ((try dsimp only); rw [stgPart_foldl] <;> first | (intro a x; (repeat' split) <;> first | (simp; done) | with_reducible rfl) | ((repeat' split) <;> first | (simp; done) | with_reducible rfl)))

@[simp↓] theorem stgPart_bootTrial (s : State) : stgPart (State.bootTrial s) = stgPart s := by
  unfold State.bootTrial
  first
  | ((try dsimp only); (repeat' (first | with_reducible rfl | (with_reducible refine (stgPart_foldl _ _ _ (fun _ _ => ?_)).trans ?_) | (simp; done) | split | (rw [stgPart_mk, stgPart_fold]))); done)
  | ((repeat' split) <;> first | (simp; done) | with_reducible rfl)
  | (refine stgPart_foldl _ _ _ (fun a x => ?_); (repeat' split) <;> first | (simp; done) | with_reducible rfl)
  | ((try dsimp only); rw [stgPart_foldl] <;> first | (intro a x; (repeat' split) <;> first | (simp; done) | with_reducible rfl) | ((repeat' split) <;> first | (simp; done) | with_reducible rfl))
  | ((try dsimp only); (repeat' split) <;> first | (simp; done) | with_reducible rfl)
  | ((repeat' (with_reducible refine stgPart_ite ?_ ?_)) <;> first | (simp; done) | with_reducible rfl)
  | ((repeat' split) <;> first
      | (simp; done)
      | with_reducible rfl
      | (refine stgPart_foldl _ _ _ (fun a x => ?_); (repeat' split) <;> first | (simp; done) | with_reducible rfl)
      | ((try dsimp only); rw [stgPart_foldl] <;> first | (intro a x; (repeat' split) <;> first | (simp; done) | with_reducible rfl) | ((repeat' split) <;> first | (simp; done) | with_reducible rfl)))

@[simp↓] theorem stgPart_confirmTrial (s : State) : stgPart (State.confirmTrial s) = stgPart s := by
  unfold State.confirmTrial
  first
  | ((try dsimp only); (repeat' (first | with_reducible rfl | (with_reducible refine (stgPart_foldl _ _ _ (fun _ _ => ?_)).trans ?_) | (simp; done) | split | (rw [stgPart_mk, stgPart_fold]))); done)
  | ((repeat' split) <;> first | (simp; done) | with_reducible rfl)
  | (refine stgPart_foldl _ _ _ (fun a x => ?_); (repeat' split) <;> first | (simp; done) | with_reducible rfl)
  | ((try dsimp only); rw [stgPart_foldl] <;> first | (intro a x; (repeat' split) <;> first | (simp; done) | with_reducible rfl) | ((repeat' split) <;> first | (simp; done) | with_reducible rfl))
  | ((try dsimp only); (repeat' split) <;> first | (simp; done) | with_reducible rfl)
  | ((repeat' (with_reducible refine stgPart_ite ?_ ?_)) <;> first | (simp; done) | with_reducible rfl)
  | ((repeat' split) <;> first
      | (simp; done)
      | with_reducible rfl
      | (refine stgPart_foldl _ _ _ (fun a x => ?_); (repeat' split) <;> first | (simp; done) | with_reducible rfl)
      | ((try dsimp only); rw [stgPart_foldl] <;> first | (intro a x; (repeat' split) <;> first | (simp; done) | with_reducible rfl) | ((repeat' split) <;> first | (simp; done) | with_reducible rfl)))

@[simp↓] theorem stgPart_takeBoot (s : State) : stgPart (State.takeBoot s) = stgPart s := by
  unfold State.takeBoot
  first
  | ((try dsimp only); (repeat' (first | with_reducible rfl | (with_reducible refine (stgPart_foldl _ _ _ (fun _ _ => ?_)).trans ?_) | (simp; done) | split | (rw [stgPart_mk, stgPart_fold]))); done)
  | ((repeat' split) <;> first | (simp; done) | with_reducible rfl)
  | (refine stgPart_foldl _ _ _ (fun a x => ?_); (repeat' split) <;> first | (simp; done) | with_reducible rfl)
  | ((try dsimp only); rw [stgPart_foldl] <;> first | (intro a x; (repeat' split) <;> first | (simp; done) | with_reducible rfl) | ((repeat' split) <;> first | (simp; done) | with_reducible rfl))
  | ((try dsimp only); (repeat' split) <;> first | (simp; done) | with_reducible rfl)
  | ((repeat' (with_reducible refine stgPart_ite ?_ ?_)) <;> first | (simp; done) | with_reducible rfl)
  | ((repeat' split) <;> first
      | (simp; done)
      | with_reducible rfl
      | (refine stgPart_foldl _ _ _ (fun a x => ?_); (repeat' split) <;> first | (simp; done) | with_reducible rfl)
      | ((try dsimp only); rw [stgPart_foldl] <;> first | (intro a x; (repeat' split) <;> first | (simp; done) | with_reducible rfl) | ((repeat' split) <;> first | (simp; done) | with_reducible rfl)))

@[simp↓] theorem stgPart_auditLost (s : State) (note : Option (U32 × U32)) (op : Nat) (code : Nat) : stgPart (State.auditLost s note op code) = stgPart s := by
  unfold State.auditLost
  first
  | ((try dsimp only); (repeat' (first | with_reducible rfl | (with_reducible refine (stgPart_foldl _ _ _ (fun _ _ => ?_)).trans ?_) | (simp; done) | split | (rw [stgPart_mk, stgPart_fold]))); done)
  | ((repeat' split) <;> first | (simp; done) | with_reducible rfl)
  | (refine stgPart_foldl _ _ _ (fun a x => ?_); (repeat' split) <;> first | (simp; done) | with_reducible rfl)
  | ((try dsimp only); rw [stgPart_foldl] <;> first | (intro a x; (repeat' split) <;> first | (simp; done) | with_reducible rfl) | ((repeat' split) <;> first | (simp; done) | with_reducible rfl))
  | ((try dsimp only); (repeat' split) <;> first | (simp; done) | with_reducible rfl)
  | ((repeat' (with_reducible refine stgPart_ite ?_ ?_)) <;> first | (simp; done) | with_reducible rfl)
  | ((repeat' split) <;> first
      | (simp; done)
      | with_reducible rfl
      | (refine stgPart_foldl _ _ _ (fun a x => ?_); (repeat' split) <;> first | (simp; done) | with_reducible rfl)
      | ((try dsimp only); rw [stgPart_foldl] <;> first | (intro a x; (repeat' split) <;> first | (simp; done) | with_reducible rfl) | ((repeat' split) <;> first | (simp; done) | with_reducible rfl)))

@[simp↓] theorem stgPart_lostNotes (s : State) : stgPart (State.lostNotes s) = stgPart s := by
  unfold State.lostNotes
  first
  | ((try dsimp only); (repeat' (first | with_reducible rfl | (with_reducible refine (stgPart_foldl _ _ _ (fun _ _ => ?_)).trans ?_) | (simp; done) | split | (rw [stgPart_mk, stgPart_fold]))); done)
  | ((repeat' split) <;> first | (simp; done) | with_reducible rfl)
  | (refine stgPart_foldl _ _ _ (fun a x => ?_); (repeat' split) <;> first | (simp; done) | with_reducible rfl)
  | ((try dsimp only); rw [stgPart_foldl] <;> first | (intro a x; (repeat' split) <;> first | (simp; done) | with_reducible rfl) | ((repeat' split) <;> first | (simp; done) | with_reducible rfl))
  | ((try dsimp only); (repeat' split) <;> first | (simp; done) | with_reducible rfl)
  | ((repeat' (with_reducible refine stgPart_ite ?_ ?_)) <;> first | (simp; done) | with_reducible rfl)
  | ((repeat' split) <;> first
      | (simp; done)
      | with_reducible rfl
      | (refine stgPart_foldl _ _ _ (fun a x => ?_); (repeat' split) <;> first | (simp; done) | with_reducible rfl)
      | ((try dsimp only); rw [stgPart_foldl] <;> first | (intro a x; (repeat' split) <;> first | (simp; done) | with_reducible rfl) | ((repeat' split) <;> first | (simp; done) | with_reducible rfl)))

@[simp↓] theorem stgPart_startKeys (s : State) : stgPart (State.startKeys s) = stgPart s := by
  unfold State.startKeys
  first
  | ((try dsimp only); (repeat' (first | with_reducible rfl | (with_reducible refine (stgPart_foldl _ _ _ (fun _ _ => ?_)).trans ?_) | (simp; done) | split | (rw [stgPart_mk, stgPart_fold]))); done)
  | ((repeat' split) <;> first | (simp; done) | with_reducible rfl)
  | (refine stgPart_foldl _ _ _ (fun a x => ?_); (repeat' split) <;> first | (simp; done) | with_reducible rfl)
  | ((try dsimp only); rw [stgPart_foldl] <;> first | (intro a x; (repeat' split) <;> first | (simp; done) | with_reducible rfl) | ((repeat' split) <;> first | (simp; done) | with_reducible rfl))
  | ((try dsimp only); (repeat' split) <;> first | (simp; done) | with_reducible rfl)
  | ((repeat' (with_reducible refine stgPart_ite ?_ ?_)) <;> first | (simp; done) | with_reducible rfl)
  | ((repeat' split) <;> first
      | (simp; done)
      | with_reducible rfl
      | (refine stgPart_foldl _ _ _ (fun a x => ?_); (repeat' split) <;> first | (simp; done) | with_reducible rfl)
      | ((try dsimp only); rw [stgPart_foldl] <;> first | (intro a x; (repeat' split) <;> first | (simp; done) | with_reducible rfl) | ((repeat' split) <;> first | (simp; done) | with_reducible rfl)))

@[simp↓] theorem stgPart_startClock (s : State) : stgPart (State.startClock s) = stgPart s := by
  unfold State.startClock
  first
  | ((try dsimp only); (repeat' (first | with_reducible rfl | (with_reducible refine (stgPart_foldl _ _ _ (fun _ _ => ?_)).trans ?_) | (simp; done) | split | (rw [stgPart_mk, stgPart_fold]))); done)
  | ((repeat' split) <;> first | (simp; done) | with_reducible rfl)
  | (refine stgPart_foldl _ _ _ (fun a x => ?_); (repeat' split) <;> first | (simp; done) | with_reducible rfl)
  | ((try dsimp only); rw [stgPart_foldl] <;> first | (intro a x; (repeat' split) <;> first | (simp; done) | with_reducible rfl) | ((repeat' split) <;> first | (simp; done) | with_reducible rfl))
  | ((try dsimp only); (repeat' split) <;> first | (simp; done) | with_reducible rfl)
  | ((repeat' (with_reducible refine stgPart_ite ?_ ?_)) <;> first | (simp; done) | with_reducible rfl)
  | ((repeat' split) <;> first
      | (simp; done)
      | with_reducible rfl
      | (refine stgPart_foldl _ _ _ (fun a x => ?_); (repeat' split) <;> first | (simp; done) | with_reducible rfl)
      | ((try dsimp only); rw [stgPart_foldl] <;> first | (intro a x; (repeat' split) <;> first | (simp; done) | with_reducible rfl) | ((repeat' split) <;> first | (simp; done) | with_reducible rfl)))

@[simp↓] theorem stgPart_startUnit (s : State) : stgPart (State.startUnit s) = stgPart s := by
  unfold State.startUnit
  first
  | ((try dsimp only); (repeat' (first | with_reducible rfl | (with_reducible refine (stgPart_foldl _ _ _ (fun _ _ => ?_)).trans ?_) | (simp; done) | split | (rw [stgPart_mk, stgPart_fold]))); done)
  | ((repeat' split) <;> first | (simp; done) | with_reducible rfl)
  | (refine stgPart_foldl _ _ _ (fun a x => ?_); (repeat' split) <;> first | (simp; done) | with_reducible rfl)
  | ((try dsimp only); rw [stgPart_foldl] <;> first | (intro a x; (repeat' split) <;> first | (simp; done) | with_reducible rfl) | ((repeat' split) <;> first | (simp; done) | with_reducible rfl))
  | ((try dsimp only); (repeat' split) <;> first | (simp; done) | with_reducible rfl)
  | ((repeat' (with_reducible refine stgPart_ite ?_ ?_)) <;> first | (simp; done) | with_reducible rfl)
  | ((repeat' split) <;> first
      | (simp; done)
      | with_reducible rfl
      | (refine stgPart_foldl _ _ _ (fun a x => ?_); (repeat' split) <;> first | (simp; done) | with_reducible rfl)
      | ((try dsimp only); rw [stgPart_foldl] <;> first | (intro a x; (repeat' split) <;> first | (simp; done) | with_reducible rfl) | ((repeat' split) <;> first | (simp; done) | with_reducible rfl)))

@[simp↓] theorem stgPart_copyDrip (s : State) : stgPart (State.copyDrip s) = stgPart s := by
  unfold State.copyDrip
  first
  | ((try dsimp only); (repeat' (first | with_reducible rfl | (with_reducible refine (stgPart_foldl _ _ _ (fun _ _ => ?_)).trans ?_) | (simp; done) | split | (rw [stgPart_mk, stgPart_fold]))); done)
  | ((repeat' split) <;> first | (simp; done) | with_reducible rfl)
  | (refine stgPart_foldl _ _ _ (fun a x => ?_); (repeat' split) <;> first | (simp; done) | with_reducible rfl)
  | ((try dsimp only); rw [stgPart_foldl] <;> first | (intro a x; (repeat' split) <;> first | (simp; done) | with_reducible rfl) | ((repeat' split) <;> first | (simp; done) | with_reducible rfl))
  | ((try dsimp only); (repeat' split) <;> first | (simp; done) | with_reducible rfl)
  | ((repeat' (with_reducible refine stgPart_ite ?_ ?_)) <;> first | (simp; done) | with_reducible rfl)
  | ((repeat' split) <;> first
      | (simp; done)
      | with_reducible rfl
      | (refine stgPart_foldl _ _ _ (fun a x => ?_); (repeat' split) <;> first | (simp; done) | with_reducible rfl)
      | ((try dsimp only); rw [stgPart_foldl] <;> first | (intro a x; (repeat' split) <;> first | (simp; done) | with_reducible rfl) | ((repeat' split) <;> first | (simp; done) | with_reducible rfl)))

@[simp↓] theorem stgPart_postDrip (s : State) : stgPart (State.postDrip s) = stgPart s := by
  unfold State.postDrip
  first
  | ((try dsimp only); (repeat' (first | with_reducible rfl | (with_reducible refine (stgPart_foldl _ _ _ (fun _ _ => ?_)).trans ?_) | (simp; done) | split | (rw [stgPart_mk, stgPart_fold]))); done)
  | ((repeat' split) <;> first | (simp; done) | with_reducible rfl)
  | (refine stgPart_foldl _ _ _ (fun a x => ?_); (repeat' split) <;> first | (simp; done) | with_reducible rfl)
  | ((try dsimp only); rw [stgPart_foldl] <;> first | (intro a x; (repeat' split) <;> first | (simp; done) | with_reducible rfl) | ((repeat' split) <;> first | (simp; done) | with_reducible rfl))
  | ((try dsimp only); (repeat' split) <;> first | (simp; done) | with_reducible rfl)
  | ((repeat' (with_reducible refine stgPart_ite ?_ ?_)) <;> first | (simp; done) | with_reducible rfl)
  | ((repeat' split) <;> first
      | (simp; done)
      | with_reducible rfl
      | (refine stgPart_foldl _ _ _ (fun a x => ?_); (repeat' split) <;> first | (simp; done) | with_reducible rfl)
      | ((try dsimp only); rw [stgPart_foldl] <;> first | (intro a x; (repeat' split) <;> first | (simp; done) | with_reducible rfl) | ((repeat' split) <;> first | (simp; done) | with_reducible rfl)))

@[simp↓] theorem stgPart_postAlarms (s : State) : stgPart (State.postAlarms s) = stgPart s := by
  unfold State.postAlarms
  first
  | ((try dsimp only); (repeat' (first | with_reducible rfl | (with_reducible refine (stgPart_foldl _ _ _ (fun _ _ => ?_)).trans ?_) | (simp; done) | split | (rw [stgPart_mk, stgPart_fold]))); done)
  | ((repeat' split) <;> first | (simp; done) | with_reducible rfl)
  | (refine stgPart_foldl _ _ _ (fun a x => ?_); (repeat' split) <;> first | (simp; done) | with_reducible rfl)
  | ((try dsimp only); rw [stgPart_foldl] <;> first | (intro a x; (repeat' split) <;> first | (simp; done) | with_reducible rfl) | ((repeat' split) <;> first | (simp; done) | with_reducible rfl))
  | ((try dsimp only); (repeat' split) <;> first | (simp; done) | with_reducible rfl)
  | ((repeat' (with_reducible refine stgPart_ite ?_ ?_)) <;> first | (simp; done) | with_reducible rfl)
  | ((repeat' split) <;> first
      | (simp; done)
      | with_reducible rfl
      | (refine stgPart_foldl _ _ _ (fun a x => ?_); (repeat' split) <;> first | (simp; done) | with_reducible rfl)
      | ((try dsimp only); rw [stgPart_foldl] <;> first | (intro a x; (repeat' split) <;> first | (simp; done) | with_reducible rfl) | ((repeat' split) <;> first | (simp; done) | with_reducible rfl)))

@[simp↓] theorem stgPart_postBootFault (s : State) : stgPart (State.postBootFault s) = stgPart s := by
  unfold State.postBootFault
  first
  | ((try dsimp only); (repeat' (first | with_reducible rfl | (with_reducible refine (stgPart_foldl _ _ _ (fun _ _ => ?_)).trans ?_) | (simp; done) | split | (rw [stgPart_mk, stgPart_fold]))); done)
  | ((repeat' split) <;> first | (simp; done) | with_reducible rfl)
  | (refine stgPart_foldl _ _ _ (fun a x => ?_); (repeat' split) <;> first | (simp; done) | with_reducible rfl)
  | ((try dsimp only); rw [stgPart_foldl] <;> first | (intro a x; (repeat' split) <;> first | (simp; done) | with_reducible rfl) | ((repeat' split) <;> first | (simp; done) | with_reducible rfl))
  | ((try dsimp only); (repeat' split) <;> first | (simp; done) | with_reducible rfl)
  | ((repeat' (with_reducible refine stgPart_ite ?_ ?_)) <;> first | (simp; done) | with_reducible rfl)
  | ((repeat' split) <;> first
      | (simp; done)
      | with_reducible rfl
      | (refine stgPart_foldl _ _ _ (fun a x => ?_); (repeat' split) <;> first | (simp; done) | with_reducible rfl)
      | ((try dsimp only); rw [stgPart_foldl] <;> first | (intro a x; (repeat' split) <;> first | (simp; done) | with_reducible rfl) | ((repeat' split) <;> first | (simp; done) | with_reducible rfl)))

@[simp↓] theorem stgPart_canStop (s : State) : stgPart (State.canStop s) = stgPart s := by
  unfold State.canStop
  first
  | ((try dsimp only); (repeat' (first | with_reducible rfl | (with_reducible refine (stgPart_foldl _ _ _ (fun _ _ => ?_)).trans ?_) | (simp; done) | split | (rw [stgPart_mk, stgPart_fold]))); done)
  | ((repeat' split) <;> first | (simp; done) | with_reducible rfl)
  | (refine stgPart_foldl _ _ _ (fun a x => ?_); (repeat' split) <;> first | (simp; done) | with_reducible rfl)
  | ((try dsimp only); rw [stgPart_foldl] <;> first | (intro a x; (repeat' split) <;> first | (simp; done) | with_reducible rfl) | ((repeat' split) <;> first | (simp; done) | with_reducible rfl))
  | ((try dsimp only); (repeat' split) <;> first | (simp; done) | with_reducible rfl)
  | ((repeat' (with_reducible refine stgPart_ite ?_ ?_)) <;> first | (simp; done) | with_reducible rfl)
  | ((repeat' split) <;> first
      | (simp; done)
      | with_reducible rfl
      | (refine stgPart_foldl _ _ _ (fun a x => ?_); (repeat' split) <;> first | (simp; done) | with_reducible rfl)
      | ((try dsimp only); rw [stgPart_foldl] <;> first | (intro a x; (repeat' split) <;> first | (simp; done) | with_reducible rfl) | ((repeat' split) <;> first | (simp; done) | with_reducible rfl)))

/-- The parts `par`, `drip`, `pending`, `rst.vbulkGood`. -/
def flashPart (s : State) := (s.par, s.drip, s.pending, s.rst.vbulkGood)

@[simp] theorem flashPart_fold (s : State) : (s.par, s.drip, s.pending, s.rst.vbulkGood) = flashPart s := rfl

@[simp↓] theorem flashPart_mk (epoch order ident host par lane prog model slv perc afe fed stn pts fio can net time key aud pair pwr rst drip past edge latch pending out free) : flashPart (State.mk epoch order ident host par lane prog model slv perc afe fed stn pts fio can net time key aud pair pwr rst drip past edge latch pending out free) = (par, drip, pending, rst.vbulkGood) := rfl

theorem flashPart_silent {s t : State} (h : Silent s t) : flashPart t = flashPart s := by rw [h.rest]; rfl

theorem flashPart_ite {c : Prop} [Decidable c] {a b s : State} (ha : flashPart a = flashPart s) (hb : flashPart b = flashPart s) :
    flashPart (if c then a else b) = flashPart s := by
  split <;> assumption

theorem flashPart_foldl {α : Type} (l : List α) (f : State → α → State) (s : State) (h : ∀ a x, flashPart (f a x) = flashPart a) :
    flashPart (l.foldl f s) = flashPart s := by
  induction l generalizing s with
  | nil => rfl
  | cons x l ih => exact (ih _).trans (h s x)

@[simp↓] theorem flashPart_closeEdge (s : State) : flashPart (State.closeEdge s) = flashPart s := by
  unfold State.closeEdge
  first
  | ((try dsimp only); (repeat' (first | with_reducible rfl | (with_reducible refine (flashPart_foldl _ _ _ (fun _ _ => ?_)).trans ?_) | (simp; done) | split | (rw [flashPart_mk, flashPart_fold]))); done)
  | ((repeat' split) <;> first | (simp; done) | with_reducible rfl)
  | (refine flashPart_foldl _ _ _ (fun a x => ?_); (repeat' split) <;> first | (simp; done) | with_reducible rfl)
  | ((try dsimp only); rw [flashPart_foldl] <;> first | (intro a x; (repeat' split) <;> first | (simp; done) | with_reducible rfl) | ((repeat' split) <;> first | (simp; done) | with_reducible rfl))
  | ((try dsimp only); (repeat' split) <;> first | (simp; done) | with_reducible rfl)
  | ((repeat' (with_reducible refine flashPart_ite ?_ ?_)) <;> first | (simp; done) | with_reducible rfl)
  | ((repeat' split) <;> first
      | (simp; done)
      | with_reducible rfl
      | (refine flashPart_foldl _ _ _ (fun a x => ?_); (repeat' split) <;> first | (simp; done) | with_reducible rfl)
      | ((try dsimp only); rw [flashPart_foldl] <;> first | (intro a x; (repeat' split) <;> first | (simp; done) | with_reducible rfl) | ((repeat' split) <;> first | (simp; done) | with_reducible rfl)))

@[simp↓] theorem flashPart_setItem (s : State) (l : U64) (k : KeyItem) : flashPart (State.setItem s l k) = flashPart s := by
  unfold State.setItem
  first
  | ((try dsimp only); (repeat' (first | with_reducible rfl | (with_reducible refine (flashPart_foldl _ _ _ (fun _ _ => ?_)).trans ?_) | (simp; done) | split | (rw [flashPart_mk, flashPart_fold]))); done)
  | ((repeat' split) <;> first | (simp; done) | with_reducible rfl)
  | (refine flashPart_foldl _ _ _ (fun a x => ?_); (repeat' split) <;> first | (simp; done) | with_reducible rfl)
  | ((try dsimp only); rw [flashPart_foldl] <;> first | (intro a x; (repeat' split) <;> first | (simp; done) | with_reducible rfl) | ((repeat' split) <;> first | (simp; done) | with_reducible rfl))
  | ((try dsimp only); (repeat' split) <;> first | (simp; done) | with_reducible rfl)
  | ((repeat' (with_reducible refine flashPart_ite ?_ ?_)) <;> first | (simp; done) | with_reducible rfl)
  | ((repeat' split) <;> first
      | (simp; done)
      | with_reducible rfl
      | (refine flashPart_foldl _ _ _ (fun a x => ?_); (repeat' split) <;> first | (simp; done) | with_reducible rfl)
      | ((try dsimp only); rw [flashPart_foldl] <;> first | (intro a x; (repeat' split) <;> first | (simp; done) | with_reducible rfl) | ((repeat' split) <;> first | (simp; done) | with_reducible rfl)))

@[simp↓] theorem flashPart_dropItem (s : State) (l : U64) : flashPart (State.dropItem s l) = flashPart s := by
  unfold State.dropItem
  first
  | ((try dsimp only); (repeat' (first | with_reducible rfl | (with_reducible refine (flashPart_foldl _ _ _ (fun _ _ => ?_)).trans ?_) | (simp; done) | split | (rw [flashPart_mk, flashPart_fold]))); done)
  | ((repeat' split) <;> first | (simp; done) | with_reducible rfl)
  | (refine flashPart_foldl _ _ _ (fun a x => ?_); (repeat' split) <;> first | (simp; done) | with_reducible rfl)
  | ((try dsimp only); rw [flashPart_foldl] <;> first | (intro a x; (repeat' split) <;> first | (simp; done) | with_reducible rfl) | ((repeat' split) <;> first | (simp; done) | with_reducible rfl))
  | ((try dsimp only); (repeat' split) <;> first | (simp; done) | with_reducible rfl)
  | ((repeat' (with_reducible refine flashPart_ite ?_ ?_)) <;> first | (simp; done) | with_reducible rfl)
  | ((repeat' split) <;> first
      | (simp; done)
      | with_reducible rfl
      | (refine flashPart_foldl _ _ _ (fun a x => ?_); (repeat' split) <;> first | (simp; done) | with_reducible rfl)
      | ((try dsimp only); rw [flashPart_foldl] <;> first | (intro a x; (repeat' split) <;> first | (simp; done) | with_reducible rfl) | ((repeat' split) <;> first | (simp; done) | with_reducible rfl)))

@[simp↓] theorem flashPart_loseInstall (s : State) (o : KeyOp) : flashPart (State.loseInstall s o) = flashPart s := by
  unfold State.loseInstall
  first
  | ((try dsimp only); (repeat' (first | with_reducible rfl | (with_reducible refine (flashPart_foldl _ _ _ (fun _ _ => ?_)).trans ?_) | (simp; done) | split | (rw [flashPart_mk, flashPart_fold]))); done)
  | ((repeat' split) <;> first | (simp; done) | with_reducible rfl)
  | (refine flashPart_foldl _ _ _ (fun a x => ?_); (repeat' split) <;> first | (simp; done) | with_reducible rfl)
  | ((try dsimp only); rw [flashPart_foldl] <;> first | (intro a x; (repeat' split) <;> first | (simp; done) | with_reducible rfl) | ((repeat' split) <;> first | (simp; done) | with_reducible rfl))
  | ((try dsimp only); (repeat' split) <;> first | (simp; done) | with_reducible rfl)
  | ((repeat' (with_reducible refine flashPart_ite ?_ ?_)) <;> first | (simp; done) | with_reducible rfl)
  | ((repeat' split) <;> first
      | (simp; done)
      | with_reducible rfl
      | (refine flashPart_foldl _ _ _ (fun a x => ?_); (repeat' split) <;> first | (simp; done) | with_reducible rfl)
      | ((try dsimp only); rw [flashPart_foldl] <;> first | (intro a x; (repeat' split) <;> first | (simp; done) | with_reducible rfl) | ((repeat' split) <;> first | (simp; done) | with_reducible rfl)))

@[simp↓] theorem flashPart_loseInstalls (s : State) : flashPart (State.loseInstalls s) = flashPart s := by
  unfold State.loseInstalls
  first
  | ((try dsimp only); (repeat' (first | with_reducible rfl | (with_reducible refine (flashPart_foldl _ _ _ (fun _ _ => ?_)).trans ?_) | (simp; done) | split | (rw [flashPart_mk, flashPart_fold]))); done)
  | ((repeat' split) <;> first | (simp; done) | with_reducible rfl)
  | (refine flashPart_foldl _ _ _ (fun a x => ?_); (repeat' split) <;> first | (simp; done) | with_reducible rfl)
  | ((try dsimp only); rw [flashPart_foldl] <;> first | (intro a x; (repeat' split) <;> first | (simp; done) | with_reducible rfl) | ((repeat' split) <;> first | (simp; done) | with_reducible rfl))
  | ((try dsimp only); (repeat' split) <;> first | (simp; done) | with_reducible rfl)
  | ((repeat' (with_reducible refine flashPart_ite ?_ ?_)) <;> first | (simp; done) | with_reducible rfl)
  | ((repeat' split) <;> first
      | (simp; done)
      | with_reducible rfl
      | (refine flashPart_foldl _ _ _ (fun a x => ?_); (repeat' split) <;> first | (simp; done) | with_reducible rfl)
      | ((try dsimp only); rw [flashPart_foldl] <;> first | (intro a x; (repeat' split) <;> first | (simp; done) | with_reducible rfl) | ((repeat' split) <;> first | (simp; done) | with_reducible rfl)))

@[simp↓] theorem flashPart_swapFw (s : State) : flashPart (State.swapFw s) = flashPart s := by
  unfold State.swapFw
  first
  | ((try dsimp only); (repeat' (first | with_reducible rfl | (with_reducible refine (flashPart_foldl _ _ _ (fun _ _ => ?_)).trans ?_) | (simp; done) | split | (rw [flashPart_mk, flashPart_fold]))); done)
  | ((repeat' split) <;> first | (simp; done) | with_reducible rfl)
  | (refine flashPart_foldl _ _ _ (fun a x => ?_); (repeat' split) <;> first | (simp; done) | with_reducible rfl)
  | ((try dsimp only); rw [flashPart_foldl] <;> first | (intro a x; (repeat' split) <;> first | (simp; done) | with_reducible rfl) | ((repeat' split) <;> first | (simp; done) | with_reducible rfl))
  | ((try dsimp only); (repeat' split) <;> first | (simp; done) | with_reducible rfl)
  | ((repeat' (with_reducible refine flashPart_ite ?_ ?_)) <;> first | (simp; done) | with_reducible rfl)
  | ((repeat' split) <;> first
      | (simp; done)
      | with_reducible rfl
      | (refine flashPart_foldl _ _ _ (fun a x => ?_); (repeat' split) <;> first | (simp; done) | with_reducible rfl)
      | ((try dsimp only); rw [flashPart_foldl] <;> first | (intro a x; (repeat' split) <;> first | (simp; done) | with_reducible rfl) | ((repeat' split) <;> first | (simp; done) | with_reducible rfl)))

@[simp↓] theorem flashPart_endTrialRun (s : State) : flashPart (State.endTrialRun s) = flashPart s := by
  unfold State.endTrialRun
  first
  | ((try dsimp only); (repeat' (first | with_reducible rfl | (with_reducible refine (flashPart_foldl _ _ _ (fun _ _ => ?_)).trans ?_) | (simp; done) | split | (rw [flashPart_mk, flashPart_fold]))); done)
  | ((repeat' split) <;> first | (simp; done) | with_reducible rfl)
  | (refine flashPart_foldl _ _ _ (fun a x => ?_); (repeat' split) <;> first | (simp; done) | with_reducible rfl)
  | ((try dsimp only); rw [flashPart_foldl] <;> first | (intro a x; (repeat' split) <;> first | (simp; done) | with_reducible rfl) | ((repeat' split) <;> first | (simp; done) | with_reducible rfl))
  | ((try dsimp only); (repeat' split) <;> first | (simp; done) | with_reducible rfl)
  | ((repeat' (with_reducible refine flashPart_ite ?_ ?_)) <;> first | (simp; done) | with_reducible rfl)
  | ((repeat' split) <;> first
      | (simp; done)
      | with_reducible rfl
      | (refine flashPart_foldl _ _ _ (fun a x => ?_); (repeat' split) <;> first | (simp; done) | with_reducible rfl)
      | ((try dsimp only); rw [flashPart_foldl] <;> first | (intro a x; (repeat' split) <;> first | (simp; done) | with_reducible rfl) | ((repeat' split) <;> first | (simp; done) | with_reducible rfl)))

end Sys2Proof.Laws
end

