-- ==== Sys2Proof/Laws/TraceHost.lean ====
section
/-! SUPPORT. What the operations of a module may do to the audit log, the sent messages, the waiting commands and the
identity: the shared operations, the host port, time and the key store. Each law says that the operation only appends to them. -/

set_option linter.unusedVariables false
set_option linter.unusedSimpArgs false
set_option linter.unusedTactic false
set_option linter.unreachableTactic false
set_option linter.unnecessarySeqFocus false

namespace Sys2Proof.Laws
open Sys2Proof.Machine

variable {r : Trace}


@[simp↓] theorem grow_fold {s : State} : Grow r ⟨s.aud, s.out, s.pending, s.ident⟩ ↔ Ext r s := Iff.rfl

@[simp↓] theorem ext_mk {epoch order ident host par lane prog model slv perc afe fed stn pts fio can net time key aud pair
    pwr rst drip past edge latch pending out free} :
    Ext r (State.mk epoch order ident host par lane prog model slv perc afe fed stn pts fio can net time key aud pair
      pwr rst drip past edge latch pending out free) ↔ Grow r ⟨aud, out, pending, ident⟩ := Iff.rfl

@[simp↓] theorem grow_sent {a o p i m} (h : Grow r ⟨a, o, p, i⟩) : Grow r ⟨a, m :: o, p, i⟩ := .sent m h
@[simp↓] theorem grow_recorded {a o p i x} (h : Grow r ⟨a, o, p, i⟩) : Grow r ⟨AuditSt.push a x, o, p, i⟩ := .recorded x h
@[simp↓] theorem grow_applied {a o p i e} (h : Grow r ⟨a, o, p, i⟩) :
    Grow r ⟨{ a with appliedEpoch := e }, o, p, i⟩ := .applied e h
@[simp↓] theorem grow_booted {a o p i v} (h : Grow r ⟨a, o, p, i⟩) :
    Grow r ⟨a, o, p, { i with fw := v }⟩ := .booted v h

@[simp↓] theorem ext_ite {c : Prop} [Decidable c] {x y : State} (hx : Ext r x) (hy : Ext r y) :
    Ext r (if c then x else y) := by split <;> assumption

@[simp↓] theorem ext_ite_fst {α : Type} {c : Prop} [Decidable c] {x y : State × α} (hx : Ext r x.1) (hy : Ext r y.1) :
    Ext r (if c then x else y).1 := by split <;> assumption

@[simp↓] theorem ext_foldl {α : Type} {l : List α} {f : State → α → State} {s : State} (h : Ext r s)
    (hf : ∀ a x, Ext r a → Ext r (f a x)) : Ext r (l.foldl f s) := by
  induction l generalizing s with
  | nil => exact h
  | cons x l ih => exact ih (hf _ _ h)

theorem extOut_next {s : State} (h : Ext r s) : ExtOut r (.next s) := ⟨s, rfl, h⟩
@[simp↓] theorem extOut_next_iff {s : State} : ExtOut r (.next s) ↔ Ext r s :=
  ⟨fun ⟨_, e, h⟩ => by cases e; exact h, extOut_next⟩

theorem extends_reject (n : Nat) : (reject n).Extends := fun _ _ h => h
@[simp↓] theorem extends_mk {st de : Nat} {hd : U32} {da : List Byte} {f : State → State} :
    (Verdict.mk st de hd da f).Extends ↔ ∀ r t, Ext r t → Ext r (f t) := Iff.rfl
@[simp↓] theorem ext_reject {n : Nat} {t : State} : Ext r ((reject n).act t) ↔ Ext r t := Iff.rfl
@[simp↓] theorem extends_ite {c : Prop} [Decidable c] {v w : Verdict} (hv : v.Extends) (hw : w.Extends) :
    (if c then v else w).Extends := by split <;> assumption
@[simp↓] theorem extends_reject' (n : Nat) : (reject n).Extends := extends_reject n

theorem ext_foldl_fst {α β : Type} {l : List α} {f : State × β → α → State × β} {s : State × β} (h : Ext r s.1)
    (hf : ∀ a x, Ext r a.1 → Ext r (f a x).1) : Ext r (l.foldl f s).1 := by
  induction l generalizing s with
  | nil => exact h
  | cons x l ih => exact ih (hf _ _ h)

theorem ext_withSect {α : Type} {s : State} {v : Option α} {f : State → α → State} (h : Ext r s)
    (hf : ∀ s x, Ext r s → Ext r (f s x)) : Ext r (s.withSect v f) := by
  unfold State.withSect; split
  · exact hf _ _ h
  · exact h

@[simp↓] theorem ext_State_setPv (s : State) (id : Nat) (idx : Nat) (v : PVal) (h : Ext r s) :
    Ext r (State.setPv s id idx v) := by
  unfold State.setPv
  first
  | (simp (contextual := true) (maxDischargeDepth := 40) [h]; done)
  | ((repeat' split) <;> first | assumption | (simp (contextual := true) (maxDischargeDepth := 40) [h]; done) | ((simp (contextual := true) (maxDischargeDepth := 40) [h]) <;> (repeat' split) <;> simp (contextual := true) (maxDischargeDepth := 40) [h]))

@[simp↓] theorem ext_State_emit (s : State) (m : OutMsg) (h : Ext r s) :
    Ext r (State.emit s m) := by
  unfold State.emit
  first
  | (simp (contextual := true) (maxDischargeDepth := 40) [h]; done)
  | ((repeat' split) <;> first | assumption | (simp (contextual := true) (maxDischargeDepth := 40) [h]; done) | ((simp (contextual := true) (maxDischargeDepth := 40) [h]) <;> (repeat' split) <;> simp (contextual := true) (maxDischargeDepth := 40) [h]))

@[simp↓] theorem ext_State_sendMsix (s : State) (v : Nat) (h : Ext r s) :
    Ext r (State.sendMsix s v) := by
  unfold State.sendMsix
  first
  | (simp (contextual := true) (maxDischargeDepth := 40) [h]; done)
  | ((repeat' split) <;> first | assumption | (simp (contextual := true) (maxDischargeDepth := 40) [h]; done) | ((simp (contextual := true) (maxDischargeDepth := 40) [h]) <;> (repeat' split) <;> simp (contextual := true) (maxDischargeDepth := 40) [h]))

@[simp↓] theorem ext_State_syncDev (s : State) (h : Ext r s) :
    Ext r (State.syncDev s) := by
  unfold State.syncDev
  first
  | (simp (contextual := true) (maxDischargeDepth := 40) [h]; done)
  | ((repeat' split) <;> first | assumption | (simp (contextual := true) (maxDischargeDepth := 40) [h]; done) | ((simp (contextual := true) (maxDischargeDepth := 40) [h]) <;> (repeat' split) <;> simp (contextual := true) (maxDischargeDepth := 40) [h]))

@[simp↓] theorem ext_State_setQueue (s : State) (n : Nat) (q : QPair) (h : Ext r s) :
    Ext r (State.setQueue s n q) := by
  unfold State.setQueue
  first
  | (simp (contextual := true) (maxDischargeDepth := 40) [h]; done)
  | ((repeat' split) <;> first | assumption | (simp (contextual := true) (maxDischargeDepth := 40) [h]; done) | ((simp (contextual := true) (maxDischargeDepth := 40) [h]) <;> (repeat' split) <;> simp (contextual := true) (maxDischargeDepth := 40) [h]))

@[simp↓] theorem ext_State_setSess (s : State) (n : Nat) (v : Session) (h : Ext r s) :
    Ext r (State.setSess s n v) := by
  unfold State.setSess
  first
  | (simp (contextual := true) (maxDischargeDepth := 40) [h]; done)
  | ((repeat' split) <;> first | assumption | (simp (contextual := true) (maxDischargeDepth := 40) [h]; done) | ((simp (contextual := true) (maxDischargeDepth := 40) [h]) <;> (repeat' split) <;> simp (contextual := true) (maxDischargeDepth := 40) [h]))

@[simp↓] theorem ext_State_auditPush (s : State) (r1 : AuditRec) (h : Ext r s) :
    Ext r (State.auditPush s r1) := by
  exact grow_recorded h

@[simp↓] theorem ext_State_auditDev (s : State) (kind : Nat) (opcode : Nat) (status : Nat) (subject : Nat) (data : List Byte) (h : Ext r s) :
    Ext r (State.auditDev s kind opcode status subject data) := by
  unfold State.auditDev
  first
  | (simp (contextual := true) (maxDischargeDepth := 40) [h]; done)
  | ((repeat' split) <;> first | assumption | (simp (contextual := true) (maxDischargeDepth := 40) [h]; done) | ((simp (contextual := true) (maxDischargeDepth := 40) [h]) <;> (repeat' split) <;> simp (contextual := true) (maxDischargeDepth := 40) [h]))

@[simp↓] theorem ext_State_auditApplied (s : State) (subject : Nat) (h : Ext r s) :
    Ext r (State.auditApplied s subject) := by
  unfold State.auditApplied
  first
  | (simp (contextual := true) (maxDischargeDepth := 40) [h]; done)
  | ((repeat' split) <;> first | assumption | (simp (contextual := true) (maxDischargeDepth := 40) [h]; done) | ((simp (contextual := true) (maxDischargeDepth := 40) [h]) <;> (repeat' split) <;> simp (contextual := true) (maxDischargeDepth := 40) [h]))

@[simp↓] theorem ext_State_postQueue (s : State) (n : Nat) (e : Entry) (data : List Byte) (h : Ext r s) :
    Ext r (State.postQueue s n e data).1 := by
  unfold State.postQueue
  first
  | (simp (contextual := true) (maxDischargeDepth := 40) [h]; done)
  | ((repeat' split) <;> first | assumption | (simp (contextual := true) (maxDischargeDepth := 40) [h]; done) | ((simp (contextual := true) (maxDischargeDepth := 40) [h]) <;> (repeat' split) <;> simp (contextual := true) (maxDischargeDepth := 40) [h]))

@[simp↓] theorem ext_State_post (s : State) (dst : Src) (e : Entry) (data : List Byte) (h : Ext r s) :
    Ext r (State.post s dst e data).1 := by
  unfold State.post
  first
  | (simp (contextual := true) (maxDischargeDepth := 40) [h]; done)
  | ((repeat' split) <;> first | assumption | (simp (contextual := true) (maxDischargeDepth := 40) [h]; done) | ((simp (contextual := true) (maxDischargeDepth := 40) [h]) <;> (repeat' split) <;> simp (contextual := true) (maxDischargeDepth := 40) [h]))

@[simp↓] theorem ext_State_event (s : State) (code : Nat) (status : Nat) (data : List Byte) (h : Ext r s) :
    Ext r (State.event s code status data) := by
  unfold State.event
  first
  | (simp (contextual := true) (maxDischargeDepth := 40) [h]; done)
  | ((repeat' split) <;> first | assumption | (simp (contextual := true) (maxDischargeDepth := 40) [h]; done) | ((simp (contextual := true) (maxDischargeDepth := 40) [h]) <;> (repeat' split) <;> simp (contextual := true) (maxDischargeDepth := 40) [h]))

@[simp↓] theorem ext_State_condition (s : State) (status : Nat) (data : List Byte) (h : Ext r s) :
    Ext r (State.condition s status data) := by
  unfold State.condition
  first
  | (simp (contextual := true) (maxDischargeDepth := 40) [h]; done)
  | ((repeat' split) <;> first | assumption | (simp (contextual := true) (maxDischargeDepth := 40) [h]; done) | ((simp (contextual := true) (maxDischargeDepth := 40) [h]) <;> (repeat' split) <;> simp (contextual := true) (maxDischargeDepth := 40) [h]))

@[simp↓] theorem ext_State_openHandle (s : State) (src : Src) (cq : Src) (tag : U32) (op : Nat) (h : Ext r s) :
    Ext r (State.openHandle s src cq tag op) := by
  unfold State.openHandle
  first
  | (simp (contextual := true) (maxDischargeDepth := 40) [h]; done)
  | ((repeat' split) <;> first | assumption | (simp (contextual := true) (maxDischargeDepth := 40) [h]; done) | ((simp (contextual := true) (maxDischargeDepth := 40) [h]) <;> (repeat' split) <;> simp (contextual := true) (maxDischargeDepth := 40) [h]))

@[simp↓] theorem ext_State_freeHandle (s : State) (i : Nat) (h : Ext r s) :
    Ext r (State.freeHandle s i) := by
  unfold State.freeHandle
  first
  | (simp (contextual := true) (maxDischargeDepth := 40) [h]; done)
  | ((repeat' split) <;> first | assumption | (simp (contextual := true) (maxDischargeDepth := 40) [h]; done) | ((simp (contextual := true) (maxDischargeDepth := 40) [h]) <;> (repeat' split) <;> simp (contextual := true) (maxDischargeDepth := 40) [h]))

@[simp↓] theorem ext_State_complete (s : State) (hh : U32) (status : Nat) (detail : Nat) (data : List Byte) (h : Ext r s) :
    Ext r (State.complete s hh status detail data) := by
  unfold State.complete
  first
  | (simp (contextual := true) (maxDischargeDepth := 40) [h]; done)
  | ((repeat' split) <;> first | assumption | (simp (contextual := true) (maxDischargeDepth := 40) [h]; done) | ((simp (contextual := true) (maxDischargeDepth := 40) [h]) <;> (repeat' split) <;> simp (contextual := true) (maxDischargeDepth := 40) [h]))

@[simp↓] theorem ext_State_progress (s : State) (hh : U32) (p : Nat) (h : Ext r s) :
    Ext r (State.progress s hh p) := by
  unfold State.progress
  first
  | (simp (contextual := true) (maxDischargeDepth := 40) [h]; done)
  | ((repeat' split) <;> first | assumption | (simp (contextual := true) (maxDischargeDepth := 40) [h]; done) | ((simp (contextual := true) (maxDischargeDepth := 40) [h]) <;> (repeat' split) <;> simp (contextual := true) (maxDischargeDepth := 40) [h]))

@[simp↓] theorem ext_State_closeHandlesOf (s : State) (src : Src) (h : Ext r s) :
    Ext r (State.closeHandlesOf s src) := by
  unfold State.closeHandlesOf
  first
  | (simp (contextual := true) (maxDischargeDepth := 40) [h]; done)
  | ((repeat' split) <;> first | assumption | (simp (contextual := true) (maxDischargeDepth := 40) [h]; done) | ((simp (contextual := true) (maxDischargeDepth := 40) [h]) <;> (repeat' split) <;> simp (contextual := true) (maxDischargeDepth := 40) [h]))

@[simp↓] theorem ext_State_atOrder (s : State) (k : Nat) (h : Ext r s) :
    Ext r (State.atOrder s k) := by
  unfold State.atOrder
  first
  | (simp (contextual := true) (maxDischargeDepth := 40) [h]; done)
  | ((repeat' split) <;> first | assumption | (simp (contextual := true) (maxDischargeDepth := 40) [h]; done) | ((simp (contextual := true) (maxDischargeDepth := 40) [h]) <;> (repeat' split) <;> simp (contextual := true) (maxDischargeDepth := 40) [h]))

@[simp↓] theorem ext_State_setPt (s : State) (p : Nat) (v : Point) (h : Ext r s) :
    Ext r (State.setPt s p v) := by
  unfold State.setPt
  first
  | (simp (contextual := true) (maxDischargeDepth := 40) [h]; done)
  | ((repeat' split) <;> first | assumption | (simp (contextual := true) (maxDischargeDepth := 40) [h]; done) | ((simp (contextual := true) (maxDischargeDepth := 40) [h]) <;> (repeat' split) <;> simp (contextual := true) (maxDischargeDepth := 40) [h]))

@[simp↓] theorem ext_State_took (s : State) (h : Ext r s) :
    Ext r (State.took s) := by
  unfold State.took
  first
  | (simp (contextual := true) (maxDischargeDepth := 40) [h]; done)
  | ((repeat' split) <;> first | assumption | (simp (contextual := true) (maxDischargeDepth := 40) [h]; done) | ((simp (contextual := true) (maxDischargeDepth := 40) [h]) <;> (repeat' split) <;> simp (contextual := true) (maxDischargeDepth := 40) [h]))

@[simp↓] theorem ext_State_closeEdge (s : State) (h : Ext r s) :
    Ext r (State.closeEdge s) := by
  unfold State.closeEdge
  first
  | (simp (contextual := true) (maxDischargeDepth := 40) [h]; done)
  | ((repeat' split) <;> first | assumption | (simp (contextual := true) (maxDischargeDepth := 40) [h]; done) | ((simp (contextual := true) (maxDischargeDepth := 40) [h]) <;> (repeat' split) <;> simp (contextual := true) (maxDischargeDepth := 40) [h]))

@[simp↓] theorem ext_State_unqueue (s : State) (hh : Hdr) (h : Ext r s) :
    Ext r (State.unqueue s hh) := by
  unfold State.unqueue
  first
  | (simp (contextual := true) (maxDischargeDepth := 40) [h]; done)
  | ((repeat' split) <;> first | assumption | (simp (contextual := true) (maxDischargeDepth := 40) [h]; done) | ((simp (contextual := true) (maxDischargeDepth := 40) [h]) <;> (repeat' split) <;> simp (contextual := true) (maxDischargeDepth := 40) [h]))

@[simp↓] theorem ext_State_take (s : State) (hh : Hdr) (h : Ext r s) :
    Ext r (State.take s hh) := by
  unfold State.take
  first
  | (simp (contextual := true) (maxDischargeDepth := 40) [h]; done)
  | ((repeat' split) <;> first | assumption | (simp (contextual := true) (maxDischargeDepth := 40) [h]; done) | ((simp (contextual := true) (maxDischargeDepth := 40) [h]) <;> (repeat' split) <;> simp (contextual := true) (maxDischargeDepth := 40) [h]))

@[simp↓] theorem ext_State_discardFrame (s : State) (hh : Hdr) (h : Ext r s) :
    Ext r (State.discardFrame s hh) := by
  unfold State.discardFrame
  first
  | (simp (contextual := true) (maxDischargeDepth := 40) [h]; done)
  | ((repeat' split) <;> first | assumption | (simp (contextual := true) (maxDischargeDepth := 40) [h]; done) | ((simp (contextual := true) (maxDischargeDepth := 40) [h]) <;> (repeat' split) <;> simp (contextual := true) (maxDischargeDepth := 40) [h]))


theorem Verdict.Extends.act {v : Verdict} (hv : v.Extends) {t : State} (h : Ext r t) : Ext r (v.act t) := hv r t h

@[simp↓] theorem ext_auditCmd (s : State) (c : CmdInfo) (hh : Hdr) (n : Nat) (d : List Byte × Bool) (v : Verdict)
    (h : Ext r s) : Ext r (s.auditCmd c hh n d v) := by
  unfold State.auditCmd; simp (maxDischargeDepth := 40) [h]

@[simp↓] theorem ext_reply (s : State) (hh : Hdr) (v : Verdict) (h : Ext r s) : Ext r (s.reply hh v) := by
  unfold State.reply; simp (maxDischargeDepth := 40) [h]

@[simp↓] theorem ext_finish (s : State) (c : CmdInfo) (hh : Hdr) (n : Nat) (d : List Byte × Bool) (v : Verdict)
    (hv : v.Extends) (h : Ext r s) : Ext r (s.finish c hh n d v) := by
  unfold State.finish; exact hv _ _ (by simp (maxDischargeDepth := 40) [h])

@[simp↓] theorem extends_judge (s : State) (c : CmdInfo) (hh : Hdr) (f : State → Verdict) (hf : ∀ t, (f t).Extends) :
    (s.judge c hh f).Extends := by
  unfold State.judge; split <;> simp [hf, extends_reject]

@[simp↓] theorem ext_command (s : State) (c : CmdInfo) (hh : Hdr) (n : Nat) (f : State → Verdict)
    (hf : ∀ t, (f t).Extends) (h : Ext r s) : Ext r (s.command c hh n f) := by
  unfold State.command; simp (maxDischargeDepth := 40) [h, hf]

@[simp↓] theorem extends_long (s : State) (hh : Hdr) (op : Nat) (act : U32 → State → State)
    (ha : ∀ r n t, Ext r t → Ext r (act n t)) : (s.long hh op act).Extends := by
  intro r t h
  unfold State.long; split
  · exact h
  · exact ha _ _ _ (by simp (maxDischargeDepth := 40) [h])

@[simp↓] theorem ext_echoVerdict (hh : Hdr) (bytes : List Byte) (s : State) :
    (echoVerdict hh bytes s).Extends := by
  unfold echoVerdict
  repeat' split
  all_goals first | (exact extends_reject _) | (simp (contextual := true) (maxDischargeDepth := 40) ; done) | (intro r t h; simp (contextual := true) (maxDischargeDepth := 40) [h]; done) | (dsimp only; (repeat' split) <;> simp (contextual := true) (maxDischargeDepth := 40))

theorem ext_execEcho (hh : Hdr) (bytes : List Byte) (s : State) (h : Ext r s) :
    ExtOut r (execEcho hh bytes s) := by
  unfold execEcho
  first
  | (simp (contextual := true) (maxDischargeDepth := 40) [h]; done)
  | (apply extOut_next; (repeat' split) <;> first | assumption | (simp (contextual := true) (maxDischargeDepth := 40) [h]; done) | ((simp (contextual := true) (maxDischargeDepth := 40) [h]) <;> (repeat' split) <;> simp (contextual := true) (maxDischargeDepth := 40) [h]))

theorem ext_execCommandUnknown (hh : Hdr) (opcode : Nat) (s : State) (h : Ext r s) :
    ExtOut r (execCommandUnknown hh opcode s) := by
  unfold execCommandUnknown
  apply extOut_next
  split
  · exact h
  split
  · exact ext_finish _ _ _ _ _ _ (extends_reject _) (by simp (contextual := true) (maxDischargeDepth := 40) [h])
  · simp (contextual := true) (maxDischargeDepth := 40) [h]

@[simp↓] theorem ext_handleQueryVerdict (hh : Hdr) (handle : U32) (s : State) :
    (handleQueryVerdict hh handle s).Extends := by
  unfold handleQueryVerdict
  dsimp only
  (repeat' split) <;> first | exact extends_reject _ | (intro r t h; simp (contextual := true) (maxDischargeDepth := 40) [h])

theorem ext_execHandleQuery (hh : Hdr) (handle : U32) (s : State) (h : Ext r s) :
    ExtOut r (execHandleQuery hh handle s) := by
  unfold execHandleQuery
  first
  | (simp (contextual := true) (maxDischargeDepth := 40) [h]; done)
  | (apply extOut_next; (repeat' split) <;> first | assumption | (simp (contextual := true) (maxDischargeDepth := 40) [h]; done) | ((simp (contextual := true) (maxDischargeDepth := 40) [h]) <;> (repeat' split) <;> simp (contextual := true) (maxDischargeDepth := 40) [h]))

@[simp↓] theorem ext_State_closeHandle (s : State) (handle : U32) (h : Ext r s) :
    Ext r (State.closeHandle s handle) := by
  unfold State.closeHandle
  first
  | (simp (contextual := true) (maxDischargeDepth := 40) [h]; done)
  | ((repeat' split) <;> first | assumption | (simp (contextual := true) (maxDischargeDepth := 40) [h]; done) | ((simp (contextual := true) (maxDischargeDepth := 40) [h]) <;> (repeat' split) <;> simp (contextual := true) (maxDischargeDepth := 40) [h]))

@[simp↓] theorem ext_handleCloseVerdict (hh : Hdr) (handle : U32) (s : State) :
    (handleCloseVerdict hh handle s).Extends := by
  unfold handleCloseVerdict
  repeat' split
  all_goals first | (exact extends_reject _) | (simp (contextual := true) (maxDischargeDepth := 40) ; done) | (intro r t h; simp (contextual := true) (maxDischargeDepth := 40) [h]; done) | (dsimp only; (repeat' split) <;> simp (contextual := true) (maxDischargeDepth := 40))

theorem ext_execHandleClose (hh : Hdr) (handle : U32) (s : State) (h : Ext r s) :
    ExtOut r (execHandleClose hh handle s) := by
  unfold execHandleClose
  first
  | (simp (contextual := true) (maxDischargeDepth := 40) [h]; done)
  | (apply extOut_next; (repeat' split) <;> first | assumption | (simp (contextual := true) (maxDischargeDepth := 40) [h]; done) | ((simp (contextual := true) (maxDischargeDepth := 40) [h]) <;> (repeat' split) <;> simp (contextual := true) (maxDischargeDepth := 40) [h]))

@[simp↓] theorem ext_alarmReadVerdict (hh : Hdr) (s : State) :
    (alarmReadVerdict hh s).Extends := by
  unfold alarmReadVerdict
  repeat' split
  all_goals first | (exact extends_reject _) | (simp (contextual := true) (maxDischargeDepth := 40) ; done) | (intro r t h; simp (contextual := true) (maxDischargeDepth := 40) [h]; done) | (dsimp only; (repeat' split) <;> simp (contextual := true) (maxDischargeDepth := 40))

theorem ext_execAlarmRead (hh : Hdr) (s : State) (h : Ext r s) :
    ExtOut r (execAlarmRead hh s) := by
  unfold execAlarmRead
  first
  | (simp (contextual := true) (maxDischargeDepth := 40) [h]; done)
  | (apply extOut_next; (repeat' split) <;> first | assumption | (simp (contextual := true) (maxDischargeDepth := 40) [h]; done) | ((simp (contextual := true) (maxDischargeDepth := 40) [h]) <;> (repeat' split) <;> simp (contextual := true) (maxDischargeDepth := 40) [h]))

@[simp↓] theorem ext_alarmAckVerdict (all : Bool) (keys : List U64) (s : State) :
    (alarmAckVerdict all keys s).Extends := by
  unfold alarmAckVerdict
  repeat' split
  all_goals first | (exact extends_reject _) | (simp (contextual := true) (maxDischargeDepth := 40) ; done) | (intro r t h; simp (contextual := true) (maxDischargeDepth := 40) [h]; done) | (dsimp only; (repeat' split) <;> simp (contextual := true) (maxDischargeDepth := 40))

theorem ext_execAlarmAck (hh : Hdr) (all : Bool) (keys : List U64) (s : State) (h : Ext r s) :
    ExtOut r (execAlarmAck hh all keys s) := by
  unfold execAlarmAck
  first
  | (simp (contextual := true) (maxDischargeDepth := 40) [h]; done)
  | (apply extOut_next; (repeat' split) <;> first | assumption | (simp (contextual := true) (maxDischargeDepth := 40) [h]; done) | ((simp (contextual := true) (maxDischargeDepth := 40) [h]) <;> (repeat' split) <;> simp (contextual := true) (maxDischargeDepth := 40) [h]))

@[simp↓] theorem ext_State_setFch (s : State) (c : Nat) (v : FrameCh) (h : Ext r s) :
    Ext r (State.setFch s c v) := by
  unfold State.setFch
  first
  | (simp (contextual := true) (maxDischargeDepth := 40) [h]; done)
  | ((repeat' split) <;> first | assumption | (simp (contextual := true) (maxDischargeDepth := 40) [h]; done) | ((simp (contextual := true) (maxDischargeDepth := 40) [h]) <;> (repeat' split) <;> simp (contextual := true) (maxDischargeDepth := 40) [h]))

@[simp↓] theorem ext_frameChOpenVerdict (hh : Hdr) (ch : Nat) (mask : BitVec 16) (s : State) :
    (frameChOpenVerdict hh ch mask s).Extends := by
  unfold frameChOpenVerdict
  repeat' split
  all_goals first | (exact extends_reject _) | (simp (contextual := true) (maxDischargeDepth := 40) ; done) | (intro r t h; simp (contextual := true) (maxDischargeDepth := 40) [h]; done) | (dsimp only; (repeat' split) <;> simp (contextual := true) (maxDischargeDepth := 40))

theorem ext_execFrameChOpen (hh : Hdr) (ch : Nat) (mask : BitVec 16) (s : State) (h : Ext r s) :
    ExtOut r (execFrameChOpen hh ch mask s) := by
  unfold execFrameChOpen
  first
  | (simp (contextual := true) (maxDischargeDepth := 40) [h]; done)
  | (apply extOut_next; (repeat' split) <;> first | assumption | (simp (contextual := true) (maxDischargeDepth := 40) [h]; done) | ((simp (contextual := true) (maxDischargeDepth := 40) [h]) <;> (repeat' split) <;> simp (contextual := true) (maxDischargeDepth := 40) [h]))

@[simp↓] theorem ext_frameChCloseVerdict (ch : Nat) (s : State) :
    (frameChCloseVerdict ch s).Extends := by
  unfold frameChCloseVerdict
  repeat' split
  all_goals first | (exact extends_reject _) | (simp (contextual := true) (maxDischargeDepth := 40) ; done) | (intro r t h; simp (contextual := true) (maxDischargeDepth := 40) [h]; done) | (dsimp only; (repeat' split) <;> simp (contextual := true) (maxDischargeDepth := 40))

theorem ext_execFrameChClose (hh : Hdr) (ch : Nat) (s : State) (h : Ext r s) :
    ExtOut r (execFrameChClose hh ch s) := by
  unfold execFrameChClose
  first
  | (simp (contextual := true) (maxDischargeDepth := 40) [h]; done)
  | (apply extOut_next; (repeat' split) <;> first | assumption | (simp (contextual := true) (maxDischargeDepth := 40) [h]; done) | ((simp (contextual := true) (maxDischargeDepth := 40) [h]) <;> (repeat' split) <;> simp (contextual := true) (maxDischargeDepth := 40) [h]))

@[simp↓] theorem ext_State_ringSq (s : State) (q : Nat) (idx : U32) (h : Ext r s) :
    Ext r (State.ringSq s q idx) := by
  unfold State.ringSq
  first
  | (simp (contextual := true) (maxDischargeDepth := 40) [h]; done)
  | ((repeat' split) <;> first | assumption | (simp (contextual := true) (maxDischargeDepth := 40) [h]; done) | ((simp (contextual := true) (maxDischargeDepth := 40) [h]) <;> (repeat' split) <;> simp (contextual := true) (maxDischargeDepth := 40) [h]))

theorem ext_execSqTail (q : Nat) (idx : U32) (s : State) (h : Ext r s) :
    ExtOut r (execSqTail q idx s) := by
  unfold execSqTail
  first
  | (simp (contextual := true) (maxDischargeDepth := 40) [h]; done)
  | (apply extOut_next; (repeat' split) <;> first | assumption | (simp (contextual := true) (maxDischargeDepth := 40) [h]; done) | ((simp (contextual := true) (maxDischargeDepth := 40) [h]) <;> (repeat' split) <;> simp (contextual := true) (maxDischargeDepth := 40) [h]))

@[simp↓] theorem ext_State_ringCq (s : State) (q : Nat) (idx : U32) (h : Ext r s) :
    Ext r (State.ringCq s q idx) := by
  unfold State.ringCq
  first
  | (simp (contextual := true) (maxDischargeDepth := 40) [h]; done)
  | ((repeat' split) <;> first | assumption | (simp (contextual := true) (maxDischargeDepth := 40) [h]; done) | ((simp (contextual := true) (maxDischargeDepth := 40) [h]) <;> (repeat' split) <;> simp (contextual := true) (maxDischargeDepth := 40) [h]))

theorem ext_execCqHead (q : Nat) (idx : U32) (s : State) (h : Ext r s) :
    ExtOut r (execCqHead q idx s) := by
  unfold execCqHead
  first
  | (simp (contextual := true) (maxDischargeDepth := 40) [h]; done)
  | (apply extOut_next; (repeat' split) <;> first | assumption | (simp (contextual := true) (maxDischargeDepth := 40) [h]; done) | ((simp (contextual := true) (maxDischargeDepth := 40) [h]) <;> (repeat' split) <;> simp (contextual := true) (maxDischargeDepth := 40) [h]))

@[simp↓] theorem ext_State_enableQueue (s : State) (q : Nat) (h : Ext r s) :
    Ext r (State.enableQueue s q) := by
  unfold State.enableQueue
  first
  | (simp (contextual := true) (maxDischargeDepth := 40) [h]; done)
  | ((repeat' split) <;> first | assumption | (simp (contextual := true) (maxDischargeDepth := 40) [h]; done) | ((simp (contextual := true) (maxDischargeDepth := 40) [h]) <;> (repeat' split) <;> simp (contextual := true) (maxDischargeDepth := 40) [h]))

theorem ext_execQueueEnable (q : Nat) (s : State) (h : Ext r s) :
    ExtOut r (execQueueEnable q s) := by
  unfold execQueueEnable
  first
  | (simp (contextual := true) (maxDischargeDepth := 40) [h]; done)
  | (apply extOut_next; (repeat' split) <;> first | assumption | (simp (contextual := true) (maxDischargeDepth := 40) [h]; done) | ((simp (contextual := true) (maxDischargeDepth := 40) [h]) <;> (repeat' split) <;> simp (contextual := true) (maxDischargeDepth := 40) [h]))

@[simp↓] theorem ext_State_dropMakers (s : State) (h : Ext r s) :
    Ext r (State.dropMakers s) := by
  unfold State.dropMakers
  first
  | (simp (contextual := true) (maxDischargeDepth := 40) [h]; done)
  | ((repeat' split) <;> first | assumption | (simp (contextual := true) (maxDischargeDepth := 40) [h]; done) | ((simp (contextual := true) (maxDischargeDepth := 40) [h]) <;> (repeat' split) <;> simp (contextual := true) (maxDischargeDepth := 40) [h]))

@[simp↓] theorem ext_State_dropStaging (s : State) (src : Src) (h : Ext r s) :
    Ext r (State.dropStaging s src) := by
  unfold State.dropStaging
  first
  | (simp (contextual := true) (maxDischargeDepth := 40) [h]; done)
  | ((repeat' split) <;> first | assumption | (simp (contextual := true) (maxDischargeDepth := 40) [h]; done) | ((simp (contextual := true) (maxDischargeDepth := 40) [h]) <;> (repeat' split) <;> simp (contextual := true) (maxDischargeDepth := 40) [h]))

@[simp↓] theorem ext_State_unbindQueue (s : State) (q : Nat) (h : Ext r s) :
    Ext r (State.unbindQueue s q) := by
  unfold State.unbindQueue
  first
  | (simp (contextual := true) (maxDischargeDepth := 40) [h]; done)
  | ((repeat' split) <;> first | assumption | (simp (contextual := true) (maxDischargeDepth := 40) [h]; done) | ((simp (contextual := true) (maxDischargeDepth := 40) [h]) <;> (repeat' split) <;> simp (contextual := true) (maxDischargeDepth := 40) [h]))

@[simp↓] theorem ext_State_disableQueue (s : State) (q : Nat) (h : Ext r s) :
    Ext r (State.disableQueue s q) := by
  unfold State.disableQueue
  first
  | (simp (contextual := true) (maxDischargeDepth := 40) [h]; done)
  | ((repeat' split) <;> first | assumption | (simp (contextual := true) (maxDischargeDepth := 40) [h]; done) | ((simp (contextual := true) (maxDischargeDepth := 40) [h]) <;> (repeat' split) <;> simp (contextual := true) (maxDischargeDepth := 40) [h]))

theorem ext_execQueueDisable (q : Nat) (s : State) (h : Ext r s) :
    ExtOut r (execQueueDisable q s) := by
  unfold execQueueDisable
  first
  | (simp (contextual := true) (maxDischargeDepth := 40) [h]; done)
  | (apply extOut_next; (repeat' split) <;> first | assumption | (simp (contextual := true) (maxDischargeDepth := 40) [h]; done) | ((simp (contextual := true) (maxDischargeDepth := 40) [h]) <;> (repeat' split) <;> simp (contextual := true) (maxDischargeDepth := 40) [h]))

theorem ext_execQueueLostPost (q : Nat) (s : State) (h : Ext r s) :
    ExtOut r (execQueueLostPost q s) := by
  unfold execQueueLostPost
  first
  | (simp (contextual := true) (maxDischargeDepth := 40) [h]; done)
  | (apply extOut_next; (repeat' split) <;> first | assumption | (simp (contextual := true) (maxDischargeDepth := 40) [h]; done) | ((simp (contextual := true) (maxDischargeDepth := 40) [h]) <;> (repeat' split) <;> simp (contextual := true) (maxDischargeDepth := 40) [h]))

@[simp↓] theorem ext_State_setItem (s : State) (l : U64) (k : KeyItem) (h : Ext r s) :
    Ext r (State.setItem s l k) := by
  unfold State.setItem
  first
  | (simp (contextual := true) (maxDischargeDepth := 40) [h]; done)
  | ((repeat' split) <;> first | assumption | (simp (contextual := true) (maxDischargeDepth := 40) [h]; done) | ((simp (contextual := true) (maxDischargeDepth := 40) [h]) <;> (repeat' split) <;> simp (contextual := true) (maxDischargeDepth := 40) [h]))

@[simp↓] theorem ext_State_dropItem (s : State) (l : U64) (h : Ext r s) :
    Ext r (State.dropItem s l) := by
  unfold State.dropItem
  first
  | (simp (contextual := true) (maxDischargeDepth := 40) [h]; done)
  | ((repeat' split) <;> first | assumption | (simp (contextual := true) (maxDischargeDepth := 40) [h]; done) | ((simp (contextual := true) (maxDischargeDepth := 40) [h]) <;> (repeat' split) <;> simp (contextual := true) (maxDischargeDepth := 40) [h]))

@[simp↓] theorem ext_State_setPort (s : State) (p : Nat) (v : PortSt1) (h : Ext r s) :
    Ext r (State.setPort s p v) := by
  unfold State.setPort
  first
  | (simp (contextual := true) (maxDischargeDepth := 40) [h]; done)
  | ((repeat' split) <;> first | assumption | (simp (contextual := true) (maxDischargeDepth := 40) [h]; done) | ((simp (contextual := true) (maxDischargeDepth := 40) [h]) <;> (repeat' split) <;> simp (contextual := true) (maxDischargeDepth := 40) [h]))

@[simp↓] theorem ext_State_bumpAn (s : State) (l : U64) (h : Ext r s) :
    Ext r (State.bumpAn s l) := by
  unfold State.bumpAn
  first
  | (simp (contextual := true) (maxDischargeDepth := 40) [h]; done)
  | ((repeat' split) <;> first | assumption | (simp (contextual := true) (maxDischargeDepth := 40) [h]; done) | ((simp (contextual := true) (maxDischargeDepth := 40) [h]) <;> (repeat' split) <;> simp (contextual := true) (maxDischargeDepth := 40) [h]))

@[simp↓] theorem ext_State_freshRx (s : State) (l : U64) (first : Bool) (h : Ext r s) :
    Ext r (State.freshRx s l first) := by
  unfold State.freshRx
  first
  | (simp (contextual := true) (maxDischargeDepth := 40) [h]; done)
  | ((repeat' split) <;> first | assumption | (simp (contextual := true) (maxDischargeDepth := 40) [h]; done) | ((simp (contextual := true) (maxDischargeDepth := 40) [h]) <;> (repeat' split) <;> simp (contextual := true) (maxDischargeDepth := 40) [h]))

@[simp↓] theorem ext_State_auditKey (s : State) (l : U64) (status : Nat) (data : List Byte) (h : Ext r s) :
    Ext r (State.auditKey s l status data) := by
  unfold State.auditKey
  first
  | (simp (contextual := true) (maxDischargeDepth := 40) [h]; done)
  | ((repeat' split) <;> first | assumption | (simp (contextual := true) (maxDischargeDepth := 40) [h]; done) | ((simp (contextual := true) (maxDischargeDepth := 40) [h]) <;> (repeat' split) <;> simp (contextual := true) (maxDischargeDepth := 40) [h]))

@[simp↓] theorem ext_State_closeSession (s : State) (n : Nat) (h : Ext r s) :
    Ext r (State.closeSession s n) := by
  unfold State.closeSession
  first
  | (simp (contextual := true) (maxDischargeDepth := 40) [h]; done)
  | ((repeat' split) <;> first | assumption | (simp (contextual := true) (maxDischargeDepth := 40) [h]; done) | ((simp (contextual := true) (maxDischargeDepth := 40) [h]) <;> (repeat' split) <;> simp (contextual := true) (maxDischargeDepth := 40) [h]))

@[simp↓] theorem ext_State_endBinding (s : State) (src : Src) (h : Ext r s) :
    Ext r (State.endBinding s src) := by
  unfold State.endBinding
  first
  | (simp (contextual := true) (maxDischargeDepth := 40) [h]; done)
  | ((repeat' split) <;> first | assumption | (simp (contextual := true) (maxDischargeDepth := 40) [h]; done) | ((simp (contextual := true) (maxDischargeDepth := 40) [h]) <;> (repeat' split) <;> simp (contextual := true) (maxDischargeDepth := 40) [h]))

@[simp↓] theorem ext_State_endBindings (s : State) (f : Binding → Bool) (h : Ext r s) :
    Ext r (State.endBindings s f) := by
  unfold State.endBindings
  apply ext_foldl h
  intro a x ha
  split
  · split
    · simp (contextual := true) (maxDischargeDepth := 40) [ha]
    · exact ha
  · exact ha

@[simp↓] theorem ext_State_scrubCur (s : State) (l : U64) (h : Ext r s) :
    Ext r (State.scrubCur s l) := by
  unfold State.scrubCur
  first
  | (simp (contextual := true) (maxDischargeDepth := 40) [h]; done)
  | ((repeat' split) <;> first | assumption | (simp (contextual := true) (maxDischargeDepth := 40) [h]; done) | ((simp (contextual := true) (maxDischargeDepth := 40) [h]) <;> (repeat' split) <;> simp (contextual := true) (maxDischargeDepth := 40) [h]))

@[simp↓] theorem ext_State_scrubPrev (s : State) (l : U64) (h : Ext r s) :
    Ext r (State.scrubPrev s l) := by
  unfold State.scrubPrev
  first
  | (simp (contextual := true) (maxDischargeDepth := 40) [h]; done)
  | ((repeat' split) <;> first | assumption | (simp (contextual := true) (maxDischargeDepth := 40) [h]; done) | ((simp (contextual := true) (maxDischargeDepth := 40) [h]) <;> (repeat' split) <;> simp (contextual := true) (maxDischargeDepth := 40) [h]))

@[simp↓] theorem ext_State_scrub (s : State) (curBad : List U64) (prevBad : List U64) (h : Ext r s) :
    Ext r (State.scrub s curBad prevBad) := by
  unfold State.scrub
  first
  | (simp (contextual := true) (maxDischargeDepth := 40) [h]; done)
  | ((repeat' split) <;> first | assumption | (simp (contextual := true) (maxDischargeDepth := 40) [h]; done) | ((simp (contextual := true) (maxDischargeDepth := 40) [h]) <;> (repeat' split) <;> simp (contextual := true) (maxDischargeDepth := 40) [h]))

@[simp↓] theorem ext_State_refreshPorts (s : State) (h : Ext r s) :
    Ext r (State.refreshPorts s) := by
  unfold State.refreshPorts
  first
  | (simp (contextual := true) (maxDischargeDepth := 40) [h]; done)
  | ((repeat' split) <;> first | assumption | (simp (contextual := true) (maxDischargeDepth := 40) [h]; done) | ((simp (contextual := true) (maxDischargeDepth := 40) [h]) <;> (repeat' split) <;> simp (contextual := true) (maxDischargeDepth := 40) [h]))

@[simp↓] theorem ext_State_setBase (s : State) (b : Nat) (v : TimeBase) (h : Ext r s) :
    Ext r (State.setBase s b v) := by
  unfold State.setBase
  first
  | (simp (contextual := true) (maxDischargeDepth := 40) [h]; done)
  | ((repeat' split) <;> first | assumption | (simp (contextual := true) (maxDischargeDepth := 40) [h]; done) | ((simp (contextual := true) (maxDischargeDepth := 40) [h]) <;> (repeat' split) <;> simp (contextual := true) (maxDischargeDepth := 40) [h]))

@[simp↓] theorem ext_State_loadTb2 (s : State) (h : Ext r s) :
    Ext r (State.loadTb2 s) := by
  unfold State.loadTb2
  first
  | (simp (contextual := true) (maxDischargeDepth := 40) [h]; done)
  | ((repeat' split) <;> first | assumption | (simp (contextual := true) (maxDischargeDepth := 40) [h]; done) | ((simp (contextual := true) (maxDischargeDepth := 40) [h]) <;> (repeat' split) <;> simp (contextual := true) (maxDischargeDepth := 40) [h]))

@[simp↓] theorem ext_State_updIsland (s : State) (h : Ext r s) :
    Ext r (State.updIsland s) := by
  unfold State.updIsland
  first
  | (simp (contextual := true) (maxDischargeDepth := 40) [h]; done)
  | ((repeat' split) <;> first | assumption | (simp (contextual := true) (maxDischargeDepth := 40) [h]; done) | ((simp (contextual := true) (maxDischargeDepth := 40) [h]) <;> (repeat' split) <;> simp (contextual := true) (maxDischargeDepth := 40) [h]))

@[simp↓] theorem ext_State_markIsland (s : State) (h : Ext r s) :
    Ext r (State.markIsland s) := by
  unfold State.markIsland
  first
  | (simp (contextual := true) (maxDischargeDepth := 40) [h]; done)
  | ((repeat' split) <;> first | assumption | (simp (contextual := true) (maxDischargeDepth := 40) [h]; done) | ((simp (contextual := true) (maxDischargeDepth := 40) [h]) <;> (repeat' split) <;> simp (contextual := true) (maxDischargeDepth := 40) [h]))

@[simp↓] theorem ext_State_stampStart (s : State) (e : Nat) (h : Ext r s) :
    Ext r (State.stampStart s e) := by
  unfold State.stampStart
  first
  | (simp (contextual := true) (maxDischargeDepth := 40) [h]; done)
  | ((repeat' split) <;> first | assumption | (simp (contextual := true) (maxDischargeDepth := 40) [h]; done) | ((simp (contextual := true) (maxDischargeDepth := 40) [h]) <;> (repeat' split) <;> simp (contextual := true) (maxDischargeDepth := 40) [h]))

@[simp↓] theorem ext_State_startT0 (s : State) (b : Nat) (h : Ext r s) :
    Ext r (State.startT0 s b) := by
  unfold State.startT0
  first
  | (simp (contextual := true) (maxDischargeDepth := 40) [h]; done)
  | ((repeat' split) <;> first | assumption | (simp (contextual := true) (maxDischargeDepth := 40) [h]; done) | ((simp (contextual := true) (maxDischargeDepth := 40) [h]) <;> (repeat' split) <;> simp (contextual := true) (maxDischargeDepth := 40) [h]))

@[simp↓] theorem ext_State_tryStart (s : State) (h : Ext r s) :
    Ext r (State.tryStart s) := by
  unfold State.tryStart
  first
  | (simp (contextual := true) (maxDischargeDepth := 40) [h]; done)
  | ((repeat' split) <;> first | assumption | (simp (contextual := true) (maxDischargeDepth := 40) [h]; done) | ((simp (contextual := true) (maxDischargeDepth := 40) [h]) <;> (repeat' split) <;> simp (contextual := true) (maxDischargeDepth := 40) [h]))

@[simp↓] theorem ext_State_advanceTime (s : State) (h : Ext r s) :
    Ext r (State.advanceTime s) := by
  unfold State.advanceTime
  first
  | (simp (contextual := true) (maxDischargeDepth := 40) [h]; done)
  | ((repeat' split) <;> first | assumption | (simp (contextual := true) (maxDischargeDepth := 40) [h]; done) | ((simp (contextual := true) (maxDischargeDepth := 40) [h]) <;> (repeat' split) <;> simp (contextual := true) (maxDischargeDepth := 40) [h]))

@[simp↓] theorem ext_State_wantMerge (s : State) (b : Nat) (h : Ext r s) :
    Ext r (State.wantMerge s b) := by
  unfold State.wantMerge
  first
  | (simp (contextual := true) (maxDischargeDepth := 40) [h]; done)
  | ((repeat' split) <;> first | assumption | (simp (contextual := true) (maxDischargeDepth := 40) [h]; done) | ((simp (contextual := true) (maxDischargeDepth := 40) [h]) <;> (repeat' split) <;> simp (contextual := true) (maxDischargeDepth := 40) [h]))

@[simp↓] theorem ext_State_stopMerge (s : State) (h : Ext r s) :
    Ext r (State.stopMerge s) := by
  unfold State.stopMerge
  first
  | (simp (contextual := true) (maxDischargeDepth := 40) [h]; done)
  | ((repeat' split) <;> first | assumption | (simp (contextual := true) (maxDischargeDepth := 40) [h]; done) | ((simp (contextual := true) (maxDischargeDepth := 40) [h]) <;> (repeat' split) <;> simp (contextual := true) (maxDischargeDepth := 40) [h]))

@[simp↓] theorem ext_State_toTb1 (s : State) (h : Ext r s) :
    Ext r (State.toTb1 s) := by
  unfold State.toTb1
  first
  | (simp (contextual := true) (maxDischargeDepth := 40) [h]; done)
  | ((repeat' split) <;> first | assumption | (simp (contextual := true) (maxDischargeDepth := 40) [h]; done) | ((simp (contextual := true) (maxDischargeDepth := 40) [h]) <;> (repeat' split) <;> simp (contextual := true) (maxDischargeDepth := 40) [h]))

@[simp↓] theorem ext_State_tb0Free (s : State) (h : Ext r s) :
    Ext r (State.tb0Free s) := by
  unfold State.tb0Free
  first
  | (simp (contextual := true) (maxDischargeDepth := 40) [h]; done)
  | ((repeat' split) <;> first | assumption | (simp (contextual := true) (maxDischargeDepth := 40) [h]; done) | ((simp (contextual := true) (maxDischargeDepth := 40) [h]) <;> (repeat' split) <;> simp (contextual := true) (maxDischargeDepth := 40) [h]))

@[simp↓] theorem ext_State_timeCommitted (s : State) (old : State) (h : Ext r s) :
    Ext r (State.timeCommitted s old) := by
  unfold State.timeCommitted
  first
  | (simp (contextual := true) (maxDischargeDepth := 40) [h]; done)
  | ((repeat' split) <;> first | assumption | (simp (contextual := true) (maxDischargeDepth := 40) [h]; done) | ((simp (contextual := true) (maxDischargeDepth := 40) [h]) <;> (repeat' split) <;> simp (contextual := true) (maxDischargeDepth := 40) [h]))

@[simp↓] theorem ext_State_sendPlain (s : State) (p : Nat) (ethertype : Nat) (dst : BitVec 48) (bytes : List Byte) (h : Ext r s) :
    Ext r (State.sendPlain s p ethertype dst bytes) := by
  unfold State.sendPlain
  first
  | (simp (contextual := true) (maxDischargeDepth := 40) [h]; done)
  | ((repeat' split) <;> first | assumption | (simp (contextual := true) (maxDischargeDepth := 40) [h]; done) | ((simp (contextual := true) (maxDischargeDepth := 40) [h]) <;> (repeat' split) <;> simp (contextual := true) (maxDischargeDepth := 40) [h]))

@[simp↓] theorem ext_State_sendOn (s : State) (p : Nat) (ethertype : Nat) (dst : BitVec 48) (bytes : List Byte) (h : Ext r s) :
    Ext r (State.sendOn s p ethertype dst bytes) := by
  unfold State.sendOn
  first
  | (simp (contextual := true) (maxDischargeDepth := 40) [h]; done)
  | ((repeat' split) <;> first | assumption | (simp (contextual := true) (maxDischargeDepth := 40) [h]; done) | ((simp (contextual := true) (maxDischargeDepth := 40) [h]) <;> (repeat' split) <;> simp (contextual := true) (maxDischargeDepth := 40) [h]))

@[simp↓] theorem ext_State_sendRing (s : State) (ethertype : Nat) (dst : BitVec 48) (bytes : List Byte) (h : Ext r s) :
    Ext r (State.sendRing s ethertype dst bytes) := by
  unfold State.sendRing
  first
  | (simp (contextual := true) (maxDischargeDepth := 40) [h]; done)
  | ((repeat' split) <;> first | assumption | (simp (contextual := true) (maxDischargeDepth := 40) [h]; done) | ((simp (contextual := true) (maxDischargeDepth := 40) [h]) <;> (repeat' split) <;> simp (contextual := true) (maxDischargeDepth := 40) [h]))

@[simp↓] theorem ext_State_timeSetTo (s : State) (ns : Nat) (h : Ext r s) :
    Ext r (State.timeSetTo s ns) := by
  unfold State.timeSetTo
  first
  | (simp (contextual := true) (maxDischargeDepth := 40) [h]; done)
  | ((repeat' split) <;> first | assumption | (simp (contextual := true) (maxDischargeDepth := 40) [h]; done) | ((simp (contextual := true) (maxDischargeDepth := 40) [h]) <;> (repeat' split) <;> simp (contextual := true) (maxDischargeDepth := 40) [h]))

theorem ext_execTimeSet (hh : Hdr) (ns : Nat) (s : State) (h : Ext r s) :
    ExtOut r (execTimeSet hh ns s) := by
  unfold execTimeSet
  first
  | (simp (contextual := true) (maxDischargeDepth := 40) [h]; done)
  | (apply extOut_next; (repeat' split) <;> first | assumption | (simp (contextual := true) (maxDischargeDepth := 40) [h]; done) | ((simp (contextual := true) (maxDischargeDepth := 40) [h]) <;> (repeat' split) <;> simp (contextual := true) (maxDischargeDepth := 40) [h]))

theorem ext_execTimeTest (hh : Hdr) (ns : Nat) (s : State) (h : Ext r s) :
    ExtOut r (execTimeTest hh ns s) := by
  unfold execTimeTest
  first
  | (simp (contextual := true) (maxDischargeDepth := 40) [h]; done)
  | (apply extOut_next; (repeat' split) <;> first | assumption | (simp (contextual := true) (maxDischargeDepth := 40) [h]; done) | ((simp (contextual := true) (maxDischargeDepth := 40) [h]) <;> (repeat' split) <;> simp (contextual := true) (maxDischargeDepth := 40) [h]))

@[simp↓] theorem ext_State_tb0Measured (s : State) (offset : ℤ) (freq : ℤ) (fs : Nat) (h : Ext r s) :
    Ext r (State.tb0Measured s offset freq fs) := by
  unfold State.tb0Measured
  first
  | (simp (contextual := true) (maxDischargeDepth := 40) [h]; done)
  | ((repeat' split) <;> first | assumption | (simp (contextual := true) (maxDischargeDepth := 40) [h]; done) | ((simp (contextual := true) (maxDischargeDepth := 40) [h]) <;> (repeat' split) <;> simp (contextual := true) (maxDischargeDepth := 40) [h]))

@[simp↓] theorem ext_State_announced (s : State) (m : PtpMsg) (h : Ext r s) :
    Ext r (State.announced s m) := by
  unfold State.announced
  first
  | (simp (contextual := true) (maxDischargeDepth := 40) [h]; done)
  | ((repeat' split) <;> first | assumption | (simp (contextual := true) (maxDischargeDepth := 40) [h]; done) | ((simp (contextual := true) (maxDischargeDepth := 40) [h]) <;> (repeat' split) <;> simp (contextual := true) (maxDischargeDepth := 40) [h]))

@[simp↓] theorem ext_State_announceRx (s : State) (m : PtpMsg) (h : Ext r s) :
    Ext r (State.announceRx s m) := by
  unfold State.announceRx
  first
  | (simp (contextual := true) (maxDischargeDepth := 40) [h]; done)
  | ((repeat' split) <;> first | assumption | (simp (contextual := true) (maxDischargeDepth := 40) [h]; done) | ((simp (contextual := true) (maxDischargeDepth := 40) [h]) <;> (repeat' split) <;> simp (contextual := true) (maxDischargeDepth := 40) [h]))

theorem ext_execPtpMessageRx (m : PtpMsg) (s : State) (h : Ext r s) :
    ExtOut r (execPtpMessageRx m s) := by
  unfold execPtpMessageRx
  first
  | (simp (contextual := true) (maxDischargeDepth := 40) [h]; done)
  | (apply extOut_next; (repeat' split) <;> first | assumption | (simp (contextual := true) (maxDischargeDepth := 40) [h]; done) | ((simp (contextual := true) (maxDischargeDepth := 40) [h]) <;> (repeat' split) <;> simp (contextual := true) (maxDischargeDepth := 40) [h]))

theorem ext_execAnnounceReceiptTimeout (s : State) (h : Ext r s) :
    ExtOut r (execAnnounceReceiptTimeout s) := by
  unfold execAnnounceReceiptTimeout
  first
  | (simp (contextual := true) (maxDischargeDepth := 40) [h]; done)
  | (apply extOut_next; (repeat' split) <;> first | assumption | (simp (contextual := true) (maxDischargeDepth := 40) [h]; done) | ((simp (contextual := true) (maxDischargeDepth := 40) [h]) <;> (repeat' split) <;> simp (contextual := true) (maxDischargeDepth := 40) [h]))

theorem ext_execPtpMessageTx (port : Nat) (kind : Nat) (s : State) (h : Ext r s) :
    ExtOut r (execPtpMessageTx port kind s) := by
  unfold execPtpMessageTx
  first
  | (simp (contextual := true) (maxDischargeDepth := 40) [h]; done)
  | (apply extOut_next; (repeat' split) <;> first | assumption | (simp (contextual := true) (maxDischargeDepth := 40) [h]; done) | ((simp (contextual := true) (maxDischargeDepth := 40) [h]) <;> (repeat' split) <;> simp (contextual := true) (maxDischargeDepth := 40) [h]))

theorem ext_execPpsInEdge (offsetNs : ℤ) (freq : ℤ) (s : State) (h : Ext r s) :
    ExtOut r (execPpsInEdge offsetNs freq s) := by
  unfold execPpsInEdge
  first
  | (simp (contextual := true) (maxDischargeDepth := 40) [h]; done)
  | (apply extOut_next; (repeat' split) <;> first | assumption | (simp (contextual := true) (maxDischargeDepth := 40) [h]; done) | ((simp (contextual := true) (maxDischargeDepth := 40) [h]) <;> (repeat' split) <;> simp (contextual := true) (maxDischargeDepth := 40) [h]))

theorem ext_execPpsOutPulse (s : State) (h : Ext r s) :
    ExtOut r (execPpsOutPulse s) := by
  unfold execPpsOutPulse
  first
  | (simp (contextual := true) (maxDischargeDepth := 40) [h]; done)
  | (apply extOut_next; (repeat' split) <;> first | assumption | (simp (contextual := true) (maxDischargeDepth := 40) [h]; done) | ((simp (contextual := true) (maxDischargeDepth := 40) [h]) <;> (repeat' split) <;> simp (contextual := true) (maxDischargeDepth := 40) [h]))

@[simp↓] theorem ext_State_ppsFall (s : State) (h : Ext r s) :
    Ext r (State.ppsFall s) := by
  unfold State.ppsFall
  first
  | (simp (contextual := true) (maxDischargeDepth := 40) [h]; done)
  | ((repeat' split) <;> first | assumption | (simp (contextual := true) (maxDischargeDepth := 40) [h]; done) | ((simp (contextual := true) (maxDischargeDepth := 40) [h]) <;> (repeat' split) <;> simp (contextual := true) (maxDischargeDepth := 40) [h]))

@[simp↓] theorem ext_State_tb0Locked (s : State) (h : Ext r s) :
    Ext r (State.tb0Locked s) := by
  unfold State.tb0Locked
  first
  | (simp (contextual := true) (maxDischargeDepth := 40) [h]; done)
  | ((repeat' split) <;> first | assumption | (simp (contextual := true) (maxDischargeDepth := 40) [h]; done) | ((simp (contextual := true) (maxDischargeDepth := 40) [h]) <;> (repeat' split) <;> simp (contextual := true) (maxDischargeDepth := 40) [h]))

theorem ext_execTb0Lock (s : State) (h : Ext r s) :
    ExtOut r (execTb0Lock s) := by
  unfold execTb0Lock
  first
  | (simp (contextual := true) (maxDischargeDepth := 40) [h]; done)
  | (apply extOut_next; (repeat' split) <;> first | assumption | (simp (contextual := true) (maxDischargeDepth := 40) [h]; done) | ((simp (contextual := true) (maxDischargeDepth := 40) [h]) <;> (repeat' split) <;> simp (contextual := true) (maxDischargeDepth := 40) [h]))

theorem ext_execTb0SyncLoss (s : State) (h : Ext r s) :
    ExtOut r (execTb0SyncLoss s) := by
  unfold execTb0SyncLoss
  first
  | (simp (contextual := true) (maxDischargeDepth := 40) [h]; done)
  | (apply extOut_next; (repeat' split) <;> first | assumption | (simp (contextual := true) (maxDischargeDepth := 40) [h]; done) | ((simp (contextual := true) (maxDischargeDepth := 40) [h]) <;> (repeat' split) <;> simp (contextual := true) (maxDischargeDepth := 40) [h]))

theorem ext_execStartWaitExpire (s : State) (h : Ext r s) :
    ExtOut r (execStartWaitExpire s) := by
  unfold execStartWaitExpire
  first
  | (simp (contextual := true) (maxDischargeDepth := 40) [h]; done)
  | (apply extOut_next; (repeat' split) <;> first | assumption | (simp (contextual := true) (maxDischargeDepth := 40) [h]; done) | ((simp (contextual := true) (maxDischargeDepth := 40) [h]) <;> (repeat' split) <;> simp (contextual := true) (maxDischargeDepth := 40) [h]))

@[simp↓] theorem ext_State_mergeStart (s : State) (h : Ext r s) :
    Ext r (State.mergeStart s) := by
  unfold State.mergeStart
  first
  | (simp (contextual := true) (maxDischargeDepth := 40) [h]; done)
  | ((repeat' split) <;> first | assumption | (simp (contextual := true) (maxDischargeDepth := 40) [h]; done) | ((simp (contextual := true) (maxDischargeDepth := 40) [h]) <;> (repeat' split) <;> simp (contextual := true) (maxDischargeDepth := 40) [h]))

theorem ext_execMergeStart (s : State) (h : Ext r s) :
    ExtOut r (execMergeStart s) := by
  unfold execMergeStart
  first
  | (simp (contextual := true) (maxDischargeDepth := 40) [h]; done)
  | (apply extOut_next; (repeat' split) <;> first | assumption | (simp (contextual := true) (maxDischargeDepth := 40) [h]; done) | ((simp (contextual := true) (maxDischargeDepth := 40) [h]) <;> (repeat' split) <;> simp (contextual := true) (maxDischargeDepth := 40) [h]))

theorem ext_execMergeComplete (s : State) (h : Ext r s) :
    ExtOut r (execMergeComplete s) := by
  unfold execMergeComplete
  first
  | (simp (contextual := true) (maxDischargeDepth := 40) [h]; done)
  | (apply extOut_next; (repeat' split) <;> first | assumption | (simp (contextual := true) (maxDischargeDepth := 40) [h]; done) | ((simp (contextual := true) (maxDischargeDepth := 40) [h]) <;> (repeat' split) <;> simp (contextual := true) (maxDischargeDepth := 40) [h]))

theorem ext_execLeapSecond (s : State) (h : Ext r s) :
    ExtOut r (execLeapSecond s) := by
  unfold execLeapSecond
  first
  | (simp (contextual := true) (maxDischargeDepth := 40) [h]; done)
  | (apply extOut_next; (repeat' split) <;> first | assumption | (simp (contextual := true) (maxDischargeDepth := 40) [h]; done) | ((simp (contextual := true) (maxDischargeDepth := 40) [h]) <;> (repeat' split) <;> simp (contextual := true) (maxDischargeDepth := 40) [h]))

@[simp↓] theorem ext_State_provision (s : State) (h : Ext r s) :
    Ext r (State.provision s) := by
  unfold State.provision
  first
  | (simp (contextual := true) (maxDischargeDepth := 40) [h]; done)
  | ((repeat' split) <;> first | assumption | (simp (contextual := true) (maxDischargeDepth := 40) [h]; done) | ((simp (contextual := true) (maxDischargeDepth := 40) [h]) <;> (repeat' split) <;> simp (contextual := true) (maxDischargeDepth := 40) [h]))

@[simp↓] theorem ext_State_installWrite (s : State) (src : Src) (a : KeyArg) (hh : U32) (h : Ext r s) :
    Ext r (State.installWrite s src a hh) := by
  unfold State.installWrite
  first
  | (simp (contextual := true) (maxDischargeDepth := 40) [h]; done)
  | ((repeat' split) <;> first | assumption | (simp (contextual := true) (maxDischargeDepth := 40) [h]; done) | ((simp (contextual := true) (maxDischargeDepth := 40) [h]) <;> (repeat' split) <;> simp (contextual := true) (maxDischargeDepth := 40) [h]))

@[simp↓] theorem ext_keyInstallVerdict (hh : Hdr) (a : KeyArg) (s : State) :
    (keyInstallVerdict hh a s).Extends := by
  unfold keyInstallVerdict
  repeat' split
  all_goals first | (exact extends_reject _) | (simp (contextual := true) (maxDischargeDepth := 40) ; done) | (intro r t h; simp (contextual := true) (maxDischargeDepth := 40) [h]; done) | (dsimp only; (repeat' split) <;> simp (contextual := true) (maxDischargeDepth := 40))

theorem ext_execKeyInstall (hh : Hdr) (a : KeyArg) (s : State) (h : Ext r s) :
    ExtOut r (execKeyInstall hh a s) := by
  unfold execKeyInstall
  first
  | (simp (contextual := true) (maxDischargeDepth := 40) [h]; done)
  | (apply extOut_next; (repeat' split) <;> first | assumption | (simp (contextual := true) (maxDischargeDepth := 40) [h]; done) | ((simp (contextual := true) (maxDischargeDepth := 40) [h]) <;> (repeat' split) <;> simp (contextual := true) (maxDischargeDepth := 40) [h]))

@[simp↓] theorem ext_State_installFlip (s : State) (o : KeyOp) (it : KeyItem) (c : KeyCopy) (h : Ext r s) :
    Ext r (State.installFlip s o it c) := by
  unfold State.installFlip
  first
  | (simp (contextual := true) (maxDischargeDepth := 40) [h]; done)
  | ((repeat' split) <;> first | assumption | (simp (contextual := true) (maxDischargeDepth := 40) [h]; done) | ((simp (contextual := true) (maxDischargeDepth := 40) [h]) <;> (repeat' split) <;> simp (contextual := true) (maxDischargeDepth := 40) [h]))

@[simp↓] theorem ext_State_installFail (s : State) (o : KeyOp) (it : KeyItem) (h : Ext r s) :
    Ext r (State.installFail s o it) := by
  unfold State.installFail
  first
  | (simp (contextual := true) (maxDischargeDepth := 40) [h]; done)
  | ((repeat' split) <;> first | assumption | (simp (contextual := true) (maxDischargeDepth := 40) [h]; done) | ((simp (contextual := true) (maxDischargeDepth := 40) [h]) <;> (repeat' split) <;> simp (contextual := true) (maxDischargeDepth := 40) [h]))

theorem ext_execKeyInstallDone (handle : U32) (ok : Bool) (s : State) (h : Ext r s) :
    ExtOut r (execKeyInstallDone handle ok s) := by
  unfold execKeyInstallDone
  first
  | (simp (contextual := true) (maxDischargeDepth := 40) [h]; done)
  | (apply extOut_next; (repeat' split) <;> first | assumption | (simp (contextual := true) (maxDischargeDepth := 40) [h]; done) | ((simp (contextual := true) (maxDischargeDepth := 40) [h]) <;> (repeat' split) <;> simp (contextual := true) (maxDischargeDepth := 40) [h]))

theorem ext_execKeySwitchEpoch (label : U64) (s : State) (h : Ext r s) :
    ExtOut r (execKeySwitchEpoch label s) := by
  unfold execKeySwitchEpoch
  first
  | (simp (contextual := true) (maxDischargeDepth := 40) [h]; done)
  | (apply extOut_next; (repeat' split) <;> first | assumption | (simp (contextual := true) (maxDischargeDepth := 40) [h]; done) | ((simp (contextual := true) (maxDischargeDepth := 40) [h]) <;> (repeat' split) <;> simp (contextual := true) (maxDischargeDepth := 40) [h]))

theorem ext_execKeyReceiveWindowEnd (label : U64) (s : State) (h : Ext r s) :
    ExtOut r (execKeyReceiveWindowEnd label s) := by
  unfold execKeyReceiveWindowEnd
  first
  | (simp (contextual := true) (maxDischargeDepth := 40) [h]; done)
  | (apply extOut_next; (repeat' split) <;> first | assumption | (simp (contextual := true) (maxDischargeDepth := 40) [h]; done) | ((simp (contextual := true) (maxDischargeDepth := 40) [h]) <;> (repeat' split) <;> simp (contextual := true) (maxDischargeDepth := 40) [h]))

@[simp↓] theorem ext_keyRemoveVerdict (label : U64) (s : State) :
    (keyRemoveVerdict label s).Extends := by
  unfold keyRemoveVerdict
  split
  · exact extends_reject _
  split
  · exact extends_reject _
  split
  · exact extends_reject _
  · intro r t h; simp (contextual := true) (maxDischargeDepth := 40) [h]

theorem ext_execKeyRemove (hh : Hdr) (label : U64) (s : State) (h : Ext r s) :
    ExtOut r (execKeyRemove hh label s) := by
  unfold execKeyRemove
  first
  | (simp (contextual := true) (maxDischargeDepth := 40) [h]; done)
  | (apply extOut_next; (repeat' split) <;> first | assumption | (simp (contextual := true) (maxDischargeDepth := 40) [h]; done) | ((simp (contextual := true) (maxDischargeDepth := 40) [h]) <;> (repeat' split) <;> simp (contextual := true) (maxDischargeDepth := 40) [h]))

@[simp↓] theorem ext_keyListVerdict (hh : Hdr) (s : State) :
    (keyListVerdict hh s).Extends := by
  unfold keyListVerdict
  repeat' split
  all_goals first | (exact extends_reject _) | (simp (contextual := true) (maxDischargeDepth := 40) ; done) | (intro r t h; simp (contextual := true) (maxDischargeDepth := 40) [h]; done) | (dsimp only; (repeat' split) <;> simp (contextual := true) (maxDischargeDepth := 40))

theorem ext_execKeyList (hh : Hdr) (s : State) (h : Ext r s) :
    ExtOut r (execKeyList hh s) := by
  unfold execKeyList
  first
  | (simp (contextual := true) (maxDischargeDepth := 40) [h]; done)
  | (apply extOut_next; (repeat' split) <;> first | assumption | (simp (contextual := true) (maxDischargeDepth := 40) [h]; done) | ((simp (contextual := true) (maxDischargeDepth := 40) [h]) <;> (repeat' split) <;> simp (contextual := true) (maxDischargeDepth := 40) [h]))

@[simp↓] theorem ext_auditReadVerdict (hh : Hdr) (first : Nat) (count : Nat) (s : State) :
    (auditReadVerdict hh first count s).Extends := by
  unfold auditReadVerdict
  repeat' split
  all_goals first | (exact extends_reject _) | (simp (contextual := true) (maxDischargeDepth := 40) ; done) | (intro r t h; simp (contextual := true) (maxDischargeDepth := 40) [h]; done) | (dsimp only; (repeat' split) <;> simp (contextual := true) (maxDischargeDepth := 40))

theorem ext_execAuditRead (hh : Hdr) (first : Nat) (count : Nat) (s : State) (h : Ext r s) :
    ExtOut r (execAuditRead hh first count s) := by
  unfold execAuditRead
  first
  | (simp (contextual := true) (maxDischargeDepth := 40) [h]; done)
  | (apply extOut_next; (repeat' split) <;> first | assumption | (simp (contextual := true) (maxDischargeDepth := 40) [h]; done) | ((simp (contextual := true) (maxDischargeDepth := 40) [h]) <;> (repeat' split) <;> simp (contextual := true) (maxDischargeDepth := 40) [h]))

@[simp↓] theorem ext_tamperAckVerdict (detectors : BitVec 3) (s : State) :
    (tamperAckVerdict detectors s).Extends := by
  unfold tamperAckVerdict
  repeat' split
  all_goals first | (exact extends_reject _) | (simp (contextual := true) (maxDischargeDepth := 40) ; done) | (intro r t h; simp (contextual := true) (maxDischargeDepth := 40) [h]; done) | (dsimp only; (repeat' split) <;> simp (contextual := true) (maxDischargeDepth := 40))

theorem ext_execTamperAck (hh : Hdr) (detectors : BitVec 3) (s : State) (h : Ext r s) :
    ExtOut r (execTamperAck hh detectors s) := by
  unfold execTamperAck
  first
  | (simp (contextual := true) (maxDischargeDepth := 40) [h]; done)
  | (apply extOut_next; (repeat' split) <;> first | assumption | (simp (contextual := true) (maxDischargeDepth := 40) [h]; done) | ((simp (contextual := true) (maxDischargeDepth := 40) [h]) <;> (repeat' split) <;> simp (contextual := true) (maxDischargeDepth := 40) [h]))

@[simp↓] theorem ext_makerVerdict (opcode : Nat) (s : State) :
    (makerVerdict opcode s).Extends := by
  unfold makerVerdict
  repeat' split
  all_goals first | (exact extends_reject _) | (simp (contextual := true) (maxDischargeDepth := 40) ; done) | (intro r t h; simp (contextual := true) (maxDischargeDepth := 40) [h]; done) | (dsimp only; (repeat' split) <;> simp (contextual := true) (maxDischargeDepth := 40))

theorem ext_execMakerCommand (hh : Hdr) (opcode : Nat) (s : State) (h : Ext r s) :
    ExtOut r (execMakerCommand hh opcode s) := by
  unfold execMakerCommand
  first
  | (simp (contextual := true) (maxDischargeDepth := 40) [h]; done)
  | (apply extOut_next; (repeat' split) <;> first | assumption | (simp (contextual := true) (maxDischargeDepth := 40) [h]; done) | ((simp (contextual := true) (maxDischargeDepth := 40) [h]) <;> (repeat' split) <;> simp (contextual := true) (maxDischargeDepth := 40) [h]))

@[simp↓] theorem ext_State_setSetup (s : State) (a : SetupArg) (v : SetupSt) (h : Ext r s) :
    Ext r (State.setSetup s a v) := by
  unfold State.setSetup
  first
  | (simp (contextual := true) (maxDischargeDepth := 40) [h]; done)
  | ((repeat' split) <;> first | assumption | (simp (contextual := true) (maxDischargeDepth := 40) [h]; done) | ((simp (contextual := true) (maxDischargeDepth := 40) [h]) <;> (repeat' split) <;> simp (contextual := true) (maxDischargeDepth := 40) [h]))

@[simp↓] theorem ext_State_takeSetup (s : State) (a : SetupArg) (h : Ext r s) :
    Ext r (State.takeSetup s a) := by
  unfold State.takeSetup
  first
  | (simp (contextual := true) (maxDischargeDepth := 40) [h]; done)
  | ((repeat' split) <;> first | assumption | (simp (contextual := true) (maxDischargeDepth := 40) [h]; done) | ((simp (contextual := true) (maxDischargeDepth := 40) [h]) <;> (repeat' split) <;> simp (contextual := true) (maxDischargeDepth := 40) [h]))

@[simp↓] theorem ext_State_setupReply (s : State) (a : SetupArg) (status : Nat) (data : List Byte) (h : Ext r s) :
    Ext r (State.setupReply s a status data) := by
  unfold State.setupReply
  first
  | (simp (contextual := true) (maxDischargeDepth := 40) [h]; done)
  | ((repeat' split) <;> first | assumption | (simp (contextual := true) (maxDischargeDepth := 40) [h]; done) | ((simp (contextual := true) (maxDischargeDepth := 40) [h]) <;> (repeat' split) <;> simp (contextual := true) (maxDischargeDepth := 40) [h]))

theorem ext_execSetupRequest (a : SetupArg) (nonceM : List Byte) (s : State) (h : Ext r s) :
    ExtOut r (execSetupRequest a nonceM s) := by
  unfold execSetupRequest
  first
  | (simp (contextual := true) (maxDischargeDepth := 40) [h]; done)
  | (apply extOut_next; (repeat' split) <;> first | assumption | (simp (contextual := true) (maxDischargeDepth := 40) [h]; done) | ((simp (contextual := true) (maxDischargeDepth := 40) [h]) <;> (repeat' split) <;> simp (contextual := true) (maxDischargeDepth := 40) [h]))

@[simp↓] theorem ext_State_bindSrc (s : State) (a : SetupArg) (src : Src) (sk : List Byte) (h : Ext r s) :
    Ext r (State.bindSrc s a src sk) := by
  unfold State.bindSrc
  first
  | (simp (contextual := true) (maxDischargeDepth := 40) [h]; done)
  | ((repeat' split) <;> first | assumption | (simp (contextual := true) (maxDischargeDepth := 40) [h]; done) | ((simp (contextual := true) (maxDischargeDepth := 40) [h]) <;> (repeat' split) <;> simp (contextual := true) (maxDischargeDepth := 40) [h]))

@[simp↓] theorem ext_State_proofFailed (s : State) (a : SetupArg) (h : Ext r s) :
    Ext r (State.proofFailed s a) := by
  unfold State.proofFailed
  first
  | (simp (contextual := true) (maxDischargeDepth := 40) [h]; done)
  | ((repeat' split) <;> first | assumption | (simp (contextual := true) (maxDischargeDepth := 40) [h]; done) | ((simp (contextual := true) (maxDischargeDepth := 40) [h]) <;> (repeat' split) <;> simp (contextual := true) (maxDischargeDepth := 40) [h]))

theorem ext_execSetupProof (a : SetupArg) (nonceH : List Byte) (proofH : List Byte) (s : State) (h : Ext r s) :
    ExtOut r (execSetupProof a nonceH proofH s) := by
  unfold execSetupProof
  first
  | (simp (contextual := true) (maxDischargeDepth := 40) [h]; done)
  | (apply extOut_next; (repeat' split) <;> first | assumption | (simp (contextual := true) (maxDischargeDepth := 40) [h]; done) | ((simp (contextual := true) (maxDischargeDepth := 40) [h]) <;> (repeat' split) <;> simp (contextual := true) (maxDischargeDepth := 40) [h]))

theorem ext_execSetupEnd (a : SetupArg) (s : State) (h : Ext r s) :
    ExtOut r (execSetupEnd a s) := by
  unfold execSetupEnd
  first
  | (simp (contextual := true) (maxDischargeDepth := 40) [h]; done)
  | (apply extOut_next; (repeat' split) <;> first | assumption | (simp (contextual := true) (maxDischargeDepth := 40) [h]; done) | ((simp (contextual := true) (maxDischargeDepth := 40) [h]) <;> (repeat' split) <;> simp (contextual := true) (maxDischargeDepth := 40) [h]))

theorem ext_execBindLockoutEnd (src : Src) (mac : BitVec 48) (s : State) (h : Ext r s) :
    ExtOut r (execBindLockoutEnd src mac s) := by
  unfold execBindLockoutEnd
  first
  | (simp (contextual := true) (maxDischargeDepth := 40) [h]; done)
  | (apply extOut_next; (repeat' split) <;> first | assumption | (simp (contextual := true) (maxDischargeDepth := 40) [h]; done) | ((simp (contextual := true) (maxDischargeDepth := 40) [h]) <;> (repeat' split) <;> simp (contextual := true) (maxDischargeDepth := 40) [h]))

theorem ext_execMgmtIdleTimeout (n : Nat) (s : State) (h : Ext r s) :
    ExtOut r (execMgmtIdleTimeout n s) := by
  unfold execMgmtIdleTimeout
  first
  | (simp (contextual := true) (maxDischargeDepth := 40) [h]; done)
  | (apply extOut_next; (repeat' split) <;> first | assumption | (simp (contextual := true) (maxDischargeDepth := 40) [h]; done) | ((simp (contextual := true) (maxDischargeDepth := 40) [h]) <;> (repeat' split) <;> simp (contextual := true) (maxDischargeDepth := 40) [h]))

theorem ext_execKeyScrub (curBad : List U64) (prevBad : List U64) (s : State) (h : Ext r s) :
    ExtOut r (execKeyScrub curBad prevBad s) := by
  unfold execKeyScrub
  first
  | (simp (contextual := true) (maxDischargeDepth := 40) [h]; done)
  | (apply extOut_next; (repeat' split) <;> first | assumption | (simp (contextual := true) (maxDischargeDepth := 40) [h]; done) | ((simp (contextual := true) (maxDischargeDepth := 40) [h]) <;> (repeat' split) <;> simp (contextual := true) (maxDischargeDepth := 40) [h]))

@[simp↓] theorem ext_State_zeroKeys (s : State) (cause : Nat) (mask : Nat) (time : Nat) (h : Ext r s) :
    Ext r (State.zeroKeys s cause mask time) := by
  unfold State.zeroKeys
  first
  | (simp (contextual := true) (maxDischargeDepth := 40) [h]; done)
  | ((repeat' split) <;> first | assumption | (simp (contextual := true) (maxDischargeDepth := 40) [h]; done) | ((simp (contextual := true) (maxDischargeDepth := 40) [h]) <;> (repeat' split) <;> simp (contextual := true) (maxDischargeDepth := 40) [h]))

@[simp↓] theorem ext_State_tamperReport (s : State) (h : Ext r s) :
    Ext r (State.tamperReport s) := by
  unfold State.tamperReport
  first
  | (simp (contextual := true) (maxDischargeDepth := 40) [h]; done)
  | ((repeat' split) <;> first | assumption | (simp (contextual := true) (maxDischargeDepth := 40) [h]; done) | ((simp (contextual := true) (maxDischargeDepth := 40) [h]) <;> (repeat' split) <;> simp (contextual := true) (maxDischargeDepth := 40) [h]))

end Sys2Proof.Laws
end

