-- ==== Sys2Proof/Laws/TracePorts.lean ====
section
/-! SUPPORT. What the operations of a module may do to the audit log, the sent messages, the waiting commands and the
identity: the calendar, the ports, the registers, the field die and CAN. Each law says that the operation only appends to them. -/

set_option linter.unusedVariables false
set_option linter.unusedSimpArgs false
set_option linter.unusedTactic false
set_option linter.unreachableTactic false
set_option linter.unnecessarySeqFocus false

namespace Sys2Proof.Laws
open Sys2Proof.Machine

variable {r : Trace}

@[simp↓] theorem ext_State_dripEvent (s : State) (source : Nat) (rising : Bool) (h : Ext r s) :
    Ext r (State.dripEvent s source rising) := by
  unfold State.dripEvent
  first
  | (simp (contextual := true) (maxDischargeDepth := 40) [h]; done)
  | ((repeat' split) <;> first | assumption | (simp (contextual := true) (maxDischargeDepth := 40) [h]; done) | ((simp (contextual := true) (maxDischargeDepth := 40) [h]) <;> (repeat' split) <;> simp (contextual := true) (maxDischargeDepth := 40) [h]))

@[simp↓] theorem ext_State_wake (s : State) (src : Nat) (h : Ext r s) :
    Ext r (State.wake s src) := by
  unfold State.wake
  first
  | (simp (contextual := true) (maxDischargeDepth := 40) [h]; done)
  | ((repeat' split) <;> first | assumption | (simp (contextual := true) (maxDischargeDepth := 40) [h]; done) | ((simp (contextual := true) (maxDischargeDepth := 40) [h]) <;> (repeat' split) <;> simp (contextual := true) (maxDischargeDepth := 40) [h]))

@[simp↓] theorem ext_State_calRead (s : State) (k : Nat) (h : Ext r s) :
    Ext r (State.calRead s k) := by
  unfold State.calRead
  first
  | (simp (contextual := true) (maxDischargeDepth := 40) [h]; done)
  | ((repeat' split) <;> first | assumption | (simp (contextual := true) (maxDischargeDepth := 40) [h]; done) | ((simp (contextual := true) (maxDischargeDepth := 40) [h]) <;> (repeat' split) <;> simp (contextual := true) (maxDischargeDepth := 40) [h]))

@[simp↓] theorem ext_State_calWrite (s : State) (k : Nat) (val : Nat) (h : Ext r s) :
    Ext r (State.calWrite s k val) := by
  unfold State.calWrite
  first
  | (simp (contextual := true) (maxDischargeDepth := 40) [h]; done)
  | ((repeat' split) <;> first | assumption | (simp (contextual := true) (maxDischargeDepth := 40) [h]; done) | ((simp (contextual := true) (maxDischargeDepth := 40) [h]) <;> (repeat' split) <;> simp (contextual := true) (maxDischargeDepth := 40) [h]))

theorem ext_execCalRegWrite (off : Nat) (val : U32) (s : State) (h : Ext r s) :
    ExtOut r (execCalRegWrite off val s) := by
  unfold execCalRegWrite
  first
  | (simp (contextual := true) (maxDischargeDepth := 40) [h]; done)
  | (apply extOut_next; (repeat' split) <;> first | assumption | (simp (contextual := true) (maxDischargeDepth := 40) [h]; done) | ((simp (contextual := true) (maxDischargeDepth := 40) [h]) <;> (repeat' split) <;> simp (contextual := true) (maxDischargeDepth := 40) [h]))

@[simp↓] theorem ext_State_setAlm (s : State) (n : Nat) (a : CalAlarm) (h : Ext r s) :
    Ext r (State.setAlm s n a) := by
  unfold State.setAlm
  first
  | (simp (contextual := true) (maxDischargeDepth := 40) [h]; done)
  | ((repeat' split) <;> first | assumption | (simp (contextual := true) (maxDischargeDepth := 40) [h]; done) | ((simp (contextual := true) (maxDischargeDepth := 40) [h]) <;> (repeat' split) <;> simp (contextual := true) (maxDischargeDepth := 40) [h]))

@[simp↓] theorem ext_State_almReport (s : State) (n : Nat) (h : Ext r s) :
    Ext r (State.almReport s n) := by
  unfold State.almReport
  first
  | (simp (contextual := true) (maxDischargeDepth := 40) [h]; done)
  | ((repeat' split) <;> first | assumption | (simp (contextual := true) (maxDischargeDepth := 40) [h]; done) | ((simp (contextual := true) (maxDischargeDepth := 40) [h]) <;> (repeat' split) <;> simp (contextual := true) (maxDischargeDepth := 40) [h]))

@[simp↓] theorem ext_State_almFire (s : State) (n : Nat) (t : Nat) (h : Ext r s) :
    Ext r (State.almFire s n t) := by
  unfold State.almFire
  first
  | (simp (contextual := true) (maxDischargeDepth := 40) [h]; done)
  | ((repeat' split) <;> first | assumption | (simp (contextual := true) (maxDischargeDepth := 40) [h]; done) | ((simp (contextual := true) (maxDischargeDepth := 40) [h]) <;> (repeat' split) <;> simp (contextual := true) (maxDischargeDepth := 40) [h]))

@[simp↓] theorem ext_State_almCarry (s : State) (t : Nat) (h : Ext r s) :
    Ext r (State.almCarry s t) := by
  unfold State.almCarry
  first
  | (simp (contextual := true) (maxDischargeDepth := 40) [h]; done)
  | ((repeat' split) <;> first | assumption | (simp (contextual := true) (maxDischargeDepth := 40) [h]; done) | ((simp (contextual := true) (maxDischargeDepth := 40) [h]) <;> (repeat' split) <;> simp (contextual := true) (maxDischargeDepth := 40) [h]))

@[simp↓] theorem ext_State_almAdjust (s : State) (told : Nat) (tnew : Nat) (n : Nat) (h : Ext r s) :
    Ext r (State.almAdjust s told tnew n) := by
  unfold State.almAdjust
  first
  | (simp (contextual := true) (maxDischargeDepth := 40) [h]; done)
  | ((repeat' split) <;> first | assumption | (simp (contextual := true) (maxDischargeDepth := 40) [h]; done) | ((simp (contextual := true) (maxDischargeDepth := 40) [h]) <;> (repeat' split) <;> simp (contextual := true) (maxDischargeDepth := 40) [h]))

@[simp↓] theorem ext_State_almAdjustAll (s : State) (told : Nat) (tnew : Nat) (h : Ext r s) :
    Ext r (State.almAdjustAll s told tnew) := by
  unfold State.almAdjustAll
  first
  | (simp (contextual := true) (maxDischargeDepth := 40) [h]; done)
  | ((repeat' split) <;> first | assumption | (simp (contextual := true) (maxDischargeDepth := 40) [h]; done) | ((simp (contextual := true) (maxDischargeDepth := 40) [h]) <;> (repeat' split) <;> simp (contextual := true) (maxDischargeDepth := 40) [h]))

@[simp↓] theorem ext_State_calBecomes (s : State) (c : CalSet) (h : Ext r s) :
    Ext r (State.calBecomes s c) := by
  unfold State.calBecomes
  first
  | (simp (contextual := true) (maxDischargeDepth := 40) [h]; done)
  | ((repeat' split) <;> first | assumption | (simp (contextual := true) (maxDischargeDepth := 40) [h]; done) | ((simp (contextual := true) (maxDischargeDepth := 40) [h]) <;> (repeat' split) <;> simp (contextual := true) (maxDischargeDepth := 40) [h]))

@[simp↓] theorem ext_State_auditCal (s : State) (status : Nat) (c : CalSet) (h : Ext r s) :
    Ext r (State.auditCal s status c) := by
  unfold State.auditCal
  first
  | (simp (contextual := true) (maxDischargeDepth := 40) [h]; done)
  | ((repeat' split) <;> first | assumption | (simp (contextual := true) (maxDischargeDepth := 40) [h]; done) | ((simp (contextual := true) (maxDischargeDepth := 40) [h]) <;> (repeat' split) <;> simp (contextual := true) (maxDischargeDepth := 40) [h]))

@[simp↓] theorem ext_State_dropDst (s : State) (h : Ext r s) :
    Ext r (State.dropDst s) := by
  unfold State.dropDst
  first
  | (simp (contextual := true) (maxDischargeDepth := 40) [h]; done)
  | ((repeat' split) <;> first | assumption | (simp (contextual := true) (maxDischargeDepth := 40) [h]; done) | ((simp (contextual := true) (maxDischargeDepth := 40) [h]) <;> (repeat' split) <;> simp (contextual := true) (maxDischargeDepth := 40) [h]))

@[simp↓] theorem ext_State_calCommit (s : State) (h : Ext r s) :
    Ext r (State.calCommit s) := by
  unfold State.calCommit
  first
  | (simp (contextual := true) (maxDischargeDepth := 40) [h]; done)
  | ((repeat' split) <;> first | assumption | (simp (contextual := true) (maxDischargeDepth := 40) [h]; done) | ((simp (contextual := true) (maxDischargeDepth := 40) [h]) <;> (repeat' split) <;> simp (contextual := true) (maxDischargeDepth := 40) [h]))

theorem ext_execCalCommit (s : State) (h : Ext r s) :
    ExtOut r (execCalCommit s) := by
  unfold execCalCommit
  first
  | (simp (contextual := true) (maxDischargeDepth := 40) [h]; done)
  | (apply extOut_next; (repeat' split) <;> first | assumption | (simp (contextual := true) (maxDischargeDepth := 40) [h]; done) | ((simp (contextual := true) (maxDischargeDepth := 40) [h]) <;> (repeat' split) <;> simp (contextual := true) (maxDischargeDepth := 40) [h]))

@[simp↓] theorem ext_State_calDiscard (s : State) (h : Ext r s) :
    Ext r (State.calDiscard s) := by
  unfold State.calDiscard
  first
  | (simp (contextual := true) (maxDischargeDepth := 40) [h]; done)
  | ((repeat' split) <;> first | assumption | (simp (contextual := true) (maxDischargeDepth := 40) [h]; done) | ((simp (contextual := true) (maxDischargeDepth := 40) [h]) <;> (repeat' split) <;> simp (contextual := true) (maxDischargeDepth := 40) [h]))

theorem ext_execCalDiscard (s : State) (h : Ext r s) :
    ExtOut r (execCalDiscard s) := by
  unfold execCalDiscard
  first
  | (simp (contextual := true) (maxDischargeDepth := 40) [h]; done)
  | (apply extOut_next; (repeat' split) <;> first | assumption | (simp (contextual := true) (maxDischargeDepth := 40) [h]; done) | ((simp (contextual := true) (maxDischargeDepth := 40) [h]) <;> (repeat' split) <;> simp (contextual := true) (maxDischargeDepth := 40) [h]))

theorem ext_execCalFreezeTimeout (s : State) (h : Ext r s) :
    ExtOut r (execCalFreezeTimeout s) := by
  unfold execCalFreezeTimeout
  first
  | (simp (contextual := true) (maxDischargeDepth := 40) [h]; done)
  | (apply extOut_next; (repeat' split) <;> first | assumption | (simp (contextual := true) (maxDischargeDepth := 40) [h]; done) | ((simp (contextual := true) (maxDischargeDepth := 40) [h]) <;> (repeat' split) <;> simp (contextual := true) (maxDischargeDepth := 40) [h]))

theorem ext_execCalWindowExpire (s : State) (h : Ext r s) :
    ExtOut r (execCalWindowExpire s) := by
  unfold execCalWindowExpire
  first
  | (simp (contextual := true) (maxDischargeDepth := 40) [h]; done)
  | (apply extOut_next; (repeat' split) <;> first | assumption | (simp (contextual := true) (maxDischargeDepth := 40) [h]; done) | ((simp (contextual := true) (maxDischargeDepth := 40) [h]) <;> (repeat' split) <;> simp (contextual := true) (maxDischargeDepth := 40) [h]))

theorem ext_execCalWriteEnable (hh : Hdr) (s : State) (h : Ext r s) :
    ExtOut r (execCalWriteEnable hh s) := by
  unfold execCalWriteEnable
  first
  | (simp (contextual := true) (maxDischargeDepth := 40) [h]; done)
  | (apply extOut_next; (repeat' split) <;> first | assumption | (simp (contextual := true) (maxDischargeDepth := 40) [h]; done) | ((simp (contextual := true) (maxDischargeDepth := 40) [h]) <;> (repeat' split) <;> simp (contextual := true) (maxDischargeDepth := 40) [h]))

@[simp↓] theorem ext_calDstVerdict (dir : Nat) (s : State) :
    (calDstVerdict dir s).Extends := by
  unfold calDstVerdict
  repeat' split
  all_goals first | (exact extends_reject _) | (simp (contextual := true) (maxDischargeDepth := 40) ; done) | (intro r t h; simp (contextual := true) (maxDischargeDepth := 40) [h]; done) | (dsimp only; (repeat' split) <;> simp (contextual := true) (maxDischargeDepth := 40))

theorem ext_execCalDst (hh : Hdr) (dir : Nat) (s : State) (h : Ext r s) :
    ExtOut r (execCalDst hh dir s) := by
  unfold execCalDst
  first
  | (simp (contextual := true) (maxDischargeDepth := 40) [h]; done)
  | (apply extOut_next; (repeat' split) <;> first | assumption | (simp (contextual := true) (maxDischargeDepth := 40) [h]; done) | ((simp (contextual := true) (maxDischargeDepth := 40) [h]) <;> (repeat' split) <;> simp (contextual := true) (maxDischargeDepth := 40) [h]))

@[simp↓] theorem ext_State_dstCarry (s : State) (t : Nat) (h : Ext r s) :
    Ext r (State.dstCarry s t) := by
  unfold State.dstCarry
  first
  | (simp (contextual := true) (maxDischargeDepth := 40) [h]; done)
  | ((repeat' split) <;> first | assumption | (simp (contextual := true) (maxDischargeDepth := 40) [h]; done) | ((simp (contextual := true) (maxDischargeDepth := 40) [h]) <;> (repeat' split) <;> simp (contextual := true) (maxDischargeDepth := 40) [h]))

theorem ext_execCalSecondCarry (s : State) (h : Ext r s) :
    ExtOut r (execCalSecondCarry s) := by
  unfold execCalSecondCarry
  first
  | (simp (contextual := true) (maxDischargeDepth := 40) [h]; done)
  | (apply extOut_next; (repeat' split) <;> first | assumption | (simp (contextual := true) (maxDischargeDepth := 40) [h]; done) | ((simp (contextual := true) (maxDischargeDepth := 40) [h]) <;> (repeat' split) <;> simp (contextual := true) (maxDischargeDepth := 40) [h]))

theorem ext_execCalSyncCheck (s : State) (h : Ext r s) :
    ExtOut r (execCalSyncCheck s) := by
  unfold execCalSyncCheck
  first
  | (simp (contextual := true) (maxDischargeDepth := 40) [h]; done)
  | (apply extOut_next; (repeat' split) <;> first | assumption | (simp (contextual := true) (maxDischargeDepth := 40) [h]; done) | ((simp (contextual := true) (maxDischargeDepth := 40) [h]) <;> (repeat' split) <;> simp (contextual := true) (maxDischargeDepth := 40) [h]))

theorem ext_execCd0Loss (s : State) (h : Ext r s) :
    ExtOut r (execCd0Loss s) := by
  unfold execCd0Loss
  first
  | (simp (contextual := true) (maxDischargeDepth := 40) [h]; done)
  | (apply extOut_next; (repeat' split) <;> first | assumption | (simp (contextual := true) (maxDischargeDepth := 40) [h]; done) | ((simp (contextual := true) (maxDischargeDepth := 40) [h]) <;> (repeat' split) <;> simp (contextual := true) (maxDischargeDepth := 40) [h]))

theorem ext_execTamperDetect (mask : BitVec 3) (s : State) (h : Ext r s) :
    ExtOut r (execTamperDetect mask s) := by
  unfold execTamperDetect
  first
  | (simp (contextual := true) (maxDischargeDepth := 40) [h]; done)
  | (apply extOut_next; (repeat' split) <;> first | assumption | (simp (contextual := true) (maxDischargeDepth := 40) [h]; done) | ((simp (contextual := true) (maxDischargeDepth := 40) [h]) <;> (repeat' split) <;> simp (contextual := true) (maxDischargeDepth := 40) [h]))

theorem ext_execDripStateLoss (s : State) (h : Ext r s) :
    ExtOut r (execDripStateLoss s) := by
  unfold execDripStateLoss
  first
  | (simp (contextual := true) (maxDischargeDepth := 40) [h]; done)
  | (apply extOut_next; (repeat' split) <;> first | assumption | (simp (contextual := true) (maxDischargeDepth := 40) [h]; done) | ((simp (contextual := true) (maxDischargeDepth := 40) [h]) <;> (repeat' split) <;> simp (contextual := true) (maxDischargeDepth := 40) [h]))

@[simp↓] theorem ext_dripEventsVerdict (hh : Hdr) (s : State) :
    (dripEventsVerdict hh s).Extends := by
  unfold dripEventsVerdict
  repeat' split
  all_goals first | (exact extends_reject _) | (simp (contextual := true) (maxDischargeDepth := 40) ; done) | (intro r t h; simp (contextual := true) (maxDischargeDepth := 40) [h]; done) | (dsimp only; (repeat' split) <;> simp (contextual := true) (maxDischargeDepth := 40))

theorem ext_execDripEventsRead (hh : Hdr) (s : State) (h : Ext r s) :
    ExtOut r (execDripEventsRead hh s) := by
  unfold execDripEventsRead
  first
  | (simp (contextual := true) (maxDischargeDepth := 40) [h]; done)
  | (apply extOut_next; (repeat' split) <;> first | assumption | (simp (contextual := true) (maxDischargeDepth := 40) [h]; done) | ((simp (contextual := true) (maxDischargeDepth := 40) [h]) <;> (repeat' split) <;> simp (contextual := true) (maxDischargeDepth := 40) [h]))

@[simp↓] theorem ext_State_sawPn (s : State) (f : NetFrame) (h : Ext r s) :
    Ext r (State.sawPn s f) := by
  unfold State.sawPn
  first
  | (simp (contextual := true) (maxDischargeDepth := 40) [h]; done)
  | ((repeat' split) <;> first | assumption | (simp (contextual := true) (maxDischargeDepth := 40) [h]; done) | ((simp (contextual := true) (maxDischargeDepth := 40) [h]) <;> (repeat' split) <;> simp (contextual := true) (maxDischargeDepth := 40) [h]))

@[simp↓] theorem ext_State_dupAdd (s : State) (port : Nat) (src : BitVec 48) (seq : Nat) (h : Ext r s) :
    Ext r (State.dupAdd s port src seq) := by
  unfold State.dupAdd
  first
  | (simp (contextual := true) (maxDischargeDepth := 40) [h]; done)
  | ((repeat' split) <;> first | assumption | (simp (contextual := true) (maxDischargeDepth := 40) [h]; done) | ((simp (contextual := true) (maxDischargeDepth := 40) [h]) <;> (repeat' split) <;> simp (contextual := true) (maxDischargeDepth := 40) [h]))

@[simp↓] theorem ext_State_dupSeen (s : State) (f : NetFrame) (seq : Nat) (h : Ext r s) :
    Ext r (State.dupSeen s f seq) := by
  unfold State.dupSeen
  first
  | (simp (contextual := true) (maxDischargeDepth := 40) [h]; done)
  | ((repeat' split) <;> first | assumption | (simp (contextual := true) (maxDischargeDepth := 40) [h]; done) | ((simp (contextual := true) (maxDischargeDepth := 40) [h]) <;> (repeat' split) <;> simp (contextual := true) (maxDischargeDepth := 40) [h]))

@[simp↓] theorem ext_State_supervised (s : State) (src : BitVec 48) (h : Ext r s) :
    Ext r (State.supervised s src) := by
  unfold State.supervised
  first
  | (simp (contextual := true) (maxDischargeDepth := 40) [h]; done)
  | ((repeat' split) <;> first | assumption | (simp (contextual := true) (maxDischargeDepth := 40) [h]; done) | ((simp (contextual := true) (maxDischargeDepth := 40) [h]) <;> (repeat' split) <;> simp (contextual := true) (maxDischargeDepth := 40) [h]))

@[simp↓] theorem ext_State_hsrRx (s : State) (f : NetFrame) (seq : Nat) (h : Ext r s) :
    Ext r (State.hsrRx s f seq) := by
  unfold State.hsrRx
  first
  | (simp (contextual := true) (maxDischargeDepth := 40) [h]; done)
  | ((repeat' split) <;> first | assumption | (simp (contextual := true) (maxDischargeDepth := 40) [h]; done) | ((simp (contextual := true) (maxDischargeDepth := 40) [h]) <;> (repeat' split) <;> simp (contextual := true) (maxDischargeDepth := 40) [h]))

@[simp↓] theorem ext_State_netAccepted (s : State) (f : NetFrame) (h : Ext r s) :
    Ext r (State.netAccepted s f) := by
  unfold State.netAccepted
  first
  | (simp (contextual := true) (maxDischargeDepth := 40) [h]; done)
  | ((repeat' split) <;> first | assumption | (simp (contextual := true) (maxDischargeDepth := 40) [h]; done) | ((simp (contextual := true) (maxDischargeDepth := 40) [h]) <;> (repeat' split) <;> simp (contextual := true) (maxDischargeDepth := 40) [h]))

theorem ext_execRingFrameRx (f : NetFrame) (s : State) (h : Ext r s) :
    ExtOut r (execRingFrameRx f s) := by
  unfold execRingFrameRx
  first
  | (simp (contextual := true) (maxDischargeDepth := 40) [h]; done)
  | (apply extOut_next; (repeat' split) <;> first | assumption | (simp (contextual := true) (maxDischargeDepth := 40) [h]; done) | ((simp (contextual := true) (maxDischargeDepth := 40) [h]) <;> (repeat' split) <;> simp (contextual := true) (maxDischargeDepth := 40) [h]))

theorem ext_execHsrSupervisionTx (s : State) (h : Ext r s) :
    ExtOut r (execHsrSupervisionTx s) := by
  unfold execHsrSupervisionTx
  first
  | (simp (contextual := true) (maxDischargeDepth := 40) [h]; done)
  | (apply extOut_next; (repeat' split) <;> first | assumption | (simp (contextual := true) (maxDischargeDepth := 40) [h]; done) | ((simp (contextual := true) (maxDischargeDepth := 40) [h]) <;> (repeat' split) <;> simp (contextual := true) (maxDischargeDepth := 40) [h]))

@[simp↓] theorem ext_State_txOne (s : State) (ch : Nat) (d : TxDesc) (h : Ext r s) :
    Ext r (State.txOne s ch d) := by
  unfold State.txOne
  first
  | (simp (contextual := true) (maxDischargeDepth := 40) [h]; done)
  | ((repeat' split) <;> first | assumption | (simp (contextual := true) (maxDischargeDepth := 40) [h]; done) | ((simp (contextual := true) (maxDischargeDepth := 40) [h]) <;> (repeat' split) <;> simp (contextual := true) (maxDischargeDepth := 40) [h]))

theorem ext_execTxTail (ch : Nat) (idx : U32) (descs : List TxDesc) (s : State) (h : Ext r s) :
    ExtOut r (execTxTail ch idx descs s) := by
  unfold execTxTail
  first
  | (simp (contextual := true) (maxDischargeDepth := 40) [h]; done)
  | (apply extOut_next; (repeat' split) <;> first | assumption | (simp (contextual := true) (maxDischargeDepth := 40) [h]; done) | ((simp (contextual := true) (maxDischargeDepth := 40) [h]) <;> (repeat' split) <;> simp (contextual := true) (maxDischargeDepth := 40) [h]))

theorem ext_execRxTail (ch : Nat) (idx : U32) (s : State) (h : Ext r s) :
    ExtOut r (execRxTail ch idx s) := by
  unfold execRxTail
  first
  | (simp (contextual := true) (maxDischargeDepth := 40) [h]; done)
  | (apply extOut_next; (repeat' split) <;> first | assumption | (simp (contextual := true) (maxDischargeDepth := 40) [h]; done) | ((simp (contextual := true) (maxDischargeDepth := 40) [h]) <;> (repeat' split) <;> simp (contextual := true) (maxDischargeDepth := 40) [h]))

@[simp↓] theorem ext_State_rxDeliver (s : State) (f : NetFrame) (ch : Nat) (code : Nat) (descs : List RxDesc) (h : Ext r s) :
    Ext r (State.rxDeliver s f ch code descs) := by
  unfold State.rxDeliver
  first
  | (simp (contextual := true) (maxDischargeDepth := 40) [h]; done)
  | ((repeat' split) <;> first | assumption | (simp (contextual := true) (maxDischargeDepth := 40) [h]; done) | ((simp (contextual := true) (maxDischargeDepth := 40) [h]) <;> (repeat' split) <;> simp (contextual := true) (maxDischargeDepth := 40) [h]))

theorem ext_execHostFrameRx (f : NetFrame) (descs : List RxDesc) (s : State) (h : Ext r s) :
    ExtOut r (execHostFrameRx f descs s) := by
  unfold execHostFrameRx
  first
  | (simp (contextual := true) (maxDischargeDepth := 40) [h]; done)
  | (apply extOut_next; (repeat' split) <;> first | assumption | (simp (contextual := true) (maxDischargeDepth := 40) [h]; done) | ((simp (contextual := true) (maxDischargeDepth := 40) [h]) <;> (repeat' split) <;> simp (contextual := true) (maxDischargeDepth := 40) [h]))

@[simp↓] theorem ext_State_latchLow (s : State) (off : Nat) (v : U32) (h : Ext r s) :
    Ext r (State.latchLow s off v) := by
  unfold State.latchLow
  first
  | (simp (contextual := true) (maxDischargeDepth := 40) [h]; done)
  | ((repeat' split) <;> first | assumption | (simp (contextual := true) (maxDischargeDepth := 40) [h]; done) | ((simp (contextual := true) (maxDischargeDepth := 40) [h]) <;> (repeat' split) <;> simp (contextual := true) (maxDischargeDepth := 40) [h]))

@[simp↓] theorem ext_State_writeQCfg (s : State) (n : Nat) (v : U32) (h : Ext r s) :
    Ext r (State.writeQCfg s n v) := by
  unfold State.writeQCfg
  first
  | (simp (contextual := true) (maxDischargeDepth := 40) [h]; done)
  | ((repeat' split) <;> first | assumption | (simp (contextual := true) (maxDischargeDepth := 40) [h]; done) | ((simp (contextual := true) (maxDischargeDepth := 40) [h]) <;> (repeat' split) <;> simp (contextual := true) (maxDischargeDepth := 40) [h]))

@[simp↓] theorem ext_State_writeQueueReg (s : State) (n : Nat) (k : Nat) (v : U32) (h : Ext r s) :
    Ext r (State.writeQueueReg s n k v) := by
  unfold State.writeQueueReg
  first
  | (simp (contextual := true) (maxDischargeDepth := 40) [h]; done)
  | ((repeat' split) <;> first | assumption | (simp (contextual := true) (maxDischargeDepth := 40) [h]; done) | ((simp (contextual := true) (maxDischargeDepth := 40) [h]) <;> (repeat' split) <;> simp (contextual := true) (maxDischargeDepth := 40) [h]))

@[simp↓] theorem ext_State_writeFrameReg (s : State) (c : Nat) (k : Nat) (v : U32) (h : Ext r s) :
    Ext r (State.writeFrameReg s c k v) := by
  unfold State.writeFrameReg
  first
  | (simp (contextual := true) (maxDischargeDepth := 40) [h]; done)
  | ((repeat' split) <;> first | assumption | (simp (contextual := true) (maxDischargeDepth := 40) [h]; done) | ((simp (contextual := true) (maxDischargeDepth := 40) [h]) <;> (repeat' split) <;> simp (contextual := true) (maxDischargeDepth := 40) [h]))

@[simp↓] theorem ext_State_writeMsix (s : State) (i : Nat) (v : U32) (h : Ext r s) :
    Ext r (State.writeMsix s i v) := by
  unfold State.writeMsix
  first
  | (simp (contextual := true) (maxDischargeDepth := 40) [h]; done)
  | ((repeat' split) <;> first | assumption | (simp (contextual := true) (maxDischargeDepth := 40) [h]; done) | ((simp (contextual := true) (maxDischargeDepth := 40) [h]) <;> (repeat' split) <;> simp (contextual := true) (maxDischargeDepth := 40) [h]))

@[simp↓] theorem ext_State_clearCalStatus (s : State) (v : U32) (h : Ext r s) :
    Ext r (State.clearCalStatus s v) := by
  unfold State.clearCalStatus
  first
  | (simp (contextual := true) (maxDischargeDepth := 40) [h]; done)
  | ((repeat' split) <;> first | assumption | (simp (contextual := true) (maxDischargeDepth := 40) [h]; done) | ((simp (contextual := true) (maxDischargeDepth := 40) [h]) <;> (repeat' split) <;> simp (contextual := true) (maxDischargeDepth := 40) [h]))

@[simp↓] theorem ext_State_writeCalCtrl (s : State) (v : U32) (h : Ext r s) :
    Ext r (State.writeCalCtrl s v) := by
  unfold State.writeCalCtrl
  first
  | (simp (contextual := true) (maxDischargeDepth := 40) [h]; done)
  | ((repeat' split) <;> first | assumption | (simp (contextual := true) (maxDischargeDepth := 40) [h]; done) | ((simp (contextual := true) (maxDischargeDepth := 40) [h]) <;> (repeat' split) <;> simp (contextual := true) (maxDischargeDepth := 40) [h]))

@[simp↓] theorem ext_State_writeReg (s : State) (off : Nat) (v : U32) (h : Ext r s) :
    Ext r (State.writeReg s off v) := by
  unfold State.writeReg
  first
  | (simp (contextual := true) (maxDischargeDepth := 40) [h]; done)
  | ((repeat' split) <;> first | assumption | (simp (contextual := true) (maxDischargeDepth := 40) [h]; done) | ((simp (contextual := true) (maxDischargeDepth := 40) [h]) <;> (repeat' split) <;> simp (contextual := true) (maxDischargeDepth := 40) [h]))

theorem ext_execRegisterWrite (off : Nat) (val : U32) (s : State) (h : Ext r s) :
    ExtOut r (execRegisterWrite off val s) := by
  unfold execRegisterWrite
  first
  | (simp (contextual := true) (maxDischargeDepth := 40) [h]; done)
  | (apply extOut_next; (repeat' split) <;> first | assumption | (simp (contextual := true) (maxDischargeDepth := 40) [h]; done) | ((simp (contextual := true) (maxDischargeDepth := 40) [h]) <;> (repeat' split) <;> simp (contextual := true) (maxDischargeDepth := 40) [h]))

@[simp↓] theorem ext_State_readReg (s : State) (off : Nat) (h : Ext r s) :
    Ext r (State.readReg s off) := by
  unfold State.readReg
  first
  | (simp (contextual := true) (maxDischargeDepth := 40) [h]; done)
  | ((repeat' split) <;> first | assumption | (simp (contextual := true) (maxDischargeDepth := 40) [h]; done) | ((simp (contextual := true) (maxDischargeDepth := 40) [h]) <;> (repeat' split) <;> simp (contextual := true) (maxDischargeDepth := 40) [h]))

theorem ext_execCalRegRead (off : Nat) (s : State) (h : Ext r s) :
    ExtOut r (execCalRegRead off s) := by
  unfold execCalRegRead
  first
  | (simp (contextual := true) (maxDischargeDepth := 40) [h]; done)
  | (apply extOut_next; (repeat' split) <;> first | assumption | (simp (contextual := true) (maxDischargeDepth := 40) [h]; done) | ((simp (contextual := true) (maxDischargeDepth := 40) [h]) <;> (repeat' split) <;> simp (contextual := true) (maxDischargeDepth := 40) [h]))

@[simp↓] theorem ext_State_setFio (s : State) (c : Nat) (v : FioCh) (h : Ext r s) :
    Ext r (State.setFio s c v) := by
  unfold State.setFio
  first
  | (simp (contextual := true) (maxDischargeDepth := 40) [h]; done)
  | ((repeat' split) <;> first | assumption | (simp (contextual := true) (maxDischargeDepth := 40) [h]; done) | ((simp (contextual := true) (maxDischargeDepth := 40) [h]) <;> (repeat' split) <;> simp (contextual := true) (maxDischargeDepth := 40) [h]))

@[simp↓] theorem ext_State_setGrp (s : State) (g : Nat) (v : FioGrp) (h : Ext r s) :
    Ext r (State.setGrp s g v) := by
  unfold State.setGrp
  first
  | (simp (contextual := true) (maxDischargeDepth := 40) [h]; done)
  | ((repeat' split) <;> first | assumption | (simp (contextual := true) (maxDischargeDepth := 40) [h]; done) | ((simp (contextual := true) (maxDischargeDepth := 40) [h]) <;> (repeat' split) <;> simp (contextual := true) (maxDischargeDepth := 40) [h]))

@[simp↓] theorem ext_State_setAin (s : State) (i : Nat) (v : AinCh) (h : Ext r s) :
    Ext r (State.setAin s i v) := by
  unfold State.setAin
  first
  | (simp (contextual := true) (maxDischargeDepth := 40) [h]; done)
  | ((repeat' split) <;> first | assumption | (simp (contextual := true) (maxDischargeDepth := 40) [h]; done) | ((simp (contextual := true) (maxDischargeDepth := 40) [h]) <;> (repeat' split) <;> simp (contextual := true) (maxDischargeDepth := 40) [h]))

@[simp↓] theorem ext_State_setAout (s : State) (a : Nat) (v : AoutCh) (h : Ext r s) :
    Ext r (State.setAout s a v) := by
  unfold State.setAout
  first
  | (simp (contextual := true) (maxDischargeDepth := 40) [h]; done)
  | ((repeat' split) <;> first | assumption | (simp (contextual := true) (maxDischargeDepth := 40) [h]; done) | ((simp (contextual := true) (maxDischargeDepth := 40) [h]) <;> (repeat' split) <;> simp (contextual := true) (maxDischargeDepth := 40) [h]))

@[simp↓] theorem ext_State_driveCh (s : State) (c : Nat) (h : Ext r s) :
    Ext r (State.driveCh s c) := by
  unfold State.driveCh
  first
  | (simp (contextual := true) (maxDischargeDepth := 40) [h]; done)
  | ((repeat' split) <;> first | assumption | (simp (contextual := true) (maxDischargeDepth := 40) [h]; done) | ((simp (contextual := true) (maxDischargeDepth := 40) [h]) <;> (repeat' split) <;> simp (contextual := true) (maxDischargeDepth := 40) [h]))

@[simp↓] theorem ext_State_driveAout (s : State) (a : Nat) (h : Ext r s) :
    Ext r (State.driveAout s a) := by
  unfold State.driveAout
  first
  | (simp (contextual := true) (maxDischargeDepth := 40) [h]; done)
  | ((repeat' split) <;> first | assumption | (simp (contextual := true) (maxDischargeDepth := 40) [h]; done) | ((simp (contextual := true) (maxDischargeDepth := 40) [h]) <;> (repeat' split) <;> simp (contextual := true) (maxDischargeDepth := 40) [h]))

@[simp↓] theorem ext_State_driveAll (s : State) (h : Ext r s) :
    Ext r (State.driveAll s) := by
  unfold State.driveAll
  first
  | (simp (contextual := true) (maxDischargeDepth := 40) [h]; done)
  | ((repeat' split) <;> first | assumption | (simp (contextual := true) (maxDischargeDepth := 40) [h]; done) | ((simp (contextual := true) (maxDischargeDepth := 40) [h]) <;> (repeat' split) <;> simp (contextual := true) (maxDischargeDepth := 40) [h]))

@[simp↓] theorem ext_State_fieldOff (s : State) (h : Ext r s) :
    Ext r (State.fieldOff s) := by
  unfold State.fieldOff
  first
  | (simp (contextual := true) (maxDischargeDepth := 40) [h]; done)
  | ((repeat' split) <;> first | assumption | (simp (contextual := true) (maxDischargeDepth := 40) [h]; done) | ((simp (contextual := true) (maxDischargeDepth := 40) [h]) <;> (repeat' split) <;> simp (contextual := true) (maxDischargeDepth := 40) [h]))

@[simp↓] theorem ext_State_kept (s : State) (p : Nat) (st : BitVec 16) (h : Ext r s) :
    Ext r (State.kept s p st) := by
  unfold State.kept
  first
  | (simp (contextual := true) (maxDischargeDepth := 40) [h]; done)
  | ((repeat' split) <;> first | assumption | (simp (contextual := true) (maxDischargeDepth := 40) [h]; done) | ((simp (contextual := true) (maxDischargeDepth := 40) [h]) <;> (repeat' split) <;> simp (contextual := true) (maxDischargeDepth := 40) [h]))

@[simp↓] theorem ext_State_unused (s : State) (p : Nat) (h : Ext r s) :
    Ext r (State.unused s p) := by
  unfold State.unused
  first
  | (simp (contextual := true) (maxDischargeDepth := 40) [h]; done)
  | ((repeat' split) <;> first | assumption | (simp (contextual := true) (maxDischargeDepth := 40) [h]; done) | ((simp (contextual := true) (maxDischargeDepth := 40) [h]) <;> (repeat' split) <;> simp (contextual := true) (maxDischargeDepth := 40) [h]))

@[simp↓] theorem ext_State_latchDigital (s : State) (c : Nat) (h : Ext r s) :
    Ext r (State.latchDigital s c) := by
  unfold State.latchDigital
  first
  | (simp (contextual := true) (maxDischargeDepth := 40) [h]; done)
  | ((repeat' split) <;> first | assumption | (simp (contextual := true) (maxDischargeDepth := 40) [h]; done) | ((simp (contextual := true) (maxDischargeDepth := 40) [h]) <;> (repeat' split) <;> simp (contextual := true) (maxDischargeDepth := 40) [h]))

@[simp↓] theorem ext_State_latchPulse (s : State) (c : Nat) (h : Ext r s) :
    Ext r (State.latchPulse s c) := by
  unfold State.latchPulse
  first
  | (simp (contextual := true) (maxDischargeDepth := 40) [h]; done)
  | ((repeat' split) <;> first | assumption | (simp (contextual := true) (maxDischargeDepth := 40) [h]; done) | ((simp (contextual := true) (maxDischargeDepth := 40) [h]) <;> (repeat' split) <;> simp (contextual := true) (maxDischargeDepth := 40) [h]))

@[simp↓] theorem ext_State_latchOutput (s : State) (c : Nat) (h : Ext r s) :
    Ext r (State.latchOutput s c) := by
  unfold State.latchOutput
  first
  | (simp (contextual := true) (maxDischargeDepth := 40) [h]; done)
  | ((repeat' split) <;> first | assumption | (simp (contextual := true) (maxDischargeDepth := 40) [h]; done) | ((simp (contextual := true) (maxDischargeDepth := 40) [h]) <;> (repeat' split) <;> simp (contextual := true) (maxDischargeDepth := 40) [h]))

@[simp↓] theorem ext_State_latchCh (s : State) (c : Nat) (h : Ext r s) :
    Ext r (State.latchCh s c) := by
  unfold State.latchCh
  first
  | (simp (contextual := true) (maxDischargeDepth := 40) [h]; done)
  | ((repeat' split) <;> first | assumption | (simp (contextual := true) (maxDischargeDepth := 40) [h]; done) | ((simp (contextual := true) (maxDischargeDepth := 40) [h]) <;> (repeat' split) <;> simp (contextual := true) (maxDischargeDepth := 40) [h]))

@[simp↓] theorem ext_State_latchAin (s : State) (i : Nat) (h : Ext r s) :
    Ext r (State.latchAin s i) := by
  unfold State.latchAin
  first
  | (simp (contextual := true) (maxDischargeDepth := 40) [h]; done)
  | ((repeat' split) <;> first | assumption | (simp (contextual := true) (maxDischargeDepth := 40) [h]; done) | ((simp (contextual := true) (maxDischargeDepth := 40) [h]) <;> (repeat' split) <;> simp (contextual := true) (maxDischargeDepth := 40) [h]))

@[simp↓] theorem ext_State_latchAout (s : State) (a : Nat) (h : Ext r s) :
    Ext r (State.latchAout s a) := by
  unfold State.latchAout
  first
  | (simp (contextual := true) (maxDischargeDepth := 40) [h]; done)
  | ((repeat' split) <;> first | assumption | (simp (contextual := true) (maxDischargeDepth := 40) [h]; done) | ((simp (contextual := true) (maxDischargeDepth := 40) [h]) <;> (repeat' split) <;> simp (contextual := true) (maxDischargeDepth := 40) [h]))

@[simp↓] theorem ext_State_latchGrp (s : State) (g : Nat) (h : Ext r s) :
    Ext r (State.latchGrp s g) := by
  unfold State.latchGrp
  first
  | (simp (contextual := true) (maxDischargeDepth := 40) [h]; done)
  | ((repeat' split) <;> first | assumption | (simp (contextual := true) (maxDischargeDepth := 40) [h]; done) | ((simp (contextual := true) (maxDischargeDepth := 40) [h]) <;> (repeat' split) <;> simp (contextual := true) (maxDischargeDepth := 40) [h]))

@[simp↓] theorem ext_State_latchLocal (s : State) (h : Ext r s) :
    Ext r (State.latchLocal s) := by
  unfold State.latchLocal
  first
  | (simp (contextual := true) (maxDischargeDepth := 40) [h]; done)
  | ((repeat' split) <;> first | assumption | (simp (contextual := true) (maxDischargeDepth := 40) [h]; done) | ((simp (contextual := true) (maxDischargeDepth := 40) [h]) <;> (repeat' split) <;> simp (contextual := true) (maxDischargeDepth := 40) [h]))

@[simp↓] theorem ext_State_applyCh (s : State) (c : Nat) (v : F32) (a : Nat) (h : Ext r s) :
    Ext r (State.applyCh s c v a) := by
  unfold State.applyCh
  first
  | (simp (contextual := true) (maxDischargeDepth := 40) [h]; done)
  | ((repeat' split) <;> first | assumption | (simp (contextual := true) (maxDischargeDepth := 40) [h]; done) | ((simp (contextual := true) (maxDischargeDepth := 40) [h]) <;> (repeat' split) <;> simp (contextual := true) (maxDischargeDepth := 40) [h]))

@[simp↓] theorem ext_State_applyAout (s : State) (k : Nat) (v : F32) (a : Nat) (h : Ext r s) :
    Ext r (State.applyAout s k v a) := by
  unfold State.applyAout
  first
  | (simp (contextual := true) (maxDischargeDepth := 40) [h]; done)
  | ((repeat' split) <;> first | assumption | (simp (contextual := true) (maxDischargeDepth := 40) [h]; done) | ((simp (contextual := true) (maxDischargeDepth := 40) [h]) <;> (repeat' split) <;> simp (contextual := true) (maxDischargeDepth := 40) [h]))

@[simp↓] theorem ext_State_applyLocal (s : State) (p : Nat) (v : F32) (a : Nat) (h : Ext r s) :
    Ext r (State.applyLocal s p v a) := by
  unfold State.applyLocal
  first
  | (simp (contextual := true) (maxDischargeDepth := 40) [h]; done)
  | ((repeat' split) <;> first | assumption | (simp (contextual := true) (maxDischargeDepth := 40) [h]; done) | ((simp (contextual := true) (maxDischargeDepth := 40) [h]) <;> (repeat' split) <;> simp (contextual := true) (maxDischargeDepth := 40) [h]))

@[simp↓] theorem ext_State_queueMode (s : State) (c : Nat) (m : Nat) (h : Ext r s) :
    Ext r (State.queueMode s c m) := by
  unfold State.queueMode
  first
  | (simp (contextual := true) (maxDischargeDepth := 40) [h]; done)
  | ((repeat' split) <;> first | assumption | (simp (contextual := true) (maxDischargeDepth := 40) [h]; done) | ((simp (contextual := true) (maxDischargeDepth := 40) [h]) <;> (repeat' split) <;> simp (contextual := true) (maxDischargeDepth := 40) [h]))

@[simp↓] theorem ext_State_queueRange (s : State) (a : Nat) (m : Nat) (h : Ext r s) :
    Ext r (State.queueRange s a m) := by
  unfold State.queueRange
  first
  | (simp (contextual := true) (maxDischargeDepth := 40) [h]; done)
  | ((repeat' split) <;> first | assumption | (simp (contextual := true) (maxDischargeDepth := 40) [h]; done) | ((simp (contextual := true) (maxDischargeDepth := 40) [h]) <;> (repeat' split) <;> simp (contextual := true) (maxDischargeDepth := 40) [h]))

@[simp↓] theorem ext_State_startModes (s : State) (h : Ext r s) :
    Ext r (State.startModes s) := by
  unfold State.startModes
  refine ext_foldl (ext_foldl h ?_) ?_
  · intro a x ha
    split
    · simp (contextual := true) (maxDischargeDepth := 40) [ha]
    · exact ha
  · intro a x ha
    split
    · simp (contextual := true) (maxDischargeDepth := 40) [ha]
    · exact ha

@[simp↓] theorem ext_State_firstOutCfg (s : State) (h : Ext r s) :
    Ext r (State.firstOutCfg s) := by
  unfold State.firstOutCfg
  first
  | (simp (contextual := true) (maxDischargeDepth := 40) [h]; done)
  | ((repeat' split) <;> first | assumption | (simp (contextual := true) (maxDischargeDepth := 40) [h]; done) | ((simp (contextual := true) (maxDischargeDepth := 40) [h]) <;> (repeat' split) <;> simp (contextual := true) (maxDischargeDepth := 40) [h]))

@[simp↓] theorem ext_State_restartFilters (s : State) (f : Nat → Bool) (h : Ext r s) :
    Ext r (State.restartFilters s f) := by
  unfold State.restartFilters
  first
  | (simp (contextual := true) (maxDischargeDepth := 40) [h]; done)
  | ((repeat' split) <;> first | assumption | (simp (contextual := true) (maxDischargeDepth := 40) [h]; done) | ((simp (contextual := true) (maxDischargeDepth := 40) [h]) <;> (repeat' split) <;> simp (contextual := true) (maxDischargeDepth := 40) [h]))

@[simp↓] theorem ext_State_resumeGroups (s : State) (h : Ext r s) :
    Ext r (State.resumeGroups s) := by
  unfold State.resumeGroups
  first
  | (simp (contextual := true) (maxDischargeDepth := 40) [h]; done)
  | ((repeat' split) <;> first | assumption | (simp (contextual := true) (maxDischargeDepth := 40) [h]; done) | ((simp (contextual := true) (maxDischargeDepth := 40) [h]) <;> (repeat' split) <;> simp (contextual := true) (maxDischargeDepth := 40) [h]))

@[simp↓] theorem ext_State_dieFrame (s : State) (ok : Bool) (h : Ext r s) :
    Ext r (State.dieFrame s ok) := by
  unfold State.dieFrame
  first
  | (simp (contextual := true) (maxDischargeDepth := 40) [h]; done)
  | ((repeat' split) <;> first | assumption | (simp (contextual := true) (maxDischargeDepth := 40) [h]; done) | ((simp (contextual := true) (maxDischargeDepth := 40) [h]) <;> (repeat' split) <;> simp (contextual := true) (maxDischargeDepth := 40) [h]))

@[simp↓] theorem ext_State_dieClaim (s : State) (h : Ext r s) :
    Ext r (State.dieClaim s) := by
  unfold State.dieClaim
  first
  | (simp (contextual := true) (maxDischargeDepth := 40) [h]; done)
  | ((repeat' split) <;> first | assumption | (simp (contextual := true) (maxDischargeDepth := 40) [h]; done) | ((simp (contextual := true) (maxDischargeDepth := 40) [h]) <;> (repeat' split) <;> simp (contextual := true) (maxDischargeDepth := 40) [h]))

@[simp↓] theorem ext_State_dieMeasure (s : State) (obs : TickIn) (h : Ext r s) :
    Ext r (State.dieMeasure s obs) := by
  unfold State.dieMeasure
  first
  | (simp (contextual := true) (maxDischargeDepth := 40) [h]; done)
  | ((repeat' split) <;> first | assumption | (simp (contextual := true) (maxDischargeDepth := 40) [h]; done) | ((simp (contextual := true) (maxDischargeDepth := 40) [h]) <;> (repeat' split) <;> simp (contextual := true) (maxDischargeDepth := 40) [h]))

@[simp↓] theorem ext_State_fieldTick (s : State) (obs : TickIn) (h : Ext r s) :
    Ext r (State.fieldTick s obs) := by
  unfold State.fieldTick
  first
  | (simp (contextual := true) (maxDischargeDepth := 40) [h]; done)
  | ((repeat' split) <;> first | assumption | (simp (contextual := true) (maxDischargeDepth := 40) [h]; done) | ((simp (contextual := true) (maxDischargeDepth := 40) [h]) <;> (repeat' split) <;> simp (contextual := true) (maxDischargeDepth := 40) [h]))

@[simp↓] theorem ext_State_setCanCh (s : State) (c : Nat) (v : CanCh) (h : Ext r s) :
    Ext r (State.setCanCh s c v) := by
  unfold State.setCanCh
  first
  | (simp (contextual := true) (maxDischargeDepth := 40) [h]; done)
  | ((repeat' split) <;> first | assumption | (simp (contextual := true) (maxDischargeDepth := 40) [h]; done) | ((simp (contextual := true) (maxDischargeDepth := 40) [h]) <;> (repeat' split) <;> simp (contextual := true) (maxDischargeDepth := 40) [h]))

@[simp↓] theorem ext_State_setCanBuf (s : State) (c : Nat) (b : Nat) (v : CanBuf) (h : Ext r s) :
    Ext r (State.setCanBuf s c b v) := by
  unfold State.setCanBuf
  first
  | (simp (contextual := true) (maxDischargeDepth := 40) [h]; done)
  | ((repeat' split) <;> first | assumption | (simp (contextual := true) (maxDischargeDepth := 40) [h]; done) | ((simp (contextual := true) (maxDischargeDepth := 40) [h]) <;> (repeat' split) <;> simp (contextual := true) (maxDischargeDepth := 40) [h]))

@[simp↓] theorem ext_State_setCanPt (s : State) (p : Nat) (v : CanPt) (h : Ext r s) :
    Ext r (State.setCanPt s p v) := by
  unfold State.setCanPt
  first
  | (simp (contextual := true) (maxDischargeDepth := 40) [h]; done)
  | ((repeat' split) <;> first | assumption | (simp (contextual := true) (maxDischargeDepth := 40) [h]; done) | ((simp (contextual := true) (maxDischargeDepth := 40) [h]) <;> (repeat' split) <;> simp (contextual := true) (maxDischargeDepth := 40) [h]))

@[simp↓] theorem ext_State_canDiag (s : State) (p : Nat) (d : Nat) (on : Bool) (h : Ext r s) :
    Ext r (State.canDiag s p d on) := by
  unfold State.canDiag
  first
  | (simp (contextual := true) (maxDischargeDepth := 40) [h]; done)
  | ((repeat' split) <;> first | assumption | (simp (contextual := true) (maxDischargeDepth := 40) [h]; done) | ((simp (contextual := true) (maxDischargeDepth := 40) [h]) <;> (repeat' split) <;> simp (contextual := true) (maxDischargeDepth := 40) [h]))

@[simp↓] theorem ext_State_canStart (s : State) (c : Nat) (h : Ext r s) :
    Ext r (State.canStart s c) := by
  unfold State.canStart
  first
  | (simp (contextual := true) (maxDischargeDepth := 40) [h]; done)
  | ((repeat' split) <;> first | assumption | (simp (contextual := true) (maxDischargeDepth := 40) [h]; done) | ((simp (contextual := true) (maxDischargeDepth := 40) [h]) <;> (repeat' split) <;> simp (contextual := true) (maxDischargeDepth := 40) [h]))

@[simp↓] theorem ext_State_queueBuf (s : State) (c : Nat) (b : Nat) (h : Ext r s) :
    Ext r (State.queueBuf s c b) := by
  unfold State.queueBuf
  first
  | (simp (contextual := true) (maxDischargeDepth := 40) [h]; done)
  | ((repeat' split) <;> first | assumption | (simp (contextual := true) (maxDischargeDepth := 40) [h]; done) | ((simp (contextual := true) (maxDischargeDepth := 40) [h]) <;> (repeat' split) <;> simp (contextual := true) (maxDischargeDepth := 40) [h]))

@[simp↓] theorem ext_State_canHandleEnd (s : State) (c : Nat) (b : Nat) (outcome : Nat) (h : Ext r s) :
    Ext r (State.canHandleEnd s c b outcome) := by
  unfold State.canHandleEnd
  first
  | (simp (contextual := true) (maxDischargeDepth := 40) [h]; done)
  | ((repeat' split) <;> first | assumption | (simp (contextual := true) (maxDischargeDepth := 40) [h]; done) | ((simp (contextual := true) (maxDischargeDepth := 40) [h]) <;> (repeat' split) <;> simp (contextual := true) (maxDischargeDepth := 40) [h]))

@[simp↓] theorem ext_State_canEnd (s : State) (c : Nat) (b : Nat) (outcome : Nat) (late : Bool) (h : Ext r s) :
    Ext r (State.canEnd s c b outcome late) := by
  unfold State.canEnd
  first
  | (simp (contextual := true) (maxDischargeDepth := 40) [h]; done)
  | ((repeat' split) <;> first | assumption | (simp (contextual := true) (maxDischargeDepth := 40) [h]; done) | ((simp (contextual := true) (maxDischargeDepth := 40) [h]) <;> (repeat' split) <;> simp (contextual := true) (maxDischargeDepth := 40) [h]))

@[simp↓] theorem ext_State_canEndHost (s : State) (c : Nat) (outcome : Nat) (shots : Bool) (h : Ext r s) :
    Ext r (State.canEndHost s c outcome shots) := by
  unfold State.canEndHost
  first
  | (simp (contextual := true) (maxDischargeDepth := 40) [h]; done)
  | ((repeat' split) <;> first | assumption | (simp (contextual := true) (maxDischargeDepth := 40) [h]; done) | ((simp (contextual := true) (maxDischargeDepth := 40) [h]) <;> (repeat' split) <;> simp (contextual := true) (maxDischargeDepth := 40) [h]))

@[simp↓] theorem ext_State_canHold (s : State) (h : Ext r s) :
    Ext r (State.canHold s) := by
  unfold State.canHold
  first
  | (simp (contextual := true) (maxDischargeDepth := 40) [h]; done)
  | ((repeat' split) <;> first | assumption | (simp (contextual := true) (maxDischargeDepth := 40) [h]; done) | ((simp (contextual := true) (maxDischargeDepth := 40) [h]) <;> (repeat' split) <;> simp (contextual := true) (maxDischargeDepth := 40) [h]))

@[simp↓] theorem ext_State_canStartAll (s : State) (h : Ext r s) :
    Ext r (State.canStartAll s) := by
  unfold State.canStartAll
  first
  | (simp (contextual := true) (maxDischargeDepth := 40) [h]; done)
  | ((repeat' split) <;> first | assumption | (simp (contextual := true) (maxDischargeDepth := 40) [h]; done) | ((simp (contextual := true) (maxDischargeDepth := 40) [h]) <;> (repeat' split) <;> simp (contextual := true) (maxDischargeDepth := 40) [h]))

@[simp↓] theorem ext_State_canPtStatus (s : State) (c : Nat) (b : Nat) (p : Nat) (rx : Bool) (h : Ext r s) :
    Ext r (State.canPtStatus s c b p rx) := by
  unfold State.canPtStatus
  first
  | (simp (contextual := true) (maxDischargeDepth := 40) [h]; done)
  | ((repeat' split) <;> first | assumption | (simp (contextual := true) (maxDischargeDepth := 40) [h]; done) | ((simp (contextual := true) (maxDischargeDepth := 40) [h]) <;> (repeat' split) <;> simp (contextual := true) (maxDischargeDepth := 40) [h]))

@[simp↓] theorem ext_State_canStatuses (s : State) (h : Ext r s) :
    Ext r (State.canStatuses s) := by
  unfold State.canStatuses
  first
  | (simp (contextual := true) (maxDischargeDepth := 40) [h]; done)
  | ((repeat' split) <;> first | assumption | (simp (contextual := true) (maxDischargeDepth := 40) [h]; done) | ((simp (contextual := true) (maxDischargeDepth := 40) [h]) <;> (repeat' split) <;> simp (contextual := true) (maxDischargeDepth := 40) [h]))

@[simp↓] theorem ext_State_decodeSig (s : State) (f : CanFrame) (v : PVal) (h : Ext r s) :
    Ext r (State.decodeSig s f v) := by
  unfold State.decodeSig
  first
  | (simp (contextual := true) (maxDischargeDepth := 40) [h]; done)
  | ((repeat' split) <;> first | assumption | (simp (contextual := true) (maxDischargeDepth := 40) [h]; done) | ((simp (contextual := true) (maxDischargeDepth := 40) [h]) <;> (repeat' split) <;> simp (contextual := true) (maxDischargeDepth := 40) [h]))

@[simp↓] theorem ext_State_decodeBuf (s : State) (c : Nat) (b : Nat) (h : Ext r s) :
    Ext r (State.decodeBuf s c b) := by
  unfold State.decodeBuf
  first
  | (simp (contextual := true) (maxDischargeDepth := 40) [h]; done)
  | ((repeat' split) <;> first | assumption | (simp (contextual := true) (maxDischargeDepth := 40) [h]; done) | ((simp (contextual := true) (maxDischargeDepth := 40) [h]) <;> (repeat' split) <;> simp (contextual := true) (maxDischargeDepth := 40) [h]))

@[simp↓] theorem ext_State_canDecode (s : State) (h : Ext r s) :
    Ext r (State.canDecode s) := by
  unfold State.canDecode
  first
  | (simp (contextual := true) (maxDischargeDepth := 40) [h]; done)
  | ((repeat' split) <;> first | assumption | (simp (contextual := true) (maxDischargeDepth := 40) [h]; done) | ((simp (contextual := true) (maxDischargeDepth := 40) [h]) <;> (repeat' split) <;> simp (contextual := true) (maxDischargeDepth := 40) [h]))

@[simp↓] theorem ext_State_canElapse (s : State) (h : Ext r s) :
    Ext r (State.canElapse s) := by
  unfold State.canElapse
  first
  | (simp (contextual := true) (maxDischargeDepth := 40) [h]; done)
  | ((repeat' split) <;> first | assumption | (simp (contextual := true) (maxDischargeDepth := 40) [h]; done) | ((simp (contextual := true) (maxDischargeDepth := 40) [h]) <;> (repeat' split) <;> simp (contextual := true) (maxDischargeDepth := 40) [h]))

@[simp↓] theorem ext_State_canTick (s : State) (h : Ext r s) :
    Ext r (State.canTick s) := by
  unfold State.canTick
  first
  | (simp (contextual := true) (maxDischargeDepth := 40) [h]; done)
  | ((repeat' split) <;> first | assumption | (simp (contextual := true) (maxDischargeDepth := 40) [h]; done) | ((simp (contextual := true) (maxDischargeDepth := 40) [h]) <;> (repeat' split) <;> simp (contextual := true) (maxDischargeDepth := 40) [h]))

@[simp↓] theorem ext_State_keepLatch (s : State) (h : Ext r s) :
    Ext r (State.keepLatch s) := by
  unfold State.keepLatch
  first
  | (simp (contextual := true) (maxDischargeDepth := 40) [h]; done)
  | ((repeat' split) <;> first | assumption | (simp (contextual := true) (maxDischargeDepth := 40) [h]; done) | ((simp (contextual := true) (maxDischargeDepth := 40) [h]) <;> (repeat' split) <;> simp (contextual := true) (maxDischargeDepth := 40) [h]))

@[simp↓] theorem ext_State_relatch (s : State) (old : State) (h : Ext r s) :
    Ext r (State.relatch s old) := by
  unfold State.relatch
  first
  | (simp (contextual := true) (maxDischargeDepth := 40) [h]; done)
  | ((repeat' split) <;> first | assumption | (simp (contextual := true) (maxDischargeDepth := 40) [h]; done) | ((simp (contextual := true) (maxDischargeDepth := 40) [h]) <;> (repeat' split) <;> simp (contextual := true) (maxDischargeDepth := 40) [h]))

@[simp↓] theorem ext_State_applyCan (s : State) (p : Nat) (v : F32) (a : Nat) (h : Ext r s) :
    Ext r (State.applyCan s p v a) := by
  unfold State.applyCan
  first
  | (simp (contextual := true) (maxDischargeDepth := 40) [h]; done)
  | ((repeat' split) <;> first | assumption | (simp (contextual := true) (maxDischargeDepth := 40) [h]; done) | ((simp (contextual := true) (maxDischargeDepth := 40) [h]) <;> (repeat' split) <;> simp (contextual := true) (maxDischargeDepth := 40) [h]))

@[simp↓] theorem ext_State_applyPoint (s : State) (p : Nat) (v : F32) (a : Nat) (h : Ext r s) :
    Ext r (State.applyPoint s p v a) := by
  unfold State.applyPoint
  first
  | (simp (contextual := true) (maxDischargeDepth := 40) [h]; done)
  | ((repeat' split) <;> first | assumption | (simp (contextual := true) (maxDischargeDepth := 40) [h]; done) | ((simp (contextual := true) (maxDischargeDepth := 40) [h]) <;> (repeat' split) <;> simp (contextual := true) (maxDischargeDepth := 40) [h]))

@[simp↓] theorem ext_State_claimSeen (s : State) (claim : Nat) (h : Ext r s) :
    Ext r (State.claimSeen s claim) := by
  unfold State.claimSeen
  first
  | (simp (contextual := true) (maxDischargeDepth := 40) [h]; done)
  | ((repeat' split) <;> first | assumption | (simp (contextual := true) (maxDischargeDepth := 40) [h]; done) | ((simp (contextual := true) (maxDischargeDepth := 40) [h]) <;> (repeat' split) <;> simp (contextual := true) (maxDischargeDepth := 40) [h]))

@[simp↓] theorem ext_State_storeFrame (s : State) (c : Nat) (b : Nat) (f : CanFrame) (h : Ext r s) :
    Ext r (State.storeFrame s c b f) := by
  unfold State.storeFrame
  first
  | (simp (contextual := true) (maxDischargeDepth := 40) [h]; done)
  | ((repeat' split) <;> first | assumption | (simp (contextual := true) (maxDischargeDepth := 40) [h]; done) | ((simp (contextual := true) (maxDischargeDepth := 40) [h]) <;> (repeat' split) <;> simp (contextual := true) (maxDischargeDepth := 40) [h]))

@[simp↓] theorem ext_State_hpSignal (s : State) (c : Nat) (f : CanFrame) (h : Ext r s) :
    Ext r (State.hpSignal s c f) := by
  unfold State.hpSignal
  first
  | (simp (contextual := true) (maxDischargeDepth := 40) [h]; done)
  | ((repeat' split) <;> first | assumption | (simp (contextual := true) (maxDischargeDepth := 40) [h]; done) | ((simp (contextual := true) (maxDischargeDepth := 40) [h]) <;> (repeat' split) <;> simp (contextual := true) (maxDischargeDepth := 40) [h]))

@[simp↓] theorem ext_State_canRecOk (s : State) (c : Nat) (h : Ext r s) :
    Ext r (State.canRecOk s c) := by
  unfold State.canRecOk
  first
  | (simp (contextual := true) (maxDischargeDepth := 40) [h]; done)
  | ((repeat' split) <;> first | assumption | (simp (contextual := true) (maxDischargeDepth := 40) [h]; done) | ((simp (contextual := true) (maxDischargeDepth := 40) [h]) <;> (repeat' split) <;> simp (contextual := true) (maxDischargeDepth := 40) [h]))

@[simp↓] theorem ext_State_canClaimRx (s : State) (c : Nat) (f : CanFrame) (h : Ext r s) :
    Ext r (State.canClaimRx s c f) := by
  unfold State.canClaimRx
  first
  | (simp (contextual := true) (maxDischargeDepth := 40) [h]; done)
  | ((repeat' split) <;> first | assumption | (simp (contextual := true) (maxDischargeDepth := 40) [h]; done) | ((simp (contextual := true) (maxDischargeDepth := 40) [h]) <;> (repeat' split) <;> simp (contextual := true) (maxDischargeDepth := 40) [h]))

@[simp↓] theorem ext_State_canRx (s : State) (c : Nat) (f : CanFrame) (h : Ext r s) :
    Ext r (State.canRx s c f) := by
  unfold State.canRx
  first
  | (simp (contextual := true) (maxDischargeDepth := 40) [h]; done)
  | ((repeat' split) <;> first | assumption | (simp (contextual := true) (maxDischargeDepth := 40) [h]; done) | ((simp (contextual := true) (maxDischargeDepth := 40) [h]) <;> (repeat' split) <;> simp (contextual := true) (maxDischargeDepth := 40) [h]))

theorem ext_execCanFrameRx (ch : Nat) (f : CanFrame) (remote : Bool) (s : State) (h : Ext r s) :
    ExtOut r (execCanFrameRx ch f remote s) := by
  unfold execCanFrameRx
  first
  | (simp (contextual := true) (maxDischargeDepth := 40) [h]; done)
  | (apply extOut_next; (repeat' split) <;> first | assumption | (simp (contextual := true) (maxDischargeDepth := 40) [h]; done) | ((simp (contextual := true) (maxDischargeDepth := 40) [h]) <;> (repeat' split) <;> simp (contextual := true) (maxDischargeDepth := 40) [h]))

theorem ext_execCanReceiveError (ch : Nat) (inc : Nat) (s : State) (h : Ext r s) :
    ExtOut r (execCanReceiveError ch inc s) := by
  unfold execCanReceiveError
  first
  | (simp (contextual := true) (maxDischargeDepth := 40) [h]; done)
  | (apply extOut_next; (repeat' split) <;> first | assumption | (simp (contextual := true) (maxDischargeDepth := 40) [h]; done) | ((simp (contextual := true) (maxDischargeDepth := 40) [h]) <;> (repeat' split) <;> simp (contextual := true) (maxDischargeDepth := 40) [h]))

theorem ext_execCanBusIntegration (ch : Nat) (s : State) (h : Ext r s) :
    ExtOut r (execCanBusIntegration ch s) := by
  unfold execCanBusIntegration
  first
  | (simp (contextual := true) (maxDischargeDepth := 40) [h]; done)
  | (apply extOut_next; (repeat' split) <;> first | assumption | (simp (contextual := true) (maxDischargeDepth := 40) [h]; done) | ((simp (contextual := true) (maxDischargeDepth := 40) [h]) <;> (repeat' split) <;> simp (contextual := true) (maxDischargeDepth := 40) [h]))

theorem ext_execCanCyclicTrigger (ch : Nat) (buf : Nat) (s : State) (h : Ext r s) :
    ExtOut r (execCanCyclicTrigger ch buf s) := by
  unfold execCanCyclicTrigger
  first
  | (simp (contextual := true) (maxDischargeDepth := 40) [h]; done)
  | (apply extOut_next; (repeat' split) <;> first | assumption | (simp (contextual := true) (maxDischargeDepth := 40) [h]; done) | ((simp (contextual := true) (maxDischargeDepth := 40) [h]) <;> (repeat' split) <;> simp (contextual := true) (maxDischargeDepth := 40) [h]))

@[simp↓] theorem ext_State_markSat (s : State) (c : Nat) (b : Nat) (h : Ext r s) :
    Ext r (State.markSat s c b) := by
  unfold State.markSat
  first
  | (simp (contextual := true) (maxDischargeDepth := 40) [h]; done)
  | ((repeat' split) <;> first | assumption | (simp (contextual := true) (maxDischargeDepth := 40) [h]; done) | ((simp (contextual := true) (maxDischargeDepth := 40) [h]) <;> (repeat' split) <;> simp (contextual := true) (maxDischargeDepth := 40) [h]))

@[simp↓] theorem ext_State_canCommit (s : State) (c : Nat) (b : Nat) (h : Ext r s) :
    Ext r (State.canCommit s c b) := by
  unfold State.canCommit
  first
  | (simp (contextual := true) (maxDischargeDepth := 40) [h]; done)
  | ((repeat' split) <;> first | assumption | (simp (contextual := true) (maxDischargeDepth := 40) [h]; done) | ((simp (contextual := true) (maxDischargeDepth := 40) [h]) <;> (repeat' split) <;> simp (contextual := true) (maxDischargeDepth := 40) [h]))

theorem ext_execCanCommitPoint (ch : Nat) (buf : Nat) (s : State) (h : Ext r s) :
    ExtOut r (execCanCommitPoint ch buf s) := by
  unfold execCanCommitPoint
  first
  | (simp (contextual := true) (maxDischargeDepth := 40) [h]; done)
  | (apply extOut_next; (repeat' split) <;> first | assumption | (simp (contextual := true) (maxDischargeDepth := 40) [h]; done) | ((simp (contextual := true) (maxDischargeDepth := 40) [h]) <;> (repeat' split) <;> simp (contextual := true) (maxDischargeDepth := 40) [h]))

@[simp↓] theorem ext_State_markBuf (s : State) (c : Nat) (b : Nat) (d : Nat) (h : Ext r s) :
    Ext r (State.markBuf s c b d) := by
  unfold State.markBuf
  first
  | (simp (contextual := true) (maxDischargeDepth := 40) [h]; done)
  | ((repeat' split) <;> first | assumption | (simp (contextual := true) (maxDischargeDepth := 40) [h]; done) | ((simp (contextual := true) (maxDischargeDepth := 40) [h]) <;> (repeat' split) <;> simp (contextual := true) (maxDischargeDepth := 40) [h]))

@[simp↓] theorem ext_State_confirmSent (s : State) (l : List (Nat × Nat × F32)) (h : Ext r s) :
    Ext r (State.confirmSent s l) := by
  unfold State.confirmSent
  first
  | (simp (contextual := true) (maxDischargeDepth := 40) [h]; done)
  | ((repeat' split) <;> first | assumption | (simp (contextual := true) (maxDischargeDepth := 40) [h]; done) | ((simp (contextual := true) (maxDischargeDepth := 40) [h]) <;> (repeat' split) <;> simp (contextual := true) (maxDischargeDepth := 40) [h]))

@[simp↓] theorem ext_State_canSent (s : State) (c : Nat) (b : Nat) (h : Ext r s) :
    Ext r (State.canSent s c b) := by
  unfold State.canSent
  first
  | (simp (contextual := true) (maxDischargeDepth := 40) [h]; done)
  | ((repeat' split) <;> first | assumption | (simp (contextual := true) (maxDischargeDepth := 40) [h]; done) | ((simp (contextual := true) (maxDischargeDepth := 40) [h]) <;> (repeat' split) <;> simp (contextual := true) (maxDischargeDepth := 40) [h]))

@[simp↓] theorem ext_State_canRetry (s : State) (c : Nat) (b : Nat) (failCode : Nat) (h : Ext r s) :
    Ext r (State.canRetry s c b failCode) := by
  unfold State.canRetry
  first
  | (simp (contextual := true) (maxDischargeDepth := 40) [h]; done)
  | ((repeat' split) <;> first | assumption | (simp (contextual := true) (maxDischargeDepth := 40) [h]; done) | ((simp (contextual := true) (maxDischargeDepth := 40) [h]) <;> (repeat' split) <;> simp (contextual := true) (maxDischargeDepth := 40) [h]))

@[simp↓] theorem ext_State_enterBusOff (s : State) (c : Nat) (h : Ext r s) :
    Ext r (State.enterBusOff s c) := by
  unfold State.enterBusOff
  first
  | (simp (contextual := true) (maxDischargeDepth := 40) [h]; done)
  | ((repeat' split) <;> first | assumption | (simp (contextual := true) (maxDischargeDepth := 40) [h]; done) | ((simp (contextual := true) (maxDischargeDepth := 40) [h]) <;> (repeat' split) <;> simp (contextual := true) (maxDischargeDepth := 40) [h]))

@[simp↓] theorem ext_State_canTxError (s : State) (c : Nat) (b : Nat) (inc : Nat) (h : Ext r s) :
    Ext r (State.canTxError s c b inc) := by
  unfold State.canTxError
  first
  | (simp (contextual := true) (maxDischargeDepth := 40) [h]; done)
  | ((repeat' split) <;> first | assumption | (simp (contextual := true) (maxDischargeDepth := 40) [h]; done) | ((simp (contextual := true) (maxDischargeDepth := 40) [h]) <;> (repeat' split) <;> simp (contextual := true) (maxDischargeDepth := 40) [h]))

@[simp↓] theorem ext_State_canLoop (s : State) (c : Nat) (b : Nat) (loopDelay : Nat) (h : Ext r s) :
    Ext r (State.canLoop s c b loopDelay) := by
  unfold State.canLoop
  first
  | (simp (contextual := true) (maxDischargeDepth := 40) [h]; done)
  | ((repeat' split) <;> first | assumption | (simp (contextual := true) (maxDischargeDepth := 40) [h]; done) | ((simp (contextual := true) (maxDischargeDepth := 40) [h]) <;> (repeat' split) <;> simp (contextual := true) (maxDischargeDepth := 40) [h]))

theorem ext_execCanTxEnd (ch : Nat) (buf : Nat) (ok : Bool) (arbLost : Bool) (inc : Nat) (loopDelay : Nat) (s : State) (h : Ext r s) :
    ExtOut r (execCanTxEnd ch buf ok arbLost inc loopDelay s) := by
  unfold execCanTxEnd
  first
  | (simp (contextual := true) (maxDischargeDepth := 40) [h]; done)
  | (apply extOut_next; (repeat' split) <;> first | assumption | (simp (contextual := true) (maxDischargeDepth := 40) [h]; done) | ((simp (contextual := true) (maxDischargeDepth := 40) [h]) <;> (repeat' split) <;> simp (contextual := true) (maxDischargeDepth := 40) [h]))

theorem ext_execCanTxTimeout (ch : Nat) (buf : Nat) (s : State) (h : Ext r s) :
    ExtOut r (execCanTxTimeout ch buf s) := by
  unfold execCanTxTimeout
  first
  | (simp (contextual := true) (maxDischargeDepth := 40) [h]; done)
  | (apply extOut_next; (repeat' split) <;> first | assumption | (simp (contextual := true) (maxDischargeDepth := 40) [h]; done) | ((simp (contextual := true) (maxDischargeDepth := 40) [h]) <;> (repeat' split) <;> simp (contextual := true) (maxDischargeDepth := 40) [h]))

theorem ext_execCanBusoffHoldEnd (ch : Nat) (s : State) (h : Ext r s) :
    ExtOut r (execCanBusoffHoldEnd ch s) := by
  unfold execCanBusoffHoldEnd
  first
  | (simp (contextual := true) (maxDischargeDepth := 40) [h]; done)
  | (apply extOut_next; (repeat' split) <;> first | assumption | (simp (contextual := true) (maxDischargeDepth := 40) [h]; done) | ((simp (contextual := true) (maxDischargeDepth := 40) [h]) <;> (repeat' split) <;> simp (contextual := true) (maxDischargeDepth := 40) [h]))

theorem ext_execCanRecovered (ch : Nat) (s : State) (h : Ext r s) :
    ExtOut r (execCanRecovered ch s) := by
  unfold execCanRecovered
  first
  | (simp (contextual := true) (maxDischargeDepth := 40) [h]; done)
  | (apply extOut_next; (repeat' split) <;> first | assumption | (simp (contextual := true) (maxDischargeDepth := 40) [h]; done) | ((simp (contextual := true) (maxDischargeDepth := 40) [h]) <;> (repeat' split) <;> simp (contextual := true) (maxDischargeDepth := 40) [h]))

@[simp↓] theorem ext_canRecoverVerdict (ch : Nat) (s : State) :
    (canRecoverVerdict ch s).Extends := by
  unfold canRecoverVerdict
  repeat' split
  all_goals first | (exact extends_reject _) | (simp (contextual := true) (maxDischargeDepth := 40) ; done) | (intro r t h; simp (contextual := true) (maxDischargeDepth := 40) [h]; done) | (dsimp only; (repeat' split) <;> simp (contextual := true) (maxDischargeDepth := 40))

theorem ext_execCanRecover (hh : Hdr) (ch : Nat) (s : State) (h : Ext r s) :
    ExtOut r (execCanRecover hh ch s) := by
  unfold execCanRecover
  first
  | (simp (contextual := true) (maxDischargeDepth := 40) [h]; done)
  | (apply extOut_next; (repeat' split) <;> first | assumption | (simp (contextual := true) (maxDischargeDepth := 40) [h]; done) | ((simp (contextual := true) (maxDischargeDepth := 40) [h]) <;> (repeat' split) <;> simp (contextual := true) (maxDischargeDepth := 40) [h]))

@[simp↓] theorem ext_canTransmitVerdict (hh : Hdr) (ch : Nat) (buf : Nat) (data : List Byte) (s : State) :
    (canTransmitVerdict hh ch buf data s).Extends := by
  unfold canTransmitVerdict
  repeat' split
  all_goals first | (exact extends_reject _) | (simp (contextual := true) (maxDischargeDepth := 40) ; done) | (intro r t h; simp (contextual := true) (maxDischargeDepth := 40) [h]; done) | (dsimp only; (repeat' split) <;> simp (contextual := true) (maxDischargeDepth := 40))

theorem ext_execCanTransmit (hh : Hdr) (ch : Nat) (buf : Nat) (data : List Byte) (s : State) (h : Ext r s) :
    ExtOut r (execCanTransmit hh ch buf data s) := by
  unfold execCanTransmit
  first
  | (simp (contextual := true) (maxDischargeDepth := 40) [h]; done)
  | (apply extOut_next; (repeat' split) <;> first | assumption | (simp (contextual := true) (maxDischargeDepth := 40) [h]; done) | ((simp (contextual := true) (maxDischargeDepth := 40) [h]) <;> (repeat' split) <;> simp (contextual := true) (maxDischargeDepth := 40) [h]))

@[simp↓] theorem ext_State_cancelBuf (s : State) (c : Nat) (b : Nat) (h : Ext r s) :
    Ext r (State.cancelBuf s c b) := by
  unfold State.cancelBuf
  first
  | (simp (contextual := true) (maxDischargeDepth := 40) [h]; done)
  | ((repeat' split) <;> first | assumption | (simp (contextual := true) (maxDischargeDepth := 40) [h]; done) | ((simp (contextual := true) (maxDischargeDepth := 40) [h]) <;> (repeat' split) <;> simp (contextual := true) (maxDischargeDepth := 40) [h]))

@[simp↓] theorem ext_canBufCancelVerdict (ch : Nat) (buf : Nat) (s : State) :
    (canBufCancelVerdict ch buf s).Extends := by
  unfold canBufCancelVerdict
  repeat' split
  all_goals first | (exact extends_reject _) | (simp (contextual := true) (maxDischargeDepth := 40) ; done) | (intro r t h; simp (contextual := true) (maxDischargeDepth := 40) [h]; done) | (dsimp only; (repeat' split) <;> simp (contextual := true) (maxDischargeDepth := 40))

theorem ext_execCanBufCancel (hh : Hdr) (ch : Nat) (buf : Nat) (s : State) (h : Ext r s) :
    ExtOut r (execCanBufCancel hh ch buf s) := by
  unfold execCanBufCancel
  first
  | (simp (contextual := true) (maxDischargeDepth := 40) [h]; done)
  | (apply extOut_next; (repeat' split) <;> first | assumption | (simp (contextual := true) (maxDischargeDepth := 40) [h]; done) | ((simp (contextual := true) (maxDischargeDepth := 40) [h]) <;> (repeat' split) <;> simp (contextual := true) (maxDischargeDepth := 40) [h]))

@[simp↓] theorem ext_canHpReadVerdict (hh : Hdr) (ch : Nat) (s : State) :
    (canHpReadVerdict hh ch s).Extends := by
  unfold canHpReadVerdict
  repeat' split
  all_goals first | (exact extends_reject _) | (simp (contextual := true) (maxDischargeDepth := 40) ; done) | (intro r t h; simp (contextual := true) (maxDischargeDepth := 40) [h]; done) | (dsimp only; (repeat' split) <;> simp (contextual := true) (maxDischargeDepth := 40))

theorem ext_execCanHpRead (hh : Hdr) (ch : Nat) (s : State) (h : Ext r s) :
    ExtOut r (execCanHpRead hh ch s) := by
  unfold execCanHpRead
  first
  | (simp (contextual := true) (maxDischargeDepth := 40) [h]; done)
  | (apply extOut_next; (repeat' split) <;> first | assumption | (simp (contextual := true) (maxDischargeDepth := 40) [h]; done) | ((simp (contextual := true) (maxDischargeDepth := 40) [h]) <;> (repeat' split) <;> simp (contextual := true) (maxDischargeDepth := 40) [h]))

end Sys2Proof.Laws
end

