-- ==== Sys2Proof/Laws/TraceImage.lean ====
section
/-! SUPPORT. What the operations of a module may do to the audit log, the sent messages, the waiting commands and the
identity: stations, programs, lanes, the Percolator and models. Each law says that the operation only appends to them. -/

set_option linter.unusedVariables false
set_option linter.unusedSimpArgs false
set_option linter.unusedTactic false
set_option linter.unreachableTactic false
set_option linter.unnecessarySeqFocus false

namespace Sys2Proof.Laws
open Sys2Proof.Machine

variable {r : Trace}

@[simp↓] theorem ext_State_setTask (s : State) (t : Nat) (v : TaskSt) (h : Ext r s) :
    Ext r (State.setTask s t v) := by
  unfold State.setTask
  first
  | (simp (contextual := true) (maxDischargeDepth := 40) [h]; done)
  | ((repeat' split) <;> first | assumption | (simp (contextual := true) (maxDischargeDepth := 40) [h]; done) | ((simp (contextual := true) (maxDischargeDepth := 40) [h]) <;> (repeat' split) <;> simp (contextual := true) (maxDischargeDepth := 40) [h]))

@[simp↓] theorem ext_State_adoptTasks (s : State) (h : Ext r s) :
    Ext r (State.adoptTasks s) := by
  unfold State.adoptTasks
  first
  | (simp (contextual := true) (maxDischargeDepth := 40) [h]; done)
  | ((repeat' split) <;> first | assumption | (simp (contextual := true) (maxDischargeDepth := 40) [h]; done) | ((simp (contextual := true) (maxDischargeDepth := 40) [h]) <;> (repeat' split) <;> simp (contextual := true) (maxDischargeDepth := 40) [h]))

@[simp↓] theorem ext_State_setStn (s : State) (n : Nat) (v : Stn) (h : Ext r s) :
    Ext r (State.setStn s n v) := by
  unfold State.setStn
  first
  | (simp (contextual := true) (maxDischargeDepth := 40) [h]; done)
  | ((repeat' split) <;> first | assumption | (simp (contextual := true) (maxDischargeDepth := 40) [h]; done) | ((simp (contextual := true) (maxDischargeDepth := 40) [h]) <;> (repeat' split) <;> simp (contextual := true) (maxDischargeDepth := 40) [h]))

@[simp↓] theorem ext_State_mapStnPts (s : State) (n : Nat) (f : Nat → Point → Point) (h : Ext r s) :
    Ext r (State.mapStnPts s n f) := by
  unfold State.mapStnPts
  first
  | (simp (contextual := true) (maxDischargeDepth := 40) [h]; done)
  | ((repeat' split) <;> first | assumption | (simp (contextual := true) (maxDischargeDepth := 40) [h]; done) | ((simp (contextual := true) (maxDischargeDepth := 40) [h]) <;> (repeat' split) <;> simp (contextual := true) (maxDischargeDepth := 40) [h]))

@[simp↓] theorem ext_State_mapStnOuts (s : State) (n : Nat) (f : Point → Point) (h : Ext r s) :
    Ext r (State.mapStnOuts s n f) := by
  unfold State.mapStnOuts
  first
  | (simp (contextual := true) (maxDischargeDepth := 40) [h]; done)
  | ((repeat' split) <;> first | assumption | (simp (contextual := true) (maxDischargeDepth := 40) [h]; done) | ((simp (contextual := true) (maxDischargeDepth := 40) [h]) <;> (repeat' split) <;> simp (contextual := true) (maxDischargeDepth := 40) [h]))

@[simp↓] theorem ext_State_sendSeg (s : State) (n : Nat) (ftype : Nat) (epoch : Nat) (seg : Nat) (segs : Nat) (first : Nat) (count : Nat) (key : List Byte) (payload : List Byte) (h : Ext r s) :
    Ext r (State.sendSeg s n ftype epoch seg segs first count key payload) := by
  unfold State.sendSeg
  first
  | (simp (contextual := true) (maxDischargeDepth := 40) [h]; done)
  | ((repeat' split) <;> first | assumption | (simp (contextual := true) (maxDischargeDepth := 40) [h]; done) | ((simp (contextual := true) (maxDischargeDepth := 40) [h]) <;> (repeat' split) <;> simp (contextual := true) (maxDischargeDepth := 40) [h]))

@[simp↓] theorem ext_State_sendStn (s : State) (n : Nat) (ftype : Nat) (epoch : Nat) (key : List Byte) (segs : List (Nat × Nat × List Byte)) (h : Ext r s) :
    Ext r (State.sendStn s n ftype epoch key segs) := by
  unfold State.sendStn
  refine ext_State_setStn _ _ _ ?_
  refine ext_foldl_fst (s := (s, 0)) h ?_
  intro a x ha
  simp (contextual := true) (maxDischargeDepth := 40) [ha]

@[simp↓] theorem ext_State_sendOutputs (s : State) (n : Nat) (a : Nat) (vals : List (Nat × F32)) (h : Ext r s) :
    Ext r (State.sendOutputs s n a vals) := by
  unfold State.sendOutputs
  first
  | (simp (contextual := true) (maxDischargeDepth := 40) [h]; done)
  | ((repeat' split) <;> first | assumption | (simp (contextual := true) (maxDischargeDepth := 40) [h]; done) | ((simp (contextual := true) (maxDischargeDepth := 40) [h]) <;> (repeat' split) <;> simp (contextual := true) (maxDischargeDepth := 40) [h]))

@[simp↓] theorem ext_State_stnOutput (s : State) (n : Nat) (a : Nat) (h : Ext r s) :
    Ext r (State.stnOutput s n a) := by
  unfold State.stnOutput
  first
  | (simp (contextual := true) (maxDischargeDepth := 40) [h]; done)
  | ((repeat' split) <;> first | assumption | (simp (contextual := true) (maxDischargeDepth := 40) [h]; done) | ((simp (contextual := true) (maxDischargeDepth := 40) [h]) <;> (repeat' split) <;> simp (contextual := true) (maxDischargeDepth := 40) [h]))

@[simp↓] theorem ext_State_stnExtra (s : State) (t : Nat) (a : Nat) (h : Ext r s) :
    Ext r (State.stnExtra s t a) := by
  unfold State.stnExtra
  first
  | (simp (contextual := true) (maxDischargeDepth := 40) [h]; done)
  | ((repeat' split) <;> first | assumption | (simp (contextual := true) (maxDischargeDepth := 40) [h]; done) | ((simp (contextual := true) (maxDischargeDepth := 40) [h]) <;> (repeat' split) <;> simp (contextual := true) (maxDischargeDepth := 40) [h]))

@[simp↓] theorem ext_State_sendConfig (s : State) (n : Nat) (h : Ext r s) :
    Ext r (State.sendConfig s n) := by
  unfold State.sendConfig
  first
  | (simp (contextual := true) (maxDischargeDepth := 40) [h]; done)
  | ((repeat' split) <;> first | assumption | (simp (contextual := true) (maxDischargeDepth := 40) [h]; done) | ((simp (contextual := true) (maxDischargeDepth := 40) [h]) <;> (repeat' split) <;> simp (contextual := true) (maxDischargeDepth := 40) [h]))

@[simp↓] theorem ext_State_stnReject (s : State) (f : StnFrame) (h : Ext r s) :
    Ext r (State.stnReject s f) := by
  unfold State.stnReject
  first
  | (simp (contextual := true) (maxDischargeDepth := 40) [h]; done)
  | ((repeat' split) <;> first | assumption | (simp (contextual := true) (maxDischargeDepth := 40) [h]; done) | ((simp (contextual := true) (maxDischargeDepth := 40) [h]) <;> (repeat' split) <;> simp (contextual := true) (maxDischargeDepth := 40) [h]))

@[simp↓] theorem ext_State_stnClaim (s : State) (f : StnFrame) (h : Ext r s) :
    Ext r (State.stnClaim s f) := by
  unfold State.stnClaim
  first
  | (simp (contextual := true) (maxDischargeDepth := 40) [h]; done)
  | ((repeat' split) <;> first | assumption | (simp (contextual := true) (maxDischargeDepth := 40) [h]; done) | ((simp (contextual := true) (maxDischargeDepth := 40) [h]) <;> (repeat' split) <;> simp (contextual := true) (maxDischargeDepth := 40) [h]))

@[simp↓] theorem ext_State_stnTake (s : State) (f : StnFrame) (h : Ext r s) :
    Ext r (State.stnTake s f).1 := by
  unfold State.stnTake
  first
  | (simp (contextual := true) (maxDischargeDepth := 40) [h]; done)
  | ((repeat' split) <;> first | assumption | (simp (contextual := true) (maxDischargeDepth := 40) [h]; done) | ((simp (contextual := true) (maxDischargeDepth := 40) [h]) <;> (repeat' split) <;> simp (contextual := true) (maxDischargeDepth := 40) [h]))

@[simp↓] theorem ext_State_stnReport (s : State) (f : StnFrame) (h : Ext r s) :
    Ext r (State.stnReport s f) := by
  unfold State.stnReport
  first
  | (simp (contextual := true) (maxDischargeDepth := 40) [h]; done)
  | ((repeat' split) <;> first | assumption | (simp (contextual := true) (maxDischargeDepth := 40) [h]; done) | ((simp (contextual := true) (maxDischargeDepth := 40) [h]) <;> (repeat' split) <;> simp (contextual := true) (maxDischargeDepth := 40) [h]))

@[simp↓] theorem ext_State_enterSeg (s : State) (n : Nat) (c : Nat) (ret : Bool) (unsync : Bool) (g : StnSeg) (h : Ext r s) :
    Ext r (State.enterSeg s n c ret unsync g) := by
  unfold State.enterSeg
  first
  | (simp (contextual := true) (maxDischargeDepth := 40) [h]; done)
  | ((repeat' split) <;> first | assumption | (simp (contextual := true) (maxDischargeDepth := 40) [h]; done) | ((simp (contextual := true) (maxDischargeDepth := 40) [h]) <;> (repeat' split) <;> simp (contextual := true) (maxDischargeDepth := 40) [h]))

@[simp↓] theorem ext_State_stnEnter (s : State) (n : Nat) (c : Nat) (f : StnIn) (h : Ext r s) :
    Ext r (State.stnEnter s n c f) := by
  unfold State.stnEnter
  first
  | (simp (contextual := true) (maxDischargeDepth := 40) [h]; done)
  | ((repeat' split) <;> first | assumption | (simp (contextual := true) (maxDischargeDepth := 40) [h]; done) | ((simp (contextual := true) (maxDischargeDepth := 40) [h]) <;> (repeat' split) <;> simp (contextual := true) (maxDischargeDepth := 40) [h]))

@[simp↓] theorem ext_State_stnLose (s : State) (n : Nat) (h : Ext r s) :
    Ext r (State.stnLose s n) := by
  unfold State.stnLose
  first
  | (simp (contextual := true) (maxDischargeDepth := 40) [h]; done)
  | ((repeat' split) <;> first | assumption | (simp (contextual := true) (maxDischargeDepth := 40) [h]; done) | ((simp (contextual := true) (maxDischargeDepth := 40) [h]) <;> (repeat' split) <;> simp (contextual := true) (maxDischargeDepth := 40) [h]))

@[simp↓] theorem ext_State_stnMissed (s : State) (n : Nat) (x : Stn) (h : Ext r s) :
    Ext r (State.stnMissed s n x) := by
  unfold State.stnMissed
  first
  | (simp (contextual := true) (maxDischargeDepth := 40) [h]; done)
  | ((repeat' split) <;> first | assumption | (simp (contextual := true) (maxDischargeDepth := 40) [h]; done) | ((simp (contextual := true) (maxDischargeDepth := 40) [h]) <;> (repeat' split) <;> simp (contextual := true) (maxDischargeDepth := 40) [h]))

@[simp↓] theorem ext_State_stnClose (s : State) (n : Nat) (c : Nat) (h : Ext r s) :
    Ext r (State.stnClose s n c) := by
  unfold State.stnClose
  first
  | (simp (contextual := true) (maxDischargeDepth := 40) [h]; done)
  | ((repeat' split) <;> first | assumption | (simp (contextual := true) (maxDischargeDepth := 40) [h]; done) | ((simp (contextual := true) (maxDischargeDepth := 40) [h]) <;> (repeat' split) <;> simp (contextual := true) (maxDischargeDepth := 40) [h]))

@[simp↓] theorem ext_State_stnAbsent (u : State) (n : Nat) (reason : Nat) (h : Ext r u) :
    Ext r (State.stnAbsent u n reason) := by
  unfold State.stnAbsent
  first
  | (simp (contextual := true) (maxDischargeDepth := 40) [h]; done)
  | ((repeat' split) <;> first | assumption | (simp (contextual := true) (maxDischargeDepth := 40) [h]; done) | ((simp (contextual := true) (maxDischargeDepth := 40) [h]) <;> (repeat' split) <;> simp (contextual := true) (maxDischargeDepth := 40) [h]))

@[simp↓] theorem ext_State_marginSeen (s : State) (cls : Nat) (m : F32) (h : Ext r s) :
    Ext r (State.marginSeen s cls m) := by
  unfold State.marginSeen
  first
  | (simp (contextual := true) (maxDischargeDepth := 40) [h]; done)
  | ((repeat' split) <;> first | assumption | (simp (contextual := true) (maxDischargeDepth := 40) [h]; done) | ((simp (contextual := true) (maxDischargeDepth := 40) [h]) <;> (repeat' split) <;> simp (contextual := true) (maxDischargeDepth := 40) [h]))

@[simp↓] theorem ext_State_followRail (s : State) (h : Ext r s) :
    Ext r (State.followRail s) := by
  unfold State.followRail
  first
  | (simp (contextual := true) (maxDischargeDepth := 40) [h]; done)
  | ((repeat' split) <;> first | assumption | (simp (contextual := true) (maxDischargeDepth := 40) [h]; done) | ((simp (contextual := true) (maxDischargeDepth := 40) [h]) <;> (repeat' split) <;> simp (contextual := true) (maxDischargeDepth := 40) [h]))

@[simp↓] theorem ext_State_govCommitted (s : State) (h : Ext r s) :
    Ext r (State.govCommitted s) := by
  unfold State.govCommitted
  first
  | (simp (contextual := true) (maxDischargeDepth := 40) [h]; done)
  | ((repeat' split) <;> first | assumption | (simp (contextual := true) (maxDischargeDepth := 40) [h]; done) | ((simp (contextual := true) (maxDischargeDepth := 40) [h]) <;> (repeat' split) <;> simp (contextual := true) (maxDischargeDepth := 40) [h]))

@[simp↓] theorem ext_State_govern (s : State) (h : Ext r s) :
    Ext r (State.govern s) := by
  unfold State.govern
  first
  | (simp (contextual := true) (maxDischargeDepth := 40) [h]; done)
  | ((repeat' split) <;> first | assumption | (simp (contextual := true) (maxDischargeDepth := 40) [h]; done) | ((simp (contextual := true) (maxDischargeDepth := 40) [h]) <;> (repeat' split) <;> simp (contextual := true) (maxDischargeDepth := 40) [h]))

@[simp↓] theorem ext_State_marginIn (s : State) (cls : Nat) (m : F32) (h : Ext r s) :
    Ext r (State.marginIn s cls m) := by
  unfold State.marginIn
  first
  | (simp (contextual := true) (maxDischargeDepth := 40) [h]; done)
  | ((repeat' split) <;> first | assumption | (simp (contextual := true) (maxDischargeDepth := 40) [h]; done) | ((simp (contextual := true) (maxDischargeDepth := 40) [h]) <;> (repeat' split) <;> simp (contextual := true) (maxDischargeDepth := 40) [h]))

@[simp↓] theorem ext_State_stnOffline (s : State) (n : Nat) (h : Ext r s) :
    Ext r (State.stnOffline s n) := by
  unfold State.stnOffline
  first
  | (simp (contextual := true) (maxDischargeDepth := 40) [h]; done)
  | ((repeat' split) <;> first | assumption | (simp (contextual := true) (maxDischargeDepth := 40) [h]; done) | ((simp (contextual := true) (maxDischargeDepth := 40) [h]) <;> (repeat' split) <;> simp (contextual := true) (maxDischargeDepth := 40) [h]))

@[simp↓] theorem ext_State_stnServe (s : State) (n : Nat) (h : Ext r s) :
    Ext r (State.stnServe s n) := by
  unfold State.stnServe
  first
  | (simp (contextual := true) (maxDischargeDepth := 40) [h]; done)
  | ((repeat' split) <;> first | assumption | (simp (contextual := true) (maxDischargeDepth := 40) [h]; done) | ((simp (contextual := true) (maxDischargeDepth := 40) [h]) <;> (repeat' split) <;> simp (contextual := true) (maxDischargeDepth := 40) [h]))

@[simp↓] theorem ext_State_stnOffer (s : State) (n : Nat) (h : Ext r s) :
    Ext r (State.stnOffer s n) := by
  unfold State.stnOffer
  first
  | (simp (contextual := true) (maxDischargeDepth := 40) [h]; done)
  | ((repeat' split) <;> first | assumption | (simp (contextual := true) (maxDischargeDepth := 40) [h]; done) | ((simp (contextual := true) (maxDischargeDepth := 40) [h]) <;> (repeat' split) <;> simp (contextual := true) (maxDischargeDepth := 40) [h]))

theorem ext_execServedTick (stn : Nat) (s : State) (h : Ext r s) :
    ExtOut r (execServedTick stn s) := by
  unfold execServedTick
  first
  | (simp (contextual := true) (maxDischargeDepth := 40) [h]; done)
  | (apply extOut_next; (repeat' split) <;> first | assumption | (simp (contextual := true) (maxDischargeDepth := 40) [h]; done) | ((simp (contextual := true) (maxDischargeDepth := 40) [h]) <;> (repeat' split) <;> simp (contextual := true) (maxDischargeDepth := 40) [h]))

theorem ext_execStnOutputDue (stn : Nat) (s : State) (h : Ext r s) :
    ExtOut r (execStnOutputDue stn s) := by
  unfold execStnOutputDue
  first
  | (simp (contextual := true) (maxDischargeDepth := 40) [h]; done)
  | (apply extOut_next; (repeat' split) <;> first | assumption | (simp (contextual := true) (maxDischargeDepth := 40) [h]; done) | ((simp (contextual := true) (maxDischargeDepth := 40) [h]) <;> (repeat' split) <;> simp (contextual := true) (maxDischargeDepth := 40) [h]))

@[simp↓] theorem ext_State_stnCollect (s : State) (f : StnFrame) (h : Ext r s) :
    Ext r (State.stnCollect s f) := by
  unfold State.stnCollect
  first
  | (simp (contextual := true) (maxDischargeDepth := 40) [h]; done)
  | ((repeat' split) <;> first | assumption | (simp (contextual := true) (maxDischargeDepth := 40) [h]; done) | ((simp (contextual := true) (maxDischargeDepth := 40) [h]) <;> (repeat' split) <;> simp (contextual := true) (maxDischargeDepth := 40) [h]))

@[simp↓] theorem ext_State_stnInput (s : State) (f : StnFrame) (h : Ext r s) :
    Ext r (State.stnInput s f) := by
  unfold State.stnInput
  first
  | (simp (contextual := true) (maxDischargeDepth := 40) [h]; done)
  | ((repeat' split) <;> first | assumption | (simp (contextual := true) (maxDischargeDepth := 40) [h]; done) | ((simp (contextual := true) (maxDischargeDepth := 40) [h]) <;> (repeat' split) <;> simp (contextual := true) (maxDischargeDepth := 40) [h]))

theorem ext_execStnInputRx (f : StnFrame) (s : State) (h : Ext r s) :
    ExtOut r (execStnInputRx f s) := by
  unfold execStnInputRx
  first
  | (simp (contextual := true) (maxDischargeDepth := 40) [h]; done)
  | (apply extOut_next; (repeat' split) <;> first | assumption | (simp (contextual := true) (maxDischargeDepth := 40) [h]; done) | ((simp (contextual := true) (maxDischargeDepth := 40) [h]) <;> (repeat' split) <;> simp (contextual := true) (maxDischargeDepth := 40) [h]))

theorem ext_execStnHelloRx (f : StnFrame) (s : State) (h : Ext r s) :
    ExtOut r (execStnHelloRx f s) := by
  unfold execStnHelloRx
  first
  | (simp (contextual := true) (maxDischargeDepth := 40) [h]; done)
  | (apply extOut_next; (repeat' split) <;> first | assumption | (simp (contextual := true) (maxDischargeDepth := 40) [h]; done) | ((simp (contextual := true) (maxDischargeDepth := 40) [h]) <;> (repeat' split) <;> simp (contextual := true) (maxDischargeDepth := 40) [h]))

@[simp↓] theorem ext_State_stnAnswer (s : State) (f : StnFrame) (h : Ext r s) :
    Ext r (State.stnAnswer s f) := by
  unfold State.stnAnswer
  first
  | (simp (contextual := true) (maxDischargeDepth := 40) [h]; done)
  | ((repeat' split) <;> first | assumption | (simp (contextual := true) (maxDischargeDepth := 40) [h]; done) | ((simp (contextual := true) (maxDischargeDepth := 40) [h]) <;> (repeat' split) <;> simp (contextual := true) (maxDischargeDepth := 40) [h]))

theorem ext_execStnConfigAckRx (f : StnFrame) (s : State) (h : Ext r s) :
    ExtOut r (execStnConfigAckRx f s) := by
  unfold execStnConfigAckRx
  first
  | (simp (contextual := true) (maxDischargeDepth := 40) [h]; done)
  | (apply extOut_next; (repeat' split) <;> first | assumption | (simp (contextual := true) (maxDischargeDepth := 40) [h]; done) | ((simp (contextual := true) (maxDischargeDepth := 40) [h]) <;> (repeat' split) <;> simp (contextual := true) (maxDischargeDepth := 40) [h]))

theorem ext_execStnLeaveRx (f : StnFrame) (s : State) (h : Ext r s) :
    ExtOut r (execStnLeaveRx f s) := by
  unfold execStnLeaveRx
  first
  | (simp (contextual := true) (maxDischargeDepth := 40) [h]; done)
  | (apply extOut_next; (repeat' split) <;> first | assumption | (simp (contextual := true) (maxDischargeDepth := 40) [h]; done) | ((simp (contextual := true) (maxDischargeDepth := 40) [h]) <;> (repeat' split) <;> simp (contextual := true) (maxDischargeDepth := 40) [h]))

theorem ext_execStnTagFailures (stn : Nat) (s : State) (h : Ext r s) :
    ExtOut r (execStnTagFailures stn s) := by
  unfold execStnTagFailures
  first
  | (simp (contextual := true) (maxDischargeDepth := 40) [h]; done)
  | (apply extOut_next; (repeat' split) <;> first | assumption | (simp (contextual := true) (maxDischargeDepth := 40) [h]; done) | ((simp (contextual := true) (maxDischargeDepth := 40) [h]) <;> (repeat' split) <;> simp (contextual := true) (maxDischargeDepth := 40) [h]))

theorem ext_execPortLinkChange (port : Nat) (up : Bool) (s : State) (h : Ext r s) :
    ExtOut r (execPortLinkChange port up s) := by
  unfold execPortLinkChange
  first
  | (simp (contextual := true) (maxDischargeDepth := 40) [h]; done)
  | (apply extOut_next; (repeat' split) <;> first | assumption | (simp (contextual := true) (maxDischargeDepth := 40) [h]; done) | ((simp (contextual := true) (maxDischargeDepth := 40) [h]) <;> (repeat' split) <;> simp (contextual := true) (maxDischargeDepth := 40) [h]))

@[simp↓] theorem ext_State_closeInputs (s : State) (t : Nat) (c : Nat) (h : Ext r s) :
    Ext r (State.closeInputs s t c) := by
  unfold State.closeInputs
  first
  | (simp (contextual := true) (maxDischargeDepth := 40) [h]; done)
  | ((repeat' split) <;> first | assumption | (simp (contextual := true) (maxDischargeDepth := 40) [h]; done) | ((simp (contextual := true) (maxDischargeDepth := 40) [h]) <;> (repeat' split) <;> simp (contextual := true) (maxDischargeDepth := 40) [h]))

@[simp↓] theorem ext_State_closeCycle (s : State) (t : Nat) (c : Nat) (timeout : Bool) (h : Ext r s) :
    Ext r (State.closeCycle s t c timeout) := by
  unfold State.closeCycle
  first
  | (simp (contextual := true) (maxDischargeDepth := 40) [h]; done)
  | ((repeat' split) <;> first | assumption | (simp (contextual := true) (maxDischargeDepth := 40) [h]; done) | ((simp (contextual := true) (maxDischargeDepth := 40) [h]) <;> (repeat' split) <;> simp (contextual := true) (maxDischargeDepth := 40) [h]))

theorem ext_execInputClose (task : Nat) (s : State) (h : Ext r s) :
    ExtOut r (execInputClose task s) := by
  unfold execInputClose
  first
  | (simp (contextual := true) (maxDischargeDepth := 40) [h]; done)
  | (apply extOut_next; (repeat' split) <;> first | assumption | (simp (contextual := true) (maxDischargeDepth := 40) [h]; done) | ((simp (contextual := true) (maxDischargeDepth := 40) [h]) <;> (repeat' split) <;> simp (contextual := true) (maxDischargeDepth := 40) [h]))

@[simp↓] theorem ext_State_refreshBounds (s : State) (h : Ext r s) :
    Ext r (State.refreshBounds s) := by
  unfold State.refreshBounds
  first
  | (simp (contextual := true) (maxDischargeDepth := 40) [h]; done)
  | ((repeat' split) <;> first | assumption | (simp (contextual := true) (maxDischargeDepth := 40) [h]; done) | ((simp (contextual := true) (maxDischargeDepth := 40) [h]) <;> (repeat' split) <;> simp (contextual := true) (maxDischargeDepth := 40) [h]))

@[simp↓] theorem ext_State_alarmRaise (s : State) (task : Nat) (c : Nat) (key : U64) (prio : Nat) (v : F32) (h : Ext r s) :
    Ext r (State.alarmRaise s task c key prio v) := by
  unfold State.alarmRaise
  first
  | (simp (contextual := true) (maxDischargeDepth := 40) [h]; done)
  | ((repeat' split) <;> first | assumption | (simp (contextual := true) (maxDischargeDepth := 40) [h]; done) | ((simp (contextual := true) (maxDischargeDepth := 40) [h]) <;> (repeat' split) <;> simp (contextual := true) (maxDischargeDepth := 40) [h]))

@[simp↓] theorem ext_State_alarmClear (s : State) (c : Nat) (key : U64) (h : Ext r s) :
    Ext r (State.alarmClear s c key) := by
  unfold State.alarmClear
  first
  | (simp (contextual := true) (maxDischargeDepth := 40) [h]; done)
  | ((repeat' split) <;> first | assumption | (simp (contextual := true) (maxDischargeDepth := 40) [h]; done) | ((simp (contextual := true) (maxDischargeDepth := 40) [h]) <;> (repeat' split) <;> simp (contextual := true) (maxDischargeDepth := 40) [h]))

@[simp↓] theorem ext_State_publishEff (s : State) (t : Nat) (y : Cycle) (a : BlockEff) (h : Ext r s) :
    Ext r (State.publishEff s t y a) := by
  unfold State.publishEff
  first
  | (simp (contextual := true) (maxDischargeDepth := 40) [h]; done)
  | ((repeat' split) <;> first | assumption | (simp (contextual := true) (maxDischargeDepth := 40) [h]; done) | ((simp (contextual := true) (maxDischargeDepth := 40) [h]) <;> (repeat' split) <;> simp (contextual := true) (maxDischargeDepth := 40) [h]))

@[simp↓] theorem ext_State_publishStn (s : State) (y : Cycle) (n : Nat) (h : Ext r s) :
    Ext r (State.publishStn s y n) := by
  unfold State.publishStn
  first
  | (simp (contextual := true) (maxDischargeDepth := 40) [h]; done)
  | ((repeat' split) <;> first | assumption | (simp (contextual := true) (maxDischargeDepth := 40) [h]; done) | ((simp (contextual := true) (maxDischargeDepth := 40) [h]) <;> (repeat' split) <;> simp (contextual := true) (maxDischargeDepth := 40) [h]))

@[simp↓] theorem ext_State_publishCycle (s : State) (p : Program) (t : Nat) (y : Cycle) (us : Nat) (h : Ext r s) :
    Ext r (State.publishCycle s p t y us) := by
  unfold State.publishCycle
  first
  | (simp (contextual := true) (maxDischargeDepth := 40) [h]; done)
  | ((repeat' split) <;> first | assumption | (simp (contextual := true) (maxDischargeDepth := 40) [h]; done) | ((simp (contextual := true) (maxDischargeDepth := 40) [h]) <;> (repeat' split) <;> simp (contextual := true) (maxDischargeDepth := 40) [h]))

@[simp↓] theorem ext_State_abandonCycles (s : State) (h : Ext r s) :
    Ext r (State.abandonCycles s) := by
  unfold State.abandonCycles
  first
  | (simp (contextual := true) (maxDischargeDepth := 40) [h]; done)
  | ((repeat' split) <;> first | assumption | (simp (contextual := true) (maxDischargeDepth := 40) [h]; done) | ((simp (contextual := true) (maxDischargeDepth := 40) [h]) <;> (repeat' split) <;> simp (contextual := true) (maxDischargeDepth := 40) [h]))

@[simp↓] theorem ext_State_putVals (s : State) (l : List (Nat × F32)) (h : Ext r s) :
    Ext r (State.putVals s l) := by
  unfold State.putVals
  first
  | (simp (contextual := true) (maxDischargeDepth := 40) [h]; done)
  | ((repeat' split) <;> first | assumption | (simp (contextual := true) (maxDischargeDepth := 40) [h]; done) | ((simp (contextual := true) (maxDischargeDepth := 40) [h]) <;> (repeat' split) <;> simp (contextual := true) (maxDischargeDepth := 40) [h]))

@[simp↓] theorem ext_State_stopTask (s : State) (p : Program) (t : Nat) (h : Ext r s) :
    Ext r (State.stopTask s p t) := by
  unfold State.stopTask
  first
  | (simp (contextual := true) (maxDischargeDepth := 40) [h]; done)
  | ((repeat' split) <;> first | assumption | (simp (contextual := true) (maxDischargeDepth := 40) [h]; done) | ((simp (contextual := true) (maxDischargeDepth := 40) [h]) <;> (repeat' split) <;> simp (contextual := true) (maxDischargeDepth := 40) [h]))

@[simp↓] theorem ext_State_stopOutputs (s : State) (h : Ext r s) :
    Ext r (State.stopOutputs s) := by
  unfold State.stopOutputs
  first
  | (simp (contextual := true) (maxDischargeDepth := 40) [h]; done)
  | ((repeat' split) <;> first | assumption | (simp (contextual := true) (maxDischargeDepth := 40) [h]; done) | ((simp (contextual := true) (maxDischargeDepth := 40) [h]) <;> (repeat' split) <;> simp (contextual := true) (maxDischargeDepth := 40) [h]))

@[simp↓] theorem ext_State_safeTask (s : State) (p : Program) (t : Nat) (h : Ext r s) :
    Ext r (State.safeTask s p t) := by
  unfold State.safeTask
  first
  | (simp (contextual := true) (maxDischargeDepth := 40) [h]; done)
  | ((repeat' split) <;> first | assumption | (simp (contextual := true) (maxDischargeDepth := 40) [h]; done) | ((simp (contextual := true) (maxDischargeDepth := 40) [h]) <;> (repeat' split) <;> simp (contextual := true) (maxDischargeDepth := 40) [h]))

@[simp↓] theorem ext_State_safeOutputs (s : State) (h : Ext r s) :
    Ext r (State.safeOutputs s) := by
  unfold State.safeOutputs
  first
  | (simp (contextual := true) (maxDischargeDepth := 40) [h]; done)
  | ((repeat' split) <;> first | assumption | (simp (contextual := true) (maxDischargeDepth := 40) [h]; done) | ((simp (contextual := true) (maxDischargeDepth := 40) [h]) <;> (repeat' split) <;> simp (contextual := true) (maxDischargeDepth := 40) [h]))

@[simp↓] theorem ext_State_doRetain (s : State) (h : Ext r s) :
    Ext r (State.doRetain s) := by
  unfold State.doRetain
  first
  | (simp (contextual := true) (maxDischargeDepth := 40) [h]; done)
  | ((repeat' split) <;> first | assumption | (simp (contextual := true) (maxDischargeDepth := 40) [h]; done) | ((simp (contextual := true) (maxDischargeDepth := 40) [h]) <;> (repeat' split) <;> simp (contextual := true) (maxDischargeDepth := 40) [h]))

@[simp↓] theorem ext_State_tearRetain (s : State) (h : Ext r s) :
    Ext r (State.tearRetain s) := by
  unfold State.tearRetain
  first
  | (simp (contextual := true) (maxDischargeDepth := 40) [h]; done)
  | ((repeat' split) <;> first | assumption | (simp (contextual := true) (maxDischargeDepth := 40) [h]; done) | ((simp (contextual := true) (maxDischargeDepth := 40) [h]) <;> (repeat' split) <;> simp (contextual := true) (maxDischargeDepth := 40) [h]))

@[simp↓] theorem ext_State_toStop (s : State) (h : Ext r s) :
    Ext r (State.toStop s) := by
  unfold State.toStop
  first
  | (simp (contextual := true) (maxDischargeDepth := 40) [h]; done)
  | ((repeat' split) <;> first | assumption | (simp (contextual := true) (maxDischargeDepth := 40) [h]; done) | ((simp (contextual := true) (maxDischargeDepth := 40) [h]) <;> (repeat' split) <;> simp (contextual := true) (maxDischargeDepth := 40) [h]))

@[simp↓] theorem ext_State_toHold (s : State) (h : Ext r s) :
    Ext r (State.toHold s) := by
  unfold State.toHold
  first
  | (simp (contextual := true) (maxDischargeDepth := 40) [h]; done)
  | ((repeat' split) <;> first | assumption | (simp (contextual := true) (maxDischargeDepth := 40) [h]; done) | ((simp (contextual := true) (maxDischargeDepth := 40) [h]) <;> (repeat' split) <;> simp (contextual := true) (maxDischargeDepth := 40) [h]))

@[simp↓] theorem ext_State_endExchange (s : State) (status : Nat) (detail : Nat) (data : List Byte) (h : Ext r s) :
    Ext r (State.endExchange s status detail data) := by
  unfold State.endExchange
  first
  | (simp (contextual := true) (maxDischargeDepth := 40) [h]; done)
  | ((repeat' split) <;> first | assumption | (simp (contextual := true) (maxDischargeDepth := 40) [h]; done) | ((simp (contextual := true) (maxDischargeDepth := 40) [h]) <;> (repeat' split) <;> simp (contextual := true) (maxDischargeDepth := 40) [h]))

@[simp↓] theorem ext_State_toRun (s : State) (h : Ext r s) :
    Ext r (State.toRun s) := by
  unfold State.toRun
  first
  | (simp (contextual := true) (maxDischargeDepth := 40) [h]; done)
  | ((repeat' split) <;> first | assumption | (simp (contextual := true) (maxDischargeDepth := 40) [h]; done) | ((simp (contextual := true) (maxDischargeDepth := 40) [h]) <;> (repeat' split) <;> simp (contextual := true) (maxDischargeDepth := 40) [h]))

@[simp↓] theorem ext_State_progFault (s : State) (cause : Nat) (task : Nat) (cycle : Nat) (h : Ext r s) :
    Ext r (State.progFault s cause task cycle) := by
  unfold State.progFault
  first
  | (simp (contextual := true) (maxDischargeDepth := 40) [h]; done)
  | ((repeat' split) <;> first | assumption | (simp (contextual := true) (maxDischargeDepth := 40) [h]; done) | ((simp (contextual := true) (maxDischargeDepth := 40) [h]) <;> (repeat' split) <;> simp (contextual := true) (maxDischargeDepth := 40) [h]))

@[simp↓] theorem ext_State_exchangeApply (s : State) (p : Program) (h : Ext r s) :
    Ext r (State.exchangeApply s p) := by
  unfold State.exchangeApply
  first
  | (simp (contextual := true) (maxDischargeDepth := 40) [h]; done)
  | ((repeat' split) <;> first | assumption | (simp (contextual := true) (maxDischargeDepth := 40) [h]; done) | ((simp (contextual := true) (maxDischargeDepth := 40) [h]) <;> (repeat' split) <;> simp (contextual := true) (maxDischargeDepth := 40) [h]))

@[simp↓] theorem ext_State_exchangeNow (s : State) (h : Ext r s) :
    Ext r (State.exchangeNow s) := by
  unfold State.exchangeNow
  first
  | (simp (contextual := true) (maxDischargeDepth := 40) [h]; done)
  | ((repeat' split) <;> first | assumption | (simp (contextual := true) (maxDischargeDepth := 40) [h]; done) | ((simp (contextual := true) (maxDischargeDepth := 40) [h]) <;> (repeat' split) <;> simp (contextual := true) (maxDischargeDepth := 40) [h]))

@[simp↓] theorem ext_State_modeEffect (s : State) (cmd : Nat) (h : Ext r s) :
    Ext r (State.modeEffect s cmd) := by
  unfold State.modeEffect
  first
  | (simp (contextual := true) (maxDischargeDepth := 40) [h]; done)
  | ((repeat' split) <;> first | assumption | (simp (contextual := true) (maxDischargeDepth := 40) [h]; done) | ((simp (contextual := true) (maxDischargeDepth := 40) [h]) <;> (repeat' split) <;> simp (contextual := true) (maxDischargeDepth := 40) [h]))

@[simp↓] theorem ext_State_modeTurn (s : State) (x : Nat × Nat × Nat) (h : Ext r s) :
    Ext r (State.modeTurn s x) := by
  unfold State.modeTurn
  first
  | (simp (contextual := true) (maxDischargeDepth := 40) [h]; done)
  | ((repeat' split) <;> first | assumption | (simp (contextual := true) (maxDischargeDepth := 40) [h]; done) | ((simp (contextual := true) (maxDischargeDepth := 40) [h]) <;> (repeat' split) <;> simp (contextual := true) (maxDischargeDepth := 40) [h]))

@[simp↓] theorem ext_State_applyModes (s : State) (f : Nat × Nat × Nat → Bool) (h : Ext r s) :
    Ext r (State.applyModes s f) := by
  unfold State.applyModes
  first
  | (simp (contextual := true) (maxDischargeDepth := 40) [h]; done)
  | ((repeat' split) <;> first | assumption | (simp (contextual := true) (maxDischargeDepth := 40) [h]; done) | ((simp (contextual := true) (maxDischargeDepth := 40) [h]) <;> (repeat' split) <;> simp (contextual := true) (maxDischargeDepth := 40) [h]))

@[simp↓] theorem ext_State_setLane (s : State) (l : Nat) (v : Lane) (h : Ext r s) :
    Ext r (State.setLane s l v) := by
  unfold State.setLane
  first
  | (simp (contextual := true) (maxDischargeDepth := 40) [h]; done)
  | ((repeat' split) <;> first | assumption | (simp (contextual := true) (maxDischargeDepth := 40) [h]; done) | ((simp (contextual := true) (maxDischargeDepth := 40) [h]) <;> (repeat' split) <;> simp (contextual := true) (maxDischargeDepth := 40) [h]))

@[simp↓] theorem ext_State_applyCal (s : State) (h : Ext r s) :
    Ext r (State.applyCal s) := by
  unfold State.applyCal
  first
  | (simp (contextual := true) (maxDischargeDepth := 40) [h]; done)
  | ((repeat' split) <;> first | assumption | (simp (contextual := true) (maxDischargeDepth := 40) [h]; done) | ((simp (contextual := true) (maxDischargeDepth := 40) [h]) <;> (repeat' split) <;> simp (contextual := true) (maxDischargeDepth := 40) [h]))

@[simp↓] theorem ext_State_flipCal (s : State) (old : Option NetModel) (m : NetModel) (keep : Bool) (h : Ext r s) :
    Ext r (State.flipCal s old m keep) := by
  unfold State.flipCal
  first
  | (simp (contextual := true) (maxDischargeDepth := 40) [h]; done)
  | ((repeat' split) <;> first | assumption | (simp (contextual := true) (maxDischargeDepth := 40) [h]; done) | ((simp (contextual := true) (maxDischargeDepth := 40) [h]) <;> (repeat' split) <;> simp (contextual := true) (maxDischargeDepth := 40) [h]))

@[simp↓] theorem ext_State_refreshPeriod (s : State) (h : Ext r s) :
    Ext r (State.refreshPeriod s) := by
  unfold State.refreshPeriod
  first
  | (simp (contextual := true) (maxDischargeDepth := 40) [h]; done)
  | ((repeat' split) <;> first | assumption | (simp (contextual := true) (maxDischargeDepth := 40) [h]; done) | ((simp (contextual := true) (maxDischargeDepth := 40) [h]) <;> (repeat' split) <;> simp (contextual := true) (maxDischargeDepth := 40) [h]))

@[simp↓] theorem ext_State_afeUpdate (s : State) (i : Nat) (h : Ext r s) :
    Ext r (State.afeUpdate s i) := by
  unfold State.afeUpdate
  first
  | (simp (contextual := true) (maxDischargeDepth := 40) [h]; done)
  | ((repeat' split) <;> first | assumption | (simp (contextual := true) (maxDischargeDepth := 40) [h]; done) | ((simp (contextual := true) (maxDischargeDepth := 40) [h]) <;> (repeat' split) <;> simp (contextual := true) (maxDischargeDepth := 40) [h]))

@[simp↓] theorem ext_State_calWindowOne (s : State) (acc : State × Bool) (x : List Byte × Nat) (h : Ext r acc.1) :
    Ext r (State.calWindowOne s acc x).1 := by
  unfold State.calWindowOne
  dsimp only
  (repeat' split) <;> first | exact h | simp (contextual := true) (maxDischargeDepth := 40) [h]

@[simp↓] theorem ext_State_calWindowEnd (s : State) (m : NetModel) (h : Ext r s) :
    Ext r (State.calWindowEnd s m) := by
  unfold State.calWindowEnd
  have h2 : Ext r ((calList m).foldl s.calWindowOne (s, false)).1 :=
    ext_foldl_fst (s := (s, false)) h (fun a x ha => ext_State_calWindowOne s a x ha)
  dsimp only
  split <;> simp (contextual := true) (maxDischargeDepth := 40) [h2]

@[simp↓] theorem ext_State_calWindowOpen (s : State) (h : Ext r s) :
    Ext r (State.calWindowOpen s) := by
  unfold State.calWindowOpen
  first
  | (simp (contextual := true) (maxDischargeDepth := 40) [h]; done)
  | ((repeat' split) <;> first | assumption | (simp (contextual := true) (maxDischargeDepth := 40) [h]; done) | ((simp (contextual := true) (maxDischargeDepth := 40) [h]) <;> (repeat' split) <;> simp (contextual := true) (maxDischargeDepth := 40) [h]))

@[simp↓] theorem ext_State_flipPerc (s : State) (old : Option NetModel) (m : NetModel) (h : Ext r s) :
    Ext r (State.flipPerc s old m) := by
  unfold State.flipPerc
  first
  | (simp (contextual := true) (maxDischargeDepth := 40) [h]; done)
  | ((repeat' split) <;> first | assumption | (simp (contextual := true) (maxDischargeDepth := 40) [h]; done) | ((simp (contextual := true) (maxDischargeDepth := 40) [h]) <;> (repeat' split) <;> simp (contextual := true) (maxDischargeDepth := 40) [h]))

@[simp↓] theorem ext_State_percEvidence (s : State) (u : PercUpd) (c : Water) (recs : Tab EstRec) (h : Ext r s) :
    Ext r (State.percEvidence s u c recs) := by
  unfold State.percEvidence
  first
  | (simp (contextual := true) (maxDischargeDepth := 40) [h]; done)
  | ((repeat' split) <;> first | assumption | (simp (contextual := true) (maxDischargeDepth := 40) [h]; done) | ((simp (contextual := true) (maxDischargeDepth := 40) [h]) <;> (repeat' split) <;> simp (contextual := true) (maxDischargeDepth := 40) [h]))

@[simp↓] theorem ext_State_percPublish (s : State) (u : PercUpd) (m : NetModel) (res : PercResult) (h : Ext r s) :
    Ext r (State.percPublish s u m res) := by
  unfold State.percPublish
  first
  | (simp (contextual := true) (maxDischargeDepth := 40) [h]; done)
  | ((repeat' split) <;> first | assumption | (simp (contextual := true) (maxDischargeDepth := 40) [h]; done) | ((simp (contextual := true) (maxDischargeDepth := 40) [h]) <;> (repeat' split) <;> simp (contextual := true) (maxDischargeDepth := 40) [h]))

@[simp↓] theorem ext_State_dropStagedModel (s : State) (h : Ext r s) :
    Ext r (State.dropStagedModel s) := by
  unfold State.dropStagedModel
  first
  | (simp (contextual := true) (maxDischargeDepth := 40) [h]; done)
  | ((repeat' split) <;> first | assumption | (simp (contextual := true) (maxDischargeDepth := 40) [h]; done) | ((simp (contextual := true) (maxDischargeDepth := 40) [h]) <;> (repeat' split) <;> simp (contextual := true) (maxDischargeDepth := 40) [h]))

@[simp↓] theorem ext_modelLoadVerdict (hh : Hdr) (s : State) :
    (modelLoadVerdict hh s).Extends := by
  unfold modelLoadVerdict
  repeat' split
  all_goals first | (exact extends_reject _) | (simp (contextual := true) (maxDischargeDepth := 40) ; done) | (intro r t h; simp (contextual := true) (maxDischargeDepth := 40) [h]; done) | (dsimp only; (repeat' split) <;> simp (contextual := true) (maxDischargeDepth := 40))

theorem ext_execModelLoad (hh : Hdr) (s : State) (h : Ext r s) :
    ExtOut r (execModelLoad hh s) := by
  unfold execModelLoad
  first
  | (simp (contextual := true) (maxDischargeDepth := 40) [h]; done)
  | (apply extOut_next; (repeat' split) <;> first | assumption | (simp (contextual := true) (maxDischargeDepth := 40) [h]; done) | ((simp (contextual := true) (maxDischargeDepth := 40) [h]) <;> (repeat' split) <;> simp (contextual := true) (maxDischargeDepth := 40) [h]))

@[simp↓] theorem ext_State_stageModel (s : State) (b : List Byte) (m : NetModel) (h : Ext r s) :
    Ext r (State.stageModel s b m) := by
  unfold State.stageModel
  first
  | (simp (contextual := true) (maxDischargeDepth := 40) [h]; done)
  | ((repeat' split) <;> first | assumption | (simp (contextual := true) (maxDischargeDepth := 40) [h]; done) | ((simp (contextual := true) (maxDischargeDepth := 40) [h]) <;> (repeat' split) <;> simp (contextual := true) (maxDischargeDepth := 40) [h]))

@[simp↓] theorem ext_State_modelLoadEnd (s : State) (hh : U32) (b : List Byte) (h : Ext r s) :
    Ext r (State.modelLoadEnd s hh b) := by
  unfold State.modelLoadEnd
  first
  | (simp (contextual := true) (maxDischargeDepth := 40) [h]; done)
  | ((repeat' split) <;> first | assumption | (simp (contextual := true) (maxDischargeDepth := 40) [h]; done) | ((simp (contextual := true) (maxDischargeDepth := 40) [h]) <;> (repeat' split) <;> simp (contextual := true) (maxDischargeDepth := 40) [h]))

theorem ext_execModelLoadDone (bytes : List Byte) (s : State) (h : Ext r s) :
    ExtOut r (execModelLoadDone bytes s) := by
  unfold execModelLoadDone
  first
  | (simp (contextual := true) (maxDischargeDepth := 40) [h]; done)
  | (apply extOut_next; (repeat' split) <;> first | assumption | (simp (contextual := true) (maxDischargeDepth := 40) [h]; done) | ((simp (contextual := true) (maxDischargeDepth := 40) [h]) <;> (repeat' split) <;> simp (contextual := true) (maxDischargeDepth := 40) [h]))

@[simp↓] theorem ext_modelDiscardVerdict (s : State) :
    (modelDiscardVerdict s).Extends := by
  unfold modelDiscardVerdict
  repeat' split
  all_goals first | (exact extends_reject _) | (simp (contextual := true) (maxDischargeDepth := 40) ; done) | (intro r t h; simp (contextual := true) (maxDischargeDepth := 40) [h]; done) | (dsimp only; (repeat' split) <;> simp (contextual := true) (maxDischargeDepth := 40))

theorem ext_execModelDiscard (hh : Hdr) (s : State) (h : Ext r s) :
    ExtOut r (execModelDiscard hh s) := by
  unfold execModelDiscard
  first
  | (simp (contextual := true) (maxDischargeDepth := 40) [h]; done)
  | (apply extOut_next; (repeat' split) <;> first | assumption | (simp (contextual := true) (maxDischargeDepth := 40) [h]; done) | ((simp (contextual := true) (maxDischargeDepth := 40) [h]) <;> (repeat' split) <;> simp (contextual := true) (maxDischargeDepth := 40) [h]))

@[simp↓] theorem ext_State_stageProg (s : State) (p : Program) (h : Ext r s) :
    Ext r (State.stageProg s p) := by
  unfold State.stageProg
  first
  | (simp (contextual := true) (maxDischargeDepth := 40) [h]; done)
  | ((repeat' split) <;> first | assumption | (simp (contextual := true) (maxDischargeDepth := 40) [h]; done) | ((simp (contextual := true) (maxDischargeDepth := 40) [h]) <;> (repeat' split) <;> simp (contextual := true) (maxDischargeDepth := 40) [h]))

theorem ext_execProgLoadDone (bytes : List Byte) (body : Program) (s : State) (h : Ext r s) :
    ExtOut r (execProgLoadDone bytes body s) := by
  unfold execProgLoadDone
  first
  | (simp (contextual := true) (maxDischargeDepth := 40) [h]; done)
  | (apply extOut_next; (repeat' split) <;> first | assumption | (simp (contextual := true) (maxDischargeDepth := 40) [h]; done) | ((simp (contextual := true) (maxDischargeDepth := 40) [h]) <;> (repeat' split) <;> simp (contextual := true) (maxDischargeDepth := 40) [h]))

@[simp↓] theorem ext_elementServiceVerdict (elem : Nat) (inService : Bool) (s : State) :
    (elementServiceVerdict elem inService s).Extends := by
  unfold elementServiceVerdict
  repeat' split
  all_goals first | (exact extends_reject _) | (simp (contextual := true) (maxDischargeDepth := 40) ; done) | (intro r t h; simp (contextual := true) (maxDischargeDepth := 40) [h]; done) | (dsimp only; (repeat' split) <;> simp (contextual := true) (maxDischargeDepth := 40))

theorem ext_execElementService (hh : Hdr) (elem : Nat) (inService : Bool) (s : State) (h : Ext r s) :
    ExtOut r (execElementService hh elem inService s) := by
  unfold execElementService
  first
  | (simp (contextual := true) (maxDischargeDepth := 40) [h]; done)
  | (apply extOut_next; (repeat' split) <;> first | assumption | (simp (contextual := true) (maxDischargeDepth := 40) [h]; done) | ((simp (contextual := true) (maxDischargeDepth := 40) [h]) <;> (repeat' split) <;> simp (contextual := true) (maxDischargeDepth := 40) [h]))

@[simp↓] theorem ext_seriesWriteVerdict (hh : Hdr) (w : SeriesWr) (s : State) :
    (seriesWriteVerdict hh w s).Extends := by
  unfold seriesWriteVerdict
  repeat' split
  all_goals first | (exact extends_reject _) | (simp (contextual := true) (maxDischargeDepth := 40) ; done) | (intro r t h; simp (contextual := true) (maxDischargeDepth := 40) [h]; done) | (dsimp only; (repeat' split) <;> simp (contextual := true) (maxDischargeDepth := 40))

theorem ext_execSeriesWrite (hh : Hdr) (w : SeriesWr) (s : State) (h : Ext r s) :
    ExtOut r (execSeriesWrite hh w s) := by
  unfold execSeriesWrite
  first
  | (simp (contextual := true) (maxDischargeDepth := 40) [h]; done)
  | (apply extOut_next; (repeat' split) <;> first | assumption | (simp (contextual := true) (maxDischargeDepth := 40) [h]; done) | ((simp (contextual := true) (maxDischargeDepth := 40) [h]) <;> (repeat' split) <;> simp (contextual := true) (maxDischargeDepth := 40) [h]))

@[simp↓] theorem ext_State_seriesApply (s : State) (named : List Nat) (h : Ext r s) :
    Ext r (State.seriesApply s named) := by
  unfold State.seriesApply
  apply ext_foldl h
  intro a x ha
  split
  · simp (contextual := true) (maxDischargeDepth := 40) [ha]
  · exact ha

@[simp↓] theorem ext_seriesCommitVerdict (hh : Hdr) (mask : BitVec 256) (s : State) :
    (seriesCommitVerdict hh mask s).Extends := by
  unfold seriesCommitVerdict
  dsimp only
  split
  · intro r t h; exact h
  · intro r t h; simp (contextual := true) (maxDischargeDepth := 40) [h]

theorem ext_execSeriesCommit (hh : Hdr) (mask : BitVec 256) (s : State) (h : Ext r s) :
    ExtOut r (execSeriesCommit hh mask s) := by
  unfold execSeriesCommit
  first
  | (simp (contextual := true) (maxDischargeDepth := 40) [h]; done)
  | (apply extOut_next; (repeat' split) <;> first | assumption | (simp (contextual := true) (maxDischargeDepth := 40) [h]; done) | ((simp (contextual := true) (maxDischargeDepth := 40) [h]) <;> (repeat' split) <;> simp (contextual := true) (maxDischargeDepth := 40) [h]))

end Sys2Proof.Laws
end

