-- ==== Sys2Proof/Laws/TracePlan.lean ====
section
/-! SUPPORT. What the operations of a module may do to the audit log, the sent messages, the waiting commands and the
identity: solves, federation, the field die, lanes and programs. Each law says that the operation only appends to them. -/

set_option linter.unusedVariables false
set_option linter.unusedSimpArgs false
set_option linter.unusedTactic false
set_option linter.unreachableTactic false
set_option linter.unnecessarySeqFocus false

namespace Sys2Proof.Laws
open Sys2Proof.Machine

variable {r : Trace}

@[simp↓] theorem ext_State_countOutcome (s : State) (outcome : Nat) (h : Ext r s) :
    Ext r (State.countOutcome s outcome) := by
  unfold State.countOutcome
  first
  | (simp (contextual := true) (maxDischargeDepth := 40) [h]; done)
  | ((repeat' split) <;> first | assumption | (simp (contextual := true) (maxDischargeDepth := 40) [h]; done) | ((simp (contextual := true) (maxDischargeDepth := 40) [h]) <;> (repeat' split) <;> simp (contextual := true) (maxDischargeDepth := 40) [h]))

@[simp↓] theorem ext_State_endFlexWaits (s : State) (x : StagedPlan) (outcome : Nat) (h : Ext r s) :
    Ext r (State.endFlexWaits s x outcome) := by
  unfold State.endFlexWaits
  first
  | (simp (contextual := true) (maxDischargeDepth := 40) [h]; done)
  | ((repeat' split) <;> first | assumption | (simp (contextual := true) (maxDischargeDepth := 40) [h]; done) | ((simp (contextual := true) (maxDischargeDepth := 40) [h]) <;> (repeat' split) <;> simp (contextual := true) (maxDischargeDepth := 40) [h]))

@[simp↓] theorem ext_State_endActivation (s : State) (status : Nat) (code : Nat) (h : Ext r s) :
    Ext r (State.endActivation s status code) := by
  unfold State.endActivation
  first
  | (simp (contextual := true) (maxDischargeDepth := 40) [h]; done)
  | ((repeat' split) <;> first | assumption | (simp (contextual := true) (maxDischargeDepth := 40) [h]; done) | ((simp (contextual := true) (maxDischargeDepth := 40) [h]) <;> (repeat' split) <;> simp (contextual := true) (maxDischargeDepth := 40) [h]))

@[simp↓] theorem ext_State_endPlan (s : State) (x : StagedPlan) (outcome : Nat) (h : Ext r s) :
    Ext r (State.endPlan s x outcome) := by
  unfold State.endPlan
  first
  | (simp (contextual := true) (maxDischargeDepth := 40) [h]; done)
  | ((repeat' split) <;> first | assumption | (simp (contextual := true) (maxDischargeDepth := 40) [h]; done) | ((simp (contextual := true) (maxDischargeDepth := 40) [h]) <;> (repeat' split) <;> simp (contextual := true) (maxDischargeDepth := 40) [h]))

@[simp↓] theorem ext_State_solveHandle (s : State) (h : Ext r s) :
    Ext r (State.solveHandle s).2 := by
  unfold State.solveHandle
  first
  | (simp (contextual := true) (maxDischargeDepth := 40) [h]; done)
  | ((repeat' split) <;> first | assumption | (simp (contextual := true) (maxDischargeDepth := 40) [h]; done) | ((simp (contextual := true) (maxDischargeDepth := 40) [h]) <;> (repeat' split) <;> simp (contextual := true) (maxDischargeDepth := 40) [h]))

@[simp↓] theorem ext_State_handleTo (s : State) (hh : U32) (cq : Src) (h : Ext r s) :
    Ext r (State.handleTo s hh cq) := by
  unfold State.handleTo
  first
  | (simp (contextual := true) (maxDischargeDepth := 40) [h]; done)
  | ((repeat' split) <;> first | assumption | (simp (contextual := true) (maxDischargeDepth := 40) [h]; done) | ((simp (contextual := true) (maxDischargeDepth := 40) [h]) <;> (repeat' split) <;> simp (contextual := true) (maxDischargeDepth := 40) [h]))

@[simp↓] theorem ext_State_aimHandle (s : State) (hh : U32) (trigger : Nat) (h : Ext r s) :
    Ext r (State.aimHandle s hh trigger) := by
  unfold State.aimHandle
  first
  | (simp (contextual := true) (maxDischargeDepth := 40) [h]; done)
  | ((repeat' split) <;> first | assumption | (simp (contextual := true) (maxDischargeDepth := 40) [h]; done) | ((simp (contextual := true) (maxDischargeDepth := 40) [h]) <;> (repeat' split) <;> simp (contextual := true) (maxDischargeDepth := 40) [h]))

@[simp↓] theorem ext_State_beginSolve (s : State) (m : NetModel) (handle : U32) (trigger : Nat) (trigKind : Nat) (budget : Nat) (hstart : Nat) (h : Ext r s) :
    Ext r (State.beginSolve s m handle trigger trigKind budget hstart) := by
  unfold State.beginSolve
  first
  | (simp (contextual := true) (maxDischargeDepth := 40) [h]; done)
  | ((repeat' split) <;> first | assumption | (simp (contextual := true) (maxDischargeDepth := 40) [h]; done) | ((simp (contextual := true) (maxDischargeDepth := 40) [h]) <;> (repeat' split) <;> simp (contextual := true) (maxDischargeDepth := 40) [h]))

@[simp↓] theorem ext_State_startDue (s : State) (h : Ext r s) :
    Ext r (State.startDue s) := by
  unfold State.startDue
  first
  | (simp (contextual := true) (maxDischargeDepth := 40) [h]; done)
  | ((repeat' split) <;> first | assumption | (simp (contextual := true) (maxDischargeDepth := 40) [h]; done) | ((simp (contextual := true) (maxDischargeDepth := 40) [h]) <;> (repeat' split) <;> simp (contextual := true) (maxDischargeDepth := 40) [h]))

@[simp↓] theorem ext_State_cadenceAct (s : State) (h : Ext r s) :
    Ext r (State.cadenceAct s) := by
  unfold State.cadenceAct
  first
  | (simp (contextual := true) (maxDischargeDepth := 40) [h]; done)
  | ((repeat' split) <;> first | assumption | (simp (contextual := true) (maxDischargeDepth := 40) [h]; done) | ((simp (contextual := true) (maxDischargeDepth := 40) [h]) <;> (repeat' split) <;> simp (contextual := true) (maxDischargeDepth := 40) [h]))

@[simp↓] theorem ext_State_solveDone (s : State) (h : Ext r s) :
    Ext r (State.solveDone s) := by
  unfold State.solveDone
  first
  | (simp (contextual := true) (maxDischargeDepth := 40) [h]; done)
  | ((repeat' split) <;> first | assumption | (simp (contextual := true) (maxDischargeDepth := 40) [h]; done) | ((simp (contextual := true) (maxDischargeDepth := 40) [h]) <;> (repeat' split) <;> simp (contextual := true) (maxDischargeDepth := 40) [h]))

@[simp↓] theorem ext_State_stagePlan (s : State) (v : Solve) (p : Plan) (buf : Nat) (h : Ext r s) :
    Ext r (State.stagePlan s v p buf) := by
  unfold State.stagePlan
  first
  | (simp (contextual := true) (maxDischargeDepth := 40) [h]; done)
  | ((repeat' split) <;> first | assumption | (simp (contextual := true) (maxDischargeDepth := 40) [h]; done) | ((simp (contextual := true) (maxDischargeDepth := 40) [h]) <;> (repeat' split) <;> simp (contextual := true) (maxDischargeDepth := 40) [h]))

@[simp↓] theorem ext_State_publish (s : State) (v : Solve) (r1 : SolveResult) (h : Ext r s) :
    Ext r (State.publish s v r1) := by
  unfold State.publish
  first
  | (simp (contextual := true) (maxDischargeDepth := 40) [h]; done)
  | ((repeat' split) <;> first | assumption | (simp (contextual := true) (maxDischargeDepth := 40) [h]; done) | ((simp (contextual := true) (maxDischargeDepth := 40) [h]) <;> (repeat' split) <;> simp (contextual := true) (maxDischargeDepth := 40) [h]))

@[simp↓] theorem ext_State_discardPlans (s : State) (f : StagedPlan → Bool) (outcome : Nat) (h : Ext r s) :
    Ext r (State.discardPlans s f outcome) := by
  unfold State.discardPlans
  first
  | (simp (contextual := true) (maxDischargeDepth := 40) [h]; done)
  | ((repeat' split) <;> first | assumption | (simp (contextual := true) (maxDischargeDepth := 40) [h]; done) | ((simp (contextual := true) (maxDischargeDepth := 40) [h]) <;> (repeat' split) <;> simp (contextual := true) (maxDischargeDepth := 40) [h]))

@[simp↓] theorem ext_State_applyService (s : State) (start : Nat) (h : Ext r s) :
    Ext r (State.applyService s start) := by
  unfold State.applyService
  first
  | (simp (contextual := true) (maxDischargeDepth := 40) [h]; done)
  | ((repeat' split) <;> first | assumption | (simp (contextual := true) (maxDischargeDepth := 40) [h]; done) | ((simp (contextual := true) (maxDischargeDepth := 40) [h]) <;> (repeat' split) <;> simp (contextual := true) (maxDischargeDepth := 40) [h]))

@[simp↓] theorem ext_State_flipModel (s : State) (h : Ext r s) :
    Ext r (State.flipModel s) := by
  unfold State.flipModel
  first
  | (simp (contextual := true) (maxDischargeDepth := 40) [h]; done)
  | ((repeat' split) <;> first | assumption | (simp (contextual := true) (maxDischargeDepth := 40) [h]; done) | ((simp (contextual := true) (maxDischargeDepth := 40) [h]) <;> (repeat' split) <;> simp (contextual := true) (maxDischargeDepth := 40) [h]))

@[simp↓] theorem ext_State_takePlan (s : State) (x : StagedPlan) (h : Ext r s) :
    Ext r (State.takePlan s x) := by
  unfold State.takePlan
  first
  | (simp (contextual := true) (maxDischargeDepth := 40) [h]; done)
  | ((repeat' split) <;> first | assumption | (simp (contextual := true) (maxDischargeDepth := 40) [h]; done) | ((simp (contextual := true) (maxDischargeDepth := 40) [h]) <;> (repeat' split) <;> simp (contextual := true) (maxDischargeDepth := 40) [h]))

@[simp↓] theorem ext_State_judgePlans (s : State) (h : Ext r s) :
    Ext r (State.judgePlans s) := by
  unfold State.judgePlans
  first
  | (simp (contextual := true) (maxDischargeDepth := 40) [h]; done)
  | ((repeat' split) <;> first | assumption | (simp (contextual := true) (maxDischargeDepth := 40) [h]; done) | ((simp (contextual := true) (maxDischargeDepth := 40) [h]) <;> (repeat' split) <;> simp (contextual := true) (maxDischargeDepth := 40) [h]))

@[simp↓] theorem ext_State_triggerFast (s : State) (band : Nat) (h : Ext r s) :
    Ext r (State.triggerFast s band) := by
  unfold State.triggerFast
  first
  | (simp (contextual := true) (maxDischargeDepth := 40) [h]; done)
  | ((repeat' split) <;> first | assumption | (simp (contextual := true) (maxDischargeDepth := 40) [h]; done) | ((simp (contextual := true) (maxDischargeDepth := 40) [h]) <;> (repeat' split) <;> simp (contextual := true) (maxDischargeDepth := 40) [h]))

@[simp↓] theorem ext_State_addFlexWait (s : State) (hh : U32) (extId : U32) (h : Ext r s) :
    Ext r (State.addFlexWait s hh extId) := by
  unfold State.addFlexWait
  first
  | (simp (contextual := true) (maxDischargeDepth := 40) [h]; done)
  | ((repeat' split) <;> first | assumption | (simp (contextual := true) (maxDischargeDepth := 40) [h]; done) | ((simp (contextual := true) (maxDischargeDepth := 40) [h]) <;> (repeat' split) <;> simp (contextual := true) (maxDischargeDepth := 40) [h]))

@[simp↓] theorem ext_State_setFloor (s : State) (level : Nat) (r1 : FloorRec) (h : Ext r s) :
    Ext r (State.setFloor s level r1) := by
  unfold State.setFloor
  first
  | (simp (contextual := true) (maxDischargeDepth := 40) [h]; done)
  | ((repeat' split) <;> first | assumption | (simp (contextual := true) (maxDischargeDepth := 40) [h]; done) | ((simp (contextual := true) (maxDischargeDepth := 40) [h]) <;> (repeat' split) <;> simp (contextual := true) (maxDischargeDepth := 40) [h]))

@[simp↓] theorem ext_State_setMembers (s : State) (level : Nat) (l : List FedMember) (h : Ext r s) :
    Ext r (State.setMembers s level l) := by
  unfold State.setMembers
  first
  | (simp (contextual := true) (maxDischargeDepth := 40) [h]; done)
  | ((repeat' split) <;> first | assumption | (simp (contextual := true) (maxDischargeDepth := 40) [h]; done) | ((simp (contextual := true) (maxDischargeDepth := 40) [h]) <;> (repeat' split) <;> simp (contextual := true) (maxDischargeDepth := 40) [h]))

@[simp↓] theorem ext_State_selfMember (s : State) (level : Nat) (h : Ext r s) :
    Ext r (State.selfMember s level) := by
  unfold State.selfMember
  first
  | (simp (contextual := true) (maxDischargeDepth := 40) [h]; done)
  | ((repeat' split) <;> first | assumption | (simp (contextual := true) (maxDischargeDepth := 40) [h]; done) | ((simp (contextual := true) (maxDischargeDepth := 40) [h]) <;> (repeat' split) <;> simp (contextual := true) (maxDischargeDepth := 40) [h]))

@[simp↓] theorem ext_State_switchFloor (s : State) (level : Nat) (h : Ext r s) :
    Ext r (State.switchFloor s level) := by
  unfold State.switchFloor
  first
  | (simp (contextual := true) (maxDischargeDepth := 40) [h]; done)
  | ((repeat' split) <;> first | assumption | (simp (contextual := true) (maxDischargeDepth := 40) [h]; done) | ((simp (contextual := true) (maxDischargeDepth := 40) [h]) <;> (repeat' split) <;> simp (contextual := true) (maxDischargeDepth := 40) [h]))

@[simp↓] theorem ext_State_settleFloor (s : State) (level : Nat) (h : Ext r s) :
    Ext r (State.settleFloor s level) := by
  unfold State.settleFloor
  first
  | (simp (contextual := true) (maxDischargeDepth := 40) [h]; done)
  | ((repeat' split) <;> first | assumption | (simp (contextual := true) (maxDischargeDepth := 40) [h]; done) | ((simp (contextual := true) (maxDischargeDepth := 40) [h]) <;> (repeat' split) <;> simp (contextual := true) (maxDischargeDepth := 40) [h]))

@[simp↓] theorem ext_State_announce (s : State) (level : Nat) (h : Ext r s) :
    Ext r (State.announce s level) := by
  unfold State.announce
  first
  | (simp (contextual := true) (maxDischargeDepth := 40) [h]; done)
  | ((repeat' split) <;> first | assumption | (simp (contextual := true) (maxDischargeDepth := 40) [h]; done) | ((simp (contextual := true) (maxDischargeDepth := 40) [h]) <;> (repeat' split) <;> simp (contextual := true) (maxDischargeDepth := 40) [h]))

@[simp↓] theorem ext_State_sendQBytes (s : State) (port : Option Nat) (src : Nat) (seq : Nat) (bytes : List Byte) (h : Ext r s) :
    Ext r (State.sendQBytes s port src seq bytes) := by
  unfold State.sendQBytes
  first
  | (simp (contextual := true) (maxDischargeDepth := 40) [h]; done)
  | ((repeat' split) <;> first | assumption | (simp (contextual := true) (maxDischargeDepth := 40) [h]; done) | ((simp (contextual := true) (maxDischargeDepth := 40) [h]) <;> (repeat' split) <;> simp (contextual := true) (maxDischargeDepth := 40) [h]))

@[simp↓] theorem ext_State_sendQ (s : State) (level : Nat) (kind : Nat) (dst : Nat) (payload : List Byte) (h : Ext r s) :
    Ext r (State.sendQ s level kind dst payload) := by
  unfold State.sendQ
  first
  | (simp (contextual := true) (maxDischargeDepth := 40) [h]; done)
  | ((repeat' split) <;> first | assumption | (simp (contextual := true) (maxDischargeDepth := 40) [h]; done) | ((simp (contextual := true) (maxDischargeDepth := 40) [h]) <;> (repeat' split) <;> simp (contextual := true) (maxDischargeDepth := 40) [h]))

@[simp↓] theorem ext_State_advertise (s : State) (level : Nat) (h : Ext r s) :
    Ext r (State.advertise s level) := by
  unfold State.advertise
  first
  | (simp (contextual := true) (maxDischargeDepth := 40) [h]; done)
  | ((repeat' split) <;> first | assumption | (simp (contextual := true) (maxDischargeDepth := 40) [h]; done) | ((simp (contextual := true) (maxDischargeDepth := 40) [h]) <;> (repeat' split) <;> simp (contextual := true) (maxDischargeDepth := 40) [h]))

@[simp↓] theorem ext_State_setCoup (s : State) (i : Nat) (c : CoupSt) (h : Ext r s) :
    Ext r (State.setCoup s i c) := by
  unfold State.setCoup
  first
  | (simp (contextual := true) (maxDischargeDepth := 40) [h]; done)
  | ((repeat' split) <;> first | assumption | (simp (contextual := true) (maxDischargeDepth := 40) [h]; done) | ((simp (contextual := true) (maxDischargeDepth := 40) [h]) <;> (repeat' split) <;> simp (contextual := true) (maxDischargeDepth := 40) [h]))

@[simp↓] theorem ext_State_fedRefresh (s : State) (h : Ext r s) :
    Ext r (State.fedRefresh s) := by
  unfold State.fedRefresh
  first
  | (simp (contextual := true) (maxDischargeDepth := 40) [h]; done)
  | ((repeat' split) <;> first | assumption | (simp (contextual := true) (maxDischargeDepth := 40) [h]; done) | ((simp (contextual := true) (maxDischargeDepth := 40) [h]) <;> (repeat' split) <;> simp (contextual := true) (maxDischargeDepth := 40) [h]))

@[simp↓] theorem ext_State_buildProposals (s : State) (m : NetModel) (level : Nat) (h : Ext r s) :
    Ext r (State.buildProposals s m level) := by
  unfold State.buildProposals
  first
  | (simp (contextual := true) (maxDischargeDepth := 40) [h]; done)
  | ((repeat' split) <;> first | assumption | (simp (contextual := true) (maxDischargeDepth := 40) [h]; done) | ((simp (contextual := true) (maxDischargeDepth := 40) [h]) <;> (repeat' split) <;> simp (contextual := true) (maxDischargeDepth := 40) [h]))

@[simp↓] theorem ext_State_sendProposals (s : State) (level : Nat) (h : Ext r s) :
    Ext r (State.sendProposals s level) := by
  unfold State.sendProposals
  first
  | (simp (contextual := true) (maxDischargeDepth := 40) [h]; done)
  | ((repeat' split) <;> first | assumption | (simp (contextual := true) (maxDischargeDepth := 40) [h]; done) | ((simp (contextual := true) (maxDischargeDepth := 40) [h]) <;> (repeat' split) <;> simp (contextual := true) (maxDischargeDepth := 40) [h]))

@[simp↓] theorem ext_State_agreeCase (s : State) (level : Nat) (round : Nat) (r1 : List Byte) (c : CoupSt) (own : Proposal) (x : Proposal) (h : Ext r s) :
    Ext r (State.agreeCase s level round r1 c own x) := by
  unfold State.agreeCase
  first
  | (simp (contextual := true) (maxDischargeDepth := 40) [h]; done)
  | ((repeat' split) <;> first | assumption | (simp (contextual := true) (maxDischargeDepth := 40) [h]; done) | ((simp (contextual := true) (maxDischargeDepth := 40) [h]) <;> (repeat' split) <;> simp (contextual := true) (maxDischargeDepth := 40) [h]))

@[simp↓] theorem ext_State_entryRx (s : State) (level : Nat) (round : Nat) (r1 : List Byte) (x : Proposal) (h : Ext r s) :
    Ext r (State.entryRx s level round r1 x) := by
  unfold State.entryRx
  dsimp only
  (repeat' split) <;> simp (contextual := true) (maxDischargeDepth := 40) [h]

@[simp↓] theorem ext_State_qReject (s : State) (h : Ext r s) :
    Ext r (State.qReject s) := by
  unfold State.qReject
  first
  | (simp (contextual := true) (maxDischargeDepth := 40) [h]; done)
  | ((repeat' split) <;> first | assumption | (simp (contextual := true) (maxDischargeDepth := 40) [h]; done) | ((simp (contextual := true) (maxDischargeDepth := 40) [h]) <;> (repeat' split) <;> simp (contextual := true) (maxDischargeDepth := 40) [h]))

@[simp↓] theorem ext_State_segArrive (s : State) (m : QMsg) (h : Ext r s) :
    Ext r (State.segArrive s m).1 := by
  unfold State.segArrive
  first
  | (simp (contextual := true) (maxDischargeDepth := 40) [h]; done)
  | ((repeat' split) <;> first | assumption | (simp (contextual := true) (maxDischargeDepth := 40) [h]; done) | ((simp (contextual := true) (maxDischargeDepth := 40) [h]) <;> (repeat' split) <;> simp (contextual := true) (maxDischargeDepth := 40) [h]))

@[simp↓] theorem ext_State_sawQ (s : State) (m : QMsg) (h : Ext r s) :
    Ext r (State.sawQ s m) := by
  unfold State.sawQ
  first
  | (simp (contextual := true) (maxDischargeDepth := 40) [h]; done)
  | ((repeat' split) <;> first | assumption | (simp (contextual := true) (maxDischargeDepth := 40) [h]; done) | ((simp (contextual := true) (maxDischargeDepth := 40) [h]) <;> (repeat' split) <;> simp (contextual := true) (maxDischargeDepth := 40) [h]))

@[simp↓] theorem ext_State_foreign (s : State) (m : QMsg) (h : Ext r s) :
    Ext r (State.foreign s m) := by
  unfold State.foreign
  first
  | (simp (contextual := true) (maxDischargeDepth := 40) [h]; done)
  | ((repeat' split) <;> first | assumption | (simp (contextual := true) (maxDischargeDepth := 40) [h]; done) | ((simp (contextual := true) (maxDischargeDepth := 40) [h]) <;> (repeat' split) <;> simp (contextual := true) (maxDischargeDepth := 40) [h]))

@[simp↓] theorem ext_State_proposeIn (s : State) (m : QMsg) (ps : List Proposal) (h : Ext r s) :
    Ext r (State.proposeIn s m ps) := by
  unfold State.proposeIn
  dsimp only
  refine ext_foldl (ext_foldl h ?_) ?_
  · intro a x ha
    split <;> simp (contextual := true) (maxDischargeDepth := 40) [ha]
  · intro a x ha
    simp (contextual := true) (maxDischargeDepth := 40) [ha]

@[simp↓] theorem ext_State_adoptFloors (s : State) (level : Nat) (fs : List (Nat × Nat × Nat × Nat)) (h : Ext r s) :
    Ext r (State.adoptFloors s level fs) := by
  unfold State.adoptFloors
  first
  | (simp (contextual := true) (maxDischargeDepth := 40) [h]; done)
  | ((repeat' split) <;> first | assumption | (simp (contextual := true) (maxDischargeDepth := 40) [h]; done) | ((simp (contextual := true) (maxDischargeDepth := 40) [h]) <;> (repeat' split) <;> simp (contextual := true) (maxDischargeDepth := 40) [h]))

@[simp↓] theorem ext_State_advertiseIn (s : State) (m : QMsg) (d : Advert) (h : Ext r s) :
    Ext r (State.advertiseIn s m d) := by
  unfold State.advertiseIn
  first
  | (simp (contextual := true) (maxDischargeDepth := 40) [h]; done)
  | ((repeat' split) <;> first | assumption | (simp (contextual := true) (maxDischargeDepth := 40) [h]; done) | ((simp (contextual := true) (maxDischargeDepth := 40) [h]) <;> (repeat' split) <;> simp (contextual := true) (maxDischargeDepth := 40) [h]))

@[simp↓] theorem ext_State_closeRound (s : State) (level : Nat) (h : Ext r s) :
    Ext r (State.closeRound s level) := by
  unfold State.closeRound
  first
  | (simp (contextual := true) (maxDischargeDepth := 40) [h]; done)
  | ((repeat' split) <;> first | assumption | (simp (contextual := true) (maxDischargeDepth := 40) [h]; done) | ((simp (contextual := true) (maxDischargeDepth := 40) [h]) <;> (repeat' split) <;> simp (contextual := true) (maxDischargeDepth := 40) [h]))

@[simp↓] theorem ext_State_speakRound (s : State) (level : Nat) (h : Ext r s) :
    Ext r (State.speakRound s level) := by
  unfold State.speakRound
  first
  | (simp (contextual := true) (maxDischargeDepth := 40) [h]; done)
  | ((repeat' split) <;> first | assumption | (simp (contextual := true) (maxDischargeDepth := 40) [h]; done) | ((simp (contextual := true) (maxDischargeDepth := 40) [h]) <;> (repeat' split) <;> simp (contextual := true) (maxDischargeDepth := 40) [h]))

@[simp↓] theorem ext_State_openRound (s : State) (level : Nat) (h : Ext r s) :
    Ext r (State.openRound s level) := by
  unfold State.openRound
  first
  | (simp (contextual := true) (maxDischargeDepth := 40) [h]; done)
  | ((repeat' split) <;> first | assumption | (simp (contextual := true) (maxDischargeDepth := 40) [h]; done) | ((simp (contextual := true) (maxDischargeDepth := 40) [h]) <;> (repeat' split) <;> simp (contextual := true) (maxDischargeDepth := 40) [h]))

theorem ext_execRoundOpening (level : Nat) (s : State) (h : Ext r s) :
    ExtOut r (execRoundOpening level s) := by
  unfold execRoundOpening
  first
  | (simp (contextual := true) (maxDischargeDepth := 40) [h]; done)
  | (apply extOut_next; (repeat' split) <;> first | assumption | (simp (contextual := true) (maxDischargeDepth := 40) [h]; done) | ((simp (contextual := true) (maxDischargeDepth := 40) [h]) <;> (repeat' split) <;> simp (contextual := true) (maxDischargeDepth := 40) [h]))

theorem ext_execRoundClose (level : Nat) (s : State) (h : Ext r s) :
    ExtOut r (execRoundClose level s) := by
  unfold execRoundClose
  first
  | (simp (contextual := true) (maxDischargeDepth := 40) [h]; done)
  | (apply extOut_next; (repeat' split) <;> first | assumption | (simp (contextual := true) (maxDischargeDepth := 40) [h]; done) | ((simp (contextual := true) (maxDischargeDepth := 40) [h]) <;> (repeat' split) <;> simp (contextual := true) (maxDischargeDepth := 40) [h]))

theorem ext_execProposeRx (m : QMsg) (ps : List Proposal) (s : State) (h : Ext r s) :
    ExtOut r (execProposeRx m ps s) := by
  unfold execProposeRx
  first
  | (simp (contextual := true) (maxDischargeDepth := 40) [h]; done)
  | (apply extOut_next; (repeat' split) <;> first | assumption | (simp (contextual := true) (maxDischargeDepth := 40) [h]; done) | ((simp (contextual := true) (maxDischargeDepth := 40) [h]) <;> (repeat' split) <;> simp (contextual := true) (maxDischargeDepth := 40) [h]))

theorem ext_execAdvertiseRx (m : QMsg) (a : Advert) (s : State) (h : Ext r s) :
    ExtOut r (execAdvertiseRx m a s) := by
  unfold execAdvertiseRx
  first
  | (simp (contextual := true) (maxDischargeDepth := 40) [h]; done)
  | (apply extOut_next; (repeat' split) <;> first | assumption | (simp (contextual := true) (maxDischargeDepth := 40) [h]; done) | ((simp (contextual := true) (maxDischargeDepth := 40) [h]) <;> (repeat' split) <;> simp (contextual := true) (maxDischargeDepth := 40) [h]))

theorem ext_execMemberExpire (level : Nat) (addr : Nat) (s : State) (h : Ext r s) :
    ExtOut r (execMemberExpire level addr s) := by
  unfold execMemberExpire
  first
  | (simp (contextual := true) (maxDischargeDepth := 40) [h]; done)
  | (apply extOut_next; (repeat' split) <;> first | assumption | (simp (contextual := true) (maxDischargeDepth := 40) [h]; done) | ((simp (contextual := true) (maxDischargeDepth := 40) [h]) <;> (repeat' split) <;> simp (contextual := true) (maxDischargeDepth := 40) [h]))

@[simp↓] theorem ext_forgetMemberVerdict (level : Nat) (addr : Nat) (s : State) :
    (forgetMemberVerdict level addr s).Extends := by
  unfold forgetMemberVerdict
  repeat' split
  all_goals first | (exact extends_reject _) | (simp (contextual := true) (maxDischargeDepth := 40) ; done) | (intro r t h; simp (contextual := true) (maxDischargeDepth := 40) [h]; done) | (dsimp only; (repeat' split) <;> simp (contextual := true) (maxDischargeDepth := 40))

theorem ext_execForgetMember (hh : Hdr) (level : Nat) (addr : Nat) (s : State) (h : Ext r s) :
    ExtOut r (execForgetMember hh level addr s) := by
  unfold execForgetMember
  first
  | (simp (contextual := true) (maxDischargeDepth := 40) [h]; done)
  | (apply extOut_next; (repeat' split) <;> first | assumption | (simp (contextual := true) (maxDischargeDepth := 40) [h]; done) | ((simp (contextual := true) (maxDischargeDepth := 40) [h]) <;> (repeat' split) <;> simp (contextual := true) (maxDischargeDepth := 40) [h]))

theorem ext_execQualothForward (m : QMsg) (s : State) (h : Ext r s) :
    ExtOut r (execQualothForward m s) := by
  unfold execQualothForward
  first
  | (simp (contextual := true) (maxDischargeDepth := 40) [h]; done)
  | (apply extOut_next; (repeat' split) <;> first | assumption | (simp (contextual := true) (maxDischargeDepth := 40) [h]; done) | ((simp (contextual := true) (maxDischargeDepth := 40) [h]) <;> (repeat' split) <;> simp (contextual := true) (maxDischargeDepth := 40) [h]))

@[simp↓] theorem ext_State_fieldAcked (s : State) (chans : U32) (groups : BitVec 8) (aouts : BitVec 8) (live : U32) (liveA : BitVec 8) (h : Ext r s) :
    Ext r (State.fieldAcked s chans groups aouts live liveA) := by
  unfold State.fieldAcked
  first
  | (simp (contextual := true) (maxDischargeDepth := 40) [h]; done)
  | ((repeat' split) <;> first | assumption | (simp (contextual := true) (maxDischargeDepth := 40) [h]; done) | ((simp (contextual := true) (maxDischargeDepth := 40) [h]) <;> (repeat' split) <;> simp (contextual := true) (maxDischargeDepth := 40) [h]))

@[simp↓] theorem ext_fieldAckVerdict (hh : Hdr) (chans : U32) (groups : BitVec 8) (aouts : BitVec 8) (live : U32) (liveA : BitVec 8) (s : State) :
    (fieldAckVerdict hh chans groups aouts live liveA s).Extends := by
  unfold fieldAckVerdict
  repeat' split
  all_goals first | (exact extends_reject _) | (simp (contextual := true) (maxDischargeDepth := 40) ; done) | (intro r t h; simp (contextual := true) (maxDischargeDepth := 40) [h]; done) | (dsimp only; (repeat' split) <;> simp (contextual := true) (maxDischargeDepth := 40))

theorem ext_execFieldAck (hh : Hdr) (chans : U32) (groups : BitVec 8) (aouts : BitVec 8) (live : U32) (liveA : BitVec 8) (s : State) (h : Ext r s) :
    ExtOut r (execFieldAck hh chans groups aouts live liveA s) := by
  unfold execFieldAck
  first
  | (simp (contextual := true) (maxDischargeDepth := 40) [h]; done)
  | (apply extOut_next; (repeat' split) <;> first | assumption | (simp (contextual := true) (maxDischargeDepth := 40) [h]; done) | ((simp (contextual := true) (maxDischargeDepth := 40) [h]) <;> (repeat' split) <;> simp (contextual := true) (maxDischargeDepth := 40) [h]))

theorem ext_execFieldLinkLoss (s : State) (h : Ext r s) :
    ExtOut r (execFieldLinkLoss s) := by
  unfold execFieldLinkLoss
  first
  | (simp (contextual := true) (maxDischargeDepth := 40) [h]; done)
  | (apply extOut_next; (repeat' split) <;> first | assumption | (simp (contextual := true) (maxDischargeDepth := 40) [h]; done) | ((simp (contextual := true) (maxDischargeDepth := 40) [h]) <;> (repeat' split) <;> simp (contextual := true) (maxDischargeDepth := 40) [h]))

theorem ext_execFieldLinkRestore (s : State) (h : Ext r s) :
    ExtOut r (execFieldLinkRestore s) := by
  unfold execFieldLinkRestore
  first
  | (simp (contextual := true) (maxDischargeDepth := 40) [h]; done)
  | (apply extOut_next; (repeat' split) <;> first | assumption | (simp (contextual := true) (maxDischargeDepth := 40) [h]; done) | ((simp (contextual := true) (maxDischargeDepth := 40) [h]) <;> (repeat' split) <;> simp (contextual := true) (maxDischargeDepth := 40) [h]))

@[simp↓] theorem ext_State_trip (s : State) (c : Nat) (bit : Nat) (h : Ext r s) :
    Ext r (State.trip s c bit) := by
  unfold State.trip
  first
  | (simp (contextual := true) (maxDischargeDepth := 40) [h]; done)
  | ((repeat' split) <;> first | assumption | (simp (contextual := true) (maxDischargeDepth := 40) [h]; done) | ((simp (contextual := true) (maxDischargeDepth := 40) [h]) <;> (repeat' split) <;> simp (contextual := true) (maxDischargeDepth := 40) [h]))

theorem ext_execOutputOverload (ch : Nat) (s : State) (h : Ext r s) :
    ExtOut r (execOutputOverload ch s) := by
  unfold execOutputOverload
  first
  | (simp (contextual := true) (maxDischargeDepth := 40) [h]; done)
  | (apply extOut_next; (repeat' split) <;> first | assumption | (simp (contextual := true) (maxDischargeDepth := 40) [h]; done) | ((simp (contextual := true) (maxDischargeDepth := 40) [h]) <;> (repeat' split) <;> simp (contextual := true) (maxDischargeDepth := 40) [h]))

theorem ext_execOutputThermal (ch : Nat) (s : State) (h : Ext r s) :
    ExtOut r (execOutputThermal ch s) := by
  unfold execOutputThermal
  first
  | (simp (contextual := true) (maxDischargeDepth := 40) [h]; done)
  | (apply extOut_next; (repeat' split) <;> first | assumption | (simp (contextual := true) (maxDischargeDepth := 40) [h]; done) | ((simp (contextual := true) (maxDischargeDepth := 40) [h]) <;> (repeat' split) <;> simp (contextual := true) (maxDischargeDepth := 40) [h]))

@[simp↓] theorem ext_State_shedLoop (s : State) (a : Nat) (a2 : List (Nat × F32)) (h : Ext r s) :
    Ext r (State.shedLoop s a a2) := by
  induction a generalizing s a2 with
  | zero => exact h
  | succ n ih =>
    unfold State.shedLoop
    split
    · exact h
    split
    · exact h
    · exact ih _ _ (by simp (contextual := true) (maxDischargeDepth := 40) [h])

theorem ext_execGroupLimitShed (grp : Nat) (amps : List F32) (s : State) (h : Ext r s) :
    ExtOut r (execGroupLimitShed grp amps s) := by
  unfold execGroupLimitShed
  first
  | (simp (contextual := true) (maxDischargeDepth := 40) [h]; done)
  | (apply extOut_next; (repeat' split) <;> first | assumption | (simp (contextual := true) (maxDischargeDepth := 40) [h]; done) | ((simp (contextual := true) (maxDischargeDepth := 40) [h]) <;> (repeat' split) <;> simp (contextual := true) (maxDischargeDepth := 40) [h]))

theorem ext_execOutputDiagTest (ch : Nat) (vOff : F32) (vOn : F32) (vfld : F32) (amps : F32) (s : State) (h : Ext r s) :
    ExtOut r (execOutputDiagTest ch vOff vOn vfld amps s) := by
  unfold execOutputDiagTest
  first
  | (simp (contextual := true) (maxDischargeDepth := 40) [h]; done)
  | (apply extOut_next; (repeat' split) <;> first | assumption | (simp (contextual := true) (maxDischargeDepth := 40) [h]; done) | ((simp (contextual := true) (maxDischargeDepth := 40) [h]) <;> (repeat' split) <;> simp (contextual := true) (maxDischargeDepth := 40) [h]))

theorem ext_execSharedMaskEnd (s : State) (h : Ext r s) :
    ExtOut r (execSharedMaskEnd s) := by
  unfold execSharedMaskEnd
  first
  | (simp (contextual := true) (maxDischargeDepth := 40) [h]; done)
  | (apply extOut_next; (repeat' split) <;> first | assumption | (simp (contextual := true) (maxDischargeDepth := 40) [h]; done) | ((simp (contextual := true) (maxDischargeDepth := 40) [h]) <;> (repeat' split) <;> simp (contextual := true) (maxDischargeDepth := 40) [h]))

theorem ext_execPwmPeriodBoundary (ch : Nat) (s : State) (h : Ext r s) :
    ExtOut r (execPwmPeriodBoundary ch s) := by
  unfold execPwmPeriodBoundary
  first
  | (simp (contextual := true) (maxDischargeDepth := 40) [h]; done)
  | (apply extOut_next; (repeat' split) <;> first | assumption | (simp (contextual := true) (maxDischargeDepth := 40) [h]; done) | ((simp (contextual := true) (maxDischargeDepth := 40) [h]) <;> (repeat' split) <;> simp (contextual := true) (maxDischargeDepth := 40) [h]))

theorem ext_execSupplyWarnCross (grp : Nat) (down : Bool) (volts : F32) (s : State) (h : Ext r s) :
    ExtOut r (execSupplyWarnCross grp down volts s) := by
  unfold execSupplyWarnCross
  first
  | (simp (contextual := true) (maxDischargeDepth := 40) [h]; done)
  | (apply extOut_next; (repeat' split) <;> first | assumption | (simp (contextual := true) (maxDischargeDepth := 40) [h]; done) | ((simp (contextual := true) (maxDischargeDepth := 40) [h]) <;> (repeat' split) <;> simp (contextual := true) (maxDischargeDepth := 40) [h]))

@[simp↓] theorem ext_State_cutGroup (s : State) (g : Nat) (h : Ext r s) :
    Ext r (State.cutGroup s g) := by
  unfold State.cutGroup
  first
  | (simp (contextual := true) (maxDischargeDepth := 40) [h]; done)
  | ((repeat' split) <;> first | assumption | (simp (contextual := true) (maxDischargeDepth := 40) [h]; done) | ((simp (contextual := true) (maxDischargeDepth := 40) [h]) <;> (repeat' split) <;> simp (contextual := true) (maxDischargeDepth := 40) [h]))

theorem ext_execSupplyCutoff (grp : Nat) (volts : F32) (s : State) (h : Ext r s) :
    ExtOut r (execSupplyCutoff grp volts s) := by
  unfold execSupplyCutoff
  first
  | (simp (contextual := true) (maxDischargeDepth := 40) [h]; done)
  | (apply extOut_next; (repeat' split) <;> first | assumption | (simp (contextual := true) (maxDischargeDepth := 40) [h]; done) | ((simp (contextual := true) (maxDischargeDepth := 40) [h]) <;> (repeat' split) <;> simp (contextual := true) (maxDischargeDepth := 40) [h]))

theorem ext_execSupplyCutoffUp (grp : Nat) (volts : F32) (s : State) (h : Ext r s) :
    ExtOut r (execSupplyCutoffUp grp volts s) := by
  unfold execSupplyCutoffUp
  first
  | (simp (contextual := true) (maxDischargeDepth := 40) [h]; done)
  | (apply extOut_next; (repeat' split) <;> first | assumption | (simp (contextual := true) (maxDischargeDepth := 40) [h]; done) | ((simp (contextual := true) (maxDischargeDepth := 40) [h]) <;> (repeat' split) <;> simp (contextual := true) (maxDischargeDepth := 40) [h]))

theorem ext_execSupplyHoldoffEnd (grp : Nat) (s : State) (h : Ext r s) :
    ExtOut r (execSupplyHoldoffEnd grp s) := by
  unfold execSupplyHoldoffEnd
  first
  | (simp (contextual := true) (maxDischargeDepth := 40) [h]; done)
  | (apply extOut_next; (repeat' split) <;> first | assumption | (simp (contextual := true) (maxDischargeDepth := 40) [h]; done) | ((simp (contextual := true) (maxDischargeDepth := 40) [h]) <;> (repeat' split) <;> simp (contextual := true) (maxDischargeDepth := 40) [h]))

theorem ext_execInputValidityLoss (grp : Nat) (volts : F32) (s : State) (h : Ext r s) :
    ExtOut r (execInputValidityLoss grp volts s) := by
  unfold execInputValidityLoss
  first
  | (simp (contextual := true) (maxDischargeDepth := 40) [h]; done)
  | (apply extOut_next; (repeat' split) <;> first | assumption | (simp (contextual := true) (maxDischargeDepth := 40) [h]; done) | ((simp (contextual := true) (maxDischargeDepth := 40) [h]) <;> (repeat' split) <;> simp (contextual := true) (maxDischargeDepth := 40) [h]))

theorem ext_execInputValidityRestore (grp : Nat) (volts : F32) (s : State) (h : Ext r s) :
    ExtOut r (execInputValidityRestore grp volts s) := by
  unfold execInputValidityRestore
  first
  | (simp (contextual := true) (maxDischargeDepth := 40) [h]; done)
  | (apply extOut_next; (repeat' split) <;> first | assumption | (simp (contextual := true) (maxDischargeDepth := 40) [h]; done) | ((simp (contextual := true) (maxDischargeDepth := 40) [h]) <;> (repeat' split) <;> simp (contextual := true) (maxDischargeDepth := 40) [h]))

@[simp↓] theorem ext_State_filterSample (s : State) (ch : Nat) (raw : Bool) (time : Nat) (h : Ext r s) :
    Ext r (State.filterSample s ch raw time) := by
  unfold State.filterSample
  first
  | (simp (contextual := true) (maxDischargeDepth := 40) [h]; done)
  | ((repeat' split) <;> first | assumption | (simp (contextual := true) (maxDischargeDepth := 40) [h]; done) | ((simp (contextual := true) (maxDischargeDepth := 40) [h]) <;> (repeat' split) <;> simp (contextual := true) (maxDischargeDepth := 40) [h]))

theorem ext_execFilterCounterStep (ch : Nat) (volts : F32) (time : Nat) (s : State) (h : Ext r s) :
    ExtOut r (execFilterCounterStep ch volts time s) := by
  unfold execFilterCounterStep
  first
  | (simp (contextual := true) (maxDischargeDepth := 40) [h]; done)
  | (apply extOut_next; (repeat' split) <;> first | assumption | (simp (contextual := true) (maxDischargeDepth := 40) [h]; done) | ((simp (contextual := true) (maxDischargeDepth := 40) [h]) <;> (repeat' split) <;> simp (contextual := true) (maxDischargeDepth := 40) [h]))

theorem ext_execShuntOpen (ain : Nat) (isOpen : Bool) (s : State) (h : Ext r s) :
    ExtOut r (execShuntOpen ain isOpen s) := by
  unfold execShuntOpen
  first
  | (simp (contextual := true) (maxDischargeDepth := 40) [h]; done)
  | (apply extOut_next; (repeat' split) <;> first | assumption | (simp (contextual := true) (maxDischargeDepth := 40) [h]; done) | ((simp (contextual := true) (maxDischargeDepth := 40) [h]) <;> (repeat' split) <;> simp (contextual := true) (maxDischargeDepth := 40) [h]))

theorem ext_execAoutOpenLoad (a : Nat) (present : Bool) (s : State) (h : Ext r s) :
    ExtOut r (execAoutOpenLoad a present s) := by
  unfold execAoutOpenLoad
  first
  | (simp (contextual := true) (maxDischargeDepth := 40) [h]; done)
  | (apply extOut_next; (repeat' split) <;> first | assumption | (simp (contextual := true) (maxDischargeDepth := 40) [h]; done) | ((simp (contextual := true) (maxDischargeDepth := 40) [h]) <;> (repeat' split) <;> simp (contextual := true) (maxDischargeDepth := 40) [h]))

theorem ext_execAoutOverload (a : Nat) (s : State) (h : Ext r s) :
    ExtOut r (execAoutOverload a s) := by
  unfold execAoutOverload
  first
  | (simp (contextual := true) (maxDischargeDepth := 40) [h]; done)
  | (apply extOut_next; (repeat' split) <;> first | assumption | (simp (contextual := true) (maxDischargeDepth := 40) [h]; done) | ((simp (contextual := true) (maxDischargeDepth := 40) [h]) <;> (repeat' split) <;> simp (contextual := true) (maxDischargeDepth := 40) [h]))

@[simp↓] theorem ext_State_laneStart (s : State) (l : Nat) (h : Ext r s) :
    Ext r (State.laneStart s l) := by
  unfold State.laneStart
  first
  | (simp (contextual := true) (maxDischargeDepth := 40) [h]; done)
  | ((repeat' split) <;> first | assumption | (simp (contextual := true) (maxDischargeDepth := 40) [h]; done) | ((simp (contextual := true) (maxDischargeDepth := 40) [h]) <;> (repeat' split) <;> simp (contextual := true) (maxDischargeDepth := 40) [h]))

theorem ext_execLaneSampleStart (lane : Nat) (s : State) (h : Ext r s) :
    ExtOut r (execLaneSampleStart lane s) := by
  unfold execLaneSampleStart
  first
  | (simp (contextual := true) (maxDischargeDepth := 40) [h]; done)
  | (apply extOut_next; (repeat' split) <;> first | assumption | (simp (contextual := true) (maxDischargeDepth := 40) [h]; done) | ((simp (contextual := true) (maxDischargeDepth := 40) [h]) <;> (repeat' split) <;> simp (contextual := true) (maxDischargeDepth := 40) [h]))

@[simp↓] theorem ext_State_noteImpl (s : State) (l : Nat) (c : LaneCore) (h : Ext r s) :
    Ext r (State.noteImpl s l c) := by
  unfold State.noteImpl
  first
  | (simp (contextual := true) (maxDischargeDepth := 40) [h]; done)
  | ((repeat' split) <;> first | assumption | (simp (contextual := true) (maxDischargeDepth := 40) [h]; done) | ((simp (contextual := true) (maxDischargeDepth := 40) [h]) <;> (repeat' split) <;> simp (contextual := true) (maxDischargeDepth := 40) [h]))

@[simp↓] theorem ext_State_laneDone (s : State) (l : Nat) (x : LaneSample) (h : Ext r s) :
    Ext r (State.laneDone s l x) := by
  unfold State.laneDone
  first
  | (simp (contextual := true) (maxDischargeDepth := 40) [h]; done)
  | ((repeat' split) <;> first | assumption | (simp (contextual := true) (maxDischargeDepth := 40) [h]; done) | ((simp (contextual := true) (maxDischargeDepth := 40) [h]) <;> (repeat' split) <;> simp (contextual := true) (maxDischargeDepth := 40) [h]))

theorem ext_execLaneSampleComplete (lane : Nat) (s : State) (h : Ext r s) :
    ExtOut r (execLaneSampleComplete lane s) := by
  unfold execLaneSampleComplete
  first
  | (simp (contextual := true) (maxDischargeDepth := 40) [h]; done)
  | (apply extOut_next; (repeat' split) <;> first | assumption | (simp (contextual := true) (maxDischargeDepth := 40) [h]; done) | ((simp (contextual := true) (maxDischargeDepth := 40) [h]) <;> (repeat' split) <;> simp (contextual := true) (maxDischargeDepth := 40) [h]))

@[simp↓] theorem ext_State_laneSafeOvr (s : State) (l : Nat) (h : Ext r s) :
    Ext r (State.laneSafeOvr s l) := by
  unfold State.laneSafeOvr
  first
  | (simp (contextual := true) (maxDischargeDepth := 40) [h]; done)
  | ((repeat' split) <;> first | assumption | (simp (contextual := true) (maxDischargeDepth := 40) [h]; done) | ((simp (contextual := true) (maxDischargeDepth := 40) [h]) <;> (repeat' split) <;> simp (contextual := true) (maxDischargeDepth := 40) [h]))

@[simp↓] theorem ext_State_laneReact (s : State) (l : Nat) (h : Ext r s) :
    Ext r (State.laneReact s l) := by
  unfold State.laneReact
  first
  | (simp (contextual := true) (maxDischargeDepth := 40) [h]; done)
  | ((repeat' split) <;> first | assumption | (simp (contextual := true) (maxDischargeDepth := 40) [h]; done) | ((simp (contextual := true) (maxDischargeDepth := 40) [h]) <;> (repeat' split) <;> simp (contextual := true) (maxDischargeDepth := 40) [h]))

@[simp↓] theorem ext_State_laneMiss (s : State) (l : Nat) (h : Ext r s) :
    Ext r (State.laneMiss s l) := by
  unfold State.laneMiss
  first
  | (simp (contextual := true) (maxDischargeDepth := 40) [h]; done)
  | ((repeat' split) <;> first | assumption | (simp (contextual := true) (maxDischargeDepth := 40) [h]; done) | ((simp (contextual := true) (maxDischargeDepth := 40) [h]) <;> (repeat' split) <;> simp (contextual := true) (maxDischargeDepth := 40) [h]))

theorem ext_execLaneOverrun (lane : Nat) (s : State) (h : Ext r s) :
    ExtOut r (execLaneOverrun lane s) := by
  unfold execLaneOverrun
  first
  | (simp (contextual := true) (maxDischargeDepth := 40) [h]; done)
  | (apply extOut_next; (repeat' split) <;> first | assumption | (simp (contextual := true) (maxDischargeDepth := 40) [h]; done) | ((simp (contextual := true) (maxDischargeDepth := 40) [h]) <;> (repeat' split) <;> simp (contextual := true) (maxDischargeDepth := 40) [h]))

@[simp↓] theorem ext_State_swapOpen (s : State) (hh : U32) (lanes : List Nat) (epoch : Nat) (h : Ext r s) :
    Ext r (State.swapOpen s hh lanes epoch) := by
  unfold State.swapOpen
  first
  | (simp (contextual := true) (maxDischargeDepth := 40) [h]; done)
  | ((repeat' split) <;> first | assumption | (simp (contextual := true) (maxDischargeDepth := 40) [h]; done) | ((simp (contextual := true) (maxDischargeDepth := 40) [h]) <;> (repeat' split) <;> simp (contextual := true) (maxDischargeDepth := 40) [h]))

@[simp↓] theorem ext_bankSwapVerdict (hh : Hdr) (lanes : List Nat) (epoch : Nat) (s : State) :
    (bankSwapVerdict hh lanes epoch s).Extends := by
  unfold bankSwapVerdict
  repeat' split
  all_goals first | (exact extends_reject _) | (simp (contextual := true) (maxDischargeDepth := 40) ; done) | (intro r t h; simp (contextual := true) (maxDischargeDepth := 40) [h]; done) | (dsimp only; (repeat' split) <;> simp (contextual := true) (maxDischargeDepth := 40))

theorem ext_execBankSwap (hh : Hdr) (lanes : List Nat) (epoch : Nat) (s : State) (h : Ext r s) :
    ExtOut r (execBankSwap hh lanes epoch s) := by
  unfold execBankSwap
  first
  | (simp (contextual := true) (maxDischargeDepth := 40) [h]; done)
  | (apply extOut_next; (repeat' split) <;> first | assumption | (simp (contextual := true) (maxDischargeDepth := 40) [h]; done) | ((simp (contextual := true) (maxDischargeDepth := 40) [h]) <;> (repeat' split) <;> simp (contextual := true) (maxDischargeDepth := 40) [h]))

@[simp↓] theorem ext_State_swapNote (s : State) (l : Nat) (h : Ext r s) :
    Ext r (State.swapNote s l) := by
  unfold State.swapNote
  first
  | (simp (contextual := true) (maxDischargeDepth := 40) [h]; done)
  | ((repeat' split) <;> first | assumption | (simp (contextual := true) (maxDischargeDepth := 40) [h]; done) | ((simp (contextual := true) (maxDischargeDepth := 40) [h]) <;> (repeat' split) <;> simp (contextual := true) (maxDischargeDepth := 40) [h]))

@[simp↓] theorem ext_State_doSwap (s : State) (l : Nat) (h : Ext r s) :
    Ext r (State.doSwap s l) := by
  unfold State.doSwap
  first
  | (simp (contextual := true) (maxDischargeDepth := 40) [h]; done)
  | ((repeat' split) <;> first | assumption | (simp (contextual := true) (maxDischargeDepth := 40) [h]; done) | ((simp (contextual := true) (maxDischargeDepth := 40) [h]) <;> (repeat' split) <;> simp (contextual := true) (maxDischargeDepth := 40) [h]))

theorem ext_execLaneBankSwapDue (lane : Nat) (s : State) (h : Ext r s) :
    ExtOut r (execLaneBankSwapDue lane s) := by
  unfold execLaneBankSwapDue
  first
  | (simp (contextual := true) (maxDischargeDepth := 40) [h]; done)
  | (apply extOut_next; (repeat' split) <;> first | assumption | (simp (contextual := true) (maxDischargeDepth := 40) [h]; done) | ((simp (contextual := true) (maxDischargeDepth := 40) [h]) <;> (repeat' split) <;> simp (contextual := true) (maxDischargeDepth := 40) [h]))

@[simp↓] theorem ext_State_laneAcked (s : State) (l : Nat) (h : Ext r s) :
    Ext r (State.laneAcked s l) := by
  unfold State.laneAcked
  first
  | (simp (contextual := true) (maxDischargeDepth := 40) [h]; done)
  | ((repeat' split) <;> first | assumption | (simp (contextual := true) (maxDischargeDepth := 40) [h]; done) | ((simp (contextual := true) (maxDischargeDepth := 40) [h]) <;> (repeat' split) <;> simp (contextual := true) (maxDischargeDepth := 40) [h]))

@[simp↓] theorem ext_laneAckVerdict (lane : Nat) (s : State) :
    (laneAckVerdict lane s).Extends := by
  unfold laneAckVerdict
  repeat' split
  all_goals first | (exact extends_reject _) | (simp (contextual := true) (maxDischargeDepth := 40) ; done) | (intro r t h; simp (contextual := true) (maxDischargeDepth := 40) [h]; done) | (dsimp only; (repeat' split) <;> simp (contextual := true) (maxDischargeDepth := 40))

theorem ext_execLaneAck (hh : Hdr) (lane : Nat) (s : State) (h : Ext r s) :
    ExtOut r (execLaneAck hh lane s) := by
  unfold execLaneAck
  first
  | (simp (contextual := true) (maxDischargeDepth := 40) [h]; done)
  | (apply extOut_next; (repeat' split) <;> first | assumption | (simp (contextual := true) (maxDischargeDepth := 40) [h]; done) | ((simp (contextual := true) (maxDischargeDepth := 40) [h]) <;> (repeat' split) <;> simp (contextual := true) (maxDischargeDepth := 40) [h]))

@[simp↓] theorem ext_State_periodBack (s : State) (l : Nat) (h : Ext r s) :
    Ext r (State.periodBack s l) := by
  unfold State.periodBack
  first
  | (simp (contextual := true) (maxDischargeDepth := 40) [h]; done)
  | ((repeat' split) <;> first | assumption | (simp (contextual := true) (maxDischargeDepth := 40) [h]; done) | ((simp (contextual := true) (maxDischargeDepth := 40) [h]) <;> (repeat' split) <;> simp (contextual := true) (maxDischargeDepth := 40) [h]))

@[simp↓] theorem ext_periodRestoreVerdict (lane : Nat) (s : State) :
    (periodRestoreVerdict lane s).Extends := by
  unfold periodRestoreVerdict
  repeat' split
  all_goals first | (exact extends_reject _) | (simp (contextual := true) (maxDischargeDepth := 40) ; done) | (intro r t h; simp (contextual := true) (maxDischargeDepth := 40) [h]; done) | (dsimp only; (repeat' split) <;> simp (contextual := true) (maxDischargeDepth := 40))

theorem ext_execPeriodRestore (hh : Hdr) (lane : Nat) (s : State) (h : Ext r s) :
    ExtOut r (execPeriodRestore hh lane s) := by
  unfold execPeriodRestore
  first
  | (simp (contextual := true) (maxDischargeDepth := 40) [h]; done)
  | (apply extOut_next; (repeat' split) <;> first | assumption | (simp (contextual := true) (maxDischargeDepth := 40) [h]; done) | ((simp (contextual := true) (maxDischargeDepth := 40) [h]) <;> (repeat' split) <;> simp (contextual := true) (maxDischargeDepth := 40) [h]))

theorem ext_execPercUpdateStart (s : State) (h : Ext r s) :
    ExtOut r (execPercUpdateStart s) := by
  unfold execPercUpdateStart
  first
  | (simp (contextual := true) (maxDischargeDepth := 40) [h]; done)
  | (apply extOut_next; (repeat' split) <;> first | assumption | (simp (contextual := true) (maxDischargeDepth := 40) [h]; done) | ((simp (contextual := true) (maxDischargeDepth := 40) [h]) <;> (repeat' split) <;> simp (contextual := true) (maxDischargeDepth := 40) [h]))

theorem ext_execPercUpdatePublish (r1 : PercResult) (s : State) (h : Ext r s) :
    ExtOut r (execPercUpdatePublish r1 s) := by
  unfold execPercUpdatePublish
  first
  | (simp (contextual := true) (maxDischargeDepth := 40) [h]; done)
  | (apply extOut_next; (repeat' split) <;> first | assumption | (simp (contextual := true) (maxDischargeDepth := 40) [h]; done) | ((simp (contextual := true) (maxDischargeDepth := 40) [h]) <;> (repeat' split) <;> simp (contextual := true) (maxDischargeDepth := 40) [h]))

theorem ext_execMappingUpdate (s : State) (h : Ext r s) :
    ExtOut r (execMappingUpdate s) := by
  unfold execMappingUpdate
  first
  | (simp (contextual := true) (maxDischargeDepth := 40) [h]; done)
  | (apply extOut_next; (repeat' split) <;> first | assumption | (simp (contextual := true) (maxDischargeDepth := 40) [h]; done) | ((simp (contextual := true) (maxDischargeDepth := 40) [h]) <;> (repeat' split) <;> simp (contextual := true) (maxDischargeDepth := 40) [h]))

theorem ext_execCalWindowEnd (opened : Nat) (s : State) (h : Ext r s) :
    ExtOut r (execCalWindowEnd opened s) := by
  unfold execCalWindowEnd
  first
  | (simp (contextual := true) (maxDischargeDepth := 40) [h]; done)
  | (apply extOut_next; (repeat' split) <;> first | assumption | (simp (contextual := true) (maxDischargeDepth := 40) [h]; done) | ((simp (contextual := true) (maxDischargeDepth := 40) [h]) <;> (repeat' split) <;> simp (contextual := true) (maxDischargeDepth := 40) [h]))

@[simp↓] theorem ext_calReadVerdict (hh : Hdr) (s : State) :
    (calReadVerdict hh s).Extends := by
  unfold calReadVerdict
  repeat' split
  all_goals first | (exact extends_reject _) | (simp (contextual := true) (maxDischargeDepth := 40) ; done) | (intro r t h; simp (contextual := true) (maxDischargeDepth := 40) [h]; done) | (dsimp only; (repeat' split) <;> simp (contextual := true) (maxDischargeDepth := 40))

theorem ext_execCalRead (hh : Hdr) (s : State) (h : Ext r s) :
    ExtOut r (execCalRead hh s) := by
  unfold execCalRead
  first
  | (simp (contextual := true) (maxDischargeDepth := 40) [h]; done)
  | (apply extOut_next; (repeat' split) <;> first | assumption | (simp (contextual := true) (maxDischargeDepth := 40) [h]; done) | ((simp (contextual := true) (maxDischargeDepth := 40) [h]) <;> (repeat' split) <;> simp (contextual := true) (maxDischargeDepth := 40) [h]))

@[simp↓] theorem ext_State_calResetStage (s : State) (m : NetModel) (all : Bool) (elem : Nat) (h : Ext r s) :
    Ext r (State.calResetStage s m all elem) := by
  unfold State.calResetStage
  first
  | (simp (contextual := true) (maxDischargeDepth := 40) [h]; done)
  | ((repeat' split) <;> first | assumption | (simp (contextual := true) (maxDischargeDepth := 40) [h]; done) | ((simp (contextual := true) (maxDischargeDepth := 40) [h]) <;> (repeat' split) <;> simp (contextual := true) (maxDischargeDepth := 40) [h]))

@[simp↓] theorem ext_calResetVerdict (all : Bool) (elem : Nat) (s : State) :
    (calResetVerdict all elem s).Extends := by
  unfold calResetVerdict
  repeat' split
  all_goals first | (exact extends_reject _) | (simp (contextual := true) (maxDischargeDepth := 40) ; done) | (intro r t h; simp (contextual := true) (maxDischargeDepth := 40) [h]; done) | (dsimp only; (repeat' split) <;> simp (contextual := true) (maxDischargeDepth := 40))

theorem ext_execCalReset (hh : Hdr) (all : Bool) (elem : Nat) (s : State) (h : Ext r s) :
    ExtOut r (execCalReset hh all elem s) := by
  unfold execCalReset
  first
  | (simp (contextual := true) (maxDischargeDepth := 40) [h]; done)
  | (apply extOut_next; (repeat' split) <;> first | assumption | (simp (contextual := true) (maxDischargeDepth := 40) [h]; done) | ((simp (contextual := true) (maxDischargeDepth := 40) [h]) <;> (repeat' split) <;> simp (contextual := true) (maxDischargeDepth := 40) [h]))

theorem ext_execAfeFrameStart (s : State) (h : Ext r s) :
    ExtOut r (execAfeFrameStart s) := by
  unfold execAfeFrameStart
  first
  | (simp (contextual := true) (maxDischargeDepth := 40) [h]; done)
  | (apply extOut_next; (repeat' split) <;> first | assumption | (simp (contextual := true) (maxDischargeDepth := 40) [h]; done) | ((simp (contextual := true) (maxDischargeDepth := 40) [h]) <;> (repeat' split) <;> simp (contextual := true) (maxDischargeDepth := 40) [h]))

theorem ext_execAfeDataSlotEnd (samples : List F32) (clip : BitVec 16) (s : State) (h : Ext r s) :
    ExtOut r (execAfeDataSlotEnd samples clip s) := by
  unfold execAfeDataSlotEnd
  first
  | (simp (contextual := true) (maxDischargeDepth := 40) [h]; done)
  | (apply extOut_next; (repeat' split) <;> first | assumption | (simp (contextual := true) (maxDischargeDepth := 40) [h]; done) | ((simp (contextual := true) (maxDischargeDepth := 40) [h]) <;> (repeat' split) <;> simp (contextual := true) (maxDischargeDepth := 40) [h]))

@[simp↓] theorem ext_State_afeStore (s : State) (refs : List F32) (h : Ext r s) :
    Ext r (State.afeStore s refs) := by
  unfold State.afeStore
  first
  | (simp (contextual := true) (maxDischargeDepth := 40) [h]; done)
  | ((repeat' split) <;> first | assumption | (simp (contextual := true) (maxDischargeDepth := 40) [h]; done) | ((simp (contextual := true) (maxDischargeDepth := 40) [h]) <;> (repeat' split) <;> simp (contextual := true) (maxDischargeDepth := 40) [h]))

theorem ext_execAfeRefSlotEnd (refs : List F32) (s : State) (h : Ext r s) :
    ExtOut r (execAfeRefSlotEnd refs s) := by
  unfold execAfeRefSlotEnd
  first
  | (simp (contextual := true) (maxDischargeDepth := 40) [h]; done)
  | (apply extOut_next; (repeat' split) <;> first | assumption | (simp (contextual := true) (maxDischargeDepth := 40) [h]; done) | ((simp (contextual := true) (maxDischargeDepth := 40) [h]) <;> (repeat' split) <;> simp (contextual := true) (maxDischargeDepth := 40) [h]))

theorem ext_execAfeCalAged (s : State) (h : Ext r s) :
    ExtOut r (execAfeCalAged s) := by
  unfold execAfeCalAged
  first
  | (simp (contextual := true) (maxDischargeDepth := 40) [h]; done)
  | (apply extOut_next; (repeat' split) <;> first | assumption | (simp (contextual := true) (maxDischargeDepth := 40) [h]; done) | ((simp (contextual := true) (maxDischargeDepth := 40) [h]) <;> (repeat' split) <;> simp (contextual := true) (maxDischargeDepth := 40) [h]))

theorem ext_execTaskCycleStart (task : Nat) (s : State) (h : Ext r s) :
    ExtOut r (execTaskCycleStart task s) := by
  unfold execTaskCycleStart
  first
  | (simp (contextual := true) (maxDischargeDepth := 40) [h]; done)
  | (apply extOut_next; (repeat' split) <;> first | assumption | (simp (contextual := true) (maxDischargeDepth := 40) [h]; done) | ((simp (contextual := true) (maxDischargeDepth := 40) [h]) <;> (repeat' split) <;> simp (contextual := true) (maxDischargeDepth := 40) [h]))

theorem ext_execTaskPublication (task : Nat) (us : Nat) (s : State) (h : Ext r s) :
    ExtOut r (execTaskPublication task us s) := by
  unfold execTaskPublication
  first
  | (simp (contextual := true) (maxDischargeDepth := 40) [h]; done)
  | (apply extOut_next; (repeat' split) <;> first | assumption | (simp (contextual := true) (maxDischargeDepth := 40) [h]; done) | ((simp (contextual := true) (maxDischargeDepth := 40) [h]) <;> (repeat' split) <;> simp (contextual := true) (maxDischargeDepth := 40) [h]))

@[simp↓] theorem ext_State_applyVals (s : State) (l : List (Nat × List (Nat × F32))) (h : Ext r s) :
    Ext r (State.applyVals s l) := by
  unfold State.applyVals
  first
  | (simp (contextual := true) (maxDischargeDepth := 40) [h]; done)
  | ((repeat' split) <;> first | assumption | (simp (contextual := true) (maxDischargeDepth := 40) [h]; done) | ((simp (contextual := true) (maxDischargeDepth := 40) [h]) <;> (repeat' split) <;> simp (contextual := true) (maxDischargeDepth := 40) [h]))

theorem ext_execTaskApply (task : Nat) (s : State) (h : Ext r s) :
    ExtOut r (execTaskApply task s) := by
  unfold execTaskApply
  first
  | (simp (contextual := true) (maxDischargeDepth := 40) [h]; done)
  | (apply extOut_next; (repeat' split) <;> first | assumption | (simp (contextual := true) (maxDischargeDepth := 40) [h]; done) | ((simp (contextual := true) (maxDischargeDepth := 40) [h]) <;> (repeat' split) <;> simp (contextual := true) (maxDischargeDepth := 40) [h]))

theorem ext_execStopValuesApply (task : Nat) (s : State) (h : Ext r s) :
    ExtOut r (execStopValuesApply task s) := by
  unfold execStopValuesApply
  first
  | (simp (contextual := true) (maxDischargeDepth := 40) [h]; done)
  | (apply extOut_next; (repeat' split) <;> first | assumption | (simp (contextual := true) (maxDischargeDepth := 40) [h]; done) | ((simp (contextual := true) (maxDischargeDepth := 40) [h]) <;> (repeat' split) <;> simp (contextual := true) (maxDischargeDepth := 40) [h]))

theorem ext_execCycleOverrun (task : Nat) (s : State) (h : Ext r s) :
    ExtOut r (execCycleOverrun task s) := by
  unfold execCycleOverrun
  first
  | (simp (contextual := true) (maxDischargeDepth := 40) [h]; done)
  | (apply extOut_next; (repeat' split) <;> first | assumption | (simp (contextual := true) (maxDischargeDepth := 40) [h]; done) | ((simp (contextual := true) (maxDischargeDepth := 40) [h]) <;> (repeat' split) <;> simp (contextual := true) (maxDischargeDepth := 40) [h]))

theorem ext_execUncorrectableMemoryError (task : Nat) (s : State) (h : Ext r s) :
    ExtOut r (execUncorrectableMemoryError task s) := by
  unfold execUncorrectableMemoryError
  first
  | (simp (contextual := true) (maxDischargeDepth := 40) [h]; done)
  | (apply extOut_next; (repeat' split) <;> first | assumption | (simp (contextual := true) (maxDischargeDepth := 40) [h]; done) | ((simp (contextual := true) (maxDischargeDepth := 40) [h]) <;> (repeat' split) <;> simp (contextual := true) (maxDischargeDepth := 40) [h]))

@[simp↓] theorem ext_modeVerdict (cmd : Nat) (s : State) :
    (modeVerdict cmd s).Extends := by
  unfold modeVerdict
  repeat' split
  all_goals first | (exact extends_reject _) | (simp (contextual := true) (maxDischargeDepth := 40) ; done) | (intro r t h; simp (contextual := true) (maxDischargeDepth := 40) [h]; done) | (dsimp only; (repeat' split) <;> simp (contextual := true) (maxDischargeDepth := 40))

theorem ext_execRun (hh : Hdr) (s : State) (h : Ext r s) :
    ExtOut r (execRun hh s) := by
  unfold execRun
  first
  | (simp (contextual := true) (maxDischargeDepth := 40) [h]; done)
  | (apply extOut_next; (repeat' split) <;> first | assumption | (simp (contextual := true) (maxDischargeDepth := 40) [h]; done) | ((simp (contextual := true) (maxDischargeDepth := 40) [h]) <;> (repeat' split) <;> simp (contextual := true) (maxDischargeDepth := 40) [h]))

theorem ext_execStop (hh : Hdr) (s : State) (h : Ext r s) :
    ExtOut r (execStop hh s) := by
  unfold execStop
  first
  | (simp (contextual := true) (maxDischargeDepth := 40) [h]; done)
  | (apply extOut_next; (repeat' split) <;> first | assumption | (simp (contextual := true) (maxDischargeDepth := 40) [h]; done) | ((simp (contextual := true) (maxDischargeDepth := 40) [h]) <;> (repeat' split) <;> simp (contextual := true) (maxDischargeDepth := 40) [h]))

theorem ext_execHold (hh : Hdr) (s : State) (h : Ext r s) :
    ExtOut r (execHold hh s) := by
  unfold execHold
  first
  | (simp (contextual := true) (maxDischargeDepth := 40) [h]; done)
  | (apply extOut_next; (repeat' split) <;> first | assumption | (simp (contextual := true) (maxDischargeDepth := 40) [h]; done) | ((simp (contextual := true) (maxDischargeDepth := 40) [h]) <;> (repeat' split) <;> simp (contextual := true) (maxDischargeDepth := 40) [h]))

theorem ext_execFaultAck (hh : Hdr) (s : State) (h : Ext r s) :
    ExtOut r (execFaultAck hh s) := by
  unfold execFaultAck
  first
  | (simp (contextual := true) (maxDischargeDepth := 40) [h]; done)
  | (apply extOut_next; (repeat' split) <;> first | assumption | (simp (contextual := true) (maxDischargeDepth := 40) [h]; done) | ((simp (contextual := true) (maxDischargeDepth := 40) [h]) <;> (repeat' split) <;> simp (contextual := true) (maxDischargeDepth := 40) [h]))

theorem ext_execModeChangeApply (s : State) (h : Ext r s) :
    ExtOut r (execModeChangeApply s) := by
  unfold execModeChangeApply
  first
  | (simp (contextual := true) (maxDischargeDepth := 40) [h]; done)
  | (apply extOut_next; (repeat' split) <;> first | assumption | (simp (contextual := true) (maxDischargeDepth := 40) [h]; done) | ((simp (contextual := true) (maxDischargeDepth := 40) [h]) <;> (repeat' split) <;> simp (contextual := true) (maxDischargeDepth := 40) [h]))

theorem ext_execHoldTimeout (s : State) (h : Ext r s) :
    ExtOut r (execHoldTimeout s) := by
  unfold execHoldTimeout
  first
  | (simp (contextual := true) (maxDischargeDepth := 40) [h]; done)
  | (apply extOut_next; (repeat' split) <;> first | assumption | (simp (contextual := true) (maxDischargeDepth := 40) [h]; done) | ((simp (contextual := true) (maxDischargeDepth := 40) [h]) <;> (repeat' split) <;> simp (contextual := true) (maxDischargeDepth := 40) [h]))

theorem ext_execRetainCopy (s : State) (h : Ext r s) :
    ExtOut r (execRetainCopy s) := by
  unfold execRetainCopy
  first
  | (simp (contextual := true) (maxDischargeDepth := 40) [h]; done)
  | (apply extOut_next; (repeat' split) <;> first | assumption | (simp (contextual := true) (maxDischargeDepth := 40) [h]; done) | ((simp (contextual := true) (maxDischargeDepth := 40) [h]) <;> (repeat' split) <;> simp (contextual := true) (maxDischargeDepth := 40) [h]))

theorem ext_execProgAutoRun (s : State) (h : Ext r s) :
    ExtOut r (execProgAutoRun s) := by
  unfold execProgAutoRun
  first
  | (simp (contextual := true) (maxDischargeDepth := 40) [h]; done)
  | (apply extOut_next; (repeat' split) <;> first | assumption | (simp (contextual := true) (maxDischargeDepth := 40) [h]; done) | ((simp (contextual := true) (maxDischargeDepth := 40) [h]) <;> (repeat' split) <;> simp (contextual := true) (maxDischargeDepth := 40) [h]))

@[simp↓] theorem ext_progLoadVerdict (hh : Hdr) (s : State) :
    (progLoadVerdict hh s).Extends := by
  unfold progLoadVerdict
  repeat' split
  all_goals first | (exact extends_reject _) | (simp (contextual := true) (maxDischargeDepth := 40) ; done) | (intro r t h; simp (contextual := true) (maxDischargeDepth := 40) [h]; done) | (dsimp only; (repeat' split) <;> simp (contextual := true) (maxDischargeDepth := 40))

theorem ext_execProgLoad (hh : Hdr) (s : State) (h : Ext r s) :
    ExtOut r (execProgLoad hh s) := by
  unfold execProgLoad
  first
  | (simp (contextual := true) (maxDischargeDepth := 40) [h]; done)
  | (apply extOut_next; (repeat' split) <;> first | assumption | (simp (contextual := true) (maxDischargeDepth := 40) [h]; done) | ((simp (contextual := true) (maxDischargeDepth := 40) [h]) <;> (repeat' split) <;> simp (contextual := true) (maxDischargeDepth := 40) [h]))

@[simp↓] theorem ext_progDiscardVerdict (s : State) :
    (progDiscardVerdict s).Extends := by
  unfold progDiscardVerdict
  repeat' split
  all_goals first | (exact extends_reject _) | (simp (contextual := true) (maxDischargeDepth := 40) ; done) | (intro r t h; simp (contextual := true) (maxDischargeDepth := 40) [h]; done) | (dsimp only; (repeat' split) <;> simp (contextual := true) (maxDischargeDepth := 40))

theorem ext_execProgDiscard (hh : Hdr) (s : State) (h : Ext r s) :
    ExtOut r (execProgDiscard hh s) := by
  unfold execProgDiscard
  first
  | (simp (contextual := true) (maxDischargeDepth := 40) [h]; done)
  | (apply extOut_next; (repeat' split) <;> first | assumption | (simp (contextual := true) (maxDischargeDepth := 40) [h]; done) | ((simp (contextual := true) (maxDischargeDepth := 40) [h]) <;> (repeat' split) <;> simp (contextual := true) (maxDischargeDepth := 40) [h]))

@[simp↓] theorem ext_progExchangeVerdict (hh : Hdr) (s : State) :
    (progExchangeVerdict hh s).Extends := by
  unfold progExchangeVerdict
  repeat' split
  all_goals first | (exact extends_reject _) | (simp (contextual := true) (maxDischargeDepth := 40) ; done) | (intro r t h; simp (contextual := true) (maxDischargeDepth := 40) [h]; done) | (dsimp only; (repeat' split) <;> simp (contextual := true) (maxDischargeDepth := 40))

theorem ext_execProgExchange (hh : Hdr) (s : State) (h : Ext r s) :
    ExtOut r (execProgExchange hh s) := by
  unfold execProgExchange
  first
  | (simp (contextual := true) (maxDischargeDepth := 40) [h]; done)
  | (apply extOut_next; (repeat' split) <;> first | assumption | (simp (contextual := true) (maxDischargeDepth := 40) [h]; done) | ((simp (contextual := true) (maxDischargeDepth := 40) [h]) <;> (repeat' split) <;> simp (contextual := true) (maxDischargeDepth := 40) [h]))

theorem ext_execProgExchangeApply (s : State) (h : Ext r s) :
    ExtOut r (execProgExchangeApply s) := by
  unfold execProgExchangeApply
  first
  | (simp (contextual := true) (maxDischargeDepth := 40) [h]; done)
  | (apply extOut_next; (repeat' split) <;> first | assumption | (simp (contextual := true) (maxDischargeDepth := 40) [h]; done) | ((simp (contextual := true) (maxDischargeDepth := 40) [h]) <;> (repeat' split) <;> simp (contextual := true) (maxDischargeDepth := 40) [h]))

@[simp↓] theorem ext_State_pairFlag (s : State) (b : Nat) (on : Bool) (h : Ext r s) :
    Ext r (State.pairFlag s b on) := by
  unfold State.pairFlag
  first
  | (simp (contextual := true) (maxDischargeDepth := 40) [h]; done)
  | ((repeat' split) <;> first | assumption | (simp (contextual := true) (maxDischargeDepth := 40) [h]; done) | ((simp (contextual := true) (maxDischargeDepth := 40) [h]) <;> (repeat' split) <;> simp (contextual := true) (maxDischargeDepth := 40) [h]))

@[simp↓] theorem ext_State_newGeneration (s : State) (h : Ext r s) :
    Ext r (State.newGeneration s) := by
  unfold State.newGeneration
  first
  | (simp (contextual := true) (maxDischargeDepth := 40) [h]; done)
  | ((repeat' split) <;> first | assumption | (simp (contextual := true) (maxDischargeDepth := 40) [h]; done) | ((simp (contextual := true) (maxDischargeDepth := 40) [h]) <;> (repeat' split) <;> simp (contextual := true) (maxDischargeDepth := 40) [h]))

@[simp↓] theorem ext_State_loseInstall (s : State) (o : KeyOp) (h : Ext r s) :
    Ext r (State.loseInstall s o) := by
  unfold State.loseInstall
  first
  | (simp (contextual := true) (maxDischargeDepth := 40) [h]; done)
  | ((repeat' split) <;> first | assumption | (simp (contextual := true) (maxDischargeDepth := 40) [h]; done) | ((simp (contextual := true) (maxDischargeDepth := 40) [h]) <;> (repeat' split) <;> simp (contextual := true) (maxDischargeDepth := 40) [h]))

@[simp↓] theorem ext_State_loseInstalls (s : State) (h : Ext r s) :
    Ext r (State.loseInstalls s) := by
  unfold State.loseInstalls
  first
  | (simp (contextual := true) (maxDischargeDepth := 40) [h]; done)
  | ((repeat' split) <;> first | assumption | (simp (contextual := true) (maxDischargeDepth := 40) [h]; done) | ((simp (contextual := true) (maxDischargeDepth := 40) [h]) <;> (repeat' split) <;> simp (contextual := true) (maxDischargeDepth := 40) [h]))

@[simp↓] theorem ext_State_dropHandles (s : State) (keep : Option U32) (h : Ext r s) :
    Ext r (State.dropHandles s keep) := by
  unfold State.dropHandles
  first
  | (simp (contextual := true) (maxDischargeDepth := 40) [h]; done)
  | ((repeat' split) <;> first | assumption | (simp (contextual := true) (maxDischargeDepth := 40) [h]; done) | ((simp (contextual := true) (maxDischargeDepth := 40) [h]) <;> (repeat' split) <;> simp (contextual := true) (maxDischargeDepth := 40) [h]))

@[simp↓] theorem ext_State_dropHost (s : State) (keep : Option U32) (h : Ext r s) :
    Ext r (State.dropHost s keep) := by
  unfold State.dropHost
  first
  | (simp (contextual := true) (maxDischargeDepth := 40) [h]; done)
  | ((repeat' split) <;> first | assumption | (simp (contextual := true) (maxDischargeDepth := 40) [h]; done) | ((simp (contextual := true) (maxDischargeDepth := 40) [h]) <;> (repeat' split) <;> simp (contextual := true) (maxDischargeDepth := 40) [h]))

@[simp↓] theorem ext_State_lanesFresh (s : State) (h : Ext r s) :
    Ext r (State.lanesFresh s) := by
  unfold State.lanesFresh
  first
  | (simp (contextual := true) (maxDischargeDepth := 40) [h]; done)
  | ((repeat' split) <;> first | assumption | (simp (contextual := true) (maxDischargeDepth := 40) [h]; done) | ((simp (contextual := true) (maxDischargeDepth := 40) [h]) <;> (repeat' split) <;> simp (contextual := true) (maxDischargeDepth := 40) [h]))

@[simp↓] theorem ext_State_progStart (s : State) (useFlush : Bool) (h : Ext r s) :
    Ext r (State.progStart s useFlush) := by
  unfold State.progStart
  first
  | (simp (contextual := true) (maxDischargeDepth := 40) [h]; done)
  | ((repeat' split) <;> first | assumption | (simp (contextual := true) (maxDischargeDepth := 40) [h]; done) | ((simp (contextual := true) (maxDischargeDepth := 40) [h]) <;> (repeat' split) <;> simp (contextual := true) (maxDischargeDepth := 40) [h]))

@[simp↓] theorem ext_State_solvesFresh (s : State) (h : Ext r s) :
    Ext r (State.solvesFresh s) := by
  unfold State.solvesFresh
  first
  | (simp (contextual := true) (maxDischargeDepth := 40) [h]; done)
  | ((repeat' split) <;> first | assumption | (simp (contextual := true) (maxDischargeDepth := 40) [h]; done) | ((simp (contextual := true) (maxDischargeDepth := 40) [h]) <;> (repeat' split) <;> simp (contextual := true) (maxDischargeDepth := 40) [h]))

@[simp↓] theorem ext_State_percFresh (s : State) (h : Ext r s) :
    Ext r (State.percFresh s) := by
  unfold State.percFresh
  first
  | (simp (contextual := true) (maxDischargeDepth := 40) [h]; done)
  | ((repeat' split) <;> first | assumption | (simp (contextual := true) (maxDischargeDepth := 40) [h]; done) | ((simp (contextual := true) (maxDischargeDepth := 40) [h]) <;> (repeat' split) <;> simp (contextual := true) (maxDischargeDepth := 40) [h]))

@[simp↓] theorem ext_State_fedFresh (s : State) (h : Ext r s) :
    Ext r (State.fedFresh s) := by
  unfold State.fedFresh
  first
  | (simp (contextual := true) (maxDischargeDepth := 40) [h]; done)
  | ((repeat' split) <;> first | assumption | (simp (contextual := true) (maxDischargeDepth := 40) [h]; done) | ((simp (contextual := true) (maxDischargeDepth := 40) [h]) <;> (repeat' split) <;> simp (contextual := true) (maxDischargeDepth := 40) [h]))

@[simp↓] theorem ext_State_stnsFresh (s : State) (h : Ext r s) :
    Ext r (State.stnsFresh s) := by
  unfold State.stnsFresh
  first
  | (simp (contextual := true) (maxDischargeDepth := 40) [h]; done)
  | ((repeat' split) <;> first | assumption | (simp (contextual := true) (maxDischargeDepth := 40) [h]; done) | ((simp (contextual := true) (maxDischargeDepth := 40) [h]) <;> (repeat' split) <;> simp (contextual := true) (maxDischargeDepth := 40) [h]))

@[simp↓] theorem ext_State_imageFresh (s : State) (h : Ext r s) :
    Ext r (State.imageFresh s) := by
  unfold State.imageFresh
  first
  | (simp (contextual := true) (maxDischargeDepth := 40) [h]; done)
  | ((repeat' split) <;> first | assumption | (simp (contextual := true) (maxDischargeDepth := 40) [h]; done) | ((simp (contextual := true) (maxDischargeDepth := 40) [h]) <;> (repeat' split) <;> simp (contextual := true) (maxDischargeDepth := 40) [h]))

@[simp↓] theorem ext_State_becomeActive (s : State) (u : UnitState) (h : Ext r s) :
    Ext r (State.becomeActive s u) := by
  unfold State.becomeActive
  first
  | (simp (contextual := true) (maxDischargeDepth := 40) [h]; done)
  | ((repeat' split) <;> first | assumption | (simp (contextual := true) (maxDischargeDepth := 40) [h]; done) | ((simp (contextual := true) (maxDischargeDepth := 40) [h]) <;> (repeat' split) <;> simp (contextual := true) (maxDischargeDepth := 40) [h]))

@[simp↓] theorem ext_State_beginActivation (s : State) (n : U32) (tag : U32) (keep : Bool) (m : NetModel) (h : Ext r s) :
    Ext r (State.beginActivation s n tag keep m) := by
  unfold State.beginActivation
  first
  | (simp (contextual := true) (maxDischargeDepth := 40) [h]; done)
  | ((repeat' split) <;> first | assumption | (simp (contextual := true) (maxDischargeDepth := 40) [h]; done) | ((simp (contextual := true) (maxDischargeDepth := 40) [h]) <;> (repeat' split) <;> simp (contextual := true) (maxDischargeDepth := 40) [h]))

@[simp↓] theorem ext_modelActivateVerdict (hh : Hdr) (keepCal : Bool) (s : State) :
    (modelActivateVerdict hh keepCal s).Extends := by
  unfold modelActivateVerdict
  repeat' split
  all_goals first | (exact extends_reject _) | (simp (contextual := true) (maxDischargeDepth := 40) ; done) | (intro r t h; simp (contextual := true) (maxDischargeDepth := 40) [h]; done) | (dsimp only; (repeat' split) <;> simp (contextual := true) (maxDischargeDepth := 40))

theorem ext_execModelActivate (hh : Hdr) (keepCal : Bool) (s : State) (h : Ext r s) :
    ExtOut r (execModelActivate hh keepCal s) := by
  unfold execModelActivate
  first
  | (simp (contextual := true) (maxDischargeDepth := 40) [h]; done)
  | (apply extOut_next; (repeat' split) <;> first | assumption | (simp (contextual := true) (maxDischargeDepth := 40) [h]; done) | ((simp (contextual := true) (maxDischargeDepth := 40) [h]) <;> (repeat' split) <;> simp (contextual := true) (maxDischargeDepth := 40) [h]))

@[simp↓] theorem ext_solveVerdict (hh : Hdr) (kind : Nat) (budget : Nat) (hstart : Nat) (s : State) :
    (solveVerdict hh kind budget hstart s).Extends := by
  unfold solveVerdict
  repeat' split
  all_goals first | (exact extends_reject _) | (simp (contextual := true) (maxDischargeDepth := 40) ; done) | (intro r t h; simp (contextual := true) (maxDischargeDepth := 40) [h]; done) | (dsimp only; (repeat' split) <;> simp (contextual := true) (maxDischargeDepth := 40))

theorem ext_execSolve (hh : Hdr) (kind : Nat) (budget : Nat) (hstart : Nat) (s : State) (h : Ext r s) :
    ExtOut r (execSolve hh kind budget hstart s) := by
  unfold execSolve
  first
  | (simp (contextual := true) (maxDischargeDepth := 40) [h]; done)
  | (apply extOut_next; (repeat' split) <;> first | assumption | (simp (contextual := true) (maxDischargeDepth := 40) [h]; done) | ((simp (contextual := true) (maxDischargeDepth := 40) [h]) <;> (repeat' split) <;> simp (contextual := true) (maxDischargeDepth := 40) [h]))

theorem ext_execCadencePoint (s : State) (h : Ext r s) :
    ExtOut r (execCadencePoint s) := by
  unfold execCadencePoint
  first
  | (simp (contextual := true) (maxDischargeDepth := 40) [h]; done)
  | (apply extOut_next; (repeat' split) <;> first | assumption | (simp (contextual := true) (maxDischargeDepth := 40) [h]; done) | ((simp (contextual := true) (maxDischargeDepth := 40) [h]) <;> (repeat' split) <;> simp (contextual := true) (maxDischargeDepth := 40) [h]))

theorem ext_execSolveStart (s : State) (h : Ext r s) :
    ExtOut r (execSolveStart s) := by
  unfold execSolveStart
  first
  | (simp (contextual := true) (maxDischargeDepth := 40) [h]; done)
  | (apply extOut_next; (repeat' split) <;> first | assumption | (simp (contextual := true) (maxDischargeDepth := 40) [h]; done) | ((simp (contextual := true) (maxDischargeDepth := 40) [h]) <;> (repeat' split) <;> simp (contextual := true) (maxDischargeDepth := 40) [h]))

theorem ext_execSolvePublish (r1 : SolveResult) (s : State) (h : Ext r s) :
    ExtOut r (execSolvePublish r1 s) := by
  unfold execSolvePublish
  first
  | (simp (contextual := true) (maxDischargeDepth := 40) [h]; done)
  | (apply extOut_next; (repeat' split) <;> first | assumption | (simp (contextual := true) (maxDischargeDepth := 40) [h]; done) | ((simp (contextual := true) (maxDischargeDepth := 40) [h]) <;> (repeat' split) <;> simp (contextual := true) (maxDischargeDepth := 40) [h]))

theorem ext_execSolveOverrun (us : Nat) (r1 : SolveResult) (s : State) (h : Ext r s) :
    ExtOut r (execSolveOverrun us r1 s) := by
  unfold execSolveOverrun
  first
  | (simp (contextual := true) (maxDischargeDepth := 40) [h]; done)
  | (apply extOut_next; (repeat' split) <;> first | assumption | (simp (contextual := true) (maxDischargeDepth := 40) [h]; done) | ((simp (contextual := true) (maxDischargeDepth := 40) [h]) <;> (repeat' split) <;> simp (contextual := true) (maxDischargeDepth := 40) [h]))

theorem ext_execSolveStopped (us : Nat) (r1 : SolveResult) (s : State) (h : Ext r s) :
    ExtOut r (execSolveStopped us r1 s) := by
  unfold execSolveStopped
  first
  | (simp (contextual := true) (maxDischargeDepth := 40) [h]; done)
  | (apply extOut_next; (repeat' split) <;> first | assumption | (simp (contextual := true) (maxDischargeDepth := 40) [h]; done) | ((simp (contextual := true) (maxDischargeDepth := 40) [h]) <;> (repeat' split) <;> simp (contextual := true) (maxDischargeDepth := 40) [h]))

theorem ext_execPlanBoundary (s : State) (h : Ext r s) :
    ExtOut r (execPlanBoundary s) := by
  unfold execPlanBoundary
  first
  | (simp (contextual := true) (maxDischargeDepth := 40) [h]; done)
  | (apply extOut_next; (repeat' split) <;> first | assumption | (simp (contextual := true) (maxDischargeDepth := 40) [h]; done) | ((simp (contextual := true) (maxDischargeDepth := 40) [h]) <;> (repeat' split) <;> simp (contextual := true) (maxDischargeDepth := 40) [h]))

theorem ext_execPlanStaleTimeout (s : State) (h : Ext r s) :
    ExtOut r (execPlanStaleTimeout s) := by
  unfold execPlanStaleTimeout
  first
  | (simp (contextual := true) (maxDischargeDepth := 40) [h]; done)
  | (apply extOut_next; (repeat' split) <;> first | assumption | (simp (contextual := true) (maxDischargeDepth := 40) [h]; done) | ((simp (contextual := true) (maxDischargeDepth := 40) [h]) <;> (repeat' split) <;> simp (contextual := true) (maxDischargeDepth := 40) [h]))

@[simp↓] theorem ext_flexActivateVerdict (hh : Hdr) (a : FlexArg) (s : State) :
    (flexActivateVerdict hh a s).Extends := by
  unfold flexActivateVerdict
  repeat' split
  all_goals first | (exact extends_reject _) | (simp (contextual := true) (maxDischargeDepth := 40) ; done) | (intro r t h; simp (contextual := true) (maxDischargeDepth := 40) [h]; done) | (dsimp only; (repeat' split) <;> simp (contextual := true) (maxDischargeDepth := 40))

theorem ext_execFlexActivate (hh : Hdr) (a : FlexArg) (s : State) (h : Ext r s) :
    ExtOut r (execFlexActivate hh a s) := by
  unfold execFlexActivate
  first
  | (simp (contextual := true) (maxDischargeDepth := 40) [h]; done)
  | (apply extOut_next; (repeat' split) <;> first | assumption | (simp (contextual := true) (maxDischargeDepth := 40) [h]; done) | ((simp (contextual := true) (maxDischargeDepth := 40) [h]) <;> (repeat' split) <;> simp (contextual := true) (maxDischargeDepth := 40) [h]))

@[simp↓] theorem ext_flexWithdrawVerdict (hh : Hdr) (slot : Nat) (s : State) :
    (flexWithdrawVerdict hh slot s).Extends := by
  unfold flexWithdrawVerdict
  repeat' split
  all_goals first | (exact extends_reject _) | (simp (contextual := true) (maxDischargeDepth := 40) ; done) | (intro r t h; simp (contextual := true) (maxDischargeDepth := 40) [h]; done) | (dsimp only; (repeat' split) <;> simp (contextual := true) (maxDischargeDepth := 40))

theorem ext_execFlexWithdraw (hh : Hdr) (slot : Nat) (s : State) (h : Ext r s) :
    ExtOut r (execFlexWithdraw hh slot s) := by
  unfold execFlexWithdraw
  first
  | (simp (contextual := true) (maxDischargeDepth := 40) [h]; done)
  | (apply extOut_next; (repeat' split) <;> first | assumption | (simp (contextual := true) (maxDischargeDepth := 40) [h]; done) | ((simp (contextual := true) (maxDischargeDepth := 40) [h]) <;> (repeat' split) <;> simp (contextual := true) (maxDischargeDepth := 40) [h]))

theorem ext_execCommitmentEnd (slot : Nat) (s : State) (h : Ext r s) :
    ExtOut r (execCommitmentEnd slot s) := by
  unfold execCommitmentEnd
  first
  | (simp (contextual := true) (maxDischargeDepth := 40) [h]; done)
  | (apply extOut_next; (repeat' split) <;> first | assumption | (simp (contextual := true) (maxDischargeDepth := 40) [h]; done) | ((simp (contextual := true) (maxDischargeDepth := 40) [h]) <;> (repeat' split) <;> simp (contextual := true) (maxDischargeDepth := 40) [h]))

end Sys2Proof.Laws
end

