-- ==== Sys2Proof/Laws/TraceUnit.lean ====
section
/-! SUPPORT. What the operations of a module may do to the audit log, the sent messages, the waiting commands and the
identity: the pair, views, release, power, parameters and the tick. Each law says that the operation only appends to them. -/

set_option linter.unusedVariables false
set_option linter.unusedSimpArgs false
set_option linter.unusedTactic false
set_option linter.unreachableTactic false
set_option linter.unnecessarySeqFocus false

namespace Sys2Proof.Laws
open Sys2Proof.Machine

variable {r : Trace}

@[simp↓] theorem ext_State_pushPast (s : State) (h : Ext r s) :
    Ext r (State.pushPast s) := by
  unfold State.pushPast
  first
  | (simp (contextual := true) (maxDischargeDepth := 40) [h]; done)
  | ((repeat' split) <;> first | assumption | (simp (contextual := true) (maxDischargeDepth := 40) [h]; done) | ((simp (contextual := true) (maxDischargeDepth := 40) [h]) <;> (repeat' split) <;> simp (contextual := true) (maxDischargeDepth := 40) [h]))

@[simp↓] theorem ext_State_sendPair (s : State) (msg : Nat) (version : Nat) (epoch : Nat) (part : Nat) (sect : Option (Nat × CkptSec)) (payload : List Byte) (h : Ext r s) :
    Ext r (State.sendPair s msg version epoch part sect payload) := by
  unfold State.sendPair
  first
  | (simp (contextual := true) (maxDischargeDepth := 40) [h]; done)
  | ((repeat' split) <;> first | assumption | (simp (contextual := true) (maxDischargeDepth := 40) [h]; done) | ((simp (contextual := true) (maxDischargeDepth := 40) [h]) <;> (repeat' split) <;> simp (contextual := true) (maxDischargeDepth := 40) [h]))

@[simp↓] theorem ext_State_toggleHb (s : State) (h : Ext r s) :
    Ext r (State.toggleHb s) := by
  unfold State.toggleHb
  first
  | (simp (contextual := true) (maxDischargeDepth := 40) [h]; done)
  | ((repeat' split) <;> first | assumption | (simp (contextual := true) (maxDischargeDepth := 40) [h]; done) | ((simp (contextual := true) (maxDischargeDepth := 40) [h]) <;> (repeat' split) <;> simp (contextual := true) (maxDischargeDepth := 40) [h]))

@[simp↓] theorem ext_State_toSyncing (s : State) (h : Ext r s) :
    Ext r (State.toSyncing s) := by
  unfold State.toSyncing
  first
  | (simp (contextual := true) (maxDischargeDepth := 40) [h]; done)
  | ((repeat' split) <;> first | assumption | (simp (contextual := true) (maxDischargeDepth := 40) [h]; done) | ((simp (contextual := true) (maxDischargeDepth := 40) [h]) <;> (repeat' split) <;> simp (contextual := true) (maxDischargeDepth := 40) [h]))

@[simp↓] theorem ext_State_pairActive (s : State) (h : Ext r s) :
    Ext r (State.pairActive s) := by
  unfold State.pairActive
  first
  | (simp (contextual := true) (maxDischargeDepth := 40) [h]; done)
  | ((repeat' split) <;> first | assumption | (simp (contextual := true) (maxDischargeDepth := 40) [h]; done) | ((simp (contextual := true) (maxDischargeDepth := 40) [h]) <;> (repeat' split) <;> simp (contextual := true) (maxDischargeDepth := 40) [h]))

@[simp↓] theorem ext_State_pairDecide (s : State) (h : Ext r s) :
    Ext r (State.pairDecide s) := by
  unfold State.pairDecide
  first
  | (simp (contextual := true) (maxDischargeDepth := 40) [h]; done)
  | ((repeat' split) <;> first | assumption | (simp (contextual := true) (maxDischargeDepth := 40) [h]; done) | ((simp (contextual := true) (maxDischargeDepth := 40) [h]) <;> (repeat' split) <;> simp (contextual := true) (maxDischargeDepth := 40) [h]))

@[simp↓] theorem ext_State_hbTake (s : State) (p : PairHdr) (m : HbMsg) (h : Ext r s) :
    Ext r (State.hbTake s p m) := by
  unfold State.hbTake
  first
  | (simp (contextual := true) (maxDischargeDepth := 40) [h]; done)
  | ((repeat' split) <;> first | assumption | (simp (contextual := true) (maxDischargeDepth := 40) [h]; done) | ((simp (contextual := true) (maxDischargeDepth := 40) [h]) <;> (repeat' split) <;> simp (contextual := true) (maxDischargeDepth := 40) [h]))

@[simp↓] theorem ext_State_floorRx (s : State) (m : HbMsg) (h : Ext r s) :
    Ext r (State.floorRx s m) := by
  unfold State.floorRx
  first
  | (simp (contextual := true) (maxDischargeDepth := 40) [h]; done)
  | ((repeat' split) <;> first | assumption | (simp (contextual := true) (maxDischargeDepth := 40) [h]; done) | ((simp (contextual := true) (maxDischargeDepth := 40) [h]) <;> (repeat' split) <;> simp (contextual := true) (maxDischargeDepth := 40) [h]))

@[simp↓] theorem ext_State_followTime (s : State) (p : PairHdr) (h : Ext r s) :
    Ext r (State.followTime s p) := by
  unfold State.followTime
  first
  | (simp (contextual := true) (maxDischargeDepth := 40) [h]; done)
  | ((repeat' split) <;> first | assumption | (simp (contextual := true) (maxDischargeDepth := 40) [h]; done) | ((simp (contextual := true) (maxDischargeDepth := 40) [h]) <;> (repeat' split) <;> simp (contextual := true) (maxDischargeDepth := 40) [h]))

@[simp↓] theorem ext_State_maskFrom (s : State) (was : Option UnitState) (h : Ext r s) :
    Ext r (State.maskFrom s was) := by
  unfold State.maskFrom
  first
  | (simp (contextual := true) (maxDischargeDepth := 40) [h]; done)
  | ((repeat' split) <;> first | assumption | (simp (contextual := true) (maxDischargeDepth := 40) [h]; done) | ((simp (contextual := true) (maxDischargeDepth := 40) [h]) <;> (repeat' split) <;> simp (contextual := true) (maxDischargeDepth := 40) [h]))

@[simp↓] theorem ext_State_switchDone (s : State) (h : Ext r s) :
    Ext r (State.switchDone s) := by
  unfold State.switchDone
  first
  | (simp (contextual := true) (maxDischargeDepth := 40) [h]; done)
  | ((repeat' split) <;> first | assumption | (simp (contextual := true) (maxDischargeDepth := 40) [h]; done) | ((simp (contextual := true) (maxDischargeDepth := 40) [h]) <;> (repeat' split) <;> simp (contextual := true) (maxDischargeDepth := 40) [h]))

@[simp↓] theorem ext_State_hbRole (s : State) (p : PairHdr) (h : Ext r s) :
    Ext r (State.hbRole s p) := by
  unfold State.hbRole
  first
  | (simp (contextual := true) (maxDischargeDepth := 40) [h]; done)
  | ((repeat' split) <;> first | assumption | (simp (contextual := true) (maxDischargeDepth := 40) [h]; done) | ((simp (contextual := true) (maxDischargeDepth := 40) [h]) <;> (repeat' split) <;> simp (contextual := true) (maxDischargeDepth := 40) [h]))

@[simp↓] theorem ext_State_sendSect (s : State) (k : Nat) (x : Nat × CkptSec) (h : Ext r s) :
    Ext r (State.sendSect s k x) := by
  unfold State.sendSect
  refine ext_foldl_fst (s := (s, 0)) h ?_
  intro a x ha
  simp (contextual := true) (maxDischargeDepth := 40) [ha]

@[simp↓] theorem ext_State_sendCkpt (s : State) (k : Nat) (final : Bool) (h : Ext r s) :
    Ext r (State.sendCkpt s k final) := by
  unfold State.sendCkpt
  first
  | (simp (contextual := true) (maxDischargeDepth := 40) [h]; done)
  | ((repeat' split) <;> first | assumption | (simp (contextual := true) (maxDischargeDepth := 40) [h]; done) | ((simp (contextual := true) (maxDischargeDepth := 40) [h]) <;> (repeat' split) <;> simp (contextual := true) (maxDischargeDepth := 40) [h]))

@[simp↓] theorem ext_State_standDown (s : State) (keep : Option U32) (h : Ext r s) :
    Ext r (State.standDown s keep) := by
  unfold State.standDown
  first
  | (simp (contextual := true) (maxDischargeDepth := 40) [h]; done)
  | ((repeat' split) <;> first | assumption | (simp (contextual := true) (maxDischargeDepth := 40) [h]; done) | ((simp (contextual := true) (maxDischargeDepth := 40) [h]) <;> (repeat' split) <;> simp (contextual := true) (maxDischargeDepth := 40) [h]))

@[simp↓] theorem ext_State_demote (s : State) (keep : Option U32) (hold : Bool) (h : Ext r s) :
    Ext r (State.demote s keep hold) := by
  unfold State.demote
  first
  | (simp (contextual := true) (maxDischargeDepth := 40) [h]; done)
  | ((repeat' split) <;> first | assumption | (simp (contextual := true) (maxDischargeDepth := 40) [h]; done) | ((simp (contextual := true) (maxDischargeDepth := 40) [h]) <;> (repeat' split) <;> simp (contextual := true) (maxDischargeDepth := 40) [h]))

@[simp↓] theorem ext_State_applyParams (s : State) (v : CkptParams) (h : Ext r s) :
    Ext r (State.applyParams s v) := by
  unfold State.applyParams
  first
  | (simp (contextual := true) (maxDischargeDepth := 40) [h]; done)
  | ((repeat' split) <;> first | assumption | (simp (contextual := true) (maxDischargeDepth := 40) [h]; done) | ((simp (contextual := true) (maxDischargeDepth := 40) [h]) <;> (repeat' split) <;> simp (contextual := true) (maxDischargeDepth := 40) [h]))

@[simp↓] theorem ext_State_restoreModel (s : State) (i : CkptImages) (h : Ext r s) :
    Ext r (State.restoreModel s i) := by
  unfold State.restoreModel
  first
  | (simp (contextual := true) (maxDischargeDepth := 40) [h]; done)
  | ((repeat' split) <;> first | assumption | (simp (contextual := true) (maxDischargeDepth := 40) [h]; done) | ((simp (contextual := true) (maxDischargeDepth := 40) [h]) <;> (repeat' split) <;> simp (contextual := true) (maxDischargeDepth := 40) [h]))

@[simp↓] theorem ext_State_restoreProg (s : State) (i : CkptImages) (h : Ext r s) :
    Ext r (State.restoreProg s i) := by
  unfold State.restoreProg
  first
  | (simp (contextual := true) (maxDischargeDepth := 40) [h]; done)
  | ((repeat' split) <;> first | assumption | (simp (contextual := true) (maxDischargeDepth := 40) [h]; done) | ((simp (contextual := true) (maxDischargeDepth := 40) [h]) <;> (repeat' split) <;> simp (contextual := true) (maxDischargeDepth := 40) [h]))

@[simp↓] theorem ext_State_restoreRun (s : State) (k : Nat) (r1 : ProgRun) (h : Ext r s) :
    Ext r (State.restoreRun s k r1) := by
  unfold State.restoreRun
  first
  | (simp (contextual := true) (maxDischargeDepth := 40) [h]; done)
  | ((repeat' split) <;> first | assumption | (simp (contextual := true) (maxDischargeDepth := 40) [h]; done) | ((simp (contextual := true) (maxDischargeDepth := 40) [h]) <;> (repeat' split) <;> simp (contextual := true) (maxDischargeDepth := 40) [h]))

@[simp↓] theorem ext_State_restoreLanes (s : State) (l : LaneSt) (h : Ext r s) :
    Ext r (State.restoreLanes s l) := by
  unfold State.restoreLanes
  first
  | (simp (contextual := true) (maxDischargeDepth := 40) [h]; done)
  | ((repeat' split) <;> first | assumption | (simp (contextual := true) (maxDischargeDepth := 40) [h]; done) | ((simp (contextual := true) (maxDischargeDepth := 40) [h]) <;> (repeat' split) <;> simp (contextual := true) (maxDischargeDepth := 40) [h]))

@[simp↓] theorem ext_State_restorePlans (s : State) (v : CkptPlan) (h : Ext r s) :
    Ext r (State.restorePlans s v) := by
  unfold State.restorePlans
  first
  | (simp (contextual := true) (maxDischargeDepth := 40) [h]; done)
  | ((repeat' split) <;> first | assumption | (simp (contextual := true) (maxDischargeDepth := 40) [h]; done) | ((simp (contextual := true) (maxDischargeDepth := 40) [h]) <;> (repeat' split) <;> simp (contextual := true) (maxDischargeDepth := 40) [h]))

@[simp↓] theorem ext_State_restorePerc (s : State) (v : PercSt) (h : Ext r s) :
    Ext r (State.restorePerc s v) := by
  unfold State.restorePerc
  first
  | (simp (contextual := true) (maxDischargeDepth := 40) [h]; done)
  | ((repeat' split) <;> first | assumption | (simp (contextual := true) (maxDischargeDepth := 40) [h]; done) | ((simp (contextual := true) (maxDischargeDepth := 40) [h]) <;> (repeat' split) <;> simp (contextual := true) (maxDischargeDepth := 40) [h]))

@[simp↓] theorem ext_State_restoreFed (s : State) (v : FedSt) (h : Ext r s) :
    Ext r (State.restoreFed s v) := by
  unfold State.restoreFed
  first
  | (simp (contextual := true) (maxDischargeDepth := 40) [h]; done)
  | ((repeat' split) <;> first | assumption | (simp (contextual := true) (maxDischargeDepth := 40) [h]; done) | ((simp (contextual := true) (maxDischargeDepth := 40) [h]) <;> (repeat' split) <;> simp (contextual := true) (maxDischargeDepth := 40) [h]))

@[simp↓] theorem ext_State_restoreMisc (s : State) (v : CkptMisc) (h : Ext r s) :
    Ext r (State.restoreMisc s v) := by
  unfold State.restoreMisc
  first
  | (simp (contextual := true) (maxDischargeDepth := 40) [h]; done)
  | ((repeat' split) <;> first | assumption | (simp (contextual := true) (maxDischargeDepth := 40) [h]; done) | ((simp (contextual := true) (maxDischargeDepth := 40) [h]) <;> (repeat' split) <;> simp (contextual := true) (maxDischargeDepth := 40) [h]))

@[simp↓] theorem ext_State_restoreCkpt (s : State) (c : Ckpt) (h : Ext r s) :
    Ext r (State.restoreCkpt s c) := by
  unfold State.restoreCkpt
  repeat' apply ext_withSect
  all_goals first | exact h | (intro s v hs; simp (contextual := true) (maxDischargeDepth := 40) [hs])

@[simp↓] theorem ext_State_coldBlocks (s : State) (h : Ext r s) :
    Ext r (State.coldBlocks s) := by
  unfold State.coldBlocks
  first
  | (simp (contextual := true) (maxDischargeDepth := 40) [h]; done)
  | ((repeat' split) <;> first | assumption | (simp (contextual := true) (maxDischargeDepth := 40) [h]; done) | ((simp (contextual := true) (maxDischargeDepth := 40) [h]) <;> (repeat' split) <;> simp (contextual := true) (maxDischargeDepth := 40) [h]))

@[simp↓] theorem ext_State_applyPassed (s : State) (h : Ext r s) :
    Ext r (State.applyPassed s) := by
  unfold State.applyPassed
  first
  | (simp (contextual := true) (maxDischargeDepth := 40) [h]; done)
  | ((repeat' split) <;> first | assumption | (simp (contextual := true) (maxDischargeDepth := 40) [h]; done) | ((simp (contextual := true) (maxDischargeDepth := 40) [h]) <;> (repeat' split) <;> simp (contextual := true) (maxDischargeDepth := 40) [h]))

@[simp↓] theorem ext_State_reassertField (s : State) (h : Ext r s) :
    Ext r (State.reassertField s) := by
  unfold State.reassertField
  refine ext_foldl ?_ ?_
  · simp (contextual := true) (maxDischargeDepth := 40) [h]
  · intro a x ha
    split
    · split
      · exact ha
      · simp (contextual := true) (maxDischargeDepth := 40) [ha]
    · exact ha

@[simp↓] theorem ext_State_reassertCan (s : State) (h : Ext r s) :
    Ext r (State.reassertCan s) := by
  unfold State.reassertCan
  first
  | (simp (contextual := true) (maxDischargeDepth := 40) [h]; done)
  | ((repeat' split) <;> first | assumption | (simp (contextual := true) (maxDischargeDepth := 40) [h]; done) | ((simp (contextual := true) (maxDischargeDepth := 40) [h]) <;> (repeat' split) <;> simp (contextual := true) (maxDischargeDepth := 40) [h]))

@[simp↓] theorem ext_State_takeoverFrames (s : State) (n : Nat) (h : Ext r s) :
    Ext r (State.takeoverFrames s n) := by
  unfold State.takeoverFrames
  first
  | (simp (contextual := true) (maxDischargeDepth := 40) [h]; done)
  | ((repeat' split) <;> first | assumption | (simp (contextual := true) (maxDischargeDepth := 40) [h]; done) | ((simp (contextual := true) (maxDischargeDepth := 40) [h]) <;> (repeat' split) <;> simp (contextual := true) (maxDischargeDepth := 40) [h]))

@[simp↓] theorem ext_State_reassertStns (s : State) (h : Ext r s) :
    Ext r (State.reassertStns s) := by
  unfold State.reassertStns
  first
  | (simp (contextual := true) (maxDischargeDepth := 40) [h]; done)
  | ((repeat' split) <;> first | assumption | (simp (contextual := true) (maxDischargeDepth := 40) [h]; done) | ((simp (contextual := true) (maxDischargeDepth := 40) [h]) <;> (repeat' split) <;> simp (contextual := true) (maxDischargeDepth := 40) [h]))

@[simp↓] theorem ext_State_safeFromCkpt (s : State) (c : Ckpt) (h : Ext r s) :
    Ext r (State.safeFromCkpt s c) := by
  unfold State.safeFromCkpt
  first
  | (simp (contextual := true) (maxDischargeDepth := 40) [h]; done)
  | ((repeat' split) <;> first | assumption | (simp (contextual := true) (maxDischargeDepth := 40) [h]; done) | ((simp (contextual := true) (maxDischargeDepth := 40) [h]) <;> (repeat' split) <;> simp (contextual := true) (maxDischargeDepth := 40) [h]))

@[simp↓] theorem ext_State_fastIfFilled (s : State) (h : Ext r s) :
    Ext r (State.fastIfFilled s) := by
  unfold State.fastIfFilled
  first
  | (simp (contextual := true) (maxDischargeDepth := 40) [h]; done)
  | ((repeat' split) <;> first | assumption | (simp (contextual := true) (maxDischargeDepth := 40) [h]; done) | ((simp (contextual := true) (maxDischargeDepth := 40) [h]) <;> (repeat' split) <;> simp (contextual := true) (maxDischargeDepth := 40) [h]))

@[simp↓] theorem ext_State_startTakeover (s : State) (cold : Bool) (h : Ext r s) :
    Ext r (State.startTakeover s cold) := by
  unfold State.startTakeover
  first
  | (simp (contextual := true) (maxDischargeDepth := 40) [h]; done)
  | ((repeat' split) <;> first | assumption | (simp (contextual := true) (maxDischargeDepth := 40) [h]; done) | ((simp (contextual := true) (maxDischargeDepth := 40) [h]) <;> (repeat' split) <;> simp (contextual := true) (maxDischargeDepth := 40) [h]))

@[simp↓] theorem ext_State_takeoverGap (s : State) (k : Nat) (h : Ext r s) :
    Ext r (State.takeoverGap s k) := by
  unfold State.takeoverGap
  first
  | (simp (contextual := true) (maxDischargeDepth := 40) [h]; done)
  | ((repeat' split) <;> first | assumption | (simp (contextual := true) (maxDischargeDepth := 40) [h]; done) | ((simp (contextual := true) (maxDischargeDepth := 40) [h]) <;> (repeat' split) <;> simp (contextual := true) (maxDischargeDepth := 40) [h]))

@[simp↓] theorem ext_State_nowActive (s : State) (h : Ext r s) :
    Ext r (State.nowActive s) := by
  unfold State.nowActive
  first
  | (simp (contextual := true) (maxDischargeDepth := 40) [h]; done)
  | ((repeat' split) <;> first | assumption | (simp (contextual := true) (maxDischargeDepth := 40) [h]; done) | ((simp (contextual := true) (maxDischargeDepth := 40) [h]) <;> (repeat' split) <;> simp (contextual := true) (maxDischargeDepth := 40) [h]))

@[simp↓] theorem ext_State_resume (s : State) (h : Ext r s) :
    Ext r (State.resume s) := by
  unfold State.resume
  have hp : ∀ (u : State) (p : List Past), Ext r u → Ext r { u with past := p } := fun _ _ k => k
  have hq : ∀ (u : State) (p : PairSt), Ext r u → Ext r { u with pair := p } := fun _ _ k => k
  generalize (if s.pair.cold = true then none else s.pair.latest) = c
  dsimp only
  refine hp _ _ (ext_State_syncDev _ (ext_State_takeoverGap _ _ (hq _ _ ?_)))
  cases c <;> split <;> simp (contextual := true) (maxDischargeDepth := 40) [h]

theorem ext_execHeartbeatTx (s : State) (h : Ext r s) :
    ExtOut r (execHeartbeatTx s) := by
  unfold execHeartbeatTx
  first
  | (simp (contextual := true) (maxDischargeDepth := 40) [h]; done)
  | (apply extOut_next; (repeat' split) <;> first | assumption | (simp (contextual := true) (maxDischargeDepth := 40) [h]; done) | ((simp (contextual := true) (maxDischargeDepth := 40) [h]) <;> (repeat' split) <;> simp (contextual := true) (maxDischargeDepth := 40) [h]))

@[simp↓] theorem ext_State_seqRx (s : State) (p : PairHdr) (h : Ext r s) :
    Ext r (State.seqRx s p).1 := by
  unfold State.seqRx
  first
  | (simp (contextual := true) (maxDischargeDepth := 40) [h]; done)
  | ((repeat' split) <;> first | assumption | (simp (contextual := true) (maxDischargeDepth := 40) [h]; done) | ((simp (contextual := true) (maxDischargeDepth := 40) [h]) <;> (repeat' split) <;> simp (contextual := true) (maxDischargeDepth := 40) [h]))

@[simp↓] theorem ext_State_seqSync (s : State) (gap : Bool) (h : Ext r s) :
    Ext r (State.seqSync s gap) := by
  unfold State.seqSync
  first
  | (simp (contextual := true) (maxDischargeDepth := 40) [h]; done)
  | ((repeat' split) <;> first | assumption | (simp (contextual := true) (maxDischargeDepth := 40) [h]; done) | ((simp (contextual := true) (maxDischargeDepth := 40) [h]) <;> (repeat' split) <;> simp (contextual := true) (maxDischargeDepth := 40) [h]))

theorem ext_execHeartbeatRx (p : PairHdr) (m : HbMsg) (s : State) (h : Ext r s) :
    ExtOut r (execHeartbeatRx p m s) := by
  unfold execHeartbeatRx
  first
  | (simp (contextual := true) (maxDischargeDepth := 40) [h]; done)
  | (apply extOut_next; (repeat' split) <;> first | assumption | (simp (contextual := true) (maxDischargeDepth := 40) [h]; done) | ((simp (contextual := true) (maxDischargeDepth := 40) [h]) <;> (repeat' split) <;> simp (contextual := true) (maxDischargeDepth := 40) [h]))

theorem ext_execHbInEdge (s : State) (h : Ext r s) :
    ExtOut r (execHbInEdge s) := by
  unfold execHbInEdge
  first
  | (simp (contextual := true) (maxDischargeDepth := 40) [h]; done)
  | (apply extOut_next; (repeat' split) <;> first | assumption | (simp (contextual := true) (maxDischargeDepth := 40) [h]; done) | ((simp (contextual := true) (maxDischargeDepth := 40) [h]) <;> (repeat' split) <;> simp (contextual := true) (maxDischargeDepth := 40) [h]))

@[simp↓] theorem ext_State_switchFails (s : State) (h : Ext r s) :
    Ext r (State.switchFails s) := by
  unfold State.switchFails
  first
  | (simp (contextual := true) (maxDischargeDepth := 40) [h]; done)
  | ((repeat' split) <;> first | assumption | (simp (contextual := true) (maxDischargeDepth := 40) [h]; done) | ((simp (contextual := true) (maxDischargeDepth := 40) [h]) <;> (repeat' split) <;> simp (contextual := true) (maxDischargeDepth := 40) [h]))

@[simp↓] theorem ext_State_failAct (s : State) (h : Ext r s) :
    Ext r (State.failAct s) := by
  unfold State.failAct
  first
  | (simp (contextual := true) (maxDischargeDepth := 40) [h]; done)
  | ((repeat' split) <;> first | assumption | (simp (contextual := true) (maxDischargeDepth := 40) [h]; done) | ((simp (contextual := true) (maxDischargeDepth := 40) [h]) <;> (repeat' split) <;> simp (contextual := true) (maxDischargeDepth := 40) [h]))

@[simp↓] theorem ext_State_partnerGone (s : State) (h : Ext r s) :
    Ext r (State.partnerGone s) := by
  unfold State.partnerGone
  first
  | (simp (contextual := true) (maxDischargeDepth := 40) [h]; done)
  | ((repeat' split) <;> first | assumption | (simp (contextual := true) (maxDischargeDepth := 40) [h]; done) | ((simp (contextual := true) (maxDischargeDepth := 40) [h]) <;> (repeat' split) <;> simp (contextual := true) (maxDischargeDepth := 40) [h]))

theorem ext_execPartnerFailed (s : State) (h : Ext r s) :
    ExtOut r (execPartnerFailed s) := by
  unfold execPartnerFailed
  first
  | (simp (contextual := true) (maxDischargeDepth := 40) [h]; done)
  | (apply extOut_next; (repeat' split) <;> first | assumption | (simp (contextual := true) (maxDischargeDepth := 40) [h]; done) | ((simp (contextual := true) (maxDischargeDepth := 40) [h]) <;> (repeat' split) <;> simp (contextual := true) (maxDischargeDepth := 40) [h]))

theorem ext_execTakeoverResume (s : State) (h : Ext r s) :
    ExtOut r (execTakeoverResume s) := by
  unfold execTakeoverResume
  first
  | (simp (contextual := true) (maxDischargeDepth := 40) [h]; done)
  | (apply extOut_next; (repeat' split) <;> first | assumption | (simp (contextual := true) (maxDischargeDepth := 40) [h]; done) | ((simp (contextual := true) (maxDischargeDepth := 40) [h]) <;> (repeat' split) <;> simp (contextual := true) (maxDischargeDepth := 40) [h]))

@[simp↓] theorem ext_State_demoteBy (s : State) (h : Ext r s) :
    Ext r (State.demoteBy s) := by
  unfold State.demoteBy
  first
  | (simp (contextual := true) (maxDischargeDepth := 40) [h]; done)
  | ((repeat' split) <;> first | assumption | (simp (contextual := true) (maxDischargeDepth := 40) [h]; done) | ((simp (contextual := true) (maxDischargeDepth := 40) [h]) <;> (repeat' split) <;> simp (contextual := true) (maxDischargeDepth := 40) [h]))

theorem ext_execDemotion (s : State) (h : Ext r s) :
    ExtOut r (execDemotion s) := by
  unfold execDemotion
  first
  | (simp (contextual := true) (maxDischargeDepth := 40) [h]; done)
  | (apply extOut_next; (repeat' split) <;> first | assumption | (simp (contextual := true) (maxDischargeDepth := 40) [h]; done) | ((simp (contextual := true) (maxDischargeDepth := 40) [h]) <;> (repeat' split) <;> simp (contextual := true) (maxDischargeDepth := 40) [h]))

theorem ext_execDemotedTakeover (s : State) (h : Ext r s) :
    ExtOut r (execDemotedTakeover s) := by
  unfold execDemotedTakeover
  first
  | (simp (contextual := true) (maxDischargeDepth := 40) [h]; done)
  | (apply extOut_next; (repeat' split) <;> first | assumption | (simp (contextual := true) (maxDischargeDepth := 40) [h]; done) | ((simp (contextual := true) (maxDischargeDepth := 40) [h]) <;> (repeat' split) <;> simp (contextual := true) (maxDischargeDepth := 40) [h]))

@[simp↓] theorem ext_State_finalCkpt (s : State) (o : SwitchOp) (k : Nat) (h : Ext r s) :
    Ext r (State.finalCkpt s o k) := by
  unfold State.finalCkpt
  first
  | (simp (contextual := true) (maxDischargeDepth := 40) [h]; done)
  | ((repeat' split) <;> first | assumption | (simp (contextual := true) (maxDischargeDepth := 40) [h]; done) | ((simp (contextual := true) (maxDischargeDepth := 40) [h]) <;> (repeat' split) <;> simp (contextual := true) (maxDischargeDepth := 40) [h]))

@[simp↓] theorem ext_State_switchCkpt (s : State) (o : SwitchOp) (k : Nat) (h : Ext r s) :
    Ext r (State.switchCkpt s o k) := by
  unfold State.switchCkpt
  first
  | (simp (contextual := true) (maxDischargeDepth := 40) [h]; done)
  | ((repeat' split) <;> first | assumption | (simp (contextual := true) (maxDischargeDepth := 40) [h]; done) | ((simp (contextual := true) (maxDischargeDepth := 40) [h]) <;> (repeat' split) <;> simp (contextual := true) (maxDischargeDepth := 40) [h]))

theorem ext_execCheckpointEpoch (s : State) (h : Ext r s) :
    ExtOut r (execCheckpointEpoch s) := by
  unfold execCheckpointEpoch
  first
  | (simp (contextual := true) (maxDischargeDepth := 40) [h]; done)
  | (apply extOut_next; (repeat' split) <;> first | assumption | (simp (contextual := true) (maxDischargeDepth := 40) [h]; done) | ((simp (contextual := true) (maxDischargeDepth := 40) [h]) <;> (repeat' split) <;> simp (contextual := true) (maxDischargeDepth := 40) [h]))

@[simp↓] theorem ext_State_buildFrag (s : State) (p : PairHdr) (sect : CkptSec) (bytes : List Byte) (h : Ext r s) :
    Ext r (State.buildFrag s p sect bytes) := by
  unfold State.buildFrag
  first
  | (simp (contextual := true) (maxDischargeDepth := 40) [h]; done)
  | ((repeat' split) <;> first | assumption | (simp (contextual := true) (maxDischargeDepth := 40) [h]; done) | ((simp (contextual := true) (maxDischargeDepth := 40) [h]) <;> (repeat' split) <;> simp (contextual := true) (maxDischargeDepth := 40) [h]))

theorem ext_execCkptDeltaRx (p : PairHdr) (sect : CkptSec) (bytes : List Byte) (s : State) (h : Ext r s) :
    ExtOut r (execCkptDeltaRx p sect bytes s) := by
  unfold execCkptDeltaRx
  first
  | (simp (contextual := true) (maxDischargeDepth := 40) [h]; done)
  | (apply extOut_next; (repeat' split) <;> first | assumption | (simp (contextual := true) (maxDischargeDepth := 40) [h]; done) | ((simp (contextual := true) (maxDischargeDepth := 40) [h]) <;> (repeat' split) <;> simp (contextual := true) (maxDischargeDepth := 40) [h]))

@[simp↓] theorem ext_State_ckptComplete (s : State) (b : Ckpt) (h : Ext r s) :
    Ext r (State.ckptComplete s b) := by
  unfold State.ckptComplete
  refine ext_State_refreshPorts _ (ext_withSect ?_ ?_)
  · simp (contextual := true) (maxDischargeDepth := 40) [h]
  · intro s v hs; simp (contextual := true) (maxDischargeDepth := 40) [hs]

@[simp↓] theorem ext_State_ckptEnd (s : State) (p : PairHdr) (frags : Nat) (crc : U32) (h : Ext r s) :
    Ext r (State.ckptEnd s p frags crc) := by
  unfold State.ckptEnd
  first
  | (simp (contextual := true) (maxDischargeDepth := 40) [h]; done)
  | ((repeat' split) <;> first | assumption | (simp (contextual := true) (maxDischargeDepth := 40) [h]; done) | ((simp (contextual := true) (maxDischargeDepth := 40) [h]) <;> (repeat' split) <;> simp (contextual := true) (maxDischargeDepth := 40) [h]))

theorem ext_execCkptEndRx (p : PairHdr) (frags : Nat) (crc : U32) (s : State) (h : Ext r s) :
    ExtOut r (execCkptEndRx p frags crc s) := by
  unfold execCkptEndRx
  first
  | (simp (contextual := true) (maxDischargeDepth := 40) [h]; done)
  | (apply extOut_next; (repeat' split) <;> first | assumption | (simp (contextual := true) (maxDischargeDepth := 40) [h]; done) | ((simp (contextual := true) (maxDischargeDepth := 40) [h]) <;> (repeat' split) <;> simp (contextual := true) (maxDischargeDepth := 40) [h]))

theorem ext_execFinalRx (p : PairHdr) (frags : Nat) (crc : U32) (s : State) (h : Ext r s) :
    ExtOut r (execFinalRx p frags crc s) := by
  unfold execFinalRx
  first
  | (simp (contextual := true) (maxDischargeDepth := 40) [h]; done)
  | (apply extOut_next; (repeat' split) <;> first | assumption | (simp (contextual := true) (maxDischargeDepth := 40) [h]; done) | ((simp (contextual := true) (maxDischargeDepth := 40) [h]) <;> (repeat' split) <;> simp (contextual := true) (maxDischargeDepth := 40) [h]))

theorem ext_execSyncRequestRx (p : PairHdr) (s : State) (h : Ext r s) :
    ExtOut r (execSyncRequestRx p s) := by
  unfold execSyncRequestRx
  first
  | (simp (contextual := true) (maxDischargeDepth := 40) [h]; done)
  | (apply extOut_next; (repeat' split) <;> first | assumption | (simp (contextual := true) (maxDischargeDepth := 40) [h]; done) | ((simp (contextual := true) (maxDischargeDepth := 40) [h]) <;> (repeat' split) <;> simp (contextual := true) (maxDischargeDepth := 40) [h]))

theorem ext_execCkptFlush (s : State) (h : Ext r s) :
    ExtOut r (execCkptFlush s) := by
  unfold execCkptFlush
  first
  | (simp (contextual := true) (maxDischargeDepth := 40) [h]; done)
  | (apply extOut_next; (repeat' split) <;> first | assumption | (simp (contextual := true) (maxDischargeDepth := 40) [h]; done) | ((simp (contextual := true) (maxDischargeDepth := 40) [h]) <;> (repeat' split) <;> simp (contextual := true) (maxDischargeDepth := 40) [h]))

theorem ext_execCkptStale (s : State) (h : Ext r s) :
    ExtOut r (execCkptStale s) := by
  unfold execCkptStale
  first
  | (simp (contextual := true) (maxDischargeDepth := 40) [h]; done)
  | (apply extOut_next; (repeat' split) <;> first | assumption | (simp (contextual := true) (maxDischargeDepth := 40) [h]; done) | ((simp (contextual := true) (maxDischargeDepth := 40) [h]) <;> (repeat' split) <;> simp (contextual := true) (maxDischargeDepth := 40) [h]))

theorem ext_execPairStartWaitEnd (s : State) (h : Ext r s) :
    ExtOut r (execPairStartWaitEnd s) := by
  unfold execPairStartWaitEnd
  first
  | (simp (contextual := true) (maxDischargeDepth := 40) [h]; done)
  | (apply extOut_next; (repeat' split) <;> first | assumption | (simp (contextual := true) (maxDischargeDepth := 40) [h]; done) | ((simp (contextual := true) (maxDischargeDepth := 40) [h]) <;> (repeat' split) <;> simp (contextual := true) (maxDischargeDepth := 40) [h]))

theorem ext_execPairFloorSwitch (s : State) (h : Ext r s) :
    ExtOut r (execPairFloorSwitch s) := by
  unfold execPairFloorSwitch
  first
  | (simp (contextual := true) (maxDischargeDepth := 40) [h]; done)
  | (apply extOut_next; (repeat' split) <;> first | assumption | (simp (contextual := true) (maxDischargeDepth := 40) [h]; done) | ((simp (contextual := true) (maxDischargeDepth := 40) [h]) <;> (repeat' split) <;> simp (contextual := true) (maxDischargeDepth := 40) [h]))

@[simp↓] theorem ext_pairSwitchoverVerdict (hh : Hdr) (s : State) :
    (pairSwitchoverVerdict hh s).Extends := by
  unfold pairSwitchoverVerdict
  repeat' split
  all_goals first | (exact extends_reject _) | (simp (contextual := true) (maxDischargeDepth := 40) ; done) | (intro r t h; simp (contextual := true) (maxDischargeDepth := 40) [h]; done) | (dsimp only; (repeat' split) <;> simp (contextual := true) (maxDischargeDepth := 40))

theorem ext_execPairSwitchover (hh : Hdr) (s : State) (h : Ext r s) :
    ExtOut r (execPairSwitchover hh s) := by
  unfold execPairSwitchover
  first
  | (simp (contextual := true) (maxDischargeDepth := 40) [h]; done)
  | (apply extOut_next; (repeat' split) <;> first | assumption | (simp (contextual := true) (maxDischargeDepth := 40) [h]; done) | ((simp (contextual := true) (maxDischargeDepth := 40) [h]) <;> (repeat' split) <;> simp (contextual := true) (maxDischargeDepth := 40) [h]))

@[simp↓] theorem ext_pairResyncVerdict (s : State) :
    (pairResyncVerdict s).Extends := by
  unfold pairResyncVerdict
  repeat' split
  all_goals first | (exact extends_reject _) | (simp (contextual := true) (maxDischargeDepth := 40) ; done) | (intro r t h; simp (contextual := true) (maxDischargeDepth := 40) [h]; done) | (dsimp only; (repeat' split) <;> simp (contextual := true) (maxDischargeDepth := 40))

theorem ext_execPairResync (hh : Hdr) (s : State) (h : Ext r s) :
    ExtOut r (execPairResync hh s) := by
  unfold execPairResync
  first
  | (simp (contextual := true) (maxDischargeDepth := 40) [h]; done)
  | (apply extOut_next; (repeat' split) <;> first | assumption | (simp (contextual := true) (maxDischargeDepth := 40) [h]; done) | ((simp (contextual := true) (maxDischargeDepth := 40) [h]) <;> (repeat' split) <;> simp (contextual := true) (maxDischargeDepth := 40) [h]))

@[simp↓] theorem ext_State_openSnap (s : State) (hh : U32) (ms : List BlkMember) (addr : U64) (len : Nat) (h : Ext r s) :
    Ext r (State.openSnap s hh ms addr len) := by
  unfold State.openSnap
  first
  | (simp (contextual := true) (maxDischargeDepth := 40) [h]; done)
  | ((repeat' split) <;> first | assumption | (simp (contextual := true) (maxDischargeDepth := 40) [h]; done) | ((simp (contextual := true) (maxDischargeDepth := 40) [h]) <;> (repeat' split) <;> simp (contextual := true) (maxDischargeDepth := 40) [h]))

@[simp↓] theorem ext_snapshotVerdict (hh : Hdr) (ms : List BlkMember) (addr : U64) (len : Nat) (s : State) :
    (snapshotVerdict hh ms addr len s).Extends := by
  unfold snapshotVerdict
  repeat' split
  all_goals first | (exact extends_reject _) | (simp (contextual := true) (maxDischargeDepth := 40) ; done) | (intro r t h; simp (contextual := true) (maxDischargeDepth := 40) [h]; done) | (dsimp only; (repeat' split) <;> simp (contextual := true) (maxDischargeDepth := 40))

theorem ext_execSnapshot (hh : Hdr) (members : List BlkMember) (addr : U64) (len : Nat) (s : State) (h : Ext r s) :
    ExtOut r (execSnapshot hh members addr len s) := by
  unfold execSnapshot
  first
  | (simp (contextual := true) (maxDischargeDepth := 40) [h]; done)
  | (apply extOut_next; (repeat' split) <;> first | assumption | (simp (contextual := true) (maxDischargeDepth := 40) [h]; done) | ((simp (contextual := true) (maxDischargeDepth := 40) [h]) <;> (repeat' split) <;> simp (contextual := true) (maxDischargeDepth := 40) [h]))

theorem ext_execSnapshotDone (handle : U32) (s : State) (h : Ext r s) :
    ExtOut r (execSnapshotDone handle s) := by
  unfold execSnapshotDone
  first
  | (simp (contextual := true) (maxDischargeDepth := 40) [h]; done)
  | (apply extOut_next; (repeat' split) <;> first | assumption | (simp (contextual := true) (maxDischargeDepth := 40) [h]; done) | ((simp (contextual := true) (maxDischargeDepth := 40) [h]) <;> (repeat' split) <;> simp (contextual := true) (maxDischargeDepth := 40) [h]))

@[simp↓] theorem ext_State_setMirror (s : State) (n : Nat) (m : Mirror) (h : Ext r s) :
    Ext r (State.setMirror s n m) := by
  unfold State.setMirror
  first
  | (simp (contextual := true) (maxDischargeDepth := 40) [h]; done)
  | ((repeat' split) <;> first | assumption | (simp (contextual := true) (maxDischargeDepth := 40) [h]; done) | ((simp (contextual := true) (maxDischargeDepth := 40) [h]) <;> (repeat' split) <;> simp (contextual := true) (maxDischargeDepth := 40) [h]))

@[simp↓] theorem ext_mirrorOpenVerdict (hh : Hdr) (n : Nat) (ms : List BlkMember) (period : Nat) (slots : Nat) (base : U64) (s : State) :
    (mirrorOpenVerdict hh n ms period slots base s).Extends := by
  unfold mirrorOpenVerdict
  repeat' split
  all_goals first | (exact extends_reject _) | (simp (contextual := true) (maxDischargeDepth := 40) ; done) | (intro r t h; simp (contextual := true) (maxDischargeDepth := 40) [h]; done) | (dsimp only; (repeat' split) <;> simp (contextual := true) (maxDischargeDepth := 40))

theorem ext_execMirrorOpen (hh : Hdr) (mirror : Nat) (members : List BlkMember) (period : Nat) (slots : Nat) (base : U64) (s : State) (h : Ext r s) :
    ExtOut r (execMirrorOpen hh mirror members period slots base s) := by
  unfold execMirrorOpen
  first
  | (simp (contextual := true) (maxDischargeDepth := 40) [h]; done)
  | (apply extOut_next; (repeat' split) <;> first | assumption | (simp (contextual := true) (maxDischargeDepth := 40) [h]; done) | ((simp (contextual := true) (maxDischargeDepth := 40) [h]) <;> (repeat' split) <;> simp (contextual := true) (maxDischargeDepth := 40) [h]))

@[simp↓] theorem ext_mirrorCloseVerdict (hh : Hdr) (n : Nat) (s : State) :
    (mirrorCloseVerdict hh n s).Extends := by
  unfold mirrorCloseVerdict
  repeat' split
  all_goals first | (exact extends_reject _) | (simp (contextual := true) (maxDischargeDepth := 40) ; done) | (intro r t h; simp (contextual := true) (maxDischargeDepth := 40) [h]; done) | (dsimp only; (repeat' split) <;> simp (contextual := true) (maxDischargeDepth := 40))

theorem ext_execMirrorClose (hh : Hdr) (mirror : Nat) (s : State) (h : Ext r s) :
    ExtOut r (execMirrorClose hh mirror s) := by
  unfold execMirrorClose
  first
  | (simp (contextual := true) (maxDischargeDepth := 40) [h]; done)
  | (apply extOut_next; (repeat' split) <;> first | assumption | (simp (contextual := true) (maxDischargeDepth := 40) [h]; done) | ((simp (contextual := true) (maxDischargeDepth := 40) [h]) <;> (repeat' split) <;> simp (contextual := true) (maxDischargeDepth := 40) [h]))

@[simp↓] theorem ext_State_writeBlock (s : State) (n : Nat) (m : Mirror) (view : Nat) (h : Ext r s) :
    Ext r (State.writeBlock s n m view) := by
  unfold State.writeBlock
  first
  | (simp (contextual := true) (maxDischargeDepth := 40) [h]; done)
  | ((repeat' split) <;> first | assumption | (simp (contextual := true) (maxDischargeDepth := 40) [h]; done) | ((simp (contextual := true) (maxDischargeDepth := 40) [h]) <;> (repeat' split) <;> simp (contextual := true) (maxDischargeDepth := 40) [h]))

@[simp↓] theorem ext_State_blockTurn (s : State) (n : Nat) (m : Mirror) (view : Nat) (h : Ext r s) :
    Ext r (State.blockTurn s n m view) := by
  unfold State.blockTurn
  first
  | (simp (contextual := true) (maxDischargeDepth := 40) [h]; done)
  | ((repeat' split) <;> first | assumption | (simp (contextual := true) (maxDischargeDepth := 40) [h]; done) | ((simp (contextual := true) (maxDischargeDepth := 40) [h]) <;> (repeat' split) <;> simp (contextual := true) (maxDischargeDepth := 40) [h]))

theorem ext_execMirrorBlockWrite (mirror : Nat) (s : State) (h : Ext r s) :
    ExtOut r (execMirrorBlockWrite mirror s) := by
  unfold execMirrorBlockWrite
  first
  | (simp (contextual := true) (maxDischargeDepth := 40) [h]; done)
  | (apply extOut_next; (repeat' split) <;> first | assumption | (simp (contextual := true) (maxDischargeDepth := 40) [h]; done) | ((simp (contextual := true) (maxDischargeDepth := 40) [h]) <;> (repeat' split) <;> simp (contextual := true) (maxDischargeDepth := 40) [h]))

@[simp↓] theorem ext_State_warm (s0 : State) (h : Ext r s0) :
    Ext r (State.warm s0) := by
  unfold State.warm
  first
  | (simp (contextual := true) (maxDischargeDepth := 40) [h]; done)
  | ((repeat' split) <;> first | assumption | (simp (contextual := true) (maxDischargeDepth := 40) [h]; done) | ((simp (contextual := true) (maxDischargeDepth := 40) [h]) <;> (repeat' split) <;> simp (contextual := true) (maxDischargeDepth := 40) [h]))

@[simp↓] theorem ext_State_swapFw (s : State) (h : Ext r s) :
    Ext r (State.swapFw s) := by
  unfold State.swapFw
  first
  | (simp (contextual := true) (maxDischargeDepth := 40) [h]; done)
  | ((repeat' split) <;> first | assumption | (simp (contextual := true) (maxDischargeDepth := 40) [h]; done) | ((simp (contextual := true) (maxDischargeDepth := 40) [h]) <;> (repeat' split) <;> simp (contextual := true) (maxDischargeDepth := 40) [h]))

@[simp↓] theorem ext_State_bootTrial (s : State) (h : Ext r s) :
    Ext r (State.bootTrial s) := by
  unfold State.bootTrial
  first
  | (simp (contextual := true) (maxDischargeDepth := 40) [h]; done)
  | ((repeat' split) <;> first | assumption | (simp (contextual := true) (maxDischargeDepth := 40) [h]; done) | ((simp (contextual := true) (maxDischargeDepth := 40) [h]) <;> (repeat' split) <;> simp (contextual := true) (maxDischargeDepth := 40) [h]))

@[simp↓] theorem ext_State_endTrialRun (s : State) (h : Ext r s) :
    Ext r (State.endTrialRun s) := by
  unfold State.endTrialRun
  first
  | (simp (contextual := true) (maxDischargeDepth := 40) [h]; done)
  | ((repeat' split) <;> first | assumption | (simp (contextual := true) (maxDischargeDepth := 40) [h]; done) | ((simp (contextual := true) (maxDischargeDepth := 40) [h]) <;> (repeat' split) <;> simp (contextual := true) (maxDischargeDepth := 40) [h]))

@[simp↓] theorem ext_State_confirmTrial (s : State) (h : Ext r s) :
    Ext r (State.confirmTrial s) := by
  unfold State.confirmTrial
  first
  | (simp (contextual := true) (maxDischargeDepth := 40) [h]; done)
  | ((repeat' split) <;> first | assumption | (simp (contextual := true) (maxDischargeDepth := 40) [h]; done) | ((simp (contextual := true) (maxDischargeDepth := 40) [h]) <;> (repeat' split) <;> simp (contextual := true) (maxDischargeDepth := 40) [h]))

@[simp↓] theorem ext_State_holdReset (s : State) (h : Ext r s) :
    Ext r (State.holdReset s) := by
  unfold State.holdReset
  first
  | (simp (contextual := true) (maxDischargeDepth := 40) [h]; done)
  | ((repeat' split) <;> first | assumption | (simp (contextual := true) (maxDischargeDepth := 40) [h]; done) | ((simp (contextual := true) (maxDischargeDepth := 40) [h]) <;> (repeat' split) <;> simp (contextual := true) (maxDischargeDepth := 40) [h]))

@[simp↓] theorem ext_State_assertReset (s : State) (cause : BitVec 5) (h : Ext r s) :
    Ext r (State.assertReset s cause) := by
  unfold State.assertReset
  first
  | (simp (contextual := true) (maxDischargeDepth := 40) [h]; done)
  | ((repeat' split) <;> first | assumption | (simp (contextual := true) (maxDischargeDepth := 40) [h]; done) | ((simp (contextual := true) (maxDischargeDepth := 40) [h]) <;> (repeat' split) <;> simp (contextual := true) (maxDischargeDepth := 40) [h]))

@[simp↓] theorem ext_State_fallBack (s : State) (h : Ext r s) :
    Ext r (State.fallBack s) := by
  unfold State.fallBack
  first
  | (simp (contextual := true) (maxDischargeDepth := 40) [h]; done)
  | ((repeat' split) <;> first | assumption | (simp (contextual := true) (maxDischargeDepth := 40) [h]; done) | ((simp (contextual := true) (maxDischargeDepth := 40) [h]) <;> (repeat' split) <;> simp (contextual := true) (maxDischargeDepth := 40) [h]))

@[simp↓] theorem ext_State_haltAt (s : State) (k : Nat) (h : Ext r s) :
    Ext r (State.haltAt s k) := by
  unfold State.haltAt
  first
  | (simp (contextual := true) (maxDischargeDepth := 40) [h]; done)
  | ((repeat' split) <;> first | assumption | (simp (contextual := true) (maxDischargeDepth := 40) [h]; done) | ((simp (contextual := true) (maxDischargeDepth := 40) [h]) <;> (repeat' split) <;> simp (contextual := true) (maxDischargeDepth := 40) [h]))

@[simp↓] theorem ext_State_takeBoot (s : State) (h : Ext r s) :
    Ext r (State.takeBoot s) := by
  unfold State.takeBoot
  first
  | (simp (contextual := true) (maxDischargeDepth := 40) [h]; done)
  | ((repeat' split) <;> first | assumption | (simp (contextual := true) (maxDischargeDepth := 40) [h]; done) | ((simp (contextual := true) (maxDischargeDepth := 40) [h]) <;> (repeat' split) <;> simp (contextual := true) (maxDischargeDepth := 40) [h]))

@[simp↓] theorem ext_State_auditLost (s : State) (note : Option (U32 × U32)) (op : Nat) (code : Nat) (h : Ext r s) :
    Ext r (State.auditLost s note op code) := by
  unfold State.auditLost
  first
  | (simp (contextual := true) (maxDischargeDepth := 40) [h]; done)
  | ((repeat' split) <;> first | assumption | (simp (contextual := true) (maxDischargeDepth := 40) [h]; done) | ((simp (contextual := true) (maxDischargeDepth := 40) [h]) <;> (repeat' split) <;> simp (contextual := true) (maxDischargeDepth := 40) [h]))

@[simp↓] theorem ext_State_lostNotes (s : State) (h : Ext r s) :
    Ext r (State.lostNotes s) := by
  unfold State.lostNotes
  first
  | (simp (contextual := true) (maxDischargeDepth := 40) [h]; done)
  | ((repeat' split) <;> first | assumption | (simp (contextual := true) (maxDischargeDepth := 40) [h]; done) | ((simp (contextual := true) (maxDischargeDepth := 40) [h]) <;> (repeat' split) <;> simp (contextual := true) (maxDischargeDepth := 40) [h]))

@[simp↓] theorem ext_State_startKeys (s : State) (h : Ext r s) :
    Ext r (State.startKeys s) := by
  unfold State.startKeys
  first
  | (simp (contextual := true) (maxDischargeDepth := 40) [h]; done)
  | ((repeat' split) <;> first | assumption | (simp (contextual := true) (maxDischargeDepth := 40) [h]; done) | ((simp (contextual := true) (maxDischargeDepth := 40) [h]) <;> (repeat' split) <;> simp (contextual := true) (maxDischargeDepth := 40) [h]))

@[simp↓] theorem ext_State_startClock (s : State) (h : Ext r s) :
    Ext r (State.startClock s) := by
  unfold State.startClock
  first
  | (simp (contextual := true) (maxDischargeDepth := 40) [h]; done)
  | ((repeat' split) <;> first | assumption | (simp (contextual := true) (maxDischargeDepth := 40) [h]; done) | ((simp (contextual := true) (maxDischargeDepth := 40) [h]) <;> (repeat' split) <;> simp (contextual := true) (maxDischargeDepth := 40) [h]))

@[simp↓] theorem ext_State_startUnit (s : State) (h : Ext r s) :
    Ext r (State.startUnit s) := by
  unfold State.startUnit
  first
  | (simp (contextual := true) (maxDischargeDepth := 40) [h]; done)
  | ((repeat' split) <;> first | assumption | (simp (contextual := true) (maxDischargeDepth := 40) [h]; done) | ((simp (contextual := true) (maxDischargeDepth := 40) [h]) <;> (repeat' split) <;> simp (contextual := true) (maxDischargeDepth := 40) [h]))

@[simp↓] theorem ext_State_copyDrip (s : State) (h : Ext r s) :
    Ext r (State.copyDrip s) := by
  unfold State.copyDrip
  first
  | (simp (contextual := true) (maxDischargeDepth := 40) [h]; done)
  | ((repeat' split) <;> first | assumption | (simp (contextual := true) (maxDischargeDepth := 40) [h]; done) | ((simp (contextual := true) (maxDischargeDepth := 40) [h]) <;> (repeat' split) <;> simp (contextual := true) (maxDischargeDepth := 40) [h]))

@[simp↓] theorem ext_State_step8 (s : State) (obs : ReleaseObs) (h : Ext r s) :
    Ext r (State.step8 s obs) := by
  unfold State.step8
  first
  | (simp (contextual := true) (maxDischargeDepth := 40) [h]; done)
  | ((repeat' split) <;> first | assumption | (simp (contextual := true) (maxDischargeDepth := 40) [h]; done) | ((simp (contextual := true) (maxDischargeDepth := 40) [h]) <;> (repeat' split) <;> simp (contextual := true) (maxDischargeDepth := 40) [h]))

@[simp↓] theorem ext_State_postDrip (s : State) (h : Ext r s) :
    Ext r (State.postDrip s) := by
  unfold State.postDrip
  first
  | (simp (contextual := true) (maxDischargeDepth := 40) [h]; done)
  | ((repeat' split) <;> first | assumption | (simp (contextual := true) (maxDischargeDepth := 40) [h]; done) | ((simp (contextual := true) (maxDischargeDepth := 40) [h]) <;> (repeat' split) <;> simp (contextual := true) (maxDischargeDepth := 40) [h]))

@[simp↓] theorem ext_State_postAlarms (s : State) (h : Ext r s) :
    Ext r (State.postAlarms s) := by
  unfold State.postAlarms
  first
  | (simp (contextual := true) (maxDischargeDepth := 40) [h]; done)
  | ((repeat' split) <;> first | assumption | (simp (contextual := true) (maxDischargeDepth := 40) [h]; done) | ((simp (contextual := true) (maxDischargeDepth := 40) [h]) <;> (repeat' split) <;> simp (contextual := true) (maxDischargeDepth := 40) [h]))

@[simp↓] theorem ext_State_postBootFault (s : State) (h : Ext r s) :
    Ext r (State.postBootFault s) := by
  unfold State.postBootFault
  first
  | (simp (contextual := true) (maxDischargeDepth := 40) [h]; done)
  | ((repeat' split) <;> first | assumption | (simp (contextual := true) (maxDischargeDepth := 40) [h]; done) | ((simp (contextual := true) (maxDischargeDepth := 40) [h]) <;> (repeat' split) <;> simp (contextual := true) (maxDischargeDepth := 40) [h]))

@[simp↓] theorem ext_State_releaseDone (s : State) (h : Ext r s) :
    Ext r (State.releaseDone s) := by
  unfold State.releaseDone
  first
  | (simp (contextual := true) (maxDischargeDepth := 40) [h]; done)
  | ((repeat' split) <;> first | assumption | (simp (contextual := true) (maxDischargeDepth := 40) [h]; done) | ((simp (contextual := true) (maxDischargeDepth := 40) [h]) <;> (repeat' split) <;> simp (contextual := true) (maxDischargeDepth := 40) [h]))

@[simp↓] theorem ext_State_loadTrim (s : State) (obs : ReleaseObs) (h : Ext r s) :
    Ext r (State.loadTrim s obs) := by
  unfold State.loadTrim
  first
  | (simp (contextual := true) (maxDischargeDepth := 40) [h]; done)
  | ((repeat' split) <;> first | assumption | (simp (contextual := true) (maxDischargeDepth := 40) [h]; done) | ((simp (contextual := true) (maxDischargeDepth := 40) [h]) <;> (repeat' split) <;> simp (contextual := true) (maxDischargeDepth := 40) [h]))

@[simp↓] theorem ext_State_stepDone (s : State) (obs : ReleaseObs) (h : Ext r s) :
    Ext r (State.stepDone s obs) := by
  unfold State.stepDone
  dsimp only
  (repeat' split) <;> simp (contextual := true) (maxDischargeDepth := 40) [h]

theorem ext_execReleaseStep (obs : ReleaseObs) (s : State) (h : Ext r s) :
    ExtOut r (execReleaseStep obs s) := by
  unfold execReleaseStep
  first
  | (simp (contextual := true) (maxDischargeDepth := 40) [h]; done)
  | (apply extOut_next; (repeat' split) <;> first | assumption | (simp (contextual := true) (maxDischargeDepth := 40) [h]; done) | ((simp (contextual := true) (maxDischargeDepth := 40) [h]) <;> (repeat' split) <;> simp (contextual := true) (maxDischargeDepth := 40) [h]))

theorem ext_execReleaseHalt (s : State) (h : Ext r s) :
    ExtOut r (execReleaseHalt s) := by
  unfold execReleaseHalt
  first
  | (simp (contextual := true) (maxDischargeDepth := 40) [h]; done)
  | (apply extOut_next; (repeat' split) <;> first | assumption | (simp (contextual := true) (maxDischargeDepth := 40) [h]; done) | ((simp (contextual := true) (maxDischargeDepth := 40) [h]) <;> (repeat' split) <;> simp (contextual := true) (maxDischargeDepth := 40) [h]))

theorem ext_execFwTrialTimeout (s : State) (h : Ext r s) :
    ExtOut r (execFwTrialTimeout s) := by
  unfold execFwTrialTimeout
  first
  | (simp (contextual := true) (maxDischargeDepth := 40) [h]; done)
  | (apply extOut_next; (repeat' split) <;> first | assumption | (simp (contextual := true) (maxDischargeDepth := 40) [h]; done) | ((simp (contextual := true) (maxDischargeDepth := 40) [h]) <;> (repeat' split) <;> simp (contextual := true) (maxDischargeDepth := 40) [h]))

theorem ext_execResetNAssert (s : State) (h : Ext r s) :
    ExtOut r (execResetNAssert s) := by
  unfold execResetNAssert
  first
  | (simp (contextual := true) (maxDischargeDepth := 40) [h]; done)
  | (apply extOut_next; (repeat' split) <;> first | assumption | (simp (contextual := true) (maxDischargeDepth := 40) [h]; done) | ((simp (contextual := true) (maxDischargeDepth := 40) [h]) <;> (repeat' split) <;> simp (contextual := true) (maxDischargeDepth := 40) [h]))

theorem ext_execResetNRelease (s : State) (h : Ext r s) :
    ExtOut r (execResetNRelease s) := by
  unfold execResetNRelease
  first
  | (simp (contextual := true) (maxDischargeDepth := 40) [h]; done)
  | (apply extOut_next; (repeat' split) <;> first | assumption | (simp (contextual := true) (maxDischargeDepth := 40) [h]; done) | ((simp (contextual := true) (maxDischargeDepth := 40) [h]) <;> (repeat' split) <;> simp (contextual := true) (maxDischargeDepth := 40) [h]))

@[simp↓] theorem ext_resetVerdict (hh : Hdr) (mode : Nat) (s : State) :
    (resetVerdict hh mode s).Extends := by
  unfold resetVerdict
  repeat' split
  all_goals first | (exact extends_reject _) | (simp (contextual := true) (maxDischargeDepth := 40) ; done) | (intro r t h; simp (contextual := true) (maxDischargeDepth := 40) [h]; done) | (dsimp only; (repeat' split) <;> simp (contextual := true) (maxDischargeDepth := 40))

theorem ext_execReset (hh : Hdr) (mode : Nat) (s : State) (h : Ext r s) :
    ExtOut r (execReset hh mode s) := by
  unfold execReset
  first
  | (simp (contextual := true) (maxDischargeDepth := 40) [h]; done)
  | (apply extOut_next; (repeat' split) <;> first | assumption | (simp (contextual := true) (maxDischargeDepth := 40) [h]; done) | ((simp (contextual := true) (maxDischargeDepth := 40) [h]) <;> (repeat' split) <;> simp (contextual := true) (maxDischargeDepth := 40) [h]))

@[simp↓] theorem ext_fwLoadVerdict (hh : Hdr) (s : State) :
    (fwLoadVerdict hh s).Extends := by
  unfold fwLoadVerdict
  repeat' split
  all_goals first | (exact extends_reject _) | (simp (contextual := true) (maxDischargeDepth := 40) ; done) | (intro r t h; simp (contextual := true) (maxDischargeDepth := 40) [h]; done) | (dsimp only; (repeat' split) <;> simp (contextual := true) (maxDischargeDepth := 40))

theorem ext_execFwLoad (hh : Hdr) (s : State) (h : Ext r s) :
    ExtOut r (execFwLoad hh s) := by
  unfold execFwLoad
  first
  | (simp (contextual := true) (maxDischargeDepth := 40) [h]; done)
  | (apply extOut_next; (repeat' split) <;> first | assumption | (simp (contextual := true) (maxDischargeDepth := 40) [h]; done) | ((simp (contextual := true) (maxDischargeDepth := 40) [h]) <;> (repeat' split) <;> simp (contextual := true) (maxDischargeDepth := 40) [h]))

theorem ext_execFwLoadDone (bytes : List Byte) (img : FwImage) (s : State) (h : Ext r s) :
    ExtOut r (execFwLoadDone bytes img s) := by
  unfold execFwLoadDone
  first
  | (simp (contextual := true) (maxDischargeDepth := 40) [h]; done)
  | (apply extOut_next; (repeat' split) <;> first | assumption | (simp (contextual := true) (maxDischargeDepth := 40) [h]; done) | ((simp (contextual := true) (maxDischargeDepth := 40) [h]) <;> (repeat' split) <;> simp (contextual := true) (maxDischargeDepth := 40) [h]))

@[simp↓] theorem ext_fwActivateVerdict (s : State) :
    (fwActivateVerdict s).Extends := by
  unfold fwActivateVerdict
  repeat' split
  all_goals first | (exact extends_reject _) | (simp (contextual := true) (maxDischargeDepth := 40) ; done) | (intro r t h; simp (contextual := true) (maxDischargeDepth := 40) [h]; done) | (dsimp only; (repeat' split) <;> simp (contextual := true) (maxDischargeDepth := 40))

theorem ext_execFwActivate (hh : Hdr) (s : State) (h : Ext r s) :
    ExtOut r (execFwActivate hh s) := by
  unfold execFwActivate
  first
  | (simp (contextual := true) (maxDischargeDepth := 40) [h]; done)
  | (apply extOut_next; (repeat' split) <;> first | assumption | (simp (contextual := true) (maxDischargeDepth := 40) [h]; done) | ((simp (contextual := true) (maxDischargeDepth := 40) [h]) <;> (repeat' split) <;> simp (contextual := true) (maxDischargeDepth := 40) [h]))

@[simp↓] theorem ext_State_clearBlock (s : State) (b : Nat) (i : Nat) (h : Ext r s) :
    Ext r (State.clearBlock s b i) := by
  unfold State.clearBlock
  first
  | (simp (contextual := true) (maxDischargeDepth := 40) [h]; done)
  | ((repeat' split) <;> first | assumption | (simp (contextual := true) (maxDischargeDepth := 40) [h]; done) | ((simp (contextual := true) (maxDischargeDepth := 40) [h]) <;> (repeat' split) <;> simp (contextual := true) (maxDischargeDepth := 40) [h]))

@[simp↓] theorem ext_State_freeBlock (s : State) (b : Nat) (h : Ext r s) :
    Ext r (State.freeBlock s b) := by
  unfold State.freeBlock
  first
  | (simp (contextual := true) (maxDischargeDepth := 40) [h]; done)
  | ((repeat' split) <;> first | assumption | (simp (contextual := true) (maxDischargeDepth := 40) [h]; done) | ((simp (contextual := true) (maxDischargeDepth := 40) [h]) <;> (repeat' split) <;> simp (contextual := true) (maxDischargeDepth := 40) [h]))

@[simp↓] theorem ext_blockResetVerdict (hh : Hdr) (b : Nat) (i : Nat) (s : State) :
    (blockResetVerdict hh b i s).Extends := by
  unfold blockResetVerdict
  repeat' split
  all_goals first | (exact extends_reject _) | (simp (contextual := true) (maxDischargeDepth := 40) ; done) | (intro r t h; simp (contextual := true) (maxDischargeDepth := 40) [h]; done) | (dsimp only; (repeat' split) <;> simp (contextual := true) (maxDischargeDepth := 40))

theorem ext_execBlockReset (hh : Hdr) (block : Nat) (index : Nat) (s : State) (h : Ext r s) :
    ExtOut r (execBlockReset hh block index s) := by
  unfold execBlockReset
  first
  | (simp (contextual := true) (maxDischargeDepth := 40) [h]; done)
  | (apply extOut_next; (repeat' split) <;> first | assumption | (simp (contextual := true) (maxDischargeDepth := 40) [h]; done) | ((simp (contextual := true) (maxDischargeDepth := 40) [h]) <;> (repeat' split) <;> simp (contextual := true) (maxDischargeDepth := 40) [h]))

theorem ext_execBlockResetDone (handle : U32) (s : State) (h : Ext r s) :
    ExtOut r (execBlockResetDone handle s) := by
  unfold execBlockResetDone
  first
  | (simp (contextual := true) (maxDischargeDepth := 40) [h]; done)
  | (apply extOut_next; (repeat' split) <;> first | assumption | (simp (contextual := true) (maxDischargeDepth := 40) [h]; done) | ((simp (contextual := true) (maxDischargeDepth := 40) [h]) <;> (repeat' split) <;> simp (contextual := true) (maxDischargeDepth := 40) [h]))

theorem ext_execMarginBreach (cls : Nat) (margin : F32) (s : State) (h : Ext r s) :
    ExtOut r (execMarginBreach cls margin s) := by
  unfold execMarginBreach
  first
  | (simp (contextual := true) (maxDischargeDepth := 40) [h]; done)
  | (apply extOut_next; (repeat' split) <;> first | assumption | (simp (contextual := true) (maxDischargeDepth := 40) [h]; done) | ((simp (contextual := true) (maxDischargeDepth := 40) [h]) <;> (repeat' split) <;> simp (contextual := true) (maxDischargeDepth := 40) [h]))

theorem ext_execGovSettleStep (margin : F32) (s : State) (h : Ext r s) :
    ExtOut r (execGovSettleStep margin s) := by
  unfold execGovSettleStep
  first
  | (simp (contextual := true) (maxDischargeDepth := 40) [h]; done)
  | (apply extOut_next; (repeat' split) <;> first | assumption | (simp (contextual := true) (maxDischargeDepth := 40) [h]; done) | ((simp (contextual := true) (maxDischargeDepth := 40) [h]) <;> (repeat' split) <;> simp (contextual := true) (maxDischargeDepth := 40) [h]))

@[simp↓] theorem ext_State_vbulkRises (s : State) (h : Ext r s) :
    Ext r (State.vbulkRises s) := by
  unfold State.vbulkRises
  first
  | (simp (contextual := true) (maxDischargeDepth := 40) [h]; done)
  | ((repeat' split) <;> first | assumption | (simp (contextual := true) (maxDischargeDepth := 40) [h]; done) | ((simp (contextual := true) (maxDischargeDepth := 40) [h]) <;> (repeat' split) <;> simp (contextual := true) (maxDischargeDepth := 40) [h]))

theorem ext_execVbulkLow (volts : F32) (s : State) (h : Ext r s) :
    ExtOut r (execVbulkLow volts s) := by
  unfold execVbulkLow
  first
  | (simp (contextual := true) (maxDischargeDepth := 40) [h]; done)
  | (apply extOut_next; (repeat' split) <;> first | assumption | (simp (contextual := true) (maxDischargeDepth := 40) [h]; done) | ((simp (contextual := true) (maxDischargeDepth := 40) [h]) <;> (repeat' split) <;> simp (contextual := true) (maxDischargeDepth := 40) [h]))

theorem ext_execSagHoldEnd (volts : F32) (s : State) (h : Ext r s) :
    ExtOut r (execSagHoldEnd volts s) := by
  unfold execSagHoldEnd
  first
  | (simp (contextual := true) (maxDischargeDepth := 40) [h]; done)
  | (apply extOut_next; (repeat' split) <;> first | assumption | (simp (contextual := true) (maxDischargeDepth := 40) [h]; done) | ((simp (contextual := true) (maxDischargeDepth := 40) [h]) <;> (repeat' split) <;> simp (contextual := true) (maxDischargeDepth := 40) [h]))

theorem ext_execVbulkFail (volts : F32) (s : State) (h : Ext r s) :
    ExtOut r (execVbulkFail volts s) := by
  unfold execVbulkFail
  first
  | (simp (contextual := true) (maxDischargeDepth := 40) [h]; done)
  | (apply extOut_next; (repeat' split) <;> first | assumption | (simp (contextual := true) (maxDischargeDepth := 40) [h]; done) | ((simp (contextual := true) (maxDischargeDepth := 40) [h]) <;> (repeat' split) <;> simp (contextual := true) (maxDischargeDepth := 40) [h]))

theorem ext_execVbulkGood (volts : F32) (s : State) (h : Ext r s) :
    ExtOut r (execVbulkGood volts s) := by
  unfold execVbulkGood
  first
  | (simp (contextual := true) (maxDischargeDepth := 40) [h]; done)
  | (apply extOut_next; (repeat' split) <;> first | assumption | (simp (contextual := true) (maxDischargeDepth := 40) [h]; done) | ((simp (contextual := true) (maxDischargeDepth := 40) [h]) <;> (repeat' split) <;> simp (contextual := true) (maxDischargeDepth := 40) [h]))

theorem ext_execVaonPowerOn (volts : F32) (s : State) (h : Ext r s) :
    ExtOut r (execVaonPowerOn volts s) := by
  unfold execVaonPowerOn
  first
  | (simp (contextual := true) (maxDischargeDepth := 40) [h]; done)
  | (apply extOut_next; (repeat' split) <;> first | assumption | (simp (contextual := true) (maxDischargeDepth := 40) [h]; done) | ((simp (contextual := true) (maxDischargeDepth := 40) [h]) <;> (repeat' split) <;> simp (contextual := true) (maxDischargeDepth := 40) [h]))

theorem ext_execVaonLow (rising : Bool) (volts : F32) (s : State) (h : Ext r s) :
    ExtOut r (execVaonLow rising volts s) := by
  unfold execVaonLow
  first
  | (simp (contextual := true) (maxDischargeDepth := 40) [h]; done)
  | (apply extOut_next; (repeat' split) <;> first | assumption | (simp (contextual := true) (maxDischargeDepth := 40) [h]; done) | ((simp (contextual := true) (maxDischargeDepth := 40) [h]) <;> (repeat' split) <;> simp (contextual := true) (maxDischargeDepth := 40) [h]))

theorem ext_execVfldLowEvent (grp : Nat) (rising : Bool) (s : State) (h : Ext r s) :
    ExtOut r (execVfldLowEvent grp rising s) := by
  unfold execVfldLowEvent
  first
  | (simp (contextual := true) (maxDischargeDepth := 40) [h]; done)
  | (apply extOut_next; (repeat' split) <;> first | assumption | (simp (contextual := true) (maxDischargeDepth := 40) [h]; done) | ((simp (contextual := true) (maxDischargeDepth := 40) [h]) <;> (repeat' split) <;> simp (contextual := true) (maxDischargeDepth := 40) [h]))

theorem ext_execWakeEvent (n : Nat) (rising : Bool) (s : State) (h : Ext r s) :
    ExtOut r (execWakeEvent n rising s) := by
  unfold execWakeEvent
  first
  | (simp (contextual := true) (maxDischargeDepth := 40) [h]; done)
  | (apply extOut_next; (repeat' split) <;> first | assumption | (simp (contextual := true) (maxDischargeDepth := 40) [h]; done) | ((simp (contextual := true) (maxDischargeDepth := 40) [h]) <;> (repeat' split) <;> simp (contextual := true) (maxDischargeDepth := 40) [h]))

theorem ext_execPciePerstAssert (s : State) (h : Ext r s) :
    ExtOut r (execPciePerstAssert s) := by
  unfold execPciePerstAssert
  first
  | (simp (contextual := true) (maxDischargeDepth := 40) [h]; done)
  | (apply extOut_next; (repeat' split) <;> first | assumption | (simp (contextual := true) (maxDischargeDepth := 40) [h]; done) | ((simp (contextual := true) (maxDischargeDepth := 40) [h]) <;> (repeat' split) <;> simp (contextual := true) (maxDischargeDepth := 40) [h]))

theorem ext_execPciePerstRelease (s : State) (h : Ext r s) :
    ExtOut r (execPciePerstRelease s) := by
  unfold execPciePerstRelease
  first
  | (simp (contextual := true) (maxDischargeDepth := 40) [h]; done)
  | (apply extOut_next; (repeat' split) <;> first | assumption | (simp (contextual := true) (maxDischargeDepth := 40) [h]; done) | ((simp (contextual := true) (maxDischargeDepth := 40) [h]) <;> (repeat' split) <;> simp (contextual := true) (maxDischargeDepth := 40) [h]))

@[simp↓] theorem ext_State_canStop (s : State) (h : Ext r s) :
    Ext r (State.canStop s) := by
  unfold State.canStop
  first
  | (simp (contextual := true) (maxDischargeDepth := 40) [h]; done)
  | ((repeat' split) <;> first | assumption | (simp (contextual := true) (maxDischargeDepth := 40) [h]; done) | ((simp (contextual := true) (maxDischargeDepth := 40) [h]) <;> (repeat' split) <;> simp (contextual := true) (maxDischargeDepth := 40) [h]))

theorem ext_execVioLoss (n : Nat) (s : State) (h : Ext r s) :
    ExtOut r (execVioLoss n s) := by
  unfold execVioLoss
  first
  | (simp (contextual := true) (maxDischargeDepth := 40) [h]; done)
  | (apply extOut_next; (repeat' split) <;> first | assumption | (simp (contextual := true) (maxDischargeDepth := 40) [h]; done) | ((simp (contextual := true) (maxDischargeDepth := 40) [h]) <;> (repeat' split) <;> simp (contextual := true) (maxDischargeDepth := 40) [h]))

theorem ext_execVioRestore (n : Nat) (s : State) (h : Ext r s) :
    ExtOut r (execVioRestore n s) := by
  unfold execVioRestore
  first
  | (simp (contextual := true) (maxDischargeDepth := 40) [h]; done)
  | (apply extOut_next; (repeat' split) <;> first | assumption | (simp (contextual := true) (maxDischargeDepth := 40) [h]; done) | ((simp (contextual := true) (maxDischargeDepth := 40) [h]) <;> (repeat' split) <;> simp (contextual := true) (maxDischargeDepth := 40) [h]))

theorem ext_execOverTempRaise (die : Nat) (temp : F32) (s : State) (h : Ext r s) :
    ExtOut r (execOverTempRaise die temp s) := by
  unfold execOverTempRaise
  first
  | (simp (contextual := true) (maxDischargeDepth := 40) [h]; done)
  | (apply extOut_next; (repeat' split) <;> first | assumption | (simp (contextual := true) (maxDischargeDepth := 40) [h]; done) | ((simp (contextual := true) (maxDischargeDepth := 40) [h]) <;> (repeat' split) <;> simp (contextual := true) (maxDischargeDepth := 40) [h]))

theorem ext_execOverTempClear (temps : List F32) (s : State) (h : Ext r s) :
    ExtOut r (execOverTempClear temps s) := by
  unfold execOverTempClear
  first
  | (simp (contextual := true) (maxDischargeDepth := 40) [h]; done)
  | (apply extOut_next; (repeat' split) <;> first | assumption | (simp (contextual := true) (maxDischargeDepth := 40) [h]; done) | ((simp (contextual := true) (maxDischargeDepth := 40) [h]) <;> (repeat' split) <;> simp (contextual := true) (maxDischargeDepth := 40) [h]))

@[simp↓] theorem ext_State_grpRead (s : State) (qs : List PReq) (h : Ext r s) :
    Ext r (State.grpRead s qs) := by
  unfold State.grpRead
  first
  | (simp (contextual := true) (maxDischargeDepth := 40) [h]; done)
  | ((repeat' split) <;> first | assumption | (simp (contextual := true) (maxDischargeDepth := 40) [h]; done) | ((simp (contextual := true) (maxDischargeDepth := 40) [h]) <;> (repeat' split) <;> simp (contextual := true) (maxDischargeDepth := 40) [h]))

@[simp↓] theorem ext_paramReadVerdict (hh : Hdr) (flags : Nat) (reqs : List PReq) (s : State) :
    (paramReadVerdict hh flags reqs s).Extends := by
  unfold paramReadVerdict
  dsimp only
  split
  · exact extends_reject _
  split
  · intro r t h; exact h
  split
  · exact extends_reject _
  · intro r t h; simp (contextual := true) (maxDischargeDepth := 40) [h]

theorem ext_execParamRead (hh : Hdr) (flags : Nat) (reqs : List PReq) (s : State) (h : Ext r s) :
    ExtOut r (execParamRead hh flags reqs s) := by
  unfold execParamRead
  first
  | (simp (contextual := true) (maxDischargeDepth := 40) [h]; done)
  | (apply extOut_next; (repeat' split) <;> first | assumption | (simp (contextual := true) (maxDischargeDepth := 40) [h]; done) | ((simp (contextual := true) (maxDischargeDepth := 40) [h]) <;> (repeat' split) <;> simp (contextual := true) (maxDischargeDepth := 40) [h]))

@[simp↓] theorem ext_State_withVals (s : State) (v : Tab PVal) (h : Ext r s) :
    Ext r (State.withVals s v) := by
  unfold State.withVals
  first
  | (simp (contextual := true) (maxDischargeDepth := 40) [h]; done)
  | ((repeat' split) <;> first | assumption | (simp (contextual := true) (maxDischargeDepth := 40) [h]; done) | ((simp (contextual := true) (maxDischargeDepth := 40) [h]) <;> (repeat' split) <;> simp (contextual := true) (maxDischargeDepth := 40) [h]))

@[simp↓] theorem ext_State_future (s : State) (h : Ext r s) :
    Ext r (State.future s) := by
  unfold State.future
  first
  | (simp (contextual := true) (maxDischargeDepth := 40) [h]; done)
  | ((repeat' split) <;> first | assumption | (simp (contextual := true) (maxDischargeDepth := 40) [h]; done) | ((simp (contextual := true) (maxDischargeDepth := 40) [h]) <;> (repeat' split) <;> simp (contextual := true) (maxDischargeDepth := 40) [h]))

@[simp↓] theorem ext_State_putImm (s : State) (id : Nat) (idx : Nat) (v : PVal) (h : Ext r s) :
    Ext r (State.putImm s id idx v) := by
  unfold State.putImm
  first
  | (simp (contextual := true) (maxDischargeDepth := 40) [h]; done)
  | ((repeat' split) <;> first | assumption | (simp (contextual := true) (maxDischargeDepth := 40) [h]; done) | ((simp (contextual := true) (maxDischargeDepth := 40) [h]) <;> (repeat' split) <;> simp (contextual := true) (maxDischargeDepth := 40) [h]))

@[simp↓] theorem ext_State_putBank (s : State) (id : Nat) (idx : Nat) (v : PVal) (h : Ext r s) :
    Ext r (State.putBank s id idx v) := by
  unfold State.putBank
  first
  | (simp (contextual := true) (maxDischargeDepth := 40) [h]; done)
  | ((repeat' split) <;> first | assumption | (simp (contextual := true) (maxDischargeDepth := 40) [h]; done) | ((simp (contextual := true) (maxDischargeDepth := 40) [h]) <;> (repeat' split) <;> simp (contextual := true) (maxDischargeDepth := 40) [h]))

@[simp↓] theorem ext_State_putVal (s : State) (src : Src) (r1 : PSpec) (idx : Nat) (v : PVal) (h : Ext r s) :
    Ext r (State.putVal s src r1 idx v) := by
  unfold State.putVal
  first
  | (simp (contextual := true) (maxDischargeDepth := 40) [h]; done)
  | ((repeat' split) <;> first | assumption | (simp (contextual := true) (maxDischargeDepth := 40) [h]; done) | ((simp (contextual := true) (maxDischargeDepth := 40) [h]) <;> (repeat' split) <;> simp (contextual := true) (maxDischargeDepth := 40) [h]))

@[simp↓] theorem ext_State_putWr (s : State) (src : Src) (w : PWr) (h : Ext r s) :
    Ext r (State.putWr s src w) := by
  unfold State.putWr
  first
  | (simp (contextual := true) (maxDischargeDepth := 40) [h]; done)
  | ((repeat' split) <;> first | assumption | (simp (contextual := true) (maxDischargeDepth := 40) [h]; done) | ((simp (contextual := true) (maxDischargeDepth := 40) [h]) <;> (repeat' split) <;> simp (contextual := true) (maxDischargeDepth := 40) [h]))

@[simp↓] theorem ext_paramWriteVerdict (hh : Hdr) (wrs : List PWr) (s : State) :
    (paramWriteVerdict hh wrs s).Extends := by
  unfold paramWriteVerdict
  repeat' split
  all_goals first | (exact extends_reject _) | (simp (contextual := true) (maxDischargeDepth := 40) ; done) | (intro r t h; simp (contextual := true) (maxDischargeDepth := 40) [h]; done) | (dsimp only; (repeat' split) <;> simp (contextual := true) (maxDischargeDepth := 40))

theorem ext_execParamWrite (hh : Hdr) (wrs : List PWr) (s : State) (h : Ext r s) :
    ExtOut r (execParamWrite hh wrs s) := by
  unfold execParamWrite
  first
  | (simp (contextual := true) (maxDischargeDepth := 40) [h]; done)
  | (apply extOut_next; (repeat' split) <;> first | assumption | (simp (contextual := true) (maxDischargeDepth := 40) [h]; done) | ((simp (contextual := true) (maxDischargeDepth := 40) [h]) <;> (repeat' split) <;> simp (contextual := true) (maxDischargeDepth := 40) [h]))

@[simp↓] theorem ext_State_unstage (s : State) (l : List (Nat × Nat)) (h : Ext r s) :
    Ext r (State.unstage s l) := by
  unfold State.unstage
  first
  | (simp (contextual := true) (maxDischargeDepth := 40) [h]; done)
  | ((repeat' split) <;> first | assumption | (simp (contextual := true) (maxDischargeDepth := 40) [h]; done) | ((simp (contextual := true) (maxDischargeDepth := 40) [h]) <;> (repeat' split) <;> simp (contextual := true) (maxDischargeDepth := 40) [h]))

@[simp↓] theorem ext_State_commitDue (s : State) (l : List (Nat × Nat)) (h : Ext r s) :
    Ext r (State.commitDue s l) := by
  unfold State.commitDue
  first
  | (simp (contextual := true) (maxDischargeDepth := 40) [h]; done)
  | ((repeat' split) <;> first | assumption | (simp (contextual := true) (maxDischargeDepth := 40) [h]; done) | ((simp (contextual := true) (maxDischargeDepth := 40) [h]) <;> (repeat' split) <;> simp (contextual := true) (maxDischargeDepth := 40) [h]))

@[simp↓] theorem ext_State_commitPend (s : State) (hh : U32) (l : List (Nat × Nat)) (epoch : Nat) (h : Ext r s) :
    Ext r (State.commitPend s hh l epoch) := by
  unfold State.commitPend
  first
  | (simp (contextual := true) (maxDischargeDepth := 40) [h]; done)
  | ((repeat' split) <;> first | assumption | (simp (contextual := true) (maxDischargeDepth := 40) [h]; done) | ((simp (contextual := true) (maxDischargeDepth := 40) [h]) <;> (repeat' split) <;> simp (contextual := true) (maxDischargeDepth := 40) [h]))

@[simp↓] theorem ext_commitVerdict (hh : Hdr) (items : List (Nat × Nat)) (epoch : Nat) (s : State) :
    (commitVerdict hh items epoch s).Extends := by
  unfold commitVerdict
  repeat' split
  all_goals first | (exact extends_reject _) | (simp (contextual := true) (maxDischargeDepth := 40) ; done) | (intro r t h; simp (contextual := true) (maxDischargeDepth := 40) [h]; done) | (dsimp only; (repeat' split) <;> simp (contextual := true) (maxDischargeDepth := 40))

theorem ext_execCommit (hh : Hdr) (insts : List (Nat × Nat)) (epoch : Nat) (s : State) (h : Ext r s) :
    ExtOut r (execCommit hh insts epoch s) := by
  unfold execCommit
  first
  | (simp (contextual := true) (maxDischargeDepth := 40) [h]; done)
  | (apply extOut_next; (repeat' split) <;> first | assumption | (simp (contextual := true) (maxDischargeDepth := 40) [h]; done) | ((simp (contextual := true) (maxDischargeDepth := 40) [h]) <;> (repeat' split) <;> simp (contextual := true) (maxDischargeDepth := 40) [h]))

@[simp↓] theorem ext_discardVerdict (hh : Hdr) (items : List (Nat × Nat)) (s : State) :
    (discardVerdict hh items s).Extends := by
  unfold discardVerdict
  repeat' split
  all_goals first | (exact extends_reject _) | (simp (contextual := true) (maxDischargeDepth := 40) ; done) | (intro r t h; simp (contextual := true) (maxDischargeDepth := 40) [h]; done) | (dsimp only; (repeat' split) <;> simp (contextual := true) (maxDischargeDepth := 40))

theorem ext_execDiscard (hh : Hdr) (insts : List (Nat × Nat)) (s : State) (h : Ext r s) :
    ExtOut r (execDiscard hh insts s) := by
  unfold execDiscard
  first
  | (simp (contextual := true) (maxDischargeDepth := 40) [h]; done)
  | (apply extOut_next; (repeat' split) <;> first | assumption | (simp (contextual := true) (maxDischargeDepth := 40) [h]; done) | ((simp (contextual := true) (maxDischargeDepth := 40) [h]) <;> (repeat' split) <;> simp (contextual := true) (maxDischargeDepth := 40) [h]))

@[simp↓] theorem ext_State_pairCommitted (s : State) (old : State) (h : Ext r s) :
    Ext r (State.pairCommitted s old) := by
  unfold State.pairCommitted
  first
  | (simp (contextual := true) (maxDischargeDepth := 40) [h]; done)
  | ((repeat' split) <;> first | assumption | (simp (contextual := true) (maxDischargeDepth := 40) [h]; done) | ((simp (contextual := true) (maxDischargeDepth := 40) [h]) <;> (repeat' split) <;> simp (contextual := true) (maxDischargeDepth := 40) [h]))

@[simp↓] theorem ext_State_stnCommitted (s : State) (old : State) (n : Nat) (h : Ext r s) :
    Ext r (State.stnCommitted s old n) := by
  unfold State.stnCommitted
  first
  | (simp (contextual := true) (maxDischargeDepth := 40) [h]; done)
  | ((repeat' split) <;> first | assumption | (simp (contextual := true) (maxDischargeDepth := 40) [h]; done) | ((simp (contextual := true) (maxDischargeDepth := 40) [h]) <;> (repeat' split) <;> simp (contextual := true) (maxDischargeDepth := 40) [h]))

@[simp↓] theorem ext_State_stnsCommitted (s : State) (old : State) (h : Ext r s) :
    Ext r (State.stnsCommitted s old) := by
  unfold State.stnsCommitted
  first
  | (simp (contextual := true) (maxDischargeDepth := 40) [h]; done)
  | ((repeat' split) <;> first | assumption | (simp (contextual := true) (maxDischargeDepth := 40) [h]; done) | ((simp (contextual := true) (maxDischargeDepth := 40) [h]) <;> (repeat' split) <;> simp (contextual := true) (maxDischargeDepth := 40) [h]))

@[simp↓] theorem ext_State_destCommitted (s : State) (old : State) (h : Ext r s) :
    Ext r (State.destCommitted s old) := by
  unfold State.destCommitted
  first
  | (simp (contextual := true) (maxDischargeDepth := 40) [h]; done)
  | ((repeat' split) <;> first | assumption | (simp (contextual := true) (maxDischargeDepth := 40) [h]; done) | ((simp (contextual := true) (maxDischargeDepth := 40) [h]) <;> (repeat' split) <;> simp (contextual := true) (maxDischargeDepth := 40) [h]))

@[simp↓] theorem ext_State_modesCommitted (s : State) (old : State) (h : Ext r s) :
    Ext r (State.modesCommitted s old) := by
  unfold State.modesCommitted
  first
  | (simp (contextual := true) (maxDischargeDepth := 40) [h]; done)
  | ((repeat' split) <;> first | assumption | (simp (contextual := true) (maxDischargeDepth := 40) [h]; done) | ((simp (contextual := true) (maxDischargeDepth := 40) [h]) <;> (repeat' split) <;> simp (contextual := true) (maxDischargeDepth := 40) [h]))

@[simp↓] theorem ext_State_rangesCommitted (s : State) (old : State) (h : Ext r s) :
    Ext r (State.rangesCommitted s old) := by
  unfold State.rangesCommitted
  first
  | (simp (contextual := true) (maxDischargeDepth := 40) [h]; done)
  | ((repeat' split) <;> first | assumption | (simp (contextual := true) (maxDischargeDepth := 40) [h]; done) | ((simp (contextual := true) (maxDischargeDepth := 40) [h]) <;> (repeat' split) <;> simp (contextual := true) (maxDischargeDepth := 40) [h]))

@[simp↓] theorem ext_State_canCommitted (s : State) (old : State) (c : Nat) (h : Ext r s) :
    Ext r (State.canCommitted s old c) := by
  unfold State.canCommitted
  first
  | (simp (contextual := true) (maxDischargeDepth := 40) [h]; done)
  | ((repeat' split) <;> first | assumption | (simp (contextual := true) (maxDischargeDepth := 40) [h]; done) | ((simp (contextual := true) (maxDischargeDepth := 40) [h]) <;> (repeat' split) <;> simp (contextual := true) (maxDischargeDepth := 40) [h]))

@[simp↓] theorem ext_State_mapCommitted (s : State) (old : State) (h : Ext r s) :
    Ext r (State.mapCommitted s old) := by
  unfold State.mapCommitted
  first
  | (simp (contextual := true) (maxDischargeDepth := 40) [h]; done)
  | ((repeat' split) <;> first | assumption | (simp (contextual := true) (maxDischargeDepth := 40) [h]; done) | ((simp (contextual := true) (maxDischargeDepth := 40) [h]) <;> (repeat' split) <;> simp (contextual := true) (maxDischargeDepth := 40) [h]))

@[simp↓] theorem ext_State_laneCommitted (s : State) (old : State) (l : Nat) (h : Ext r s) :
    Ext r (State.laneCommitted s old l) := by
  unfold State.laneCommitted
  first
  | (simp (contextual := true) (maxDischargeDepth := 40) [h]; done)
  | ((repeat' split) <;> first | assumption | (simp (contextual := true) (maxDischargeDepth := 40) [h]; done) | ((simp (contextual := true) (maxDischargeDepth := 40) [h]) <;> (repeat' split) <;> simp (contextual := true) (maxDischargeDepth := 40) [h]))

@[simp↓] theorem ext_State_tasksCommitted (s : State) (old : State) (h : Ext r s) :
    Ext r (State.tasksCommitted s old) := by
  unfold State.tasksCommitted
  first
  | (simp (contextual := true) (maxDischargeDepth := 40) [h]; done)
  | ((repeat' split) <;> first | assumption | (simp (contextual := true) (maxDischargeDepth := 40) [h]; done) | ((simp (contextual := true) (maxDischargeDepth := 40) [h]) <;> (repeat' split) <;> simp (contextual := true) (maxDischargeDepth := 40) [h]))

@[simp↓] theorem ext_State_committed (s : State) (old : State) (g : Nat) (i : Nat) (h : Ext r s) :
    Ext r (State.committed s old g i) := by
  unfold State.committed
  first
  | (simp (contextual := true) (maxDischargeDepth := 40) [h]; done)
  | ((repeat' split) <;> first | assumption | (simp (contextual := true) (maxDischargeDepth := 40) [h]; done) | ((simp (contextual := true) (maxDischargeDepth := 40) [h]) <;> (repeat' split) <;> simp (contextual := true) (maxDischargeDepth := 40) [h]))

@[simp↓] theorem ext_State_applyCommit (s : State) (l : List (Nat × Nat)) (v : Tab PVal) (h : Ext r s) :
    Ext r (State.applyCommit s l v) := by
  unfold State.applyCommit
  first
  | (simp (contextual := true) (maxDischargeDepth := 40) [h]; done)
  | ((repeat' split) <;> first | assumption | (simp (contextual := true) (maxDischargeDepth := 40) [h]; done) | ((simp (contextual := true) (maxDischargeDepth := 40) [h]) <;> (repeat' split) <;> simp (contextual := true) (maxDischargeDepth := 40) [h]))

@[simp↓] theorem ext_State_applyDue (s : State) (h : Ext r s) :
    Ext r (State.applyDue s) := by
  unfold State.applyDue
  first
  | (simp (contextual := true) (maxDischargeDepth := 40) [h]; done)
  | ((repeat' split) <;> first | assumption | (simp (contextual := true) (maxDischargeDepth := 40) [h]; done) | ((simp (contextual := true) (maxDischargeDepth := 40) [h]) <;> (repeat' split) <;> simp (contextual := true) (maxDischargeDepth := 40) [h]))

theorem ext_execCommitApply (s : State) (h : Ext r s) :
    ExtOut r (execCommitApply s) := by
  unfold execCommitApply
  first
  | (simp (contextual := true) (maxDischargeDepth := 40) [h]; done)
  | (apply extOut_next; (repeat' split) <;> first | assumption | (simp (contextual := true) (maxDischargeDepth := 40) [h]; done) | ((simp (contextual := true) (maxDischargeDepth := 40) [h]) <;> (repeat' split) <;> simp (contextual := true) (maxDischargeDepth := 40) [h]))

@[simp↓] theorem ext_State_beforePend (s : State) (p : PendCommit) (h : Ext r s) :
    Ext r (State.beforePend s p) := by
  unfold State.beforePend
  first
  | (simp (contextual := true) (maxDischargeDepth := 40) [h]; done)
  | ((repeat' split) <;> first | assumption | (simp (contextual := true) (maxDischargeDepth := 40) [h]; done) | ((simp (contextual := true) (maxDischargeDepth := 40) [h]) <;> (repeat' split) <;> simp (contextual := true) (maxDischargeDepth := 40) [h]))

@[simp↓] theorem ext_State_unpend (s : State) (hh : U32) (h : Ext r s) :
    Ext r (State.unpend s hh) := by
  unfold State.unpend
  first
  | (simp (contextual := true) (maxDischargeDepth := 40) [h]; done)
  | ((repeat' split) <;> first | assumption | (simp (contextual := true) (maxDischargeDepth := 40) [h]; done) | ((simp (contextual := true) (maxDischargeDepth := 40) [h]) <;> (repeat' split) <;> simp (contextual := true) (maxDischargeDepth := 40) [h]))

@[simp↓] theorem ext_State_pendDue (s : State) (p : PendCommit) (h : Ext r s) :
    Ext r (State.pendDue s p) := by
  unfold State.pendDue
  first
  | (simp (contextual := true) (maxDischargeDepth := 40) [h]; done)
  | ((repeat' split) <;> first | assumption | (simp (contextual := true) (maxDischargeDepth := 40) [h]; done) | ((simp (contextual := true) (maxDischargeDepth := 40) [h]) <;> (repeat' split) <;> simp (contextual := true) (maxDischargeDepth := 40) [h]))

theorem ext_execPendingCommitDue (handle : U32) (s : State) (h : Ext r s) :
    ExtOut r (execPendingCommitDue handle s) := by
  unfold execPendingCommitDue
  first
  | (simp (contextual := true) (maxDischargeDepth := 40) [h]; done)
  | (apply extOut_next; (repeat' split) <;> first | assumption | (simp (contextual := true) (maxDischargeDepth := 40) [h]; done) | ((simp (contextual := true) (maxDischargeDepth := 40) [h]) <;> (repeat' split) <;> simp (contextual := true) (maxDischargeDepth := 40) [h]))

@[simp↓] theorem ext_State_cancelCommit (s : State) (hh : U32) (h : Ext r s) :
    Ext r (State.cancelCommit s hh) := by
  unfold State.cancelCommit
  first
  | (simp (contextual := true) (maxDischargeDepth := 40) [h]; done)
  | ((repeat' split) <;> first | assumption | (simp (contextual := true) (maxDischargeDepth := 40) [h]; done) | ((simp (contextual := true) (maxDischargeDepth := 40) [h]) <;> (repeat' split) <;> simp (contextual := true) (maxDischargeDepth := 40) [h]))

@[simp↓] theorem ext_State_cancelSwap (s : State) (o : SwapOp) (h : Ext r s) :
    Ext r (State.cancelSwap s o) := by
  unfold State.cancelSwap
  first
  | (simp (contextual := true) (maxDischargeDepth := 40) [h]; done)
  | ((repeat' split) <;> first | assumption | (simp (contextual := true) (maxDischargeDepth := 40) [h]; done) | ((simp (contextual := true) (maxDischargeDepth := 40) [h]) <;> (repeat' split) <;> simp (contextual := true) (maxDischargeDepth := 40) [h]))

theorem ext_cancelSolve (s : State) (hh : U32) {c : Nat × (State → State)} (hc : s.cancelSolve hh = some c) {t : State}
    (h : Ext r t) : Ext r (c.2 t) := by
  unfold State.cancelSolve State.cancelStaged at hc
  (repeat' split at hc) <;> first | (cases hc; done) | (cases hc; simp (contextual := true) (maxDischargeDepth := 40) [h])

theorem ext_cancelOf (s : State) (hh : U32) {t : State} (h : Ext r t) : Ext r ((s.cancelOf hh).2 t) := by
  unfold State.cancelOf
  split
  · exact ext_cancelSolve s hh (by assumption) h
  (repeat' split) <;> first | exact h | simp (contextual := true) (maxDischargeDepth := 40) [h]

@[simp↓] theorem ext_cancelVerdict (hh : Hdr) (handle : U32) (s : State) :
    (cancelVerdict hh handle s).Extends := by
  unfold cancelVerdict
  split
  · exact extends_reject _
  split
  · intro r t h; exact ext_cancelOf s handle h
  · intro r t h; exact h

theorem ext_execCancel (hh : Hdr) (handle : U32) (s : State) (h : Ext r s) :
    ExtOut r (execCancel hh handle s) := by
  unfold execCancel
  first
  | (simp (contextual := true) (maxDischargeDepth := 40) [h]; done)
  | (apply extOut_next; (repeat' split) <;> first | assumption | (simp (contextual := true) (maxDischargeDepth := 40) [h]; done) | ((simp (contextual := true) (maxDischargeDepth := 40) [h]) <;> (repeat' split) <;> simp (contextual := true) (maxDischargeDepth := 40) [h]))

@[simp↓] theorem ext_State_tickTime (s : State) (h : Ext r s) :
    Ext r (State.tickTime s) := by
  unfold State.tickTime
  first
  | (simp (contextual := true) (maxDischargeDepth := 40) [h]; done)
  | ((repeat' split) <;> first | assumption | (simp (contextual := true) (maxDischargeDepth := 40) [h]; done) | ((simp (contextual := true) (maxDischargeDepth := 40) [h]) <;> (repeat' split) <;> simp (contextual := true) (maxDischargeDepth := 40) [h]))

@[simp↓] theorem ext_State_tickLive (s : State) (obs : TickIn) (h : Ext r s) :
    Ext r (State.tickLive s obs) := by
  unfold State.tickLive
  first
  | (simp (contextual := true) (maxDischargeDepth := 40) [h]; done)
  | ((repeat' split) <;> first | assumption | (simp (contextual := true) (maxDischargeDepth := 40) [h]; done) | ((simp (contextual := true) (maxDischargeDepth := 40) [h]) <;> (repeat' split) <;> simp (contextual := true) (maxDischargeDepth := 40) [h]))

@[simp↓] theorem ext_State_tickField (s : State) (obs : TickIn) (h : Ext r s) :
    Ext r (State.tickField s obs) := by
  unfold State.tickField
  first
  | (simp (contextual := true) (maxDischargeDepth := 40) [h]; done)
  | ((repeat' split) <;> first | assumption | (simp (contextual := true) (maxDischargeDepth := 40) [h]; done) | ((simp (contextual := true) (maxDischargeDepth := 40) [h]) <;> (repeat' split) <;> simp (contextual := true) (maxDischargeDepth := 40) [h]))

@[simp↓] theorem ext_State_tickOutputs (s : State) (h : Ext r s) :
    Ext r (State.tickOutputs s) := by
  unfold State.tickOutputs
  first
  | (simp (contextual := true) (maxDischargeDepth := 40) [h]; done)
  | ((repeat' split) <;> first | assumption | (simp (contextual := true) (maxDischargeDepth := 40) [h]; done) | ((simp (contextual := true) (maxDischargeDepth := 40) [h]) <;> (repeat' split) <;> simp (contextual := true) (maxDischargeDepth := 40) [h]))

@[simp↓] theorem ext_State_tickTasks (s : State) (h : Ext r s) :
    Ext r (State.tickTasks s) := by
  unfold State.tickTasks
  first
  | (simp (contextual := true) (maxDischargeDepth := 40) [h]; done)
  | ((repeat' split) <;> first | assumption | (simp (contextual := true) (maxDischargeDepth := 40) [h]; done) | ((simp (contextual := true) (maxDischargeDepth := 40) [h]) <;> (repeat' split) <;> simp (contextual := true) (maxDischargeDepth := 40) [h]))

@[simp↓] theorem ext_State_tickWork (s : State) (h : Ext r s) :
    Ext r (State.tickWork s) := by
  unfold State.tickWork
  first
  | (simp (contextual := true) (maxDischargeDepth := 40) [h]; done)
  | ((repeat' split) <;> first | assumption | (simp (contextual := true) (maxDischargeDepth := 40) [h]; done) | ((simp (contextual := true) (maxDischargeDepth := 40) [h]) <;> (repeat' split) <;> simp (contextual := true) (maxDischargeDepth := 40) [h]))

@[simp↓] theorem ext_State_tickSpeed (s : State) (h : Ext r s) :
    Ext r (State.tickSpeed s) := by
  unfold State.tickSpeed
  first
  | (simp (contextual := true) (maxDischargeDepth := 40) [h]; done)
  | ((repeat' split) <;> first | assumption | (simp (contextual := true) (maxDischargeDepth := 40) [h]; done) | ((simp (contextual := true) (maxDischargeDepth := 40) [h]) <;> (repeat' split) <;> simp (contextual := true) (maxDischargeDepth := 40) [h]))

@[simp↓] theorem ext_State_tickPair (s : State) (h : Ext r s) :
    Ext r (State.tickPair s) := by
  unfold State.tickPair
  first
  | (simp (contextual := true) (maxDischargeDepth := 40) [h]; done)
  | ((repeat' split) <;> first | assumption | (simp (contextual := true) (maxDischargeDepth := 40) [h]; done) | ((simp (contextual := true) (maxDischargeDepth := 40) [h]) <;> (repeat' split) <;> simp (contextual := true) (maxDischargeDepth := 40) [h]))

@[simp↓] theorem ext_State_tickReleased (s : State) (obs : TickIn) (h : Ext r s) :
    Ext r (State.tickReleased s obs) := by
  unfold State.tickReleased
  first
  | (simp (contextual := true) (maxDischargeDepth := 40) [h]; done)
  | ((repeat' split) <;> first | assumption | (simp (contextual := true) (maxDischargeDepth := 40) [h]; done) | ((simp (contextual := true) (maxDischargeDepth := 40) [h]) <;> (repeat' split) <;> simp (contextual := true) (maxDischargeDepth := 40) [h]))

theorem ext_execTick (obs : TickIn) (s : State) (h : Ext r s) :
    ExtOut r (execTick obs s) := by
  unfold execTick
  first
  | (simp (contextual := true) (maxDischargeDepth := 40) [h]; done)
  | (apply extOut_next; (repeat' split) <;> first | assumption | (simp (contextual := true) (maxDischargeDepth := 40) [h]; done) | ((simp (contextual := true) (maxDischargeDepth := 40) [h]) <;> (repeat' split) <;> simp (contextual := true) (maxDischargeDepth := 40) [h]))

end Sys2Proof.Laws
end

