-- ==== Sys2Proof/Laws/Commands.lean ====
section
/-! SUPPORT. What any command may do to a trace, what taking, recording and answering a packet leaves as it is, and
the small facts about bindings, handles and resets that statements about commands rest on. -/

set_option linter.unusedSimpArgs false
set_option linter.unusedVariables false

namespace Sys2Proof.Laws
open Sys2Proof Sys2Proof.Machine

/-- What any command may do to a trace. -/
theorem exec_ext (c : Instr) (s : State) {r : Trace} (h : Ext r s) : ExtOut r (exec c s) := by
  cases c
  all_goals (unfold exec; dsimp only)
  case echo => exact ext_execEcho _ _ s h
  case commandUnknown => exact ext_execCommandUnknown _ _ s h
  case paramRead => exact ext_execParamRead _ _ _ s h
  case paramWrite => exact ext_execParamWrite _ _ s h
  case commit => exact ext_execCommit _ _ _ s h
  case discard => exact ext_execDiscard _ _ s h
  case handleQuery => exact ext_execHandleQuery _ _ s h
  case handleClose => exact ext_execHandleClose _ _ s h
  case cancel => exact ext_execCancel _ _ s h
  case snapshot => exact ext_execSnapshot _ _ _ _ s h
  case mirrorOpen => exact ext_execMirrorOpen _ _ _ _ _ _ s h
  case mirrorClose => exact ext_execMirrorClose _ _ s h
  case alarmRead => exact ext_execAlarmRead _ s h
  case alarmAck => exact ext_execAlarmAck _ _ _ s h
  case frameChOpen => exact ext_execFrameChOpen _ _ _ s h
  case frameChClose => exact ext_execFrameChClose _ _ s h
  case timeSet => exact ext_execTimeSet _ _ s h
  case timeTest => exact ext_execTimeTest _ _ s h
  case fieldAck => exact ext_execFieldAck _ _ _ _ _ _ s h
  case canTransmit => exact ext_execCanTransmit _ _ _ _ s h
  case canBufCancel => exact ext_execCanBufCancel _ _ _ s h
  case canHpRead => exact ext_execCanHpRead _ _ s h
  case canRecover => exact ext_execCanRecover _ _ s h
  case bankSwap => exact ext_execBankSwap _ _ _ s h
  case laneAck => exact ext_execLaneAck _ _ s h
  case periodRestore => exact ext_execPeriodRestore _ _ s h
  case progLoad => exact ext_execProgLoad _ s h
  case progExchange => exact ext_execProgExchange _ s h
  case progDiscard => exact ext_execProgDiscard _ s h
  case run => exact ext_execRun _ s h
  case stop => exact ext_execStop _ s h
  case hold => exact ext_execHold _ s h
  case faultAck => exact ext_execFaultAck _ s h
  case modelLoad => exact ext_execModelLoad _ s h
  case modelActivate => exact ext_execModelActivate _ _ s h
  case modelDiscard => exact ext_execModelDiscard _ s h
  case elementService => exact ext_execElementService _ _ _ s h
  case seriesWrite => exact ext_execSeriesWrite _ _ s h
  case seriesCommit => exact ext_execSeriesCommit _ _ s h
  case solve => exact ext_execSolve _ _ _ _ s h
  case flexActivate => exact ext_execFlexActivate _ _ s h
  case flexWithdraw => exact ext_execFlexWithdraw _ _ s h
  case calRead => exact ext_execCalRead _ s h
  case calReset => exact ext_execCalReset _ _ _ s h
  case forgetMember => exact ext_execForgetMember _ _ _ s h
  case keyInstall => exact ext_execKeyInstall _ _ s h
  case keyRemove => exact ext_execKeyRemove _ _ s h
  case keyList => exact ext_execKeyList _ s h
  case auditRead => exact ext_execAuditRead _ _ _ s h
  case tamperAck => exact ext_execTamperAck _ _ s h
  case makerCommand => exact ext_execMakerCommand _ _ s h
  case pairSwitchover => exact ext_execPairSwitchover _ s h
  case pairResync => exact ext_execPairResync _ s h
  case calWriteEnable => exact ext_execCalWriteEnable _ s h
  case calDst => exact ext_execCalDst _ _ s h
  case reset => exact ext_execReset _ _ s h
  case blockReset => exact ext_execBlockReset _ _ _ s h
  case fwLoad => exact ext_execFwLoad _ s h
  case fwActivate => exact ext_execFwActivate _ s h
  case dripEventsRead => exact ext_execDripEventsRead _ s h
  case setupRequest => exact ext_execSetupRequest _ _ s h
  case setupProof => exact ext_execSetupProof _ _ _ s h
  case setupEnd => exact ext_execSetupEnd _ s h
  case sqTail => exact ext_execSqTail _ _ s h
  case cqHead => exact ext_execCqHead _ _ s h
  case queueEnable => exact ext_execQueueEnable _ s h
  case queueDisable => exact ext_execQueueDisable _ s h
  case txTail => exact ext_execTxTail _ _ _ s h
  case rxTail => exact ext_execRxTail _ _ s h
  case calRegRead => exact ext_execCalRegRead _ s h
  case calRegWrite => exact ext_execCalRegWrite _ _ s h
  case calCommit => exact ext_execCalCommit s h
  case calDiscard => exact ext_execCalDiscard s h
  case registerWrite => exact ext_execRegisterWrite _ _ s h
  case calFreezeTimeout => exact ext_execCalFreezeTimeout s h
  case calWindowExpire => exact ext_execCalWindowExpire s h
  case queueLostPost => exact ext_execQueueLostPost _ s h
  case tick => exact ext_execTick _ s h
  case commitApply => exact ext_execCommitApply s h
  case pendingCommitDue => exact ext_execPendingCommitDue _ s h
  case modeChangeApply => exact ext_execModeChangeApply s h
  case stopValuesApply => exact ext_execStopValuesApply _ s h
  case laneBankSwapDue => exact ext_execLaneBankSwapDue _ s h
  case laneSampleStart => exact ext_execLaneSampleStart _ s h
  case laneSampleComplete => exact ext_execLaneSampleComplete _ s h
  case laneOverrun => exact ext_execLaneOverrun _ s h
  case taskCycleStart => exact ext_execTaskCycleStart _ s h
  case inputClose => exact ext_execInputClose _ s h
  case taskPublication => exact ext_execTaskPublication _ _ s h
  case taskApply => exact ext_execTaskApply _ s h
  case cycleOverrun => exact ext_execCycleOverrun _ s h
  case holdTimeout => exact ext_execHoldTimeout s h
  case retainCopy => exact ext_execRetainCopy s h
  case progAutoRun => exact ext_execProgAutoRun s h
  case progLoadDone => exact ext_execProgLoadDone _ _ s h
  case progExchangeApply => exact ext_execProgExchangeApply s h
  case modelLoadDone => exact ext_execModelLoadDone _ s h
  case cadencePoint => exact ext_execCadencePoint s h
  case solveStart => exact ext_execSolveStart s h
  case solvePublish => exact ext_execSolvePublish _ s h
  case solveOverrun => exact ext_execSolveOverrun _ _ s h
  case solveStopped => exact ext_execSolveStopped _ _ s h
  case planBoundary => exact ext_execPlanBoundary s h
  case planStaleTimeout => exact ext_execPlanStaleTimeout s h
  case commitmentEnd => exact ext_execCommitmentEnd _ s h
  case percUpdateStart => exact ext_execPercUpdateStart s h
  case percUpdatePublish => exact ext_execPercUpdatePublish _ s h
  case mappingUpdate => exact ext_execMappingUpdate s h
  case calWindowEnd => exact ext_execCalWindowEnd _ s h
  case afeFrameStart => exact ext_execAfeFrameStart s h
  case afeRefSlotEnd => exact ext_execAfeRefSlotEnd _ s h
  case afeCalAged => exact ext_execAfeCalAged s h
  case roundOpening => exact ext_execRoundOpening _ s h
  case roundClose => exact ext_execRoundClose _ s h
  case proposeRx => exact ext_execProposeRx _ _ s h
  case advertiseRx => exact ext_execAdvertiseRx _ _ s h
  case memberExpire => exact ext_execMemberExpire _ _ s h
  case qualothForward => exact ext_execQualothForward _ s h
  case servedTick => exact ext_execServedTick _ s h
  case stnOutputDue => exact ext_execStnOutputDue _ s h
  case stnInputRx => exact ext_execStnInputRx _ s h
  case stnHelloRx => exact ext_execStnHelloRx _ s h
  case stnConfigAckRx => exact ext_execStnConfigAckRx _ s h
  case stnLeaveRx => exact ext_execStnLeaveRx _ s h
  case stnTagFailures => exact ext_execStnTagFailures _ s h
  case portLinkChange => exact ext_execPortLinkChange _ _ s h
  case fieldLinkLoss => exact ext_execFieldLinkLoss s h
  case fieldLinkRestore => exact ext_execFieldLinkRestore s h
  case outputOverload => exact ext_execOutputOverload _ s h
  case outputThermal => exact ext_execOutputThermal _ s h
  case groupLimitShed => exact ext_execGroupLimitShed _ _ s h
  case outputDiagTest => exact ext_execOutputDiagTest _ _ _ _ _ s h
  case sharedMaskEnd => exact ext_execSharedMaskEnd s h
  case supplyWarnCross => exact ext_execSupplyWarnCross _ _ _ s h
  case supplyCutoff => exact ext_execSupplyCutoff _ _ s h
  case supplyCutoffUp => exact ext_execSupplyCutoffUp _ _ s h
  case supplyHoldoffEnd => exact ext_execSupplyHoldoffEnd _ s h
  case inputValidityLoss => exact ext_execInputValidityLoss _ _ s h
  case inputValidityRestore => exact ext_execInputValidityRestore _ _ s h
  case shuntOpen => exact ext_execShuntOpen _ _ s h
  case aoutOpenLoad => exact ext_execAoutOpenLoad _ _ s h
  case aoutOverload => exact ext_execAoutOverload _ s h
  case canFrameRx => exact ext_execCanFrameRx _ _ _ s h
  case canCyclicTrigger => exact ext_execCanCyclicTrigger _ _ s h
  case canTxEnd => exact ext_execCanTxEnd _ _ _ _ _ _ s h
  case canTxTimeout => exact ext_execCanTxTimeout _ _ s h
  case canBusoffHoldEnd => exact ext_execCanBusoffHoldEnd _ s h
  case canRecovered => exact ext_execCanRecovered _ s h
  case canBusIntegration => exact ext_execCanBusIntegration _ s h
  case ringFrameRx => exact ext_execRingFrameRx _ s h
  case hsrSupervisionTx => exact ext_execHsrSupervisionTx s h
  case hostFrameRx => exact ext_execHostFrameRx _ _ s h
  case ptpMessageRx => exact ext_execPtpMessageRx _ s h
  case ptpMessageTx => exact ext_execPtpMessageTx _ _ s h
  case ppsInEdge => exact ext_execPpsInEdge _ _ s h
  case ppsOutPulse => exact ext_execPpsOutPulse s h
  case tb0Lock => exact ext_execTb0Lock s h
  case tb0SyncLoss => exact ext_execTb0SyncLoss s h
  case startWaitExpire => exact ext_execStartWaitExpire s h
  case mergeStart => exact ext_execMergeStart s h
  case mergeComplete => exact ext_execMergeComplete s h
  case leapSecond => exact ext_execLeapSecond s h
  case mirrorBlockWrite => exact ext_execMirrorBlockWrite _ s h
  case snapshotDone => exact ext_execSnapshotDone _ s h
  case keyInstallDone => exact ext_execKeyInstallDone _ _ s h
  case keySwitchEpoch => exact ext_execKeySwitchEpoch _ s h
  case keyReceiveWindowEnd => exact ext_execKeyReceiveWindowEnd _ s h
  case keyScrub => exact ext_execKeyScrub _ _ s h
  case tamperDetect => exact ext_execTamperDetect _ s h
  case mgmtIdleTimeout => exact ext_execMgmtIdleTimeout _ s h
  case bindLockoutEnd => exact ext_execBindLockoutEnd _ _ s h
  case heartbeatTx => exact ext_execHeartbeatTx s h
  case heartbeatRx => exact ext_execHeartbeatRx _ _ s h
  case partnerFailed => exact ext_execPartnerFailed s h
  case takeoverResume => exact ext_execTakeoverResume s h
  case demotion => exact ext_execDemotion s h
  case demotedTakeover => exact ext_execDemotedTakeover s h
  case checkpointEpoch => exact ext_execCheckpointEpoch s h
  case ckptDeltaRx => exact ext_execCkptDeltaRx _ _ _ s h
  case ckptEndRx => exact ext_execCkptEndRx _ _ _ s h
  case syncRequestRx => exact ext_execSyncRequestRx _ s h
  case finalRx => exact ext_execFinalRx _ _ _ s h
  case ckptFlush => exact ext_execCkptFlush s h
  case ckptStale => exact ext_execCkptStale s h
  case pairStartWaitEnd => exact ext_execPairStartWaitEnd s h
  case pairFloorSwitch => exact ext_execPairFloorSwitch s h
  case marginBreach => exact ext_execMarginBreach _ _ s h
  case govSettleStep => exact ext_execGovSettleStep _ s h
  case vbulkLow => exact ext_execVbulkLow _ s h
  case sagHoldEnd => exact ext_execSagHoldEnd _ s h
  case vbulkFail => exact ext_execVbulkFail _ s h
  case vbulkGood => exact ext_execVbulkGood _ s h
  case vaonPowerOn => exact ext_execVaonPowerOn _ s h
  case vaonLow => exact ext_execVaonLow _ _ s h
  case vfldLowEvent => exact ext_execVfldLowEvent _ _ s h
  case wakeEvent => exact ext_execWakeEvent _ _ s h
  case resetNAssert => exact ext_execResetNAssert s h
  case resetNRelease => exact ext_execResetNRelease s h
  case releaseStep => exact ext_execReleaseStep _ s h
  case releaseHalt => exact ext_execReleaseHalt s h
  case fwTrialTimeout => exact ext_execFwTrialTimeout s h
  case pciePerstAssert => exact ext_execPciePerstAssert s h
  case vioLoss => exact ext_execVioLoss _ s h
  case vioRestore => exact ext_execVioRestore _ s h
  case overTempRaise => exact ext_execOverTempRaise _ _ s h
  case overTempClear => exact ext_execOverTempClear _ s h
  case calSecondCarry => exact ext_execCalSecondCarry s h
  case calSyncCheck => exact ext_execCalSyncCheck s h
  case cd0Loss => exact ext_execCd0Loss s h
  case hbInEdge => exact ext_execHbInEdge s h
  case filterCounterStep => exact ext_execFilterCounterStep _ _ _ s h
  case pwmPeriodBoundary => exact ext_execPwmPeriodBoundary _ s h
  case afeDataSlotEnd => exact ext_execAfeDataSlotEnd _ _ s h
  case canCommitPoint => exact ext_execCanCommitPoint _ _ s h
  case canReceiveError => exact ext_execCanReceiveError _ _ s h
  case dripStateLoss => exact ext_execDripStateLoss s h
  case uncorrectableMemoryError => exact ext_execUncorrectableMemoryError _ s h
  case blockResetDone => exact ext_execBlockResetDone _ s h
  case fwLoadDone => exact ext_execFwLoadDone _ _ s h
  case pciePerstRelease => exact ext_execPciePerstRelease s h
  case announceReceiptTimeout => exact ext_execAnnounceReceiptTimeout s h

/-- A rejection posts its entry to a queue with room, whatever the audit detail. -/
theorem reject_posts_entry' (s : State) (c : CmdInfo) (h : Hdr) (m st : Nat) (n : Nat) (hn : h.src = .queue n)
    (hf : (s.queue n).cqFull = false) (ht : s.takeable h = true) (d : List Byte × Bool) :
    OutMsg.entry (.queue n)
            { tag := h.tag, status := st, kind := 1, queue := n, phase := (s.queue n).phase,
              sqHead := ((s.queue n).sqHead + 1) % (s.queue n).sqLen, epoch := s.epoch } [] ∈
      (((s.take h).auditCmd c h m d (reject st)).reply h (reject st)).out := by
  have hen : (s.queue n).enabled = true := by
    simp only [State.takeable, hn, Bool.and_eq_true] at ht
    exact ht.2.1.2
  have q1 : (s.take h).queue n = { s.queue n with sqHead := ((s.queue n).sqHead + 1) % (s.queue n).sqLen } := by
    have hq : s.closeEdge.queue n = s.queue n := by simp [State.queue]
    simp only [State.take, State.unqueue, hn, hq]
    rw [queue_setQueue]; simp
  have q2 : ((s.take h).auditCmd c h m d (reject st)).queue n = (s.take h).queue n := by
    simp [State.queue]
  have he : (s.take h).epoch = s.epoch := by simp
  have hfull : ((s.take h).auditCmd c h m d (reject st)).queue n = { s.queue n with sqHead := ((s.queue n).sqHead + 1) % (s.queue n).sqLen } := q2.trans q1
  generalize hu : (s.take h).auditCmd c h m d (reject st) = u at hfull
  have hep : u.epoch = s.epoch := by rw [← hu]; simp
  have hcq : (u.queue n).cqFull = false := by rw [hfull]; exact hf
  unfold State.reply
  have ho : h.onMgmt = false := by simp [Hdr.onMgmt, hn]
  simp only [ho, reject, List.take_nil, List.isEmpty_nil, if_true, hn, State.post, State.postQueue, hcq]
  simp only [hfull, hen, State.sqHeadOf, Src.code, hep, State.sendMsix, State.emit]
  simp
  split <;> simp [State.setQueue]

/-- A rejection posts its entry to a queue with room (R411). -/
theorem reject_posts_entry (s : State) (c : CmdInfo) (h : Hdr) (m st : Nat) (n : Nat) (hn : h.src = .queue n)
    (hf : (s.queue n).cqFull = false) (ht : s.takeable h = true) :
    OutMsg.entry (.queue n)
            { tag := h.tag, status := st, kind := 1, queue := n, phase := (s.queue n).phase,
              sqHead := ((s.queue n).sqHead + 1) % (s.queue n).sqLen, epoch := s.epoch } [] ∈
      (s.answered c h m (reject st)).out := reject_posts_entry' s c h m st n hn hf ht _

/-- A record appended keeps the log sound (R473, R474). -/
theorem sound_push (a : AuditSt) (x : AuditRec) (h : a.Sound) : (a.push x).Sound := by
  have hb : ∀ (y : AuditRec) (z : List Byte), auditBytes { y with hash := z } = auditBytes y := fun _ _ => rfl
  have key : ∀ k r, tget (a.push x).recs k = some r →
      (k = a.next % 65536 ∧ r.seq = a.next ∧ r.hash = (a.push x).prevHash ∧ r.hash = Config.sha384 (a.prevHash ++ auditBytes r)) ∨
      (k ≠ a.next % 65536 ∧ tget a.recs k = some r ∧ r.seq < a.next ∧ a.next < r.seq + 65536 ∧ k = r.seq % 65536) := by
    intro k r hk
    simp only [AuditSt.push, tget_tset] at hk
    split at hk
    · rename_i e
      cases hk
      exact Or.inl ⟨e, rfl, rfl, rfl⟩
    · rename_i e
      have := h.listed k r hk
      refine Or.inr ⟨e, hk, this.1, ?_, this.2.2⟩
      have : a.next ≠ r.seq + 65536 := by
        intro e2; apply e; rw [this.2.2, e2]; omega
      omega
  refine ⟨?_, ?_, ?_, ?_, ?_, ?_⟩
  · intro n hn hn2
    simp only [AuditSt.push] at hn hn2 ⊢
    rw [tget_tset]
    by_cases e : n = a.next
    · subst e; simp
    · obtain ⟨r, hr, hs⟩ := h.kept n (by omega) (by omega)
      refine ⟨r, ?_, hs⟩
      rw [if_neg]; · exact hr
      omega
  · intro k r hk
    have hnx : (a.push x).next = a.next + 1 := rfl
    rw [hnx]
    rcases key k r hk with ⟨e, e2, _⟩ | ⟨e, hr, h1, h2, h3⟩
    · omega
    · omega
  · intro k r hk hs
    have hnx : (a.push x).next = a.next + 1 := rfl
    rw [hnx] at hs
    rcases key k r hk with ⟨e, e2, e3, _⟩ | ⟨e, hr, h1, h2, h3⟩
    · exact e3
    · omega
  · intro k r j q hk hj hs
    rcases key k r hk with ⟨e, e2, _, e4⟩ | ⟨e, hr, h1, h2, h3⟩ <;>
      rcases key j q hj with ⟨f, f2, _, f4⟩ | ⟨f, gr, g1, g2, g3⟩
    · omega
    · rw [e4, h.newest j q gr (by omega)]
    · omega
    · exact h.chained k r j q hr gr hs
  · intro k r hk ho
    have hnx : (a.push x).next = a.next + 1 := rfl
    rw [hnx] at ho
    rcases key k r hk with ⟨e, e2, _, e4⟩ | ⟨e, hr, h1, h2, h3⟩
    · have z : a.next = 0 := by omega
      rw [e4]
      have f := h.first z
      have : tget a.recs (a.next % 65536) = none := by
        cases hq : tget a.recs (a.next % 65536) with
        | none => rfl
        | some y => exact absurd (h.listed _ _ hq).1 (by rw [z]; exact Nat.not_lt_zero _)
      simp only [AuditSt.push, this, f.1, f.2]
    · have ho : r.seq = 0 ∨ (r.seq ≠ 0 ∧ a.next + 1 = r.seq + 65536) := by omega
      rcases ho with ho | ⟨ho0, ho⟩
      · have : tget a.recs (a.next % 65536) = none := by
          cases hq : tget a.recs (a.next % 65536) with
          | none => rfl
          | some y =>
            have h4 := h.listed _ _ hq
            have h5 := h.listed _ _ hr
            exfalso; omega
        rw [h.oldest k r hr (Or.inl ho)]
        simp only [AuditSt.push, this]
      · obtain ⟨y, hy, hs⟩ := h.kept (a.next - 65536) (by omega) (by omega)
        have e1 : (a.next - 65536) % 65536 = a.next % 65536 := by omega
        rw [e1] at hy
        have e3 : r.seq = y.seq + 1 := by omega
        rw [h.chained k r _ y hr hy e3]
        simp only [AuditSt.push, hy]
  · intro hz
    simp only [AuditSt.push] at hz
    omega

/-- Reading a mapped table. -/
theorem tget_tmap {α β : Type} (t : Tab α) (f : Nat → α → β) (k : Nat) : tget (tmap t f) k = (tget t k).map (f k) := by
  induction t with
  | nil => rfl
  | cons x t ih =>
    obtain ⟨j, v⟩ := x
    simp only [tmap, List.map_cons, tget] at ih ⊢
    split
    · rename_i e; subst e; rfl
    · exact ih

/-- Maker bindings that end leave an unbound queue as it is. -/
theorem dropMakers_queue (u : State) (n : Nat) (h : (u.queue n).bind = none) : u.dropMakers.queue n = u.queue n := by
  unfold State.dropMakers
  split
  · rfl
  · simp only [State.queue, tgetD] at h ⊢
    rw [tget_tmap]
    cases hq : tget u.host.queues n with
    | none => rfl
    | some q => simp [hq] at h ⊢; simp [h]

/-- Ending maker bindings changes queues and sessions only. -/
theorem dropMakers_shape (u : State) : ∃ qs ss, u.dropMakers = { u with host.queues := qs, host.sessions := ss } := by
  unfold State.dropMakers
  split
  · exact ⟨u.host.queues, u.host.sessions, rfl⟩
  · exact ⟨_, _, rfl⟩

/-- What sending one transmit descriptor writes back. -/
theorem txOne_spec (s : State) (ch : Nat) (d : TxDesc) :
    ∃ ts, OutMsg.desc ch true (s.fch ch).txHead (descBytes d.addr d.len d.port (d.flags ||| 2#8).toNat d.tag.toNat ts
        (s.txStatus (s.fch ch) d)) ∈ (s.txOne ch d).out ∧
      (s.txOne ch d).fch ch = { s.fch ch with txHead := ((s.fch ch).txHead + 1) % Config.fcEntries (s.fch ch).fcCfg true } := by
  have hm : ∀ (t : State) (v k : Nat), (t.sendMsix v).fch k = t.fch k := by
    intro t v k; unfold State.sendMsix; split <;> rfl
  have hs : ∀ (t : State) (c : FrameCh) (k : Nat), (t.setFch k c).fch k = c := by
    intro t c k; simp [State.setFch, State.fch]
  have ho : ∀ (t : State) (m : OutMsg) (c : FrameCh) (v : Nat), m ∈ (((t.emit m).setFch ch c).sendMsix v).out := by
    intro t m c v
    exact (sendMsix_out _ _).subset (by simp [State.emit, State.setFch])
  unfold State.txOne
  dsimp only
  refine ⟨_, ho _ _ _ _, ?_⟩
  rw [hm, hs]

/-- Opening a handle changes the handle table and the free list only. -/
theorem openHandle_shape (u : State) (src cq : Src) (tag : U32) (op : Nat) :
    ∃ hs fr, u.openHandle src cq tag op = { u with host.handles := hs, host.freeList := fr } := by
  unfold State.openHandle; split
  · exact ⟨u.host.handles, u.host.freeList, rfl⟩
  · exact ⟨_, _, rfl⟩

theorem dropMakers_bindOf (u : State) (y : Src) (h : ∀ b, u.bindOf y = some b → b.role = .maker → u.installerHeld = true) :
    u.dropMakers.bindOf y = u.bindOf y := by
  unfold State.dropMakers
  split
  · rfl
  · rename_i hi
    cases y with
    | none => rfl
    | queue n =>
      simp only [State.bindOf, State.queue, tgetD] at h ⊢
      rw [tget_tmap]
      cases hq : tget u.host.queues n with
      | none => rfl
      | some q =>
        simp only [hq, Option.map_some, Option.getD_some] at h ⊢
        cases hb : q.bind with
        | none => exact hb
        | some b =>
          dsimp only
          by_cases hm : b.role = .maker
          · exact absurd (h b hb hm) hi
          · rw [if_neg hm]; exact hb
    | session n =>
      simp only [State.bindOf, State.sess, tgetD] at h ⊢
      rw [tget_tmap]
      cases hq : tget u.host.sessions n with
      | none => rfl
      | some q =>
        simp only [hq, Option.map_some, Option.getD_some] at h ⊢
        cases hb : q.bind with
        | none => exact hb
        | some b =>
          dsimp only
          by_cases hm : b.role = .maker
          · exact absurd (h b hb hm) hi
          · rw [if_neg hm]; exact hb

theorem dropMakers_bindOf_none (u : State) (y : Src) (h : u.bindOf y = none) : u.dropMakers.bindOf y = none := by
  rw [dropMakers_bindOf u y (fun b hb => by rw [h] at hb; cases hb)]; exact h

theorem endBinding_bindOf_self (u : State) (y : Src) : (u.endBinding y).bindOf y = none := by
  cases y with
  | none => rfl
  | queue n =>
    show (u.unbindQueue n).bindOf _ = none
    unfold State.unbindQueue
    exact dropMakers_bindOf_none _ _ (by simp [State.bindOf, State.queue, State.setQueue])
  | session n =>
    show (u.closeSession n).bindOf _ = none
    unfold State.closeSession
    exact dropMakers_bindOf_none _ _ (by simp [State.bindOf, State.sess, State.setSess, State.dropStaging, State.closeHandlesOf])

theorem endBinding_bindOf_other (u : State) (x y : Src) (h : u.bindOf y = none) : (u.endBinding x).bindOf y = none := by
  cases x with
  | none => exact h
  | queue n =>
    show (u.unbindQueue n).bindOf _ = none
    unfold State.unbindQueue
    refine dropMakers_bindOf_none _ _ ?_
    cases y with
    | none => rfl
    | queue m =>
      simp only [State.bindOf, queue_setQueue] at h ⊢
      split
      · rfl
      · exact h
    | session m => exact h
  | session n =>
    show (u.closeSession n).bindOf _ = none
    unfold State.closeSession
    refine dropMakers_bindOf_none _ _ ?_
    have e : ∀ (w : State) a b, ((w.dropStaging a).closeHandlesOf b).bindOf y = w.bindOf y := by
      intro w a b; cases y <;> rfl
    rw [e]
    cases y with
    | none => rfl
    | queue m => exact h
    | session m =>
      simp only [State.bindOf, sess_setSess] at h ⊢
      split
      · rfl
      · exact h

theorem endBindings_bindOf_none (u : State) (y : Src) (hy : y ∈ allSrcs) : (u.endBindings (fun _ => true)).bindOf y = none := by
  unfold State.endBindings
  have key : ∀ (l : List Src) (w : State), (w.bindOf y = none ∨ y ∈ l) →
      (l.foldl (fun a src => match a.bindOf src with
        | some b => if (fun _ => true) b then a.endBinding src else a
        | none => a) w).bindOf y = none := by
    intro l
    induction l with
    | nil => intro w h; simpa using h
    | cons x l ih =>
      intro w h
      rw [List.foldl_cons]
      apply ih
      cases hb : w.bindOf x with
      | none =>
        dsimp only
        rcases h with h | h
        · exact Or.inl h
        · rcases List.mem_cons.1 h with h | h
          · subst h; exact Or.inl hb
          · exact Or.inr h
      | some b =>
        dsimp only
        rw [if_pos rfl]
        rcases h with h | h
        · exact Or.inl (endBinding_bindOf_other _ _ _ h)
        · rcases List.mem_cons.1 h with h | h
          · subst h; exact Or.inl (endBinding_bindOf_self _ _)
          · exact Or.inr h
  exact key _ _ (Or.inr hy)

/-- An admitted command: its effect on the state that has been recorded and answered. -/
theorem command_act (s : State) (c : CmdInfo) (h : Hdr) (m : Nat) (v : State → Verdict) (x : Verdict)
    (ha : s.admitted c h = true) (hv : v (s.take h) = x) : ∃ u, Silent s u ∧ s.command c h m v = x.act u ∧ u = s.answered c h m x := by
  refine ⟨s.answered c h m x, silent_answered s c h m x, ?_, rfl⟩
  rw [command_admitted _ _ _ _ _ ha, hv]

/-- An admitted long command: its effect with the new handle open. -/
theorem command_long (s : State) (c : CmdInfo) (h : Hdr) (m : Nat) (v : State → Verdict) (op : Nat) (act : U32 → State → State)
    (n : U32) (ha : s.admitted c h = true) (hn : s.nextHandle = some n) (hv : v (s.take h) = (s.take h).long h op act) :
    ∃ u hs fr, Silent s u ∧ s.command c h m v = act n { u with host.handles := hs, host.freeList := fr } := by
  rw [long_some _ _ _ _ n (by simpa using hn)] at hv
  obtain ⟨u, hs, e, _⟩ := command_act s c h m v _ ha hv
  obtain ⟨hh, fr, e7⟩ := openHandle_shape u h.src h.src h.tag op
  refine ⟨u, hh, fr, hs, ?_⟩
  rw [e]
  dsimp only
  rw [e7]

theorem silent_with_prog {s u : State} (h : Silent s u) (p : ProgSt) : Silent { s with prog := p } { u with prog := p } :=
  silent_map h (fun t => { t with prog := p }) (fun _ _ _ _ _ _ _ _ _ => rfl)

theorem silent_handles_with_prog {s u : State} (h : Silent s u) (p : ProgSt) (hh : Tab HandleEnt) (fr : List Nat) (a : Nat) :
    Silent { s with prog := p, host.handles := hh, host.freeList := fr, host.accSeq := a } { u with prog := p, host.handles := hh, host.freeList := fr, host.accSeq := a } :=
  silent_map h (fun t => { t with prog := p, host.handles := hh, host.freeList := fr, host.accSeq := a }) (fun _ _ _ _ _ _ _ _ _ => rfl)

theorem silent_with_lane {s u : State} (h : Silent s u) (p : LaneSt) : Silent { s with lane := p } { u with lane := p } :=
  silent_map h (fun t => { t with lane := p }) (fun _ _ _ _ _ _ _ _ _ => rfl)

theorem silent_handles_with_lane {s u : State} (h : Silent s u) (p : LaneSt) (hh : Tab HandleEnt) (fr : List Nat) (a : Nat) :
    Silent { s with lane := p, host.handles := hh, host.freeList := fr, host.accSeq := a } { u with lane := p, host.handles := hh, host.freeList := fr, host.accSeq := a } :=
  silent_map h (fun t => { t with lane := p, host.handles := hh, host.freeList := fr, host.accSeq := a }) (fun _ _ _ _ _ _ _ _ _ => rfl)

theorem silent_with_model {s u : State} (h : Silent s u) (p : ModelSt) : Silent { s with model := p } { u with model := p } :=
  silent_map h (fun t => { t with model := p }) (fun _ _ _ _ _ _ _ _ _ => rfl)

theorem silent_handles_with_model {s u : State} (h : Silent s u) (p : ModelSt) (hh : Tab HandleEnt) (fr : List Nat) (a : Nat) :
    Silent { s with model := p, host.handles := hh, host.freeList := fr, host.accSeq := a } { u with model := p, host.handles := hh, host.freeList := fr, host.accSeq := a } :=
  silent_map h (fun t => { t with model := p, host.handles := hh, host.freeList := fr, host.accSeq := a }) (fun _ _ _ _ _ _ _ _ _ => rfl)

theorem silent_with_slv {s u : State} (h : Silent s u) (p : SolveSt) : Silent { s with slv := p } { u with slv := p } :=
  silent_map h (fun t => { t with slv := p }) (fun _ _ _ _ _ _ _ _ _ => rfl)

theorem silent_handles_with_slv {s u : State} (h : Silent s u) (p : SolveSt) (hh : Tab HandleEnt) (fr : List Nat) (a : Nat) :
    Silent { s with slv := p, host.handles := hh, host.freeList := fr, host.accSeq := a } { u with slv := p, host.handles := hh, host.freeList := fr, host.accSeq := a } :=
  silent_map h (fun t => { t with slv := p, host.handles := hh, host.freeList := fr, host.accSeq := a }) (fun _ _ _ _ _ _ _ _ _ => rfl)

theorem silent_with_perc {s u : State} (h : Silent s u) (p : PercSt) : Silent { s with perc := p } { u with perc := p } :=
  silent_map h (fun t => { t with perc := p }) (fun _ _ _ _ _ _ _ _ _ => rfl)

theorem silent_handles_with_perc {s u : State} (h : Silent s u) (p : PercSt) (hh : Tab HandleEnt) (fr : List Nat) (a : Nat) :
    Silent { s with perc := p, host.handles := hh, host.freeList := fr, host.accSeq := a } { u with perc := p, host.handles := hh, host.freeList := fr, host.accSeq := a } :=
  silent_map h (fun t => { t with perc := p, host.handles := hh, host.freeList := fr, host.accSeq := a }) (fun _ _ _ _ _ _ _ _ _ => rfl)

theorem silent_with_afe {s u : State} (h : Silent s u) (p : AfeSt) : Silent { s with afe := p } { u with afe := p } :=
  silent_map h (fun t => { t with afe := p }) (fun _ _ _ _ _ _ _ _ _ => rfl)

theorem silent_handles_with_afe {s u : State} (h : Silent s u) (p : AfeSt) (hh : Tab HandleEnt) (fr : List Nat) (a : Nat) :
    Silent { s with afe := p, host.handles := hh, host.freeList := fr, host.accSeq := a } { u with afe := p, host.handles := hh, host.freeList := fr, host.accSeq := a } :=
  silent_map h (fun t => { t with afe := p, host.handles := hh, host.freeList := fr, host.accSeq := a }) (fun _ _ _ _ _ _ _ _ _ => rfl)

theorem silent_with_fed {s u : State} (h : Silent s u) (p : FedSt) : Silent { s with fed := p } { u with fed := p } :=
  silent_map h (fun t => { t with fed := p }) (fun _ _ _ _ _ _ _ _ _ => rfl)

theorem silent_handles_with_fed {s u : State} (h : Silent s u) (p : FedSt) (hh : Tab HandleEnt) (fr : List Nat) (a : Nat) :
    Silent { s with fed := p, host.handles := hh, host.freeList := fr, host.accSeq := a } { u with fed := p, host.handles := hh, host.freeList := fr, host.accSeq := a } :=
  silent_map h (fun t => { t with fed := p, host.handles := hh, host.freeList := fr, host.accSeq := a }) (fun _ _ _ _ _ _ _ _ _ => rfl)

theorem silent_with_stn {s u : State} (h : Silent s u) (p : StnSt) : Silent { s with stn := p } { u with stn := p } :=
  silent_map h (fun t => { t with stn := p }) (fun _ _ _ _ _ _ _ _ _ => rfl)

theorem silent_handles_with_stn {s u : State} (h : Silent s u) (p : StnSt) (hh : Tab HandleEnt) (fr : List Nat) (a : Nat) :
    Silent { s with stn := p, host.handles := hh, host.freeList := fr, host.accSeq := a } { u with stn := p, host.handles := hh, host.freeList := fr, host.accSeq := a } :=
  silent_map h (fun t => { t with stn := p, host.handles := hh, host.freeList := fr, host.accSeq := a }) (fun _ _ _ _ _ _ _ _ _ => rfl)

theorem silent_with_pair {s u : State} (h : Silent s u) (p : PairSt) : Silent { s with pair := p } { u with pair := p } :=
  silent_map h (fun t => { t with pair := p }) (fun _ _ _ _ _ _ _ _ _ => rfl)

theorem silent_handles_with_pair {s u : State} (h : Silent s u) (p : PairSt) (hh : Tab HandleEnt) (fr : List Nat) (a : Nat) :
    Silent { s with pair := p, host.handles := hh, host.freeList := fr, host.accSeq := a } { u with pair := p, host.handles := hh, host.freeList := fr, host.accSeq := a } :=
  silent_map h (fun t => { t with pair := p, host.handles := hh, host.freeList := fr, host.accSeq := a }) (fun _ _ _ _ _ _ _ _ _ => rfl)

theorem silent_with_pwr {s u : State} (h : Silent s u) (p : PowerSt) : Silent { s with pwr := p } { u with pwr := p } :=
  silent_map h (fun t => { t with pwr := p }) (fun _ _ _ _ _ _ _ _ _ => rfl)

theorem silent_handles_with_pwr {s u : State} (h : Silent s u) (p : PowerSt) (hh : Tab HandleEnt) (fr : List Nat) (a : Nat) :
    Silent { s with pwr := p, host.handles := hh, host.freeList := fr, host.accSeq := a } { u with pwr := p, host.handles := hh, host.freeList := fr, host.accSeq := a } :=
  silent_map h (fun t => { t with pwr := p, host.handles := hh, host.freeList := fr, host.accSeq := a }) (fun _ _ _ _ _ _ _ _ _ => rfl)

theorem silent_with_rst {s u : State} (h : Silent s u) (p : RstSt) : Silent { s with rst := p } { u with rst := p } :=
  silent_map h (fun t => { t with rst := p }) (fun _ _ _ _ _ _ _ _ _ => rfl)

theorem silent_handles_with_rst {s u : State} (h : Silent s u) (p : RstSt) (hh : Tab HandleEnt) (fr : List Nat) (a : Nat) :
    Silent { s with rst := p, host.handles := hh, host.freeList := fr, host.accSeq := a } { u with rst := p, host.handles := hh, host.freeList := fr, host.accSeq := a } :=
  silent_map h (fun t => { t with rst := p, host.handles := hh, host.freeList := fr, host.accSeq := a }) (fun _ _ _ _ _ _ _ _ _ => rfl)

theorem silent_with_drip {s u : State} (h : Silent s u) (p : DripSt) : Silent { s with drip := p } { u with drip := p } :=
  silent_map h (fun t => { t with drip := p }) (fun _ _ _ _ _ _ _ _ _ => rfl)

theorem silent_handles_with_drip {s u : State} (h : Silent s u) (p : DripSt) (hh : Tab HandleEnt) (fr : List Nat) (a : Nat) :
    Silent { s with drip := p, host.handles := hh, host.freeList := fr, host.accSeq := a } { u with drip := p, host.handles := hh, host.freeList := fr, host.accSeq := a } :=
  silent_map h (fun t => { t with drip := p, host.handles := hh, host.freeList := fr, host.accSeq := a }) (fun _ _ _ _ _ _ _ _ _ => rfl)

theorem silent_with_fio {s u : State} (h : Silent s u) (p : FieldSt) : Silent { s with fio := p } { u with fio := p } :=
  silent_map h (fun t => { t with fio := p }) (fun _ _ _ _ _ _ _ _ _ => rfl)

theorem silent_handles_with_fio {s u : State} (h : Silent s u) (p : FieldSt) (hh : Tab HandleEnt) (fr : List Nat) (a : Nat) :
    Silent { s with fio := p, host.handles := hh, host.freeList := fr, host.accSeq := a } { u with fio := p, host.handles := hh, host.freeList := fr, host.accSeq := a } :=
  silent_map h (fun t => { t with fio := p, host.handles := hh, host.freeList := fr, host.accSeq := a }) (fun _ _ _ _ _ _ _ _ _ => rfl)

theorem silent_with_can {s u : State} (h : Silent s u) (p : CanSt) : Silent { s with can := p } { u with can := p } :=
  silent_map h (fun t => { t with can := p }) (fun _ _ _ _ _ _ _ _ _ => rfl)

theorem silent_handles_with_can {s u : State} (h : Silent s u) (p : CanSt) (hh : Tab HandleEnt) (fr : List Nat) (a : Nat) :
    Silent { s with can := p, host.handles := hh, host.freeList := fr, host.accSeq := a } { u with can := p, host.handles := hh, host.freeList := fr, host.accSeq := a } :=
  silent_map h (fun t => { t with can := p, host.handles := hh, host.freeList := fr, host.accSeq := a }) (fun _ _ _ _ _ _ _ _ _ => rfl)

theorem silent_free_with_prog {s u : State} (h : Silent s u) (p : ProgSt) (hh : Tab HandleEnt) (fr : List Nat) :
    Silent { s with prog := p, host.handles := hh, host.freeList := fr } { u with prog := p, host.handles := hh, host.freeList := fr } :=
  silent_map h (fun t => { t with prog := p, host.handles := hh, host.freeList := fr }) (fun _ _ _ _ _ _ _ _ _ => rfl)

theorem silent_free_with_lane {s u : State} (h : Silent s u) (p : LaneSt) (hh : Tab HandleEnt) (fr : List Nat) :
    Silent { s with lane := p, host.handles := hh, host.freeList := fr } { u with lane := p, host.handles := hh, host.freeList := fr } :=
  silent_map h (fun t => { t with lane := p, host.handles := hh, host.freeList := fr }) (fun _ _ _ _ _ _ _ _ _ => rfl)

theorem silent_free_with_model {s u : State} (h : Silent s u) (p : ModelSt) (hh : Tab HandleEnt) (fr : List Nat) :
    Silent { s with model := p, host.handles := hh, host.freeList := fr } { u with model := p, host.handles := hh, host.freeList := fr } :=
  silent_map h (fun t => { t with model := p, host.handles := hh, host.freeList := fr }) (fun _ _ _ _ _ _ _ _ _ => rfl)

theorem silent_free_with_slv {s u : State} (h : Silent s u) (p : SolveSt) (hh : Tab HandleEnt) (fr : List Nat) :
    Silent { s with slv := p, host.handles := hh, host.freeList := fr } { u with slv := p, host.handles := hh, host.freeList := fr } :=
  silent_map h (fun t => { t with slv := p, host.handles := hh, host.freeList := fr }) (fun _ _ _ _ _ _ _ _ _ => rfl)

theorem silent_free_with_perc {s u : State} (h : Silent s u) (p : PercSt) (hh : Tab HandleEnt) (fr : List Nat) :
    Silent { s with perc := p, host.handles := hh, host.freeList := fr } { u with perc := p, host.handles := hh, host.freeList := fr } :=
  silent_map h (fun t => { t with perc := p, host.handles := hh, host.freeList := fr }) (fun _ _ _ _ _ _ _ _ _ => rfl)

theorem silent_free_with_afe {s u : State} (h : Silent s u) (p : AfeSt) (hh : Tab HandleEnt) (fr : List Nat) :
    Silent { s with afe := p, host.handles := hh, host.freeList := fr } { u with afe := p, host.handles := hh, host.freeList := fr } :=
  silent_map h (fun t => { t with afe := p, host.handles := hh, host.freeList := fr }) (fun _ _ _ _ _ _ _ _ _ => rfl)

theorem silent_free_with_fed {s u : State} (h : Silent s u) (p : FedSt) (hh : Tab HandleEnt) (fr : List Nat) :
    Silent { s with fed := p, host.handles := hh, host.freeList := fr } { u with fed := p, host.handles := hh, host.freeList := fr } :=
  silent_map h (fun t => { t with fed := p, host.handles := hh, host.freeList := fr }) (fun _ _ _ _ _ _ _ _ _ => rfl)

theorem silent_free_with_stn {s u : State} (h : Silent s u) (p : StnSt) (hh : Tab HandleEnt) (fr : List Nat) :
    Silent { s with stn := p, host.handles := hh, host.freeList := fr } { u with stn := p, host.handles := hh, host.freeList := fr } :=
  silent_map h (fun t => { t with stn := p, host.handles := hh, host.freeList := fr }) (fun _ _ _ _ _ _ _ _ _ => rfl)

theorem silent_free_with_pair {s u : State} (h : Silent s u) (p : PairSt) (hh : Tab HandleEnt) (fr : List Nat) :
    Silent { s with pair := p, host.handles := hh, host.freeList := fr } { u with pair := p, host.handles := hh, host.freeList := fr } :=
  silent_map h (fun t => { t with pair := p, host.handles := hh, host.freeList := fr }) (fun _ _ _ _ _ _ _ _ _ => rfl)

theorem silent_free_with_pwr {s u : State} (h : Silent s u) (p : PowerSt) (hh : Tab HandleEnt) (fr : List Nat) :
    Silent { s with pwr := p, host.handles := hh, host.freeList := fr } { u with pwr := p, host.handles := hh, host.freeList := fr } :=
  silent_map h (fun t => { t with pwr := p, host.handles := hh, host.freeList := fr }) (fun _ _ _ _ _ _ _ _ _ => rfl)

theorem silent_free_with_rst {s u : State} (h : Silent s u) (p : RstSt) (hh : Tab HandleEnt) (fr : List Nat) :
    Silent { s with rst := p, host.handles := hh, host.freeList := fr } { u with rst := p, host.handles := hh, host.freeList := fr } :=
  silent_map h (fun t => { t with rst := p, host.handles := hh, host.freeList := fr }) (fun _ _ _ _ _ _ _ _ _ => rfl)

theorem silent_free_with_drip {s u : State} (h : Silent s u) (p : DripSt) (hh : Tab HandleEnt) (fr : List Nat) :
    Silent { s with drip := p, host.handles := hh, host.freeList := fr } { u with drip := p, host.handles := hh, host.freeList := fr } :=
  silent_map h (fun t => { t with drip := p, host.handles := hh, host.freeList := fr }) (fun _ _ _ _ _ _ _ _ _ => rfl)

theorem silent_free_with_fio {s u : State} (h : Silent s u) (p : FieldSt) (hh : Tab HandleEnt) (fr : List Nat) :
    Silent { s with fio := p, host.handles := hh, host.freeList := fr } { u with fio := p, host.handles := hh, host.freeList := fr } :=
  silent_map h (fun t => { t with fio := p, host.handles := hh, host.freeList := fr }) (fun _ _ _ _ _ _ _ _ _ => rfl)

theorem silent_free_with_can {s u : State} (h : Silent s u) (p : CanSt) (hh : Tab HandleEnt) (fr : List Nat) :
    Silent { s with can := p, host.handles := hh, host.freeList := fr } { u with can := p, host.handles := hh, host.freeList := fr } :=
  silent_map h (fun t => { t with can := p, host.handles := hh, host.freeList := fr }) (fun _ _ _ _ _ _ _ _ _ => rfl)

/-- What the end of a trial run leaves. -/
theorem endTrialRun_spec : ∀ w : State, (w.endTrialRun).host = w.host ∧ (w.endTrialRun).time = w.time ∧ (w.endTrialRun).pwr = w.pwr ∧
    (w.endTrialRun).rst.stage = w.rst.stage ∧ (w.endTrialRun).rst.pinLow = w.rst.pinLow ∧ (w.endTrialRun).rst.vbulkGood = w.rst.vbulkGood ∧
    (w.endTrialRun).par = w.par ∧ (w.endTrialRun).drip = w.drip ∧ (w.endTrialRun).out = w.out ∧ (w.endTrialRun).rst.fwRunningTrial = false := by
  intro w
  unfold State.endTrialRun
  split
  · unfold State.swapFw
    split <;> exact ⟨rfl, rfl, rfl, rfl, rfl, rfl, rfl, rfl, rfl, rfl⟩
  · rename_i h
    exact ⟨rfl, rfl, rfl, rfl, rfl, rfl, rfl, rfl, rfl, by simpa using h⟩

/-- Losing open installs changes the key store only. -/
theorem loseInstalls_shape (w : State) : ∃ k, w.loseInstalls = { w with key := k } := by
  unfold State.loseInstalls
  dsimp only
  have : ∀ (l : List KeyOp) (v : State), ∃ k, l.foldl (fun a o => a.loseInstall o) v = { v with key := k } := by
    intro l
    induction l with
    | nil => intro v; exact ⟨v.key, rfl⟩
    | cons o l ih =>
      intro v
      have ho : ∃ k, v.loseInstall o = { v with key := k } := by
        unfold State.loseInstall
        split
        · exact ⟨v.key, rfl⟩
        · split
          · exact ⟨v.key, rfl⟩
          · split
            · unfold State.dropItem; split <;> exact ⟨_, rfl⟩
            · unfold State.setItem; split <;> exact ⟨_, rfl⟩
      obtain ⟨k, hk⟩ := ho
      obtain ⟨k2, h2⟩ := ih (v.loseInstall o)
      rw [List.foldl_cons, h2, hk]
      exact ⟨k2, rfl⟩
  obtain ⟨k, h⟩ := this w.key.ops w
  rw [h]
  exact ⟨_, rfl⟩

/-- What a reset keeps and clears. -/
theorem warm_spec : ∀ w : State, (w.warm).host = {} ∧ (w.warm).time.running = false ∧ (w.warm).rst.stage = 1 ∧ (w.warm).rst.pinLow = w.rst.pinLow ∧
    (w.warm).rst.vbulkGood = w.rst.vbulkGood ∧ (w.warm).par = w.par ∧ (w.warm).drip = w.drip ∧ (w.warm).pwr.vbulk = w.pwr.vbulk ∧ (w.warm).out = w.out := by
  intro w
  obtain ⟨k, hk⟩ := loseInstalls_shape w
  unfold State.warm
  dsimp only
  rw [hk]
  exact ⟨rfl, rfl, rfl, rfl, rfl, rfl, rfl, rfl, rfl⟩

/-- What an assertion of reset leaves (R519, R520, R530). -/
theorem assertReset_spec : ∀ (w : State) (c : BitVec 5), (w.assertReset c).host = {} ∧ (w.assertReset c).time.running = false ∧ (w.assertReset c).rst.stage = 1 ∧
    (w.assertReset c).rst.pinLow = w.rst.pinLow ∧ (w.assertReset c).rst.vbulkGood = w.rst.vbulkGood ∧
    (w.assertReset c).rst.asserted = (w.rst.pinLow || !w.rst.vbulkGood) ∧ (w.assertReset c).par = w.par ∧
    (w.assertReset c).drip = { w.drip with causeBits := c, wakeSrc := 0, bootFault := if w.rst.stage < w.rst.halted then w.rst.halted else 0 } ∧
    (w.assertReset c).pwr.vbulk = w.pwr.vbulk ∧ (w.assertReset c).out = w.out := by
  intro w c
  have a := endTrialRun_spec w.warm
  have b := warm_spec w
  unfold State.assertReset State.holdReset
  dsimp only
  rw [a.1, a.2.1, a.2.2.1, a.2.2.2.1, a.2.2.2.2.1, a.2.2.2.2.2.1, a.2.2.2.2.2.2.1, a.2.2.2.2.2.2.2.1, a.2.2.2.2.2.2.2.2.1, b.1, b.2.1, b.2.2.1, b.2.2.2.1, b.2.2.2.2.1, b.2.2.2.2.2.1, b.2.2.2.2.2.2.1, b.2.2.2.2.2.2.2.1, b.2.2.2.2.2.2.2.2]
  exact ⟨rfl, rfl, rfl, rfl, rfl, rfl, rfl, rfl, rfl, rfl⟩

/-- Noting a new device status changes the status, the pending vectors and the messages only. -/
theorem syncDev_shape (s : State) : ∃ a b c, s.syncDev = { s with host.devStatus := a, host.msixPend := b, out := c } := by
  unfold State.syncDev
  split
  · exact ⟨_, _, _, rfl⟩
  · dsimp only
    split
    · unfold State.sendMsix
      dsimp only
      split <;> exact ⟨_, _, _, rfl⟩
    · exact ⟨_, _, _, rfl⟩

/-- The four ordered writes of a mirror block and its state (R442). -/
theorem emits_setMirror (v : State) (o1 o2 o3 o4 : OutMsg) (n : Nat) (x : Mirror) :
    ((((v.emit o1).emit o2).emit o3).emit o4).setMirror n x =
      { v with host.mirrors := tset v.host.mirrors n x, out := o4 :: o3 :: o2 :: o1 :: v.out } := by
  unfold State.setMirror State.emit
  rfl

/-- A block that fits its slot: what MIRROR_BLOCK_WRITE writes, and nothing else (R442). -/
theorem writeBlock_eq (s : State) (n : Nat) (m : Mirror) (view : Nat)
    (hb : ¬ m.blockLen < (s.block n (m.blockSeq + 1) view (s.mirrorGap m view) m.members).length) :
    let b := s.block n (m.blockSeq + 1) view (s.mirrorGap m view) m.members
    let at' := m.base + BitVec.ofNat 64 (16 + (m.blockSeq + 1).toNat % max 1 m.slots * m.blockLen)
    s.writeBlock n m view = { s with
          host.mirrors := tset s.host.mirrors n { m with blockSeq := m.blockSeq + 1, blocks := m.blocks + 1, lastEpoch := view }
          out := .hostMem m.base (le 4 (m.blockSeq + 1).toNat) ::
            .hostMem (at' + BitVec.ofNat 64 (b.length - 16)) (b.drop (b.length - 16)) ::
            .hostMem (at' + 8) ((b.take (b.length - 16)).drop 8) :: .hostMem at' (b.take 8) :: s.out } := by
  intro b at'
  unfold State.writeBlock
  dsimp only
  rw [if_neg hb, emits_setMirror]

end Sys2Proof.Laws
end

