-- ==== Sys2Proof/WellFormed.lean ====
section
/-! DEFINITION. Which commands are well formed: every number fits the width of the field that carries it. -/

namespace Sys2Proof

/-- A number fits in a field of `w` bits. -/
def fits (w n : Nat) : Bool := decide (n < 2 ^ w)

/-- A source is one of the queues 0 to 7, one of the sessions 0 to 3, or none (R407). -/
def Src.wf : Src → Bool
  | .none => true
  | .queue n => fits 3 n
  | .session n => fits 2 n

/-- Every number of a PReq fits its field. -/
def pReqFits (v : PReq) : Bool :=
  fits 16 v.id && fits 16 v.index && fits 16 v.count && fits 16 v.size

/-- Every number of a PWr fits its field. -/
def pWrFits (v : PWr) : Bool :=
  fits 16 v.id && fits 16 v.index && fits 16 v.count && fits 16 v.size

/-- Every number of a SeriesWr fits its field. -/
def seriesWrFits (v : SeriesWr) : Bool :=
  fits 8 v.series && fits 8 v.kind && fits 8 v.variants && fits 8 v.variant && fits 16 v.res && fits 8 v.flags && fits 64 v.start && fits 16 v.count && fits 16 v.offset && fits 16 v.n

/-- Every number of a FlexArg fits its field. -/
def flexArgFits (v : FlexArg) : Bool :=
  fits 8 v.slot && fits 32 v.grid && fits 64 v.start && fits 64 v.stop

/-- Every number of a KeyArg fits its field. -/
def keyArgFits (v : KeyArg) : Bool :=
  fits 8 v.keyType && fits 8 v.dest && fits 8 v.role && fits 16 v.keyLen && fits 32 v.gen && fits 64 v.switchEpoch

/-- Every number of a SetupArg fits its field. -/
def setupArgFits (v : SetupArg) : Bool :=
  fits 8 v.role && fits 64 v.mgmtSeq && v.src.wf

/-- Every number of a StnFrame fits its field. -/
def stnFrameFits (v : StnFrame) : Bool :=
  fits 1 v.port && fits 8 v.version && fits 8 v.kind && fits 16 v.station && fits 16 v.seq && fits 64 v.epoch && fits 32 v.claim && fits 8 v.seg && fits 8 v.segCount && fits 16 v.first && fits 16 v.count

/-- Every number of a QMsg fits its field. -/
def qMsgFits (v : QMsg) : Bool :=
  fits 3 v.port && fits 16 v.version && fits 8 v.kind && fits 8 v.level && fits 32 v.src && fits 32 v.dst && fits 32 v.seq && fits 32 v.claim && fits 32 v.len && fits 64 v.round && fits 16 v.seg && fits 16 v.segCount

/-- Every number of a Advert fits its field. -/
def advertFits (v : Advert) : Bool :=
  fits 16 v.cur && fits 16 v.aggMin && fits 16 v.aggMax && fits 32 v.members

/-- Every number of a PairHdr fits its field. -/
def pairHdrFits (v : PairHdr) : Bool :=
  fits 16 v.version && fits 32 v.claim && fits 64 v.epoch && fits 32 v.seq && fits 32 v.len && fits 16 v.sect && fits 16 v.part

/-- Every number of a Hdr fits its field. -/
def hdrFits (v : Hdr) : Bool :=
  fits 32 v.dataLen && fits 32 v.respLen && fits 64 v.mgmtSeq && v.src.wf

/-- Every number of a BlkMember fits its field. -/
def blkMemberFits (v : BlkMember) : Bool :=
  fits 16 v.kind && fits 32 v.first && fits 32 v.count

/-- Every number of a NetFrame fits its field. -/
def netFrameFits (v : NetFrame) : Bool :=
  fits 3 v.port && fits 16 v.ethertype

/-- Every number of a PtpMsg fits its field. -/
def ptpMsgFits (v : PtpMsg) : Bool :=
  fits 3 v.port && fits 8 v.kind && fits 8 v.domain && fits 64 v.source

/-- Every number of a SolveResult fits its field. -/
def solveResultFits (v : SolveResult) : Bool :=
  fits 8 v.status && fits 32 v.iterations && fits 32 v.iterUs && fits 32 v.endUs && fits 32 v.timeUs

/-- Every number of a TxDesc fits its field. -/
def txDescFits (v : TxDesc) : Bool :=
  fits 16 v.len && fits 8 v.port && fits 16 v.ethertype

/-- Every number of a RxDesc fits its field. -/
def rxDescFits (v : RxDesc) : Bool :=
  fits 16 v.len

/-- Every number of a CanFrame fits its field. -/
def canFrameFits (v : CanFrame) : Bool :=
  fits 2 v.fmt && fits 29 v.id && fits 32 v.af && fits 12 v.len

/-- Every number of a FwImage fits its field. -/
def fwImageFits (v : FwImage) : Bool :=
  fits 32 v.serial && fits 16 v.ckptCv && fits 16 v.qualothCv

/-- The command is well formed. -/
def Instr.wf : Instr → Bool
  | .echo h _ => hdrFits h
  | .commandUnknown h opcode => hdrFits h && fits 16 opcode
  | .paramRead h flags reqs => hdrFits h && fits 32 flags && reqs.all pReqFits
  | .paramWrite h wrs => hdrFits h && wrs.all pWrFits
  | .commit h insts epoch => hdrFits h && insts.all (fun x => fits 16 x.1 && fits 16 x.2) && fits 64 epoch
  | .discard h insts => hdrFits h && insts.all (fun x => fits 16 x.1 && fits 16 x.2)
  | .handleQuery h _ => hdrFits h
  | .handleClose h _ => hdrFits h
  | .cancel h _ => hdrFits h
  | .snapshot h members _ len => hdrFits h && members.all blkMemberFits && fits 32 len
  | .mirrorOpen h mirror members period slots _ => hdrFits h && fits 8 mirror && members.all blkMemberFits && fits 32 period && fits 8 slots
  | .mirrorClose h mirror => hdrFits h && fits 8 mirror
  | .alarmRead h => hdrFits h
  | .alarmAck h _ _ => hdrFits h
  | .frameChOpen h ch _ => hdrFits h && fits 8 ch
  | .frameChClose h ch => hdrFits h && fits 8 ch
  | .timeSet h ns => hdrFits h && fits 92 ns
  | .timeTest h ns => hdrFits h && fits 92 ns
  | .fieldAck h _ _ _ _ _ => hdrFits h
  | .canTransmit h ch buf _ => hdrFits h && fits 8 ch && fits 8 buf
  | .canBufCancel h ch buf => hdrFits h && fits 8 ch && fits 8 buf
  | .canHpRead h ch => hdrFits h && fits 8 ch
  | .canRecover h ch => hdrFits h && fits 8 ch
  | .bankSwap h lanes epoch => hdrFits h && lanes.all (fits 16) && fits 64 epoch
  | .laneAck h lane => hdrFits h && fits 16 lane
  | .periodRestore h lane => hdrFits h && fits 16 lane
  | .progLoad h => hdrFits h
  | .progExchange h => hdrFits h
  | .progDiscard h => hdrFits h
  | .run h => hdrFits h
  | .stop h => hdrFits h
  | .hold h => hdrFits h
  | .faultAck h => hdrFits h
  | .modelLoad h => hdrFits h
  | .modelActivate h _ => hdrFits h
  | .modelDiscard h => hdrFits h
  | .elementService h elem _ => hdrFits h && fits 32 elem
  | .seriesWrite h w => hdrFits h && seriesWrFits w
  | .seriesCommit h _ => hdrFits h
  | .solve h kind budget hstart => hdrFits h && fits 8 kind && fits 32 budget && fits 64 hstart
  | .flexActivate h a => hdrFits h && flexArgFits a
  | .flexWithdraw h slot => hdrFits h && fits 8 slot
  | .calRead h => hdrFits h
  | .calReset h _ elem => hdrFits h && fits 32 elem
  | .forgetMember h level addr => hdrFits h && fits 8 level && fits 32 addr
  | .keyInstall h a => hdrFits h && keyArgFits a
  | .keyRemove h _ => hdrFits h
  | .keyList h => hdrFits h
  | .auditRead h first count => hdrFits h && fits 64 first && fits 32 count
  | .tamperAck h _ => hdrFits h
  | .makerCommand h opcode => hdrFits h && fits 16 opcode
  | .pairSwitchover h => hdrFits h
  | .pairResync h => hdrFits h
  | .calWriteEnable h => hdrFits h
  | .calDst h dir => hdrFits h && fits 8 dir
  | .reset h mode => hdrFits h && fits 8 mode
  | .blockReset h block index => hdrFits h && fits 8 block && fits 16 index
  | .fwLoad h => hdrFits h
  | .fwActivate h => hdrFits h
  | .dripEventsRead h => hdrFits h
  | .setupRequest a _ => setupArgFits a
  | .setupProof a _ _ => setupArgFits a
  | .setupEnd a => setupArgFits a
  | .sqTail q _ => fits 3 q
  | .cqHead q _ => fits 3 q
  | .queueEnable q => fits 3 q
  | .queueDisable q => fits 3 q
  | .txTail ch _ descs => fits 8 ch && descs.all txDescFits
  | .rxTail ch _ => fits 8 ch
  | .calRegRead off => fits 16 off
  | .calRegWrite off _ => fits 16 off
  | .calCommit => true
  | .calDiscard => true
  | .registerWrite off _ => fits 16 off
  | .calFreezeTimeout => true
  | .calWindowExpire => true
  | .queueLostPost q => fits 3 q
  | .tick _ => true
  | .commitApply => true
  | .pendingCommitDue _ => true
  | .modeChangeApply => true
  | .stopValuesApply task => fits 2 task
  | .laneBankSwapDue lane => fits 16 lane
  | .laneSampleStart lane => fits 16 lane
  | .laneSampleComplete lane => fits 16 lane
  | .laneOverrun lane => fits 16 lane
  | .taskCycleStart task => fits 2 task
  | .inputClose task => fits 2 task
  | .taskPublication task us => fits 2 task && fits 32 us
  | .taskApply task => fits 2 task
  | .cycleOverrun task => fits 2 task
  | .holdTimeout => true
  | .retainCopy => true
  | .progAutoRun => true
  | .progLoadDone _ _ => true
  | .progExchangeApply => true
  | .modelLoadDone _ => true
  | .cadencePoint => true
  | .solveStart => true
  | .solvePublish r => solveResultFits r
  | .solveOverrun us r => fits 32 us && solveResultFits r
  | .solveStopped us r => fits 32 us && solveResultFits r
  | .planBoundary => true
  | .planStaleTimeout => true
  | .commitmentEnd slot => fits 8 slot
  | .percUpdateStart => true
  | .percUpdatePublish _ => true
  | .mappingUpdate => true
  | .calWindowEnd _ => true
  | .afeFrameStart => true
  | .afeRefSlotEnd _ => true
  | .afeCalAged => true
  | .roundOpening level => fits 8 level
  | .roundClose level => fits 8 level
  | .proposeRx m _ => qMsgFits m
  | .advertiseRx m a => qMsgFits m && advertFits a
  | .memberExpire level addr => fits 8 level && fits 32 addr
  | .qualothForward m => qMsgFits m
  | .servedTick stn => fits 12 stn
  | .stnOutputDue stn => fits 12 stn
  | .stnInputRx f => stnFrameFits f
  | .stnHelloRx f => stnFrameFits f
  | .stnConfigAckRx f => stnFrameFits f
  | .stnLeaveRx f => stnFrameFits f
  | .stnTagFailures stn => fits 12 stn
  | .portLinkChange port _ => fits 3 port
  | .fieldLinkLoss => true
  | .fieldLinkRestore => true
  | .outputOverload ch => fits 8 ch
  | .outputThermal ch => fits 8 ch
  | .groupLimitShed grp _ => fits 3 grp
  | .outputDiagTest ch _ _ _ _ => fits 8 ch
  | .sharedMaskEnd => true
  | .supplyWarnCross grp _ _ => fits 3 grp
  | .supplyCutoff grp _ => fits 3 grp
  | .supplyCutoffUp grp _ => fits 3 grp
  | .supplyHoldoffEnd grp => fits 3 grp
  | .inputValidityLoss grp _ => fits 3 grp
  | .inputValidityRestore grp _ => fits 3 grp
  | .shuntOpen ain _ => fits 4 ain
  | .aoutOpenLoad a _ => fits 3 a
  | .aoutOverload a => fits 3 a
  | .canFrameRx ch f _ => fits 8 ch && canFrameFits f
  | .canCyclicTrigger ch buf => fits 8 ch && fits 8 buf
  | .canTxEnd ch buf _ _ inc loopDelay => fits 8 ch && fits 8 buf && fits 16 inc && fits 16 loopDelay
  | .canTxTimeout ch buf => fits 8 ch && fits 8 buf
  | .canBusoffHoldEnd ch => fits 8 ch
  | .canRecovered ch => fits 8 ch
  | .canBusIntegration ch => fits 8 ch
  | .ringFrameRx f => netFrameFits f
  | .hsrSupervisionTx => true
  | .hostFrameRx f descs => netFrameFits f && descs.all rxDescFits
  | .ptpMessageRx m => ptpMsgFits m
  | .ptpMessageTx port kind => fits 3 port && fits 8 kind
  | .ppsInEdge _ _ => true
  | .ppsOutPulse => true
  | .tb0Lock => true
  | .tb0SyncLoss => true
  | .startWaitExpire => true
  | .mergeStart => true
  | .mergeComplete => true
  | .leapSecond => true
  | .mirrorBlockWrite mirror => fits 8 mirror
  | .snapshotDone _ => true
  | .keyInstallDone _ _ => true
  | .keySwitchEpoch _ => true
  | .keyReceiveWindowEnd _ => true
  | .keyScrub _ _ => true
  | .tamperDetect _ => true
  | .mgmtIdleTimeout n => fits 3 n
  | .bindLockoutEnd src _ => src.wf
  | .heartbeatTx => true
  | .heartbeatRx p _ => pairHdrFits p
  | .partnerFailed => true
  | .takeoverResume => true
  | .demotion => true
  | .demotedTakeover => true
  | .checkpointEpoch => true
  | .ckptDeltaRx p _ _ => pairHdrFits p
  | .ckptEndRx p frags _ => pairHdrFits p && fits 32 frags
  | .syncRequestRx p => pairHdrFits p
  | .finalRx p frags _ => pairHdrFits p && fits 32 frags
  | .ckptFlush => true
  | .ckptStale => true
  | .pairStartWaitEnd => true
  | .pairFloorSwitch => true
  | .marginBreach cls _ => fits 2 cls
  | .govSettleStep _ => true
  | .vbulkLow _ => true
  | .sagHoldEnd _ => true
  | .vbulkFail _ => true
  | .vbulkGood _ => true
  | .vaonPowerOn _ => true
  | .vaonLow _ _ => true
  | .vfldLowEvent grp _ => fits 3 grp
  | .wakeEvent n _ => fits 3 n
  | .resetNAssert => true
  | .resetNRelease => true
  | .releaseStep _ => true
  | .releaseHalt => true
  | .fwTrialTimeout => true
  | .pciePerstAssert => true
  | .vioLoss n => fits 3 n
  | .vioRestore n => fits 3 n
  | .overTempRaise die _ => fits 3 die
  | .overTempClear _ => true
  | .calSecondCarry => true
  | .calSyncCheck => true
  | .cd0Loss => true
  | .hbInEdge => true
  | .filterCounterStep ch _ time => fits 8 ch && fits 64 time
  | .pwmPeriodBoundary ch => fits 8 ch
  | .afeDataSlotEnd _ _ => true
  | .canCommitPoint ch buf => fits 8 ch && fits 8 buf
  | .canReceiveError ch inc => fits 8 ch && fits 16 inc
  | .dripStateLoss => true
  | .uncorrectableMemoryError task => fits 2 task
  | .blockResetDone _ => true
  | .fwLoadDone _ img => fwImageFits img
  | .pciePerstRelease => true
  | .announceReceiptTimeout => true

end Sys2Proof
end

