-- ==== Sys2Proof/Tests/Slice0.lean ====
section
/-! SUPPORT. Tests of the model on small states, the ill-formed commands that well-formedness refuses, and for each
statement a state and operands that meet its hypotheses. -/

set_option Elab.async false

namespace Sys2Proof.Tests
open Sys2Proof Sys2Proof.Machine

/-- A queue pair in service with one packet waiting, bound to the installer. -/
def pair0 : QPair :=
  { sqSize := 4, cqSize := 4, enable := true, enabled := true, sqTail := 1, bind := some { role := .installer } }

/-- A running unit: released, its clock running, one packet waiting in queue 0. -/
def unit : State :=
  { State.reset with
    epoch := 8000, rst.stage := 10, time.running := true, host.queues := [(0, pair0)] }

/-- A packet of queue 0 with a reply buffer. -/
def pkt : Hdr := { src := .queue 0, tag := 7#32, flags := 2#8, respLen := 4096 }
/-! ### Well-formedness: an ill-formed term for each check, which the check refuses -/

theorem test_illformed_PReq : ([
    { id := 65536 }, { index := 65536 }, { count := 65536 }, { size := 65536 }] : List PReq).all (fun v => !pReqFits v) = true := by decide +kernel

theorem test_illformed_PWr : ([
    { id := 65536 }, { index := 65536 }, { count := 65536 }, { size := 65536 }] : List PWr).all (fun v => !pWrFits v) = true := by decide +kernel

theorem test_illformed_SeriesWr : ([
    { series := 256 }, { kind := 256 }, { variants := 256 }, { variant := 256 }, { res := 65536 },
    { flags := 256 }, { start := 18446744073709551616 }, { count := 65536 }, { offset := 65536 }, { n := 65536 }] : List SeriesWr).all (fun v => !seriesWrFits v) = true := by decide +kernel

theorem test_illformed_FlexArg : ([
    { slot := 256 }, { grid := 4294967296 }, { start := 18446744073709551616 }, { stop := 18446744073709551616 }] : List FlexArg).all (fun v => !flexArgFits v) = true := by decide +kernel

theorem test_illformed_KeyArg : ([
    { keyType := 256 }, { dest := 256 }, { role := 256 }, { keyLen := 65536 }, { gen := 4294967296 },
    { switchEpoch := 18446744073709551616 }] : List KeyArg).all (fun v => !keyArgFits v) = true := by decide +kernel

theorem test_illformed_SetupArg : ([
    { role := 256 }, { mgmtSeq := 18446744073709551616 }, { src := .queue 8 }, { src := .session 4 }] : List SetupArg).all (fun v => !setupArgFits v) = true := by decide +kernel

theorem test_illformed_StnFrame : ([
    { port := 2 }, { version := 256 }, { kind := 256 }, { station := 65536 }, { seq := 65536 },
    { epoch := 18446744073709551616 }, { claim := 4294967296 }, { seg := 256 }, { segCount := 256 },
    { first := 65536 }, { count := 65536 }] : List StnFrame).all (fun v => !stnFrameFits v) = true := by decide +kernel

theorem test_illformed_QMsg : ([
    { port := 8 }, { version := 65536 }, { kind := 256 }, { level := 256 }, { src := 4294967296 },
    { dst := 4294967296 }, { seq := 4294967296 }, { claim := 4294967296 }, { len := 4294967296 },
    { round := 18446744073709551616 }, { seg := 65536 }, { segCount := 65536 }] : List QMsg).all (fun v => !qMsgFits v) = true := by decide +kernel

theorem test_illformed_Advert : ([
    { cur := 65536 }, { aggMin := 65536 }, { aggMax := 65536 }, { members := 4294967296 }] : List Advert).all (fun v => !advertFits v) = true := by decide +kernel

theorem test_illformed_PairHdr : ([
    { version := 65536 }, { claim := 4294967296 }, { epoch := 18446744073709551616 }, { seq := 4294967296 },
    { len := 4294967296 }, { sect := 65536 }, { part := 65536 }] : List PairHdr).all (fun v => !pairHdrFits v) = true := by decide +kernel

theorem test_illformed_Hdr : ([
    { dataLen := 4294967296 }, { respLen := 4294967296 }, { mgmtSeq := 18446744073709551616 }, { src := .queue 8 },
    { src := .session 4 }] : List Hdr).all (fun v => !hdrFits v) = true := by decide +kernel

theorem test_illformed_BlkMember : ([
    { kind := 65536 }, { first := 4294967296 }, { count := 4294967296 }] : List BlkMember).all (fun v => !blkMemberFits v) = true := by decide +kernel

theorem test_illformed_NetFrame : ([
    { port := 8 }, { ethertype := 65536 }] : List NetFrame).all (fun v => !netFrameFits v) = true := by decide +kernel

theorem test_illformed_PtpMsg : ([
    { port := 8 }, { kind := 256 }, { domain := 256 }, { source := 18446744073709551616 }] : List PtpMsg).all (fun v => !ptpMsgFits v) = true := by decide +kernel

theorem test_illformed_SolveResult : ([
    { status := 256 }, { iterations := 4294967296 }, { iterUs := 4294967296 },
    { endUs := 4294967296 }, { timeUs := 4294967296 }] : List SolveResult).all (fun v => !solveResultFits v) = true := by decide +kernel

theorem test_illformed_TxDesc : ([
    { len := 65536 }, { port := 256 }, { ethertype := 65536 }] : List TxDesc).all (fun v => !txDescFits v) = true := by decide +kernel

theorem test_illformed_RxDesc : ([
    { len := 65536 }] : List RxDesc).all (fun v => !rxDescFits v) = true := by decide +kernel

theorem test_illformed_CanFrame : ([
    { fmt := 4 }, { id := 536870912 }, { af := 4294967296 }, { len := 4096 }] : List CanFrame).all (fun v => !canFrameFits v) = true := by decide +kernel

theorem test_illformed_FwImage : ([
    { serial := 4294967296 }, { ckptCv := 65536 }, { qualothCv := 65536 }] : List FwImage).all (fun v => !fwImageFits v) = true := by decide +kernel

theorem test_illformed_commands_1 : ([
    .echo { dataLen := 4294967296 } [], .commandUnknown { dataLen := 4294967296 } 0, .commandUnknown {} 65536,
    .paramRead { dataLen := 4294967296 } 0 [], .paramRead {} 4294967296 [], .paramRead {} 0 [{ id := 65536 }],
    .paramWrite { dataLen := 4294967296 } [], .paramWrite {} [{ id := 65536 }],
    .commit { dataLen := 4294967296 } [] 0, .commit {} [(65536, 0)] 0, .commit {} [(0, 65536)] 0,
    .commit {} [] 18446744073709551616, .discard { dataLen := 4294967296 } [], .discard {} [(65536, 0)],
    .discard {} [(0, 65536)], .handleQuery { dataLen := 4294967296 } 0, .handleClose { dataLen := 4294967296 } 0,
    .cancel { dataLen := 4294967296 } 0, .snapshot { dataLen := 4294967296 } [] 0 0,
    .snapshot {} [{ kind := 65536 }] 0 0, .snapshot {} [] 0 4294967296,
    .mirrorOpen { dataLen := 4294967296 } 0 [] 0 0 0, .mirrorOpen {} 256 [] 0 0 0,
    .mirrorOpen {} 0 [{ kind := 65536 }] 0 0 0] : List Instr).all (fun i => !i.wf) = true := by decide +kernel

theorem test_illformed_commands_2 : ([
    .mirrorOpen {} 0 [] 4294967296 0 0, .mirrorOpen {} 0 [] 0 256 0, .mirrorClose { dataLen := 4294967296 } 0,
    .mirrorClose {} 256, .alarmRead { dataLen := 4294967296 }, .alarmAck { dataLen := 4294967296 } false [],
    .frameChOpen { dataLen := 4294967296 } 0 0, .frameChOpen {} 256 0, .frameChClose { dataLen := 4294967296 } 0,
    .frameChClose {} 256, .timeSet { dataLen := 4294967296 } 0, .timeSet {} 4951760157141521099596496896,
    .timeTest { dataLen := 4294967296 } 0, .timeTest {} 4951760157141521099596496896,
    .fieldAck { dataLen := 4294967296 } 0 0 0 0 0, .canTransmit { dataLen := 4294967296 } 0 0 [],
    .canTransmit {} 256 0 [], .canTransmit {} 0 256 [], .canBufCancel { dataLen := 4294967296 } 0 0,
    .canBufCancel {} 256 0, .canBufCancel {} 0 256, .canHpRead { dataLen := 4294967296 } 0, .canHpRead {} 256,
    .canRecover { dataLen := 4294967296 } 0] : List Instr).all (fun i => !i.wf) = true := by decide +kernel

theorem test_illformed_commands_3 : ([
    .canRecover {} 256, .bankSwap { dataLen := 4294967296 } [] 0, .bankSwap {} [65536] 0,
    .bankSwap {} [] 18446744073709551616, .laneAck { dataLen := 4294967296 } 0, .laneAck {} 65536,
    .periodRestore { dataLen := 4294967296 } 0, .periodRestore {} 65536, .progLoad { dataLen := 4294967296 },
    .progExchange { dataLen := 4294967296 }, .progDiscard { dataLen := 4294967296 },
    .run { dataLen := 4294967296 }, .stop { dataLen := 4294967296 }, .hold { dataLen := 4294967296 },
    .faultAck { dataLen := 4294967296 }, .modelLoad { dataLen := 4294967296 },
    .modelActivate { dataLen := 4294967296 } false, .modelDiscard { dataLen := 4294967296 },
    .elementService { dataLen := 4294967296 } 0 false, .elementService {} 4294967296 false,
    .seriesWrite { dataLen := 4294967296 } {}, .seriesWrite {} { series := 256 },
    .seriesCommit { dataLen := 4294967296 } 0, .solve { dataLen := 4294967296 } 0 0 0] : List Instr).all (fun i => !i.wf) = true := by decide +kernel

theorem test_illformed_commands_4 : ([
    .solve {} 256 0 0, .solve {} 0 4294967296 0, .solve {} 0 0 18446744073709551616,
    .flexActivate { dataLen := 4294967296 } {}, .flexActivate {} { slot := 256 },
    .flexWithdraw { dataLen := 4294967296 } 0, .flexWithdraw {} 256, .calRead { dataLen := 4294967296 },
    .calReset { dataLen := 4294967296 } false 0, .calReset {} false 4294967296,
    .forgetMember { dataLen := 4294967296 } 0 0, .forgetMember {} 256 0, .forgetMember {} 0 4294967296,
    .keyInstall { dataLen := 4294967296 } {}, .keyInstall {} { keyType := 256 },
    .keyRemove { dataLen := 4294967296 } 0, .keyList { dataLen := 4294967296 },
    .auditRead { dataLen := 4294967296 } 0 0, .auditRead {} 18446744073709551616 0, .auditRead {} 0 4294967296,
    .tamperAck { dataLen := 4294967296 } 0, .makerCommand { dataLen := 4294967296 } 0, .makerCommand {} 65536,
    .pairSwitchover { dataLen := 4294967296 }] : List Instr).all (fun i => !i.wf) = true := by decide +kernel

theorem test_illformed_commands_5 : ([
    .pairResync { dataLen := 4294967296 }, .calWriteEnable { dataLen := 4294967296 },
    .calDst { dataLen := 4294967296 } 0, .calDst {} 256, .reset { dataLen := 4294967296 } 0, .reset {} 256,
    .blockReset { dataLen := 4294967296 } 0 0, .blockReset {} 256 0, .blockReset {} 0 65536,
    .fwLoad { dataLen := 4294967296 }, .fwActivate { dataLen := 4294967296 },
    .dripEventsRead { dataLen := 4294967296 }, .setupRequest { role := 256 } [], .setupProof { role := 256 } [] [],
    .setupEnd { role := 256 }, .sqTail 8 0, .cqHead 8 0, .queueEnable 8, .queueDisable 8, .txTail 256 0 [],
    .txTail 0 0 [{ len := 65536 }], .rxTail 256 0, .calRegRead 65536, .calRegWrite 65536 0] : List Instr).all (fun i => !i.wf) = true := by decide +kernel

theorem test_illformed_commands_6 : ([
    .registerWrite 65536 0, .queueLostPost 8, .stopValuesApply 4, .laneBankSwapDue 65536, .laneSampleStart 65536,
    .laneSampleComplete 65536, .laneOverrun 65536, .taskCycleStart 4, .inputClose 4, .taskPublication 4 0,
    .taskPublication 0 4294967296, .taskApply 4, .cycleOverrun 4, .solvePublish { status := 256 },
    .solveOverrun 4294967296 {}, .solveStopped 4294967296 {}, .solveOverrun 0 { status := 256 },
    .solveStopped 0 { status := 256 },
    .commitmentEnd 256, .roundOpening 256, .roundClose 256,
    .proposeRx { port := 8 } [], .advertiseRx { port := 8 } {}] : List Instr).all (fun i => !i.wf) = true := by decide +kernel

theorem test_illformed_commands_7 : ([
    .advertiseRx {} { cur := 65536 }, .memberExpire 256 0, .memberExpire 0 4294967296,
    .qualothForward { port := 8 }, .servedTick 4096, .stnOutputDue 4096, .stnInputRx { port := 2 },
    .stnHelloRx { port := 2 }, .stnConfigAckRx { port := 2 }, .stnLeaveRx { port := 2 }, .stnTagFailures 4096,
    .portLinkChange 8 false, .outputOverload 256, .outputThermal 256, .groupLimitShed 8 [],
    .outputDiagTest 256 F32.zero F32.zero F32.zero F32.zero, .supplyWarnCross 8 false F32.zero,
    .supplyCutoff 8 F32.zero, .supplyCutoffUp 8 F32.zero, .supplyHoldoffEnd 8, .inputValidityLoss 8 F32.zero,
    .inputValidityRestore 8 F32.zero, .shuntOpen 16 false, .aoutOpenLoad 8 false] : List Instr).all (fun i => !i.wf) = true := by decide +kernel

theorem test_illformed_commands_8 : ([
    .aoutOverload 8, .canFrameRx 256 {} false, .canFrameRx 0 { fmt := 4 } false, .canCyclicTrigger 256 0,
    .canCyclicTrigger 0 256, .canTxEnd 256 0 false false 0 0, .canTxEnd 0 256 false false 0 0,
    .canTxEnd 0 0 false false 65536 0, .canTxEnd 0 0 false false 0 65536, .canTxTimeout 256 0, .canTxTimeout 0 256,
    .canBusoffHoldEnd 256, .canRecovered 256, .canBusIntegration 256, .ringFrameRx { port := 8 },
    .hostFrameRx { port := 8 } [], .hostFrameRx {} [{ len := 65536 }], .ptpMessageRx { port := 8 },
    .ptpMessageTx 8 0, .ptpMessageTx 0 256, .mirrorBlockWrite 256, .mgmtIdleTimeout 8,
    .bindLockoutEnd (.queue 8) 0, .heartbeatRx { version := 65536 } {}] : List Instr).all (fun i => !i.wf) = true := by decide +kernel

theorem test_illformed_commands_9 : ([
    .ckptDeltaRx { version := 65536 } (.s3 {}) [], .ckptEndRx { version := 65536 } 0 0, .ckptEndRx {} 4294967296 0,
    .syncRequestRx { version := 65536 }, .finalRx { version := 65536 } 0 0, .finalRx {} 4294967296 0,
    .marginBreach 4 F32.zero, .vfldLowEvent 8 false, .wakeEvent 8 false, .vioLoss 8, .vioRestore 8,
    .overTempRaise 8 F32.zero, .filterCounterStep 256 F32.zero 0, .filterCounterStep 0 F32.zero 18446744073709551616,
    .pwmPeriodBoundary 256, .canCommitPoint 256 0, .canCommitPoint 0 256, .canReceiveError 256 0,
    .canReceiveError 0 65536, .uncorrectableMemoryError 4, .fwLoadDone [] { serial := 4294967296 }] : List Instr).all (fun i => !i.wf) = true := by decide +kernel

theorem test_wellformed_commands_1 : ([
    .echo {} [], .commandUnknown {} 0, .paramRead {} 0 [], .paramWrite {} [], .commit {} [] 0, .discard {} [],
    .handleQuery {} 0, .handleClose {} 0, .cancel {} 0, .snapshot {} [] 0 0, .mirrorOpen {} 0 [] 0 0 0,
    .mirrorClose {} 0, .alarmRead {}, .alarmAck {} false [], .frameChOpen {} 0 0, .frameChClose {} 0,
    .timeSet {} 0, .timeTest {} 0, .fieldAck {} 0 0 0 0 0, .canTransmit {} 0 0 [], .canBufCancel {} 0 0,
    .canHpRead {} 0, .canRecover {} 0, .bankSwap {} [] 0, .laneAck {} 0, .periodRestore {} 0, .progLoad {},
    .progExchange {}, .progDiscard {}, .run {}, .stop {}, .hold {}, .faultAck {}, .modelLoad {},
    .modelActivate {} false, .modelDiscard {}, .elementService {} 0 false, .seriesWrite {} {}, .seriesCommit {} 0,
    .solve {} 0 0 0] : List Instr).all Instr.wf = true := by decide +kernel

theorem test_wellformed_commands_2 : ([
    .flexActivate {} {}, .flexWithdraw {} 0, .calRead {}, .calReset {} false 0, .forgetMember {} 0 0,
    .keyInstall {} {}, .keyRemove {} 0, .keyList {}, .auditRead {} 0 0, .tamperAck {} 0, .makerCommand {} 0,
    .pairSwitchover {}, .pairResync {}, .calWriteEnable {}, .calDst {} 0, .reset {} 0, .blockReset {} 0 0,
    .fwLoad {}, .fwActivate {}, .dripEventsRead {}, .setupRequest {} [], .setupProof {} [] [], .setupEnd {},
    .sqTail 0 0, .cqHead 0 0, .queueEnable 0, .queueDisable 0, .txTail 0 0 [], .rxTail 0 0, .calRegRead 0,
    .calRegWrite 0 0, .calCommit, .calDiscard, .registerWrite 0 0, .calFreezeTimeout, .calWindowExpire,
    .queueLostPost 0, .tick {}, .commitApply, .pendingCommitDue 0] : List Instr).all Instr.wf = true := by decide +kernel

theorem test_wellformed_commands_3 : ([
    .modeChangeApply, .stopValuesApply 0, .laneBankSwapDue 0, .laneSampleStart 0, .laneSampleComplete 0,
    .laneOverrun 0, .taskCycleStart 0, .inputClose 0, .taskPublication 0 0, .taskApply 0, .cycleOverrun 0,
    .holdTimeout, .retainCopy, .progAutoRun, .progLoadDone [] {}, .progExchangeApply, .modelLoadDone [],
    .cadencePoint, .solveStart, .solvePublish {}, .solveOverrun 0 {}, .solveStopped 0 {}, .planBoundary,
    .planStaleTimeout, .commitmentEnd 0, .percUpdateStart, .percUpdatePublish {}, .mappingUpdate, .calWindowEnd 0,
    .afeFrameStart, .afeRefSlotEnd [], .afeCalAged, .roundOpening 0, .roundClose 0, .proposeRx {} [],
    .advertiseRx {} {}, .memberExpire 0 0, .qualothForward {}, .servedTick 0, .stnOutputDue 0] : List Instr).all Instr.wf = true := by decide +kernel

theorem test_wellformed_commands_4 : ([
    .stnInputRx {}, .stnHelloRx {}, .stnConfigAckRx {}, .stnLeaveRx {}, .stnTagFailures 0, .portLinkChange 0 false,
    .fieldLinkLoss, .fieldLinkRestore, .outputOverload 0, .outputThermal 0, .groupLimitShed 0 [],
    .outputDiagTest 0 F32.zero F32.zero F32.zero F32.zero, .sharedMaskEnd, .supplyWarnCross 0 false F32.zero,
    .supplyCutoff 0 F32.zero, .supplyCutoffUp 0 F32.zero, .supplyHoldoffEnd 0, .inputValidityLoss 0 F32.zero,
    .inputValidityRestore 0 F32.zero, .shuntOpen 0 false, .aoutOpenLoad 0 false, .aoutOverload 0,
    .canFrameRx 0 {} false, .canCyclicTrigger 0 0, .canTxEnd 0 0 false false 0 0, .canTxTimeout 0 0,
    .canBusoffHoldEnd 0, .canRecovered 0, .canBusIntegration 0, .ringFrameRx {}, .hsrSupervisionTx,
    .hostFrameRx {} [], .ptpMessageRx {}, .ptpMessageTx 0 0, .ppsInEdge 0 0, .ppsOutPulse, .tb0Lock,
    .tb0SyncLoss, .startWaitExpire, .mergeStart] : List Instr).all Instr.wf = true := by decide +kernel

theorem test_wellformed_commands_5 : ([
    .mergeComplete, .leapSecond, .mirrorBlockWrite 0, .snapshotDone 0, .keyInstallDone 0 false, .keySwitchEpoch 0,
    .keyReceiveWindowEnd 0, .keyScrub [] [], .tamperDetect 0, .mgmtIdleTimeout 0, .bindLockoutEnd .none 0,
    .heartbeatTx, .heartbeatRx {} {}, .partnerFailed, .takeoverResume, .demotion, .demotedTakeover,
    .checkpointEpoch, .ckptDeltaRx {} (.s3 {}) [], .ckptEndRx {} 0 0, .syncRequestRx {}, .finalRx {} 0 0,
    .ckptFlush, .ckptStale, .pairStartWaitEnd, .pairFloorSwitch, .marginBreach 0 F32.zero, .govSettleStep F32.zero,
    .vbulkLow F32.zero, .sagHoldEnd F32.zero, .vbulkFail F32.zero, .vbulkGood F32.zero, .vaonPowerOn F32.zero,
    .vaonLow false F32.zero, .vfldLowEvent 0 false, .wakeEvent 0 false, .resetNAssert, .resetNRelease,
    .releaseStep {}, .releaseHalt] : List Instr).all Instr.wf = true := by decide +kernel

theorem test_wellformed_commands_6 : ([
    .fwTrialTimeout, .pciePerstAssert, .vioLoss 0, .vioRestore 0, .overTempRaise 0 F32.zero, .overTempClear [],
    .calSecondCarry, .calSyncCheck, .cd0Loss, .hbInEdge, .filterCounterStep 0 F32.zero 0, .pwmPeriodBoundary 0,
    .afeDataSlotEnd [] 0, .canCommitPoint 0 0, .canReceiveError 0 0, .dripStateLoss, .uncorrectableMemoryError 0,
    .blockResetDone 0, .fwLoadDone [] {}, .pciePerstRelease, .announceReceiptTimeout] : List Instr).all Instr.wf = true := by decide +kernel

/-! ### Results: expected values from the spec's words and worked examples -/

/-- The state after a command. -/
def after (o : Host.Outcome State Fault Refusal) : State :=
  match o with
  | .next t => t
  | _ => State.reset

/-- A calendar date and time from two-digit BCD fields. -/
def calAt (century year month day wday hour min sec : Nat) : CalSet :=
  { sec := sec, min := min, hour := hour, day := day, wday := wday, month := month, century := century, year := year }

/-- R534: "A write of 31 April, of 29 February 2100, or of a units digit of 16#A"; R532: the reasons 3, 3, 1 and, for
a weekday that does not match the date, 4. 2031-03-30 is a Sunday (the chapter's example). -/
theorem test_calendar_reasons :
    [calAt 0x20 0x31 0x04 0x31 4 0 0 0, calAt 0x21 0x00 0x02 0x29 1 0 0 0, calAt 0x20 0x31 0x03 0x30 7 0 0 0x0A,
     calAt 0x20 0x31 0x03 0x30 6 0 0 0, calAt 0x20 0x31 0x03 0x30 7 0 0x60 0,
     calAt 0x20 0x31 0x03 0x30 7 0 0 0].map calReason = [3, 3, 1, 4, 2, 0] := by decide +kernel

/-- R531: 2000 is a leap year, and 2100, 2200 and 2300 are not. -/
theorem test_leap_years : [2000, 2100, 2200, 2300, 2400, 2031, 2096].map isLeap =
    [true, false, false, false, true, false, true] := by decide

/-- R531: the year 2099 carries into 2100 with CENTURY 21 and YEAR 00. -/
theorem test_century_carry :
    (after (exec .calSecondCarry { unit with drip.live := calAt 0x20 0x99 0x12 0x31 4 0x23 0x59 0x59 })).drip.live =
      calAt 0x21 0x00 0x01 0x01 5 0 0 0 := by decide +kernel

/-- R531: after the last second of 2399 the calendar holds that time, clears VALID and sets RANGE_END. -/
theorem test_calendar_range_end :
    let s := after (exec .calSecondCarry
      { unit with drip.live := calAt 0x23 0x99 0x12 0x31 5 0x23 0x59 0x59, drip.valid := true })
    s.drip.live = calAt 0x23 0x99 0x12 0x31 5 0x23 0x59 0x59 ∧ s.drip.valid = false ∧ s.drip.rangeEnd = true := by
  decide +kernel

/-- The unit of the example "summer time in Velmark East, 2031": alarm 0 at 02:30:00 with CAL_ALM_SKIP 0, alarm 1 at
02:15:00 with CAL_ALM_SKIP 1. -/
def velmark (c : CalSet) (dst : Bool) (pend : Nat) : State :=
  { unit with
    drip.live := c, drip.valid := true, drip.dst := dst, drip.dstPend := pend
    drip.cfg := [(pkey P.CAL_ALM_EN 0, [1]), (pkey P.CAL_ALM_TIME 0, [9000]), (pkey P.CAL_ALM_EN 1, [1]),
      (pkey P.CAL_ALM_TIME 1, [8100]), (pkey P.CAL_ALM_SKIP 1, [1])].foldl (fun t x => tset t x.1 x.2) [] }

/-- The example: the carry of 01:59:59 on 2031-03-30 shows 03:00:00, alarm 0 fires once and alarm 1 is dropped. -/
theorem test_summer_time_forward :
    let s := after (exec .calSecondCarry (velmark (calAt 0x20 0x31 0x03 0x30 7 0x01 0x59 0x59) false 1))
    s.drip.live = calAt 0x20 0x31 0x03 0x30 7 0x03 0 0 ∧ s.drip.dst = true ∧ s.drip.almFired = 1#4 ∧
    ((s.calAlm 0).fired.length = 1) := by decide +kernel

/-- The example: the carry of 02:59:59 on 2031-10-26 shows 02:00:00, and both alarms are blocked until 03:00:00. -/
theorem test_summer_time_backward :
    let t := dayNumber 2031 10 26 * 86400
    let s0 := velmark (calAt 0x20 0x31 0x10 0x26 7 0x02 0x59 0x59) true 2
    let s := after (exec .calSecondCarry ((s0.setAlm 0 { fired := [t + 9000] }).setAlm 1 { fired := [t + 8100] }))
    s.drip.live = calAt 0x20 0x31 0x10 0x26 7 0x02 0 0 ∧ s.drip.dst = false ∧ s.drip.almFired = 0#4 ∧
    (s.calAlm 0).blockUntil = t + 10800 ∧ (s.calAlm 1).blockUntil = t + 10800 := by decide +kernel

/-- R322's example with its times in units of 100 µs: with N = 30, a bounce of 40 that is high 60 % of the time brings K
to 8, and the state turns on 22 later and not before. -/
theorem test_filter_bounce :
    let step (x : Nat × Bool) (raw : Bool) := filterStep 30 x.1 x.2 raw
    let bounced := (List.range 40).foldl (fun x i => step x (i % 5 < 3)) (0, false)
    bounced = (8, false) ∧ (List.range 21).foldl (fun x _ => step x true) bounced = (29, false) ∧
    (List.range 22).foldl (fun x _ => step x true) bounced = (30, true) := by decide

/-- The example of R238: 16 valve lanes (3.7 µs), 24 pump lanes (1.9 µs) and 24 temperature lanes (2.7 µs) of
processor 3, all with PHASE_TICKS 0. -/
def velmarkLanes : State :=
  let lane (k : Nat) : List ((Nat × Nat) × PVal) :=
    [((P.OUT_POINT, 192 + k), [k]), ((P.SP_SRC, 192 + k), [1])] ++
    (if k < 16 ∨ 40 ≤ k then [((P.VF_SRC, 192 + k), [100 + k])] else [])
  { unit with
    par.vals := (((List.range 64).map lane).flatten.map (fun x => (pkey x.1.1 x.1.2, x.2))).foldl (fun t x => tset t x.1 x.2) []
    par.bankA := (((List.range 16).map (fun k => [(pkey P.FRIC_TABLE (192 + k), [2]), (pkey P.DETENT_TABLE (192 + k), [2])])).flatten).foldl (fun t x => tset t x.1 x.2) [] }

/-- The example of R238: the costs, W(3, 0) = 169.6 µs, and the slot is not admitted. -/
theorem test_slot_load :
    [192, 208, 232].map velmarkLanes.laneCost = [3700, 1900, 2700] ∧ velmarkLanes.slotLoad 3 0 = 169600 ∧
    velmarkLanes.slotOk 212 = false ∧ velmarkLanes.slotLoad 3 1 = 0 := by decide +kernel

/-- R399 and the start-up example: at 500 ppm towards a target ahead a tick is 124.9375 µs of that target. -/
theorem test_merge_rate : advanceBy fsPerTick 0 0 500 / 100000 = 1249375 ∧ advanceBy fsPerTick 0 0 0 = fsPerTick := by
  decide +kernel

/-- R287: ages to 32,767 ms are exact; beyond that the step is 100 ms. -/
theorem test_age_scale : [0, 32767, 32768, 32867, 32868].map encAge = [0, 0x7FFF, 0x8000, 0x8000, 0x8001] := by decide

/-- R288: a point passes while no bit of the mask 16#002F is set and its age is within the limit. -/
theorem test_point_passes :
    passes { epoch := 7992, status := 0#16 } 8000 1 = true ∧ passes { epoch := 7991, status := 0#16 } 8000 1 = false ∧
    (List.range 16).map (fun k => passes { epoch := 8000, status := 1#16 <<< k } 8000 1) =
      [false, false, false, false, true, false, true, true, true, true, true, true, true, true, true, true] := by
  decide +kernel

/-- The Percolator's example: U_LOSS 0.30 with an implied value of 0.3755 is clamped to 0.30 × 1.05 = 0.315. -/
theorem test_calibration_step :
    let x := calStage { inForce := F32.ofRat (3 / 10) } 0 (F32.ofRat (3 / 10)).rat (F32.ofRat (3755 / 10000))
    x.2 = true ∧ (match x.1.staged with
      | some v => decide (v.rat < 3150001 / 10000000 ∧ 3149999 / 10000000 < v.rat)
      | none => false) = true := by decide +kernel

/-- R12: the generation of a handle slot runs from 1 to 255 and on to 1. -/
theorem test_generation_wraps : [1, 254, 255].map nextGen = [2, 255, 1] := by decide

/-- R419: ECHO returns its inline parameters, 32 bytes. -/
theorem test_echo :
    (after (exec (.echo pkt [0xAB#8, 0xCD#8]) unit)).out.any (fun m => match m with
      | .hostMem _ d => d == 0xAB#8 :: 0xCD#8 :: List.replicate 30 0#8
      | _ => false) = true := by decide +kernel

/-- The status of the newest audit record. -/
def lastStatus (s : State) : Option Nat := (tget s.aud.recs (s.aud.next - 1)).map (fun e => e.status)

/-- R540: RESET is a command of the installer; an operator receives ROLE, and nothing else happens. -/
theorem test_reset_by_the_operator :
    let op : State := { unit with host.queues := [(0, { pair0 with bind := some { role := .operator } })] }
    lastStatus (after (exec (.reset pkt 0) op)) = some St.ROLE ∧
    (after (exec (.reset pkt 0) op)).rst = unit.rst ∧ (after (exec (.reset pkt 0) unit)).rst ≠ unit.rst := by
  decide +kernel

/-- A unit with CAN channel 0 error active at a transmit error count, its buffer 3 on the bus. -/
def canErr (n : Nat) : State :=
  { unit with
    rst.vio := 0xF#4
    can.chans := [(0, { state := 1, integrating := false, txErr := n })]
    can.bufs := [(3, { committed := true })]
    par.vals := [(pkey P.CAN_BUF 3, [2, 0, 2, 0, 0, 0, 0, 0, 8, 0, 0, 1, 0])] }

/-- The example "a pump drive's cable fault": each failure adds 8; counter 96 is the warning, 128 error passive and
256 bus-off. -/
theorem test_can_error_states :
    let f (n : Nat) := let c := (after (exec (.canTxEnd 0 3 false false 8 0) (canErr n))).canCh 0; (c.warning, c.state)
    f 80 = (false, 1) ∧ (f 88).1 = true ∧ (f 112).2 = 1 ∧ (f 120).2 = 2 ∧ (f 248).2 = 3 := by decide +kernel

theorem test_witness_StepRunsTheFrontCommand : State.reset.pending = [] := by decide

theorem test_witness_AuditLogStaysSound :
    State.reset.aud.Sound ∧ ∃ t, step State.reset = .next t := by
  refine ⟨⟨?_, ?_, ?_, ?_, ?_, fun _ => ⟨rfl, rfl⟩⟩, _, rfl⟩
  · intro n h; exact absurd h (Nat.not_lt_zero _)
  all_goals (intros; contradiction)

theorem test_witness_RejectedPacketHasNoEffect :
    packetOf (.run pkt) = some (runInfo, pkt) ∧ State.reset.takeable pkt = false ∧
    ({ unit with host.queues := [(0, { pair0 with bind := none })] } : State).takeable pkt = true ∧
    (({ unit with host.queues := [(0, { pair0 with bind := none })] } : State).take pkt).gate runInfo pkt = St.ROLE ∧
    (unit.queue 0).cqFull = false := ⟨rfl, by decide⟩

/-- A unit that holds one handle of queue 0, in the given state. -/
def held (st : HandleState) : State :=
  { unit with host.handles := [(5, { gen := 1, st := st, src := .queue 0, cq := .queue 0, record := some {} })] }

theorem test_witness_HostCommandsComplete :
    (unit.admitted echoInfo pkt = true ∧ 32 ≤ pkt.room) ∧
    (knownOpcodes.contains 0x1234 = false ∧ unit.takeable pkt = true) ∧
    ((held .opened).admitted handleQueryInfo pkt = true ∧ (held .opened).holds pkt.src 0x01000005#32 = true ∧
      ((held .opened).hent (hIndex 0x01000005#32)).st = .opened) ∧
    ((held .completed).admitted handleQueryInfo pkt = true ∧ (held .completed).holds pkt.src 0x01000005#32 = true ∧
      ((held .completed).hent (hIndex 0x01000005#32)).st = .completed ∧
      ((held .completed).hent (hIndex 0x01000005#32)).record = some {} ∧
      32 + ((held .completed).hent (hIndex 0x01000005#32)).recData.length ≤ pkt.room) ∧
    (held .opened).admitted handleCloseInfo pkt = true ∧
    ((held .completed).admitted handleCloseInfo pkt = true ∧ (held .completed).hUsed 0x01000005#32 = true ∧
      (held .completed).roleOf pkt.src = .installer) ∧
    unit.admitted alarmReadInfo pkt = true ∧ unit.admitted alarmAckInfo pkt = true ∧
    (unit.admitted frameChOpenInfo pkt = true ∧ (63#16).toNat < 64 ∧ (unit.fch 3).isOpen = false) ∧
    unit.admitted frameChCloseInfo pkt = true := by decide

/-- A running unit with frame channel 0 open and queue 0 short of one reported loss. -/
def opened : State :=
  { unit with
    host.queues := [(0, { pair0 with lostPend := true }), (1, { sqSize := 4, cqSize := 4 })]
    host.frameChs := [(0, { isOpen := true, portMask := 63#16 })] }

theorem test_witness_QueueRegistersComplete :
    (opened.hostUp = true ∧ (opened.queue 0).enabled = true ∧ (15#32).toNat % 4096 < 2 ^ (opened.queue 0).sqSize ∧
      2 ^ (opened.queue 0).sqSize ≤ (16#32).toNat % 4096 ∧ (15#32).toNat % 4096 < 2 ^ (opened.queue 0).cqSize) ∧
    (opened.queue 1).enable = false ∧ (opened.queue 0).enable = true ∧
    (opened.ready = true ∧ (opened.queue 0).lostPend = true ∧ (opened.queue 0).cqFull = false) ∧
    (opened.fch 0).isOpen = true := by decide

theorem test_witness_RegisterWindowComplete :
    unit.hostUp = true ∧ (unit.queue 1).enable = false ∧ (0#32).getLsbD 16 = false := by decide

/-- The first of January 2030, a Tuesday, 00:00:00. -/
def cal2030 : CalSet := { day := 0x01, wday := 2, month := 0x01, century := 0x20, year := 0x30 }

/-- A unit with the write window open and a set staged. -/
def writing : State := { unit with drip.unlocked := true, drip.staged := some cal2030, drip.frozen := true, drip.cd0 := true }

theorem test_witness_CalendarComplete :
    unit.admitted calWriteEnableInfo pkt = true ∧
    (writing.hostUp = true ∧ writing.drip.unlocked = true ∧ unit.drip.unlocked = false) ∧
    (calReason cal2030 = 0 ∧ calReason { cal2030 with wday := 3 } ≠ 0) ∧ writing.drip.frozen = true ∧
    writing.drip.frozenAt + 4000 ≤ writing.epoch ∧ ({ writing with epoch := 480000 } : State).drip.openedAt + 480000 ≤ 480000 ∧
    (unit.admitted calDstInfo pkt = true ∧ unit.drip.dst = false ∧
      calSeconds unit.drip.live + 1 + 3600 < calEnd) ∧
    (unit.drip.rangeEnd = false ∧ unit.drip.dstPend = 0 ∧ calSeconds unit.drip.live + 1 < calEnd) ∧
    calEnd ≤ calSeconds { sec := 0x59, min := 0x59, hour := 0x23, day := 0x31, wday := 5, month := 0x12,
                          century := 0x23, year := 0x99 } + 1 ∧
    writing.drip.cd0 = true ∧ unit.admitted dripEventsReadInfo pkt = true := by decide

/-- A unit whose calendar is to follow TB0, at a whole minute. -/
def syncing : State :=
  { unit with
    par.vals := [(pkey P.CAL_SYNC 0, [1])]
    time.bound := some 0, time.tb0State := 2, time.tb0.fs := 946684897 * fsPerS, time.tb0.valid := true }

theorem test_witness_CalendarSync :
    syncing.ready = true ∧ syncing.time.running = true ∧ syncing.pn P.CAL_SYNC 0 = 1 ∧ syncing.boundTo 0 = true ∧
    syncing.time.tb0State = 2 ∧ 0 ≤ syncing.localByTb0 / (fsPerS : Int) ∧
    syncing.localByTb0 / (fsPerS : Int) < (calEnd : Int) ∧ syncing.localByTb0 / (fsPerS : Int) % 60 = 0 ∧
    10 * 1000000000000 < (syncing.localByTb0 - syncing.calFs).natAbs := by decide

/-- A packet that holds the staging copy of group 16#0C05, and a handle of a pending commit. -/
def staged : State :=
  { unit with
    host.staging := [{ group := 0x0101, index := 0, owner := .queue 0 }]
    host.handles := [(5, { gen := 1, st := .opened, src := .queue 0, cq := .queue 0 })]
    host.pendCommits := [{ handle := 0x01000005#32, due := 9000, insts := [(0x0C05, 0)] }] }

/-- A write of VF_SRC of lane 0. -/
def wr1 (v : Nat) : PWr := { id := P.VF_SRC, index := 0, count := 1, size := 5, vals := [[0xFFFFFFFF, v]] }

theorem test_witness_ParameterCommandsComplete :
    (unit.admitted paramReadInfo pkt = true ∧
      firstBad ((unit.take pkt).reqCode 8000 false) 0 [{ id := P.VF_SRC, index := 0, count := 1, size := 5 }] = none) ∧
    (unit.admitted paramWriteInfo pkt = true ∧ firstBad ((unit.take pkt).wrCode pkt.src) 0 [wr1 5] = none ∧
      firstBad ((unit.take pkt).wrCode pkt.src) 0 [wr1 256] = some (0, St.RANGE) ∧
      (pspec P.VF_SRC).map (fun r => r.group) = some 0x0A01 ∧ isBankId P.VF_SRC = false) ∧
    (staged.admitted commitInfo pkt = true ∧ firstBad ((staged.take pkt).itemCode pkt.src) 0 [(0x0101, 0)] = none ∧
      ((staged.take pkt).commitCode pkt.src [(0x0101, 0)]).2 = St.OK ∧ staged.nextHandle.isSome = true) ∧
    (staged.admitted discardInfo pkt = true ∧
      firstBad ((staged.take pkt).dropCode pkt.src) 0 [(0x0101, 0)] = none) ∧
    (staged.admitted cancelInfo pkt = true ∧ staged.holds pkt.src 0x01000005#32 = true ∧
      staged.hOpen 0x01000005#32 = true ∧ (staged.cancelSolve 0x01000005#32).isNone = true) := by decide +kernel

/-- A running unit with mirror 0 open over one alarm member and one snapshot open. -/
def viewing : State :=
  { unit with
    host.mirrors := [(0, { isOpen := true, owner := .queue 0, members := [], period := 80, slots := 2, blockLen := 100000 })]
    host.snaps := [{ handle := 0x01000005#32 }] }

theorem test_witness_ViewsComplete :
    unit.admitted snapshotInfo pkt = true ∧ unit.admitted mirrorOpenInfo pkt = true ∧
    viewing.admitted mirrorCloseInfo pkt = true ∧ (viewing.mirror 0).owner = pkt.src ∧
    ((unit.take pkt).membersCode [{ kind := 6, first := 0, count := 1 }] = St.OK ∧ unit.nextHandle.isSome = true) ∧
    ((viewing.host.snaps.find? (fun y => y.handle == 0x01000005#32)).map (fun x => x.planId) = some none) ∧
    (viewing.epoch % (viewing.mirror 0).period = 0 ∧ (viewing.mirror 0).blocks = 0) := by decide +kernel

/-- A unit with one commit due, of the previous tick, and one pending that is due now. -/
def dueUnit : State :=
  { unit with
    host.due := [{ accEpoch := 7999, insts := [(0x0A01, 0)], vals := [] }]
    host.pendCommits := [{ handle := 0x01000005#32, due := 8000, insts := [(0x0A01, 1)] }] }

theorem test_witness_CommitsTakeEffect :
    dueUnit.ready = true ∧ dueUnit.time.running = true ∧ dueUnit.order ≤ 3 ∧ dueUnit.dueNow ≠ [] ∧
    ((dueUnit.host.pendCommits.find? (fun p => p.handle == 0x01000005#32)).map (fun p => p.due)) = some 8000 ∧
    (((dueUnit.atOrder 3).auditApplied 0).applyDue).pendCode
      { handle := 0x01000005#32, due := 8000, insts := [(0x0A01, 1)] } = St.OK := by decide +kernel

/-- A running unit with a selected master on port 0. -/
def timed (st : Nat) : State :=
  { unit with time.master := some 9, time.masterDs := [1], time.tb0State := st, time.lockFrom := some 0, time.tb0.fs := 10 ^ 20
              net.ports := [(0, { mode := 1, link := true }), (2, { mode := 2, link := true })] }

/-- The Sync and the Announce of that master. -/
def sync (kind : Nat) : PtpMsg := { port := 0, kind := kind, source := 9, ds := [0], masterNs := 10 ^ 18, secured := true }

theorem test_witness_TimeBasesComplete :
    (unit.admitted timeSetInfo pkt = true ∧ unit.admitted timeTestInfo pkt = true) ∧
    ((timed 0).ptpUnsecured (sync 0) = false ∧ (timed 0).ptpHere (sync 0) = true ∧
      (timed 0).time.master = some (sync 0).source) ∧
    ((timed 2).ptpHere (sync 11) = true ∧ (timed 2).ptpUnsecured (sync 11) = false) ∧
    ({ timed 0 with epoch := 24000 } : State).time.lastAnnounce + 24000 ≤ 24000 ∧
    (((timed 0).port 2).link = true ∧ ((timed 0).port 2).mode = 2 ∧ (timed 0).isStandby = false) ∧
    ((timed 1).time.lockFrom = some 0 ∧
      0 + (timed 1).pn P.TIME_LOCK_S 0 * 1000000000 ≤ (timed 1).time.tb0.fs / 1000000) ∧
    (({ unit with rst.vio := 0xF#4, time.timeSet := true, par.vals := [(pkey P.TIME_SOURCE 0, [1])] } : State).vioGood 2 = true ∧
      ({ unit with par.vals := [(pkey P.TIME_SOURCE 0, [1])] } : State).pn P.TIME_SOURCE 0 = 1) ∧
    (({ unit with time.t0 := 10 ^ 18 } : State).outBase.2 = true ∧
      ({ unit with time.t0 := 10 ^ 18 } : State).outBase.1 / fsPerS ≠ unit.time.ppsSeconds) ∧
    ((((0 / fsPerS : Nat) : Int) - (-1) - 1) % 86400 = 0) := by decide +kernel

theorem test_witness_TickAdvancesTheEpoch :
    unit.time.running = true ∧ unit.rst.asserted = false ∧ unit.overdue = false ∧ unit.live = true ∧ unit.clocked = true ∧
    State.reset.time.running = false := by decide

/-- A unit before the start of its clock, and one that runs with a lost TB0 or with a merge to TB2. -/
def clk (tb0 : Nat) (b m : Option Nat) : State :=
  { unit with time.tb0State := tb0, time.bound := b, time.merging := m, time.overLimit := 3, time.mergeTarget := 2
              time.mergeWaiting := m.isNone }

theorem test_witness_EpochClockComplete :
    (({ clk 1 none none with time.running := false, time.startWait := true } : State).ready = true ∧
      (clk 1 none none).pn P.TIME_SEL_EPOCH 0 = 0) ∧
    ((clk 2 (some 0) none).syncLost = true ∧ (clk 2 (some 0) none).ready = true) ∧
    ((clk 2 (some 0) none).boundTo 2 = false ∧ (clk 2 (some 0) none).order ≤ 1 ∧
      (clk 2 (some 0) none).baseGap 2 ≤ (clk 2 (some 0) none).slewMax ∧
      ({ clk 2 (some 0) none with time.t0 := 10 ^ 30 } : State).slewMax <
        ({ clk 2 (some 0) none with time.t0 := 10 ^ 30 } : State).baseGap 2) ∧
    ((clk 2 (some 0) (some 2)).baseGap 2 ≤ 8 * 1000000 ∧
      8 * 1000000 < ({ clk 2 (some 0) (some 2) with time.t0 := 10 ^ 30 } : State).baseGap 2) := by decide +kernel

/-- A running unit with both ring ports linked, channel 0 open for them, and a tagged frame of another source. -/
def ringUnit : State :=
  { unit with
    net.mac := 1#48
    net.ports := [(0, { mode := 1, link := true }), (1, { mode := 1, link := true })]
    host.frameChs := [(0, { isOpen := true, portMask := 3#16, rxHead := 0, rxTail := 4 })] }

/-- That frame. -/
def ringFrame : NetFrame := { port := 0, len := 64, taken := true, hsr := some 5, src := 2#48, ethertype := 0x0800 }

theorem test_witness_NetworkFramesComplete :
    (ringUnit.ready = true ∧ ringUnit.netPort 0 = true ∧ (ringUnit.port 0).link = true) ∧
    (ringUnit.secured 0 = false ∧ ringUnit.secured 1 = false ∧ ringFrame.pause = false ∧ ringFrame.src ≠ ringUnit.net.mac ∧
      ringUnit.dupLive ringFrame.src 5 = false) ∧
    (({ ringUnit with par.vals := [(pkey P.MACSEC_MODE 0, [1])] } : State).secured 0 = true ∧
      ({ ringUnit with par.vals := [(pkey P.MACSEC_MODE 0, [1])] } : State).secOk ringFrame = false) ∧
    (ringUnit.consumes 0x0800 = false ∧ (ringUnit.rxChannel 0).isSome = true) ∧
    (8 ≤ ringUnit.rst.stage ∧ ringUnit.rst.asserted = false) := by decide +kernel

/-- A unit with one installed key in slot 3, whose previous copy is `prev`. -/
def keyed (done installing : Bool) (prev : Option KeyCopy) : State :=
  { unit with
    host.freeList := [7]
    key.kekValid := true
    key.slots := [(3, { headSeq := 1, copyA := some { keyType := 2, dest := 1, seq := 1 }, copyB := prev
                        installing := installing, switchDone := done })]
    key.ops := if installing then [{ handle := 0x01000005#32, label := slotLabel 3 }] else [] }

theorem test_witness_KeyStoreComplete :
    ((keyed true false none).admitted keyRemoveInfo pkt = true ∧ lblOk (slotLabel 3) = true ∧
      ((keyed true false none).keyItem (slotLabel 3)).isSome = true ∧ (keyed true false none).labelUsed (slotLabel 3) = false ∧
      (keyed true false none).hasDerived (slotLabel 3) = false) ∧
    (unit.admitted keyInstallInfo pkt = true ∧
      keyFieldsOk { label := slotLabel 4, keyType := 3, dest := 3, keyLen := 97, key := List.replicate 97 0 } 8000 = true ∧
      unit.entriesFull { label := slotLabel 4, keyType := 3 } = false ∧
      unit.installAgrees (.queue 0) { label := slotLabel 4, keyType := 3, key := List.replicate 97 0 } = true ∧
      (keyed true false none).nextHandle.isSome = true) ∧
    (((keyed true true (some {})).key.ops.find? (fun o => o.handle == 0x01000005#32 && !o.flipped)).isSome = true ∧
      ((keyed true true (some {})).keyItem (slotLabel 3)).map (fun i => (prevCopy i).isSome && (curCopy i).isSome) = some true) ∧
    ((keyed false false none).keyItem (slotLabel 3)).map (fun i => i.switchDone) = some false ∧
    (({ keyed true false (some {}) with epoch := 10 ^ 9 } : State).govAttr (slotLabel 3)).getLsbD 1 = false ∧
    0 + ({} : KeyItem).overlapS * 8000 ≤ 10 ^ 9 ∧
    (unit.admitted keyListInfo pkt = true ∧ unit.admitted auditReadInfo pkt = true ∧ 64 ≤ pkt.room ∧
      unit.admitted tamperAckInfo pkt = true) ∧
    0 + unit.pn P.KEY_SCRUB_H 0 * 3600 * 8000 ≤ 10 ^ 12 ∧
    7#3 &&& BitVec.ofNat 3 (({ unit with par.vals := [(pkey P.TAMPER_EN 0, [7])] } : State).pn P.TAMPER_EN 0) ≠ 0#3 := by
  decide +kernel

/-- A setup packet for the operator from queue 0. -/
def ask : SetupArg := { src := .queue 0, role := 1 }

/-- A unit with an open session, a maker beside an installer, and a lockout of queue 0. -/
def bound : State :=
  { unit with
    host.queues := [(0, { pair0 with bind := some { role := .maker } }), (1, { pair0 with bind := some { role := .installer } })]
    host.sessions := [(1, { isOpen := true, lastEpoch := 0, idleS := 900 })]
    epoch := 10 ^ 9
    key.setups := [(setupKey ask, { lockUntil := 5 })] }

theorem test_witness_BindingsComplete :
    (unit.setupTakeable ask = true ∧ (unit.setupOf ask).lockUntil ≤ unit.epoch ∧
      ({ unit with key.setups := [(0, { lockUntil := 9000 })] } : State).epoch <
        (({ unit with key.setups := [(0, { lockUntil := 9000 })] } : State).setupOf ask).lockUntil) ∧
    (unit.setupTakeable { ask with src := .session 1 } = true ∧ unit.freeSession = some 0) ∧
    unit.proofOk ask [] [] = none ∧ unit.endFrom ask = true ∧
    ((bound.setupOf { src := .queue 0, mac := 0 }).lockUntil ≠ 0 ∧
      (bound.setupOf { src := .queue 0, mac := 0 }).lockUntil ≤ bound.epoch) ∧
    ((bound.sess 1).isOpen = true ∧ (bound.sess 1).lastEpoch + (bound.sess 1).idleS * 8000 ≤ bound.epoch) ∧
    (bound.admitted (makerInfo 0x04F0) pkt = true ∧ bound.installerHeld = true ∧ bound.prog.run.mode ≤ 1) := by
  decide +kernel

/-- The proof of an exchange under the maker's key. -/
theorem test_witness_BindingsComplete_proof :
    ∃ (s : State) (a : SetupArg) (p sk : List Byte), s.setupTakeable a = true ∧ (s.setupOf a).lockUntil ≤ s.epoch ∧
      s.proofOk a [] p = some sk := by
  refine ⟨{ bound with key.setups := [(0, { nonceM := some [], role := .maker, label := labelMaker })] },
    { src := .queue 0, role := 3, label := labelMaker },
    (Config.hmac384 (sessionKey bound.ident.fuseMaker [] [] 3 0) [1#8]).take 16,
    sessionKey bound.ident.fuseMaker [] [] 3 0, by decide, by decide, ?_⟩
  exact if_pos (by
    simp only [Bool.and_eq_true, decide_eq_true_eq]
    exact ⟨⟨⟨⟨rfl, rfl⟩, rfl⟩, by decide⟩, rfl⟩)

/-- A unit whose die runs, with channel 0 an active PWM or switched output and one analog output. -/
def fielded (mode range : Nat) : State :=
  { unit with
    rst.dieReleased := true
    fio.linkUp := true, fio.linkMiss := 8, fio.linkGood := 8, fio.maskUntil := 7
    fio.chans := [(0, { mode := mode, driven := true, hasValue := true })]
    fio.aouts := [(0, { range := range })]
    par.vals := [(pkey P.AOUT_DIAG_EN 0, [3])] }

theorem test_witness_FieldOutputsComplete :
    ((fielded 3 1).dieOn = true ∧ isOutMode ((fielded 3 1).fio1 0).mode = true ∧ ((fielded 3 1).fio1 0).driven = true ∧
      ((fielded 3 1).fio1 0).latch.getLsbD 1 = false ∧ ((fielded 5 1).fio1 0).mode = 5) ∧
    (shedPick [(0, ⟨0x40400000#32⟩), (1, ⟨0x40A00000#32⟩)]).map (fun x => x.1) = some 1 ∧
    ({ fielded 3 1 with fio.chans := [(0, { mode := 3 })] } : State).dieOn = true ∧
    ((fielded 3 1).admitted fieldAckInfo pkt = true ∧ 6 ≤ pkt.room) ∧
    ((fielded 3 1).fio.maskUntil ≠ 0 ∧ (fielded 3 1).fio.maskUntil ≤ (fielded 3 1).epoch) ∧
    ((fielded 3 2).aout1 0).range = 2 ∧ bitOf ((fielded 3 2).pn P.AOUT_DIAG_EN 0) 0 = true ∧
    bitOf ((fielded 3 2).pn P.AOUT_DIAG_EN 0) 1 = true ∧
    ((fielded 3 1).fio.linkUp = true ∧ 8 ≤ (fielded 3 1).fio.linkMiss) := by decide +kernel

/-- A running die with a pulse input on channel 0, a current input, and group 0 in the given state. -/
def supplied (g : FioGrp) : State :=
  { unit with
    rst.dieReleased := true
    fio.chans := [(0, { mode := 4 })], fio.ains := [(0, { range := 2 })], fio.groups := [(0, g)] }

theorem test_witness_FieldSuppliesComplete :
    ((supplied {}).dieOn = true ∧ isInMode ((supplied {}).fio1 0).mode = true ∧
      ((supplied { inputsValid := true }).grp1 (grpOfCh 0)).inputsValid = true ∧ ((supplied {}).ain1 0).range = 2) ∧
    F32.zero.rat < (supplied {}).pq P.GRP_WARN_V 0 ∧ F32.zero.rat < (supplied {}).pq P.GRP_CUTOFF_V 0 ∧
    F32.zero.rat < (supplied {}).pq P.GRP_VALID_V 0 ∧
    (supplied {}).pq P.GRP_WARN_V 0 + 1/2 ≤ (⟨0x42000000#32⟩ : F32).rat ∧
    (supplied {}).pq P.GRP_CUTOFF_V 0 + 1/2 ≤ (⟨0x42000000#32⟩ : F32).rat ∧
    (supplied {}).pq P.GRP_VALID_V 0 + 1/2 ≤ (⟨0x42000000#32⟩ : F32).rat ∧
    ((supplied { state := 3 }).grp1 0).holdFrom + 8 * ((supplied { state := 3 }).grp1 0).holdoff ≤
      (supplied { state := 3 }).epoch := by decide +kernel

/-- A unit with CAN channel 0 error active and a receive buffer 3 for every identifier. -/
def canUnit (integrating : Bool) : State :=
  { unit with
    can.chans := [(0, { state := 1, integrating := integrating })]
    par.vals := [(pkey P.CAN_BUF 3, [1, 0, 0, 0, 0, 0, 0, 0, 8])] }

theorem test_witness_CanReceptionComplete :
    (canHears ((canUnit false).canCh 0) = true ∧ (canUnit false).canFmtOn 0 0 = true ∧
      (canUnit false).rxBuf 0 {} = some 3 ∧ (canUnit false).rxBuf 0 { ext := true } = none) ∧
    ((canUnit true).canCh 0).integrating = true ∧ ((canUnit false).canCh 0).state = 1 ∧
    ((canUnit false).admitted canHpReadInfo pkt = true ∧ ((canUnit false).hpReply 0).length ≤ pkt.room) := by
  decide +kernel

/-- A unit with CAN channel 0 in a state and a transmit buffer 3 of a trigger, in the given condition. -/
def canTx (state trig : Nat) (b : CanBuf) : State :=
  { unit with
    rst.vio := 0xF#4, host.freeList := [7]
    can.chans := [(0, { state := state, integrating := false, holdUntil := if state = 3 then 5 else 0, observing := state == 3, txErr := 255 })]
    can.bufs := [(3, b)]
    par.vals := [(pkey P.CAN_BUF 3, [2, 0, trig, 0, 0, 0, 0, 0, 8, 0, 0, 1, 0])] }

theorem test_witness_CanTransmissionComplete :
    ((canTx 1 0 {}).admitted canTransmitInfo pkt = true ∧ (canTx 1 0 {}).bufN 0 3 0 = 2 ∧ (canTx 1 0 {}).bufN 0 3 2 = 0 ∧
      [1#8].length ≤ (canTx 1 0 {}).bufN 0 3 8 - (canTx 1 0 {}).trailerLen 0 3 ∧ (canTx 1 0 {}).nextHandle.isSome = true) ∧
    ((canTx 1 2 {}).live = true ∧ (canTx 1 2 {}).bufN 0 3 2 = 2 ∧ 0 < (canTx 1 2 {}).bufN 0 3 11 ∧
      (canTx 1 2 {}).epoch % (canTx 1 2 {}).bufN 0 3 11 = (canTx 1 2 {}).bufN 0 3 12) ∧
    (canSends ((canTx 1 0 { pending := true }).canCh 0) = true ∧ (canTx 1 0 { pending := true }).busFree 0 = true ∧
      (canTx 1 0 { pending := true }).nextTx 0 = some 3) ∧
    (((canTx 1 0 { committed := true }).canBuf 0 3).committed = true ∧
      (canTx 1 0 { committed := true }).tdcFails 0 3 0 = false ∧ (canTx 1 0 {}).bufOneShot 0 3 = false ∧
      255 < min 256 (((canTx 1 0 {}).canCh 0).txErr + 8)) ∧
    (((canTx 1 0 { pending := true }).canBuf 0 3).timeout ≤ ((canTx 1 0 { pending := true }).canBuf 0 3).elapsed) ∧
    (canTx 1 0 { committed := true }).admitted canBufCancelInfo pkt = true ∧
    (((canTx 3 0 {}).canCh 0).holdUntil ≠ 0 ∧ ((canTx 3 0 {}).canCh 0).holdUntil ≤ (canTx 3 0 {}).epoch ∧
      ((canTx 3 0 {}).canCh 0).observing = true ∧ (canTx 3 0 {}).vioGood 1 = true) ∧
    (({ unit with can.chans := [(0, { state := 3 })] } : State).admitted canRecoverInfo pkt = true) := by
  decide +kernel

/-- A unit with station 3 in a state, its link up, served by task 0 whose input close is due. -/
def stnUnit (st : Nat) : State :=
  { unit with
    net.ports := [(2, { mode := 2, link := true })]
    stn.stns := [(3, { state := st, tagFails := 8, servedEpoch := 8000, cfgDef := [1, 0, 0, 0, 1] })]
    prog.run.tasks := [(0, { closeDue := some 8000 })] }

/-- A frame of station 3. -/
def stnFrame (kind : Nat) : StnFrame := { station := 3, kind := kind, version := 1, epoch := 8000 }

theorem test_witness_StationsComplete :
    ((stnUnit 4).stnHears (stnFrame 3) = true ∧ (stnUnit 4).stnFrameOk { stnFrame 3 with version := 2 } = false ∧
      (stnUnit 4).live = true) ∧
    (((stnUnit 1).stn1 3).rxSeqs.contains (0, 0) = false ∧ ((stnUnit 1).stn1 3).state = 1 ∧
      beAt ([] : List Byte) 0 4 = ((stnUnit 2).stn1 3).cfgCrc.toNat ∧ ((stnUnit 4).stn1 3).lostDue = false) ∧
    ((stnFrame 3).epoch = ((stnUnit 4).stn1 3).servedEpoch ∧
      ((stnUnit 4).task1 ((stnUnit 4).stnF 3 2)).closeDue = some (stnFrame 3).epoch) ∧
    8 ≤ ((stnUnit 4).stn1 3).tagFails ∧ (stnUnit 4).waitEnd 0 8000 ≤ (stnUnit 4).epoch + 1000 ∧
    (({ stnUnit 4 with par.vals := [(pkey P.STN_DEF 3, [1, 0, 0, 0, 1])], epoch := 16000 } : State).stnOn 3 = true ∧
      ({ stnUnit 4 with par.vals := [(pkey P.STN_DEF 3, [1, 0, 0, 0, 1])], epoch := 16000 } : State).servedAt 3 16000 = true) := by
  decide +kernel

/-- A unit in a mode of the program controller with a staged program of one task. -/
def progUnit (mode : Nat) : State :=
  { unit with
    prog.bankA := some { key := 1#64, serial := 3 }, prog.bankB := some { key := 2#64, serial := 4 }
    prog.hasActive := true, prog.staged := true, prog.run.mode := mode }

theorem test_witness_ProgramCommandsComplete :
    ((progUnit 1).admitted progLoadInfo pkt && (progUnit 1).admitted progDiscardInfo pkt &&
      (progUnit 1).admitted progExchangeInfo pkt && (progUnit 3).admitted runInfo pkt &&
      (progUnit 2).admitted stopInfo pkt && (progUnit 2).admitted holdInfo pkt && (progUnit 4).admitted faultAckInfo pkt) = true ∧
    (progUnit 1).prog.op = none ∧ (progUnit 1).stagedProg = some { key := 2#64, serial := 4 } ∧
    (progUnit 1).fitted = true ∧ (progUnit 1).nextHandle.isSome = true ∧ (progUnit 2).admitted runInfo pkt = true := by
  decide +kernel

theorem test_witness_ProgramModesComplete :
    ({ progUnit 2 with prog.modeDue := [(3, 7999, 1)] } : State).live = true ∧ (progUnit 2).exchangeBefore 1 = false ∧
      ({ progUnit 2 with prog.op := some { kind := 2, acc := 7, seq := 0 } } : State).exchangeBefore 1 = true ∧ modeListed 3 2 = true ∧
      (progUnit 3).prog.run.holdFrom + 0 * 8000 ≤ (progUnit 3).epoch ∧
    ({ progUnit 1 with prog.startDue := true, prog.startMode := 1, rst.dieReleased := true, rst.outCfgDone := true } : State).prog.run.mode = 1 ∧
    (({ progUnit 2 with prog.run.tasks := [(0, { cycle := some { c := 100, d := 200 } })] } : State).task1 0).cycle =
      some { c := 100, d := 200 } ∧
    (progUnit 2).activeProg = some { key := 1#64, serial := 3 } ∧ (progUnit 2).ready = true ∧
    ({ progUnit 1 with epoch := 800000000 } : State).prog.lastRetain +
      ({ progUnit 1 with epoch := 800000000 } : State).pn P.RETAIN_PERIOD_S 0 * 8000 ≤ 800000000 ∧
    ({ progUnit 1 with prog.op := some { kind := 2, acc := 7 } } : State).stagedProg = some { key := 2#64, serial := 4 } ∧
    (progUnit 1).modesDue = [] ∧ ((progUnit 1).atOrder 3).exchangeCode { key := 2#64, serial := 4 } = 0 := by
  decide +kernel

theorem test_witness_TaskCyclesComplete :
    ({ progUnit 2 with par.vals := [(pkey P.TASK_ENABLE 0, [1])] } : State).cycleDue 0 = true ∧
    (({ progUnit 2 with prog.run.tasks := [(0, { cycle := some { c := 7992, d := 8008, closed := true } })] } : State).task1 0).cycle =
      some { c := 7992, d := 8008, closed := true } ∧
    (progUnit 2).activeProg = some { key := 1#64, serial := 3 } ∧ (progUnit 2).live = true ∧ (progUnit 2).prog.run.mode = 2 ∧
    (progUnit 2).fitted = true ∧ isOutMode (({ unit with fio.chans := [(3, { mode := 3 })] } : State).fio1 3).mode = true := by
  decide +kernel

/-- A unit whose lane 5 is enabled and samples at every eighth tick. -/
def laneUnit : State :=
  { unit with
    rst.outCfgDone := true, par.vals := [(pkey P.LANE_ENABLE 5, [1])]
    lane.lanes := [(5, { periodForce := 8, enabled := true })] }

theorem test_witness_LanesComplete_a :
    laneUnit.lanesRun = true ∧ laneUnit.laneTick 5 = true ∧ (laneUnit.lane? 5).lastDue ≠ some laneUnit.epoch ∧
    (laneUnit.lane? 5).sample = none ∧ laneUnit.pn P.LANE_ENABLE 5 = 1 ∧
    ({ laneUnit with par.vals := [] } : State).pn P.LANE_ENABLE 5 ≠ 1 ∧ (laneUnit.lane? 5).enabled = true ∧
    (({ laneUnit with lane.lanes := [(5, { sample := some { start := 8000, point := some 3 } })] } : State).lane? 5).sample =
      some { start := 8000, point := some 3 } ∧
    isOutMode (({ laneUnit with fio.chans := [(3, { mode := 3 })] } : State).fio1 3).mode = true ∧
    (({ laneUnit with lane.lanes := [(5, { swapPend := some 7 })] } : State).lane? 5).swapPend = some 7 := by
  decide +kernel

theorem test_witness_LanesComplete_b :
    laneUnit.admitted bankSwapInfo pkt = true ∧ laneUnit.admitted laneAckInfo pkt = true ∧
    laneUnit.admitted periodRestoreInfo pkt = true ∧ swapRange [5, 9] 8000 laneUnit.epoch = true ∧
    laneUnit.nextHandle.isSome = true ∧
    ([5, 9].any fun l => !laneUnit.bankOk (laneUnit.inactiveBank l) l) = false ∧ laneUnit.slotsOk = true ∧
    laneUnit.procTurn 5 = true := by
  decide +kernel

/-- A unit with an active model of one pump set, and a staged one. -/
def modelUnit : State :=
  { unit with
    model.bankA := some { key := 1#64, elems := [le 4 0x06000001 ++ List.replicate 92 0#8] }
    model.bankB := some { key := 2#64 }, model.hasActive := true, model.staged := true }

/-- A write of two values into series 4. -/
def serWr : SeriesWr := { series := 4, kind := 1, res := 15, count := 2, variants := 1, n := 2, vals := [F32.one, F32.one] }

theorem test_witness_ModelsAndSeriesComplete_a :
    (modelUnit.admitted modelLoadInfo pkt && modelUnit.admitted modelDiscardInfo pkt &&
      modelUnit.admitted modelActivateInfo pkt && modelUnit.admitted elementServiceInfo pkt &&
      modelUnit.admitted seriesWriteInfo pkt && modelUnit.admitted seriesCommitInfo pkt) = true ∧
    modelUnit.model.op = none ∧ modelUnit.stagedModel = some { key := 2#64 } ∧ 2 ≤ modelUnit.host.freeList.length ∧
    modelUnit.nextHandle.isSome = true ∧ modelUnit.ready = true ∧ modelUnit.activeModel.isSome = true ∧
    serviceTypes.contains (idType 0x06000001) = true ∧
    (findElem { elems := [le 4 0x06000001 ++ List.replicate 92 0#8] } 0x06000001).isSome = true := by
  decide +kernel

theorem test_witness_ModelsAndSeriesComplete_b :
    seriesFieldsOk serWr = true ∧ tget modelUnit.model.seriesStaged 4 = none ∧
    (let x := seriesPut serWr (seriesFresh serWr (.queue 0))
     seriesSame serWr x = true ∧ x.owner = pkt.src ∧
     ({ modelUnit with model.seriesStaged := [(4, x)] } : State).seriesFail (.queue 0) 4 = none ∧
     ({ modelUnit with model.seriesStaged := [(4, x)] } : State).seriesFail (.queue 0) 5 = none) := by
  decide +kernel

/-- A unit with an active model, solving enabled. -/
def solveUnit : State :=
  { modelUnit with
    slv.startupDone := true, par.vals := [(pkey P.SOLVE_ENABLE 0, [1])]
    slv.slots := [(2, { filled := true, stop := 8000 })] }

theorem test_witness_SolvesComplete_a :
    (solveUnit.admitted solveInfo pkt && solveUnit.admitted flexActivateInfo pkt &&
      solveUnit.admitted flexWithdrawInfo pkt) = true ∧ solveUnit.activeModel.isSome = true ∧
    solveUnit.slv.waiting = none ∧ solveUnit.nextHandle.isSome = true ∧ (tgetD solveUnit.slv.slots 2 {}).filled = true ∧
    solveUnit.solveOn = true ∧ (tgetD solveUnit.slv.slots 2 {}).stop ≤ solveUnit.epoch ∧ solveUnit.slv.stale = false ∧
    ({ solveUnit with epoch := 7200000000 } : State).slv.lastBoundary +
      ({ solveUnit with epoch := 7200000000 } : State).pn P.PLAN_STALE_S 0 * 8000 ≤ 7200000000 ∧
    solveUnit.flexOk { grid := 0x08000001, start := 0, stop := 9000 } = false ∧
    ({ solveUnit with model.bankA := some { elems := [le 4 0x08000001 ++ List.replicate 60 0#8] } } : State).flexOk
      { grid := 0x08000001, start := 0, stop := 9000 } = true := by
  decide +kernel

theorem test_witness_SolvesComplete_b :
    solveUnit.pn P.SOLVE_ENABLE 0 = 1 ∧
    ({ solveUnit with epoch := solveUnit.cadence * 3 } : State).atCadence = true ∧
    solveUnit.actOpen = false ∧ solveUnit.booting = false ∧ solveUnit.nextStart = 0 ∧
    ({ solveUnit with slv.waiting := some { acc := 7, kind := 1 } } : State).nextStart = 2 ∧
    ({ solveUnit with slv.fastPend := some { acc := 7 } } : State).nextStart = 3 ∧
    ({ solveUnit with model.op := some { kind := 2 } } : State).nextStart = 4 ∧
    ({ solveUnit with slv.startupDone := false, perc.set := some {} } : State).nextStart = 5 := by
  decide +kernel

/-- A plan of the active model of `solveUnit`. -/
def plan1 : Plan := { modelKey := 1#64, hstart := 8000, solveStart := 7000, quality := { status := 1 } }

/-- A solve that runs, from epoch 7000, for at most `budget` ms. -/
def solve1 (stop budget : Nat) : Solve :=
  { trigger := 1, start := 7000, hstart := 9000, budget := budget, stopReq := stop, iterMax := 50 }

/-- What ends it at epoch 8000. -/
def end1 (status : Nat) : SolveResult := { status := status, timeUs := 125000, rounded := status == 1 }

theorem test_witness_PlansComplete_a :
    ({ solveUnit with slv.running := some (solve1 0 200) } : State).freeBuf = some 0 ∧ solveUnit.solveOn = true ∧
    inputMissing (solve1 0 200).inputs = false ∧ solveUnit.solveTime (solve1 0 200) (end1 1).timeUs = true ∧
    planAdmitted (solve1 0 200) (end1 1) = true ∧ (end1 1).timeUs ≤ (solve1 0 200).budget * 1000 ∧
    solveUnit.epoch < (solve1 0 200).hstart ∧ (solve1 0 200).cancelAfter = false ∧ (end1 5).status = 5 ∧
    (end1 5).traj.all F32.isFin = true ∧ (solve1 5 200).publishing = false := by
  decide +kernel

theorem test_witness_PlansComplete_b :
    (solve1 0 100).start + 8 * (solve1 0 100).budget ≤ solveUnit.epoch ∧
    solveUnit.solveTime (solve1 0 100) (end1 2).timeUs = true ∧
    ({ solveUnit with slv.staged := [{ plan := plan1 }] } : State).modelAfter = (plan1.modelKey, plan1.modelSerial) ∧
    plan1.hstart ≤ solveUnit.epoch ∧ solveUnit.planGood plan1 = true ∧
    solveUnit.planGood { plan1 with quality := { status := 5 } } = false := by
  decide +kernel

/-- A unit whose Percolator follows a model of one pipe segment. -/
def percUnit : State :=
  { unit with
    epoch := 57896000, perc.effPeriodMs := 1000
    model.bankA := some { key := 1#64, elems := [le 4 0x02000001 ++ List.replicate 60 0#8] }, model.hasActive := true }

theorem test_witness_EstimationComplete :
    percUnit.activeModel.isSome = true ∧ percUnit.percOn = true ∧
    ((percUnit.epoch : Int) - (percUnit.pn P.PERC_PHASE_TICKS 0 : Int)) % ((percUnit.perc.effPeriodMs * 8 : Nat) : Int) = 0 ∧
    percUnit.perc.upd = none ∧ percUnit.perc.mappingDue = none ∧
    percUnit.percResultOk { model := some { elems := [le 4 0x01000001 ++ List.replicate 60 0#8] } }
      { elems := [le 4 0x01000001 ++ List.replicate 60 0#8] } { vals := [(8 * 0x01000001, (60, 1))] } = true ∧
    percUnit.onGrid (percUnit.pn P.CAL_WINDOW_MIN 0) = true ∧
    percUnit.perc.windowStart < percUnit.epoch ∧ percUnit.onGrid (percUnit.calPar P.CAL_WINDOW_MIN) = true ∧
    percUnit.admitted calReadInfo pkt = true ∧ percUnit.admitted calResetInfo pkt = true ∧
    (calList { elems := [le 4 0x05000001 ++ List.replicate 60 0#8] }).length = 1 := by
  decide +kernel

theorem test_witness_AnalogFramesComplete :
    unit.dieOn = false ∧ ({ unit with rst.dieReleased := true } : State).dieOn = true ∧ unit.time.running = true ∧
    unit.epoch % 32 = 0 ∧ unit.afe.slot < 16 ∧
    (({ unit with fio.ains := [(2, { range := 1 })] } : State).ain1 2).range ≠ 0 := by
  decide +kernel

/-- A gateway of level 5 on a tick at which every level opens a round, its ports up. -/
def fedUnit : State :=
  { unit with
    epoch := 480000, fed.role := 1, fed.addr := 5, fed.ownVersion := 2, fed.closeDue := [(4, true)]
    fed.members := [(4, [{ addr := 9 }])], fed.windows := [(4, [480000, 0xFFFF, 0, 15, 4, 3600])]
    net.ports := [(0, { mode := 1, link := true }), (3, { mode := 3, link := true })] }

/-- The same one tick before the round closes. -/
def duringRound : State := { fedUnit with epoch := 15999 }

/-- A message of device 9. -/
def qmsg (kind port : Nat) : QMsg :=
  { port := port, kind := kind, level := 4, src := 9, dst := qAll, version := 2, segCount := 1, claim := 1 }

theorem test_witness_FederationComplete :
    fedUnit.live = true ∧ levelOk 4 = true ∧ fedUnit.epoch % roundTicks 4 = 0 ∧
    tgetD fedUnit.fed.openings 4 0 + roundTicks 4 ≤ fedUnit.epoch ∧ fedUnit.qListens (qmsg 2 0) = true ∧
    qHeadOk (qmsg 2 0) 2 = true ∧ qHeadOk (qmsg 1 0) 1 = true ∧ fedUnit.speaks 2 = true ∧ fedUnit.speaks 4 = false ∧
    fedUnit.claimOk (qmsg 2 0) = true ∧ duringRound.inRound (qmsg 2 0) = true ∧ duringRound.qListens (qmsg 2 0) = true ∧
    duringRound.speaks 2 = true ∧ duringRound.claimOk (qmsg 2 0) = true ∧ fedUnit.computes 4 = true ∧
    ({ fedUnit with fed.peers := [(9, { claim := 2, seen := true })] } : State).claimOk (qmsg 2 0) = false ∧
    fedUnit.admitted forgetMemberInfo pkt = true ∧ fedUnit.ready = true ∧ fedUnit.qPortOk 0 = true ∧
    fedUnit.qPortOk 3 = true ∧ (tget fedUnit.fed.windows 4).isSome = true ∧ (tget fedUnit.fed.windows 5) = none := by
  decide +kernel

/-- A synced standby of a pair, its pair link up. -/
def standbyUnit : State :=
  { unit with
    pair := { unit := .synced, partner := some .active, floor := 1, ownCv := 1, building := some { k := 8000 }
              buildFrags := 1, buildBytes := [1#8], afterFull := 1, latest := some { k := 7600 } }
    rst.vio := 15#4, epoch := 90000 }

/-- A standby at a message period, with a key for its pair link. -/
def linkUnit : State :=
  { standbyUnit with
    epoch := 89600, par.vals := [(pkey P.PAIR_KEY_LABEL 0, [0])], net.ports := [(4, { mode := 4, link := true })]
    key.kekValid := true
    key.slots := [(0, { copyA := some { keyType := 2, dest := 1, good := true } })] }

theorem wit_pair_heartbeat :
    linkUnit.ready = true ∧ linkUnit.paired = true ∧ linkUnit.hbDue = true ∧
      linkUnit.liveCheck = true ∧ linkUnit.time.running = true ∧
      linkUnit.epoch % 16 = 0 ∧ linkUnit.pairTx = true := by decide

theorem wit_pair_checkpoint :
    standbyUnit.takesCkpt { version := 1, epoch := 8000, len := 8 } = true ∧ standbyUnit.pair.rxSeqSeen = false ∧
      standbyUnit.pair.building = some { k := 8000 } ∧ standbyUnit.pair.afterFull ≠ 0 ∧ standbyUnit.clashes = false ∧
      standbyUnit.clocked = true ∧ standbyUnit.isStandby = true ∧ standbyUnit.pair.lastFlush + 80000 ≤ standbyUnit.epoch ∧
      standbyUnit.pair.syncAt + 80000 < standbyUnit.epoch := by decide

theorem wit_pair_fragment :
    standbyUnit.takesCkpt { version := 1, epoch := 8000, len := 1, sect := 3 } = true ∧
      sectNo (.s3 {}) = 3 ∧ standbyUnit.rst.vio.getLsbD 0 = true := by decide

theorem wit_pair_sync :
    ({ standbyUnit with pair.unit := .active } : State).ready = true ∧
      ({ standbyUnit with pair.unit := .active } : State).pair.ownCv = 1 := by decide

/-- A standby whose partner has been silent. -/
def lonelyUnit : State := { standbyUnit with pair.claimReport := some 5 }

theorem wit_roles_failed : lonelyUnit.clocked = true ∧ lonelyUnit.order ≤ 2 ∧ lonelyUnit.failDue = true ∧
    lonelyUnit.pair.unit = .synced ∧ lonelyUnit.clashes = false := by decide

theorem wit_roles_resume :
    ({ lonelyUnit with pair.resuming := true } : State).clocked = true ∧
      ({ lonelyUnit with pair.resuming := true } : State).pair.resumeFrom < lonelyUnit.epoch := by decide

theorem wit_roles_demotion :
    ({ lonelyUnit with pair.unit := .active, pair.partner := none } : State).clocked = true ∧
      ({ lonelyUnit with pair.unit := .active, pair.partner := none } : State).failDue = false ∧
      ({ lonelyUnit with pair.unit := .active, pair.partner := none } : State).pair.claim < 5 := by decide

theorem wit_roles_demoted :
    ({ lonelyUnit with pair.unit := .demoted, pair.demotedHold := true, pair.demotedAt := 20000 } : State).holdOffOver =
      true ∧
      ({ lonelyUnit with pair.unit := .demoted, pair.demotedHold := true, pair.demotedAt := 20000 } : State).clashes =
      false := by decide

/-- An active unit with a synced partner at a checkpoint epoch. -/
def activeUnit : State :=
  { linkUnit with
    pair.unit := .active, pair.partner := some .synced
    pair.switchover := some { handle := 1#32, k := 100 } }

theorem wit_roles_checkpoint : activeUnit.live = true ∧ activeUnit.ckptTaker = true ∧
    activeUnit.pair.lastSent = none ∧ activeUnit.ckptNow ≤ activeUnit.viewAll ∧ 100 ≤ activeUnit.ckptNow ∧
    ({ activeUnit with pair.partner := some .syncing } : State).ckptTaker = true := by decide

theorem wit_roles_start :
    ({ lonelyUnit with pair.unit := .starting } : State).ready = true ∧
      ({ lonelyUnit with pair.unit := .starting } : State).pair.startUntil ≤ lonelyUnit.epoch ∧
      ({ lonelyUnit with pair.unit := .starting } : State).pair.partner = some .active := by decide

theorem wit_roles_floor :
    ({ lonelyUnit with pair.floorPend := 2 } : State).paired = true ∧ lonelyUnit.pair.floorSwitch ≤ lonelyUnit.epoch ∧
      lonelyUnit.isStandby = true := by decide

theorem wit_roles_switchover :
    ({ activeUnit with pair.switchover := none } : State).admitted pairSwitchoverInfo pkt = true ∧
      activeUnit.nextHandle.isSome = true ∧ lonelyUnit.admitted pairResyncInfo pkt = true := by decide +kernel

/-- A governed unit with a port in use, whose bulk supply is good. -/
def powerUnit : State :=
  { unit with drip.vbulkOk := true, pwr.sagGuard := true, net.ports := [(3, { mode := 2 })] }

theorem wit_power_margin :
    powerUnit.pn P.GOV_MODE 0 = 0 ∧ 7 ≤ powerUnit.rst.stage ∧ powerUnit.classActive 3 = true ∧
      tget powerUnit.pwr.lastMargin 0 = none ∧
      F32.lt (powerUnit.marginSeen 3 (powerUnit.measured 3 F32.zero)).smallest (powerUnit.pf P.GOV_TARGET 0) = true ∧
      F32.lt (powerUnit.marginSeen 3 (powerUnit.measured 3 F32.one)).smallest (powerUnit.pf P.GOV_TARGET 0) = false ∧
      unit.pwr.breach = false ∧ F32.le (F32.add (unit.pf P.GOV_TARGET 0) (F32.ofRatio 5 100)) unit.smallest = true ∧
      F32.le (F32.add (unit.pf P.GOV_TARGET 0) (F32.ofRatio 5 100)) F32.one = true ∧
      unit.pwr.settleFrom + 8 * unit.pn P.GOV_SETTLE_MS 0 ≤ unit.epoch + 1000000 ∧
      unit.pn P.GOV_MIN_MV 0 < unit.pwr.setMv := by decide +kernel

theorem wit_power_vbulk :
    F32.lt F32.zero (fof (powerUnit.dripVal P.VBULK_WARN_V 0)) = true ∧
      F32.lt (F32.ofRatio 12 1) (fof (unit.dripVal P.VBULK_WARN_V 0)) = false ∧
      F32.le unit.warnUp (F32.ofRatio 12 1) = true ∧ unit.drip.vbulkOk = false ∧
      F32.le powerUnit.warnUp (F32.ofRatio 12 1) = true ∧
      powerUnit.pwr.sagFrom + powerUnit.pwr.sagHold * 8000 ≤ powerUnit.epoch := by decide +kernel

theorem wit_power_wake :
    bitOf (({ unit with drip.cfg := [(pkey P.WAKE_EDGE 0, [1]), (pkey P.WAKE_EN 0, [1])] } : State).dripVal
      P.WAKE_EDGE 0) 0 = true ∧
      bitOf (({ unit with drip.cfg := [(pkey P.WAKE_EDGE 0, [1]), (pkey P.WAKE_EN 0, [1])] } : State).dripVal
      P.WAKE_EN 0) 0 = true ∧
      bitOf (({ unit with drip.cfg := [(pkey P.WAKE_EDGE 0, [1])] } : State).dripVal P.WAKE_EDGE 0) 1 = false := by decide

theorem wit_power_drip :
    (unit.drip.vaonOk = false ∧ F32.le (F32.ofRatio 21 10) (F32.ofRatio 3 1) = true) ∧ unit.rst.vbulkGood = false ∧ ({ unit with drip.onVaon := true, key.kekValid := true } : State).drip.onVaon = true ∧
      ({ unit with drip.onVaon := true, key.kekValid := true } : State).key.kekValid = true := by decide

theorem wit_supply_vbulk :
    ({ unit with rst.vbulkGood := true } : State).rst.vbulkGood = true ∧
      F32.lt (F32.ofRatio 8 1) (F32.ofRatio 9 1) = true ∧ unit.rst.vbulkGood = false ∧
      F32.lt (F32.ofRatio 96 10) (F32.ofRatio 12 1) = true ∧ unit.rst.pinLow = false := by decide +kernel

theorem wit_supply_lands :
    unit.hostUp = true ∧ ({ unit with rst.vio := 15#4 } : State).vioGood 2 = true ∧
      ({ unit with rst.vio := 15#4 } : State).vioGood 1 = true ∧ unit.ready = true ∧
      ({ unit with rst.vio := 15#4, can.chans := [(0, { state := 1 })] } : State).ready = true ∧
      (({ unit with rst.vio := 15#4, can.chans := [(0, { state := 1 })] } : State).canCh 0).state = 1 ∧
      ({ unit with rst.vio := 0#4 } : State).vioGood 1 = false := by decide

theorem wit_supply_temps :
    unit.dieFitted 0 = true ∧ F32.lt (F32.ofRatio 115 1) (F32.ofRatio 120 1) = true ∧
      unit.rst.overTemp.contains 0 = false ∧ F32.lt (F32.ofRatio 115 1) (F32.ofRatio 100 1) = false := by decide +kernel

/-- A module in release at a step. -/
def stageUnit (k : Nat) : State := { State.reset with rst.stage := k, rst.vbulkGood := true, rst.vio := 15#4 }

theorem wit_release_steps :
    (∀ k < 10, (stageUnit k).mayRelease = true) ∧ (stageUnit 10).mayRelease = false ∧ (stageUnit 7).rst.vio = 15#4 ∧
      ({ stageUnit 7 with rst.vio := 7#4 } : State).rst.vio ≠ 15#4 ∧
      ({ stageUnit 7 with rst.fwRunningTrial := true } : State).rst.stage < 10 ∧ 5 ≤ (stageUnit 7).nextRelease ∧
      (stageUnit 1).nextRelease < 5 := by decide

theorem wit_release_trial :
    ({ stageUnit 3 with rst.fwTrialNext := true, rst.fwLoaded := some {} } : State).mayRelease = true ∧
      ({ stageUnit 3 with rst.fwTrialNext := true, rst.fwLoaded := some {} } : State).rst.fwLoaded = some {} := by decide

theorem wit_release_commands :
    unit.admitted resetInfo pkt = true ∧ unit.roleOf pkt.src ≠ .maker ∧ unit.admitted fwLoadInfo pkt = true ∧
      unit.rst.fwOp = none ∧ unit.rst.fwRunningTrial = false ∧ unit.admitted fwActivateInfo pkt = true ∧
      unit.admitted blockResetInfo pkt = true ∧ unit.nextHandle.isSome = true := by decide +kernel

theorem wit_release_blocks :
    unit.fitted = true ∧ blockNamed 2 0 = true ∧ (unit.take pkt).blockIdle 2 0 = true ∧ blockNamed 5 3 = true ∧
      (unit.take pkt).blockIdle 5 3 = true ∧ blockNamed 6 0 = true ∧ (unit.take pkt).blockIdle 6 0 = true ∧
      blockNamed 7 1 = true ∧ ({ unit with par.vals := [(pkey P.PORT_ENABLE 1, [0])] } : State).blockIdle 7 1 = true ∧
      ([{ handle := 1#32, block := 2 }] : List BlockOp).find? (fun o => o.handle == 1#32) =
        some { handle := 1#32, block := 2 } := by decide +kernel

theorem wit_release_maker :
    ({ unit with host.queues := [(0, { pair0 with bind := some { role := .maker } }), (1, pair0)] } : State).roleOf
      pkt.src = .maker ∧
      ({ unit with host.queues := [(0, { pair0 with bind := some { role := .maker } }), (1, pair0)] } :
        State).installerHeld = true := by decide

/-- A running unit with an open management session 0. -/
def mgmtUnit : State :=
  { unit with
    host.sessions := [(0, { isOpen := true, bind := some { role := .installer } })] }

/-- A command frame of session 0 with its tag. -/
def frame : Hdr :=
  { src := .session 0, tag := 7#32, mgmtSeq := 1, dataLen := 1409, mgmtTag := Config.gcmTag ({ role := .installer } : Binding).sk (mgmtNonce 0 0 1) (mgmtHeader 0 2 1) [] }

theorem test_witness_HostPortOnlyCommands :
    packetOf (.modelLoad frame) = some (modelLoadInfo, frame) ∧ packetOf (.run frame) = some (runInfo, frame) ∧
    packetOf (.run pkt) = some (runInfo, pkt) ∧ mgmtUnit.takeable frame = true := by
  refine ⟨rfl, rfl, rfl, ?_⟩
  unfold State.takeable
  rw [show mgmtUnit.ready = true by decide]
  simp [frame, mgmtUnit, State.sess, State.frameOk, tgetD, tget, unit, State.reset]

theorem test_witness_PciePerstDisablesTheHostPort :
    unit.hostUp = true ∧ (unit.queue 0).enable = true ∧ ({ unit with rst.perst := true } : State).rst.perst = true := by
  decide

theorem test_witness_ResetValuesAsGiven :
    (∃ r, pspec P.GOV_PIN_MV = some r ∧ r.dflt = [800]) ∧ levelDefault P.GOV_PIN_MV 0 = none ∧
    isBankId P.GOV_PIN_MV = false ∧ P.GOV_PIN_MV ≠ P.STN_DEST_MAC := by decide

theorem test_witness_EveryPacketIsRecordedAnsweredAndThenActs :
    packetOf (.run pkt) = some (runInfo, pkt) ∧ runInfo.isRead = false ∧ packetOf (.echo pkt []) = some (echoInfo, pkt) ∧
    echoInfo.isRead = true ∧ unit.takeable pkt = true :=
  ⟨rfl, rfl, rfl, rfl, by decide⟩

/-- A unit in which every handle is in use. -/
def full (u : State) : State := { u with host.freeList := [] }

theorem test_witness_NoFreeHandleIsBusy_a :
    ((full staged).admitted commitInfo pkt && (full unit).admitted snapshotInfo pkt &&
      (full (canTx 1 0 {})).admitted canTransmitInfo pkt && (full laneUnit).admitted bankSwapInfo pkt &&
      (full (progUnit 1)).admitted progLoadInfo pkt && (full (progUnit 1)).admitted progExchangeInfo pkt &&
      (full modelUnit).admitted modelLoadInfo pkt && (full modelUnit).admitted modelActivateInfo pkt &&
      (full solveUnit).admitted solveInfo pkt && (full solveUnit).admitted flexActivateInfo pkt &&
      (full solveUnit).admitted flexWithdrawInfo pkt && (full unit).admitted keyInstallInfo pkt &&
      (full { activeUnit with pair.switchover := none }).admitted pairSwitchoverInfo pkt &&
      (full unit).admitted blockResetInfo pkt && (full unit).admitted fwLoadInfo pkt) = true := by decide +kernel

theorem test_witness_NoFreeHandleIsBusy_b :
    (firstBad (((full staged).take pkt).itemCode pkt.src) 0 [(0x0101, 0)] = none ∧
      (((full staged).take pkt).commitCode pkt.src [(0x0101, 0)]).2 = St.OK) ∧
    ((full unit).take pkt).membersCode [{ kind := 6, first := 0, count := 1 }] = St.OK ∧
    (((full (canTx 1 0 {})).take pkt).bufN 0 3 0 = 2 ∧ ((full (canTx 1 0 {})).take pkt).bufN 0 3 2 = 0 ∧
      (((full (canTx 1 0 {})).take pkt).canBuf 0 3).pending = false) ∧
    ((((full laneUnit).take pkt).bankOk (((full laneUnit).take pkt).inactiveBank 5) 5 && ((full laneUnit).take pkt).slotsOk) = true) ∧
    ((full (progUnit 1)).take pkt).stagedProg = some { key := 2#64, serial := 4 } ∧
    ((full modelUnit).take pkt).stagedModel = some { key := 2#64 } ∧
    ((full solveUnit).take pkt).activeModel.isSome = true ∧ (tgetD (full solveUnit).slv.slots 2 {}).filled = true ∧
    ((full { solveUnit with model.bankA := some { elems := [le 4 0x08000001 ++ List.replicate 60 0#8] } }).take pkt).flexOk
      { grid := 0x08000001, start := 0, stop := 9000 } = true ∧
    ((full unit).take pkt).installAgrees (.queue 0) { label := slotLabel 4, keyType := 3, key := List.replicate 97 0 } = true ∧
    blockNamed 2 0 = true ∧ ((full unit).take pkt).blockIdle 2 0 = true := by decide +kernel

theorem test_witness_HandleNumbersFollowTheirRule :
    (({ unit with host.freeList := [1023, 5], host.handles := [(1023, { gen := 255 })] } : State).hent 1023).gen ≤ 255 ∧
    ({ unit with host.freeList := [1023, 5], host.handles := [(1023, { gen := 255 })] } : State).nextHandle =
      some 0x010003FF#32 := by decide

/-- A unit with handle 16#01000005 open for a full queue 0. -/
def fullQueue : State :=
  { unit with
    host.queues := [(0, { pair0 with cqCount := 16 })]
    host.handles := [(5, { gen := 1, st := .opened, src := .queue 0, cq := .queue 0 })] }

/-- The same once the operation has ended. -/
def keptRecord : State :=
  { unit with host.handles := [(5, { gen := 1, st := .completed, src := .queue 0, cq := .queue 0, record := some {} })] }

theorem test_witness_FullQueueKeepsTheRecordInItsHandle :
    (fullQueue.hOpen 0x01000005#32 = true ∧ (fullQueue.hent 5).closed = false ∧ (fullQueue.queue 0).cqFull = true) ∧
    ((keptRecord.take pkt).holds pkt.src 0x01000005#32 = true ∧ ((keptRecord.take pkt).hent 5).st = .completed ∧
      keptRecord.admitted handleQueryInfo pkt = true ∧ keptRecord.admitted handleCloseInfo pkt = true ∧
      (entryBytes {} ++ ((keptRecord.take pkt).hent 5).recData).length ≤ pkt.room) := by decide +kernel

/-- A running unit with its ring and access ports up. -/
def portsUnit : State := { unit with net.ports := [(0, { mode := 1, link := true }), (2, { mode := 2, link := true })] }

theorem test_witness_LongFramesAreDiscardedAndCounted :
    portsUnit.ready = true ∧ (portsUnit.port 0).link = true ∧ portsUnit.netPort 0 = true ∧
    (portsUnit.port 2).link = true ∧ (portsUnit.port 2).mode ≠ 0 ∧ portsUnit.netPort 2 = false := by decide

theorem test_witness_SectionOneIsWrittenAtOnce :
    standbyUnit.takesCkpt { version := 1, epoch := 8000, len := 8 } = true ∧ standbyUnit.pair.rxSeqSeen = false ∧
    standbyUnit.pair.building = some { k := 8000 } ∧ standbyUnit.pair.buildFrags = 1 ∧ unit.rst.pinLow = false ∧
    ({ standbyUnit with pair.building := some { k := 8000, sec1 := some {} } } : State).pair.building =
      some { k := 8000, sec1 := some {} } := by decide

/-- A unit with a solve at the end of its budget. -/
def solveAtBound : State :=
  { unit with
    slv.running := some { start := 0, budget := 20 } }

theorem test_witness_WorkAtItsBoundEndsAndTheClockGoesOn :
    solveAtBound.time.running = true ∧ solveAtBound.rst.asserted = false ∧ solveAtBound.overdue = true := by decide

/-- A unit in RUN, task 0 enabled and at its cycle tick. -/
def runTask0 : State := { progUnit 2 with par.vals := [(pkey P.TASK_ENABLE 0, [1])] }

/-- A unit in RUN with a cycle of task 0 in progress. -/
def inCycle (y : Cycle) : State := { progUnit 2 with prog.run.tasks := [(0, { cycle := some y })] }

/-- A unit with a value of task 1 for output channel 3 that waits for epoch 8,000. -/
def valueWaits (x : TaskSt) : State :=
  { unit with fio.chans := [(3, { mode := 3 })], prog.run.tasks := [(1, x)] }

theorem test_witness_TaskRowsComplete :
    (runTask0.live = true ∧ runTask0.order ≤ 7 ∧ runTask0.prog.run.mode = 2 ∧ runTask0.taskEnabled 0 = true ∧
      runTask0.cycleTick 0 = true ∧ (runTask0.task1 0).cycle = none ∧ (runTask0.task1 0).everPub = false) ∧
    (((inCycle { c := 7992, d := 8008, closed := true }).task1 0).cycle = some { c := 7992, d := 8008, closed := true } ∧
      (inCycle {}).activeProg.isSome = true ∧ (inCycle {}).live = true ∧ (inCycle {}).prog.run.mode = 2 ∧
      (inCycle {}).epoch ≤ 8008 ∧ 7992 < (inCycle {}).epoch ∧
      ((inCycle { c := 7984, d := 7992, closed := true }).task1 0).cycle =
        some { c := 7984, d := 7992, closed := true }) ∧
    ((valueWaits {}).live = true ∧ (valueWaits {}).fitted = true ∧ isOutMode ((valueWaits {}).fio1 3).mode = true ∧
      8000 ≤ (valueWaits {}).epoch ∧
      ((valueWaits { applyPend := [(8000, [(3, F32.one)])] }).task1 1).applyPend = [(8000, [(3, F32.one)])] ∧
      ((valueWaits { stopPend := [(8000, [(3, F32.one)])] }).task1 1).stopPend = [(8000, [(3, F32.one)])]) := by
  decide +kernel

theorem test_witness_PortRowsComplete :
    (ringUnit.ready = true ∧ ringUnit.netPort 0 = true ∧ (ringUnit.port 0).link = true ∧ ringUnit.secured 0 = false ∧
      ringUnit.secured 1 = false ∧ (ringUnit.port 0).mode = 1 ∧ (ringUnit.port 1).mode = 1 ∧
      (ringUnit.port 1).link = true) ∧
    ({ ringFrame with hsr := none } : NetFrame).taken = true ∧ ({ ringFrame with pause := true } : NetFrame).pause = true ∧
    (portsUnit.ready = true ∧ (portsUnit.port 2).mode ≠ 0 ∧ (portsUnit.port 2).link = true ∧ portsUnit.netPort 2 = false ∧
      portsUnit.consumes 0x88FB = true ∧ portsUnit.rxChannel 2 = none) ∧
    (8 ≤ portsUnit.rst.stage ∧ portsUnit.rst.asserted = false ∧ portsUnit.stn.stns = []) := by decide +kernel

end Sys2Proof.Tests
end

/-! PROOF. A long command while no handle is free (R33): its own checks passed, a long command asks for a handle
(`State.long`), and without one its verdict is BUSY. -/

namespace Sys2Proof.Proofs
open Sys2Proof.Machine Sys2Proof.Laws

/-- With an empty free list no next handle exists (R420). -/
theorem nextHandle_of_freeList_nil {s : State} (hf : s.host.freeList = []) : s.nextHandle = none := by
  simp [State.nextHandle, hf]

/-- A verdict that asks for a handle and has some effect with it. -/
def AsksHandle (u : State) (h : Hdr) (op : Nat) (v : Verdict) : Prop := ∃ act, v = u.long h op act

/-- Where no handle is free, a verdict that asks for one is BUSY (R33). -/
theorem AsksHandle.busy {u : State} {h : Hdr} {op : Nat} {v : Verdict} (hv : AsksHandle u h op v)
    (hf : u.host.freeList = []) : v = reject St.BUSY := by
  obtain ⟨act, rfl⟩ := hv
  exact long_none u h op act (nextHandle_of_freeList_nil hf)

/-- An admitted command whose own checks reject it is recorded and answered, and does nothing else. -/
theorem command_reject {s : State} {c : CmdInfo} {h : Hdr} {m st : Nat} {f : State → Verdict}
    (ha : s.admitted c h = true) (hv : f (s.take h) = reject st) :
    s.command c h m f = s.answered c h m (reject st) := by
  rw [command_admitted _ _ _ _ _ ha, hv]
  rfl

/-- An admitted command that asks for a handle while none is free is answered BUSY (R33). -/
theorem command_busy {s : State} {c : CmdInfo} {h : Hdr} {m op : Nat} {f : State → Verdict}
    (hf : s.host.freeList = []) (ha : s.admitted c h = true) (hv : AsksHandle (s.take h) h op (f (s.take h))) :
    s.command c h m f = s.answered c h m (reject St.BUSY) :=
  command_reject ha (hv.busy (by simpa using hf))

/-! ### The long commands whose own checks have passed -/

variable {u : State} (h : Hdr)

theorem commitVerdict_asks {items : List (Nat × Nat)} {e : Nat} (hne : items ≠ []) (hlen : items.length ≤ 64)
    (hitems : firstBad (u.itemCode h.src) 0 items = none) (hcode : (u.commitCode h.src items).2 = St.OK)
    (hlt : u.epoch < e) (hle : e ≤ u.epoch + 691200000) :
    AsksHandle u h 0x0004 (commitVerdict h items e u) := by
  unfold commitVerdict
  dsimp only
  rw [if_neg (by simp [hne, hlen]), hitems]
  dsimp only
  rw [if_neg (by simp [commitEpochOk, hlt, hle]), if_neg (by simp [hcode]), if_neg (by omega)]
  exact ⟨_, rfl⟩

theorem snapshotVerdict_asks {ms : List BlkMember} {addr : U64} {len : Nat} (hms : u.membersCode ms = St.OK)
    (hlen : (u.block 0xFF 0#32 (u.viewEpoch (kindsOf ms)) none ms).length ≤ len)
    (hmax : (u.block 0xFF 0#32 (u.viewEpoch (kindsOf ms)) none ms).length ≤ 268435456)
    (hroom : u.host.snaps.length < 4) : AsksHandle u h 0x0009 (snapshotVerdict h ms addr len u) := by
  unfold snapshotVerdict
  dsimp only
  rw [if_neg (by simp [hms]), if_neg (by simp [hlen, hmax]), if_neg (by omega)]
  exact ⟨_, rfl⟩

theorem canTransmitVerdict_asks {ch buf : Nat} {data : List Byte} (hch : ch < 16) (hbuf : buf < 64)
    (hdir : u.bufN ch buf 0 = 2) (htrig : u.bufN ch buf 2 = 0)
    (hdata : data.length ≤ u.bufN ch buf 8 - u.trailerLen ch buf) (hpend : (u.canBuf ch buf).pending = false)
    (hcom : (u.canBuf ch buf).committed = false) :
    AsksHandle u h 0x0901 (canTransmitVerdict h ch buf data u) := by
  unfold canTransmitVerdict
  rw [if_neg (by simp [hch, hbuf]), if_neg (by simp [hdir, htrig, hdata]), if_neg (by simp [hpend, hcom])]
  exact ⟨_, rfl⟩

theorem bankSwapVerdict_asks {lanes : List Nat} {e : Nat} (hrange : swapRange lanes e u.epoch = true)
    (hidle : ∀ l ∈ lanes, (u.lane? l).swapPend = none)
    (hbank : ∀ l ∈ lanes, u.bankOk (u.inactiveBank l) l = true) (hslots : u.slotsOk = true) :
    AsksHandle u h 0x0A01 (bankSwapVerdict h lanes e u) := by
  unfold bankSwapVerdict
  rw [if_neg (by simp [hrange]), if_neg (by simpa using hidle), if_neg (by simpa [hslots] using hbank)]
  exact ⟨_, rfl⟩

theorem progLoadVerdict_asks (hop : u.prog.op = none) : AsksHandle u h 0x0B01 (progLoadVerdict h u) := by
  unfold progLoadVerdict
  rw [if_neg (by simp [hop])]
  exact ⟨_, rfl⟩

theorem progExchangeVerdict_asks {p : Program} (hop : u.prog.op = none) (hmode : u.prog.run.mode ≤ 1)
    (hstaged : u.stagedProg = some p) (hfit : u.fitted = true ∨ progNeedsFit p = false) :
    AsksHandle u h 0x0B02 (progExchangeVerdict h u) := by
  unfold progExchangeVerdict
  rw [if_neg (by simp [hop]), if_neg (by simp; omega), hstaged]
  dsimp only
  rw [if_neg (by simpa [or_iff_not_imp_left] using hfit)]
  exact ⟨_, rfl⟩

theorem modelLoadVerdict_asks (hop : u.model.op = none) : AsksHandle u h 0x0C01 (modelLoadVerdict h u) := by
  unfold modelLoadVerdict
  rw [if_neg (by simp [hop])]
  exact ⟨_, rfl⟩

theorem solveVerdict_asks {kind budget hstart : Nat} (hkind : kind = 1 ∨ kind = 2)
    (hbudget : budget = 0 ∨ (20 ≤ budget ∧ budget ≤ 900000)) (hhor : hstart ≤ u.epoch + 691200000)
    (hmodel : u.activeModel.isSome = true) (hwait : u.slv.waiting = none) :
    AsksHandle u h 0x0C07 (solveVerdict h kind budget hstart u) := by
  have hranges : ((kind == 1 || kind == 2) && (budget == 0 || (decide (20 ≤ budget) && decide (budget ≤ 900000))) &&
      decide (hstart ≤ u.epoch + 86400 * 8000)) = true := by simp [hkind, hbudget, hhor]
  unfold solveVerdict
  rw [if_neg (by simp [hranges]), if_neg (by simpa [Option.isSome_iff_ne_none] using hmodel), if_neg (by simp [hwait])]
  exact ⟨_, rfl⟩

theorem flexActivateVerdict_asks {a : FlexArg} (hok : u.flexOk a = true) :
    AsksHandle u h 0x0C08 (flexActivateVerdict h a u) := by
  unfold flexActivateVerdict
  rw [if_neg (by simp [hok])]
  exact ⟨_, rfl⟩

theorem flexWithdrawVerdict_asks {k : Nat} (hk : k < 16) (hfilled : (tgetD u.slv.slots k {}).filled = true) :
    AsksHandle u h 0x0C09 (flexWithdrawVerdict h k u) := by
  unfold flexWithdrawVerdict
  rw [if_neg (by omega), if_neg (by simp [hfilled])]
  exact ⟨_, rfl⟩

theorem pairSwitchoverVerdict_asks (hunit : u.pair.unit = .active) (hpartner : u.pair.partner = some .synced)
    (halive : u.pair.partnerFailed = false) (hsw : u.pair.switchover = none) :
    AsksHandle u h 0x0501 (pairSwitchoverVerdict h u) := by
  unfold pairSwitchoverVerdict
  rw [if_neg (by simp [hunit]), if_neg (by simp [hunit, hpartner, halive]), if_neg (by simp [hsw])]
  exact ⟨_, rfl⟩

theorem blockResetVerdict_asks {b i : Nat} (hname : blockNamed b i = true)
    (hfit : u.fitted = true ∨ (b ≠ 1 ∧ b ≠ 2 ∧ b ≠ 6)) (hidle : u.blockIdle b i = true) :
    AsksHandle u h 0x0302 (blockResetVerdict h b i u) := by
  have hfitted : (!u.fitted && (b == 1 || b == 2 || b == 6)) = false := by
    rcases hfit with hf | hb
    · simp [hf]
    · simp [hb]
  unfold blockResetVerdict
  rw [if_neg (by simp [hname]), if_neg (by simp [hfitted]), if_neg (by simp [hidle])]
  exact ⟨_, rfl⟩

theorem fwLoadVerdict_asks (hop : u.rst.fwOp = none) (htrial : u.rst.fwRunningTrial = false) :
    AsksHandle u h 0x0303 (fwLoadVerdict h u) := by
  unfold fwLoadVerdict
  rw [if_neg (by simp [hop, htrial])]
  exact ⟨_, rfl⟩

/-- MODEL_ACTIVATE needs two free handles, so that with none it is BUSY before it asks for one (R73, R127). -/
theorem modelActivateVerdict_busy {keep : Bool} {m : NetModel} (hf : u.host.freeList = []) (hop : u.model.op = none)
    (hstaged : u.stagedModel = some m) : modelActivateVerdict h keep u = reject St.BUSY := by
  unfold modelActivateVerdict
  rw [if_neg (by simp [hop]), hstaged]
  dsimp only
  rw [if_pos (by simp [hf])]

/-- KEY_INSTALL is BUSY for a full store as for a full handle table (R33, R453). -/
theorem keyInstallVerdict_busy {a : KeyArg} (hf : u.host.freeList = []) (hfields : keyFieldsOk a u.epoch = true)
    (hopen : u.installOpen a.label = false) (hswitch : u.switchPending a.label = false)
    (hagrees : u.installAgrees h.src a = true) : keyInstallVerdict h a u = reject St.BUSY := by
  unfold keyInstallVerdict
  rw [if_neg (by simp [hfields]), if_neg (by simp [hopen]), if_neg (by simp [hswitch])]
  split
  · rfl
  · rw [if_neg (by simp [hagrees])]
    exact AsksHandle.busy ⟨_, rfl⟩ hf

/-- KEY_INSTALL, which words its own audit detail, rejected by its own checks (R473). -/
theorem execKeyInstall_reject {s : State} {a : KeyArg} {st : Nat} (ha : s.admitted keyInstallInfo h = true)
    (hv : keyInstallVerdict h a (s.take h) = reject st) :
    execKeyInstall h a s = .next ((s.take h).finish keyInstallInfo h a.label.toNat
      ((s.take h).installDetail a, false) (reject st)) := by
  obtain ⟨htake, hgate⟩ : s.takeable h = true ∧ (s.take h).gate keyInstallInfo h = St.OK := by
    simpa [State.admitted] using ha
  simp only [execKeyInstall, htake, if_true, State.judge, hgate, hv]

/-! ### No free handle -/

/-- Settles O44: each long command whose checks pass asks for a handle, and an empty free list answers it BUSY. -/
theorem noFreeHandleIsBusy : Obligations.NoFreeHandleIsBusy := by
  intro h s hf u busy
  have busyNext : ∀ {c : CmdInfo} {m op : Nat} {f : State → Verdict}, s.admitted c h = true →
      AsksHandle u h op (f u) → Host.Outcome.next (s.command c h m f) = busy c m :=
    fun ha hv => congrArg Host.Outcome.next (command_busy hf ha hv)
  have hfu : u.host.freeList = [] := by simpa [u] using hf
  refine ⟨?commit, ?snapshot, ?canTransmit, ?bankSwap, ?progLoad, ?progExchange, ?modelLoad, ?modelActivate, ?solve,
    ?flexActivate, ?flexWithdraw, ?keyInstall, ?pairSwitchover, ?blockReset, ?fwLoad⟩
  case commit =>
    intro items e ha hne hlen hitems hcode hlt hle
    exact busyNext ha (commitVerdict_asks h hne hlen hitems hcode (by simpa [u] using hlt) (by simpa [u] using hle))
  case snapshot =>
    intro ms addr len ha hms hlen hmax hroom
    exact busyNext ha (snapshotVerdict_asks h hms hlen hmax (by simpa [u] using hroom))
  case canTransmit =>
    intro ch buf data ha hch hbuf hdir htrig hdata hpend hcom
    exact busyNext ha (canTransmitVerdict_asks h hch hbuf hdir htrig hdata hpend hcom)
  case bankSwap =>
    intro lanes e ha hrange hidle hbank hslots
    exact busyNext ha (bankSwapVerdict_asks h (by simpa [u] using hrange) hidle hbank hslots)
  case progLoad =>
    intro ha hop
    exact busyNext ha (progLoadVerdict_asks h (by simpa [u] using hop))
  case progExchange =>
    intro p ha hop hmode hstaged hfit
    exact busyNext ha (progExchangeVerdict_asks h (by simpa [u] using hop) (by simpa [u] using hmode) hstaged hfit)
  case modelLoad =>
    intro ha hop
    exact busyNext ha (modelLoadVerdict_asks h (by simpa [u] using hop))
  case modelActivate =>
    intro keep m ha hop hstaged
    exact congrArg Host.Outcome.next
      (command_reject ha (modelActivateVerdict_busy h hfu (by simpa [u] using hop) hstaged))
  case solve =>
    intro kind budget hstart ha hkind hbudget hhor hmodel hwait
    exact busyNext ha
      (solveVerdict_asks h hkind hbudget (by simpa [u] using hhor) hmodel (by simpa [u] using hwait))
  case flexActivate =>
    intro a ha hok
    exact busyNext ha (flexActivateVerdict_asks h hok)
  case flexWithdraw =>
    intro k ha hk hfilled
    exact busyNext ha (flexWithdrawVerdict_asks h hk (by simpa [u] using hfilled))
  case keyInstall =>
    intro a ha hfields hopen hswitch hagrees
    exact execKeyInstall_reject h ha (keyInstallVerdict_busy h hfu (by simpa [u] using hfields) hopen hswitch hagrees)
  case pairSwitchover =>
    intro ha hunit hpartner halive hsw
    exact busyNext ha (pairSwitchoverVerdict_asks h (by simpa [u] using hunit) (by simpa [u] using hpartner)
      (by simpa [u] using halive) (by simpa [u] using hsw))
  case blockReset =>
    intro b i ha hname hfit hidle
    exact busyNext ha (blockResetVerdict_asks h hname hfit hidle)
  case fwLoad =>
    intro ha hop htrial
    exact busyNext ha (fwLoadVerdict_asks h (by simpa [u] using hop) (by simpa [u] using htrial))

end Sys2Proof.Proofs

/-! PROOF. A completion record that meets a full completion queue (R34), and how the host takes it from its handle
(R421). -/

namespace Sys2Proof.Proofs
open Sys2Proof.Machine Sys2Proof.Laws

/-! ### The record is lost to the queue and kept by the handle -/

/-- A full queue in service takes no entry and counts the loss; only an event is counted in EVENTS_LOST as well
(R417). -/
theorem post_queue_full {s : State} {n : Nat} {e : Entry} (d : List Byte) (hen : (s.queue n).enabled = true)
    (hfull : (s.queue n).cqFull = true) (hkind : e.kind ≠ 3) :
    s.post (.queue n) e d = (s.setQueue n (s.queue n).dropped, true) := by
  simp [State.post, State.postQueue, hen, hfull, hkind]

/-- The operation of an open handle ends while its queue is full: the loss is counted, and the handle keeps the record
with its data (R34, R421). -/
theorem complete_full {s : State} {h : U32} {q status detail : Nat} {data : List Byte} (hopen : s.hOpen h = true)
    (hkeep : (s.hent (hIndex h)).closed = false) (hcq : (s.hent (hIndex h)).cq = .queue q)
    (hen : (s.queue q).enabled = true) (hfull : (s.queue q).cqFull = true) :
    ∃ (a : AuditRec) (e : Entry),
      (e.handle = h ∧ e.status = status ∧ e.detail = detail ∧ e.tag = (s.hent (hIndex h)).tag ∧ e.kind = 2) ∧
      s.complete h status detail data =
        { (s.auditPush a).setQueue q (s.queue q).dropped with
          host.handles := tset s.host.handles (hIndex h)
            { s.hent (hIndex h) with st := .completed, record := some e, recData := data } } := by
  have hpost : ∀ (a : AuditRec) (e : Entry), e.kind ≠ 3 →
      (s.auditPush a).post (.queue q) e data = ((s.auditPush a).setQueue q (s.queue q).dropped, true) :=
    fun _ _ hkind => post_queue_full data hen hfull hkind
  unfold State.complete
  rw [if_pos hopen]
  dsimp only
  rw [if_neg (by simp [hkeep]), hcq, hpost _ _ (by simp), if_pos rfl]
  exact ⟨_, _, ⟨rfl, rfl, rfl, rfl, rfl⟩, rfl⟩

/-- What a host with a full queue sees of an ended operation: no entry, LOST of that pair one higher, the record in the
completed handle, the index still taken (R34, R417, R421). -/
theorem complete_full_effect {s : State} {h : U32} {q : Nat} (status detail : Nat) (data : List Byte)
    (hopen : s.hOpen h = true) (hkeep : (s.hent (hIndex h)).closed = false) (hcq : (s.hent (hIndex h)).cq = .queue q)
    (hen : (s.queue q).enabled = true) (hfull : (s.queue q).cqFull = true) :
    let t := s.complete h status detail data
    t.out = s.out ∧ (t.queue q).lost = (s.queue q).lost + 1 ∧ (t.queue q).cqCount = (s.queue q).cqCount ∧
    (∀ k, k ≠ q → t.queue k = s.queue k) ∧ t.host.freeList = s.host.freeList ∧
    (t.hent (hIndex h)).st = .completed ∧ (t.hent (hIndex h)).gen = (s.hent (hIndex h)).gen ∧
    (t.hent (hIndex h)).src = (s.hent (hIndex h)).src ∧ (t.hent (hIndex h)).recData = data ∧
    (∃ e, (t.hent (hIndex h)).record = some e ∧ e.handle = h ∧ e.status = status ∧ e.detail = detail ∧
      e.tag = (s.hent (hIndex h)).tag ∧ e.kind = 2) := by
  intro t
  obtain ⟨a, e, hrec, ht⟩ :=
    complete_full (status := status) (detail := detail) (data := data) hopen hkeep hcq hen hfull
  have hqueue : ∀ k, t.queue k = if k = q then (s.queue q).dropped else s.queue k := fun k =>
    (congrArg (fun x => x.queue k) ht).trans (queue_setQueue (s.auditPush a) q k _)
  have hent : t.hent (hIndex h) =
      { s.hent (hIndex h) with st := .completed, record := some e, recData := data } :=
    (congrArg (fun x => x.hent (hIndex h)) ht).trans (tgetD_tset_same _ _ _ _)
  have hout : t.out = s.out := congrArg (fun x => x.out) ht
  have hfree : t.host.freeList = s.host.freeList := congrArg (fun x => x.host.freeList) ht
  rw [hqueue q, if_pos rfl, hent]
  exact ⟨hout, rfl, rfl, fun k hk => by rw [hqueue, if_neg hk], hfree, rfl, rfl, rfl, rfl, e, rfl, hrec⟩

/-! ### The host takes the record, or closes the handle -/

/-- Answering a packet leaves the handle table as it is. -/
theorem answered_hent (s : State) (c : CmdInfo) (p : Hdr) (m : Nat) (v : Verdict) (i : Nat) :
    (s.answered c p m v).hent i = (s.take p).hent i := by
  simp only [State.hent, answered_host_handles, take_host_handles]

/-- HANDLE_QUERY on a completed handle with room for the record and its data (R421). -/
theorem handleQueryVerdict_completed {u : State} {p : Hdr} {h : U32} {e : Entry} (hholds : u.holds p.src h = true)
    (hst : (u.hent (hIndex h)).st = .completed) (hrec : (u.hent (hIndex h)).record = some e)
    (hroom : (entryBytes e ++ (u.hent (hIndex h)).recData).length ≤ p.room) :
    handleQueryVerdict p h u =
      { data := entryBytes e ++ (u.hent (hIndex h)).recData, act := fun t => t.freeHandle (hIndex h) } := by
  unfold handleQueryVerdict
  dsimp only
  rw [if_neg (by simp [hholds]), if_neg (by simp [hst]), hrec]
  dsimp only
  rw [if_neg (by omega)]

/-- HANDLE_CLOSE by the holder (R421). -/
theorem handleCloseVerdict_holder {u : State} {p : Hdr} {h : U32} (hholds : u.holds p.src h = true) :
    handleCloseVerdict p h u = { act := fun t => t.closeHandle h } := by
  unfold handleCloseVerdict
  rw [if_pos (by simp [hholds])]

/-- Closing a completed handle frees it (R421). -/
theorem closeHandle_completed {t : State} {h : U32} (hst : (t.hent (hIndex h)).st = .completed) :
    t.closeHandle h = t.freeHandle (hIndex h) := by
  unfold State.closeHandle
  dsimp only
  rw [if_neg (by simp [hst])]

theorem exec_handleQuery_completed {p : Hdr} {h : U32} {e : Entry} {s : State}
    (ha : s.admitted handleQueryInfo p = true) (hholds : (s.take p).holds p.src h = true)
    (hst : ((s.take p).hent (hIndex h)).st = .completed) (hrec : ((s.take p).hent (hIndex h)).record = some e)
    (hroom : (entryBytes e ++ ((s.take p).hent (hIndex h)).recData).length ≤ p.room) :
    exec (.handleQuery p h) s = .next ((s.answered handleQueryInfo p h.toNat
      { data := entryBytes e ++ ((s.take p).hent (hIndex h)).recData }).freeHandle (hIndex h)) := by
  show Host.Outcome.next (s.command handleQueryInfo p h.toNat (handleQueryVerdict p h)) = _
  rw [command_admitted _ _ _ _ _ ha, handleQueryVerdict_completed hholds hst hrec hroom]
  rfl

theorem exec_handleClose_completed {p : Hdr} {h : U32} {s : State} (ha : s.admitted handleCloseInfo p = true)
    (hholds : (s.take p).holds p.src h = true) (hst : ((s.take p).hent (hIndex h)).st = .completed) :
    exec (.handleClose p h) s = .next ((s.answered handleCloseInfo p h.toNat {}).freeHandle (hIndex h)) := by
  show Host.Outcome.next (s.command handleCloseInfo p h.toNat (handleCloseVerdict p h)) = _
  rw [command_admitted _ _ _ _ _ ha, handleCloseVerdict_holder hholds]
  exact congrArg Host.Outcome.next (closeHandle_completed (by rw [answered_hent]; exact hst))

/-- Settles O46: the full queue drops the record (`complete_full`), and the completed handle is freed by either
command of its holder. -/
theorem fullQueueKeepsTheRecordInItsHandle : Obligations.FullQueueKeepsTheRecordInItsHandle := by
  refine ⟨fun s h q status detail data => complete_full_effect status detail data, ?_⟩
  intro p h e s hholds hst hrec
  exact ⟨fun ha hroom => exec_handleQuery_completed ha hholds hst hrec hroom,
    fun ha => exec_handleClose_completed ha hholds hst⟩

end Sys2Proof.Proofs

/-! PROOF. The commands of the host port (R408): the first shared check answers PORT exactly to a host-port command and
to data above 1,408 bytes that come by the management port, and a packet that fails a shared check is only recorded and
answered. -/

namespace Sys2Proof.Proofs
open Sys2Proof.Machine Sys2Proof.Laws

/-! ### The port check -/

theorem onMgmt_of_session {h : Hdr} {n : Nat} (hsrc : h.src = .session n) : h.onMgmt = true := by
  simp [Hdr.onMgmt, hsrc]

theorem onMgmt_of_queue {h : Hdr} {n : Nat} (hsrc : h.src = .queue n) : h.onMgmt = false := by
  simp [Hdr.onMgmt, hsrc]

/-- The shared checks answer PORT for the port and the command alone, whatever the role and the mode (R408). -/
theorem gate_eq_port_iff {u : State} {c : CmdInfo} {h : Hdr} :
    u.gate c h = St.PORT ↔ h.onMgmt = true ∧ (c.hostOnly = true ∨ 1408 < h.dataLen) := by
  unfold State.gate
  by_cases hport : (h.onMgmt && (c.hostOnly || decide (1408 < h.dataLen))) = true
  · rw [if_pos hport]
    simpa using hport
  · have hlater : ¬ (h.onMgmt = true ∧ (c.hostOnly = true ∨ 1408 < h.dataLen)) := by simpa using hport
    rw [if_neg hport]
    refine iff_of_false ?_ hlater
    repeat' split
    all_goals decide

/-! ### How a command packet runs -/

/-- A maker command packet has an opcode of the maker's range (R470). -/
theorem packetOf_makerCommand {p h : Hdr} {opcode : Nat} {info : CmdInfo}
    (hp : packetOf (.makerCommand p opcode) = some (info, h)) :
    (0x04F0 ≤ opcode ∧ opcode ≤ 0x04FF) ∧ makerInfo opcode = info ∧ p = h := by
  simpa [packetOf] using hp

theorem exec_makerCommand {p : Hdr} {opcode : Nat} (s : State) (hrange : 0x04F0 ≤ opcode ∧ opcode ≤ 0x04FF) :
    exec (.makerCommand p opcode) s = .next (s.command (makerInfo opcode) p 0 (makerVerdict opcode)) := by
  have hin : ¬(decide (opcode < 0x04F0) || decide (0x04FF < opcode)) = true := by simpa using hrange
  exact congrArg Host.Outcome.next (if_neg hin)

/-- A packet is taken, judged and finished, with the audit detail that its command gives (R472). -/
def runPacket (s : State) (c : CmdInfo) (h : Hdr) (m : Nat) (d : List Byte × Bool) (f : State → Verdict) : State :=
  if s.takeable h then (s.take h).finish c h m d ((s.take h).judge c h f) else s.discardFrame h

/-- Every command packet runs so: all but KEY_INSTALL through `State.command`, KEY_INSTALL with an audit detail of its
own (R472). -/
theorem exec_packet {c : Instr} {info : CmdInfo} {h : Hdr} (s : State) (hp : packetOf c = some (info, h)) :
    ∃ m d f, exec c s = .next (runPacket s info h m d f) := by
  cases c
  case makerCommand p opcode =>
    obtain ⟨hrange, rfl, rfl⟩ := packetOf_makerCommand hp
    exact ⟨0, auditDetail p.raw, makerVerdict opcode, exec_makerCommand s hrange⟩
  all_goals cases hp
  all_goals exact ⟨_, _, _, rfl⟩

/-! ### A packet that fails a shared check -/

/-- A packet that is taken and fails a shared check is finished with that status as a rejection. -/
theorem runPacket_rejects {s : State} {c : CmdInfo} {h : Hdr} (m : Nat) (d : List Byte × Bool) (f : State → Verdict)
    (ht : s.takeable h = true) (hg : (s.take h).gate c h ≠ St.OK) :
    runPacket s c h m d f = (s.take h).finish c h m d (reject ((s.take h).gate c h)) := by
  simp only [runPacket, ht, if_true, State.judge, hg, if_false]

/-- A rejection is recorded and answered, and has no effect (R411, R472). -/
theorem silent_finish_reject (s : State) (c : CmdInfo) (h : Hdr) (m : Nat) (d : List Byte × Bool) (st : Nat) :
    Silent s ((s.take h).finish c h m d (reject st)) :=
  silent_trans (silent_take s h) (silent_trans (silent_auditCmd _ c h m d (reject st)) (silent_reply _ h (reject st)))

/-! ### The commands of the host port -/

/-- The loads, snapshot, mirror and frame channel commands that R408 names. -/
def onHostPortOnly : Instr → Bool
  | .modelLoad _ => true
  | .progLoad _ => true
  | .snapshot _ _ _ _ => true
  | .mirrorOpen _ _ _ _ _ _ => true
  | .mirrorClose _ _ => true
  | .frameChOpen _ _ _ => true
  | .frameChClose _ _ => true
  | _ => false

/-- The command tables mark exactly the commands that R408 names. -/
theorem packetOf_hostOnly {c : Instr} {info : CmdInfo} {h : Hdr} (hp : packetOf c = some (info, h)) :
    info.hostOnly = onHostPortOnly c := by
  cases c
  case makerCommand p opcode =>
    obtain ⟨-, rfl, rfl⟩ := packetOf_makerCommand hp
    rfl
  all_goals cases hp
  all_goals rfl

/-- Settles O39: the port check (`gate_eq_port_iff`) reads what the command tables mark (`packetOf_hostOnly`), and every
packet that fails it is finished with a rejection (`exec_packet`, `runPacket_rejects`). -/
theorem hostPortOnlyCommands : Obligations.HostPortOnlyCommands := by
  intro c info h s hp hostOnly
  have hmark : info.hostOnly = hostOnly := packetOf_hostOnly hp
  refine ⟨fun n hsrc hwhy ht => ?_, fun n hsrc hother hlen hport => ?_, fun n hsrc hport => ?_⟩
  · have hport : (s.take h).gate info h = St.PORT :=
      gate_eq_port_iff.2 ⟨onMgmt_of_session hsrc, by rwa [hmark]⟩
    obtain ⟨m, d, f, hexec⟩ := exec_packet s hp
    refine ⟨m, d, ?_, silent_finish_reject s info h m d St.PORT⟩
    rw [hexec, runPacket_rejects m d f ht (by rw [hport]; decide), hport]
  · obtain ⟨-, hmarked | hlong⟩ := gate_eq_port_iff.1 hport
    · rw [hmark, hother] at hmarked
      exact absurd hmarked (by decide)
    · omega
  · obtain ⟨hmgmt, -⟩ := gate_eq_port_iff.1 hport
    rw [onMgmt_of_queue hsrc] at hmgmt
    exact absurd hmgmt (by decide)

end Sys2Proof.Proofs

/-! PROOF. The audit log (R472 to R475): it is a sound chain at reset, an appended record keeps it sound and overwrites
only a record that 65,536 newer ones follow, and a step does nothing to the log but append records and note an epoch. -/

namespace Sys2Proof.Proofs
open Sys2Proof.Machine Sys2Proof.Laws

/-! ### The records that stay -/

/-- The log `b` still holds every record of `a` that fewer than 65,536 records of `b` have followed (R474). -/
def Retains (a b : AuditSt) : Prop :=
  ∀ (k : Nat) (x : AuditRec), tget a.recs k = some x → b.next ≤ x.seq + 65536 → tget b.recs k = some x

theorem retains_refl (a : AuditSt) : Retains a a := fun _ _ hx _ => hx

theorem push_next (a : AuditSt) (y : AuditRec) : (a.push y).next = a.next + 1 := rfl

theorem tget_push_other {a : AuditSt} {k : Nat} (y : AuditRec) (hk : k ≠ a.next % 65536) :
    tget (a.push y).recs k = tget a.recs k :=
  tget_tset_other _ _ _ _ hk

/-- The place of the next record is that of no record which the next record leaves among the newest 65,536. -/
theorem place_ne_next_place {a : AuditSt} {k : Nat} {x : AuditRec} (ha : a.Sound) (hx : tget a.recs k = some x)
    (hkept : a.next + 1 ≤ x.seq + 65536) : k ≠ a.next % 65536 := by
  obtain ⟨hbefore, -, hplace⟩ := ha.listed k x hx
  omega

theorem retains_push {a b : AuditSt} (y : AuditRec) (hb : b.Sound) (h : Retains a b) : Retains a (b.push y) := by
  intro k x hx hkept
  rw [push_next] at hkept
  have hin : tget b.recs k = some x := h k x hx (by omega)
  rw [tget_push_other y (place_ne_next_place hb hin hkept), hin]

/-! ### What a step does to the log -/

theorem sound_noteApplied {a : AuditSt} (e : Option Nat) (h : a.Sound) : AuditSt.Sound { a with appliedEpoch := e } :=
  ⟨h.kept, h.listed, h.newest, h.chained, h.oldest, h.first⟩

/-- A trace that grows from one with a sound log has a sound log, which retains the records of the first. -/
theorem grow_keeps_log {r t : Trace} (hr : r.aud.Sound) (h : Grow r t) : t.aud.Sound ∧ Retains r.aud t.aud := by
  induction h with
  | same => exact ⟨hr, retains_refl _⟩
  | sent _ _ ih => exact ih
  | recorded y _ ih =>
    obtain ⟨hsound, hretains⟩ := ih
    exact ⟨sound_push _ y hsound, retains_push y hsound hretains⟩
  | applied e _ ih =>
    obtain ⟨hsound, hretains⟩ := ih
    exact ⟨sound_noteApplied e hsound, hretains⟩
  | booted _ _ ih => exact ih

/-- The trace of a step's next state grows from the trace with the front command taken off. -/
theorem step_grows {s t : State} (h : step s = .next t) : Grow { s.trace with pending := s.pending.tail } t.trace := by
  unfold step at h
  split at h
  next hidle =>
    cases h
    have htrace : s.trace = { s.trace with pending := s.pending.tail } := by simp [State.trace, hidle]
    rw [← htrace]
    exact .same
  next c rest hfront =>
    obtain ⟨u, hexec, hgrow⟩ := exec_ext c { s with pending := rest } (Grow.same (r := ⟨s.aud, s.out, rest, s.ident⟩))
    rw [h] at hexec
    cases hexec
    rw [hfront]
    exact hgrow

/-- Settles O3: a step makes the trace grow (`step_grows`), and a growing trace keeps its log (`grow_keeps_log`). -/
theorem auditLogStaysSound : Obligations.AuditLogStaysSound := by
  intro s t hs hstep
  exact grow_keeps_log hs (step_grows hstep)

/-! ### The log at reset -/

/-- A log that lists no record and starts from 48 zero bytes is sound. -/
theorem sound_of_empty {a : AuditSt} (hrecs : a.recs = []) (hnext : a.next = 0)
    (hprev : a.prevHash = List.replicate 48 0) (hold : a.oldHash = List.replicate 48 0) : a.Sound := by
  have hnone : ∀ k r, tget a.recs k ≠ some r := by simp [hrecs]
  exact {
    kept := fun n hn => by omega
    listed := fun k r hr => absurd hr (hnone k r)
    newest := fun k r hr => absurd hr (hnone k r)
    chained := fun k r _ _ hr => absurd hr (hnone k r)
    oldest := fun k r hr => absurd hr (hnone k r)
    first := fun _ => ⟨hprev, hold⟩ }

/-- Settles O4: the log at reset is the empty one. -/
theorem resetAuditLogSound : Obligations.ResetAuditLogSound :=
  ⟨sound_of_empty rfl rfl rfl rfl, rfl, rfl, rfl⟩

end Sys2Proof.Proofs

/-! PROOF. PCIE_PERST_N (R549): the assertion disables the eight pairs in turn and closes the frame channels, a disable
of a pair leaves everything outside its rings, binding, staging and handles alone, and no row of the host port acts
while the link is held down. -/

namespace Sys2Proof.Proofs
open Sys2Proof.Machine Sys2Proof.Laws

/-! ### What a disable may touch (R418) -/

/-- The state `u` differs from `s` at most where a disable of a queue pair acts. -/
def WithinDisable (s u : State) : Prop :=
  u = { s with host.queues := u.host.queues, host.sessions := u.host.sessions, host.staging := u.host.staging
               host.handles := u.host.handles, model.seriesStaged := u.model.seriesStaged }

theorem withinDisable_refl (s : State) : WithinDisable s s := rfl

theorem WithinDisable.trans {s t u : State} (hst : WithinDisable s t) (htu : WithinDisable t u) : WithinDisable s u := by
  unfold WithinDisable at hst htu
  rw [hst] at htu
  exact htu

theorem WithinDisable.hostUp_eq {s u : State} (h : WithinDisable s u) : u.hostUp = s.hostUp :=
  (congrArg State.hostUp h).trans rfl

theorem dropMakers_withinDisable (s : State) : WithinDisable s s.dropMakers := by
  obtain ⟨qs, ss, hshape⟩ := dropMakers_shape s
  rw [hshape]
  rfl

theorem unbindQueue_withinDisable (s : State) (q : Nat) : WithinDisable s (s.unbindQueue q) :=
  have hunbind : WithinDisable s (s.setQueue q { s.queue q with bind := none }) := rfl
  hunbind.trans (dropMakers_withinDisable _)

/-! ### A disable of one pair, by cases -/

/-- The pair out of service, its submission ring empty. -/
def stoppedPair (p : QPair) : QPair := { p with enable := false, enabled := false, sqTail := 0, sqHead := 0 }

/-- The pair is out of service, its staged writes are dropped and its open handles post no record (R418). -/
def stopQueue (s : State) (q : Nat) : State :=
  ((s.setQueue q (stoppedPair (s.queue q))).dropStaging (.queue q)).closeHandlesOf (.queue q)

/-- A disable stops the pair, then ends its binding. -/
theorem disableQueue_of_enable {s : State} {q : Nat} (hup : s.hostUp = true) (hq : q < 8)
    (hen : (s.queue q).enable = true) : s.disableQueue q = (stopQueue s q).unbindQueue q :=
  if_pos (by simp [hup, hq, hen])

/-- A disable acts on an enabled pair of an answering host port only. -/
theorem disableQueue_of_not {s : State} {q : Nat} (h : ¬ (s.hostUp = true ∧ q < 8 ∧ (s.queue q).enable = true)) :
    s.disableQueue q = s :=
  if_neg (by simpa [and_assoc] using h)

theorem disableQueue_withinDisable (s : State) (q : Nat) : WithinDisable s (s.disableQueue q) := by
  by_cases hacts : s.hostUp = true ∧ q < 8 ∧ (s.queue q).enable = true
  · obtain ⟨hup, hq, hen⟩ := hacts
    rw [disableQueue_of_enable hup hq hen]
    have hstop : WithinDisable s (stopQueue s q) := rfl
    exact hstop.trans (unbindQueue_withinDisable _ q)
  · rw [disableQueue_of_not hacts]
    exact withinDisable_refl s

/-! ### The pairs after a disable -/

/-- Maker bindings that end change nothing of a pair but its binding. -/
theorem queue_dropMakers (s : State) (n : Nat) : ∃ b, s.dropMakers.queue n = { s.queue n with bind := b } := by
  unfold State.dropMakers
  split
  · exact ⟨(s.queue n).bind, rfl⟩
  · simp only [State.queue, tgetD, tget_tmap]
    cases tget s.host.queues n with
    | none => exact ⟨none, rfl⟩
    | some q =>
      simp only [Option.map_some, Option.getD_some]
      split
      · split
        · exact ⟨none, rfl⟩
        · exact ⟨q.bind, rfl⟩
      · exact ⟨q.bind, rfl⟩

theorem queue_unbindQueue (s : State) (m n : Nat) : ∃ b, (s.unbindQueue m).queue n = { s.queue n with bind := b } := by
  obtain ⟨b, hb⟩ := queue_dropMakers (s.setQueue m { s.queue m with bind := none }) n
  refine ⟨b, hb.trans ?_⟩
  rw [queue_setQueue]
  split
  next hnm => rw [hnm]
  next => rfl

theorem queue_stopQueue (s : State) (m n : Nat) :
    (stopQueue s m).queue n = if n = m then stoppedPair (s.queue m) else s.queue n :=
  queue_setQueue s m n (stoppedPair (s.queue m))

/-- A disable that acts stops the pair, and of the rest changes its binding alone. -/
theorem queue_disableQueue_same {s : State} {q : Nat} (hup : s.hostUp = true) (hq : q < 8)
    (hen : (s.queue q).enable = true) :
    ∃ b, (s.disableQueue q).queue q = { stoppedPair (s.queue q) with bind := b } := by
  rw [disableQueue_of_enable hup hq hen]
  simpa [queue_stopQueue] using queue_unbindQueue (stopQueue s q) q q

/-- A disable changes nothing of another pair but its binding. -/
theorem queue_disableQueue_other {s : State} {m n : Nat} (hnm : n ≠ m) :
    ∃ b, (s.disableQueue m).queue n = { s.queue n with bind := b } := by
  by_cases hacts : s.hostUp = true ∧ m < 8 ∧ (s.queue m).enable = true
  · obtain ⟨hup, hm, hen⟩ := hacts
    rw [disableQueue_of_enable hup hm hen]
    simpa [queue_stopQueue, hnm] using queue_unbindQueue (stopQueue s m) m n
  · rw [disableQueue_of_not hacts]
    exact ⟨(s.queue n).bind, rfl⟩

/-- From `s` to `u` the pair has left service: it is not enabled, and one that was enabled is not in service. -/
def LeavesService (s u : State) (q : Nat) : Prop :=
  (u.queue q).enable = false ∧ ((s.queue q).enable = true → (u.queue q).enabled = false)

theorem disableQueue_leavesService {s : State} {q : Nat} (hup : s.hostUp = true) (hq : q < 8) :
    LeavesService s (s.disableQueue q) q := by
  cases hen : (s.queue q).enable with
  | false =>
    rw [disableQueue_of_not (by simp [hen])]
    exact ⟨hen, fun h => by simp [hen] at h⟩
  | true =>
    obtain ⟨b, hqueue⟩ := queue_disableQueue_same hup hq hen
    simp [LeavesService, hqueue, stoppedPair]

/-- A pair that has left service stays out while the pairs are disabled. -/
theorem LeavesService.disableQueue {s u : State} {q : Nat} (h : LeavesService s u q) (m : Nat) :
    LeavesService s (u.disableQueue m) q := by
  by_cases hqm : q = m
  · rw [disableQueue_of_not (by simp [← hqm, h.1])]
    exact h
  · obtain ⟨b, hqueue⟩ := queue_disableQueue_other (s := u) hqm
    simpa [LeavesService, hqueue] using h

/-! ### A disable of several pairs in turn -/

/-- The pairs of a list are disabled in turn. -/
def disableQueues (l : List Nat) (s : State) : State := l.foldl (fun a q => a.disableQueue q) s

theorem disableQueues_withinDisable (l : List Nat) (s : State) : WithinDisable s (disableQueues l s) := by
  induction l generalizing s with
  | nil => exact withinDisable_refl s
  | cons q l ih => exact (disableQueue_withinDisable s q).trans (ih (s.disableQueue q))

theorem LeavesService.disableQueues {s u : State} {q : Nat} (h : LeavesService s u q) (l : List Nat) :
    LeavesService s (disableQueues l u) q := by
  induction l generalizing u with
  | nil => exact h
  | cons m l ih => exact ih (h.disableQueue m)

theorem disableQueues_leavesService {l : List Nat} {s : State} {q : Nat} (hup : s.hostUp = true) (hq : q < 8)
    (hmem : q ∈ l) : LeavesService s (disableQueues l s) q := by
  induction l generalizing s with
  | nil => cases hmem
  | cons m l ih =>
    by_cases hqm : q = m
    · subst hqm
      exact (disableQueue_leavesService hup hq).disableQueues l
    · have hrest : LeavesService (s.disableQueue m) (disableQueues l (s.disableQueue m)) q :=
        ih ((disableQueue_withinDisable s m).hostUp_eq.trans hup) ((List.mem_cons.1 hmem).resolve_left hqm)
      obtain ⟨b, hqueue⟩ := queue_disableQueue_other (s := s) hqm
      simpa only [LeavesService, hqueue, disableQueues, List.foldl_cons] using hrest

/-! ### The assertion -/

/-- The frame channels with each one closed, its owner and its port mask gone (R444, R549). -/
def closedFrameChs (t : Tab FrameCh) : Tab FrameCh :=
  tmap t (fun _ c => { c with isOpen := false, owner := .none, portMask := 0#16 })

theorem closedFrameChs_isOpen (t : Tab FrameCh) (c : Nat) : (tgetD (closedFrameChs t) c {}).isOpen = false := by
  simp only [closedFrameChs, tgetD, tget_tmap]
  cases tget t c with
  | none => rfl
  | some ch => rfl

theorem exec_pciePerstAssert (s : State) :
    exec .pciePerstAssert s = .next { disableQueues (List.range 8) s with
      rst.perst := true
      host.frameChs := closedFrameChs (disableQueues (List.range 8) s).host.frameChs } := by
  show execPciePerstAssert s = _
  unfold execPciePerstAssert disableQueues closedFrameChs
  rfl

/-! ### The host port while the link is down -/

theorem hostUp_of_perst {s : State} (h : s.rst.perst = true) : s.hostUp = false := by
  simp [State.hostUp, h]

/-- The rows by which the host acts over its PCI Express link: doorbells, enables, tails and register accesses. -/
def OverHostLink : Instr → Prop
  | .sqTail _ _ => True
  | .cqHead _ _ => True
  | .queueEnable _ => True
  | .queueDisable _ => True
  | .txTail _ _ _ => True
  | .rxTail _ _ => True
  | .registerWrite _ _ => True
  | .calRegRead _ => True
  | .calRegWrite _ _ => True
  | .calCommit => True
  | .calDiscard => True
  | _ => False

/-- Each of these rows asks first whether the host port is up, and does nothing where it is not. -/
theorem exec_overHostLink_of_down {c : Instr} {s : State} (hc : OverHostLink c) (hdown : s.hostUp = false) :
    exec c s = .next s := by
  cases c
  case queueDisable q => exact congrArg Host.Outcome.next (disableQueue_of_not (by simp [hdown]))
  case calRegRead off => exact congrArg Host.Outcome.next (if_pos (by simp [hdown]))
  case sqTail | cqHead | queueEnable | txTail | rxTail | registerWrite | calRegWrite | calCommit | calDiscard =>
    exact congrArg Host.Outcome.next (if_neg (by simp [hdown]))
  all_goals exact hc.elim

/-- Settles O40: the assertion is the disable of the pairs 0 to 7 (`exec_pciePerstAssert`), which stays within what R418
names (`disableQueues_withinDisable`) and takes every pair out of service (`disableQueues_leavesService`); a low land
means a host port that is down (`exec_overHostLink_of_down`). -/
theorem pciePerstDisablesTheHostPort : Obligations.PciePerstDisablesTheHostPort := by
  refine ⟨?assert, fun s hperst c hc => exec_overHostLink_of_down hc (hostUp_of_perst hperst), fun s => rfl⟩
  case assert =>
    intro s off u
    have hu : u = disableQueues (List.range 8) s := rfl
    rw [hu]
    exact ⟨_, exec_pciePerstAssert s, closedFrameChs_isOpen _, disableQueues_withinDisable _ s,
      fun hup q hq => disableQueues_leavesService hup hq (List.mem_range.2 hq)⟩

end Sys2Proof.Proofs

/-! PROOF. A step takes the front command and runs it, and the trace of the unit (the audit log, the messages sent, the
waiting commands, the identity) only grows by it (`step_grows`). -/

namespace Sys2Proof.Proofs
open Sys2Proof.Machine Sys2Proof.Laws

/-- Settles O1: both clauses are the two branches of `step`. -/
theorem stepRunsTheFrontCommand : Obligations.StepRunsTheFrontCommand := by
  refine ⟨fun c rest s => rfl, fun s hidle => ?idle⟩
  case idle =>
    unfold step
    rw [hidle]

/-- What no growth of a trace takes back. -/
structure KeepsTrace (r t : Trace) : Prop where
  pending : t.pending = r.pending
  out : r.out <:+ t.out
  next : r.aud.next ≤ t.aud.next
  variant : t.ident.variant = r.ident.variant
  stepping : t.ident.stepping = r.ident.stepping
  fuseComm : t.ident.fuseComm = r.ident.fuseComm
  fuseMaker : t.ident.fuseMaker = r.ident.fuseMaker

theorem grow_keepsTrace {r t : Trace} (h : Grow r t) : KeepsTrace r t := by
  induction h with
  | same => exact ⟨rfl, List.suffix_refl _, le_refl _, rfl, rfl, rfl, rfl⟩
  | sent m _ ih => exact { ih with out := ih.out.trans (List.suffix_cons m _) }
  | recorded x _ ih => exact { ih with next := ih.next.trans (Nat.le_succ _) }
  | applied e _ ih => exact { ih with }
  | booted v _ ih => exact { ih with }

/-- No command ends in a fault or a refusal. -/
theorem step_next (s : State) : ∃ t, step s = .next t := by
  unfold step
  split
  next => exact ⟨s, rfl⟩
  next c rest _ =>
    obtain ⟨t, hexec, -⟩ := exec_ext c { s with pending := rest } Grow.same
    exact ⟨t, hexec⟩

/-- Settles O2: the next state's trace grows from that of `s` without its front command (`step_grows`), and a growing
trace takes nothing back (`grow_keepsTrace`). -/
theorem everyStepOnlyAppends : Obligations.EveryStepOnlyAppends := by
  intro s
  obtain ⟨t, hstep⟩ := step_next s
  have hkeeps := grow_keepsTrace (step_grows hstep)
  exact ⟨t, hstep, hkeeps.pending, hkeeps.out, hkeeps.next, hkeeps.variant, hkeeps.stepping, hkeeps.fuseComm,
    hkeeps.fuseMaker⟩

end Sys2Proof.Proofs

/-! PROOF. Packets that are not taken or fail a shared check, handle numbers, the command tables and the values at
reset. -/

namespace Sys2Proof.Proofs
open Sys2Proof.Machine Sys2Proof.Laws

/-! ### Packets without effect -/

/-- Settles O5: every packet runs as `runPacket` says, and a rejection posts its entry where its queue has room. -/
theorem rejectedPacketHasNoEffect : Obligations.RejectedPacketHasNoEffect := by
  intro c info h s hp
  obtain ⟨m, d, f, hexec⟩ := exec_packet s hp
  refine ⟨fun hidle => ?idle, fun htake hgate => ?rejected⟩
  case idle => rw [hexec, runPacket, if_neg (by simp [hidle])]
  case rejected =>
    rw [hexec, runPacket_rejects m d f htake hgate]
    exact ⟨_, rfl, silent_finish_reject s info h m d _, fun n hsrc hroom =>
      reject_posts_entry' s info h m _ n hsrc hroom htake d⟩

/-! ### Handle numbers -/

theorem nextGen_eq {g : Nat} (hg : g ≤ 255) : nextGen g = if g = 255 then 1 else g + 1 := by
  unfold nextGen
  split <;> split <;> omega

theorem nextGen_bounds (g : Nat) : 1 ≤ nextGen g ∧ nextGen g ≤ 255 := by
  unfold nextGen
  split <;> omega

theorem nextGen_ne {g : Nat} : nextGen g ≠ g := by
  unfold nextGen
  split <;> omega

/-- A handle is its generation above its index (R12). -/
theorem toNat_handle {g i : Nat} (hg : g ≤ 255) (hi : i < 1024) :
    (BitVec.ofNat 32 (g * 2 ^ 24 + i)).toNat = g * 2 ^ 24 + i := by
  rw [BitVec.toNat_ofNat]
  omega

theorem hIndex_handle {g i : Nat} (hg : g ≤ 255) (hi : i < 1024) : hIndex (BitVec.ofNat 32 (g * 2 ^ 24 + i)) = i := by
  unfold hIndex
  rw [toNat_handle hg hi]
  omega

theorem hGen_handle {g i : Nat} (hg : g ≤ 255) (hi : i < 1024) : hGen (BitVec.ofNat 32 (g * 2 ^ 24 + i)) = g := by
  unfold hGen
  rw [toNat_handle hg hi]
  omega

/-- Index and generation make out the handle (R12). -/
theorem handle_ext {m n : U32} (hi : hIndex m = hIndex n) (hg : hGen m = hGen n) : m = n := by
  unfold hIndex at hi
  unfold hGen at hg
  refine BitVec.eq_of_toNat_eq ?_
  omega

/-- Opening takes the index from the front of the free list and writes its entry alone (R420). -/
theorem openHandle_cons {s : State} {i : Nat} {r : List Nat} (hfree : s.host.freeList = i :: r) (src cq : Src)
    (tag : U32) (op : Nat) : s.openHandle src cq tag op = { s with
      host.freeList := r
      host.handles := tset s.host.handles i
        { gen := nextGen (s.hent i).gen, st := .opened, src := src, cq := cq, tag := tag, op := op } } := by
  simp only [State.openHandle, hfree]

theorem hent_openHandle {s : State} {i : Nat} {r : List Nat} (hfree : s.host.freeList = i :: r) (src cq : Src)
    (tag : U32) (op k : Nat) : (s.openHandle src cq tag op).hent k = if k = i then
      { gen := nextGen (s.hent i).gen, st := .opened, src := src, cq := cq, tag := tag, op := op } else s.hent k := by
  rw [openHandle_cons hfree]
  simp only [State.hent, tgetD, tget_tset]
  split <;> rfl

theorem hent_freeHandle_same (s : State) (i : Nat) : (s.freeHandle i).hent i = { gen := (s.hent i).gen } :=
  tgetD_tset_same _ _ _ _

/-- The handle that an index in front of the free list gives (R12, R420). -/
theorem nextHandle_cons {s : State} {i : Nat} {r : List Nat} (hfree : s.host.freeList = i :: r) (hi : i < 1024) :
    ∃ n, s.nextHandle = some n ∧ hIndex n = i ∧ hGen n = nextGen (s.hent i).gen ∧ n ≠ 0#32 := by
  obtain ⟨hlow, hhigh⟩ := nextGen_bounds (s.hent i).gen
  refine ⟨BitVec.ofNat 32 (nextGen (s.hent i).gen * 2 ^ 24 + i), by simp only [State.nextHandle, hfree],
    hIndex_handle hhigh hi, hGen_handle hhigh hi, fun hzero => ?_⟩
  have hval := toNat_handle hhigh hi
  rw [hzero, BitVec.toNat_ofNat] at hval
  omega

/-- Settles O45: the next handle is the generation after the last above the index in front (`nextHandle_cons`), and no
other handle of that index has its generation (`handle_ext`). -/
theorem handleNumbersFollowTheirRule : Obligations.HandleNumbersFollowTheirRule := by
  intro s i r hfree hi hgen
  obtain ⟨n, hnext, hindex, hgenOf, hzero⟩ := nextHandle_cons hfree hi
  refine ⟨n, hnext, hindex, hgenOf.trans (nextGen_eq hgen), hzero, by rw [hgenOf]; exact nextGen_ne, ?opened,
    by simp [State.freeHandle, hfree], by rw [hent_freeHandle_same], ?freed⟩
  case opened =>
    intro src cq tag op
    have hent := hent_openHandle hfree src cq tag op
    refine ⟨by rw [openHandle_cons hfree], ?inUse, by simp [hent], by simp [hent], fun k hk => by simp [hent, hk], ?others⟩
    case inUse => simp [State.hOpen, State.hUsed, hindex, hgenOf, hent, hi]
    case others =>
      intro m hm hne
      have hother : nextGen (s.hent i).gen ≠ hGen m := fun he =>
        hne (handle_ext (hm.trans hindex.symm) (he.symm.trans hgenOf.symm))
      simp [State.hUsed, hm, hent, hother]
  case freed =>
    intro m hm
    simp [State.hUsed, hm, hent_freeHandle_same]

/-! ### Command tables -/

/-- Settles O41: the tables list finitely many commands, and each row is read off. -/
theorem commandTableAsGiven : Obligations.CommandTableAsGiven := by
  refine ⟨?_, ?_, ?_, ?_, ?_, fun n _ => ⟨rfl, rfl⟩⟩
  all_goals decide

/-! ### Values at reset -/

theorem reset_queue (n : Nat) : State.reset.queue n = {} := rfl

/-- Every word of a pair's registers is made of the pair and of the latch of a low word read before (R445). -/
theorem reset_queueWord (off n k : Nat) : State.reset.queueWord off n k = 0#32 := by
  have hhalf : ∀ o b, State.reset.halfWord o b 0#64 = 0#32 := by
    intro o b
    cases b <;> rfl
  unfold State.queueWord
  simp only [reset_queue]
  split
  case h_7 => decide
  case h_8 => decide
  case h_9 => rfl
  all_goals exact hhalf _ _

theorem reset_hUsed (h : U32) : State.reset.hUsed h = false := by
  have hfree : (State.reset.hent (hIndex h)).st = .free := rfl
  simp [State.hUsed, hfree]

/-- A parameter outside the lane banks that was never written is its default (R434). -/
theorem reset_pv {id idx : Nat} {r : PSpec} (hspec : pspec id = some r) (hlevel : levelDefault id idx = none)
    (hbank : isBankId id = false) (hmac : id ≠ P.STN_DEST_MAC) : State.reset.pv id idx = r.dflt := by
  have hunset : tget State.reset.par.vals (pkey id idx) = none := rfl
  simp [State.pv, hbank, hunset, hmac, pdefault, hlevel, hspec]

theorem reset_freeList : State.reset.host.freeList = List.range 1024 := by
  simp only [State.reset]

/-- Settles O42: each part of the state after the first power-on is read off, the parameters by `reset_pv` and the
pairs' registers by `reset_queueWord`. -/
theorem resetValuesAsGiven : Obligations.ResetValuesAsGiven := by
  refine ⟨by decide, by decide, by decide, by decide, by decide, by decide, ?queueRegs, fun n => ⟨rfl, rfl⟩,
    reset_freeList, reset_hUsed, fun _ _ _ => reset_pv, rfl, rfl, rfl, rfl, rfl⟩
  case queueRegs =>
    intro n k hn hk
    unfold State.regWord
    rw [if_neg (by omega), if_neg (by omega), if_neg (by omega), if_pos (by simp; omega)]
    exact reset_queueWord _ _ _

end Sys2Proof.Proofs

/-! PROOF. A tick boundary (R20, R394): order 1 moves the clock, and of the parts of the clock and the program's
counters (`clkPart`) the later orders write RT and the calibration freeze alone. -/

namespace Sys2Proof.Proofs
open Sys2Proof.Machine Sys2Proof.Laws

/-! ### The parts of a tick -/

theorem clkPart_advanceTime (s : State) : clkPart s.advanceTime = (s.epoch + 1, (s.epoch + 1) * 125000000000,
    s.time.running, s.prog.run.mode, s.prog.run.rt, s.perc.freeze, s.perc.freezeNext) := by
  unfold State.advanceTime
  cases s.time.merging <;> rfl

/-- Order 1 moves the epoch on by one and T0 to its multiple (R394). -/
theorem clkPart_tickTime (s : State) : clkPart s.tickTime = (s.epoch + 1, (s.epoch + 1) * 125000000000,
    s.time.running, s.prog.run.mode, s.prog.run.rt, s.perc.freeze, s.perc.freezeNext) := by
  have hisland : clkPart (if s.pushPast.advanceTime.isStandby then s.pushPast.advanceTime
      else s.pushPast.advanceTime.updIsland) = clkPart s.pushPast.advanceTime :=
    clkPart_ite rfl (clkPart_updIsland _)
  calc clkPart s.tickTime
      = clkPart (State.ppsFall (State.markIsland _)) := rfl
    _ = clkPart _ := (clkPart_ppsFall _).trans (clkPart_markIsland _)
    _ = clkPart s.pushPast.advanceTime := hisland
    _ = _ := clkPart_advanceTime _

/-- The state of a tick after its orders before the work of the program. -/
def tickFront (obs : TickIn) (s : State) : State := (((s.tickField obs).tickOutputs).canTick).tickPair

theorem clkPart_tickFront (obs : TickIn) (s : State) : clkPart (tickFront obs s) = clkPart s := by
  rw [tickFront, clkPart_tickPair, clkPart_canTick, clkPart_tickOutputs, clkPart_tickField]

/-- The work of the program at a tick counts RT and puts a change of CAL_FREEZE into force; then come the task timing
and the stop values that are due (R178, R264, R524). -/
theorem tickWork_eq (s : State) : ∃ v : State, s.tickWork =
      (if v.tickTasks.prog.stopDue = true then ({ v.tickTasks with prog.stopDue := false } : State).stopOutputs
       else v.tickTasks) ∧
    clkPart v = (s.epoch, s.time.t0, s.time.running, s.prog.run.mode,
      if s.prog.run.mode = 2 then s.prog.run.rt + 1 else s.prog.run.rt, s.perc.freezeNext.getD s.perc.freeze, none) := by
  unfold State.tickWork
  exact ⟨_, rfl, rfl⟩

theorem clkPart_tickWork (s : State) : clkPart s.tickWork = (s.epoch, s.time.t0, s.time.running, s.prog.run.mode,
    if s.prog.run.mode = 2 then s.prog.run.rt + 1 else s.prog.run.rt, s.perc.freezeNext.getD s.perc.freeze, none) := by
  obtain ⟨v, hwork, hclk⟩ := tickWork_eq s
  have htasks := (clkPart_tickTasks v).trans hclk
  rw [hwork]
  generalize v.tickTasks = w at htasks ⊢
  split
  · exact (clkPart_stopOutputs _).trans htasks
  · exact htasks

theorem ticking_iff (s : State) :
    s.ticking = true ↔ s.time.running = true ∧ s.rst.asserted = false ∧ s.overdue = false := by
  simp [State.ticking, and_assoc]

theorem exec_tick_idle {s : State} (obs : TickIn) (h : s.ticking = false) : exec (.tick obs) s = .next s :=
  congrArg Host.Outcome.next (if_neg (by simp [h]))

/-- The state of a tick before DEV_STATUS is signalled. -/
def tickEnd (obs : TickIn) (s : State) : State :=
  if s.tickTime.tickSpeed.clocked then s.tickTime.tickSpeed.tickReleased obs else s.tickTime.tickSpeed

theorem exec_tick {s : State} (obs : TickIn) (h : s.ticking = true) : exec (.tick obs) s = .next (tickEnd obs s).syncDev :=
  congrArg Host.Outcome.next (if_pos h)

/-- What a tick does to the clock and the program's counters. -/
theorem clkPart_tickEnd (obs : TickIn) (s : State) : ∃ rt f g,
    clkPart (tickEnd obs s).syncDev =
      (s.epoch + 1, (s.epoch + 1) * 125000000000, s.time.running, s.prog.run.mode, rt, f, g) ∧
    ((tickFront obs s.tickTime.tickSpeed).live = true → s.tickTime.tickSpeed.clocked = true →
      rt = (if s.prog.run.mode = 2 then s.prog.run.rt + 1 else s.prog.run.rt) ∧
      f = s.perc.freezeNext.getD s.perc.freeze ∧ g = none) := by
  have hspeed : clkPart s.tickTime.tickSpeed = _ := (clkPart_tickSpeed _).trans (clkPart_tickTime s)
  have hfront := (clkPart_tickFront obs s.tickTime.tickSpeed).trans hspeed
  rw [clkPart_syncDev, tickEnd]
  split
  next hclocked =>
    show ∃ rt f g, clkPart (if (tickFront obs s.tickTime.tickSpeed).live then
      (tickFront obs s.tickTime.tickSpeed).tickWork else tickFront obs s.tickTime.tickSpeed) = _ ∧ _
    split
    next hlive =>
      simp only [clkPart, Prod.mk.injEq] at hfront
      obtain ⟨hepoch, ht0, hrunning, hmode, hrt, hfreeze, hnext⟩ := hfront
      rw [clkPart_tickWork, hepoch, ht0, hrunning, hmode, hrt, hfreeze, hnext]
      exact ⟨_, _, _, rfl, fun _ _ => ⟨rfl, rfl, rfl⟩⟩
    next hlive => exact ⟨_, _, _, hfront, fun h => absurd h hlive⟩
  next hclocked => exact ⟨_, _, _, hspeed, fun _ h => absurd h hclocked⟩

/-- Settles O14: what a tick that comes does is `clkPart_tickEnd`, and one that does not come changes nothing. -/
theorem tickAdvancesTheEpoch : Obligations.TickAdvancesTheEpoch := by
  refine ⟨fun obs s hrun hreset hdue => ?comes, fun obs s hwhy => exec_tick_idle obs ?stands⟩
  case comes =>
    obtain ⟨rt, f, g, hclk, hwork⟩ := clkPart_tickEnd obs s
    simp only [clkPart, Prod.mk.injEq] at hclk
    obtain ⟨hepoch, ht0, hrunning, hmode, hrt, hfreeze, hnext⟩ := hclk
    refine ⟨_, exec_tick obs ((ticking_iff s).2 ⟨hrun, hreset, hdue⟩), hepoch, ht0, hrunning.trans hrun, hmode,
      fun hlive hclocked => ?_⟩
    rw [hrt, hfreeze, hnext]
    exact hwork hlive hclocked
  case stands =>
    rw [Bool.eq_false_iff, ne_eq, ticking_iff]
    rintro ⟨hrun, hreset, hdue⟩
    simp [hrun, hreset, hdue] at hwhy

end Sys2Proof.Proofs

/-! PROOF. What ends an operation leaves alone: posting a record touches the host port, the counters of the management
frames, the audit log, the messages sent and the versions kept for the tick, and nothing else (R415, R421, R472). -/

namespace Sys2Proof.Proofs
open Sys2Proof.Machine Sys2Proof.Laws

/-- The state with the parts replaced that posting a record touches. -/
def withPosted (s : State) (h : HostSt) (m : Tab MgmtLink) (a : AuditSt) (o : List OutMsg) (e : Option Past) : State :=
  { s with host := h, key.mgmt := m, aud := a, out := o, edge := e }

/-- `t` differs from `s` at most where records are posted. -/
def PostsOnly (s t : State) : Prop := t = withPosted s t.host t.key.mgmt t.aud t.out t.edge

theorem postsOnly_of_restPart {s t : State} (h : restPart t = restPart s) : PostsOnly s t := by
  rcases t with ⟨_, _, _, _, _, _, _, _, _, _, _, _, _, _, _, _, _, _, ⟨_, _, _, _, _, _, _, _, _, _, _, _, _, _, _, _, _⟩, _, _, _, _, _, _, _, _, _, _, _⟩
  simp only [restPart, Prod.mk.injEq] at h
  simp only [PostsOnly, withPosted, h]

theorem PostsOnly.refl (s : State) : PostsOnly s s := rfl

theorem PostsOnly.trans {s t u : State} (hst : PostsOnly s t) (htu : PostsOnly t u) : PostsOnly s u := by
  unfold PostsOnly at hst htu ⊢
  rw [hst] at htu
  exact htu

/-- A change of other parts carries the posting along. -/
theorem PostsOnly.map {s t : State} (h : PostsOnly s t) (f : State → State)
    (hf : ∀ x h m a o e, f (withPosted x h m a o e) = withPosted (f x) h m a o e) : PostsOnly (f s) (f t) := by
  have hown : f t = withPosted (f t) t.host t.key.mgmt t.aud t.out t.edge := hf t _ _ _ _ _
  have hhost : (f t).host = t.host := (congrArg State.host hown).trans rfl
  have hmgmt : (f t).key.mgmt = t.key.mgmt := (congrArg (fun x => x.key.mgmt) hown).trans rfl
  have haud : (f t).aud = t.aud := (congrArg State.aud hown).trans rfl
  have hout : (f t).out = t.out := (congrArg State.out hown).trans rfl
  have hedge : (f t).edge = t.edge := (congrArg State.edge hown).trans rfl
  unfold PostsOnly
  rw [hhost, hmgmt, haud, hout, hedge]
  exact (congrArg f h).trans (hf s _ _ _ _ _)

theorem postsOnly_foldl {α : Type} {f : State → α → State} (hf : ∀ a x, PostsOnly a (f a x)) (l : List α) (s : State) :
    PostsOnly s (l.foldl f s) := by
  induction l generalizing s with
  | nil => exact .refl s
  | cons x l ih => exact (hf s x).trans (ih (f s x))

theorem complete_postsOnly (s : State) (h : U32) (status detail : Nat) (data : List Byte) :
    PostsOnly s (s.complete h status detail data) :=
  postsOnly_of_restPart (restPart_complete s h status detail data)

theorem PostsOnly.withSlv {s t : State} (h : PostsOnly s t) (v : SolveSt) :
    PostsOnly { s with slv := v } { t with slv := v } := h.map (fun x => { x with slv := v }) fun _ _ _ _ _ _ => rfl

theorem PostsOnly.withModel {s t : State} (h : PostsOnly s t) (m : ModelSt) :
    PostsOnly { s with model := m } { t with model := m } := h.map (fun x => { x with model := m }) fun _ _ _ _ _ _ => rfl

theorem PostsOnly.slv_eq {s t : State} (h : PostsOnly s t) : t.slv = s.slv := (congrArg State.slv h).trans rfl

theorem PostsOnly.model_eq {s t : State} (h : PostsOnly s t) : t.model = s.model := (congrArg State.model h).trans rfl

/-! ### The end of a solve -/

/-- The flexibility handles that waited are taken off the list, and complete. -/
theorem endFlexWaits_frame (s : State) (x : StagedPlan) (o : Nat) :
    ∃ w, PostsOnly { s with slv.flexWaits := w } (s.endFlexWaits x o) :=
  ⟨_, postsOnly_foldl (fun a _ => complete_postsOnly a _ _ _ _) _ _⟩

/-- The model data of an activation that ends without its flip (R73). -/
def noActivation (m : ModelSt) : ModelSt := { m with op := none, openNote := none }

theorem endActivation_frame (s : State) (status code : Nat) :
    ∃ m, (m = s.model ∨ m = noActivation s.model) ∧ PostsOnly { s with model := m } (s.endActivation status code) := by
  unfold State.endActivation
  split
  next o _ =>
    split
    · exact ⟨noActivation s.model, .inr rfl, complete_postsOnly _ _ _ _ _⟩
    · exact ⟨s.model, .inl rfl, .refl s⟩
  next => exact ⟨s.model, .inl rfl, .refl s⟩

/-- The end of a solve or of its plan: the counters of the outcome, the flexibility calls that waited, an activation
that ends with it, and records posted (R126, R132, R137). -/
theorem endPlan_frame (s : State) (x : StagedPlan) (o : Nat) : ∃ w m, (m = s.model ∨ m = noActivation s.model) ∧
    PostsOnly { s with slv := { (s.countOutcome o).slv with flexWaits := w }, model := m } (s.endPlan x o) := by
  let s1 := (s.countOutcome o).complete x.plan.handle (outcomeStatus o) o (solveRecord x o)
  have h1 : PostsOnly (s.countOutcome o) s1 := complete_postsOnly _ _ _ _ _
  obtain ⟨w, h2⟩ := endFlexWaits_frame s1 x o
  have hslv : s1.slv = (s.countOutcome o).slv := h1.slv_eq
  have h12 : PostsOnly { s with slv := { (s.countOutcome o).slv with flexWaits := w } } (s1.endFlexWaits x o) := by
    refine PostsOnly.trans ?_ h2
    rw [hslv]
    exact h1.withSlv _
  have hend : s.endPlan x o =
      if x.act && o != 0 then (s1.endFlexWaits x o).endActivation St.DISAGREE 0x0501 else s1.endFlexWaits x o := rfl
  rw [hend]
  split
  · obtain ⟨m, hm, h3⟩ := endActivation_frame (s1.endFlexWaits x o) St.DISAGREE 0x0501
    have hmodel : (s1.endFlexWaits x o).model = s.model := h12.model_eq
    rw [hmodel] at hm
    exact ⟨w, m, hm, (h12.withModel m).trans h3⟩
  · exact ⟨w, s.model, .inl rfl, h12⟩

end Sys2Proof.Proofs

/-! PROOF. What stands at its bound can be ended (R36, R38): a solve by one row, the rounds by a row for each level, the
frames by a row for each CAN buffer; no such row brings anything else to its bound. -/

namespace Sys2Proof.Proofs
open Sys2Proof.Machine Sys2Proof.Laws

/-! ### Running several rows -/

/-- One more row, where the rows before it have ended in a next state. -/
def thenRow (o : Host.Outcome State Fault Refusal) (c : Instr) : Host.Outcome State Fault Refusal :=
  match o with
  | .next u => exec c u
  | x => x

/-- The rows run one after the other. -/
def runRows (cs : List Instr) (s : State) : Host.Outcome State Fault Refusal := cs.foldl thenRow (.next s)

theorem runRows_cons {c : Instr} {cs : List Instr} {s t : State} (h : exec c s = .next t) :
    runRows (c :: cs) s = runRows cs t :=
  congrArg (List.foldl thenRow · cs) h

theorem runRows_append {cs ds : List Instr} {s t : State} (h : runRows cs s = .next t) :
    runRows (cs ++ ds) s = runRows ds t := by
  unfold runRows at h ⊢
  rw [List.foldl_append, h]

/-! ### What such a row leaves alone -/

/-- The parts on which the time boxes rest, apart from the solve, the rounds and the buffers themselves. -/
structure SameClock (s t : State) : Prop where
  epoch : t.epoch = s.epoch
  time : t.time = s.time
  rst : t.rst = s.rst
  ident : t.ident = s.ident
  pair : t.pair = s.pair
  par : t.par = s.par
  lane : t.lane = s.lane

theorem SameClock.refl (s : State) : SameClock s s := ⟨rfl, rfl, rfl, rfl, rfl, rfl, rfl⟩

theorem SameClock.trans {s t u : State} (h : SameClock s t) (k : SameClock t u) : SameClock s u :=
  ⟨k.epoch.trans h.epoch, k.time.trans h.time, k.rst.trans h.rst, k.ident.trans h.ident, k.pair.trans h.pair,
    k.par.trans h.par, k.lane.trans h.lane⟩

theorem PostsOnly.sameClock {s t : State} (h : PostsOnly s t) : SameClock s t :=
  ⟨(congrArg State.epoch h).trans rfl, (congrArg State.time h).trans rfl, (congrArg State.rst h).trans rfl,
    (congrArg State.ident h).trans rfl, (congrArg State.pair h).trans rfl, (congrArg State.par h).trans rfl,
    (congrArg State.lane h).trans rfl⟩

theorem SameClock.posts {s u t : State} (h : SameClock s u) (hp : PostsOnly u t) : SameClock s t := h.trans hp.sameClock

theorem SameClock.live_eq {s t : State} (h : SameClock s t) : t.live = s.live := by
  simp only [State.live, State.isActive, h.rst, h.time, h.pair]

theorem SameClock.solveOn_eq {s t : State} (h : SameClock s t) : t.solveOn = s.solveOn := by
  simp only [State.solveOn, State.fitted, State.inReset, h.live_eq, h.rst, h.ident]

/-! ### The solve -/

/-- The row that ends a solve at the end of its budget. -/
def overrunRow (s : State) : Instr :=
  .solveOverrun (match s.slv.running with | some v => 125 * (s.epoch - v.start) | none => 0) { status := 1 }

theorem solveOverdue_of_none {s : State} (h : s.slv.running = none) : s.solveOverdue = false := by
  simp only [State.solveOverdue, h]

/-- A solve that is over stays over, whatever else runs. -/
theorem solveOverdue_congr {s t : State} (hc : SameClock s t) (hs : t.slv = s.slv) : t.solveOverdue = s.solveOverdue := by
  simp only [State.solveOverdue, hs, hc.solveOn_eq, hc.epoch]

theorem endPlan_solveDone {s : State} (x : StagedPlan) (o : Nat) :
    SameClock s (s.solveDone.endPlan x o) ∧ (s.solveDone.endPlan x o).slv.running = none ∧
      (s.solveDone.endPlan x o).fed = s.fed ∧ (s.solveDone.endPlan x o).can = s.can := by
  obtain ⟨w, m, -, hp⟩ := endPlan_frame s.solveDone x o
  have hslv := congrArg (fun y => y.slv.running) hp
  refine ⟨SameClock.posts ?_ hp, hslv, (congrArg State.fed hp).trans rfl, (congrArg State.can hp).trans rfl⟩
  exact ⟨rfl, rfl, rfl, rfl, rfl, rfl, rfl⟩

/-- The overrun row ends a solve at its bound, and changes nothing where there is none (R126). -/
theorem exec_overrunRow (s : State) : ∃ t, exec (overrunRow s) s = .next t ∧ SameClock s t ∧ t.solveOverdue = false ∧
    t.fed = s.fed ∧ t.can = s.can := by
  cases hrun : s.slv.running with
  | none =>
    refine ⟨s, ?_, .refl s, solveOverdue_of_none hrun, rfl, rfl⟩
    show Host.Outcome.next (match s.slv.running with | some v => _ | none => s) = _
    rw [hrun]
  | some v =>
    have hexec : exec (overrunRow s) s = .next (if s.solveOverdue then
        s.solveDone.endPlan (unpublished v 1 { status := 1, timeUs := 125 * (s.epoch - v.start) }) 3 else s) := by
      have htime : s.solveTime v (125 * (s.epoch - v.start)) = true := by
        simp only [State.solveTime, Bool.and_eq_true, decide_eq_true_eq]
        omega
      have hrow : overrunRow s = .solveOverrun (125 * (s.epoch - v.start)) { status := 1 } := by
        simp only [overrunRow, hrun]
      rw [hrow]
      show execSolveOverrun _ _ s = _
      simp [execSolveOverrun, hrun, State.solveOverdue, htime]
    rw [hexec]
    split
    next =>
      obtain ⟨hclock, hnone, hfed, hcan⟩ := endPlan_solveDone (s := s)
        (unpublished v 1 { status := 1, timeUs := 125 * (s.epoch - v.start) }) 3
      exact ⟨_, rfl, hclock, solveOverdue_of_none hnone, hfed, hcan⟩
    next hdue => exact ⟨s, rfl, .refl s, by simpa using hdue, rfl, rfl⟩

/-! ### The rounds -/

/-- A fold that sets one agreement after the other changes the agreements alone. -/
theorem setCoup_fold {α : Type} (i : α → Nat) (c : State → α → CoupSt) (l : List α) (s : State) :
    ∃ cs, l.foldl (fun a r => a.setCoup (i r) (c a r)) s = { s with fed.coups := cs } := by
  induction l generalizing s with
  | nil => exact ⟨s.fed.coups, rfl⟩
  | cons x l ih =>
    obtain ⟨cs, h⟩ := ih (s.setCoup (i x) (c s x))
    exact ⟨cs, h⟩

theorem closeRound_open {s : State} {l : Nat} (h : tgetD s.fed.closeDue l false = true)
    (hb : tgetD s.fed.openings l 0 + roundTicks l ≤ s.epoch) :
    ∃ c r g, s.closeRound l = { s with
      fed.closeDue := tset s.fed.closeDue l false, fed.coups := c, fed.rejected := r, net.segs := g } := by
  have hfold : ∃ c, (s.coupsAt l).foldl (fun a r => a.setCoup (coupIdx r) (a.coupClose l r (a.coup (coupIdx r)))) s =
      { s with fed.coups := c } := setCoup_fold _ _ _ _
  obtain ⟨c, hc⟩ := hfold
  unfold State.closeRound
  rw [if_pos (by simp [h, hb]), hc]
  exact ⟨_, _, _, rfl⟩

/-- The row that closes a round closes it where it is due, and changes no other round's time box (R192). -/
theorem exec_roundClose {s : State} {l : Nat} (hlive : s.live = true) (hl : levelOk l = true) :
    ∃ t, exec (.roundClose l) s = .next t ∧ SameClock s t ∧ t.slv = s.slv ∧ t.can = s.can ∧
      t.fed.openings = s.fed.openings ∧
      (tgetD t.fed.closeDue l false && decide (tgetD t.fed.openings l 0 + roundTicks l ≤ t.epoch)) = false ∧
      ∀ k, k ≠ l → tgetD t.fed.closeDue k false = tgetD s.fed.closeDue k false := by
  have hexec : exec (.roundClose l) s = .next (s.closeRound l) :=
    congrArg Host.Outcome.next (if_pos (by simp [hlive, hl]))
  refine ⟨_, hexec, ?_⟩
  by_cases hdue : tgetD s.fed.closeDue l false = true ∧ tgetD s.fed.openings l 0 + roundTicks l ≤ s.epoch
  · obtain ⟨c, r, g, hclose⟩ := closeRound_open hdue.1 hdue.2
    rw [hclose]
    exact ⟨⟨rfl, rfl, rfl, rfl, rfl, rfl, rfl⟩, rfl, rfl, rfl, by simp, fun k hk => tgetD_tset_other _ _ _ _ _ hk⟩
  · have hclose : s.closeRound l = s := if_neg (by simpa using hdue)
    rw [hclose]
    exact ⟨.refl s, rfl, rfl, rfl, by simpa using hdue, fun _ _ => rfl⟩

/-! ### The frames -/

/-- The row for a buffer by its number in the table. -/
def timeoutRow (k : Nat) : Instr := .canTxTimeout (k / 65) (k % 65)

theorem exec_canTxTimeout_idle {s : State} {c b : Nat} (h : s.canTimedOut c b = false) :
    exec (.canTxTimeout c b) s = .next s :=
  congrArg Host.Outcome.next (if_neg (by simp [h]))

/-- The number of a buffer in the table of buffers. -/
def bufKey (c b : Nat) : Nat := c * 65 + b

/-- `t` differs from `s` in the state of one buffer, which is `x`, and where records are posted. -/
def EndsBuf (s t : State) (c b : Nat) (x : CanBuf) : Prop :=
  ∃ bufs, PostsOnly { s with can.bufs := bufs } t ∧ tgetD bufs (bufKey c b) {} = x ∧
    ∀ k, k ≠ bufKey c b → tgetD bufs k {} = tgetD s.can.bufs k {}

theorem setCanBuf_endsBuf (s : State) (c b : Nat) (x : CanBuf) : EndsBuf s (s.setCanBuf c b x) c b x :=
  ⟨_, .refl _, tgetD_tset_same _ _ _ _, fun _ hk => tgetD_tset_other _ _ _ _ _ hk⟩

theorem EndsBuf.trans {s t u : State} {c b : Nat} {x y : CanBuf} (h : EndsBuf s t c b x) (k : EndsBuf t u c b y) :
    EndsBuf s u c b y := by
  obtain ⟨bufs, hp, -, hother⟩ := h
  obtain ⟨bufs', hp', hsame', hother'⟩ := k
  have hcan : t.can.bufs = bufs := congrArg (fun z => z.can.bufs) hp
  refine ⟨bufs', ?_, hsame', fun j hj => ((hother' j hj).trans (by rw [hcan])).trans (hother j hj)⟩
  exact (hp.map (fun z => { z with can.bufs := bufs' }) fun _ _ _ _ _ _ => rfl).trans hp'

/-- The handle of a buffer's frame completes with the outcome, and is no longer the buffer's (R365). -/
theorem canHandleEnd_endsBuf (s : State) (c b o : Nat) :
    EndsBuf s (s.canHandleEnd c b o) c b { s.canBuf c b with handle := 0#32 } := by
  by_cases hnone : (s.canBuf c b).handle = 0#32
  · have hidle : s.canHandleEnd c b o = s := if_pos hnone
    have hsame : { s.canBuf c b with handle := 0#32 } = s.canBuf c b := by rw [← hnone]
    rw [hidle, hsame]
    exact ⟨s.can.bufs, .refl s, rfl, fun _ _ => rfl⟩
  · have hends : s.canHandleEnd c b o =
        (s.setCanBuf c b { s.canBuf c b with handle := 0#32 }).complete (s.canBuf c b).handle St.OK o [] := if_neg hnone
    obtain ⟨bufs, hp, hsame, hother⟩ := setCanBuf_endsBuf s c b { s.canBuf c b with handle := 0#32 }
    rw [hends]
    exact ⟨bufs, hp.trans (complete_postsOnly _ _ _ _ _), hsame, hother⟩

/-- The frame of a buffer ends with an outcome (R365). -/
theorem canEnd_endsBuf (s : State) (c b o : Nat) (late : Bool) : EndsBuf s (s.canEnd c b o late) c b
    { s.canBuf c b with
      outcome := o, lateCancel := late, committed := false, cancelReq := false
      pending := (s.canBuf c b).pending && (s.canBuf c b).handle == 0#32, handle := 0#32 } := by
  have h := canHandleEnd_endsBuf (s.setCanBuf c b { s.canBuf c b with
    outcome := o, lateCancel := late, committed := false, cancelReq := false
    pending := (s.canBuf c b).pending && (s.canBuf c b).handle == 0#32 }) c b o
  have hbuf : ∀ x, (s.setCanBuf c b x).canBuf c b = x := fun x => tgetD_tset_same _ _ _ _
  rw [hbuf] at h
  exact (setCanBuf_endsBuf s c b _).trans h

/-- Marking the points of a buffer changes the points alone. -/
theorem markBuf_frame (s : State) (c b d : Nat) : ∃ p q, s.markBuf c b d = { s with pts := p, can.pts := q } := by
  unfold State.markBuf
  generalize s.sigsOf c b = l
  induction l generalizing s with
  | nil => exact ⟨s.pts, s.can.pts, rfl⟩
  | cons v l ih =>
    obtain ⟨p, q, h⟩ := ih ((s.canDiag (sigPoint v) d true).canPtStatus c b (sigPoint v) false)
    exact ⟨p, q, h⟩

/-- What TIMEOUT does to a frame past its time: it ends with outcome 6 and waits no longer (R364). -/
theorem exec_canTxTimeout {s : State} {c b : Nat} (h : s.canTimedOut c b = true) :
    ∃ u t, (∃ p q, u = { s with pts := p, can.pts := q }) ∧ exec (.canTxTimeout c b) s = .next t ∧
      EndsBuf u t c b { s.canBuf c b with
        outcome := 6, lateCancel := false, committed := false, cancelReq := false, pending := false, handle := 0#32 } := by
  have hexec : exec (.canTxTimeout c b) s = .next
      (((s.setCanBuf c b { s.canBuf c b with pending := false }).markBuf c b 10).canEnd c b 6 false) :=
    congrArg Host.Outcome.next (if_pos h)
  obtain ⟨p, q, hmark⟩ := markBuf_frame (s.setCanBuf c b { s.canBuf c b with pending := false }) c b 10
  have hend := canEnd_endsBuf ((s.setCanBuf c b { s.canBuf c b with pending := false }).markBuf c b 10) c b 6 false
  rw [hmark] at hend hexec
  have hset := setCanBuf_endsBuf { s with pts := p, can.pts := q } c b { s.canBuf c b with pending := false }
  have hbuf : State.canBuf { s.setCanBuf c b { s.canBuf c b with pending := false } with pts := p, can.pts := q } c b =
      { s.canBuf c b with pending := false } := tgetD_tset_same _ _ _ _
  rw [hbuf] at hend
  exact ⟨_, _, ⟨p, q, rfl⟩, hexec, hset.trans hend⟩

/-- Whether a frame is past its time depends on its buffer, its channel and the parameters. -/
theorem canTimedOut_congr {s t : State} {c b : Nat} (hbuf : t.canBuf c b = s.canBuf c b)
    (hchans : t.can.chans = s.can.chans) (hc : SameClock s t) : t.canTimedOut c b = s.canTimedOut c b := by
  have hch : t.canCh c = s.canCh c := by simp only [State.canCh, hchans]
  have hshot : t.bufOneShot c b = s.bufOneShot c b := by
    have hbank : isBankId P.CAN_BUF = false := by decide
    have hmac : P.CAN_BUF ≠ P.STN_DEST_MAC := by decide
    simp only [State.bufOneShot, State.bufN, State.pfld, State.pv, hbank, hmac, hc.par, if_false, Bool.false_eq_true]
  simp only [State.canTimedOut, hbuf, hch, hshot]

theorem canTimedOut_bounds {s : State} {c b : Nat} (h : s.canTimedOut c b = true) :
    b < 64 ∧ (s.canBuf c b).pending = true := by
  simp only [State.canTimedOut, Bool.and_eq_true, decide_eq_true_eq] at h
  obtain ⟨⟨⟨⟨⟨⟨-, hb⟩, hpend⟩, -⟩, -⟩, -⟩, -⟩ := h
  exact ⟨hb, hpend⟩

theorem tget_eq_none {α : Type} {t : Tab α} {k : Nat} (h : k ∉ tkeys t) : tget t k = none := by
  induction t with
  | nil => rfl
  | cons x t ih =>
    simp only [tkeys, List.map_cons, List.mem_cons, not_or] at h ih
    simp only [tget, if_neg (Ne.symm h.1), ih h.2]

/-- A frame past its time waits in a buffer that the table lists. -/
theorem bufKey_mem_of_timedOut {s : State} {c b : Nat} (h : s.canTimedOut c b = true) :
    bufKey c b ∈ tkeys s.can.bufs := by
  by_contra hnot
  have hbuf : s.canBuf c b = {} := by
    show (tget s.can.bufs (bufKey c b)).getD {} = {}
    rw [tget_eq_none hnot]
    rfl
  have hpend := (canTimedOut_bounds h).2
  rw [hbuf] at hpend
  exact absurd hpend (by decide)

theorem bufKey_div_mod {c b : Nat} (hb : b < 64) : bufKey c b / 65 = c ∧ bufKey c b % 65 = b := by
  unfold bufKey
  omega

/-- The row of a buffer leaves its frame within its time, and brings no other past its time. -/
theorem exec_timeoutRow (s : State) (k : Nat) : ∃ t, exec (timeoutRow k) s = .next t ∧ SameClock s t ∧ t.slv = s.slv ∧
    t.fed = s.fed ∧ ∀ c b, t.canTimedOut c b = true → s.canTimedOut c b = true ∧ bufKey c b ≠ k := by
  cases hout : s.canTimedOut (k / 65) (k % 65) with
  | false =>
    refine ⟨s, exec_canTxTimeout_idle hout, .refl s, rfl, rfl, fun c b h => ⟨h, fun hk => ?_⟩⟩
    obtain ⟨hdiv, hmod⟩ := bufKey_div_mod (c := c) (canTimedOut_bounds h).1
    rw [← hk, hdiv, hmod, h] at hout
    cases hout
  | true =>
    obtain ⟨u, t, ⟨p, q, rfl⟩, hexec, bufs, hp, hsame, hother⟩ := exec_canTxTimeout hout
    have hclock : SameClock s t := SameClock.posts (by exact ⟨rfl, rfl, rfl, rfl, rfl, rfl, rfl⟩) hp
    have hbufs : t.can.bufs = bufs := congrArg (fun z => z.can.bufs) hp
    have hchans : t.can.chans = s.can.chans := congrArg (fun z => z.can.chans) hp
    have hkey : bufKey (k / 65) (k % 65) = k := by
      unfold bufKey
      omega
    refine ⟨t, hexec, hclock, (congrArg State.slv hp).trans rfl, (congrArg State.fed hp).trans rfl, fun c b h => ?_⟩
    have hbuf : t.canBuf c b = tgetD bufs (bufKey c b) {} := by rw [← hbufs]; rfl
    by_cases hk : bufKey c b = k
    · have hpend := (canTimedOut_bounds h).2
      rw [hbuf, hk, ← hkey, hsame] at hpend
      cases hpend
    · have hstays : t.canBuf c b = s.canBuf c b := hbuf.trans (hother _ (by rwa [hkey]))
      rw [canTimedOut_congr hstays hchans hclock] at h
      exact ⟨h, hk⟩

/-- The rows of a list of buffers, one after the other. -/
theorem run_timeoutRows (l : List Nat) (s : State) : ∃ t, runRows (l.map timeoutRow) s = .next t ∧ SameClock s t ∧
    t.slv = s.slv ∧ t.fed = s.fed ∧ ∀ c b, t.canTimedOut c b = true → s.canTimedOut c b = true ∧ bufKey c b ∉ l := by
  induction l generalizing s with
  | nil => exact ⟨s, rfl, .refl s, rfl, rfl, fun c b h => ⟨h, List.not_mem_nil⟩⟩
  | cons k l ih =>
    obtain ⟨u, hexec, hclock, hslv, hfed, hout⟩ := exec_timeoutRow s k
    obtain ⟨t, hrun, hclock', hslv', hfed', hout'⟩ := ih u
    refine ⟨t, (runRows_cons hexec).trans hrun, hclock.trans hclock', hslv'.trans hslv, hfed'.trans hfed, fun c b h => ?_⟩
    obtain ⟨hu, hl⟩ := hout' c b h
    obtain ⟨hs, hk⟩ := hout c b hu
    exact ⟨hs, by simp [hk, hl]⟩

/-- With a row for each record of a buffer, no frame stays past its time. -/
theorem run_allTimeouts (s : State) : ∃ t, runRows ((tkeys s.can.bufs).map timeoutRow) s = .next t ∧ SameClock s t ∧
    t.slv = s.slv ∧ t.fed = s.fed ∧ ∀ c b, t.canTimedOut c b = false := by
  obtain ⟨t, hrun, hclock, hslv, hfed, hout⟩ := run_timeoutRows (tkeys s.can.bufs) s
  refine ⟨t, hrun, hclock, hslv, hfed, fun c b => ?_⟩
  by_contra h
  obtain ⟨hs, hnot⟩ := hout c b (by simpa using h)
  exact hnot (bufKey_mem_of_timedOut hs)

/-! ### The rounds of all levels -/

/-- The round of a level stands at its close. -/
def roundOwed (s : State) (l : Nat) : Bool :=
  tgetD s.fed.closeDue l false && decide (tgetD s.fed.openings l 0 + roundTicks l ≤ s.epoch)

theorem closeOwed_eq (s : State) : s.closeOwed = [4, 5, 6].any (roundOwed s) := rfl

theorem run_roundCloses {l : List Nat} {s : State} (hlive : s.live = true) (hl : ∀ k ∈ l, levelOk k = true) :
    ∃ t, runRows (l.map .roundClose) s = .next t ∧ SameClock s t ∧ t.slv = s.slv ∧ t.can = s.can ∧
      ∀ k, roundOwed t k = true → roundOwed s k = true ∧ k ∉ l := by
  induction l generalizing s with
  | nil => exact ⟨s, rfl, .refl s, rfl, rfl, fun k h => ⟨h, List.not_mem_nil⟩⟩
  | cons j l ih =>
    obtain ⟨u, hexec, hclock, hslv, hcan, hopen, hclosed, hother⟩ := exec_roundClose hlive (hl j List.mem_cons_self)
    obtain ⟨t, hrun, hclock', hslv', hcan', howed⟩ :=
      ih (hclock.live_eq.trans hlive) fun k hk => hl k (List.mem_cons_of_mem _ hk)
    refine ⟨t, (runRows_cons hexec).trans hrun, hclock.trans hclock', hslv'.trans hslv, hcan'.trans hcan, fun k h => ?_⟩
    obtain ⟨hu, hk⟩ := howed k h
    have hj : k ≠ j := by
      rintro rfl
      rw [roundOwed, hclosed] at hu
      cases hu
    refine ⟨?_, by simp [hj, hk]⟩
    rwa [roundOwed, hother k hj, hopen, hclock.epoch] at hu

/-- The rounds of a unit that executes can all be closed in three rows. -/
theorem run_allCloses (s : State) : ∃ cs t, runRows cs s = .next t ∧ cs.length ≤ 3 ∧
    (∀ c ∈ cs, ∃ l, c = .roundClose l) ∧ SameClock s t ∧ t.slv = s.slv ∧ t.can = s.can ∧
    (t.live && t.closeOwed) = false := by
  cases hlive : s.live with
  | false => exact ⟨[], s, rfl, by simp, by simp, .refl s, rfl, rfl, by simp [hlive]⟩
  | true =>
    obtain ⟨t, hrun, hclock, hslv, hcan, howed⟩ := run_roundCloses (l := [4, 5, 6]) hlive (by decide)
    have hnone : t.closeOwed = false := by
      rw [closeOwed_eq, List.any_eq_false]
      intro k hk h
      exact (howed k h).2 hk
    exact ⟨_, t, hrun, by simp, by simp, hclock, hslv, hcan, by simp [hnone]⟩

/-! ### All that stands at its bound -/

/-- Settles O50: the solve, the rounds and the frames are ended one after the other (`exec_overrunRow`,
`run_allCloses`, `run_allTimeouts`), and what has ended stays so. -/
theorem workAtItsBoundEndsAndTheClockGoesOn : Obligations.WorkAtItsBoundEndsAndTheClockGoesOn := by
  intro s hrun hreset
  refine ⟨fun hdue obs => exec_tick_idle obs (by simp [State.ticking, hdue]), ?_⟩
  obtain ⟨u, hover, hclock1, hsolve, -, hcan1⟩ := exec_overrunRow s
  obtain ⟨cs, v, hclose, hlen, hrows, hclock2, hslv2, hcan2, hrounds⟩ := run_allCloses u
  obtain ⟨t, htimeout, hclock3, hslv3, hfed3, hframes⟩ := run_allTimeouts v
  have hclock : SameClock s t := (hclock1.trans hclock2).trans hclock3
  have hdue : t.overdue = false := by
    have hcans : (t.can.bufs.any fun x => t.canTimedOut (x.1 / 65) (x.1 % 65)) = false := by
      simp [hframes]
    have hclosed : (t.live && t.closeOwed) = false := by
      rw [hclock3.live_eq, State.closeOwed, hfed3, hclock3.epoch]
      exact hrounds
    rw [State.overdue, solveOverdue_congr (hclock2.trans hclock3) (hslv3.trans hslv2), hsolve, hclosed, hcans]
    rfl
  have htick : t.ticking = true := (ticking_iff t).2 ⟨by rw [hclock.time]; exact hrun, by rw [hclock.rst]; exact hreset, hdue⟩
  have hbufs : v.can.bufs = s.can.bufs := by rw [hcan2, hcan1]
  refine ⟨overrunRow s :: (cs ++ (tkeys v.can.bufs).map timeoutRow), t, ?length, ?rows, ?runs, hclock.epoch, hdue, ?ticks⟩
  case length =>
    simp only [List.length_cons, List.length_append, List.length_map, tkeys, hbufs]
    omega
  case rows =>
    intro c hc
    rcases List.mem_cons.1 hc with rfl | hc
    · exact .inl ⟨_, _, rfl⟩
    · rcases List.mem_append.1 hc with hc | hc
      · exact .inr (.inl (hrows c hc))
      · obtain ⟨k, -, rfl⟩ := List.mem_map.1 hc
        exact .inr (.inr ⟨_, _, rfl⟩)
  case runs =>
    have hall : runRows (overrunRow s :: (cs ++ (tkeys v.can.bufs).map timeoutRow)) s = .next t :=
      (runRows_cons hover).trans ((runRows_append hclose).trans htimeout)
    exact hall
  case ticks =>
    intro obs
    obtain ⟨rt, f, g, hclk, -⟩ := clkPart_tickEnd obs t
    exact ⟨_, exec_tick obs htick, (congrArg (fun x => x.1) hclk).trans (by rw [hclock.epoch])⟩

end Sys2Proof.Proofs

/-! PROOF. The commands of the host port (R419, R421, R427, R444), each by its own verdict on the state that has been
recorded and answered. -/

namespace Sys2Proof.Proofs
open Sys2Proof.Machine Sys2Proof.Laws

/-- An admitted command is recorded and answered by its verdict, and then has the verdict's effect (R472). -/
theorem command_eq {s : State} {c : CmdInfo} {h : Hdr} {m : Nat} {f : State → Verdict} {x : Verdict}
    (ha : s.admitted c h = true) (hv : f (s.take h) = x) : s.command c h m f = x.act (s.answered c h m x) := by
  rw [command_admitted _ _ _ _ _ ha, hv]

theorem takeable_of_admitted {s : State} {c : CmdInfo} {h : Hdr} (ha : s.admitted c h = true) : s.takeable h = true := by
  simp only [State.admitted, Bool.and_eq_true] at ha
  exact ha.1

/-! ### What taking and answering leave of the handles and the frame channels -/

theorem take_hent (s : State) (h : Hdr) (i : Nat) : (s.take h).hent i = s.hent i := by simp [State.hent]

theorem take_hUsed (s : State) (h : Hdr) (k : U32) : (s.take h).hUsed k = s.hUsed k := by
  simp [State.hUsed, take_hent]

theorem take_hOpen (s : State) (h : Hdr) (k : U32) : (s.take h).hOpen k = s.hOpen k := by
  simp [State.hOpen, take_hUsed, take_hent]

theorem take_holds (s : State) (h : Hdr) (src : Src) (k : U32) : (s.take h).holds src k = s.holds src k := by
  simp [State.holds, take_hUsed, take_hent]

theorem hent_answered (s : State) (c : CmdInfo) (h : Hdr) (m : Nat) (v : Verdict) (i : Nat) :
    (s.answered c h m v).hent i = s.hent i := by simp [State.hent]

theorem take_fch (s : State) (h : Hdr) (c : Nat) : (s.take h).fch c = s.fch c := by simp [State.fch]

theorem answered_fch (s : State) (c : CmdInfo) (h : Hdr) (m : Nat) (v : Verdict) (k : Nat) :
    (s.answered c h m v).fch k = s.fch k := by simp [State.fch]

/-! ### ECHO and unknown opcodes -/

theorem exec_echo {s : State} {h : Hdr} (bytes : List Byte) (ha : s.admitted echoInfo h = true) (hroom : 32 ≤ h.room) :
    exec (.echo h bytes) s = .next (s.answered echoInfo h 0 { data := padTo 32 bytes }) := by
  have hv : echoVerdict h bytes (s.take h) = { data := padTo 32 bytes } := if_neg (by omega)
  exact congrArg Host.Outcome.next (command_eq ha hv)

theorem exec_commandUnknown {s : State} {h : Hdr} {opcode : Nat} (hop : knownOpcodes.contains opcode = false)
    (ht : s.takeable h = true) :
    exec (.commandUnknown h opcode) s = .next (s.answered { op := opcode } h 0 { status := St.OPCODE }) := by
  show execCommandUnknown h opcode s = _
  unfold execCommandUnknown
  rw [if_neg (by rw [hop]; decide), if_pos ht]
  rfl

/-! ### Handles -/

/-- What HANDLE_QUERY answers of an open handle, by the progress it shows (R421). -/
def runningReply (k : U32) : Option Nat → Verdict
  | some p => { status := St.RUNNING, detail := p, act := fun t => (t.progress k p).took }
  | none => { status := St.RUNNING, detail := 0xFFFFFFFF }

theorem handleQueryVerdict_opened {u : State} {h : Hdr} {k : U32} (hh : u.holds h.src k = true)
    (hst : (u.hent (hIndex k)).st = .opened) : handleQueryVerdict h k u = runningReply k (u.progressNow k) := by
  unfold handleQueryVerdict
  rw [if_neg (by simp [hh])]
  dsimp only
  rw [if_pos hst]
  cases u.progressNow k <;> rfl

theorem exec_handleQuery_noProgress {s : State} {h : Hdr} {k : U32} (ha : s.admitted handleQueryInfo h = true)
    (hh : s.holds h.src k = true) (hst : (s.hent (hIndex k)).st = .opened)
    (hp : (s.hent (hIndex k)).progress = none) :
    exec (.handleQuery h k) s = .next (s.answered handleQueryInfo h k.toNat
      { status := St.RUNNING, detail := 0xFFFFFFFF }) := by
  have hv := handleQueryVerdict_opened (u := s.take h) (h := h) (k := k) (by rwa [take_holds]) (by rwa [take_hent])
  have hnow : (s.take h).progressNow k = none := by simp [State.progressNow, take_hent, hp]
  rw [hnow] at hv
  exact congrArg Host.Outcome.next (command_eq ha hv)

/-- The progress that a load reports does not fall, and stays at 1,000 at most (log entry 48). -/
theorem progressNow_some {s : State} {k : U32} {p : Nat} (hp : (s.hent (hIndex k)).progress = some p) :
    ∃ q, s.progressNow k = some q ∧ p ≤ q ∧ (p ≤ 1000 → q ≤ 1000) := by
  refine ⟨max p (s.freshWord.toNat % 1001), by simp [State.progressNow, hp], by omega, by omega⟩

theorem exec_handleQuery_progress {s : State} {h : Hdr} {k : U32} {p : Nat} (ha : s.admitted handleQueryInfo h = true)
    (hh : s.holds h.src k = true) (hst : (s.hent (hIndex k)).st = .opened)
    (hp : (s.hent (hIndex k)).progress = some p) : ∃ q, p ≤ q ∧ (p ≤ 1000 → q ≤ 1000) ∧
      exec (.handleQuery h k) s = .next (((s.answered handleQueryInfo h k.toNat
        { status := St.RUNNING, detail := q }).progress k q).took) := by
  have hv := handleQueryVerdict_opened (u := s.take h) (h := h) (k := k) (by rwa [take_holds]) (by rwa [take_hent])
  obtain ⟨q, hnow, hlow, hhigh⟩ := progressNow_some (s := s.take h) (k := k) (p := p) (by rwa [take_hent])
  rw [hnow] at hv
  exact ⟨q, hlow, hhigh, congrArg Host.Outcome.next (command_eq ha hv)⟩

theorem freeHandle_effect (s : State) (i : Nat) :
    ((s.freeHandle i).hent i).st = .free ∧ (s.freeHandle i).host.freeList = s.host.freeList ++ [i] :=
  ⟨by rw [hent_freeHandle_same], rfl⟩

theorem closeHandle_opened {t : State} {k : U32} (hst : (t.hent (hIndex k)).st = .opened) :
    t.closeHandle k = { t with
      host.handles := tset t.host.handles (hIndex k) { t.hent (hIndex k) with closed := true } } := if_pos hst

/-- HANDLE_CLOSE of an installer closes any handle (R421). -/
theorem handleCloseVerdict_installer {u : State} {p : Hdr} {h : U32} (hused : u.hUsed h = true)
    (hrole : u.roleOf p.src = .installer) : handleCloseVerdict p h u = { act := fun t => t.closeHandle h } := by
  unfold handleCloseVerdict
  rw [if_pos (by simp [hused, hrole])]

theorem length_entryBytes (e : Entry) : (entryBytes e).length = 32 := rfl

/-- A completed handle gives its record and data to the host that has room for them, and is free (R421). -/
theorem handleQuery_frees {s : State} {h : Hdr} {k : U32} {e : Entry} (ha : s.admitted handleQueryInfo h = true)
    (hh : s.holds h.src k = true) (hst : (s.hent (hIndex k)).st = .completed)
    (hrec : (s.hent (hIndex k)).record = some e) (hroom : 32 + (s.hent (hIndex k)).recData.length ≤ h.room) :
    exec (.handleQuery h k) s = .next ((s.answered handleQueryInfo h k.toNat
      { data := entryBytes e ++ (s.hent (hIndex k)).recData }).freeHandle (hIndex k)) := by
  have hexec := exec_handleQuery_completed (h := k) (e := e) ha (by rwa [take_holds]) (by rwa [take_hent])
    (by rwa [take_hent]) (by rwa [take_hent, List.length_append, length_entryBytes])
  rwa [take_hent] at hexec

/-- HANDLE_CLOSE by the holder or by an installer closes the handle (R421). -/
theorem exec_handleClose {s : State} {h : Hdr} {k : U32} (ha : s.admitted handleCloseInfo h = true)
    (hwho : s.holds h.src k = true ∨ (s.hUsed k = true ∧ s.roleOf h.src = .installer)) :
    exec (.handleClose h k) s = .next ((s.answered handleCloseInfo h k.toNat {}).closeHandle k) := by
  have hv : handleCloseVerdict h k (s.take h) = { act := fun t => t.closeHandle k } := by
    rcases hwho with hh | ⟨hused, hrole⟩
    · exact handleCloseVerdict_holder (by rwa [take_holds])
    · exact handleCloseVerdict_installer (by rwa [take_hUsed]) (by simpa using hrole)
  exact congrArg Host.Outcome.next (command_eq ha hv)

theorem silent_with_handles {s u : State} (h : Silent s u) (t : Tab HandleEnt) :
    Silent { s with host.handles := t } { u with host.handles := t } :=
  silent_map h (fun x => { x with host.handles := t }) fun _ _ _ _ _ _ _ _ _ => rfl

theorem silent_with_handleTable {s u : State} (h : Silent s u) (t : Tab HandleEnt) (l : List Nat) :
    Silent { s with host.handles := t, host.freeList := l } { u with host.handles := t, host.freeList := l } :=
  silent_map h (fun x => { x with host.handles := t, host.freeList := l }) fun _ _ _ _ _ _ _ _ _ => rfl

theorem handleClose_marks {s : State} {h : Hdr} {k : U32} (ha : s.admitted handleCloseInfo h = true)
    (hh : s.holds h.src k = true) (hst : (s.hent (hIndex k)).st = .opened) :
    ∃ t, exec (.handleClose h k) s = .next t ∧ Silent { s with host.handles := t.host.handles } t ∧
      t.host.handles = tset s.host.handles (hIndex k) { s.hent (hIndex k) with closed := true } := by
  have hclose := closeHandle_opened (t := s.answered handleCloseInfo h k.toNat {}) (k := k) (by rwa [hent_answered])
  refine ⟨_, exec_handleClose ha (.inl hh), ?_, ?_⟩
  · rw [hclose]
    exact silent_with_handles (silent_answered s _ h _ _) _
  · rw [hclose]
    simp [hent_answered]

theorem handleClose_frees {s : State} {h : Hdr} {k : U32} (ha : s.admitted handleCloseInfo h = true)
    (hused : s.hUsed k = true) (hrole : s.roleOf h.src = .installer) (hst : (s.hent (hIndex k)).st = .completed) :
    ∃ t, exec (.handleClose h k) s = .next t ∧
      Silent { s with host.handles := t.host.handles, host.freeList := t.host.freeList } t ∧
      (t.hent (hIndex k)).st = .free ∧ t.host.freeList = s.host.freeList ++ [hIndex k] := by
  have hclose := closeHandle_completed (t := s.answered handleCloseInfo h k.toNat {}) (h := k) (by rwa [hent_answered])
  obtain ⟨hfree, hlist⟩ := freeHandle_effect (s.answered handleCloseInfo h k.toNat {}) (hIndex k)
  refine ⟨_, exec_handleClose ha (.inr ⟨hused, hrole⟩), ?_, ?_, ?_⟩
  · rw [hclose]
    exact silent_with_handleTable (silent_answered s _ h _ _) _ _
  · rw [hclose, hfree]
  · rw [hclose, hlist, answered_host_freeList]

/-! ### Alarms -/

theorem exec_alarmRead {s : State} {h : Hdr} (ha : s.admitted alarmReadInfo h = true) :
    exec (.alarmRead h) s = .next (s.answered alarmReadInfo h 0
      { data := (((alarmSort s.host.alarms).take (h.room / 32)).map alarmBytes).flatten }) := by
  have hv : alarmReadVerdict h (s.take h) =
      { data := (((alarmSort s.host.alarms).take (h.room / 32)).map alarmBytes).flatten } := by simp [alarmReadVerdict]
  exact congrArg Host.Outcome.next (command_eq ha hv)

/-- What an acknowledgement makes of a record that it names (R427). -/
theorem alarmAcked_eq (all : Bool) (keys : List U64) (l : List AlarmRec) : alarmAcked all keys l =
    l.filterMap (fun a => if all = true ∨ a.key ∈ keys then
      (if a.state = 1 then some { a with state := 2 } else if a.state = 3 then none else some a) else some a) := by
  refine List.filterMap_congr fun a _ => ?_
  by_cases hnamed : all = true ∨ a.key ∈ keys
  · by_cases hactive : a.state = 1
    · simp [ackHits, hnamed, hactive]
    · by_cases hcleared : a.state = 3
      · simp [ackHits, hnamed, hcleared]
      · simp [ackHits, hactive, hcleared]
  · simp [ackHits, hnamed]

theorem exec_alarmAck {s : State} {h : Hdr} {all : Bool} {keys : List U64} (ha : s.admitted alarmAckInfo h = true)
    (hlen : keys.length ≤ 256) :
    ∃ t, exec (.alarmAck h all keys) s = .next t ∧ Silent { s with host.alarms := t.host.alarms } t ∧
      t.host.alarms = alarmAcked all keys s.host.alarms := by
  obtain ⟨x, hx, hact⟩ : ∃ x, alarmAckVerdict all keys (s.take h) = x ∧
      ∀ u : State, Silent { u with host.alarms := alarmAcked all keys u.host.alarms } (x.act u) := by
    refine ⟨_, if_neg (by omega), fun u => ?_⟩
    exact silent_foldl _ _ _ fun a r => silent_event a _ _ _
  have hu := hact (s.answered alarmAckInfo h (keys.headD 0#64).toNat x)
  have halarms : (x.act (s.answered alarmAckInfo h (keys.headD 0#64).toNat x)).host.alarms =
      alarmAcked all keys s.host.alarms := (silent_host_alarms hu).trans (by simp)
  refine ⟨_, congrArg Host.Outcome.next (command_eq ha hx), ?_, halarms⟩
  rw [halarms]
  refine silent_trans ?_ hu
  rw [answered_host_alarms]
  exact silent_map (silent_answered s _ h _ x) (fun v => { v with host.alarms := alarmAcked all keys s.host.alarms })
    fun _ _ _ _ _ _ _ _ _ => rfl

/-! ### Frame channels -/

theorem exec_frameChOpen {s : State} {h : Hdr} {ch : Nat} {mask : BitVec 16} (ha : s.admitted frameChOpenInfo h = true)
    (hch : ch ≤ 3) (hmask : mask.toNat < 64) (hclosed : (s.fch ch).isOpen = false) :
    exec (.frameChOpen h ch mask) s = .next ((s.answered frameChOpenInfo h ch {}).setFch ch
      { s.fch ch with isOpen := true, owner := h.src, portMask := mask }) := by
  have hv : frameChOpenVerdict h ch mask (s.take h) =
      { act := fun t => t.setFch ch { t.fch ch with isOpen := true, owner := h.src, portMask := mask } } := by
    unfold frameChOpenVerdict
    rw [if_neg (by simp; omega), if_neg (by simp [take_fch, hclosed])]
  have hexec := command_eq (m := ch) ha hv
  dsimp only at hexec
  rw [answered_fch] at hexec
  exact congrArg Host.Outcome.next hexec

theorem exec_frameChClose {s : State} {h : Hdr} {ch : Nat} (ha : s.admitted frameChCloseInfo h = true) (hch : ch ≤ 3) :
    exec (.frameChClose h ch) s = .next ((s.answered frameChCloseInfo h ch {}).setFch ch
      { s.fch ch with isOpen := false, owner := .none, portMask := 0#16 }) := by
  have hv : frameChCloseVerdict ch (s.take h) =
      { act := fun t => t.setFch ch { t.fch ch with isOpen := false, owner := .none, portMask := 0#16 } } :=
    if_neg (by omega)
  have hexec := command_eq (m := ch) ha hv
  dsimp only at hexec
  rw [answered_fch] at hexec
  exact congrArg Host.Outcome.next hexec

/-- Settles O6: each clause is the effect of the command's verdict on the answered state. -/
theorem hostCommandsComplete : Obligations.HostCommandsComplete := by
  refine ⟨fun h bytes s => exec_echo bytes, fun h opcode s => exec_commandUnknown, ?query, ?takes, fun h k s =>
    handleClose_marks, fun h k s => handleClose_frees, fun h s => exec_alarmRead, ?ack, fun h ch mask s =>
    exec_frameChOpen, fun h ch s => exec_frameChClose⟩
  case query =>
    intro h k s ha hh hst
    exact ⟨exec_handleQuery_noProgress ha hh hst, fun p => exec_handleQuery_progress ha hh hst⟩
  case takes =>
    intro h k e s ha hh hst hrec hroom
    obtain ⟨hfree, hlist⟩ := freeHandle_effect (s.answered handleQueryInfo h k.toNat
      { data := entryBytes e ++ (s.hent (hIndex k)).recData }) (hIndex k)
    exact ⟨_, handleQuery_frees ha hh hst hrec hroom, rfl, hfree, hlist.trans (by rw [answered_host_freeList])⟩
  case ack =>
    intro h all keys s ha hlen
    obtain ⟨t, hexec, hsilent, halarms⟩ := exec_alarmAck ha hlen
    exact ⟨t, hexec, hsilent, halarms.trans (alarmAcked_eq all keys _)⟩

end Sys2Proof.Proofs

/-! PROOF. Doorbells, queue pairs in and out of service, the loss event and the tails of frame channels (R414, R417,
R418, R444, R445). -/

namespace Sys2Proof.Proofs
open Sys2Proof.Machine Sys2Proof.Laws

/-! ### Doorbells -/

section
variable {s : State} {q : Nat} {idx : U32}

/-- The bell of a pair in service. -/
theorem exec_sqTail (hup : s.hostUp = true) (hq : q < 8) (hen : (s.queue q).enabled = true) :
    exec (.sqTail q idx) s = .next (s.setQueue q (if idx.toNat % 4096 < 2 ^ (s.queue q).sqSize then
      { s.queue q with sqTail := idx.toNat % 4096 } else { s.queue q with lost := (s.queue q).lost + 1 })) := by
  show Host.Outcome.next (s.ringSq q idx) = _
  unfold State.ringSq
  dsimp only
  rw [if_pos (by simp [hup, hq, hen])]
  split
  next hin => exact congrArg (fun p => Host.Outcome.next (s.setQueue q p)) (if_pos hin).symm
  next hout => exact congrArg (fun p => Host.Outcome.next (s.setQueue q p)) (if_neg hout).symm

theorem exec_cqHead (hup : s.hostUp = true) (hq : q < 8) (hen : (s.queue q).enabled = true) :
    exec (.cqHead q idx) s = .next (s.setQueue q (if idx.toNat % 4096 < 2 ^ (s.queue q).cqSize then
      { s.queue q with
        cqHead := idx.toNat % 4096
        cqCount := (s.queue q).cqCount -
          (idx.toNat % 4096 + 2 ^ (s.queue q).cqSize - (s.queue q).cqHead) % 2 ^ (s.queue q).cqSize }
      else { s.queue q with lost := (s.queue q).lost + 1 })) := by
  show Host.Outcome.next (s.ringCq q idx) = _
  unfold State.ringCq
  dsimp only
  rw [if_pos (by simp [hup, hq, hen])]
  split
  next hin => exact congrArg (fun p => Host.Outcome.next (s.setQueue q p)) (if_pos hin).symm
  next hout => exact congrArg (fun p => Host.Outcome.next (s.setQueue q p)) (if_neg hout).symm

end

/-! ### Service -/

theorem sizeOk_and (m n : Nat) : (sizeOk m && sizeOk n) = decide (1 ≤ m ∧ m ≤ 12 ∧ 1 ≤ n ∧ n ≤ 12) := by
  simp [sizeOk, Bool.decide_and, Bool.and_assoc]

theorem exec_queueEnable {s : State} {q : Nat} (hup : s.hostUp = true) (hq : q < 8) (hen : (s.queue q).enable = false) :
    exec (.queueEnable q) s = .next (s.setQueue q { s.queue q with
      enable := true
      enabled := decide (1 ≤ (s.queue q).sqSize ∧ (s.queue q).sqSize ≤ 12 ∧ 1 ≤ (s.queue q).cqSize ∧
        (s.queue q).cqSize ≤ 12)
      sqTail := 0, sqHead := 0, cqHead := 0, cqTail := 0, cqCount := 0, phase := true, lostPend := false }) := by
  rw [← sizeOk_and]
  exact congrArg Host.Outcome.next (if_pos (by simp [hup, hq, hen]))

/-- A pair whose binding ends has none, whatever maker bindings end with it (R418, R470). -/
theorem queue_unbindQueue_same (s : State) (q : Nat) : (s.unbindQueue q).queue q = { s.queue q with bind := none } := by
  have hpair : (s.setQueue q { s.queue q with bind := none }).queue q = { s.queue q with bind := none } := by
    rw [queue_setQueue, if_pos rfl]
  rw [State.unbindQueue, dropMakers_queue _ _ (by rw [hpair]), hpair]

theorem unbindQueue_shape (s : State) (q : Nat) :
    ∃ qs ss, s.unbindQueue q = { s with host.queues := qs, host.sessions := ss } := by
  obtain ⟨qs, ss, h⟩ := dropMakers_shape (s.setQueue q { s.queue q with bind := none })
  exact ⟨qs, ss, h⟩

theorem exec_queueDisable {s : State} {q : Nat} (hup : s.hostUp = true) (hq : q < 8) (hen : (s.queue q).enable = true) :
    ∃ t, exec (.queueDisable q) s = .next t ∧
      (t.queue q).enable = false ∧ (t.queue q).enabled = false ∧ (t.queue q).bind = none ∧
      t.host.staging = s.host.staging.filter (fun e => e.owner != .queue q || s.isPending e) ∧
      t.host.handles = tmap s.host.handles (fun _ e =>
        if e.st == .opened && e.src == .queue q then { e with closed := true } else e) ∧ WithinDisable s t := by
  have hexec : exec (.queueDisable q) s = .next ((stopQueue s q).unbindQueue q) :=
    congrArg Host.Outcome.next (disableQueue_of_enable hup hq hen)
  have hpair : ((stopQueue s q).unbindQueue q).queue q = { stoppedPair (s.queue q) with bind := none } := by
    rw [queue_unbindQueue_same, queue_stopQueue, if_pos rfl]
  obtain ⟨qs, ss, hshape⟩ := unbindQueue_shape (stopQueue s q) q
  refine ⟨_, hexec, by rw [hpair]; rfl, by rw [hpair]; rfl, by rw [hpair], ?_, ?_, ?_⟩
  · rw [hshape]
    rfl
  · rw [hshape]
    rfl
  · have hstop : WithinDisable s (stopQueue s q) := rfl
    exact hstop.trans (unbindQueue_withinDisable _ q)

/-! ### The loss event -/

/-- A pair that has lost an entry and has room again gets the event (R417). -/
theorem exec_queueLostPost {s : State} {q : Nat} (hready : s.ready = true) (hq : q < 8)
    (hen : (s.queue q).enabled = true) (hlost : (s.queue q).lostPend = true) (hroom : (s.queue q).cqFull = false) :
    ∃ t, exec (.queueLostPost q) s = .next t ∧ Silent s t ∧ (t.queue q).lostPend = false ∧
      t.aud.next = s.aud.next + 1 ∧
      OutMsg.entry (.queue q) { status := St.QUEUE_LOST, kind := 3, queue := 0xFF, phase := (s.queue q).phase,
                                epoch := s.epoch, detail := q } [] ∈ t.out := by
  let e : Entry := { status := St.QUEUE_LOST, kind := 3, queue := 0xFF, epoch := s.epoch, detail := q }
  let u := (s.setQueue q { s.queue q with lostPend := false }).auditDev 4 0x0100 St.QUEUE_LOST q []
  have hexec : exec (.queueLostPost q) s = .next (u.postQueue q e []).1 :=
    congrArg Host.Outcome.next (if_pos (by simp [hready, hq, hen, hlost, hroom]))
  have hpair : u.queue q = { s.queue q with lostPend := false } :=
    (queue_setQueue s q q _).trans (if_pos rfl)
  have hen' : (u.queue q).enabled = true := by rw [hpair]; exact hen
  have hroom' : (u.queue q).cqFull = false := by rw [hpair]; exact hroom
  refine ⟨_, hexec, ?_, ?_, by rw [postQueue_aud]; rfl, ?_⟩
  · have hsilent : Silent s u :=
      silent_trans (silent_setQueue s q { s.queue q with lostPend := false } rfl) (silent_auditPush _ _)
    exact silent_trans hsilent (silent_postQueue u q e [])
  · rw [postQueue_queue u q e [] hen' hroom', hpair]
    rfl
  · have hsent := postQueue_out u q e [] hen' hroom'
    rwa [hpair] at hsent

/-! ### Frame channels -/

theorem fch_setFch_same (s : State) (c : Nat) (v : FrameCh) : (s.setFch c v).fch c = v := tgetD_tset_same _ _ _ _

theorem exec_txTail {s : State} {ch : Nat} (idx : U32) (ds : List TxDesc) (hup : s.hostUp = true) (hch : ch < 4)
    (hopen : (s.fch ch).isOpen = true) : exec (.txTail ch idx ds) s =
      .next (ds.foldl (fun a d => a.txOne ch d) (s.setFch ch { s.fch ch with txTail := idx.toNat })) :=
  congrArg Host.Outcome.next (if_pos (by simp [hup, hch, hopen]))

theorem exec_rxTail {s : State} {ch : Nat} (idx : U32) (hup : s.hostUp = true) (hch : ch < 4)
    (hopen : (s.fch ch).isOpen = true) :
    exec (.rxTail ch idx) s = .next (s.setFch ch { s.fch ch with rxTail := idx.toNat }) :=
  congrArg Host.Outcome.next (if_pos (by simp [hup, hch, hopen]))

/-- One descriptor is written back with its status, and the head of the ring moves on (R390, R444). -/
theorem exec_txTail_one {s : State} {ch : Nat} (idx : U32) (d : TxDesc) (hup : s.hostUp = true) (hch : ch < 4)
    (hopen : (s.fch ch).isOpen = true) :
    ∃ t ts, exec (.txTail ch idx [d]) s = .next t ∧
      OutMsg.desc ch true (s.fch ch).txHead (descBytes d.addr d.len d.port (d.flags ||| 2#8).toNat d.tag.toNat ts
        (s.txStatus (s.fch ch) d)) ∈ t.out ∧
      (t.fch ch).txHead = ((s.fch ch).txHead + 1) % Config.fcEntries (s.fch ch).fcCfg true ∧
      (t.fch ch).txTail = idx.toNat := by
  obtain ⟨ts, hout, hfch⟩ := txOne_spec (s.setFch ch { s.fch ch with txTail := idx.toNat }) ch d
  rw [fch_setFch_same] at hout hfch
  exact ⟨_, ts, exec_txTail idx [d] hup hch hopen, hout, congrArg FrameCh.txHead hfch, congrArg FrameCh.txTail hfch⟩

/-- Settles O7: each row acts where its condition holds, as the lemma of the row says. -/
theorem queueRegistersComplete : Obligations.QueueRegistersComplete := by
  refine ⟨?bells, fun q s => exec_queueEnable, fun q s => exec_queueDisable, fun q s => exec_queueLostPost,
    fun ch idx s hup hch hopen => ⟨exec_txTail idx [] hup hch hopen, exec_rxTail idx hup hch hopen⟩,
    fun ch idx d s => exec_txTail_one idx d⟩
  case bells =>
    intro q idx s hup hq hen
    rw [exec_sqTail hup hq hen, exec_cqHead hup hq hen]
    refine ⟨fun h => ?_, fun h => ?_, fun h => ?_, fun h => ?_⟩
    · rw [if_pos h]
    · rw [if_neg (by omega)]
    · rw [if_pos h]
    · rw [if_neg (by omega)]

end Sys2Proof.Proofs

/-! PROOF. Reads and writes of the register window (O8). -/

namespace Sys2Proof.Proofs
open Sys2Proof.Machine Sys2Proof.Laws

/-! ### Reads -/

/-- A read outside the calendar's time registers changes the latch of high words only. -/
theorem readReg_shape (s : State) (off : Nat) :
    ∃ v, s.readReg off =
      { s with host.hiLatch := v, out := OutMsg.readData off (s.regWord off) :: s.out } := by
  unfold State.readReg
  cases s.highWord off with
  | none => exact ⟨s.host.hiLatch, rfl⟩
  | some v => exact ⟨tset s.host.hiLatch off v, rfl⟩

theorem exec_regRead {s : State} {off : Nat} (hup : s.hostUp = true) (hal : off % 4 = 0)
    (hcal : off < 0x8000 ∨ 0x8020 ≤ off) : exec (.calRegRead off) s = .next (s.readReg off) := by
  refine congrArg Host.Outcome.next ((if_neg (by simp [hup, hal])).trans (if_neg ?_))
  simp; omega

theorem exec_timeRead {s : State} {k : Nat} (hup : s.hostUp = true) (hk : k < 8) :
    exec (.calRegRead (0x8000 + 4 * k)) s = .next (s.calRead k) := by
  have hidx : (0x8000 + 4 * k - 0x8000) / 4 = k := by omega
  refine congrArg Host.Outcome.next ((if_neg (by simp [hup, Nat.add_mod])).trans ((if_pos (by simp; omega)).trans ?_))
  rw [hidx]

theorem regWord_queue {s : State} {off n k : Nat} (hn : n < 8) (hk : k < 32) (hoff : off = 0x0100 + 32 * n + k) :
    s.regWord off = s.queueWord off n k := by
  have hd : (off - 0x0100) / 32 = n := by omega
  have hm : (off - 0x0100) % 32 = k := by omega
  unfold State.regWord
  rw [if_neg (by omega), if_neg (by omega), if_neg (by omega), if_pos (by simp; omega), hd, hm]

theorem regWord_fixed (s : State) :
    s.regWord 0 = BitVec.ofNat 32 s.devId ∧ s.regWord 4 = s.ident.fw ∧ s.regWord 8 = s.devStatusReg ∧
    s.regWord 0x4800 = s.host.msixPend ∧ s.regWord 0x8024 = BitVec.ofNat 32 s.calStatus ∧
    s.regWord 0x8100 = BitVec.ofNat 32 s.dripStatus ∧ s.regWord 0x8104 = BitVec.ofNat 32 s.resetCause :=
  ⟨rfl, rfl, rfl, rfl, rfl, rfl, rfl⟩

theorem calRead_year (s : State) : s.calRead 7 =
    { s with
      drip.frozen := false, drip.shadow := if s.drip.frozen then s.drip.shadow else s.drip.live
      out := OutMsg.readData (0x8000 + 4 * 7)
        (BitVec.ofNat 32 (calReg (if s.drip.frozen then s.drip.shadow else s.drip.live) 7)) :: s.out } := rfl

theorem calRead_freezes (s : State) {k : Nat} (hk : k ≠ 7) : s.calRead k =
    { s with
      drip.frozen := true, drip.shadow := if s.drip.frozen then s.drip.shadow else s.drip.live
      drip.frozenAt := if s.drip.frozen then s.drip.frozenAt else s.epoch
      out := OutMsg.readData (0x8000 + 4 * k)
        (BitVec.ofNat 32 (calReg (if s.drip.frozen then s.drip.shadow else s.drip.live) k)) :: s.out } :=
  congrArg (fun t : State => t.emit (.readData (0x8000 + 4 * k)
    (BitVec.ofNat 32 (calReg (if s.drip.frozen then s.drip.shadow else s.drip.live) k)))) (if_neg hk)

/-! ### Writes -/

theorem exec_regWrite {s : State} {off : Nat} (v : U32) (hup : s.hostUp = true) (hal : off % 4 = 0) :
    exec (.registerWrite off v) s = .next (s.writeReg off v) :=
  congrArg Host.Outcome.next (if_pos (by simp [hup, hal]))

theorem exec_regWrite_queue {s : State} {off n k : Nat} (v : U32) (hup : s.hostUp = true) (hn : n < 8) (hk : k < 32)
    (hal : k % 4 = 0) (hoff : off = 0x0100 + 32 * n + k) :
    exec (.registerWrite off v) s = .next (s.writeQueueReg n k v) := by
  have hd : (off - 0x0100) / 32 = n := by omega
  have hm : (off - 0x0100) % 32 = k := by omega
  rw [exec_regWrite v hup (by omega)]
  unfold State.writeReg
  rw [if_pos (by simp; omega), hd, hm]

theorem writeReg_msix {s : State} {i : Nat} (v : U32) (hi : i < 128) :
    s.writeReg (0x4000 + 4 * i) v = s.writeMsix i v := by
  have hd : (0x4000 + 4 * i - 0x4000) / 4 = i := by omega
  unfold State.writeReg
  rw [if_neg (by simp; omega), if_neg (by simp; omega), if_neg (by simp; omega), if_pos (by simp; omega), hd]

/-- A word that does not unmask a vector is only stored. -/
theorem writeMsix_stores {s : State} {i : Nat} {v : U32} (h : i % 4 ≠ 3 ∨ v.getLsbD 0 = true) :
    s.writeMsix i v = { s with host.msix := tset s.host.msix i v } := by
  refine if_neg ?_
  rcases h with h | h <;> simp [h]

theorem writeReg_outside {s : State} {off : Nat} (v : U32) (h : off < 0x0100 ∨ 0x8200 ≤ off ∨ off = 0x8104) :
    s.writeReg off v = s := by
  unfold State.writeReg
  rw [if_neg (by simp; omega), if_neg (by simp; omega), if_neg (by simp; omega), if_neg (by simp; omega),
    if_neg (by simp; omega), if_neg (by omega), if_neg (by omega), if_neg (by omega)]

theorem exec_regWrite_outside {s : State} {off : Nat} (v : U32)
    (h : off < 0x0100 ∨ 0x8200 ≤ off ∨ off = 0x8104) : exec (.registerWrite off v) s = .next s := by
  refine congrArg Host.Outcome.next ?_
  split
  · exact writeReg_outside v h
  · rfl

/-- The sizes of a pair that is not enabled are set while ENABLE stays 0 (R418). -/
theorem writeQCfg_sizes {s : State} {n : Nat} {v : U32} (hen : (s.queue n).enable = false)
    (hv : v.getLsbD 16 = false) :
    s.writeQCfg n v = s.setQueue n { s.queue n with sqSize := v.toNat % 16, cqSize := v.toNat / 16 % 16 } := by
  unfold State.writeQCfg
  dsimp only
  rw [if_neg (by simp [hen]), if_neg (Bool.eq_false_iff.mp hv)]

/-- Settles O8: a read is looked up in the map, and a write is cut down to its register's own rule. -/
theorem registerWindowComplete : Obligations.RegisterWindowComplete := by
  refine ⟨fun off s hup hal hcal => ?_, fun n s hn => ?_, fun k s hup hk => ?_, fun i v s hup hi hv => ?_,
    fun v s hup => exec_regWrite v hup rfl, fun n v s hup hn => ⟨?_, ?_, fun hen hv => ?_⟩,
    fun off v s _ h => exec_regWrite_outside v h⟩
  case refine_1 =>
    obtain ⟨w, hw⟩ := readReg_shape s off
    exact ⟨_, (exec_regRead hup hal hcal).trans (congrArg _ hw), rfl, rfl⟩
  case refine_2 =>
    obtain ⟨h0, h4, h8, hpend, hcal, hdrip, hcause⟩ := regWord_fixed s
    exact ⟨h0, h4, h8, regWord_queue hn (k := 24) (by omega) (by omega),
      regWord_queue hn (k := 28) (by omega) (by omega), hpend, hcal,
      hdrip, hcause⟩
  case refine_3 =>
    by_cases h7 : k = 7
    · subst h7
      exact ⟨_, (exec_timeRead hup hk).trans (congrArg _ (calRead_year s)), rfl, rfl, rfl, absurd rfl, rfl⟩
    · exact ⟨_, (exec_timeRead hup hk).trans (congrArg _ (calRead_freezes s h7)), rfl, (decide_eq_true h7).symm, rfl,
        fun _ => rfl, rfl⟩
  case refine_4 =>
    exact (exec_regWrite v hup (by omega)).trans (congrArg _ ((writeReg_msix v hi).trans (writeMsix_stores hv)))
  case refine_5 => exact exec_regWrite_queue v hup hn (k := 0) (by omega) (by omega) (by omega)
  case refine_6 => exact exec_regWrite_queue v hup hn (k := 4) (by omega) (by omega) (by omega)
  case refine_7 =>
    exact (exec_regWrite_queue v hup hn (k := 24) (by omega) (by omega) (by omega)).trans
      (congrArg _ (writeQCfg_sizes hen hv))

end Sys2Proof.Proofs

/-! PROOF. The calendar: its writes, commits, window, summer time and course (O9). -/

namespace Sys2Proof.Proofs
open Sys2Proof.Machine Sys2Proof.Laws

/-! ### What the calendar's operations leave in its set -/

/-- What `calPart` keeps, field by field. -/
theorem calPart_fields {t : State} {live : CalSet} {valid unlocked rangeEnd dst : Bool} {sub : Nat}
    {staged : Option CalSet} (h : calPart t = (live, valid, sub, unlocked, staged, rangeEnd, dst)) :
    t.drip.live = live ∧ t.drip.valid = valid ∧ t.drip.sub = sub ∧ t.drip.unlocked = unlocked ∧
      t.drip.staged = staged ∧ t.drip.rangeEnd = rangeEnd ∧ t.drip.dst = dst := by
  simpa only [calPart, Prod.mk.injEq] using h

/-- A set becomes the calendar; the alarms, TB2 and the start of T0 leave it as it is (R534). -/
theorem calPart_calBecomes (s : State) (c : CalSet) :
    calPart (s.calBecomes c) = (c, true, 0, s.drip.unlocked, s.drip.staged, false, s.drip.dst) := by
  unfold State.calBecomes
  rw [calPart_tryStart, calPart_loadTb2, calPart_almAdjustAll]
  rfl

/-- A carry with a pending change moves the hour and drops the staged set (R536). -/
theorem calPart_dstCarry (s : State) (t : Nat) :
    calPart (s.dstCarry t) = (calOfSeconds (if s.drip.dstPend = 1 then t + 3600 else t - 3600), s.drip.valid, 0,
      s.drip.unlocked, none, s.drip.rangeEnd, s.drip.dstPend == 1) := by
  unfold State.dstCarry
  rw [calPart_loadTb2, calPart_almAdjustAll]
  rfl

theorem calPart_almCarry_loadTb2 (s : State) (t : Nat) : calPart (s.almCarry t).loadTb2 = calPart s :=
  (calPart_loadTb2 _).trans (calPart_almCarry s t)

/-- The window's fields as CAL_WRITE_ENABLE sets them (R535). -/
def windowOpened (s : State) (src : Src) : DripSt :=
  { s.drip with unlocked := true, openedAt := s.epoch, openRole := s.roleOf src, openSrc := src }

theorem windowOpened_answered (s : State) (c : CmdInfo) (h : Hdr) (m : Nat) (x : Verdict) (src : Src) :
    windowOpened (s.answered c h m x) src = windowOpened s src := by
  unfold windowOpened
  rw [answered_drip, answered_epoch, answered_roleOf]

/-! ### Registers, commit and discard -/

theorem exec_timeWrite {s : State} {k : Nat} (v : U32) (hup : s.hostUp = true) (hk : k < 8) :
    exec (.calRegWrite (0x8000 + 4 * k) v) s = .next (s.calWrite k v.toNat) := by
  have hidx : (0x8000 + 4 * k - 0x8000) / 4 = k := by omega
  refine congrArg Host.Outcome.next ((if_pos (by simp [hup, Nat.add_mod]; omega)).trans ?_)
  rw [hidx]

theorem exec_calCommit {s : State} (hup : s.hostUp = true) : exec .calCommit s = .next s.calCommit :=
  congrArg Host.Outcome.next (if_pos hup)

theorem exec_calDiscard {s : State} (hup : s.hostUp = true) : exec .calDiscard s = .next s.calDiscard :=
  congrArg Host.Outcome.next (if_pos hup)

section
variable {s : State} {c : CalSet} (hopen : s.drip.unlocked = true) (hst : s.drip.staged = some c)
include hopen hst

/-- A staged set that passes the checks becomes the calendar under its audit record (R534, R535). -/
theorem calCommit_passes (hr : calReason c = 0) :
    s.calCommit = (({ s.auditCal St.OK c with
      drip.writeRejected := false, drip.rejectReason := 0, drip.staged := none
      drip.unlocked := false }).dropDst).calBecomes c := by
  unfold State.calCommit
  rw [if_neg (by simp [hopen]), hst]
  exact if_neg (by simp [hr])

/-- A staged set that fails a check is rejected with its reason and stays staged. -/
theorem calCommit_rejects (hr : calReason c ≠ 0) :
    s.calCommit = ({ s with drip.writeRejected := true, drip.rejectReason := calReason c }).auditCal St.RANGE c := by
  unfold State.calCommit
  rw [if_neg (by simp [hopen]), hst]
  exact if_pos (by simpa using hr)

end

theorem calPart_calCommit {s : State} {c : CalSet} (hopen : s.drip.unlocked = true) (hst : s.drip.staged = some c)
    (hr : calReason c = 0) : calPart s.calCommit = (c, true, 0, false, none, false, s.drip.dst) := by
  rw [calCommit_passes hopen hst hr, calPart_calBecomes]
  refine congrArg (fun p : _ × _ × _ × _ × _ × _ × _ => (c, true, 0, p.2.2.2.1, p.2.2.2.2.1, false, p.2.2.2.2.2.2))
    (calPart_dropDst _)

/-! ### Carry, synchronisation and CD0 -/

section
variable {s : State} (hend : s.drip.rangeEnd = false)
include hend

/-- A carry without a pending change counts one second (R531). -/
theorem calPart_secondCarry (hp : s.drip.dstPend = 0) (hlt : calSeconds s.drip.live + 1 < calEnd) :
    ∃ t, exec .calSecondCarry s = .next t ∧ calPart t = (calOfSeconds (calSeconds s.drip.live + 1), s.drip.valid, 0,
      s.drip.unlocked, s.drip.staged, s.drip.rangeEnd, s.drip.dst) :=
  ⟨_, congrArg Host.Outcome.next ((if_neg (by simp [hend])).trans
    ((if_neg (by simp [hp])).trans (if_neg (by omega)))), calPart_almCarry_loadTb2 _ _⟩

/-- A carry with a pending change of one hour makes it in place of the second (R536). -/
theorem calPart_secondCarry_dst (hp : s.drip.dstPend = 1) (hlt : calSeconds s.drip.live + 1 < calEnd) :
    ∃ t, exec .calSecondCarry s = .next t ∧ calPart t = (calOfSeconds (calSeconds s.drip.live + 1 + 3600),
      s.drip.valid, 0, s.drip.unlocked, none, s.drip.rangeEnd, true) := by
  refine ⟨_, congrArg Host.Outcome.next ((if_neg (by simp [hend])).trans (if_pos (by simp [hp, hlt]))),
    (calPart_dstCarry _ _).trans ?_⟩
  simp [hp]

/-- At the last second of the range the calendar ends (R531). -/
theorem exec_secondCarry_end (hge : calEnd ≤ calSeconds s.drip.live + 1) :
    exec .calSecondCarry s =
      .next ({ s with drip.cd0 := true, drip.valid := false, drip.rangeEnd := true } : State).loadTb2 :=
  congrArg Host.Outcome.next ((if_neg (by simp [hend])).trans ((if_neg (by simp; omega)).trans (if_pos hge)))

end

theorem exec_cd0Loss {s : State} (h : s.drip.cd0 = true) :
    exec .cd0Loss s = .next ({ s with drip.cd0 := false, drip.valid := false } : State).loadTb2 :=
  congrArg Host.Outcome.next (if_pos h)

/-! ### CAL_DST -/

section
variable {s : State} (hdst : s.drip.dst = false)
include hdst

theorem calDstVerdict_forward (hlt : calSeconds s.drip.live + 1 + 3600 < calEnd) :
    calDstVerdict 1 s = { act := fun t => { t with drip.dstPend := 1 } } :=
  (if_neg (by simp [hdst])).trans (if_neg (by simp; omega))

theorem calDstVerdict_back : calDstVerdict 2 s = reject St.WRONG_MODE := if_pos (by simp [hdst])

end

/-- Settles O9: the carry, the commit and the check come down to `calPart` of what they make the calendar. -/
theorem calendarComplete : Obligations.CalendarComplete := by
  refine ⟨fun h s ha => ?_, fun k v s hup hk => ⟨fun ho => ?_, fun ho => ?_⟩,
    fun c s hup hopen hst => ⟨fun hr => ?_, fun hr => ?_⟩, fun s hup ho => ⟨?_, ?_⟩, fun s hup ho => ?_,
    fun s hf hold => ?_, fun s ho hold => ?_, fun h s ha hdst => ⟨fun hlt => ?_, ?_⟩,
    fun s hend => ⟨fun hp hlt => ?_, fun hp hlt => ?_, fun hge => ?_⟩, fun s hc => ?_,
    fun s hrdy hrun hsync hb h0 hmin hge hlt hdiff => ?_, fun h s ha => ?_⟩
  case refine_1 => -- CAL_WRITE_ENABLE
    have hrun := command_eq (m := 0) ha (f := fun _ => { act := fun t => { t with drip := windowOpened t h.src } }) rfl
    refine ⟨_, congrArg Host.Outcome.next hrun, rfl, rfl, answered_roleOf _ _ _ _ _ _, answered_epoch _ _ _ _ _, ?_⟩
    dsimp only
    rw [windowOpened_answered]
    exact silent_with_drip (silent_answered s _ h _ _) (windowOpened s h.src)
  case refine_2 => exact (exec_timeWrite v hup hk).trans (congrArg _ (if_pos ho))
  case refine_3 => exact (exec_timeWrite v hup hk).trans (congrArg _ (if_neg (by simp [ho])))
  case refine_4 => -- a commit that passes
    obtain ⟨hl, hv, hs, hu, hg, he, -⟩ := calPart_fields (calPart_calCommit hopen hst hr)
    exact ⟨_, exec_calCommit hup, hl, hs, hv, hu, hg, he⟩
  case refine_5 => exact ⟨_, (exec_calCommit hup).trans (congrArg _ (calCommit_rejects hopen hst hr)), rfl, rfl⟩
  case refine_6 => exact (exec_calCommit hup).trans (congrArg _ (if_pos (by simp [ho])))
  case refine_7 => exact (exec_calDiscard hup).trans (congrArg _ (if_neg (by simp [ho])))
  case refine_8 => exact (exec_calDiscard hup).trans (congrArg _ (if_pos ho))
  case refine_9 => -- the end of a freeze
    refine congrArg Host.Outcome.next (if_pos ?_)
    cases hr : s.time.running <;> simp_all
  case refine_10 => -- the end of the window
    refine congrArg Host.Outcome.next (if_pos ?_)
    cases hr : s.time.running <;> simp_all [ticksPerS]
  case refine_11 => exact congrArg _ (command_eq ha (calDstVerdict_forward (by simpa using hdst) (by simpa using hlt)))
  case refine_12 => exact congrArg _ (command_eq ha (calDstVerdict_back (by simpa using hdst)))
  case refine_13 =>
    obtain ⟨t, ht, hpart⟩ := calPart_secondCarry hend hp hlt
    obtain ⟨hl, hv, hs, -⟩ := calPart_fields hpart
    exact ⟨t, ht, hl, hs, hv⟩
  case refine_14 =>
    obtain ⟨t, ht, hpart⟩ := calPart_secondCarry_dst hend hp hlt
    obtain ⟨hl, -, -, -, hg, -, hd⟩ := calPart_fields hpart
    exact ⟨t, ht, hl, hd, hg⟩
  case refine_15 => exact ⟨_, exec_secondCarry_end hend hge, rfl, rfl, rfl⟩
  case refine_16 => exact ⟨_, exec_cd0Loss hc, rfl, rfl, rfl⟩
  case refine_17 => -- the synchronisation check
    obtain ⟨hl, hv, hs, -⟩ := calPart_fields (calPart_calBecomes
      (s.auditDev 1 0 St.OK 0 (calBytes (calOfSeconds (s.localByTb0 / (fsPerS : Int)).toNat)))
      (calOfSeconds (s.localByTb0 / (fsPerS : Int)).toNat))
    exact ⟨_, congrArg Host.Outcome.next (if_pos (by simp_all)), hl, hs, hv⟩
  case refine_18 =>
    have hv : dripEventsVerdict h (s.take h) = dripEventsVerdict h s := by unfold dripEventsVerdict; rw [take_drip]
    exact congrArg Host.Outcome.next (command_eq ha hv)

end Sys2Proof.Proofs

/-! PROOF. Commits take effect at order 3 (O12). -/

namespace Sys2Proof.Proofs
open Sys2Proof.Machine Sys2Proof.Laws

/-! ### Staged values are those of the staging copies -/

theorem stagVals_congr {s t : State} (h : t.host.staging = s.host.staging) (g i : Nat) :
    t.stagVals g i = s.stagVals g i := by
  unfold State.stagVals State.stagOf
  rw [h]

theorem instVals_congr {s t : State} (h : t.host.staging = s.host.staging) (l : List (Nat × Nat)) :
    t.instVals l = s.instVals l := by
  unfold State.instVals
  simp only [stagVals_congr h]

/-! ### Applying commits changes the committed values and nothing else of the commits -/

theorem comPart_fields {t : State} {par : ParSt} {due : List DueCommit} {pend : List PendCommit} {stag : List StagEnt}
    (h : comPart t = (par, due, pend, stag)) :
    t.par = par ∧ t.host.due = due ∧ t.host.pendCommits = pend ∧ t.host.staging = stag := by
  simpa only [comPart, Prod.mk.injEq] using h

theorem comPart_applyCommit (s : State) (l : List (Nat × Nat)) (v : Tab PVal) :
    comPart (s.applyCommit l v) =
      ({ s.par with vals := tjoin s.par.vals v }, s.host.due, s.host.pendCommits, s.host.staging) :=
  comPart_foldl l (fun a x => a.committed s x.1 x.2) _ (fun a x => comPart_committed a s x.1 x.2)

theorem comPart_applyCommits (ds : List DueCommit) (s : State) :
    comPart (ds.foldl (fun a d => a.applyCommit d.insts d.vals) s) =
      ({ s.par with vals := ds.foldl (fun v d => tjoin v d.vals) s.par.vals }, s.host.due, s.host.pendCommits,
        s.host.staging) := by
  induction ds generalizing s with
  | nil => rfl
  | cons d ds ih =>
    obtain ⟨hpar, hdue, hpend, hstag⟩ := comPart_fields (comPart_applyCommit s d.insts d.vals)
    rw [List.foldl_cons, ih, hpar, hdue, hpend, hstag]
    rfl

/-- The state of a boundary once order 3 is reached and its record is written. -/
theorem comPart_commitStart (s : State) : comPart ((s.atOrder 3).auditApplied 0) = comPart s :=
  (comPart_auditApplied _ _).trans (comPart_atOrder _ _)

theorem epoch_commitStart (s : State) : ((s.atOrder 3).auditApplied 0).epoch = s.epoch := by
  rw [auditApplied_epoch, atOrder_epoch]

/-- The commits that are due take effect in the order of acceptance (R22, R431). -/
theorem comPart_applyDue (s : State) : comPart ((s.atOrder 3).auditApplied 0).applyDue =
    ({ s.par with vals := s.dueNow.foldl (fun v d => tjoin v d.vals) s.par.vals },
      s.host.due.filter (fun d => !decide (d.accEpoch < s.epoch)), s.host.pendCommits, s.host.staging) := by
  obtain ⟨hpar, hdue, hpend, hstag⟩ := comPart_fields (comPart_commitStart s)
  unfold State.applyDue
  rw [comPart_applyCommits]
  unfold State.dueNow
  dsimp only
  rw [epoch_commitStart, hpar, hdue, hpend, hstag]

/-! ### A pending commit at its epoch -/

section
variable {u : State} {p : PendCommit}

theorem comPart_pendDue_ok (hc : u.pendCode p = St.OK) : comPart (u.pendDue p) =
    ({ u.par with vals := tjoin u.par.vals (u.instVals p.insts) }, u.host.due,
      u.host.pendCommits.filter (fun q => q.handle != p.handle),
      u.host.staging.filter (fun e => !p.insts.contains (e.group, e.index))) := by
  obtain ⟨hpar, hdue, hpend, hstag⟩ :=
    comPart_fields (comPart_applyCommit (u.unpend p.handle) p.insts (u.instVals p.insts))
  refine (congrArg comPart (if_pos hc)).trans ((comPart_complete _ _ _ _ _).trans ?_)
  unfold State.unstage
  rw [comPart_mk, hpar, hdue, hpend, hstag]
  rfl

theorem comPart_pendDue_fails (hc : u.pendCode p ≠ St.OK) : comPart (u.pendDue p) =
    (u.par, u.host.due, u.host.pendCommits.filter (fun q => q.handle != p.handle), u.host.staging) :=
  (congrArg comPart (if_neg hc)).trans (comPart_complete _ _ _ _ _)

end

theorem commitTime_iff (s : State) : s.commitTime = true ↔ s.ready = true ∧ s.time.running = true ∧ s.order ≤ 3 := by
  simp [State.commitTime, State.orderOk, and_assoc]

/-- Settles O12: applying due commits, and one pending commit after them, comes down to `comPart`. -/
theorem commitsTakeEffect : Obligations.CommitsTakeEffect := by
  refine ⟨fun s hrdy hrun hord hdue => ?_, fun k p s hfind hrdy hrun hord hp => ?_, fun k s hord => ?_⟩
  case refine_1 =>
    have hgo : (s.commitTime && !s.dueNow.isEmpty) = true := by
      simpa [(commitTime_iff s).mpr ⟨hrdy, hrun, hord⟩] using hdue
    refine ⟨_, congrArg Host.Outcome.next (if_pos hgo), ?_⟩
    exact comPart_fields ((comPart_relatch _ _).trans (comPart_applyDue s))
  case refine_2 =>
    have hgo : (s.commitTime && decide (p.due ≤ s.epoch)) = true := by
      simpa [(commitTime_iff s).mpr ⟨hrdy, hrun, hord⟩] using hp
    have hrow : exec (.pendingCommitDue k) s =
        .next (((((s.atOrder 3).auditApplied 0).applyDue).pendDue p).relatch s) := by
      show execPendingCommitDue k s = _
      unfold execPendingCommitDue
      rw [hfind]
      exact congrArg Host.Outcome.next (if_pos hgo)
    obtain ⟨hpar, hdue, hpend, hstag⟩ := comPart_fields (comPart_applyDue s)
    refine ⟨fun hc => ⟨_, hrow, ?_⟩, fun hc => ⟨_, hrow, ?_⟩⟩
    · obtain ⟨h1, -, h3, h4⟩ := comPart_fields ((comPart_relatch _ s).trans (comPart_pendDue_ok hc))
      refine ⟨h1.trans ?_, h3.trans ?_, h4.trans ?_⟩
      · rw [hpar, instVals_congr hstag]
      · rw [hpend]
      · rw [hstag]
    · obtain ⟨h1, -, h3, h4⟩ := comPart_fields ((comPart_relatch _ s).trans (comPart_pendDue_fails hc))
      exact ⟨h1.trans hpar, h3.trans (congrArg _ hpend), h4.trans hstag⟩
  case refine_3 =>
    have hno : s.commitTime = false :=
      Bool.eq_false_iff.mpr fun h => absurd ((commitTime_iff s).mp h).2.2 (by omega)
    refine ⟨congrArg Host.Outcome.next (if_neg (by simp [hno])), congrArg Host.Outcome.next ?_⟩
    split
    · exact if_neg (by simp [hno])
    · rfl

end Sys2Proof.Proofs

/-! PROOF. PARAM_READ, PARAM_WRITE, COMMIT, DISCARD and CANCEL of a pending commit (O10). -/

namespace Sys2Proof.Proofs
open Sys2Proof.Machine Sys2Proof.Laws

/-! ### PARAM_READ and PARAM_WRITE -/

/-- The view epoch of a read, and the bytes it returns (R428). -/
def readView (s : State) (reqs : List PReq) : Nat := s.viewEpoch (reqs.map (fun q => viewKinds q.id)).flatten

def readData (s : State) (staged : Bool) (reqs : List PReq) : List Byte :=
  le 8 (readView s reqs) ++ (reqs.map (s.reqReply (readView s reqs) staged)).flatten

theorem paramReadVerdict_passes {s : State} {h : Hdr} {flags : Nat} {reqs : List PReq} (hf : flags < 2)
    (hbad : firstBad (s.reqCode (readView s reqs) (flags % 2 == 1)) 0 reqs = none)
    (hroom : (readData s (flags % 2 == 1) reqs).length ≤ h.room) :
    paramReadVerdict h flags reqs s =
      { data := readData s (flags % 2 == 1) reqs, act := fun t => t.grpRead reqs } := by
  unfold readView at hbad
  unfold paramReadVerdict
  dsimp only
  rw [if_neg (by omega), hbad]
  exact if_neg (by simpa [readData, readView] using hroom)

section
variable {s : State} {h : Hdr} {wrs : List PWr}

theorem paramWriteVerdict_passes (hbad : firstBad (s.wrCode h.src) 0 wrs = none) :
    paramWriteVerdict h wrs s = { act := fun t => wrs.foldl (fun a w => a.putWr h.src w) t } := by
  unfold paramWriteVerdict
  rw [hbad]

theorem paramWriteVerdict_fails {k c : Nat} (hbad : firstBad (s.wrCode h.src) 0 wrs = some (k, c)) :
    paramWriteVerdict h wrs s = { status := c, detail := k } := by
  unfold paramWriteVerdict
  rw [hbad]

end

/-- One value of a commit group goes to its staging copy (R430). -/
theorem putWr_stages {w : PWr} {r : PSpec} {v : PVal} (a : State) (src : Src) (hspec : pspec w.id = some r)
    (hid : r.id = w.id) (hcount : w.count = 1) (hvals : w.vals = [v]) (hgroup : r.group ≠ 0)
    (hbank : isBankId w.id = false) :
    a.putWr src w = { a with
      host.staging := stagPut a.host.staging src r.group (instOf r w.index) (pkey w.id w.index) v } := by
  have hwr : wrVals w = [(w.index, v)] := by simp [wrVals, hcount, hvals]
  unfold State.putWr
  rw [hspec, hwr, ← hid]
  exact (if_neg hgroup).trans (if_neg (by simp [hid, hbank]))

/-! ### What COMMIT, DISCARD and a staged write leave unchanged -/

theorem silent_with_staging {s u : State} (h : Silent s u) (l : List StagEnt) :
    Silent { s with host.staging := l } { u with host.staging := l } :=
  silent_map h (fun x => { x with host.staging := l }) fun _ _ _ _ _ _ _ _ _ => rfl

theorem silent_with_due_staging {s u : State} (h : Silent s u) (d : List DueCommit) (l : List StagEnt) :
    Silent { s with host.due := d, host.staging := l } { u with host.due := d, host.staging := l } :=
  silent_map h (fun x => { x with host.due := d, host.staging := l }) fun _ _ _ _ _ _ _ _ _ => rfl

section
variable {s u : State} (h : Silent s u)
include h

theorem silent_instVals (l : List (Nat × Nat)) : u.instVals l = s.instVals l :=
  instVals_congr (silent_host_staging h) l

theorem unstage_of_silent (l : List (Nat × Nat)) : u.unstage l =
    { u with host.staging := s.host.staging.filter (fun e => !l.contains (e.group, e.index)) } := by
  unfold State.unstage
  rw [silent_host_staging h]

theorem commitDue_of_silent (l : List (Nat × Nat)) : u.commitDue l =
    { u with
      host.due := s.host.due ++ [{ accEpoch := s.epoch, insts := l, vals := s.instVals l }]
      host.staging := s.host.staging.filter (fun e => !l.contains (e.group, e.index)) } := by
  have hmade : u.commitDue l = { u with
      host.due := u.host.due ++ [{ accEpoch := u.epoch, insts := l, vals := u.instVals l }]
      host.staging := u.host.staging.filter (fun e => !l.contains (e.group, e.index)) } := rfl
  rw [hmade, silent_instVals h, silent_host_staging h, silent_host_due h, silent_epoch h]

theorem commitPend_of_silent (n : U32) (l : List (Nat × Nat)) (e : Nat) (hs : Tab HandleEnt) (fr : List Nat) :
    ({ u with host.handles := hs, host.freeList := fr } : State).commitPend n l e =
      { u with
        host.handles := hs, host.freeList := fr
        host.pendCommits := s.host.pendCommits ++ [{ handle := n, due := e, insts := l, seq := s.host.accSeq }]
        host.accSeq := s.host.accSeq + 1 } := by
  unfold State.commitPend
  dsimp only
  rw [silent_host_pendCommits h, silent_host_accSeq h]

end

/-! ### Verdicts of COMMIT and DISCARD -/

section
variable {s : State} {h : Hdr} {items : List (Nat × Nat)} (hne : items ≠ []) (hlen : items.length ≤ 64)
include hne hlen

theorem items_fit : (items.isEmpty || decide (64 < items.length)) = false := by
  simp [hne, hlen]

theorem commitVerdict_due (hbad : firstBad (s.itemCode h.src) 0 items = none)
    (hcode : (s.commitCode h.src items).2 = St.OK) :
    commitVerdict h items 0 s =
      { act := fun t => t.commitDue (items.map (s.itemInsts h.src)).flatten.eraseDups } := by
  unfold commitVerdict
  dsimp only
  rw [if_neg (by simp [items_fit hne hlen]), hbad]
  exact (if_neg (by simp)).trans ((if_neg (by simp [hcode])).trans (if_pos rfl))

theorem commitVerdict_pends {e : Nat} (hbad : firstBad (s.itemCode h.src) 0 items = none)
    (hcode : (s.commitCode h.src items).2 = St.OK) (hlo : s.epoch < e) (hhi : e ≤ s.epoch + 691200000) :
    commitVerdict h items e s = s.long h 0x0004
      (fun n t => t.commitPend n (items.map (s.itemInsts h.src)).flatten.eraseDups e) := by
  unfold commitVerdict
  dsimp only
  rw [if_neg (by simp [items_fit hne hlen]), hbad]
  exact (if_neg (by simp [commitEpochOk, hlo, hhi])).trans ((if_neg (by simp [hcode])).trans (if_neg (by omega)))

theorem discardVerdict_drops (hbad : firstBad (s.dropCode h.src) 0 items = none) :
    discardVerdict h items s = { act := fun t => t.unstage (items.map (s.itemInsts h.src)).flatten } := by
  unfold discardVerdict
  rw [if_neg (by simp [items_fit hne hlen]), hbad]

end

/-! ### CANCEL of a pending commit -/

theorem take_cancelSolve (s : State) (h : Hdr) (k : U32) : (s.take h).cancelSolve k = s.cancelSolve k := by
  unfold State.cancelSolve State.cancelStaged State.freshWord
  simp only [take_slv, take_model, take_epoch, take_free]

theorem cancelOf_commit {s : State} {k : U32} {p : PendCommit} (hsolve : s.cancelSolve k = none)
    (hp : p ∈ s.host.pendCommits) (hk : p.handle = k) : s.cancelOf k = (0, fun t => t.cancelCommit k) := by
  unfold State.cancelOf
  rw [hsolve]
  exact if_pos (List.any_eq_true.mpr ⟨p, hp, by simpa using hk⟩)

theorem cancelVerdict_commit {s : State} {h : Hdr} {k : U32} {p : PendCommit} (hh : s.holds h.src k = true)
    (ho : s.hOpen k = true) (hsolve : s.cancelSolve k = none) (hp : p ∈ s.host.pendCommits) (hk : p.handle = k) :
    cancelVerdict h k s = { act := fun t => t.cancelCommit k } := by
  refine (if_neg (by simp [hh])).trans ((if_pos ho).trans ?_)
  rw [cancelOf_commit hsolve hp hk]

/-- Settles O10: each command's verdict on a packet that passes, and its effect on the answered state. -/
theorem parameterCommandsComplete : Obligations.ParameterCommandsComplete := by
  refine ⟨fun h flags q reqs s ha hf hbad => ?_, fun h w wrs s ha => ⟨fun hbad => ?_, fun k c hbad => ?_⟩,
    fun h w r v s ha hbad hspec hid hcount hvals hgroup hbank => ?_,
    fun h items s ha hne hlen hbad hcode => ⟨?_, fun n e hn hlo hhi => ?_⟩,
    fun h items s ha hne hlen hbad => ?_, fun h k p s ha hh ho hsolve hp hk => ?_⟩
  case refine_1 =>
    intro data hroom
    exact congrArg Host.Outcome.next (command_eq ha (paramReadVerdict_passes hf hbad hroom))
  case refine_2 => exact congrArg Host.Outcome.next (command_eq ha (paramWriteVerdict_passes hbad))
  case refine_3 => exact congrArg Host.Outcome.next (command_eq ha (paramWriteVerdict_fails hbad))
  case refine_4 =>
    have hput := putWr_stages (s.answered paramWriteInfo h (paramSubject 1 w.id w.index w.count) {}) h.src hspec hid
      hcount hvals hgroup hbank
    rw [answered_host_staging] at hput
    refine ⟨_, congrArg Host.Outcome.next ((command_eq ha (paramWriteVerdict_passes hbad)).trans hput), ?_, rfl, ?_⟩
    · exact answered_par _ _ _ _ _
    · exact silent_with_staging (silent_answered s _ h _ _) _
  case refine_5 =>
    have hs := silent_answered s commitInfo h (itemSubject items) {}
    have hdue := commitDue_of_silent hs (items.map ((s.take h).itemInsts h.src)).flatten.eraseDups
    refine ⟨_, congrArg Host.Outcome.next ((command_eq ha (commitVerdict_due hne hlen hbad hcode)).trans hdue),
      (silent_par hs :), rfl, rfl, silent_with_due_staging hs _ _⟩
  case refine_6 =>
    obtain ⟨u, hs, fr, hu, hcmd⟩ := command_long s commitInfo h (itemSubject items) _ _ _ n ha hn
      (commitVerdict_pends hne hlen hbad hcode (by simpa using hlo) (by simpa using hhi))
    refine ⟨_, congrArg Host.Outcome.next (hcmd.trans (commitPend_of_silent hu _ _ _ _ _)), (silent_par hu :),
      (silent_host_staging hu :), rfl⟩
  case refine_7 =>
    have hs := silent_answered s discardInfo h (itemSubject items) {}
    have hdrop := unstage_of_silent hs (items.map ((s.take h).itemInsts h.src)).flatten
    exact ⟨_, congrArg Host.Outcome.next ((command_eq ha (discardVerdict_drops hne hlen hbad)).trans hdrop),
      (silent_par hs :), rfl, silent_with_staging hs _⟩
  case refine_8 =>
    exact congrArg Host.Outcome.next (command_eq ha (cancelVerdict_commit (by rwa [take_holds]) (by rwa [take_hOpen])
      (by rwa [take_cancelSolve]) (by simpa using hp) hk))

end Sys2Proof.Proofs

/-! PROOF. Snapshots and mirrors (O11). -/

namespace Sys2Proof.Proofs
open Sys2Proof.Machine Sys2Proof.Laws

/-! ### The view epoch and the mirrors of a state that only records and answers -/

theorem silent_viewEpoch {s u : State} (h : Silent s u) (kinds : List Nat) : u.viewEpoch kinds = s.viewEpoch kinds := by
  rw [h.rest]
  rfl

theorem silent_mirror {s u : State} (h : Silent s u) (n : Nat) : u.mirror n = s.mirror n := by
  unfold State.mirror
  rw [silent_host_mirrors h]

theorem silent_mirrorLoad {s u : State} (h : Silent s u) (n : Nat) : u.mirrorLoad n = s.mirrorLoad n := by
  unfold State.mirrorLoad
  rw [silent_host_mirrors h]

theorem silent_with_snaps {s u : State} (h : Silent s u) (x : List Snap) (hs : Tab HandleEnt) (fr : List Nat) :
    Silent { s with host.snaps := x, host.handles := hs, host.freeList := fr }
      { u with host.snaps := x, host.handles := hs, host.freeList := fr } :=
  silent_map h (fun t => { t with host.snaps := x, host.handles := hs, host.freeList := fr })
    fun _ _ _ _ _ _ _ _ _ => rfl

/-! ### Snapshots -/

theorem snapshotVerdict_opens {s : State} {h : Hdr} {ms : List BlkMember} {addr : U64} {len : Nat}
    (hc : s.membersCode ms = St.OK) (hlen : (s.block 0xFF 0#32 (s.viewEpoch (kindsOf ms)) none ms).length ≤ len)
    (hmax : (s.block 0xFF 0#32 (s.viewEpoch (kindsOf ms)) none ms).length ≤ 268435456)
    (hroom : s.host.snaps.length < 4) :
    snapshotVerdict h ms addr len s = s.long h 0x0009 (fun k t => t.openSnap k ms addr len) :=
  (if_neg (not_not.mpr hc)).trans ((if_neg (by simp; omega)).trans (if_neg (by omega)))

section
variable {s : State} {k : U32} {x : Snap} (hfind : s.host.snaps.find? (fun y => y.handle == k) = some x)
include hfind

/-- The copy ends with the host's buffer written (R440). -/
theorem exec_snapshotDone_ok (hheld : ∀ id, x.planId = some id → s.planHeld id = true) :
    exec (.snapshotDone k) s = .next (({ s with host.snaps := s.host.snaps.filter (fun y => y.handle != k)
                                                out := .hostMem x.addr x.body :: s.out } : State).complete k St.OK 0
      (le 8 x.view)) := by
  show execSnapshotDone k s = _
  unfold execSnapshotDone
  rw [hfind]
  dsimp only
  cases hid : x.planId with
  | none => rfl
  | some id => exact congrArg Host.Outcome.next (if_pos (hheld id hid))

/-- Without its plan the copy is abandoned (R443). -/
theorem exec_snapshotDone_torn {id : Nat} (hid : x.planId = some id) (hheld : s.planHeld id = false) :
    exec (.snapshotDone k) s = .next (({ s with host.snaps := s.host.snaps.filter (fun y => y.handle != k) } :
      State).complete k St.SNAPSHOT_TORN 0 []) := by
  show execSnapshotDone k s = _
  unfold execSnapshotDone
  rw [hfind]
  dsimp only
  rw [hid]
  exact congrArg Host.Outcome.next (if_neg (by simp [hheld]))

end

/-! ### Mirrors -/

theorem mirrorOpenVerdict_opens {s : State} {h : Hdr} {n : Nat} {ms : List BlkMember} {period slots : Nat} {base : U64}
    (hn : n ≤ 15) (h8 : period % 8 = 0) (hlo : 80 ≤ period) (hhi : period ≤ 480000) (h2 : 2 ≤ slots) (h16 : slots ≤ 16)
    (hc : s.membersCode ms = St.OK) (hclosed : (s.mirror n).isOpen = false)
    (hrate : s.mirrorLoad n + (((s.block n 0#32 (s.viewEpoch (kindsOf ms)) none ms).length * 8000 : Nat) : Rat) /
      ((period : Nat) : Rat) ≤ 800000000) :
    mirrorOpenVerdict h n ms period slots base s = { act := fun t => t.setMirror n ({
        isOpen := true, owner := h.src, members := ms, period := period, slots := slots, base := base
        blockLen := (s.block n 0#32 (s.viewEpoch (kindsOf ms)) none ms).length } : Mirror) } :=
  (if_neg (by simp [h8]; omega)).trans ((if_neg (not_not.mpr hc)).trans
    ((if_neg (by simp [hclosed])).trans (if_neg (not_lt.mpr hrate))))

theorem mirrorCloseVerdict_owner {s : State} {h : Hdr} {n : Nat} (hn : n ≤ 15) (hown : (s.mirror n).owner = h.src) :
    mirrorCloseVerdict h n s = { act := fun t => t.setMirror n { t.mirror n with isOpen := false } } :=
  (if_neg (by omega)).trans (if_neg (by simp [hown]))

theorem exec_mirrorBlockWrite {s : State} {n : Nat} (hn : n < 16) (hrdy : s.ready = true)
    (hrun : s.time.running = true) (hopen : (s.mirror n).isOpen = true) (hpos : 0 < (s.mirror n).period)
    (hper : s.epoch % (s.mirror n).period = 0)
    (hview : (s.mirror n).blocks = 0 ∨ (s.mirror n).lastEpoch < s.viewEpoch (kindsOf (s.mirror n).members)) :
    exec (.mirrorBlockWrite n) s =
      .next (s.blockTurn n (s.mirror n) (s.viewEpoch (kindsOf (s.mirror n).members))) := by
  have hmax : max 1 (s.mirror n).period = (s.mirror n).period := by omega
  exact congrArg Host.Outcome.next (if_pos (by simpa [hn, hrdy, hrun, hopen, hmax, hper] using hview))

/-- Settles O11: the verdicts of the commands that pass, the end of a copy, and the turn of a mirror's block. -/
theorem viewsComplete : Obligations.ViewsComplete := by
  refine ⟨fun h ms addr len n s ha hc hn hlen hmax hroom => ?_,
    fun h n ms period slots base s ha hn h8 hlo hhi h2 h16 hc hclosed => ?_, fun h n s ha hn hown => ?_,
    fun k x s hfind => ⟨fun hplan => ?_, fun id hid hheld => exec_snapshotDone_torn hfind hid hheld⟩,
    fun n s hn hrdy hrun hopen hpos hper => ?_, fun n s hclosed => ?_⟩
  case refine_1 =>
    obtain ⟨u, hs, fr, hu, hcmd⟩ := command_long s snapshotInfo h addr.toNat _ _ _ n ha hn
      (snapshotVerdict_opens hc hlen hmax (by simpa using hroom))
    have hsnaps := silent_host_snaps hu
    refine ⟨_, _, congrArg Host.Outcome.next hcmd, congrArg (· ++ _) hsnaps, rfl, rfl, rfl, rfl, silent_viewEpoch hu _, ?_⟩
    exact silent_with_snaps hu _ _ _
  case refine_2 =>
    intro len hrate
    rw [← silent_mirror (silent_take s h)] at hclosed
    rw [← silent_mirrorLoad (silent_take s h)] at hrate
    exact congrArg Host.Outcome.next (command_eq ha (mirrorOpenVerdict_opens hn h8 hlo hhi h2 h16 hc hclosed hrate))
  case refine_3 =>
    have hcmd := command_eq (m := n) ha (mirrorCloseVerdict_owner hn ((silent_mirror (silent_take s h) n).symm ▸ hown))
    dsimp only at hcmd
    rw [silent_mirror (silent_answered s _ h _ _)] at hcmd
    exact congrArg Host.Outcome.next hcmd
  case refine_4 =>
    refine exec_snapshotDone_ok hfind fun id hid => ?_
    rcases hplan with hnone | ⟨id', hid', hheld⟩
    · rw [hnone] at hid
      cases hid
    · rw [hid'] at hid
      cases hid
      exact hheld
  case refine_5 =>
    intro m view b at' hview hfit
    have hrow := exec_mirrorBlockWrite hn hrdy hrun hopen hpos hper hview
    have hwrite := writeBlock_eq s n m view (not_lt.mpr hfit)
    refine ⟨fun hne hbusy => hrow.trans (congrArg Host.Outcome.next ?_), fun hfree => ?_⟩
    · exact (if_neg hne).trans (if_pos hbusy)
    · refine hrow.trans (congrArg Host.Outcome.next ?_)
      unfold State.blockTurn
      by_cases h0 : m.blocks = 0
      · rw [if_pos h0, if_pos h0]
        exact hwrite
      · rw [if_neg h0, if_neg h0, if_neg (by simpa using hfree.resolve_left h0)]
        exact congrArg State.took hwrite
  case refine_6 => exact congrArg Host.Outcome.next (if_neg (by simp [hclosed]))

end Sys2Proof.Proofs

/-! PROOF. The time commands, IEEE 1588 messages, pulses and the lock of TB0 (O13). -/

namespace Sys2Proof.Proofs
open Sys2Proof.Machine Sys2Proof.Laws

theorem silent_with_time {s u : State} (h : Silent s u) (p : TimeSt) : Silent { s with time := p } { u with time := p } :=
  silent_map h (fun t => { t with time := p }) fun _ _ _ _ _ _ _ _ _ => rfl

theorem silent_pn {s t : State} (h : Silent s t) (id idx : Nat) : t.pn id idx = s.pn id idx := by
  unfold State.pn
  rw [silent_pv h]

/-! ### TIME_SET and TIME_TEST -/

/-- The time bases once TIME_SET has acted (R393). -/
def timeSetBases (s : State) (ns : Nat) : TimeSt :=
  { s.time with
    timeSet := true
    tb0.fs := if s.pn P.TIME_SOURCE 0 = 1 ∧ s.time.tb0State < 2 then ns * 1000000 else s.time.tb0.fs }

theorem timeSetTo_eq (s : State) (ns : Nat) : s.timeSetTo ns = { s with time := timeSetBases s ns } := by
  unfold State.timeSetTo timeSetBases
  by_cases h : s.pn P.TIME_SOURCE 0 = 1 ∧ s.time.tb0State < 2
  · rw [if_pos h]
    exact if_pos (by simpa using h)
  · rw [if_neg h]
    exact if_neg (by simpa using h)

theorem silent_timeSetBases {s u : State} (h : Silent s u) (ns : Nat) : timeSetBases u ns = timeSetBases s ns := by
  unfold timeSetBases
  rw [silent_pn h, silent_time h]

/-! ### IEEE 1588 -/

theorem ptpUnsecured_iff (s : State) (m : PtpMsg) : s.ptpUnsecured m = true ↔
    m.port < 4 ∧ s.pn P.MACSEC_MODE m.port ≠ 0 ∧ m.secured = false ∧ (m.kind = 0 ∨ m.kind = 11) := by
  simp [State.ptpUnsecured, and_assoc]

section
variable {m : PtpMsg} {s : State} (hsec : s.ptpUnsecured m = false) (hhere : s.ptpHere m = true)
include hsec hhere

theorem exec_ptpSync (hk : m.kind = 0) (hmaster : s.time.master = some m.source) :
    exec (.ptpMessageRx m) s =
      .next (s.tb0Measured m.offsetNs m.freq ((m.masterNs - ptpOrigin * 1000000000) * 1000000)) :=
  congrArg Host.Outcome.next ((if_neg (by simp [hsec])).trans ((if_neg (by simp [hhere])).trans
    ((if_neg (by omega)).trans (if_pos (by simp [hk, hmaster])))))

theorem exec_ptpAnnounce (hk : m.kind = 11) : exec (.ptpMessageRx m) s = .next (s.announceRx m) :=
  congrArg Host.Outcome.next ((if_neg (by simp [hsec])).trans ((if_neg (by simp [hhere])).trans (if_pos hk)))

end

/-- The announcement of the selected master, of the first or of a better one is taken (R391). -/
theorem announceRx_takes {s : State} {m : PtpMsg}
    (h : s.time.master = none ∨ s.time.master = some m.source ∨ lexLt m.ds s.time.masterDs = true) :
    s.announceRx m = s.announced m := by
  refine if_pos ?_
  rcases h with h | h | h <;> simp [h]

/-! ### Measurements of TB0 -/

section
variable {s : State} {off freq : Int} {fs : Nat}

/-- In FREE and ACQUIRING TB0 steps to its source (R396). -/
theorem tb0Measured_steps (hst : s.time.tb0State < 2) : ∃ from', s.tb0Measured off freq fs = { s with
    time.tb0Offset := off, time.lastSync := s.epoch, time.tb0State := 1, time.tb0.fs := fs
    time.tb0.freq := clampFreq freq, time.overLimit := 0, time.lockFrom := from' } :=
  ⟨_, if_pos hst⟩

theorem tb0Measured_outlier (hst : s.time.tb0State = 2) (hoff : s.pn P.TIME_OFFSET_LIMIT_NS 0 < off.natAbs) :
    s.tb0Measured off freq fs = { s with
      time.tb0Offset := off, time.lastSync := s.epoch
      time.outliers := s.time.outliers + 1, time.overLimit := s.time.overLimit + 1 } :=
  (if_neg (by omega)).trans ((if_neg (by omega)).trans (if_pos hoff))

theorem tb0Measured_corrects (hst : s.time.tb0State = 2) (hoff : off.natAbs ≤ s.pn P.TIME_OFFSET_LIMIT_NS 0) :
    s.tb0Measured off freq fs = { s with
      time.tb0Offset := off, time.lastSync := s.epoch
      time.tb0.freq := clampFreq freq, time.overLimit := 0 } :=
  (if_neg (by omega)).trans ((if_neg (by omega)).trans (if_neg (by omega)))

end

/-! ### A Sync from a master port -/

/-- A frame that leaves an unprotected port with a link (R384). -/
theorem sendOn_plain {s : State} {p ethertype : Nat} {dst : BitVec 48} {bytes : List Byte}
    (hsec : s.secured p = false) (hmode : (s.port p).mode ≠ 0) (hlink : (s.port p).link = true) :
    s.sendOn p ethertype dst bytes =
      (s.emit (.frame p ethertype dst bytes)).setPort p { s.port p with txFrames := (s.port p).txFrames + 1 } :=
  (if_neg (by simp [hsec])).trans (if_pos (by simp [hmode, hlink]))

theorem exec_ptpSyncTx {s : State} {port : Nat} (hrdy : s.ready = true) (hport : port < 4)
    (hlink : (s.port port).link = true) (hmode : (s.port port).mode = 2) (hrun : s.time.running = true)
    (hact : s.isStandby = false) : exec (.ptpMessageTx port 0) s =
      .next { (s.emit (.frame port 0x88F7 0x011B19000000#48 (s.ptpBytes port 0))).setPort port
        { s.port port with txFrames := (s.port port).txFrames + 1 } with time.ptpSeq := s.time.ptpSeq + 1 } := by
  have hsec : s.secured port = false := by
    simp [State.secured, hmode]
    omega
  have hsend := sendOn_plain (ethertype := 0x88F7) (dst := 0x011B19000000#48) (bytes := s.ptpBytes port 0) hsec
    (by omega) hlink
  refine (congrArg Host.Outcome.next (if_pos ?_)).trans
    (congrArg (fun t : State => Host.Outcome.next { t with time.ptpSeq := s.time.ptpSeq + 1 }) hsend)
  simp [hrdy, hport, hlink, hmode, hrun, hact, State.ptpMaster]

/-! ### Lock of TB0 -/

/-- TB0 as its lock leaves it (R396). -/
def tb0At2 (s : State) : State := { s with time.tb0State := 2, time.tb0.valid := true, time.overLimit := 0 }

theorem exec_tb0Lock {s : State} {n : Nat} (hfrom : s.time.lockFrom = some n) (hrdy : s.ready = true)
    (hst : s.time.tb0State = 1) (hdue : n + s.pn P.TIME_LOCK_S 0 * 1000000000 ≤ s.time.tb0.fs / 1000000) :
    exec .tb0Lock s = .next s.tb0Locked := by
  show execTb0Lock s = _
  unfold execTb0Lock
  rw [hfrom]
  exact congrArg Host.Outcome.next (if_pos (by simp [hrdy, hst]; omega))

theorem tb0Locked_selected {s : State} (hsel : s.pn P.TIME_SEL_EPOCH 0 ≠ 0) : s.tb0Locked = tb0At2 s :=
  if_pos (bne_iff_ne.mpr hsel)

section
variable {s : State} (hsel : s.pn P.TIME_SEL_EPOCH 0 = 0)
include hsel

theorem tb0Locked_merges (hrun : s.time.running = true) (hb : s.time.bound ≠ some 0) (hm : s.time.merging = none) :
    s.tb0Locked = (tb0At2 s).wantMerge 0 :=
  (if_neg fun h => bne_iff_ne.mp h hsel).trans ((if_neg (by simp [hrun])).trans
    (if_neg (by simp [State.boundTo, hm, hb])))

theorem tb0Locked_starts (hrun : s.time.running = false) : s.tb0Locked = (tb0At2 s).startT0 0 := by
  refine (if_neg fun h => bne_iff_ne.mp h hsel).trans ((if_pos (by simp [hrun])).trans ((if_neg (by simp [hrun])).trans ?_))
  have hbase : (tb0At2 s).selBase = none := if_pos hsel
  show (match (tb0At2 s).selBase with | some b => _ | none => _) = _
  rw [hbase]
  exact if_pos rfl

end

/-- T0 takes the value of the base it starts on (R398). -/
theorem startT0_effect (s : State) (b : Nat) : (s.startT0 b).time.running = true ∧ (s.startT0 b).time.bound = some b ∧
    (s.startT0 b).time.t0 = (s.base b).fs ∧ (s.startT0 b).epoch = (s.base b).fs / 125000000000 ∧
    (s.startT0 b).time.startWait = false := by
  unfold State.startT0
  obtain ⟨_, _, _, hsync⟩ := syncDev_shape ({ s.stampStart ((s.base b).fs / fsPerTick) with
    epoch := (s.base b).fs / fsPerTick
    time.t0 := (s.base b).fs
    time.running := true
    time.outSel := s.pn P.TIME_SEL_OUT 0
    time.bound := some b
    time.merging := none
    time.startWait := false
    time.noBase := false }.updIsland)
  dsimp only
  rw [hsync]
  exact ⟨rfl, rfl, rfl, rfl, rfl⟩

/-- Settles O13: each command and event by the branch of its rule that its conditions select. -/
theorem timeBasesComplete : Obligations.TimeBasesComplete := by
  refine ⟨fun h ns s ha => ?_, fun h ns s ha => ?_, fun m s hrdy hport hmode hsec hkind => ?_,
    fun m s hsec hhere hk hmaster => ?_, fun m s hsec hhere hk => ⟨fun hbetter => ?_, fun x hx hne hlex => ?_⟩,
    fun s hm hold => ?_, fun port s hrdy hport hlink hmode hrun hact => ?_, fun off freq s hrdy hsrc hset hvio hst => ?_,
    fun s hrdy hvalid hsec hvio => ?_, fun n s hfrom hrdy hst hdue => ⟨fun hsel => ?_, fun hsel hrun hb hm => ?_,
      fun hsel hrun => ?_⟩, fun s hrdy hrun hutc hleap hday => ?_⟩
  case refine_1 => -- TIME_SET
    have hs := silent_answered s timeSetInfo h ns {}
    have hcmd := (command_eq (m := ns) ha (f := fun _ => { act := fun t => t.timeSetTo ns }) rfl).trans (timeSetTo_eq _ ns)
    rw [silent_timeSetBases (silent_answered s _ h _ _)] at hcmd
    exact ⟨_, congrArg Host.Outcome.next hcmd, silent_with_time hs _, rfl⟩
  case refine_2 => -- TIME_TEST
    have hs := silent_answered s timeTestInfo h ns {}
    have hcmd := command_eq (m := ns) ha (f := fun _ =>
      { act := fun t => { t with time.tb3 := { fs := ns * fsPerNs, valid := true, freq := t.time.tb1.freq } } }) rfl
    dsimp only at hcmd
    rw [answered_time] at hcmd
    exact ⟨_, congrArg Host.Outcome.next hcmd, silent_with_time hs _⟩
  case refine_3 =>
    exact congrArg Host.Outcome.next
      (if_pos (by simp [hrdy, (ptpUnsecured_iff s m).mpr ⟨hport, hmode, hsec, hkind⟩]))
  case refine_4 =>
    intro fs
    have hrow := exec_ptpSync hsec hhere hk hmaster
    refine ⟨hrow, fun hst => ?_, fun hst hoff => hrow.trans (congrArg _ (tb0Measured_outlier hst hoff)),
      fun hst hoff => hrow.trans (congrArg _ (tb0Measured_corrects hst hoff))⟩
    obtain ⟨from', hstep⟩ := tb0Measured_steps (off := m.offsetNs) (freq := m.freq) (fs := fs) hst
    exact ⟨_, hrow.trans (congrArg _ hstep), rfl, rfl, rfl, rfl, rfl, rfl⟩
  case refine_5 =>
    exact ⟨_, (exec_ptpAnnounce hsec hhere hk).trans (congrArg _ (announceRx_takes hbetter)), rfl, rfl, rfl, rfl, rfl,
      rfl⟩
  case refine_6 =>
    exact (exec_ptpAnnounce hsec hhere hk).trans (congrArg _ (if_neg (by simp [hx, hne, hlex])))
  case refine_7 => exact congrArg Host.Outcome.next (if_pos (by simpa [hm, ticksPerS] using hold))
  case refine_8 => exact ⟨_, exec_ptpSyncTx hrdy hport hlink hmode hrun hact, rfl, rfl, rfl⟩
  case refine_9 =>
    obtain ⟨from', hstep⟩ := tb0Measured_steps (off := off) (freq := freq)
      (fs := ((s.time.tb0.fs : Int) - off * 1000000).toNat) hst
    exact ⟨_, (congrArg Host.Outcome.next (if_pos (by simp [hrdy, hsrc, hset, hvio]))).trans (congrArg _ hstep), rfl, rfl,
      rfl, rfl⟩
  case refine_10 => exact congrArg Host.Outcome.next (if_pos (by simp [hrdy, hvalid, hvio, hsec]))
  case refine_11 => exact (exec_tb0Lock hfrom hrdy hst hdue).trans (congrArg _ (tb0Locked_selected hsel))
  case refine_12 => exact (exec_tb0Lock hfrom hrdy hst hdue).trans (congrArg _ (tb0Locked_merges hsel hrun hb hm))
  case refine_13 =>
    obtain ⟨h1, h2, h3, h4, -⟩ := startT0_effect (tb0At2 s) 0
    exact ⟨_, (exec_tb0Lock hfrom hrdy hst hdue).trans (congrArg _ (tb0Locked_starts hsel hrun)), h1, h2, h3, h4⟩
  case refine_14 =>
    exact ⟨_, congrArg Host.Outcome.next (if_pos (by simpa [hrdy, hrun, hutc, hleap] using hday)), rfl, rfl, rfl, rfl, rfl⟩

end Sys2Proof.Proofs

/-! PROOF. The epoch clock starts, leaves TB0, merges and binds (O15). -/

namespace Sys2Proof.Proofs
open Sys2Proof.Machine Sys2Proof.Laws

/-! ### Start -/

section
variable {s : State} (hrdy : s.ready = true) (hwait : s.time.startWait = true) (hrun : s.time.running = false)
  (hsel : s.pn P.TIME_SEL_EPOCH 0 = 0) (htb0 : s.time.tb0State ≠ 2)
include hrdy hwait hrun hsel htb0

/-- The wait for TB0 ends: what is due starts on TB2, where the calendar is valid (R398). -/
theorem exec_startWaitExpire : exec .startWaitExpire s = .next
    (if s.time.tb2.valid then ({ s with time.startWait := false } : State).startT0 2
     else { s with time.startWait := false, time.noBase := true }) := by
  refine congrArg Host.Outcome.next ((if_pos (by simp [hrdy, hwait, hrun])).trans ((if_neg (by simp [hrun])).trans ?_))
  have hbase : ({ s with time.startWait := false } : State).selBase = none := if_pos hsel
  rw [hbase]
  exact (if_neg htb0).trans (if_neg Bool.false_ne_true)

end

/-! ### Loss of sync -/

section
variable {s : State} (hrdy : s.ready = true) (hst : s.time.tb0State = 2) (hlost : s.syncLost = true)
  (hm : s.time.merging = none)
include hrdy hst hlost hm

/-- T0 leaves the TB0 it is bound to for TB1, at its present value (R398, R402). -/
theorem exec_tb0SyncLoss_bound (hb : s.time.bound = some 0) : ∃ f, exec .tb0SyncLoss s = .next { s with
    time.tb0State := 3, time.holdFrom := s.epoch, time.lockFrom := none, time.overLimit := 0
    time.merging := none, time.mergeRemain := 0, time.mergeRefused := false
    time.bound := some 1, time.tb1 := { fs := s.time.t0, valid := true, freq := f } } :=
  ⟨_, congrArg Host.Outcome.next ((if_pos (by simp [hrdy, hst, hlost])).trans
    (if_pos (by simp [State.boundTo, hm, hb])))⟩

theorem exec_tb0SyncLoss_unbound (hb : s.time.bound ≠ some 0) : ∃ f w, exec .tb0SyncLoss s = .next { s with
    time.tb0State := 3, time.holdFrom := s.epoch, time.lockFrom := none, time.overLimit := 0
    time.tb1.freq := f, time.mergeWaiting := w } :=
  ⟨_, _, congrArg Host.Outcome.next ((if_pos (by simp [hrdy, hst, hlost])).trans
    (if_neg (by simp [State.boundTo, hm, hb])))⟩

end

/-! ### Merging -/

section
variable {s : State} (hb : s.boundTo s.time.mergeTarget = false)
include hb

theorem mergeStart_refused (hgap : s.slewMax < s.baseGap s.time.mergeTarget) :
    s.mergeStart = { s with time.mergeRefused := true } :=
  (if_neg (by simp [hb])).trans (if_pos hgap)

/-- A merge that starts moves neither T0 nor the base it is bound to (R399). -/
theorem mergeStart_starts (hgap : s.baseGap s.time.mergeTarget ≤ s.slewMax) : ∃ tb1 remain, s.mergeStart = { s with
    time.tb1 := tb1, time.merging := some s.time.mergeTarget, time.mergeWaiting := false
    time.mergeRefused := false, time.mergeRemain := remain } := by
  have hmove : ∃ s1 tb1, s.mergeStart = { s1 with
      time.merging := some s.time.mergeTarget, time.mergeWaiting := false, time.mergeRefused := false
      time.mergeRemain := (((s1.base s.time.mergeTarget).fs : Int) - (s1.time.t0 : Int)) / (fsPerNs : Int) } ∧
      s1 = { s with time.tb1 := tb1 } := by
    by_cases htb1 : (decide (s.time.bound = some 0) && s.time.mergeTarget != 0) = true
    · exact ⟨_, _, (if_neg (by simp [hb])).trans (if_neg (by omega)), if_pos htb1⟩
    · exact ⟨_, s.time.tb1, (if_neg (by simp [hb])).trans (if_neg (by omega)), if_neg htb1⟩
  obtain ⟨s1, tb1, hstart, hs1⟩ := hmove
  subst hs1
  exact ⟨tb1, _, hstart⟩

end

theorem exec_mergeStart {s : State} (hrdy : s.ready = true) (hrun : s.time.running = true)
    (hwait : s.time.mergeWaiting = true) (hord : s.order ≤ 1) :
    exec .mergeStart s = .next (s.mergeStart.atOrder 1) :=
  congrArg Host.Outcome.next (if_pos (by simp [hrdy, hrun, hwait, State.orderOk, hord]))

/-- T0 bound to the base its merge has reached, in order 1 (R399). -/
def mergeBound (s : State) (b : Nat) : State :=
  ({ s with time.merging := none, time.bound := some b, time.mergeRemain := 0 } : State).atOrder 1

section
variable {s : State} {b : Nat} (hm : s.time.merging = some b)
include hm

theorem exec_mergeComplete (hrdy : s.ready = true) (hrun : s.time.running = true) (hord : s.order ≤ 1)
    (hgap : s.baseGap b ≤ 8 * 1000000) :
    exec .mergeComplete s = .next (mergeBound s b).updIsland.markIsland.syncDev := by
  show execMergeComplete s = _
  unfold execMergeComplete
  rw [hm]
  exact congrArg Host.Outcome.next (if_pos (by simp [hrdy, hrun, State.orderOk, hord]; omega))

theorem exec_mergeComplete_far (hgap : 8 * 1000000 < s.baseGap b) : exec .mergeComplete s = .next s := by
  show execMergeComplete s = _
  unfold execMergeComplete
  rw [hm]
  exact congrArg Host.Outcome.next (if_neg (by simp [fsPerNs]; omega))

end

/-- Settles O15: the start, the loss, the merge and its end each change only what their stage names. -/
theorem epochClockComplete : Obligations.EpochClockComplete := by
  refine ⟨fun s hrdy hwait hrun hsel htb0 => ⟨fun hv => ?_, fun hv => ?_⟩,
    fun s hrdy hst hlost hm => ⟨fun hb => ?_, fun hb => ?_⟩,
    fun s hrdy hrun hwait hord hb => ⟨fun hgap => ?_, fun hgap => ?_⟩,
    fun b s hm hrdy hrun hord => ⟨fun hgap => ?_, fun hgap => exec_mergeComplete_far hm hgap⟩⟩
  case refine_1 =>
    obtain ⟨h1, h2, h3, h4, h5⟩ := startT0_effect { s with time.startWait := false } 2
    exact ⟨_, (exec_startWaitExpire hrdy hwait hrun hsel htb0).trans (congrArg _ (if_pos hv)), h1, h2, h3, h4, h5⟩
  case refine_2 =>
    exact (exec_startWaitExpire hrdy hwait hrun hsel htb0).trans (congrArg _ (if_neg (by simp [hv])))
  case refine_3 =>
    obtain ⟨f, hrow⟩ := exec_tb0SyncLoss_bound hrdy hst hlost hm hb
    exact ⟨_, hrow, rfl, rfl, rfl, rfl, rfl, rfl, rfl⟩
  case refine_4 =>
    obtain ⟨f, w, hrow⟩ := exec_tb0SyncLoss_unbound hrdy hst hlost hm hb
    exact ⟨_, hrow, rfl, rfl, rfl, rfl, rfl⟩
  case refine_5 =>
    exact (exec_mergeStart hrdy hrun hwait hord).trans
      (congrArg (fun t : State => Host.Outcome.next (t.atOrder 1)) (mergeStart_refused hb hgap))
  case refine_6 =>
    obtain ⟨tb1, remain, hstart⟩ := mergeStart_starts hb hgap
    exact ⟨_, (exec_mergeStart hrdy hrun hwait hord).trans
      (congrArg (fun t : State => Host.Outcome.next (t.atOrder 1)) hstart), rfl, rfl, rfl, rfl, rfl, rfl⟩
  case refine_7 =>
    obtain ⟨_, _, _, hsync⟩ := syncDev_shape (mergeBound s b).updIsland.markIsland
    exact ⟨_, (exec_mergeComplete hm hrdy hrun hord hgap).trans (congrArg _ hsync), rfl, rfl, rfl, rfl, rfl, rfl⟩

end Sys2Proof.Proofs

/-! PROOF. Frames on the ring, uplink and host paths, and the links of the ports (O16). -/

namespace Sys2Proof.Proofs
open Sys2Proof.Machine Sys2Proof.Laws

/-! ### The record of a port -/

@[simp] theorem port_setPort_same (s : State) (p : Nat) (v : PortSt1) : (s.setPort p v).port p = v :=
  tgetD_tset_same _ _ _ _

theorem port_setPort_other (s : State) {p q : Nat} (v : PortSt1) (h : q ≠ p) : (s.setPort p v).port q = s.port q :=
  tgetD_tset_other _ _ _ _ _ h

/-- A port's protection goes by its mode alone; a counter leaves it. -/
theorem secured_setPort_other (s : State) {p q : Nat} (v : PortSt1) (h : q ≠ p) :
    (s.setPort p v).secured q = s.secured q := by
  have hpn : (s.setPort p v).pn P.MACSEC_MODE q = s.pn P.MACSEC_MODE q := rfl
  unfold State.secured
  rw [port_setPort_other s v h, hpn]

/-! ### Reception: size, capacity and protection -/

section
variable {f : NetFrame} {s : State} (hrdy : s.ready = true) (hnet : s.netPort f.port = true)
  (hlink : (s.port f.port).link = true)
include hrdy hnet hlink

theorem exec_ringFrameRx_oversize (hlen : 1600 < f.len) : exec (.ringFrameRx f) s =
    .next (s.setPort f.port { s.port f.port with oversize := (s.port f.port).oversize + 1 }) :=
  congrArg Host.Outcome.next ((if_neg (by simp [hrdy, hnet, hlink])).trans (if_pos hlen))

section
variable (hmin : 64 ≤ f.len) (hmax : f.len ≤ 1600)
include hmin hmax

theorem exec_ringFrameRx_dropped (htaken : f.taken = false) : exec (.ringFrameRx f) s =
    .next (s.setPort f.port { s.port f.port with rxDropped := (s.port f.port).rxDropped + 1 }) :=
  congrArg Host.Outcome.next ((if_neg (by simp [hrdy, hnet, hlink])).trans ((if_neg (by omega)).trans
    ((if_neg (by omega)).trans (if_pos (by simp [htaken])))))

variable (htaken : f.taken = true) (hpause : f.pause = false)
include htaken hpause

theorem exec_ringFrameRx_unprotected (hsec : s.secured f.port = true) (hbad : s.secOk f = false) :
    exec (.ringFrameRx f) s = .next ((s.setPort f.port { s.port f.port with
      rxFrames := (s.port f.port).rxFrames + 1 }).setPort f.port { s.port f.port with
        rxFrames := (s.port f.port).rxFrames + 1, macsecFailed := (s.port f.port).macsecFailed + 1 }) := by
  refine congrArg Host.Outcome.next ((if_neg (by simp [hrdy, hnet, hlink])).trans ((if_neg (by omega)).trans
    ((if_neg (by omega)).trans ((if_neg (by simp [htaken])).trans ((if_neg (by simp [hpause])).trans
      ((if_pos hsec).trans ((if_neg (by simp [hbad])).trans ?_)))))))
  rw [port_setPort_same]

theorem exec_ringFrameRx_accepted (hsec : s.secured f.port = false) : exec (.ringFrameRx f) s =
    .next ((s.setPort f.port { s.port f.port with rxFrames := (s.port f.port).rxFrames + 1 }).netAccepted f) :=
  congrArg Host.Outcome.next ((if_neg (by simp [hrdy, hnet, hlink])).trans ((if_neg (by omega)).trans
    ((if_neg (by omega)).trans ((if_neg (by simp [htaken])).trans ((if_neg (by simp [hpause])).trans
      (if_neg (by simp [hsec])))))))

end
end

/-! ### Ring redundancy -/

/-- The state once a ring frame has left on the other ring port. -/
def forwarded (s : State) (f : NetFrame) : State :=
  (s.emit (.frame (1 - f.port) f.ethertype f.dst f.data)).setPort (1 - f.port)
    { s.port (1 - f.port) with txFrames := (s.port (1 - f.port)).txFrames + 1 }

section
variable {s : State} {f : NetFrame} {seq : Nat} (hport : f.port < 2) (hseq : f.hsr = some seq)
  (hsrc : f.src ≠ s.net.mac) (hsec : s.secured (1 - f.port) = false) (hmode : (s.port (1 - f.port)).mode = 1)
  (hlink : (s.port (1 - f.port)).link = true)
include hport hseq hsrc hsec hmode hlink

theorem netAccepted_duplicate (hdup : s.dupLive f.src seq = true) :
    s.netAccepted f = (forwarded s f).dupSeen f seq := by
  have hsend := sendOn_plain (s := s) (ethertype := f.ethertype) (dst := f.dst) (bytes := f.data) hsec (by omega) hlink
  unfold State.netAccepted
  rw [hseq]
  refine (if_pos hport).trans ((if_neg hsrc).trans ?_)
  dsimp only
  rw [hsend]
  exact if_pos hdup

theorem netAccepted_first (hnew : s.dupLive f.src seq = false) (heth : f.ethertype ≠ 0x88FB) :
    s.netAccepted f = (forwarded s f).dupAdd f.port f.src seq := by
  have hsend := sendOn_plain (s := s) (ethertype := f.ethertype) (dst := f.dst) (bytes := f.data) hsec (by omega) hlink
  unfold State.netAccepted
  rw [hseq]
  refine (if_pos hport).trans ((if_neg hsrc).trans ?_)
  dsimp only
  rw [hsend]
  exact (if_neg (Bool.eq_false_iff.mp hnew)).trans (if_neg heth)

end

theorem dupSeen_hsrDup (s : State) (f : NetFrame) (seq : Nat) :
    ((s.dupSeen f seq).port f.port).hsrDup = (s.port f.port).hsrDup + 1 :=
  congrArg PortSt1.hsrDup (port_setPort_same _ _ _)

theorem forwarded_port {s : State} {f : NetFrame} (h : f.port < 2) : (forwarded s f).port f.port = s.port f.port :=
  port_setPort_other _ _ (by omega)

/-! ### Supervision -/

/-- Sending a frame changes the ports and what is sent. -/
theorem sendPlain_shape (s : State) (p e : Nat) (d : BitVec 48) (b : List Byte) :
    ∃ x o, s.sendPlain p e d b = { s with net.ports := x, out := o } := by
  unfold State.sendPlain
  dsimp only
  split
  · exact ⟨_, _, rfl⟩
  · exact ⟨s.net.ports, s.out, rfl⟩

theorem sendOn_shape (s : State) (p e : Nat) (d : BitVec 48) (b : List Byte) :
    ∃ x o, s.sendOn p e d b = { s with net.ports := x, out := o } := by
  obtain ⟨x, o, hplain⟩ := sendPlain_shape s p e d b
  unfold State.sendOn
  rw [hplain]
  split
  · split
    · exact ⟨_, _, rfl⟩
    · exact ⟨s.net.ports, s.out, rfl⟩
  · exact ⟨x, o, rfl⟩

theorem sendRing_shape (s : State) (e : Nat) (d : BitVec 48) (b : List Byte) :
    ∃ x o, s.sendRing e d b = { s with net.ports := x, net.hsrSeq := (s.net.hsrSeq + 1) % 65536, out := o } := by
  obtain ⟨x, o, h0⟩ := sendOn_shape s 0 e d b
  obtain ⟨y, u, h1⟩ := sendOn_shape { s with net.ports := x, out := o } 1 e d b
  unfold State.sendRing
  rw [h0, h1]
  exact ⟨y, u, rfl⟩

theorem exec_hsrSupervisionTx {s : State} (hrdy : s.ready = true) (hmode : (s.port 0).mode = 1) :
    ∃ x o, exec .hsrSupervisionTx s = .next { s with
      net.ports := x, net.hsrSeq := (s.net.hsrSeq + 1) % 65536, net.supSeq := (s.net.supSeq + 1) % 65536
      out := o } := by
  obtain ⟨x, o, hsend⟩ := sendRing_shape s 0x88FB 0x01154E000100#48
    (beRec [(2, 1), (2, s.net.supSeq), (1, 23), (1, 6), (6, s.net.mac.toNat), (2, 0)])
  exact ⟨x, o, (congrArg Host.Outcome.next (if_pos (by simp [hrdy, hmode]))).trans
    (congrArg (fun t : State => Host.Outcome.next { t with net.supSeq := (s.net.supSeq + 1) % 65536 }) hsend)⟩

/-! ### Frames for the host -/

theorem exec_hostFrameRx {f : NetFrame} {ch code : Nat} {descs : List RxDesc} {s : State} (hrdy : s.ready = true)
    (hnet : s.netPort f.port = true) (hmode : (s.port f.port).mode ≠ 0) (hlink : (s.port f.port).link = true)
    (hfor : s.consumes f.ethertype = false ∨ (f.ethertype = 0x88F7 ∧ s.pn P.PTP_MIRROR 0 = 1))
    (hch : s.rxChannel f.port = some (ch, code)) :
    exec (.hostFrameRx f descs) s = .next (s.rxDeliver f ch code descs) := by
  have hnot : (s.consumes f.ethertype && !(f.ethertype == 0x88F7 && s.pn P.PTP_MIRROR 0 == 1)) = false := by
    rcases hfor with h | ⟨he, hp⟩
    · simp [h]
    · simp [he, hp]
  refine congrArg Host.Outcome.next ((if_neg (by simp [hrdy, hmode, hlink])).trans ((if_neg (by simp [hnet])).trans
    ((if_neg (by simp [hnet])).trans ((if_neg (Bool.eq_false_iff.mp hnot)).trans ?_))))
  rw [hch, if_pos hnet]

theorem fch_sendMsix (s : State) (v ch : Nat) : (s.sendMsix v).fch ch = s.fch ch :=
  congrArg (fun t => tgetD t ch ({} : FrameCh)) (silent_host_frameChs (silent_sendMsix s v))

/-- A frame with a free descriptor: its bytes go to the host, and the channel's head advances (R390). -/
theorem rxDeliver_free {s : State} {f : NetFrame} {ch code : Nat} {d : RxDesc} {ds : List RxDesc}
    (hroom : (s.fch ch).rxHead ≠ (s.fch ch).rxTail) : ∃ bytes, s.rxDeliver f ch code (d :: ds) =
      (((s.emit (.hostMem d.addr (f.data.take d.len))).emit (.desc ch false (s.fch ch).rxHead bytes)).setFch ch
        { s.fch ch with rxHead := ((s.fch ch).rxHead + 1) % Config.fcEntries (s.fch ch).fcCfg false }).sendMsix
          (8 + ch) :=
  ⟨_, if_neg hroom⟩

/-! ### Links -/

theorem exec_portLinkUp {port : Nat} {s : State} (hp : port < 6) (hst : 8 ≤ s.rst.stage)
    (has : s.rst.asserted = false) :
    exec (.portLinkChange port true) s = .next (s.setPort port { s.port port with link := true }) :=
  congrArg Host.Outcome.next ((if_pos (by simp [hp, hst, has])).trans (if_neg Bool.false_ne_true))

/-- Stations that lose their last port leave every port as it is (R306). -/
theorem exec_portLinkDown {port : Nat} {s : State} (hp : port < 6) (hst : 8 ≤ s.rst.stage)
    (has : s.rst.asserted = false) : ∃ t, exec (.portLinkChange port false) s = .next t ∧
      t.net = (s.setPort port { s.port port with link := false }).net := by
  refine ⟨_, congrArg Host.Outcome.next (if_pos (by simp [hp, hst, has])), ?_⟩
  dsimp only
  split
  · refine congrArg Prod.fst (portPart_foldl _ _ _ fun a n => ?_)
    exact portPart_ite (portPart_stnAbsent a n 3) rfl
  · rfl

/-- Settles O16: reception by the branch its conditions select, and the rows of supervision, host and links. -/
theorem networkFramesComplete : Obligations.NetworkFramesComplete := by
  refine ⟨fun f s hrdy hnet hlink => ⟨fun hlen => exec_ringFrameRx_oversize hrdy hnet hlink hlen,
      fun hmin hmax ht => exec_ringFrameRx_dropped hrdy hnet hlink hmin hmax ht,
      fun hmin hmax ht hp hsec hbad => ?_⟩,
    fun f seq s hrdy hport hmode hlink hmin hmax ht hp hsec hsec' hmode' hlink' hseq hsrc heth => ?_,
    fun s hrdy hmode => ?_, fun f ch code d ds s hrdy hnet hmode hlink hfor hch => ⟨fun hroom => ?_, ?_⟩,
    fun port s hp hst has => ⟨exec_portLinkUp hp hst has, ?_⟩⟩
  case refine_1 =>
    exact ⟨_, exec_ringFrameRx_unprotected hrdy hnet hlink hmin hmax ht hp hsec hbad, rfl, port_setPort_same _ _ _⟩
  case refine_2 =>
    have hne : 1 - f.port ≠ f.port := by omega
    have hnet : s.netPort f.port = true := by simp [State.netPort, hport, hmode]
    have hrow := exec_ringFrameRx_accepted hrdy hnet hlink hmin hmax ht hp hsec
    have hother := port_setPort_other s { s.port f.port with rxFrames := (s.port f.port).rxFrames + 1 } hne
    rw [← secured_setPort_other s { s.port f.port with rxFrames := (s.port f.port).rxFrames + 1 } hne] at hsec'
    rw [← hother] at hmode' hlink'
    cases hdup : s.dupLive f.src seq with
    | true =>
      refine ⟨_, hrow.trans (congrArg _ (netAccepted_duplicate hport hseq hsrc hsec' hmode' hlink' hdup)), rfl,
        fun _ => ⟨?_, rfl⟩, fun h => absurd h (by decide)⟩
      rw [dupSeen_hsrDup, forwarded_port hport, port_setPort_same]
    | false =>
      exact ⟨_, hrow.trans (congrArg _ (netAccepted_first hport hseq hsrc hsec' hmode' hlink' hdup heth)), rfl,
        fun h => absurd h (by decide), fun _ => rfl⟩
  case refine_3 =>
    obtain ⟨x, o, hrow⟩ := exec_hsrSupervisionTx hrdy hmode
    exact ⟨_, hrow, rfl, rfl, rfl⟩
  case refine_4 =>
    obtain ⟨bytes, hput⟩ := rxDeliver_free (f := f) (code := code) (d := d) (ds := ds) hroom
    refine ⟨_, (exec_hostFrameRx hrdy hnet hmode hlink hfor hch).trans (congrArg _ hput), ?_, ?_⟩
    · exact (sendMsix_out _ _).subset (List.mem_cons_of_mem _ List.mem_cons_self)
    · rw [fch_sendMsix, fch_setFch_same]
  case refine_5 => exact exec_hostFrameRx hrdy hnet hmode hlink hfor hch
  case refine_6 =>
    obtain ⟨t, hrow, hnet⟩ := exec_portLinkDown hp hst has
    refine ⟨t, hrow, ?_, fun q hq => ?_⟩
    · exact (congrArg (fun n : NetSt => tgetD n.ports port {}) hnet).trans (port_setPort_same s port _)
    · exact (congrArg (fun n : NetSt => tgetD n.ports q {}) hnet).trans (port_setPort_other s _ hq)

end Sys2Proof.Proofs

/-! PROOF. The key store, its commands and events, and the audit read (O17). -/

namespace Sys2Proof.Proofs
open Sys2Proof.Machine Sys2Proof.Laws

/-- A command that is answered OK without data, and then acts. -/
theorem command_acts {s : State} {c : CmdInfo} {h : Hdr} {m : Nat} {f : State → Verdict} {act : State → State}
    (ha : s.admitted c h = true) (hv : f (s.take h) = { act := act }) :
    s.command c h m f = act (s.answered c h m {}) := command_eq ha hv

/-! ### Copies, slots and entries -/

@[simp] theorem curCopy_setPrev (k : KeyItem) (c : Option KeyCopy) : curCopy (setPrev k c) = curCopy k := by
  unfold curCopy setPrev
  cases k.headSel <;> rfl

@[simp] theorem prevCopy_setPrev (k : KeyItem) (c : Option KeyCopy) : prevCopy (setPrev k c) = c := by
  unfold prevCopy setPrev
  cases k.headSel <;> simp

theorem keyItem_congr {s t : State} (hs : t.key.slots = s.key.slots) (he : t.key.entries = s.key.entries) (l : U64) :
    t.keyItem l = s.keyItem l := by
  unfold State.keyItem
  rw [hs, he]

theorem slots_of_keyPart {s t : State} (h : keyPart t = keyPart s) : t.key.slots = s.key.slots := congrArg Prod.fst h

theorem entries_of_keyPart {s t : State} (h : keyPart t = keyPart s) : t.key.entries = s.key.entries :=
  congrArg (fun p => p.2.1) h

theorem keyItem_of_keyPart {s t : State} (h : keyPart t = keyPart s) (l : U64) : t.keyItem l = s.keyItem l :=
  keyItem_congr (slots_of_keyPart h) (entries_of_keyPart h) l

theorem keyOps_of_keyPart {s t : State} (h : keyPart t = keyPart s) : t.key.ops = s.key.ops :=
  congrArg (fun p => p.2.2.1) h

theorem keyItem_setItem_same (s : State) (l : U64) (k : KeyItem) : (s.setItem l k).keyItem l = some k := by
  unfold State.setItem State.keyItem
  by_cases h : lblDepth l = 0
  · rw [if_pos h, if_pos h]
    exact tget_tset_same _ _ _
  · rw [if_neg h, if_neg h]
    exact tget_tset_same _ _ _

theorem setItem_key (s : State) (l : U64) (k : KeyItem) :
    ∃ sl en, s.setItem l k = { s with key.slots := sl, key.entries := en } := by
  unfold State.setItem
  split
  · exact ⟨_, s.key.entries, rfl⟩
  · exact ⟨s.key.slots, _, rfl⟩

/-! ### What taking and answering leave of the keys -/

section
variable {s u : State} (h : Silent s u)
include h

theorem silent_keyItem (l : U64) : u.keyItem l = s.keyItem l := keyItem_of_keyPart (keyPart_silent h) l

theorem silent_keyItems : u.keyItems = s.keyItems := by
  unfold State.keyItems
  rw [silent_key_slots h, silent_key_entries h]

theorem silent_installOpen (l : U64) : u.installOpen l = s.installOpen l := by
  unfold State.installOpen
  rw [silent_key_ops h]

theorem silent_switchPending (l : U64) : u.switchPending l = s.switchPending l := by
  unfold State.switchPending
  rw [silent_keyItem h]

theorem silent_entriesFull (a : KeyArg) : u.entriesFull a = s.entriesFull a := by
  unfold State.entriesFull
  rw [silent_keyItem h, silent_key_entries h]

theorem silent_installKey (src : Src) (a : KeyArg) : u.installKey src a = s.installKey src a := by
  unfold State.installKey State.wrapKey
  rw [silent_bindOf h]

theorem silent_installAgrees (src : Src) (a : KeyArg) : u.installAgrees src a = s.installAgrees src a := by
  have hroot : u.rootOf a.label = s.rootOf a.label := by
    unfold State.rootOf State.slotSecret
    rw [silent_key_slots h, silent_key_kekValid h, silent_key_kek h]
  have hattr : u.govAttr a.label = s.govAttr a.label := by
    unfold State.govAttr
    rw [silent_key_slots h]
  unfold State.installAgrees
  rw [silent_installKey h, hroot, hattr, silent_keyItem h]

theorem silent_labelUsed (l : U64) : u.labelUsed l = s.labelUsed l := by
  rw [h.rest]
  rfl

theorem silent_hasDerived (l : U64) : u.hasDerived l = s.hasDerived l := by
  unfold State.hasDerived
  rw [silent_key_entries h]

end

theorem take_aud (s : State) (h : Hdr) : (s.take h).aud = s.aud := by
  unfold State.take State.unqueue
  split <;> simp

/-! ### KEY_INSTALL -/

/-- KEY_INSTALL, which words its own audit detail, recorded and answered by its verdict (R473). -/
theorem exec_keyInstall {s : State} {h : Hdr} {a : KeyArg} {x : Verdict} (ha : s.admitted keyInstallInfo h = true)
    (hv : keyInstallVerdict h a (s.take h) = x) : ∃ u, Silent s u ∧ exec (.keyInstall h a) s = .next (x.act u) := by
  obtain ⟨htake, hgate⟩ : s.takeable h = true ∧ (s.take h).gate keyInstallInfo h = St.OK := by
    simpa [State.admitted] using ha
  refine ⟨_, silent_trans (silent_take s h) (silent_trans (silent_auditCmd (s.take h) keyInstallInfo h a.label.toNat
    ((s.take h).installDetail a, false) x) (silent_reply _ h x)), ?_⟩
  show execKeyInstall h a s = _
  simp only [execKeyInstall, htake, if_true, State.judge, hgate, hv, State.finish]

theorem keyInstallVerdict_installs {s : State} {h : Hdr} {a : KeyArg} (hf : keyFieldsOk a s.epoch = true)
    (hopen : s.installOpen a.label = false) (hsw : s.switchPending a.label = false) (hfull : s.entriesFull a = false)
    (hag : s.installAgrees h.src a = true) :
    keyInstallVerdict h a s = s.long h 0x0401 (fun n t => t.installWrite h.src a n) :=
  (if_neg (by simp [hf])).trans ((if_neg (by simp [hopen])).trans ((if_neg (by simp [hsw])).trans
    ((if_neg (by simp [hfull])).trans (if_neg (by simp [hag])))))

theorem provision_keyItem (s : State) (l : U64) : s.provision.keyItem l = s.keyItem l := by
  unfold State.provision
  split <;> rfl

theorem provision_ops (s : State) : s.provision.key.ops = s.key.ops := by
  unfold State.provision
  split <;> rfl

theorem provision_kekValid (s : State) : s.provision.key.kekValid = true := by
  unfold State.provision
  split
  next h => exact h
  next => rfl

/-- The copy that an install writes (R458). -/
def writtenCopy (s : State) (src : Src) (a : KeyArg) : KeyCopy :=
  { keyType := a.keyType, dest := a.dest, role := a.role, attr := a.attr
    seq := ((s.provision.keyItem a.label).getD { headSel := true }).headSeq + 1, gen := a.gen
    switchEpoch := a.switchEpoch, key := (s.installKey src a).getD [], kek := s.provision.key.kek }

/-- The item with the new copy as its previous one, INSTALLING; the current copy stays (R458). -/
def installedItem (s : State) (src : Src) (a : KeyArg) : KeyItem :=
  { setPrev ((s.provision.keyItem a.label).getD { headSel := true }) (some (writtenCopy s src a)) with
    installing := true }

theorem installWrite_eq (s : State) (src : Src) (a : KeyArg) (n : U32) :
    s.installWrite src a n = { s.provision.setItem a.label (installedItem s src a) with
      key.ops := s.provision.key.ops ++ [{ handle := n, label := a.label, check := a.check, testCheck := a.testCheck }] } :=
  rfl

theorem installWrite_ops (s : State) (src : Src) (a : KeyArg) (n : U32) : (s.installWrite src a n).key.ops =
    s.key.ops ++ [{ handle := n, label := a.label, check := a.check, testCheck := a.testCheck }] := by
  rw [installWrite_eq, ← provision_ops s]

theorem installKey_withHandles (u : State) (hs : Tab HandleEnt) (fr : List Nat) (src : Src) (a : KeyArg) :
    ({ u with host.handles := hs, host.freeList := fr } : State).installKey src a = u.installKey src a := rfl

theorem installWrite_keyItem (s : State) (src : Src) (a : KeyArg) (n : U32) :
    (s.installWrite src a n).keyItem a.label = some (installedItem s src a) :=
  keyItem_setItem_same s.provision a.label _

theorem installWrite_kekValid (s : State) (src : Src) (a : KeyArg) (n : U32) :
    (s.installWrite src a n).key.kekValid = true := by
  obtain ⟨sl, en, hset⟩ := setItem_key s.provision a.label (installedItem s src a)
  rw [installWrite_eq, hset]
  exact provision_kekValid s

theorem installedItem_curCopy (s : State) (src : Src) (a : KeyArg) :
    curCopy (installedItem s src a) = (s.keyItem a.label).bind curCopy := by
  have hcur : curCopy (installedItem s src a) = curCopy ((s.provision.keyItem a.label).getD { headSel := true }) :=
    curCopy_setPrev _ _
  rw [hcur, provision_keyItem]
  cases s.keyItem a.label <;> rfl

theorem installedItem_prevCopy (s : State) (src : Src) (a : KeyArg) :
    prevCopy (installedItem s src a) = some (writtenCopy s src a) := prevCopy_setPrev _ _

/-! ### KEY_INSTALL_DONE -/

section
variable {k : U32} {o : KeyOp} {it : KeyItem} {c : KeyCopy} {s : State}
  (hop : s.key.ops.find? (fun o => o.handle == k && !o.flipped) = some o) (hit : s.keyItem o.label = some it)
  (hprev : prevCopy it = some c)
include hop hit hprev

theorem exec_keyInstallDone (ok : Bool) : exec (.keyInstallDone k ok) s =
    .next (if ok && s.installChecks o c then s.installFlip o it c else s.installFail o it) := by
  show execKeyInstallDone k ok s = _
  unfold execKeyInstallDone
  rw [hop]
  dsimp only
  rw [hit]
  dsimp only
  rw [hprev]

end

/-- The item once its head word has flipped: the written copy is current (R458). -/
def flippedItem (s : State) (o : KeyOp) (it : KeyItem) (c : KeyCopy) : KeyItem :=
  { setPrev it (some { c with kcv := o.check, switchEpoch := max c.switchEpoch s.epoch }) with
    headSel := !it.headSel, headSeq := c.seq, installing := false, bad := false, parentBad := false
    switchDone := !decide (s.epoch < c.switchEpoch), overlapS := s.pn P.KEY_OVERLAP_S 0 }

theorem flippedItem_copies (s : State) (o : KeyOp) (it : KeyItem) (c : KeyCopy) :
    curCopy (flippedItem s o it c) = some { c with kcv := o.check, switchEpoch := max c.switchEpoch s.epoch } ∧
      prevCopy (flippedItem s o it c) = curCopy it := by
  unfold flippedItem curCopy prevCopy setPrev
  cases it.headSel <;> simp

theorem installFlip_keyItem (s : State) (o : KeyOp) (it : KeyItem) (c : KeyCopy) :
    (s.installFlip o it c).keyItem o.label = some (flippedItem s o it c) := by
  have hset := keyItem_setItem_same s o.label (flippedItem s o it c)
  have hstart : keyPart (((s.setItem o.label (flippedItem s o it c)).auditKey o.label St.OK []).freshRx o.label
      (curCopy it).isNone) = keyPart (s.setItem o.label (flippedItem s o it c)) :=
    (keyPart_freshRx _ _ _).trans (keyPart_auditKey _ _ _ _)
  have hsame := keyItem_of_keyPart hstart o.label
  unfold State.installFlip
  dsimp only
  split
  · exact hsame.trans hset
  · refine (keyItem_of_keyPart (keyPart_complete _ _ _ _ _) _).trans ?_
    split
    · exact hsame.trans hset
    · exact (keyItem_of_keyPart (keyPart_bumpAn _ _) _).trans (hsame.trans hset)

/-- A failed install clears the written copy and its operation (R458). -/
theorem installFail_effect (s : State) (o : KeyOp) (it : KeyItem) (hcur : (curCopy it).isSome = true) :
    (s.installFail o it).keyItem o.label = some { setPrev it none with installing := false } ∧
      (s.installFail o it).key.ops = s.key.ops.filter (fun p => p.handle != o.handle) := by
  have hnot : ¬ (curCopy it).isNone = true := by
    rw [Option.isSome_iff_ne_none] at hcur
    simpa using hcur
  obtain ⟨sl, en, hkey⟩ := setItem_key s o.label { setPrev it none with installing := false }
  have hset := keyItem_setItem_same s o.label { setPrev it none with installing := false }
  unfold State.installFail
  dsimp only
  rw [if_neg hnot]
  refine ⟨(keyItem_of_keyPart (keyPart_complete _ _ _ _ _) _).trans hset,
    (keyOps_of_keyPart (keyPart_complete _ _ _ _ _)).trans ?_⟩
  rw [hkey]

/-! ### Switch epoch and receive window -/

/-- The install that waits for the switch epoch completes (R458). -/
def switchEnded (s : State) (l : U64) : State :=
  match s.key.ops.find? (fun o => o.label == l && o.flipped) with
  | none => s
  | some o => ({ s with key.ops := s.key.ops.filter (fun p => p.handle != o.handle) } : State).complete o.handle St.OK 0 []

theorem switchEnded_keyItem (s : State) (l j : U64) : (switchEnded s l).keyItem j = s.keyItem j := by
  unfold switchEnded
  split
  · rfl
  · exact keyItem_of_keyPart (keyPart_complete _ _ _ _ _) j

section
variable {l : U64} {it : KeyItem} {c : KeyCopy} {s : State} (hit : s.keyItem l = some it) (hcur : curCopy it = some c)
include hit hcur

theorem exec_keySwitchEpoch (hwait : it.switchDone = false) (hdue : c.switchEpoch ≤ s.epoch) :
    ∃ t, exec (.keySwitchEpoch l) s = .next t ∧
      t.keyItem l = some { it with switchDone := true, overlapS := s.pn P.KEY_OVERLAP_S 0 } := by
  have hset := keyItem_setItem_same s l { it with switchDone := true, overlapS := s.pn P.KEY_OVERLAP_S 0 }
  have haud := keyItem_of_keyPart (keyPart_auditKey
    (s.setItem l { it with switchDone := true, overlapS := s.pn P.KEY_OVERLAP_S 0 }) l St.OK []) l
  have hrow : exec (.keySwitchEpoch l) s = execKeySwitchEpoch l s := rfl
  unfold execKeySwitchEpoch at hrow
  rw [hit] at hrow
  dsimp only at hrow
  rw [hcur] at hrow
  refine ⟨_, hrow.trans (congrArg Host.Outcome.next (if_pos (by simp [hwait, hdue]))), ?_⟩
  refine (switchEnded_keyItem _ l l).trans ?_
  split
  · exact haud.trans hset
  · exact (keyItem_of_keyPart (keyPart_bumpAn _ _) l).trans (haud.trans hset)

theorem exec_keyReceiveWindowEnd (hdone : it.switchDone = true) (hinst : it.installing = false)
    (hprev : (prevCopy it).isSome = true) (hkeep : (s.govAttr l).getLsbD 1 = false)
    (hend : c.switchEpoch + it.overlapS * 8000 ≤ s.epoch) :
    ∃ t, exec (.keyReceiveWindowEnd l) s = .next t ∧ t.keyItem l = some (setPrev it none) := by
  have hrow : exec (.keyReceiveWindowEnd l) s = execKeyReceiveWindowEnd l s := rfl
  unfold execKeyReceiveWindowEnd at hrow
  rw [hit] at hrow
  dsimp only at hrow
  rw [hcur] at hrow
  refine ⟨_, hrow.trans (congrArg Host.Outcome.next (if_pos ?_)), ?_⟩
  · simp only [hdone, hinst, hprev, hkeep, Bool.not_false, Bool.and_self, Bool.true_and, decide_eq_true_eq]
    exact hend
  · exact (keyItem_of_keyPart (keyPart_auditKey _ _ _ _) l).trans (keyItem_setItem_same s l _)

end

/-! ### KEY_REMOVE, KEY_LIST and AUDIT_READ -/

theorem keyRemoveVerdict_removes {s : State} {l : U64} (hok : lblOk l = true) (hit : (s.keyItem l).isSome = true)
    (hopen : s.installOpen l = false) (hused : s.labelUsed l = false) (hder : s.hasDerived l = false) :
    keyRemoveVerdict l s =
      { act := fun t => ((t.dropItem l).auditKey l St.OK []).endBindings (fun b => b.label == l) } :=
  (if_neg (by simp [hok, Option.isSome_iff_ne_none.mp hit])).trans ((if_neg (by simp [hopen])).trans
    (if_neg (by simp [hused, hder])))

theorem dropItem_tables (s : State) (l : U64) :
    (s.dropItem l).key.slots = (if lblDepth l = 0 then tdel s.key.slots (lblSlot l) else s.key.slots) ∧
    (s.dropItem l).key.entries = (if lblDepth l = 0 then s.key.entries else tdel s.key.entries l.toNat) := by
  unfold State.dropItem
  by_cases h : lblDepth l = 0
  · simp [h]
  · simp [h]

theorem auditReadVerdict_take (s : State) (h : Hdr) (first count : Nat) :
    auditReadVerdict h first count (s.take h) = auditReadVerdict h first count s := by
  unfold auditReadVerdict State.hashBefore State.auditRec State.auditOldest
  rw [take_aud]

/-! ### TAMPER_ACK, scrub and detection -/

theorem silent_with_tamLatched {s u : State} (h : Silent s u) (n : Nat) :
    Silent { s with key.tamLatched := n } { u with key.tamLatched := n } :=
  silent_map h (fun t => { t with key.tamLatched := n }) fun _ _ _ _ _ _ _ _ _ => rfl

/-- A failing current copy is BAD (R462). -/
theorem scrubCur_effect {s : State} {l : U64} {it : KeyItem} (hit : s.keyItem l = some it) :
    (s.scrubCur l).keyItem l = some { it with bad := true } ∧ (s.scrubCur l).epoch = s.epoch ∧
      (s.scrubCur l).key.slotsBad = s.key.slotsBad ||| (1#64 <<< lblSlot l) := by
  have hset := keyItem_setItem_same s l { it with bad := true }
  obtain ⟨sl, en, hkey⟩ := setItem_key s l { it with bad := true }
  rw [hkey] at hset
  unfold State.scrubCur
  rw [hit]
  dsimp only
  rw [hkey, condition_epoch, condition_key_slotsBad, keyItem_of_keyPart (keyPart_condition _ _ _),
    keyItem_of_keyPart (keyPart_auditKey _ _ _ _)]
  by_cases hd : lblDepth l = 0
  · rw [if_pos hd]
    refine ⟨Eq.trans ?_ hset, rfl, rfl⟩
    unfold State.keyItem
    rw [if_pos hd, if_pos hd]
  · rw [if_neg hd]
    exact ⟨hset, rfl, rfl⟩

theorem exec_keyScrub {s : State} (hrdy : s.ready = true)
    (hdue : s.key.lastScrub + s.pn P.KEY_SCRUB_H 0 * 3600 * 8000 ≤ s.epoch) (cur prev : List U64) :
    exec (.keyScrub cur prev) s = .next (s.scrub cur prev) :=
  congrArg Host.Outcome.next (if_pos (by simpa [hrdy] using hdue))

/-- The fields that the destruction of the keys leaves (R464). -/
theorem zeroKeys_keyPart (s : State) (cause mask time : Nat) :
    keyPart (s.zeroKeys cause mask time) = (s.key.slots, s.key.entries, [], 0#256, false, 2, 1, mask, true, true) :=
  keyPart_endBindings _ _

theorem tamperReport_keyPart (s : State) : keyPart s.tamperReport = keyPart s :=
  (keyPart_condition _ _ _).trans (keyPart_auditDev _ _ _ _ _ _)

theorem tamperReport_bindOf (s : State) (y : Src) : s.tamperReport.bindOf y = s.bindOf y :=
  (condition_bindOf _ _ _ _).trans (silent_bindOf (silent_auditPush _ _) y)

theorem bindOf_withTamPending (s : State) (b : Bool) (y : Src) :
    ({ s with key.tamPending := b } : State).bindOf y = s.bindOf y := by
  cases y <;> rfl

theorem exec_tamperDetect {s : State} {mask : BitVec 3} (hm : mask &&& BitVec.ofNat 3 (s.pn P.TAMPER_EN 0) ≠ 0#3) :
    ∃ t, exec (.tamperDetect mask) s = .next t ∧ keyPart t = (s.key.slots, s.key.entries, [], 0#256, false, 2, 1,
      (mask &&& BitVec.ofNat 3 (s.pn P.TAMPER_EN 0)).toNat, true, true) ∧ ∀ y ∈ allSrcs, t.bindOf y = none := by
  refine ⟨_, congrArg Host.Outcome.next (if_neg hm), ?_⟩
  have hkey := zeroKeys_keyPart s 1 (mask &&& BitVec.ofNat 3 (s.pn P.TAMPER_EN 0)).toNat (calSeconds s.drip.live)
  have hbind : ∀ y ∈ allSrcs, (s.zeroKeys 1 (mask &&& BitVec.ofNat 3 (s.pn P.TAMPER_EN 0)).toNat
      (calSeconds s.drip.live)).bindOf y = none := fun y hy => endBindings_bindOf_none _ y hy
  generalize s.zeroKeys 1 (mask &&& BitVec.ofNat 3 (s.pn P.TAMPER_EN 0)).toNat (calSeconds s.drip.live) = z at hkey hbind ⊢
  split
  · exact ⟨(tamperReport_keyPart _).trans hkey, fun y hy => (tamperReport_bindOf _ y).trans (hbind y hy)⟩
  · refine ⟨hkey, fun y hy => Eq.trans ?_ (hbind y hy)⟩
    exact bindOf_withTamPending _ _ y

/-- Settles O17: each command's verdict and each event's branch, followed through `keyPart`. -/
theorem keyStoreComplete : Obligations.KeyStoreComplete := by
  refine ⟨fun h a n s ha hf hopen hsw hfull hag hn => ?_,
    fun k o it c s hop hit hprev => ⟨fun hc => ?_, fun hcur => ?_⟩,
    fun l it c s hit hcur => ⟨exec_keySwitchEpoch hit hcur, exec_keyReceiveWindowEnd hit hcur⟩,
    fun h l s ha hok hit hopen hused hder => ?_, fun h s ha => ?_, fun h first count s ha hroom => ?_,
    fun h s ha => ?_, fun l it s hrdy hdue hit => ?_, fun mask s hm => ?_⟩
  case refine_1 =>
    have hs := silent_take s h
    have hv := keyInstallVerdict_installs (s := s.take h) (h := h) (a := a) (by rwa [silent_epoch hs])
      (by rwa [silent_installOpen hs]) (by rwa [silent_switchPending hs]) (by rwa [silent_entriesFull hs])
      (by rwa [silent_installAgrees hs])
    rw [long_some _ _ _ _ n (by simpa using hn)] at hv
    obtain ⟨u, hu, hrow⟩ := exec_keyInstall ha hv
    have hitem := silent_keyItem hu a.label
    obtain ⟨hh, fr, hopened⟩ := openHandle_shape u h.src h.src h.tag 0x0401
    dsimp only at hrow
    rw [hopened] at hrow
    refine ⟨_, _, _, hrow, (installWrite_ops _ _ _ _).trans ?_, installWrite_keyItem _ _ _ _, rfl,
      (installedItem_curCopy _ _ _).trans ?_, installedItem_prevCopy _ _ _, ?_, rfl, rfl, rfl, rfl,
      rfl, rfl, installWrite_kekValid _ _ _ _⟩
    · exact congrArg (· ++ _) (silent_key_ops hu :)
    · exact congrArg (Option.bind · curCopy) hitem
    · exact congrArg (Option.getD · []) ((installKey_withHandles u hh fr h.src a).trans (silent_installKey hu h.src a))
  case refine_2 =>
    obtain ⟨h1, h2⟩ := flippedItem_copies s o it c
    refine ⟨_, _, _, (exec_keyInstallDone hop hit hprev true).trans (congrArg _ (if_pos (by simp [hc]))),
      installFlip_keyItem s o it c, h1, rfl, rfl, rfl, rfl, rfl, ?_, h2⟩
    exact decide_not.symm.trans (decide_eq_decide.mpr not_lt)
  case refine_3 =>
    obtain ⟨h1, h2⟩ := installFail_effect s o it hcur
    exact ⟨_, (exec_keyInstallDone hop hit hprev false).trans (congrArg _ (if_neg (by simp))), h1, h2⟩
  case refine_4 =>
    have hs := silent_take s h
    have hv := keyRemoveVerdict_removes (s := s.take h) hok (by rwa [silent_keyItem hs]) (by rwa [silent_installOpen hs])
      (by rwa [silent_labelUsed hs]) (by rwa [silent_hasDerived hs])
    obtain ⟨h1, h2⟩ := dropItem_tables (s.answered keyRemoveInfo h l.toNat {}) l
    rw [answered_key_slots] at h1
    rw [answered_key_entries] at h2
    have hcmd := command_acts (m := l.toNat) ha hv
    have hrow : exec (.keyRemove h l) s = .next ((((s.answered keyRemoveInfo h l.toNat {}).dropItem l).auditKey l
        St.OK []).endBindings (fun b => b.label == l)) := congrArg Host.Outcome.next hcmd
    have hkeep := (keyPart_endBindings (((s.answered keyRemoveInfo h l.toNat {}).dropItem l).auditKey l St.OK [])
      (fun b => b.label == l)).trans (keyPart_auditKey _ _ _ _)
    exact ⟨_, hrow, (slots_of_keyPart hkeep).trans h1, (entries_of_keyPart hkeep).trans h2⟩
  case refine_5 =>
    have hv : keyListVerdict h (s.take h) = keyListVerdict h s := by
      unfold keyListVerdict
      rw [silent_keyItems (silent_take s h)]
    exact congrArg Host.Outcome.next (command_eq ha hv)
  case refine_6 =>
    have hv := (auditReadVerdict_take s h first count).trans (if_neg (by omega))
    exact congrArg Host.Outcome.next (command_eq ha hv)
  case refine_7 =>
    exact ⟨_, congrArg Host.Outcome.next (command_eq ha (if_pos rfl)),
      silent_with_tamLatched (silent_answered s _ h _ _) 0⟩
  case refine_8 =>
    obtain ⟨h1, h2, h3⟩ := scrubCur_effect hit
    exact ⟨_, exec_keyScrub hrdy hdue [l] [], h1, h2, h3⟩
  case refine_9 =>
    obtain ⟨t, hrow, hkey, hbind⟩ := exec_tamperDetect hm
    simp only [keyPart, Prod.mk.injEq] at hkey
    obtain ⟨-, -, hops, hkek, hvalid, -, hlatch, hmask, heng, hfuse⟩ := hkey
    exact ⟨t, hrow, hkek, hvalid, heng, hfuse, hops, hlatch, hmask, hbind⟩

end Sys2Proof.Proofs

/-! PROOF. The setup exchange, bindings, lockouts and idle sessions (O18). -/

namespace Sys2Proof.Proofs
open Sys2Proof.Machine Sys2Proof.Laws

/-! ### A setup packet taken and answered -/

/-- Taking a setup packet moves the head of its queue, and nothing else. -/
theorem takeSetup_shape (s : State) (a : SetupArg) : ∃ q, s.takeSetup a = { s with host.queues := q } := by
  unfold State.takeSetup
  split
  · exact ⟨_, rfl⟩
  · exact ⟨s.host.queues, rfl⟩

theorem silent_takeSetup (s : State) (a : SetupArg) : Silent s (s.takeSetup a) := by
  unfold State.takeSetup
  split
  · exact silent_setQueue s _ _ rfl
  · exact silent_refl s

theorem silent_setupReply (s : State) (a : SetupArg) (st : Nat) (d : List Byte) : Silent s (s.setupReply a st d) := by
  unfold State.setupReply
  dsimp only
  split
  · exact silent_trans (silent_auditPush _ _) (silent_postQueue _ _ _ _)
  · exact silent_trans (silent_auditPush _ _) (silent_emit _ _)

theorem silent_setupOf {s u : State} (h : Silent s u) (a : SetupArg) : u.setupOf a = s.setupOf a := by
  unfold State.setupOf
  rw [silent_key_setups h]

theorem setupOf_setSetup (s : State) (a : SetupArg) (v : SetupSt) : (s.setSetup a v).setupOf a = v :=
  tgetD_tset_same _ _ _ _

/-- A setup packet whose exchange state changes and that is answered: nothing else is touched (R468). -/
theorem setup_answered (s : State) (a b : SetupArg) (v : SetupSt) (st : Nat) (d : List Byte) :
    Silent { s with key.setups := (((s.takeSetup a).setSetup a v).setupReply b st d).key.setups }
      (((s.takeSetup a).setSetup a v).setupReply b st d) ∧
    (((s.takeSetup a).setSetup a v).setupReply b st d).setupOf a = v := by
  have hreply := silent_setupReply ((s.takeSetup a).setSetup a v) b st d
  refine ⟨?_, (silent_setupOf hreply a).trans (setupOf_setSetup _ a v)⟩
  have htaken := silent_map (silent_takeSetup s a)
    (fun t => { t with key.setups := ((s.takeSetup a).setSetup a v).key.setups }) fun _ _ _ _ _ _ _ _ _ => rfl
  rw [silent_key_setups hreply]
  exact silent_trans htaken hreply

/-! ### Step 1 -/

section
variable {a : SetupArg} {nonce : List Byte} {s : State} (htake : s.setupTakeable a = true) (hlo : 1 ≤ a.role)
  (hhi : a.role ≤ 3)
include htake hlo hhi

theorem exec_setupRequest_lockout (hlock : s.epoch < (s.setupOf a).lockUntil) :
    exec (.setupRequest a nonce) s = .next ((s.takeSetup a).setupReply a St.BUSY []) := by
  have ht := silent_takeSetup s a
  refine congrArg Host.Outcome.next ((if_neg (by simp [htake])).trans ((if_neg (by simp; omega)).trans (if_pos ?_)))
  rwa [silent_epoch ht, silent_setupOf ht]

/-- The exchange state that step 1 leaves on a queue, and on the management port with its session (R468, R469). -/
def requested (s : State) (a : SetupArg) (nonce : List Byte) : SetupSt :=
  { s.setupOf a with nonceM := some (padTo 32 nonce), role := roleOfCode a.role, label := a.label }

variable (hfree : (s.setupOf a).lockUntil ≤ s.epoch)
include hfree

theorem exec_setupRequest_queue {n : Nat} (hsrc : a.src = .queue n) : exec (.setupRequest a nonce) s =
    .next (((s.takeSetup a).setSetup a (requested s a nonce)).setupReply a St.OK (padTo 32 nonce)) := by
  have ht := silent_takeSetup s a
  refine congrArg Host.Outcome.next ((if_neg (by simp [htake])).trans ((if_neg (by simp; omega)).trans
    ((if_neg ?_).trans ?_)))
  · rw [silent_epoch ht, silent_setupOf ht]
    omega
  · unfold requested
    rw [silent_setupOf ht, hsrc]

theorem exec_setupRequest_session {m n : Nat} (hsrc : a.src = .session m) (hn : s.freeSession = some n) :
    exec (.setupRequest a nonce) s = .next (((s.takeSetup a).setSetup a { requested s a nonce with sess := n }).setupReply
      { a with src := .session n } St.OK (padTo 32 nonce)) := by
  have ht := silent_takeSetup s a
  obtain ⟨q, hq⟩ := takeSetup_shape s a
  have hfs : (s.takeSetup a).freeSession = some n := by rw [hq]; exact hn
  refine congrArg Host.Outcome.next ((if_neg (by simp [htake])).trans ((if_neg (by simp; omega)).trans
    ((if_neg ?_).trans ?_)))
  · rw [silent_epoch ht, silent_setupOf ht]
    omega
  · unfold requested
    rw [silent_setupOf ht, hsrc, hfs]

end

/-! ### Step 2 -/

theorem proofOk_takeSetup (s : State) (a : SetupArg) (nh ph : List Byte) :
    (s.takeSetup a).proofOk a nh ph = s.proofOk a nh ph := by
  obtain ⟨q, hq⟩ := takeSetup_shape s a
  have hmaker : ∀ src, (s.takeSetup a).makerAllowed src = s.makerAllowed src := fun src => by
    unfold State.makerAllowed
    simp only [silent_roleOf (silent_takeSetup s a)]
  unfold State.proofOk
  simp only [hmaker]
  rw [hq]
  rfl

section
variable {a : SetupArg} {nh ph : List Byte} {s : State} (htake : s.setupTakeable a = true)
  (hfree : (s.setupOf a).lockUntil ≤ s.epoch)
include htake hfree

/-- A proof that does not verify counts (R468). -/
theorem exec_setupProof_fails (hp : s.proofOk a nh ph = none) : exec (.setupProof a nh ph) s =
    .next (((s.takeSetup a).proofFailed a).setupReply { a with src := SetupArg_src a (s.setupOf a) } St.ROLE []) := by
  have ht := silent_takeSetup s a
  refine congrArg Host.Outcome.next ((if_neg (by simp [htake])).trans ((if_neg ?_).trans ?_))
  · rw [silent_epoch ht, silent_setupOf ht]
    omega
  · rw [proofOk_takeSetup, silent_setupOf ht, hp]

/-- The state once the binding of a proof is made (R468). -/
def proofBound (s : State) (a : SetupArg) (sk : List Byte) : State :=
  ((s.takeSetup a).setSetup a { s.setupOf a with nonceM := none, fails := [] }).bindSrc a
    (SetupArg_src a (s.setupOf a)) sk

theorem exec_setupProof_binds {sk : List Byte} (hp : s.proofOk a nh ph = some sk) : exec (.setupProof a nh ph) s =
    .next ((proofBound s a sk).dropMakers.setupReply { a with src := SetupArg_src a (s.setupOf a) } St.OK
      ((Config.hmac384 sk [2#8]).take 16)) := by
  have ht := silent_takeSetup s a
  refine congrArg Host.Outcome.next ((if_neg (by simp [htake])).trans ((if_neg ?_).trans ?_))
  · rw [silent_epoch ht, silent_setupOf ht]
    omega
  · unfold proofBound
    rw [proofOk_takeSetup, silent_setupOf ht, hp]

end

/-- A maker that verifies has an installer beside it (R470). -/
theorem makerAllowed_of_proofOk {s : State} {a : SetupArg} {nh ph sk : List Byte} (h : s.proofOk a nh ph = some sk)
    (hr : a.role = 3) : s.makerAllowed (SetupArg_src a (s.setupOf a)) = true := by
  unfold State.proofOk at h
  dsimp only at h
  split at h
  · have hc := (Option.ite_none_right_eq_some.mp h).1
    simp only [Bool.and_eq_true, Bool.or_eq_true] at hc
    simpa [hr] using hc.1.2
  · cases h

theorem roleOfCode_maker : ∀ {n : Nat}, roleOfCode n = .maker → n = 3
  | 3, _ => rfl

/-- The binding that a proof makes (R468). -/
def madeBinding (s : State) (a : SetupArg) (sk : List Byte) : Binding :=
  { role := roleOfCode a.role, label := a.label, sk := sk, epoch := s.epoch }

theorem bindSrc_bindOf_same (s : State) (a : SetupArg) {src : Src} (sk : List Byte) (h : src ≠ .none) :
    (s.bindSrc a src sk).bindOf src = some (madeBinding s a sk) := by
  cases src with
  | none => exact absurd rfl h
  | queue n => exact congrArg QPair.bind ((queue_setQueue s n n _).trans (if_pos rfl))
  | session n => exact congrArg Session.bind ((sess_setSess s n n _).trans (if_pos rfl))

theorem bindSrc_bindOf_other (s : State) (a : SetupArg) {src y : Src} (sk : List Byte) (h : y ≠ src) :
    (s.bindSrc a src sk).bindOf y = s.bindOf y := by
  cases src with
  | none => rfl
  | queue n =>
    cases y with
    | queue m => exact congrArg QPair.bind ((queue_setQueue s n m _).trans (if_neg fun e => h (congrArg Src.queue e)))
    | _ => rfl
  | session n =>
    cases y with
    | session m =>
      exact congrArg Session.bind ((sess_setSess s n m _).trans (if_neg fun e => h (congrArg Src.session e)))
    | _ => rfl

theorem setSetup_bindOf (s : State) (a : SetupArg) (v : SetupSt) (y : Src) : (s.setSetup a v).bindOf y = s.bindOf y := by
  cases y <;> rfl

/-- A source that may bind is a queue or a session. -/
theorem setupSrc_ne_none {s : State} {a : SetupArg} (htake : s.setupTakeable a = true) (st : SetupSt) :
    SetupArg_src a st ≠ .none := by
  unfold SetupArg_src
  cases hsrc : a.src with
  | none => simp [State.setupTakeable, hsrc] at htake
  | queue n => exact Src.noConfusion
  | session n => exact Src.noConfusion

/-- The binding stands when the makers without an installer have gone: it is no maker's, or an installer on another
source is bound (R470). -/
theorem proofBound_bindOf {s : State} {a : SetupArg} {nh ph sk : List Byte} (htake : s.setupTakeable a = true)
    (hp : s.proofOk a nh ph = some sk) :
    (proofBound s a sk).dropMakers.bindOf (SetupArg_src a (s.setupOf a)) = some (madeBinding s a sk) := by
  have hmade : (proofBound s a sk).bindOf (SetupArg_src a (s.setupOf a)) = some (madeBinding s a sk) := by
    refine (bindSrc_bindOf_same _ a sk (setupSrc_ne_none htake _)).trans ?_
    unfold madeBinding
    rw [setSetup_epoch, silent_epoch (silent_takeSetup s a)]
  rw [dropMakers_bindOf _ _ fun b hb hrole => ?_]
  · exact hmade
  · rw [hmade] at hb
    cases hb
    obtain ⟨x, hx, hinst⟩ := List.any_eq_true.mp (makerAllowed_of_proofOk hp (roleOfCode_maker hrole))
    simp only [Bool.and_eq_true, bne_iff_ne, beq_iff_eq] at hinst
    refine List.any_eq_true.mpr ⟨x, hx, beq_iff_eq.mpr (Eq.trans ?_ hinst.2)⟩
    have hkeep : (proofBound s a sk).bindOf x = s.bindOf x :=
      ((bindSrc_bindOf_other _ a sk hinst.1).trans (setSetup_bindOf _ _ _ _)).trans
        (silent_bindOf (silent_takeSetup s a) x)
    unfold State.roleOf
    rw [hkeep]

/-- The exchange state that a failed proof leaves: no exchange open, one more failure, and a lockout at the fifth within
60 s (R468). -/
def failedSetup (s : State) (a : SetupArg) : SetupSt :=
  let recent := (s.setupOf a).fails.filter (fun e => decide (s.epoch < e + 480000)) ++ [s.epoch]
  { s.setupOf a with
    nonceM := none, fails := recent
    lockUntil := if 5 ≤ recent.length then s.epoch + s.pn P.BIND_LOCKOUT_S 0 * 8000 else (s.setupOf a).lockUntil }

theorem proofFailed_eq (s : State) (a : SetupArg) :
    (s.takeSetup a).proofFailed a = (s.takeSetup a).setSetup a (failedSetup s a) := by
  have ht := silent_takeSetup s a
  show (s.takeSetup a).setSetup a (failedSetup (s.takeSetup a) a) = _
  unfold failedSetup
  rw [silent_setupOf ht, silent_epoch ht, silent_pn ht]

/-! ### The end of bindings and sessions -/

theorem closeSession_bindOf (s : State) (n : Nat) : (s.closeSession n).bindOf (.session n) = none :=
  endBinding_bindOf_self s (.session n)

theorem dropMakers_isOpen {s : State} {n : Nat} (h : (s.sess n).isOpen = false) :
    (s.dropMakers.sess n).isOpen = false := by
  unfold State.dropMakers
  split
  · exact h
  · unfold State.sess tgetD at h ⊢
    rw [tget_tmap]
    cases hs : tget s.host.sessions n with
    | none => rfl
    | some v =>
      rw [hs] at h
      cases hb : v.bind with
      | none => simpa [hb] using h
      | some b =>
        by_cases hm : b.role = .maker
        · simp [hb, hm]
        · simpa [hb, hm] using h

theorem closeSession_isOpen (s : State) (n : Nat) : ((s.closeSession n).sess n).isOpen = false :=
  dropMakers_isOpen (congrArg Session.isOpen ((sess_setSess s n n _).trans (if_pos rfl)))

/-- Settles O18: each step by the branch its conditions select, on the state whose packet has been taken. -/
theorem bindingsComplete : Obligations.BindingsComplete := by
  refine ⟨fun a nonce s htake hlo hhi => ⟨exec_setupRequest_lockout htake hlo hhi, fun hfree n hsrc => ?_,
      fun hfree m n hsrc hn => ?_⟩, fun a nh ph sk s htake hfree hp => ?_, fun a nh ph s htake hfree hp => ?_,
    fun a s htake hend => ?_, fun src mac s hlock hdue => ?_, fun n s hn hopen hidle => ?_,
    fun h opcode s hlo hhi ha hinst hmode => ?_⟩
  case refine_1 =>
    obtain ⟨h1, h2⟩ := setup_answered s a a (requested s a nonce) St.OK (padTo 32 nonce)
    exact ⟨_, exec_setupRequest_queue htake hlo hhi hfree hsrc, h1, h2⟩
  case refine_2 =>
    obtain ⟨h1, h2⟩ := setup_answered s a { a with src := .session n } { requested s a nonce with sess := n } St.OK
      (padTo 32 nonce)
    exact ⟨_, exec_setupRequest_session htake hlo hhi hfree hsrc hn, h1, h2⟩
  case refine_3 =>
    exact ⟨_, exec_setupProof_binds htake hfree hp,
      (silent_bindOf (silent_setupReply _ _ _ _) _).trans (proofBound_bindOf htake hp)⟩
  case refine_4 =>
    have hrow := exec_setupProof_fails htake hfree hp
    rw [proofFailed_eq] at hrow
    obtain ⟨h1, h2⟩ := setup_answered s a { a with src := SetupArg_src a (s.setupOf a) } (failedSetup s a) St.ROLE []
    refine ⟨_, hrow, h1, congrArg SetupSt.nonceM h2, congrArg SetupSt.fails h2, fun hfive => ?_, fun y => ?_⟩
    · refine (congrArg SetupSt.lockUntil h2).trans (if_pos ?_)
      rw [List.length_append]
      exact Nat.succ_le_succ hfive
    · refine (silent_bindOf h1 y).trans ?_
      cases y <;> rfl
  case refine_5 =>
    exact ⟨_, congrArg Host.Outcome.next (if_neg (by simp [htake, hend])), endBinding_bindOf_self _ _⟩
  case refine_6 => exact congrArg Host.Outcome.next (if_pos (by simp [hlock, hdue]))
  case refine_7 =>
    exact ⟨_, congrArg Host.Outcome.next (if_pos (by simpa [hn, hopen] using hidle)), closeSession_bindOf s n,
      closeSession_isOpen s n⟩
  case refine_8 =>
    have hv : makerVerdict opcode (s.take h) = { data := Config.makerData opcode } :=
      (if_neg (by simp [hinst])).trans (if_neg (by simp [State.progStopped, hmode]))
    exact congrArg Host.Outcome.next ((if_neg (by simp; omega)).trans (command_eq ha hv))

end Sys2Proof.Proofs

/-! PROOF. Outputs of the field I/O die: trips, shedding, acknowledgement, tests, PWM and the die link (O19). -/

namespace Sys2Proof.Proofs
open Sys2Proof.Machine Sys2Proof.Laws

/-! ### Channels, groups and analog outputs -/

@[simp] theorem fio1_setFio_same (s : State) (c : Nat) (v : FioCh) : (s.setFio c v).fio1 c = v := tgetD_tset_same _ _ _ _

@[simp] theorem grp1_setGrp_same (s : State) (g : Nat) (v : FioGrp) : (s.setGrp g v).grp1 g = v := tgetD_tset_same _ _ _ _

theorem closeEdge_shape (s : State) : s.closeEdge = { s with edge := s.closeEdge.edge } := by
  unfold State.closeEdge
  split <;> rfl

/-! ### Trips and shedding -/

/-- A trip changes the channel, and the status of its point (R327). -/
theorem trip_effect (s : State) (c bit : Nat) :
    s.trip c bit = { s with fio := (s.trip c bit).fio, pts := (s.trip c bit).pts, edge := s.closeEdge.edge } ∧
    (s.trip c bit).fio1 c = { s.fio1 c with
      latch := (s.fio1 c).latch ||| (1#3 <<< bit), trips := (s.fio1 c).trips + 1, driven := false
      duty := F32.zero } := by
  refine ⟨?_, tgetD_tset_same _ _ _ _⟩
  unfold State.trip
  rw [closeEdge_shape s]
  rfl

/-- The driven outputs of a group with their measured currents, from which the shedding picks (R328). -/
def shedCands (s : State) (grp : Nat) (amps : List F32) : List (Nat × F32) :=
  ((List.range 8).map (fun k => (8 * grp + k, amps.getD k F32.zero))).filter
    (fun x => isOutMode (s.fio1 x.1).mode && (s.fio1 x.1).driven)

section
variable {s : State} {grp : Nat} {amps : List F32} (hdie : s.dieOn = true) (hgrp : grp < 4)
include hdie hgrp

theorem exec_groupLimitShed :
    exec (.groupLimitShed grp amps) s = .next (s.shedLoop 8 (shedCands s grp amps)) :=
  congrArg Host.Outcome.next (if_pos (by simp [hdie, hgrp]))

theorem exec_groupLimitShed_within (hsum : ((shedCands s grp amps).map (fun x => x.2.rat)).sum ≤ 2) :
    exec (.groupLimitShed grp amps) s = .next s :=
  (exec_groupLimitShed hdie hgrp).trans (congrArg Host.Outcome.next (if_pos hsum))

/-- Above 2.0 A the output picked trips first, and the rest goes on without it (R328). -/
theorem exec_groupLimitShed_sheds {x : Nat × F32} (hsum : 2 < ((shedCands s grp amps).map (fun x => x.2.rat)).sum)
    (hpick : shedPick (shedCands s grp amps) = some x) : exec (.groupLimitShed grp amps) s =
      .next ((s.trip x.1 2).shedLoop 7 ((shedCands s grp amps).filter (fun y => y.1 != x.1))) := by
  refine (exec_groupLimitShed hdie hgrp).trans (congrArg Host.Outcome.next ((if_neg (not_le.mpr hsum)).trans ?_))
  rw [hpick]

end

/-! ### FIELD_ACK -/

theorem fieldAckVerdict_acks {s : State} {h : Hdr} {chans live : U32} {groups aouts liveA : BitVec 8}
    (hg : groups.toNat < 16) (hroom : 6 ≤ h.room) : fieldAckVerdict h chans groups aouts live liveA s =
      { data := leRec [(4, (s.ackChans chans live).toNat), (1, (s.ackGroups groups).toNat),
          (1, (s.ackAouts aouts liveA).toNat)]
        act := fun t => t.fieldAcked chans groups aouts live liveA } :=
  if_neg (by simp; omega)

theorem map_tget_tmap {α β γ : Type} (t : Tab α) (f : Nat → α → β) (g : β → γ) (k : Nat) :
    (tget (tmap t f) k).map g = (tget t k).map (fun x => g (f k x)) := by
  rw [tget_tmap, Option.map_map]
  rfl

/-- What FIELD_ACK leaves of the latches of channels, groups and analog outputs (R336). -/
theorem fieldAcked_latches (s : State) (chans live : U32) (groups aouts liveA : BitVec 8) :
    (∀ c, (tget (s.fieldAcked chans groups aouts live liveA).fio.chans c).map (fun x => (x.latch, x.clearDue)) =
      (tget s.fio.chans c).map (fun x =>
        if chans.getLsbD c && !live.getLsbD c then (0#3, x.clearDue || x.latch != 0#3) else (x.latch, x.clearDue))) ∧
    (∀ g, (tget (s.fieldAcked chans groups aouts live liveA).fio.groups g).map (fun x => (x.state, x.recoverDue)) =
      (tget s.fio.groups g).map (fun x =>
        if groups.getLsbD g && x.state == 4 then (0, true) else (x.state, x.recoverDue))) ∧
    (∀ a, (tget (s.fieldAcked chans groups aouts live liveA).fio.aouts a).map (fun x => x.overload) =
      (tget s.fio.aouts a).map (fun x => if aouts.getLsbD a && !liveA.getLsbD a then false else x.overload)) := by
  refine ⟨fun c => ?_, fun g => ?_, fun a => ?_⟩
  · unfold State.fieldAcked
    rw [map_tget_tmap]
    refine congrFun (congrArg Option.map (funext fun x => ?_)) _
    split <;> rfl
  · unfold State.fieldAcked
    rw [map_tget_tmap]
    refine congrFun (congrArg Option.map (funext fun x => ?_)) _
    split <;> rfl
  · unfold State.fieldAcked
    rw [map_tget_tmap]
    refine congrFun (congrArg Option.map (funext fun x => ?_)) _
    split <;> rfl

/-! ### Test, mask and PWM -/

section
variable {s : State} {ch : Nat} {vOff vOn vfld amps : F32} (hdie : s.dieOn = true) (hch : ch < 32)
  (hmode : isOutMode (s.fio1 ch).mode = true)
include hdie hch hmode

theorem exec_outputDiagTest_on (hon : (s.fio1 ch).driven = true)
    (hlong : (s.fio1 ch).mode ≠ 5 ∨ longOff (s.fio1 ch) = false) : exec (.outputDiagTest ch vOff vOn vfld amps) s =
      .next (s.setFio ch (onTest (s.fio1 ch) (s.pn P.OUT_DIAG_EN ch) (s.pn P.ON_OPEN_MA ch) (s.sharedMasked ch) amps)) := by
  refine congrArg Host.Outcome.next ((if_pos (by simp [hdie, hch, hmode])).trans (if_pos ?_))
  rcases hlong with h | h <;> simp [hon, h]

theorem exec_outputDiagTest_off
    (hoff : (s.fio1 ch).driven = false ∨ ((s.fio1 ch).mode = 5 ∧ longOff (s.fio1 ch) = true)) :
    exec (.outputDiagTest ch vOff vOn vfld amps) s =
      .next (s.setFio ch (offTest (s.fio1 ch) (s.pn P.OUT_DIAG_EN ch) (s.sharedMasked ch) vOff vOn vfld)) := by
  refine congrArg Host.Outcome.next ((if_pos (by simp [hdie, hch, hmode])).trans (if_neg ?_))
  rcases hoff with h | ⟨h, hl⟩
  · simp [h]
  · simp [h, hl]

end

/-- A channel that follows its commands keeps all but its switch and its test counters (R329). -/
theorem driveCh_effect (s : State) (c : Nat) : s.driveCh c = { s with fio := (s.driveCh c).fio } ∧
    ((s.driveCh c).fio1 c).duty = (s.fio1 c).duty ∧ ((s.driveCh c).fio1 c).pwmHz = (s.fio1 c).pwmHz := by
  unfold State.driveCh
  dsimp only
  split
  · exact ⟨rfl, rfl, rfl⟩
  · exact ⟨rfl, by rw [fio1_setFio_same], by rw [fio1_setFio_same]⟩

/-- At a PWM period the newest frequency is in force, and a duty cycle only where the output may be driven (R326). -/
theorem exec_pwmPeriodBoundary {s : State} {ch : Nat} (hdie : s.dieOn = true) (hch : ch < 32)
    (hmode : (s.fio1 ch).mode = 5) : ∃ d, exec (.pwmPeriodBoundary ch) s =
      .next ((s.setFio ch { s.fio1 ch with duty := d, pwmHz := s.pn P.PWM_FREQ_HZ ch }).driveCh ch) ∧
    ((s.mayDrive = false ∨ grpCut (s.grp1 (grpOfCh ch)) = true ∨ (s.fio1 ch).latch ≠ 0#3 ∨
      (s.fio1 ch).clearDue = true) → d = F32.zero) := by
  refine ⟨_, congrArg Host.Outcome.next (if_pos (by simp [hdie, hch, hmode])), fun hnot => if_pos ?_⟩
  rcases hnot with h | h | h | h <;> simp [h]

/-! ### The die link -/

theorem exec_fieldLinkLoss {s : State} (hdie : s.dieOn = true) (hup : s.fio.linkUp = true) (hmiss : 8 ≤ s.fio.linkMiss) :
    ∃ t, exec .fieldLinkLoss s = .next t ∧
      t.fio = { s.fieldOff.fio with linkUp := false, linkGood := 0, linkLosses := s.fio.linkLosses + 1 } :=
  ⟨_, congrArg Host.Outcome.next (if_pos (by simp [hdie, hup, hmiss])), congrArg Prod.fst (fioPart_latchLocal _)⟩

theorem exec_fieldLinkRestore {s : State} (hdie : s.dieOn = true) (hdown : s.fio.linkUp = false)
    (hgood : 8 ≤ s.fio.linkGood) : ∃ t, exec .fieldLinkRestore s = .next t ∧
      t.fio = { (s.restartFilters (fun _ => true)).fio with linkUp := true } :=
  ⟨_, congrArg Host.Outcome.next (if_pos (by simp [hdie, hdown, hgood])), congrArg Prod.fst (fioPart_latchLocal _)⟩

/-- Settles O19: each row acts where its condition holds, as the lemma of the row says. -/
theorem fieldOutputsComplete : Obligations.FieldOutputsComplete := by
  refine ⟨fun ch s hdie hch hmode => ⟨fun hon => ?_, fun hcool => ?_⟩,
    fun grp amps s hdie hgrp => ⟨exec_groupLimitShed_within hdie hgrp, fun x => exec_groupLimitShed_sheds hdie hgrp⟩,
    fun h chans groups aouts live liveA s ha hg hroom => ?_,
    fun ch vOff vOn vfld amps s hdie hch hmode =>
      ⟨exec_outputDiagTest_on hdie hch hmode, exec_outputDiagTest_off hdie hch hmode⟩,
    fun s hmask hdue => ?_, fun ch s hdie hch hmode => ?_,
    fun a p s hdie ha => ⟨fun hr hp => ?_, fun hr hen => ?_⟩,
    fun s hdie => ⟨fun hup hmiss => ?_, fun hdown hgood => ?_⟩⟩
  case refine_1 =>
    exact ⟨_, congrArg Host.Outcome.next (if_pos (by simp [hdie, hch, hmode, hon])), trip_effect s ch 0⟩
  case refine_2 =>
    refine ⟨_, congrArg Host.Outcome.next (if_pos ?_), trip_effect s ch 1⟩
    simp only [hdie, hch, hmode, hcool, decide_true, Bool.not_false, Bool.and_self]
  case refine_3 =>
    have hs := silent_answered s fieldAckInfo h 0
      { data := leRec [(4, ((s.take h).ackChans chans live).toNat), (1, ((s.take h).ackGroups groups).toNat),
          (1, ((s.take h).ackAouts aouts liveA).toNat)] }
    have hcmd := command_eq (m := 0) ha (fieldAckVerdict_acks (s := s.take h) (chans := chans) (live := live)
      (aouts := aouts) (liveA := liveA) hg hroom)
    have hlatch := fieldAcked_latches (s.answered fieldAckInfo h 0
      { data := leRec [(4, ((s.take h).ackChans chans live).toNat), (1, ((s.take h).ackGroups groups).toNat),
          (1, ((s.take h).ackAouts aouts liveA).toNat)] }) chans live groups aouts liveA
    simp only [answered_fio] at hlatch
    exact ⟨_, congrArg Host.Outcome.next hcmd, silent_with_fio hs _, hlatch⟩
  case refine_4 => exact congrArg Host.Outcome.next (if_pos (by simp [hmask, hdue]))
  case refine_5 =>
    obtain ⟨d, hrow, hd⟩ := exec_pwmPeriodBoundary hdie hch hmode
    obtain ⟨h1, h2, h3⟩ := driveCh_effect (s.setFio ch { s.fio1 ch with duty := d, pwmHz := s.pn P.PWM_FREQ_HZ ch }) ch
    rw [fio1_setFio_same] at h2 h3
    exact ⟨_, hrow, h1, h3, fun hnot => h2.trans (hd hnot)⟩
  case refine_6 => exact congrArg Host.Outcome.next (if_pos (by rcases hp with h | h <;> simp [hdie, ha, hr, h]))
  case refine_7 => exact congrArg Host.Outcome.next (if_pos (by simp [hdie, ha, hr, hen]))
  case refine_8 =>
    obtain ⟨t, hrow, hfio⟩ := exec_fieldLinkLoss hdie hup hmiss
    exact ⟨t, hrow, congrArg FieldSt.linkUp hfio, congrArg FieldSt.linkLosses hfio, congrArg FieldSt.chans hfio,
      congrArg FieldSt.aouts hfio⟩
  case refine_9 =>
    obtain ⟨t, hrow, hfio⟩ := exec_fieldLinkRestore hdie hdown hgood
    refine ⟨t, hrow, congrArg FieldSt.linkUp hfio, congrArg FieldSt.chans hfio⟩

end Sys2Proof.Proofs

/-! PROOF. Group supplies, input validity, the input filters and the current shunts (O20). -/

namespace Sys2Proof.Proofs
open Sys2Proof.Machine Sys2Proof.Laws

/-! ### Supplies -/

section
variable {grp : Nat} {v : F32} {s : State} (hdie : s.dieOn = true) (hgrp : grp < 4)
include hdie hgrp

theorem exec_supplyWarn_down (hv : v.rat < s.pq P.GRP_WARN_V grp) :
    exec (.supplyWarnCross grp true v) s = .next (s.setGrp grp { s.grp1 grp with warn := true }) :=
  congrArg Host.Outcome.next (if_pos (by simp [hdie, hgrp, hv]))

theorem exec_supplyWarn_up (hv : s.pq P.GRP_WARN_V grp + 1/2 ≤ v.rat) :
    exec (.supplyWarnCross grp false v) s = .next (s.setGrp grp { s.grp1 grp with warn := false }) :=
  congrArg Host.Outcome.next (if_pos (by simpa [hdie, hgrp] using hv))

/-- The group in cut-off, with the recovery that is selected (R333). -/
def cutOffGroup (s : State) (grp : Nat) : FioGrp :=
  { s.grp1 grp with
    state := 2, cutoffBelow := true, cutoffs := (s.grp1 grp).cutoffs + 1, lastCutoff := s.epoch, recoverDue := false
    recovery := s.pn P.GRP_RECOVERY grp, holdoff := s.pn P.GRP_HOLDOFF_MS grp }

theorem exec_supplyCutoff (habove : (s.grp1 grp).cutoffBelow = false) (hv : v.rat < s.pq P.GRP_CUTOFF_V grp) :
    exec (.supplyCutoff grp v) s = .next ((s.setGrp grp (cutOffGroup s grp)).cutGroup grp) :=
  congrArg Host.Outcome.next (if_pos (by simp [hdie, hgrp, habove, hv]))

theorem exec_supplyCutoffUp (hbelow : (s.grp1 grp).cutoffBelow = true) (hv : s.pq P.GRP_CUTOFF_V grp + 1/2 ≤ v.rat) :
    exec (.supplyCutoffUp grp v) s = .next (s.setGrp grp { s.grp1 grp with
      cutoffBelow := false, holdFrom := s.epoch, state := if (s.grp1 grp).recovery = 1 then 3 else 4 }) :=
  congrArg Host.Outcome.next (if_pos (by simpa [hdie, hgrp, hbelow] using hv))

theorem exec_supplyHoldoffEnd (hst : (s.grp1 grp).state = 3)
    (hend : (s.grp1 grp).holdFrom + 8 * (s.grp1 grp).holdoff ≤ s.epoch) :
    exec (.supplyHoldoffEnd grp) s = .next (s.setGrp grp { s.grp1 grp with state := 0, recoverDue := true }) :=
  congrArg Host.Outcome.next (if_pos (by simp [hdie, hgrp, hst, hend]))

theorem exec_inputValidityLoss (hvalid : (s.grp1 grp).inputsValid = true) (hv : v.rat < s.pq P.GRP_VALID_V grp) :
    exec (.inputValidityLoss grp v) s =
      .next ((s.setGrp grp { s.grp1 grp with inputsValid := false }).restartFilters (fun c => grpOfCh c == grp)) :=
  congrArg Host.Outcome.next (if_pos (by simp [hdie, hgrp, hvalid, hv]))

theorem exec_inputValidityRestore (hvalid : (s.grp1 grp).inputsValid = false)
    (hv : s.pq P.GRP_VALID_V grp + 1/2 ≤ v.rat) : exec (.inputValidityRestore grp v) s =
      .next ((s.setGrp grp { s.grp1 grp with inputsValid := true }).restartFilters (fun c => grpOfCh c == grp)) :=
  congrArg Host.Outcome.next (if_pos (by simpa [hdie, hgrp, hvalid] using hv))

end

/-! ### The filter of an input -/

/-- The filter counts up and down between 0 and its limit, and the state changes at the ends (R322). -/
theorem filterStep_counts {n : Nat} (k : Nat) (state raw : Bool) (hn : n ≠ 0) :
    (filterStep n k state raw).1 = (if raw then min (k + 1) n else k - 1) ∧
    ((filterStep n k state raw).1 = n → (filterStep n k state raw).2 = true) ∧
    ((filterStep n k state raw).1 = 0 → (filterStep n k state raw).2 = false) := by
  unfold filterStep
  rw [if_neg hn]
  refine ⟨rfl, fun h => if_pos h, fun h => (if_neg fun hfull => hn (hfull.symm.trans h)).trans (if_pos h)⟩

theorem filterStep_off {n : Nat} (k : Nat) (state raw : Bool) (hn : n = 0) : (filterStep n k state raw).2 = raw := by
  rw [hn]
  rfl

/-- A channel's filter after one sample: its counter, its state, and a rising edge of a pulse input counted once
(R322, R323). -/
theorem filterSample_fio1 (s : State) (ch : Nat) (raw : Bool) (time : Nat) :
    let r := filterStep (s.pn P.FIO_FILTER_US ch) (s.fio1 ch).k (s.fio1 ch).state raw
    ((s.filterSample ch raw time).fio1 ch).k = r.1 ∧ ((s.filterSample ch raw time).fio1 ch).state = r.2 ∧
    ((s.filterSample ch raw time).fio1 ch).count = (if (s.fio1 ch).mode = 4 ∧
      ((s.filterSample ch raw time).fio1 ch).state = true ∧ (s.fio1 ch).state = false
      then ((s.fio1 ch).count + 1) % 16777216 else (s.fio1 ch).count) := by
  intro r
  have hst : ((s.filterSample ch raw time).fio1 ch).state = r.2 := by
    unfold State.filterSample
    dsimp only
    rw [fio1_setFio_same]
    split <;> rfl
  rw [hst]
  unfold State.filterSample
  dsimp only
  rw [fio1_setFio_same]
  by_cases hedge : (s.fio1 ch).mode = 4 ∧ r.2 = true ∧ (s.fio1 ch).state = false
  · rw [if_pos hedge, if_pos (by simpa [and_assoc] using hedge)]
    exact ⟨rfl, rfl, rfl⟩
  · rw [if_neg hedge, if_neg (by simpa [and_assoc] using hedge)]
    exact ⟨rfl, rfl, rfl⟩

/-- The sample that the comparator gives, or a free value where the thresholds leave it open (R321). -/
def sampleOf (s : State) (ch : Nat) (volts : F32) : Bool :=
  (inputSeen (s.fio1 ch).mode volts).getD (s.freshWord.getLsbD 0)

theorem exec_filterCounterStep {s : State} {ch time : Nat} {volts : F32} (hdie : s.dieOn = true) (hch : ch < 32)
    (hmode : isInMode (s.fio1 ch).mode = true) (hvalid : (s.grp1 (grpOfCh ch)).inputsValid = true) :
    ∃ n, exec (.filterCounterStep ch volts time) s =
        .next { s.filterSample ch (sampleOf s ch volts) time with free := n } ∧
      (inputSeen (s.fio1 ch).mode volts ≠ none → n = s.free) := by
  have hgo : (s.dieOn && decide (ch < 32) && isInMode (s.fio1 ch).mode && (s.grp1 (grpOfCh ch)).inputsValid) = true := by
    simp [hdie, hch, hmode, hvalid]
  have hrow : exec (.filterCounterStep ch volts time) s = _ := congrArg Host.Outcome.next (if_pos hgo)
  unfold sampleOf
  cases hseen : inputSeen (s.fio1 ch).mode volts with
  | some raw =>
    rw [hseen] at hrow
    exact ⟨s.free, hrow, fun _ => rfl⟩
  | none =>
    rw [hseen] at hrow
    exact ⟨s.free + 1, hrow, absurd rfl⟩

/-- Settles O20: each row acts where its condition holds; the filter by one step of its counter. -/
theorem fieldSuppliesComplete : Obligations.FieldSuppliesComplete := by
  refine ⟨fun grp v s hdie hgrp => ⟨exec_supplyWarn_down hdie hgrp, exec_supplyWarn_up hdie hgrp, fun habove hv => ?_,
      exec_supplyCutoffUp hdie hgrp, exec_supplyHoldoffEnd hdie hgrp, exec_inputValidityLoss hdie hgrp,
      exec_inputValidityRestore hdie hgrp⟩,
    fun ch volts time s hdie hch hmode hvalid => ?_, fun ain o s hdie ha hr => ?_⟩
  case refine_1 =>
    exact ⟨_, exec_supplyCutoff hdie hgrp habove hv, rfl, grp1_setGrp_same s grp _, rfl, rfl⟩
  case refine_2 =>
    intro n raw
    obtain ⟨m, hrow, hfree⟩ := exec_filterCounterStep (time := time) (volts := volts) hdie hch hmode hvalid
    obtain ⟨hk, hst, hcount⟩ := filterSample_fio1 s ch (sampleOf s ch volts) time
    refine ⟨_, hrow, rfl, hfree, fun hn => ?_, fun hn => ?_, ?_⟩
    · obtain ⟨h1, h2, h3⟩ := filterStep_counts (s.fio1 ch).k (s.fio1 ch).state (sampleOf s ch volts) hn
      exact ⟨hk.trans h1, fun h => hst.trans (h2 (hk.symm.trans h)), fun h => hst.trans (h3 (hk.symm.trans h))⟩
    · exact hst.trans (filterStep_off _ _ _ hn)
    · exact hcount
  case refine_3 => exact congrArg Host.Outcome.next (if_pos (by simp [hdie, ha, hr]))

end Sys2Proof.Proofs

/-! PROOF. The ends of a solve: published, without a plan, overrun or stopped (R126, R135, R137) (O49). -/

namespace Sys2Proof.Proofs
open Sys2Proof.Machine Sys2Proof.Laws

theorem PostsOnly.perc_eq {s t : State} (h : PostsOnly s t) : t.perc = s.perc := (congrArg State.perc h).trans rfl

/-- The end of a plan counts its outcome and takes flexibility calls off their list. -/
theorem endPlan_slv (s : State) (x : StagedPlan) (o : Nat) :
    ∃ w, (s.endPlan x o).slv = { (s.countOutcome o).slv with flexWaits := w } := by
  obtain ⟨w, m, -, h⟩ := endPlan_frame s x o
  exact ⟨w, h.slv_eq⟩

theorem endPlan_perc (s : State) (x : StagedPlan) (o : Nat) : (s.endPlan x o).perc = s.perc := by
  obtain ⟨w, m, -, h⟩ := endPlan_frame s x o
  exact h.perc_eq

/-- The plan in force, its predecessor and everything of the Percolator stand. -/
def LeavesForce (s t : State) : Prop :=
  t.slv.inForce = s.slv.inForce ∧ t.slv.prev = s.slv.prev ∧ t.perc = s.perc

theorem LeavesForce.refl (s : State) : LeavesForce s s := ⟨rfl, rfl, rfl⟩

theorem LeavesForce.trans {s t u : State} (hst : LeavesForce s t) (htu : LeavesForce t u) : LeavesForce s u := by
  obtain ⟨hf, hp, hc⟩ := hst
  obtain ⟨hf', hp', hc'⟩ := htu
  exact ⟨hf'.trans hf, hp'.trans hp, hc'.trans hc⟩

theorem leavesForce_foldl {α : Type} {f : State → α → State} (hf : ∀ a x, LeavesForce a (f a x)) (l : List α)
    (s : State) : LeavesForce s (l.foldl f s) := by
  induction l generalizing s with
  | nil => exact .refl s
  | cons x l ih => exact (hf s x).trans (ih (f s x))

/-- The reference plan of a model is the plan in force (R95). -/
theorem LeavesForce.refPlanFor {s t : State} (h : LeavesForce s t) (m : NetModel) : t.refPlanFor m = s.refPlanFor m := by
  obtain ⟨hf, -, -⟩ := h
  unfold State.refPlanFor
  rw [hf]

theorem endPlan_leavesForce (s : State) (x : StagedPlan) (o : Nat) : LeavesForce s (s.endPlan x o) := by
  obtain ⟨w, hslv⟩ := endPlan_slv s x o
  exact ⟨(congrArg SolveSt.inForce hslv).trans rfl, (congrArg SolveSt.prev hslv).trans rfl, endPlan_perc s x o⟩

theorem solveDone_leavesForce (s : State) : LeavesForce s s.solveDone := ⟨rfl, rfl, rfl⟩

theorem closeEdge_leavesForce (s : State) : LeavesForce s s.closeEdge := by
  rw [closeEdge_shape]
  exact ⟨rfl, rfl, rfl⟩

theorem stagePlan_leavesForce (s : State) (v : Solve) (p : Plan) (b : Nat) : LeavesForce s (s.stagePlan v p b) := by
  unfold State.stagePlan
  dsimp only
  split
  · exact endPlan_leavesForce _ _ _
  · split
    · exact endPlan_leavesForce _ _ _
    · exact leavesForce_foldl (fun a y => endPlan_leavesForce a y 2) _ _

theorem publish_leavesForce (s : State) (v : Solve) (r : SolveResult) : LeavesForce s (s.publish v r) := by
  have hend : ∀ x, LeavesForce s (s.solveDone.endPlan x 4) := fun x =>
    (solveDone_leavesForce s).trans (endPlan_leavesForce _ x 4)
  unfold State.publish
  split
  · exact .refl s
  · split
    · split
      · exact .refl s
      · exact hend _
    · split
      · split
        · exact .refl s
        · exact hend _
      · split
        · split
          · exact ((closeEdge_leavesForce s).trans (solveDone_leavesForce _)).trans (stagePlan_leavesForce _ v _ _)
          · exact .refl s
        · exact .refl s

/-! ### The three rows -/

theorem solvePublish_leavesForce (r : SolveResult) (s : State) :
    ∃ t, exec (.solvePublish r) s = .next t ∧ LeavesForce s t := by
  refine ⟨_, rfl, ?_⟩
  cases s.slv.running with
  | none => exact .refl s
  | some v =>
    dsimp only
    split
    · exact publish_leavesForce s v r
    · exact .refl s

/-- An overrun is nothing, or one more failure (R126, R137). -/
theorem solveOverrun_leavesForce (us : Nat) (r : SolveResult) (s : State) :
    ∃ t, exec (.solveOverrun us r) s = .next t ∧ LeavesForce s t ∧ (t = s ∨ t.slv.fails = min 65535 (s.slv.fails + 1)) := by
  refine ⟨_, rfl, ?_⟩
  cases s.slv.running with
  | none => exact ⟨.refl s, .inl rfl⟩
  | some v =>
    dsimp only
    split
    · obtain ⟨w, hslv⟩ := endPlan_slv s.solveDone (unpublished v r.status { r with timeUs := us }) 3
      exact ⟨(solveDone_leavesForce s).trans (endPlan_leavesForce _ _ 3), .inr (congrArg SolveSt.fails hslv)⟩
    · exact ⟨.refl s, .inl rfl⟩

theorem countOutcome_stopped_fails (s : State) (o : Nat) (h : o = 5 ∨ o = 6) :
    (s.countOutcome o).slv.fails = s.slv.fails := by
  rcases h with rfl | rfl <;> rfl

/-- A solve that a preemption or a cancel stopped is no failure (R137). -/
theorem solveStopped_leavesForce (us : Nat) (r : SolveResult) (s : State) :
    ∃ t, exec (.solveStopped us r) s = .next t ∧ LeavesForce s t ∧
      ∀ v, s.slv.running = some v → (v.stopReq = 5 ∨ v.stopReq = 6) → t.slv.fails = s.slv.fails := by
  refine ⟨_, rfl, ?_⟩
  cases hrun : s.slv.running with
  | none => exact ⟨.refl s, fun _ _ _ => rfl⟩
  | some v =>
    dsimp only
    split
    · obtain ⟨w, hslv⟩ := endPlan_slv s.solveDone (unpublished v 8 { r with timeUs := us }) v.stopReq
      refine ⟨(solveDone_leavesForce s).trans (endPlan_leavesForce _ _ _), fun v' hv hstop => ?_⟩
      cases hv
      exact (congrArg SolveSt.fails hslv).trans (countOutcome_stopped_fails s.solveDone v.stopReq hstop)
    · exact ⟨.refl s, fun _ _ _ => rfl⟩

/-- Settles O49: the end of a plan counts and posts, and nothing on the way there writes the plans in force. -/
theorem endedSolvesLeaveThePlanInForce : Obligations.EndedSolvesLeaveThePlanInForce := by
  unfold Obligations.EndedSolvesLeaveThePlanInForce
  refine ⟨fun r s => ?_, fun us r s => ?_, fun us r s => ?_⟩
  · obtain ⟨t, ht, h⟩ := solvePublish_leavesForce r s
    have href := h.refPlanFor
    obtain ⟨hf, hp, hc⟩ := h
    exact ⟨t, ht, hf, hp, hc, href⟩
  · obtain ⟨t, ht, h, hfails⟩ := solveOverrun_leavesForce us r s
    have href := h.refPlanFor
    obtain ⟨hf, hp, hc⟩ := h
    exact ⟨t, ht, hf, hp, hc, href, hfails⟩
  · obtain ⟨t, ht, h, hfails⟩ := solveStopped_leavesForce us r s
    have href := h.refPlanFor
    obtain ⟨hf, hp, hc⟩ := h
    exact ⟨t, ht, hf, hp, hc, href, hfails⟩

end Sys2Proof.Proofs

/-! PROOF. The publication of a plan, the ends without one, and the plan boundary (R125, R126, R133 to R137) (O30). -/

namespace Sys2Proof.Proofs
open Sys2Proof.Machine Sys2Proof.Laws

/-! ### Publication (R125, R136) -/

theorem solvePublish_running {v : Solve} {s : State} (r : SolveResult) (hrun : s.slv.running = some v)
    (hon : s.solveOn = true) : exec (.solvePublish r) s = .next (s.publish v r) := by
  show execSolvePublish r s = _
  unfold execSolvePublish
  rw [hrun]
  exact congrArg Host.Outcome.next (if_pos hon)

/-- The plan of a cadence solve, a fast re-plan or the start-up solve is staged beside the others. -/
theorem stagePlan_joins (s : State) (v : Solve) (p : Plan) (b : Nat) (hcan : v.cancelAfter = false)
    (hcmd : v.trigger ≠ 2) (hact : v.trigger ≠ 4) :
    s.stagePlan v p b = { s with
      slv.nextPlanId := if 2 ^ 32 ≤ s.slv.nextPlanId + 1 then 1 else s.slv.nextPlanId + 1
      slv.staged := s.slv.staged ++ [{ plan := { p with planId := s.slv.nextPlanId }, trigger := v.trigger
                                       flexMask := v.flexMask, buf := b, act := false }] } := by
  unfold State.stagePlan
  dsimp only
  rw [if_neg (Bool.eq_false_iff.mp hcan), if_neg (by simp [hact]), if_neg hcmd, if_neg hcmd, beq_false_of_ne hact]
  rfl

/-- A plan that the rules admit, within its budget and before its horizon start, is staged (R125). -/
theorem publish_admitted (s : State) (v : Solve) (r : SolveResult) {b : Nat} (hstop : v.stopReq ≠ 5)
    (hmiss : inputMissing v.inputs = false) (h5 : r.status ≠ 5) (h7 : r.status ≠ 7) (hbuf : s.freeBuf = some b)
    (htime : s.solveTime v r.timeUs = true) (hadm : planAdmitted v r = true) (hbud : r.timeUs ≤ v.budget * 1000)
    (hstart : s.epoch < v.hstart) : s.publish v r = s.closeEdge.solveDone.stagePlan v (planWith v r) b := by
  unfold State.publish
  rw [if_neg (by simp [hstop, htime]), if_neg (Bool.eq_false_iff.mp hmiss), if_neg (by simp [h5, h7]), hbuf]
  exact if_pos (by simp [hadm, hbud, hstart])

/-- A solve whose series are missing, or that is infeasible or failed, ends without a plan (R90, R112, R126). -/
theorem publish_fails (s : State) (v : Solve) (r : SolveResult) (hstop : v.stopReq ≠ 5)
    (htime : s.solveTime v r.timeUs = true) (hpub : v.publishing = false)
    (hend : inputMissing v.inputs = true ∨ (r.status = 5 ∧ r.traj.all F32.isFin = true) ∨
      (r.status = 7 ∧ r.traj.all F32.isFin = false)) : ∃ x, s.publish v r = s.solveDone.endPlan x 4 := by
  have hgo : ¬ (v.stopReq = 5 || !s.solveTime v r.timeUs) = true := by simp [hstop, htime]
  unfold State.publish
  rw [if_neg hgo]
  by_cases hmiss : inputMissing v.inputs = true
  · exact ⟨_, (if_pos hmiss).trans (if_neg (Bool.eq_false_iff.mp hpub))⟩
  · rw [if_neg hmiss]
    rcases hend with hm | ⟨hst, hfin⟩ | ⟨hst, hfin⟩
    · exact absurd hm hmiss
    · exact ⟨_, (if_pos (.inl hst)).trans (if_neg (by simp only [hpub, hst, hfin]; decide))⟩
    · exact ⟨_, (if_pos (.inr hst)).trans (if_neg (by simp only [hpub, hst, hfin]; decide))⟩

/-! ### Plans that are discarded (R133) -/

theorem endPlan_staged (s : State) (x : StagedPlan) (o : Nat) : (s.endPlan x o).slv.staged = s.slv.staged := by
  obtain ⟨w, h⟩ := endPlan_slv s x o
  exact (congrArg SolveSt.staged h).trans rfl

theorem foldl_endPlan_staged (l : List StagedPlan) (o : Nat) (s : State) :
    (l.foldl (fun a x => a.endPlan x o) s).slv.staged = s.slv.staged := by
  induction l generalizing s with
  | nil => rfl
  | cons x l ih => exact (ih _).trans (endPlan_staged s x o)

theorem discardPlans_staged (s : State) (f : StagedPlan → Bool) (o : Nat) :
    (s.discardPlans f o).slv.staged = s.slv.staged.filter (fun x => !f x) :=
  (foldl_endPlan_staged _ o _).trans rfl

theorem discardPlans_none {s : State} {f : StagedPlan → Bool} (o : Nat) (h : ∀ x ∈ s.slv.staged, f x = false) :
    s.discardPlans f o = s := by
  unfold State.discardPlans
  dsimp only
  rw [List.filter_eq_nil_iff.mpr fun x hx => Bool.eq_false_iff.mp (h x hx),
    List.filter_eq_self.mpr fun x hx => by rw [h x hx]; rfl]
  rfl

theorem discardPlans_empty {s : State} (f : StagedPlan → Bool) (o : Nat) (h : s.slv.staged = []) :
    s.discardPlans f o = s :=
  discardPlans_none o fun x hx => by rw [h] at hx; exact absurd hx List.not_mem_nil

/-- One plan alone is discarded: it ends with the outcome, on the state without it. -/
theorem discardPlans_only {s : State} {f : StagedPlan → Bool} {x : StagedPlan} (o : Nat) (h : s.slv.staged = [x])
    (hx : f x = true) : s.discardPlans f o = ({ s with slv.staged := [] } : State).endPlan x o := by
  unfold State.discardPlans
  simp only [h, List.filter_cons, List.filter_nil, hx, if_true, List.foldl_cons, List.foldl_nil, Bool.not_true]
  rfl

/-! ### The plan boundary (R133) -/

theorem planBoundary_judges {s : State} (hon : s.solveOn = true) (hord : s.order ≤ 4) (hst : s.slv.staged ≠ []) :
    exec .planBoundary s = .next (s.atOrder 4).judgePlans :=
  congrArg Host.Outcome.next (if_pos (by simp [hon, State.orderOk, hord, hst]))

theorem judgePlans_epoch (s : State) : s.judgePlans.epoch = s.epoch :=
  congrArg Prod.snd (orderPart_judgePlans s)

/-- No candidate stays staged: the last thing that the procedure does is to discard those that are left. -/
theorem judgePlans_staged (s : State) : ∀ x ∈ s.judgePlans.slv.staged, s.epoch < x.plan.hstart := by
  obtain ⟨u, hu⟩ : ∃ u : State, s.judgePlans = u.discardPlans u.isCand 2 := ⟨_, rfl⟩
  have hepoch : u.epoch = s.epoch := by
    rw [← judgePlans_epoch s, hu]
    exact (congrArg Prod.snd (orderPart_discardPlans u u.isCand 2)).symm
  intro x hx
  rw [hu, discardPlans_staged] at hx
  obtain ⟨-, hcand⟩ := List.mem_filter.mp hx
  rw [← hepoch]
  simpa [State.isCand] using hcand

/-- A candidate alone among the staged plans, newer than the plan in force and on the model of this tick. -/
structure LoneCandidate (s : State) (x : StagedPlan) : Prop where
  staged : s.slv.staged = [x]
  noAct : x.act = false
  model : (x.plan.modelKey, x.plan.modelSerial) = s.modelAfter
  due : x.plan.hstart ≤ s.epoch
  newer : ∀ p, s.slv.inForce = some p → p.solveStart < x.plan.solveStart

/-- The verdict on a lone candidate depends on its quality alone (R133). -/
def judgeLone (s : State) (x : StagedPlan) : State :=
  if s.planGood x.plan then s.takePlan x else s.discardPlans (fun y => y.plan.planId == x.plan.planId) 1

theorem LoneCandidate.judge {s : State} {x : StagedPlan} (h : LoneCandidate s x) :
    s.judgePlans = (judgeLone s x).discardPlans (judgeLone s x).isCand 2 := by
  have hgone : s.discardPlans s.modelGone 7 = s := discardPlans_none 7 fun y hy => by
    rw [h.staged, List.mem_singleton] at hy
    rw [hy]
    simp [State.modelGone, h.model]
  have hbest : s.bestPlan = some x := by
    unfold State.bestPlan
    rw [h.staged, List.filter_cons, if_pos (by simp [State.isCand, h.due])]
    rfl
  unfold State.judgePlans
  rw [hgone]
  dsimp only
  rw [hbest]
  dsimp only
  cases hforce : s.slv.inForce with
  | none => rfl
  | some p =>
    have hnew : ¬ decide (x.plan.solveStart ≤ p.solveStart) = true := by simp [h.newer p hforce]
    dsimp only
    rw [if_neg hnew]
    rfl

/-- The solve state in which a plan has taken effect (R133, R137). -/
def takenSlv (s : State) (x : StagedPlan) : SolveSt :=
  { s.slv with
    staged := s.slv.staged.filter (fun y => y.plan.planId != x.plan.planId)
    prev := s.slv.inForce, prevBuf := s.slv.inForceBuf, inForce := some x.plan, inForceBuf := x.buf
    fails := 0, stale := false, startupDone := true, lastBoundary := s.epoch }

/-- A plan that brings no model takes effect, and where it was staged alone nothing is left. -/
theorem takePlan_slv {s : State} {x : StagedPlan} (hact : x.act = false) (hst : s.slv.staged = [x]) :
    ∃ w, (s.takePlan x).slv = { takenSlv s x with flexWaits := w } ∧ (s.takePlan x).slv.staged = [] := by
  let u : State := ({ s with slv := takenSlv s x } : State).applyCal.applyService x.plan.solveStart
  have hu : (u.auditApplied 0).slv = takenSlv s x :=
    congrArg Prod.fst ((slvPart_auditApplied u 0).trans ((slvPart_applyService _ _).trans (slvPart_applyCal _)))
  have hnone : (takenSlv s x).staged = [] := by
    show s.slv.staged.filter _ = []
    rw [hst]
    simp
  obtain ⟨w, hend⟩ := endPlan_slv (u.auditApplied 0) x 0
  have hcount : ((u.auditApplied 0).countOutcome 0).slv = (u.auditApplied 0).slv := rfl
  rw [hcount, hu] at hend
  have hempty : ((u.auditApplied 0).endPlan x 0).slv.staged = [] := (congrArg SolveSt.staged hend).trans hnone
  have htake : s.takePlan x = (u.auditApplied 0).endPlan x 0 := by
    refine Eq.trans ?_ (discardPlans_empty (fun y => decide (y.plan.solveStart < x.plan.solveStart)) 2 hempty)
    unfold State.takePlan
    dsimp only
    rw [if_neg (Bool.eq_false_iff.mp hact)]
    rfl
  rw [htake]
  exact ⟨w, hend, hempty⟩

theorem LoneCandidate.taken {s : State} {x : StagedPlan} (h : LoneCandidate s x) (hgood : s.planGood x.plan = true) :
    ∃ w, s.judgePlans.slv = { takenSlv s x with flexWaits := w } ∧ s.judgePlans.slv.staged = [] := by
  obtain ⟨w, hslv, hnone⟩ := takePlan_slv h.noAct h.staged
  have hlone : judgeLone s x = s.takePlan x := if_pos hgood
  rw [h.judge, hlone, discardPlans_empty _ 2 hnone]
  exact ⟨w, hslv, hnone⟩

theorem LoneCandidate.refused {s : State} {x : StagedPlan} (h : LoneCandidate s x) (hbad : s.planGood x.plan = false) :
    ∃ w, s.judgePlans.slv =
      { (({ s with slv.staged := [] } : State).countOutcome 1).slv with flexWaits := w } := by
  have hlone : judgeLone s x = ({ s with slv.staged := [] } : State).endPlan x 1 :=
    (if_neg (Bool.eq_false_iff.mp hbad)).trans (discardPlans_only 1 h.staged (beq_self_eq_true _))
  have hnone : (judgeLone s x).slv.staged = [] := by
    rw [hlone]
    exact endPlan_staged _ x 1
  rw [h.judge, discardPlans_empty _ 2 hnone, hlone]
  exact endPlan_slv _ x 1

/-! ### The obligation -/

section
variable {v : Solve} {s : State} (hrun : s.slv.running = some v) (hon : s.solveOn = true)
include hrun hon

theorem solveOverrun_running (r : SolveResult) (us : Nat) (hdue : v.start + 8 * v.budget ≤ s.epoch)
    (htime : s.solveTime v us = true) (h1 : 1 ≤ r.status) (h4 : r.status ≤ 4) :
    exec (.solveOverrun us r) s =
      .next (s.solveDone.endPlan (unpublished v r.status { r with timeUs := us }) 3) := by
  show execSolveOverrun us r s = _
  unfold execSolveOverrun
  rw [hrun]
  exact congrArg Host.Outcome.next (if_pos (by simp [hon, hdue, htime, h1, h4]))

theorem solveStopped_running (r : SolveResult) (us : Nat) (hstop : v.stopReq = 5 ∨ v.stopReq = 6)
    (hpub : v.publishing = false) (htime : s.solveTime v us = true) :
    exec (.solveStopped us r) s =
      .next (s.solveDone.endPlan (unpublished v 8 { r with timeUs := us }) v.stopReq) := by
  have hne : v.stopReq ≠ 0 := by omega
  show execSolveStopped us r s = _
  unfold execSolveStopped
  rw [hrun]
  exact congrArg Host.Outcome.next (if_pos (by simp [hon, hne, hpub, htime]))

end

/-- Settles O30: the branches of `State.publish` and of the boundary's procedure, each with the counters of its end. -/
theorem plansComplete : Obligations.PlansComplete := by
  unfold Obligations.PlansComplete
  refine ⟨fun v r s hrun hon => ⟨?_, ?_, ?_, ?_⟩, fun s hon hord hst => ?_,
    fun x s hon hord hst hact hmodel hdue hnew => ⟨fun hgood => ?_, fun hbad => ?_⟩⟩
  case refine_1 =>
    intro b hstop hmiss h5 h7 hbuf htime hadm hbud hstart hcan hcmd hact
    refine ⟨_, solvePublish_running r hrun hon, ?_⟩
    rw [publish_admitted s v r hstop hmiss h5 h7 hbuf htime hadm hbud hstart, closeEdge_shape s,
      stagePlan_joins _ v _ b hcan hcmd hact]
    exact ⟨rfl, rfl, rfl, rfl, rfl, rfl⟩
  case refine_2 =>
    intro hstop htime hpub hend
    obtain ⟨x, hx⟩ := publish_fails s v r hstop htime hpub hend
    obtain ⟨w, hslv⟩ := endPlan_slv s.solveDone x 4
    refine ⟨_, solvePublish_running r hrun hon, ?_⟩
    rw [hx, hslv]
    exact ⟨rfl, rfl, rfl, rfl, rfl, rfl⟩
  case refine_3 =>
    intro us hdue htime h1 h4
    obtain ⟨w, hslv⟩ := endPlan_slv s.solveDone (unpublished v r.status { r with timeUs := us }) 3
    refine ⟨_, solveOverrun_running hrun hon r us hdue htime h1 h4, ?_⟩
    rw [hslv]
    exact ⟨rfl, rfl, rfl, rfl, rfl, rfl⟩
  case refine_4 =>
    intro us hstop hpub htime
    obtain ⟨w, hslv⟩ := endPlan_slv s.solveDone (unpublished v 8 { r with timeUs := us }) v.stopReq
    refine ⟨_, solveStopped_running hrun hon r us hstop hpub htime, ?_⟩
    rw [hslv]
    exact ⟨rfl, rfl, rfl, rfl, countOutcome_stopped_fails s.solveDone v.stopReq hstop⟩
  case refine_5 =>
    exact ⟨_, planBoundary_judges hon hord hst, judgePlans_staged (s.atOrder 4)⟩
  case refine_6 =>
    have hlone : LoneCandidate (s.atOrder 4) x := ⟨hst, hact, hmodel, hdue, hnew⟩
    obtain ⟨w, hslv, hnone⟩ := hlone.taken hgood
    refine ⟨_, planBoundary_judges hon hord (by simp [hst]), ?_, ?_, ?_, ?_, ?_, hnone⟩ <;> rw [hslv] <;> rfl
  case refine_7 =>
    have hlone : LoneCandidate (s.atOrder 4) x := ⟨hst, hact, hmodel, hdue, hnew⟩
    obtain ⟨w, hslv⟩ := hlone.refused hbad
    refine ⟨_, planBoundary_judges hon hord (by simp [hst]), ?_⟩
    rw [hslv]
    exact ⟨rfl, rfl, rfl, rfl⟩

end Sys2Proof.Proofs

/-! PROOF. Model loads and activations, the service state and the input series (R68 to R76, R87, R563) (O28). -/

namespace Sys2Proof.Proofs
open Sys2Proof.Machine Sys2Proof.Laws

/-! ### The banks of the model -/

/-- The model data without a staged model (R68). -/
def noStaged (m : ModelSt) : ModelSt :=
  { m with
    staged := false, image := [], tried := false
    bankA := if m.activeB then none else m.bankA
    bankB := if m.activeB then m.bankB else none }

/-- The model data with a model staged in the inactive bank (R68). -/
def withStaged (m : ModelSt) (b : List Byte) (x : NetModel) : ModelSt :=
  { m with
    staged := true, image := b, tried := false
    bankA := if m.activeB then some x else m.bankA
    bankB := if m.activeB then m.bankB else some x }

theorem dropStagedModel_eq (s : State) : s.dropStagedModel = { s with model := noStaged s.model } := rfl

theorem stageModel_eq (s : State) (b : List Byte) (x : NetModel) :
    s.stageModel b x = { s with model := withStaged s.model b x } := rfl

/-- The banks and the marks that say what is active and what is staged are the same. -/
def SameBanks (m m' : ModelSt) : Prop :=
  m'.bankA = m.bankA ∧ m'.bankB = m.bankB ∧ m'.activeB = m.activeB ∧ m'.hasActive = m.hasActive ∧ m'.staged = m.staged

theorem activeModel_of_sameBanks {s t : State} (h : SameBanks s.model t.model) : t.activeModel = s.activeModel := by
  obtain ⟨ha, hb, hact, hhas, -⟩ := h
  simp only [State.activeModel, State.modelBank, ha, hb, hact, hhas]

theorem stagedModel_of_sameBanks {s t : State} (h : SameBanks s.model t.model) : t.stagedModel = s.stagedModel := by
  obtain ⟨ha, hb, hact, -, hst⟩ := h
  simp only [State.stagedModel, State.modelBank, ha, hb, hact, hst]

theorem sameBanks_of_eq {m m' : ModelSt} (h : m' = m) : SameBanks m m' := by
  rw [h]
  exact ⟨rfl, rfl, rfl, rfl, rfl⟩

theorem activeModel_noStaged (s : State) : ({ s with model := noStaged s.model } : State).activeModel = s.activeModel := by
  unfold State.activeModel State.modelBank noStaged
  dsimp only
  cases s.model.activeB <;> rfl

theorem activeModel_withStaged (s : State) (b : List Byte) (x : NetModel) :
    ({ s with model := withStaged s.model b x } : State).activeModel = s.activeModel := by
  unfold State.activeModel State.modelBank withStaged
  dsimp only
  cases s.model.activeB <;> rfl

theorem stagedModel_withStaged (s : State) (b : List Byte) (x : NetModel) :
    ({ s with model := withStaged s.model b x } : State).stagedModel = some x := by
  unfold State.stagedModel State.modelBank withStaged
  dsimp only
  cases s.model.activeB <;> rfl

theorem progress_shape (s : State) (h : U32) (p : Nat) : ∃ hs, s.progress h p = { s with host.handles := hs } := by
  unfold State.progress
  split
  · exact ⟨_, rfl⟩
  · exact ⟨s.host.handles, rfl⟩

/-! ### MODEL_LOAD and MODEL_DISCARD (R68) -/

/-- The operation of a load just accepted. -/
def loadOp (n tag : U32) (seq : Nat) : ModelOp := { kind := 1, handle := n, tag := tag, seq := seq }

theorem modelLoad_effect {h : Hdr} {n : U32} {s : State} (ha : s.admitted modelLoadInfo h = true)
    (hop : s.model.op = none) (hn : s.nextHandle = some n) :
    ∃ t, exec (.modelLoad h) s = .next t ∧
      t.model = { noStaged s.model with op := some (loadOp n h.tag s.host.accSeq) } ∧
      Silent { s with model := t.model, host.handles := t.host.handles, host.freeList := t.host.freeList
                      host.accSeq := s.host.accSeq + 1 } t := by
  have hv : modelLoadVerdict h (s.take h) = (s.take h).long h 0x0C01 (fun n t =>
      { t.dropStagedModel.progress n 0 with
        model.op := some { kind := 1, handle := n, tag := h.tag, seq := t.host.accSeq }
        host.accSeq := t.host.accSeq + 1 }) := if_neg (by simp [hop])
  obtain ⟨u, hs, fr, hu, hcmd⟩ := command_long s modelLoadInfo h 0 _ _ _ n ha hn hv
  refine ⟨_, congrArg Host.Outcome.next hcmd, ?_⟩
  rw [dropStagedModel_eq]
  obtain ⟨hs', hprog⟩ := progress_shape
    { ({ u with host.handles := hs, host.freeList := fr } : State) with model := noStaged u.model } n 0
  have hm : u.model = s.model := silent_model hu
  have hseq : u.host.accSeq = s.host.accSeq := silent_host_accSeq hu
  dsimp only at hprog ⊢
  rw [hprog]
  dsimp only
  rw [hseq]
  refine ⟨by rw [hm]; rfl, silent_handles_with_model hu _ _ _ _⟩

/-- The act of MODEL_DISCARD. -/
theorem modelDiscard_act (u : State) : ∃ m, (if u.model.staged then u.dropStagedModel else u) = { u with model := m } ∧
    (u.model.staged = true ∧ m = noStaged u.model ∨ u.model.staged = false ∧ m = u.model) := by
  cases hst : u.model.staged with
  | true => exact ⟨noStaged u.model, rfl, .inl ⟨rfl, rfl⟩⟩
  | false => exact ⟨u.model, rfl, .inr ⟨rfl, rfl⟩⟩

theorem modelDiscard_effect {h : Hdr} {s : State} (ha : s.admitted modelDiscardInfo h = true) (hop : s.model.op = none) :
    ∃ t, exec (.modelDiscard h) s = .next t ∧ Silent { s with model := t.model } t ∧
      (s.model.staged = true ∧ t.model = noStaged s.model ∨ s.model.staged = false ∧ t.model = s.model) := by
  have hv : modelDiscardVerdict (s.take h) = { act := fun t => if t.model.staged then t.dropStagedModel else t } :=
    if_neg (by simp [hop])
  have hcmd := command_acts (m := 0) ha hv
  have hu : Silent s (s.answered modelDiscardInfo h 0 {}) := silent_answered _ _ _ _ _
  obtain ⟨m, hact, hm⟩ := modelDiscard_act (s.answered modelDiscardInfo h 0 {})
  rw [answered_model] at hm
  exact ⟨_, congrArg Host.Outcome.next (hcmd.trans hact), silent_with_model hu m, hm⟩

/-! ### The end of a load (R69, R70) -/

/-- The model data once a load has ended with its failures. -/
def loadedModel (m : ModelSt) (fails : List VFail) (bytes : List Byte) : ModelSt :=
  let m1 : ModelSt := { m with op := none, report := fails.take 256, reportCount := fails.length }
  if fails.isEmpty then withStaged m1 bytes (imgModel bytes) else noStaged m1

theorem modelLoadEnd_model (s : State) (h : U32) (bytes : List Byte) :
    (s.modelLoadEnd h bytes).model = loadedModel s.model (s.modelLoadFails bytes) bytes := by
  unfold State.modelLoadEnd loadedModel
  dsimp only
  rw [(complete_postsOnly _ _ _ _ _).model_eq]
  split <;> rfl

theorem modelLoadDone_ends {bytes : List Byte} {o : ModelOp} {s : State} (hr : s.ready = true)
    (hop : s.model.op = some o) (hk : o.kind = 1) :
    exec (.modelLoadDone bytes) s = .next (s.modelLoadEnd o.handle bytes) := by
  show execModelLoadDone bytes s = _
  unfold execModelLoadDone
  rw [hop]
  exact congrArg Host.Outcome.next (if_pos (by simp [hr, hk]))

section
variable {s t : State} {fails : List VFail} {bytes : List Byte} (ht : t.model = loadedModel s.model fails bytes)
include ht

theorem loaded_counts : t.model.op = none ∧ t.model.reportCount = fails.length ∧ t.model.report = fails.take 256 := by
  rw [ht]
  unfold loadedModel
  dsimp only
  split <;> exact ⟨rfl, rfl, rfl⟩

theorem loaded_active : t.activeModel = s.activeModel := by
  let u : State := { s with model := { s.model with op := none, report := fails.take 256, reportCount := fails.length } }
  have hu : u.activeModel = s.activeModel := rfl
  by_cases hok : fails.isEmpty = true
  · have hm : t.model = withStaged u.model bytes (imgModel bytes) := ht.trans (if_pos hok)
    exact ((activeModel_of_sameBanks (s := { u with model := withStaged u.model bytes (imgModel bytes) })
      (sameBanks_of_eq hm)).trans (activeModel_withStaged u _ _)).trans hu
  · have hm : t.model = noStaged u.model := ht.trans (if_neg hok)
    exact ((activeModel_of_sameBanks (s := { u with model := noStaged u.model })
      (sameBanks_of_eq hm)).trans (activeModel_noStaged u)).trans hu

theorem loaded_staged (hok : fails = []) : t.stagedModel = some (imgModel bytes) := by
  let u : State := { s with model := { s.model with op := none, report := fails.take 256, reportCount := fails.length } }
  have hm : t.model = withStaged u.model bytes (imgModel bytes) := ht.trans (if_pos (by rw [hok]; rfl))
  exact (stagedModel_of_sameBanks (s := { u with model := withStaged u.model bytes (imgModel bytes) })
    (sameBanks_of_eq hm)).trans (stagedModel_withStaged u _ _)

theorem failed_not_staged (hbad : fails ≠ []) : t.stagedModel = none := by
  have hm : t.model.staged = false := by
    rw [ht]
    unfold loadedModel
    dsimp only
    rw [if_neg (by simp [hbad])]
    rfl
  exact if_neg (Bool.eq_false_iff.mp hm)

end

/-! ### MODEL_ACTIVATE (R73) -/

theorem solveHandle_shape (s : State) :
    ∃ hs fr, s.solveHandle.2 = { s with host.handles := hs, host.freeList := fr } := by
  unfold State.solveHandle
  split
  · exact openHandle_shape _ _ _ _ _
  · exact ⟨s.host.handles, s.host.freeList, rfl⟩

/-- The checks of an activation read no handle and nothing that answering writes. -/
theorem activateCode_silent {s u : State} (h : Silent s u) (hs : Tab HandleEnt) (fr : List Nat) (m : NetModel) :
    ({ u with host.handles := hs, host.freeList := fr } : State).activateCode m = s.activateCode m := by
  rw [h.rest]
  rfl

/-- The operation of an activation just accepted. -/
def actOp (n tag : U32) (seq : Nat) (keep : Bool) (k : U32) : ModelOp :=
  { kind := 2, handle := n, tag := tag, seq := seq, keepCal := keep, solveHandle := k }

/-- The model data of an activation just accepted. -/
def openActivation (m : ModelSt) (epoch : Nat) (o : ModelOp) : ModelSt :=
  { m with
    op := some o
    openNote := some (o.handle, o.tag)
    tried := true
    serviceStaged := m.serviceStaged.map (fun x => if x.2.2 = 0 then (x.1, x.2.1, epoch) else x) }

theorem endActivation_op {s : State} {o : ModelOp} (status code : Nat) (hop : s.model.op = some o) (hk : o.kind = 2) :
    (s.endActivation status code).model = noActivation s.model := by
  unfold State.endActivation
  rw [hop]
  dsimp only
  rw [if_pos hk]
  exact (complete_postsOnly _ _ _ _ _).model_eq

theorem endPlan_model (s : State) (x : StagedPlan) (o : Nat) :
    (s.endPlan x o).model = s.model ∨ (s.endPlan x o).model = noActivation s.model := by
  obtain ⟨w, m, hm, h⟩ := endPlan_frame s x o
  rw [h.model_eq]
  exact hm

theorem beginActivation_passes {s : State} {m : NetModel} (n tag : U32) (keep : Bool) (hc : s.activateCode m = 0) :
    (s.beginActivation n tag keep m).model =
      openActivation s.model s.epoch (actOp n tag s.host.accSeq keep s.solveHandle.1) := by
  obtain ⟨hs, fr, hshape⟩ := solveHandle_shape s
  unfold State.beginActivation
  dsimp only
  rw [if_pos hc, hshape]
  rfl

/-- An activation whose checks fail ends at once, with its solve. -/
theorem beginActivation_fails {s : State} {m : NetModel} (n tag : U32) (keep : Bool) (hc : s.activateCode m ≠ 0) :
    (s.beginActivation n tag keep m).model =
      noActivation (openActivation s.model s.epoch (actOp n tag s.host.accSeq keep s.solveHandle.1)) := by
  obtain ⟨hs, fr, hshape⟩ := solveHandle_shape s
  unfold State.beginActivation
  dsimp only
  rw [if_neg hc, hshape]
  refine (endPlan_model _ _ 5).elim (fun h => h.trans ?_) (fun h => h.trans ?_) <;>
  · rw [endActivation_op _ _ rfl rfl]
    rfl

theorem modelActivate_effect {h : Hdr} {m : NetModel} {n : U32} {s : State} (keep : Bool)
    (ha : s.admitted modelActivateInfo h = true) (hop : s.model.op = none) (hst : s.stagedModel = some m)
    (hfree : 2 ≤ s.host.freeList.length) (hn : s.nextHandle = some n) :
    ∃ t k, exec (.modelActivate h keep) s = .next t ∧
      (s.activateCode m = 0 → t.model = openActivation s.model s.epoch (actOp n h.tag s.host.accSeq keep k)) ∧
      (s.activateCode m ≠ 0 →
        t.model = noActivation (openActivation s.model s.epoch (actOp n h.tag s.host.accSeq keep k))) := by
  have hstag : (s.take h).stagedModel = some m :=
    (stagedModel_of_sameBanks (sameBanks_of_eq (take_model s h))).trans hst
  have hv : modelActivateVerdict h keep (s.take h) =
      (s.take h).long h 0x0C02 (fun n t => t.beginActivation n h.tag keep m) := by
    unfold modelActivateVerdict
    rw [if_neg (by simp [hop]), hstag]
    exact if_neg (by simp only [take_host_freeList]; omega)
  obtain ⟨u, hs, fr, hu, hcmd⟩ := command_long s modelActivateInfo h 0 _ _ _ n ha hn hv
  have hcode := activateCode_silent hu hs fr m
  have hm : u.model = s.model := silent_model hu
  have hseq : u.host.accSeq = s.host.accSeq := silent_host_accSeq hu
  have hep : u.epoch = s.epoch := silent_epoch hu
  refine ⟨_, ({ u with host.handles := hs, host.freeList := fr } : State).solveHandle.1,
    congrArg Host.Outcome.next hcmd, fun hc => ?_, fun hc => ?_⟩
  · rw [beginActivation_passes n h.tag keep (hcode.trans hc)]
    dsimp only
    rw [hm, hseq, hep]
  · rw [beginActivation_fails n h.tag keep (fun h0 => hc (hcode.symm.trans h0))]
    dsimp only
    rw [hm, hseq, hep]

/-! ### Service state and series (R76, R87, R563) -/

/-- The act of ELEMENT_SERVICE: the change replaces one that no solve has read. -/
def stageService (e : Nat) (on : Bool) (t : State) : State :=
  { t with model.serviceStaged := t.model.serviceStaged.filter (fun x => x.1 != e || x.2.2 != 0) ++ [(e, !on, 0)] }

theorem elementService_verdict {e : Nat} (on : Bool) {m : NetModel} {s : State} (hm : s.activeModel = some m)
    (hty : serviceTypes.contains (idType e) = true) (hel : (findElem m e).isSome = true) :
    elementServiceVerdict e on s = { act := stageService e on } := by
  unfold elementServiceVerdict
  rw [hm]
  exact if_pos (by simp only [hty, hel]; rfl)

/-- The act of SERIES_WRITE: the values go into a copy. -/
def putSeries (w : SeriesWr) (x : SeriesStag) (t : State) : State :=
  { t with model.seriesStaged := tset t.model.seriesStaged w.series (seriesPut w x) }

section
variable {h : Hdr} {w : SeriesWr} {s : State} (hok : seriesFieldsOk w = true)
include hok

theorem seriesWrite_first (hnone : tget s.model.seriesStaged w.series = none) :
    seriesWriteVerdict h w s = { act := putSeries w (seriesFresh w h.src) } := by
  unfold seriesWriteVerdict
  rw [if_neg (by simp [hok]), hnone]
  rfl

theorem seriesWrite_other {x : SeriesStag} (hx : tget s.model.seriesStaged w.series = some x) (ho : x.owner ≠ h.src) :
    seriesWriteVerdict h w s = reject St.STAGED := by
  unfold seriesWriteVerdict
  rw [if_neg (by simp [hok]), hx]
  exact if_pos (by simp [ho])

theorem seriesWrite_again {x : SeriesStag} (hx : tget s.model.seriesStaged w.series = some x) (ho : x.owner = h.src)
    (hflag : w.flags % 2 = 1) : seriesWriteVerdict h w s = { act := putSeries w (seriesFresh w h.src) } := by
  unfold seriesWriteVerdict
  rw [if_neg (by simp [hok]), hx]
  exact (if_neg (by simp [ho])).trans (if_pos hflag)

theorem seriesWrite_on {x : SeriesStag} (hx : tget s.model.seriesStaged w.series = some x) (ho : x.owner = h.src)
    (hflag : w.flags % 2 ≠ 1) (hsame : seriesSame w x = true) :
    seriesWriteVerdict h w s = { act := putSeries w x } := by
  unfold seriesWriteVerdict
  rw [if_neg (by simp [hok]), hx]
  exact (if_neg (by simp [ho])).trans ((if_neg hflag).trans (if_pos hsame))

end

theorem seriesWrite_puts {h : Hdr} {w : SeriesWr} {s : State} (x : SeriesStag)
    (ha : s.admitted seriesWriteInfo h = true) (hv : seriesWriteVerdict h w (s.take h) = { act := putSeries w x }) :
    ∃ t, exec (.seriesWrite h w) s = .next t ∧ Silent (putSeries w x s) t := by
  have hcmd := command_acts (m := w.series) ha hv
  have hu : Silent s (s.answered seriesWriteInfo h w.series {}) := silent_answered _ _ _ _ _
  refine ⟨_, congrArg Host.Outcome.next hcmd, ?_⟩
  unfold putSeries
  rw [answered_model]
  exact silent_with_model hu _

/-- One staged series becomes current, where it is staged. -/
def takeSeries (m : ModelSt) (n : Nat) : ModelSt :=
  match tget m.seriesStaged n with
  | some x => { m with series := tset m.series n (seriesOf x), seriesStaged := tdel m.seriesStaged n }
  | none => m

theorem seriesApply_eq (l : List Nat) (s : State) :
    s.seriesApply l = { s with model := l.foldl takeSeries s.model } := by
  induction l generalizing s with
  | nil => rfl
  | cons n l ih =>
    have hstep : s.seriesApply (n :: l) = ({ s with model := takeSeries s.model n } : State).seriesApply l := by
      unfold State.seriesApply takeSeries
      rw [List.foldl_cons]
      cases tget s.model.seriesStaged n <;> rfl
    exact hstep.trans (ih _)

theorem takeSeries_staged (m : ModelSt) (n k : Nat) :
    tget (takeSeries m n).seriesStaged k = if k = n then none else tget m.seriesStaged k := by
  unfold takeSeries
  cases hn : tget m.seriesStaged n with
  | some x => exact tget_tdel _ _ _
  | none =>
    by_cases hk : k = n
    · rw [if_pos hk, hk]
      exact hn
    · rw [if_neg hk]

theorem takeSeries_series (m : ModelSt) (n k : Nat) : tget (takeSeries m n).series k =
    if k = n then ((tget m.seriesStaged k).map seriesOf).or (tget m.series k) else tget m.series k := by
  unfold takeSeries
  by_cases hk : k = n
  · rw [if_pos hk, hk]
    cases tget m.seriesStaged n with
    | some x => exact tget_tset_same _ _ _
    | none => rfl
  · rw [if_neg hk]
    cases tget m.seriesStaged n with
    | some x => exact tget_tset_other _ _ _ _ hk
    | none => rfl

theorem foldl_takeSeries_staged (l : List Nat) (m : ModelSt) (k : Nat) :
    tget (l.foldl takeSeries m).seriesStaged k = if k ∈ l then none else tget m.seriesStaged k := by
  induction l generalizing m with
  | nil => rfl
  | cons n l ih =>
    rw [List.foldl_cons, ih, takeSeries_staged]
    by_cases hl : k ∈ l
    · simp [hl]
    · by_cases hk : k = n <;> simp [hl, hk]

theorem foldl_takeSeries_series (l : List Nat) (m : ModelSt) (k : Nat) : tget (l.foldl takeSeries m).series k =
    if k ∈ l then ((tget m.seriesStaged k).map seriesOf).or (tget m.series k) else tget m.series k := by
  induction l generalizing m with
  | nil => rfl
  | cons n l ih =>
    rw [List.foldl_cons, ih, takeSeries_series, takeSeries_staged]
    by_cases hk : k = n
    · rw [if_pos hk, if_pos hk, if_pos (List.mem_cons.mpr (.inl hk))]
      split <;> rfl
    · have hmem : k ∈ n :: l ↔ k ∈ l := by simp [hk]
      rw [if_neg hk, if_neg hk, if_congr hmem rfl rfl]

/-- The series that a mask names. -/
def namedSeries (mask : BitVec 256) : List Nat := (List.range 256).filter (fun n => mask.getLsbD n)

theorem mem_namedSeries (mask : BitVec 256) (n : Nat) : n ∈ namedSeries mask ↔ n < 256 ∧ mask.getLsbD n = true := by
  unfold namedSeries
  rw [List.mem_filter, List.mem_range]

/-- A named series that passes in a state passes once the packet is taken. -/
theorem seriesFail_take (s : State) (h : Hdr) (n : Nat) : (s.take h).seriesFail h.src n = s.seriesFail h.src n := by
  rw [(silent_take s h).rest]
  rfl

theorem seriesCommit_effect {h : Hdr} {mask : BitVec 256} {s : State} (ha : s.admitted seriesCommitInfo h = true)
    (hpass : ∀ n, n < 256 → mask.getLsbD n = true → s.seriesFail h.src n = none) :
    ∃ t, exec (.seriesCommit h mask) s = .next t ∧ Silent { s with model := t.model } t ∧
      t.model = (namedSeries mask).foldl takeSeries s.model := by
  have hfind : (namedSeries mask).find? (fun n => ((s.take h).seriesFail h.src n).isSome) = none := by
    refine List.find?_eq_none.mpr fun n hn => ?_
    obtain ⟨hlt, hbit⟩ := (mem_namedSeries mask n).mp hn
    rw [seriesFail_take, hpass n hlt hbit]
    exact Bool.false_ne_true
  have hv : seriesCommitVerdict h mask (s.take h) =
      { detail := 0xFFFFFFFF, act := fun t => t.seriesApply (namedSeries mask) } := by
    have hdef : (List.range 256).filter (fun n => mask.getLsbD n) = namedSeries mask := rfl
    unfold seriesCommitVerdict
    dsimp only
    rw [hdef, hfind]
  have hcmd := command_eq (m := 0) ha hv
  have hu : Silent s (s.answered seriesCommitInfo h 0
      { detail := 0xFFFFFFFF, act := fun t => t.seriesApply (namedSeries mask) }) := silent_answered _ _ _ _ _
  have hact := (hcmd.trans (seriesApply_eq (namedSeries mask) _))
  rw [answered_model] at hact
  exact ⟨_, congrArg Host.Outcome.next hact, silent_with_model hu _, rfl⟩

/-- Settles O28: each command's verdict, and what its act leaves of the banks, the service changes and the series. -/
theorem modelsAndSeriesComplete : Obligations.ModelsAndSeriesComplete := by
  unfold Obligations.ModelsAndSeriesComplete
  refine ⟨?_, ?_, ?_, ?_, ?_, ?_, ?_⟩
  case refine_1 =>
    intro h n s ha hop hn
    obtain ⟨t, ht, hm, hsil⟩ := modelLoad_effect ha hop hn
    refine ⟨t, ht, hsil, by rw [hm]; rfl, ?_, ?_, by rw [hm]; rfl⟩
    · exact (activeModel_of_sameBanks (s := { s with model := noStaged s.model }) (by rw [hm]; exact ⟨rfl, rfl, rfl, rfl, rfl⟩)).trans
        (activeModel_noStaged s)
    · exact if_neg (by rw [hm]; exact Bool.false_ne_true)
  case refine_2 =>
    intro h s ha hop
    obtain ⟨t, ht, hsil, hm⟩ := modelDiscard_effect ha hop
    refine ⟨t, ht, hsil, ?_⟩
    rcases hm with ⟨hst, hm⟩ | ⟨hst, hm⟩
    · refine ⟨?_, ?_, by rw [hm]; rfl, fun hno => absurd (hst.symm.trans hno) (by decide)⟩
      · exact (activeModel_of_sameBanks (s := { s with model := noStaged s.model }) (sameBanks_of_eq hm)).trans
          (activeModel_noStaged s)
      · exact if_neg (by rw [hm]; exact Bool.false_ne_true)
    · refine ⟨activeModel_of_sameBanks (sameBanks_of_eq hm), ?_, congrArg ModelSt.series hm, fun _ => hm⟩
      exact if_neg (by rw [hm, hst]; exact Bool.false_ne_true)
  case refine_3 =>
    intro bytes o s hr hop hk
    have hm := modelLoadEnd_model s o.handle bytes
    obtain ⟨hop', hcount, hrep⟩ := loaded_counts hm
    exact ⟨_, modelLoadDone_ends hr hop hk, hop', loaded_active hm, hcount, hrep, loaded_staged hm, failed_not_staged hm⟩
  case refine_4 =>
    intro h keep m n s ha hop hst hfree hn
    obtain ⟨t, k, ht, hpass, hfail⟩ := modelActivate_effect keep ha hop hst hfree hn
    have hbanks : SameBanks s.model t.model := by
      by_cases hc : s.activateCode m = 0
      · rw [hpass hc]
        exact ⟨rfl, rfl, rfl, rfl, rfl⟩
      · rw [hfail hc]
        exact ⟨rfl, rfl, rfl, rfl, rfl⟩
    refine ⟨t, ht, activeModel_of_sameBanks hbanks, (stagedModel_of_sameBanks hbanks).trans hst, fun hc => ⟨k, ?_⟩,
      fun hc => ?_⟩
    · rw [hpass hc]
      rfl
    · rw [hfail hc]
      rfl
  case refine_5 =>
    intro h e on m s ha hm hty hel
    have hv := elementService_verdict (s := s.take h) on
      ((activeModel_of_sameBanks (sameBanks_of_eq (take_model s h))).trans hm) hty hel
    have hcmd := command_acts (m := e) ha hv
    have hu : Silent s (s.answered elementServiceInfo h e {}) := silent_answered _ _ _ _ _
    refine ⟨_, congrArg Host.Outcome.next hcmd, ?_⟩
    unfold stageService
    rw [answered_model]
    exact silent_with_model hu _
  case refine_6 =>
    intro h w s ha hok
    refine ⟨fun hcopy => ?_, fun x hx ho hflag hsame => ?_, fun x hx ho => ?_⟩
    · rcases hcopy with hnone | ⟨x, hx, ho, hflag⟩
      · exact seriesWrite_puts _ ha (seriesWrite_first hok (by simpa using hnone))
      · exact seriesWrite_puts _ ha (seriesWrite_again hok (by simpa using hx) ho hflag)
    · exact seriesWrite_puts _ ha (seriesWrite_on hok (by simpa using hx) ho hflag hsame)
    · have hv := seriesWrite_other (s := s.take h) (h := h) hok (by simpa using hx) ho
      exact congrArg Host.Outcome.next (command_eq (m := w.series) ha hv)
  case refine_7 =>
    intro h mask s ha hpass
    obtain ⟨t, ht, hsil, hm⟩ := seriesCommit_effect ha hpass
    refine ⟨t, ht, hsil, fun n => ⟨?_, ?_⟩⟩
    · rw [hm, foldl_takeSeries_staged, if_congr (mem_namedSeries mask n) rfl rfl]
    · rw [hm, foldl_takeSeries_series, if_congr (mem_namedSeries mask n) rfl rfl]
      cases tget s.model.seriesStaged n <;> rfl

end Sys2Proof.Proofs

/-! PROOF. Requests for solves, their starts, the cadence and the flexibility calls (R117 to R121, R127 to R132, R139)
(O29). -/

namespace Sys2Proof.Proofs
open Sys2Proof.Machine Sys2Proof.Laws

theorem atOrder_seven {s : State} (h : s.order ≤ 7) : s.atOrder 7 = { s with order := 7 } := by
  unfold State.atOrder
  rw [max_eq_right h]
  rfl

/-! ### SOLVE (R124) -/

section
variable {s : State} {h : Hdr} {kind budget hstart : Nat} (hkind : kind = 1 ∨ kind = 2)
  (hbud : budget = 0 ∨ (20 ≤ budget ∧ budget ≤ 900000)) (hhor : hstart ≤ s.epoch + 691200000)
include hkind hbud hhor

theorem solveVerdict_long (hm : s.activeModel.isSome = true) (hw : s.slv.waiting = none) :
    solveVerdict h kind budget hstart s = s.long h 0x0C07 (fun n t => { t with
      slv.waiting := some { handle := n, kind := kind, budget := budget, hstart := hstart, acc := t.epoch } }) := by
  refine (if_neg ?_).trans ((if_neg (by rw [← Option.not_isSome, hm]; decide)).trans (if_neg (by simp [hw])))
  have hk : (kind == 1 || kind == 2) = true := by simpa using hkind
  have hb : (budget == 0 || (decide (20 ≤ budget) && decide (budget ≤ 900000))) = true := by simpa using hbud
  rw [hk, hb, decide_eq_true hhor]
  decide

end

/-- A request for a solve waits with the epoch of its acceptance (R120, R124). -/
theorem requested_slv {s u : State} (hslv : u.slv = s.slv) (hep : u.epoch = s.epoch) (n : U32)
    (kind budget hstart : Nat) :
    ({ u.slv with waiting := some { handle := n, kind := kind, budget := budget, hstart := hstart, acc := u.epoch } } :
      SolveSt) =
    { s.slv with waiting := some { handle := n, kind := kind, budget := budget, hstart := hstart, acc := s.epoch } } := by
  rw [hslv, hep]

/-! ### Flexibility calls (R128 to R132) -/

theorem flexOk_silent {s u : State} (h : Silent s u) (a : FlexArg) : u.flexOk a = s.flexOk a := by
  rw [h.rest]
  rfl

/-- What a request for a fast re-plan leaves: the slots and the calls that wait, and the re-plan with the earlier band. -/
structure Triggers (s t : State) (band : Nat) : Prop where
  slots : t.slv.slots = s.slv.slots
  waits : t.slv.flexWaits = s.slv.flexWaits
  pends : ∃ f, t.slv.fastPend = some f ∧ f.band = (s.slv.fastPend.map (fun g => min g.band band)).getD band

theorem triggerFast_joins (s : State) (band : Nat) : Triggers s (s.triggerFast band) band := by
  have hpend : ∃ s1 : State, Triggers s s1 band ∧
      (s.triggerFast band = s1 ∨ ∃ v, s.triggerFast band = { s1 with slv.running := some v }) := by
    unfold State.triggerFast
    cases hf : s.slv.fastPend with
    | some f =>
      refine ⟨{ s with slv.fastPend := some { f with band := min f.band band } }, ⟨rfl, rfl, _, rfl, by rw [hf]; rfl⟩, ?_⟩
      dsimp only
      split
      · split
        · exact .inr ⟨_, rfl⟩
        · exact .inl rfl
      · exact .inl rfl
    | none =>
      obtain ⟨hs, fr, hsolve⟩ := solveHandle_shape s
      refine ⟨{ s.solveHandle.2 with slv.fastPend := some { handle := s.solveHandle.1, band := band, acc := s.epoch } },
        ⟨by rw [hsolve], by rw [hsolve], _, rfl, by rw [hf]; rfl⟩, ?_⟩
      dsimp only
      split
      · split
        · exact .inr ⟨_, rfl⟩
        · exact .inl rfl
      · exact .inl rfl
  obtain ⟨s1, ⟨hslots, hwaits, f, hf, hband⟩, heq | ⟨v, heq⟩⟩ := hpend
  · rw [heq]
    exact ⟨hslots, hwaits, f, hf, hband⟩
  · rw [heq]
    exact ⟨hslots, hwaits, f, hf, hband⟩

/-- The slot of FLEX_ACTIVATE. -/
def filledSlot (a : FlexArg) (epoch : Nat) : FlexSlot :=
  { filled := true, grid := a.grid, bandMin := a.bandMin, bandMax := a.bandMax
    start := if a.start = 0 then epoch else a.start, stop := a.stop, extId := a.extId, acc := epoch }

/-- The act of both flexibility commands: the slot changes, the handle waits, a fast re-plan is triggered. -/
def flexAct (k : Nat) (f : FlexSlot) (ext : U32) (band : Nat) (n : U32) (t : State) : State :=
  (({ t with slv.slots := tset t.slv.slots k f } : State).addFlexWait n ext).triggerFast band

/-- A flexibility command leaves its slot, its handle on the list of those that wait, and the re-plan. -/
structure FlexDone (s t : State) (k : Nat) (f : FlexSlot) (n ext : U32) (band : Nat) : Prop where
  slot : tget t.slv.slots k = some f
  others : ∀ j, j ≠ k → tget t.slv.slots j = tget s.slv.slots j
  waits : t.slv.flexWaits = s.slv.flexWaits ++ [{ handle := n, acc := s.host.accSeq, accEpoch := s.epoch, extId := ext }]
  pends : ∃ g, t.slv.fastPend = some g ∧ g.band = (s.slv.fastPend.map (fun g => min g.band band)).getD band

theorem flexAct_done {s u : State} (hu : Silent s u) (hs : Tab HandleEnt) (fr : List Nat) (k : Nat) (f : FlexSlot)
    (ext : U32) (band : Nat) (n : U32) :
    FlexDone s (flexAct k f ext band n { u with host.handles := hs, host.freeList := fr }) k f n ext band := by
  have hslv : u.slv = s.slv := silent_slv hu
  have hseq : u.host.accSeq = s.host.accSeq := silent_host_accSeq hu
  have hep : u.epoch = s.epoch := silent_epoch hu
  obtain ⟨hslots, hwaits, g, hg, hband⟩ := triggerFast_joins
    (({ u with host.handles := hs, host.freeList := fr, slv.slots := tset u.slv.slots k f } : State).addFlexWait n ext) band
  refine ⟨?_, fun j hj => ?_, ?_, g, hg, ?_⟩
  · exact (congrArg (fun t => tget t k) hslots).trans (tget_tset_same _ _ _)
  · refine (congrArg (fun t => tget t j) hslots).trans ((tget_tset_other _ _ _ _ hj).trans ?_)
    rw [hslv]
  · rw [← hslv, ← hseq, ← hep]
    exact hwaits
  · rw [← hslv]
    exact hband

theorem flexActivate_effect {h : Hdr} {a : FlexArg} {n : U32} {s : State}
    (ha : s.admitted flexActivateInfo h = true) (hok : s.flexOk a = true) (hn : s.nextHandle = some n) :
    ∃ t, exec (.flexActivate h a) s = .next t ∧
      FlexDone s t a.slot (filledSlot a s.epoch) n a.extId (if a.start = 0 then s.epoch else a.start) := by
  have hok' : (s.take h).flexOk a = true := (flexOk_silent (silent_take s h) a).trans hok
  have hv : flexActivateVerdict h a (s.take h) = (s.take h).long h 0x0C08 (fun n t =>
      flexAct a.slot (filledSlot a t.epoch) a.extId (filledSlot a t.epoch).start n t) := if_neg (by simp [hok'])
  obtain ⟨u, hs, fr, hu, hcmd⟩ := command_long s flexActivateInfo h a.extId.toNat _ _ _ n ha hn hv
  have hep : u.epoch = s.epoch := silent_epoch hu
  refine ⟨_, congrArg Host.Outcome.next hcmd, ?_⟩
  rw [← hep]
  exact flexAct_done hu hs fr _ _ _ _ n

theorem flexWithdraw_effect {h : Hdr} {k : Nat} {n : U32} {s : State} (ha : s.admitted flexWithdrawInfo h = true)
    (hk : k < 16) (hf : (tgetD s.slv.slots k {}).filled = true) (hn : s.nextHandle = some n) :
    ∃ t, exec (.flexWithdraw h k) s = .next t ∧ FlexDone s t k {} n 0#32 s.epoch := by
  have hv : flexWithdrawVerdict h k (s.take h) = (s.take h).long h 0x0C09 (fun n t => flexAct k {} 0#32 t.epoch n t) :=
    (if_neg (by omega)).trans (if_neg (by simp [hf]))
  obtain ⟨u, hs, fr, hu, hcmd⟩ := command_long s flexWithdrawInfo h k _ _ _ n ha hn hv
  have hep : u.epoch = s.epoch := silent_epoch hu
  refine ⟨_, congrArg Host.Outcome.next hcmd, ?_⟩
  rw [← hep]
  exact flexAct_done hu hs fr _ _ _ _ n

/-! ### The start of a solve (R89, R117, R120) -/

/-- What the start of a solve leaves: the solve that runs, and the requests and counters it was started from. -/
structure Begun (s t : State) (handle : U32) (trigger kind budget hstart : Nat) : Prop where
  runs : ∃ v, t.slv.running = some v ∧ v.handle = handle ∧ v.trigger = trigger ∧ v.start = s.epoch ∧ v.kind = kind ∧
    v.budget = budget ∧ v.hstart = hstart
  waiting : t.slv.waiting = s.slv.waiting
  fastPend : t.slv.fastPend = s.slv.fastPend
  skipped : t.slv.skipped = s.slv.skipped

theorem Begun.of_handles {s t : State} {hs : Tab HandleEnt} {fr : List Nat} {handle : U32}
    {trigger kind budget hstart : Nat}
    (h : Begun { s with host.handles := hs, host.freeList := fr } t handle trigger kind budget hstart) :
    Begun s t handle trigger kind budget hstart := by
  obtain ⟨hruns, hw, hf, hsk⟩ := h
  exact ⟨hruns, hw, hf, hsk⟩

theorem aimHandle_shape (s : State) (h : U32) (trigger : Nat) :
    ∃ hs, s.aimHandle h trigger = { s with host.handles := hs } := by
  unfold State.aimHandle State.handleTo
  split
  · exact ⟨s.host.handles, rfl⟩
  · split
    · exact ⟨_, rfl⟩
    · exact ⟨s.host.handles, rfl⟩

/-- The kind of solve that runs: a warm one without a plan in force runs cold (R117). -/
def kindRun (s : State) (trigKind : Nat) : Nat :=
  if trigKind = 1 then 1 else if s.slv.inForce.isNone then 1 else trigKind

section
variable (s : State) (m : NetModel) (handle : U32) (trigger trigKind budget hstart : Nat)

theorem beginSolve_begun : Begun s (s.beginSolve m handle trigger trigKind budget hstart) handle trigger
    (kindRun s trigKind) budget hstart := by
  obtain ⟨hs, haim⟩ := aimHandle_shape s handle trigger
  unfold State.beginSolve
  rw [haim]
  exact ⟨⟨_, rfl, rfl, rfl, rfl, rfl, rfl, rfl⟩, rfl, rfl, rfl⟩

theorem beginSolve_startupDone : (s.beginSolve m handle trigger trigKind budget hstart).slv.startupDone =
    (s.slv.startupDone || trigger == 5) := by
  obtain ⟨hs, haim⟩ := aimHandle_shape s handle trigger
  unfold State.beginSolve
  rw [haim]

theorem beginSolve_op {o : ModelOp} (hop : s.model.op = some o) :
    (s.beginSolve m handle 4 trigKind budget hstart).model.op = some { o with solved := true } := by
  obtain ⟨hs, haim⟩ := aimHandle_shape s handle 4
  unfold State.beginSolve
  rw [haim]
  dsimp only
  rw [hop]
  rfl

end

/-! ### The cadence (R119, R121) -/

section
variable {s : State} (hon : s.solveOn = true) (hord : s.order ≤ 7) (hclose : s.closeOwed = false)
include hon hord hclose

theorem cadencePoint_acts (hen : s.pn P.SOLVE_ENABLE 0 = 1) (hm : s.activeModel.isSome = true) (hat : s.atCadence = true) :
    exec .cadencePoint s = .next ({ s with order := 7 } : State).cadenceAct := by
  rw [← atOrder_seven hord]
  exact congrArg Host.Outcome.next (if_pos (by simp [hon, State.orderOk, hord, hclose, hen, hm, hat]))

theorem solveStart_acts : exec .solveStart s = .next ({ s with order := 7 } : State).startDue := by
  rw [← atOrder_seven hord]
  exact congrArg Host.Outcome.next (if_pos (by simp [hon, State.orderOk, hord, hclose]))

end

/-- A solve runs, is due or an activation is open, or no handle is free: the point is skipped (R119). -/
theorem cadenceAct_skips {s : State} (h : s.slv.running.isSome = true ∨ s.actOpen = true ∨ s.booting = true ∨
    s.nextStart ≠ 0 ∨ s.nextHandle = none) : s.cadenceAct = { s with slv.skipped := s.slv.skipped + 1 } := by
  unfold State.cadenceAct
  dsimp only
  by_cases hbusy : (s.slv.running.isSome || s.actOpen || s.booting || s.nextStart != 0) = true
  · exact if_pos hbusy
  · have hnone : s.nextHandle = none := by
      simp only [Bool.or_eq_true, not_or] at hbusy
      obtain ⟨⟨⟨hrun, hact⟩, hboot⟩, hnext⟩ := hbusy
      rcases h with h | h | h | h | h
      · exact absurd h hrun
      · exact absurd h hact
      · exact absurd h hboot
      · exact absurd (bne_iff_ne.mpr h) hnext
      · exact h
    rw [if_neg hbusy, hnone]

/-- The budget of a cadence solve. -/
def cadenceBudget (s : State) : Nat := if s.cadenceCold then s.pn P.COLD_BUDGET_MS 0 else s.pn P.WARM_BUDGET_MS 0

/-- A cadence solve starts on a free handle, cold or warm (R121). -/
theorem cadenceAct_begins {s : State} {n : U32} (hrun : s.slv.running = none) (hact : s.actOpen = false)
    (hboot : s.booting = false) (hnext : s.nextStart = 0) (hn : s.nextHandle = some n)
    (hm : s.activeModel.isSome = true) :
    ∃ hstart, Begun s s.cadenceAct n 1 (if s.cadenceCold then 1 else 2) (cadenceBudget s) hstart := by
  obtain ⟨m, hm⟩ := Option.isSome_iff_exists.mp hm
  have hfree : ¬ (s.slv.running.isSome || s.actOpen || s.booting || s.nextStart != 0) = true := by
    rw [hrun, hact, hboot, hnext]
    decide
  obtain ⟨hs, fr, hopen⟩ := openHandle_shape s .none s.solveCq 0#32 0
  have hsolve : s.solveHandle = (n, { s with host.handles := hs, host.freeList := fr }) := by
    unfold State.solveHandle
    rw [hn, ← hopen]
  unfold State.cadenceAct cadenceBudget
  dsimp only
  rw [if_neg hfree, hn, hm]
  dsimp only
  rw [hsolve]
  cases hcold : s.cadenceCold with
  | true => exact ⟨_, (beginSolve_begun { s with host.handles := hs, host.freeList := fr } m n 1 1 _ _).of_handles⟩
  | false =>
    have hkind : kindRun s 2 = 2 := by
      unfold State.cadenceCold at hcold
      simp only [Bool.or_eq_false_iff] at hcold
      exact (if_neg (by decide)).trans (if_neg (by simp [hcold.1.1]))
    refine ⟨s.epoch + s.cadence, ?_⟩
    have hbegun := beginSolve_begun { s with host.handles := hs, host.freeList := fr } m n 1 2
      (s.pn P.WARM_BUDGET_MS 0) (s.epoch + s.cadence)
    have hkind' : kindRun { s with host.handles := hs, host.freeList := fr } 2 = 2 := hkind
    rw [hkind'] at hbegun
    exact hbegun.of_handles

/-! ### The start that is due (R120) -/

/-- Without an active model nothing but an activation's solve is due. -/
theorem nextStart_without_model {s : State} (h : s.activeModel = none) : s.nextStart = 0 ∨ s.nextStart = 4 := by
  unfold State.nextStart
  split
  · exact .inl rfl
  · split
    · split
      · split
        · exact .inl rfl
        · exact .inr rfl
      · exact .inl rfl
    · rw [h]
      exact .inl (if_pos rfl)

theorem model_of_nextStart {s : State} {k : Nat} (h : s.nextStart = k) (h0 : k ≠ 0) (h4 : k ≠ 4) :
    ∃ m, s.activeModel = some m := by
  cases hm : s.activeModel with
  | some m => exact ⟨m, rfl⟩
  | none => exact ((nextStart_without_model hm).elim (fun e => absurd (h.symm.trans e) h0) fun e => absurd (h.symm.trans e) h4)

theorem startDue_none {s : State} (h : s.nextStart = 0) : s.startDue = s := by
  unfold State.startDue
  rw [h]
  rfl

/-- The budget of a commanded solve (R124). -/
def commandedBudget (s : State) (c : CmdSolve) : Nat :=
  if c.budget = 0 then (if c.kind = 1 then s.pn P.COLD_BUDGET_MS 0 else s.pn P.WARM_BUDGET_MS 0) else c.budget

theorem startDue_commanded {s : State} {c : CmdSolve} (h : s.nextStart = 2) (hc : s.slv.waiting = some c) :
    Begun { s with slv.waiting := none } s.startDue c.handle 2 (kindRun s c.kind) (commandedBudget s c)
      (max c.hstart (s.epoch + 8 * commandedBudget s c)) := by
  obtain ⟨m, hm⟩ := model_of_nextStart h (by decide) (by decide)
  unfold State.startDue
  rw [h]
  dsimp only
  rw [hm, hc]
  exact beginSolve_begun { s with slv.waiting := none } m c.handle 2 c.kind _ _

theorem startDue_fast {s : State} {f : FastPend} (h : s.nextStart = 3) (hf : s.slv.fastPend = some f) :
    Begun { s with slv.fastPend := none } s.startDue f.handle 3 (kindRun s 3) (s.pn P.FAST_BUDGET_MS 0)
      (max f.band (s.epoch + 8 * s.pn P.FAST_BUDGET_MS 0)) := by
  obtain ⟨m, hm⟩ := model_of_nextStart h (by decide) (by decide)
  unfold State.startDue
  rw [h]
  dsimp only
  rw [hm, hf]
  exact beginSolve_begun { s with slv.fastPend := none } m f.handle 3 3 _ _

theorem startDue_activation {s : State} {m : NetModel} {o : ModelOp} (h : s.nextStart = 4) (hm : s.stagedModel = some m)
    (hop : s.model.op = some o) : ∃ budget hstart, Begun s s.startDue o.solveHandle 4 1 budget hstart ∧
      s.startDue.model.op = some { o with solved := true } := by
  unfold State.startDue
  rw [h]
  dsimp only
  rw [hm, hop]
  exact ⟨_, _, beginSolve_begun s m o.solveHandle 4 1 _ _, beginSolve_op s m _ _ _ _ hop⟩

theorem startDue_startup {s : State} (h : s.nextStart = 5) :
    ∃ handle budget hstart, Begun s s.startDue handle 5 1 budget hstart ∧ s.startDue.slv.startupDone = true := by
  obtain ⟨m, hm⟩ := model_of_nextStart h (by decide) (by decide)
  obtain ⟨hs, fr, hsolve⟩ := solveHandle_shape s
  unfold State.startDue
  rw [h]
  dsimp only
  rw [hm]
  dsimp only
  rw [hsolve]
  refine ⟨_, _, _,
    (beginSolve_begun { s with host.handles := hs, host.freeList := fr } m s.solveHandle.1 5 1 _ _).of_handles, ?_⟩
  exact (beginSolve_startupDone _ m _ 5 1 _ _).trans (Bool.or_true _)

/-! ### The obligation -/

theorem planStaleTimeout_effect {s : State} (hon : s.solveOn = true) (hst : s.slv.stale = false)
    (hdue : s.slv.lastBoundary + s.pn P.PLAN_STALE_S 0 * 8000 ≤ s.epoch) :
    exec .planStaleTimeout s = .next (({ s with slv.stale := true } : State).condition St.PLAN_STALE []) :=
  congrArg Host.Outcome.next (if_pos (by simp [hon, hst, hdue]))

theorem commitmentEnd_effect {k : Nat} {s : State} (hon : s.solveOn = true) (hord : s.order ≤ 3)
    (hf : (tgetD s.slv.slots k {}).filled = true) (hstop : (tgetD s.slv.slots k {}).stop ≤ s.epoch) :
    exec (.commitmentEnd k) s =
      .next (({ s.atOrder 3 with slv.slots := tset s.slv.slots k {} } : State).auditApplied 0) :=
  congrArg Host.Outcome.next (if_pos (by simp [hon, State.orderOk, hord, hf, hstop]))

/-- Settles O29: the verdicts of the three commands, and one lemma for what every start of a solve leaves. -/
theorem solvesComplete : Obligations.SolvesComplete := by
  unfold Obligations.SolvesComplete
  refine ⟨?_, ?_, ?_, ?_, ?_, ?_, ?_⟩
  case refine_1 =>
    intro h kind budget hstart n s ha hkind hbud hhor hm hw hn
    have hv := solveVerdict_long (s := s.take h) (h := h) hkind hbud (by simpa using hhor)
      ((congrArg Option.isSome (activeModel_of_sameBanks (sameBanks_of_eq (take_model s h)))).trans hm) (by simpa using hw)
    obtain ⟨u, hs, fr, hu, hcmd⟩ := command_long s solveInfo h 0 _ _ _ n ha hn hv
    have hslv := requested_slv (silent_slv hu) (silent_epoch hu) n kind budget hstart
    refine ⟨_, congrArg Host.Outcome.next (hcmd.trans (congrArg (fun v : SolveSt =>
      ({ u with host.handles := hs, host.freeList := fr, slv := v } : State)) hslv)), ?_⟩
    exact silent_free_with_slv hu _ _ _
  case refine_2 =>
    intro h a n s ha hok hn from_
    obtain ⟨t, ht, hslot, hothers, hwaits, f, hf, hband⟩ := flexActivate_effect ha hok hn
    refine ⟨t, f, ht, hslot, hothers, hwaits, hf, hband.trans ?_⟩
    cases s.slv.fastPend <;> rfl
  case refine_3 =>
    intro h k n s ha hk hf hn
    obtain ⟨t, ht, hslot, hothers, hwaits, f, hf, hband⟩ := flexWithdraw_effect ha hk hf hn
    refine ⟨t, f, ht, hslot, hothers, hwaits, hf, hband.trans ?_⟩
    cases s.slv.fastPend <;> rfl
  case refine_4 =>
    intro s hon hord hclose hen hm hat
    have hacts := cadencePoint_acts hon hord hclose hen hm hat
    refine ⟨fun hskip => hacts.trans (congrArg Host.Outcome.next (cadenceAct_skips hskip)),
      fun n hrun hact hboot hnext hn => ?_⟩
    obtain ⟨hstart, ⟨v, hv, hh, htr, hst, hk, hb, -⟩, -, -, hskip⟩ :=
      cadenceAct_begins (s := { s with order := 7 }) hrun hact hboot hnext hn hm
    exact ⟨_, v, hacts, hv, hh, htr, hst, hk, hb, hskip⟩
  case refine_5 =>
    intro s hon hord hclose
    have hacts := solveStart_acts hon hord hclose
    refine ⟨fun hn => ?_, fun c hn hc => ?_, fun f hn hf => ?_, fun m o hn hm hop => ?_, fun hn => ?_⟩
    · exact hacts.trans (congrArg Host.Outcome.next (startDue_none (s := { s with order := 7 }) hn))
    · obtain ⟨⟨v, hv, hh, htr, hst, -, hb, hhs⟩, hw, -, -⟩ := startDue_commanded (s := { s with order := 7 }) hn hc
      refine ⟨_, v, hacts, hv, hh, htr, hst, hw, fun h0 => ?_⟩
      have hbud : commandedBudget { s with order := 7 } c = c.budget := if_neg h0
      rw [hbud] at hb hhs
      exact ⟨hb, hhs⟩
    · obtain ⟨⟨v, hv, hh, htr, hst, -, hb, hhs⟩, -, hf, -⟩ := startDue_fast (s := { s with order := 7 }) hn hf
      exact ⟨_, v, hacts, hv, hh, htr, hst, hf, hb, hhs⟩
    · obtain ⟨b, hs, ⟨⟨v, hv, hh, htr, hst, hk, -, -⟩, -, -, -⟩, hop⟩ :=
        startDue_activation (s := { s with order := 7 }) hn hm hop
      exact ⟨_, v, hacts, hv, hh, htr, hst, hk, hop⟩
    · obtain ⟨hh, b, hs, ⟨⟨v, hv, -, htr, hst, hk, -, -⟩, -, -, -⟩, hdone⟩ :=
        startDue_startup (s := { s with order := 7 }) hn
      exact ⟨_, v, hacts, hv, htr, hst, hk, hdone⟩
  case refine_6 =>
    intro s hon hst hdue
    exact ⟨_, planStaleTimeout_effect hon hst hdue, silent_condition _ _ _⟩
  case refine_7 =>
    intro k s hon hord hf hstop
    refine ⟨_, commitmentEnd_effect hon hord hf hstop, ?_, ?_⟩
    · refine (congrArg Prod.fst (orderPart_auditApplied _ 0)).trans ?_
      exact max_eq_right hord
    · exact (congrArg Prod.fst (slvPart_auditApplied _ 0)).trans rfl

end Sys2Proof.Proofs

/-! PROOF. The program commands: load, discard, exchange and the four mode commands (R260, R276, R277) (O24). -/

namespace Sys2Proof.Proofs
open Sys2Proof.Machine Sys2Proof.Laws

theorem stagedProg_of_prog {s t : State} (h : t.prog = s.prog) : t.stagedProg = s.stagedProg := by
  simp only [State.stagedProg, State.progBank, h]

theorem activeProg_of_prog {s t : State} (h : t.prog = s.prog) : t.activeProg = s.activeProg := by
  simp only [State.activeProg, State.progBank, h]

/-- A change of the bank that is not the active one leaves the active program alone. -/
theorem activeProg_of_active_bank {s t : State} (hact : t.prog.activeB = s.prog.activeB)
    (hhas : t.prog.hasActive = s.prog.hasActive) (ha : s.prog.activeB = false → t.prog.bankA = s.prog.bankA)
    (hb : s.prog.activeB = true → t.prog.bankB = s.prog.bankB) : t.activeProg = s.activeProg := by
  simp only [State.activeProg, State.progBank, hact, hhas]
  cases hside : s.prog.activeB with
  | true => simp only [if_true, hb hside]
  | false => simp only [Bool.false_eq_true, if_false, ha hside]

/-! ### PROG_LOAD (R276) -/

/-- The program data of a load just accepted: nothing staged, the inactive bank empty. -/
def loadingProg (p : ProgSt) (n : U32) (epoch seq : Nat) : ProgSt :=
  { p with
    op := some { kind := 1, handle := n, acc := epoch, seq := seq }, staged := false
    bankA := if p.activeB then none else p.bankA
    bankB := if p.activeB then p.bankB else none }

theorem progLoad_effect {h : Hdr} {n : U32} {s : State} (ha : s.admitted progLoadInfo h = true)
    (hop : s.prog.op = none) (hn : s.nextHandle = some n) :
    ∃ t, exec (.progLoad h) s = .next t ∧ t.prog = loadingProg s.prog n s.epoch s.host.accSeq ∧
      Silent { s with prog := t.prog, host.handles := t.host.handles, host.freeList := t.host.freeList
                      host.accSeq := s.host.accSeq + 1 } t := by
  have hv : progLoadVerdict h (s.take h) = (s.take h).long h 0x0B01 (fun n t =>
      { t.progress n 0 with
        prog := loadingProg t.prog n t.epoch t.host.accSeq, host.accSeq := t.host.accSeq + 1 }) := by
    unfold progLoadVerdict
    rw [if_neg (by simp [hop])]
    refine congrArg ((s.take h).long h 0x0B01) (funext fun n => funext fun t => ?_)
    obtain ⟨hs, hprog⟩ := progress_shape t n 0
    rw [hprog]
    rfl
  obtain ⟨u, hs, fr, hu, hcmd⟩ := command_long s progLoadInfo h 0 _ _ _ n ha hn hv
  obtain ⟨hs', hprog⟩ := progress_shape { u with host.handles := hs, host.freeList := fr } n 0
  rw [hprog] at hcmd
  refine ⟨_, congrArg Host.Outcome.next hcmd, ?_, ?_⟩
  · dsimp only
    rw [silent_prog hu, silent_epoch hu, silent_host_accSeq hu]
  · rw [← silent_host_accSeq hu]
    exact silent_handles_with_prog hu _ _ _ _

theorem loading_activeProg {s t : State} {n : U32} {epoch seq : Nat} (h : t.prog = loadingProg s.prog n epoch seq) :
    t.activeProg = s.activeProg := by
  refine activeProg_of_active_bank (by rw [h]; rfl) (by rw [h]; rfl) (fun hside => ?_) (fun hside => ?_)
  · rw [h]
    exact if_neg (by rw [hside]; exact Bool.false_ne_true)
  · rw [h]
    exact if_pos hside

theorem stagedProg_none {t : State} (h : t.prog.staged = false) : t.stagedProg = none :=
  if_neg (by rw [h]; exact Bool.false_ne_true)

/-! ### PROG_EXCHANGE (R277) -/

/-- The program data of an exchange just accepted. -/
def exchangingProg (p : ProgSt) (n tag : U32) (epoch seq : Nat) : ProgSt :=
  { p with op := some { kind := 2, handle := n, acc := epoch, seq := seq }, openNote := some (n, tag) }

theorem progExchange_effect {h : Hdr} {n : U32} {p : Program} {s : State} (ha : s.admitted progExchangeInfo h = true)
    (hop : s.prog.op = none) (hmode : s.prog.run.mode = 0 ∨ s.prog.run.mode = 1) (hst : s.stagedProg = some p)
    (hfit : s.fitted = true ∨ progNeedsFit p = false) (hn : s.nextHandle = some n) :
    ∃ t, exec (.progExchange h) s = .next t ∧ t.prog = exchangingProg s.prog n h.tag s.epoch s.host.accSeq ∧
      Silent { s with prog := t.prog, host.handles := t.host.handles, host.freeList := t.host.freeList
                      host.accSeq := s.host.accSeq + 1 } t := by
  have hfits : ¬ (!(s.take h).fitted && progNeedsFit p) = true := by
    have htake : (s.take h).fitted = s.fitted := by rw [(silent_take s h).rest]; rfl
    rw [htake]
    rcases hfit with hf | hf <;> simp [hf]
  have hv : progExchangeVerdict h (s.take h) = (s.take h).long h 0x0B02 (fun n t =>
      { t with
        prog := exchangingProg t.prog n h.tag t.epoch t.host.accSeq, host.accSeq := t.host.accSeq + 1 }) := by
    unfold progExchangeVerdict
    rw [if_neg (by simp [hop]), if_neg (by simp only [take_prog]; rcases hmode with hm | hm <;> rw [hm] <;> decide),
      stagedProg_of_prog (take_prog s h), hst]
    exact if_neg hfits
  obtain ⟨u, hs, fr, hu, hcmd⟩ := command_long s progExchangeInfo h 0 _ _ _ n ha hn hv
  refine ⟨_, congrArg Host.Outcome.next hcmd, ?_, ?_⟩
  · dsimp only
    rw [silent_prog hu, silent_epoch hu, silent_host_accSeq hu]
  · rw [← silent_host_accSeq hu]
    exact silent_handles_with_prog hu _ _ _ _

/-! ### Mode commands (R260) -/

/-- The state with a mode command waiting for the first tick boundary. -/
def modeNoted (s : State) (cmd : Nat) : State :=
  { s with prog.modeDue := s.prog.modeDue ++ [(cmd, s.epoch, s.host.accSeq)], host.accSeq := s.host.accSeq + 1 }

theorem modeNoted_silent {s u : State} (h : Silent s u) (cmd : Nat) : Silent (modeNoted s cmd) (modeNoted u cmd) :=
  silent_map h (fun x => modeNoted x cmd) fun _ _ _ _ _ _ _ _ _ => rfl

section
variable {s : State} {c : CmdInfo} {h : Hdr} (cmd : Nat) (ha : s.admitted c h = true)
include ha

theorem modeCommand_noted (hmode : modeListed cmd s.prog.run.mode = true) :
    ∃ t, s.command c h 0 (modeVerdict cmd) = t ∧ Silent (modeNoted s cmd) t := by
  have hv : modeVerdict cmd (s.take h) = { act := fun t => modeNoted t cmd } := if_pos (by simpa using hmode)
  exact ⟨_, command_acts ha hv, modeNoted_silent (silent_answered _ _ _ _ _) cmd⟩

theorem modeCommand_refused (hmode : modeListed cmd s.prog.run.mode = false) :
    s.command c h 0 (modeVerdict cmd) = s.answered c h 0 { status := St.WRONG_MODE } := by
  have hv : modeVerdict cmd (s.take h) = reject St.WRONG_MODE := if_neg (by simpa using hmode)
  exact command_eq ha hv

end

/-- Settles O24: the verdict of each command, and what its act leaves. -/
theorem programCommandsComplete : Obligations.ProgramCommandsComplete := by
  unfold Obligations.ProgramCommandsComplete
  refine ⟨?_, ?_, ?_, ?_, ?_, ?_, ?_⟩
  case refine_1 =>
    intro h n s ha hop hn
    obtain ⟨t, ht, hprog, hsil⟩ := progLoad_effect ha hop hn
    exact ⟨t, ht, hsil, hprog, loading_activeProg hprog, stagedProg_none (by rw [hprog]; rfl)⟩
  case refine_2 =>
    intro h s ha hop
    have hv : progDiscardVerdict (s.take h) = { act := fun t => { t with prog.staged := false } } :=
      if_neg (by simp [hop])
    have hcmd := command_acts (m := 0) ha hv
    have hu : Silent s (s.answered progDiscardInfo h 0 {}) := silent_answered _ _ _ _ _
    refine ⟨_, congrArg Host.Outcome.next hcmd, ?_, stagedProg_none rfl⟩
    dsimp only
    rw [answered_prog]
    exact silent_with_prog hu _
  case refine_3 =>
    intro h n p s ha hop hmode hst hfit hn
    obtain ⟨t, ht, hprog, hsil⟩ := progExchange_effect ha hop hmode hst hfit hn
    exact ⟨t, ht, hsil, hprog⟩
  case refine_4 =>
    intro h s ha
    refine ⟨fun hmode => ?_, fun h1 h3 => congrArg Host.Outcome.next (modeCommand_refused 2 ha ?_)⟩
    · obtain ⟨t, ht, hsil⟩ := modeCommand_noted 2 ha (by rcases hmode with hm | hm <;> rw [hm] <;> rfl)
      exact ⟨t, congrArg Host.Outcome.next ht, hsil⟩
    · simp [modeListed, h1, h3]
  case refine_5 =>
    intro h s ha
    refine ⟨fun hmode => ?_, fun h2 h3 => congrArg Host.Outcome.next (modeCommand_refused 1 ha ?_)⟩
    · obtain ⟨t, ht, hsil⟩ := modeCommand_noted 1 ha (by rcases hmode with hm | hm <;> rw [hm] <;> rfl)
      exact ⟨t, congrArg Host.Outcome.next ht, hsil⟩
    · simp [modeListed, h2, h3]
  case refine_6 =>
    intro h s ha
    refine ⟨fun hmode => ?_, fun h2 => congrArg Host.Outcome.next (modeCommand_refused 3 ha ?_)⟩
    · obtain ⟨t, ht, hsil⟩ := modeCommand_noted 3 ha (by rw [hmode]; rfl)
      exact ⟨t, congrArg Host.Outcome.next ht, hsil⟩
    · simp [modeListed, h2]
  case refine_7 =>
    intro h s ha
    refine ⟨fun hmode => ?_, fun h4 => congrArg Host.Outcome.next (modeCommand_refused 4 ha ?_)⟩
    · obtain ⟨t, ht, hsil⟩ := modeCommand_noted 4 ha (by rw [hmode]; rfl)
      exact ⟨t, congrArg Host.Outcome.next ht, hsil⟩
    · simp [modeListed, h4]

end Sys2Proof.Proofs

/-! PROOF. The cycles of the tasks: start, publication and the values that take effect (R251 to R255, R259, R261)
(O26, O51). -/

namespace Sys2Proof.Proofs
open Sys2Proof.Machine Sys2Proof.Laws

@[simp] theorem task1_setTask_same (s : State) (k : Nat) (x : TaskSt) : (s.setTask k x).task1 k = x :=
  tgetD_tset_same _ _ _ _

theorem task1_setTask_other (s : State) {k j : Nat} (x : TaskSt) (h : j ≠ k) : (s.setTask k x).task1 j = s.task1 j :=
  tgetD_tset_other _ _ _ _ _ h

theorem task1_of_prog {s t : State} (h : t.prog = s.prog) (k : Nat) : t.task1 k = s.task1 k := by
  unfold State.task1
  rw [h]

/-! ### The start of a cycle (R251, R253) -/

/-- The tasks once a cycle of one has started. -/
def startedTask (s : State) (k : Nat) : TaskSt :=
  { s.task1 k with cycle := some (s.newCycle k), closeDue := some s.epoch }

theorem order_of_cycleDue {s : State} {k : Nat} (h : s.cycleDue k = true) : s.order ≤ 7 := by
  simp only [State.cycleDue, State.orderOk, Bool.and_eq_true, decide_eq_true_eq] at h
  exact h.1.1.1.1.1.1.2

theorem taskCycleStart_due {s : State} {k : Nat} (h : s.cycleDue k = true) : exec (.taskCycleStart k) s =
    .next (({ s with order := 7 } : State).setTask k (startedTask s k)) := by
  rw [← atOrder_seven (order_of_cycleDue h)]
  exact congrArg Host.Outcome.next (if_pos h)

/-! ### What the calls of a cycle have done (R253, R255) -/

/-- The newest values of the output points after one effect. -/
def effOut (o : Tab F32) : BlockEff → Tab F32
  | .out p v => tset o p v
  | _ => o

/-- What the effects of a cycle leave of the program: only output values, and the lane set-points of its own task. -/
structure EffsDone (s t : State) (k : Nat) (effs : List BlockEff) : Prop where
  data : t.prog.run.data = s.prog.run.data
  mode : t.prog.run.mode = s.prog.run.mode
  outs : t.prog.run.outVals = effs.foldl effOut s.prog.run.outVals
  own : t.task1 k = { s.task1 k with laneSp := (t.task1 k).laneSp }
  others : ∀ j, j ≠ k → t.task1 j = s.task1 j

theorem effsDone_of_prog {s t : State} (h : t.prog = s.prog) (k : Nat) : EffsDone s t k [] where
  data := by rw [h]
  mode := by rw [h]
  outs := by rw [h]; rfl
  own := by rw [task1_of_prog h]
  others := fun j _ => task1_of_prog h j

theorem publishEff_done (s : State) (k : Nat) (y : Cycle) (e : BlockEff) : EffsDone s (s.publishEff k y e) k [e] := by
  cases e with
  | out p v => exact ⟨rfl, rfl, rfl, rfl, fun _ _ => rfl⟩
  | laneSp l v =>
    have hown : (s.publishEff k y (.laneSp l v)).task1 k =
        { s.task1 k with laneSp := lanePut (s.task1 k).laneSp l v y.c y.a } := task1_setTask_same s k _
    exact ⟨rfl, rfl, rfl, by rw [hown], fun j hj => task1_setTask_other s _ hj⟩
  | alarm key on prio v =>
    have hprog : (s.publishEff k y (.alarm key on prio v)).prog = s.prog := by
      cases on with
      | true => exact congrArg Prod.fst (applyPart_alarmRaise s k y.c key prio v)
      | false => exact congrArg Prod.fst (applyPart_alarmClear s y.c key)
    obtain ⟨hdata, hmode, hout, hown, hothers⟩ := effsDone_of_prog hprog k
    exact ⟨hdata, hmode, hout, hown, hothers⟩

theorem EffsDone.trans {s t u : State} {k : Nat} {l l' : List BlockEff} (h : EffsDone s t k l) (h' : EffsDone t u k l') :
    EffsDone s u k (l ++ l') where
  data := h'.data.trans h.data
  mode := h'.mode.trans h.mode
  outs := by rw [h'.outs, h.outs, List.foldl_append]
  own := by
    refine h'.own.trans ?_
    rw [h.own]
  others := fun j hj => (h'.others j hj).trans (h.others j hj)

theorem publishEffs_done (k : Nat) (y : Cycle) (l : List (Nat × BlockEff)) (s : State) :
    EffsDone s (l.foldl (fun a e => a.publishEff k y e.2) s) k (l.map (fun e => e.2)) := by
  induction l generalizing s with
  | nil => exact effsDone_of_prog rfl k
  | cons e l ih => exact (publishEff_done s k y e.2).trans (ih _)

theorem marginIn_prog (s : State) (cls : Nat) (m : F32) : (s.marginIn cls m).prog = s.prog := by
  have hrail : ∀ u : State, u.followRail.prog = u.prog := fun u => by
    unfold State.followRail
    split <;> rfl
  unfold State.marginIn State.govern
  dsimp only
  split
  · rfl
  · split
    · exact hrail _
    · rfl

/-- Frames of the stations leave the program alone. -/
theorem publishStns_prog (y : Cycle) (l : List Nat) (s : State) : (l.foldl (fun a n => a.publishStn y n) s).prog = s.prog := by
  induction l generalizing s with
  | nil => rfl
  | cons n l ih =>
    refine (ih _).trans ?_
    unfold State.publishStn
    dsimp only
    split
    · exact congrArg Prod.fst (applyPart_stnOutput s n y.a)
    · split <;> rfl

/-- What the publication of a cycle leaves of the program (R253, R255). -/
structure Published (s t : State) (p : Program) (k : Nat) (y : Cycle) (us : Nat) : Prop where
  data : t.prog.run.data = (s.runCycle p k y).data
  mode : t.prog.run.mode = s.prog.run.mode
  outs : t.prog.run.outVals = ((s.runCycle p k y).eff.map (fun e => e.2)).foldl effOut s.prog.run.outVals
  own : ∃ sp, t.task1 k = taskPublished { s.task1 k with laneSp := sp } y us (t.taskOutVals p k)
  others : ∀ j, j ≠ k → t.task1 j = s.task1 j

theorem publishCycle_published (s : State) (p : Program) (k : Nat) (y : Cycle) (us : Nat) :
    Published s (s.publishCycle p k y us) p k y us := by
  let r := s.runCycle p k y
  let s0 : State := { s with prog.run.data := r.data, free := r.free }
  let s1 := s0.marginIn 1 (cycleMargin y us)
  let s2 := r.eff.foldl (fun a e => a.publishEff k y e.2) s1
  let s3 := s2.setTask k (taskPublished (s2.task1 k) y us (s2.taskOutVals p k))
  have h1 : s1.prog = s0.prog := marginIn_prog s0 1 _
  obtain ⟨hdata, hmode, hout, hown, hothers⟩ := publishEffs_done k y r.eff s1
  have h4 : (s.publishCycle p k y us).prog = s3.prog := publishStns_prog y _ s3
  have htask1 : ∀ j, s1.task1 j = s.task1 j := fun j => task1_of_prog (s := s0) h1 j
  refine ⟨?_, ?_, ?_, ⟨(s2.task1 k).laneSp, ?_⟩, fun j hj => ?_⟩
  · rw [h4]
    exact hdata.trans (by rw [h1])
  · rw [h4]
    exact hmode.trans (by rw [h1])
  · rw [h4]
    exact hout.trans (by rw [h1])
  · have hvals : (s.publishCycle p k y us).taskOutVals p k = s2.taskOutVals p k := by
      unfold State.taskOutVals
      rw [h4]
      rfl
    rw [task1_of_prog h4 k, hvals, ← htask1 k]
    refine (task1_setTask_same s2 k _).trans ?_
    exact congrArg (fun x => taskPublished x y us (s2.taskOutVals p k)) hown
  · rw [task1_of_prog h4 j]
    exact (task1_setTask_other s2 _ hj).trans ((hothers j hj).trans (htask1 j))

section
variable {k us : Nat} {y : Cycle} {p : Program} {s : State} (hcyc : (s.task1 k).cycle = some y)
  (hprog : s.activeProg = some p)
include hcyc hprog

theorem taskPublication_done (h : s.publishable us y = true) :
    exec (.taskPublication k us) s = .next (s.closeEdge.publishCycle p k y us) := by
  show execTaskPublication k us s = _
  unfold execTaskPublication
  rw [hcyc, hprog]
  exact congrArg Host.Outcome.next (if_pos h)

theorem taskPublication_none (h : s.publishable us y = false) : exec (.taskPublication k us) s = .next s := by
  show execTaskPublication k us s = _
  unfold execTaskPublication
  rw [hcyc, hprog]
  exact congrArg Host.Outcome.next (if_neg (Bool.eq_false_iff.mp h))

end

theorem publishable_iff {s : State} {us : Nat} {y : Cycle} (hl : s.live = true) (hm : s.prog.run.mode = 2) :
    s.publishable us y = true ↔ y.closed = true ∧ s.epoch ≤ y.d ∧ us ≤ (y.d - y.c) * 125 := by
  simp [State.publishable, hl, hm, and_assoc]

/-! ### Values that take effect (R253, R261, R319) -/

theorem driveCh_values (s : State) (c : Nat) : ((s.driveCh c).fio1 c).owned = (s.fio1 c).owned ∧
    ((s.driveCh c).fio1 c).hasValue = (s.fio1 c).hasValue := by
  unfold State.driveCh
  dsimp only
  split
  · exact ⟨rfl, rfl⟩
  · exact ⟨by rw [fio1_setFio_same], by rw [fio1_setFio_same]⟩

@[simp] theorem pt_setPt_same (s : State) (p : Nat) (v : Point) : (s.setPt p v).pt p = v := tgetD_tset_same _ _ _ _

theorem pt_setPt_other (s : State) {p q : Nat} (v : Point) (h : q ≠ p) : (s.setPt p v).pt q = s.pt q :=
  tgetD_tset_other _ _ _ _ _ h

/-- A value becomes what the owner of the channel wants, and the channel's point carries its epoch. -/
structure Applied (s t : State) (c a : Nat) (v : F32) : Prop where
  owned : (t.fio1 c).owned = v
  hasValue : (t.fio1 c).hasValue = true
  epoch : (t.pt c).epoch = a
  others : ∀ q, q ≠ c → t.pt q = s.pt q
  rest : t = { s with fio := t.fio, pts := t.pts }

theorem applyPoint_applied {c a : Nat} {v : F32} {s : State} (hc : c < 32) (hfit : s.fitted = true)
    (hmode : isOutMode (s.fio1 c).mode = true) : Applied s (s.applyPoint c v a) c a v := by
  let s1 := s.setFio c { s.fio1 c with
    owned := v, hasValue := true, dutyNext := F32.clamp F32.zero v ⟨0x42C80000#32⟩ }
  obtain ⟨x, hx, hep⟩ : ∃ x : Point, s.applyPoint c v a = (s1.driveCh c).setPt c x ∧ x.epoch = a :=
    ⟨_, (if_pos (by omega)).trans ((if_neg (by simp [hfit])).trans ((if_pos hc).trans (if_pos hmode))), rfl⟩
  obtain ⟨hdrive, -, -⟩ := driveCh_effect s1 c
  obtain ⟨hown, hhas⟩ := driveCh_values s1 c
  have hpt : ∀ q, (s1.driveCh c).pt q = s.pt q := fun q => by
    rw [hdrive]
    rfl
  rw [hx]
  refine ⟨hown.trans (by rw [fio1_setFio_same]), hhas.trans (by rw [fio1_setFio_same]), ?_, fun q hq => ?_, ?_⟩
  · rw [pt_setPt_same]
    exact hep
  · rw [pt_setPt_other _ x hq]
    exact hpt q
  · rw [hdrive]
    rfl

theorem foldl_applyPoint_prog (a : Nat) (l : List (Nat × F32)) (s : State) :
    (l.foldl (fun b v => b.applyPoint v.1 v.2 a) s).prog = s.prog := by
  induction l generalizing s with
  | nil => rfl
  | cons v l ih => exact (ih _).trans (congrArg Prod.fst (applyPart_applyPoint s v.1 v.2 a))

theorem applyVals_prog (l : List (Nat × List (Nat × F32))) (s : State) : (s.applyVals l).prog = s.prog := by
  unfold State.applyVals
  induction l generalizing s with
  | nil => rfl
  | cons x l ih => exact (ih _).trans (foldl_applyPoint_prog x.1 x.2 s)

theorem applyVals_task1 (l : List (Nat × List (Nat × F32))) (s : State) (k : Nat) (x : TaskSt) :
    ((s.setTask k x).applyVals l).task1 k = x :=
  (task1_of_prog (applyVals_prog l _) k).trans (task1_setTask_same s k x)

theorem closeEdge_fields (s : State) : s.closeEdge.prog = s.prog ∧ s.closeEdge.fio = s.fio ∧ s.closeEdge.pts = s.pts ∧
    s.closeEdge.ident = s.ident := by
  rw [closeEdge_shape s]
  exact ⟨rfl, rfl, rfl, rfl⟩

theorem laterVals_due {a e : Nat} (l : List (Nat × F32)) (h : a ≤ e) : laterVals [(a, l)] e = [] := by
  unfold laterVals
  rw [List.filter_cons, if_neg (by simpa using h)]
  rfl

theorem dueVals_due {a e : Nat} (l : List (Nat × F32)) (h : a ≤ e) : dueVals [(a, l)] e = [(a, l)] := by
  unfold dueVals
  rw [List.filter_cons, if_pos (by simpa using h)]
  rfl

theorem taskApply_live {s : State} (k : Nat) (hl : s.live = true) : exec (.taskApply k) s =
    .next ((s.closeEdge.setTask k { s.task1 k with applyPend := laterVals (s.task1 k).applyPend s.epoch }).applyVals
      (dueVals (s.task1 k).applyPend s.epoch)) := congrArg Host.Outcome.next (if_pos hl)

theorem stopValuesApply_live {s : State} (k : Nat) (hl : s.live = true) : exec (.stopValuesApply k) s =
    .next ((s.closeEdge.setTask k { s.task1 k with stopPend := laterVals (s.task1 k).stopPend s.epoch }).applyVals
      (dueVals (s.task1 k).stopPend s.epoch)) := congrArg Host.Outcome.next (if_pos hl)

/-- A single value that is due takes effect, on a state in which only its task has changed. -/
theorem applyVals_single {k c a : Nat} {v : F32} {s : State} (x : TaskSt) (hc : c < 32) (hfit : s.fitted = true)
    (hmode : isOutMode (s.fio1 c).mode = true) {t : State}
    (ht : t = (s.closeEdge.setTask k x).applyVals [(a, [(c, v)])]) :
    (t.fio1 c).owned = v ∧ (t.fio1 c).hasValue = true ∧ (t.pt c).epoch = a ∧ (∀ q, q ≠ c → t.pt q = s.pt q) ∧
      t.task1 k = x := by
  have hsame : s.closeEdge.setTask k x = { s with
      prog := ((s.closeEdge.setTask k x)).prog, edge := s.closeEdge.edge } := by
    rw [closeEdge_shape s]
    rfl
  have hfit' : (s.closeEdge.setTask k x).fitted = true := by
    rw [hsame]
    exact hfit
  have hmode' : isOutMode ((s.closeEdge.setTask k x).fio1 c).mode = true := by
    rw [hsame]
    exact hmode
  have hone : t = (s.closeEdge.setTask k x).applyPoint c v a := ht
  obtain ⟨hown, hhas, hep, hothers, -⟩ := applyPoint_applied (a := a) (v := v) hc hfit' hmode'
  rw [← hone] at hown hhas hep hothers
  refine ⟨hown, hhas, hep, fun q hq => (hothers q hq).trans ?_, ?_⟩
  · rw [hsame]
    rfl
  · rw [ht]
    exact applyVals_task1 _ _ k x

/-! ### The obligations -/

/-- Settles O26: a cycle's start, its publication effect by effect, and the values that take effect at their epochs. -/
theorem taskCyclesComplete : Obligations.TaskCyclesComplete := by
  unfold Obligations.TaskCyclesComplete
  refine ⟨fun k s hdue => ?_, fun k us y p s hcyc hprog hl hm hclosed hep hus => ?_,
    fun k s hl => ⟨⟨_, taskApply_live k hl, ?_⟩, _, stopValuesApply_live k hl, ?_⟩, fun c a v s hc hfit hmode => ?_⟩
  case refine_1 =>
    refine ⟨_, taskCycleStart_due hdue, rfl, task1_setTask_same _ _ _, rfl, rfl, rfl, rfl, rfl, fun j hj => ?_⟩
    exact task1_setTask_other _ _ hj
  case refine_2 =>
    obtain ⟨hdata, hmode, hout, ⟨sp, hown⟩, hothers⟩ := publishCycle_published s.closeEdge p k y us
    obtain ⟨hprog', -, -, -⟩ := closeEdge_fields s
    have hrun : s.closeEdge.runCycle p k y = s.runCycle p k y := by
      rw [closeEdge_shape s]
      rfl
    rw [hrun] at hdata hout
    rw [hprog'] at hmode hout
    rw [task1_of_prog hprog' k] at hown
    refine ⟨_, taskPublication_done hcyc hprog ((publishable_iff hl hm).mpr ⟨hclosed, hep, hus⟩), hdata, hmode.trans hm, ?_⟩
    rw [hown]
    refine ⟨rfl, rfl, rfl, rfl, rfl, rfl, rfl, rfl, ?_, fun j hj => (hothers j hj).trans (task1_of_prog hprog' j)⟩
    rw [hout, List.foldl_map]
    rfl
  case refine_3 =>
    have hown := applyVals_task1 (dueVals (s.task1 k).applyPend s.epoch) s.closeEdge k
      { s.task1 k with applyPend := laterVals (s.task1 k).applyPend s.epoch }
    have hprog := applyVals_prog (dueVals (s.task1 k).applyPend s.epoch) (s.closeEdge.setTask k
      { s.task1 k with applyPend := laterVals (s.task1 k).applyPend s.epoch })
    rw [hown, hprog]
    exact ⟨rfl, rfl, congrArg (fun q => q.run.data) (closeEdge_fields s).1, rfl⟩
  case refine_4 =>
    have hown := applyVals_task1 (dueVals (s.task1 k).stopPend s.epoch) s.closeEdge k
      { s.task1 k with stopPend := laterVals (s.task1 k).stopPend s.epoch }
    have hprog := applyVals_prog (dueVals (s.task1 k).stopPend s.epoch) (s.closeEdge.setTask k
      { s.task1 k with stopPend := laterVals (s.task1 k).stopPend s.epoch })
    rw [hown, hprog]
    exact ⟨rfl, rfl, congrArg (fun q => q.run.data) (closeEdge_fields s).1, rfl⟩
  case refine_5 =>
    obtain ⟨hown, hhas, hep, -, hrest⟩ := applyPoint_applied (a := a) (v := v) hc hfit hmode
    exact ⟨hown, hhas, hep, hrest⟩

/-- Settles O51: each row under the hypotheses that place it. -/
theorem taskRowsComplete : Obligations.TaskRowsComplete := by
  unfold Obligations.TaskRowsComplete
  refine ⟨fun k s hl hord hk hm hen hct hcyc hlast => ?_,
    fun k us y p s hcyc hprog hl hm => ⟨fun hclosed hep hus => ?_, fun hno => ?_⟩,
    fun k c a v s hl hfit hc hmode hdue => ⟨fun hpend => ?_, fun hpend => ?_⟩⟩
  case refine_1 =>
    refine taskCycleStart_due ?_
    have hfirst : (!(s.task1 k).everPub || (s.task1 k).lastCycle != s.epoch) = true := by
      rcases hlast with h | h
      · rw [h]
        rfl
      · rw [bne_iff_ne.mpr h, Bool.or_true]
    simp only [State.cycleDue, State.orderOk, hl, decide_eq_true hord, decide_eq_true hk, hm, hen, hct, hcyc, hfirst]
    rfl
  case refine_2 => exact taskPublication_done hcyc hprog ((publishable_iff hl hm).mpr ⟨hclosed, hep, hus⟩)
  case refine_3 =>
    refine taskPublication_none hcyc hprog (Bool.eq_false_iff.mpr fun h => ?_)
    obtain ⟨hclosed, hep, -⟩ := (publishable_iff hl hm).mp h
    rcases hno with h | h
    · exact absurd (hclosed.symm.trans h) (by decide)
    · omega
  case refine_4 =>
    have happ := taskApply_live k hl
    rw [hpend, laterVals_due _ hdue, dueVals_due _ hdue] at happ
    exact ⟨_, happ, applyVals_single _ hc hfit hmode rfl⟩
  case refine_5 =>
    have happ := stopValuesApply_live k hl
    rw [hpend, laterVals_due _ hdue, dueVals_due _ hdue] at happ
    exact ⟨_, happ, applyVals_single _ hc hfit hmode rfl⟩

end Sys2Proof.Proofs

/-! PROOF. Controller modes, watchdogs, retained copies and the exchange of programs (R260 to R266, R276 to R281)
(O25). -/

namespace Sys2Proof.Proofs
open Sys2Proof.Machine Sys2Proof.Laws

/-- The fields of the program engine that outputs, posting and copies leave alone. -/
structure ProgKept (s t : State) : Prop where
  bankA : t.prog.bankA = s.prog.bankA
  bankB : t.prog.bankB = s.prog.bankB
  activeB : t.prog.activeB = s.prog.activeB
  hasActive : t.prog.hasActive = s.prog.hasActive
  staged : t.prog.staged = s.prog.staged
  op : t.prog.op = s.prog.op
  floor : t.prog.floor = s.prog.floor
  modeDue : t.prog.modeDue = s.prog.modeDue
  startDue : t.prog.startDue = s.prog.startDue
  mode : t.prog.run.mode = s.prog.run.mode
  data : t.prog.run.data = s.prog.run.data
  faultCause : t.prog.run.faultCause = s.prog.run.faultCause
  faultTask : t.prog.run.faultTask = s.prog.run.faultTask
  faultCycle : t.prog.run.faultCycle = s.prog.run.faultCycle
  faultEpoch : t.prog.run.faultEpoch = s.prog.run.faultEpoch

theorem progKept_of_progPart {s t : State} (h : progPart t = progPart s) : ProgKept s t := by
  simp only [progPart, Prod.mk.injEq] at h
  constructor <;> simp only [h]

theorem ProgKept.trans {s t u : State} (h : ProgKept s t) (h' : ProgKept t u) : ProgKept s u where
  bankA := h'.bankA.trans h.bankA
  bankB := h'.bankB.trans h.bankB
  activeB := h'.activeB.trans h.activeB
  hasActive := h'.hasActive.trans h.hasActive
  staged := h'.staged.trans h.staged
  op := h'.op.trans h.op
  floor := h'.floor.trans h.floor
  modeDue := h'.modeDue.trans h.modeDue
  startDue := h'.startDue.trans h.startDue
  mode := h'.mode.trans h.mode
  data := h'.data.trans h.data
  faultCause := h'.faultCause.trans h.faultCause
  faultTask := h'.faultTask.trans h.faultTask
  faultCycle := h'.faultCycle.trans h.faultCycle
  faultEpoch := h'.faultEpoch.trans h.faultEpoch

/-- A retained copy writes the copies alone (R280). -/
theorem doRetain_shape (s : State) : ∃ a b n l e, s.doRetain = { s with
    prog.retainA := a, prog.retainB := b, prog.retainNextB := n, prog.lastRetain := l, prog.retainEpoch := e } := by
  unfold State.doRetain
  split
  · exact ⟨_, _, _, _, _, rfl⟩
  · exact ⟨s.prog.retainA, s.prog.retainB, s.prog.retainNextB, s.prog.lastRetain, s.prog.retainEpoch, rfl⟩

/-! ### Cycles that are abandoned (R255) -/

/-- No task is in a cycle. -/
def NoCycles (s : State) : Prop := ∀ k, (s.task1 k).cycle = none

theorem noCycles_of_prog {s t : State} (h : t.prog = s.prog) (hs : NoCycles s) : NoCycles t := fun k => by
  rw [task1_of_prog h]
  exact hs k

theorem noCycles_abandon (s : State) : NoCycles s.abandonCycles := fun k => by
  unfold State.abandonCycles State.task1 tgetD
  dsimp only
  rw [tget_tmap]
  cases tget s.prog.run.tasks k <;> rfl

theorem noCycles_setTask {s : State} (hs : NoCycles s) (k : Nat) (x : TaskSt) (hx : x.cycle = none) :
    NoCycles (s.setTask k x) := fun j => by
  by_cases hj : j = k
  · rw [hj, task1_setTask_same]
    exact hx
  · rw [task1_setTask_other _ _ hj]
    exact hs j

theorem noCycles_foldl {α : Type} {f : State → α → State} (hf : ∀ a x, NoCycles a → NoCycles (f a x)) (l : List α)
    {s : State} (hs : NoCycles s) : NoCycles (l.foldl f s) := by
  induction l generalizing s with
  | nil => exact hs
  | cons x l ih => exact ih (hf s x hs)

theorem noCycles_putVals {s : State} (hs : NoCycles s) (l : List (Nat × F32)) : NoCycles (s.putVals l) := hs

theorem noCycles_stopTask {s : State} (hs : NoCycles s) (p : Program) (k : Nat) : NoCycles (s.stopTask p k) := by
  unfold State.stopTask
  refine noCycles_of_prog (congrArg Prod.fst (applyPart_stnExtra _ k _)) (noCycles_setTask (noCycles_putVals hs _) k _ ?_)
  exact noCycles_putVals hs _ k

theorem noCycles_stopOutputs {s : State} (hs : NoCycles s) : NoCycles s.stopOutputs := by
  unfold State.stopOutputs
  split
  · exact noCycles_foldl (fun a k ha => noCycles_stopTask ha _ k) _ hs
  · exact hs

theorem noCycles_safeTask {s : State} (hs : NoCycles s) (p : Program) (k : Nat) : NoCycles (s.safeTask p k) := by
  unfold State.safeTask
  refine noCycles_of_prog (congrArg Prod.fst (applyPart_stnExtra _ k _)) ?_
  refine noCycles_of_prog (foldl_applyPoint_prog _ _ _) (noCycles_setTask (noCycles_putVals hs _) k _ ?_)
  exact noCycles_putVals hs _ k

theorem noCycles_safeOutputs {s : State} (hs : NoCycles s) : NoCycles s.safeOutputs := by
  unfold State.safeOutputs
  split
  · exact noCycles_foldl (fun a k ha => noCycles_safeTask ha _ k) _ hs
  · exact hs

/-! ### The modes (R260 to R266) -/

/-- What an entry into a mode leaves of what the obligation speaks of. -/
structure ModeEntered (s t : State) (mode : Nat) : Prop where
  mode : t.prog.run.mode = mode
  modeDue : t.prog.modeDue = s.prog.modeDue
  order : t.order = s.order

theorem toStop_entered (s : State) : ModeEntered s s.toStop 1 ∧ NoCycles s.toStop := by
  obtain ⟨u, hu, hdue, hord⟩ : ∃ u : State,
      s.toStop = ({ u with prog.run.mode := 1 } : State).abandonCycles.stopOutputs ∧
      u.prog.modeDue = s.prog.modeDue ∧ u.order = s.order := by
    unfold State.toStop
    dsimp only
    split
    · obtain ⟨a, b, n, l, e, hret⟩ := doRetain_shape s
      rw [hret]
      exact ⟨_, rfl, rfl, rfl⟩
    · exact ⟨s, rfl, rfl, rfl⟩
  rw [hu]
  have hkept := progKept_of_progPart (progPart_stopOutputs ({ u with prog.run.mode := 1 } : State).abandonCycles)
  have horder := congrArg Prod.fst (orderPart_stopOutputs ({ u with prog.run.mode := 1 } : State).abandonCycles)
  exact ⟨⟨hkept.mode, hkept.modeDue.trans hdue, horder.trans hord⟩, noCycles_stopOutputs (noCycles_abandon _)⟩

theorem toHold_entered (s : State) : ModeEntered s s.toHold 3 ∧ NoCycles s.toHold ∧
    s.toHold.prog.run.holdFrom = s.epoch ∧ s.toHold.prog.run.holdMax = s.pn P.HOLD_MAX_S 0 := by
  obtain ⟨a, b, n, l, e, hret⟩ := doRetain_shape s
  have hhold : s.toHold = ({ s.doRetain with
    prog.run.mode := 3, prog.run.holdFrom := s.epoch, prog.run.holdMax := s.pn P.HOLD_MAX_S 0 } : State).abandonCycles := rfl
  rw [hret] at hhold
  rw [hhold]
  exact ⟨⟨rfl, rfl, rfl⟩, noCycles_abandon _, rfl, rfl⟩

/-- The end of an exchange touches its operation, and posts. -/
theorem endExchange_frame (s : State) (status detail : Nat) (data : List Byte) :
    ∃ o n, PostsOnly { s with prog.op := o, prog.openNote := n } (s.endExchange status detail data) := by
  unfold State.endExchange
  split
  · split
    · exact ⟨_, _, complete_postsOnly _ _ _ _ _⟩
    · exact ⟨s.prog.op, s.prog.openNote, .refl s⟩
  · exact ⟨s.prog.op, s.prog.openNote, .refl s⟩

theorem PostsOnly.prog_eq {s t : State} (h : PostsOnly s t) : t.prog = s.prog := (congrArg State.prog h).trans rfl

theorem PostsOnly.order_eq {s t : State} (h : PostsOnly s t) : t.order = s.order := (congrArg State.order h).trans rfl

theorem toRun_entered (s : State) : ModeEntered s s.toRun 2 ∧ s.toRun.prog.startDue = false := by
  obtain ⟨o, n, h⟩ := endExchange_frame { s with prog.run.mode := 2, prog.startDue := false } St.WRONG_MODE 0 []
  have hprog := h.prog_eq
  refine ⟨⟨?_, ?_, h.order_eq⟩, ?_⟩
  · exact (congrArg (fun p : ProgSt => p.run.mode) hprog).trans rfl
  · exact (congrArg ProgSt.modeDue hprog).trans rfl
  · exact (congrArg ProgSt.startDue hprog).trans rfl

/-- The mode that a mode command leads to. -/
def modeOf (cmd : Nat) : Nat := if cmd = 2 then 2 else if cmd = 3 then 3 else 1

theorem modeEffect_entered {s : State} (c : Nat) (hl : modeListed c s.prog.run.mode = true) :
    ModeEntered s (s.modeEffect c) (modeOf c) ∧ (c = 2 → (s.modeEffect c).prog.startDue = false) ∧
      (c ≠ 2 → NoCycles (s.modeEffect c)) ∧
      (c = 3 → (s.modeEffect c).prog.run.holdFrom = s.epoch ∧ (s.modeEffect c).prog.run.holdMax = s.pn P.HOLD_MAX_S 0) := by
  have heff : s.modeEffect c = if c = 2 then s.toRun else if c = 3 then s.toHold else s.toStop := if_pos hl
  rw [heff]
  by_cases h2 : c = 2
  · obtain ⟨hmode, hstart⟩ := toRun_entered s
    rw [if_pos h2, modeOf, if_pos h2]
    exact ⟨hmode, fun _ => hstart, fun hn => absurd h2 hn, fun h3 => absurd (h2.symm.trans h3) (by decide)⟩
  · rw [if_neg h2, modeOf, if_neg h2]
    by_cases h3 : c = 3
    · obtain ⟨hmode, hno, hfrom, hmax⟩ := toHold_entered s
      rw [if_pos h3, if_pos h3]
      exact ⟨hmode, fun h => absurd h h2, fun _ => hno, fun _ => ⟨hfrom, hmax⟩⟩
    · obtain ⟨hmode, hno⟩ := toStop_entered s
      rw [if_neg h3, if_neg h3]
      exact ⟨hmode, fun h => absurd h h2, fun _ => hno, fun h => absurd h h3⟩

/-- A fault of the task watchdog (R266). -/
theorem progFault_effect (s : State) (cause task cycle : Nat) : (s.progFault cause task cycle).prog.run.mode = 4 ∧
    (s.progFault cause task cycle).prog.run.faultCause = cause ∧
    (s.progFault cause task cycle).prog.run.faultTask = task ∧
    (s.progFault cause task cycle).prog.run.faultCycle = cycle ∧
    (s.progFault cause task cycle).prog.run.faultEpoch = s.epoch ∧ NoCycles (s.progFault cause task cycle) := by
  let u := ({ s.closeEdge.doRetain with
    prog.run.mode := 4, prog.run.faultCause := cause, prog.run.faultTask := task,
    prog.run.faultCycle := cycle, prog.run.faultEpoch := s.epoch } : State).abandonCycles
  have hprog : (s.progFault cause task cycle).prog = u.safeOutputs.prog := condition_prog _ _ _
  have hkept := progKept_of_progPart (progPart_safeOutputs u)
  have hno : NoCycles u.safeOutputs := noCycles_safeOutputs (noCycles_abandon _)
  rw [hprog]
  exact ⟨hkept.mode, hkept.faultCause, hkept.faultTask, hkept.faultCycle, hkept.faultEpoch, noCycles_of_prog hprog hno⟩

/-! ### The mode rows -/

section
variable {s : State} (hl : s.live = true) (hord : s.order ≤ 3)
include hl hord

theorem modeChangeApply_single {c a n : Nat} (hdue : s.prog.modeDue = [(c, a, n)]) (ha : a < s.epoch) :
    exec .modeChangeApply s = .next
      ((({ s.atOrder 3 with prog.modeDue := [] } : State).modeTurn (c, a, n)).auditApplied 0) := by
  have hmodes : s.modesDue = [(c, a, n)] := by
    unfold State.modesDue
    rw [hdue, List.filter_cons, if_pos (by simpa using ha)]
    rfl
  have hrest : (s.atOrder 3).prog.modeDue.filter (fun x => !(decide (x.2.1 < s.epoch) && true)) = [] := by
    rw [atOrder_prog, hdue, List.filter_cons, if_neg (by simpa using ha)]
    rfl
  have happ : (s.atOrder 3).applyModes (fun _ => true) =
      ({ s.atOrder 3 with prog.modeDue := [] } : State).modeTurn (c, a, n) := by
    have hmodes' : (s.atOrder 3).modesDue = [(c, a, n)] := hmodes
    have hep : (s.atOrder 3).epoch = s.epoch := rfl
    unfold State.applyModes
    dsimp only
    rw [hmodes', hep, hrest]
    rfl
  rw [← happ]
  exact congrArg Host.Outcome.next (if_pos (by simp [hl, State.orderOk, hord, hmodes]))

theorem holdTimeout_due (hm : s.prog.run.mode = 3)
    (hdue : s.prog.run.holdFrom + s.prog.run.holdMax * 8000 ≤ s.epoch) :
    exec .holdTimeout s = .next ((s.atOrder 3).toStop.auditApplied 0) :=
  congrArg Host.Outcome.next (if_pos (by simp [hl, State.orderOk, hord, hm, hdue]))

theorem progAutoRun_due (hsd : s.prog.startDue = true) (hsm : s.prog.startMode = 1) (hm : s.prog.run.mode = 1)
    (hdie : s.rst.dieReleased = true ∨ s.fitted = false) (hcfg : s.rst.outCfgDone = true) :
    exec .progAutoRun s = .next ((s.atOrder 3).toRun.auditApplied 0) := by
  have hdie' : (s.rst.dieReleased || !s.fitted) = true := by
    rcases hdie with h | h <;> simp [h]
  exact congrArg Host.Outcome.next (if_pos (by simp [hl, State.orderOk, hord, hsd, hsm, hm, hdie', hcfg]))

end

theorem cycleOverrun_due {k : Nat} {y : Cycle} {s : State} (hl : s.live = true) (hm : s.prog.run.mode = 2)
    (hcyc : (s.task1 k).cycle = some y) (hd : y.d ≤ s.epoch) :
    exec (.cycleOverrun k) s = .next (s.progFault 1 k y.c) := by
  show execCycleOverrun k s = _
  unfold execCycleOverrun
  rw [hcyc]
  exact congrArg Host.Outcome.next (if_pos (by simp [hl, hm, hd]))

theorem hasActive_of_activeProg {s : State} {p : Program} (h : s.activeProg = some p) : s.prog.hasActive = true := by
  unfold State.activeProg at h
  by_contra hno
  rw [if_neg hno] at h
  cases h

theorem retainCopy_due {p : Program} {s : State} (hl : s.live = true) (hp : s.activeProg = some p)
    (hdue : s.prog.lastRetain + s.pn P.RETAIN_PERIOD_S 0 * 8000 ≤ s.epoch) :
    exec .retainCopy s = .next s.doRetain :=
  congrArg Host.Outcome.next (if_pos (by simp [hl, hasActive_of_activeProg hp, hdue]))

/-! ### The end of a load (R276) -/

/-- The program data once a load has ended with its code. -/
def loadedProg (q : ProgSt) (code : Nat) (p : Program) : ProgSt :=
  { q with
    op := none
    staged := if code = 0 then true else q.staged
    bankA := if code = 0 ∧ q.activeB = true then some p else q.bankA
    bankB := if code = 0 ∧ q.activeB = false then some p else q.bankB }

theorem loadEnd_prog (s : State) (code : Nat) (p : Program) :
    (if code = 0 then ({ s with prog.op := none } : State).stageProg p else { s with prog.op := none }).prog =
      loadedProg s.prog code p := by
  unfold loadedProg State.stageProg
  by_cases hc : code = 0
  · simp only [hc, if_true, true_and]
    cases s.prog.activeB <;> rfl
  · simp only [hc, if_false, false_and]

theorem progLoadDone_effect {bytes : List Byte} {body : Program} {o : ProgOp} {s : State} (hr : s.ready = true)
    (hop : s.prog.op = some o) (hk : o.kind = 1) : ∃ t, exec (.progLoadDone bytes body) s = .next t ∧
      t.prog = loadedProg s.prog (s.progLoadCode bytes (imgProgram bytes body)) (imgProgram bytes body) := by
  let code := s.progLoadCode bytes (imgProgram bytes body)
  have hrow : exec (.progLoadDone bytes body) s =
      .next ((if code = 0 then ({ s with prog.op := none } : State).stageProg (imgProgram bytes body)
        else { s with prog.op := none }).complete o.handle (codeStatus code) code
          (loadReport (if code = 0 then [] else [failCode code]) 0)) := by
    show execProgLoadDone bytes body s = _
    unfold execProgLoadDone
    rw [hop]
    exact congrArg Host.Outcome.next (if_pos (by simp [hr, hk]))
  refine ⟨_, hrow, (complete_postsOnly _ o.handle _ _ _).prog_eq.trans ?_⟩
  exact loadEnd_prog s code _

theorem loaded_activeProg {s t : State} {code : Nat} {p : Program} (h : t.prog = loadedProg s.prog code p) :
    t.activeProg = s.activeProg := by
  refine activeProg_of_active_bank (by rw [h]; rfl) (by rw [h]; rfl) (fun hside => ?_) (fun hside => ?_)
  · rw [h]
    exact if_neg (by rw [hside]; exact fun hc => Bool.false_ne_true hc.2)
  · rw [h]
    exact if_neg (by rw [hside]; exact fun hc => Bool.false_ne_true hc.2.symm)

theorem loaded_stagedProg {s t : State} {p : Program} (h : t.prog = loadedProg s.prog 0 p) : t.stagedProg = some p := by
  unfold State.stagedProg State.progBank
  rw [h]
  unfold loadedProg
  dsimp only
  cases s.prog.activeB <;> rfl

/-! ### The exchange (R277 to R279) -/

theorem endExchange_op {s : State} {o : ProgOp} (status detail : Nat) (data : List Byte) (hop : s.prog.op = some o)
    (hk : o.kind = 2) : PostsOnly { s with prog.op := none, prog.openNote := none } (s.endExchange status detail data) := by
  unfold State.endExchange
  rw [hop]
  dsimp only
  rw [if_pos hk]
  exact complete_postsOnly _ _ _ _ _

/-- The mode commands that wait are no part of what an exchange checks. -/
theorem responseFrom_modeDue (s : State) (l : List (Nat × Nat × Nat)) (p : Program) (k limit n r : Nat) :
    ({ s with prog.modeDue := l } : State).responseFrom p k limit n r = s.responseFrom p k limit n r := by
  induction n generalizing r with
  | zero => rfl
  | succ n ih =>
    unfold State.responseFrom
    dsimp only
    rw [ih]
    rfl

theorem admits_modeDue (s : State) (l : List (Nat × Nat × Nat)) (p : Program) :
    ({ s with prog.modeDue := l } : State).admits p = s.admits p := by
  have hresp : ∀ k, ({ s with prog.modeDue := l } : State).response p k = s.response p k := fun k =>
    responseFrom_modeDue s l p k _ _ _
  unfold State.admits
  simp only [hresp]
  rfl

theorem exchangeCode_modeDue (s : State) (l : List (Nat × Nat × Nat)) (p : Program) :
    ({ s with prog.modeDue := l } : State).exchangeCode p = s.exchangeCode p := by
  unfold State.exchangeCode
  rw [admits_modeDue]
  rfl

section
variable {s : State} {o : ProgOp} {p : Program} (hop : s.prog.op = some o) (hk : o.kind = 2)
  (hst : s.stagedProg = some p)
include hop hk hst

/-- An exchange that fails a check ends, and changes no program (R277). -/
theorem exchangeNow_fails (hc : s.exchangeCode p ≠ 0) :
    s.exchangeNow.prog = { s.prog with op := none, openNote := none } ∧ s.exchangeNow.order = s.order := by
  have hnow : s.exchangeNow = s.endExchange St.DISAGREE (s.exchangeCode p) [] := by
    unfold State.exchangeNow
    rw [hst]
    exact if_neg hc
  have h := endExchange_op (s := s) St.DISAGREE (s.exchangeCode p) [] hop hk
  rw [hnow]
  exact ⟨h.prog_eq, h.order_eq⟩

/-- An exchange that passes swaps the banks, migrates the data and leaves STOP (R278, R279). -/
theorem exchangeNow_passes (hc : s.exchangeCode p = 0) : s.exchangeNow.prog.op = none ∧
    s.exchangeNow.order = s.order ∧ s.exchangeNow.activeProg = some p ∧ s.exchangeNow.prog.staged = false ∧
    s.exchangeNow.prog.floor = p.serial ∧ s.exchangeNow.prog.run.mode = 1 ∧
    s.exchangeNow.prog.run.data = (migrate s.activeProg s.prog.run.data p).map (fun x => x.1) := by
  let u : State := { s with
    prog.run.data := (migrate s.activeProg s.prog.run.data p).map (fun x => x.1)
    prog.run.outVals := s.prog.run.outVals.filter (fun x => p.outs.any (fun o => o.point == x.1))
    prog.run.tasks := tmap s.prog.run.tasks (fun _ x => { x with responseMaxUs := 0 })
    prog.run.mode := 1
    prog.activeB := !s.prog.activeB, prog.hasActive := true, prog.staged := false
    prog.floor := p.serial }
  let counts := exchangeCounts s.activeProg s.prog.run.data p
  have hkept : ProgKept u u.refreshBounds.stopOutputs :=
    progKept_of_progPart ((progPart_stopOutputs _).trans (progPart_refreshBounds u))
  have horder : u.refreshBounds.stopOutputs.order = s.order :=
    congrArg Prod.fst ((orderPart_stopOutputs _).trans (orderPart_refreshBounds u))
  have hend := endExchange_op St.OK 0 counts (hkept.op.trans hop) hk
  have hnow : s.exchangeNow = (u.refreshBounds.stopOutputs.endExchange St.OK 0 counts).auditApplied p.serial := by
    unfold State.exchangeNow
    rw [hst]
    exact if_pos hc
  have hprog : s.exchangeNow.prog = { u.refreshBounds.stopOutputs.prog with op := none, openNote := none } := by
    rw [hnow, auditApplied_prog]
    exact hend.prog_eq
  have hactive : s.exchangeNow.activeProg = some p := by
    have hbank : u.progBank (!s.prog.activeB) = some p := by
      unfold State.stagedProg at hst
      by_contra hno
      rw [if_pos (by_contra fun h => by rw [if_neg h] at hst; cases hst)] at hst
      exact hno hst
    unfold State.activeProg State.progBank
    rw [hprog]
    dsimp only
    rw [hkept.hasActive, hkept.activeB, hkept.bankA, hkept.bankB]
    exact hbank
  refine ⟨by rw [hprog], ?_, hactive, ?_, ?_, ?_, ?_⟩
  · rw [hnow, auditApplied_order]
    exact hend.order_eq.trans horder
  · rw [hprog]
    exact hkept.staged
  · rw [hprog]
    exact hkept.floor
  · rw [hprog]
    exact hkept.mode
  · rw [hprog]
    exact hkept.data

end

section
variable {s : State} {o : ProgOp} (hl : s.live = true) (hord : s.order ≤ 3) (hop : s.prog.op = some o)
  (hk : o.kind = 2) (hacc : o.acc < s.epoch)
include hl hord hop hk hacc

/-- The state in which the exchange is judged: the mode commands that were accepted before it have acted. -/
theorem progExchangeApply_open : exec .progExchangeApply s = .next (
    let s1 := (s.atOrder 3).applyModes (fun x => decide (x.2.2 < o.seq))
    if s1.prog.op.isSome then s1.exchangeNow else s1) := by
  show execProgExchangeApply s = _
  unfold execProgExchangeApply
  rw [hop]
  exact congrArg Host.Outcome.next (if_pos (by simp [hl, State.orderOk, hord, hk, hacc]))

theorem progExchangeApply_alone (hnone : s.modesDue.filter (fun x => decide (x.2.2 < o.seq)) = []) :
    ∃ l, exec .progExchangeApply s = .next ({ s.atOrder 3 with prog.modeDue := l } : State).exchangeNow := by
  have happ : ∃ l, (s.atOrder 3).applyModes (fun x => decide (x.2.2 < o.seq)) = { s.atOrder 3 with prog.modeDue := l } := by
    have hnone' : (s.atOrder 3).modesDue.filter (fun x => decide (x.2.2 < o.seq)) = [] := hnone
    unfold State.applyModes
    dsimp only
    rw [hnone']
    exact ⟨_, rfl⟩
  obtain ⟨l, happ⟩ := happ
  refine ⟨l, (progExchangeApply_open hl hord hop hk hacc).trans ?_⟩
  rw [happ]
  exact congrArg Host.Outcome.next (if_pos (congrArg Option.isSome hop))

end

/-- Settles O25: each row leads to an entry into a mode, a copy, a staged program or the exchange, and each of these has
its lemma. -/
theorem programModesComplete : Obligations.ProgramModesComplete := by
  unfold Obligations.ProgramModesComplete
  refine ⟨?_, ?_, ?_, ?_, ?_, ?_, ?_⟩
  case refine_1 =>
    intro c a n s hl hord hdue ha
    have hrow := modeChangeApply_single hl hord hdue ha
    refine ⟨fun hno hlist => ?_, fun hyes => hrow.trans ?_⟩
    · have hturn : ({ s.atOrder 3 with prog.modeDue := [] } : State).modeTurn (c, a, n) =
          ({ s.atOrder 3 with prog.modeDue := [] } : State).modeEffect c :=
        congrArg (fun x : State => x.modeEffect c) (if_neg (Bool.eq_false_iff.mp hno))
      rw [hturn] at hrow
      obtain ⟨⟨hmode, hmd, hor⟩, hstart, hno, hhold⟩ :=
        modeEffect_entered (s := { s.atOrder 3 with prog.modeDue := [] }) c hlist
      refine ⟨_, hrow, ?_⟩
      unfold State.task1
      rw [auditApplied_prog, auditApplied_order]
      exact ⟨hmd, hor.trans (max_eq_right hord), hmode, hstart, hno, hhold⟩
    · exact congrArg (fun x : State => Host.Outcome.next ((x.modeEffect c).auditApplied 0)) (if_pos hyes)
  case refine_2 =>
    intro s hl hord hm hdue
    obtain ⟨⟨hmode, -, -⟩, hno⟩ := toStop_entered (s.atOrder 3)
    refine ⟨_, holdTimeout_due hl hord hm hdue, ?_, noCycles_of_prog (auditApplied_prog _ _) hno⟩
    rw [auditApplied_prog]
    exact hmode
  case refine_3 =>
    intro s hl hord hsd hsm hm hdie hcfg
    obtain ⟨⟨hmode, -, -⟩, hstart⟩ := toRun_entered (s.atOrder 3)
    refine ⟨_, progAutoRun_due hl hord hsd hsm hm hdie hcfg, ?_⟩
    rw [auditApplied_prog]
    exact ⟨hmode, hstart⟩
  case refine_4 =>
    intro k y s hl hm
    refine ⟨fun hcyc hd => ⟨_, cycleOverrun_due hl hm hcyc hd, progFault_effect s 1 k y.c⟩, fun hk => ⟨_, ?_, progFault_effect s 2 k _⟩⟩
    exact congrArg Host.Outcome.next (if_pos (by simp [hl, hm, hk]))
  case refine_5 =>
    intro p s hl hp hdue r
    refine (retainCopy_due hl hp hdue).trans (congrArg Host.Outcome.next ?_)
    unfold State.doRetain
    rw [hp]
  case refine_6 =>
    intro bytes body o s hr hop hk p
    obtain ⟨t, ht, hprog⟩ := progLoadDone_effect (bytes := bytes) (body := body) hr hop hk
    refine ⟨rfl, rfl, rfl, t, ht, by rw [hprog]; rfl, loaded_activeProg hprog, by rw [hprog]; rfl, fun hc => ?_, fun hc => ?_⟩
    · exact loaded_stagedProg (s := s) (hprog.trans (congrArg (fun c => loadedProg s.prog c p) hc))
    · rw [hprog]
      exact ⟨if_neg hc, if_neg fun h => hc h.1, if_neg fun h => hc h.1⟩
  case refine_7 =>
    intro o p s hl hord hop hk hacc hst
    refine ⟨progExchangeApply_open hl hord hop hk hacc, fun hnone => ?_⟩
    obtain ⟨l, hrow⟩ := progExchangeApply_alone hl hord hop hk hacc hnone
    have horder : (s.atOrder 3).order = 3 := max_eq_right hord
    let u : State := { s.atOrder 3 with prog.modeDue := l }
    have hop' : u.prog.op = some o := hop
    have hst' : u.stagedProg = some p := hst
    have hcode : u.exchangeCode p = (s.atOrder 3).exchangeCode p := exchangeCode_modeDue (s.atOrder 3) l p
    by_cases hc : (s.atOrder 3).exchangeCode p = 0
    · obtain ⟨hno, hor, hact, hstg, hfl, hmode, hdata⟩ := exchangeNow_passes hop' hk hst' (hcode.trans hc)
      exact ⟨_, hrow, hno, hor.trans horder, fun _ => ⟨hact, hstg, hfl, hmode, hdata⟩, fun hn => absurd hc hn⟩
    · obtain ⟨hprog, hor⟩ := exchangeNow_fails hop' hk hst' (fun h => hc (hcode.symm.trans h))
      refine ⟨_, hrow, by rw [hprog], hor.trans horder, fun h => absurd h hc, fun _ => ⟨?_, ?_, by rw [hprog]; rfl⟩⟩
      · exact activeProg_of_active_bank (by rw [hprog]; rfl) (by rw [hprog]; rfl) (fun _ => by rw [hprog]; rfl)
          (fun _ => by rw [hprog]; rfl)
      · refine Eq.trans ?_ hst
        unfold State.stagedProg State.progBank
        rw [hprog]
        rfl

end Sys2Proof.Proofs

/-! PROOF. The control lanes: samples, overruns, bank swaps, acknowledgement and period (R222 to R242) (O27). -/

namespace Sys2Proof.Proofs
open Sys2Proof.Machine Sys2Proof.Laws

@[simp] theorem lane_setLane_same (s : State) (l : Nat) (v : Lane) : (s.setLane l v).lane? l = v := tgetD_tset_same _ _ _ _

theorem lane_setLane_other (s : State) {l k : Nat} (v : Lane) (h : k ≠ l) : (s.setLane l v).lane? k = s.lane? k :=
  tgetD_tset_other _ _ _ _ _ h

theorem lane_of_lane {s t : State} (h : t.lane = s.lane) (l : Nat) : t.lane? l = s.lane? l := by
  unfold State.lane?
  rw [h]

/-- A parameter outside the lane banks is the committed one, whatever the lanes are. -/
theorem pn_setLane {id : Nat} (s : State) (l : Nat) (v : Lane) (idx : Nat) (h : isBankId id = false) :
    (s.setLane l v).pn id idx = s.pn id idx := by
  unfold State.pn State.pv
  rw [h]
  rfl

/-! ### Samples (R222, R225) -/

/-- The lane whose sample has started. -/
def sampling (s : State) (l : Nat) : Lane :=
  { s.lane? l with
    enabled := true, lastDue := some s.epoch
    sample := some { start := s.epoch, next := ((s.atOrder 7).laneEdge l).laneSampleCore l, point := s.ptRef P.OUT_POINT l
                     value := (((s.atOrder 7).laneEdge l).laneSampleCore l).out } }

section
variable {s : State} {l : Nat} (hrun : s.lanesRun = true) (hord : s.order ≤ 7) (hl : l < 1024)
  (htick : s.laneTick l = true) (hdue : (s.lane? l).lastDue ≠ some s.epoch) (hidle : (s.lane? l).sample = none)
include hrun hord hl htick hdue hidle

theorem laneSampleStart_due : (s.lanesRun && s.orderOk 7 && decide (l < 1024) && s.laneTick l &&
    (s.lane? l).lastDue != some s.epoch && (s.lane? l).sample.isNone) = true := by
  simp [hrun, State.orderOk, hord, hl, htick, hdue, hidle]

theorem laneSampleStart_starts (hen : s.pn P.LANE_ENABLE l = 1) (hturn : s.procTurn l = true) :
    exec (.laneSampleStart l) s = .next (({ s with order := 7 } : State).setLane l (sampling s l)) := by
  have hstart : (s.atOrder 7).laneStart l = ({ s with order := 7 } : State).setLane l (sampling s l) := by
    rw [← atOrder_seven hord]
    rfl
  rw [← hstart]
  exact congrArg Host.Outcome.next
    ((if_pos (laneSampleStart_due hrun hord hl htick hdue hidle)).trans ((if_pos hen).trans (if_pos hturn)))

theorem laneSampleStart_stops (hen : s.pn P.LANE_ENABLE l ≠ 1) (hwas : (s.lane? l).enabled = true) :
    exec (.laneSampleStart l) s = .next (({ s with order := 7 } : State).setLane l { s.lane? l with
      enabled := false, core := {}, window := [], lastDue := some s.epoch }) := by
  rw [← atOrder_seven hord]
  exact congrArg Host.Outcome.next
    ((if_pos (laneSampleStart_due hrun hord hl htick hdue hidle)).trans ((if_neg hen).trans (if_pos hwas)))

end

/-- The lane whose sample has completed in its tick (R225). -/
def sampled (s : State) (l : Nat) (x : LaneSample) : Lane :=
  { s.lane? l with
    core := x.next, sample := none, swapBumpless := false
    window := (false :: (s.lane? l).window).take (s.pn P.OVR_WINDOW l) }

/-- The state in which the value of a completed sample goes out. -/
theorem laneDone_base (s : State) (l : Nat) (c : LaneCore) (v : Lane) :
    ∃ pe, (s.closeEdge.setLane l v).noteImpl l c = { s with
      lane.lanes := tset s.lane.lanes l v, perc := pe, edge := s.closeEdge.edge } := by
  rw [closeEdge_shape s]
  unfold State.noteImpl
  split
  · exact ⟨_, rfl⟩
  · exact ⟨s.perc, rfl⟩

section
variable {s : State} {l : Nat} {x : LaneSample} (hx : (s.lane? l).sample = some x) (hrun : s.lanesRun = true)
  (hstart : x.start = s.epoch)
include hx hrun hstart

theorem laneSampleComplete_done : exec (.laneSampleComplete l) s = .next (s.closeEdge.laneDone l x) := by
  show execLaneSampleComplete l s = _
  unfold execLaneSampleComplete
  rw [hx]
  exact congrArg Host.Outcome.next (if_pos (by simp [hrun, hstart]))

theorem laneSampleComplete_effect : ∃ t u pe, exec (.laneSampleComplete l) s = .next t ∧
    u = { s with lane.lanes := tset s.lane.lanes l (sampled s l x), perc := pe, edge := s.closeEdge.edge } ∧
    (x.point = none → t = u) ∧ (∀ p, x.point = some p → t = u.applyPoint p x.value s.epoch) := by
  obtain ⟨pe, hu⟩ := laneDone_base s l x.next (sampled s l x)
  have hbase : s.closeEdge.setLane l { s.closeEdge.lane? l with
      core := x.next, sample := none, swapBumpless := false
      window := (false :: (s.closeEdge.lane? l).window).take (s.closeEdge.pn P.OVR_WINDOW l) } =
      s.closeEdge.setLane l (sampled s l x) := by
    rw [closeEdge_shape s]
    rfl
  have hep : s.closeEdge.epoch = s.epoch := by rw [closeEdge_shape s]
  refine ⟨_, _, pe, laneSampleComplete_done hx hrun hstart, rfl, fun hnone => ?_, fun p hp => ?_⟩
  · unfold State.laneDone
    dsimp only
    rw [hnone, ← hu, hbase]
  · unfold State.laneDone
    dsimp only
    rw [hp, ← hu, hbase, hep]

end

theorem applyPoint_lane (s : State) (p : Nat) (v : F32) (a : Nat) : (s.applyPoint p v a).lane = s.lane :=
  congrArg Prod.fst (lanePart_applyPoint s p v a)

/-! ### Overruns (R239, R240) -/

/-- The window of a lane that has lost a sample. -/
def missWindow (s : State) (l : Nat) : List Bool := (true :: (s.lane? l).window).take (s.pn P.OVR_WINDOW l)

/-- The lane that has lost a sample. -/
def missedLane (s : State) (l : Nat) : Lane :=
  { s.lane? l with
    sample := none, lastDue := some s.epoch, overruns := (s.lane? l).overruns + 1, window := missWindow s l }

/-- The state in which a lost sample has been counted. -/
def missedState (s : State) (l : Nat) : State :=
  { s.setLane l (missedLane s l) with lane.overrunsTotal := s.lane.overrunsTotal + 1 }

theorem laneMiss_eq (s : State) (l : Nat) : s.laneMiss l =
    if s.pn P.OVR_LIMIT l ≤ ((missWindow s l).filter (fun b => b)).length then (missedState s l).laneReact l
    else missedState s l := rfl

theorem lane_missedState (s : State) (l : Nat) : (missedState s l).lane? l = missedLane s l :=
  lane_setLane_same s l (missedLane s l)

/-- The lane that goes SAFE for its overruns. -/
def safeLane (z : Lane) : Lane :=
  { z with window := [], core := { z.core with state := 5, safeByOvr := true, ackHeld := false, normalSince := none } }

/-- The lane whose period is doubled. -/
def slowLane (z : Lane) : Lane := { z with window := [], periodForce := 2 * z.periodForce, periodDoubled := true }

theorem laneReact_eq (s : State) (l : Nat) : s.laneReact l =
    if s.pn P.OVR_ACTION l = 1 ∨ 480000 < 2 * (s.lane? l).periodForce then
      (s.setLane l { s.lane? l with window := [] }).setLane l (safeLane (s.lane? l))
    else (s.setLane l { s.lane? l with window := [] }).setLane l (slowLane (s.lane? l)) := by
  unfold State.laneReact
  dsimp only
  refine if_congr (by simp) ?_ ?_
  · unfold State.laneSafeOvr safeLane
    rw [lane_setLane_same]
  · unfold slowLane
    rw [lane_setLane_same]

theorem ovrAction_missedState (s : State) (l : Nat) : (missedState s l).pn P.OVR_ACTION l = s.pn P.OVR_ACTION l :=
  (rfl : (missedState s l).pn P.OVR_ACTION l = (s.setLane l (missedLane s l)).pn P.OVR_ACTION l).trans
    (pn_setLane s l _ l (by decide))

/-- What a lost sample leaves: the lane alone changes, as its window and its overrun action say. -/
structure Missed (s t : State) (l : Nat) : Prop where
  rest : t = { s with lane := t.lane }
  total : t.lane.overrunsTotal = s.lane.overrunsTotal + 1
  below : ((missWindow s l).filter (fun b => b)).length < s.pn P.OVR_LIMIT l → t.lane? l = missedLane s l
  safe : s.pn P.OVR_LIMIT l ≤ ((missWindow s l).filter (fun b => b)).length →
    (s.pn P.OVR_ACTION l = 1 ∨ 480000 < 2 * (s.lane? l).periodForce) → t.lane? l = safeLane (missedLane s l)
  slow : s.pn P.OVR_LIMIT l ≤ ((missWindow s l).filter (fun b => b)).length → s.pn P.OVR_ACTION l ≠ 1 →
    2 * (s.lane? l).periodForce ≤ 480000 → t.lane? l = slowLane (missedLane s l)

theorem laneMiss_missed (s : State) (l : Nat) : Missed s (s.laneMiss l) l := by
  rw [laneMiss_eq]
  by_cases hlim : s.pn P.OVR_LIMIT l ≤ ((missWindow s l).filter (fun b => b)).length
  · have hforce : ((missedState s l).lane? l).periodForce = (s.lane? l).periodForce := by
      rw [lane_missedState]
      rfl
    rw [if_pos hlim, laneReact_eq, ovrAction_missedState, hforce, lane_missedState]
    by_cases hact : s.pn P.OVR_ACTION l = 1 ∨ 480000 < 2 * (s.lane? l).periodForce
    · rw [if_pos hact]
      refine ⟨rfl, rfl, fun h => absurd hlim (by omega), fun _ _ => lane_setLane_same _ _ _, fun _ h1 h2 => ?_⟩
      rcases hact with h | h
      · exact absurd h h1
      · omega
    · rw [if_neg hact]
      exact ⟨rfl, rfl, fun h => absurd hlim (by omega), fun _ h => absurd h hact, fun _ _ _ => lane_setLane_same _ _ _⟩
  · rw [if_neg hlim]
    exact ⟨rfl, rfl, fun _ => lane_missedState s l, fun h => absurd h hlim, fun h => absurd h hlim⟩

/-! ### Bank swaps (R234) -/

/-- A lane whose swap is pending. -/
def swapPending (z : Lane) (e acc : Nat) : Lane := { z with swapPend := some e, swapAcc := acc }

/-- The lanes of a BANK_SWAP, one after the other. -/
def swapLanes (s : State) (lanes : List Nat) (e : Nat) : State :=
  lanes.foldl (fun a l => a.setLane l (swapPending (a.lane? l) e a.epoch)) s

theorem swapLanes_shape (lanes : List Nat) (e : Nat) (s : State) :
    ∃ t, swapLanes s lanes e = { s with lane.lanes := t } := by
  unfold swapLanes
  induction lanes generalizing s with
  | nil => exact ⟨s.lane.lanes, rfl⟩
  | cons l lanes ih =>
    obtain ⟨t, ht⟩ := ih (s.setLane l (swapPending (s.lane? l) e s.epoch))
    exact ⟨t, ht⟩

theorem swapLanes_lane (lanes : List Nat) (e : Nat) (s : State) (k : Nat) : (swapLanes s lanes e).lane? k =
    if k ∈ lanes then swapPending (s.lane? k) e s.epoch else s.lane? k := by
  unfold swapLanes
  induction lanes generalizing s with
  | nil => rfl
  | cons l lanes ih =>
    rw [List.foldl_cons, ih]
    have hep : (s.setLane l (swapPending (s.lane? l) e s.epoch)).epoch = s.epoch := rfl
    rw [hep]
    by_cases hk : k = l
    · rw [hk, lane_setLane_same, if_pos (List.mem_cons.mpr (.inl rfl))]
      split <;> rfl
    · have hmem : k ∈ l :: lanes ↔ k ∈ lanes := by simp [hk]
      rw [lane_setLane_other _ _ hk, if_congr hmem rfl rfl]

section
variable {s u : State} (h : Silent s u)
include h

theorem silent_lane? (l : Nat) : u.lane? l = s.lane? l := lane_of_lane (silent_lane h) l

theorem silent_bankOk (l : Nat) : u.bankOk (u.inactiveBank l) l = s.bankOk (s.inactiveBank l) l := by
  rw [h.rest]
  rfl

theorem silent_slotsOk : u.slotsOk = s.slotsOk := by
  rw [h.rest]
  rfl

end

theorem bankSwap_effect {h : Hdr} {lanes : List Nat} {e : Nat} {n : U32} {s : State}
    (ha : s.admitted bankSwapInfo h = true) (hrange : swapRange lanes e s.epoch = true)
    (hpend : lanes.any (fun l => (s.lane? l).swapPend.isSome) = false)
    (hbank : lanes.any (fun l => !s.bankOk (s.inactiveBank l) l) = false) (hslot : s.slotsOk = true)
    (hn : s.nextHandle = some n) : ∃ t, exec (.bankSwap h lanes e) s = .next t ∧
      Silent { s with lane := t.lane, host.handles := t.host.handles, host.freeList := t.host.freeList } t ∧
      t.lane.swaps = s.lane.swaps ++ [{ handle := n, lanes := lanes }] ∧
      ∀ l, t.lane? l = if l ∈ lanes then swapPending (s.lane? l) e s.epoch else s.lane? l := by
  have hu := silent_take s h
  have hv : bankSwapVerdict h lanes e (s.take h) =
      (s.take h).long h 0x0A01 (fun n t => t.swapOpen n lanes e) := by
    unfold bankSwapVerdict
    simp only [silent_lane? hu, silent_bankOk hu, silent_slotsOk hu, take_epoch]
    rw [hrange, hpend, hbank, hslot]
    rfl
  obtain ⟨u, hs, fr, hu, hcmd⟩ := command_long s bankSwapInfo h e _ _ _ n ha hn hv
  obtain ⟨tab, htab⟩ := swapLanes_shape lanes e { u with host.handles := hs, host.freeList := fr }
  have hopen : ({ u with host.handles := hs, host.freeList := fr } : State).swapOpen n lanes e =
      { u with host.handles := hs, host.freeList := fr, lane := { u.lane with
        lanes := tab, swaps := u.lane.swaps ++ [{ handle := n, lanes := lanes }] } } := by
    unfold State.swapOpen
    dsimp only
    have hdef : lanes.foldl (fun a l => a.setLane l { a.lane? l with swapPend := some e, swapAcc := a.epoch })
      { u with host.handles := hs, host.freeList := fr } =
      swapLanes { u with host.handles := hs, host.freeList := fr } lanes e := rfl
    rw [hdef, htab]
  refine ⟨_, congrArg Host.Outcome.next (hcmd.trans hopen), silent_free_with_lane hu _ _ _, ?_, fun l => ?_⟩
  · dsimp only
    rw [silent_lane hu]
  · have hl := swapLanes_lane lanes e { u with host.handles := hs, host.freeList := fr } l
    rw [htab] at hl
    have hsame : ({ u with host.handles := hs, host.freeList := fr } : State).lane? l = s.lane? l := silent_lane? hu l
    have hep : ({ u with host.handles := hs, host.freeList := fr } : State).epoch = s.epoch := (silent_epoch hu :)
    rw [hsame, hep] at hl
    exact hl

/-- The operations that wait for swaps do not touch the lanes. -/
theorem swapNote_lanes (s : State) (l : Nat) : (s.swapNote l).lane.lanes = s.lane.lanes := by
  have hfold : ∀ (ops : List SwapOp) (u : State),
      (ops.foldl (fun a o => a.complete o.handle St.OK 0 []) u).lane = u.lane := fun ops u =>
    congrArg Prod.fst (lanePart_foldl ops _ u fun a o => lanePart_complete a o.handle St.OK 0 [])
  exact (congrArg LaneSt.lanes (hfold _ _) : (s.swapNote l).lane.lanes = _)

/-- The lane whose banks have changed places. -/
def swappedLane (s : State) (l : Nat) (bump : Bool) : Lane :=
  { s.lane? l with bankSel := !(s.lane? l).bankSel, swapPend := none, swapBumpless := bump }

theorem doSwap_lane (s : State) (l : Nat) : (∃ b, (s.doSwap l).lane? l = swappedLane s l b) ∧
    ∀ k, k ≠ l → (s.doSwap l).lane? k = s.lane? k := by
  have hnote : ∀ (u : State) (k : Nat), (u.swapNote l).lane? k = u.lane? k := fun u k =>
    congrArg (fun t : Tab Lane => tgetD t k {}) (swapNote_lanes u l)
  obtain ⟨b, hswap⟩ : ∃ b, s.doSwap l =
      ((s.setLane l { s.lane? l with bankSel := !(s.lane? l).bankSel, swapPend := none }).setLane l
        (swappedLane s l b)).swapNote l := by
    unfold State.doSwap
    dsimp only
    rw [lane_setLane_same]
    exact ⟨_, rfl⟩
  rw [hswap]
  exact ⟨⟨b, (hnote _ l).trans (lane_setLane_same _ _ _)⟩, fun k hk =>
    (hnote _ k).trans ((lane_setLane_other _ _ hk).trans (lane_setLane_other _ _ hk))⟩

theorem laneBankSwapDue_swaps {l e : Nat} {s : State} (hpend : (s.lane? l).swapPend = some e) (hlive : s.live = true)
    (hord : s.order ≤ 5) (hacc : (s.lane? l).swapAcc < s.epoch) (hdue : e ≤ s.epoch)
    (hwhen : s.pn P.LANE_ENABLE l ≠ 1 ∨ s.laneTick l = true) :
    exec (.laneBankSwapDue l) s = .next (((s.atOrder 5).doSwap l).auditApplied 0) := by
  have hgo : (s.pn P.LANE_ENABLE l != 1 || s.laneTick l) = true := by
    rcases hwhen with h | h
    · rw [bne_iff_ne.mpr h, Bool.true_or]
    · rw [h, Bool.or_true]
  show execLaneBankSwapDue l s = _
  unfold execLaneBankSwapDue
  dsimp only
  rw [hpend]
  exact congrArg Host.Outcome.next (if_pos (by simp [hlive, State.orderOk, hord, hacc, hdue, hgo]))

/-! ### Acknowledgement and period (R237, R240) -/

/-- An acknowledgement changes a lane in SAFE alone. -/
theorem laneAcked_shape (s : State) (l : Nat) : ∃ la, s.laneAcked l = { s with lane := la } ∧
    ((s.lane? l).core.state = 5 → (tgetD la.lanes l {}).core = { (s.lane? l).core with ackHeld := true }) ∧
    ((s.lane? l).core.state ≠ 5 → la = s.lane) := by
  unfold State.laneAcked
  dsimp only
  by_cases hsafe : (s.lane? l).core.state = 5
  · rw [if_pos hsafe]
    refine ⟨_, rfl, fun _ => ?_, fun h => absurd hsafe h⟩
    dsimp only
    rw [tgetD_tset_same]
  · rw [if_neg hsafe]
    exact ⟨s.lane, rfl, fun h => absurd h hsafe, fun _ => rfl⟩

theorem laneAck_effect {h : Hdr} {l : Nat} {s : State} (ha : s.admitted laneAckInfo h = true) (hl : l < 1024) :
    ∃ t, exec (.laneAck h l) s = .next t ∧ Silent { s with lane := t.lane } t ∧
      ((s.lane? l).core.state = 5 → (t.lane? l).core = { (s.lane? l).core with ackHeld := true }) ∧
      ((s.lane? l).core.state ≠ 5 → t.lane = s.lane) := by
  have hv : laneAckVerdict l (s.take h) = { act := fun t => t.laneAcked l } := if_pos hl
  have hcmd := command_acts (m := l) ha hv
  have hu : Silent s (s.answered laneAckInfo h l {}) := silent_answered _ _ _ _ _
  obtain ⟨la, hla, hsafe, hother⟩ := laneAcked_shape (s.answered laneAckInfo h l {}) l
  rw [silent_lane? hu] at hsafe hother
  exact ⟨_, congrArg Host.Outcome.next (hcmd.trans hla), silent_with_lane hu la, hsafe,
    fun h => (hother h).trans (silent_lane hu)⟩

theorem periodRestore_effect {h : Hdr} {l : Nat} {s : State} (ha : s.admitted periodRestoreInfo h = true) (hl : l < 1024) :
    ∃ t, exec (.periodRestore h l) s = .next t ∧ Silent { s with lane := t.lane } t ∧
      t.lane? l = { s.lane? l with periodForce := s.pn P.PERIOD_TICKS l, periodDoubled := false } := by
  have hv : periodRestoreVerdict l (s.take h) = { act := fun t => t.periodBack l } := if_pos hl
  have hcmd := command_acts (m := l) ha hv
  have hu : Silent s (s.answered periodRestoreInfo h l {}) := silent_answered _ _ _ _ _
  refine ⟨_, congrArg Host.Outcome.next hcmd, silent_with_lane hu _, ?_⟩
  refine (lane_setLane_same _ _ _).trans ?_
  rw [silent_lane? hu, silent_pn hu]

/-- Settles O27: one lemma per row for what it leaves of the lane that it names. -/
theorem lanesComplete : Obligations.LanesComplete := by
  unfold Obligations.LanesComplete
  refine ⟨?_, ?_, ?_, ?_, ?_, ?_, ?_⟩
  case refine_1 =>
    intro l s hrun hord hl htick hdue hidle
    refine ⟨fun hen hturn => ⟨_, laneSampleStart_starts hrun hord hl htick hdue hidle hen hturn, rfl, ?_⟩,
      fun hen hwas => ⟨_, laneSampleStart_stops hrun hord hl htick hdue hidle hen hwas, rfl, ?_⟩⟩
    · exact lane_setLane_same _ _ _
    · exact lane_setLane_same _ _ _
  case refine_2 =>
    intro l x s hx hrun hstart
    obtain ⟨t, u, pe, ht, hu, hnone, hsome⟩ := laneSampleComplete_effect hx hrun hstart
    have hlane : t.lane = { s.lane with lanes := tset s.lane.lanes l (sampled s l x) } := by
      have hulane : u.lane = { s.lane with lanes := tset s.lane.lanes l (sampled s l x) } := by rw [hu]
      cases hp : x.point with
      | none => rw [hnone hp, hulane]
      | some p => rw [hsome p hp, applyPoint_lane, hulane]
    refine ⟨t, ht, ?_, fun k hk => ?_, fun hp => ?_, fun p hp hlt hfit hmode => ?_⟩
    · unfold State.lane?
      rw [hlane]
      exact tgetD_tset_same _ _ _ _
    · unfold State.lane?
      rw [hlane]
      exact tgetD_tset_other _ _ _ _ _ hk
    · rw [hnone hp, hu]
    · have hfit' : u.fitted = true := by
        rw [hu]
        exact hfit
      have hmode' : isOutMode (u.fio1 p).mode = true := by
        rw [hu]
        exact hmode
      obtain ⟨hown, -, hep, -, -⟩ := applyPoint_applied (a := s.epoch) (v := x.value) hlt hfit' hmode'
      rw [hsome p hp]
      exact ⟨hown, hep⟩
  case refine_3 =>
    intro l s hrun hl hsome w missed
    obtain ⟨hrest, htotal, hbelow, hsafe, hslow⟩ := laneMiss_missed s l
    refine ⟨_, congrArg Host.Outcome.next (if_pos (by simp [hrun, hl, hsome])), hrest, htotal, hbelow, fun hlim hact => ?_,
      hslow⟩
    rw [hsafe hlim hact]
    exact ⟨rfl, rfl, rfl, rfl, rfl⟩
  case refine_4 =>
    intro h lanes e n s ha hrange hpend hbank hslot hn
    exact bankSwap_effect ha hrange hpend hbank hslot hn
  case refine_5 =>
    intro l e s hpend hlive hord hacc hdue hwhen
    obtain ⟨⟨b, hown⟩, hothers⟩ := doSwap_lane (s.atOrder 5) l
    refine ⟨_, laneBankSwapDue_swaps hpend hlive hord hacc hdue hwhen, ?_⟩
    simp only [lane_of_lane (auditApplied_lane _ 0)]
    rw [hown]
    exact ⟨rfl, rfl, rfl, hothers⟩
  case refine_6 => exact fun h l s ha hl => laneAck_effect ha hl
  case refine_7 => exact fun h l s ha hl => periodRestore_effect ha hl

end Sys2Proof.Proofs

/-! PROOF. The receive side of a CAN channel (R348, R354, R357, R358, R368, R369) (O21). -/

namespace Sys2Proof.Proofs
open Sys2Proof.Machine Sys2Proof.Laws

/-! ### Channels and buffers -/

@[simp] theorem canCh_setCanCh_same (s : State) (c : Nat) (v : CanCh) : (s.setCanCh c v).canCh c = v :=
  tgetD_tset_same _ _ _ _

@[simp] theorem canBuf_setCanBuf_same (s : State) (c b : Nat) (v : CanBuf) : (s.setCanBuf c b v).canBuf c b = v :=
  tgetD_tset_same _ _ _ _

theorem canBuf_setCanBuf_other (s : State) {c b d k : Nat} (v : CanBuf) (h : d * 65 + k ≠ c * 65 + b) :
    (s.setCanBuf c b v).canBuf d k = s.canBuf d k := tgetD_tset_other _ _ _ _ _ h

theorem canBuf_of_part {s t : State} (h : canBufPart t = canBufPart s) (c b : Nat) : t.canBuf c b = s.canBuf c b :=
  congrArg (fun p : Tab CanBuf × ParSt => tgetD p.1 (c * 65 + b) {}) h

theorem canCh_of_part {s t : State} (h : canChPart t = canChPart s) (c : Nat) : t.canCh c = s.canCh c :=
  congrArg (fun p : Tab CanCh => tgetD p c {}) h

theorem bufs_of_part {s t : State} (h : canBufPart t = canBufPart s) : t.can.bufs = s.can.bufs := congrArg Prod.fst h

/-! ### The frame that a buffer takes (R357, R358, R368) -/

/-- A buffer of a channel holds a frame, and no other buffer has changed. -/
structure Stored (s t : State) (c b : Nat) (f : CanFrame) : Prop where
  frame : (t.canBuf c b).frame = some { f with data := f.data.take (s.bufN c b 8) }
  undecoded : (t.canBuf c b).undecoded = true
  others : ∀ d k, d * 65 + k ≠ c * 65 + b → t.canBuf d k = s.canBuf d k

theorem storeFrame_stored (s : State) (c b : Nat) (f : CanFrame) : Stored s (s.storeFrame c b f) c b f := by
  obtain ⟨u, hu, hbufs⟩ : ∃ u : State, s.storeFrame c b f = u.setCanBuf c b { s.canBuf c b with
      frame := some { f with data := f.data.take (s.bufN c b 8) }, undecoded := true } ∧
      ∀ d k, u.canBuf d k = s.canBuf d k := by
    unfold State.storeFrame
    dsimp only
    split
    · exact ⟨_, rfl, fun _ _ => rfl⟩
    · exact ⟨s, rfl, fun _ _ => rfl⟩
  rw [hu]
  refine ⟨by rw [canBuf_setCanBuf_same], by rw [canBuf_setCanBuf_same], fun d k h => ?_⟩
  rw [canBuf_setCanBuf_other _ _ h]
  exact hbufs d k

/-- The signal of a high-priority frame fills that buffer. -/
theorem hpSignal_fills (s : State) (c : Nat) (f : CanFrame) :
    (s.hpSignal c f).canBuf c 64 = { s.canBuf c 64 with hpFull := true } ∧
    ∀ d k, d * 65 + k ≠ c * 65 + 64 → (s.hpSignal c f).canBuf d k = s.canBuf d k := by
  obtain ⟨u, hu, hbufs⟩ : ∃ u : State,
      canBufPart (s.hpSignal c f) = canBufPart (u.setCanBuf c 64 { s.canBuf c 64 with hpFull := true }) ∧
      ∀ d k, u.canBuf d k = s.canBuf d k := by
    unfold State.hpSignal
    dsimp only
    split
    · exact ⟨_, (canBufPart_event _ _ _ _).trans (canBufPart_sendMsix _ _), fun _ _ => rfl⟩
    · exact ⟨s, (canBufPart_event _ _ _ _).trans (canBufPart_sendMsix _ _), fun _ _ => rfl⟩
  refine ⟨?_, fun d k h => ?_⟩
  · rw [canBuf_of_part hu, canBuf_setCanBuf_same]
  · rw [canBuf_of_part hu, canBuf_setCanBuf_other _ _ h]
    exact hbufs d k

/-- The state in which a frame stands in its buffer. -/
def takenFrame (s : State) (c b : Nat) (f : CanFrame) : State :=
  if b = 64 then (s.storeFrame c 64 f).hpSignal c f else s.storeFrame c b f

theorem takenFrame_stored (s : State) (c b : Nat) (f : CanFrame) : Stored s (takenFrame s c b f) c b f ∧
    (b = 64 → ((takenFrame s c b f).canBuf c b).hpFull = true) := by
  unfold takenFrame
  by_cases hb : b = 64
  · obtain ⟨hframe, hund, hothers⟩ := storeFrame_stored s c 64 f
    obtain ⟨hfill, hrest⟩ := hpSignal_fills (s.storeFrame c 64 f) c f
    rw [if_pos hb, hb, hfill]
    exact ⟨⟨by rw [hfill]; exact hframe, by rw [hfill]; exact hund, fun d k h => (hrest d k h).trans (hothers d k h)⟩,
      fun _ => rfl⟩
  · rw [if_neg hb]
    exact ⟨storeFrame_stored s c b f, fun h => absurd h hb⟩

/-! ### The counters of a reception (R348, R357, R369) -/

/-- After a reception only the receive error counter and what follows from it change in the channel. -/
theorem canRecOk_ch (s : State) (c : Nat) : (s.canRecOk c).canCh c = s.canCh c ∨
    ∃ r, (s.canRecOk c).canCh c = canErrState { s.canCh c with recErr := r } := by
  unfold State.canRecOk
  dsimp only
  split
  · split
    · exact .inr ⟨_, canCh_setCanCh_same s c _⟩
    · exact .inr ⟨_, canCh_setCanCh_same s c _⟩
  · exact .inl rfl

theorem canRecOk_counts (s : State) (c : Nat) : ((s.canRecOk c).canCh c).rxUnmatched = (s.canCh c).rxUnmatched ∧
    ((s.canRecOk c).canCh c).remoteIgnored = (s.canCh c).remoteIgnored := by
  rcases canRecOk_ch s c with h | ⟨r, h⟩ <;> rw [h]
  · exact ⟨rfl, rfl⟩
  · exact ⟨rfl, rfl⟩

theorem canRecOk_pts (s : State) (c : Nat) : (s.canRecOk c).pts = s.pts := by
  unfold State.canRecOk
  dsimp only
  split
  · split <;> rfl
  · rfl

theorem canRx_stored {s : State} {c b : Nat} {f : CanFrame} (hb : s.rxBuf c f = some b) :
    s.canRx c f = (takenFrame s c b f).canClaimRx c f := by
  unfold State.canRx
  rw [hb]
  rfl

theorem canRx_unmatched {s : State} {c : Nat} {f : CanFrame} (hb : s.rxBuf c f = none) :
    s.canRx c f = (s.setCanCh c { s.canCh c with rxUnmatched := (s.canCh c).rxUnmatched + 1 }).canClaimRx c f := by
  unfold State.canRx
  rw [hb]

section
variable {ch : Nat} {f : CanFrame} {s : State} (hch : ch < 16) (hears : canHears (s.canCh ch) = true)
  (hfmt : s.canFmtOn ch f.fmt = true)
include hch hears hfmt

theorem canFrameRx_heard : (decide (ch < 16) && canHears (s.canCh ch) && s.canFmtOn ch f.fmt) = true := by
  simp [hch, hears, hfmt]

theorem canFrameRx_data : exec (.canFrameRx ch f false) s = .next ((s.canRx ch f).canRecOk ch) :=
  congrArg Host.Outcome.next (if_pos (canFrameRx_heard hch hears hfmt))

theorem canFrameRx_remote : exec (.canFrameRx ch f true) s = .next
    ((s.setCanCh ch { s.canCh ch with remoteIgnored := (s.canCh ch).remoteIgnored + 1 }).canRecOk ch) :=
  congrArg Host.Outcome.next (if_pos (canFrameRx_heard hch hears hfmt))

end

/-! ### CAN_HP_READ (R368) -/

theorem silent_hpReply {s u : State} (h : Silent s u) (ch : Nat) : u.hpReply ch = s.hpReply ch := by
  rw [h.rest]
  rfl

theorem canHpRead_effect {h : Hdr} {ch : Nat} {s : State} (ha : s.admitted canHpReadInfo h = true) (hch : ch < 16)
    (hroom : (s.hpReply ch).length ≤ h.room) :
    exec (.canHpRead h ch) s = .next ((s.answered canHpReadInfo h ch { data := s.hpReply ch }).setCanBuf ch 64
      { s.canBuf ch 64 with hpFull := false }) := by
  let act : State → State := fun t => t.setCanBuf ch 64 { t.canBuf ch 64 with hpFull := false }
  have hreply := silent_hpReply (silent_take s h) ch
  have hv : canHpReadVerdict h ch (s.take h) = { data := s.hpReply ch, act := act } := by
    unfold canHpReadVerdict
    rw [hreply]
    refine if_neg ?_
    simp only [Bool.or_eq_true, decide_eq_true_eq]
    omega
  have hcmd := command_eq (m := ch) ha hv
  have hbuf : (s.answered canHpReadInfo h ch { data := s.hpReply ch, act := act }).canBuf ch 64 = s.canBuf ch 64 :=
    canBuf_of_part (canBufPart_silent (silent_answered _ _ _ _ _)) ch 64
  refine (congrArg Host.Outcome.next hcmd).trans ?_
  show Host.Outcome.next (State.setCanBuf _ ch 64 { State.canBuf _ ch 64 with hpFull := false }) = _
  rw [hbuf]
  rfl

/-- Settles O21: the buffer that the rules name, the counters, and the branches of the three rows of a channel. -/
theorem canReceptionComplete : Obligations.CanReceptionComplete := by
  unfold Obligations.CanReceptionComplete
  refine ⟨fun ch f s hch hears hfmt => ⟨fun b hb => ?_, fun hb => ?_, ?_⟩, fun ch inc s hch hst hint => ?_,
    fun ch s hch hint hst => ?_, fun h ch s ha hch hroom => canHpRead_effect ha hch hroom⟩
  case refine_1 =>
    obtain ⟨⟨hframe, hund, hothers⟩, hfull⟩ := takenFrame_stored s ch b f
    have hpart : ∀ d k, ((s.canRx ch f).canRecOk ch).canBuf d k = (takenFrame s ch b f).canBuf d k := fun d k => by
      rw [canRx_stored hb]
      exact canBuf_of_part ((canBufPart_canRecOk _ _).trans (canBufPart_canClaimRx _ _ _)) d k
    refine ⟨_, canFrameRx_data hch hears hfmt, ?_⟩
    simp only [hpart]
    exact ⟨hframe, hund, hfull, hothers⟩
  case refine_2 =>
    have hrx := canRx_unmatched hb
    obtain ⟨hcount, -⟩ := canRecOk_counts (s.canRx ch f) ch
    refine ⟨_, canFrameRx_data hch hears hfmt, hcount.trans ?_, ?_⟩
    · rw [hrx, canCh_of_part (canChPart_canClaimRx _ _ _), canCh_setCanCh_same]
    · rw [bufs_of_part (canBufPart_canRecOk _ _), hrx, bufs_of_part (canBufPart_canClaimRx _ _ _)]
      rfl
  case refine_3 =>
    obtain ⟨-, hcount⟩ := canRecOk_counts
      (s.setCanCh ch { s.canCh ch with remoteIgnored := (s.canCh ch).remoteIgnored + 1 }) ch
    refine ⟨_, canFrameRx_remote hch hears hfmt, hcount.trans ?_, ?_, canRecOk_pts _ _⟩
    · rw [canCh_setCanCh_same]
    · rw [bufs_of_part (canBufPart_canRecOk _ _)]
      rfl
  case refine_4 =>
    refine congrArg Host.Outcome.next (if_pos ?_)
    rcases hst with h | h <;> simp [hch, hint, h]
  case refine_5 =>
    refine congrArg Host.Outcome.next (if_pos ?_)
    rcases hst with h | h | h | h <;> simp [hch, hint, h, canHears]

end Sys2Proof.Proofs

/-! PROOF. The transmit side of a CAN channel, and its bus-off (R362 to R370) (O22). -/

namespace Sys2Proof.Proofs
open Sys2Proof.Machine Sys2Proof.Laws

theorem EndsBuf.buf_eq {s t : State} {c b : Nat} {x : CanBuf} (h : EndsBuf s t c b x) : t.canBuf c b = x := by
  obtain ⟨bufs, hp, hx, -⟩ := h
  have hbufs : t.can.bufs = bufs := congrArg (fun z => z.can.bufs) hp
  unfold State.canBuf
  rw [hbufs]
  exact hx

theorem silent_bufN {s u : State} (h : Silent s u) (c b k : Nat) : u.bufN c b k = s.bufN c b k := by
  rw [h.rest]
  rfl

theorem silent_canBuf {s u : State} (h : Silent s u) (c b : Nat) : u.canBuf c b = s.canBuf c b :=
  canBuf_of_part (canBufPart_silent h) c b

theorem silent_canCh {s u : State} (h : Silent s u) (c : Nat) : u.canCh c = s.canCh c := canCh_of_part (canChPart_silent h) c

/-! ### Queuing (R362) -/

/-- A buffer that is queued. -/
def queued (s : State) (c : Nat) (x : CanBuf) : CanBuf :=
  { x with pending := true, elapsed := 0, timeout := 8 * s.pn P.CAN_TX_TIMEOUT_MS c }

theorem queueBuf_buf (s : State) (c b : Nat) : (s.queueBuf c b).canBuf c b = queued s c (s.canBuf c b) := by
  have hmark : canBufPart (s.queueBuf c b) = canBufPart (s.setCanBuf c b (queued s c (s.canBuf c b))) := by
    unfold State.queueBuf
    refine canBufPart_foldl (s.sigsOf c b) _ _ fun a v => ?_
    dsimp only
    split
    · exact (canBufPart_setPt _ _ _).trans ((canBufPart_canDiag _ _ _ _).trans (canBufPart_canDiag _ _ _ _))
    · exact (canBufPart_canDiag _ _ _ _).trans (canBufPart_canDiag _ _ _ _)
  rw [canBuf_of_part hmark, canBuf_setCanBuf_same]

theorem canTransmit_effect {h : Hdr} {ch buf : Nat} {data : List Byte} {n : U32} {s : State}
    (ha : s.admitted canTransmitInfo h = true) (hch : ch < 16) (hbuf : buf < 64) (hdir : s.bufN ch buf 0 = 2)
    (htrig : s.bufN ch buf 2 = 0) (hlen : data.length ≤ s.bufN ch buf 8 - s.trailerLen ch buf)
    (hpend : (s.canBuf ch buf).pending = false) (hcom : (s.canBuf ch buf).committed = false)
    (hn : s.nextHandle = some n) : ∃ t, exec (.canTransmit h ch buf data) s = .next t ∧
      t.canBuf ch buf = queued s ch { s.canBuf ch buf with handle := n, hostData := data } := by
  have hu := silent_take s h
  have htr : (s.take h).trailerLen ch buf = s.trailerLen ch buf := by
    rw [hu.rest]
    rfl
  have hv : canTransmitVerdict h ch buf data (s.take h) = (s.take h).long h 0x0901 (fun n t =>
      (t.setCanBuf ch buf { t.canBuf ch buf with handle := n, hostData := data }).queueBuf ch buf) := by
    unfold canTransmitVerdict
    rw [silent_bufN hu, silent_bufN hu, silent_bufN hu, htr, silent_canBuf hu]
    refine (if_neg ?_).trans ((if_neg ?_).trans (if_neg ?_))
    · simp only [Bool.or_eq_true, decide_eq_true_eq]
      omega
    · rw [hdir, htrig]
      simpa using hlen
    · simp [hpend, hcom]
  obtain ⟨u, hs, fr, hu, hcmd⟩ := command_long s canTransmitInfo h (ch * 65 + buf) _ _ _ n ha hn hv
  refine ⟨_, congrArg Host.Outcome.next hcmd, (queueBuf_buf _ ch buf).trans ?_⟩
  have hb : ({ u with host.handles := hs, host.freeList := fr } : State).canBuf ch buf = s.canBuf ch buf :=
    (silent_canBuf hu ch buf :)
  have hpn : ({ u with host.handles := hs, host.freeList := fr } : State).pn P.CAN_TX_TIMEOUT_MS ch =
      s.pn P.CAN_TX_TIMEOUT_MS ch := (silent_pn hu P.CAN_TX_TIMEOUT_MS ch :)
  rw [canBuf_setCanBuf_same, hb]
  unfold queued
  refine congrArg (fun k => ({ s.canBuf ch buf with
    handle := n, hostData := data, pending := true, elapsed := 0, timeout := 8 * k } : CanBuf)) hpn

theorem canCyclicTrigger_once {ch buf : Nat} {s : State} (hat : (s.canBuf ch buf).cycAt = some s.epoch) :
    exec (.canCyclicTrigger ch buf) s = .next s :=
  congrArg Host.Outcome.next (if_neg (by simp [hat]))

section
variable {ch buf : Nat} {s : State} (hl : s.live = true) (hch : ch < 16) (hbuf : buf < 64)
  (hdir : s.bufN ch buf 0 = 2) (htrig : s.bufN ch buf 2 = 2) (htime : 0 < s.bufN ch buf 11)
  (hphase : s.epoch % s.bufN ch buf 11 = s.bufN ch buf 12)
include hl hch hbuf hdir htrig htime hphase

theorem canCyclicTrigger_queues (hat : (s.canBuf ch buf).cycAt ≠ some s.epoch) :
    exec (.canCyclicTrigger ch buf) s =
      .next ((s.setCanBuf ch buf { s.canBuf ch buf with cycAt := some s.epoch }).queueBuf ch buf) :=
  congrArg Host.Outcome.next (if_pos (by simp [hl, hch, hbuf, hdir, htrig, htime, hphase, hat]))

end

/-! ### The commit point (R362, R364) -/

theorem canCommit_effect (s : State) (c b : Nat) : ((s.canCommit c b).canBuf c b).committed = true ∧
    ((s.canCommit c b).canBuf c b).pending = false ∧
    (s.canCommit c b).out.head? = some (.can c b (s.canBody c b ++ s.canTrailer c b (s.canBody c b))) := by
  obtain ⟨u, l, hu⟩ : ∃ (u : State) (l : List (Nat × Nat × F32)), s.canCommit c b =
      (u.setCanBuf c b { s.canBuf c b with pending := false, committed := true, sentPts := l }).emit
        (.can c b (s.canBody c b ++ s.canTrailer c b (s.canBody c b))) := ⟨_, _, rfl⟩
  have hbuf := (canBuf_of_part (canBufPart_emit (u.setCanBuf c b { s.canBuf c b with
    pending := false, committed := true, sentPts := l })
      (.can c b (s.canBody c b ++ s.canTrailer c b (s.canBody c b)))) c b).trans (canBuf_setCanBuf_same _ _ _ _)
  rw [hu]
  exact ⟨congrArg CanBuf.committed hbuf, congrArg CanBuf.pending hbuf, rfl⟩

/-! ### The end of an attempt (R364, R365, R369) -/

theorem canLoop_effect (s : State) (c b ld : Nat) : ((s.canLoop c b ld).canCh c).txErr = (s.canCh c).txErr ∧
    ((s.canLoop c b ld).canCh c).state = (s.canCh c).state ∧
    ((s.canLoop c b ld).canCh c).busOffs = (s.canCh c).busOffs := by
  unfold State.canLoop
  split
  · exact ⟨rfl, rfl, rfl⟩
  · rw [canCh_setCanCh_same]
    exact ⟨rfl, rfl, rfl⟩

/-- A frame that was acknowledged has ended with outcome 0, and the transmit error counter has counted down. -/
theorem canSent_effect (s : State) (c b : Nat) : ((s.canSent c b).canBuf c b).outcome = 0 ∧
    ((s.canSent c b).canBuf c b).committed = false ∧ ((s.canSent c b).canCh c).txErr = (s.canCh c).txErr - 1 := by
  let s1 := s.setCanCh c (canErrState { s.canCh c with txErr := (s.canCh c).txErr - 1 })
  let s2 := s1.closeEdge.confirmSent (s.canBuf c b).sentPts
  have hsent : s.canSent c b = s2.canEnd c b 0 (s.canBuf c b).cancelReq := rfl
  have hbuf := (canEnd_endsBuf s2 c b 0 (s.canBuf c b).cancelReq).buf_eq
  have hch : s2.canCh c = canErrState { s.canCh c with txErr := (s.canCh c).txErr - 1 } :=
    (canCh_of_part ((canChPart_confirmSent _ _).trans (canChPart_closeEdge _)) c).trans (canCh_setCanCh_same _ _ _)
  rw [hsent, canCh_of_part (canChPart_canEnd s2 c b 0 _), hch]
  exact ⟨congrArg CanBuf.outcome hbuf, congrArg CanBuf.committed hbuf, rfl⟩

/-- A channel that enters bus-off is counted, and waits for its recovery. -/
theorem enterBusOff_ch (s : State) (c : Nat) : ((s.enterBusOff c).canCh c).state = (s.canCh c).state ∧
    ((s.enterBusOff c).canCh c).busOffs = (s.canCh c).busOffs + 1 ∧ ((s.enterBusOff c).canCh c).recWait = true := by
  have hch := canCh_of_part (canChPart_canEndHost (s.setCanCh c { s.canCh c with
    busOffs := (s.canCh c).busOffs + 1, recWait := true, observing := false
    holdUntil := if s.pn P.CAN_BUSOFF_RECOVERY c = 1 then s.epoch + 8 * s.pn P.CAN_BUSOFF_HOLD_MS c else 0 }) c 4 true) c
  rw [canCh_setCanCh_same] at hch
  exact ⟨(congrArg CanCh.state hch).trans rfl, (congrArg CanCh.busOffs hch).trans rfl, (congrArg CanCh.recWait hch).trans rfl⟩

/-- An error that takes the transmit error counter above 255 brings the channel to bus-off. -/
theorem canTxError_busOff {s : State} {c : Nat} (b inc : Nat) (hst : (s.canCh c).state = 1 ∨ (s.canCh c).state = 2)
    (herr : 255 < min 256 ((s.canCh c).txErr + inc)) : ((s.canTxError c b inc).canCh c).state = 3 ∧
    ((s.canTxError c b inc).canCh c).busOffs = (s.canCh c).busOffs + 1 ∧
    ((s.canTxError c b inc).canCh c).recWait = true := by
  let y := canErrState { s.canCh c with txErr := min 256 ((s.canCh c).txErr + inc) }
  have hy : y.state = 3 := by
    refine (if_pos ?_).trans (if_pos herr)
    rcases hst with h | h <;> simp [h]
  obtain ⟨u, hu, hch⟩ : ∃ u : State, s.canTxError c b inc = u.enterBusOff c ∧ u.canCh c = y := by
    refine ⟨_, if_pos hy, ?_⟩
    split
    · exact (canCh_of_part (canChPart_canRetry _ c b 3) c).trans (canCh_setCanCh_same s c y)
    · exact canCh_setCanCh_same s c y
  obtain ⟨h3, hoffs, hwait⟩ := enterBusOff_ch u c
  rw [hu]
  rw [hch] at h3 hoffs
  exact ⟨h3.trans hy, hoffs, hwait⟩

section
variable {ch buf ld : Nat} {s : State} (hch : ch < 16) (hbuf : buf < 64) (hcom : (s.canBuf ch buf).committed = true)
  (hsends : canSends (s.canCh ch) = true) (htdc : s.tdcFails ch buf ld = false)
include hch hbuf hcom hsends

theorem canTxEnd_runs :
    (decide (ch < 16) && decide (buf < 64) && (s.canBuf ch buf).committed && canSends (s.canCh ch)) = true := by
  simp [hch, hbuf, hcom, hsends]

theorem canTxEnd_arbLost (inc : Nat) (hcan : (s.canBuf ch buf).cancelReq = false) (hshot : s.bufOneShot ch buf = false) :
    exec (.canTxEnd ch buf false true inc ld) s =
      .next (s.setCanBuf ch buf { s.canBuf ch buf with committed := false, pending := true }) := by
  have hretry : s.canRetry ch buf 2 = s.setCanBuf ch buf { s.canBuf ch buf with committed := false, pending := true } :=
    (if_neg (Bool.eq_false_iff.mp hcan)).trans ((if_neg (Bool.eq_false_iff.mp hshot)).trans (if_neg (by simp)))
  rw [← hretry]
  exact congrArg Host.Outcome.next ((if_pos (canTxEnd_runs hch hbuf hcom hsends)).trans (if_pos rfl))

include htdc

theorem canTxEnd_ok (inc : Nat) : exec (.canTxEnd ch buf true false inc ld) s =
    .next ((s.canLoop ch buf ld).canSent ch buf) :=
  congrArg Host.Outcome.next ((if_pos (canTxEnd_runs hch hbuf hcom hsends)).trans
    ((if_neg (by decide)).trans ((if_neg (Bool.eq_false_iff.mp htdc)).trans (if_pos rfl))))

theorem canTxEnd_error (inc : Nat) : exec (.canTxEnd ch buf false false inc ld) s =
    .next ((s.canLoop ch buf ld).canTxError ch buf inc) :=
  congrArg Host.Outcome.next ((if_pos (canTxEnd_runs hch hbuf hcom hsends)).trans
    ((if_neg (by decide)).trans ((if_neg (Bool.eq_false_iff.mp htdc)).trans (if_neg Bool.false_ne_true))))

end

/-! ### Cancels (R367) -/

section
variable {h : Hdr} {ch buf : Nat} {s : State} (ha : s.admitted canBufCancelInfo h = true) (hch : ch < 16) (hbuf : buf < 64)
  (hdir : s.bufN ch buf 0 = 2)
include ha hch hbuf hdir

theorem canBufCancel_acts : ∃ u, Silent s u ∧ exec (.canBufCancel h ch buf) s = .next (u.cancelBuf ch buf) := by
  have hu := silent_take s h
  have hv : canBufCancelVerdict ch buf (s.take h) =
      { detail := cancelCode (s.canBuf ch buf), act := fun t => t.cancelBuf ch buf } := by
    unfold canBufCancelVerdict
    rw [silent_bufN hu, silent_canBuf hu, hdir]
    refine if_neg ?_
    simp only [Bool.or_eq_true, decide_eq_true_eq, bne_self_eq_false, Bool.false_eq_true, or_false]
    omega
  exact ⟨_, silent_answered _ _ _ _ _, congrArg Host.Outcome.next (command_eq (m := ch * 65 + buf) ha hv)⟩

theorem canBufCancel_committed (hcom : (s.canBuf ch buf).committed = true) :
    ∃ t, exec (.canBufCancel h ch buf) s = .next t ∧ Silent { s with can := t.can } t ∧
      t.canBuf ch buf = { s.canBuf ch buf with cancelReq := true, pending := false } := by
  obtain ⟨u, hu, hrow⟩ := canBufCancel_acts ha hch hbuf hdir
  have hmark : u.cancelBuf ch buf = u.setCanBuf ch buf { s.canBuf ch buf with cancelReq := true, pending := false } := by
    unfold State.cancelBuf
    dsimp only
    rw [silent_canBuf hu]
    exact if_pos hcom
  rw [hmark] at hrow
  exact ⟨_, hrow, silent_with_can hu _, canBuf_setCanBuf_same _ _ _ _⟩

theorem canBufCancel_waiting (hcom : (s.canBuf ch buf).committed = false) (hpend : (s.canBuf ch buf).pending = true) :
    ∃ t, exec (.canBufCancel h ch buf) s = .next t ∧ (t.canBuf ch buf).outcome = 1 ∧
      (t.canBuf ch buf).pending = false ∧ (t.canBuf ch buf).handle = 0#32 := by
  obtain ⟨u, hu, hrow⟩ := canBufCancel_acts ha hch hbuf hdir
  let v := u.setCanBuf ch buf { s.canBuf ch buf with pending := false }
  have hends : u.cancelBuf ch buf = v.canEnd ch buf 1 false := by
    unfold State.cancelBuf
    dsimp only
    rw [silent_canBuf hu]
    exact (if_neg (Bool.eq_false_iff.mp hcom)).trans (if_pos hpend)
  have hend := (canEnd_endsBuf v ch buf 1 false).buf_eq
  have hv : (v.canBuf ch buf).pending = false := congrArg CanBuf.pending (canBuf_setCanBuf_same _ _ _ _)
  rw [hends] at hrow
  refine ⟨_, hrow, congrArg CanBuf.outcome hend, (congrArg CanBuf.pending hend).trans ?_, congrArg CanBuf.handle hend⟩
  exact (congrArg (fun p => p && (v.canBuf ch buf).handle == 0#32) hv).trans rfl

end

/-! ### Recovery (R370) -/

theorem canRecover_effect {h : Hdr} {ch : Nat} {s : State} (ha : s.admitted canRecoverInfo h = true) (hch : ch < 16)
    (hst : (s.canCh ch).state = 3) (hhold : (s.canCh ch).holdUntil = 0) : exec (.canRecover h ch) s =
      .next ((s.answered canRecoverInfo h ch {}).setCanCh ch { s.canCh ch with observing := true }) := by
  have hv : canRecoverVerdict ch (s.take h) =
      { act := fun t => t.setCanCh ch { t.canCh ch with observing := true } } := by
    unfold canRecoverVerdict
    rw [silent_canCh (silent_take s h), hst, hhold]
    exact (if_neg (by omega)).trans ((if_neg (by decide)).trans (if_neg (by decide)))
  have hcmd := command_acts (m := ch) ha hv
  have hu := silent_canCh (silent_answered s canRecoverInfo h ch {}) ch
  rw [hu] at hcmd
  exact congrArg Host.Outcome.next hcmd

/-- Settles O22: each row with the buffer and the channel that it leaves. -/
theorem canTransmissionComplete : Obligations.CanTransmissionComplete := by
  unfold Obligations.CanTransmissionComplete
  refine ⟨?_, ?_, ?_, ?_, ?_, ?_, ?_⟩
  case refine_1 =>
    intro h ch buf data n s ha hch hbuf hdir htrig hlen hpend hcom hn
    exact canTransmit_effect ha hch hbuf hdir htrig hlen hpend hcom hn
  case refine_2 =>
    intro ch buf s hl hch hbuf hdir htrig htime hphase
    refine ⟨canCyclicTrigger_once, fun hat =>
      ⟨_, canCyclicTrigger_queues hl hch hbuf hdir htrig htime hphase hat, (queueBuf_buf _ ch buf).trans ?_⟩⟩
    rw [canBuf_setCanBuf_same]
    rfl
  case refine_3 =>
    intro ch buf s hch hsends hfree hnext
    exact ⟨_, congrArg Host.Outcome.next (if_pos (by simp [hch, hsends, hfree, hnext])), canCommit_effect s ch buf⟩
  case refine_4 =>
    intro ch buf inc ld s hch hbuf hcom hsends htdc
    obtain ⟨herr, hstate, hoffs⟩ := canLoop_effect s ch buf ld
    refine ⟨?_, canTxEnd_arbLost hch hbuf hcom hsends inc, fun hover => ?_⟩
    · obtain ⟨hout, hcm, htx⟩ := canSent_effect (s.canLoop ch buf ld) ch buf
      exact ⟨_, canTxEnd_ok hch hbuf hcom hsends htdc inc, hout, hcm, htx.trans (by rw [herr])⟩
    · have hst : (s.canCh ch).state = 1 ∨ (s.canCh ch).state = 2 := by
        unfold canSends at hsends
        simp only [Bool.and_eq_true, Bool.or_eq_true, beq_iff_eq] at hsends
        exact hsends.1
      obtain ⟨h3, hcount, hwait⟩ := canTxError_busOff (s := s.canLoop ch buf ld) (c := ch) buf inc
        (by rw [hstate]; exact hst) (by rw [herr]; exact hover)
      exact ⟨_, canTxEnd_error hch hbuf hcom hsends htdc inc, h3, hcount.trans (by rw [hoffs]), hwait⟩
  case refine_5 =>
    intro ch buf s hch hbuf hpend hcom hshot htime hst
    have hout : s.canTimedOut ch buf = true := by simp [State.canTimedOut, hch, hbuf, hpend, hcom, hshot, htime, hst]
    obtain ⟨u, t, -, hrow, hend⟩ := exec_canTxTimeout hout
    refine ⟨t, hrow, ?_⟩
    rw [hend.buf_eq]
    exact ⟨rfl, rfl, rfl⟩
  case refine_6 =>
    intro h ch buf s ha hch hbuf hdir
    exact ⟨canBufCancel_committed ha hch hbuf hdir, canBufCancel_waiting ha hch hbuf hdir⟩
  case refine_7 =>
    intro ch s hch hst
    refine ⟨fun hset hdue => ?_, fun hobs hvio => ?_, fun h ha hhold => canRecover_effect ha hch hst hhold⟩
    · exact congrArg Host.Outcome.next (if_pos (by simp [hch, hst, hset, hdue]))
    · exact congrArg Host.Outcome.next (if_pos (by simp [hch, hst, hobs, hvio]))

end Sys2Proof.Proofs

/-! PROOF. The frames, served ticks and losses of the stations (R294 to R307) (O23). -/

namespace Sys2Proof.Proofs
open Sys2Proof.Machine Sys2Proof.Laws

@[simp] theorem stn1_setStn_same (s : State) (n : Nat) (v : Stn) : (s.setStn n v).stn1 n = v := tgetD_tset_same _ _ _ _

theorem stn1_of_part {s t : State} (h : stnPart t = stnPart s) (n : Nat) : t.stn1 n = s.stn1 n :=
  congrArg (fun p : StnSt => tgetD p.stns n {}) (congrArg Prod.fst h)

theorem prog_of_stnPart {s t : State} (h : stnPart t = stnPart s) : t.prog = s.prog := congrArg (fun p => p.2.1) h

theorem live_of_stnPart {s t : State} (h : stnPart t = stnPart s) : t.live = s.live := by
  simp only [stnPart, Prod.mk.injEq] at h
  simp only [State.live, State.isActive, h]

/-! ### A frame that verifies (R304, R312, R490) -/

/-- The fields of a station that the receipt of a frame writes, whatever the frame says. -/
def receipt (x y : Stn) : Stn :=
  { x with tagFails := y.tagFails, rxSeqs := y.rxSeqs, highestClaim := y.highestClaim, lastAdvance := y.lastAdvance }

/-- A frame has been received: its station differs in the receipt alone, and the unit works as before. -/
structure Received (s u : State) (n : Nat) : Prop where
  stn : u.stn1 n = receipt (s.stn1 n) (u.stn1 n)
  prog : u.prog = s.prog
  live : u.live = s.live

theorem received_of_part {s u : State} (h : stnPart u = stnPart s) (n : Nat) : Received s u n :=
  ⟨by rw [stn1_of_part h]; rfl, prog_of_stnPart h, live_of_stnPart h⟩

theorem Received.trans {s t u : State} {n : Nat} (h : Received s t n) (h' : Received t u n) : Received s u n := by
  obtain ⟨hs, hp, hl⟩ := h
  obtain ⟨hs', hp', hl'⟩ := h'
  refine ⟨hs'.trans ?_, hp'.trans hp, hl'.trans hl⟩
  rw [hs]
  rfl

/-- A receipt written to the station. -/
theorem setStn_received {s : State} {n : Nat} {x : Stn} (hx : x = receipt (s.stn1 n) x) : Received s (s.setStn n x) n :=
  ⟨by rw [stn1_setStn_same]; exact hx, rfl, rfl⟩

theorem stnClaim_received (s : State) (f : StnFrame) : Received s (s.stnClaim f) f.station := by
  have hset : Received s (s.setStn f.station { s.stn1 f.station with highestClaim := f.claim }) f.station :=
    setStn_received rfl
  unfold State.stnClaim
  dsimp only
  split
  · split
    · refine hset.trans (Received.trans ?_ (received_of_part (stnPart_mapStnOuts _ _ _) f.station))
      exact ⟨rfl, rfl, rfl⟩
    · exact hset.trans ⟨rfl, rfl, rfl⟩
  · exact hset.trans ⟨rfl, rfl, rfl⟩

/-- A new frame is taken (R304). -/
theorem stnTake_new {s : State} {f : StnFrame} (hnew : (s.stn1 f.station).rxSeqs.contains (f.seq, f.seg) = false) :
    (s.stnTake f).2 = true ∧ Received s (s.stnTake f).1 f.station := by
  have htake : s.stnTake f =
      (if f.seg = 0 then
        (s.setStn f.station { s.stn1 f.station with
          tagFails := 0, rxSeqs := ((f.seq, f.seg) :: (s.stn1 f.station).rxSeqs).take 64 }).stnClaim f
      else s.setStn f.station { s.stn1 f.station with
          tagFails := 0, rxSeqs := ((f.seq, f.seg) :: (s.stn1 f.station).rxSeqs).take 64 }, true) :=
    if_neg (Bool.eq_false_iff.mp hnew)
  have hset : Received s (s.setStn f.station { s.stn1 f.station with
      tagFails := 0, rxSeqs := ((f.seq, f.seg) :: (s.stn1 f.station).rxSeqs).take 64 }) f.station := setStn_received rfl
  rw [htake]
  refine ⟨rfl, ?_⟩
  dsimp only
  split
  · exact hset.trans (stnClaim_received _ f)
  · exact hset

theorem stnReport_received (s : State) (f : StnFrame) : Received s (s.stnReport f) f.station := by
  unfold State.stnReport
  dsimp only
  split
  · have hseen : Received s (s.claimSeen f.claim) f.station := received_of_part (stnPart_claimSeen s f.claim) _
    have hlive : Received (s.claimSeen f.claim)
        { s.claimSeen f.claim with pair := { (s.claimSeen f.claim).pair with lastLive := some s.epoch } } f.station :=
      ⟨rfl, rfl, rfl⟩
    split
    · refine (hseen.trans hlive).trans ?_
      exact setStn_received rfl
    · exact hseen.trans (setStn_received rfl)
  · exact received_of_part rfl _

/-! ### The rows of the received frames -/

section
variable {f : StnFrame} {s : State} (hears : s.stnHears f = true)
include hears

theorem stnHelloRx_heard (hk : f.kind = 5) : exec (.stnHelloRx f) s = .next (
    if s.stnFrameOk f then
      (if (s.stnTake f).2 && (s.stnTake f).1.live &&
          (((s.stnTake f).1.stn1 f.station).state = 1 || ((s.stnTake f).1.stn1 f.station).state = 5) then
        (s.stnTake f).1.setStn f.station
          { (s.stnTake f).1.stn1 f.station with state := 2, configured := false, awaiting := false }
      else (s.stnTake f).1)
    else s.stnReject f) := congrArg Host.Outcome.next (if_pos (by simp [hears, hk]))

theorem stnConfigAckRx_heard (hk : f.kind = 2) : exec (.stnConfigAckRx f) s = .next (
    if s.stnFrameOk f then
      (if (s.stnTake f).2 && (s.stnTake f).1.live then (s.stnTake f).1.stnAnswer f else (s.stnTake f).1)
    else s.stnReject f) := congrArg Host.Outcome.next (if_pos (by simp [hears, hk]))

theorem stnLeaveRx_heard (hk : f.kind = 6) : exec (.stnLeaveRx f) s = .next (
    if s.stnFrameOk f then
      (if (s.stnTake f).2 && (s.stnTake f).1.live then (s.stnTake f).1.stnAbsent f.station 2 else (s.stnTake f).1)
    else s.stnReject f) := congrArg Host.Outcome.next (if_pos (by simp [hears, hk]))

theorem stnInputRx_heard (hk : f.kind = 3) : exec (.stnInputRx f) s = .next (
    if s.stnFrameOk f then
      (if (s.stnTake f).2 then
        (if ((s.stnTake f).1.stnReport f).live then ((s.stnTake f).1.stnReport f).stnInput f
         else (s.stnTake f).1.stnReport f)
      else (s.stnTake f).1)
    else s.stnReject f) := congrArg Host.Outcome.next (if_pos (by simp [hears, hk]))

theorem stnRx_rejects (hbad : s.stnFrameOk f = false) :
    (f.kind = 3 → exec (.stnInputRx f) s = .next (s.stnReject f)) ∧
    (f.kind = 5 → exec (.stnHelloRx f) s = .next (s.stnReject f)) ∧
    (f.kind = 2 → exec (.stnConfigAckRx f) s = .next (s.stnReject f)) ∧
    (f.kind = 6 → exec (.stnLeaveRx f) s = .next (s.stnReject f)) :=
  have hno := Bool.eq_false_iff.mp hbad
  ⟨fun hk => (stnInputRx_heard hears hk).trans (congrArg Host.Outcome.next (if_neg hno)),
    fun hk => (stnHelloRx_heard hears hk).trans (congrArg Host.Outcome.next (if_neg hno)),
    fun hk => (stnConfigAckRx_heard hears hk).trans (congrArg Host.Outcome.next (if_neg hno)),
    fun hk => (stnLeaveRx_heard hears hk).trans (congrArg Host.Outcome.next (if_neg hno))⟩

end

theorem stnReject_counts (s : State) (f : StnFrame) :
    (s.stnReject f).stn.framesRejected = s.stn.framesRejected + 1 := by
  unfold State.stnReject
  dsimp only
  split <;> rfl

section
variable {f : StnFrame} {s : State} (hears : s.stnHears f = true) (hok : s.stnFrameOk f = true) (hl : s.live = true)
  (hnew : (s.stn1 f.station).rxSeqs.contains (f.seq, f.seg) = false)
include hears hok hl hnew

/-- HELLO of a station that is not there makes it JOINING (R305). -/
theorem stnHelloRx_joins (hk : f.kind = 5) (hst : (s.stn1 f.station).state = 1 ∨ (s.stn1 f.station).state = 5) :
    ∃ t, exec (.stnHelloRx f) s = .next t ∧ (t.stn1 f.station).state = 2 ∧ (t.stn1 f.station).configured = false ∧
      (t.stn1 f.station).awaiting = false := by
  obtain ⟨h2, hstn, hprog, hlive⟩ := stnTake_new hnew
  have hstate : ((s.stnTake f).1.stn1 f.station).state = (s.stn1 f.station).state := by rw [hstn]; rfl
  refine ⟨_, (stnHelloRx_heard hears hk).trans (congrArg Host.Outcome.next ((if_pos hok).trans (if_pos ?_))), ?_⟩
  · rw [h2, hlive, hl, hstate]
    rcases hst with h | h <;> simp [h]
  · rw [stn1_setStn_same]
    exact ⟨rfl, rfl, rfl⟩

/-- CONFIG_ACK for the configuration that was sent (R305). -/
theorem stnConfigAckRx_answers (hk : f.kind = 2)
    (hst : (s.stn1 f.station).state = 2 ∨ (s.stn1 f.station).state = 6)
    (hcrc : beAt f.payload 0 4 = (s.stn1 f.station).cfgCrc.toNat) :
    ∃ t, exec (.stnConfigAckRx f) s = .next t ∧
      (beAt f.payload 4 1 = 0 → (t.stn1 f.station).state = 2 ∧ (t.stn1 f.station).configured = true ∧
        (t.stn1 f.station).awaiting = true) ∧
      (1 ≤ beAt f.payload 4 1 → beAt f.payload 4 1 ≤ 3 → (t.stn1 f.station).state = 6 ∧
        (t.stn1 f.station).reason = beAt f.payload 4 1 ∧ (t.stn1 f.station).configured = false) := by
  obtain ⟨h2, hstn, hprog, hlive⟩ := stnTake_new hnew
  let u := (s.stnTake f).1
  have hgo : ((((u.stn1 f.station).state = 2 || (u.stn1 f.station).state = 6) &&
      beAt f.payload 0 4 == (u.stn1 f.station).cfgCrc.toNat) : Bool) = true := by
    have hstate : (u.stn1 f.station).state = (s.stn1 f.station).state := (congrArg Stn.state hstn).trans rfl
    have hcfg : (u.stn1 f.station).cfgCrc = (s.stn1 f.station).cfgCrc := (congrArg Stn.cfgCrc hstn).trans rfl
    rw [hstate, hcfg, hcrc]
    rcases hst with h | h <;> simp [h]
  refine ⟨u.stnAnswer f, (stnConfigAckRx_heard hears hk).trans (congrArg Host.Outcome.next ((if_pos hok).trans
    (if_pos (by rw [h2, hlive, hl]; rfl)))), fun h0 => ?_, fun h1 h3 => ?_⟩
  · have hans : ∃ x, u.stnAnswer f = u.setStn f.station x ∧ x.state = 2 ∧ x.configured = true ∧ x.awaiting = true :=
      ⟨_, (if_pos hgo).trans (if_pos h0), rfl, rfl, rfl⟩
    obtain ⟨x, hx, hs, hc, ha⟩ := hans
    rw [hx, stn1_setStn_same]
    exact ⟨hs, hc, ha⟩
  · have hans : ∃ x g, u.stnAnswer f = (u.closeEdge.setStn f.station x).mapStnPts f.station g ∧ x.state = 6 ∧
        x.reason = beAt f.payload 4 1 ∧ x.configured = false :=
      ⟨_, _, (if_pos hgo).trans ((if_neg (by omega)).trans (if_pos h3)), rfl, rfl, rfl⟩
    obtain ⟨x, g, hx, hs, hr, hc⟩ := hans
    rw [hx, stn1_of_part (stnPart_mapStnPts _ _ _), stn1_setStn_same]
    exact ⟨hs, hr, hc⟩

end

/-! ### Absence (R306) -/

/-- What an absence leaves of the station. -/
structure Absent (s t : State) (n reason : Nat) : Prop where
  tagFails : (t.stn1 n).tagFails = (s.stn1 n).tagFails
  there : ((s.stn1 n).state = 3 ∨ (s.stn1 n).state = 4) → (s.stn1 n).lostDue = false →
    (t.stn1 n).reason = reason ∧ ((t.stn1 n).discardIn = true ∨ (t.stn1 n).lostDue = true)

theorem stnAbsent_absent (s : State) (n reason : Nat) : Absent s (s.stnAbsent n reason) n reason := by
  have hclose : s.closeEdge.stn1 n = s.stn1 n := stn1_of_part (stnPart_closeEdge s) n
  unfold State.stnAbsent
  dsimp only
  rw [hclose]
  by_cases hst : (s.stn1 n).state = 3 ∨ (s.stn1 n).state = 4
  · rw [if_pos (by simpa using hst)]
    split
    · refine ⟨?_, fun _ _ => ?_⟩ <;> rw [stn1_setStn_same]
      exact ⟨rfl, .inl rfl⟩
    · split
      next hlost => exact ⟨by rw [hclose], fun _ hno => absurd hlost (Bool.eq_false_iff.mp hno)⟩
      next =>
        split
        · refine ⟨?_, fun _ _ => ?_⟩ <;> rw [stn1_of_part (stnPart_mapStnOuts _ _ _), stn1_setStn_same]
          exact ⟨rfl, .inr rfl⟩
        · refine ⟨?_, fun _ _ => ?_⟩ <;> rw [stn1_setStn_same]
          exact ⟨rfl, .inr rfl⟩
  · rw [if_neg (by simpa using hst)]
    exact ⟨by rw [hclose], fun h => absurd h hst⟩

section
variable {f : StnFrame} {s : State} (hears : s.stnHears f = true) (hok : s.stnFrameOk f = true) (hl : s.live = true)
  (hnew : (s.stn1 f.station).rxSeqs.contains (f.seq, f.seg) = false)
include hears hok hl hnew

theorem stnLeaveRx_leaves (hk : f.kind = 6) (hst : (s.stn1 f.station).state = 3 ∨ (s.stn1 f.station).state = 4)
    (hlost : (s.stn1 f.station).lostDue = false) : ∃ t, exec (.stnLeaveRx f) s = .next t ∧
      (t.stn1 f.station).reason = 2 ∧ ((t.stn1 f.station).discardIn = true ∨ (t.stn1 f.station).lostDue = true) := by
  obtain ⟨h2, hstn, hprog, hlive⟩ := stnTake_new hnew
  refine ⟨_, (stnLeaveRx_heard hears hk).trans (congrArg Host.Outcome.next ((if_pos hok).trans
    (if_pos (by rw [h2, hlive, hl]; rfl)))), ?_⟩
  refine (stnAbsent_absent (s.stnTake f).1 f.station 2).there ?_ ?_
  · rw [hstn]
    exact hst
  · rw [hstn]
    exact hlost

/-- An INPUT frame of the served tick, before the input close, is kept segment by segment (R298). -/
theorem stnInputRx_keeps (hk : f.kind = 3) (hst : (s.stn1 f.station).state = 3 ∨ (s.stn1 f.station).state = 4)
    (hserved : f.epoch = (s.stn1 f.station).servedEpoch)
    (hclose : (s.task1 (s.stnF f.station 2)).closeDue = some f.epoch) :
    ∃ t y, exec (.stnInputRx f) s = .next t ∧ (t.stn1 f.station).inFrame = some y ∧ y.epoch = f.epoch ∧
      tget y.segs f.seg = some (segOf f) := by
  obtain ⟨h2, hrec⟩ := stnTake_new hnew
  let u := (s.stnTake f).1.stnReport f
  obtain ⟨hstn, hprog, hlive⟩ := hrec.trans (stnReport_received (s.stnTake f).1 f)
  have hstate : (u.stn1 f.station).state = (s.stn1 f.station).state := by rw [hstn]; rfl
  have hepoch : (u.stn1 f.station).servedEpoch = (s.stn1 f.station).servedEpoch := by rw [hstn]; rfl
  have hfield : u.stnF f.station 2 = s.stnF f.station 2 := by
    unfold State.stnF
    rw [hstn]
    rfl
  have hgo : ((f.epoch = (u.stn1 f.station).servedEpoch && (u.task1 (u.stnF f.station 2)).closeDue == some f.epoch) :
      Bool) = true := by
    rw [hepoch, hfield, task1_of_prog hprog, hclose]
    simp [hserved]
  have hinput : u.stnInput f = u.stnCollect f := by
    refine if_neg ?_
    rw [hstate]
    rcases hst with h | h <;> simp [h]
  have hcollect : ∃ y : StnIn, u.stnCollect f = u.setStn f.station { u.stn1 f.station with
      inFrame := some { y with segs := tset y.segs f.seg (segOf f) } } ∧ y.epoch = f.epoch := by
    refine ⟨_, if_pos hgo, ?_⟩
    split
    · split
      next hsame =>
        simp only [Bool.and_eq_true, decide_eq_true_eq] at hsame
        exact hsame.1
      next => rfl
    · rfl
  obtain ⟨y, hy, hyep⟩ := hcollect
  refine ⟨_, { y with segs := tset y.segs f.seg (segOf f) }, (stnInputRx_heard hears hk).trans (congrArg Host.Outcome.next
    ((if_pos hok).trans ((if_pos h2).trans ((if_pos (hlive.trans hl)).trans (hinput.trans hy))))), ?_, hyep,
    tget_tset_same _ _ _⟩
  rw [stn1_setStn_same]

end

/-! ### The served tick (R294, R295, R305) -/

/-- A frame to a station changes its sequence number, and nothing of the tasks. -/
theorem sendStn_stn (s : State) (n ftype epoch : Nat) (key : List Byte) (segs : List (Nat × Nat × List Byte)) :
    (∃ q, (s.sendStn n ftype epoch key segs).stn1 n = { s.stn1 n with txSeq := q }) ∧
    (s.sendStn n ftype epoch key segs).prog = s.prog := by
  have hfold : ∀ (l : List (Nat × Nat × List Byte)) (a : State × Nat),
      stnPart (l.foldl (fun (a : State × Nat) x =>
        (a.1.sendSeg n ftype epoch a.2 segs.length x.1 x.2.1 key x.2.2, a.2 + 1)) a).1 = stnPart a.1 := by
    intro l
    induction l with
    | nil => exact fun _ => rfl
    | cons x l ih => exact fun a => (ih _).trans (stnPart_sendSeg _ _ _ _ _ _ _ _ _ _)
  unfold State.sendStn
  dsimp only
  have h := hfold segs (s, 0)
  generalize (segs.foldl (fun (a : State × Nat) x =>
    (a.1.sendSeg n ftype epoch a.2 segs.length x.1 x.2.1 key x.2.2, a.2 + 1)) (s, 0)).1 = u at h ⊢
  refine ⟨⟨((s.stn1 n).txSeq + 1) % 65536, ?_⟩, (prog_of_stnPart h : u.prog = s.prog)⟩
  rw [stn1_setStn_same, stn1_of_part h]

/-- The fields of a station in which CONFIG frames and their counts stand. -/
def offered (x y : Stn) : Stn := { x with cfgCrc := y.cfgCrc, txSeq := y.txSeq, servedCount := y.servedCount }

theorem sendConfig_stn (s : State) (n : Nat) :
    (s.sendConfig n).stn1 n = offered (s.stn1 n) ((s.sendConfig n).stn1 n) ∧ (s.sendConfig n).prog = s.prog := by
  unfold State.sendConfig
  dsimp only
  split
  · rw [stn1_setStn_same]
    exact ⟨rfl, rfl⟩
  · next k _ =>
    obtain ⟨⟨q, hq⟩, hprog⟩ := sendStn_stn (s.setStn n { s.stn1 n with
      cfgCrc := crc32 (s.cfgBody n (s.epoch + s.stnCycle n)) }) n 1 (s.epoch + s.stnCycle n) k
      ((chunksOf 1408 8 (be 4 (crc32 (s.cfgBody n (s.epoch + s.stnCycle n))).toNat ++
        s.cfgBody n (s.epoch + s.stnCycle n))).map (fun c => (0, 0, c)))
    rw [stn1_setStn_same] at hq
    exact ⟨by rw [hq]; rfl, hprog⟩

theorem stnOffer_stn (s : State) (n : Nat) :
    (s.stnOffer n).stn1 n = offered (s.stn1 n) ((s.stnOffer n).stn1 n) ∧ (s.stnOffer n).prog = s.prog := by
  unfold State.stnOffer
  dsimp only
  split
  · exact sendConfig_stn s n
  · split
    · split
      · obtain ⟨hstn, hprog⟩ := sendConfig_stn (s.setStn n { s.stn1 n with
          servedCount := (s.stn1 n).servedCount + 1 }) n
        refine ⟨hstn.trans ?_, hprog⟩
        rw [stn1_setStn_same]
        rfl
      · rw [stn1_setStn_same]
        exact ⟨rfl, rfl⟩
    · exact ⟨rfl, rfl⟩

/-- The state that a served tick gives a station. -/
def servedState (x : Stn) : Nat := if x.rejoinDue || x.state = 0 then 1 else if x.lostDue then 5 else x.state

theorem stnServe_stn (s : State) (n : Nat) : ((s.stnServe n).stn1 n).state = servedState (s.stn1 n) ∧
    ((s.stnServe n).stn1 n).cfgDef = (s.stn1 n).cfgDef ∧ ((s.stnServe n).stn1 n).cfgPts = (s.stn1 n).cfgPts := by
  unfold State.stnServe servedState
  dsimp only
  split
  · unfold State.stnOffline
    dsimp only
    rw [stn1_of_part (stnPart_mapStnPts _ _ _), stn1_setStn_same]
    exact ⟨rfl, rfl, rfl⟩
  · split
    · unfold State.stnLose
      dsimp only
      rw [stn1_of_part (stnPart_mapStnPts _ _ _), stn1_setStn_same]
      exact ⟨rfl, rfl, rfl⟩
    · exact ⟨rfl, rfl, rfl⟩

theorem servedTick_serves {n : Nat} {s : State} (hl : s.live = true) (hord : s.order ≤ 6) (hn : n < 4096)
    (hon : s.stnOn n = true) (hat : s.servedAt n s.epoch = true) (hfirst : (s.stn1 n).servedEpoch ≠ s.epoch) :
    ∃ t, exec (.servedTick n) s = .next t ∧ (t.stn1 n).servedEpoch = s.epoch ∧ (t.stn1 n).cfgDef = s.pv P.STN_DEF n ∧
      (t.stn1 n).cfgPts = s.pv P.STN_POINTS n ∧ (t.stn1 n).inFrame = none ∧
      (t.stn1 n).state = servedState (s.stn1 n) ∧ (t.task1 (t.stnF n 2)).closeDue = some s.epoch := by
  let x := s.stn1 n
  let s1 := (s.atOrder 6).setStn n { x with cfgDef := s.pv P.STN_DEF n, cfgPts := s.pv P.STN_POINTS n }
  let s2 := s1.stnServe n
  let s3 := s2.setStn n { s2.stn1 n with
    servedEpoch := s.epoch, servedIsland := s.time.island, outQueued := false, discardIn := false, inFrame := none }
  let s4 := s3.setTask (s3.stnF n 2) { s3.task1 (s3.stnF n 2) with closeDue := some s.epoch }
  have hrow : exec (.servedTick n) s = .next (s4.stnOffer n) :=
    congrArg Host.Outcome.next (if_pos (by simp [hl, State.orderOk, hord, hn, hon, hat, hfirst]))
  have hs1 : s1.stn1 n = { x with cfgDef := s.pv P.STN_DEF n, cfgPts := s.pv P.STN_POINTS n } := stn1_setStn_same _ _ _
  obtain ⟨hstate, hdef, hpts⟩ := stnServe_stn s1 n
  rw [hs1] at hstate hdef hpts
  have hs4 : s4.stn1 n = { s2.stn1 n with
      servedEpoch := s.epoch, servedIsland := s.time.island, outQueued := false, discardIn := false, inFrame := none } :=
    stn1_setStn_same s2 n _
  obtain ⟨hoff, hprog⟩ := stnOffer_stn s4 n
  rw [hs4] at hoff
  have hfield : (s4.stnOffer n).stnF n 2 = s3.stnF n 2 := by
    have hs3 : s3.stn1 n = { s2.stn1 n with
        servedEpoch := s.epoch, servedIsland := s.time.island, outQueued := false, discardIn := false, inFrame := none } :=
      stn1_setStn_same s2 n _
    unfold State.stnF
    rw [hoff, hs3]
    rfl
  refine ⟨_, hrow, ?_, ?_, ?_, ?_, ?_, ?_⟩
  · rw [hoff]; rfl
  · rw [hoff]; exact hdef
  · rw [hoff]; exact hpts
  · rw [hoff]; rfl
  · rw [hoff]; exact hstate
  · rw [hfield, task1_of_prog hprog]
    exact congrArg TaskSt.closeDue (task1_setTask_same s3 _ _)

/-! ### The input close (R253) -/

theorem closeCycle_closes (s : State) (k c : Nat) (late : Bool) : ((s.closeCycle k c late).task1 k).closeDue = none := by
  unfold State.closeCycle
  dsimp only
  split
  · split <;> rw [task1_setTask_same]
  · rw [task1_setTask_same]

theorem inputClose_due {k c : Nat} {s : State} (hdue : (s.task1 k).closeDue = some c) (hl : s.live = true)
    (hwait : s.waitEnd k c ≤ s.epoch) :
    exec (.inputClose k) s = .next ((s.closeEdge.closeInputs k c).closeCycle k c (!s.allIn k c)) := by
  show execInputClose k s = _
  unfold execInputClose
  rw [hdue]
  exact congrArg Host.Outcome.next (if_pos (by simp [hl, hwait]))

/-- Settles O23: the receipt of a frame leaves what its kind then acts on, and each row has its effect on the station. -/
theorem stationsComplete : Obligations.StationsComplete := by
  unfold Obligations.StationsComplete
  refine ⟨?_, ?_, ?_, ?_, ?_, ?_⟩
  case refine_1 =>
    intro f s hears hbad
    obtain ⟨h3, h5, h2, h6⟩ := stnRx_rejects hears hbad
    exact ⟨h3, h5, h2, h6, stnReject_counts s f⟩
  case refine_2 =>
    intro f s hears hok hl hnew
    exact ⟨stnHelloRx_joins hears hok hl hnew, stnConfigAckRx_answers hears hok hl hnew,
      stnLeaveRx_leaves hears hok hl hnew, stnInputRx_keeps hears hok hl hnew⟩
  case refine_3 =>
    intro n s hl hn hfails
    obtain ⟨htag, hthere⟩ := stnAbsent_absent (s.setStn n { s.stn1 n with tagFails := 0 }) n 4
    rw [stn1_setStn_same] at htag hthere
    refine ⟨_, congrArg Host.Outcome.next (if_pos (by simp [hl, hn, hfails])), htag, fun hst hlost => ?_⟩
    exact (hthere hst hlost).1
  case refine_4 =>
    intro n s hl hord hn hon hat hfirst
    exact servedTick_serves hl hord hn hon hat hfirst
  case refine_5 =>
    intro n s hl hdue
    exact ⟨_, congrArg Host.Outcome.next (if_pos (by simp [hl, hdue])), congrArg Stn.outQueued (stn1_setStn_same _ _ _)⟩
  case refine_6 =>
    intro k c s hdue hl hwait
    exact ⟨_, inputClose_due hdue hl hwait, closeCycle_closes _ _ _ _⟩

end Sys2Proof.Proofs

/-! PROOF. The frames of the analog front end (R181 to R184, R337; O32). -/

namespace Sys2Proof.Proofs

open Sys2Proof.Machine Sys2Proof.Laws

/-! ### A fold in which every entry changes its own place alone -/

section
variable {σ β : Type} {get : σ → Nat → β} {f : σ → Nat → σ} {g : Nat → β → β}
  (hother : ∀ a i j, i ≠ j → get (f a i) j = get a j)
include hother

theorem get_foldl_of_not_mem {i : Nat} (l : List Nat) (a : σ) (hi : i ∉ l) : get (l.foldl f a) i = get a i := by
  induction l generalizing a with
  | nil => rfl
  | cons x l ih =>
    rw [List.mem_cons, not_or] at hi
    exact (ih _ hi.2).trans (hother a x i (Ne.symm hi.1))

theorem get_foldl_of_mem (hown : ∀ a i, get (f a i) i = g i (get a i)) {i : Nat} {l : List Nat} (hl : l.Nodup)
    (a : σ) (hi : i ∈ l) : get (l.foldl f a) i = g i (get a i) := by
  induction l generalizing a with
  | nil => exact absurd hi List.not_mem_nil
  | cons x l ih =>
    rw [List.nodup_cons] at hl
    by_cases hx : i = x
    · subst hx
      exact (get_foldl_of_not_mem hother l _ hl.1).trans (hown a i)
    · have hmem := (List.mem_cons.mp hi).resolve_left hx
      exact (ih hl.2 _ hmem).trans (congrArg (g i) (hother a x i (Ne.symm hx)))

end

/-! ### Data slots (R181, R184, R337) -/

theorem ain1_setAin_same (s : State) (i : Nat) (v : AinCh) : (s.setAin i v).ain1 i = v := tgetD_tset_same _ _ _ _

theorem ain1_setAin_other {i j : Nat} (h : i ≠ j) (s : State) (v : AinCh) : (s.setAin i v).ain1 j = s.ain1 j :=
  tgetD_tset_other _ _ _ _ _ h.symm

/-- An input with the sample of a data slot of state `s`; an unused input takes none. -/
def convertedIn (s : State) (samples : List F32) (clip : BitVec 16) (i : Nat) (x : AinCh) : AinCh :=
  if x.range = 0 then x
  else { x with
    samples := ((s.slotMid s.afe.slot, s.afeCorrect i (samples.getD i F32.zero)) :: x.samples).take 1024
    clipped := clip.getLsbD i }

/-- The step of a data slot for one input. -/
def slotStep (s : State) (samples : List F32) (clip : BitVec 16) (a : State) (i : Nat) : State :=
  if (a.ain1 i).range = 0 then a
  else a.setAin i { a.ain1 i with
    samples := ((s.slotMid s.afe.slot, s.afeCorrect i (samples.getD i F32.zero)) :: (a.ain1 i).samples).take 1024
    clipped := clip.getLsbD i }

theorem slotStep_own (s : State) (samples : List F32) (clip : BitVec 16) (a : State) (i : Nat) :
    (slotStep s samples clip a i).ain1 i = convertedIn s samples clip i (a.ain1 i) := by
  unfold slotStep convertedIn
  split
  · rfl
  · exact ain1_setAin_same _ _ _

theorem slotStep_other (s : State) (samples : List F32) (clip : BitVec 16) (a : State) (i j : Nat) (h : i ≠ j) :
    (slotStep s samples clip a i).ain1 j = a.ain1 j := by
  unfold slotStep
  split
  · rfl
  · exact ain1_setAin_other h _ _

theorem slotStep_fio (s : State) (samples : List F32) (clip : BitVec 16) (l : List Nat) (a : State) :
    l.foldl (slotStep s samples clip) a = { a with fio := (l.foldl (slotStep s samples clip) a).fio } := by
  induction l generalizing a with
  | nil => rfl
  | cons i l ih =>
    have hstep : slotStep s samples clip a i = { a with fio := (slotStep s samples clip a i).fio } := by
      unfold slotStep
      split <;> rfl
    exact (ih _).trans (congrArg (fun u : State => { u with
      fio := (l.foldl (slotStep s samples clip) (slotStep s samples clip a i)).fio }) hstep)

theorem afeDataSlotEnd_samples (samples : List F32) (clip : BitVec 16) {s : State} (hd : s.dieOn = true)
    (hslot : s.afe.slot < 16) :
    ∃ t, exec (.afeDataSlotEnd samples clip) s = .next t ∧ t = { s with afe.slot := s.afe.slot + 1, fio := t.fio } ∧
      ∀ i, i < 16 → t.ain1 i = convertedIn s samples clip i (s.ain1 i) := by
  have hrow : exec (.afeDataSlotEnd samples clip) s = .next
      { (List.range 16).foldl (slotStep s samples clip) s with afe.slot := s.afe.slot + 1 } := by
    show execAfeDataSlotEnd samples clip s = _
    unfold execAfeDataSlotEnd slotStep
    rw [if_pos (by simp [hd, hslot])]
  have hfio := slotStep_fio s samples clip (List.range 16) s
  have hin : ∀ i, i < 16 → ((List.range 16).foldl (slotStep s samples clip) s).ain1 i =
      convertedIn s samples clip i (s.ain1 i) := fun i hi =>
    get_foldl_of_mem (slotStep_other s samples clip) (slotStep_own s samples clip) List.nodup_range s
      (List.mem_range.mpr hi)
  generalize (List.range 16).foldl (slotStep s samples clip) s = u at hrow hfio hin
  refine ⟨_, hrow, ?_, hin⟩
  rw [hfio]

/-! ### Reference slots (R182, R183) -/

/-- The step of a reference slot for one input. -/
def refStep (k : Nat) (refs : List F32) (t : Tab (List F32)) (i : Nat) : Tab (List F32) :=
  tset t (3 * i + k) ((refs.getD i F32.zero :: tgetD t (3 * i + k) []).take 64)

theorem tget_refStep_fold (k : Nat) (refs : List F32) (t : Tab (List F32)) {i : Nat} (hi : i < 16) :
    tget ((List.range 16).foldl (refStep k refs) t) (3 * i + k) =
      some ((refs.getD i F32.zero :: tgetD t (3 * i + k) []).take 64) :=
  get_foldl_of_mem (get := fun (t : Tab (List F32)) i => tget t (3 * i + k)) (f := refStep k refs)
    (g := fun i o => some ((refs.getD i F32.zero :: o.getD []).take 64))
    (fun a i j h => tget_tset_other _ _ _ _ (by omega)) (fun a i => tget_tset_same _ _ _) List.nodup_range t
    (List.mem_range.mpr hi)

/-- New corrections may wait after the update of an input; nothing else is touched but the calibration fault. -/
theorem afeUpdate_shape (s : State) (i : Nat) : s.afeUpdate i = { s with
    afe.gainNext := (s.afeUpdate i).afe.gainNext, afe.offsetNext := (s.afeUpdate i).afe.offsetNext,
    afe.calFault := (s.afeUpdate i).afe.calFault } := by
  unfold State.afeUpdate
  dsimp only
  split
  · rfl
  · split <;> rfl

/-- `t` is `s` but for corrections that wait and the calibration fault. -/
def Waits (s t : State) : Prop := t = { s with
  afe.gainNext := t.afe.gainNext, afe.offsetNext := t.afe.offsetNext, afe.calFault := t.afe.calFault }

theorem Waits.trans {s t u : State} (h : Waits s t) (h' : Waits t u) : Waits s u :=
  Eq.trans h' (congrArg (fun x : State => { x with
    afe.gainNext := u.afe.gainNext, afe.offsetNext := u.afe.offsetNext, afe.calFault := u.afe.calFault }) h)

theorem waits_foldl (l : List Nat) (s : State) : Waits s (l.foldl (fun a i => a.afeUpdate i) s) := by
  induction l generalizing s with
  | nil => rfl
  | cons i l ih => exact Waits.trans (afeUpdate_shape s i) (ih _)

theorem afeStore_refs (s : State) (refs : List F32) : ∃ r, s.afeStore refs = { s with afe.refs := r } ∧
    ∀ i, i < 16 → tget r (3 * i + s.afe.frameNo % 3) =
      some ((refs.getD i F32.zero :: tgetD s.afe.refs (3 * i + s.afe.frameNo % 3) []).take 64) := by
  have hin := fun i (hi : i < 16) => tget_refStep_fold (s.afe.frameNo % 3) refs s.afe.refs hi
  have hstore : s.afeStore refs =
      { s with afe.refs := (List.range 16).foldl (refStep (s.afe.frameNo % 3) refs) s.afe.refs } := by
    unfold State.afeStore refStep
    dsimp only
  generalize (List.range 16).foldl (refStep (s.afe.frameNo % 3) refs) s.afe.refs = r at hin hstore
  exact ⟨r, hstore, hin⟩

/-- The state after a reference slot whose references are stored as `r`. -/
def refSlotDone (s : State) (r : Tab (List F32)) : State :=
  { s with afe.refs := r, afe.slot := 17, afe.lastRef := s.epoch, afe.calAged := false }

theorem afeRefSlotEnd_stores (refs : List F32) {s : State} (hd : s.dieOn = true) (hu : s.afe.uniform = false)
    (hslot : s.afe.slot = 16) :
    ∃ t r, exec (.afeRefSlotEnd refs) s = .next t ∧ Waits (refSlotDone s r) t ∧
      (s.afe.frameNo % 3 ≠ 2 → t = refSlotDone s r) ∧
      ∀ i, i < 16 → tget r (3 * i + s.afe.frameNo % 3) =
        some ((refs.getD i F32.zero :: tgetD s.afe.refs (3 * i + s.afe.frameNo % 3) []).take 64) := by
  obtain ⟨r, hstore, hin⟩ := afeStore_refs s refs
  have hrow : exec (.afeRefSlotEnd refs) s = .next (if s.afe.frameNo % 3 = 2
      then (List.range 16).foldl (fun a i => a.afeUpdate i) (refSlotDone s r) else refSlotDone s r) := by
    show execAfeRefSlotEnd refs s = _
    unfold execAfeRefSlotEnd
    rw [if_pos (by simp [hd, hu, hslot]), hstore]
    dsimp only [refSlotDone]
  have hfold := waits_foldl (List.range 16) (refSlotDone s r)
  generalize (List.range 16).foldl (fun a i => a.afeUpdate i) (refSlotDone s r) = u at hrow hfold
  refine ⟨_, r, hrow, ?_, fun h => if_neg h, hin⟩
  split
  · exact hfold
  · rfl

/-- Settles O32: the fold over the sixteen inputs gives each its own sample or reference, and each row its equation. -/
theorem analogFramesComplete : Obligations.AnalogFramesComplete := by
  unfold Obligations.AnalogFramesComplete
  refine ⟨?frame, ?data, ?ref, ?aged⟩
  case frame =>
    intro s hd hr he
    exact ⟨_, congrArg Host.Outcome.next (if_pos (by simp [hd, hr, he])), rfl, rfl, rfl, rfl, rfl, rfl, rfl, rfl, rfl⟩
  case data =>
    intro samples clip s hd hslot
    obtain ⟨t, hrow, hshape, hin⟩ := afeDataSlotEnd_samples samples clip hd hslot
    exact ⟨t, hrow, hshape, fun i hi => ⟨fun h => (hin i hi).trans (if_pos h), fun h => (hin i hi).trans (if_neg h)⟩⟩
  case ref =>
    intro refs s hd hu hslot
    obtain ⟨t, r, hrow, hwait, hsame, hin⟩ := afeRefSlotEnd_stores refs hd hu hslot
    unfold Waits at hwait
    refine ⟨t, hrow, ?_, ?_, ?_, ?_, ?_, ?_, fun h => ?_, fun i hi => ?_⟩
    · rw [hwait]; rfl
    · rw [hwait]; rfl
    · rw [hwait]; rfl
    · rw [hwait]; rfl
    · rw [hwait]; rfl
    · rw [hwait]; rfl
    · rw [hsame h]
      exact ⟨rfl, rfl⟩
    · rw [hwait]
      exact hin i hi
  case aged =>
    intro s hd hu hage
    exact congrArg Host.Outcome.next (if_pos (by simp [hd, hu, hage]))

end Sys2Proof.Proofs

/-! PROOF. Estimate updates and calibration windows (R150 to R153, R170 to R180, R186; O31). -/

namespace Sys2Proof.Proofs

open Sys2Proof.Machine Sys2Proof.Laws

/-! ### Updates (R150, R152, R170) -/

/-- An update on what the tick holds: the present state where nothing was published after the boundary. -/
theorem percNew_present {s : State} (m : NetModel) (he : s.edge = none) : s.atEdge.percNew m = s.percNew m := by
  unfold State.atEdge
  rw [he]

theorem percNew_past {s : State} {p : Past} (m : NetModel) (he : s.edge = some p) :
    s.atEdge.percNew m = (s.withPast p).percNew m := by
  unfold State.atEdge
  rw [he]

section
variable {m : NetModel} {s : State} (hm : s.activeModel = some m) (hon : s.percOn = true)
include hm hon

theorem percUpdateStart_due (hord : s.order ≤ 7)
    (hat : ((s.epoch : Int) - (s.pn P.PERC_PHASE_TICKS 0 : Int)) % ((s.perc.effPeriodMs * 8 : Nat) : Int) = 0) :
    exec .percUpdateStart s = .next (
      if s.perc.upd.isSome || s.perc.mappingDue.isSome then { s.atOrder 7 with perc.late := s.perc.late + 1 }
      else { s.atOrder 7 with
        perc.upd := some (s.atEdge.percNew m)
        perc.state := max s.perc.state 1 }) := by
  show execPercUpdateStart s = _
  unfold execPercUpdateStart
  rw [hm]
  exact congrArg Host.Outcome.next (if_pos (by
    simp only [hon, State.orderOk, hord, hat, decide_true, Bool.and_self, beq_self_eq_true]))

theorem calWindowEnd_due (hord : s.order ≤ 8) (hlate : s.perc.windowStart < s.epoch)
    (hgrid : s.onGrid (s.calPar P.CAL_WINDOW_MIN) = true ∨ s.onGrid (s.pn P.CAL_WINDOW_MIN 0) = true) :
    exec (.calWindowEnd s.perc.windowStart) s = .next
      (((if s.onGrid (s.calPar P.CAL_WINDOW_MIN) then s.calWindowEnd m else s).calWindowOpen).atOrder 8) := by
  show execCalWindowEnd _ s = _
  unfold execCalWindowEnd
  rw [hm]
  exact congrArg Host.Outcome.next (if_pos (by simpa [hon, State.orderOk, hord, hlate] using hgrid))

end

theorem percUpdatePublish_publishes {u : PercUpd} {m : NetModel} {r : PercResult} {s : State}
    (hu : s.perc.upd = some u) (hm : u.model = some m) (hon : s.percOn = true) (hok : s.percResultOk u m r = true) :
    exec (.percUpdatePublish r) s = .next (s.closeEdge.percPublish u m r) := by
  show execPercUpdatePublish r s = _
  unfold execPercUpdatePublish
  rw [hu]
  dsimp only
  rw [hm]
  exact congrArg Host.Outcome.next (if_pos (by simp [hon, hok]))

/-- What an update records does not depend on whether the boundary's versions are kept. -/
theorem estRecords_closeEdge (s : State) (u : PercUpd) (m : NetModel) (r : PercResult) :
    s.closeEdge.estRecords u m (s.closeEdge.percWater u m r) r = s.estRecords u m (s.percWater u m r) r := by
  unfold State.closeEdge
  split <;> rfl

theorem percPublish_shape (s : State) (u : PercUpd) (m : NetModel) (r : PercResult) :
    s.percPublish u m r = { s with perc := (s.percPublish u m r).perc } := rfl

/-! ### The update after an activation (R170) -/

/-- The parcels and node temperatures that the update after an activation keeps. -/
def keptWater (s : State) (u : PercUpd) : Tab (List Parcel) × Tab Rat :=
  match s.perc.mapFrom, u.model with
  | some o, some m => (mapParcels o m s.perc.parcels, mapTemps o m s.perc.set)
  | _, _ => ([], [])

theorem mappingUpdate_due {u : PercUpd} {s : State} (hdue : s.perc.mappingDue = some u) (hon : s.percOn = true)
    (hu : s.perc.upd = none) :
    exec .mappingUpdate s = .next { s with
      perc.upd := some { u with init := !s.perc.hasParcels || s.perc.mapFrom.isNone, nodeTemps := (keptWater s u).2 }
      perc.mappingDue := none
      perc.mapFrom := none
      perc.parcels := (keptWater s u).1 } := by
  show execMappingUpdate s = _
  unfold execMappingUpdate
  rw [hdue]
  exact congrArg Host.Outcome.next (if_pos (by simp [hon, hu]))

/-! ### Calibration windows (R172 to R176, R186) -/

/-- Of a void window the end of a quantity leaves the state as it was. -/
theorem calWindowOne_void {s : State} (hv : s.windowVoid = true) (acc : State × Bool) (x : List Byte × Nat) :
    (s.calWindowOne acc x).1 = acc.1 := by
  unfold State.calWindowOne
  dsimp only
  split
  · rfl
  · rw [if_pos (by simp [hv])]

theorem calWindowOne_shape (s : State) (acc : State × Bool) (x : List Byte × Nat) :
    (s.calWindowOne acc x).1 = { acc.1 with perc := (s.calWindowOne acc x).1.perc } := by
  unfold State.calWindowOne
  dsimp only
  split
  · rfl
  · split
    · rfl
    · split <;> rfl

/-- `t` is `s` but for the Percolator. -/
def PercOnly (s t : State) : Prop := t = { s with perc := t.perc }

theorem PercOnly.trans {s t u : State} (h : PercOnly s t) (h' : PercOnly t u) : PercOnly s u :=
  Eq.trans h' (congrArg (fun x : State => { x with perc := u.perc }) h)

theorem calWindowFold_percOnly (s : State) (l : List (List Byte × Nat)) (acc : State × Bool) :
    PercOnly acc.1 (l.foldl s.calWindowOne acc).1 := by
  induction l generalizing acc with
  | nil => rfl
  | cons x l ih => exact PercOnly.trans (calWindowOne_shape s acc x) (ih _)

theorem calWindowFold_void {s : State} (hv : s.windowVoid = true) (l : List (List Byte × Nat)) (acc : State × Bool) :
    (l.foldl s.calWindowOne acc).1 = acc.1 := by
  induction l generalizing acc with
  | nil => rfl
  | cons x l ih => exact (ih _).trans (calWindowOne_void hv acc x)

theorem calWindowEnd_percOnly (s : State) (m : NetModel) : PercOnly s (s.calWindowEnd m) := by
  have h := calWindowFold_percOnly s (calList m) (s, false)
  unfold State.calWindowEnd
  dsimp only
  split
  · exact h.trans rfl
  · exact h

theorem calWindowEnd_void {s : State} (hv : s.windowVoid = true) (m : NetModel) :
    (s.calWindowEnd m).perc.cal = s.perc.cal := by
  have h := congrArg (fun t : State => t.perc.cal) (calWindowFold_void hv (calList m) (s, false))
  unfold State.calWindowEnd
  dsimp only
  split
  · exact h
  · exact h

theorem atOrder_eight {s : State} (h : s.order ≤ 8) : s.atOrder 8 = { s with order := 8 } := by
  unfold State.atOrder
  rw [max_eq_right h]
  rfl

/-- A window that starts, after a state that differs from the unit's in the Percolator alone. -/
theorem calWindowOpen_of_percOnly {s t : State} (h : PercOnly s t) (hord : s.order ≤ 8) :
    t.calWindowOpen.atOrder 8 = { s with order := 8, perc := (t.calWindowOpen.atOrder 8).perc } ∧
    (t.calWindowOpen.atOrder 8).perc.windowStart = s.epoch ∧ (t.calWindowOpen.atOrder 8).perc.freezeSeen = false ∧
    (t.calWindowOpen.atOrder 8).perc.implPts = [] ∧
    (t.calWindowOpen.atOrder 8).perc.calPars = [P.CAL_ENABLE, P.CAL_WINDOW_MIN, P.CAL_MIN_FLOW_PCT,
      P.CAL_MIN_VALID_PCT].map (fun id => (pkey id 0, s.pv id 0)) ∧
    (t.calWindowOpen.atOrder 8).perc.cal = t.perc.cal := by
  unfold PercOnly at h
  have hto : t.calWindowOpen.order ≤ 8 := by rw [h]; exact hord
  rw [atOrder_eight hto, h]
  exact ⟨rfl, rfl, rfl, rfl, rfl, rfl⟩

/-! ### CAL_RESET (R178) -/

/-- One quantity staged at its image value. -/
def stageImage (t : Tab CalQ) (x : List Byte × Nat) : Tab CalQ :=
  tset t (calKey (recId x.1) x.2) { calOf t x.1 x.2 with staged := some (calImage x.1 x.2), resetPend := true }

theorem calResetFold_perc (l : List (List Byte × Nat)) (s : State) :
    l.foldl (fun a x => ({ a with perc.cal := stageImage a.perc.cal x } : State)) s =
      { s with perc.cal := l.foldl stageImage s.perc.cal } := by
  induction l generalizing s with
  | nil => rfl
  | cons x l ih => exact ih _

theorem calResetStage_eq (s : State) (m : NetModel) (all : Bool) (e : Nat) :
    s.calResetStage m all e = { s with
      perc.cal := ((calList m).filter (fun x => all || recId x.1 == e)).foldl stageImage s.perc.cal } :=
  calResetFold_perc _ s

/-- Entries of two records may share a key: the entry then holds the image value of the later one. -/
theorem stageImage_staged (l : List (List Byte × Nat)) (t : Tab CalQ) {x : List Byte × Nat} (hx : x ∈ l) :
    ∃ y ∈ l, ∃ c, calKey (recId y.1) y.2 = calKey (recId x.1) x.2 ∧
      tget (l.foldl stageImage t) (calKey (recId x.1) x.2) = some c ∧ c.staged = some (calImage y.1 y.2) ∧
      c.resetPend = true := by
  induction l using List.reverseRecOn with
  | nil => exact absurd hx List.not_mem_nil
  | append_singleton l z ih =>
    have hfold : (l ++ [z]).foldl stageImage t = stageImage (l.foldl stageImage t) z := List.foldl_append
    rw [hfold]
    by_cases hk : calKey (recId x.1) x.2 = calKey (recId z.1) z.2
    · rw [hk]
      exact ⟨z, by simp, _, rfl, tget_tset_same _ _ _, rfl, rfl⟩
    · have hne : x ≠ z := fun h => hk (by rw [h])
      obtain ⟨y, hy, c, hkey, hget, hst, hp⟩ := ih ((List.mem_append.mp hx).resolve_right (by simpa using hne))
      exact ⟨y, List.mem_append_left _ hy, c, hkey, (tget_tset_other _ _ _ _ hk).trans hget, hst, hp⟩

/-! ### CAL_READ and CAL_RESET as commands (R178, R180) -/

section
variable {h : Hdr} {m : NetModel} {s : State} (hm : s.activeModel = some m)
include hm

theorem calRead_effect (ha : s.admitted calReadInfo h = true) :
    exec (.calRead h) s = .next (s.answered calReadInfo h 0
      { data := (((calList m).take (h.room / 24)).map (fun x => calRecBytes s.perc.cal x.1 x.2)).flatten }) := by
  have hv : calReadVerdict h (s.take h) =
      { data := (((calList m).take (h.room / 24)).map (fun x => calRecBytes s.perc.cal x.1 x.2)).flatten } := by
    unfold calReadVerdict
    rw [(activeModel_of_sameBanks (sameBanks_of_eq (take_model s h))).trans hm, take_perc]
  exact congrArg Host.Outcome.next (command_eq (m := 0) ha hv)

theorem calReset_effect {all : Bool} {e : Nat} (ha : s.admitted calResetInfo h = true)
    (hel : all = true ∨ (findElem m e).isSome = true) :
    ∃ t, exec (.calReset h all e) s = .next t ∧ Silent { s with perc := t.perc } t ∧
      t.perc.cal = ((calList m).filter (fun x => all || recId x.1 == e)).foldl stageImage s.perc.cal := by
  have hv : calResetVerdict all e (s.take h) = { act := fun t => t.calResetStage m all e } := by
    unfold calResetVerdict
    rw [(activeModel_of_sameBanks (sameBanks_of_eq (take_model s h))).trans hm]
    exact if_pos (by simpa using hel)
  have hcmd := command_acts (m := e) ha hv
  have hu : Silent s (s.answered calResetInfo h e {}) := silent_answered _ _ _ _ _
  refine ⟨_, congrArg Host.Outcome.next (hcmd.trans (calResetStage_eq _ m all e)), silent_with_perc hu _, ?_⟩
  rw [answered_perc]

end

/-- Settles O31: each row has its equation; the two folds over the calibrated quantities carry the rest. -/
theorem estimationComplete : Obligations.EstimationComplete := by
  unfold Obligations.EstimationComplete
  refine ⟨?start, ?publish, ?mapping, ?window, ?read, ?reset⟩
  case start =>
    intro m s hm hon hord hat
    have hrow := percUpdateStart_due hm hon hord hat
    rw [atOrder_seven hord] at hrow
    refine ⟨fun hbusy => ?_, fun hu hd => ?_⟩
    · rw [hrow, if_pos (by simpa using hbusy)]
    · rw [if_neg (by simp [hu, hd])] at hrow
      refine ⟨_, _, hrow, rfl, rfl, rfl, rfl, fun he => ?_, fun p he => ?_, rfl, rfl⟩
      · rw [percNew_present m he]
        exact ⟨rfl, rfl, rfl, rfl, rfl⟩
      · rw [percNew_past m he]
        exact ⟨rfl, rfl, rfl, rfl⟩
  case publish =>
    intro u m r s hu hm hon hok
    have hshape : s.closeEdge.percPublish u m r =
        { s with perc := (s.closeEdge.percPublish u m r).perc, edge := s.closeEdge.edge } :=
      (percPublish_shape s.closeEdge u m r).trans
        (congrArg (fun x : State => { x with perc := (s.closeEdge.percPublish u m r).perc }) (closeEdge_shape s))
    refine ⟨_, _, percUpdatePublish_publishes hu hm hon hok, hshape, rfl, rfl, rfl, rfl, rfl, rfl,
      estRecords_closeEdge s u m r, rfl, ?_, rfl, rfl⟩
    have hperc : s.closeEdge.perc = s.perc := by rw [closeEdge_shape s]
    exact congrArg (fun x : PercSt => if 2 ^ 32 ≤ x.updateNo + 1 then 1 else x.updateNo + 1) hperc
  case mapping =>
    intro u s hdue hon hu
    refine ⟨_, (keptWater s u).2, mappingUpdate_due hdue hon hu, rfl, rfl, rfl, fun o m ho hm => ?_⟩
    unfold keptWater
    rw [ho, hm]
    exact ⟨rfl, rfl⟩
  case window =>
    intro m s hm hon hord hlate hgrid
    have hrow := calWindowEnd_due hm hon hord hlate hgrid
    cases hown : s.onGrid (s.calPar P.CAL_WINDOW_MIN) with
    | false =>
      rw [hown] at hrow
      obtain ⟨hshape, hws, hfz, hpts, hpars, hcal⟩ := calWindowOpen_of_percOnly (s := s) (t := s) rfl hord
      exact ⟨_, hrow, hshape, hws, hfz, hpts, hpars, fun _ => hcal⟩
    | true =>
      rw [hown] at hrow
      obtain ⟨hshape, hws, hfz, hpts, hpars, hcal⟩ := calWindowOpen_of_percOnly (calWindowEnd_percOnly s m) hord
      exact ⟨_, hrow, hshape, hws, hfz, hpts, hpars, fun hvoid => hcal.trans
        (calWindowEnd_void (hvoid.resolve_left (by decide)) m)⟩
  case read =>
    intro h m s ha hm
    exact calRead_effect hm ha
  case reset =>
    intro h all e m s ha hm hel
    obtain ⟨t, hrow, hsilent, hcal⟩ := calReset_effect hm ha hel
    refine ⟨t, hrow, hsilent, fun x hx hsel => ?_⟩
    rw [hcal]
    obtain ⟨y, hy, c, hc⟩ := stageImage_staged ((calList m).filter (fun x => all || recId x.1 == e)) s.perc.cal
      (List.mem_filter.mpr ⟨hx, by simpa using hsel⟩)
    exact ⟨y, (List.mem_filter.mp hy).1, c, hc⟩

end Sys2Proof.Proofs

/-! PROOF. The rounds, messages, members and gateways of the federation exchange (R190 to R216; O33). -/

namespace Sys2Proof.Proofs

open Sys2Proof.Machine Sys2Proof.Laws

/-! ### Couplings -/

/-- `t` is `s` but for its couplings. -/
def CoupsOnly (s t : State) : Prop := t = { s with fed.coups := t.fed.coups }

theorem coupsOnly_setCoups {α : Type} (i : α → Nat) (c : State → α → CoupSt) (l : List α) (s : State) :
    CoupsOnly s (l.foldl (fun a r => a.setCoup (i r) (c a r)) s) := by
  obtain ⟨cs, h⟩ := setCoup_fold i c l s
  rw [CoupsOnly, h]

/-- A coupling that shows its present agreement and state, and no proposal of its own (R199). -/
structure Settled (c : CoupSt) : Prop where
  pub : c.pub = c.cur
  state : c.pubState = c.state
  own : c.own = none

theorem coupClose_settled (s : State) (l : Nat) (r : List Byte) (c : CoupSt) : Settled (s.coupClose l r c) :=
  ⟨rfl, rfl, rfl⟩

/-- The entry of a coupling in the table, once it is published. -/
def SettledAt (s : State) (i : Nat) : Prop := ∃ c, tget s.fed.coups i = some c ∧ Settled c

theorem SettledAt.coup {s : State} {i : Nat} (h : SettledAt s i) : Settled (s.coup i) := by
  obtain ⟨c, hc, hp⟩ := h
  unfold State.coup
  rw [hc]
  exact hp

/-- One coupling at the close of a round of a level. -/
def closeStep (l : Nat) (a : State) (r : List Byte) : State :=
  a.setCoup (coupIdx r) (a.coupClose l r (a.coup (coupIdx r)))

theorem closeStep_same (l : Nat) (a : State) (r : List Byte) : SettledAt (closeStep l a r) (coupIdx r) :=
  ⟨_, tget_tset_same _ _ _, coupClose_settled a l r _⟩

theorem closeStep_keeps {l i : Nat} {a : State} (h : SettledAt a i) (r : List Byte) : SettledAt (closeStep l a r) i := by
  by_cases hi : i = coupIdx r
  · rw [hi]
    exact closeStep_same l a r
  · obtain ⟨c, hc, hp⟩ := h
    exact ⟨c, (tget_tset_other _ _ _ _ hi).trans hc, hp⟩

theorem closeFold_keeps {l i : Nat} (rs : List (List Byte)) {a : State} (h : SettledAt a i) :
    SettledAt (rs.foldl (closeStep l) a) i := by
  induction rs generalizing a with
  | nil => exact h
  | cons r rs ih => exact ih (closeStep_keeps h r)

theorem closeFold_settled {l : Nat} {rs : List (List Byte)} (a : State) {r : List Byte} (hr : r ∈ rs) :
    SettledAt (rs.foldl (closeStep l) a) (coupIdx r) := by
  induction rs generalizing a with
  | nil => exact absurd hr List.not_mem_nil
  | cons x rs ih =>
    cases List.mem_cons.mp hr with
    | inl h =>
      rw [h]
      exact closeFold_keeps rs (closeStep_same l a x)
    | inr h => exact ih _ h

/-! ### Rounds (R192 to R194, R199, R208) -/

/-- The state after a round of a level has closed. -/
def closedRound (s : State) (l : Nat) : State :=
  { s with
    fed.closeDue := tset s.fed.closeDue l false
    fed.coups := ((s.coupsAt l).foldl (closeStep l) s).fed.coups
    fed.rejected := s.fed.rejected + BitVec.ofNat 32 (s.net.segs.length - (s.net.segs.filter (fun b => b.level != l)).length)
    net.segs := s.net.segs.filter (fun b => b.level != l) }

theorem closeRound_due {s : State} {l : Nat} (hdue : tgetD s.fed.closeDue l false = true)
    (hend : tgetD s.fed.openings l 0 + roundTicks l ≤ s.epoch) : s.closeRound l = closedRound s l := by
  have hfold : CoupsOnly s ((s.coupsAt l).foldl (closeStep l) s) :=
    coupsOnly_setCoups coupIdx (fun a r => a.coupClose l r (a.coup (coupIdx r))) _ s
  unfold State.closeRound closedRound
  rw [if_pos (by simp [hdue, hend])]
  change (fun s1 : State => ({ s1 with
      fed.closeDue := tset s1.fed.closeDue l false
      fed.rejected := s1.fed.rejected + BitVec.ofNat 32 (s1.net.segs.length - (s1.net.segs.filter (fun b => b.level != l)).length)
      net.segs := s1.net.segs.filter (fun b => b.level != l) } : State)) ((s.coupsAt l).foldl (closeStep l) s) = _
  unfold CoupsOnly at hfold
  generalize (s.coupsAt l).foldl (closeStep l) s = u at hfold ⊢
  rw [hfold]

theorem closeRound_before {s : State} {l : Nat} (h : s.epoch < tgetD s.fed.openings l 0 + roundTicks l) :
    s.closeRound l = s := if_neg (by simp [h])

theorem closeRound_keeps (s : State) (l : Nat) : (s.closeRound l).epoch = s.epoch ∧ (s.closeRound l).order = s.order := by
  by_cases h : tgetD s.fed.closeDue l false = true ∧ tgetD s.fed.openings l 0 + roundTicks l ≤ s.epoch
  · rw [closeRound_due h.1 h.2]
    exact ⟨rfl, rfl⟩
  · have hs : s.closeRound l = s := if_neg (by simpa using h)
    rw [hs]
    exact ⟨rfl, rfl⟩

theorem closed_settled {s : State} {l : Nat} {r : List Byte} (hr : r ∈ s.coupsAt l) :
    Settled ((closedRound s l).coup (coupIdx r)) :=
  SettledAt.coup (s := closedRound s l) (closeFold_settled s hr)

/-- A round of a level is open since a time. -/
structure Opened (t : State) (l e o : Nat) : Prop where
  opening : tget t.fed.openings l = some e
  due : tget t.fed.closeDue l = some true
  order : t.order = o

theorem Opened.of_part {s t : State} {l e o : Nat} (h : Opened s l e o) (hp : roundPart t = roundPart s) : Opened t l e o := by
  simp only [roundPart, Prod.mk.injEq] at hp
  obtain ⟨hop, hdue, -, -, hord⟩ := hp
  exact ⟨hop ▸ h.opening, hdue ▸ h.due, hord ▸ h.order⟩

theorem openRound_opens (s : State) (l : Nat) : Opened (s.openRound l) l s.epoch s.order := by
  have hpart : roundPart ((if l = 4 then s.fedRefresh else s).switchFloor l) = roundPart s :=
    (roundPart_switchFloor _ _).trans (roundPart_ite (roundPart_fedRefresh s) rfl)
  unfold State.openRound
  dsimp only
  generalize (if l = 4 then s.fedRefresh else s).switchFloor l = u at hpart ⊢
  simp only [roundPart, Prod.mk.injEq] at hpart
  have hopen : Opened { u with
      fed.openings := tset u.fed.openings l s.epoch
      fed.closeDue := tset u.fed.closeDue l true
      fed.windows := tset u.fed.windows l (u.exchWindow l ++ u.roundPars l) } l s.epoch s.order :=
    ⟨tget_tset_same _ _ _, tget_tset_same _ _ _, hpart.2.2.2.2⟩
  split
  · exact hopen.of_part (roundPart_speakRound _ _)
  · exact hopen

theorem roundOpening_opens {l : Nat} {s : State} (hl : s.live = true) (hlev : levelOk l = true) (hord : s.order ≤ 7)
    (hat : s.epoch % roundTicks l = 0) (hnew : tgetD s.fed.openings l 0 ≠ s.epoch) :
    ∃ t, exec (.roundOpening l) s = .next t ∧ Opened t l s.epoch 7 := by
  refine ⟨_, congrArg Host.Outcome.next (if_pos ?_), ?_⟩
  · simp only [hl, hlev, State.orderOk, hord, hat, decide_true, Bool.and_self, beq_self_eq_true, Bool.true_and,
      bne_iff_ne, ne_eq, hnew, not_false_eq_true]
  · obtain ⟨hepoch, horder⟩ := closeRound_keeps (s.atOrder 7) l
    have h := openRound_opens ((s.atOrder 7).closeRound l) l
    rw [hepoch, horder, atOrder_seven hord] at h
    rw [atOrder_seven hord]
    exact h

theorem roundClose_live {l : Nat} {s : State} (hl : s.live = true) (hlev : levelOk l = true) :
    exec (.roundClose l) s = .next (s.closeRound l) := congrArg Host.Outcome.next (if_pos (by simp [hl, hlev]))

/-! ### Messages (R194, R203, R207 to R216) -/

section
variable {m : QMsg} {s : State} (hlisten : s.qListens m = true) (hone : m.segCount ≤ 1) (hseg : m.seg = 0)
include hlisten hone hseg

theorem proposeRx_whole (ps : List Proposal) : exec (.proposeRx m ps) s = .next (
    if !qHeadOk m 2 then s.qReject
    else if !s.speaks m.version then (s.foreign m).qReject
    else if !s.claimOk m then s.qReject
    else if m.src = s.fed.addr then s.sawQ m
    else if !s.live then s
    else if !s.inRound m || !ps.all entryOk then s.qReject
    else if s.fed.enabled then (s.sawQ m).proposeIn m ps
    else s.sawQ m) := by
  have hwhole : s.segArrive m = (s, true) := (if_pos hone).trans (by rw [hseg]; rfl)
  show execProposeRx m ps s = _
  unfold execProposeRx
  rw [if_neg (by simp [hlisten]), hwhole]
  rfl

theorem advertiseRx_whole (a : Advert) : exec (.advertiseRx m a) s = .next (
    if !qHeadOk m 1 then s.qReject
    else if !s.speaks m.version then (s.foreign m).qReject
    else if !s.claimOk m then s.qReject
    else if m.src = s.fed.addr then s.sawQ m
    else if s.live then (s.sawQ m).advertiseIn m a
    else s) := by
  have hwhole : s.segArrive m = (s, true) := (if_pos hone).trans (by rw [hseg]; rfl)
  show execAdvertiseRx m a s = _
  unfold execAdvertiseRx
  rw [if_neg (by simp [hlisten]), hwhole]
  rfl

end

/-- A message in a foreign version marks couplings, and is counted as rejected. -/
theorem foreign_reject_shape (s : State) (m : QMsg) : (s.foreign m).qReject =
    { s with fed.coups := (s.foreign m).qReject.fed.coups, fed.rejected := s.fed.rejected + 1 } := by
  have h : CoupsOnly s (s.foreign m) := coupsOnly_setCoups coupIdx
    (fun a r => { a.coup (coupIdx r) with foreignHeard := true }) _ s
  exact congrArg State.qReject h

theorem sawQ_other {s : State} {m : QMsg} (h : m.src ≠ s.fed.addr) : s.sawQ m =
    { s with fed.peers := tset s.fed.peers m.src { claim := m.claim, seq := m.seq, seen := true } } := if_neg h

theorem peers_of_part {s t : State} (h : peersPart t = peersPart s) : t.fed.peers = s.fed.peers :=
  (congrArg Prod.fst h).trans rfl

theorem fedMembers_of_part {s t : State} (h : peersPart t = peersPart s) (l : Nat) : t.fedMembers l = s.fedMembers l :=
  congrArg (fun x : Tab PeerRec × Tab (List FedMember) × Nat × Nat × Nat => tgetD x.2.1 l []) h

theorem fedMembers_setMembers (s : State) (l : Nat) (ms : List FedMember) : (s.setMembers l ms).fedMembers l = ms :=
  tgetD_tset_same _ _ _ _

theorem setMembers_silent {s u : State} (hu : Silent s u) (l : Nat) (ms : List FedMember) :
    Silent { s with fed.members := (u.setMembers l ms).fed.members } (u.setMembers l ms) := by
  have h := silent_with_fed hu { s.fed with members := tset s.fed.members l ms }
  unfold State.setMembers
  rw [silent_fed hu]
  exact h

/-- The entry that an advertisement makes at an epoch. -/
def advertised (m : QMsg) (a : Advert) (e : Nat) : FedMember :=
  if m.level = 4 then { addr := m.src, cur := a.cur, curMax := a.cur, members := 1, heardAt := e, round := m.round }
  else { addr := m.src, cur := a.aggMin, curMax := a.aggMax, members := a.members, heardAt := e, round := m.round }

theorem advertiseIn_members {s : State} {m : QMsg} (hc : s.computes m.level = true) (a : Advert) :
    (s.advertiseIn m a).fed.peers = s.fed.peers ∧
    (s.advertiseIn m a).fedMembers m.level = putMember (s.fedMembers m.level) (advertised m a s.epoch) := by
  have hpart : peersPart (s.advertiseIn m a) =
      peersPart (s.setMembers m.level (putMember (s.fedMembers m.level) (advertised m a s.epoch))) := by
    unfold State.advertiseIn
    rw [if_pos hc]
    exact peersPart_adoptFloors _ _ _
  exact ⟨(peers_of_part hpart).trans rfl, (fedMembers_of_part hpart _).trans (fedMembers_setMembers _ _ _)⟩

/-- Settles O33: rounds by their couplings and parts, messages by the branches of their rows, members by their filter. -/
theorem federationComplete : Obligations.FederationComplete := by
  unfold Obligations.FederationComplete
  refine ⟨?opening, ?close, ?message, ?expire, ?pars, ?forget, ?forward⟩
  case opening =>
    intro l s hl hlev hord hat hnew
    obtain ⟨t, hrow, hopen⟩ := roundOpening_opens hl hlev hord hat hnew
    exact ⟨t, hrow, hopen.opening, hopen.due, hopen.order⟩
  case close =>
    intro l s hl hlev hdue
    refine ⟨fun hend => ⟨_, (roundClose_live hl hlev).trans (congrArg _ (closeRound_due hdue hend)), rfl, fun r hr => ?_⟩,
      fun hopen => (roundClose_live hl hlev).trans (congrArg _ (closeRound_before hopen))⟩
    have hp := closed_settled hr
    exact ⟨hp.pub, hp.state, hp.own⟩
  case message =>
    intro m ps a s hlisten hone hseg
    have hp := proposeRx_whole hlisten hone hseg ps
    have ha := advertiseRx_whole hlisten hone hseg a
    refine ⟨fun hh hv hc => ?_, fun hh hv hc => ?_, fun hh hv => ?_, fun hh hv => ?_, fun hh hv hc hsrc hl hin hok => ?_,
      fun hh hv hc hsrc hl hcomp => ?_⟩
    · rw [hp, if_neg (by simp [hh]), if_neg (by simp [hv]), if_pos (by simp [hc])]
      rfl
    · rw [ha, if_neg (by simp [hh]), if_neg (by simp [hv]), if_pos (by simp [hc])]
      rfl
    · rw [hp, if_neg (by simp [hh]), if_pos (by simp [hv])]
      exact ⟨_, rfl, foreign_reject_shape s m⟩
    · rw [ha, if_neg (by simp [hh]), if_pos (by simp [hv])]
      exact ⟨_, rfl, foreign_reject_shape s m⟩
    · rw [hp, if_neg (by simp [hh]), if_neg (by simp [hv]), if_neg (by simp [hc]), if_neg hsrc, if_neg (by simp [hl]),
        if_neg (by simp only [hin, hok]; decide)]
      refine ⟨_, rfl, ?_⟩
      have hsaw : tget (s.sawQ m).fed.peers m.src = some { claim := m.claim, seq := m.seq, seen := true } := by
        rw [sawQ_other hsrc]
        exact tget_tset_same _ _ _
      split
      · rw [peers_of_part (peersPart_proposeIn _ _ _)]
        exact hsaw
      · exact hsaw
    · rw [ha, if_neg (by simp [hh]), if_neg (by simp [hv]), if_neg (by simp [hc]), if_neg hsrc, if_pos hl, sawQ_other hsrc]
      obtain ⟨hpeers, hmem⟩ := advertiseIn_members (s := { s with
        fed.peers := tset s.fed.peers m.src { claim := m.claim, seq := m.seq, seen := true } }) hcomp a
      refine ⟨_, rfl, ?_, hmem.trans ?_⟩
      · rw [hpeers]
        exact tget_tset_same _ _ _
      · unfold putMember advertised
        split <;> rfl
  case expire =>
    intro l addr s hl hlev haddr
    refine ⟨fun w hw hne => ?_, fun hw => congrArg Host.Outcome.next (if_neg (by simp [tgetD, hw]))⟩
    have hwin : tgetD s.fed.windows l [] = w := by simp [tgetD, hw]
    refine ⟨_, congrArg Host.Outcome.next (if_pos (by simp [hl, hlev, haddr, hwin, hne])), rfl, fun x => ?_⟩
    rw [fedMembers_setMembers, hwin, List.mem_filter]
    simp [imp_iff_not_or]
  case pars => exact fun l s => rfl
  case forget =>
    intro h l addr s ha hlev
    have hv : forgetMemberVerdict l addr (s.take h) =
        { act := fun t => t.setMembers l ((t.fedMembers l).filter (fun x => x.addr != addr)) } := if_neg (by simp [hlev])
    have hcmd := command_acts (m := addr) ha hv
    have hu : Silent s (s.answered forgetMemberInfo h addr {}) := silent_answered _ _ _ _ _
    refine ⟨_, congrArg Host.Outcome.next hcmd, ?_, fun x => ?_⟩
    · exact setMembers_silent hu l _
    · have hkeep : (s.answered forgetMemberInfo h addr {}).fedMembers l = s.fedMembers l :=
        fedMembers_of_part (peersPart_silent hu) l
      rw [fedMembers_setMembers, List.mem_filter, hkeep, bne_iff_ne]
  case forward =>
    intro m s hr hrole hport hlev hsrc hdst hrole1
    have hto : s.forwardTo m = [0, 3] := by simp [State.forwardTo, hdst, hrole1]
    have hrow : exec (.qualothForward m) s = .next (((s.forwardTo m).filter (fun p => p != sideOf m.port)).foldl (fun a p =>
        a.sendQBytes (if p = 0 then none else some p) m.src m.seq m.bytes) s) :=
      congrArg Host.Outcome.next (if_pos (by simpa [hr, hrole1, hport, hsrc] using hlev))
    rw [hto] at hrow
    refine ⟨fun hp => hrow.trans ?_, fun hp => hrow.trans ?_⟩
    · have hside : sideOf m.port = 0 := if_pos hp
      rw [hside]
      rfl
    · have hside : sideOf m.port = 3 := by rw [hp]; rfl
      rw [hside]
      rfl

end Sys2Proof.Proofs

/-! PROOF. The messages of a redundant pair: heartbeats and checkpoints (R484 to R497; O34). -/

namespace Sys2Proof.Proofs

open Sys2Proof.Machine Sys2Proof.Laws

/-! ### Sending (R487) -/

/-- A message of the pair link counts in SEQ, and changes nothing else of the pair. -/
theorem sendPair_pair (s : State) (msg version epoch part : Nat) (sect : Option (Nat × CkptSec)) (payload : List Byte) :
    (s.sendPair msg version epoch part sect payload).pair =
      { s.pair with txSeq := if s.pairTx then s.pair.txSeq + 1 else s.pair.txSeq } := by
  unfold State.sendPair
  split <;> rfl

theorem sendPair_epoch (s : State) (msg version epoch part : Nat) (sect : Option (Nat × CkptSec)) (payload : List Byte) :
    (s.sendPair msg version epoch part sect payload).epoch = s.epoch := by
  unfold State.sendPair
  split <;> rfl

/-- A message without a section, where the pair link is up. -/
theorem sendPair_out {s : State} (h : s.pairTx = true) (msg version epoch : Nat) (payload : List Byte) :
    OutMsg.pair msg version s.pair.claim epoch s.pair.txSeq.toNat none
      (pairHeader version msg s.pair.claim epoch s.pair.txSeq.toNat payload.length 0 0 ++ payload) ∈
      (s.sendPair msg version epoch 0 none payload).out := by
  unfold State.sendPair
  rw [if_pos h]
  exact List.mem_cons_self

/-- What a standby that syncs afresh starts from (R497). -/
def syncedAfresh (s : State) : PairSt :=
  { s.pair with
    unit := .syncing, afterFull := 0, rxSeqSeen := false, syncAt := s.epoch
    building := none, buildFrags := 0, buildBytes := [] }

theorem toSyncing_pair (s : State) : ∃ q, s.toSyncing.pair = { syncedAfresh s with txSeq := q } :=
  ⟨_, sendPair_pair _ _ _ _ _ _ _⟩

/-! ### Heartbeats (R484 to R486) -/

theorem length_le (w n : Nat) : (le w n).length = w := by
  induction w generalizing n with
  | zero => rfl
  | succ w ih => exact congrArg (· + 1) (ih _)

theorem length_beRec (fs : List (Nat × Nat)) : (beRec fs).length = (fs.map Prod.fst).sum := by
  induction fs with
  | nil => rfl
  | cons f fs ih =>
    have hcons : beRec (f :: fs) = be f.1 f.2 ++ beRec fs := rfl
    rw [hcons, List.length_append, ih, be, List.length_reverse, length_le, List.map_cons, List.sum_cons]

theorem hbBytes_length (m : HbMsg) : (hbBytes m).length = 64 := by
  unfold hbBytes
  rw [length_beRec]
  simp only [List.map_cons, List.map_nil, List.sum_cons, List.sum_nil, Nat.reduceAdd]

theorem heartbeatTx_due {s : State} (hr : s.ready = true) (hp : s.paired = true) (hc : s.liveCheck = true)
    (hd : s.hbDue = true) : exec .heartbeatTx s = .next (
      if s.toggleHb.hbMsgDue then s.toggleHb.sendPair 1 1 s.toggleHb.epoch 0 none (hbBytes s.toggleHb.hbMsg)
      else s.toggleHb) :=
  congrArg Host.Outcome.next (if_pos (by simp [hr, hp, hc, hd]))

/-- The toggled land, and what it leaves for the message of the period. -/
theorem toggleHb_keeps (s : State) :
    s.toggleHb.pair = { s.pair with hbOut := !s.pair.hbOut, hbLast := some s.epoch } ∧ s.toggleHb.epoch = s.epoch ∧
    s.toggleHb.time = s.time ∧ s.toggleHb.pairTx = s.pairTx ∧ s.toggleHb.hbMsg = s.hbMsg := by
  unfold State.toggleHb
  dsimp only
  split <;> exact ⟨rfl, rfl, rfl, rfl, rfl⟩

theorem hbPart_maskFrom (s : State) (was : Option UnitState) : hbPart (s.maskFrom was) = hbPart s := by
  unfold State.maskFrom
  split <;> rfl

theorem hbPart_seqRx (s : State) (p : PairHdr) : hbPart (s.seqRx p).1 = hbPart s := rfl

theorem hbPart_hbTake (s : State) (p : PairHdr) (m : HbMsg) :
    hbPart (s.hbTake p m) = (unitOf m.unit, p.claim, some m, p.mac) := rfl

theorem heartbeatRx_takes {p : PairHdr} {m : HbMsg} {s : State} (hr : s.ready = true) (hv : p.version = 1)
    (hrsv : p.rsv = 0) (hlen : p.len = 64) :
    ∃ t, exec (.heartbeatRx p m) s = .next t ∧ hbPart t = (unitOf m.unit, p.claim, some m, p.mac) := by
  refine ⟨_, congrArg Host.Outcome.next (if_pos (by simp [hr, hv, hrsv, hlen])), ?_⟩
  have htaken : hbPart ((s.hbTake p m).maskFrom s.pair.partner) = (unitOf m.unit, p.claim, some m, p.mac) :=
    (hbPart_maskFrom _ _).trans (hbPart_hbTake s p m)
  dsimp only
  generalize (s.hbTake p m).maskFrom s.pair.partner = u at htaken ⊢
  split
  · refine ((hbPart_syncDev _).trans ((hbPart_floorRx _ _).trans ((hbPart_hbRole _ _).trans
      ((hbPart_seqSync _ _).trans ?_)))).trans htaken
    split
    · exact (hbPart_followTime _ _).trans (hbPart_seqRx u p)
    · exact hbPart_seqRx u p
  · exact htaken

/-! ### Checkpoint fragments (R487, R493, R497) -/

/-- No message was lost between the last one and this. -/
def InOrder (s : State) (p : PairHdr) : Prop := s.pair.rxSeqSeen = false ∨ BitVec.ofNat 32 p.seq = s.pair.rxSeq + 1

theorem seqRx_inOrder {s : State} {p : PairHdr} (h : InOrder s p) : (s.seqRx p).2 = false := by
  cases h with
  | inl h => simp [State.seqRx, h]
  | inr h => simp [State.seqRx, h]

theorem seqRx_gap {s : State} {p : PairHdr} (hs : s.pair.rxSeqSeen = true) (hne : BitVec.ofNat 32 p.seq ≠ s.pair.rxSeq + 1) :
    (s.seqRx p).2 = true := by simpa [State.seqRx, hs] using hne

section
variable {p : PairHdr} {sect : CkptSec} {bytes : List Byte} {s : State} (ht : s.takesCkpt p = true)
  (hsec : p.sect = sectNo sect) (hlen : p.len = bytes.length) (hfit : bytes.length ≤ 1500)
include ht hsec hlen hfit

theorem ckptDeltaRx_taken : exec (.ckptDeltaRx p sect bytes) s = .next (
    if (s.seqRx p).2 then (s.seqRx p).1.toSyncing else (s.seqRx p).1.buildFrag p sect bytes) :=
  congrArg Host.Outcome.next (if_pos (by simp [ht, hsec, hlen, hfit]))

end

theorem buildFrag_grows {s : State} {p : PairHdr} {b : Ckpt} (hb : s.pair.building = some b) (hk : b.k = p.epoch)
    (sect : CkptSec) (bytes : List Byte) : s.buildFrag p sect bytes = { s with
      pair.building := some (ckptPut b sect), pair.buildFrags := s.pair.buildFrags + 1
      pair.buildBytes := s.pair.buildBytes ++ bytes } := by
  unfold State.buildFrag
  rw [hb]
  simp [hk]

theorem buildFrag_begins {s : State} (p : PairHdr) (hb : s.pair.building = none) (sect : CkptSec) (bytes : List Byte) :
    s.buildFrag p sect bytes = { s with
      pair.building := some (ckptPut { k := p.epoch, pairId := s.pn P.PAIR_ID 0 } sect), pair.buildFrags := 1
      pair.buildBytes := bytes } := by
  unfold State.buildFrag
  rw [hb]
  rfl

theorem buildFrag_shape (s : State) (p : PairHdr) (sect : CkptSec) (bytes : List Byte) :
    s.buildFrag p sect bytes = { s with pair := (s.buildFrag p sect bytes).pair } := rfl

/-! ### The end of a checkpoint (R493, R494, R505) -/

section
variable {p : PairHdr} {frags : Nat} {crc : U32} {s : State} (ht : s.takesCkpt p = true) (hlen : p.len = 8)
  (hord : InOrder s p)
include ht hlen hord

theorem ckptEndRx_inOrder : exec (.ckptEndRx p frags crc) s = .next ((s.seqRx p).1.ckptEnd p frags crc) :=
  congrArg Host.Outcome.next ((if_pos (by simp [ht, hlen])).trans (if_neg (by simp [seqRx_inOrder hord])))

theorem finalRx_inOrder (hu : ((s.seqRx p).1.ckptEnd p frags crc).pair.unit = .synced)
    (hk : ((s.seqRx p).1.ckptEnd p frags crc).pair.ckptLast = p.epoch)
    (hc : ((s.seqRx p).1.ckptEnd p frags crc).clashes = false) :
    exec (.finalRx p frags crc) s = .next (State.startTakeover
      { (s.seqRx p).1.ckptEnd p frags crc with pair.finalRx := true } false) :=
  congrArg Host.Outcome.next ((if_pos (by simp [ht, hlen])).trans ((if_neg (by simp [seqRx_inOrder hord])).trans
    (if_pos ⟨hu, hk, hc⟩)))

end

/-- The parts of the pair after a complete checkpoint (R493). -/
theorem ckptComplete_part (s : State) (b : Ckpt) : cpPart (s.ckptComplete b) =
    (some b, b.k, none, if s.pair.afterFull = 0 then s.pair.unit else .synced, s.pair.flags, s.epoch) := by
  unfold State.ckptComplete State.withSect
  dsimp only
  rw [cpPart_refreshPorts]
  split
  · rw [cpPart_applyParams]
    rfl
  · rfl

theorem ckptEnd_agrees {s : State} {p : PairHdr} {frags : Nat} {crc : U32} {b : Ckpt} (hb : s.pair.building = some b)
    (hk : b.k = p.epoch) (hf : s.pair.buildFrags = frags) (hcrc : crc32 s.pair.buildBytes = crc) :
    s.ckptEnd p frags crc = s.ckptComplete b := by
  unfold State.ckptEnd
  rw [hb]
  exact if_pos ⟨hk, hf, hcrc⟩

theorem ckptEnd_disagrees {s : State} {p : PairHdr} {frags : Nat} {crc : U32} {b : Ckpt} (hb : s.pair.building = some b)
    (hcrc : crc32 s.pair.buildBytes ≠ crc) :
    s.ckptEnd p frags crc = { s with pair.building := none, pair.buildFrags := 0, pair.buildBytes := [] } := by
  unfold State.ckptEnd
  rw [hb]
  exact if_neg fun h => hcrc h.2.2

/-! ### Flushing (R495) -/

theorem ckptFlush_due {c : Ckpt} {s : State} (hc : s.pair.latest = some c) (hclk : s.clocked = true)
    (hst : s.isStandby = true) (hres : s.pair.resuming = false) (hlast : s.pair.lastFlush + 80000 ≤ s.epoch) :
    exec .ckptFlush s = .next { s with
      pair.flushA := if s.pair.flushNextB then s.pair.flushA else some (flushCopy c (s.pn P.PAIR_ID 0))
      pair.flushB := if s.pair.flushNextB then some (flushCopy c (s.pn P.PAIR_ID 0)) else s.pair.flushB
      pair.flushNextB := !s.pair.flushNextB, pair.lastFlush := s.epoch, pair.flushEpoch := c.k } := by
  show execCkptFlush s = _
  unfold execCkptFlush
  rw [hc]
  exact congrArg Host.Outcome.next (if_pos (by simp [hclk, hst, hres, hlast]))

/-- Settles O34: each row has its equation; the parts of the pair are kept by what a row calls besides. -/
theorem pairMessagesComplete : Obligations.PairMessagesComplete := by
  unfold Obligations.PairMessagesComplete
  refine ⟨?hbTx, ?hbRx, ?edge, ?delta, ?ended, ?syncReq, ?flush, ?stale⟩
  case hbTx =>
    intro s hr hp hc hd
    have hrow := heartbeatTx_due hr hp hc hd
    obtain ⟨hpair, hepoch, htime, htx, hmsg⟩ := toggleHb_keeps s
    refine ⟨_, hrow, ?_, ?_, fun hrun h16 hup => ?_⟩
    · split
      · rw [sendPair_pair, hpair]
      · rw [hpair]
    · split
      · rw [sendPair_pair, hpair]
      · rw [hpair]
    · have hdue : s.toggleHb.hbMsgDue = true := by
        unfold State.hbMsgDue
        rw [htime, hepoch, if_pos hrun, h16]
        rfl
      rw [if_pos hdue]
      have hout := sendPair_out (htx.trans hup) 1 1 s.toggleHb.epoch (hbBytes s.toggleHb.hbMsg)
      rw [hbBytes_length] at hout
      rw [hmsg, hepoch] at hout ⊢
      refine ⟨?_, ?_⟩
      · rw [sendPair_pair, htx, if_pos hup, hpair]
      · rw [hpair] at hout
        exact hout
  case hbRx =>
    intro p m s hr hv hrsv hlen
    obtain ⟨t, hrow, hpart⟩ := heartbeatRx_takes (m := m) hr hv hrsv hlen
    simp only [hbPart, Prod.mk.injEq] at hpart
    exact ⟨t, hrow, hpart⟩
  case edge =>
    intro s hr hv
    exact congrArg Host.Outcome.next (if_pos (by rw [hr, hv]; rfl))
  case delta =>
    intro p sect bytes s ht hsec hlen hfit
    have hrow := ckptDeltaRx_taken ht hsec hlen hfit
    refine ⟨fun hord => ?_, fun hs hne => ?_⟩
    · rw [seqRx_inOrder hord] at hrow
      refine ⟨_, hrow, rfl, rfl, fun b hb hk => ?_, fun hb => ?_⟩
      · rw [if_neg Bool.false_ne_true, buildFrag_grows (s := (s.seqRx p).1) hb hk]
        exact ⟨rfl, rfl, rfl⟩
      · rw [if_neg Bool.false_ne_true, buildFrag_begins (s := (s.seqRx p).1) p hb]
        exact ⟨_, rfl, rfl, rfl, rfl⟩
    · rw [seqRx_gap hs hne] at hrow
      obtain ⟨q, hq⟩ := toSyncing_pair (s.seqRx p).1
      refine ⟨_, hrow, ?_, ?_⟩
      · rw [if_pos rfl, hq]; rfl
      · rw [if_pos rfl, hq]; rfl
  case ended =>
    intro p frags crc b s ht hlen hord hb
    refine ⟨fun hk hf hcrc => ?_, fun hcrc => ?_⟩
    · have hend : (s.seqRx p).1.ckptEnd p frags crc = (s.seqRx p).1.ckptComplete b := ckptEnd_agrees hb hk hf hcrc
      have hpart := ckptComplete_part (s.seqRx p).1 b
      rw [← hend] at hpart
      simp only [cpPart, Prod.mk.injEq] at hpart
      obtain ⟨hlatest, hlast, hbuild, hunit, hflags, hepoch⟩ := hpart
      refine ⟨⟨_, ckptEndRx_inOrder ht hlen hord, hlatest, hlast.trans hk, hbuild, hunit⟩, fun hfull hclash => ?_⟩
      have hclash' : ((s.seqRx p).1.ckptEnd p frags crc).clashes = false :=
        (congrArg (fun f : BitVec 16 => f.getLsbD 2) hflags).trans hclash
      exact ⟨_, finalRx_inOrder ht hlen hord (hunit.trans (if_neg hfull)) (hlast.trans hk) hclash', hlatest, rfl, rfl,
        rfl, hepoch⟩
    · exact (ckptEndRx_inOrder ht hlen hord).trans (congrArg Host.Outcome.next (ckptEnd_disagrees (s := (s.seqRx p).1) hb hcrc))
  case syncReq =>
    intro p s hr hu hrsv hlen hver
    exact congrArg Host.Outcome.next (if_pos (by simpa [hr, hu, hrsv, hlen] using hver))
  case flush =>
    intro c s hc hclk hst hres hlast
    refine ⟨_, ckptFlush_due hc hclk hst hres hlast, rfl, rfl, rfl, rfl, fun h => ?_, fun h => ?_⟩
    · rw [h]
      exact ⟨rfl, rfl⟩
    · rw [h]
      exact ⟨rfl, rfl⟩
  case stale =>
    intro s hr hu hres hlast
    obtain ⟨q, hq⟩ := toSyncing_pair s
    refine ⟨_, congrArg Host.Outcome.next (if_pos (by simpa [hr, hres, hlast] using hu)), ?_, ?_, ?_⟩
    · rw [hq]; rfl
    · rw [hq]; rfl
    · rw [hq]; rfl

end Sys2Proof.Proofs

/-! PROOF. The roles of a redundant pair: failure, takeover, demotion, checkpoint epochs, start and floor (R485, R489 to
R491, R496 to R507; O35). -/

namespace Sys2Proof.Proofs

open Sys2Proof.Machine Sys2Proof.Laws

theorem pair_of_part {s t : State} (h : pairPart t = pairPart s) : t.pair = s.pair := (congrArg Prod.fst h).trans rfl

theorem epoch_of_pairPart {s t : State} (h : pairPart t = pairPart s) : t.epoch = s.epoch := (congrArg Prod.snd h).trans rfl

theorem auditApplied_pair (s : State) (n : Nat) : (s.auditApplied n).pair = s.pair := pair_of_part (pairPart_auditApplied s n)

/-- A parameter outside the lane banks depends on the committed values alone. -/
theorem pn_of_par {s t : State} (h : t.par = s.par) {id : Nat} (hbank : isBankId id = false) (hmac : id ≠ P.STN_DEST_MAC)
    (idx : Nat) : t.pn id idx = s.pn id idx := by
  simp only [State.pn, State.pv, h, hbank, hmac, if_false, Bool.false_eq_true]

/-! ### A failed partner (R485, R489, R498, R500, R508) -/

theorem switchFails_pair (s : State) : (s.switchFails).pair = { s.pair with switchover := none } := by
  unfold State.switchFails
  cases hs : s.pair.switchover with
  | none =>
    show s.pair = _
    rw [← hs]
  | some o => exact pair_of_part (pairPart_complete _ _ _ _ _)

theorem switchFails_epoch (s : State) : (s.switchFails).epoch = s.epoch := by
  unfold State.switchFails
  split
  · rw [epoch_of_pairPart (pairPart_complete _ _ _ _ _)]
  · rfl

theorem switchFails_par (s : State) : (s.switchFails).par = s.par := by
  unfold State.switchFails
  split
  · rw [congrArg State.par (complete_postsOnly _ _ _ _ _)]
    rfl
  · rfl

/-- The state in which a unit decides what it does about a failed partner. -/
def partnerLost (s : State) : State :=
  (State.condition { s with
    pair.partnerFailed := true
    fio.maskUntil := if s.pair.partner = some .active then s.epoch + 320 else s.fio.maskUntil }
    St.PARTNER_FAILED []).switchFails

theorem partnerGone_eq (s : State) : s.partnerGone = (partnerLost s).failAct := rfl

theorem partnerLost_pair (s : State) : (partnerLost s).pair = { s.pair with partnerFailed := true, switchover := none } := by
  unfold partnerLost
  rw [switchFails_pair, condition_pair]

theorem partnerLost_epoch (s : State) : (partnerLost s).epoch = s.epoch := by
  unfold partnerLost
  rw [switchFails_epoch, condition_epoch]

theorem partnerLost_par (s : State) : (partnerLost s).par = s.par := by
  unfold partnerLost
  rw [switchFails_par, condition_par]

/-- The generation after the present one (R489). -/
def nextGen (p : PairSt) : Nat := min 2147483647 (max p.genSeen p.generation + 1)

/-- The pair's data once a unit has started to take over at an epoch (R498, R500). -/
def takingOver (p : PairSt) (cold : Bool) (e : Nat) : PairSt :=
  { p with generation := nextGen p, genSeen := nextGen p, resuming := true, cold := cold, resumeFrom := e }

theorem startTakeover_shape (s : State) (cold : Bool) :
    s.startTakeover cold = { s with pair := takingOver s.pair cold s.epoch } := rfl

theorem failAct_active {s : State} (h : s.pair.unit = .active) : s.failAct.pair = { s.pair with
    generation := nextGen s.pair, genSeen := nextGen s.pair, claim := nextGen s.pair * 2 + s.pair.prefInForce } := by
  unfold State.failAct
  rw [if_pos h]
  rfl

theorem failAct_synced {s : State} (h : s.pair.unit = .synced) (hc : s.clashes = false) :
    s.failAct.pair = takingOver s.pair false s.epoch := by
  unfold State.failAct
  rw [if_neg (by rw [h]; decide), if_neg (by rw [hc]; decide), if_pos h, startTakeover_shape]

theorem failAct_cold {s : State} (h : s.pair.unit = .syncing) (hc : s.clashes = false)
    (hp : s.pn P.PAIR_COLD_TAKEOVER 0 = 1) : s.failAct.pair = takingOver s.pair true s.epoch := by
  unfold State.failAct
  rw [if_neg (by rw [h]; decide), if_neg (by rw [hc]; decide), if_neg (by rw [h]; decide), if_pos (by rw [h, hp]; rfl),
    startTakeover_shape]

theorem failAct_waits {s : State} (h : s.pair.unit = .syncing) (hp : s.pn P.PAIR_COLD_TAKEOVER 0 ≠ 1) :
    s.failAct = s := by
  unfold State.failAct
  rw [if_neg (by rw [h]; decide)]
  split
  · rfl
  · rw [if_neg (by rw [h]; decide), if_neg (by simp [hp])]

theorem failAct_keeps (s : State) :
    s.failAct.pair.partnerFailed = s.pair.partnerFailed ∧ s.failAct.pair.switchover = s.pair.switchover := by
  unfold State.failAct
  dsimp only
  split
  · exact ⟨rfl, rfl⟩
  · split
    · exact ⟨rfl, rfl⟩
    · split
      · exact ⟨rfl, rfl⟩
      · split <;> exact ⟨rfl, rfl⟩

theorem partnerFailed_due {s : State} (hc : s.clocked = true) (hord : s.order ≤ 2) (hd : s.failDue = true) :
    ∃ t, exec .partnerFailed s = .next t ∧ t.pair = (partnerLost (s.atOrder 2)).failAct.pair := by
  refine ⟨_, congrArg Host.Outcome.next (if_pos (by simp [hc, State.orderOk, hord, hd])), ?_⟩
  rw [← partnerGone_eq]
  dsimp only
  split
  · rfl
  · exact auditApplied_pair _ _

/-! ### The resume tick (R25, R498 to R502) -/

theorem tkPart_withSect {α : Type} {f : State → α → State} (hf : ∀ a x, tkPart (f a x) = tkPart a) (s : State)
    (v : Option α) : tkPart (s.withSect v f) = tkPart s := by
  cases v with
  | none => rfl
  | some x => exact hf s x

/-- Section 3 in effect (R492). -/
def restorePoints (s : State) (v : CkptPoints) : State := { s with pts := v.pts, stn.stns := v.stns }

theorem tkPart_restoreCkpt (s : State) (c : Ckpt) : tkPart (s.restoreCkpt c) = tkPart s := by
  unfold State.restoreCkpt
  dsimp only
  exact (tkPart_withSect tkPart_restoreMisc _ _).trans <| (tkPart_withSect tkPart_restoreFed _ _).trans <|
    (tkPart_withSect tkPart_restorePerc _ _).trans <| (tkPart_withSect tkPart_restorePlans _ _).trans <|
    (tkPart_withSect (fun a v => tkPart_restoreRun a c.k v) _ _).trans <|
    (tkPart_withSect tkPart_restoreLanes _ _).trans <| (tkPart_withSect (f := restorePoints) (fun _ _ => rfl) _ _).trans <|
    (tkPart_withSect tkPart_restoreProg _ _).trans <| (tkPart_withSect tkPart_restoreModel _ _).trans <|
    tkPart_withSect tkPart_applyParams _ _

/-- What a unit takes up again with a checkpoint, or without one (R498, R500). -/
def takenUp (s : State) (c : Option Ckpt) : State :=
  match c with
  | some c => ((((((s.restoreCkpt c).reassertField).applyPassed).reassertCan).safeFromCkpt c).reassertStns).fastIfFilled
  | none => (s.coldBlocks.reassertField).canStartAll

theorem tkPart_takenUp (s : State) (c : Option Ckpt) : tkPart (takenUp s c) = tkPart s := by
  cases c with
  | some c =>
    rw [takenUp, tkPart_fastIfFilled, tkPart_reassertStns, tkPart_safeFromCkpt, tkPart_reassertCan, tkPart_applyPassed,
      tkPart_reassertField, tkPart_restoreCkpt]
  | none => rw [takenUp, tkPart_canStartAll, tkPart_reassertField, tkPart_coldBlocks]

/-- A view starts from the present versions, as of an epoch (R25). -/
def viewedFrom (s : State) (k : Nat) : State := { s with past := [{ s.present with epoch := k }] }

theorem tkPart_viewedFrom (s : State) (k : Nat) : tkPart (viewedFrom s k) = tkPart s := rfl

/-- A FINAL checkpoint ends with the report of the partner, which the resume tick makes (R505). -/
def finalSeen (s : State) (final : Bool) : State :=
  { (if final then s.condition St.PARTNER_FAILED [] else s) with pair.finalRx := false }

theorem tkPart_finalSeen (s : State) (final : Bool) : tkPart (finalSeen s final) = tkPart s := by
  cases final with
  | true => exact tkPart_condition s _ _
  | false => rfl

/-- The checkpoint that a takeover restores: none for a cold one (R498, R500). -/
def restoredCkpt (s : State) : Option Ckpt := if s.pair.cold then none else s.pair.latest

/-- The epoch of the state that a takeover restores. -/
def restoredFrom (s : State) : Nat :=
  match restoredCkpt s with
  | some c => c.k
  | none => s.pair.ckptLast

theorem resume_eq (s : State) : s.resume = viewedFrom (((finalSeen
    (takenUp (s.dropHost none).nowActive (restoredCkpt s)) s.pair.finalRx).takeoverGap (restoredFrom s)).syncDev)
    (restoredFrom s) := rfl

theorem tkPart_resume (s : State) : tkPart s.resume = tkPart (s.dropHost none).nowActive := by
  rw [resume_eq, tkPart_viewedFrom, tkPart_syncDev, tkPart_takeoverGap, tkPart_finalSeen, tkPart_takenUp]

/-- The parts of a unit that becomes active at its resume tick. -/
theorem tkPart_nowActive (s : State) : tkPart (s.dropHost none).nowActive =
    (.active, false, s.ownClaim, s.epoch, s.pair.takeovers + 1, s.epoch) := by
  have hdrop := pairPart_dropHost s none
  have hp := pair_of_part hdrop
  unfold State.nowActive State.ownClaim tkPart
  dsimp only
  rw [hp, epoch_of_pairPart hdrop]

theorem takeoverResume_due {s : State} (hc : s.clocked = true) (hord : s.order ≤ 2) (hr : s.pair.resuming = true)
    (hfrom : s.pair.resumeFrom < s.epoch) : ∃ t, exec .takeoverResume s = .next t ∧
      tkPart t = (.active, false, s.ownClaim, s.epoch, s.pair.takeovers + 1, s.epoch) :=
  ⟨_, congrArg Host.Outcome.next (if_pos (by simp [hc, State.orderOk, hord, hr, hfrom])),
    (tkPart_auditApplied _ _).trans ((tkPart_resume _).trans (tkPart_nowActive (s.atOrder 2)))⟩

/-! ### Demotion (R490, R501, R505) -/

/-- The pair's data of a unit demoted at an epoch, with its own state as a checkpoint. -/
def demotedPair (p : PairSt) (own : Ckpt) (hold : Bool) (e : Nat) : PairSt :=
  { p with
    unit := .demoted, latest := some own, demotedAt := e, claimReport := none, demotions := p.demotions + 1
    demotedHold := hold }

theorem standDown_pair (s : State) (keep : Option U32) :
    (s.standDown keep).pair = demotedPair s.pair (s.ckptOf s.epoch) s.pair.demotedHold s.epoch := by
  have hstop : pairPart ((((s.abandonCycles).dropHost keep).fieldOff).canHold) = pairPart s :=
    (pairPart_canHold _).trans ((pairPart_fieldOff _).trans ((pairPart_dropHost _ _).trans (pairPart_abandonCycles _)))
  have hp := pair_of_part hstop
  unfold State.standDown
  dsimp only
  rw [hp]
  rfl

theorem demote_pair (s : State) (keep : Option U32) (hold : Bool) :
    (s.demote keep hold).pair = demotedPair s.pair (s.ckptOf s.epoch) hold s.epoch := by
  unfold State.demote
  rw [condition_pair]
  exact congrArg (fun p : PairSt => { p with demotedHold := hold }) (standDown_pair s keep)

theorem syncDev_pair (s : State) : (s.syncDev).pair = s.pair := pair_of_part (pairPart_syncDev s)

section
variable {s : State} (hc : s.clocked = true) (hord : s.order ≤ 2)
include hc hord

theorem demotion_reported {c : Nat} (hu : s.pair.unit = .active) (hf : s.failDue = false)
    (hr : s.pair.claimReport = some c) : exec .demotion s = .next (
      if s.pair.claim < c then ((((s.atOrder 2).demote none true).syncDev).auditApplied 0)
      else { s.atOrder 2 with pair.claimReport := none }) := by
  have hrow : exec .demotion s = .next (s.atOrder 2).demoteBy := by
    refine congrArg Host.Outcome.next ((if_pos (by simp [hc, State.orderOk, hord, hu, hr])).trans ?_)
    exact congrArg State.demoteBy (if_neg (by rw [show (s.atOrder 2).failDue = false from hf]; decide))
  rw [hrow]
  unfold State.demoteBy
  rw [atOrder_pair, hr]
  rfl

theorem demotedTakeover_due (hu : s.pair.unit = .demoted) (hres : s.pair.resuming = false) (hcl : s.clashes = false)
    (hover : s.holdOffOver = true) : exec .demotedTakeover s = .next (
      if !decide (s.pair.demotedAt + 80000 < s.epoch) then (s.atOrder 2).startTakeover false
      else if s.pn P.PAIR_COLD_TAKEOVER 0 = 1 then (s.atOrder 2).startTakeover true else s) :=
  congrArg Host.Outcome.next (if_pos (by simp [hc, State.orderOk, hord, hu, hres, hcl, hover]))

end

/-! ### Checkpoint epochs (R491, R496, R505) -/

/-- Messages sent change the SEQ of the pair's data alone. -/
def SeqOnly (s t : State) : Prop := ∃ q, t.pair = { s.pair with txSeq := q }

theorem SeqOnly.trans {s t u : State} (h : SeqOnly s t) (h' : SeqOnly t u) : SeqOnly s u := by
  obtain ⟨q, hq⟩ := h
  obtain ⟨r, hr⟩ := h'
  exact ⟨r, by rw [hr, hq]⟩

theorem sendPair_seqOnly (s : State) (msg version epoch part : Nat) (sect : Option (Nat × CkptSec)) (payload : List Byte) :
    SeqOnly s (s.sendPair msg version epoch part sect payload) := ⟨_, sendPair_pair _ _ _ _ _ _ _⟩

theorem sendSect_seqOnly (s : State) (k : Nat) (x : Nat × CkptSec) : SeqOnly s (s.sendSect k x) := by
  have hfold : ∀ (l : List (List Byte)) (a : State × Nat), SeqOnly a.1 (l.foldl (fun (a : State × Nat) c =>
      (a.1.sendPair 2 a.1.pair.floor k a.2 (some x) c, a.2 + 1)) a).1 := by
    intro l
    induction l with
    | nil => exact fun a => ⟨_, rfl⟩
    | cons c l ih => exact fun a => (sendPair_seqOnly _ _ _ _ _ _ _).trans (ih _)
  exact hfold _ (s, 0)

theorem sendSects_seqOnly (k : Nat) (l : List (Nat × CkptSec)) (s : State) :
    SeqOnly s (l.foldl (fun a x => a.sendSect k x) s) := by
  induction l generalizing s with
  | nil => exact ⟨_, rfl⟩
  | cons x l ih => exact (sendSect_seqOnly s k x).trans (ih _)

theorem sendCkpt_pair (s : State) (k : Nat) (final : Bool) : ∃ q, (s.sendCkpt k final).pair =
    { s.pair with txSeq := q, ckptLast := k, lastSent := some k, fullDue := false } := by
  obtain ⟨q, hq⟩ := (sendSects_seqOnly k (ckptSections (s.ckptOf k)) s).trans
    (sendPair_seqOnly _ (if final then 5 else 3)
      ((ckptSections (s.ckptOf k)).foldl (fun a x => a.sendSect k x) s).pair.floor k 0 none
      (ckptEndBytes s.pair.fullDue (s.ckptOf k)))
  exact ⟨q, congrArg (fun p : PairSt => { p with ckptLast := k, lastSent := some k, fullDue := false }) hq⟩

/-- The state with the checkpoint epochs that were left out counted. -/
def ckptCounted (s : State) : State :=
  { s with pair.ckptSkipped := s.pair.ckptSkipped + BitVec.ofNat 32 (s.ckptGap s.ckptNow) }

/-- The checkpoint of an epoch, with a switchover open or without one. -/
def ckptStep (s : State) (k : Nat) : State :=
  match s.pair.switchover with
  | some o => s.switchCkpt o k
  | none => s.sendCkpt k false

section
variable {s : State} (hl : s.live = true) (hu : s.pair.unit = .active) (ht : s.ckptTaker = true)
  (hnew : ∀ a, s.pair.lastSent = some a → a < s.ckptNow) (hview : s.ckptNow ≤ s.viewAll)
include hl hu ht hnew hview

theorem checkpointEpoch_due : exec .checkpointEpoch s = .next (ckptStep (ckptCounted s) s.ckptNow) := by
  show execCheckpointEpoch s = _
  unfold execCheckpointEpoch
  cases hsent : s.pair.lastSent with
  | none =>
    dsimp only
    rw [if_pos (by simp [hl, hu, ht, hview])]
    rfl
  | some a =>
    dsimp only
    rw [if_pos (by simp [hl, hu, ht, hview, hnew a hsent])]
    rfl

theorem checkpointEpoch_plain (hs : s.pair.switchover = none) :
    exec .checkpointEpoch s = .next ((ckptCounted s).sendCkpt s.ckptNow false) := by
  rw [checkpointEpoch_due hl hu ht hnew hview]
  unfold ckptStep
  rw [show (ckptCounted s).pair.switchover = none from hs]

theorem checkpointEpoch_switch {o : SwitchOp} (hs : s.pair.switchover = some o) :
    exec .checkpointEpoch s = .next ((ckptCounted s).switchCkpt o s.ckptNow) := by
  rw [checkpointEpoch_due hl hu ht hnew hview]
  unfold ckptStep
  rw [show (ckptCounted s).pair.switchover = some o from hs]

end

/-! ### The start decision (R507) -/

theorem pairStartWaitEnd_due {s : State} (hr : s.ready = true) (hu : s.pair.unit = .starting)
    (hend : s.time.running = false ∨ s.pair.startUntil ≤ s.epoch) :
    exec .pairStartWaitEnd s = .next s.pairDecide.syncDev :=
  congrArg Host.Outcome.next (if_pos (by simpa [hr, hu] using hend))

theorem becomeActive_part (s : State) : tkPart (s.becomeActive .active) =
    (.active, false, nextGen s.pair * 2 + s.pair.prefInForce, s.pair.lastTakeover, s.pair.takeovers, s.epoch) := by
  unfold State.becomeActive
  dsimp only
  split
  · exact (tkPart_canStartAll _).trans rfl
  · rfl

theorem pairActive_part (s : State) : tkPart s.pairActive =
    (.active, false, nextGen s.pair * 2 + s.pair.prefInForce, s.pair.lastTakeover, s.pair.takeovers, s.epoch) :=
  (tkPart_progStart _ _).trans (becomeActive_part s)

theorem pairDecide_syncs {s : State} (h : s.pair.partner = some .active) : s.pairDecide = s.toSyncing := by
  unfold State.pairDecide
  rw [h]

theorem pairDecide_alone {s : State} (h : s.pair.partner = none) : s.pairDecide = s.pairActive := by
  unfold State.pairDecide
  rw [h]

/-! ### The floor (R506) -/

theorem pairFloorSwitch_due {s : State} (hr : s.ready = true) (hp : s.paired = true) (hpend : s.pair.floorPend ≠ 0)
    (hat : s.pair.floorSwitch ≤ s.epoch) : exec .pairFloorSwitch s = .next (
      if s.isStandby then State.toSyncing { s with
        pair.floor := s.pair.floorPend, pair.floorPend := 0, pair.floorSwitch := 0, pair.fullDue := true }
      else { s with
        pair.floor := s.pair.floorPend, pair.floorPend := 0, pair.floorSwitch := 0, pair.fullDue := true }) :=
  congrArg Host.Outcome.next (if_pos (by simp [hr, hp, hpend, hat]))

/-! ### PAIR_SWITCHOVER and PAIR_RESYNC (R497, R505) -/

theorem ckptFrom_of_silent {s t : State} (h : Silent s t) (e : Nat) : t.ckptFrom e = s.ckptFrom e := by
  rw [h.rest]
  rfl

theorem pairSwitchover_opens {h : Hdr} {n : U32} {s : State} (ha : s.admitted pairSwitchoverInfo h = true)
    (hu : s.pair.unit = .active) (hp : s.pair.partner = some .synced) (hf : s.pair.partnerFailed = false)
    (hs : s.pair.switchover = none) (hn : s.nextHandle = some n) :
    ∃ t, exec (.pairSwitchover h) s = .next t ∧
      Silent { s with pair := t.pair, host.handles := t.host.handles, host.freeList := t.host.freeList } t ∧
      t.pair = { s.pair with switchover := some { handle := n, k := s.ckptFrom (s.epoch + 80) } } := by
  have hv : pairSwitchoverVerdict h (s.take h) = (s.take h).long h 0x0501 (fun n t =>
      { t with pair.switchover := some { handle := n, k := t.ckptFrom (t.epoch + 80) } }) := by
    unfold pairSwitchoverVerdict
    rw [take_pair, if_neg (by rw [hu]; decide), if_neg (by simp [hu, hp, hf]), if_neg (by simp [hs])]
  obtain ⟨u, hd, fr, hsil, hcmd⟩ := command_long s pairSwitchoverInfo h 0 _ _ _ n ha hn hv
  have hfrom : ({ u with host.handles := hd, host.freeList := fr } : State).ckptFrom (u.epoch + 80) =
      s.ckptFrom (s.epoch + 80) := by
    rw [silent_epoch hsil]
    exact (ckptFrom_of_silent hsil (s.epoch + 80) :)
  refine ⟨_, congrArg Host.Outcome.next hcmd, ?_, ?_⟩
  · exact silent_free_with_pair hsil _ _ _
  · exact congrArg₂ (fun (x : PairSt) k => { x with switchover := some { handle := n, k := k } }) (silent_pair hsil) hfrom

theorem pairResync_syncs {h : Hdr} {s : State} (ha : s.admitted pairResyncInfo h = true)
    (hu : s.pair.unit = .syncing ∨ s.pair.unit = .synced) :
    ∃ t q, exec (.pairResync h) s = .next t ∧ t.pair = { syncedAfresh s with txSeq := q } := by
  have hv : pairResyncVerdict (s.take h) = { act := fun t => t.toSyncing } := by
    unfold pairResyncVerdict
    rw [take_pair, if_pos hu]
  have hcmd := command_acts (m := 0) ha hv
  obtain ⟨q, hq⟩ := toSyncing_pair (s.answered pairResyncInfo h 0 {})
  refine ⟨_, q, congrArg Host.Outcome.next hcmd, ?_⟩
  rw [hq]
  unfold syncedAfresh
  rw [answered_pair, answered_epoch]

/-- Settles O35: of each row the pair's data after it, by the parts that the other operations keep. -/
theorem pairRolesComplete : Obligations.PairRolesComplete := by
  unfold Obligations.PairRolesComplete
  refine ⟨?failed, ?resume, ?demotion, ?takeover, ?ckpt, ?start, ?floor, ?switchover, ?resync⟩
  case failed =>
    intro s hc hord hd
    obtain ⟨t, hrow, ht⟩ := partnerFailed_due hc hord hd
    have hp : (partnerLost (s.atOrder 2)).pair = { s.pair with partnerFailed := true, switchover := none } :=
      partnerLost_pair (s.atOrder 2)
    have he : (partnerLost (s.atOrder 2)).epoch = s.epoch := partnerLost_epoch (s.atOrder 2)
    have hpar : (partnerLost (s.atOrder 2)).par = s.par := partnerLost_par (s.atOrder 2)
    generalize partnerLost (s.atOrder 2) = u at ht hp he hpar
    obtain ⟨hf, hsw⟩ := failAct_keeps u
    have hcold : u.pn P.PAIR_COLD_TAKEOVER 0 = s.pn P.PAIR_COLD_TAKEOVER 0 := by
      exact pn_of_par hpar rfl (by decide) 0
    refine ⟨t, hrow, by rw [ht, hf, hp], by rw [ht, hsw, hp], fun hu => ?_, fun hu hcl => ?_, fun hu hcl hon => ?_,
      fun hu hoff => ?_⟩
    · rw [ht, failAct_active (by rw [hp]; exact hu), hp]
      exact ⟨hu, rfl, rfl⟩
    · rw [ht, failAct_synced (by rw [hp]; exact hu) (by unfold State.clashes; rw [hp]; exact hcl), hp, he]
      exact ⟨rfl, rfl, rfl, rfl⟩
    · rw [ht, failAct_cold (by rw [hp]; exact hu) (by unfold State.clashes; rw [hp]; exact hcl) (hcold.trans hon)]
      exact ⟨rfl, rfl⟩
    · rw [ht, failAct_waits (by rw [hp]; exact hu) (by rw [hcold]; exact hoff), hp]
  case resume =>
    intro s hc hord hr hfrom
    obtain ⟨t, hrow, hpart⟩ := takeoverResume_due hc hord hr hfrom
    simp only [tkPart, Prod.mk.injEq] at hpart
    exact ⟨t, hrow, hpart⟩
  case demotion =>
    intro c s hc hord hu hf hr
    have hrow := demotion_reported hc hord hu hf hr
    refine ⟨fun hlt => ?_, fun hle => ?_⟩
    · rw [if_pos hlt] at hrow
      refine ⟨_, hrow, ?_⟩
      rw [auditApplied_pair, syncDev_pair, demote_pair]
      exact ⟨rfl, rfl, rfl, rfl, rfl, rfl⟩
    · rw [hrow, if_neg (by omega)]
      rfl
  case takeover =>
    intro s hc hord hu hres hcl hover
    have hrow := demotedTakeover_due hc hord hu hres hcl hover
    refine ⟨fun hmay => ?_, fun hold hoff => ?_⟩
    · by_cases hold : s.pair.demotedAt + 80000 < s.epoch
      · rw [if_neg (by simp [hold]), if_pos (hmay.resolve_left (by omega))] at hrow
        exact ⟨_, hrow, rfl, rfl, rfl, (decide_eq_true hold).symm, rfl⟩
      · rw [if_pos (by simp [hold])] at hrow
        exact ⟨_, hrow, rfl, rfl, rfl, (decide_eq_false hold).symm, rfl⟩
    · rw [hrow, if_neg (by simp [hold]), if_neg hoff]
  case ckpt =>
    intro s hl hu ht hnew hview
    refine ⟨fun hs => ?_, fun o hs hk hp => ?_, fun o hs hk hp => ?_⟩
    · obtain ⟨q, hq⟩ := sendCkpt_pair (ckptCounted s) s.ckptNow false
      refine ⟨_, checkpointEpoch_plain hl hu ht hnew hview hs, ?_⟩
      rw [hq]
      exact ⟨rfl, rfl, rfl, hu⟩
    · have hfinal : (ckptCounted s).switchCkpt o s.ckptNow = (ckptCounted s).finalCkpt o s.ckptNow :=
        (if_neg (by omega)).trans (if_pos hp)
      obtain ⟨q, hq⟩ := sendCkpt_pair (ckptCounted s) s.ckptNow true
      refine ⟨_, checkpointEpoch_switch hl hu ht hnew hview hs, ?_⟩
      rw [hfinal, State.finalCkpt, auditApplied_pair, syncDev_pair, demote_pair, hq]
      exact ⟨rfl, rfl, rfl⟩
    · have hfails : (ckptCounted s).switchCkpt o s.ckptNow = (ckptCounted s).switchFails.sendCkpt s.ckptNow false :=
        (if_neg (by omega)).trans (if_neg hp)
      obtain ⟨q, hq⟩ := sendCkpt_pair (ckptCounted s).switchFails s.ckptNow false
      refine ⟨_, checkpointEpoch_switch hl hu ht hnew hview hs, ?_⟩
      rw [hfails, hq, switchFails_pair]
      exact ⟨hu, rfl, rfl⟩
  case start =>
    intro s hr hu hend
    have hrow := pairStartWaitEnd_due hr hu hend
    refine ⟨fun hp => ?_, fun hp => ?_⟩
    · obtain ⟨q, hq⟩ := toSyncing_pair s
      refine ⟨_, hrow, ?_⟩
      rw [syncDev_pair, pairDecide_syncs hp, hq]
      exact ⟨rfl, rfl⟩
    · have hpart := pairActive_part s
      simp only [tkPart, Prod.mk.injEq] at hpart
      refine ⟨_, hrow, ?_⟩
      rw [syncDev_pair, pairDecide_alone hp]
      exact ⟨hpart.1, hpart.2.1, hpart.2.2.1⟩
  case floor =>
    intro s hr hp hpend hat
    refine ⟨_, pairFloorSwitch_due hr hp hpend hat, ?_⟩
    split
    · obtain ⟨q, hq⟩ := toSyncing_pair { s with
        pair.floor := s.pair.floorPend, pair.floorPend := 0, pair.floorSwitch := 0, pair.fullDue := true }
      rw [hq]
      exact ⟨rfl, rfl, rfl, rfl, rfl⟩
    · exact ⟨rfl, rfl, rfl, rfl, rfl⟩
  case switchover =>
    intro h n s ha hu hp hf hs hn
    exact pairSwitchover_opens ha hu hp hf hs hn
  case resync =>
    intro h s ha hu
    obtain ⟨t, q, hrow, ht⟩ := pairResync_syncs ha hu
    refine ⟨t, hrow, ?_⟩
    rw [ht]
    exact ⟨rfl, rfl, rfl⟩

end Sys2Proof.Proofs

/-! PROOF. The governor, the supply comparators, the wake lands and the Drip domain (R463, R513 to R518, R527 to R529;
O36). -/

namespace Sys2Proof.Proofs

open Sys2Proof.Machine Sys2Proof.Laws

/-! ### The smallest margin (R515, R516) -/

theorem foldl_single {α : Type} {β : Type} {f : β → α → β} {x : α} (hf : ∀ b y, y ≠ x → f b y = b) {l : List α}
    (hl : l.Nodup) (hx : x ∈ l) (b : β) : l.foldl f b = f b x := by
  have hskip : ∀ (l : List α) (b : β), x ∉ l → l.foldl f b = b := by
    intro l
    induction l with
    | nil => exact fun _ _ => rfl
    | cons y l ih =>
      intro b hmem
      rw [List.mem_cons, not_or] at hmem
      rw [List.foldl_cons, hf b y (Ne.symm hmem.1)]
      exact ih b hmem.2
  induction l generalizing b with
  | nil => exact absurd hx List.not_mem_nil
  | cons y l ih =>
    rw [List.nodup_cons] at hl
    by_cases hy : y = x
    · rw [List.foldl_cons, hy]
      exact hskip l _ (hy ▸ hl.1)
    · rw [List.foldl_cons, hf b y hy]
      exact ih hl.2 ((List.mem_cons.mp hx).resolve_left (Ne.symm hy)) b

theorem marginOf_seen (s : State) (cls : Nat) (m : F32) : (s.marginSeen cls m).marginOf cls = some m := by
  unfold State.marginOf State.marginSeen
  simp

theorem marginOf_seen_other {s : State} {cls k : Nat} (hk : k ≠ cls) (hnone : tget s.pwr.lastMargin k = none) (m : F32) :
    (s.marginSeen cls m).marginOf k = none := by
  unfold State.marginOf State.marginSeen
  dsimp only
  rw [tget_tset_other _ _ _ _ hk, hnone]
  rfl

theorem smallest_only {s : State} {cls : Nat} (hcls : cls < 4) (hact : s.classActive cls = true)
    (hother : ∀ k, k ≠ cls → tget s.pwr.lastMargin k = none) (m : F32) :
    (s.marginSeen cls m).smallest = F32.min F32.one m := by
  unfold State.smallest
  rw [foldl_single (x := cls) (fun b k hk => ?_) List.nodup_range (List.mem_range.mpr hcls)]
  · rw [marginOf_seen, if_pos (show (s.marginSeen cls m).classActive cls = true from hact)]
  · rw [marginOf_seen_other hk (hother k hk)]
    exact ite_self _

/-! ### The governor (R29, R516, R521) -/

theorem followRail_taken {s : State} (h : 7 ≤ s.rst.stage) : s.followRail = { s with rst.coreMv := s.railMv } := if_pos h

section
variable {cls : Nat} {m : F32} {s : State} (hcls : cls < 4) (hst : 7 ≤ s.rst.stage) (hact : s.classActive cls = true)
include hcls hst hact

theorem marginBreach_acts :
    exec (.marginBreach cls m) s = .next (s.marginSeen cls (s.measured cls m)).govern :=
  congrArg Host.Outcome.next (if_pos (by simp [hcls, hst, hact]))

theorem marginBreach_raises (hmode : s.pn P.GOV_MODE 0 = 0)
    (hlow : F32.lt (s.marginSeen cls (s.measured cls m)).smallest (s.pf P.GOV_TARGET 0) = true) :
    exec (.marginBreach cls m) s = .next (State.followRail { s.marginSeen cls (s.measured cls m) with
      pwr.breach := true
      pwr.breaches := if s.pwr.breach then s.pwr.breaches else s.pwr.breaches + 1
      pwr.settleFrom := s.epoch
      pwr.setMv := min 900 (s.pwr.setMv + s.pn P.GOV_RAISE_MV 0) }) := by
  have hgov : (s.marginSeen cls (s.measured cls m)).governs = true :=
    Bool.and_eq_true_iff.mpr ⟨decide_eq_true hst, beq_iff_eq.mpr hmode⟩
  exact (marginBreach_acts hcls hst hact).trans
    (congrArg Host.Outcome.next ((if_neg (by rw [hgov]; decide)).trans (if_pos hlow)))

theorem marginBreach_holds (hmode : s.pn P.GOV_MODE 0 = 0)
    (hhigh : F32.lt (s.marginSeen cls (s.measured cls m)).smallest (s.pf P.GOV_TARGET 0) = false) :
    exec (.marginBreach cls m) s = .next { s.marginSeen cls (s.measured cls m) with
      pwr.breach := false
      pwr.settleFrom := if F32.lt (s.marginSeen cls (s.measured cls m)).smallest
        (F32.add (s.pf P.GOV_TARGET 0) (F32.ofRatio 5 100)) then s.epoch else s.pwr.settleFrom } := by
  have hgov : (s.marginSeen cls (s.measured cls m)).governs = true :=
    Bool.and_eq_true_iff.mpr ⟨decide_eq_true hst, beq_iff_eq.mpr hmode⟩
  exact (marginBreach_acts hcls hst hact).trans
    (congrArg Host.Outcome.next ((if_neg (by rw [hgov]; decide)).trans (if_neg (Bool.eq_false_iff.mp hhigh))))

theorem marginBreach_pinned (hmode : s.pn P.GOV_MODE 0 ≠ 0) :
    exec (.marginBreach cls m) s = .next (s.marginSeen cls (s.measured cls m)) := by
  have hgov : (s.marginSeen cls (s.measured cls m)).governs = false :=
    Bool.and_eq_false_iff.mpr (.inr (beq_eq_false_iff_ne.mpr hmode))
  exact (marginBreach_acts hcls hst hact).trans (congrArg Host.Outcome.next (if_pos (by rw [hgov]; rfl)))

end

theorem govSettleStep_waits {m : F32} {s : State}
    (h : s.pwr.setMv ≤ s.pn P.GOV_MIN_MV 0 ∨ s.epoch < s.pwr.settleFrom + 8 * s.pn P.GOV_SETTLE_MS 0) :
    exec (.govSettleStep m) s = .next s := by
  refine congrArg Host.Outcome.next (if_neg fun hall => ?_)
  simp only [Bool.and_eq_true, decide_eq_true_eq] at hall
  omega

theorem govSettleStep_lowers {m : F32} {s : State} (hst : 7 ≤ s.rst.stage) (hmode : s.pn P.GOV_MODE 0 = 0)
    (hb : s.pwr.breach = false) (hm : F32.le (F32.add (s.pf P.GOV_TARGET 0) (F32.ofRatio 5 100)) m = true)
    (hall : F32.le (F32.add (s.pf P.GOV_TARGET 0) (F32.ofRatio 5 100)) s.smallest = true)
    (hlong : s.pwr.settleFrom + 8 * s.pn P.GOV_SETTLE_MS 0 ≤ s.epoch) (hmin : s.pn P.GOV_MIN_MV 0 < s.pwr.setMv) :
    exec (.govSettleStep m) s = .next (State.followRail { s with
      pwr.settleFrom := s.epoch, pwr.setMv := max (s.pn P.GOV_MIN_MV 0) (s.pwr.setMv - 5) }) :=
  congrArg Host.Outcome.next (if_pos (by simp [State.governs, hst, hmode, hb, hm, hall, hlong, hmin]))

/-! ### Events of the Drip domain (R527, R528) -/

/-- The record of an event of the Drip domain. -/
def dripRecord (s : State) (source : Nat) (rising : Bool) : DripEvt :=
  { source := source, dir := b2n rising, secs := calSeconds s.drip.live, sub := s.drip.sub, posted := s.ready }

/-- The data of the Drip domain with an event recorded. -/
def dripRecorded (s : State) (source : Nat) (rising : Bool) : DripSt :=
  { s.drip with
    evts := (if decide (32 ≤ s.drip.evts.length) then s.drip.evts.drop 1 else s.drip.evts) ++ [dripRecord s source rising]
    evtLost := if decide (32 ≤ s.drip.evts.length) then min 255 (s.drip.evtLost + 1) else s.drip.evtLost }

theorem dripEvent_silent (s : State) (source : Nat) (rising : Bool) :
    Silent { s with drip := dripRecorded s source rising } (s.dripEvent source rising) := by
  unfold State.dripEvent
  dsimp only
  split
  · exact silent_condition _ _ _
  · exact silent_refl _

theorem dripEvent_drip (s : State) (source : Nat) (rising : Bool) :
    (s.dripEvent source rising).drip = dripRecorded s source rising := silent_drip (dripEvent_silent s source rising)

theorem dripRecorded_last (s : State) (source : Nat) (rising : Bool) :
    (dripRecorded s source rising).evts.getLast? = some (dripRecord s source rising) := List.getLast?_concat

theorem dripEvent_last (s : State) (source : Nat) (rising : Bool) :
    (s.dripEvent source rising).drip.evts.getLast? = some (dripRecord s source rising) := by
  rw [dripEvent_drip]
  exact dripRecorded_last s source rising

/-- An event that is followed by a change of the Drip domain alone. -/
theorem dripEvent_with_drip (s : State) (source : Nat) (rising : Bool) (d : DripSt) :
    Silent { s with drip := d } { s.dripEvent source rising with drip := d } :=
  silent_with_drip (dripEvent_silent s source rising) d

/-! ### VBULK (R513, R518, R527) -/

theorem vbulkLow_falls {volts : F32} {s : State} (hlow : F32.lt volts (fof (s.dripVal P.VBULK_WARN_V 0)) = true)
    (hok : s.drip.vbulkOk = true) : exec (.vbulkLow volts) s = .next (State.followRail {
      State.dripEvent { s with pwr.vbulk := volts, drip.onVaon := F32.lt volts (F32.ofRatio 96 10) } 0 false with
      drip.vbulkOk := false, pwr.sagGuard := true, pwr.sagHold := s.pn P.SAG_HOLD_S 0 }) :=
  congrArg Host.Outcome.next ((if_pos hlow).trans (if_pos hok))

theorem vbulkLow_rises {volts : F32} {s : State} (hlow : F32.lt volts (fof (s.dripVal P.VBULK_WARN_V 0)) = false)
    (hup : F32.le s.warnUp volts = true) (hok : s.drip.vbulkOk = false) : exec (.vbulkLow volts) s = .next
      (State.vbulkRises { s with pwr.vbulk := volts, drip.onVaon := F32.lt volts (F32.ofRatio 96 10) }) :=
  congrArg Host.Outcome.next ((if_neg (Bool.eq_false_iff.mp hlow)).trans (if_pos (by rw [hup, hok]; rfl)))

theorem vbulkLow_stays {volts : F32} {s : State}
    (hsame : F32.lt volts (fof (s.dripVal P.VBULK_WARN_V 0)) = !s.drip.vbulkOk) : exec (.vbulkLow volts) s = .next
      { s with pwr.vbulk := volts, drip.onVaon := F32.lt volts (F32.ofRatio 96 10) } := by
  refine congrArg Host.Outcome.next ?_
  cases hok : s.drip.vbulkOk with
  | true =>
    rw [hok] at hsame
    exact (if_neg (by rw [hsame]; decide)).trans (if_neg (by simp))
  | false =>
    rw [hok] at hsame
    exact (if_pos hsame).trans (if_neg Bool.false_ne_true)

theorem silent_with_rail {s u : State} (h : Silent s u) (d : DripSt) (p : PowerSt) (mv : Nat) :
    Silent { s with drip := d, pwr := p, rst.coreMv := mv } { u with drip := d, pwr := p, rst.coreMv := mv } :=
  silent_map h (fun t => { t with drip := d, pwr := p, rst.coreMv := mv }) fun _ _ _ _ _ _ _ _ _ => rfl

/-- The state after a fall of VBULK below its warning level, once the rail has followed. -/
theorem fallen_shape {s : State} (volts : F32) (hst : 7 ≤ s.rst.stage) :
    ∃ t, State.followRail {
        State.dripEvent { s with pwr.vbulk := volts, drip.onVaon := F32.lt volts (F32.ofRatio 96 10) } 0 false with
        drip.vbulkOk := false, pwr.sagGuard := true, pwr.sagHold := s.pn P.SAG_HOLD_S 0 } = t ∧
      Silent { s with drip := t.drip, pwr := t.pwr, rst.coreMv := t.railMv } t ∧
      t.pwr = { s.pwr with vbulk := volts, sagGuard := true, sagHold := s.pn P.SAG_HOLD_S 0 } ∧
      t.drip = { dripRecorded { s with pwr.vbulk := volts, drip.onVaon := F32.lt volts (F32.ofRatio 96 10) } 0 false with
        vbulkOk := false } := by
  let s1 : State := { s with pwr.vbulk := volts, drip.onVaon := F32.lt volts (F32.ofRatio 96 10) }
  have hsil := dripEvent_silent s1 0 false
  have hrst : (s1.dripEvent 0 false).rst = s.rst := (silent_rst hsil :)
  refine ⟨_, followRail_taken (by rw [hrst]; exact hst), silent_with_rail hsil _ _ _, ?_, ?_⟩
  · exact congrArg (fun p : PowerSt => { p with sagGuard := true, sagHold := s.pn P.SAG_HOLD_S 0 }) (silent_pwr hsil)
  · exact congrArg (fun d : DripSt => { d with vbulkOk := false }) (dripEvent_drip s1 0 false)

theorem vbulkRises_shape (s : State) :
    Silent { s with drip := { dripRecorded s 0 true with vbulkOk := true }, pwr.sagFrom := s.epoch } s.vbulkRises ∧
    s.vbulkRises.pwr = { s.pwr with sagFrom := s.epoch } ∧
    s.vbulkRises.drip = { dripRecorded s 0 true with vbulkOk := true } := by
  have hsil := dripEvent_silent s 0 true
  have hpwr : s.vbulkRises.pwr = { s.pwr with sagFrom := s.epoch } :=
    congrArg (fun p : PowerSt => { p with sagFrom := s.epoch }) (silent_pwr hsil)
  refine ⟨?_, hpwr, congrArg (fun d : DripSt => { d with vbulkOk := true }) (dripEvent_drip s 0 true)⟩
  exact silent_map hsil (fun t => { t with drip.vbulkOk := true, pwr.sagFrom := s.epoch }) fun _ _ _ _ _ _ _ _ _ => rfl

theorem sagHoldEnd_ends {volts : F32} {s : State} (hg : s.pwr.sagGuard = true) (hok : s.drip.vbulkOk = true)
    (hup : F32.le s.warnUp volts = true)
    (hheld : s.time.running = false ∨ s.pwr.sagFrom + s.pwr.sagHold * 8000 ≤ s.epoch) :
    exec (.sagHoldEnd volts) s = .next (State.followRail { s with pwr.vbulk := volts, pwr.sagGuard := false }) :=
  congrArg Host.Outcome.next (if_pos (by simpa [hg, hok, hup] using hheld))

/-! ### The other comparators and the wake lands (R527, R529) -/

theorem vaonLow_crosses {rising : Bool} {volts : F32} {s : State} (hok : s.drip.vaonOk = !rising)
    (hup : rising = true → F32.le (F32.ofRatio 21 10) volts = true)
    (hdown : rising = false → F32.lt volts (F32.ofRatio 2 1) = true) :
    exec (.vaonLow rising volts) s = .next
      { State.dripEvent { s with pwr.vaon := volts } 2 rising with drip.vaonOk := rising } := by
  refine congrArg Host.Outcome.next (if_pos ?_)
  cases rising with
  | true => rw [if_pos rfl, hok, hup rfl]; rfl
  | false => rw [if_neg Bool.false_ne_true, hok, hdown rfl]; rfl

theorem vaonLow_stays {rising : Bool} {volts : F32} {s : State} (hok : s.drip.vaonOk = rising) :
    exec (.vaonLow rising volts) s = .next { s with pwr.vaon := volts } := by
  refine congrArg Host.Outcome.next (if_neg ?_)
  cases rising with
  | true => rw [if_pos rfl, hok]; simp
  | false => rw [if_neg Bool.false_ne_true, hok]; simp

/-- One bit set or cleared, the others as they were. -/
theorem getLsbD_with_bit {w : Nat} (x : BitVec w) {i k : Nat} (on : Bool) (hk : k < w) :
    (if on then x ||| (1#w <<< i) else x &&& ~~~(1#w <<< i)).getLsbD k = if k = i then on else x.getLsbD k := by
  have hbit : (1#w <<< i).getLsbD k = decide (k = i) := by
    simp only [BitVec.getLsbD_shiftLeft, hk, decide_true, Bool.true_and, BitVec.getLsbD_one]
    by_cases h : k = i
    · simp [h]; omega
    · by_cases hlt : k < i
      · simp [h, hlt]
      · simp [h]; omega
  cases on with
  | true =>
    rw [if_pos rfl, BitVec.getLsbD_or, hbit]
    by_cases h : k = i <;> simp [h]
  | false =>
    rw [if_neg Bool.false_ne_true, BitVec.getLsbD_and, BitVec.getLsbD_not, hbit]
    by_cases h : k = i <;> simp [h, hk]

theorem vfldLowEvent_acts {g : Nat} {s : State} (rising : Bool) (h1 : 1 ≤ g) (h4 : g ≤ 4) :
    exec (.vfldLowEvent g rising) s = .next { s.dripEvent (2 + g) rising with
      drip.vfldOk := if rising then s.drip.vfldOk ||| (1#4 <<< (g - 1)) else s.drip.vfldOk &&& ~~~(1#4 <<< (g - 1)) } :=
  congrArg Host.Outcome.next (if_pos (by simp [h1, h4]))

/-- The state with the level of a wake land noted. -/
def wakeSeen (s : State) (n : Nat) (rising : Bool) : State :=
  { s with drip.wakeState := if rising then s.drip.wakeState ||| (1#2 <<< n) else s.drip.wakeState &&& ~~~(1#2 <<< n) }

theorem wakeEvent_wakes {n : Nat} {rising : Bool} {s : State} (hn : n < 2)
    (hedge : bitOf (s.dripVal P.WAKE_EDGE 0) n = rising) (hen : bitOf (s.dripVal P.WAKE_EN 0) n = true) :
    exec (.wakeEvent n rising) s = .next (((wakeSeen s n rising).dripEvent (7 + n) rising).wake (n + 1)) :=
  congrArg Host.Outcome.next ((if_pos hn).trans ((if_pos (beq_iff_eq.mpr hedge)).trans (if_pos hen)))

theorem wakeEvent_other {n : Nat} {rising : Bool} {s : State} (hn : n < 2)
    (hedge : bitOf (s.dripVal P.WAKE_EDGE 0) n = !rising) : exec (.wakeEvent n rising) s = .next (wakeSeen s n rising) :=
  congrArg Host.Outcome.next ((if_pos hn).trans (if_neg (by rw [hedge]; cases rising <;> decide)))

theorem wake_dormant {s : State} (h : s.drip.dormant = true) (src : Nat) : s.wake src = { s with
    drip.dormant := false, drip.causeBits := s.drip.causeBits ||| 16#5, drip.wakeSrc := src } := if_pos h

/-- Settles O36: each row has its equation; an event of the Drip domain is recorded last, and is silent otherwise. -/
theorem powerEventsComplete : Obligations.PowerEventsComplete := by
  unfold Obligations.PowerEventsComplete
  refine ⟨?margin, ?settle, ?vbulk, ?vaon, ?vfld, ?wake, ?kept, ?lost⟩
  case margin =>
    intro cls m s hcls hst hact
    refine ⟨fun hother => smallest_only hcls hact hother _, fun hmode hlow => ?_, fun hmode hhigh => ?_, fun hmode => ?_⟩
    · refine ⟨_, (marginBreach_raises hcls hst hact hmode hlow).trans (congrArg _ (followRail_taken hst)), rfl, rfl, rfl, rfl,
        rfl, tget_tset_same _ _ _⟩
    · exact ⟨_, marginBreach_holds hcls hst hact hmode hhigh, rfl, rfl, rfl, rfl, tget_tset_same _ _ _⟩
    · exact ⟨_, marginBreach_pinned hcls hst hact hmode, rfl, rfl, rfl, tget_tset_same _ _ _⟩
  case settle =>
    intro m s hst hmode
    refine ⟨fun hb hm hall hlong hmin => ?_, fun h => govSettleStep_waits (.inl h), fun h => govSettleStep_waits (.inr h)⟩
    exact ⟨_, (govSettleStep_lowers hst hmode hb hm hall hlong hmin).trans (congrArg _ (followRail_taken hst)), rfl⟩
  case vbulk =>
    intro volts s
    refine ⟨fun hlow hok hst => ?_, fun hlow hup hok => ?_, fun hsame _ => vbulkLow_stays hsame,
      fun hg hok hup hheld => ⟨_, sagHoldEnd_ends hg hok hup hheld, ?_, fun hst => ?_⟩⟩
    · obtain ⟨t, ht, hsil, hpwr, hdrip⟩ := fallen_shape (s := s) volts hst
      refine ⟨t, (vbulkLow_falls hlow hok).trans (congrArg _ ht), hsil, hpwr, ?_, ?_, ?_⟩
      · rw [hdrip]
      · rw [hdrip]; rfl
      · rw [hdrip]
        exact dripRecorded_last _ 0 false
    · obtain ⟨hsil, hpwr, hdrip⟩ := vbulkRises_shape
        { s with pwr.vbulk := volts, drip.onVaon := F32.lt volts (F32.ofRatio 96 10) }
      refine ⟨_, vbulkLow_rises hlow hup hok, ?_, hpwr, ?_, ?_, ?_⟩
      · rw [hpwr, hdrip]
        exact hsil
      · rw [hdrip]
      · rw [hdrip]; rfl
      · rw [hdrip]
        exact dripRecorded_last _ 0 true
    · unfold State.followRail
      split <;> rfl
    · rw [followRail_taken (s := { s with pwr.vbulk := volts, pwr.sagGuard := false }) hst]
      rfl
  case vaon =>
    intro rising volts s
    refine ⟨fun hok hup hdown => ⟨_, vaonLow_crosses hok hup hdown,
      dripEvent_with_drip { s with pwr.vaon := volts } 2 rising _, rfl, ?_⟩, vaonLow_stays⟩
    exact dripEvent_last { s with pwr.vaon := volts } 2 rising
  case vfld =>
    intro g rising s h1 h4
    refine ⟨_, vfldLowEvent_acts rising h1 h4, dripEvent_with_drip s (2 + g) rising _, ?_, fun k hk hne => ?_, ?_⟩
    · exact (getLsbD_with_bit _ rising (by omega)).trans (if_pos rfl)
    · exact (getLsbD_with_bit _ rising hk).trans (if_neg hne)
    · exact dripEvent_last s (2 + g) rising
  case wake =>
    intro n rising s hn
    refine ⟨fun hedge hen hdorm => ?_, fun hedge => wakeEvent_other hn hedge⟩
    have hdrip := dripEvent_drip (wakeSeen s n rising) (7 + n) rising
    have hwake := wake_dormant (s := (wakeSeen s n rising).dripEvent (7 + n) rising) (by rw [hdrip]; exact hdorm) (n + 1)
    refine ⟨_, (wakeEvent_wakes hn hedge hen).trans (congrArg _ hwake),
      dripEvent_with_drip (wakeSeen s n rising) (7 + n) rising _, rfl, ?_, rfl, ?_⟩
    · rw [hdrip]; rfl
    · exact dripEvent_last (wakeSeen s n rising) (7 + n) rising
  case kept =>
    intro s hgood
    exact congrArg Host.Outcome.next (if_neg (by simp [hgood]))
  case lost =>
    intro s hv hgood
    refine ⟨_, congrArg Host.Outcome.next (if_pos (by simp [hv, hgood])), rfl, rfl, rfl, fun hk => ?_⟩
    show (s.key.kekValid || s.drip.kekLostDue) = true
    rw [hk]
    rfl

end Sys2Proof.Proofs

/-! PROOF. Supplies that fail and return, the reset lands, the I/O supplies and the die temperatures (R513, R519, R520,
R549, R550, R554; O37). -/

namespace Sys2Proof.Proofs

open Sys2Proof.Machine Sys2Proof.Laws

/-! ### VBULK and VAON (R513, R519) -/

/-- Losing a retained copy that was being written changes the program's data and the free word alone. -/
theorem tearRetain_keeps (s : State) : s.tearRetain.par = s.par ∧ s.tearRetain.drip = s.drip := by
  unfold State.tearRetain
  dsimp only
  split <;> exact ⟨rfl, rfl⟩

theorem vbulkFail_asserts {volts : F32} {s : State} (hgood : s.rst.vbulkGood = true)
    (hlow : F32.lt volts (F32.ofRatio 9 1) = true) : exec (.vbulkFail volts) s = .next (State.assertReset
      { s.tearRetain.dripEvent 1 false with
        rst.vbulkGood := false, drip.vbulkOk := false, drip.onVaon := true, pwr.vbulk := volts } 2#5) :=
  congrArg Host.Outcome.next (if_pos (by rw [hgood, hlow]; rfl))

/-- VBULK has returned, before its warning level is looked at. -/
def bulkBack (s : State) (volts : F32) : State :=
  { s.dripEvent 1 true with
    rst.vbulkGood := true, drip.onVaon := false, drip.causeBits := s.drip.causeBits ||| 2#5, pwr.vbulk := volts }

theorem vbulkGood_returns {volts : F32} {s : State} (hbad : s.rst.vbulkGood = false)
    (hup : F32.lt (F32.ofRatio 96 10) volts = true) : exec (.vbulkGood volts) s = .next (State.holdReset
      (if F32.le s.warnUp volts && !s.drip.vbulkOk then (bulkBack s volts).vbulkRises else bulkBack s volts)) :=
  congrArg Host.Outcome.next (if_pos (by rw [hbad, hup]; rfl))

/-- The comparator of the warning level leaves what the return of VBULK has written. -/
theorem bulkBack_warned (s : State) (volts : F32) (b : Bool) :
    let u := if b then (bulkBack s volts).vbulkRises else bulkBack s volts
    u.rst = (bulkBack s volts).rst ∧ u.drip.onVaon = false ∧ u.drip.causeBits = s.drip.causeBits ||| 2#5 ∧
      u.pwr.vbulk = volts := by
  cases b with
  | false => exact ⟨rfl, rfl, rfl, rfl⟩
  | true =>
    obtain ⟨hsil, hpwr, hdrip⟩ := vbulkRises_shape (bulkBack s volts)
    refine ⟨(silent_rst hsil :), ?_, ?_, ?_⟩
    · exact congrArg DripSt.onVaon hdrip
    · exact congrArg DripSt.causeBits hdrip
    · exact congrArg PowerSt.vbulk hpwr

/-! ### The I/O supplies (R550) -/

/-- What the loss of VIO1 does to a channel. -/
def stoppedCh (x : CanCh) : CanCh :=
  if x.state = 0 || x.state = 6 then x
  else { x with state := 3, recWait := false, observing := false, holdUntil := 0 }

/-- The step of the loss of VIO1 for one channel. -/
def stopStep (a : State) (c : Nat) : State :=
  if (a.canCh c).state = 0 || (a.canCh c).state = 6 then a
  else (a.setCanCh c { a.canCh c with state := 3, recWait := false, observing := false, holdUntil := 0 }).canEndHost c 4 true

theorem canCh_setCanCh_other {c d : Nat} (h : c ≠ d) (s : State) (v : CanCh) : (s.setCanCh c v).canCh d = s.canCh d :=
  tgetD_tset_other _ _ _ _ _ h.symm

theorem stopStep_own (a : State) (c : Nat) : (stopStep a c).canCh c = stoppedCh (a.canCh c) := by
  unfold stopStep stoppedCh
  split
  · rfl
  · rw [canCh_of_part (canChPart_canEndHost _ _ _ _), canCh_setCanCh_same]

theorem stopStep_other (a : State) (c d : Nat) (h : c ≠ d) : (stopStep a c).canCh d = a.canCh d := by
  unfold stopStep
  split
  · rfl
  · rw [canCh_of_part (canChPart_canEndHost _ _ _ _), canCh_setCanCh_other h]

theorem canStop_eq (s : State) : s.canStop = (List.range 16).foldl stopStep s := rfl

theorem canStop_stops (s : State) {c : Nat} (hc : c < 16) : s.canStop.canCh c = stoppedCh (s.canCh c) :=
  get_foldl_of_mem (get := State.canCh) (g := fun _ => stoppedCh) stopStep_other stopStep_own List.nodup_range s
    (List.mem_range.mpr hc)

theorem canStop_idle (s : State) {c : Nat} (h : (s.canCh c).state = 0 ∨ (s.canCh c).state = 6) :
    s.canStop.canCh c = s.canCh c := by
  by_cases hc : c < 16
  · exact (canStop_stops s hc).trans (if_pos (by simpa using h))
  · exact get_foldl_of_not_mem (get := State.canCh) stopStep_other _ s (by simpa using hc)

theorem vio_of_part {s t : State} (h : stgPart t = stgPart s) : t.rst.vio = s.rst.vio :=
  (congrArg (fun x : Nat × Nat × BitVec 4 => x.2.2) h).trans rfl

section
variable {n : Nat} {s : State} (h1 : 1 ≤ n) (h4 : n ≤ 4)
include h1 h4

theorem vioLoss_acts (hgood : s.vioGood n = true) : exec (.vioLoss n) s = .next (
    if s.ready then
      (if n = 1 then (State.condition { s with rst.vio := s.rst.vio &&& ~~~(1#4 <<< (n - 1)) } St.SUPPLY_EVENT (le 1 n)).canStop
       else State.condition { s with rst.vio := s.rst.vio &&& ~~~(1#4 <<< (n - 1)) } St.SUPPLY_EVENT (le 1 n))
    else { s with rst.vio := s.rst.vio &&& ~~~(1#4 <<< (n - 1)) }) :=
  congrArg Host.Outcome.next (if_pos (by simp [h1, h4, hgood]))

theorem vioRestore_acts (hbad : s.vioGood n = false) : exec (.vioRestore n) s = .next (
    if s.ready && n == 1 && s.isActive && s.rst.outCfgDone then
      State.canStartAll { s with rst.vio := s.rst.vio ||| (1#4 <<< (n - 1)) }
    else { s with rst.vio := s.rst.vio ||| (1#4 <<< (n - 1)) }) :=
  congrArg Host.Outcome.next (if_pos (by simp [h1, h4, hbad]))

end

/-! ### RESET_N (R519, R529) -/

theorem resetNAssert_wakes {s : State} (h : s.rst.pinLow = false) :
    exec .resetNAssert s = .next ((State.assertReset { s with rst.pinLow := true } 4#5).wake 4) :=
  congrArg Host.Outcome.next (if_neg (Bool.eq_false_iff.mp h))

/-! ### Die temperatures (R554) -/

theorem overTempRaise_acts {d : Nat} {temp : F32} {s : State} (hfit : s.dieFitted d = true) :
    exec (.overTempRaise d temp) s = .next (
      if F32.lt (F32.ofRatio 115 1) temp && !s.rst.overTemp.contains d && s.ready then
        State.condition { s with rst.dieTemp := tset s.rst.dieTemp d temp, rst.overTemp := s.rst.overTemp ++ [d] }
          St.OVER_TEMP (leRec [(1, d), (4, temp.bits.toNat)])
      else { s with rst.dieTemp := tset s.rst.dieTemp d temp }) := congrArg Host.Outcome.next (if_pos hfit)

/-- The step of a measurement of all dies for one die. -/
def tempStep (s : State) (temps : List F32) (a : Tab F32) (d : Nat) : Tab F32 :=
  if s.dieFitted d && decide (d < temps.length) then tset a d (temps.getD d F32.zero) else a

theorem tempStep_other (s : State) (temps : List F32) (a : Tab F32) (d e : Nat) (h : d ≠ e) :
    tget (tempStep s temps a d) e = tget a e := by
  unfold tempStep
  split
  · exact tget_tset_other _ _ _ _ h.symm
  · rfl

theorem tempStep_own (s : State) (temps : List F32) (a : Tab F32) (d : Nat) : tget (tempStep s temps a d) d =
    if s.dieFitted d && decide (d < temps.length) then some (temps.getD d F32.zero) else tget a d := by
  unfold tempStep
  split
  · exact tget_tset_same _ _ _
  · rfl

theorem overTempClear_acts (temps : List F32) (s : State) : exec (.overTempClear temps) s = .next { s with
    rst.dieTemp := (List.range 6).foldl (tempStep s temps) s.rst.dieTemp
    rst.overTemp := if ((List.range 6).foldl (tempStep s temps) s.rst.dieTemp).all (fun x => F32.le x.2 (F32.ofRatio 110 1))
      then [] else s.rst.overTemp } := rfl

theorem overTempClear_temps {temps : List F32} {s : State} {d : Nat} (hd : d < 6) (hfit : s.dieFitted d = true)
    (hlen : d < temps.length) :
    tget ((List.range 6).foldl (tempStep s temps) s.rst.dieTemp) d = some (temps.getD d F32.zero) :=
  (get_foldl_of_mem (get := fun t d => tget t d)
    (g := fun d o => if s.dieFitted d && decide (d < temps.length) then some (temps.getD d F32.zero) else o)
    (tempStep_other s temps) (tempStep_own s temps) List.nodup_range s.rst.dieTemp (List.mem_range.mpr hd)).trans
    (if_pos (by simp [hfit, hlen]))

/-- Settles O37: an assertion leaves what it is specified to, and each other row has its equation. -/
theorem suppliesAndLandsComplete : Obligations.SuppliesAndLandsComplete := by
  unfold Obligations.SuppliesAndLandsComplete
  refine ⟨?fail, ?good, ?vaon, ?assert, ?release, ?perst, ?perstUp, ?vio, ?raise, ?clear⟩
  case fail =>
    intro volts s hgood hlow
    let w : State := { s.tearRetain.dripEvent 1 false with
      rst.vbulkGood := false, drip.vbulkOk := false, drip.onVaon := true, pwr.vbulk := volts }
    obtain ⟨hhost, hrun, hstage, -, hvb, has, hpar, hdrip, hpwr, -⟩ := assertReset_spec w 2#5
    obtain ⟨hpar0, hdrip0⟩ := tearRetain_keeps s
    have hevent : (s.tearRetain.dripEvent 1 false).drip = dripRecorded s.tearRetain 1 false := dripEvent_drip _ _ _
    have hparw : w.par = s.par := (silent_par (dripEvent_silent s.tearRetain 1 false) :).trans hpar0
    refine ⟨_, vbulkFail_asserts hgood hlow, hstage, has.trans (Bool.or_true _), hvb, ?_, ?_, hpwr, hrun, ?_, ?_, ?_,
      hpar.trans hparw, ?_⟩
    · rw [hdrip]
    · rw [hdrip]
    · rw [hhost]
    · rw [hhost]
    · rw [hhost]
    · rw [hdrip]
      show (s.tearRetain.dripEvent 1 false).drip.dormant = _
      rw [hevent]
      show s.tearRetain.drip.dormant = _
      rw [hdrip0]
  case good =>
    intro volts s hbad hup
    obtain ⟨hrst, hvaon, hcause, hvb⟩ := bulkBack_warned s volts (F32.le s.warnUp volts && !s.drip.vbulkOk)
    have hrst0 : (s.dripEvent 1 true).rst = s.rst := (silent_rst (dripEvent_silent s 1 true) :)
    have hback : (bulkBack s volts).rst = { s.rst with vbulkGood := true } :=
      congrArg (fun r : RstSt => { r with vbulkGood := true }) hrst0
    rw [hback] at hrst
    refine ⟨_, vbulkGood_returns hbad hup, congrArg RstSt.vbulkGood hrst, ?_, (congrArg RstSt.stage hrst).trans rfl, hvaon, hcause,
      hvb⟩
    exact (congrArg (fun r : RstSt => r.pinLow || !r.vbulkGood) hrst).trans (Bool.or_false _)
  case vaon =>
    intro volts s
    obtain ⟨hhost, htime, -, -, hpin, -, hpar, -, -, -⟩ := endTrialRun_spec s.warm
    obtain ⟨hhost', hrun', -, -, -, hpar', -, -, -⟩ := warm_spec s
    refine ⟨_, rfl, rfl, ?_, rfl, rfl, rfl, rfl, rfl, ?_, ?_, ?_⟩
    · exact Bool.or_true _
    · exact (congrArg TimeSt.running htime).trans hrun'
    · exact congrArg HostSt.handles (hhost.trans hhost')
    · exact hpar.trans hpar'
  case assert =>
    intro s hpin
    obtain ⟨hhost, hrun, hstage, hlow, -, has, hpar, hdrip, -, -⟩ := assertReset_spec { s with rst.pinLow := true } 4#5
    have hrow := resetNAssert_wakes hpin
    cases hd : s.drip.dormant with
    | true =>
      have hwake := wake_dormant (s := State.assertReset { s with rst.pinLow := true } 4#5) (by rw [hdrip]; exact hd) 4
      refine ⟨_, hrow.trans (congrArg _ hwake), hlow, has, hstage, hrun, ?_, ?_, ?_, hpar, rfl,
        (congrArg (fun d : DripSt => d.causeBits ||| 16#5) hdrip).trans (show 4#5 ||| 16#5 = 20#5 by decide), rfl⟩
      · rw [hhost]
      · rw [hhost]
      · rw [hhost]
    | false =>
      have hwake : (State.assertReset { s with rst.pinLow := true } 4#5).wake 4 =
          State.assertReset { s with rst.pinLow := true } 4#5 := if_neg (by rw [hdrip]; simp [hd])
      refine ⟨_, hrow.trans (congrArg _ hwake), hlow, has, hstage, hrun, ?_, ?_, ?_, hpar, ?_, ?_, ?_⟩
      · rw [hhost]
      · rw [hhost]
      · rw [hhost]
      · rw [hdrip]
        exact hd
      · rw [hdrip]
        rfl
      · rw [hdrip]
        rfl
  case release => exact fun s hpin => congrArg Host.Outcome.next ((if_pos hpin).trans rfl)
  case perst =>
    intro s hup
    have hrow := exec_pciePerstAssert s
    have hwithin := disableQueues_withinDisable (List.range 8) s
    have hleave := fun q (hq : q < 8) => disableQueues_leavesService hup hq (List.mem_range.mpr hq)
    generalize disableQueues (List.range 8) s = u at hrow hwithin hleave
    refine ⟨_, hrow, ?_, fun q hq => (hleave q hq).1, closedFrameChs_isOpen u.host.frameChs⟩
    exact congrArg (fun x : State => { x with
      rst.perst := true
      host.frameChs := closedFrameChs u.host.frameChs }) hwithin
  case perstUp => exact fun s => rfl
  case vio =>
    intro n s h1 h4
    refine ⟨fun hgood hr hn => ?_, fun hgood hr hn => ?_, fun hgood hr => ?_, fun hbad => ?_⟩
    · refine ⟨_, (vioLoss_acts h1 h4 hgood).trans (congrArg _ ((if_pos hr).trans (if_neg hn))), silent_condition _ _ _⟩
    · refine ⟨_, (vioLoss_acts h1 h4 hgood).trans (congrArg _ ((if_pos hr).trans (if_pos hn))), ?_, fun c hc h0 h6 => ?_,
        fun c h => ?_⟩
      · exact (vio_of_part ((stgPart_canStop _).trans (stgPart_condition _ _ _))).trans rfl
      · rw [canStop_stops _ hc, silent_canCh (silent_condition _ _ _)]
        exact congrArg CanCh.state (if_neg
          (show ¬(decide ((s.canCh c).state = 0) || decide ((s.canCh c).state = 6)) = true by simp [h0, h6]))
      · have hkeep := silent_canCh (silent_condition { s with rst.vio := s.rst.vio &&& ~~~(1#4 <<< (n - 1)) }
          St.SUPPLY_EVENT (le 1 n)) c
        exact (canStop_idle _ (by rw [hkeep]; exact h)).trans hkeep
    · exact (vioLoss_acts h1 h4 hgood).trans (congrArg _ (if_neg (by rw [hr]; decide)))
    · refine ⟨_, vioRestore_acts h1 h4 hbad, ?_, fun hn => if_neg (by simp [hn])⟩
      split
      · exact vio_of_part (stgPart_canStartAll _)
      · rfl
  case raise =>
    intro d temp s hfit
    have hrow := overTempRaise_acts (temp := temp) hfit
    refine ⟨fun hhot hnew hr => ?_, fun hno => ?_⟩
    · rw [if_pos (by rw [hhot, hnew, hr]; rfl)] at hrow
      refine ⟨_, hrow, silent_condition _ _ _, ?_⟩
      rw [condition_aud]
      rfl
    · rw [hrow, if_neg]
      cases hno with
      | inl h => simp [h]
      | inr h =>
        rw [h]
        simp
  case clear =>
    intro temps s
    exact ⟨_, overTempClear_acts temps s, rfl, fun d hd hfit hlen => overTempClear_temps hd hfit hlen, rfl⟩

end Sys2Proof.Proofs

/-! PROOF. The release order, firmware banks and block resets (R519 to R526, R529, R540; O38). -/

namespace Sys2Proof.Proofs

open Sys2Proof.Machine Sys2Proof.Laws

/-! ### The steps (R521, R522) -/

theorem nextRelease_succ {s : State} (h : s.rst.stage ≠ 5) : s.nextRelease = s.rst.stage + 1 := if_neg (by simp [h])

theorem nextRelease_of {s : State} {k : Nat} (h : s.rst.stage = k) (hk : k ≠ 5) : s.nextRelease = k + 1 :=
  (nextRelease_succ (h ▸ hk)).trans (congrArg (· + 1) h)

theorem nextRelease_five {s : State} (h : s.rst.stage = 5) : s.nextRelease = if s.fitted then 6 else 7 := by
  unfold State.nextRelease
  cases hf : s.fitted <;> simp [h]

section
variable {obs : ReleaseObs} {s : State}

theorem stepDone_one (h : s.nextRelease = 1) : s.stepDone obs = { s with rst.stage := 1, drip.cd0 := true } := by
  unfold State.stepDone
  rw [h]
  rfl

theorem stepDone_two (h : s.nextRelease = 2) : s.stepDone obs = State.loadTrim { s with rst.asserted := false } obs := by
  unfold State.stepDone
  rw [h]
  rfl

theorem stepDone_three (h : s.nextRelease = 3) :
    s.stepDone obs = { s with rst.stage := 3, rst.coreMv := 800, pwr.setMv := 800 } := by
  unfold State.stepDone
  rw [h]
  rfl

theorem stepDone_four (h : s.nextRelease = 4) : s.stepDone obs =
    if obs.testMode then { s with rst.stage := 4, rst.halted := 4 } else State.bootTrial { s with rst.stage := 4 } := by
  unfold State.stepDone
  rw [h]
  rfl

theorem stepDone_five (h : s.nextRelease = 5) : s.stepDone obs = State.copyDrip { s with rst.stage := 5 } := by
  unfold State.stepDone
  rw [h]
  rfl

theorem stepDone_six (h : s.nextRelease = 6) : s.stepDone obs = { s with rst.stage := 6 } := by
  unfold State.stepDone
  rw [h]
  rfl

theorem stepDone_seven (h : s.nextRelease = 7) : s.stepDone obs = State.govCommitted { s with rst.stage := 7 } := by
  unfold State.stepDone
  rw [h]
  rfl

theorem stepDone_eight (h : s.nextRelease = 8) : s.stepDone obs =
    if s.rst.vio = 15#4 then (if s.fitted then s.step8 obs else (s.step8 obs).releaseDone) else s.haltAt 8 := by
  unfold State.stepDone
  rw [h]
  rfl

theorem stepDone_last (h : s.nextRelease = 9 ∨ s.nextRelease = 10) :
    s.stepDone obs = State.releaseDone { s with rst.dieReleased := true } := by
  unfold State.stepDone
  cases h with
  | inl h =>
    rw [h]
    rfl
  | inr h =>
    rw [h]
    rfl

end

/-! ### What the later steps leave of the stage -/

theorem stage_of_part {s t : State} (h : stgPart t = stgPart s) : t.rst.stage = s.rst.stage := (congrArg Prod.fst h).trans rfl

theorem step8_stage (s : State) (obs : ReleaseObs) : (s.step8 obs).rst.stage = 8 := by
  have h : stgPart (s.step8 obs) = stgPart { s with rst.stage := 8 } := by
    unfold State.step8
    exact (stgPart_startUnit _).trans <| (stgPart_startClock _).trans <| (stgPart_lostNotes _).trans <|
      (stgPart_scrub _ _ _).trans <| (stgPart_startKeys _).trans <| (stgPart_auditDev _ _ _ _ _ _).trans <|
      stgPart_takeBoot _
  exact (stage_of_part h).trans rfl

theorem releaseDone_stage (s : State) : s.releaseDone.rst.stage = 10 := by
  have h : stgPart s.releaseDone = stgPart { s with rst.stage := 10 } := by
    unfold State.releaseDone
    exact (stgPart_postAlarms _).trans <| (stgPart_postDrip _).trans <| (stgPart_postBootFault _).trans <|
      stgPart_confirmTrial _
  exact (stage_of_part h).trans rfl

theorem govCommitted_stage (s : State) : s.govCommitted.rst.stage = s.rst.stage := stage_of_part (stgPart_govCommitted s)

theorem followRail_railMv {s : State} (h : 7 ≤ s.rst.stage) : s.followRail.rst.coreMv = s.followRail.railMv := by
  rw [followRail_taken h]
  rfl

/-- At release step 7 the rail follows its target from then on (R521). -/
theorem govCommitted_rail {s : State} (h : 7 ≤ s.rst.stage) : s.govCommitted.rst.coreMv = s.govCommitted.railMv := by
  unfold State.govCommitted
  exact followRail_railMv h

/-- The trial bank runs, where one is marked (R526). -/
theorem bootTrial_stage (s : State) : s.bootTrial.rst.stage = s.rst.stage := stage_of_part (stgPart_bootTrial s)

theorem bootTrial_marked {s : State} {x : FwImage} (hn : s.rst.fwTrialNext = true) (hl : s.rst.fwLoaded = some x) :
    s.bootTrial.rst.fwRunningTrial = true ∧ s.bootTrial.ident.fw = x.version ∧ s.bootTrial.rst.fwSerial = x.serial ∧
    s.bootTrial.rst.fwActive = 1 - s.rst.fwActive := by
  unfold State.bootTrial State.swapFw
  rw [if_pos (by rw [hn, hl]; rfl), hl]
  exact ⟨rfl, rfl, rfl, rfl⟩

theorem bootTrial_none {s : State} (hn : s.rst.fwTrialNext = false) : s.bootTrial = s := if_neg (by rw [hn]; simp)

/-! ### Steps that end, and steps that halt (R523, R526) -/

theorem haltAt_halts {s : State} {k : Nat} (h : s.rst.fwRunningTrial = false ∨ k < 5) :
    s.haltAt k = { s with drip.bootFault := k, drip.bootFaultDue := true, rst.halted := k } := by
  refine if_neg fun hall => ?_
  simp only [Bool.and_eq_true, decide_eq_true_eq] at hall
  cases h with
  | inl h => exact Bool.false_ne_true (h.symm.trans hall.1)
  | inr h => omega

theorem haltAt_trial {s : State} {k : Nat} (ht : s.rst.fwRunningTrial = true) (hk : 5 ≤ k) :
    s.haltAt k = State.fallBack { s with drip.bootFault := k, drip.bootFaultDue := true } :=
  if_pos (by simp [ht, hk])

/-- What a trial that falls back leaves (R526). -/
theorem fallBack_leaves (s : State) : s.fallBack.rst.stage = 1 ∧ s.fallBack.rst.fwRunningTrial = false ∧
    s.fallBack.rst.fwTrialNext = false ∧ s.fallBack.rst.fwTrial = 0 ∧
    s.fallBack.drip = { s.drip with fwFallback := true } ∧ s.fallBack.par = s.par := by
  obtain ⟨-, -, -, hstage, -, -, hpar, hdrip, -, hrun⟩ := endTrialRun_spec s.warm
  obtain ⟨-, -, hstage', -, -, hpar', hdrip', -, -⟩ := warm_spec s
  exact ⟨hstage.trans hstage', hrun, rfl, rfl,
    congrArg (fun d : DripSt => { d with fwFallback := true }) (hdrip.trans hdrip'), hpar.trans hpar'⟩

/-- `t` is `s` but for the reply of the device status: the host port and the messages sent. -/
def StatusOnly (s t : State) : Prop := t = { s with host := t.host, out := t.out }

theorem syncDev_statusOnly (s : State) : StatusOnly s s.syncDev := by
  obtain ⟨a, b, c, h⟩ := syncDev_shape s
  rw [StatusOnly, h]

section
variable {obs : ReleaseObs} {s : State} (hm : s.mayRelease = true)
include hm

theorem releaseStep_ends (hc : obs.cond = true) :
    ∃ t, exec (.releaseStep obs) s = .next t ∧ StatusOnly (s.stepDone obs) t :=
  ⟨_, congrArg Host.Outcome.next ((if_neg (by simp [hm])).trans (if_pos hc)), syncDev_statusOnly _⟩

theorem releaseStep_halts (hc : obs.cond = false) : exec (.releaseStep obs) s = .next (s.haltAt s.nextRelease) :=
  congrArg Host.Outcome.next ((if_neg (by simp [hm])).trans (if_neg (Bool.eq_false_iff.mp hc)))

theorem releaseHalt_halts : exec .releaseHalt s = .next (s.haltAt s.nextRelease) :=
  congrArg Host.Outcome.next (if_pos hm)

end

section
variable {s t : State} (h : StatusOnly s t)
include h

theorem StatusOnly.rst : t.rst = s.rst := (congrArg State.rst h).trans rfl
theorem StatusOnly.drip : t.drip = s.drip := (congrArg State.drip h).trans rfl
theorem StatusOnly.pwr : t.pwr = s.pwr := (congrArg State.pwr h).trans rfl
theorem StatusOnly.ident : t.ident = s.ident := (congrArg State.ident h).trans rfl
theorem StatusOnly.railMv : t.railMv = s.railMv := (congrArg State.railMv h).trans rfl

end

/-! ### RESET (R519, R529, R540) -/

section
variable {h : Hdr} {mode : Nat} {s : State} (ha : s.admitted resetInfo h = true) (hmode : mode ≤ 1)
  (hmaker : s.roleOf h.src = .maker → s.installerHeld = true ∧ (s.prog.run.mode = 0 ∨ s.prog.run.mode = 1))
include hmode hmaker

theorem resetVerdict_admits : resetVerdict h mode (s.take h) = { act := fun t =>
    if mode = 1 then { t.assertReset 8#5 with drip.dormant := true } else t.assertReset 8#5 } := by
  unfold resetVerdict
  rw [take_roleOf, take_installerHeld, take_prog]
  refine (if_neg ?_).trans ((if_neg ?_).trans (if_neg (by omega)))
  · by_cases hr : s.roleOf h.src = .maker
    · simp [(hmaker hr).1]
    · simp [hr]
  · by_cases hr : s.roleOf h.src = .maker
    · cases (hmaker hr).2 with
      | inl hm => simp [hm]
      | inr hm => simp [hm]
    · simp [hr]

include ha in
theorem reset_asserts : exec (.reset h mode) s = .next (
    if mode = 1 then { (s.answered resetInfo h mode {}).assertReset 8#5 with drip.dormant := true }
    else (s.answered resetInfo h mode {}).assertReset 8#5) :=
  congrArg Host.Outcome.next (command_acts (m := mode) ha (resetVerdict_admits hmode hmaker))

end

/-! ### FW_LOAD and FW_ACTIVATE (R526) -/

theorem fwLoad_opens {h : Hdr} {n : U32} {s : State} (ha : s.admitted fwLoadInfo h = true) (hop : s.rst.fwOp = none)
    (htr : s.rst.fwRunningTrial = false) (hn : s.nextHandle = some n) :
    ∃ t, exec (.fwLoad h) s = .next t ∧
      Silent { s with rst := t.rst, host.handles := t.host.handles, host.freeList := t.host.freeList
                      host.accSeq := s.host.accSeq + 1 } t ∧
      t.rst = { s.rst with fwOp := some { handle := n, seq := s.host.accSeq }, fwLoaded := none
                           fwTrialNext := false, fwTrial := 0 } := by
  have hv : fwLoadVerdict h (s.take h) = (s.take h).long h 0x0303 (fun n t => { t with
      rst.fwOp := some { handle := n, seq := t.host.accSeq }
      rst.fwLoaded := none
      rst.fwTrialNext := false
      rst.fwTrial := 0
      host.accSeq := t.host.accSeq + 1 }) := by
    unfold fwLoadVerdict
    rw [take_rst]
    exact if_neg (by simp [hop, htr])
  obtain ⟨u, hs, fr, hu, hcmd⟩ := command_long s fwLoadInfo h 0 _ _ _ n ha hn hv
  refine ⟨_, congrArg Host.Outcome.next hcmd, ?_, ?_⟩
  · rw [← silent_host_accSeq hu]
    exact silent_handles_with_rst hu _ _ _ _
  · exact congrArg₂ (fun (r : RstSt) q => { r with
      fwOp := some { handle := n, seq := q }, fwLoaded := none, fwTrialNext := false, fwTrial := 0 })
      (silent_rst hu) (silent_host_accSeq hu)

theorem fwLoadDone_ends {bytes : List Byte} {img : FwImage} {o : LoadOp} {s : State} (ho : s.rst.fwOp = some o)
    (hr : s.ready = true) : exec (.fwLoadDone bytes img) s = .next (State.complete { s with
      rst.fwOp := none
      rst.fwLoaded := if s.fwCode bytes = 0 then some { img with serial := imgSerial bytes } else none }
      o.handle (codeStatus (s.fwCode bytes)) (s.fwCode bytes) (leRec [(4, s.fwCode bytes)])) := by
  show execFwLoadDone bytes img s = _
  unfold execFwLoadDone
  rw [ho]
  exact congrArg Host.Outcome.next (if_pos hr)

theorem fwActivate_marks {h : Hdr} {x : FwImage} {s : State} (ha : s.admitted fwActivateInfo h = true)
    (hop : s.rst.fwOp = none) (htr : s.rst.fwRunningTrial = false) (hl : s.rst.fwLoaded = some x) :
    ∃ t, exec (.fwActivate h) s = .next t ∧ Silent { s with rst.fwTrialNext := true, rst.fwTrial := 1 } t := by
  have hv : fwActivateVerdict (s.take h) = { act := fun t => { t with rst.fwTrialNext := true, rst.fwTrial := 1 } } := by
    unfold fwActivateVerdict
    rw [take_rst]
    exact (if_neg (by simp [hop, htr])).trans (if_neg (by simp [hl]))
  exact ⟨_, congrArg Host.Outcome.next (command_acts (m := 0) ha hv),
    silent_map (silent_answered s fwActivateInfo h 0 {}) (fun t => { t with rst.fwTrialNext := true, rst.fwTrial := 1 })
      fun _ _ _ _ _ _ _ _ _ => rfl⟩

/-! ### BLOCK_RESET (R525) -/

theorem tget_filter_none {α : Type} {p : Nat × α → Bool} {k : Nat} (h : ∀ v, p (k, v) = false) (t : Tab α) :
    tget (t.filter p) k = none := by
  induction t with
  | nil => rfl
  | cons x t ih =>
    obtain ⟨j, v⟩ := x
    rw [List.filter_cons]
    split
    next hp =>
      have hne : j ≠ k := fun e => by
        rw [e, h] at hp
        exact Bool.false_ne_true hp
      exact (if_neg hne).trans ih
    next => exact ih

theorem clearBlock_keeps (s : State) (b i : Nat) :
    (s.clearBlock b i).rst.blockOps = s.rst.blockOps ∧ (s.clearBlock b i).par = s.par := by
  unfold State.clearBlock
  split <;> exact ⟨rfl, rfl⟩

theorem clearBlock_can (s : State) (i : Nat) : ((s.clearBlock 5 i).canCh i).state = 0 ∧
    ∀ k, k / 65 = i → tget (s.clearBlock 5 i).can.bufs k = none := by
  refine ⟨congrArg CanCh.state (tgetD_tset_same s.can.chans i { state := 0 } {}), fun k hk => ?_⟩
  exact tget_filter_none (fun v => by simp [hk]) _

theorem clearBlock_port (s : State) (i : Nat) :
    ((s.clearBlock 7 i).port i).link = false ∧ ((s.clearBlock 7 i).port i).mode = 0 := by
  have h : (s.clearBlock 7 i).port i = { s.port i with link := false, mode := 0 } := port_setPort_same _ _ _
  rw [h]
  exact ⟨rfl, rfl⟩

/-- A block reset just accepted: the block cleared, its operation noted. -/
def blockCleared (s : State) (n : U32) (b i : Nat) : State :=
  { s.clearBlock b i with rst.blockOps := (s.clearBlock b i).rst.blockOps ++ [{ handle := n, block := b, index := i }] }

theorem blockReset_clears {h : Hdr} {b i : Nat} {n : U32} {s : State} (ha : s.admitted blockResetInfo h = true)
    (hname : blockNamed b i = true) (hfit : s.fitted = true ∨ (b ≠ 1 ∧ b ≠ 2 ∧ b ≠ 6))
    (hidle : (s.take h).blockIdle b i = true) (hn : s.nextHandle = some n) :
    ∃ u hs fr, Silent s u ∧ exec (.blockReset h b i) s = .next
      (blockCleared { u with host.handles := hs, host.freeList := fr } n b i) := by
  have hv : blockResetVerdict h b i (s.take h) =
      (s.take h).long h 0x0302 (fun n t => blockCleared t n b i) := by
    refine (if_neg (by simp [hname])).trans ((if_neg ?_).trans (if_neg (by simp [hidle])))
    have hkeep : (s.take h).fitted = s.fitted := congrArg (fun i : Ident => i.variant != .q8200) (take_ident s h)
    rw [hkeep]
    cases hfit with
    | inl h => simp [h]
    | inr h => simp [h]
  obtain ⟨u, hs, fr, hu, hcmd⟩ := command_long s blockResetInfo h (65536 * b + i) _ _ _ n ha hn hv
  exact ⟨u, hs, fr, hu, congrArg Host.Outcome.next hcmd⟩

theorem blockResetDone_frees {k : U32} {o : BlockOp} {s : State}
    (ho : s.rst.blockOps.find? (fun o => o.handle == k) = some o) :
    exec (.blockResetDone k) s = .next ((({ s with
      rst.blockOps := s.rst.blockOps.filter (fun x => x.handle != k) } : State).freeBlock o.block).complete k
        St.OK 0 []) := by
  show execBlockResetDone k s = _
  unfold execBlockResetDone
  rw [ho]

/-- Settles O38: each step of the release has its equation, and so have the halts, RESET, the loads and the block resets. -/
theorem releaseComplete : Obligations.ReleaseComplete := by
  unfold Obligations.ReleaseComplete
  refine ⟨?steps, ?waits, ?halts, ?timeout, ?reset, ?fwLoad, ?fwLoaded, ?fwActivate, ?block, ?blockDone⟩
  case steps =>
    intro obs s hm hc
    obtain ⟨t, hrow, ht⟩ := releaseStep_ends hm hc
    refine ⟨fun hs => ?_, fun hs ha => ?_, fun hs ha hb => ?_, fun hs ha hb => ?_, fun hs => ?_, fun hs htest => ?_,
      fun hs htest => ?_, fun hs => ?_, fun hs => ?_, fun hs => ?_, fun hs hv => ?_, fun hs hv htr => ?_, fun hs => ?_⟩
    · have hdone := stepDone_one (obs := obs) (nextRelease_of hs (by decide))
      refine ⟨t, hrow, ?_, ?_⟩
      · rw [ht.rst, hdone]
      · rw [ht.drip, hdone]
    · have hdone := stepDone_two (obs := obs) (nextRelease_of hs (by decide))
      refine ⟨t, hrow, ?_⟩
      rw [ht.rst, hdone, State.loadTrim, if_pos ha]
      exact ⟨rfl, rfl, rfl, rfl⟩
    · have hdone := stepDone_two (obs := obs) (nextRelease_of hs (by decide))
      refine ⟨t, hrow, ?_⟩
      rw [ht.rst, hdone, State.loadTrim, if_neg (by simp [ha]), if_pos hb]
      exact ⟨rfl, rfl, rfl, rfl⟩
    · have hdone := stepDone_two (obs := obs) (nextRelease_of hs (by decide))
      refine ⟨t, hrow, ?_⟩
      rw [ht.rst, ht.drip, hdone, State.loadTrim, if_neg (by simp [ha]), if_neg (by simp [hb]), haltAt_halts (.inr (by omega))]
      exact ⟨hs, rfl, rfl, rfl, rfl⟩
    · have hdone := stepDone_three (obs := obs) (nextRelease_of hs (by decide))
      refine ⟨t, hrow, ?_⟩
      rw [ht.rst, ht.pwr, hdone]
      exact ⟨rfl, rfl, rfl⟩
    · have hdone := stepDone_four (obs := obs) (nextRelease_of hs (by decide))
      refine ⟨t, hrow, ?_⟩
      rw [ht.rst, hdone, if_pos htest]
      exact ⟨rfl, rfl⟩
    · have hdone := stepDone_four (obs := obs) (nextRelease_of hs (by decide))
      rw [if_neg (by simp [htest])] at hdone
      refine ⟨t, hrow, ?_, fun x hn hl => ?_, fun hn => ?_⟩
      · rw [ht.rst, hdone]
        exact bootTrial_stage _
      · rw [ht.rst, ht.ident, hdone]
        exact bootTrial_marked (s := { s with rst.stage := 4 }) hn hl
      · rw [ht.rst, ht.ident, hdone, bootTrial_none (s := { s with rst.stage := 4 }) hn]
        exact ⟨rfl, rfl⟩
    · have hdone := stepDone_five (obs := obs) (nextRelease_of hs (by decide))
      refine ⟨t, hrow, ?_⟩
      rw [ht.rst, hdone]
      rfl
    · have hnext := nextRelease_five hs
      refine ⟨t, hrow, ?_⟩
      rw [ht.rst]
      cases hf : s.fitted with
      | true => rw [stepDone_six (hnext.trans (if_pos hf)), if_pos rfl]
      | false =>
        rw [stepDone_seven (hnext.trans (if_neg (by simp [hf]))), govCommitted_stage]
        rfl
    · have hdone := stepDone_seven (obs := obs) (nextRelease_of hs (by decide))
      refine ⟨t, hrow, ?_, ?_⟩
      · rw [ht.rst, hdone, govCommitted_stage]
      · rw [ht.rst, ht.railMv, hdone]
        exact govCommitted_rail (le_refl 7)
    · have hdone := stepDone_eight (obs := obs) (nextRelease_of hs (by decide))
      refine ⟨t, hrow, ?_⟩
      rw [ht.rst, hdone, if_pos hv]
      cases hf : s.fitted with
      | true =>
        rw [if_pos rfl]
        exact step8_stage s obs
      | false =>
        rw [if_neg Bool.false_ne_true]
        exact releaseDone_stage _
    · have hdone := stepDone_eight (obs := obs) (nextRelease_of hs (by decide))
      refine ⟨t, hrow, ?_⟩
      rw [ht.rst, ht.drip, hdone, if_neg hv, haltAt_halts (.inl htr)]
      exact ⟨hs, rfl, rfl⟩
    · have hlt : s.rst.stage < 10 := by
        unfold State.mayRelease at hm
        simp only [Bool.and_eq_true, decide_eq_true_eq] at hm
        exact hm.1.1
      have hnext := nextRelease_succ (s := s) (by omega)
      refine ⟨t, hrow, ?_⟩
      rw [ht.rst, stepDone_last (by omega)]
      exact releaseDone_stage _
  case waits => exact fun obs s hm => congrArg Host.Outcome.next (if_pos (by rw [hm]; rfl))
  case halts =>
    intro obs s hm hc
    have hrow := releaseStep_halts hm hc
    have hhalt := releaseHalt_halts hm
    refine ⟨fun h => ⟨hrow.trans (congrArg _ (haltAt_halts h)), hhalt.trans hrow.symm⟩, fun ht hk => ?_⟩
    obtain ⟨hstage, hrun, hnext, -, hdrip, hpar⟩ := fallBack_leaves
      { s with drip.bootFault := s.nextRelease, drip.bootFaultDue := true }
    refine ⟨_, hhalt.trans (congrArg _ (haltAt_trial ht hk)), hstage, hrun, hnext, ?_, ?_, hpar⟩
    · rw [hdrip]
    · rw [hdrip]
  case timeout =>
    intro s ht hst
    obtain ⟨hstage, hrun, hnext, hmark, hdrip, hpar⟩ := fallBack_leaves s
    refine ⟨_, congrArg Host.Outcome.next (if_pos (by simp [ht, hst])), hstage, hrun, hnext, hmark, ?_, hpar⟩
    rw [hdrip]
  case reset =>
    intro h mode s ha hmode hmaker
    have hrow := reset_asserts ha hmode hmaker
    obtain ⟨hhost, hrun, hstage, -, -, -, hpar, hdrip, -, hout⟩ := assertReset_spec (s.answered resetInfo h mode {}) 8#5
    have hdorm : ((s.answered resetInfo h mode {}).assertReset 8#5).drip.dormant = s.drip.dormant := by
      rw [hdrip, answered_drip]
    have hparam : ((s.answered resetInfo h mode {}).assertReset 8#5).par = s.par := hpar.trans (answered_par _ _ _ _ _)
    by_cases hm : mode = 1
    · rw [if_pos hm] at hrow
      refine ⟨_, hrow, hstage, ?_, ?_, hrun, ?_, ?_, ?_, hparam, hout⟩
      · exact congrArg DripSt.causeBits hdrip
      · simp [hm]
      · exact congrArg HostSt.handles hhost
      · exact congrArg HostSt.queues hhost
      · exact congrArg HostSt.sessions hhost
    · rw [if_neg hm] at hrow
      refine ⟨_, hrow, hstage, ?_, ?_, hrun, ?_, ?_, ?_, hparam, hout⟩
      · exact congrArg DripSt.causeBits hdrip
      · rw [hdorm]
        simp [hm]
      · exact congrArg HostSt.handles hhost
      · exact congrArg HostSt.queues hhost
      · exact congrArg HostSt.sessions hhost
  case fwLoad => exact fun h n s ha hop htr hn => fwLoad_opens ha hop htr hn
  case fwLoaded => exact fun bytes img o s ho hr => fwLoadDone_ends ho hr
  case fwActivate => exact fun h x s ha hop htr hl => fwActivate_marks ha hop htr hl
  case block =>
    intro h b i n s ha hname hfit hidle hn
    obtain ⟨u, hs, fr, hu, hrow⟩ := blockReset_clears ha hname hfit hidle hn
    let v : State := { u with host.handles := hs, host.freeList := fr }
    obtain ⟨hops, hpar⟩ := clearBlock_keeps v b i
    have hloss : u.fio.linkLosses = s.fio.linkLosses := congrArg FieldSt.linkLosses (silent_fio hu)
    have hops0 : v.rst.blockOps = s.rst.blockOps := congrArg RstSt.blockOps (silent_rst hu :)
    refine ⟨_, hrow, ?_, hpar.trans (silent_par hu :), fun hb => ?_, fun hb => ?_, fun hb => ?_, fun hb => ?_⟩
    · exact congrArg (fun l => l ++ [({ handle := n, block := b, index := i } : BlockOp)]) (hops.trans hops0)
    · subst hb
      exact ⟨rfl, rfl⟩
    · subst hb
      exact clearBlock_can v i
    · subst hb
      exact ⟨rfl, hloss⟩
    · subst hb
      exact clearBlock_port v i
  case blockDone => exact fun k o s ho => blockResetDone_frees ho

end Sys2Proof.Proofs
